-- ==== Sys2Proof/Word.lean ====
section
/-! DEFINITION. The words of the part: machine words, the numbers of its dies, wings, rooms, harts,
doors, porches and links (R4, R7, R8, R12), and the plainest bit-field arithmetic on naturals. -/
namespace Sys2Proof

abbrev Byte := BitVec 8
abbrev W16 := BitVec 16
abbrev W32 := BitVec 32
abbrev W64 := BitVec 64
abbrev W128 := BitVec 128

/-- R4: the 14-bit device ID, row[13:9] rack[8:5] tray[4:2] slot[1:0]. -/
abbrev DevId := BitVec 14
/-- R8: a wing number, row × 6 + column. -/
abbrev WingIx := Fin 24
/-- R8: a room of the device, wing × 32 + room. -/
abbrev RoomIx := Fin 768
/-- R12: a porch. -/
abbrev PorchIx := Fin 8
/-- R12: a Basot link. -/
abbrev LinkIx := Fin 48
/-- R7: door A is 0, door B is 1. -/
abbrev DoorIx := Fin 2
/-- R7: the index of a die. -/
abbrev DieIx := Fin 106

/-- A hart: its room and its number in the room (R85). -/
structure HartId where
  room : RoomIx
  hart : Fin 32
  deriving DecidableEq, Repr, Inhabited

/-- Bits [hi:lo] of a natural number. -/
def fld (x hi lo : Nat) : Nat := x / 2 ^ lo % 2 ^ (hi + 1 - lo)

/-- Bit n of a natural number. -/
def bitOf (x n : Nat) : Bool := x / 2 ^ n % 2 == 1

/-- A Boolean as a bit. -/
def b2n (b : Bool) : Nat := if b then 1 else 0

/-- x with bits [hi:lo] replaced by v. -/
def setFld (x hi lo v : Nat) : Nat :=
  x / 2 ^ (hi + 1) * 2 ^ (hi + 1) + v % 2 ^ (hi + 1 - lo) * 2 ^ lo + x % 2 ^ lo

/-- The n-bit number x as a signed integer. -/
def sgn (n x : Nat) : Int := if 2 * (x % 2 ^ n) < 2 ^ n then (x % 2 ^ n : Nat) else (x % 2 ^ n : Nat) - (2 : Int) ^ n

/-- An integer as an n-bit two's-complement number. -/
def unsg (n : Nat) (x : Int) : Nat := (x % (2 : Int) ^ n).toNat

/-- Rounding up division. -/
def ceilDiv (a b : Nat) : Nat := (a + b - 1) / b

end Sys2Proof
end

