-- ==== Sys2Proof/Syntax.lean ====
section
/-! DEFINITION. The commands of the part and their operands. -/
namespace Sys2Proof

/-- R85: an ordinary load or store: its register (destination of a load, source of a store), base register, offset,
bytes (1, 2, 4 or 8), zero extension, whether the register is a floating-point one, and whether the form is compressed. -/
structure MemForm where
  reg : Fin 32
  rs1 : Fin 32
  imm : BitVec 12
  bytes : Nat
  unsigned : Bool
  fp : Bool
  compressed : Bool
  deriving DecidableEq, Repr

/-- R181: the operations of the A extension. -/
inductive AmoOp where
  | swap | add | and | or | xor | min | max | minu | maxu
  deriving DecidableEq, Repr

/-- R112: an instruction of the A extension: its registers, its width and its ordering bits. -/
structure AtomicForm where
  rd : Fin 32
  rs1 : Fin 32
  rs2 : Fin 32
  double : Bool
  aq : Bool
  rl : Bool
  deriving DecidableEq, Repr

/-- R122: the three kinds of CSR instruction. -/
inductive CsrOp where
  | rw | rs | rc
  deriving DecidableEq, Repr

/-- R312: a response: its tag, generation and epoch, its status, its payload and the words of it that are poisoned. -/
structure Response where
  tag : Fin 4096
  gen : Fin 16
  epoch : W16
  status : Fin 16
  data : List Byte
  poison : Bool
  deriving DecidableEq, Repr

/-- R181: an atomic operation at a home, with its operands. -/
inductive HomeAtomic where
  | amo (op : AmoOp) (double : Bool) (operand : W64)
  | xaAdd (addend : W128)
  | fadd (x : W32)
  | fmax (x : W32)
  | fmin (x : W32)
  | cas (bytes : Nat) (compare new : W128)
  | leaseAcq (caller : W32) (epoch : W16) (x : W64)
  | leaseRel (caller : W32) (epoch : W16)
  | set (x : W64)
  | clr (x : W64)
  | add (x : W64)
  deriving DecidableEq, Repr

/-- R163: a request to an attic controller, as it arrives: its class, its view, its offset, its bytes to read (or its data). -/
structure AtticRequest where
  cls : Fin 8
  banked : Bool
  off : Nat
  len : Nat
  data : Option (List Byte)
  deriving DecidableEq, Repr

/-- R177: what the checkers find in a word of a granule: at the bank or at the floor, correctable or not. -/
inductive FoundKind where
  | storeCe | storeUe | stairCe | stairUe
  deriving DecidableEq, Repr

/-- R177: a fault found in word j of a granule (R173), with the lane it is attributed to for a stair error. -/
structure WordFault where
  word : Fin 32
  kind : FoundKind
  lane : Nat
  deriving DecidableEq, Repr

/-- R205: where an AVU finds a word in error: in its bank, corrected or uncorrectable, at a within-bank offset; or uncorrectable in its
accumulator file, by the entry, or in its activation buffer, by the word. -/
inductive AvuFault where
  | bankCe (w : Nat)
  | bankUe (w : Nat)
  | entryUe (n : Nat)
  | bufferUe (n : Nat)
  deriving DecidableEq, Repr

/-- R193, R205: the bank whose AVU runs a command, and the errors that it finds. -/
structure AvuRun where
  bank : Fin 48
  faults : List AvuFault
  deriving DecidableEq, Repr

/-- R23, R174: what the training of a stair finds: the lanes that failed, and the banks that are unusable. -/
structure StairResult where
  failed : List Nat
  banks : List Nat
  deriving DecidableEq, Repr

/-- R291, R293: the node whose next chunk a landing combines, by its first member, and whether an accumulator word that it used is
uncorrectable. -/
structure LandingNode where
  first : Fin 1048576
  ue : Bool
  deriving DecidableEq, Repr

/-- R315: an LCTL message: its ADDR and its payload. -/
structure LctlMessage where
  addr : BitVec 55
  payload : List Byte
  deriving DecidableEq, Repr

/-- R311: the fields of a request's header that its response bears: the source's device, die and island, its tag and generation, the
epoch it bears, whether it is a reissue, its class, its channel set and routing bank, and the die it is for. -/
structure ReqHeader where
  srcDev : DevId
  srcDie : Fin 128
  srcIsl : Fin 32
  tag : Fin 4096
  gen : Fin 16
  epoch : W16
  reissue : Bool
  cls : Fin 8
  vcs : Bool := false
  bank : Bool := false
  dstDie : Fin 128
  deriving DecidableEq, Repr

/-- R311, R313, R314: a request that reaches its home: its header, its address, its length in bytes for a read,
its payload with the map of poisoned words, and whether it wants no data back. -/
structure HomeRequest where
  hdr : ReqHeader
  noret : Bool
  addr : BitVec 55
  len : Nat
  payload : List Byte
  pmap : W32
  deriving DecidableEq, Repr

/-- R297, R311: the class of a request. -/
abbrev HomeRequest.cls (q : HomeRequest) : Fin 8 := q.hdr.cls

/-- R89, R313: a SPAWN message: target and spawner, the spawner's satp and privilege, and the start block. -/
structure SpawnMsg where
  target : W32
  spawner : W32
  satp : W64
  priv : Fin 4
  pc : W64
  sp : W64
  arg : W64
  deriving DecidableEq, Repr

/-- R526: who makes a register access: a hart at its own privilege level, a host through a door, or a processor of the part. -/
inductive Accessor where
  | hart (h : HartId)
  | host (d : DoorIx)
  | processor
  deriving DecidableEq, Repr

/-- R313, R358: a collective chunk: what its unit matches it by, its operation, the subtree it carries, its index and data, the words
of it that are poisoned, and the conversion flags (R43) of what it combines; or the news that another unit has ended the instance,
with its status and FAILED_MEMBER. -/
structure CollPacket where
  id : W32
  m0 : W32
  op : Fin 16
  level : Fin 32
  first : Fin 1048576
  chunk : Fin 4096
  payload : List Byte
  pmap : W32
  flags : Fin 256
  ended : Option (Byte × Fin 1048576) := none
  deriving DecidableEq, Repr

/-- R313: what a NOTICE says beside its subject: the subject's epoch, a reason, and the extension of a SLOW in µs. -/
structure NoticeBody where
  epoch : W16
  reason : W16
  us : Nat
  deriving DecidableEq, Repr

/-- R313: a NOTICE: its subject, and what else it says. -/
structure Notice where
  subject : W32
  body : NoticeBody
  deriving DecidableEq, Repr

/-- R284, R301: what a hall router does with a packet: one of this wing, or of a die attached to it, enters the hall here, for a
device, with its header and body; or the packet that a port serves next leaves by that port. -/
inductive HallStep where
  | inject (dev : DevId) (header : W128) (body : List Byte)
  | advance (port : Fin 5)
  deriving DecidableEq, Repr

/-- R317: a CAP record. -/
structure CapRecord where
  azMajor : Byte
  azMinor : Byte
  dieKind : Byte
  dieIndex : Byte
  maker : W16
  generation : Byte
  stepping : Byte
  opcMap : W32
  features : W32
  vcCredit : Byte
  module : Byte
  uniqueLo : W64
  deriving DecidableEq, Repr

/-- R17: the surviving side of a crossing: the module of a die, or the router's side of a room. -/
inductive Crossing where
  | module (die : DieIx) (m : Fin 16)
  | room (r : RoomIx)
  deriving DecidableEq, Repr

/-- R326: the header of a received flit, and whether its CRC is good. -/
structure FlitHead where
  seq : Fin 4096
  ack : Fin 4096
  backlog : W16
  crd0 : BitVec 12
  crd1 : BitVec 12
  crcOk : Bool
  deriving DecidableEq, Repr

/-- R327: a packet of the fabric: the fields of its prefix that are not in the packet itself, and the packet: its header and what
follows it. -/
structure FabPacket where
  dstDev : DevId
  srcDev : DevId
  fabTime : W16
  hops : Fin 16
  alt : Bool
  tbank : Bool
  header : W128
  body : List Byte
  deriving DecidableEq, Repr

/-- R332, R354: what a porch does: a packet of this device leaves it; the oldest packet that a link has received on a virtual
channel is routed; or a link's egress queue sends its next packet. -/
inductive PorchStep where
  | depart (p : FabPacket)
  | route (l : LinkIx) (vc : Fin 16)
  | egress (l : LinkIx)
  deriving DecidableEq, Repr

/-- R338: the fields of LINKCTL INIT and INIT_ACK. -/
structure LinkInit where
  device : DevId
  link : LinkIx
  version : Byte
  bootCount : W32
  epoch : W16
  deriving DecidableEq, Repr

/-- R366: the payload of a TIME flit, with the time of its arrival by this device's clock. -/
structure TimeSync where
  txTime : Nat
  peerTx : Nat
  peerRx : Nat
  root : DevId
  dist : Byte
  locked : Bool
  errNs : W16
  arrived : Nat
  deriving DecidableEq, Repr

/-- R404: the events that need a grant. -/
inductive GrantKind where
  | wake | stepDown | roomStart | warmStart | warmStop | clockRaise
  deriving DecidableEq, Repr

/-- R398: the islands whose regulators can run out of headroom. -/
inductive Island where
  | floor (r : RoomIx)
  | attic (r : RoomIx)
  | router (w : WingIx)
  | porch (p : PorchIx)
  deriving DecidableEq, Repr

/-- R407: the reference inputs. -/
inductive RefInput where
  | pcieA | pcieB | sdN | sdS
  deriving DecidableEq, Repr

/-- R395: the rails, in the order of its table. -/
inductive Rail where
  | vinCore | vddAttic | vppAttic | vddPorch | vddhPorch | vddDoor | vddIo | vaux
  deriving DecidableEq, Repr

/-- R413: the places of sensors. -/
inductive SensorPlace where
  | room (r : RoomIx)
  | attic (r : RoomIx)
  | wing (w : WingIx)
  | porch (p : PorchIx)
  | door (d : DoorIx)
  deriving DecidableEq, Repr

/-- R439: a block that is reset by itself. -/
inductive Block where
  | room (r : RoomIx)
  | wing (w : WingIx)
  | porch (p : PorchIx)
  deriving DecidableEq, Repr

/-- R413: a sensor of a place that does not work. -/
structure SensorId where
  place : SensorPlace
  index : Fin 4
  deriving DecidableEq, Repr

/-- R479: the causes of error records that no other command of the part posts, with the place and the detail. -/
structure PostedError where
  cause : Nat
  die : DieIx
  room : Option (Fin 32)
  info : Nat
  deriving DecidableEq, Repr

/-- R477: the memories with a remap table: strongroom, study and hearth of a door, a wing controller, a link's replay buffer,
a wing's routing table. -/
inductive RemapMemory where
  | strongroom (d : DoorIx)
  | study (d : DoorIx)
  | hearth (d : DoorIx)
  | wingController (w : WingIx)
  | porchReplay (l : LinkIx)
  | routingTable (w : WingIx)
  deriving DecidableEq, Repr

/-- R372, R373: a host access through a BAR: its door, its offset, its bytes to read, or its data with EP. -/
structure BarAccess where
  door : DoorIx
  off : Nat
  len : Nat
  data : Option (List Byte)
  ep : Bool
  deriving DecidableEq, Repr

/-- R380: what a fetch from host memory finds: it may end in error or return poison. -/
inductive FetchResult where
  | ok | error
  deriving DecidableEq, Repr

/-- R468: a word of a granule that a scrub reads: correctable, or uncorrectable with a syndrome other than 0xFF. -/
structure ScrubWord where
  word : Fin 32
  uncorrectable : Bool
  deriving DecidableEq, Repr

/-- R456: a PCIe configuration request to a door's function. -/
inductive ConfigRequest where
  | readHeader (dword : Fin 16)
  | writeBar (bar : Fin 6) (value : W32)
  | writeCommand (value : W16)
  | resizeBar (log2 : Nat)
  | powerState (d3hot : Bool)
  deriving DecidableEq, Repr

/-- R512, R513: the registers of a hart that the debug module reaches. -/
inductive DebugReg where
  | x (n : Fin 32)
  | f (n : Fin 32)
  | csr (n : BitVec 12)
  deriving DecidableEq, Repr

/-- R512: a DMI access that the debug module acts on, of those that no other command stands for. -/
inductive DmiAccess where
  | activate (on : Bool)
  | selectHart (hartsel : Fin 1048576)
  | writeData (value : W64)
  | readData
  | readStatus
  | writeProgbuf (n : Fin 2) (value : W32)
  | readProgbuf (n : Fin 2)
  | writeSbAddress (value : W64)
  | clearErrors
  deriving DecidableEq, Repr

/-- R393: the type 2 requests of PLDM: a numeric sensor's reading, the power cap effecter, the cooling effecters (R425). -/
inductive PldmPlatform where
  | readSensor (place : SensorPlace) (index : Fin 4)
  | readPower
  | setPowerCap (watts : Nat)
  | setCooling (flow inlet : Byte)
  deriving DecidableEq, Repr

/-- R393, R489, R490: the steps of PLDM type 5 that reach the study's slots. -/
inductive PldmUpdate where
  | stage (component : Nat) (image : List Byte)
  | activate (component : Nat)
  deriving DecidableEq, Repr

/-- The commands of the part, one for each row of the table of operations and events. -/
inductive Instr where
  -- ordinary instructions and events of a hart
  /-- R104: An ordinary hart load is translated and performed at the home of its target, or at an I/O block -/
  | load (h : HartId) (m : MemForm)
  /-- R104: An ordinary hart store is translated and performed at its home; it is acknowledged after any cached copy is -/
  | store (h : HartId) (m : MemForm)
  /-- R112: An A-extension AMO is performed once, indivisibly, at the home of its target -/
  | amo (h : HartId) (op : AmoOp) (a : AtomicForm)
  /-- R112: Load-reserved makes a reservation on a granule of the hart's own room -/
  | lr (h : HartId) (a : AtomicForm)
  /-- R112: Store-conditional succeeds only while the matching reservation is held, and it clears the reservation -/
  | sc (h : HartId) (a : AtomicForm)
  /-- R85: FENCE holds the hart until its earlier accesses are performed, counting stores that ended in error as done -/
  | fence (h : HartId) (pred succ : BitVec 4)
  /-- R102: FENCE.I invalidates the whole instruction cache of the room -/
  | fenceI (h : HartId)
  /-- R100: SFENCE.VMA invalidates matching entries in every TLB and in the walk cache of the room -/
  | sfenceVma (h : HartId) (rs1 rs2 : Fin 32)
  /-- R86: WFI puts the hart in WAITING until an interrupt is pending -/
  | wfi (h : HartId)
  /-- R94: A write of satp takes MODE 0 or 14 and leaves satp unchanged for any other mode -/
  | satpWrite (h : HartId) (value : W64)
  /-- R122: A CSR instruction on SZ_GSTATUS returns the old value, may clear STORE_ERR and writes LAST_CODE -/
  | szGstatusCsrAccess (h : HartId) (op : CsrOp) (imm : Bool) (rd src : Fin 32)
  /-- R88: Global time reaches ROOM_MTIMECMP of a hart, and its machine timer interrupt becomes pending -/
  | machineTimerExpiry (h : HartId)
  /-- R121: An enabled, routed room interrupt source asserts MEIP or SEIP and the hart takes the trap -/
  | interruptTaken (h : HartId)
  -- extension instructions
  /-- R135: sz.pass reads a PASS or DUMMY descriptor, queues it on the array and returns a ticket -/
  | szPass (h : HartId) (w : W32)
  /-- R135: sz.export reads an EXPORT or IMPORT descriptor, queues it on the array and returns a ticket -/
  | szExport (h : HartId) (w : W32)
  /-- R137: sz.stage checks slot, length and source, and queues a stage with the satp captured at retirement -/
  | szStage (h : HartId) (w : W32)
  /-- R138: sz.mode QUERY returns the array's release-pending, owned and owner fields -/
  | szModeQuery (h : HartId) (w : W32)
  /-- R138: sz.mode CLAIM takes ownership of the array if it is unowned and no release is pending -/
  | szModeClaim (h : HartId) (w : W32)
  /-- R138: sz.mode RELEASE schedules release of array ownership after the caller's queued entries -/
  | szModeRelease (h : HartId) (w : W32)
  /-- R136: sz.dummy queues a DUMMY entry of N cycles without reading a descriptor -/
  | szDummy (h : HartId) (w : W32)
  /-- R140: Global load of 1 byte, sign-extended, with the class named in FUNCT3 -/
  | szGlb (h : HartId) (w : W32)
  /-- R140: Global load of 2 bytes, sign-extended, with the named class -/
  | szGlh (h : HartId) (w : W32)
  /-- R140: Global load of 4 bytes, sign-extended, with the named class -/
  | szGlw (h : HartId) (w : W32)
  /-- R140: Global load of 8 bytes with the named class -/
  | szGld (h : HartId) (w : W32)
  /-- R140: Global load of 16 bytes, single-copy atomic, into a register pair -/
  | szGlq (h : HartId) (w : W32)
  /-- R140: Global load of 1 byte, zero-extended -/
  | szGlbu (h : HartId) (w : W32)
  /-- R140: Global load of 2 bytes, zero-extended -/
  | szGlhu (h : HartId) (w : W32)
  /-- R140: Global load of 4 bytes, zero-extended -/
  | szGlwu (h : HartId) (w : W32)
  /-- R140: Global store of 1 byte with the named class -/
  | szGsb (h : HartId) (w : W32)
  /-- R140: Global store of 2 bytes with the named class -/
  | szGsh (h : HartId) (w : W32)
  /-- R140: Global store of 4 bytes with the named class -/
  | szGsw (h : HartId) (w : W32)
  /-- R140: Global store of 8 bytes with the named class -/
  | szGsd (h : HartId) (w : W32)
  /-- R140: Global store of 16 bytes from a register pair -/
  | szGsq (h : HartId) (w : W32)
  /-- R141: sz.xaadd adds an XA partial at the home by R41 and returns the old partial, or sends a no-return XA-ADD when -/
  | szXaadd (h : HartId) (w : W32)
  /-- R141: FP32 add atomic at the home, returning the old value -/
  | szAmofaddW (h : HartId) (w : W32)
  /-- R141: FP32 max atomic at the home, returning the old value -/
  | szAmofmaxW (h : HartId) (w : W32)
  /-- R141: FP32 min atomic at the home, returning the old value -/
  | szAmofminW (h : HartId) (w : W32)
  /-- R141: 4-byte compare and swap at the home -/
  | szAmocasW (h : HartId) (w : W32)
  /-- R141: 8-byte compare and swap at the home -/
  | szAmocasD (h : HartId) (w : W32)
  /-- R141: 16-byte compare and swap at the home, on register pairs -/
  | szAmocasQ (h : HartId) (w : W32)
  /-- R142: Lease acquire with operand X, with acquire ordering -/
  | szLacq (h : HartId) (w : W32)
  /-- R142: Lease release, with release ordering -/
  | szLrel (h : HartId) (w : W32)
  /-- R143: sz.vfence checks its range and performs the view fence of R111 -/
  | szVfence (h : HartId) (w : W32)
  /-- R111: When the room's earlier work has been performed, the view fence invalidates the range's data-cache lines and -/
  | viewFenceComplete (h : HartId)
  /-- R144: sz.avu reads a command and places it on the AVU queue, returning a ticket or a queue-full flag -/
  | szAvu (h : HartId) (w : W32)
  /-- R146: sz.dwq translates a program address and queues it on a dumbwaiter channel, returning a ticket -/
  | szDwq (h : HartId) (w : W32)
  /-- R147: Posted SET of bits in a pantry word, with release ordering -/
  | szSignalSet (h : HartId) (w : W32)
  /-- R147: Posted CLR of bits in a pantry word, with release ordering -/
  | szSignalClr (h : HartId) (w : W32)
  /-- R147: Posted ADD to a pantry word, with release ordering -/
  | szSignalAdd (h : HartId) (w : W32)
  /-- R148: sz.wait tests a watched word or count and retires, or enters WAITING -/
  | szWait (h : HartId) (w : W32)
  /-- R148: A write makes the watched word meet the condition, and the waiting sz.wait retires with that value -/
  | szWaitMet (h : HartId)
  /-- R148: WAIT_TMO expires and sz.wait retires with the current value -/
  | szWaitTimeout (h : HartId)
  /-- R149: sz.rbar arrives at a room barrier, opening an instance or releasing all participants at the count -/
  | szRbar (h : HartId) (w : W32)
  /-- R149: WAIT_TMO expires, and the participant withdraws and retires with 1 -/
  | szRbarTimeout (h : HartId)
  /-- R153: sz.coll checks a collective descriptor and accepts it into one of 16 slots, or refuses it -/
  | szColl (h : HartId) (w : W32)
  /-- R154: sz.gbar enters a global barrier, or resumes a pending one with the same COLL_ID -/
  | szGbar (h : HartId) (w : W32)
  /-- R154: WAIT_TMO expires and sz.gbar retires with TIMEOUT, leaving the arrival in the fabric -/
  | szGbarTimeout (h : HartId)
  /-- R155: sz.spawn sends a SPAWN to a target hart and blocks until the target starts or refuses -/
  | szSpawn (h : HartId) (w : W32)
  /-- R156: sz.join waits for a child's exit value and returns a status and the value -/
  | szJoin (h : HartId) (w : W32)
  /-- R157: sz.exit ends the thread, publishes the exit value, releases held items and makes the hart IDLE -/
  | szExit (h : HartId) (w : W32)
  -- requests, responses and tags
  /-- R108: A request's class timeout expires; loads trap precisely and stores report imprecisely -/
  | requestTimeout (r : RoomIx) (tag : Fin 4096)
  /-- R343: A response is accepted only if its tag is outstanding and its GEN and EPOCH match; otherwise it is discarded -/
  | responseReceive (island : Fin 792) (p : Response)
  /-- R342: 128 µs after retirement, a reissued or timed-out tag becomes free again -/
  | tagHoldExpiry (island : Fin 792) (tag : Fin 4096)
  -- the matrix array
  /-- R58: The head stage starts once its slot is FREE, and the slot becomes FILLING -/
  | stageStart (r : RoomIx)
  /-- R58: The last byte of a stage lands and the slot becomes VALID, or ERROR on a fault -/
  | stageComplete (r : RoomIx)
  /-- R58: A stage waiting on a non-FREE slot for ARRAY_WAIT_TIMEOUT is dropped and STAGE_FAULT is set -/
  | stageTimeout (r : RoomIx)
  /-- R63: A PASS at the head of the queue issues its first column once its weights, tile and entries are ready -/
  | arrayPassIssue (r : RoomIx)
  /-- R81: All products of a pass land (and its auto-export ends), so it completes in queue order -/
  | arrayPassComplete (r : RoomIx)
  /-- R65: A pass whose slot is not VALID within ARRAY_WAIT_TIMEOUT completes with SLOT_TIMEOUT without running -/
  | arraySlotTimeout (r : RoomIx)
  /-- R64: An EXPORT starts once every earlier product to its source entries has landed -/
  | arrayExportStart (r : RoomIx)
  /-- R75: An EXPORT finishes converting its entries and completes in queue order -/
  | arrayExportComplete (r : RoomIx)
  /-- R64: An IMPORT starts once earlier products to its destination entries have landed -/
  | arrayImportStart (r : RoomIx)
  /-- R75: An IMPORT finishes reading partials into its entries and completes -/
  | arrayImportComplete (r : RoomIx)
  /-- R70: A DUMMY entry starts its N cycles of dummy operations, after a wake ramp if the array was idle -/
  | arrayDummyStart (r : RoomIx)
  /-- R70: A DUMMY entry finishes its N cycles and completes -/
  | arrayDummyComplete (r : RoomIx)
  /-- R68: 256 cycles without a ready pass, together with a fall grant, start the array's step-down -/
  | arrayStepDownStart (r : RoomIx)
  /-- R68: The step-down reaches 0% activity and the array is idle -/
  | arrayIdle (r : RoomIx)
  /-- R69: The hearth's wake grant arrives, and the array ramps its activity from 25% to 100% -/
  | arrayWakeGrant (r : RoomIx)
  /-- R80: ARRAY_CTRL.FLUSH aborts running and queued entries, drops stages and frees every slot -/
  | arrayFlush (r : RoomIx)
  /-- R84: ARRAY_CTRL.FORCE_RELEASE flushes and leaves the array unowned at once -/
  | arrayForceRelease (r : RoomIx)
  /-- R83: A write to ARRAY_SB_CFG takes effect only when the array is quiet and the configuration is valid, and -/
  | arraySbCfgWrite (r : RoomIx) (writer : Option (Fin 32)) (value : W64)
  -- attic vector units
  /-- R192: The head AVU command is checked and translated, and it is dispatched once every named AVU has a free buffer -/
  | avuDispatch (r : RoomIx)
  /-- R223: An ATTN command, no longer held by tree commands, reads its batch list and sequence entries and translates -/
  | attnDispatch (r : RoomIx)
  /-- R199: An AVU runs a MATVEC over its bank's weights into its XA entries once its broadcast and set-up are done -/
  | avuMatvec (r : RoomIx) (run : AvuRun)
  /-- R198: An AVU runs an EXPORT of its entries to the pantry -/
  | avuExport (r : RoomIx) (run : AvuRun)
  /-- R201: An AVU runs an element-wise VSCAN state update in FP32 -/
  | avuVscan (r : RoomIx) (run : AvuRun)
  /-- R226: An AVU forms the log-sum-exp partial of a row over one block -/
  | avuAttnBlock (r : RoomIx) (run : AvuRun)
  /-- R229: The room's merge unit receives block records from an AVU and merges sibling subtrees by lse_step -/
  | mergeUnitRecord (r : RoomIx) (entry row : Fin 256)
  /-- R203: Once every named AVU has finished, a command completes in queue order, writes its record and increments -/
  | avuCommandComplete (r : RoomIx)
  /-- R206: AVU_CTRL.FLUSH aborts running and queued AVU commands -/
  | avuFlush (r : RoomIx)
  -- the attic and its stair
  /-- R163: A request enters the attic controller queue, split into granule requests, under the regulation of R298 -/
  | atticRequestEnter (r : RoomIx) (q : AtticRequest)
  /-- R164: A queued request is performed at its bank beats in the order that overlap requires -/
  | atticRequestPerform (r : RoomIx) (id : Nat) (faults : List WordFault)
  /-- R178: A word the floor finds uncorrectable is read again once, and then delivered or poisoned -/
  | stairReadRetry (r : RoomIx) (id : Nat) (word : Fin 32) (correct : Bool)
  /-- R180: An atomic unit reads, computes and writes its target while holding the granule -/
  | atticAtomic (r : RoomIx) (banked : Bool) (off : Nat) (op : HomeAtomic)
  /-- R170: A bank's refresh falls due, and it is performed or postponed up to four times -/
  | atticRefresh (r : RoomIx) (bank : Fin 48) (postpone : Bool)
  /-- R168: Every 10 µs the attic sensors are sampled and the room's band is decided -/
  | atticTempSample (r : RoomIx) (l0 l1 l2 : Int)
  /-- R171: No stair beat is in flight after a band change, so relock at the new rate and margin begins -/
  | stairRelockHoldEnd (r : RoomIx)
  /-- R171: Relock completes, and stair beats resume at the new rate -/
  | stairRelockEnd (r : RoomIx)
  /-- R175: A lane reaches LANE_CE_LIMIT or a retry fails, and its group is held for recalibration -/
  | stairRecalStart (r : RoomIx) (lane : Nat)
  /-- R175: The group's retrain ends, with a spare in use, half width or the room disabled -/
  | stairRecalRetrainEnd (r : RoomIx) (failed : List Nat)
  /-- R175: After the floor plan is published, stair traffic resumes -/
  | stairRecalResume (r : RoomIx)
  /-- R174: A room's stair trains with PRBS at two offsets, spares failed lanes and sets the room's width or disables it; banks that
  fail are unusable (R23, R159) -/
  | stairTraining (r : RoomIx) (found : StairResult)
  /-- R172: The attic reaches 110 °C; stair and AVU access stop and HOT_LOSS is set -/
  | atticHardStop (r : RoomIx)
  -- crossings
  /-- R17: One side of a crossing resets or loses power, so the crossing discards partial flits, zeroes credits and -/
  | islandDown (c : Crossing)
  -- Azlys requests and messages
  /-- R313: A read request is performed at its home and answered with data -/
  | reqRd (q : HomeRequest)
  /-- R313: A write request is performed at its home and acknowledged -/
  | reqWr (q : HomeRequest)
  /-- R313: Atomic swap request at the home -/
  | reqSwap (q : HomeRequest)
  /-- R313: Atomic integer add request at the home -/
  | reqAdd (q : HomeRequest)
  /-- R313: Atomic AND request at the home -/
  | reqAnd (q : HomeRequest)
  /-- R313: Atomic OR request at the home -/
  | reqOr (q : HomeRequest)
  /-- R313: Atomic XOR request at the home -/
  | reqXor (q : HomeRequest)
  /-- R313: Atomic signed minimum request at the home -/
  | reqMin (q : HomeRequest)
  /-- R313: Atomic signed maximum request at the home -/
  | reqMax (q : HomeRequest)
  /-- R313: Atomic unsigned minimum request at the home -/
  | reqMinu (q : HomeRequest)
  /-- R313: Atomic unsigned maximum request at the home -/
  | reqMaxu (q : HomeRequest)
  /-- R181: XA-ADD request combines the stored partial with the addend by R41 -/
  | reqXaAdd (q : HomeRequest)
  /-- R181: FP32 add request at the home, which depends on arrival order -/
  | reqFadd (q : HomeRequest)
  /-- R182: FP32 max request at the home -/
  | reqFmax (q : HomeRequest)
  /-- R182: FP32 min request at the home -/
  | reqFmin (q : HomeRequest)
  /-- R181: Compare-and-swap request at the home -/
  | reqCas (q : HomeRequest)
  /-- R115: Lease acquire or break is performed atomically at the home -/
  | reqLeaseAcq (q : HomeRequest)
  /-- R116: Lease release is performed at the home if the caller holds the lease -/
  | reqLeaseRel (q : HomeRequest)
  /-- R147: SET request on a pantry word at the home -/
  | reqSet (q : HomeRequest)
  /-- R147: CLR request on a pantry word at the home -/
  | reqClr (q : HomeRequest)
  /-- R147: ADD request (OPC 0x1A) on a pantry word at the home -/
  | reqSignalAdd (q : HomeRequest)
  /-- R89: A SPAWN message reaches the target room and starts an IDLE hart or returns BUSY, ABSENT, DENIED or FAULT -/
  | msgSpawn (q : ReqHeader) (m : SpawnMsg)
  /-- R90: A child's exit value or ABSENT status reaches the spawner's room, where it is held for join -/
  | msgExitNotice (q : ReqHeader) (child parent : W32) (status : Nat) (value : W64)
  /-- R294: A collective chunk arrives at its combining unit and is answered with a chunk credit -/
  | msgColl (q : ReqHeader) (c : CollPacket)
  /-- R364: A SLOW notice restarts timers of requests and collectives involving the room, up to 5 ms from issue -/
  | noticeSlow (q : ReqHeader) (subject : W32) (b : NoticeBody)
  /-- R364: An ABSENT notice for a room or device ends involved requests, collectives and joins with ABSENT -/
  | noticeAbsent (q : ReqHeader) (n : Notice)
  /-- R364: A RESET notice ends work begun before the reset of a room, or clears a device's absence -/
  | noticeReset (q : ReqHeader) (n : Notice)
  -- the hall and its landings
  /-- R284: A router looks up the packet's destination in the bank it carries and forwards or discards it -/
  | hallPacketRoute (w : WingIx) (step : HallStep)
  /-- R286: A write of SWITCH makes the router inject with the other bank, and RT_EPOCH increments -/
  | hallRtSwitch (who : Accessor) (w : WingIx)
  /-- R304: A routing entry is written only in the inactive, drained bank -/
  | hallRtEntryWrite (who : Accessor) (w : WingIx) (bank : Fin 2) (entry : Fin 40) (value : W64)
  /-- R288: The last module of an edge stops, and both routers mark the port down and report ISLAND_DOWN -/
  | edgeDetect (w : WingIx) (port : Fin 4)
  /-- R288: The study writes up*/down* VC1 routes into the inactive banks and switches every router -/
  | edgeRebuild
  /-- R289: An on-device request without response 20 µs after issue is reissued once on the current route -/
  | hallReissue (island : Fin 792) (tag : Fin 4096)
  /-- R291: A landing combines a chunk into its context and forwards completed subtrees toward the root -/
  | landingCombine (w : WingIx) (id m0 : W32) (level : Fin 32) (node : LandingNode)
  /-- R296: A no-return XA-ADD reaching a landing is held or merged into a held atomic of the same address -/
  | combinedXaaddArrival (w : WingIx) (q : HomeRequest)
  /-- R296: The hold window ends and the landing forwards one merged atomic with its own tag -/
  | combineWinExpiry (w : WingIx) (addr : BitVec 55) (cls : Fin 8)
  -- regulation
  /-- R300: A 1 µs byte-count window ends, and capped classes are uncapped -/
  | regWindowEnd
  /-- R303: REG_CTRL.CLEAR clears every latency history and byte count of the block -/
  | regCtrlClear (who : Accessor) (queue : Fin 936)
  /-- R302: A class configuration write is ignored if shares would exceed 60, setting SHARE_REJ -/
  | regClassCfgWrite (who : Accessor) (queue : Fin 936) (cls : Fin 8) (value : W64)
  -- die identity and die-to-die modules
  /-- R319: The always-on fuse reader reads and CRC-checks a die's identity block -/
  | fuseLoad (die : DieIx)
  /-- R310: The module sideband comes up and exchanges DIE_INDEX and repair records, checking identity -/
  | moduleSideband (die : DieIx) (m : Fin 16)
  /-- R310: The recorded repair is applied and the mainband trains at 32 GT/s -/
  | moduleMainbandTrain (die : DieIx) (m : Fin 16)
  /-- R310: Streaming mode starts with CRC and retry -/
  | moduleAdapterInit (die : DieIx) (m : Fin 16)
  /-- R318: A CAP record is received and checked for version, identity and features -/
  | lctlCap (die : DieIx) (m : Fin 16) (msg : LctlMessage)
  /-- R315: A CRD message returns credits on up to four virtual channels -/
  | lctlCrd (die : DieIx) (m : Fin 16) (addr : BitVec 55)
  /-- R316: Every virtual channel receives its initial credits and the module is UP -/
  | moduleCreditInit (die : DieIx) (m : Fin 16)
  /-- R310: A failed training phase retries from the sideband, and after three tries the module stays down -/
  | moduleTrainFail (die : DieIx) (m : Fin 16)
  /-- R308: Retries reach RETRY_LIMIT in 1 ms or BURST_LIMIT for one flit, and the module goes down -/
  | moduleErrorDown (die : DieIx) (m : Fin 16) (retries burst : Nat)
  -- porches and Basot links
  /-- R354: A porch looks up a packet in the fabric table and forwards, hands on or delivers it -/
  | porchPacketRoute (step : PorchStep)
  /-- R329: A DATA flit with good CRC is accepted, discarded with NAK, discarded as duplicate, or takes the link down -/
  | flitData (l : LinkIx) (f : FlitHead) (packets : List FabPacket) (more : Bool)
  /-- R326: An IDLE flit carries ACK, BACKLOG and credit returns -/
  | flitIdle (l : LinkIx) (f : FlitHead)
  /-- R330: On a NAK the sender replays every flit after ACK in order -/
  | flitNak (l : LinkIx) (f : FlitHead)
  /-- R335: A received HEARTBEAT is checked against the partner learnt at initialisation -/
  | flitHeartbeat (l : LinkIx) (f : FlitHead) (body : LinkInit) (state : Fin 4)
  /-- R366: A TIME flit is timestamped, and a child computes its offset and slews toward its parent -/
  | flitTime (l : LinkIx) (f : FlitHead) (t : TimeSync)
  /-- R338: A LINKCTL INIT restarts sequence numbers and credits and records the partner -/
  | lctlInit (l : LinkIx) (f : FlitHead) (body : LinkInit)
  /-- R338: A LINKCTL INIT_ACK completes initialisation, and the link becomes READY or down with WIRING -/
  | lctlInitAck (l : LinkIx) (f : FlitHead) (body : LinkInit)
  /-- R339: A LINKCTL DRAIN carries a recalibration request to the partner -/
  | lctlDrain (l : LinkIx) (f : FlitHead) (reason : Byte)
  /-- R340: A LINKCTL DRAIN_DONE ends the drain and retraining begins -/
  | lctlDrainDone (l : LinkIx) (f : FlitHead)
  /-- R335: A LINKCTL GOODBYE takes the link down and marks the partner absent -/
  | lctlGoodbye (l : LinkIx) (f : FlitHead) (cause : W16)
  /-- R330: 1 µs without the expected flit causes another NAK -/
  | nakRepeatTimer (l : LinkIx)
  /-- R330: The oldest unacknowledged flit waits REPLAY_TMO, and the sender replays -/
  | replayTimeout (l : LinkIx)
  /-- R334: At least every 1 µs the link sends a HEARTBEAT -/
  | heartbeatSend (l : LinkIx)
  /-- R335: 4 µs without a good heartbeat takes the link down with SILENT -/
  | heartbeatSilent (l : LinkIx)
  /-- R335: Loss of signal, alignment or FEC lock takes the link down with SIGNAL -/
  | linkSignalLoss (l : LinkIx)
  /-- R337: A link trains signal, PMD, PCS lock, init and confirm, with up to 3 tries -/
  | linkTraining (l : LinkIx) (ok : Bool)
  /-- R341: Every 1 s a DOWN link with ENABLE = 1 is retrained from Signal -/
  | linkRetrainTimer (l : LinkIx)
  /-- R338: LINK_CTRL.ADMIT moves a READY link to UP -/
  | linkAdmit (who : Accessor) (l : LinkIx)
  /-- R339: LINK_CTRL.RECAL asks for a link recalibration -/
  | linkRecalCtrl (who : Accessor) (l : LinkIx)
  /-- R339: The FEC counts cross the threshold, or an uncorrectable codeword is counted, so the porch asks the study for -/
  | linkRecalRequest (l : LinkIx) (corrected uncorrected : Nat)
  /-- R340: With grants at both ends the link drains to alternates -/
  | linkRecalGrant (l : LinkIx)
  /-- R340: PMD adaptation and PCS lock complete, and INIT is exchanged with LINK_EPOCH + 1 -/
  | linkRecalRetrainEnd (l : LinkIx) (ok : Bool)
  /-- R340: The port is up for routing again and RECAL_DONE is set -/
  | linkRecalResume (l : LinkIx)
  /-- R350: A LINK_CFG write sets limits; ENABLE = 0 takes the link down with DISABLED -/
  | linkCfgWrite (who : Accessor) (l : LinkIx) (value : W64)
  -- the fabric
  /-- R345: An off-device request without response after 20 µs is reissued once via an alternate link -/
  | fabricReissue (island : Fin 792) (tag : Fin 4096)
  /-- R355: After a link goes down or returns, the study rewrites the inactive bank and switches -/
  | fabTableRebuild
  /-- R356: FAB_CTRL.SWITCH makes every table copy switch banks, and FAB_EPOCH increments -/
  | fabCtrlSwitch (who : Accessor)
  /-- R364: A write of a device ID clears its absent bit and floods RESET -/
  | fabAbsentClr (who : Accessor) (d : DevId)
  /-- R365: After a partner link goes down, an RD of the partner's FAB_STATUS is sent by ALT1 and then ALT2 -/
  | absentProbe (d : DevId)
  /-- R365: The probe is unanswered in 10 µs, so the device decides the partner absent and floods ABSENT -/
  | absentProbeTimeout (d : DevId)
  /-- R366: Every 10 µs each up link sends a TIME flit -/
  | timeFlitSend (l : LinkIx)
  /-- R366: 100 µs without a TIME flit from the parent clears LOCKED -/
  | timeParentLoss
  -- collectives
  /-- R359: An all-reduce instance completes at a member with the reduction delivered -/
  | collAllReduce (r : RoomIx) (slot : Fin 16)
  /-- R359: A reduce-scatter completes at a member with its slice of the reduction -/
  | collReduceScatter (r : RoomIx) (slot : Fin 16)
  /-- R359: An all-gather completes with every member's block delivered -/
  | collAllGather (r : RoomIx) (slot : Fin 16)
  /-- R359: An all-to-all completes with each member's counted elements delivered -/
  | collAllToAll (r : RoomIx) (slot : Fin 16)
  /-- R359: A broadcast completes with member 0's source delivered -/
  | collBroadcast (r : RoomIx) (slot : Fin 16)
  /-- R362: A global barrier releases all members after every arrival is counted -/
  | collBarrier (r : RoomIx) (slot : Fin 16)
  /-- R359: An LSE_MERGE completes at member 0 with records merged in the tree of R44 -/
  | collLseMerge (r : RoomIx) (slot : Fin 16)
  /-- R251: A TOPK_MERGE completes at member 0 with the first k of the union -/
  | collTopkMerge (r : RoomIx) (slot : Fin 16)
  /-- R361: No message of the collective reaches a member for its class timeout, so the collective ends with TIMEOUT -/
  | collectiveTimeout (r : RoomIx) (slot : Fin 16)
  /-- R358: 10 ms after an instance ended in error, its kept end is discarded -/
  | collKeptEndExpiry (id m0 : W32)
  -- host doors
  /-- R379: A doorbell write of SQ_TAIL sets the ring's TAIL, or stops the ring with BAD_TAIL -/
  | sqTail (d : DoorIx) (ring : Fin 1024) (value : W32)
  /-- R379: A doorbell write of CQ_HEAD consumes completions, or is ignored with BAD_HEAD -/
  | cqHead (d : DoorIx) (ring : Fin 1024) (value : W32)
  /-- R380: The door fetches a descriptor from a RUNNING ring in weighted turn, up to 4,096 outstanding -/
  | descriptorFetch (d : DoorIx) (host : FetchResult)
  /-- R381: NOP completes with OK -/
  | descNop (id : Nat)
  /-- R383: JOB reads the room list and spawns threads on the listed harts -/
  | descJob (id : Nat) (list : FetchResult)
  /-- R383: When every started thread has exited or is ABSENT, the job completes with OK or PARTIAL -/
  | jobComplete (id : Nat)
  /-- R385: DMA runs a door dumbwaiter program on the first free channel -/
  | descDma (id : Nat)
  /-- R386: MGMT passes an MCODE command to the active study on a privileged ring -/
  | descMgmt (id : Nat)
  /-- R382: The door writes a 32-byte completion entry with its phase bit once CQ space is free -/
  | completionWrite (c : Fin 1024)
  /-- R382: COAL_TIME after the first pending entry, the CQ's vector is sent -/
  | msiXCoalesceTimer (c : Fin 1024)
  /-- R387: An event is written to the event CQ, held, or dropped and counted in EVENT_LOST -/
  | eventWrite (d : DoorIx)
  /-- R387: A DOOR_CTRL write sets the event CQ, and held events are then written followed by EVENT_LOST -/
  | doorCtrlWrite (who : Accessor) (d : DoorIx) (value : W64)
  /-- R376: An SQ_CFG write enables, reconfigures or stops a ring, subject to its state -/
  | sqCfgWrite (who : Accessor) (ring : Fin 1024) (value : W64)
  /-- R377: A CQ_CFG write enables or configures a completion ring -/
  | cqCfgWrite (who : Accessor) (ring : Fin 1024) (value : W64)
  /-- R372: A host BAR0 access reaches device MMIO with machine rights, or fails with UR or a dropped write -/
  | bar0Access (a : BarAccess)
  /-- R373: A host BAR2 access is translated through an aperture entry to a physical address -/
  | bar2Access (a : BarAccess)
  /-- R371: PERST_N resets only the door's PCIe controller and configuration space -/
  | perstN (d : DoorIx)
  /-- R388: Data Link Down, PERST_N or D3hot starts the HOST_LOST_TMO timer -/
  | hostLinkLoss (d : DoorIx)
  /-- R388: When HOST_LOST_TMO expires, the door orphans its rings, holds completions and sends HOST_LOST -/
  | hostLost (d : DoorIx)
  /-- R388: DOOR_CMD.RELEASE declares the host lost at once -/
  | doorRelease (who : Accessor) (d : DoorIx)
  /-- R389: A write of DOOR_ADOPT adopts an orphaned or disabled ring and writes its held completions to the new CQ -/
  | doorAdopt (who : Accessor) (d : DoorIx) (ring : Fin 1024)
  /-- R391: A door die goes down, losing its rings, and the other door sends DOOR_DOWN -/
  | doorDown (d : DoorIx)
  -- live service
  /-- R484: ROOM_DRAIN marks the room DRAINED and waits for it to empty -/
  | roomDrain (id : Nat)
  /-- R484: The draining room is empty and MGMT_DONE carries OK -/
  | drainEmpty (r : RoomIx)
  /-- R484: DRAIN_TMO expires, so the room is reset and left DRAINED with PARTIAL -/
  | drainForce (r : RoomIx)
  /-- R486: ROOM_READMIT resets the room with a new epoch and begins readmission -/
  | roomReadmit (id : Nat)
  /-- R486: Logged repairs are applied and the stair is trained -/
  | readmitTrain (r : RoomIx) (found : StairResult)
  /-- R486: The room boot code reports its result -/
  | readmitBoot (r : RoomIx)
  /-- R486: Settings and clock target are restored under a start grant -/
  | readmitResync (r : RoomIx)
  /-- R486: The floor plan shows the room in service with its new epoch -/
  | readmitPublish (r : RoomIx)
  /-- R487: WING_DRAIN marks the wing drained and drains every room -/
  | wingDrain (id : Nat)
  /-- R487: WING_READMIT resets the wing, retrains it, reloads firmware and readmits its rooms -/
  | wingReadmit (id : Nat)
  /-- R441: MGMT ROOM_RESET drains, resets and boots one room, leaving it DRAINED or DISABLED_BOOT -/
  | roomReset (id : Nat)
  /-- R475: PAGE_RETIRE adds a 64 KiB page to the retired-page table -/
  | pageRetire (id : Nat)
  /-- R476: BANK_RETIRE waits for AVU commands on the bank and clears its BANK_MAP bit -/
  | bankRetire (id : Nat)
  /-- R468: SCRUB reads every word of a range as TC7 and corrects, poisons or counts each word -/
  | mgmtScrub (id : Nat)
  /-- R468: A scrub read returns a granule, whose words are checked and written back as needed -/
  | scrubGranule (id : Nat) (words : List ScrubWord)
  /-- R481: LOG_READ copies device-log records from a sequence number to BUF -/
  | logRead (id : Nat)
  /-- R489: FW_STAGE writes an image to the non-committed slot and verifies it to TRIAL or FAILED -/
  | fwStage (id : Nat)
  /-- R490: FW_ACTIVATE action ACTIVATE runs a trial image live -/
  | fwActivate (id : Nat)
  /-- R490: FW_ACTIVATE action COMMIT makes the trial slot COMMITTED and writes the settings store -/
  | fwCommit (id : Nat)
  /-- R490: FW_ACTIVATE action REVERT runs the committed image live again -/
  | fwRevert (id : Nat)
  /-- R497: SETTINGS_READ copies one settings-store copy to BUF -/
  | settingsRead (id : Nat)
  /-- R497: SETTINGS_WRITE replaces keyed values, in effect at once and written or held -/
  | settingsWrite (id : Nat)
  /-- R498: MGMT LINK_RECAL requests recalibration of an UP link -/
  | mgmtLinkRecal (id : Nat)
  /-- R364: MGMT ABSENT_CLEAR writes FAB_ABSENT_CLR for a device -/
  | absentClear (id : Nat)
  /-- R436: SENSOR_READ writes the 6,432-byte sensor record to BUF -/
  | sensorRead (id : Nat)
  /-- R406: MGMT POWER_CAP writes PWR_CAP with clamping -/
  | powerCap (id : Nat)
  /-- R531: STUDY_MB_CTRL.GO sends the mailbox descriptor to the study as a privileged MGMT command -/
  | mailboxGo (who : Accessor)
  /-- R531: An accepted mailbox command finishes, and STUDY_MB_RSP is rewritten with FINAL set -/
  | mailboxFinal
  -- the tree unit
  /-- R241: A store to TREE_SUBMIT copies a tree command into the queue or drops it with SUBMIT -/
  | treeSubmit (h : HartId) (value : W64)
  /-- R247: OPEN gives a FREE sequence entry a new epoch and makes it ACTIVE -/
  | treeOpen (r : RoomIx)
  /-- R247: CLOSE makes an ACTIVE entry FREE -/
  | treeClose (r : RoomIx)
  /-- R248: PREP checks the tree, writes row masks and sets PROV_COUNT -/
  | treePrep (r : RoomIx)
  /-- R249: KVPUT copies draft keys and values into provisional slots -/
  | treeKvput (r : RoomIx)
  /-- R250: TOPK writes the first K candidates of each logit row in the total order -/
  | treeTopk (r : RoomIx)
  /-- R252: ACCEPT draws a token at every node and walks the tree to the accepted path and bonus token -/
  | treeAccept (r : RoomIx)
  /-- R254: The tree command COMMIT compacts accepted slots into pages and may advance the committed length -/
  | treeCommit (r : RoomIx)
  /-- R255: ROLLBACK clears provisional slots and may truncate the committed length -/
  | treeRollback (r : RoomIx)
  /-- R258: TREE_CTRL.FLUSH aborts the running command after its current entry, together with the queued commands -/
  | treeFlush (r : RoomIx)
  -- the dumbwaiter
  /-- R262: A free channel fetches the header of its next queued program and begins step 0 -/
  | dwProgramStart (k : Fin 6176)
  /-- R264: An END step ends the program -/
  | endStep (k : Fin 6176)
  /-- R266: A MOVE step copies or repacks rows from source to destination -/
  | dwMove (k : Fin 6176)
  /-- R266: A FILL step writes a pattern in whole aligned words -/
  | dwFill (k : Fin 6176)
  /-- R266: A GATHER step copies indexed source rows, writing zero rows for skipped indices -/
  | dwGather (k : Fin 6176)
  /-- R266: A SCATTER step copies rows to indexed destinations, skipping indices at or above the limit -/
  | dwScatter (k : Fin 6176)
  /-- R268: A LOOP step updates counters and adjustments and jumps or falls through -/
  | dwLoop (k : Fin 6176)
  /-- R269: A WAIT step tests a watched word and blocks the channel until it is met -/
  | dwWait (k : Fin 6176)
  /-- R269: A write makes a WAIT step's condition true and the program continues -/
  | dwWaitMet (k : Fin 6176)
  /-- R269: DW_WAIT_TMO expires and the program ends with WAIT_TIMEOUT -/
  | dwWaitTimeout (k : Fin 6176)
  /-- R267: A SIGNAL step performs SET, CLR or ADD on a pantry word with release ordering -/
  | dwSignal (k : Fin 6176)
  /-- R271: Once every write is performed, the program's record is written to the ring and DW_DONE_COUNTn increments -/
  | dwProgramComplete (k : Fin 6176)
  /-- R278: A program ends with an error at the failing step and the room channel becomes HALTED -/
  | dwProgramError (k : Fin 6176)
  /-- R271: Advancing DW_CQ_CONS frees ring space, and held records are written -/
  | dwCqConsWrite (r : RoomIx) (value : W64)
  /-- R279: A write of DW_CQ_BASE or DW_CQ_CFG takes effect only when all channels are IDLE and the ring fits -/
  | dwCqCfgWrite (r : RoomIx) (base : Bool) (value : W64)
  /-- R278: DW_CTRL.FLUSH bit n aborts channel n's running and queued programs -/
  | dwFlush (r : RoomIx) (c : Fin 8)
  /-- R278: DW_CTRL.RESTART bit n moves a HALTED channel to IDLE -/
  | dwRestart (r : RoomIx) (c : Fin 8)
  -- register writes
  /-- R100: ROOM_TLBI with SCOPE 0 invalidates all entries of the room -/
  | roomTlbiAll (r : RoomIx)
  /-- R100: ROOM_TLBI with SCOPE 1 invalidates entries of an ASID -/
  | roomTlbiAsid (r : RoomIx) (asid : W16)
  /-- R100: ROOM_TLBI with SCOPE 2 invalidates entries of an ASID at a VPN -/
  | roomTlbiAsidVpn (r : RoomIx) (asid : W16) (vpn : BitVec 36)
  /-- R100: ROOM_TLBI with SCOPE 3 invalidates entries at a VPN for every ASID -/
  | roomTlbiVpn (r : RoomIx) (vpn : BitVec 36)
  /-- R124: A ROOM_IRQ_ROUTE write sets routing, but LVL = 1 is accepted only from machine mode -/
  | roomIrqRouteWrite (r : RoomIx) (machine : Bool) (value : W64)
  /-- R482: Advancing ERR_CONS consumes room error records and deasserts source 4 when caught up -/
  | errConsWrite (r : RoomIx) (value : W64)
  /-- R533: Writing 1 to WMB_STATUS.PENDING acknowledges the message and the next one is placed -/
  | wmbPending (r : RoomIx) (lost : Bool)
  /-- R525: A write to a register with no behaviour of its own is performed under the common access rules -/
  | registerWrite (who : Accessor) (pa : BitVec 56) (size : Nat) (value : W64)
  /-- R24: The study makes GENERATION odd, applies the pending changes, recomputes the CRC and makes it even, then -/
  | floorPlanUpdate
  -- power and clocks
  /-- R395: A rail leaves its operating range for 10 µs and the part makes an orderly stop -/
  | railFault (rail : Rail)
  /-- R399: A regulator lacks headroom for 2 ns, so its island stretches cycles and reports to the hearth -/
  | headroomAlarm (island : Island)
  /-- R399: Every 20 µs while an alarm stays, the island's clock and setpoint are lowered -/
  | headroomRelief (island : Island) (stays : Bool)
  /-- R399: 8 or more alarms within 100 µs raise VIN_CORE by 20 mV -/
  | coreRaise
  /-- R399: After 10 ms without alarm, targets and VIN_CORE step back each 1 ms -/
  | headroomRecovery
  /-- R400: Every 20 µs the hearth reads current and status over AVSBus -/
  | avsPoll (ok : Bool) (mv amps : Nat)
  /-- R400: Every 1 ms in AVS_FAIL the hearth retries AVSBus -/
  | avsRetry (ok : Bool)
  /-- R404: A load rise or fall event requests a grant from its wing's account -/
  | grantRequest (kind : GrantKind) (r : RoomIx)
  /-- R405: The account holds the cost, so the arbiter issues the grant in arrival order -/
  | grantIssue (w : WingIx) (fall : Bool)
  /-- R403: After a change in wings up, the hearth recomputes each wing's share of RAMP -/
  | accountShareRecompute
  /-- R406: Every 1 ms the hearth estimates power and lowers or raises the common clock target -/
  | powerCapLoop (watts : Nat)
  /-- R406: A write of PWR_CAP is clamped to 40%–100% of TDP -/
  | pwrCapWrite (who : Accessor) (value : W64)
  /-- R408: A reference absent or over 1,000 ppm off stops every island it feeds -/
  | refLoss (ref : RefInput)
  /-- R408: A returning reference lets islands relock, and modules and links retrain -/
  | refRelock (ref : RefInput)
  -- temperature
  /-- R413: Every 10 µs the logic sensors are sampled and maxima formed -/
  | sensorSample (place : SensorPlace) (values : List Int)
  /-- R415: A sensor out of range or failing self-check for 1 ms is marked invalid, possibly stopping its room -/
  | sensorInvalid (sensor : SensorId)
  /-- R416: Every 1 ms in band A3 or T, the room's clock target is lowered by 25 MHz -/
  | throttleStep (r : RoomIx)
  /-- R364: Every 50 µs a room in band A3 sends SLOW notices with a 200 µs extension -/
  | slowNoticeSend (r : RoomIx)
  /-- R418: A sensor reaching 120 °C turns off regulators, idles SerDes and drives THERM_TRIP_N -/
  | thermalTrip (place : SensorPlace)
  /-- R418: Every valid sensor is below 90 °C, so the part leaves trip reset and begins bring-up -/
  | tripRelease
  /-- R419: On band A4 or S or a sensor failure, the room begins its grace phase -/
  | roomStopGrace (r : RoomIx)
  /-- R419: When grace ends or 200 µs pass, floor clocks and stair and AVU access stop -/
  | roomStopClocks (r : RoomIx)
  /-- R419: The wing controller sends the room's ABSENT notice -/
  | roomStopNotice (r : RoomIx)
  /-- R419: The floor plan shows the room ABSENT_THERMAL -/
  | roomStopPublish (r : RoomIx)
  /-- R421: Cool for 10 ms, an ABSENT_THERMAL room becomes readmissible and an event is sent -/
  | readmissible (r : RoomIx)
  /-- R424: Every 10 ms the hearth fits the attic-maximum slope and applies the slope rule -/
  | slopeFit
  /-- R423: SLOPE_CAP is lowered every 100 ms while the rule holds, and raised every 1 s after release -/
  | slopeCapStep
  /-- R425: A cooling report sets flow and inlet, from which TELEM_CAP is computed -/
  | thermCoolWrite (who : Accessor) (value : W64)
  /-- R425: A report older than 2 s is disregarded and TELEM_CAP returns to TDP -/
  | telemetryStale
  /-- R437: A THERM_CFG write sets the slope limit and keep-warm floor, clamped to the option block -/
  | thermCfgWrite (who : Accessor) (value : W64)
  /-- R426: FLOW_OK low for 10 µs applies the emergency throttle and starts a device orderly stop -/
  | flowOkLoss
  /-- R427: PWR_WARN_N low for 1 µs starts a device orderly stop -/
  | pwrWarn
  /-- R427: Every room has completed its grace list and landings have sent what they hold -/
  | deviceStopDrainEnd
  /-- R428: The commit point passes, and the device quiesces, sends GOODBYE and writes the stop cause -/
  | commitPoint
  /-- R428: The cause clears before the commit point, so the part resumes service and reports RESUMED -/
  | deviceStopResume (flow : Bool)
  /-- R430: A cool, idle room in service starts dummy work after a rise grant -/
  | keepWarmStart (r : RoomIx)
  /-- R430: The attic reaches floor + 5 K or the room leaves service, so keep-warm steps down after a fall grant -/
  | keepWarmStop (r : RoomIx)
  /-- R432: Every 1 h the study saves the wing cycle counts to flash -/
  | cycleCountSave
  /-- R433: Every 10 ms the hearth chooses collector, sampler and landing-root rooms and publishes THERM_ROLE -/
  | dutyRotation
  -- reset and bring-up
  /-- R438: VAUX rising into range resets everything and starts bring-up -/
  | powerOn
  /-- R438: PWR_GOOD low for 10 µs resets all but the always-on islands -/
  | pwrGoodLow
  /-- R438: RESET_N low for 10 µs resets all but the always-on islands -/
  | resetNLow
  /-- R438: No kick within WDT_MS causes a device reset after idle requests -/
  | studyWatchdogExpiry
  /-- R438: BOOT_CTRL.DEVICE_RESET with KEY makes a host-command reset -/
  | deviceReset (who : Accessor) (key : W16)
  /-- R450: BOOT_CTRL.HOST_GO tells the strongroom the host image buffer is ready -/
  | hostGo (who : Accessor) (key : W16)
  /-- R462: BOOT_CTRL.RETRY clears the hardware count, appends RETRY and resets the device -/
  | bootRetry (who : Accessor) (key : W16)
  /-- R438: The study resets one wing die, after which its controller and rooms start as in phase 6 -/
  | wingReset (w : WingIx)
  /-- R438: A porch die resets, so its links go down and retrain -/
  | porchReset (p : PorchIx)
  /-- R439: A block asked to go idle stops issuing requests at its next boundary -/
  | blockResetRequest (b : Block)
  /-- R439: The block's requests are answered or timed out, so it enters reset -/
  | blockSettleEnd (b : Block)
  /-- R439: BOOT_IDLE_TMO passes, so the block is reset anyway with IDLE_TIMEOUT -/
  | blockSettleTimeout (b : Block)
  /-- R439: The block leaves reset, and its crossings restart with fresh credits -/
  | blockRelease (b : Block)
  /-- R446: The option loader reads and checks the option block or its mirror and applies it, or falls back to defaults -/
  | optionLoad
  /-- R449: Phase 1 ends when every identity block is read and checked -/
  | bootPhaseFuses
  /-- R449: Phase 2 ends when the option block is applied -/
  | bootPhaseOption
  /-- R459: Phase 3 self-tests the strongroom, closes old ATTEMPTs, takes the failed-start counts and writes ATTEMPT -/
  | bootPhaseStrongroomRom (selfTest : Bool)
  /-- R449: Phase 4 verifies and runs study and hearth images and checks the cooling class -/
  | bootPhaseStudyFirmware (neighbour : Bool)
  /-- R449: Phase 5 powers wings and porches, trains modules, applies repairs and trains stairs -/
  | bootPhaseHallStairs
  /-- R453: The study broadcasts controller images and boot code with digests, resending on mismatch -/
  | imageBroadcast (kind : Fin 6) (failed : List Nat)
  /-- R454: A room's boot code stores its result to WING_BOOT_RESULT -/
  | roomBootResult (r : RoomIx) (value : W64)
  /-- R454: No result within 2 ms of release makes the room DISABLED_BOOT -/
  | roomBootTimeout (r : RoomIx)
  /-- R449: Phase 6 ends when controllers run verified firmware and every room has reported -/
  | bootPhaseFwBroadcast
  /-- R449: Phase 7 ends when every enabled link is UP or down, or its bound passes -/
  | bootPhaseLinks
  /-- R455: Phase 8 writes the epoch ceiling, builds and publishes the floor plan and marks the start READY -/
  | bootPhaseReady
  /-- R449: A phase misses its bound and the start fails with PHASE_TIMEOUT -/
  | bootPhaseTimeout
  /-- R457: A failed start records its reason and phase, closes its ATTEMPT, posts a record and resets -/
  | failedStart
  -- errors and repair
  /-- R481: An error record reaches the device log with its sequence number and, unless CORRECTED, an ERROR_RECORD event -/
  | errorRecordPost (e : Option PostedError)
  /-- R480: At the end of a 1 s window, a record carries the count of further correctable occurrences -/
  | ceWindowEnd (cause : Nat) (die : DieIx) (room : Fin 32)
  /-- R472: No access to a failing row is in progress, so its copy to a spare begins -/
  | rowRepairHoldEnd (r : RoomIx) (bank : Fin 48) (row : Fin 4096)
  /-- R472: The copy ends, the slot maps the row to the spare and waiting accesses resume -/
  | rowRepairSwitch (r : RoomIx) (bank : Fin 48) (row : Fin 4096)
  /-- R474: The repair-log entry is written and ROW_SOFT_REPAIR is posted -/
  | rowRepairLog (r : RoomIx) (bank : Fin 48) (row : Fin 4096)
  /-- R477: A repeating or uncorrectable word in privileged SRAM is remapped, or the table is full -/
  | wordRemap (m : RemapMemory) (off : Nat) (uncorrectable : Bool)
  -- trials and handover
  /-- R492: TRIAL_TMO passes without commit and the trial reverts, with the slot marked FAILED -/
  | fwTrialTimeout (kind : Fin 6)
  /-- R492: A trial study or hearth misses its mirror heartbeat for 500 ms and reverts -/
  | mirrorHeartbeatLoss (hearth : Bool)
  /-- R493: After freeze, the standby receives the active's last state record -/
  | handoverTransfer
  /-- R493: The standby becomes active and answers held requests -/
  | handoverSwitch
  /-- R494: The active processor fails, so the standby takes over without freeze within 10 ms -/
  | standbyTakeover (hearth : Bool)
  /-- R491: A wing or porch controller restarts alone on a new image and resumes held work -/
  | wingControllerRestart
  -- management protocols
  /-- R392: A bus owner assigns the study's MCTP EID on a binding -/
  | setEndpointId (d : DoorIx) (binding : Fin 3) (eid : Byte)
  /-- R393: A PLDM type 0 request is answered by the study -/
  | pldmBaseDiscovery (d : DoorIx) (binding : Fin 3)
  /-- R393: A PLDM type 2 sensor or effecter request is answered within 1 ms -/
  | pldmPlatform (q : PldmPlatform)
  /-- R393: A PLDM type 5 step stages or activates firmware -/
  | pldmFirmwareUpdate (q : PldmUpdate)
  /-- R393: SPDM GET_VERSION answered by the strongroom -/
  | getVersion
  /-- R393: SPDM GET_CAPABILITIES answered by the strongroom -/
  | getCapabilities
  /-- R393: SPDM NEGOTIATE_ALGORITHMS answered with ECDSA P-384 and SHA-384 -/
  | negotiateAlgorithms
  /-- R393: SPDM GET_DIGESTS answered by the strongroom -/
  | getDigests
  /-- R393: SPDM GET_CERTIFICATE answered by the strongroom -/
  | getCertificate
  /-- R393: SPDM CHALLENGE answered by the strongroom -/
  | spdmChallenge (nonce : List Byte)
  /-- R452: Signed SPDM GET_MEASUREMENTS returns the measurement digests -/
  | getMeasurements (index : Byte) (nonce : List Byte)
  -- test access and debug
  /-- R511: TAP EXTEST drives boundary cells while RESET_N is low -/
  | tapExtest (cells : BitVec 43)
  /-- R511: TAP SAMPLE/PRELOAD samples or preloads the boundary register -/
  | tapSamplePreload (cells : BitVec 43)
  /-- R511: TAP IDCODE selects the 0xB520_999D identification register -/
  | tapIdcode
  /-- R511: TAP CLAMP holds outputs while RESET_N is low -/
  | tapClamp
  /-- R511: TAP HIGHZ floats outputs while RESET_N is low -/
  | tapHighz
  /-- R511: TAP BYPASS, and every code acting as it, selects the one-bit bypass register -/
  | tapBypass (code : Byte)
  /-- R512: TAP DTMCS accesses the debug transport control register when unlocked -/
  | tapDtmcs (dmiReset : Bool)
  /-- R512: A TAP DMI access reaches the debug module, never stalling over 1 ms -/
  | tapDmi (a : DmiAccess)
  /-- R512: The debug Access Register command reads or writes a halted hart's register -/
  | dbgAccessRegister (write : Bool) (reg : DebugReg)
  /-- R512: A debug system bus access is performed as a machine-mode TC0 request, or fails with sberror 2 -/
  | dbgSystemBusAccess (write : Bool) (bytes : Nat)
  /-- R512: ndmreset makes a host-command device reset -/
  | dbgNdmreset
  /-- R513: The debug module halts a hart, which keeps its held items while HALTED -/
  | hartHalt (n : Fin 24612)
  /-- R513: A halted hart resumes, taking any pending timeout or poison trap -/
  | hartResume (n : Fin 24612)
  -- further events
  /-- R443: At the later rising edge of RESET_N and PWR_GOOD the straps are sampled into BOOT_STRAPS and bring-up phase 1 -/
  | samplingEdge (straps : BitVec 6)
  /-- R429: After a reset that followed a commit, PWR_GOOD, PWR_WARN_N and FLOW_OK have each been high for 100 ms, and -/
  | stopResetWaitEnd
  /-- R388: The door's PCIe Data Link comes up, setting LINK_UP, cancelling a pending host-loss timer and writing held -/
  | dataLinkUp (d : DoorIx)
  /-- R461: With BOOT_SRC = 01, no HOST_GO arrives within 10 s of PCIe link up, and the start fails with HOST_TIMEOUT -/
  | hostTimeout
  /-- R456: A PCIe configuration request reaches a door's function; it is answered with Request Retry Status until phase -/
  | configRequest (d : DoorIx) (q : ConfigRequest)
  /-- R396: VAUX falls out of range and the whole part, always-on islands included, loses power; an open ATTEMPT record -/
  | powerLoss
  /-- R402: A floor island's supply falls more than 3% below its setpoint, and its adaptive oscillator lengthens its next -/
  | supplyDroop (r : RoomIx)
  deriving DecidableEq, Repr

end Sys2Proof
end

