-- ==== Sys2Proof/Decode.lean ====
section
/-! DEFINITION. The command that a word spells by the table's bits. No row of the table gives bits (a command arrives as
what happens to the part, never as a word), so no word spells one. -/
namespace Sys2Proof

/-- The table gives no command bits of its own. -/
def decodeTableWord (_nbits _w : Nat) : Option Instr := none

end Sys2Proof
end

