-- ==== Sys2Proof/Config.lean ====
section
/-! DEFINITION. What a part fixes, and the values the spec leaves open. Every open value is an opaque constant with no
body: nothing can evaluate it, so a claim holds whatever it is. Each takes the free counter of the state first
(a plain number that a command reads and advances), then the place. -/
namespace Sys2Proof

/-- R31, R64: one accumulator: the integer I, its four sticky flags and the poison bit of an entry. -/
structure Xa where
  i : W128 := 0
  inNan : Bool := false
  inPinf : Bool := false
  inNinf : Bool := false
  range : Bool := false
  poison : Bool := false
  deriving DecidableEq, Repr, Inhabited

/-- R467: a byte that nothing has written reads as unspecified data. -/
opaque Config.unwrittenByte : Nat → Nat → Byte
/-- R467: a read of a word that nothing has written may be delivered poisoned. -/
opaque Config.unwrittenPoisoned : Nat → Nat → Bool
/-- R110: a byte read, or left by a write, against the order of the view fence. -/
opaque Config.mixedViewByte : Nat → Nat → Byte
/-- R137, R146, R153, R269: a byte that a unit reads after software has broken the unit's rule for it. -/
opaque Config.disturbedByte : Nat → Nat → Byte
/-- A byte read from the memory of another device, which is no part of this state. -/
opaque Config.remoteByte : Nat → Nat → Byte
/-- R79, R80: the accumulator entries after a room reset, or touched by an aborted pass. -/
opaque Config.freeXa : Nat → Nat → Xa
/-- R108, R113: whether a request that timed out was performed at its home. -/
opaque Config.performedAfterTimeout : Nat → Bool
/-- Any other 64-bit value that the spec leaves open; a log entry names each use. -/
opaque Config.freeWord : Nat → Nat → W64
/-- Any other choice that the spec leaves open between two outcomes; a log entry names each use. -/
opaque Config.freeBool : Nat → Nat → Bool
/-- R451, R453: the digest of an image; the hash function lies outside the spec. -/
opaque Config.digest : Nat → List Byte → List Byte
/-- R393, R452: a signature that the strongroom makes. -/
opaque Config.sign : List Byte → List Byte

/-- R470: spare rows of a bank of a room that were used at test. -/
opaque Config.testSpares : Nat → Nat → Nat
/-- R398: the floor setpoint of a room at a clock target, in steps of 5 mV above 0.55 V. -/
opaque Config.floorSteps : Nat → Nat → Nat
/-- R451: the signature of an image of a KIND verifies; where it lies in the image is not said. -/
opaque Config.imageSigned : Nat → List Byte → Bool
/-- R451, R489: the VERSION and SVN that a staged image carries; where in the image they lie is not said. -/
opaque Config.imageVersion : List Byte → Nat
opaque Config.imageSvn : List Byte → Nat
/-- R451: the fused minimum security version of a KIND. -/
opaque Config.minSvn : Nat → Nat
/-- R393: the certificate chain of the strongroom. -/
opaque Config.certificate : List Byte

/-- R1: the limits fused into a variant: room clock and AVU clock in MHz, stair rate in Mb/s per lane, TDP in W. -/
structure VariantLimits where
  roomMhz : Nat
  stairMbps : Nat
  avuMhz : Nat
  tdpW : Nat
  liquid : Bool
  deriving DecidableEq, Repr

/-- R1, R19: the three variants by their codes 1 L15, 2 L12, 3 A09. -/
def variantLimits : Nat → VariantLimits
  | 1 => ⟨1500, 2400, 800, 3200, true⟩
  | 2 => ⟨1200, 1920, 700, 2500, true⟩
  | _ => ⟨900, 1440, 500, 1800, false⟩

/-- R55: bytes of a pantry. -/
def pantrySize : Nat := 0x600000
/-- R158: bytes of an attic, and of a bank. -/
def atticSize : Nat := 0xC000000
def bankSize : Nat := 0x400000
/-- R64: entries of the accumulator file. -/
def xaEntries : Nat := 8192

end Sys2Proof
end

