-- ==== Sys2Proof/Machine/Tab.lean ====
section
/-! DEFINITION. Sparse tables: a list of keyed values with keys strictly rising, and little-endian byte strings (R5). -/
namespace Sys2Proof

/-- A table from natural keys to values, in one canonical form: keys strictly rising. -/
abbrev Tab (α : Type) := List (Nat × α)

/-- The value at a key. -/
def tget {α : Type} (k : Nat) : Tab α → Option α
  | [] => none
  | (j, v) :: t => if j = k then some v else tget k t

/-- The value at a key, or a default. -/
def tgetD {α : Type} (t : Tab α) (k : Nat) (d : α) : α := (tget k t).getD d

/-- The table with a value placed at a key. -/
def tset {α : Type} (k : Nat) (v : α) : Tab α → Tab α
  | [] => [(k, v)]
  | (j, w) :: t => if k < j then (k, v) :: (j, w) :: t else if k = j then (k, v) :: t else (j, w) :: tset k v t

/-- The table without a key. -/
def tdel {α : Type} (k : Nat) (t : Tab α) : Tab α := t.filter fun p => p.1 != k

/-- Keys strictly rising, every key above the bound. -/
def tsortedFrom {α : Type} (b : Nat) : Tab α → Bool
  | [] => true
  | (j, _) :: t => decide (b ≤ j) && tsortedFrom (j + 1) t

/-- Place a number in a strictly rising list. -/
def ninsert (k : Nat) : List Nat → List Nat
  | [] => [k]
  | j :: t => if k < j then k :: j :: t else if k = j then j :: t else j :: ninsert k t

/-- R5: the n little-endian bytes of a number. -/
def toBytes : Nat → Nat → List Byte
  | 0, _ => []
  | n + 1, x => BitVec.ofNat 8 x :: toBytes n (x / 256)

/-- R5: the number that little-endian bytes spell. -/
def ofBytes : List Byte → Nat
  | [] => 0
  | b :: t => b.toNat + 256 * ofBytes t

/-- Replace the element at an index of a list (nothing beyond its end). -/
def lset {α : Type} : List α → Nat → α → List α
  | [], _, _ => []
  | _ :: t, 0, v => v :: t
  | a :: t, n + 1, v => a :: lset t n v

/-- Keep at most the last n elements. -/
def lastN {α : Type} (n : Nat) (l : List α) : List α := l.drop (l.length - n)

end Sys2Proof
end

