-- ==== Sys2Proof/Machine/Flags.lean ====
section
/-! DEFINITION. Number formats, the fixed-window accumulator, conversions, floating point and their flags (R26–R49).
Every finite value is held exactly, as an integer times a power of two. -/
namespace Sys2Proof

/-- The value of a code: NaN, an infinity (true when negative), or m × 2^e with its sign kept for zero. -/
inductive Num where
  | nan
  | inf (neg : Bool)
  | fin (neg : Bool) (mag : Nat) (e : Int)
  deriving DecidableEq, Repr

/-- R26: a floating format: exponent bits, mantissa bits, bias, and how its top exponent is used. -/
structure Fmt where
  ebits : Nat
  mbits : Nat
  bias : Int
  /-- 0: infinity and NaN in the top exponent; 1: E4M3, one NaN code per sign; 2: every code finite. -/
  top : Nat
  /-- R38: the canonical NaN. -/
  cnan : Nat
  deriving DecidableEq, Repr

def fp32 : Fmt := ⟨8, 23, 127, 0, 0x7FC00000⟩
def fp16 : Fmt := ⟨5, 10, 15, 0, 0x7E00⟩
def bf16 : Fmt := ⟨8, 7, 127, 0, 0x7FC0⟩
def e4m3 : Fmt := ⟨4, 3, 7, 1, 0x7F⟩
def e5m2 : Fmt := ⟨5, 2, 15, 0, 0x7E⟩
def e3m2 : Fmt := ⟨3, 2, 3, 2, 0⟩
def e2m3 : Fmt := ⟨2, 3, 1, 2, 0⟩
def e2m1 : Fmt := ⟨2, 1, 1, 2, 0⟩

def Fmt.width (f : Fmt) : Nat := 1 + f.ebits + f.mbits

/-- The code of the largest finite magnitude. -/
def Fmt.maxCode (f : Fmt) : Nat :=
  if f.top = 0 then (2 ^ f.ebits - 1) * 2 ^ f.mbits - 1
  else if f.top = 1 then 2 ^ (f.ebits + f.mbits) - 2 else 2 ^ (f.ebits + f.mbits) - 1

/-- The code of infinity, where the format has one. -/
def Fmt.infCode (f : Fmt) : Nat := (2 ^ f.ebits - 1) * 2 ^ f.mbits

/-- R26: the exponent of the least significant bit of a subnormal. -/
def Fmt.minLsb (f : Fmt) : Int := 1 - f.bias - f.mbits

/-- R26: the value of a code of a floating format. -/
def Fmt.value (f : Fmt) (code : Nat) : Num :=
  let c := code % 2 ^ (f.ebits + f.mbits)
  let neg := bitOf code (f.ebits + f.mbits)
  let ex := c / 2 ^ f.mbits
  let m := c % 2 ^ f.mbits
  if c > f.maxCode then (if f.top = 0 ∧ m = 0 then .inf neg else .nan)
  else if ex = 0 then .fin neg m f.minLsb
  else .fin neg (2 ^ f.mbits + m) (f.minLsb + (ex - 1 : Nat))

/-- R27: an E8M0 scale as a power of two; none for NaN. -/
def e8m0 (b : Nat) : Option Int := if b % 256 = 255 then none else some ((b % 256 : Nat) - (127 : Int))

/-- R26: an 8-bit two's-complement element, times 2^s. -/
def intValue (code : Nat) (s : Int) : Num :=
  let v := sgn 8 code
  .fin (decide (v < 0)) v.natAbs s

/-- R52: the value of an element of the operand format with this code. -/
def elemValue (fmt code : Nat) : Num :=
  match fmt with
  | 0 | 8 => e4m3.value code
  | 1 | 9 => e5m2.value code
  | 2 | 10 => e3m2.value code
  | 3 | 11 => e2m3.value code
  | 4 | 12 => e2m1.value code
  | 5 => intValue code 0
  | 13 => intValue code (-6)
  | _ => bf16.value code

/-- R52: bits of an element. -/
def elemBits (fmt : Nat) : Nat :=
  match fmt with
  | 2 | 3 | 10 | 11 => 6
  | 4 | 12 => 4
  | 6 => 16
  | _ => 8

/-- R52: the codes that name an MX format. -/
def isMx (fmt : Nat) : Bool := decide (8 ≤ fmt ∧ fmt ≤ 13)

/-- R52: the codes that weights may have. -/
def weightFmtOk (fmt : Nat) : Bool := decide (fmt ≤ 6 ∨ (8 ≤ fmt ∧ fmt ≤ 13))

/-- R52: the codes that a tile may have. -/
def tileFmtOk (fmt : Nat) : Bool := weightFmtOk fmt && !(fmt == 2 || fmt == 3 || fmt == 4)

/-- R30: bytes of n packed elements. -/
def packedBytes (fmt n : Nat) : Nat :=
  match elemBits fmt with
  | 6 => 3 * ceilDiv n 4
  | 4 => ceilDiv n 2
  | 16 => 2 * n
  | _ => n

/-- R30: element i of a packed array whose bytes spell x. -/
def packedElem (fmt x i : Nat) : Nat :=
  match elemBits fmt with
  | 6 => x / 2 ^ (24 * (i / 4) + 6 * (i % 4)) % 64
  | 4 => x / 2 ^ (4 * i) % 16
  | 16 => x / 2 ^ (16 * i) % 65536
  | _ => x / 2 ^ (8 * i) % 256

/-- m × 2^k, rounded down. -/
def floorShift (m k : Int) : Int := if 0 ≤ k then m * 2 ^ k.toNat else m / 2 ^ (-k).toNat

/-- The signed integer of a magnitude. -/
def signed (neg : Bool) (mag : Nat) : Int := if neg then -(mag : Int) else mag

/-- R32–R34: the contribution of one product under window Ew, as an accumulator to be added. The scale is the sum
of the exponents of every scale that applies, none when one of them is NaN. -/
def product (a b : Num) (scale : Option Int) (ew : Int) : Xa :=
  match scale with
  | none => { inNan := true }
  | some sc =>
    match a, b with
    | .nan, _ => { inNan := true }
    | _, .nan => { inNan := true }
    | .inf s, .inf t => if s = t then { inPinf := true } else { inNinf := true }
    | .inf s, .fin t m _ =>
      if m = 0 then { inNan := true } else if s = t then { inPinf := true } else { inNinf := true }
    | .fin t m _, .inf s =>
      if m = 0 then { inNan := true } else if s = t then { inPinf := true } else { inNinf := true }
    | .fin s m e, .fin t n f =>
      let q := floorShift (signed (s != t) (m * n)) (e + f + sc - ew)
      if m = 0 ∨ n = 0 then {}
      else if q ≥ 2 ^ 126 ∨ q < -2 ^ 126 then { range := true } else { i := BitVec.ofInt 128 q }

/-- R32, R34, R78: the sum of two accumulators: integers modulo 2^128, flags and poison by OR. -/
def Xa.add (a b : Xa) : Xa where
  i := a.i + b.i
  inNan := a.inNan || b.inNan
  inPinf := a.inPinf || b.inPinf
  inNinf := a.inNinf || b.inNinf
  range := a.range || b.range
  poison := a.poison || b.poison

/-- R35: the input flags of an accumulator, as bits of ARITH_STATUS. -/
def Xa.flags (a : Xa) : Nat := b2n a.inNan + 2 * b2n a.inPinf + 4 * b2n a.inNinf + 8 * b2n a.range

/-- Round mag × 2^k to an integer, to nearest with ties to even. -/
def roundEven (mag : Nat) (k : Int) : Nat :=
  if 0 ≤ k then mag * 2 ^ k.toNat
  else
    let d := 2 ^ (-k).toNat
    let q := mag / d
    let r := mag % d
    if 2 * r > d ∨ (2 * r = d ∧ q % 2 = 1) then q + 1 else q

/-- Bits of a natural number without leading zeros. -/
def bitLen (n : Nat) : Nat := if n = 0 then 0 else Nat.log2 n + 1

/-- The code of mag × 2^e rounded once to nearest, ties to even; it may exceed the largest finite code. -/
def Fmt.roundCode (f : Fmt) (mag : Nat) (e : Int) : Nat :=
  let lsb := max f.minLsb ((bitLen mag : Int) - 1 + e - f.mbits)
  if mag = 0 then 0 else (lsb - f.minLsb).toNat * 2 ^ f.mbits + roundEven mag (e - lsb)

/-- The sign bit of a format. -/
def Fmt.signBit (f : Fmt) (neg : Bool) : Nat := if neg then 2 ^ (f.ebits + f.mbits) else 0

/-- R38, R39: conversion with saturation: the code, and EXP_SAT and EXP_TINY in their bits of ARITH_STATUS. -/
def Fmt.saturate (f : Fmt) (neg : Bool) (mag : Nat) (e : Int) : Nat × Nat :=
  let c := f.roundCode mag e
  if c > f.maxCode then (f.signBit neg + f.maxCode, 16)
  else if c = 0 ∧ mag ≠ 0 then (f.signBit neg, 32) else (f.signBit neg + c, 0)

/-- R38: the export of an accumulator under window Ew and multiplier X (an FP32 code): code and status bits. -/
def Fmt.exportXa (f : Fmt) (a : Xa) (ew : Int) (x : Nat) : Nat × Nat :=
  if a.inNan || a.range || (a.inPinf && a.inNinf) then (f.cnan, a.flags)
  else if a.inPinf || a.inNinf then
    (if f.top = 1 then f.cnan else f.signBit a.inNinf + f.infCode, a.flags)
  else if a.i = 0 then (0, a.flags)
  else match fp32.value x with
    | .fin s m e =>
      let r := f.saturate (decide (a.i.toInt < 0) != s) (a.i.toInt.natAbs * m) (ew + e)
      (r.1, r.2 + a.flags)
    | _ => (f.cnan, a.flags)

/-- R39: conversion of an FP32 value to a narrower format, with the status bits. -/
def Fmt.convert (f : Fmt) (x : Nat) : Nat × Nat :=
  match fp32.value x with
  | .nan => (f.cnan, 0)
  | .inf s => (if f.top = 1 then f.cnan else f.signBit s + f.infCode, 0)
  | .fin s m e => f.saturate s m e

/-- R40: the three reserved partials. -/
def xaNan : W128 := 0x80000000000000000000000000000000
def xaPinf : W128 := 0x80000000000000000000000000000001
def xaNinf : W128 := 0x80000000000000000000000000000002

/-- R40: a finite integer on a reserved code is written as XA_NAN. -/
def finitePartial (i : W128) : W128 := if i = xaPinf ∨ i = xaNinf then xaNan else i

/-- R40: the 16-byte form of an accumulator. -/
def Xa.toPartial (a : Xa) : W128 :=
  if a.inNan || a.range || (a.inPinf && a.inNinf) then xaNan
  else if a.inPinf then xaPinf else if a.inNinf then xaNinf else finitePartial a.i

/-- R41: an accumulator read back from a partial, with the matching flags. -/
def Xa.ofPartial (p : W128) : Xa :=
  if p = xaNan then { inNan := true } else if p = xaPinf then { inPinf := true }
  else if p = xaNinf then { inNinf := true } else { i := p }

/-- R41: two partials combined. -/
def combinePartial (a b : W128) : W128 :=
  if a = xaNan ∨ b = xaNan then xaNan
  else if (a = xaPinf ∧ b = xaNinf) ∨ (a = xaNinf ∧ b = xaPinf) then xaNan
  else if a = xaPinf ∨ b = xaPinf then xaPinf
  else if a = xaNinf ∨ b = xaNinf then xaNinf
  else finitePartial (if a + b = xaNan then xaNan else a + b)

/-- R43: an FP32 input of an exact reduction as a partial, with the flags of its conversion. -/
def fp32ToPartial (x : Nat) (ew : Int) : W128 × Nat :=
  match fp32.value x with
  | .nan => (xaNan, 1)
  | .inf false => (xaPinf, 2)
  | .inf true => (xaNinf, 4)
  | .fin s m e =>
    let q := floorShift (signed s m) (e - ew)
    if q ≥ 2 ^ 126 ∨ q < -2 ^ 126 then (xaNan, 8) else (BitVec.ofInt 128 q, 0)

/-- R45: an exact value rounded once to FP32; overflow gives infinity. -/
def fp32Round (neg : Bool) (mag : Nat) (e : Int) : Nat :=
  let c := fp32.roundCode mag e
  fp32.signBit neg + (if c > fp32.maxCode then fp32.infCode else c)

/-- The sum of two exact finite values: sign, magnitude and exponent; an exact zero of operands with opposite signs is +0. -/
def exactAdd (s : Bool) (m : Nat) (e : Int) (t : Bool) (n : Nat) (f : Int) : Bool × Nat × Int :=
  let k := min e f
  let v := signed s m * 2 ^ (e - k).toNat + signed t n * 2 ^ (f - k).toNat
  if v = 0 then (s && t, 0, k) else (decide (v < 0), v.natAbs, k)

/-- R45: fp32_add on codes. -/
def fp32Add (x y : Nat) : Nat :=
  match fp32.value x, fp32.value y with
  | .nan, _ => fp32.cnan
  | _, .nan => fp32.cnan
  | .inf s, .inf t => if s = t then fp32.signBit s + fp32.infCode else fp32.cnan
  | .inf s, _ => fp32.signBit s + fp32.infCode
  | _, .inf t => fp32.signBit t + fp32.infCode
  | .fin s m e, .fin t n f => let r := exactAdd s m e t n f; fp32Round r.1 r.2.1 r.2.2

/-- R45: a × b + c with one rounding, on codes. -/
def fp32Fma (a b c : Nat) : Nat :=
  match fp32.value a, fp32.value b, fp32.value c with
  | .nan, _, _ => fp32.cnan
  | _, .nan, _ => fp32.cnan
  | _, _, .nan => fp32.cnan
  | .fin s m e, .fin t n f, .fin u o g =>
    let r := exactAdd (s != t) (m * n) (e + f) u o g; fp32Round r.1 r.2.1 r.2.2
  | .fin _ _ _, .fin _ _ _, .inf u => fp32.signBit u + fp32.infCode
  | p, q, r =>
    let zero : Num → Bool := fun v => match v with | .fin _ 0 _ => true | _ => false
    let sg : Num → Bool := fun v => match v with | .fin s _ _ => s | .inf s => s | .nan => false
    let sp := sg p != sg q
    if zero p || zero q then fp32.cnan
    else match r with
      | .inf u => if u = sp then fp32.signBit u + fp32.infCode else fp32.cnan
      | _ => fp32.signBit sp + fp32.infCode

/-- R45: a × b with one rounding, on codes. -/
def fp32Mul (a b : Nat) : Nat :=
  match fp32.value a, fp32.value b with
  | .nan, _ => fp32.cnan
  | _, .nan => fp32.cnan
  | .inf s, .inf t => fp32.signBit (s != t) + fp32.infCode
  | .inf s, .fin t m _ => if m = 0 then fp32.cnan else fp32.signBit (s != t) + fp32.infCode
  | .fin t m _, .inf s => if m = 0 then fp32.cnan else fp32.signBit (s != t) + fp32.infCode
  | .fin s m e, .fin t n f => fp32Round (s != t) (m * n) (e + f)

/-- R232: x ÷ y rounded once, on codes. -/
def fp32Div (x y : Nat) : Nat :=
  match fp32.value x, fp32.value y with
  | .nan, _ => fp32.cnan
  | _, .nan => fp32.cnan
  | .inf _, .inf _ => fp32.cnan
  | .inf s, .fin t _ _ => fp32.signBit (s != t) + fp32.infCode
  | .fin s _ _, .inf t => fp32.signBit (s != t)
  | .fin s m e, .fin t n f =>
    if n = 0 then (if m = 0 then fp32.cnan else fp32.signBit (s != t) + fp32.infCode)
    else fp32Round (s != t) (m * 2 ^ 64 / n * 2 + (if m * 2 ^ 64 % n = 0 then 0 else 1)) (e - f - 65)

/-- R225: x − y on codes. -/
def fp32Sub (x y : Nat) : Nat := fp32Add x (y ^^^ 2 ^ 31)

/-- Fraction bits carried while 2^x is formed. -/
def expBits : Nat := 256

/-- ln 2 with expBits fraction bits: the sum of 1 ÷ (k 2^k). -/
def ln2Terms : Nat → Nat
  | 0 => 0
  | n + 1 => ln2Terms n + 2 ^ expBits / ((n + 1) * 2 ^ (n + 1))

/-- The exponential series at y (with expBits fraction bits): the terms from number k on, the first being t. -/
def expSeries (y : Nat) : Nat → Nat → Nat → Nat
  | 0, _, _ => 0
  | f + 1, k, t => t + expSeries y f (k + 1) (t * y / ((k + 1) * 2 ^ expBits))

/-- R225: the FP32 value nearest to 2^x. -/
def fp32Exp2 (x : Nat) : Nat :=
  match fp32.value x with
  | .nan => fp32.cnan
  | .inf true => 0
  | .inf false => fp32.infCode
  | .fin s m e =>
    let v : Int := floorShift (signed s m) (e + 150)
    let n := v / 2 ^ 150
    let f := (v % 2 ^ 150).toNat
    if 128 ≤ n then fp32.infCode
    else if n < -200 then 0
    else if f = 0 then fp32Round false 1 n
    else fp32Round false (expSeries (f * ln2Terms 300 / 2 ^ 150) 80 0 (2 ^ expBits)) (n - expBits)

/-- An FP32 code is a NaN. -/
def fp32IsNan (x : Nat) : Bool := fp32.value x = .nan

/-- R182: the place of a non-NaN FP32 code in the order with −0 below +0. -/
def fp32Key (x : Nat) : Nat := if bitOf x 31 then 2 ^ 31 - 1 - x % 2 ^ 31 else 2 ^ 31 + x % 2 ^ 31

/-- R182: FP32 max. -/
def fp32Max (x y : Nat) : Nat :=
  if fp32IsNan x then (if fp32IsNan y then fp32.cnan else y)
  else if fp32IsNan y then x else if fp32Key x < fp32Key y then y else x

/-- R182: FP32 min. -/
def fp32Min (x y : Nat) : Nat :=
  if fp32IsNan x then (if fp32IsNan y then fp32.cnan else y)
  else if fp32IsNan y then x else if fp32Key y < fp32Key x then y else x

/-- One level of the tree of R44. -/
def treeLevel {α : Type} (f : α → α → α) : List α → List α
  | a :: b :: t => f a b :: treeLevel f t
  | l => l

/-- R44: the fixed tree over a list, levels bounded by the fuel. -/
def treeFold {α : Type} (f : α → α → α) : Nat → List α → Option α
  | _, [] => none
  | _, [a] => some a
  | 0, a :: _ => some a
  | n + 1, l => treeFold f n (treeLevel f l)

/-- R44: an ordered reduction; a list of n members takes at most n levels. -/
def orderedReduce {α : Type} (f : α → α → α) (l : List α) : Option α := treeFold f l.length l

/-- R45: lane j of a vector reduction over a row: elements j, j + 64, j + 128 and so on, in ascending order. -/
def laneSum (row : List Nat) (j : Nat) : Nat :=
  ((List.range ((row.length - j + 63) / 64 - 1)).map fun i => row.getD (j + 64 * (i + 1)) 0).foldl fp32Add (row.getD j 0)

/-- R45: a vector reduction over a row of FP32 codes: the lane sums combined by the tree of R44 in lane order. Lanes past the end of a
short row take no part (DESIGN CHOICE). -/
def vectorRowSum (row : List Nat) : Option Nat := orderedReduce fp32Add ((List.range (min 64 row.length)).map (laneSum row))

/-- One round of R48 on the counter. -/
def philoxRound (c : Nat × Nat × Nat × Nat) (k0 k1 : Nat) : Nat × Nat × Nat × Nat :=
  let p0 := 0xD2511F53 * c.1
  let p1 := 0xCD9E8D57 * c.2.2.1
  (((p1 / 2 ^ 32) ^^^ c.2.1) ^^^ k0, p1 % 2 ^ 32, ((p0 / 2 ^ 32) ^^^ c.2.2.2) ^^^ k1, p0 % 2 ^ 32)

/-- R48: the rounds of Philox-4x32-10 left to do, with the key of the next round. -/
def philoxRounds : Nat → Nat × Nat × Nat × Nat → Nat → Nat → Nat × Nat × Nat × Nat
  | 0, c, _, _ => c
  | n + 1, c, k0, k1 =>
    philoxRounds n (philoxRound c k0 k1) ((k0 + 0x9E3779B9) % 2 ^ 32) ((k1 + 0xBB67AE85) % 2 ^ 32)

/-- R48: Philox-4x32-10. -/
def philox (c : Nat × Nat × Nat × Nat) (k0 k1 : Nat) : Nat × Nat × Nat × Nat := philoxRounds 10 c k0 k1

/-- R49: the 64-bit fraction of a token draw. -/
def tokenDraw (seed position seqKey : Nat) : Nat :=
  let x := philox (position % 2 ^ 32, seqKey % 2 ^ 32, 0, 0) (seed % 2 ^ 32) (seed / 2 ^ 32 % 2 ^ 32)
  x.2.1 * 2 ^ 32 + x.1

/-- One bit of CRC-32 (IEEE 802.3, reflected). -/
def crcBit (c : Nat) : Nat := if c % 2 = 1 then (c / 2) ^^^ 0xEDB88320 else c / 2

/-- One byte of CRC-32. -/
def crcByte (c : Nat) (b : Byte) : Nat :=
  crcBit (crcBit (crcBit (crcBit (crcBit (crcBit (crcBit (crcBit (c ^^^ b.toNat))))))))

/-- CRC-32 with the IEEE 802.3 polynomial. -/
def crc32 (l : List Byte) : Nat := l.foldl crcByte 0xFFFFFFFF ^^^ 0xFFFFFFFF

end Sys2Proof
end

