-- ==== Sys2Proof/Machine/BlocksDevice.lean ====
section
/-! DEFINITION. The state of wings, the hall, dies and links, doors and the device's processors: plain data only. -/
namespace Sys2Proof.Machine

/-- R22: a wing: its state code (0 up, 1 drained, 2 down) and its epoch. -/
structure Wing where
  state : Nat := 2
  epoch : Nat := 0
  deriving DecidableEq, Repr, Inhabited

/-- R533: a message of a wing controller to a room: KIND, SEQ and ARG in one word, and its detail. -/
structure WingMsg where
  word : W64
  detail : W64
  deriving DecidableEq, Repr

/-- R533: the mailbox entry of a room: the message placed, and those kept in posting order. -/
structure Mailbox where
  msg : W64 := 0
  detail : W64 := 0
  pending : Bool := false
  lost : Bool := false
  queue : List WingMsg := []
  seq : Nat := 0
  deriving DecidableEq, Repr, Inhabited

/-- R383: how a thread of a job stands. -/
inductive ThreadEnd where
  | running
  | exited (v : W64)
  | absent
  | refused (status : Nat)
  deriving DecidableEq, Repr

/-- R383: a job: the number of its descriptor, and its threads in thread order. -/
structure Job where
  id : Nat
  threads : List ThreadEnd
  deriving DecidableEq, Repr

/-- R346: an entry of a completion cache: its key, its generation, and the response that was sent. -/
structure CacheEntry where
  dev : Nat
  die : Nat
  isl : Nat
  tag : Nat
  gen : Nat
  status : Nat
  data : List Byte
  time : Nat
  deriving DecidableEq, Repr

/-- R346–R348: the completion cache of a home island, oldest entry first, and its overflow horizon. -/
structure HomeCache where
  entries : List CacheEntry := []
  horizon : Option Nat := none
  deriving DecidableEq, Repr, Inhabited

/-- R376: the states and causes of a submission ring. -/
inductive RingState where
  | disabled | running | stopped | orphaned
  deriving DecidableEq, Repr, Inhabited

/-- R376: a submission ring: its configuration and its live state. -/
structure SubRing where
  base : Nat := 0
  enable : Bool := false
  priv : Bool := false
  owner : Nat := 0
  sizeLog2 : Nat := 6
  cq : Nat := 0
  weight : Nat := 1
  guardBase : Nat := 0
  guardSize : Nat := 0
  head : Nat := 0
  tail : Nat := 0
  /-- R379: descriptors are fetched up to here: TAIL, or further after a TAIL that was moved back -/
  limit : Nat := 0
  state : RingState := .disabled
  cause : Nat := 0
  deriving DecidableEq, Repr, Inhabited

/-- R377, R382: a completion ring; `written` holds when each pending entry was written, oldest first, and `fired` whether the
vector has been sent for them. -/
structure ComRing where
  base : Nat := 0
  enable : Bool := false
  owner : Nat := 0
  sizeLog2 : Nat := 6
  vector : Nat := 0
  irqEn : Bool := false
  coalCount : Nat := 1
  coalTime : Nat := 0
  head : Nat := 0
  tail : Nat := 0
  written : List Nat := []
  fired : Bool := false
  deriving DecidableEq, Repr, Inhabited

/-- R380, R381: a fetched descriptor that has not completed: its own number, its ring, its words, and whether it has started. -/
structure Desc where
  id : Nat
  sq : Nat
  words : List W64
  started : Bool := false
  deriving DecidableEq, Repr

/-- R382, R389: a completion that waits in a door; one that an adoption finds held is written with SQ_HEAD 0. -/
structure Completion where
  sq : Nat
  opcode : Nat
  tag : W64
  status : Nat
  d0 : Nat
  d1 : Nat
  adopted : Bool := false
  /-- R261: the door channel that is free once the entry is written -/
  chan : Option Nat := none
  deriving DecidableEq, Repr

/-- R387: an event on its way to a door's host: its kind and its two details. -/
structure Event where
  kind : Nat
  d0 : Nat
  d1 : Nat
  deriving DecidableEq, Repr

/-- One door (R369–R391): what is not a register with a value of its own. -/
structure Door where
  /-- R388: the PCIe Data Link is up -/
  linkUp : Bool := false
  /-- R371, R388: since when a Data Link Down, PERST_N or D3hot has lasted -/
  lostSince : Option Nat := none
  hostLost : Bool := false
  /-- R391: the door die is down -/
  down : Bool := false
  /-- R387: events held, the number of the next event, and events dropped since the last EVENT_LOST -/
  events : List Event := []
  eventSeq : Nat := 0
  dropped : Nat := 0
  /-- R380: the ring served last and the fetches it may still have in its turn -/
  turn : Nat := 0
  turnLeft : Nat := 0
  /-- R394: MSI-X vectors pending -/
  msixPending : List Nat := []
  deriving DecidableEq, Repr, Inhabited

/-- R388: accesses of the part reach the host of the door. -/
def Door.hostUp (x : Door) : Bool := x.linkUp && !x.hostLost

end Sys2Proof.Machine
end

