-- ==== Sys2Proof/Machine/BlocksRoom.lean ====
section
/-! DEFINITION. The state of harts, rooms, matrix arrays and attics (R9–R10, R31, R50–R92, R85–R184, R470–R482): plain data only. -/
namespace Sys2Proof.Machine

/-- R85, R86: the privilege levels of a hart. -/
inductive Priv where
  | user | supervisor | machine
  deriving DecidableEq, Repr, Inhabited

/-- R148: the conditions of a watched word. -/
inductive Cond where
  | eq | ne | ge32 | all | any
  deriving DecidableEq, Repr

/-- R148, R269: a word under watch: a pantry word by its offset, or one of the room's completion counts. -/
inductive Watched where
  | pantry (off : Nat)
  | arrayCount
  | avuCount
  | dwCount (channel : Nat)
  deriving DecidableEq, Repr

/-- R148: what a watch has found: nothing, the first value that met the condition, or poison. -/
inductive WatchHit where
  | none
  | value (v : W64)
  | poison
  deriving DecidableEq, Repr

/-- R148, R269: a watch on a word: its condition, comparand and finding. -/
structure Watch where
  word : Watched
  cond : Cond
  cmp : W64
  hit : WatchHit := .none
  deriving DecidableEq, Repr

/-- R111: the room's work that was issued before a view fence: requests by tag and generation, stages by their place in the
order of queueing, and dispatched AVU commands by their place in the order of entry. -/
structure FenceWork where
  reqs : List (Nat × Nat) := []
  stages : List Nat := []
  avus : List Nat := []
  deriving DecidableEq, Repr, Inhabited

/-- R85, R86: what a hart waits for. -/
inductive HartWait where
  /-- ready to execute -/
  | none
  /-- a full queue, or a full set of collective entries: the instruction word is issued again -/
  | stall (w : W32)
  /-- the result of an outstanding request, by its tag -/
  | result (tag : Nat)
  /-- FENCE: earlier stores not yet performed -/
  | fence
  /-- the view fence of R111, over ranges of attic bytes of the own room, and the room's work that it waits for -/
  | vfence (ranges : List (Bool × Nat × Nat)) (work : FenceWork)
  | wfi
  | watch (rd : Nat) (va : W64) (k : Watch) (deadline : Option Nat)
  | rbar (rd : Nat) (id : Nat) (deadline : Option Nat)
  | gbar (rd : Nat) (deadline : Option Nat)
  | join (rd : Nat) (child : W32)
  /-- R107: an outstanding store with its acquire bit, by its tag: the instruction retires once it is performed -/
  | acquire (tag : Nat)
  deriving DecidableEq, Repr

/-- R154: the hart's pending global barrier: its COLL_ID, and its result once there is one. -/
structure GbarPending where
  collId : Nat
  result : Option Nat
  deriving DecidableEq, Repr

/-- R112: a reservation: the key of its first byte, and the width. -/
structure Reservation where
  key : Nat
  bytes : Nat
  deriving DecidableEq, Repr

/-- R108: what an outstanding request of a hart does with its response. -/
inductive ReqKind where
  | load (rd bytes : Nat) (unsigned fp pair : Bool)
  | atomic (rd : Nat) (op : HomeAtomic) (pair : Bool)
  | store (data : List Byte)
  | signal (op : HomeAtomic)
  | spawn (rd : Nat) (m : SpawnMsg)
  deriving DecidableEq, Repr

/-- One hart: its registers, its privileged state and what it waits for (R85–R90, R112, R122, R130, R154). -/
structure Hart where
  idle : Bool := true
  halted : Bool := false
  wait : HartWait := .none
  pc : W64 := 0
  priv : Priv := .machine
  x : Tab W64 := []
  f : Tab W64 := []
  fcsr : W32 := 0
  mstatus : W64 := 0
  satp : W64 := 0
  mtvec : W64 := 0
  stvec : W64 := 0
  mepc : W64 := 0
  sepc : W64 := 0
  mcause : W64 := 0
  scause : W64 := 0
  mtval : W64 := 0
  stval : W64 := 0
  mscratch : W64 := 0
  sscratch : W64 := 0
  medeleg : W64 := 0
  mideleg : W64 := 0
  mie : W64 := 0
  mcounteren : W64 := 0
  scounteren : W64 := 0
  /-- R122: SZ_GSTATUS.STORE_ERR -/
  storeErr : Bool := false
  /-- R122: SZ_GSTATUS.LAST_CODE -/
  lastCode : BitVec 4 := 0
  /-- R130: SZ_WAITCFG.WAIT_TMO, in µs -/
  waitTmo : W32 := 0
  resv : Option Reservation := none
  gbar : Option GbarPending := none
  /-- the thread ID of the spawner, where the thread was started by a spawn (R90, R157) -/
  spawner : Option W32 := none
  /-- the door job that started the thread, and the thread's index in it (R383) -/
  job : Option (Nat × Nat) := none
  /-- R513: a timeout or poison trap that a halted hart takes when it resumes: cause and value -/
  heldTrap : Option (Nat × W64) := none
  /-- R513: a result that a halted hart takes when it resumes: what asked for it, and its data -/
  heldResult : Option (ReqKind × List Byte) := none
  deriving DecidableEq, Repr, Inhabited

/-- R156, R90: what is known of a child: running, ended with a value, or absent. -/
inductive ChildEnd where
  | running
  | exited (v : W64)
  | absent
  deriving DecidableEq, Repr

/-- R342: the state of a tag of a requester island. -/
inductive TagState where
  | free | outstanding | held
  deriving DecidableEq, Repr, Inhabited

/-- R342: a tag: its generation and state. -/
structure TagEntry where
  gen : Nat := 0
  state : TagState := .free
  deriving DecidableEq, Repr, Inhabited

/-- R108, R342: an outstanding request of a hart of a room. -/
structure Req where
  room : Nat
  tag : Nat
  gen : Nat
  epoch : Nat
  hart : Nat
  kind : ReqKind
  pa : Nat
  va : W64
  cls : Nat
  issued : Nat
  deadline : Nat
  reissued : Bool := false
  deriving DecidableEq, Repr

/-- R90: one unjoined child of a hart of the room. -/
structure Child where
  parent : Nat
  thread : W32
  state : ChildEnd
  deriving DecidableEq, Repr

/-- R90, R313: an exit notice on its way to the spawner's room: child, spawner, status and value. -/
structure ExitMsg where
  child : W32
  parent : W32
  status : Nat
  value : W64
  deriving DecidableEq, Repr

/-- R149: an open instance of a room barrier: its count and the harts that have arrived. -/
structure Barrier where
  count : Nat
  arrived : List Nat
  deriving DecidableEq, Repr

/-- R263: what a unit translates with: the satp and privilege of the issuing hart's data accesses (R537), captured. -/
structure Authority where
  hart : Nat := 0
  satp : W64 := 0
  priv : Priv := .machine
  mstatus : W64 := 0
  deriving DecidableEq, Repr, Inhabited

/-- R99: a pointer entry held in the walk cache: its ASID, its level (3 to 1), the bits of the virtual address above the next
level, and the address of the next table. -/
structure WalkEntry where
  asid : Nat
  level : Nat
  prefix_ : Nat
  table : Nat
  deriving DecidableEq, Repr

/-- R96, R99: a translation held in a TLB: its ASID, the page number of its level, and the leaf. -/
structure TlbEntry where
  asid : Nat
  /-- 0: 64 KiB; 1: 32 MiB -/
  level : Nat
  vpn : Nat
  pte : Nat
  deriving DecidableEq, Repr

/-- R20–R22: the condition of a room, as the floor plan reports it. -/
structure RoomCond where
  epoch : Nat := 0
  spares : Nat := 0
  reason : Nat := 0
  state : Nat := 0
  halfSel : Bool := false
  groupsShort : Nat := 0
  /-- R19: bit b is 1 if bank b is usable -/
  bankMap : Nat := 0
  deriving DecidableEq, Repr, Inhabited

/-- R439, R484–R486, R419: where a room stands in a reset, drain, readmission or orderly stop. -/
inductive RoomPhase where
  | inService
  | resetRequest | resetSettle | inReset
  | draining | readmitReset | readmitTrain | readmitBoot | readmitResync | readmitPublish
  | stopGrace | stopClocks | stopNotice | stopPublish | stopped
  | resetTrain | startTrain
  | resetBoot | startBoot
  deriving DecidableEq, Repr


/-- One room: what is not a register of a block (R85–R123). -/
structure Room where
  cond : RoomCond := {}
  phase : RoomPhase := .inReset
  /-- R118: the count from which the epoch is taken -/
  count : Nat := 0
  /-- R99: the instruction TLB of 32 entries, the data TLB of 64, and the second-level TLB of 256 sets of 8, newest first -/
  itlb : List TlbEntry := []
  dtlb : List TlbEntry := []
  tlb : List TlbEntry := []
  /-- R99: the walk cache of 64 pointer entries, newest first -/
  walkCache : List WalkEntry := []
  /-- R454: when the room was released to its boot code -/
  bootSince : Nat := 0
  /-- R85: the hart that issued last -/
  lastIssued : Nat := 31
  /-- R101, R102: lines of the instruction cache, by address div 64, newest first -/
  icache : List Nat := []
  /-- R101, R103: lines of the data cache, by attic offset div 64 in the interleaved view, newest first: 128 sets of 8 -/
  dcache : List Nat := []
  barriers : Tab Barrier := []
  children : List Child := []
  /-- R454: what the boot code has reported since the room was released -/
  bootReport : Option Nat := none
  /-- R441, R484: the study has marked the room out of service -/
  marked : Bool := false
  deriving DecidableEq, Repr, Inhabited

/-- What bytes are guarded for: the weights of a slot of the stream buffer (R59), work that a unit holds, by a number of
the model (R146, R153, R191), a lease in use, by its key (R115), and of an entry of a sequence table, by its key, the
addresses while a command of this number names it, and PROV_VA while PROV_COUNT is not 0 (R214). A fresh guard covers what
a hart, by its key, has stored to its room's pantry since its last FENCE RW,O (R241). -/
inductive GuardKey where
  | slot (room slot : Nat)
  | work (n : Nat)
  | lease (key : Nat)
  | seq (n key : Nat)
  | prov (key : Nat)
  | fresh (hart : Nat)
  deriving DecidableEq, Repr

/-- The model's own: bytes, by ranges of keys, that software must leave alone for now, and whether it has stored to them, with the
ranges of those stores. -/
structure Guard where
  key : GuardKey
  room : Nat
  ranges : List (Nat × Nat)
  hit : Bool := false
  stores : List (Nat × Nat) := []
  deriving DecidableEq, Repr

/-- R71, R134: an entry of the array queue. -/
structure ArrayEntry where
  /-- the eight words of the descriptor -/
  words : List W64
  /-- the issuing hart -/
  hart : Nat
  /-- started: the entry runs (R63) -/
  started : Bool := false
  /-- the status found by a check, a timeout or an abort; 0 while there is none -/
  status : Nat := 0
  /-- R63: products that a started pass is about to land: accumulator entry and contribution -/
  adds : List (Nat × Xa) := []
  deriving DecidableEq, Repr

/-- R58, R137: an entry of the stage queue. -/
structure Stage where
  /-- R111: its place in the order in which the room's stages were queued -/
  n : Nat := 0
  slot : Nat
  len : Nat
  src : W64
  auth : Authority
  started : Bool := false
  /-- R137: what each page of the source was mapped to when the stage was queued -/
  pages : List (Option Nat) := []
  deriving DecidableEq, Repr

/-- R57: a slot of the stream buffer: its state code and its staged length. -/
structure Slot where
  state : Nat := 0
  len : Nat := 0
  deriving DecidableEq, Repr, Inhabited

/-- R68, R82: the power states of the array. -/
inductive ArrayPower where
  | idle | ramping | running | dummy | steppingDown
  deriving DecidableEq, Repr, Inhabited

/-- R65–R67: the level of a pass. -/
structure Level where
  fold : Nat := 0
  axis : Nat := 0
  tileFmt : Nat := 0
  weightFmt : Nat := 0
  hart : Nat := 0
  deriving DecidableEq, Repr, Inhabited

/-- One matrix array (R50–R84). -/
structure ArrayB where
  queue : List ArrayEntry := []
  stages : List Stage := []
  /-- R111: stages queued so far -/
  staged : Nat := 0
  /-- R58, R65: when the entry and the stage at the heads of the two queues got there -/
  headSince : Nat := 0
  stageSince : Nat := 0
  slots : Tab Slot := []
  /-- R64: entries written since the last room reset; every other entry is unspecified (R79) -/
  xa : Tab Xa := []
  /-- R79, R80: the free value of entries not listed -/
  xaGen : Nat := 0
  owner : Option Nat := none
  releasePending : Bool := false
  power : ArrayPower := .idle
  /-- R69: the wake grant has been given -/
  granted : Bool := false
  level : Level := {}
  /-- R67: the next pass is a level change whatever its fields -/
  levelChange : Bool := true
  deriving DecidableEq, Repr, Inhabited

/-- R163: what an attic request does. -/
inductive AtticOp where
  | read
  | write (bytes : List Byte)
  deriving DecidableEq, Repr

/-- R163: one granule request in the controller's queue. -/
structure AtticReq where
  id : Nat
  cls : Nat
  banked : Bool
  off : Nat
  len : Nat
  op : AtticOp
  /-- R178: words of the granule that await their second read, with the lane at fault -/
  retry : List (Nat × Nat) := []
  /-- words that will be delivered poisoned after their second read -/
  bad : List Nat := []
  /-- R299: when the request arrived -/
  arrived : Nat := 0
  deriving DecidableEq, Repr

/-- R163: the answer to a performed request: its bytes, and whether any of its words is poisoned or in error. -/
structure AtticReply where
  id : Nat
  bytes : List Byte
  poisoned : List Nat
  error : Bool
  deriving DecidableEq, Repr

/-- R299, R300, R303: a traffic class of a regulated queue: its configuration, the latencies of its last 256 requests in
ns (newest first), and its bytes in the present and the last window. -/
structure RegClass where
  share : Nat
  prio : Nat
  latTarget : Nat
  bwCap : Nat
  history : List Nat := []
  bytes : Nat := 0
  bytesLast : Nat := 0
  /-- R299: STEP as of the last completion -/
  stepped : Nat := 0
  deriving DecidableEq, Repr, Inhabited

/-- R303: the reset configuration of the eight classes. -/
def regClassesReset : List RegClass :=
  [{ share := 2, prio := 2, latTarget := 0x3E8, bwCap := 0 }, { share := 8, prio := 4, latTarget := 0x64, bwCap := 0 },
   { share := 12, prio := 3, latTarget := 0xC8, bwCap := 0 }, { share := 16, prio := 3, latTarget := 0x190, bwCap := 0 }] ++
  [{ share := 8, prio := 2, latTarget := 0xC8, bwCap := 0 }, { share := 4, prio := 1, latTarget := 0x7D0, bwCap := 0 },
   { share := 4, prio := 1, latTarget := 0x3E8, bwCap := 0 }, { share := 2, prio := 0, latTarget := 0x2710, bwCap := 0x80 }]

/-- R303: the regulation block of a queue, with the class served last (R301). -/
structure RegQ where
  enable : Bool := true
  shareRej : Bool := false
  classes : List RegClass := regClassesReset
  last : Nat := 7
  deriving DecidableEq, Repr, Inhabited

/-- R171, R175: phases of a band relock and of a lane recalibration. -/
inductive StairPhase where
  | running
  | relockHold | relocking
  | recalHold (group : Nat) | recalPublish
  | stopped
  deriving DecidableEq, Repr, Inhabited

/-- R110: a use of attic bytes through one view, in within-bank bytes. -/
structure ViewUse where
  banked : Bool
  bank : Nat
  lo : Nat
  hi : Nat
  deriving DecidableEq, Repr

/-- R470–R474: one repair of an attic row. -/
structure RowRepair where
  bank : Nat
  row : Nat
  spare : Nat
  permanent : Bool
  deriving DecidableEq, Repr

/-- R472: the phases of a soft repair in progress. -/
inductive RepairPhase where
  | hold | copy | log
  deriving DecidableEq, Repr

/-- One attic and its controller (R158–R185, R470–R473). -/
structure AtticB where
  queue : List AtticReq := []
  /-- R298, R301: granule requests that wait for an entry, oldest first -/
  waiting : List AtticReq := []
  /-- answers of requests, newest last -/
  replies : List AtticReply := []
  nextId : Nat := 0
  /-- R168, R413: the three layer sensors in quarters of °C, and those that are invalid (R415) -/
  temps : Int × Int × Int := (0, 0, 0)
  bad : List Nat := []
  band : Nat := 0
  /-- R169: the stair runs one step down; its timing margin (0 base, 1 margin B, 2 margin C) -/
  stepDown : Bool := false
  /-- R445: STAIR_STEP of the option block -/
  alwaysDown : Bool := false
  margin : Nat := 0
  phase : StairPhase := .stopped
  /-- R170: refreshes of each bank postponed, and refreshes performed -/
  postponed : Tab Nat := []
  refreshes : Nat := 0
  /-- R175: times of the correctable stair errors of each lane -/
  laneCe : Tab (List Nat) := []
  /-- R175, R178, R498: groups to be recalibrated, oldest first -/
  recalDue : List Nat := []
  /-- R174: failed lanes known -/
  failedLanes : List Nat := []
  half : Bool := false
  halfSel : Bool := false
  /-- R172: contents lost at a hard stop -/
  hotLoss : Bool := false
  views : List ViewUse := []
  /-- R471: correctable events of rows: bank, row, time -/
  rowEvents : List (Nat × Nat × Nat) := []
  repairs : List RowRepair := []
  /-- R472: the repairs in progress -/
  repairing : List (RowRepair × RepairPhase) := []
  deriving DecidableEq, Repr, Inhabited

/-- R376, R385: what a ring allows its door programs to reach. -/
structure DoorLimits where
  priv : Bool := false
  guardBase : Nat := 0
  guardSize : Nat := 0
  deriving DecidableEq, Repr, Inhabited

/-- R260: a program queued on a dumbwaiter channel: its physical address and what it translates with; for a door program
(R261) the ring descriptor it answers, and what its ring allows. -/
structure DwProgram where
  addr : Nat
  auth : Authority := {}
  job : Nat := 0
  limits : DoorLimits := {}
  /-- R146: its guard, 0 for none -/
  guard : Nat := 0
  /-- R263: memory as it stood when the program was queued, by which a page that software remaps is told -/
  tables : List Host.Cell := []
  deriving DecidableEq, Repr, Inhabited

/-- R279: the states of a channel. -/
inductive DwState where
  | idle | running | waiting | halted
  deriving DecidableEq, Repr, Inhabited

/-- One dumbwaiter channel (R260–R279). -/
structure DwChan where
  queue : List DwProgram := []
  state : DwState := .idle
  step : Nat := 0
  srcAdj : W64 := 0
  dstAdj : W64 := 0
  idxAdj : W64 := 0
  /-- R268: the loop counters: step and executions left, innermost first -/
  stack : List (Nat × Nat) := []
  tag : Nat := 0
  recAlways : Bool := false
  flags : Nat := 0
  skipped : Nat := 0
  bytes : Nat := 0
  watch : Option Watch := none
  deadline : Option Nat := none
  /-- R269: keys of the bytes that steps have written since the last step that waited for earlier writes -/
  wrote : List Nat := []
  /-- R262, R270: the end that the running program has met, status and failing address, before its record is written -/
  ended : Option (Nat × Nat) := none
  /-- R385: what an error of a door program completes its command with -/
  doorStatus : Nat := 0x14
  /-- R261: the program of a door channel has ended, and its completion entry is not written yet -/
  writing : Bool := false
  deriving DecidableEq, Repr, Inhabited

/-- R271: a completed program whose record, if it has one, and count have not left yet: its channel, and whether the channel
is then halted. -/
structure DwLeaving where
  chan : Nat
  record : Option (List Byte)
  halt : Bool
  deriving DecidableEq, Repr

/-- A byte and whether the word it lies in is poisoned (R465). -/
abbrev PByte := Byte × Bool

/-- R227: a log-sum-exp record: its flags, its arithmetic flags, and its values as FP32 codes. -/
structure LseRecord where
  flags : Nat := 1
  arith : Nat := 0
  m : Nat := 0
  l : Nat := 0
  blocks : Nat := 0
  o : List Nat := []
  deriving DecidableEq, Repr, Inhabited

/-- R216, R217, R223: a query row of a dispatched attention step: its mask, the flags of a row with no work, its query. -/
structure AttnRow where
  mask : Nat
  flags : Nat
  query : List PByte
  deriving DecidableEq, Repr

/-- R221: a batch entry of a dispatched attention step, with the committed length of its snapshot. -/
structure AttnEntry where
  rows : List AttnRow
  len : Nat
  first : Nat
  runLog2 : Nat
  final : Bool
  outOff : Nat
  /-- R234: the keys of its sequence entry -/
  seq : List (Nat × Nat) := []
  deriving DecidableEq, Repr

/-- R226: a row over a block, to be formed by the AVU of a bank. -/
structure AttnItem where
  entry : Nat
  blk : Nat
  row : Nat
  bank : Nat
  deriving DecidableEq, Repr

/-- R189: a command of the AVU queue. -/
structure AvuCmd where
  words : List W64
  auth : Authority
  /-- R243: its place in the order in which commands entered the room's two queues -/
  entered : Nat := 0
  /-- the dispatcher is done with it -/
  dispatched : Bool := false
  /-- R203: it has passed its checks and runs, or has run -/
  ran : Bool := false
  /-- R191: it uses entries that a command with unspecified results has written -/
  spoiled : Bool := false
  /-- R202, R206: the status found by a check or an abort; 0 while there is none -/
  status : Nat := 0
  /-- R203: the first failing bank -/
  bank : Nat := 0
  /-- R195: the bytes broadcast into the activation buffers of the named AVUs -/
  buf : List PByte := []
  /-- R189: translated pages of the operands: key (operand, bank, page), value the banked offset of the page -/
  pages : Tab Nat := []
  /-- banks that have finished the command -/
  done : List Nat := []
  /-- R203: the flags of the exported values, and whether a poisoned one was exported -/
  arith : Nat := 0
  poisoned : Bool := false
  /-- R223: the snapshot of an attention step, its work not yet done, its partials, and its rows written -/
  attn : List AttnEntry := []
  work : List AttnItem := []
  partials : List (AttnItem × LseRecord) := []
  rowsDone : List (Nat × Nat) := []
  /-- R191: its guard, 0 for none -/
  guard : Nat := 0
  deriving DecidableEq, Repr, Inhabited

/-- The AVUs of a room (R186–R208). -/
structure AvuB where
  queue : List AvuCmd := []
  /-- R186: accumulator entries written since the last room reset, by bank × 512 + entry; others are unspecified (R199) -/
  xa : Tab Xa := []
  xaGen : Nat := 0
  /-- R243: commands that have entered the AVU and tree queues -/
  entered : Nat := 0
  deriving DecidableEq, Repr, Inhabited

/-- R241: a command of the tree queue: its words, whether its copy read poisoned, what it translates with, its place in
the order of R243, its guard (R214), and what its writer had stored without a fence (R241). -/
structure TreeCmd where
  words : List W64
  poisoned : Bool := false
  auth : Authority := {}
  entered : Nat := 0
  guard : Nat := 0
  unfenced : List (Nat × Nat) := []
  /-- R419: it completes with ABORTED when it reaches the head of the queue -/
  aborted : Bool := false
  deriving DecidableEq, Repr, Inhabited

/-- R241: the tree unit of a room. -/
structure TreeB where
  queue : List TreeCmd := []
  deriving DecidableEq, Repr, Inhabited

/-- R478: an error record. -/
structure ErrRecord where
  cause : Nat
  severity : Nat
  die : Nat
  seq : Nat := 0
  time : Nat := 0
  flags : Nat := 0
  room : Nat := 0
  bank : Nat := 0
  within : Nat := 0
  lane : Nat := 0
  count : Nat := 1
  info : Nat := 0
  deriving DecidableEq, Repr, Inhabited

/-- R482: the room error block's ring: records placed and consumed are the registers ERR_PROD and ERR_CONS. -/
abbrev ErrRing := Tab ErrRecord

/-- R480: an open window for correctable records of one cause at one die and room: the record that opened it, the further
occurrences, and when the first of those was. -/
structure CeWindow where
  cause : Nat
  die : Nat
  room : Nat
  record : ErrRecord
  further : Nat
  again : Nat := 0
  deriving DecidableEq, Repr

end Sys2Proof.Machine
end

