-- ==== Sys2Proof/Machine/BlocksFabric.lean ====
section
/-! DEFINITION. The state of collectives, the hall, die-to-die modules, links and the fabric: plain data only. -/
namespace Sys2Proof.Machine

/-! ## Collectives (R151–R154, R291–R295, R358–R361) -/

/-- R358: the signature of a contribution. -/
structure CollSig where
  op : Nat
  arith : Nat
  elem : Nat
  partialOut : Bool
  cls : Nat
  ew : Nat
  members : Nat
  count : Nat
  crc : Nat
  deriving DecidableEq, Repr, Inhabited

/-- R153: an outstanding collective of a room: its slot, the hart that issued it, its descriptor, what it translates with,
the thread ID of member 0, when it was issued, and when its class timeout ends; gbar for sz.gbar. -/
structure CollEntry where
  slot : Nat
  hart : Nat
  words : List W64
  auth : Authority
  m0 : W32 := 0
  issued : Nat := 0
  due : Nat := 0
  gbar : Bool := false
  /-- R153: its guard, 0 for none -/
  guard : Nat := 0
  /-- R151: the counts table as it was read at the contribution; none where it could not be read -/
  table : Option (List Byte) := some []
  deriving DecidableEq, Repr, Inhabited

/-- R359: what a member has contributed: its data, by destination member for ALL_TO_ALL, as elements ready to combine, and
the flags of its conversion (R43). -/
structure CollPart where
  member : Nat
  segs : List (List PByte)
  flags : Nat
  deriving DecidableEq, Repr

/-- R291, R360: a combined chunk of a subtree: its level, its first member and the chunk's index. -/
structure CollChunk where
  level : Nat
  first : Nat
  chunk : Nat
  data : List PByte
  flags : Nat
  deriving DecidableEq, Repr

/-- R358: an instance: its key, the signature of its first contribution, its member list, what has arrived, what is
combined, and the members of this device that have completed. -/
structure CollInst where
  id : W32
  m0 : W32
  sig : CollSig
  members : List W32
  parts : List CollPart := []
  nodes : List CollChunk := []
  done : List Nat := []
  /-- R153: the guards of its members on this device -/
  guards : List Nat := []
  /-- R358: two collectives with this COLL_ID and a member in common have been outstanding -/
  mixed : Bool := false
  /-- R419: members whose rooms stop, with how many of their chunks have been sent: none follows -/
  frozen : Tab Nat := []
  deriving DecidableEq, Repr

/-- R358: a kept end. -/
structure KeptEnd where
  id : W32
  m0 : W32
  status : Nat
  failed : Nat
  time : Nat
  deriving DecidableEq, Repr

/-! ## The hall (R281–R296, R304) -/

/-- R282, R286: a packet that a port of a router holds: its destination (entry of the routing table), the device it is for, its
header with the channel set and bank of its route, what follows the header, and when it arrived. -/
structure HallPacket where
  dst : Nat
  dev : Nat
  header : W128
  body : List Byte
  entered : Nat
  deriving DecidableEq, Repr

/-- R296: a combined atomic that a landing holds: its address and class, the sum of the addends, its contributors, when it was
opened, the tag it was forwarded with and when, whether it was reissued, and when it was acknowledged. -/
structure Combined where
  addr : Nat
  cls : Nat
  sum : W128
  from_ : List ReqHeader
  opened : Nat
  tag : Option Nat := none
  sent : Nat := 0
  reissued : Bool := false
  acked : Option Nat := none
  deriving DecidableEq, Repr

/-- R281, R286, R296: a hall router with its landing: the bank in use, the table epoch, the ports marked up, the packets of
each port, and the atomics held. -/
structure HallB where
  active : Nat := 0
  epoch : Nat := 0
  portUp : List Nat := []
  ports : Tab (List HallPacket) := []
  atomics : List Combined := []
  deriving DecidableEq, Repr, Inhabited

/-! ## Die-to-die modules and identity (R305–R322) -/

/-- R310, R322: one end of a module: its STATE code, its training phase (0 none, 1 sideband, 2 mainband, 3 adapter, 4 CAP
accepted), its failed tries, what it has read of its peer, its credits by virtual channel, and its counts. -/
structure ModuleB where
  state : Nat := 0
  phase : Nat := 0
  failed : Nat := 0
  tries : Nat := 0
  peerIndex : Nat := 0
  peerMajor : Nat := 0
  peerMinor : Nat := 0
  peerGen : Nat := 0
  peerMaker : Nat := 0
  rxRepaired : Nat := 0
  txRepaired : Nat := 0
  grant : Nat := 0
  credits : Tab Nat := []
  retries : Nat := 0
  crcErrors : Nat := 0
  deriving DecidableEq, Repr, Inhabited

/-- R319, R320: what a die has read of its fuses: nothing yet, a good block, or one that fails its check. -/
inductive FuseState where
  | unread | good | bad
  deriving DecidableEq, Repr, Inhabited

/-- R317, R318: what is known of a die: its fuses, whether it lacks what its kind needs, whether its landing combines, the
operations that it serves, and the CAP record that the study has gathered of it. -/
structure DieB where
  fuses : FuseState := .unread
  unfit : Bool := false
  combine : Bool := true
  opcMap : Nat := 0x7FFFFF03
  cap : Option CapRecord := none
  deriving DecidableEq, Repr, Inhabited

/-! ## Links (R323–R351) and the fabric (R352–R368) -/

/-- R328, R330: a DATA flit that is not acknowledged: its number, its 15 cells, the cell of the first packet that begins in it,
when it was last sent, and how often it was replayed. -/
structure HeldFlit where
  seq : Nat
  cells : List Byte
  next : Nat
  sent : Nat
  replays : Nat := 0
  deriving DecidableEq, Repr

/-- R332: the receive side of a virtual channel: cells granted to the partner or in use, beyond which are pool cells, and
cells whose return has not been reported. -/
structure RxChan where
  out : Nat := 64
  ret : Nat := 0
  deriving DecidableEq, Repr, Inhabited

/-- One link: its state and cause (LINK_STATUS codes), its training, its partner, its sender, its receiver, its credits
and its timers. -/
structure LinkB where
  state : Nat := 0
  cause : Nat := 0
  epoch : Nat := 0
  /-- R337: 0 none, 1 signal, 2 PMD, 3 PCS, 4 init, 5 confirm; and failed tries -/
  phase : Nat := 0
  failed : Nat := 0
  peerValid : Bool := false
  peerDev : Nat := 0
  peerLink : Nat := 0
  peerBoot : Nat := 0
  txSeq : Nat := 0
  expect : Nat := 0
  held : List HeldFlit := []
  /-- R333: egress queue: packets with their times of arrival -/
  egress : List (FabPacket × Nat) := []
  credits : Tab Nat := []
  peerBacklog : Nat := 0
  rx : List FabPacket := []
  /-- a packet is partly received -/
  cut : Bool := false
  chans : Tab RxChan := []
  pool : Nat := 7168
  granted : Nat := 15
  nak : Option Nat := none
  progress : Nat := 0
  replayTimes : List Nat := []
  beats : Nat := 0
  lastBeat : Nat := 0
  /-- R339: a recalibration is asked for, here or by the partner, and whether software asked -/
  recalAsked : Bool := false
  recalSoft : Bool := false
  /-- R340: DRAIN_DONE has been sent; it has been received -/
  doneSent : Bool := false
  donePeer : Bool := false
  /-- R340: the retrain of a recalibration is done -/
  retrained : Bool := false
  /-- R337, R340: INIT, and INIT_ACK, have been received in this init phase -/
  gotInit : Bool := false
  gotAck : Bool := false
  /-- R341: when the link last went down -/
  downAt : Nat := 0
  /-- R366: TX_TIME of the last TIME flit received and when it arrived, and what the partner reported -/
  peerTx : Nat := 0
  peerRx : Nat := 0
  report : Option (Nat × Nat × Nat) := none
  deriving DecidableEq, Repr, Inhabited

/-- R366, R368: global time as this device keeps it. -/
structure TimeB where
  root : Nat := 0
  dist : Nat := 0xFF
  parent : Nat := 0
  locked : Bool := false
  everLocked : Bool := false
  err : Nat := 0xFFFF
  offset : Int := 0
  lastParent : Nat := 0
  deriving DecidableEq, Repr, Inhabited

/-- R356, R368: the fabric block: the bank in use, the epoch, and the entries written, by bank × 2^16 + index (flat entries
at their device, hierarchical ones from 2^15 on). -/
structure FabricB where
  active : Nat := 0
  epoch : Nat := 0
  wiringErr : Bool := false
  table : Tab Nat := []
  /-- R365: devices being probed, and since when -/
  probes : Tab Nat := []
  time : TimeB := {}
  deriving DecidableEq, Repr, Inhabited

end Sys2Proof.Machine
end

