-- ==== Sys2Proof/Machine/BlocksSystem.lean ====
section
/-! DEFINITION. The state of power, temperature, reset and bring-up, firmware, service and test access: plain data only. -/
namespace Sys2Proof.Machine

/-! ## Power (R395–R409) -/

/-- R404: an event that needs a grant: its account (R403), its cost in mA and when it was asked for. -/
structure GrantReq where
  kind : GrantKind
  room : Nat
  fall : Bool
  cost : Nat
  time : Nat
  deriving DecidableEq, Repr

/-- R403: a rise or fall account of a wing: its level in nA at a time, and its requests in order of arrival. -/
structure Account where
  level : Nat := 0
  since : Nat := 0
  queue : List GrantReq := []
  deriving DecidableEq, Repr, Inhabited

/-- R401, R406, R409, R417: a room's clock: its target, by how much headroom relief lowers it, its thermal target (0 none),
its headroom alarms. -/
structure RoomPower where
  mhz : Nat := 0
  relief : Nat := 0
  therm : Nat := 0
  alarms : Nat := 0
  deriving DecidableEq, Repr, Inhabited

/-- The hearth's power side. -/
structure PowerB where
  /-- R403: the option block's ramp and cap; and the number of wings that the shares are taken for -/
  ramp : Nat := 200
  acctCap : Nat := 1000
  share : Nat := 24
  /-- accounts by wing × 2, the fall account at + 1 -/
  accounts : Tab Account := []
  /-- grants given and not yet used -/
  issued : List GrantReq := []
  rooms : Tab RoomPower := []
  /-- R406: PWR_CAP as written; none while it stands at TDP -/
  cap : Option Nat := none
  /-- R406: how far the cap lowers the common target, in MHz -/
  lowered : Nat := 0
  powerW : Nat := 0
  /-- R406: 1 ms averages, newest last, at most ten; and when the effective cap last changed -/
  history : List Nat := []
  capSince : Nat := 0
  capLast : Nat := 0
  vinSet : Nat := 0
  vinMeas : Nat := 0
  vinAmps : Nat := 0
  avsOk : Bool := false
  avsFails : Nat := 0
  avsFail : Bool := false
  /-- R399: islands whose alarm is active, times of recent alarms, and the last time an alarm was active -/
  alarms : List Island := []
  alarmTimes : List Nat := []
  lastAlarm : Nat := 0
  /-- R408: references lost -/
  refLost : List RefInput := []
  deriving DecidableEq, Repr, Inhabited

/-! ## Temperature (R410–R437) -/

/-- R413–R417: what the hearth knows of the heat of a room's logic: two floor sensors in quarters of °C, the invalid ones
among its five (0, 1 floor; 2, 3, 4 layers), its logic band, and where it stands in a stop or in keep-warm. -/
structure RoomTherm where
  floor : Int × Int := (0, 0)
  invalid : List Nat := []
  band : Nat := 0
  warm : Bool := false
  stopReason : Nat := 0
  stopSince : Nat := 0
  /-- R421: since when the room has been cool; and the event READMISSIBLE has been sent -/
  coolSince : Option Nat := none
  readmissible : Bool := false
  deriving DecidableEq, Repr, Inhabited

/-- R413, R414: the sensors of a wing, porch or door die in quarters of °C, the invalid ones, and its logic band. -/
structure DieTherm where
  temps : List Int := []
  invalid : List Nat := []
  band : Nat := 0
  deriving DecidableEq, Repr, Inhabited

/-- R432: thermal cycles of a wing: the count, the last turning points in °C, and whether it is past its rating. -/
structure WingCycles where
  count : Nat := 0
  peak : Int := 0
  trough : Int := 0
  falling : Bool := false
  past : Bool := false
  deriving DecidableEq, Repr, Inhabited

/-- R427, R428: the causes of a device orderly stop. -/
inductive StopCause where
  | pwrWarn | flow | rail
  deriving DecidableEq, Repr

/-- The hearth's thermal side. -/
structure ThermB where
  rooms : Tab RoomTherm := []
  dies : Tab DieTherm := []
  cycles : Tab WingCycles := []
  /-- R437: THERM_CFG; none while KEEP_WARM_C stands at the option block's floor -/
  keepWarm : Option Nat := none
  slopeLimit : Nat := 0x32
  /-- R424: samples of the device attic maximum in quarters of °C and of power, newest last; the slope in 0.01 K/s -/
  samples : List (Int × Nat) := []
  slope : Int := 0
  /-- R423: steps of 5% of TDP by which SLOPE_CAP is lowered; when it last moved; since when the slope is low -/
  slopeSteps : Nat := 0
  slopeMoved : Nat := 0
  slopeHolds : Bool := false
  slopeLow : Option Nat := none
  /-- R425: the report in force: flow in percent, inlet, time; and since when telemetry is in class, while TELEM_CAP is low -/
  report : Option (Nat × Nat × Nat) := none
  coolReg : Nat := 0
  telemCap : Option Nat := none
  telemGood : Option Nat := none
  emergency : Bool := false
  flowOk : Bool := false
  classMismatch : Bool := false
  resuming : Bool := false
  /-- R427: the phase of a device stop: 0 none, 1 notice, 2 drain, 3 wait, 4 quiesce; and its causes with their times -/
  stop : Nat := 0
  causes : List (StopCause × Nat) := []
  /-- R440: a reset that waits for the end of a device stop -/
  heldReset : Option Nat := none
  /-- R433: ROLE_EPOCH, the three rooms (collector, sampler, landing root), and the rooms of the last 8 periods -/
  roleEpoch : Nat := 0
  collector : Nat := 0
  sampler : Nat := 0
  root : Nat := 0
  recent : List (List Nat) := []
  /-- R435: last events: kind, place, band and time -/
  sentAt : List (Nat × Nat × Nat × Nat) := []
  deriving DecidableEq, Repr, Inhabited

/-! ## Reset and bring-up (R438–R463) -/

/-- R439: a block that is reset. -/
inductive BlockPhase where
  | request | settle | inReset
  deriving DecidableEq, Repr, Inhabited

/-- R438, R441, R484, R486, R487: what a block's reset is for. -/
inductive BlockGoal where
  | plain | drained | test | readmit | wing | wingReadmit | porch
  deriving DecidableEq, Repr, Inhabited

structure BlockReset where
  phase : BlockPhase := .request
  goal : BlockGoal := .plain
  since : Nat := 0
  deriving DecidableEq, Repr, Inhabited

/-- R438: what holds the part in reset. -/
inductive HoldKind where
  | none
  /-- RESET_N or PWR_GOOD is low, or has not risen yet -/
  | pins
  | trip
  | commit
  /-- VAUX is out of range -/
  | power
  deriving DecidableEq, Repr, Inhabited

/-- R448: the always-on record: the cause of the last device-level reset, the sensor that tripped, the last failed start, the
hardware count, the attic maxima of the wings, and a trip not yet reported. -/
structure AonB where
  lastCause : Nat := 0
  tripTemp : Nat := 0
  tripPlace : Nat := 0
  tripKind : Nat := 0
  failReason : Nat := 0
  failPhase : Nat := 0
  failCount : Nat := 0
  peaks : Tab Nat := []
  tripPending : Bool := false
  deriving DecidableEq, Repr, Inhabited

/-- R459: a record of the start log: STATE, REASON and PHASE. -/
structure StartRecord where
  seq : Nat
  state : Nat
  reason : Nat
  phase : Nat
  deriving DecidableEq, Repr

/-- R449–R463: the start. -/
structure BootB where
  /-- BOOT_STATUS: STATE (0 BOOTING, 1 READY, 2 VESTIBULE, 3 DOOR_ONLY) and PHASE -/
  state : Nat := 0
  phase : Nat := 0
  /-- R449: when the phase began -/
  since : Nat := 0
  reason : Nat := 0
  reasonPhase : Nat := 0
  count : Nat := 0
  short : Bool := false
  recovery : Bool := false
  activeDoor : Nat := 0
  hold : HoldKind := .pins
  /-- R443: the straps sampled last: SLOT_ID, CLK_MODE and BOOT_SRC in BOOT_STRAPS' places -/
  straps : Nat := 0
  strapsValid : Bool := false
  /-- R446: the option block as applied, and BOOT_OPT_STATUS -/
  option : List Byte := []
  optClamp : Nat := 0
  optCopy : Bool := false
  optDiff : Bool := false
  optDefaults : Bool := false
  /-- R449, R457: a phase has found why the start fails -/
  failing : Option Nat := none
  vest : Nat := 0
  attempt : Bool := false
  hostGo : Bool := false
  hostBase : Nat := 0
  idleTmo : Nat := 0x64
  /-- R453: images broadcast: wing controller, room boot code, porch controller -/
  broadcast : List Nat := []
  bootCode : List Byte := []
  /-- R452: measurements by index -/
  measures : Tab (List Byte) := []
  /-- R439: blocks in reset: rooms, then wings from 768, porches from 792 -/
  resets : Tab BlockReset := []
  deriving DecidableEq, Repr, Inhabited

/-- R444, R474, R475, R481, R488, R495: what the study keeps in flash outside the plain bytes: the log has no fixed layout. -/
structure FlashLogB where
  start : List StartRecord := []
  /-- R118 -/
  epochCeiling : Nat := 0
  /-- R474: repairs: room, bank, spare, row, permanent, time -/
  repairs : List (Nat × Nat × Nat × Nat × Bool × Nat) := []
  /-- R475: retired pages, by physical address -/
  pages : List Nat := []
  /-- R476: banks retired: room, bank -/
  banks : List (Nat × Nat) := []
  cycles : Tab Nat := []
  directory : Option (List Byte) := none
  deriving DecidableEq, Repr, Inhabited

/-! ## The floor plan (R18–R25) -/

/-- R22: a wing entry: state, edges' modules and edges up, and epoch. -/
structure PlanWing where
  state : Nat := 2
  modules : Nat := 0
  edgeUp : Nat := 0
  epoch : Nat := 0
  deriving DecidableEq, Repr, Inhabited

/-- R19: what a floor plan holds: nothing before the first publication. -/
structure PlanB where
  rooms : List RoomCond := []
  wings : List PlanWing := []
  links : Nat := 0
  porches : Nat := 0
  doors : Nat := 0
  vestibule : Bool := false
  deriving DecidableEq, Repr, Inhabited

/-! ## Live service (R483–R502) and commands of the study (R386) -/

/-- R386, R531: a MGMT command that the study holds: its number, its descriptor (none from the mailbox), its door, MCODE, its
arguments, its buffer, and whether it has been accepted and begun (R483), with its own progress. -/
structure MgmtCmd where
  id : Nat
  ring : Bool
  door : Nat
  tag : W64
  code : Nat
  args : List Nat
  buf : Nat
  bufLen : Nat
  accepted : Bool := false
  since : Nat := 0
  begun : Bool := false
  forced : Bool := false
  deriving DecidableEq, Repr

/-- R468, R469: a scrub in progress. -/
structure ScrubB where
  cmd : Nat
  room : Nat
  banked : Bool
  pantry : Bool
  start : Nat
  length : Nat
  pos : Nat := 0
  words : Nat := 0
  ce : Nat := 0
  ue : Nat := 0
  poisoned : Nat := 0
  skipped : Nat := 0
  firstUe : Nat := 0
  repaired : Nat := 0
  unrepaired : Nat := 0
  deriving DecidableEq, Repr

/-- R490–R492: the trial of a KIND: when it began, the slot that runs. -/
structure TrialB where
  since : Nat
  slot : Nat
  deriving DecidableEq, Repr

/-- R493: the phases of a handover, with the KIND and what it is for (0 activation, 1 reversion). -/
inductive HandoverPhase where
  | freeze | transfer
  deriving DecidableEq, Repr

structure LiveB where
  trialTmo : Nat := 0xE10
  drainTmo : Nat := 0x64
  /-- R502: the slot that runs, by KIND, and trials by KIND -/
  running : Tab Nat := []
  trials : Tab TrialB := []
  /-- R491: restarts to be made: KIND, and the wings or porches left -/
  restarts : List (Nat × List Nat) := []
  handover : Option (HandoverPhase × Nat × Nat) := none
  /-- R494: a standby study, and a standby hearth, track the active ones -/
  standby : Bool := false
  hearthStandby : Bool := false
  /-- R477: the door of the active strongroom -/
  strongDoor : Nat := 0
  /-- R491: the door of the active hearth; that of the study is the boot block's active door -/
  hearthDoor : Nat := 0
  defaults : Bool := false
  /-- R495–R497: values in force by key; those that the flash does not hold are held -/
  settings : Tab (List Byte) := []
  cmds : List MgmtCmd := []
  scrubs : List ScrubB := []
  deriving DecidableEq, Repr, Inhabited

/-- R530: the study mailbox. -/
structure StudyMb where
  req : List W64 := List.replicate 8 0
  rsp : List W64 := List.replicate 4 0
  overrun : Bool := false
  final : Bool := false
  done : Bool := false
  busy : Bool := false
  /-- R531: the final status of an accepted command, before the response is rewritten -/
  due : Option Nat := none
  deriving DecidableEq, Repr, Inhabited

/-! ## Remap tables (R477) -/

/-- R477: the remap table of a memory, the words that have given one correctable error since the last start, and the entries of
a routing table that cannot be used until they are written again. -/
structure RemapB where
  words : List Nat := []
  once : List Nat := []
  bad : List Nat := []
  deriving DecidableEq, Repr, Inhabited

/-! ## Pins, test access and debug (R507–R513) -/

/-- R507, R511, R512: the control pins as the part sees them, the TAP and the debug module. -/
structure TestB where
  resetN : Bool := false
  pwrGood : Bool := false
  thermTripN : Bool := true
  /-- R511: the instruction in force, and the boundary register -/
  ir : Nat := 2
  boundary : Nat := 0
  /-- R511: output cells driven by EXTEST, or held by CLAMP; none while the part drives its pins; float under HIGHZ -/
  driven : Option Nat := none
  floating : Bool := false
  /-- R512: dmcontrol.hartsel, data registers, the abstract command's error and the system bus error -/
  dmactive : Bool := false
  hartsel : Nat := 0
  data : W64 := 0
  progbuf : List W32 := [0, 0]
  resumeAck : Bool := false
  cmderr : Nat := 0
  sbaddr : W64 := 0
  sbdata : W64 := 0
  sberror : Nat := 0
  /-- R513: processors halted, by their number in R512 -/
  halted : List Nat := []
  /-- R392: the endpoint ID on each binding: door × 3 + transport -/
  eids : Tab Nat := []
  deriving DecidableEq, Repr, Inhabited

/-- R370, R456: what the configuration space of a door holds of its own: Resizable BAR size (log2), power state, and its
command register's memory enable. -/
structure PcieB where
  barLog2 : Nat := 34
  d3hot : Bool := false
  memEnable : Bool := false
  bar0 : Nat := 0
  bar2 : Nat := 0
  deriving DecidableEq, Repr, Inhabited

end Sys2Proof.Machine
end

