-- ==== Sys2Proof/Machine/Regs.lean ====
section
/-! DEFINITION. The registers that hold a value of their own: their names, and one row for each with its block, offset,
reset value, the bits a write sets and the bits that a write of 1 clears (R525). Registers that only report other state are
computed where they are read. -/
namespace Sys2Proof.Machine

/-- R527, R532, R534: the blocks of the register map. A room block is one for each room, a wing block one for each wing,
and so on; the instance number is the room, wing, link, port or door. -/
inductive RegBlock where
  | room
  | door
  | hall
  | d2d
  | link
  | fabric
  | power
  | therm
  | wing
  deriving DecidableEq, Repr

/-- The registers with a value of their own. -/
inductive RegName where
  | roomGtimeout
  | roomIrqRoute
  | roomSpawnCtrl
  | roomMtimecmp
  | arraySbCfg
  | arrayDoneCount
  | arrayWaitTimeout
  | arrayErr
  | arrayBusyCycles
  | arrayDummyCycles
  | atticCfg
  | atticErr
  | atticErrEn
  | atticCeCount
  | atticLastErr
  | errProd
  | errCons
  | errLost
  | dwCqBase
  | dwCqCfg
  | dwCqProd
  | dwCqCons
  | dwWaitTmo
  | dwDoneCount
  | avuDoneCount
  | avuErr
  | avuBeatCount
  | treeDoneCount
  | treeErr
  | doorCtrl
  | doorErr
  | doorAperture
  | doorMsixAddr
  | doorMsixCtl
  | hallDropCount
  | hallLandingCfg
  | hallCombined
  | hallRtEntry
  | d2dCfg
  | linkCfg
  | linkErr
  | linkReplayCount
  | linkFecCount
  | linkAgedCount
  | fabCfg
  | fabDropCount
  | pwrErr
  | thermErr
  | wingBootResult
  deriving DecidableEq, Repr

/-- A row of the register map: an array of registers has count members, stride bytes apart. -/
structure RegRow where
  block : RegBlock
  off : Nat
  reset : Nat
  rw : Nat
  w1c : Nat
  count : Nat
  stride : Nat
  deriving DecidableEq, Repr

/-- The register map, row by row. -/
def RegName.row : RegName → RegRow
  | .roomGtimeout => ⟨.room, 0x10, 0xff14141414140aff, 0xffffffffffffffff, 0x0, 1, 8⟩ -- R123
  | .roomIrqRoute => ⟨.room, 0x18, 0xc000000000, 0xdfdfdfdfdfdfdfdf, 0x0, 1, 8⟩ -- R123
  | .roomSpawnCtrl => ⟨.room, 0x30, 0x0, 0x1ffff, 0x0, 1, 8⟩ -- R123
  | .roomMtimecmp => ⟨.room, 0x100, 0xffffffffffffffff, 0xffffffffffffffff, 0x0, 32, 8⟩ -- R123
  | .arraySbCfg => ⟨.room, 0x1008, 0x70800500000, 0x0, 0x0, 1, 8⟩ -- R82
  | .arrayDoneCount => ⟨.room, 0x1018, 0x0, 0x0, 0x0, 1, 8⟩ -- R82
  | .arrayWaitTimeout => ⟨.room, 0x1020, 0x3e8, 0xffff, 0x0, 1, 8⟩ -- R82
  | .arrayErr => ⟨.room, 0x1028, 0x0, 0x0, 0x3f, 1, 8⟩ -- R82
  | .arrayBusyCycles => ⟨.room, 0x1038, 0x0, 0x0, 0x0, 1, 8⟩ -- R82
  | .arrayDummyCycles => ⟨.room, 0x1040, 0x0, 0x0, 0x0, 1, 8⟩ -- R82
  | .atticCfg => ⟨.room, 0x4008, 0x1003, 0xff07, 0x0, 1, 8⟩ -- R184
  | .atticErr => ⟨.room, 0x4010, 0x0, 0x0, 0x7ff, 1, 8⟩ -- R184
  | .atticErrEn => ⟨.room, 0x4018, 0x3fc, 0x7ff, 0x0, 1, 8⟩ -- R184
  | .atticCeCount => ⟨.room, 0x4020, 0x0, 0x0, 0x0, 1, 8⟩ -- R184
  | .atticLastErr => ⟨.room, 0x4028, 0x0, 0x0, 0x0, 1, 8⟩ -- R184
  | .errProd => ⟨.room, 0xc000, 0x0, 0x0, 0x0, 1, 8⟩ -- R482
  | .errCons => ⟨.room, 0xc008, 0x0, 0xffff, 0x0, 1, 8⟩ -- R482
  | .errLost => ⟨.room, 0xc010, 0x0, 0x0, 0x0, 1, 8⟩ -- R482
  | .dwCqBase => ⟨.room, 0x2008, 0x0, 0x7fffff, 0x0, 1, 8⟩ -- R279
  | .dwCqCfg => ⟨.room, 0x2010, 0x4, 0x30f, 0x0, 1, 8⟩ -- R279
  | .dwCqProd => ⟨.room, 0x2018, 0x0, 0x0, 0x0, 1, 8⟩ -- R279
  | .dwCqCons => ⟨.room, 0x2020, 0x0, 0xffff, 0x0, 1, 8⟩ -- R279
  | .dwWaitTmo => ⟨.room, 0x2028, 0x3e8, 0xffffffff, 0x0, 1, 8⟩ -- R279
  | .dwDoneCount => ⟨.room, 0x2040, 0x0, 0x0, 0x0, 8, 8⟩ -- R279
  | .avuDoneCount => ⟨.room, 0x6008, 0x0, 0x0, 0x0, 1, 8⟩ -- R207
  | .avuErr => ⟨.room, 0x6010, 0x0, 0x0, 0x1f, 1, 8⟩ -- R207
  | .avuBeatCount => ⟨.room, 0x6020, 0x0, 0x0, 0x0, 1, 8⟩ -- R207
  | .treeDoneCount => ⟨.room, 0xe010, 0x0, 0x0, 0x0, 1, 8⟩ -- R259
  | .treeErr => ⟨.room, 0xe018, 0x0, 0x0, 0xf, 1, 8⟩ -- R259
  | .doorCtrl => ⟨.door, 0x10, 0x640000, 0x80000000ffff03ff, 0x0, 1, 8⟩ -- R394
  | .doorErr => ⟨.door, 0x28, 0x0, 0x0, 0x7f, 1, 8⟩ -- R394
  | .doorAperture => ⟨.door, 0x10000, 0x0, 0xe0ffffffffffffff, 0x0, 4096, 8⟩ -- R373
  | .doorMsixAddr => ⟨.door, 0xc00000, 0x0, 0xffffffffffffffff, 0x0, 1024, 16⟩ -- R394
  | .doorMsixCtl => ⟨.door, 0xc00008, 0x100000000, 0x1ffffffff, 0x0, 1024, 16⟩ -- R394
  | .hallDropCount => ⟨.hall, 0x10, 0x0, 0x0, 0x0, 1, 8⟩ -- R304
  | .hallLandingCfg => ⟨.hall, 0x18, 0x120, 0x1ff, 0x0, 1, 8⟩ -- R304
  | .hallCombined => ⟨.hall, 0x20, 0x0, 0x0, 0x0, 1, 8⟩ -- R304
  | .hallRtEntry => ⟨.hall, 0x1000, 0x0, 0xc7ff, 0x0, 104, 8⟩ -- R304
  | .d2dCfg => ⟨.d2d, 0x100, 0x100040, 0xffffff, 0x0, 1, 8⟩ -- R322
  | .linkCfg => ⟨.link, 0x10, 0x1040081403, 0xffff0fff03, 0x0, 1, 8⟩ -- R350
  | .linkErr => ⟨.link, 0x20, 0x0, 0x0, 0x3f, 1, 8⟩ -- R350
  | .linkReplayCount => ⟨.link, 0x28, 0x0, 0x0, 0x0, 1, 8⟩ -- R350
  | .linkFecCount => ⟨.link, 0x30, 0x0, 0x0, 0x0, 1, 8⟩ -- R350
  | .linkAgedCount => ⟨.link, 0x38, 0x0, 0x0, 0x0, 1, 8⟩ -- R350
  | .fabCfg => ⟨.fabric, 0x8, 0x80000, 0xff031f, 0x0, 1, 8⟩ -- R368
  | .fabDropCount => ⟨.fabric, 0x28, 0x0, 0x0, 0x0, 1, 8⟩ -- R368
  | .pwrErr => ⟨.power, 0x18, 0x0, 0x0, 0x3f, 1, 8⟩ -- R409
  | .thermErr => ⟨.therm, 0x10, 0x0, 0x0, 0x1f, 1, 8⟩ -- R437
  | .wingBootResult => ⟨.wing, 0x1000, 0x0, 0xffffffffffffffff, 0x0, 32, 8⟩ -- R532

/-- Every register with a value of its own. -/
def allRegs : List RegName :=
  [.roomGtimeout, .roomIrqRoute, .roomSpawnCtrl, .roomMtimecmp, .arraySbCfg, .arrayDoneCount, .arrayWaitTimeout, .arrayErr] ++
  [.arrayBusyCycles, .arrayDummyCycles, .atticCfg, .atticErr, .atticErrEn, .atticCeCount, .atticLastErr, .errProd] ++
  [.errCons, .errLost, .dwCqBase, .dwCqCfg, .dwCqProd, .dwCqCons, .dwWaitTmo, .dwDoneCount] ++
  [.avuDoneCount, .avuErr, .avuBeatCount, .treeDoneCount, .treeErr, .doorCtrl, .doorErr, .doorAperture] ++
  [.doorMsixAddr, .doorMsixCtl, .hallDropCount, .hallLandingCfg, .hallCombined, .hallRtEntry, .d2dCfg, .linkCfg] ++
  [.linkErr, .linkReplayCount, .linkFecCount, .linkAgedCount, .fabCfg, .fabDropCount, .pwrErr, .thermErr] ++
  [.wingBootResult]

/-- Register k of an array of registers is held under instance × count + k. -/
def RegName.slot (n : RegName) (inst k : Nat) : Nat := inst * n.row.count + k

/-- A held register value. -/
structure RegVal where
  name : RegName
  inst : Nat
  value : W64
  deriving DecidableEq, Repr

end Sys2Proof.Machine
end

