-- ==== Sys2Proof/Machine/State.lean ====
section
/-! DEFINITION. The state of the part, its faults and refusals, and the state after reset. -/
namespace Sys2Proof.Machine

/-- No command of the model ends in a fault: what the spec calls an error is a value of the state. The one name stands
for a command stream that ends (no meaning raises it; safe). -/
inductive Fault where
  | ended
  deriving DecidableEq, Repr

/-- Why a command has no meaning here. -/
inductive Refusal where
  /-- raised by the arms of exec whose command has no meaning yet; safe: nothing is claimed of it -/
  | notModelled (mnemonic : String)
  deriving DecidableEq, Repr

/-- R1, R2, R319: what is fused into the part. -/
structure Fuses where
  variant : Nat := 1
  liquid : Bool := true
  deriving DecidableEq, Repr, Inhabited

/-- What the part has sent out: responses, messages and flits, in order. -/
inductive Sent where
  /-- R312, R314: a response: the device it is for, its header, and its payload with its poison map, padded -/
  | response (dev : DevId) (header : W128) (payload : List Byte)
  /-- R108, R296, R311, R314: a request of a room or a landing, or its reissue: the device it is for, its header and its padded payload -/
  | request (dev : Nat) (header : W128) (payload : List Byte)
  /-- R313, R360: a combined chunk on its way to another device, with its ADDR field -/
  | collChunk (dev : Nat) (id m0 : W32) (addr : BitVec 55) (c : CollChunk)
  /-- R358, R361: the end of an instance, for the members on another device -/
  | collEnd (dev : Nat) (id m0 : W32) (status failed : Nat)
  /-- R326: a flit sent on a link: its 256 bytes -/
  | flit (l : Nat) (bytes : List Byte)
  /-- R315, R317: an LCTL message of a module end, with its header and payload -/
  | lctl (module : Nat) (header : W128) (payload : List Byte)
  /-- R313: another message of one of the part's units to another device: its operation and its payload -/
  | message (dev opc : Nat) (payload : List Byte)
  /-- R365: the probe of a partner device -/
  | probe (dev : Nat)
  /-- R364: a notice of a room: its kind, the room's hart 0, its epoch, the reason, and the extension in µs -/
  | notice (kind : Nat) (subject : W32) (epoch reason ext : Nat)
  /-- R372, R374, R456: what a host access at a door is answered with: 0 success, 1 Unsupported Request, 2 Request Retry
  Status; data; EP -/
  | pcie (door status : Nat) (data : List Byte) (ep : Bool)
  /-- R382, R394: an MSI-X vector of a door -/
  | msix (door vector : Nat)
  /-- R393: an answer of PLDM (0 to 5, the type) or SPDM (0x100 + code), its fields and its data -/
  | mgmt (protocol : Nat) (fields : List Nat) (data : List Byte)
  /-- R511, R512: what the TAP shifts out, or the debug module answers -/
  | tap (ir value : Nat)
  /-- R364: a flood notice of a device on every other link: 1 ABSENT, 2 RESET -/
  | flood (kind dev : Nat)
  deriving DecidableEq, Repr

/-- The part: the waiting commands, and every block of it. Time is in ns. -/
structure State where
  pending : List Instr := []
  fuses : Fuses := {}
  devId : DevId := 0
  /-- R88, R366: global time in ns -/
  now : Nat := 0
  /-- the model's own: the counter that free values are taken from -/
  free : Nat := 0
  /-- attics, pantries and host memory, by key -/
  mem : List Host.Cell := []
  /-- R465: poisoned words, by the key of their first byte -/
  poison : List Nat := []
  regs : List RegVal := []
  harts : Tab Hart := []
  rooms : Tab Room := []
  /-- R342: tags by requester island × 4,096 + tag -/
  tags : Tab TagEntry := []
  reqs : List Req := []
  exitMsgs : List ExitMsg := []
  /-- R346: completion caches: rooms, then wings from 768, porches from 792, doors from 800 -/
  caches : Tab HomeCache := []
  sent : List Sent := []
  /-- R153: outstanding collectives of each room -/
  colls : Tab (List CollEntry) := []
  insts : List CollInst := []
  keptEnds : List KeptEnd := []
  arrays : Tab ArrayB := []
  attics : Tab AtticB := []
  /-- R303: regulation blocks: attics by room, then hall ports, then links -/
  regqs : Tab RegQ := []
  avus : Tab AvuB := []
  trees : Tab TreeB := []
  /-- R260, R261: dumbwaiter channels: of rooms, room × 8 + channel; of doors, 6,144 + door × 16 + channel -/
  dws : Tab DwChan := []
  /-- R271: completed programs that have not left yet, in completion order, of each room -/
  dwOrder : Tab (List DwLeaving) := []
  wings : Tab Wing := []
  halls : Tab HallB := []
  /-- R306: module ends by die × 16 + module -/
  modules : Tab ModuleB := []
  dies : Tab DieB := []
  /-- R319: identity blocks by die index; a die that is not listed holds a block that conforms -/
  idBlocks : Tab (List Byte) := []
  links : Tab LinkB := []
  fabric : FabricB := {}
  /-- R334, R459: device starts since manufacture -/
  bootCount : Nat := 0
  /-- R364: devices reported absent -/
  absentDevs : List Nat := []
  /-- R533: mailbox entries by room -/
  mailboxes : Tab Mailbox := []
  doors : Tab Door := []
  sqs : Tab SubRing := []
  cqs : Tab ComRing := []
  descs : List Desc := []
  nextDesc : Nat := 0
  completions : List Completion := []
  jobs : List Job := []
  errRings : Tab ErrRing := []
  wingLogs : Tab (List ErrRecord) := []
  /-- R481: records on their way to the device log -/
  errInFlight : List ErrRecord := []
  deviceLog : List ErrRecord := []
  flashLog : List ErrRecord := []
  deviceSeq : Nat := 0
  ceWindows : List CeWindow := []
  power : PowerB := {}
  therm : ThermB := {}
  boot : BootB := {}
  /-- R448 -/
  aon : AonB := {}
  /-- R444: bytes of the two QSPI flashes, by flash × 2^32 + offset; a byte that is not listed is erased -/
  flash : Tab Byte := []
  flashLogs : FlashLogB := {}
  /-- R18: the published floor plan, its GENERATION and PUBLISH_TIME -/
  plan : Option PlanB := none
  planGen : Nat := 0
  planTime : Nat := 0
  live : LiveB := {}
  mailboxStudy : StudyMb := {}
  /-- R477: remap tables by memory -/
  remaps : Tab RemapB := []
  test : TestB := {}
  pcies : Tab PcieB := []
  /-- the model's own: bytes that software must leave alone for now (R59, R115, R146, R153, R191) -/
  guards : List Guard := []
  deriving DecidableEq, Repr

/-- The part right after a device-level reset, with no command waiting: every register at its reset value, every queue
empty, no memory written, no room started. -/
def State.reset : State := {}

end Sys2Proof.Machine
end

