-- ==== Sys2Proof/Machine/Ops.lean ====
section
/-! DEFINITION. The named operations over the state: its parts, registers, bytes of memory and poison, watches, error
records and the passing of time. Every meaning reads and writes the state through these. -/
namespace Sys2Proof.Machine

/-- The outcome of a command. -/
abbrev Result := Host.Outcome State Fault Refusal

/-- A command that finds what it needs takes effect; otherwise what it reports has not happened and nothing changes. -/
def whenReady (ok : Bool) (s t : State) : Result := .next (if ok then t else s)

/-! ## Parts of the state -/

def hkey (h : HartId) : Nat := h.room.val * 32 + h.hart.val

def State.hartAt (s : State) (k : Nat) : Hart := tgetD s.harts k {}
def State.hart (s : State) (h : HartId) : Hart := s.hartAt (hkey h)
def State.setHartAt (s : State) (k : Nat) (v : Hart) : State := { s with harts := tset k v s.harts }
def State.modHartAt (s : State) (k : Nat) (f : Hart → Hart) : State := s.setHartAt k (f (s.hartAt k))
def State.modHart (s : State) (h : HartId) (f : Hart → Hart) : State := s.modHartAt (hkey h) f

def State.room (s : State) (r : Nat) : Room := tgetD s.rooms r {}
def State.modRoom (s : State) (r : Nat) (f : Room → Room) : State := { s with rooms := tset r (f (s.room r)) s.rooms }

def State.array (s : State) (r : Nat) : ArrayB := tgetD s.arrays r {}
def State.modArray (s : State) (r : Nat) (f : ArrayB → ArrayB) : State :=
  { s with arrays := tset r (f (s.array r)) s.arrays }

def State.attic (s : State) (r : Nat) : AtticB := tgetD s.attics r {}
def State.modAttic (s : State) (r : Nat) (f : AtticB → AtticB) : State :=
  { s with attics := tset r (f (s.attic r)) s.attics }

def State.avu (s : State) (r : Nat) : AvuB := tgetD s.avus r {}
def State.modAvu (s : State) (r : Nat) (f : AvuB → AvuB) : State := { s with avus := tset r (f (s.avu r)) s.avus }

def State.tree (s : State) (r : Nat) : TreeB := tgetD s.trees r {}
def State.modTree (s : State) (r : Nat) (f : TreeB → TreeB) : State := { s with trees := tset r (f (s.tree r)) s.trees }

def State.door (s : State) (d : Nat) : Door := tgetD s.doors d {}
def State.modDoor (s : State) (d : Nat) (f : Door → Door) : State := { s with doors := tset d (f (s.door d)) s.doors }

/-- R375: the rings; a ring belongs to door A below 512, and to door B from there on, until it is configured. -/
def State.sq (s : State) (q : Nat) : SubRing := tgetD s.sqs q { owner := q / 512 }
def State.modSq (s : State) (q : Nat) (f : SubRing → SubRing) : State := { s with sqs := tset q (f (s.sq q)) s.sqs }
def State.cq (s : State) (c : Nat) : ComRing := tgetD s.cqs c { owner := c / 512 }
def State.modCq (s : State) (c : Nat) (f : ComRing → ComRing) : State := { s with cqs := tset c (f (s.cq c)) s.cqs }

/-- R383: a thread of a job has ended. -/
def State.jobEnd (s : State) (j : Nat × Nat) (e : ThreadEnd) : State :=
  { s with jobs := s.jobs.map fun b => if b.id = j.1 then { b with threads := lset b.threads j.2 e } else b }

def State.dw (s : State) (k : Nat) : DwChan := tgetD s.dws k {}
def State.modDw (s : State) (k : Nat) (f : DwChan → DwChan) : State := { s with dws := tset k (f (s.dw k)) s.dws }

def State.wing (s : State) (w : Nat) : Wing := tgetD s.wings w {}

/-- R13: the wings and their ports that a door attaches to. -/
def doorPorts (d : Nat) : List (Nat × Nat) := if d = 0 then [(6, 3), (12, 3)] else [(11, 1), (17, 1)]

/-- R13: a door reaches the hall through a module that is up, of a wing that is up. -/
def State.doorReaches (s : State) (d : Nat) : Bool :=
  (doorPorts d).any fun p => (tgetD s.halls p.1 {}).portUp.contains p.2 && (s.wing p.1).state != 2
def State.modWing (s : State) (w : Nat) (f : Wing → Wing) : State := { s with wings := tset w (f (s.wing w)) s.wings }

/-! ## Registers -/

def findReg (n : RegName) (i : Nat) : List RegVal → Option W64
  | [] => none
  | v :: t => if v.name = n ∧ v.inst = i then some v.value else findReg n i t

def placeReg (n : RegName) (i : Nat) (x : W64) : List RegVal → List RegVal
  | [] => [⟨n, i, x⟩]
  | v :: t => if v.name = n ∧ v.inst = i then ⟨n, i, x⟩ :: t else v :: placeReg n i x t

/-- The value of a register of a block instance: what was last placed, or its reset value. -/
def State.reg (s : State) (n : RegName) (i : Nat) : W64 :=
  (findReg n i s.regs).getD (BitVec.ofNat 64 n.row.reset)

def State.regN (s : State) (n : RegName) (i : Nat) : Nat := (s.reg n i).toNat

def State.setReg (s : State) (n : RegName) (i : Nat) (x : W64) : State := { s with regs := placeReg n i x s.regs }

def State.setRegN (s : State) (n : RegName) (i x : Nat) : State := s.setReg n i (BitVec.ofNat 64 x)

/-- Bits of an error or status register set. -/
def State.orReg (s : State) (n : RegName) (i mask : Nat) : State :=
  s.setReg n i (s.reg n i ||| BitVec.ofNat 64 mask)

/-- A counter of w bits advanced, wrapping. -/
def State.bumpReg (s : State) (n : RegName) (i w by_ : Nat) : State :=
  s.setRegN n i ((s.regN n i + by_) % 2 ^ w)

/-- R6, R525: a write to a register under its masks: RW bits take the value, W1C bits are cleared where it is 1. -/
def RegName.written (n : RegName) (old v : W64) : W64 :=
  ((old &&& ~~~(BitVec.ofNat 64 n.row.rw)) ||| (v &&& BitVec.ofNat 64 n.row.rw)) &&&
    ~~~(v &&& BitVec.ofNat 64 n.row.w1c)

def State.writeReg (s : State) (n : RegName) (i : Nat) (v : W64) : State := s.setReg n i (n.written (s.reg n i) v)

/-- Every register of the named ones back at its reset value, for one instance. -/
def State.resetRegs (s : State) (p : RegName → Nat → Bool) : State :=
  { s with regs := s.regs.filter fun v => !p v.name v.inst }

/-! ## Time and free values -/

/-- An event that reports the passing of a time: the clock stands at least there afterwards. -/
def State.reach (s : State) (t : Nat) : State := { s with now := max s.now t }

/-- The free counter advanced. -/
def State.bump (s : State) : State := { s with free := s.free + 1 }

/-! ## Places of bytes -/

/-- R160, R161: the bank and the within-bank offset of an attic offset in a view. -/
def atticBank (banked : Bool) (o : Nat) : Nat := if banked then o / bankSize else o / 256 % 48
def atticWithin (banked : Bool) (o : Nat) : Nat :=
  if banked then o % bankSize else o / 256 / 48 * 256 + o % 256

/-- The key of an attic byte of a room: its room, bank and within-bank offset. -/
def atticKey (r : Nat) (banked : Bool) (o : Nat) : Nat :=
  r * 0x10000000 + atticBank banked o * bankSize + atticWithin banked o

/-- The key of a pantry byte of a room. -/
def pantryKey (r o : Nat) : Nat := 0x10000000000 + r * 0x800000 + o

/-- The key of a byte of the memory of the host at a door. -/
def hostKey (d a : Nat) : Nat := 0x10000000000000 * (1 + d) + a

/-! ## Bytes and poison -/

/-- R467: a byte; where nothing has written one, a free value. -/
def State.byteAt (s : State) (k : Nat) : Byte := (tget k s.mem).getD (Config.unwrittenByte s.free k)

def State.bytesAt (s : State) (k : Nat) : Nat → List Byte
  | 0 => []
  | n + 1 => s.byteAt k :: s.bytesAt (k + 1) n

/-- Every byte of the range has been written. -/
def State.writtenAt (s : State) (k : Nat) : Nat → Bool
  | 0 => true
  | n + 1 => (tget k s.mem).isSome && s.writtenAt (k + 1) n

/-- R465, R467: the 8-byte word that begins at a key is delivered poisoned. -/
def State.wordPoisoned (s : State) (k : Nat) : Bool :=
  s.poison.contains k || (!s.writtenAt k 8 && Config.unwrittenPoisoned s.free k)

/-- The words of 8 bytes that a range of keys touches. -/
def wordsOf (k n : Nat) : List Nat :=
  if n = 0 then [] else (List.range ((k + n - 1) / 8 - k / 8 + 1)).map fun j => (k / 8 + j) * 8

def State.rangePoisoned (s : State) (k n : Nat) : Bool := (wordsOf k n).any s.wordPoisoned

def placeBytes (k : Nat) : List Byte → List Host.Cell → List Host.Cell
  | [], m => m
  | b :: t, m => placeBytes (k + 1) t (tset k b m)

def State.putBytes (s : State) (k : Nat) (l : List Byte) : State := { s with mem := placeBytes k l s.mem }

def State.setPoison (s : State) (k : Nat) (p : Bool) : State :=
  { s with poison := if p then ninsert k s.poison else s.poison.filter (· != k) }

/-- R179, R466: a write to one word: the part of the data that falls in it, at its offset. A whole word clears poison;
a part of a poisoned word leaves it poisoned, and a part of a word makes the rest of it data. -/
def State.putInWord (s : State) (word off : Nat) (l : List Byte) : State :=
  if l.length = 8 then (s.putBytes word l).setPoison word false
  else (((s.putBytes word (s.bytesAt word 8)).putBytes (word + off) l).setPoison word (s.wordPoisoned word))

/-- R179: a narrow write to this word would end in error. -/
def State.narrowError (s : State) (word : Nat) (len : Nat) : Bool := len != 8 && s.wordPoisoned word

/-- The pieces of a write, word by word: word key, offset in it, bytes. The fuel is the number of bytes. -/
def wordPieces : Nat → Nat → List Byte → List (Nat × Nat × List Byte)
  | 0, _, _ => []
  | _, _, [] => []
  | n + 1, k, l =>
    (k / 8 * 8, k % 8, l.take (8 - k % 8)) :: wordPieces n (k / 8 * 8 + 8) (l.drop (8 - k % 8))

/-- R179, R466: a write of bytes to SECDED words. -/
def State.putWords (s : State) (k : Nat) (l : List Byte) : State :=
  (wordPieces l.length k l).foldl (fun s p => s.putInWord p.1 p.2.1 p.2.2) s

/-- R179: a write of these bytes ends in error. -/
def State.writeError (s : State) (k : Nat) (l : List Byte) : Bool :=
  (wordPieces l.length k l).any fun p => s.narrowError p.1 p.2.2.length

/-- Words of a range poisoned or not, as a source's words were. -/
def State.copyPoison (s : State) (k : Nat) (ps : List Bool) : State :=
  (ps.zipIdx).foldl (fun s p => s.setPoison (k / 8 * 8 + 8 * p.2) p.1) s

/-! ## The attic's two views -/

/-- R162: every bank that the range reaches is usable. -/
def State.banksUsable (s : State) (r : Nat) (banked : Bool) (o n : Nat) : Bool :=
  (List.range ((o % 256 + n + 255) / 256)).all fun j =>
    bitOf (s.room r).cond.bankMap (atticBank banked (o / 256 * 256 + j * 256))

/-- R110: the pieces of a range in within-bank bytes, one for each granule. -/
def viewPieces (banked : Bool) (o n : Nat) : List ViewUse :=
  (List.range ((o % 256 + n + 255) / 256)).map fun j =>
    let lo := max o (o / 256 * 256 + j * 256)
    let hi := min (o + n) (o / 256 * 256 + j * 256 + 256)
    ⟨banked, atticBank banked lo, atticWithin banked lo, atticWithin banked lo + (hi - lo)⟩

def ViewUse.overlaps (a b : ViewUse) : Bool :=
  a.bank == b.bank && decide (a.lo < b.hi) && decide (b.lo < a.hi)

/-- R110: the range has been used through the other view, and no view fence has come between. -/
def State.mixedView (s : State) (r : Nat) (banked : Bool) (o n : Nat) : Bool :=
  (viewPieces banked o n).any fun p =>
    (s.attic r).views.any fun u => u.banked != banked && u.overlaps p

/-- The use of a range through a view, noted. -/
def State.noteView (s : State) (r : Nat) (banked : Bool) (o n : Nat) : State :=
  s.modAttic r fun a => { a with
    views := (viewPieces banked o n).foldl (fun l p => if l.contains p then l else p :: l) a.views }

/-- R111: the uses of a range forgotten, by a view fence. -/
def State.forgetViews (s : State) (r : Nat) (banked : Bool) (o n : Nat) : State :=
  s.modAttic r fun a => { a with
    views := a.views.filter (fun u => !(viewPieces banked o n).any (fun p => u.overlaps p)) }

/-- R160, R161: bytes of an attic, byte by byte through the view; free values where R110 was broken. -/
def State.atticBytes (s : State) (r : Nat) (banked : Bool) (o n : Nat) : List Byte :=
  let mixed := s.mixedView r banked o n
  (List.range n).map fun j =>
    if mixed then Config.mixedViewByte s.free (atticKey r banked (o + j)) else s.byteAt (atticKey r banked (o + j))

/-- The words of an attic range, by their keys. -/
def atticWords (r : Nat) (banked : Bool) (o n : Nat) : List Nat :=
  (wordsOf o n).map fun w => atticKey r banked w

def State.atticPoisoned (s : State) (r : Nat) (banked : Bool) (o n : Nat) : Bool :=
  (atticWords r banked o n).any s.wordPoisoned

/-- R179, R466: a write to an attic, word by word through the view. -/
def State.putAttic (s : State) (r : Nat) (banked : Bool) (o : Nat) (l : List Byte) : State :=
  let data := if s.mixedView r banked o l.length
    then l.zipIdx.map fun p => Config.mixedViewByte s.free (atticKey r banked (o + p.2)) else l
  (wordPieces l.length o data).foldl
    (fun s p => s.putInWord (atticKey r banked p.1) p.2.1 p.2.2) s

def State.atticWriteError (s : State) (r : Nat) (banked : Bool) (o : Nat) (l : List Byte) : Bool :=
  (wordPieces l.length o l).any fun p => s.narrowError (atticKey r banked p.1) p.2.2.length

/-- R103: lines of the data cache in a range of attic offsets (interleaved view) invalidated. -/
def State.dropLines (s : State) (r lo n : Nat) : State :=
  s.modRoom r fun x => { x with dcache := x.dcache.filter fun l => decide (l * 64 + 64 ≤ lo ∨ lo + n ≤ l * 64) }

/-- R112: the reservations of a room lost where a write by another hart touches their granule; the writer is a hart
key, or none for any other source. -/
def State.dropReservations (s : State) (r : Nat) (writer : Option Nat) (keys : List Nat) : State :=
  { s with
    harts := s.harts.map fun p =>
      match p.2.resv with
      | some v =>
        if p.1 / 32 = r ∧ some p.1 ≠ writer ∧ keys.any (fun k => k / 64 == v.key / 64) = true
        then (p.1, { p.2 with resv := none }) else p
      | none => p }

/-! ## Guards: bytes that software must leave alone (R59, R115, R146, R153, R191) -/

/-- A number that no guard has. -/
def State.newGuard (s : State) : Nat :=
  (s.guards.map fun g => match g.key with | .work n | .seq n _ => n | _ => 0).foldl max 0 + 1

/-- A guard set up in place of any with its key. -/
def State.setGuard (s : State) (key : GuardKey) (room : Nat) (ranges : List (Nat × Nat)) : State :=
  { s with guards := (s.guards.filter fun g => g.key != key) ++ [⟨key, room, ranges, false, []⟩] }

/-- R234: a guard takes the place of any with its key, over other bytes; what has been stored to among them stays stored to. -/
def State.moveGuard (s : State) (key : GuardKey) (room : Nat) (ranges : List (Nat × Nat)) : State :=
  let stores := match s.guards.find? (·.key == key) with | some g => g.stores | none => []
  let met := stores.filter fun x => ranges.any fun y => decide (x.1 < y.2) && decide (y.1 < x.2)
  { s with guards := (s.guards.filter fun g => g.key != key) ++ [⟨key, room, ranges, !met.isEmpty, met⟩] }

def State.dropGuard (s : State) (key : GuardKey) : State := { s with guards := s.guards.filter fun g => g.key != key }

/-- A guard whose ranges grow; one that is hit stays so. -/
def State.widenGuard (s : State) (key : GuardKey) (room : Nat) (ranges : List (Nat × Nat)) : State :=
  if s.guards.any (·.key == key)
  then { s with guards := s.guards.map fun g => if g.key = key then { g with ranges := g.ranges ++ ranges } else g }
  else s.setGuard key room ranges

/-- R241: a store of a hart, by its key, to ranges of its room's pantry that no FENCE RW,O has followed. -/
def State.noteFresh (s : State) (k room : Nat) (ranges : List (Nat × Nat)) : State :=
  if ranges = [] then s else s.widenGuard (.fresh k) room ranges

/-- R241: what a hart has stored to its room's pantry since its last FENCE RW,O. -/
def State.freshRanges (s : State) (k : Nat) : List (Nat × Nat) :=
  match s.guards.find? (·.key == .fresh k) with | some g => g.ranges | none => []

/-- R241: the bytes of these ranges: key, the free value that a unit may find that does not wait for the stores, and the byte. -/
def State.freshBytes (s : State) (l : List (Nat × Nat)) : List (Nat × Byte × Byte) :=
  l.flatMap fun q => (List.range (q.2 - q.1)).map fun j =>
    (q.1 + j, Config.disturbedByte s.free (q.1 + j), s.byteAt (q.1 + j))

/-- R241: the state as such a unit may read it. -/
def State.blur (s : State) (l : List (Nat × Nat)) : State := (s.freshBytes l).foldl (fun s b => s.putBytes b.1 [b.2.1]) s

/-- R241: bytes that the unit has left as it read them are those of the stores again. -/
def State.unblur (s : State) (l : List (Nat × Byte × Byte)) : State :=
  l.foldl (fun s b => if s.byteAt b.1 = b.2.1 then s.putBytes b.1 [b.2.2] else s) s

/-- R214: the guards over the table entries that a command of this number named end. -/
def State.dropSeqs (s : State) (n : Nat) : State :=
  { s with guards := s.guards.filter fun g => match g.key with | .seq m _ => m != n | _ => true }

/-- Software has stored to bytes under the guard. -/
def State.disturbed (s : State) (key : GuardKey) : Bool := s.guards.any fun g => g.key == key && g.hit

/-- The bytes under the guard that software has stored to, and others of the same stores. -/
def State.guardStores (s : State) (key : GuardKey) : List (Nat × Nat) :=
  match s.guards.find? (·.key == key) with | some g => g.stores | none => []

def rangesMeet (a b : List (Nat × Nat)) : Bool := a.any fun x => b.any fun y => decide (x.1 < y.2) && decide (y.1 < x.2)

/-- A store of software to ranges of keys: every guard over one of their bytes is hit. -/
def State.storeNote (s : State) (ranges : List (Nat × Nat)) : State :=
  { s with guards := s.guards.map fun g =>
      if rangesMeet ranges g.ranges then { g with hit := true, stores := ranges ++ g.stores } else g }

/-- R160, R161: the keys of a range of an attic, through either view. -/
def atticRanges (r : Nat) (banked : Bool) (o n : Nat) : List (Nat × Nat) :=
  (viewPieces banked o n).map fun u =>
    (r * 0x10000000 + u.bank * bankSize + u.lo, r * 0x10000000 + u.bank * bankSize + u.hi)

/-! ## Watches -/

/-- R148: a value meets a condition against a comparand. -/
def Cond.met (c : Cond) (w x : W64) : Bool :=
  match c with
  | .eq => w == x
  | .ne => w != x
  | .ge32 => decide ((w.toNat + 2 ^ 32 - x.toNat % 2 ^ 32) % 2 ^ 32 < 2 ^ 31)
  | .all => (w &&& x) == x
  | .any => (w &&& x) != 0

/-- R148: the value of a watched word of a room. -/
def State.watchedValue (s : State) (r : Nat) : Watched → W64
  | .pantry o => BitVec.ofNat 64 (ofBytes (s.bytesAt (pantryKey r o) 8))
  | .arrayCount => s.reg .arrayDoneCount r
  | .avuCount => s.reg .avuDoneCount r
  | .dwCount c => s.reg .dwDoneCount (r * 8 + c)

def State.watchedPoison (s : State) (r : Nat) : Watched → Bool
  | .pantry o => s.wordPoisoned (pantryKey r o)
  | _ => false

/-- R148: one test of a watch; the first value that meets the condition is kept. -/
def State.testWatch (s : State) (r : Nat) (k : Watch) : Watch :=
  if k.hit ≠ .none then k
  else if s.watchedPoison r k.word then { k with hit := .poison }
  else if k.cond.met (s.watchedValue r k.word) k.cmp then { k with hit := .value (s.watchedValue r k.word) }
  else k

/-- R148, R269: the watches of a room tested after a write to it or an advance of one of its counts. -/
def State.testWatches (s : State) (r : Nat) : State :=
  { s with
    harts := s.harts.map fun p =>
      if p.1 / 32 = r then
        match p.2.wait with
        | .watch rd va k d => (p.1, { p.2 with wait := .watch rd va (s.testWatch r k) d })
        | _ => p
      else p
    dws := s.dws.map fun p =>
      if p.1 / 8 = r then
        match p.2.watch with
        | some k =>
          if s.watchedPoison r k.word then (p.1, { p.2 with flags := p.2.flags ||| 2 })
          else (p.1, { p.2 with watch := some (s.testWatch r k) })
        | none => p
      else p }

/-- A count of a room advanced, with the watches on it tested. -/
def State.bumpCount (s : State) (n : RegName) (i r : Nat) : State := (s.bumpReg n i 32 1).testWatches r

/-! ## Writes to attics and pantries from any source -/

/-- R103, R112, R148, R179: bytes written to a pantry. -/
def State.writePantry (s : State) (r o : Nat) (l : List Byte) (writer : Option Nat := none) : State :=
  ((s.putWords (pantryKey r o) l).dropReservations r writer (wordsOf (pantryKey r o) l.length)).testWatches r

/-- R103, R110, R112, R179: bytes written to an attic through a view; the interleaved view invalidates cached lines. -/
def State.writeAttic (s : State) (r : Nat) (banked : Bool) (o : Nat) (l : List Byte) (writer : Option Nat := none) : State :=
  let t := ((s.putAttic r banked o l).noteView r banked o l.length).dropReservations r writer
    (atticWords r banked o l.length)
  if banked then t else t.dropLines r o l.length

/-! ## Error records -/

/-- R479: the severity of a cause. -/
def causeSeverity (c : Nat) : Nat :=
  if c = 0x01 ∨ c = 0x02 ∨ c = 0x07 ∨ c = 0x09 ∨ c = 0x30 ∨ c = 0x42 ∨ (0x60 ≤ c ∧ c ≤ 0x64) then 1
  else if c = 0x03 ∨ c = 0x04 ∨ c = 0x05 ∨ c = 0x08 ∨ c = 0x0D then 2
  else if c = 0x06 ∨ c = 0x0A ∨ c = 0x0C ∨ c = 0x0E ∨ c = 0x0F ∨ c = 0x10 ∨ c = 0x11 ∨ c = 0x34 ∨ c = 0x51 ∨
    c = 0x52 ∨ c = 0x70 then 0
  else if c = 0x23 ∨ c = 0x24 ∨ c = 0x25 ∨ c = 0x31 ∨ c = 0x53 ∨ c = 0x54 then 4 else 3

/-- R478: a record of a cause at a die. -/
def dieRecord (s : State) (cause die info : Nat) : ErrRecord :=
  { cause, severity := causeSeverity cause, die, time := s.now, info }

/-- R478: a record of a cause at a room. -/
def roomRecord (s : State) (cause r info : Nat) : ErrRecord :=
  { dieRecord s cause (r / 32) info with flags := 1, room := r % 32 }

/-- R482: a record placed in the ring of its room, or counted as lost while the ring is full. -/
def State.ringRecord (s : State) (r : Nat) (e : ErrRecord) : State :=
  let p := s.regN .errProd r
  if (p + 65536 - s.regN .errCons r) % 65536 = 16
  then s.setRegN .errLost r (min (2 ^ 32 - 1) (s.regN .errLost r + 1))
  else
    let ring := tgetD s.errRings r []
    { s.setRegN .errProd r ((p + 1) % 65536) with
      errRings := tset r (tset (p % 16) { e with seq := p } ring) s.errRings }

/-- R481: a record posted: to the ring of its room, to its wing's log, and on its way to the device log. -/
def State.placeRecord (s : State) (e : ErrRecord) : State :=
  let t := if e.flags % 2 = 1 then s.ringRecord (e.die * 32 + e.room) e else s
  let t := if e.die < 24 then { t with wingLogs := tset e.die (lastN 1024 (tgetD t.wingLogs e.die [] ++ [e])) t.wingLogs } else t
  { t with errInFlight := t.errInFlight ++ [e] }

/-- R470: spare rows of a bank used at test, and all in use. -/
def testSpares (r b : Nat) : Nat := Config.testSpares r b % 33
def AtticB.fieldRepairs (a : AtticB) (b : Nat) : Nat :=
  (a.repairs.filter (·.bank == b)).length + (a.repairing.filter fun p => p.2 != .log && p.1.bank == b).length
def AtticB.softUsed (a : AtticB) (b : Nat) : Nat :=
  (a.repairs.filter fun x => x.bank == b && !x.permanent).length + (a.repairing.filter fun p => p.2 != .log && p.1.bank == b).length

/-- R472, R473: a failing row: its repair begins, or nothing is left to repair it with. -/
def State.rowFails (s : State) (e : ErrRecord) (r b row : Nat) : State :=
  let a := s.attic r
  if a.repairs.any (fun x => x.bank == b && x.row == row) || a.repairing.any (fun p => p.1.bank == b && p.1.row == row) then s
  else
    let n := testSpares r b + a.fieldRepairs b
    if a.softUsed b < 4 ∧ n < 32 then s.modAttic r fun a => { a with repairing := a.repairing ++ [(⟨b, row, n, false⟩, .hold)] }
    else s.placeRecord { e with cause := 0x0D, severity := 2, flags := 3, info := row, time := s.now }

/-- R471: an event of a row: one that is uncorrectable, or the second correctable one within 24 h, makes the row failing. -/
def State.rowEvent (s : State) (e : ErrRecord) : State :=
  if (e.cause = 1 ∨ e.cause = 3) ∧ bitOf e.flags 1 then
    let r := e.die * 32 + e.room
    let row := e.within / 1024
    let near := (s.attic r).rowEvents.any fun x => x.1 == e.bank && x.2.1 == row && decide (s.now < x.2.2 + 86400000000000)
    let t := s.modAttic r fun a => { a with rowEvents := a.rowEvents ++ [(e.bank, row, s.now)] }
    if e.cause = 3 ∨ near = true then t.rowFails e r e.bank row else t
  else s

/-- R480: a window is open for correctable records like this one. -/
def CeWindow.covers (w : CeWindow) (e : ErrRecord) : Bool := w.cause == e.cause && w.die == e.die && w.room == e.room

/-- R480, R481: a record posted; a correctable one counts in the window that is open for it, or opens one. -/
def State.post (s : State) (e : ErrRecord) : State :=
  let t :=
    if e.severity = 1 then
      if s.ceWindows.any (·.covers e) then
        { s with ceWindows := s.ceWindows.map fun w => if w.covers e then { w with further := w.further + 1, again := if w.further = 0 then s.now else w.again } else w }
      else { s.placeRecord e with ceWindows := s.ceWindows ++ [(⟨e.cause, e.die, e.room, e, 0, 0⟩ : CeWindow)] }
    else s.placeRecord e
  t.rowEvent e

/-! ## Grants (R404) -/

/-- A grant of a kind for a room has been given and not used. -/
def State.granted (s : State) (k : GrantKind) (r : Nat) : Bool := s.power.issued.any fun g => g.kind == k && g.room == r

/-- The first such grant is used. -/
def State.useGrant (s : State) (k : GrantKind) (r : Nat) : State :=
  match s.power.issued.find? fun g => g.kind == k && g.room == r with
  | some g => { s with power := { s.power with issued := s.power.issued.erase g } }
  | none => s

/-- R404: a request is withdrawn, or its grant dropped. -/
def State.withdrawGrant (s : State) (k : GrantKind) (r : Nat) : State :=
  let keep (g : GrantReq) : Bool := !(g.kind == k && g.room == r)
  let acct (p : Nat × Account) : Nat × Account := (p.1, { p.2 with queue := p.2.queue.filter keep })
  { s with power := { s.power with accounts := s.power.accounts.map acct, issued := s.power.issued.filter keep } }

/-- R491: the controller of this wing (KIND 3) or porch (KIND 5) is the one that restarts now: what it would do is held. -/
def State.restarting (s : State) (kind n : Nat) : Bool :=
  match s.live.restarts with
  | (k, l) :: _ => k == kind && l.head? == some n
  | [] => false

/-- R430: keep-warm runs in the room's array. -/
def State.keptWarm (s : State) (r : Nat) : Bool := (tgetD s.therm.rooms r {}).warm

/-- R431: an entry enters the array: keep-warm ends, and its fall grant is no longer asked for. -/
def State.endKeepWarm (s : State) (r : Nat) : State :=
  if s.keptWarm r then
    (let t := s.withdrawGrant .warmStop r
     { t with therm := { t.therm with rooms := tset r { tgetD t.therm.rooms r {} with warm := false } t.therm.rooms } })
  else s

/-- A record of a cause at a room, posted. -/
def State.postRoom (s : State) (cause r info : Nat) : State := s.post (roomRecord s cause r info)

/-- A record of a cause at a die, posted. -/
def State.postDie (s : State) (cause die info : Nat) : State := s.post (dieRecord s cause die info)

/-- R91: the local physical address of an offset of a room's space. -/
def localPa (type r off : Nat) : Nat := 2 ^ 55 + type * 2 ^ 52 + r / 32 * 2 ^ 33 + r % 32 * 2 ^ 28 + off

/-- R184: the last event that an attic controller recorded. -/
def lastErrWord (kind bank lane within : Nat) : Nat :=
  2 ^ 63 + kind * 2 ^ 60 + bank * 2 ^ 48 + lane * 2 ^ 32 + within / 8 * 8

/-- R177, R184, R478: an attic error: its bit of ATTIC_ERR, ATTIC_LAST_ERR, and its record with bank, offset and address. -/
def State.atticError (s : State) (r bit kind cause : Nat) (banked : Bool) (o lane : Nat) : State :=
  let b := atticBank banked o
  let w := atticWithin banked o
  let e := { roomRecord s cause r (localPa (b2n banked) r o) with
    flags := if lane = 0xFFF then 7 else 23, bank := b, within := w, lane := if lane = 0xFFF then 0 else lane }
  ((s.orReg .atticErr r (2 ^ bit)).setRegN .atticLastErr r (lastErrWord kind b lane w)).post e

/-- R177, R480: a correctable error: its bit, its count, ATTIC_LAST_ERR, and its record. -/
def State.atticCe (s : State) (r bit cause : Nat) (banked : Bool) (o lane : Nat) : State :=
  let c := s.regN .atticCeCount r
  (s.setRegN .atticCeCount r
    (if bit = 0 then c / 2 ^ 32 * 2 ^ 32 + (c + 1) % 2 ^ 32 else (c / 2 ^ 32 + 1) % 2 ^ 32 * 2 ^ 32 + c % 2 ^ 32)).atticError
    r bit bit cause banked o lane

/-- R177, R465: the bank finds a word uncorrectable as it reads it: the word is poisoned, and recorded once. -/
def State.storeUe (s : State) (r : Nat) (banked : Bool) (o : Nat) : State :=
  let k := atticKey r banked o
  if s.poison.contains k then s else (s.setPoison k true).atticError r 2 2 0x03 banked o 0xFFF

/-- R162: an access to an unusable bank. -/
def State.bankAccess (s : State) (r : Nat) (banked : Bool) (o : Nat) : State := s.atticError r 8 5 0x06 banked o 0xFFF

end Sys2Proof.Machine
end

