-- ==== Sys2Proof/Machine/Report.lean ====
section
/-! DEFINITION. What the part reports to its hosts: events (R387), records on their way to the logs (R481), and the ends of
commands that the study has accepted (R386, R531). -/
namespace Sys2Proof.Machine

/-! ## Events (R387) -/

/-- R376: the entries of a ring. -/
def ringSize (log2 : Nat) : Nat := 2 ^ max 4 (min 16 log2)

def State.eventCq (s : State) (d : Nat) : Nat := fld (s.regN .doorCtrl d) 9 0
/-- R387: the event CQ of a door is enabled and its own. -/
def State.eventCqValid (s : State) (d : Nat) : Bool := (s.cq (s.eventCq d)).enable && (s.cq (s.eventCq d)).owner == d

/-- R387: an event reaches a door: it waits to be written, or is dropped beyond 256. -/
def State.doorEvent (s : State) (d : Nat) (e : Event) : State :=
  if (s.door d).down ∨ !bitOf (s.regN .doorCtrl d) 63 then s
  else
    let t := if s.eventCqValid d then s else s.orReg .doorErr d 64
    if (s.door d).events.length < 256 then t.modDoor d fun x => { x with events := x.events ++ [e] }
    else (t.modDoor d fun x => { x with dropped := x.dropped + 1 }).orReg .doorErr d 32

/-- R393: a PLDM platform event message mirrors a THERMAL or ERROR_RECORD event. -/
def State.mirror (s : State) (kind d0 d1 : Nat) : State :=
  if kind = 2 ∨ kind = 3 then { s with sent := s.sent ++ [.mgmt 2 [8, kind, d0, d1] []] } else s

/-- R387: each door receives every event of the part. -/
def State.event (s : State) (kind d0 d1 : Nat) : State :=
  ((s.doorEvent 0 ⟨kind, d0, d1⟩).doorEvent 1 ⟨kind, d0, d1⟩).mirror kind d0 d1

/-! ## Records on their way (R481) -/

/-- R481: a record reaches the device log, the flash log unless it is correctable, and then the hosts, as an event. -/
def State.logRecord (s : State) (e : ErrRecord) : State :=
  let x := { e with seq := s.deviceSeq }
  let t := { s with
    deviceLog := lastN 16384 (s.deviceLog ++ [x]), deviceSeq := (s.deviceSeq + 1) % 2 ^ 32
    flashLog := if e.severity = 1 then s.flashLog else lastN 8192 (s.flashLog ++ [x]) }
  if e.severity = 1 then t else t.event 3 x.seq e.cause

/-- Every record on its way reaches the log. -/
def State.deliverAll (s : State) : State := s.errInFlight.foldl (fun t e => t.logRecord e) { s with errInFlight := [] }

/-! ## Commands of the study that end later (R386, R531) -/

/-- R386, R531: an accepted command ends: an MGMT_DONE event, or the mailbox's final response. -/
def State.mgmtEnd (s : State) (c : MgmtCmd) (status : Nat) : State :=
  let t := { s with live := { s.live with cmds := s.live.cmds.filter fun x => x.id != c.id } }
  if c.ring then t.event 7 c.tag.toNat status else { t with mailboxStudy := { t.mailboxStudy with due := some status } }

/-- The accepted command of a code that names a room, wing or other thing. -/
def State.accepted (s : State) (code arg : Nat) : Option MgmtCmd :=
  s.live.cmds.find? fun c => c.accepted && c.code == code && c.args.getD 0 0 == arg

/-- It ends, where there is one. -/
def State.mgmtDone (s : State) (code arg status : Nat) : State :=
  match s.accepted code arg with | some c => s.mgmtEnd c status | none => s

end Sys2Proof.Machine
end

