-- ==== Sys2Proof/Machine/Translate.lean ====
section
/-! DEFINITION. Physical places (R91–R93), translation (R94–R100, R537) and taking a trap (R85, R131). -/
namespace Sys2Proof.Machine

/-! ## Places -/

/-- R91, R92: what a physical address names. -/
inductive Place where
  | attic (r : Nat) (banked : Bool) (off : Nat)
  | pantry (r : Nat) (off : Nat)
  | roomMmio (r : Nat) (off : Nat)
  | wingMmio (w : Nat) (off : Nat)
  | devMmio (off : Nat)
  | host (d : Nat) (addr : Nat)
  /-- R93: the named room, or block, of every wing that is up -/
  | broadcast (type room off : Nat)
  /-- another device -/
  | remote (dev : Nat)
  | accessError
  | absent
  deriving DecidableEq, Repr

/-- R91: the TYPE of a physical address. -/
def paType (pa : Nat) : Nat := fld pa 54 52
def paOffset (pa : Nat) : Nat := fld pa 27 0

/-- R92, R439: the attic and pantry of a room in this state can be reached, while its block is out of reset. -/
def Room.reachable (x : Room) : Bool := decide (x.cond.state ≤ 2) && x.phase != .inReset

/-- R454: the room runs its boot code after a reset. -/
def Room.boots (x : Room) : Bool := x.phase == .readmitBoot || x.phase == .resetBoot || x.phase == .startBoot

/-- R91, R92: the place of n bytes at a physical address. -/
def State.place (s : State) (pa n : Nat) : Place :=
  let ty := paType pa
  let local_ := bitOf pa 55
  let w := fld pa 37 33
  let r := w * 32 + fld pa 32 28
  let o := paOffset pa
  if 6 ≤ ty then (if local_ then .host (ty - 6) (fld pa 51 0) else .accessError)
  else if !local_ && fld pa 51 38 != s.devId.toNat then
    (if s.absentDevs.contains (fld pa 51 38) then .absent else .remote (fld pa 51 38))
  else match ty with
    | 5 => if fld pa 37 28 = 0 then .devMmio o else .accessError
    | 4 =>
      if fld pa 32 28 ≠ 0 then .accessError
      else if w = 31 then .broadcast 4 0 o
      else if 24 ≤ w then .accessError
      else if (s.wing w).state = 2 then .absent else .wingMmio w o
    | 3 =>
      if 0x10000 < o + n then .accessError
      else if w = 31 then .broadcast 3 (fld pa 32 28) o
      else if 24 ≤ w then .accessError
      else if (s.room r).phase = .inReset then .absent else .roomMmio r o
    | 2 =>
      if 24 ≤ w ∨ pantrySize < o + n then .accessError
      else if (s.room r).reachable then .pantry r o else .absent
    | _ =>
      if 24 ≤ w ∨ atticSize < o + n then .accessError
      else if (s.room r).reachable then .attic r (ty = 1) o else .absent

/-- R454: the same place, as a room's own harts and units reach it: the boot code of a room reaches its own attic and pantry
before the floor plan shows the room in service (DEDUCED). -/
def State.placeFor (s : State) (room pa n : Nat) : Place :=
  let o := paOffset pa
  match s.place pa n with
  | .absent =>
    if (s.room room).boots && decide (paType pa ≤ 2) && fld pa 37 28 == room && (bitOf pa 55 || fld pa 51 38 == s.devId.toNat) then
      (if paType pa = 2 then .pantry room o else .attic room (paType pa = 1) o)
    else .absent
  | p => p

/-! ## Translation -/

/-- R96: the permissions that an access needs of its leaf. -/
inductive Need where
  | read | write | both | exec
  deriving DecidableEq, Repr

/-- R133: the kind of fault that an access raises. -/
inductive FaultKind where
  | fetch | load | store
  deriving DecidableEq, Repr

def FaultKind.page : FaultKind → Nat
  | .fetch => 12 | .load => 13 | .store => 15
def FaultKind.access : FaultKind → Nat
  | .fetch => 1 | .load => 5 | .store => 7
def FaultKind.misaligned : FaultKind → Nat
  | .fetch => 0 | .load => 4 | .store => 6

/-- R537: the privilege of data accesses: MPP while MPRV is 1 in machine mode. -/
def Authority.level (a : Authority) : Priv :=
  if a.priv = .machine ∧ bitOf a.mstatus.toNat 17 then
    (match fld a.mstatus.toNat 12 11 with | 0 => .user | 1 => .supervisor | _ => .machine)
  else a.priv

/-- A translated address: the physical address and the leaf, where there is one. -/
structure Xlate where
  pa : Nat
  leaf : Option Nat
  fill : Option TlbEntry := none
  /-- the level of the leaf (0: 64 KiB) -/
  level : Nat := 0
  /-- R99: the pointer entries that its walk read -/
  path : List WalkEntry := []
  deriving DecidableEq, Repr

/-- R96, R537: the fields of the leaf, as they are taken where there is none. -/
def Xlate.type (x : Xlate) : Nat := paType x.pa
def Xlate.av (x : Xlate) : Bool := match x.leaf with | some p => bitOf p 60 | none => x.type == 1
def Xlate.userLeaf (x : Xlate) : Bool := match x.leaf with | some p => bitOf p 4 | none => true

/-- R106: the class of an ordinary access. -/
def Xlate.cls (x : Xlate) (p : Priv) : Nat :=
  match x.leaf with
  | none => 4
  | some l => if p = .user ∧ (fld l 63 61 = 0 ∨ fld l 63 61 = 7) then 4 else fld l 63 61

/-- R96: a leaf of this level matches the page of a virtual address under an ASID. -/
def TlbEntry.matches (e : TlbEntry) (asid va : Nat) : Bool :=
  (e.asid == asid || bitOf e.pte 5) && e.vpn == (if e.level = 0 then fld va 51 16 else fld va 51 25)

/-- R95: the physical address that a leaf of a level gives. -/
def leafPa (level pte va : Nat) : Nat :=
  if level = 0 then fld pte 55 16 * 0x10000 + fld va 15 0 else fld pte 55 25 * 0x2000000 + fld va 24 0

/-- R95: what reading a table entry gives: none where a is not local TYPE 0 or 2 or the read fails or is poisoned. -/
def State.readPte (s : State) (a : Nat) : Option Nat :=
  match s.place a 8 with
  | .attic r false o =>
    if s.banksUsable r false o 8 && !s.atticPoisoned r false o 8 then some (ofBytes (s.atticBytes r false o 8)) else none
  | .pantry r o =>
    if s.wordPoisoned (pantryKey r o) then none else some (ofBytes (s.bytesAt (pantryKey r o) 8))
  | _ => none

/-- R95–R97: a leaf is well formed for its level and its attributes agree. -/
def leafOk (level pte : Nat) : Bool :=
  (if level = 0 then fld pte 15 12 == 0
   else level == 1 && fld pte 24 12 == 0 && decide (paType pte ≤ 1) && decide (fld pte 27 12 * 0x1000 + 0x2000000 ≤ atticSize)) &&
  (bitOf pte 59 == (paType pte == 1)) && !(bitOf pte 60 && !bitOf pte 59) && fld pte 57 56 == 0 && fld pte 9 8 == 0

/-- R97: A is 1, and D for a store. An LR counts as a store here, since it asks for R and W as an atomic does (DESIGN CHOICE). -/
def leafUsed (pte : Nat) (write : Bool) : Bool := bitOf pte 6 && (!write || bitOf pte 7)

/-- R97: the permissions of a leaf under the privileged architecture, SUM and MXR included. -/
def leafAllows (pte : Nat) (n : Need) (p : Priv) (mstatus : Nat) : Bool :=
  let r := bitOf pte 1 || (bitOf mstatus 19 && bitOf pte 3)
  let u := bitOf pte 4
  (match n with
    | .read => r | .write => bitOf pte 2 | .both => bitOf pte 1 && bitOf pte 2 | .exec => bitOf pte 3) &&
  (match p with
    | .user => u
    | .supervisor => !u || (bitOf mstatus 18 && n != .exec)
    | .machine => true)

/-- R95: the address of the entry that a walk reads at a level, in a table. -/
def pteAddr (va lv a : Nat) : Nat := a + fld va (16 + 9 * lv + 8) (16 + 9 * lv) * 8

/-- Why a walk ends without a leaf: a page fault, or a table read that failed, at the address of the entry. -/
inductive WalkEnd where
  | page
  | read (addr : Nat)
  deriving DecidableEq, Repr

/-- R95: the walk from a level down, at a table: the leaf with its level, and the next tables that the pointer entries named, by
the level of the entry. -/
def State.walk (s : State) (va : Nat) : Nat → Nat → Except WalkEnd (Nat × Nat × List (Nat × Nat))
  | lv, a =>
    match s.readPte (pteAddr va lv a) with
    | none => .error (.read (pteAddr va lv a))
    | some pte =>
      if !bitOf pte 0 || (bitOf pte 2 && !bitOf pte 1) then .error .page
      else if !bitOf pte 1 && !bitOf pte 3 then
        if fld pte 63 56 ≠ 0 ∨ fld pte 7 4 ≠ 0 then .error .page
        else match lv with
          | 0 => .error .page
          | lv + 1 =>
            match s.walk va lv (fld pte 55 12 * 0x1000) with
            | .error e => .error e
            | .ok (l, leaf, path) => .ok (l, leaf, (lv + 1, fld pte 55 12 * 0x1000) :: path)
      else if 2 ≤ lv then .error .page else .ok (lv, pte, [])

/-- R99: the bits of a virtual address above the index of the level under a pointer entry of this level. -/
def walkPrefix (va lv : Nat) : Nat := fld va 51 (16 + 9 * lv)

/-- R99: where a walk begins: under the pointer entry of the lowest level that the walk cache holds, or at the root. -/
def Room.walkStart (x : Room) (asid va root : Nat) : Nat × Nat :=
  let held (lv : Nat) : Option WalkEntry :=
    x.walkCache.find? fun e => e.asid == asid && e.level == lv && e.prefix_ == walkPrefix va lv
  match held 1, held 2, held 3 with
  | some e, _, _ => (0, e.table)
  | _, some e, _ => (1, e.table)
  | _, _, some e => (2, e.table)
  | _, _, _ => (3, root)

/-- R99: a translation that the room's TLBs hold: first-level, then second-level; the instruction TLB serves fetches. -/
def Room.heldXlate (x : Room) (fetch : Bool) (asid va : Nat) : Option TlbEntry :=
  match (if fetch then x.itlb else x.dtlb).find? (·.matches asid va) with
  | some e => some e
  | none => x.tlb.find? (·.matches asid va)

/-- R95: what the tables in memory map a virtual address to, whatever the TLBs hold: none where nothing is mapped, or in
machine mode. -/
def State.mapping (s : State) (a : Authority) (va : Nat) : Option Nat :=
  if a.level = .machine then none
  else match s.walk va 3 (fld a.satp.toNat 43 0 * 0x1000) with
    | .ok (lv, pte, _) => some (leafPa lv pte va)
    | .error _ => none

/-- R95, R99: the leaf for a virtual address: held in a TLB, or found by a walk with the pointer entries that it read. -/
def State.leafOf (s : State) (r : Nat) (a : Authority) (fetch : Bool) (v : Nat) : Except WalkEnd (TlbEntry × List WalkEntry) :=
  let asid := fld a.satp.toNat 59 44
  match (s.room r).heldXlate fetch asid v with
  | some e => .ok (e, [])
  | none =>
    let start := (s.room r).walkStart asid v (fld a.satp.toNat 43 0 * 0x1000)
    match s.walk v start.1 start.2 with
    | .error f => .error f
    | .ok (lv, pte, path) =>
      .ok (⟨asid, lv, if lv = 0 then fld v 51 16 else fld v 51 25, pte⟩, path.map fun p => ⟨asid, p.1, walkPrefix v p.1, p.2⟩)

/-- R94–R99, R537: translation of a virtual address by a unit of a room; the error is the cause of a trap. The checks come in the
order of R95: attributes, permissions, A and D; a user access to MMIO through a leaf with U = 0 is an access fault
(R124, R526). -/
def State.translate (s : State) (r : Nat) (a : Authority) (n : Need) (k : FaultKind) (va : W64) : Except Nat Xlate :=
  let v := va.toNat
  let p := if n = .exec then a.priv else a.level
  if p = .machine then
    (if v < 2 ^ 56 then .ok ⟨v, none, none, 0, []⟩ else .error k.access)
  else if a.satp.toNat / 2 ^ 60 ≠ 14 then .error k.access
  else if fld v 63 52 ≠ (if bitOf v 51 then 0xFFF else 0) then .error k.page
  else
    match s.leafOf r a (n = .exec) v with
    | .error .page => .error k.page
    | .error (.read _) => .error k.access
    | .ok (e, path) =>
      if !leafOk e.level e.pte then .error k.page
      else if p == .user && !bitOf e.pte 4 && decide (3 ≤ paType e.pte ∧ paType e.pte ≤ 5) then .error k.access
      else if n = .exec ∧ 3 ≤ paType e.pte then .error k.access
      else if !leafAllows e.pte n p a.mstatus.toNat || !leafUsed e.pte (n = .write ∨ n = .both) then .error k.page
      else .ok ⟨leafPa e.level e.pte v, some e.pte, some e, e.level, path⟩

/-- R162: a table read of this access reached an unusable bank: the room and the offset. -/
def State.walkBank (s : State) (r : Nat) (a : Authority) (n : Need) (va : W64) : Option (Nat × Nat) :=
  let v := va.toNat
  if (if n = .exec then a.priv else a.level) = .machine ∨ a.satp.toNat / 2 ^ 60 ≠ 14 then none
  else match s.leafOf r a (n = .exec) v with
    | .error (.read addr) =>
      (match s.place addr 8 with
        | .attic q false o => if s.banksUsable q false o 8 then none else some (q, o)
        | _ => none)
    | _ => none

/-- R162: such a read sets BANK_ACCESS at its home. -/
def State.noteWalk (s : State) (r : Nat) (a : Authority) (n : Need) (va : W64) : State :=
  match s.walkBank r a n va with
  | some (q, o) => s.bankAccess q false o
  | none => s

/-- An item placed at the front of a set-associative structure that is listed newest first: it leaves its old place, and of its
set at most this many ways stay, the newest (which one leaves is the model's choice). -/
def cachePut {α : Type} [DecidableEq α] (ways : Nat) (set : α → Nat) (e : α) (l : List α) : List α :=
  let rest := l.filter (· != e)
  e :: (rest.filter fun x => set x != set e || ((rest.takeWhile (· != x)).filter fun y => set y == set e).length + 1 < ways)

/-- R99: a translation kept in the room's data TLB and second-level TLB, and the pointer entries of its walk. The set of a
translation is its page number modulo 256 (DESIGN CHOICE). -/
def Room.keepXlate (q : Room) (e : TlbEntry) (path : List WalkEntry) : Room :=
  { q with
    dtlb := cachePut 64 (fun _ => 0) e q.dtlb
    tlb := cachePut 8 (fun x => x.vpn % 256) e q.tlb
    walkCache := path.foldl (fun l w => cachePut 64 (fun _ => 0) w l) q.walkCache }

/-- R99: a translation kept in the room's TLBs. -/
def State.fillTlb (s : State) (r : Nat) (x : Xlate) : State :=
  match x.fill with
  | none => s
  | some e => s.modRoom r fun q => q.keepXlate e x.path

/-- R100: entries of every TLB of a room that a condition names are invalidated, and its walk cache. -/
def Room.invalidate (q : Room) (p : TlbEntry → Bool) : Room :=
  { q with itlb := q.itlb.filter (fun e => !p e), dtlb := q.dtlb.filter (fun e => !p e), tlb := q.tlb.filter (fun e => !p e), walkCache := [] }

def State.invalidateTlb (s : State) (r : Nat) (p : TlbEntry → Bool) : State := s.modRoom r fun q => q.invalidate p

/-- R100, R123: an entry matches a page number va[51:16]; a 32 MiB entry matches any inside it. -/
def TlbEntry.hasVpn (e : TlbEntry) (vpn : Nat) : Bool := e.vpn == (if e.level = 0 then vpn else vpn / 512)

/-! ## Harts -/

/-- R127: a register; x0 reads 0. -/
def Hart.reg (h : Hart) (n : Nat) : W64 := if n = 0 then 0 else tgetD h.x n 0
def Hart.setReg (h : Hart) (n : Nat) (v : W64) : Hart := if n = 0 then h else { h with x := tset n v h.x }

/-- R127: a pair; a pair named by x0 reads as zero and discards writes. -/
def Hart.pair (h : Hart) (n : Nat) : W128 := if n = 0 then 0 else h.reg (n + 1) ++ h.reg n
def Hart.setPair (h : Hart) (n : Nat) (v : W128) : Hart :=
  if n = 0 then h else (h.setReg n (v.setWidth 64)).setReg (n + 1) ((v >>> 64).setWidth 64)

/-- The hart retires an instruction of this many bytes. -/
def Hart.retire (h : Hart) (len : Nat := 4) : Hart := { h with pc := h.pc + BitVec.ofNat 64 len, wait := .none }

/-- R137, R263, R537: what the hart's data accesses translate with. -/
def Hart.authority (h : Hart) (n : Nat) : Authority := ⟨n, h.satp, h.priv, h.mstatus⟩

def Priv.code : Priv → Nat
  | .user => 0 | .supervisor => 1 | .machine => 3

/-- R85: a trap to machine mode: mepc, mcause, mtval, mstatus, the mode and the pc. -/
def Hart.trapMachine (h : Hart) (irq : Bool) (cause : Nat) (tval : W64) : Hart :=
  let m := h.mstatus.toNat
  let m := setFld (setFld (setFld m 12 11 h.priv.code) 7 7 (fld m 3 3)) 3 3 0
  let base := h.mtvec.toNat / 4 * 4
  { h with
    mepc := h.pc
    mcause := BitVec.ofNat 64 ((if irq then 2 ^ 63 else 0) + cause)
    mtval := tval
    mstatus := BitVec.ofNat 64 m
    priv := .machine
    pc := BitVec.ofNat 64 (if irq ∧ h.mtvec.toNat % 4 = 1 then base + 4 * cause else base)
    wait := .none }

/-- R85: a trap to supervisor mode. -/
def Hart.trapSupervisor (h : Hart) (irq : Bool) (cause : Nat) (tval : W64) : Hart :=
  let m := h.mstatus.toNat
  let m := setFld (setFld (setFld m 8 8 (if h.priv = .user then 0 else 1)) 5 5 (fld m 1 1)) 1 1 0
  let base := h.stvec.toNat / 4 * 4
  { h with
    sepc := h.pc
    scause := BitVec.ofNat 64 ((if irq then 2 ^ 63 else 0) + cause)
    stval := tval
    mstatus := BitVec.ofNat 64 m
    priv := .supervisor
    pc := BitVec.ofNat 64 (if irq ∧ h.stvec.toNat % 4 = 1 then base + 4 * cause else base)
    wait := .none }

/-- R85, R131: taking an exception: delegated by medeleg from supervisor and user mode, else to machine mode. -/
def Hart.trap (h : Hart) (cause : Nat) (tval : W64) : Hart :=
  if h.priv ≠ .machine ∧ bitOf h.medeleg.toNat cause then h.trapSupervisor false cause tval
  else h.trapMachine false cause tval

/-- A precise exception of a hart. -/
def State.trap (s : State) (h : HartId) (cause : Nat) (tval : W64) : State := s.modHart h (·.trap cause tval)

/-! ## Interrupts (R88, R121) -/

/-- R121: the sources of a room that are asserted, as the bits of ROOM_IRQ_PENDING. -/
def State.irqPending (s : State) (r : Nat) : Nat :=
  let dwIrq := (List.range 8).any (fun c => (s.dw (r * 8 + c)).state == .halted) ||
    (bitOf (s.regN .dwCqCfg r) 8 && s.regN .dwCqProd r != s.regN .dwCqCons r)
  b2n (s.regN .arrayErr r != 0) + 2 * b2n dwIrq + 4 * b2n (s.regN .avuErr r != 0) +
  8 * b2n (s.reg .atticErr r &&& s.reg .atticErrEn r != 0) + 16 * b2n (s.regN .errProd r != s.regN .errCons r) +
  32 * b2n (tgetD s.mailboxes r {}).pending +
  64 * b2n ((List.range 32).any fun h => (s.hartAt (r * 32 + h)).storeErr)

/-- R121, R123: some asserted source is routed to this hart at this level. -/
def State.routed (s : State) (h : HartId) (machine : Bool) : Bool :=
  let p := s.irqPending h.room.val
  let route := s.regN .roomIrqRoute h.room.val
  (List.range 7).any fun n =>
    bitOf p n && bitOf route (8 * n + 7) && bitOf route (8 * n + 6) == machine && fld route (8 * n + 4) (8 * n) == h.hart.val

/-- R88: the machine timer interrupt of a hart is pending. -/
def State.timerPending (s : State) (h : HartId) : Bool := decide (s.regN .roomMtimecmp (hkey h) ≤ s.now)

/-- R88, R121: the interrupt bits of a hart that are pending and enabled in mie: MEIP 11, MTIP 7, SEIP 9. -/
def State.pendingEnabled (s : State) (h : HartId) : List Nat :=
  let ie := (s.hart h).mie.toNat
  (if s.routed h true && bitOf ie 11 then [11] else []) ++ (if s.timerPending h && bitOf ie 7 then [7] else []) ++
  (if s.routed h false && bitOf ie 9 then [9] else [])

/-- R85: an interrupt can be taken now: its target mode is above, or is the present one with its interrupts on. -/
def Hart.takes (h : Hart) (c : Nat) : Bool :=
  if bitOf h.mideleg.toNat c then
    (match h.priv with
      | .machine => false | .supervisor => bitOf h.mstatus.toNat 1 | .user => true)
  else h.priv != .machine || bitOf h.mstatus.toNat 3

def Hart.takeIrq (h : Hart) (c : Nat) : Hart :=
  if bitOf h.mideleg.toNat c then h.trapSupervisor true c 0 else h.trapMachine true c 0

/-- R86: the hart is blocked in a wait, join or WFI instruction that nothing has ended. -/
def HartWait.isWaiting : HartWait → Bool
  | .wfi | .watch .. | .rbar .. | .gbar .. | .join .. => true
  | _ => false

/-- R86: the state code of a hart. -/
def Hart.code (h : Hart) : Nat :=
  if h.halted then 3 else if h.idle then 0 else if h.wait.isWaiting then 2 else 1

/-- R21, R25, R419, R439: harts of the room execute: it is not stopping, nor asked to go idle, nor in reset, nor disabled or
absent. -/
def Room.executes (x : Room) : Bool :=
  match x.phase with
  | .inService | .draining => decide (x.cond.state ≤ 2)
  | .startBoot | .resetBoot | .readmitBoot => true
  | _ => false

/-- R85, R86, R427: the hart can execute an instruction: it is RUNNING, its room is out of reset and the device is not stopping, and it waits for nothing;
a WFI whose interrupt is pending has ended, and a stalled instruction is issued again. -/
def State.canIssue (s : State) (h : HartId) (w : Option W32) : Bool :=
  let x := s.hart h
  !x.idle && !x.halted && (s.room h.room.val).executes && s.therm.stop == 0 &&
  (match x.wait with
    | .none => true
    | .wfi => !(s.pendingEnabled h).isEmpty
    | .stall v => w == some v
    | _ => false)

/-- R85: the hart is the one of its room that issued last. -/
def State.issued (s : State) (h : HartId) : State := s.modRoom h.room.val fun x => { x with lastIssued := h.hart.val }

/-- R85: a WFI that has ended retires before the next instruction. -/
def State.endWfi (s : State) (h : HartId) : State :=
  if (s.hart h).wait = .wfi then s.modHart h (·.retire) else s

end Sys2Proof.Machine
end

