-- ==== Sys2Proof/Machine/Regulate.lean ====
section
/-! DEFINITION. Traffic regulation: shares, priorities, byte caps and their registers (R297–R303). -/
namespace Sys2Proof.Machine

/-! ## Queues -/

/-- R303: the number of a regulated queue: attics by room, hall ports by wing × 5 + port, links. -/
def atticQ (r : Nat) : Nat := r
def portQ (w n : Nat) : Nat := 768 + w * 5 + n
def linkQ (l : Nat) : Nat := 888 + l

def State.regq (s : State) (k : Nat) : RegQ := tgetD s.regqs k {}
def State.modRegq (s : State) (k : Nat) (f : RegQ → RegQ) : State := { s with regqs := tset k (f (s.regq k)) s.regqs }

def RegQ.cls (q : RegQ) (c : Nat) : RegClass := q.classes.getD c default
def RegQ.modCls (q : RegQ) (c : Nat) (f : RegClass → RegClass) : RegQ := { q with classes := lset q.classes c (f (q.cls c)) }

/-- The number of entries that a class holds. -/
def heldOf (held : List Nat) (c : Nat) : Nat := (held.filter (· == c)).length

/-- R298: the free entries of the pool, for a queue whose entries have these classes. -/
def RegQ.poolFree (q : RegQ) (held : List Nat) : Nat :=
  (64 - (q.classes.map (·.share)).foldl (· + ·) 0) -
  ((List.range 8).map fun c => heldOf held c - (q.cls c).share).foldl (· + ·) 0

/-- R298: a request of a class may enter. -/
def RegQ.admits (q : RegQ) (held : List Nat) (c : Nat) : Bool :=
  decide (held.length < 64) && (!q.enable || decide (heldOf held c < (q.cls c).share) || decide (0 < q.poolFree held))

/-- R298: requests of one class enter one after the other. -/
def RegQ.admitsAll (q : RegQ) (c : Nat) : Nat → List Nat → Bool
  | 0, _ => true
  | n + 1, held => q.admits held c && q.admitsAll c n (c :: held)

/-- R299: the step that the latencies of a class give. -/
def RegClass.newStep (c : RegClass) : Nat :=
  let sum := c.history.foldl (· + ·) 0
  let t := c.latTarget * 10 * c.history.length
  if c.latTarget = 0 ∨ c.history = [] then 0
  else if 100 * sum < 50 * t then 0 else if 100 * sum < 75 * t then 1 else if 100 * sum < 90 * t then 2 else 3

/-- R299: the step of a class: that of its last completion, and 0 without a target. -/
def RegClass.step (c : RegClass) : Nat := if c.latTarget = 0 then 0 else c.stepped

/-- R299: the effective priority. -/
def RegClass.effective (c : RegClass) : Nat := min 7 (c.prio + c.step)

/-- R300: the class is capped until its window ends. -/
def RegClass.capped (c : RegClass) : Bool := c.bwCap != 0 && decide (c.bwCap * 64 ≤ c.bytes)

/-- R299, R300: a request of a class completes: its latency and its bytes. -/
def RegQ.complete (q : RegQ) (c latency bytes : Nat) : RegQ :=
  q.modCls c fun x =>
    let y := { x with history := (latency :: x.history).take 256, bytes := x.bytes + bytes }
    { y with stepped := y.newStep }

/-- R301: the class that is served next among those that are ready, after the one served last. -/
def RegQ.serve (q : RegQ) (ready : List Nat) : Option Nat :=
  let order := (List.range 8).map fun i => (q.last + 1 + i) % 8
  let uncapped := ready.filter fun c => !(q.cls c).capped
  let pool := if uncapped.isEmpty then ready else uncapped
  let best := pool.foldl (fun m c => max m (q.cls c).effective) 0
  order.find? fun c => pool.contains c && (q.cls c).effective == best

/-- R301, R303: the index of the next request of a queue, given the class of each, oldest first, and which are ready. -/
def RegQ.pick (q : RegQ) (held : List (Nat × Bool)) : Option Nat :=
  if q.enable then
    match q.serve ((held.filter (·.2)).map (·.1)) with
    | some c => held.findIdx? fun p => p.2 && p.1 == c
    | none => none
  else held.findIdx? (·.2)

/-- R301: class and readiness of queued packets, given the class, the virtual channel and the readiness of each, oldest first: a
packet behind another of its virtual channel is not ready. -/
def headsReady (l : List (Nat × Nat × Bool)) : List (Nat × Bool) :=
  l.zipIdx.map fun p => (p.1.1, p.1.2.2 && !((l.take p.2).any fun q => q.2.1 == p.1.2.1))

/-! ## Registers (R302, R303) -/

/-- R303: REG_CLASS_CFGc. -/
def RegClass.cfg (c : RegClass) : Nat := c.latTarget * 2 ^ 48 + c.bwCap * 2 ^ 32 + c.prio * 2 ^ 16 + c.share

/-- R299, R303: REG_CLASS_STATc. -/
def RegClass.stat (c : RegClass) (held : Nat) : Nat :=
  min 0xFFFF (c.history.foldl (· + ·) 0 / max 1 c.history.length / 10) * 2 ^ 48 + min 0xFFFF (c.bytesLast / 64) * 2 ^ 32 +
  c.step * 2 ^ 18 + b2n c.capped * 2 ^ 17 + held

/-- R303: the 8 bytes of a regulation block at an offset. -/
def RegQ.reg (q : RegQ) (held : List Nat) (off : Nat) : Nat :=
  if off = 0 then b2n q.shareRej * 256 + b2n q.enable
  else if off = 8 then q.poolFree held * 256 + held.length
  else if 0x40 ≤ off ∧ off < 0x80 then (q.cls ((off - 0x40) / 8)).cfg
  else if 0x80 ≤ off ∧ off < 0xC0 then (q.cls ((off - 0x80) / 8)).stat (heldOf held ((off - 0x80) / 8))
  else 0

/-- R303: CLEAR. -/
def RegQ.clear (q : RegQ) : RegQ :=
  { q with classes := q.classes.map fun c => { c with history := [], bytes := 0, bytesLast := 0 } }

/-- R302: a write of REG_CLASS_CFGc; one that makes the sum of the shares exceed 60 is ignored. -/
def RegQ.cfgWrite (q : RegQ) (c v : Nat) : RegQ :=
  let total := ((List.range 8).map fun i => if i = c then fld v 6 0 else (q.cls i).share).foldl (· + ·) 0
  if 60 < total then { q with shareRej := true }
  else q.modCls c fun x => { x with latTarget := fld v 63 48, bwCap := fld v 47 32, prio := fld v 18 16, share := fld v 6 0 }

/-- R303: a write to a regulation block. -/
def RegQ.write (q : RegQ) (off v : Nat) : RegQ :=
  if off = 0 then
    let q := { q with enable := bitOf v 0, shareRej := q.shareRej && !bitOf v 8 }
    if bitOf v 1 then q.clear else q
  else if 0x40 ≤ off ∧ off < 0x80 then q.cfgWrite ((off - 0x40) / 8) v
  else q

/-- R303, R372: who may write a regulation block: machine-mode harts, and for those in device MMIO the part's own processors, and
the host, which has the rights of a machine-mode hart there. -/
def regWriter (s : State) (queue : Nat) : Accessor → Bool
  | .hart h => ((s.hart h).authority 0).level == .machine
  | .processor => decide (768 ≤ queue)
  | .host _ => decide (768 ≤ queue)

def execRegWindowEnd (s : State) : Result :=
  .next { s.reach ((s.now / 1000 + 1) * 1000) with
    regqs := s.regqs.map fun p =>
      (p.1, { p.2 with classes := p.2.classes.map fun c => { c with bytesLast := c.bytes, bytes := 0 } }) }

def execRegCtrlClear (who : Accessor) (queue : Fin 936) (s : State) : Result :=
  whenReady (regWriter s queue.val who) s (s.modRegq queue.val (·.clear))

def execRegClassCfgWrite (who : Accessor) (queue : Fin 936) (cls : Fin 8) (value : W64) (s : State) : Result :=
  whenReady (regWriter s queue.val who) s (s.modRegq queue.val (·.cfgWrite cls.val value.toNat))

end Sys2Proof.Machine
end

