-- ==== Sys2Proof/Machine/Home.lean ====
section
/-! DEFINITION. Reads, writes and atomics as they are performed at the home of their target (R92, R104, R112–R116, R147,
R162, R179–R183). -/
namespace Sys2Proof.Machine

/-- The answer to a read at a home: data, data with poison, an error by its code of R122 (2 ABSENT, 4 access error), or
none yet, while the home's island is stopped (R16). -/
inductive Answer where
  | data (l : List Byte)
  | poisoned (l : List Byte)
  | error (code : Nat)
  | waiting
  deriving DecidableEq, Repr

/-- R16: the island of the room is stopped, so a request to it waits. -/
def Room.stalled (x : Room) : Bool := x.phase == .stopClocks || x.phase == .stopNotice || x.phase == .stopPublish

/-! ## When an attic controller takes an access (R163, R164, R171, R172, R175, R298) -/

/-- R163: a request split into granule requests: offset and bytes of each. -/
def granulePieces : Nat → Nat → Nat → List (Nat × Nat)
  | 0, _, _ => []
  | f + 1, o, n => if n = 0 then [] else let k := min n (256 - o % 256); (o, k) :: granulePieces f (o + k) (n - k)

/-- R163: the granule requests that a request of n bytes takes. -/
def granules (o n : Nat) : List (Nat × Nat) := granulePieces (n / 256 + 2) o n

def AtticB.held (a : AtticB) : List Nat := a.queue.map (·.cls)

/-- R164: bytes of an attic overlap those of a request, through whatever view. -/
def AtticReq.meets (x : AtticReq) (banked : Bool) (o n : Nat) : Bool :=
  (viewPieces banked o n).any fun p => (viewPieces x.banked x.off x.len).any p.overlaps

/-- R163, R164, R171, R175, R298: the controller takes an access of a class to these bytes now and performs it: beats cross the
stair, no request that came earlier overlaps it, none of its class waits, and the queue has room for it. -/
def State.atticOpen (s : State) (cls r : Nat) (banked : Bool) (o n : Nat) : Bool :=
  let a := s.attic r
  a.phase == .running && !(a.queue ++ a.waiting).any (·.meets banked o n) && !a.waiting.any (·.cls == cls) &&
  (s.regq (atticQ r)).admitsAll cls (granules o n).length a.held

/-- R172: the controller has stopped all access to its attic. -/
def State.atticStopped (s : State) (r : Nat) : Bool := (s.attic r).phase == .stopped

/-- R163: the home of a place takes an access of a class now; at an attic that does not, its source stalls. At a stopped island,
or an attic that is stopped, a request waits for an answer instead (R16, R172). -/
def State.homeOpen (s : State) (cls : Nat) (p : Place) (n : Nat) : Bool :=
  match p with
  | .attic r b o => (s.room r).stalled || s.atticStopped r || s.atticOpen cls r b o n
  | _ => true

/-- R16, R163, R172: the home of a place answers an access of a class now. -/
def State.homeRuns (s : State) (cls : Nat) (p : Place) (n : Nat) : Bool :=
  match p with
  | .attic r b o => !(s.room r).stalled && !s.atticStopped r && s.atticOpen cls r b o n
  | .pantry r _ => !(s.room r).stalled
  | _ => true

/-- The homes of these places answer now. -/
def State.homesRun (s : State) (cls : Nat) (l : List (Place × Nat)) : Bool := l.all fun p => s.homeRuns cls p.1 p.2

/-- The answer of a memory home to a read of n bytes. -/
def State.memRead (s : State) (p : Place) (n : Nat) : Answer :=
  match p with
  | .attic r b o =>
    if (s.room r).stalled || s.atticStopped r then .waiting
    else if !s.banksUsable r b o n then .error 4
    else if s.atticPoisoned r b o n then .poisoned (s.atticBytes r b o n) else .data (s.atticBytes r b o n)
  | .pantry r o =>
    if (s.room r).stalled then .waiting
    else if s.rangePoisoned (pantryKey r o) n then .poisoned (s.bytesAt (pantryKey r o) n)
    else .data (s.bytesAt (pantryKey r o) n)
  | .host d a => if (tgetD s.doors d {}).hostUp then .data (s.bytesAt (hostKey d a) n) else .error 4
  | .absent => .error 2
  | _ => .error 4

/-- What a read leaves behind: the view it used, and an access to an unusable bank recorded; the free counter advances. -/
def State.afterRead (s : State) (p : Place) (n : Nat) : State :=
  match p with
  | .attic r b o => (if s.banksUsable r b o n then s.noteView r b o n else s.bankAccess r b o).bump
  | _ => s.bump

/-- The code of a write at a memory home: 0 performed, 2 ABSENT, 4 in error, 16 waiting. -/
def State.writeCode (s : State) (p : Place) (l : List Byte) : Nat :=
  match p with
  | .attic r b o =>
    if (s.room r).stalled || s.atticStopped r then 16 else if !s.banksUsable r b o l.length then 4
    else if s.atticWriteError r b o l then 4 else 0
  | .pantry r o =>
    if (s.room r).stalled then 16 else if s.writeError (pantryKey r o) l then 4 else 0
  | .host d _ => if (tgetD s.doors d {}).hostUp then 0 else 4
  | .absent => 2
  | _ => 4

/-- R179, R184: how far into a write the word lies that a narrow write finds uncorrectable. -/
def State.narrowAt (s : State) (key : Nat → Nat) (o : Nat) (l : List Byte) : Nat :=
  match (wordPieces l.length o l).find? fun p => s.narrowError (key p.1) p.2.2.length with
  | some p => p.1 - o
  | none => 0

/-- A write performed at a memory home, by a hart (its key) or another source. A narrow write that meets an
uncorrectable word is merged, left poisoned and recorded (R179). -/
def State.memWrite (s : State) (p : Place) (l : List Byte) (writer : Option Nat := none) : State :=
  match p with
  | .attic r b o =>
    if !s.banksUsable r b o l.length then (s.bankAccess r b o).bump
    else
      let t := s.writeAttic r b o l writer
      (if s.atticWriteError r b o l then t.atticError r 4 4 0x05 b (o + s.narrowAt (atticKey r b) o l) 0xFFF else t).bump
  | .pantry r o =>
    let t := s.writePantry r o l writer
    (if s.writeError (pantryKey r o) l then t.postRoom 0x05 r (localPa 2 r (o + s.narrowAt (pantryKey r) o l)) else t).bump
  | .host d a => (s.putBytes (hostKey d a) l).bump
  | _ => s

/-! ## Atomics -/

/-- Bytes of the target of an atomic. -/
def homeWidth : HomeAtomic → Nat
  | .amo _ d _ => if d then 8 else 4
  | .xaAdd _ => 16
  | .fadd _ | .fmax _ | .fmin _ => 4
  | .cas n _ _ => n
  | .leaseAcq .. | .leaseRel .. => 16
  | .set _ | .clr _ | .add _ => 8

/-- R181: the new value of an AMO on a target of n bits. -/
def amoNew (op : AmoOp) (n old x : Nat) : Nat :=
  match op with
  | .swap => x
  | .add => (old + x) % 2 ^ n
  | .and => old &&& x
  | .or => old ||| x
  | .xor => old ^^^ x
  | .min => if sgn n x < sgn n old then x else old
  | .max => if sgn n old < sgn n x then x else old
  | .minu => if x < old then x else old
  | .maxu => if old < x then x else old

/-- R114: word 0 of a lease, and its fields. -/
def leaseHeld (w0 : Nat) : Bool := fld w0 55 48 == 1
def leaseWord (w0 : Nat) (state epoch owner : Nat) (brk : Bool) : Nat :=
  (if brk then min 255 (fld w0 63 56 + 1) else fld w0 63 56) * 2 ^ 56 + state * 2 ^ 48 + epoch * 2 ^ 32 + owner

/-- R115: lease acquire on a 16-byte lease: its new value, and the result. -/
def leaseAcquire (old : Nat) (caller epoch x : Nat) : Nat × Nat :=
  let w0 := old % 2 ^ 64
  let seq := (old / 2 ^ 64 + 1) % 2 ^ 64
  if fld w0 55 48 = 0 then (leaseWord w0 1 epoch caller false + seq * 2 ^ 64, 0)
  else if leaseHeld w0 ∧ fld w0 31 0 = caller ∧ fld w0 47 32 = epoch then (old, 0)
  else if x ≠ 0 ∧ w0 = x ∧ leaseHeld w0 then (leaseWord w0 1 epoch caller true + seq * 2 ^ 64, 0)
  else (old, w0)

/-- R116: lease release. -/
def leaseRelease (old : Nat) (caller epoch : Nat) : Nat × Nat :=
  let w0 := old % 2 ^ 64
  if leaseHeld w0 ∧ fld w0 31 0 = caller ∧ fld w0 47 32 = epoch
  then (old / 2 ^ 64 * 2 ^ 64 + setFld w0 55 48 0, 0) else (old, w0)

/-- R115, R116, R147, R181, R182: the new value of the target, and the value returned. -/
def homeNew (op : HomeAtomic) (old : Nat) : Nat × Nat :=
  match op with
  | .amo o d x => let n := if d then 64 else 32; (amoNew o n old (x.toNat % 2 ^ n), old)
  | .xaAdd p => ((combinePartial (BitVec.ofNat 128 old) p).toNat, old)
  | .fadd x => (fp32Add old x.toNat, old)
  | .fmax x => (fp32Max old x.toNat, old)
  | .fmin x => (fp32Min old x.toNat, old)
  | .cas n c v => (if old = c.toNat % 2 ^ (8 * n) then v.toNat % 2 ^ (8 * n) else old, old)
  | .leaseAcq c e x => leaseAcquire old c.toNat e.toNat x.toNat
  | .leaseRel c e => leaseRelease old c.toNat e.toNat
  | .set x => (old ||| x.toNat, old)
  | .clr x => (old &&& (2 ^ 64 - 1 - x.toNat), old)
  | .add x => ((old + x.toNat) % 2 ^ 64, old)

/-- R112, R142, R147: the places that an operation may target. -/
def homeAllows (op : HomeAtomic) (p : Place) : Bool :=
  match op, p with
  | .set _, .pantry .. | .clr _, .pantry .. | .add _, .pantry .. => true
  | .set _, _ | .clr _, _ | .add _, _ => false
  | .leaseAcq .., .attic _ b _ | .leaseRel .., .attic _ b _ => !b
  | _, .attic .. | _, .pantry .. => true
  | _, _ => false

/-- The keys of n bytes at a place. -/
def placeRanges (p : Place) (n : Nat) : List (Nat × Nat) :=
  match p with
  | .attic r b o => atticRanges r b o n
  | .pantry r o => [(pantryKey r o, pantryKey r o + n)]
  | .host d a => [(hostKey d a, hostKey d a + n)]
  | _ => []

/-- A store of software to n bytes at a place. -/
def State.storeAt (s : State) (p : Place) (n : Nat) : State := s.storeNote (placeRanges p n)

/-- The key of the first byte at a place. -/
def placeKey0 (p : Place) : Nat := ((placeRanges p 16).headD (0, 0)).1

/-- R214: KV_VA and PROV_VA of the table entries at these places are guarded for a command of this number. -/
def State.guardSeqs (s : State) (n r : Nat) (l : List Place) : State :=
  l.foldl (fun s p => s.setGuard (.seq n (placeKey0 p)) r [(placeKey0 p + 0x10, placeKey0 p + 0x20)]) s

/-- R115: the guard of a lease at a place. -/
def leaseKey (p : Place) : GuardKey := .lease (placeKey0 p)

def isLease : HomeAtomic → Bool
  | .leaseAcq .. | .leaseRel .. => true
  | _ => false

/-- R115: what the home finds in the target: its bytes, or a free value in a lease to which an ordinary store was made
while it was in use. -/
def State.atomicOld (s : State) (op : HomeAtomic) (p : Place) (l : List Byte) : Nat :=
  if isLease op && s.disturbed (leaseKey p) then (Config.freeWord s.free 2500).toNat + 2 ^ 64 * (Config.freeWord s.free 2501).toNat
  else ofBytes l

/-- R115: a lease in use is guarded; any other atomic is a store of software. -/
def State.guardLease (s : State) (op : HomeAtomic) (p : Place) (new : Nat) : State :=
  if !isLease op then s.storeAt p (homeWidth op)
  else if !leaseHeld (new % 2 ^ 64) then s.dropGuard (leaseKey p)
  else if s.guards.any fun g => g.key == leaseKey p then s
  else s.setGuard (leaseKey p) 0 (placeRanges p 16)

/-- R183: the answer of an atomic: the value it returns, or poison with the target unchanged. -/
def State.atomicAnswer (s : State) (op : HomeAtomic) (p : Place) : Answer :=
  match s.memRead p (homeWidth op) with
  | .data l => .data (toBytes (homeWidth op) (homeNew op (s.atomicOld op p l)).2)
  | a => a

/-- R112: an atomic performed at its home, indivisibly. One that leaves its target as it was writes the old bytes back, so it is a
write that costs other harts a reservation (DESIGN CHOICE: R112 does not say whether a failed compare and swap, or a lease
operation that changes nothing, is a write). -/
def State.atomicPerform (s : State) (op : HomeAtomic) (p : Place) (writer : Option Nat := none) : State :=
  match s.memRead p (homeWidth op) with
  | .data l =>
    let new := (homeNew op (s.atomicOld op p l)).1
    (s.memWrite p (toBytes (homeWidth op) new) writer).guardLease op p new
  | _ => s.afterRead p (homeWidth op)

end Sys2Proof.Machine
end

