-- ==== Sys2Proof/Machine/Operands.lean ====
section
/-! DEFINITION. The operand forms of the extension instructions: the frame of R125, the checks of R126, and the
registers they name (R127, R134, R139, R145, R150). -/
namespace Sys2Proof.Machine

/-- R125: the fields of an extension instruction. -/
def szOp5 (w : W32) : Nat := fld w.toNat 31 27
def szAq (w : W32) : Bool := bitOf w.toNat 26
def szRl (w : W32) : Bool := bitOf w.toNat 25
def szRs2 (w : W32) : Nat := fld w.toNat 24 20
def szRs1 (w : W32) : Nat := fld w.toNat 19 15
def szF3 (w : W32) : Nat := fld w.toNat 14 12
def szRd (w : W32) : Nat := fld w.toNat 11 7
def szSpace (w : W32) : Nat := fld w.toNat 6 0

/-- R125: the opcodes of the four spaces. -/
def custom0 : Nat := 0b0001011
def custom1 : Nat := 0b0101011
def custom2 : Nat := 0b1011011
def custom3 : Nat := 0b1111011

/-- How an operation uses FUNCT3: zero, a traffic class, one of a range of variants, or the operation of sz.signal. -/
inductive F3Use where
  | zero | cls | below (n : Nat)
  deriving DecidableEq, Repr

/-- R134, R139, R145, R150: a row of the operation tables. -/
structure SzRow where
  space : Nat
  op5 : Nat
  f3 : F3Use
  order : Bool
  rd : Bool
  rs1 : Bool
  rs2 : Bool
  /-- R127: the registers that name pairs: rd, rs2 -/
  pairRd : Bool := false
  pairRs2 : Bool := false
  deriving DecidableEq, Repr

/-- The rows of the operation tables. -/
def szRows : List SzRow :=
  [⟨custom0, 0, .zero, false, true, true, false, false, false⟩, ⟨custom0, 1, .zero, false, true, true, false, false, false⟩,
   ⟨custom0, 2, .zero, false, false, true, true, false, false⟩, ⟨custom0, 3, .zero, false, true, true, false, false, false⟩,
   ⟨custom0, 4, .zero, false, true, true, false, false, false⟩] ++
  [⟨custom1, 0, .cls, true, true, true, false, false, false⟩, ⟨custom1, 1, .cls, true, true, true, false, false, false⟩,
   ⟨custom1, 2, .cls, true, true, true, false, false, false⟩, ⟨custom1, 3, .cls, true, true, true, false, false, false⟩,
   ⟨custom1, 4, .cls, true, true, true, false, true, false⟩, ⟨custom1, 5, .cls, true, true, true, false, false, false⟩,
   ⟨custom1, 6, .cls, true, true, true, false, false, false⟩, ⟨custom1, 7, .cls, true, true, true, false, false, false⟩] ++
  [⟨custom1, 8, .cls, true, false, true, true, false, false⟩, ⟨custom1, 9, .cls, true, false, true, true, false, false⟩,
   ⟨custom1, 0xA, .cls, true, false, true, true, false, false⟩, ⟨custom1, 0xB, .cls, true, false, true, true, false, false⟩,
   ⟨custom1, 0xC, .cls, true, false, true, true, false, true⟩] ++
  [⟨custom1, 0x10, .cls, true, true, true, true, true, true⟩, ⟨custom1, 0x11, .cls, true, true, true, true, false, false⟩,
   ⟨custom1, 0x12, .cls, true, true, true, true, false, false⟩, ⟨custom1, 0x13, .cls, true, true, true, true, false, false⟩,
   ⟨custom1, 0x14, .cls, true, true, true, true, false, false⟩, ⟨custom1, 0x15, .cls, true, true, true, true, false, false⟩,
   ⟨custom1, 0x16, .cls, true, true, true, true, true, true⟩] ++
  [⟨custom1, 0x18, .cls, false, true, true, true, false, false⟩, ⟨custom1, 0x19, .cls, false, true, true, false, false, false⟩,
   ⟨custom1, 0x1C, .zero, false, false, true, true, false, false⟩, ⟨custom1, 0x1D, .zero, false, true, true, false, false, false⟩] ++
  [⟨custom2, 0, .zero, false, true, true, true, false, false⟩, ⟨custom2, 1, .below 3, false, true, true, true, false, false⟩,
   ⟨custom2, 2, .below 5, false, true, true, true, false, false⟩, ⟨custom2, 3, .zero, false, true, true, true, false, false⟩] ++
  [⟨custom3, 0, .zero, false, true, true, false, false, false⟩, ⟨custom3, 1, .zero, false, true, true, false, false, false⟩,
   ⟨custom3, 2, .zero, false, true, true, true, false, false⟩, ⟨custom3, 3, .zero, false, true, true, false, true, false⟩,
   ⟨custom3, 4, .zero, false, false, true, false, false, false⟩]

/-- The row that an instruction word falls under, if its space lists its OP5. -/
def szRow (w : W32) : Option SzRow := szRows.find? fun r => r.space == szSpace w && r.op5 == szOp5 w

/-- R126: the instruction raises illegal instruction in a mode. sz.signal holds its class in the RD field (R145). -/
def szIllegal (w : W32) (p : Priv) : Bool :=
  match szRow w with
  | none => true
  | some r =>
    let signal := r.space == custom2 && r.op5 == 1
    let cls := if signal then szRd w % 8 else szF3 w
    (!r.order && (szAq w || szRl w)) ||
    (!r.rd && szRd w != 0) || (!r.rs1 && szRs1 w != 0) || (!r.rs2 && szRs2 w != 0) ||
    (match r.f3 with | .zero => szF3 w != 0 | .cls => false | .below n => decide (n ≤ szF3 w)) ||
    (signal && decide (8 ≤ szRd w)) ||
    (r.pairRd && szRd w % 2 == 1) || (r.pairRs2 && szRs2 w % 2 == 1) ||
    (p == .user && (signal || r.f3 == .cls) && (cls == 0 || cls == 7))

/-- The instruction word is of this space, with this OP5. -/
def szIs (space op5 : Nat) (w : W32) : Bool := szSpace w == space && szOp5 w == op5

/-- R133: the prologue of an extension instruction of a hart. A hart that cannot issue, or a word of another operation,
changes nothing; an illegal encoding traps with the instruction bits; otherwise the instruction runs. -/
def szRun (h : HartId) (w : W32) (mine : Bool) (s : State) (body : State → State) : Result :=
  if !mine || !s.canIssue h (some w) then .next s
  else
    let t := s.endWfi h
    if szIllegal w (t.hart h).priv then .next ((t.trap h 2 (w.setWidth 64)).issued h) else .next ((body t).issued h)

/-- R132: SZ_OPERAND with a reason code. -/
def State.szOperand (s : State) (h : HartId) (code : Nat) : State := s.trap h 27 (BitVec.ofNat 64 code)

/-- What the read of a descriptor comes to: its words and the state after the read, a trap with the state that it is taken in, or
none yet, while the attic controller does not take the read (R163). -/
inductive Fetched where
  | words (l : List W64) (t : State)
  | trap (cause : Nat) (value : W64) (t : State)
  | waits

/-- R135: the read of a descriptor or command of n bytes at an n-byte aligned address of the own room's pantry or
interleaved attic. -/
def State.readDescriptor (s : State) (h : HartId) (va : W64) (n : Nat) : Fetched :=
  let a := (s.hart h).authority h.hart.val
  if va.toNat % 64 ≠ 0 then .trap 4 va s
  else match s.translate h.room.val a .read .load va with
    | .error c => .trap c va (s.noteWalk h.room.val a .read va)
    | .ok x =>
      let p := s.placeFor h.room.val x.pa n
      match p with
      | .attic r false _ | .pantry r _ =>
        if r ≠ h.room.val then .trap 5 va s
        else if !s.homeOpen 4 p n then .waits
        else match s.memRead p n with
          | .data l =>
            .words ((List.range (n / 8)).map fun j => BitVec.ofNat 64 (ofBytes ((l.drop (8 * j)).take 8)))
              ((s.fillTlb r x).afterRead p n)
          | .poisoned _ => .trap 26 va (s.afterRead p n)
          | .error _ => .trap 5 va (s.afterRead p n)
          | .waiting => .waits
      | _ => .trap 5 va s

/-- R133: an instruction that reads a descriptor: it traps as the read says, waits, or goes on with the words. -/
def State.withDescriptor (s : State) (h : HartId) (va : W64) (n : Nat) (body : List W64 → State → State) : State :=
  match s.readDescriptor h va n with
  | .words l t => body l t
  | .trap c v t => t.trap h c v
  | .waits => s

/-- Word j of a descriptor, as a number. -/
def wordN (l : List W64) (j : Nat) : Nat := (l.getD j 0).toNat

end Sys2Proof.Machine
end

