-- ==== Sys2Proof/Machine/Engine.lean ====
section
/-! DEFINITION. How the units of a room or a door reach memory for the work queued on them: bytes with poison, by physical
or virtual address, page by page (R58, R95, R263, R465, R466, R537). -/
namespace Sys2Proof.Machine

/-- The bytes as they stand, with the poison of their words; unwritten words may be poisoned (R467). -/
def State.pbytesAt (s : State) (key : Nat → Nat) (n : Nat) : List PByte :=
  (List.range n).map fun j => (s.byteAt (key j), s.wordPoisoned (key j / 8 * 8))

/-- A read of n bytes at a place: the bytes, or the error code 2 ABSENT, 4 access error. Bytes of another device are free, and so is
whether its words are poisoned. -/
def State.pread (s : State) (p : Place) (n : Nat) : Except Nat (List PByte) :=
  match p with
  | .attic r b o =>
    if !s.banksUsable r b o n then .error 4
    else if s.mixedView r b o n then
      .ok ((List.range n).map fun j => (Config.mixedViewByte s.free (atticKey r b (o + j)), s.wordPoisoned (atticKey r b (o + j) / 8 * 8)))
    else .ok (s.pbytesAt (fun j => atticKey r b (o + j)) n)
  | .pantry r o => .ok (s.pbytesAt (fun j => pantryKey r (o + j)) n)
  | .host d a => if (tgetD s.doors d {}).hostUp then .ok ((List.range n).map fun j => (s.byteAt (hostKey d (a + j)), false)) else .error 4
  | .remote dev => .ok ((List.range n).map fun j => (Config.remoteByte s.free (dev * 2 ^ 28 + j), Config.freeBool s.free (2 ^ 62 + dev * 2 ^ 28 + j / 8)))
  | .absent => .error 2
  | _ => .error 4

/-- The key of the word that holds byte j of a write to a place. -/
def wordKeyAt (p : Place) (j : Nat) : Nat :=
  match p with
  | .attic r b o => atticKey r b ((o + j) / 8 * 8)
  | .pantry r o => pantryKey r ((o + j) / 8 * 8)
  | _ => 0

/-- A write of bytes with poison: each word that a poisoned byte falls in becomes poisoned. -/
def State.pwrite (s : State) (p : Place) (l : List PByte) : State :=
  match p with
  | .attic .. | .pantry .. =>
    (l.zipIdx).foldl (fun s q => if q.1.2 then s.setPoison (wordKeyAt p q.2) true else s) (s.memWrite p (l.map (·.1)))
  | _ => s.memWrite p (l.map (·.1))

/-- Pieces of a virtual range, each inside one 64 KiB page: address and bytes. The fuel bounds the pieces. -/
def pagePieces : Nat → Nat → Nat → List (Nat × Nat)
  | 0, _, _ => []
  | f + 1, va, n =>
    if n = 0 then []
    else
      let k := min n (0x10000 - va % 0x10000)
      (va % 2 ^ 64, k) :: pagePieces f ((va + k) % 2 ^ 64) (n - k)

def pageList (va n : Nat) : List (Nat × Nat) := pagePieces (n / 0x10000 + 2) va n

/-- Why a unit's access failed: a translation fault, or an access fault, access error or ABSENT; with the address. -/
structure UnitFault where
  page : Bool
  va : Nat
  deriving DecidableEq, Repr

/-- The places of a virtual range, page by page, for a unit of a room, with a check of each leaf. -/
def State.unitPlaces (s : State) (r : Nat) (a : Authority) (n : Need) (k : FaultKind) (ok : Xlate → Bool) :
    List (Nat × Nat) → Except UnitFault (List (Place × Nat))
  | [] => .ok []
  | (va, len) :: t =>
    match s.translate r a n k (BitVec.ofNat 64 va) with
    | .error c => .error ⟨c == k.page, va⟩
    | .ok x =>
      if !ok x then .error ⟨false, va⟩
      else match s.unitPlaces r a n k ok t with
        | .error f => .error f
        | .ok l => .ok ((s.placeFor r x.pa len, len) :: l)

/-- R263: the types that a unit's data may lie in. -/
def dataType (x : Xlate) : Bool := decide (x.type ≤ 2 ∨ 6 ≤ x.type)

/-- Bytes of places read one after the other. -/
def State.preadAll (s : State) : List (Place × Nat) → Except Unit (List PByte)
  | [] => .ok []
  | (p, n) :: t =>
    match s.pread p n, s.preadAll t with
    | .ok l, .ok m => .ok (l ++ m)
    | _, _ => .error ()

/-- A unit's read of a virtual range, page by page: the bytes of the pages before the first that fails, and why that one failed,
with the first byte of it that was asked for. -/
def State.unitReadTo (s : State) (r : Nat) (a : Authority) : List (Nat × Nat) → List PByte × Option UnitFault
  | [] => ([], none)
  | (va, n) :: t =>
    match s.unitPlaces r a .read .load dataType [(va, n)] with
    | .error f => ([], some f)
    | .ok l =>
      match s.preadAll l with
      | .error _ => ([], some ⟨false, va⟩)
      | .ok b => (b ++ (s.unitReadTo r a t).1, (s.unitReadTo r a t).2)

/-- A unit's read of n bytes at a virtual address. -/
def State.unitRead (s : State) (r : Nat) (a : Authority) (va n : Nat) : Except UnitFault (List PByte) :=
  match s.unitReadTo r a (pageList va n) with
  | (b, none) => .ok b
  | (_, some f) => .error f

/-- What a unit's read of these pages leaves behind, up to the first that fails: the views it used, and an access to an unusable
bank recorded (R162). -/
def State.unitNoteTo (s : State) (r : Nat) (a : Authority) : List (Nat × Nat) → State
  | [] => s
  | (va, n) :: t =>
    match s.unitPlaces r a .read .load dataType [(va, n)] with
    | .error _ => s.noteWalk r a .read (BitVec.ofNat 64 va)
    | .ok l =>
      match l, s.preadAll l with
      | [(.attic q b o, k)], .ok _ => (s.noteView q b o k).unitNoteTo r a t
      | [(.attic q b o, k)], .error _ => if s.banksUsable q b o k then s else s.bankAccess q b o
      | _, .error _ => s
      | _, .ok _ => s.unitNoteTo r a t

def State.unitNote (s : State) (r : Nat) (a : Authority) (va n : Nat) : State := (s.unitNoteTo r a (pageList va n)).bump

/-- R16, R163: the homes of a unit's access answer now; a page that cannot be reached does not hold it back. -/
def State.unitOpen (s : State) (r : Nat) (a : Authority) (n : Need) (k : FaultKind) (cls va len : Nat) : Bool :=
  (pageList va len).all fun p =>
    match s.unitPlaces r a n k dataType [p] with
    | .ok l => s.homesRun cls l
    | .error _ => true

/-- Bytes written to places one after the other. -/
def State.pwriteAll (s : State) : List (Place × Nat) → List PByte → State
  | [], _ => s
  | (p, n) :: t, l => (s.pwrite p (l.take n)).pwriteAll t (l.drop n)

/-- A unit's write at a virtual address: where it may be written, or why not. -/
def State.unitWritePlaces (s : State) (r : Nat) (a : Authority) (va n : Nat) : Except UnitFault (List (Place × Nat)) :=
  match s.unitPlaces r a .write .store dataType (pageList va n) with
  | .error f => .error f
  | .ok l =>
    if l.any (fun p => match p.1 with
      | .accessError | .absent | .roomMmio .. | .wingMmio .. | .devMmio .. | .broadcast .. => true
      | .attic q b o => !s.banksUsable q b o p.2
      | .host d _ => !(tgetD s.doors d {}).hostUp
      | _ => false) then .error ⟨false, va⟩ else .ok l

/-- Some word of the write would end in error (R179). -/
def State.unitWriteUe (s : State) (l : List (Place × Nat)) (b : List PByte) : Bool :=
  match l with
  | [] => false
  | (p, n) :: t =>
    (match p with
      | .attic r v o => s.atticWriteError r v o ((b.take n).map (·.1))
      | .pantry r o => s.writeError (pantryKey r o) ((b.take n).map (·.1))
      | _ => false) || s.unitWriteUe t (b.drop n)

/-- Bytes of a range of keys that are unspecified again: nothing has written them. -/
def State.forgetBytes (s : State) (k n : Nat) : State :=
  { s with
    mem := s.mem.filter fun c => decide (c.1 < k ∨ k + n ≤ c.1)
    poison := s.poison.filter fun w => decide (w < k ∨ k + n ≤ w) }

/-- Bytes of a range of keys that hold unspecified values: each is free, and a word that lies wholly in the range may be poisoned.
Bytes beside the range keep theirs. -/
def State.spoilBytes (s : State) (k n : Nat) : State :=
  ((wordsOf k n).filter fun w => decide (k ≤ w ∧ w + 8 ≤ k + n)).foldl (fun t w => t.setPoison w (Config.freeBool s.free w))
    (s.putBytes k ((List.range n).map fun j => Config.disturbedByte s.free (k + j)))

/-- The same over ranges of keys. -/
def State.spoilRanges (s : State) (l : List (Nat × Nat)) : State := l.foldl (fun s p => s.spoilBytes p.1 (p.2 - p.1)) s

/-- R171, R175, R206: beats cross the stair of a room's attic; R172, R176: its AVUs run. -/
def State.stairRuns (s : State) (r : Nat) : Bool := (s.attic r).phase == .running
def State.avusRun (s : State) (r : Nat) : Bool := (s.attic r).phase != .stopped && (s.room r).cond.state != 5

/-- The key of byte j of a place, where it has one. -/
def placeKey (p : Place) (j : Nat) : Option Nat :=
  match p with
  | .attic r b o => some (atticKey r b (o + j))
  | .pantry r o => some (pantryKey r (o + j))
  | .host d a => some (hostKey d (a + j))
  | _ => none

/-- The place of byte j of a place, and where a place begins in its memory. -/
def placeAt (p : Place) (j : Nat) : Place :=
  match p with
  | .attic r b o => .attic r b (o + j)
  | .pantry r o => .pantry r (o + j)
  | .host d a => .host d (a + j)
  | p => p
def placeOff : Place → Nat
  | .attic _ _ o | .pantry _ o | .host _ o => o
  | _ => 0

/-- Bytes for a place, cut at the 8-byte words that they fall in. -/
def wordParts (p : Place) (l : List PByte) : List (Place × List PByte) :=
  (List.range ((placeOff p + l.length + 7) / 8 - placeOff p / 8)).map fun i =>
    let lo := 8 * (placeOff p / 8 + i) - placeOff p
    (placeAt p lo, (l.take (8 * (placeOff p / 8 + i + 1) - placeOff p)).drop lo)

/-- Bytes for places, cut at their words. -/
def placeParts : List (Place × Nat) → List PByte → List (Place × List PByte)
  | [], _ => []
  | (p, n) :: t, l => wordParts p (l.take n) ++ placeParts t (l.drop n)

/-- The keys of the bytes of places, one for each byte. -/
def placeKeys (l : List (Place × Nat)) : List (Option Nat) := l.flatMap fun p => (List.range p.2).map (placeKey p.1)

/-- Bytes by key that hold unspecified values; the poison of their words stays as it is. -/
def State.spoilKeys (s : State) (l : List (Option Nat)) : State :=
  l.foldl (fun s k => match k with | some k => s.spoilBytes k 1 | none => s) s

/-- A little-endian number in a place of the own pantry, as a unit writes its records. -/
def State.putPantry (s : State) (r o n x : Nat) : State := s.writePantry r o (toBytes n x)

/-- R147: the SET that a unit performs on a pantry word of its room; a poisoned word is left unchanged (R183). -/
def State.signalSet (s : State) (r o bit : Nat) : State :=
  s.atomicPerform (.set (BitVec.ofNat 64 (2 ^ bit))) (.pantry r o)

end Sys2Proof.Machine
end

