-- ==== Sys2Proof/Machine/Array.lean ====
section
/-! DEFINITION. The matrix array: its instructions, its stages, its queue and its registers (R50–R84, R134–R138). -/
namespace Sys2Proof.Machine

/-! ## Descriptors (R71–R76) -/

def ArrayEntry.w (e : ArrayEntry) (j hi lo : Nat) : Nat := fld (wordN e.words j) hi lo
def ArrayEntry.op (e : ArrayEntry) : Nat := e.w 0 3 0
def ArrayEntry.tag (e : ArrayEntry) : Nat := e.w 0 63 56
def ArrayEntry.wslot (e : ArrayEntry) : Nat := e.w 0 55 52
def ArrayEntry.resident (e : ArrayEntry) : Bool := e.w 0 51 51 == 1
def ArrayEntry.init (e : ArrayEntry) : Bool := e.w 0 50 50 == 1
def ArrayEntry.autoExport (e : ArrayEntry) : Bool := e.w 0 49 49 == 1
def ArrayEntry.complete (e : ArrayEntry) : Bool := e.w 0 48 48 == 1
def ArrayEntry.release (e : ArrayEntry) : Bool := e.w 0 47 47 == 1
def ArrayEntry.tileFmt (e : ArrayEntry) : Nat := e.w 1 39 36
def ArrayEntry.weightFmt (e : ArrayEntry) : Nat := e.w 1 35 32
def ArrayEntry.fold (e : ArrayEntry) : Nat := e.w 1 31 30
def ArrayEntry.axis (e : ArrayEntry) : Nat := e.w 1 29 29
def ArrayEntry.k (e : ArrayEntry) : Nat := e.w 1 27 18
def ArrayEntry.ew (e : ArrayEntry) : Int := sgn 10 (e.w 1 9 0)
def ArrayEntry.rows (e : ArrayEntry) : Nat := e.w 2 53 48
def ArrayEntry.tilePitch (e : ArrayEntry) : Nat := e.w 2 39 24
def ArrayEntry.tileAddr (e : ArrayEntry) : Nat := e.w 2 22 0
def ArrayEntry.tileScalePitch (e : ArrayEntry) : Nat := e.w 3 39 24
def ArrayEntry.tileScaleAddr (e : ArrayEntry) : Nat := e.w 3 22 0
def ArrayEntry.n (e : ArrayEntry) : Nat := e.w 4 63 50
def ArrayEntry.weightScaleAddr (e : ArrayEntry) : Nat := e.w 4 45 23
def ArrayEntry.weightAddr (e : ArrayEntry) : Nat := e.w 4 22 0
def ArrayEntry.xaStride (e : ArrayEntry) : Nat := e.w 5 28 16
def ArrayEntry.xaBase (e : ArrayEntry) : Nat := e.w 5 12 0
def ArrayEntry.expFmt (e : ArrayEntry) : Nat := e.w 6 55 52
def ArrayEntry.expPitch (e : ArrayEntry) : Nat := e.w 6 47 32
def ArrayEntry.expAddr (e : ArrayEntry) : Nat := e.w 6 22 0
def ArrayEntry.expMult (e : ArrayEntry) : Nat := e.w 7 63 32
def ArrayEntry.compAddr (e : ArrayEntry) : Nat := e.w 7 22 0

/-- R51: the depth and the slots of a fold. -/
def foldDepth (f : Nat) : Nat := 64 * 2 ^ f
def foldSlots (f : Nat) : Nat := 32 / 2 ^ f

/-- R75: bytes of an exported value. -/
def exportSize (fmt : Nat) : Nat :=
  match fmt with
  | 0 => 4 | 1 => 2 | 2 => 2 | 3 => 1 | 4 => 1 | _ => 16

/-- R38, R75: the format of an export. -/
def exportFmt (fmt : Nat) : Fmt :=
  match fmt with
  | 0 => fp32 | 1 => fp16 | 2 => bf16 | 3 => e4m3 | _ => e5m2

/-- R38: a usable export multiplier: finite and not zero. -/
def expMultOk (x : Nat) : Bool := match fp32.value x with | .fin _ m _ => m != 0 | _ => false

def ArrayEntry.isPass (e : ArrayEntry) : Bool := e.op == 1
/-- R75: the entry uses the export fields. -/
def ArrayEntry.exports (e : ArrayEntry) : Bool := e.op == 2 || e.op == 3 || (e.isPass && e.autoExport)

/-- R56, R82: the stream buffer's configuration. -/
def State.slotCount (s : State) (r : Nat) : Nat := fld (s.regN .arraySbCfg r) 43 40 + 1
def State.slotBytes (s : State) (r : Nat) : Nat := fld (s.regN .arraySbCfg r) 36 32 * 0x4000
def State.slotBase (s : State) (r n : Nat) : Nat := fld (s.regN .arraySbCfg r) 22 0 + n * s.slotBytes r

/-- R74: bytes of weights and of weight scales that a pass names, as ends of their ranges from the base. -/
def ArrayEntry.weightEnd (e : ArrayEntry) : Nat := e.weightAddr + e.n * packedBytes e.weightFmt e.k
def ArrayEntry.weightScaleEnd (e : ArrayEntry) : Nat :=
  if isMx e.weightFmt then e.weightScaleAddr + e.n * (e.k / 32) else 0
def ArrayEntry.tileRows (e : ArrayEntry) : Nat := if e.axis = 0 then e.rows else e.k
def ArrayEntry.tileCols (e : ArrayEntry) : Nat := if e.axis = 0 then e.k else e.rows
def ArrayEntry.tileEnd (e : ArrayEntry) : Nat :=
  e.tileAddr + (e.tileRows - 1) * e.tilePitch + packedBytes e.tileFmt e.tileCols
def ArrayEntry.tileScaleEnd (e : ArrayEntry) : Nat :=
  if isMx e.tileFmt then
    (if e.axis = 0 then e.tileScaleAddr + (e.rows - 1) * e.tileScalePitch + e.k / 32
     else e.tileScaleAddr + (e.k / 32 - 1) * e.tileScalePitch + e.rows)
  else 0
def ArrayEntry.expEnd (e : ArrayEntry) : Nat :=
  e.expAddr + (e.rows - 1) * e.expPitch + e.n * exportSize e.expFmt

/-- R76: REJECT_FORMAT. -/
def ArrayEntry.badFormat (e : ArrayEntry) : Bool :=
  (e.isPass && (!tileFmtOk e.tileFmt || !weightFmtOk e.weightFmt)) ||
  (e.exports && decide (5 < e.expFmt)) || (e.op == 3 && e.expFmt != 5) ||
  (e.exports && e.op != 3 && e.expFmt != 5 && !expMultOk e.expMult)

/-- R76: REJECT_SHAPE. -/
def ArrayEntry.badShape (e : ArrayEntry) : Bool :=
  (e.isPass && (e.k == 0 || decide (foldDepth e.fold < e.k) || e.k % 8 != 0 ||
    ((isMx e.tileFmt || isMx e.weightFmt) && e.k % 32 != 0))) ||
  (e.op != 4 && (e.rows == 0 || decide ((if e.isPass then foldSlots e.fold else 32) < e.rows))) ||
  e.n == 0 || decide (8192 < e.n) || (e.op != 4 && decide (1 < e.n) && decide (e.xaStride < e.rows))

/-- R76: REJECT_ALIGN. -/
def ArrayEntry.badAlign (e : ArrayEntry) : Bool :=
  (e.isPass && (e.tileAddr % 16 != 0 || e.weightAddr % 16 != 0)) ||
  (e.exports && e.expAddr % 16 != 0) || (e.complete && e.compAddr % 16 != 0)

/-- R76: REJECT_RANGE, the staged length excepted. -/
def State.badRange (s : State) (r : Nat) (e : ArrayEntry) : Bool :=
  (e.isPass && (decide (pantrySize < e.tileEnd) || decide (pantrySize < e.tileScaleEnd) ||
    (e.resident && (decide (pantrySize < e.weightEnd) || decide (pantrySize < e.weightScaleEnd))) ||
    (!e.resident && decide (s.slotCount r ≤ e.wslot)))) ||
  (e.exports && decide (pantrySize < e.expEnd)) ||
  (e.op != 4 && decide (xaEntries < e.xaBase + (e.n - 1) * e.xaStride + e.rows)) ||
  (e.complete && decide (pantrySize < e.compAddr + 16))

/-- R76: the staged length of a slot does not cover what the pass names. -/
def ArrayEntry.beyondStaged (e : ArrayEntry) (sl : Slot) : Bool :=
  !e.resident && (decide (sl.len < e.weightEnd) || decide (sl.len < e.weightScaleEnd))

/-- R76: the first status that the checks give, 0 for none. -/
def State.entryCheck (s : State) (r : Nat) (e : ArrayEntry) : Nat :=
  if e.op = 0 ∨ 4 < e.op then 0x10 else if e.badFormat then 0x11 else if e.badShape then 0x12
  else if e.badAlign then 0x13 else if s.badRange r e then 0x14 else 0

/-! ## Products and entries -/

/-- R64: the accumulator entries of an entry, with their output slot and column. -/
def ArrayEntry.cells (e : ArrayEntry) : List (Nat × Nat × Nat) :=
  (List.range e.n).flatMap fun j => (List.range e.rows).map fun i => (e.xaBase + j * e.xaStride + i, i, j)

/-- R79: an accumulator entry; one not written since the room reset is unspecified. -/
def ArrayB.xaAt (a : ArrayB) (n : Nat) : Xa := (tget n a.xa).getD (Config.freeXa a.xaGen n)

/-- A packed element of a row in a pantry: its code, and whether a word it lies in is poisoned. -/
def State.elemAt (s : State) (r fmt off i : Nat) : Nat × Bool :=
  let bits := elemBits fmt
  let first := if bits = 6 then i / 4 * 3 + i % 4 * 6 / 8 else i * bits / 8
  let last := if bits = 6 then i / 4 * 3 + (i % 4 * 6 + 5) / 8 else (i * bits + bits - 1) / 8
  let x := ofBytes (s.bytesAt (pantryKey r (off + first)) (last + 1 - first))
  let sh := if bits = 6 then i % 4 * 6 % 8 else i * bits % 8
  (x / 2 ^ sh % 2 ^ bits, s.rangePoisoned (pantryKey r (off + first)) (last + 1 - first))

/-- R28, R29: an element of an operand with its scales: value, sum of scale exponents (none for NaN), poison. -/
def State.operandAt (s : State) (r fmt scale off i : Nat) (blockScale : Option Nat) : Num × Option Int × Bool :=
  let v := s.elemAt r fmt off i
  match blockScale with
  | none => (elemValue fmt v.1, e8m0 scale, v.2)
  | some o =>
    let b := s.bytesAt (pantryKey r o) 1
    (elemValue fmt v.1, (do let x ← e8m0 scale; let y ← e8m0 (ofBytes b); pure (x + y)), v.2 || s.rangePoisoned (pantryKey r o) 1)

/-- R74: the tile element of slot i and reduction index k. -/
def State.tileAt (s : State) (r : Nat) (e : ArrayEntry) (i k : Nat) : Num × Option Int × Bool :=
  let a := if e.axis = 0 then i else k
  let b := if e.axis = 0 then k else i
  s.operandAt r e.tileFmt (e.w 1 55 48) (e.tileAddr + a * e.tilePitch) b
    (if isMx e.tileFmt then
      some (if e.axis = 0 then e.tileScaleAddr + i * e.tileScalePitch + k / 32 else e.tileScaleAddr + k / 32 * e.tileScalePitch + i)
     else none)

/-- R74: the weight element of reduction index k and column j. -/
def State.weightAt (s : State) (r : Nat) (e : ArrayEntry) (k j : Nat) : Num × Option Int × Bool :=
  let base := if e.resident then 0 else s.slotBase r e.wslot
  s.operandAt r e.weightFmt (e.w 1 47 40) (base + e.weightAddr + j * packedBytes e.weightFmt e.k) k
    (if isMx e.weightFmt then some (base + e.weightScaleAddr + j * (e.k / 32) + k / 32) else none)

/-- R32, R78: the product of two scaled operands. -/
def scaledProduct (a b : Num × Option Int × Bool) (ew : Int) : Xa :=
  { product a.1 b.1 (do let x ← a.2.1; let y ← b.2.1; pure (x + y)) ew with poison := a.2.2 || b.2.2 }

/-- R74: the products of a pass, summed for each accumulator entry. -/
def State.passAdds (s : State) (r : Nat) (e : ArrayEntry) : List (Nat × Xa) :=
  e.cells.map fun c =>
    (c.1, (List.range e.k).foldl (fun x k => Xa.add x (scaledProduct (s.tileAt r e c.2.1 k) (s.weightAt r e k c.2.2) e.ew)) {})

/-- R64: the products of a pass landed: added to the entries as they stand, or to zero with INIT = 1. -/
def ArrayB.land (a : ArrayB) (init : Bool) (adds : List (Nat × Xa)) : ArrayB :=
  { a with xa := adds.foldl (fun x p => tset p.1 (if init then p.2 else Xa.add ((tget p.1 x).getD (Config.freeXa a.xaGen p.1)) p.2) x) a.xa }

/-- R75: an exported value: its bytes with poison, and its status flags. -/
def exportValue (fmt : Nat) (ew : Int) (mult : Nat) (x : Xa) : List PByte × Nat :=
  if fmt = 5 then ((toBytes 16 x.toPartial.toNat).map (·, x.poison), x.flags)
  else
    let v := (exportFmt fmt).exportXa x ew mult
    ((toBytes (exportSize fmt) v.1).map (·, x.poison), v.2)

/-- R75: the first columns of the rows of an export: the pantry offset of each and its bytes. -/
def ArrayB.exportCols (a : ArrayB) (e : ArrayEntry) (n : Nat) : List (Nat × List PByte) :=
  (List.range e.rows).map fun i => (e.expAddr + i * e.expPitch,
    (List.range n).flatMap fun j => (exportValue e.expFmt e.ew e.expMult (a.xaAt (e.xaBase + j * e.xaStride + i))).1)

def ArrayB.exportRows (a : ArrayB) (e : ArrayEntry) : List (Nat × List PByte) := a.exportCols e e.n

/-- R75: rows written to the pantry. -/
def State.putRows (s : State) (r : Nat) (l : List (Nat × List PByte)) : State :=
  l.foldl (fun s p => s.pwrite (.pantry r p.1) p.2) s

/-- R35: the OR of the flags of every exported value. -/
def ArrayB.exportFlags (a : ArrayB) (e : ArrayEntry) : Nat :=
  e.cells.foldl (fun f c => f ||| (exportValue e.expFmt e.ew e.expMult (a.xaAt c.1)).2) 0

def ArrayB.anyPoison (a : ArrayB) (e : ArrayEntry) : Bool := e.cells.any fun c => (a.xaAt c.1).poison

/-- R75: an import: the partials of the layout read into the entries. -/
def State.importCells (s : State) (r : Nat) (e : ArrayEntry) : List (Nat × Xa) :=
  e.cells.map fun c =>
    let k := pantryKey r (e.expAddr + c.2.1 * e.expPitch + c.2.2 * 16)
    (c.1, { Xa.ofPartial (BitVec.ofNat 128 (ofBytes (s.bytesAt k 16))) with poison := s.rangePoisoned k 16 })

/-! ## Cycles (R81) -/

def ArrayEntry.columnCycles (e : ArrayEntry) : Nat :=
  if e.tileFmt = 6 ∨ e.weightFmt = 6 then 4 * e.n
  else if e.weightFmt = 4 ∨ e.weightFmt = 12 then ceilDiv e.n 2 else e.n

def ArrayEntry.exportCycles (e : ArrayEntry) : Nat :=
  if e.expFmt = 5 then ceilDiv (e.rows * e.n) 16 + 24 else ceilDiv (e.rows * e.n) 32 + 24

/-- R77, R81: room cycles from the entry's first column (or start) to its completion. -/
def ArrayEntry.runCycles (e : ArrayEntry) : Nat :=
  match e.op with
  | 1 => e.columnCycles - 1 + foldDepth e.fold + 8 + (if e.autoExport then e.exportCycles else 0)
  | 4 => e.n
  | _ => e.exportCycles

/-! ## Completion (R61, R65, R77, R80) -/

/-- R61: a scheduled release takes effect once no entry of the owner is queued. -/
def ArrayB.settle (a : ArrayB) : ArrayB :=
  if a.releasePending ∧ !(a.queue.any fun e => some e.hart == a.owner)
  then { a with owner := none, releasePending := false, levelChange := true } else a

/-- R77: the ARRAY_ERR bit of a status. -/
def arrayErrBit (st : Nat) : Nat :=
  if st = 0x01 then 8 else if 0x10 ≤ st ∧ st ≤ 0x14 then 1 else if st = 0x20 ∨ st = 0x21 then 2 else 0

/-- R77: the completion record of an entry. -/
def State.arrayRecord (s : State) (r : Nat) (e : ArrayEntry) (st arith cycles : Nat) : State :=
  if e.complete ∧ e.compAddr % 16 = 0 ∧ e.compAddr + 16 ≤ pantrySize then
    s.writePantry r e.compAddr
      (toBytes 8 (e.tag * 2 ^ 56 + st * 2 ^ 48 + arith * 2 ^ 40 + e.op * 2 ^ 32 + min cycles 0xFFFFFFFF) ++ toBytes 8 s.now)
  else s

/-- R65: a completing PASS with WSRC = 0 and RELEASE_SLOT = 1 frees a VALID or ERROR slot. -/
def ArrayB.freeSlot (a : ArrayB) (e : ArrayEntry) : ArrayB :=
  let sl := tgetD a.slots e.wslot {}
  if e.isPass && !e.resident && e.release && (sl.state == 2 || sl.state == 3) then { a with slots := tset e.wslot {} a.slots } else a

/-- R77: the entry at the head completes with a status: record, ARRAY_ERR, slot, release, count. -/
def State.arrayFinish (s : State) (r : Nat) (e : ArrayEntry) (st arith cycles : Nat) : State :=
  ((((s.arrayRecord r e st arith cycles).orReg .arrayErr r (arrayErrBit st)).modArray r fun a =>
    ArrayB.settle (ArrayB.freeSlot { a with queue := a.queue.drop 1, headSince := s.now } e))).bumpCount .arrayDoneCount r r

/-- R60: rejected entries that reach the head complete there. The fuel is the length of the queue. -/
def State.arrayRejected : Nat → Nat → State → State
  | 0, _, s => s
  | f + 1, r, s =>
    match (s.array r).queue with
    | e :: _ => if e.started ∧ e.status ≠ 0 then State.arrayRejected f r (s.arrayFinish r e e.status 0 0) else s
    | [] => s

/-- The head entry completes, and rejected entries behind it. -/
def State.arrayComplete (s : State) (r : Nat) (e : ArrayEntry) (st arith cycles : Nat) : State :=
  State.arrayRejected 8 r (s.arrayFinish r e st arith cycles)

/-- R59: the pantry bytes that a pass takes for weights. -/
def State.weightRanges (s : State) (r : Nat) (e : ArrayEntry) : List (Nat × Nat) :=
  let k := pantryKey r (if e.resident then 0 else s.slotBase r e.wslot)
  [(k + e.weightAddr, k + e.weightEnd), (k + e.weightScaleAddr, k + e.weightScaleEnd)]

/-- R59: software has stored to a slot that is not FREE and that this pass reads weights from. -/
def State.weightsDisturbed (s : State) (r : Nat) (e : ArrayEntry) : Bool :=
  s.guards.any fun g =>
    match g.key with
    | .slot q n => q == r && g.hit && (tgetD (s.array r).slots n {}).state != 0 && rangesMeet g.ranges (s.weightRanges r e)
    | _ => false

/-- R59: the contributions of a pass: free values where software has stored to a slot that it reads. -/
def State.passLands (s : State) (r : Nat) (e : ArrayEntry) : List (Nat × Xa) :=
  if s.weightsDisturbed r e then e.adds.map fun p => (p.1, Config.freeXa s.free p.1) else e.adds

/-- R80: accumulator entries of an entry that hold unspecified values. -/
def State.freeCells (s : State) (r : Nat) (e : ArrayEntry) : State :=
  s.modArray r fun a => { a with xa := e.cells.foldl (fun x c => tset c.1 (Config.freeXa s.free c.1) x) a.xa }

/-- R80: a running entry is stopped at a column boundary. Which one, and whether a pass with an automatic export was already
exporting, is not known here: free choices. -/
def State.arrayCut (s : State) (r : Nat) (e : ArrayEntry) : State :=
  let cut := (Config.freeWord s.free 2600).toNat % (e.n + 1)
  match e.op with
  | 1 =>
    let exporting := e.autoExport && Config.freeBool s.free 2601
    let a := (s.array r).land e.init (s.passLands r e)
    let t := if exporting then s.putRows r (a.exportCols e cut) else s
    (t.freeCells r e).bumpReg .arrayBusyCycles r 64
      (if exporting then e.columnCycles else (Config.freeWord s.free 2602).toNat % (e.columnCycles + 1))
  | 2 => s.putRows r ((s.array r).exportCols e cut)
  | 3 => s.freeCells r e
  | _ => s.bumpReg .arrayDummyCycles r 64 cut

/-- R80: every running and queued entry completes with ABORTED, in queue order; the cycles of a running entry are a free value. -/
def State.arrayAbort : Nat → Nat → State → State
  | 0, _, s => s
  | f + 1, r, s =>
    match (s.array r).queue with
    | [] => s
    | e :: _ =>
      let running := e.started && e.status == 0
      let t := if running then s.arrayCut r e else s
      State.arrayAbort f r (t.bump.arrayFinish r e 0x30 0 (if running then (Config.freeWord s.free 0).toNat % 2 ^ 32 else 0))

/-- R80: the flush of an array. The bytes of a slot that was FILLING are unspecified. -/
def State.arrayFlush (s : State) (r : Nat) : State :=
  let filling := (s.array r).stages.filter (·.started)
  let t := State.arrayAbort 8 r s
  let t := filling.foldl (fun s g => s.forgetBytes (pantryKey r (s.slotBase r g.slot)) g.len) t
  (t.modArray r fun a => { a with stages := [], slots := [] }).orReg .arrayErr r 32

/-- R138: harts stalled on a full queue take the ownership trap when FORCE_RELEASE takes effect. -/
def State.trapStalled (s : State) (r : Nat) : State :=
  { s with
    harts := s.harts.map fun p =>
      match p.2.wait with
      | .stall w =>
        if p.1 / 32 = r ∧ szSpace w = custom0 ∧ szOp5 w ≠ 3 then (p.1, p.2.trap 24 0) else p
      | _ => p }

/-- R84: FORCE_RELEASE. -/
def State.arrayForceRelease (s : State) (r : Nat) : State :=
  ((s.arrayFlush r).modArray r fun a => { a with owner := none, releasePending := false, levelChange := true }).trapStalled r

/-! ## The instructions of custom-0 -/

/-- R131, R138: the value of SZ_ARRAY_OWNER. -/
def ArrayB.ownerValue (a : ArrayB) : W64 :=
  match a.owner with | some o => BitVec.ofNat 64 (32 + o) | none => 0

/-- R61, R138: the hart owns the array for issue. -/
def ArrayB.ownedBy (a : ArrayB) (h : Nat) : Bool := a.owner == some h && !a.releasePending

/-- R129, R135: the ticket of an entry that enters now. -/
def State.arrayTicket (s : State) (r : Nat) : W64 :=
  BitVec.ofNat 64 ((s.regN .arrayDoneCount r + (s.array r).queue.length + 1) % 2 ^ 32)

/-- R60: an entry queued, with its ticket to the register, and the instruction retired. -/
def State.arrayEnqueue (s : State) (h : HartId) (rd : Nat) (words : List W64) : State :=
  let t := s.modHart h fun x => (x.setReg rd (s.arrayTicket h.room.val)).retire
  t.modArray h.room.val fun a => { a with
    queue := a.queue ++ [{ words, hart := h.hart.val }], headSince := if a.queue.isEmpty then s.now else a.headSince }

/-- R135: sz.pass and sz.export; the two operations given are those of the other instruction. -/
def State.szDescriptor (s : State) (h : HartId) (w : W32) (other : List Nat) : State :=
  let r := h.room.val
  let a := s.array r
  if 8 ≤ a.queue.length then s.modHart h fun x => { x with wait := .stall w }
  else if !a.ownedBy h.hart.val then s.trap h 24 a.ownerValue
  else s.withDescriptor h ((s.hart h).reg (szRs1 w)) 64 fun words t =>
    if other.contains (fld (wordN words 0) 3 0) then t.szOperand h 4 else t.arrayEnqueue h (szRd w) words

def execSzPass (h : HartId) (w : W32) (s : State) : Result :=
  szRun h w (szIs custom0 0 w || (szSpace w == custom0 && (szRow w).isNone)) s fun s => s.szDescriptor h w [2, 3]

def execSzExport (h : HartId) (w : W32) (s : State) : Result :=
  szRun h w (szIs custom0 1 w) s fun s => s.szDescriptor h w [1, 4]

/-- R132, R137: the reason code that the register operands of sz.stage give, 0 for none. -/
def State.stageCheck (s : State) (r : Nat) (src op : Nat) : Nat :=
  let len := fld op 18 0
  if len = 0 ∨ len % 64 ≠ 0 ∨ s.slotBytes r < len ∨ fld op 31 19 ≠ 0 then 1
  else if s.slotCount r ≤ fld op 35 32 ∨ fld op 63 36 ≠ 0 then 2
  else if src % 64 ≠ 0 then 3 else 0

/-- R137: what each page of a stage's source is mapped to. -/
def State.stagePages (s : State) (a : Authority) (src len : Nat) : List (Option Nat) :=
  (pageList src len).map fun p =>
    s.mapping a p.1

def execSzStage (h : HartId) (w : W32) (s : State) : Result :=
  szRun h w (szIs custom0 2 w) s fun s =>
    let x := s.hart h
    let a := s.array h.room.val
    let op := (x.reg (szRs2 w)).toNat
    let c := s.stageCheck h.room.val (x.reg (szRs1 w)).toNat op
    if c ≠ 0 then s.szOperand h c
    else if 16 ≤ a.stages.length then s.modHart h fun x => { x with wait := .stall w }
    else if !a.ownedBy h.hart.val then s.trap h 24 a.ownerValue
    else (s.modHart h (·.retire)).modArray h.room.val fun a =>
      { a with
        stages := a.stages ++ [⟨a.staged, fld op 35 32, fld op 18 0, x.reg (szRs1 w), x.authority h.hart.val, false,
          s.stagePages (x.authority h.hart.val) (x.reg (szRs1 w)).toNat (fld op 18 0)⟩]
        staged := a.staged + 1, stageSince := if a.stages.isEmpty then s.now else a.stageSince }

/-- R138: the action of sz.mode. -/
def State.modeAction (s : State) (h : HartId) (w : W32) : Nat := ((s.hart h).reg (szRs1 w)).toNat

/-- R138: a register result, and the instruction retired. -/
def State.result (s : State) (h : HartId) (rd : Nat) (v : Nat) : State :=
  s.modHart h fun x => (x.setReg rd (BitVec.ofNat 64 v)).retire

def execSzModeQuery (h : HartId) (w : W32) (s : State) : Result :=
  szRun h w (szIs custom0 3 w && s.modeAction h w != 1 && s.modeAction h w != 2) s fun s =>
    let a := s.array h.room.val
    if s.modeAction h w ≠ 0 then s.szOperand h 6
    else s.result h (szRd w) (64 * b2n a.releasePending + a.ownerValue.toNat)

def execSzModeClaim (h : HartId) (w : W32) (s : State) : Result :=
  szRun h w (szIs custom0 3 w && s.modeAction h w == 1) s fun s =>
    let a := s.array h.room.val
    if a.releasePending ∨ (a.owner.isSome ∧ a.owner ≠ some h.hart.val) then s.result h (szRd w) 1
    else (s.result h (szRd w) 0).modArray h.room.val fun a => { a with owner := some h.hart.val }

/-- R61: a release scheduled after the owner's queued entries. -/
def State.arrayRelease (s : State) (r h : Nat) : State :=
  s.modArray r fun a => if a.ownedBy h then ArrayB.settle { a with releasePending := true } else a

def execSzModeRelease (h : HartId) (w : W32) (s : State) : Result :=
  szRun h w (szIs custom0 3 w && s.modeAction h w == 2) s fun s =>
    if (s.array h.room.val).ownedBy h.hart.val
    then (s.result h (szRd w) 0).arrayRelease h.room.val h.hart.val
    else s.result h (szRd w) 1

def execSzDummy (h : HartId) (w : W32) (s : State) : Result :=
  szRun h w (szIs custom0 4 w) s fun s =>
    let a := s.array h.room.val
    let n := ((s.hart h).reg (szRs1 w)).toNat
    if n = 0 ∨ 8192 < n then s.szOperand h 5
    else if 8 ≤ a.queue.length then s.modHart h fun x => { x with wait := .stall w }
    else if !a.ownedBy h.hart.val then s.trap h 24 a.ownerValue
    else s.arrayEnqueue h (szRd w) [4, 0, 0, 0, BitVec.ofNat 64 (n * 2 ^ 50), 0, 0, 0]

/-! ## Stages (R57, R58) -/

/-- R59: the keys of the bytes of a slot. -/
def slotRanges (s : State) (r n : Nat) : List (Nat × Nat) :=
  [(pantryKey r (s.slotBase r n), pantryKey r (s.slotBase r n + s.slotBytes r))]

def execStageStart (r : RoomIx) (s : State) : Result :=
  let a := s.array r.val
  match a.stages with
  | g :: t =>
    whenReady (!g.started && (tgetD a.slots g.slot {}).state == 0) s
      ((s.modArray r.val fun a => { a with stages := { g with started := true } :: t, slots := tset g.slot ⟨1, g.len⟩ a.slots }).setGuard
        (.slot r.val g.slot) r.val (slotRanges s r.val g.slot))
  | [] => .next s

/-- R137: the bytes that a stage places: free values where its source was mapped anew. -/
def State.stageBytes (s : State) (g : Stage) (b : List PByte) : List PByte :=
  if s.stagePages g.auth g.src.toNat g.len = g.pages then b
  else b.zipIdx.map fun p => (Config.disturbedByte s.free (g.src.toNat + p.2), p.1.2)

/-- R58: the last byte of the head stage lands, or its source faults: the pages before the one that fails have landed (DEDUCED from
the page by page order of R137), and the rest of the slot is as it was. -/
def State.stageEnd (s : State) (r : Nat) (g : Stage) (t : List Stage) : State :=
  let x := s.unitReadTo r g.auth (pageList g.src.toNat g.len)
  let u := ((s.unitNote r g.auth g.src.toNat g.len).pwrite (.pantry r (s.slotBase r g.slot)) (s.stageBytes g x.1)).modArray r fun a =>
    { a with stages := t, stageSince := s.now, slots := tset g.slot ⟨if x.2.isNone then 2 else 3, g.len⟩ a.slots }
  match x.2 with
  | none => u
  | some f => (u.orReg .arrayErr r 4).post { roomRecord s 0x60 r f.va with flags := 33 }

/-- R58, R163: the stage's bytes have landed; its source's homes answer it as TC3 traffic. -/
def execStageComplete (r : RoomIx) (s : State) : Result :=
  match (s.array r.val).stages with
  | g :: t => whenReady (g.started && s.unitOpen r.val g.auth .read .load 3 g.src.toNat g.len) s (s.stageEnd r.val g t)
  | [] => .next s

/-- R82: ARRAY_WAIT_TIMEOUT in ns; 0 acts as 1. -/
def State.arrayWait (s : State) (r : Nat) : Nat := max 1 (fld (s.regN .arrayWaitTimeout r) 15 0) * 1000

def execStageTimeout (r : RoomIx) (s : State) : Result :=
  let a := s.array r.val
  match a.stages with
  | g :: t =>
    whenReady (!g.started && (tgetD a.slots g.slot {}).state != 0) s
      (((s.reach (a.stageSince + s.arrayWait r.val)).modArray r.val fun x => { x with
        stages := t, stageSince := max s.now (a.stageSince + s.arrayWait r.val) }).orReg .arrayErr r.val 4)
  | [] => .next s

/-! ## The queue (R60–R70) -/

/-- R60: the entry that is next to run: the first not started; its index. -/
def ArrayB.nextEntry (a : ArrayB) : Option (Nat × ArrayEntry) :=
  (a.queue.zipIdx.find? fun p => !p.1.started).map fun p => (p.2, p.1)

/-- R64: products of started passes to the entries of e have not all landed. -/
def ArrayB.overlapsRunning (a : ArrayB) (e : ArrayEntry) : Bool :=
  a.queue.any fun g => g.started && g.status == 0 && g.op == 1 && g.cells.any fun c => e.cells.any fun d => c.1 == d.1

/-- The entry at an index of the queue replaced. -/
def ArrayB.setEntry (a : ArrayB) (i : Nat) (e : ArrayEntry) : ArrayB := { a with queue := lset a.queue i e }

/-- R76: the entry fails with a status; it completes at once at the head, else when it gets there. -/
def State.rejectEntry (s : State) (r i : Nat) (e : ArrayEntry) (st : Nat) : State :=
  State.arrayRejected 8 r (s.modArray r fun a => a.setEntry i { e with started := true, status := st })

/-- R68–R70: the array's activity allows an entry to start. -/
def ArrayB.powered (a : ArrayB) : Bool := a.power != .idle && a.power != .steppingDown

/-- R68–R70, R82: dummy cycles before the first column or cycle of an entry: the 128 of the ramp after a wake, or those of the gap,
whose length the commands do not tell (a free value). -/
def State.leadCycles (s : State) (r : Nat) : State :=
  match (s.array r).power with
  | .ramping => s.bumpReg .arrayDummyCycles r 64 128
  | _ => (s.bumpReg .arrayDummyCycles r 64 ((Config.freeWord s.free 2603).toNat % 2 ^ 32)).bump

/-- R63: the head pass issues: its level and its products; a step-down asked for is withdrawn (R404). -/
def State.passIssue (s : State) (r i : Nat) (e : ArrayEntry) : State :=
  (((s.withdrawGrant .stepDown r).endKeepWarm r).leadCycles r).modArray r fun a => { a.setEntry i { e with started := true, adds := s.passAdds r e } with
    power := .running, granted := false, levelChange := false
    level := ⟨e.fold, e.axis, e.tileFmt, e.weightFmt, e.hart⟩ }

/-- R65, R76: what stands against the next pass: its status, or 0 when it may run. -/
def State.passStatus (s : State) (r : Nat) (e : ArrayEntry) : Nat :=
  let sl := tgetD (s.array r).slots e.wslot {}
  if s.entryCheck r e ≠ 0 then s.entryCheck r e
  else if e.isPass && !e.resident && sl.state == 3 then 0x21
  else if e.isPass && sl.state == 2 && e.beyondStaged sl then 0x14 else 0

def execArrayPassIssue (r : RoomIx) (s : State) : Result :=
  let a := s.array r.val
  match a.nextEntry with
  | none => .next s
  | some (i, e) =>
    let st := s.passStatus r.val e
    if 2 ≤ e.op ∧ e.op ≤ 4 then .next s
    else if st ≠ 0 then .next (s.rejectEntry r.val i e st)
    else whenReady (a.powered && (e.resident || (tgetD a.slots e.wslot {}).state == 2) && !(e.init && a.overlapsRunning e)) s
      (s.passIssue r.val i e)

/-- R68: the array runs dummy operations once its last pass is over. -/
def ArrayB.gap (a : ArrayB) : ArrayB :=
  if a.power = .running ∧ !(a.queue.any fun e => e.started && e.status == 0 && e.isPass) then { a with power := .dummy } else a

/-- R74–R78, R82: the pass at the head lands, exports if it must, and completes. The cycles in which its columns entered are
counted here; a column of a BF16 pass counts for its four cycles (DESIGN CHOICE). -/
def State.passComplete (s : State) (r : Nat) (e : ArrayEntry) : State :=
  let t := s.modArray r fun a => a.land e.init (s.passLands r e)
  let a := t.array r
  let u := (if e.autoExport then t.putRows r (a.exportRows e) else t).bumpReg .arrayBusyCycles r 64 e.columnCycles
  (u.arrayComplete r e (b2n (a.anyPoison e)) (if e.autoExport then a.exportFlags e else 0) e.runCycles).modArray r (·.gap)

def execArrayPassComplete (r : RoomIx) (s : State) : Result :=
  match (s.array r.val).queue with
  | e :: _ => whenReady (e.isPass && e.started && e.status == 0) s (s.passComplete r.val e)
  | [] => .next s

def execArraySlotTimeout (r : RoomIx) (s : State) : Result :=
  let a := s.array r.val
  match a.queue with
  | e :: _ =>
    whenReady (e.isPass && !e.started && !e.resident && s.passStatus r.val e == 0 && (tgetD a.slots e.wslot {}).state != 2) s
      ((s.reach (a.headSince + s.arrayWait r.val)).rejectEntry r.val 0 e 0x20)
  | [] => .next s

/-- R64: an EXPORT or IMPORT (its operation code) that is next to run starts, or fails its check. -/
def exportStart (op : Nat) (r : RoomIx) (s : State) : Result :=
  let a := s.array r.val
  match a.nextEntry with
  | some (i, e) =>
    if e.op ≠ op then .next s
    else if s.entryCheck r.val e ≠ 0 then .next (s.rejectEntry r.val i e (s.entryCheck r.val e))
    else whenReady (!a.overlapsRunning e) s (s.modArray r.val fun a => a.setEntry i { e with started := true })
  | none => .next s

def execArrayExportStart (r : RoomIx) (s : State) : Result := exportStart 2 r s

def execArrayExportComplete (r : RoomIx) (s : State) : Result :=
  let a := s.array r.val
  match a.queue with
  | e :: _ =>
    whenReady (e.op == 2 && e.started && e.status == 0) s
      ((s.putRows r.val (a.exportRows e)).arrayComplete r.val e
        (b2n (a.anyPoison e)) (a.exportFlags e) e.runCycles)
  | [] => .next s

def execArrayImportStart (r : RoomIx) (s : State) : Result := exportStart 3 r s

def execArrayImportComplete (r : RoomIx) (s : State) : Result :=
  match (s.array r.val).queue with
  | e :: _ =>
    let cells := s.importCells r.val e
    whenReady (e.op == 3 && e.started && e.status == 0) s
      ((s.modArray r.val fun a => { a with xa := cells.foldl (fun x c => tset c.1 c.2 x) a.xa }).arrayComplete r.val e
        (b2n (cells.any (·.2.poison))) 0 e.runCycles)
  | [] => .next s

def execArrayDummyStart (r : RoomIx) (s : State) : Result :=
  let a := s.array r.val
  match a.nextEntry with
  | some (i, e) =>
    if e.op ≠ 4 then .next s
    else if s.entryCheck r.val e ≠ 0 then .next (s.rejectEntry r.val i e (s.entryCheck r.val e))
    else whenReady a.powered s
      ((((s.withdrawGrant .stepDown r.val).endKeepWarm r.val).leadCycles r.val).modArray r.val fun a =>
        { a.setEntry i { e with started := true } with power := .dummy, granted := false })
  | none => .next s

def execArrayDummyComplete (r : RoomIx) (s : State) : Result :=
  match (s.array r.val).queue with
  | e :: _ =>
    whenReady (e.op == 4 && e.started && e.status == 0) s
      ((s.bumpReg .arrayDummyCycles r.val 64 e.n).arrayComplete r.val e 0 0 e.runCycles)
  | [] => .next s

/-! ## Activity (R68, R69) -/

/-- R63, R68: the next entry is a pass that has what it needs, or a DUMMY. -/
def State.arrayReady (s : State) (r : Nat) : Bool :=
  let a := s.array r
  match a.nextEntry with
  | some (_, e) =>
    s.passStatus r e == 0 && ((e.isPass && (e.resident || (tgetD a.slots e.wslot {}).state == 2) && !(e.init && a.overlapsRunning e)) || e.op == 4)
  | none => false

def execArrayStepDownStart (r : RoomIx) (s : State) : Result :=
  let a := s.array r.val
  whenReady (a.powered && !s.keptWarm r.val && !a.queue.any (·.started) && !s.arrayReady r.val && s.granted .stepDown r.val) s
    ((((s.useGrant .stepDown r.val).bumpReg .arrayDummyCycles r.val 64 (256 + (Config.freeWord s.free 2604).toNat % 2 ^ 32)).bump).modArray
      r.val fun a => { a with power := .steppingDown })

def execArrayIdle (r : RoomIx) (s : State) : Result :=
  whenReady ((s.array r.val).power == .steppingDown) s
    ((s.bumpReg .arrayDummyCycles r.val 64 96).modArray r.val fun a => { a with power := .idle, granted := false })

def execArrayWakeGrant (r : RoomIx) (s : State) : Result :=
  let a := s.array r.val
  whenReady (a.power == .idle && !a.queue.isEmpty && s.granted .wake r.val) s
    ((s.useGrant .wake r.val).modArray r.val fun a => { a with power := .ramping, granted := true })

/-! ## Register writes (R80, R83, R84) -/

def execArrayFlush (r : RoomIx) (s : State) : Result := .next (s.arrayFlush r.val)

def execArrayForceRelease (r : RoomIx) (s : State) : Result := .next (s.arrayForceRelease r.val)

/-- R83: a write of ARRAY_SB_CFG takes effect. -/
def State.sbCfgOk (s : State) (r : Nat) (writer : Option Nat) (v : Nat) : Bool :=
  let a := s.array r
  a.queue.isEmpty && a.stages.isEmpty && a.slots.all (·.2.state == 0) &&
  (a.owner.isNone || a.owner == writer) && decide (1 ≤ fld v 36 32) && decide (fld v 36 32 ≤ 16) &&
  fld v 22 0 % 0x4000 == 0 && decide (fld v 22 0 + (fld v 43 40 + 1) * fld v 36 32 * 0x4000 ≤ pantrySize)

def State.sbCfgWrite (s : State) (r : Nat) (writer : Option Nat) (v : Nat) : State :=
  if s.sbCfgOk r writer v then s.setRegN .arraySbCfg r (fld v 43 40 * 2 ^ 40 + fld v 36 32 * 2 ^ 32 + fld v 22 0)
  else s.orReg .arrayErr r 16

def execArraySbCfgWrite (r : RoomIx) (writer : Option (Fin 32)) (value : W64) (s : State) : Result :=
  .next (s.sbCfgWrite r.val (writer.map (·.val)) value.toNat)

end Sys2Proof.Machine
end

