-- ==== Sys2Proof/Machine/Avu.lean ====
section
/-! DEFINITION. The attic vector units: their queue, the checks and the dispatch of a command, and the matrix-vector,
export and scan operations (R144, R186–R208). -/
namespace Sys2Proof.Machine

/-! ## Commands (R197, R198, R201) -/

def AvuCmd.w (c : AvuCmd) (j hi lo : Nat) : Nat := fld (wordN c.words j) hi lo
def AvuCmd.op (c : AvuCmd) : Nat := c.w 0 55 52
def AvuCmd.init (c : AvuCmd) : Bool := c.w 0 51 51 == 1
def AvuCmd.autoExport (c : AvuCmd) : Bool := c.w 0 50 50 == 1
def AvuCmd.complete (c : AvuCmd) : Bool := c.w 0 49 49 == 1
def AvuCmd.mask (c : AvuCmd) : Nat := c.w 0 47 0
def AvuCmd.k (c : AvuCmd) : Nat := c.w 1 63 48
def AvuCmd.actFmt (c : AvuCmd) : Nat := c.w 1 31 28
def AvuCmd.weightFmt (c : AvuCmd) : Nat := c.w 1 27 24
def AvuCmd.rows (c : AvuCmd) : Nat := c.w 1 23 22 + 1
def AvuCmd.ew (c : AvuCmd) : Int := sgn 10 (c.w 1 9 0)
def AvuCmd.actPitch (c : AvuCmd) : Nat := c.w 2 63 48
def AvuCmd.actScaleAddr (c : AvuCmd) : Nat := c.w 2 45 23
def AvuCmd.actAddr (c : AvuCmd) : Nat := c.w 2 22 0
def AvuCmd.n (c : AvuCmd) : Nat := c.w 5 57 48
def AvuCmd.xaBase (c : AvuCmd) : Nat := c.w 5 40 32
def AvuCmd.expFmt (c : AvuCmd) : Nat := c.w 6 55 52
def AvuCmd.expPitch (c : AvuCmd) : Nat := c.w 6 47 32
def AvuCmd.expAddr (c : AvuCmd) : Nat := c.w 6 22 0
def AvuCmd.expMult (c : AvuCmd) : Nat := c.w 7 63 32
def AvuCmd.compAddr (c : AvuCmd) : Nat := c.w 7 22 0
def AvuCmd.len (c : AvuCmd) : Nat := c.w 1 20 0 + 1
/-- The banks of the mask. -/
def AvuCmd.banks (c : AvuCmd) : List Nat := (List.range 48).filter fun b => bitOf c.mask b
def AvuCmd.b0 (c : AvuCmd) : Nat := c.banks.headD 0
/-- R198, R199: the command writes exports. -/
def AvuCmd.exports (c : AvuCmd) : Bool := c.op == 3 || (c.op == 1 && c.autoExport)
/-- R199: bytes of a weight column. -/
def AvuCmd.colBytes (c : AvuCmd) : Nat := packedBytes c.weightFmt c.k

/-- R189: an operand: its virtual address in bank b0, and its bytes in each bank. -/
structure AvuOperand where
  va : Nat
  bytes : Nat
  write : Bool

/-- R198, R201: the operands of a command in its banks. -/
def AvuCmd.operands (c : AvuCmd) : List AvuOperand :=
  match c.op with
  | 1 => [⟨wordN c.words 3, c.n * c.colBytes, false⟩] ++
    (if isMx c.weightFmt then [⟨wordN c.words 4, c.n * (c.k / 32), false⟩] else [])
  | 4 => [⟨wordN c.words 3, 4 * c.len, true⟩, ⟨wordN c.words 4, 4 * c.len, false⟩, ⟨wordN c.words 5, 4 * c.len, false⟩]
  | _ => []

/-- R189: the virtual address of an operand in bank b. -/
def AvuCmd.vaIn (c : AvuCmd) (o : AvuOperand) (b : Nat) : Nat := (o.va + (b - c.b0) * bankSize) % 2 ^ 64

/-! ## Checks (R202) -/

/-- R202: REJECT_FORMAT, for what is not attention. -/
def AvuCmd.badFormat (c : AvuCmd) : Bool :=
  (c.op == 1 && (!tileFmtOk c.actFmt || !weightFmtOk c.weightFmt)) ||
  (c.exports && (decide (5 < c.expFmt) || (c.expFmt != 5 && !expMultOk c.expMult)))

/-- R202: K is a multiple of this. -/
def kUnit (fmt : Nat) : Nat := match elemBits fmt with | 6 => 128 | 4 => 64 | _ => 32

/-- R196: bytes of the rows and scales that are broadcast. -/
def AvuCmd.bufBytes (c : AvuCmd) : Nat :=
  c.rows * (packedBytes c.actFmt c.k + (if isMx c.actFmt then c.k / 32 else 0))

/-- R202: a reserved field, or one that R198 requires to be 0, is not. -/
def AvuCmd.badReserved (c : AvuCmd) : Bool :=
  c.w 0 48 48 != 0 ||
  (match c.op with
    | 4 => c.w 1 63 21 != 0 || c.w 2 63 0 != 0 || c.w 6 63 0 != 0 || c.w 7 63 23 != 0
    | o =>
      c.w 1 21 10 != 0 || c.w 2 47 46 != 0 || c.w 5 63 58 != 0 || c.w 5 47 41 != 0 || c.w 5 31 0 != 0 ||
      c.w 6 63 56 != 0 || c.w 6 51 48 != 0 || c.w 6 31 23 != 0 || c.w 7 31 23 != 0 ||
      (o == 3 && (c.w 1 63 24 != 0 || c.w 2 63 0 != 0 || c.w 3 63 0 != 0 || c.w 4 63 0 != 0)))

/-- R202: REJECT_SHAPE. -/
def AvuCmd.badShape (c : AvuCmd) : Bool :=
  c.mask == 0 || c.badReserved ||
  (c.op == 1 && (c.k == 0 || decide (32768 < c.k) || c.k % kUnit c.weightFmt != 0 || decide (32768 < c.bufBytes))) ||
  ((c.op == 1 || c.op == 3) && (c.n == 0 || decide (512 < c.n) || decide (512 < c.xaBase + c.n * c.rows)))

/-- R202: REJECT_ALIGN. -/
def AvuCmd.badAlign (c : AvuCmd) : Bool :=
  (c.op == 1 && (c.actAddr % 16 != 0 || wordN c.words 3 % 32 != 0)) || (c.exports && c.expAddr % 16 != 0) ||
  (c.op == 4 && (wordN c.words 3 % 32 != 0 || wordN c.words 4 % 32 != 0 || wordN c.words 5 % 32 != 0)) ||
  (c.complete && c.compAddr % 16 != 0)

/-- R202: the first bank of the mask that BANK_MAP does not show. -/
def State.avuBankOut (s : State) (r : Nat) (c : AvuCmd) : Option Nat :=
  c.banks.find? fun b => !bitOf (s.room r).cond.bankMap b

/-- R189: one page of an operand in bank b: its banked offset, or none where it fails. -/
def State.avuPage (s : State) (r : Nat) (a : Authority) (write : Bool) (b va len : Nat) : Option (Nat × Xlate) :=
  let ok : Option Xlate :=
    match s.translate r a .read .load (BitVec.ofNat 64 va), s.translate r a (if write then .write else .read) .load (BitVec.ofNat 64 va) with
    | .ok x, .ok _ => some x
    | _, _ => none
  match ok with
  | some x =>
    (match s.placeFor r x.pa len with
      | .attic q true o =>
        if q = r ∧ x.av = true ∧ atticBank true o = b ∧ atticBank true (o + len - 1) = b then some (o / 0x10000 * 0x10000, x) else none
      | _ => none)
  | none => none

/-- The key of a translated page of a command: operand, bank and page number within the operand. -/
def avuPageKey (operand bank page : Nat) : Nat := (operand * 64 + bank) * 65536 + page

/-- R189: the pages of the pieces of one operand in one bank; the failing address on the left. -/
def State.avuPagesIn (s : State) (r : Nat) (a : Authority) (write : Bool) (operand b : Nat) :
    List ((Nat × Nat) × Nat) → Except Nat (Tab Nat × List Xlate)
  | [] => .ok ([], [])
  | ((va, len), j) :: t =>
    match s.avuPage r a write b va len with
    | none => .error va
    | some (o, x) =>
      match s.avuPagesIn r a write operand b t with
      | .error e => .error e
      | .ok (l, xs) => .ok ((avuPageKey operand b j, o) :: l, x :: xs)

/-- R189: every page of every operand of every bank, banks ascending; the first failing bank and address on the left. -/
def State.avuPages (s : State) (r : Nat) (c : AvuCmd) :
    List (Nat × AvuOperand × Nat) → Except (Nat × Nat) (Tab Nat × List Xlate)
  | [] => .ok ([], [])
  | (b, o, j) :: t =>
    match s.avuPagesIn r c.auth o.write j b (pageList (c.vaIn o b) o.bytes).zipIdx with
    | .error va => .error (b, va)
    | .ok (l, xs) =>
      match s.avuPages r c t with
      | .error e => .error e
      | .ok (m, ys) => .ok (l ++ m, xs ++ ys)

/-- R189: every operand in every bank, banks ascending. -/
def AvuCmd.extents (c : AvuCmd) : List (Nat × AvuOperand × Nat) :=
  c.banks.flatMap fun b => c.operands.zipIdx.map fun p => (b, p.1, p.2)

/-- R202: an operand extent passes the end of its bank, given its first page. -/
def AvuCmd.pastBank (c : AvuCmd) (pages : Tab Nat) : Bool :=
  c.extents.any fun e =>
    decide (bankSize < tgetD pages (avuPageKey e.2.2 e.1 0) 0 % bankSize + c.vaIn e.2.1 e.1 % 0x10000 + e.2.1.bytes)

/-- R202: a pantry range of the command passes the end of the pantry. -/
def AvuCmd.badRange (c : AvuCmd) : Bool :=
  (c.op == 1 && (decide (pantrySize < c.actAddr + (c.rows - 1) * c.actPitch + packedBytes c.actFmt c.k) ||
    (isMx c.actFmt && decide (pantrySize < c.actScaleAddr + c.rows * (c.k / 32))))) ||
  (c.exports && decide (pantrySize <
    c.expAddr + (c.rows - 1) * c.expPitch + ((c.banks.getLastD 0 + 1) * c.n) * exportSize c.expFmt)) ||
  (c.complete && decide (pantrySize < c.compAddr + 16))

/-- R195, R196: the bytes broadcast: the rows, then their block scales. -/
def State.avuBroadcast (s : State) (r : Nat) (c : AvuCmd) : List PByte :=
  ((List.range c.rows).flatMap fun j =>
    s.pbytesAt (fun i => pantryKey r (c.actAddr + j * c.actPitch + i)) (packedBytes c.actFmt c.k)) ++
  (if isMx c.actFmt then s.pbytesAt (fun i => pantryKey r (c.actScaleAddr + i)) (c.rows * (c.k / 32)) else [])

/-- What the dispatcher finds for a command: rejected with a status, bank and address, or ready with its pages. -/
inductive AvuCheck where
  | reject (status bank va : Nat)
  | ready (pages : Tab Nat) (fills : List Xlate)

/-- R202: the checks in their order. -/
def State.avuCheck (s : State) (r : Nat) (c : AvuCmd) : AvuCheck :=
  if c.op = 0 ∨ 4 < c.op then .reject 0x10 0 0
  else if c.badFormat then .reject 0x11 0 0
  else if c.badShape then .reject 0x12 0 0
  else if c.badAlign then .reject 0x13 0 0
  else match s.avuBankOut r c with
    | some b => .reject 0x22 b 0
    | none =>
      match s.avuPages r c c.extents with
      | .error (b, va) => .reject 0x23 b va
      | .ok (pages, xs) => if c.badRange || c.pastBank pages then .reject 0x14 0 0 else .ready pages xs

/-! ## The queue -/

/-- The command at an index of the queue replaced. -/
def AvuB.setCmd (a : AvuB) (i : Nat) (c : AvuCmd) : AvuB := { a with queue := lset a.queue i c }

def State.setAvuCmd (s : State) (r i : Nat) (c : AvuCmd) : State := s.modAvu r (·.setCmd i c)

/-- R192: the command that the dispatcher holds next, with its index. -/
def AvuB.nextCmd (a : AvuB) : Option (Nat × AvuCmd) :=
  (a.queue.zipIdx.find? fun p => !p.1.dispatched).map fun p => (p.2, p.1)

/-- R193: the command has still to finish in the AVU of a bank. -/
def AvuCmd.busyIn (c : AvuCmd) (b : Nat) : Bool :=
  if c.op = 2 then c.work.any (·.bank == b) else bitOf c.mask b && !c.done.contains b

/-- R193: the command that runs in the AVU of a bank: the first dispatched one that names it and is not done there. -/
def AvuB.running (a : AvuB) (b : Nat) : Option (Nat × AvuCmd) :=
  (a.queue.zipIdx.find? fun p =>
    p.1.dispatched && p.1.status == 0 && p.1.busyIn b).map fun p => (p.2, p.1)

/-- R192: the AVU of a bank has a free activation buffer. -/
def AvuB.bufferFree (a : AvuB) (b : Nat) : Bool :=
  decide ((a.queue.filter fun c => c.dispatched && c.status == 0 && c.busyIn b).length < 2)

/-- R202: a command rejected: its status and bank; a FAULT is recorded. -/
def State.avuReject (s : State) (r i : Nat) (c : AvuCmd) (status bank va : Nat) : State :=
  let t := s.setAvuCmd r i { c with dispatched := true, status := status, bank := bank }
  if status = 0x23 then (t.noteWalk r c.auth .read (BitVec.ofNat 64 va)).post { roomRecord s 0x61 r va with flags := 35, bank := bank } else t

/-- R99: every translation of a command kept in the TLBs. -/
def State.fillAll (s : State) (r : Nat) (l : List Xlate) : State := l.foldl (fun s x => s.fillTlb r x) s

/-- R191, R199: the banked ranges of the operands of a command, given its pages: bank, and the keys. -/
def AvuCmd.named (c : AvuCmd) (r : Nat) (pages : Tab Nat) : List (Nat × Nat) :=
  c.extents.flatMap fun e =>
    (pageList (c.vaIn e.2.1 e.1) e.2.1.bytes).zipIdx.flatMap fun q =>
      match tget (avuPageKey e.2.2 e.1 q.2) pages with
      | some o => placeRanges (.attic r true (o + q.1.1 % 0x10000)) q.1.2
      | none => []

/-- R192, R195, R206: a command that passes its checks is dispatched once every AVU it names has a free buffer and, for a MATVEC,
the broadcast can cross the stair; nothing is dispatched after a hard stop (R172). -/
def execAvuDispatch (r : RoomIx) (s : State) : Result :=
  match (s.avu r.val).nextCmd with
  | none => .next s
  | some (i, c) =>
    if c.op = 2 ∨ s.avusRun r.val = false then .next s
    else match s.avuCheck r.val c with
      | .reject st b va => .next (s.avuReject r.val i c st b va)
      | .ready pages xs =>
        whenReady (c.banks.all (s.avu r.val).bufferFree && (c.op != 1 || s.stairRuns r.val)) s
          ((((s.fillAll r.val xs).setAvuCmd r.val i
            { c with dispatched := true, ran := true, pages := pages, buf := if c.op = 1 then s.avuBroadcast r.val c else [] }).widenGuard
              (.work c.guard) r.val (c.named r.val pages)).bump)

/-! ## Operands in the bank -/

/-- The banked offset of byte x of an operand in bank b. -/
def AvuCmd.offsetOf (c : AvuCmd) (operand : Nat) (o : AvuOperand) (b x : Nat) : Nat :=
  let start := c.vaIn o b
  tgetD c.pages (avuPageKey operand b ((start % 0x10000 + x) / 0x10000)) 0 + (start + x) % 0x10000

/-- n bytes of an operand in bank b, inside one page or not. -/
def State.avuBytes (s : State) (r : Nat) (c : AvuCmd) (operand : Nat) (o : AvuOperand) (b x n : Nat) : List PByte :=
  (List.range n).flatMap fun j =>
    match s.pread (.attic r true (c.offsetOf operand o b (x + j))) 1 with
    | .ok l => l
    | .error _ => [(Config.unwrittenByte s.free (x + j), true)]

/-- An element of a packed array held as bytes with poison: its code, and whether it is poisoned. -/
def elemIn (fmt : Nat) (l : List PByte) (i : Nat) : Nat × Bool :=
  let bits := elemBits fmt
  let first := if bits = 6 then i / 4 * 3 + i % 4 * 6 / 8 else i * bits / 8
  let last := if bits = 6 then i / 4 * 3 + (i % 4 * 6 + 5) / 8 else (i * bits + bits - 1) / 8
  let b := (l.drop first).take (last + 1 - first)
  let sh := if bits = 6 then i % 4 * 6 % 8 else i * bits % 8
  (ofBytes (b.map (·.1)) / 2 ^ sh % 2 ^ bits, b.any (·.2))

/-- R28, R29: an element with its scales: value, sum of scale exponents (none for NaN), poison. -/
def scaledElem (fmt scale : Nat) (l : List PByte) (i : Nat) (block : Option PByte) : Num × Option Int × Bool :=
  let v := elemIn fmt l i
  match block with
  | none => (elemValue fmt v.1, e8m0 scale, v.2)
  | some p => (elemValue fmt v.1, (do let x ← e8m0 scale; let y ← e8m0 p.1.toNat; pure (x + y)), v.2 || p.2)

/-! ## MATVEC (R198, R199) -/

/-- R196: row j of the broadcast activations, and the scale of its block. -/
def AvuCmd.actRow (c : AvuCmd) (j : Nat) : List PByte := (c.buf.drop (j * packedBytes c.actFmt c.k)).take (packedBytes c.actFmt c.k)
def AvuCmd.actScale (c : AvuCmd) (j k : Nat) : Option PByte :=
  if isMx c.actFmt then some ((c.buf.drop (c.rows * packedBytes c.actFmt c.k + j * (c.k / 32) + k / 32)).headD (0, true)) else none

/-- R199: the sum of the products of row j and column n in bank b. -/
def State.matvecSum (s : State) (r : Nat) (c : AvuCmd) (b j n : Nat) : Xa :=
  let row := c.actRow j
  let wts := match c.operands with
    | o :: _ => s.avuBytes r c 0 o b (n * c.colBytes) c.colBytes
    | [] => []
  let scales := match c.operands with
    | _ :: o :: _ => s.avuBytes r c 1 o b (n * (c.k / 32)) (c.k / 32)
    | _ => []
  (List.range c.k).foldl (fun x k =>
    Xa.add x (scaledProduct (scaledElem c.actFmt (c.w 1 47 40) row k (c.actScale j k))
      (scaledElem c.weightFmt (c.w 1 39 32) wts k (if isMx c.weightFmt then some (scales.getD (k / 32) (0, true)) else none)) c.ew)) {}

/-- R199: the accumulator entries of a command in a bank: key, row, column. -/
def AvuCmd.cells (c : AvuCmd) (b : Nat) : List (Nat × Nat × Nat) :=
  (List.range c.n).flatMap fun n => (List.range c.rows).map fun j => (b * 512 + c.xaBase + n * c.rows + j, j, n)

def AvuB.xaAt (a : AvuB) (k : Nat) : Xa := (tget k a.xa).getD (Config.freeXa a.xaGen (8192 + k))

/-- R199: the products of a MATVEC in one bank added to its entries. -/
def State.matvecLand (s : State) (r : Nat) (c : AvuCmd) (b : Nat) : State :=
  s.modAvu r fun a => { a with
    xa := (c.cells b).foldl (fun x e =>
      tset e.1 (Xa.add (if c.init then {} else a.xaAt e.1) (s.matvecSum r c b e.2.1 e.2.2)) x) a.xa }

/-- R199: the exports of a command from one bank: pantry offset and bytes. -/
def AvuB.exportRows (a : AvuB) (c : AvuCmd) (b : Nat) : List (Nat × List PByte) :=
  (List.range c.rows).map fun j =>
    (c.expAddr + j * c.expPitch + b * c.n * exportSize c.expFmt,
      (List.range c.n).flatMap fun n =>
        (exportValue c.expFmt c.ew c.expMult (a.xaAt (b * 512 + c.xaBase + n * c.rows + j))).1)

/-- R35: the flags of the exported values of a bank, and whether one is poisoned. -/
def AvuB.exportFlags (a : AvuB) (c : AvuCmd) (b : Nat) : Nat :=
  (c.cells b).foldl (fun f e => f ||| (exportValue c.expFmt c.ew c.expMult (a.xaAt e.1)).2) 0
def AvuB.exportPoison (a : AvuB) (c : AvuCmd) (b : Nat) : Bool := (c.cells b).any fun e => (a.xaAt e.1).poison

/-- R199: the exports of a bank written, and its part of the command's flags kept. -/
def State.avuExport (s : State) (r i : Nat) (c : AvuCmd) (b : Nat) : State :=
  let a := s.avu r
  let t := (a.exportRows c b).foldl (fun s p => s.pwrite (.pantry r p.1) p.2) s
  t.setAvuCmd r i { c with done := b :: c.done, arith := c.arith ||| a.exportFlags c b, poisoned := c.poisoned || a.exportPoison c b }

/-- R187, R204: beats that a MATVEC takes of a bank. -/
def AvuCmd.beats (c : AvuCmd) : Nat :=
  ceilDiv c.rows 2 * ceilDiv (c.n * (c.colBytes + (if isMx c.weightFmt then c.k / 32 else 0))) 32

/-- The attic ranges of an operand read in one bank, noted as used through the banked view. -/
def State.avuNote (s : State) (r : Nat) (c : AvuCmd) (b : Nat) : State :=
  (c.operands.zipIdx.flatMap fun p => (pageList (c.vaIn p.1 b) p.1.bytes).zipIdx.map fun q =>
    (tgetD c.pages (avuPageKey p.2 b q.2) 0 + q.1.1 % 0x10000, q.1.2)).foldl (fun s e => s.noteView r true e.1 e.2) s

/-- R205: words of an activation buffer that are uncorrectable: their bytes are poisoned. -/
def spoilBuffer (buf : List PByte) (l : List AvuFault) : List PByte :=
  buf.zipIdx.map fun p => if l.contains (.bufferUe (p.2 / 8)) then (p.1.1, true) else p.1

/-- R199: a MATVEC in the AVU of a bank, to its end there. -/
def State.avuMatvec (s : State) (r i : Nat) (c : AvuCmd) (b : Nat) (faults : List AvuFault) : State :=
  let t := ((s.matvecLand r { c with buf := spoilBuffer c.buf faults } b).avuNote r c b).bumpReg .avuBeatCount r 64 c.beats
  (if c.autoExport then t.avuExport r i c b else t.setAvuCmd r i { c with done := b :: c.done }).bump

/-! ## Words in error (R205) -/

/-- R205: the words of its bank that a command reads in an AVU, as ranges of within-bank offsets. -/
def AvuCmd.readsIn (c : AvuCmd) (b : Nat) : List (Nat × Nat) :=
  c.operands.zipIdx.flatMap fun p => (pageList (c.vaIn p.1 b) p.1.bytes).zipIdx.map fun q =>
    let o := (tgetD c.pages (avuPageKey p.2 b q.2) 0 + q.1.1 % 0x10000) % bankSize
    (o, o + q.1.2)

/-- R205: an error in a word that the AVU of a bank reads, among these: corrected and counted, or the word poisoned. One in a word that
it does not read has not happened. -/
def State.avuFault (s : State) (r : Nat) (b : Nat) (reads : List (Nat × Nat)) (entries : List Nat) (f : AvuFault) : State :=
  match f with
  | .bankCe w => if rangesMeet reads [(w, w + 8)] then s.atticCe r 0 0x01 true (b * bankSize + w) 0xFFF else s
  | .bankUe w => if rangesMeet reads [(w, w + 8)] then s.storeUe r true (b * bankSize + w) else s
  | .entryUe n =>
    if entries.contains (b * 512 + n) then
      s.modAvu r fun a => { a with xa := tset (b * 512 + n) { a.xaAt (b * 512 + n) with poison := true } a.xa }
    else s
  | .bufferUe _ => s

def State.avuFaults (s : State) (r : Nat) (b : Nat) (reads : List (Nat × Nat)) (entries : List Nat) (l : List AvuFault) : State :=
  l.foldl (fun s f => s.avuFault r b reads entries f) s

/-- The accumulator entries of a command in a bank. -/
def AvuCmd.entriesIn (c : AvuCmd) (b : Nat) : List Nat := if c.op = 1 ∨ c.op = 3 then (c.cells b).map (·.1) else []

/-- R193, R205, R206: a command of one operation runs in the AVU of a bank, with the errors that it finds there; what it exports waits
for the stair. -/
def avuRun (op : Nat) (r : RoomIx) (x : AvuRun) (s : State) (body : Nat → AvuCmd → State → State) : Result :=
  match (s.avu r.val).running x.bank.val with
  | some (i, c) =>
    whenReady (c.op == op && s.avusRun r.val && (!c.exports || s.stairRuns r.val)) s
      (body i c (s.avuFaults r.val x.bank.val (c.readsIn x.bank.val) (c.entriesIn x.bank.val) x.faults))
  | none => .next s

def execAvuMatvec (r : RoomIx) (x : AvuRun) (s : State) : Result :=
  avuRun 1 r x s fun i c s => s.avuMatvec r.val i c x.bank.val x.faults

def execAvuExport (r : RoomIx) (x : AvuRun) (s : State) : Result :=
  avuRun 3 r x s fun i c s => (s.avuExport r.val i c x.bank.val).bump

/-! ## VSCAN (R201) -/

/-- The FP32 element of bytes with poison. -/
def fp32In (l : List PByte) : Nat × Bool := (ofBytes (l.map (·.1)), l.any (·.2))

/-- R201: the new value of element i, with its poison. -/
def State.scanElem (s : State) (r : Nat) (c : AvuCmd) (b i : Nat) : List PByte :=
  match c.operands with
  | [o0, o1, o2] =>
    let x := fp32In (s.avuBytes r c 0 o0 b (4 * i) 4)
    let a := fp32In (s.avuBytes r c 1 o1 b (4 * i) 4)
    let u := fp32In (s.avuBytes r c 2 o2 b (4 * i) 4)
    (toBytes 4 (fp32Fma a.1 x.1 u.1)).map (·, x.2 || a.2 || u.2)
  | _ => []

/-- R201: the scan in one bank: the new state vector, written page by page. -/
def State.avuScan (s : State) (r i : Nat) (c : AvuCmd) (b : Nat) : State :=
  let out := (List.range c.len).flatMap fun k => s.scanElem r c b k
  let places : List (Place × Nat) := match c.operands with
    | o :: _ => (pageList (c.vaIn o b) o.bytes).zipIdx.map fun q =>
      (.attic r true (tgetD c.pages (avuPageKey 0 b q.2) 0 + q.1.1 % 0x10000), q.1.2)
    | [] => []
  ((((s.avuNote r c b).pwriteAll places out).bumpReg .avuBeatCount r 64 (4 * ceilDiv c.len 8)).setAvuCmd r i
    { c with done := b :: c.done, poisoned := c.poisoned || out.any (·.2) }).bump

def execAvuVscan (r : RoomIx) (x : AvuRun) (s : State) : Result :=
  avuRun 4 r x s fun i c s => s.avuScan r.val i c x.bank.val

/-! ## Completion (R193, R203) -/

/-- R193: every named AVU has finished; for an attention step, every row is written. -/
def AvuCmd.finished (c : AvuCmd) : Bool :=
  c.dispatched && (c.status != 0 ||
    (if c.op = 2 then c.work.isEmpty && c.rowsDone.length == (c.attn.map fun e => e.rows.length).foldl (· + ·) 0
     else c.banks.all fun b => c.done.contains b))

/-- R203: the bit of AVU_ERR that a status sets. -/
def avuErrBit (st : Nat) : Nat :=
  if st = 0x01 then 8 else if st = 0x23 then 4 else if st = 0x22 then 2 else if 0x10 ≤ st ∧ st ≤ 0x14 then 1 else 0

/-- R203: the completion record. -/
def State.avuRecord (s : State) (r : Nat) (c : AvuCmd) (st cycles : Nat) : State :=
  if c.complete ∧ c.compAddr % 16 = 0 ∧ c.compAddr + 16 ≤ pantrySize then
    s.writePantry r c.compAddr
      (toBytes 8 (c.w 0 63 56 * 2 ^ 56 + st * 2 ^ 48 + c.arith * 2 ^ 40 + c.op * 2 ^ 32 + c.bank * 2 ^ 24 + min cycles 0xFFFFFF)
        ++ toBytes 8 s.now)
  else s

/-- R203: the status that a command completes with. -/
def AvuCmd.endStatus (c : AvuCmd) : Nat := if c.status ≠ 0 then c.status else b2n c.poisoned

/-- R203: cycles from dispatch to completion: 0 where the command did not run, else a free value. -/
def State.avuCycles (s : State) (c : AvuCmd) : Nat :=
  if c.ran then (Config.freeWord s.free 1).toNat % 2 ^ 24 else 0

/-- R231, R232: bytes of an output row of an attention step. -/
def AvuCmd.outRow (c : AvuCmd) (final : Bool) : Nat :=
  16 + 64 * 2 ^ c.w 1 31 30 * (if final then exportSize (c.w 5 55 52) else 4)

/-- R199, R201, R231: the keys of the bytes that a command writes for its results in its banks: exports, its state vector, or rows. -/
def AvuCmd.written (c : AvuCmd) (r : Nat) : List (Nat × Nat) :=
  (if c.exports then c.banks.flatMap fun b => (List.range c.rows).map fun j =>
      let k := pantryKey r (c.expAddr + j * c.expPitch + b * c.n * exportSize c.expFmt)
      (k, k + c.n * exportSize c.expFmt)
    else []) ++
  (if c.op = 4 then c.banks.flatMap fun b => match c.operands with
      | o :: _ => (pageList (c.vaIn o b) o.bytes).zipIdx.flatMap fun q =>
        placeRanges (.attic r true (tgetD c.pages (avuPageKey 0 b q.2) 0 + q.1.1 % 0x10000)) q.1.2
      | [] => []
    else []) ++
  (if c.op = 2 then c.attn.map fun e =>
      (pantryKey r e.outOff, pantryKey r e.outOff + e.rows.length * c.outRow e.final) else [])

/-- R206: what a command that is ended has touched is unspecified, in every bank: its entries, and the bytes it writes. -/
def State.avuSpoil (s : State) (r : Nat) (c : AvuCmd) : State :=
  let t := if c.op = 1 then
    s.modAvu r fun a => { a with
      xa := (c.banks.flatMap c.cells).foldl (fun x e => tset e.1 (Config.freeXa s.free (8192 + e.1)) x) a.xa }
    else s
  (t.spoilRanges (c.written r)).bump

/-- R203: the command at the head completes. -/
def State.avuFinish (s : State) (r : Nat) (c : AvuCmd) : State :=
  ((((((s.avuRecord r c c.endStatus (s.avuCycles c)).orReg .avuErr r (avuErrBit c.endStatus)).modAvu r fun a =>
    { a with queue := a.queue.drop 1 }).dropGuard (.work c.guard)).dropSeqs c.guard).bump).bumpCount .avuDoneCount r r

/-- R191: a command that has run uses entries of another in some bank. -/
def AvuCmd.shares (c x : AvuCmd) : Bool :=
  x.banks.any fun b => (c.entriesIn b).any fun e => (x.entriesIn b).contains e

/-- R191, R206: commands behind the head of the queue that have started on entries of it have unspecified results too. -/
def State.avuTaint (s : State) (r : Nat) (c : AvuCmd) : State :=
  if c.op ≠ 1 then s
  else s.modAvu r fun a => { a with
    queue := a.queue.take 1 ++ (a.queue.drop 1).map fun x => if x.ran && !x.done.isEmpty && c.shares x then { x with spoiled := true } else x }

/-- R35: flags that are free: the reserved bits stay 0. -/
def State.freeFlags (s : State) (k : Nat) : Nat := (Config.freeWord s.free k).toNat % 64

/-! ## Flush (R206) -/

/-- R206: the running commands of a room that is reset or disabled are discarded: what they touched is unspecified. -/
def State.avuDiscard (s : State) (r : Nat) : State :=
  ((s.avu r).queue.foldl (fun s c => if c.ran && c.status == 0 then s.avuSpoil r c else s) s).modAvu r fun a => { a with queue := [] }

/-- R203, R206: a command that is aborted: one that runs may have exported, with flags that are not known here. -/
def State.abortedCmd (s : State) (c : AvuCmd) : AvuCmd :=
  if c.status ≠ 0 then c
  else { c with status := 0x30, arith := if c.ran && (c.exports || c.op == 2) then c.arith ||| s.freeFlags 2512 else 0 }

/-- R206: every command of the queue completes, in order, with ABORTED. One that had been rejected keeps its status. -/
def State.avuAbort : Nat → Nat → State → State
  | 0, _, s => s
  | f + 1, r, s =>
    match (s.avu r).queue with
    | [] => s
    | c :: _ =>
      let t := if c.ran ∧ c.status = 0 then (s.avuSpoil r c).avuTaint r c else s
      State.avuAbort f r (t.avuFinish r (s.abortedCmd c))

/-- R206: AVU_CTRL.FLUSH, or a hard stop. -/
def State.avuFlush (s : State) (r : Nat) : State := (State.avuAbort 16 r s).orReg .avuErr r 16

def execAvuFlush (r : RoomIx) (s : State) : Result := .next (s.avuFlush r.val)

/-! ## What a command names (R191, R214) -/

/-- R191: the keys of the bytes that a command names in its banks, as they are mapped now; a page that is not mapped now is added when
the command is dispatched. -/
def State.avuRanges (s : State) (r : Nat) (c : AvuCmd) : List (Nat × Nat) :=
  if c.op = 0 ∨ c.op = 2 ∨ 4 < c.op ∨ c.badFormat ∨ c.badShape ∨ c.badAlign then []
  else c.extents.flatMap fun e =>
    (pageList (c.vaIn e.2.1 e.1) e.2.1.bytes).flatMap fun q =>
      match s.avuPage r c.auth e.2.1.write e.1 q.1 q.2 with
      | some (o, _) => placeRanges (.attic r true (o + q.1 % 0x10000)) q.2
      | none => []

/-- R214, R221: the places of the table entries that an attention command names. -/
def State.attnSeqs (s : State) (r : Nat) (c : AvuCmd) : List Place :=
  if c.op ≠ 2 then []
  else (List.range (c.w 3 55 48 + 1)).filterMap fun j =>
    let e := ofBytes (s.bytesAt (pantryKey r (c.w 3 22 0 + 32 * j)) 4)
    match s.translate r c.auth .read .load (BitVec.ofNat 64 (wordN c.words 2 + e * 64)) with
    | .ok x => some (s.placeFor r x.pa 32)
    | .error _ => none

/-- R207: AVU_STATUS. -/
def AvuB.status (a : AvuB) : Nat :=
  a.queue.length * 2 ^ 54 + (List.range 48).foldl (fun x b => x + b2n (a.running b).isSome * 2 ^ b) 0

end Sys2Proof.Machine
end

