-- ==== Sys2Proof/Machine/Attn.lean ====
section
/-! DEFINITION. The attention step: its command, its dispatch, the partial of a row over a block, and the merge unit
(R209–R236). -/
namespace Sys2Proof.Machine

/-! ## The command (R220) -/

def AvuCmd.kvFmt (c : AvuCmd) : Nat := c.w 1 63 60
def AvuCmd.qFmt (c : AvuCmd) : Nat := c.w 1 59 56
def AvuCmd.dCode (c : AvuCmd) : Nat := c.w 1 31 30
def AvuCmd.headDim (c : AvuCmd) : Nat := 64 * 2 ^ c.dCode
def AvuCmd.blkLog2 (c : AvuCmd) : Nat := c.w 1 29 25
def AvuCmd.lh (c : AvuCmd) : Nat := c.w 1 24 10
def AvuCmd.seqTable (c : AvuCmd) : Nat := wordN c.words 2
def AvuCmd.batchCount (c : AvuCmd) : Nat := c.w 3 55 48 + 1
def AvuCmd.batchOff (c : AvuCmd) : Nat := c.w 3 22 0
def AvuCmd.scoreMult (c : AvuCmd) : Nat := c.w 4 63 32
def AvuCmd.finFmt (c : AvuCmd) : Nat := c.w 5 55 52

/-- R209: bytes of a row of D elements of a format. -/
def headBytes (fmt d : Nat) : Nat := if fmt = 6 then 2 * d else d
/-- R209: positions of a page. -/
def pageTokens (fmt d : Nat) : Nat := 0x8000 / headBytes fmt d
/-- R209, R220: the element formats of keys, values and queries. -/
def kvFmtOk (f : Nat) : Bool := f == 0 || f == 1 || f == 6

def AvuCmd.p (c : AvuCmd) : Nat := pageTokens c.kvFmt c.headDim

/-- R223: REJECT_FORMAT. -/
def AvuCmd.attnBadFormat (c : AvuCmd) : Bool :=
  !kvFmtOk c.kvFmt || !kvFmtOk c.qFmt || decide (4 < c.finFmt) || !expMultOk c.scoreMult

/-- R223: REJECT_SHAPE in the words of the command. -/
def AvuCmd.attnBadShape (c : AvuCmd) : Bool :=
  c.mask == 0 || c.init || c.autoExport || c.w 0 48 48 != 0 || c.dCode == 3 || decide (24 < c.blkLog2) ||
  c.w 3 63 56 != 0 || c.w 3 47 23 != 0 || c.w 4 31 0 != 0 || c.w 5 63 56 != 0 || c.w 5 51 0 != 0 ||
  c.w 6 63 0 != 0 || c.w 7 63 23 != 0

/-- R223: REJECT_ALIGN in the words of the command. -/
def AvuCmd.attnBadAlign (c : AvuCmd) : Bool :=
  c.batchOff % 32 != 0 || (c.complete && c.compAddr % 16 != 0) || c.seqTable % 64 != 0

/-! ## The batch list (R221) -/

/-- R221: a batch entry as it lies in the pantry. -/
structure BatchEntry where
  seq : Nat
  epoch : Nat
  rows : Nat
  first : Nat
  run : Nat
  flags : Nat
  reserved : Nat
  qOff : Nat
  maskOff : Nat
  outOff : Nat

/-- Bytes of a list as a number. -/
def numAt (l : List Byte) (off n : Nat) : Nat := ofBytes ((l.drop off).take n)

def parseBatch (l : List Byte) : BatchEntry :=
  ⟨numAt l 0 4, numAt l 4 2, numAt l 6 2, numAt l 8 4, numAt l 0xC 1, numAt l 0xD 1, numAt l 0xE 2 + numAt l 0x1C 4,
    numAt l 0x10 4, numAt l 0x14 4, numAt l 0x18 4⟩

def BatchEntry.final (e : BatchEntry) : Bool := e.flags % 2 == 1

/-- R221: entry j of the batch list lies in the pantry. -/
def AvuCmd.batchInPantry (c : AvuCmd) (j : Nat) : Bool := decide (c.batchOff + 32 * (j + 1) ≤ pantrySize)

/-- The batch entries that lie in the pantry and read clean. -/
def State.batchList (s : State) (r : Nat) (c : AvuCmd) : List (Option BatchEntry) :=
  (List.range c.batchCount).map fun j =>
    let k := pantryKey r (c.batchOff + 32 * j)
    if c.batchInPantry j && !s.rangePoisoned k 32 then some (parseBatch (s.bytesAt k 32)) else none

/-- R223: some entry in the pantry reads poisoned. -/
def State.batchPoisoned (s : State) (r : Nat) (c : AvuCmd) : Bool :=
  (List.range c.batchCount).any fun j => c.batchInPantry j && s.rangePoisoned (pantryKey r (c.batchOff + 32 * j)) 32

/-- R223: REJECT_SHAPE in a batch entry. -/
def AvuCmd.entryBadShape (c : AvuCmd) (e : BatchEntry) : Bool :=
  e.rows == 0 || decide (256 < e.rows) || decide (c.blkLog2 < e.run) || e.first % 2 ^ e.run != 0 ||
  decide (2 ^ c.blkLog2 < e.first + 2 ^ e.run) || decide (1 < e.flags) || e.reserved != 0 ||
  (e.final && (e.first != 0 || e.run != c.blkLog2))

/-- R223: REJECT_ALIGN in a batch entry. -/
def BatchEntry.badAlign (e : BatchEntry) : Bool := e.qOff % 16 != 0 || e.maskOff % 8 != 0 || e.outOff % 16 != 0

/-- R223: REJECT_RANGE in a batch entry. -/
def AvuCmd.entryBadRange (c : AvuCmd) (e : BatchEntry) : Bool :=
  decide (pantrySize < e.qOff + e.rows * headBytes c.qFmt c.headDim) || decide (pantrySize < e.maskOff + e.rows * 8) ||
  decide (pantrySize < e.outOff + e.rows * c.outRow e.final) || decide (1048576 ≤ e.seq)

/-- R222: the sum over the entries of what is broadcast. -/
def AvuCmd.attnBroadcast (c : AvuCmd) (l : List BatchEntry) : Nat :=
  l.foldl (fun n e => n + e.rows * (headBytes c.qFmt c.headDim + 8)) 0

/-! ## Sequences and rows (R213–R219) -/

/-- R213: bytes 0x00 to 0x1F of an entry of the sequence table. -/
structure SeqEntry where
  key : Nat
  epoch : Nat
  state : Nat
  prov : Nat
  len : Nat
  kvVa : Nat
  provVa : Nat
  /-- R214: the addresses were changed out of turn, and the pages that they name are free values of this number -/
  kvFree : Option Nat := none
  provFree : Option Nat := none
  deriving Inhabited

/-- R211, R214: the virtual address of page n of the committed region. -/
def SeqEntry.kvPage (q : SeqEntry) (n : Nat) : Nat :=
  match q.kvFree with
  | some f => (Config.freeWord f (2 ^ 41 + n)).toNat / 0x10000 * 0x10000
  | none => (q.kvVa + n * 0x10000) % 2 ^ 64

/-- R212, R214: the virtual address of page n of the provisional region. -/
def SeqEntry.provPage (q : SeqEntry) (n : Nat) : Nat :=
  match q.provFree with
  | some f => (Config.freeWord f (2 ^ 42 + n)).toNat / 0x10000 * 0x10000
  | none => (q.provVa + n * 0x10000) % 2 ^ 64

def parseSeq (l : List Byte) : SeqEntry :=
  ⟨numAt l 0 4, numAt l 4 2, numAt l 6 1, numAt l 7 1, numAt l 8 4, numAt l 0x10 8, numAt l 0x18 8, none, none⟩

/-- R214: an entry as a command of this number reads it: an address that was changed out of turn names free pages. -/
def State.openSeq (s : State) (n : Nat) (p : Place) (q : SeqEntry) : SeqEntry :=
  let both := s.disturbed (.seq n (placeKey0 p))
  let prov := both || s.disturbed (.prov (placeKey0 p))
  { q with
    kvVa := if both then 0 else q.kvVa, kvFree := if both then some s.free else none
    provVa := if prov then 0 else q.provVa, provFree := if prov then some s.free else none }

/-- R213: the place of an entry of the table, in TYPE 0 or TYPE 2 of the own device. -/
def State.seqPlaceOf (s : State) (r : Nat) (a : Authority) (va : Nat) : Option Place :=
  match s.translate r a .read .load (BitVec.ofNat 64 va) with
  | .error _ => none
  | .ok x =>
    match s.placeFor r x.pa 64 with
    | .attic q false o => some (.attic q false o)
    | .pantry q o => some (.pantry q o)
    | _ => none

/-- R213, R215: an entry of the table; none where the read fails or is poisoned. -/
def State.readSeq (s : State) (r : Nat) (a : Authority) (n va : Nat) : Option SeqEntry :=
  match s.seqPlaceOf r a va with
  | none => none
  | some p => (match s.memRead p 32 with
    | .data l => some (s.openSeq n p (parseSeq l)) | _ => none)

/-- R162: what the read of an entry leaves behind: an access to an unusable bank recorded. -/
def State.noteSeq (s : State) (r : Nat) (a : Authority) (va : Nat) : State :=
  match s.seqPlaceOf r a va with
  | none => s.noteWalk r a .read (BitVec.ofNat 64 va)
  | some p => s.afterRead p 32

/-- The number of 1 bits among the low n. -/
def popCount (n x : Nat) : Nat := (List.range n).foldl (fun k i => k + b2n (bitOf x i)) 0

/-- The set bits of a mask, ascending. -/
def setBits (x : Nat) : List Nat := (List.range 64).filter fun i => bitOf x i

/-- R217: the keys that a row attends to, as a count: L + popcount(mask). -/
def rowKeys (len mask : Nat) : Nat := len + popCount 64 mask

/-- R216, R217: the blocks of a row. -/
def rowBlocks (p len mask : Nat) : Nat := if rowKeys len mask = 0 then 0 else (rowKeys len mask - 1) / p + 1

/-- R217, R223: the row of an entry under its snapshot. -/
def State.attnRow (s : State) (r : Nat) (c : AvuCmd) (e : BatchEntry) (q : SeqEntry) (stale : Bool) (j : Nat) : AttnRow :=
  let mk := pantryKey r (e.maskOff + 8 * j)
  let bad := s.wordPoisoned mk
  let mask := ofBytes (s.bytesAt mk 8)
  let range := !bad && (mask / 2 ^ q.prov != 0 || decide (c.p * 2 ^ c.blkLog2 < rowKeys q.len mask))
  let n := headBytes c.qFmt c.headDim
  ⟨if bad then 0 else mask,
    if stale || bad || range then 1 + 2 * b2n bad + 4 * b2n stale + 8 * b2n (range && !stale) else 0,
    s.pbytesAt (fun i => pantryKey r (e.qOff + j * n + i)) n⟩

/-- R223: the snapshot of an entry. -/
def State.attnEntry (s : State) (r : Nat) (c : AvuCmd) (e : BatchEntry) (q : SeqEntry) : AttnEntry :=
  let stale := q.state != 1 || q.epoch != e.epoch
  ⟨(List.range e.rows).map (s.attnRow r c e q stale), q.len, e.first, e.run, e.final, e.outOff,
    match s.seqPlaceOf r c.auth ((c.seqTable + e.seq * 64) % 2 ^ 64) with | some p => placeRanges p 64 | none => []⟩

/-- The blocks of the run that row j works on. -/
def AttnEntry.rowHas (a : AttnEntry) (p : Nat) (row : AttnRow) (b : Nat) : Bool :=
  row.flags == 0 && decide (a.first ≤ b) && decide (b < a.first + 2 ^ a.runLog2) && decide (b < rowBlocks p a.len row.mask)

/-- The blocks of the run that some row works on, ascending. -/
def AttnEntry.blocks (a : AttnEntry) (p : Nat) : List Nat :=
  let n := a.rows.foldl (fun n r => if r.flags = 0 then max n (rowBlocks p a.len r.mask) else n) 0
  (List.range (min n (a.first + 2 ^ a.runLog2) - a.first)).map (a.first + ·)

/-- R216: the committed positions of a block. -/
def AttnEntry.hasCommitted (a : AttnEntry) (p b : Nat) : Bool := decide (b * p < a.len)

/-- R217: the provisional slots of a row whose positions lie in block b. -/
def AttnEntry.slotsIn (a : AttnEntry) (p b : Nat) (row : AttnRow) : List (Nat × Nat) :=
  ((setBits row.mask).zipIdx.map fun x => (x.1, a.len + x.2)).filter fun x => x.2 / p == b

/-- Some row of the entry reads provisional slots in block b. -/
def AttnEntry.hasSlots (a : AttnEntry) (p b : Nat) : Bool :=
  a.rows.any fun row => a.rowHas p row b && !(a.slotsIn p b row).isEmpty

/-! ## Dispatch (R223) -/

/-- R211: a page of the attention step: its banked offset, or none where it fails. -/
def State.attnPage (s : State) (r : Nat) (a : Authority) (va : Nat) : Option (Nat × Xlate) :=
  match s.translate r a .read .load (BitVec.ofNat 64 va) with
  | .error _ => none
  | .ok x =>
    match s.placeFor r x.pa 0x10000 with
    | .attic q true o =>
      if q = r ∧ x.av = true ∧ x.level = 0 ∧ o % 0x10000 = 0 ∧ (x.leaf.getD 2) / 2 % 2 = 1 then some (o, x) else none
    | _ => none

/-- Keys of the translated pages of an attention command: block b of entry e, and its provisional page. -/
def attnPageKey (e : Nat) (b : Option Nat) : Nat := e * 2 ^ 26 + (match b with | some b => b + 1 | none => 0)

/-- R211, R212: the virtual addresses of the page of a block and of the provisional page. -/
def AvuCmd.pageVa (c : AvuCmd) (q : SeqEntry) (b : Nat) : Nat := q.kvPage (c.lh * 2 ^ c.blkLog2 + b)
def AvuCmd.provVa (c : AvuCmd) (q : SeqEntry) : Nat := q.provPage c.lh

/-- The pages that an entry needs: key and virtual address. -/
def AvuCmd.pagesNeeded (c : AvuCmd) (e : Nat) (a : AttnEntry) (q : SeqEntry) : List (Nat × Nat) :=
  ((a.blocks c.p).filter (a.hasCommitted c.p)).map (fun b => (attnPageKey e (some b), c.pageVa q b)) ++
  (if (a.blocks c.p).any (a.hasSlots c.p) then [(attnPageKey e none, c.provVa q)] else [])

/-- A status with its bank and address, as a check finds it. -/
abbrev Finding := Nat × Nat × Nat

/-- R223: what the translation of needed pages finds: the pages, and the findings. -/
def State.attnPages (s : State) (r : Nat) (c : AvuCmd) : List (Nat × Nat) → Tab Nat × List Xlate × List Finding
  | [] => ([], [], [])
  | (k, va) :: t =>
    let (l, xs, f) := s.attnPages r c t
    match s.attnPage r c.auth va with
    | none => (l, xs, (0x23, 0, va) :: f)
    | some (o, x) =>
      let b := atticBank true o
      let f := if !bitOf (s.room r).cond.bankMap b then (0x22, b, va) :: f
        else if !bitOf c.mask b then (0x23, b, va) :: f else f
      ((k, o) :: l, x :: xs, f)

/-- R219: the tail rule broken in a block of an entry. -/
def AvuCmd.tailFinding (c : AvuCmd) (pages : Tab Nat) (e : Nat) (a : AttnEntry) (q : SeqEntry) : List Finding :=
  (a.blocks c.p).flatMap fun b =>
    match tget (attnPageKey e (some b)) pages, tget (attnPageKey e none) pages with
    | some o, some v =>
      if a.hasCommitted c.p b && a.hasSlots c.p b && atticBank true o != atticBank true v
      then [(0x23, atticBank true v, c.provVa q)] else []
    | _, _ => []

/-- R226: the work of an entry: its blocks in order, and in each the rows that have it. -/
def AvuCmd.attnWork (c : AvuCmd) (pages : Tab Nat) (e : Nat) (a : AttnEntry) : List AttnItem :=
  (a.blocks c.p).flatMap fun b =>
    let o := tgetD pages (attnPageKey e (if a.hasCommitted c.p b then some b else none)) 0
    ((a.rows.zipIdx).filter fun p => a.rowHas c.p p.1 b).map fun p => ⟨e, b, p.2, atticBank true o⟩

/-- The finding that decides: the first status in the order of R202. -/
def firstFinding (l : List Finding) : Option Finding :=
  [0x11, 0x12, 0x13, 0x22, 0x23, 0x14].findSome? fun st => l.find? fun f => f.1 == st

/-- R223: an entry at dispatch, with its number: its snapshot and pages, or its findings. -/
structure EntryScan where
  entry : AttnEntry
  pages : Tab Nat
  fills : List Xlate
  found : List Finding
  work : List AttnItem

def State.scanEntry (s : State) (r : Nat) (c : AvuCmd) (j : Nat) (e : BatchEntry) : EntryScan :=
  let va := (c.seqTable + e.seq * 64) % 2 ^ 64
  let nothing : AttnEntry := ⟨[], 0, 0, 0, false, e.outOff, []⟩
  let range : List Finding := if c.entryBadRange e then [(0x14, 0, 0)] else []
  if c.entryBadShape e then ⟨nothing, [], [], [(0x12, 0, 0)], []⟩
  else if e.badAlign then ⟨nothing, [], [], [(0x13, 0, 0)], []⟩
  else if 1048576 ≤ e.seq then ⟨nothing, [], [], range, []⟩
  else match s.readSeq r c.auth c.guard va with
    | none => ⟨nothing, [], [], (0x23, 0, va) :: range, []⟩
    | some q =>
      let a := s.attnEntry r c e q
      let bases : List Finding := (if q.kvVa % 0x10000 != 0 then [(0x23, 0, q.kvVa)] else []) ++
        (if q.provVa % 0x10000 != 0 then [(0x23, 0, q.provVa)] else [])
      let (pages, xs, f) := if bases.isEmpty then s.attnPages r c (c.pagesNeeded j a q) else ([], [], [])
      ⟨a, pages, xs, bases ++ f ++ c.tailFinding pages j a q ++ range, c.attnWork pages j a⟩

/-- R223: the findings that a batch as a whole gives. -/
def State.batchFindings (s : State) (r : Nat) (c : AvuCmd) (l : List BatchEntry) : List Finding :=
  (if 32768 < c.attnBroadcast l then [(0x12, 0, 0)] else []) ++ (if c.attnBadAlign then [(0x13, 0, 0)] else []) ++
  (if s.batchPoisoned r c then [(0x23, 0, 0)] else []) ++
  (if decide (pantrySize < c.batchOff + 32 * c.batchCount) || (c.complete && decide (pantrySize < c.compAddr + 16))
    then [(0x14, 0, 0)] else [])

/-- R243: a KVPUT, COMMIT or ROLLBACK of the tree queue entered before the command. -/
def TreeCmd.op (c : TreeCmd) : Nat := fld (wordN c.words 0) 55 52
def TreeCmd.holdsAttn (t : TreeCmd) : Bool := !t.poisoned && (t.op == 4 || t.op == 7 || t.op == 8)
def State.attnHeld (s : State) (r : Nat) (c : AvuCmd) : Bool :=
  (s.tree r).queue.any fun t => t.holdsAttn && decide (t.entered < c.entered)

/-- R216, R226: the positions of a row in a block: page and slot, committed first. -/
def AvuCmd.positions (c : AvuCmd) (item : AttnItem) (a : AttnEntry) (row : AttnRow) : List (Nat × Nat) :=
  let committed := (List.range (min c.p (a.len - item.blk * c.p))).map fun i =>
    (tgetD c.pages (attnPageKey item.entry (some item.blk)) 0, i)
  committed ++ (a.slotsIn c.p item.blk row).map fun x => (tgetD c.pages (attnPageKey item.entry none) 0, x.1)

/-- R234: the keys of the key and value slots that a row over a block reads. -/
def AvuCmd.itemRanges (c : AvuCmd) (r : Nat) (x : AttnItem) : List (Nat × Nat) :=
  let n := headBytes c.kvFmt c.headDim
  let a := c.attn.getD x.entry ⟨[], 0, 0, 0, false, 0, []⟩
  (c.positions x a (a.rows.getD x.row ⟨0, 0, []⟩)).flatMap fun p =>
    placeRanges (.attic r true (p.1 + p.2 * n)) n ++ placeRanges (.attic r true (p.1 + 0x8000 + p.2 * n)) n

/-- R234: the keys of the slots and sequence entries that a dispatched command names. -/
def AvuCmd.attnRanges (c : AvuCmd) (r : Nat) : List (Nat × Nat) :=
  c.work.flatMap (c.itemRanges r) ++ c.attn.flatMap (·.seq)

/-- R223: the entries of a batch as they stand now. -/
def State.attnScan (s : State) (r : Nat) (c : AvuCmd) : List EntryScan :=
  (s.batchList r c).zipIdx.filterMap fun p => p.1.map fun e => s.scanEntry r c p.2 e

/-- R223: the command with the snapshot of its entries. -/
def AvuCmd.withScans (c : AvuCmd) (scans : List EntryScan) : AvuCmd :=
  { c with pages := scans.flatMap (·.pages), attn := scans.map (·.entry), work := scans.flatMap (·.work) }

/-- R191, R234: the keys of the slots and sequence entries that an attention command names, as they stand now. -/
def State.attnNames (s : State) (r : Nat) (c : AvuCmd) : List (Nat × Nat) :=
  if c.attnBadFormat || c.attnBadShape then []
  else (c.withScans (s.attnScan r c)).attnRanges r ++ (s.attnSeqs r c).flatMap fun p => placeRanges p 64

/-- R162: what the reads of the sequence entries leave behind. -/
def State.noteSeqs (s : State) (r : Nat) (c : AvuCmd) : State :=
  ((s.batchList r c).filterMap id).foldl (fun s e => s.noteSeq r c.auth ((c.seqTable + e.seq * 64) % 2 ^ 64)) s

/-- R163: the homes of the sequence entries take the dispatcher's reads now. -/
def State.seqsOpen (s : State) (r : Nat) (c : AvuCmd) : Bool :=
  ((s.batchList r c).filterMap id).all fun e =>
    match s.seqPlaceOf r c.auth ((c.seqTable + e.seq * 64) % 2 ^ 64) with
    | some p => s.homeRuns 2 p 32
    | none => true

/-- R223: the dispatch of an attention command that nothing holds. From here its guard is over what its snapshot names (R234). -/
def State.attnDispatch (s : State) (r i : Nat) (c : AvuCmd) : State :=
  let l := s.batchList r c
  let scans := s.attnScan r c
  match firstFinding (s.batchFindings r c (l.filterMap id) ++ scans.flatMap (·.found)) with
  | some (st, b, va) => (s.noteSeqs r c).avuReject r i c st b va
  | none =>
    let d := { c.withScans scans with dispatched := true, ran := true }
    (((s.noteSeqs r c).fillAll r (scans.flatMap (·.fills))).setAvuCmd r i d).moveGuard (.work c.guard) r (d.attnRanges r)

def execAttnDispatch (r : RoomIx) (s : State) : Result :=
  match (s.avu r.val).nextCmd with
  | none => .next s
  | some (i, c) =>
    if c.op ≠ 2 ∨ s.avusRun r.val = false then .next s
    else if c.attnBadFormat then .next (s.avuReject r.val i c 0x11 0 0)
    else if c.attnBadShape then .next (s.avuReject r.val i c 0x12 0 0)
    else whenReady (!s.attnHeld r.val c && c.banks.all (s.avu r.val).bufferFree && s.stairRuns r.val && s.seqsOpen r.val c) s
      (s.attnDispatch r.val i c)

/-! ## sz.avu (R144) -/

def execSzAvu (h : HartId) (w : W32) (s : State) : Result :=
  szRun h w (szIs custom1 0x1D w) s fun s =>
    let r := h.room.val
    s.withDescriptor h ((s.hart h).reg (szRs1 w)) 64 fun words t =>
      let a := t.avu r
      if 16 ≤ a.queue.length then t.result h (szRd w) (2 ^ 63)
      else
        let c : AvuCmd := { words, auth := (s.hart h).authority h.hart.val, entered := a.entered, guard := t.newGuard }
        (((t.result h (szRd w) ((t.regN .avuDoneCount r + a.queue.length + 1) % 2 ^ 32)).setGuard (.work c.guard) r (if c.op = 2 then t.attnNames r c else t.avuRanges r c)).guardSeqs
          c.guard r (t.attnSeqs r c)).modAvu r fun a => { a with queue := a.queue ++ [c], entered := a.entered + 1 }

/-! ## The arithmetic of a block (R224–R226) -/

/-- R226: an element as its FP32 value. -/
def elemFp32 (fmt code : Nat) : Nat :=
  match elemValue fmt code with
  | .nan => fp32.cnan
  | .inf s => fp32.signBit s + fp32.infCode
  | .fin s m e => fp32Round s m e

/-- R210: the key (or value) of a slot of a page of the own attic's banked view. -/
def State.kvRow (s : State) (r : Nat) (c : AvuCmd) (page slot : Nat) (value : Bool) : List PByte :=
  let n := headBytes c.kvFmt c.headDim
  match s.pread (.attic r true (page + (if value then 0x8000 else 0) + slot * n)) n with
  | .ok l => l
  | .error _ => []

/-- R224: the score of a query row against a key: code and flags. -/
def AvuCmd.score (c : AvuCmd) (q key : List PByte) : Nat × Nat :=
  fp32.exportXa ((List.range c.headDim).foldl (fun x k =>
    Xa.add x (scaledProduct (scaledElem c.qFmt (c.w 1 39 32) q k none) (scaledElem c.kvFmt (c.w 1 55 48) key k none) c.ew)) {})
    c.ew c.scoreMult

/-- R226: one position folded into the running record. -/
def lseFold (a : LseRecord) (t : Nat) (fl : Nat) (v : List Nat) : LseRecord :=
  if a.flags % 2 = 1 then { flags := 0, arith := a.arith ||| fl, m := t, l := 0x3F800000, blocks := 1, o := v }
  else
    let m2 := fp32Max a.m t
    let alpha := fp32Exp2 (fp32Sub a.m m2)
    let w := fp32Exp2 (fp32Sub t m2)
    { a with
      arith := a.arith ||| fl
      m := m2
      l := fp32Fma a.l alpha w
      o := (a.o.zip v).map fun p => fp32Fma w p.2 (fp32Mul p.1 alpha) }

/-- R226: the partial of a row over a block; where a word is poisoned its values are unspecified, its arithmetic flags among them
(DEDUCED). -/
def State.blockPartial (s : State) (r : Nat) (c : AvuCmd) (item : AttnItem) (a : AttnEntry) (row : AttnRow) : LseRecord :=
  let ps := c.positions item a row
  let bad := row.query.any (·.2) || ps.any fun p => (s.kvRow r c p.1 p.2 false).any (·.2) || (s.kvRow r c p.1 p.2 true).any (·.2)
  if bad then
    { flags := 2, arith := s.freeFlags 1, blocks := 1
      m := (Config.freeWord s.free 2).toNat % 2 ^ 32, l := (Config.freeWord s.free 3).toNat % 2 ^ 32
      o := (List.range c.headDim).map fun i => (Config.freeWord s.free (4 + i)).toNat % 2 ^ 32 }
  else ps.foldl (fun acc p =>
    let t := c.score row.query (s.kvRow r c p.1 p.2 false)
    let v := s.kvRow r c p.1 p.2 true
    lseFold acc t.1 t.2 ((List.range c.headDim).map fun i => elemFp32 c.kvFmt (elemIn c.kvFmt v i).1)) {}

/-- R233: the beats of the sweep that row j of a block begins: those of two rows together. -/
def AvuCmd.sweepBeats (c : AvuCmd) (item : AttnItem) (a : AttnEntry) : Nat :=
  let rows := (a.rows.zipIdx).filter fun p => a.rowHas c.p p.1 item.blk
  match rows.findIdx? (·.2 == item.row) with
  | some i =>
    if i % 2 = 0 then
      let ps := ((rows.drop i).take 2).flatMap fun p => c.positions item a p.1
      (ps.foldl (fun l p => if l.contains p then l else p :: l) []).length * (2 * headBytes c.kvFmt c.headDim / 32)
    else 0
  | none => 0

/-- R226: the next row and block of the step that the AVU of a bank holds, with the uncorrectable words of its buffer (R205). -/
def State.attnBlock (s : State) (r i : Nat) (c : AvuCmd) (b : Nat) (faults : List AvuFault) : State :=
  match c.work.find? fun w => w.bank == b with
  | none => s
  | some w =>
    match c.attn[w.entry]? with
    | none => s
    | some a =>
      match a.rows[w.row]? with
      | none => s
      | some row =>
        ((s.bumpReg .avuBeatCount r 64 (c.sweepBeats w a)).setAvuCmd r i
          { c with
            work := c.work.erase w
            partials := c.partials ++ [(w, s.blockPartial r c w a { row with query := spoilBuffer row.query faults })] }).bump

/-- R205: what the AVU of a bank reads there for its next row and block, as ranges of within-bank offsets. -/
def AvuCmd.attnReads (c : AvuCmd) (b : Nat) : List (Nat × Nat) :=
  match c.work.find? fun w => w.bank == b with
  | none => []
  | some w => (c.itemRanges 0 w).map fun p => (p.1 % bankSize, p.1 % bankSize + (p.2 - p.1))

def execAvuAttnBlock (r : RoomIx) (x : AvuRun) (s : State) : Result :=
  let b := x.bank
  match (s.avu r.val).running b.val with
  | some (i, c) =>
    whenReady (c.op == 2 && s.avusRun r.val) s
      ((s.avuFaults r.val b.val (c.attnReads b.val) [] x.faults).attnBlock r.val i c b.val x.faults)
  | none => .next s

/-! ## The merge unit (R227–R232) -/

/-- R228: two records merged, the first preceding the second. -/
def lseStep (a b : LseRecord) : LseRecord :=
  let flags := (a.flags ||| b.flags) / 2 * 2 + a.flags % 2 * (b.flags % 2)
  let arith := a.arith ||| b.arith
  if a.flags % 2 = 1 then { b with flags, arith }
  else if b.flags % 2 = 1 then { a with flags, arith }
  else
    let m := fp32Max a.m b.m
    let alpha := fp32Exp2 (fp32Sub a.m m)
    let beta := fp32Exp2 (fp32Sub b.m m)
    { flags, arith, m
      l := fp32Fma b.l beta (fp32Mul a.l alpha)
      blocks := (a.blocks + b.blocks) % 2 ^ 32
      o := (a.o.zip b.o).map fun p => fp32Fma p.2 beta (fp32Mul p.1 alpha) }

/-- R229: the partials of a row in block order, merged in the tree of R44. -/
def AvuCmd.rowRecord (c : AvuCmd) (e j : Nat) (row : AttnRow) : LseRecord :=
  let ps := c.partials.filter fun p => p.1.entry == e && p.1.row == j
  let blks := ps.foldl (fun l p => ninsert p.1.blk l) []
  let recs := blks.filterMap fun b => (ps.find? fun p => p.1.blk == b).map (·.2)
  match orderedReduce lseStep recs with
  | some x => { x with flags := x.flags ||| row.flags }
  | none => { flags := 1 ||| row.flags, o := List.replicate c.headDim 0 }

/-- R227: the 16-byte header of a record. -/
def LseRecord.header (x : LseRecord) (d : Nat) : List Byte :=
  toBytes 2 d ++ toBytes 1 x.flags ++ toBytes 1 x.arith ++ toBytes 4 x.m ++ toBytes 4 x.l ++ toBytes 4 x.blocks

def LseRecord.bytes (x : LseRecord) (d : Nat) : List Byte := x.header d ++ x.o.flatMap (toBytes 4)

/-- R232: 2^(V_SCALE − 127) as FP32; a NaN scale is a NaN. -/
def scaleFp32 (v : Nat) : Nat := match e8m0 v with | some k => fp32Round false 1 k | none => fp32.cnan

/-- R232: the finalised elements of a record: bytes of each, and the flags of the conversions. -/
def AvuCmd.finalise (c : AvuCmd) (x : LseRecord) : List Byte × Nat :=
  let vs := x.o.map fun o => (exportFmt c.finFmt).convert (fp32Mul (fp32Div o x.l) (scaleFp32 (c.w 1 47 40)))
  (vs.flatMap fun v => toBytes (exportSize c.finFmt) v.1, vs.foldl (fun f v => f ||| v.2) 0)

/-- R231, R232: the output row of a record. -/
def AvuCmd.outputRow (c : AvuCmd) (final : Bool) (x : LseRecord) : List Byte × Nat :=
  if final then
    let f := c.finalise x
    ({ x with arith := x.arith ||| f.2 }.header c.headDim ++ f.1, x.arith ||| f.2)
  else (x.bytes c.headDim, x.arith)

/-- R229, R231: the merge unit writes the row of an entry once every partial of the row is formed. -/
def State.mergeRow (s : State) (r i : Nat) (c : AvuCmd) (e j : Nat) (a : AttnEntry) (row : AttnRow) : State :=
  let x := c.rowRecord e j row
  let out := c.outputRow a.final x
  ((s.writePantry r (a.outOff + j * c.outRow a.final) out.1).setAvuCmd r i
    { c with rowsDone := (e, j) :: c.rowsDone, arith := c.arith ||| out.2, poisoned := c.poisoned || bitOf x.flags 1 }).bump

def execMergeUnitRecord (r : RoomIx) (entry row : Fin 256) (s : State) : Result :=
  match (s.avu r.val).queue.zipIdx.find? fun p => p.1.dispatched && p.1.op == 2 && p.1.status == 0 && !p.1.finished with
  | none => .next s
  | some (c, i) =>
    match c.attn[entry.val]? with
    | none => .next s
    | some a =>
      match a.rows[row.val]? with
      | none => .next s
      | some q =>
        whenReady (!c.rowsDone.contains (entry.val, row.val) && !c.work.any (fun w => w.entry == entry.val && w.row == row.val) &&
            s.stairRuns r.val) s
          (s.mergeRow r.val i c entry.val row.val a q)

/-! ## The end of a command whose bytes software has stored to (R191, R234) -/

/-- R234: a row of an attention step that such a store affects: to one of the slots that it reads, or to its sequence entry. -/
def AvuCmd.rowHit (c : AvuCmd) (r : Nat) (stores : List (Nat × Nat)) (e j : Nat) (a : AttnEntry) : Bool :=
  rangesMeet stores a.seq ||
  (c.partials.filter fun p => p.1.entry == e && p.1.row == j).any fun p => rangesMeet stores (c.itemRanges r p.1)

/-- The rows of an attention step: entry and row numbers, with what they are. -/
def AvuCmd.attnRows (c : AvuCmd) : List (Nat × Nat × AttnEntry × AttnRow) :=
  c.attn.zipIdx.flatMap fun p => p.1.rows.zipIdx.map fun q => (p.2, q.2, p.1, q.1)

/-- R234: the outputs of the affected rows hold unspecified values, and so do their parts of the flags and of the status. -/
def State.attnSettle (s : State) (r : Nat) (c : AvuCmd) : State × AvuCmd :=
  let stores := s.guardStores (.work c.guard)
  let hit := c.attnRows.filter fun x => c.rowHit r stores x.1 x.2.1 x.2.2.1
  let kept := c.attnRows.filter fun x => !c.rowHit r stores x.1 x.2.1 x.2.2.1
  let flags := kept.foldl (fun f x => f ||| (c.outputRow x.2.2.1.final (c.rowRecord x.1 x.2.1 x.2.2.2)).2) 0
  let poisoned := kept.any fun x => bitOf (c.rowRecord x.1 x.2.1 x.2.2.2).flags 1
  if hit.isEmpty then (s, c)
  else
    ((s.spoilRanges (hit.map fun x =>
        let k := pantryKey r (x.2.2.1.outOff + x.2.1 * c.outRow x.2.2.1.final)
        (k, k + c.outRow x.2.2.1.final))).bump,
      { c with arith := flags ||| s.freeFlags 2510, poisoned := poisoned || Config.freeBool s.free 2511 })

/-- R191, R234: software has stored to a range of a command before its end, or the command has used results that are unspecified: so
are its own. -/
def State.avuSettle (s : State) (r : Nat) (c : AvuCmd) : State × AvuCmd :=
  if c.status = 0 ∧ (s.disturbed (.work c.guard) ∨ c.spoiled) then
    (if c.op = 2 then s.attnSettle r c
    else ((s.avuSpoil r c).avuTaint r c,
      { c with
        arith := if c.exports then s.freeFlags 2510 else c.arith
        poisoned := if c.exports || c.op == 4 then Config.freeBool s.free 2511 else c.poisoned }))
  else (s, c)

/-- R193, R203: the command at the head completes once every AVU that it names has finished. -/
def execAvuCommandComplete (r : RoomIx) (s : State) : Result :=
  match (s.avu r.val).queue with
  | [] => .next s
  | c :: _ => whenReady c.finished s ((s.avuSettle r.val c).1.avuFinish r.val (s.avuSettle r.val c).2)

end Sys2Proof.Machine
end

