-- ==== Sys2Proof/Machine/Attic.lean ====
section
/-! DEFINITION. The attic controller: its queue, its checks, refresh, and the stair's relock, recalibration and training
(R158–R183). -/
namespace Sys2Proof.Machine

/-- A temperature of quarters of °C as °C in 8 bits, rounded down (DEDUCED) and saturating at 0 and 255. -/
def tempByte (t : Int) : Nat := min 255 (t / 4).toNat

/-- R168: a layer's sensor. -/
def AtticB.layer (a : AtticB) (l : Nat) : Int := if l = 0 then a.temps.1 else if l = 1 then a.temps.2.1 else a.temps.2.2
/-- R168, R415: the attic temperature: the maximum of the valid layers. -/
def AtticB.temp (a : AtticB) : Int :=
  ((List.range 3).filter fun l => !a.bad.contains l).foldl (fun m l => max m (a.layer l)) (-160)

/-- R173: the group of a lane, and the half that a group lies in (R10). -/
def laneGroup (l : Nat) : Nat := l / 32
def groupHalf (g : Nat) : Nat := if g < 64 then g / 32 else (g - 64) / 4

/-- R174: failed lanes of a group. -/
def AtticB.failedIn (a : AtticB) (g : Nat) : Nat := (a.failedLanes.filter fun l => laneGroup l == g).length

/-- R20, R174: spare lanes in use, and groups with more failed lanes than spares. -/
def AtticB.sparesUsed (a : AtticB) : Nat := ((List.range 72).filter fun g => decide (0 < a.failedIn g)).length
def AtticB.groupsShort (a : AtticB) : Nat := ((List.range 72).filter fun g => decide (1 < a.failedIn g)).length
def AtticB.halfShort (a : AtticB) (h : Nat) : Bool := (List.range 72).any fun g => groupHalf g == h && decide (1 < a.failedIn g)

/-- R184: ATTIC_STATUS. -/
def AtticB.status (a : AtticB) : Nat :=
  tempByte a.temp * 2 ^ 48 + tempByte a.temps.2.2 * 2 ^ 40 + tempByte a.temps.2.1 * 2 ^ 32 + tempByte a.temps.1 * 2 ^ 24 +
  a.band * 2 ^ 16 + b2n (a.phase != .running && a.phase != .stopped) * 2 ^ 13 + b2n a.stepDown * 2 ^ 12 +
  b2n a.half * 2 ^ 11 + b2n (a.half && a.halfSel) * 2 ^ 10 + a.sparesUsed


/-! ## The queue (R163, R164, R298) -/

/-- R163: the granule requests of a request, numbered from id on. -/
def atticPieces (q : AtticRequest) (id now : Nat) : List AtticReq :=
  let n := match q.data with | some l => l.length | none => q.len
  ((granules q.off n).zipIdx).map fun p =>
    { id := id + p.2, cls := q.cls.val, banked := q.banked, off := p.1.1, len := p.1.2
      op := match q.data with | some l => .write ((l.drop (p.1.1 - q.off)).take p.1.2) | none => .read
      arrived := now }

/-- R298, R301: the waiting granule request that takes a free entry next. -/
def AtticB.nextIn (a : AtticB) (q : RegQ) : Option Nat :=
  q.pick (headsReady (a.waiting.map fun x => (x.cls, x.cls, q.admits a.held x.cls)))

/-- R301: waiting granule requests take free entries, one after the other. The fuel bounds them. -/
def State.atticAdmit (r : Nat) : Nat → State → State
  | 0, s => s
  | n + 1, s =>
    let a := s.attic r
    match a.nextIn (s.regq (atticQ r)) with
    | none => s
    | some i =>
      match a.waiting[i]? with
      | none => s
      | some x => State.atticAdmit r n ((s.modAttic r fun a => { a with queue := a.queue ++ [x], waiting := a.waiting.eraseIdx i }).modRegq
          (atticQ r) fun g => { g with last := x.cls })

/-- R163, R298: granule requests enter at once where none waits and every one finds an entry; else they wait, and enter as entries
come free. -/
def State.atticEnter (s : State) (r cls : Nat) (ps : List AtticReq) : State :=
  let a := s.attic r
  let t := s.modAttic r fun a => { a with nextId := a.nextId + ps.length }
  if a.waiting.isEmpty && (s.regq (atticQ r)).admitsAll cls ps.length a.held
  then (t.modAttic r fun a => { a with queue := a.queue ++ ps }).modRegq (atticQ r) fun g => { g with last := cls }
  else State.atticAdmit r 64 (t.modAttic r fun a => { a with waiting := a.waiting ++ ps })

def execAtticRequestEnter (r : RoomIx) (q : AtticRequest) (s : State) : Result :=
  let ps := atticPieces q (s.attic r.val).nextId s.now
  let n := match q.data with | some l => l.length | none => q.len
  whenReady (decide (0 < n ∧ q.off + n ≤ atticSize) && !(s.room r.val).stalled && ((s.room r.val).reachable || (s.room r.val).boots)) s
    (s.atticEnter r.val q.cls.val ps)

/-- R164: two requests overlap in the bytes of the attic, through whatever view. -/
def AtticReq.overlaps (x y : AtticReq) : Bool := y.meets x.banked x.off x.len

/-- R160, R161: the bank of a granule request. -/
def AtticReq.bank (q : AtticReq) : Nat := atticBank q.banked q.off

/-- R164, R165, R171, R175: the request may be performed: beats cross the stair, no earlier one overlaps it, and it is the oldest
of its bank but for those that wait for a second read (R178). -/
def AtticB.mayPerform (a : AtticB) (q : AtticReq) : Bool :=
  a.phase == .running &&
    !(a.queue.takeWhile fun x => x.id != q.id).any fun x => x.overlaps q || (x.bank == q.bank && x.retry.isEmpty)

/-! ## What the checkers find (R173, R177, R178) -/

/-- R173: the lanes that carry word j of a granule: data lanes 64j to 64j + 63 and check lanes 2,048 + 8j to 2,048 + 8j + 7; in
half-width mode, those of its place on the working half. -/
def AtticB.carries (a : AtticB) (j lane : Nat) : Bool :=
  let w := if a.half then j % 16 + (if a.halfSel then 16 else 0) else j
  (if lane < 2048 then lane / 64 else (lane - 2048) / 8) == w && decide (lane < 2304)

/-- The attic offset of word j of the granule of a request. -/
def AtticReq.wordOff (q : AtticReq) (j : Nat) : Nat := q.off / 256 * 256 + 8 * j

/-- R173, R177: what was found concerns the request: the word holds some of its bytes, and a stair error lies on a lane that
carried it. Anything else has not happened. -/
def AtticReq.finds (q : AtticReq) (a : AtticB) (f : WordFault) : Bool :=
  decide (q.wordOff f.word.val < q.off + q.len ∧ q.off < q.wordOff f.word.val + 8) &&
    (match f.kind with | .stairCe | .stairUe => a.carries f.word.val f.lane | _ => true)

/-- R175: a correctable stair error counted against its lane. -/
def State.countLane (s : State) (r lane : Nat) : State :=
  s.modAttic r fun a => { a with
    laneCe := tset lane ((s.now :: tgetD a.laneCe lane []).filter fun t => decide (s.now < t + 1000000000)) a.laneCe }

/-- R175: the correctable stair errors of a lane within one second. -/
def State.laneErrors (s : State) (r lane : Nat) : Nat :=
  ((tgetD (s.attic r).laneCe lane []).filter fun t => decide (s.now < t + 1000000000)).length

/-- R179: a write covers only part of word j of its granule, so the word is read. -/
def AtticReq.narrowIn (q : AtticReq) (j : Nat) : Bool :=
  decide (q.wordOff j < q.off + q.len ∧ q.off < q.wordOff j + 8) && decide (q.wordOff j < q.off ∨ q.off + q.len < q.wordOff j + 8)

/-- R177, R465: what the bank finds in a word that it reads: corrected and counted, or poisoned and recorded once; for a
narrow write the record is that of R179. -/
def State.bankFault (s : State) (r : Nat) (q : AtticReq) (f : WordFault) : State :=
  let o := q.wordOff f.word.val
  let k := atticKey r q.banked o
  match q.op, f.kind with
  | .read, .storeCe => s.atticCe r 0 0x01 q.banked o 0xFFF
  | .read, .storeUe => s.storeUe r q.banked o
  | .write _, .storeCe => if q.narrowIn f.word.val then s.atticCe r 0 0x01 q.banked o 0xFFF else s
  | .write _, .storeUe => if q.narrowIn f.word.val then s.setPoison k true else s
  | _, _ => s

/-- R177: what the stair does to a word: corrected and counted against its lane, or, in a write, stored poisoned. -/
def State.stairFault (s : State) (r : Nat) (q : AtticReq) (f : WordFault) : State :=
  let o := q.wordOff f.word.val
  match q.op, f.kind with
  | _, .stairCe => (s.atticCe r 1 0x02 q.banked o f.lane).countLane r f.lane
  | .write _, .stairUe => (s.setPoison (atticKey r q.banked o) true).atticError r 3 3 0x04 q.banked o f.lane
  | _, _ => s

/-- R178: the words of a read that the floor finds uncorrectable. -/
def retryWords (q : AtticReq) (faults : List WordFault) : List (Nat × Nat) :=
  match q.op with
  | .write _ => []
  | .read => (faults.filter (·.kind == .stairUe)).map fun f => (f.word.val, f.lane)

/-! ## Performing a request (R164) -/

/-- R299, R301: the request leaves the queue; its latency and bytes count for its class, and one that waits takes its entry. -/
def State.atticDone (s : State) (r : Nat) (q : AtticReq) (reply : AtticReply) : State :=
  State.atticAdmit r 64 ((s.modAttic r fun a => { a with
    queue := a.queue.filter fun x => x.id != q.id, replies := lastN 64 (a.replies ++ [reply]) }).modRegq
      (atticQ r) fun g => g.complete q.cls (s.now - q.arrived) q.len)

/-- The words of a request that are delivered poisoned, by their number in the granule. -/
def State.poisonedWords (s : State) (r : Nat) (q : AtticReq) : List Nat :=
  (List.range 32).filter fun j =>
    decide (q.off / 8 * 8 ≤ q.wordOff j ∧ q.wordOff j < q.off + q.len) && s.wordPoisoned (atticKey r q.banked (q.wordOff j))

/-- R162, R164, R179: the request performed at its bank beats. -/
def State.atticAccess (s : State) (r : Nat) (q : AtticReq) : State :=
  let p := Place.attic r q.banked q.off
  let usable := s.banksUsable r q.banked q.off q.len
  match q.op with
  | .write l =>
    (s.memWrite p l).atticDone r q ⟨q.id, [], [], !usable || s.atticWriteError r q.banked q.off l⟩
  | .read =>
    (s.afterRead p q.len).atticDone r q
      (if usable then ⟨q.id, s.atticBytes r q.banked q.off q.len, q.bad ++ s.poisonedWords r q, false⟩ else ⟨q.id, [], [], true⟩)

def execAtticRequestPerform (r : RoomIx) (id : Nat) (faults : List WordFault) (s : State) : Result :=
  let a := s.attic r.val
  match a.queue.find? (·.id == id) with
  | none => .next s
  | some q =>
    let usable := s.banksUsable r.val q.banked q.off q.len
    let faults := if usable then faults.filter (q.finds a) else []
    let t := faults.foldl (fun s f => s.bankFault r.val q f) s
    let again := retryWords q faults
    let t := if again.isEmpty then t.atticAccess r.val q
      else t.modAttic r.val fun a => { a with queue := a.queue.map fun x => if x.id = id then { x with retry := again } else x }
    whenReady (a.mayPerform q && q.retry.isEmpty) s (faults.foldl (fun s f => s.stairFault r.val q f) t)

/-- R175: a group is to be recalibrated. -/
def AtticB.due (a : AtticB) (g : Nat) : AtticB := if a.recalDue.contains g then a else { a with recalDue := a.recalDue ++ [g] }

/-- R178: the second read of a word: correct, and a stair error is counted; or not, and the word is delivered poisoned and
its lane's group is to be recalibrated. -/
def State.retryWord (s : State) (r : Nat) (q : AtticReq) (word lane : Nat) (correct : Bool) : State :=
  let o := q.wordOff word
  let left := q.retry.filter fun p => p.1 != word
  let x := { q with retry := left, bad := if correct then q.bad else q.bad ++ [word] }
  let t := if correct then (s.atticCe r 1 0x02 q.banked o lane).countLane r lane
    else (s.atticError r 3 3 0x04 q.banked o lane).modAttic r (·.due (laneGroup lane))
  let t := t.modAttic r fun a => { a with queue := a.queue.map fun y => if y.id = q.id then x else y }
  if left.isEmpty then t.atticAccess r x else t

def execStairReadRetry (r : RoomIx) (id : Nat) (word : Fin 32) (correct : Bool) (s : State) : Result :=
  match (s.attic r.val).queue.find? (·.id == id) with
  | none => .next s
  | some q =>
    match q.retry.find? (·.1 == word.val) with
    | none => .next s
    | some (j, lane) => whenReady ((s.attic r.val).mayPerform q) s (s.retryWord r.val q j lane correct)

/-- R164, R180: an atomic of an atomic unit of the room, performed whole once no queued request overlaps its 64-byte granule. -/
def execAtticAtomic (r : RoomIx) (banked : Bool) (off : Nat) (op : HomeAtomic) (s : State) : Result :=
  let p := Place.attic r.val banked off
  let a := s.attic r.val
  whenReady (homeAllows op p && off % homeWidth op == 0 && decide (off + homeWidth op ≤ atticSize) && a.phase == .running &&
      !(a.queue ++ a.waiting).any (·.meets banked (off / 64 * 64) 64) && ((s.room r.val).reachable || (s.room r.val).boots) && !(s.room r.val).stalled) s
    (s.atomicPerform op p)

/-- R170: a refresh of a bank falls due: postponed up to four times, and the fifth is forced with those postponed. -/
def execAtticRefresh (r : RoomIx) (bank : Fin 48) (postpone : Bool) (s : State) : Result :=
  let n := tgetD (s.attic r.val).postponed bank.val 0
  .next (s.modAttic r.val fun a =>
    if postpone ∧ n < 4 then { a with postponed := tset bank.val (n + 1) a.postponed }
    else { a with postponed := tset bank.val 0 a.postponed, refreshes := a.refreshes + n + 1 })

/-! ## The stair (R169, R171, R173–R176) -/

/-- R169: the rate and margin of a band. -/
def AtticB.bandStep (a : AtticB) (b : Nat) : Bool := a.alwaysDown || b == 0 || b == 3
def bandMargin (b : Nat) : Nat := if b = 0 then 2 else if b = 1 then 0 else 1

/-- R171: a new band: the stair relocks if its rate or margin changes, except during a recalibration and in band A4. -/
def AtticB.enterBand (a : AtticB) (b : Nat) : AtticB :=
  let changes := a.stepDown != a.bandStep b || a.margin != bandMargin b
  { a with band := b, phase := if a.phase = .running ∧ changes = true ∧ b ≠ 4 then .relockHold else a.phase }

/-- R171, R175: the stair runs at the rate and margin of its band. -/
def AtticB.resumeStair (a : AtticB) : AtticB :=
  if a.band = 4 then { a with phase := .running }
  else { a with phase := .running, stepDown := a.bandStep a.band, margin := bandMargin a.band }

def execStairRelockHoldEnd (r : RoomIx) (s : State) : Result :=
  whenReady ((s.attic r.val).phase == .relockHold) s (s.modAttic r.val fun a => { a with phase := .relocking })

def execStairRelockEnd (r : RoomIx) (s : State) : Result :=
  whenReady ((s.attic r.val).phase == .relocking) s (s.modAttic r.val (·.resumeStair))

/-- R175, R184: the limit of correctable stair errors of a lane; 0 acts as 1. -/
def State.laneLimit (s : State) (r : Nat) : Nat := max 1 (fld (s.regN .atticCfg r) 15 8)

def execStairRecalStart (r : RoomIx) (lane : Nat) (s : State) : Result :=
  let a := s.attic r.val
  whenReady (a.phase == .running && decide (lane < 2304) &&
      (a.recalDue.contains (laneGroup lane) || decide (s.laneLimit r.val ≤ s.laneErrors r.val lane))) s
    (s.modAttic r.val fun a => { a with
      phase := .recalHold (laneGroup lane), recalDue := a.recalDue.filter (· != laneGroup lane)
      laneCe := a.laneCe.filter fun p => laneGroup p.1 != laneGroup lane })

/-- R176, R206: a room's attic is disabled in the field: its AVUs stop, their work is discarded, and requests that wait at its controller
end in error (DEDUCED). -/
def State.disableAttic (s : State) (r group : Nat) : State :=
  ((((s.avuDiscard r).modRoom r fun x => { x with cond := { x.cond with state := 5, reason := 0x13 } }).modAttic r fun a => { a with
      queue := [], waiting := [], replies := lastN 64 (a.replies ++ (a.queue ++ a.waiting).map fun q => ⟨q.id, [], [], true⟩) }).orReg .atticErr r 64).postRoom 0x13 r group

/-- R10, R176: the width of the room after training or a retrain: state, half and half selected. -/
def State.setWidth (s : State) (r : Nat) : State :=
  let a := s.attic r
  let half := a.halfShort 0 || a.halfShort 1
  (s.modAttic r fun a => { a with half := half, halfSel := half && a.halfShort 0 }).modRoom r fun x =>
    { x with cond := { x.cond with spares := a.sparesUsed, groupsShort := a.groupsShort, halfSel := half && a.halfShort 0 } }

/-- R175, R176: the end of a group's retrain with the lanes of it that failed. -/
def State.retrained (s : State) (r group : Nat) (failed : List Nat) : State :=
  let old := s.attic r
  let t := (s.modAttic r fun a => { a with
    phase := .recalPublish
    failedLanes := a.failedLanes.filter (fun l => laneGroup l != group) ++ failed }).setWidth r
  let a := t.attic r
  if a.halfShort 0 && a.halfShort 1 then t.disableAttic r group
  else if a.half && !old.half then
    ((t.modRoom r fun x => { x with cond := { x.cond with
      state := if x.cond.state = 0 then 1 else x.cond.state, reason := 0x12 } }).orReg .atticErr r 64).postRoom 0x12 r group
  else if old.failedIn group = 0 && a.failedIn group != 0 then (t.orReg .atticErr r 32).postRoom 0x11 r group
  else t

def execStairRecalRetrainEnd (r : RoomIx) (failed : List Nat) (s : State) : Result :=
  match (s.attic r.val).phase with
  | .recalHold g =>
    whenReady (failed.all fun l => laneGroup l == g) s
      (s.retrained r.val g ((s.attic r.val).failedLanes.filter (fun l => laneGroup l == g && !failed.contains l) ++ failed))
  | _ => .next s

/-- R174: the training of a stair with the lanes that failed: spares, width, or none of both halves left. -/
def State.trainStair (s : State) (r : Nat) (failed : List Nat) : State :=
  let t := (s.modAttic r fun a => { (a.resumeStair) with
    failedLanes := failed, laneCe := [], recalDue := []
    stepDown := if a.band = 4 then a.stepDown else a.bandStep a.band
    margin := if a.band = 4 then a.margin else bandMargin a.band }).setWidth r
  t

/-- R172: the hard stop: the stair and the AVUs stop, their work is aborted, and the contents are unspecified. -/
def State.hardStop (s : State) (r : Nat) : State :=
  let t := State.avuAbort 16 r s
  let t := t.forgetBytes (atticKey r true 0) atticSize
  ((t.modAttic r fun a => { a with phase := .stopped, hotLoss := true, views := [] }).orReg .atticErr r 512).postRoom 0x16 r 0

end Sys2Proof.Machine
end

