-- ==== Sys2Proof/Machine/Dw.lean ====
section
/-! DEFINITION. The dumbwaiter of rooms and doors: its programs, its steps and their completion (R260–R280). -/
namespace Sys2Proof.Machine

/-! ## Channels and what they reach -/

/-- The number of the first door channel: rooms have room × 8 + channel, doors 6,144 + door × 16 + channel. -/
def doorChan0 : Nat := 6144
def doorChan (d c : Nat) : Nat := doorChan0 + d * 16 + c
def isDoorChan (k : Nat) : Bool := decide (doorChan0 ≤ k)
def chanDoor (k : Nat) : Nat := (k - doorChan0) / 16

/-- R376: a ring whose ENABLE is 0 is DISABLED once every descriptor fetched from it has completed. -/
def State.settleSq (s : State) (q : Nat) : State :=
  if (s.sq q).enable || s.descs.any (·.sq == q) then s else s.modSq q fun x => { x with state := .disabled }

/-- R375, R381: a command that a door fetched completes: its completion waits to be written. -/
def State.complete (s : State) (id st d0 d1 : Nat) (chan : Option Nat := none) : State :=
  match s.descs.find? (·.id == id) with
  | none => s
  | some e =>
    { s with
      descs := s.descs.filter (·.id != id)
      completions := s.completions ++ [(⟨e.sq, fld (wordN e.words 0) 7 0, e.words.getD 1 0, st, d0, d1, false, chan⟩ : Completion)] }.settleSq e.sq

/-- Why a step ends its program: its status, the failing address, and what a door's command then completes with. -/
structure DwFail where
  status : Nat
  va : Nat
  door : Nat := 0x14
  deriving DecidableEq, Repr

/-- R91, R261, R385: the addresses that a door program may name. -/
def DoorLimits.allows (l : DoorLimits) (d pa n : Nat) : Bool :=
  if 2 ^ 56 < pa + n then false
  else if 6 ≤ paType pa then paType pa == 6 + d
  else decide (paType pa ≤ 2) && (l.priv || decide (l.guardBase ≤ pa ∧ pa + n ≤ l.guardBase + l.guardSize))

/-- R92, R162, R270: n bytes at this place cannot be reached. -/
def State.unreachable (s : State) (p : Place) (n : Nat) : Bool :=
  match p with
  | .attic r b o => !s.banksUsable r b o n
  | .pantry .. | .remote _ => false
  | .host d _ => !(tgetD s.doors d {}).hostUp
  | _ => true

/-- R13, R91: the place of n bytes at a physical address, as a channel reaches it. -/
def State.dwPlace (s : State) (k pa n : Nat) : Place :=
  if isDoorChan k then
    match s.place pa n with
    | .attic r b o => if s.doorReaches (chanDoor k) then .attic r b o else .absent
    | .pantry r o => if s.doorReaches (chanDoor k) then .pantry r o else .absent
    | p => p
  else s.placeFor (k / 8) pa n

/-- R263: reads require R = 1 in the leaf, whatever MXR holds. -/
def Authority.noMxr (a : Authority) : Authority := { a with mstatus := BitVec.ofNat 64 (setFld a.mstatus.toNat 19 19 0) }

/-- The program that runs on a channel. -/
def DwChan.program (c : DwChan) : DwProgram := c.queue.headD { addr := 0 }

/-- R263, R385: the places of n bytes at an address of a program. -/
def State.dwPlaces (s : State) (k : Nat) (p : DwProgram) (write : Bool) (va n : Nat) : Except DwFail (List (Place × Nat)) :=
  let check (pages : List Nat) (l : List (Place × Nat)) : Except DwFail (List (Place × Nat)) :=
    match (pages.zip l).find? fun q => s.unreachable q.2.1 q.2.2 with
    | some q => .error ⟨0x13, q.1, 0x14⟩
    | none => .ok l
  if isDoorChan k then
    (if p.limits.allows (chanDoor k) va n then check [va] [(s.dwPlace k va n, n)] else .error ⟨0x13, va, 0x12⟩)
  else
    match s.unitPlaces (k / 8) p.auth.noMxr (if write then .write else .read) (if write then .store else .load) dataType (pageList va n) with
    | .error f => .error ⟨if f.page then 0x12 else 0x13, f.va, 0x14⟩
    | .ok l => check ((pageList va n).map (·.1)) l

/-- R162: what an access that failed leaves behind: an unusable bank that it reached is recorded. -/
def State.dwNoteFail (s : State) (k : Nat) (p : DwProgram) (e : DwFail) : State :=
  if e.status ≠ 0x12 ∧ e.status ≠ 0x13 then s
  else
    let l := if isDoorChan k then Except.ok [(s.dwPlace k e.va 1, 1)]
      else s.unitPlaces (k / 8) p.auth.noMxr .read .load dataType [(e.va, 1)]
    match l with
    | .ok [(.attic q b o, _)] => if s.banksUsable q b o 1 then s else s.bankAccess q b o
    | .ok _ => s
    | .error _ => s.noteWalk (k / 8) p.auth .read (BitVec.ofNat 64 e.va)

/-- R263: software has remapped a page of these bytes since the program was queued. -/
def State.dwMoved (s : State) (k : Nat) (p : DwProgram) (va n : Nat) : Bool :=
  !isDoorChan k && (pageList va n).any fun q => { s with mem := p.tables }.mapping p.auth q.1 != s.mapping p.auth q.1

/-- R263: where the bytes of a page lay that software has remapped since. -/
def State.dwOldPlaces (s : State) (k : Nat) (p : DwProgram) (va n : Nat) : List (Place × Nat) :=
  if s.dwMoved k p va n then
    (pageList va n).filterMap fun q => ({ s with mem := p.tables }.mapping p.auth q.1).map fun pa => (s.dwPlace k pa q.2, q.2)
  else []

/-- R270: what comes of a request to another device, a free choice: 0 it is answered well, 1 it times out, 2 it ends with an access
error or ABSENT, and for a write 3 it meets an uncorrectable target. -/
def State.remoteEnd (s : State) (l : List (Place × Nat)) (n : Nat) : Nat :=
  if l.any fun q => match q.1 with | .remote _ => true | _ => false then (Config.freeWord s.free n).toNat % 4 else 0

/-- Bytes at places that can be reached. -/
def State.placesBytes (s : State) (l : List (Place × Nat)) : List PByte :=
  match s.preadAll l with | .ok b => b | .error _ => []

/-- A read of a data step. -/
def State.dwRead (s : State) (k : Nat) (p : DwProgram) (va n : Nat) : Except DwFail (List (Place × Nat)) :=
  match s.dwPlaces k p false va n with
  | .ok l =>
    (match s.remoteEnd l (2 * va) with
      | 0 => .ok l
      | 1 => .error ⟨0x14, va, 0x14⟩
      | _ => .error ⟨0x13, va, 0x14⟩)
  | e => e

/-- Where a data step writes. -/
def State.dwWritten (s : State) (k : Nat) (p : DwProgram) (va n : Nat) : Except DwFail (List (Place × Nat)) :=
  match s.dwPlaces k p true va n with
  | .ok l => if s.remoteEnd l (2 * va + 1) = 2 then .error ⟨0x13, va, 0x14⟩ else .ok l
  | e => e

/-! ## Steps (R264–R267) -/

/-- A step is its six words. -/
abbrev DwStep := List W64
def DwStep.w (t : DwStep) (j hi lo : Nat) : Nat := fld (wordN t j) hi lo
def DwStep.op (t : DwStep) : Nat := t.w 0 63 60
def DwStep.cls (t : DwStep) : Nat := t.w 0 58 56
def DwStep.ws (t : DwStep) : Nat := t.w 0 55 53
def DwStep.wd (t : DwStep) : Nat := t.w 0 52 50
def DwStep.xmode (t : DwStep) : Nat := t.w 0 49 48
def DwStep.swap (t : DwStep) : Nat := t.w 0 47 45
def DwStep.idxBytes (t : DwStep) : Nat := if t.w 0 44 44 = 1 then 8 else 4
def DwStep.rows (t : DwStep) : Nat := t.w 0 43 24 + 1
def DwStep.elems (t : DwStep) : Nat := t.w 0 23 0
def DwStep.srcPitch (t : DwStep) : Nat := t.w 3 63 32
def DwStep.dstPitch (t : DwStep) : Nat := t.w 3 31 0
def DwStep.zeroFrom (t : DwStep) (j : Nat) : Bool := (List.range (6 - j)).all fun i => wordN t (j + i) == 0

/-- R265: bits of an element width code. -/
def dwBits : Nat → Nat
  | 0 => 4 | 1 => 6 | 2 => 8 | 3 => 16 | 4 => 32 | _ => 64

/-- R265, R30: packed bytes of n elements of a width code. -/
def dwRowBytes (w n : Nat) : Nat :=
  match w with | 0 => ceilDiv n 2 | 1 => 3 * ceilDiv n 4 | w => n * (dwBits w / 8)

/-- Bytes of a destination row. -/
def DwStep.rowBytes (t : DwStep) : Nat := if t.op = 2 then 8 * t.elems else dwRowBytes t.wd t.elems
/-- Bytes of a source row. -/
def DwStep.srcBytes (t : DwStep) : Nat := dwRowBytes t.ws t.elems

/-- R274: bytes of a swap unit. -/
def swapUnit : Nat → Nat
  | 1 => 2 | 2 => 4 | 3 => 8 | 4 => 4 | 5 => 8 | _ => 1

/-- R274: where each byte of a unit comes from. -/
def swapFrom (m i : Nat) : Nat :=
  match m with
  | 1 => 1 - i | 2 => 3 - i | 3 => 7 - i
  | 4 => if i < 2 then i + 2 else i - 2
  | 5 => 6 - i / 2 * 2 + i % 2
  | _ => i

/-- R274: the bytes of a row in their order after the swap. -/
def swapRow (m : Nat) (l : List PByte) : List PByte :=
  (List.range l.length).map fun j => l.getD (j / swapUnit m * swapUnit m + swapFrom m (j % swapUnit m)) (0, false)

/-- R274: a swap that the step does not admit. -/
def DwStep.badSwap (t : DwStep) : Bool :=
  t.swap != 0 && (decide (5 < t.swap) || decide (t.wd < 2) || t.rowBytes % swapUnit t.swap != 0 ||
    wordN t 2 % swapUnit t.swap != 0 || t.dstPitch % swapUnit t.swap != 0)

/-- R265: TC0 and TC7 are not for user-mode programs. -/
def DwStep.badClass (t : DwStep) (k : Nat) (p : DwProgram) : Bool :=
  !isDoorChan k && p.auth.level == .user && (t.cls == 0 || t.cls == 7)

/-- R264, R265, R274: a data step that gives BAD_STEP. -/
def DwStep.badData (t : DwStep) (k : Nat) (p : DwProgram) : Bool :=
  t.elems == 0 || t.badClass k p || t.badSwap || decide (5 < t.ws) || decide (5 < t.wd) || t.xmode == 3 ||
  (match t.op with
    | 1 => t.w 0 44 44 != 0 || !t.zeroFrom 4
    | 2 => t.ws != 0 || t.wd != 0 || t.xmode != 0 || t.swap != 0 || t.w 0 44 44 != 0 || !t.zeroFrom 4
    | _ => false)

/-- R272: one element converted. -/
def dwConvert (mode ws wd x : Nat) : Nat :=
  if wd ≤ ws then (if mode = 2 then x / 2 ^ (ws - wd) else x % 2 ^ wd)
  else match mode with
    | 0 => x
    | 1 => unsg wd (sgn ws x)
    | _ => x * 2 ^ (wd - ws)

/-- The element i of w bits of a row read as one number. -/
def rowElem (x w i : Nat) : Nat := x / 2 ^ (w * i) % 2 ^ w

/-- A byte range of a row is poisoned in part: the bytes that bits [lo, lo + n) touch. -/
def bitsPoisoned (l : List PByte) (lo n : Nat) : Bool :=
  ((l.drop (lo / 8)).take ((lo + n - 1) / 8 - lo / 8 + 1)).any (·.2)

/-- R272: a row repacked, with the poison of its elements. -/
def DwStep.repack (t : DwStep) (l : List PByte) : List PByte :=
  let ws := dwBits t.ws
  let wd := dwBits t.wd
  let x := ofBytes (l.map (·.1))
  let y := (List.range t.elems).foldl (fun y i => y + dwConvert t.xmode ws wd (rowElem x ws i) * 2 ^ (wd * i)) 0
  let bad := (List.range t.elems).filter fun i => bitsPoisoned l (ws * i) ws
  (toBytes t.rowBytes y).zipIdx.map fun b =>
    (b.1, bad.any fun i => decide (wd * i / 8 ≤ b.2 ∧ b.2 ≤ (wd * i + wd - 1) / 8))

/-! ## Data steps (R266, R276) -/

/-- A row of a data step: where it is read, if it is, where it is written, and what it is otherwise made of. -/
inductive DwRow where
  | copy (src dst : Nat)
  | zeros (dst : Nat)
  | pattern (dst : Nat)
  | poison (dst : Nat)
  | skip (poisoned : Bool)
  deriving DecidableEq, Repr

def DwRow.dst : DwRow → Option Nat
  | .copy _ d | .zeros d | .pattern d | .poison d => some d
  | .skip _ => none
def DwRow.src : DwRow → Option Nat
  | .copy s _ => some s
  | _ => none

/-- An address of a step with its channel's adjustment. -/
def adjusted (a adj : W64) : Nat := (a + adj).toNat
def pitched (a pitch n : Nat) : Nat := (a + n * pitch) % 2 ^ 64

/-- R266: an entry of the index table as read: its value, and whether it is poisoned. -/
def indexEntry (l : List PByte) (n r : Nat) : Nat × Bool :=
  let e := (l.drop (r * n)).take n
  (ofBytes (e.map (·.1)), e.any (·.2))

/-- R266: the rows of a step, given its index table. -/
def DwStep.rowList (t : DwStep) (c : DwChan) (idx : List PByte) : List DwRow :=
  let src := adjusted (t.getD 1 0) c.srcAdj
  let dst := adjusted (t.getD 2 0) c.dstAdj
  (List.range t.rows).map fun r =>
    let i := indexEntry idx t.idxBytes r
    match t.op with
    | 1 => .copy (pitched src t.srcPitch r) (pitched dst t.dstPitch r)
    | 2 => .pattern (pitched dst t.dstPitch r)
    | 3 =>
      if i.2 then .poison (pitched dst t.dstPitch r)
      else if wordN t 5 ≤ i.1 then .zeros (pitched dst t.dstPitch r)
      else .copy (pitched src t.srcPitch i.1) (pitched dst t.dstPitch r)
    | _ =>
      if i.2 then .skip true else if wordN t 5 ≤ i.1 then .skip false
      else .copy (pitched src t.srcPitch r) (pitched dst t.dstPitch i.1)

/-- R266: the address of the index table. -/
def DwStep.idxVa (t : DwStep) (c : DwChan) : Nat := adjusted (t.getD 4 0) c.idxAdj

/-- R266, R270: an address or index table misaligned for its step, with the address; a pitch, with none. -/
def DwStep.badAlign (t : DwStep) (c : DwChan) : Option Nat :=
  match t.op with
  | 2 =>
    if adjusted (t.getD 2 0) c.dstAdj % 8 ≠ 0 then some (adjusted (t.getD 2 0) c.dstAdj)
    else if t.dstPitch % 8 ≠ 0 then some 0 else none
  | 3 | 4 => if t.idxVa c % t.idxBytes ≠ 0 then some (t.idxVa c) else none
  | _ => none

/-- R266: the index table: its places, in TYPE 0 or 2 of this device. -/
def State.indexPlaces (s : State) (k : Nat) (p : DwProgram) (t : DwStep) (c : DwChan) : Except DwFail (List (Place × Nat)) :=
  if t.op = 3 ∨ t.op = 4 then
    let va := t.idxVa c
    match s.dwPlaces k p false va (t.rows * t.idxBytes) with
    | .error e => .error e
    | .ok l =>
      if l.all fun q => match q.1 with | .attic _ false _ | .pantry .. => true | _ => false then .ok l
      else .error ⟨0x13, va, 0x14⟩
  else .ok []

/-- R269: keys of the bytes that a step may read before they are written: with ORD = 0, those that earlier steps wrote. -/
def State.dwOpen (s : State) (k : Nat) (t : DwStep) : List Nat := if t.w 0 59 59 = 1 then [] else (s.dw k).wrote

/-- R263, R269: what a step reads at an address, at places that can be reached. -/
def State.dwBytes (s : State) (k : Nat) (t : DwStep) (va : Nat) (l : List (Place × Nat)) : List PByte :=
  if s.dwMoved k (s.dw k).program va ((l.map (·.2)).foldl (· + ·) 0) then
    (s.placesBytes l).zipIdx.map fun b => (Config.disturbedByte s.free (2 ^ 60 + va + b.2), b.1.2)
  else ((s.placesBytes l).zip (placeKeys l)).map fun b =>
    match b.2 with
    | some j => if (s.dwOpen k t).contains j then (Config.disturbedByte s.free j, b.1.2) else b.1
    | none => b.1

/-- R263: the keys of the destination bytes of rows in pages that software has remapped, as they are mapped now and were. -/
def State.dwMovedKeys (s : State) (k : Nat) (p : DwProgram) (t : DwStep) (rows : List DwRow) : List (Option Nat) :=
  (rows.filterMap DwRow.dst).flatMap fun d =>
    if s.dwMoved k p d t.rowBytes then
      (match s.dwPlaces k p true d t.rowBytes with | .ok l => placeKeys l | .error _ => []) ++
      placeKeys (s.dwOldPlaces k p d t.rowBytes)
    else []

/-- A row with its places resolved: what it writes, and where. -/
structure DwMove where
  src : List (Place × Nat)
  dst : List (Place × Nat)
  bytes : List PByte
  va : Nat
  deriving DecidableEq, Repr

/-- R266, R272, R274: a row resolved; a skipped row writes nothing. -/
def State.dwRow (s : State) (k : Nat) (p : DwProgram) (t : DwStep) (r : DwRow) : Except DwFail DwMove :=
  let n := t.rowBytes
  match r.dst with
  | none => .ok ⟨[], [], [], 0⟩
  | some d =>
    match s.dwWritten k p d n with
    | .error e => .error e
    | .ok l =>
      match r with
      | .copy a _ =>
        (match s.dwRead k p a t.srcBytes with
          | .error e => .error e
          | .ok q => .ok ⟨q, l, swapRow t.swap (t.repack (s.dwBytes k t a q)), d⟩)
      | .pattern _ => .ok ⟨[], l, (List.replicate t.elems (toBytes 8 (wordN t 1))).flatten.map (·, false), d⟩
      | .poison _ => .ok ⟨[], l, List.replicate n (0, true), d⟩
      | _ => .ok ⟨[], l, List.replicate n (0, false), d⟩

/-- R270, R278: the rows of a step resolved in order, up to the first that fails. -/
def State.dwRows (s : State) (k : Nat) (p : DwProgram) (t : DwStep) : List DwRow → List DwMove × Option DwFail
  | [] => ([], none)
  | r :: l =>
    match s.dwRow k p t r with
    | .error e => ([], some e)
    | .ok m => let x := s.dwRows k p t l; (m :: x.1, x.2)

/-- R276: the extents of sources and destinations intersect, by virtual address. -/
def DwStep.overlaps (t : DwStep) (rows : List DwRow) : Bool :=
  let ss := rows.filterMap (·.src)
  let ds := rows.filterMap (·.dst)
  let lo (l : List Nat) := l.foldl min (2 ^ 64)
  let hi (l : List Nat) := l.foldl max 0
  !ss.isEmpty && !ds.isEmpty && decide (lo ss < hi ds + t.rowBytes ∧ lo ds < hi ss + t.srcBytes)

/-- R276: the step behaves as memmove. -/
def DwStep.contiguous (t : DwStep) : Bool :=
  t.op == 1 && t.ws == t.wd && (t.rows == 1 || (t.srcPitch == t.rowBytes && t.dstPitch == t.rowBytes))

/-- R277: bytes of a row where an earlier row of the step has written: a free choice between the two, each with its poison. -/
def State.dwPick (s : State) (earlier : List (Option Nat)) (m : DwMove) : List PByte :=
  (m.bytes.zip (placeKeys m.dst)).map fun b =>
    match b.2 with
    | some k => if earlier.contains (some k) && Config.freeBool s.free (2 ^ 60 + k) then (s.byteAt k, s.wordPoisoned (k / 8 * 8)) else b.1
    | none => b.1

/-- One row written: the state and the flags it adds (R270). -/
def State.dwWriteRow (s : State) (scatter : Bool) (earlier : List (Option Nat)) (m : DwMove) : State × Nat :=
  let b := if scatter then s.dwPick earlier m else m.bytes
  let err := s.unitWriteUe m.dst b
  (m.dst.foldl (fun s q => s.storeAt q.1 q.2) (s.pwriteAll m.dst b),
    (if b.any (·.2) ∨ m.bytes.any (·.2) then 2 else 0) ||| (if err then 18 else 0) |||
      (match s.remoteEnd m.dst (2 * m.va + 1) with | 1 => 8 | 3 => 18 | _ => 0))

/-- The rows written in order: the state, the flags, and the keys written. -/
def State.dwWriteRows (s : State) (scatter : Bool) (l : List DwMove) : State × Nat × List (Option Nat) :=
  l.foldl (fun x m => let y := x.1.dwWriteRow scatter x.2.2 m; (y.1, x.2.1 ||| y.2, x.2.2 ++ placeKeys m.dst)) (s, 0, [])

/-- R276: the destination bytes of an overlapping step that it reads too. -/
def DwStep.clash (t : DwStep) (rows : List DwRow) (l : List DwMove) : List (Option Nat) :=
  if t.contiguous && t.overlaps rows then []
  else
    let reads := l.flatMap fun m => placeKeys m.src
    (l.flatMap fun m => placeKeys m.dst).filter fun j => j.isSome && reads.contains j

/-- R278: one word of a destination that a step which does not end well has written or not: a free choice. The state, the flags and the
bytes written. -/
def State.dwWritePart (x : State × Nat × Nat) (q : Place × List PByte) : State × Nat × Nat :=
  if Config.freeBool x.1.free (2 ^ 61 + (placeKey q.1 0).getD 0) then
    ((x.1.pwrite q.1 q.2).storeAt q.1 q.2.length,
      x.2.1 ||| (if q.2.any (·.2) then 2 else 0) ||| (if x.1.unitWriteUe [(q.1, q.2.length)] q.2 then 18 else 0), x.2.2 + q.2.length)
  else x

/-- R278: any part of the destination of a step written. -/
def State.dwWriteSome (s : State) (k : Nat) (p : DwProgram) (t : DwStep) (rows : List DwRow) : State × Nat × Nat :=
  let l := rows.filterMap fun r => match s.dwRow k p t r with | .ok m => some m | .error _ => none
  let x := (l.flatMap fun m => placeParts m.dst m.bytes).foldl State.dwWritePart (s, 0, 0)
  ((x.1.spoilKeys (t.clash rows l ++ s.dwMovedKeys k p t rows)).bump, x.2)

/-- R161: the views that the reads of rows used. -/
def State.dwNoteReads (s : State) (l : List (Place × Nat)) : State :=
  l.foldl (fun s q => match q.1 with | .attic r b o => s.noteView r b o q.2 | _ => s) s

/-! ## Channels -/

/-- R269: the next step, or BAD_STEP after step 255. -/
def DwChan.goto (c : DwChan) (n : Nat) : DwChan :=
  if 256 ≤ n then { c with ended := some (0x10, 0) } else { c with step := n }
def DwChan.next (c : DwChan) : DwChan := c.goto (c.step + 1)
def DwChan.fail (c : DwChan) (f : DwFail) : DwChan := { c with ended := some (f.status, f.va), doorStatus := f.door }

/-- R262: 48 bytes of a step, or the header, read at its physical address; none where the read fails or is poisoned. The
bytes of a program that software has changed are free (R146). -/
def State.dwFetch (s : State) (k : Nat) (p : DwProgram) (off n : Nat) : Option (List Byte) :=
  let l := s.dwPlace k (p.addr + off) n
  if s.disturbed (.work p.guard) then some ((List.range n).map fun j => Config.disturbedByte s.free (p.addr + off + j))
  else if s.unreachable l n then none
  else match s.pread l n with
    | .ok b => if b.any (·.2) then none else some (b.map (·.1))
    | .error _ => none

def wordsOfBytes (n : Nat) (l : List Byte) : List W64 := (List.range n).map fun j => BitVec.ofNat 64 (numAt l (8 * j) 8)

/-- R384, R385: what the command of a door program completes with when the program cannot be read. -/
def programFail (p : DwProgram) : DwFail := ⟨0x13, 0, if 6 ≤ paType p.addr then 0x13 else 0x14⟩

/-- The channel runs and is about to perform a step. -/
def DwChan.stepping (c : DwChan) : Bool := c.state == .running && c.ended.isNone && !c.queue.isEmpty && !c.writing

/-- R16, R163: the home of a part of the program answers now; these reads carry TC4 (DESIGN CHOICE). -/
def State.dwFetchRuns (s : State) (k : Nat) (p : DwProgram) (off n : Nat) : Bool := s.homeRuns 4 (s.dwPlace k (p.addr + off) n) n

/-- The step that the channel stands at, where it can be read. -/
def State.dwStepAt (s : State) (k : Nat) : Option DwStep :=
  let c := s.dw k
  (s.dwFetch k c.program (16 + 48 * c.step) 48).map (wordsOfBytes 6)

/-- The channel runs, and its next step can be read now. -/
def State.dwSteps (s : State) (k : Nat) : Bool :=
  (s.dw k).stepping && s.dwFetchRuns k (s.dw k).program (16 + 48 * (s.dw k).step) 48

/-- R263: a step of this operation is performed by the channel. -/
def dwRun (op : Nat) (k : Fin 6176) (s : State) (body : DwStep → State) : Result :=
  if !s.dwSteps k.val then .next s
  else match s.dwStepAt k.val with
    | none => .next s
    | some t => whenReady (t.op == op) s (body t)

/-- R266: a data step performed. -/
def State.dwData (s : State) (k : Nat) (t : DwStep) : State :=
  let c := s.dw k
  let p := c.program
  if t.badData k p then s.modDw k (·.fail ⟨0x10, 0, 0x14⟩)
  else if t.badAlign c ≠ none then s.modDw k (·.fail ⟨0x11, (t.badAlign c).getD 0, 0x14⟩)
  else match s.indexPlaces k p t c with
    | .error e => (s.dwNoteFail k p e).modDw k (·.fail e)
    | .ok il =>
      if !s.homesRun t.cls il then s
      else
        let rows := t.rowList c (s.dwBytes k t (t.idxVa c) il)
        let x := s.dwRows k p t rows
        if !s.homesRun t.cls (x.1.flatMap fun m => m.src ++ m.dst) then s
        else match x.2 with
          | some e =>
            let y := s.dwWriteSome k p t rows
            (y.1.dwNoteFail k p e).modDw k fun c => { c with flags := c.flags ||| y.2.1, bytes := c.bytes + y.2.2 }.fail e
          | none =>
            let y := (s.dwNoteReads (il ++ x.1.flatMap (·.src))).dwWriteRows (t.op == 4) x.1
            let lapped := t.overlaps rows
            let skipped := rows.filter fun r => match r with | .skip _ | .zeros _ | .poison _ => true | _ => false
            let bad := rows.any fun r => match r with | .skip true | .poison _ => true | _ => false
            ((y.1.spoilKeys (t.clash rows x.1 ++ s.dwMovedKeys k p t rows)).bump).modDw k fun c => { c with
              flags := c.flags ||| y.2.1 ||| b2n lapped ||| 2 * b2n bad ||| 4 * b2n (!skipped.isEmpty)
              wrote := y.2.2.foldl (fun l j => match j with | some j => ninsert j l | none => l) (s.dwOpen k t)
              skipped := min 0x1FFFFF (c.skipped + skipped.length)
              bytes := c.bytes + (rows.filterMap DwRow.dst).length * t.rowBytes }.next

def execDwMove (k : Fin 6176) (s : State) : Result := dwRun 1 k s (s.dwData k.val)
def execDwFill (k : Fin 6176) (s : State) : Result := dwRun 2 k s (s.dwData k.val)
def execDwGather (k : Fin 6176) (s : State) : Result := dwRun 3 k s (s.dwData k.val)
def execDwScatter (k : Fin 6176) (s : State) : Result := dwRun 4 k s (s.dwData k.val)

/-! ## LOOP, END (R267, R268) -/

/-- R268: a LOOP at a step. -/
def DwChan.loop (c : DwChan) (t : DwStep) : DwChan :=
  let count := t.w 0 23 0
  let target := t.w 0 55 48
  let top := match c.stack with | (p, n) :: _ => if p = c.step then some n else none | [] => none
  let stack := match top with | some _ => c.stack | none => (c.step, count) :: c.stack
  let left := top.getD count - 1
  if t.w 0 59 56 ≠ 0 ∨ t.w 0 47 24 ≠ 0 ∨ !t.zeroFrom 4 ∨ count = 0 ∨ c.step ≤ target ∨ 4 < stack.length
  then c.fail ⟨0x10, 0, 0x14⟩
  else if 0 < left then
    { c with
      stack := (c.step, left) :: stack.drop 1
      srcAdj := c.srcAdj + t.getD 1 0, dstAdj := c.dstAdj + t.getD 2 0, idxAdj := c.idxAdj + t.getD 3 0
      step := target }
  else
    { c with
      stack := stack.drop 1
      srcAdj := c.srcAdj - t.getD 1 0 * BitVec.ofNat 64 (count - 1)
      dstAdj := c.dstAdj - t.getD 2 0 * BitVec.ofNat 64 (count - 1)
      idxAdj := c.idxAdj - t.getD 3 0 * BitVec.ofNat 64 (count - 1) }.next

def execDwLoop (k : Fin 6176) (s : State) : Result := dwRun 5 k s fun t => s.modDw k.val (·.loop t)

/-- R270: the program ends well: OK, or POISON where poisoned words were met. -/
def DwChan.endOk (c : DwChan) : DwChan := { c with ended := some (b2n (bitOf c.flags 1), 0) }

def execEndStep (k : Fin 6176) (s : State) : Result :=
  dwRun 0 k s fun t => s.modDw k.val fun c =>
    if t.w 0 59 0 = 0 ∧ t.zeroFrom 1 then c.endOk else c.fail ⟨0x10, 0, 0x14⟩

/-! ## WAIT and SIGNAL (R267, R269) -/

/-- R148: the word that an address of a WAIT names. -/
def watchPlace (r : Nat) : Place → Option Watched
  | .pantry q o => if q = r then some (.pantry o) else none
  | .roomMmio q o =>
    if q ≠ r then none
    else if o = 0x1018 then some .arrayCount
    else if o = 0x6008 then some .avuCount
    else if 0x2040 ≤ o ∧ o < 0x2080 then some (.dwCount ((o - 0x2040) / 8)) else none
  | _ => none

/-- R148: the condition of a code. -/
def dwCond : Nat → Cond
  | 0 => .eq | 1 => .ne | 2 => .ge32 | 3 => .all | _ => .any

/-- R269: a WAIT performed: met at once, or the channel waits. -/
def State.dwWaitAt (s : State) (k : Nat) (wd : Watched) (t : DwStep) : State :=
  let r := k / 8
  let w := s.testWatch r ⟨wd, dwCond (t.w 0 50 48), t.getD 2 0, .none⟩
  let tmo := s.regN .dwWaitTmo r
  match w.hit with
  | .value _ => s.modDw k fun c => { c with wrote := [] }.next
  | _ => s.modDw k fun c => { c with
      wrote := [], state := .waiting, watch := some { w with hit := .none }
      flags := if w.hit = .poison then c.flags ||| 2 else c.flags
      deadline := if tmo = 0 then none else some (s.now + tmo * 1000) }

def State.dwWaitStep (s : State) (k : Nat) (t : DwStep) : State :=
  let va := wordN t 1
  if isDoorChan k ∨ t.w 0 59 51 ≠ 0 ∨ t.w 0 47 0 ≠ 0 ∨ 4 < t.w 0 50 48 ∨ !t.zeroFrom 3 then s.modDw k (·.fail ⟨0x10, 0, 0x14⟩)
  else if va % 8 ≠ 0 then s.modDw k (·.fail ⟨0x11, va, 0x14⟩)
  else match s.translate (k / 8) (s.dw k).program.auth.noMxr .read .load (BitVec.ofNat 64 va) with
    | .error c => (s.noteWalk (k / 8) (s.dw k).program.auth .read (BitVec.ofNat 64 va)).modDw k (·.fail ⟨if c = 13 then 0x12 else 0x13, va, 0x14⟩)
    | .ok x =>
      match watchPlace (k / 8) (s.placeFor (k / 8) x.pa 8) with
      | none => s.modDw k (·.fail ⟨0x13, va, 0x14⟩)
      | some wd =>
        if s.dwMoved k (s.dw k).program va 8 && Config.freeBool s.free (2700 + k)
        then (s.modDw k fun c => { c with wrote := [] }.next).bump else s.dwWaitAt k wd t

def execDwWait (k : Fin 6176) (s : State) : Result := dwRun 6 k s (s.dwWaitStep k.val)

/-- R148: a watch has found a value. -/
def Watch.found (w : Watch) : Bool := match w.hit with | .value _ => true | _ => false

def execDwWaitMet (k : Fin 6176) (s : State) : Result :=
  match (s.dw k.val).state, (s.dw k.val).watch with
  | .waiting, some w =>
    whenReady w.found s (s.modDw k.val fun c => { c with state := .running, watch := none, deadline := none }.next)
  | _, _ => .next s

def execDwWaitTimeout (k : Fin 6176) (s : State) : Result :=
  match (s.dw k.val).state, (s.dw k.val).watch, (s.dw k.val).deadline with
  | .waiting, some w, some d =>
    whenReady (!w.found) s ((s.reach d).modDw k.val fun c =>
      { c with state := .running, watch := none, deadline := none, ended := some (0x15, 0) })
  | _, _, _ => .next s

/-- R147: the operation of a SIGNAL. -/
def dwSignalOp (sop : Nat) (x : W64) : HomeAtomic := match sop with | 0 => .set x | 1 => .clr x | _ => .add x

/-- R269: the keys of the word that a SIGNAL writes. -/
def signalKeys (pl : Place) : List Nat := (placeKeys [(pl, 8)]).filterMap id

/-- R183, R270: a SIGNAL performed at its home. -/
def State.dwSignalAt (s : State) (k va : Nat) (pl : Place) (op : HomeAtomic) : State :=
  match pl with
  | .remote _ =>
    (match s.remoteEnd [(pl, 8)] (2 * va + 1) with
      | 0 => s.modDw k fun c => { c with wrote := [] }.next
      | 1 => s.modDw k fun c => { c with wrote := [], flags := c.flags ||| 8 }.next
      | 2 => s.modDw k (·.fail ⟨0x13, va, 0x14⟩)
      | _ => s.modDw k fun c => { c with wrote := [], flags := c.flags ||| 18 }.next).bump
  | _ =>
    match s.atomicAnswer op pl with
    | .data _ => (s.atomicPerform op pl none).modDw k fun c => { c with wrote := signalKeys pl }.next
    | .waiting => s
    | _ => (s.afterRead pl 8).modDw k fun c => { c with wrote := [], flags := c.flags ||| 18 }.next

/-- R267: the address of a SIGNAL lies in a pantry, its own device's or another's. -/
def State.dwPantryVa (s : State) (k : Nat) (p : DwProgram) (va : Nat) : Bool :=
  if isDoorChan k then paType va == 2
  else match s.translate (k / 8) p.auth.noMxr .write .store (BitVec.ofNat 64 va) with
    | .ok x => x.type == 2
    | .error _ => false

def State.dwSignalStep (s : State) (k : Nat) (t : DwStep) : State :=
  let c := s.dw k
  let va := wordN t 1
  if t.w 0 59 59 ≠ 0 ∨ t.w 0 55 50 ≠ 0 ∨ t.w 0 47 0 ≠ 0 ∨ t.w 0 49 48 = 3 ∨ t.badClass k c.program ∨ !t.zeroFrom 3
  then s.modDw k (·.fail ⟨0x10, 0, 0x14⟩)
  else if va % 8 ≠ 0 then s.modDw k (·.fail ⟨0x11, va, 0x14⟩)
  else match s.dwPlaces k c.program true va 8 with
    | .error e => (s.dwNoteFail k c.program e).modDw k (·.fail e)
    | .ok l =>
      if !s.dwPantryVa k c.program va then s.modDw k (·.fail ⟨0x13, va, 0x14⟩)
      else match l.headD (.accessError, 0) with
        | (.pantry r o, _) =>
          let u := s.dwSignalAt k va (.pantry r o) (dwSignalOp (t.w 0 49 48) (t.getD 2 0))
          if s.dwMoved k c.program va 8 then (u.spoilKeys (placeKeys (l ++ s.dwOldPlaces k c.program va 8))).bump else u
        | (.remote d, _) => s.dwSignalAt k va (.remote d) (dwSignalOp (t.w 0 49 48) (t.getD 2 0))
        | _ => s.modDw k (·.fail ⟨0x13, va, 0x14⟩)

def execDwSignal (k : Fin 6176) (s : State) : Result := dwRun 7 k s (s.dwSignalStep k.val)

/-! ## Completion (R270, R271, R278) -/

/-- R270: the record of a program that ends now. -/
def State.dwRecord (s : State) (k tag : Nat) (c : DwChan) (st va : Nat) : List Byte :=
  toBytes 8 (tag * 2 ^ 48 + st * 2 ^ 40 + c.flags % 256 * 2 ^ 32 + k % 8 * 2 ^ 29 + c.skipped * 2 ^ 8 + c.step) ++
  toBytes 8 c.bytes ++ toBytes 8 va ++ toBytes 8 s.now

/-- R279: the records that the ring of a room holds. -/
def State.dwRingSize (s : State) (r : Nat) : Nat := 2 ^ max 4 (min 12 (fld (s.regN .dwCqCfg r) 3 0))
def State.dwRingFull (s : State) (r : Nat) : Bool :=
  (s.regN .dwCqProd r + 65536 - s.regN .dwCqCons r) % 65536 == s.dwRingSize r

/-- R271: one completed program leaves: its record, its count, its place in the queue. -/
def State.dwLeave (s : State) (r : Nat) (x : DwLeaving) : State :=
  let p := s.regN .dwCqProd r
  let t := match x.record with
    | some b => (s.writePantry r (s.regN .dwCqBase r + p % s.dwRingSize r * 32) b).setRegN .dwCqProd r ((p + 1) % 65536)
    | none => s
  let t := (t.dropGuard (.work (t.dw x.chan).program.guard)).modDw x.chan fun c => { c with
    queue := c.queue.drop 1, state := if x.halt then .halted else .idle, ended := none, watch := none, deadline := none }
  t.bumpCount .dwDoneCount x.chan r

/-- R271: completed programs leave in order while the ring has room. -/
def State.dwDrain : Nat → Nat → State → State
  | 0, _, s => s
  | f + 1, r, s =>
    match tgetD s.dwOrder r [] with
    | [] => s
    | x :: l =>
      if x.record.isSome ∧ s.dwRingFull r = true then s
      else State.dwDrain f r ({ s with dwOrder := tset r l s.dwOrder }.dwLeave r x)

/-- R261, R270: the command of a door program completes; the channel is free once the completion entry is written. -/
def State.dwDoorDone (s : State) (k : Nat) (c : DwChan) (st : Nat) (record : List Byte) : State :=
  let writing := s.descs.any (·.id == c.program.job)
  let t := s.modDw k fun c => { c with queue := c.queue.drop 1, state := if writing then c.state else .idle, ended := none, writing := writing }
  t.complete c.program.job (if st ≤ 1 then st else if st = 0x30 then 0x30 else c.doorStatus) c.bytes (numAt record 0 8) (some k)

/-- R261: a completion entry is written: the door channel that waits for it is free. -/
def State.freeChan (s : State) (c : Option Nat) : State :=
  match c with
  | none => s
  | some k => s.modDw k fun x => if x.writing then { x with state := .idle, writing := false } else x

/-- R479, R270: an error of a program is posted, with the failing address. -/
def State.dwPostFail (s : State) (k st va : Nat) : State :=
  if 0x10 ≤ st ∧ st < 0x30 then
    if isDoorChan k then s.postDie 0x62 (104 + chanDoor k) va
    else s.post { roomRecord s 0x62 (k / 8) va with flags := 33 }
  else s

/-- R270, R271: a program of a channel completes with a status: its record, if it has one, takes its place in the order. -/
def State.dwFinish (s : State) (k : Nat) (c : DwChan) (st va : Nat) (halt : Bool) : State :=
  let record := s.dwRecord k c.tag c st va
  let t := s.dwPostFail k st va
  if isDoorChan k then t.dwDoorDone k c st record
  else
    let r := k / 8
    let keep := bitOf (s.regN .dwCqCfg r) 9 && (c.recAlways || st != 0)
    let t := t.modDw k fun c => { c with state := .running, ended := some (st, va), watch := none, deadline := none }
    let u := { t with dwOrder := tset r (tgetD t.dwOrder r [] ++ [⟨k, if keep then some record else none, halt⟩]) t.dwOrder }
    State.dwDrain 64 r u

/-- The channel has a completed program that has not left. -/
def State.dwLeavingOf (s : State) (k : Nat) : Bool := (tgetD s.dwOrder (k / 8) []).any (·.chan == k)

/-- R270: the channel's program has ended with this status. -/
def dwEnded (ok : Bool) (k : Fin 6176) (s : State) : Result :=
  match (s.dw k.val).ended with
  | none => .next s
  | some (st, va) => whenReady (decide (st ≤ 1) == ok && (isDoorChan k.val || !s.dwLeavingOf k.val)) s (s.dwFinish k.val (s.dw k.val) st va (!ok && !isDoorChan k.val))

def execDwProgramComplete (k : Fin 6176) (s : State) : Result := dwEnded true k s

/-- R278: a program that has failed ends; so does one whose next step cannot be read or has a reserved OP. -/
def execDwProgramError (k : Fin 6176) (s : State) : Result :=
  if (s.dw k.val).stepping && !s.dwSteps k.val then .next s
  else if (s.dw k.val).stepping then
    match s.dwStepAt k.val with
    | none => dwEnded false k (s.modDw k.val (·.fail (programFail (s.dw k.val).program)))
    | some t => if 7 < t.op then dwEnded false k (s.modDw k.val (·.fail ⟨0x10, 0, 0x14⟩)) else .next s
  else dwEnded false k s

/-- R262: a channel that is free fetches the header of its next program. -/
def execDwProgramStart (k : Fin 6176) (s : State) : Result :=
  let c := s.dw k.val
  let fresh : DwChan := { queue := c.queue, state := .running }
  if c.state ≠ .idle ∨ c.queue = [] ∨ (!isDoorChan k.val && s.dwLeavingOf k.val) = true then .next s
  else if !s.dwFetchRuns k.val c.program 0 16 then .next s
  else match s.dwFetch k.val c.program 0 16 with
    | none => .next (s.modDw k.val fun _ => fresh.fail (programFail c.program))
    | some b => .next (s.modDw k.val fun _ => { fresh with tag := numAt b 6 2, recAlways := bitOf (numAt b 0 8) 47 })

/-! ## Flush, restart and the ring (R278, R279) -/

/-- R278: the programs of a channel that have not completed all end with ABORTED, in order; the fuel counts them. -/
def State.dwAbort : Nat → Nat → State → State
  | 0, _, s => s
  | f + 1, k, s =>
    let c := s.dw k
    let gone := ((tgetD s.dwOrder (k / 8) []).filter (·.chan == k)).length
    let left := c.queue.drop (if isDoorChan k then 0 else gone)
    match left with
    | [] => s
    | p :: _ =>
      let started := (c.state == .running || c.state == .waiting) && (isDoorChan k || gone == 0)
      let tag := match s.dwFetch k p 0 16 with | some b => numAt b 6 2 | none => 0
      let always := match s.dwFetch k p 0 16 with | some b => bitOf (numAt b 0 8) 47 | none => false
      let d : DwChan := if started then c else { queue := c.queue, tag, recAlways := always }
      let e := if started then c.ended.getD (0x30, 0) else (0x30, 0)
      State.dwAbort f k (s.dwFinish k d e.1 e.2 false)

/-- R278: a flush stops a running step at any of its requests, and those abandoned may still be performed: any part of it has been. -/
def State.dwCut (s : State) (k : Nat) : State :=
  let c := s.dw k
  if !s.dwSteps k then s
  else match s.dwStepAt k with
    | none => s
    | some t =>
      if t.op = 7 then (if Config.freeBool s.free (2750 + k) then (s.dwSignalStep k t).modDw k fun _ => c else s).bump
      else if t.op = 0 ∨ 4 < t.op ∨ t.badData k c.program = true ∨ t.badAlign c ≠ none then s
      else match s.indexPlaces k c.program t c with
        | .error _ => s
        | .ok il =>
          let y := s.dwWriteSome k c.program t (t.rowList c (s.dwBytes k t (t.idxVa c) il))
          y.1.modDw k fun c => { c with flags := c.flags ||| y.2.1, bytes := c.bytes + y.2.2 }

/-- R278: at an orderly stop a channel finishes its current step; where it had not begun the next one, it does not begin it: a free
choice. -/
def State.dwFinishStep (s : State) (k : Nat) : State :=
  if !s.dwSteps k || !Config.freeBool s.free (2780 + k) then s
  else match s.dwStepAt k with
    | none => s
    | some t =>
      (match t.op with
        | 1 | 2 | 3 | 4 => s.dwData k t
        | 5 => s.modDw k (·.loop t)
        | 7 => s.dwSignalStep k t
        | _ => s).bump

/-- R278: every program of a channel ends with ABORTED, and the channel is IDLE. -/
def State.dwFlush (s : State) (k : Nat) : State :=
  let t := State.dwAbort 4 k s
  if t.dwLeavingOf k then t else t.modDw k fun c => { c with state := .idle, ended := none, watch := none, deadline := none }

def execDwFlush (r : RoomIx) (c : Fin 8) (s : State) : Result := .next ((s.dwCut (r.val * 8 + c.val)).dwFlush (r.val * 8 + c.val))

/-- R278: DW_CTRL.RESTART of a channel. -/
def State.dwRestart (s : State) (k : Nat) : State := s.modDw k fun c => { c with state := if c.state = .halted then .idle else c.state }

def execDwRestart (r : RoomIx) (c : Fin 8) (s : State) : Result := .next (s.dwRestart (r.val * 8 + c.val))

/-- R278: an orderly stop of the room ends the work of every channel. -/
def State.dwStopRoom (s : State) (r : Nat) : State :=
  (List.range 8).foldl (fun s c => (s.dwFinishStep (r * 8 + c)).dwFlush (r * 8 + c)) s

/-- R271: DW_CQ_CONS advanced. -/
def State.dwConsWrite (s : State) (r v : Nat) : State := State.dwDrain 64 r (s.setRegN .dwCqCons r (v % 65536))

def execDwCqConsWrite (r : RoomIx) (value : W64) (s : State) : Result := .next (s.dwConsWrite r.val value.toNat)

/-- R279: a write of DW_CQ_BASE or DW_CQ_CFG. -/
def State.dwCfgWrite (s : State) (r : Nat) (base : Bool) (v : Nat) : State :=
  let idle := (List.range 8).all fun c => (s.dw (r * 8 + c)).state == .idle
  let b := if base then v % 2 ^ 23 else s.regN .dwCqBase r
  let l := if base then fld (s.regN .dwCqCfg r) 3 0 else fld v 3 0
  if !idle ∨ pantrySize < b + 2 ^ max 4 (min 12 l) * 32 ∨ (base ∧ v % 32 ≠ 0) then s
  else s.writeReg (if base then .dwCqBase else .dwCqCfg) r (BitVec.ofNat 64 v)

def execDwCqCfgWrite (r : RoomIx) (base : Bool) (value : W64) (s : State) : Result :=
  .next (s.dwCfgWrite r.val base value.toNat)

/-- R279: a write of DW_CTRL: restarts, then flushes. -/
def State.dwCtrlWrite (s : State) (r v : Nat) : State :=
  let t := (List.range 8).foldl (fun s c => if bitOf v c then s.dwRestart (r * 8 + c) else s) s
  (List.range 8).foldl (fun s c => if bitOf v (8 + c) then (s.dwCut (r * 8 + c)).dwFlush (r * 8 + c) else s) t

end Sys2Proof.Machine
end

