-- ==== Sys2Proof/Machine/Packet.lean ====
section
/-! DEFINITION. Azlys packets bit by bit: headers of requests and responses, payloads with their poison maps, and the messages that
units exchange (R284, R297, R311–R317). -/
namespace Sys2Proof.Machine

/-! ## Islands (R311) -/

/-- R311: a source island of a packet. -/
inductive SourceIsland where
  | room (r : Nat)
  | wingController (w : Nat)
  | landing (w : Nat)
  | router (w : Nat)
  | linkLayer (p : Nat)
  | collectiveUnit (p : Nat)
  | porchController (p : Nat)
  | queueEngine (d : Nat)
  | dumbwaiter (d : Nat)
  | strongroom (d : Nat)
  | study (d : Nat)
  | hearth (d : Nat)
  deriving DecidableEq, Repr

/-- R311: SRC_DIE and SRC_ISL of an island. -/
def SourceIsland.source : SourceIsland → Nat × Nat
  | .room r => (r / 32, r % 32)
  | .wingController w => (w, 0)
  | .landing w => (w, 1)
  | .router w => (w, 2)
  | .linkLayer p => (96 + p, 0)
  | .collectiveUnit p => (96 + p, 1)
  | .porchController p => (96 + p, 2)
  | .queueEngine d => (104 + d, 0)
  | .dumbwaiter d => (104 + d, 1)
  | .strongroom d => (104 + d, 2)
  | .study d => (104 + d, 3)
  | .hearth d => (104 + d, 4)

/-- R311: the island that a packet's SRC_DIE, SRC_ISL and EPOCH name. -/
def sourceIsland (die isl epoch : Nat) : Option SourceIsland :=
  if die < 24 then
    (if epoch ≠ 0 then some (.room (die * 32 + isl))
     else match isl with
       | 0 => some (.wingController die)
       | 1 => some (.landing die)
       | 2 => some (.router die)
       | _ => none)
  else if 96 ≤ die ∧ die < 104 then
    (match isl with
      | 0 => some (.linkLayer (die - 96))
      | 1 => some (.collectiveUnit (die - 96))
      | 2 => some (.porchController (die - 96))
      | _ => none)
  else if die = 104 ∨ die = 105 then
    (match isl with
      | 0 => some (.queueEngine (die - 104))
      | 1 => some (.dumbwaiter (die - 104))
      | 2 => some (.strongroom (die - 104))
      | 3 => some (.study (die - 104))
      | 4 => some (.hearth (die - 104))
      | _ => none)
  else none

/-! ## Headers (R311, R312) -/

/-- R311, R312: the fields that both headers share, and bits 72 and 71; `low` is ADDR, or STATUS in its place. -/
def azHeader (opc cls : Nat) (rsp vcs bank : Bool) (lenM1 : Nat) (pmap : Bool) (dstDie srcDie isl gen tag : Nat) (b72 b71 : Bool)
    (epoch low : Nat) : W128 :=
  BitVec.ofNat 128 (opc * 2 ^ 123 + cls * 2 ^ 120 + b2n rsp * 2 ^ 119 + b2n vcs * 2 ^ 118 + b2n bank * 2 ^ 117 + lenM1 * 2 ^ 109 +
    b2n pmap * 2 ^ 108 + dstDie * 2 ^ 101 + srcDie * 2 ^ 94 + isl * 2 ^ 89 + gen * 2 ^ 85 + tag * 2 ^ 73 + b2n b72 * 2 ^ 72 +
    b2n b71 * 2 ^ 71 + epoch * 2 ^ 55 + low)

def azOpc (h : W128) : Nat := fld h.toNat 127 123
def azClass (h : W128) : Nat := fld h.toNat 122 120
def azRsp (h : W128) : Bool := bitOf h.toNat 119
def azVcs (h : W128) : Bool := bitOf h.toNat 118
def azBank (h : W128) : Nat := fld h.toNat 117 117
def azLen (h : W128) : Nat := fld h.toNat 116 109 + 1
def azPmap (h : W128) : Bool := bitOf h.toNat 108
def azDstDie (h : W128) : Nat := fld h.toNat 107 101
def azSrcDie (h : W128) : Nat := fld h.toNat 100 94
def azIsl (h : W128) : Nat := fld h.toNat 93 89
def azReissue (h : W128) : Bool := !azRsp h && bitOf h.toNat 72
def azAddr (h : W128) : Nat := fld h.toNat 54 0

/-- The same header on another channel set and routing bank. -/
def azRouted (h : W128) (vcs : Bool) (bank : Nat) : W128 :=
  BitVec.ofNat 128 (h.toNat - fld h.toNat 118 117 * 2 ^ 117 + b2n vcs * 2 ^ 118 + bank * 2 ^ 117)

/-- R313: bytes of data in a packet: none in a read request or a response with NODATA. -/
def azDataLen (h : W128) : Nat :=
  if azRsp h then (if bitOf h.toNat 71 then 0 else azLen h) else if azOpc h = 0 then 0 else azLen h

/-- R314: bytes of a packet: header, poison map, payload, and padding to a multiple of 16. -/
def azBytes (h : W128) : Nat := 16 + ceilDiv ((if azPmap h then 8 else 0) + azDataLen h) 16 * 16

/-! ## Payloads (R314) -/

/-- R314: the poison map of data words by number. -/
def pmapOf (poison : List Nat) : Nat := (List.range 32).foldl (fun x j => x + b2n (poison.contains j) * 2 ^ j) 0

/-- R314: map and data, padded with zero bytes to a multiple of 16. -/
def azBody (data : List Byte) (pmap : Nat) : List Byte :=
  let l := (if pmap = 0 then [] else toBytes 8 pmap) ++ data
  l ++ List.replicate (ceilDiv l.length 16 * 16 - l.length) 0

/-! ## Requests as they arrive and leave (R311) -/

/-- R311: the fields of a request's header that its response bears. -/
def azFields (dev : DevId) (h : W128) : ReqHeader where
  srcDev := dev
  srcDie := Fin.ofNat 128 (azSrcDie h)
  srcIsl := Fin.ofNat 32 (azIsl h)
  tag := Fin.ofNat 4096 (fld h.toNat 84 73)
  gen := Fin.ofNat 16 (fld h.toNat 88 85)
  epoch := BitVec.ofNat 16 (fld h.toNat 70 55)
  reissue := bitOf h.toNat 72
  cls := Fin.ofNat 8 (azClass h)
  vcs := azVcs h
  bank := bitOf h.toNat 117
  dstDie := Fin.ofNat 128 (azDstDie h)

/-- R311, R313, R314: a request read from its packet. -/
def azRequest (dev : DevId) (h : W128) (body : List Byte) : HomeRequest where
  hdr := azFields dev h
  noret := bitOf h.toNat 71
  addr := BitVec.ofNat 55 (azAddr h)
  len := if azOpc h = 0 then azLen h else 0
  payload := (body.drop (if azPmap h then 8 else 0)).take (azDataLen h)
  pmap := if azPmap h then BitVec.ofNat 32 (ofBytes (body.take 4)) else 0

/-- R311: the header of a request of an operation. -/
def requestHeader (q : HomeRequest) (opc : Nat) : W128 :=
  azHeader opc q.hdr.cls.val false q.hdr.vcs q.hdr.bank ((if opc = 0 then q.len else q.payload.length) - 1) (q.pmap != 0) q.hdr.dstDie.val
    q.hdr.srcDie.val q.hdr.srcIsl.val q.hdr.gen.val q.hdr.tag.val q.hdr.reissue q.noret q.hdr.epoch.toNat q.addr.toNat

/-- R314: what follows the header. -/
def requestBody (q : HomeRequest) : List Byte := azBody q.payload q.pmap.toNat

/-! ## Operations (R313) -/

/-- R313: the code of an atomic operation. -/
def atomicOpc : HomeAtomic → Nat
  | .amo o _ _ => (match o with
    | .swap => 8 | .add => 9 | .and => 0xA | .or => 0xB | .xor => 0xC | .min => 0xD | .max => 0xE | .minu => 0xF | .maxu => 0x10)
  | .xaAdd _ => 0x11 | .fadd _ => 0x12 | .fmax _ => 0x13 | .fmin _ => 0x14 | .cas .. => 0x15
  | .leaseAcq .. => 0x16 | .leaseRel .. => 0x17 | .set _ => 0x18 | .clr _ => 0x19 | .add _ => 0x1A

/-- R313: the request payload of an atomic. -/
def atomicPayload : HomeAtomic → List Byte
  | .amo _ d x => toBytes (if d then 8 else 4) x.toNat
  | .xaAdd x => toBytes 16 x.toNat
  | .fadd x | .fmax x | .fmin x => toBytes 4 x.toNat
  | .cas n c x => toBytes n c.toNat ++ toBytes n x.toNat
  | .leaseAcq c _ x => toBytes 8 c.toNat ++ toBytes 8 x.toNat
  | .leaseRel c _ => toBytes 8 c.toNat
  | .set x | .clr x | .add x => toBytes 8 x.toNat

/-- R313: the payload of SPAWN. -/
def spawnPayload (m : SpawnMsg) : List Byte :=
  toBytes 4 m.target.toNat ++ toBytes 4 m.spawner.toNat ++ toBytes 8 m.satp.toNat ++ toBytes 1 m.priv.val ++ toBytes 15 0 ++
  toBytes 8 m.pc.toNat ++ toBytes 8 m.sp.toNat ++ toBytes 8 m.arg.toNat ++ toBytes 8 0

/-- R313: the payload of EXIT_NOTICE. -/
def exitPayload (child : W32) (status : Nat) (value : W64) : List Byte := toBytes 4 child.toNat ++ toBytes 4 status ++ toBytes 8 value.toNat

/-- R313: the payload of NOTICE. -/
def noticePayload (subject epoch reason ext : Nat) : List Byte := toBytes 4 subject ++ toBytes 2 epoch ++ toBytes 2 reason ++ toBytes 4 ext ++ toBytes 4 0

/-- R313: operation, payload and read length of an outstanding request, and whether it wants no data back (R296). -/
def ReqKind.packet : ReqKind → Nat × List Byte × Nat × Bool
  | .load _ n .. => (0, [], n, false)
  | .store l => (1, l, 0, false)
  | .atomic _ op _ => (atomicOpc op, atomicPayload op, 0, false)
  | .signal op => (atomicOpc op, atomicPayload op, 0, match op with | .xaAdd _ => true | _ => false)
  | .spawn _ m => (0x1B, spawnPayload m, 0, false)

/-! ## Where packets go (R284, R304, R527) -/

/-- R527, R536: the home island of a place: a room, a wing (768 on), a porch (792 on) or a door (800 on). -/
def homeOf : Place → Nat
  | .attic r _ _ | .pantry r _ | .roomMmio r _ => r
  | .wingMmio w _ => 768 + w
  | .host d _ => 800 + d
  | .devMmio o =>
    if 0x8000000 ≤ o ∧ o < 0x8800000 then 792 + (o - 0x8000000) / 0x100000
    else if 0xA000000 ≤ o ∧ o < 0xB800000 then 768 + (o - 0xA000000) / 0x100000
    else if 0x1000000 ≤ o ∧ o < 0x2000000 then 801 else 800
  | _ => 800

/-- R7: the die that holds a home island. -/
def homeDie (home : Nat) : Nat :=
  if home < 768 then home / 32 else if home < 792 then home - 768 else if home < 800 then 96 + (home - 792) else 104 + (home - 800)

/-- R7, R91: the die that a physical address lies on, on its device. -/
def dieOfPa (pa : Nat) : Nat :=
  if 6 ≤ paType pa then 104 + (paType pa - 6)
  else if paType pa = 5 then homeDie (homeOf (.devMmio (paOffset pa)))
  else min 23 (fld pa 37 33)

/-- R284: the entry of the routing table for a die: its own number for a wing, then porches, then doors. -/
def dieEntry (d : Nat) : Nat := if d < 24 then d else if d < 104 then 24 + (d - 96) else 32 + (d - 104)

def State.hall (s : State) (w : Nat) : HallB := tgetD s.halls w {}
def State.modHall (s : State) (w : Nat) (f : HallB → HallB) : State := { s with halls := tset w (f (s.hall w)) s.halls }

/-- R304: a routing entry of a router. -/
def rtIndex (w bank e : Nat) : Nat := w * 104 + bank * 64 + e
def State.rtEntry (s : State) (w bank e : Nat) : Nat := s.regN .hallRtEntry (rtIndex w bank e)

/-! ## What the part sends (R311, R312) -/

def State.send (s : State) (m : Sent) : State := { s with sent := s.sent ++ [m] }

/-- R311: the packet of a room's request: its channel set and bank are those of the route that its router injects it on. -/
def State.reqPacket (s : State) (q : Req) : HomeRequest :=
  let k := q.kind.packet
  let w := q.room / 32
  let pa := match q.kind with | .spawn .. => 0 | _ => q.pa
  let die := match q.kind with | .spawn _ m => fld m.target.toNat 14 10 | _ => dieOfPa q.pa
  let bank := (s.hall w).active
  let addr := if bitOf pa 55 ∧ paType pa < 6 then pa % 2 ^ 38 + s.devId.toNat * 2 ^ 38 + fld pa 54 52 * 2 ^ 52 else pa % 2 ^ 55
  { hdr := { srcDev := s.devId, srcDie := Fin.ofNat 128 w, srcIsl := Fin.ofNat 32 q.room, tag := Fin.ofNat 4096 q.tag
             gen := Fin.ofNat 16 q.gen, epoch := BitVec.ofNat 16 q.epoch, reissue := q.reissued, cls := Fin.ofNat 8 q.cls
             vcs := bitOf (s.rtEntry w bank (dieEntry die)) 14, bank := bank == 1, dstDie := Fin.ofNat 128 die }
    noret := k.2.2.2, addr := BitVec.ofNat 55 addr, len := k.2.2.1, payload := k.2.1, pmap := 0 }

/-- The device that a room's request is for. -/
def State.reqDevice (s : State) (q : Req) : Nat :=
  match q.kind with
  | .spawn _ m => fld m.target.toNat 28 15
  | _ => if bitOf q.pa 55 then s.devId.toNat else fld q.pa 51 38

/-- R108, R345: a room's request leaves, or leaves again. -/
def State.sendReq (s : State) (q : Req) : State :=
  s.send (.request (s.reqDevice q) (requestHeader (s.reqPacket q) q.kind.packet.1) (requestBody (s.reqPacket q)))

/-- R312: what a home answers: status, data, and the words of it that are poisoned. -/
structure HomeReply where
  status : Nat
  data : List Byte := []
  poison : List Nat := []

/-- R312: the header of a response. -/
def responseHeader (opc : Nat) (q : ReqHeader) (r : HomeReply) (cached : Bool) : W128 :=
  azHeader opc q.cls.val true q.vcs q.bank (r.data.length - 1) (!r.poison.isEmpty) q.srcDie.val q.dstDie.val q.srcIsl.val q.gen.val
    q.tag.val cached r.data.isEmpty q.epoch.toNat (r.status * 2 ^ 51)

/-- R312: the response to a request of an operation leaves. -/
def State.respond (s : State) (opc : Nat) (q : ReqHeader) (r : HomeReply) (cached : Bool) : State :=
  s.send (.response q.srcDev (responseHeader opc q r cached) (azBody r.data (pmapOf r.poison)))

/-- R364: a packet is taken: its device is not absent, and this device has not heard of its own absence (TC0 excepted). -/
def State.admitsPacket (s : State) (q : ReqHeader) : Bool :=
  !s.absentDevs.contains q.srcDev.toNat && (!s.absentDevs.contains s.devId.toNat || q.cls == 0)

/-- R318: a die serves an operation. -/
def State.dieServes (s : State) (d opc : Nat) : Bool := bitOf (tgetD s.dies d {}).opcMap opc

/-- R318: a message is answered UNSUPPORTED where the die that it is for does not serve its operation. -/
def servedRun (q : ReqHeader) (opc : Nat) (s : State) (body : Result) : Result :=
  if s.dieServes q.dstDie.val opc then body else .next (s.respond opc q ⟨3, [], []⟩ false)

/-! ## LCTL (R315, R317) -/

/-- R315: what an LCTL message holds, by the kind in ADDR; kinds 2 to 15 are reserved. -/
inductive Lctl where
  | cap (record : List Byte)
  | crd (returns : BitVec 48)
  | ignored
  deriving DecidableEq, Repr

def lctlOf (addr : BitVec 55) (payload : List Byte) : Lctl :=
  match fld addr.toNat 54 51 with
  | 0 => .cap (payload.take 32)
  | 1 => .crd (BitVec.ofNat 48 addr.toNat)
  | _ => .ignored

/-- R317: the 32 bytes of a CAP record, and a record read from them. -/
def capBytes (c : CapRecord) : List Byte :=
  [c.azMajor, c.azMinor, c.dieKind, c.dieIndex] ++ toBytes 2 c.maker.toNat ++ [c.generation, c.stepping] ++ toBytes 4 c.opcMap.toNat ++
  toBytes 4 c.features.toNat ++ [c.vcCredit, c.module] ++ toBytes 2 0 ++ toBytes 8 c.uniqueLo.toNat ++ toBytes 4 0

def capOf (l : List Byte) : CapRecord :=
  let num (o n : Nat) : Nat := ofBytes ((l.drop o).take n)
  { azMajor := l.getD 0 0, azMinor := l.getD 1 0, dieKind := l.getD 2 0, dieIndex := l.getD 3 0, maker := BitVec.ofNat 16 (num 4 2)
    generation := l.getD 6 0, stepping := l.getD 7 0, opcMap := BitVec.ofNat 32 (num 8 4), features := BitVec.ofNat 32 (num 12 4)
    vcCredit := l.getD 16 0, module := l.getD 17 0, uniqueLo := BitVec.ofNat 64 (num 0x14 8) }

end Sys2Proof.Machine
end

