-- ==== Sys2Proof/Machine/Tree.lean ====
section
/-! DEFINITION. The tree unit: its queue, its checks and its commands (R238–R259, R539). -/
namespace Sys2Proof.Machine

/-! ## Commands (R244, R539) -/

def TreeCmd.w (c : TreeCmd) (j hi lo : Nat) : Nat := fld (wordN c.words j) hi lo
def TreeCmd.tag (c : TreeCmd) : Nat := c.w 0 63 56
def TreeCmd.count (c : TreeCmd) : Nat := c.w 0 47 40 + 1
def TreeCmd.listOff (c : TreeCmd) : Nat := c.w 0 22 0
def TreeCmd.seqTable (c : TreeCmd) : Nat := wordN c.words 1
def TreeCmd.kvFmt (c : TreeCmd) : Nat := c.w 2 63 60
def TreeCmd.dCode (c : TreeCmd) : Nat := c.w 2 59 58
def TreeCmd.blkLog2 (c : TreeCmd) : Nat := c.w 2 57 53
def TreeCmd.lhCount (c : TreeCmd) : Nat := c.w 2 47 32
def TreeCmd.lhFirst (c : TreeCmd) : Nat := c.w 2 14 0
def TreeCmd.k (c : TreeCmd) : Nat := c.w 3 63 48
def TreeCmd.logitOff (c : TreeCmd) : Nat := c.w 3 22 0
def TreeCmd.tokenBase (c : TreeCmd) : Nat := c.w 4 63 32
def TreeCmd.vSlice (c : TreeCmd) : Nat := c.w 4 31 0
def TreeCmd.pitch (c : TreeCmd) : Nat := c.w 5 63 32
def TreeCmd.outOff (c : TreeCmd) : Nat := c.w 5 22 0
def TreeCmd.sigBit (c : TreeCmd) : Nat := c.w 7 63 58
def TreeCmd.sigEn (c : TreeCmd) : Bool := c.w 7 57 57 == 1
def TreeCmd.sigOff (c : TreeCmd) : Nat := c.w 7 45 23
def TreeCmd.compOff (c : TreeCmd) : Nat := c.w 7 22 0
/-- R249: bytes of a key or value of one token. -/
def TreeCmd.e (c : TreeCmd) : Nat := headBytes c.kvFmt (64 * 2 ^ c.dCode)
/-- R209: positions of a page. -/
def TreeCmd.p (c : TreeCmd) : Nat := pageTokens c.kvFmt (64 * 2 ^ c.dCode)
def TreeCmd.lists (c : TreeCmd) : Bool := c.op != 5
def TreeCmd.copies (c : TreeCmd) : Bool := c.op == 4 || c.op == 7

/-- R244: the reserved fields, and the fields that the OP does not use, are 0. -/
def TreeCmd.unusedZero (c : TreeCmd) : Bool :=
  c.w 0 51 48 == 0 && c.w 0 39 23 == 0 && c.w 2 52 48 == 0 && c.w 2 31 15 == 0 && c.w 3 47 23 == 0 &&
  c.w 5 31 23 == 0 && c.w 6 63 0 == 0 && c.w 7 56 46 == 0 &&
  (c.copies || wordN c.words 2 == 0) && (c.op == 7 || c.blkLog2 == 0) &&
  (if c.op = 5 then c.listOff == 0 && c.seqTable == 0
   else wordN c.words 3 == 0 && wordN c.words 4 == 0 && wordN c.words 5 == 0)

/-- R539: REJECT_SHAPE. -/
def TreeCmd.badShape (c : TreeCmd) : Bool :=
  !c.unusedZero || (c.copies && c.dCode == 3) || (c.op == 7 && decide (24 < c.blkLog2)) ||
  (c.op == 5 && (c.k == 0 || decide (256 < c.k) || c.vSlice == 0 || decide (1048576 < c.vSlice)))

/-- R539: REJECT_ALIGN. -/
def TreeCmd.badAlign (c : TreeCmd) : Bool :=
  c.listOff % 16 != 0 || c.seqTable % 64 != 0 || c.logitOff % 4 != 0 || c.outOff % 8 != 0 ||
  (c.sigEn && c.sigOff % 8 != 0) || c.compOff % 16 != 0

/-- R539: REJECT_RANGE. -/
def TreeCmd.badRange (c : TreeCmd) : Bool :=
  decide (32768 < c.lhFirst + c.lhCount) || (c.lists && decide (pantrySize < c.listOff + 16 * c.count)) ||
  (c.op == 5 && (decide (pantrySize < c.logitOff + (c.count - 1) * c.pitch + 4 * c.vSlice) ||
    decide (pantrySize < c.outOff + c.count * c.k * 8))) ||
  (c.sigEn && decide (pantrySize < c.sigOff + 8)) || decide (pantrySize < c.compOff + 16)

/-- R539, R202: the checks in their order; 0 where the command passes. -/
def TreeCmd.check (c : TreeCmd) : Nat :=
  if c.op = 0 ∨ 8 < c.op then 0x10
  else if c.copies && !kvFmtOk c.kvFmt then 0x11
  else if c.badShape then 0x12
  else if c.badAlign then 0x13
  else if c.badRange then 0x14 else 0

/-! ## The list (R245) -/

/-- R245: an entry of the list. -/
structure TreeEntry where
  seq : Nat
  epoch : Nat
  flags : Nat
  treeOff : Nat
  arg : Nat
  deriving DecidableEq, Repr

def parseTreeEntry (l : List Byte) : TreeEntry := ⟨numAt l 0 4, numAt l 4 2, numAt l 6 1, numAt l 8 4, numAt l 12 4⟩

def State.treeEntryAt (s : State) (r : Nat) (c : TreeCmd) (j : Nat) : TreeEntry :=
  parseTreeEntry (s.bytesAt (pantryKey r (c.listOff + 16 * j)) 16)

/-- The virtual address of the table entry that a list entry names. -/
def TreeCmd.seqVa (c : TreeCmd) (e : TreeEntry) : Nat := (c.seqTable + e.seq * 64) % 2 ^ 64

/-- R242: the place of a table entry, as it may be read or written: the issuing room's pantry, or its attic in the interleaved
view. -/
def State.seqPlace (s : State) (r : Nat) (a : Authority) (n : Need) (va : Nat) : Option Place :=
  match s.translate r a n .load (BitVec.ofNat 64 va) with
  | .error _ => none
  | .ok x =>
    match s.placeFor r x.pa 64 with
    | .attic q false o => if q = r ∧ s.banksUsable r false o 64 = true then some (.attic q false o) else none
    | .pantry q o => if q = r then some (.pantry q o) else none
    | _ => none

/-- R213, R256: the 64 bytes of a table entry; none where the read fails or is poisoned. -/
def State.seqBytes (s : State) (r : Nat) (a : Authority) (va : Nat) : Option (Place × List Byte) :=
  match s.seqPlace r a .read va with
  | some p => (match s.memRead p 64 with | .data l => some (p, l) | _ => none)
  | none => none

/-- R246: a table entry can be written. -/
def State.seqWrites (s : State) (r : Nat) (a : Authority) (va : Nat) : Bool := (s.seqPlace r a .both va).isSome

/-- R162: what the reads of the table entries leave behind. -/
def State.treeNote (s : State) (r : Nat) (c : TreeCmd) : State :=
  (List.range c.count).foldl (fun t j =>
    if (s.treeEntryAt r c j).seq < 1048576 then t.noteSeq r c.auth (c.seqVa (s.treeEntryAt r c j)) else t) s

/-- Bytes of a list replaced from an offset on. -/
def patchBytes (l : List Byte) (off : Nat) (b : List Byte) : List Byte := l.take off ++ b ++ l.drop (off + b.length)

/-- R246: the list, or a table entry that it names, cannot be read. -/
def State.treeReadFails (s : State) (r : Nat) (c : TreeCmd) : Bool :=
  (List.range c.count).any fun j =>
    s.rangePoisoned (pantryKey r (c.listOff + 16 * j)) 16 ||
    (decide ((s.treeEntryAt r c j).seq < 1048576) && (s.seqBytes r c.auth (c.seqVa (s.treeEntryAt r c j))).isNone)

/-! ## Tree descriptors (R238–R240) -/

/-- Fields of the 640 bytes of a tree descriptor. -/
abbrev TreeDesc := List Byte
def TreeDesc.accMask (d : TreeDesc) : Nat := numAt d 0 8
def TreeDesc.baseLen (d : TreeDesc) : Nat := numAt d 8 4
def TreeDesc.accDepth (d : TreeDesc) : Nat := numAt d 0xC 1
def TreeDesc.nodes (d : TreeDesc) : Nat := numAt d 0xE 1
def TreeDesc.rep (d : TreeDesc) : Nat := numAt d 0xF 1
def TreeDesc.topK (d : TreeDesc) : Nat := numAt d 0x14 2
def TreeDesc.topP (d : TreeDesc) : Nat := numAt d 0x16 2
def TreeDesc.seed (d : TreeDesc) : Nat := numAt d 0x18 8
def TreeDesc.tempMult (d : TreeDesc) : Nat := numAt d 0x20 4
def TreeDesc.maskOff (d : TreeDesc) : Nat := numAt d 0x24 4
def TreeDesc.candOff (d : TreeDesc) : Nat := numAt d 0x28 4
def TreeDesc.parent (d : TreeDesc) (i : Nat) : Nat := numAt d (0x40 + i) 1
def TreeDesc.token (d : TreeDesc) (i : Nat) : Nat := numAt d (0x80 + 4 * i) 4

def State.treeDesc (s : State) (r off : Nat) : TreeDesc := s.bytesAt (pantryKey r off) 640

/-- R238: a descriptor lies aligned in the pantry. -/
def descPlaced (off : Nat) : Bool := off % 64 == 0 && decide (off + 640 ≤ pantrySize)

/-- R238, R239: a descriptor keeps the rules. -/
def TreeDesc.ok (d : TreeDesc) : Bool :=
  decide (1 ≤ d.nodes ∧ d.nodes ≤ 64 ∧ 1 ≤ d.rep ∧ d.rep ≤ 4 ∧ 1 ≤ d.topK ∧ d.topK ≤ 256) &&
  d.maskOff % 8 == 0 && d.candOff % 8 == 0 && numAt d 0x2C 20 == 0 &&
  decide (d.maskOff + d.nodes * d.rep * 8 ≤ pantrySize ∧ d.candOff + d.nodes * d.topK * 8 ≤ pantrySize) &&
  d.parent 0 == 0xFF && (List.range (d.nodes - 1)).all fun i => decide (d.parent (i + 1) < i + 1)

/-- R240: the row masks of nodes 0 to n − 1. -/
def TreeDesc.masks (d : TreeDesc) : Nat → List Nat
  | 0 => []
  | n + 1 => let l := d.masks n; l ++ [if n = 0 then 1 else l.getD (d.parent n) 0 ||| 2 ^ n]

/-- R240: the depth of a node. -/
def TreeDesc.depth (d : TreeDesc) (i : Nat) : Nat := popCount 64 ((d.masks (i + 1)).getD i 0)

/-- R238, R466: the words of a descriptor that hold inputs of PREP and ACCEPT read clean. -/
def State.descInputsClean (s : State) (r off : Nat) : Bool := !s.rangePoisoned (pantryKey r (off + 8)) 0x178

/-! ## Operations on one entry (R247–R255): the state after it, its RESULT, and its SEQ_EPOCH -/

/-- R249, R254: a page that the tree unit reads, or writes too: its banked offset. -/
def State.treePage (s : State) (r : Nat) (a : Authority) (n : Need) (va : Nat) : Option Nat :=
  match s.attnPage r a va, s.translate r a n .load (BitVec.ofNat 64 va) with
  | some (o, _), .ok _ => if bitOf (s.room r).cond.bankMap (atticBank true o) then some o else none
  | _, _ => none

def State.treePages (s : State) (r : Nat) (a : Authority) : List Nat → Option (List Nat)
  | [] => some []
  | va :: t =>
    match s.treePage r a .both va, s.treePages r a t with
    | some o, some l => some (o :: l)
    | _, _ => none

/-- R248: PREP; the table entry can be written or not. -/
def State.treePrep (s : State) (r : Nat) (p : Place) (writes : Bool) (b : List Byte) (e : TreeEntry) : State × Nat :=
  let d := s.treeDesc r e.treeOff
  if !descPlaced e.treeOff then (s, 6)
  else if !s.descInputsClean r e.treeOff then (s, 4)
  else if !d.ok then (s, 3)
  else if !writes then (s, 4)
  else
    let t := s.pwrite (.pantry r d.maskOff)
      (((d.masks d.nodes).flatMap fun m => (List.replicate d.rep (toBytes 8 m)).flatten).map (·, false))
    (t.memWrite p (patchBytes b 7 (toBytes 1 d.nodes)), 0)

/-- R249: the copies of KVPUT: source in the pantry, and target in the attic. -/
def TreeCmd.putCopies (c : TreeCmd) (nodes src : Nat) (pages : List Nat) : List (Nat × Nat) :=
  pages.zipIdx.flatMap fun q => (List.range nodes).flatMap fun i =>
    [(src + (q.2 * nodes + i) * c.e, q.1 + i * c.e), (src + ((c.lhCount + q.2) * nodes + i) * c.e, q.1 + 0x8000 + i * c.e)]

/-- R249: KVPUT. -/
def State.treeKvput (s : State) (r : Nat) (c : TreeCmd) (q : SeqEntry) (e : TreeEntry) : State × Nat :=
  let n := (s.treeDesc r e.treeOff).nodes
  if !descPlaced e.treeOff then (s, 6)
  else if s.wordPoisoned (pantryKey r (e.treeOff + 8)) then (s, 4)
  else if n = 0 ∨ 64 < n ∨ pantrySize < e.arg + 2 * c.lhCount * n * c.e then (s, 6)
  else match s.treePages r c.auth ((List.range c.lhCount).map fun h => q.provPage (c.lhFirst + h)) with
    | none => (s, 4)
    | some pages =>
      let copies := (c.putCopies n e.arg pages).map fun x => (s.pbytesAt (fun j => pantryKey r (x.1 + j)) c.e, x.2)
      (copies.foldl (fun t x => t.pwrite (.attic r true x.2) x.1) s, if copies.any (fun x => x.1.any (·.2)) then 5 else 0)

/-- R250: a logit as the order takes it. -/
def orderLogit (x : Nat) : Nat :=
  if fp32IsNan x then 0xFF800000 else if x = 0x7F800000 then 0x7F7FFFFF else x

/-- R250: a candidate: logit and token. -/
abbrev Cand := Nat × Nat
def emptyCand : Cand := (0xFF800000, 0xFFFFFFFF)

/-- R250: the order of candidates. -/
def Cand.before (a b : Cand) : Bool := decide (fp32Key b.1 < fp32Key a.1) || (a.1 == b.1 && decide (a.2 < b.2))

/-- A candidate placed in an ordered list. -/
def candInsert (x : Cand) : List Cand → List Cand
  | [] => [x]
  | y :: t => if x.before y then x :: y :: t else y :: candInsert x t

/-- R250, R251: the first k of a list of candidates in the order, padded with empty entries. -/
def candTop (k : Nat) (l : List Cand) : List Cand :=
  let m := l.foldl (fun m x => (candInsert x m).take k) []
  m ++ List.replicate (k - m.length) emptyCand

def candBytes (l : List Cand) : List Byte := l.flatMap fun c => toBytes 4 c.1 ++ toBytes 4 c.2

/-- R250: one row of TOPK: the candidates, and whether a logit reads poisoned. -/
def State.topkRow (s : State) (r : Nat) (c : TreeCmd) (row : Nat) : List Cand × Bool :=
  let o := c.logitOff + row * c.pitch
  (candTop c.k ((List.range c.vSlice).map fun j =>
    (orderLogit (ofBytes (s.bytesAt (pantryKey r (o + 4 * j)) 4)), (c.tokenBase + j) % 2 ^ 32)),
    s.rangePoisoned (pantryKey r o) (4 * c.vSlice))

/-- R252: a weight: the floor of 2^t × 2^40; none where t is no order difference. -/
def drawWeight (t : Nat) : Option Nat :=
  match fp32.value (fp32Exp2 t) with
  | .fin _ m e => some (floorShift m (e + 40)).toNat
  | _ => none

/-- R252: every weight of a list, in order; none where one cannot be formed. -/
def drawWeights (c0 mult : Nat) : List Cand → Option (List Nat)
  | [] => some []
  | c :: t =>
    match drawWeight (fp32Mul (fp32Sub c.1 c0) mult), drawWeights c0 mult t with
    | some w, some l => some (w :: l)
    | _, _ => none

/-- R252: the running sums. -/
def runningSums (a : Nat) : List Nat → List Nat
  | [] => []
  | w :: t => (a + w) :: runningSums (a + w) t

/-- R252: the weights that count: the leading ones of candidates that are not empty. -/
def leading : List (Cand × Nat) → List Nat
  | [] => []
  | (c, w) :: t => if w = 0 ∨ c = emptyCand then [] else w :: leading t

/-- R252: the index drawn from running sums that already end at the cut. -/
def drawIndex (sums : List Nat) (u : Nat) : Nat :=
  sums.findIdx fun x => decide (u * sums.getLastD 0 / 2 ^ 64 < x)

/-- R252: the sums up to the top-p cut. -/
def topPCut (topP : Nat) (sums : List Nat) : List Nat :=
  if topP = 0 then sums
  else sums.take (sums.findIdx (fun x => decide (topP * sums.getLastD 0 ≤ x * 2 ^ 16)) + 1)

/-- R252: the token drawn from a list; none where the list does not hold order values. -/
def drawToken (topP mult u : Nat) (l : List Cand) : Option Nat :=
  match l with
  | [] => none
  | c0 :: _ =>
    let mult := if bitOf mult 31 ∨ 0x7F800000 ≤ mult then 0 else mult
    if mult = 0 ∨ c0.1 = 0xFF800000 then some c0.2
    else match drawWeights c0.1 mult l with
      | none => none
      | some w =>
        let sums := topPCut topP (runningSums 0 (leading (l.zip w)))
        if sums = [] then none else some ((l.getD (drawIndex sums u) c0).2)

/-- R252: the draw at a node: its token, and whether its list reads poisoned. -/
def State.drawAt (s : State) (r : Nat) (d : TreeDesc) (q : SeqEntry) (i : Nat) : Nat × Bool :=
  let k := pantryKey r (d.candOff + i * d.topK * 8)
  let l := (List.range d.topK).map fun j =>
    (ofBytes (s.bytesAt (k + 8 * j) 4), ofBytes (s.bytesAt (k + 8 * j + 4) 4))
  let u := tokenDraw d.seed (q.len + d.depth i) q.key
  ((drawToken d.topP d.tempMult u l).getD ((Config.freeWord s.free (0x100 + i)).toNat % 2 ^ 32), s.rangePoisoned k (d.topK * 8))

/-- R253: the walk: the last node, its depth and the mask; the fuel is the number of nodes. -/
def TreeDesc.accept (d : TreeDesc) (drawn : List (Nat × Bool)) : Nat → Nat × Nat × Nat → Nat × Nat × Nat
  | 0, w => w
  | f + 1, (node, depth, mask) =>
    let x := drawn.getD node (0, true)
    if x.2 then (node, depth, mask)
    else match (List.range d.nodes).find? fun c => decide (node < c) && d.parent c == node && d.token c == x.1 with
      | none => (node, depth, mask)
      | some c => d.accept drawn f (c, depth + 1, mask ||| 2 ^ c)

/-- R252, R253: ACCEPT. -/
def State.treeAccept (s : State) (r : Nat) (q : SeqEntry) (e : TreeEntry) : State × Nat :=
  let d := s.treeDesc r e.treeOff
  if !descPlaced e.treeOff then (s, 6)
  else if !s.descInputsClean r e.treeOff then (s, 4)
  else if !d.ok then (s, 3)
  else
    let drawn := (List.range d.nodes).map (s.drawAt r d q)
    let w := d.accept drawn d.nodes (0, 1, 1)
    let stop := (drawn.getD w.1 (0, true)).2
    let words := toBytes 8 w.2.2 ++ toBytes 4 q.len ++ toBytes 1 w.2.1 ++ toBytes 1 w.1 ++
      (d.drop 0xE).take 2 ++ toBytes 4 (drawn.getD w.1 (0, true)).1 ++ (d.drop 0x14).take 4
    let pair (i : Nat) : Bool := (drawn.getD (i / 2 * 2) (0, false)).2 || (drawn.getD (i / 2 * 2 + 1) (0, false)).2
    let t := s.pwrite (.pantry r e.treeOff) (words.map (·, stop))
    let t := t.pwrite (.pantry r (e.treeOff + 0x180))
      (drawn.zipIdx.flatMap fun x => (toBytes 4 x.1.1).map (·, pair x.2))
    (t.bump, if drawn.any (·.2) then 5 else 0)

/-- R256: the fields of the last commit in a table entry. -/
def lastMask (b : List Byte) : Nat := numAt b 0x28 8
def lastBaseLen (b : List Byte) : Nat := numAt b 0x30 4

/-- R254: the entry after a commit that advances. -/
def advanced (b : List Byte) (base depth mask : Nat) : List Byte :=
  let b := patchBytes (patchBytes b 6 (toBytes 1 1 ++ toBytes 1 0)) 8 (toBytes 4 (base + depth))
  let b := patchBytes b 0x20 (toBytes 4 (numAt b 0x20 4 + 1) ++ toBytes 1 depth)
  patchBytes b 0x28 (toBytes 8 mask ++ toBytes 4 base)

/-- R254: a copy of a commit: the pages of its slot and of its destination by their addresses, and the place in each. -/
def TreeCmd.commitPairs (c : TreeCmd) (q : SeqEntry) (base : Nat) (slots : List Nat) : List (Nat × Nat × Nat × Nat) :=
  (List.range c.lhCount).flatMap fun h => slots.zipIdx.map fun z =>
    let x := base + z.2
    let lh := c.lhFirst + h
    (q.provPage lh, z.1 * c.e, q.kvPage (lh * 2 ^ c.blkLog2 + x / c.p), x % c.p * c.e)

/-- R254: one slot copied, key and value; whether its source is poisoned. -/
def State.copySlot (s : State) (r src dst e : Nat) : State × Bool :=
  let k := s.pbytesAt (fun j => atticKey r true (src + j)) e
  let v := s.pbytesAt (fun j => atticKey r true (src + 0x8000 + j)) e
  ((s.pwrite (.attic r true dst) k).pwrite (.attic r true (dst + 0x8000)) v, k.any (·.2) || v.any (·.2))

/-- R254: the page addresses of a commit translated: none where one fails or leaves the bank of its provisional page. -/
def State.commitPlaces (s : State) (r : Nat) (a : Authority) : List (Nat × Nat × Nat × Nat) → Option (List (Nat × Nat))
  | [] => some []
  | (pv, po, dv, dO) :: t =>
    match s.treePage r a .read pv, s.treePage r a .both dv, s.commitPlaces r a t with
    | some p, some d, some l => if atticBank true p = atticBank true d then some ((p + po, d + dO) :: l) else none
    | _, _, _ => none

/-- R254: COMMIT. -/
def State.treeCommit (s : State) (r : Nat) (c : TreeCmd) (p : Place) (writes : Bool) (b : List Byte) (q : SeqEntry) (e : TreeEntry) :
    State × Nat :=
  let d := s.treeDesc r e.treeOff
  let depth := d.accDepth
  if !descPlaced e.treeOff then (s, 6)
  else if s.rangePoisoned (pantryKey r e.treeOff) 16 then (s, 4)
  else if depth = 0 ∨ depth ≠ popCount 64 d.accMask ∨ d.accMask % 2 = 0 ∨ (0 < c.lhCount ∧ d.accMask / 2 ^ q.prov ≠ 0) then (s, 6)
  else if q.len = (d.baseLen + depth) % 2 ^ 32 ∧ lastBaseLen b = d.baseLen ∧ lastMask b = d.accMask then (s, 2)
  else if q.len ≠ d.baseLen then (s, 6)
  else if !writes then (s, 4)
  else
    match s.commitPlaces r c.auth (c.commitPairs q d.baseLen (setBits d.accMask)) with
    | none => (s.memWrite p (patchBytes b 6 (toBytes 1 1)), 4)
    | some l =>
      let u := l.foldl (fun t x => let y := t.1.copySlot r x.1 x.2 c.e; (y.1, t.2 || y.2)) (s, false)
      (u.1.memWrite p (if e.flags % 2 = 1 then advanced b d.baseLen depth d.accMask else patchBytes b 6 (toBytes 1 1)),
        if u.2 then 5 else 0)

/-- R247: OPEN: the entry opened with its new epoch. -/
def opened (b : List Byte) (epoch len : Nat) : List Byte :=
  patchBytes (b.take 4 ++ toBytes 2 epoch ++ toBytes 1 1 ++ toBytes 1 0 ++ toBytes 4 len ++ b.drop 12) 0x20
    (List.replicate 32 0)

/-- R247: the next epoch of a sequence entry. -/
def nextSeqEpoch (n : Nat) : Nat := if n = 0xFFFF then 1 else n + 1

/-- R245: one list entry processed: the state, its RESULT and the SEQ_EPOCH that stands in it afterwards. -/
def State.treeOne (s : State) (r : Nat) (c : TreeCmd) (e : TreeEntry) : State × Nat × Nat :=
  if 1048576 ≤ e.seq then (s, 6, e.epoch)
  else match s.seqBytes r c.auth (c.seqVa e) with
    | none => (s, 4, e.epoch)
    | some (p, b) =>
      let q := s.openSeq c.guard p (parseSeq b)
      let mine := q.epoch == e.epoch
      let writes := s.seqWrites r c.auth (c.seqVa e)
      let with_ (x : State × Nat) : State × Nat × Nat := (x.1, x.2, e.epoch)
      match c.op with
      | 1 =>
        if q.state ≠ 0 then (s, 1, e.epoch)
        else if !writes then (s, 4, e.epoch)
        else (s.memWrite p (opened b (nextSeqEpoch q.epoch) e.arg), 0, nextSeqEpoch q.epoch)
      | 2 => with_ (if !(q.state = 1 && mine) then (s, 1) else if !writes then (s, 4)
          else (s.memWrite p (patchBytes b 6 (toBytes 2 0)), 0))
      | 3 => with_ (if q.state = 1 && mine then s.treePrep r p writes b e else (s, 1))
      | 4 => with_ (if q.state = 1 && mine then s.treeKvput r c q e else (s, 1))
      | 6 => with_ (if q.state = 1 && mine then s.treeAccept r q e else (s, 1))
      | 7 => with_ (if (q.state = 1 || q.state = 2) && mine then s.treeCommit r c p writes b q e else (s, 1))
      | _ =>
        with_ (if !((q.state = 1 || q.state = 2) && mine) then (s, 1)
          else if bitOf e.flags 1 && decide (q.len < e.arg) then (s, 6)
          else if !writes then (s, 4)
          else if bitOf e.flags 1 then
            ((s.memWrite p (patchBytes (patchBytes b 6 (toBytes 1 1 ++ toBytes 1 0)) 8 (toBytes 4 e.arg)), 0))
          else (s.memWrite p (patchBytes b 6 (toBytes 1 1 ++ toBytes 1 0)), 0))

/-- R214: PROV_VA of an ACTIVE entry is guarded while its PROV_COUNT is not 0. -/
def State.guardProv (s : State) (r : Nat) (c : TreeCmd) (e : TreeEntry) : State :=
  match s.seqBytes r c.auth (c.seqVa e) with
  | some (p, b) =>
    let k := placeKey0 p
    if (parseSeq b).state ≠ 1 ∨ (parseSeq b).prov = 0 then s.dropGuard (.prov k)
    else if s.guards.any fun g => g.key == .prov k then s
    else s.setGuard (.prov k) r [(k + 0x18, k + 0x20)]
  | none => s

/-- R245: one list entry processed, with its RESULT written back. -/
def State.treeStep (s : State) (r : Nat) (c : TreeCmd) (j : Nat) : State × Nat :=
  let e := s.treeEntryAt r c j
  let x := s.treeOne r c e
  ((x.1.guardProv r c e).memWrite (.pantry r (c.listOff + 16 * j + 4)) (toBytes 2 x.2.2 ++ toBytes 1 e.flags ++ toBytes 1 x.2.1), x.2.1)

/-- R245: the first entries of the list in order: the state, and the RESULTs. -/
def State.treeList (s : State) (r : Nat) (c : TreeCmd) (n : Nat) : State × List Nat :=
  (List.range n).foldl (fun x j => let y := x.1.treeStep r c j; (y.1, x.2 ++ [y.2])) (s, [])

/-- R246: the status of the RESULTs, and the number of entries that failed; TOPK has no entries. -/
def treeStatus (l : List Nat) : Nat :=
  if l.all (fun x => x == 0 || x == 2) then 0 else if l.all (fun x => x == 0 || x == 2 || x == 5) then 1 else 2
def TreeCmd.failed (c : TreeCmd) (l : List Nat) : Nat := if c.lists then (l.filter fun x => x != 0 && x != 2).length else 0

/-- R250: TOPK: the first output rows, and for each whether it is poisoned. -/
def State.treeTopkRun (s : State) (r : Nat) (c : TreeCmd) (n : Nat) : State × List Nat :=
  (List.range n).foldl (fun x j =>
    let y := x.1.topkRow r c j
    (x.1.pwrite (.pantry r (c.outOff + j * c.k * 8)) ((candBytes y.1).map (·, y.2)), x.2 ++ [if y.2 then 5 else 0])) (s, [])

/-! ## Completion (R246) -/

/-- R259: a bit of TREE_ERR set, with its record. -/
def State.treeError (s : State) (r bit : Nat) : State :=
  let t := s.orReg .treeErr r (2 ^ bit)
  t.postRoom 0x63 r (t.regN .treeErr r)

/-- R246, R539: the command has its record and its SET. -/
def TreeCmd.records (c : TreeCmd) : Bool := !c.poisoned && c.compOff % 16 == 0 && decide (c.compOff + 16 ≤ pantrySize)

/-- R246: the record of a command. -/
def State.treeRecord (s : State) (r : Nat) (c : TreeCmd) (st failed : Nat) : State :=
  s.writePantry r c.compOff (toBytes 8 (c.tag * 2 ^ 56 + st * 2 ^ 48 + c.op * 2 ^ 32 + failed) ++ toBytes 8 s.now)

/-- R246: the head command completes: record, SET, error bit, count. -/
def State.treeFinish (s : State) (r : Nat) (c : TreeCmd) (st failed : Nat) : State :=
  let t := if c.records then s.treeRecord r c st failed else s
  let t := if c.records && c.sigEn && c.sigOff % 8 == 0 && decide (c.sigOff + 8 ≤ pantrySize)
    then t.signalSet r c.sigOff c.sigBit else t
  let t := if 0x10 ≤ st ∧ st ≤ 0x14 then t.treeError r 0 else if st = 1 ∨ st = 2 ∨ st = 0x23 then t.treeError r 2 else t
  ((t.modTree r fun x => { x with queue := x.queue.drop 1 }).dropSeqs c.guard).bumpCount .treeDoneCount r r

/-- R243: the command waits for attention steps that entered before it. -/
def State.treeHeld (s : State) (r : Nat) (c : TreeCmd) : Bool :=
  c.holdsAttn && (s.avu r).queue.any fun a => a.op == 2 && decide (a.entered < c.entered)

/-- R241, R246: the list entries, or rows, that the head command would process: 0 where it fails its checks or its reads. -/
def State.treeTodo (s : State) (r : Nat) (c : TreeCmd) : Nat :=
  if c.poisoned || c.check != 0 || (c.lists && (s.blur c.unfenced).treeReadFails r c) then 0 else c.count

/-- R241, R245: the first n entries, or rows, of the head command processed: the state, and the RESULTs. -/
def State.treePart (s : State) (r : Nat) (c : TreeCmd) (n : Nat) : State × List Nat :=
  let x := if c.lists then (s.blur c.unfenced).treeList r c n else (s.blur c.unfenced).treeTopkRun r c n
  let t := x.1.unblur (s.freshBytes c.unfenced)
  (if c.lists then t.treeNote r c else t, x.2)

/-- R241, R246: the head command runs to its end. -/
def State.treeRunHead (s : State) (r : Nat) (c : TreeCmd) : State :=
  if c.poisoned then s.treeFinish r c 0x23 0
  else if c.check ≠ 0 then s.treeFinish r c c.check 0
  else if s.treeTodo r c = 0 then (s.treeNote r c).treeFinish r c 0x23 0
  else (s.treePart r c c.count).1.treeFinish r c (treeStatus (s.treePart r c c.count).2) (c.failed (s.treePart r c c.count).2)

/-- R419: aborted commands that reach the head complete there; the fuel is the length of the queue. -/
def State.treeAborted : Nat → Nat → State → State
  | 0, _, s => s
  | f + 1, r, s =>
    match (s.tree r).queue with
    | c :: _ => if c.aborted then State.treeAborted f r (s.treeFinish r c 0x30 0) else s
    | [] => s

/-- R163, R171, R172: the attic takes the accesses of the head command now. -/
def State.treeOpen (s : State) (r : Nat) (c : TreeCmd) : Bool :=
  c.poisoned || c.check != 0 || !c.lists ||
  ((List.range c.count).all (fun j =>
      match s.seqPlace r c.auth .read (c.seqVa (s.treeEntryAt r c j)) with | some p => s.homeRuns 4 p 64 | none => true) &&
    (!c.copies || c.lhCount == 0 || s.stairRuns r))

/-- The head of the tree queue is a command of this OP. A poisoned command, or one with a reserved OP, goes with OPEN. -/
def TreeCmd.runsAs (c : TreeCmd) (op : Nat) : Bool :=
  if c.poisoned || c.op == 0 || decide (8 < c.op) then op == 1 else c.op == op

def treeRun (op : Nat) (r : RoomIx) (s : State) : Result :=
  match (s.tree r.val).queue with
  | [] => .next s
  | c :: _ => whenReady (c.runsAs op && !s.treeHeld r.val c && s.treeOpen r.val c) s (State.treeAborted 8 r.val (s.treeRunHead r.val c))

def execTreeOpen (r : RoomIx) (s : State) : Result := treeRun 1 r s
def execTreeClose (r : RoomIx) (s : State) : Result := treeRun 2 r s
def execTreePrep (r : RoomIx) (s : State) : Result := treeRun 3 r s
def execTreeKvput (r : RoomIx) (s : State) : Result := treeRun 4 r s
def execTreeTopk (r : RoomIx) (s : State) : Result := treeRun 5 r s
def execTreeAccept (r : RoomIx) (s : State) : Result := treeRun 6 r s
def execTreeCommit (r : RoomIx) (s : State) : Result := treeRun 7 r s
def execTreeRollback (r : RoomIx) (s : State) : Result := treeRun 8 r s

/-! ## Submission and flush (R241, R258) -/

/-- R214, R245: the places of the table entries that a KVPUT, COMMIT or ROLLBACK names. -/
def State.treeSeqs (s : State) (r : Nat) (c : TreeCmd) : List Place :=
  if !c.holdsAttn then []
  else (List.range c.count).filterMap fun j => s.seqPlace r c.auth .read (c.seqVa (s.treeEntryAt r c j))

/-- R241: a store to TREE_SUBMIT. -/
def State.treeSubmit (s : State) (r : Nat) (a : Authority) (writer : Option Nat) (value : Nat) : State :=
  let o := fld value 22 0
  let t := s.tree r
  if 8 ≤ t.queue.length ∨ o % 64 ≠ 0 ∨ pantrySize < o + 64 then s.treeError r 1
  else
    let k := pantryKey r o
    let open_ := match writer with | some h => s.freshRanges h | none => []
    let c : TreeCmd :=
      { words := (List.range 8).map fun j => BitVec.ofNat 64 (ofBytes ((s.blur open_).bytesAt (k + 8 * j) 8))
        poisoned := s.rangePoisoned k 64, auth := a, entered := (s.avu r).entered, guard := s.newGuard, unfenced := open_ }
    (((s.guardSeqs c.guard r (s.treeSeqs r c)).modTree r fun t => { t with queue := t.queue ++ [c] }).modAvu r
      fun x => { x with entered := x.entered + 1 }).bump

def execTreeSubmit (h : HartId) (value : W64) (s : State) : Result :=
  .next (s.treeSubmit h.room.val ((s.hart h).authority h.hart.val) (some (hkey h)) value.toNat)

/-- R243, R258: how many list entries the head command has processed when something ends it: 0 where it has not started, else a free
number. -/
def State.treeDone (s : State) (r : Nat) (c : TreeCmd) : Nat :=
  if s.treeHeld r c || !s.treeOpen r c then 0 else (Config.freeWord s.free 2600).toNat % (s.treeTodo r c + 1)

/-- R258: every command of the queue completes with ABORTED, in order; the fuel is the length of the queue. -/
def State.treeAbort : Nat → Nat → State → State
  | 0, _, s => s
  | f + 1, r, s =>
    match (s.tree r).queue with
    | [] => s
    | c :: _ => State.treeAbort f r (s.treeFinish r c 0x30 0)

/-- R419: at an orderly stop the running command finishes; those behind it, or that have not started, complete with ABORTED. -/
def State.treeStop (s : State) (r : Nat) : State :=
  State.treeAborted 8 r (s.modTree r fun t => { t with
    queue := t.queue.zipIdx.map fun p => if p.2 = 0 ∧ s.treeHeld r p.1 = false then p.1 else { p.1 with aborted := true } })

/-- R258: a running command finishes its current list entry and completes with ABORTED. -/
def State.treeEndHead (s : State) (r : Nat) : State :=
  match (s.tree r).queue with
  | [] => s
  | c :: _ =>
    let x := s.treePart r c (s.treeDone r c)
    (x.1.treeFinish r c 0x30 (c.failed x.2)).bump

/-- R258: TREE_CTRL.FLUSH. -/
def State.treeFlush (s : State) (r : Nat) : State := (State.treeAbort 8 r (s.treeEndHead r)).treeError r 3

def execTreeFlush (r : RoomIx) (s : State) : Result := .next (s.treeFlush r.val)

/-- R258: what a room reset leaves of the running command: some of its list entries are processed, and the next of a commit
or rollback may stand in COMMITTING; how many, and whether, is a free choice. -/
def State.treeCut (s : State) (r : Nat) : State :=
  match (s.tree r).queue with
  | [] => s
  | c :: _ =>
    if s.treeTodo r c = 0 ∨ s.treeHeld r c ∨ s.treeOpen r c = false then s
    else
      let j := s.treeDone r c
      let t := (s.treePart r c j).1
      if c.count ≤ j ∨ c.op < 7 ∨ Config.freeBool s.free 2601 = true then t.bump
      else
        let e := t.treeEntryAt r c j
        match t.seqBytes r c.auth (c.seqVa e) with
        | some (p, b) =>
          let q := parseSeq b
          (if (q.state = 1 ∨ q.state = 2) ∧ q.epoch = e.epoch then t.memWrite p (patchBytes b 6 (toBytes 1 2)) else t).bump
        | none => t.bump

/-- R259: TREE_STATUS. -/
def TreeB.status (t : TreeB) : Nat := t.queue.length * 2 ^ 48 + b2n (!t.queue.isEmpty)

end Sys2Proof.Machine
end

