-- ==== Sys2Proof/Machine/HartCore.lean ====
section
/-! DEFINITION. What happens to a hart from outside its own instructions: tags and outstanding requests, their ends, threads
that start and end, and joins (R87, R89, R90, R107, R108, R130, R156, R342). -/
namespace Sys2Proof.Machine

/-- R87: the thread ID of a hart. -/
def State.threadId (s : State) (hartKey : Nat) : Nat := s.devId.toNat * 2 ^ 15 + hartKey

def tagKey (island tag : Nat) : Nat := island * 4096 + tag
def State.tag (s : State) (island tag : Nat) : TagEntry := tgetD s.tags (tagKey island tag) {}
def State.setTag (s : State) (island tag : Nat) (e : TagEntry) : State := { s with tags := tset (tagKey island tag) e s.tags }

/-- The lowest free tag from a number on. The fuel bounds the search. -/
def State.freeTag (s : State) (island : Nat) : Nat → Nat → Option Nat
  | 0, _ => none
  | f + 1, t => if (s.tag island t).state = .free then some t else s.freeTag island f (t + 1)

/-- R108: the timeout of a class in a room, in ns. -/
def State.classTimeout (s : State) (r cls : Nat) : Nat :=
  max 1 (fld (s.regN .roomGtimeout r) (8 * cls + 7) (8 * cls)) * 10000

/-- R342: a request leaves with a free tag and its generation. -/
def State.issue (s : State) (h : HartId) (tag cls pa : Nat) (va : W64) (k : ReqKind) : State :=
  let r := h.room.val
  let t := s.tag r tag
  let q : Req := ⟨r, tag, t.gen, (s.room r).cond.epoch, h.hart.val, k, pa, va, cls, s.now, s.now + s.classTimeout r cls, false⟩
  { s.setTag r tag { t with state := .outstanding } with reqs := s.reqs ++ [q] }.sendReq q

/-- R342: a tag retired: its generation advances; it stays out of use where the request was reissued or timed out. -/
def State.retireTag (s : State) (q : Req) (hold : Bool) : State :=
  { s.setTag q.room q.tag ⟨(q.gen + 1) % 16, if hold then .held else .free⟩ with
    reqs := s.reqs.filter fun x => !(x.room == q.room && x.tag == q.tag) }

def State.findReq (s : State) (r tag : Nat) : Option Req := s.reqs.find? fun q => q.room == r && q.tag == tag

def ReqKind.isStore : ReqKind → Bool
  | .store _ | .signal _ => true
  | _ => false

/-- R85: stores of the hart are not yet acknowledged. -/
def State.hasStores (s : State) (h : HartId) : Bool :=
  s.reqs.any fun q => q.room == h.room.val && q.hart == h.hart.val && q.kind.isStore

/-- R108: a store ended in error: STORE_ERR, and the record. -/
def State.storeError (s : State) (hartKey : Nat) (va : W64) : State :=
  (s.modHartAt hartKey fun x => { x with storeErr := true }).post
    { roomRecord s 0x64 (hartKey / 32) va.toNat with flags := 33 }

/-- R108: a precise end in error of a load or atomic: LAST_CODE and the trap; a halted hart takes it when it resumes (R513). -/
def State.remoteTrap (s : State) (hartKey cause code : Nat) (va : W64) : State :=
  s.modHartAt hartKey fun x =>
    let y := { x with lastCode := BitVec.ofNat 4 code }
    if y.halted then { y with heldTrap := some (cause, va), wait := .none } else y.trap cause va

/-- A loaded value of n bytes, extended. -/
def extend (bytes : Nat) (unsigned : Bool) (x : Nat) : W64 :=
  if unsigned then BitVec.ofNat 64 x else BitVec.ofInt 64 (sgn (8 * bytes) x)

/-- R85: a single-precision value in a floating-point register is boxed. -/
def boxFp (bytes x : Nat) : W64 := if bytes = 4 then BitVec.ofNat 64 (0xFFFFFFFF * 2 ^ 32 + x) else BitVec.ofNat 64 x

/-- What a load delivers to the hart's registers. -/
def Hart.deliver (h : Hart) (rd bytes : Nat) (unsigned fp pair : Bool) (l : List Byte) : Hart :=
  let x := ofBytes l
  if pair then h.setPair rd (BitVec.ofNat 128 x)
  else if fp then { h with f := tset rd (boxFp bytes x) h.f }
  else h.setReg rd (extend bytes unsigned x)

/-- What an atomic delivers. -/
def Hart.deliverAtomic (h : Hart) (rd : Nat) (op : HomeAtomic) (pair : Bool) (l : List Byte) : Hart :=
  match op with
  | .leaseAcq .. | .leaseRel .. => h.setReg rd (BitVec.ofNat 64 (ofBytes l))
  | _ => h.deliver rd (homeWidth op) false false pair l

/-- R142: the 8-byte result of a lease operation; the old value of any other. -/
def answerBytes (op : HomeAtomic) (l : List Byte) : List Byte :=
  match op with
  | .leaseAcq .. | .leaseRel .. => l.take 8
  | _ => l

/-- R85: harts whose FENCE waited for stores that are now acknowledged retire it. -/
def State.endFence (s : State) (hartKey : Nat) : State :=
  if (s.hartAt hartKey).wait = .fence ∧ !(s.reqs.any fun q => q.room * 32 + q.hart == hartKey && q.kind.isStore)
  then s.modHartAt hartKey (·.retire) else s

/-- R107: the store with its acquire bit that a hart waits for has ended, and its instruction retires. -/
def State.endAcquire (s : State) (hartKey tag : Nat) : State :=
  if (s.hartAt hartKey).wait = .acquire tag then s.modHartAt hartKey (·.retire) else s

/-- The kind of access fault that an outstanding request raises. -/
def ReqKind.accessCause : ReqKind → Nat
  | .atomic .. => 7
  | _ => 5

/-- R108: the result of a request is delivered and the instruction retires. -/
def Hart.result (x : Hart) (k : ReqKind) (data : List Byte) : Hart :=
  match k with
  | .load rd b u f p => (x.deliver rd b u f p data).retire
  | .atomic rd op p => (x.deliverAtomic rd op p data).retire
  | .spawn rd _ => (x.setReg rd (BitVec.ofNat 64 (ofBytes data))).retire
  | _ => x

/-- R108: the data of a request that is answered reaches its hart, or is held while the hart is halted (R513). -/
def State.deliverResult (s : State) (q : Req) (data : List Byte) : State :=
  s.modHartAt (q.room * 32 + q.hart) fun x =>
    if x.halted then { x with heldResult := some (q.kind, data), wait := .none } else x.result q.kind data

/-- R89, R155: the status of a spawn reaches the spawner; a thread that started is its child. -/
def State.endSpawn (s : State) (q : Req) (m : SpawnMsg) (status : Nat) : State :=
  let t := s.deliverResult q (toBytes 8 status)
  if status = 0 then t.modRoom q.room fun y => { y with children := y.children ++ [⟨q.hart, m.target, .running⟩] } else t

/-- R89, R108: what a response does to its request: data delivered, or the end in error. A spawn whose target is absent returns
ABSENT, and no exception. -/
def State.endRequest (s : State) (q : Req) (status : Nat) (data : List Byte) (poison : Bool) : State :=
  let k := q.room * 32 + q.hart
  let code := if status = 2 then 2 else 4
  if q.kind.isStore then (((if status = 0 then s else s.storeError k q.va).endAcquire k q.tag).endFence k)
  else match q.kind with
  | .spawn _ m =>
    if status = 2 then s.endSpawn q m 2
    else if status ≠ 0 then s.remoteTrap k 5 code q.va
    else if poison then s.remoteTrap k 26 3 q.va
    else s.endSpawn q m (ofBytes data)
  | _ =>
    if status ≠ 0 then s.remoteTrap k q.kind.accessCause code q.va
    else if poison then s.remoteTrap k 26 3 q.va
    else s.deliverResult q data

/-- R107: an access with its release bit waits for the hart's earlier stores. -/
def State.released (s : State) (h : HartId) (rl : Bool) : Bool := !(rl && s.hasStores h)

/-- R107: an instruction with its release bit set is issued again until the hart's earlier stores are performed. -/
def whenReleased (h : HartId) (w : W32) (rl : Bool) (s : State) (body : State) : State :=
  if s.released h rl then body else s.modHart h fun x => { x with wait := .stall w }

/-- R142: the caller of a lease operation. -/
def State.callerId (s : State) (h : HartId) : W32 := BitVec.ofNat 32 (s.threadId (hkey h))
def State.callerEpoch (s : State) (h : HartId) : W16 := BitVec.ofNat 16 (s.room h.room.val).cond.epoch

/-- R130: when a wait that begins now times out. -/
def State.waitDeadline (s : State) (h : HartId) : Option Nat :=
  if (s.hart h).waitTmo = 0 then none else some (s.now + (s.hart h).waitTmo.toNat * 1000)

/-- R149: every hart of the list retires its sz.rbar with 0. -/
def State.releaseHarts (s : State) (r : Nat) (l : List Nat) : State :=
  l.foldl (fun s n => s.modHartAt (r * 32 + n) fun x =>
    match x.wait with | .rbar rd _ _ => (x.setReg rd 0).retire | _ => x) s

/-- R87: the hart of this device that a thread ID names. -/
def State.localThread (s : State) (t : W32) : Option HartId :=
  let n := t.toNat
  if h : n < 2 ^ 29 ∧ n / 2 ^ 15 = s.devId.toNat ∧ n % 2 ^ 15 / 32 < 768
  then some ⟨⟨n % 2 ^ 15 / 32, h.2.2⟩, ⟨n % 32, Nat.mod_lt _ (by decide)⟩⟩ else none

/-- R89: the status that a target room answers a SPAWN with. -/
def State.spawnStatus (s : State) (t : HartId) (m : SpawnMsg) : Nat :=
  let y := s.room t.room.val
  let c := s.regN .roomSpawnCtrl t.room.val
  if 2 ≤ y.cond.state ∨ y.phase ≠ .inService then 2
  else if m.priv = 0 ∧ (fld m.satp.toNat 59 44 ≠ fld c 15 0 ∨ !bitOf c 16) then 3
  else if !(s.hart t).idle ∨ (s.hart t).halted then 1 else 0

/-- R89: the thread that starts: pc, sp, a0, the spawner's privilege and satp; other registers 0. -/
def Hart.start (x : Hart) (spawner : Option W32) (priv : Nat) (satp pc sp arg : W64) : Hart :=
  { x with
    idle := false
    wait := .none
    pc := pc
    priv := (match priv with | 0 => .user | 1 => .supervisor | _ => .machine)
    x := [(2, sp), (10, arg)]
    f := []
    satp := satp
    spawner := spawner
    job := none
    resv := none
    gbar := none }

/-- R89: a SPAWN at its target: the thread starts where nothing refuses it. -/
def State.performSpawn (s : State) (t : HartId) (m : SpawnMsg) : State :=
  if s.spawnStatus t m = 0 then s.modHart t (·.start (some m.spawner) m.priv.val m.satp m.pc m.sp m.arg) else s

/-- R155: the outstanding request of a SPAWN that a hart of this device has sent. -/
def State.spawnReq (s : State) (m : SpawnMsg) : Option Req :=
  s.reqs.find? fun q => match q.kind with | .spawn _ x => x == m && s.threadId (q.room * 32 + q.hart) == m.spawner.toNat | _ => false

/-- R89, R155: the answer reaches the spawner of this device, which retires its sz.spawn with the status. -/
def State.answerSpawn (s : State) (m : SpawnMsg) (st : Nat) : State :=
  match s.spawnReq m with
  | some q => (s.retireTag q q.reissued).endRequest q 0 (toBytes 8 st) false
  | none => s

/-- R108, R113: a request that timed out may have been performed at its home on this device. -/
def State.performLate (s : State) (q : Req) : State :=
  let k := q.room * 32 + q.hart
  let p := s.place q.pa 1
  match q.kind with
  | .store l => if s.writeCode p l = 0 then (s.memWrite p l (some k)).storeAt p l.length else s
  | .signal op | .atomic _ op _ => if (s.atomicAnswer op p matches .data _) then s.atomicPerform op p (some k) else s
  | .spawn _ m => (match s.localThread m.target with | some t => s.performSpawn t m | none => s)
  | .load .. => s

/-- R108, R113: a request's class timeout expires. Whether a request whose home is on this device was performed is a
free choice. -/
def State.timeout (s : State) (q : Req) : State :=
  let k := q.room * 32 + q.hart
  let s := if Config.performedAfterTimeout s.free then s.performLate q else s
  let s := (s.bump.retireTag q true)
  if q.kind.isStore then ((s.storeError k q.va).endAcquire k q.tag).endFence k else s.remoteTrap k 25 1 q.va

/-- R156: the join retires with its status and value, and the child is forgotten. -/
def State.joined (s : State) (h : HartId) (rd : Nat) (child : W32) (st : Nat) (v : W64) : State :=
  (s.modHart h fun x => (x.setPair rd (v ++ BitVec.ofNat 64 st)).retire).modRoom h.room.val fun y =>
    { y with children := y.children.filter fun c => !(c.parent == h.hart.val && c.thread == child) }

/-- R90: a child's end reaches the spawner's room: held for the join, or ending it. -/
def State.childEnded (s : State) (p : HartId) (child : W32) (e : ChildEnd) : State :=
  match (s.hart p).wait with
  | .join rd c =>
    if c = child ∧ !(s.hart p).halted then
      (match e with | .exited v => s.joined p rd child 0 v | _ => s.joined p rd child 2 0)
    else s.modRoom p.room.val fun y =>
      { y with children := y.children.map fun c => if c.parent = p.hart.val ∧ c.thread = child then { c with state := e } else c }
  | _ => s.modRoom p.room.val fun y =>
      { y with children := y.children.map fun c => if c.parent = p.hart.val ∧ c.thread = child then { c with state := e } else c }

/-- R90, R313: the news of a thread's end is on its way to the spawner's room, or to its device. -/
def State.tellExit (s : State) (m : ExitMsg) : State :=
  if fld m.parent.toNat 28 15 = s.devId.toNat then { s with exitMsgs := s.exitMsgs ++ [m] }
  else s.send (.message (fld m.parent.toNat 28 15) 0x1C (exitPayload m.child m.status m.value))

/-- R157: the thread of a hart ends: its value is on its way to the spawner, and what it held is released. -/
def State.exitThread (s : State) (h : HartId) (v : W64) : State :=
  let r := h.room.val
  let x := s.hart h
  let t := (s.arrayRelease r h.hart.val).modRoom r fun y => { y with children := y.children.filter fun c => c.parent != h.hart.val }
  let t := match x.spawner with
    | some p => t.tellExit ⟨s.callerId h, p, 0, v⟩
    | none => t
  let t := match x.job with | some j => t.jobEnd j (.exited v) | none => t
  t.modHart h fun x => { x with idle := true, wait := .none, gbar := none, resv := none, spawner := none, job := none }

end Sys2Proof.Machine
end

