-- ==== Sys2Proof/Machine/Coll.lean ====
section
/-! DEFINITION. Collectives: descriptors, contributions, the combining tree of landings and collective units, completion,
and ends (R43, R44, R151–R154, R291–R295, R358–R361). -/
namespace Sys2Proof.Machine

/-! ## The descriptor (R151, R152) -/

def collOp (l : List W64) : Nat := fld (wordN l 0) 55 52
def collArith (l : List W64) : Nat := fld (wordN l 0) 51 48
def collElem (l : List W64) : Nat := fld (wordN l 0) 47 44
def collPartialOut (l : List W64) : Bool := bitOf (wordN l 0) 43
def collClass (l : List W64) : Nat := fld (wordN l 0) 42 40
def collCount (l : List W64) : Nat := fld (wordN l 0) 31 0
def collList (l : List W64) : Nat := wordN l 1
def collId (l : List W64) : W32 := BitVec.ofNat 32 (fld (wordN l 2) 63 32)
def collMembers (l : List W64) : Nat := fld (wordN l 2) 20 0
def collExpMult (l : List W64) : Nat := fld (wordN l 3) 63 32
def collIndex (l : List W64) : Nat := fld (wordN l 3) 29 10
def collEw (l : List W64) : Nat := fld (wordN l 3) 9 0
def collSrc (l : List W64) : Nat := wordN l 4
def collDst (l : List W64) : Nat := wordN l 5
def collCounts (l : List W64) : Nat := wordN l 6
def collSigOff (l : List W64) : Nat := fld (wordN l 7) 45 23
def collCompOff (l : List W64) : Nat := fld (wordN l 7) 22 0

/-- ALL_REDUCE or REDUCE_SCATTER. -/
def collReduces (l : List W64) : Bool := collOp l == 1 || collOp l == 2
def collExact (l : List W64) : Bool := collReduces l && collArith l == 0

/-- R152: a descriptor raises COLL_DESC. -/
def collBad (l : List W64) (p : Priv) : Bool :=
  collOp l == 0 || decide (8 < collOp l) || decide (3 < collArith l) || (collArith l != 0 && !collReduces l) ||
  decide (2 < collElem l) || (collReduces l && collArith l != 0 && collElem l != 0) || (collExact l && collElem l == 2) ||
  (collOp l == 6 && collCount l != 0) || collMembers l == 0 || decide (1048576 < collMembers l) ||
  decide (collMembers l ≤ collIndex l) || (collOp l == 4 && collCounts l == 0) ||
  (collExact l && !collPartialOut l && (match fp32.value (collExpMult l) with | .fin _ m _ => m == 0 | _ => true)) ||
  collCompOff l % 16 != 0 || decide (pantrySize < collCompOff l + 16) || collSigOff l % 8 != 0 ||
  decide (pantrySize < collSigOff l + 8) || (p == .user && (collClass l == 0 || collClass l == 7)) ||
  fld (wordN l 0) 39 32 != 0 || fld (wordN l 2) 31 21 != 0 || fld (wordN l 3) 31 30 != 0 || fld (wordN l 7) 56 46 != 0

/-! ## The tree of R44 over a member list -/

/-- The least level whose one node covers n members. -/
def rootLevelFrom (n : Nat) : Nat → Nat → Nat
  | 0, k => k
  | f + 1, k => if n ≤ 2 ^ k then k else rootLevelFrom n f (k + 1)
def rootLevel (n : Nat) : Nat := rootLevelFrom n 20 0

def CollInst.count (i : CollInst) : Nat := i.members.length
def CollInst.root (i : CollInst) : Nat := rootLevel i.count
/-- The node of a level that covers a member. -/
def nodeFirst (k m : Nat) : Nat := m / 2 ^ k * 2 ^ k
def CollInst.hasRight (i : CollInst) (k f : Nat) : Bool := decide (1 ≤ k ∧ f + 2 ^ (k - 1) < i.count)

/-- R87: the parts of a thread ID. -/
def tidDev (t : W32) : Nat := fld t.toNat 28 15
def tidWing (t : W32) : Nat := fld t.toNat 14 10
def tidRoom (t : W32) : Nat := tidWing t * 32 + fld t.toNat 9 5

def CollInst.devOf (i : CollInst) (m : Nat) : Nat := tidDev (i.members.getD m 0)
/-- Every member of the node is on the device. -/
def CollInst.nodeLocal (i : CollInst) (dev k f : Nat) : Bool := ((i.members.drop f).take (2 ^ k)).all fun t => tidDev t == dev

/-- R359: bytes of an element. -/
def elemSize (e : Nat) : Nat := match e with | 0 => 4 | 1 => 16 | _ => 1

def CollSig.exact (g : CollSig) : Bool := (g.op == 1 || g.op == 2) && g.arith == 0

/-- R291: bytes of a chunk, in the data of a node: 256, one record of LSE_MERGE, a whole list of TOPK_MERGE. -/
def CollInst.chunkSize (i : CollInst) : Nat :=
  match i.sig.op with
  | 7 => 16 + 4 * ((i.parts.head?.map fun p => ofBytes ((p.segs.headD []).take 2 |>.map (·.1))).getD 0)
  | 8 => 8 * i.sig.count
  | _ => 256

/-- Chunks of a node's data; an operation with no data still moves one. -/
def CollInst.chunks (i : CollInst) : Nat :=
  let n := i.sig.count
  let b := match i.sig.op with
    | 1 => n * (if i.sig.exact then 16 else 4)
    | 2 => i.count * n * (if i.sig.exact then 16 else 4)
    | 3 | 5 => n * elemSize i.sig.elem
    | _ => 0
  if i.sig.op = 7 then max 1 n else max 1 ((b + 255) / 256)

def CollInst.part (i : CollInst) (m : Nat) : Option CollPart := i.parts.find? (·.member == m)
def CollInst.stored (i : CollInst) (k f c : Nat) : Option CollChunk :=
  i.nodes.find? fun n => n.level == k && n.first == f && n.chunk == c

/-- The data of a node's chunk, with the flags of what it holds: a member's own, what has been combined or has arrived, or
that of its only child. -/
def CollInst.nodeData (i : CollInst) : Nat → Nat → Nat → Option (List PByte × Nat)
  | 0, f, c =>
    match i.part f with
    | some p => some (((p.segs.headD []).drop (c * i.chunkSize)).take i.chunkSize, p.flags)
    | none => (i.stored 0 f c).map fun n => (n.data, n.flags)
  | k + 1, f, c =>
    match i.stored (k + 1) f c with
    | some n => some (n.data, n.flags)
    | none => if i.hasRight (k + 1) f then none else i.nodeData k f c

/-! ## Combining (R291) -/

/-- Elements of n bytes combined one by one; a poisoned input poisons its element. The fuel is the number of bytes. -/
def combineElems (n : Nat) (f : Nat → Nat → Nat) : Nat → List PByte → List PByte → List PByte
  | 0, _, _ => []
  | _, [], _ => []
  | k + 1, a, b =>
    let x := a.take n
    let y := b.take n
    let bad := x.any (·.2) || y.any (·.2)
    (toBytes n (f (ofBytes (x.map (·.1))) (ofBytes (y.map (·.1))))).map (fun v => (v, bad)) ++
      combineElems n f k (a.drop n) (b.drop n)

/-- R227: a record read back from its bytes. -/
def parseLse (l : List Byte) : LseRecord :=
  let num (o n : Nat) : Nat := ofBytes ((l.drop o).take n)
  { flags := num 2 1, arith := num 3 1, m := num 4 4, l := num 8 4, blocks := num 12 4
    o := (List.range ((l.length - 16) / 4)).map fun j => num (16 + 4 * j) 4 }

def lsePair (a b : List PByte) : List PByte :=
  let bad := a.any (·.2) || b.any (·.2)
  let d := ofBytes ((a.take 2).map (·.1))
  ((lseStep (parseLse (a.map (·.1))) (parseLse (b.map (·.1)))).bytes d).map fun v => (v, bad)

def parseCands : Nat → List Byte → List Cand
  | 0, _ => []
  | n + 1, l => (ofBytes (l.take 4), ofBytes ((l.drop 4).take 4)) :: parseCands n (l.drop 8)

def topkPair (k : Nat) (a b : List PByte) : List PByte :=
  let bad := a.any (·.2) || b.any (·.2)
  (candBytes (candTop k (parseCands k (a.map (·.1)) ++ parseCands k (b.map (·.1))))).map fun v => (v, bad)

/-- R44, R291: two sibling chunks combined, the first preceding the second. -/
def CollSig.combine (g : CollSig) (a b : List PByte) : List PByte :=
  match g.op with
  | 1 | 2 =>
    (match g.arith with
      | 0 => combineElems 16 (fun x y => (combinePartial (BitVec.ofNat 128 x) (BitVec.ofNat 128 y)).toNat) a.length a b
      | 1 => combineElems 4 fp32Add a.length a b
      | 2 => combineElems 4 fp32Max a.length a b
      | _ => combineElems 4 fp32Min a.length a b)
  | 7 => lsePair a b
  | 8 => topkPair g.count a b
  | _ => []

/-! ## Outstanding collectives of rooms -/

def State.coll (s : State) (r : Nat) : List CollEntry := tgetD s.colls r []
def State.setColl (s : State) (r : Nat) (l : List CollEntry) : State := { s with colls := tset r l s.colls }
def State.inst (s : State) (id m0 : W32) : Option CollInst := s.insts.find? fun i => i.id == id && i.m0 == m0
def State.setInst (s : State) (i : CollInst) : State :=
  { s with insts := s.insts.map fun j => if j.id = i.id ∧ j.m0 = i.m0 then i else j }
def State.dropInst (s : State) (id m0 : W32) : State :=
  let gone := (s.insts.filter fun j => j.id == id && j.m0 == m0).flatMap (·.guards)
  { s with
    insts := s.insts.filter fun j => !(j.id == id && j.m0 == m0)
    guards := s.guards.filter fun g => !gone.any fun n => g.key == .work n }

/-- R154: what sz.gbar returns for a status. -/
def gbarResult (status : Nat) : Nat := match status with | 0 => 0 | 1 => 0 | 2 => 0 | 0x43 => 1 | 0x41 => 2 | _ => 3

/-- R361: the record, the SET, the free entry, and the end of a waiting sz.gbar. -/
def State.collRecord (s : State) (r : Nat) (e : CollEntry) (status arith failed : Nat) : State :=
  let l := e.words
  let w0 := fld (wordN l 0) 63 56 * 2 ^ 56 + status * 2 ^ 48 + arith * 2 ^ 40 + collOp l * 2 ^ 36 + failed * 2 ^ 12
  let t := s.writePantry r (collCompOff l) (toBytes 8 w0 ++ toBytes 8 s.now)
  let t := if bitOf (wordN l 7) 57 then t.signalSet r (collSigOff l) (fld (wordN l 7) 63 58) else t
  let t := t.setColl r ((t.coll r).filter fun x => x.slot != e.slot)
  if !e.gbar then t
  else t.modHartAt (r * 32 + e.hart) fun x =>
    match x.gbar with
    | some g =>
      if g.collId ≠ (collId l).toNat then x
      else (match x.wait with
        | .gbar rd _ => ({ x.setReg rd (BitVec.ofNat 64 (gbarResult status)) with gbar := none }).retire
        | _ => { x with gbar := some { g with result := some (gbarResult status) } })
    | none => x

/-- The rooms of the part that hold entries of an instance, with the entries. -/
def State.instEntries (s : State) (id m0 : W32) : List (Nat × CollEntry) :=
  s.colls.flatMap fun p => (p.2.filter fun e => collId e.words == id && e.m0 == m0).map fun e => (p.1, e)

/-- The other devices of a member list. -/
def State.otherDevs (s : State) (i : CollInst) : List Nat :=
  (i.members.map tidDev).foldl (fun l d => if d = s.devId.toNat then l else ninsert d l) []

/-- R151: an entry of the counts table: SEND_COUNT, SEND_OFF, RECV_COUNT, RECV_OFF of a member. -/
def countsEntry (l : List Byte) (m : Nat) : Nat × Nat × Nat × Nat :=
  let num (o : Nat) : Nat := ofBytes ((l.drop (16 * m + o)).take 4)
  (num 0, num 4, num 8, num 12)

/-- The counts table of a member, read through its translation. -/
def State.countsTable (s : State) (r : Nat) (e : CollEntry) : Option (List Byte) :=
  match s.unitRead r e.auth (collCounts e.words) (16 * collMembers e.words) with
  | .ok b => some (b.map (·.1))
  | .error _ => none

/-- R151: the row of a member in the counts table that an entry has read. -/
def CollEntry.counts (e : CollEntry) (m : Nat) : Nat × Nat × Nat × Nat := countsEntry (e.table.getD []) m

/-- R359: the ranges that a member's result is written to: address and bytes. -/
def CollEntry.dest (e : CollEntry) (lseBytes : Nat) : List (Nat × Nat) :=
  let l := e.words
  let n := collCount l
  let z := elemSize (collElem l)
  match collOp l with
  | 1 | 2 => [(collDst l, n * (if collExact l then (if collPartialOut l then 16 else 4) else 4))]
  | 3 => [(collDst l, collMembers l * n * z)]
  | 4 => (List.range (collMembers l)).map fun m => ((collDst l + (e.counts m).2.2.2 * z) % 2 ^ 64, (e.counts m).2.2.1 * z)
  | 5 => [(collDst l, n * z)]
  | 7 => if collIndex l = 0 then [(collDst l, lseBytes)] else []
  | 8 => if collIndex l = 0 then [(collDst l, n * 8)] else []
  | _ => []

/-- R361: what an end with MISMATCH or ABSENT leaves of the destination of a member: nothing specified. -/
def State.collSpoil (s : State) (i : CollInst) (r : Nat) (e : CollEntry) : State :=
  let n := match i.part (collIndex e.words) with | some p => (p.segs.headD []).length | none => 0
  (e.dest n).foldl (fun s q =>
    match s.unitWritePlaces r e.auth q.1 q.2 with
    | .ok l => s.spoilRanges (l.flatMap fun p => placeRanges p.1 p.2)
    | .error _ => s) s

/-- R358, R361: an instance ends here with a status of 0x40 or above, at every member that has contributed, and the end is
kept. -/
def State.endHere (s : State) (i : CollInst) (status failed : Nat) : State :=
  let t := if status = 0x40 ∨ status = 0x41 then (s.instEntries i.id i.m0).foldl (fun t p => t.collSpoil i p.1 p.2) s.bump else s
  let t := (s.instEntries i.id i.m0).foldl (fun t p => t.collRecord p.1 p.2 status 0 failed) t
  { t.dropInst i.id i.m0 with keptEnds := t.keptEnds ++ [⟨i.id, i.m0, status, failed, s.now⟩] }

/-- R358: an end that this device finds, which the other devices of the instance hear of. -/
def State.endInst (s : State) (i : CollInst) (status failed : Nat) : State :=
  (s.otherDevs i).foldl (fun t d => t.send (.collEnd d i.id i.m0 status failed)) (s.endHere i status failed)

/-- R361: a message of the collective reached the rooms of members of this device: their timers begin again. -/
def State.collHeard (s : State) (i : CollInst) (p : Nat → Bool) : State :=
  { s with
    colls := s.colls.map fun q => (q.1, q.2.map fun e =>
      if collId e.words = i.id ∧ e.m0 = i.m0 ∧ p (collIndex e.words) = true
      then { e with due := max e.due (s.now + s.classTimeout q.1 (collClass e.words)) } else e) }

/-! ## Where chunks go (R292, R360) -/

/-- R313: OPREF: wing, room and slot of the operation's first member on this device. -/
def State.opRef (s : State) (i : CollInst) : Nat :=
  match i.members.find? fun t => tidDev t == s.devId.toNat with
  | none => 0
  | some t =>
    let slot := (s.coll (tidRoom t)).find? fun e => collId e.words == i.id && e.m0 == i.m0
    tidWing t * 2 ^ 9 + fld t.toNat 9 5 * 2 ^ 4 + (slot.map (·.slot)).getD 0

/-- R313: the ADDR field of a COLL message. -/
def collAddr (op : Nat) (c : CollChunk) (ref : Nat) : BitVec 55 :=
  BitVec.ofNat 55 (op * 2 ^ 51 + c.level * 2 ^ 46 + c.first * 2 ^ 26 + c.chunk % 4096 * 2 ^ 14 + ref)

/-- R360: a chunk leaves for another device. -/
def State.sendChunk (s : State) (dev : Nat) (i : CollInst) (c : CollChunk) : State :=
  s.send (.collChunk dev i.id i.m0 (collAddr i.sig.op c (s.opRef i)) c)

/-- A chunk of a node is ready: it leaves for the device that combines the parent, or, for the root, to every other
device; a parent that spans devices and lies here is combined as soon as both children are. The fuel is the levels. -/
def State.climb (s : State) (id m0 : W32) : Nat → Nat → Nat → Nat → State
  | 0, _, _, _ => s
  | fuel + 1, k, f, c =>
    match s.inst id m0 with
    | none => s
    | some i =>
      match i.nodeData k f c with
      | none => s
      | some d =>
        let msg : CollChunk := ⟨k, f, c, d.1, d.2⟩
        if k = i.root then
          ((s.otherDevs i).foldl (fun s v => s.sendChunk v i msg) s).collHeard i (fun _ => true)
        else
          let pf := nodeFirst (k + 1) f
          if i.devOf pf ≠ s.devId.toNat then s.sendChunk (i.devOf pf) i msg
          else if !i.hasRight (k + 1) pf then s.climb id m0 fuel (k + 1) pf c
          else if i.nodeLocal s.devId.toNat (k + 1) pf then s
          else if (i.stored (k + 1) pf c).isSome then s
          else match i.nodeData k pf c, i.nodeData k (pf + 2 ^ k) c with
            | some a, some b =>
              (s.setInst { i with nodes := i.nodes ++ [⟨k + 1, pf, c, i.sig.combine a.1 b.1, a.2 ||| b.2⟩] }).climb
                id m0 fuel (k + 1) pf c
            | _, _ => s

/-- The operation combines in the tree; the others only move each member's data. -/
def CollSig.inTree (g : CollSig) : Bool := g.op == 1 || g.op == 2 || g.op == 6 || g.op == 7 || g.op == 8

/-- R359: the chunks of a new contribution start on their way. -/
def State.launch (s : State) (i : CollInst) (m : Nat) : State :=
  if i.sig.inTree then (List.range i.chunks).foldl (fun s c => s.climb i.id i.m0 24 0 m c) s
  else if i.sig.op = 5 ∧ m ≠ 0 then s
  else match i.part m with
    | none => s
    | some p =>
      (List.range (if i.sig.op = 4 then 1 else i.chunks)).foldl (fun s c =>
        (s.otherDevs i).foldl (fun s v =>
          s.sendChunk v i ⟨0, m, c, ((p.segs.headD []).drop (c * 256)).take 256, p.flags⟩) s) s

/-! ## Contributions (R153, R358, R359) -/

/-- The bytes of a member's list, as thread IDs. -/
def parseTids : Nat → List Byte → List W32
  | 0, _ => []
  | n + 1, l => BitVec.ofNat 32 (ofBytes (l.take 4)) :: parseTids n (l.drop 4)

def collSig (l : List W64) (listBytes : List Byte) : CollSig where
  op := collOp l
  arith := collArith l
  elem := collElem l
  partialOut := collPartialOut l
  cls := collClass l
  ew := collEw l
  members := collMembers l
  count := if collOp l = 4 then 0 else collCount l
  crc := crc32 listBytes

/-- R43: FP32 inputs of an exact reduction as partials, with the flags of their conversion. The fuel is the elements. Whether the
flags of a poisoned input count, R43 and R361 do not say; here they do not (DESIGN CHOICE, log 98). -/
def toPartials (ew : Int) : Nat → List PByte → List PByte × Nat
  | 0, _ => ([], 0)
  | n + 1, l =>
    let x := fp32ToPartial (ofBytes ((l.take 4).map (·.1))) ew
    let bad := (l.take 4).any (·.2)
    let t := toPartials ew n (l.drop 4)
    ((toBytes 16 x.1.toNat).map (fun v => (v, bad)) ++ t.1, (if bad then 0 else x.2) ||| t.2)

/-- The pieces that a member sends to each member, ALL_TO_ALL. -/
def State.sendPieces (s : State) (r : Nat) (e : CollEntry) : List Nat → Option (List (List PByte))
  | [] => some []
  | m :: rest =>
    let k := e.counts m
    let z := elemSize (collElem e.words)
    match s.unitRead r e.auth ((collSrc e.words + k.2.1 * z) % 2 ^ 64) (k.1 * z), s.sendPieces r e rest with
    | .ok b, some l => some (b :: l)
    | _, _ => none

/-- R359: a member's data, ready to combine, and its conversion flags; nothing where a translation fails. -/
def State.collData (s : State) (r : Nat) (e : CollEntry) : Option (List (List PByte) × Nat) :=
  let l := e.words
  let n := collCount l
  let z := elemSize (collElem l)
  let read (k : Nat) : Option (List PByte) :=
    match s.unitRead r e.auth (collSrc l) k with | .ok b => some b | .error _ => none
  match collOp l with
  | 1 | 2 =>
    let k := if collOp l = 2 then collMembers l * n else n
    (read (k * z)).map fun b =>
      if collExact l && collElem l == 0 then let p := toPartials (sgn 10 (collEw l)) k b; ([p.1], p.2) else ([b], 0)
  | 3 => (read (n * z)).map fun b => ([b], 0)
  | 4 =>
    if e.table.isNone then none else (s.sendPieces r e (List.range (collMembers l))).map fun b => (b, 0)
  | 5 => if collIndex l = 0 then (read (n * z)).map fun b => ([b], 0) else some ([], 0)
  | 7 =>
    if n = 0 then some ([[]], 0)
    else (match read 2 with
      | none => none
      | some h => (read (n * (16 + 4 * ofBytes (h.map (·.1))))).map fun b => ([b], 0))
  | 8 => (read (n * 8)).map fun b => ([b], 0)
  | _ => some ([[]], 0)

/-- Every range of a destination can be written. -/
def State.destOk (s : State) (r : Nat) (e : CollEntry) (lseBytes : Nat) : Bool :=
  (e.dest lseBytes).all fun p => match s.unitWritePlaces r e.auth p.1 p.2 with | .ok _ => true | .error _ => false

/-- R361: the first member whose room or device is absent. -/
def State.absentMember (s : State) (members : List W32) : Option Nat :=
  (members.zipIdx.find? fun p =>
    if tidDev p.1 = s.devId.toNat then decide (23 < tidWing p.1 ∨ 2 < (s.room (tidRoom p.1)).cond.state)
    else s.absentDevs.contains (tidDev p.1)).map (·.2)

/-- The first member whose thread ID appears again later. -/
def firstDuplicate : List W32 → Nat → Option Nat
  | [], _ => none
  | t :: l, k => if l.contains t then some k else firstDuplicate l (k + 1)

/-- R227: the D of the first record of some data, if it has one. -/
def lseDim (b : List PByte) : List Nat := if b.isEmpty then [] else [ofBytes ((b.take 2).map (·.1))]

/-- R358: the record sizes that an instance of LSE_MERGE has seen: of its members here and of chunks combined or received. -/
def CollInst.dims (i : CollInst) : List Nat := (i.parts.flatMap fun p => lseDim (p.segs.headD [])) ++ i.nodes.flatMap fun n => lseDim n.data

/-- R358: records of another D than some that have been seen. -/
def CollInst.dimDiffers (i : CollInst) (b : List PByte) : Bool := i.sig.op == 7 && (lseDim b).any fun d => i.dims.any (· != d)

/-- R358: the records of the contribution itself differ in D. -/
def lseMixed (n : Nat) (b : List PByte) : Bool :=
  let z := b.length / n
  (List.range n).any fun j => ((b.drop (j * z)).take 2).map (·.1) != (b.take 2).map (·.1)

/-- R358: a contribution that does not match: the member named. -/
def CollInst.mismatch (i : CollInst) (g : CollSig) (caller : W32) (p : CollPart) : Option Nat :=
  if i.sig ≠ g then some p.member
  else if i.members.getD p.member 0 ≠ caller then some p.member
  else match firstDuplicate i.members 0 with
    | some k => some k
    | none =>
      if g.op = 7 ∧ g.count ≠ 0 ∧ (lseMixed g.count (p.segs.headD []) = true ∨ i.dimDiffers (p.segs.headD []) = true)
      then some p.member else none

/-- R153: the virtual ranges that a member's contribution reads: list, counts table and source. -/
def CollEntry.reads (e : CollEntry) (bytes : Nat) : List (Nat × Nat) :=
  let l := e.words
  let z := elemSize (collElem l)
  (collList l, 4 * collMembers l) ::
  (match collOp l with
    | 1 | 3 => [(collSrc l, collCount l * z)]
    | 2 => [(collSrc l, collMembers l * collCount l * z)]
    | 4 => (collCounts l, 16 * collMembers l) ::
      (List.range (collMembers l)).map fun m => ((collSrc l + (e.counts m).2.1 * z) % 2 ^ 64, (e.counts m).1 * z)
    | 5 => if collIndex l = 0 then [(collSrc l, collCount l * z)] else []
    | 7 => [(collSrc l, bytes)]
    | 8 => [(collSrc l, collCount l * 8)]
    | _ => [])

/-- R153: the virtual ranges that a collective's descriptor names: source, destination, list and counts table. -/
def CollEntry.names (e : CollEntry) (bytes : Nat) : List (Nat × Nat) := e.reads bytes ++ e.dest bytes

/-- R227, R359: the bytes of the records of a contribution to LSE_MERGE, by the D of the first. -/
def State.lseBytes (s : State) (r : Nat) (e : CollEntry) : Nat :=
  if collOp e.words ≠ 7 ∨ collCount e.words = 0 then 0
  else match s.unitRead r e.auth (collSrc e.words) 2 with
    | .ok h => collCount e.words * (16 + 4 * ofBytes (h.map (·.1)))
    | .error _ => 2

/-- R163, R171: the homes of what a contribution reads answer now. -/
def State.collOpen (s : State) (r : Nat) (e : CollEntry) : Bool :=
  (e.reads (s.lseBytes r e)).all fun q => s.unitOpen r e.auth .read .load (collClass e.words) q.1 q.2

/-- What the reads of a contribution leave behind: the views used, and accesses to unusable banks (R162). -/
def State.collNote (s : State) (r : Nat) (e : CollEntry) : State :=
  (e.reads (s.lseBytes r e)).foldl (fun t q => t.unitNote r e.auth q.1 q.2) s

/-- R153: the guard of a member that contributes, until it completes. -/
def State.collGuard (s : State) (r : Nat) (e : CollEntry) (bytes : Nat) : State :=
  let keys := (e.names bytes).flatMap fun q =>
    match s.unitPlaces r e.auth .read .load (fun _ => true) (pageList q.1 q.2) with
    | .ok l => l.flatMap fun p => placeRanges p.1 p.2
    | .error _ => []
  let t := s.setColl r ((s.coll r).map fun x => if x.slot = e.slot then { x with guard := s.newGuard } else x)
  t.setGuard (.work s.newGuard) r keys

/-- R358: instances of one COLL_ID that share a member, or one to which a member contributes again, may take contributions
of each other: their results are unspecified. -/
def State.mixInsts (s : State) (i : CollInst) (member : Nat) : State :=
  let again := (i.part member).isSome
  let clash (j : CollInst) : Bool := j.id == i.id && j.m0 != i.m0 && j.members.any i.members.contains
  { s with insts := s.insts.map fun j =>
      if clash j || ((again || s.insts.any clash) && j.id == i.id && j.m0 == i.m0) then { j with mixed := true } else j }

/-- R153, R358, R359: the data of a member joins its instance, or ends it; `fresh`, when no contribution came before. -/
def State.contributeTo (s : State) (r : Nat) (e : CollEntry) (i : CollInst) (g : CollSig) (fresh : Bool) : State :=
  let l := e.words
  match (if fresh then s.absentMember i.members else none) with
  | some k => s.endInst i 0x41 k
  | none =>
    match s.collData r e with
    | none => s.endInst i 0x42 (collIndex l)
    | some d =>
      let p : CollPart := ⟨collIndex l, d.1, d.2⟩
      match i.mismatch g (BitVec.ofNat 32 (s.threadId (r * 32 + e.hart))) p with
      | some k => s.endInst i 0x40 k
      | none =>
        if !s.destOk r e (d.1.headD []).length then s.endInst i 0x42 (collIndex l)
        else
          let s := s.mixInsts i p.member
          let i := { (s.inst i.id i.m0).getD i with parts := i.parts ++ [p], guards := i.guards ++ [s.newGuard] }
          ((s.collGuard r e (d.1.headD []).length).setInst i).bump.launch i p.member

/-- R153, R358: a member of a room contributes. -/
def State.contribute (s0 : State) (r : Nat) (e : CollEntry) : State :=
  let l := e.words
  let s := s0.collNote r e
  match s.unitRead r e.auth (collList l) (4 * collMembers l) with
  | .error _ => s.collRecord r e 0x42 0 (collIndex l)
  | .ok lb =>
    let bytes := lb.map (·.1)
    let members := parseTids (collMembers l) bytes
    let m0 := members.headD 0
    let e := { e with m0 := m0 }
    let s := s.setColl r ((s.coll r).map fun x => if x.slot = e.slot then e else x)
    match s.keptEnds.find? fun k => k.id == collId l && k.m0 == m0 with
    | some k => s.collRecord r e k.status 0 k.failed
    | none =>
      let g := collSig l bytes
      let fresh := (s.inst (collId l) m0).isNone
      let s := if fresh then { s with insts := s.insts ++ [{ id := collId l, m0 := m0, sig := g, members := members }] } else s
      match s.inst (collId l) m0 with
      | none => s
      | some i => s.contributeTo r e i g fresh

/-! ## The instructions (R153, R154) -/

/-- R153: the lowest free slot of a room. -/
def State.freeSlot (s : State) (r : Nat) : Option Nat := (List.range 16).find? fun n => !(s.coll r).any (·.slot == n)

/-- R153: an accepted collective: its slot taken, its contribution made. -/
def State.collEntry (s : State) (h : HartId) (n : Nat) (l : List W64) (gbar : Bool) : CollEntry :=
  let r := h.room.val
  let e : CollEntry :=
    { slot := n, hart := h.hart.val, words := l, auth := (s.hart h).authority h.hart.val, issued := s.now
      due := s.now + s.classTimeout r (collClass l), gbar }
  if collOp l = 4 then { e with table := s.countsTable r e } else e

/-- It is accepted once the homes of what it reads answer; until then its instruction does not retire (DESIGN CHOICE, log 99). -/
def State.collAccept (s t : State) (h : HartId) (n : Nat) (l : List W64) (gbar : Bool) (done : State → State) : State :=
  let r := h.room.val
  let e := t.collEntry h n l gbar
  if t.collOpen r e then ((done t).setColl r (t.coll r ++ [e])).contribute r e else s

def execSzColl (h : HartId) (w : W32) (s : State) : Result :=
  szRun h w (szIs custom3 0 w || (szSpace w == custom3 && (szRow w).isNone)) s fun s =>
    let x := s.hart h
    s.withDescriptor h (x.reg (szRs1 w)) 64 fun l t =>
      if collBad l x.priv then t.szOperand h 0x0A
      else match t.freeSlot h.room.val with
        | none => t.result h (szRd w) 1
        | some n => whenReleased h w true t (s.collAccept t h n l false fun t => t.result h (szRd w) 0)

def execSzGbar (h : HartId) (w : W32) (s : State) : Result :=
  szRun h w (szIs custom3 1 w) s fun s =>
    let x := s.hart h
    let wait (s : State) : State := s.modHart h fun x => { x with wait := .gbar (szRd w) (s.waitDeadline h) }
    s.withDescriptor h (x.reg (szRs1 w)) 64 fun l t =>
      if collBad l x.priv || collOp l != 6 then t.szOperand h 0x0A
      else match x.gbar with
        | some g =>
          if g.collId ≠ (collId l).toNat then t.szOperand h 0x0B
          else (match g.result with
            | some v => (t.result h (szRd w) v).modHart h fun x => { x with gbar := none }
            | none => wait t)
        | none =>
          match t.freeSlot h.room.val with
          | none => t.modHart h fun x => { x with wait := .stall w }
          | some n =>
            whenReleased h w true t (s.collAccept t h n l true fun t =>
              (wait t).modHart h fun x => { x with gbar := some ⟨(collId l).toNat, none⟩ })

/-- R154: the wait ends; the arrival stays in the fabric. -/
def execSzGbarTimeout (h : HartId) (s : State) : Result :=
  match (s.hart h).wait with
  | .gbar rd (some d) => .next ((s.reach d).modHart h fun x => ({ x.setReg rd 1 with gbar := none }).retire)
  | _ => .next s

/-! ## Combining and arriving chunks (R292, R294, R360) -/

/-- R294: the next chunk of a node that has not been combined. -/
def CollInst.nextChunk (i : CollInst) (k f : Nat) : Option Nat :=
  (List.range i.chunks).find? fun c => (i.stored k f c).isNone

/-- R294: the children of a node receive a chunk credit; a child that is a room hears from the collective. -/
def State.creditRooms (s : State) (i : CollInst) (k f : Nat) : State :=
  s.collHeard i fun m => k == 1 && nodeFirst 1 m == f

/-- R294: the child holds its credit: chunk c - 1 of it has gone to the landing of this device that owns its parent, which has
combined chunk c - 2. Credits of other devices reach it at once (DESIGN CHOICE, log 100). -/
def State.chunkCredit (s : State) (i : CollInst) (k f c : Nat) : Bool :=
  let pf := nodeFirst (k + 1) f
  decide (c < 2 ∨ k = i.root) || !i.hasRight (k + 1) pf || !i.nodeLocal s.devId.toNat (k + 1) pf ||
  (i.stored (k + 1) pf (c - 2)).isSome

/-- R419: the rooms below a node of level 1 have sent chunk c: a room that stops sends no further one. -/
def CollInst.chunkSent (i : CollInst) (k f c : Nat) : Bool :=
  k != 1 || [f, f + 1].all fun m => match tget m i.frozen with | some n => decide (c < n) | none => true

/-- R294, R419: a room stops: of each collective of its members, the chunks for which it holds a credit have been sent. -/
def State.freezeChunks (s : State) (r : Nat) : State :=
  { s with insts := s.insts.map fun i =>
      { i with frozen := (List.range i.members.length).foldl (fun t m =>
          if i.devOf m = s.devId.toNat ∧ tidRoom (i.members.getD m 0) = r ∧ (tget m t).isNone
          then tset m ((i.nextChunk 1 (nodeFirst 1 m)).getD i.chunks + 2) t else t) i.frozen } }

/-- R428: the part resumes, and its rooms send again. -/
def State.thawChunks (s : State) : State := { s with insts := s.insts.map fun i => { i with frozen := [] } }

/-- R291, R293: the chunk that a landing combines; one that used an uncorrectable accumulator word is poisoned. -/
def CollSig.landed (g : CollSig) (ue : Bool) (a b : List PByte) : List PByte :=
  if ue then (g.combine a b).map fun x => (x.1, true) else g.combine a b

/-- R291-R294: a landing combines the next chunk of a node. -/
def execLandingCombine (w : WingIx) (id m0 : W32) (level : Fin 32) (node : LandingNode) (s : State) : Result :=
  match s.inst id m0 with
  | none => .next s
  | some i =>
    let k := level.val
    let f := node.first.val
    let ok := i.sig.inTree && i.hasRight k f && f % 2 ^ k == 0 && i.nodeLocal s.devId.toNat k f &&
      tidWing (i.members.getD f 0) == w.val
    match i.nextChunk k f with
    | none => .next s
    | some c =>
      match i.nodeData (k - 1) f c, i.nodeData (k - 1) (f + 2 ^ (k - 1)) c with
      | some a, some b =>
        let j := { i with nodes := i.nodes ++ [⟨k, f, c, i.sig.landed node.ue a.1 b.1, a.2 ||| b.2⟩] }
        whenReady (ok && s.chunkCredit i k f c && i.chunkSent k f c) s (((s.setInst j).creditRooms j k f).climb id m0 24 k f c)
      | _, _ => .next s

/-- The bytes of a payload with its map of poisoned words. -/
def payloadBytes (l : List Byte) (pmap : W32) : List PByte := l.zipIdx.map fun p => (p.1, bitOf pmap.toNat (p.2 / 8))

/-- R294, R313: the chunk that a CHUNK field names, which is its index modulo 4,096: the next one of the child. -/
def CollInst.arriving (i : CollInst) (k f chunk : Nat) : Option Nat :=
  match (List.range i.chunks).find? fun c => (i.nodeData k f c).isNone with
  | some c => if c % 4096 = chunk then some c else none
  | none => none

/-- R358, R360: a chunk of a subtree of another device reaches its unit: the operation and the records that it carries match what
is here, and it takes its place; else the instance ends with MISMATCH. -/
def State.takeChunk (s : State) (i : CollInst) (op : Nat) (n : CollChunk) : State :=
  if op ≠ i.sig.op ∨ i.dimDiffers n.data = true then s.endInst i 0x40 n.first
  else
    let t := s.setInst { i with nodes := i.nodes ++ [n] }
    let t := if n.level = i.root ∨ i.sig.inTree = false then t.collHeard i (fun _ => true) else t
    if i.sig.inTree && n.level != i.root then t.climb i.id i.m0 24 n.level n.first n.chunk else t

/-- R358: the unit of another device has ended the instance. -/
def State.hearEnd (s : State) (id m0 : W32) (status failed : Nat) : State :=
  match s.inst id m0 with
  | some i => s.endHere i status failed
  | none => { s with keptEnds := s.keptEnds ++ [⟨id, m0, status, failed, s.now⟩] }

def execMsgColl (q : ReqHeader) (c : CollPacket) (s : State) : Result :=
  if q.srcDev = s.devId ∨ s.admitsPacket q = false then .next s
  else servedRun q 0x1D s <| match c.ended with
    | some e => whenReady (decide (0x40 ≤ e.1.toNat ∧ e.1.toNat ≤ 0x43)) s
        ((s.hearEnd c.id c.m0 e.1.toNat e.2.val).respond 0x1D q ⟨0, [], []⟩ false)
    | none =>
      match s.inst c.id c.m0 with
      | none => .next s
      | some i =>
        let k := c.level.val
        let f := c.first.val
        match i.arriving k f c.chunk.val with
        | none => .next s
        | some n =>
          whenReady (decide (k ≤ i.root ∧ f % 2 ^ k = 0 ∧ f < i.count) && i.devOf f == q.srcDev.toNat) s
            ((s.takeChunk i c.op.val ⟨k, f, n, payloadBytes c.payload c.pmap, c.flags.val⟩).respond 0x1D q ⟨0, [], []⟩ false)

/-! ## Completion (R359, R361) -/

/-- All chunks of a node, one after the other, with the flags of what they hold. -/
def CollInst.whole (i : CollInst) (k f : Nat) : List Nat → Option (List PByte × Nat)
  | [] => some ([], 0)
  | c :: t =>
    match i.nodeData k f c, i.whole k f t with
    | some a, some b => some (a.1 ++ b.1, a.2 ||| b.2)
    | _, _ => none

def CollInst.rootData (i : CollInst) : Option (List PByte × Nat) := i.whole i.root 0 (List.range i.chunks)

/-- R38: partials exported to FP32 with the multiplier, and the flags. The fuel is the elements. -/
def exportPartials (ew : Int) (x : Nat) : Nat → List PByte → List PByte × Nat
  | 0, _ => ([], 0)
  | n + 1, l =>
    let v := fp32.exportXa (Xa.ofPartial (BitVec.ofNat 128 (ofBytes ((l.take 16).map (·.1))))) ew x
    let bad := (l.take 16).any (·.2)
    let t := exportPartials ew x n (l.drop 16)
    ((toBytes 4 v.1).map (fun y => (y, bad)) ++ t.1, (if bad then 0 else v.2) ||| t.2)

/-- R359: the elements of a reduction as a member receives them. -/
def CollEntry.reduced (e : CollEntry) (d : List PByte × Nat) : List PByte × Nat :=
  let l := e.words
  let z := if collExact l then 16 else 4
  let b := if collOp l = 2 then (d.1.drop (collIndex l * collCount l * z)).take (collCount l * z) else d.1
  if !collExact l then (b, 0)
  else if collPartialOut l then (b, d.2)
  else let x := exportPartials (sgn 10 (collEw l)) (collExpMult l) (collCount l) b; (x.1, x.2 ||| d.2)

/-- The data of members one after the other, ALL_GATHER. -/
def CollInst.gathered (i : CollInst) : List Nat → Option (List PByte)
  | [] => some []
  | m :: t =>
    match i.whole 0 m (List.range i.chunks), i.gathered t with
    | some a, some b => some (a.1 ++ b)
    | _, _ => none

/-- What a member receives: the bytes for each range of its destination, the flags, and the first member whose count
differs. -/
structure Delivery where
  ranges : List (Nat × List PByte)
  arith : Nat := 0
  diff : Option Nat := none

/-- R359: what member i receives from each member, ALL_TO_ALL. What another device sends for this member is free here: whether it
sends fewer elements than are expected, how many then, and its data. -/
def State.exchanged (s : State) (i : CollInst) (e : CollEntry) : List Nat → Option Delivery
  | [] => some ⟨[], 0, none⟩
  | m :: rest =>
    let k := e.counts m
    let z := elemSize (collElem e.words)
    let dst := (collDst e.words + k.2.2.2 * z) % 2 ^ 64
    match s.exchanged i e rest with
    | none => none
    | some d =>
      match i.part m with
      | some p =>
        let b := p.segs.getD (collIndex e.words) []
        some ⟨(dst, b.take (k.2.2.1 * z)) :: d.ranges, 0, if b.length ≠ k.2.2.1 * z then some m else d.diff⟩
      | none =>
        if (i.stored 0 m 0).isNone then none
        else
          let fewer := Config.freeBool s.free m
          let n := if fewer then (Config.freeWord s.free (2 ^ 32 + m)).toNat % (k.2.2.1 + 1) else k.2.2.1
          some ⟨(dst, (List.range (n * z)).map fun j =>
              (Config.remoteByte s.free (m * 2 ^ 32 + j), Config.freeBool s.free (2 ^ 62 + m * 2 ^ 32 + j / 8))) :: d.ranges, 0,
            if fewer then some m else d.diff⟩

/-- R359: what a member of an instance receives, once all of it is there. -/
def State.delivery (s : State) (i : CollInst) (e : CollEntry) : Option Delivery :=
  let l := e.words
  let one (x : Option (List PByte)) : Option Delivery := x.map fun b => ⟨[(collDst l, b)], 0, none⟩
  match collOp l with
  | 1 | 2 => i.rootData.map fun d => let x := e.reduced d; ⟨[(collDst l, x.1)], x.2, none⟩
  | 3 => one (i.gathered (List.range i.count))
  | 4 => s.exchanged i e (List.range i.count)
  | 5 => one ((i.whole 0 0 (List.range i.chunks)).map (·.1))
  | 6 => i.rootData.map fun _ => ⟨[], 0, none⟩
  | _ => i.rootData.map fun d => ⟨if collIndex l = 0 then [(collDst l, d.1)] else [], 0, none⟩

/-- The ranges of a delivery written in order; nothing where one of them cannot be written. -/
def State.deliver (s : State) (r : Nat) (e : CollEntry) : List (Nat × List PByte) → Option State
  | [] => some s
  | (va, b) :: t =>
    match s.unitWritePlaces r e.auth va b.length with
    | .error _ => none
    | .ok p => (s.pwriteAll p b).deliver r e t

/-- R153, R358: software has changed what a member's descriptor names, before that member completed, or has had another
collective outstanding with this COLL_ID. -/
def State.instDisturbed (s : State) (i : CollInst) : Bool := i.mixed || i.guards.any fun n => s.disturbed (.work n)

/-- R153: a delivery of a disturbed collective: free values. -/
def State.collSettle (s : State) (i : CollInst) (e : CollEntry) (d : Delivery) : Delivery :=
  if s.instDisturbed i then
    { d with
      ranges := d.ranges.map fun q => (q.1, q.2.zipIdx.map fun b =>
        (Config.disturbedByte s.free (q.1 + b.2), Config.freeBool s.free ((q.1 + b.2) / 8)))
      arith := if collExact e.words then s.freeFlags 2520 else 0 }
  else d

/-- R153: the guard of a member that has completed covers nothing any more. -/
def State.releaseGuard (s : State) (n : Nat) : State :=
  { s with guards := s.guards.map fun g => if g.key = .work n then { g with ranges := [] } else g }

/-- R361: a member completes: its destination, its record and the SET; the instance is forgotten with its last member here. -/
def State.collComplete (s : State) (r : Nat) (i : CollInst) (e : CollEntry) (d0 : Delivery) : State :=
  let d := s.collSettle i e d0
  match s.deliver r e d.ranges with
  | none => s.endInst i 0x42 (collIndex e.words)
  | some t =>
    let poisoned := d.ranges.any fun p => p.2.any (·.2)
    let status := if d.diff.isSome then 2 else if poisoned then 1 else 0
    let u := ((t.bump).collRecord r e status d.arith (d.diff.getD 0)).releaseGuard e.guard
    let j := { i with done := collIndex e.words :: i.done }
    if (i.members.zipIdx.all fun p => tidDev p.1 != s.devId.toNat || j.done.contains p.2)
    then u.dropInst i.id i.m0 else u.setInst j

/-- R16, R163: the homes that a delivery is written to answer now. -/
def State.deliverOpen (s : State) (r : Nat) (e : CollEntry) (l : List (Nat × List PByte)) : Bool :=
  l.all fun q => s.unitOpen r e.auth .write .store (collClass e.words) q.1 q.2.length

/-- A member of a room completes an operation of the named OP. -/
def collDone (op : Nat) (r : RoomIx) (slot : Fin 16) (s : State) : Result :=
  match (s.coll r.val).find? (·.slot == slot.val) with
  | none => .next s
  | some e =>
    match s.inst (collId e.words) e.m0 with
    | none => .next s
    | some i =>
      match s.delivery i e with
      | none => .next s
      | some d => whenReady (collOp e.words == op && s.deliverOpen r.val e d.ranges) s (s.collComplete r.val i e d)

def execCollAllReduce (r : RoomIx) (slot : Fin 16) (s : State) : Result := collDone 1 r slot s
def execCollReduceScatter (r : RoomIx) (slot : Fin 16) (s : State) : Result := collDone 2 r slot s
def execCollAllGather (r : RoomIx) (slot : Fin 16) (s : State) : Result := collDone 3 r slot s
def execCollAllToAll (r : RoomIx) (slot : Fin 16) (s : State) : Result := collDone 4 r slot s
def execCollBroadcast (r : RoomIx) (slot : Fin 16) (s : State) : Result := collDone 5 r slot s
def execCollBarrier (r : RoomIx) (slot : Fin 16) (s : State) : Result := collDone 6 r slot s
def execCollLseMerge (r : RoomIx) (slot : Fin 16) (s : State) : Result := collDone 7 r slot s
def execCollTopkMerge (r : RoomIx) (slot : Fin 16) (s : State) : Result := collDone 8 r slot s

/-! ## Timeouts, kept ends and absence (R295, R358, R361, R364) -/

/-- R361: the first member, in member order, from which nothing is known to have come. -/
def CollInst.firstMissing (i : CollInst) (self : Nat) : Nat :=
  ((List.range i.count).find? fun m => (i.part m).isNone && !i.nodes.any fun n => nodeFirst n.level m == n.first).getD self

def execCollectiveTimeout (r : RoomIx) (slot : Fin 16) (s : State) : Result :=
  match (s.coll r.val).find? (·.slot == slot.val) with
  | none => .next s
  | some e =>
    let t := s.reach e.due
    match t.inst (collId e.words) e.m0 with
    | none => .next (t.collRecord r.val e 0x43 0 (collIndex e.words))
    | some i => .next (t.endInst i 0x43 (i.firstMissing (collIndex e.words)))

def execCollKeptEndExpiry (id m0 : W32) (s : State) : Result :=
  match s.keptEnds.find? fun k => k.id == id && k.m0 == m0 with
  | none => .next s
  | some k =>
    .next { s.reach (k.time + 10000000) with keptEnds := s.keptEnds.filter fun x => !(x.id == id && x.m0 == m0) }

/-- R364: collectives that name a member of the subject end with ABSENT. -/
def State.collAbsent (s : State) (p : W32 → Bool) : State :=
  s.insts.foldl (fun s i =>
    match i.members.zipIdx.find? fun m => p m.1 with
    | some m => s.endInst i 0x41 m.2
    | none => s) s

/-- R364: the timers of collectives that name a member of the subject run at least an extension longer, up to 5 ms from
issue. -/
def State.collSlow (s : State) (p : W32 → Bool) (ext : Nat) : State :=
  { s with
    colls := s.colls.map fun q => (q.1, q.2.map fun e =>
      match s.inst (collId e.words) e.m0 with
      | some i => if i.members.any p then { e with due := max e.due (min (s.now + ext) (e.issued + 5000000)) } else e
      | none => e) }

end Sys2Proof.Machine
end

