-- ==== Sys2Proof/Machine/Notice.lean ====
section
/-! DEFINITION. Messages of the wing controllers to rooms, and the notices SLOW, ABSENT and RESET (R90, R108, R364, R533). -/
namespace Sys2Proof.Machine

/-! ## Mailbox messages (R533) -/

def State.mailbox (s : State) (r : Nat) : Mailbox := tgetD s.mailboxes r {}
def State.setMailbox (s : State) (r : Nat) (m : Mailbox) : State := { s with mailboxes := tset r m s.mailboxes }

/-- R533: a message posted to a room: placed, kept, or dropped while 16 are kept. -/
def State.mail (s : State) (r kind arg detail : Nat) : State :=
  let m := s.mailbox r
  let seq := (m.seq + 1) % 2 ^ 16
  let w : WingMsg := ⟨BitVec.ofNat 64 (kind * 2 ^ 56 + seq * 2 ^ 32 + arg % 2 ^ 32), BitVec.ofNat 64 detail⟩
  s.setMailbox r (
    if !m.pending then { m with msg := w.word, detail := w.detail, pending := true, seq := seq }
    else if m.queue.length < 16 then { m with queue := m.queue ++ [w], seq := seq }
    else { m with lost := true, seq := seq })

/-- R533: PENDING written 1: the message is acknowledged, and the next one kept is placed. -/
def Mailbox.acknowledge (m : Mailbox) : Mailbox :=
  match m.queue with
  | w :: t => { m with msg := w.word, detail := w.detail, pending := true, queue := t }
  | [] => { m with pending := false }

def execWmbPending (r : RoomIx) (lost : Bool) (s : State) : Result :=
  let m := s.mailbox r.val
  let n := if m.pending then m.acknowledge else m
  .next (s.setMailbox r.val (if lost then { n with lost := false } else n))

/-! ## Whom a notice concerns -/

/-- R364: the subject of a notice names a whole device. -/
def wholeDevice (t : W32) : Bool := fld t.toNat 14 0 == 31 * 2 ^ 10

/-- A thread ID lies in the subject of a notice. -/
def inSubject (subject t : W32) : Bool :=
  tidDev t == tidDev subject && (wholeDevice subject || tidRoom t == tidRoom subject)

/-- R91: the device and room at which an outstanding request is performed, as a thread ID of its hart 0; a request whose
home is no room names wing 31. -/
def Req.home (q : Req) (dev : Nat) : W32 :=
  match q.kind with
  | .spawn _ m => m.target
  | _ =>
    let d := if bitOf q.pa 55 then dev else fld q.pa 51 38
    BitVec.ofNat 32 (d * 2 ^ 15 + (if paType q.pa ≤ 3 then fld q.pa 37 33 * 2 ^ 10 + fld q.pa 32 28 * 2 ^ 5 else 30 * 2 ^ 10))

/-- Outstanding requests that the subject concerns. -/
def State.concerned (s : State) (subject : W32) : List Req :=
  s.reqs.filter fun q => inSubject subject (q.home s.devId.toNat)

/-- R533: PEER_NOTICE to each room some of whose requests are concerned. -/
def State.mailConcerned (s : State) (kind : Nat) (subject : W32) : State :=
  ((s.concerned subject).foldl (fun l q => ninsert q.room l) []).foldl (fun s r => s.mail r 4 kind subject.toNat) s

/-- R108, R342: a request ends with a status before any response comes; its tag stays out of use where it was reissued. -/
def State.endNow (s : State) (q : Req) (status : Nat) : State := (s.retireTag q q.reissued).endRequest q status [] false

/-- R90: running children of the subject are absent: a join returns ABSENT. One whose exit notice is on its way ends by that. -/
def State.absentChildren (s : State) (subject : W32) : State :=
  s.rooms.foldl (fun s p =>
    p.2.children.foldl (fun s c =>
      let parent := BitVec.ofNat 32 (s.threadId (p.1 * 32 + c.parent))
      if c.state = .running ∧ inSubject subject c.thread = true ∧ (s.exitMsgs.any fun m => m.child == c.thread && m.parent == parent) = false
      then (match s.localThread parent with
        | some h => s.childEnded h c.thread .absent
        | none => s)
      else s) s) s

/-- R364: what ABSENT and RESET end: requests, spawns, collectives and joins that involve the subject. -/
def State.endSubject (s : State) (kind : Nat) (subject : W32) : State :=
  let t := s.mailConcerned kind subject
  let t := (s.concerned subject).foldl (fun t q => t.endNow q 2) t
  (t.collAbsent (inSubject subject)).absentChildren subject

/-- R364: a device that hears of its own absence ends everything. -/
def State.endAll (s : State) : State :=
  let t := s.reqs.foldl (fun t q => t.endNow q 2) s
  t.collAbsent fun _ => true

/-- R364: a device's bit of FAB_ABSENT, with the flood of its change on to the other links; a repeat changes nothing. -/
def State.deviceAbsent (s : State) (d : Nat) : State :=
  if s.absentDevs.contains d then s
  else
    let t := { s with absentDevs := ninsert d s.absentDevs }.send (.flood 1 d)
    let t := t.event 5 d 1
    if d = s.devId.toNat then t.endAll else t.endSubject 1 (BitVec.ofNat 32 (d * 2 ^ 15 + 31 * 2 ^ 10))

def State.deviceBack (s : State) (d : Nat) : State :=
  if s.absentDevs.contains d then ({ s with absentDevs := s.absentDevs.filter (· != d) }.send (.flood 2 d)).event 5 d 0 else s

/-- R364: a room's notice, as the wing controllers send it. -/
def State.sendNotice (s : State) (kind r ext : Nat) : State :=
  s.send (.notice kind (BitVec.ofNat 32 (s.threadId (r * 32))) (s.room r).cond.epoch (s.room r).cond.reason ext)

/-! ## The notices -/

/-- R108, R364: timers of requests and collectives restarted to at least the extension, up to 5 ms from issue. -/
def State.slowed (s : State) (subject : W32) (us : Nat) : State :=
  let t := s.mailConcerned 0 subject
  let ext (q : Req) : Nat := min (s.now + us * 1000) (q.issued + 5000000)
  let near (q : Req) : Bool := inSubject subject (q.home s.devId.toNat)
  let later (q : Req) : Req := if near q then { q with deadline := max q.deadline (ext q) } else q
  ({ t with reqs := t.reqs.map later }).collSlow (inSubject subject) (us * 1000)

/-- R312, R313, R364: a notice does what its kind says, and is answered. A flood of a device's absence or return passes even where
packets of its sender are discarded. -/
def noticeRun (q : ReqHeader) (subject : W32) (s : State) (room device : State → State) : Result :=
  servedRun q 0x1E s (
    if wholeDevice subject then .next ((device s).respond 0x1E q ⟨0, [], []⟩ false)
    else whenReady (s.admitsPacket q) s ((room s).respond 0x1E q ⟨0, [], []⟩ false))

/-- R313: `b` holds the subject's epoch, the reason and the extension; SLOW names no whole device. -/
def execNoticeSlow (q : ReqHeader) (subject : W32) (b : NoticeBody) (s : State) : Result :=
  noticeRun q subject s (fun s => s.slowed subject b.us) id

def execNoticeAbsent (q : ReqHeader) (n : Notice) (s : State) : Result :=
  noticeRun q n.subject s (fun s => s.endSubject 1 n.subject) fun s => s.deviceAbsent (tidDev n.subject)

def execNoticeReset (q : ReqHeader) (n : Notice) (s : State) : Result :=
  noticeRun q n.subject s (fun s => s.endSubject 2 n.subject) fun s => s.deviceBack (tidDev n.subject)

end Sys2Proof.Machine
end

