-- ==== Sys2Proof/Machine/Hall.lean ====
section
/-! DEFINITION. The hall: routers, routing tables, the loss of an edge, reissue, and combined atomics (R281–R290, R296, R304). -/
namespace Sys2Proof.Machine

def State.module (s : State) (k : Nat) : ModuleB := tgetD s.modules k {}
def State.modModule (s : State) (k : Nat) (f : ModuleB → ModuleB) : State := { s with modules := tset k (f (s.module k)) s.modules }
def State.die (s : State) (d : Nat) : DieB := tgetD s.dies d {}
def State.modDie (s : State) (d : Nat) (f : DieB → DieB) : State := { s with dies := tset d (f (s.die d)) s.dies }

/-! ## What lies beside a wing (R7, R8, R12, R13, R281, R306) -/

/-- R8: the wing on a side (0 north, 1 east, 2 south, 3 west). -/
def neighbour (w port : Nat) : Option Nat :=
  match port with
  | 0 => if 6 ≤ w then some (w - 6) else none
  | 1 => if w % 6 < 5 then some (w + 1) else none
  | 2 => if w < 18 then some (w + 6) else none
  | 3 => if w % 6 ≠ 0 then some (w - 1) else none
  | _ => none

def opposite (port : Nat) : Nat := (port + 2) % 4

/-- R281: the porch or door die attached at an outward port. -/
def attached (w port : Nat) : Option Nat :=
  match port with
  | 0 => if 1 ≤ w ∧ w ≤ 4 then some (96 + (w - 1)) else none
  | 2 => if 19 ≤ w ∧ w ≤ 22 then some (96 + (w - 15)) else none
  | 3 => if w = 6 ∨ w = 12 then some 104 else none
  | 1 => if w = 11 ∨ w = 17 then some 105 else none
  | _ => none

/-- R306: the module keys (die × 16 + module) of a wing's port, in ascending module number. -/
def portModules (w port : Nat) : List Nat :=
  match neighbour w port with
  | some _ => (List.range 4).map fun i => w * 16 + 4 * port + i
  | none =>
    match attached w port with
    | some d => if d < 104 then (List.range 3).map fun i => w * 16 + 4 * port + i else [w * 16 + 4 * port]
    | none => []

/-- R306: the wing that a porch or door leads to by a module. -/
def dieWing (d m : Nat) : Nat :=
  if d < 100 then d - 96 + 1 else if d < 104 then d - 96 + 15
  else if d = 104 then (if m = 0 then 6 else 12) else (if m = 0 then 11 else 17)

/-- R306: the other end of a module; none where nothing lies there. -/
def modulePeer (k : Nat) : Option Nat :=
  let d := k / 16
  let m := k % 16
  if d < 24 then
    (match neighbour d (m / 4) with
      | some v => some (v * 16 + 4 * opposite (m / 4) + m % 4)
      | none =>
        match attached d (m / 4) with
        | some e =>
          if e < 104 then (if m % 4 < 3 then some (e * 16 + m % 4) else none)
          else if m % 4 ≠ 0 then none else some (e * 16 + (if d = 6 ∨ d = 11 then 0 else 1))
        | none => none)
  else if 96 ≤ d ∧ d < 104 then
    (if m < 3 then some (dieWing d m * 16 + (if d < 100 then m else 8 + m)) else none)
  else if 104 ≤ d ∧ d < 106 then
    (if m < 2 then some (dieWing d m * 16 + (if d = 104 then 12 else 4)) else none)
  else none

/-- R11: working modules of a port, by rank. -/
def State.working (s : State) (w port : Nat) : List Nat := (portModules w port).filter fun k => (s.module k).state == 2

/-! ## Routing (R284–R287) -/

/-- R477: an entry is written again, and can be used if it could not be read. -/
def State.mendRoute (s : State) (w bank e : Nat) : State :=
  { s with remaps := s.remaps.map fun p => if p.1 = 96 + w then (p.1, { p.2 with bad := p.2.bad.filter (· != bank * 64 + e) }) else p }

/-- R284, R287: the port of a destination in a bank, where it routes. -/
def State.routePort (s : State) (w bank dst : Nat) : Option Nat :=
  let e := s.rtEntry w bank dst
  let p := fld e 10 8
  if (tgetD s.remaps (96 + w) {}).bad.contains (bank * 64 + dst) then none
  else if bitOf e 15 ∧ p < 5 ∧ (p = 4 ∨ (s.hall w).portUp.contains p = true) then some p else none

def HallPacket.cls (p : HallPacket) : Nat := azClass p.header
def HallPacket.bank (p : HallPacket) : Nat := azBank p.header
/-- R314: the bytes of a packet. -/
def HallPacket.bytes (p : HallPacket) : Nat := azBytes p.header

def HallB.port (h : HallB) (n : Nat) : List HallPacket := tgetD h.ports n []
def HallB.setPort (h : HallB) (n : Nat) (l : List HallPacket) : HallB := { h with ports := tset n l h.ports }

/-- R304: a packet of the inactive bank is in the router. -/
def HallB.draining (h : HallB) : Bool := h.ports.any fun p => p.2.any fun x => x.bank != h.active

def State.hallDrop (s : State) (w n : Nat) : State := s.bumpReg .hallDropCount w 32 n

/-- A packet reaches a router, if its port's queue has an entry for it: queued, or discarded for want of a route; none where
it must wait. -/
def State.hallArrive (s : State) (w : Nat) (p : HallPacket) : Option State :=
  match s.routePort w p.bank p.dst with
  | none => some (s.hallDrop w 1)
  | some n =>
    let h := s.hall w
    if (s.regq (portQ w n)).admits ((h.port n).map (·.cls)) p.cls
    then some (s.modHall w fun h => h.setPort n (h.port n ++ [{ p with entered := s.now }])) else none

/-- R282, R309: the virtual channel of a packet, and the module that carries it. -/
def HallPacket.vc (p : HallPacket) : Nat := 16 * b2n (azVcs p.header) + 8 * b2n (azRsp p.header) + p.cls
def State.vcModule (s : State) (w port vc : Nat) : Option Nat :=
  let l := s.working w port
  if l.isEmpty then none else l[vc % l.length]?

/-- R309: the end, at an attached die, of the module that carries a virtual channel from it into a wing. -/
def State.dieModule (s : State) (d w vc : Nat) : Option Nat :=
  let l := ((List.range 3).map fun m => d * 16 + m).filter fun k => decide (dieWing d (k % 16) = w) && (s.module k).state == 2
  if l.isEmpty then none else l[vc % l.length]?

/-- R316: credits that a module end holds for a virtual channel. -/
def ModuleB.credit (m : ModuleB) (vc : Nat) : Nat := tgetD m.credits vc m.grant

/-- R316: a credit of a module end for a virtual channel is spent, if it holds one. The partner's buffers hold what has been sent and
not returned. -/
def State.spendCredit (s : State) (k vc : Nat) : Option State :=
  if (s.module k).credit vc = 0 then none
  else some (s.modModule k fun m => { m with credits := tset vc (m.credit vc - 1) m.credits })

/-- R311: the room of the wing that a packet leaves the hall into: the requester of a response, or the home of a request; none for
another island. -/
def HallPacket.room (p : HallPacket) : Option Nat :=
  let h := p.header
  if azRsp h then (if fld h.toNat 70 55 = 0 then none else some (azIsl h))
  else if azOpc h ≤ 0x1A ∧ paType (azAddr h) ≤ 3 then some (fld (azAddr h) 32 28)
  else if azOpc h = 0x1B then some (fld (ofBytes (p.body.take 4)) 9 5) else none

/-- R17, R282: the crossing into a packet's room takes it: the room is not in reset. How many credits the crossings inside a wing die
have, the spec does not say (DESIGN CHOICE, log 101). -/
def State.roomTakes (s : State) (w : Nat) (p : HallPacket) : Bool :=
  match p.room with
  | some r => (s.room (w * 32 + r)).phase != .inReset
  | none => true

/-- A packet can leave a port now: into the wing's rooms or an attached die, or into the next router. -/
def State.hallLeave (s : State) (w port : Nat) (p : HallPacket) : Option State :=
  if port = 4 then (if s.roomTakes w p then some s else none)
  else match s.vcModule w port p.vc with
    | none => none
    | some k =>
      match s.spendCredit k p.vc with
      | none => none
      | some t =>
        match neighbour w port with
        | some v => t.hallArrive v p
        | none => some t

/-- R282, R316: a packet of an attached die enters the wing's router, by a module with a credit for it. -/
def State.dieInject (s : State) (d w : Nat) (p : HallPacket) : Option State :=
  match s.dieModule d w p.vc with
  | none => none
  | some k =>
    match s.spendCredit k p.vc with
    | none => none
    | some t => t.hallArrive w p

/-- R284, R286: a packet as its source router injects it: with the bank in use and the channel set of its route. -/
def State.injected (s : State) (w dst dev : Nat) (h : W128) (body : List Byte) : HallPacket :=
  let b := (s.hall w).active
  ⟨dst, dev, azRouted h (bitOf (s.rtEntry w b dst) 14) b, body, s.now⟩

/-- R284, R311: a packet of this wing, or of a die attached to it, enters the hall; any other does not enter here. -/
def State.hallInject (s : State) (w : Nat) (p : HallPacket) : Option State :=
  let d := azSrcDie p.header
  if d = w then s.hallArrive w p
  else if (List.range 4).any (fun n => attached w n == some d) = true then s.dieInject d w p else none

/-- R301: the packet that a port serves next leaves it. -/
def State.hallAdvance (s : State) (w port : Nat) : State :=
  let l := (s.hall w).port port
  match (s.regq (portQ w port)).pick (headsReady (l.map fun p => (p.cls, p.vc, (s.hallLeave w port p).isSome))) with
  | none => s
  | some i =>
    match l[i]? with
    | none => s
    | some p =>
      let t := s.modHall w fun h => h.setPort port (l.eraseIdx i)
      let t := t.modRegq (portQ w port) fun q => { q.complete p.cls (s.now - p.entered) p.bytes with last := p.cls }
      (t.hallLeave w port p).getD s

/-! ## Changes of routes (R285, R286, R304) -/

def State.hallSwitch (s : State) (w : Nat) : State :=
  s.modHall w fun h => { h with active := 1 - h.active, epoch := (h.epoch + 1) % 2 ^ 16 }

/-- R303: who may write the hall blocks. -/
def hallWriter (s : State) (who : Accessor) : Bool := regWriter s 768 who

def execHallRtSwitch (who : Accessor) (w : WingIx) (s : State) : Result :=
  whenReady (hallWriter s who) s (s.hallSwitch w.val)

/-- R304: a write to an entry of the inactive bank; the active bank ignores it. -/
def State.rtWrite (s : State) (w bank e v : Nat) : State :=
  if bank = (s.hall w).active then s else (s.mendRoute w bank e).setRegN .hallRtEntry (rtIndex w bank e) (v % 2 ^ 16 / 0x4000 * 0x4000 + fld v 10 0)

def execHallRtEntryWrite (who : Accessor) (w : WingIx) (bank : Fin 2) (entry : Fin 40) (value : W64) (s : State) : Result :=
  whenReady (hallWriter s who) s (s.rtWrite w.val bank.val entry.val value.toNat)

/-! ## The routes that the study installs (R284, R285) -/

/-- The wings beside a wing over edges that are up, by port. -/
def State.upNeighbours (s : State) (w : Nat) : List (Nat × Nat) :=
  (List.range 4).filterMap fun n =>
    match neighbour w n with
    | some v => if (s.hall w).portUp.contains n ∧ (s.hall v).portUp.contains (opposite n) then some (n, v) else none
    | none => none

/-- One round of shortest distances over edges: a value for each wing, 100 where none is known. -/
def relax (adj : Nat → List Nat) (l : List Nat) : List Nat :=
  l.zipIdx.map fun p => (adj p.2).foldl (fun m v => min m (l.getD v 100 + 1)) p.1

def relaxN (adj : Nat → List Nat) : Nat → List Nat → List Nat
  | 0, l => l
  | n + 1, l => relaxN adj n (relax adj l)

def seedAt (d : Nat) : List Nat := (List.range 24).map fun w => if w = d then 0 else 100

/-- R285: hops to wing 14 over the up edges. -/
def State.centreHops (s : State) : List Nat := relaxN (fun w => (s.upNeighbours w).map (·.2)) 24 (seedAt 14)

/-- R285: the edge from a wing to another leads up. -/
def leadsUp (hops : List Nat) (w v : Nat) : Bool :=
  decide (hops.getD v 100 < hops.getD w 100) || (hops.getD v 100 == hops.getD w 100 && decide (v < w))

/-- Lengths of down-only routes to a wing, and of up*/down* routes. -/
def State.downHops (s : State) (hops : List Nat) (d : Nat) : List Nat :=
  relaxN (fun w => ((s.upNeighbours w).filter fun p => !leadsUp hops w p.2).map (·.2)) 24 (seedAt d)
def State.legalHops (s : State) (hops : List Nat) (d : Nat) : List Nat :=
  relaxN (fun w => ((s.upNeighbours w).filter fun p => leadsUp hops w p.2).map (·.2)) 24 (s.downHops hops d)

/-- R284: the next port of the XY route to another wing. -/
def xyPort (w d : Nat) : Nat :=
  if w % 6 < d % 6 then 1 else if d % 6 < w % 6 then 3 else if d < w then 0 else 2

/-- R284: the XY route crosses only edges that are up. The fuel is its greatest length. -/
def State.xyWhole (s : State) (d : Nat) : Nat → Nat → Bool
  | 0, w => w == d
  | f + 1, w =>
    w == d ||
    match (s.upNeighbours w).find? fun p => p.1 == xyPort w d with
    | some p => s.xyWhole d f p.2
    | none => false

def xyHops (w d : Nat) : Nat := (max (w % 6) (d % 6) - min (w % 6) (d % 6)) + (max (w / 6) (d / 6) - min (w / 6) (d / 6))

/-- R304: a routing entry. -/
def rtWord (vc : Bool) (port hops : Nat) : Nat := 0x8000 + b2n vc * 0x4000 + port * 256 + hops

/-- R284, R285: the entry from a wing to a wing: VC0 where the XY route is whole, else the shortest up*/down* route on VC1,
by the lowest port; 0 where no route reaches it. -/
def State.wingRoute (s : State) (hops : List Nat) (w d : Nat) : Nat :=
  if w = d then rtWord false 4 0
  else if s.xyWhole d 8 w then rtWord false (xyPort w d) (xyHops w d)
  else
    let down := s.downHops hops d
    let legal := s.legalHops hops d
    let n := legal.getD w 100
    let step := (s.upNeighbours w).find? fun p =>
      (leadsUp hops w p.2 && legal.getD p.2 100 + 1 == n) || (!leadsUp hops w p.2 && down.getD p.2 100 + 1 == n)
    if 100 ≤ n then 0 else match step with | some p => rtWord true p.1 n | none => 0

/-- R281: the port of a wing that leads to an attached die. -/
def attachedPort (w die : Nat) : Option Nat := (List.range 4).find? fun n => attached w n == some die

/-- R284: the entry from a wing to a porch or door, by way of one of its wings that has the port up: the nearer one. -/
def State.dieRoute (s : State) (hops : List Nat) (w die : Nat) : Nat :=
  let ws := (if die < 104 then [dieWing die 0] else [dieWing die 0, dieWing die 1]).filter fun v =>
    match attachedPort v die with
    | some n => (s.hall v).portUp.contains n
    | none => false
  let routes := (ws.map fun v => (v, s.wingRoute hops w v)).filter fun p => p.2 != 0
  let best := routes.foldl (fun b p => match b with
    | none => some p
    | some q => if p.2 % 256 < q.2 % 256 then some p else some q) (none : Option (Nat × Nat))
  match best with
  | none => 0
  | some (v, e) => if v = w then (match attachedPort v die with | some n => rtWord false n 0 | none => 0) else e

/-- The routes of a router, written into a bank. -/
def State.routerRoutes (s : State) (hops : List Nat) (w bank : Nat) : State :=
  (List.range 34).foldl (fun t e =>
    (t.mendRoute w bank e).setRegN .hallRtEntry (rtIndex w bank e) (if e < 24 then s.wingRoute hops w e else s.dieRoute hops w (96 + (e - 24)))) s

/-- Every wing that is up. -/
def State.upWings (s : State) : List Nat := (List.range 24).filter fun w => (s.wing w).state != 2

/-- R285, R288: the routes for the present edges in the inactive bank of every router, and every router switched. -/
def State.reroute (s : State) : State :=
  let hops := s.centreHops
  let t := s.upWings.foldl (fun t w => t.routerRoutes hops w (1 - (s.hall w).active)) s
  s.upWings.foldl (fun t w => t.hallSwitch w) t

/-- R285: the wings that are up and that no route from another wing reaches, though others are up (DESIGN CHOICE, log 102). -/
def State.cutOff (s : State) : List Nat :=
  let hops := s.centreHops
  s.upWings.filter fun d => s.upWings.any (· != d) && s.upWings.all fun w => w == d || s.wingRoute hops w d == 0

/-! ## Islands down (R17) -/

/-- R17, R311: the number that an ISLAND_DOWN record names an island by: that of its router, link layer or queue engine as a source
of packets (DESIGN CHOICE, log 95). -/
def islandOf (d : Nat) : Nat := if d < 24 then 2 else 0

/-- R17, R481: ISLAND_DOWN of an island of a die, in the log of the surviving side's wing controller, where that side is a wing's,
and on its way to the device log. -/
def State.postIsland (s : State) (survivor die island : Nat) : State :=
  let e := dieRecord s 0x43 die island
  let t := if survivor < 24 then { s with wingLogs := tset survivor (lastN 1024 (tgetD s.wingLogs survivor [] ++ [e])) s.wingLogs } else s
  { t with errInFlight := t.errInFlight ++ [e] }

/-- R17, R287: a port is marked down: its queued packets are discarded, and ISLAND_DOWN names the die beyond. -/
def State.portDown (s : State) (w port beyond : Nat) : State :=
  let n := ((s.hall w).port port).length
  let t := (s.modHall w fun h => { h.setPort port [] with portUp := h.portUp.filter (· != port) }).hallDrop w n
  t.postIsland w beyond (islandOf beyond)

/-! ## Reissue and landings (R289, R296) -/

/-- R345: an outstanding request of a room is marked reissued and leaves again. -/
def State.reissue (s : State) (q : Req) : State :=
  let t := s.reach (q.issued + 20000)
  ({ t with reqs := t.reqs.map fun x => if x.room = q.room ∧ x.tag = q.tag then { x with reissued := true } else x } : State).sendReq
    { q with reissued := true }

/-- R296, R311: the request that a landing forwards an atomic as. -/
def State.landingRequest (s : State) (w : Nat) (c : Combined) : HomeRequest :=
  let bank := (s.hall w).active
  let die := dieOfPa c.addr
  { hdr := { srcDev := s.devId, srcDie := Fin.ofNat 128 w, srcIsl := 1, tag := Fin.ofNat 4096 (c.tag.getD 0)
             gen := Fin.ofNat 16 (s.tag (768 + w) (c.tag.getD 0)).gen, epoch := 0, reissue := c.reissued, cls := Fin.ofNat 8 c.cls
             vcs := bitOf (s.rtEntry w bank (dieEntry die)) 14, bank := bank == 1, dstDie := Fin.ofNat 128 die }
    noret := true, addr := BitVec.ofNat 55 c.addr, len := 0, payload := toBytes 16 c.sum.toNat, pmap := 0 }
def State.sendCombined (s : State) (w : Nat) (c : Combined) : State :=
  s.send (.request (fld c.addr 51 38) (requestHeader (s.landingRequest w c) 0x11) (requestBody (s.landingRequest w c)))

/-- R289, R296: a landing's atomic that has no response is forwarded once more, with the same tag. -/
def State.landingReissue (s : State) (w tag : Nat) (here : Bool) : State :=
  match (s.hall w).atomics.find? fun x => x.tag == some tag && x.acked.isNone && !x.reissued &&
      (fld x.addr 51 38 == s.devId.toNat) == here with
  | none => s
  | some x =>
    let t := s.reach (x.sent + 20000)
    (t.modHall w fun h => { h with atomics := h.atomics.map fun y => if y = x then { x with reissued := true } else y }).sendCombined
      w { x with reissued := true }

/-- R289: a room's request whose home is on this device is reissued; R296: so is a landing's. -/
def execHallReissue (island : Fin 792) (tag : Fin 4096) (s : State) : Result :=
  if 768 ≤ island.val then .next (s.landingReissue (island.val - 768) tag.val true)
  else match s.findReq island.val tag.val with
    | none => .next s
    | some q => whenReady (s.reqDevice q == s.devId.toNat && !q.reissued) s (s.reissue q)

/-- R296: the addend of an XA-ADD request. -/
def xaAddend (q : HomeRequest) : W128 := BitVec.ofNat 128 (ofBytes (q.payload.take 16))

def Combined.isFor (c : Combined) (addr cls : Nat) : Bool := c.addr == addr && c.cls == cls

/-- R342: the same request, by its source, tag and generation. -/
def sameRequest (a b : ReqHeader) : Bool :=
  a.srcDev == b.srcDev && a.srcDie == b.srcDie && a.srcIsl == b.srcIsl && a.tag == b.tag && a.gen == b.gen

/-- R296: what a landing does with a no-return XA-ADD. -/
def State.landingArrive (s : State) (w : Nat) (q : HomeRequest) : State :=
  let h := s.hall w
  let cfg := s.regN .hallLandingCfg w
  let a := q.addr.toNat
  let c := q.cls.val
  let done := h.atomics.any fun x => x.isFor a c && x.from_.any (sameRequest q.hdr) &&
    (match x.acked with | some t => decide (s.now ≤ t + 40000) | none => false)
  let open_ := h.atomics.find? fun x => x.isFor a c && x.tag.isNone
  let inside := h.atomics.any fun x => x.isFor a c && x.acked.isNone && x.from_.any (sameRequest q.hdr)
  let held := (h.atomics.filter (·.acked.isNone)).length
  if done then s.respond 0x11 q.hdr ⟨0, [], []⟩ false
  else if inside then s
  else if !bitOf cfg 8 || fld cfg 7 0 == 0 || !(s.die w).combine then s
  else match open_ with
    | some x =>
      (s.modHall w fun h => { h with
        atomics := h.atomics.map fun y =>
          if y = x then { x with sum := combinePartial x.sum (xaAddend q), from_ := x.from_ ++ [q.hdr] } else y }).bumpReg
        .hallCombined w 32 1
    | none =>
      if 64 ≤ held then s
      else s.modHall w fun h => { h with
        atomics := (h.atomics.filter fun y => match y.acked with | some t => decide (s.now ≤ t + 40000) | none => true) ++
          [{ addr := a, cls := c, sum := xaAddend q, from_ := [q.hdr], opened := s.now }] }

def execCombinedXaaddArrival (w : WingIx) (q : HomeRequest) (s : State) : Result :=
  whenReady (q.noret && q.payload.length == 16 && s.admitsPacket q.hdr) s (s.landingArrive w.val q)

/-- R296: the hold time of the landing ends, in ns at 2 GHz, and one atomic leaves with a tag of the landing's own. -/
def execCombineWinExpiry (w : WingIx) (addr : BitVec 55) (cls : Fin 8) (s : State) : Result :=
  match (s.hall w.val).atomics.find? fun x => x.isFor addr.toNat cls.val && x.tag.isNone,
      s.freeTag (768 + w.val) 4096 0 with
  | some x, some g =>
    let t := s.reach (x.opened + fld (s.regN .hallLandingCfg w.val) 7 0 / 2)
    let t := t.setTag (768 + w.val) g { t.tag (768 + w.val) g with state := .outstanding }
    let y := { x with tag := some g, sent := t.now }
    .next ((t.modHall w.val fun h => { h with atomics := h.atomics.map fun z => if z = x then y else z }).sendCombined w.val y)
  | _, _ => .next s

/-- R296: the response to a landing's atomic acknowledges, or ends in error, each contributor. -/
def State.landingAnswer (s : State) (w tag status : Nat) : State :=
  match (s.hall w).atomics.find? fun x => x.tag == some tag && x.acked.isNone with
  | none => s
  | some x =>
    let t := x.from_.foldl (fun t q => t.respond 0x11 q ⟨status, [], []⟩ false) s
    let e := t.tag (768 + w) tag
    (t.setTag (768 + w) tag ⟨(e.gen + 1) % 16, if x.reissued then .held else .free⟩).modHall w fun h => { h with
      atomics := if status = 0 then h.atomics.map fun y => if y = x then { x with acked := some s.now } else y
        else h.atomics.filter (· != x) }

/-! ## Hall registers (R304) -/

/-- R292, R293: a landing has a context open for an instance: it owns a node of the tree, and a message of a child of one has come. -/
def CollInst.contextAt (i : CollInst) (dev w : Nat) : Bool :=
  i.sig.inTree && (List.range i.root).any fun j =>
    (List.range i.count).any fun f =>
      let k := j + 1
      f % 2 ^ k == 0 && tidWing (i.members.getD f 0) == w && i.hasRight k f && i.nodeLocal dev k f &&
      ((i.nodeData j f 0).isSome || (i.nodeData j (f + 2 ^ j) 0).isSome)

/-- R293: collective contexts open at a landing. -/
def State.contextsOpen (s : State) (w : Nat) : Nat := min 512 (s.insts.filter fun i => i.contextAt s.devId.toNat w).length

def State.hallStatus (s : State) (w : Nat) : Nat :=
  let h := s.hall w
  h.epoch * 2 ^ 32 + b2n h.draining * 2 ^ 17 + h.active * 2 ^ 16 + b2n ((s.wing w).state != 2) * 16 +
  (List.range 4).foldl (fun x n => x + b2n (h.portUp.contains n) * 2 ^ n) 0

def State.landingStatus (s : State) (w : Nat) : Nat :=
  s.regN .hallCombined w * 2 ^ 32 + ((s.hall w).atomics.filter (·.acked.isNone)).length * 2 ^ 16 + s.contextsOpen w

/-- The 8 bytes of the hall block of a wing at an aligned offset below 0x1_0000. -/
def State.hallReg (s : State) (w off : Nat) : Nat :=
  if off = 0 then s.hallStatus w
  else if off = 0x20 then s.landingStatus w
  else if off = 0x10 then s.regN .hallDropCount w
  else if off = 0x18 then s.regN .hallLandingCfg w
  else if 0x1000 ≤ off ∧ off < 0x1400 ∧ (off - 0x1000) / 8 % 64 < 40 then s.rtEntry w ((off - 0x1000) / 0x200) ((off - 0x1000) / 8 % 64)
  else 0

/-- A write of 8 bytes to it. -/
def State.hallRegWrite (s : State) (w off v : Nat) : State :=
  if off = 8 then (if bitOf v 0 then s.hallSwitch w else s)
  else if off = 0x18 then s.setRegN .hallLandingCfg w (v % 512)
  else if 0x1000 ≤ off ∧ off < 0x1400 ∧ (off - 0x1000) / 8 % 64 < 40
  then s.rtWrite w ((off - 0x1000) / 0x200) ((off - 0x1000) / 8 % 64) v
  else s

end Sys2Proof.Machine
end

