-- ==== Sys2Proof/Machine/Modules.lean ====
section
/-! DEFINITION. Identity fuses and die-to-die modules: training, capabilities, credits and errors (R17, R305–R322). -/
namespace Sys2Proof.Machine

/-! ## Identity blocks (R319, R320) -/

/-- R7: the kind of a die: 1 wing, 2 porch, 3 door, 4 attic. -/
def dieKind (d : Nat) : Nat := if d < 24 then 1 else if d < 96 then 4 else if d < 104 then 2 else 3

/-- R319: bytes 0x00 to 0x7B of a block that conforms, with no lane repaired and no room disabled. -/
def plainBlock (f : Fuses) (d : Nat) : List Byte :=
  let k := dieKind d
  toBytes 1 k ++ toBytes 1 d ++ toBytes 2 1 ++ toBytes 1 9 ++ toBytes 1 0xB0 ++ toBytes 1 2 ++ toBytes 1 0 ++ toBytes 16 (d + 1) ++
  toBytes 4 (if k = 4 then (d - 24) / 3 + (d - 24) % 3 * 256 else 0) ++
  toBytes 1 (if k = 3 then f.variant else 0) ++ toBytes 1 (if k = 3 then b2n (!f.liquid) else 0) ++ toBytes 94 0

/-- R319: the identity block of a die, as its fuses hold it. -/
def State.idBlock (s : State) (d : Nat) : List Byte :=
  (tget d s.idBlocks).getD (let l := plainBlock s.fuses d; l ++ toBytes 4 (crc32 l))

def State.idField (s : State) (d off n : Nat) : Nat := ofBytes (((s.idBlock d).drop off).take n)

/-- R319: the CRC of a block is good. -/
def State.idGood (s : State) (d : Nat) : Bool := crc32 ((s.idBlock d).take 0x7C) == s.idField d 0x7C 4

/-- R320: the attic blocks of a wing are good and name its layers. -/
def State.atticBlocksGood (s : State) (w : Nat) : Bool :=
  (List.range 3).all fun l =>
    let d := 24 + 3 * w + l
    s.idGood d && fld (s.idField d 0x18 4) 4 0 == w && fld (s.idField d 0x18 4) 9 8 == l

/-- R320: the code of the variant: where the doors differ, each limit is that of the lower variant. -/
def State.variant (s : State) : Nat := max (s.idField 104 0x1C 1) (s.idField 105 0x1C 1)
/-- R2, R320: both doors name one cooling class, and which. -/
def State.coolingAgrees (s : State) : Bool := s.idField 104 0x1D 1 == s.idField 105 0x1D 1
def State.liquid (s : State) : Bool := s.idField 104 0x1D 1 == 0

/-- R319: entry i of the REPAIR array. -/
def State.repairEntry (s : State) (d i : Nat) : Nat := s.idField d (0x30 + 2 * i) 2

/-- R307: the repairs that a die records for a module: direction (false transmit) and lane. -/
def State.repairsOf (s : State) (k : Nat) : List (Bool × Nat) :=
  (List.range 24).filterMap fun i =>
    let e := s.repairEntry (k / 16) i
    if bitOf e 15 ∧ fld e 14 11 = k % 16 then some (bitOf e 10, fld e 5 0) else none

/-- R307: the two dies record the same repairs of one module. -/
def State.repairsAgree (s : State) (k p : Nat) : Bool :=
  let a := s.repairsOf k
  let b := (s.repairsOf p).map fun x => (!x.1, x.2)
  (a.all fun x => b.contains x) && (b.all fun x => a.contains x)

def execFuseLoad (die : DieIx) (s : State) : Result :=
  let d := die.val
  let good := s.idGood d && (24 ≤ d || s.atticBlocksGood d)
  let t := s.modDie d fun x => { x with fuses := if good then .good else .bad }
  let t := (List.range 16).foldl (fun t m =>
    if d < 24 ∧ (modulePeer (d * 16 + m)).isNone = true then t.modModule (d * 16 + m) fun x => { x with state := 7 } else t) t
  let t :=
    if d < 24 ∧ good then
      (List.range 32).foldl (fun t r =>
        if bitOf (s.idField d 0x18 4) r then t.modRoom (d * 32 + r) fun x => { x with cond := { x.cond with state := 3 } } else t) t
    else if d < 24 then t.modWing d fun x => { x with state := 2 }
    else if 104 ≤ d ∧ !good then t.modDoor (d - 104) fun x => { x with down := true }
    else t
  whenReady ((s.die d).fuses == .unread) s t

/-! ## Capabilities that a die tells of itself (R317) -/

/-- R313, R318: the operations that a die of this part says that it serves: at a porch and a door, those that R318 needs there
(DESIGN CHOICE, log 103). -/
def ownOpcs (d : Nat) : Nat := if d < 24 then 0x7FFFFF03 else if d < 104 then 0x60000003 else 0x40000003

/-- R317: the CAP record that a module end sends, of what its die's fuses hold. -/
def State.ownCap (s : State) (k : Nat) : CapRecord :=
  let d := k / 16
  let f (o n : Nat) : Nat := s.idField d o n
  { azMajor := BitVec.ofNat 8 (f 6 1), azMinor := BitVec.ofNat 8 (f 7 1), dieKind := BitVec.ofNat 8 (dieKind d)
    dieIndex := BitVec.ofNat 8 d, maker := BitVec.ofNat 16 (f 2 2), generation := BitVec.ofNat 8 (f 4 1), stepping := BitVec.ofNat 8 (f 5 1)
    opcMap := BitVec.ofNat 32 (ownOpcs d), features := if d < 24 then 3 else if d < 104 then 4 else 0, vcCredit := 4
    module := BitVec.ofNat 8 (k % 16), uniqueLo := BitVec.ofNat 64 (f 8 8) }

/-- R315, R317: CAP leaves a module end. -/
def State.sendCap (s : State) (k : Nat) : State :=
  s.send (.lctl k (azHeader 0x1F 0 false false false 31 false 0 0 0 0 0 false false 0 0) (capBytes (s.ownCap k)))

/-! ## Training (R310) -/

/-- Both ends of a module changed. -/
def State.modEnds (s : State) (k p : Nat) (f : ModuleB → ModuleB) : State := (s.modModule k f).modModule p f

/-- R439: a wing or porch die is held in reset. -/
def State.dieInReset (s : State) (d : Nat) : Bool :=
  match tget (if d < 24 then 768 + d else 792 + (d - 96)) s.boot.resets with
  | some x => decide (d < 104) && x.phase == .inReset
  | none => false

/-- R450: a die of the boot path of a start from a neighbour: P0, wings 1, 0 and 6, and door A. -/
def bootPath (d : Nat) : Bool := d == 96 || d == 1 || d == 0 || d == 6 || d == 104

/-- R443: BOOT_SRC: 3 flash A, 2 flash B, 1 the host, 0 the neighbour. -/
def State.bootSrc (s : State) : Nat := if s.boot.strapsValid then fld s.boot.straps 1 0 else 3

/-- R310, R412, R450, R460: modules between these dies train: the study has started phase 5 and neither vestibule mode nor the
door-only state keeps them unpowered; or it is the boot path, from phase 4 of a start from a neighbour, in those states too. -/
def State.trainsModules (s : State) (d e : Nat) : Bool :=
  (s.boot.state != 2 && s.boot.state != 3 && decide (5 ≤ s.boot.phase)) ||
  (s.bootSrc == 0 && bootPath d && bootPath e && (decide (4 ≤ s.boot.phase) || s.boot.state == 2 || s.boot.state == 3))

/-- R310: a command of a module that leads to a peer, whose two dies have good fuses and are out of reset. -/
def moduleRun (die : DieIx) (m : Fin 16) (s : State) (ok : ModuleB → Bool) (body : Nat → Nat → State) : Result :=
  let k := die.val * 16 + m.val
  match modulePeer k with
  | none => .next s
  | some p =>
    let d := k / 16
    let e := p / 16
    whenReady ((s.die d).fuses == .good && (s.die e).fuses == .good && !s.dieInReset d && !s.dieInReset e && s.trainsModules d e &&
      ok (s.module k)) s (body k p)

/-- R307: lanes repaired at an end: of its transmit or receive direction. -/
def State.lanesRepaired (s : State) (k : Nat) (rx : Bool) : Nat := ((s.repairsOf k).filter fun x => x.1 == rx).length

/-- R310: the sideband phase and the main band's init: each die has read the other's DIE_INDEX and repair record. -/
def State.sideband (s : State) (k p : Nat) : State :=
  let ik := s.idField (k / 16) 1 1
  let ip := s.idField (p / 16) 1 1
  let t := s.modEnds k p fun m => { m with tries := min 255 (m.tries + 1) }
  let t := t.modModule k fun m => { m with peerIndex := ip, rxRepaired := s.lanesRepaired k true, txRepaired := s.lanesRepaired k false }
  let t := t.modModule p fun m => { m with peerIndex := ik, rxRepaired := s.lanesRepaired p true, txRepaired := s.lanesRepaired p false }
  if ik ≠ k / 16 ∨ ip ≠ p / 16 then t.modEnds k p fun m => { m with state := 5, phase := 0 }
  else if !s.repairsAgree k p then t.modEnds k p fun m => { m with state := 6, phase := 0 }
  else t.modEnds k p fun m => { m with state := 1, phase := 1 }

def execModuleSideband (die : DieIx) (m : Fin 16) (s : State) : Result :=
  moduleRun die m s (fun x => decide (x.state ≤ 1) && x.phase == 0) (s.sideband · ·)

def execModuleMainbandTrain (die : DieIx) (m : Fin 16) (s : State) : Result :=
  moduleRun die m s (fun x => x.state == 1 && x.phase == 1) fun k p => s.modEnds k p fun x => { x with phase := 2 }

def execModuleAdapterInit (die : DieIx) (m : Fin 16) (s : State) : Result :=
  moduleRun die m s (fun x => x.state == 1 && x.phase == 2) fun k p =>
    ((s.modEnds k p fun x => { x with phase := 3 }).sendCap k).sendCap p

/-- R310: a phase fails: the module tries again from the sideband, up to 3 times in all. A sideband phase that fails is a try, too. -/
def ModuleB.tryFails (x : ModuleB) : ModuleB :=
  { x with
    phase := 0, failed := x.failed + 1, state := if x.failed + 1 < 3 then 1 else 8
    tries := if x.phase = 0 then min 255 (x.tries + 1) else x.tries }

def execModuleTrainFail (die : DieIx) (m : Fin 16) (s : State) : Result :=
  moduleRun die m s (fun x => decide (x.state ≤ 1)) fun k p => s.modEnds k p (·.tryFails)

/-! ## Capabilities (R317, R318) -/

def opcServed (map : Nat) (l : List Nat) : Bool := l.all (bitOf map)

/-- R318: a die lacks what its kind needs. -/
def capUnfit (c : CapRecord) : Bool :=
  let map := c.opcMap.toNat
  match c.dieKind.toNat with
  | 1 => !opcServed map ([0, 1] ++ (List.range 23).map (· + 8)) || !bitOf c.features.toNat 0
  | 2 => !opcServed map [0, 1, 0x1D, 0x1E] || !bitOf c.features.toNat 2
  | _ => !opcServed map [0, 1, 0x1E]

/-- R317, R318: the CAP record of the peer reaches a module, and the study gathers it. -/
def State.takeCap (s : State) (k p : Nat) (c : CapRecord) : State :=
  let t := s.modModule k fun m => { m with
    peerMajor := c.azMajor.toNat % 16, peerMinor := c.azMinor.toNat % 16, peerGen := c.generation.toNat, peerMaker := c.maker.toNat
    grant := c.vcCredit.toNat }
  let t := t.modDie (p / 16) fun d => { d with combine := bitOf c.features.toNat 1, opcMap := c.opcMap.toNat, cap := some c }
  if c.azMajor.toNat ≠ s.idField (k / 16) 6 1 then t.modEnds k p fun m => { m with state := 4, phase := 0 }
  else if c.vcCredit.toNat < 2 ∨ c.dieKind.toNat ≠ dieKind (p / 16) ∨ c.dieIndex.toNat ≠ p / 16
  then t.modEnds k p fun m => { m with state := 5, phase := 0 }
  else t.modModule k fun m => { m with phase := 4 }

/-- R316, R310: every virtual channel holds its initial credits and the module is up; so is the port it belongs to. -/
def State.markPort (s : State) (k : Nat) : State :=
  if k / 16 < 24 then s.modHall (k / 16) fun h => { h with portUp := ninsert (k % 16 / 4) h.portUp } else s

def execModuleCreditInit (die : DieIx) (m : Fin 16) (s : State) : Result :=
  moduleRun die m s (fun x => x.state == 1 && x.phase == 4) fun k p =>
    if (s.module p).phase = 4 then
      ((s.modEnds k p fun x => { x with state := 2, phase := 0, failed := 0, credits := [] }).markPort k).markPort p
    else s

/-! ## Credits and errors (R308, R315, R316) -/

/-- R315: the four credit returns of a CRD message. -/
def creditReturns (x : Nat) : List (Nat × Nat) := (List.range 4).map fun i => (fld x (12 * i + 11) (12 * i + 7), fld x (12 * i + 6) (12 * i))

/-- R316: credits that come back: the partner returns no more than its buffers for the channel. -/
def ModuleB.takeCredits (x : ModuleB) (returns : Nat) : ModuleB :=
  (creditReturns returns).foldl (fun x r =>
    if r.2 = 0 then x else { x with credits := tset r.1 (min x.grant (x.credit r.1 + r.2)) x.credits }) x

/-- R315: an LCTL message whose ADDR names a kind other than CRD returns no credits. -/
def execLctlCrd (die : DieIx) (m : Fin 16) (addr : BitVec 55) (s : State) : Result :=
  moduleRun die m s (fun x => x.state == 2) fun k _ =>
    match lctlOf addr [] with
    | .crd r => s.modModule k (·.takeCredits r.toNat)
    | _ => s

/-- R308: the retries of the window of 1 ms, or of one flit in a row, reach their limit; 0 acts as 1. -/
def State.errorLimit (s : State) (d retries burst : Nat) : Bool :=
  let c := s.regN .d2dCfg d
  decide (max 1 (fld c 15 0) ≤ retries) || decide (max 1 (fld c 23 16) ≤ burst)

/-! ## Module registers (R322) -/

def ModuleB.status (m : ModuleB) : Nat :=
  m.peerIndex * 2 ^ 56 + m.state * 2 ^ 48 + m.peerMajor * 2 ^ 44 + m.peerMinor * 2 ^ 40 + m.peerGen * 2 ^ 32 + m.peerMaker * 2 ^ 16 +
  m.rxRepaired * 2 ^ 12 + m.txRepaired * 2 ^ 8 + m.tries

/-- The 8 bytes of the die-to-die block of a die at an aligned offset. -/
def State.d2dReg (s : State) (d off : Nat) : Nat :=
  if off = 0x100 then s.regN .d2dCfg d
  else if off < 0x100 ∧ off / 16 < (if d < 24 then 16 else if d < 104 then 3 else 2) then
    let m := s.module (d * 16 + off / 16)
    if off % 16 = 0 then m.status else m.retries * 2 ^ 32 + m.crcErrors
  else 0

def State.d2dRegWrite (s : State) (d off v : Nat) : State :=
  if off = 0x100 then s.setRegN .d2dCfg d (v % 2 ^ 24) else s

/-- R17: what a module end keeps when its partner is reset or loses power: nothing of the training, and no credits. -/
def ModuleB.dropped (x : ModuleB) : ModuleB := { x with state := 0, phase := 0, failed := 0, credits := [], grant := 0 }

/-- R17, R306: the dies at the far ends of a die's modules that are up or in training. -/
def State.survivors (s : State) (d : Nat) : List Nat :=
  (List.range 16).foldl (fun l m =>
    match modulePeer (d * 16 + m) with
    | some p => if (s.module p).state = 1 ∨ (s.module p).state = 2 then ninsert (p / 16) l else l
    | none => l) []

/-- A reset of a die: its own module registers, and every module down at its far end, whose side reports it (R17, R310). -/
def State.resetModules (s : State) (d : Nat) : State :=
  let fresh (p : Nat × ModuleB) : Nat × ModuleB := if p.1 / 16 = d then (p.1, { state := if p.2.state = 7 then 7 else 0 }) else p
  let far (p : Nat × ModuleB) : Nat × ModuleB :=
    match modulePeer p.1 with
    | some k => if k / 16 = d then (p.1, p.2.dropped) else p
    | none => p
  let t := (s.survivors d).foldl (fun t v => t.postIsland v d (islandOf d)) s
  { t with modules := (t.modules.map fresh).map far }.resetRegs fun n i => n == RegName.d2dCfg && i == d

end Sys2Proof.Machine
end

