-- ==== Sys2Proof/Machine/Links.lean ====
section
/-! DEFINITION. Basot links and the fabric: flits, replay, credits, heartbeats, training, recalibration, routing tables,
absence and global time (R323–R345, R350–R357, R364–R368). -/
namespace Sys2Proof.Machine

def State.link (s : State) (l : Nat) : LinkB := tgetD s.links l {}
def State.modLink (s : State) (l : Nat) (f : LinkB → LinkB) : State := { s with links := tset l (f (s.link l)) s.links }
def State.modFabric (s : State) (f : FabricB → FabricB) : State := { s with fabric := f s.fabric }

/-! ## Fabric tables (R352–R356) -/

/-- R368: the key of a flat entry, and of the hierarchical entries of rows, racks and devices of the own rack. -/
def flatKey (bank d : Nat) : Nat := bank * 2 ^ 16 + d
def rowKey (bank r : Nat) : Nat := bank * 2 ^ 16 + 2 ^ 15 + r
def rackKey (bank r : Nat) : Nat := bank * 2 ^ 16 + 2 ^ 15 + 32 + r
def devKey (bank i : Nat) : Nat := bank * 2 ^ 16 + 2 ^ 15 + 48 + i

def FabricB.entry (f : FabricB) (k : Nat) : Nat := tgetD f.table k 0
def FabricB.setEntry (f : FabricB) (k v : Nat) : FabricB := { f with table := if v = 0 then tdel k f.table else tset k v f.table }

/-- R4: the parts of a device ID. -/
def devRow (d : Nat) : Nat := d / 512
def devRack (d : Nat) : Nat := d / 32 % 16
def devIndex (d : Nat) : Nat := d % 32

/-- R354: the table entry for a destination. -/
def State.fabEntry (s : State) (bank dst : Nat) : Nat :=
  let own := s.devId.toNat
  if bitOf (s.regN .fabCfg 0) 8 then s.fabric.entry (flatKey bank dst)
  else if devRow dst ≠ devRow own then s.fabric.entry (rowKey bank (devRow dst))
  else if devRack dst ≠ devRack own then s.fabric.entry (rackKey bank (devRack dst))
  else s.fabric.entry (devKey bank (devIndex dst))

/-- R354, R366: the link is up for routing. -/
def State.linkUp (s : State) (l : Nat) : Bool := (s.link l).state == 3

/-- R327: class and cells of a packet, its prefix among them, and whether it is a reissue. -/
def fabCls (p : FabPacket) : Nat := azClass p.header
def fabCells (p : FabPacket) : Nat := 2 + p.body.length / 16
def fabReissue (p : FabPacket) : Bool := azReissue p.header

/-- R354: the links of an entry in the order tried: the valid ones. -/
def entryOrder (e : Nat) (reissue : Bool) : List Nat :=
  let p := [fld e 5 0]
  let a := (if bitOf e 30 then [fld e 11 6] else []) ++ (if bitOf e 29 then [fld e 17 12] else [])
  if reissue then a ++ p else p ++ a

/-- R354: the link chosen for a packet, and whether it is an alternate. A reissue takes its alternates first at its source only. -/
def State.fabLookup (s : State) (p : FabPacket) (source : Bool) : Option (Nat × Bool) :=
  let e := s.fabEntry (b2n p.tbank) p.dstDev.toNat
  if max 1 (fld (s.regN .fabCfg 0) 23 16) ≤ p.hops.val ∨ !bitOf e 31 then none
  else match (entryOrder e (source && fabReissue p)).find? s.linkUp with
    | some l => some (l, l != fld e 5 0)
    | none => none

/-- R344: the age of a packet in ns. -/
def State.packetAge (s : State) (p : FabPacket) : Nat := (s.now + 2 ^ 23 - p.fabTime.toNat * 128 % 2 ^ 23) % 2 ^ 23

def State.fabDrop (s : State) : State := s.bumpReg .fabDropCount 0 32 1

/-- A packet placed in an egress queue, whatever entries it holds (R336), or where its class finds an entry (R333). -/
def State.egressPut (s : State) (l : Nat) (p : FabPacket) : State := s.modLink l fun x => { x with egress := x.egress ++ [(p, s.now)] }
def State.egressAdmits (s : State) (l : Nat) (p : FabPacket) : Bool :=
  (s.regq (linkQ l)).admits ((s.link l).egress.map fun q => fabCls q.1) (fabCls p)

/-- R354: a packet for another device is sent towards it, or discarded; none where it must wait. -/
def State.fabForward (s : State) (p : FabPacket) (force source : Bool) : Option State :=
  match s.fabLookup p source with
  | none => some s.fabDrop
  | some (l, alt) =>
    if force || s.egressAdmits l p then some (s.egressPut l { p with alt := p.alt || alt }) else none

/-! ## Links down and initialised (R333, R335, R336, R338) -/

/-- R350: LINK_STATUS. -/
def LinkB.status (x : LinkB) : Nat :=
  x.epoch * 2 ^ 48 + x.state * 2 ^ 44 + x.cause * 2 ^ 40 + x.held.length * 2 ^ 24 + x.txSeq * 2 ^ 12 + x.expect
def LinkB.peerWord (x : LinkB) : Nat := x.peerBoot * 2 ^ 32 + b2n x.peerValid * 2 ^ 31 + x.peerDev * 2 ^ 16 + x.peerLink

/-- R351: a bit of LINK_ERR that the study reports to the hosts. -/
def State.linkReport (s : State) (l bit : Nat) : State :=
  let t := s.orReg .linkErr l (2 ^ bit)
  t.event 4 l (t.link l).status

def noCredits : Tab Nat := (List.range 16).map fun v => (v, 0)

/-- R336: both a link's queues and buffers when it goes down. Its egress packets take their alternates, in order. -/
def State.linkDown (s : State) (l cause : Nat) : State :=
  let x := s.link l
  if x.state = 0 ∧ x.cause = cause then s
  else
    let t := s.modLink l fun x => { x with
      state := 0, cause := cause, phase := 0, held := [], egress := [], cut := false, credits := noCredits, nak := none
      recalAsked := false, recalSoft := false, doneSent := false, donePeer := false, retrained := false, gotInit := false, gotAck := false
      downAt := s.now, report := none }
    let t := x.egress.foldl (fun t p => (t.fabForward p.1 true false).getD t) t
    ((t.linkReport l 5).postDie 0x41 (96 + l / 6) (t.link l).status).mgmtDone 0x40 l 0x14

/-- R327: the virtual channel of a packet. -/
def fabVc (p : FabPacket) : Nat := fabCls p * 2 + b2n (azRsp p.header)

/-- R332: cells of the receive buffer that packets of a virtual channel fill. -/
def LinkB.filled (x : LinkB) (v : Nat) : Nat := (x.rx.filter fun p => fabVc p == v).foldl (fun n p => n + fabCells p) 0

/-- R333, R338: sequence numbers and credits start again. What was received whole stays until it is routed. -/
def LinkB.restart (x : LinkB) : LinkB :=
  { x with txSeq := 0, expect := 0, held := [], cut := false, credits := [], nak := none, granted := 15, peerBacklog := 0
           chans := ((List.range 16).filter fun v => x.filled v != 0).map fun v => (v, { out := 64 + x.filled v, ret := 0 })
           pool := 7168 - (List.range 16).foldl (fun n v => n + x.filled v) 0 }

/-- R338: INIT or INIT_ACK names a partner that this device cannot have. -/
def State.badPartner (s : State) (i : LinkInit) : Bool := i.device == s.devId || i.version.toNat != 1

/-! ## Every flit (R326, R328, R332) -/

/-- R328: sequence numbers from the oldest one held that an ACK covers. -/
def ackCovers (ack seq : Nat) : Bool := decide ((ack + 4096 - seq) % 4096 < 2048)

/-- R332: pool cells granted to the next backlogged virtual channel, at most 128 at a time. -/
def LinkB.grantPool (x : LinkB) : LinkB :=
  match ((List.range 16).map fun i => (x.granted + 1 + i) % 16).find? fun v => bitOf x.peerBacklog v && x.pool != 0 with
  | none => x
  | some v =>
    let k := min 128 x.pool
    let c := tgetD x.chans v {}
    { x with pool := x.pool - k, granted := v, chans := tset v { c with out := c.out + k, ret := c.ret + k } x.chans }

/-- R332: a credit return, as the CRD field names it, and the link once it is reported. -/
def LinkB.takeReturn (x : LinkB) : Nat × LinkB :=
  match (List.range 16).find? fun v => (tgetD x.chans v {}).ret != 0 with
  | none => (0, x)
  | some v =>
    let c := tgetD x.chans v {}
    let n := min 255 c.ret
    (v * 256 + n, { x with chans := tset v { c with ret := c.ret - n } x.chans })

/-- R332: credits that the link holds for a virtual channel, and the channels with a packet that waits for more. -/
def LinkB.credit (x : LinkB) (v : Nat) : Nat := tgetD x.credits v 64
def LinkB.backlog (x : LinkB) : Nat :=
  (List.range 16).foldl (fun n v => n + b2n (x.egress.any fun q => fabVc q.1 == v && decide (x.credit v < fabCells q.1)) * 2 ^ v) 0

/-! ## Flits as they are sent (R326, R327) -/

/-- R330: the ACK that a link reports: E − 1. -/
def LinkB.ack (x : LinkB) : Nat := (x.expect + 4095) % 4096

/-- R326: the 256 bytes of a flit. -/
def flitBytes (ftype seq ack backlog crd1 crd0 next : Nat) (payload : List Byte) : List Byte :=
  let l := toBytes 12 (ftype * 2 ^ 92 + seq * 2 ^ 80 + ack * 2 ^ 68 + backlog * 2 ^ 48 + crd1 * 2 ^ 36 + crd0 * 2 ^ 24 + next * 2 ^ 20) ++
    (payload ++ List.replicate (240 - payload.length) 0)
  l ++ toBytes 4 (crc32 l)

/-- R326, R332: a flit is sent, with ACK, BACKLOG and two credit returns. -/
def State.sendFlit (s : State) (l ftype seq next : Nat) (payload : List Byte) : State :=
  let x := s.link l
  let a := x.takeReturn
  let b := a.2.takeReturn
  (s.modLink l fun _ => b.2).send (.flit l (flitBytes ftype seq x.ack x.backlog b.1 a.1 next payload))

/-- R326: a flit in which no packet begins. -/
def State.sendCtl (s : State) (l ftype : Nat) (payload : List Byte) : State := s.sendFlit l ftype 0 15 payload

/-- R338: a LINKCTL flit of a kind. -/
def State.sendLctl (s : State) (l kind : Nat) (rest : List Byte) : State := s.sendCtl l 5 (toBytes 1 kind ++ rest)

/-- R327: the 16 bytes of a packet's prefix. -/
def fabPrefix (p : FabPacket) : List Byte :=
  toBytes 16 (p.dstDev.toNat * 2 ^ 114 + p.srcDev.toNat * 2 ^ 100 + fabVc p * 2 ^ 96 + fabCells p * 2 ^ 88 + p.fabTime.toNat * 2 ^ 72 +
    p.hops.val * 2 ^ 68 + b2n p.alt * 2 ^ 67 + b2n p.tbank * 2 ^ 66)

/-- R327: the cells of a packet. -/
def fabBytes (p : FabPacket) : List Byte := fabPrefix p ++ toBytes 16 p.header.toNat ++ p.body

/-- R326, R328, R332: ACK, credit returns and BACKLOG of a good flit. -/
def LinkB.take (x : LinkB) (f : FlitHead) (now : Nat) : LinkB :=
  let add (c : Tab Nat) (w : Nat) : Tab Nat := if w % 256 = 0 then c else tset (w / 256) (tgetD c (w / 256) 64 + w % 256) c
  let held := x.held.filter fun h => !ackCovers f.ack.val h.seq
  { x with
    held := held
    progress := if held.length < x.held.length then now else x.progress
    credits := add (add x.credits f.crd0.toNat) f.crd1.toNat
    peerBacklog := f.backlog.toNat }.grantPool

/-- R340: in a drain, DRAIN_DONE is sent once every DATA flit is acknowledged; with the partner's too, the retrain begins. -/
def State.drainStep (s : State) (l : Nat) : State :=
  let x := s.link l
  if x.state ≠ 4 ∨ !x.held.isEmpty then s
  else
    let t := if x.doneSent then s else (s.sendLctl l 4 []).modLink l fun y => { y with doneSent := true }
    if x.donePeer then t.modLink l fun y => { y with state := 5, doneSent := false, donePeer := false, retrained := false } else t

/-- R326: a flit arrives: one that fails its CRC is discarded whole. -/
def flitRun (l : LinkIx) (f : FlitHead) (s : State) (body : State → State) : Result :=
  if (s.link l.val).phase < 4 ∧ (s.link l.val).state < 2 then .next s
  else if !f.crcOk then .next ((s.orReg .linkErr l.val 4).bumpReg .linkReplayCount l.val 32 1)
  else .next ((body (s.modLink l.val (·.take f s.now))).drainStep l.val)

def execFlitIdle (l : LinkIx) (f : FlitHead) (s : State) : Result := flitRun l f s id

/-! ## DATA, NAK and replay (R328–R331) -/

def State.sendNak (s : State) (l : Nat) : State := (s.modLink l fun x => { x with nak := some s.now }).sendCtl l 2 []

/-- R328: a DATA flit leaves, or leaves again. -/
def State.sendData (s : State) (l : Nat) (h : HeldFlit) : State := s.sendFlit l 0 h.seq h.next h.cells

/-- R329: a DATA flit with a good CRC. -/
def State.dataFlit (s : State) (l seq : Nat) (packets : List FabPacket) (more : Bool) : State :=
  let x := s.link l
  let d := (seq + 4096 - x.expect) % 4096
  if d = 0 then s.modLink l fun x => { x with
    expect := (x.expect + 1) % 4096, rx := x.rx ++ packets, cut := more, nak := none }
  else if d ≤ 1023 then (if x.nak.isNone then s.sendNak l else s)
  else if 3072 ≤ d then s
  else s.linkDown l 5

def execFlitData (l : LinkIx) (f : FlitHead) (packets : List FabPacket) (more : Bool) (s : State) : Result :=
  flitRun l f s fun s => if (s.link l.val).state < 2 then s else s.dataFlit l.val f.seq.val packets more

/-- R330: every flit held is sent again in order; R331: replay that does not converge takes the link down. -/
def State.replay (s : State) (l : Nat) : State :=
  let cfg := s.regN .linkCfg l
  let times := ((s.link l).replayTimes.filter fun t => decide (s.now < t + 1000000)) ++ [s.now]
  let t := s.modLink l fun x => { x with
    replayTimes := times, progress := s.now, held := x.held.map fun h => { h with sent := s.now, replays := h.replays + 1 } }
  let t := (t.orReg .linkErr l 8).setRegN .linkReplayCount l ((t.regN .linkReplayCount l + 2 ^ 32) % 2 ^ 64)
  let t := (t.link l).held.foldl (fun t h => t.sendData l h) t
  if (t.link l).held.any (fun h => decide (max 1 (fld cfg 19 16) ≤ h.replays)) = true ∨ max 1 (fld cfg 31 24) ≤ times.length
  then t.linkDown l 6 else t

def execFlitNak (l : LinkIx) (f : FlitHead) (s : State) : Result :=
  flitRun l f s fun s => if (s.link l.val).held.isEmpty then s else s.replay l.val

def execNakRepeatTimer (l : LinkIx) (s : State) : Result :=
  match (s.link l.val).nak with
  | some t => .next ((s.reach (t + 1000)).sendNak l.val)
  | none => .next s

def execReplayTimeout (l : LinkIx) (s : State) : Result :=
  match (s.link l.val).held.head? with
  | some h =>
    let tmo := max 1 (fld (s.regN .linkCfg l.val) 15 8) * 100
    .next ((s.reach (max h.sent (s.link l.val).progress + tmo)).replay l.val)
  | none => .next s

/-! ## Packets through a porch (R327, R332, R344, R354) -/

/-- R332: a packet's cells are free again. -/
def LinkB.freeCells (x : LinkB) (vc n : Nat) : LinkB :=
  let c := tgetD x.chans vc {}
  let toPool := min n (c.out - 64)
  { x with pool := x.pool + toPool, chans := tset vc { out := c.out - toPool, ret := c.ret + (n - toPool) } x.chans }.grantPool

/-- R281: the wing and its port that a porch attaches to. -/
def porchWing (p : Nat) : Nat := dieWing (96 + p) 0

/-- R12: a porch works: its die has good fuses and some module of it works; it is up where its wing is too. -/
def State.porchAlive (s : State) (p : Nat) : Bool :=
  (s.die (96 + p)).fuses == .good && !(s.die (96 + p)).unfit && (List.range 3).any fun m => (s.module ((96 + p) * 16 + m)).state == 2
def State.porchUp (s : State) (p : Nat) : Bool := (s.wing (porchWing p)).state != 2 && s.porchAlive p

/-- R284, R354: a packet for this device, without its prefix, enters the hall at the porch's wing. -/
def State.fabDeliver (s : State) (porch : Nat) (p : FabPacket) : Option State :=
  let w := porchWing porch
  s.dieInject (96 + porch) w (s.injected w (dieEntry (azDstDie p.header)) s.devId.toNat p.header p.body)

/-- R284, R354: a packet is injected in a wing: towards the die of its target, or towards the porch of the link that the fabric table
gives. -/
def State.hallEnter (s : State) (w : Nat) (dev : DevId) (header : W128) (body : List Byte) : State :=
  let into (entry : Nat) : State := (s.hallInject w (s.injected w entry dev.toNat header body)).getD s
  if dev = s.devId then into (dieEntry (azDstDie header))
  else match s.fabLookup ⟨dev, s.devId, 0, 0, false, s.fabric.active == 1, header, body⟩ true with
    | some (l, _) => into (24 + l / 6)
    | none => s.fabDrop

/-- R315: an LCTL message crosses one module only, and never enters the hall. -/
def execHallPacketRoute (w : WingIx) (step : HallStep) (s : State) : Result :=
  match step with
  | .inject dev header body => whenReady (body.length + 16 == azBytes header && azOpc header != 0x1F) s (s.hallEnter w.val dev header body)
  | .advance port => .next (s.hallAdvance w.val port.val)

/-- R344, R354: the oldest packet that a link holds on a virtual channel is routed. -/
def State.routeReceived (s : State) (l vc : Nat) : State :=
  match (s.link l).rx.find? fun p => fabVc p == vc with
  | none => s
  | some p =>
    let gone (t : State) : State := t.modLink l fun x => { x with rx := x.rx.erase p }.freeCells vc (fabCells p)
    let q := { p with hops := Fin.ofNat 16 (min 15 (p.hops.val + 1)), tbank := s.fabric.active == 1 }
    if s.absentDevs.contains p.srcDev.toNat then gone s
    else if 16000 < s.packetAge p then gone (s.bumpReg .linkAgedCount l 32 1)
    else match (if p.dstDev = s.devId then s.fabDeliver (l / 6) p else s.fabForward q false false) with
      | some t => gone t
      | none => s

/-- R327: the DATA flits that carry a packet. Each packet begins in a flit of its own (DESIGN CHOICE, log 105). -/
def dataFlits (p : FabPacket) (seq now : Nat) : List HeldFlit :=
  (List.range (ceilDiv (fabCells p) 15)).map fun j =>
    ⟨(seq + j) % 4096, ((fabBytes p).drop (j * 240)).take 240, if j = 0 then 0 else 15, now, 0⟩

/-- R344, R327, R328, R332: an egress queue sends its next packet in DATA flits, and IDLE when it has nothing to send. A packet
that waits for credit is passed by none of its virtual channel. -/
def State.sendEgress (s : State) (l : Nat) : State :=
  let x := s.link l
  let ready (p : FabPacket) : Bool := decide (fabCells p ≤ x.credit (fabVc p)) && decide (x.held.length + ceilDiv (fabCells p) 15 ≤ 1024)
  let old := x.egress.filter fun q => decide (16000 < s.packetAge q.1)
  if !old.isEmpty then
    (s.modLink l fun x => { x with egress := x.egress.filter fun q => decide (s.packetAge q.1 ≤ 16000) }).bumpReg .linkAgedCount l 32 old.length
  else match (s.regq (linkQ l)).pick (headsReady (x.egress.map fun q => (fabCls q.1, fabVc q.1, ready q.1))) with
    | none => s.sendCtl l 1 []
    | some i =>
      match x.egress[i]? with
      | none => s
      | some (p, t0) =>
        let flits := dataFlits p x.txSeq s.now
        let t := s.modLink l fun x => { x with
          egress := x.egress.eraseIdx i, txSeq := (x.txSeq + flits.length) % 4096, held := x.held ++ flits
          progress := if x.held.isEmpty then s.now else x.progress
          credits := tset (fabVc p) (x.credit (fabVc p) - fabCells p) x.credits }
        let t := t.modRegq (linkQ l) fun q => { q.complete (fabCls p) (s.now - t0) (fabCells p * 16) with last := fabCls p }
        flits.foldl (fun t h => t.sendData l h) t

def execPorchPacketRoute (step : PorchStep) (s : State) : Result :=
  match step with
  | .depart p =>
    let q : FabPacket := { p with
      srcDev := s.devId, fabTime := BitVec.ofNat 16 (s.now / 128), hops := 0, alt := false, tbank := s.fabric.active == 1 }
    whenReady (p.dstDev != s.devId && p.body.length + 16 == azBytes p.header) s ((s.fabForward q false true).getD s)
  | .route l vc => .next (s.routeReceived l.val vc.val)
  | .egress l =>
    if (s.link l.val).state = 3 then .next (s.sendEgress l.val)
    else whenReady ((s.link l.val).state == 2 || (s.link l.val).state == 4) s (s.sendCtl l.val 1 [])

/-! ## Heartbeats and loss of a partner (R334, R335) -/

/-- R338: what INIT and INIT_ACK tell of a link; in a recalibration LINK_EPOCH is that of the initialisation to come. -/
def State.linkSelf (s : State) (l : Nat) : List Byte :=
  toBytes 2 s.devId.toNat ++ toBytes 1 l ++ toBytes 1 1 ++ toBytes 4 s.bootCount ++
  toBytes 2 ((s.link l).epoch + b2n ((s.link l).state == 5))

/-- R334, R427, R460: what this device tells of its state. -/
def State.heartState (s : State) : Nat := if s.therm.stop ≠ 0 then 1 else if s.boot.state = 2 then 2 else 0

/-- R334: the payload of a heartbeat. -/
def State.heartbeat (s : State) (l : Nat) : List Byte :=
  toBytes 2 s.devId.toNat ++ toBytes 1 l ++ toBytes 1 s.heartState ++ toBytes 4 s.bootCount ++ toBytes 8 s.now

/-- R334: the link is INIT, READY, UP or DRAINING. -/
def LinkB.beating (x : LinkB) : Bool :=
  x.phase == 4 || x.state == 2 || x.state == 3 || x.state == 4 || (x.state == 5 && x.retrained)

def execHeartbeatSend (l : LinkIx) (s : State) : Result :=
  whenReady (s.link l.val).beating s (s.sendCtl l.val 3 (s.heartbeat l.val))

/-- R335: a heartbeat is held against what was learnt at initialisation; its STATE changes nothing here. -/
def execFlitHeartbeat (l : LinkIx) (f : FlitHead) (i : LinkInit) (_state : Fin 4) (s : State) : Result :=
  flitRun l f s fun s =>
    let x := s.link l.val
    if x.peerValid ∧ (x.peerDev ≠ i.device.toNat ∨ x.peerLink ≠ i.link.val ∨ x.peerBoot ≠ i.bootCount.toNat)
    then s.linkDown l.val 3
    else s.modLink l.val fun x => { x with beats := x.beats + 1, lastBeat := s.now }

def execHeartbeatSilent (l : LinkIx) (s : State) : Result :=
  whenReady (decide (2 ≤ (s.link l.val).state) && (s.link l.val).beating) s ((s.reach ((s.link l.val).lastBeat + 4000)).linkDown l.val 2)

def execLinkSignalLoss (l : LinkIx) (s : State) : Result := whenReady ((s.link l.val).state != 0) s (s.linkDown l.val 1)

/-- R335, R365: a partner that says GOODBYE is absent. -/
def execLctlGoodbye (l : LinkIx) (f : FlitHead) (_cause : W16) (s : State) : Result :=
  flitRun l f s fun s =>
    let x := s.link l.val
    let t := s.linkDown l.val 4
    if x.peerValid && !t.absentDevs.contains x.peerDev
    then (t.deviceAbsent x.peerDev).postDie 0x44 (96 + l.val / 6) x.peerDev
    else t

/-! ## Training (R337, R338, R341) -/

/-- R337: a phase of training fails: again from the first, up to 3 tries; then DOWN with TRAIN. -/
def State.trainFails (s : State) (l : Nat) : State :=
  let x := s.link l
  if x.failed + 1 < 3 then s.modLink l fun x => { x with state := 1, phase := 1, failed := x.failed + 1 }
  else (s.modLink l fun x => { x with failed := 0 }).linkDown l 9

/-- R337: training starts from the Signal phase. -/
def State.trainStart (s : State) (l : Nat) : State :=
  s.modLink l fun x => { x with state := 1, phase := 1, beats := 0, gotInit := false, gotAck := false }

def linkEnabled (s : State) (l : Nat) : Bool := bitOf (s.regN .linkCfg l) 0

/-- R337, R412, R450, R460: a link may train: enabled, its porch up and out of reset, and the study has started phase 7 of a full start;
L0 in phase 4 of a start from a neighbour, in vestibule mode and in the door-only state. -/
def State.linkMayTrain (s : State) (l : Nat) : Bool :=
  linkEnabled s l && !s.dieInReset (96 + l / 6) &&
  ((s.porchUp (l / 6) && decide (7 ≤ s.boot.phase) && s.boot.state != 2 && s.boot.state != 3) ||
    (l == 0 && s.bootSrc == 0 && s.porchAlive 0 && (decide (4 ≤ s.boot.phase) || s.boot.state == 2 || s.boot.state == 3)))

/-- R337: a phase ends: signal, PMD and PCS lock; the init phase ends by INIT_ACK, and confirm by 4 heartbeats. -/
def execLinkTraining (l : LinkIx) (ok : Bool) (s : State) : Result :=
  let x := s.link l.val
  let k := l.val
  .next (
    if !s.linkMayTrain k || s.restarting 5 (k / 6) then s
    else if x.state = 0 ∧ x.cause = 0 then (if ok then s.trainStart k else s)
    else if x.state = 1 ∧ 1 ≤ x.phase ∧ x.phase ≤ 3 then
      (if !ok then s.trainFails k
       else
         let t := s.modLink k fun x => { x with phase := x.phase + 1 }
         if x.phase = 3 then t.sendLctl k 1 (t.linkSelf k) else t)
    else if x.state = 1 ∧ x.phase = 4 then (if ok then s else s.trainFails k)
    else if x.state = 2 ∧ x.phase = 5 then
      (if ok && decide (4 ≤ x.beats) then s.modLink k fun x => { x with phase := 0, failed := 0 }
       else if ok then s else s.trainFails k)
    else s)

/-- R341: a link that is down trains again every 1 s. -/
def execLinkRetrainTimer (l : LinkIx) (s : State) : Result :=
  whenReady ((s.link l.val).state == 0 && s.linkMayTrain l.val) s ((s.reach ((s.link l.val).downAt + 1000000000)).trainStart l.val)

/-- R338: the partner recorded, and the link started afresh. -/
def State.meetPeer (s : State) (l : Nat) (i : LinkInit) : State :=
  s.modLink l fun x => { x.restart with
    peerValid := true, peerDev := i.device.toNat, peerLink := i.link.val, peerBoot := i.bootCount.toNat, beats := 0, lastBeat := s.now }

/-- The link is in an init phase, of its training or of a recalibration. -/
def LinkB.initialising (x : LinkB) : Bool :=
  (x.state == 1 && x.phase == 4) || (x.state == 5 && x.retrained && !(x.gotInit && x.gotAck))

/-- R337, R338, R340: INIT and INIT_ACK are exchanged: LINK_EPOCH rises, and a link in training is READY. -/
def State.initDone (s : State) (l : Nat) : State :=
  let x := s.link l
  if !(x.gotInit && x.gotAck) then s
  else
    let t := s.modLink l fun x => { x with epoch := (x.epoch + 1) % 2 ^ 16 }
    if x.state = 5 then t else (t.modLink l fun x => { x with state := 2, phase := 5, cause := 0 }).linkReport l 0

def execLctlInit (l : LinkIx) (f : FlitHead) (i : LinkInit) (s : State) : Result :=
  flitRun l f s fun s =>
    if !(s.link l.val).initialising then s
    else if s.badPartner i then s.linkDown l.val 10
    else (((s.meetPeer l.val i).modLink l.val fun x => { x with gotInit := true }).initDone l.val).sendLctl l.val 2 (s.linkSelf l.val)

def execLctlInitAck (l : LinkIx) (f : FlitHead) (i : LinkInit) (s : State) : Result :=
  flitRun l f s fun s =>
    let x := s.link l.val
    if !x.initialising then s
    else if s.badPartner i then s.linkDown l.val 10
    else ((s.meetPeer l.val i).modLink l.val fun x => { x with gotAck := true }).initDone l.val

/-- R352: the partner device and link of a link in the reference topology, where there is one. -/
def referencePartner (own rows l : Nat) : Option (Nat × Nat) :=
  let row := devRow own
  let rack := devRack own
  let i := devIndex own
  let n := own % 512
  let d := if 2 ≤ rows then 1 + n % (rows - 1) else 0
  if l = 0 then some (row * 512 + rack * 32 + (i + 1) % 32, 1)
  else if l = 1 then some (row * 512 + rack * 32 + (i + 31) % 32, 0)
  else if l ≤ 30 then some (row * 512 + rack * 32 + (i + 32 - l) % 32, 32 - l)
  else if l ≤ 45 then some (row * 512 + (rack + (l - 31) + 1) % 16 * 32 + i, 45 - (l - 31))
  else if rows < 2 then none
  else if l = 46 then some ((row + d) % rows * 512 + n, 47)
  else some ((row + rows - d) % rows * 512 + n, 46)

def State.rows (s : State) : Nat := fld (s.regN .fabCfg 0) 4 0 + 1
def State.custom (s : State) : Bool := bitOf (s.regN .fabCfg 0) 9

/-- R353: the link's partner is the one that R352 gives. -/
def State.wiredRight (s : State) (l : Nat) : Bool :=
  let x := s.link l
  x.peerValid && referencePartner s.devId.toNat s.rows l == some (x.peerDev, x.peerLink)

/-- R338: LINK_CTRL.ADMIT. -/
def State.linkAdmit (s : State) (l : Nat) : State :=
  if (s.link l).state = 2 then s.modLink l fun x => { x with state := 3, phase := 0, lastBeat := s.now } else s

/-- R353: the study admits a link only where its wiring is right, unless CUSTOM is 1; else WIRING_ERR is set. Another writer
is not checked. -/
def execLinkAdmit (who : Accessor) (l : LinkIx) (s : State) : Result :=
  let study := who == .processor && !s.custom
  whenReady (regWriter s 888 who) s
    (if study && (s.link l.val).state == 2 && !s.wiredRight l.val then s.modFabric fun f => { f with wiringErr := true }
     else s.linkAdmit l.val)

/-! ## Recalibration (R339, R340) -/

def execLinkRecalCtrl (who : Accessor) (l : LinkIx) (s : State) : Result :=
  whenReady (regWriter s 888 who && (s.link l.val).state == 3) s (s.modLink l.val fun x => { x with recalAsked := true, recalSoft := true })

/-- R339: codewords counted in 1 ms. -/
def execLinkRecalRequest (l : LinkIx) (corrected uncorrected : Nat) (s : State) : Result :=
  let cfg := s.regN .linkCfg l.val
  let c := s.regN .linkFecCount l.val
  let t := s.setRegN .linkFecCount l.val ((c / 2 ^ 32 + uncorrected) % 2 ^ 32 * 2 ^ 32 + (c % 2 ^ 32 + corrected) % 2 ^ 32)
  let t := if 0 < uncorrected then t.linkReport l.val 1 else t
  let ask := decide (2 ^ fld cfg 39 32 ≤ corrected) || (decide (0 < uncorrected) && bitOf cfg 1)
  .next (if ask && (s.link l.val).state == 3 then t.modLink l.val fun x => { x with recalAsked := true } else t)

def execLctlDrain (l : LinkIx) (f : FlitHead) (reason : Byte) (s : State) : Result :=
  flitRun l f s fun s =>
    if (s.link l.val).state = 3 then s.modLink l.val fun x => { x with recalAsked := true, recalSoft := reason == 1, donePeer := false } else s

/-- R339: another link of the device is DRAINING or RECAL. -/
def State.otherRecal (s : State) (l : Nat) : Bool := s.links.any fun p => p.1 != l && (p.2.state == 4 || p.2.state == 5)

/-- R340: the drain begins: the port is down for routing, packets not yet carried take alternates, and DRAIN tells the partner. -/
def State.drainLink (s : State) (l : Nat) : State :=
  let x := s.link l
  let t := s.modLink l fun x => { x with state := 4, egress := [], recalAsked := false, retrained := false, doneSent := false }
  let t := x.egress.foldl (fun t p => (t.fabForward p.1 true false).getD t) t
  (t.sendLctl l 3 (toBytes 1 (b2n x.recalSoft))).drainStep l

def execLinkRecalGrant (l : LinkIx) (s : State) : Result :=
  let x := s.link l.val
  whenReady (x.state == 3 && x.recalAsked && !s.otherRecal l.val && !s.restarting 5 (l.val / 6)) s (s.drainLink l.val)

/-- R340: the partner has drained; it may say so before this side's grant. -/
def execLctlDrainDone (l : LinkIx) (f : FlitHead) (s : State) : Result :=
  flitRun l f s fun s =>
    let x := s.link l.val
    if x.state = 4 ∨ (x.state = 3 ∧ x.recalAsked = true) then s.modLink l.val fun x => { x with donePeer := true } else s

/-- R340: the retrain ends and INIT is sent with LINK_EPOCH + 1; a failure of the retrain, or of the init phase after it, takes the
link down with TRAIN. -/
def execLinkRecalRetrainEnd (l : LinkIx) (ok : Bool) (s : State) : Result :=
  let x := s.link l.val
  whenReady (x.state == 5 && (!x.retrained || (!ok && !(x.gotInit && x.gotAck)))) s
    (if ok then (s.modLink l.val fun x => { x.restart with retrained := true, gotInit := false, gotAck := false }).sendLctl l.val 1
        (s.linkSelf l.val)
     else s.linkDown l.val 9)

def execLinkRecalResume (l : LinkIx) (s : State) : Result :=
  let x := s.link l.val
  whenReady (x.state == 5 && x.retrained && x.gotInit && x.gotAck) s
    ((s.modLink l.val fun x => { x with state := 3, retrained := false, lastBeat := s.now }).linkReport l.val 4 |>.mgmtDone 0x40 l.val 0)

/-- R350: a write of LINK_CFG; ENABLE 0 takes the link down. -/
def State.linkCfgWrite (s : State) (l : Nat) (v : W64) : State :=
  let t := s.writeReg .linkCfg l v
  if bitOf v.toNat 0 then t else t.linkDown l 8

def execLinkCfgWrite (who : Accessor) (l : LinkIx) (value : W64) (s : State) : Result :=
  whenReady (regWriter s 888 who) s (s.linkCfgWrite l.val value)

/-! ## Tables (R355, R356) -/

/-- R352: the link that leads to a device of the own rack. -/
def rackLink (i j : Nat) : Nat := let d := (i + 32 - j) % 32; if d = 31 then 0 else d
/-- R352: the link that leads to the same index of another rack of the row. -/
def rowLink (r r' : Nat) : Nat := 31 + (r' + 31 - r) % 16

/-- R355: the tray that an alternate goes by, one tray further while it is that of the source or the destination. -/
def otherTray (ti tj step : Nat) : Nat → Nat → Nat
  | 0, t => t
  | n + 1, t => if t = ti ∨ t = tj then otherTray ti tj step n ((t + step) % 8) else t

def tableEntry (p a b : Nat) : Nat := 0xE0000000 + b * 2 ^ 12 + a * 2 ^ 6 + p

/-- R355: the lowest-indexed device of the rack one of whose row links reaches a row. -/
def rowVia (own rows target : Nat) (back : Bool) : Option Nat :=
  (List.range 32).find? fun j =>
    let n := own % 512 / 32 * 32 + j
    let d := 1 + n % (rows - 1)
    (if back then (devRow own + rows - d) % rows else (devRow own + d) % rows) == target

def rowEntry (own rows target : Nat) : Nat :=
  let i := devIndex own
  let go (back : Bool) (l : Nat) : Nat := match rowVia own rows target back with
    | some j =>
      let d := 1 + own % 512 % (rows - 1)
      if (if back then (devRow own + rows - d) % rows else (devRow own + d) % rows) = target then l
      else if j = i then l else rackLink i j
    | none => 63
  tableEntry (go false 46) (go true 47) (rowLink (devRack own) ((devRack own + 1) % 16))

def rackEntry (own r : Nat) : Nat :=
  let i := devIndex own
  tableEntry (rowLink (devRack own) r) (rackLink i ((i + 1) % 32)) (rackLink i ((i + 31) % 32))

def devEntry (own j : Nat) : Nat :=
  let i := devIndex own
  let ti := i / 4
  let tj := j / 4
  tableEntry (rackLink i j) (rackLink i (otherTray ti tj 1 8 ((ti + 1) % 8) * 4)) (rackLink i (otherTray ti tj 7 8 ((ti + 7) % 8) * 4))

/-- R355: an entry whose PRIMARY is down: the alternates move up, and the down link becomes ALT2. -/
def State.adjusted (s : State) (e : Nat) : Nat :=
  if s.linkUp (fld e 5 0) then e else tableEntry (fld e 11 6) (fld e 17 12) (fld e 5 0)

/-- R355: a bank filled with the reference entries, for the links as they stand. -/
def State.fillBank (s : State) (bank : Nat) (adjust : Bool) : State :=
  let own := s.devId.toNat
  let a (e : Nat) : Nat := if adjust then s.adjusted e else e
  let t := (List.range s.rows).foldl (fun t r =>
    if r = devRow own then t else t.modFabric (·.setEntry (rowKey bank r) (a (rowEntry own s.rows r)))) s
  let t := (List.range 16).foldl (fun t r =>
    if r = devRack own then t else t.modFabric (·.setEntry (rackKey bank r) (a (rackEntry own r)))) t
  (List.range 32).foldl (fun t j =>
    if j = devIndex own then t else t.modFabric (·.setEntry (devKey bank j) (a (devEntry own j)))) t

def State.fabSwitch (s : State) : State :=
  s.modFabric fun f => { f with active := 1 - f.active, epoch := (f.epoch + 1) % 2 ^ 16 }

/-- R356: a packet of the inactive bank is in the device. -/
def State.fabDraining (s : State) : Bool :=
  s.links.any fun p => p.2.egress.any (fun q => q.1.tbank != (s.fabric.active == 1)) || p.2.rx.any fun q => q.tbank != (s.fabric.active == 1)

def execFabTableRebuild (s : State) : Result :=
  whenReady (!s.custom && !s.fabDraining) s (s.fillBank (1 - s.fabric.active) true).fabSwitch

def execFabCtrlSwitch (who : Accessor) (s : State) : Result :=
  whenReady (match who with | .host _ => s.custom | _ => regWriter s 888 who) s s.fabSwitch

/-! ## Absence (R364, R365) -/

def execFabAbsentClr (who : Accessor) (d : DevId) (s : State) : Result :=
  whenReady (match who with | .host _ => true | _ => regWriter s 888 who) s (s.deviceBack d.toNat)

/-- R365: a link to the partner has gone down with SIGNAL, SILENT or PEER_CHANGE. -/
def State.lostPartner (s : State) (d : Nat) : Bool :=
  s.links.any fun p => p.2.peerValid && p.2.peerDev == d && p.2.state == 0 && decide (1 ≤ p.2.cause ∧ p.2.cause ≤ 3)

def execAbsentProbe (d : DevId) (s : State) : Result :=
  whenReady (s.lostPartner d.toNat) s
    ((s.modFabric fun f => { f with probes := tset d.toNat s.now f.probes }).send (.probe d.toNat))

def execAbsentProbeTimeout (d : DevId) (s : State) : Result :=
  match tget d.toNat s.fabric.probes with
  | none => .next s
  | some t0 =>
    let t := (s.reach (t0 + 10000)).modFabric fun f => { f with probes := tdel d.toNat f.probes }
    .next ((t.deviceAbsent d.toNat).postDie 0x44 104 d.toNat)

/-- R345: a request of a room, or of a landing, to another device is issued again once. -/
def execFabricReissue (island : Fin 792) (tag : Fin 4096) (s : State) : Result :=
  if 768 ≤ island.val then .next (s.landingReissue (island.val - 768) tag.val false)
  else match s.findReq island.val tag.val with
    | none => .next s
    | some q => whenReady (s.reqDevice q != s.devId.toNat && !q.reissued) s (s.reissue q)

/-! ## Global time (R366) -/

def execTimeFlitSend (l : LinkIx) (s : State) : Result :=
  let x := s.link l.val
  let t := s.fabric.time
  whenReady (x.state == 3) s (s.sendCtl l.val 4 (toBytes 8 s.now ++ toBytes 8 x.peerTx ++ toBytes 8 x.peerRx ++ toBytes 2 t.root ++
    toBytes 1 t.dist ++ toBytes 1 (b2n t.locked) ++ toBytes 2 t.err))

/-- R366: the link to the parent: an up link whose partner reports the lowest root, then distance, then link number; none
where this device is itself the lowest that is not absent. -/
def State.timeParent (s : State) : Option (Nat × Nat × Nat × Nat) :=
  let cands := (List.range 48).filterMap fun l =>
    match (s.link l).report with
    | some (root, dist, err) =>
      if s.linkUp l ∧ dist < 0xFF ∧ root < s.devId.toNat ∧ s.absentDevs.contains root = false then some (l, root, dist, err) else none
    | none => none
  cands.foldl (fun b c => match b with
    | none => some c
    | some d => if c.2.1 < d.2.1 ∨ (c.2.1 = d.2.1 ∧ c.2.2.1 < d.2.2.1) then some c else some d) none

/-- R366: this device is the root, or follows its parent with an offset. A device that was never locked steps its time. -/
def State.followTime (s : State) (l : Nat) (offset : Int) : State :=
  match s.timeParent with
  | none => s.modFabric fun f => { f with time := { f.time with
      root := s.devId.toNat, dist := 0, parent := 0, locked := true, everLocked := true, err := 0, offset := 0 } }
  | some (p, root, dist, err) =>
    if p ≠ l then s
    else
      let bound := err + offset.natAbs + 2
      let step := !s.fabric.time.everLocked
      let bound := if step then err + 2 else bound
      let t := if step then { s with now := ((s.now : Int) + offset).toNat } else s
      t.modFabric fun f => { f with time :=
        { root := root, dist := dist + 1, parent := p, locked := decide (bound ≤ 20)
          everLocked := f.time.everLocked || decide (bound ≤ 20), err := min 0xFFFF bound, offset := offset, lastParent := t.now } }

def execFlitTime (l : LinkIx) (f : FlitHead) (t : TimeSync) (s : State) : Result :=
  flitRun l f s fun s =>
    let offset : Int := (((t.peerRx : Int) - t.peerTx) - ((t.arrived : Int) - t.txTime)) / 2
    let s := s.modLink l.val fun x => { x with
      peerTx := t.txTime, peerRx := t.arrived, report := some (t.root.toNat, t.dist.toNat, t.errNs.toNat) }
    s.followTime l.val offset

def execTimeParentLoss (s : State) : Result :=
  let t := s.fabric.time
  whenReady (t.locked && t.dist != 0) s
    ((s.reach (t.lastParent + 100000)).modFabric fun f => { f with time := { f.time with locked := false } })

/-! ## Registers (R350, R368) -/

/-- The 8 bytes of a link's block at an aligned offset. -/
def State.linkReg (s : State) (l off : Nat) : Nat :=
  match off with
  | 0 => (s.link l).status
  | 8 => (s.link l).peerWord
  | _ => if off = 0x10 then s.regN .linkCfg l else if off = 0x20 then s.regN .linkErr l else if off = 0x28 then s.regN .linkReplayCount l
    else if off = 0x30 then s.regN .linkFecCount l else if off = 0x38 then s.regN .linkAgedCount l else 0

/-- A write of 8 bytes to it. -/
def State.linkRegWrite (s : State) (l off v : Nat) : State :=
  if off = 0x10 then s.linkCfgWrite l (BitVec.ofNat 64 v)
  else if off = 0x18 then
    let t := if bitOf v 0 then s.linkAdmit l else s
    if bitOf v 1 ∧ (t.link l).state = 3 then t.modLink l fun x => { x with recalAsked := true, recalSoft := true } else t
  else if off = 0x20 then s.writeReg .linkErr l (BitVec.ofNat 64 v)
  else s

def State.fabStatus (s : State) : Nat :=
  s.fabric.epoch * 2 ^ 48 + b2n s.fabric.wiringErr * 2 ^ 18 + b2n s.fabDraining * 2 ^ 17 + s.fabric.active * 2 ^ 16 + s.devId.toNat

def TimeB.status (t : TimeB) : Nat :=
  t.root * 2 ^ 48 + t.dist * 2 ^ 40 + t.parent * 2 ^ 34 + b2n t.locked * 2 ^ 32 + min 255 t.err * 2 ^ 24 +
  unsg 24 (max (-8388608) (min 8388607 t.offset))

/-- R368: the table key of 4 bytes at an offset of the fabric block. -/
def tableKey (off : Nat) : Option Nat :=
  if 0x1000 ≤ off ∧ off < 0x1400 ∧ (off - 0x1000) % 0x200 < 0x140 then
    some (((off - 0x1000) / 0x200) * 2 ^ 16 + 2 ^ 15 + (off - 0x1000) % 0x200 / 4)
  else if 0x10000 ≤ off ∧ off < 0x30000 then some ((off - 0x10000) / 0x10000 * 2 ^ 16 + (off - 0x10000) % 0x10000 / 4)
  else none

def State.fabWord32 (s : State) (off : Nat) : Nat := match tableKey off with | some k => s.fabric.entry k | none => 0

/-- The 8 bytes of the fabric block at an aligned offset. -/
def State.fabReg (s : State) (off : Nat) : Nat :=
  match off with
  | 0 => s.fabStatus
  | 8 => s.regN .fabCfg 0
  | 0x18 => s.now % 2 ^ 64
  | 0x20 => s.fabric.time.status
  | 0x28 => s.regN .fabDropCount 0
  | _ =>
    if 0x800 ≤ off ∧ off < 0x1000 then
      (List.range 64).foldl (fun x j => x + b2n (s.absentDevs.contains ((off - 0x800) * 8 + j)) * 2 ^ j) 0
    else s.fabWord32 (off + 4) * 2 ^ 32 + s.fabWord32 off

/-- R356: an entry of the inactive bank is written; the active bank ignores it. -/
def State.fabEntryWrite (s : State) (off v : Nat) : State :=
  match tableKey off with
  | some k => if k / 2 ^ 16 = s.fabric.active then s else s.modFabric (·.setEntry k (v % 2 ^ 32 / 2 ^ 29 * 2 ^ 29 + v % 2 ^ 18))
  | none => s

def State.fabRegWrite (s : State) (off n v : Nat) : State :=
  if off = 8 then s.writeReg .fabCfg 0 (BitVec.ofNat 64 v)
  else if off = 0x10 then (if bitOf v 0 then s.fabSwitch else s)
  else if off = 0x30 then s.deviceBack (v % 2 ^ 14)
  else if n = 4 then s.fabEntryWrite off v
  else (s.fabEntryWrite off (v % 2 ^ 32)).fabEntryWrite (off + 4) (v / 2 ^ 32)

/-- R350: a porch reset: its links' registers, queues and states, and nothing of the partner. -/
def State.resetLinks (s : State) (p : Nat) : State :=
  let t := s.resetRegs fun n i =>
    (n == RegName.linkCfg || n == RegName.linkErr || n == RegName.linkReplayCount || n == RegName.linkFecCount || n == RegName.linkAgedCount) && i / 6 == p
  { t with
    links := t.links.filter fun x => x.1 / 6 != p
    regqs := t.regqs.filter fun x => !(decide (888 ≤ x.1) && (x.1 - 888) / 6 == p) }

end Sys2Proof.Machine
end

