-- ==== Sys2Proof/Machine/Events.lean ====
section
/-! DEFINITION. What the study and the hearth share: events to hosts (R387), the floor plan (R18–R25), clock targets and caps
(R401, R406, R423), and a wing going down. -/
namespace Sys2Proof.Machine

/-! ## The applied option block and limits (R1, R445, R447) -/

def State.limits (s : State) : VariantLimits := variantLimits s.variant
def State.optField (s : State) (off n : Nat) : Nat := ofBytes ((s.boot.option.drop off).take n)
def State.optOr (s : State) (off n d : Nat) : Nat := if s.boot.option.isEmpty then d else s.optField off n
/-- R406, R445: TDP as the option block limits it (DEDUCED). -/
def State.tdp (s : State) : Nat := s.optOr 0x12 2 s.limits.tdpW
def State.roomLimit (s : State) : Nat := s.optOr 0x0C 2 s.limits.roomMhz
/-- R430, R437: the keep-warm floor of the option block in °C, 0 where disabled. -/
def State.optKeepWarm (s : State) : Nat := let k := s.optOr 0x18 1 50; if k = 0xFF then 0 else k
def State.keepWarmFloor (s : State) : Nat := min s.optKeepWarm (s.therm.keepWarm.getD s.optKeepWarm)
def State.jtagLocked (s : State) : Bool := bitOf (s.optOr 0x0A 1 0) 2

def State.modPower (s : State) (f : PowerB → PowerB) : State := { s with power := f s.power }
def State.modTherm (s : State) (f : ThermB → ThermB) : State := { s with therm := f s.therm }
def State.modBoot (s : State) (f : BootB → BootB) : State := { s with boot := f s.boot }
def State.modLive (s : State) (f : LiveB → LiveB) : State := { s with live := f s.live }
def State.rpow (s : State) (r : Nat) : RoomPower := tgetD s.power.rooms r {}
def State.modRpow (s : State) (r : Nat) (f : RoomPower → RoomPower) : State :=
  s.modPower fun p => { p with rooms := tset r (f (s.rpow r)) p.rooms }
def State.rtherm (s : State) (r : Nat) : RoomTherm := tgetD s.therm.rooms r {}
def State.modRtherm (s : State) (r : Nat) (f : RoomTherm → RoomTherm) : State :=
  s.modTherm fun t => { t with rooms := tset r (f (s.rtherm r)) t.rooms }

/-! ## Caps and clock targets (R401, R406, R417, R423) -/

/-- R423: SLOPE_CAP. -/
def State.slopeCap (s : State) : Nat := max (s.tdp * 40 / 100) (s.tdp * (100 - 5 * s.therm.slopeSteps) / 100)
def State.pwrCap (s : State) : Nat := s.power.cap.getD s.tdp

/-- R406: the effective cap. -/
def State.effectiveCap (s : State) : Nat :=
  [s.pwrCap, s.slopeCap, s.therm.telemCap.getD s.tdp, if s.therm.emergency then s.tdp * 40 / 100 else s.tdp,
    if s.power.avsFail then s.tdp * 80 / 100 else s.tdp].foldl min s.tdp

/-- R406, R417, R426: the target that a room should have. -/
def State.wantedMhz (s : State) (r : Nat) : Nat :=
  let p := s.rpow r
  let common := max 400 (s.roomLimit - s.power.lowered)
  if s.therm.emergency then 400
  else max 400 (min common (min (if p.therm = 0 then common else p.therm) (s.roomLimit - p.relief)))

/-- Targets that are above what they should be are lowered at once. -/
def State.lowerTargets (s : State) : State :=
  s.modPower fun p => { p with rooms := p.rooms.map fun x => (x.1, { x.2 with mhz := min x.2.mhz (s.wantedMhz x.1) }) }

/-- R404: the cost of an event in mA. -/
def State.grantCost (s : State) : GrantKind → Nat
  | .clockRaise => 20
  | .roomStart => (match s.variant with | 1 => 390 | 2 => 260 | _ => 170)
  | _ => (match s.variant with | 1 => 910 | 2 => 620 | _ => 390)

def grantFalls : GrantKind → Bool
  | .stepDown | .warmStop => true
  | _ => false

def State.account (s : State) (w : Nat) (fall : Bool) : Account := tgetD s.power.accounts (2 * w + b2n fall) {}
def State.setAccount (s : State) (w : Nat) (fall : Bool) (a : Account) : State :=
  s.modPower fun p => { p with accounts := tset (2 * w + b2n fall) a p.accounts }

/-- A request of this kind for this room waits, or its grant has not been used. -/
def State.asked (s : State) (k : GrantKind) (r : Nat) : Bool :=
  s.granted k r || (s.account (r / 32) (grantFalls k)).queue.any fun g => g.kind == k && g.room == r

/-- R405: a request arrives at its wing's arbiter. -/
def State.ask (s : State) (k : GrantKind) (r : Nat) : State :=
  if s.asked k r then s
  else
    let a := s.account (r / 32) (grantFalls k)
    s.setAccount (r / 32) (grantFalls k) { a with queue := a.queue ++ [⟨k, r, grantFalls k, s.grantCost k, s.now⟩] }

/-- R404: rooms that run below what they should ask for one step of 25 MHz. -/
def State.askRaises (s : State) : State :=
  s.power.rooms.foldl (fun t x => if x.2.mhz ≠ 0 ∧ x.2.mhz < s.wantedMhz x.1 then t.ask .clockRaise x.1 else t) s

/-! ## The floor plan (R18–R25) -/

/-- R21: a room in service. -/
def goodState (n : Nat) : Bool := decide (n ≤ 1)

/-- R22: working modules of an edge of a wing. -/
def State.edgeWorking (s : State) (w port : Nat) : Nat :=
  if (neighbour w port).isSome then ((portModules w port).filter fun k => (s.module k).state == 2).length else 0

def State.planWing (s : State) (w : Nat) : PlanWing :=
  let n (i : Nat) : Nat := s.edgeWorking w i
  { state := (s.wing w).state, epoch := (s.wing w).epoch
    modules := (List.range 4).foldl (fun x i => x + (n i - 1) * 2 ^ (2 * (3 - i))) 0
    edgeUp := (List.range 4).foldl (fun x i => x + b2n (n i != 0) * 2 ^ (3 - i)) 0 }

/-- R23: a room of a wing that is down is in no state of service. -/
def State.planRoom (s : State) (r : Nat) : RoomCond :=
  let c := (s.room r).cond
  if (s.wing (r / 32)).state = 2 ∧ c.state ≤ 1 then { c with state := 5 } else c

/-- R13, R322: a door that is not down and that some module of it reaches. -/
def State.doorUp (s : State) (d : Nat) : Bool := !(s.door d).down && s.doorReaches d

/-- R19: the floor plan as it should be published. -/
def State.currentPlan (s : State) : PlanB :=
  { rooms := (List.range 768).map s.planRoom
    wings := (List.range 24).map s.planWing
    links := (List.range 48).foldl (fun x l => x + b2n (s.linkUp l && s.porchUp (l / 6)) * 2 ^ l) 0
    porches := (List.range 8).foldl (fun x p => x + b2n (s.porchUp p) * 2 ^ p) 0
    doors := b2n (s.doorUp 0) + 2 * b2n (s.doorUp 1)
    vestibule := s.boot.state == 2 }

/-- R24: an update of the floor plan, whole: GENERATION stands one step of 2 higher, and one event is raised. -/
def State.publish (s : State) : State :=
  let t := { s with plan := some s.currentPlan, planGen := (s.planGen + 2) % 2 ^ 32, planTime := s.now }
  t.event 1 t.planGen 0

/-- R24: the study updates the floor plan where it would change. -/
def State.updatePlan (s : State) : State :=
  if s.plan.isNone || s.plan == some s.currentPlan then s else s.publish

def execFloorPlanUpdate (s : State) : Result := .next s.updatePlan

/-- R20: a room entry. -/
def RoomCond.word (c : RoomCond) : Nat :=
  let banks := ((List.range 48).filter (bitOf c.bankMap)).length
  c.epoch * 2 ^ 48 + banks * 2 ^ 42 + c.spares * 2 ^ 32 + (if c.state = 0 then 0 else c.reason % 256 * 2 ^ 24) + c.state * 2 ^ 16 +
  b2n (c.state == 1 && c.halfSel) * 256 + c.groupsShort

/-- R8: the room of a global index. -/
def globalRoom (i : Nat) : Nat := (i / 48 / 4 * 6 + i % 48 / 8) * 32 + i / 48 % 4 * 8 + i % 8
/-- R8: the global index of a room. -/
def globalIndex (r : Nat) : Nat := (r / 32 / 6 * 4 + r % 32 / 8) * 48 + r / 32 % 6 * 8 + r % 8

def PlanB.room (p : PlanB) (r : Nat) : RoomCond := p.rooms.getD r {}
def PlanB.countRooms (p : PlanB) (l : List Nat) (f : Nat → Bool) : Nat := (l.filter fun r => f (p.room r).state).length
def wingRooms (w : Nat) : List Nat := (List.range 32).map (w * 32 + ·)

/-- R22: the two words of a wing entry. -/
def PlanB.wingWord (p : PlanB) (w j : Nat) : Nat :=
  let x := p.wings.getD w {}
  if j = 0 then
    p.countRooms (wingRooms w) (· == 0) + p.countRooms (wingRooms w) (· == 1) * 256 + x.state * 2 ^ 16 + x.modules * 2 ^ 24 +
    (List.range 32).foldl (fun n r => n + b2n (goodState (p.room (w * 32 + r)).state) * 2 ^ (32 + r)) 0
  else x.epoch + x.edgeUp * 2 ^ 16

/-- R19: the 8 bytes of the descriptor at an aligned offset, but for the CRC. -/
def State.planBody (s : State) (p : PlanB) (off : Nat) : Nat :=
  let all := List.range 768
  match off with
  | 0x0000 => 0x50465A53 + 2 ^ 32 + 0xC0 * 2 ^ 48
  | 0x0008 => 48 + 16 * 2 ^ 16 + p.countRooms all goodState * 2 ^ 32 + 48 * 2 ^ 48
  | 0x0010 => 192 + 6144 * 2 ^ 32
  | 0x0018 => s.roomLimit
  | 0x00C0 => 2 + b2n p.vestibule * 2 ^ 16 + 0x4000 * 2 ^ 32
  | 0x00C8 => s.planGen + s.devId.toNat * 2 ^ 32 + s.variant * 2 ^ 48 + 0xB0 * 2 ^ 56
  | 0x00D0 =>
    p.countRooms all (· == 0) + p.countRooms all (· == 1) * 2 ^ 16 + p.countRooms all (fun n => !goodState n) * 2 ^ 32 +
    ((List.range 24).map fun w => p.countRooms (wingRooms w) goodState).foldl min 32 * 2 ^ 48
  | 0x00D8 => p.porches + p.doors * 256
  | 0x00E0 => p.links
  | 0x00E8 => s.planTime % 2 ^ 64
  | _ =>
    if 0x20 ≤ off ∧ off < 0x80 then
      (List.range 64).foldl (fun x j => x + b2n (goodState (p.room (globalRoom ((off - 0x20) * 8 + j))).state) * 2 ^ j) 0
    else if 0x100 ≤ off ∧ off < 0x280 then p.wingWord ((off - 0x100) / 16) (off % 16 / 8)
    else if 0x280 ≤ off ∧ off < 0x1A80 then (p.room ((off - 0x280) / 8)).word
    else if 0x1A80 ≤ off ∧ off < 0x2C80 then
      ofBytes ((List.range 8).map fun j => let k := off - 0x1A80 + j; BitVec.ofNat 8 ((p.room (k / 6)).bankMap / 2 ^ (k % 6 * 8)))
    else 0

/-- R18, R19: the 8 bytes of the floor-plan descriptor at an aligned offset; 0 before the first publication. -/
def State.planWord (s : State) (off : Nat) : Nat :=
  match s.plan with
  | none => 0
  | some p =>
    if off = 0x3FF8 then crc32 ((List.range 2047).flatMap fun i => toBytes 8 (s.planBody p (8 * i)))
    else if off < 0x3FF8 then s.planBody p off else 0

/-! ## Wings and porches down -/

/-- R12, R336: the links of a porch go down with cause PORCH. -/
def State.porchLinksDown (s : State) (p : Nat) : State :=
  (List.range 6).foldl (fun t k => if (t.link (p * 6 + k)).state = 0 then t else t.linkDown (p * 6 + k) 7) s

/-- R22, R23: a wing goes down: its rooms leave service, and the links of a porch attached to it go down. -/
def State.wingDown (s : State) (w reason : Nat) : State :=
  let out (c : RoomCond) : RoomCond := if c.state ≤ 2 then { c with state := 5, reason := reason } else c
  let t := (wingRooms w).foldl (fun t r => t.modRoom r fun x => { x with cond := out x.cond }) (s.modWing w fun x => { x with state := 2 })
  (List.range 8).foldl (fun t p => if porchWing p = w then t.porchLinksDown p else t) t

/-- R409: a bit of PWR_ERR, and its record at the door of the active hearth. -/
def State.hearthDie (s : State) : Nat := 104 + s.live.hearthDoor
def State.powerError (s : State) (bit cause info : Nat) : State := (s.orReg .pwrErr 0 (2 ^ bit)).postDie cause s.hearthDie info

end Sys2Proof.Machine
end

