-- ==== Sys2Proof/Machine/Edges.lean ====
section
/-! DEFINITION. Crossings, modules, edges and dies that are lost, and what goes down with them (R12, R17, R285, R288, R308, R318). -/
namespace Sys2Proof.Machine

/-! ## Ports and porches that follow their modules (R11, R12) -/

/-- R12: the links of a porch go down once none of its modules works. -/
def State.porchFollows (s : State) (d : Nat) : State :=
  if 96 ≤ d ∧ d < 104 ∧ (List.range 3).all (fun m => (s.module (d * 16 + m)).state != 2) = true then s.porchLinksDown (d - 96) else s

/-- R308: the retries of a module in a window of 1 ms, and those of one flit in a row. Each follows a flit that its partner received
with a CRC error (DESIGN CHOICE, log 104). The module goes down at its limits. -/
def execModuleErrorDown (die : DieIx) (m : Fin 16) (retries burst : Nat) (s : State) : Result :=
  moduleRun die m s (fun x => x.state == 2) fun k p =>
    let t := (s.modModule k fun x => { x with retries := (x.retries + retries) % 2 ^ 32 }).modModule p fun x =>
      { x with crcErrors := (x.crcErrors + retries) % 2 ^ 32 }
    if s.errorLimit die.val retries burst then
      (((t.modEnds k p fun x => { x with state := 3, credits := [] }).postDie 0x40 die.val m.val).porchFollows (k / 16)).porchFollows (p / 16)
    else t

/-- R17, R287: the packets of a wing's rooms port that were waiting to cross into a room are discarded. -/
def State.roomCrossingDown (s : State) (r : Nat) : State :=
  let w := r / 32
  let l := (s.hall w).port 4
  let lost := l.filter fun p => p.room == some (r % 32)
  ((s.modHall w fun h => h.setPort 4 (l.filter fun p => p.room != some (r % 32))).hallDrop w lost.length).postIsland w w (r % 32)

/-- R17: the other side of a crossing is in reset or has lost power: a module end that was up or in training keeps nothing; packets that
wait to cross into a room are discarded. -/
def execIslandDown (c : Crossing) (s : State) : Result :=
  match c with
  | .module die m =>
    let k := die.val * 16 + m.val
    (match modulePeer k with
      | none => .next s
      | some p =>
        whenReady ((s.module k).state == 1 || (s.module k).state == 2) s
          (((s.modModule k (·.dropped)).postIsland die.val (p / 16) (islandOf (p / 16))).porchFollows die.val))
  | .room r => whenReady ((s.room r.val).phase == .inReset) s (s.roomCrossingDown r.val)

/-! ## Edges (R285, R288) -/

def execEdgeDetect (w : WingIx) (port : Fin 4) (s : State) : Result :=
  let down := (s.hall w.val).portUp.contains port.val && (s.working w.val port.val).isEmpty
  match neighbour w.val port.val with
  | some v => whenReady down s ((s.portDown w.val port.val v).portDown v (opposite port.val) w.val)
  | none =>
    match attached w.val port.val with
    | some d => whenReady down s ((s.portDown w.val port.val d).porchFollows d)
    | none => .next s

/-- R285, R288: the routes for the present edges, and the wings that no route reaches are down, with the links of their porches. -/
def State.rebuild (s : State) : State :=
  let t := s.reroute
  s.cutOff.foldl (fun t w => t.wingDown w 0x43) t

def execEdgeRebuild (s : State) : Result :=
  whenReady (!s.halls.any fun h => h.2.draining) s s.rebuild

end Sys2Proof.Machine
end

