-- ==== Sys2Proof/Machine/Power.lean ====
section
/-! DEFINITION. Power and clocks: headroom, AVSBus, grants, the power cap and references (R395–R409). -/
namespace Sys2Proof.Machine

/-! ## Headroom (R398, R399) -/

/-- The room whose regulators an island's alarm counts for. -/
def islandRoom : Island → Option Nat
  | .floor r | .attic r => some r.val
  | .router _ | .porch _ => none

/-- R399: a headroom alarm: counted, recorded, and held active. -/
def State.alarm (s : State) (i : Island) : State :=
  let t := s.modPower fun p => { p with
    alarms := p.alarms ++ [i], lastAlarm := s.now
    alarmTimes := (p.alarmTimes.filter fun x => decide (s.now < x + 100000)) ++ [s.now] }
  let t := t.orReg .pwrErr 0 2
  match i with
  | .floor r => (t.modRpow r.val fun p => { p with alarms := min 0xFFFF (p.alarms + 1) }).postRoom 0x30 r.val 0
  | .attic r => (t.modRpow r.val fun p => { p with alarms := min 0xFFFF (p.alarms + 1) }).postRoom 0x30 r.val 1
  | .router w => t.postDie 0x30 w.val 2
  | .porch p => t.postDie 0x30 (96 + p.val) 3

def execHeadroomAlarm (i : Island) (s : State) : Result := whenReady (!s.power.alarms.contains i) s (s.alarm i)

/-- R399: one step of relief: 25 MHz off the target of a room whose floor alarms, or the alarm ends. -/
def State.relieve (s : State) (i : Island) (stays : Bool) : State :=
  let t := s.reach (s.now + 20000)
  if stays then
    match i with
    | .floor r => ((t.modRpow r.val fun p => { p with relief := min (s.roomLimit - 400) (p.relief + 25) }).modPower fun p =>
        { p with lastAlarm := t.now }).lowerTargets
    | _ => t.modPower fun p => { p with lastAlarm := t.now }
  else t.modPower fun p => { p with alarms := p.alarms.filter (· != i), lastAlarm := t.now }

def execHeadroomRelief (i : Island) (stays : Bool) (s : State) : Result :=
  whenReady (s.power.alarms.contains i) s (s.relieve i stays)

/-- R399, R400: the VIN_CORE setpoint in mV: the board's default until the hearth has moved it. -/
def PowerB.vin (p : PowerB) : Nat := if p.vinSet = 0 then 1500 else p.vinSet

def execCoreRaise (s : State) : Result :=
  let near := (s.power.alarmTimes.filter fun x => decide (s.now < x + 100000)).length
  whenReady (decide (8 ≤ near ∧ s.power.vin < 1580) && !s.power.avsFail) s
    ((s.modPower fun p => { p with vinSet := min 1580 (p.vin + 20), alarmTimes := [] }).orReg .pwrErr 0 4)

/-- R399: after 10 ms without an alarm, each 1 ms. -/
def State.recover (s : State) : State :=
  let t := s.reach (max (s.power.lastAlarm + 10000000) (s.now + 1000000))
  (t.modPower fun p => { p with
    vinSet := if p.avsFail then p.vinSet else max 1500 (p.vin - 10)
    rooms := p.rooms.map fun x => (x.1, { x.2 with relief := x.2.relief - 25 }) }).askRaises

def execHeadroomRecovery (s : State) : Result :=
  whenReady (s.power.alarms.isEmpty && (decide (1500 < s.power.vin) || s.power.rooms.any fun x => x.2.relief != 0)) s s.recover

/-- R402: the oscillator lengthens its next cycles; no result changes (R47). -/
def execSupplyDroop (_r : RoomIx) (s : State) : Result := .next s

/-! ## AVSBus (R400) -/

def State.avsFails (s : State) : State :=
  let n := s.power.avsFails + 1
  let t := s.modPower fun p => { p with avsFails := n }
  if n = 3 then ((t.modPower fun p => { p with avsFail := true, avsOk := false }).powerError 3 0x32 0).lowerTargets else t

def execAvsPoll (ok : Bool) (mv amps : Nat) (s : State) : Result :=
  let t := s.reach (s.now + 20000)
  whenReady (!s.power.avsFail && decide (3 ≤ s.boot.phase)) s
    (if ok then t.modPower fun p => { p with avsFails := 0, avsOk := true, vinMeas := mv, vinAmps := amps, vinSet := p.vin } else t.avsFails)

def execAvsRetry (ok : Bool) (s : State) : Result :=
  let t := s.reach (s.now + 1000000)
  whenReady s.power.avsFail s
    (if ok then t.modPower fun p => { p with avsFails := 0, avsFail := false, avsOk := true } else t)

/-! ## Accounts and grants (R403–R405) -/

/-- R403: what an account gains in a time, in nA. -/
def PowerB.gain (p : PowerB) (ns : Nat) : Nat := ns * p.ramp * 1000000 / max 1 p.share
def State.accountLevel (s : State) (w : Nat) (fall : Bool) : Nat :=
  let a := s.account w fall
  min (s.power.acctCap * 1000000) (a.level + s.power.gain (s.now - a.since))

def execGrantRequest (kind : GrantKind) (r : RoomIx) (s : State) : Result :=
  whenReady ((s.wing (r.val / 32)).state != 2 && !s.asked kind r.val) s (s.ask kind r.val)

/-- R399, R405: a floor island of the wing holds an active alarm. -/
def State.wingAlarmed (s : State) (w : Nat) : Bool :=
  s.power.alarms.any fun i => match i with | .floor r => r.val / 32 == w | _ => false

/-- R404: the effect of a grant: a clock target rises by one step at once; any other waits to be used. -/
def State.grantEffect (s : State) (g : GrantReq) : State :=
  match g.kind with
  | .clockRaise => s.modRpow g.room fun p => { p with mhz := min (s.wantedMhz g.room) (p.mhz + 25) }
  | _ => s.modPower fun p => { p with issued := p.issued ++ [g] }

/-- R405: the first request is granted when its account holds its cost. -/
def State.issueGrant (s : State) (w : Nat) (fall : Bool) (g : GrantReq) : State :=
  let cost := g.cost * 1000000
  let wait := ceilDiv ((cost - s.accountLevel w fall) * max 1 s.power.share) (max 1 (s.power.ramp * 1000000))
  let t := s.reach (s.now + wait)
  (t.setAccount w fall
    { level := t.accountLevel w fall - cost, since := t.now, queue := (s.account w fall).queue.drop 1 }).grantEffect g

def execGrantIssue (w : WingIx) (fall : Bool) (s : State) : Result :=
  match (s.account w.val fall).queue with
  | g :: _ => whenReady (!s.wingAlarmed w.val) s (s.issueGrant w.val fall g)
  | [] => .next s

def State.wingsUp (s : State) : Nat := ((List.range 24).filter fun w => (s.wing w).state == 0).length

/-- R403: every account is brought up to date with the old share before the new one holds. -/
def execAccountShareRecompute (s : State) : Result :=
  let settle (p : Nat × Account) : Nat × Account := (p.1, { p.2 with level := s.accountLevel (p.1 / 2) (p.1 % 2 == 1), since := s.now })
  .next (s.modPower fun p => { p with accounts := p.accounts.map settle, share := max 1 s.wingsUp })

/-! ## The cap (R406) -/

/-- R406: a value clamped to 40% to 100% of TDP. -/
def State.clampCap (s : State) (w : Nat) : Nat := max (s.tdp * 40 / 100) (min s.tdp w)
def State.writeCap (s : State) (w : Nat) : State := s.modPower fun p => { p with cap := some (s.clampCap w) }

def execPwrCapWrite (who : Accessor) (value : W64) (s : State) : Result :=
  whenReady (regWriter s 888 who) s (s.writeCap (value.toNat % 2 ^ 16))

/-- R406: one turn of the loop on a 1 ms average. -/
def State.capLoop (s : State) (watts : Nat) : State :=
  let cap := s.effectiveCap
  let t := s.reach ((s.now / 1000000 + 1) * 1000000)
  let t := t.modPower fun p => { p with
    powerW := watts, history := lastN 10 (p.history ++ [watts])
    capSince := if cap = p.capLast then p.capSince else s.now, capLast := cap }
  let t :=
    if s.therm.stop ≠ 0 then t
    else if cap < watts then (t.modPower fun p => { p with lowered := min (s.roomLimit - 400) (p.lowered + 25) }).lowerTargets
    else if watts * 100 < cap * 97 then (t.modPower fun p => { p with lowered := p.lowered - 25 }).askRaises
    else t
  let sum := t.power.history.foldl (· + ·) 0
  if t.power.history.length = 10 ∧ t.power.capSince + 20000000 ≤ t.now ∧ cap * 102 * 10 < sum * 100 then t.powerError 0 0x34 watts else t

def execPowerCapLoop (watts : Nat) (s : State) : Result := .next (s.capLoop watts)

/-! ## Rails and references (R395, R407, R408) -/

/-- R407: the configuration: 0 COMMON, 1 SPLIT, 2 SERDES_ONLY, from the straps sampled (R443). -/
def State.clkCfg (s : State) : Nat :=
  if !s.boot.strapsValid then 0 else match fld s.boot.straps 3 2 with | 2 => 1 | 1 => 2 | _ => 0

def State.refUsed (s : State) : RefInput → Bool
  | .pcieA | .pcieB => true
  | .sdN => s.clkCfg != 0
  | .sdS => s.clkCfg == 1

/-- R407: the wings, and a porch, are clocked from this reference. -/
def State.feedsWings (s : State) (r : RefInput) : Bool := r == (if s.clkCfg = 2 then RefInput.sdN else RefInput.pcieA)
def State.feedsPorch (s : State) (r : RefInput) (p : Nat) : Bool :=
  r == (match s.clkCfg with | 0 => RefInput.pcieA | 1 => (if p < 4 then RefInput.sdN else RefInput.sdS) | _ => RefInput.sdN)

def refIndex : RefInput → Nat
  | .pcieA => 0 | .pcieB => 1 | .sdN => 2 | .sdS => 3

/-- R388: a door's Data Link goes down, and the timer of its host's loss starts. -/
def State.dataLinkDown (s : State) (d : Nat) : State :=
  s.modDoor d fun x => { x with linkUp := false, lostSince := if x.hostLost then none else some (x.lostSince.getD s.now) }

/-- R408: the islands that a reference feeds stop. -/
def State.loseRef (s : State) (r : RefInput) : State :=
  let t := (s.modPower fun p => { p with refLost := p.refLost ++ [r] }).powerError 5 0x33 (refIndex r)
  let t := (List.range 24).foldl (fun t w => if s.feedsWings r ∧ (s.wing w).state ≠ 2 then (t.wingDown w 0x33).resetModules w else t) t
  let t := (List.range 8).foldl (fun t p => if s.feedsPorch r p then t.porchLinksDown p else t) t
  match r with
  | .pcieA => t.dataLinkDown 0
  | .pcieB => t.dataLinkDown 1
  | _ => t

def execRefLoss (ref : RefInput) (s : State) : Result :=
  whenReady (s.refUsed ref && !s.power.refLost.contains ref) s (s.loseRef ref)

/-- R408: the islands relock; their modules and links then retrain by their own commands. -/
def execRefRelock (ref : RefInput) (s : State) : Result :=
  whenReady (s.power.refLost.contains ref) s
    ((s.reach (s.now + 1000000)).modPower fun p => { p with refLost := p.refLost.filter (· != ref) })

/-! ## Registers (R409) -/

def State.capping (s : State) : Bool := s.power.lowered != 0
/-- R398, R409: the floor setpoint of a room in mV. -/
def State.voltMv (s : State) (r : Nat) : Nat :=
  let m := (s.rpow r).mhz
  if m = 0 then 0 else 550 + 5 * (Config.floorSteps r m % 71)
def State.oppWord (s : State) (r : Nat) : Nat := (s.rpow r).alarms * 2 ^ 32 + s.voltMv r * 2 ^ 16 + (s.rpow r).mhz

/-- The hearth reports once it runs (R449). -/
def State.hearthRuns (s : State) : Bool := decide (5 ≤ s.boot.phase) || s.boot.state == 3

/-- The 8 bytes of the power block at an aligned offset. -/
def State.powerReg (s : State) (off : Nat) : Nat :=
  match off with
  | 0x00 => min 0xFFFF s.power.powerW * 2 ^ 32 + (if s.hearthRuns then s.effectiveCap else 0) * 2 ^ 16 + s.clkCfg * 16 +
      b2n (decide (1500 < s.power.vin)) * 8 + b2n (!s.power.alarms.isEmpty) * 4 + b2n s.capping * 2 + b2n s.power.avsOk
  | 0x08 => s.pwrCap
  | 0x10 => s.power.ramp * 2 ^ 16 + s.power.acctCap
  | 0x18 => s.regN .pwrErr 0
  | 0x20 => s.power.vinSet * 2 ^ 32 + s.power.vinMeas * 2 ^ 16 + s.power.vinAmps
  | _ => if 0x2000 ≤ off ∧ off < 0x3800 then s.oppWord (globalRoom ((off - 0x2000) / 8)) else 0

end Sys2Proof.Machine
end

