-- ==== Sys2Proof/Machine/Reset.lean ====
section
/-! DEFINITION. Resets: of a room, a wing, a porch and the device, and the phases of a block's reset (R17, R79, R118, R119,
R438–R442, R473). -/
namespace Sys2Proof.Machine

/-! ## Epochs (R118) -/

/-- R118: the epoch of a count. -/
def epochOf (n : Nat) : Nat := (n + 2 ^ 32 - 1) % 2 ^ 32 % 65535 + 1

/-- R118: a count is to be issued; one above the ceiling (modulo 2^32) first moves the ceiling. -/
def State.raiseCeiling (s : State) (n : Nat) : State :=
  let above := (n + 2 ^ 32 - s.flashLogs.epochCeiling) % 2 ^ 32
  if 0 < above ∧ above < 2 ^ 31 then { s with flashLogs := { s.flashLogs with epochCeiling := (n + 64) % 2 ^ 32 } } else s

/-- R118, R119: the room's next epoch. -/
def State.nextEpoch (s : State) (r : Nat) : State :=
  let n := ((s.room r).count + 1) % 2 ^ 32
  (s.raiseCeiling n).modRoom r fun x => { x with count := n, cond := { x.cond with epoch := epochOf n } }

/-! ## A room's reset (R119) -/

/-- A table without the keys of one owner. -/
def dropOwner {α : Type} (n k : Nat) (t : Tab α) : Tab α := t.filter fun p => p.1 / n != k

/-- R473: the repairs of a room become permanent, here and in the repair log. -/
def State.settleRepairs (s : State) (r : Nat) : State :=
  let log (e : Nat × Nat × Nat × Nat × Bool × Nat) : Nat × Nat × Nat × Nat × Bool × Nat :=
    if e.1 = r then (e.1, e.2.1, e.2.2.1, e.2.2.2.1, true, e.2.2.2.2.2) else e
  let kept := (s.flashLogs.repairs.filter fun e => e.1 == r).map fun e => (⟨e.2.1, e.2.2.2.1, e.2.2.1, true⟩ : RowRepair)
  ({ s with flashLogs := { s.flashLogs with repairs := s.flashLogs.repairs.map log } }).modAttic r fun a => { a with
    repairs := kept, repairing := [] }

/-- R184, R163: the attic controller starts again; its bands, its lanes and its repairs stay. -/
def AtticB.restart (a : AtticB) : AtticB :=
  { temps := a.temps, bad := a.bad, band := a.band, stepDown := a.stepDown, alwaysDown := a.alwaysDown, margin := a.margin, failedLanes := a.failedLanes
    half := a.half, halfSel := a.halfSel, rowEvents := a.rowEvents, repairs := a.repairs, repairing := a.repairing }

/-- R119, R90, R383: the threads of a room are lost; an exit notice with status ABSENT tells the spawner of each that ran. -/
def State.loseThreads (s : State) (r : Nat) : State :=
  let own := s.harts.filter fun p => p.1 / 32 == r
  let t := own.foldl (fun t p => match p.2.job with | some j => t.jobEnd j .absent | none => t) s
  let t := own.foldl (fun t p => match p.2.spawner with
    | some m => t.tellExit ⟨BitVec.ofNat 32 (t.threadId p.1), m, 2, 0⟩
    | none => t) t
  { t with harts := t.harts.filter fun p => p.1 / 32 != r }

/-- R109, R342: what the room has outstanding is abandoned; the tags go on with their next generation. -/
def State.abandon (s : State) (r : Nat) : State :=
  let tag (p : Nat × TagEntry) : Nat × TagEntry := if p.1 / 4096 = r then (p.1, ⟨(p.2.gen + 1) % 16, .free⟩) else p
  { s with reqs := s.reqs.filter fun q => q.room != r, tags := s.tags.map tag, colls := tdel r s.colls }

/-- The registers of a room's blocks. -/
def roomRegs (r : Nat) (n : RegName) (i : Nat) : Bool := n.row.block == .room && i / n.row.count == r

/-- R206, R258, R278: a room reset cuts short what the room's units run. -/
def State.cutWork (s : State) (r : Nat) : State :=
  (List.range 8).foldl (fun s c => s.dwCut (r * 8 + c)) ((s.avuDiscard r).treeCut r)

/-- R119, R482: what a room's reset cuts short, loses and makes unspecified, with its new epoch. -/
def State.loseRoom (s : State) (r : Nat) : State :=
  ((((((s.cutWork r).loseThreads r).abandon r).nextEpoch r).resetRegs (roomRegs r)).forgetBytes (pantryKey r 0)
    pantrySize).settleRepairs r

/-- R79, R86: the blocks of a room as its reset leaves them. -/
def State.clearBlocks (s : State) (r : Nat) : State :=
  let t := (s.modAttic r (·.restart)).bump
  { t with
    arrays := tset r { xaGen := s.free } (tdel r t.arrays), avus := tset r { xaGen := s.free } (tdel r t.avus), trees := tdel r t.trees
    dws := (t.dws.filter fun p => !(decide (p.1 < 6144) && p.1 / 8 == r)), dwOrder := tdel r t.dwOrder
    guards := t.guards.filter fun g => g.room != r || (match g.key with | .lease _ | .prov _ => true | _ => false)
    regqs := tdel (atticQ r) t.regqs, errRings := tdel r t.errRings, mailboxes := tdel r t.mailboxes }

/-- R119, R533: the effects of a room's reset; its notices follow (R364). -/
def State.resetRoom (s : State) (r : Nat) : State :=
  let t := (s.loseRoom r).clearBlocks r
  let t := t.modRoom r fun x => { cond := x.cond, count := x.count, phase := .inReset, marked := x.marked }
  let t := (t.modRpow r fun p => { p with mhz := 0, therm := 0, relief := 0, alarms := 0 }).modRtherm r fun x =>
    { x with warm := false, coolSince := none, invalid := [], readmissible := false }
  let t := t.modAttic r fun a => { a with bad := [] }
  (t.endSubject 2 (BitVec.ofNat 32 (t.threadId (r * 32)))).sendNotice 2 r 0

/-! ## A device reset (R438) -/

/-- R335, R438: GOODBYE on every link that is up. -/
def State.goodbyes (s : State) (cause : Nat) : State :=
  (List.range 48).foldl (fun t l => if (s.link l).state = 3 then t.sendLctl l 5 (toBytes 2 cause) else t) s

/-- R448, R432: the attic maxima of the wings, as the always-on record keeps them. -/
def State.wingAttic (s : State) (w : Nat) : Int := (wingRooms w).foldl (fun m r => max m (s.attic r).temp) (-160)
def State.wingPeaks (s : State) : Tab Nat := (List.range 24).map fun w => (w, tempByte (s.wingAttic w))

/-- R438: every register outside the always-on islands stands at its reset value, and the part is held as given. Attic contents
are kept or unspecified; pantries are unspecified; the memory of hosts is no part of it. -/
def State.wipe (s : State) (keepAttics : Bool) (hold : HoldKind) (cause : Nat) : State :=
  { pending := s.pending, fuses := s.fuses, devId := s.devId, now := s.now, free := s.free + 1
    mem := s.mem.filter fun c => decide (0x10000000000000 ≤ c.1) || (keepAttics && decide (c.1 < 0x10000000000))
    poison := s.poison.filter fun k => keepAttics && decide (k < 0x10000000000)
    sent := s.sent, idBlocks := s.idBlocks, bootCount := s.bootCount
    flash := s.flash, flashLogs := s.flashLogs, flashLog := s.flashLog, deviceSeq := s.deviceSeq
    aon := { s.aon with lastCause := cause, peaks := s.wingPeaks }
    boot := { hold := hold, straps := s.boot.straps, strapsValid := s.boot.strapsValid }
    remaps := s.remaps.map fun p => (p.1, { p.2 with once := [], bad := [] })
    test := { s.test with eids := [] } }

/-- R449: phase 1 of a start begins. -/
def State.beginStart (s : State) : State :=
  { s with bootCount := (s.bootCount + 1) % 2 ^ 32, boot := { s.boot with phase := 1, since := s.now, state := 0, hold := .none } }

/-- R438: a reset of the kind of a host command: GOODBYE first, attic contents kept, straps kept, and the next start. -/
def State.warmReset (s : State) (cause : Nat) : State := ((s.deliverAll.goodbyes cause).wipe true .none cause).beginStart

/-- R440, R428: a reset asked for during a device stop before its commit point is held. -/
def State.askReset (s : State) (cause : Nat) : State :=
  if s.therm.stop ≠ 0 then s.modTherm fun x => { x with heldReset := some (x.heldReset.getD cause) } else s.warmReset cause

def execPowerOn (s : State) : Result :=
  whenReady (s.boot.hold == .power || s.boot.hold == .pins) s
    { (s.wipe false .pins 0) with aon := {}, boot := {}, test := {} }

/-- R396, R438: the whole part loses power. -/
def execPowerLoss (s : State) : Result := .next { (s.wipe false .power 0) with aon := {}, boot := { hold := .power }, test := {} }

/-- R438, R440, R520: a thermal-trip reset goes on while a pin is low. -/
def State.pinReset (s : State) (cause : Nat) : State :=
  if s.boot.hold = .power then s
  else if s.boot.hold = .trip then { s with aon := { s.aon with lastCause := cause } } else s.wipe false .pins cause

def execPwrGoodLow (s : State) : Result := .next { (s.pinReset 1) with test := { s.test with pwrGood := false } }
def execResetNLow (s : State) : Result := .next { (s.pinReset 2) with test := { s.test with resetN := false } }

/-- R438, R457, R458: before phase 8 ends a watchdog reset is a failed start, written by the always-on island; a halted study's
watchdog does not count (R513). -/
def State.watchdog (s : State) : State :=
  let t := s.postDie 0x54 (104 + s.boot.activeDoor) 0
  if s.boot.state = 0 then
    { t with aon := { t.aon with failReason := 9, failPhase := s.boot.phase, failCount := min 15 (t.aon.failCount + 1) } }.askReset 7
  else t.askReset 7

def execStudyWatchdogExpiry (s : State) : Result :=
  whenReady (decide (4 ≤ s.boot.phase) && !s.test.halted.contains (24608 + 2 * s.boot.activeDoor)) s s.watchdog

/-- R463: a write of BOOT_CTRL acts only with its key. -/
def bootKey (key : W16) : Bool := key.toNat == 0x5A17

def execDeviceReset (who : Accessor) (key : W16) (s : State) : Result :=
  whenReady (regWriter s 888 who && bootKey key) s (s.askReset 8)

def execHostGo (who : Accessor) (key : W16) (s : State) : Result :=
  whenReady (regWriter s 888 who && bootKey key) s (s.modBoot fun b => { b with hostGo := true })

/-- R462: the hardware count is cleared, RETRY appended, and the device reset. -/
def State.retry (s : State) : State :=
  let n := s.flashLogs.start.length
  { s with
    aon := { s.aon with failCount := 0 }
    flashLogs := { s.flashLogs with start := s.flashLogs.start ++ [(⟨n, 0x0F, 0, 0⟩ : StartRecord)] } }.askReset 8

def execBootRetry (who : Accessor) (key : W16) (s : State) : Result :=
  whenReady (regWriter s 888 who && bootKey key) s s.retry

/-- R443, R449: the straps are sampled and the start begins, unless something else still holds the part (R440). -/
def execSamplingEdge (straps : BitVec 6) (s : State) : Result :=
  let t := (s.modBoot fun b => { b with straps := straps.toNat, strapsValid := true })
  whenReady (s.boot.hold != .power) s
    ({ (if s.boot.hold = .pins then t.beginStart else t) with test := { s.test with resetN := true, pwrGood := true, driven := none, floating := false } })

/-- R429: after a commit, and 100 ms of good pins. -/
def execStopResetWaitEnd (s : State) : Result := whenReady (s.boot.hold == .commit) s (s.reach (s.now + 100000000)).beginStart

/-! ## Resets of one block (R439, R440) -/

/-- The key of a block: rooms, then wings from 768, porches from 792. -/
def blockKey : Block → Nat
  | .room r => r.val
  | .wing w => 768 + w.val
  | .porch p => 792 + p.val

def State.blockReset (s : State) (k : Nat) : Option BlockReset := tget k s.boot.resets
def State.setBlock (s : State) (k : Nat) (b : BlockReset) : State := s.modBoot fun x => { x with resets := tset k b x.resets }
def State.endBlock (s : State) (k : Nat) : State := s.modBoot fun x => { x with resets := tdel k x.resets }

def State.setPhase (s : State) (r : Nat) (p : RoomPhase) : State := s.modRoom r fun x => { x with phase := p }

/-- R420: a room orderly stop is in progress. -/
def Room.stopping (x : Room) : Bool :=
  match x.phase with | .stopGrace | .stopClocks | .stopNotice | .stopPublish => true | _ => false

/-- The rooms of a block. -/
def blockRooms (k : Nat) : List Nat := if k < 768 then [k] else if k < 792 then wingRooms (k - 768) else []

/-- R412, R460: vestibule mode or the door-only state: wings, rooms and porches have no power. -/
def State.unpowered (s : State) : Bool := s.boot.state == 2 || s.boot.state == 3

/-- R439, R440: a reset of a block is decided: a second one merges with the first, a wing's takes over those of its rooms. -/
def State.startReset (s : State) (k : Nat) (goal : BlockGoal) : State :=
  if s.unpowered ∨ (s.blockReset k).isSome ∨ (k < 768 ∧ (s.blockReset (768 + k / 32)).isSome) then s
  else
    let t := (blockRooms k).foldl (fun t r => (t.endBlock r).setPhase r .resetRequest) s
    t.setBlock k { goal := goal, since := s.now }

def execWingReset (w : WingIx) (s : State) : Result := .next (s.startReset (768 + w.val) .wing)
def execPorchReset (p : PorchIx) (s : State) : Result := .next (s.startReset (792 + p.val) .porch)

/-- R439: the request phase ends: the block's units have stopped. -/
def execBlockResetRequest (b : Block) (s : State) : Result :=
  match s.blockReset (blockKey b) with
  | some x =>
    whenReady (x.phase == .request && !(decide (blockKey b < 768) && s.restarting 3 (blockKey b / 32))) s
      ((blockRooms (blockKey b)).foldl (fun t r => t.setPhase r .resetSettle) (s.setBlock (blockKey b) { x with phase := .settle, since := s.now }))
  | none => .next s

/-- R439: everything that the block's rooms have sent is answered; their exit notices have arrived. -/
def State.settled (s : State) (k : Nat) : Bool :=
  (blockRooms k).all fun r => (s.reqs.all fun q => q.room != r) && (tgetD s.colls r []).isEmpty &&
    s.exitMsgs.all fun m => m.child.toNat / 32 != s.threadId (r * 32) / 32

/-- R438, R532: a wing die in reset: its router, its controller's registers, its modules and its rooms. -/
def State.resetWing (s : State) (w : Nat) : State :=
  let t := (wingRooms w).foldl (fun t r => t.resetRoom r) s
  let t := (t.resetModules w).resetRegs fun n i =>
    (n.row.block == .wing && i / 32 == w) || (n.row.block == .hall && i / n.row.count == w)
  let t := { t with
    halls := tdel w t.halls, regqs := t.regqs.filter fun p => !(decide (768 ≤ p.1 ∧ p.1 < 888) && (p.1 - 768) / 5 == w) }
  let t := t.modWing w fun x => { x with epoch := if x.epoch = 0xFFFF then 1 else x.epoch + 1 }
  (List.range 8).foldl (fun t p => if porchWing p = w then t.porchLinksDown p else t) t

/-- R439: the block enters reset. -/
def State.enterReset (s : State) (k : Nat) (x : BlockReset) : State :=
  let t := s.setBlock k { x with phase := .inReset, since := s.now }
  if k < 768 then t.resetRoom k
  else if k < 792 then t.resetWing (k - 768)
  else ((t.porchLinksDown (k - 792)).resetLinks (k - 792)).resetModules (96 + (k - 792))

def execBlockSettleEnd (b : Block) (s : State) : Result :=
  match s.blockReset (blockKey b) with
  | some x => whenReady (x.phase == .settle && s.settled (blockKey b)) s (s.enterReset (blockKey b) x)
  | none => .next s

/-- R439: the bound passes: what is in flight is abandoned, with a record. -/
def execBlockSettleTimeout (b : Block) (s : State) : Result :=
  let k := blockKey b
  match s.blockReset k with
  | some x =>
    let t := s.reach (x.since + max 1 s.boot.idleTmo * 1000)
    let t := if k < 768 then t.postRoom 0x50 k k else t.postDie 0x50 (if k < 792 then k - 768 else 96 + (k - 792)) k
    whenReady (x.phase == .settle) s (t.enterReset k x)
  | none => .next s

end Sys2Proof.Machine
end

