-- ==== Sys2Proof/Machine/Thermal.lean ====
section
/-! DEFINITION. Temperature: sensors, bands, orderly stops, thermal caps, keep-warm, cycles and duty rotation (R168–R172,
R410–R437). Temperatures are in quarters of °C (R413). -/
namespace Sys2Proof.Machine

/-! ## Events (R435) -/

/-- R435: KIND, BAND, TEMP, LAYER and PLACE of an event. -/
structure ThermPlace where
  kind : Nat
  band : Nat := 0
  temp : Int := 0
  layer : Nat := 0xFF
  place : Nat := 0

/-- R435: a THERMAL event, at most once per 10 ms for one place, band and action (DEDUCED: each action is sent). -/
def State.thermal (s : State) (p : ThermPlace) (action : Nat) : State :=
  let key := (p.kind, p.place, p.band * 16 + action)
  if s.therm.sentAt.any fun x => (x.1, x.2.1, x.2.2.1) == key && decide (s.now < x.2.2.2 + 10000000) then s
  else
    (s.modTherm fun t => { t with
      sentAt := (t.sentAt.filter fun x => decide (s.now < x.2.2.2 + 10000000)) ++ [(p.kind, p.place, p.band * 16 + action, s.now)] }).event 2
      (p.kind * 2 ^ 56 + p.band * 2 ^ 48 + tempByte p.temp * 2 ^ 40 + p.layer * 2 ^ 32 + p.place) (s.effectiveCap * 2 ^ 48 + action)

/-- R437: a bit of THERM_ERR. -/
def State.thermBit (s : State) (bit : Nat) : State := s.orReg .thermErr 0 (2 ^ bit)

/-! ## Readings (R413–R415) -/

/-- R413: the valid floor sensors of a room; its logic maximum. -/
def RoomTherm.floorAt (x : RoomTherm) (i : Nat) : Int := if i = 0 then x.floor.1 else x.floor.2
def RoomTherm.max (x : RoomTherm) : Int :=
  ([0, 1].filter fun i => !x.invalid.contains i).foldl (fun m i => Max.max m (x.floorAt i)) (-160)

def DieTherm.max (x : DieTherm) : Int :=
  (x.temps.zipIdx.filter fun p => !x.invalid.contains p.2).foldl (fun m p => Max.max m p.1) (-160)

def State.dtherm (s : State) (d : Nat) : DieTherm := tgetD s.therm.dies d {}
def State.modDtherm (s : State) (d : Nat) (f : DieTherm → DieTherm) : State :=
  s.modTherm fun t => { t with dies := tset d (f (s.dtherm d)) t.dies }

/-- R168, R417: the band of a temperature: a rising one enters at a bound, a falling one leaves 2 K below it. -/
def bandAt (bounds : List Int) (old : Nat) (t : Int) : Nat :=
  (bounds.zipIdx.filter fun b => decide (b.1 * 4 ≤ t) || (decide (b.2 < old) && decide (b.1 * 4 - 8 < t))).length

def atticBounds : List Int := [35, 85, 95, 105]
def logicBounds : List Int := [100, 110, 120]

/-- R437: THERM_ROOM of a room. -/
def State.warming (s : State) (r : Nat) : Bool := s.keptWarm r && (s.array r).power == .dummy
def State.thermRoom (s : State) (r : Nat) : Nat :=
  let x := s.rtherm r
  let a := s.attic r
  let floor (i : Nat) : Nat := if x.invalid.contains i then 0xFF else tempByte (x.floorAt i)
  let layer (l : Nat) : Nat := if a.bad.contains l then 0xFF else tempByte (a.layer l)
  floor 0 * 2 ^ 56 + floor 1 * 2 ^ 48 + layer 0 * 2 ^ 40 + layer 1 * 2 ^ 32 + layer 2 * 2 ^ 24 + a.band * 2 ^ 20 + x.band * 2 ^ 18 +
  b2n (s.warming r) * 2 ^ 17 + b2n (s.room r).stopping * 2 ^ 16 + (s.rpow r).therm

/-- R533: the BAND message. -/
def State.mailBand (s : State) (r : Nat) : State := s.mail r 3 ((s.rtherm r).band * 256 + (s.attic r).band) (s.thermRoom r)

/-- R421: how long the room has been cool. -/
def State.noteCool (s : State) (r : Nat) : State :=
  let cool := decide ((s.attic r).temp < 85 * 4) && decide ((s.rtherm r).max < 95 * 4)
  s.modRtherm r fun x => { x with coolSince := if cool then some (x.coolSince.getD s.now) else none }

/-- R432: one reading of a wing's attic maximum in °C. -/
def WingCycles.note (c : WingCycles) (t : Int) : WingCycles :=
  if c.falling then
    if c.trough + 40 ≤ t then { c with falling := false, peak := t, count := min (2 ^ 32 - 1) (c.count + 1) } else { c with trough := min c.trough t }
  else if t ≤ c.peak - 40 then { c with falling := true, trough := t } else { c with peak := max c.peak t }

/-- R432: a wing past its rating sets CYCLES once. -/
def State.noteCycles (s : State) (w : Nat) : State :=
  let c := (tgetD s.therm.cycles w {}).note (s.wingAttic w / 4)
  let past := decide (20000 < c.count)
  let t := s.modTherm fun t => { t with cycles := tset w { c with past := past } t.cycles }
  if past && !c.past then t.thermBit 4 else t

/-- R432: the counts saved to the flash log, every hour and at every orderly stop. -/
def State.saveCycles (s : State) : State :=
  { s with flashLogs := { s.flashLogs with cycles := s.therm.cycles.map fun x => (x.1, x.2.count) } }

/-- R432: at a start the counts go on from the flash log, and from the last attic maxima of the always-on record. -/
def State.loadCycles (s : State) : State :=
  s.modTherm fun t => { t with cycles := (List.range 24).map fun w =>
    let n := tgetD s.flashLogs.cycles w 0
    (w, { count := n, peak := (tgetD s.aon.peaks w 0 : Nat), past := decide (20000 < n) }) }

/-- R168, R171, R416, R435: the attic samples of a room, and the band that they give. -/
def State.atticSample (s : State) (r : Nat) (l0 l1 l2 : Int) : State :=
  let old := (s.attic r).band
  let t := s.modAttic r fun a => { a with temps := (l0, l1, l2) }
  let b := bandAt atticBounds old (t.attic r).temp
  let t := (t.noteCool r).noteCycles (r / 32)
  if b = old then t
  else
    let t := t.modAttic r (·.enterBand b)
    let t := if 3 ≤ b then t.orReg .atticErr r 128 else t
    (t.mailBand r).thermal ⟨1, b, (t.attic r).temp, 0xFF, r⟩ 0

def execAtticTempSample (r : RoomIx) (l0 l1 l2 : Int) (s : State) : Result :=
  .next ((s.reach ((s.now / 10000 + 1) * 10000)).atticSample r.val l0 l1 l2)

/-- R414, R417: the floor samples of a room. -/
def State.floorSample (s : State) (r : Nat) (f0 f1 : Int) : State :=
  let old := (s.rtherm r).band
  let t := s.modRtherm r fun x => { x with floor := (f0, f1) }
  let b := bandAt logicBounds old (t.rtherm r).max
  let t := (t.modRtherm r fun x => { x with band := b }).noteCool r
  if b = old then t else (t.mailBand r).thermal ⟨0, b, (t.rtherm r).max, 0xFF, r⟩ 0

/-- R435: the KIND of a die. -/
def dieThermKind (d : Nat) : Nat := if d < 24 then 2 else if d < 104 then 3 else 4

/-- The die of a place that is a die of its own. -/
def placeDie : SensorPlace → Nat
  | .room r | .attic r => r.val / 32
  | .wing w => w.val
  | .porch p => 96 + p.val
  | .door d => 104 + d.val

/-- R415: the sensors of a place. -/
def sensorCount : SensorPlace → Nat
  | .attic _ => 3
  | .wing _ => 4
  | _ => 2

/-- R415: a sensor is marked invalid and left out of every maximum. -/
def State.invalidate (s : State) (x : SensorId) : State :=
  let i := x.index.val
  match x.place with
  | .room r => ((s.modRtherm r.val fun y => { y with invalid := ninsert i y.invalid }).thermBit 0).postRoom 0x22 r.val i
  | .attic r => ((s.modAttic r.val fun a => { a with bad := ninsert i a.bad }).thermBit 0).postRoom 0x22 r.val (2 + i)
  | p => ((s.modDtherm (placeDie p) fun y => { y with invalid := ninsert i y.invalid }).thermBit 0).postDie 0x22 (placeDie p) i

def execSensorInvalid (sensor : SensorId) (s : State) : Result :=
  whenReady (decide (sensor.index.val < sensorCount sensor.place)) s ((s.reach (s.now + 1000000)).invalidate sensor)

/-! ## Throttling (R416, R417) -/

/-- R414, R416, R417: the room is to be throttled. -/
def State.throttled (s : State) (r : Nat) : Bool :=
  (s.attic r).band == 3 || (s.rtherm r).band == 1 || (s.dtherm (r / 32)).band == 1

/-- R416, R417: one step down while throttled, one step up after it. -/
def State.throttle (s : State) (r : Nat) : State :=
  if s.throttled r then
    (((s.modRpow r fun p => { p with therm := max 400 ((if p.therm = 0 then s.wantedMhz r else p.therm) - 25) }).lowerTargets).thermal
      ⟨if (s.attic r).band = 3 then 1 else 0, if (s.attic r).band = 3 then 3 else (s.rtherm r).band,
        if (s.attic r).band = 3 then (s.attic r).temp else (s.rtherm r).max, 0xFF, r⟩ 1)
  else (s.modRpow r fun p => { p with therm := if s.roomLimit ≤ p.therm + 25 then 0 else p.therm + 25 }).askRaises

def execThrottleStep (r : RoomIx) (s : State) : Result :=
  whenReady (s.throttled r.val || (s.rpow r.val).therm != 0) s ((s.reach (s.now + 1000000)).throttle r.val)

def execSlowNoticeSend (r : RoomIx) (s : State) : Result :=
  let t := s.reach (s.now + 50000)
  whenReady ((s.attic r.val).band == 3 && goodState (s.room r.val).cond.state && !s.restarting 3 (r.val / 32)) s
    (((t.slowed (BitVec.ofNat 32 (t.threadId (r.val * 32))) 200).sendNotice 0 r.val 200).thermal ⟨1, 3, (s.attic r.val).temp, 0xFF, r.val⟩ 2)

/-! ## The room orderly stop (R419–R421) -/

/-- R415, R419: why a room must stop: ATTIC_HOT, LOGIC_HOT or SENSOR. -/
def State.stopCause (s : State) (r : Nat) : Option Nat :=
  if (s.attic r).band = 4 then some 0x20
  else if 2 ≤ (s.rtherm r).band then some 0x21
  else if (s.rtherm r).invalid.length = 2 ∨ (s.attic r).bad ≠ [] then some 0x22 else none

/-- R419: the grace list: what waits in the units completes with ABORTED behind what runs, which goes on; a channel finishes its step. -/
def State.graceRoom (s : State) (r : Nat) : State :=
  let entry (e : ArrayEntry) : ArrayEntry := if e.started then e else { e with started := true, status := 0x30 }
  let cmd (c : AvuCmd) : AvuCmd := if c.dispatched then c else { c with dispatched := true, status := 0x30 }
  let t := State.arrayRejected 8 r (s.modArray r fun a => { a with queue := a.queue.map entry })
  let t := t.modAvu r fun a => { a with queue := a.queue.map cmd }
  ((t.treeStop r).dwStopRoom r).freezeChunks r

/-- R419: everything of the grace list is done. -/
def State.graceDone (s : State) (r : Nat) : Bool :=
  (s.array r).queue.isEmpty && (s.avu r).queue.isEmpty && (s.tree r).queue.isEmpty && (List.range 8).all fun c => (s.dw (r * 8 + c)).queue.isEmpty

def State.beginStop (s : State) (r cause : Nat) : State :=
  let temp := if cause = 0x20 then (s.attic r).temp else (s.rtherm r).max
  let t := ((s.saveCycles.setPhase r .stopGrace).modRtherm r fun x => { x with stopReason := cause, stopSince := s.now }).thermBit 2
  let t := (t.postRoom cause r (if cause = 0x22 then 0 else tempByte temp)).graceRoom r
  t.thermal ⟨if cause = 0x20 then 1 else 0, if cause = 0x20 then 4 else (s.rtherm r).band, temp, 0xFF, r⟩ 3

def execRoomStopGrace (r : RoomIx) (s : State) : Result :=
  let x := s.room r.val
  match s.stopCause r.val with
  | some c => whenReady (decide (x.cond.state ≤ 2) && (x.phase == .inService || x.phase == .draining)) s (s.beginStop r.val c)
  | none => .next s

/-- R419: the queues of a room's units are discarded. -/
def State.emptyUnits (s : State) (r : Nat) : State :=
  let t := (s.modArray r fun a => { a with queue := [], stages := [], power := .idle }).modAvu r fun a => { a with queue := [] }
  let t := t.modTree r fun a => { a with queue := [] }
  { t with dws := t.dws.filter (fun p => !(decide (p.1 < 6144) && p.1 / 8 == r)), dwOrder := tdel r t.dwOrder }

/-- R419: the floor clocks, the stair and the AVUs stop; work that still runs is discarded with no record, and requests that are
outstanding are abandoned. -/
def State.stopClocks (s : State) (r : Nat) : State :=
  let t := if s.graceDone r then s else s.reach ((s.rtherm r).stopSince + 200000)
  let t := ((t.cutWork r).abandon r).setPhase r .stopClocks
  let t := t.modRoom r fun x => { x with cond := { x.cond with reason := (s.rtherm r).stopReason } }
  ((t.emptyUnits r).modAttic r fun a => { a with phase := .stopped }).modRpow r fun p => { p with mhz := 0 }

def execRoomStopClocks (r : RoomIx) (s : State) : Result := whenReady ((s.room r.val).phase == .stopGrace) s (s.stopClocks r.val)

/-- R364, R419: the ABSENT notice, here and to other devices. -/
def execRoomStopNotice (r : RoomIx) (s : State) : Result :=
  whenReady ((s.room r.val).phase == .stopClocks && !s.restarting 3 (r.val / 32)) s
    (((s.setPhase r.val .stopNotice).endSubject 1 (BitVec.ofNat 32 (s.threadId (r.val * 32)))).sendNotice 1 r.val 0)

def State.publishStop (s : State) (r : Nat) : State :=
  ((s.loseThreads r).modRoom r fun x => { x with phase := .stopped, cond := { x.cond with state := 6 } }).updatePlan

def execRoomStopPublish (r : RoomIx) (s : State) : Result :=
  whenReady ((s.room r.val).phase == .stopNotice) s (s.publishStop r.val)

def execReadmissible (r : RoomIx) (s : State) : Result :=
  match (s.rtherm r.val).coolSince with
  | some t0 =>
    whenReady ((s.room r.val).cond.state == 6 && !(s.rtherm r.val).readmissible) s
      (((s.reach (t0 + 10000000)).modRtherm r.val fun x => { x with readmissible := true }).thermal
        ⟨1, (s.attic r.val).band, (s.attic r.val).temp, 0xFF, r.val⟩ 11)
  | none => .next s

/-- R420: a hard stop takes the place of the rest of the grace phase: running work completes with ABORTED. -/
def State.endGrace (s : State) (r : Nat) : State :=
  let t := State.arrayAbort 8 r s
  let t := State.treeAbort 8 r (t.treeEndHead r)
  (List.range 8).foldl (fun t c => (t.dwCut (r * 8 + c)).dwFlush (r * 8 + c)) t

/-- R172, R420: the hard stop. -/
def execAtticHardStop (r : RoomIx) (s : State) : Result :=
  whenReady (decide (110 * 4 ≤ (s.attic r.val).temp) && !(s.attic r.val).hotLoss) s
    ((if (s.room r.val).phase = .stopGrace then (s.hardStop r.val).endGrace r.val else s.hardStop r.val).thermal ⟨1, 4, (s.attic r.val).temp, 0xFF, r.val⟩ 4)

/-! ## The trip (R418) -/

/-- R418, R448: the hottest valid sensor of a place: its temperature, KIND and PLACE. -/
def State.placeMax (s : State) : SensorPlace → Int × Nat × Nat
  | .room r => ((s.rtherm r.val).max, 0, r.val)
  | .attic r => ((s.attic r.val).temp, 1, r.val)
  | p => ((s.dtherm (placeDie p)).max, dieThermKind (placeDie p), placeDie p)

/-- R418, R438: trip reset; the sensors go on reading. -/
def State.trip (s : State) (p : SensorPlace) : State :=
  let m := s.placeMax p
  let t := s.wipe false .trip 3
  { t with
    aon := { t.aon with tripTemp := tempByte m.1, tripPlace := m.2.2, tripKind := m.2.1, tripPending := true }
    test := { t.test with thermTripN := false }
    attics := s.attics.map fun x => (x.1, { temps := x.2.temps, bad := x.2.bad, band := x.2.band })
    therm := { rooms := s.therm.rooms.map fun x => (x.1, { floor := x.2.floor, invalid := x.2.invalid, band := x.2.band })
               dies := s.therm.dies } }

def execThermalTrip (place : SensorPlace) (s : State) : Result :=
  whenReady (decide (120 * 4 ≤ (s.placeMax place).1) && s.boot.hold != .power && s.boot.hold != .trip) s (s.trip place)

/-- R418: every valid sensor is below 90 °C. -/
def State.allCool (s : State) : Bool :=
  (s.attics.all fun x => decide (x.2.temp < 360)) && (s.therm.rooms.all fun x => decide (x.2.max < 360)) &&
  s.therm.dies.all fun x => decide (x.2.max < 360)

/-- R418, R440: the part leaves trip reset; while a pin is low it stays in reset. -/
def execTripRelease (s : State) : Result :=
  let t := { s with test := { s.test with thermTripN := true } }
  whenReady (s.boot.hold == .trip && s.allCool) s
    (if s.test.resetN && s.test.pwrGood then t.beginStart else t.modBoot fun b => { b with hold := .pins })

/-! ## Caps (R423–R425) -/

/-- R424: the slope of samples that lie 10 ms apart, in 0.01 K/s, by least squares (DEDUCED: the fit is not named). -/
def slopeOf (l : List Int) : Int :=
  let n : Int := l.length
  let num := (l.zipIdx.map fun p => (2 * (p.2 : Int) - (n - 1)) * p.1).foldl (· + ·) 0
  let den := (l.zipIdx.map fun p => (2 * (p.2 : Int) - (n - 1)) * (2 * (p.2 : Int) - (n - 1))).foldl (· + ·) 0
  if den = 0 then 0 else 2 * num * 2500 / den

/-- R413, R414: the device maxima. -/
def State.deviceLayer (s : State) (l : Nat) : Int :=
  s.attics.foldl (fun m x => if x.2.bad.contains l then m else max m (x.2.layer l)) (-160)
def State.deviceAttic (s : State) : Int := max (s.deviceLayer 0) (max (s.deviceLayer 1) (s.deviceLayer 2))
def State.deviceLogic (s : State) : Int :=
  s.therm.dies.foldl (fun m x => max m x.2.max) (s.therm.rooms.foldl (fun m x => max m x.2.max) (-160))

def average (l : List Nat) : Nat := l.foldl (· + ·) 0 / max 1 l.length

/-- R424: one fit, and the rule. -/
def State.fitSlope (s : State) : State :=
  let t := s.reach ((s.now / 10000000 + 1) * 10000000)
  let l := lastN 201 (s.therm.samples ++ [(s.deviceAttic, s.power.powerW)])
  let slope := max (-32768) (min 32767 (slopeOf ((lastN 101 l).map (·.1))))
  let a := average ((lastN 100 l).map (·.2))
  let b := average (((lastN 200 l).take 100).map (·.2))
  let steady := decide (101 ≤ l.length) && decide ((max a b - min a b) * 20 < s.tdp)
  let holds := steady && decide ((max 1 s.therm.slopeLimit : Nat) < slope) && decide (70 * 4 < s.deviceAttic)
  t.modTherm fun x => { x with
    samples := l, slope := slope, slopeHolds := holds, slopeLow := if slope < 10 then some (x.slopeLow.getD t.now) else none }

def execSlopeFit (s : State) : Result := .next s.fitSlope

def devicePlace (s : State) : ThermPlace := { kind := 5, temp := max s.deviceAttic s.deviceLogic }

/-- R423: SLOPE_CAP moves one step. -/
def execSlopeCapStep (s : State) : Result :=
  let x := s.therm
  if x.slopeHolds then
    let t := s.reach (if x.slopeSteps = 0 then s.now else x.slopeMoved + 100000000)
    .next ((t.modTherm fun y => { y with slopeSteps := min 12 (y.slopeSteps + 1), slopeMoved := t.now }).thermal (devicePlace s) 6)
  else match x.slopeLow with
    | some t0 =>
      let t := s.reach (max t0 x.slopeMoved + 1000000000)
      whenReady (x.slopeSteps != 0) s
        ((t.modTherm fun y => { y with slopeSteps := y.slopeSteps - 1, slopeMoved := t.now }).thermal (devicePlace s) 6)
    | none => .next s

/-- R425: TELEM_CAP for a report; 0 in a field is no report of it. -/
def State.telemFor (s : State) (flow inlet : Nat) : Nat :=
  let most := if s.limits.liquid then 35 else 30
  let base := if flow = 0 then s.tdp else s.tdp * min 100 flow / 100
  max (s.tdp * 40 / 100) (base - s.tdp * 2 * (inlet - most) / 100)

/-- R425, R423: a report; the cap is released once telemetry has been in class for 1 s. -/
def State.coolWrite (s : State) (v : Nat) : State :=
  let flow := fld v 23 16
  let inlet := fld v 7 0
  let cap := s.telemFor flow inlet
  let reg := s.now / 2 ^ 31 % 2 ^ 32 * 2 ^ 32 + flow * 2 ^ 16 + inlet
  let good := s.therm.telemGood.getD s.now
  let t := s.modTherm fun x => { x with
    coolReg := reg, report := if flow = 0 ∧ inlet = 0 then none else some (flow, inlet, s.now)
    telemGood := if cap = s.tdp then some good else none
    telemCap := if cap < s.tdp then some cap else if good + 1000000000 ≤ s.now then none else x.telemCap }
  if t.therm.telemCap = s.therm.telemCap then t else t.thermal (devicePlace s) 6

def execThermCoolWrite (who : Accessor) (value : W64) (s : State) : Result :=
  whenReady (regWriter s 888 who) s (s.coolWrite value.toNat)

def execTelemetryStale (s : State) : Result :=
  match s.therm.report with
  | some (_, _, t0) =>
    .next ((s.reach (t0 + 2000000000)).modTherm fun x => { x with report := none, telemCap := none, telemGood := none })
  | none => .next s

/-- R437: THERM_CFG. -/
def State.thermCfgWrite (s : State) (v : Nat) : State :=
  s.modTherm fun x => { x with slopeLimit := fld v 7 0, keepWarm := some (min s.optKeepWarm (fld v 23 16)) }

def execThermCfgWrite (who : Accessor) (value : W64) (s : State) : Result :=
  whenReady (regWriter s 888 who) s (s.thermCfgWrite value.toNat)

/-! ## The device orderly stop (R426–R429) -/

/-- R427: a cause: the stop begins, its notice is given, and its drain runs; or it joins the causes present. -/
def State.stopDevice (s : State) (c : StopCause) : State :=
  let t := s.modTherm fun x => { x with causes := x.causes ++ [(c, s.now)] }
  if s.therm.stop ≠ 0 then t
  else
    let t := ((t.saveCycles.modTherm fun x => { x with stop := 2 }).thermBit 3).thermal (devicePlace s) 8
    (s.rooms.filter fun p => goodState p.2.cond.state && p.2.phase == .inService).foldl (fun t p => t.graceRoom p.1) t

def State.causePresent (s : State) (c : StopCause) : Bool := s.therm.causes.any (·.1 == c)

def execFlowOkLoss (s : State) : Result :=
  let t := (s.modTherm fun x => { x with emergency := true, flowOk := false }).lowerTargets
  let t := ((t.thermBit 1).postDie 0x24 s.hearthDie 0).thermal (devicePlace s) 7
  whenReady (!s.causePresent .flow && decide (s.therm.stop ≤ 3)) s (t.stopDevice .flow)

def execPwrWarn (s : State) : Result :=
  whenReady (!s.causePresent .pwrWarn && decide (s.therm.stop ≤ 3)) s ((s.postDie 0x25 s.hearthDie 0).stopDevice .pwrWarn)

def railIndex : Rail → Nat
  | .vinCore => 0 | .vddAttic => 1 | .vppAttic => 2 | .vddPorch => 3 | .vddhPorch => 4 | .vddDoor => 5 | .vddIo => 6 | .vaux => 7

/-- R395: a rail fault lasts 10 µs. -/
def execRailFault (rail : Rail) (s : State) : Result :=
  let t := (s.reach (s.now + 10000)).powerError 4 0x31 (railIndex rail)
  .next (if s.causePresent .rail then t else t.stopDevice .rail)

/-- R427: every room in service has completed its grace list, and no landing holds an atomic. -/
def State.drained (s : State) : Bool :=
  (s.rooms.all fun p => s.graceDone p.1) && s.halls.all fun p => p.2.atomics.isEmpty

/-- R427: the first of the causes that are present. -/
def State.stopStart (s : State) : Nat :=
  s.therm.causes.foldl (fun m c => min m c.2) s.now

/-- R427: the drain ends once all is done, or at its bound: 210 µs after the cause, with the 10 µs of the notice. -/
def execDeviceStopDrainEnd (s : State) : Result :=
  whenReady (s.therm.stop == 2) s
    ((if s.drained then s else s.reach (s.stopStart + 210000)).modTherm fun x => { x with stop := 3 })

/-- R428: the commit point of a cause. -/
def commitTime (now : Nat) : StopCause × Nat → Nat
  | (.pwrWarn, t) => t + 1000000
  | (.flow, t) => t + 400000000
  | (.rail, _) => now

/-- R448: LAST_CAUSE of a cause. -/
def stopCode : StopCause → Nat
  | .pwrWarn => 4 | .flow => 5 | .rail => 6

/-- R428: the cause whose commit point comes first. -/
def State.firstCause (s : State) : Option (StopCause × Nat) :=
  s.therm.causes.foldl (fun b c => match b with
    | none => some c
    | some d => if commitTime s.now c < commitTime s.now d then some c else some d) none

/-- R427, R428, R440: quiesce and reset; a reset that was held is absorbed. -/
def State.commit (s : State) (c : StopCause × Nat) : State :=
  let t := (s.reach (commitTime s.now c)).saveCycles.deliverAll
  ((t.goodbyes (stopCode c.1)).thermal (devicePlace s) 10).wipe false .commit (stopCode c.1)

def execCommitPoint (s : State) : Result :=
  match s.firstCause with
  | some c => whenReady (s.therm.stop == 3) s (s.commit c)
  | none => .next s

/-- R428: a cause clears; with none left the part resumes, and a reset that was held then proceeds (R440). -/
def State.clearCause (s : State) (c : StopCause) (ns : Nat) : State :=
  let t := (s.reach (s.now + ns)).modTherm fun x => { x with causes := x.causes.filter (·.1 != c) }
  let t := if c = .flow then t.modTherm fun x => { x with emergency := false, flowOk := true } else t
  if t.therm.causes ≠ [] then t
  else
    let t := (((t.modTherm fun x => { x with stop := 0, resuming := true, heldReset := none }).thawChunks).askRaises).thermal (devicePlace s) 9
    match s.therm.heldReset with | some k => t.warmReset k | none => t

/-- R428: how long the signal of a cause is good before the cause clears. -/
def clearTime (flow : Bool) : Nat := if flow then 10000000 else 50000

/-- R428: the cause would clear before the commit point. -/
def State.clearsInTime (s : State) (flow : Bool) : Bool :=
  match s.firstCause with
  | some c => decide (s.now + clearTime flow < commitTime s.now c)
  | none => false

def execDeviceStopResume (flow : Bool) (s : State) : Result :=
  let c := if flow then StopCause.flow else .pwrWarn
  whenReady (s.causePresent c && decide (2 ≤ s.therm.stop ∧ s.therm.stop ≤ 3) && s.clearsInTime flow) s (s.clearCause c (clearTime flow))

/-! ## Keep-warm, cycles and duty (R430–R434) -/

/-- R430, R431: a room that keep-warm may run in. -/
def State.mayWarm (s : State) (r : Nat) : Bool :=
  let x := s.room r
  decide (x.cond.state ≤ 2) && (x.phase == .inService || x.phase == .draining) && !s.capping && !s.therm.emergency && s.therm.stop == 0

def execKeepWarmStart (r : RoomIx) (s : State) : Result :=
  let a := s.array r.val
  whenReady (s.mayWarm r.val && s.keepWarmFloor != 0 && decide ((s.attic r.val).temp < s.keepWarmFloor * 4) && a.power == .idle &&
      a.queue.isEmpty && s.granted .warmStart r.val) s
    (((s.useGrant .warmStart r.val).modArray r.val fun a => { a with power := .dummy }).modRtherm r.val fun x => { x with warm := true })

def execKeepWarmStop (r : RoomIx) (s : State) : Result :=
  let hot := decide ((s.keepWarmFloor + 5) * 4 ≤ (s.attic r.val).temp)
  whenReady (s.warming r.val && (hot || !s.mayWarm r.val) && s.granted .warmStop r.val) s
    (((((s.useGrant .warmStop r.val).bumpReg .arrayDummyCycles r.val 64 (Config.freeWord s.free 2605).toNat).bump).modArray r.val fun a =>
      { a with power := .steppingDown }).modRtherm r.val fun x => { x with warm := false })

def execCycleCountSave (s : State) : Result := .next (s.reach (s.now + 3600000000000)).saveCycles

/-- R433: the room for a role: the coolest that is eligible, the lowest global index among equals. -/
def State.hotRole (s : State) : Option Nat :=
  let ok (i : Nat) : Bool :=
    let r := globalRoom i
    (s.room r).cond.state == 0 && (s.room r).phase == .inService && decide ((s.attic r).band ≤ 1) && !s.therm.recent.any (·.contains i)
  ((List.range 768).filter ok).foldl (fun b i => match b with
    | none => some i
    | some j => if (s.attic (globalRoom i)).temp < (s.attic (globalRoom j)).temp then some i else some j) none

/-- R433: each role takes the same rule, and so the same room. -/
def State.rotate (s : State) : State :=
  let t := s.reach ((s.now / 10000000 + 1) * 10000000)
  let c := s.hotRole
  t.modTherm fun x => { x with
    roleEpoch := (x.roleEpoch + 1) % 2 ^ 16
    collector := c.getD x.collector, sampler := c.getD x.sampler, root := c.getD x.root
    recent := lastN 8 (x.recent ++ [[c.getD x.collector, c.getD x.sampler, c.getD x.root]]) }

def execDutyRotation (s : State) : Result := .next s.rotate

/-! ## Registers (R437, R535) -/

def State.roleWord (s : State) : Nat :=
  s.therm.roleEpoch * 2 ^ 48 + s.therm.root * 2 ^ 30 + s.therm.sampler * 2 ^ 20 + s.therm.collector * 2 ^ 10

/-- R535: ROOM_ROLE. -/
def State.roomRole (s : State) (r : Nat) : Nat :=
  let i := globalIndex r
  let on := s.therm.roleEpoch != 0
  s.therm.roleEpoch * 2 ^ 48 + b2n (on && s.therm.root == i) * 4 + b2n (on && s.therm.sampler == i) * 2 + b2n (on && s.therm.collector == i)

def State.raising (s : State) : Bool := s.power.rooms.any fun x => x.2.mhz != 0 && decide (x.2.mhz < s.wantedMhz x.1)

def State.thermStatus (s : State) : Nat :=
  tempByte s.deviceLogic * 2 ^ 56 + tempByte (s.deviceLayer 2) * 2 ^ 48 + tempByte (s.deviceLayer 1) * 2 ^ 40 + tempByte (s.deviceLayer 0) * 2 ^ 32 +
  unsg 16 s.therm.slope * 2 ^ 16 + b2n s.therm.classMismatch * 256 + b2n (s.therm.resuming && s.raising) * 128 + s.therm.stop * 16 +
  b2n s.therm.emergency * 8 + b2n s.therm.telemCap.isSome * 4 + b2n (s.therm.slopeSteps != 0) * 2 + b2n s.therm.flowOk

/-- The 8 bytes of the thermal block at an aligned offset. -/
def State.thermReg (s : State) (off : Nat) : Nat :=
  match off with
  | 0x00 => s.thermStatus
  | 0x08 => s.keepWarmFloor * 2 ^ 16 + s.therm.slopeLimit
  | 0x10 => s.regN .thermErr 0
  | 0x18 => s.therm.coolReg
  | 0x20 => s.roleWord
  | _ =>
    if 0x100 ≤ off ∧ off < 0x1C0 then (tgetD s.therm.cycles ((off - 0x100) / 8) {}).count
    else if 0x2000 ≤ off ∧ off < 0x3800 then s.thermRoom (globalRoom ((off - 0x2000) / 8)) else 0

/-- R436: the sensor record. -/
def State.sensorRecord (s : State) : List Byte :=
  let die (d n : Nat) : List Byte :=
    let x := s.dtherm d
    ((List.range n).map fun i => BitVec.ofNat 8 (if x.invalid.contains i then 0xFF else tempByte (x.temps.getD i 0))) ++ toBytes (8 - n) 0
  toBytes 8 s.now ++ toBytes 8 s.thermStatus ++ (List.range 768).flatMap (fun i => toBytes 8 (s.thermRoom (globalRoom i))) ++
  (List.range 24).flatMap (die · 4) ++ (List.range 8).flatMap (fun p => die (96 + p) 2) ++ die 104 2 ++ die 105 2

end Sys2Proof.Machine
end

