-- ==== Sys2Proof/Machine/Boot.lean ====
section
/-! DEFINITION. Bring-up: flash, the option block, images, the phases of a start, failed starts and vestibule mode; training and
release of rooms (R174, R443–R463). -/
namespace Sys2Proof.Machine

/-! ## Flash (R444) -/

/-- R444: a byte of a QSPI flash; one that nothing has written is erased. -/
def State.flashByte (s : State) (f off : Nat) : Byte := tgetD s.flash (f * 2 ^ 32 + off) 0xFF
def State.flashBytes (s : State) (f off n : Nat) : List Byte := (List.range n).map fun j => s.flashByte f (off + j)
def State.flashWrite (s : State) (f off : Nat) (l : List Byte) : State :=
  { s with flash := l.zipIdx.foldl (fun t p => tset (f * 2 ^ 32 + off + p.2) p.1 t) s.flash }

/-- R445: the flash of the option block. -/
def State.optFlash (s : State) : Nat := if s.bootSrc = 2 then 1 else 0

/-! ## The option block (R445–R447) -/

def optGood (l : List Byte) : Bool :=
  numAt l 0 4 == 0x424F5A53 && numAt l 4 2 == 1 && numAt l 6 2 == 0x100 && crc32 (l.take 0xFC) == numAt l 0xFC 4

/-- n bytes of a block replaced. -/
def putAt (l : List Byte) (off n v : Nat) : List Byte := l.take off ++ toBytes n v ++ l.drop (off + n)

/-- R445: a field with its bounds: 0 takes the default; outside the bounds, the nearer end; and whether it was clamped. -/
def clampField (v lo hi d step : Nat) : Nat × Bool :=
  if v = 0 then (d, false) else if v < lo then (lo, true) else if hi < v then (hi, true) else (v / step * step, false)

/-- R445, R447: the fields that have bounds: offset, bytes, and what is applied. -/
def optFields (lim : VariantLimits) (l : List Byte) : List (Nat × Nat × Nat × Bool) :=
  let f (off n lo hi d step : Nat) : Nat × Nat × Nat × Bool := (off, n, clampField (numAt l off n) lo hi d step)
  [f 0x0C 2 400 lim.roomMhz lim.roomMhz 25, f 0x0E 2 300 lim.avuMhz lim.avuMhz 50,
    (0x10, 1, min 1 (numAt l 0x10 1), decide (1 < numAt l 0x10 1)), f 0x12 2 (lim.tdpW / 2) lim.tdpW lim.tdpW 1, f 0x14 2 20 2000 200 1,
    f 0x16 2 1000 20000 1000 1, if numAt l 0x18 1 = 0xFF then (0x18, 1, 0xFF, false) else f 0x18 1 40 70 50 1,
    f 0x1E 2 100 60000 2000 1, (0x0B, 1, min 31 (numAt l 0x0B 1), decide (31 < numAt l 0x0B 1))]

/-- R445, R447: the block as applied: its reserved bits and bytes 0, its CRC computed anew (DEDUCED), and the CLAMP bits. -/
def optApplied (lim : VariantLimits) (l : List Byte) : List Byte × Nat :=
  let fs := optFields lim l
  let b := fs.foldl (fun b x => putAt b x.1 x.2.1 x.2.2.1) l
  let b := putAt (putAt b 8 2 (numAt l 8 2 % 2 ^ 14)) 0x0A 1 (numAt l 0x0A 1 % 16)
  let b := putAt (putAt b 0x19 1 (numAt l 0x19 1 % 128)) 0x20 220 0
  let b := if numAt b 0x19 1 % 128 = 0 then putAt b 0x19 1 0x4A else b
  (putAt b 0xFC 4 (crc32 (b.take 0xFC)), fs.zipIdx.foldl (fun n x => n + b2n x.1.2.2.2 * 2 ^ x.2) 0)

/-- R446: every default, DEVICE_ID 0 and the fused cooling class. -/
def State.optDefault (s : State) : List Byte :=
  putAt (toBytes 4 0x424F5A53 ++ toBytes 2 1 ++ toBytes 2 0x100 ++ toBytes 248 0) 0x11 1 (b2n (!s.liquid))

/-- R446, R447: the option block is read, checked and applied. -/
def State.loadOption (s : State) : State :=
  let a := s.flashBytes s.optFlash 0 256
  let m := s.flashBytes s.optFlash 0x10000 256
  let none_ := !optGood a && !optGood m
  let src := if optGood a then a else if optGood m then m else s.optDefault
  let x := optApplied s.limits src
  let id := numAt x.1 8 2 % 2 ^ 14
  let id := if bitOf (numAt x.1 0x0A 1) 0 then id / 4 * 4 + fld s.boot.straps 5 4 else id
  { s with
    devId := BitVec.ofNat 14 id
    power := { s.power with ramp := numAt x.1 0x14 2, acctCap := numAt x.1 0x16 2 }
    boot := { s.boot with
      option := x.1, optClamp := x.2, optCopy := !optGood a && optGood m, optDiff := optGood a && optGood m && a != m, optDefaults := none_ } }

def execOptionLoad (s : State) : Result := whenReady (s.boot.phase == 2 && s.boot.option.isEmpty) s s.loadOption

/-! ## Images (R450, R451, R488) -/

/-- R451: an entry of the image directory. -/
structure DirEntry where
  index : Nat
  kind : Nat
  slot : Nat
  state : Nat
  version : Nat
  off : Nat
  len : Nat
  svn : Nat
  deriving DecidableEq, Repr

/-- R450: bytes of the images, by flash offset, from the source that the straps name. -/
def State.imageBytes (s : State) (off n : Nat) : List Byte :=
  match s.bootSrc with
  | 1 => s.bytesAt (hostKey 0 (s.boot.hostBase + (off - 0x30000))) n
  | 0 => (List.range n).map fun j => Config.remoteByte s.free (off + j)
  | 2 => s.flashBytes 1 off n
  | _ => s.flashBytes 0 off n

def dirGood (l : List Byte) : Bool := crc32 (l.take 0xFE0) == numAt l 0xFE0 4

/-- R488: the directory, or its copy where its CRC fails. -/
def State.directory (s : State) : List Byte :=
  let l := s.imageBytes 0x30000 4096
  if dirGood l then l else s.flashLogs.directory.getD l

def dirEntry (l : List Byte) (i : Nat) : DirEntry :=
  let o := 32 * i
  ⟨i, numAt l o 1, numAt l (o + 1) 1, numAt l (o + 2) 1, numAt l (o + 4) 4, numAt l (o + 8) 4, numAt l (o + 12) 4, numAt l (o + 16) 4⟩

/-- R451: the entries of a KIND; none where the directory cannot be read. -/
def State.slotsOf (s : State) (kind : Nat) : List DirEntry :=
  if dirGood s.directory then ((List.range 127).map (dirEntry s.directory)).filter fun e => e.kind == kind else []

/-- R451, R528: the image verifies: its signature, its SVN, and its place. -/
def State.verifies (s : State) (e : DirEntry) : Bool :=
  decide (0 < e.len ∧ e.len ≤ 0x800000 ∧ 0x140000 ≤ e.off ∧ e.off + e.len ≤ 0x2000000) && decide (Config.minSvn e.kind ≤ e.svn) &&
  (s.bootSrc != 0 || decide (e.off + e.len ≤ 0x830000)) && Config.imageSigned e.kind (s.imageBytes e.off e.len)

/-- R451, R488: the slot that boots: the committed one, else another that verifies. -/
def State.bootEntry (s : State) (kind : Nat) : Option DirEntry :=
  let l := s.slotsOf kind
  ((l.filter (·.state == 1)) ++ l.filter (·.state != 1)).find? s.verifies

def State.measure (s : State) (index : Nat) (l : List Byte) : State :=
  s.modBoot fun b => { b with measures := tset index (Config.digest 0 l) b.measures }

/-- R488: the directory is rewritten, its copy first put into the flash log. -/
def State.writeDirectory (s : State) (l : List Byte) : State :=
  let l := putAt l 0xFE0 4 (crc32 (l.take 0xFE0))
  { s with flashLogs := { s.flashLogs with directory := some s.directory } }.flashWrite s.optFlash 0x30000 l

/-- R451, R488: the STATE of a slot of a KIND is set. -/
def State.setSlot (s : State) (kind slot state : Nat) : State :=
  match (s.slotsOf kind).find? (·.slot == slot) with
  | some e => s.writeDirectory (putAt s.directory (32 * e.index + 2) 1 state)
  | none => s

/-- R488: the committed slot of a KIND. -/
def State.committed (s : State) (kind : Nat) : Nat := (((s.slotsOf kind).find? (·.state == 1)).map (·.slot)).getD 0

/-! ## The start log (R459) -/

/-- R459: the records that the flash count covers, most recent first. -/
def StartRecord.counts (x : StartRecord) : Bool := x.state == 0x7F || x.state == 0x1F
def State.countedStarts (s : State) : List StartRecord := s.flashLogs.start.reverse.takeWhile (·.counts)

def State.setStart (s : State) (l : List StartRecord) : State := { s with flashLogs := { s.flashLogs with start := l } }

/-- R459: a record is appended; a full log is first erased and written anew with the count. -/
def State.appendStart (s : State) (state : Nat) : State :=
  let l := s.flashLogs.start
  if l.length < 4096 then s.setStart (l ++ [⟨l.length, state, 0, 0⟩])
  else
    let n := s.countedStarts.length
    s.setStart ((List.range n).map (fun i => (⟨i, 0x1F, 0, 0⟩ : StartRecord)) ++ [⟨n, state, 0, 0⟩])

/-- R459: the last record, where it is an open ATTEMPT, is closed. -/
def State.closeAttempt (s : State) (state reason phase : Nat) : State :=
  match s.flashLogs.start.getLast? with
  | some x => if x.state = 0x7F then s.setStart (s.flashLogs.start.dropLast ++ [{ x with state := state, reason := reason, phase := phase }]) else s
  | none => s

/-- R463: BOOT_VEST. -/
def State.vestWord (s : State) : Nat :=
  (((s.countedStarts.filter (·.state == 0x1F)).take 3).zipIdx.map fun p => p.1.reason * 2 ^ (8 * p.2) + p.1.phase * 2 ^ (32 + 4 * p.2)).foldl (· + ·) 0

/-! ## Vestibule and door-only (R412, R460) -/

/-- R460: no room is in service and no wing is up. -/
def State.allOut (s : State) : State :=
  let out (t : State) (r : Nat) : State := t.modRoom r fun x => { x with cond := { x.cond with state := if x.cond.state = 3 then 3 else 4 } }
  (List.range 24).foldl (fun t w => t.modWing w fun x => { x with state := 2 }) ((List.range 768).foldl out s)

def State.leaveStart (s : State) (state reason : Nat) : State :=
  (s.modBoot fun b => { b with state := state, reason := reason, reasonPhase := b.phase }).allOut.publish

/-- R447, R451, R452: the study runs: its image is measured, and clamps of the option block are reported. -/
def State.studyRuns (s : State) (study : DirEntry) : State :=
  let t := (s.measure 3 (s.imageBytes study.off study.len)).modLive fun l => { l with
    running := tset 1 study.slot l.running, hearthDoor := s.boot.activeDoor, strongDoor := s.boot.activeDoor }
  if t.boot.optClamp ≠ 0 then t.postDie 0x51 t.hearthDie t.boot.optClamp else t

/-- R460: vestibule mode; the study is started once, or the recovery monitor runs. -/
def State.vestibule (s : State) (reason : Nat) : State :=
  let t := s.leaveStart 2 reason
  match t.bootEntry 1 with
  | some study => t.studyRuns study
  | none => t.modBoot fun b => { b with recovery := true }

/-! ## The phases (R449) -/

/-- A phase of the start that is in progress and has not failed. -/
def State.inPhase (s : State) (n : Nat) : Bool := s.boot.phase == n && s.boot.state == 0 && s.boot.failing.isNone && s.boot.hold == .none
def State.toPhase (s : State) (n : Nat) : State := s.modBoot fun b => { b with phase := n, since := s.now }
def State.fail (s : State) (reason : Nat) : State := s.modBoot fun b => { b with failing := some reason }

/-- R449, R460, R461: phase 1: door A's identity; after three failed starts the strongroom of door B goes on (DEDUCED). -/
def State.endFuses (s : State) : State :=
  if (s.die 104).fuses = .good then s.toPhase 2
  else if s.aon.failCount < 3 then s.fail 2
  else (s.modBoot fun b => { b with activeDoor := 1 }).toPhase 2

def execBootPhaseFuses (s : State) : Result :=
  whenReady (s.inPhase 1 && (List.range 106).all fun d => (s.die d).fuses != .unread) s s.endFuses

def execBootPhaseOption (s : State) : Result :=
  whenReady (s.inPhase 2 && !s.boot.option.isEmpty) s (if s.boot.optDefaults then s.vestibule 1 else s.toPhase 3)

/-- R459: phase 3. -/
def State.strongroom (s : State) : State :=
  let t := if s.aon.failReason ≠ 0 then s.closeAttempt 0x1F s.aon.failReason s.aon.failPhase else s.closeAttempt 0x1F 0 0
  let count := max t.aon.failCount t.countedStarts.length
  let vest := t.vestWord
  let t := t.modBoot fun b => { b with count := min 15 count, vest := vest }
  let t := (t.measure 1 []).measure 2 t.boot.option
  let t := (t.measure 8 ((List.range 106).flatMap t.idBlock)).measure 9 (toBytes 8 t.boot.straps ++ toBytes 1 t.variant ++ toBytes 1 t.boot.activeDoor)
  if 3 ≤ count then t.vestibule 0x0D
  else ((t.appendStart 0x7F).modBoot fun b => { b with attempt := true }).toPhase 4

def execBootPhaseStrongroomRom (selfTest : Bool) (s : State) : Result :=
  whenReady (s.inPhase 3) s (if selfTest then s.strongroom else s.fail 3)

/-- R449, R447, R435: the study and hearth run: what waited for them is reported. -/
def State.startFirmware (s : State) (study hearth : DirEntry) : State :=
  let t := (s.studyRuns study).measure 4 (s.imageBytes hearth.off hearth.len)
  let t := t.modLive fun l => { l with
    running := tset 2 hearth.slot l.running
    standby := (t.die 104).fuses == .good && (t.die 105).fuses == .good
    hearthStandby := (t.die 104).fuses == .good && (t.die 105).fuses == .good }
  let t := (t.modTherm fun x => { x with flowOk := true }).loadCycles
  if t.aon.tripPending then
    ({ t with aon := { t.aon with tripPending := false } }.postDie 0x23 t.hearthDie t.aon.tripPlace).thermal
      ⟨t.aon.tripKind, if t.aon.tripKind = 1 then 4 else 3, t.aon.tripTemp * 4, 0xFF, t.aon.tripPlace⟩ 5
  else t

/-- R412: the declared cooling class and both doors' fuses agree. -/
def State.coolingOk (s : State) : Bool := s.coolingAgrees && s.optField 0x11 1 == b2n (!s.liquid)

/-- R412: the door-only state. -/
def State.doorOnly (s : State) : State :=
  ((s.leaveStart 3 0x0C).modTherm fun x => { x with classMismatch := true }).thermal (devicePlace s) 12

def State.studyFirmware (s : State) (neighbour : Bool) : State :=
  if s.bootSrc = 0 ∧ !neighbour then s.fail 7
  else match s.bootEntry 1, s.bootEntry 2 with
    | none, _ => s.fail 4
    | _, none => s.fail 5
    | some a, some b =>
      let t := s.startFirmware a b
      if t.coolingOk then t.toPhase 5 else t.doorOnly

def execBootPhaseStudyFirmware (neighbour : Bool) (s : State) : Result :=
  whenReady (s.inPhase 4 && (s.bootSrc != 1 || s.boot.hostGo)) s (s.studyFirmware neighbour)

def execHostTimeout (s : State) : Result :=
  whenReady (s.inPhase 4 && s.bootSrc == 1 && !s.boot.hostGo) s ((s.reach (s.boot.since + 10000000000)).fail 6)

/-! ## Rooms in a start (R174, R454, R473) -/

/-- R162, R455: the banks of a room that are not retired. -/
def State.goodBanks (s : State) (r : Nat) : Nat :=
  (List.range 48).foldl (fun m b => if s.flashLogs.banks.contains (r, b) then m else m + 2 ^ b) 0

/-- R174, R473, R476: a room's repairs are applied and its stair trained; banks that fail, and those retired, are unusable (R23). -/
def State.trainRoom (s : State) (r : Nat) (failed banks : List Nat) : State :=
  let t := (s.settleRepairs r).modAttic r fun a => { a with alwaysDown := s.optOr 0x10 1 0 == 1 }
  let t := t.trainStair r failed
  let a := t.attic r
  let map := (List.range 48).foldl (fun m b => if banks.contains b || !bitOf (t.goodBanks r) b then m else m + 2 ^ b) 0
  let bad := a.halfShort 0 && a.halfShort 1
  let t := if bad then t.postRoom 0x14 r (((List.range 72).find? fun g => decide (1 < a.failedIn g)).getD 0) else t
  let t := if bad then t.modAttic r fun a => { a with phase := .stopped } else t
  t.modRoom r fun x => { x with cond := { x.cond with bankMap := map } }

/-- R10, R21, R174: the state code that training gives a room. -/
def State.trainedState (s : State) (r : Nat) : Nat :=
  let a := s.attic r
  if a.halfShort 0 && a.halfShort 1 then 4 else if (s.room r).cond.bankMap = 0 then 5 else b2n a.half

/-- R20: the reason that goes with it. -/
def trainedReason (n : Nat) : Nat := match n with | 4 => 0x14 | 5 => 0x10 | 1 => 0x12 | _ => 0

/-- R21: a room shows the state that training gives it. -/
def State.showTrained (s : State) (r : Nat) : State :=
  s.modRoom r fun x => { x with cond := { x.cond with state := s.trainedState r, reason := trainedReason (s.trainedState r) } }

/-- R175: stair traffic resumes once the floor plan shows what the recalibration found. -/
def execStairRecalResume (r : RoomIx) (s : State) : Result :=
  whenReady ((s.attic r.val).phase == .recalPublish) s (s.updatePlan.modAttic r.val (·.resumeStair))

/-- R401, R406: the common target. -/
def State.commonMhz (s : State) : Nat := max 400 (s.roomLimit - s.power.lowered)

/-- R453, R454: the boot code is loaded into the pantry and hart 0 released. -/
def State.releaseRoom (s : State) (r : Nat) (phase : RoomPhase) : State :=
  let param := toBytes 8 (s.threadId (r * 32)) ++ toBytes 2 (s.room r).cond.epoch ++ toBytes 1 s.variant ++ toBytes 1 0 ++
    toBytes 4 s.commonMhz ++ toBytes 48 0
  let t := (s.writePantry r 0 (s.boot.bootCode.take 0x40000)).writePantry r 0x40000 param
  let hart : Hart := { idle := false, pc := BitVec.ofNat 64 (localPa 2 r 0), x := [(10, BitVec.ofNat 64 (localPa 2 r 0x40000))] }
  let t := (t.setHartAt (r * 32) hart).modRoom r fun x => { x with phase := phase, bootReport := none, bootSince := s.now }
  (t.setRegN .wingBootResult r 0).modRpow r fun p => { p with mhz := t.commonMhz }

/-- R118, R453: phase 6: every room of a wing that is up takes its first epoch and starts, but for those fused off. -/
def State.releaseAll (s : State) : State :=
  let n := (s.flashLogs.epochCeiling + 1) % 2 ^ 32
  let one (t : State) (r : Nat) : State :=
    let t := t.modRoom r fun x => { x with count := n, cond := { x.cond with epoch := epochOf n } }
    if (t.wing (r / 32)).state ≠ 0 ∨ (t.room r).cond.state = 3 then t else t.releaseRoom r .startBoot
  (List.range 768).foldl one s

/-- R21, R174, R404, R438: a room is trained after its reset, and its boot code starts under a start grant. A room that was shown
DRAINED stays so; one that was disabled returns to service where it can. -/
def State.trainReset (s : State) (r : Nat) (failed banks : List Nat) : State :=
  let x := s.room r
  let t := (s.useGrant .roomStart r).trainRoom r failed banks
  if 4 ≤ t.trainedState r then (((t.showTrained r).setPhase r .stopped).mgmtDone 5 r 0x14).updatePlan
  else if x.phase = .resetTrain then t.releaseRoom r .resetBoot
  else (if x.cond.state = 2 then t else t.showTrained r).releaseRoom r .startBoot

/-- R174: in phase 5, and after a room's reset. -/
def execStairTraining (r : RoomIx) (found : StairResult) (s : State) : Result :=
  let x := s.room r.val
  let ok := found.failed.all fun l => decide (l < 2304)
  if (x.phase = .resetTrain ∨ x.phase = .startTrain) ∧ s.granted .roomStart r.val = true then
    whenReady ok s (s.trainReset r.val found.failed found.banks)
  else whenReady (s.inPhase 5 && x.phase == .inReset && x.cond.state != 3 && ok) s ((s.trainRoom r.val found.failed found.banks).showTrained r.val)

/-- R492: a trial ends and its slot is marked; the committed image runs again. -/
def State.endTrial (s : State) (kind state : Nat) : State :=
  match tget kind s.live.trials with
  | some x =>
    let t := s.setSlot kind x.slot state
    t.modLive fun l => { l with trials := tdel kind l.trials, running := tset kind (t.committed kind) l.running }
  | none => s

/-- R454: what a room's boot code reports, or that it reports nothing. -/
def State.bootEnds (s : State) (r : Nat) (pass : Bool) : State :=
  let x := s.room r
  let t := s.modHartAt (r * 32) fun h => { h with idle := true, wait := .none }
  let out (t : State) : State :=
    (t.modRoom r fun x => { x with phase := .stopped, cond := { x.cond with state := 4, reason := 0x15 } }).postRoom 0x15 r (s.regN .wingBootResult r)
  if !pass ∧ (tget 4 s.live.trials).isSome then
    let t := t.endTrial 4 3
    let code := match t.bootEntry 4 with | some e => t.imageBytes e.off e.len | none => t.boot.bootCode
    (t.modBoot fun b => { b with bootCode := code }).releaseRoom r x.phase
  else match x.phase with
    | .readmitBoot => t.modRoom r fun x => { x with bootReport := some (b2n (!pass)) }
    | .resetBoot =>
      (if pass then (t.modRoom r fun x => { x with phase := .inService, cond := { x.cond with state := 2, reason := 0x70 } }).mgmtDone 5 r 0
       else (out t).mgmtDone 5 r 0x14).updatePlan
    | _ => (if pass ∧ x.cond.state ≤ 2 then t.setPhase r .inService else if pass then t.setPhase r .stopped else out t).updatePlan

/-- R454, R532: the store to WING_BOOT_RESULT. -/
def State.bootResult (s : State) (r : Nat) (v : W64) : State :=
  let t := s.setReg .wingBootResult r v
  match (s.room r).phase with
  | .startBoot | .resetBoot | .readmitBoot => if (s.room r).bootReport.isNone then t.bootEnds r (v.toNat % 256 == 0) else t
  | _ => t

def Room.booting (x : Room) : Bool :=
  x.bootReport.isNone && match x.phase with | .startBoot | .resetBoot | .readmitBoot => true | _ => false

def execRoomBootResult (r : RoomIx) (value : W64) (s : State) : Result := whenReady (s.room r.val).booting s (s.bootResult r.val value)
def execRoomBootTimeout (r : RoomIx) (s : State) : Result :=
  whenReady (s.room r.val).booting s ((s.reach ((s.room r.val).bootSince + 2000000)).bootEnds r.val false)

/-- R487: a room of a wing's drain or readmission has ended with a status; the wing's command ends with its last room. -/
def State.wingPart (s : State) (code w status : Nat) (busy : Room → Bool) (worst : Nat) : State :=
  match s.accepted code w with
  | none => s
  | some c =>
    let t := if status = 0 then s else s.modLive fun l => { l with cmds := l.cmds.map fun x => if x.id = c.id then { x with forced := true } else x }
    if (wingRooms w).any fun r => busy (t.room r) then t
    else t.mgmtEnd c (if c.forced || status != 0 then worst else 0)

/-- R484, R487: a room is still being drained. -/
def Room.drains (x : Room) : Bool :=
  x.stopping || match x.phase with | .draining | .resetRequest | .resetSettle | .inReset => true | _ => false

/-- R484, R487: the drain of a room has ended. -/
def State.drainEnds (s : State) (r status : Nat) : State :=
  match s.accepted 1 r with
  | some c => s.mgmtEnd c status
  | none => s.wingPart 3 (r / 32) status Room.drains 2

/-- R439, R21: the block leaves reset, and what its reset was for goes on: rooms are trained next, but for those that are fused off or,
stopped by heat, wait for their readmission. -/
def State.releaseBlock (s : State) (k : Nat) (goal : BlockGoal) : State :=
  let t := s.endBlock k
  let start (t : State) (r : Nat) : State :=
    let n := (t.room r).cond.state
    if n = 3 then t else if n = 6 then t.setPhase r .stopped else (t.ask .roomStart r).setPhase r .startTrain
  if k < 768 then
    match goal with
    | .readmit => t.setPhase k .readmitTrain
    | .drained =>
      ((((t.modRoom k fun x => { x with cond := { x.cond with state := 2, reason := 0x70 } }).ask .roomStart k).setPhase k .resetTrain).drainEnds
        k 2).updatePlan
    | _ => (t.ask .roomStart k).setPhase k .resetTrain
  else if k < 792 then
    match goal with
    | .wingReadmit =>
      (wingRooms (k - 768)).foldl (fun t r => if (t.room r).cond.state = 3 then t else t.setPhase r .readmitTrain)
        (t.modWing (k - 768) fun x => { x with state := 0 })
    | _ => (wingRooms (k - 768)).foldl start t
  else t

def execBlockRelease (b : Block) (s : State) : Result :=
  match s.blockReset (blockKey b) with
  | some x => whenReady (x.phase == .inReset) s (s.releaseBlock (blockKey b) x.goal)
  | none => .next s

/-! ## Phases 5 to 8 (R449, R453, R455) -/

/-- R449: a module between two dies with good fuses has been trained or is down. -/
def State.modulesDone (s : State) : Bool :=
  (List.range (106 * 16)).all fun k => match modulePeer k with
    | none => true
    | some p => (s.die (k / 16)).fuses != .good || (s.die (p / 16)).fuses != .good || decide (2 ≤ (s.module k).state)

/-- R449: the stair of every room that may be used has been trained. -/
def State.stairsDone (s : State) : Bool :=
  (List.range 768).all fun r => (s.die (r / 32)).fuses != .good || 3 ≤ (s.room r).cond.state || (s.attic r).phase != .stopped

/-- R22, R455: a wing is up: good fuses, what its kind needs, and a module that works. -/
def State.wingFit (s : State) (w : Nat) : Bool :=
  (s.die w).fuses == .good && !(s.die w).unfit && (List.range 16).any fun m => (s.module (w * 16 + m)).state == 2

def State.hallStairs (s : State) : State :=
  let t := (List.range 24).foldl (fun t w => if s.wingFit w then t.modWing w fun _ => ⟨0, 1⟩ else t) s
  let t := t.modPower fun p => { p with share := max 1 t.wingsUp }
  if t.wingsUp = 0 then t.fail 0x0A else t.rebuild.toPhase 6

def execBootPhaseHallStairs (s : State) : Result := whenReady (s.inPhase 5 && s.modulesDone && s.stairsDone) s s.hallStairs

/-- R453: a porch whose controller cannot run is down. -/
def State.porchOut (s : State) (p : Nat) : State := (s.modDie (96 + p) fun x => { x with unfit := true }).porchLinksDown p

/-- R453: one image is sent; the receivers that never hold it whole are down; with both images of the rooms, rooms start. -/
def State.broadcastImage (s : State) (kind : Nat) (failed : List Nat) : State :=
  match s.bootEntry kind with
  | none => if kind = 5 then (List.range 8).foldl (fun t p => t.porchOut p) (s.modBoot fun b => { b with broadcast := ninsert 5 b.broadcast }) else s.fail 0x0B
  | some e =>
    let img := s.imageBytes e.off e.len
    let t := (s.measure (kind + 2) img).modBoot fun b => { b with
      broadcast := ninsert kind b.broadcast, bootCode := if kind = 4 then img else b.bootCode }
    let t := t.modLive fun l => { l with running := tset kind e.slot l.running }
    let t := failed.foldl (fun t i =>
      if kind = 5 then (if i < 8 then t.porchOut i else t) else if i < 24 then t.wingDown i 0x43 else t) t
    if kind ≠ 5 ∧ t.boot.broadcast.contains 3 ∧ t.boot.broadcast.contains 4 then t.releaseAll else t

def execImageBroadcast (kind : Fin 6) (failed : List Nat) (s : State) : Result :=
  whenReady (s.inPhase 6 && decide (3 ≤ kind.val) && !s.boot.broadcast.contains kind.val) s (s.broadcastImage kind.val failed)

/-- R355, R445, R353: the fabric is configured from the option block. -/
def State.startLinks (s : State) : State :=
  let o := s.optField 0x0A 1
  let v := setFld (setFld (s.regN .fabCfg 0) 4 0 (s.optField 0x0B 1)) 9 9 (b2n (bitOf o 3))
  let t := s.setRegN .fabCfg 0 v
  (if bitOf o 3 then t else t.fillBank t.fabric.active false).toPhase 7

/-- R461: some wing is up with a good room. -/
def State.someGood (s : State) : Bool :=
  (List.range 768).any fun r => (s.wing (r / 32)).state == 0 && goodState (s.room r).cond.state && (s.room r).phase == .inService

def execBootPhaseFwBroadcast (s : State) : Result :=
  whenReady (s.inPhase 6 && s.boot.broadcast == [3, 4, 5] && s.rooms.all fun p => p.2.phase != .startBoot) s
    (if s.someGood then s.startLinks else s.fail 0x0A)

/-- R449: every enabled link is UP, or DOWN with cause TRAIN or WIRING. -/
def State.linksDone (s : State) : Bool :=
  (List.range 48).all fun l =>
    let x := s.link l
    !linkEnabled s l || x.state == 3 || (x.state == 0 && (x.cause == 9 || x.cause == 10))

def execBootPhaseLinks (s : State) : Result := whenReady (s.inPhase 7 && s.linksDone) s (s.toPhase 8)

/-! ## Settings (R495, R496) -/

/-- R495: the entries of a copy: keys and values. The fuel is the bytes. -/
def settingEntries : Nat → List Byte → Tab (List Byte)
  | 0, _ => []
  | f + 1, l =>
    if l.length < 4 then []
    else
      let n := numAt l 2 2
      tset (numAt l 0 2) ((l.drop 4).take n) (settingEntries f (l.drop ((4 + n + 7) / 8 * 8)))

/-- R495: a copy is valid: MAGIC and CRC over the header and its entries. -/
def copyGood (l : List Byte) : Bool :=
  numAt l 0 4 == 0x54535A53 && decide (numAt l 0x0C 4 ≤ 65504) &&
  crc32 (l.take 0x1C ++ (l.drop 0x20).take (numAt l 0x0C 4)) == numAt l 0x1C 4

def State.settingsCopy (s : State) (i : Nat) : List Byte := s.flashBytes s.optFlash (0x40000 + 0x10000 * i) 65536

/-- R495, R496: the valid copy with the higher GENERATION, by its number. -/
def State.bestCopy (s : State) : Option Nat :=
  let a := s.settingsCopy 0
  let b := s.settingsCopy 1
  if copyGood a ∧ (!copyGood b ∨ numAt b 8 4 ≤ numAt a 8 4) then some 0 else if copyGood b then some 1 else none

/-- R495: a value takes effect. -/
def State.applySetting (s : State) (key : Nat) (v : List Byte) : State :=
  let n := ofBytes (v.take 8)
  match key with
  | 1 => s.writeCap (n % 2 ^ 16)
  | 2 => s.thermCfgWrite n
  | 3 => (List.range 48).foldl (fun t l => t.linkCfgWrite l (BitVec.ofNat 64 (numAt v (8 * l) 8))) s
  | 5 => (List.range 24).foldl (fun t w => t.setRegN .hallLandingCfg w (n % 512)) s
  | 6 => s.setRegN .fabCfg 0 (setFld (setFld (s.regN .fabCfg 0) 23 16 (fld n 23 16)) 8 8 (fld n 8 8))
  | 7 => s.modLive fun l => { l with trialTmo := fld n 47 32, drainTmo := fld n 31 16 }
  | _ => s

/-- R495, R303: the regulation classes of an attic, at readmission and at a start. -/
def State.applyRegs (s : State) (r : Nat) : State :=
  match tget 4 s.live.settings with
  | some v => (List.range 8).foldl (fun t c => t.modRegq (atticQ r) fun q => q.cfgWrite c (numAt v (8 * c) 8)) s
  | none => s

def State.applySettings (s : State) : State := s.live.settings.foldl (fun t p => t.applySetting p.1 p.2) s

/-- R495: a copy with these entries. -/
def settingsImage (gen version now : Nat) (t : Tab (List Byte)) : List Byte :=
  let pad (l : List Byte) : List Byte := l ++ toBytes ((8 - l.length % 8) % 8) 0
  let es := t.flatMap fun p => pad (toBytes 2 p.1 ++ toBytes 2 p.2.length ++ p.2)
  let h := toBytes 4 0x54535A53 ++ toBytes 2 1 ++ toBytes 2 0 ++ toBytes 4 gen ++ toBytes 4 es.length ++ toBytes 4 version ++ toBytes 8 now
  h ++ toBytes 4 (crc32 (h ++ es)) ++ es

/-- R495: a write goes to the copy with the lower GENERATION, one above the other. -/
def State.writeSettings (s : State) : State :=
  let best := s.bestCopy
  let gen := match best with | some i => numAt (s.settingsCopy i) 8 4 + 1 | none => 1
  let version := ((s.slotsOf 1).find? fun e => e.slot == tgetD s.live.running 1 0).map (·.version)
  let img := settingsImage gen (version.getD 0) s.now s.live.settings
  s.flashWrite s.optFlash (0x40000 + 0x10000 * (match best with | some 0 => 1 | _ => 0)) img

/-- R496: the store is read at a start: a copy in a SCHEMA that is not known leaves defaults; none at all is written at once. -/
def State.readSettings (s : State) : State :=
  match s.bestCopy with
  | some i =>
    let l := s.settingsCopy i
    if numAt l 4 2 = 1 then
      (s.modLive fun x => { x with settings := settingEntries 8192 ((l.drop 0x20).take (numAt l 0x0C 4)) }).applySettings
    else s.modLive fun x => { x with defaults := true }
  | none => s.writeSettings

/-! ## Ready, and the end of a start (R455–R461) -/

/-- R3, R455: at least 736 rooms in full service, and 28 in every wing. -/
def State.goodRooms (s : State) (l : List Nat) : Nat := (l.filter fun r => (s.room r).cond.state == 0).length
def State.isShort (s : State) : Bool :=
  decide (s.goodRooms (List.range 768) < 736) || (List.range 24).any fun w => decide (s.goodRooms (wingRooms w) < 28)

/-- R118, R496: the new ceiling of epochs, and the settings of rooms as flash holds them. -/
def State.readySettings (s : State) : State :=
  (List.range 768).foldl (fun t r => t.applyRegs r)
    { s with flashLogs := { s.flashLogs with epochCeiling := (s.flashLogs.epochCeiling + 64) % 2 ^ 32 } }.readSettings

/-- R448, R457: a start that reaches phase 8 clears the reason and the phase of the last failed start. -/
def State.clearFail (s : State) : State := { s with aon := { s.aon with failReason := 0, failPhase := 0 } }

/-- R449: phase 8. -/
def State.ready (s : State) : State :=
  let t := s.readySettings.clearFail.modBoot fun b => { b with state := 1, short := s.isShort }
  let t := if s.isShort then t.postDie 0x52 t.hearthDie (s.goodRooms (List.range 768)) else t
  t.publish.closeAttempt 0x3F 0 0

def execBootPhaseReady (s : State) : Result := whenReady (s.inPhase 8) s s.ready

/-- R449: the bounds of the phases in ns. -/
def State.phaseBound (s : State) : Nat :=
  match s.boot.phase with
  | 1 => 100000 | 2 => 2000000 | 3 => 30000000
  | 4 => (match s.bootSrc with | 1 => 10000000000 | 0 => 2000000000 | _ => 250000000)
  | 5 => 50000000 | 6 => 50000000 | 7 => 1000000000 | _ => 10000000

def execBootPhaseTimeout (s : State) : Result :=
  let t := s.reach (s.boot.since + s.phaseBound)
  whenReady (s.boot.phase != 0 && s.inPhase s.boot.phase) s (if s.boot.phase = 7 then t.toPhase 8 else t.fail 8)

/-- R457: a failed start. -/
def State.failStart (s : State) (reason : Nat) : State :=
  let t := { s with aon := { s.aon with failReason := reason, failPhase := s.boot.phase, failCount := min 15 (s.aon.failCount + 1) } }
  let t := if s.boot.attempt then t.closeAttempt 0x1F reason s.boot.phase else t
  (t.postDie 0x53 (104 + s.boot.activeDoor) reason).warmReset 9

def execFailedStart (s : State) : Result :=
  match s.boot.failing with
  | some reason => .next (s.failStart reason)
  | none => .next s

/-! ## Registers (R463, R529) -/

def State.bootState (s : State) : Nat := if s.therm.stop ≠ 0 then 4 else s.boot.state

/-- R457, R461: REASON and FAIL_PHASE: those of this start, or of the start that failed last. -/
def State.bootStatus (s : State) : Nat :=
  let b := s.boot
  let last := b.reason == 0
  (if last then s.aon.failReason else b.reason) * 2 ^ 40 + (if last then s.aon.failPhase else b.reasonPhase) * 2 ^ 36 + b.activeDoor * 2 ^ 32 +
  s.bootState * 2 ^ 16 + b.phase * 2 ^ 12 + b.count * 16 + b2n b.short * 8 + b2n b.optCopy * 4 + b2n b.recovery * 2 +
  b2n (b.strapsValid && fld b.straps 3 2 == 0)

def State.aonWord (s : State) : Nat :=
  let a := s.aon
  a.lastCause * 2 ^ 56 + a.tripTemp * 2 ^ 48 + a.tripPlace * 2 ^ 32 + a.failReason * 2 ^ 24 + a.failPhase * 2 ^ 8 + a.failCount * 16

/-- The 8 bytes of the read-only boot block and the identification block at an aligned offset from 0x0500_0000. -/
def State.bootReg (s : State) (off : Nat) : Nat :=
  match off with
  | 0x1000 => s.bootStatus
  | 0x1008 => b2n s.boot.optDefaults * 2 ^ 18 + b2n s.boot.optDiff * 2 ^ 17 + b2n s.boot.optCopy * 2 ^ 16 + s.boot.optClamp
  | 0x1010 => if s.boot.strapsValid then 64 + s.boot.straps else 0
  | 0x1018 => s.aonWord
  | 0x1020 => s.boot.vest
  | 0x2000 => 0x52091E9DB0 * 2 ^ 24 + (if s.boot.phase = 0 then 0 else s.variant) * 2 ^ 16 + (if s.boot.option.isEmpty then 0 else s.devId.toNat)
  | 0x2008 => s.idField 104 8 8
  | 0x2010 => s.idField 104 16 8
  | 0x2018 => 0xB520999D
  | 0x2020 => 1
  | _ =>
    if off < 0x100 then s.optField off 8
    else if 0x1100 ≤ off ∧ off < 0x11C0 then tgetD s.aon.peaks ((off - 0x1100) / 8) 0
    else if 0x10000 ≤ off ∧ off < 0x10000 + 106 * 0x80 then s.idField ((off - 0x10000) / 0x80) (off % 0x80) 8
    else 0

end Sys2Proof.Machine
end

