-- ==== Sys2Proof/Machine/Errors.lean ====
section
/-! DEFINITION. Error records on their way to the logs, windows of correctable records, and the phases of a soft row repair
(R472–R474, R478–R481). -/
namespace Sys2Proof.Machine

/-! ## Records (R480, R481) -/

/-- R478: a record with a cause, a die, perhaps a room of it, and its detail. -/
def postedRecord (p : PostedError) (s : State) : ErrRecord :=
  let e := dieRecord s p.cause p.die.val p.info
  match p.room with
  | some r => { e with flags := 1, room := r.val }
  | none => e

/-- R482, R478: a 64-bit word of an error record. -/
def ErrRecord.word (e : ErrRecord) (j : Nat) : Nat :=
  match j with
  | 0 => e.cause * 2 ^ 48 + e.severity * 2 ^ 44 + e.die * 2 ^ 37 + e.seq % 2 ^ 32
  | 1 => e.time
  | 2 => e.flags * 2 ^ 56 + e.room * 2 ^ 51 + e.bank * 2 ^ 45 + e.within * 2 ^ 23 + e.lane * 2 ^ 11 + min e.count 2047
  | _ => e.info

def ErrRecord.bytes (e : ErrRecord) : List Byte := (List.range 4).flatMap fun j => toBytes 8 (e.word j)

/-- R481: the oldest record on its way reaches the device log; or an occurrence of a cause is posted where it arose. -/
def execErrorRecordPost (e : Option PostedError) (s : State) : Result :=
  match e with
  | some p => .next (s.post (postedRecord p s))
  | none =>
    match s.errInFlight with
    | x :: t => .next ({ s with errInFlight := t }.logRecord x)
    | [] => .next s

/-- R480: a window ends one second after its first occurrence: the further occurrences make one record. -/
def State.endWindow (s : State) (w : CeWindow) : State :=
  let t := { s.reach (w.record.time + 1000000000) with ceWindows := s.ceWindows.erase w }
  if w.further = 0 then t else t.placeRecord { w.record with time := w.again, count := min 2047 w.further }

def execCeWindowEnd (cause : Nat) (die : DieIx) (room : Fin 32) (s : State) : Result :=
  match s.ceWindows.find? fun w => w.cause == cause && w.die == die.val && w.room == room.val with
  | some w => .next (s.endWindow w)
  | none => .next s

/-! ## Soft repair of a row (R472, R474) -/

/-- The repair of a row that is in progress. -/
def AtticB.repairOf (a : AtticB) (bank row : Nat) : Option (RowRepair × RepairPhase) :=
  a.repairing.find? fun p => p.1.bank == bank && p.1.row == row

/-- The repair of a row enters a phase. -/
def AtticB.repairPhase (a : AtticB) (x : RowRepair) (p : RepairPhase) : AtticB :=
  { a with repairing := a.repairing.map fun q => if q.1 = x then (x, p) else q }

/-- A repair in a phase goes on; one that is not in it is unchanged. -/
def repairStep (r : RoomIx) (bank : Fin 48) (row : Fin 4096) (p : RepairPhase) (s : State) (f : RowRepair → State) : Result :=
  match (s.attic r.val).repairOf bank.val row.val with
  | some x => whenReady (x.2 == p && !s.restarting 3 (r.val / 32)) s (f x.1)
  | none => .next s

def execRowRepairHoldEnd (r : RoomIx) (bank : Fin 48) (row : Fin 4096) (s : State) : Result :=
  repairStep r bank row .hold s fun x => s.modAttic r.val (·.repairPhase x .copy)

/-- R472, R533: the slot maps the row to the spare; the row's contents are as they were. -/
def State.switchRow (s : State) (r : Nat) (x : RowRepair) : State :=
  (s.modAttic r fun a => { a.repairPhase x .log with repairs := a.repairs ++ [x] }).mail r 2 (x.bank * 2 ^ 16 + x.row) x.spare

def execRowRepairSwitch (r : RoomIx) (bank : Fin 48) (row : Fin 4096) (s : State) : Result :=
  repairStep r bank row .copy s fun x => s.switchRow r.val x

/-- R474: the entry is written, unless the log is full. -/
def State.logRepair (s : State) (r : Nat) (x : RowRepair) : State :=
  let rec_ (cause info : Nat) : ErrRecord := { roomRecord s cause r info with flags := 3, bank := x.bank, within := x.row * 1024 }
  let t := s.modAttic r fun a => { a with repairing := a.repairing.filter fun q => q.1 != x }
  let t :=
    if t.flashLogs.repairs.length < 16384 then
      { t with flashLogs := { t.flashLogs with repairs := t.flashLogs.repairs ++ [(r, x.bank, x.spare, x.row, false, s.now)] } }
    else t.post (rec_ 0x0E x.row)
  (t.orReg .atticErr r 0x400).post (rec_ 0x0C x.spare)

def execRowRepairLog (r : RoomIx) (bank : Fin 48) (row : Fin 4096) (s : State) : Result :=
  repairStep r bank row .log s fun x => s.logRepair r.val x

end Sys2Proof.Machine
end

