-- ==== Sys2Proof/Machine/Doors.lean ====
section
/-! DEFINITION. The queue engines of the doors: rings, doorbells, descriptors, completions and events, and the loss of a host
(R371, R375–R390, R456). -/
namespace Sys2Proof.Machine

/-! ## Rings (R376) -/

def RingState.code : RingState → Nat
  | .disabled => 0 | .running => 1 | .stopped => 2 | .orphaned => 3

/-- R376: descriptors of a ring fetched and not completed. -/
def State.sqOutstanding (s : State) (q : Nat) : Nat := (s.descs.filter (·.sq == q)).length
def State.sqState (s : State) (q : Nat) : Nat :=
  s.sqOutstanding q * 2 ^ 32 + (s.sq q).cause * 256 + (s.sq q).state.code

/-- R380: what a door holds: descriptors that have not completed, and completions that wait. -/
def State.doorOutstanding (s : State) (d : Nat) : Nat :=
  (s.descs.filter fun x => (s.sq x.sq).owner == d).length + (s.completions.filter fun x => (s.sq x.sq).owner == d).length

/-- R379, R387: a ring stops with a cause: RING_STOP, and a RING_ERROR event (DEDUCED for every cause). -/
def State.stopRing (s : State) (q cause : Nat) : State :=
  let t := (s.modSq q fun x => { x with state := .stopped, cause := cause }).orReg .doorErr (s.sq q).owner 16
  t.event 8 q (t.sqState q)

/-- R376: the ring runs if its CQ is enabled and has its owner. -/
def State.startRing (s : State) (q : Nat) : State :=
  let x := s.sq q
  let c := s.cq x.cq
  if !c.enable then s.stopRing q 4
  else if c.owner ≠ x.owner then s.stopRing q 3
  else s.modSq q fun x => { x with state := .running, cause := 0 }

/-- R376: the fields of a ring can be changed. -/
def SubRing.open (x : SubRing) : Bool := x.state == .disabled || x.state == .orphaned

/-- R376: a write of SQ_CFG. -/
def State.sqCfgWrite (s : State) (q v : Nat) : State :=
  let fields (x : SubRing) : SubRing :=
    { x with priv := bitOf v 62, owner := fld v 61 61, sizeLog2 := fld v 60 56, cq := fld v 49 40, weight := fld v 39 32 }
  let t := if (s.sq q).open then s.modSq q fields else s
  if bitOf v 63 then
    (if (s.sq q).enable then t else (t.modSq q fun x => { x with enable := true, head := 0, tail := 0, limit := 0 }).startRing q)
  else if (s.sq q).enable then (t.modSq q fun x => { x with enable := false }).settleSq q else t

/-- R372: the door registers are written with the rights of a machine-mode hart. -/
def doorWriter (s : State) (who : Accessor) : Bool := regWriter s 888 who

def execSqCfgWrite (who : Accessor) (ring : Fin 1024) (value : W64) (s : State) : Result :=
  whenReady (doorWriter s who) s (s.sqCfgWrite ring.val value.toNat)

/-! ## MSI-X (R382, R394) -/

/-- R394: a vector is sent, or pending while it is masked. -/
def State.sendVector (s : State) (d v : Nat) : State :=
  if bitOf (s.regN .doorMsixCtl (d * 1024 + v)) 32 then s.modDoor d fun x => { x with msixPending := ninsert v x.msixPending }
  else { s with sent := s.sent ++ [.msix d v] }

/-- R382: entries of a CQ that CQ_HEAD has not passed. -/
def ComRing.pending (x : ComRing) : Nat := (x.tail + 2 ^ 32 - x.head) % 2 ^ 32

/-- R382: the vector of a CQ is sent, once for the entries that are pending. -/
def State.raiseCq (s : State) (c : Nat) : State :=
  let x := s.cq c
  if x.irqEn && !x.fired && x.pending != 0 then (s.modCq c fun x => { x with fired := true }).sendVector x.owner x.vector else s

/-- R382: the pending entries have reached COAL_COUNT. -/
def State.coalesce (s : State) (c : Nat) : State :=
  if max 1 (s.cq c).coalCount ≤ (s.cq c).pending then s.raiseCq c else s

/-- R382: COAL_TIME passes since the first pending entry. -/
def execMsiXCoalesceTimer (c : Fin 1024) (s : State) : Result :=
  match (s.cq c.val).written with
  | t0 :: _ => whenReady ((s.cq c.val).coalTime != 0) s ((s.reach (t0 + (s.cq c.val).coalTime * 1000)).raiseCq c.val)
  | [] => .next s

/-! ## Completion rings (R377, R379, R382) -/

/-- R377: a write of CQ_CFG. -/
def State.cqCfgWrite (s : State) (c v : Nat) : State :=
  let was := (s.cq c).enable
  let t := s.modCq c fun x => { x with
    enable := bitOf v 63, owner := fld v 61 61, sizeLog2 := fld v 60 56, vector := fld v 41 32, irqEn := bitOf v 31
    coalCount := fld v 23 16, coalTime := fld v 15 0 }
  let t := if bitOf v 63 && !was then t.modCq c fun x => { x with head := 0, tail := 0, written := [], fired := false } else t
  t.coalesce c

def execCqCfgWrite (who : Accessor) (ring : Fin 1024) (value : W64) (s : State) : Result :=
  whenReady (doorWriter s who) s (s.cqCfgWrite ring.val value.toNat)

/-- R379, R388: an entry can be written to the CQ. -/
def State.cqRoom (s : State) (c : Nat) : Bool :=
  let x := s.cq c
  x.enable && decide (x.pending < ringSize x.sizeLog2) && (s.door x.owner).hostUp

/-- R382: an entry is written, with its PHASE, and the CQ's vector raised where it is due. -/
def State.cqPut (s : State) (c tag w1 d0 d1 : Nat) : State :=
  let x := s.cq c
  let size := ringSize x.sizeLog2
  let phase := 1 - x.tail / size % 2
  let t := s.memWrite (.host x.owner (x.base + x.tail % size * 32))
    (toBytes 8 tag ++ toBytes 8 (w1 + phase) ++ toBytes 8 d0 ++ toBytes 8 d1)
  (t.modCq c fun x => { x with tail := (x.tail + 1) % 2 ^ 32, written := x.written ++ [s.now] }).coalesce c

/-- R382: word 1 of an entry, but for PHASE. -/
def cqWord1 (head opcode status sq : Nat) : Nat := head * 2 ^ 32 + opcode * 2 ^ 24 + status % 256 * 2 ^ 16 + sq * 64

/-- R388, R389: a completion may leave the door to this CQ. -/
def State.leavesTo (s : State) (c : Nat) (x : Completion) : Bool :=
  (s.sq x.sq).cq == c && (s.sq x.sq).state != .orphaned && (s.sq x.sq).owner == (s.cq c).owner

/-- R379, R382: the oldest completion for a CQ is written. -/
def execCompletionWrite (c : Fin 1024) (s : State) : Result :=
  match s.completions.find? (s.leavesTo c.val) with
  | none => .next s
  | some x =>
    whenReady (s.cqRoom c.val) s
      (({ s with completions := s.completions.erase x }.cqPut c.val x.tag.toNat
        (cqWord1 (if x.adopted then 0 else (s.sq x.sq).head) x.opcode x.status x.sq) x.d0 x.d1).freeChan x.chan)

/-! ## Doorbells (R378, R379) -/

/-- R379: CQ_HEAD. -/
def State.cqHead (s : State) (d c v : Nat) : State :=
  let x := s.cq c
  if x.owner ≠ d then s.orReg .doorErr d 4
  else if x.pending < (v + 2 ^ 32 - x.head) % 2 ^ 32 then s.orReg .doorErr d 2
  else
    let left := (x.tail + 2 ^ 32 - v) % 2 ^ 32
    (s.modCq c fun x => { x with head := v, written := lastN left x.written, fired := false }).coalesce c

def execCqHead (d : DoorIx) (ring : Fin 1024) (value : W32) (s : State) : Result := .next (s.cqHead d.val ring.val value.toNat)

/-- R379: up to where descriptors are fetched after a doorbell: TAIL; some of those that a TAIL moved back gives up, or that
were fetched since, may run. -/
def State.sqLimit (s : State) (x : SubRing) (v : Nat) : Nat :=
  let ahead := (v + 2 ^ 32 - x.head) % 2 ^ 32
  let left := (x.limit + 2 ^ 32 - x.head) % 2 ^ 32
  if ringSize x.sizeLog2 < ahead then x.head
  else if ahead < left then (v + (Config.freeWord s.free 2800).toNat % (left - ahead + 1)) % 2 ^ 32 else v

/-- R379: a TAIL between an earlier one, moved back, and the descriptors fetched past it. -/
def SubRing.behind (x : SubRing) (v : Nat) : Bool :=
  let past := (x.head + 2 ^ 32 - x.tail) % 2 ^ 32
  decide (past ≤ ringSize x.sizeLog2 ∧ (v + 2 ^ 32 - x.tail) % 2 ^ 32 < past)

/-- R378, R379, R388: SQ_TAIL. -/
def State.sqTail (s : State) (d q v : Nat) : State :=
  let x := s.sq q
  if x.owner ≠ d then s.orReg .doorErr d 4
  else if x.open then s
  else if x.state ≠ .running ∨ x.enable = false then s.modSq q fun x => { x with tail := v }
  else
    let t := (s.modSq q fun x => { x with tail := v, limit := s.sqLimit x v }).bump
    if ringSize x.sizeLog2 < (v + 2 ^ 32 - x.head) % 2 ^ 32 ∧ x.behind v = false then t.stopRing q 1 else t

def execSqTail (d : DoorIx) (ring : Fin 1024) (value : W32) (s : State) : Result := .next (s.sqTail d.val ring.val value.toNat)

/-! ## Fetching (R380, R427, R456) -/

/-- The words of the descriptor that a ring fetches next. -/
def State.nextWords (s : State) (q : Nat) : List W64 :=
  let x := s.sq q
  let l := s.bytesAt (hostKey x.owner (x.base + x.head % ringSize x.sizeLog2 * 64)) 64
  (List.range 8).map fun j => BitVec.ofNat 64 (ofBytes ((l.drop (8 * j)).take 8))

/-- R456: before phase 8 ends, only MGMT descriptors of privileged rings are fetched, and none before phase 4 ends. -/
def State.mayFetch (s : State) (q : Nat) : Bool :=
  s.boot.state == 1 ||
  ((decide (5 ≤ s.boot.phase) || s.boot.state != 0) && (s.sq q).priv && fld (wordN (s.nextWords q) 0) 7 0 == 0x10)

/-- R380, R427: a ring from which a door can fetch. -/
def State.fetchable (s : State) (d q : Nat) : Bool :=
  let x := s.sq q
  x.owner == d && x.enable && x.state == .running && x.head != x.limit && s.mayFetch q

/-- R380: the ring that is served next, in weighted turn. -/
def State.nextRing (s : State) (d : Nat) : Option Nat :=
  let x := s.door d
  if 0 < x.turnLeft ∧ s.fetchable d x.turn = true then some x.turn
  else ((List.range 1024).map fun i => (x.turn + 1 + i) % 1024).find? (s.fetchable d)

/-- R380: one descriptor is fetched, and the turn goes on. -/
def State.fetch (s : State) (d q : Nat) : State :=
  let x := s.door d
  let left := if 0 < x.turnLeft ∧ x.turn = q then x.turnLeft - 1 else max 1 (s.sq q).weight - 1
  let t := s.modDoor d fun x => { x with turn := q, turnLeft := left }
  let t := t.modSq q fun y => { y with head := (y.head + 1) % 2 ^ 32 }
  { t.bump with descs := s.descs ++ [⟨s.nextDesc, q, s.nextWords q, false⟩], nextDesc := s.nextDesc + 1 }

def execDescriptorFetch (d : DoorIx) (host : FetchResult) (s : State) : Result :=
  match s.nextRing d.val with
  | none => .next s
  | some q =>
    whenReady ((s.door d.val).hostUp && !(s.door d.val).down && s.therm.stop == 0 && decide (s.doorOutstanding d.val < 4096)) s
      (match host with
        | .ok => s.fetch d.val q
        | .error => s.stopRing q 2)

/-! ## Starting commands (R380, R381) -/

/-- R380: descriptors of a ring start in fetch order, and a fenced one only after every earlier one has completed. -/
def State.startable (s : State) (id : Nat) : Option Desc :=
  match s.descs.find? (·.id == id) with
  | none => none
  | some e =>
    let before := (s.descs.takeWhile fun x => x.id != id).filter (·.sq == e.sq)
    if e.started || before.any (fun x => !x.started) || (bitOf (wordN e.words 0) 8 && !before.isEmpty) then none else some e

def Desc.opcode (e : Desc) : Nat := fld (wordN e.words 0) 7 0
def Desc.zero (e : Desc) (l : List Nat) : Bool := l.all fun j => wordN e.words j == 0
/-- R381: reserved bits of word 0. -/
def Desc.reserved (e : Desc) : Nat := fld (wordN e.words 0) 15 9

/-- The descriptor starts, and is held until its command completes. -/
def State.startDesc (s : State) (id : Nat) : State :=
  { s with descs := s.descs.map fun x => if x.id = id then { x with started := true } else x }

/-- R381: NOP, and every reserved OPCODE. -/
def execDescNop (id : Nat) (s : State) : Result :=
  match s.startable id with
  | none => .next s
  | some e =>
    let ok := e.reserved == 0 && fld (wordN e.words 0) 63 16 == 0 && e.zero [2, 3, 4, 5, 6, 7]
    whenReady (!([1, 2, 0x10].contains e.opcode)) s
      (s.complete id (if e.opcode ≠ 0 then 0x10 else if ok then 0 else 0x11) 0 0)

/-! ## Jobs (R383, R384) -/

def SubRing.limits (x : SubRing) : DoorLimits := ⟨x.priv, x.guardBase, x.guardSize⟩

/-- R383, R385: an address that a room list or a program may have. -/
def State.doorSource (s : State) (x : SubRing) (pa n : Nat) : Bool :=
  x.limits.allows x.owner pa n && (decide (6 ≤ paType pa) || (paType pa != 1 && (bitOf pa 55 || fld pa 51 38 == s.devId.toNat)))

def jobRooms (e : Desc) : Nat := fld (wordN e.words 0) 37 28 + 1
def jobHarts (e : Desc) : Nat := fld (wordN e.words 0) 27 23 + 1
def jobFirst (e : Desc) : Nat := fld (wordN e.words 0) 22 18
def jobPriv (e : Desc) : Nat := fld (wordN e.words 0) 17 16

/-- R381, R383: what stops a job before its list is read. -/
def State.jobCheck (s : State) (e : Desc) : Nat :=
  let x := s.sq e.sq
  if e.reserved ≠ 0 ∨ fld (wordN e.words 0) 63 38 ≠ 0 ∨ e.zero [7] = false ∨ jobPriv e = 2 ∨ 32 < jobFirst e + jobHarts e ∨ 768 < jobRooms e ∨
    wordN e.words 6 % 2 ≠ 0 then 0x11
  else if (jobPriv e = 3 ∧ x.priv = false) ∨ s.doorSource x (wordN e.words 6) (2 * jobRooms e) = false then 0x12 else 0

/-- R13, R383: where a job's room list lies, for its door. -/
def State.jobListPlace (s : State) (e : Desc) : Place := s.dwPlace (doorChan (s.sq e.sq).owner 0) (wordN e.words 6) (2 * jobRooms e)

/-- R384: the room list, where it can be read. -/
def State.jobList (s : State) (e : Desc) : Option (List Nat) :=
  let n := 2 * jobRooms e
  match s.pread (s.jobListPlace e) n with
  | .ok l => if l.any (·.2) then none else some ((List.range (jobRooms e)).map fun i => ofBytes (((l.drop (2 * i)).take 2).map (·.1)))
  | .error _ => none

/-- R13, R383, R89: one thread starts, or does not; a door that reaches no room finds it absent. -/
def State.startThread (s : State) (e : Desc) (entry h x : Nat) : State × ThreadEnd :=
  if hr : (entry < 768 ∧ h < 32) ∧ s.doorReaches (s.sq e.sq).owner = true then
    let t : HartId := ⟨⟨entry, hr.1.1⟩, ⟨h, hr.1.2⟩⟩
    let w (j : Nat) : W64 := e.words.getD j 0
    let m : SpawnMsg := ⟨BitVec.ofNat 32 (s.threadId (hkey t)), 0, w 2, BitVec.ofNat 2 (jobPriv e) |>.toFin, w 3, 0, w 4⟩
    let st := s.spawnStatus t m
    if st = 0 then
      (s.modHart t fun y =>
        let z := y.start none (jobPriv e) (w 2) (w 3) 0 (w 4)
        { z with x := [(2, 0), (10, w 4), (11, w 5), (12, BitVec.ofNat 64 x)], job := some (e.id, x) }, .running)
    else (s, .refused st)
  else (s, .refused 2)

/-- R383: the threads of a job, in thread order. -/
def State.startThreads (s : State) (e : Desc) (rooms : List Nat) : State × List ThreadEnd :=
  let n := jobHarts e
  (List.range (rooms.length * n)).foldl (fun p x =>
    let q := p.1.startThread e (rooms.getD (x / n) 0xFFFF) (jobFirst e + x % n) x
    (q.1, p.2 ++ [q.2])) (s, [])

def State.startJob (s : State) (e : Desc) (rooms : List Nat) : State :=
  let p := (s.startDesc e.id).startThreads e rooms
  { p.1.bump with jobs := p.1.jobs ++ [⟨e.id, p.2⟩] }

def execDescJob (id : Nat) (list : FetchResult) (s : State) : Result :=
  match s.startable id with
  | none => .next s
  | some e =>
    whenReady (e.opcode == 1 && (s.jobCheck e != 0 || s.homeRuns 6 (s.jobListPlace e) (2 * jobRooms e))) s
      (if s.jobCheck e ≠ 0 then s.complete id (s.jobCheck e) 0 0
       else match list, s.jobList e with
        | .ok, some l => s.startJob e l
        | _, _ => s.complete id 0x13 0 0)

def ThreadEnd.exit : ThreadEnd → Option W64
  | .exited v => some v
  | _ => none

/-- R89, R383: the status of a thread that failed to start or is absent. -/
def ThreadEnd.bad : ThreadEnd → Nat
  | .absent => 2
  | .refused st => st
  | _ => 0

/-- R383: the job's completion. -/
def Job.done (j : Job) : Nat × Nat × Nat :=
  let exited := (j.threads.filter fun t => t.exit.isSome).length
  let refused := (j.threads.filter fun t => match t with | .refused _ => true | _ => false).length
  let first := ((j.threads.map ThreadEnd.bad).find? (· != 0)).getD 0
  (if exited = j.threads.length then 0 else 2, (((j.threads.head?).bind ThreadEnd.exit).getD 0).toNat,
    exited * 2 ^ 32 + refused % 2 ^ 16 * 2 ^ 16 + first * 256)

def execJobComplete (id : Nat) (s : State) : Result :=
  match s.jobs.find? (·.id == id) with
  | none => .next s
  | some j =>
    whenReady (j.threads.all fun t => t != .running) s
      ({ s with jobs := s.jobs.filter (·.id != id) }.complete id j.done.1 j.done.2.1 j.done.2.2)

/-! ## Door programs (R385) -/

def State.dmaCheck (s : State) (e : Desc) : Nat :=
  if e.reserved ≠ 0 ∨ fld (wordN e.words 0) 63 16 ≠ 0 ∨ e.zero [3, 4, 5, 6, 7] = false ∨ wordN e.words 2 % 16 ≠ 0 then 0x11
  else if s.doorSource (s.sq e.sq) (wordN e.words 2) 16 then 0 else 0x12

/-- R385: the first free channel of a door. -/
def State.freeChannel (s : State) (d : Nat) : Option Nat :=
  (List.range 16).find? fun c => (s.dw (doorChan d c)).state == .idle && (s.dw (doorChan d c)).queue.isEmpty

def execDescDma (id : Nat) (s : State) : Result :=
  match s.startable id with
  | none => .next s
  | some e =>
    let x := s.sq e.sq
    if e.opcode ≠ 2 then .next s
    else if s.dmaCheck e ≠ 0 then .next (s.complete id (s.dmaCheck e) 0 0)
    else match s.freeChannel x.owner with
      | none => .next s
      | some c =>
        .next ((s.startDesc id).modDw (doorChan x.owner c) fun y =>
          { y with queue := [{ addr := wordN e.words 2, job := id, limits := x.limits }] })

/-! ## MGMT (R386) -/

/-- R386: the arguments that a command uses, and whether it uses BUF; none for a code that is not listed. -/
def mgmtShape : Nat → Option (Nat × Bool)
  | 0x01 | 0x02 | 0x03 | 0x04 | 0x05 | 0x10 | 0x40 | 0x41 | 0x51 => some (1, false)
  | 0x11 => some (2, false)
  | 0x12 => some (2, true)
  | 0x20 | 0x30 => some (1, true)
  | 0x31 => some (2, false)
  | 0x32 | 0x33 | 0x50 => some (0, true)
  | _ => none

/-- R381, R386: fields that the command does not use are 0. -/
def mgmtFields (w : List W64) : Bool :=
  match mgmtShape (fld (wordN w 0) 31 16) with
  | none => false
  | some (n, buf) =>
    fld (wordN w 0) 15 9 == 0 && fld (wordN w 0) 63 32 == 0 && fld (wordN w 7) 63 32 == 0 &&
    ((List.range 4).all fun j => decide (j < n) || wordN w (2 + j) == 0) && (buf || (wordN w 6 == 0 && wordN w 7 == 0))

/-- R386: the command as the study holds it. -/
def mgmtCmd (id : Nat) (ring : Bool) (door : Nat) (w : List W64) (now : Nat) : MgmtCmd :=
  { id, ring, door, tag := w.getD 1 0, code := fld (wordN w 0) 31 16, args := (List.range 4).map fun j => wordN w (2 + j)
    buf := wordN w 6, bufLen := fld (wordN w 7) 31 0, since := now }

def State.addCmd (s : State) (c : MgmtCmd) : State := s.modLive fun l => { l with cmds := l.cmds ++ [c] }

def execDescMgmt (id : Nat) (s : State) : Result :=
  match s.startable id with
  | none => .next s
  | some e =>
    let x := s.sq e.sq
    whenReady (e.opcode == 0x10) s
      (if x.priv = false then s.complete id 0x12 0 0
       else if mgmtFields e.words = false then s.complete id 0x11 0 0
       else (s.startDesc id).addCmd (mgmtCmd id true x.owner e.words s.now))

/-! ## Events (R387) -/

/-- R387: the event that a door writes next: one held, then EVENT_LOST with the count of those dropped. -/
def Door.nextEvent (x : Door) : Option Event :=
  match x.events with
  | e :: _ => some e
  | [] => if x.dropped = 0 then none else some ⟨9, x.dropped, 0⟩

def Door.takeEvent (x : Door) : Door :=
  let y := { x with eventSeq := (x.eventSeq + 1) % 2 ^ 64 }
  match x.events with
  | _ :: t => { y with events := t }
  | [] => { y with dropped := 0 }

def execEventWrite (d : DoorIx) (s : State) : Result :=
  match (s.door d.val).nextEvent with
  | none => .next s
  | some e =>
    let c := s.eventCq d.val
    whenReady (bitOf (s.regN .doorCtrl d.val) 63 && s.eventCqValid d.val && s.cqRoom c) s
      ((s.modDoor d.val Door.takeEvent).cqPut c (s.door d.val).eventSeq (cqWord1 0 0xFF e.kind 0x3FF) e.d0 e.d1)

/-- R387: a write of DOOR_CTRL; held events are then written where the event CQ is valid, else EVENT_CQ_BAD is set. -/
def State.doorCtrlWrite (s : State) (d : Nat) (v : W64) : State :=
  let t := s.writeReg .doorCtrl d v
  if bitOf v.toNat 63 && (t.door d).nextEvent.isSome && !t.eventCqValid d then t.orReg .doorErr d 64 else t

def execDoorCtrlWrite (who : Accessor) (d : DoorIx) (value : W64) (s : State) : Result :=
  whenReady (doorWriter s who) s (s.doorCtrlWrite d.val value)

/-! ## The host of a door (R369–R371, R388–R390, R456) -/

/-- R371: PERST_N resets the PCIe controller and its configuration space. -/
def execPerstN (d : DoorIx) (s : State) : Result := .next ({ s with pcies := tdel d.val s.pcies }.dataLinkDown d.val)

def execHostLinkLoss (d : DoorIx) (s : State) : Result := whenReady (s.door d.val).linkUp s (s.dataLinkDown d.val)

/-- R388: a door declares its host lost. -/
def State.loseHost (s : State) (d : Nat) : State :=
  let gone := (List.range 1024).filter fun q => (s.sq q).owner == d && (s.sq q).state == .running
  let t := gone.foldl (fun t q => t.modSq q fun x => { x with state := .orphaned }) s
  (t.modDoor d fun x => { x with hostLost := true, lostSince := none }).event 6 d gone.length

def execHostLost (d : DoorIx) (s : State) : Result :=
  match (s.door d.val).lostSince with
  | some t0 => .next ((s.reach (t0 + max 1 (fld (s.regN .doorCtrl d.val) 31 16) * 1000000)).loseHost d.val)
  | none => .next s

def execDoorRelease (who : Accessor) (d : DoorIx) (s : State) : Result := whenReady (doorWriter s who) s (s.loseHost d.val)

/-- R442, R408: the PCIe transmitters of a door run. -/
def State.pcieRuns (s : State) (d : Nat) : Bool :=
  s.boot.hold == .none && (decide (3 ≤ s.boot.phase) || s.boot.state != 0) && !(s.door d).down &&
  !s.power.refLost.contains (if d = 0 then .pcieA else .pcieB)

/-- R388: the link returns: the timer of the host's loss stops, and a host that was lost is served again. -/
def execDataLinkUp (d : DoorIx) (s : State) : Result :=
  whenReady (s.pcieRuns d.val) s
    ((s.modDoor d.val fun x => { x with linkUp := true, lostSince := none, hostLost := false }))

/-- R389, R390: a ring is adopted, or the write is rejected. -/
def State.adopt (s : State) (d q : Nat) : State :=
  if !(s.sq q).open then s.orReg .doorErr d 8
  else
    let t := s.modSq q fun x => { x with owner := d, head := 0, tail := 0, limit := 0, enable := true }
    let mark (x : Completion) : Completion := if x.sq = q then { x with adopted := true } else x
    let t := { t with completions := t.completions.map mark }
    (t.modDoor d fun x => { x with hostLost := x.hostLost && !x.linkUp }).startRing q

def execDoorAdopt (who : Accessor) (d : DoorIx) (ring : Fin 1024) (s : State) : Result :=
  whenReady (doorWriter s who) s (s.adopt d.val ring.val)

/-! ## Configuration space (R369, R370, R456) -/

def State.pcieOf (s : State) (d : Nat) : PcieB := tgetD s.pcies d {}

/-- R369, R370: a dword of the configuration header. The subsystem IDs are the option block's; the capability pointer is free. -/
def State.configHeader (s : State) (d i : Nat) : Nat :=
  let p := s.pcieOf d
  match i with
  | 0 => 0x5209 * 2 ^ 16 + 0x1E9D
  | 1 => 2 ^ 20 + 2 * b2n p.memEnable
  | 2 => 0x120000 * 2 ^ 8 + 0xB0
  | 4 => p.bar0 / 2 ^ 28 % 16 * 2 ^ 28 + 4
  | 5 => p.bar0 / 2 ^ 32 % 2 ^ 32
  | 6 => p.bar2 / 2 ^ p.barLog2 * 2 ^ p.barLog2 % 2 ^ 32 + 0xC
  | 7 => p.bar2 / 2 ^ p.barLog2 * 2 ^ p.barLog2 / 2 ^ 32 % 2 ^ 32
  | 11 => s.optOr 0x1C 2 0 * 2 ^ 16 + s.optOr 0x1A 2 0
  | 13 => (Config.freeWord 0 (2000 + d)).toNat % 256
  | _ => 0

/-- A half of a 64-bit address register written. -/
def halfWrite (old : Nat) (high : Bool) (v : Nat) : Nat := if high then v * 2 ^ 32 + old % 2 ^ 32 else old / 2 ^ 32 * 2 ^ 32 + v

def PcieB.config (p : PcieB) : ConfigRequest → PcieB
  | .readHeader _ => p
  | .writeBar b v =>
    (match b.val with
      | 0 => { p with bar0 := halfWrite p.bar0 false v.toNat }
      | 1 => { p with bar0 := halfWrite p.bar0 true v.toNat }
      | 2 => { p with bar2 := halfWrite p.bar2 false v.toNat }
      | 3 => { p with bar2 := halfWrite p.bar2 true v.toNat }
      | _ => p)
  | .writeCommand v => { p with memEnable := bitOf v.toNat 1 }
  | .resizeBar n => if 30 ≤ n ∧ n ≤ 38 then { p with barLog2 := n } else p
  | .powerState d3 => { p with d3hot := d3 }

/-- R371, R388: what a configuration request does; D3hot counts as a loss of the host. -/
def State.configured (s : State) (d : Nat) (q : ConfigRequest) : State :=
  let t := { s with pcies := tset d ((s.pcieOf d).config q) s.pcies }
  match q with
  | .readHeader i => { t with sent := t.sent ++ [.pcie d 0 (toBytes 4 (s.configHeader d i.val)) false] }
  | .powerState d3 =>
    let u := { t with sent := t.sent ++ [Sent.pcie d 0 [] false] }
    u.modDoor d fun x => { x with lostSince := if d3 then (if x.hostLost then none else some (x.lostSince.getD s.now))
      else if x.linkUp then none else x.lostSince }
  | _ => { t with sent := t.sent ++ [.pcie d 0 [] false] }

/-- R456: until phase 3 ends, a configuration request is answered with Request Retry Status. -/
def State.configReady (s : State) : Bool := decide (4 ≤ s.boot.phase) || s.boot.state != 0

def execConfigRequest (d : DoorIx) (q : ConfigRequest) (s : State) : Result :=
  whenReady (s.door d.val).linkUp s
    (if s.configReady then s.configured d.val q else { s with sent := s.sent ++ [Sent.pcie d.val 2 [] false] })

end Sys2Proof.Machine
end

