-- ==== Sys2Proof/Machine/Live.lean ====
section
/-! DEFINITION. Commands of the study and live service: MGMT answers, the mailbox, drains, readmission, firmware, handover and
settings (R386, R414, R318, R441, R477, R483–R497, R530, R531). -/
namespace Sys2Proof.Machine

/-! ## Answers (R386, R531) -/

/-- R531: a response is written to the mailbox, with the other PHASE. -/
def State.mailboxAnswer (s : State) (opcode status : Nat) (tag : W64) (d0 d1 : Nat) : State :=
  let m := s.mailboxStudy
  let phase := 1 - wordN m.rsp 1 % 2
  let final := status != 0x20
  { s with mailboxStudy := { m with
    rsp := [tag, BitVec.ofNat 64 (opcode * 2 ^ 24 + status * 2 ^ 16 + 0x3FE * 64 + phase), BitVec.ofNat 64 d0, BitVec.ofNat 64 d1]
    done := true, final := final, busy := m.busy && !final } }

def State.dropCmd (s : State) (id : Nat) : State := s.modLive fun l => { l with cmds := l.cmds.filter fun x => x.id != id }

/-- R386: the first answer to a command; with ACCEPTED the study keeps it, behind those that it has accepted before. -/
def State.mgmtAnswer (s : State) (c : MgmtCmd) (status d0 d1 : Nat) : State :=
  let t := if c.ring then s.complete c.id status d0 d1 else s.mailboxAnswer 0x10 status c.tag d0 d1
  let u := t.dropCmd c.id
  if status = 0x20 then u.addCmd { c with accepted := true } else u

/-- R386: the study holds 8 accepted commands. -/
def State.studyFull (s : State) : Bool := decide (8 ≤ (s.live.cmds.filter (·.accepted)).length)

/-- R483: the room, or the wing, that a command names. -/
def MgmtCmd.target (c : MgmtCmd) : Option (Bool × Nat) :=
  match c.code with
  | 1 | 2 | 5 => some (false, c.args.getD 0 0)
  | 3 | 4 => some (true, c.args.getD 0 0)
  | _ => none

def targetsClash : Option (Bool × Nat) → Option (Bool × Nat) → Bool
  | some (a, x), some (b, y) => if a == b then x == y else if a then y / 32 == x else x / 32 == y
  | _, _ => false

/-- R483: an earlier accepted command names the same room or wing. -/
def State.clash (s : State) (c : MgmtCmd) : Bool :=
  (s.live.cmds.takeWhile fun x => x.id != c.id).any fun x => x.accepted && targetsClash x.target c.target

/-- R493, R513: the study answers: it runs, and no handover is on. -/
def State.studyAnswers (s : State) : Bool := s.live.handover.isNone && !s.test.halted.contains (24608 + 2 * s.boot.activeDoor)

/-- The study takes a command with this code that it has not begun. -/
def mgmtRun (code id : Nat) (s : State) (f : MgmtCmd → State) : Result :=
  match s.live.cmds.find? fun c => c.id == id && c.code == code && !c.begun with
  | none => .next s
  | some c => whenReady s.studyAnswers s (f c)

def State.beginCmd (s : State) (c : MgmtCmd) : State :=
  s.modLive fun l => { l with cmds := l.cmds.map fun x => if x.id = c.id then { x with begun := true, since := s.now } else x }

/-- R386, R483: a command on a room or wing: checked, accepted, and begun when no other stands before it and it can. -/
def State.serviceCmd (s : State) (c : MgmtCmd) (check : Option Nat) (can : Bool) (start : State → State) : State :=
  let go (t : State) : State := if t.clash c || !can then t else start (t.beginCmd c)
  if c.accepted then go s
  else match check with
    | some st => s.mgmtAnswer c st 0 0
    | none => if s.studyFull then s.mgmtAnswer c 0x15 0 0 else go (s.mgmtAnswer c 0x20 0 0)

def MgmtCmd.arg (c : MgmtCmd) (j : Nat) : Nat := c.args.getD j 0

/-! ## Buffers (R386, R531) -/

def State.bufPlace (s : State) (c : MgmtCmd) (n : Nat) : Place := if c.ring then .host c.door c.buf else s.place c.buf n

/-- Bytes written to BUF, at most BUF_LEN of them. -/
def State.bufWrite (s : State) (c : MgmtCmd) (l : List Byte) : State :=
  let l := l.take c.bufLen
  if s.writeCode (s.bufPlace c l.length) l = 0 then s.memWrite (s.bufPlace c l.length) l else s

/-- BUF_LEN bytes of BUF; none where the read fails. -/
def State.bufRead (s : State) (c : MgmtCmd) : Option (List Byte) :=
  match s.memRead (s.bufPlace c c.bufLen) c.bufLen with
  | .data l => some l
  | _ => none

/-! ## Drains (R484, R485, R487) -/

/-- R484: the room is shown DRAINED, with its record and its message. -/
def State.markDrain (s : State) (r : Nat) : State :=
  ((s.modRoom r fun x => { x with phase := .draining, cond := { x.cond with state := 2, reason := 0x70 } }).postRoom 0x70 r 0).mail r 1 0 s.now

def State.drainCheck (s : State) (r : Nat) : Option Nat :=
  if 768 ≤ r then some 0x11 else if (s.room r).cond.state = 2 then some 0 else if 3 ≤ (s.room r).cond.state then some 0x11 else none

/-- R485: the drain starts; that of a room whose stop has ended meanwhile is over. -/
def State.drainStart (s : State) (r : Nat) : State :=
  if (s.room r).phase = .inService ∧ (s.room r).cond.state ≤ 1 then (s.markDrain r).updatePlan
  else s.drainEnds r (if (s.room r).cond.state = 2 then 0 else if (s.room r).cond.state = 6 then 2 else 0x14)

def execRoomDrain (id : Nat) (s : State) : Result :=
  mgmtRun 1 id s fun c => s.serviceCmd c (s.drainCheck (c.arg 0)) (!(s.room (c.arg 0)).drains) fun t => t.drainStart (c.arg 0)

/-- R484: the room is empty. -/
def State.roomEmpty (s : State) (r : Nat) : Bool :=
  (s.harts.all fun p => p.1 / 32 != r || p.2.idle) && (s.array r).queue.isEmpty && (s.array r).stages.isEmpty && (s.avu r).queue.isEmpty &&
  (s.tree r).queue.isEmpty && ((List.range 8).all fun c => (s.dw (r * 8 + c)).queue.isEmpty) && (s.coll r).isEmpty

/-- R484, R485: the Empty phase ends: the room is empty, or a stop or a fault has taken it. -/
def execDrainEmpty (r : RoomIx) (s : State) : Result :=
  let x := s.room r.val
  let t := s.setPhase r.val .inService
  if x.phase = .draining then whenReady (s.roomEmpty r.val) s (t.drainEnds r.val 0)
  else whenReady (!x.drains && decide (4 ≤ x.cond.state)) s (s.drainEnds r.val (if x.cond.state = 6 then 2 else 0x14))

/-- R484: DRAIN_TMO passes: the room is reset and left DRAINED. -/
def execDrainForce (r : RoomIx) (s : State) : Result :=
  let since := (((s.accepted 1 r.val).orElse fun _ => s.accepted 3 (r.val / 32)).map (·.since)).getD s.now
  whenReady ((s.room r.val).phase == .draining) s ((s.reach (since + max 1 s.live.drainTmo * 1000000)).startReset r.val .drained)

def State.wingDrainStart (s : State) (w : Nat) : State :=
  let one (t : State) (r : Nat) : State :=
    if (t.room r).phase = .inService ∧ (t.room r).cond.state ≤ 1 then t.markDrain r else t
  let t := ((wingRooms w).foldl one (s.modWing w fun x => { x with state := 1 })).updatePlan
  t.wingPart 3 w 0 Room.drains 2

def execWingDrain (id : Nat) (s : State) : Result :=
  mgmtRun 3 id s fun c =>
    s.serviceCmd c (if 24 ≤ c.arg 0 ∨ (s.wing (c.arg 0)).state = 2 then some 0x11 else none) true fun t => t.wingDrainStart (c.arg 0)

/-! ## Readmission (R486, R487) -/

def State.readmitCheck (s : State) (r : Nat) : Option Nat :=
  let c := (s.room r).cond
  if 768 ≤ r then some 0x11
  else if s.unpowered then some 0x14
  else if c.state ≤ 1 then some 0
  else if c.state = 2 ∨ c.state = 4 ∨ (c.state = 6 ∧ (s.rtherm r).readmissible = true) ∨ (c.state = 5 ∧ s.goodBanks r ≠ 0) then none
  else some 0x11

def execRoomReadmit (id : Nat) (s : State) : Result :=
  mgmtRun 2 id s fun c => s.serviceCmd c (s.readmitCheck (c.arg 0)) (!(s.room (c.arg 0)).drains) fun t => t.startReset (c.arg 0) .readmit

/-- R486, R487: a room is being readmitted. -/
def Room.readmits (x : Room) : Bool :=
  match x.phase with | .readmitReset | .readmitTrain | .readmitBoot | .readmitResync | .readmitPublish => true | _ => false

/-- R486, R487: the readmission of a room has ended. What a wing's ends with when a room of it has failed is not said. -/
def State.readmitEnds (s : State) (r status : Nat) : State :=
  match s.accepted 2 r with
  | some c => s.mgmtEnd c status
  | none => s.wingPart 4 (r / 32) status Room.readmits ((Config.freeWord s.free 2100).toNat % 256)

/-- R486: training or the boot test has failed. -/
def State.readmitFails (s : State) (r cause : Nat) : State :=
  ((s.modRoom r fun x => { x with phase := .stopped, cond := { x.cond with state := 4, reason := cause } }).readmitEnds r 0x14).updatePlan

/-- R486: the stair is trained, and the room boot code starts; the room's state stays as it was shown until Publish. -/
def State.readmitTrain (s : State) (r : Nat) (failed banks : List Nat) : State :=
  let t := s.trainRoom r failed banks
  match t.trainedState r with
  | 4 => t.readmitFails r 0x14
  | 5 => (((t.showTrained r).setPhase r .stopped).readmitEnds r 0x14).updatePlan
  | _ => t.releaseRoom r .readmitBoot

/-- R487: a wing that is readmitted has a module that works again. -/
def State.wingLinked (s : State) (w : Nat) : Bool :=
  (s.accepted 4 w).isNone || (List.range 16).any fun m => (s.module (w * 16 + m)).state == 2

def execReadmitTrain (r : RoomIx) (found : StairResult) (s : State) : Result :=
  whenReady ((s.room r.val).phase == .readmitTrain && s.wingLinked (r.val / 32) && found.failed.all fun l => decide (l < 2304)) s
    (s.readmitTrain r.val found.failed found.banks)

def execReadmitBoot (r : RoomIx) (s : State) : Result :=
  match (s.room r.val).phase, (s.room r.val).bootReport with
  | .readmitBoot, some n =>
    .next (if n = 0 then s.setPhase r.val .readmitResync
      else ((s.readmitFails r.val 0x15).postRoom 0x15 r.val (s.regN .wingBootResult r.val)))
  | _, _ => .next s

/-- R486: the regulation block and the clock target, under a start grant. -/
def execReadmitResync (r : RoomIx) (s : State) : Result :=
  whenReady ((s.room r.val).phase == .readmitResync && s.granted .roomStart r.val) s
    ((((s.useGrant .roomStart r.val).applyRegs r.val).modRpow r.val fun p => { p with mhz := s.commonMhz }).setPhase r.val .readmitPublish)

/-- R486, R533: the floor plan shows the room in service, with its message. -/
def State.readmitPublish (s : State) (r : Nat) : State :=
  let half := (s.attic r).half
  let t := s.modRoom r fun x => { x with
    phase := .inService, marked := false, cond := { x.cond with state := b2n half, reason := if half then 0x12 else 0 } }
  let t := t.modRtherm r fun x => { x with coolSince := none, readmissible := false, stopReason := 0 }
  ((t.updatePlan.mail r 5 (t.room r).cond.epoch s.now).readmitEnds r 0)

def execReadmitPublish (r : RoomIx) (s : State) : Result :=
  whenReady ((s.room r.val).phase == .readmitPublish) s (s.readmitPublish r.val)

def execWingReadmit (id : Nat) (s : State) : Result :=
  mgmtRun 4 id s fun c =>
    s.serviceCmd c (if 24 ≤ c.arg 0 then some 0x11 else if s.unpowered then some 0x14 else if (s.wing (c.arg 0)).state = 0 then some 0x11 else none)
      (s.blockReset (768 + c.arg 0)).isNone fun t => t.startReset (768 + c.arg 0) .wingReadmit

/-- R441: the room is shown DRAINED and reset; a room that was fused off, or whose banks are all retired, cannot be (DEDUCED). -/
def State.roomReset (s : State) (r : Nat) : State :=
  let t := s.modRoom r fun x => { x with cond := { x.cond with state := 2, reason := 0x70 } }
  t.updatePlan.startReset r .test

def execRoomReset (id : Nat) (s : State) : Result :=
  mgmtRun 5 id s fun c =>
    let x := s.room (c.arg 0)
    s.serviceCmd c (if 768 ≤ c.arg 0 then some 0x11 else if s.unpowered then some 0x14
        else if x.cond.state = 3 ∨ (x.cond.state = 5 ∧ s.goodBanks (c.arg 0) = 0) then some 0x11 else none)
      (!x.drains) fun t => t.roomReset (c.arg 0)

/-! ## Firmware (R488–R492) -/

/-- R489: the slot of a KIND that a stage writes. -/
def State.stageSlot (s : State) (kind : Nat) : Option DirEntry := (s.slotsOf kind).find? (·.state != 1)
/-- R490: the TRIAL slot of a KIND. -/
def State.trialSlot (s : State) (kind : Nat) : Option DirEntry := (s.slotsOf kind).find? (·.state == 2)

/-- R451: a staged image verifies. -/
def stagedGood (e : DirEntry) (img : List Byte) : Bool :=
  decide (0 < img.length ∧ img.length ≤ 0x800000 ∧ e.off + img.length ≤ 0x2000000) && decide (Config.minSvn e.kind ≤ Config.imageSvn img) &&
  Config.imageSigned e.kind img

/-- R489: an image is written to its slot and verified: TRIAL with OK, or FAILED with DEVICE_ERROR. -/
def State.stage (s : State) (kind : Nat) (img : List Byte) : State × Nat :=
  match s.stageSlot kind with
  | none => (s, 0x14)
  | some e =>
    let good := stagedGood e img
    let t := s.flashWrite s.optFlash e.off img
    let o := 32 * e.index
    let d := putAt (putAt (putAt (putAt t.directory (o + 2) 1 (if good then 2 else 3)) (o + 4) 4 (Config.imageVersion img)) (o + 12) 4 img.length)
      (o + 16) 4 (Config.imageSvn img)
    (t.writeDirectory d, if good then 0 else 0x14)

def fwKind (k : Nat) : Bool := decide (1 ≤ k ∧ k ≤ 5)

/-- An accepted command that the study carries out at once. -/
def State.acceptAnd (s : State) (c : MgmtCmd) (f : State → State × Nat) : State :=
  if s.studyFull then s.mgmtAnswer c 0x15 0 0
  else
    let p := f (s.mgmtAnswer c 0x20 0 0)
    p.1.mgmtEnd c p.2

def execFwStage (id : Nat) (s : State) : Result :=
  mgmtRun 0x30 id s fun c =>
    if !fwKind (c.arg 0) || (tget (c.arg 0) s.live.trials).isSome || decide (c.bufLen = 0 ∨ 0x800000 < c.bufLen) then s.mgmtAnswer c 0x11 0 0
    else match s.bufRead c with
      | none => s.mgmtAnswer c 0x13 0 0
      | some img => s.acceptAnd c fun t => t.stage (c.arg 0) img

def State.hasStandby (s : State) (kind : Nat) : Bool := if kind = 1 then s.live.standby else if kind = 2 then s.live.hearthStandby else true

/-- R491, R492: the trial of a KIND begins: its slot runs. -/
def State.beginTrial (s : State) (kind : Nat) : State :=
  match s.trialSlot kind with
  | none => s
  | some e => s.modLive fun l => { l with trials := tset kind ⟨s.now, e.slot⟩ l.trials, running := tset kind e.slot l.running }

/-- R497: what a revert of the study leaves of the settings: those of the store. -/
def State.restoreSettings (s : State) : State :=
  match s.bestCopy with
  | some i =>
    let l := s.settingsCopy i
    if numAt l 4 2 = 1 then
      (s.modLive fun x => { x with settings := settingEntries 8192 ((l.drop 0x20).take (numAt l 0x0C 4)), defaults := false }).applySettings
    else s
  | none => s

/-- R490: the trial of a KIND ends with its slot in a STATE: the committed image runs. -/
def State.stopTrial (s : State) (kind state : Nat) : State :=
  let t := s.endTrial kind state
  if kind = 1 then t.restoreSettings
  else if kind = 4 then (match t.bootEntry 4 with | some e => t.modBoot fun b => { b with bootCode := t.imageBytes e.off e.len } | none => t) else t

/-- R491: the controllers that restart, one after the other. -/
def State.restartList (s : State) (kind : Nat) : List Nat :=
  if kind = 3 then (List.range 24).filter fun w => (s.wing w).state != 2 else (List.range 8).filter s.porchUp

def State.restartAll (s : State) (kind : Nat) : State :=
  s.modLive fun l => { l with restarts := l.restarts.filter (·.1 != kind) ++ [(kind, s.restartList kind)] }

def State.freeze (s : State) (kind purpose : Nat) : State := s.modLive fun l => { l with handover := some (.freeze, kind, purpose) }

/-- R490, R491: the trial image of a KIND runs live. -/
def State.activateKind (s : State) (kind : Nat) : State :=
  match kind with
  | 1 | 2 => s.freeze kind 0
  | 4 =>
    let u := match s.trialSlot 4 with | some e => s.modBoot fun b => { b with bootCode := s.imageBytes e.off e.len } | none => s
    u.beginTrial 4
  | k => (s.beginTrial k).restartAll k

def State.activate (s : State) (c : MgmtCmd) (kind : Nat) : State :=
  let t := (s.beginCmd c).activateKind kind
  if kind = 4 then t.mgmtEnd c 0 else t

/-- R490, R494: an action of FW_ACTIVATE is refused, or accepted and carried out. -/
def State.fwAction (s : State) (c : MgmtCmd) (ok : Bool) (f : State → State) : State :=
  if !fwKind (c.arg 0) || !ok then s.mgmtAnswer c 0x11 0 0
  else if !s.hasStandby (c.arg 0) then s.mgmtAnswer c 0x14 0 0
  else if s.studyFull then s.mgmtAnswer c 0x15 0 0
  else f (s.mgmtAnswer c 0x20 0 0)

def State.trialRuns (s : State) (kind : Nat) : Bool := (tget kind s.live.trials).isSome

/-- R490: FW_ACTIVATE with any action but COMMIT and REVERT. -/
def execFwActivate (id : Nat) (s : State) : Result :=
  mgmtRun 0x31 id s fun c =>
    if c.arg 1 = 1 ∨ c.arg 1 = 2 then s
    else s.fwAction c (c.arg 1 == 0 && (s.trialSlot (c.arg 0)).isSome && !s.trialRuns (c.arg 0)) fun t => t.activate c (c.arg 0)

/-- R490, R496: COMMIT. -/
def State.commitTrial (s : State) (kind : Nat) : State :=
  match tget kind s.live.trials with
  | none => s
  | some x =>
    let t := (s.setSlot kind (s.committed kind) 2).setSlot kind x.slot 1
    let t := t.modLive fun l => { l with trials := tdel kind l.trials, defaults := l.defaults && kind != 1 }
    (if t.live.defaults || t.trialRuns 1 then t else t.writeSettings).applySettings

def execFwCommit (id : Nat) (s : State) : Result :=
  mgmtRun 0x31 id s fun c =>
    if c.arg 1 ≠ 1 then s
    else s.fwAction c (s.trialRuns (c.arg 0)) fun t => (t.commitTrial (c.arg 0)).mgmtEnd c 0

/-- R490, R491: REVERT. -/
def State.revert (s : State) (c : MgmtCmd) (kind : Nat) : State :=
  let t := s.beginCmd c
  match kind with
  | 1 | 2 => t.freeze kind 1
  | 4 => (t.stopTrial 4 2).mgmtEnd c 0
  | k => (t.stopTrial k 2).restartAll k

def execFwRevert (id : Nat) (s : State) : Result :=
  mgmtRun 0x31 id s fun c =>
    if c.arg 1 ≠ 2 then s else s.fwAction c (s.trialRuns (c.arg 0)) fun t => t.revert c (c.arg 0)

/-- R492: TRIAL_TMO passes: the trial reverts by itself, its slot FAILED. -/
def State.autoRevert (s : State) (kind : Nat) : State :=
  match kind with
  | 1 | 2 => s.freeze kind 2
  | 4 => s.stopTrial 4 3
  | k => (s.stopTrial k 3).restartAll k

def execFwTrialTimeout (kind : Fin 6) (s : State) : Result :=
  match tget kind.val s.live.trials with
  | some x =>
    whenReady (s.live.trialTmo != 0 && s.live.handover.isNone) s ((s.reach (x.since + s.live.trialTmo * 1000000000)).autoRevert kind.val)
  | none => .next s

/-- R491: the next controller has restarted; the command ends with the last one. -/
def execWingControllerRestart (s : State) : Result :=
  match s.live.restarts with
  | (kind, _ :: l) :: t =>
    let u := (s.reach (s.now + 5000000)).modLive fun x => { x with restarts := if l.isEmpty then t else (kind, l) :: t }
    .next (if l.isEmpty then u.mgmtDone 0x31 kind 0 else u)
  | (kind, []) :: t => .next ((s.modLive fun x => { x with restarts := t }).mgmtDone 0x31 kind 0)
  | [] => .next s

/-! ## Handover (R493, R494) -/

def State.switchDoor (s : State) (kind : Nat) : State :=
  if kind = 1 then s.modBoot fun b => { b with activeDoor := 1 - b.activeDoor } else s.modLive fun l => { l with hearthDoor := 1 - l.hearthDoor }

def execHandoverTransfer (s : State) : Result :=
  match s.live.handover with
  | some (.freeze, k, p) => .next (s.modLive fun l => { l with handover := some (.transfer, k, p) })
  | _ => .next s

/-- R493: the standby is active. -/
def State.handoverSwitch (s : State) (kind purpose : Nat) : State :=
  let t := (s.switchDoor kind).modLive fun l => { l with handover := none }
  match purpose with
  | 0 => (t.beginTrial kind).mgmtDone 0x31 kind 0
  | 1 => (t.stopTrial kind 2).mgmtDone 0x31 kind 0
  | _ => t.stopTrial kind 3

def execHandoverSwitch (s : State) : Result :=
  match s.live.handover with
  | some (.transfer, k, p) => .next (s.handoverSwitch k p)
  | _ => .next s

/-- R494, R531: a standby takes over without Freeze; commands that the failed study had accepted end with DEVICE_ERROR. -/
def State.takeover (s : State) (kind : Nat) : State :=
  if !s.hasStandby kind then s
  else
    let t := (s.switchDoor kind).modLive fun l => { l with
      handover := (match l.handover with | some (p, k, q) => if k = kind then none else some (p, k, q) | none => none)
      standby := l.standby && kind != 1, hearthStandby := l.hearthStandby && kind != 2 }
    let t := if t.trialRuns kind then t.stopTrial kind 3 else t
    if kind = 1 then (t.live.cmds.filter (·.accepted)).foldl (fun t c => t.mgmtEnd c 0x14) t else t

def kindOf (hearth : Bool) : Nat := if hearth then 2 else 1
/-- R513: while the hearth is halted, its standby does not take over. -/
def State.mayTakeOver (s : State) (kind : Nat) : Bool :=
  s.hasStandby kind && !(kind == 2 && s.test.halted.contains (24609 + 2 * s.live.hearthDoor))

def execStandbyTakeover (hearth : Bool) (s : State) : Result := whenReady (s.mayTakeOver (kindOf hearth)) s (s.takeover (kindOf hearth))

/-- R492: a trial study or hearth misses its mirror heartbeat for 500 ms. -/
def execMirrorHeartbeatLoss (hearth : Bool) (s : State) : Result :=
  whenReady (s.trialRuns (kindOf hearth) && s.mayTakeOver (kindOf hearth)) s ((s.reach (s.now + 500000000)).takeover (kindOf hearth))

/-- R391, R494: a door die goes down: its rings, completions and events are lost, and its processors' standbys take over. -/
def State.doorDown (s : State) (d : Nat) : State :=
  let mine (q : Nat) : Bool := (s.sq q).owner == d
  let t := { s with
    completions := s.completions.filter fun x => !mine x.sq, descs := s.descs.filter fun x => !mine x.sq
    jobs := s.jobs.filter fun j => !(s.descs.any fun x => x.id == j.id && mine x.sq)
    sqs := s.sqs.filter fun p => p.2.owner != d, cqs := s.cqs.filter fun p => p.2.owner != d
    dws := s.dws.filter fun p => !(isDoorChan p.1 && chanDoor p.1 == d) }
  let t := { t with doors := tset d { down := true } t.doors, pcies := tdel d t.pcies }.resetRegs fun n i => n.row.block == RegBlock.door && i / n.row.count == d
  let t := (t.modLive fun l => { l with
    strongDoor := if l.strongDoor = d then 1 - d else l.strongDoor
    standby := l.standby && t.boot.activeDoor == d, hearthStandby := l.hearthStandby && l.hearthDoor == d })
  let t := if t.boot.activeDoor = d then t.takeover 1 else t
  let t := (if t.live.hearthDoor = d then t.takeover 2 else t).resetModules (104 + d)
  (t.doorEvent (1 - d) ⟨0xA, d, (Config.freeWord s.free 2200).toNat⟩).bump.updatePlan

def execDoorDown (d : DoorIx) (s : State) : Result := whenReady (!(s.door d.val).down) s (s.doorDown d.val)

/-! ## Dies that are hot (R414) -/

/-- R414: a stop of a wing, porch or door takes that die down. -/
def State.dieStop (s : State) (d : Nat) : State :=
  if d < 24 then ((s.wingDown d 0x21).resetModules d).updatePlan
  else if d < 104 then ((s.porchLinksDown (d - 96)).resetModules d).updatePlan
  else if (s.door (d - 104)).down then s else s.doorDown (d - 104)

/-- R414: the samples of a wing, porch or door die. -/
def State.dieSample (s : State) (d : Nat) (l : List Int) : State :=
  let old := (s.dtherm d).band
  let t := s.modDtherm d fun x => { x with temps := l }
  let b := bandAt logicBounds old (t.dtherm d).max
  let t := t.modDtherm d fun x => { x with band := b }
  let t := if b = old then t else t.thermal ⟨dieThermKind d, b, (t.dtherm d).max, 0xFF, d⟩ 0
  if 2 ≤ b ∧ old < 2 then t.dieStop d else t

def execSensorSample (place : SensorPlace) (values : List Int) (s : State) : Result :=
  let t := s.reach ((s.now / 10000 + 1) * 10000)
  match place, values with
  | .room r, [a, b] => .next (t.floorSample r.val a b)
  | .attic r, [a, b, c] => .next (t.atticSample r.val a b c)
  | .wing w, [a, b, c, d] => .next (t.dieSample w.val [a, b, c, d])
  | .porch p, [a, b] => .next (t.dieSample (96 + p.val) [a, b])
  | .door d, [a, b] => .next (t.dieSample (104 + d.val) [a, b])
  | _, _ => .next s

/-! ## Capabilities (R318) -/

/-- R318: a die without what its kind needs is down. -/
def State.dieUnfit (s : State) (d : Nat) : State :=
  let t := s.modDie d fun x => { x with unfit := true }
  if d < 24 then t.wingDown d 0x40
  else if d < 104 then t.porchLinksDown (d - 96)
  else t.doorDown (d - 104)

/-- R315: an LCTL message whose ADDR names a kind other than CAP changes nothing here. -/
def execLctlCap (die : DieIx) (m : Fin 16) (msg : LctlMessage) (s : State) : Result :=
  moduleRun die m s (fun x => x.state == 1 && x.phase == 3) fun k p =>
    match lctlOf msg.addr msg.payload with
    | .cap l =>
      let t := s.takeCap k p (capOf l)
      if capUnfit (capOf l) then t.dieUnfit (p / 16) else t
    | _ => s

/-! ## Settings (R495–R497) -/

/-- R497: one copy, header and entries. -/
def State.settingsBytes (s : State) : List Byte :=
  match s.bestCopy with
  | some i => (s.settingsCopy i).take (0x20 + numAt (s.settingsCopy i) 0x0C 4)
  | none => settingsImage 0 0 s.now s.live.settings

def execSettingsRead (id : Nat) (s : State) : Result :=
  mgmtRun 0x32 id s fun c => (s.bufWrite c s.settingsBytes).mgmtAnswer c 0 0 0

/-- R497: each KEY present replaces the stored value, and takes effect at once. -/
def State.writeSettingsFrom (s : State) (l : List Byte) : State :=
  (settingEntries 8192 ((l.drop 0x20).take (numAt l 0x0C 4))).foldl
    (fun t p => (t.modLive fun x => { x with settings := tset p.1 p.2 x.settings }).applySetting p.1 p.2) s

def execSettingsWrite (id : Nat) (s : State) : Result :=
  mgmtRun 0x33 id s fun c =>
    if c.bufLen < 32 then s.mgmtAnswer c 0x11 0 0
    else match s.bufRead c with
      | none => s.mgmtAnswer c 0x13 0 0
      | some l =>
        if !copyGood l || decide (c.bufLen < 0x20 + numAt l 0x0C 4) then s.mgmtAnswer c 0x11 0 0
        else
          let t := s.writeSettingsFrom l
          let held := t.trialRuns 1 || t.live.defaults
          (if held then t else t.writeSettings).mgmtAnswer c 0 (b2n held) 0

/-! ## Registers (R502) -/

def State.liveCfg (s : State) : Nat := s.live.trialTmo * 2 ^ 32 + s.live.drainTmo * 2 ^ 16
def State.liveCfgWrite (s : State) (v : Nat) : State := s.modLive fun l => { l with trialTmo := fld v 47 32, drainTmo := fld v 31 16 }

/-- R502: RUN_k. -/
def State.runCode (s : State) (k : Nat) : Nat :=
  if (match s.live.handover with | some (_, j, _) => j == k | none => false) || s.live.restarts.any (·.1 == k) then 2 else b2n (s.trialRuns k)

/-! ## The mailbox (R530, R531) -/

/-- R531: a BUF that a mailbox command may name. -/
def State.mailboxBuf (s : State) (pa : Nat) : Bool :=
  let ty := paType pa
  decide (6 ≤ ty) || ((ty == 0 || ty == 2) && (bitOf pa 55 || fld pa 51 38 == s.devId.toNat))

/-- R531: GO. -/
def State.mailboxStart (s : State) : State :=
  let m := s.mailboxStudy
  if m.busy then { s with mailboxStudy := { m with overrun := true } }
  else
    let t := { s with mailboxStudy := { m with busy := true, done := false, final := false } }
    let w := m.req
    let answer (st : Nat) : State := t.mailboxAnswer (fld (wordN w 0) 7 0) st (w.getD 1 0) 0 0
    if fld (wordN w 0) 7 0 ≠ 0x10 then answer 0x10
    else if mgmtFields w = false then answer 0x11
    else if wordN w 6 ≠ 0 ∧ s.mailboxBuf (wordN w 6) = false then answer 0x12
    else { t with nextDesc := t.nextDesc + 1 }.addCmd (mgmtCmd t.nextDesc false 0 w s.now)

def execMailboxGo (who : Accessor) (s : State) : Result :=
  whenReady (match who with | .hart _ => regWriter s 888 who | .host _ => true | .processor => false) s s.mailboxStart

/-- R531: the final status of an accepted command. -/
def execMailboxFinal (s : State) : Result :=
  match s.mailboxStudy.due with
  | some st =>
    .next ({ s with mailboxStudy := { s.mailboxStudy with due := none } }.mailboxAnswer 0x10 st (s.mailboxStudy.rsp.getD 0 0) 0 0)
  | none => .next s

end Sys2Proof.Machine
end

