-- ==== Sys2Proof/Machine/Service.lean ====
section
/-! DEFINITION. Retirement, scrubbing, word remap and the other commands of the study (R364, R386, R406, R436, R464, R468, R469,
R475–R477, R481, R498). -/
namespace Sys2Proof.Machine

/-! ## Addresses (R475, R468) -/

/-- R91: an address of this device whose TYPE is at most a limit: its room, TYPE and offset. -/
def State.localRange (s : State) (pa limit : Nat) : Option (Nat × Nat × Nat) :=
  if fld pa 63 56 = 0 ∧ (bitOf pa 55 ∨ fld pa 51 38 = s.devId.toNat) ∧ paType pa ≤ limit ∧ fld pa 37 33 < 24
  then some (fld pa 37 33 * 32 + fld pa 32 28, paType pa, paOffset pa) else none

/-- R55, R158: bytes of the space of a TYPE. -/
def spaceSize (type : Nat) : Nat := if type = 2 then pantrySize else atticSize

/-! ## Retirement (R475, R476) -/

/-- R475: a page is listed, with its record. -/
def State.retirePage (s : State) (page : Nat) : State :=
  let t := { s with flashLogs := { s.flashLogs with pages := s.flashLogs.pages ++ [page] } }
  t.post { roomRecord t 0x0F (fld page 37 33 * 32 + fld page 32 28) page with flags := 5 }

/-- R475: the page of an address, with LOCAL = 1. -/
def pageOf (type room off : Nat) : Nat := localPa type room off / 0x10000 * 0x10000

def execPageRetire (id : Nat) (s : State) : Result :=
  mgmtRun 0x10 id s fun c =>
    match s.localRange (c.arg 0) 1 with
    | none => s.mgmtAnswer c 0x11 0 0
    | some (r, ty, o) =>
      if atticSize ≤ o then s.mgmtAnswer c 0x11 0 0
      else if s.flashLogs.pages.contains (pageOf ty r o) then s.mgmtAnswer c 0 0 0
      else if 4096 ≤ s.flashLogs.pages.length then s.mgmtAnswer c 0x14 0 0
      else (s.retirePage (pageOf ty r o)).mgmtAnswer c 0 0 0

/-- R475: an entry of the retired-page table. -/
def State.pageEntry (s : State) (i : Nat) : Nat :=
  match s.flashLogs.pages[i]? with
  | some p => 2 ^ 63 + fld p 55 16 * 65536
  | none => 0

/-- R476: a bank's bit of BANK_MAP is 0; a room without a bank is DISABLED_FIELD. -/
def State.retireBank (s : State) (r b : Nat) : State :=
  if s.flashLogs.banks.contains (r, b) then s
  else
    let t := { s with flashLogs := { s.flashLogs with banks := s.flashLogs.banks ++ [(r, b)] } }
    let t := t.modRoom r fun x =>
      let m := if bitOf x.cond.bankMap b then x.cond.bankMap - 2 ^ b else x.cond.bankMap
      { x with cond := { x.cond with
        bankMap := m, state := if m = 0 ∧ x.cond.state ≠ 3 then 5 else x.cond.state
        reason := if m = 0 ∧ x.cond.state ≠ 3 then 0x10 else x.cond.reason } }
    (t.post { roomRecord t 0x10 r 0 with flags := 3, bank := b }).updatePlan

/-- R206, R476: the retirement waits while a running command names the bank. -/
def State.bankBusy (s : State) (r b : Nat) : Bool :=
  (s.avu r).queue.any fun c => c.dispatched && c.status == 0 && c.banks.contains b

def execBankRetire (id : Nat) (s : State) : Result :=
  mgmtRun 0x11 id s fun c =>
    if 768 ≤ c.arg 0 ∨ 48 ≤ c.arg 1 then s.mgmtAnswer c 0x11 0 0
    else if s.bankBusy (c.arg 0) (c.arg 1) then s
    else (s.retireBank (c.arg 0) (c.arg 1)).mgmtAnswer c 0 0 0

/-! ## Scrubbing (R468, R469) -/

/-- R468: the range of a scrub. -/
def State.scrubOf (s : State) (c : MgmtCmd) : Option ScrubB :=
  match s.localRange (c.arg 0) 2 with
  | none => none
  | some (r, ty, o) =>
    let n := c.arg 1
    if o % 256 = 0 ∧ n % 256 = 0 ∧ n ≠ 0 ∧ o + n ≤ spaceSize ty ∧ 64 ≤ c.bufLen
    then some { cmd := c.id, room := r, banked := ty == 1, pantry := ty == 2, start := o, length := n } else none

def State.setScrubs (s : State) (l : List ScrubB) : State := s.modLive fun x => { x with scrubs := l }

def execMgmtScrub (id : Nat) (s : State) : Result :=
  mgmtRun 0x12 id s fun c =>
    if c.accepted then s
    else match s.scrubOf c with
      | none => s.mgmtAnswer c 0x11 0 0
      | some x =>
        if s.studyFull then s.mgmtAnswer c 0x15 0 0
        else ((s.mgmtAnswer c 0x20 0 0).beginCmd c).setScrubs (s.live.scrubs ++ [x])

/-- The key of a word of a scrub's range. -/
def ScrubB.key (x : ScrubB) (o : Nat) : Nat := if x.pantry then pantryKey x.room o else atticKey x.room x.banked o
def ScrubB.pa (x : ScrubB) (o : Nat) : Nat := localPa (if x.pantry then 2 else b2n x.banked) x.room o

/-- R469: the summary, given ARG0. -/
def ScrubB.summary (x : ScrubB) (pa now : Nat) : List Byte :=
  toBytes 8 pa ++ toBytes 8 x.pos ++ toBytes 8 x.words ++ toBytes 4 x.ce ++ toBytes 4 x.ue ++ toBytes 4 x.poisoned ++
  toBytes 4 x.skipped ++ toBytes 8 x.firstUe ++ toBytes 2 x.repaired ++ toBytes 2 x.unrepaired ++ toBytes 4 0 ++ toBytes 8 now

/-- R468, R469: a scrub ends: its summary, then its status. -/
def State.endScrub (s : State) (x : ScrubB) (c : MgmtCmd) (status : Nat) : State :=
  (((s.setScrubs (s.live.scrubs.filter fun y => y.cmd != x.cmd)).bufWrite c (x.summary (c.arg 0) s.now)).mgmtEnd c status)

/-- R177, R465, R468: one word as the scrub finds it; poison stays as it is. -/
def State.scrubWord (s : State) (x : ScrubB) (words : List ScrubWord) (j : Nat) : State × ScrubB :=
  let o := x.start + x.pos + 8 * j
  let y := { x with words := x.words + 1 }
  if s.wordPoisoned (x.key o) then (s, { y with poisoned := y.poisoned + 1 })
  else match words.find? fun f => f.word.val == j with
    | none => (s, y)
    | some f =>
      if f.uncorrectable then
        let t := s.setPoison (x.key o) true
        (if x.pantry then t.post { roomRecord t 0x03 x.room (x.pa o) with flags := 5 } else t.atticError x.room 2 2 0x03 x.banked o 0xFFF,
          { y with ue := y.ue + 1, firstUe := if y.ue = 0 then x.pa o else y.firstUe })
      else
        (if x.pantry then s.post { roomRecord s 0x01 x.room (x.pa o) with flags := 5 } else s.atticCe x.room 0 0x01 x.banked o 0xFFF,
          { y with ce := y.ce + 1 })

/-- Soft repairs begun, and rows that cannot be repaired, as the records and repairs in progress show them. -/
def State.repairMarks (s : State) (r : Nat) : Nat × Nat :=
  ((s.attic r).repairing.length, (s.errInFlight.filter fun e => e.cause == 0x0D).length)

/-- R468: a granule is read, or skipped. Its latency for the TC7 statistics of R299 is free. -/
def State.scrubGranule (s : State) (x : ScrubB) (words : List ScrubWord) : State × ScrubB :=
  if !x.pantry && !s.banksUsable x.room x.banked (x.start + x.pos) 256 then (s, { x with skipped := x.skipped + 1, pos := x.pos + 256 })
  else
    let p := (List.range 32).foldl (fun (p : State × ScrubB) j => p.1.scrubWord p.2 words j) (s, x)
    let a := s.repairMarks x.room
    let b := p.1.repairMarks x.room
    let t := if x.pantry then p.1 else
      (p.1.modRegq (atticQ x.room) fun g => g.complete 7 ((Config.freeWord s.free 2320).toNat % 65536) 256).bump
    (t, { p.2 with pos := x.pos + 256, repaired := p.2.repaired + (b.1 - a.1), unrepaired := p.2.unrepaired + (b.2 - a.2) })

def State.scrubStep (s : State) (x : ScrubB) (c : MgmtCmd) (words : List ScrubWord) : State :=
  if 2 < (s.room x.room).cond.state then s.endScrub x c 0x14
  else
    let p := s.scrubGranule x words
    if p.2.pos = x.length then p.1.endScrub p.2 c 0
    else p.1.setScrubs (p.1.live.scrubs.map fun y => if y.cmd = x.cmd then p.2 else y)

/-- R163: the home of the next granule takes its request, as TC7, or the room no longer serves it. -/
def State.scrubRuns (s : State) (x : ScrubB) : Bool :=
  decide (2 < (s.room x.room).cond.state) ||
  s.homeRuns 7 (if x.pantry then .pantry x.room (x.start + x.pos) else .attic x.room x.banked (x.start + x.pos)) 256

def execScrubGranule (id : Nat) (words : List ScrubWord) (s : State) : Result :=
  match s.live.scrubs.find? (fun x => x.cmd == id), s.live.cmds.find? (fun c => c.id == id) with
  | some x, some c => whenReady (s.scrubRuns x) s (s.scrubStep x c words)
  | _, _ => .next s

/-! ## The log, links, absent devices, sensors and the cap -/

/-- R481: the records held from a device sequence onwards. -/
def State.logFrom (s : State) (seq : Nat) : List ErrRecord :=
  s.deviceLog.dropWhile fun e => decide (2 ^ 31 ≤ (e.seq + 2 ^ 32 - seq % 2 ^ 32) % 2 ^ 32)

/-- R481: the sequence of the oldest record held; while none is held it is not said. -/
def State.oldestSeq (s : State) : Nat :=
  match s.deviceLog with
  | e :: _ => e.seq
  | [] => (Config.freeWord s.free 2330).toNat

def execLogRead (id : Nat) (s : State) : Result :=
  mgmtRun 0x20 id s fun c =>
    let l := (s.logFrom (c.arg 0)).take (c.bufLen / 32)
    (s.bufWrite c (l.flatMap (·.bytes))).mgmtAnswer c 0 l.length s.oldestSeq

/-- R498: a recalibration of a link that is UP; the link ends it (R340, R339). -/
def execMgmtLinkRecal (id : Nat) (s : State) : Result :=
  mgmtRun 0x40 id s fun c =>
    if c.accepted then s
    else if 48 ≤ c.arg 0 ∨ (s.link (c.arg 0)).state ≠ 3 then s.mgmtAnswer c 0x11 0 0
    else if s.studyFull then s.mgmtAnswer c 0x15 0 0
    else ((s.mgmtAnswer c 0x20 0 0).beginCmd c).modLink (c.arg 0) fun x => { x with recalAsked := true, recalSoft := true }

/-- R364: as a write of FAB_ABSENT_CLR; a device ID has 14 bits. -/
def execAbsentClear (id : Nat) (s : State) : Result :=
  mgmtRun 0x41 id s fun c =>
    if 2 ^ 14 ≤ c.arg 0 then s.mgmtAnswer c 0x11 0 0 else (s.deviceBack (c.arg 0)).mgmtAnswer c 0 0 0

def execSensorRead (id : Nat) (s : State) : Result :=
  mgmtRun 0x50 id s fun c =>
    if c.bufLen < 6432 then s.mgmtAnswer c 0x11 0 0 else (s.bufWrite c s.sensorRecord).mgmtAnswer c 0 0 0

def execPowerCap (id : Nat) (s : State) : Result :=
  mgmtRun 0x51 id s fun c => (s.writeCap (c.arg 0)).mgmtAnswer c 0 0 0

/-! ## Word remap (R464, R477) -/

/-- R477: a memory's remap table, and the die it lies on. -/
def remapKey : RemapMemory → Nat
  | .strongroom d => d.val
  | .study d => 2 + d.val
  | .hearth d => 4 + d.val
  | .wingController w => 8 + w.val
  | .porchReplay l => 32 + l.val
  | .routingTable w => 96 + w.val

def remapDie : RemapMemory → Nat
  | .strongroom d | .study d | .hearth d => 104 + d.val
  | .wingController w | .routingTable w => w.val
  | .porchReplay l => 96 + l.val / 6

def State.remap (s : State) (k : Nat) : RemapB := tgetD s.remaps k {}
def State.modRemap (s : State) (k : Nat) (f : RemapB → RemapB) : State := { s with remaps := tset k (f (s.remap k)) s.remaps }

/-- R477: the flit of an uncorrectable word of a replay buffer is lost; where each flit lies in the buffer is not said. -/
def State.loseFlit (s : State) (l : Nat) : State :=
  (s.modLink l fun x => { x with held := x.held.eraseIdx ((Config.freeWord s.free 2310).toNat % max 1 x.held.length) }).bump

/-- R477: a word is remapped, with its record. -/
def State.remapWord (s : State) (m : RemapMemory) (off : Nat) (ue : Bool) : State :=
  let t := (s.modRemap (remapKey m) fun x => { x with words := x.words ++ [off], once := x.once.filter (· != off) }).postDie 0x0A (remapDie m) off
  match m with
  | .porchReplay l => if ue then t.loseFlit l.val else t
  | _ => t

/-- R477: an uncorrectable word after the table is full. -/
def State.remapFull (s : State) (m : RemapMemory) (off : Nat) : State :=
  let t := s.postDie 0x0B (remapDie m) off
  match m with
  | .strongroom d => if s.live.strongDoor = d.val then t.modLive fun l => { l with strongDoor := 1 - d.val } else t
  | .study d => if s.boot.activeDoor = d.val then t.takeover 1 else t.modLive fun l => { l with standby := false }
  | .hearth d => if s.live.hearthDoor = d.val then t.takeover 2 else t.modLive fun l => { l with hearthStandby := false }
  | .wingController w => t.startReset (768 + w.val) .wing
  | .porchReplay l => s.linkDown l.val 6
  | .routingTable w => s.modRemap (96 + w.val) fun x => { x with bad := x.bad ++ [off] }

/-- R464, R477: an error of a word of a privileged memory: recorded, and the word remapped on its second correctable error or its
first uncorrectable one, while the table has room. -/
def State.wordError (s : State) (m : RemapMemory) (off : Nat) (ue : Bool) : State :=
  let x := s.remap (remapKey m)
  let t := s.postDie (if ue then 0x08 else 0x07) (remapDie m) off
  if x.words.contains off then t
  else if ue || x.once.contains off then
    (if x.words.length < 8 then t.remapWord m off ue else if ue then t.remapFull m off else t)
  else t.modRemap (remapKey m) fun y => { y with once := y.once ++ [off] }

def execWordRemap (m : RemapMemory) (off : Nat) (uncorrectable : Bool) (s : State) : Result := .next (s.wordError m off uncorrectable)

end Sys2Proof.Machine
end

