-- ==== Sys2Proof/Machine/Protocols.lean ====
section
/-! DEFINITION. Management protocols: MCTP endpoints, PLDM and SPDM (R392, R393, R425, R452, R462, R490). The message codes of
SPDM are those of its own specification (PRESUMED). -/
namespace Sys2Proof.Machine

/-- R392, R460: the study, or the recovery monitor in its place, answers. -/
def State.managed (s : State) : Bool := (decide (5 ≤ s.boot.phase) || s.boot.state != 0) && s.boot.hold == .none && s.studyAnswers

/-- R392: the EID of a binding of a door. -/
def execSetEndpointId (d : DoorIx) (binding : Fin 3) (eid : Byte) (s : State) : Result :=
  whenReady s.managed s { s with test := { s.test with eids := tset (d.val * 3 + binding.val) eid.toNat s.test.eids } }

/-! ## PLDM (R393) -/

/-- R393, R460: base discovery: the types that are answered, as a bit map. -/
def execPldmBaseDiscovery (d : DoorIx) (binding : Fin 3) (s : State) : Result :=
  whenReady s.managed s (s.send (.mgmt 0 [d.val * 3 + binding.val, if s.boot.recovery then 0x21 else 0x25] []))

/-- R393, R413: a numeric sensor: the maximum of a room, wing, porch or door, or a layer of an attic, in °C; 0xFF where no sensor of
it is valid. -/
def State.placeReading (s : State) (p : SensorPlace) (i : Nat) : Nat :=
  let die (d : Nat) : Nat := let x := s.dtherm d; if x.temps.length ≤ x.invalid.length then 0xFF else tempByte x.max
  match p with
  | .room r => let x := s.rtherm r.val; if x.invalid.contains 0 && x.invalid.contains 1 then 0xFF else tempByte x.max
  | .attic r =>
    let a := s.attic r.val
    if i < 3 then (if a.bad.contains i then 0xFF else tempByte (a.layer i)) else if a.bad.length = 3 then 0xFF else tempByte a.temp
  | .wing w => die w.val
  | .porch p => die (96 + p.val)
  | .door d => die (104 + d.val)

def placeFields : SensorPlace → List Nat
  | .room r => [0, r.val]
  | .attic r => [1, r.val]
  | .wing w => [2, w.val]
  | .porch p => [3, p.val]
  | .door d => [4, d.val]

/-- R393, R406, R425: a sensor or effecter request is answered. -/
def State.pldmPlatform (s : State) : PldmPlatform → State
  | .readSensor p i => s.send (.mgmt 2 (placeFields p ++ [i.val, s.placeReading p i.val]) [])
  | .readPower => s.send (.mgmt 2 [5, s.power.powerW] [])
  | .setPowerCap w => (s.writeCap w).send (.mgmt 2 [6] [])
  | .setCooling flow inlet => (s.coolWrite (flow.toNat * 65536 + inlet.toNat)).send (.mgmt 2 [7] [])

def execPldmPlatform (q : PldmPlatform) (s : State) : Result := whenReady (s.managed && !s.boot.recovery) s (s.pldmPlatform q)

/-- R462, R489, R490: a step of a firmware update: the image staged, or the component activated; activation in vestibule mode, or in
the door-only state, makes a new start. -/
def State.pldmUpdate (s : State) : PldmUpdate → State
  | .stage k img =>
    if fwKind k && !s.trialRuns k then
      let p := s.stage k img
      p.1.send (.mgmt 5 [k, p.2] [])
    else s.send (.mgmt 5 [k, 0x11] [])
  | .activate k =>
    if s.boot.state = 2 ∨ s.boot.state = 3 then (s.send (.mgmt 5 [k, 0] [])).retry
    else if !fwKind k || (s.trialSlot k).isNone || s.trialRuns k then s.send (.mgmt 5 [k, 0x11] [])
    else if !s.hasStandby k then s.send (.mgmt 5 [k, 0x14] [])
    else (s.activateKind k).send (.mgmt 5 [k, 0] [])

def execPldmFirmwareUpdate (q : PldmUpdate) (s : State) : Result := whenReady s.managed s (s.pldmUpdate q)

/-! ## SPDM (R393, R452) -/

/-- R449: the strongroom runs. -/
def State.strongroomRuns (s : State) : Bool := (decide (4 ≤ s.boot.phase) || s.boot.state != 0) && s.boot.hold == .none

/-- The strongroom answers a request by its code. -/
def spdm (code : Nat) (fields : List Nat) (data : List Byte) (s : State) : Result :=
  whenReady s.strongroomRuns s (s.send (.mgmt (0x100 + code) fields data))

/-- R393: version 1.3. -/
def execGetVersion (s : State) : Result := spdm 0x84 [0x13] [] s
/-- R393: CTExponent 14; no key exchange, no mutual authentication. -/
def execGetCapabilities (s : State) : Result := spdm 0xE1 [14] [] s
/-- R393: ECDSA P-384 and SHA-384. -/
def execNegotiateAlgorithms (s : State) : Result := spdm 0xE3 [0x80, 0x02] [] s
def execGetDigests (s : State) : Result := spdm 0x81 [] (Config.digest 0 Config.certificate) s
def execGetCertificate (s : State) : Result := spdm 0x82 [] Config.certificate s
def execSpdmChallenge (nonce : List Byte) (s : State) : Result :=
  spdm 0x83 [] (Config.digest 0 Config.certificate ++ Config.sign (Config.digest 0 Config.certificate ++ nonce)) s

/-- R452: the measurements of an index; 0 asks for their number, 0xFF for all. -/
def State.measured (s : State) (index : Nat) : List Byte :=
  if index = 0 then []
  else if index = 0xFF then s.boot.measures.flatMap (·.2)
  else tgetD s.boot.measures index []

def execGetMeasurements (index : Byte) (nonce : List Byte) (s : State) : Result :=
  let l := s.measured index.toNat
  spdm 0xE0 [index.toNat, s.boot.measures.length] (l ++ Config.sign (l ++ nonce)) s

end Sys2Proof.Machine
end

