-- ==== Sys2Proof/Machine/Mmio.lean ====
section
/-! DEFINITION. Reads and writes of registers by address: the common rules (R525, R526), the maps of the three register spaces
(R527, R532, R534), and the registers with a behaviour of their own. -/
namespace Sys2Proof.Machine

/-- R525, R526: who accesses a register, as far as a register looks: a machine-mode hart or not, and which hart. -/
structure RegUser where
  machine : Bool
  hart : Option (Nat × Nat)
  deriving DecidableEq, Repr

/-- The row of a block that holds an offset: its register and its place in an array of registers. -/
def findRow (b : RegBlock) (off : Nat) : Option (RegName × Nat) :=
  (allRegs.find? fun n => n.row.block == b && decide (n.row.off ≤ off) && decide (off < n.row.off + n.row.count * n.row.stride) &&
    (off - n.row.off) % n.row.stride == 0).map fun n => (n, (off - n.row.off) / n.row.stride)

/-- The value of a held register at an offset of a block instance; 0 where none is listed. -/
def State.heldReg (s : State) (b : RegBlock) (inst off : Nat) : Nat :=
  match findRow b off with
  | some (n, k) => s.regN n (n.slot inst k)
  | none => 0

/-- R525: a write of 4 or 8 bytes to a held register: only the bits of the written half change. -/
def State.heldWrite (s : State) (b : RegBlock) (inst off n v : Nat) : State :=
  match findRow b (off / 8 * 8) with
  | some (m, k) =>
    let mask := if n = 8 then 2 ^ 64 - 1 else if off % 8 = 4 then (2 ^ 32 - 1) * 2 ^ 32 else 2 ^ 32 - 1
    let x := if n = 8 then v else if off % 8 = 4 then v * 2 ^ 32 else v
    let old := s.reg m (m.slot inst k)
    let full := BitVec.ofNat 64 x
    let rw := BitVec.ofNat 64 (m.row.rw &&& mask)
    let w1c := BitVec.ofNat 64 (m.row.w1c &&& mask)
    s.setReg m (m.slot inst k) (((old &&& ~~~rw) ||| (full &&& rw)) &&& ~~~(full &&& w1c))
  | none => s

/-! ## Room registers -/

/-- R82: ARRAY_STATUS. -/
def ArrayB.status (a : ArrayB) : Nat :=
  (match a.owner with | some o => o * 2 ^ 53 + 2 ^ 52 | none => 0) + a.queue.length * 2 ^ 48 + a.stages.length * 2 ^ 43 +
  a.level.tileFmt * 2 ^ 36 + a.level.weightFmt * 2 ^ 32 + a.level.fold * 2 ^ 30 + a.level.axis * 2 ^ 29 +
  (match a.power with | .idle => 0 | .ramping => 1 | .running => 2 | .dummy => 3 | .steppingDown => 3) * 2 ^ 24

/-- R279: DW_STATUS. -/
def State.dwStatus (s : State) (r : Nat) : Nat :=
  (List.range 8).foldl (fun x c =>
    let d := s.dw (r * 8 + c)
    x + d.queue.length * 2 ^ (4 * c + 16) +
      (match d.state with | .idle => 0 | .running => 1 | .waiting => 2 | .halted => 3) * 2 ^ (2 * c)) 0

/-- R123, R82, R184, R207, R259, R279, R303, R482, R535: the 8 bytes of a room's space at an aligned offset. -/
def State.roomReg (s : State) (r off : Nat) : Nat :=
  match off with
  | 0x0000 => s.threadId (r * 32)
  | 0x0008 => (s.room r).cond.epoch
  | 0x0020 => s.irqPending r
  | 0x0038 => (List.range 32).foldl (fun x h => x + (s.hartAt (r * 32 + h)).code * 2 ^ (2 * h)) 0
  | 0x1000 => (s.array r).status
  | 0x1010 => (List.range 16).foldl (fun x n => x + (tgetD (s.array r).slots n {}).state * 2 ^ (2 * n)) 0
  | 0x2000 => s.dwStatus r
  | 0x4000 => (s.attic r).status
  | 0x6000 => (s.avu r).status
  | 0xA000 => s.thermRoom r
  | 0xA008 => s.oppWord r
  | 0xA010 => s.roomRole r
  | 0xE000 => (s.tree r).status
  | _ =>
    if 0x8000 ≤ off ∧ off < 0xA000 then (s.regq (atticQ r)).reg (s.attic r).held (off - 0x8000)
    else if 0xC100 ≤ off ∧ off < 0xC300 then
      (tgetD (tgetD s.errRings r []) ((off - 0xC100) / 32) { cause := 0, severity := 0, die := 0, count := 0 }).word ((off - 0xC100) % 32 / 8)
    else s.heldReg .room r off

/-- R100, R123: a write of ROOM_TLBI. -/
def State.tlbiWrite (s : State) (r v : Nat) : State :=
  s.invalidateTlb r fun e =>
    match fld v 63 62 with
    | 0 => true
    | 1 => e.asid == fld v 59 44
    | 2 => e.asid == fld v 59 44 && e.hasVpn (fld v 35 0)
    | _ => e.hasVpn (fld v 35 0)

/-- R124: the source of which LVL is written 1 keeps its byte of ROOM_IRQ_ROUTE unless the writer is in machine mode;
a store that names LVL = 1 is ignored whole. -/
def State.irqRouteWrite (s : State) (r off n v : Nat) (machine : Bool) : State :=
  let names := (List.range n).any fun j => bitOf v (8 * j + 6)
  if names && !machine then s else s.heldWrite .room r off n v

/-- R525: an RW register of 8 bytes after a write of 4 or 8. -/
def mergeHalf (old off n v : Nat) : Nat := if n = 8 then v % 2 ^ 64 else halfWrite old (off % 8 == 4) (v % 2 ^ 32)
/-- R525: what a write-only or W1C register of 8 bytes takes from a write of 4 or 8. -/
def wideHalf (off n v : Nat) : Nat := if n = 8 then v % 2 ^ 64 else if off % 8 = 4 then v % 2 ^ 32 * 2 ^ 32 else v % 2 ^ 32

/-- R303, R525: a write to a regulation block, given what its queue holds. -/
def RegQ.store (q : RegQ) (held : List Nat) (off n v : Nat) : RegQ :=
  if off / 8 * 8 = 0 then (if off % 8 = 4 then q else q.write 0 v)
  else q.write (off / 8 * 8) (mergeHalf (q.reg held (off / 8 * 8)) off n v)

/-- R241: whose satp and privilege a tree command takes; a writer that is no hart of this device has none to give. -/
def State.userAuthority (s : State) (u : RegUser) : Authority :=
  match u.hart with
  | some (q, h) => (s.hartAt (q * 32 + h)).authority h
  | none => {}

/-- A write of n bytes, 4 or 8, to a room's space. -/
def State.roomRegWrite (s : State) (u : RegUser) (r off n v : Nat) : State :=
  let wide := wideHalf off n v
  let whole := mergeHalf (s.roomReg r (off / 8 * 8)) off n v
  match off / 8 * 8 with
  | 0x0018 => s.irqRouteWrite r off n v u.machine
  | 0x0028 => s.tlbiWrite r wide
  | 0x1008 => s.sbCfgWrite r (match u.hart with | some (q, h) => if q = r then some h else none | none => none) whole
  | 0x1030 => if bitOf wide 1 then s.arrayForceRelease r else if bitOf wide 0 then s.arrayFlush r else s
  | 0x2008 => s.dwCfgWrite r true whole
  | 0x2010 => s.dwCfgWrite r false whole
  | 0x2020 => s.dwConsWrite r (whole % 65536)
  | 0x2030 => s.dwCtrlWrite r wide
  | 0x4008 | 0x4018 => if u.machine then s.heldWrite .room r off n v else s
  | 0x6018 => if bitOf wide 0 then s.avuFlush r else s
  | 0xE008 => s.treeSubmit r (s.userAuthority u) (u.hart.map fun p => p.1 * 32 + p.2) wide
  | 0xE020 => if bitOf wide 0 then s.treeFlush r else s
  | _ =>
    if 0x8000 ≤ off ∧ off < 0xA000 then
      (if u.machine then s.modRegq (atticQ r) (·.store (s.attic r).held (off - 0x8000) n v) else s)
    else s.heldWrite .room r off n v

/-! ## Wing registers (R120, R532, R533) -/

/-- R532: an entry of WING_REPAIR. -/
def State.repairWord (s : State) (r b : Nat) : Nat :=
  if b < 48 then (testSpares r b + (s.attic r).fieldRepairs b) * 16 + (s.attic r).softUsed b else 0

/-- R532: a sensor of a wing die in °C, or 0xFF. -/
def State.wingSensor (s : State) (w i : Nat) : Nat :=
  if (s.dtherm w).invalid.contains i then 0xFF else tempByte ((s.dtherm w).temps.getD i 0)

/-- The 8 bytes of a wing's space at an aligned offset. -/
def State.wingReg (s : State) (w off : Nat) : Nat :=
  if off = 0 then (s.wing w).epoch * 2 ^ 48 + w
  else if off = 8 then s.wingSensor w 0 * 2 ^ 24 + s.wingSensor w 1 * 2 ^ 16 + s.wingSensor w 3 * 2 ^ 8 + s.wingSensor w 2
  else if 0x1000 ≤ off ∧ off < 0x1100 then s.regN .wingBootResult (w * 32 + (off - 0x1000) / 8)
  else if 0x2000 ≤ off ∧ off < 0x2800 then
    let m := s.mailbox (w * 32 + (off - 0x2000) / 64)
    match (off - 0x2000) % 64 with
    | 0 => m.msg.toNat
    | 8 => m.detail.toNat
    | 16 => b2n m.lost * 2 + b2n m.pending
    | _ => 0
  else if 0x3000 ≤ off ∧ off < 0x4000 then
    (List.range 4).foldl (fun x j => x + s.repairWord (w * 32 + (off - 0x3000) / 128) ((off - 0x3000) % 128 / 2 + j) * 2 ^ (16 * j)) 0
  else if 0x10000 ≤ off ∧ off < 0x10100 then
    let c := (s.room (w * 32 + (off - 0x10000) / 8)).cond
    c.state * 2 ^ 16 + c.epoch
  else 0

/-- R533: a write of WMB_STATUS. -/
def State.mailboxAck (s : State) (r v : Nat) : State :=
  let m := s.mailbox r
  let m := if bitOf v 0 && m.pending then m.acknowledge else m
  s.setMailbox r (if bitOf v 1 then { m with lost := false } else m)

def State.wingRegWrite (s : State) (w off n v : Nat) : State :=
  let a := off / 8 * 8
  if 0x1000 ≤ a ∧ a < 0x1100 then s.bootResult (w * 32 + (a - 0x1000) / 8) (BitVec.ofNat 64 (mergeHalf (s.wingReg w a) off n v))
  else if 0x2000 ≤ a ∧ a < 0x2800 ∧ (a - 0x2000) % 64 = 16 then s.mailboxAck (w * 32 + (a - 0x2000) / 64) (wideHalf off n v)
  else s

/-! ## Doors (R373, R376–R378, R394) -/

/-- R394: DOOR_STATUS. -/
def State.doorStatus (s : State) (d : Nat) : Nat :=
  s.doorOutstanding d * 2 ^ 16 + b2n (s.door (1 - d)).hostLost * 16 + b2n (s.door d).hostLost * 8 + b2n (s.door d).linkUp * 4

/-- R394: DOOR_DW_STATE. -/
def State.doorDwState (s : State) (d : Nat) : Nat :=
  (List.range 16).foldl (fun x c =>
    x + (match (s.dw (6144 + d * 16 + c)).state with | .idle => 0 | .running => 1 | .waiting => 2 | .halted => 3) * 2 ^ (2 * c)) 0

/-- R376: SQ_CFG as it reads. -/
def SubRing.cfg (x : SubRing) : Nat :=
  b2n x.enable * 2 ^ 63 + b2n x.priv * 2 ^ 62 + x.owner * 2 ^ 61 + x.sizeLog2 * 2 ^ 56 + x.cq * 2 ^ 40 + x.weight * 2 ^ 32

/-- R377: CQ_CFG as it reads. -/
def ComRing.cfg (x : ComRing) : Nat :=
  b2n x.enable * 2 ^ 63 + x.owner * 2 ^ 61 + x.sizeLog2 * 2 ^ 56 + x.vector * 2 ^ 32 + b2n x.irqEn * 2 ^ 31 + x.coalCount * 2 ^ 16 + x.coalTime

def State.sqReg (s : State) (q off : Nat) : Nat :=
  let x := s.sq q
  match off with
  | 0 => x.base
  | 8 => x.cfg
  | 0x10 => x.guardBase
  | 0x18 => x.guardSize
  | 0x20 => x.head * 2 ^ 32 + x.tail
  | 0x28 => s.sqState q
  | _ => 0

def State.cqReg (s : State) (c off : Nat) : Nat :=
  let x := s.cq c
  match off with
  | 0 => x.base
  | 8 => x.cfg
  | 0x10 => x.tail * 2 ^ 32 + x.head
  | _ => 0

/-- The 8 bytes of a door block at an aligned offset. -/
def State.doorReg (s : State) (d off : Nat) : Nat :=
  if off = 0 then 0xB000 + d
  else if off = 8 then s.doorStatus d
  else if off = 0x30 then s.doorDwState d
  else if 0x20000 ≤ off ∧ off < 0x30000 then s.sqReg ((off - 0x20000) / 64) (off % 64)
  else if 0x30000 ≤ off ∧ off < 0x38000 then s.cqReg ((off - 0x30000) / 32) (off % 32)
  else if 0x700000 ≤ off ∧ off < 0x701000 then s.d2dReg (104 + d) (off - 0x700000)
  else if 0xC04000 ≤ off ∧ off < 0xC04080 then
    (List.range 64).foldl (fun x j => x + b2n ((s.door d).msixPending.contains ((off - 0xC04000) * 8 + j)) * 2 ^ j) 0
  else s.heldReg .door d off

/-- R376: a write to a ring's registers. -/
def State.sqRegWrite (s : State) (q off n v : Nat) : State :=
  let whole := mergeHalf (s.sqReg q (off / 8 * 8)) off n v
  match off / 8 * 8 with
  | 8 => s.sqCfgWrite q whole
  | 0 => if (s.sq q).open then s.modSq q fun x => { x with base := whole / 4096 * 4096 } else s
  | 0x10 => if (s.sq q).open then s.modSq q fun x => { x with guardBase := whole % 2 ^ 56 } else s
  | 0x18 => if (s.sq q).open then s.modSq q fun x => { x with guardSize := whole % 2 ^ 56 } else s
  | _ => s

def State.cqRegWrite (s : State) (c off n v : Nat) : State :=
  let whole := mergeHalf (s.cqReg c (off / 8 * 8)) off n v
  match off / 8 * 8 with
  | 8 => s.cqCfgWrite c whole
  | 0 => s.modCq c fun x => { x with base := whole / 4096 * 4096 }
  | _ => s

/-- R394: a vector that its mask held back is sent once it is unmasked. -/
def State.unmask (s : State) (d v : Nat) : State :=
  if (s.door d).msixPending.contains v && !bitOf (s.regN .doorMsixCtl (d * 1024 + v)) 32 then
    (s.modDoor d fun x => { x with msixPending := x.msixPending.filter (· != v) }).sendVector d v
  else s

/-- R388: DOOR_CMD.RELEASE. -/
def State.doorRegWrite (s : State) (d off n v : Nat) : State :=
  let wide := wideHalf off n v
  let a := off / 8 * 8
  if a = 0x10 then s.doorCtrlWrite d (BitVec.ofNat 64 (mergeHalf (s.regN .doorCtrl d) off n v))
  else if a = 0x18 then (if bitOf wide 0 then s.loseHost d else s)
  else if a = 0x20 then s.adopt d (wide % 1024)
  else if 0x20000 ≤ a ∧ a < 0x30000 then s.sqRegWrite ((a - 0x20000) / 64) (off % 64) n v
  else if 0x30000 ≤ a ∧ a < 0x38000 then s.cqRegWrite ((a - 0x30000) / 32) (off % 32) n v
  else if 0x700000 ≤ a ∧ a < 0x701000 then s.d2dRegWrite (104 + d) (a - 0x700000) (mergeHalf (s.d2dReg (104 + d) (a - 0x700000)) off n v)
  else if 0x800000 ≤ a ∧ a < 0xC00000 then
    (match a % 4096 with
      | 0 => s.sqTail d ((a - 0x800000) / 4096) (wide % 2 ^ 32)
      | 8 => s.cqHead d ((a - 0x800000) / 4096) (wide % 2 ^ 32)
      | _ => s)
  else if 0xC00000 ≤ a ∧ a < 0xC04000 then (s.heldWrite .door d off n v).unmask d ((a - 0xC00000) / 16)
  else s.heldWrite .door d off n v

/-! ## The study, porches, halls and the fabric (R303, R304, R350, R368, R463, R475, R502, R528, R530) -/

/-- R530: the 8 bytes of the study mailbox at an aligned offset. -/
def State.studyMbReg (s : State) (off : Nat) : Nat :=
  let m := s.mailboxStudy
  if off < 0x40 then wordN m.req (off / 8)
  else if off < 0x60 then wordN m.rsp ((off - 0x40) / 8)
  else if off = 0x68 then b2n m.overrun * 8 + b2n m.final * 4 + b2n m.done * 2 + b2n m.busy
  else 0

def State.studyMbWrite (s : State) (off n v : Nat) : State :=
  let m := s.mailboxStudy
  let a := off / 8 * 8
  let wide := wideHalf off n v
  if a < 0x40 then
    { s with mailboxStudy :=
      if m.busy then { m with overrun := true }
      else { m with req := lset m.req (a / 8) (BitVec.ofNat 64 (mergeHalf (wordN m.req (a / 8)) off n v)) } }
  else if a = 0x60 then (if bitOf wide 0 then s.mailboxStart else s)
  else if a = 0x68 then { s with mailboxStudy := { m with overrun := m.overrun && !bitOf wide 3 } }
  else s

/-- R463: a write of BOOT_CTRL with its key: DEVICE_RESET, then HOST_GO, then RETRY; a reset leaves nothing of the others. -/
def State.bootCtrlWrite (s : State) (v : Nat) : State :=
  if fld v 63 48 ≠ 0x5A17 then s
  else if bitOf v 0 then s.askReset 8
  else
    let t := if bitOf v 1 then s.modBoot fun b => { b with hostGo := true } else s
    if bitOf v 2 then t.retry else t

def State.bootCtlReg (s : State) (off : Nat) : Nat := if off = 8 then s.boot.hostBase else if off = 0x10 then s.boot.idleTmo else 0
def State.bootCtlWrite (s : State) (off n v : Nat) : State :=
  let whole := mergeHalf (s.bootCtlReg (off / 8 * 8)) off n v
  match off / 8 * 8 with
  | 0 => s.bootCtrlWrite (wideHalf off n v)
  | 8 => s.modBoot fun b => { b with hostBase := whole }
  | 0x10 => s.modBoot fun b => { b with idleTmo := whole % 65536 }
  | _ => s

/-- R502: LIVE_FW_STATE. -/
def State.fwState (s : State) : Nat :=
  ([1, 2, 3, 4, 5].map fun k => s.runCode k * 2 ^ (8 * k + 2) + tgetD s.live.running k 0 % 2 * 2 ^ (8 * k)).foldl (· + ·) 0 +
  b2n s.live.defaults * 8 + s.boot.activeDoor * 4 + b2n s.live.handover.isSome * 2 + b2n (s.live.standby && s.live.hearthStandby)

/-- R303, R350: the 8 bytes of a porch's block at an aligned offset; the packets that wait in an egress queue hold its entries. -/
def State.egressHeld (s : State) (l : Nat) : List Nat := (s.link l).egress.map fun p => fabCls p.1
def State.porchReg (s : State) (p off : Nat) : Nat :=
  if off < 0x6000 then s.linkReg (p * 6 + off / 0x1000) (off % 0x1000)
  else if 0x80000 ≤ off ∧ off < 0x86000 then
    let l := p * 6 + (off - 0x80000) / 0x1000
    (s.regq (linkQ l)).reg (s.egressHeld l) (off % 0x1000)
  else if 0x90000 ≤ off ∧ off < 0x91000 then s.d2dReg (96 + p) (off - 0x90000)
  else 0

def State.porchRegWrite (s : State) (p off n v : Nat) : State :=
  let a := off / 8 * 8
  if off < 0x6000 then
    let l := p * 6 + off / 0x1000
    s.linkRegWrite l (a % 0x1000) (if a % 0x1000 = 0x10 then mergeHalf (s.regN .linkCfg l) off n v else wideHalf off n v)
  else if 0x80000 ≤ off ∧ off < 0x86000 then
    let l := p * 6 + (off - 0x80000) / 0x1000
    s.modRegq (linkQ l) (·.store (s.egressHeld l) (off % 0x1000) n v)
  else if 0x90000 ≤ off ∧ off < 0x91000 then s.d2dRegWrite (96 + p) (a - 0x90000) (mergeHalf (s.d2dReg (96 + p) (a - 0x90000)) off n v)
  else s

/-- R303, R304: the 8 bytes of a wing's hall block at an aligned offset. -/
def State.portHeld (s : State) (w n : Nat) : List Nat := ((s.hall w).port n).map (·.cls)
def State.hallBlock (s : State) (w off : Nat) : Nat :=
  if off < 0x10000 then s.hallReg w off
  else if off < 0x15000 then (s.regq (portQ w ((off - 0x10000) / 0x1000))).reg (s.portHeld w ((off - 0x10000) / 0x1000)) (off % 0x1000)
  else if 0x20000 ≤ off ∧ off < 0x21000 then s.d2dReg w (off - 0x20000)
  else 0

def State.hallBlockWrite (s : State) (w off n v : Nat) : State :=
  let a := off / 8 * 8
  if off < 0x10000 then s.hallRegWrite w a (if a = 8 then wideHalf off n v else mergeHalf (s.hallReg w a) off n v)
  else if off < 0x15000 then
    let k := (off - 0x10000) / 0x1000
    s.modRegq (portQ w k) (·.store (s.portHeld w k) (off % 0x1000) n v)
  else if 0x20000 ≤ off ∧ off < 0x21000 then s.d2dRegWrite w (a - 0x20000) (mergeHalf (s.d2dReg w (a - 0x20000)) off n v)
  else s

def State.powerRegWrite (s : State) (off n v : Nat) : State :=
  match off / 8 * 8 with
  | 8 => s.writeCap (mergeHalf s.pwrCap off n v % 65536)
  | 0x18 => s.heldWrite .power 0 off n v
  | _ => s

def State.thermRegWrite (s : State) (off n v : Nat) : State :=
  let whole := mergeHalf (s.thermReg (off / 8 * 8)) off n v
  match off / 8 * 8 with
  | 8 => s.thermCfgWrite whole
  | 0x10 => s.heldWrite .therm 0 off n v
  | 0x18 => s.coolWrite whole
  | _ => s

/-- R368, R525: a write to the fabric block. -/
def State.fabWrite (s : State) (off n v : Nat) : State :=
  let a := off / 8 * 8
  if a = 8 then s.fabRegWrite 8 8 (mergeHalf (s.regN .fabCfg 0) off n v)
  else if a = 0x10 ∨ a = 0x30 then s.fabRegWrite a 8 (wideHalf off n v)
  else s.fabRegWrite off n v

/-- R527: the 8 bytes of device MMIO at an aligned offset. -/
def State.devReg (s : State) (off : Nat) : Nat :=
  if off < 0x02000000 then s.doorReg (off / 0x01000000) (off % 0x01000000)
  else if off < 0x02000100 then s.studyMbReg (off - 0x02000000)
  else if 0x02100000 ≤ off ∧ off < 0x02101000 then s.bootCtlReg (off - 0x02100000)
  else if 0x02200000 ≤ off ∧ off < 0x02208000 then s.pageEntry ((off - 0x02200000) / 8)
  else if off = 0x02300000 then s.liveCfg
  else if off = 0x02300008 then s.fwState
  else if 0x03000000 ≤ off ∧ off < 0x03004000 then s.powerReg (off - 0x03000000)
  else if 0x03004000 ≤ off ∧ off < 0x03008000 then s.thermReg (off - 0x03004000)
  else if 0x05000000 ≤ off ∧ off < 0x05013500 then s.bootReg (off - 0x05000000)
  else if 0x06000000 ≤ off ∧ off < 0x06004000 then s.planWord (off - 0x06000000)
  else if 0x08000000 ≤ off ∧ off < 0x08800000 then s.porchReg ((off - 0x08000000) / 0x100000) (off % 0x100000)
  else if 0x0A000000 ≤ off ∧ off < 0x0B800000 then s.hallBlock ((off - 0x0A000000) / 0x100000) (off % 0x100000)
  else if 0x0C000000 ≤ off ∧ off < 0x10000000 then s.fabReg (off - 0x0C000000)
  else 0

/-- R527: a write of 4 or 8 bytes to device MMIO. -/
def State.devRegWrite (s : State) (off n v : Nat) : State :=
  if off < 0x02000000 then s.doorRegWrite (off / 0x01000000) (off % 0x01000000) n v
  else if off < 0x02000100 then s.studyMbWrite (off - 0x02000000) n v
  else if 0x02100000 ≤ off ∧ off < 0x02101000 then s.bootCtlWrite (off - 0x02100000) n v
  else if off / 8 * 8 = 0x02300000 then s.liveCfgWrite (mergeHalf s.liveCfg off n v)
  else if 0x03000000 ≤ off ∧ off < 0x03004000 then s.powerRegWrite (off - 0x03000000) n v
  else if 0x03004000 ≤ off ∧ off < 0x03008000 then s.thermRegWrite (off - 0x03004000) n v
  else if 0x08000000 ≤ off ∧ off < 0x08800000 then s.porchRegWrite ((off - 0x08000000) / 0x100000) (off % 0x100000) n v
  else if 0x0A000000 ≤ off ∧ off < 0x0B800000 then s.hallBlockWrite ((off - 0x0A000000) / 0x100000) (off % 0x100000) n v
  else if 0x0C000000 ≤ off ∧ off < 0x10000000 then s.fabWrite (off - 0x0C000000) n v
  else s

/-- R525: the island of a block is in reset or down. -/
def State.devDown (s : State) (off : Nat) : Bool :=
  if off < 0x02000000 then (s.door (off / 0x01000000)).down
  else if 0x08000000 ≤ off ∧ off < 0x08800000 then !s.porchUp ((off - 0x08000000) / 0x100000)
  else if 0x0A000000 ≤ off ∧ off < 0x0B800000 then (s.wing ((off - 0x0A000000) / 0x100000)).state == 2
  else false

/-! ## Any register -/

/-- The value of n bytes at an offset whose 8-byte word is given. -/
def regPart (x off n : Nat) : Nat := if n = 8 then x % 2 ^ 64 else x / 2 ^ (off % 8 * 8) % 2 ^ 32

/-- R525: a register access is aligned and of 4 or 8 bytes. -/
def regShape (off n : Nat) : Bool := (n == 4 || n == 8) && off % n == 0

/-- The 8 bytes of a register space at an aligned offset. -/
def State.regWord (s : State) : Place → Nat
  | .roomMmio r o => s.roomReg r (o / 8 * 8)
  | .wingMmio w o => s.wingReg w (o / 8 * 8)
  | .devMmio o => s.devReg (o / 8 * 8)
  | _ => 0

def placeOffset : Place → Nat
  | .roomMmio _ o | .wingMmio _ o | .devMmio o | .broadcast _ _ o => o
  | _ => 0

/-- R525: what an access to a register space meets: 0 performed, 2 ABSENT, 4 an access error. -/
def State.mmioCode (s : State) (p : Place) (n : Nat) : Nat :=
  if !regShape (placeOffset p) n then 4
  else match p with
    | .devMmio o => if s.devDown o then 2 else 0
    | _ => 0

/-- R525: a read of a register space. -/
def State.mmioRead (s : State) (p : Place) (n : Nat) : Answer :=
  let c := s.mmioCode p n
  if c = 0 then .data (toBytes n (regPart (s.regWord p) (placeOffset p) n)) else .error c

/-- R525, R93: a write to a register space. -/
def State.mmioWrite (s : State) (u : RegUser) (p : Place) (n v : Nat) : State :=
  if s.mmioCode p n ≠ 0 then s
  else match p with
    | .roomMmio r o => s.roomRegWrite u r o n v
    | .wingMmio w o => s.wingRegWrite w o n v
    | .devMmio o => s.devRegWrite o n v
    | .broadcast 3 room o =>
      (List.range 24).foldl (fun s w => if (s.wing w).state = 0 then s.roomRegWrite u (w * 32 + room) o n v else s) s
    | .broadcast 4 _ o =>
      let mine (w : Nat) : Bool := !(decide (0x1000 ≤ o ∧ o < 0x1100)) || u.hart.any fun x => x.1 == w * 32 + (o - 0x1000) / 8
      (List.range 24).foldl (fun s w => if (s.wing w).state = 0 && mine w then s.wingRegWrite w o n v else s) s
    | _ => s

/-- R526: the rights of a hart at a privilege level: 0 allowed, 1 access fault, 2 access error. -/
def mmioRights (p : Priv) (write : Bool) (hartRoom : Nat) : Place → Nat
  | .roomMmio .. => 0
  | .broadcast .. => if write && p == .machine then 0 else 2
  | .wingMmio w o =>
    if 0x10000 ≤ o ∧ o < 0x20000 then (if write then 1 else 0)
    else if 0x80000 ≤ o ∧ o < 0x880000 then 1
    else if 0x1000 ≤ o ∧ o < 0x1100 then
      (match p with
        | .machine => if write && hartRoom != w * 32 + (o - 0x1000) / 8 then 1 else 0
        | .supervisor => if write then 1 else 0
        | .user => 1)
    else if p = .user then 1 else 0
  | .devMmio o =>
    if 0x04000000 ≤ o ∧ o < 0x05000000 then 2
    else if p = .machine then 0
    else if 0x02000000 ≤ o ∧ o < 0x02000100 then 1
    else if write then 1
    else if p = .supervisor then 0
    else if (0x05000000 ≤ o ∧ o < 0x05001200) ∨ (0x05002000 ≤ o ∧ o < 0x05002100) ∨ (0x06000000 ≤ o ∧ o < 0x08000000) ∨
        (0x0C000000 ≤ o ∧ o < 0x0C001000) then 0 else 1
  | _ => 0

end Sys2Proof.Machine
end

