-- ==== Sys2Proof/Machine/HartMem.lean ====
section
/-! DEFINITION. The memory accesses of a hart: ordinary and global loads and stores, atomics, outstanding requests, and the
ends they come to (R92, R93, R103–R113, R139–R142, R342, R343). -/
namespace Sys2Proof.Machine

/-! ## Loads -/

/-- R101, R103: a load through a cacheable leaf of the own attic's interleaved view allocates its line in its set. The set of a line
is its number modulo 128 (DESIGN CHOICE). -/
def State.cacheLoad (s : State) (r : Nat) (x : Xlate) (p : Place) : State :=
  match p with
  | .attic q false o =>
    let c := match x.leaf with | some l => bitOf l 58 && !bitOf l 60 | none => true
    if q == r && c then s.modRoom r fun y => { y with dcache := cachePut 8 (· % 128) (o / 64) y.dcache } else s
  | _ => s

/-- R537: the privilege that a hart's data accesses have. -/
def Hart.level (x : Hart) : Priv := (x.authority 0).level

/-- The form of a load: bytes, extension, destination, class (none: that of the leaf), and the instruction's length. -/
structure LoadForm where
  rd : Nat
  bytes : Nat
  unsigned : Bool
  fp : Bool
  pair : Bool
  cls : Option Nat
  len : Nat

/-- R133: the trap of an access whose translation fails; a table in an unusable bank is reported at its home (R162). -/
def State.xlateTrap (s : State) (h : HartId) (n : Need) (cause : Nat) (va : W64) : State :=
  (s.noteWalk h.room.val ((s.hart h).authority h.hart.val) n va).trap h cause va

/-- R104, R105, R108, R140, R163: a load of a hart, to its end, or to an outstanding request; while its home does not take it the
hart is not ready, and nothing changes. -/
def State.hartLoad (s : State) (h : HartId) (va : W64) (m : LoadForm) : State :=
  let r := h.room.val
  let k := hkey h
  let x := s.hart h
  if va.toNat % m.bytes ≠ 0 then s.trap h 4 va
  else match s.translate r (x.authority h.hart.val) .read .load va with
  | .error c => s.xlateTrap h .read c va
  | .ok t =>
    let p := s.placeFor r t.pa m.bytes
    let cls := m.cls.getD (t.cls x.priv)
    if !s.homeOpen cls p m.bytes then s
    else
    let s := s.fillTlb r t
    let done : List Byte → State → State := fun l s =>
      s.modHartAt k fun x => (x.deliver m.rd m.bytes m.unsigned m.fp m.pair l).retire m.len
    let send : State := match s.freeTag r 4096 0 with
      | some g => (s.issue h g cls t.pa va (.load m.rd m.bytes m.unsigned m.fp m.pair)).modHartAt k fun x => { x with wait := .result g }
      | none => s
    if m.bytes = 16 ∧ 3 ≤ t.type then s.trap h 5 va
    else match p with
    | .remote _ => send
    | .roomMmio .. | .wingMmio .. | .devMmio .. | .broadcast .. =>
      (match mmioRights x.level false r p with
        | 1 => s.trap h 5 va
        | 2 => s.remoteTrap k 5 4 va
        | _ =>
          match s.mmioRead p m.bytes with
          | .data l => done l s
          | .error c => s.remoteTrap k 5 c va
          | _ => s)
    | _ =>
      match s.memRead p m.bytes with
      | .data l => done l ((s.cacheLoad r t p).afterRead p m.bytes)
      | .poisoned _ => (s.afterRead p m.bytes).remoteTrap k 26 3 va
      | .error c => (s.afterRead p m.bytes).remoteTrap k 5 c va
      | .waiting => send

/-! ## Stores -/

/-- The form of a store. -/
structure StoreForm where
  data : List Byte
  cls : Option Nat
  len : Nat
  aq : Bool := false

/-- R241: a store of a hart to its room's pantry, noted until its next FENCE RW,O. -/
def State.hartWrote (s : State) (h : HartId) (p : Place) (n : Nat) : State :=
  s.noteFresh (hkey h) h.room.val
    (match p with | .pantry q _ => if q = h.room.val then placeRanges p n else [] | _ => [])

/-- R93: an address of a broadcast, on whatever device. -/
def isBroadcast (pa : Nat) : Bool := decide (paType pa ≤ 5) && fld pa 37 33 == 31

/-- R93: a broadcast to another device that its home would not accept from this hart. -/
def badBroadcast (x : Hart) (pa : Nat) : Bool := isBroadcast pa && (x.priv != .machine || (paType pa != 3 && paType pa != 4))

/-- R93, R104, R108: what the store does at its target, and whether it is left outstanding. -/
def State.hartStoreAt (s : State) (h : HartId) (va : W64) (t : Xlate) (cls : Nat) (l : List Byte) : State :=
  let r := h.room.val
  let k := hkey h
  let p := s.placeFor r t.pa l.length
  let send : State := match s.freeTag r 4096 0 with
    | some g => s.issue h g cls t.pa va (.store l)
    | none => s
  let machine := (s.hart h).priv == .machine
  match p with
  | .remote _ => if badBroadcast (s.hart h) t.pa then s.storeError k va else send
  | .roomMmio .. | .wingMmio .. | .devMmio .. =>
    if s.mmioCode p l.length = 0 && mmioRights (s.hart h).level true r p == 0 then s.mmioWrite ⟨machine, some (r, h.hart.val)⟩ p l.length (ofBytes l) else s.storeError k va
  | .broadcast _ _ o =>
    if machine && regShape o l.length then s.mmioWrite ⟨machine, some (r, h.hart.val)⟩ p l.length (ofBytes l) else s.storeError k va
  | _ =>
    let c := s.writeCode p l
    if c = 16 then send
    else
      let s := ((s.memWrite p l (some k)).storeAt p l.length).hartWrote h p l.length
      if c = 0 then s else s.storeError k va

/-- The store leaves for another device or a stopped island, and there is no free tag: the hart is not ready (R342). -/
def State.noTag (s : State) (h : HartId) (p : Place) (l : List Byte) : Bool :=
  (match p with | .remote _ => true | _ => s.writeCode p l == 16) && (s.freeTag h.room.val 4096 0).isNone

/-- R107: a store with its acquire bit that was left outstanding, by its tag, holds its hart until it is performed; any other
retires. The state is that before the store. -/
def State.storeRetires (s : State) (h : HartId) (p : Place) (l : List Byte) (pa : Nat) (aq : Bool) (len : Nat) (t : State) : State :=
  let out := match p with | .remote _ => !badBroadcast (s.hart h) pa | _ => s.writeCode p l == 16
  match s.freeTag h.room.val 4096 0 with
  | some g => if aq && out then t.modHart h fun x => { x with wait := .acquire g } else t.modHart h (·.retire len)
  | none => t.modHart h (·.retire len)

/-- R104, R108, R140, R163: a store of a hart; while its home does not take it, or there is no free tag for it, the hart is not
ready, and nothing changes. -/
def State.hartStore (s : State) (h : HartId) (va : W64) (m : StoreForm) : State :=
  let r := h.room.val
  let x := s.hart h
  let n := m.data.length
  if va.toNat % n ≠ 0 then s.trap h 6 va
  else match s.translate r (x.authority h.hart.val) .write .store va with
  | .error c => s.xlateTrap h .write c va
  | .ok t =>
    let p := s.placeFor r t.pa n
    let cls := m.cls.getD (t.cls x.priv)
    if (n = 16 ∧ 3 ≤ t.type) ∨ mmioRights x.level true r p = 1 then (s.fillTlb r t).trap h 7 va
    else if s.noTag h p m.data || !s.homeOpen cls p n then s
    else s.storeRetires h p m.data t.pa m.aq m.len ((s.fillTlb r t).hartStoreAt h va t cls m.data)

/-! ## Atomics -/

/-- R112, R141, R142, R183: an atomic of a hart. -/
def State.hartAtomic (s : State) (h : HartId) (va : W64) (op : HomeAtomic) (rd : Nat) (pair : Bool) (cls : Option Nat) (len : Nat) : State :=
  let r := h.room.val
  let k := hkey h
  let x := s.hart h
  if va.toNat % homeWidth op ≠ 0 then s.trap h 6 va
  else match s.translate r (x.authority h.hart.val) .both .store va with
  | .error c => s.xlateTrap h .both c va
  | .ok t =>
    let p := s.placeFor r t.pa (homeWidth op)
    let c := cls.getD (t.cls x.priv)
    if !s.homeOpen c p (homeWidth op) then s
    else
    let s := s.fillTlb r t
    let send : State := match s.freeTag r 4096 0 with
      | some g => (s.issue h g c t.pa va (.atomic rd op pair)).modHartAt k fun x => { x with wait := .result g }
      | none => s
    if 3 ≤ t.type ∨ (isLease op ∧ t.type = 1) then s.trap h 7 va
    else match p with
    | .remote _ => send
    | _ =>
      if (match p with | .attic .. | .pantry .. => !homeAllows op p | _ => false) then s.trap h 7 va
      else match s.atomicAnswer op p with
      | .data l => ((s.atomicPerform op p (some k)).hartWrote h p (homeWidth op)).modHartAt k fun x => (x.deliverAtomic rd op pair (answerBytes op l)).retire len
      | .poisoned _ => (s.afterRead p (homeWidth op)).remoteTrap k 26 3 va
      | .error c => (s.afterRead p (homeWidth op)).remoteTrap k 7 c va
      | .waiting => send

/-- R147, R296, R342: a signal or a no-return atomic leaves for another device or a stopped island, and there is no free tag: the hart is not ready. -/
def State.signalNoTag (s : State) (h : HartId) (p : Place) (op : HomeAtomic) : Bool :=
  (match p with | .remote _ => true | p => s.atomicAnswer op p == .waiting) && (s.freeTag h.room.val 4096 0).isNone

/-- R147, R183, R296: the signal or the no-return atomic performed at its home, or left outstanding; an error is reported as for a store. -/
def State.signalAt (s : State) (h : HartId) (va : W64) (pa cls : Nat) (op : HomeAtomic) : State :=
  let k := hkey h
  let send : State := match s.freeTag h.room.val 4096 0 with
    | some g => s.issue h g cls pa va (.signal op)
    | none => s
  match s.placeFor h.room.val pa (homeWidth op) with
  | .remote _ => send
  | p =>
    match s.atomicAnswer op p with
    | .data _ => (s.atomicPerform op p (some k)).hartWrote h p (homeWidth op)
    | .waiting => send
    | _ => (s.afterRead p (homeWidth op)).storeError k va

/-- R296: an atomic that returns nothing: it retires when it is sent or performed, or, with its acquire bit, once it is performed. -/
def State.hartPost (s : State) (h : HartId) (va : W64) (op : HomeAtomic) (cls : Nat) (aq : Bool) : State :=
  let r := h.room.val
  if va.toNat % homeWidth op ≠ 0 then s.trap h 6 va
  else match s.translate r ((s.hart h).authority h.hart.val) .both .store va with
  | .error c => s.xlateTrap h .both c va
  | .ok t =>
    let p := s.placeFor r t.pa (homeWidth op)
    let out := match p with | .remote _ => true | _ => s.atomicAnswer op p == .waiting
    if 3 ≤ t.type ∨ (match p with | .attic .. | .pantry .. => !homeAllows op p | _ => false) = true then (s.fillTlb r t).trap h 7 va
    else if s.signalNoTag h p op || !s.homeOpen cls p (homeWidth op) then s
    else
      let u := (s.fillTlb r t).signalAt h va t.pa cls op
      match s.freeTag r 4096 0 with
      | some g => if aq && out then u.modHart h fun x => { x with wait := .acquire g } else u.modHart h (·.retire)
      | none => u.modHart h (·.retire)

/-! ## Responses and timeouts (R108, R343) -/

def execResponseReceive (island : Fin 792) (p : Response) (s : State) : Result :=
  let t := s.tag island.val p.tag.val
  let ok := t.state == .outstanding && t.gen == p.gen.val && (768 ≤ island.val || (s.room island.val).cond.epoch == p.epoch.toNat)
  if 768 ≤ island.val then whenReady ok s (s.landingAnswer (island.val - 768) p.tag.val p.status.val)
  else match s.findReq island.val p.tag.val with
  | none => .next s
  | some q =>
    whenReady ok s
      ((s.retireTag q q.reissued).endRequest q p.status.val p.data p.poison)

def execRequestTimeout (r : RoomIx) (tag : Fin 4096) (s : State) : Result :=
  match s.findReq r.val tag.val with
  | none => .next s
  | some q => .next ((s.reach q.deadline).timeout q)

def execTagHoldExpiry (island : Fin 792) (tag : Fin 4096) (s : State) : Result :=
  let t := s.tag island.val tag.val
  whenReady (t.state == .held) s (s.setTag island.val tag.val { t with state := .free })

/-! ## Ordinary instructions -/

/-- R85: a hart executes an ordinary instruction when it can issue one; it is then the hart of its room that issued last. -/
def hartRun (h : HartId) (s : State) (body : State → State) : Result :=
  if s.canIssue h none then .next ((body (s.endWfi h)).issued h) else .next s

def formAddress (x : Hart) (rs1 : Fin 32) (imm : BitVec 12) : W64 := x.reg rs1.val + imm.signExtend 64

def execLoad (h : HartId) (m : MemForm) (s : State) : Result :=
  hartRun h s fun s => s.hartLoad h (formAddress (s.hart h) m.rs1 m.imm)
    ⟨m.reg.val, m.bytes, m.unsigned, m.fp, false, none, if m.compressed then 2 else 4⟩

/-- The register that a store stores. -/
def Hart.storeValue (x : Hart) (m : MemForm) : W64 := if m.fp then tgetD x.f m.reg.val 0 else x.reg m.reg.val

def execStore (h : HartId) (m : MemForm) (s : State) : Result :=
  hartRun h s fun s =>
    let x := s.hart h
    s.hartStore h (formAddress x m.rs1 m.imm) ⟨toBytes m.bytes (x.storeValue m).toNat, none, if m.compressed then 2 else 4, false⟩

def execAmo (h : HartId) (op : AmoOp) (a : AtomicForm) (s : State) : Result :=
  hartRun h s fun s =>
    let x := s.hart h
    if s.released h a.rl then s.hartAtomic h (x.reg a.rs1.val) (.amo op a.double (x.reg a.rs2.val)) a.rd.val false none 4 else s

/-- R112: LR and SC reach TYPE 0 and 2 of the hart's own room; the place and its key, or the cause of the trap. -/
def State.reserveTarget (s : State) (h : HartId) (va : W64) (bytes : Nat) : Except Nat (Xlate × Place × Nat) :=
  if va.toNat % bytes ≠ 0 then .error 6
  else match s.translate h.room.val ((s.hart h).authority h.hart.val) .both .store va with
  | .error c => .error c
  | .ok t =>
    match s.placeFor h.room.val t.pa bytes with
    | .attic r false o => if r = h.room.val then .ok (t, .attic r false o, atticKey r false o) else .error 7
    | .pantry r o => if r = h.room.val then .ok (t, .pantry r o, pantryKey r o) else .error 7
    | _ => .error 7

def execLr (h : HartId) (a : AtomicForm) (s : State) : Result :=
  hartRun h s fun s =>
    let va := (s.hart h).reg a.rs1.val
    let n := if a.double then 8 else 4
    if !s.released h a.rl then s
    else match s.reserveTarget h va n with
    | .error c => s.xlateTrap h .both c va
    | .ok (t, p, key) =>
      if !s.homeOpen (t.cls (s.hart h).priv) p n then s
      else
      let s := s.fillTlb h.room.val t
      match s.memRead p n with
      | .data l => (s.afterRead p n).modHart h fun x => { (x.deliver a.rd.val n false false false l).retire with resv := some ⟨key, n⟩ }
      | .poisoned _ => (s.afterRead p n).remoteTrap (hkey h) 26 3 va
      | .error c => (s.afterRead p n).remoteTrap (hkey h) 7 c va
      | .waiting => s

def execSc (h : HartId) (a : AtomicForm) (s : State) : Result :=
  hartRun h s fun s =>
    let x := s.hart h
    let va := x.reg a.rs1.val
    let n := if a.double then 8 else 4
    if !s.released h a.rl then s
    else match s.reserveTarget h va n with
    | .error c => s.xlateTrap h .both c va
    | .ok (t, p, key) =>
      if !s.homeOpen (t.cls x.priv) p n then s
      else
      let s := s.fillTlb h.room.val t
      let finish : Nat → State → State := fun v s => s.modHart h fun x => { (x.setReg a.rd.val (BitVec.ofNat 64 v)).retire with resv := none }
      if x.resv = some ⟨key, n⟩ then
        (match s.memRead p n with
          | .data _ => finish 0
            (((s.memWrite p (toBytes n (x.reg a.rs2.val).toNat) (some (hkey h))).storeAt p n).hartWrote h p n)
          | .poisoned _ => ((s.afterRead p n).remoteTrap (hkey h) 26 3 va).modHart h fun x => { x with resv := none }
          | .error c => ((s.afterRead p n).remoteTrap (hkey h) 7 c va).modHart h fun x => { x with resv := none }
          | .waiting => s)
      else finish 1 s

/-- FENCE waits for stores where its predecessor set names memory or output writes. -/
def execFence (h : HartId) (pred succ : BitVec 4) (s : State) : Result :=
  hartRun h s fun s =>
    let s := if pred.toNat % 4 = 3 ∧ bitOf succ.toNat 2 then s.dropGuard (.fresh (hkey h)) else s
    if (pred.toNat % 2 = 1 ∨ bitOf pred.toNat 2) ∧ s.hasStores h
    then s.modHart h fun x => { x with wait := .fence } else s.modHart h (·.retire)

def execFenceI (h : HartId) (s : State) : Result :=
  hartRun h s fun s => (s.modHart h (·.retire)).modRoom h.room.val fun y => { y with icache := [] }

/-- R85: illegal in user mode, and in supervisor mode where a trap bit of mstatus says so. -/
def Hart.denied (x : Hart) (trapBit : Nat) : Bool :=
  x.priv == .user || (x.priv == .supervisor && bitOf x.mstatus.toNat trapBit)

def execSfenceVma (h : HartId) (rs1 rs2 : Fin 32) (s : State) : Result :=
  hartRun h s fun s =>
    let x := s.hart h
    let vpn := fld (x.reg rs1.val).toNat 51 16
    let asid := (x.reg rs2.val).toNat % 65536
    if x.denied 20 then s.trap h 2 0
    else (s.modHart h (·.retire)).invalidateTlb h.room.val fun e =>
      (rs1 == 0 || e.hasVpn vpn) && (rs2 == 0 || (e.asid == asid && !bitOf e.pte 5))

def execWfi (h : HartId) (s : State) : Result :=
  hartRun h s fun s =>
    if (s.hart h).denied 21 then s.trap h 2 0
    else if (s.pendingEnabled h).isEmpty then s.modHart h fun x => { x with wait := .wfi }
    else s.modHart h (·.retire)

def execSatpWrite (h : HartId) (value : W64) (s : State) : Result :=
  hartRun h s fun s =>
    if (s.hart h).denied 20 then s.trap h 2 0
    else s.modHart h fun x =>
      { x.retire with satp := if value.toNat / 2 ^ 60 = 0 ∨ value.toNat / 2 ^ 60 = 14 then value else x.satp }

/-- R122: SZ_GSTATUS as it is read. -/
def Hart.gstatus (x : Hart) : W64 := BitVec.ofNat 64 (16 * b2n x.storeErr + x.lastCode.toNat)

/-- R122: a write of 1 to STORE_ERR clears it; what a CSR instruction leaves in LAST_CODE. -/
def csrClears (op : CsrOp) (v : W64) : Bool := op != .rc && bitOf v.toNat 4
def csrCode (op : CsrOp) (old v : BitVec 4) : BitVec 4 :=
  match op with | .rw => v | .rs => old ||| v | .rc => old &&& ~~~v

/-- R122: the CSR instructions on SZ_GSTATUS. -/
def Hart.gstatusAccess (x : Hart) (op : CsrOp) (rd : Nat) (v : W64) : Hart :=
  { (x.setReg rd x.gstatus).retire with
    storeErr := x.storeErr && !csrClears op v, lastCode := csrCode op x.lastCode (v.setWidth 4) }

def execSzGstatusCsrAccess (h : HartId) (op : CsrOp) (imm : Bool) (rd src : Fin 32) (s : State) : Result :=
  hartRun h s fun s => s.modHart h fun x =>
    x.gstatusAccess op rd.val (if imm then BitVec.ofNat 64 src.val else x.reg src.val)

/-! ## Interrupts -/

def execMachineTimerExpiry (h : HartId) (s : State) : Result := .next (s.reach (s.regN .roomMtimecmp (hkey h)))

/-- R149: an arrival withdrawn; an instance with no arrival left closes. -/
def State.withdraw (s : State) (h : HartId) (id : Nat) : State :=
  s.modRoom h.room.val fun y =>
    let b := tgetD y.barriers id ⟨0, []⟩
    let l := b.arrived.filter (· != h.hart.val)
    { y with barriers := if l.isEmpty then tdel id y.barriers else tset id { b with arrived := l } y.barriers }

/-- R148: what ends a hart's wait before an interrupt is taken: a WFI retires, and so does a wait whose value has come. -/
def State.beforeIrq (s : State) (h : HartId) : State :=
  match (s.hart h).wait with
  | .wfi => s.modHart h (·.retire)
  | .watch rd _ k _ => (match k.hit with | .value v => s.modHart h fun x => (x.setReg rd v).retire | _ => s)
  | .rbar _ id _ => s.withdraw h id
  | _ => s

/-- R85, R121: the hart is at an instruction boundary, or in a wait that an interrupt ends. -/
def HartWait.interruptible : HartWait → Bool
  | .result _ | .fence | .vfence .. | .acquire _ => false
  | _ => true

/-- R85, R121: the interrupt that the hart takes now, if any. -/
def State.irqToTake (s : State) (h : HartId) : Option Nat :=
  let x := s.hart h
  if x.idle || x.halted || !x.wait.interruptible then none else (s.pendingEnabled h).find? x.takes

def execInterruptTaken (h : HartId) (s : State) : Result :=
  match s.irqToTake h with
  | some c => .next ((s.beforeIrq h).modHart h (·.takeIrq c))
  | none => .next s

end Sys2Proof.Machine
end

