-- ==== Sys2Proof/Machine/HartSz.lean ====
section
/-! DEFINITION. The extension instructions of custom-1 to custom-3 that act on memory, on harts and on the room: global
accesses, atomics, leases, signals, waits, barriers, spawns and the view fence (R111, R139–R149, R155–R157). -/
namespace Sys2Proof.Machine

/-! ## Global loads and stores (R139, R140) -/

/-- A global load of n bytes. An OP5 that its space does not list is checked with the load of 8 bytes. -/
def szLoad (op5 bytes : Nat) (unsigned : Bool) (h : HartId) (w : W32) (s : State) : Result :=
  szRun h w (szIs custom1 op5 w || (op5 == 3 && szSpace w == custom1 && (szRow w).isNone)) s fun s =>
    whenReleased h w (szRl w) s
      (s.hartLoad h ((s.hart h).reg (szRs1 w)) ⟨szRd w, bytes, unsigned, false, bytes == 16, some (szF3 w), 4⟩)

/-- A global store of n bytes. -/
def szStore (op5 bytes : Nat) (h : HartId) (w : W32) (s : State) : Result :=
  szRun h w (szIs custom1 op5 w) s fun s =>
    let x := s.hart h
    let v := if bytes = 16 then (x.pair (szRs2 w)).toNat else (x.reg (szRs2 w)).toNat
    whenReleased h w (szRl w) s (s.hartStore h (x.reg (szRs1 w)) ⟨toBytes bytes v, some (szF3 w), 4, szAq w⟩)

def execSzGlb (h : HartId) (w : W32) (s : State) : Result := szLoad 0 1 false h w s
def execSzGlh (h : HartId) (w : W32) (s : State) : Result := szLoad 1 2 false h w s
def execSzGlw (h : HartId) (w : W32) (s : State) : Result := szLoad 2 4 false h w s
def execSzGld (h : HartId) (w : W32) (s : State) : Result := szLoad 3 8 false h w s
def execSzGlq (h : HartId) (w : W32) (s : State) : Result := szLoad 4 16 false h w s
def execSzGlbu (h : HartId) (w : W32) (s : State) : Result := szLoad 5 1 true h w s
def execSzGlhu (h : HartId) (w : W32) (s : State) : Result := szLoad 6 2 true h w s
def execSzGlwu (h : HartId) (w : W32) (s : State) : Result := szLoad 7 4 true h w s
def execSzGsb (h : HartId) (w : W32) (s : State) : Result := szStore 0x8 1 h w s
def execSzGsh (h : HartId) (w : W32) (s : State) : Result := szStore 0x9 2 h w s
def execSzGsw (h : HartId) (w : W32) (s : State) : Result := szStore 0xa 4 h w s
def execSzGsd (h : HartId) (w : W32) (s : State) : Result := szStore 0xb 8 h w s
def execSzGsq (h : HartId) (w : W32) (s : State) : Result := szStore 0xc 16 h w s

/-! ## Atomics and leases (R141, R142) -/

/-- An atomic of custom-1; the operation is made of the hart's registers. -/
def szAtomic (op5 : Nat) (op : Hart → HomeAtomic) (pair : Bool) (h : HartId) (w : W32) (s : State) : Result :=
  szRun h w (szIs custom1 op5 w) s fun s =>
    let x := s.hart h
    whenReleased h w (szRl w) s (s.hartAtomic h (x.reg (szRs1 w)) (op x) (szRd w) pair (some (szF3 w)) 4)

def execSzXaadd (h : HartId) (w : W32) (s : State) : Result :=
  if szRd w ≠ 0 then szAtomic 0x10 (fun x => .xaAdd (x.pair (szRs2 w))) true h w s
  else szRun h w (szIs custom1 0x10 w) s fun s =>
    let x := s.hart h
    whenReleased h w (szRl w) s (s.hartPost h (x.reg (szRs1 w)) (.xaAdd (x.pair (szRs2 w))) (szF3 w) (szAq w))
def execSzAmofaddW (h : HartId) (w : W32) (s : State) : Result :=
  szAtomic 0x11 (fun x => .fadd ((x.reg (szRs2 w)).setWidth 32)) false h w s
def execSzAmofmaxW (h : HartId) (w : W32) (s : State) : Result :=
  szAtomic 0x12 (fun x => .fmax ((x.reg (szRs2 w)).setWidth 32)) false h w s
def execSzAmofminW (h : HartId) (w : W32) (s : State) : Result :=
  szAtomic 0x13 (fun x => .fmin ((x.reg (szRs2 w)).setWidth 32)) false h w s
def execSzAmocasW (h : HartId) (w : W32) (s : State) : Result :=
  szAtomic 0x14 (fun x => .cas 4 ((x.reg (szRd w)).setWidth 128) ((x.reg (szRs2 w)).setWidth 128)) false h w s
def execSzAmocasD (h : HartId) (w : W32) (s : State) : Result :=
  szAtomic 0x15 (fun x => .cas 8 ((x.reg (szRd w)).setWidth 128) ((x.reg (szRs2 w)).setWidth 128)) false h w s
def execSzAmocasQ (h : HartId) (w : W32) (s : State) : Result :=
  szAtomic 0x16 (fun x => .cas 16 (x.pair (szRd w)) (x.pair (szRs2 w))) true h w s

def execSzLacq (h : HartId) (w : W32) (s : State) : Result :=
  szAtomic 0x18 (fun x => .leaseAcq (s.callerId h) (s.callerEpoch h) (x.reg (szRs2 w))) false h w s

/-- sz.lrel has release ordering whatever its bits. -/
def execSzLrel (h : HartId) (w : W32) (s : State) : Result :=
  szRun h w (szIs custom1 0x19 w) s fun s =>
    whenReleased h w true s (s.hartAtomic h ((s.hart h).reg (szRs1 w)) (.leaseRel (s.callerId h) (s.callerEpoch h)) (szRd w) false (some (szF3 w)) 4)

/-! ## The view fence (R111, R143) -/

/-- R143: the place of one byte of a fenced range: its offset in the own room's attic, or the trap. -/
def State.fenceByte (s : State) (h : HartId) (va : W64) : Except Nat (Bool × Nat) :=
  match s.translate h.room.val ((s.hart h).authority h.hart.val) .read .store va with
  | .error c => .error c
  | .ok t =>
    match s.placeFor h.room.val t.pa 1 with
    | .attic r b o => if r = h.room.val then .ok (b, o) else .error 7
    | _ => .error 7

/-- R133, R143: the trap of a view fence: page faults come before access faults, and the first byte before the last; a length above
192 MiB is an access fault of the first byte. -/
def State.fenceTrap (s : State) (h : HartId) (va last : W64) (n : Nat) : Option (Nat × W64) :=
  match s.fenceByte h va, s.fenceByte h last with
  | .error 15, _ => some (15, va)
  | _, .error 15 => some (15, last)
  | a, b =>
    if atticSize < n then some (7, va)
    else match a, b with
      | .error c, _ => some (c, va)
      | _, .error c => some (c, last)
      | _, _ => none

/-- R111: the attic ranges of a fenced range, page by page. A page between the first and the last that maps no attic byte of the
own room is left out (DESIGN CHOICE). -/
def State.fencePieces (s : State) (h : HartId) (va : W64) (n : Nat) : List (Bool × Nat × Nat) :=
  (pageList va.toNat n).filterMap fun p =>
    match s.fenceByte h (BitVec.ofNat 64 p.1) with
    | .ok (b, o) => some (b, o, p.2)
    | .error _ => none

/-- R111: the room's work that has been issued: requests of its harts, stages, and dispatched AVU commands. -/
def State.roomWork (s : State) (r : Nat) : FenceWork :=
  { reqs := (s.reqs.filter fun q => q.room == r).map fun q => (q.tag, q.gen)
    stages := (s.array r).stages.map (·.n)
    avus := ((s.avu r).queue.filter (·.dispatched)).map (·.entered) }

/-- R111: none of the work that a fence waits for is left. -/
def FenceWork.done (f now : FenceWork) : Bool :=
  f.reqs.all (fun x => !now.reqs.contains x) && f.stages.all (fun x => !now.stages.contains x) && f.avus.all fun x => !now.avus.contains x

def execSzVfence (h : HartId) (w : W32) (s : State) : Result :=
  szRun h w (szIs custom1 0x1C w) s fun s =>
    let x := s.hart h
    let va := x.reg (szRs1 w)
    let n := (x.reg (szRs2 w)).toNat
    let last := va + BitVec.ofNat 64 (n - 1)
    if n = 0 then (if s.hasStores h then s.modHart h fun x => { x with wait := .fence } else s.modHart h (·.retire))
    else match s.fenceTrap h va last n with
      | some (c, v) => s.xlateTrap h .read c v
      | none => s.modHart h fun x => { x with wait := .vfence (s.fencePieces h va n) (s.roomWork h.room.val) }

/-- R103, R111: data-cache lines of a range of a view invalidated. -/
def State.dropViewLines (s : State) (r : Nat) (banked : Bool) (lo n : Nat) : State :=
  if banked then
    s.modRoom r fun y => { y with
      dcache := y.dcache.filter fun l =>
        let o := atticBank false (l * 64) * bankSize + atticWithin false (l * 64)
        decide (o + 64 ≤ lo ∨ lo + n ≤ o) }
  else s.dropLines r lo n

def execViewFenceComplete (h : HartId) (s : State) : Result :=
  match (s.hart h).wait with
  | .vfence ranges work =>
    whenReady (work.done (s.roomWork h.room.val)) s
      ((ranges.foldl (fun s p => (s.dropViewLines h.room.val p.1 p.2.1 p.2.2).forgetViews h.room.val p.1 p.2.1 p.2.2) s).modHart h (·.retire))
  | _ => .next s

/-! ## The dumbwaiter's queue (R146) -/

/-- The steps of a program at an address, up to END or the last that can be read. The fuel is the steps left. -/
def State.programSteps (s : State) (pa : Nat) : Nat → Nat
  | 0 => 0
  | f + 1 =>
    match s.memRead (s.place pa 48) 48 with
    | .data l => if fld (ofBytes (l.take 8)) 63 60 = 0 then 1 else s.programSteps (pa + 48) f + 1
    | _ => 1

/-- R146: the keys of the bytes of a program. -/
def State.programRanges (s : State) (pa : Nat) : List (Nat × Nat) :=
  let n := 16 + 48 * s.programSteps (pa + 16) 256
  placeRanges (s.place pa n) n

def execSzDwq (h : HartId) (w : W32) (s : State) : Result :=
  szRun h w (szIs custom2 0 w) s fun s =>
    let x := s.hart h
    let r := h.room.val
    let va := x.reg (szRs1 w)
    let c := (x.reg (szRs2 w)).toNat
    if 7 < c then s.szOperand h 7
    else if va.toNat % 16 ≠ 0 then s.trap h 4 va
    else match s.translate r (x.authority h.hart.val) .read .load va with
    | .error e => s.xlateTrap h .read e va
    | .ok t =>
      let local_ := match s.placeFor r t.pa 16 with | .attic _ b _ => !b | .pantry .. => true | _ => false
      let d := s.dw (r * 8 + c)
      if !local_ then s.trap h 5 va
      else if 4 ≤ d.queue.length then s.modHart h fun x => { x with wait := .stall w }
      else
        let ticket := (s.regN .dwDoneCount (r * 8 + c) + d.queue.length + 1) % 2 ^ 32
        let n := s.newGuard
        ((((s.fillTlb r t).result h (szRd w) ticket).setGuard (.work n) r (s.programRanges t.pa))).modDw (r * 8 + c) fun d =>
          { d with queue := d.queue ++ [{ addr := t.pa, auth := x.authority h.hart.val, guard := n, tables := s.mem }] }

/-! ## Signals (R147) -/

/-- R147: the operation of sz.signal. -/
def signalOp (f3 : Nat) (x : W64) : HomeAtomic :=
  match f3 with | 0 => .set x | 1 => .clr x | _ => .add x

def szSignal (f3 : Nat) (h : HartId) (w : W32) (s : State) : Result :=
  szRun h w ((szIs custom2 1 w && (szF3 w == f3 || (f3 == 0 && decide (2 < szF3 w)))) || (f3 == 0 && szSpace w == custom2 && (szRow w).isNone)) s fun s =>
    let x := s.hart h
    let va := x.reg (szRs1 w)
    if va.toNat % 8 ≠ 0 then s.trap h 6 va
    else match s.translate h.room.val (x.authority h.hart.val) .both .store va with
    | .error c => s.xlateTrap h .both c va
    | .ok t =>
      let op := signalOp f3 (x.reg (szRs2 w))
      if t.type ≠ 2 then s.trap h 7 va
      else whenReleased h w true s (
        if s.signalNoTag h (s.placeFor h.room.val t.pa 8) op || !s.homeOpen (szRd w % 8) (s.placeFor h.room.val t.pa 8) 8 then s
        else ((s.fillTlb h.room.val t).signalAt h va t.pa (szRd w % 8) op).modHart h (·.retire))

def execSzSignalSet (h : HartId) (w : W32) (s : State) : Result := szSignal 0 h w s
def execSzSignalClr (h : HartId) (w : W32) (s : State) : Result := szSignal 1 h w s
def execSzSignalAdd (h : HartId) (w : W32) (s : State) : Result := szSignal 2 h w s

/-! ## Waits (R130, R148) -/

/-- R148: the watched word at a place, where it may be watched. -/
def watchedAt (r : Nat) : Place → Option Watched
  | .pantry q o => if q = r then some (.pantry o) else none
  | .roomMmio q o =>
    if q ≠ r then none
    else if o = 0x1018 then some .arrayCount
    else if o = 0x6008 then some .avuCount
    else if 0x2040 ≤ o ∧ o < 0x2080 then some (.dwCount ((o - 0x2040) / 8)) else none
  | _ => none

/-- R148: the condition code. -/
def condOf : Nat → Cond
  | 0 => .eq | 1 => .ne | 2 => .ge32 | 3 => .all | _ => .any

def execSzWait (h : HartId) (w : W32) (s : State) : Result :=
  szRun h w (szIs custom2 2 w) s fun s =>
    let x := s.hart h
    let va := x.reg (szRs1 w)
    if va.toNat % 8 ≠ 0 then s.trap h 4 va
    else match s.translate h.room.val (x.authority h.hart.val) .read .load va with
    | .error c => s.xlateTrap h .read c va
    | .ok t =>
      match watchedAt h.room.val (s.placeFor h.room.val t.pa 8) with
      | none => s.trap h 5 va
      | some wd =>
        let s := s.fillTlb h.room.val t
        let k := s.testWatch h.room.val ⟨wd, condOf (szF3 w), x.reg (szRs2 w), .none⟩
        match k.hit with
        | .poison => s.remoteTrap (hkey h) 26 3 va
        | .value v => s.modHart h fun x => (x.setReg (szRd w) v).retire
        | .none => s.modHart h fun x => { x with wait := .watch (szRd w) va k (s.waitDeadline h) }

def execSzWaitMet (h : HartId) (s : State) : Result :=
  match (s.hart h).wait with
  | .watch rd va k _ =>
    (match k.hit with
      | .value v => .next (s.modHart h fun x => (x.setReg rd v).retire)
      | .poison => .next (s.remoteTrap (hkey h) 26 3 va)
      | .none => .next s)
  | _ => .next s

def execSzWaitTimeout (h : HartId) (s : State) : Result :=
  match (s.hart h).wait with
  | .watch rd _ k (some d) =>
    whenReady (k.hit == .none) s ((s.reach d).modHart h fun x => (x.setReg rd (s.watchedValue h.room.val k.word)).retire)
  | _ => .next s

/-! ## Room barriers (R149) -/

def execSzRbar (h : HartId) (w : W32) (s : State) : Result :=
  szRun h w (szIs custom2 3 w) s fun s =>
    let x := s.hart h
    let r := h.room.val
    let id := (x.reg (szRs1 w)).toNat
    let n := (x.reg (szRs2 w)).toNat
    let b := (tget id (s.room r).barriers).getD ⟨n, []⟩
    if 3 < id ∨ n = 0 ∨ 32 < n then s.szOperand h 8
    else if b.count ≠ n then s.szOperand h 9
    else whenReleased h w true s (
      let arrived := b.arrived ++ [h.hart.val]
      let t := s.modHart h fun x => { x with wait := .rbar (szRd w) id (s.waitDeadline h) }
      if arrived.length = n
      then (t.releaseHarts r arrived).modRoom r fun y => { y with barriers := tdel id y.barriers }
      else t.modRoom r fun y => { y with barriers := tset id ⟨n, arrived⟩ y.barriers })

def execSzRbarTimeout (h : HartId) (s : State) : Result :=
  match (s.hart h).wait with
  | .rbar rd id (some d) => .next (((s.reach d).withdraw h id).modHart h fun x => (x.setReg rd 1).retire)
  | _ => .next s

/-! ## Threads (R89, R90, R155–R157) -/

/-- R89: the SPAWN message of a hart and a start block. -/
def State.spawnMsg (s : State) (h : HartId) (target : W32) (l : List Byte) : SpawnMsg :=
  ⟨target, s.callerId h, (s.hart h).satp, BitVec.toFin (BitVec.ofNat 2 (s.hart h).priv.code),
    BitVec.ofNat 64 (ofBytes (l.take 8)), BitVec.ofNat 64 (ofBytes ((l.drop 8).take 8)), BitVec.ofNat 64 (ofBytes ((l.drop 16).take 8))⟩

/-- R89, R108, R155: the spawn sent, as a request of TC4 with a tag, to a hart of this device or of another; one to an absent device
is answered with ABSENT. -/
def State.sendSpawn (s : State) (h : HartId) (rd : Nat) (m : SpawnMsg) (va : W64) : State :=
  if s.absentDevs.contains (m.target.toNat / 2 ^ 15 % 2 ^ 14) then s.result h rd 2
  else match s.freeTag h.room.val 4096 0 with
    | some g => (s.issue h g 4 m.target.toNat va (.spawn rd m)).modHart h fun x => { x with wait := .result g }
    | none => s

/-- R132: the operand is no thread ID: bits above the device, or a wing above 23. -/
def badThread (id : Nat) : Bool := decide (2 ^ 29 ≤ id ∨ 23 < id / 2 ^ 10 % 32)

def execSzSpawn (h : HartId) (w : W32) (s : State) : Result :=
  szRun h w (szIs custom3 2 w) s fun s =>
    let x := s.hart h
    let id := (x.reg (szRs1 w)).toNat
    let va := x.reg (szRs2 w)
    if badThread id then s.szOperand h 12
    else if va.toNat % 8 ≠ 0 then s.trap h 4 va
    else match s.translate h.room.val (x.authority h.hart.val) .read .load va with
    | .error c => s.xlateTrap h .read c va
    | .ok _ =>
      whenReleased h w true s (
        match s.unitRead h.room.val (x.authority h.hart.val) va.toNat 32 with
        | .error _ => s.result h (szRd w) 4
        | .ok b =>
          if b.any (·.2) then s.result h (szRd w) 4
          else if 256 ≤ (s.room h.room.val).children.length then s.result h (szRd w) 1
          else (s.bump).sendSpawn h (szRd w) (s.spawnMsg h (BitVec.ofNat 32 id) (b.map (·.1))) va)

/-- R155: a SPAWN from a hart of this device is one that the hart has sent. -/
def State.spawnSent (s : State) (m : SpawnMsg) : Bool :=
  match s.localThread m.spawner with
  | none => m.spawner.toNat / 2 ^ 15 != s.devId.toNat
  | some _ => (s.spawnReq m).isSome

def execSzJoin (h : HartId) (w : W32) (s : State) : Result :=
  szRun h w (szIs custom3 3 w) s fun s =>
    let v := (s.hart h).reg (szRs1 w)
    let child : W32 := v.setWidth 32
    if badThread v.toNat then s.szOperand h 12
    else match (s.room h.room.val).children.find? fun c => c.parent == h.hart.val && c.thread == child with
    | none => s.joined h (szRd w) child 4 0
    | some c =>
      match c.state with
      | .exited e => s.joined h (szRd w) child 0 e
      | .absent => s.joined h (szRd w) child 2 0
      | .running => s.modHart h fun x => { x with wait := .join (szRd w) child }

def execSzExit (h : HartId) (w : W32) (s : State) : Result :=
  szRun h w (szIs custom3 4 w) s fun s =>
    whenReleased h w true s (s.exitThread h ((s.hart h).reg (szRs1 w)))

end Sys2Proof.Machine
end

