-- ==== Sys2Proof/Machine/Azlys.lean ====
section
/-! DEFINITION. Azlys requests as their home performs them, and the completion cache (R289, R311–R314, R342–R348). -/
namespace Sys2Proof.Machine

/-! ## Homes and their completion caches (R346–R348) -/

/-- R348: entries of a cache, and entries with payload. -/
def cacheSize (home : Nat) : Nat × Nat :=
  if home < 768 then (32768, 2048) else if home < 800 then (1024, 256) else (4096, 1024)

/-- R348, R478: the record of an overflow names the room, or the die of the home. -/
def overflowRecord (s : State) (home : Nat) : ErrRecord :=
  if home < 768 then roomRecord s 0x42 home 1
  else dieRecord s 0x42 (if home < 792 then home - 768 else if home < 800 then 96 + (home - 792) else 104 + (home - 800)) 1

def State.cache (s : State) (k : Nat) : HomeCache := tgetD s.caches k {}
def State.modCache (s : State) (k : Nat) (f : HomeCache → HomeCache) : State := { s with caches := tset k (f (s.cache k)) s.caches }

/-- R346: the entry is for the key of this request. -/
def CacheEntry.isFor (e : CacheEntry) (q : ReqHeader) : Bool :=
  e.dev == q.srcDev.toNat && e.die == q.srcDie.val && e.isl == q.srcIsl.val && e.tag == q.tag.val

/-- R346: the entry present for a request: kept for 40 µs. -/
def State.cached (s : State) (home : Nat) (q : ReqHeader) : Option CacheEntry :=
  (s.cache home).entries.find? fun e => e.isFor q && decide (s.now ≤ e.time + 40000)

/-- R347: what the home does with a non-idempotent request: performs it, answers from the entry, or neither. -/
inductive CacheVerdict where
  | perform
  | answer (e : CacheEntry)
  | drop
  deriving DecidableEq, Repr

def State.verdict (s : State) (home : Nat) (q : ReqHeader) : CacheVerdict :=
  match s.cached home q with
  | some e => if e.gen = q.gen.val then .answer e else if q.reissue then .drop else .perform
  | none =>
    match (s.cache home).horizon with
    | some t => if q.reissue && decide (s.now < t + 40000) then .drop else .perform
    | none => .perform

/-- R348: room made for one more entry: the oldest leaves, the horizon is set and the overflow is recorded. -/
def State.cacheRoom (s : State) (home : Nat) (payload : Bool) : State :=
  let l := (s.cache home).entries
  let full := decide ((cacheSize home).1 ≤ l.length)
  let pfull := payload && decide ((cacheSize home).2 ≤ (l.filter fun e => !e.data.isEmpty).length)
  if full || pfull then
    let out := if full then l.head? else l.find? fun e => !e.data.isEmpty
    let t := s.modCache home fun c => { c with
      horizon := some s.now
      entries := match out with | some e => c.entries.erase e | none => c.entries }
    t.post (overflowRecord s home)
  else s

/-- R346: the entry of a request that has been performed and answered. -/
def State.cacheDone (s : State) (home : Nat) (q : ReqHeader) (status : Nat) (data : List Byte) : State :=
  let t := s.modCache home fun c => { c with entries := c.entries.filter fun e => !(e.isFor q) && decide (s.now ≤ e.time + 40000) }
  (t.cacheRoom home (!data.isEmpty)).modCache home fun c => { c with
    entries := c.entries ++ [⟨q.srcDev.toNat, q.srcDie.val, q.srcIsl.val, q.tag.val, q.gen.val, status, data.take 16, s.now⟩] }

/-! ## Performing a request -/

/-- R311: the place that ADDR names: DEVICE is filled in, and only a requester of this device reaches host memory. -/
def State.requestPlace (s : State) (q : HomeRequest) (n : Nat) : Place :=
  let a := q.addr.toNat
  if 6 ≤ paType a ∧ q.hdr.srcDev ≠ s.devId then .accessError
  else s.place (if fld a 51 38 = s.devId.toNat ∨ 6 ≤ paType a then a + 2 ^ 55 else a) n

/-- R163, R297, R364: the request is for a home of this device that takes it now, in its class. -/
def State.takes (s : State) (q : HomeRequest) (p : Place) (n : Nat) : Bool :=
  s.admitsPacket q.hdr &&
  match p with
  | .remote _ => false
  | .roomMmio r _ => !(s.room r).stalled
  | _ => s.homeRuns q.cls.val p n

/-- The status of an answer that brings no data. -/
def answerStatus (code : Nat) : Nat := if code = 2 then 2 else 1

/-- R314: the words of a payload that are marked poisoned, byte by byte. -/
def mapPoison (l : List Byte) (pmap : Nat) : List PByte := l.zipIdx.map fun b => (b.1, bitOf pmap (b.2 / 8))

/-- R318: the die of a place serves an operation. -/
def State.serves (s : State) (p : Place) (opc : Nat) : Bool := s.dieServes (homeDie (homeOf p)) opc

/-- R313: a non-idempotent request, performed, answered from the cache, or dropped (R347); one that its die does not serve
is answered UNSUPPORTED (R318). -/
def homeRun (q : HomeRequest) (opc n : Nat) (s : State) (perform : Place → State × HomeReply) : Result :=
  let p := s.requestPlace q n
  let home := homeOf p
  if !s.takes q p n then .next s
  else match s.verdict home q.hdr with
    | .drop => .next s
    | .answer e => .next (s.respond opc q.hdr ⟨e.status, e.data, []⟩ true)
    | .perform =>
      let r := if s.serves p opc then perform p else (s, ⟨3, [], []⟩)
      .next ((r.1.cacheDone home q.hdr r.2.status r.2.data).respond opc q.hdr r.2 false)

/-- R528: what the image window gives the partner of link L0. Whether that partner is in phase 4 of a start from this part is not
known here: a free choice. -/
def State.windowBytes (s : State) (q : HomeRequest) (p : Place) : Option (List Byte) :=
  match p with
  | .devMmio o =>
    if 0x02800000 ≤ o ∧ o < 0x03000000 ∧ (s.link 0).state = 3 ∧ q.hdr.srcDev.toNat = (s.link 0).peerDev ∧ Config.freeBool s.free 2360
    then some (s.flashBytes s.optFlash (0x30000 + (o - 0x02800000)) q.len) else none
  | _ => none

/-- R313: RD. -/
def execReqRd (q : HomeRequest) (s : State) : Result :=
  let p := s.requestPlace q q.len
  if !s.takes q p q.len || q.len == 0 || decide (256 < q.len) then .next s
  else if !s.serves p 0 then .next (s.respond 0 q.hdr ⟨3, [], []⟩ false)
  else
    match p with
    | .roomMmio .. | .wingMmio .. | .devMmio .. =>
      (match s.mmioRead p q.len with
        | .data l => .next (s.bump.respond 0 q.hdr ⟨0, (s.windowBytes q p).getD l, []⟩ false)
        | .error c => .next (s.respond 0 q.hdr ⟨answerStatus c, [], []⟩ false)
        | _ => .next s)
    | _ =>
      match s.pread p q.len with
      | .ok l =>
        .next ((s.afterRead p q.len).respond 0 q.hdr
          ⟨0, l.map (·.1), (List.range (ceilDiv q.len 8)).filter fun j => ((l.drop (8 * j)).take 8).any (·.2)⟩ false)
      | .error c => .next ((s.afterRead p q.len).respond 0 q.hdr ⟨answerStatus c, [], []⟩ false)

/-- R93, R313, R466: a write at its home. Who writes a register is not in the request, so its privilege there is a free choice; a
broadcast from a hart that is not in machine mode ends in an access error. -/
def State.homeWrite (s : State) (q : HomeRequest) (p : Place) : State × HomeReply :=
  let n := q.payload.length
  match p with
  | .roomMmio .. | .wingMmio .. | .devMmio .. | .broadcast .. =>
    let c := s.mmioCode p n
    let machine := Config.freeBool s.free 7
    if c ≠ 0 then (s, ⟨answerStatus c, [], []⟩)
    else if !machine && (match p with | .broadcast .. => true | _ => false) then (s.bump, ⟨1, [], []⟩)
    else (s.bump.mmioWrite ⟨machine, none⟩ p n (ofBytes q.payload), ⟨0, [], []⟩)
  | _ =>
    let c := s.writeCode p q.payload
    ((s.pwrite p (mapPoison q.payload q.pmap.toNat)).storeAt p n, ⟨if c = 0 then 0 else answerStatus c, [], []⟩)

/-- R313: WR. -/
def execReqWr (q : HomeRequest) (s : State) : Result :=
  homeRun q 1 q.payload.length s fun p => if q.payload = [] then (s, ⟨1, [], []⟩) else s.homeWrite q p

/-- R314: what an atomic with a poisoned operand leaves in its target is not said: free bytes. -/
def State.spoilTarget (s : State) (q : HomeRequest) (p : Place) (n : Nat) : State :=
  if q.pmap = 0 then s else (s.spoilRanges (placeRanges p n)).bump

/-- R112, R181, R183, R318: an atomic at its home. A door does not serve atomics. -/
def State.homeAtomicOp (s : State) (q : HomeRequest) (p : Place) (op : HomeAtomic) : State × HomeReply :=
  let signal := match op with | .set _ | .clr _ | .add _ => true | _ => false
  match p with
  | .devMmio _ | .host .. => (s, ⟨3, [], []⟩)
  | _ =>
    if !homeAllows op p || q.addr.toNat % homeWidth op != 0 then (s, ⟨answerStatus (if p = .absent then 2 else 4), [], []⟩)
    else match s.atomicAnswer op p with
      | .data l => ((s.atomicPerform op p).spoilTarget q p (homeWidth op), ⟨0, if signal || q.noret then [] else answerBytes op l, []⟩)
      | .poisoned l =>
        if signal then (s.afterRead p 8, ⟨1, [], []⟩)
        else (s.afterRead p (homeWidth op), ⟨0, if q.noret then [] else l, if q.noret then [] else List.range (ceilDiv (homeWidth op) 8)⟩)
      | .error c => (s.afterRead p (homeWidth op), ⟨answerStatus c, [], []⟩)
      | .waiting => (s, ⟨1, [], []⟩)

/-- An operand of a request: n bytes of its payload at an offset. -/
def operandOf (q : HomeRequest) (off n : Nat) : Nat := ofBytes ((q.payload.drop off).take n)

/-- R313: an atomic with its operation made of the payload; a payload of another length is not served. -/
def homeAtomicRun (q : HomeRequest) (lens : List Nat) (op : HomeRequest → HomeAtomic) (s : State) : Result :=
  homeRun q (atomicOpc (op q)) (homeWidth (op q)) s fun p =>
    if lens.contains q.payload.length then s.homeAtomicOp q p (op q) else (s, ⟨1, [], []⟩)

def amoOf (o : AmoOp) (q : HomeRequest) : HomeAtomic := .amo o (q.payload.length == 8) (BitVec.ofNat 64 (ofBytes q.payload))

def execReqSwap (q : HomeRequest) (s : State) : Result := homeAtomicRun q [4, 8] (amoOf .swap) s
def execReqAdd (q : HomeRequest) (s : State) : Result := homeAtomicRun q [4, 8] (amoOf .add) s
def execReqAnd (q : HomeRequest) (s : State) : Result := homeAtomicRun q [4, 8] (amoOf .and) s
def execReqOr (q : HomeRequest) (s : State) : Result := homeAtomicRun q [4, 8] (amoOf .or) s
def execReqXor (q : HomeRequest) (s : State) : Result := homeAtomicRun q [4, 8] (amoOf .xor) s
def execReqMin (q : HomeRequest) (s : State) : Result := homeAtomicRun q [4, 8] (amoOf .min) s
def execReqMax (q : HomeRequest) (s : State) : Result := homeAtomicRun q [4, 8] (amoOf .max) s
def execReqMinu (q : HomeRequest) (s : State) : Result := homeAtomicRun q [4, 8] (amoOf .minu) s
def execReqMaxu (q : HomeRequest) (s : State) : Result := homeAtomicRun q [4, 8] (amoOf .maxu) s
def execReqXaAdd (q : HomeRequest) (s : State) : Result :=
  homeAtomicRun q [16] (fun q => .xaAdd (BitVec.ofNat 128 (operandOf q 0 16))) s
def execReqFadd (q : HomeRequest) (s : State) : Result := homeAtomicRun q [4] (fun q => .fadd (BitVec.ofNat 32 (operandOf q 0 4))) s
def execReqFmax (q : HomeRequest) (s : State) : Result := homeAtomicRun q [4] (fun q => .fmax (BitVec.ofNat 32 (operandOf q 0 4))) s
def execReqFmin (q : HomeRequest) (s : State) : Result := homeAtomicRun q [4] (fun q => .fmin (BitVec.ofNat 32 (operandOf q 0 4))) s

/-- R313: the payload holds the compare value, then the new value. -/
def execReqCas (q : HomeRequest) (s : State) : Result :=
  homeAtomicRun q [8, 16, 32] (fun q =>
    let n := q.payload.length / 2
    .cas n (BitVec.ofNat 128 (operandOf q 0 n)) (BitVec.ofNat 128 (operandOf q n n))) s

def execReqLeaseAcq (q : HomeRequest) (s : State) : Result :=
  homeAtomicRun q [16] (fun q => .leaseAcq (BitVec.ofNat 32 (operandOf q 0 4)) q.hdr.epoch (BitVec.ofNat 64 (operandOf q 8 8))) s
def execReqLeaseRel (q : HomeRequest) (s : State) : Result :=
  homeAtomicRun q [8] (fun q => .leaseRel (BitVec.ofNat 32 (operandOf q 0 4)) q.hdr.epoch) s
def execReqSet (q : HomeRequest) (s : State) : Result := homeAtomicRun q [8] (fun q => .set (BitVec.ofNat 64 (operandOf q 0 8))) s
def execReqClr (q : HomeRequest) (s : State) : Result := homeAtomicRun q [8] (fun q => .clr (BitVec.ofNat 64 (operandOf q 0 8))) s
def execReqSignalAdd (q : HomeRequest) (s : State) : Result := homeAtomicRun q [8] (fun q => .add (BitVec.ofNat 64 (operandOf q 0 8))) s

/-! ## Threads (R89, R90) -/

/-- R346, R347, R318: a SPAWN or EXIT_NOTICE from another device at its home room, which takes it while its island runs. -/
def roomRun (q : ReqHeader) (room opc : Nat) (s : State) (perform : State × List Byte) : Result :=
  if !s.admitsPacket q || (s.room room).stalled then .next s
  else match s.verdict room q with
  | .drop => .next s
  | .answer e => .next (s.respond opc q ⟨e.status, e.data, []⟩ true)
  | .perform =>
    let r : State × HomeReply := if s.dieServes (room / 32) opc then (perform.1, ⟨0, perform.2, []⟩) else (s, ⟨3, [], []⟩)
    .next ((r.1.cacheDone room q r.2.status r.2.data).respond opc q r.2 false)

def execMsgSpawn (q : ReqHeader) (m : SpawnMsg) (s : State) : Result :=
  match s.localThread m.target with
  | none => .next s
  | some t =>
    let st := s.spawnStatus t m
    let u := s.performSpawn t m
    if (s.localThread m.spawner).isSome then whenReady (s.spawnSent m && !(s.room t.room.val).stalled) s (u.answerSpawn m st)
    else roomRun q t.room.val 0x1B s (u, toBytes 8 st)

/-- R90: an exit notice at the spawner's room: the exit value or ABSENT, held for the join or ending it. -/
def execMsgExitNotice (q : ReqHeader) (child parent : W32) (status : Nat) (value : W64) (s : State) : Result :=
  let m : ExitMsg := ⟨child, parent, status, value⟩
  match s.localThread parent with
  | none => .next s
  | some p =>
    let own := (s.localThread child).isSome
    let known := (s.room p.room.val).children.any fun c => c.parent == p.hart.val && c.thread == child && c.state == .running
    let t := { s with exitMsgs := s.exitMsgs.erase m }
    let u := if known then t.childEnded p child (if status = 0 then .exited value else .absent) else t
    if own then whenReady (s.exitMsgs.contains m && !(s.room p.room.val).stalled) s u else roomRun q p.room.val 0x1C s (u, [])

end Sys2Proof.Machine
end

