-- ==== Sys2Proof/Machine/Access.lean ====
section
/-! DEFINITION. Register accesses from harts, hosts and processors, and accesses of a host through the BARs of a door (R100, R123,
R124, R372–R374, R456, R482, R525, R526). -/
namespace Sys2Proof.Machine

/-! ## Writes to registers -/

/-- R525: a write of 8 bytes to a register of a room, where the room's block answers. -/
def roomWrite (u : RegUser) (r : RoomIx) (off v : Nat) (s : State) : Result :=
  whenReady (s.mmioCode (s.place (localPa 3 r.val off) 8) 8 == 0 && (s.room r.val).phase != .inReset) s (s.roomRegWrite u r.val off 8 v)

/-- The word of ROOM_TLBI with a scope, an ASID and a page number. -/
def tlbiWord (scope asid vpn : Nat) : Nat := scope * 2 ^ 62 + asid * 2 ^ 44 + vpn

def execRoomTlbiAll (r : RoomIx) (s : State) : Result := roomWrite ⟨false, none⟩ r 0x28 (tlbiWord 0 0 0) s
def execRoomTlbiAsid (r : RoomIx) (asid : W16) (s : State) : Result := roomWrite ⟨false, none⟩ r 0x28 (tlbiWord 1 asid.toNat 0) s
def execRoomTlbiAsidVpn (r : RoomIx) (asid : W16) (vpn : BitVec 36) (s : State) : Result :=
  roomWrite ⟨false, none⟩ r 0x28 (tlbiWord 2 asid.toNat vpn.toNat) s
def execRoomTlbiVpn (r : RoomIx) (vpn : BitVec 36) (s : State) : Result := roomWrite ⟨false, none⟩ r 0x28 (tlbiWord 3 0 vpn.toNat) s

def execRoomIrqRouteWrite (r : RoomIx) (machine : Bool) (value : W64) (s : State) : Result :=
  roomWrite ⟨machine, none⟩ r 0x18 value.toNat s

def execErrConsWrite (r : RoomIx) (value : W64) (s : State) : Result := roomWrite ⟨false, none⟩ r 0xC008 value.toNat s

/-! ## Accesses of a host (R372, R374, R456) -/

/-- A host access reaches the part. -/
def State.hostReaches (s : State) (d : Nat) : Bool := s.pcieRuns d && (s.door d).linkUp

/-- R372: a failed access: an Unsupported Request for a read, nothing for a write; BAR_ERR. -/
def State.barFails (s : State) (d : Nat) (read : Bool) : State :=
  let t := s.orReg .doorErr d 1
  if read then t.send (.pcie d 1 [] false) else t

/-- R456: what answers through BAR0 before phase 8. -/
def earlyBlock (off : Nat) : Bool :=
  decide (off < 0x02000000) || decide (0x02100000 ≤ off ∧ off < 0x02101000) || decide (0x05000000 ≤ off ∧ off < 0x05010000) ||
  decide (0x06000000 ≤ off ∧ off < 0x06004000)

def strongroomBlock (off : Nat) : Bool := decide (0x04000000 ≤ off ∧ off < 0x05000000)

/-- R372, R456: a BAR0 access of n bytes is performed. -/
def State.bar0Ok (s : State) (off n : Nat) : Bool :=
  decide (off < 0x10000000) && s.mmioCode (.devMmio off) n == 0 && (decide (8 ≤ s.boot.phase) || earlyBlock off)

def State.bar0 (s : State) (a : BarAccess) : State :=
  let d := a.door.val
  match a.data with
  | none =>
    if !s.bar0Ok a.off a.len then s.barFails d true
    else if strongroomBlock a.off then s.send (.pcie d 0 (toBytes a.len 0) false)
    else s.send (.pcie d 0 (toBytes a.len (regPart (s.devReg (a.off / 8 * 8)) a.off a.len)) false)
  | some l =>
    if !s.bar0Ok a.off l.length then s.barFails d false
    else if strongroomBlock a.off then s
    else s.mmioWrite ⟨true, none⟩ (.devMmio a.off) l.length (ofBytes l)

def execBar0Access (a : BarAccess) (s : State) : Result := whenReady (s.hostReaches a.door.val) s (s.bar0 a)

/-! ## BAR2 (R13, R373, R374) -/

/-- R373: bytes of a slice. -/
def State.sliceSize (s : State) (d : Nat) : Nat := 2 ^ ((s.pcieOf d).barLog2 - 12)

/-- R373: the physical address of an access, where its entry maps it. -/
def State.aperture (s : State) (d off : Nat) (write : Bool) : Option Nat :=
  let slice := s.sliceSize d
  let e := s.regN .doorAperture (d * 4096 + off / slice)
  let pa := fld e 55 0 / slice * slice + off % slice
  if bitOf e 63 ∧ bitOf e (if write then 62 else 61) ∧ paType (fld e 55 0) ≤ 2 ∧ off < 2 ^ (s.pcieOf d).barLog2 then some pa else none

/-- R373, R374: a read through the aperture. What another device answers is free. -/
def State.bar2Read (s : State) (d : Nat) (p : Place) (n : Nat) : State :=
  match p with
  | .remote _ =>
    if Config.freeBool s.free 2410 then s.bump.barFails d true
    else
      match s.pread p n with
      | .ok l => s.bump.send (.pcie d 0 (l.map (·.1)) (Config.freeBool s.free 2411))
      | .error _ => s.barFails d true
  | _ =>
    match s.pread p n with
    | .ok l => (s.afterRead p n).send (.pcie d 0 (l.map (·.1)) (l.any (·.2)))
    | .error _ => (s.afterRead p n).barFails d true

/-- R373, R374, R466: a write through the aperture; with EP its words are stored poisoned. -/
def State.bar2Write (s : State) (d : Nat) (p : Place) (l : List Byte) (ep : Bool) : State :=
  match p with
  | .remote _ => s
  | _ =>
    let t := if s.writeCode p l = 2 then s else (s.pwrite p (l.map fun b => (b, ep))).storeAt p l.length
    if s.writeCode p l = 0 then t else t.barFails d false

def State.bar2 (s : State) (a : BarAccess) : State :=
  let d := a.door.val
  let write := a.data.isSome
  let n := match a.data with | some l => l.length | none => a.len
  match (if 8 ≤ s.boot.phase then s.aperture d a.off write else none) with
  | none => s.barFails d (!write)
  | some pa =>
    let p := s.dwPlace (doorChan d 0) pa n
    if !s.homeRuns 6 p n then s
    else match a.data with
      | none => s.bar2Read d p n
      | some l => s.bar2Write d p l a.ep

def execBar2Access (a : BarAccess) (s : State) : Result :=
  let n := match a.data with | some l => l.length | none => a.len
  whenReady (s.hostReaches a.door.val && decide (0 < n ∧ n ≤ 4096)) s (s.bar2 a)

/-! ## Any register (R525, R526) -/

/-- R526: who may write a register, and as what. A hart in user mode reaches one only by a store through a leaf (R124), and this command
names none. -/
def State.writerOf (s : State) (who : Accessor) (p : Place) : Option RegUser :=
  match who with
  | .hart h =>
    let x := (s.hart h).level
    if x = .user then none
    else if mmioRights x true h.room.val p = 0 then some ⟨(s.hart h).priv == .machine, some (h.room.val, h.hart.val)⟩ else none
  | .host d =>
    match p with
    | .devMmio o => if s.hostReaches d.val && s.bar0Ok o 8 && !strongroomBlock o then some ⟨true, none⟩ else none
    | _ => none
  | .processor => some ⟨true, none⟩

/-- R525: a write to a register by its address; one that its writer may not make is not performed. -/
def execRegisterWrite (who : Accessor) (pa : BitVec 56) (size : Nat) (value : W64) (s : State) : Result :=
  let p := s.place pa.toNat size
  match s.writerOf who p with
  | some u => .next (s.mmioWrite u p size (value.toNat % 2 ^ (8 * size)))
  | none => .next s

end Sys2Proof.Machine
end

