-- ==== Sys2Proof/Machine/Debug.lean ====
section
/-! DEFINITION. The TAP, the boundary register, the debug transport and the debug module (R507, R511–R513). What R512 takes from the
RISC-V External Debug Support specification is that specification's (PRESUMED). -/
namespace Sys2Proof.Machine

/-! ## The TAP (R511) -/

def State.modTest (s : State) (f : TestB → TestB) : State := { s with test := f s.test }

/-- R442: the TAP runs whenever VAUX and VDD_IO are in range. -/
def tapRun (s t : State) : Result := whenReady (s.boot.hold != .power) s t

/-- R511: an instruction is loaded; what EXTEST, CLAMP or HIGHZ did to the pins ends. -/
def State.loadIr (s : State) (ir : Nat) : State := s.modTest fun x => { x with ir := ir, driven := none, floating := false }

/-- R511: what the pins read as is free. -/
def State.pinsNow (s : State) : Nat := (Config.freeWord s.free 2300).toNat % 2 ^ 43

/-- R511: an instruction that acts on pins only while RESET_N is low, and otherwise as BYPASS. -/
def State.pinInstr (s : State) (ir : Nat) (f : State → State) : State :=
  if s.test.resetN then (s.loadIr ir).send (.tap 0xFF 0) else f (s.loadIr ir)

def execTapExtest (cells : BitVec 43) (s : State) : Result :=
  tapRun s (s.pinInstr 0 fun t =>
    ((t.modTest fun x => { x with boundary := cells.toNat, driven := some cells.toNat }).send (.tap 0 t.pinsNow)).bump)

def execTapSamplePreload (cells : BitVec 43) (s : State) : Result :=
  tapRun s (((s.loadIr 1).modTest fun x => { x with boundary := cells.toNat }).send (.tap 1 s.pinsNow)).bump

def execTapIdcode (s : State) : Result := tapRun s ((s.loadIr 2).send (.tap 2 0xB520999D))

def execTapClamp (s : State) : Result :=
  tapRun s (s.pinInstr 3 fun t => (t.modTest fun x => { x with driven := some x.boundary }).send (.tap 0xFF 0))

def execTapHighz (s : State) : Result :=
  tapRun s (s.pinInstr 4 fun t => (t.modTest fun x => { x with floating := true }).send (.tap 0xFF 0))

/-- R512: DTMCS and DMI are offered: the option block is applied, and JTAG_LOCK is 0. -/
def State.debugOpen (s : State) : Bool := !s.boot.option.isEmpty && !s.jtagLocked

/-- R511: a code that acts as BYPASS. -/
def State.bypasses (s : State) (code : Nat) : Bool := decide (4 < code) && !((code == 0x10 || code == 0x11) && s.debugOpen)

def execTapBypass (code : Byte) (s : State) : Result :=
  whenReady (s.boot.hold != .power && s.bypasses code.toNat) s ((s.loadIr code.toNat).send (.tap 0xFF 0))

/-- R512: DTMCS: version 1, abits 7, idle 1, no error. -/
def execTapDtmcs (_dmiReset : Bool) (s : State) : Result :=
  tapRun s (if s.debugOpen then (s.loadIr 0x10).send (.tap 0x10 0x1071) else (s.loadIr 0x10).send (.tap 0xFF 0))

/-! ## Harts and processors (R512) -/

/-- R512: the key of a room's hart by its index. -/
def debugHart (n : Nat) : Nat := globalRoom (n / 32) * 32 + n % 32

/-- R512: an index that names something: a room's hart in service, or a processor of the part. -/
def State.debugExists (s : State) (n : Nat) : Bool :=
  if n < 24576 then decide ((s.room (globalRoom (n / 32))).cond.state ≤ 2) else decide (n < 24612)

/-- R512: it is unavailable: its room, wing, porch or door is in reset or down. -/
def State.debugUnavailable (s : State) (n : Nat) : Bool :=
  if n < 24576 then (s.room (globalRoom (n / 32))).phase == .inReset
  else if n < 24600 then (s.wing (n - 24576)).state == 2
  else if n < 24608 then !s.porchUp (n - 24600)
  else (s.door ((n - 24608) / 2)).down

def State.debugHalted (s : State) (n : Nat) : Bool := s.test.halted.contains n || (decide (n < 24576) && (s.hartAt (debugHart n)).halted)

/-- R512: the debug module can be reached and is active. -/
def State.debugRuns (s : State) : Bool := s.debugOpen && s.test.dmactive && !(s.door 0).down

def State.mayDebug (s : State) (n : Nat) : Bool := s.debugRuns && s.debugExists n && !s.debugUnavailable n

/-- R513: a hart or processor is halted. -/
def State.haltHart (s : State) (n : Nat) : State :=
  let t := s.modTest fun x => { x with hartsel := n, halted := ninsert n x.halted, resumeAck := false }
  if n < 24576 then t.modHartAt (debugHart n) fun x => { x with halted := true } else t

def execHartHalt (n : Fin 24612) (s : State) : Result := whenReady (s.mayDebug n.val) s (s.haltHart n.val)

/-- R513: a hart goes on: a result that waits for it is delivered, and a trap that waits is taken. -/
def Hart.resume (x : Hart) : Hart :=
  let y := { x with halted := false, heldResult := none, heldTrap := none }
  let y := match x.heldResult with | some (k, l) => y.result k l | none => y
  match x.heldTrap with | some (c, v) => y.trap c v | none => y

/-- R156, R513: the end of a child that came while its spawner was halted ends the join. -/
def State.endJoin (s : State) (h : HartId) : State :=
  match (s.hart h).wait with
  | .join _ child =>
    (match (s.room h.room.val).children.find? fun c => c.parent == h.hart.val && c.thread == child with
      | some c => if c.state = .running then s else s.childEnded h child c.state
      | none => s)
  | _ => s

def State.resumeHart (s : State) (n : Nat) : State :=
  let t := s.modTest fun x => { x with hartsel := n, halted := x.halted.filter (· != n), resumeAck := true }
  if n < 24576 then
    (let u := t.modHartAt (debugHart n) Hart.resume
     match u.localThread (BitVec.ofNat 32 (u.threadId (debugHart n))) with
     | some h => u.endJoin h
     | none => u)
  else t

def execHartResume (n : Fin 24612) (s : State) : Result :=
  whenReady (s.mayDebug n.val && s.debugHalted n.val) s (s.resumeHart n.val)

/-- R512: ndmreset makes a host-command reset. -/
def execDbgNdmreset (s : State) : Result := whenReady s.debugRuns s (s.askReset 8)

/-! ## The debug module's registers (R512) -/

/-- R512: dmstatus for the selected index: version 2, authenticated, implicit ebreak; havereset is free. -/
def State.dmStatus (s : State) : Nat :=
  let n := s.test.hartsel
  let ex := s.debugExists n
  let un := ex && s.debugUnavailable n
  let ha := ex && !un && s.debugHalted n
  let both (b : Bool) (i : Nat) : Nat := b2n b * 3 * 2 ^ i
  2 + 128 + both ha 8 + both (ex && !un && !ha) 10 + both un 12 + both (!ex) 14 + both (s.test.resumeAck && ex) 16 +
  both (ex && Config.freeBool s.free 2350) 18 + 2 ^ 22

/-- The debug module at its reset values; harts that are halted stay so. -/
def TestB.dmReset (x : TestB) : TestB :=
  { x with dmactive := false, hartsel := 0, data := 0, progbuf := [0, 0], resumeAck := false, cmderr := 0, sbaddr := 0, sbdata := 0, sberror := 0 }

/-- R512: a DMI access; while dmactive is 0 only dmactive itself is written. -/
def State.dmi (s : State) (a : DmiAccess) : State :=
  let on := s.test.dmactive
  let write (f : TestB → TestB) : State := if on then (s.modTest f).send (.tap 0x11 0) else s.send (.tap 0x11 0)
  let read (x : Nat) : State := s.send (.tap 0x11 (if on then x else 0))
  match a with
  | .activate b => (s.modTest fun x => if b then { x with dmactive := true } else x.dmReset).send (.tap 0x11 0)
  | .selectHart n => write fun x => { x with hartsel := n.val }
  | .writeData v => write fun x => { x with data := v }
  | .readData => read s.test.data.toNat
  | .readStatus => (s.send (.tap 0x11 (if on then s.dmStatus else 0))).bump
  | .writeProgbuf n v => write fun x => { x with progbuf := lset x.progbuf n.val v }
  | .readProgbuf n => read (s.test.progbuf.getD n.val 0).toNat
  | .writeSbAddress v => write fun x => { x with sbaddr := v }
  | .clearErrors => write fun x => { x with cmderr := 0, sberror := 0 }

def execTapDmi (a : DmiAccess) (s : State) : Result :=
  tapRun s (if s.debugOpen && !(s.door 0).down then (s.loadIr 0x11).dmi a else (s.loadIr 0x11).send (.tap 0xFF 0))

/-! ## Access Register (R512) -/

/-- sstatus as a view of mstatus; sie and sip as views of mie and of what is pending. -/
def sstatusMask : W64 := BitVec.ofNat 64 0x80000003000DE762
def sieMask : W64 := BitVec.ofNat 64 0x222

/-- R122, R130, R512: the value of a CSR of a hart; none where there is no such CSR. -/
def State.debugCsr (s : State) (k n : Nat) : Option W64 :=
  let x := s.hartAt k
  match n with
  | 0x001 => some (x.fcsr.setWidth 64 &&& 0x1F)
  | 0x002 => some ((x.fcsr.setWidth 64 >>> 5) &&& 7)
  | 0x003 => some (x.fcsr.setWidth 64 &&& 0xFF)
  | 0x100 => some (x.mstatus &&& sstatusMask)
  | 0x104 => some (x.mie &&& sieMask)
  | 0x105 => some x.stvec
  | 0x106 => some x.scounteren
  | 0x140 => some x.sscratch
  | 0x141 => some x.sepc
  | 0x142 => some x.scause
  | 0x143 => some x.stval
  | 0x180 => some x.satp
  | 0x300 => some x.mstatus
  | 0x302 => some x.medeleg
  | 0x303 => some x.mideleg
  | 0x304 => some x.mie
  | 0x305 => some x.mtvec
  | 0x306 => some x.mcounteren
  | 0x340 => some x.mscratch
  | 0x341 => some x.mepc
  | 0x342 => some x.mcause
  | 0x343 => some x.mtval
  | 0x7B1 => some x.pc
  | 0x8C0 => some x.gstatus
  | 0x8C1 => some (x.waitTmo.setWidth 64)
  | 0xC01 => some (BitVec.ofNat 64 s.now)
  | 0xF14 => some (BitVec.ofNat 64 (s.threadId k))
  | _ => none

/-- R122, R130: a CSR written, as a CSR instruction in machine mode would. -/
def Hart.csrPut (x : Hart) (n : Nat) (v : W64) : Hart :=
  match n with
  | 0x001 => { x with fcsr := (x.fcsr &&& 0xE0) ||| (v.setWidth 32 &&& 0x1F) }
  | 0x002 => { x with fcsr := (x.fcsr &&& 0x1F) ||| ((v.setWidth 32 &&& 7) <<< 5) }
  | 0x003 => { x with fcsr := v.setWidth 32 &&& 0xFF }
  | 0x100 => { x with mstatus := (x.mstatus &&& ~~~sstatusMask) ||| (v &&& sstatusMask) }
  | 0x104 => { x with mie := (x.mie &&& ~~~sieMask) ||| (v &&& sieMask) }
  | 0x105 => { x with stvec := v }
  | 0x106 => { x with scounteren := v }
  | 0x140 => { x with sscratch := v }
  | 0x141 => { x with sepc := v }
  | 0x142 => { x with scause := v }
  | 0x143 => { x with stval := v }
  | 0x180 => { x with satp := if v.toNat / 2 ^ 60 = 0 ∨ v.toNat / 2 ^ 60 = 14 then v else x.satp }
  | 0x300 => { x with mstatus := v }
  | 0x302 => { x with medeleg := v }
  | 0x303 => { x with mideleg := v }
  | 0x304 => { x with mie := v }
  | 0x305 => { x with mtvec := v }
  | 0x306 => { x with mcounteren := v }
  | 0x340 => { x with mscratch := v }
  | 0x341 => { x with mepc := v }
  | 0x342 => { x with mcause := v }
  | 0x343 => { x with mtval := v }
  | 0x7B1 => { x with pc := v }
  | 0x8C0 => { x with storeErr := x.storeErr && !bitOf v.toNat 4, lastCode := v.setWidth 4 }
  | 0x8C1 => { x with waitTmo := v.setWidth 32 }
  | _ => x

/-- A register of a room's hart. -/
def State.debugRead (s : State) (k : Nat) : DebugReg → Option W64
  | .x n => some ((s.hartAt k).reg n.val)
  | .f n => some (tgetD (s.hartAt k).f n.val 0)
  | .csr n => s.debugCsr k n.toNat

def Hart.debugWrite (x : Hart) (v : W64) : DebugReg → Hart
  | .x n => x.setReg n.val v
  | .f n => { x with f := tset n.val v x.f }
  | .csr n => x.csrPut n.toNat v

/-- R512: Access Register on the selected hart: error 4 while it is not halted, 3 where there is no such register. The registers of
the part's processors are not given: one that is read is free. -/
def State.accessRegister (s : State) (write : Bool) (reg : DebugReg) : State :=
  let n := s.test.hartsel
  let err (e : Nat) : State := s.modTest fun x => { x with cmderr := e }
  if s.test.cmderr ≠ 0 then s
  else if !s.mayDebug n || !s.debugHalted n then err 4
  else if 24576 ≤ n then
    (if write then s else (s.modTest fun x => { x with data := Config.freeWord s.free 2340 }).bump)
  else match s.debugRead (debugHart n) reg with
    | none => err 3
    | some v =>
      if write then s.modHartAt (debugHart n) (·.debugWrite s.test.data reg) else s.modTest fun x => { x with data := v }

def execDbgAccessRegister (write : Bool) (reg : DebugReg) (s : State) : Result := whenReady s.debugRuns s (s.accessRegister write reg)

/-! ## System bus access (R512) -/

/-- R512: a local physical address of TYPE 0, 1, 2 or 5. -/
def State.busTarget (s : State) (a : Nat) : Bool :=
  fld a 63 56 == 0 && (bitOf a 55 || fld a 51 38 == s.devId.toNat) && (decide (paType a ≤ 2) || paType a == 5)

def isMmio : Place → Bool
  | .devMmio _ => true
  | _ => false

/-- The access of n bytes, with its error code: 0, or 7 where it fails. -/
def State.busDo (s : State) (write : Bool) (p : Place) (n : Nat) : State × Nat :=
  if write then
    if isMmio p then (if s.mmioCode p n = 0 then (s.mmioWrite ⟨true, none⟩ p n (s.test.sbdata.toNat % 2 ^ (8 * n)), 0) else (s, 7))
    else
      let l := toBytes n s.test.sbdata.toNat
      (if s.writeCode p l = 2 then s else s.memWrite p l, if s.writeCode p l = 0 then 0 else 7)
  else
    let put (t : State) (l : List Byte) : State := t.modTest fun x => { x with sbdata := BitVec.ofNat 64 (ofBytes l) }
    match (if isMmio p then s.mmioRead p n else s.memRead p n) with
    | .data l => (put (if isMmio p then s else s.afterRead p n) l, 0)
    | _ => (if isMmio p then s else s.afterRead p n, 7)

/-- R512: a system bus access: error 2 for another target, 3 for a misaligned address, 4 for another size. -/
def State.busAccess (s : State) (write : Bool) (bytes : Nat) : State :=
  let a := s.test.sbaddr.toNat
  let err (t : State) (e : Nat) : State := if e = 0 then t else t.modTest fun x => { x with sberror := e }
  if s.test.sberror ≠ 0 then s
  else if bytes ≠ 4 ∧ bytes ≠ 8 then err s 4
  else if a % bytes ≠ 0 then err s 3
  else if !s.busTarget a then err s 2
  else if !s.homeRuns 0 (s.place a bytes) bytes then err s 7
  else
    let p := s.busDo write (s.place a bytes) bytes
    err p.1 p.2

def execDbgSystemBusAccess (write : Bool) (bytes : Nat) (s : State) : Result := whenReady s.debugRuns s (s.busAccess write bytes)

end Sys2Proof.Machine
end

