-- ==== Sys2Proof/Machine/Dispatch.lean ====
section
/-! DEFINITION. One arm for each command: a direct call of its meaning. -/
namespace Sys2Proof.Machine

def exec (i : Instr) (s : State) : Host.Outcome State Fault Refusal :=
  match i with
  | .load h m => Sys2Proof.Machine.execLoad h m s
  | .store h m => Sys2Proof.Machine.execStore h m s
  | .amo h op a => Sys2Proof.Machine.execAmo h op a s
  | .lr h a => Sys2Proof.Machine.execLr h a s
  | .sc h a => Sys2Proof.Machine.execSc h a s
  | .fence h pred succ => Sys2Proof.Machine.execFence h pred succ s
  | .fenceI h => Sys2Proof.Machine.execFenceI h s
  | .sfenceVma h rs1 rs2 => Sys2Proof.Machine.execSfenceVma h rs1 rs2 s
  | .wfi h => Sys2Proof.Machine.execWfi h s
  | .satpWrite h value => Sys2Proof.Machine.execSatpWrite h value s
  | .szGstatusCsrAccess h op imm rd src => Sys2Proof.Machine.execSzGstatusCsrAccess h op imm rd src s
  | .machineTimerExpiry h => Sys2Proof.Machine.execMachineTimerExpiry h s
  | .interruptTaken h => Sys2Proof.Machine.execInterruptTaken h s
  | .szPass h w => Sys2Proof.Machine.execSzPass h w s
  | .szExport h w => Sys2Proof.Machine.execSzExport h w s
  | .szStage h w => Sys2Proof.Machine.execSzStage h w s
  | .szModeQuery h w => Sys2Proof.Machine.execSzModeQuery h w s
  | .szModeClaim h w => Sys2Proof.Machine.execSzModeClaim h w s
  | .szModeRelease h w => Sys2Proof.Machine.execSzModeRelease h w s
  | .szDummy h w => Sys2Proof.Machine.execSzDummy h w s
  | .szGlb h w => Sys2Proof.Machine.execSzGlb h w s
  | .szGlh h w => Sys2Proof.Machine.execSzGlh h w s
  | .szGlw h w => Sys2Proof.Machine.execSzGlw h w s
  | .szGld h w => Sys2Proof.Machine.execSzGld h w s
  | .szGlq h w => Sys2Proof.Machine.execSzGlq h w s
  | .szGlbu h w => Sys2Proof.Machine.execSzGlbu h w s
  | .szGlhu h w => Sys2Proof.Machine.execSzGlhu h w s
  | .szGlwu h w => Sys2Proof.Machine.execSzGlwu h w s
  | .szGsb h w => Sys2Proof.Machine.execSzGsb h w s
  | .szGsh h w => Sys2Proof.Machine.execSzGsh h w s
  | .szGsw h w => Sys2Proof.Machine.execSzGsw h w s
  | .szGsd h w => Sys2Proof.Machine.execSzGsd h w s
  | .szGsq h w => Sys2Proof.Machine.execSzGsq h w s
  | .szXaadd h w => Sys2Proof.Machine.execSzXaadd h w s
  | .szAmofaddW h w => Sys2Proof.Machine.execSzAmofaddW h w s
  | .szAmofmaxW h w => Sys2Proof.Machine.execSzAmofmaxW h w s
  | .szAmofminW h w => Sys2Proof.Machine.execSzAmofminW h w s
  | .szAmocasW h w => Sys2Proof.Machine.execSzAmocasW h w s
  | .szAmocasD h w => Sys2Proof.Machine.execSzAmocasD h w s
  | .szAmocasQ h w => Sys2Proof.Machine.execSzAmocasQ h w s
  | .szLacq h w => Sys2Proof.Machine.execSzLacq h w s
  | .szLrel h w => Sys2Proof.Machine.execSzLrel h w s
  | .szVfence h w => Sys2Proof.Machine.execSzVfence h w s
  | .viewFenceComplete h => Sys2Proof.Machine.execViewFenceComplete h s
  | .szAvu h w => Sys2Proof.Machine.execSzAvu h w s
  | .szDwq h w => Sys2Proof.Machine.execSzDwq h w s
  | .szSignalSet h w => Sys2Proof.Machine.execSzSignalSet h w s
  | .szSignalClr h w => Sys2Proof.Machine.execSzSignalClr h w s
  | .szSignalAdd h w => Sys2Proof.Machine.execSzSignalAdd h w s
  | .szWait h w => Sys2Proof.Machine.execSzWait h w s
  | .szWaitMet h => Sys2Proof.Machine.execSzWaitMet h s
  | .szWaitTimeout h => Sys2Proof.Machine.execSzWaitTimeout h s
  | .szRbar h w => Sys2Proof.Machine.execSzRbar h w s
  | .szRbarTimeout h => Sys2Proof.Machine.execSzRbarTimeout h s
  | .szColl h w => Sys2Proof.Machine.execSzColl h w s
  | .szGbar h w => Sys2Proof.Machine.execSzGbar h w s
  | .szGbarTimeout h => Sys2Proof.Machine.execSzGbarTimeout h s
  | .szSpawn h w => Sys2Proof.Machine.execSzSpawn h w s
  | .szJoin h w => Sys2Proof.Machine.execSzJoin h w s
  | .szExit h w => Sys2Proof.Machine.execSzExit h w s
  | .requestTimeout r tag => Sys2Proof.Machine.execRequestTimeout r tag s
  | .responseReceive island p => Sys2Proof.Machine.execResponseReceive island p s
  | .tagHoldExpiry island tag => Sys2Proof.Machine.execTagHoldExpiry island tag s
  | .stageStart r => Sys2Proof.Machine.execStageStart r s
  | .stageComplete r => Sys2Proof.Machine.execStageComplete r s
  | .stageTimeout r => Sys2Proof.Machine.execStageTimeout r s
  | .arrayPassIssue r => Sys2Proof.Machine.execArrayPassIssue r s
  | .arrayPassComplete r => Sys2Proof.Machine.execArrayPassComplete r s
  | .arraySlotTimeout r => Sys2Proof.Machine.execArraySlotTimeout r s
  | .arrayExportStart r => Sys2Proof.Machine.execArrayExportStart r s
  | .arrayExportComplete r => Sys2Proof.Machine.execArrayExportComplete r s
  | .arrayImportStart r => Sys2Proof.Machine.execArrayImportStart r s
  | .arrayImportComplete r => Sys2Proof.Machine.execArrayImportComplete r s
  | .arrayDummyStart r => Sys2Proof.Machine.execArrayDummyStart r s
  | .arrayDummyComplete r => Sys2Proof.Machine.execArrayDummyComplete r s
  | .arrayStepDownStart r => Sys2Proof.Machine.execArrayStepDownStart r s
  | .arrayIdle r => Sys2Proof.Machine.execArrayIdle r s
  | .arrayWakeGrant r => Sys2Proof.Machine.execArrayWakeGrant r s
  | .arrayFlush r => Sys2Proof.Machine.execArrayFlush r s
  | .arrayForceRelease r => Sys2Proof.Machine.execArrayForceRelease r s
  | .arraySbCfgWrite r writer value => Sys2Proof.Machine.execArraySbCfgWrite r writer value s
  | .avuDispatch r => Sys2Proof.Machine.execAvuDispatch r s
  | .attnDispatch r => Sys2Proof.Machine.execAttnDispatch r s
  | .avuMatvec r run => Sys2Proof.Machine.execAvuMatvec r run s
  | .avuExport r run => Sys2Proof.Machine.execAvuExport r run s
  | .avuVscan r run => Sys2Proof.Machine.execAvuVscan r run s
  | .avuAttnBlock r run => Sys2Proof.Machine.execAvuAttnBlock r run s
  | .mergeUnitRecord r entry row => Sys2Proof.Machine.execMergeUnitRecord r entry row s
  | .avuCommandComplete r => Sys2Proof.Machine.execAvuCommandComplete r s
  | .avuFlush r => Sys2Proof.Machine.execAvuFlush r s
  | .atticRequestEnter r q => Sys2Proof.Machine.execAtticRequestEnter r q s
  | .atticRequestPerform r id faults => Sys2Proof.Machine.execAtticRequestPerform r id faults s
  | .stairReadRetry r id word correct => Sys2Proof.Machine.execStairReadRetry r id word correct s
  | .atticAtomic r banked off op => Sys2Proof.Machine.execAtticAtomic r banked off op s
  | .atticRefresh r bank postpone => Sys2Proof.Machine.execAtticRefresh r bank postpone s
  | .atticTempSample r l0 l1 l2 => Sys2Proof.Machine.execAtticTempSample r l0 l1 l2 s
  | .stairRelockHoldEnd r => Sys2Proof.Machine.execStairRelockHoldEnd r s
  | .stairRelockEnd r => Sys2Proof.Machine.execStairRelockEnd r s
  | .stairRecalStart r lane => Sys2Proof.Machine.execStairRecalStart r lane s
  | .stairRecalRetrainEnd r failed => Sys2Proof.Machine.execStairRecalRetrainEnd r failed s
  | .stairRecalResume r => Sys2Proof.Machine.execStairRecalResume r s
  | .stairTraining r found => Sys2Proof.Machine.execStairTraining r found s
  | .atticHardStop r => Sys2Proof.Machine.execAtticHardStop r s
  | .islandDown c => Sys2Proof.Machine.execIslandDown c s
  | .reqRd q => Sys2Proof.Machine.execReqRd q s
  | .reqWr q => Sys2Proof.Machine.execReqWr q s
  | .reqSwap q => Sys2Proof.Machine.execReqSwap q s
  | .reqAdd q => Sys2Proof.Machine.execReqAdd q s
  | .reqAnd q => Sys2Proof.Machine.execReqAnd q s
  | .reqOr q => Sys2Proof.Machine.execReqOr q s
  | .reqXor q => Sys2Proof.Machine.execReqXor q s
  | .reqMin q => Sys2Proof.Machine.execReqMin q s
  | .reqMax q => Sys2Proof.Machine.execReqMax q s
  | .reqMinu q => Sys2Proof.Machine.execReqMinu q s
  | .reqMaxu q => Sys2Proof.Machine.execReqMaxu q s
  | .reqXaAdd q => Sys2Proof.Machine.execReqXaAdd q s
  | .reqFadd q => Sys2Proof.Machine.execReqFadd q s
  | .reqFmax q => Sys2Proof.Machine.execReqFmax q s
  | .reqFmin q => Sys2Proof.Machine.execReqFmin q s
  | .reqCas q => Sys2Proof.Machine.execReqCas q s
  | .reqLeaseAcq q => Sys2Proof.Machine.execReqLeaseAcq q s
  | .reqLeaseRel q => Sys2Proof.Machine.execReqLeaseRel q s
  | .reqSet q => Sys2Proof.Machine.execReqSet q s
  | .reqClr q => Sys2Proof.Machine.execReqClr q s
  | .reqSignalAdd q => Sys2Proof.Machine.execReqSignalAdd q s
  | .msgSpawn q m => Sys2Proof.Machine.execMsgSpawn q m s
  | .msgExitNotice q child parent status value => Sys2Proof.Machine.execMsgExitNotice q child parent status value s
  | .msgColl q c => Sys2Proof.Machine.execMsgColl q c s
  | .noticeSlow q subject b => Sys2Proof.Machine.execNoticeSlow q subject b s
  | .noticeAbsent q n => Sys2Proof.Machine.execNoticeAbsent q n s
  | .noticeReset q n => Sys2Proof.Machine.execNoticeReset q n s
  | .hallPacketRoute w step => Sys2Proof.Machine.execHallPacketRoute w step s
  | .hallRtSwitch who w => Sys2Proof.Machine.execHallRtSwitch who w s
  | .hallRtEntryWrite who w bank entry value => Sys2Proof.Machine.execHallRtEntryWrite who w bank entry value s
  | .edgeDetect w port => Sys2Proof.Machine.execEdgeDetect w port s
  | .edgeRebuild => Sys2Proof.Machine.execEdgeRebuild s
  | .hallReissue island tag => Sys2Proof.Machine.execHallReissue island tag s
  | .landingCombine w id m0 level node => Sys2Proof.Machine.execLandingCombine w id m0 level node s
  | .combinedXaaddArrival w q => Sys2Proof.Machine.execCombinedXaaddArrival w q s
  | .combineWinExpiry w addr cls => Sys2Proof.Machine.execCombineWinExpiry w addr cls s
  | .regWindowEnd => Sys2Proof.Machine.execRegWindowEnd s
  | .regCtrlClear who queue => Sys2Proof.Machine.execRegCtrlClear who queue s
  | .regClassCfgWrite who queue cls value => Sys2Proof.Machine.execRegClassCfgWrite who queue cls value s
  | .fuseLoad die => Sys2Proof.Machine.execFuseLoad die s
  | .moduleSideband die m => Sys2Proof.Machine.execModuleSideband die m s
  | .moduleMainbandTrain die m => Sys2Proof.Machine.execModuleMainbandTrain die m s
  | .moduleAdapterInit die m => Sys2Proof.Machine.execModuleAdapterInit die m s
  | .lctlCap die m msg => Sys2Proof.Machine.execLctlCap die m msg s
  | .lctlCrd die m addr => Sys2Proof.Machine.execLctlCrd die m addr s
  | .moduleCreditInit die m => Sys2Proof.Machine.execModuleCreditInit die m s
  | .moduleTrainFail die m => Sys2Proof.Machine.execModuleTrainFail die m s
  | .moduleErrorDown die m retries burst => Sys2Proof.Machine.execModuleErrorDown die m retries burst s
  | .porchPacketRoute step => Sys2Proof.Machine.execPorchPacketRoute step s
  | .flitData l f packets more => Sys2Proof.Machine.execFlitData l f packets more s
  | .flitIdle l f => Sys2Proof.Machine.execFlitIdle l f s
  | .flitNak l f => Sys2Proof.Machine.execFlitNak l f s
  | .flitHeartbeat l f body state => Sys2Proof.Machine.execFlitHeartbeat l f body state s
  | .flitTime l f t => Sys2Proof.Machine.execFlitTime l f t s
  | .lctlInit l f body => Sys2Proof.Machine.execLctlInit l f body s
  | .lctlInitAck l f body => Sys2Proof.Machine.execLctlInitAck l f body s
  | .lctlDrain l f reason => Sys2Proof.Machine.execLctlDrain l f reason s
  | .lctlDrainDone l f => Sys2Proof.Machine.execLctlDrainDone l f s
  | .lctlGoodbye l f cause => Sys2Proof.Machine.execLctlGoodbye l f cause s
  | .nakRepeatTimer l => Sys2Proof.Machine.execNakRepeatTimer l s
  | .replayTimeout l => Sys2Proof.Machine.execReplayTimeout l s
  | .heartbeatSend l => Sys2Proof.Machine.execHeartbeatSend l s
  | .heartbeatSilent l => Sys2Proof.Machine.execHeartbeatSilent l s
  | .linkSignalLoss l => Sys2Proof.Machine.execLinkSignalLoss l s
  | .linkTraining l ok => Sys2Proof.Machine.execLinkTraining l ok s
  | .linkRetrainTimer l => Sys2Proof.Machine.execLinkRetrainTimer l s
  | .linkAdmit who l => Sys2Proof.Machine.execLinkAdmit who l s
  | .linkRecalCtrl who l => Sys2Proof.Machine.execLinkRecalCtrl who l s
  | .linkRecalRequest l corrected uncorrected => Sys2Proof.Machine.execLinkRecalRequest l corrected uncorrected s
  | .linkRecalGrant l => Sys2Proof.Machine.execLinkRecalGrant l s
  | .linkRecalRetrainEnd l ok => Sys2Proof.Machine.execLinkRecalRetrainEnd l ok s
  | .linkRecalResume l => Sys2Proof.Machine.execLinkRecalResume l s
  | .linkCfgWrite who l value => Sys2Proof.Machine.execLinkCfgWrite who l value s
  | .fabricReissue island tag => Sys2Proof.Machine.execFabricReissue island tag s
  | .fabTableRebuild => Sys2Proof.Machine.execFabTableRebuild s
  | .fabCtrlSwitch who => Sys2Proof.Machine.execFabCtrlSwitch who s
  | .fabAbsentClr who d => Sys2Proof.Machine.execFabAbsentClr who d s
  | .absentProbe d => Sys2Proof.Machine.execAbsentProbe d s
  | .absentProbeTimeout d => Sys2Proof.Machine.execAbsentProbeTimeout d s
  | .timeFlitSend l => Sys2Proof.Machine.execTimeFlitSend l s
  | .timeParentLoss => Sys2Proof.Machine.execTimeParentLoss s
  | .collAllReduce r slot => Sys2Proof.Machine.execCollAllReduce r slot s
  | .collReduceScatter r slot => Sys2Proof.Machine.execCollReduceScatter r slot s
  | .collAllGather r slot => Sys2Proof.Machine.execCollAllGather r slot s
  | .collAllToAll r slot => Sys2Proof.Machine.execCollAllToAll r slot s
  | .collBroadcast r slot => Sys2Proof.Machine.execCollBroadcast r slot s
  | .collBarrier r slot => Sys2Proof.Machine.execCollBarrier r slot s
  | .collLseMerge r slot => Sys2Proof.Machine.execCollLseMerge r slot s
  | .collTopkMerge r slot => Sys2Proof.Machine.execCollTopkMerge r slot s
  | .collectiveTimeout r slot => Sys2Proof.Machine.execCollectiveTimeout r slot s
  | .collKeptEndExpiry id m0 => Sys2Proof.Machine.execCollKeptEndExpiry id m0 s
  | .sqTail d ring value => Sys2Proof.Machine.execSqTail d ring value s
  | .cqHead d ring value => Sys2Proof.Machine.execCqHead d ring value s
  | .descriptorFetch d host => Sys2Proof.Machine.execDescriptorFetch d host s
  | .descNop id => Sys2Proof.Machine.execDescNop id s
  | .descJob id list => Sys2Proof.Machine.execDescJob id list s
  | .jobComplete id => Sys2Proof.Machine.execJobComplete id s
  | .descDma id => Sys2Proof.Machine.execDescDma id s
  | .descMgmt id => Sys2Proof.Machine.execDescMgmt id s
  | .completionWrite c => Sys2Proof.Machine.execCompletionWrite c s
  | .msiXCoalesceTimer c => Sys2Proof.Machine.execMsiXCoalesceTimer c s
  | .eventWrite d => Sys2Proof.Machine.execEventWrite d s
  | .doorCtrlWrite who d value => Sys2Proof.Machine.execDoorCtrlWrite who d value s
  | .sqCfgWrite who ring value => Sys2Proof.Machine.execSqCfgWrite who ring value s
  | .cqCfgWrite who ring value => Sys2Proof.Machine.execCqCfgWrite who ring value s
  | .bar0Access a => Sys2Proof.Machine.execBar0Access a s
  | .bar2Access a => Sys2Proof.Machine.execBar2Access a s
  | .perstN d => Sys2Proof.Machine.execPerstN d s
  | .hostLinkLoss d => Sys2Proof.Machine.execHostLinkLoss d s
  | .hostLost d => Sys2Proof.Machine.execHostLost d s
  | .doorRelease who d => Sys2Proof.Machine.execDoorRelease who d s
  | .doorAdopt who d ring => Sys2Proof.Machine.execDoorAdopt who d ring s
  | .doorDown d => Sys2Proof.Machine.execDoorDown d s
  | .roomDrain id => Sys2Proof.Machine.execRoomDrain id s
  | .drainEmpty r => Sys2Proof.Machine.execDrainEmpty r s
  | .drainForce r => Sys2Proof.Machine.execDrainForce r s
  | .roomReadmit id => Sys2Proof.Machine.execRoomReadmit id s
  | .readmitTrain r found => Sys2Proof.Machine.execReadmitTrain r found s
  | .readmitBoot r => Sys2Proof.Machine.execReadmitBoot r s
  | .readmitResync r => Sys2Proof.Machine.execReadmitResync r s
  | .readmitPublish r => Sys2Proof.Machine.execReadmitPublish r s
  | .wingDrain id => Sys2Proof.Machine.execWingDrain id s
  | .wingReadmit id => Sys2Proof.Machine.execWingReadmit id s
  | .roomReset id => Sys2Proof.Machine.execRoomReset id s
  | .pageRetire id => Sys2Proof.Machine.execPageRetire id s
  | .bankRetire id => Sys2Proof.Machine.execBankRetire id s
  | .mgmtScrub id => Sys2Proof.Machine.execMgmtScrub id s
  | .scrubGranule id words => Sys2Proof.Machine.execScrubGranule id words s
  | .logRead id => Sys2Proof.Machine.execLogRead id s
  | .fwStage id => Sys2Proof.Machine.execFwStage id s
  | .fwActivate id => Sys2Proof.Machine.execFwActivate id s
  | .fwCommit id => Sys2Proof.Machine.execFwCommit id s
  | .fwRevert id => Sys2Proof.Machine.execFwRevert id s
  | .settingsRead id => Sys2Proof.Machine.execSettingsRead id s
  | .settingsWrite id => Sys2Proof.Machine.execSettingsWrite id s
  | .mgmtLinkRecal id => Sys2Proof.Machine.execMgmtLinkRecal id s
  | .absentClear id => Sys2Proof.Machine.execAbsentClear id s
  | .sensorRead id => Sys2Proof.Machine.execSensorRead id s
  | .powerCap id => Sys2Proof.Machine.execPowerCap id s
  | .mailboxGo who => Sys2Proof.Machine.execMailboxGo who s
  | .mailboxFinal => Sys2Proof.Machine.execMailboxFinal s
  | .treeSubmit h value => Sys2Proof.Machine.execTreeSubmit h value s
  | .treeOpen r => Sys2Proof.Machine.execTreeOpen r s
  | .treeClose r => Sys2Proof.Machine.execTreeClose r s
  | .treePrep r => Sys2Proof.Machine.execTreePrep r s
  | .treeKvput r => Sys2Proof.Machine.execTreeKvput r s
  | .treeTopk r => Sys2Proof.Machine.execTreeTopk r s
  | .treeAccept r => Sys2Proof.Machine.execTreeAccept r s
  | .treeCommit r => Sys2Proof.Machine.execTreeCommit r s
  | .treeRollback r => Sys2Proof.Machine.execTreeRollback r s
  | .treeFlush r => Sys2Proof.Machine.execTreeFlush r s
  | .dwProgramStart k => Sys2Proof.Machine.execDwProgramStart k s
  | .endStep k => Sys2Proof.Machine.execEndStep k s
  | .dwMove k => Sys2Proof.Machine.execDwMove k s
  | .dwFill k => Sys2Proof.Machine.execDwFill k s
  | .dwGather k => Sys2Proof.Machine.execDwGather k s
  | .dwScatter k => Sys2Proof.Machine.execDwScatter k s
  | .dwLoop k => Sys2Proof.Machine.execDwLoop k s
  | .dwWait k => Sys2Proof.Machine.execDwWait k s
  | .dwWaitMet k => Sys2Proof.Machine.execDwWaitMet k s
  | .dwWaitTimeout k => Sys2Proof.Machine.execDwWaitTimeout k s
  | .dwSignal k => Sys2Proof.Machine.execDwSignal k s
  | .dwProgramComplete k => Sys2Proof.Machine.execDwProgramComplete k s
  | .dwProgramError k => Sys2Proof.Machine.execDwProgramError k s
  | .dwCqConsWrite r value => Sys2Proof.Machine.execDwCqConsWrite r value s
  | .dwCqCfgWrite r base value => Sys2Proof.Machine.execDwCqCfgWrite r base value s
  | .dwFlush r c => Sys2Proof.Machine.execDwFlush r c s
  | .dwRestart r c => Sys2Proof.Machine.execDwRestart r c s
  | .roomTlbiAll r => Sys2Proof.Machine.execRoomTlbiAll r s
  | .roomTlbiAsid r asid => Sys2Proof.Machine.execRoomTlbiAsid r asid s
  | .roomTlbiAsidVpn r asid vpn => Sys2Proof.Machine.execRoomTlbiAsidVpn r asid vpn s
  | .roomTlbiVpn r vpn => Sys2Proof.Machine.execRoomTlbiVpn r vpn s
  | .roomIrqRouteWrite r machine value => Sys2Proof.Machine.execRoomIrqRouteWrite r machine value s
  | .errConsWrite r value => Sys2Proof.Machine.execErrConsWrite r value s
  | .wmbPending r lost => Sys2Proof.Machine.execWmbPending r lost s
  | .registerWrite who pa size value => Sys2Proof.Machine.execRegisterWrite who pa size value s
  | .floorPlanUpdate => Sys2Proof.Machine.execFloorPlanUpdate s
  | .railFault rail => Sys2Proof.Machine.execRailFault rail s
  | .headroomAlarm island => Sys2Proof.Machine.execHeadroomAlarm island s
  | .headroomRelief island stays => Sys2Proof.Machine.execHeadroomRelief island stays s
  | .coreRaise => Sys2Proof.Machine.execCoreRaise s
  | .headroomRecovery => Sys2Proof.Machine.execHeadroomRecovery s
  | .avsPoll ok mv amps => Sys2Proof.Machine.execAvsPoll ok mv amps s
  | .avsRetry ok => Sys2Proof.Machine.execAvsRetry ok s
  | .grantRequest kind r => Sys2Proof.Machine.execGrantRequest kind r s
  | .grantIssue w fall => Sys2Proof.Machine.execGrantIssue w fall s
  | .accountShareRecompute => Sys2Proof.Machine.execAccountShareRecompute s
  | .powerCapLoop watts => Sys2Proof.Machine.execPowerCapLoop watts s
  | .pwrCapWrite who value => Sys2Proof.Machine.execPwrCapWrite who value s
  | .refLoss ref => Sys2Proof.Machine.execRefLoss ref s
  | .refRelock ref => Sys2Proof.Machine.execRefRelock ref s
  | .sensorSample place values => Sys2Proof.Machine.execSensorSample place values s
  | .sensorInvalid sensor => Sys2Proof.Machine.execSensorInvalid sensor s
  | .throttleStep r => Sys2Proof.Machine.execThrottleStep r s
  | .slowNoticeSend r => Sys2Proof.Machine.execSlowNoticeSend r s
  | .thermalTrip place => Sys2Proof.Machine.execThermalTrip place s
  | .tripRelease => Sys2Proof.Machine.execTripRelease s
  | .roomStopGrace r => Sys2Proof.Machine.execRoomStopGrace r s
  | .roomStopClocks r => Sys2Proof.Machine.execRoomStopClocks r s
  | .roomStopNotice r => Sys2Proof.Machine.execRoomStopNotice r s
  | .roomStopPublish r => Sys2Proof.Machine.execRoomStopPublish r s
  | .readmissible r => Sys2Proof.Machine.execReadmissible r s
  | .slopeFit => Sys2Proof.Machine.execSlopeFit s
  | .slopeCapStep => Sys2Proof.Machine.execSlopeCapStep s
  | .thermCoolWrite who value => Sys2Proof.Machine.execThermCoolWrite who value s
  | .telemetryStale => Sys2Proof.Machine.execTelemetryStale s
  | .thermCfgWrite who value => Sys2Proof.Machine.execThermCfgWrite who value s
  | .flowOkLoss => Sys2Proof.Machine.execFlowOkLoss s
  | .pwrWarn => Sys2Proof.Machine.execPwrWarn s
  | .deviceStopDrainEnd => Sys2Proof.Machine.execDeviceStopDrainEnd s
  | .commitPoint => Sys2Proof.Machine.execCommitPoint s
  | .deviceStopResume flow => Sys2Proof.Machine.execDeviceStopResume flow s
  | .keepWarmStart r => Sys2Proof.Machine.execKeepWarmStart r s
  | .keepWarmStop r => Sys2Proof.Machine.execKeepWarmStop r s
  | .cycleCountSave => Sys2Proof.Machine.execCycleCountSave s
  | .dutyRotation => Sys2Proof.Machine.execDutyRotation s
  | .powerOn => Sys2Proof.Machine.execPowerOn s
  | .pwrGoodLow => Sys2Proof.Machine.execPwrGoodLow s
  | .resetNLow => Sys2Proof.Machine.execResetNLow s
  | .studyWatchdogExpiry => Sys2Proof.Machine.execStudyWatchdogExpiry s
  | .deviceReset who key => Sys2Proof.Machine.execDeviceReset who key s
  | .hostGo who key => Sys2Proof.Machine.execHostGo who key s
  | .bootRetry who key => Sys2Proof.Machine.execBootRetry who key s
  | .wingReset w => Sys2Proof.Machine.execWingReset w s
  | .porchReset p => Sys2Proof.Machine.execPorchReset p s
  | .blockResetRequest b => Sys2Proof.Machine.execBlockResetRequest b s
  | .blockSettleEnd b => Sys2Proof.Machine.execBlockSettleEnd b s
  | .blockSettleTimeout b => Sys2Proof.Machine.execBlockSettleTimeout b s
  | .blockRelease b => Sys2Proof.Machine.execBlockRelease b s
  | .optionLoad => Sys2Proof.Machine.execOptionLoad s
  | .bootPhaseFuses => Sys2Proof.Machine.execBootPhaseFuses s
  | .bootPhaseOption => Sys2Proof.Machine.execBootPhaseOption s
  | .bootPhaseStrongroomRom selfTest => Sys2Proof.Machine.execBootPhaseStrongroomRom selfTest s
  | .bootPhaseStudyFirmware neighbour => Sys2Proof.Machine.execBootPhaseStudyFirmware neighbour s
  | .bootPhaseHallStairs => Sys2Proof.Machine.execBootPhaseHallStairs s
  | .imageBroadcast kind failed => Sys2Proof.Machine.execImageBroadcast kind failed s
  | .roomBootResult r value => Sys2Proof.Machine.execRoomBootResult r value s
  | .roomBootTimeout r => Sys2Proof.Machine.execRoomBootTimeout r s
  | .bootPhaseFwBroadcast => Sys2Proof.Machine.execBootPhaseFwBroadcast s
  | .bootPhaseLinks => Sys2Proof.Machine.execBootPhaseLinks s
  | .bootPhaseReady => Sys2Proof.Machine.execBootPhaseReady s
  | .bootPhaseTimeout => Sys2Proof.Machine.execBootPhaseTimeout s
  | .failedStart => Sys2Proof.Machine.execFailedStart s
  | .errorRecordPost e => Sys2Proof.Machine.execErrorRecordPost e s
  | .ceWindowEnd cause die room => Sys2Proof.Machine.execCeWindowEnd cause die room s
  | .rowRepairHoldEnd r bank row => Sys2Proof.Machine.execRowRepairHoldEnd r bank row s
  | .rowRepairSwitch r bank row => Sys2Proof.Machine.execRowRepairSwitch r bank row s
  | .rowRepairLog r bank row => Sys2Proof.Machine.execRowRepairLog r bank row s
  | .wordRemap m off uncorrectable => Sys2Proof.Machine.execWordRemap m off uncorrectable s
  | .fwTrialTimeout kind => Sys2Proof.Machine.execFwTrialTimeout kind s
  | .mirrorHeartbeatLoss hearth => Sys2Proof.Machine.execMirrorHeartbeatLoss hearth s
  | .handoverTransfer => Sys2Proof.Machine.execHandoverTransfer s
  | .handoverSwitch => Sys2Proof.Machine.execHandoverSwitch s
  | .standbyTakeover hearth => Sys2Proof.Machine.execStandbyTakeover hearth s
  | .wingControllerRestart => Sys2Proof.Machine.execWingControllerRestart s
  | .setEndpointId d binding eid => Sys2Proof.Machine.execSetEndpointId d binding eid s
  | .pldmBaseDiscovery d binding => Sys2Proof.Machine.execPldmBaseDiscovery d binding s
  | .pldmPlatform q => Sys2Proof.Machine.execPldmPlatform q s
  | .pldmFirmwareUpdate q => Sys2Proof.Machine.execPldmFirmwareUpdate q s
  | .getVersion => Sys2Proof.Machine.execGetVersion s
  | .getCapabilities => Sys2Proof.Machine.execGetCapabilities s
  | .negotiateAlgorithms => Sys2Proof.Machine.execNegotiateAlgorithms s
  | .getDigests => Sys2Proof.Machine.execGetDigests s
  | .getCertificate => Sys2Proof.Machine.execGetCertificate s
  | .spdmChallenge nonce => Sys2Proof.Machine.execSpdmChallenge nonce s
  | .getMeasurements index nonce => Sys2Proof.Machine.execGetMeasurements index nonce s
  | .tapExtest cells => Sys2Proof.Machine.execTapExtest cells s
  | .tapSamplePreload cells => Sys2Proof.Machine.execTapSamplePreload cells s
  | .tapIdcode => Sys2Proof.Machine.execTapIdcode s
  | .tapClamp => Sys2Proof.Machine.execTapClamp s
  | .tapHighz => Sys2Proof.Machine.execTapHighz s
  | .tapBypass code => Sys2Proof.Machine.execTapBypass code s
  | .tapDtmcs dmiReset => Sys2Proof.Machine.execTapDtmcs dmiReset s
  | .tapDmi a => Sys2Proof.Machine.execTapDmi a s
  | .dbgAccessRegister write reg => Sys2Proof.Machine.execDbgAccessRegister write reg s
  | .dbgSystemBusAccess write bytes => Sys2Proof.Machine.execDbgSystemBusAccess write bytes s
  | .dbgNdmreset => Sys2Proof.Machine.execDbgNdmreset s
  | .hartHalt n => Sys2Proof.Machine.execHartHalt n s
  | .hartResume n => Sys2Proof.Machine.execHartResume n s
  | .samplingEdge straps => Sys2Proof.Machine.execSamplingEdge straps s
  | .stopResetWaitEnd => Sys2Proof.Machine.execStopResetWaitEnd s
  | .dataLinkUp d => Sys2Proof.Machine.execDataLinkUp d s
  | .hostTimeout => Sys2Proof.Machine.execHostTimeout s
  | .configRequest d q => Sys2Proof.Machine.execConfigRequest d q s
  | .powerLoss => Sys2Proof.Machine.execPowerLoss s
  | .supplyDroop r => Sys2Proof.Machine.execSupplyDroop r s

end Sys2Proof.Machine
end

