-- ==== Sys2Proof/WellFormed.lean ====
section
/-! DEFINITION. Which commands are well formed: the bounds on operands that their types do not give. -/
namespace Sys2Proof

/-- R85: the forms of loads and stores: 1, 2, 4 or 8 bytes; 4 or 8 for a floating-point or a compressed one. -/
def MemForm.wf (m : MemForm) : Bool :=
  (m.bytes == 4 || m.bytes == 8 || ((m.bytes == 1 || m.bytes == 2) && !m.fp && !m.compressed)) && !(m.unsigned && (m.fp || m.bytes == 8))

/-- R125: an extension instruction stands in one of the four custom opcodes. -/
def szWordWf (w : W32) : Bool :=
  w.toNat % 128 == 0x0B || w.toNat % 128 == 0x2B || w.toNat % 128 == 0x5B || w.toNat % 128 == 0x7B

/-- R163: a request of 1 to 256 bytes inside the attic, its data as long as it says. -/
def AtticRequest.wf (q : AtticRequest) : Bool :=
  decide (1 ≤ q.len ∧ q.len ≤ 256 ∧ q.off + q.len ≤ 0xC000000) && match q.data with | some l => l.length == q.len | none => true

/-- R181: a compare and swap is of 4, 8 or 16 bytes. -/
def HomeAtomic.wf : HomeAtomic → Bool
  | .cas b _ _ => b == 4 || b == 8 || b == 16
  | _ => true

/-- R173: a stair lane of the 2,304. -/
def WordFault.wf (f : WordFault) : Bool := decide (f.lane < 2304)
def lanesWf (l : List Nat) : Bool := l.all fun n => decide (n < 2304)
/-- R159: banks of the 48. -/
def banksWf (l : List Nat) : Bool := l.all fun n => decide (n < 48)

/-- R186, R205: a word of a bank, an entry of the 512, a word of a 32 KiB buffer. -/
def AvuFault.wf : AvuFault → Bool
  | .bankCe w | .bankUe w => decide (w < 0x400000) && w % 8 == 0
  | .entryUe n => decide (n < 512)
  | .bufferUe n => decide (n < 4096)

/-- R311: a request carries at most 256 bytes of payload and reads at most 256. -/
def HomeRequest.wf (q : HomeRequest) : Bool := decide (q.payload.length ≤ 256 ∧ q.len ≤ 256)

/-- R314: what follows the header of a packet: at most 272 bytes, padded to a multiple of 16. -/
def bodyWf (l : List Byte) : Bool := decide (l.length ≤ 272) && l.length % 16 == 0

/-- R314: the packet that enters the hall. -/
def HallStep.wf : HallStep → Bool
  | .inject _ _ body => bodyWf body
  | .advance _ => true

/-- R314, R327: the packet of the fabric. -/
def FabPacket.wf (p : FabPacket) : Bool := bodyWf p.body

/-- R313: the extension of a notice is a 4-byte field. -/
def NoticeBody.wf (b : NoticeBody) : Bool := decide (b.us < 2 ^ 32)
def PorchStep.wf : PorchStep → Bool
  | .depart p => p.wf
  | _ => true

/-- R372: an access through a BAR is of at least one byte. -/
def BarAccess.wf (a : BarAccess) : Bool :=
  match a.data with | some l => decide (1 ≤ l.length) | none => decide (1 ≤ a.len)

/-- R413: the sensors of a place. -/
def sensorPlaces : SensorPlace → Nat
  | .attic _ => 3
  | .wing _ => 4
  | _ => 2

/-- R393: a sensor that a place has. -/
def PldmPlatform.wf : PldmPlatform → Bool
  | .readSensor p i => decide (i.val < sensorPlaces p)
  | _ => true

/-- R370: BAR2 is resized to a power of two from 1 GiB to 256 GiB. -/
def ConfigRequest.wf : ConfigRequest → Bool
  | .resizeBar n => decide (30 ≤ n ∧ n ≤ 38)
  | _ => true

/-- The bounds of each command's operands. -/
def Instr.wf : Instr → Bool
  | .load _ m => m.wf
  | .store _ m => m.wf
  | .amo _ _ _ => true
  | .lr _ _ => true
  | .sc _ _ => true
  | .fence _ _ _ => true
  | .fenceI _ => true
  | .sfenceVma _ _ _ => true
  | .wfi _ => true
  | .satpWrite _ _ => true
  | .szGstatusCsrAccess _ _ _ _ _ => true
  | .machineTimerExpiry _ => true
  | .interruptTaken _ => true
  | .szPass _ w => szWordWf w
  | .szExport _ w => szWordWf w
  | .szStage _ w => szWordWf w
  | .szModeQuery _ w => szWordWf w
  | .szModeClaim _ w => szWordWf w
  | .szModeRelease _ w => szWordWf w
  | .szDummy _ w => szWordWf w
  | .szGlb _ w => szWordWf w
  | .szGlh _ w => szWordWf w
  | .szGlw _ w => szWordWf w
  | .szGld _ w => szWordWf w
  | .szGlq _ w => szWordWf w
  | .szGlbu _ w => szWordWf w
  | .szGlhu _ w => szWordWf w
  | .szGlwu _ w => szWordWf w
  | .szGsb _ w => szWordWf w
  | .szGsh _ w => szWordWf w
  | .szGsw _ w => szWordWf w
  | .szGsd _ w => szWordWf w
  | .szGsq _ w => szWordWf w
  | .szXaadd _ w => szWordWf w
  | .szAmofaddW _ w => szWordWf w
  | .szAmofmaxW _ w => szWordWf w
  | .szAmofminW _ w => szWordWf w
  | .szAmocasW _ w => szWordWf w
  | .szAmocasD _ w => szWordWf w
  | .szAmocasQ _ w => szWordWf w
  | .szLacq _ w => szWordWf w
  | .szLrel _ w => szWordWf w
  | .szVfence _ w => szWordWf w
  | .viewFenceComplete _ => true
  | .szAvu _ w => szWordWf w
  | .szDwq _ w => szWordWf w
  | .szSignalSet _ w => szWordWf w
  | .szSignalClr _ w => szWordWf w
  | .szSignalAdd _ w => szWordWf w
  | .szWait _ w => szWordWf w
  | .szWaitMet _ => true
  | .szWaitTimeout _ => true
  | .szRbar _ w => szWordWf w
  | .szRbarTimeout _ => true
  | .szColl _ w => szWordWf w
  | .szGbar _ w => szWordWf w
  | .szGbarTimeout _ => true
  | .szSpawn _ w => szWordWf w
  | .szJoin _ w => szWordWf w
  | .szExit _ w => szWordWf w
  | .requestTimeout _ _ => true
  | .responseReceive _ p => decide (p.data.length ≤ 256)
  | .tagHoldExpiry _ _ => true
  | .stageStart _ => true
  | .stageComplete _ => true
  | .stageTimeout _ => true
  | .arrayPassIssue _ => true
  | .arrayPassComplete _ => true
  | .arraySlotTimeout _ => true
  | .arrayExportStart _ => true
  | .arrayExportComplete _ => true
  | .arrayImportStart _ => true
  | .arrayImportComplete _ => true
  | .arrayDummyStart _ => true
  | .arrayDummyComplete _ => true
  | .arrayStepDownStart _ => true
  | .arrayIdle _ => true
  | .arrayWakeGrant _ => true
  | .arrayFlush _ => true
  | .arrayForceRelease _ => true
  | .arraySbCfgWrite _ _ _ => true
  | .avuDispatch _ => true
  | .attnDispatch _ => true
  | .avuMatvec _ run => run.faults.all AvuFault.wf
  | .avuExport _ run => run.faults.all AvuFault.wf
  | .avuVscan _ run => run.faults.all AvuFault.wf
  | .avuAttnBlock _ run => run.faults.all AvuFault.wf
  | .mergeUnitRecord _ _ _ => true
  | .avuCommandComplete _ => true
  | .avuFlush _ => true
  | .atticRequestEnter _ q => q.wf
  | .atticRequestPerform _ _ faults => faults.all WordFault.wf
  | .stairReadRetry _ _ _ _ => true
  | .atticAtomic _ _ off op => op.wf && decide (off < 0xC000000)
  | .atticRefresh _ _ _ => true
  | .atticTempSample _ _ _ _ => true
  | .stairRelockHoldEnd _ => true
  | .stairRelockEnd _ => true
  | .stairRecalStart _ lane => decide (lane < 2304)
  | .stairRecalRetrainEnd _ failed => lanesWf failed
  | .stairRecalResume _ => true
  | .stairTraining _ found => lanesWf found.failed && banksWf found.banks
  | .atticHardStop _ => true
  | .islandDown _ => true
  | .reqRd q => q.wf
  | .reqWr q => q.wf
  | .reqSwap q => q.wf
  | .reqAdd q => q.wf
  | .reqAnd q => q.wf
  | .reqOr q => q.wf
  | .reqXor q => q.wf
  | .reqMin q => q.wf
  | .reqMax q => q.wf
  | .reqMinu q => q.wf
  | .reqMaxu q => q.wf
  | .reqXaAdd q => q.wf
  | .reqFadd q => q.wf
  | .reqFmax q => q.wf
  | .reqFmin q => q.wf
  | .reqCas q => q.wf
  | .reqLeaseAcq q => q.wf
  | .reqLeaseRel q => q.wf
  | .reqSet q => q.wf
  | .reqClr q => q.wf
  | .reqSignalAdd q => q.wf
  | .msgSpawn _ _ => true
  | .msgExitNotice _ _ _ status _ => decide (status < 3)
  | .msgColl _ c => decide (c.payload.length ≤ 256)
  | .noticeSlow _ _ b => b.wf
  | .noticeAbsent _ n => n.body.wf
  | .noticeReset _ n => n.body.wf
  | .hallPacketRoute _ step => step.wf
  | .hallRtSwitch _ _ => true
  | .hallRtEntryWrite _ _ _ _ _ => true
  | .edgeDetect _ _ => true
  | .edgeRebuild => true
  | .hallReissue _ _ => true
  | .landingCombine _ _ _ _ _ => true
  | .combinedXaaddArrival _ q => q.wf
  | .combineWinExpiry _ _ _ => true
  | .regWindowEnd => true
  | .regCtrlClear _ _ => true
  | .regClassCfgWrite _ _ _ _ => true
  | .fuseLoad _ => true
  | .moduleSideband _ _ => true
  | .moduleMainbandTrain _ _ => true
  | .moduleAdapterInit _ _ => true
  | .lctlCap _ _ msg => decide (msg.payload.length ≤ 256)
  | .lctlCrd _ _ _ => true
  | .moduleCreditInit _ _ => true
  | .moduleTrainFail _ _ => true
  | .moduleErrorDown _ _ _ _ => true
  | .porchPacketRoute step => step.wf
  | .flitData _ _ packets _ => packets.all FabPacket.wf
  | .flitIdle _ _ => true
  | .flitNak _ _ => true
  | .flitHeartbeat _ _ _ _ => true
  | .flitTime _ _ _ => true
  | .lctlInit _ _ _ => true
  | .lctlInitAck _ _ _ => true
  | .lctlDrain _ _ _ => true
  | .lctlDrainDone _ _ => true
  | .lctlGoodbye _ _ _ => true
  | .nakRepeatTimer _ => true
  | .replayTimeout _ => true
  | .heartbeatSend _ => true
  | .heartbeatSilent _ => true
  | .linkSignalLoss _ => true
  | .linkTraining _ _ => true
  | .linkRetrainTimer _ => true
  | .linkAdmit _ _ => true
  | .linkRecalCtrl _ _ => true
  | .linkRecalRequest _ _ _ => true
  | .linkRecalGrant _ => true
  | .linkRecalRetrainEnd _ _ => true
  | .linkRecalResume _ => true
  | .linkCfgWrite _ _ _ => true
  | .fabricReissue _ _ => true
  | .fabTableRebuild => true
  | .fabCtrlSwitch _ => true
  | .fabAbsentClr _ _ => true
  | .absentProbe _ => true
  | .absentProbeTimeout _ => true
  | .timeFlitSend _ => true
  | .timeParentLoss => true
  | .collAllReduce _ _ => true
  | .collReduceScatter _ _ => true
  | .collAllGather _ _ => true
  | .collAllToAll _ _ => true
  | .collBroadcast _ _ => true
  | .collBarrier _ _ => true
  | .collLseMerge _ _ => true
  | .collTopkMerge _ _ => true
  | .collectiveTimeout _ _ => true
  | .collKeptEndExpiry _ _ => true
  | .sqTail _ _ _ => true
  | .cqHead _ _ _ => true
  | .descriptorFetch _ _ => true
  | .descNop _ => true
  | .descJob _ _ => true
  | .jobComplete _ => true
  | .descDma _ => true
  | .descMgmt _ => true
  | .completionWrite _ => true
  | .msiXCoalesceTimer _ => true
  | .eventWrite _ => true
  | .doorCtrlWrite _ _ _ => true
  | .sqCfgWrite _ _ _ => true
  | .cqCfgWrite _ _ _ => true
  | .bar0Access a => a.wf
  | .bar2Access a => a.wf
  | .perstN _ => true
  | .hostLinkLoss _ => true
  | .hostLost _ => true
  | .doorRelease _ _ => true
  | .doorAdopt _ _ _ => true
  | .doorDown _ => true
  | .roomDrain _ => true
  | .drainEmpty _ => true
  | .drainForce _ => true
  | .roomReadmit _ => true
  | .readmitTrain _ found => lanesWf found.failed && banksWf found.banks
  | .readmitBoot _ => true
  | .readmitResync _ => true
  | .readmitPublish _ => true
  | .wingDrain _ => true
  | .wingReadmit _ => true
  | .roomReset _ => true
  | .pageRetire _ => true
  | .bankRetire _ => true
  | .mgmtScrub _ => true
  | .scrubGranule _ _ => true
  | .logRead _ => true
  | .fwStage _ => true
  | .fwActivate _ => true
  | .fwCommit _ => true
  | .fwRevert _ => true
  | .settingsRead _ => true
  | .settingsWrite _ => true
  | .mgmtLinkRecal _ => true
  | .absentClear _ => true
  | .sensorRead _ => true
  | .powerCap _ => true
  | .mailboxGo _ => true
  | .mailboxFinal => true
  | .treeSubmit _ _ => true
  | .treeOpen _ => true
  | .treeClose _ => true
  | .treePrep _ => true
  | .treeKvput _ => true
  | .treeTopk _ => true
  | .treeAccept _ => true
  | .treeCommit _ => true
  | .treeRollback _ => true
  | .treeFlush _ => true
  | .dwProgramStart _ => true
  | .endStep _ => true
  | .dwMove _ => true
  | .dwFill _ => true
  | .dwGather _ => true
  | .dwScatter _ => true
  | .dwLoop _ => true
  | .dwWait _ => true
  | .dwWaitMet _ => true
  | .dwWaitTimeout _ => true
  | .dwSignal _ => true
  | .dwProgramComplete _ => true
  | .dwProgramError _ => true
  | .dwCqConsWrite _ _ => true
  | .dwCqCfgWrite _ _ _ => true
  | .dwFlush _ _ => true
  | .dwRestart _ _ => true
  | .roomTlbiAll _ => true
  | .roomTlbiAsid _ _ => true
  | .roomTlbiAsidVpn _ _ _ => true
  | .roomTlbiVpn _ _ => true
  | .roomIrqRouteWrite _ _ _ => true
  | .errConsWrite _ _ => true
  | .wmbPending _ _ => true
  | .registerWrite _ pa size _ => (size == 4 || size == 8) && decide (pa.toNat % size = 0)
  | .floorPlanUpdate => true
  | .railFault _ => true
  | .headroomAlarm _ => true
  | .headroomRelief _ _ => true
  | .coreRaise => true
  | .headroomRecovery => true
  | .avsPoll _ _ _ => true
  | .avsRetry _ => true
  | .grantRequest _ _ => true
  | .grantIssue _ _ => true
  | .accountShareRecompute => true
  | .powerCapLoop _ => true
  | .pwrCapWrite _ _ => true
  | .refLoss _ => true
  | .refRelock _ => true
  | .sensorSample place values => decide (values.length = sensorPlaces place)
  | .sensorInvalid sensor => decide (sensor.index.val < sensorPlaces sensor.place)
  | .throttleStep _ => true
  | .slowNoticeSend _ => true
  | .thermalTrip _ => true
  | .tripRelease => true
  | .roomStopGrace _ => true
  | .roomStopClocks _ => true
  | .roomStopNotice _ => true
  | .roomStopPublish _ => true
  | .readmissible _ => true
  | .slopeFit => true
  | .slopeCapStep => true
  | .thermCoolWrite _ _ => true
  | .telemetryStale => true
  | .thermCfgWrite _ _ => true
  | .flowOkLoss => true
  | .pwrWarn => true
  | .deviceStopDrainEnd => true
  | .commitPoint => true
  | .deviceStopResume _ => true
  | .keepWarmStart _ => true
  | .keepWarmStop _ => true
  | .cycleCountSave => true
  | .dutyRotation => true
  | .powerOn => true
  | .pwrGoodLow => true
  | .resetNLow => true
  | .studyWatchdogExpiry => true
  | .deviceReset _ _ => true
  | .hostGo _ _ => true
  | .bootRetry _ _ => true
  | .wingReset _ => true
  | .porchReset _ => true
  | .blockResetRequest _ => true
  | .blockSettleEnd _ => true
  | .blockSettleTimeout _ => true
  | .blockRelease _ => true
  | .optionLoad => true
  | .bootPhaseFuses => true
  | .bootPhaseOption => true
  | .bootPhaseStrongroomRom _ => true
  | .bootPhaseStudyFirmware _ => true
  | .bootPhaseHallStairs => true
  | .imageBroadcast _ failed => failed.all fun d => decide (d < 106)
  | .roomBootResult _ _ => true
  | .roomBootTimeout _ => true
  | .bootPhaseFwBroadcast => true
  | .bootPhaseLinks => true
  | .bootPhaseReady => true
  | .bootPhaseTimeout => true
  | .failedStart => true
  | .errorRecordPost e => match e with | some p => decide (p.cause < 256) | none => true
  | .ceWindowEnd cause _ _ => decide (cause < 256)
  | .rowRepairHoldEnd _ _ _ => true
  | .rowRepairSwitch _ _ _ => true
  | .rowRepairLog _ _ _ => true
  | .wordRemap _ _ _ => true
  | .fwTrialTimeout _ => true
  | .mirrorHeartbeatLoss _ => true
  | .handoverTransfer => true
  | .handoverSwitch => true
  | .standbyTakeover _ => true
  | .wingControllerRestart => true
  | .setEndpointId _ _ _ => true
  | .pldmBaseDiscovery _ _ => true
  | .pldmPlatform q => q.wf
  | .pldmFirmwareUpdate _ => true
  | .getVersion => true
  | .getCapabilities => true
  | .negotiateAlgorithms => true
  | .getDigests => true
  | .getCertificate => true
  | .spdmChallenge nonce => decide (nonce.length = 32)
  | .getMeasurements _ nonce => decide (nonce.length = 32)
  | .tapExtest _ => true
  | .tapSamplePreload _ => true
  | .tapIdcode => true
  | .tapClamp => true
  | .tapHighz => true
  | .tapBypass _ => true
  | .tapDtmcs _ => true
  | .tapDmi _ => true
  | .dbgAccessRegister _ _ => true
  | .dbgSystemBusAccess _ bytes => bytes == 4 || bytes == 8
  | .dbgNdmreset => true
  | .hartHalt _ => true
  | .hartResume _ => true
  | .samplingEdge _ => true
  | .stopResetWaitEnd => true
  | .dataLinkUp _ => true
  | .hostTimeout => true
  | .configRequest _ q => q.wf
  | .powerLoss => true
  | .supplyDroop _ => true

end Sys2Proof
end

