-- ==== Sys2Proof/Safety.lean ====
section
/-! DEFINITION. What claims about the part are stated in: the canonical form of memory, the parts of the state that a
command may change, and when a hart can execute an instruction. -/
namespace Sys2Proof.Machine

/-- The canonical form of memory: keys strictly rising. What an unlisted byte reads as is a free value (R467), so no listed
byte can equal it. -/
def Memory.wf (m : List Host.Cell) : Bool := tsortedFrom 0 m

/-- The numbers of a list rise strictly. -/
def risesFrom (b : Nat) : List Nat → Bool
  | [] => true
  | j :: t => decide (b ≤ j) && risesFrom (j + 1) t

/-- The invariant of the stored data: memory and the list of poisoned words keep their canonical forms. -/
def State.Canonical (s : State) : Prop := Memory.wf s.mem = true ∧ risesFrom 0 s.poison = true

/-- R85: the hart is RUNNING with nothing to wait for, in a room that executes, while the device is not stopping. -/
def State.canRun (s : State) (h : HartId) : Bool := s.canIssue h none && (s.hart h).wait == .none

/-- R125, R126: the hart can execute the word, which is of this space and OP5 and is a legal encoding. -/
def State.canRunWord (s : State) (h : HartId) (w : W32) (space op5 : Nat) : Bool :=
  s.canRun h && szIs space op5 w && !szIllegal w (s.hart h).priv

/-- The parts of the state, one for each field. -/
inductive Part where
  | pending | fuses | devId | now | free | mem | poison | regs | harts | rooms | tags | reqs | exitMsgs | caches
  | sent | colls | insts | keptEnds | arrays | attics | regqs | avus | trees | dws | dwOrder | wings | halls | modules
  | dies | idBlocks | links | fabric | bootCount | absentDevs | mailboxes | doors | sqs | cqs | descs | nextDesc
  | completions | jobs | errRings | wingLogs | errInFlight | deviceLog | flashLog | deviceSeq | ceWindows | power
  | therm | boot | aon | flash | flashLogs | plan | planGen | planTime | live | mailboxStudy | remaps | test | pcies
  | guards
  deriving DecidableEq, Repr

/-- A part is the same in two states. -/
def Part.same : Part → State → State → Prop
  | .pending, s, t => t.pending = s.pending
  | .fuses, s, t => t.fuses = s.fuses
  | .devId, s, t => t.devId = s.devId
  | .now, s, t => t.now = s.now
  | .free, s, t => t.free = s.free
  | .mem, s, t => t.mem = s.mem
  | .poison, s, t => t.poison = s.poison
  | .regs, s, t => t.regs = s.regs
  | .harts, s, t => t.harts = s.harts
  | .rooms, s, t => t.rooms = s.rooms
  | .tags, s, t => t.tags = s.tags
  | .reqs, s, t => t.reqs = s.reqs
  | .exitMsgs, s, t => t.exitMsgs = s.exitMsgs
  | .caches, s, t => t.caches = s.caches
  | .sent, s, t => t.sent = s.sent
  | .colls, s, t => t.colls = s.colls
  | .insts, s, t => t.insts = s.insts
  | .keptEnds, s, t => t.keptEnds = s.keptEnds
  | .arrays, s, t => t.arrays = s.arrays
  | .attics, s, t => t.attics = s.attics
  | .regqs, s, t => t.regqs = s.regqs
  | .avus, s, t => t.avus = s.avus
  | .trees, s, t => t.trees = s.trees
  | .dws, s, t => t.dws = s.dws
  | .dwOrder, s, t => t.dwOrder = s.dwOrder
  | .wings, s, t => t.wings = s.wings
  | .halls, s, t => t.halls = s.halls
  | .modules, s, t => t.modules = s.modules
  | .dies, s, t => t.dies = s.dies
  | .idBlocks, s, t => t.idBlocks = s.idBlocks
  | .links, s, t => t.links = s.links
  | .fabric, s, t => t.fabric = s.fabric
  | .bootCount, s, t => t.bootCount = s.bootCount
  | .absentDevs, s, t => t.absentDevs = s.absentDevs
  | .mailboxes, s, t => t.mailboxes = s.mailboxes
  | .doors, s, t => t.doors = s.doors
  | .sqs, s, t => t.sqs = s.sqs
  | .cqs, s, t => t.cqs = s.cqs
  | .descs, s, t => t.descs = s.descs
  | .nextDesc, s, t => t.nextDesc = s.nextDesc
  | .completions, s, t => t.completions = s.completions
  | .jobs, s, t => t.jobs = s.jobs
  | .errRings, s, t => t.errRings = s.errRings
  | .wingLogs, s, t => t.wingLogs = s.wingLogs
  | .errInFlight, s, t => t.errInFlight = s.errInFlight
  | .deviceLog, s, t => t.deviceLog = s.deviceLog
  | .flashLog, s, t => t.flashLog = s.flashLog
  | .deviceSeq, s, t => t.deviceSeq = s.deviceSeq
  | .ceWindows, s, t => t.ceWindows = s.ceWindows
  | .power, s, t => t.power = s.power
  | .therm, s, t => t.therm = s.therm
  | .boot, s, t => t.boot = s.boot
  | .aon, s, t => t.aon = s.aon
  | .flash, s, t => t.flash = s.flash
  | .flashLogs, s, t => t.flashLogs = s.flashLogs
  | .plan, s, t => t.plan = s.plan
  | .planGen, s, t => t.planGen = s.planGen
  | .planTime, s, t => t.planTime = s.planTime
  | .live, s, t => t.live = s.live
  | .mailboxStudy, s, t => t.mailboxStudy = s.mailboxStudy
  | .remaps, s, t => t.remaps = s.remaps
  | .test, s, t => t.test = s.test
  | .pcies, s, t => t.pcies = s.pcies
  | .guards, s, t => t.guards = s.guards

/-- The parts that a command may change, by the rules of its meaning: every other part is the same after it. -/
def footprint (i : Instr) : List Part :=
  match i with
  | .load .. | .szGlb .. | .szGlh .. | .szGlw .. | .szGld .. | .szGlq .. | .szGlbu .. | .szGlhu .. | .szGlwu ..
  | .szSpawn .. =>
    [.free, .regs, .harts, .rooms, .tags, .reqs, .sent, .attics, .errRings, .wingLogs, .errInFlight, .ceWindows]
  | .store .. | .szGsb .. | .szGsh .. | .szGsw .. | .szGsd .. | .szGsq .. | .reqWr .. | .bar0Access .. | .registerWrite ..
  | .pldmFirmwareUpdate .. | .dbgSystemBusAccess .. =>
    [.free, .mem, .poison, .regs, .harts, .rooms, .tags, .reqs, .exitMsgs, .caches, .sent, .colls, .insts, .keptEnds,
     .arrays, .attics, .regqs, .avus, .trees, .dws, .dwOrder, .wings, .halls, .modules, .dies, .links, .fabric,
     .bootCount, .absentDevs, .mailboxes, .doors, .sqs, .cqs, .descs, .nextDesc, .completions, .jobs, .errRings,
     .wingLogs, .errInFlight, .deviceLog, .flashLog, .deviceSeq, .ceWindows, .power, .therm, .boot, .aon, .flash,
     .flashLogs, .plan, .planGen, .planTime, .live, .mailboxStudy, .remaps, .test, .pcies, .guards]
  | .amo .. | .szXaadd .. | .szAmofaddW .. | .szAmofmaxW .. | .szAmofminW .. | .szAmocasW .. | .szAmocasD ..
  | .szAmocasQ .. | .szLacq .. | .szLrel .. | .szSignalSet .. | .szSignalClr .. | .szSignalAdd .. =>
    [.free, .mem, .poison, .regs, .harts, .rooms, .tags, .reqs, .sent, .attics, .dws, .errRings, .wingLogs, .errInFlight,
     .ceWindows, .guards]
  | .lr .. => [.free, .regs, .harts, .rooms, .attics, .errRings, .wingLogs, .errInFlight, .ceWindows]
  | .sc .. | .atticAtomic .. | .dwMove .. | .dwFill .. | .dwGather .. | .dwScatter .. | .dwSignal .. =>
    [.free, .mem, .poison, .regs, .harts, .rooms, .attics, .dws, .errRings, .wingLogs, .errInFlight, .ceWindows, .guards]
  | .fence .. => [.harts, .rooms, .guards]
  | .fenceI .. | .sfenceVma .. | .wfi .. | .satpWrite .. | .szGstatusCsrAccess .. | .interruptTaken .. | .szModeQuery ..
  | .szRbar .. | .szJoin .. => [.harts, .rooms]
  | .machineTimerExpiry .. => [.now]
  | .szPass .. | .szExport .. =>
    [.free, .regs, .harts, .rooms, .arrays, .attics, .errRings, .wingLogs, .errInFlight, .ceWindows]
  | .szStage .. | .szModeClaim .. | .szModeRelease .. | .szDummy .. => [.harts, .rooms, .arrays]
  | .szVfence .. | .szWait .. => [.regs, .harts, .rooms, .attics, .errRings, .wingLogs, .errInFlight, .ceWindows]
  | .viewFenceComplete .. => [.harts, .rooms, .attics]
  | .szAvu .. => [.free, .regs, .harts, .rooms, .attics, .avus, .errRings, .wingLogs, .errInFlight, .ceWindows, .guards]
  | .szDwq .. => [.regs, .harts, .rooms, .attics, .dws, .errRings, .wingLogs, .errInFlight, .ceWindows, .guards]
  | .szWaitMet .. => [.harts]
  | .szWaitTimeout .. | .szGbarTimeout .. => [.now, .harts]
  | .szRbarTimeout .. => [.now, .harts, .rooms]
  | .szColl .. | .szGbar .. | .msgColl .. | .collAllReduce .. | .collReduceScatter .. | .collAllGather ..
  | .collAllToAll .. | .collBroadcast .. | .collBarrier .. | .collLseMerge .. | .collTopkMerge .. =>
    [.free, .mem, .poison, .regs, .harts, .rooms, .sent, .colls, .insts, .keptEnds, .attics, .dws, .errRings, .wingLogs,
     .errInFlight, .ceWindows, .guards]
  | .szExit .. => [.harts, .rooms, .exitMsgs, .sent, .arrays, .jobs]
  | .requestTimeout .. =>
    [.now, .free, .mem, .poison, .regs, .harts, .rooms, .tags, .reqs, .attics, .dws, .errRings, .wingLogs, .errInFlight,
     .ceWindows, .guards]
  | .responseReceive .. =>
    [.regs, .harts, .rooms, .tags, .reqs, .sent, .attics, .halls, .errRings, .wingLogs, .errInFlight, .ceWindows]
  | .tagHoldExpiry .. => [.tags]
  | .stageStart .. => [.arrays, .guards]
  | .stageComplete .. | .arrayPassComplete .. | .arrayExportComplete .. | .arrayFlush .. | .arrayForceRelease .. =>
    [.free, .mem, .poison, .regs, .harts, .rooms, .arrays, .attics, .dws, .errRings, .wingLogs, .errInFlight, .ceWindows]
  | .stageTimeout .. => [.now, .regs, .arrays]
  | .arrayPassIssue .. | .arrayDummyStart .. => [.free, .mem, .poison, .regs, .harts, .arrays, .dws, .power, .therm]
  | .arraySlotTimeout .. => [.now, .mem, .poison, .regs, .harts, .arrays, .dws]
  | .arrayExportStart .. | .arrayImportStart .. | .arrayImportComplete .. | .arrayDummyComplete .. =>
    [.mem, .poison, .regs, .harts, .arrays, .dws]
  | .arrayStepDownStart .. => [.free, .regs, .arrays, .power]
  | .arrayIdle .. => [.regs, .arrays]
  | .arrayWakeGrant .. => [.arrays, .power]
  | .arraySbCfgWrite .. | .doorCtrlWrite .. | .dwCqCfgWrite .. => [.regs]
  | .avuDispatch .. | .attnDispatch .. =>
    [.free, .regs, .rooms, .attics, .avus, .errRings, .wingLogs, .errInFlight, .ceWindows, .guards]
  | .avuMatvec .. | .avuExport .. | .avuVscan .. =>
    [.free, .mem, .poison, .regs, .harts, .rooms, .attics, .avus, .dws, .errRings, .wingLogs, .errInFlight, .ceWindows]
  | .avuAttnBlock .. => [.free, .poison, .regs, .attics, .avus, .errRings, .wingLogs, .errInFlight, .ceWindows]
  | .mergeUnitRecord .. => [.free, .mem, .poison, .harts, .avus, .dws]
  | .avuCommandComplete .. | .avuFlush .. => [.free, .mem, .poison, .regs, .harts, .avus, .dws, .guards]
  | .atticRequestEnter .. => [.attics, .regqs]
  | .atticRequestPerform .. | .stairReadRetry .. =>
    [.free, .mem, .poison, .regs, .harts, .rooms, .attics, .regqs, .dws, .errRings, .wingLogs, .errInFlight, .ceWindows]
  | .atticRefresh .. | .stairRelockHoldEnd .. | .stairRelockEnd .. | .stairRecalStart .. | .rowRepairHoldEnd .. =>
    [.attics]
  | .atticTempSample .. => [.now, .regs, .sent, .attics, .mailboxes, .doors, .therm]
  | .stairRecalRetrainEnd .. =>
    [.free, .mem, .poison, .regs, .rooms, .attics, .avus, .errRings, .wingLogs, .errInFlight, .ceWindows]
  | .stairRecalResume .. => [.regs, .sent, .attics, .doors, .plan, .planGen, .planTime]
  | .stairTraining .. | .readmitTrain .. =>
    [.mem, .poison, .regs, .harts, .rooms, .sent, .attics, .dws, .doors, .errRings, .wingLogs, .errInFlight, .ceWindows,
     .power, .flashLogs, .plan, .planGen, .planTime, .live, .mailboxStudy]
  | .atticHardStop .. =>
    [.free, .mem, .poison, .regs, .harts, .rooms, .sent, .arrays, .attics, .avus, .trees, .dws, .dwOrder, .doors, .sqs,
     .descs, .completions, .errRings, .wingLogs, .errInFlight, .ceWindows, .therm, .guards]
  | .islandDown .. =>
    [.regs, .sent, .attics, .halls, .modules, .links, .doors, .errRings, .wingLogs, .errInFlight, .ceWindows, .live,
     .mailboxStudy]
  | .reqRd .. => [.free, .regs, .sent, .attics, .errRings, .wingLogs, .errInFlight, .ceWindows]
  | .reqSwap .. | .reqAdd .. | .reqAnd .. | .reqOr .. | .reqXor .. | .reqMin .. | .reqMax .. | .reqMinu .. | .reqMaxu ..
  | .reqXaAdd .. | .reqFadd .. | .reqFmax .. | .reqFmin .. | .reqCas .. | .reqLeaseAcq .. | .reqLeaseRel .. | .reqSet ..
  | .reqClr .. | .reqSignalAdd .. =>
    [.free, .mem, .poison, .regs, .harts, .rooms, .caches, .sent, .attics, .dws, .errRings, .wingLogs, .errInFlight,
     .ceWindows, .guards]
  | .msgSpawn .. =>
    [.regs, .harts, .rooms, .tags, .reqs, .caches, .sent, .attics, .errRings, .wingLogs, .errInFlight, .ceWindows]
  | .msgExitNotice .. =>
    [.regs, .harts, .rooms, .exitMsgs, .caches, .sent, .attics, .errRings, .wingLogs, .errInFlight, .ceWindows]
  | .noticeSlow .. => [.reqs, .sent, .colls, .mailboxes]
  | .noticeAbsent .. | .noticeReset .. =>
    [.free, .mem, .poison, .regs, .harts, .rooms, .tags, .reqs, .sent, .colls, .insts, .keptEnds, .attics, .dws,
     .absentDevs, .mailboxes, .doors, .errRings, .wingLogs, .errInFlight, .ceWindows, .guards]
  | .hallPacketRoute .. => [.regs, .regqs, .halls, .modules]
  | .hallRtSwitch .. => [.halls]
  | .hallRtEntryWrite .. => [.regs, .remaps]
  | .edgeDetect .. =>
    [.regs, .sent, .attics, .halls, .links, .doors, .errRings, .wingLogs, .errInFlight, .ceWindows, .live, .mailboxStudy]
  | .edgeRebuild =>
    [.regs, .rooms, .sent, .attics, .wings, .halls, .links, .doors, .errRings, .wingLogs, .errInFlight, .ceWindows,
     .live, .mailboxStudy, .remaps]
  | .hallReissue .. | .fabricReissue .. => [.now, .reqs, .sent, .halls]
  | .landingCombine .. => [.sent, .colls, .insts]
  | .combinedXaaddArrival .. => [.regs, .sent, .halls]
  | .combineWinExpiry .. => [.now, .tags, .sent, .halls]
  | .regWindowEnd => [.now, .regqs]
  | .regCtrlClear .. | .regClassCfgWrite .. => [.regqs]
  | .fuseLoad .. => [.rooms, .wings, .modules, .dies, .doors]
  | .moduleSideband .. | .moduleMainbandTrain .. | .lctlCrd .. | .moduleTrainFail .. => [.modules]
  | .moduleAdapterInit .. => [.sent, .modules]
  | .lctlCap .. =>
    [.free, .regs, .rooms, .sent, .attics, .dws, .wings, .modules, .dies, .links, .doors, .sqs, .cqs, .descs,
     .completions, .jobs, .errRings, .wingLogs, .errInFlight, .ceWindows, .power, .therm, .boot, .flash, .flashLogs,
     .plan, .planGen, .planTime, .live, .mailboxStudy, .pcies]
  | .moduleCreditInit .. => [.halls, .modules]
  | .moduleErrorDown .. =>
    [.regs, .sent, .attics, .modules, .links, .doors, .errRings, .wingLogs, .errInFlight, .ceWindows, .live,
     .mailboxStudy]
  | .porchPacketRoute .. => [.regs, .sent, .regqs, .halls, .modules, .links]
  | .flitData .. | .flitNak .. | .flitHeartbeat .. | .lctlInit .. | .lctlInitAck .. | .linkSignalLoss ..
  | .linkTraining .. | .linkRecalRetrainEnd .. | .linkCfgWrite .. =>
    [.regs, .sent, .attics, .links, .doors, .errRings, .wingLogs, .errInFlight, .ceWindows, .live, .mailboxStudy]
  | .flitIdle .. | .lctlDrain .. | .lctlDrainDone .. | .linkRecalGrant .. => [.regs, .sent, .links]
  | .flitTime .. => [.now, .regs, .sent, .links, .fabric]
  | .lctlGoodbye .. =>
    [.free, .mem, .poison, .regs, .harts, .rooms, .tags, .reqs, .sent, .colls, .insts, .keptEnds, .attics, .dws, .links,
     .absentDevs, .mailboxes, .doors, .errRings, .wingLogs, .errInFlight, .ceWindows, .live, .mailboxStudy, .guards]
  | .nakRepeatTimer .. => [.now, .sent, .links]
  | .replayTimeout .. | .heartbeatSilent .. =>
    [.now, .regs, .sent, .attics, .links, .doors, .errRings, .wingLogs, .errInFlight, .ceWindows, .live, .mailboxStudy]
  | .heartbeatSend .. | .timeFlitSend .. => [.sent, .links]
  | .linkRetrainTimer .. => [.now, .links]
  | .linkAdmit .. => [.links, .fabric]
  | .linkRecalCtrl .. => [.links]
  | .linkRecalRequest .. => [.regs, .sent, .links, .doors]
  | .linkRecalResume .. => [.regs, .sent, .links, .doors, .live, .mailboxStudy]
  | .fabTableRebuild | .fabCtrlSwitch .. => [.fabric]
  | .fabAbsentClr .. => [.regs, .sent, .absentDevs, .doors]
  | .absentProbe .. => [.sent, .fabric]
  | .absentProbeTimeout .. =>
    [.now, .free, .mem, .poison, .regs, .harts, .rooms, .tags, .reqs, .sent, .colls, .insts, .keptEnds, .attics, .dws,
     .fabric, .absentDevs, .mailboxes, .doors, .errRings, .wingLogs, .errInFlight, .ceWindows, .guards]
  | .timeParentLoss => [.now, .fabric]
  | .collectiveTimeout .. =>
    [.now, .free, .mem, .poison, .regs, .harts, .rooms, .sent, .colls, .insts, .keptEnds, .attics, .dws, .errRings,
     .wingLogs, .errInFlight, .ceWindows, .guards]
  | .collKeptEndExpiry .. => [.now, .keptEnds]
  | .sqTail .. => [.free, .regs, .sent, .doors, .sqs]
  | .cqHead .. => [.regs, .sent, .doors, .cqs]
  | .descriptorFetch .. => [.free, .regs, .sent, .doors, .sqs, .descs, .nextDesc]
  | .descNop .. => [.sqs, .descs, .completions]
  | .descJob .. => [.free, .harts, .sqs, .descs, .completions, .jobs]
  | .jobComplete .. => [.sqs, .descs, .completions, .jobs]
  | .descDma .. => [.dws, .sqs, .descs, .completions]
  | .descMgmt .. => [.sqs, .descs, .completions, .live]
  | .completionWrite .. =>
    [.free, .mem, .poison, .regs, .harts, .rooms, .sent, .attics, .dws, .doors, .cqs, .completions, .errRings, .wingLogs,
     .errInFlight, .ceWindows]
  | .msiXCoalesceTimer .. => [.now, .sent, .doors, .cqs]
  | .eventWrite .. =>
    [.free, .mem, .poison, .regs, .harts, .rooms, .sent, .attics, .dws, .doors, .cqs, .errRings, .wingLogs, .errInFlight,
     .ceWindows]
  | .sqCfgWrite .. | .doorRelease .. => [.regs, .sent, .doors, .sqs]
  | .cqCfgWrite .. => [.sent, .doors, .cqs]
  | .bar2Access .. =>
    [.free, .mem, .poison, .regs, .harts, .rooms, .sent, .attics, .dws, .errRings, .wingLogs, .errInFlight, .ceWindows,
     .guards]
  | .perstN .. => [.doors, .pcies]
  | .hostLinkLoss .. | .dataLinkUp .. => [.doors]
  | .hostLost .. => [.now, .regs, .sent, .doors, .sqs]
  | .doorAdopt .. => [.regs, .sent, .doors, .sqs, .completions]
  | .doorDown .. =>
    [.free, .regs, .sent, .attics, .dws, .modules, .links, .doors, .sqs, .cqs, .descs, .completions, .jobs, .errRings,
     .wingLogs, .errInFlight, .ceWindows, .power, .therm, .boot, .flash, .flashLogs, .plan, .planGen, .planTime, .live,
     .mailboxStudy, .pcies]
  | .roomDrain .. =>
    [.regs, .rooms, .sent, .attics, .mailboxes, .doors, .sqs, .descs, .completions, .errRings, .wingLogs, .errInFlight,
     .ceWindows, .plan, .planGen, .planTime, .live, .mailboxStudy]
  | .drainEmpty .. => [.regs, .rooms, .sent, .doors, .live, .mailboxStudy]
  | .drainForce .. => [.now, .rooms, .boot]
  | .roomReadmit .. | .wingReadmit .. => [.rooms, .sqs, .descs, .completions, .boot, .live, .mailboxStudy]
  | .readmitBoot .. =>
    [.regs, .rooms, .sent, .attics, .doors, .errRings, .wingLogs, .errInFlight, .ceWindows, .plan, .planGen, .planTime,
     .live, .mailboxStudy]
  | .readmitResync .. => [.rooms, .regqs, .power]
  | .readmitPublish .. =>
    [.regs, .rooms, .sent, .mailboxes, .doors, .therm, .plan, .planGen, .planTime, .live, .mailboxStudy]
  | .wingDrain .. =>
    [.regs, .rooms, .sent, .attics, .wings, .mailboxes, .doors, .sqs, .descs, .completions, .errRings, .wingLogs,
     .errInFlight, .ceWindows, .plan, .planGen, .planTime, .live, .mailboxStudy]
  | .roomReset .. =>
    [.regs, .rooms, .sent, .doors, .sqs, .descs, .completions, .boot, .plan, .planGen, .planTime, .live, .mailboxStudy]
  | .pageRetire .. =>
    [.regs, .attics, .sqs, .descs, .completions, .errRings, .wingLogs, .errInFlight, .ceWindows, .flashLogs, .live,
     .mailboxStudy]
  | .bankRetire .. =>
    [.regs, .rooms, .sent, .attics, .doors, .sqs, .descs, .completions, .errRings, .wingLogs, .errInFlight, .ceWindows,
     .flashLogs, .plan, .planGen, .planTime, .live, .mailboxStudy]
  | .mgmtScrub .. => [.sqs, .descs, .completions, .live, .mailboxStudy]
  | .scrubGranule .. =>
    [.free, .mem, .poison, .regs, .harts, .rooms, .sent, .attics, .regqs, .dws, .doors, .errRings, .wingLogs,
     .errInFlight, .ceWindows, .live, .mailboxStudy]
  | .logRead .. | .settingsRead .. | .sensorRead .. =>
    [.free, .mem, .poison, .regs, .harts, .rooms, .attics, .dws, .sqs, .descs, .completions, .errRings, .wingLogs,
     .errInFlight, .ceWindows, .live, .mailboxStudy]
  | .fwStage .. => [.regs, .sent, .doors, .sqs, .descs, .completions, .flash, .flashLogs, .live, .mailboxStudy]
  | .fwActivate .. => [.regs, .sent, .doors, .sqs, .descs, .completions, .boot, .live, .mailboxStudy]
  | .fwCommit .. =>
    [.regs, .sent, .attics, .links, .doors, .sqs, .descs, .completions, .errRings, .wingLogs, .errInFlight, .ceWindows,
     .power, .therm, .flash, .flashLogs, .live, .mailboxStudy]
  | .fwRevert .. =>
    [.regs, .sent, .attics, .links, .doors, .sqs, .descs, .completions, .errRings, .wingLogs, .errInFlight, .ceWindows,
     .power, .therm, .boot, .flash, .flashLogs, .live, .mailboxStudy]
  | .settingsWrite .. =>
    [.regs, .sent, .attics, .links, .doors, .sqs, .descs, .completions, .errRings, .wingLogs, .errInFlight, .ceWindows,
     .power, .therm, .flash, .live, .mailboxStudy]
  | .mgmtLinkRecal .. => [.links, .sqs, .descs, .completions, .live, .mailboxStudy]
  | .absentClear .. => [.regs, .sent, .absentDevs, .doors, .sqs, .descs, .completions, .live, .mailboxStudy]
  | .powerCap .. => [.sqs, .descs, .completions, .power, .live, .mailboxStudy]
  | .mailboxGo .. => [.nextDesc, .live, .mailboxStudy]
  | .mailboxFinal => [.mailboxStudy]
  | .treeSubmit .. =>
    [.free, .mem, .regs, .attics, .avus, .trees, .errRings, .wingLogs, .errInFlight, .ceWindows, .guards]
  | .treeOpen .. | .treeClose .. | .treePrep .. | .treeKvput .. | .treeTopk .. | .treeAccept .. | .treeCommit ..
  | .treeRollback .. | .treeFlush .. =>
    [.free, .mem, .poison, .regs, .harts, .rooms, .attics, .trees, .dws, .errRings, .wingLogs, .errInFlight, .ceWindows,
     .guards]
  | .dwProgramStart .. | .endStep .. | .dwLoop .. | .dwWaitMet .. | .dwRestart .. => [.dws]
  | .dwWait .. => [.free, .regs, .attics, .dws, .errRings, .wingLogs, .errInFlight, .ceWindows]
  | .dwWaitTimeout .. => [.now, .dws]
  | .dwProgramComplete .. | .dwProgramError .. =>
    [.mem, .poison, .regs, .harts, .attics, .dws, .dwOrder, .sqs, .descs, .completions, .errRings, .wingLogs,
     .errInFlight, .ceWindows, .guards]
  | .dwCqConsWrite .. => [.mem, .poison, .regs, .harts, .dws, .dwOrder, .guards]
  | .dwFlush .. =>
    [.free, .mem, .poison, .regs, .harts, .rooms, .attics, .dws, .dwOrder, .sqs, .descs, .completions, .errRings,
     .wingLogs, .errInFlight, .ceWindows, .guards]
  | .roomTlbiAll .. | .roomTlbiAsid .. | .roomTlbiAsidVpn .. | .roomTlbiVpn .. | .roomIrqRouteWrite .. | .errConsWrite .. =>
    [.free, .mem, .poison, .regs, .harts, .rooms, .arrays, .attics, .regqs, .avus, .trees, .dws, .dwOrder, .sqs, .descs,
     .completions, .errRings, .wingLogs, .errInFlight, .ceWindows, .guards]
  | .wmbPending .. => [.mailboxes]
  | .floorPlanUpdate => [.regs, .sent, .doors, .plan, .planGen, .planTime]
  | .railFault .. =>
    [.now, .free, .mem, .poison, .regs, .harts, .rooms, .sent, .insts, .arrays, .attics, .avus, .trees, .dws, .dwOrder,
     .doors, .sqs, .descs, .completions, .errRings, .wingLogs, .errInFlight, .ceWindows, .therm, .flashLogs, .guards]
  | .headroomAlarm .. => [.regs, .attics, .errRings, .wingLogs, .errInFlight, .ceWindows, .power]
  | .headroomRelief .. | .headroomRecovery | .avsRetry .. | .grantIssue .. | .refRelock .. => [.now, .power]
  | .coreRaise => [.regs, .power]
  | .avsPoll .. | .powerCapLoop .. => [.now, .regs, .attics, .errRings, .wingLogs, .errInFlight, .ceWindows, .power]
  | .grantRequest .. | .accountShareRecompute | .pwrCapWrite .. => [.power]
  | .refLoss .. =>
    [.regs, .rooms, .sent, .attics, .wings, .modules, .links, .doors, .errRings, .wingLogs, .errInFlight, .ceWindows,
     .power, .live, .mailboxStudy]
  | .sensorSample .. =>
    [.now, .free, .regs, .rooms, .sent, .attics, .dws, .wings, .modules, .links, .mailboxes, .doors, .sqs, .cqs, .descs,
     .completions, .jobs, .errRings, .wingLogs, .errInFlight, .ceWindows, .power, .therm, .boot, .flash, .flashLogs,
     .plan, .planGen, .planTime, .live, .mailboxStudy, .pcies]
  | .sensorInvalid .. => [.now, .regs, .attics, .errRings, .wingLogs, .errInFlight, .ceWindows, .therm]
  | .throttleStep .. => [.now, .regs, .sent, .doors, .power, .therm]
  | .slowNoticeSend .. => [.now, .regs, .reqs, .sent, .colls, .mailboxes, .doors, .therm]
  | .thermalTrip .. | .powerOn | .pwrGoodLow | .resetNLow | .powerLoss =>
    [.free, .mem, .poison, .regs, .harts, .rooms, .tags, .reqs, .exitMsgs, .caches, .colls, .insts, .keptEnds, .arrays,
     .attics, .regqs, .avus, .trees, .dws, .dwOrder, .wings, .halls, .modules, .dies, .links, .fabric, .absentDevs,
     .mailboxes, .doors, .sqs, .cqs, .descs, .nextDesc, .completions, .jobs, .errRings, .wingLogs, .errInFlight,
     .deviceLog, .ceWindows, .power, .therm, .boot, .aon, .plan, .planGen, .planTime, .live, .mailboxStudy, .remaps,
     .test, .pcies, .guards]
  | .tripRelease | .samplingEdge .. => [.bootCount, .boot, .test]
  | .roomStopGrace .. | .pwrWarn =>
    [.free, .mem, .poison, .regs, .harts, .rooms, .sent, .insts, .arrays, .attics, .avus, .trees, .dws, .dwOrder, .doors,
     .sqs, .descs, .completions, .errRings, .wingLogs, .errInFlight, .ceWindows, .therm, .flashLogs, .guards]
  | .roomStopClocks .. =>
    [.now, .free, .mem, .poison, .regs, .harts, .rooms, .tags, .reqs, .colls, .arrays, .attics, .avus, .trees, .dws,
     .dwOrder, .errRings, .wingLogs, .errInFlight, .ceWindows, .power, .guards]
  | .roomStopNotice .. =>
    [.free, .mem, .poison, .regs, .harts, .rooms, .tags, .reqs, .sent, .colls, .insts, .keptEnds, .attics, .dws,
     .mailboxes, .errRings, .wingLogs, .errInFlight, .ceWindows, .guards]
  | .roomStopPublish .. => [.regs, .harts, .rooms, .exitMsgs, .sent, .doors, .jobs, .plan, .planGen, .planTime]
  | .readmissible .. | .slopeCapStep => [.now, .regs, .sent, .doors, .therm]
  | .slopeFit | .telemetryStale | .deviceStopDrainEnd | .dutyRotation => [.now, .therm]
  | .thermCoolWrite .. => [.regs, .sent, .doors, .therm]
  | .thermCfgWrite .. => [.therm]
  | .flowOkLoss =>
    [.free, .mem, .poison, .regs, .harts, .rooms, .sent, .insts, .arrays, .attics, .avus, .trees, .dws, .dwOrder, .doors,
     .sqs, .descs, .completions, .errRings, .wingLogs, .errInFlight, .ceWindows, .power, .therm, .flashLogs, .guards]
  | .commitPoint =>
    [.now, .free, .mem, .poison, .regs, .harts, .rooms, .tags, .reqs, .exitMsgs, .caches, .sent, .colls, .insts,
     .keptEnds, .arrays, .attics, .regqs, .avus, .trees, .dws, .dwOrder, .wings, .halls, .modules, .dies, .links,
     .fabric, .absentDevs, .mailboxes, .doors, .sqs, .cqs, .descs, .nextDesc, .completions, .jobs, .errRings, .wingLogs,
     .errInFlight, .deviceLog, .flashLog, .deviceSeq, .ceWindows, .power, .therm, .boot, .aon, .flashLogs, .plan,
     .planGen, .planTime, .live, .mailboxStudy, .remaps, .test, .pcies, .guards]
  | .deviceStopResume .. =>
    [.now, .free, .mem, .poison, .regs, .harts, .rooms, .tags, .reqs, .exitMsgs, .caches, .sent, .colls, .insts,
     .keptEnds, .arrays, .attics, .regqs, .avus, .trees, .dws, .dwOrder, .wings, .halls, .modules, .dies, .links,
     .fabric, .bootCount, .absentDevs, .mailboxes, .doors, .sqs, .cqs, .descs, .nextDesc, .completions, .jobs, .errRings,
     .wingLogs, .errInFlight, .deviceLog, .flashLog, .deviceSeq, .ceWindows, .power, .therm, .boot, .aon, .plan,
     .planGen, .planTime, .live, .mailboxStudy, .remaps, .test, .pcies, .guards]
  | .keepWarmStart .. => [.arrays, .power, .therm]
  | .keepWarmStop .. => [.free, .regs, .arrays, .power, .therm]
  | .cycleCountSave => [.now, .flashLogs]
  | .studyWatchdogExpiry | .deviceReset .. | .dbgNdmreset =>
    [.free, .mem, .poison, .regs, .harts, .rooms, .tags, .reqs, .exitMsgs, .caches, .sent, .colls, .insts, .keptEnds,
     .arrays, .attics, .regqs, .avus, .trees, .dws, .dwOrder, .wings, .halls, .modules, .dies, .links, .fabric,
     .bootCount, .absentDevs, .mailboxes, .doors, .sqs, .cqs, .descs, .nextDesc, .completions, .jobs, .errRings,
     .wingLogs, .errInFlight, .deviceLog, .flashLog, .deviceSeq, .ceWindows, .power, .therm, .boot, .aon, .plan,
     .planGen, .planTime, .live, .mailboxStudy, .remaps, .test, .pcies, .guards]
  | .hostGo .. | .bootPhaseFuses | .bootPhaseLinks => [.boot]
  | .bootRetry .. | .failedStart =>
    [.free, .mem, .poison, .regs, .harts, .rooms, .tags, .reqs, .exitMsgs, .caches, .sent, .colls, .insts, .keptEnds,
     .arrays, .attics, .regqs, .avus, .trees, .dws, .dwOrder, .wings, .halls, .modules, .dies, .links, .fabric,
     .bootCount, .absentDevs, .mailboxes, .doors, .sqs, .cqs, .descs, .nextDesc, .completions, .jobs, .errRings,
     .wingLogs, .errInFlight, .deviceLog, .flashLog, .deviceSeq, .ceWindows, .power, .therm, .boot, .aon, .flashLogs,
     .plan, .planGen, .planTime, .live, .mailboxStudy, .remaps, .test, .pcies, .guards]
  | .wingReset .. | .porchReset .. | .blockResetRequest .. => [.rooms, .boot]
  | .blockSettleEnd .. =>
    [.free, .mem, .poison, .regs, .harts, .rooms, .tags, .reqs, .exitMsgs, .sent, .colls, .insts, .keptEnds, .arrays,
     .attics, .regqs, .avus, .trees, .dws, .dwOrder, .wings, .halls, .modules, .links, .mailboxes, .doors, .jobs,
     .errRings, .wingLogs, .errInFlight, .ceWindows, .power, .therm, .boot, .flashLogs, .live, .mailboxStudy, .guards]
  | .blockSettleTimeout .. =>
    [.now, .free, .mem, .poison, .regs, .harts, .rooms, .tags, .reqs, .exitMsgs, .sent, .colls, .insts, .keptEnds,
     .arrays, .attics, .regqs, .avus, .trees, .dws, .dwOrder, .wings, .halls, .modules, .links, .mailboxes, .doors,
     .jobs, .errRings, .wingLogs, .errInFlight, .ceWindows, .power, .therm, .boot, .flashLogs, .live, .mailboxStudy,
     .guards]
  | .blockRelease .. =>
    [.regs, .rooms, .sent, .wings, .doors, .power, .boot, .plan, .planGen, .planTime, .live, .mailboxStudy]
  | .optionLoad => [.devId, .power, .boot]
  | .bootPhaseOption =>
    [.regs, .rooms, .sent, .attics, .wings, .doors, .errRings, .wingLogs, .errInFlight, .ceWindows, .boot, .plan,
     .planGen, .planTime, .live]
  | .bootPhaseStrongroomRom .. =>
    [.regs, .rooms, .sent, .attics, .wings, .doors, .errRings, .wingLogs, .errInFlight, .ceWindows, .boot, .flashLogs,
     .plan, .planGen, .planTime, .live]
  | .bootPhaseStudyFirmware .. =>
    [.regs, .rooms, .sent, .attics, .wings, .doors, .errRings, .wingLogs, .errInFlight, .ceWindows, .therm, .boot, .aon,
     .plan, .planGen, .planTime, .live]
  | .bootPhaseHallStairs =>
    [.regs, .rooms, .sent, .attics, .wings, .halls, .links, .doors, .errRings, .wingLogs, .errInFlight, .ceWindows,
     .power, .boot, .live, .mailboxStudy, .remaps]
  | .imageBroadcast .. =>
    [.mem, .poison, .regs, .harts, .rooms, .sent, .attics, .dws, .wings, .dies, .links, .doors, .errRings, .wingLogs,
     .errInFlight, .ceWindows, .power, .boot, .live, .mailboxStudy]
  | .roomBootResult .. =>
    [.mem, .poison, .regs, .harts, .rooms, .sent, .attics, .dws, .doors, .errRings, .wingLogs, .errInFlight, .ceWindows,
     .power, .boot, .flash, .flashLogs, .plan, .planGen, .planTime, .live, .mailboxStudy]
  | .roomBootTimeout .. =>
    [.now, .mem, .poison, .regs, .harts, .rooms, .sent, .attics, .dws, .doors, .errRings, .wingLogs, .errInFlight,
     .ceWindows, .power, .boot, .flash, .flashLogs, .plan, .planGen, .planTime, .live, .mailboxStudy]
  | .bootPhaseFwBroadcast => [.regs, .fabric, .boot]
  | .bootPhaseReady =>
    [.regs, .sent, .attics, .regqs, .links, .doors, .errRings, .wingLogs, .errInFlight, .ceWindows, .power, .therm,
     .boot, .aon, .flash, .flashLogs, .plan, .planGen, .planTime, .live, .mailboxStudy]
  | .bootPhaseTimeout | .hostTimeout => [.now, .boot]
  | .errorRecordPost .. =>
    [.regs, .sent, .attics, .doors, .errRings, .wingLogs, .errInFlight, .deviceLog, .flashLog, .deviceSeq, .ceWindows]
  | .ceWindowEnd .. => [.now, .regs, .errRings, .wingLogs, .errInFlight, .ceWindows]
  | .rowRepairSwitch .. => [.attics, .mailboxes]
  | .rowRepairLog .. => [.regs, .attics, .errRings, .wingLogs, .errInFlight, .ceWindows, .flashLogs]
  | .wordRemap .. =>
    [.free, .regs, .rooms, .sent, .attics, .links, .doors, .errRings, .wingLogs, .errInFlight, .ceWindows, .power,
     .therm, .boot, .flash, .flashLogs, .live, .mailboxStudy, .remaps]
  | .fwTrialTimeout .. | .mirrorHeartbeatLoss .. =>
    [.now, .regs, .sent, .attics, .links, .doors, .errRings, .wingLogs, .errInFlight, .ceWindows, .power, .therm, .boot,
     .flash, .flashLogs, .live, .mailboxStudy]
  | .handoverTransfer => [.live]
  | .handoverSwitch | .standbyTakeover .. =>
    [.regs, .sent, .attics, .links, .doors, .errRings, .wingLogs, .errInFlight, .ceWindows, .power, .therm, .boot,
     .flash, .flashLogs, .live, .mailboxStudy]
  | .wingControllerRestart => [.now, .regs, .sent, .doors, .live, .mailboxStudy]
  | .setEndpointId .. => [.test]
  | .pldmBaseDiscovery .. | .getVersion | .getCapabilities | .negotiateAlgorithms | .getDigests | .getCertificate
  | .spdmChallenge .. | .getMeasurements .. => [.sent]
  | .pldmPlatform .. => [.regs, .sent, .doors, .power, .therm]
  | .tapExtest .. | .tapSamplePreload .. | .tapDmi .. => [.free, .sent, .test]
  | .tapIdcode | .tapClamp | .tapHighz | .tapBypass .. | .tapDtmcs .. => [.sent, .test]
  | .dbgAccessRegister .. => [.free, .harts, .test]
  | .hartHalt .. => [.harts, .test]
  | .hartResume .. => [.harts, .rooms, .test]
  | .stopResetWaitEnd => [.now, .bootCount, .boot]
  | .configRequest .. => [.sent, .doors, .pcies]
  | .supplyDroop .. => []

end Sys2Proof.Machine
end

