-- ==== Sys2Proof/Certificates/Slice0/Obligations.lean ====
section
/-! DEFINITION. The statements about the part, from the numbered rules of its spec. -/
open Sys2Proof Sys2Proof.Machine

/-- Ordinary loads, stores, AMOs, LR and SC of a hart complete with their results. Cites R85, R104, R108, R112. -/
def Obligations.HartMemoryInstructionsComplete : Prop :=
  (∀ (h : HartId) (m : MemForm) (s : State) (x : Xlate) (l : List Byte),
     s.canRun h = true →
     m.wf = true →
     (formAddress (s.hart h) m.rs1 m.imm).toNat % m.bytes = 0 →
     s.translate h.room.val ((s.hart h).authority h.hart.val) .read .load (formAddress (s.hart h) m.rs1 m.imm) = .ok x →
     s.homeOpen (x.cls (s.hart h).priv) (s.placeFor h.room.val x.pa m.bytes) m.bytes = true →
     s.memRead (s.placeFor h.room.val x.pa m.bytes) m.bytes = .data l →
     ∃ t, exec (.load h m) s = .next t ∧ t.hart h = ((s.hart h).deliver m.reg.val m.bytes m.unsigned m.fp false
       l).retire (if m.compressed then 2 else 4) ∧ t.mem = s.mem) ∧
  (∀ (h : HartId) (m : MemForm) (s : State) (x : Xlate),
     s.canRun h = true →
     m.wf = true →
     (formAddress (s.hart h) m.rs1 m.imm).toNat % m.bytes = 0 →
     s.translate h.room.val ((s.hart h).authority h.hart.val) .write .store (formAddress (s.hart h) m.rs1 m.imm) = .ok x
       →
     x.type ≤ 2 →
     s.homeOpen (x.cls (s.hart h).priv) (s.placeFor h.room.val x.pa m.bytes) m.bytes = true →
     s.writeCode (s.placeFor h.room.val x.pa m.bytes) (toBytes m.bytes ((s.hart h).storeValue m).toNat) = 0 →
     ∃ t, exec (.store h m) s = .next t ∧ t.hart h = (s.hart h).retire (if m.compressed then 2 else 4) ∧ t.mem =
       (s.memWrite (s.placeFor h.room.val x.pa m.bytes) (toBytes m.bytes ((s.hart h).storeValue m).toNat) (some (hkey h))).mem) ∧
  (∀ (h : HartId) (op : AmoOp) (a : AtomicForm) (s : State) (x : Xlate) (l : List Byte),
     s.canRun h = true →
     s.released h a.rl = true →
     ((s.hart h).reg a.rs1.val).toNat % (if a.double then 8 else 4) = 0 →
     s.translate h.room.val ((s.hart h).authority h.hart.val) .both .store ((s.hart h).reg a.rs1.val) = .ok x →
     x.type ≤ 2 →
     s.homeOpen (x.cls (s.hart h).priv) (s.placeFor h.room.val x.pa (if a.double then 8 else 4)) (if a.double then 8 else 4)
       = true →
     s.atomicAnswer (.amo op a.double ((s.hart h).reg a.rs2.val)) (s.placeFor h.room.val x.pa (if a.double then 8 else 4))
       = .data l →
     ∃ t, exec (.amo h op a) s = .next t ∧ t.hart h = ((s.hart h).deliver a.rd.val (if a.double then 8 else 4) false
       false false l).retire ∧ t.mem = (s.atomicPerform (.amo op a.double ((s.hart h).reg a.rs2.val)) (s.placeFor h.room.val
       x.pa (if a.double then 8 else 4)) (some (hkey h))).mem) ∧
  (∀ (h : HartId) (a : AtomicForm) (s : State) (x : Xlate) (p : Place) (key : Nat) (l : List Byte),
     s.canRun h = true →
     s.released h a.rl = true →
     s.reserveTarget h ((s.hart h).reg a.rs1.val) (if a.double then 8 else 4) = .ok (x, p, key) →
     s.homeOpen (x.cls (s.hart h).priv) p (if a.double then 8 else 4) = true →
     s.memRead p (if a.double then 8 else 4) = .data l →
     ∃ t, exec (.lr h a) s = .next t ∧ t.hart h = { ((s.hart h).deliver a.rd.val (if a.double then 8 else 4) false false false l).retire with resv := some ⟨key, if a.double then 8 else 4⟩ }
       ∧ t.mem = s.mem) ∧
  (∀ (h : HartId) (a : AtomicForm) (s : State) (x : Xlate) (p : Place) (key : Nat) (l : List Byte),
     s.canRun h = true →
     s.released h a.rl = true →
     s.reserveTarget h ((s.hart h).reg a.rs1.val) (if a.double then 8 else 4) = .ok (x, p, key) →
     s.homeOpen (x.cls (s.hart h).priv) p (if a.double then 8 else 4) = true →
     s.memRead p (if a.double then 8 else 4) = .data l →
     (s.hart h).resv = some ⟨key, if a.double then 8 else 4⟩ →
     ∃ t, exec (.sc h a) s = .next t ∧ (t.hart h).reg a.rd.val = 0 ∧ (t.hart h).pc = (s.hart h).pc + 4 ∧ (t.hart h).resv
       = none ∧ t.mem = (s.memWrite p (toBytes (if a.double then 8 else 4) ((s.hart h).reg a.rs2.val).toNat) (some (hkey
       h))).mem) ∧
  (∀ (h : HartId) (a : AtomicForm) (s : State) (x : Xlate) (p : Place) (key : Nat),
     s.canRun h = true →
     s.released h a.rl = true →
     s.reserveTarget h ((s.hart h).reg a.rs1.val) (if a.double then 8 else 4) = .ok (x, p, key) →
     s.homeOpen (x.cls (s.hart h).priv) p (if a.double then 8 else 4) = true →
     (s.hart h).resv ≠ some ⟨key, if a.double then 8 else 4⟩ →
     ∃ t, exec (.sc h a) s = .next t ∧ t.hart h = { ((s.hart h).setReg a.rd.val 1).retire with resv := none } ∧ t.mem =
       s.mem)

/-- FENCE, FENCE.I, SFENCE.VMA, WFI, satp and SZ_GSTATUS accesses, the timer and a taken interrupt. Cites R85, R86,
    R94, R100, R102, R121, R122. -/
def Obligations.HartControlInstructionsComplete : Prop :=
  (∀ (h : HartId) (pred succ : BitVec 4) (s : State),
     s.canRun h = true →
     s.hasStores h = false →
     ∃ t, exec (.fence h pred succ) s = .next t ∧ t.hart h = (s.hart h).retire ∧ t.mem = s.mem ∧ (pred.toNat % 4 = 3 →
       bitOf succ.toNat 2 = true → t.freshRanges (hkey h) = [])) ∧
  (∀ (h : HartId) (s : State),
     s.canRun h = true →
     ∃ t, exec (.fenceI h) s = .next t ∧ t.hart h = (s.hart h).retire ∧ (t.room h.room.val).icache = []) ∧
  (∀ (h : HartId) (rs1 rs2 : Fin 32) (s : State),
     s.canRun h = true →
     (s.hart h).denied 20 = false →
     ∃ t, exec (.sfenceVma h rs1 rs2) s = .next t ∧ t.hart h = (s.hart h).retire ∧ (t.room h.room.val).walkCache = [] ∧
       ∀ e : TlbEntry, ((rs1 == 0 || e.hasVpn (fld ((s.hart h).reg rs1.val).toNat 51 16)) && (rs2 == 0 || (e.asid ==
       ((s.hart h).reg rs2.val).toNat % 65536 && !bitOf e.pte 5))) = true → e ∉ (t.room h.room.val).tlb ∧ e ∉ (t.room
       h.room.val).dtlb ∧ e ∉ (t.room h.room.val).itlb) ∧
  (∀ (h : HartId) (s : State),
     s.canRun h = true →
     (s.hart h).denied 21 = false →
     s.pendingEnabled h = [] →
     exec (.wfi h) s = .next ((s.modHart h fun x => { x with wait := .wfi }).issued h)) ∧
  (∀ (h : HartId) (s : State),
     s.canRun h = true →
     (s.hart h).denied 21 = false →
     s.pendingEnabled h ≠ [] →
     exec (.wfi h) s = .next ((s.modHart h (·.retire)).issued h)) ∧
  (∀ (h : HartId) (value : W64) (s : State),
     s.canRun h = true →
     (s.hart h).denied 20 = false →
     exec (.satpWrite h value) s = .next ((s.modHart h fun x => { x.retire with satp := if value.toNat / 2 ^ 60 = 0 ∨ value.toNat / 2 ^ 60 = 14 then value else x.satp }).issued h)) ∧
  (∀ (h : HartId) (op : CsrOp) (imm : Bool) (rd src : Fin 32) (s : State),
     s.canRun h = true →
     ∃ t, exec (.szGstatusCsrAccess h op imm rd src) s = .next t ∧ (rd.val ≠ 0 → (t.hart h).reg rd.val = (s.hart
       h).gstatus) ∧ (t.hart h).pc = (s.hart h).pc + 4) ∧
  (∀ (h : HartId) (s : State),
     ∃ t, exec (.machineTimerExpiry h) s = .next t ∧ t.now = max s.now (s.regN .roomMtimecmp (hkey h)) ∧ t.timerPending
       h = true) ∧
  (∀ (h : HartId) (s : State) (c : Nat),
     s.irqToTake h = some c →
     (s.hart h).wait = .none →
     exec (.interruptTaken h) s = .next (s.modHart h (·.takeIrq c)))

/-- Every global load delivers its extended value and every global store writes its bytes, and both retire. Cites
    R126, R139, R140. -/
def Obligations.GlobalAccessesComplete : Prop :=
  (∀ (h : HartId) (w : W32) (s : State) (x : Xlate) (l : List Byte) (c : Instr) (op5 n : Nat) (u : Bool),
     (c, op5, n, u) ∈ [(Instr.szGlb h w, 0, 1, false), (.szGlh h w, 1, 2, false), (.szGlw h w, 2, 4, false), (.szGld h w, 3, 8, false), (.szGlq h w, 4, 16, false), (.szGlbu h w, 5, 1, true), (.szGlhu h w, 6, 2, true), (.szGlwu h w, 7, 4, true)]
       →
     s.canRunWord h w custom1 op5 = true →
     s.released h (szRl w) = true →
     ((s.hart h).reg (szRs1 w)).toNat % n = 0 →
     s.translate h.room.val ((s.hart h).authority h.hart.val) .read .load ((s.hart h).reg (szRs1 w)) = .ok x →
     x.type ≤ 2 →
     s.homeOpen (szF3 w) (s.placeFor h.room.val x.pa n) n = true →
     s.memRead (s.placeFor h.room.val x.pa n) n = .data l →
     ∃ t, exec c s = .next t ∧ t.hart h = ((s.hart h).deliver (szRd w) n u false (n == 16) l).retire ∧ t.mem = s.mem) ∧
  (∀ (h : HartId) (w : W32) (s : State) (x : Xlate) (c : Instr) (op5 n v : Nat),
     (c, op5, n, v) ∈ [(Instr.szGsb h w, 8, 1, ((s.hart h).reg (szRs2 w)).toNat), (.szGsh h w, 9, 2, ((s.hart h).reg (szRs2 w)).toNat), (.szGsw h w, 10, 4, ((s.hart h).reg (szRs2 w)).toNat), (.szGsd h w, 11, 8, ((s.hart h).reg (szRs2 w)).toNat), (.szGsq h w, 12, 16, ((s.hart h).pair (szRs2 w)).toNat)]
       →
     s.canRunWord h w custom1 op5 = true →
     s.released h (szRl w) = true →
     ((s.hart h).reg (szRs1 w)).toNat % n = 0 →
     s.translate h.room.val ((s.hart h).authority h.hart.val) .write .store ((s.hart h).reg (szRs1 w)) = .ok x →
     x.type ≤ 2 →
     s.homeOpen (szF3 w) (s.placeFor h.room.val x.pa n) n = true →
     s.writeCode (s.placeFor h.room.val x.pa n) (toBytes n v) = 0 →
     ∃ t, exec c s = .next t ∧ t.hart h = (s.hart h).retire ∧ t.mem = (s.memWrite (s.placeFor h.room.val x.pa n) (toBytes n
       v) (some (hkey h))).mem)

/-- Every global atomic and lease operation is performed once at its home and delivers its result. Cites R41, R112,
    R115, R116, R141, R142, R181. -/
def Obligations.GlobalAtomicsComplete : Prop :=
  ∀ (h : HartId) (w : W32) (s : State) (x : Xlate) (l : List Byte) (c : Instr) (op5 : Nat) (op : HomeAtomic) (pair :
      Bool),
    (c, op5, op, pair) ∈ [(Instr.szXaadd h w, 0x10, HomeAtomic.xaAdd ((s.hart h).pair (szRs2 w)), true), (.szAmofaddW h w, 0x11, .fadd (((s.hart h).reg (szRs2 w)).setWidth 32), false), (.szAmofmaxW h w, 0x12, .fmax (((s.hart h).reg (szRs2 w)).setWidth 32), false), (.szAmofminW h w, 0x13, .fmin (((s.hart h).reg (szRs2 w)).setWidth 32), false), (.szAmocasW h w, 0x14, .cas 4 (((s.hart h).reg (szRd w)).setWidth 128) (((s.hart h).reg (szRs2 w)).setWidth 128), false), (.szAmocasD h w, 0x15, .cas 8 (((s.hart h).reg (szRd w)).setWidth 128) (((s.hart h).reg (szRs2 w)).setWidth 128), false), (.szAmocasQ h w, 0x16, .cas 16 ((s.hart h).pair (szRd w)) ((s.hart h).pair (szRs2 w)), true), (.szLacq h w, 0x18, .leaseAcq (s.callerId h) (s.callerEpoch h) ((s.hart h).reg (szRs2 w)), false), (.szLrel h w, 0x19, .leaseRel (s.callerId h) (s.callerEpoch h), false)]
      →
    s.canRunWord h w custom1 op5 = true →
    s.released h (szRl w || op5 == 0x19) = true →
    ((s.hart h).reg (szRs1 w)).toNat % homeWidth op = 0 →
    s.translate h.room.val ((s.hart h).authority h.hart.val) .both .store ((s.hart h).reg (szRs1 w)) = .ok x →
    x.type ≤ 2 →
    homeAllows op (s.placeFor h.room.val x.pa (homeWidth op)) = true →
    s.homeOpen (szF3 w) (s.placeFor h.room.val x.pa (homeWidth op)) (homeWidth op) = true →
    s.atomicAnswer op (s.placeFor h.room.val x.pa (homeWidth op)) = .data l →
    ∃ t, exec c s = .next t ∧ t.hart h = ((s.hart h).deliverAtomic (szRd w) op pair (answerBytes op l)).retire ∧ t.mem
      = (s.atomicPerform op (s.placeFor h.room.val x.pa (homeWidth op)) (some (hkey h))).mem

/-- The view fence, sz.dwq, sz.signal and sz.wait, and the ends of a wait. Cites R111, R130, R143, R146, R147, R148.
    -/
def Obligations.ViewFenceSignalAndWaitComplete : Prop :=
  (∀ (h : HartId) (w : W32) (s : State),
     s.canRunWord h w custom1 0x1C = true →
     (s.hart h).reg (szRs2 w) = 0 →
     s.hasStores h = false →
     exec (.szVfence h w) s = .next ((s.modHart h (·.retire)).issued h)) ∧
  (∀ (h : HartId) (w : W32) (s : State) (b c : Bool) (o p : Nat),
     s.canRunWord h w custom1 0x1C = true →
     (s.hart h).reg (szRs2 w) ≠ 0 →
     ((s.hart h).reg (szRs2 w)).toNat ≤ atticSize →
     s.fenceByte h ((s.hart h).reg (szRs1 w)) = .ok (b, o) →
     s.fenceByte h ((s.hart h).reg (szRs1 w) + BitVec.ofNat 64 (((s.hart h).reg (szRs2 w)).toNat - 1)) = .ok (c, p) →
     exec (.szVfence h w) s = .next ((s.modHart h fun x => { x with wait := .vfence (s.fencePieces h ((s.hart h).reg (szRs1 w)) ((s.hart h).reg (szRs2 w)).toNat) (s.roomWork h.room.val) }).issued h)) ∧
  (∀ (h : HartId) (s : State) (pieces : List (Bool × Nat × Nat)) (work : FenceWork),
     (s.hart h).wait = .vfence pieces work →
     work.done (s.roomWork h.room.val) = true →
     ∃ t, exec (.viewFenceComplete h) s = .next t ∧ t.hart h = (s.hart h).retire ∧ ∀ q ∈ pieces, ∀ u ∈ (t.attic
       h.room.val).views, (viewPieces q.1 q.2.1 q.2.2).any (fun p => u.overlaps p) = false) ∧
  (∀ (h : HartId) (w : W32) (s : State) (x : Xlate),
     s.canRunWord h w custom2 0 = true →
     ((s.hart h).reg (szRs2 w)).toNat ≤ 7 →
     ((s.hart h).reg (szRs1 w)).toNat % 16 = 0 →
     s.translate h.room.val ((s.hart h).authority h.hart.val) .read .load ((s.hart h).reg (szRs1 w)) = .ok x →
     (∃ r o, s.placeFor h.room.val x.pa 16 = .pantry r o ∨ s.placeFor h.room.val x.pa 16 = .attic r false o) →
     (s.dw (h.room.val * 8 + ((s.hart h).reg (szRs2 w)).toNat)).queue.length < 4 →
     ∃ t, exec (.szDwq h w) s = .next t ∧ t.hart h = ((s.hart h).setReg (szRd w) (BitVec.ofNat 64 ((s.regN .dwDoneCount
       (h.room.val * 8 + ((s.hart h).reg (szRs2 w)).toNat) + (s.dw (h.room.val * 8 + ((s.hart h).reg (szRs2
       w)).toNat)).queue.length + 1) % 2 ^ 32))).retire ∧ (t.dw (h.room.val * 8 + ((s.hart h).reg (szRs2
       w)).toNat)).queue = (s.dw (h.room.val * 8 + ((s.hart h).reg (szRs2 w)).toNat)).queue ++
       [({ addr := x.pa, auth := (s.hart h).authority h.hart.val, guard := s.newGuard, tables := s.mem } : DwProgram)]) ∧
  (∀ (h : HartId) (w : W32) (s : State) (x : Xlate) (l : List Byte) (c : Instr) (f3 : Nat),
     (c, f3) ∈ [(Instr.szSignalSet h w, 0), (.szSignalClr h w, 1), (.szSignalAdd h w, 2)] →
     s.canRunWord h w custom2 1 = true →
     szF3 w = f3 →
     s.released h true = true →
     ((s.hart h).reg (szRs1 w)).toNat % 8 = 0 →
     s.translate h.room.val ((s.hart h).authority h.hart.val) .both .store ((s.hart h).reg (szRs1 w)) = .ok x →
     x.type = 2 →
     s.atomicAnswer (signalOp f3 ((s.hart h).reg (szRs2 w))) (s.placeFor h.room.val x.pa 8) = .data l →
     ∃ t, exec c s = .next t ∧ t.hart h = (s.hart h).retire ∧ t.mem = (s.atomicPerform (signalOp f3 ((s.hart h).reg
       (szRs2 w))) (s.placeFor h.room.val x.pa 8) (some (hkey h))).mem) ∧
  (∀ (h : HartId) (w : W32) (s : State) (x : Xlate) (d : Watched) (v : W64),
     s.canRunWord h w custom2 2 = true →
     ((s.hart h).reg (szRs1 w)).toNat % 8 = 0 →
     s.translate h.room.val ((s.hart h).authority h.hart.val) .read .load ((s.hart h).reg (szRs1 w)) = .ok x →
     watchedAt h.room.val (s.placeFor h.room.val x.pa 8) = some d →
     (s.testWatch h.room.val ⟨d, condOf (szF3 w), (s.hart h).reg (szRs2 w), .none⟩).hit = .value v →
     ∃ t, exec (.szWait h w) s = .next t ∧ t.hart h = ((s.hart h).setReg (szRd w) v).retire) ∧
  (∀ (h : HartId) (w : W32) (s : State) (x : Xlate) (d : Watched),
     s.canRunWord h w custom2 2 = true →
     ((s.hart h).reg (szRs1 w)).toNat % 8 = 0 →
     s.translate h.room.val ((s.hart h).authority h.hart.val) .read .load ((s.hart h).reg (szRs1 w)) = .ok x →
     watchedAt h.room.val (s.placeFor h.room.val x.pa 8) = some d →
     (s.testWatch h.room.val ⟨d, condOf (szF3 w), (s.hart h).reg (szRs2 w), .none⟩).hit = .none →
     ∃ t, exec (.szWait h w) s = .next t ∧ t.hart h = { s.hart h with wait := .watch (szRd w) ((s.hart h).reg (szRs1 w)) ⟨d, condOf (szF3 w), (s.hart h).reg (szRs2 w), .none⟩ (s.waitDeadline h) }) ∧
  (∀ (h : HartId) (s : State) (rd : Nat) (va : W64) (k : Watch) (d : Option Nat) (v : W64),
     (s.hart h).wait = .watch rd va k d →
     k.hit = .value v →
     exec (.szWaitMet h) s = .next (s.modHart h fun x => (x.setReg rd v).retire)) ∧
  (∀ (h : HartId) (s : State) (rd : Nat) (va : W64) (k : Watch) (d : Nat),
     (s.hart h).wait = .watch rd va k (some d) →
     k.hit = .none →
     ∃ t, exec (.szWaitTimeout h) s = .next t ∧ t.now = max s.now d ∧ t.hart h = ((s.hart h).setReg rd (s.watchedValue
       h.room.val k.word)).retire)

/-- Room barriers, global barriers, spawn, join and exit complete. Cites R89, R90, R149, R154, R155, R156, R157. -/
def Obligations.BarriersAndThreadsComplete : Prop :=
  (∀ (h : HartId) (w : W32) (s : State),
     s.canRunWord h w custom2 3 = true →
     s.released h true = true →
     ((s.hart h).reg (szRs1 w)).toNat ≤ 3 →
     (1 ≤ ((s.hart h).reg (szRs2 w)).toNat ∧ ((s.hart h).reg (szRs2 w)).toNat ≤ 32) →
     ((tget ((s.hart h).reg (szRs1 w)).toNat (s.room h.room.val).barriers).getD
       ⟨((s.hart h).reg (szRs2 w)).toNat, []⟩).count = ((s.hart h).reg (szRs2 w)).toNat →
     ((tget ((s.hart h).reg (szRs1 w)).toNat (s.room h.room.val).barriers).getD
       ⟨((s.hart h).reg (szRs2 w)).toNat, []⟩).arrived.length + 1 ≠ ((s.hart h).reg (szRs2 w)).toNat →
     ∃ t, exec (.szRbar h w) s = .next t ∧ t.hart h = { s.hart h with wait := .rbar (szRd w) ((s.hart h).reg (szRs1 w)).toNat (s.waitDeadline h) }
       ∧ tget ((s.hart h).reg (szRs1 w)).toNat (t.room h.room.val).barriers = some
       ⟨((s.hart h).reg (szRs2 w)).toNat, ((tget ((s.hart h).reg (szRs1 w)).toNat (s.room h.room.val).barriers).getD ⟨((s.hart h).reg (szRs2 w)).toNat, []⟩).arrived ++ [h.hart.val]⟩) ∧
  (∀ (h : HartId) (w : W32) (s : State),
     s.canRunWord h w custom2 3 = true →
     s.released h true = true →
     ((s.hart h).reg (szRs1 w)).toNat ≤ 3 →
     (1 ≤ ((s.hart h).reg (szRs2 w)).toNat ∧ ((s.hart h).reg (szRs2 w)).toNat ≤ 32) →
     ((tget ((s.hart h).reg (szRs1 w)).toNat (s.room h.room.val).barriers).getD
       ⟨((s.hart h).reg (szRs2 w)).toNat, []⟩).count = ((s.hart h).reg (szRs2 w)).toNat →
     ((tget ((s.hart h).reg (szRs1 w)).toNat (s.room h.room.val).barriers).getD
       ⟨((s.hart h).reg (szRs2 w)).toNat, []⟩).arrived.length + 1 = ((s.hart h).reg (szRs2 w)).toNat →
     ∃ t, exec (.szRbar h w) s = .next t ∧ t.hart h = ((s.hart h).setReg (szRd w) 0).retire ∧ (t.room
       h.room.val).barriers = tdel ((s.hart h).reg (szRs1 w)).toNat (s.room h.room.val).barriers) ∧
  (∀ (h : HartId) (s : State) (rd id d : Nat),
     (s.hart h).wait = .rbar rd id (some d) →
     ∃ t, exec (.szRbarTimeout h) s = .next t ∧ t.now = max s.now d ∧ t.hart h = ((s.hart h).setReg rd 1).retire ∧ (∀ b,
       tget id (t.room h.room.val).barriers = some b → h.hart.val ∉ b.arrived)) ∧
  (∀ (h : HartId) (w : W32) (s u : State) (words : List W64) (n : Nat),
     s.canRunWord h w custom3 0 = true →
     s.released h true = true →
     s.readDescriptor h ((s.hart h).reg (szRs1 w)) 64 = .words words u →
     collBad words (s.hart h).priv = false →
     s.freeSlot h.room.val = some n →
     u.collOpen h.room.val (u.collEntry h n words false) = true →
     ∃ t, exec (.szColl h w) s = .next t ∧ (t.hart h).reg (szRd w) = 0 ∧ (t.hart h).pc = (s.hart h).pc + 4 ∧ (t.hart
       h).wait = .none) ∧
  (∀ (h : HartId) (w : W32) (s u : State) (words : List W64) (g : GbarPending) (v : Nat),
     s.canRunWord h w custom3 1 = true →
     s.readDescriptor h ((s.hart h).reg (szRs1 w)) 64 = .words words u →
     collBad words (s.hart h).priv = false →
     collOp words = 6 →
     (s.hart h).gbar = some g →
     g.collId = (collId words).toNat →
     g.result = some v →
     ∃ t, exec (.szGbar h w) s = .next t ∧ t.hart h = { ((s.hart h).setReg (szRd w) (BitVec.ofNat 64 v)).retire with gbar := none }) ∧
  (∀ (h : HartId) (w : W32) (s u : State) (words : List W64) (n : Nat),
     s.canRunWord h w custom3 1 = true →
     s.released h true = true →
     s.readDescriptor h ((s.hart h).reg (szRs1 w)) 64 = .words words u →
     collBad words (s.hart h).priv = false →
     collOp words = 6 →
     (s.hart h).gbar = none →
     s.freeSlot h.room.val = some n →
     u.collOpen h.room.val (u.collEntry h n words true) = true →
     ∃ t, exec (.szGbar h w) s = .next t ∧ (((t.hart h).gbar = some ⟨(collId words).toNat, none⟩ ∧ (t.hart h).wait =
       .gbar (szRd w) (s.waitDeadline h)) ∨ ((t.hart h).gbar = none ∧ (t.hart h).pc = (s.hart h).pc + 4))) ∧
  (∀ (h : HartId) (s : State) (rd d : Nat),
     (s.hart h).wait = .gbar rd (some d) →
     ∃ t, exec (.szGbarTimeout h) s = .next t ∧ t.now = max s.now d ∧ t.hart h =
       { ((s.hart h).setReg rd 1).retire with gbar := none }) ∧
  (∀ (h : HartId) (w : W32) (s : State) (x : Xlate) (b : List PByte) (g : Nat),
     s.canRunWord h w custom3 2 = true →
     s.released h true = true →
     ((s.hart h).reg (szRs1 w)).toNat < 2 ^ 29 →
     ((s.hart h).reg (szRs1 w)).toNat / 2 ^ 10 % 32 ≤ 23 →
     s.absentDevs.contains (((s.hart h).reg (szRs1 w)).toNat / 2 ^ 15 % 2 ^ 14) = false →
     ((s.hart h).reg (szRs2 w)).toNat % 8 = 0 →
     s.translate h.room.val ((s.hart h).authority h.hart.val) .read .load ((s.hart h).reg (szRs2 w)) = .ok x →
     s.unitRead h.room.val ((s.hart h).authority h.hart.val) ((s.hart h).reg (szRs2 w)).toNat 32 = .ok b →
     b.any (·.2) = false →
     (s.room h.room.val).children.length < 256 →
     s.freeTag h.room.val 4096 0 = some g →
     ∃ t, exec (.szSpawn h w) s = .next t ∧ t.hart h = { s.hart h with wait := .result g } ∧ ∃ q ∈ t.reqs, q.room =
       h.room.val ∧ q.tag = g ∧ q.hart = h.hart.val ∧ q.cls = 4 ∧ q.kind = .spawn (szRd w) (s.spawnMsg h (BitVec.ofNat 32
       ((s.hart h).reg (szRs1 w)).toNat) (b.map (·.1)))) ∧
  (∀ (h : HartId) (w : W32) (s : State) (c : Child) (v : W64),
     s.canRunWord h w custom3 3 = true →
     badThread ((s.hart h).reg (szRs1 w)).toNat = false →
     (s.room h.room.val).children.find? (fun c => c.parent == h.hart.val && c.thread == ((s.hart h).reg (szRs1
       w)).setWidth 32) = some c →
     c.state = .exited v →
     ∃ t, exec (.szJoin h w) s = .next t ∧ t.hart h = ((s.hart h).setPair (szRd w) (v ++ (0 : W64))).retire ∧ ∀ d ∈
       (t.room h.room.val).children, d.parent = h.hart.val → d.thread ≠ ((s.hart h).reg (szRs1 w)).setWidth 32) ∧
  (∀ (h : HartId) (w : W32) (s : State),
     s.canRunWord h w custom3 4 = true →
     s.released h true = true →
     ∃ t, exec (.szExit h w) s = .next t ∧ (t.hart h).idle = true ∧ (t.hart h).wait = .none ∧ ∀ p, (s.hart h).spawner =
       some p → fld p.toNat 28 15 = s.devId.toNat → ⟨s.callerId h, p, 0, (s.hart h).reg (szRs1 w)⟩ ∈ t.exitMsgs)

/-- Responses, class timeouts and tag holds end outstanding requests. Cites R108, R130, R342, R343. -/
def Obligations.OutstandingRequestsEnd : Prop :=
  (∀ (island : Fin 792) (p : Response) (s : State) (q : Req),
     island.val < 768 →
     (s.tag island.val p.tag.val).state = .outstanding →
     (s.tag island.val p.tag.val).gen = p.gen.val →
     (s.room island.val).cond.epoch = p.epoch.toNat →
     s.findReq island.val p.tag.val = some q →
     q.reissued = false →
     ∃ t, exec (.responseReceive island p) s = .next t ∧ t.tag island.val p.tag.val = ⟨(q.gen + 1) % 16, .free⟩ ∧
       t.findReq island.val p.tag.val = none) ∧
  (∀ (r : RoomIx) (tag : Fin 4096) (s : State) (q : Req),
     s.findReq r.val tag.val = some q →
     ∃ t, exec (.requestTimeout r tag) s = .next t ∧ t.now = max s.now q.deadline ∧ t.tag r.val tag.val =
       ⟨(q.gen + 1) % 16, .held⟩ ∧ t.findReq r.val tag.val = none) ∧
  (∀ (island : Fin 792) (tag : Fin 4096) (s : State),
     (s.tag island.val tag.val).state = .held →
     exec (.tagHoldExpiry island tag) s = .next (s.setTag island.val tag.val
       { s.tag island.val tag.val with state := .free }))

/-- The array's instructions queue their entries and stages, and claim, query and release the array. Cites R60, R61,
    R71, R129, R134, R135, R136, R137, R138. -/
def Obligations.ArrayInstructionsComplete : Prop :=
  (∀ (h : HartId) (w : W32) (s u : State) (words : List W64) (c : Instr) (op5 : Nat) (other : List Nat),
     (c, op5, other) ∈ [(Instr.szPass h w, 0, [2, 3]), (.szExport h w, 1, [1, 4])] →
     s.canRunWord h w custom0 op5 = true →
     (s.array h.room.val).queue.length < 8 →
     (s.array h.room.val).ownedBy h.hart.val = true →
     s.readDescriptor h ((s.hart h).reg (szRs1 w)) 64 = .words words u →
     fld (wordN words 0) 3 0 ∉ other →
     ∃ t, exec c s = .next t ∧ (t.array h.room.val).queue = (s.array h.room.val).queue ++
       [({ words, hart := h.hart.val } : ArrayEntry)] ∧ t.hart h = ((s.hart h).setReg (szRd w) (s.arrayTicket
       h.room.val)).retire) ∧
  (∀ (h : HartId) (w : W32) (s : State),
     s.canRunWord h w custom0 2 = true →
     s.stageCheck h.room.val ((s.hart h).reg (szRs1 w)).toNat ((s.hart h).reg (szRs2 w)).toNat = 0 →
     (s.array h.room.val).stages.length < 16 →
     (s.array h.room.val).ownedBy h.hart.val = true →
     ∃ t, exec (.szStage h w) s = .next t ∧ t.hart h = (s.hart h).retire ∧ (t.array h.room.val).stages = (s.array
       h.room.val).stages ++ [({ n := (s.array h.room.val).staged, slot := fld ((s.hart h).reg (szRs2 w)).toNat 35 32, len := fld ((s.hart h).reg (szRs2 w)).toNat 18 0, src := (s.hart h).reg (szRs1 w), auth := (s.hart h).authority h.hart.val, pages := s.stagePages ((s.hart h).authority h.hart.val) ((s.hart h).reg (szRs1 w)).toNat (fld ((s.hart h).reg (szRs2 w)).toNat 18 0) } : Stage)]
       ∧ (t.array h.room.val).slots = (s.array h.room.val).slots) ∧
  (∀ (h : HartId) (w : W32) (s : State),
     s.canRunWord h w custom0 3 = true →
     s.modeAction h w = 0 →
     exec (.szModeQuery h w) s = .next ((s.result h (szRd w) (64 * b2n (s.array h.room.val).releasePending + (s.array
       h.room.val).ownerValue.toNat)).issued h)) ∧
  (∀ (h : HartId) (w : W32) (s : State),
     s.canRunWord h w custom0 3 = true →
     s.modeAction h w = 1 →
     (s.array h.room.val).releasePending = false →
     ((s.array h.room.val).owner = none ∨ (s.array h.room.val).owner = some h.hart.val) →
     exec (.szModeClaim h w) s = .next (((s.result h (szRd w) 0).modArray h.room.val fun a =>
       { a with owner := some h.hart.val }).issued h)) ∧
  (∀ (h : HartId) (w : W32) (s : State),
     s.canRunWord h w custom0 3 = true →
     s.modeAction h w = 2 →
     (s.array h.room.val).ownedBy h.hart.val = true →
     exec (.szModeRelease h w) s = .next (((s.result h (szRd w) 0).modArray h.room.val fun a => ArrayB.settle
       { a with releasePending := true }).issued h)) ∧
  (∀ (h : HartId) (w : W32) (s : State),
     s.canRunWord h w custom0 4 = true →
     (1 ≤ ((s.hart h).reg (szRs1 w)).toNat ∧ ((s.hart h).reg (szRs1 w)).toNat ≤ 8192) →
     (s.array h.room.val).queue.length < 8 →
     (s.array h.room.val).ownedBy h.hart.val = true →
     ∃ t, exec (.szDummy h w) s = .next t ∧ t.hart h = ((s.hart h).setReg (szRd w) (s.arrayTicket h.room.val)).retire ∧
       (t.array h.room.val).queue = (s.array h.room.val).queue ++
       [({ words := [4, 0, 0, 0, BitVec.ofNat 64 (((s.hart h).reg (szRs1 w)).toNat * 2 ^ 50), 0, 0, 0], hart := h.hart.val } : ArrayEntry)])

/-- Stages and queue entries start, run and complete in order, and the array changes its activity. Cites R57, R58,
    R60, R63, R64, R65, R68, R69, R75, R77. -/
def Obligations.ArrayRunsItsQueue : Prop :=
  (∀ (r : RoomIx) (s : State) (g : Stage) (q : List Stage),
     (s.array r.val).stages = g :: q →
     g.started = false →
     (tgetD (s.array r.val).slots g.slot {}).state = 0 →
     exec (.stageStart r) s = .next ((s.modArray r.val fun a =>
       { a with stages := { g with started := true } :: q, slots := tset g.slot ⟨1, g.len⟩ a.slots }).setGuard (.slot
       r.val g.slot) r.val (slotRanges s r.val g.slot))) ∧
  (∀ (r : RoomIx) (s : State) (g : Stage) (q : List Stage) (b : List PByte),
     (s.array r.val).stages = g :: q →
     g.started = true →
     s.unitOpen r.val g.auth .read .load 3 g.src.toNat g.len = true →
     s.unitReadTo r.val g.auth (pageList g.src.toNat g.len) = (b, none) →
     ∃ t, exec (.stageComplete r) s = .next t ∧ (t.array r.val).stages = q ∧ tget g.slot (t.array r.val).slots = some
       ⟨2, g.len⟩ ∧ t.mem = ((s.unitNote r.val g.auth g.src.toNat g.len).pwrite (.pantry r.val (s.slotBase r.val
       g.slot)) (s.stageBytes g b)).mem) ∧
  (∀ (r : RoomIx) (s : State) (g : Stage) (q : List Stage),
     (s.array r.val).stages = g :: q →
     g.started = false →
     (tgetD (s.array r.val).slots g.slot {}).state ≠ 0 →
     ∃ t, exec (.stageTimeout r) s = .next t ∧ t.now = max s.now ((s.array r.val).stageSince + s.arrayWait r.val) ∧ (t.array
       r.val).stages = q ∧ (t.array r.val).slots = (s.array r.val).slots ∧ t.reg .arrayErr r.val = s.reg .arrayErr r.val
       ||| 4) ∧
  (∀ (r : RoomIx) (s : State) (e : ArrayEntry) (i : Nat),
     (s.array r.val).nextEntry = some (i, e) →
     e.op = 1 →
     s.passStatus r.val e = 0 →
     (s.array r.val).powered = true →
     (e.resident = true ∨ (tgetD (s.array r.val).slots e.wslot {}).state = 2) →
     (e.init = true → (s.array r.val).overlapsRunning e = false) →
     ∃ t, exec (.arrayPassIssue r) s = .next t ∧ (t.array r.val).queue = lset (s.array r.val).queue i
       { e with started := true, adds := s.passAdds r.val e } ∧ (t.array r.val).power = .running ∧ (t.array r.val).level
       = ⟨e.fold, e.axis, e.tileFmt, e.weightFmt, e.hart⟩) ∧
  (∀ (r : RoomIx) (s : State) (e : ArrayEntry) (q : List ArrayEntry),
     (s.array r.val).queue = e :: q →
     e.op = 1 →
     e.started = true →
     e.status = 0 →
     q.head?.all (fun g => !(g.started && g.status != 0)) = true →
     ∃ t, exec (.arrayPassComplete r) s = .next t ∧ (t.array r.val).queue = q ∧ (t.array r.val).xa = ((s.array
       r.val).land e.init (s.passLands r.val e)).xa ∧ t.regN .arrayDoneCount r.val = (s.regN .arrayDoneCount r.val + 1)
       % 2 ^ 32) ∧
  (∀ (r : RoomIx) (s : State) (e : ArrayEntry) (q : List ArrayEntry),
     (s.array r.val).queue = e :: q →
     e.op = 1 →
     e.started = false →
     e.resident = false →
     s.passStatus r.val e = 0 →
     (tgetD (s.array r.val).slots e.wslot {}).state ≠ 2 →
     q.head?.all (fun g => !(g.started && g.status != 0)) = true →
     ∃ t, exec (.arraySlotTimeout r) s = .next t ∧ t.now = max s.now ((s.array r.val).headSince + s.arrayWait r.val) ∧
       (t.array r.val).queue = q ∧ t.regN .arrayDoneCount r.val = (s.regN
       .arrayDoneCount r.val + 1) % 2 ^ 32 ∧ t.reg .arrayErr r.val = s.reg .arrayErr r.val ||| 2) ∧
  (∀ (r : RoomIx) (s : State) (e : ArrayEntry) (i : Nat) (c : Instr) (op : Nat),
     (c, op) ∈ [(Instr.arrayExportStart r, 2), (.arrayImportStart r, 3)] →
     (s.array r.val).nextEntry = some (i, e) →
     e.op = op →
     s.entryCheck r.val e = 0 →
     (s.array r.val).overlapsRunning e = false →
     exec c s = .next (s.modArray r.val fun a => a.setEntry i { e with started := true })) ∧
  (∀ (r : RoomIx) (s : State) (e : ArrayEntry) (q : List ArrayEntry),
     (s.array r.val).queue = e :: q →
     e.op = 2 →
     e.started = true →
     e.status = 0 →
     q.head?.all (fun g => !(g.started && g.status != 0)) = true →
     ∃ t, exec (.arrayExportComplete r) s = .next t ∧ (t.array r.val).queue = q ∧ (t.array r.val).xa = (s.array
       r.val).xa ∧ t.regN .arrayDoneCount r.val = (s.regN .arrayDoneCount r.val + 1) % 2 ^ 32) ∧
  (∀ (r : RoomIx) (s : State) (e : ArrayEntry) (q : List ArrayEntry),
     (s.array r.val).queue = e :: q →
     e.op = 3 →
     e.started = true →
     e.status = 0 →
     q.head?.all (fun g => !(g.started && g.status != 0)) = true →
     ∃ t, exec (.arrayImportComplete r) s = .next t ∧ (t.array r.val).queue = q ∧ (t.array r.val).xa = (s.importCells
       r.val e).foldl (fun x c => tset c.1 c.2 x) (s.array r.val).xa ∧ t.regN .arrayDoneCount r.val = (s.regN
       .arrayDoneCount r.val + 1) % 2 ^ 32) ∧
  (∀ (r : RoomIx) (s : State) (e : ArrayEntry) (i : Nat),
     (s.array r.val).nextEntry = some (i, e) →
     e.op = 4 →
     s.entryCheck r.val e = 0 →
     (s.array r.val).powered = true →
     ∃ t, exec (.arrayDummyStart r) s = .next t ∧ (t.array r.val).queue = lset (s.array r.val).queue i
       { e with started := true } ∧ (t.array r.val).power = .dummy ∧ (t.array r.val).granted = false ∧ (t.array r.val).xa
       = (s.array r.val).xa) ∧
  (∀ (r : RoomIx) (s : State) (e : ArrayEntry) (q : List ArrayEntry),
     (s.array r.val).queue = e :: q →
     e.op = 4 →
     e.started = true →
     e.status = 0 →
     q.head?.all (fun g => !(g.started && g.status != 0)) = true →
     ∃ t, exec (.arrayDummyComplete r) s = .next t ∧ (t.array r.val).queue = q ∧ t.regN .arrayDoneCount r.val = (s.regN
       .arrayDoneCount r.val + 1) % 2 ^ 32 ∧ t.regN .arrayDummyCycles r.val = (s.regN .arrayDummyCycles r.val + e.n) % 2
       ^ 64) ∧
  (∀ (r : RoomIx) (s : State),
     (s.array r.val).powered = true →
     (s.array r.val).queue.any (·.started) = false →
     s.keptWarm r.val = false →
     s.arrayReady r.val = false →
     s.granted .stepDown r.val = true →
     ∃ t, exec (.arrayStepDownStart r) s = .next t ∧ (t.array r.val).power = .steppingDown) ∧
  (∀ (r : RoomIx) (s : State),
     (s.array r.val).power = .steppingDown →
     ∃ t, exec (.arrayIdle r) s = .next t ∧ (t.array r.val).power = .idle ∧ (t.array r.val).granted = false ∧ t.regN
       .arrayDummyCycles r.val = (s.regN .arrayDummyCycles r.val + 96) % 2 ^ 64) ∧
  (∀ (r : RoomIx) (s : State),
     (s.array r.val).power = .idle →
     (s.array r.val).queue ≠ [] →
     s.granted .wake r.val = true →
     ∃ t, exec (.arrayWakeGrant r) s = .next t ∧ (t.array r.val).power = .ramping ∧ (t.array r.val).granted = true)

/-- ARRAY_CTRL.FLUSH, FORCE_RELEASE and a write of ARRAY_SB_CFG. Cites R80, R82, R83, R84. -/
def Obligations.ArrayControlWritesComplete : Prop :=
  (∀ (r : RoomIx) (s : State),
     (s.array r.val).queue.length ≤ 8 →
     ∃ t, exec (.arrayFlush r) s = .next t ∧ (t.array r.val).queue = [] ∧ (t.array r.val).stages = [] ∧ (t.array
       r.val).slots = [] ∧ bitOf (t.regN .arrayErr r.val) 5 = true) ∧
  (∀ (r : RoomIx) (s : State),
     (s.array r.val).queue.length ≤ 8 →
     ∃ t, exec (.arrayForceRelease r) s = .next t ∧ (t.array r.val).queue = [] ∧ (t.array r.val).stages = [] ∧ (t.array
       r.val).owner = none ∧ (t.array r.val).releasePending = false ∧ (t.array r.val).levelChange = true) ∧
  (∀ (r : RoomIx) (writer : Option (Fin 32)) (value : W64) (s : State),
     s.sbCfgOk r.val (writer.map (·.val)) value.toNat = true →
     exec (.arraySbCfgWrite r writer value) s = .next (s.setRegN .arraySbCfg r.val (fld value.toNat 43 40 * 2 ^ 40 + fld
       value.toNat 36 32 * 2 ^ 32 + fld value.toNat 22 0))) ∧
  (∀ (r : RoomIx) (writer : Option (Fin 32)) (value : W64) (s : State),
     s.sbCfgOk r.val (writer.map (·.val)) value.toNat = false →
     exec (.arraySbCfgWrite r writer value) s = .next (s.orReg .arrayErr r.val 16))

/-- AVU commands are queued, dispatched, run in their banks, completed and flushed. Cites R144, R189, R192, R193,
    R199, R201, R203, R206, R207. -/
def Obligations.AvuCommandsComplete : Prop :=
  (∀ (h : HartId) (w : W32) (s u : State) (words : List W64),
     s.canRunWord h w custom1 0x1D = true →
     s.readDescriptor h ((s.hart h).reg (szRs1 w)) 64 = .words words u →
     (s.avu h.room.val).queue.length < 16 →
     ∃ t, exec (.szAvu h w) s = .next t ∧ t.hart h = ((s.hart h).setReg (szRd w) (BitVec.ofNat 64 ((s.regN .avuDoneCount
       h.room.val + (s.avu h.room.val).queue.length + 1) % 2 ^ 32))).retire ∧ (t.avu h.room.val).queue = (s.avu
       h.room.val).queue ++ [({ words, auth := (s.hart h).authority h.hart.val, entered := (s.avu h.room.val).entered, guard := u.newGuard } : AvuCmd)]) ∧
  (∀ (r : RoomIx) (s : State) (i : Nat) (c : AvuCmd) (pages : Tab Nat) (xs : List Xlate),
     (s.avu r.val).nextCmd = some (i, c) →
     c.op ≠ 2 →
     s.avusRun r.val = true →
     (c.op = 1 → s.stairRuns r.val = true) →
     s.avuCheck r.val c = .ready pages xs →
     c.banks.all (s.avu r.val).bufferFree = true →
     ∃ t, exec (.avuDispatch r) s = .next t ∧ (t.avu r.val).queue = lset (s.avu r.val).queue i
       { c with dispatched := true, ran := true, pages := pages, buf := if c.op = 1 then s.avuBroadcast r.val c else [] }) ∧
  (∀ (r : RoomIx) (b : Fin 48) (faults : List AvuFault) (s u : State) (i : Nat) (c : AvuCmd),
     (s.avu r.val).running b.val = some (i, c) →
     c.op = 1 →
     s.avusRun r.val = true →
     (c.exports = true → s.stairRuns r.val = true) →
     u = s.avuFaults r.val b.val (c.readsIn b.val) (c.entriesIn b.val) faults →
     ∃ t d, exec (.avuMatvec r ⟨b, faults⟩) s = .next t ∧ (t.avu r.val).queue = lset (s.avu r.val).queue i d ∧ d.done = b.val ::
       c.done ∧ d.words = c.words ∧ (t.avu r.val).xa = ((u.matvecLand r.val { c with buf := spoilBuffer c.buf faults }
       b.val).avu r.val).xa) ∧
  (∀ (r : RoomIx) (b : Fin 48) (faults : List AvuFault) (s u : State) (i : Nat) (c : AvuCmd),
     (s.avu r.val).running b.val = some (i, c) →
     c.op = 3 →
     s.avusRun r.val = true →
     s.stairRuns r.val = true →
     u = s.avuFaults r.val b.val (c.readsIn b.val) (c.entriesIn b.val) faults →
     ∃ t, exec (.avuExport r ⟨b, faults⟩) s = .next t ∧ (t.avu r.val).queue = lset (s.avu r.val).queue i
       { c with done := b.val :: c.done, arith := c.arith ||| (u.avu r.val).exportFlags c b.val, poisoned := c.poisoned || (u.avu r.val).exportPoison c b.val }
       ∧ (t.avu r.val).xa = (u.avu r.val).xa) ∧
  (∀ (r : RoomIx) (b : Fin 48) (faults : List AvuFault) (s : State) (i : Nat) (c : AvuCmd),
     (s.avu r.val).running b.val = some (i, c) →
     c.op = 4 →
     s.avusRun r.val = true →
     ∃ t d, exec (.avuVscan r ⟨b, faults⟩) s = .next t ∧ (t.avu r.val).queue = lset (s.avu r.val).queue i d ∧ d.done = b.val ::
       c.done ∧ d.words = c.words) ∧
  (∀ (r : RoomIx) (s : State) (c : AvuCmd) (q : List AvuCmd),
     (s.avu r.val).queue = c :: q →
     c.finished = true →
     ∃ t, exec (.avuCommandComplete r) s = .next t ∧ (t.avu r.val).queue = q ∧ t.regN .avuDoneCount r.val = (s.regN
       .avuDoneCount r.val + 1) % 2 ^ 32 ∧ t.reg .avuErr r.val = s.reg .avuErr r.val ||| BitVec.ofNat 64 (avuErrBit
       (s.avuSettle r.val c).2.endStatus)) ∧
  (∀ (r : RoomIx) (s : State),
     (s.avu r.val).queue.length ≤ 16 →
     ∃ t, exec (.avuFlush r) s = .next t ∧ (t.avu r.val).queue = [] ∧ bitOf (t.regN .avuErr r.val) 4 = true)

/-- Attention steps are dispatched, formed block by block, and merged row by row. Cites R223, R226, R227, R229, R231.
    -/
def Obligations.AttentionStepsComplete : Prop :=
  (∀ (r : RoomIx) (s : State) (i : Nat) (c : AvuCmd),
     (s.avu r.val).nextCmd = some (i, c) →
     c.op = 2 →
     (c.attnBadFormat = false ∧ c.attnBadShape = false) →
     s.avusRun r.val = true →
     s.stairRuns r.val = true →
     s.seqsOpen r.val c = true →
     s.attnHeld r.val c = false →
     c.banks.all (s.avu r.val).bufferFree = true →
     firstFinding (s.batchFindings r.val c ((s.batchList r.val c).filterMap id) ++ (s.attnScan r.val c).flatMap (·.found)) =
       none →
     ∃ t d, exec (.attnDispatch r) s = .next t ∧ (t.avu r.val).queue = lset (s.avu r.val).queue i d ∧ d.dispatched =
       true ∧ d.status = c.status ∧ d.words = c.words ∧ d.attn = (s.attnScan r.val c).map (·.entry)) ∧
  (∀ (r : RoomIx) (b : Fin 48) (faults : List AvuFault) (s u : State) (i : Nat) (c : AvuCmd) (v : AttnItem) (a : AttnEntry)
       (row : AttnRow),
     (s.avu r.val).running b.val = some (i, c) →
     c.op = 2 →
     s.avusRun r.val = true →
     u = s.avuFaults r.val b.val (c.attnReads b.val) [] faults →
     c.work.find? (fun w => w.bank == b.val) = some v →
     c.attn[v.entry]? = some a →
     a.rows[v.row]? = some row →
     ∃ t, exec (.avuAttnBlock r ⟨b, faults⟩) s = .next t ∧ (t.avu r.val).queue = lset (s.avu r.val).queue i
       { c with work := c.work.erase v, partials := c.partials ++ [(v, u.blockPartial r.val c v a { row with query := spoilBuffer row.query faults })] }) ∧
  (∀ (r : RoomIx) (entry row : Fin 256) (s : State) (i : Nat) (c : AvuCmd) (a : AttnEntry) (q : AttnRow),
     (s.avu r.val).queue.zipIdx.find? (fun p => p.1.dispatched && p.1.op == 2 && p.1.status == 0 && !p.1.finished) =
       some (c, i) →
     c.attn[entry.val]? = some a →
     a.rows[row.val]? = some q →
     c.rowsDone.contains (entry.val, row.val) = false →
     c.work.any (fun w => w.entry == entry.val && w.row == row.val) = false →
     s.stairRuns r.val = true →
     ∃ t d, exec (.mergeUnitRecord r entry row) s = .next t ∧ (t.avu r.val).queue = lset (s.avu r.val).queue i d ∧
       d.rowsDone = (entry.val, row.val) :: c.rowsDone ∧ t.mem = (s.writePantry r.val (a.outOff + row.val * c.outRow
       a.final) (c.outputRow a.final (c.rowRecord entry.val row.val q)).1).mem)

/-- An attic controller queues, performs, retries and refreshes. Cites R162, R163, R164, R170, R178, R180, R298. -/
def Obligations.AtticRequestsComplete : Prop :=
  (∀ (r : RoomIx) (s : State) (q : AtticRequest) (n : Nat),
     n = (match q.data with | some l => l.length | none => q.len) →
     (0 < n ∧ q.off + n ≤ atticSize) →
     (s.regq (atticQ r.val)).admitsAll q.cls.val (atticPieces q (s.attic r.val).nextId s.now).length (s.attic
       r.val).held = true →
     (s.room r.val).stalled = false →
     ((s.room r.val).reachable = true ∨ (s.room r.val).boots = true) →
     (s.attic r.val).waiting = [] →
     ∃ t, exec (.atticRequestEnter r q) s = .next t ∧ (t.attic r.val).queue = (s.attic r.val).queue ++ atticPieces q
       (s.attic r.val).nextId s.now ∧ t.mem = s.mem) ∧
  (∀ (r : RoomIx) (id : Nat) (faults : List WordFault) (s : State) (q : AtticReq),
     (s.attic r.val).queue.find? (fun x => x.id == id) = some q →
     (s.attic r.val).waiting = [] →
     (s.attic r.val).mayPerform q = true →
     q.retry = [] →
     (retryWords q (faults.filter (q.finds (s.attic r.val))) = [] ∨ s.banksUsable r.val q.banked q.off q.len = false) →
     ∃ t, exec (.atticRequestPerform r id faults) s = .next t ∧ (t.attic r.val).queue = (s.attic r.val).queue.filter
       (fun x => x.id != id) ∧ (t.attic r.val).replies.getLast?.map (·.id) = some id ∧ (q.op = .read → t.mem = s.mem)) ∧
  (∀ (r : RoomIx) (id : Nat) (faults : List WordFault) (s : State) (q : AtticReq),
     (s.attic r.val).queue.find? (fun x => x.id == id) = some q →
     (s.attic r.val).mayPerform q = true →
     q.retry = [] →
     retryWords q (faults.filter (q.finds (s.attic r.val))) ≠ [] →
     s.banksUsable r.val q.banked q.off q.len = true →
     ∃ t, exec (.atticRequestPerform r id faults) s = .next t ∧ (t.attic r.val).queue = (s.attic r.val).queue.map (fun x
       => if x.id = id then { x with retry := retryWords q (faults.filter (q.finds (s.attic r.val))) } else x) ∧ t.mem = s.mem) ∧
  (∀ (r : RoomIx) (id : Nat) (word : Fin 32) (correct : Bool) (s : State) (q : AtticReq) (p : Nat × Nat),
     (s.attic r.val).queue.find? (fun x => x.id == id) = some q →
     q.retry.find? (fun x => x.1 == word.val) = some p →
     (s.attic r.val).waiting = [] →
     (s.attic r.val).mayPerform q = true →
     q.retry.any (fun x => x.1 != word.val) = false →
     ∃ t, exec (.stairReadRetry r id word correct) s = .next t ∧ (t.attic r.val).queue = (s.attic r.val).queue.filter
       (fun x => x.id != id) ∧ (t.attic r.val).replies.getLast?.map (·.id) = some id) ∧
  (∀ (r : RoomIx) (banked : Bool) (off : Nat) (op : HomeAtomic) (s : State) (l : List Byte),
     homeAllows op (.attic r.val banked off) = true →
     (off % homeWidth op = 0 ∧ off + homeWidth op ≤ atticSize) →
     (s.attic r.val).phase = .running →
     ((s.attic r.val).queue ++ (s.attic r.val).waiting).any (fun x => x.meets banked (off / 64 * 64) 64) = false →
     ((s.room r.val).reachable = true ∨ (s.room r.val).boots = true) →
     (s.room r.val).stalled = false →
     s.memRead (.attic r.val banked off) (homeWidth op) = .data l →
     exec (.atticAtomic r banked off op) s = .next ((s.memWrite (.attic r.val banked off) (toBytes (homeWidth op)
       (homeNew op (s.atomicOld op (.attic r.val banked off) l)).1)).guardLease op (.attic r.val banked off) (homeNew op
       (s.atomicOld op (.attic r.val banked off) l)).1)) ∧
  (∀ (r : RoomIx) (bank : Fin 48) (s : State),
     tgetD (s.attic r.val).postponed bank.val 0 < 4 →
     ∃ t, exec (.atticRefresh r bank true) s = .next t ∧ tgetD (t.attic r.val).postponed bank.val 0 = tgetD (s.attic
       r.val).postponed bank.val 0 + 1 ∧ (t.attic r.val).refreshes = (s.attic r.val).refreshes) ∧
  (∀ (r : RoomIx) (bank : Fin 48) (postpone : Bool) (s : State),
     (postpone = false ∨ 4 ≤ tgetD (s.attic r.val).postponed bank.val 0) →
     ∃ t, exec (.atticRefresh r bank postpone) s = .next t ∧ tgetD (t.attic r.val).postponed bank.val 0 = 0 ∧ (t.attic
       r.val).refreshes = (s.attic r.val).refreshes + tgetD (s.attic r.val).postponed bank.val 0 + 1)

/-- A stair relocks and recalibrates; a regulation block counts, clears and is configured. Cites R171, R173, R174,
    R175, R176, R300, R302, R303. -/
def Obligations.StairAndRegulationComplete : Prop :=
  (∀ (r : RoomIx) (s : State),
     (s.attic r.val).phase = .relockHold →
     ∃ t, exec (.stairRelockHoldEnd r) s = .next t ∧ t.attic r.val = { s.attic r.val with phase := .relocking } ∧ t.mem
       = s.mem) ∧
  (∀ (r : RoomIx) (s : State),
     (s.attic r.val).phase = .relocking →
     (s.attic r.val).band ≠ 4 →
     ∃ t, exec (.stairRelockEnd r) s = .next t ∧ (t.attic r.val).phase = .running ∧ (t.attic r.val).margin = bandMargin
       (s.attic r.val).band ∧ (t.attic r.val).stepDown = ((s.attic r.val).alwaysDown || (s.attic r.val).band == 0 ||
       (s.attic r.val).band == 3)) ∧
  (∀ (r : RoomIx) (lane : Nat) (s : State),
     (s.attic r.val).phase = .running →
     lane < 2304 →
     ((s.attic r.val).recalDue.contains (lane / 32) = true ∨ s.laneLimit r.val ≤ s.laneErrors r.val lane) →
     ∃ t, exec (.stairRecalStart r lane) s = .next t ∧ (t.attic r.val).phase = .recalHold (lane / 32) ∧ (t.attic
       r.val).recalDue = (s.attic r.val).recalDue.filter (fun g => g != lane / 32) ∧ t.mem = s.mem) ∧
  (∀ (r : RoomIx) (failed : List Nat) (s : State) (g : Nat),
     (s.attic r.val).phase = .recalHold g →
     failed.all (fun x => x / 32 == g) = true →
     ∃ t, exec (.stairRecalRetrainEnd r failed) s = .next t ∧ (t.attic r.val).phase = .recalPublish ∧ (∀ x, x ∈ failed →
       x ∈ (t.attic r.val).failedLanes) ∧ (t.room r.val).cond.spares = (t.attic r.val).sparesUsed) ∧
  (∀ (s : State) (k : Fin 6176),
     ∃ t, exec .regWindowEnd s = .next t ∧ (s.now / 1000 + 1) * 1000 ≤ t.now ∧ (∀ x, x ∈ (t.regq k).classes → tget k
       s.regqs ≠ none → x.bytes = 0)) ∧
  (∀ (who : Accessor) (k : Fin 936) (s : State),
     regWriter s k.val who = true →
     ∃ t, exec (.regCtrlClear who k) s = .next t ∧ (∀ x, x ∈ (t.regq k.val).classes → x.history = [] ∧ x.bytes = 0 ∧
       x.bytesLast = 0) ∧ (t.regq k.val).enable = (s.regq k.val).enable) ∧
  (∀ (who : Accessor) (k : Fin 936) (cls : Fin 8) (value : W64) (s : State),
     regWriter s k.val who = true →
     (s.regq k.val).classes.length = 8 →
     ((List.range 8).map fun i => if i = cls.val then fld value.toNat 6 0 else ((s.regq k.val).cls i).share).foldl (· +
       ·) 0 ≤ 60 →
     ∃ t, exec (.regClassCfgWrite who k cls value) s = .next t ∧ ((t.regq k.val).cls cls.val).latTarget = fld
       value.toNat 63 48 ∧ ((t.regq k.val).cls cls.val).bwCap = fld value.toNat 47 32 ∧ ((t.regq k.val).cls
       cls.val).prio = fld value.toNat 18 16 ∧ ((t.regq k.val).cls cls.val).share = fld value.toNat 6 0 ∧ (∀ i, i ≠
       cls.val → (t.regq k.val).cls i = (s.regq k.val).cls i)) ∧
  (∀ (who : Accessor) (k : Fin 936) (cls : Fin 8) (value : W64) (s : State),
     regWriter s k.val who = true →
     60 < ((List.range 8).map fun i => if i = cls.val then fld value.toNat 6 0 else ((s.regq k.val).cls i).share).foldl
       (· + ·) 0 →
     ∃ t, exec (.regClassCfgWrite who k cls value) s = .next t ∧ t.regq k.val = { s.regq k.val with shareRej := true })

/-- A home performs the requests that reach it and answers each. Cites R112, R181, R311, R312, R313, R346, R347. -/
def Obligations.HomeRequestsComplete : Prop :=
  (∀ (q : HomeRequest) (s : State) (p : Place) (l : List PByte),
     p = s.requestPlace q q.len →
     (0 < q.len ∧ q.len ≤ 256) →
     s.takes q p q.len = true →
     s.serves p 0 = true →
     homeAllows (.xaAdd 0) p = true →
     s.pread p q.len = .ok l →
     ∃ t, exec (.reqRd q) s = .next t ∧ t.mem = s.mem ∧ t.sent = (s.respond 0 q.hdr
       ⟨0, l.map (·.1), (List.range (ceilDiv q.len 8)).filter fun j => ((l.drop (8 * j)).take 8).any (·.2)⟩ false).sent) ∧
  (∀ (q : HomeRequest) (s : State) (p : Place),
     p = s.requestPlace q q.payload.length →
     q.payload ≠ [] →
     s.takes q p q.payload.length = true →
     s.verdict (homeOf p) q.hdr = .perform →
     s.serves p 1 = true →
     homeAllows (.xaAdd 0) p = true →
     s.writeCode p q.payload = 0 →
     ∃ t, exec (.reqWr q) s = .next t ∧ t.mem = (s.pwrite p (mapPoison q.payload q.pmap.toNat)).mem ∧ t.sent = (s.respond 1 q.hdr ⟨0, [], []⟩ false).sent) ∧
  (∀ (q : HomeRequest) (s : State) (c : Instr) (lens : List Nat) (op : HomeAtomic) (p : Place) (l : List Byte),
     (c, lens, op) ∈ [(Instr.reqSwap q, [4, 8], amoOf .swap q), (Instr.reqAdd q, [4, 8], amoOf .add q), (Instr.reqAnd q, [4, 8], amoOf .and q), (Instr.reqOr q, [4, 8], amoOf .or q), (Instr.reqXor q, [4, 8], amoOf .xor q), (Instr.reqMin q, [4, 8], amoOf .min q), (Instr.reqMax q, [4, 8], amoOf .max q), (Instr.reqMinu q, [4, 8], amoOf .minu q), (Instr.reqMaxu q, [4, 8], amoOf .maxu q), (Instr.reqXaAdd q, [16], .xaAdd (BitVec.ofNat 128 (operandOf q 0 16))), (Instr.reqFadd q, [4], .fadd (BitVec.ofNat 32 (operandOf q 0 4))), (Instr.reqFmax q, [4], .fmax (BitVec.ofNat 32 (operandOf q 0 4))), (Instr.reqFmin q, [4], .fmin (BitVec.ofNat 32 (operandOf q 0 4))), (Instr.reqCas q, [8, 16, 32], .cas (q.payload.length / 2) (BitVec.ofNat 128 (operandOf q 0 (q.payload.length / 2))) (BitVec.ofNat 128 (operandOf q (q.payload.length / 2) (q.payload.length / 2)))), (Instr.reqLeaseAcq q, [16], .leaseAcq (BitVec.ofNat 32 (operandOf q 0 4)) q.hdr.epoch (BitVec.ofNat 64 (operandOf q 8 8))), (Instr.reqLeaseRel q, [8], .leaseRel (BitVec.ofNat 32 (operandOf q 0 4)) q.hdr.epoch)]
       →
     p = s.requestPlace q (homeWidth op) →
     s.takes q p (homeWidth op) = true →
     s.verdict (homeOf p) q.hdr = .perform →
     s.serves p (atomicOpc op) = true →
     q.payload.length ∈ lens →
     homeAllows op p = true →
     q.addr.toNat % homeWidth op = 0 →
     s.memRead p (homeWidth op) = .data l →
     ∃ t, exec c s = .next t ∧
       (q.pmap = 0 → t.mem = (s.memWrite p (toBytes (homeWidth op) (homeNew op (s.atomicOld op p l)).1)).mem) ∧
       t.sent = (s.respond (atomicOpc op) q.hdr
         ⟨0, if q.noret then [] else answerBytes op (toBytes (homeWidth op) (homeNew op (s.atomicOld op p l)).2), []⟩ false).sent) ∧
  (∀ (q : HomeRequest) (s : State) (c : Instr) (lens : List Nat) (op : HomeAtomic) (p : Place) (l : List Byte),
     (c, lens, op) ∈ [(Instr.reqSet q, [8], .set (BitVec.ofNat 64 (operandOf q 0 8))), (Instr.reqClr q, [8], .clr (BitVec.ofNat 64 (operandOf q 0 8))), (Instr.reqSignalAdd q, [8], .add (BitVec.ofNat 64 (operandOf q 0 8)))]
       →
     p = s.requestPlace q (homeWidth op) →
     s.takes q p (homeWidth op) = true →
     s.verdict (homeOf p) q.hdr = .perform →
     s.serves p (atomicOpc op) = true →
     q.payload.length ∈ lens →
     homeAllows op p = true →
     q.addr.toNat % homeWidth op = 0 →
     s.memRead p (homeWidth op) = .data l →
     ∃ t, exec c s = .next t ∧
       (q.pmap = 0 → t.mem = (s.memWrite p (toBytes (homeWidth op) (homeNew op (ofBytes l)).1)).mem) ∧
       t.sent = (s.respond (atomicOpc op) q.hdr ⟨0, [], []⟩ false).sent) ∧
  (∀ (q : HomeRequest) (s : State) (c : Instr) (opc n : Nat) (p : Place) (e : CacheEntry),
     (c, opc, n) ∈ [(Instr.reqWr q, 1, q.payload.length), (.reqAdd q, 9, homeWidth (amoOf .add q)), (.reqXaAdd q, 0x11, 16), (.reqLeaseAcq q, 0x16, 16), (.reqSet q, 0x18, 8)]
       →
     p = s.requestPlace q n →
     s.takes q p n = true →
     s.verdict (homeOf p) q.hdr = .answer e →
     exec c s = .next (s.respond opc q.hdr ⟨e.status, e.data, []⟩ true))

/-- Spawns, exit notices and notices of rooms and devices are acted on. Cites R89, R90, R108, R155, R156, R313, R346,
    R364. -/
def Obligations.MessagesAndNoticesComplete : Prop :=
  (∀ (q : ReqHeader) (m : SpawnMsg) (s : State) (g : HartId),
     s.localThread m.target = some g →
     s.localThread m.spawner = none →
     (s.admitsPacket q = true ∧ (s.room g.room.val).stalled = false) →
     s.dieServes (g.room.val / 32) 0x1B = true →
     s.verdict g.room.val q = .perform →
     s.spawnStatus g m = 0 →
     ∃ t, exec (.msgSpawn q m) s = .next t ∧ t.hart g = (s.hart g).start (some m.spawner) m.priv.val m.satp m.pc m.sp
       m.arg ∧ t.sent = (s.respond 0x1B q ⟨0, toBytes 8 0, []⟩ false).sent) ∧
  (∀ (q : ReqHeader) (m : SpawnMsg) (s : State) (g p : HartId) (rd : Nat) (a : Req),
     s.localThread m.target = some g →
     s.localThread m.spawner = some p →
     s.spawnReq m = some a →
     (a.kind = .spawn rd m ∧ a.room = p.room.val ∧ a.hart = p.hart.val) →
     (s.room g.room.val).stalled = false →
     (s.hart p).halted = false →
     s.spawnStatus g m = 0 →
     g ≠ p →
     ∃ t, exec (.msgSpawn q m) s = .next t ∧ t.hart g = (s.hart g).start (some m.spawner) m.priv.val m.satp m.pc m.sp
       m.arg ∧ t.hart p = ((s.hart p).setReg rd 0).retire ∧ (t.room p.room.val).children = (s.room p.room.val).children
       ++ [⟨p.hart.val, m.target, .running⟩] ∧ t.findReq a.room a.tag = none) ∧
  (∀ (q : ReqHeader) (child parent : W32) (status : Nat) (value : W64) (s : State) (p : HartId),
     s.localThread parent = some p →
     s.localThread child = none →
     (s.admitsPacket q = true ∧ (s.room p.room.val).stalled = false) →
     s.dieServes (p.room.val / 32) 0x1C = true →
     s.verdict p.room.val q = .perform →
     (s.room p.room.val).children.any (fun c => c.parent == p.hart.val && c.thread == child && c.state == .running) =
       true →
     (s.hart p).wait = .none →
     ∃ t, exec (.msgExitNotice q child parent status value) s = .next t ∧ (t.room p.room.val).children = (s.room
       p.room.val).children.map (fun c => if c.parent = p.hart.val ∧ c.thread = child then
       { c with state := if status = 0 then .exited value else .absent } else c) ∧ t.sent = (s.respond 0x1C q ⟨0, [], []⟩ false).sent) ∧
  (∀ (q : ReqHeader) (child parent : W32) (value : W64) (s : State) (p : HartId) (rd : Nat),
     s.localThread parent = some p →
     (s.localThread child).isSome = true →
     s.exitMsgs.contains ⟨child, parent, 0, value⟩ = true →
     (s.room p.room.val).stalled = false →
     (s.room p.room.val).children.any (fun c => c.parent == p.hart.val && c.thread == child && c.state == .running) =
       true →
     (s.hart p).wait = .join rd child →
     (s.hart p).halted = false →
     ∃ t, exec (.msgExitNotice q child parent 0 value) s = .next t ∧ t.hart p = ((s.hart p).setPair rd (value ++ (0 :
       W64))).retire ∧ (t.room p.room.val).children.any (fun c => c.parent == p.hart.val && c.thread == child) = false ∧
       t.exitMsgs = s.exitMsgs.erase ⟨child, parent, 0, value⟩) ∧
  (∀ (q : ReqHeader) (subject : W32) (b : NoticeBody) (s : State),
     wholeDevice subject = false →
     s.dieServes q.dstDie.val 0x1E = true →
     s.admitsPacket q = true →
     ∃ t, exec (.noticeSlow q subject b) s = .next t ∧ t.mem = s.mem ∧ t.reqs = s.reqs.map (fun x => if inSubject
       subject (x.home s.devId.toNat) then { x with deadline := max x.deadline (min (s.now + b.us * 1000) (x.issued + 5000000)) }
       else x)) ∧
  (∀ (q : ReqHeader) (subject : W32) (b : NoticeBody) (s : State) (c : Instr),
     c ∈ [Instr.noticeAbsent q ⟨subject, b⟩, .noticeReset q ⟨subject, b⟩] →
     wholeDevice subject = false →
     s.dieServes q.dstDie.val 0x1E = true →
     s.admitsPacket q = true →
     ∃ t, exec c s = .next t ∧ t.concerned subject = [] ∧ t.absentDevs = s.absentDevs) ∧
  (∀ (q : ReqHeader) (subject : W32) (b : NoticeBody) (s : State),
     wholeDevice subject = true →
     s.dieServes q.dstDie.val 0x1E = true →
     s.absentDevs.contains (tidDev subject) = false →
     ∃ t, exec (.noticeAbsent q ⟨subject, b⟩) s = .next t ∧ t.absentDevs = ninsert (tidDev subject) s.absentDevs ∧ Sent.flood
       1 (tidDev subject) ∈ t.sent) ∧
  (∀ (q : ReqHeader) (subject : W32) (b : NoticeBody) (s : State),
     wholeDevice subject = true →
     s.dieServes q.dstDie.val 0x1E = true →
     s.absentDevs.contains (tidDev subject) = true →
     ∃ t, exec (.noticeReset q ⟨subject, b⟩) s = .next t ∧ t.absentDevs = s.absentDevs.filter (fun d => d != tidDev subject)
       ∧ Sent.flood 2 (tidDev subject) ∈ t.sent)

/-- Collective chunks arrive and combine; members complete, time out and are forgotten. Cites R151, R291, R292, R294,
    R295, R358, R359, R361. -/
def Obligations.CollectivesComplete : Prop :=
  (∀ (q : ReqHeader) (c : CollPacket) (s : State) (i : CollInst) (n : Nat),
     c.ended = none →
     s.inst c.id c.m0 = some i →
     (c.level.val ≤ i.root ∧ c.first.val % 2 ^ c.level.val = 0 ∧ c.first.val < i.count) →
     (i.devOf c.first.val = q.srcDev.toNat ∧ q.srcDev ≠ s.devId) →
     (s.admitsPacket q = true ∧ s.dieServes q.dstDie.val 0x1D = true) →
     i.arriving c.level.val c.first.val c.chunk.val = some n →
     (c.op.val = i.sig.op ∧ i.dimDiffers (payloadBytes c.payload c.pmap) = false) →
     ∃ t j u, exec (.msgColl q c) s = .next t ∧ t.inst c.id c.m0 = some j ∧
       ⟨c.level.val, c.first.val, n, payloadBytes c.payload c.pmap, c.flags.val⟩ ∈ j.nodes ∧ t.sent = (State.respond u 0x1D q
       ⟨0, [], []⟩ false).sent) ∧
  (∀ (x : WingIx) (id m0 : W32) (level : Fin 32) (first : Fin 1048576) (ue : Bool) (s : State) (i : CollInst) (n : Nat) (a b : List
       PByte × Nat),
     s.inst id m0 = some i →
     (i.sig.inTree = true ∧ i.hasRight level.val first.val = true ∧ first.val % 2 ^ level.val = 0) →
     i.nodeLocal s.devId.toNat level.val first.val = true →
     tidWing (i.members.getD first.val 0) = x.val →
     i.nextChunk level.val first.val = some n →
     i.nodeData (level.val - 1) first.val n = some a →
     i.nodeData (level.val - 1) (first.val + 2 ^ (level.val - 1)) n = some b →
     (s.chunkCredit i level.val first.val n = true ∧ i.chunkSent level.val first.val n = true) →
     ∃ t j, exec (.landingCombine x id m0 level ⟨first, ue⟩) s = .next t ∧ t.inst id m0 = some j ∧
       ⟨level.val, first.val, n, i.sig.landed ue a.1 b.1, a.2 ||| b.2⟩ ∈ j.nodes ∧ t.mem = s.mem) ∧
  (∀ (r : RoomIx) (slot : Fin 16) (s : State) (c : Instr) (op : Nat) (e : CollEntry) (i : CollInst) (d : Delivery) (u :
       State),
     (c, op) ∈ [(Instr.collAllReduce r slot, 1), (.collReduceScatter r slot, 2), (.collAllGather r slot, 3), (.collAllToAll r slot, 4), (.collBroadcast r slot, 5), (.collBarrier r slot, 6), (.collLseMerge r slot, 7), (.collTopkMerge r slot, 8)]
       →
     (s.coll r.val).find? (fun x => x.slot == slot.val) = some e →
     s.inst (collId e.words) e.m0 = some i →
     s.delivery i e = some d →
     s.deliverOpen r.val e d.ranges = true →
     collOp e.words = op →
     s.deliver r.val e (s.collSettle i e d).ranges = some u →
     ∃ t, exec c s = .next t ∧ t.coll r.val = (s.coll r.val).filter (fun x => x.slot != slot.val) ∧ t.mem =
       (u.bump.collRecord r.val e (if (s.collSettle i e d).diff.isSome then 2 else if (s.collSettle i e d).ranges.any (fun p
       => p.2.any (·.2)) then 1 else 0) (s.collSettle i e d).arith ((s.collSettle i e d).diff.getD 0)).mem) ∧
  (∀ (r : RoomIx) (slot : Fin 16) (s : State) (e : CollEntry) (i : CollInst),
     (s.coll r.val).find? (fun x => x.slot == slot.val) = some e →
     s.inst (collId e.words) e.m0 = some i →
     ∃ t, exec (.collectiveTimeout r slot) s = .next t ∧ (t.coll r.val).any (fun x => x.slot == slot.val) = false ∧
       t.inst (collId e.words) e.m0 = none ∧ t.keptEnds = s.keptEnds ++
       [⟨i.id, i.m0, 0x43, i.firstMissing (collIndex e.words), max s.now e.due⟩]) ∧
  (∀ (id m0 : W32) (s : State) (x : KeptEnd),
     s.keptEnds.find? (fun k => k.id == id && k.m0 == m0) = some x →
     exec (.collKeptEndExpiry id m0) s = .next { s with now := max s.now (x.time + 10000000), keptEnds := s.keptEnds.filter (fun y => !(y.id == id && y.m0 == m0)) })

/-- Rails, headroom, AVSBus and references act on the power block as its rules say. Cites R395, R398, R399, R400,
    R402, R408, R409. -/
def Obligations.PowerEventsComplete : Prop :=
  (∀ (x : Rail) (s : State),
     ∃ t, exec (.railFault x) s = .next t ∧ s.now + 10000 ≤ t.now ∧ bitOf (t.regN .pwrErr 0) 4 = true ∧ t.causePresent
       .rail = true) ∧
  (∀ (i : Island) (s : State),
     s.power.alarms.contains i = false →
     ∃ t, exec (.headroomAlarm i) s = .next t ∧ t.power.alarms = s.power.alarms ++ [i] ∧ t.power.lastAlarm = s.now ∧
       bitOf (t.regN .pwrErr 0) 1 = true) ∧
  (∀ (i : Island) (s : State),
     s.power.alarms.contains i = true →
     ∃ t, exec (.headroomRelief i false) s = .next t ∧ t.power.alarms = s.power.alarms.filter (fun j => j != i) ∧ t.now
       = max s.now (s.now + 20000)) ∧
  (∀ (r : RoomIx) (s : State),
     s.power.alarms.contains (.floor r) = true →
     ∃ t, exec (.headroomRelief (.floor r) true) s = .next t ∧ (t.rpow r.val).relief = min (s.roomLimit - 400) ((s.rpow
       r.val).relief + 25) ∧ (t.rpow r.val).mhz ≤ (s.rpow r.val).mhz ∧ t.power.alarms = s.power.alarms) ∧
  (∀ (s : State),
     8 ≤ (s.power.alarmTimes.filter fun x => decide (s.now < x + 100000)).length →
     s.power.vin < 1580 →
     s.power.avsFail = false →
     ∃ t, exec .coreRaise s = .next t ∧ t.power.vin = min 1580 (s.power.vin + 20) ∧ bitOf (t.regN .pwrErr 0) 2 = true) ∧
  (∀ (s : State),
     s.power.alarms = [] →
     1500 < s.power.vin →
     s.power.avsFail = false →
     ∃ t, exec .headroomRecovery s = .next t ∧ t.power.vin = max 1500 (s.power.vin - 10) ∧ s.power.lastAlarm + 10000000
       ≤ t.now) ∧
  (∀ (r : RoomIx) (s : State),
     exec (.supplyDroop r) s = .next s) ∧
  (∀ (mv amps : Nat) (s : State),
     s.power.avsFail = false →
     3 ≤ s.boot.phase →
     ∃ t, exec (.avsPoll true mv amps) s = .next t ∧ t.power.vinMeas = mv ∧ t.power.vinAmps = amps ∧ t.power.avsOk =
       true ∧ t.power.avsFails = 0) ∧
  (∀ (mv amps : Nat) (s : State),
     s.power.avsFail = false →
     3 ≤ s.boot.phase →
     s.power.avsFails = 2 →
     ∃ t, exec (.avsPoll false mv amps) s = .next t ∧ t.power.avsFail = true ∧ t.power.avsOk = false ∧ bitOf (t.regN
       .pwrErr 0) 3 = true) ∧
  (∀ (s : State),
     s.power.avsFail = true →
     ∃ t, exec (.avsRetry true) s = .next t ∧ t.power.avsFail = false ∧ t.power.avsFails = 0 ∧ s.now + 1000000 ≤ t.now) ∧
  (∀ (x : RefInput) (s : State),
     s.refUsed x = true →
     s.power.refLost.contains x = false →
     ∃ t, exec (.refLoss x) s = .next t ∧ t.power.refLost = s.power.refLost ++ [x] ∧ bitOf (t.regN .pwrErr 0) 5 = true) ∧
  (∀ (x : RefInput) (s : State),
     s.power.refLost.contains x = true →
     ∃ t, exec (.refRelock x) s = .next t ∧ t.power.refLost = s.power.refLost.filter (fun y => y != x) ∧ s.now + 1000000
       ≤ t.now)

/-- Grants are asked for, issued and used; the power cap is written and enforced. Cites R403, R404, R405, R406. -/
def Obligations.GrantsAndCapComplete : Prop :=
  (∀ (kind : GrantKind) (r : RoomIx) (s : State),
     (s.wing (r.val / 32)).state ≠ 2 →
     s.asked kind r.val = false →
     ∃ t, exec (.grantRequest kind r) s = .next t ∧ (t.account (r.val / 32) (grantFalls kind)).queue = (s.account (r.val
       / 32) (grantFalls kind)).queue ++ [⟨kind, r.val, grantFalls kind, s.grantCost kind, s.now⟩] ∧ t.power.issued =
       s.power.issued) ∧
  (∀ (x : WingIx) (fall : Bool) (s : State) (g : GrantReq) (q : List GrantReq),
     (s.account x.val fall).queue = g :: q →
     s.wingAlarmed x.val = false →
     g.kind ≠ .clockRaise →
     ∃ t, exec (.grantIssue x fall) s = .next t ∧ (t.account x.val fall).queue = q ∧ t.power.issued = s.power.issued ++
       [g] ∧ s.now ≤ t.now) ∧
  (∀ (x : WingIx) (fall : Bool) (s : State) (g : GrantReq) (q : List GrantReq),
     (s.account x.val fall).queue = g :: q →
     s.wingAlarmed x.val = false →
     g.kind = .clockRaise →
     ∃ t, exec (.grantIssue x fall) s = .next t ∧ (t.account x.val fall).queue = q ∧ (t.rpow g.room).mhz = min
       (s.wantedMhz g.room) ((s.rpow g.room).mhz + 25) ∧ t.power.issued = s.power.issued) ∧
  (∀ (s : State) (y : Nat) (fall : Bool),
     (tget (2 * y + b2n fall) s.power.accounts).isSome = true →
     ∃ t, exec .accountShareRecompute s = .next t ∧ t.power.share = max 1 s.wingsUp ∧ (t.account y fall).level =
       s.accountLevel y fall ∧ (t.account y fall).since = s.now) ∧
  (∀ (who : Accessor) (value : W64) (s : State),
     regWriter s 888 who = true →
     ∃ t, exec (.pwrCapWrite who value) s = .next t ∧ t.pwrCap = max (s.tdp * 40 / 100) (min s.tdp (value.toNat % 2 ^
       16)) ∧ t.power.lowered = s.power.lowered) ∧
  (∀ (watts : Nat) (s : State),
     ∃ t, exec (.powerCapLoop watts) s = .next t ∧ t.power.powerW = watts ∧ t.power.history = lastN 10 (s.power.history
       ++ [watts]) ∧ (s.now / 1000000 + 1) * 1000000 ≤ t.now) ∧
  (∀ (watts : Nat) (s : State),
     s.therm.stop = 0 →
     s.effectiveCap < watts →
     ∃ t, exec (.powerCapLoop watts) s = .next t ∧ t.power.lowered = min (s.roomLimit - 400) (s.power.lowered + 25) ∧ ∀
       x, (t.rpow x).mhz ≤ (s.rpow x).mhz)

/-- Samples set the bands; rooms throttle, stop hard, trip and cool again. Cites R168, R413, R414, R415, R416, R417,
    R418, R420, R421. -/
def Obligations.SensorsAndBandsComplete : Prop :=
  (∀ (r : RoomIx) (x y z : Int) (s : State) (c : Instr),
     c ∈ [Instr.atticTempSample r x y z, .sensorSample (.attic r) [x, y, z]] →
     ∃ t, exec c s = .next t ∧ (t.attic r.val).temps = (x, y, z) ∧ (t.attic r.val).band = bandAt atticBounds (s.attic
       r.val).band (t.attic r.val).temp ∧ t.mem = s.mem) ∧
  (∀ (r : RoomIx) (x y : Int) (s : State),
     ∃ t, exec (.sensorSample (.room r) [x, y]) s = .next t ∧ (t.rtherm r.val).floor = (x, y) ∧ (t.rtherm r.val).band =
       bandAt logicBounds (s.rtherm r.val).band (t.rtherm r.val).max) ∧
  (∀ (p : SensorPlace) (k : Nat) (l : List Int) (s : State),
     (p, k, l.length) ∈ (List.finRange 24).map (fun w => (SensorPlace.wing w, w.val, 4)) ++ (List.finRange 8).map (fun q
       => (SensorPlace.porch q, 96 + q.val, 2)) ++ (List.finRange 2).map (fun d => (SensorPlace.door d, 104 + d.val, 2))
       →
     ∃ t, exec (.sensorSample p l) s = .next t ∧ (t.dtherm k).temps = l ∧ (t.dtherm k).band = bandAt logicBounds
       (s.dtherm k).band (t.dtherm k).max) ∧
  (∀ (x : SensorId) (s : State),
     x.index.val < sensorCount x.place →
     ∃ t, exec (.sensorInvalid x) s = .next t ∧ bitOf (t.regN .thermErr 0) 0 = true ∧ (∀ r, x.place = .room r →
       (t.rtherm r.val).invalid.contains x.index.val = true) ∧ (∀ r, x.place = .attic r → (t.attic r.val).bad.contains
       x.index.val = true)) ∧
  (∀ (r : RoomIx) (s : State),
     s.throttled r.val = true →
     ∃ t, exec (.throttleStep r) s = .next t ∧ (t.rpow r.val).therm = max 400 ((if (s.rpow r.val).therm = 0 then
       s.wantedMhz r.val else (s.rpow r.val).therm) - 25) ∧ s.now + 1000000 ≤ t.now) ∧
  (∀ (r : RoomIx) (s : State),
     s.throttled r.val = false →
     (s.rpow r.val).therm ≠ 0 →
     ∃ t, exec (.throttleStep r) s = .next t ∧ (t.rpow r.val).therm = (if s.roomLimit ≤ (s.rpow r.val).therm + 25 then 0
       else (s.rpow r.val).therm + 25)) ∧
  (∀ (r : RoomIx) (s : State),
     (s.attic r.val).band = 3 →
     (s.room r.val).cond.state ≤ 1 →
     s.restarting 3 (r.val / 32) = false →
     ∃ t, exec (.slowNoticeSend r) s = .next t ∧ Sent.notice 0 (BitVec.ofNat 32 (s.threadId (r.val * 32))) (s.room
       r.val).cond.epoch (s.room r.val).cond.reason 200 ∈ t.sent ∧ s.now + 50000 ≤ t.now) ∧
  (∀ (r : RoomIx) (s : State) (n : Nat),
     (s.rtherm r.val).coolSince = some n →
     (s.room r.val).cond.state = 6 →
     (s.rtherm r.val).readmissible = false →
     ∃ t, exec (.readmissible r) s = .next t ∧ (t.rtherm r.val).readmissible = true ∧ n + 10000000 ≤ t.now) ∧
  (∀ (r : RoomIx) (s : State),
     440 ≤ (s.attic r.val).temp →
     (s.attic r.val).hotLoss = false →
     ∃ t, exec (.atticHardStop r) s = .next t ∧ (t.attic r.val).phase = .stopped ∧ (t.attic r.val).hotLoss = true ∧
       bitOf (t.regN .atticErr r.val) 9 = true ∧ ∀ k, (s.room r.val).phase ≠ .stopGrace → r.val * 0x10000000 ≤ k → k < r.val * 0x10000000 + atticSize → tget
       k t.mem = none) ∧
  (∀ (p : SensorPlace) (s : State),
     480 ≤ (s.placeMax p).1 →
     s.boot.hold ≠ .power →
     s.boot.hold ≠ .trip →
     ∃ t, exec (.thermalTrip p) s = .next t ∧ t.boot.hold = .trip ∧ t.aon.tripTemp = tempByte (s.placeMax p).1 ∧
       t.aon.tripPlace = (s.placeMax p).2.2 ∧ t.aon.tripPending = true ∧ t.test.thermTripN = false) ∧
  (∀ (s : State),
     s.boot.hold = .trip →
     s.allCool = true →
     s.test.resetN = true →
     s.test.pwrGood = true →
     ∃ t, exec .tripRelease s = .next t ∧ t.boot.hold = .none ∧ t.test.thermTripN = true)

/-- A room's and the device's orderly stop go through their phases. Cites R364, R415, R419, R426, R427, R428, R429,
    R440. -/
def Obligations.OrderlyStopsComplete : Prop :=
  (∀ (r : RoomIx) (s : State) (k : Nat),
     s.stopCause r.val = some k →
     (s.room r.val).cond.state ≤ 2 →
     (s.room r.val).phase = .inService →
     ∃ t, exec (.roomStopGrace r) s = .next t ∧ (t.room r.val).phase = .stopGrace ∧ (t.rtherm r.val).stopReason = k ∧
       bitOf (t.regN .thermErr 0) 2 = true ∧ (t.avu r.val).queue.all (·.dispatched) = true) ∧
  (∀ (r : RoomIx) (s : State),
     (s.room r.val).phase = .stopGrace →
     ∃ t, exec (.roomStopClocks r) s = .next t ∧ (t.room r.val).phase = .stopClocks ∧ (t.room r.val).cond.reason =
       (s.rtherm r.val).stopReason ∧ (t.array r.val).queue = [] ∧ (t.avu r.val).queue = [] ∧ (t.attic r.val).phase =
       .stopped ∧ (t.rpow r.val).mhz = 0) ∧
  (∀ (r : RoomIx) (s : State),
     (s.room r.val).phase = .stopClocks →
     s.restarting 3 (r.val / 32) = false →
     ∃ t u, exec (.roomStopNotice r) s = .next t ∧ (t.room r.val).phase = .stopNotice ∧ t.concerned (BitVec.ofNat 32
       (s.threadId (r.val * 32))) = [] ∧ t.sent = u ++ [.notice 1 (BitVec.ofNat 32 (s.threadId (r.val * 32))) (s.room r.val).cond.epoch (s.room r.val).cond.reason 0]) ∧
  (∀ (r : RoomIx) (s : State),
     (s.room r.val).phase = .stopNotice →
     ∃ t, exec (.roomStopPublish r) s = .next t ∧ (t.room r.val).phase = .stopped ∧ (t.room r.val).cond.state = 6) ∧
  (∀ (s : State),
     s.causePresent .flow = false →
     s.therm.stop ≤ 3 →
     ∃ t, exec .flowOkLoss s = .next t ∧ t.causePresent .flow = true ∧ t.therm.emergency = true ∧ t.therm.flowOk = false
       ∧ bitOf (t.regN .thermErr 0) 1 = true ∧ ∀ x, (t.rpow x).mhz ≤ 400) ∧
  (∀ (s : State),
     s.causePresent .pwrWarn = false →
     s.therm.stop ≤ 3 →
     ∃ t, exec .pwrWarn s = .next t ∧ t.causePresent .pwrWarn = true ∧ t.therm.stop ≠ 0 ∧ dieRecord s 0x25 s.hearthDie 0
       ∈ t.errInFlight) ∧
  (∀ (s : State),
     s.therm.stop = 2 →
     ∃ t, exec .deviceStopDrainEnd s = .next t ∧ t.therm = { s.therm with stop := 3 } ∧ t.mem = s.mem ∧ (s.drained = true →
       t.now = s.now) ∧ (s.drained = false → s.stopStart + 210000 ≤ t.now)) ∧
  (∀ (s : State) (c : StopCause × Nat),
     s.firstCause = some c →
     s.therm.stop = 3 →
     ∃ t, exec .commitPoint s = .next t ∧ t.boot.hold = .commit ∧ t.aon.lastCause = stopCode c.1 ∧ commitTime s.now c ≤
       t.now) ∧
  (∀ (flow : Bool) (s : State),
     s.causePresent (if flow then StopCause.flow else .pwrWarn) = true →
     (2 ≤ s.therm.stop ∧ s.therm.stop ≤ 3) →
     s.therm.causes.filter (fun x => x.1 != (if flow then StopCause.flow else .pwrWarn)) = [] →
     s.therm.heldReset = none →
     s.clearsInTime flow = true →
     ∃ t, exec (.deviceStopResume flow) s = .next t ∧ t.therm.stop = 0 ∧ t.therm.causes = [] ∧ t.therm.resuming = true)

/-- Slope, telemetry, keep-warm, cycles and duty act as their rules say. Cites R423, R424, R425, R430, R431, R432,
    R433, R437. -/
def Obligations.ThermalCapsComplete : Prop :=
  (∀ (s : State),
     ∃ t, exec .slopeFit s = .next t ∧ t.therm.samples = lastN 201 (s.therm.samples ++
       [(s.deviceAttic, s.power.powerW)]) ∧ (s.now / 10000000 + 1) * 10000000 ≤ t.now) ∧
  (∀ (s : State),
     s.therm.slopeHolds = true →
     ∃ t, exec .slopeCapStep s = .next t ∧ t.therm.slopeSteps = min 12 (s.therm.slopeSteps + 1) ∧ t.therm.slopeMoved =
       t.now) ∧
  (∀ (s : State) (n : Nat),
     s.therm.slopeHolds = false →
     s.therm.slopeLow = some n →
     s.therm.slopeSteps ≠ 0 →
     ∃ t, exec .slopeCapStep s = .next t ∧ t.therm.slopeSteps = s.therm.slopeSteps - 1 ∧ n + 1000000000 ≤ t.now) ∧
  (∀ (who : Accessor) (value : W64) (s : State),
     regWriter s 888 who = true →
     ∃ t, exec (.thermCoolWrite who value) s = .next t ∧ t.therm.report = (if fld value.toNat 23 16 = 0 ∧ fld
       value.toNat 7 0 = 0 then none else some (fld value.toNat 23 16, fld value.toNat 7 0, s.now)) ∧ (s.telemFor (fld
       value.toNat 23 16) (fld value.toNat 7 0) < s.tdp → t.therm.telemCap = some (s.telemFor (fld value.toNat 23 16)
       (fld value.toNat 7 0)))) ∧
  (∀ (s : State) (a b n : Nat),
     s.therm.report = some (a, b, n) →
     ∃ t, exec .telemetryStale s = .next t ∧ t.therm.report = none ∧ t.therm.telemCap = none ∧ n + 2000000000 ≤ t.now) ∧
  (∀ (who : Accessor) (value : W64) (s : State),
     regWriter s 888 who = true →
     ∃ t, exec (.thermCfgWrite who value) s = .next t ∧ t.therm.slopeLimit = fld value.toNat 7 0 ∧ t.keepWarmFloor = min
       s.optKeepWarm (fld value.toNat 23 16)) ∧
  (∀ (r : RoomIx) (s : State),
     s.mayWarm r.val = true →
     s.keepWarmFloor ≠ 0 →
     (s.attic r.val).temp < s.keepWarmFloor * 4 →
     (s.array r.val).power = .idle →
     (s.array r.val).queue = [] →
     s.granted .warmStart r.val = true →
     ∃ t, exec (.keepWarmStart r) s = .next t ∧ (t.array r.val).power = .dummy ∧ (t.rtherm r.val).warm = true) ∧
  (∀ (r : RoomIx) (s : State),
     s.warming r.val = true →
     ((s.keepWarmFloor + 5) * 4 ≤ (s.attic r.val).temp ∨ s.mayWarm r.val = false) →
     s.granted .warmStop r.val = true →
     ∃ t, exec (.keepWarmStop r) s = .next t ∧ (t.array r.val).power = .steppingDown ∧ (t.rtherm r.val).warm = false) ∧
  (∀ (s : State),
     ∃ t, exec .cycleCountSave s = .next t ∧ t.flashLogs.cycles = s.therm.cycles.map (fun x => (x.1, x.2.count)) ∧ s.now
       + 3600000000000 ≤ t.now) ∧
  (∀ (s : State),
     ∃ t, exec .dutyRotation s = .next t ∧ t.therm.roleEpoch = (s.therm.roleEpoch + 1) % 2 ^ 16 ∧ t.therm.collector =
       s.hotRole.getD s.therm.collector ∧ t.mem = s.mem)

/-- Power, pins, the watchdog and BOOT_CTRL reset the device as their kind says. Cites R396, R429, R438, R440, R443,
    R449, R458, R462, R463. -/
def Obligations.DeviceResetsComplete : Prop :=
  (∀ (s : State) (c : Instr) (hold : HoldKind),
     (c, hold) ∈ [(Instr.powerOn, HoldKind.pins), (.powerLoss, .power)] →
     (c = .powerOn → s.boot.hold = .power ∨ s.boot.hold = .pins) →
     ∃ t, exec c s = .next t ∧ t.boot.hold = hold ∧ t.aon = {} ∧ t.regs = [] ∧ t.harts = [] ∧ t.rooms = [] ∧ t.fuses =
       s.fuses ∧ t.flash = s.flash ∧ (∀ k, tget k t.mem = if 0x10000000000000 ≤ k then tget k s.mem else none)) ∧
  (∀ (s : State) (c : Instr) (cause : Nat),
     (c, cause) ∈ [(Instr.pwrGoodLow, 1), (.resetNLow, 2)] →
     s.boot.hold ≠ .power →
     s.boot.hold ≠ .trip →
     ∃ t, exec c s = .next t ∧ t.boot.hold = .pins ∧ t.aon.lastCause = cause ∧ t.regs = [] ∧ t.harts = [] ∧ t.rooms = []
       ∧ t.flash = s.flash ∧ (∀ k, tget k t.mem = if 0x10000000000000 ≤ k then tget k s.mem else none)) ∧
  (∀ (s : State),
     4 ≤ s.boot.phase →
     s.test.halted.contains (24608 + 2 * s.boot.activeDoor) = false →
     s.boot.state = 0 →
     s.therm.stop = 0 →
     ∃ t, exec .studyWatchdogExpiry s = .next t ∧ t.aon.failReason = 9 ∧ t.aon.failPhase = s.boot.phase ∧
       t.aon.failCount = min 15 (s.aon.failCount + 1) ∧ t.aon.lastCause = 7 ∧ t.boot.phase = 1) ∧
  (∀ (who : Accessor) (key : W16) (s : State),
     regWriter s 888 who = true →
     key = 0x5A17 →
     s.therm.stop = 0 →
     ∃ t, exec (.deviceReset who key) s = .next t ∧ t.aon.lastCause = 8 ∧ t.boot.phase = 1 ∧ t.boot.hold = .none ∧
       t.regs = [] ∧ t.rooms = [] ∧ (∀ k, tget k t.mem = if 0x10000000000000 ≤ k ∨ k < 0x10000000000 then tget k s.mem
       else none)) ∧
  (∀ (who : Accessor) (key : W16) (s : State),
     regWriter s 888 who = true →
     key = 0x5A17 →
     s.therm.stop ≠ 0 →
     ∃ t, exec (.deviceReset who key) s = .next t ∧ t.therm.heldReset = some (s.therm.heldReset.getD 8) ∧ t.regs =
       s.regs ∧ t.mem = s.mem) ∧
  (∀ (who : Accessor) (key : W16) (s : State),
     regWriter s 888 who = true →
     key = 0x5A17 →
     exec (.hostGo who key) s = .next { s with boot := { s.boot with hostGo := true } }) ∧
  (∀ (who : Accessor) (key : W16) (s : State),
     regWriter s 888 who = true →
     key = 0x5A17 →
     s.therm.stop = 0 →
     ∃ t, exec (.bootRetry who key) s = .next t ∧ t.aon.failCount = 0 ∧ t.flashLogs.start = s.flashLogs.start ++
       [⟨s.flashLogs.start.length, 0x0F, 0, 0⟩] ∧ t.boot.phase = 1) ∧
  (∀ (straps : BitVec 6) (s : State),
     s.boot.hold = .pins →
     ∃ t, exec (.samplingEdge straps) s = .next t ∧ t.boot.straps = straps.toNat ∧ t.boot.strapsValid = true ∧
       t.boot.phase = 1 ∧ t.boot.hold = .none ∧ t.bootCount = (s.bootCount + 1) % 2 ^ 32) ∧
  (∀ (s : State),
     s.boot.hold = .commit →
     ∃ t, exec .stopResetWaitEnd s = .next t ∧ t.boot.phase = 1 ∧ t.boot.hold = .none ∧ s.now + 100000000 ≤ t.now)

/-- A block's reset goes through request, settle, reset and release. Cites R118, R119, R438, R439, R440, R454, R485.
    -/
def Obligations.BlockResetsComplete : Prop :=
  (∀ (x : WingIx) (s : State),
     s.unpowered = false →
     s.blockReset (768 + x.val) = none →
     ∃ t, exec (.wingReset x) s = .next t ∧ t.blockReset (768 + x.val) = some { goal := .wing, since := s.now } ∧ ∀ r, r
       / 32 = x.val → (t.room r).phase = .resetRequest) ∧
  (∀ (p : PorchIx) (s : State),
     s.unpowered = false →
     s.blockReset (792 + p.val) = none →
     ∃ t, exec (.porchReset p) s = .next t ∧ t.blockReset (792 + p.val) = some { goal := .porch, since := s.now } ∧
       t.rooms = s.rooms) ∧
  (∀ (b : Block) (s : State) (x : BlockReset),
     s.blockReset (blockKey b) = some x →
     x.phase = .request →
     (blockKey b < 768 → s.restarting 3 (blockKey b / 32) = false) →
     ∃ t, exec (.blockResetRequest b) s = .next t ∧ t.blockReset (blockKey b) = some
       { x with phase := .settle, since := s.now } ∧ ∀ r, r ∈ blockRooms (blockKey b) → (t.room r).phase = .resetSettle) ∧
  (∀ (b : Block) (s : State) (x : BlockReset),
     s.blockReset (blockKey b) = some x →
     x.phase = .settle →
     s.settled (blockKey b) = true →
     ∃ t, exec (.blockSettleEnd b) s = .next t ∧ t.blockReset (blockKey b) = some
       { x with phase := .inReset, since := s.now }) ∧
  (∀ (r : RoomIx) (s : State) (x : BlockReset),
     s.blockReset r.val = some x →
     x.phase = .settle →
     s.settled r.val = true →
     ∃ t, exec (.blockSettleEnd (.room r)) s = .next t ∧ (t.room r.val).phase = .inReset ∧ (t.room r.val).count =
       ((s.room r.val).count + 1) % 2 ^ 32 ∧ (t.room r.val).cond.epoch = epochOf (((s.room r.val).count + 1) % 2 ^ 32)) ∧
  (∀ (b : Block) (s : State) (x : BlockReset),
     s.blockReset (blockKey b) = some x →
     x.phase = .settle →
     ∃ t y, exec (.blockSettleTimeout b) s = .next t ∧ t.blockReset (blockKey b) = some y ∧ y.phase = .inReset ∧ y.goal
       = x.goal ∧ x.since + max 1 s.boot.idleTmo * 1000 ≤ t.now) ∧
  (∀ (b : Block) (s : State) (x : BlockReset),
     s.blockReset (blockKey b) = some x →
     x.phase = .inReset →
     ∃ t, exec (.blockRelease b) s = .next t ∧ t.blockReset (blockKey b) = none) ∧
  (∀ (r : RoomIx) (s : State) (x : BlockReset),
     s.blockReset r.val = some x →
     x.phase = .inReset →
     x.goal = .plain →
     ∃ t, exec (.blockRelease (.room r)) s = .next t ∧ (t.room r.val).phase = .resetTrain ∧ t.asked .roomStart r.val = true) ∧
  (∀ (r : RoomIx) (failed banks : List Nat) (s : State),
     (s.room r.val).phase = .resetTrain →
     s.granted .roomStart r.val = true →
     failed.all (fun x => decide (x < 2304)) = true →
     (s.trainRoom r.val failed banks).trainedState r.val ≤ 1 →
     ∃ t, exec (.stairTraining r ⟨failed, banks⟩) s = .next t ∧ (t.room r.val).phase = .resetBoot ∧ (t.hartAt (r.val * 32)).pc =
       BitVec.ofNat 64 (localPa 2 r.val 0) ∧ (t.hartAt (r.val * 32)).idle = false ∧ (t.attic r.val).failedLanes = failed)

/-- The first phases of a start go on, or note why they fail. Cites R173, R174, R175, R446, R447, R449, R450, R457,
    R459, R460. -/
def Obligations.StartPhasesOneToFive : Prop :=
  (∀ (s : State),
     s.inPhase 1 = true →
     (List.range 106).all (fun d => (s.die d).fuses != .unread) = true →
     ∃ t, exec .bootPhaseFuses s = .next t ∧ ((s.die 104).fuses = .good → t.boot.phase = 2 ∧ t.boot.activeDoor =
       s.boot.activeDoor) ∧ ((s.die 104).fuses ≠ .good → s.aon.failCount < 3 → t.boot.failing = some 2)) ∧
  (∀ (s : State) (a m src : List Byte),
     s.boot.phase = 2 →
     s.boot.option = [] →
     (a = s.flashBytes s.optFlash 0 256 ∧ m = s.flashBytes s.optFlash 0x10000 256) →
     src = (if optGood a then a else if optGood m then m else s.optDefault) →
     ∃ t, exec .optionLoad s = .next t ∧ t.boot.option = (optApplied s.limits src).1 ∧ t.boot.optClamp = (optApplied
       s.limits src).2 ∧ t.boot.optDefaults = (!optGood a && !optGood m) ∧ t.boot.optCopy = (!optGood a && optGood m)) ∧
  (∀ (s : State),
     s.inPhase 2 = true →
     s.boot.option ≠ [] →
     ∃ t, exec .bootPhaseOption s = .next t ∧ (s.boot.optDefaults = false → t.boot.phase = 3) ∧ (s.boot.optDefaults =
       true → t.boot.state = 2 ∧ t.boot.reason = 1)) ∧
  (∀ (s : State),
     s.inPhase 3 = true →
     ∃ t, exec (.bootPhaseStrongroomRom false) s = .next t ∧ t.boot.failing = some 3 ∧ t.flashLogs = s.flashLogs) ∧
  (∀ (s : State),
     s.inPhase 3 = true →
     s.aon.failReason = 0 →
     s.aon.failCount < 3 →
     (s.closeAttempt 0x1F 0 0).countedStarts.length < 3 →
     ∃ t, exec (.bootPhaseStrongroomRom true) s = .next t ∧ t.boot.phase = 4 ∧ t.boot.attempt = true ∧
       (t.flashLogs.start.getLast?.map (·.state)) = some 0x7F) ∧
  (∀ (neighbour : Bool) (s : State),
     s.inPhase 4 = true →
     (s.bootSrc ≠ 1 ∨ s.boot.hostGo = true) →
     ∃ t, exec (.bootPhaseStudyFirmware neighbour) s = .next t ∧ (s.bootSrc = 0 → neighbour = false → t.boot.failing =
       some 7) ∧ (s.bootSrc ≠ 0 → s.bootEntry 1 = none → t.boot.failing = some 4) ∧ (s.bootSrc ≠ 0 → (s.bootEntry
       1).isSome = true → s.bootEntry 2 = none → t.boot.failing = some 5) ∧ (∀ a b, s.bootSrc ≠ 0 → s.bootEntry 1 = some
       a → s.bootEntry 2 = some b → (s.startFirmware a b).coolingOk = true → t.boot.phase = 5 ∧ t.live.hearthDoor =
       s.boot.activeDoor ∧ tget 1 t.live.running = some a.slot)) ∧
  (∀ (s : State),
     s.inPhase 4 = true →
     s.bootSrc = 1 →
     s.boot.hostGo = false →
     ∃ t, exec .hostTimeout s = .next t ∧ t.boot.failing = some 6 ∧ s.boot.since + 10000000000 ≤ t.now) ∧
  (∀ (r : RoomIx) (failed banks : List Nat) (s : State),
     s.inPhase 5 = true →
     (s.room r.val).phase = .inReset →
     (s.room r.val).cond.state ≠ 3 →
     failed.all (fun x => decide (x < 2304)) = true →
     ∃ t, exec (.stairTraining r ⟨failed, banks⟩) s = .next t ∧ (t.attic r.val).failedLanes = failed ∧ (t.room r.val).cond.state = (s.trainRoom r.val failed banks).trainedState r.val ∧ (t.room r.val).cond.spares
       = (t.attic r.val).sparesUsed ∧ (∀ b, b < 48 → bitOf (t.room r.val).cond.bankMap b =
       (!banks.contains b && !s.flashLogs.banks.contains (r.val, b))) ∧ (((t.attic r.val).halfShort 0 &&
       (t.attic r.val).halfShort 1) = false → (t.attic r.val).phase = .running)) ∧
  (∀ (r : RoomIx) (s : State),
     (s.attic r.val).phase = .recalPublish →
     ∃ t, exec (.stairRecalResume r) s = .next t ∧ (t.attic r.val).phase = .running ∧ t.mem = s.mem)

/-- The later phases of a start go on, end it, or note why it fails. Cites R449, R453, R454, R455, R457, R461. -/
def Obligations.StartPhasesFiveToEight : Prop :=
  (∀ (s : State),
     s.inPhase 5 = true →
     s.modulesDone = true →
     s.stairsDone = true →
     s.wingsUp ≠ 0 →
     ∃ t, exec .bootPhaseHallStairs s = .next t ∧ t.boot.phase = 6 ∧ 0 < t.power.share) ∧
  (∀ (kind : Fin 6) (failed : List Nat) (s : State),
     s.inPhase 6 = true →
     3 ≤ kind.val →
     s.boot.broadcast.contains kind.val = false →
     ∃ t, exec (.imageBroadcast kind failed) s = .next t ∧ (∀ e, s.bootEntry kind.val = some e →
       t.boot.broadcast.contains kind.val = true ∧ tget kind.val t.live.running = some e.slot) ∧ (s.bootEntry kind.val =
       none → kind.val ≠ 5 → t.boot.failing = some 0x0B)) ∧
  (∀ (r : RoomIx) (value : W64) (s : State),
     (s.room r.val).phase = .startBoot →
     (s.room r.val).bootReport = none →
     (s.room r.val).cond.state ≤ 2 →
     value.toNat % 256 = 0 →
     ∃ t, exec (.roomBootResult r value) s = .next t ∧ (t.room r.val).phase = .inService ∧ t.reg .wingBootResult r.val =
       value ∧ (t.hartAt (r.val * 32)).idle = true) ∧
  (∀ (r : RoomIx) (s : State),
     (s.room r.val).phase = .startBoot →
     (s.room r.val).bootReport = none →
     tget 4 s.live.trials = none →
     ∃ t, exec (.roomBootTimeout r) s = .next t ∧ (t.room r.val).phase = .stopped ∧ (t.room r.val).cond.state = 4 ∧
       (t.room r.val).cond.reason = 0x15 ∧ (s.room r.val).bootSince + 2000000 ≤ t.now) ∧
  (∀ (s : State),
     s.inPhase 6 = true →
     s.boot.broadcast = [3, 4, 5] →
     s.rooms.all (fun p => p.2.phase != .startBoot) = true →
     ∃ t, exec .bootPhaseFwBroadcast s = .next t ∧ (s.someGood = true → t.boot.phase = 7) ∧ (s.someGood = false →
       t.boot.failing = some 0x0A)) ∧
  (∀ (s : State),
     s.inPhase 7 = true →
     s.linksDone = true →
     exec .bootPhaseLinks s = .next { s with boot := { s.boot with phase := 8, since := s.now } }) ∧
  (∀ (s : State),
     s.inPhase 8 = true →
     ∃ t, exec .bootPhaseReady s = .next t ∧ t.boot.state = 1 ∧ t.boot.short = s.isShort ∧ t.plan.isSome = true ∧
       t.flashLogs.epochCeiling = (s.flashLogs.epochCeiling + 64) % 2 ^ 32) ∧
  (∀ (s : State),
     s.boot.phase ≠ 0 →
     s.inPhase s.boot.phase = true →
     ∃ t, exec .bootPhaseTimeout s = .next t ∧ (s.boot.phase = 7 → t.boot.phase = 8) ∧ (s.boot.phase ≠ 7 →
       t.boot.failing = some 8) ∧ s.boot.since + s.phaseBound ≤ t.now) ∧
  (∀ (s : State) (reason : Nat),
     s.boot.failing = some reason →
     ∃ t, exec .failedStart s = .next t ∧ t.aon.failReason = reason ∧ t.aon.failPhase = s.boot.phase ∧ t.aon.failCount =
       min 15 (s.aon.failCount + 1) ∧ t.aon.lastCause = 9 ∧ t.boot.phase = 1 ∧ t.boot.failing = none)

/-- Packets route, tables switch, edges fail and are rebuilt, landings combine atomics. Cites R284, R286, R287, R288,
    R289, R296, R301, R304. -/
def Obligations.HallAndLandingsComplete : Prop :=
  (∀ (x : WingIx) (header : W128) (body : List Byte) (n : Nat) (p : HallPacket) (s : State),
     (body.length + 16 = azBytes header ∧ azOpc header ≠ 0x1F ∧ azSrcDie header = x.val) →
     p = s.injected x.val (dieEntry (azDstDie header)) s.devId.toNat header body →
     s.routePort x.val p.bank p.dst = some n →
     (s.regq (portQ x.val n)).admits (((s.hall x.val).port n).map (·.cls)) p.cls = true →
     ∃ t, exec (.hallPacketRoute x (.inject s.devId header body)) s = .next t ∧ (t.hall x.val).port n = (s.hall
       x.val).port n ++ [p] ∧ t.mem = s.mem) ∧
  (∀ (x : WingIx) (header : W128) (body : List Byte) (p : HallPacket) (s : State),
     (body.length + 16 = azBytes header ∧ azOpc header ≠ 0x1F ∧ azSrcDie header = x.val) →
     p = s.injected x.val (dieEntry (azDstDie header)) s.devId.toNat header body →
     s.routePort x.val p.bank p.dst = none →
     ∃ t, exec (.hallPacketRoute x (.inject s.devId header body)) s = .next t ∧ t.regN .hallDropCount x.val = (s.regN
       .hallDropCount x.val + 1) % 2 ^ 32 ∧ t.halls = s.halls) ∧
  (∀ (x : WingIx) (s : State) (i : Nat),
     (s.regq (portQ x.val 4)).pick (headsReady (((s.hall x.val).port 4).map fun p => (p.cls, p.vc, (s.hallLeave x.val 4 p).isSome))) =
       some i →
     i < ((s.hall x.val).port 4).length →
     ∃ t, exec (.hallPacketRoute x (.advance 4)) s = .next t ∧ (t.hall x.val).port 4 = ((s.hall x.val).port 4).eraseIdx i) ∧
  (∀ (who : Accessor) (x : WingIx) (s : State),
     hallWriter s who = true →
     ∃ t, exec (.hallRtSwitch who x) s = .next t ∧ t.hall x.val =
       { s.hall x.val with active := 1 - (s.hall x.val).active, epoch := ((s.hall x.val).epoch + 1) % 2 ^ 16 }) ∧
  (∀ (who : Accessor) (x : WingIx) (bank : Fin 2) (entry : Fin 40) (value : W64) (s : State),
     hallWriter s who = true →
     bank.val ≠ (s.hall x.val).active →
     ∃ t, exec (.hallRtEntryWrite who x bank entry value) s = .next t ∧ t.rtEntry x.val bank.val entry.val = fld
       value.toNat 15 14 * 0x4000 + fld value.toNat 10 0) ∧
  (∀ (who : Accessor) (x : WingIx) (bank : Fin 2) (entry : Fin 40) (value : W64) (s : State),
     bank.val = (s.hall x.val).active →
     exec (.hallRtEntryWrite who x bank entry value) s = .next s) ∧
  (∀ (x : WingIx) (port : Fin 4) (s : State) (v : Nat),
     neighbour x.val port.val = some v →
     (s.hall x.val).portUp.contains port.val = true →
     s.working x.val port.val = [] →
     ∃ t, exec (.edgeDetect x port) s = .next t ∧ (t.hall x.val).portUp = (s.hall x.val).portUp.filter (fun p => p !=
       port.val) ∧ (t.hall x.val).port port.val = [] ∧ (t.hall v).portUp = (s.hall v).portUp.filter (fun p => p !=
       opposite port.val) ∧ (t.hall v).port (opposite port.val) = []) ∧
  (∀ (s : State),
     s.halls.any (fun h => h.2.draining) = false →
     ∃ t, exec .edgeRebuild s = .next t ∧ ∀ x, x ∈ s.upWings → (t.hall x).active = 1 - (s.hall x).active ∧ (t.hall
       x).epoch = ((s.hall x).epoch + 1) % 2 ^ 16) ∧
  (∀ (island : Fin 792) (tag : Fin 4096) (s : State) (q : Req),
     s.findReq island.val tag.val = some q →
     (island.val < 768 ∧ s.reqDevice q = s.devId.toNat) →
     q.reissued = false →
     ∃ t, exec (.hallReissue island tag) s = .next t ∧ t.findReq island.val tag.val = some { q with reissued := true } ∧
       q.issued + 20000 ≤ t.now ∧ t.reqs.length = s.reqs.length ∧ t.sent = (s.sendReq { q with reissued := true }).sent) ∧
  (∀ (x : WingIx) (island : Fin 792) (tag : Fin 4096) (s : State) (y : Combined),
     island.val = 768 + x.val →
     (s.hall x.val).atomics = [y] →
     (y.tag = some tag.val ∧ y.acked = none ∧ y.reissued = false ∧ fld y.addr 51 38 = s.devId.toNat) →
     ∃ t, exec (.hallReissue island tag) s = .next t ∧ (t.hall x.val).atomics = [{ y with reissued := true }] ∧ y.sent +
       20000 ≤ t.now ∧ t.sent.length = s.sent.length + 1) ∧
  (∀ (x : WingIx) (q : HomeRequest) (s : State),
     (q.noret = true ∧ q.payload.length = 16) →
     s.admitsPacket q.hdr = true →
     (s.hall x.val).atomics.any (fun y => y.isFor q.addr.toNat q.cls.val) = false →
     (bitOf (s.regN .hallLandingCfg x.val) 8 = true ∧ fld (s.regN .hallLandingCfg x.val) 7 0 ≠ 0 ∧ (s.die x.val).combine
       = true) →
     ((s.hall x.val).atomics.filter (fun y => y.acked.isNone)).length < 64 →
     ∃ t, exec (.combinedXaaddArrival x q) s = .next t ∧ (t.hall x.val).atomics.getLast? = some
       { addr := q.addr.toNat, cls := q.cls.val, sum := xaAddend q, from_ := [q.hdr], opened := s.now } ∧ t.mem = s.mem) ∧
  (∀ (x : WingIx) (q : HomeRequest) (s : State) (y : Combined),
     (q.noret = true ∧ q.payload.length = 16) →
     s.admitsPacket q.hdr = true →
     (s.hall x.val).atomics = [y] →
     (y.isFor q.addr.toNat q.cls.val = true ∧ y.tag = none ∧ y.acked = none) →
     y.from_.any (sameRequest q.hdr) = false →
     (bitOf (s.regN .hallLandingCfg x.val) 8 = true ∧ fld (s.regN .hallLandingCfg x.val) 7 0 ≠ 0 ∧ (s.die x.val).combine
       = true) →
     ∃ t, exec (.combinedXaaddArrival x q) s = .next t ∧ (t.hall x.val).atomics =
       [{ y with sum := combinePartial y.sum (xaAddend q), from_ := y.from_ ++ [q.hdr] }] ∧ t.regN .hallCombined x.val =
       (s.regN .hallCombined x.val + 1) % 2 ^ 32) ∧
  (∀ (x : WingIx) (addr : BitVec 55) (cls : Fin 8) (s : State) (y : Combined) (g : Nat),
     (s.hall x.val).atomics.find? (fun z => z.isFor addr.toNat cls.val && z.tag.isNone) = some y →
     s.freeTag (768 + x.val) 4096 0 = some g →
     ∃ t u, exec (.combineWinExpiry x addr cls) s = .next t ∧ t = State.sendCombined u x.val
       { y with tag := some g, sent := u.now } ∧ u.sent = s.sent ∧ (u.hall x.val).atomics = (s.hall x.val).atomics.map (fun z =>
       if z = y then { y with tag := some g, sent := u.now } else z) ∧ (t.tag (768 + x.val) g).state = .outstanding ∧ y.opened + fld (s.regN .hallLandingCfg x.val) 7 0 / 2 ≤ t.now)

/-- Fuses load, modules train to UP, return credits and go down. Cites R17, R307, R308, R310, R315, R316, R317, R319,
    R320, R322. -/
def Obligations.ModulesComplete : Prop :=
  (∀ (die : DieIx) (s : State),
     (s.die die.val).fuses = .unread →
     ∃ t, exec (.fuseLoad die) s = .next t ∧ (t.die die.val).fuses = (if s.idGood die.val ∧ (24 ≤ die.val ∨
       s.atticBlocksGood die.val = true) then .good else .bad)) ∧
  (∀ (die : DieIx) (m : Fin 16) (s : State) (p : Nat),
     modulePeer (die.val * 16 + m.val) = some p →
     ((s.die die.val).fuses = .good ∧ (s.die (p / 16)).fuses = .good) →
     (s.dieInReset die.val = false ∧ s.dieInReset (p / 16) = false ∧ s.trainsModules die.val (p / 16) = true) →
     ((s.module (die.val * 16 + m.val)).state ≤ 1 ∧ (s.module (die.val * 16 + m.val)).phase = 0) →
     (s.idField die.val 1 1 = die.val ∧ s.idField (p / 16) 1 1 = p / 16) →
     s.repairsAgree (die.val * 16 + m.val) p = true →
     ∃ t, exec (.moduleSideband die m) s = .next t ∧ (t.module (die.val * 16 + m.val)).state = 1 ∧ (t.module (die.val *
       16 + m.val)).phase = 1 ∧ (t.module (die.val * 16 + m.val)).peerIndex = p / 16 ∧ (t.module p).phase = 1) ∧
  (∀ (die : DieIx) (m : Fin 16) (s : State) (p : Nat) (c : Instr) (n : Nat),
     (c, n) ∈ [(Instr.moduleMainbandTrain die m, 1), (.moduleAdapterInit die m, 2)] →
     modulePeer (die.val * 16 + m.val) = some p →
     ((s.die die.val).fuses = .good ∧ (s.die (p / 16)).fuses = .good) →
     (s.dieInReset die.val = false ∧ s.dieInReset (p / 16) = false ∧ s.trainsModules die.val (p / 16) = true) →
     ((s.module (die.val * 16 + m.val)).state = 1 ∧ (s.module (die.val * 16 + m.val)).phase = n) →
     ∃ t, exec c s = .next t ∧ (t.module (die.val * 16 + m.val)).phase = n + 1 ∧ (t.module p).phase = n + 1) ∧
  (∀ (die : DieIx) (m : Fin 16) (addr : BitVec 55) (payload l : List Byte) (cap : CapRecord) (s : State) (p : Nat),
     (lctlOf addr payload = .cap l ∧ cap = capOf l) →
     modulePeer (die.val * 16 + m.val) = some p →
     ((s.die die.val).fuses = .good ∧ (s.die (p / 16)).fuses = .good) →
     (s.dieInReset die.val = false ∧ s.dieInReset (p / 16) = false ∧ s.trainsModules die.val (p / 16) = true) →
     ((s.module (die.val * 16 + m.val)).state = 1 ∧ (s.module (die.val * 16 + m.val)).phase = 3) →
     cap.azMajor.toNat = s.idField die.val 6 1 →
     (2 ≤ cap.vcCredit.toNat ∧ cap.dieKind.toNat = dieKind (p / 16) ∧ cap.dieIndex.toNat = p / 16) →
     ∃ t, exec (.lctlCap die m ⟨addr, payload⟩) s = .next t ∧ (t.module (die.val * 16 + m.val)).phase = 4 ∧ (t.module (die.val * 16
       + m.val)).grant = cap.vcCredit.toNat ∧ (t.die (p / 16)).opcMap = cap.opcMap.toNat ∧ (t.die (p / 16)).combine =
       bitOf cap.features.toNat 1 ∧ (t.die (p / 16)).unfit = ((s.die (p / 16)).unfit || capUnfit cap)) ∧
  (∀ (die : DieIx) (m : Fin 16) (s : State) (p : Nat),
     modulePeer (die.val * 16 + m.val) = some p →
     ((s.die die.val).fuses = .good ∧ (s.die (p / 16)).fuses = .good) →
     (s.dieInReset die.val = false ∧ s.dieInReset (p / 16) = false ∧ s.trainsModules die.val (p / 16) = true) →
     ((s.module (die.val * 16 + m.val)).state = 1 ∧ (s.module (die.val * 16 + m.val)).phase = 4 ∧ (s.module p).phase =
       4) →
     ∃ t, exec (.moduleCreditInit die m) s = .next t ∧ (t.module (die.val * 16 + m.val)).state = 2 ∧ (t.module p).state
       = 2 ∧ (die.val < 24 → (t.hall die.val).portUp.contains (m.val / 4) = true)) ∧
  (∀ (die : DieIx) (m : Fin 16) (s : State) (p : Nat),
     modulePeer (die.val * 16 + m.val) = some p →
     p ≠ die.val * 16 + m.val →
     ((s.die die.val).fuses = .good ∧ (s.die (p / 16)).fuses = .good) →
     (s.dieInReset die.val = false ∧ s.dieInReset (p / 16) = false ∧ s.trainsModules die.val (p / 16) = true) →
     (s.module (die.val * 16 + m.val)).state ≤ 1 →
     ∃ t, exec (.moduleTrainFail die m) s = .next t ∧ (t.module (die.val * 16 + m.val)).phase = 0 ∧ (t.module (die.val *
       16 + m.val)).failed = (s.module (die.val * 16 + m.val)).failed + 1 ∧ (t.module (die.val * 16 + m.val)).state =
       (if (s.module (die.val * 16 + m.val)).failed + 1 < 3 then 1 else 8)) ∧
  (∀ (die : DieIx) (m : Fin 16) (addr : BitVec 55) (vc n : Nat) (s : State) (p : Nat),
     modulePeer (die.val * 16 + m.val) = some p →
     ((s.die die.val).fuses = .good ∧ (s.die (p / 16)).fuses = .good) →
     (s.dieInReset die.val = false ∧ s.dieInReset (p / 16) = false ∧ s.trainsModules die.val (p / 16) = true) →
     (s.module (die.val * 16 + m.val)).state = 2 →
     (vc < 32 ∧ n < 128) →
     lctlOf addr [] = .crd (BitVec.ofNat 48 (vc * 2 ^ 7 + n)) →
     ∃ t, exec (.lctlCrd die m addr) s = .next t ∧ (n ≠ 0 → (t.module (die.val * 16 +
       m.val)).credit vc = min (s.module (die.val * 16 + m.val)).grant ((s.module (die.val * 16 + m.val)).credit vc +
       n)) ∧ (n = 0 → (t.module (die.val * 16 + m.val)).credit vc = (s.module (die.val * 16 + m.val)).credit vc)) ∧
  (∀ (die : DieIx) (m : Fin 16) (retries burst : Nat) (s : State) (p : Nat),
     modulePeer (die.val * 16 + m.val) = some p →
     ((s.die die.val).fuses = .good ∧ (s.die (p / 16)).fuses = .good) →
     (s.dieInReset die.val = false ∧ s.dieInReset (p / 16) = false ∧ s.trainsModules die.val (p / 16) = true) →
     (s.module (die.val * 16 + m.val)).state = 2 →
     s.errorLimit die.val retries burst = true →
     ∃ t, exec (.moduleErrorDown die m retries burst) s = .next t ∧ (t.module (die.val * 16 + m.val)).state = 3 ∧
       (t.module p).state = 3 ∧ dieRecord s 0x40 die.val m.val ∈ t.errInFlight) ∧
  (∀ (die : DieIx) (m : Fin 16) (s : State) (p : Nat),
     modulePeer (die.val * 16 + m.val) = some p →
     ((s.module (die.val * 16 + m.val)).state = 1 ∨ (s.module (die.val * 16 + m.val)).state = 2) →
     ∃ t, exec (.islandDown (.module die m)) s = .next t ∧ (t.module (die.val * 16 + m.val)).state = 0 ∧ (t.module (die.val
       * 16 + m.val)).credits = [] ∧ dieRecord s 0x43 (p / 16) (islandOf (p / 16)) ∈ t.errInFlight ∧ (die.val < 24 →
       dieRecord s 0x43 (p / 16) (islandOf (p / 16)) ∈ tgetD t.wingLogs die.val [])) ∧
  (∀ (r : RoomIx) (s : State),
     (s.room r.val).phase = .inReset →
     ∃ t, exec (.islandDown (.room r)) s = .next t ∧ dieRecord s 0x43 (r.val / 32) (r.val % 32) ∈ t.errInFlight ∧ t.mem =
       s.mem ∧ ∀ x, x ∈ (t.hall (r.val / 32)).port 4 ↔ x ∈ (s.hall (r.val / 32)).port 4 ∧ x.room ≠ some (r.val % 32))

/-- Records reach the log, windows end, and row repairs go through their phases. Cites R472, R474, R478, R480, R481,
    R533. -/
def Obligations.ErrorsAndRepairComplete : Prop :=
  (∀ (s : State) (e : ErrRecord) (q : List ErrRecord),
     s.errInFlight = e :: q →
     ∃ t, exec (.errorRecordPost none) s = .next t ∧ t.errInFlight = q ∧ t.deviceLog = lastN 16384 (s.deviceLog ++
       [{ e with seq := s.deviceSeq }]) ∧ t.deviceSeq = (s.deviceSeq + 1) % 2 ^ 32 ∧ (e.severity = 1 → t.flashLog =
       s.flashLog)) ∧
  (∀ (p : PostedError) (s : State),
     causeSeverity p.cause ≠ 1 →
     ∃ t, exec (.errorRecordPost (some p)) s = .next t ∧ t.errInFlight = s.errInFlight ++ [postedRecord p s] ∧ t.mem =
       s.mem) ∧
  (∀ (cause : Nat) (die : DieIx) (room : Fin 32) (s : State) (x : CeWindow),
     s.ceWindows.find? (fun y => y.cause == cause && y.die == die.val && y.room == room.val) = some x →
     x.further ≠ 0 →
     ∃ t, exec (.ceWindowEnd cause die room) s = .next t ∧ t.ceWindows = s.ceWindows.erase x ∧ t.errInFlight =
       s.errInFlight ++ [{ x.record with time := x.again, count := min 2047 x.further }] ∧ x.record.time + 1000000000 ≤
       t.now) ∧
  (∀ (r : RoomIx) (bank : Fin 48) (row : Fin 4096) (s : State) (x : RowRepair),
     (s.attic r.val).repairOf bank.val row.val = some (x, .hold) →
     ∃ t, exec (.rowRepairHoldEnd r bank row) s = .next t ∧ (t.attic r.val).repairing = (s.attic r.val).repairing.map
       (fun q => if q.1 = x then (x, .copy) else q) ∧ t.mem = s.mem) ∧
  (∀ (r : RoomIx) (bank : Fin 48) (row : Fin 4096) (s : State) (x : RowRepair),
     (s.attic r.val).repairOf bank.val row.val = some (x, .copy) →
     (s.mailbox r.val).pending = false →
     ∃ t, exec (.rowRepairSwitch r bank row) s = .next t ∧ (t.attic r.val).repairs = (s.attic r.val).repairs ++ [x] ∧
       (t.attic r.val).repairing = (s.attic r.val).repairing.map (fun q => if q.1 = x then (x, .log) else q) ∧ t.mem =
       s.mem ∧ (t.mailbox r.val).pending = true ∧ (t.mailbox r.val).detail = BitVec.ofNat 64 x.spare) ∧
  (∀ (r : RoomIx) (bank : Fin 48) (row : Fin 4096) (s : State) (x : RowRepair),
     (s.attic r.val).repairOf bank.val row.val = some (x, .log) →
     s.flashLogs.repairs.length < 16384 →
     ∃ t, exec (.rowRepairLog r bank row) s = .next t ∧ (t.attic r.val).repairing = (s.attic r.val).repairing.filter
       (fun q => q.1 != x) ∧ t.flashLogs.repairs = s.flashLogs.repairs ++
       [(r.val, x.bank, x.spare, x.row, false, s.now)] ∧ bitOf (t.regN .atticErr r.val) 10 = true)

/-- Received flits are taken or discarded, and the timers of a link act. Cites R326, R328, R329, R330, R331, R332,
    R334, R335, R366. -/
def Obligations.FlitsComplete : Prop :=
  (∀ (l : LinkIx) (f : FlitHead) (s : State) (c : Instr),
     c ∈ [Instr.flitIdle l f, .flitData l f [] false, .flitNak l f, .flitHeartbeat l f ⟨0, 0, 1, 0, 0⟩ 0, .lctlInit l f ⟨0, 0, 1, 0, 0⟩, .lctlInitAck l f ⟨0, 0, 1, 0, 0⟩, .lctlDrain l f 0, .lctlDrainDone l f, .lctlGoodbye l f 0]
       →
     (4 ≤ (s.link l.val).phase ∨ 2 ≤ (s.link l.val).state) →
     f.crcOk = false →
     exec c s = .next ((s.orReg .linkErr l.val 4).bumpReg .linkReplayCount l.val 32 1)) ∧
  (∀ (l : LinkIx) (f : FlitHead) (s : State),
     (4 ≤ (s.link l.val).phase ∨ 2 ≤ (s.link l.val).state) →
     (s.link l.val).state ≠ 4 →
     f.crcOk = true →
     ∃ t, exec (.flitIdle l f) s = .next t ∧ t.link l.val = (s.link l.val).take f s.now) ∧
  (∀ (l : LinkIx) (f : FlitHead) (packets : List FabPacket) (more : Bool) (s : State),
     2 ≤ (s.link l.val).state →
     f.crcOk = true →
     f.seq.val = (s.link l.val).expect →
     ∃ t, exec (.flitData l f packets more) s = .next t ∧ (t.link l.val).expect = ((s.link l.val).expect + 1) % 4096 ∧
       (t.link l.val).rx = (s.link l.val).rx ++ packets ∧ (t.link l.val).nak = none ∧ (t.link l.val).cut = more) ∧
  (∀ (l : LinkIx) (f : FlitHead) (s : State) (x : LinkB),
     (4 ≤ (s.link l.val).phase ∨ 2 ≤ (s.link l.val).state) →
     f.crcOk = true →
     x = (s.link l.val).take f s.now →
     x.held ≠ [] →
     x.held.any (fun h => decide (max 1 (fld (s.regN .linkCfg l.val) 19 16) ≤ h.replays + 1)) = false →
     (x.replayTimes.filter fun t => decide (s.now < t + 1000000)).length + 1 < max 1 (fld (s.regN .linkCfg l.val) 31 24)
       →
     ∃ t, exec (.flitNak l f) s = .next t ∧ (t.link l.val).state = (s.link l.val).state ∧ (t.link l.val).held =
       x.held.map (fun h => { h with sent := s.now, replays := h.replays + 1 })) ∧
  (∀ (l : LinkIx) (s : State) (n : Nat),
     (s.link l.val).nak = some n →
     ∃ t, exec (.nakRepeatTimer l) s = .next t ∧ (t.link l.val).nak = some t.now ∧ n + 1000 ≤ t.now ∧
       ∃ bl c1 c0, t.sent = s.sent ++ [.flit l.val (flitBytes 2 0 (s.link l.val).ack bl c1 c0 15 [])]) ∧
  (∀ (l : LinkIx) (s : State) (h : HeldFlit) (q : List HeldFlit),
     (s.link l.val).held = h :: q →
     (s.link l.val).held.any (fun h => decide (max 1 (fld (s.regN .linkCfg l.val) 19 16) ≤ h.replays + 1)) = false →
     (s.link l.val).replayTimes.length + 1 < max 1 (fld (s.regN .linkCfg l.val) 31 24) →
     ∃ t, exec (.replayTimeout l) s = .next t ∧ (t.link l.val).state = (s.link l.val).state ∧ (t.link l.val).held =
       (s.link l.val).held.map (fun h => { h with sent := t.now, replays := h.replays + 1 }) ∧ h.sent + max 1 (fld
       (s.regN .linkCfg l.val) 15 8) * 100 ≤ t.now) ∧
  (∀ (l : LinkIx) (s : State),
     (s.link l.val).beating = true →
     ∃ t bl c1 c0, exec (.heartbeatSend l) s = .next t ∧ t.sent = s.sent ++
       [.flit l.val (flitBytes 3 0 (s.link l.val).ack bl c1 c0 15 (s.heartbeat l.val))] ∧ t.mem = s.mem) ∧
  (∀ (l : LinkIx) (f : FlitHead) (i : LinkInit) (state : Fin 4) (s : State),
     (4 ≤ (s.link l.val).phase ∨ 2 ≤ (s.link l.val).state) →
     f.crcOk = true →
     ((s.link l.val).peerDev = i.device.toNat ∧ (s.link l.val).peerLink = i.link.val ∧ (s.link l.val).peerBoot =
       i.bootCount.toNat) →
     (s.link l.val).state ≠ 4 →
     ∃ t, exec (.flitHeartbeat l f i state) s = .next t ∧ (t.link l.val).beats = (s.link l.val).beats + 1 ∧ (t.link
       l.val).lastBeat = s.now ∧ (t.link l.val).state = (s.link l.val).state) ∧
  (∀ (l : LinkIx) (f : FlitHead) (i : LinkInit) (state : Fin 4) (s : State),
     (4 ≤ (s.link l.val).phase ∨ 2 ≤ (s.link l.val).state) →
     f.crcOk = true →
     (s.link l.val).peerValid = true →
     (s.link l.val).peerBoot ≠ i.bootCount.toNat →
     ∃ t, exec (.flitHeartbeat l f i state) s = .next t ∧ (t.link l.val).state = 0 ∧ (t.link l.val).cause = 3) ∧
  (∀ (l : LinkIx) (s : State),
     2 ≤ (s.link l.val).state →
     (s.link l.val).beating = true →
     ∃ t, exec (.heartbeatSilent l) s = .next t ∧ (t.link l.val).state = 0 ∧ (t.link l.val).cause = 2 ∧ (s.link
       l.val).lastBeat + 4000 ≤ t.now) ∧
  (∀ (l : LinkIx) (s : State),
     (s.link l.val).state ≠ 0 →
     ∃ t, exec (.linkSignalLoss l) s = .next t ∧ (t.link l.val).state = 0 ∧ (t.link l.val).cause = 1 ∧ (t.link
       l.val).held = [] ∧ (t.link l.val).egress = []) ∧
  (∀ (l : LinkIx) (f : FlitHead) (cause : W16) (s : State),
     (4 ≤ (s.link l.val).phase ∨ 2 ≤ (s.link l.val).state) →
     f.crcOk = true →
     ∃ t, exec (.lctlGoodbye l f cause) s = .next t ∧ (t.link l.val).state = 0 ∧ (t.link l.val).cause = 4 ∧ ((s.link
       l.val).peerValid = true → t.absentDevs.contains (s.link l.val).peerDev = true)) ∧
  (∀ (l : LinkIx) (f : FlitHead) (x : TimeSync) (s : State),
     (4 ≤ (s.link l.val).phase ∨ 2 ≤ (s.link l.val).state) →
     f.crcOk = true →
     ∃ t, exec (.flitTime l f x) s = .next t ∧ (t.link l.val).report = some (x.root.toNat, x.dist.toNat, x.errNs.toNat)
       ∧ (t.link l.val).peerTx = x.txTime ∧ (t.link l.val).peerRx = x.arrived)

/-- A link trains, meets its partner, is admitted, recalibrates and is configured. Cites R333, R336, R337, R338,
    R339, R340, R350, R353. -/
def Obligations.LinkStatesComplete : Prop :=
  (∀ (l : LinkIx) (s : State),
     s.linkMayTrain l.val = true →
     s.restarting 5 (l.val / 6) = false →
     ((s.link l.val).state = 0 ∧ (s.link l.val).cause = 0) →
     ∃ t, exec (.linkTraining l true) s = .next t ∧ (t.link l.val).state = 1 ∧ (t.link l.val).phase = 1) ∧
  (∀ (l : LinkIx) (s : State),
     s.linkMayTrain l.val = true →
     s.restarting 5 (l.val / 6) = false →
     (s.link l.val).state = 1 →
     (1 ≤ (s.link l.val).phase ∧ (s.link l.val).phase ≤ 3) →
     ∃ t, exec (.linkTraining l true) s = .next t ∧ (t.link l.val).state = 1 ∧ (t.link l.val).phase = (s.link
       l.val).phase + 1 ∧ ((s.link l.val).phase = 3 →
       ∃ bl c1 c0, t.sent = s.sent ++ [.flit l.val (flitBytes 5 0 (s.link l.val).ack bl c1 c0 15 (toBytes 1 1 ++ s.linkSelf l.val))])) ∧
  (∀ (l : LinkIx) (s : State),
     s.linkMayTrain l.val = true →
     s.restarting 5 (l.val / 6) = false →
     ((s.link l.val).state = 1 ∧ 1 ≤ (s.link l.val).phase ∧ (s.link l.val).phase ≤ 4) →
     ∃ t, exec (.linkTraining l false) s = .next t ∧ ((s.link l.val).failed < 2 → (t.link l.val).state = 1 ∧ (t.link
       l.val).phase = 1 ∧ (t.link l.val).failed = (s.link l.val).failed + 1) ∧ (2 ≤ (s.link l.val).failed → (t.link
       l.val).state = 0 ∧ (t.link l.val).cause = 9)) ∧
  (∀ (l : LinkIx) (s : State),
     s.linkMayTrain l.val = true →
     (s.link l.val).state = 0 →
     ∃ t, exec (.linkRetrainTimer l) s = .next t ∧ (t.link l.val).state = 1 ∧ (t.link l.val).phase = 1 ∧ (s.link
       l.val).downAt + 1000000000 ≤ t.now) ∧
  (∀ (l : LinkIx) (f : FlitHead) (i : LinkInit) (s : State),
     f.crcOk = true →
     ((s.link l.val).state = 1 ∧ (s.link l.val).phase = 4 ∧ (s.link l.val).gotAck = false) →
     (i.device ≠ s.devId ∧ i.version = 1) →
     ∃ t a bl c1 c0, exec (.lctlInit l f i) s = .next t ∧ (t.link l.val).peerDev = i.device.toNat ∧ (t.link l.val).peerLink
       = i.link.val ∧ (t.link l.val).peerValid = true ∧ (t.link l.val).gotInit = true ∧ (t.link l.val).state = 1 ∧ t.sent =
       s.sent ++ [.flit l.val (flitBytes 5 0 a bl c1 c0 15 (toBytes 1 2 ++ s.linkSelf l.val))]) ∧
  (∀ (l : LinkIx) (f : FlitHead) (i : LinkInit) (s : State),
     f.crcOk = true →
     ((s.link l.val).state = 1 ∧ (s.link l.val).phase = 4 ∧ (s.link l.val).gotInit = false) →
     (i.device ≠ s.devId ∧ i.version = 1) →
     ∃ t, exec (.lctlInitAck l f i) s = .next t ∧ (t.link l.val).peerDev = i.device.toNat ∧ (t.link l.val).gotAck = true ∧
       (t.link l.val).state = 1 ∧ (t.link l.val).expect = 0 ∧ t.sent = s.sent) ∧
  (∀ (l : LinkIx) (f : FlitHead) (i : LinkInit) (s : State) (c : Instr),
     f.crcOk = true →
     ((s.link l.val).state = 1 ∧ (s.link l.val).phase = 4) →
     (i.device ≠ s.devId ∧ i.version = 1) →
     ((c = .lctlInit l f i ∧ (s.link l.val).gotAck = true) ∨ (c = .lctlInitAck l f i ∧ (s.link l.val).gotInit = true)) →
     ∃ t, exec c s = .next t ∧ (t.link l.val).peerDev = i.device.toNat ∧ (t.link l.val).state = 2 ∧
       (t.link l.val).phase = 5 ∧ (t.link l.val).epoch = ((s.link l.val).epoch + 1) % 2 ^ 16 ∧ (t.link l.val).expect = 0) ∧
  (∀ (who : Accessor) (l : LinkIx) (s : State),
     regWriter s 888 who = true →
     (s.link l.val).state = 2 →
     ∃ t, exec (.linkAdmit who l) s = .next t ∧ ((who ≠ .processor ∨ s.custom = true ∨ s.wiredRight l.val = true) →
       (t.link l.val).state = 3) ∧ (who = .processor → s.custom = false → s.wiredRight l.val = false → (t.link
       l.val).state = 2 ∧ t.fabric.wiringErr = true)) ∧
  (∀ (who : Accessor) (l : LinkIx) (s : State),
     regWriter s 888 who = true →
     (s.link l.val).state = 3 →
     ∃ t, exec (.linkRecalCtrl who l) s = .next t ∧ t.link l.val = { s.link l.val with recalAsked := true, recalSoft := true }) ∧
  (∀ (l : LinkIx) (corrected uncorrected : Nat) (s : State),
     (s.link l.val).state = 3 →
     2 ^ fld (s.regN .linkCfg l.val) 39 32 ≤ corrected →
     (corrected < 2 ^ 32 ∧ uncorrected < 2 ^ 32) →
     ∃ t, exec (.linkRecalRequest l corrected uncorrected) s = .next t ∧ (t.link l.val).recalAsked = true ∧ t.regN
       .linkFecCount l.val % 2 ^ 32 = (s.regN .linkFecCount l.val + corrected) % 2 ^ 32 ∧ t.regN .linkFecCount l.val / 2
       ^ 32 = (s.regN .linkFecCount l.val / 2 ^ 32 + uncorrected) % 2 ^ 32) ∧
  (∀ (l : LinkIx) (f : FlitHead) (reason : Byte) (s : State),
     f.crcOk = true →
     (s.link l.val).state = 3 →
     ∃ t, exec (.lctlDrain l f reason) s = .next t ∧ (t.link l.val).recalAsked = true ∧ (t.link l.val).state = 3) ∧
  (∀ (l : LinkIx) (s : State),
     ((s.link l.val).state = 3 ∧ (s.link l.val).recalAsked = true) →
     s.otherRecal l.val = false →
     s.restarting 5 (l.val / 6) = false →
     ∃ t, exec (.linkRecalGrant l) s = .next t ∧ (t.link l.val).egress = [] ∧ ((s.link l.val).held ≠ [] → (t.link
       l.val).state = 4 ∧ ∃ bl c1 c0, t.sent = s.sent ++
       [.flit l.val (flitBytes 5 0 (s.link l.val).ack bl c1 c0 15 (toBytes 1 3 ++ toBytes 1 (b2n (s.link l.val).recalSoft)))]) ∧
       ((s.link l.val).held = [] → (s.link l.val).donePeer = false → (t.link l.val).state = 4 ∧ (t.link l.val).doneSent = true)
       ∧ ((s.link l.val).held = [] → (s.link l.val).donePeer = true → (t.link l.val).state = 5)) ∧
  (∀ (l : LinkIx) (f : FlitHead) (s : State),
     f.crcOk = true →
     (s.link l.val).state = 4 →
     ((s.link l.val).take f s.now).held = [] →
     ∃ t, exec (.lctlDrainDone l f) s = .next t ∧ (t.link l.val).state = 5 ∧ (t.link l.val).retrained = false ∧ ((s.link
       l.val).doneSent = true → t.sent = s.sent) ∧ ((s.link l.val).doneSent = false → ∃ a bl c1 c0, t.sent = s.sent ++
       [.flit l.val (flitBytes 5 0 a bl c1 c0 15 (toBytes 1 4))])) ∧
  (∀ (l : LinkIx) (ok : Bool) (s : State),
     ((s.link l.val).state = 5 ∧ (s.link l.val).retrained = false) →
     ∃ t, exec (.linkRecalRetrainEnd l ok) s = .next t ∧ (ok = true → (t.link l.val).state = 5 ∧ (t.link
       l.val).retrained = true ∧ (t.link l.val).expect = 0 ∧ ∃ a bl c1 c0, t.sent = s.sent ++
       [.flit l.val (flitBytes 5 0 a bl c1 c0 15 (toBytes 1 1 ++ s.linkSelf l.val))]) ∧ (ok = false → (t.link l.val).state = 0 ∧ (t.link
       l.val).cause = 9)) ∧
  (∀ (l : LinkIx) (s : State),
     ((s.link l.val).state = 5 ∧ (s.link l.val).retrained = true ∧ (s.link l.val).gotInit = true ∧ (s.link l.val).gotAck =
       true) →
     ∃ t, exec (.linkRecalResume l) s = .next t ∧ (t.link l.val).state = 3 ∧ (t.link l.val).retrained = false ∧ bitOf
       (t.regN .linkErr l.val) 4 = true) ∧
  (∀ (who : Accessor) (l : LinkIx) (value : W64) (s : State),
     regWriter s 888 who = true →
     ∃ t, exec (.linkCfgWrite who l value) s = .next t ∧ t.reg .linkCfg l.val = RegName.linkCfg.written (s.reg .linkCfg
       l.val) value ∧ (bitOf value.toNat 0 = false → (t.link l.val).state = 0 ∧ (t.link l.val).cause = 8) ∧ (bitOf
       value.toNat 0 = true → t.links = s.links))

/-- Packets find their links, tables switch, absence is probed and time is kept. Cites R345, R354, R355, R356, R364,
    R365, R366. -/
def Obligations.FabricComplete : Prop :=
  (∀ (p q : FabPacket) (s : State) (k : Nat) (alt : Bool),
     (p.dstDev ≠ s.devId ∧ p.body.length + 16 = azBytes p.header) →
     q = { p with srcDev := s.devId, fabTime := BitVec.ofNat 16 (s.now / 128), hops := 0, alt := false, tbank := s.fabric.active == 1 }
       →
     s.fabLookup q true = some (k, alt) →
     s.egressAdmits k q = true →
     ∃ t, exec (.porchPacketRoute (.depart p)) s = .next t ∧ (t.link k).egress = (s.link k).egress ++
       [({ q with alt := alt }, s.now)]) ∧
  (∀ (p q : FabPacket) (s : State),
     (p.dstDev ≠ s.devId ∧ p.body.length + 16 = azBytes p.header) →
     q = { p with srcDev := s.devId, fabTime := BitVec.ofNat 16 (s.now / 128), hops := 0, alt := false, tbank := s.fabric.active == 1 }
       →
     s.fabLookup q true = none →
     ∃ t, exec (.porchPacketRoute (.depart p)) s = .next t ∧ t.regN .fabDropCount 0 = (s.regN .fabDropCount 0 + 1) % 2 ^
       32 ∧ t.links = s.links) ∧
  (∀ (island : Fin 792) (tag : Fin 4096) (s : State) (q : Req),
     s.findReq island.val tag.val = some q →
     (island.val < 768 ∧ s.reqDevice q ≠ s.devId.toNat) →
     q.reissued = false →
     ∃ t, exec (.fabricReissue island tag) s = .next t ∧ t.findReq island.val tag.val = some { q with reissued := true }
       ∧ q.issued + 20000 ≤ t.now ∧ t.reqs.length = s.reqs.length ∧ t.sent = (s.sendReq { q with reissued := true }).sent) ∧
  (∀ (s : State),
     s.custom = false →
     s.fabDraining = false →
     ∃ t, exec .fabTableRebuild s = .next t ∧ t.fabric.active = 1 - s.fabric.active ∧ t.fabric.epoch = (s.fabric.epoch +
       1) % 2 ^ 16 ∧ t.links = s.links) ∧
  (∀ (who : Accessor) (s : State),
     ((∀ d, who ≠ .host d) → regWriter s 888 who = true) →
     (∀ d, who = .host d → s.custom = true) →
     exec (.fabCtrlSwitch who) s = .next { s with fabric := { s.fabric with active := 1 - s.fabric.active, epoch := (s.fabric.epoch + 1) % 2 ^ 16 } }) ∧
  (∀ (who : Accessor) (d : DevId) (s : State),
     ((∀ x, who ≠ .host x) → regWriter s 888 who = true) →
     s.absentDevs.contains d.toNat = true →
     ∃ t, exec (.fabAbsentClr who d) s = .next t ∧ t.absentDevs = s.absentDevs.filter (fun x => x != d.toNat) ∧
       Sent.flood 2 d.toNat ∈ t.sent) ∧
  (∀ (d : DevId) (s : State),
     s.lostPartner d.toNat = true →
     ∃ t, exec (.absentProbe d) s = .next t ∧ tget d.toNat t.fabric.probes = some s.now ∧ t.sent = s.sent ++
       [.probe d.toNat]) ∧
  (∀ (d : DevId) (s : State) (n : Nat),
     tget d.toNat s.fabric.probes = some n →
     ∃ t, exec (.absentProbeTimeout d) s = .next t ∧ t.absentDevs.contains d.toNat = true ∧ tget d.toNat t.fabric.probes
       = none ∧ n + 10000 ≤ t.now) ∧
  (∀ (l : LinkIx) (s : State),
     (s.link l.val).state = 3 →
     ∃ t bl c1 c0, exec (.timeFlitSend l) s = .next t ∧ t.sent = s.sent ++ [.flit l.val (flitBytes 4 0 (s.link l.val).ack bl
       c1 c0 15 (toBytes 8 s.now ++ toBytes 8 (s.link l.val).peerTx ++ toBytes 8 (s.link l.val).peerRx ++ toBytes 2
       s.fabric.time.root ++ toBytes 1 s.fabric.time.dist ++ toBytes 1 (b2n s.fabric.time.locked) ++ toBytes 2
       s.fabric.time.err))] ∧ t.fabric = s.fabric) ∧
  (∀ (s : State),
     s.fabric.time.locked = true →
     s.fabric.time.dist ≠ 0 →
     ∃ t, exec .timeParentLoss s = .next t ∧ t.fabric.time = { s.fabric.time with locked := false } ∧
       s.fabric.time.lastParent + 100000 ≤ t.now)

/-- A channel starts its program and performs its steps. Cites R262, R264, R266, R267, R268, R269, R272, R276, R278.
    -/
def Obligations.DumbwaiterStepsComplete : Prop :=
  (∀ (k : Fin 6176) (s : State) (p : DwProgram) (q : List DwProgram) (b : List Byte),
     (s.dw k.val).state = .idle →
     (s.dw k.val).queue = p :: q →
     (isDoorChan k.val = true ∨ s.dwLeavingOf k.val = false) →
     s.dwFetchRuns k.val p 0 16 = true →
     s.dwFetch k.val p 0 16 = some b →
     ∃ t, exec (.dwProgramStart k) s = .next t ∧ t.dw k.val = { queue := p :: q, state := .running, tag := numAt b 6 2, recAlways := bitOf (numAt b 0 8) 47 }
       ∧ t.mem = s.mem) ∧
  (∀ (k : Fin 6176) (s : State) (c : Instr) (n : Nat) (u : DwStep) (il : List (Place × Nat)) (rows : List DwRow) (ms :
       List DwMove),
     (c, n) ∈ [(Instr.dwMove k, 1), (.dwFill k, 2), (.dwGather k, 3), (.dwScatter k, 4)] →
     s.dwSteps k.val = true →
     s.dwStepAt k.val = some u →
     u.op = n →
     (u.badData k.val (s.dw k.val).program = false ∧ u.badAlign (s.dw k.val) = none) →
     s.indexPlaces k.val (s.dw k.val).program u (s.dw k.val) = .ok il →
     s.homesRun u.cls il = true →
     rows = u.rowList (s.dw k.val) (s.dwBytes k.val u (u.idxVa (s.dw k.val)) il) →
     s.dwRows k.val (s.dw k.val).program u rows = (ms, none) →
     s.homesRun u.cls (ms.flatMap fun m => m.src ++ m.dst) = true →
     (s.dw k.val).step < 255 →
     ∃ t, exec c s = .next t ∧ (t.dw k.val).step = (s.dw k.val).step + 1 ∧ (t.dw k.val).bytes = (s.dw k.val).bytes +
       (rows.filterMap DwRow.dst).length * u.rowBytes ∧ (t.dw k.val).ended = (s.dw k.val).ended ∧ (u.clash rows ms =
       [] → s.dwMovedKeys k.val (s.dw k.val).program u rows = [] → t.mem = ((s.dwNoteReads (il ++ ms.flatMap
       (·.src))).dwWriteRows (u.op == 4) ms).1.mem)) ∧
  (∀ (k : Fin 6176) (s : State) (u : DwStep) (n : Nat),
     s.dwSteps k.val = true →
     s.dwStepAt k.val = some u →
     u.op = 5 →
     (u.w 0 59 56 = 0 ∧ u.w 0 47 24 = 0 ∧ u.zeroFrom 4 = true) →
     (n = u.w 0 23 0 ∧ n ≠ 0) →
     u.w 0 55 48 < (s.dw k.val).step →
     (s.dw k.val).stack = [] →
     ∃ t, exec (.dwLoop k) s = .next t ∧ (2 ≤ n → (t.dw k.val).step = u.w 0 55 48 ∧ (t.dw k.val).stack =
       [((s.dw k.val).step, n - 1)] ∧ (t.dw k.val).srcAdj = (s.dw k.val).srcAdj + u.getD 1 0) ∧ (n = 1 → (s.dw
       k.val).step < 255 → (t.dw k.val).step = (s.dw k.val).step + 1 ∧ (t.dw k.val).stack = [] ∧ (t.dw k.val).srcAdj =
       (s.dw k.val).srcAdj)) ∧
  (∀ (k : Fin 6176) (s : State) (u : DwStep),
     s.dwSteps k.val = true →
     s.dwStepAt k.val = some u →
     u.op = 0 →
     (u.w 0 59 0 = 0 ∧ u.zeroFrom 1 = true) →
     ∃ t, exec (.endStep k) s = .next t ∧ (t.dw k.val).ended = some (b2n (bitOf (s.dw k.val).flags 1), 0) ∧ t.mem = s.mem) ∧
  (∀ (k : Fin 6176) (s : State) (u : DwStep) (x : Xlate) (y : Watched),
     s.dwSteps k.val = true →
     s.dwStepAt k.val = some u →
     u.op = 6 →
     (isDoorChan k.val = false ∧ u.w 0 59 51 = 0 ∧ u.w 0 47 0 = 0 ∧ u.w 0 50 48 ≤ 4 ∧ u.zeroFrom 3 = true) →
     wordN u 1 % 8 = 0 →
     s.translate (k.val / 8) (s.dw k.val).program.auth.noMxr .read .load (BitVec.ofNat 64 (wordN u 1)) = .ok x →
     watchPlace (k.val / 8) (s.placeFor (k.val / 8) x.pa 8) = some y →
     s.dwMoved k.val (s.dw k.val).program (wordN u 1) 8 = false →
     (s.dw k.val).step < 255 →
     ∃ t, exec (.dwWait k) s = .next t ∧ t.mem = s.mem ∧ (s.watchedPoison (k.val / 8) y = false → (dwCond (u.w 0 50
       48)).met (s.watchedValue (k.val / 8) y) (u.getD 2 0) = true → (t.dw k.val).state = .running ∧ (t.dw k.val).step =
       (s.dw k.val).step + 1) ∧ (s.watchedPoison (k.val / 8) y = false → (dwCond (u.w 0 50 48)).met (s.watchedValue
       (k.val / 8) y) (u.getD 2 0) = false → (t.dw k.val).state = .waiting ∧ (t.dw k.val).step = (s.dw k.val).step)) ∧
  (∀ (k : Fin 6176) (s : State) (y : Watch),
     (s.dw k.val).state = .waiting →
     (s.dw k.val).watch = some y →
     y.found = true →
     (s.dw k.val).step < 255 →
     ∃ t, exec (.dwWaitMet k) s = .next t ∧ (t.dw k.val).state = .running ∧ (t.dw k.val).watch = none ∧ (t.dw
       k.val).step = (s.dw k.val).step + 1) ∧
  (∀ (k : Fin 6176) (s : State) (y : Watch) (n : Nat),
     (s.dw k.val).state = .waiting →
     (s.dw k.val).watch = some y →
     (s.dw k.val).deadline = some n →
     y.found = false →
     ∃ t, exec (.dwWaitTimeout k) s = .next t ∧ (t.dw k.val).state = .running ∧ (t.dw k.val).ended = some (0x15, 0) ∧ n
       ≤ t.now) ∧
  (∀ (k : Fin 6176) (s : State) (u : DwStep) (r o : Nat) (l : List Byte),
     s.dwSteps k.val = true →
     s.dwStepAt k.val = some u →
     u.op = 7 →
     (u.w 0 59 59 = 0 ∧ u.w 0 55 50 = 0 ∧ u.w 0 47 0 = 0 ∧ u.w 0 49 48 ≠ 3 ∧ u.badClass k.val (s.dw k.val).program =
       false ∧ u.zeroFrom 3 = true) →
     wordN u 1 % 8 = 0 →
     s.dwPlaces k.val (s.dw k.val).program true (wordN u 1) 8 = .ok [(.pantry r o, 8)] →
     s.dwPantryVa k.val (s.dw k.val).program (wordN u 1) = true →
     s.dwMoved k.val (s.dw k.val).program (wordN u 1) 8 = false →
     s.memRead (.pantry r o) 8 = .data l →
     (s.dw k.val).step < 255 →
     ∃ t, exec (.dwSignal k) s = .next t ∧ t.mem = (s.memWrite (.pantry r o) (toBytes 8 (homeNew (dwSignalOp (u.w 0 49
       48) (u.getD 2 0)) (ofBytes l)).1)).mem ∧ (t.dw k.val).step = (s.dw k.val).step + 1)

/-- Programs end with their record and count; a channel is flushed and restarted. Cites R270, R271, R278, R279. -/
def Obligations.DumbwaiterProgramsEnd : Prop :=
  (∀ (k : Fin 6176) (s : State) (st va : Nat),
     (s.dw k.val).ended = some (st, va) →
     st ≤ 1 →
     isDoorChan k.val = false →
     tgetD s.dwOrder (k.val / 8) [] = [] →
     s.dwRingFull (k.val / 8) = false →
     ∃ t, exec (.dwProgramComplete k) s = .next t ∧ (t.dw k.val).queue = (s.dw k.val).queue.drop 1 ∧ (t.dw k.val).state
       = .idle ∧ t.regN .dwDoneCount k.val = (s.regN .dwDoneCount k.val + 1) % 2 ^ 32) ∧
  (∀ (k : Fin 6176) (s : State) (st va : Nat) (e : Desc),
     (s.dw k.val).ended = some (st, va) →
     st ≤ 1 →
     isDoorChan k.val = true →
     s.descs.find? (fun x => x.id == (s.dw k.val).program.job) = some e →
     ∃ t, exec (.dwProgramComplete k) s = .next t ∧ (t.dw k.val).queue = (s.dw k.val).queue.drop 1 ∧ (t.dw
       k.val).writing = true ∧ (t.completions.getLast?.map fun c => (c.status, c.d0, c.chan)) = some (st, (s.dw k.val).bytes,
       some k.val)) ∧
  (∀ (k : Fin 6176) (s : State) (st va : Nat),
     (s.dw k.val).ended = some (st, va) →
     (0x10 ≤ st ∧ st < 0x30) →
     isDoorChan k.val = false →
     tgetD s.dwOrder (k.val / 8) [] = [] →
     s.dwRingFull (k.val / 8) = false →
     ∃ t, exec (.dwProgramError k) s = .next t ∧ (t.dw k.val).queue = (s.dw k.val).queue.drop 1 ∧ (t.dw k.val).state =
       .halted ∧ t.regN .dwDoneCount k.val = (s.regN .dwDoneCount k.val + 1) % 2 ^ 32 ∧ (s.ceWindows = [] →
       t.ceWindows.length = 1)) ∧
  (∀ (r : RoomIx) (value : W64) (s : State),
     ∃ t, exec (.dwCqConsWrite r value) s = .next t ∧ t.regN .dwCqCons r.val = value.toNat % 65536) ∧
  (∀ (r : RoomIx) (value : W64) (s : State),
     (List.range 8).all (fun c => (s.dw (r.val * 8 + c)).state == .idle) = true →
     (value.toNat % 2 ^ 23 + 2 ^ max 4 (min 12 (fld (s.regN .dwCqCfg r.val) 3 0)) * 32 ≤ pantrySize ∧ value.toNat % 32 =
       0) →
     exec (.dwCqCfgWrite r true value) s = .next (s.writeReg .dwCqBase r.val value)) ∧
  (∀ (r : RoomIx) (value : W64) (s : State),
     (List.range 8).all (fun c => (s.dw (r.val * 8 + c)).state == .idle) = true →
     s.regN .dwCqBase r.val + 2 ^ max 4 (min 12 (fld value.toNat 3 0)) * 32 ≤ pantrySize →
     exec (.dwCqCfgWrite r false value) s = .next (s.writeReg .dwCqCfg r.val value)) ∧
  (∀ (r : RoomIx) (c : Fin 8) (s : State),
     tgetD s.dwOrder r.val [] = [] →
     bitOf (s.regN .dwCqCfg r.val) 9 = false →
     (s.dw (r.val * 8 + c.val)).queue.length ≤ 4 →
     ∃ t, exec (.dwFlush r c) s = .next t ∧ (t.dw (r.val * 8 + c.val)).queue = [] ∧ (t.dw (r.val * 8 + c.val)).state =
       .idle ∧ t.regN .dwDoneCount (r.val * 8 + c.val) = (s.regN .dwDoneCount (r.val * 8 + c.val) + (s.dw (r.val * 8 +
       c.val)).queue.length) % 2 ^ 32) ∧
  (∀ (r : RoomIx) (c : Fin 8) (s : State),
     ∃ t, exec (.dwRestart r c) s = .next t ∧ t.dw (r.val * 8 + c.val) =
       { s.dw (r.val * 8 + c.val) with state := if (s.dw (r.val * 8 + c.val)).state = .halted then .idle else (s.dw (r.val * 8 + c.val)).state }
       ∧ t.mem = s.mem)

/-- The tree unit queues, runs, refuses and flushes commands. Cites R241, R246, R250, R258, R259, R539. -/
def Obligations.TreeCommandsComplete : Prop :=
  (∀ (h : HartId) (value : W64) (s : State) (o : Nat),
     o = fld value.toNat 22 0 →
     (s.tree h.room.val).queue.length < 8 →
     (o % 64 = 0 ∧ o + 64 ≤ pantrySize) →
     s.freshRanges (hkey h) = [] →
     ∃ t, exec (.treeSubmit h value) s = .next t ∧ ((t.tree h.room.val).queue.getLast?.map (·.words)) = some
       ((List.range 8).map fun j => BitVec.ofNat 64 (ofBytes (s.bytesAt (pantryKey h.room.val o + 8 * j) 8))) ∧ (t.tree
       h.room.val).queue.length = (s.tree h.room.val).queue.length + 1) ∧
  (∀ (h : HartId) (value : W64) (s : State),
     (8 ≤ (s.tree h.room.val).queue.length ∨ fld value.toNat 22 0 % 64 ≠ 0 ∨ pantrySize < fld value.toNat 22 0 + 64) →
     ∃ t, exec (.treeSubmit h value) s = .next t ∧ (t.tree h.room.val).queue = (s.tree h.room.val).queue ∧ bitOf (t.regN
       .treeErr h.room.val) 1 = true) ∧
  (∀ (r : RoomIx) (s : State) (i : Instr) (op : Nat) (c : TreeCmd) (q : List TreeCmd),
     (i, op) ∈ [(Instr.treeOpen r, 1), (.treeClose r, 2), (.treePrep r, 3), (.treeKvput r, 4), (.treeTopk r, 5), (.treeAccept r, 6), (.treeCommit r, 7), (.treeRollback r, 8)]
       →
     (s.tree r.val).queue = c :: q →
     (c.op = op ∧ c.poisoned = false ∧ c.check = 0 ∧ q.all (fun x => !x.aborted) = true) →
     (s.treeHeld r.val c = false ∧ s.treeOpen r.val c = true) →
     s.treeTodo r.val c ≠ 0 →
     ∃ t, exec i s = .next t ∧ (t.tree r.val).queue = q ∧ t.regN .treeDoneCount r.val = (s.regN .treeDoneCount r.val +
       1) % 2 ^ 32 ∧ t.mem = ((s.treePart r.val c c.count).1.treeFinish r.val c (treeStatus (s.treePart r.val c
       c.count).2) (c.failed (s.treePart r.val c c.count).2)).mem) ∧
  (∀ (r : RoomIx) (s : State) (i : Instr) (op : Nat) (c : TreeCmd) (q : List TreeCmd),
     (i, op) ∈ [(Instr.treeOpen r, 1), (.treeClose r, 2), (.treePrep r, 3), (.treeKvput r, 4), (.treeAccept r, 6), (.treeCommit r, 7), (.treeRollback r, 8)]
       →
     (s.tree r.val).queue = c :: q →
     (c.op = op ∧ c.poisoned = false ∧ c.check = 0 ∧ q.all (fun x => !x.aborted) = true) →
     (s.treeHeld r.val c = false ∧ s.treeOpen r.val c = true) →
     s.treeTodo r.val c = 0 →
     ∃ t, exec i s = .next t ∧ (t.tree r.val).queue = q ∧ bitOf (t.regN .treeErr r.val) 2 = true ∧ t.mem = ((s.treeNote
       r.val c).treeFinish r.val c 0x23 0).mem) ∧
  (∀ (r : RoomIx) (s : State) (i : Instr) (op : Nat) (c : TreeCmd) (q : List TreeCmd),
     (i, op) ∈ [(Instr.treeOpen r, 1), (.treeClose r, 2), (.treePrep r, 3), (.treeKvput r, 4), (.treeTopk r, 5), (.treeAccept r, 6), (.treeCommit r, 7), (.treeRollback r, 8)]
       →
     (s.tree r.val).queue = c :: q →
     (c.op = op ∧ c.poisoned = false ∧ q.all (fun x => !x.aborted) = true) →
     c.check ≠ 0 →
     s.treeHeld r.val c = false →
     ∃ t, exec i s = .next t ∧ (t.tree r.val).queue = q ∧ bitOf (t.regN .treeErr r.val) 0 = true ∧ t.mem = (s.treeFinish
       r.val c c.check 0).mem) ∧
  (∀ (r : RoomIx) (s : State),
     (s.tree r.val).queue.length ≤ 8 →
     ∃ t, exec (.treeFlush r) s = .next t ∧ (t.tree r.val).queue = [] ∧ bitOf (t.regN .treeErr r.val) 3 = true ∧ t.regN
       .treeDoneCount r.val = (s.regN .treeDoneCount r.val + (s.tree r.val).queue.length) % 2 ^ 32)

/-- What one list entry of a tree command does to the table entry that it names. Cites R245, R247, R254, R255, R256.
    -/
def Obligations.TreeEntriesFollowTheirState : Prop :=
  (∀ (s : State) (r : Nat) (c : TreeCmd) (e : TreeEntry) (p : Place) (l : List Byte),
     e.seq < 1048576 →
     s.seqBytes r c.auth (c.seqVa e) = some (p, l) →
     c.op = 1 →
     ((parseSeq l).state = 0 → s.seqWrites r c.auth (c.seqVa e) = true → s.treeOne r c e = (s.memWrite p (opened l (nextSeqEpoch (parseSeq l).epoch) e.arg), 0,
       nextSeqEpoch (parseSeq l).epoch)) ∧ ((parseSeq l).state = 0 → s.seqWrites r c.auth
       (c.seqVa e) = false → s.treeOne r c e = (s, 4, e.epoch)) ∧ ((parseSeq l).state ≠ 0 → s.treeOne r c e = (s, 1, e.epoch)))
       ∧
  (∀ (s : State) (r : Nat) (c : TreeCmd) (e : TreeEntry) (p : Place) (l : List Byte),
     e.seq < 1048576 →
     s.seqBytes r c.auth (c.seqVa e) = some (p, l) →
     (2 ≤ c.op ∧ c.op ≤ 8 ∧ c.op ≠ 5) →
     ((parseSeq l).epoch ≠ e.epoch ∨ (parseSeq l).state = 0) →
     s.treeOne r c e = (s, 1, e.epoch)) ∧
  (∀ (s : State) (r : Nat) (c : TreeCmd) (e : TreeEntry) (p : Place) (l : List Byte),
     e.seq < 1048576 →
     s.seqBytes r c.auth (c.seqVa e) = some (p, l) →
     ((parseSeq l).epoch = e.epoch ∧ (parseSeq l).state = 1) →
     s.seqWrites r c.auth (c.seqVa e) = true →
     (c.op = 2 → s.treeOne r c e = (s.memWrite p (patchBytes l 6 (toBytes 2 0)), 0, e.epoch)) ∧ (c.op = 8 → bitOf
       e.flags 1 = false → s.treeOne r c e = (s.memWrite p (patchBytes l 6 (toBytes 1 1 ++ toBytes 1 0)), 0, e.epoch))) ∧
  (∀ (s : State) (r : Nat) (c : TreeCmd) (e : TreeEntry),
     1048576 ≤ e.seq →
     s.treeOne r c e = (s, 6, e.epoch)) ∧
  (∀ (s : State) (r : Nat) (c : TreeCmd) (p : Place) (writes : Bool) (b : List Byte) (q : SeqEntry) (e : TreeEntry),
     descPlaced e.treeOff = true →
     s.rangePoisoned (pantryKey r e.treeOff) 16 = false →
     ((s.treeDesc r e.treeOff).accDepth ≠ 0 ∧ (s.treeDesc r e.treeOff).accDepth = popCount 64 (s.treeDesc r
       e.treeOff).accMask ∧ (s.treeDesc r e.treeOff).accMask % 2 = 1 ∧ (c.lhCount = 0 ∨ (s.treeDesc r e.treeOff).accMask
       / 2 ^ q.prov = 0)) →
     (q.len = ((s.treeDesc r e.treeOff).baseLen + (s.treeDesc r e.treeOff).accDepth) % 2 ^ 32 ∧ lastBaseLen b =
       (s.treeDesc r e.treeOff).baseLen ∧ lastMask b = (s.treeDesc r e.treeOff).accMask) →
     s.treeCommit r c p writes b q e = (s, 2))

/-- Ring registers, doorbells and the door control register do as their rules say. Cites R372, R376, R377, R378,
    R379, R387, R388, R394. -/
def Obligations.RingRegistersComplete : Prop :=
  (∀ (who : Accessor) (ring : Fin 1024) (value : W64) (s : State),
     doorWriter s who = true →
     ((s.sq ring.val).open = true ∧ (s.sq ring.val).enable = false) →
     bitOf value.toNat 63 = true →
     ∃ t, exec (.sqCfgWrite who ring value) s = .next t ∧ (t.sq ring.val).priv = bitOf value.toNat 62 ∧ (t.sq
       ring.val).owner = fld value.toNat 61 61 ∧ (t.sq ring.val).sizeLog2 = fld value.toNat 60 56 ∧ (t.sq ring.val).cq =
       fld value.toNat 49 40 ∧ (t.sq ring.val).weight = fld value.toNat 39 32 ∧ (t.sq ring.val).enable = true ∧ (t.sq
       ring.val).head = 0 ∧ (t.sq ring.val).tail = 0 ∧ ((t.sq ring.val).state, (t.sq ring.val).cause) = (if (s.cq (fld
       value.toNat 49 40)).enable = false then (.stopped, 4) else if (s.cq (fld value.toNat 49 40)).owner ≠ fld
       value.toNat 61 61 then (.stopped, 3) else (.running, 0))) ∧
  (∀ (who : Accessor) (ring : Fin 1024) (value : W64) (s : State),
     doorWriter s who = true →
     (s.sq ring.val).enable = true →
     bitOf value.toNat 63 = false →
     s.descs.any (fun x => x.sq == ring.val) = false →
     ∃ t, exec (.sqCfgWrite who ring value) s = .next t ∧ (t.sq ring.val).enable = false ∧ (t.sq ring.val).state =
       .disabled ∧ (t.sq ring.val).head = (s.sq ring.val).head ∧ (t.sq ring.val).tail = (s.sq ring.val).tail) ∧
  (∀ (who : Accessor) (ring : Fin 1024) (value : W64) (s : State),
     doorWriter s who = true →
     ∃ t, exec (.cqCfgWrite who ring value) s = .next t ∧ (t.cq ring.val).enable = bitOf value.toNat 63 ∧ (t.cq
       ring.val).owner = fld value.toNat 61 61 ∧ (t.cq ring.val).sizeLog2 = fld value.toNat 60 56 ∧ (t.cq
       ring.val).vector = fld value.toNat 41 32 ∧ (t.cq ring.val).irqEn = bitOf value.toNat 31 ∧ (t.cq
       ring.val).coalCount = fld value.toNat 23 16 ∧ (t.cq ring.val).coalTime = fld value.toNat 15 0 ∧ (t.cq
       ring.val).head = (if bitOf value.toNat 63 && !(s.cq ring.val).enable then 0 else (s.cq ring.val).head) ∧ (t.cq
       ring.val).tail = (if bitOf value.toNat 63 && !(s.cq ring.val).enable then 0 else (s.cq ring.val).tail)) ∧
  (∀ (who : Accessor) (d : DoorIx) (value : W64) (s : State),
     doorWriter s who = true →
     ∃ t, exec (.doorCtrlWrite who d value) s = .next t ∧ bitOf (t.regN .doorCtrl d.val) 63 = bitOf value.toNat 63 ∧ fld
       (t.regN .doorCtrl d.val) 31 16 = fld value.toNat 31 16 ∧ fld (t.regN .doorCtrl d.val) 9 0 = fld value.toNat 9 0) ∧
  (∀ (who : Accessor) (ring : Fin 1024) (value : W64) (d : DoorIx) (s : State) (c : Instr),
     doorWriter s who = false →
     c ∈ [Instr.sqCfgWrite who ring value, .cqCfgWrite who ring value, .doorCtrlWrite who d value, .doorRelease who d, .doorAdopt who d ring]
       →
     exec c s = .next s) ∧
  (∀ (d : DoorIx) (ring : Fin 1024) (value : W32) (s : State),
     (s.sq ring.val).owner = d.val →
     ((s.sq ring.val).state = .running ∧ (s.sq ring.val).enable = true) →
     ((value.toNat + 2 ^ 32 - (s.sq ring.val).head) % 2 ^ 32 ≤ ringSize (s.sq ring.val).sizeLog2 → ∃ t, exec (.sqTail d
       ring value) s = .next t ∧ t.sq ring.val = { s.sq ring.val with tail := value.toNat, limit := s.sqLimit (s.sq ring.val) value.toNat }
       ∧ (((s.sq ring.val).limit + 2 ^ 32 - (s.sq ring.val).head) % 2 ^ 32 ≤ (value.toNat + 2 ^ 32 - (s.sq
       ring.val).head) % 2 ^ 32 → s.sqLimit (s.sq ring.val) value.toNat = value.toNat)) ∧ (ringSize (s.sq
       ring.val).sizeLog2 < (value.toNat + 2 ^ 32 - (s.sq ring.val).head) % 2 ^ 32 → (s.sq ring.val).behind value.toNat
       = false → ∃ t, exec (.sqTail d ring value) s = .next t ∧ t.sq ring.val =
       { s.sq ring.val with tail := value.toNat, limit := (s.sq ring.val).head, state := .stopped, cause := 1 } ∧ bitOf
       (t.regN .doorErr d.val) 4 = true)) ∧
  (∀ (d : DoorIx) (ring : Fin 1024) (value : W32) (s : State),
     (s.sq ring.val).owner ≠ d.val →
     exec (.sqTail d ring value) s = .next (s.orReg .doorErr d.val 4)) ∧
  (∀ (d : DoorIx) (ring : Fin 1024) (value : W32) (s : State),
     (s.cq ring.val).owner = d.val →
     (value.toNat + 2 ^ 32 - (s.cq ring.val).head) % 2 ^ 32 ≤ (s.cq ring.val).pending →
     ∃ t, exec (.cqHead d ring value) s = .next t ∧ (t.cq ring.val).head = value.toNat ∧ (t.cq ring.val).tail = (s.cq
       ring.val).tail) ∧
  (∀ (d : DoorIx) (ring : Fin 1024) (value : W32) (s : State),
     ((s.cq ring.val).owner ≠ d.val ∨ (s.cq ring.val).pending < (value.toNat + 2 ^ 32 - (s.cq ring.val).head) % 2 ^ 32) →
     exec (.cqHead d ring value) s = .next (s.orReg .doorErr d.val (if (s.cq ring.val).owner ≠ d.val then 4 else 2)))

/-- Descriptors are fetched, started and completed as their opcodes say. Cites R89, R380, R381, R383, R384, R385,
    R386. -/
def Obligations.DescriptorsComplete : Prop :=
  (∀ (d : DoorIx) (s : State) (q : Nat),
     s.nextRing d.val = some q →
     ((s.door d.val).hostUp = true ∧ (s.door d.val).down = false ∧ s.therm.stop = 0 ∧ s.doorOutstanding d.val < 4096) →
     (∃ t, exec (.descriptorFetch d .ok) s = .next t ∧ t.descs = s.descs ++ [⟨s.nextDesc, q, s.nextWords q, false⟩] ∧
       t.sq q = { s.sq q with head := ((s.sq q).head + 1) % 2 ^ 32 } ∧ t.mem = s.mem) ∧ (∃ t, exec (.descriptorFetch d
       .error) s = .next t ∧ t.descs = s.descs ∧ t.sq q = { s.sq q with state := .stopped, cause := 2 })) ∧
  (∀ (id : Nat) (s : State) (e : Desc),
     s.startable id = some e →
     (e.opcode ≠ 1 ∧ e.opcode ≠ 2 ∧ e.opcode ≠ 0x10) →
     ∃ t, exec (.descNop id) s = .next t ∧ t.descs = s.descs.filter (fun x => x.id != id) ∧ t.completions =
       s.completions ++ [⟨e.sq, e.opcode, e.words.getD 1 0, if e.opcode ≠ 0 then 0x10 else if e.reserved = 0 ∧ fld (wordN e.words 0) 63 16 = 0 ∧ e.zero [2, 3, 4, 5, 6, 7] = true then 0 else 0x11, 0, 0, false, none⟩]) ∧
  (∀ (id : Nat) (s : State) (e : Desc),
     s.startable id = some e →
     e.opcode = 1 →
     (s.jobCheck e ≠ 0 → ∀ f, ∃ t, exec (.descJob id f) s = .next t ∧ t.completions = s.completions ++
       [⟨e.sq, 1, e.words.getD 1 0, s.jobCheck e, 0, 0, false, none⟩] ∧ t.harts = s.harts) ∧ (s.jobCheck e = 0 → s.homeRuns 6
       (s.jobListPlace e) (2 * jobRooms e) = true → ∃ t, exec (.descJob id .error) s = .next t ∧ t.completions = s.completions ++
       [⟨e.sq, 1, e.words.getD 1 0, 0x13, 0, 0, false, none⟩] ∧ t.harts = s.harts) ∧ (∀ l, s.jobCheck e = 0 → s.homeRuns 6 (s.jobListPlace e) (2 *
       jobRooms e) = true → s.jobList e = some l → ∃ t, exec (.descJob id .ok) s = .next t ∧ t.completions = s.completions ∧ t.jobs = s.jobs ++
       [⟨e.id, ((s.startDesc e.id).startThreads e l).2⟩] ∧ t.harts = ((s.startDesc e.id).startThreads e l).1.harts)) ∧
  (∀ (id : Nat) (s : State) (j : Job) (e : Desc),
     s.jobs.find? (fun x => x.id == id) = some j →
     j.threads.all (fun x => x != .running) = true →
     s.descs.find? (fun x => x.id == id) = some e →
     ∃ t, exec (.jobComplete id) s = .next t ∧ t.completions = s.completions ++
       [⟨e.sq, e.opcode, e.words.getD 1 0, j.done.1, j.done.2.1, j.done.2.2, false, none⟩] ∧ t.jobs = s.jobs.filter (fun x =>
       x.id != id)) ∧
  (∀ (id : Nat) (s : State) (e : Desc) (c : Nat),
     s.startable id = some e →
     e.opcode = 2 →
     s.dmaCheck e = 0 →
     s.freeChannel (s.sq e.sq).owner = some c →
     ∃ t, exec (.descDma id) s = .next t ∧ (t.dw (doorChan (s.sq e.sq).owner c)).queue =
       [{ addr := wordN e.words 2, job := id, limits := (s.sq e.sq).limits }] ∧ t.completions = s.completions) ∧
  (∀ (id : Nat) (s : State) (e : Desc),
     s.startable id = some e →
     e.opcode = 2 →
     s.dmaCheck e ≠ 0 →
     ∃ t, exec (.descDma id) s = .next t ∧ t.completions = s.completions ++
       [⟨e.sq, 2, e.words.getD 1 0, s.dmaCheck e, 0, 0, false, none⟩] ∧ t.dws = s.dws) ∧
  (∀ (id : Nat) (s : State) (e : Desc),
     s.startable id = some e →
     e.opcode = 0x10 →
     ((s.sq e.sq).priv = false ∨ mgmtFields e.words = false → ∃ t, exec (.descMgmt id) s = .next t ∧ t.completions =
       s.completions ++ [⟨e.sq, 0x10, e.words.getD 1 0, if (s.sq e.sq).priv = false then 0x12 else 0x11, 0, 0, false, none⟩] ∧
       t.live = s.live) ∧ ((s.sq e.sq).priv = true → mgmtFields e.words = true → ∃ t, exec (.descMgmt id) s = .next t ∧
       t.live.cmds = s.live.cmds ++ [mgmtCmd id true (s.sq e.sq).owner e.words s.now] ∧ t.completions = s.completions))

/-- Completions and events are written to host memory with their phase, and vectors are sent. Cites R379, R382, R387,
    R388, R389, R394. -/
def Obligations.CompletionsAndEventsComplete : Prop :=
  (∀ (c : Fin 1024) (s : State) (x : Completion),
     s.completions.find? (s.leavesTo c.val) = some x →
     s.cqRoom c.val = true →
     ∃ t, exec (.completionWrite c) s = .next t ∧ t.completions = s.completions.erase x ∧ (t.cq c.val).tail = ((s.cq
       c.val).tail + 1) % 2 ^ 32 ∧ t.mem = placeBytes (hostKey (s.cq c.val).owner ((s.cq c.val).base + (s.cq c.val).tail
       % ringSize (s.cq c.val).sizeLog2 * 32)) (toBytes 8 x.tag.toNat ++ toBytes 8 (cqWord1 (if x.adopted then 0 else
       (s.sq x.sq).head) x.opcode x.status x.sq + (1 - (s.cq c.val).tail / ringSize (s.cq c.val).sizeLog2 % 2)) ++
       toBytes 8 x.d0 ++ toBytes 8 x.d1) s.mem) ∧
  (∀ (d : DoorIx) (s : State) (e : Event),
     (s.door d.val).nextEvent = some e →
     (bitOf (s.regN .doorCtrl d.val) 63 = true ∧ s.eventCqValid d.val = true) →
     s.cqRoom (s.eventCq d.val) = true →
     ∃ t, exec (.eventWrite d) s = .next t ∧ (t.door d.val).events = (s.door d.val).events.drop 1 ∧ (t.cq (s.eventCq
       d.val)).tail = ((s.cq (s.eventCq d.val)).tail + 1) % 2 ^ 32 ∧ t.mem = placeBytes (hostKey (s.cq (s.eventCq
       d.val)).owner ((s.cq (s.eventCq d.val)).base + (s.cq (s.eventCq d.val)).tail % ringSize (s.cq (s.eventCq
       d.val)).sizeLog2 * 32)) (toBytes 8 (s.door d.val).eventSeq ++ toBytes 8 (cqWord1 0 0xFF e.kind 0x3FF + (1 - (s.cq
       (s.eventCq d.val)).tail / ringSize (s.cq (s.eventCq d.val)).sizeLog2 % 2)) ++ toBytes 8 e.d0 ++ toBytes 8 e.d1)
       s.mem) ∧
  (∀ (c : Fin 1024) (s : State) (n : Nat) (l : List Nat),
     (s.cq c.val).written = n :: l →
     (s.cq c.val).coalTime ≠ 0 →
     ((s.cq c.val).irqEn = true ∧ (s.cq c.val).fired = false ∧ (s.cq c.val).pending ≠ 0) →
     ∃ t, exec (.msiXCoalesceTimer c) s = .next t ∧ n + (s.cq c.val).coalTime * 1000 ≤ t.now ∧ (t.cq c.val).fired = true
       ∧ (bitOf (s.regN .doorMsixCtl ((s.cq c.val).owner * 1024 + (s.cq c.val).vector)) 32 = false → t.sent = s.sent ++
       [.msix (s.cq c.val).owner (s.cq c.val).vector]) ∧ (bitOf (s.regN .doorMsixCtl ((s.cq c.val).owner * 1024 + (s.cq
       c.val).vector)) 32 = true → t.sent = s.sent ∧ (t.door (s.cq c.val).owner).msixPending = ninsert (s.cq
       c.val).vector (s.door (s.cq c.val).owner).msixPending))

/-- A host is lost, returns and adopts rings, and a door dies, as the rules say. Cites R369, R370, R371, R388, R389,
    R390, R391, R456, R494. -/
def Obligations.HostLossComplete : Prop :=
  (∀ (d : DoorIx) (s : State),
     ∃ t, exec (.perstN d) s = .next t ∧ t.pcieOf d.val = {} ∧ (t.door d.val).linkUp = false ∧ ((s.door d.val).hostLost
       = false → (t.door d.val).lostSince = some ((s.door d.val).lostSince.getD s.now)) ∧ t.sqs = s.sqs) ∧
  (∀ (d : DoorIx) (s : State),
     (s.door d.val).linkUp = true →
     ∃ t, exec (.hostLinkLoss d) s = .next t ∧ (t.door d.val).linkUp = false ∧ ((s.door d.val).hostLost = false →
       (t.door d.val).lostSince = some ((s.door d.val).lostSince.getD s.now)) ∧ t.sqs = s.sqs) ∧
  (∀ (d : DoorIx) (s : State) (n : Nat),
     (s.door d.val).lostSince = some n →
     ∃ t, exec (.hostLost d) s = .next t ∧ (t.door d.val).hostLost = true ∧ (t.door d.val).lostSince = none ∧ n + max 1
       (fld (s.regN .doorCtrl d.val) 31 16) * 1000000 ≤ t.now ∧ ∀ q < 1024, t.sq q = if (s.sq q).owner = d.val ∧ (s.sq
       q).state = .running then { s.sq q with state := .orphaned } else s.sq q) ∧
  (∀ (who : Accessor) (d : DoorIx) (s : State),
     doorWriter s who = true →
     ∃ t, exec (.doorRelease who d) s = .next t ∧ (t.door d.val).hostLost = true ∧ (t.door d.val).lostSince = none ∧ ∀ q
       < 1024, t.sq q = if (s.sq q).owner = d.val ∧ (s.sq q).state = .running then { s.sq q with state := .orphaned }
       else s.sq q) ∧
  (∀ (d : DoorIx) (s : State),
     s.pcieRuns d.val = true →
     ∃ t, exec (.dataLinkUp d) s = .next t ∧ t.door d.val = { s.door d.val with linkUp := true, lostSince := none, hostLost := false }
       ∧ t.sqs = s.sqs) ∧
  (∀ (who : Accessor) (d : DoorIx) (ring : Fin 1024) (s : State),
     doorWriter s who = true →
     (s.sq ring.val).open = true →
     ∃ t, exec (.doorAdopt who d ring) s = .next t ∧ (t.sq ring.val).owner = d.val ∧ (t.sq ring.val).head = 0 ∧ (t.sq
       ring.val).tail = 0 ∧ (t.sq ring.val).enable = true ∧ ((t.sq ring.val).state, (t.sq ring.val).cause) = (if (s.cq
       (s.sq ring.val).cq).enable = false then (.stopped, 4) else if (s.cq (s.sq ring.val).cq).owner ≠ d.val then
       (.stopped, 3) else (.running, 0))) ∧
  (∀ (who : Accessor) (d : DoorIx) (ring : Fin 1024) (s : State),
     doorWriter s who = true →
     (s.sq ring.val).open = false →
     exec (.doorAdopt who d ring) s = .next (s.orReg .doorErr d.val 8)) ∧
  (∀ (d : DoorIx) (s : State),
     (s.door d.val).down = false →
     ∃ t, exec (.doorDown d) s = .next t ∧ (t.door d.val).down = true ∧ t.sqs = s.sqs.filter (fun p => p.2.owner !=
       d.val) ∧ t.descs = s.descs.filter (fun x => (s.sq x.sq).owner != d.val) ∧ t.completions = s.completions.filter
       (fun x => (s.sq x.sq).owner != d.val)) ∧
  (∀ (d : DoorIx) (s : State) (i : Fin 16),
     (s.door d.val).linkUp = true →
     exec (.configRequest d (.readHeader i)) s = .next (if s.configReady then
       { s with pcies := tset d.val (s.pcieOf d.val) s.pcies, sent := s.sent ++ [.pcie d.val 0 (toBytes 4 (s.configHeader d.val i.val)) false] }
       else { s with sent := s.sent ++ [.pcie d.val 2 [] false] })) ∧
  (∀ (d : DoorIx) (s : State) (q : ConfigRequest),
     (s.door d.val).linkUp = true →
     s.configReady = true →
     ∃ t, exec (.configRequest d q) s = .next t ∧ t.pcieOf d.val = (s.pcieOf d.val).config q ∧ (q = .powerState true →
       (s.door d.val).hostLost = false → (t.door d.val).lostSince = some ((s.door d.val).lostSince.getD s.now)))

/-- Accesses through the BARs and writes of registers by address. Cites R372, R373, R374, R456, R525, R526. -/
def Obligations.BarAccessesComplete : Prop :=
  (∀ (a : BarAccess) (s : State),
     s.hostReaches a.door.val = true →
     a.data = none →
     (s.bar0Ok a.off a.len = true → strongroomBlock a.off = false → exec (.bar0Access a) s = .next
       { s with sent := s.sent ++ [.pcie a.door.val 0 (toBytes a.len (regPart (s.devReg (a.off / 8 * 8)) a.off a.len)) false] })
       ∧ (s.bar0Ok a.off a.len = false → ∃ t, exec (.bar0Access a) s = .next t ∧ bitOf (t.regN .doorErr a.door.val) 0 =
       true ∧ t.sent = s.sent ++ [.pcie a.door.val 1 [] false] ∧ t.mem = s.mem)) ∧
  (∀ (a : BarAccess) (s : State) (l : List Byte),
     s.hostReaches a.door.val = true →
     a.data = some l →
     (s.bar0Ok a.off l.length = true → strongroomBlock a.off = false → exec (.bar0Access a) s = .next (s.mmioWrite
       ⟨true, none⟩ (.devMmio a.off) l.length (ofBytes l))) ∧ (s.bar0Ok a.off l.length = false → exec (.bar0Access a) s
       = .next (s.orReg .doorErr a.door.val 1))) ∧
  (∀ (a : BarAccess) (s : State) (pa r o : Nat),
     (s.hostReaches a.door.val = true ∧ 8 ≤ s.boot.phase) →
     (a.data = none ∧ 0 < a.len ∧ a.len ≤ 4096) →
     s.aperture a.door.val a.off false = some pa →
     s.place pa a.len = .pantry r o →
     (s.doorReaches a.door.val = true → (s.room r).stalled = false → ∃ t, exec (.bar2Access a) s = .next t ∧ t.sent =
       s.sent ++
       [.pcie a.door.val 0 ((List.range a.len).map fun j => s.byteAt (pantryKey r (o + j))) ((List.range a.len).any fun j => s.wordPoisoned ((pantryKey r (o + j)) / 8 * 8))]
       ∧ t.mem = s.mem) ∧ (s.doorReaches a.door.val = false → ∃ t, exec (.bar2Access a) s = .next t ∧ t.sent = s.sent ++
       [.pcie a.door.val 1 [] false] ∧ bitOf (t.regN .doorErr a.door.val) 0 = true ∧ t.mem = s.mem)) ∧
  (∀ (a : BarAccess) (s : State) (pa r o : Nat) (l : List Byte),
     (s.hostReaches a.door.val = true ∧ 8 ≤ s.boot.phase) →
     (a.data = some l ∧ 0 < l.length ∧ l.length ≤ 4096) →
     s.aperture a.door.val a.off true = some pa →
     s.place pa l.length = .pantry r o →
     (s.doorReaches a.door.val = true ∧ (s.room r).stalled = false) →
     ∃ t, exec (.bar2Access a) s = .next t ∧ t.mem = (s.pwrite (.pantry r o) (l.map fun b => (b, a.ep))).mem) ∧
  (∀ (a : BarAccess) (s : State),
     s.hostReaches a.door.val = true →
     (a.data = none ∧ 0 < a.len ∧ a.len ≤ 4096) →
     (s.aperture a.door.val a.off false = none ∨ s.boot.phase < 8) →
     exec (.bar2Access a) s = .next { s.orReg .doorErr a.door.val 1 with sent := s.sent ++ [.pcie a.door.val 1 [] false] }) ∧
  (∀ (who : Accessor) (pa : BitVec 56) (size : Nat) (value : W64) (s : State) (u : RegUser),
     s.writerOf who (s.place pa.toNat size) = some u →
     exec (.registerWrite who pa size value) s = .next (s.mmioWrite u (s.place pa.toNat size) size (value.toNat % 2 ^ (8
       * size)))) ∧
  (∀ (who : Accessor) (pa : BitVec 56) (size : Nat) (value : W64) (s : State),
     s.writerOf who (s.place pa.toNat size) = none →
     exec (.registerWrite who pa size value) s = .next s)

/-- Drains of rooms and wings start, end and are forced. Cites R386, R483, R484, R485, R487. -/
def Obligations.DrainsComplete : Prop :=
  (∀ (id : Nat) (s : State) (c : MgmtCmd),
     s.live.cmds.find? (fun x => x.id == id && x.code == 1 && !x.begun) = some c →
     s.studyAnswers = true →
     (c.accepted = false → s.studyFull = false) →
     (c.arg 0 < 768 ∧ (s.room (c.arg 0)).cond.state ≤ 1 ∧ (s.room (c.arg 0)).phase = .inService) →
     (if c.accepted = true then s.live.cmds.takeWhile (fun x => x.id != c.id) else s.live.cmds).any (fun x => x.id !=
       c.id && x.accepted && targetsClash x.target c.target) = false →
     ∃ t, exec (.roomDrain id) s = .next t ∧ (t.room (c.arg 0)).phase = .draining ∧ (t.room (c.arg 0)).cond.state = 2 ∧
       (t.room (c.arg 0)).cond.reason = 0x70 ∧ t.live.cmds.any (fun x => x.id == c.id && x.accepted && x.begun) = true) ∧
  (∀ (id : Nat) (s : State) (c : MgmtCmd) (st : Nat),
     s.live.cmds.find? (fun x => x.id == id && x.code == 1 && !x.begun) = some c →
     s.studyAnswers = true →
     c.accepted = false →
     s.drainCheck (c.arg 0) = some st →
     exec (.roomDrain id) s = .next (s.mgmtAnswer c st 0 0)) ∧
  (∀ (r : RoomIx) (s : State),
     (s.room r.val).phase = .draining →
     s.roomEmpty r.val = true →
     ∃ t, exec (.drainEmpty r) s = .next t ∧ (t.room r.val).phase = .inService ∧ (t.room r.val).cond = (s.room
       r.val).cond ∧ (s.accepted 1 r.val = none → s.accepted 3 (r.val / 32) = none → t = s.setPhase r.val .inService)) ∧
  (∀ (r : RoomIx) (s : State),
     (s.room r.val).phase = .draining →
     (s.unpowered = false ∧ s.blockReset r.val = none ∧ s.blockReset (768 + r.val / 32) = none) →
     ∃ t, exec (.drainForce r) s = .next t ∧ (t.room r.val).phase = .resetRequest ∧ t.blockReset r.val = some
       { goal := .drained, since := t.now } ∧ s.now ≤ t.now ∧ (∀ c, s.accepted 1 r.val = some c → c.since + max 1
       s.live.drainTmo * 1000000 ≤ t.now) ∧ (∀ c, s.accepted 1 r.val = none → s.accepted 3 (r.val / 32) = some c →
       c.since + max 1 s.live.drainTmo * 1000000 ≤ t.now)) ∧
  (∀ (id : Nat) (s : State) (c : MgmtCmd),
     s.live.cmds.find? (fun x => x.id == id && x.code == 3 && !x.begun) = some c →
     s.studyAnswers = true →
     (c.accepted = false → s.studyFull = false) →
     (c.arg 0 < 24 ∧ (s.wing (c.arg 0)).state ≠ 2) →
     (if c.accepted = true then s.live.cmds.takeWhile (fun x => x.id != c.id) else s.live.cmds).any (fun x => x.id !=
       c.id && x.accepted && targetsClash x.target c.target) = false →
     ∃ t, exec (.wingDrain id) s = .next t ∧ (t.wing (c.arg 0)).state = 1 ∧ ∀ r < 768, r / 32 = c.arg 0 → (s.room
       r).phase = .inService → (s.room r).cond.state ≤ 1 → (t.room r).phase = .draining ∧ (t.room r).cond.state = 2)

/-- Readmissions of rooms and wings, and test resets, go through their steps. Cites R441, R454, R486, R487, R533. -/
def Obligations.ReadmissionsComplete : Prop :=
  (∀ (id : Nat) (s : State) (c : MgmtCmd),
     s.live.cmds.find? (fun x => x.id == id && x.code == 2 && !x.begun) = some c →
     s.studyAnswers = true →
     (c.accepted = false → s.studyFull = false) →
     (s.readmitCheck (c.arg 0) = none ∧ (s.room (c.arg 0)).drains = false) →
     (s.blockReset (c.arg 0) = none ∧ s.blockReset (768 + c.arg 0 / 32) = none) →
     (if c.accepted = true then s.live.cmds.takeWhile (fun x => x.id != c.id) else s.live.cmds).any (fun x => x.id !=
       c.id && x.accepted && targetsClash x.target c.target) = false →
     ∃ t, exec (.roomReadmit id) s = .next t ∧ (t.room (c.arg 0)).phase = .resetRequest ∧ t.blockReset (c.arg 0) = some
       { goal := .readmit, since := s.now }) ∧
  (∀ (id : Nat) (s : State) (c : MgmtCmd) (st : Nat),
     s.live.cmds.find? (fun x => x.id == id && x.code == 2 && !x.begun) = some c →
     s.studyAnswers = true →
     c.accepted = false →
     s.readmitCheck (c.arg 0) = some st →
     exec (.roomReadmit id) s = .next (s.mgmtAnswer c st 0 0)) ∧
  (∀ (id : Nat) (s : State) (c : MgmtCmd),
     s.live.cmds.find? (fun x => x.id == id && x.code == 4 && !x.begun) = some c →
     s.studyAnswers = true →
     (c.accepted = false → s.studyFull = false) →
     (c.arg 0 < 24 ∧ (s.wing (c.arg 0)).state ≠ 0 ∧ s.unpowered = false) →
     s.blockReset (768 + c.arg 0) = none →
     (if c.accepted = true then s.live.cmds.takeWhile (fun x => x.id != c.id) else s.live.cmds).any (fun x => x.id !=
       c.id && x.accepted && targetsClash x.target c.target) = false →
     ∃ t, exec (.wingReadmit id) s = .next t ∧ t.blockReset (768 + c.arg 0) = some
       { goal := .wingReadmit, since := s.now }) ∧
  (∀ (id : Nat) (s : State) (c : MgmtCmd),
     s.live.cmds.find? (fun x => x.id == id && x.code == 5 && !x.begun) = some c →
     s.studyAnswers = true →
     (c.accepted = false → s.studyFull = false) →
     (c.arg 0 < 768 ∧ (s.room (c.arg 0)).cond.state ≠ 3 ∧ ((s.room (c.arg 0)).cond.state = 5 → s.goodBanks (c.arg 0) ≠
       0) ∧ (s.room (c.arg 0)).drains = false ∧ s.unpowered = false) →
     (s.blockReset (c.arg 0) = none ∧ s.blockReset (768 + c.arg 0 / 32) = none) →
     (if c.accepted = true then s.live.cmds.takeWhile (fun x => x.id != c.id) else s.live.cmds).any (fun x => x.id !=
       c.id && x.accepted && targetsClash x.target c.target) = false →
     ∃ t, exec (.roomReset id) s = .next t ∧ (t.room (c.arg 0)).phase = .resetRequest ∧ (t.room (c.arg 0)).cond.state =
       2 ∧ (t.room (c.arg 0)).cond.reason = 0x70 ∧ t.blockReset (c.arg 0) = some { goal := .test, since := s.now }) ∧
  (∀ (r : RoomIx) (s : State) (l m : List Nat) (n : Nat),
     ((s.room r.val).phase = .readmitTrain ∧ s.wingLinked (r.val / 32) = true) →
     l.all (fun x => x < 2304) = true →
     n = (s.trainRoom r.val l m).trainedState r.val →
     ∃ t, exec (.readmitTrain r ⟨l, m⟩) s = .next t ∧ (n = 4 ∨ n = 5 → (t.room r.val).phase = .stopped ∧ (t.room
       r.val).cond.state = n) ∧ (n ≠ 4 → n ≠ 5 → (t.room r.val).phase = .readmitBoot ∧ (t.room r.val).cond.state =
       (s.room r.val).cond.state ∧ (t.room r.val).bootReport = none)) ∧
  (∀ (r : RoomIx) (s : State) (n : Nat),
     (s.room r.val).phase = .readmitBoot →
     (s.room r.val).bootReport = some n →
     ∃ t, exec (.readmitBoot r) s = .next t ∧ (n = 0 → t = s.setPhase r.val .readmitResync) ∧ (n ≠ 0 → (t.room
       r.val).phase = .stopped ∧ (t.room r.val).cond.state = 4 ∧ (t.room r.val).cond.reason = 0x15)) ∧
  (∀ (r : RoomIx) (s : State),
     (s.room r.val).phase = .readmitResync →
     s.granted .roomStart r.val = true →
     ∃ t, exec (.readmitResync r) s = .next t ∧ (t.room r.val).phase = .readmitPublish ∧ (t.rpow r.val).mhz = s.commonMhz) ∧
  (∀ (r : RoomIx) (s : State),
     (s.room r.val).phase = .readmitPublish →
     ∃ t, exec (.readmitPublish r) s = .next t ∧ (t.room r.val).phase = .inService ∧ (t.room r.val).cond.state = b2n
       (s.attic r.val).half ∧ (t.mailbox r.val).seq = ((s.mailbox r.val).seq + 1) % 2 ^ 16)

/-- Firmware is staged, tried, committed, reverted and handed over as the rules say. Cites R489, R490, R491, R492,
    R493, R494, R513. -/
def Obligations.FirmwareCommandsComplete : Prop :=
  (∀ (id : Nat) (s : State) (c : MgmtCmd) (l : List Byte),
     s.live.cmds.find? (fun x => x.id == id && x.code == 0x30 && !x.begun) = some c →
     s.studyAnswers = true →
     (fwKind (c.arg 0) = true ∧ tget (c.arg 0) s.live.trials = none ∧ 0 < c.bufLen ∧ c.bufLen ≤ 0x800000) →
     s.bufRead c = some l →
     s.studyFull = false →
     exec (.fwStage id) s = .next ((((s.mgmtAnswer c 0x20 0 0).stage (c.arg 0) l).1).mgmtEnd c ((s.mgmtAnswer c 0x20 0
       0).stage (c.arg 0) l).2)) ∧
  (∀ (id : Nat) (s : State) (c : MgmtCmd) (k : Nat),
     s.live.cmds.find? (fun x => x.id == id && x.code == 0x31 && !x.begun) = some c →
     s.studyAnswers = true →
     (k = c.arg 0 ∧ fwKind k = true ∧ c.arg 1 = 0) →
     ((s.trialSlot k).isSome = true ∧ s.trialRuns k = false ∧ s.hasStandby k = true ∧ s.studyFull = false) →
     ∃ t, exec (.fwActivate id) s = .next t ∧ (k ≤ 2 → t.live.handover = some (.freeze, k, 0)) ∧ (3 ≤ k → t.trialRuns k
       = true) ∧ (k = 3 ∨ k = 5 → t.live.restarts.any (fun x => x.1 == k) = true)) ∧
  (∀ (id : Nat) (s : State) (c : MgmtCmd),
     s.live.cmds.find? (fun x => x.id == id && x.code == 0x31 && !x.begun) = some c →
     s.studyAnswers = true →
     (fwKind (c.arg 0) = true ∧ c.arg 1 = 1) →
     (s.trialRuns (c.arg 0) = true ∧ s.hasStandby (c.arg 0) = true ∧ s.studyFull = false) →
     ∃ t, exec (.fwCommit id) s = .next t ∧ t.trialRuns (c.arg 0) = false) ∧
  (∀ (id : Nat) (s : State) (c : MgmtCmd) (k : Nat),
     s.live.cmds.find? (fun x => x.id == id && x.code == 0x31 && !x.begun) = some c →
     s.studyAnswers = true →
     (k = c.arg 0 ∧ fwKind k = true ∧ c.arg 1 = 2) →
     (s.trialRuns k = true ∧ s.hasStandby k = true ∧ s.studyFull = false) →
     ∃ t, exec (.fwRevert id) s = .next t ∧ (k ≤ 2 → t.live.handover = some (.freeze, k, 1)) ∧ (3 ≤ k → t.trialRuns k =
       false) ∧ (k = 3 ∨ k = 5 → t.live.restarts.any (fun x => x.1 == k) = true)) ∧
  (∀ (id : Nat) (s : State) (c : MgmtCmd),
     s.live.cmds.find? (fun x => x.id == id && x.code == 0x31 && !x.begun) = some c →
     s.studyAnswers = true →
     (fwKind (c.arg 0) = true ∧ c.arg 1 ≤ 2) →
     ((s.trialSlot (c.arg 0)).isSome = true ∨ c.arg 1 ≠ 0) →
     (s.trialRuns (c.arg 0) = true) = (c.arg 1 ≠ 0) →
     s.hasStandby (c.arg 0) = false →
     exec (if c.arg 1 = 0 then .fwActivate id else if c.arg 1 = 1 then .fwCommit id else .fwRevert id) s = .next
       (s.mgmtAnswer c 0x14 0 0)) ∧
  (∀ (kind : Fin 6) (s : State) (x : TrialB),
     tget kind.val s.live.trials = some x →
     (s.live.trialTmo ≠ 0 ∧ s.live.handover = none) →
     ∃ t, exec (.fwTrialTimeout kind) s = .next t ∧ x.since + s.live.trialTmo * 1000000000 ≤ t.now ∧ (kind.val = 1 ∨
       kind.val = 2 → t.live.handover = some (.freeze, kind.val, 2)) ∧ (3 ≤ kind.val → t.trialRuns kind.val = false)) ∧
  (∀ (s : State) (k w : Nat) (l : List Nat) (m : List (Nat × List Nat)),
     s.live.restarts = (k, w :: l) :: m →
     ∃ t, exec .wingControllerRestart s = .next t ∧ t.now = s.now + 5000000 ∧ t.live.restarts = (if l = [] then m else
       (k, l) :: m)) ∧
  (∀ (s : State) (k p : Nat),
     s.live.handover = some (.freeze, k, p) →
     exec .handoverTransfer s = .next (s.modLive fun l => { l with handover := some (.transfer, k, p) })) ∧
  (∀ (s : State) (k p : Nat),
     s.live.handover = some (.transfer, k, p) →
     (k = 1 ∨ k = 2) →
     ∃ t, exec .handoverSwitch s = .next t ∧ t.live.handover = none ∧ t.boot.activeDoor = (if k = 1 then 1 -
       s.boot.activeDoor else s.boot.activeDoor) ∧ t.live.hearthDoor = (if k = 2 then 1 - s.live.hearthDoor else
       s.live.hearthDoor)) ∧
  (∀ (b : Bool) (s : State) (c : Instr),
     s.mayTakeOver (kindOf b) = true →
     c ∈ [Instr.standbyTakeover b, .mirrorHeartbeatLoss b] →
     (c = .standbyTakeover b ∨ s.trialRuns (kindOf b) = true) →
     ∃ t, exec c s = .next t ∧ t.boot.activeDoor = (if b = false then 1 - s.boot.activeDoor else s.boot.activeDoor) ∧
       t.live.hearthDoor = (if b = true then 1 - s.live.hearthDoor else s.live.hearthDoor) ∧ (if b = true then
       t.live.hearthStandby else t.live.standby) = false ∧ (c = .mirrorHeartbeatLoss b → t.now = s.now + 500000000))

/-- Retirement, scrubbing, logs, settings and the other commands of the study. Cites R364, R386, R406, R436, R468,
    R469, R475, R476, R477, R481, R497, R498. -/
def Obligations.MaintenanceComplete : Prop :=
  (∀ (id : Nat) (s : State) (c : MgmtCmd) (r n o : Nat),
     s.live.cmds.find? (fun x => x.id == id && x.code == 0x10 && !x.begun) = some c →
     s.studyAnswers = true →
     s.localRange (c.arg 0) 1 = some (r, n, o) →
     o < atticSize →
     (s.flashLogs.pages.contains (pageOf n r o) = false ∧ s.flashLogs.pages.length < 4096) →
     exec (.pageRetire id) s = .next ((s.retirePage (pageOf n r o)).mgmtAnswer c 0 0 0) ∧ (s.retirePage (pageOf n r
       o)).flashLogs.pages = s.flashLogs.pages ++ [pageOf n r o]) ∧
  (∀ (id : Nat) (s : State) (c : MgmtCmd),
     s.live.cmds.find? (fun x => x.id == id && x.code == 0x11 && !x.begun) = some c →
     s.studyAnswers = true →
     (c.arg 0 < 768 ∧ c.arg 1 < 48) →
     s.bankBusy (c.arg 0) (c.arg 1) = false →
     s.flashLogs.banks.contains (c.arg 0, c.arg 1) = false →
     ∃ t, exec (.bankRetire id) s = .next t ∧ bitOf (t.room (c.arg 0)).cond.bankMap (c.arg 1) = false ∧
       t.flashLogs.banks = s.flashLogs.banks ++ [(c.arg 0, c.arg 1)] ∧ ((t.room (c.arg 0)).cond.bankMap = 0 → (s.room
       (c.arg 0)).cond.state ≠ 3 → (t.room (c.arg 0)).cond.state = 5)) ∧
  (∀ (id : Nat) (s : State) (c : MgmtCmd) (x : ScrubB),
     s.live.cmds.find? (fun x => x.id == id && x.code == 0x12 && !x.begun) = some c →
     s.studyAnswers = true →
     (c.accepted = false ∧ s.studyFull = false) →
     s.scrubOf c = some x →
     ∃ t, exec (.mgmtScrub id) s = .next t ∧ t.live.scrubs = s.live.scrubs ++ [x] ∧ t.live.cmds.any (fun y => y.id ==
       c.id && y.accepted && y.begun) = true) ∧
  (∀ (id : Nat) (s : State) (l : List ScrubWord) (x : ScrubB) (c : MgmtCmd),
     s.live.scrubs.find? (fun y => y.cmd == id) = some x →
     s.live.cmds.find? (fun y => y.id == id) = some c →
     (s.scrubRuns x = true ∧ (s.room x.room).cond.state ≤ 2) →
     ∃ t, exec (.scrubGranule id l) s = .next t ∧ (s.scrubGranule x l).2.pos = x.pos + 256 ∧ (x.pos + 256 ≠ x.length →
       t.mem = s.mem ∧ t.live.scrubs = s.live.scrubs.map (fun y => if y.cmd = x.cmd then (s.scrubGranule x l).2 else y))
       ∧ (x.pos + 256 = x.length → t.live.scrubs = s.live.scrubs.filter (fun y => y.cmd != x.cmd))) ∧
  (∀ (id : Nat) (s : State) (c : MgmtCmd),
     s.live.cmds.find? (fun x => x.id == id && x.code == 0x20 && !x.begun) = some c →
     s.studyAnswers = true →
     exec (.logRead id) s = .next ((s.bufWrite c (((s.logFrom (c.arg 0)).take (c.bufLen / 32)).flatMap
       (·.bytes))).mgmtAnswer c 0 ((s.logFrom (c.arg 0)).take (c.bufLen / 32)).length s.oldestSeq)) ∧
  (∀ (id : Nat) (s : State) (c : MgmtCmd),
     s.live.cmds.find? (fun x => x.id == id && x.code == 0x32 && !x.begun) = some c →
     s.studyAnswers = true →
     exec (.settingsRead id) s = .next ((s.bufWrite c s.settingsBytes).mgmtAnswer c 0 0 0)) ∧
  (∀ (id : Nat) (s : State) (c : MgmtCmd) (l : List Byte) (t : State),
     s.live.cmds.find? (fun x => x.id == id && x.code == 0x33 && !x.begun) = some c →
     s.studyAnswers = true →
     32 ≤ c.bufLen →
     s.bufRead c = some l →
     (copyGood l = true ∧ 0x20 + numAt l 0x0C 4 ≤ c.bufLen) →
     t = s.writeSettingsFrom l →
     exec (.settingsWrite id) s = .next ((if t.trialRuns 1 || t.live.defaults then t else t.writeSettings).mgmtAnswer c
       0 (b2n (t.trialRuns 1 || t.live.defaults)) 0)) ∧
  (∀ (id : Nat) (s : State) (c : MgmtCmd),
     s.live.cmds.find? (fun x => x.id == id && x.code == 0x40 && !x.begun) = some c →
     s.studyAnswers = true →
     (c.accepted = false ∧ s.studyFull = false) →
     (c.arg 0 < 48 ∧ (s.link (c.arg 0)).state = 3) →
     ∃ t, exec (.mgmtLinkRecal id) s = .next t ∧ (t.link (c.arg 0)).recalAsked = true ∧ t.live.cmds.any (fun y => y.id
       == c.id && y.accepted && y.begun) = true) ∧
  (∀ (id : Nat) (s : State) (c : MgmtCmd),
     s.live.cmds.find? (fun x => x.id == id && x.code == 0x41 && !x.begun) = some c →
     s.studyAnswers = true →
     c.arg 0 < 2 ^ 14 →
     ∃ t, exec (.absentClear id) s = .next t ∧ t.absentDevs.contains (c.arg 0) = false ∧ t = (s.deviceBack (c.arg
       0)).mgmtAnswer c 0 0 0) ∧
  (∀ (id : Nat) (s : State) (c : MgmtCmd),
     s.live.cmds.find? (fun x => x.id == id && x.code == 0x50 && !x.begun) = some c →
     s.studyAnswers = true →
     6432 ≤ c.bufLen →
     exec (.sensorRead id) s = .next ((s.bufWrite c s.sensorRecord).mgmtAnswer c 0 0 0)) ∧
  (∀ (id : Nat) (s : State) (c : MgmtCmd),
     s.live.cmds.find? (fun x => x.id == id && x.code == 0x51 && !x.begun) = some c →
     s.studyAnswers = true →
     ∃ t, exec (.powerCap id) s = .next t ∧ t.power.cap = some (max (s.tdp * 40 / 100) (min s.tdp (c.arg 0)))) ∧
  (∀ (d : DoorIx) (s : State),
     s.mailboxStudy.busy = true →
     exec (.mailboxGo (.host d)) s = .next { s with mailboxStudy := { s.mailboxStudy with overrun := true } }) ∧
  (∀ (d : DoorIx) (s : State) (w : List W64),
     (s.mailboxStudy.busy = false ∧ s.mailboxStudy.req = w) →
     (fld (wordN w 0) 7 0 = 0x10 → mgmtFields w = true → wordN w 6 = 0 → ∃ t, exec (.mailboxGo (.host d)) s = .next t ∧
       t.live.cmds = s.live.cmds ++ [mgmtCmd s.nextDesc false 0 w s.now] ∧ t.mailboxStudy.busy = true) ∧ (fld (wordN w
       0) 7 0 ≠ 0x10 ∨ mgmtFields w = false → ∃ t, exec (.mailboxGo (.host d)) s = .next t ∧ t.live = s.live ∧
       t.mailboxStudy.busy = false ∧ t.mailboxStudy.final = true ∧ (t.mailboxStudy.rsp.map fun x => fld x.toNat 23
       16).getD 1 0 = if fld (wordN w 0) 7 0 ≠ 0x10 then 0x10 else 0x11)) ∧
  (∀ (s : State) (n : Nat),
     s.mailboxStudy.due = some n →
     (n < 256 ∧ n ≠ 0x20) →
     ∃ t, exec .mailboxFinal s = .next t ∧ t.mailboxStudy.due = none ∧ t.mailboxStudy.busy = false ∧
       t.mailboxStudy.final = true ∧ (t.mailboxStudy.rsp.map fun x => fld x.toNat 23 16).getD 1 0 = n) ∧
  (∀ (m : RemapMemory) (o : Nat) (b : Bool) (s : State),
     (s.remap (remapKey m)).words.contains o = false →
     (s.remap (remapKey m)).words.length < 8 →
     ∃ t, exec (.wordRemap m o b) s = .next t ∧ (b = true ∨ (s.remap (remapKey m)).once.contains o = true → (t.remap
       (remapKey m)).words = (s.remap (remapKey m)).words ++ [o]) ∧ (b = false → (s.remap (remapKey m)).once.contains o
       = false → (t.remap (remapKey m)).words = (s.remap (remapKey m)).words ∧ (t.remap (remapKey m)).once = (s.remap
       (remapKey m)).once ++ [o])) ∧
  (∀ (s : State) (c : MgmtCmd) (st d0 d1 : Nat) (e : Desc),
     c.ring = true →
     s.descs.find? (fun x => x.id == c.id) = some e →
     (s.mgmtAnswer c st d0 d1).completions = s.completions ++ [⟨e.sq, e.opcode, e.words.getD 1 0, st, d0, d1, false, none⟩] ∧
       (s.mgmtAnswer c st d0 d1).live.cmds = s.live.cmds.filter (fun x => x.id != c.id) ++ (if st = 0x20 then
       [{ c with accepted := true }] else []))

/-- Writes to the translation, interrupt, error and mailbox registers of a room; the floor plan. Cites R24, R100,
    R123, R124, R482, R525, R533. -/
def Obligations.RoomRegisterWritesComplete : Prop :=
  (∀ (r : RoomIx) (s : State) (a : W16) (v : BitVec 36),
     s.place (localPa 3 r.val 0x28) 8 = .roomMmio r.val 0x28 →
     (s.room r.val).phase ≠ .inReset →
     (∃ t, exec (.roomTlbiAll r) s = .next t ∧ t.room r.val = { s.room r.val with itlb := [], dtlb := [], tlb := [], walkCache := [] }) ∧
     (∃ t, exec (.roomTlbiAsid r a) s = .next t ∧ t.room r.val = { s.room r.val with itlb := (s.room r.val).itlb.filter (fun e => !(e.asid == a.toNat)), dtlb := (s.room r.val).dtlb.filter (fun e => !(e.asid == a.toNat)), tlb := (s.room r.val).tlb.filter (fun e => !(e.asid == a.toNat)), walkCache := [] }) ∧
     (∃ t, exec (.roomTlbiAsidVpn r a v) s = .next t ∧ t.room r.val = { s.room r.val with itlb := (s.room r.val).itlb.filter (fun e => !(e.asid == a.toNat && e.hasVpn v.toNat)), dtlb := (s.room r.val).dtlb.filter (fun e => !(e.asid == a.toNat && e.hasVpn v.toNat)), tlb := (s.room r.val).tlb.filter (fun e => !(e.asid == a.toNat && e.hasVpn v.toNat)), walkCache := [] }) ∧
     (∃ t, exec (.roomTlbiVpn r v) s = .next t ∧ t.room r.val = { s.room r.val with itlb := (s.room r.val).itlb.filter (fun e => !(e.hasVpn v.toNat)), dtlb := (s.room r.val).dtlb.filter (fun e => !(e.hasVpn v.toNat)), tlb := (s.room r.val).tlb.filter (fun e => !(e.hasVpn v.toNat)), walkCache := [] })) ∧
  (∀ (r : RoomIx) (value : W64) (s : State) (b : Bool),
     s.place (localPa 3 r.val 0x18) 8 = .roomMmio r.val 0x18 →
     (s.room r.val).phase ≠ .inReset →
     ((b = true ∨ (List.range 8).any (fun j => bitOf value.toNat (8 * j + 6)) = false) → exec (.roomIrqRouteWrite r b
       value) s = .next (s.writeReg .roomIrqRoute r.val value)) ∧ (b = false → (List.range 8).any (fun j => bitOf
       value.toNat (8 * j + 6)) = true → exec (.roomIrqRouteWrite r b value) s = .next s)) ∧
  (∀ (r : RoomIx) (value : W64) (s : State),
     s.place (localPa 3 r.val 0xC008) 8 = .roomMmio r.val 0xC008 →
     (s.room r.val).phase ≠ .inReset →
     exec (.errConsWrite r value) s = .next (s.writeReg .errCons r.val value)) ∧
  (∀ (r : RoomIx) (s : State) (b : Bool) (m : Mailbox),
     s.mailbox r.val = m →
     m.pending = true →
     ∃ t, exec (.wmbPending r b) s = .next t ∧ (t.mailbox r.val).pending = !m.queue.isEmpty ∧ (t.mailbox r.val).queue =
       m.queue.drop 1 ∧ (t.mailbox r.val).lost = (m.lost && !b) ∧ (t.mailbox r.val).seq = m.seq) ∧
  (∀ (s : State) (p : PlanB),
     s.plan = some p →
     ∃ t, exec .floorPlanUpdate s = .next t ∧ t.plan = some s.currentPlan ∧ (p ≠ s.currentPlan → t.planGen = (s.planGen
       + 2) % 2 ^ 32 ∧ t.planTime = s.now) ∧ (p = s.currentPlan → t = s))

/-- MCTP, PLDM and SPDM requests are answered; answer codes of SPDM are the model's choice. Cites R392, R393, R406,
    R425, R452, R462, R489, R490. -/
def Obligations.ManagementProtocolsComplete : Prop :=
  (∀ (d : DoorIx) (s : State) (b : Fin 3) (e : Byte),
     s.managed = true →
     ∃ t, exec (.setEndpointId d b e) s = .next t ∧ tget (d.val * 3 + b.val) t.test.eids = some e.toNat) ∧
  (∀ (d : DoorIx) (s : State) (b : Fin 3),
     s.managed = true →
     exec (.pldmBaseDiscovery d b) s = .next (s.send (.mgmt 0 [d.val * 3 + b.val, if s.boot.recovery then 0x21 else 0x25]
       []))) ∧
  (∀ (s : State) (p : SensorPlace) (i : Fin 4) (n : Nat) (f e : Byte),
     (s.managed = true ∧ s.boot.recovery = false) →
     exec (.pldmPlatform (.readSensor p i)) s = .next (s.send (.mgmt 2 (placeFields p ++
       [i.val, s.placeReading p i.val]) [])) ∧ exec (.pldmPlatform .readPower) s = .next (s.send (.mgmt 2
       [5, s.power.powerW] [])) ∧ (∃ t, exec (.pldmPlatform (.setPowerCap n)) s = .next t ∧ t.power.cap = some (max
       (s.tdp * 40 / 100) (min s.tdp n))) ∧ (∃ t, exec (.pldmPlatform (.setCooling f e)) s = .next t ∧ t.therm.report =
       if f = 0 ∧ e = 0 then none else some (f.toNat, e.toNat, s.now))) ∧
  (∀ (s : State) (k : Nat) (l : List Byte),
     s.managed = true →
     (fwKind k = true ∧ s.trialRuns k = false) →
     exec (.pldmFirmwareUpdate (.stage k l)) s = .next ((s.stage k l).1.send (.mgmt 5 [k, (s.stage k l).2] []))) ∧
  (∀ (s : State) (k : Nat),
     s.managed = true →
     (s.boot.state ≠ 2 ∧ s.boot.state ≠ 3) →
     (fwKind k = true ∧ (s.trialSlot k).isSome = true ∧ s.trialRuns k = false) →
     (s.hasStandby k = true → exec (.pldmFirmwareUpdate (.activate k)) s = .next ((s.activateKind k).send (.mgmt 5
       [k, 0] []))) ∧ (s.hasStandby k = false → exec (.pldmFirmwareUpdate (.activate k)) s = .next (s.send (.mgmt 5
       [k, 0x14] [])))) ∧
  (∀ (s : State) (c : Instr) (m : Sent),
     s.strongroomRuns = true →
     (c, m) ∈ [(Instr.getVersion, Sent.mgmt 0x184 [0x13] []), (.getCapabilities, .mgmt 0x1E1 [14] []), (.negotiateAlgorithms, .mgmt 0x1E3 [0x80, 0x02] []), (.getDigests, .mgmt 0x181 [] (Config.digest 0 Config.certificate)), (.getCertificate, .mgmt 0x182 [] Config.certificate)]
       →
     exec c s = .next (s.send m)) ∧
  (∀ (s : State) (i : Byte) (l : List Byte),
     s.strongroomRuns = true →
     exec (.spdmChallenge l) s = .next (s.send (.mgmt 0x183 [] (Config.digest 0 Config.certificate ++ Config.sign
       (Config.digest 0 Config.certificate ++ l)))) ∧ exec (.getMeasurements i l) s = .next (s.send (.mgmt 0x1E0
       [i.toNat, s.boot.measures.length] (s.measured i.toNat ++ Config.sign (s.measured i.toNat ++ l)))))

/-- The TAP, the debug module and halted harts; codes of the debug specification are the model's choice. Cites R507,
    R511, R512, R513. -/
def Obligations.TestAccessComplete : Prop :=
  (∀ (s : State) (b : BitVec 43) (n : Byte) (q : Bool),
     s.boot.hold ≠ .power →
     exec .tapIdcode s = .next ((s.loadIr 2).send (.tap 2 0xB520999D)) ∧ (∃ t, exec (.tapSamplePreload b) s = .next t ∧
       t.test.ir = 1 ∧ t.test.boundary = b.toNat ∧ t.test.driven = none) ∧ (s.bypasses n.toNat = true → exec (.tapBypass
       n) s = .next ((s.loadIr n.toNat).send (.tap 0xFF 0))) ∧ exec (.tapDtmcs q) s = .next ((s.loadIr 0x10).send (if
       s.debugOpen then .tap 0x10 0x1071 else .tap 0xFF 0))) ∧
  (∀ (s : State) (b : BitVec 43),
     s.boot.hold ≠ .power →
     s.test.resetN = false →
     (∃ t, exec (.tapExtest b) s = .next t ∧ t.test.ir = 0 ∧ t.test.driven = some b.toNat ∧ t.test.boundary = b.toNat) ∧
       (∃ t, exec .tapClamp s = .next t ∧ t.test.ir = 3 ∧ t.test.driven = some s.test.boundary ∧ t.test.boundary =
       s.test.boundary) ∧ (∃ t, exec .tapHighz s = .next t ∧ t.test.ir = 4 ∧ t.test.floating = true)) ∧
  (∀ (s : State) (b : BitVec 43),
     s.boot.hold ≠ .power →
     s.test.resetN = true →
     exec (.tapExtest b) s = .next ((s.loadIr 0).send (.tap 0xFF 0)) ∧ exec .tapClamp s = .next ((s.loadIr 3).send (.tap
       0xFF 0)) ∧ exec .tapHighz s = .next ((s.loadIr 4).send (.tap 0xFF 0))) ∧
  (∀ (s : State) (n : Fin 1048576) (v : W64),
     s.boot.hold ≠ .power →
     (s.debugOpen = true ∧ (s.door 0).down = false ∧ s.test.dmactive = true) →
     (∃ t, exec (.tapDmi (.selectHart n)) s = .next t ∧ t.test.hartsel = n.val) ∧ (∃ t, exec (.tapDmi (.writeData v)) s
       = .next t ∧ t.test.data = v) ∧ (∃ t, exec (.tapDmi .readData) s = .next t ∧ t.sent = s.sent ++
       [.tap 0x11 s.test.data.toNat]) ∧ (∃ t, exec (.tapDmi (.activate false)) s = .next t ∧ t.test.dmactive = false ∧
       t.test.hartsel = 0 ∧ t.test.halted = s.test.halted)) ∧
  (∀ (n : Fin 24612) (s : State),
     s.mayDebug n.val = true →
     ∃ t, exec (.hartHalt n) s = .next t ∧ t.debugHalted n.val = true ∧ t.test.resumeAck = false ∧ (n.val < 24576 →
       t.hartAt (debugHart n.val) = { s.hartAt (debugHart n.val) with halted := true })) ∧
  (∀ (n : Fin 24612) (s : State),
     (s.mayDebug n.val = true ∧ s.debugHalted n.val = true) →
     ∃ t, exec (.hartResume n) s = .next t ∧ t.test.halted.contains n.val = false ∧ t.test.resumeAck = true ∧ (n.val <
       24576 → (s.hartAt (debugHart n.val)).heldResult = none → (s.hartAt (debugHart n.val)).heldTrap = none → t.hartAt
       (debugHart n.val) = { s.hartAt (debugHart n.val) with halted := false })) ∧
  (∀ (s : State),
     s.debugRuns = true →
     exec .dbgNdmreset s = .next (s.askReset 8)) ∧
  (∀ (g : DebugReg) (s : State) (v : W64),
     (s.debugRuns = true ∧ s.test.cmderr = 0 ∧ s.test.hartsel < 24576) →
     (s.mayDebug s.test.hartsel = true ∧ s.debugHalted s.test.hartsel = true) →
     s.debugRead (debugHart s.test.hartsel) g = some v →
     (∃ t, exec (.dbgAccessRegister false g) s = .next t ∧ t.test.data = v ∧ t.harts = s.harts) ∧ exec
       (.dbgAccessRegister true g) s = .next (s.modHartAt (debugHart s.test.hartsel) fun x => x.debugWrite s.test.data g)) ∧
  (∀ (g : DebugReg) (b : Bool) (s : State),
     (s.debugRuns = true ∧ s.test.cmderr = 0) →
     (s.mayDebug s.test.hartsel = false ∨ s.debugHalted s.test.hartsel = false) →
     exec (.dbgAccessRegister b g) s = .next { s with test := { s.test with cmderr := 4 } }) ∧
  (∀ (n r o : Nat) (s : State) (l : List Byte),
     (s.debugRuns = true ∧ s.test.sberror = 0) →
     ((n = 4 ∨ n = 8) ∧ s.test.sbaddr.toNat % n = 0 ∧ s.busTarget s.test.sbaddr.toNat = true) →
     s.place s.test.sbaddr.toNat n = .pantry r o →
     (s.room r).stalled = false →
     s.memRead (.pantry r o) n = .data l →
     (∃ t, exec (.dbgSystemBusAccess false n) s = .next t ∧ t.test.sbdata.toNat = ofBytes l ∧ t.mem = s.mem) ∧ (∃ t,
       exec (.dbgSystemBusAccess true n) s = .next t ∧ t.mem = (s.memWrite (.pantry r o) (toBytes n
       s.test.sbdata.toNat)).mem))

/-- A step runs the command at the front of the queue; with none waiting the part idles (the idling is the model's
    choice, log entry 1). Cites R128. -/
def Obligations.StepRunsFrontCommand : Prop :=
  (∀ (s : State) (c : Instr) (q : List Instr),
     step { s with pending := c :: q } = exec c { s with pending := q }) ∧
  (∀ (s : State),
     s.pending = [] →
     step s = .next s)

/-- After reset no command waits, no byte is listed, and every register of the map reads its reset value. Cites R438,
    R525. -/
def Obligations.ResetLeavesEveryRegisterAtItsResetValue : Prop :=
  (∀ (n : RegName) (i : Nat),
     State.reset.regN n i = n.row.reset % 2 ^ 64) ∧
  (  State.reset.pending = [] ∧ State.reset.mem = [] ∧ State.reset.poison = [] ∧ State.reset.Canonical)

/-- Every step keeps memory and its poison marks in canonical form, and no step changes the fuses or the identity
    blocks. Cites R2, R466. -/
def Obligations.StepKeepsCanonicalMemory : Prop :=
  ∀ (s t : State),
    s.Canonical →
    step s = .next t →
    t.Canonical ∧ t.fuses = s.fuses ∧ t.idBlocks = s.idBlocks

/-- Every command in every state answers a next state that differs only in the parts that its rules let it change.
    Cites R85, R128, R303, R394, R463. -/
def Obligations.EveryCommandEndsWithinItsParts : Prop :=
  (∀ (s : State) (c : Instr),
     ∃ t, exec c s = .next t ∧ ∀ p, (footprint c).contains p = false → p.same s t) ∧
  (∀ (c : Instr) (p : Part),
     (p = .pending ∨ p = .fuses ∨ p = .idBlocks) →
     (footprint c).contains p = false)

/-- A load or LR that delivers local memory changes no other hart, no register of a block and no byte. Cites R85,
    R104, R110, R112. -/
def Obligations.LocalLoadsChangeTheirHartAlone : Prop :=
  (∀ (h : HartId) (m : MemForm) (s : State) (x : Xlate) (l : List Byte) (t : State),
     s.canRun h = true →
     m.wf = true →
     (formAddress (s.hart h) m.rs1 m.imm).toNat % m.bytes = 0 →
     s.translate h.room.val ((s.hart h).authority h.hart.val) .read .load (formAddress (s.hart h) m.rs1 m.imm) = .ok x →
     s.memRead (s.place x.pa m.bytes) m.bytes = .data l →
     exec (.load h m) s = .next t →
     (∀ g, g ≠ h → t.hart g = s.hart g) ∧ (∀ p, [Part.free, .harts, .rooms, .attics].contains p = false → p.same s t)) ∧
  (∀ (h : HartId) (a : AtomicForm) (s : State) (x : Xlate) (p : Place) (key : Nat) (l : List Byte) (t : State),
     s.canRun h = true →
     s.released h a.rl = true →
     s.reserveTarget h ((s.hart h).reg a.rs1.val) (if a.double then 8 else 4) = .ok (x, p, key) →
     s.memRead p (if a.double then 8 else 4) = .data l →
     exec (.lr h a) s = .next t →
     (∀ g, g ≠ h → t.hart g = s.hart g) ∧ (∀ q, [Part.free, .harts, .rooms, .attics].contains q = false → q.same s t)) ∧
  (∀ (h : HartId) (w : W32) (s : State) (x : Xlate) (l : List Byte) (t : State) (c : Instr) (op5 n : Nat),
     (c, op5, n) ∈ [(Instr.szGlb h w, 0, 1), (.szGlh h w, 1, 2), (.szGlw h w, 2, 4), (.szGld h w, 3, 8), (.szGlq h w, 4, 16), (.szGlbu h w, 5, 1), (.szGlhu h w, 6, 2), (.szGlwu h w, 7, 4)]
       →
     s.canRunWord h w custom1 op5 = true →
     s.released h (szRl w) = true →
     ((s.hart h).reg (szRs1 w)).toNat % n = 0 →
     s.translate h.room.val ((s.hart h).authority h.hart.val) .read .load ((s.hart h).reg (szRs1 w)) = .ok x →
     x.type ≤ 2 →
     s.memRead (s.place x.pa n) n = .data l →
     exec c s = .next t →
     (∀ g, g ≠ h → t.hart g = s.hart g) ∧ (∀ p, [Part.free, .harts, .rooms, .attics].contains p = false → p.same s t))

/-- A store to a local pantry changes its words of memory alone; other harts lose at most a reservation or see a
    watched word. Cites R103, R104, R112, R148. -/
def Obligations.LocalStoresChangeTheirBytesAlone : Prop :=
  ∀ (h : HartId) (m : MemForm) (s : State) (x : Xlate) (t : State) (r o k : Nat),
    s.canRun h = true →
    m.wf = true →
    (formAddress (s.hart h) m.rs1 m.imm).toNat % m.bytes = 0 →
    s.translate h.room.val ((s.hart h).authority h.hart.val) .write .store (formAddress (s.hart h) m.rs1 m.imm) = .ok x
      →
    x.type ≤ 2 →
    s.place x.pa m.bytes = .pantry r o →
    s.writeCode (.pantry r o) (toBytes m.bytes ((s.hart h).storeValue m).toNat) = 0 →
    exec (.store h m) s = .next t →
    (k < pantryKey r o ∨ pantryKey r o + m.bytes ≤ k) →
    ((tget k s.mem).isSome = true ∨ k / 8 * 8 ∉ wordsOf (pantryKey r o) m.bytes → tget k t.mem = tget k s.mem) ∧ (∀ g,
      g ≠ h → { t.hart g with resv := none, wait := .none } = { s.hart g with resv := none, wait := .none }) ∧ (∀ p,
      [Part.free, .mem, .poison, .harts, .rooms, .dws, .guards].contains p = false → p.same s t)

/-- Bytes that a pantry takes read back as written, and every other written byte stays. Cites R164, R179, R466. -/
def Obligations.PantryReadsBackWhatWasWritten : Prop :=
  (∀ (s : State) (r o : Nat) (l : List Byte) (writer : Option Nat),
     l ≠ [] →
     s.writeCode (.pantry r o) l = 0 →
     (s.memWrite (.pantry r o) l writer).memRead (.pantry r o) l.length = .data l) ∧
  (∀ (s : State) (r o k : Nat) (l : List Byte) (writer : Option Nat),
     (k < pantryKey r o ∨ pantryKey r o + l.length ≤ k) →
     (tget k s.mem).isSome = true →
     tget k (s.memWrite (.pantry r o) l writer).mem = tget k s.mem)

/-- sz.dummy queues a DUMMY entry with N from rs1, TAG 0 and COMPLETE 0, and reads no descriptor. Cites R136. -/
def Obligations.DummyQueuesItsEntry : Prop :=
  ∀ (h : HartId) (w : W32) (s : State),
    s.canRunWord h w custom0 4 = true →
    0 < ((s.hart h).reg (szRs1 w)).toNat →
    ((s.hart h).reg (szRs1 w)).toNat ≤ 8192 →
    (s.array h.room.val).queue.length < 8 →
    (s.array h.room.val).ownedBy h.hart.val = true →
    ∃ t e, exec (.szDummy h w) s = .next t ∧ (t.array h.room.val).queue = (s.array h.room.val).queue ++ [e] ∧ e.op = 4
      ∧ e.n = ((s.hart h).reg (szRs1 w)).toNat % 2 ^ 14 ∧ e.tag = 0 ∧ e.complete = false ∧ t.mem = s.mem ∧ t.rooms =
      s.rooms ∧ t.attics = s.attics

/-- FP32 max and min order −0 below +0, prefer a number to a NaN, and are commutative and associative; FP32 add is
    not. Cites R182. -/
def Obligations.Fp32MaxAndMinAreOrders : Prop :=
  (∀ (o : Nat) (v : W32),
     homeNew (.fmax v) o = (fp32Max o v.toNat, o) ∧ homeNew (.fmin v) o = (fp32Min o v.toNat, o)) ∧
  (∀ (x y : Nat),
     x < 2 ^ 32 →
     y < 2 ^ 32 →
     fp32Max x y = fp32Max y x ∧ fp32Min x y = fp32Min y x) ∧
  (∀ (x y z : Nat),
     x < 2 ^ 32 →
     y < 2 ^ 32 →
     z < 2 ^ 32 →
     fp32Max (fp32Max x y) z = fp32Max x (fp32Max y z) ∧ fp32Min (fp32Min x y) z = fp32Min x (fp32Min y z)) ∧
  (∀ (x y : Nat),
     fp32.value x = .nan →
     (fp32.value y = .nan → fp32Max x y = 0x7FC00000 ∧ fp32Min x y = 0x7FC00000) ∧ (fp32.value y ≠ .nan → fp32Max x y =
       y ∧ fp32Max y x = y ∧ fp32Min x y = y ∧ fp32Min y x = y)) ∧
  (∀ (x y mx my : Nat) (nx ny : Bool) (ex ey : Int),
     x < 2 ^ 32 →
     y < 2 ^ 32 →
     fp32.value x = .fin nx mx ex →
     fp32.value y = .fin ny my ey →
     (if nx then -1 else 1) * ((mx * 2 ^ (ex + 149).toNat : Nat) : Int) < (if ny then -1 else 1) * ((my * 2 ^ (ey +
       149).toNat : Nat) : Int) →
     fp32Max x y = y ∧ fp32Max y x = y ∧ fp32Min x y = x ∧ fp32Min y x = x) ∧
  (∀ (x y : Nat) (neg : Bool),
     x < 2 ^ 32 →
     y < 2 ^ 32 →
     fp32.value x = .inf neg →
     fp32.value y ≠ .nan →
     fp32Max x y = (if neg then y else x) ∧ fp32Min x y = (if neg then x else y)) ∧
  (  fp32Max 0x80000000 0 = 0 ∧ fp32Max 0 0x80000000 = 0 ∧ fp32Min 0x80000000 0 = 0x80000000 ∧ fp32Min 0 0x80000000 =
       0x80000000 ∧ (∃ x y z, x < 2 ^ 32 ∧ y < 2 ^ 32 ∧ z < 2 ^ 32 ∧ fp32Add (fp32Add x y) z ≠ fp32Add (fp32Add x z) y))

/-- The AVU and DUMBWAITER interrupts of a room are asserted exactly while their conditions hold. Cites R208, R280. -/
def Obligations.UnitInterruptsFollowTheirFlags : Prop :=
  (∀ (s : State) (r : RoomIx),
     bitOf (s.irqPending r.val) 2 = true ↔ ∃ n, bitOf (s.regN .avuErr r.val) n = true) ∧
  (∀ (s : State) (r : RoomIx),
     bitOf (s.irqPending r.val) 1 = true ↔ (∃ c, c < 8 ∧ (s.dw (r.val * 8 + c)).state = .halted) ∨ (bitOf (s.regN
       .dwCqCfg r.val) 8 = true ∧ s.regN .dwCqProd r.val ≠ s.regN .dwCqCons r.val))

/-- A lease release frees the caller's own lease and changes nothing else, and is performed after the hart's earlier
    stores. Cites R116. -/
def Obligations.LeaseReleaseFreesOnlyTheCallersLease : Prop :=
  (∀ (old : Nat) (c : W32) (e : W16),
     fld old 55 48 = 1 →
     fld old 31 0 = c.toNat →
     fld old 47 32 = e.toNat →
     (homeNew (.leaseRel c e) old).2 = 0 ∧ fld (homeNew (.leaseRel c e) old).1 55 48 = 0 ∧ fld (homeNew (.leaseRel c e)
       old).1 31 0 = fld old 31 0 ∧ fld (homeNew (.leaseRel c e) old).1 47 32 = fld old 47 32 ∧ fld (homeNew (.leaseRel
       c e) old).1 63 56 = fld old 63 56 ∧ (homeNew (.leaseRel c e) old).1 / 2 ^ 64 = old / 2 ^ 64) ∧
  (∀ (old : Nat) (c : W32) (e : W16),
     (¬(fld old 55 48 = 1 ∧ fld old 31 0 = c.toNat ∧ fld old 47 32 = e.toNat)) →
     homeNew (.leaseRel c e) old = (old, old % 2 ^ 64)) ∧
  (∀ (h : HartId) (w : W32) (s : State),
     s.canRunWord h w custom1 0x19 = true →
     s.hasStores h = true →
     ∃ t, exec (.szLrel h w) s = .next t ∧ t.mem = s.mem ∧ (t.hart h).pc = (s.hart h).pc ∧ (t.hart h).x = (s.hart h).x)

/-- The two views of an attic map every offset to its bank and place, and the mapping reverses. Cites R160, R161. -/
def Obligations.AtticViewsMapEveryOffset : Prop :=
  (∀ (o : Nat),
     o < 0xC000000 →
     atticBank false o = o / 256 % 48 ∧ atticWithin false o = o / 256 / 48 * 256 + o % 256 ∧ (atticWithin false o / 256
       * 48 + atticBank false o) * 256 + atticWithin false o % 256 = o ∧ atticBank false o < 48 ∧ atticWithin false o <
       0x400000 ∧ atticBank true o = o / 0x400000 ∧ atticWithin true o = o % 0x400000) ∧
  (∀ (b w : Nat),
     b < 48 →
     w < 0x400000 →
     atticBank false ((w / 256 * 48 + b) * 256 + w % 256) = b ∧ atticWithin false ((w / 256 * 48 + b) * 256 + w % 256) =
       w ∧ (w / 256 * 48 + b) * 256 + w % 256 < 0xC000000) ∧
  (∀ (r o : Nat) (banked : Bool),
     atticKey r banked o = atticKey r true (atticBank banked o * 0x400000 + atticWithin banked o))
end

