-- ==== Sys2Proof/Laws/Tab.lean ====
section
/-! SUPPORT. Laws of sparse tables and of byte strings: reading after placing, and the rising order of keys. -/
namespace Sys2Proof

variable {α : Type}

@[simp] theorem tget_tset_same (k : Nat) (v : α) (t : Tab α) : tget k (tset k v t) = some v := by
  induction t with
  | nil => simp [tset, tget]
  | cons a t ih =>
    obtain ⟨j, w⟩ := a
    simp only [tset]
    split
    · simp [tget]
    · split
      · simp [tget]
      · rename_i h
        simp [tget, Ne.symm h, ih]

theorem tget_tset_ne (k j : Nat) (v : α) (t : Tab α) (h : j ≠ k) : tget j (tset k v t) = tget j t := by
  induction t with
  | nil => simp [tset, tget, Ne.symm h]
  | cons a t ih =>
    obtain ⟨i, w⟩ := a
    simp only [tset]
    split
    · simp [tget, Ne.symm h]
    · split
      · rename_i e
        subst e
        simp [tget, Ne.symm h]
      · simp [tget, ih]

@[simp] theorem tgetD_tset_same (k : Nat) (v d : α) (t : Tab α) : tgetD (tset k v t) k d = v := by
  simp [tgetD]

theorem tgetD_tset_ne (k j : Nat) (v d : α) (t : Tab α) (h : j ≠ k) : tgetD (tset k v t) j d = tgetD t j d := by
  simp [tgetD, tget_tset_ne k j v t h]

theorem tget_filter_key (p : Nat → Bool) (k : Nat) (t : Tab α) (h : p k = true) :
    tget k (t.filter fun c => p c.1) = tget k t := by
  induction t with
  | nil => rfl
  | cons a t ih =>
    obtain ⟨j, w⟩ := a
    by_cases e : j = k
    · subst e
      simp [List.filter, h, tget]
    · cases hp : p j <;> simp [List.filter, hp, tget, e, ih]

theorem tsortedFrom_mono {a b : Nat} (h : a ≤ b) {t : Tab α} (ht : tsortedFrom b t = true) : tsortedFrom a t = true := by
  cases t with
  | nil => rfl
  | cons x t =>
    obtain ⟨j, w⟩ := x
    simp only [tsortedFrom, Bool.and_eq_true, decide_eq_true_eq] at ht ⊢
    exact ⟨by omega, ht.2⟩

/-- Placing a value keeps keys rising. -/
theorem tsortedFrom_tset (b k : Nat) (v : α) (t : Tab α) (hk : b ≤ k) (ht : tsortedFrom b t = true) :
    tsortedFrom b (tset k v t) = true := by
  induction t generalizing b with
  | nil => simp [tset, tsortedFrom, hk]
  | cons a t ih =>
    obtain ⟨j, w⟩ := a
    simp only [tsortedFrom, Bool.and_eq_true, decide_eq_true_eq] at ht
    simp only [tset]
    split
    · rename_i h
      simp only [tsortedFrom, Bool.and_eq_true, decide_eq_true_eq]
      exact ⟨hk, by omega, ht.2⟩
    · split
      · rename_i e
        subst e
        simp only [tsortedFrom, Bool.and_eq_true, decide_eq_true_eq]
        exact ⟨hk, ht.2⟩
      · simp only [tsortedFrom, Bool.and_eq_true, decide_eq_true_eq]
        exact ⟨ht.1, ih (j + 1) (by omega) ht.2⟩

/-- Leaving entries out keeps keys rising. -/
theorem tsortedFrom_filter (b : Nat) (p : Nat × α → Bool) (t : Tab α) (ht : tsortedFrom b t = true) :
    tsortedFrom b (t.filter p) = true := by
  induction t generalizing b with
  | nil => rfl
  | cons a t ih =>
    obtain ⟨j, w⟩ := a
    simp only [tsortedFrom, Bool.and_eq_true, decide_eq_true_eq] at ht
    have hn := ih (j + 1) ht.2
    cases hp : p (j, w)
    · simp only [List.filter, hp]
      exact tsortedFrom_mono (by omega) hn
    · simp only [List.filter, hp, tsortedFrom, Bool.and_eq_true, decide_eq_true_eq]
      exact ⟨ht.1, hn⟩

@[simp] theorem toBytes_length (n x : Nat) : (toBytes n x).length = n := by
  induction n generalizing x with
  | zero => rfl
  | succ n ih => simp [toBytes, ih]

/-- R5: the number that the bytes of a number spell. -/
theorem ofBytes_toBytes (n x : Nat) : ofBytes (toBytes n x) = x % 256 ^ n := by
  induction n generalizing x with
  | zero => simp [toBytes, ofBytes, Nat.mod_one]
  | succ n ih =>
    have e : 256 ^ (n + 1) = 256 * 256 ^ n := by rw [Nat.pow_succ, Nat.mul_comm]
    rw [e, Nat.mod_mul]
    simp [toBytes, ofBytes, ih, BitVec.toNat_ofNat]

@[simp] theorem lset_length (l : List α) (n : Nat) (v : α) : (lset l n v).length = l.length := by
  induction l generalizing n with
  | nil => rfl
  | cons a t ih => cases n <;> simp [lset, ih]

theorem lastN_length (n : Nat) (l : List α) : (lastN n l).length ≤ n := by
  simp [lastN]
  omega

end Sys2Proof
end

