-- ==== Sys2Proof/Laws/Effect.lean ====
section
/-! SUPPORT. What an operation can change: the parts that it may touch, and that it keeps the canonical form of memory. -/
namespace Sys2Proof.Machine

/-- From s to t only the named parts may change, and the canonical form of memory is kept. -/
def Effect (F : List Part) (s t : State) : Prop :=
  (∀ p, F.contains p = false → p.same s t) ∧ (s.Canonical → t.Canonical)

/-- The same of an operation that may give no state. -/
def EffectO (F : List Part) (s : State) (o : Option State) : Prop := ∀ t, o = some t → Effect F s t

/-- The same of an outcome, which is a next state. -/
def EffectR (F : List Part) (s : State) (r : Result) : Prop := ∃ t, r = .next t ∧ Effect F s t

theorem Effect.refl (F : List Part) (s : State) : Effect F s s :=
  ⟨fun p _ => by cases p <;> rfl, id⟩

theorem Part.same_trans {p : Part} {s t u : State} (h : p.same s t) (k : p.same t u) : p.same s u := by
  cases p <;> exact Eq.trans k h

theorem Effect.next {F G : List Part} {b u t : State} (h : Effect G u t) (hG : G.all F.contains = true)
    (k : Effect F b u) : Effect F b t :=
  ⟨fun p hp => Part.same_trans (k.1 p hp) (h.1 p (by
    cases hq : G.contains p with
    | false => rfl
    | true => rw [← List.all_eq_true.mp hG p (List.contains_iff_mem.mp hq), hp])), h.2 ∘ k.2⟩

/-- A state on the way. -/
theorem Effect.via {F : List Part} {b t u : State} (h : Effect F b t) (k : Effect F b t → Effect F b u) : Effect F b u := k h
theorem Effect.viaFst {F : List Part} {α : Type} {b u : State} {t : State × α} (h : Effect F b t.1)
    (k : Effect F b t.1 → Effect F b u) : Effect F b u := k h
theorem EffectR.via {F : List Part} {b t : State} {r : Result} (h : Effect F b t) (k : Effect F b t → EffectR F b r) :
    EffectR F b r := k h
theorem EffectR.viaFst {F : List Part} {α : Type} {b : State} {t : State × α} {r : Result} (h : Effect F b t.1)
    (k : Effect F b t.1 → EffectR F b r) : EffectR F b r := k h
theorem EffectO.via {F : List Part} {b t : State} {r : Option State} (h : Effect F b t) (k : Effect F b t → EffectO F b r) :
    EffectO F b r := k h

theorem Effect.mono {F G : List Part} {b t : State} (h : Effect G b t) (hG : G.all F.contains = true) : Effect F b t :=
  Effect.next h hG (Effect.refl F b)

/-- A state that differs in parts other than the queue, the identity and memory. -/
theorem Effect.upd {F : List Part} {b u : State} {x2 x3 x4 x7 x8 x9 x10 x11 x12 x13 x14 x15 x16 x17 x18 x19 x20 x21 x22 x23 x24 x25 x26 x27 x28 x30 x31 x32 x33 x34 x35 x36 x37 x38 x39 x40 x41 x42 x43 x44 x45 x46 x47 x48 x49 x50 x51 x52 x53 x54 x55 x56 x57 x58 x59 x60 x61 x62 x63} (k : Effect F b u)
    (h : ∀ p, F.contains p = false → p.same u ⟨u.pending, u.fuses, x2, x3, x4, u.mem, u.poison, x7, x8, x9, x10, x11, x12, x13, x14, x15, x16, x17, x18, x19, x20, x21, x22, x23, x24, x25, x26, x27, x28, u.idBlocks, x30, x31, x32, x33, x34, x35, x36, x37, x38, x39, x40, x41, x42, x43, x44, x45, x46, x47, x48, x49, x50, x51, x52, x53, x54, x55, x56, x57, x58, x59, x60, x61, x62, x63⟩) :
    Effect F b ⟨u.pending, u.fuses, x2, x3, x4, u.mem, u.poison, x7, x8, x9, x10, x11, x12, x13, x14, x15, x16, x17, x18, x19, x20, x21, x22, x23, x24, x25, x26, x27, x28, u.idBlocks, x30, x31, x32, x33, x34, x35, x36, x37, x38, x39, x40, x41, x42, x43, x44, x45, x46, x47, x48, x49, x50, x51, x52, x53, x54, x55, x56, x57, x58, x59, x60, x61, x62, x63⟩ :=
  ⟨fun p hp => Part.same_trans (k.1 p hp) (h p hp), fun c => k.2 c⟩

theorem Effect.foldl {α : Type} {F : List Part} {b u : State} {f : State → α → State} {l : List α}
    (h : ∀ t a, Effect F t (f t a)) (k : Effect F b u) : Effect F b (l.foldl f u) := by
  induction l generalizing u with
  | nil => exact k
  | cons a l ih => exact ih (Effect.next (h u a) (by simp) k)

/-- A fold that carries a value beside the state. -/
theorem Effect.foldlFst {α β : Type} {F : List Part} {b : State} {u : State × β} {f : State × β → α → State × β} {l : List α}
    (h : ∀ t a, Effect F t.1 (f t a).1) (k : Effect F b u.1) : Effect F b (l.foldl f u).1 := by
  induction l generalizing u with
  | nil => exact k
  | cons a l ih => exact ih (Effect.next (h u a) (by simp) k)

theorem Effect.getD {F : List Part} {b u : State} {o : Option State} (h : EffectO F b o) (k : Effect F b u) : Effect F b (o.getD u) := by
  cases o with
  | none => exact k
  | some t => exact h t rfl

theorem Effect.fst {α : Type} {G : List Part} {s t : State} {x : State × α} {a : α} (h : Effect G s x.1) (e : x = (t, a)) : Effect G s t := by
  subst e
  exact h

theorem EffectO.some {F : List Part} {s t : State} (h : Effect F s t) : EffectO F s (some t) := by
  intro u e
  cases e
  exact h

theorem EffectO.none (F : List Part) (s : State) : EffectO F s none := by
  intro u e
  cases e

theorem EffectO.get {F : List Part} {s t : State} {o : Option State} (h : EffectO F s o) (e : o = .some t) : Effect F s t := h t e

theorem EffectO.next {F G : List Part} {b u : State} {o : Option State} (h : EffectO G u o) (hG : G.all F.contains = true)
    (k : Effect F b u) : EffectO F b o := fun t e => Effect.next (h t e) hG k

theorem EffectR.next {F : List Part} {s t : State} (h : Effect F s t) : EffectR F s (.next t) := ⟨t, rfl, h⟩

theorem EffectR.mono {F G : List Part} {s : State} {r : Result} (h : EffectR G s r) (hG : G.all F.contains = true) : EffectR F s r :=
  let ⟨t, e, k⟩ := h
  ⟨t, e, k.mono hG⟩

/-- A meaning that ends with another operation's outcome. -/
theorem EffectR.after {F G : List Part} {b u : State} {r : Result} (h : EffectR G u r) (hG : G.all F.contains = true)
    (k : Effect F b u) : EffectR F b r :=
  let ⟨t, e, j⟩ := h
  ⟨t, e, j.next hG k⟩

theorem EffectR.ready {F : List Part} {b : Bool} {s u t : State} (k : Effect F s u) (h : Effect F s t) :
    EffectR F s (whenReady b u t) := by
  refine EffectR.next ?_
  cases b
  · exact k
  · exact h

/-! ## Choices -/

theorem Effect.ite {F : List Part} {b t u : State} {c : Prop} [Decidable c] (h : c → Effect F b t) (k : ¬ c → Effect F b u) :
    Effect F b (if c then t else u) := by
  by_cases e : c
  · rw [if_pos e]; exact h e
  · rw [if_neg e]; exact k e

theorem Effect.iteFst {α : Type} {F : List Part} {b : State} {t u : State × α} {c : Prop} [Decidable c]
    (h : c → Effect F b t.1) (k : ¬ c → Effect F b u.1) : Effect F b (if c then t else u).1 := by
  by_cases e : c
  · rw [if_pos e]; exact h e
  · rw [if_neg e]; exact k e

theorem EffectO.ite {F : List Part} {b : State} {t u : Option State} {c : Prop} [Decidable c]
    (h : c → EffectO F b t) (k : ¬ c → EffectO F b u) : EffectO F b (if c then t else u) := by
  by_cases e : c
  · rw [if_pos e]; exact h e
  · rw [if_neg e]; exact k e

theorem EffectR.ite {F : List Part} {b : State} {t u : Result} {c : Prop} [Decidable c]
    (h : c → EffectR F b t) (k : ¬ c → EffectR F b u) : EffectR F b (if c then t else u) := by
  by_cases e : c
  · rw [if_pos e]; exact h e
  · rw [if_neg e]; exact k e

/-! ## The operations that write memory and the list of poisoned words -/

theorem risesFrom_mono {a b : Nat} (h : a ≤ b) {l : List Nat} (hl : risesFrom b l = true) : risesFrom a l = true := by
  cases l with
  | nil => rfl
  | cons j t =>
    simp only [risesFrom, Bool.and_eq_true, decide_eq_true_eq] at hl ⊢
    exact ⟨by omega, hl.2⟩

theorem risesFrom_ninsert (b k : Nat) (l : List Nat) (hk : b ≤ k) (hl : risesFrom b l = true) :
    risesFrom b (ninsert k l) = true := by
  induction l generalizing b with
  | nil => simp [ninsert, risesFrom, hk]
  | cons j t ih =>
    simp only [risesFrom, Bool.and_eq_true, decide_eq_true_eq] at hl
    simp only [ninsert]
    split
    · simp only [risesFrom, Bool.and_eq_true, decide_eq_true_eq]
      exact ⟨hk, by omega, hl.2⟩
    · split
      · simp only [risesFrom, Bool.and_eq_true, decide_eq_true_eq]
        exact hl
      · simp only [risesFrom, Bool.and_eq_true, decide_eq_true_eq]
        exact ⟨hl.1, ih (j + 1) (by omega) hl.2⟩

theorem risesFrom_filter (b : Nat) (p : Nat → Bool) (l : List Nat) (hl : risesFrom b l = true) :
    risesFrom b (l.filter p) = true := by
  induction l generalizing b with
  | nil => rfl
  | cons j t ih =>
    simp only [risesFrom, Bool.and_eq_true, decide_eq_true_eq] at hl
    have hn := ih (j + 1) hl.2
    cases hp : p j
    · simp only [List.filter, hp]
      exact risesFrom_mono (by omega) hn
    · simp only [List.filter, hp, risesFrom, Bool.and_eq_true, decide_eq_true_eq]
      exact ⟨hl.1, hn⟩

theorem Memory.wf_placeBytes (k : Nat) (l : List Byte) (m : List Host.Cell) (h : Memory.wf m = true) :
    Memory.wf (placeBytes k l m) = true := by
  induction l generalizing k m with
  | nil => exact h
  | cons a t ih => exact ih (k + 1) _ (tsortedFrom_tset 0 k a m (by omega) h)

/-- Bytes placed keep the canonical form, and touch memory alone. -/
theorem State.putBytes_effect (s k l) : Effect [.mem] s (State.putBytes s k l) :=
  ⟨fun p hp => by cases p <;> first | rfl | exact Bool.noConfusion hp, fun h => ⟨Memory.wf_placeBytes k l s.mem h.1, h.2⟩⟩

/-- A poison mark set or cleared. -/
theorem State.setPoison_effect (s k p) : Effect [.poison] s (State.setPoison s k p) := by
  refine ⟨fun q hq => by cases q <;> first | rfl | exact Bool.noConfusion hq, fun h => ⟨h.1, ?_⟩⟩
  cases p
  · exact risesFrom_filter 0 _ _ h.2
  · exact risesFrom_ninsert 0 k _ (by omega) h.2

/-- Bytes that are unspecified again. -/
theorem State.forgetBytes_effect (s k n) : Effect [.mem, .poison] s (State.forgetBytes s k n) :=
  ⟨fun p hp => by cases p <;> first | rfl | exact Bool.noConfusion hp,
    fun h => ⟨tsortedFrom_filter 0 _ _ h.1, risesFrom_filter 0 _ _ h.2⟩⟩

end Sys2Proof.Machine
end

