-- ==== Sys2Proof/Laws/EffectOps.lean ====
section
/-! SUPPORT. What the operations and the meanings of Machine/Ops.lean can change: one lemma each. -/
-- The kernel decides the inclusions of each lemma before the next lemma starts.
set_option Elab.async false
set_option linter.all false
namespace Sys2Proof.Machine

theorem State.setHartAt_effect (s a1 a2) : Effect [.harts] s (State.setHartAt s a1 a2) := by
  unfold State.setHartAt
  repeat' (first
    | ((conv => arg 3; arg 64); refine Effect.upd ?_ (by intro p hp; cases p <;> first | exact Bool.noConfusion hp | rfl))
    | (with_reducible apply Effect.refl)
    | (with_reducible assumption)
    | (with_reducible apply Effect.foldl <;> intros)
    | (with_reducible apply Effect.ite <;> intros)
    | (split)
    | (dsimp only))

theorem State.modHartAt_effect (s a1 a2) : Effect [.harts] s (State.modHartAt s a1 a2) := by
  unfold State.modHartAt
  repeat' (first
    | (with_reducible apply Effect.refl)
    | (with_reducible (apply Effect.next; apply State.setHartAt_effect); decide +kernel)
    | (with_reducible assumption)
    | (with_reducible apply Effect.foldl <;> intros)
    | (with_reducible apply Effect.ite <;> intros)
    | (split)
    | (dsimp only))

theorem State.modHart_effect (s a1 a2) : Effect [.harts] s (State.modHart s a1 a2) := by
  unfold State.modHart
  repeat' (first
    | (with_reducible apply Effect.refl)
    | (with_reducible (apply Effect.next; apply State.modHartAt_effect); decide +kernel)
    | (with_reducible assumption)
    | (with_reducible apply Effect.foldl <;> intros)
    | (with_reducible apply Effect.ite <;> intros)
    | (split)
    | (dsimp only))

theorem State.modRoom_effect (s a1 a2) : Effect [.rooms] s (State.modRoom s a1 a2) := by
  unfold State.modRoom
  repeat' (first
    | ((conv => arg 3; arg 64); refine Effect.upd ?_ (by intro p hp; cases p <;> first | exact Bool.noConfusion hp | rfl))
    | (with_reducible apply Effect.refl)
    | (with_reducible assumption)
    | (with_reducible apply Effect.foldl <;> intros)
    | (with_reducible apply Effect.ite <;> intros)
    | (split)
    | (dsimp only))

theorem State.modArray_effect (s a1 a2) : Effect [.arrays] s (State.modArray s a1 a2) := by
  unfold State.modArray
  repeat' (first
    | ((conv => arg 3; arg 64); refine Effect.upd ?_ (by intro p hp; cases p <;> first | exact Bool.noConfusion hp | rfl))
    | (with_reducible apply Effect.refl)
    | (with_reducible assumption)
    | (with_reducible apply Effect.foldl <;> intros)
    | (with_reducible apply Effect.ite <;> intros)
    | (split)
    | (dsimp only))

theorem State.modAttic_effect (s a1 a2) : Effect [.attics] s (State.modAttic s a1 a2) := by
  unfold State.modAttic
  repeat' (first
    | ((conv => arg 3; arg 64); refine Effect.upd ?_ (by intro p hp; cases p <;> first | exact Bool.noConfusion hp | rfl))
    | (with_reducible apply Effect.refl)
    | (with_reducible assumption)
    | (with_reducible apply Effect.foldl <;> intros)
    | (with_reducible apply Effect.ite <;> intros)
    | (split)
    | (dsimp only))

theorem State.modAvu_effect (s a1 a2) : Effect [.avus] s (State.modAvu s a1 a2) := by
  unfold State.modAvu
  repeat' (first
    | ((conv => arg 3; arg 64); refine Effect.upd ?_ (by intro p hp; cases p <;> first | exact Bool.noConfusion hp | rfl))
    | (with_reducible apply Effect.refl)
    | (with_reducible assumption)
    | (with_reducible apply Effect.foldl <;> intros)
    | (with_reducible apply Effect.ite <;> intros)
    | (split)
    | (dsimp only))

theorem State.modTree_effect (s a1 a2) : Effect [.trees] s (State.modTree s a1 a2) := by
  unfold State.modTree
  repeat' (first
    | ((conv => arg 3; arg 64); refine Effect.upd ?_ (by intro p hp; cases p <;> first | exact Bool.noConfusion hp | rfl))
    | (with_reducible apply Effect.refl)
    | (with_reducible assumption)
    | (with_reducible apply Effect.foldl <;> intros)
    | (with_reducible apply Effect.ite <;> intros)
    | (split)
    | (dsimp only))

theorem State.modDoor_effect (s a1 a2) : Effect [.doors] s (State.modDoor s a1 a2) := by
  unfold State.modDoor
  repeat' (first
    | ((conv => arg 3; arg 64); refine Effect.upd ?_ (by intro p hp; cases p <;> first | exact Bool.noConfusion hp | rfl))
    | (with_reducible apply Effect.refl)
    | (with_reducible assumption)
    | (with_reducible apply Effect.foldl <;> intros)
    | (with_reducible apply Effect.ite <;> intros)
    | (split)
    | (dsimp only))

theorem State.modSq_effect (s a1 a2) : Effect [.sqs] s (State.modSq s a1 a2) := by
  unfold State.modSq
  repeat' (first
    | ((conv => arg 3; arg 64); refine Effect.upd ?_ (by intro p hp; cases p <;> first | exact Bool.noConfusion hp | rfl))
    | (with_reducible apply Effect.refl)
    | (with_reducible assumption)
    | (with_reducible apply Effect.foldl <;> intros)
    | (with_reducible apply Effect.ite <;> intros)
    | (split)
    | (dsimp only))

theorem State.modCq_effect (s a1 a2) : Effect [.cqs] s (State.modCq s a1 a2) := by
  unfold State.modCq
  repeat' (first
    | ((conv => arg 3; arg 64); refine Effect.upd ?_ (by intro p hp; cases p <;> first | exact Bool.noConfusion hp | rfl))
    | (with_reducible apply Effect.refl)
    | (with_reducible assumption)
    | (with_reducible apply Effect.foldl <;> intros)
    | (with_reducible apply Effect.ite <;> intros)
    | (split)
    | (dsimp only))

theorem State.jobEnd_effect (s a1 a2) : Effect [.jobs] s (State.jobEnd s a1 a2) := by
  unfold State.jobEnd
  repeat' (first
    | ((conv => arg 3; arg 64); refine Effect.upd ?_ (by intro p hp; cases p <;> first | exact Bool.noConfusion hp | rfl))
    | (with_reducible apply Effect.refl)
    | (with_reducible assumption)
    | (with_reducible apply Effect.foldl <;> intros)
    | (with_reducible apply Effect.ite <;> intros)
    | (split)
    | (dsimp only))

theorem State.modDw_effect (s a1 a2) : Effect [.dws] s (State.modDw s a1 a2) := by
  unfold State.modDw
  repeat' (first
    | ((conv => arg 3; arg 64); refine Effect.upd ?_ (by intro p hp; cases p <;> first | exact Bool.noConfusion hp | rfl))
    | (with_reducible apply Effect.refl)
    | (with_reducible assumption)
    | (with_reducible apply Effect.foldl <;> intros)
    | (with_reducible apply Effect.ite <;> intros)
    | (split)
    | (dsimp only))

theorem State.modWing_effect (s a1 a2) : Effect [.wings] s (State.modWing s a1 a2) := by
  unfold State.modWing
  repeat' (first
    | ((conv => arg 3; arg 64); refine Effect.upd ?_ (by intro p hp; cases p <;> first | exact Bool.noConfusion hp | rfl))
    | (with_reducible apply Effect.refl)
    | (with_reducible assumption)
    | (with_reducible apply Effect.foldl <;> intros)
    | (with_reducible apply Effect.ite <;> intros)
    | (split)
    | (dsimp only))

theorem State.setReg_effect (s a1 a2 a3) : Effect [.regs] s (State.setReg s a1 a2 a3) := by
  unfold State.setReg
  repeat' (first
    | ((conv => arg 3; arg 64); refine Effect.upd ?_ (by intro p hp; cases p <;> first | exact Bool.noConfusion hp | rfl))
    | (with_reducible apply Effect.refl)
    | (with_reducible assumption)
    | (with_reducible apply Effect.foldl <;> intros)
    | (with_reducible apply Effect.ite <;> intros)
    | (split)
    | (dsimp only))

theorem State.setRegN_effect (s a1 a2 a3) : Effect [.regs] s (State.setRegN s a1 a2 a3) := by
  unfold State.setRegN
  repeat' (first
    | (with_reducible apply Effect.refl)
    | (with_reducible (apply Effect.next; apply State.setReg_effect); decide +kernel)
    | (with_reducible assumption)
    | (with_reducible apply Effect.foldl <;> intros)
    | (with_reducible apply Effect.ite <;> intros)
    | (split)
    | (dsimp only))

theorem State.orReg_effect (s a1 a2 a3) : Effect [.regs] s (State.orReg s a1 a2 a3) := by
  unfold State.orReg
  repeat' (first
    | (with_reducible apply Effect.refl)
    | (with_reducible (apply Effect.next; apply State.setReg_effect); decide +kernel)
    | (with_reducible assumption)
    | (with_reducible apply Effect.foldl <;> intros)
    | (with_reducible apply Effect.ite <;> intros)
    | (split)
    | (dsimp only))

theorem State.bumpReg_effect (s a1 a2 a3 a4) : Effect [.regs] s (State.bumpReg s a1 a2 a3 a4) := by
  unfold State.bumpReg
  repeat' (first
    | (with_reducible apply Effect.refl)
    | (with_reducible (apply Effect.next; apply State.setRegN_effect); decide +kernel)
    | (with_reducible assumption)
    | (with_reducible apply Effect.foldl <;> intros)
    | (with_reducible apply Effect.ite <;> intros)
    | (split)
    | (dsimp only))

theorem State.writeReg_effect (s a1 a2 a3) : Effect [.regs] s (State.writeReg s a1 a2 a3) := by
  unfold State.writeReg
  repeat' (first
    | (with_reducible apply Effect.refl)
    | (with_reducible (apply Effect.next; apply State.setReg_effect); decide +kernel)
    | (with_reducible assumption)
    | (with_reducible apply Effect.foldl <;> intros)
    | (with_reducible apply Effect.ite <;> intros)
    | (split)
    | (dsimp only))

theorem State.resetRegs_effect (s a1) : Effect [.regs] s (State.resetRegs s a1) := by
  unfold State.resetRegs
  repeat' (first
    | ((conv => arg 3; arg 64); refine Effect.upd ?_ (by intro p hp; cases p <;> first | exact Bool.noConfusion hp | rfl))
    | (with_reducible apply Effect.refl)
    | (with_reducible assumption)
    | (with_reducible apply Effect.foldl <;> intros)
    | (with_reducible apply Effect.ite <;> intros)
    | (split)
    | (dsimp only))

theorem State.reach_effect (s a1) : Effect [.now] s (State.reach s a1) := by
  unfold State.reach
  repeat' (first
    | ((conv => arg 3; arg 64); refine Effect.upd ?_ (by intro p hp; cases p <;> first | exact Bool.noConfusion hp | rfl))
    | (with_reducible apply Effect.refl)
    | (with_reducible assumption)
    | (with_reducible apply Effect.foldl <;> intros)
    | (with_reducible apply Effect.ite <;> intros)
    | (split)
    | (dsimp only))

theorem State.bump_effect (s) : Effect [.free] s (State.bump s) := by
  unfold State.bump
  repeat' (first
    | ((conv => arg 3; arg 64); refine Effect.upd ?_ (by intro p hp; cases p <;> first | exact Bool.noConfusion hp | rfl))
    | (with_reducible apply Effect.refl)
    | (with_reducible assumption)
    | (with_reducible apply Effect.foldl <;> intros)
    | (with_reducible apply Effect.ite <;> intros)
    | (split)
    | (dsimp only))

theorem State.putInWord_effect (s a1 a2 a3) : Effect [.mem, .poison] s (State.putInWord s a1 a2 a3) := by
  unfold State.putInWord
  repeat' (first
    | (with_reducible apply Effect.refl)
    | (with_reducible (apply Effect.next; apply State.setPoison_effect); decide +kernel)
    | (with_reducible (apply Effect.next; apply State.putBytes_effect); decide +kernel)
    | (with_reducible assumption)
    | (with_reducible apply Effect.foldl <;> intros)
    | (with_reducible apply Effect.ite <;> intros)
    | (split)
    | (dsimp only))

theorem State.putWords_effect (s a1 a2) : Effect [.mem, .poison] s (State.putWords s a1 a2) := by
  unfold State.putWords
  repeat' (first
    | (with_reducible apply Effect.refl)
    | (with_reducible (apply Effect.next; apply State.putInWord_effect); decide +kernel)
    | (with_reducible assumption)
    | (with_reducible apply Effect.foldl <;> intros)
    | (with_reducible apply Effect.ite <;> intros)
    | (split)
    | (dsimp only))

theorem State.copyPoison_effect (s a1 a2) : Effect [.poison] s (State.copyPoison s a1 a2) := by
  unfold State.copyPoison
  repeat' (first
    | (with_reducible apply Effect.refl)
    | (with_reducible (apply Effect.next; apply State.setPoison_effect); decide +kernel)
    | (with_reducible assumption)
    | (with_reducible apply Effect.foldl <;> intros)
    | (with_reducible apply Effect.ite <;> intros)
    | (split)
    | (dsimp only))

theorem State.noteView_effect (s a1 a2 a3 a4) : Effect [.attics] s (State.noteView s a1 a2 a3 a4) := by
  unfold State.noteView
  repeat' (first
    | (with_reducible apply Effect.refl)
    | (with_reducible (apply Effect.next; apply State.modAttic_effect); decide +kernel)
    | (with_reducible assumption)
    | (with_reducible apply Effect.foldl <;> intros)
    | (with_reducible apply Effect.ite <;> intros)
    | (split)
    | (dsimp only))

theorem State.forgetViews_effect (s a1 a2 a3 a4) : Effect [.attics] s (State.forgetViews s a1 a2 a3 a4) := by
  unfold State.forgetViews
  repeat' (first
    | (with_reducible apply Effect.refl)
    | (with_reducible (apply Effect.next; apply State.modAttic_effect); decide +kernel)
    | (with_reducible assumption)
    | (with_reducible apply Effect.foldl <;> intros)
    | (with_reducible apply Effect.ite <;> intros)
    | (split)
    | (dsimp only))

theorem State.putAttic_effect (s a1 a2 a3 a4) : Effect [.mem, .poison] s (State.putAttic s a1 a2 a3 a4) := by
  unfold State.putAttic
  repeat' (first
    | (with_reducible apply Effect.refl)
    | (with_reducible (apply Effect.next; apply State.putInWord_effect); decide +kernel)
    | (with_reducible assumption)
    | (with_reducible apply Effect.foldl <;> intros)
    | (with_reducible apply Effect.ite <;> intros)
    | (split)
    | (dsimp only))

theorem State.dropLines_effect (s a1 a2 a3) : Effect [.rooms] s (State.dropLines s a1 a2 a3) := by
  unfold State.dropLines
  repeat' (first
    | (with_reducible apply Effect.refl)
    | (with_reducible (apply Effect.next; apply State.modRoom_effect); decide +kernel)
    | (with_reducible assumption)
    | (with_reducible apply Effect.foldl <;> intros)
    | (with_reducible apply Effect.ite <;> intros)
    | (split)
    | (dsimp only))

theorem State.dropReservations_effect (s a1 a2 a3) : Effect [.harts] s (State.dropReservations s a1 a2 a3) := by
  unfold State.dropReservations
  repeat' (first
    | ((conv => arg 3; arg 64); refine Effect.upd ?_ (by intro p hp; cases p <;> first | exact Bool.noConfusion hp | rfl))
    | (with_reducible apply Effect.refl)
    | (with_reducible assumption)
    | (with_reducible apply Effect.foldl <;> intros)
    | (with_reducible apply Effect.ite <;> intros)
    | (split)
    | (dsimp only))

theorem State.setGuard_effect (s a1 a2 a3) : Effect [.guards] s (State.setGuard s a1 a2 a3) := by
  unfold State.setGuard
  repeat' (first
    | ((conv => arg 3; arg 64); refine Effect.upd ?_ (by intro p hp; cases p <;> first | exact Bool.noConfusion hp | rfl))
    | (with_reducible apply Effect.refl)
    | (with_reducible assumption)
    | (with_reducible apply Effect.foldl <;> intros)
    | (with_reducible apply Effect.ite <;> intros)
    | (split)
    | (dsimp only))

theorem State.moveGuard_effect (s a1 a2 a3) : Effect [.guards] s (State.moveGuard s a1 a2 a3) := by
  unfold State.moveGuard
  repeat' (first
    | ((conv => arg 3; arg 64); refine Effect.upd ?_ (by intro p hp; cases p <;> first | exact Bool.noConfusion hp | rfl))
    | (with_reducible apply Effect.refl)
    | (with_reducible assumption)
    | (with_reducible apply Effect.foldl <;> intros)
    | (with_reducible apply Effect.ite <;> intros)
    | (split)
    | (dsimp only))

theorem State.dropGuard_effect (s a1) : Effect [.guards] s (State.dropGuard s a1) := by
  unfold State.dropGuard
  repeat' (first
    | ((conv => arg 3; arg 64); refine Effect.upd ?_ (by intro p hp; cases p <;> first | exact Bool.noConfusion hp | rfl))
    | (with_reducible apply Effect.refl)
    | (with_reducible assumption)
    | (with_reducible apply Effect.foldl <;> intros)
    | (with_reducible apply Effect.ite <;> intros)
    | (split)
    | (dsimp only))

theorem State.widenGuard_effect (s a1 a2 a3) : Effect [.guards] s (State.widenGuard s a1 a2 a3) := by
  unfold State.widenGuard
  repeat' (first
    | ((conv => arg 3; arg 64); refine Effect.upd ?_ (by intro p hp; cases p <;> first | exact Bool.noConfusion hp | rfl))
    | (with_reducible apply Effect.refl)
    | (with_reducible (apply Effect.next; apply State.setGuard_effect); decide +kernel)
    | (with_reducible assumption)
    | (with_reducible apply Effect.foldl <;> intros)
    | (with_reducible apply Effect.ite <;> intros)
    | (split)
    | (dsimp only))

theorem State.noteFresh_effect (s a1 a2 a3) : Effect [.guards] s (State.noteFresh s a1 a2 a3) := by
  unfold State.noteFresh
  repeat' (first
    | (with_reducible apply Effect.refl)
    | (with_reducible (apply Effect.next; apply State.widenGuard_effect); decide +kernel)
    | (with_reducible assumption)
    | (with_reducible apply Effect.foldl <;> intros)
    | (with_reducible apply Effect.ite <;> intros)
    | (split)
    | (dsimp only))

theorem State.blur_effect (s a1) : Effect [.mem] s (State.blur s a1) := by
  unfold State.blur
  repeat' (first
    | (with_reducible apply Effect.refl)
    | (with_reducible (apply Effect.next; apply State.putBytes_effect); decide +kernel)
    | (with_reducible assumption)
    | (with_reducible apply Effect.foldl <;> intros)
    | (with_reducible apply Effect.ite <;> intros)
    | (split)
    | (dsimp only))

theorem State.unblur_effect (s a1) : Effect [.mem] s (State.unblur s a1) := by
  unfold State.unblur
  repeat' (first
    | (with_reducible apply Effect.refl)
    | (with_reducible (apply Effect.next; apply State.putBytes_effect); decide +kernel)
    | (with_reducible assumption)
    | (with_reducible apply Effect.foldl <;> intros)
    | (with_reducible apply Effect.ite <;> intros)
    | (split)
    | (dsimp only))

theorem State.dropSeqs_effect (s a1) : Effect [.guards] s (State.dropSeqs s a1) := by
  unfold State.dropSeqs
  repeat' (first
    | ((conv => arg 3; arg 64); refine Effect.upd ?_ (by intro p hp; cases p <;> first | exact Bool.noConfusion hp | rfl))
    | (with_reducible apply Effect.refl)
    | (with_reducible assumption)
    | (with_reducible apply Effect.foldl <;> intros)
    | (with_reducible apply Effect.ite <;> intros)
    | (split)
    | (dsimp only))

theorem State.storeNote_effect (s a1) : Effect [.guards] s (State.storeNote s a1) := by
  unfold State.storeNote
  repeat' (first
    | ((conv => arg 3; arg 64); refine Effect.upd ?_ (by intro p hp; cases p <;> first | exact Bool.noConfusion hp | rfl))
    | (with_reducible apply Effect.refl)
    | (with_reducible assumption)
    | (with_reducible apply Effect.foldl <;> intros)
    | (with_reducible apply Effect.ite <;> intros)
    | (split)
    | (dsimp only))

theorem State.testWatches_effect (s a1) : Effect [.harts, .dws] s (State.testWatches s a1) := by
  unfold State.testWatches
  repeat' (first
    | ((conv => arg 3; arg 64); refine Effect.upd ?_ (by intro p hp; cases p <;> first | exact Bool.noConfusion hp | rfl))
    | (with_reducible apply Effect.refl)
    | (with_reducible assumption)
    | (with_reducible apply Effect.foldl <;> intros)
    | (with_reducible apply Effect.ite <;> intros)
    | (split)
    | (dsimp only))

theorem State.bumpCount_effect (s a1 a2 a3) : Effect [.regs, .harts, .dws] s (State.bumpCount s a1 a2 a3) := by
  unfold State.bumpCount
  repeat' (first
    | (with_reducible apply Effect.refl)
    | (with_reducible (apply Effect.next; apply State.testWatches_effect); decide +kernel)
    | (with_reducible (apply Effect.next; apply State.bumpReg_effect); decide +kernel)
    | (with_reducible assumption)
    | (with_reducible apply Effect.foldl <;> intros)
    | (with_reducible apply Effect.ite <;> intros)
    | (split)
    | (dsimp only))

theorem State.writePantry_effect (s a1 a2 a3 a4) : Effect [.mem, .poison, .harts, .dws] s (State.writePantry s a1 a2 a3 a4) := by
  unfold State.writePantry
  repeat' (first
    | (with_reducible apply Effect.refl)
    | (with_reducible (apply Effect.next; apply State.testWatches_effect); decide +kernel)
    | (with_reducible (apply Effect.next; apply State.dropReservations_effect); decide +kernel)
    | (with_reducible (apply Effect.next; apply State.putWords_effect); decide +kernel)
    | (with_reducible assumption)
    | (with_reducible apply Effect.foldl <;> intros)
    | (with_reducible apply Effect.ite <;> intros)
    | (split)
    | (dsimp only))

theorem State.writeAttic_effect (s a1 a2 a3 a4 a5) : Effect [.mem, .poison, .harts, .rooms, .attics] s (State.writeAttic s a1 a2 a3 a4 a5) := by
  unfold State.writeAttic
  repeat' (first
    | (with_reducible apply Effect.refl)
    | (with_reducible (apply Effect.next; apply State.dropReservations_effect); decide +kernel)
    | (with_reducible (apply Effect.next; apply State.noteView_effect); decide +kernel)
    | (with_reducible (apply Effect.next; apply State.putAttic_effect); decide +kernel)
    | (with_reducible (apply Effect.next; apply State.dropLines_effect); decide +kernel)
    | (with_reducible assumption)
    | (with_reducible apply Effect.foldl <;> intros)
    | (with_reducible apply Effect.ite <;> intros)
    | (split)
    | (dsimp only))

theorem State.ringRecord_effect (s a1 a2) : Effect [.regs, .errRings] s (State.ringRecord s a1 a2) := by
  unfold State.ringRecord
  repeat' (first
    | ((conv => arg 3; arg 64); refine Effect.upd ?_ (by intro p hp; cases p <;> first | exact Bool.noConfusion hp | rfl))
    | (with_reducible apply Effect.refl)
    | (with_reducible (apply Effect.next; apply State.setRegN_effect); decide +kernel)
    | (with_reducible assumption)
    | (with_reducible apply Effect.foldl <;> intros)
    | (with_reducible apply Effect.ite <;> intros)
    | (split)
    | (dsimp only))

theorem State.placeRecord_effect (s a1) : Effect [.regs, .errRings, .wingLogs, .errInFlight] s (State.placeRecord s a1) := by
  unfold State.placeRecord
  repeat' (first
    | ((conv => arg 3; arg 64); refine Effect.upd ?_ (by intro p hp; cases p <;> first | exact Bool.noConfusion hp | rfl))
    | (with_reducible apply Effect.refl)
    | (with_reducible (apply Effect.next; apply State.ringRecord_effect); decide +kernel)
    | (with_reducible assumption)
    | (with_reducible apply Effect.foldl <;> intros)
    | (with_reducible apply Effect.ite <;> intros)
    | (split)
    | (dsimp only))

theorem State.rowFails_effect (s a1 a2 a3 a4) : Effect [.regs, .attics, .errRings, .wingLogs, .errInFlight] s (State.rowFails s a1 a2 a3 a4) := by
  unfold State.rowFails
  repeat' (first
    | (with_reducible apply Effect.refl)
    | (with_reducible (apply Effect.next; apply State.modAttic_effect); decide +kernel)
    | (with_reducible (apply Effect.next; apply State.placeRecord_effect); decide +kernel)
    | (with_reducible assumption)
    | (with_reducible apply Effect.foldl <;> intros)
    | (with_reducible apply Effect.ite <;> intros)
    | (split)
    | (dsimp only))

theorem State.rowEvent_effect (s a1) : Effect [.regs, .attics, .errRings, .wingLogs, .errInFlight] s (State.rowEvent s a1) := by
  unfold State.rowEvent
  repeat' (first
    | (with_reducible apply Effect.refl)
    | (with_reducible (apply Effect.next; apply State.modAttic_effect); decide +kernel)
    | (with_reducible (apply Effect.next; apply State.rowFails_effect); decide +kernel)
    | (with_reducible assumption)
    | (with_reducible apply Effect.foldl <;> intros)
    | (with_reducible apply Effect.ite <;> intros)
    | (split)
    | (dsimp only))

theorem State.post_effect (s a1) : Effect [.regs, .attics, .errRings, .wingLogs, .errInFlight, .ceWindows] s (State.post s a1) := by
  unfold State.post
  repeat' (first
    | ((conv => arg 3; arg 64); refine Effect.upd ?_ (by intro p hp; cases p <;> first | exact Bool.noConfusion hp | rfl))
    | (with_reducible apply Effect.refl)
    | (with_reducible (apply Effect.next; apply State.placeRecord_effect); decide +kernel)
    | (with_reducible (apply Effect.next; apply State.rowEvent_effect); decide +kernel)
    | (with_reducible assumption)
    | (with_reducible apply Effect.foldl <;> intros)
    | (with_reducible apply Effect.ite <;> intros)
    | (split)
    | (dsimp only))

theorem State.useGrant_effect (s a1 a2) : Effect [.power] s (State.useGrant s a1 a2) := by
  unfold State.useGrant
  repeat' (first
    | ((conv => arg 3; arg 64); refine Effect.upd ?_ (by intro p hp; cases p <;> first | exact Bool.noConfusion hp | rfl))
    | (with_reducible apply Effect.refl)
    | (with_reducible assumption)
    | (with_reducible apply Effect.foldl <;> intros)
    | (with_reducible apply Effect.ite <;> intros)
    | (split)
    | (dsimp only))

theorem State.withdrawGrant_effect (s a1 a2) : Effect [.power] s (State.withdrawGrant s a1 a2) := by
  unfold State.withdrawGrant
  repeat' (first
    | ((conv => arg 3; arg 64); refine Effect.upd ?_ (by intro p hp; cases p <;> first | exact Bool.noConfusion hp | rfl))
    | (with_reducible apply Effect.refl)
    | (with_reducible assumption)
    | (with_reducible apply Effect.foldl <;> intros)
    | (with_reducible apply Effect.ite <;> intros)
    | (split)
    | (dsimp only))

theorem State.endKeepWarm_effect (s a1) : Effect [.power, .therm] s (State.endKeepWarm s a1) := by
  unfold State.endKeepWarm
  repeat' (first
    | ((conv => arg 3; arg 64); refine Effect.upd ?_ (by intro p hp; cases p <;> first | exact Bool.noConfusion hp | rfl))
    | (with_reducible apply Effect.refl)
    | (with_reducible (apply Effect.next; apply State.withdrawGrant_effect); decide +kernel)
    | (with_reducible assumption)
    | (with_reducible apply Effect.foldl <;> intros)
    | (with_reducible apply Effect.ite <;> intros)
    | (split)
    | (dsimp only))

theorem State.postRoom_effect (s a1 a2 a3) : Effect [.regs, .attics, .errRings, .wingLogs, .errInFlight, .ceWindows] s (State.postRoom s a1 a2 a3) := by
  unfold State.postRoom
  repeat' (first
    | (with_reducible apply Effect.refl)
    | (with_reducible (apply Effect.next; apply State.post_effect); decide +kernel)
    | (with_reducible assumption)
    | (with_reducible apply Effect.foldl <;> intros)
    | (with_reducible apply Effect.ite <;> intros)
    | (split)
    | (dsimp only))

theorem State.postDie_effect (s a1 a2 a3) : Effect [.regs, .attics, .errRings, .wingLogs, .errInFlight, .ceWindows] s (State.postDie s a1 a2 a3) := by
  unfold State.postDie
  repeat' (first
    | (with_reducible apply Effect.refl)
    | (with_reducible (apply Effect.next; apply State.post_effect); decide +kernel)
    | (with_reducible assumption)
    | (with_reducible apply Effect.foldl <;> intros)
    | (with_reducible apply Effect.ite <;> intros)
    | (split)
    | (dsimp only))

theorem State.atticError_effect (s a1 a2 a3 a4 a5 a6 a7) : Effect [.regs, .attics, .errRings, .wingLogs, .errInFlight, .ceWindows] s (State.atticError s a1 a2 a3 a4 a5 a6 a7) := by
  unfold State.atticError
  repeat' (first
    | (with_reducible apply Effect.refl)
    | (with_reducible (apply Effect.next; apply State.post_effect); decide +kernel)
    | (with_reducible (apply Effect.next; apply State.setRegN_effect); decide +kernel)
    | (with_reducible (apply Effect.next; apply State.orReg_effect); decide +kernel)
    | (with_reducible assumption)
    | (with_reducible apply Effect.foldl <;> intros)
    | (with_reducible apply Effect.ite <;> intros)
    | (split)
    | (dsimp only))

theorem State.atticCe_effect (s a1 a2 a3 a4 a5 a6) : Effect [.regs, .attics, .errRings, .wingLogs, .errInFlight, .ceWindows] s (State.atticCe s a1 a2 a3 a4 a5 a6) := by
  unfold State.atticCe
  repeat' (first
    | (with_reducible apply Effect.refl)
    | (with_reducible (apply Effect.next; apply State.atticError_effect); decide +kernel)
    | (with_reducible (apply Effect.next; apply State.setRegN_effect); decide +kernel)
    | (with_reducible assumption)
    | (with_reducible apply Effect.foldl <;> intros)
    | (with_reducible apply Effect.ite <;> intros)
    | (split)
    | (dsimp only))

theorem State.storeUe_effect (s a1 a2 a3) : Effect [.poison, .regs, .attics, .errRings, .wingLogs, .errInFlight, .ceWindows] s (State.storeUe s a1 a2 a3) := by
  unfold State.storeUe
  repeat' (first
    | (with_reducible apply Effect.refl)
    | (with_reducible (apply Effect.next; apply State.atticError_effect); decide +kernel)
    | (with_reducible (apply Effect.next; apply State.setPoison_effect); decide +kernel)
    | (with_reducible assumption)
    | (with_reducible apply Effect.foldl <;> intros)
    | (with_reducible apply Effect.ite <;> intros)
    | (split)
    | (dsimp only))

theorem State.bankAccess_effect (s a1 a2 a3) : Effect [.regs, .attics, .errRings, .wingLogs, .errInFlight, .ceWindows] s (State.bankAccess s a1 a2 a3) := by
  unfold State.bankAccess
  repeat' (first
    | (with_reducible apply Effect.refl)
    | (with_reducible (apply Effect.next; apply State.atticError_effect); decide +kernel)
    | (with_reducible assumption)
    | (with_reducible apply Effect.foldl <;> intros)
    | (with_reducible apply Effect.ite <;> intros)
    | (split)
    | (dsimp only))

end Sys2Proof.Machine
end

