-- ==== Sys2Proof/Laws/EffectHome.lean ====
section
/-! SUPPORT. What the operations and the meanings of Machine/Home.lean can change: one lemma each. -/
-- The kernel decides the inclusions of each lemma before the next lemma starts.
set_option Elab.async false
set_option linter.all false
namespace Sys2Proof.Machine

theorem State.afterRead_effect (s a1 a2) : Effect [.free, .regs, .attics, .errRings, .wingLogs, .errInFlight, .ceWindows] s (State.afterRead s a1 a2) := by
  unfold State.afterRead
  repeat' (first
    | (with_reducible apply Effect.refl)
    | (with_reducible (apply Effect.next; apply State.bump_effect); decide +kernel)
    | (with_reducible (apply Effect.next; apply State.noteView_effect); decide +kernel)
    | (with_reducible (apply Effect.next; apply State.bankAccess_effect); decide +kernel)
    | (with_reducible assumption)
    | (with_reducible apply Effect.foldl <;> intros)
    | (with_reducible apply Effect.ite <;> intros)
    | (split)
    | (dsimp only))

theorem State.memWrite_effect (s a1 a2 a3) : Effect [.free, .mem, .poison, .regs, .harts, .rooms, .attics, .dws, .errRings, .wingLogs, .errInFlight, .ceWindows] s (State.memWrite s a1 a2 a3) := by
  unfold State.memWrite
  repeat' (first
    | (with_reducible apply Effect.refl)
    | (with_reducible (apply Effect.next; apply State.bump_effect); decide +kernel)
    | (with_reducible (apply Effect.next; apply State.bankAccess_effect); decide +kernel)
    | (with_reducible (apply Effect.next; apply State.writeAttic_effect); decide +kernel)
    | (with_reducible (apply Effect.next; apply State.atticError_effect); decide +kernel)
    | (with_reducible (apply Effect.next; apply State.writePantry_effect); decide +kernel)
    | (with_reducible (apply Effect.next; apply State.postRoom_effect); decide +kernel)
    | (with_reducible (apply Effect.next; apply State.putBytes_effect); decide +kernel)
    | (with_reducible assumption)
    | (with_reducible apply Effect.foldl <;> intros)
    | (with_reducible apply Effect.ite <;> intros)
    | (split)
    | (dsimp only))

theorem State.storeAt_effect (s a1 a2) : Effect [.guards] s (State.storeAt s a1 a2) := by
  unfold State.storeAt
  repeat' (first
    | (with_reducible apply Effect.refl)
    | (with_reducible (apply Effect.next; apply State.storeNote_effect); decide +kernel)
    | (with_reducible assumption)
    | (with_reducible apply Effect.foldl <;> intros)
    | (with_reducible apply Effect.ite <;> intros)
    | (split)
    | (dsimp only))

theorem State.guardSeqs_effect (s a1 a2 a3) : Effect [.guards] s (State.guardSeqs s a1 a2 a3) := by
  unfold State.guardSeqs
  repeat' (first
    | (with_reducible apply Effect.refl)
    | (with_reducible (apply Effect.next; apply State.setGuard_effect); decide +kernel)
    | (with_reducible assumption)
    | (with_reducible apply Effect.foldl <;> intros)
    | (with_reducible apply Effect.ite <;> intros)
    | (split)
    | (dsimp only))

theorem State.guardLease_effect (s a1 a2 a3) : Effect [.guards] s (State.guardLease s a1 a2 a3) := by
  unfold State.guardLease
  repeat' (first
    | (with_reducible apply Effect.refl)
    | (with_reducible (apply Effect.next; apply State.storeAt_effect); decide +kernel)
    | (with_reducible (apply Effect.next; apply State.dropGuard_effect); decide +kernel)
    | (with_reducible (apply Effect.next; apply State.setGuard_effect); decide +kernel)
    | (with_reducible assumption)
    | (with_reducible apply Effect.foldl <;> intros)
    | (with_reducible apply Effect.ite <;> intros)
    | (split)
    | (dsimp only))

theorem State.atomicPerform_effect (s a1 a2 a3) : Effect [.free, .mem, .poison, .regs, .harts, .rooms, .attics, .dws, .errRings, .wingLogs, .errInFlight, .ceWindows, .guards] s (State.atomicPerform s a1 a2 a3) := by
  unfold State.atomicPerform
  repeat' (first
    | (with_reducible apply Effect.refl)
    | (with_reducible (apply Effect.next; apply State.guardLease_effect); decide +kernel)
    | (with_reducible (apply Effect.next; apply State.memWrite_effect); decide +kernel)
    | (with_reducible (apply Effect.next; apply State.afterRead_effect); decide +kernel)
    | (with_reducible assumption)
    | (with_reducible apply Effect.foldl <;> intros)
    | (with_reducible apply Effect.ite <;> intros)
    | (split)
    | (dsimp only))

end Sys2Proof.Machine
end

