-- ==== Sys2Proof/Laws/EffectTranslate.lean ====
section
/-! SUPPORT. What the operations and the meanings of Machine/Translate.lean can change: one lemma each. -/
-- The kernel decides the inclusions of each lemma before the next lemma starts.
set_option Elab.async false
set_option linter.all false
namespace Sys2Proof.Machine

theorem State.noteWalk_effect (s a1 a2 a3 a4) : Effect [.regs, .attics, .errRings, .wingLogs, .errInFlight, .ceWindows] s (State.noteWalk s a1 a2 a3 a4) := by
  unfold State.noteWalk
  repeat' (first
    | (with_reducible apply Effect.refl)
    | (with_reducible (apply Effect.next; apply State.bankAccess_effect); decide +kernel)
    | (with_reducible assumption)
    | (with_reducible apply Effect.foldl <;> intros)
    | (with_reducible apply Effect.ite <;> intros)
    | (split)
    | (dsimp only))

theorem State.fillTlb_effect (s a1 a2) : Effect [.rooms] s (State.fillTlb s a1 a2) := by
  unfold State.fillTlb
  repeat' (first
    | (with_reducible apply Effect.refl)
    | (with_reducible (apply Effect.next; apply State.modRoom_effect); decide +kernel)
    | (with_reducible assumption)
    | (with_reducible apply Effect.foldl <;> intros)
    | (with_reducible apply Effect.ite <;> intros)
    | (split)
    | (dsimp only))

theorem State.invalidateTlb_effect (s a1 a2) : Effect [.rooms] s (State.invalidateTlb s a1 a2) := by
  unfold State.invalidateTlb
  repeat' (first
    | (with_reducible apply Effect.refl)
    | (with_reducible (apply Effect.next; apply State.modRoom_effect); decide +kernel)
    | (with_reducible assumption)
    | (with_reducible apply Effect.foldl <;> intros)
    | (with_reducible apply Effect.ite <;> intros)
    | (split)
    | (dsimp only))

theorem State.trap_effect (s a1 a2 a3) : Effect [.harts] s (State.trap s a1 a2 a3) := by
  unfold State.trap
  repeat' (first
    | (with_reducible apply Effect.refl)
    | (with_reducible (apply Effect.next; apply State.modHart_effect); decide +kernel)
    | (with_reducible assumption)
    | (with_reducible apply Effect.foldl <;> intros)
    | (with_reducible apply Effect.ite <;> intros)
    | (split)
    | (dsimp only))

theorem State.issued_effect (s a1) : Effect [.rooms] s (State.issued s a1) := by
  unfold State.issued
  repeat' (first
    | (with_reducible apply Effect.refl)
    | (with_reducible (apply Effect.next; apply State.modRoom_effect); decide +kernel)
    | (with_reducible assumption)
    | (with_reducible apply Effect.foldl <;> intros)
    | (with_reducible apply Effect.ite <;> intros)
    | (split)
    | (dsimp only))

theorem State.endWfi_effect (s a1) : Effect [.harts] s (State.endWfi s a1) := by
  unfold State.endWfi
  repeat' (first
    | (with_reducible apply Effect.refl)
    | (with_reducible (apply Effect.next; apply State.modHart_effect); decide +kernel)
    | (with_reducible assumption)
    | (with_reducible apply Effect.foldl <;> intros)
    | (with_reducible apply Effect.ite <;> intros)
    | (split)
    | (dsimp only))

end Sys2Proof.Machine
end

