-- ==== Sys2Proof/Laws/EffectEngine.lean ====
section
/-! SUPPORT. What the operations and the meanings of Machine/Engine.lean can change: one lemma each. -/
-- The kernel decides the inclusions of each lemma before the next lemma starts.
set_option Elab.async false
set_option linter.all false
namespace Sys2Proof.Machine

theorem State.pwrite_effect (s a1 a2) : Effect [.free, .mem, .poison, .regs, .harts, .rooms, .attics, .dws, .errRings, .wingLogs, .errInFlight, .ceWindows] s (State.pwrite s a1 a2) := by
  unfold State.pwrite
  repeat' (first
    | (with_reducible apply Effect.refl)
    | (with_reducible (apply Effect.next; apply State.setPoison_effect); decide +kernel)
    | (with_reducible (apply Effect.next; apply State.memWrite_effect); decide +kernel)
    | (with_reducible assumption)
    | (with_reducible apply Effect.foldl <;> intros)
    | (with_reducible apply Effect.ite <;> intros)
    | (split)
    | (dsimp only))

theorem State.unitNoteTo_effect (s a1 a2 a3) : Effect [.regs, .attics, .errRings, .wingLogs, .errInFlight, .ceWindows] s (State.unitNoteTo s a1 a2 a3) := by
  induction a3 generalizing s with
  | nil => exact Effect.refl _ _
  | cons x t ih =>
    unfold State.unitNoteTo
    repeat' (first
      | (with_reducible (apply Effect.next; apply ih); decide +kernel)
      | (with_reducible apply Effect.refl)
      | (with_reducible (apply Effect.next; apply State.noteWalk_effect); decide +kernel)
      | (with_reducible (apply Effect.next; apply State.noteView_effect); decide +kernel)
      | (with_reducible (apply Effect.next; apply State.bankAccess_effect); decide +kernel)
      | (with_reducible assumption)
      | (with_reducible apply Effect.foldl <;> intros)
      | (with_reducible apply Effect.ite <;> intros)
      | (split)
      | (dsimp only))

theorem State.unitNote_effect (s a1 a2 a3 a4) : Effect [.free, .regs, .attics, .errRings, .wingLogs, .errInFlight, .ceWindows] s (State.unitNote s a1 a2 a3 a4) := by
  unfold State.unitNote
  repeat' (first
    | (with_reducible apply Effect.refl)
    | (with_reducible (apply Effect.next; apply State.bump_effect); decide +kernel)
    | (with_reducible (apply Effect.next; apply State.unitNoteTo_effect); decide +kernel)
    | (with_reducible assumption)
    | (with_reducible apply Effect.foldl <;> intros)
    | (with_reducible apply Effect.ite <;> intros)
    | (split)
    | (dsimp only))

theorem State.pwriteAll_effect (s a1 a2) : Effect [.free, .mem, .poison, .regs, .harts, .rooms, .attics, .dws, .errRings, .wingLogs, .errInFlight, .ceWindows] s (State.pwriteAll s a1 a2) := by
  induction a1 generalizing s a2 with
  | nil => exact Effect.refl _ _
  | cons x t ih =>
    unfold State.pwriteAll
    repeat' (first
      | (with_reducible (apply Effect.next; apply ih); decide +kernel)
      | (with_reducible apply Effect.refl)
      | (with_reducible (apply Effect.next; apply State.pwrite_effect); decide +kernel)
      | (with_reducible assumption)
      | (with_reducible apply Effect.foldl <;> intros)
      | (with_reducible apply Effect.ite <;> intros)
      | (split)
      | (dsimp only))

theorem State.spoilBytes_effect (s a1 a2) : Effect [.mem, .poison] s (State.spoilBytes s a1 a2) := by
  unfold State.spoilBytes
  repeat' (first
    | (with_reducible apply Effect.refl)
    | (with_reducible (apply Effect.next; apply State.setPoison_effect); decide +kernel)
    | (with_reducible (apply Effect.next; apply State.putBytes_effect); decide +kernel)
    | (with_reducible assumption)
    | (with_reducible apply Effect.foldl <;> intros)
    | (with_reducible apply Effect.ite <;> intros)
    | (split)
    | (dsimp only))

theorem State.spoilRanges_effect (s a1) : Effect [.mem, .poison] s (State.spoilRanges s a1) := by
  unfold State.spoilRanges
  repeat' (first
    | (with_reducible apply Effect.refl)
    | (with_reducible (apply Effect.next; apply State.spoilBytes_effect); decide +kernel)
    | (with_reducible assumption)
    | (with_reducible apply Effect.foldl <;> intros)
    | (with_reducible apply Effect.ite <;> intros)
    | (split)
    | (dsimp only))

theorem State.spoilKeys_effect (s a1) : Effect [.mem, .poison] s (State.spoilKeys s a1) := by
  unfold State.spoilKeys
  repeat' (first
    | (with_reducible apply Effect.refl)
    | (with_reducible (apply Effect.next; apply State.spoilBytes_effect); decide +kernel)
    | (with_reducible assumption)
    | (with_reducible apply Effect.foldl <;> intros)
    | (with_reducible apply Effect.ite <;> intros)
    | (split)
    | (dsimp only))

theorem State.putPantry_effect (s a1 a2 a3 a4) : Effect [.mem, .poison, .harts, .dws] s (State.putPantry s a1 a2 a3 a4) := by
  unfold State.putPantry
  repeat' (first
    | (with_reducible apply Effect.refl)
    | (with_reducible (apply Effect.next; apply State.writePantry_effect); decide +kernel)
    | (with_reducible assumption)
    | (with_reducible apply Effect.foldl <;> intros)
    | (with_reducible apply Effect.ite <;> intros)
    | (split)
    | (dsimp only))

theorem State.signalSet_effect (s a1 a2 a3) : Effect [.free, .mem, .poison, .regs, .harts, .rooms, .attics, .dws, .errRings, .wingLogs, .errInFlight, .ceWindows, .guards] s (State.signalSet s a1 a2 a3) := by
  unfold State.signalSet
  repeat' (first
    | (with_reducible apply Effect.refl)
    | (with_reducible (apply Effect.next; apply State.atomicPerform_effect); decide +kernel)
    | (with_reducible assumption)
    | (with_reducible apply Effect.foldl <;> intros)
    | (with_reducible apply Effect.ite <;> intros)
    | (split)
    | (dsimp only))

end Sys2Proof.Machine
end

