-- ==== Sys2Proof/Laws/EffectOperands.lean ====
section
/-! SUPPORT. What the operations and the meanings of Machine/Operands.lean can change: one lemma each. -/
-- The kernel decides the inclusions of each lemma before the next lemma starts.
set_option Elab.async false
set_option linter.all false
namespace Sys2Proof.Machine

theorem State.szOperand_effect (s a1 a2) : Effect [.harts] s (State.szOperand s a1 a2) := by
  unfold State.szOperand
  repeat' (first
    | (with_reducible apply Effect.refl)
    | (with_reducible (apply Effect.next; apply State.trap_effect); decide +kernel)
    | (with_reducible assumption)
    | (with_reducible apply Effect.foldl <;> intros)
    | (with_reducible apply Effect.ite <;> intros)
    | (split)
    | (dsimp only))

theorem State.readDescriptor_effect (s h va n l t) (e : State.readDescriptor s h va n = .words l t) :
    Effect [.free, .regs, .rooms, .attics, .errRings, .wingLogs, .errInFlight, .ceWindows] s t := by
  unfold State.readDescriptor at e
  repeat' (first
    | (cases e; done)
    | (split at e)
    | (dsimp only at e)
    | (cases e)
    | (with_reducible (apply Effect.next; apply State.afterRead_effect); decide +kernel)
    | (with_reducible (apply Effect.next; apply State.fillTlb_effect); decide +kernel)
    | (with_reducible (apply Effect.next; apply State.noteWalk_effect); decide +kernel)
    | (with_reducible apply Effect.refl))

theorem State.readDescriptor_trapEffect (s h va n c v t) (e : State.readDescriptor s h va n = .trap c v t) :
    Effect [.free, .regs, .rooms, .attics, .errRings, .wingLogs, .errInFlight, .ceWindows] s t := by
  unfold State.readDescriptor at e
  repeat' (first
    | (cases e; done)
    | (split at e)
    | (dsimp only at e)
    | (cases e)
    | (with_reducible (apply Effect.next; apply State.afterRead_effect); decide +kernel)
    | (with_reducible (apply Effect.next; apply State.fillTlb_effect); decide +kernel)
    | (with_reducible (apply Effect.next; apply State.noteWalk_effect); decide +kernel)
    | (with_reducible apply Effect.refl))

end Sys2Proof.Machine
end

