-- ==== Sys2Proof/Laws/EffectArray.lean ====
section
/-! SUPPORT. What the operations and the meanings of Machine/Array.lean can change: one lemma each. -/
-- The kernel decides the inclusions of each lemma before the next lemma starts.
set_option Elab.async false
set_option linter.all false
namespace Sys2Proof.Machine

theorem State.putRows_effect (s a1 a2) : Effect [.free, .mem, .poison, .regs, .harts, .rooms, .attics, .dws, .errRings, .wingLogs, .errInFlight, .ceWindows] s (State.putRows s a1 a2) := by
  unfold State.putRows
  repeat' (first
    | (with_reducible apply Effect.refl)
    | (with_reducible (apply Effect.next; apply State.pwrite_effect); decide +kernel)
    | (with_reducible assumption)
    | (with_reducible apply Effect.foldl <;> intros)
    | (with_reducible apply Effect.ite <;> intros)
    | (split)
    | (dsimp only))

theorem State.arrayRecord_effect (s a1 a2 a3 a4 a5) : Effect [.mem, .poison, .harts, .dws] s (State.arrayRecord s a1 a2 a3 a4 a5) := by
  unfold State.arrayRecord
  repeat' (first
    | (with_reducible apply Effect.refl)
    | (with_reducible (apply Effect.next; apply State.writePantry_effect); decide +kernel)
    | (with_reducible assumption)
    | (with_reducible apply Effect.foldl <;> intros)
    | (with_reducible apply Effect.ite <;> intros)
    | (split)
    | (dsimp only))

theorem State.arrayFinish_effect (s a1 a2 a3 a4 a5) : Effect [.mem, .poison, .regs, .harts, .arrays, .dws] s (State.arrayFinish s a1 a2 a3 a4 a5) := by
  unfold State.arrayFinish
  repeat' (first
    | (with_reducible apply Effect.refl)
    | (with_reducible (apply Effect.next; apply State.bumpCount_effect); decide +kernel)
    | (with_reducible (apply Effect.next; apply State.modArray_effect); decide +kernel)
    | (with_reducible (apply Effect.next; apply State.orReg_effect); decide +kernel)
    | (with_reducible (apply Effect.next; apply State.arrayRecord_effect); decide +kernel)
    | (with_reducible assumption)
    | (with_reducible apply Effect.foldl <;> intros)
    | (with_reducible apply Effect.ite <;> intros)
    | (split)
    | (dsimp only))

theorem State.arrayRejected_effect (a0 a1 s) : Effect [.mem, .poison, .regs, .harts, .arrays, .dws] s (State.arrayRejected a0 a1 s) := by
  induction a0 generalizing a1 s with
  | zero => exact Effect.refl _ _
  | succ f ih =>
    unfold State.arrayRejected
    repeat' (first
      | (with_reducible (apply Effect.next; apply ih); decide +kernel)
      | (with_reducible apply Effect.refl)
      | (with_reducible (apply Effect.next; apply State.arrayFinish_effect); decide +kernel)
      | (with_reducible assumption)
      | (with_reducible apply Effect.foldl <;> intros)
      | (with_reducible apply Effect.ite <;> intros)
      | (split)
      | (dsimp only))

theorem State.arrayComplete_effect (s a1 a2 a3 a4 a5) : Effect [.mem, .poison, .regs, .harts, .arrays, .dws] s (State.arrayComplete s a1 a2 a3 a4 a5) := by
  unfold State.arrayComplete
  repeat' (first
    | (with_reducible apply Effect.refl)
    | (with_reducible (apply Effect.next; apply State.arrayRejected_effect); decide +kernel)
    | (with_reducible (apply Effect.next; apply State.arrayFinish_effect); decide +kernel)
    | (with_reducible assumption)
    | (with_reducible apply Effect.foldl <;> intros)
    | (with_reducible apply Effect.ite <;> intros)
    | (split)
    | (dsimp only))

theorem State.freeCells_effect (s a1 a2) : Effect [.arrays] s (State.freeCells s a1 a2) := by
  unfold State.freeCells
  repeat' (first
    | (with_reducible apply Effect.refl)
    | (with_reducible (apply Effect.next; apply State.modArray_effect); decide +kernel)
    | (with_reducible assumption)
    | (with_reducible apply Effect.foldl <;> intros)
    | (with_reducible apply Effect.ite <;> intros)
    | (split)
    | (dsimp only))

theorem State.arrayCut_effect (s a1 a2) : Effect [.free, .mem, .poison, .regs, .harts, .rooms, .arrays, .attics, .dws, .errRings, .wingLogs, .errInFlight, .ceWindows] s (State.arrayCut s a1 a2) := by
  unfold State.arrayCut
  repeat' (first
    | (with_reducible apply Effect.refl)
    | (with_reducible (apply Effect.next; apply State.putRows_effect); decide +kernel)
    | (with_reducible (apply Effect.next; apply State.bumpReg_effect); decide +kernel)
    | (with_reducible (apply Effect.next; apply State.freeCells_effect); decide +kernel)
    | (with_reducible assumption)
    | (with_reducible apply Effect.foldl <;> intros)
    | (with_reducible apply Effect.ite <;> intros)
    | (split)
    | (dsimp only))

theorem State.arrayAbort_effect (a0 a1 s) : Effect [.free, .mem, .poison, .regs, .harts, .rooms, .arrays, .attics, .dws, .errRings, .wingLogs, .errInFlight, .ceWindows] s (State.arrayAbort a0 a1 s) := by
  induction a0 generalizing a1 s with
  | zero => exact Effect.refl _ _
  | succ f ih =>
    unfold State.arrayAbort
    repeat' (first
      | (with_reducible (apply Effect.next; apply ih); decide +kernel)
      | (with_reducible apply Effect.refl)
      | (with_reducible (apply Effect.next; apply State.arrayCut_effect); decide +kernel)
      | (with_reducible (apply Effect.next; apply State.arrayFinish_effect); decide +kernel)
      | (with_reducible (apply Effect.next; apply State.bump_effect); decide +kernel)
      | (with_reducible assumption)
      | (with_reducible apply Effect.foldl <;> intros)
      | (with_reducible apply Effect.ite <;> intros)
      | (split)
      | (dsimp only))

theorem State.arrayFlush_effect (s a1) : Effect [.free, .mem, .poison, .regs, .harts, .rooms, .arrays, .attics, .dws, .errRings, .wingLogs, .errInFlight, .ceWindows] s (State.arrayFlush s a1) := by
  unfold State.arrayFlush
  repeat' (first
    | (with_reducible apply Effect.refl)
    | (with_reducible (apply Effect.next; apply State.arrayAbort_effect); decide +kernel)
    | (with_reducible (apply Effect.next; apply State.forgetBytes_effect); decide +kernel)
    | (with_reducible (apply Effect.next; apply State.orReg_effect); decide +kernel)
    | (with_reducible (apply Effect.next; apply State.modArray_effect); decide +kernel)
    | (with_reducible assumption)
    | (with_reducible apply Effect.foldl <;> intros)
    | (with_reducible apply Effect.ite <;> intros)
    | (split)
    | (dsimp only))

theorem State.trapStalled_effect (s a1) : Effect [.harts] s (State.trapStalled s a1) := by
  unfold State.trapStalled
  repeat' (first
    | ((conv => arg 3; arg 64); refine Effect.upd ?_ (by intro p hp; cases p <;> first | exact Bool.noConfusion hp | rfl))
    | (with_reducible apply Effect.refl)
    | (with_reducible assumption)
    | (with_reducible apply Effect.foldl <;> intros)
    | (with_reducible apply Effect.ite <;> intros)
    | (split)
    | (dsimp only))

theorem State.arrayForceRelease_effect (s a1) : Effect [.free, .mem, .poison, .regs, .harts, .rooms, .arrays, .attics, .dws, .errRings, .wingLogs, .errInFlight, .ceWindows] s (State.arrayForceRelease s a1) := by
  unfold State.arrayForceRelease
  repeat' (first
    | (with_reducible apply Effect.refl)
    | (with_reducible (apply Effect.next; apply State.trapStalled_effect); decide +kernel)
    | (with_reducible (apply Effect.next; apply State.modArray_effect); decide +kernel)
    | (with_reducible (apply Effect.next; apply State.arrayFlush_effect); decide +kernel)
    | (with_reducible assumption)
    | (with_reducible apply Effect.foldl <;> intros)
    | (with_reducible apply Effect.ite <;> intros)
    | (split)
    | (dsimp only))

theorem State.arrayEnqueue_effect (s a1 a2 a3) : Effect [.harts, .arrays] s (State.arrayEnqueue s a1 a2 a3) := by
  unfold State.arrayEnqueue
  repeat' (first
    | (with_reducible apply Effect.refl)
    | (with_reducible (apply Effect.next; apply State.modHart_effect); decide +kernel)
    | (with_reducible (apply Effect.next; apply State.modArray_effect); decide +kernel)
    | (with_reducible assumption)
    | (with_reducible apply Effect.foldl <;> intros)
    | (with_reducible apply Effect.ite <;> intros)
    | (split)
    | (dsimp only))

theorem State.szDescriptor_effect (s a1 a2 a3) : Effect [.free, .regs, .harts, .rooms, .arrays, .attics, .errRings, .wingLogs, .errInFlight, .ceWindows] s (State.szDescriptor s a1 a2 a3) := by
  unfold State.szDescriptor State.withDescriptor
  repeat' (first
    | (with_reducible apply Effect.refl)
    | (with_reducible (apply Effect.next; apply State.modHart_effect); decide +kernel)
    | (with_reducible (apply Effect.next; apply State.trap_effect); decide +kernel)
    | (with_reducible (apply Effect.next; apply State.szOperand_effect); decide +kernel)
    | (with_reducible (apply Effect.next; apply State.arrayEnqueue_effect); decide +kernel)
    | (with_reducible (apply Effect.next; apply State.readDescriptor_effect; assumption); decide +kernel)
    | (with_reducible (apply Effect.next; apply State.readDescriptor_trapEffect; assumption); decide +kernel)
    | (with_reducible assumption)
    | (with_reducible apply Effect.foldl <;> intros)
    | (with_reducible apply Effect.ite <;> intros)
    | (split)
    | (dsimp only [id]))

theorem execSzPass_effect (a0 a1 s) : EffectR [.free, .regs, .harts, .rooms, .arrays, .attics, .errRings, .wingLogs, .errInFlight, .ceWindows] s (execSzPass a0 a1 s) := by
  unfold execSzPass szRun
  repeat' (first
    | (with_reducible apply Effect.refl)
    | (with_reducible (apply Effect.next; apply State.endWfi_effect); decide +kernel)
    | (with_reducible (apply Effect.next; apply State.issued_effect); decide +kernel)
    | (with_reducible (apply Effect.next; apply State.trap_effect); decide +kernel)
    | (with_reducible (apply Effect.next; apply State.szDescriptor_effect); decide +kernel)
    | (with_reducible apply EffectR.ready)
    | (with_reducible apply EffectR.next)
    | (with_reducible assumption)
    | (with_reducible apply Effect.foldl <;> intros)
    | (with_reducible apply Effect.ite <;> intros)
    | (with_reducible apply EffectR.ite <;> intros)
    | (split)
    | (dsimp only [id]))

theorem execSzExport_effect (a0 a1 s) : EffectR [.free, .regs, .harts, .rooms, .arrays, .attics, .errRings, .wingLogs, .errInFlight, .ceWindows] s (execSzExport a0 a1 s) := by
  unfold execSzExport szRun
  repeat' (first
    | (with_reducible apply Effect.refl)
    | (with_reducible (apply Effect.next; apply State.endWfi_effect); decide +kernel)
    | (with_reducible (apply Effect.next; apply State.issued_effect); decide +kernel)
    | (with_reducible (apply Effect.next; apply State.trap_effect); decide +kernel)
    | (with_reducible (apply Effect.next; apply State.szDescriptor_effect); decide +kernel)
    | (with_reducible apply EffectR.ready)
    | (with_reducible apply EffectR.next)
    | (with_reducible assumption)
    | (with_reducible apply Effect.foldl <;> intros)
    | (with_reducible apply Effect.ite <;> intros)
    | (with_reducible apply EffectR.ite <;> intros)
    | (split)
    | (dsimp only [id]))

theorem execSzStage_effect (a0 a1 s) : EffectR [.harts, .rooms, .arrays] s (execSzStage a0 a1 s) := by
  unfold execSzStage szRun
  repeat' (first
    | (with_reducible apply Effect.refl)
    | (with_reducible (apply Effect.next; apply State.endWfi_effect); decide +kernel)
    | (with_reducible (apply Effect.next; apply State.issued_effect); decide +kernel)
    | (with_reducible (apply Effect.next; apply State.trap_effect); decide +kernel)
    | (with_reducible (apply Effect.next; apply State.szOperand_effect); decide +kernel)
    | (with_reducible (apply Effect.next; apply State.modHart_effect); decide +kernel)
    | (with_reducible (apply Effect.next; apply State.modArray_effect); decide +kernel)
    | (with_reducible apply EffectR.ready)
    | (with_reducible apply EffectR.next)
    | (with_reducible assumption)
    | (with_reducible apply Effect.foldl <;> intros)
    | (with_reducible apply Effect.ite <;> intros)
    | (with_reducible apply EffectR.ite <;> intros)
    | (split)
    | (dsimp only [id]))

theorem State.result_effect (s a1 a2 a3) : Effect [.harts] s (State.result s a1 a2 a3) := by
  unfold State.result
  repeat' (first
    | (with_reducible apply Effect.refl)
    | (with_reducible (apply Effect.next; apply State.modHart_effect); decide +kernel)
    | (with_reducible assumption)
    | (with_reducible apply Effect.foldl <;> intros)
    | (with_reducible apply Effect.ite <;> intros)
    | (split)
    | (dsimp only))

theorem execSzModeQuery_effect (a0 a1 s) : EffectR [.harts, .rooms] s (execSzModeQuery a0 a1 s) := by
  unfold execSzModeQuery szRun
  repeat' (first
    | (with_reducible apply Effect.refl)
    | (with_reducible (apply Effect.next; apply State.endWfi_effect); decide +kernel)
    | (with_reducible (apply Effect.next; apply State.issued_effect); decide +kernel)
    | (with_reducible (apply Effect.next; apply State.trap_effect); decide +kernel)
    | (with_reducible (apply Effect.next; apply State.szOperand_effect); decide +kernel)
    | (with_reducible (apply Effect.next; apply State.result_effect); decide +kernel)
    | (with_reducible apply EffectR.ready)
    | (with_reducible apply EffectR.next)
    | (with_reducible assumption)
    | (with_reducible apply Effect.foldl <;> intros)
    | (with_reducible apply Effect.ite <;> intros)
    | (with_reducible apply EffectR.ite <;> intros)
    | (split)
    | (dsimp only [id]))

theorem execSzModeClaim_effect (a0 a1 s) : EffectR [.harts, .rooms, .arrays] s (execSzModeClaim a0 a1 s) := by
  unfold execSzModeClaim szRun
  repeat' (first
    | (with_reducible apply Effect.refl)
    | (with_reducible (apply Effect.next; apply State.endWfi_effect); decide +kernel)
    | (with_reducible (apply Effect.next; apply State.issued_effect); decide +kernel)
    | (with_reducible (apply Effect.next; apply State.trap_effect); decide +kernel)
    | (with_reducible (apply Effect.next; apply State.result_effect); decide +kernel)
    | (with_reducible (apply Effect.next; apply State.modArray_effect); decide +kernel)
    | (with_reducible apply EffectR.ready)
    | (with_reducible apply EffectR.next)
    | (with_reducible assumption)
    | (with_reducible apply Effect.foldl <;> intros)
    | (with_reducible apply Effect.ite <;> intros)
    | (with_reducible apply EffectR.ite <;> intros)
    | (split)
    | (dsimp only [id]))

theorem State.arrayRelease_effect (s a1 a2) : Effect [.arrays] s (State.arrayRelease s a1 a2) := by
  unfold State.arrayRelease
  repeat' (first
    | (with_reducible apply Effect.refl)
    | (with_reducible (apply Effect.next; apply State.modArray_effect); decide +kernel)
    | (with_reducible assumption)
    | (with_reducible apply Effect.foldl <;> intros)
    | (with_reducible apply Effect.ite <;> intros)
    | (split)
    | (dsimp only))

theorem execSzModeRelease_effect (a0 a1 s) : EffectR [.harts, .rooms, .arrays] s (execSzModeRelease a0 a1 s) := by
  unfold execSzModeRelease szRun
  repeat' (first
    | (with_reducible apply Effect.refl)
    | (with_reducible (apply Effect.next; apply State.endWfi_effect); decide +kernel)
    | (with_reducible (apply Effect.next; apply State.issued_effect); decide +kernel)
    | (with_reducible (apply Effect.next; apply State.trap_effect); decide +kernel)
    | (with_reducible (apply Effect.next; apply State.arrayRelease_effect); decide +kernel)
    | (with_reducible (apply Effect.next; apply State.result_effect); decide +kernel)
    | (with_reducible apply EffectR.ready)
    | (with_reducible apply EffectR.next)
    | (with_reducible assumption)
    | (with_reducible apply Effect.foldl <;> intros)
    | (with_reducible apply Effect.ite <;> intros)
    | (with_reducible apply EffectR.ite <;> intros)
    | (split)
    | (dsimp only [id]))

theorem execSzDummy_effect (a0 a1 s) : EffectR [.harts, .rooms, .arrays] s (execSzDummy a0 a1 s) := by
  unfold execSzDummy szRun
  repeat' (first
    | (with_reducible apply Effect.refl)
    | (with_reducible (apply Effect.next; apply State.endWfi_effect); decide +kernel)
    | (with_reducible (apply Effect.next; apply State.issued_effect); decide +kernel)
    | (with_reducible (apply Effect.next; apply State.trap_effect); decide +kernel)
    | (with_reducible (apply Effect.next; apply State.szOperand_effect); decide +kernel)
    | (with_reducible (apply Effect.next; apply State.modHart_effect); decide +kernel)
    | (with_reducible (apply Effect.next; apply State.arrayEnqueue_effect); decide +kernel)
    | (with_reducible apply EffectR.ready)
    | (with_reducible apply EffectR.next)
    | (with_reducible assumption)
    | (with_reducible apply Effect.foldl <;> intros)
    | (with_reducible apply Effect.ite <;> intros)
    | (with_reducible apply EffectR.ite <;> intros)
    | (split)
    | (dsimp only [id]))

theorem execStageStart_effect (a0 s) : EffectR [.arrays, .guards] s (execStageStart a0 s) := by
  unfold execStageStart
  repeat' (first
    | (with_reducible apply Effect.refl)
    | (with_reducible (apply Effect.next; apply State.setGuard_effect); decide +kernel)
    | (with_reducible (apply Effect.next; apply State.modArray_effect); decide +kernel)
    | (with_reducible apply EffectR.ready)
    | (with_reducible apply EffectR.next)
    | (with_reducible assumption)
    | (with_reducible apply Effect.foldl <;> intros)
    | (with_reducible apply Effect.ite <;> intros)
    | (with_reducible apply EffectR.ite <;> intros)
    | (split)
    | (dsimp only))

theorem State.stageEnd_effect (s a1 a2 a3) : Effect [.free, .mem, .poison, .regs, .harts, .rooms, .arrays, .attics, .dws, .errRings, .wingLogs, .errInFlight, .ceWindows] s (State.stageEnd s a1 a2 a3) := by
  unfold State.stageEnd
  repeat' (first
    | (with_reducible apply Effect.refl)
    | (with_reducible (apply Effect.next; apply State.modArray_effect); decide +kernel)
    | (with_reducible (apply Effect.next; apply State.pwrite_effect); decide +kernel)
    | (with_reducible (apply Effect.next; apply State.unitNote_effect); decide +kernel)
    | (with_reducible (apply Effect.next; apply State.post_effect); decide +kernel)
    | (with_reducible (apply Effect.next; apply State.orReg_effect); decide +kernel)
    | (with_reducible assumption)
    | (with_reducible apply Effect.foldl <;> intros)
    | (with_reducible apply Effect.ite <;> intros)
    | (split)
    | (dsimp only))

theorem execStageComplete_effect (a0 s) : EffectR [.free, .mem, .poison, .regs, .harts, .rooms, .arrays, .attics, .dws, .errRings, .wingLogs, .errInFlight, .ceWindows] s (execStageComplete a0 s) := by
  unfold execStageComplete
  repeat' (first
    | (with_reducible apply Effect.refl)
    | (with_reducible (apply Effect.next; apply State.stageEnd_effect); decide +kernel)
    | (with_reducible apply EffectR.ready)
    | (with_reducible apply EffectR.next)
    | (with_reducible assumption)
    | (with_reducible apply Effect.foldl <;> intros)
    | (with_reducible apply Effect.ite <;> intros)
    | (with_reducible apply EffectR.ite <;> intros)
    | (split)
    | (dsimp only))

theorem execStageTimeout_effect (a0 s) : EffectR [.now, .regs, .arrays] s (execStageTimeout a0 s) := by
  unfold execStageTimeout
  repeat' (first
    | (with_reducible apply Effect.refl)
    | (with_reducible (apply Effect.next; apply State.orReg_effect); decide +kernel)
    | (with_reducible (apply Effect.next; apply State.modArray_effect); decide +kernel)
    | (with_reducible (apply Effect.next; apply State.reach_effect); decide +kernel)
    | (with_reducible apply EffectR.ready)
    | (with_reducible apply EffectR.next)
    | (with_reducible assumption)
    | (with_reducible apply Effect.foldl <;> intros)
    | (with_reducible apply Effect.ite <;> intros)
    | (with_reducible apply EffectR.ite <;> intros)
    | (split)
    | (dsimp only))

theorem State.rejectEntry_effect (s a1 a2 a3 a4) : Effect [.mem, .poison, .regs, .harts, .arrays, .dws] s (State.rejectEntry s a1 a2 a3 a4) := by
  unfold State.rejectEntry
  repeat' (first
    | (with_reducible apply Effect.refl)
    | (with_reducible (apply Effect.next; apply State.arrayRejected_effect); decide +kernel)
    | (with_reducible (apply Effect.next; apply State.modArray_effect); decide +kernel)
    | (with_reducible assumption)
    | (with_reducible apply Effect.foldl <;> intros)
    | (with_reducible apply Effect.ite <;> intros)
    | (split)
    | (dsimp only))

theorem State.leadCycles_effect (s a1) : Effect [.free, .regs] s (State.leadCycles s a1) := by
  unfold State.leadCycles
  repeat' (first
    | (with_reducible apply Effect.refl)
    | (with_reducible (apply Effect.next; apply State.bumpReg_effect); decide +kernel)
    | (with_reducible (apply Effect.next; apply State.bump_effect); decide +kernel)
    | (with_reducible assumption)
    | (with_reducible apply Effect.foldl <;> intros)
    | (with_reducible apply Effect.ite <;> intros)
    | (split)
    | (dsimp only))

theorem State.passIssue_effect (s a1 a2 a3) : Effect [.free, .regs, .arrays, .power, .therm] s (State.passIssue s a1 a2 a3) := by
  unfold State.passIssue
  repeat' (first
    | (with_reducible apply Effect.refl)
    | (with_reducible (apply Effect.next; apply State.modArray_effect); decide +kernel)
    | (with_reducible (apply Effect.next; apply State.leadCycles_effect); decide +kernel)
    | (with_reducible (apply Effect.next; apply State.endKeepWarm_effect); decide +kernel)
    | (with_reducible (apply Effect.next; apply State.withdrawGrant_effect); decide +kernel)
    | (with_reducible assumption)
    | (with_reducible apply Effect.foldl <;> intros)
    | (with_reducible apply Effect.ite <;> intros)
    | (split)
    | (dsimp only))

theorem execArrayPassIssue_effect (a0 s) : EffectR [.free, .mem, .poison, .regs, .harts, .arrays, .dws, .power, .therm] s (execArrayPassIssue a0 s) := by
  unfold execArrayPassIssue
  repeat' (first
    | (with_reducible apply Effect.refl)
    | (with_reducible (apply Effect.next; apply State.rejectEntry_effect); decide +kernel)
    | (with_reducible (apply Effect.next; apply State.passIssue_effect); decide +kernel)
    | (with_reducible apply EffectR.ready)
    | (with_reducible apply EffectR.next)
    | (with_reducible assumption)
    | (with_reducible apply Effect.foldl <;> intros)
    | (with_reducible apply Effect.ite <;> intros)
    | (with_reducible apply EffectR.ite <;> intros)
    | (split)
    | (dsimp only))

theorem State.passComplete_effect (s a1 a2) : Effect [.free, .mem, .poison, .regs, .harts, .rooms, .arrays, .attics, .dws, .errRings, .wingLogs, .errInFlight, .ceWindows] s (State.passComplete s a1 a2) := by
  unfold State.passComplete
  repeat' (first
    | (with_reducible apply Effect.refl)
    | (with_reducible (apply Effect.next; apply State.modArray_effect); decide +kernel)
    | (with_reducible (apply Effect.next; apply State.bumpReg_effect); decide +kernel)
    | (with_reducible (apply Effect.next; apply State.putRows_effect); decide +kernel)
    | (with_reducible (apply Effect.next; apply State.arrayComplete_effect); decide +kernel)
    | (with_reducible assumption)
    | (with_reducible apply Effect.foldl <;> intros)
    | (with_reducible apply Effect.ite <;> intros)
    | (split)
    | (dsimp only))

theorem execArrayPassComplete_effect (a0 s) : EffectR [.free, .mem, .poison, .regs, .harts, .rooms, .arrays, .attics, .dws, .errRings, .wingLogs, .errInFlight, .ceWindows] s (execArrayPassComplete a0 s) := by
  unfold execArrayPassComplete
  repeat' (first
    | (with_reducible apply Effect.refl)
    | (with_reducible (apply Effect.next; apply State.passComplete_effect); decide +kernel)
    | (with_reducible apply EffectR.ready)
    | (with_reducible apply EffectR.next)
    | (with_reducible assumption)
    | (with_reducible apply Effect.foldl <;> intros)
    | (with_reducible apply Effect.ite <;> intros)
    | (with_reducible apply EffectR.ite <;> intros)
    | (split)
    | (dsimp only))

theorem execArraySlotTimeout_effect (a0 s) : EffectR [.now, .mem, .poison, .regs, .harts, .arrays, .dws] s (execArraySlotTimeout a0 s) := by
  unfold execArraySlotTimeout
  repeat' (first
    | (with_reducible apply Effect.refl)
    | (with_reducible (apply Effect.next; apply State.rejectEntry_effect); decide +kernel)
    | (with_reducible (apply Effect.next; apply State.reach_effect); decide +kernel)
    | (with_reducible apply EffectR.ready)
    | (with_reducible apply EffectR.next)
    | (with_reducible assumption)
    | (with_reducible apply Effect.foldl <;> intros)
    | (with_reducible apply Effect.ite <;> intros)
    | (with_reducible apply EffectR.ite <;> intros)
    | (split)
    | (dsimp only))

theorem exportStart_effect (a0 a1 s) : EffectR [.mem, .poison, .regs, .harts, .arrays, .dws] s (exportStart a0 a1 s) := by
  unfold exportStart
  repeat' (first
    | (with_reducible apply Effect.refl)
    | (with_reducible (apply Effect.next; apply State.rejectEntry_effect); decide +kernel)
    | (with_reducible (apply Effect.next; apply State.modArray_effect); decide +kernel)
    | (with_reducible apply EffectR.ready)
    | (with_reducible apply EffectR.next)
    | (with_reducible assumption)
    | (with_reducible apply Effect.foldl <;> intros)
    | (with_reducible apply Effect.ite <;> intros)
    | (with_reducible apply EffectR.ite <;> intros)
    | (split)
    | (dsimp only))

theorem execArrayExportStart_effect (a0 s) : EffectR [.mem, .poison, .regs, .harts, .arrays, .dws] s (execArrayExportStart a0 s) := by
  unfold execArrayExportStart
  repeat' (first
    | (with_reducible apply Effect.refl)
    | (with_reducible (apply EffectR.after; apply exportStart_effect); decide +kernel)
    | (with_reducible apply EffectR.ready)
    | (with_reducible apply EffectR.next)
    | (with_reducible assumption)
    | (with_reducible apply Effect.foldl <;> intros)
    | (with_reducible apply Effect.ite <;> intros)
    | (with_reducible apply EffectR.ite <;> intros)
    | (split)
    | (dsimp only))

theorem execArrayExportComplete_effect (a0 s) : EffectR [.free, .mem, .poison, .regs, .harts, .rooms, .arrays, .attics, .dws, .errRings, .wingLogs, .errInFlight, .ceWindows] s (execArrayExportComplete a0 s) := by
  unfold execArrayExportComplete
  repeat' (first
    | (with_reducible apply Effect.refl)
    | (with_reducible (apply Effect.next; apply State.arrayComplete_effect); decide +kernel)
    | (with_reducible (apply Effect.next; apply State.putRows_effect); decide +kernel)
    | (with_reducible apply EffectR.ready)
    | (with_reducible apply EffectR.next)
    | (with_reducible assumption)
    | (with_reducible apply Effect.foldl <;> intros)
    | (with_reducible apply Effect.ite <;> intros)
    | (with_reducible apply EffectR.ite <;> intros)
    | (split)
    | (dsimp only))

theorem execArrayImportStart_effect (a0 s) : EffectR [.mem, .poison, .regs, .harts, .arrays, .dws] s (execArrayImportStart a0 s) := by
  unfold execArrayImportStart
  repeat' (first
    | (with_reducible apply Effect.refl)
    | (with_reducible (apply EffectR.after; apply exportStart_effect); decide +kernel)
    | (with_reducible apply EffectR.ready)
    | (with_reducible apply EffectR.next)
    | (with_reducible assumption)
    | (with_reducible apply Effect.foldl <;> intros)
    | (with_reducible apply Effect.ite <;> intros)
    | (with_reducible apply EffectR.ite <;> intros)
    | (split)
    | (dsimp only))

theorem execArrayImportComplete_effect (a0 s) : EffectR [.mem, .poison, .regs, .harts, .arrays, .dws] s (execArrayImportComplete a0 s) := by
  unfold execArrayImportComplete
  repeat' (first
    | (with_reducible apply Effect.refl)
    | (with_reducible (apply Effect.next; apply State.arrayComplete_effect); decide +kernel)
    | (with_reducible (apply Effect.next; apply State.modArray_effect); decide +kernel)
    | (with_reducible apply EffectR.ready)
    | (with_reducible apply EffectR.next)
    | (with_reducible assumption)
    | (with_reducible apply Effect.foldl <;> intros)
    | (with_reducible apply Effect.ite <;> intros)
    | (with_reducible apply EffectR.ite <;> intros)
    | (split)
    | (dsimp only))

theorem execArrayDummyStart_effect (a0 s) : EffectR [.free, .mem, .poison, .regs, .harts, .arrays, .dws, .power, .therm] s (execArrayDummyStart a0 s) := by
  unfold execArrayDummyStart
  repeat' (first
    | (with_reducible apply Effect.refl)
    | (with_reducible (apply Effect.next; apply State.rejectEntry_effect); decide +kernel)
    | (with_reducible (apply Effect.next; apply State.modArray_effect); decide +kernel)
    | (with_reducible (apply Effect.next; apply State.leadCycles_effect); decide +kernel)
    | (with_reducible (apply Effect.next; apply State.endKeepWarm_effect); decide +kernel)
    | (with_reducible (apply Effect.next; apply State.withdrawGrant_effect); decide +kernel)
    | (with_reducible apply EffectR.ready)
    | (with_reducible apply EffectR.next)
    | (with_reducible assumption)
    | (with_reducible apply Effect.foldl <;> intros)
    | (with_reducible apply Effect.ite <;> intros)
    | (with_reducible apply EffectR.ite <;> intros)
    | (split)
    | (dsimp only))

theorem execArrayDummyComplete_effect (a0 s) : EffectR [.mem, .poison, .regs, .harts, .arrays, .dws] s (execArrayDummyComplete a0 s) := by
  unfold execArrayDummyComplete
  repeat' (first
    | (with_reducible apply Effect.refl)
    | (with_reducible (apply Effect.next; apply State.arrayComplete_effect); decide +kernel)
    | (with_reducible (apply Effect.next; apply State.bumpReg_effect); decide +kernel)
    | (with_reducible apply EffectR.ready)
    | (with_reducible apply EffectR.next)
    | (with_reducible assumption)
    | (with_reducible apply Effect.foldl <;> intros)
    | (with_reducible apply Effect.ite <;> intros)
    | (with_reducible apply EffectR.ite <;> intros)
    | (split)
    | (dsimp only))

theorem execArrayStepDownStart_effect (a0 s) : EffectR [.free, .regs, .arrays, .power] s (execArrayStepDownStart a0 s) := by
  unfold execArrayStepDownStart
  repeat' (first
    | (with_reducible apply Effect.refl)
    | (with_reducible (apply Effect.next; apply State.modArray_effect); decide +kernel)
    | (with_reducible (apply Effect.next; apply State.bump_effect); decide +kernel)
    | (with_reducible (apply Effect.next; apply State.bumpReg_effect); decide +kernel)
    | (with_reducible (apply Effect.next; apply State.useGrant_effect); decide +kernel)
    | (with_reducible apply EffectR.ready)
    | (with_reducible apply EffectR.next)
    | (with_reducible assumption)
    | (with_reducible apply Effect.foldl <;> intros)
    | (with_reducible apply Effect.ite <;> intros)
    | (with_reducible apply EffectR.ite <;> intros)
    | (split)
    | (dsimp only))

theorem execArrayIdle_effect (a0 s) : EffectR [.regs, .arrays] s (execArrayIdle a0 s) := by
  unfold execArrayIdle
  repeat' (first
    | (with_reducible apply Effect.refl)
    | (with_reducible (apply Effect.next; apply State.modArray_effect); decide +kernel)
    | (with_reducible (apply Effect.next; apply State.bumpReg_effect); decide +kernel)
    | (with_reducible apply EffectR.ready)
    | (with_reducible apply EffectR.next)
    | (with_reducible assumption)
    | (with_reducible apply Effect.foldl <;> intros)
    | (with_reducible apply Effect.ite <;> intros)
    | (with_reducible apply EffectR.ite <;> intros)
    | (split)
    | (dsimp only))

theorem execArrayWakeGrant_effect (a0 s) : EffectR [.arrays, .power] s (execArrayWakeGrant a0 s) := by
  unfold execArrayWakeGrant
  repeat' (first
    | (with_reducible apply Effect.refl)
    | (with_reducible (apply Effect.next; apply State.modArray_effect); decide +kernel)
    | (with_reducible (apply Effect.next; apply State.useGrant_effect); decide +kernel)
    | (with_reducible apply EffectR.ready)
    | (with_reducible apply EffectR.next)
    | (with_reducible assumption)
    | (with_reducible apply Effect.foldl <;> intros)
    | (with_reducible apply Effect.ite <;> intros)
    | (with_reducible apply EffectR.ite <;> intros)
    | (split)
    | (dsimp only))

theorem execArrayFlush_effect (a0 s) : EffectR [.free, .mem, .poison, .regs, .harts, .rooms, .arrays, .attics, .dws, .errRings, .wingLogs, .errInFlight, .ceWindows] s (execArrayFlush a0 s) := by
  unfold execArrayFlush
  repeat' (first
    | (with_reducible apply Effect.refl)
    | (with_reducible (apply Effect.next; apply State.arrayFlush_effect); decide +kernel)
    | (with_reducible apply EffectR.ready)
    | (with_reducible apply EffectR.next)
    | (with_reducible assumption)
    | (with_reducible apply Effect.foldl <;> intros)
    | (with_reducible apply Effect.ite <;> intros)
    | (with_reducible apply EffectR.ite <;> intros)
    | (split)
    | (dsimp only))

theorem execArrayForceRelease_effect (a0 s) : EffectR [.free, .mem, .poison, .regs, .harts, .rooms, .arrays, .attics, .dws, .errRings, .wingLogs, .errInFlight, .ceWindows] s (execArrayForceRelease a0 s) := by
  unfold execArrayForceRelease
  repeat' (first
    | (with_reducible apply Effect.refl)
    | (with_reducible (apply Effect.next; apply State.arrayForceRelease_effect); decide +kernel)
    | (with_reducible apply EffectR.ready)
    | (with_reducible apply EffectR.next)
    | (with_reducible assumption)
    | (with_reducible apply Effect.foldl <;> intros)
    | (with_reducible apply Effect.ite <;> intros)
    | (with_reducible apply EffectR.ite <;> intros)
    | (split)
    | (dsimp only))

theorem State.sbCfgWrite_effect (s a1 a2 a3) : Effect [.regs] s (State.sbCfgWrite s a1 a2 a3) := by
  unfold State.sbCfgWrite
  repeat' (first
    | (with_reducible apply Effect.refl)
    | (with_reducible (apply Effect.next; apply State.setRegN_effect); decide +kernel)
    | (with_reducible (apply Effect.next; apply State.orReg_effect); decide +kernel)
    | (with_reducible assumption)
    | (with_reducible apply Effect.foldl <;> intros)
    | (with_reducible apply Effect.ite <;> intros)
    | (split)
    | (dsimp only))

theorem execArraySbCfgWrite_effect (a0 a1 a2 s) : EffectR [.regs] s (execArraySbCfgWrite a0 a1 a2 s) := by
  unfold execArraySbCfgWrite
  repeat' (first
    | (with_reducible apply Effect.refl)
    | (with_reducible (apply Effect.next; apply State.sbCfgWrite_effect); decide +kernel)
    | (with_reducible apply EffectR.ready)
    | (with_reducible apply EffectR.next)
    | (with_reducible assumption)
    | (with_reducible apply Effect.foldl <;> intros)
    | (with_reducible apply Effect.ite <;> intros)
    | (with_reducible apply EffectR.ite <;> intros)
    | (split)
    | (dsimp only))

end Sys2Proof.Machine
end

