-- ==== Sys2Proof/Laws/EffectAvu.lean ====
section
/-! SUPPORT. What the operations and the meanings of Machine/Avu.lean can change: one lemma each. -/
-- The kernel decides the inclusions of each lemma before the next lemma starts.
set_option Elab.async false
set_option linter.all false
namespace Sys2Proof.Machine

theorem State.setAvuCmd_effect (s a1 a2 a3) : Effect [.avus] s (State.setAvuCmd s a1 a2 a3) := by
  unfold State.setAvuCmd
  repeat' (first
    | (with_reducible apply Effect.refl)
    | (with_reducible (apply Effect.next; apply State.modAvu_effect); decide +kernel)
    | (with_reducible assumption)
    | (with_reducible apply Effect.foldl <;> intros)
    | (with_reducible apply Effect.ite <;> intros)
    | (split)
    | (dsimp only))

theorem State.avuReject_effect (s a1 a2 a3 a4 a5 a6) : Effect [.regs, .attics, .avus, .errRings, .wingLogs, .errInFlight, .ceWindows] s (State.avuReject s a1 a2 a3 a4 a5 a6) := by
  unfold State.avuReject
  repeat' (first
    | (with_reducible apply Effect.refl)
    | (with_reducible (apply Effect.next; apply State.setAvuCmd_effect); decide +kernel)
    | (with_reducible (apply Effect.next; apply State.post_effect); decide +kernel)
    | (with_reducible (apply Effect.next; apply State.noteWalk_effect); decide +kernel)
    | (with_reducible assumption)
    | (with_reducible apply Effect.foldl <;> intros)
    | (with_reducible apply Effect.ite <;> intros)
    | (split)
    | (dsimp only))

theorem State.fillAll_effect (s a1 a2) : Effect [.rooms] s (State.fillAll s a1 a2) := by
  unfold State.fillAll
  repeat' (first
    | (with_reducible apply Effect.refl)
    | (with_reducible (apply Effect.next; apply State.fillTlb_effect); decide +kernel)
    | (with_reducible assumption)
    | (with_reducible apply Effect.foldl <;> intros)
    | (with_reducible apply Effect.ite <;> intros)
    | (split)
    | (dsimp only))

theorem execAvuDispatch_effect (a0 s) : EffectR [.free, .regs, .rooms, .attics, .avus, .errRings, .wingLogs, .errInFlight, .ceWindows, .guards] s (execAvuDispatch a0 s) := by
  unfold execAvuDispatch
  repeat' (first
    | (with_reducible apply Effect.refl)
    | (with_reducible (apply Effect.next; apply State.avuReject_effect); decide +kernel)
    | (with_reducible (apply Effect.next; apply State.bump_effect); decide +kernel)
    | (with_reducible (apply Effect.next; apply State.widenGuard_effect); decide +kernel)
    | (with_reducible (apply Effect.next; apply State.setAvuCmd_effect); decide +kernel)
    | (with_reducible (apply Effect.next; apply State.fillAll_effect); decide +kernel)
    | (with_reducible apply EffectR.ready)
    | (with_reducible apply EffectR.next)
    | (with_reducible assumption)
    | (with_reducible apply Effect.foldl <;> intros)
    | (with_reducible apply Effect.ite <;> intros)
    | (with_reducible apply EffectR.ite <;> intros)
    | (split)
    | (dsimp only))

theorem State.matvecLand_effect (s a1 a2 a3) : Effect [.avus] s (State.matvecLand s a1 a2 a3) := by
  unfold State.matvecLand
  repeat' (first
    | (with_reducible apply Effect.refl)
    | (with_reducible (apply Effect.next; apply State.modAvu_effect); decide +kernel)
    | (with_reducible assumption)
    | (with_reducible apply Effect.foldl <;> intros)
    | (with_reducible apply Effect.ite <;> intros)
    | (split)
    | (dsimp only))

theorem State.avuExport_effect (s a1 a2 a3 a4) : Effect [.free, .mem, .poison, .regs, .harts, .rooms, .attics, .avus, .dws, .errRings, .wingLogs, .errInFlight, .ceWindows] s (State.avuExport s a1 a2 a3 a4) := by
  unfold State.avuExport
  repeat' (first
    | (with_reducible apply Effect.refl)
    | (with_reducible (apply Effect.next; apply State.pwrite_effect); decide +kernel)
    | (with_reducible (apply Effect.next; apply State.setAvuCmd_effect); decide +kernel)
    | (with_reducible assumption)
    | (with_reducible apply Effect.foldl <;> intros)
    | (with_reducible apply Effect.ite <;> intros)
    | (split)
    | (dsimp only))

theorem State.avuNote_effect (s a1 a2 a3) : Effect [.attics] s (State.avuNote s a1 a2 a3) := by
  unfold State.avuNote
  repeat' (first
    | (with_reducible apply Effect.refl)
    | (with_reducible (apply Effect.next; apply State.noteView_effect); decide +kernel)
    | (with_reducible assumption)
    | (with_reducible apply Effect.foldl <;> intros)
    | (with_reducible apply Effect.ite <;> intros)
    | (split)
    | (dsimp only))

theorem State.avuMatvec_effect (s a1 a2 a3 a4 a5) : Effect [.free, .mem, .poison, .regs, .harts, .rooms, .attics, .avus, .dws, .errRings, .wingLogs, .errInFlight, .ceWindows] s (State.avuMatvec s a1 a2 a3 a4 a5) := by
  unfold State.avuMatvec
  repeat' (first
    | (with_reducible apply Effect.refl)
    | (with_reducible (apply Effect.next; apply State.bumpReg_effect); decide +kernel)
    | (with_reducible (apply Effect.next; apply State.avuNote_effect); decide +kernel)
    | (with_reducible (apply Effect.next; apply State.matvecLand_effect); decide +kernel)
    | (with_reducible (apply Effect.next; apply State.bump_effect); decide +kernel)
    | (with_reducible (apply Effect.next; apply State.avuExport_effect); decide +kernel)
    | (with_reducible (apply Effect.next; apply State.setAvuCmd_effect); decide +kernel)
    | (with_reducible assumption)
    | (with_reducible apply Effect.foldl <;> intros)
    | (with_reducible apply Effect.ite <;> intros)
    | (split)
    | (dsimp only))

theorem State.avuFault_effect (s a1 a2 a3 a4 a5) : Effect [.poison, .regs, .attics, .avus, .errRings, .wingLogs, .errInFlight, .ceWindows] s (State.avuFault s a1 a2 a3 a4 a5) := by
  unfold State.avuFault
  repeat' (first
    | (with_reducible apply Effect.refl)
    | (with_reducible (apply Effect.next; apply State.atticCe_effect); decide +kernel)
    | (with_reducible (apply Effect.next; apply State.storeUe_effect); decide +kernel)
    | (with_reducible (apply Effect.next; apply State.modAvu_effect); decide +kernel)
    | (with_reducible assumption)
    | (with_reducible apply Effect.foldl <;> intros)
    | (with_reducible apply Effect.ite <;> intros)
    | (split)
    | (dsimp only))

theorem State.avuFaults_effect (s a1 a2 a3 a4 a5) : Effect [.poison, .regs, .attics, .avus, .errRings, .wingLogs, .errInFlight, .ceWindows] s (State.avuFaults s a1 a2 a3 a4 a5) := by
  unfold State.avuFaults
  repeat' (first
    | (with_reducible apply Effect.refl)
    | (with_reducible (apply Effect.next; apply State.avuFault_effect); decide +kernel)
    | (with_reducible assumption)
    | (with_reducible apply Effect.foldl <;> intros)
    | (with_reducible apply Effect.ite <;> intros)
    | (split)
    | (dsimp only))

theorem execAvuMatvec_effect (a0 a1 s) : EffectR [.free, .mem, .poison, .regs, .harts, .rooms, .attics, .avus, .dws, .errRings, .wingLogs, .errInFlight, .ceWindows] s (execAvuMatvec a0 a1 s) := by
  unfold execAvuMatvec avuRun
  repeat' (first
    | (with_reducible apply Effect.refl)
    | (with_reducible (apply Effect.next; apply State.avuFaults_effect); decide +kernel)
    | (with_reducible (apply Effect.next; apply State.avuMatvec_effect); decide +kernel)
    | (with_reducible apply EffectR.ready)
    | (with_reducible apply EffectR.next)
    | (with_reducible assumption)
    | (with_reducible apply Effect.foldl <;> intros)
    | (with_reducible apply Effect.ite <;> intros)
    | (with_reducible apply EffectR.ite <;> intros)
    | (split)
    | (dsimp only [id]))

theorem execAvuExport_effect (a0 a1 s) : EffectR [.free, .mem, .poison, .regs, .harts, .rooms, .attics, .avus, .dws, .errRings, .wingLogs, .errInFlight, .ceWindows] s (execAvuExport a0 a1 s) := by
  unfold execAvuExport avuRun
  repeat' (first
    | (with_reducible apply Effect.refl)
    | (with_reducible (apply Effect.next; apply State.avuFaults_effect); decide +kernel)
    | (with_reducible (apply Effect.next; apply State.bump_effect); decide +kernel)
    | (with_reducible (apply Effect.next; apply State.avuExport_effect); decide +kernel)
    | (with_reducible apply EffectR.ready)
    | (with_reducible apply EffectR.next)
    | (with_reducible assumption)
    | (with_reducible apply Effect.foldl <;> intros)
    | (with_reducible apply Effect.ite <;> intros)
    | (with_reducible apply EffectR.ite <;> intros)
    | (split)
    | (dsimp only [id]))

theorem State.avuScan_effect (s a1 a2 a3 a4) : Effect [.free, .mem, .poison, .regs, .harts, .rooms, .attics, .avus, .dws, .errRings, .wingLogs, .errInFlight, .ceWindows] s (State.avuScan s a1 a2 a3 a4) := by
  unfold State.avuScan
  repeat' (first
    | (with_reducible apply Effect.refl)
    | (with_reducible (apply Effect.next; apply State.bump_effect); decide +kernel)
    | (with_reducible (apply Effect.next; apply State.setAvuCmd_effect); decide +kernel)
    | (with_reducible (apply Effect.next; apply State.bumpReg_effect); decide +kernel)
    | (with_reducible (apply Effect.next; apply State.pwriteAll_effect); decide +kernel)
    | (with_reducible (apply Effect.next; apply State.avuNote_effect); decide +kernel)
    | (with_reducible assumption)
    | (with_reducible apply Effect.foldl <;> intros)
    | (with_reducible apply Effect.ite <;> intros)
    | (split)
    | (dsimp only))

theorem execAvuVscan_effect (a0 a1 s) : EffectR [.free, .mem, .poison, .regs, .harts, .rooms, .attics, .avus, .dws, .errRings, .wingLogs, .errInFlight, .ceWindows] s (execAvuVscan a0 a1 s) := by
  unfold execAvuVscan avuRun
  repeat' (first
    | (with_reducible apply Effect.refl)
    | (with_reducible (apply Effect.next; apply State.avuFaults_effect); decide +kernel)
    | (with_reducible (apply Effect.next; apply State.avuScan_effect); decide +kernel)
    | (with_reducible apply EffectR.ready)
    | (with_reducible apply EffectR.next)
    | (with_reducible assumption)
    | (with_reducible apply Effect.foldl <;> intros)
    | (with_reducible apply Effect.ite <;> intros)
    | (with_reducible apply EffectR.ite <;> intros)
    | (split)
    | (dsimp only [id]))

theorem State.avuRecord_effect (s a1 a2 a3 a4) : Effect [.mem, .poison, .harts, .dws] s (State.avuRecord s a1 a2 a3 a4) := by
  unfold State.avuRecord
  repeat' (first
    | (with_reducible apply Effect.refl)
    | (with_reducible (apply Effect.next; apply State.writePantry_effect); decide +kernel)
    | (with_reducible assumption)
    | (with_reducible apply Effect.foldl <;> intros)
    | (with_reducible apply Effect.ite <;> intros)
    | (split)
    | (dsimp only))

theorem State.avuSpoil_effect (s a1 a2) : Effect [.free, .mem, .poison, .avus] s (State.avuSpoil s a1 a2) := by
  unfold State.avuSpoil
  repeat' (first
    | (with_reducible apply Effect.refl)
    | (with_reducible (apply Effect.next; apply State.modAvu_effect); decide +kernel)
    | (with_reducible (apply Effect.next; apply State.bump_effect); decide +kernel)
    | (with_reducible (apply Effect.next; apply State.spoilRanges_effect); decide +kernel)
    | (with_reducible assumption)
    | (with_reducible apply Effect.foldl <;> intros)
    | (with_reducible apply Effect.ite <;> intros)
    | (split)
    | (dsimp only))

theorem State.avuFinish_effect (s a1 a2) : Effect [.free, .mem, .poison, .regs, .harts, .avus, .dws, .guards] s (State.avuFinish s a1 a2) := by
  unfold State.avuFinish
  repeat' (first
    | (with_reducible apply Effect.refl)
    | (with_reducible (apply Effect.next; apply State.bumpCount_effect); decide +kernel)
    | (with_reducible (apply Effect.next; apply State.bump_effect); decide +kernel)
    | (with_reducible (apply Effect.next; apply State.dropSeqs_effect); decide +kernel)
    | (with_reducible (apply Effect.next; apply State.dropGuard_effect); decide +kernel)
    | (with_reducible (apply Effect.next; apply State.modAvu_effect); decide +kernel)
    | (with_reducible (apply Effect.next; apply State.orReg_effect); decide +kernel)
    | (with_reducible (apply Effect.next; apply State.avuRecord_effect); decide +kernel)
    | (with_reducible assumption)
    | (with_reducible apply Effect.foldl <;> intros)
    | (with_reducible apply Effect.ite <;> intros)
    | (split)
    | (dsimp only))

theorem State.avuTaint_effect (s a1 a2) : Effect [.avus] s (State.avuTaint s a1 a2) := by
  unfold State.avuTaint
  repeat' (first
    | (with_reducible apply Effect.refl)
    | (with_reducible (apply Effect.next; apply State.modAvu_effect); decide +kernel)
    | (with_reducible assumption)
    | (with_reducible apply Effect.foldl <;> intros)
    | (with_reducible apply Effect.ite <;> intros)
    | (split)
    | (dsimp only))

theorem State.avuDiscard_effect (s a1) : Effect [.free, .mem, .poison, .avus] s (State.avuDiscard s a1) := by
  unfold State.avuDiscard
  repeat' (first
    | (with_reducible apply Effect.refl)
    | (with_reducible (apply Effect.next; apply State.modAvu_effect); decide +kernel)
    | (with_reducible (apply Effect.next; apply State.avuSpoil_effect); decide +kernel)
    | (with_reducible assumption)
    | (with_reducible apply Effect.foldl <;> intros)
    | (with_reducible apply Effect.ite <;> intros)
    | (split)
    | (dsimp only))

theorem State.avuAbort_effect (a0 a1 s) : Effect [.free, .mem, .poison, .regs, .harts, .avus, .dws, .guards] s (State.avuAbort a0 a1 s) := by
  induction a0 generalizing a1 s with
  | zero => exact Effect.refl _ _
  | succ f ih =>
    unfold State.avuAbort
    repeat' (first
      | (with_reducible (apply Effect.next; apply ih); decide +kernel)
      | (with_reducible apply Effect.refl)
      | (with_reducible (apply Effect.next; apply State.avuTaint_effect); decide +kernel)
      | (with_reducible (apply Effect.next; apply State.avuSpoil_effect); decide +kernel)
      | (with_reducible (apply Effect.next; apply State.avuFinish_effect); decide +kernel)
      | (with_reducible assumption)
      | (with_reducible apply Effect.foldl <;> intros)
      | (with_reducible apply Effect.ite <;> intros)
      | (split)
      | (dsimp only))

theorem State.avuFlush_effect (s a1) : Effect [.free, .mem, .poison, .regs, .harts, .avus, .dws, .guards] s (State.avuFlush s a1) := by
  unfold State.avuFlush
  repeat' (first
    | (with_reducible apply Effect.refl)
    | (with_reducible (apply Effect.next; apply State.orReg_effect); decide +kernel)
    | (with_reducible (apply Effect.next; apply State.avuAbort_effect); decide +kernel)
    | (with_reducible assumption)
    | (with_reducible apply Effect.foldl <;> intros)
    | (with_reducible apply Effect.ite <;> intros)
    | (split)
    | (dsimp only))

theorem execAvuFlush_effect (a0 s) : EffectR [.free, .mem, .poison, .regs, .harts, .avus, .dws, .guards] s (execAvuFlush a0 s) := by
  unfold execAvuFlush
  repeat' (first
    | (with_reducible apply Effect.refl)
    | (with_reducible (apply Effect.next; apply State.avuFlush_effect); decide +kernel)
    | (with_reducible apply EffectR.ready)
    | (with_reducible apply EffectR.next)
    | (with_reducible assumption)
    | (with_reducible apply Effect.foldl <;> intros)
    | (with_reducible apply Effect.ite <;> intros)
    | (with_reducible apply EffectR.ite <;> intros)
    | (split)
    | (dsimp only))

end Sys2Proof.Machine
end

