-- ==== Sys2Proof/Laws/EffectRegulate.lean ====
section
/-! SUPPORT. What the operations and the meanings of Machine/Regulate.lean can change: one lemma each. -/
-- The kernel decides the inclusions of each lemma before the next lemma starts.
set_option Elab.async false
set_option linter.all false
namespace Sys2Proof.Machine

theorem State.modRegq_effect (s a1 a2) : Effect [.regqs] s (State.modRegq s a1 a2) := by
  unfold State.modRegq
  repeat' (first
    | ((conv => arg 3; arg 64); refine Effect.upd ?_ (by intro p hp; cases p <;> first | exact Bool.noConfusion hp | rfl))
    | (with_reducible apply Effect.refl)
    | (with_reducible assumption)
    | (with_reducible apply Effect.foldl <;> intros)
    | (with_reducible apply Effect.ite <;> intros)
    | (split)
    | (dsimp only))

theorem execRegWindowEnd_effect (s) : EffectR [.now, .regqs] s (execRegWindowEnd s) := by
  unfold execRegWindowEnd
  repeat' (first
    | ((conv => arg 3; arg 64); refine Effect.upd ?_ (by intro p hp; cases p <;> first | exact Bool.noConfusion hp | rfl))
    | (with_reducible apply Effect.refl)
    | (with_reducible (apply Effect.next; apply State.reach_effect); decide +kernel)
    | (with_reducible apply EffectR.ready)
    | (with_reducible apply EffectR.next)
    | (with_reducible assumption)
    | (with_reducible apply Effect.foldl <;> intros)
    | (with_reducible apply Effect.ite <;> intros)
    | (with_reducible apply EffectR.ite <;> intros)
    | (split)
    | (dsimp only))

theorem execRegCtrlClear_effect (a0 a1 s) : EffectR [.regqs] s (execRegCtrlClear a0 a1 s) := by
  unfold execRegCtrlClear
  repeat' (first
    | (with_reducible apply Effect.refl)
    | (with_reducible (apply Effect.next; apply State.modRegq_effect); decide +kernel)
    | (with_reducible apply EffectR.ready)
    | (with_reducible apply EffectR.next)
    | (with_reducible assumption)
    | (with_reducible apply Effect.foldl <;> intros)
    | (with_reducible apply Effect.ite <;> intros)
    | (with_reducible apply EffectR.ite <;> intros)
    | (split)
    | (dsimp only))

theorem execRegClassCfgWrite_effect (a0 a1 a2 a3 s) : EffectR [.regqs] s (execRegClassCfgWrite a0 a1 a2 a3 s) := by
  unfold execRegClassCfgWrite
  repeat' (first
    | (with_reducible apply Effect.refl)
    | (with_reducible (apply Effect.next; apply State.modRegq_effect); decide +kernel)
    | (with_reducible apply EffectR.ready)
    | (with_reducible apply EffectR.next)
    | (with_reducible assumption)
    | (with_reducible apply Effect.foldl <;> intros)
    | (with_reducible apply Effect.ite <;> intros)
    | (with_reducible apply EffectR.ite <;> intros)
    | (split)
    | (dsimp only))

end Sys2Proof.Machine
end

