-- ==== Sys2Proof/Laws/EffectAttic.lean ====
section
/-! SUPPORT. What the operations and the meanings of Machine/Attic.lean can change: one lemma each. -/
-- The kernel decides the inclusions of each lemma before the next lemma starts.
set_option Elab.async false
set_option linter.all false
namespace Sys2Proof.Machine

theorem State.atticAdmit_effect (a0 a1 s) : Effect [.attics, .regqs] s (State.atticAdmit a0 a1 s) := by
  induction a1 generalizing s with
  | zero => exact Effect.refl _ _
  | succ f ih =>
    unfold State.atticAdmit
    repeat' (first
      | (with_reducible (apply Effect.next; apply ih); decide +kernel)
      | (with_reducible apply Effect.refl)
      | (with_reducible (apply Effect.next; apply State.modRegq_effect); decide +kernel)
      | (with_reducible (apply Effect.next; apply State.modAttic_effect); decide +kernel)
      | (with_reducible assumption)
      | (with_reducible apply Effect.foldl <;> intros)
      | (with_reducible apply Effect.ite <;> intros)
      | (split)
      | (dsimp only))

theorem State.atticEnter_effect (s a1 a2 a3) : Effect [.attics, .regqs] s (State.atticEnter s a1 a2 a3) := by
  unfold State.atticEnter
  repeat' (first
    | (with_reducible apply Effect.refl)
    | (with_reducible (apply Effect.next; apply State.modAttic_effect); decide +kernel)
    | (with_reducible (apply Effect.next; apply State.modRegq_effect); decide +kernel)
    | (with_reducible (apply Effect.next; apply State.atticAdmit_effect); decide +kernel)
    | (with_reducible assumption)
    | (with_reducible apply Effect.foldl <;> intros)
    | (with_reducible apply Effect.ite <;> intros)
    | (split)
    | (dsimp only))

theorem execAtticRequestEnter_effect (a0 a1 s) : EffectR [.attics, .regqs] s (execAtticRequestEnter a0 a1 s) := by
  unfold execAtticRequestEnter
  repeat' (first
    | (with_reducible apply Effect.refl)
    | (with_reducible (apply Effect.next; apply State.atticEnter_effect); decide +kernel)
    | (with_reducible apply EffectR.ready)
    | (with_reducible apply EffectR.next)
    | (with_reducible assumption)
    | (with_reducible apply Effect.foldl <;> intros)
    | (with_reducible apply Effect.ite <;> intros)
    | (with_reducible apply EffectR.ite <;> intros)
    | (split)
    | (dsimp only))

theorem State.countLane_effect (s a1 a2) : Effect [.attics] s (State.countLane s a1 a2) := by
  unfold State.countLane
  repeat' (first
    | (with_reducible apply Effect.refl)
    | (with_reducible (apply Effect.next; apply State.modAttic_effect); decide +kernel)
    | (with_reducible assumption)
    | (with_reducible apply Effect.foldl <;> intros)
    | (with_reducible apply Effect.ite <;> intros)
    | (split)
    | (dsimp only))

theorem State.bankFault_effect (s a1 a2 a3) : Effect [.poison, .regs, .attics, .errRings, .wingLogs, .errInFlight, .ceWindows] s (State.bankFault s a1 a2 a3) := by
  unfold State.bankFault
  repeat' (first
    | (with_reducible apply Effect.refl)
    | (with_reducible (apply Effect.next; apply State.atticCe_effect); decide +kernel)
    | (with_reducible (apply Effect.next; apply State.storeUe_effect); decide +kernel)
    | (with_reducible (apply Effect.next; apply State.setPoison_effect); decide +kernel)
    | (with_reducible assumption)
    | (with_reducible apply Effect.foldl <;> intros)
    | (with_reducible apply Effect.ite <;> intros)
    | (split)
    | (dsimp only))

theorem State.stairFault_effect (s a1 a2 a3) : Effect [.poison, .regs, .attics, .errRings, .wingLogs, .errInFlight, .ceWindows] s (State.stairFault s a1 a2 a3) := by
  unfold State.stairFault
  repeat' (first
    | (with_reducible apply Effect.refl)
    | (with_reducible (apply Effect.next; apply State.countLane_effect); decide +kernel)
    | (with_reducible (apply Effect.next; apply State.atticCe_effect); decide +kernel)
    | (with_reducible (apply Effect.next; apply State.atticError_effect); decide +kernel)
    | (with_reducible (apply Effect.next; apply State.setPoison_effect); decide +kernel)
    | (with_reducible assumption)
    | (with_reducible apply Effect.foldl <;> intros)
    | (with_reducible apply Effect.ite <;> intros)
    | (split)
    | (dsimp only))

theorem State.atticDone_effect (s a1 a2 a3) : Effect [.attics, .regqs] s (State.atticDone s a1 a2 a3) := by
  unfold State.atticDone
  repeat' (first
    | (with_reducible apply Effect.refl)
    | (with_reducible (apply Effect.next; apply State.atticAdmit_effect); decide +kernel)
    | (with_reducible (apply Effect.next; apply State.modRegq_effect); decide +kernel)
    | (with_reducible (apply Effect.next; apply State.modAttic_effect); decide +kernel)
    | (with_reducible assumption)
    | (with_reducible apply Effect.foldl <;> intros)
    | (with_reducible apply Effect.ite <;> intros)
    | (split)
    | (dsimp only))

theorem State.atticAccess_effect (s a1 a2) : Effect [.free, .mem, .poison, .regs, .harts, .rooms, .attics, .regqs, .dws, .errRings, .wingLogs, .errInFlight, .ceWindows] s (State.atticAccess s a1 a2) := by
  unfold State.atticAccess
  repeat' (first
    | (with_reducible apply Effect.refl)
    | (with_reducible (apply Effect.next; apply State.atticDone_effect); decide +kernel)
    | (with_reducible (apply Effect.next; apply State.memWrite_effect); decide +kernel)
    | (with_reducible (apply Effect.next; apply State.afterRead_effect); decide +kernel)
    | (with_reducible assumption)
    | (with_reducible apply Effect.foldl <;> intros)
    | (with_reducible apply Effect.ite <;> intros)
    | (split)
    | (dsimp only))

theorem execAtticRequestPerform_effect (a0 a1 a2 s) : EffectR [.free, .mem, .poison, .regs, .harts, .rooms, .attics, .regqs, .dws, .errRings, .wingLogs, .errInFlight, .ceWindows] s (execAtticRequestPerform a0 a1 a2 s) := by
  unfold execAtticRequestPerform
  repeat' (first
    | (with_reducible apply Effect.refl)
    | (with_reducible (apply Effect.next; apply State.bankFault_effect); decide +kernel)
    | (with_reducible (apply Effect.next; apply State.atticAccess_effect); decide +kernel)
    | (with_reducible (apply Effect.next; apply State.modAttic_effect); decide +kernel)
    | (with_reducible (apply Effect.next; apply State.stairFault_effect); decide +kernel)
    | (with_reducible apply EffectR.ready)
    | (with_reducible apply EffectR.next)
    | (with_reducible assumption)
    | (with_reducible apply Effect.foldl <;> intros)
    | (with_reducible apply Effect.ite <;> intros)
    | (with_reducible apply EffectR.ite <;> intros)
    | (split)
    | (dsimp only))

theorem State.retryWord_effect (s a1 a2 a3 a4 a5) : Effect [.free, .mem, .poison, .regs, .harts, .rooms, .attics, .regqs, .dws, .errRings, .wingLogs, .errInFlight, .ceWindows] s (State.retryWord s a1 a2 a3 a4 a5) := by
  unfold State.retryWord
  repeat' (first
    | (with_reducible apply Effect.refl)
    | (with_reducible (apply Effect.next; apply State.countLane_effect); decide +kernel)
    | (with_reducible (apply Effect.next; apply State.atticCe_effect); decide +kernel)
    | (with_reducible (apply Effect.next; apply State.modAttic_effect); decide +kernel)
    | (with_reducible (apply Effect.next; apply State.atticError_effect); decide +kernel)
    | (with_reducible (apply Effect.next; apply State.atticAccess_effect); decide +kernel)
    | (with_reducible assumption)
    | (with_reducible apply Effect.foldl <;> intros)
    | (with_reducible apply Effect.ite <;> intros)
    | (split)
    | (dsimp only))

theorem execStairReadRetry_effect (a0 a1 a2 a3 s) : EffectR [.free, .mem, .poison, .regs, .harts, .rooms, .attics, .regqs, .dws, .errRings, .wingLogs, .errInFlight, .ceWindows] s (execStairReadRetry a0 a1 a2 a3 s) := by
  unfold execStairReadRetry
  repeat' (first
    | (with_reducible apply Effect.refl)
    | (with_reducible (apply Effect.next; apply State.retryWord_effect); decide +kernel)
    | (with_reducible apply EffectR.ready)
    | (with_reducible apply EffectR.next)
    | (with_reducible assumption)
    | (with_reducible apply Effect.foldl <;> intros)
    | (with_reducible apply Effect.ite <;> intros)
    | (with_reducible apply EffectR.ite <;> intros)
    | (split)
    | (dsimp only))

theorem execAtticAtomic_effect (a0 a1 a2 a3 s) : EffectR [.free, .mem, .poison, .regs, .harts, .rooms, .attics, .dws, .errRings, .wingLogs, .errInFlight, .ceWindows, .guards] s (execAtticAtomic a0 a1 a2 a3 s) := by
  unfold execAtticAtomic
  repeat' (first
    | (with_reducible apply Effect.refl)
    | (with_reducible (apply Effect.next; apply State.atomicPerform_effect); decide +kernel)
    | (with_reducible apply EffectR.ready)
    | (with_reducible apply EffectR.next)
    | (with_reducible assumption)
    | (with_reducible apply Effect.foldl <;> intros)
    | (with_reducible apply Effect.ite <;> intros)
    | (with_reducible apply EffectR.ite <;> intros)
    | (split)
    | (dsimp only))

theorem execAtticRefresh_effect (a0 a1 a2 s) : EffectR [.attics] s (execAtticRefresh a0 a1 a2 s) := by
  unfold execAtticRefresh
  repeat' (first
    | (with_reducible apply Effect.refl)
    | (with_reducible (apply Effect.next; apply State.modAttic_effect); decide +kernel)
    | (with_reducible apply EffectR.ready)
    | (with_reducible apply EffectR.next)
    | (with_reducible assumption)
    | (with_reducible apply Effect.foldl <;> intros)
    | (with_reducible apply Effect.ite <;> intros)
    | (with_reducible apply EffectR.ite <;> intros)
    | (split)
    | (dsimp only))

theorem execStairRelockHoldEnd_effect (a0 s) : EffectR [.attics] s (execStairRelockHoldEnd a0 s) := by
  unfold execStairRelockHoldEnd
  repeat' (first
    | (with_reducible apply Effect.refl)
    | (with_reducible (apply Effect.next; apply State.modAttic_effect); decide +kernel)
    | (with_reducible apply EffectR.ready)
    | (with_reducible apply EffectR.next)
    | (with_reducible assumption)
    | (with_reducible apply Effect.foldl <;> intros)
    | (with_reducible apply Effect.ite <;> intros)
    | (with_reducible apply EffectR.ite <;> intros)
    | (split)
    | (dsimp only))

theorem execStairRelockEnd_effect (a0 s) : EffectR [.attics] s (execStairRelockEnd a0 s) := by
  unfold execStairRelockEnd
  repeat' (first
    | (with_reducible apply Effect.refl)
    | (with_reducible (apply Effect.next; apply State.modAttic_effect); decide +kernel)
    | (with_reducible apply EffectR.ready)
    | (with_reducible apply EffectR.next)
    | (with_reducible assumption)
    | (with_reducible apply Effect.foldl <;> intros)
    | (with_reducible apply Effect.ite <;> intros)
    | (with_reducible apply EffectR.ite <;> intros)
    | (split)
    | (dsimp only))

theorem execStairRecalStart_effect (a0 a1 s) : EffectR [.attics] s (execStairRecalStart a0 a1 s) := by
  unfold execStairRecalStart
  repeat' (first
    | (with_reducible apply Effect.refl)
    | (with_reducible (apply Effect.next; apply State.modAttic_effect); decide +kernel)
    | (with_reducible apply EffectR.ready)
    | (with_reducible apply EffectR.next)
    | (with_reducible assumption)
    | (with_reducible apply Effect.foldl <;> intros)
    | (with_reducible apply Effect.ite <;> intros)
    | (with_reducible apply EffectR.ite <;> intros)
    | (split)
    | (dsimp only))

theorem State.disableAttic_effect (s a1 a2) : Effect [.free, .mem, .poison, .regs, .rooms, .attics, .avus, .errRings, .wingLogs, .errInFlight, .ceWindows] s (State.disableAttic s a1 a2) := by
  unfold State.disableAttic
  repeat' (first
    | (with_reducible apply Effect.refl)
    | (with_reducible (apply Effect.next; apply State.postRoom_effect); decide +kernel)
    | (with_reducible (apply Effect.next; apply State.orReg_effect); decide +kernel)
    | (with_reducible (apply Effect.next; apply State.modAttic_effect); decide +kernel)
    | (with_reducible (apply Effect.next; apply State.modRoom_effect); decide +kernel)
    | (with_reducible (apply Effect.next; apply State.avuDiscard_effect); decide +kernel)
    | (with_reducible assumption)
    | (with_reducible apply Effect.foldl <;> intros)
    | (with_reducible apply Effect.ite <;> intros)
    | (split)
    | (dsimp only))

theorem State.setWidth_effect (s a1) : Effect [.rooms, .attics] s (State.setWidth s a1) := by
  unfold State.setWidth
  repeat' (first
    | (with_reducible apply Effect.refl)
    | (with_reducible (apply Effect.next; apply State.modRoom_effect); decide +kernel)
    | (with_reducible (apply Effect.next; apply State.modAttic_effect); decide +kernel)
    | (with_reducible assumption)
    | (with_reducible apply Effect.foldl <;> intros)
    | (with_reducible apply Effect.ite <;> intros)
    | (split)
    | (dsimp only))

theorem State.retrained_effect (s a1 a2 a3) : Effect [.free, .mem, .poison, .regs, .rooms, .attics, .avus, .errRings, .wingLogs, .errInFlight, .ceWindows] s (State.retrained s a1 a2 a3) := by
  unfold State.retrained
  repeat' (first
    | (with_reducible apply Effect.refl)
    | (with_reducible (apply Effect.next; apply State.setWidth_effect); decide +kernel)
    | (with_reducible (apply Effect.next; apply State.modAttic_effect); decide +kernel)
    | (with_reducible (apply Effect.next; apply State.disableAttic_effect); decide +kernel)
    | (with_reducible (apply Effect.next; apply State.postRoom_effect); decide +kernel)
    | (with_reducible (apply Effect.next; apply State.orReg_effect); decide +kernel)
    | (with_reducible (apply Effect.next; apply State.modRoom_effect); decide +kernel)
    | (with_reducible assumption)
    | (with_reducible apply Effect.foldl <;> intros)
    | (with_reducible apply Effect.ite <;> intros)
    | (split)
    | (dsimp only))

theorem execStairRecalRetrainEnd_effect (a0 a1 s) : EffectR [.free, .mem, .poison, .regs, .rooms, .attics, .avus, .errRings, .wingLogs, .errInFlight, .ceWindows] s (execStairRecalRetrainEnd a0 a1 s) := by
  unfold execStairRecalRetrainEnd
  repeat' (first
    | (with_reducible apply Effect.refl)
    | (with_reducible (apply Effect.next; apply State.retrained_effect); decide +kernel)
    | (with_reducible apply EffectR.ready)
    | (with_reducible apply EffectR.next)
    | (with_reducible assumption)
    | (with_reducible apply Effect.foldl <;> intros)
    | (with_reducible apply Effect.ite <;> intros)
    | (with_reducible apply EffectR.ite <;> intros)
    | (split)
    | (dsimp only))

theorem State.trainStair_effect (s a1 a2) : Effect [.rooms, .attics] s (State.trainStair s a1 a2) := by
  unfold State.trainStair
  repeat' (first
    | (with_reducible apply Effect.refl)
    | (with_reducible (apply Effect.next; apply State.setWidth_effect); decide +kernel)
    | (with_reducible (apply Effect.next; apply State.modAttic_effect); decide +kernel)
    | (with_reducible assumption)
    | (with_reducible apply Effect.foldl <;> intros)
    | (with_reducible apply Effect.ite <;> intros)
    | (split)
    | (dsimp only))

theorem State.hardStop_effect (s a1) : Effect [.free, .mem, .poison, .regs, .harts, .attics, .avus, .dws, .errRings, .wingLogs, .errInFlight, .ceWindows, .guards] s (State.hardStop s a1) := by
  unfold State.hardStop
  repeat' (first
    | (with_reducible apply Effect.refl)
    | (with_reducible (apply Effect.next; apply State.avuAbort_effect); decide +kernel)
    | (with_reducible (apply Effect.next; apply State.forgetBytes_effect); decide +kernel)
    | (with_reducible (apply Effect.next; apply State.postRoom_effect); decide +kernel)
    | (with_reducible (apply Effect.next; apply State.orReg_effect); decide +kernel)
    | (with_reducible (apply Effect.next; apply State.modAttic_effect); decide +kernel)
    | (with_reducible assumption)
    | (with_reducible apply Effect.foldl <;> intros)
    | (with_reducible apply Effect.ite <;> intros)
    | (split)
    | (dsimp only))

end Sys2Proof.Machine
end

