-- ==== Sys2Proof/Laws/EffectPacket.lean ====
section
/-! SUPPORT. What the operations and the meanings of Machine/Packet.lean can change: one lemma each. -/
-- The kernel decides the inclusions of each lemma before the next lemma starts.
set_option Elab.async false
set_option linter.all false
namespace Sys2Proof.Machine

theorem State.modHall_effect (s a1 a2) : Effect [.halls] s (State.modHall s a1 a2) := by
  unfold State.modHall
  repeat' (first
    | ((conv => arg 3; arg 64); refine Effect.upd ?_ (by intro p hp; cases p <;> first | exact Bool.noConfusion hp | rfl))
    | (with_reducible apply Effect.refl)
    | (with_reducible assumption)
    | (with_reducible apply Effect.foldl <;> intros)
    | (with_reducible apply Effect.ite <;> intros)
    | (split)
    | (dsimp only))

theorem State.send_effect (s a1) : Effect [.sent] s (State.send s a1) := by
  unfold State.send
  repeat' (first
    | ((conv => arg 3; arg 64); refine Effect.upd ?_ (by intro p hp; cases p <;> first | exact Bool.noConfusion hp | rfl))
    | (with_reducible apply Effect.refl)
    | (with_reducible assumption)
    | (with_reducible apply Effect.foldl <;> intros)
    | (with_reducible apply Effect.ite <;> intros)
    | (split)
    | (dsimp only))

theorem State.sendReq_effect (s a1) : Effect [.sent] s (State.sendReq s a1) := by
  unfold State.sendReq
  repeat' (first
    | (with_reducible apply Effect.refl)
    | (with_reducible (apply Effect.next; apply State.send_effect); decide +kernel)
    | (with_reducible assumption)
    | (with_reducible apply Effect.foldl <;> intros)
    | (with_reducible apply Effect.ite <;> intros)
    | (split)
    | (dsimp only))

theorem State.respond_effect (s a1 a2 a3 a4) : Effect [.sent] s (State.respond s a1 a2 a3 a4) := by
  unfold State.respond
  repeat' (first
    | (with_reducible apply Effect.refl)
    | (with_reducible (apply Effect.next; apply State.send_effect); decide +kernel)
    | (with_reducible assumption)
    | (with_reducible apply Effect.foldl <;> intros)
    | (with_reducible apply Effect.ite <;> intros)
    | (split)
    | (dsimp only))

end Sys2Proof.Machine
end

