-- ==== Sys2Proof/Laws/EffectHartCore.lean ====
section
/-! SUPPORT. What the operations and the meanings of Machine/HartCore.lean can change: one lemma each. -/
-- The kernel decides the inclusions of each lemma before the next lemma starts.
set_option Elab.async false
set_option linter.all false
namespace Sys2Proof.Machine

theorem State.setTag_effect (s a1 a2 a3) : Effect [.tags] s (State.setTag s a1 a2 a3) := by
  unfold State.setTag
  repeat' (first
    | ((conv => arg 3; arg 64); refine Effect.upd ?_ (by intro p hp; cases p <;> first | exact Bool.noConfusion hp | rfl))
    | (with_reducible apply Effect.refl)
    | (with_reducible assumption)
    | (with_reducible apply Effect.foldl <;> intros)
    | (with_reducible apply Effect.ite <;> intros)
    | (split)
    | (dsimp only))

theorem State.issue_effect (s a1 a2 a3 a4 a5 a6) : Effect [.tags, .reqs, .sent] s (State.issue s a1 a2 a3 a4 a5 a6) := by
  unfold State.issue
  repeat' (first
    | ((conv => arg 3; arg 64); refine Effect.upd ?_ (by intro p hp; cases p <;> first | exact Bool.noConfusion hp | rfl))
    | (with_reducible apply Effect.refl)
    | (with_reducible (apply Effect.next; apply State.sendReq_effect); decide +kernel)
    | (with_reducible (apply Effect.next; apply State.setTag_effect); decide +kernel)
    | (with_reducible assumption)
    | (with_reducible apply Effect.foldl <;> intros)
    | (with_reducible apply Effect.ite <;> intros)
    | (split)
    | (dsimp only))

theorem State.retireTag_effect (s a1 a2) : Effect [.tags, .reqs] s (State.retireTag s a1 a2) := by
  unfold State.retireTag
  repeat' (first
    | ((conv => arg 3; arg 64); refine Effect.upd ?_ (by intro p hp; cases p <;> first | exact Bool.noConfusion hp | rfl))
    | (with_reducible apply Effect.refl)
    | (with_reducible (apply Effect.next; apply State.setTag_effect); decide +kernel)
    | (with_reducible assumption)
    | (with_reducible apply Effect.foldl <;> intros)
    | (with_reducible apply Effect.ite <;> intros)
    | (split)
    | (dsimp only))

theorem State.storeError_effect (s a1 a2) : Effect [.regs, .harts, .attics, .errRings, .wingLogs, .errInFlight, .ceWindows] s (State.storeError s a1 a2) := by
  unfold State.storeError
  repeat' (first
    | (with_reducible apply Effect.refl)
    | (with_reducible (apply Effect.next; apply State.post_effect); decide +kernel)
    | (with_reducible (apply Effect.next; apply State.modHartAt_effect); decide +kernel)
    | (with_reducible assumption)
    | (with_reducible apply Effect.foldl <;> intros)
    | (with_reducible apply Effect.ite <;> intros)
    | (split)
    | (dsimp only))

theorem State.remoteTrap_effect (s a1 a2 a3 a4) : Effect [.harts] s (State.remoteTrap s a1 a2 a3 a4) := by
  unfold State.remoteTrap
  repeat' (first
    | (with_reducible apply Effect.refl)
    | (with_reducible (apply Effect.next; apply State.modHartAt_effect); decide +kernel)
    | (with_reducible assumption)
    | (with_reducible apply Effect.foldl <;> intros)
    | (with_reducible apply Effect.ite <;> intros)
    | (split)
    | (dsimp only))

theorem State.endFence_effect (s a1) : Effect [.harts] s (State.endFence s a1) := by
  unfold State.endFence
  repeat' (first
    | (with_reducible apply Effect.refl)
    | (with_reducible (apply Effect.next; apply State.modHartAt_effect); decide +kernel)
    | (with_reducible assumption)
    | (with_reducible apply Effect.foldl <;> intros)
    | (with_reducible apply Effect.ite <;> intros)
    | (split)
    | (dsimp only))

theorem State.endAcquire_effect (s a1 a2) : Effect [.harts] s (State.endAcquire s a1 a2) := by
  unfold State.endAcquire
  repeat' (first
    | (with_reducible apply Effect.refl)
    | (with_reducible (apply Effect.next; apply State.modHartAt_effect); decide +kernel)
    | (with_reducible assumption)
    | (with_reducible apply Effect.foldl <;> intros)
    | (with_reducible apply Effect.ite <;> intros)
    | (split)
    | (dsimp only))

theorem State.deliverResult_effect (s a1 a2) : Effect [.harts] s (State.deliverResult s a1 a2) := by
  unfold State.deliverResult
  repeat' (first
    | (with_reducible apply Effect.refl)
    | (with_reducible (apply Effect.next; apply State.modHartAt_effect); decide +kernel)
    | (with_reducible assumption)
    | (with_reducible apply Effect.foldl <;> intros)
    | (with_reducible apply Effect.ite <;> intros)
    | (split)
    | (dsimp only))

theorem State.endSpawn_effect (s a1 a2 a3) : Effect [.harts, .rooms] s (State.endSpawn s a1 a2 a3) := by
  unfold State.endSpawn
  repeat' (first
    | (with_reducible apply Effect.refl)
    | (with_reducible (apply Effect.next; apply State.deliverResult_effect); decide +kernel)
    | (with_reducible (apply Effect.next; apply State.modRoom_effect); decide +kernel)
    | (with_reducible assumption)
    | (with_reducible apply Effect.foldl <;> intros)
    | (with_reducible apply Effect.ite <;> intros)
    | (split)
    | (dsimp only))

theorem State.endRequest_effect (s a1 a2 a3 a4) : Effect [.regs, .harts, .rooms, .attics, .errRings, .wingLogs, .errInFlight, .ceWindows] s (State.endRequest s a1 a2 a3 a4) := by
  unfold State.endRequest
  repeat' (first
    | (with_reducible apply Effect.refl)
    | (with_reducible (apply Effect.next; apply State.endFence_effect); decide +kernel)
    | (with_reducible (apply Effect.next; apply State.endAcquire_effect); decide +kernel)
    | (with_reducible (apply Effect.next; apply State.storeError_effect); decide +kernel)
    | (with_reducible (apply Effect.next; apply State.endSpawn_effect); decide +kernel)
    | (with_reducible (apply Effect.next; apply State.remoteTrap_effect); decide +kernel)
    | (with_reducible (apply Effect.next; apply State.deliverResult_effect); decide +kernel)
    | (with_reducible assumption)
    | (with_reducible apply Effect.foldl <;> intros)
    | (with_reducible apply Effect.ite <;> intros)
    | (split)
    | (dsimp only))

theorem State.releaseHarts_effect (s a1 a2) : Effect [.harts] s (State.releaseHarts s a1 a2) := by
  unfold State.releaseHarts
  repeat' (first
    | (with_reducible apply Effect.refl)
    | (with_reducible (apply Effect.next; apply State.modHartAt_effect); decide +kernel)
    | (with_reducible assumption)
    | (with_reducible apply Effect.foldl <;> intros)
    | (with_reducible apply Effect.ite <;> intros)
    | (split)
    | (dsimp only))

theorem State.performSpawn_effect (s a1 a2) : Effect [.harts] s (State.performSpawn s a1 a2) := by
  unfold State.performSpawn
  repeat' (first
    | (with_reducible apply Effect.refl)
    | (with_reducible (apply Effect.next; apply State.modHart_effect); decide +kernel)
    | (with_reducible assumption)
    | (with_reducible apply Effect.foldl <;> intros)
    | (with_reducible apply Effect.ite <;> intros)
    | (split)
    | (dsimp only))

theorem State.answerSpawn_effect (s a1 a2) : Effect [.regs, .harts, .rooms, .tags, .reqs, .attics, .errRings, .wingLogs, .errInFlight, .ceWindows] s (State.answerSpawn s a1 a2) := by
  unfold State.answerSpawn
  repeat' (first
    | (with_reducible apply Effect.refl)
    | (with_reducible (apply Effect.next; apply State.endRequest_effect); decide +kernel)
    | (with_reducible (apply Effect.next; apply State.retireTag_effect); decide +kernel)
    | (with_reducible assumption)
    | (with_reducible apply Effect.foldl <;> intros)
    | (with_reducible apply Effect.ite <;> intros)
    | (split)
    | (dsimp only))

theorem State.performLate_effect (s a1) : Effect [.free, .mem, .poison, .regs, .harts, .rooms, .attics, .dws, .errRings, .wingLogs, .errInFlight, .ceWindows, .guards] s (State.performLate s a1) := by
  unfold State.performLate
  repeat' (first
    | (with_reducible apply Effect.refl)
    | (with_reducible (apply Effect.next; apply State.storeAt_effect); decide +kernel)
    | (with_reducible (apply Effect.next; apply State.memWrite_effect); decide +kernel)
    | (with_reducible (apply Effect.next; apply State.atomicPerform_effect); decide +kernel)
    | (with_reducible (apply Effect.next; apply State.performSpawn_effect); decide +kernel)
    | (with_reducible assumption)
    | (with_reducible apply Effect.foldl <;> intros)
    | (with_reducible apply Effect.ite <;> intros)
    | (split)
    | (dsimp only))

theorem State.timeout_effect (s a1) : Effect [.free, .mem, .poison, .regs, .harts, .rooms, .tags, .reqs, .attics, .dws, .errRings, .wingLogs, .errInFlight, .ceWindows, .guards] s (State.timeout s a1) := by
  unfold State.timeout
  repeat' (first
    | (with_reducible apply Effect.refl)
    | (with_reducible (apply Effect.next; apply State.performLate_effect); decide +kernel)
    | (with_reducible (apply Effect.next; apply State.retireTag_effect); decide +kernel)
    | (with_reducible (apply Effect.next; apply State.bump_effect); decide +kernel)
    | (with_reducible (apply Effect.next; apply State.endFence_effect); decide +kernel)
    | (with_reducible (apply Effect.next; apply State.endAcquire_effect); decide +kernel)
    | (with_reducible (apply Effect.next; apply State.storeError_effect); decide +kernel)
    | (with_reducible (apply Effect.next; apply State.remoteTrap_effect); decide +kernel)
    | (with_reducible assumption)
    | (with_reducible apply Effect.foldl <;> intros)
    | (with_reducible apply Effect.ite <;> intros)
    | (split)
    | (dsimp only))

theorem State.joined_effect (s a1 a2 a3 a4 a5) : Effect [.harts, .rooms] s (State.joined s a1 a2 a3 a4 a5) := by
  unfold State.joined
  repeat' (first
    | (with_reducible apply Effect.refl)
    | (with_reducible (apply Effect.next; apply State.modRoom_effect); decide +kernel)
    | (with_reducible (apply Effect.next; apply State.modHart_effect); decide +kernel)
    | (with_reducible assumption)
    | (with_reducible apply Effect.foldl <;> intros)
    | (with_reducible apply Effect.ite <;> intros)
    | (split)
    | (dsimp only))

theorem State.childEnded_effect (s a1 a2 a3) : Effect [.harts, .rooms] s (State.childEnded s a1 a2 a3) := by
  unfold State.childEnded
  repeat' (first
    | (with_reducible apply Effect.refl)
    | (with_reducible (apply Effect.next; apply State.joined_effect); decide +kernel)
    | (with_reducible (apply Effect.next; apply State.modRoom_effect); decide +kernel)
    | (with_reducible assumption)
    | (with_reducible apply Effect.foldl <;> intros)
    | (with_reducible apply Effect.ite <;> intros)
    | (split)
    | (dsimp only))

theorem State.tellExit_effect (s a1) : Effect [.exitMsgs, .sent] s (State.tellExit s a1) := by
  unfold State.tellExit
  repeat' (first
    | ((conv => arg 3; arg 64); refine Effect.upd ?_ (by intro p hp; cases p <;> first | exact Bool.noConfusion hp | rfl))
    | (with_reducible apply Effect.refl)
    | (with_reducible (apply Effect.next; apply State.send_effect); decide +kernel)
    | (with_reducible assumption)
    | (with_reducible apply Effect.foldl <;> intros)
    | (with_reducible apply Effect.ite <;> intros)
    | (split)
    | (dsimp only))

theorem State.exitThread_effect (s a1 a2) : Effect [.harts, .rooms, .exitMsgs, .sent, .arrays, .jobs] s (State.exitThread s a1 a2) := by
  unfold State.exitThread
  repeat' (first
    | (with_reducible apply Effect.refl)
    | (with_reducible (apply Effect.next; apply State.modRoom_effect); decide +kernel)
    | (with_reducible (apply Effect.next; apply State.arrayRelease_effect); decide +kernel)
    | (with_reducible (apply Effect.next; apply State.tellExit_effect); decide +kernel)
    | (with_reducible (apply Effect.next; apply State.jobEnd_effect); decide +kernel)
    | (with_reducible (apply Effect.next; apply State.modHart_effect); decide +kernel)
    | (with_reducible assumption)
    | (with_reducible apply Effect.foldl <;> intros)
    | (with_reducible apply Effect.ite <;> intros)
    | (split)
    | (dsimp only))

end Sys2Proof.Machine
end

