-- ==== Sys2Proof/Laws/EffectHall.lean ====
section
/-! SUPPORT. What the operations and the meanings of Machine/Hall.lean can change: one lemma each. -/
-- The kernel decides the inclusions of each lemma before the next lemma starts.
set_option Elab.async false
set_option linter.all false
namespace Sys2Proof.Machine

theorem State.modModule_effect (s a1 a2) : Effect [.modules] s (State.modModule s a1 a2) := by
  unfold State.modModule
  repeat' (first
    | ((conv => arg 3; arg 64); refine Effect.upd ?_ (by intro p hp; cases p <;> first | exact Bool.noConfusion hp | rfl))
    | (with_reducible apply Effect.refl)
    | (with_reducible assumption)
    | (with_reducible apply Effect.foldl <;> intros)
    | (with_reducible apply Effect.ite <;> intros)
    | (split)
    | (dsimp only))

theorem State.modDie_effect (s a1 a2) : Effect [.dies] s (State.modDie s a1 a2) := by
  unfold State.modDie
  repeat' (first
    | ((conv => arg 3; arg 64); refine Effect.upd ?_ (by intro p hp; cases p <;> first | exact Bool.noConfusion hp | rfl))
    | (with_reducible apply Effect.refl)
    | (with_reducible assumption)
    | (with_reducible apply Effect.foldl <;> intros)
    | (with_reducible apply Effect.ite <;> intros)
    | (split)
    | (dsimp only))

theorem State.mendRoute_effect (s a1 a2 a3) : Effect [.remaps] s (State.mendRoute s a1 a2 a3) := by
  unfold State.mendRoute
  repeat' (first
    | ((conv => arg 3; arg 64); refine Effect.upd ?_ (by intro p hp; cases p <;> first | exact Bool.noConfusion hp | rfl))
    | (with_reducible apply Effect.refl)
    | (with_reducible assumption)
    | (with_reducible apply Effect.foldl <;> intros)
    | (with_reducible apply Effect.ite <;> intros)
    | (split)
    | (dsimp only))

theorem State.hallDrop_effect (s a1 a2) : Effect [.regs] s (State.hallDrop s a1 a2) := by
  unfold State.hallDrop
  repeat' (first
    | (with_reducible apply Effect.refl)
    | (with_reducible (apply Effect.next; apply State.bumpReg_effect); decide +kernel)
    | (with_reducible assumption)
    | (with_reducible apply Effect.foldl <;> intros)
    | (with_reducible apply Effect.ite <;> intros)
    | (split)
    | (dsimp only))

theorem State.hallArrive_effect (s a1 a2) : EffectO [.regs, .halls] s (State.hallArrive s a1 a2) := by
  unfold State.hallArrive
  repeat' (first
    | (with_reducible apply Effect.refl)
    | (with_reducible (apply Effect.next; apply State.hallDrop_effect); decide +kernel)
    | (with_reducible (apply Effect.next; apply State.modHall_effect); decide +kernel)
    | (with_reducible apply EffectO.none)
    | (with_reducible apply EffectO.some)
    | (with_reducible assumption)
    | (with_reducible apply Effect.foldl <;> intros)
    | (with_reducible (apply EffectO.get; case e => assumption))
    | (with_reducible apply Effect.getD)
    | (with_reducible apply Effect.ite <;> intros)
    | (with_reducible apply EffectO.ite <;> intros)
    | (split)
    | (dsimp only))

theorem State.spendCredit_effect (s a1 a2) : EffectO [.modules] s (State.spendCredit s a1 a2) := by
  unfold State.spendCredit
  repeat' (first
    | (with_reducible apply Effect.refl)
    | (with_reducible (apply Effect.next; apply State.modModule_effect); decide +kernel)
    | (with_reducible apply EffectO.none)
    | (with_reducible apply EffectO.some)
    | (with_reducible assumption)
    | (with_reducible apply Effect.foldl <;> intros)
    | (with_reducible (apply EffectO.get; case e => assumption))
    | (with_reducible apply Effect.getD)
    | (with_reducible apply Effect.ite <;> intros)
    | (with_reducible apply EffectO.ite <;> intros)
    | (split)
    | (dsimp only))

theorem State.hallLeave_effect (s a1 a2 a3) : EffectO [.regs, .halls, .modules] s (State.hallLeave s a1 a2 a3) := by
  unfold State.hallLeave
  repeat' (first
    | (with_reducible apply Effect.refl)
    | (with_reducible (apply Effect.next; apply EffectO.get; case e => assumption; apply State.spendCredit_effect); decide +kernel)
    | (with_reducible (apply EffectO.next; apply State.spendCredit_effect); decide +kernel)
    | (with_reducible (apply Effect.next; apply EffectO.get; case e => assumption; apply State.hallArrive_effect); decide +kernel)
    | (with_reducible (apply EffectO.next; apply State.hallArrive_effect); decide +kernel)
    | (with_reducible apply EffectO.none)
    | (with_reducible apply EffectO.some)
    | (with_reducible assumption)
    | (with_reducible apply Effect.foldl <;> intros)
    | (with_reducible (apply EffectO.get; case e => assumption))
    | (with_reducible apply Effect.getD)
    | (with_reducible apply Effect.ite <;> intros)
    | (with_reducible apply EffectO.ite <;> intros)
    | (split)
    | (dsimp only))

theorem State.dieInject_effect (s a1 a2 a3) : EffectO [.regs, .halls, .modules] s (State.dieInject s a1 a2 a3) := by
  unfold State.dieInject
  repeat' (first
    | (with_reducible apply Effect.refl)
    | (with_reducible (apply Effect.next; apply EffectO.get; case e => assumption; apply State.spendCredit_effect); decide +kernel)
    | (with_reducible (apply EffectO.next; apply State.spendCredit_effect); decide +kernel)
    | (with_reducible (apply Effect.next; apply EffectO.get; case e => assumption; apply State.hallArrive_effect); decide +kernel)
    | (with_reducible (apply EffectO.next; apply State.hallArrive_effect); decide +kernel)
    | (with_reducible apply EffectO.none)
    | (with_reducible apply EffectO.some)
    | (with_reducible assumption)
    | (with_reducible apply Effect.foldl <;> intros)
    | (with_reducible (apply EffectO.get; case e => assumption))
    | (with_reducible apply Effect.getD)
    | (with_reducible apply Effect.ite <;> intros)
    | (with_reducible apply EffectO.ite <;> intros)
    | (split)
    | (dsimp only))

theorem State.hallInject_effect (s a1 a2) : EffectO [.regs, .halls, .modules] s (State.hallInject s a1 a2) := by
  unfold State.hallInject
  repeat' (first
    | (with_reducible apply Effect.refl)
    | (with_reducible (apply Effect.next; apply EffectO.get; case e => assumption; apply State.hallArrive_effect); decide +kernel)
    | (with_reducible (apply EffectO.next; apply State.hallArrive_effect); decide +kernel)
    | (with_reducible (apply Effect.next; apply EffectO.get; case e => assumption; apply State.dieInject_effect); decide +kernel)
    | (with_reducible (apply EffectO.next; apply State.dieInject_effect); decide +kernel)
    | (with_reducible apply EffectO.none)
    | (with_reducible apply EffectO.some)
    | (with_reducible assumption)
    | (with_reducible apply Effect.foldl <;> intros)
    | (with_reducible (apply EffectO.get; case e => assumption))
    | (with_reducible apply Effect.getD)
    | (with_reducible apply Effect.ite <;> intros)
    | (with_reducible apply EffectO.ite <;> intros)
    | (split)
    | (dsimp only))

theorem State.hallAdvance_effect (s a1 a2) : Effect [.regs, .regqs, .halls, .modules] s (State.hallAdvance s a1 a2) := by
  unfold State.hallAdvance
  repeat' (first
    | (with_reducible apply Effect.refl)
    | (with_reducible (apply Effect.next; apply EffectO.get; case e => assumption; apply State.hallLeave_effect); decide +kernel)
    | (with_reducible (apply EffectO.next; apply State.hallLeave_effect); decide +kernel)
    | (with_reducible (apply Effect.next; apply State.modHall_effect); decide +kernel)
    | (with_reducible (apply Effect.next; apply State.modRegq_effect); decide +kernel)
    | (with_reducible assumption)
    | (with_reducible apply Effect.foldl <;> intros)
    | (with_reducible (apply EffectO.get; case e => assumption))
    | (with_reducible apply Effect.getD)
    | (with_reducible apply Effect.ite <;> intros)
    | (split)
    | (dsimp only))

theorem State.hallSwitch_effect (s a1) : Effect [.halls] s (State.hallSwitch s a1) := by
  unfold State.hallSwitch
  repeat' (first
    | (with_reducible apply Effect.refl)
    | (with_reducible (apply Effect.next; apply State.modHall_effect); decide +kernel)
    | (with_reducible assumption)
    | (with_reducible apply Effect.foldl <;> intros)
    | (with_reducible apply Effect.ite <;> intros)
    | (split)
    | (dsimp only))

theorem execHallRtSwitch_effect (a0 a1 s) : EffectR [.halls] s (execHallRtSwitch a0 a1 s) := by
  unfold execHallRtSwitch
  repeat' (first
    | (with_reducible apply Effect.refl)
    | (with_reducible (apply Effect.next; apply State.hallSwitch_effect); decide +kernel)
    | (with_reducible apply EffectR.ready)
    | (with_reducible apply EffectR.next)
    | (with_reducible assumption)
    | (with_reducible apply Effect.foldl <;> intros)
    | (with_reducible apply Effect.ite <;> intros)
    | (with_reducible apply EffectR.ite <;> intros)
    | (split)
    | (dsimp only))

theorem State.rtWrite_effect (s a1 a2 a3 a4) : Effect [.regs, .remaps] s (State.rtWrite s a1 a2 a3 a4) := by
  unfold State.rtWrite
  repeat' (first
    | (with_reducible apply Effect.refl)
    | (with_reducible (apply Effect.next; apply State.setRegN_effect); decide +kernel)
    | (with_reducible (apply Effect.next; apply State.mendRoute_effect); decide +kernel)
    | (with_reducible assumption)
    | (with_reducible apply Effect.foldl <;> intros)
    | (with_reducible apply Effect.ite <;> intros)
    | (split)
    | (dsimp only))

theorem execHallRtEntryWrite_effect (a0 a1 a2 a3 a4 s) : EffectR [.regs, .remaps] s (execHallRtEntryWrite a0 a1 a2 a3 a4 s) := by
  unfold execHallRtEntryWrite
  repeat' (first
    | (with_reducible apply Effect.refl)
    | (with_reducible (apply Effect.next; apply State.rtWrite_effect); decide +kernel)
    | (with_reducible apply EffectR.ready)
    | (with_reducible apply EffectR.next)
    | (with_reducible assumption)
    | (with_reducible apply Effect.foldl <;> intros)
    | (with_reducible apply Effect.ite <;> intros)
    | (with_reducible apply EffectR.ite <;> intros)
    | (split)
    | (dsimp only))

theorem State.routerRoutes_effect (s a1 a2 a3) : Effect [.regs, .remaps] s (State.routerRoutes s a1 a2 a3) := by
  unfold State.routerRoutes
  repeat' (first
    | (with_reducible apply Effect.refl)
    | (with_reducible (apply Effect.next; apply State.setRegN_effect); decide +kernel)
    | (with_reducible (apply Effect.next; apply State.mendRoute_effect); decide +kernel)
    | (with_reducible assumption)
    | (with_reducible apply Effect.foldl <;> intros)
    | (with_reducible apply Effect.ite <;> intros)
    | (split)
    | (dsimp only))

theorem State.reroute_effect (s) : Effect [.regs, .halls, .remaps] s (State.reroute s) := by
  unfold State.reroute
  repeat' (first
    | (with_reducible apply Effect.refl)
    | (with_reducible (apply Effect.next; apply State.routerRoutes_effect); decide +kernel)
    | (with_reducible (apply Effect.next; apply State.hallSwitch_effect); decide +kernel)
    | (with_reducible assumption)
    | (with_reducible apply Effect.foldl <;> intros)
    | (with_reducible apply Effect.ite <;> intros)
    | (split)
    | (dsimp only))

theorem State.postIsland_effect (s a1 a2 a3) : Effect [.wingLogs, .errInFlight] s (State.postIsland s a1 a2 a3) := by
  unfold State.postIsland
  repeat' (first
    | ((conv => arg 3; arg 64); refine Effect.upd ?_ (by intro p hp; cases p <;> first | exact Bool.noConfusion hp | rfl))
    | (with_reducible apply Effect.refl)
    | (with_reducible assumption)
    | (with_reducible apply Effect.foldl <;> intros)
    | (with_reducible apply Effect.ite <;> intros)
    | (split)
    | (dsimp only))

theorem State.portDown_effect (s a1 a2 a3) : Effect [.regs, .halls, .wingLogs, .errInFlight] s (State.portDown s a1 a2 a3) := by
  unfold State.portDown
  repeat' (first
    | (with_reducible apply Effect.refl)
    | (with_reducible (apply Effect.next; apply State.hallDrop_effect); decide +kernel)
    | (with_reducible (apply Effect.next; apply State.modHall_effect); decide +kernel)
    | (with_reducible (apply Effect.next; apply State.postIsland_effect); decide +kernel)
    | (with_reducible assumption)
    | (with_reducible apply Effect.foldl <;> intros)
    | (with_reducible apply Effect.ite <;> intros)
    | (split)
    | (dsimp only))

theorem State.reissue_effect (s a1) : Effect [.now, .reqs, .sent] s (State.reissue s a1) := by
  unfold State.reissue
  repeat' (first
    | ((conv => arg 3; arg 64); refine Effect.upd ?_ (by intro p hp; cases p <;> first | exact Bool.noConfusion hp | rfl))
    | (with_reducible apply Effect.refl)
    | (with_reducible (apply Effect.next; apply State.reach_effect); decide +kernel)
    | (with_reducible (apply Effect.next; apply State.sendReq_effect); decide +kernel)
    | (with_reducible assumption)
    | (with_reducible apply Effect.foldl <;> intros)
    | (with_reducible apply Effect.ite <;> intros)
    | (split)
    | (dsimp only))

theorem State.sendCombined_effect (s a1 a2) : Effect [.sent] s (State.sendCombined s a1 a2) := by
  unfold State.sendCombined
  repeat' (first
    | (with_reducible apply Effect.refl)
    | (with_reducible (apply Effect.next; apply State.send_effect); decide +kernel)
    | (with_reducible assumption)
    | (with_reducible apply Effect.foldl <;> intros)
    | (with_reducible apply Effect.ite <;> intros)
    | (split)
    | (dsimp only))

theorem State.landingReissue_effect (s a1 a2 a3) : Effect [.now, .sent, .halls] s (State.landingReissue s a1 a2 a3) := by
  unfold State.landingReissue
  repeat' (first
    | (with_reducible apply Effect.refl)
    | (with_reducible (apply Effect.next; apply State.reach_effect); decide +kernel)
    | (with_reducible (apply Effect.next; apply State.sendCombined_effect); decide +kernel)
    | (with_reducible (apply Effect.next; apply State.modHall_effect); decide +kernel)
    | (with_reducible assumption)
    | (with_reducible apply Effect.foldl <;> intros)
    | (with_reducible apply Effect.ite <;> intros)
    | (split)
    | (dsimp only))

theorem execHallReissue_effect (a0 a1 s) : EffectR [.now, .reqs, .sent, .halls] s (execHallReissue a0 a1 s) := by
  unfold execHallReissue
  repeat' (first
    | (with_reducible apply Effect.refl)
    | (with_reducible (apply Effect.next; apply State.landingReissue_effect); decide +kernel)
    | (with_reducible (apply Effect.next; apply State.reissue_effect); decide +kernel)
    | (with_reducible apply EffectR.ready)
    | (with_reducible apply EffectR.next)
    | (with_reducible assumption)
    | (with_reducible apply Effect.foldl <;> intros)
    | (with_reducible apply Effect.ite <;> intros)
    | (with_reducible apply EffectR.ite <;> intros)
    | (split)
    | (dsimp only))

theorem State.landingArrive_effect (s a1 a2) : Effect [.regs, .sent, .halls] s (State.landingArrive s a1 a2) := by
  unfold State.landingArrive
  repeat' (first
    | (with_reducible apply Effect.refl)
    | (with_reducible (apply Effect.next; apply State.respond_effect); decide +kernel)
    | (with_reducible (apply Effect.next; apply State.bumpReg_effect); decide +kernel)
    | (with_reducible (apply Effect.next; apply State.modHall_effect); decide +kernel)
    | (with_reducible assumption)
    | (with_reducible apply Effect.foldl <;> intros)
    | (with_reducible apply Effect.ite <;> intros)
    | (split)
    | (dsimp only))

theorem execCombinedXaaddArrival_effect (a0 a1 s) : EffectR [.regs, .sent, .halls] s (execCombinedXaaddArrival a0 a1 s) := by
  unfold execCombinedXaaddArrival
  repeat' (first
    | (with_reducible apply Effect.refl)
    | (with_reducible (apply Effect.next; apply State.landingArrive_effect); decide +kernel)
    | (with_reducible apply EffectR.ready)
    | (with_reducible apply EffectR.next)
    | (with_reducible assumption)
    | (with_reducible apply Effect.foldl <;> intros)
    | (with_reducible apply Effect.ite <;> intros)
    | (with_reducible apply EffectR.ite <;> intros)
    | (split)
    | (dsimp only))

theorem execCombineWinExpiry_effect (a0 a1 a2 s) : EffectR [.now, .tags, .sent, .halls] s (execCombineWinExpiry a0 a1 a2 s) := by
  unfold execCombineWinExpiry
  repeat' (first
    | (with_reducible apply Effect.refl)
    | (with_reducible (apply Effect.next; apply State.reach_effect); decide +kernel)
    | (with_reducible (apply Effect.next; apply State.setTag_effect); decide +kernel)
    | (with_reducible (apply Effect.next; apply State.sendCombined_effect); decide +kernel)
    | (with_reducible (apply Effect.next; apply State.modHall_effect); decide +kernel)
    | (with_reducible apply EffectR.ready)
    | (with_reducible apply EffectR.next)
    | (with_reducible assumption)
    | (with_reducible apply Effect.foldl <;> intros)
    | (with_reducible apply Effect.ite <;> intros)
    | (with_reducible apply EffectR.ite <;> intros)
    | (split)
    | (dsimp only))

theorem State.landingAnswer_effect (s a1 a2 a3) : Effect [.tags, .sent, .halls] s (State.landingAnswer s a1 a2 a3) := by
  unfold State.landingAnswer
  repeat' (first
    | (with_reducible apply Effect.refl)
    | (with_reducible (apply Effect.next; apply State.respond_effect); decide +kernel)
    | (with_reducible (apply Effect.next; apply State.modHall_effect); decide +kernel)
    | (with_reducible (apply Effect.next; apply State.setTag_effect); decide +kernel)
    | (with_reducible assumption)
    | (with_reducible apply Effect.foldl <;> intros)
    | (with_reducible apply Effect.ite <;> intros)
    | (split)
    | (dsimp only))

theorem State.hallRegWrite_effect (s a1 a2 a3) : Effect [.regs, .halls, .remaps] s (State.hallRegWrite s a1 a2 a3) := by
  unfold State.hallRegWrite
  repeat' (first
    | (with_reducible apply Effect.refl)
    | (with_reducible (apply Effect.next; apply State.hallSwitch_effect); decide +kernel)
    | (with_reducible (apply Effect.next; apply State.setRegN_effect); decide +kernel)
    | (with_reducible (apply Effect.next; apply State.rtWrite_effect); decide +kernel)
    | (with_reducible assumption)
    | (with_reducible apply Effect.foldl <;> intros)
    | (with_reducible apply Effect.ite <;> intros)
    | (split)
    | (dsimp only))

end Sys2Proof.Machine
end

