-- ==== Sys2Proof/Laws/EffectColl.lean ====
section
/-! SUPPORT. What the operations and the meanings of Machine/Coll.lean can change: one lemma each. -/
-- The kernel decides the inclusions of each lemma before the next lemma starts.
set_option Elab.async false
set_option linter.all false
namespace Sys2Proof.Machine

theorem State.setColl_effect (s a1 a2) : Effect [.colls] s (State.setColl s a1 a2) := by
  unfold State.setColl
  repeat' (first
    | ((conv => arg 3; arg 64); refine Effect.upd ?_ (by intro p hp; cases p <;> first | exact Bool.noConfusion hp | rfl))
    | (with_reducible apply Effect.refl)
    | (with_reducible assumption)
    | (with_reducible apply Effect.foldl <;> intros)
    | (with_reducible apply Effect.ite <;> intros)
    | (split)
    | (dsimp only))

theorem State.setInst_effect (s a1) : Effect [.insts] s (State.setInst s a1) := by
  unfold State.setInst
  repeat' (first
    | ((conv => arg 3; arg 64); refine Effect.upd ?_ (by intro p hp; cases p <;> first | exact Bool.noConfusion hp | rfl))
    | (with_reducible apply Effect.refl)
    | (with_reducible assumption)
    | (with_reducible apply Effect.foldl <;> intros)
    | (with_reducible apply Effect.ite <;> intros)
    | (split)
    | (dsimp only))

theorem State.dropInst_effect (s a1 a2) : Effect [.insts, .guards] s (State.dropInst s a1 a2) := by
  unfold State.dropInst
  repeat' (first
    | ((conv => arg 3; arg 64); refine Effect.upd ?_ (by intro p hp; cases p <;> first | exact Bool.noConfusion hp | rfl))
    | (with_reducible apply Effect.refl)
    | (with_reducible assumption)
    | (with_reducible apply Effect.foldl <;> intros)
    | (with_reducible apply Effect.ite <;> intros)
    | (split)
    | (dsimp only))

theorem State.collRecord_effect (s a1 a2 a3 a4 a5) : Effect [.free, .mem, .poison, .regs, .harts, .rooms, .colls, .attics, .dws, .errRings, .wingLogs, .errInFlight, .ceWindows, .guards] s (State.collRecord s a1 a2 a3 a4 a5) := by
  unfold State.collRecord
  repeat' (first
    | (with_reducible apply Effect.refl)
    | (with_reducible (apply Effect.next; apply State.writePantry_effect); decide +kernel)
    | (with_reducible (apply Effect.next; apply State.signalSet_effect); decide +kernel)
    | (with_reducible (apply Effect.next; apply State.setColl_effect); decide +kernel)
    | (with_reducible (apply Effect.next; apply State.modHartAt_effect); decide +kernel)
    | (with_reducible assumption)
    | (with_reducible apply Effect.foldl <;> intros)
    | (with_reducible apply Effect.ite <;> intros)
    | (split)
    | (dsimp only))

theorem State.collSpoil_effect (s a1 a2 a3) : Effect [.mem, .poison] s (State.collSpoil s a1 a2 a3) := by
  unfold State.collSpoil
  repeat' (first
    | (with_reducible apply Effect.refl)
    | (with_reducible (apply Effect.next; apply State.spoilRanges_effect); decide +kernel)
    | (with_reducible assumption)
    | (with_reducible apply Effect.foldl <;> intros)
    | (with_reducible apply Effect.ite <;> intros)
    | (split)
    | (dsimp only))

theorem State.endHere_effect (s a1 a2 a3) : Effect [.free, .mem, .poison, .regs, .harts, .rooms, .colls, .insts, .keptEnds, .attics, .dws, .errRings, .wingLogs, .errInFlight, .ceWindows, .guards] s (State.endHere s a1 a2 a3) := by
  unfold State.endHere
  repeat' (first
    | ((conv => arg 3; arg 64); refine Effect.upd ?_ (by intro p hp; cases p <;> first | exact Bool.noConfusion hp | rfl))
    | (with_reducible apply Effect.refl)
    | (with_reducible (apply Effect.next; apply State.collSpoil_effect); decide +kernel)
    | (with_reducible (apply Effect.next; apply State.bump_effect); decide +kernel)
    | (with_reducible (apply Effect.next; apply State.collRecord_effect); decide +kernel)
    | (with_reducible (apply Effect.next; apply State.dropInst_effect); decide +kernel)
    | (with_reducible assumption)
    | (with_reducible apply Effect.foldl <;> intros)
    | (with_reducible apply Effect.ite <;> intros)
    | (split)
    | (dsimp only))

theorem State.endInst_effect (s a1 a2 a3) : Effect [.free, .mem, .poison, .regs, .harts, .rooms, .sent, .colls, .insts, .keptEnds, .attics, .dws, .errRings, .wingLogs, .errInFlight, .ceWindows, .guards] s (State.endInst s a1 a2 a3) := by
  unfold State.endInst
  repeat' (first
    | (with_reducible apply Effect.refl)
    | (with_reducible (apply Effect.next; apply State.send_effect); decide +kernel)
    | (with_reducible (apply Effect.next; apply State.endHere_effect); decide +kernel)
    | (with_reducible assumption)
    | (with_reducible apply Effect.foldl <;> intros)
    | (with_reducible apply Effect.ite <;> intros)
    | (split)
    | (dsimp only))

theorem State.collHeard_effect (s a1 a2) : Effect [.colls] s (State.collHeard s a1 a2) := by
  unfold State.collHeard
  repeat' (first
    | ((conv => arg 3; arg 64); refine Effect.upd ?_ (by intro p hp; cases p <;> first | exact Bool.noConfusion hp | rfl))
    | (with_reducible apply Effect.refl)
    | (with_reducible assumption)
    | (with_reducible apply Effect.foldl <;> intros)
    | (with_reducible apply Effect.ite <;> intros)
    | (split)
    | (dsimp only))

theorem State.sendChunk_effect (s a1 a2 a3) : Effect [.sent] s (State.sendChunk s a1 a2 a3) := by
  unfold State.sendChunk
  repeat' (first
    | (with_reducible apply Effect.refl)
    | (with_reducible (apply Effect.next; apply State.send_effect); decide +kernel)
    | (with_reducible assumption)
    | (with_reducible apply Effect.foldl <;> intros)
    | (with_reducible apply Effect.ite <;> intros)
    | (split)
    | (dsimp only))

theorem State.climb_effect (s a1 a2 a3 a4 a5 a6) : Effect [.sent, .colls, .insts] s (State.climb s a1 a2 a3 a4 a5 a6) := by
  induction a3 generalizing s a4 a5 a6 with
  | zero => exact Effect.refl _ _
  | succ f ih =>
    unfold State.climb
    repeat' (first
      | (with_reducible (apply Effect.next; apply ih); decide +kernel)
      | (with_reducible apply Effect.refl)
      | (with_reducible (apply Effect.next; apply State.collHeard_effect); decide +kernel)
      | (with_reducible (apply Effect.next; apply State.sendChunk_effect); decide +kernel)
      | (with_reducible (apply Effect.next; apply State.setInst_effect); decide +kernel)
      | (with_reducible assumption)
      | (with_reducible apply Effect.foldl <;> intros)
      | (with_reducible apply Effect.ite <;> intros)
      | (split)
      | (dsimp only))

theorem State.launch_effect (s a1 a2) : Effect [.sent, .colls, .insts] s (State.launch s a1 a2) := by
  unfold State.launch
  repeat' (first
    | (with_reducible apply Effect.refl)
    | (with_reducible (apply Effect.next; apply State.climb_effect); decide +kernel)
    | (with_reducible (apply Effect.next; apply State.sendChunk_effect); decide +kernel)
    | (with_reducible assumption)
    | (with_reducible apply Effect.foldl <;> intros)
    | (with_reducible apply Effect.ite <;> intros)
    | (split)
    | (dsimp only))

theorem State.collNote_effect (s a1 a2) : Effect [.free, .regs, .attics, .errRings, .wingLogs, .errInFlight, .ceWindows] s (State.collNote s a1 a2) := by
  unfold State.collNote
  repeat' (first
    | (with_reducible apply Effect.refl)
    | (with_reducible (apply Effect.next; apply State.unitNote_effect); decide +kernel)
    | (with_reducible assumption)
    | (with_reducible apply Effect.foldl <;> intros)
    | (with_reducible apply Effect.ite <;> intros)
    | (split)
    | (dsimp only))

theorem State.collGuard_effect (s a1 a2 a3) : Effect [.colls, .guards] s (State.collGuard s a1 a2 a3) := by
  unfold State.collGuard
  repeat' (first
    | (with_reducible apply Effect.refl)
    | (with_reducible (apply Effect.next; apply State.setColl_effect); decide +kernel)
    | (with_reducible (apply Effect.next; apply State.setGuard_effect); decide +kernel)
    | (with_reducible assumption)
    | (with_reducible apply Effect.foldl <;> intros)
    | (with_reducible apply Effect.ite <;> intros)
    | (split)
    | (dsimp only))

theorem State.mixInsts_effect (s a1 a2) : Effect [.insts] s (State.mixInsts s a1 a2) := by
  unfold State.mixInsts
  repeat' (first
    | ((conv => arg 3; arg 64); refine Effect.upd ?_ (by intro p hp; cases p <;> first | exact Bool.noConfusion hp | rfl))
    | (with_reducible apply Effect.refl)
    | (with_reducible assumption)
    | (with_reducible apply Effect.foldl <;> intros)
    | (with_reducible apply Effect.ite <;> intros)
    | (split)
    | (dsimp only))

theorem State.contributeTo_effect (s a1 a2 a3 a4 a5) : Effect [.free, .mem, .poison, .regs, .harts, .rooms, .sent, .colls, .insts, .keptEnds, .attics, .dws, .errRings, .wingLogs, .errInFlight, .ceWindows, .guards] s (State.contributeTo s a1 a2 a3 a4 a5) := by
  unfold State.contributeTo
  repeat' (first
    | (with_reducible apply Effect.refl)
    | (with_reducible (apply Effect.next; apply State.endInst_effect); decide +kernel)
    | (with_reducible (apply Effect.next; apply State.mixInsts_effect); decide +kernel)
    | (with_reducible (apply Effect.next; apply State.launch_effect); decide +kernel)
    | (with_reducible (apply Effect.next; apply State.bump_effect); decide +kernel)
    | (with_reducible (apply Effect.next; apply State.setInst_effect); decide +kernel)
    | (with_reducible (apply Effect.next; apply State.collGuard_effect); decide +kernel)
    | (with_reducible assumption)
    | (with_reducible apply Effect.foldl <;> intros)
    | (with_reducible apply Effect.ite <;> intros)
    | (split)
    | (dsimp only))

theorem State.contribute_effect (s a1 a2) : Effect [.free, .mem, .poison, .regs, .harts, .rooms, .sent, .colls, .insts, .keptEnds, .attics, .dws, .errRings, .wingLogs, .errInFlight, .ceWindows, .guards] s (State.contribute s a1 a2) := by
  unfold State.contribute
  repeat' (first
    | ((conv => arg 3; arg 64); refine Effect.upd ?_ (by intro p hp; cases p <;> first | exact Bool.noConfusion hp | rfl))
    | (with_reducible apply Effect.refl)
    | (with_reducible (apply Effect.next; apply State.collNote_effect); decide +kernel)
    | (with_reducible (apply Effect.next; apply State.collRecord_effect); decide +kernel)
    | (with_reducible (apply Effect.next; apply State.setColl_effect); decide +kernel)
    | (with_reducible (apply Effect.next; apply State.contributeTo_effect); decide +kernel)
    | (with_reducible assumption)
    | (with_reducible apply Effect.foldl <;> intros)
    | (with_reducible apply Effect.ite <;> intros)
    | (split)
    | (dsimp only))

theorem execSzColl_effect (a0 a1 s) : EffectR [.free, .mem, .poison, .regs, .harts, .rooms, .sent, .colls, .insts, .keptEnds, .attics, .dws, .errRings, .wingLogs, .errInFlight, .ceWindows, .guards] s (execSzColl a0 a1 s) := by
  unfold execSzColl szRun State.withDescriptor whenReleased State.collAccept
  repeat' (first
    | (with_reducible apply Effect.refl)
    | (with_reducible (apply Effect.next; apply State.endWfi_effect); decide +kernel)
    | (with_reducible (apply Effect.next; apply State.issued_effect); decide +kernel)
    | (with_reducible (apply Effect.next; apply State.trap_effect); decide +kernel)
    | (with_reducible (apply Effect.next; apply State.szOperand_effect); decide +kernel)
    | (with_reducible (apply Effect.next; apply State.result_effect); decide +kernel)
    | (with_reducible (apply Effect.next; apply State.modHart_effect); decide +kernel)
    | (with_reducible (apply Effect.next; apply State.contribute_effect); decide +kernel)
    | (with_reducible (apply Effect.next; apply State.setColl_effect); decide +kernel)
    | (with_reducible (apply Effect.next; apply State.readDescriptor_effect; assumption); decide +kernel)
    | (with_reducible (apply Effect.next; apply State.readDescriptor_trapEffect; assumption); decide +kernel)
    | (with_reducible apply EffectR.ready)
    | (with_reducible apply EffectR.next)
    | (with_reducible assumption)
    | (with_reducible apply Effect.foldl <;> intros)
    | (with_reducible apply Effect.ite <;> intros)
    | (with_reducible apply EffectR.ite <;> intros)
    | (split)
    | (dsimp only [id]))

theorem execSzGbar_effect (a0 a1 s) : EffectR [.free, .mem, .poison, .regs, .harts, .rooms, .sent, .colls, .insts, .keptEnds, .attics, .dws, .errRings, .wingLogs, .errInFlight, .ceWindows, .guards] s (execSzGbar a0 a1 s) := by
  unfold execSzGbar szRun State.withDescriptor whenReleased State.collAccept
  repeat' (first
    | (with_reducible apply Effect.refl)
    | (with_reducible (apply Effect.next; apply State.endWfi_effect); decide +kernel)
    | (with_reducible (apply Effect.next; apply State.issued_effect); decide +kernel)
    | (with_reducible (apply Effect.next; apply State.trap_effect); decide +kernel)
    | (with_reducible (apply Effect.next; apply State.modHart_effect); decide +kernel)
    | (with_reducible (apply Effect.next; apply State.szOperand_effect); decide +kernel)
    | (with_reducible (apply Effect.next; apply State.result_effect); decide +kernel)
    | (with_reducible (apply Effect.next; apply State.contribute_effect); decide +kernel)
    | (with_reducible (apply Effect.next; apply State.setColl_effect); decide +kernel)
    | (with_reducible (apply Effect.next; apply State.readDescriptor_effect; assumption); decide +kernel)
    | (with_reducible (apply Effect.next; apply State.readDescriptor_trapEffect; assumption); decide +kernel)
    | (with_reducible apply EffectR.ready)
    | (with_reducible apply EffectR.next)
    | (with_reducible assumption)
    | (with_reducible apply Effect.foldl <;> intros)
    | (with_reducible apply Effect.ite <;> intros)
    | (with_reducible apply EffectR.ite <;> intros)
    | (split)
    | (dsimp only [id]))

theorem execSzGbarTimeout_effect (a0 s) : EffectR [.now, .harts] s (execSzGbarTimeout a0 s) := by
  unfold execSzGbarTimeout
  repeat' (first
    | (with_reducible apply Effect.refl)
    | (with_reducible (apply Effect.next; apply State.modHart_effect); decide +kernel)
    | (with_reducible (apply Effect.next; apply State.reach_effect); decide +kernel)
    | (with_reducible apply EffectR.ready)
    | (with_reducible apply EffectR.next)
    | (with_reducible assumption)
    | (with_reducible apply Effect.foldl <;> intros)
    | (with_reducible apply Effect.ite <;> intros)
    | (with_reducible apply EffectR.ite <;> intros)
    | (split)
    | (dsimp only))

theorem State.creditRooms_effect (s a1 a2 a3) : Effect [.colls] s (State.creditRooms s a1 a2 a3) := by
  unfold State.creditRooms
  repeat' (first
    | (with_reducible apply Effect.refl)
    | (with_reducible (apply Effect.next; apply State.collHeard_effect); decide +kernel)
    | (with_reducible assumption)
    | (with_reducible apply Effect.foldl <;> intros)
    | (with_reducible apply Effect.ite <;> intros)
    | (split)
    | (dsimp only))

theorem State.freezeChunks_effect (s a1) : Effect [.insts] s (State.freezeChunks s a1) := by
  unfold State.freezeChunks
  repeat' (first
    | ((conv => arg 3; arg 64); refine Effect.upd ?_ (by intro p hp; cases p <;> first | exact Bool.noConfusion hp | rfl))
    | (with_reducible apply Effect.refl)
    | (with_reducible assumption)
    | (with_reducible apply Effect.foldl <;> intros)
    | (with_reducible apply Effect.ite <;> intros)
    | (split)
    | (dsimp only))

theorem State.thawChunks_effect (s) : Effect [.insts] s (State.thawChunks s) := by
  unfold State.thawChunks
  repeat' (first
    | ((conv => arg 3; arg 64); refine Effect.upd ?_ (by intro p hp; cases p <;> first | exact Bool.noConfusion hp | rfl))
    | (with_reducible apply Effect.refl)
    | (with_reducible assumption)
    | (with_reducible apply Effect.foldl <;> intros)
    | (with_reducible apply Effect.ite <;> intros)
    | (split)
    | (dsimp only))

theorem execLandingCombine_effect (a0 a1 a2 a3 a4 s) : EffectR [.sent, .colls, .insts] s (execLandingCombine a0 a1 a2 a3 a4 s) := by
  unfold execLandingCombine
  repeat' (first
    | (with_reducible apply Effect.refl)
    | (with_reducible (apply Effect.next; apply State.climb_effect); decide +kernel)
    | (with_reducible (apply Effect.next; apply State.creditRooms_effect); decide +kernel)
    | (with_reducible (apply Effect.next; apply State.setInst_effect); decide +kernel)
    | (with_reducible apply EffectR.ready)
    | (with_reducible apply EffectR.next)
    | (with_reducible assumption)
    | (with_reducible apply Effect.foldl <;> intros)
    | (with_reducible apply Effect.ite <;> intros)
    | (with_reducible apply EffectR.ite <;> intros)
    | (split)
    | (dsimp only))

theorem State.takeChunk_effect (s a1 a2 a3) : Effect [.free, .mem, .poison, .regs, .harts, .rooms, .sent, .colls, .insts, .keptEnds, .attics, .dws, .errRings, .wingLogs, .errInFlight, .ceWindows, .guards] s (State.takeChunk s a1 a2 a3) := by
  unfold State.takeChunk
  repeat' (first
    | (with_reducible apply Effect.refl)
    | (with_reducible (apply Effect.next; apply State.endInst_effect); decide +kernel)
    | (with_reducible (apply Effect.next; apply State.setInst_effect); decide +kernel)
    | (with_reducible (apply Effect.next; apply State.collHeard_effect); decide +kernel)
    | (with_reducible (apply Effect.next; apply State.climb_effect); decide +kernel)
    | (with_reducible assumption)
    | (with_reducible apply Effect.foldl <;> intros)
    | (with_reducible apply Effect.ite <;> intros)
    | (split)
    | (dsimp only))

theorem State.hearEnd_effect (s a1 a2 a3 a4) : Effect [.free, .mem, .poison, .regs, .harts, .rooms, .colls, .insts, .keptEnds, .attics, .dws, .errRings, .wingLogs, .errInFlight, .ceWindows, .guards] s (State.hearEnd s a1 a2 a3 a4) := by
  unfold State.hearEnd
  repeat' (first
    | ((conv => arg 3; arg 64); refine Effect.upd ?_ (by intro p hp; cases p <;> first | exact Bool.noConfusion hp | rfl))
    | (with_reducible apply Effect.refl)
    | (with_reducible (apply Effect.next; apply State.endHere_effect); decide +kernel)
    | (with_reducible assumption)
    | (with_reducible apply Effect.foldl <;> intros)
    | (with_reducible apply Effect.ite <;> intros)
    | (split)
    | (dsimp only))

theorem execMsgColl_effect (a0 a1 s) : EffectR [.free, .mem, .poison, .regs, .harts, .rooms, .sent, .colls, .insts, .keptEnds, .attics, .dws, .errRings, .wingLogs, .errInFlight, .ceWindows, .guards] s (execMsgColl a0 a1 s) := by
  unfold execMsgColl servedRun
  repeat' (first
    | (with_reducible apply Effect.refl)
    | (with_reducible (apply Effect.next; apply State.respond_effect); decide +kernel)
    | (with_reducible (apply Effect.next; apply State.hearEnd_effect); decide +kernel)
    | (with_reducible (apply Effect.next; apply State.takeChunk_effect); decide +kernel)
    | (with_reducible apply EffectR.ready)
    | (with_reducible apply EffectR.next)
    | (with_reducible assumption)
    | (with_reducible apply Effect.foldl <;> intros)
    | (with_reducible apply Effect.ite <;> intros)
    | (with_reducible apply EffectR.ite <;> intros)
    | (split)
    | (dsimp only [id]))

theorem State.deliver_effect (s a1 a2 a3) : EffectO [.free, .mem, .poison, .regs, .harts, .rooms, .attics, .dws, .errRings, .wingLogs, .errInFlight, .ceWindows] s (State.deliver s a1 a2 a3) := by
  induction a3 generalizing s with
  | nil => exact EffectO.some (Effect.refl _ _)
  | cons x t ih =>
    unfold State.deliver
    repeat' (first
      | (with_reducible (apply EffectO.next; apply ih); decide +kernel)
      | (with_reducible apply Effect.refl)
      | (with_reducible (apply Effect.next; apply State.pwriteAll_effect); decide +kernel)
      | (with_reducible apply EffectO.none)
      | (with_reducible apply EffectO.some)
      | (with_reducible assumption)
      | (with_reducible apply Effect.foldl <;> intros)
      | (with_reducible (apply EffectO.get; case e => assumption))
      | (with_reducible apply Effect.getD)
      | (with_reducible apply Effect.ite <;> intros)
      | (with_reducible apply EffectO.ite <;> intros)
      | (split)
      | (dsimp only))

theorem State.releaseGuard_effect (s a1) : Effect [.guards] s (State.releaseGuard s a1) := by
  unfold State.releaseGuard
  repeat' (first
    | ((conv => arg 3; arg 64); refine Effect.upd ?_ (by intro p hp; cases p <;> first | exact Bool.noConfusion hp | rfl))
    | (with_reducible apply Effect.refl)
    | (with_reducible assumption)
    | (with_reducible apply Effect.foldl <;> intros)
    | (with_reducible apply Effect.ite <;> intros)
    | (split)
    | (dsimp only))

theorem State.collComplete_effect (s a1 a2 a3 a4) : Effect [.free, .mem, .poison, .regs, .harts, .rooms, .sent, .colls, .insts, .keptEnds, .attics, .dws, .errRings, .wingLogs, .errInFlight, .ceWindows, .guards] s (State.collComplete s a1 a2 a3 a4) := by
  unfold State.collComplete
  repeat' (first
    | (with_reducible apply Effect.refl)
    | (with_reducible (apply Effect.next; apply EffectO.get; case e => assumption; apply State.deliver_effect); decide +kernel)
    | (with_reducible (apply EffectO.next; apply State.deliver_effect); decide +kernel)
    | (with_reducible (apply Effect.next; apply State.endInst_effect); decide +kernel)
    | (with_reducible (apply Effect.next; apply State.releaseGuard_effect); decide +kernel)
    | (with_reducible (apply Effect.next; apply State.collRecord_effect); decide +kernel)
    | (with_reducible (apply Effect.next; apply State.bump_effect); decide +kernel)
    | (with_reducible (apply Effect.next; apply State.dropInst_effect); decide +kernel)
    | (with_reducible (apply Effect.next; apply State.setInst_effect); decide +kernel)
    | (with_reducible assumption)
    | (with_reducible apply Effect.foldl <;> intros)
    | (with_reducible (apply EffectO.get; case e => assumption))
    | (with_reducible apply Effect.getD)
    | (with_reducible apply Effect.ite <;> intros)
    | (split)
    | (dsimp only))

theorem collDone_effect (a0 a1 a2 s) : EffectR [.free, .mem, .poison, .regs, .harts, .rooms, .sent, .colls, .insts, .keptEnds, .attics, .dws, .errRings, .wingLogs, .errInFlight, .ceWindows, .guards] s (collDone a0 a1 a2 s) := by
  unfold collDone
  repeat' (first
    | (with_reducible apply Effect.refl)
    | (with_reducible (apply Effect.next; apply State.collComplete_effect); decide +kernel)
    | (with_reducible apply EffectR.ready)
    | (with_reducible apply EffectR.next)
    | (with_reducible assumption)
    | (with_reducible apply Effect.foldl <;> intros)
    | (with_reducible apply Effect.ite <;> intros)
    | (with_reducible apply EffectR.ite <;> intros)
    | (split)
    | (dsimp only))

theorem execCollAllReduce_effect (a0 a1 s) : EffectR [.free, .mem, .poison, .regs, .harts, .rooms, .sent, .colls, .insts, .keptEnds, .attics, .dws, .errRings, .wingLogs, .errInFlight, .ceWindows, .guards] s (execCollAllReduce a0 a1 s) := by
  unfold execCollAllReduce
  repeat' (first
    | (with_reducible apply Effect.refl)
    | (with_reducible (apply EffectR.after; apply collDone_effect); decide +kernel)
    | (with_reducible apply EffectR.ready)
    | (with_reducible apply EffectR.next)
    | (with_reducible assumption)
    | (with_reducible apply Effect.foldl <;> intros)
    | (with_reducible apply Effect.ite <;> intros)
    | (with_reducible apply EffectR.ite <;> intros)
    | (split)
    | (dsimp only))

theorem execCollReduceScatter_effect (a0 a1 s) : EffectR [.free, .mem, .poison, .regs, .harts, .rooms, .sent, .colls, .insts, .keptEnds, .attics, .dws, .errRings, .wingLogs, .errInFlight, .ceWindows, .guards] s (execCollReduceScatter a0 a1 s) := by
  unfold execCollReduceScatter
  repeat' (first
    | (with_reducible apply Effect.refl)
    | (with_reducible (apply EffectR.after; apply collDone_effect); decide +kernel)
    | (with_reducible apply EffectR.ready)
    | (with_reducible apply EffectR.next)
    | (with_reducible assumption)
    | (with_reducible apply Effect.foldl <;> intros)
    | (with_reducible apply Effect.ite <;> intros)
    | (with_reducible apply EffectR.ite <;> intros)
    | (split)
    | (dsimp only))

theorem execCollAllGather_effect (a0 a1 s) : EffectR [.free, .mem, .poison, .regs, .harts, .rooms, .sent, .colls, .insts, .keptEnds, .attics, .dws, .errRings, .wingLogs, .errInFlight, .ceWindows, .guards] s (execCollAllGather a0 a1 s) := by
  unfold execCollAllGather
  repeat' (first
    | (with_reducible apply Effect.refl)
    | (with_reducible (apply EffectR.after; apply collDone_effect); decide +kernel)
    | (with_reducible apply EffectR.ready)
    | (with_reducible apply EffectR.next)
    | (with_reducible assumption)
    | (with_reducible apply Effect.foldl <;> intros)
    | (with_reducible apply Effect.ite <;> intros)
    | (with_reducible apply EffectR.ite <;> intros)
    | (split)
    | (dsimp only))

theorem execCollAllToAll_effect (a0 a1 s) : EffectR [.free, .mem, .poison, .regs, .harts, .rooms, .sent, .colls, .insts, .keptEnds, .attics, .dws, .errRings, .wingLogs, .errInFlight, .ceWindows, .guards] s (execCollAllToAll a0 a1 s) := by
  unfold execCollAllToAll
  repeat' (first
    | (with_reducible apply Effect.refl)
    | (with_reducible (apply EffectR.after; apply collDone_effect); decide +kernel)
    | (with_reducible apply EffectR.ready)
    | (with_reducible apply EffectR.next)
    | (with_reducible assumption)
    | (with_reducible apply Effect.foldl <;> intros)
    | (with_reducible apply Effect.ite <;> intros)
    | (with_reducible apply EffectR.ite <;> intros)
    | (split)
    | (dsimp only))

theorem execCollBroadcast_effect (a0 a1 s) : EffectR [.free, .mem, .poison, .regs, .harts, .rooms, .sent, .colls, .insts, .keptEnds, .attics, .dws, .errRings, .wingLogs, .errInFlight, .ceWindows, .guards] s (execCollBroadcast a0 a1 s) := by
  unfold execCollBroadcast
  repeat' (first
    | (with_reducible apply Effect.refl)
    | (with_reducible (apply EffectR.after; apply collDone_effect); decide +kernel)
    | (with_reducible apply EffectR.ready)
    | (with_reducible apply EffectR.next)
    | (with_reducible assumption)
    | (with_reducible apply Effect.foldl <;> intros)
    | (with_reducible apply Effect.ite <;> intros)
    | (with_reducible apply EffectR.ite <;> intros)
    | (split)
    | (dsimp only))

theorem execCollBarrier_effect (a0 a1 s) : EffectR [.free, .mem, .poison, .regs, .harts, .rooms, .sent, .colls, .insts, .keptEnds, .attics, .dws, .errRings, .wingLogs, .errInFlight, .ceWindows, .guards] s (execCollBarrier a0 a1 s) := by
  unfold execCollBarrier
  repeat' (first
    | (with_reducible apply Effect.refl)
    | (with_reducible (apply EffectR.after; apply collDone_effect); decide +kernel)
    | (with_reducible apply EffectR.ready)
    | (with_reducible apply EffectR.next)
    | (with_reducible assumption)
    | (with_reducible apply Effect.foldl <;> intros)
    | (with_reducible apply Effect.ite <;> intros)
    | (with_reducible apply EffectR.ite <;> intros)
    | (split)
    | (dsimp only))

theorem execCollLseMerge_effect (a0 a1 s) : EffectR [.free, .mem, .poison, .regs, .harts, .rooms, .sent, .colls, .insts, .keptEnds, .attics, .dws, .errRings, .wingLogs, .errInFlight, .ceWindows, .guards] s (execCollLseMerge a0 a1 s) := by
  unfold execCollLseMerge
  repeat' (first
    | (with_reducible apply Effect.refl)
    | (with_reducible (apply EffectR.after; apply collDone_effect); decide +kernel)
    | (with_reducible apply EffectR.ready)
    | (with_reducible apply EffectR.next)
    | (with_reducible assumption)
    | (with_reducible apply Effect.foldl <;> intros)
    | (with_reducible apply Effect.ite <;> intros)
    | (with_reducible apply EffectR.ite <;> intros)
    | (split)
    | (dsimp only))

theorem execCollTopkMerge_effect (a0 a1 s) : EffectR [.free, .mem, .poison, .regs, .harts, .rooms, .sent, .colls, .insts, .keptEnds, .attics, .dws, .errRings, .wingLogs, .errInFlight, .ceWindows, .guards] s (execCollTopkMerge a0 a1 s) := by
  unfold execCollTopkMerge
  repeat' (first
    | (with_reducible apply Effect.refl)
    | (with_reducible (apply EffectR.after; apply collDone_effect); decide +kernel)
    | (with_reducible apply EffectR.ready)
    | (with_reducible apply EffectR.next)
    | (with_reducible assumption)
    | (with_reducible apply Effect.foldl <;> intros)
    | (with_reducible apply Effect.ite <;> intros)
    | (with_reducible apply EffectR.ite <;> intros)
    | (split)
    | (dsimp only))

theorem execCollectiveTimeout_effect (a0 a1 s) : EffectR [.now, .free, .mem, .poison, .regs, .harts, .rooms, .sent, .colls, .insts, .keptEnds, .attics, .dws, .errRings, .wingLogs, .errInFlight, .ceWindows, .guards] s (execCollectiveTimeout a0 a1 s) := by
  unfold execCollectiveTimeout
  repeat' (first
    | (with_reducible apply Effect.refl)
    | (with_reducible (apply Effect.next; apply State.reach_effect); decide +kernel)
    | (with_reducible (apply Effect.next; apply State.collRecord_effect); decide +kernel)
    | (with_reducible (apply Effect.next; apply State.endInst_effect); decide +kernel)
    | (with_reducible apply EffectR.ready)
    | (with_reducible apply EffectR.next)
    | (with_reducible assumption)
    | (with_reducible apply Effect.foldl <;> intros)
    | (with_reducible apply Effect.ite <;> intros)
    | (with_reducible apply EffectR.ite <;> intros)
    | (split)
    | (dsimp only))

theorem execCollKeptEndExpiry_effect (a0 a1 s) : EffectR [.now, .keptEnds] s (execCollKeptEndExpiry a0 a1 s) := by
  unfold execCollKeptEndExpiry
  repeat' (first
    | ((conv => arg 3; arg 64); refine Effect.upd ?_ (by intro p hp; cases p <;> first | exact Bool.noConfusion hp | rfl))
    | (with_reducible apply Effect.refl)
    | (with_reducible (apply Effect.next; apply State.reach_effect); decide +kernel)
    | (with_reducible apply EffectR.ready)
    | (with_reducible apply EffectR.next)
    | (with_reducible assumption)
    | (with_reducible apply Effect.foldl <;> intros)
    | (with_reducible apply Effect.ite <;> intros)
    | (with_reducible apply EffectR.ite <;> intros)
    | (split)
    | (dsimp only))

theorem State.collAbsent_effect (s a1) : Effect [.free, .mem, .poison, .regs, .harts, .rooms, .sent, .colls, .insts, .keptEnds, .attics, .dws, .errRings, .wingLogs, .errInFlight, .ceWindows, .guards] s (State.collAbsent s a1) := by
  unfold State.collAbsent
  repeat' (first
    | (with_reducible apply Effect.refl)
    | (with_reducible (apply Effect.next; apply State.endInst_effect); decide +kernel)
    | (with_reducible assumption)
    | (with_reducible apply Effect.foldl <;> intros)
    | (with_reducible apply Effect.ite <;> intros)
    | (split)
    | (dsimp only))

theorem State.collSlow_effect (s a1 a2) : Effect [.colls] s (State.collSlow s a1 a2) := by
  unfold State.collSlow
  repeat' (first
    | ((conv => arg 3; arg 64); refine Effect.upd ?_ (by intro p hp; cases p <;> first | exact Bool.noConfusion hp | rfl))
    | (with_reducible apply Effect.refl)
    | (with_reducible assumption)
    | (with_reducible apply Effect.foldl <;> intros)
    | (with_reducible apply Effect.ite <;> intros)
    | (split)
    | (dsimp only))

end Sys2Proof.Machine
end

