-- ==== Sys2Proof/Laws/EffectReport.lean ====
section
/-! SUPPORT. What the operations and the meanings of Machine/Report.lean can change: one lemma each. -/
-- The kernel decides the inclusions of each lemma before the next lemma starts.
set_option Elab.async false
set_option linter.all false
namespace Sys2Proof.Machine

theorem State.doorEvent_effect (s a1 a2) : Effect [.regs, .doors] s (State.doorEvent s a1 a2) := by
  unfold State.doorEvent
  repeat' (first
    | (with_reducible apply Effect.refl)
    | (with_reducible (apply Effect.next; apply State.orReg_effect); decide +kernel)
    | (with_reducible (apply Effect.next; apply State.modDoor_effect); decide +kernel)
    | (with_reducible assumption)
    | (with_reducible apply Effect.foldl <;> intros)
    | (with_reducible apply Effect.ite <;> intros)
    | (split)
    | (dsimp only))

theorem State.mirror_effect (s a1 a2 a3) : Effect [.sent] s (State.mirror s a1 a2 a3) := by
  unfold State.mirror
  repeat' (first
    | ((conv => arg 3; arg 64); refine Effect.upd ?_ (by intro p hp; cases p <;> first | exact Bool.noConfusion hp | rfl))
    | (with_reducible apply Effect.refl)
    | (with_reducible assumption)
    | (with_reducible apply Effect.foldl <;> intros)
    | (with_reducible apply Effect.ite <;> intros)
    | (split)
    | (dsimp only))

theorem State.event_effect (s a1 a2 a3) : Effect [.regs, .sent, .doors] s (State.event s a1 a2 a3) := by
  unfold State.event
  repeat' (first
    | (with_reducible apply Effect.refl)
    | (with_reducible (apply Effect.next; apply State.mirror_effect); decide +kernel)
    | (with_reducible (apply Effect.next; apply State.doorEvent_effect); decide +kernel)
    | (with_reducible assumption)
    | (with_reducible apply Effect.foldl <;> intros)
    | (with_reducible apply Effect.ite <;> intros)
    | (split)
    | (dsimp only))

theorem State.logRecord_effect (s a1) : Effect [.regs, .sent, .doors, .deviceLog, .flashLog, .deviceSeq] s (State.logRecord s a1) := by
  unfold State.logRecord
  repeat' (first
    | ((conv => arg 3; arg 64); refine Effect.upd ?_ (by intro p hp; cases p <;> first | exact Bool.noConfusion hp | rfl))
    | (with_reducible apply Effect.refl)
    | (with_reducible (apply Effect.next; apply State.event_effect); decide +kernel)
    | (with_reducible assumption)
    | (with_reducible apply Effect.foldl <;> intros)
    | (with_reducible apply Effect.ite <;> intros)
    | (split)
    | (dsimp only))

theorem State.deliverAll_effect (s) : Effect [.regs, .sent, .doors, .errInFlight, .deviceLog, .flashLog, .deviceSeq] s (State.deliverAll s) := by
  unfold State.deliverAll
  repeat' (first
    | ((conv => arg 3; arg 64); refine Effect.upd ?_ (by intro p hp; cases p <;> first | exact Bool.noConfusion hp | rfl))
    | (with_reducible apply Effect.refl)
    | (with_reducible (apply Effect.next; apply State.logRecord_effect); decide +kernel)
    | (with_reducible assumption)
    | (with_reducible apply Effect.foldl <;> intros)
    | (with_reducible apply Effect.ite <;> intros)
    | (split)
    | (dsimp only))

theorem State.mgmtEnd_effect (s a1 a2) : Effect [.regs, .sent, .doors, .live, .mailboxStudy] s (State.mgmtEnd s a1 a2) := by
  unfold State.mgmtEnd
  repeat' (first
    | ((conv => arg 3; arg 64); refine Effect.upd ?_ (by intro p hp; cases p <;> first | exact Bool.noConfusion hp | rfl))
    | (with_reducible apply Effect.refl)
    | (with_reducible (apply Effect.next; apply State.event_effect); decide +kernel)
    | (with_reducible assumption)
    | (with_reducible apply Effect.foldl <;> intros)
    | (with_reducible apply Effect.ite <;> intros)
    | (split)
    | (dsimp only))

theorem State.mgmtDone_effect (s a1 a2 a3) : Effect [.regs, .sent, .doors, .live, .mailboxStudy] s (State.mgmtDone s a1 a2 a3) := by
  unfold State.mgmtDone
  repeat' (first
    | (with_reducible apply Effect.refl)
    | (with_reducible (apply Effect.next; apply State.mgmtEnd_effect); decide +kernel)
    | (with_reducible assumption)
    | (with_reducible apply Effect.foldl <;> intros)
    | (with_reducible apply Effect.ite <;> intros)
    | (split)
    | (dsimp only))

end Sys2Proof.Machine
end

