-- ==== Sys2Proof/Laws/EffectNotice.lean ====
section
/-! SUPPORT. What the operations and the meanings of Machine/Notice.lean can change: one lemma each. -/
-- The kernel decides the inclusions of each lemma before the next lemma starts.
set_option Elab.async false
set_option linter.all false
namespace Sys2Proof.Machine

theorem State.setMailbox_effect (s a1 a2) : Effect [.mailboxes] s (State.setMailbox s a1 a2) := by
  unfold State.setMailbox
  repeat' (first
    | ((conv => arg 3; arg 64); refine Effect.upd ?_ (by intro p hp; cases p <;> first | exact Bool.noConfusion hp | rfl))
    | (with_reducible apply Effect.refl)
    | (with_reducible assumption)
    | (with_reducible apply Effect.foldl <;> intros)
    | (with_reducible apply Effect.ite <;> intros)
    | (split)
    | (dsimp only))

theorem State.mail_effect (s a1 a2 a3 a4) : Effect [.mailboxes] s (State.mail s a1 a2 a3 a4) := by
  unfold State.mail
  repeat' (first
    | (with_reducible apply Effect.refl)
    | (with_reducible (apply Effect.next; apply State.setMailbox_effect); decide +kernel)
    | (with_reducible assumption)
    | (with_reducible apply Effect.foldl <;> intros)
    | (with_reducible apply Effect.ite <;> intros)
    | (split)
    | (dsimp only))

theorem execWmbPending_effect (a0 a1 s) : EffectR [.mailboxes] s (execWmbPending a0 a1 s) := by
  unfold execWmbPending
  repeat' (first
    | (with_reducible apply Effect.refl)
    | (with_reducible (apply Effect.next; apply State.setMailbox_effect); decide +kernel)
    | (with_reducible apply EffectR.ready)
    | (with_reducible apply EffectR.next)
    | (with_reducible assumption)
    | (with_reducible apply Effect.foldl <;> intros)
    | (with_reducible apply Effect.ite <;> intros)
    | (with_reducible apply EffectR.ite <;> intros)
    | (split)
    | (dsimp only))

theorem State.mailConcerned_effect (s a1 a2) : Effect [.mailboxes] s (State.mailConcerned s a1 a2) := by
  unfold State.mailConcerned
  repeat' (first
    | (with_reducible apply Effect.refl)
    | (with_reducible (apply Effect.next; apply State.mail_effect); decide +kernel)
    | (with_reducible assumption)
    | (with_reducible apply Effect.foldl <;> intros)
    | (with_reducible apply Effect.ite <;> intros)
    | (split)
    | (dsimp only))

theorem State.endNow_effect (s a1 a2) : Effect [.regs, .harts, .rooms, .tags, .reqs, .attics, .errRings, .wingLogs, .errInFlight, .ceWindows] s (State.endNow s a1 a2) := by
  unfold State.endNow
  repeat' (first
    | (with_reducible apply Effect.refl)
    | (with_reducible (apply Effect.next; apply State.endRequest_effect); decide +kernel)
    | (with_reducible (apply Effect.next; apply State.retireTag_effect); decide +kernel)
    | (with_reducible assumption)
    | (with_reducible apply Effect.foldl <;> intros)
    | (with_reducible apply Effect.ite <;> intros)
    | (split)
    | (dsimp only))

theorem State.absentChildren_effect (s a1) : Effect [.harts, .rooms] s (State.absentChildren s a1) := by
  unfold State.absentChildren
  repeat' (first
    | (with_reducible apply Effect.refl)
    | (with_reducible (apply Effect.next; apply State.childEnded_effect); decide +kernel)
    | (with_reducible assumption)
    | (with_reducible apply Effect.foldl <;> intros)
    | (with_reducible apply Effect.ite <;> intros)
    | (split)
    | (dsimp only))

theorem State.endSubject_effect (s a1 a2) : Effect [.free, .mem, .poison, .regs, .harts, .rooms, .tags, .reqs, .sent, .colls, .insts, .keptEnds, .attics, .dws, .mailboxes, .errRings, .wingLogs, .errInFlight, .ceWindows, .guards] s (State.endSubject s a1 a2) := by
  unfold State.endSubject
  repeat' (first
    | (with_reducible apply Effect.refl)
    | (with_reducible (apply Effect.next; apply State.mailConcerned_effect); decide +kernel)
    | (with_reducible (apply Effect.next; apply State.endNow_effect); decide +kernel)
    | (with_reducible (apply Effect.next; apply State.absentChildren_effect); decide +kernel)
    | (with_reducible (apply Effect.next; apply State.collAbsent_effect); decide +kernel)
    | (with_reducible assumption)
    | (with_reducible apply Effect.foldl <;> intros)
    | (with_reducible apply Effect.ite <;> intros)
    | (split)
    | (dsimp only))

theorem State.endAll_effect (s) : Effect [.free, .mem, .poison, .regs, .harts, .rooms, .tags, .reqs, .sent, .colls, .insts, .keptEnds, .attics, .dws, .errRings, .wingLogs, .errInFlight, .ceWindows, .guards] s (State.endAll s) := by
  unfold State.endAll
  repeat' (first
    | (with_reducible apply Effect.refl)
    | (with_reducible (apply Effect.next; apply State.endNow_effect); decide +kernel)
    | (with_reducible (apply Effect.next; apply State.collAbsent_effect); decide +kernel)
    | (with_reducible assumption)
    | (with_reducible apply Effect.foldl <;> intros)
    | (with_reducible apply Effect.ite <;> intros)
    | (split)
    | (dsimp only))

theorem State.deviceAbsent_effect (s a1) : Effect [.free, .mem, .poison, .regs, .harts, .rooms, .tags, .reqs, .sent, .colls, .insts, .keptEnds, .attics, .dws, .absentDevs, .mailboxes, .doors, .errRings, .wingLogs, .errInFlight, .ceWindows, .guards] s (State.deviceAbsent s a1) := by
  unfold State.deviceAbsent
  repeat' (first
    | ((conv => arg 3; arg 64); refine Effect.upd ?_ (by intro p hp; cases p <;> first | exact Bool.noConfusion hp | rfl))
    | (with_reducible apply Effect.refl)
    | (with_reducible (apply Effect.next; apply State.send_effect); decide +kernel)
    | (with_reducible (apply Effect.next; apply State.event_effect); decide +kernel)
    | (with_reducible (apply Effect.next; apply State.endAll_effect); decide +kernel)
    | (with_reducible (apply Effect.next; apply State.endSubject_effect); decide +kernel)
    | (with_reducible assumption)
    | (with_reducible apply Effect.foldl <;> intros)
    | (with_reducible apply Effect.ite <;> intros)
    | (split)
    | (dsimp only))

theorem State.deviceBack_effect (s a1) : Effect [.regs, .sent, .absentDevs, .doors] s (State.deviceBack s a1) := by
  unfold State.deviceBack
  repeat' (first
    | ((conv => arg 3; arg 64); refine Effect.upd ?_ (by intro p hp; cases p <;> first | exact Bool.noConfusion hp | rfl))
    | (with_reducible apply Effect.refl)
    | (with_reducible (apply Effect.next; apply State.event_effect); decide +kernel)
    | (with_reducible (apply Effect.next; apply State.send_effect); decide +kernel)
    | (with_reducible assumption)
    | (with_reducible apply Effect.foldl <;> intros)
    | (with_reducible apply Effect.ite <;> intros)
    | (split)
    | (dsimp only))

theorem State.sendNotice_effect (s a1 a2 a3) : Effect [.sent] s (State.sendNotice s a1 a2 a3) := by
  unfold State.sendNotice
  repeat' (first
    | (with_reducible apply Effect.refl)
    | (with_reducible (apply Effect.next; apply State.send_effect); decide +kernel)
    | (with_reducible assumption)
    | (with_reducible apply Effect.foldl <;> intros)
    | (with_reducible apply Effect.ite <;> intros)
    | (split)
    | (dsimp only))

theorem State.slowed_effect (s a1 a2) : Effect [.reqs, .colls, .mailboxes] s (State.slowed s a1 a2) := by
  unfold State.slowed
  repeat' (first
    | ((conv => arg 3; arg 64); refine Effect.upd ?_ (by intro p hp; cases p <;> first | exact Bool.noConfusion hp | rfl))
    | (with_reducible apply Effect.refl)
    | (with_reducible (apply Effect.next; apply State.mailConcerned_effect); decide +kernel)
    | (with_reducible (apply Effect.next; apply State.collSlow_effect); decide +kernel)
    | (with_reducible assumption)
    | (with_reducible apply Effect.foldl <;> intros)
    | (with_reducible apply Effect.ite <;> intros)
    | (split)
    | (dsimp only))

theorem execNoticeSlow_effect (a0 a1 a2 s) : EffectR [.reqs, .sent, .colls, .mailboxes] s (execNoticeSlow a0 a1 a2 s) := by
  unfold execNoticeSlow noticeRun servedRun
  repeat' (first
    | (with_reducible apply Effect.refl)
    | (with_reducible (apply Effect.next; apply State.respond_effect); decide +kernel)
    | (with_reducible (apply Effect.next; apply State.slowed_effect); decide +kernel)
    | (with_reducible apply EffectR.ready)
    | (with_reducible apply EffectR.next)
    | (with_reducible assumption)
    | (with_reducible apply Effect.foldl <;> intros)
    | (with_reducible apply Effect.ite <;> intros)
    | (with_reducible apply EffectR.ite <;> intros)
    | (split)
    | (dsimp only [id]))

theorem execNoticeAbsent_effect (a0 a1 s) : EffectR [.free, .mem, .poison, .regs, .harts, .rooms, .tags, .reqs, .sent, .colls, .insts, .keptEnds, .attics, .dws, .absentDevs, .mailboxes, .doors, .errRings, .wingLogs, .errInFlight, .ceWindows, .guards] s (execNoticeAbsent a0 a1 s) := by
  unfold execNoticeAbsent noticeRun servedRun
  repeat' (first
    | (with_reducible apply Effect.refl)
    | (with_reducible (apply Effect.next; apply State.respond_effect); decide +kernel)
    | (with_reducible (apply Effect.next; apply State.endSubject_effect); decide +kernel)
    | (with_reducible (apply Effect.next; apply State.deviceAbsent_effect); decide +kernel)
    | (with_reducible apply EffectR.ready)
    | (with_reducible apply EffectR.next)
    | (with_reducible assumption)
    | (with_reducible apply Effect.foldl <;> intros)
    | (with_reducible apply Effect.ite <;> intros)
    | (with_reducible apply EffectR.ite <;> intros)
    | (split)
    | (dsimp only [id]))

theorem execNoticeReset_effect (a0 a1 s) : EffectR [.free, .mem, .poison, .regs, .harts, .rooms, .tags, .reqs, .sent, .colls, .insts, .keptEnds, .attics, .dws, .absentDevs, .mailboxes, .doors, .errRings, .wingLogs, .errInFlight, .ceWindows, .guards] s (execNoticeReset a0 a1 s) := by
  unfold execNoticeReset noticeRun servedRun
  repeat' (first
    | (with_reducible apply Effect.refl)
    | (with_reducible (apply Effect.next; apply State.respond_effect); decide +kernel)
    | (with_reducible (apply Effect.next; apply State.endSubject_effect); decide +kernel)
    | (with_reducible (apply Effect.next; apply State.deviceBack_effect); decide +kernel)
    | (with_reducible apply EffectR.ready)
    | (with_reducible apply EffectR.next)
    | (with_reducible assumption)
    | (with_reducible apply Effect.foldl <;> intros)
    | (with_reducible apply Effect.ite <;> intros)
    | (with_reducible apply EffectR.ite <;> intros)
    | (split)
    | (dsimp only [id]))

end Sys2Proof.Machine
end

