-- ==== Sys2Proof/Laws/EffectLinks.lean ====
section
/-! SUPPORT. What the operations and the meanings of Machine/Links.lean can change: one lemma each. -/
-- The kernel decides the inclusions of each lemma before the next lemma starts.
set_option Elab.async false
set_option linter.all false
namespace Sys2Proof.Machine

theorem State.modLink_effect (s a1 a2) : Effect [.links] s (State.modLink s a1 a2) := by
  unfold State.modLink
  repeat' (first
    | ((conv => arg 3; arg 64); refine Effect.upd ?_ (by intro p hp; cases p <;> first | exact Bool.noConfusion hp | rfl))
    | (with_reducible apply Effect.refl)
    | (with_reducible assumption)
    | (with_reducible apply Effect.foldl <;> intros)
    | (with_reducible apply Effect.ite <;> intros)
    | (split)
    | (dsimp only))

theorem State.modFabric_effect (s a1) : Effect [.fabric] s (State.modFabric s a1) := by
  unfold State.modFabric
  repeat' (first
    | ((conv => arg 3; arg 64); refine Effect.upd ?_ (by intro p hp; cases p <;> first | exact Bool.noConfusion hp | rfl))
    | (with_reducible apply Effect.refl)
    | (with_reducible assumption)
    | (with_reducible apply Effect.foldl <;> intros)
    | (with_reducible apply Effect.ite <;> intros)
    | (split)
    | (dsimp only))

theorem State.fabDrop_effect (s) : Effect [.regs] s (State.fabDrop s) := by
  unfold State.fabDrop
  repeat' (first
    | (with_reducible apply Effect.refl)
    | (with_reducible (apply Effect.next; apply State.bumpReg_effect); decide +kernel)
    | (with_reducible assumption)
    | (with_reducible apply Effect.foldl <;> intros)
    | (with_reducible apply Effect.ite <;> intros)
    | (split)
    | (dsimp only))

theorem State.egressPut_effect (s a1 a2) : Effect [.links] s (State.egressPut s a1 a2) := by
  unfold State.egressPut
  repeat' (first
    | (with_reducible apply Effect.refl)
    | (with_reducible (apply Effect.next; apply State.modLink_effect); decide +kernel)
    | (with_reducible assumption)
    | (with_reducible apply Effect.foldl <;> intros)
    | (with_reducible apply Effect.ite <;> intros)
    | (split)
    | (dsimp only))

theorem State.fabForward_effect (s a1 a2 a3) : EffectO [.regs, .links] s (State.fabForward s a1 a2 a3) := by
  unfold State.fabForward
  repeat' (first
    | (with_reducible apply Effect.refl)
    | (with_reducible (apply Effect.next; apply State.fabDrop_effect); decide +kernel)
    | (with_reducible (apply Effect.next; apply State.egressPut_effect); decide +kernel)
    | (with_reducible apply EffectO.none)
    | (with_reducible apply EffectO.some)
    | (with_reducible assumption)
    | (with_reducible apply Effect.foldl <;> intros)
    | (with_reducible (apply EffectO.get; case e => assumption))
    | (with_reducible apply Effect.getD)
    | (with_reducible apply Effect.ite <;> intros)
    | (with_reducible apply EffectO.ite <;> intros)
    | (split)
    | (dsimp only))

theorem State.linkReport_effect (s a1 a2) : Effect [.regs, .sent, .doors] s (State.linkReport s a1 a2) := by
  unfold State.linkReport
  repeat' (first
    | (with_reducible apply Effect.refl)
    | (with_reducible (apply Effect.next; apply State.orReg_effect); decide +kernel)
    | (with_reducible (apply Effect.next; apply State.event_effect); decide +kernel)
    | (with_reducible assumption)
    | (with_reducible apply Effect.foldl <;> intros)
    | (with_reducible apply Effect.ite <;> intros)
    | (split)
    | (dsimp only))

theorem State.linkDown_effect (s a1 a2) : Effect [.regs, .sent, .attics, .links, .doors, .errRings, .wingLogs, .errInFlight, .ceWindows, .live, .mailboxStudy] s (State.linkDown s a1 a2) := by
  unfold State.linkDown
  repeat' (first
    | (with_reducible apply Effect.refl)
    | (with_reducible (apply Effect.next; apply State.modLink_effect); decide +kernel)
    | (with_reducible (apply Effect.next; apply EffectO.get; case e => assumption; apply State.fabForward_effect); decide +kernel)
    | (with_reducible (apply EffectO.next; apply State.fabForward_effect); decide +kernel)
    | (with_reducible (apply Effect.next; apply State.mgmtDone_effect); decide +kernel)
    | (with_reducible (apply Effect.next; apply State.postDie_effect); decide +kernel)
    | (with_reducible (apply Effect.next; apply State.linkReport_effect); decide +kernel)
    | (with_reducible assumption)
    | (with_reducible apply Effect.foldl <;> intros)
    | (with_reducible (apply EffectO.get; case e => assumption))
    | (with_reducible apply Effect.getD)
    | (with_reducible apply Effect.ite <;> intros)
    | (split)
    | (dsimp only))

theorem State.sendFlit_effect (s a1 a2 a3 a4 a5) : Effect [.sent, .links] s (State.sendFlit s a1 a2 a3 a4 a5) := by
  unfold State.sendFlit
  repeat' (first
    | (with_reducible apply Effect.refl)
    | (with_reducible (apply Effect.next; apply State.send_effect); decide +kernel)
    | (with_reducible (apply Effect.next; apply State.modLink_effect); decide +kernel)
    | (with_reducible assumption)
    | (with_reducible apply Effect.foldl <;> intros)
    | (with_reducible apply Effect.ite <;> intros)
    | (split)
    | (dsimp only))

theorem State.sendCtl_effect (s a1 a2 a3) : Effect [.sent, .links] s (State.sendCtl s a1 a2 a3) := by
  unfold State.sendCtl
  repeat' (first
    | (with_reducible apply Effect.refl)
    | (with_reducible (apply Effect.next; apply State.sendFlit_effect); decide +kernel)
    | (with_reducible assumption)
    | (with_reducible apply Effect.foldl <;> intros)
    | (with_reducible apply Effect.ite <;> intros)
    | (split)
    | (dsimp only))

theorem State.sendLctl_effect (s a1 a2 a3) : Effect [.sent, .links] s (State.sendLctl s a1 a2 a3) := by
  unfold State.sendLctl
  repeat' (first
    | (with_reducible apply Effect.refl)
    | (with_reducible (apply Effect.next; apply State.sendCtl_effect); decide +kernel)
    | (with_reducible assumption)
    | (with_reducible apply Effect.foldl <;> intros)
    | (with_reducible apply Effect.ite <;> intros)
    | (split)
    | (dsimp only))

theorem State.drainStep_effect (s a1) : Effect [.sent, .links] s (State.drainStep s a1) := by
  unfold State.drainStep
  repeat' (first
    | (with_reducible apply Effect.refl)
    | (with_reducible (apply Effect.next; apply State.modLink_effect); decide +kernel)
    | (with_reducible (apply Effect.next; apply State.sendLctl_effect); decide +kernel)
    | (with_reducible assumption)
    | (with_reducible apply Effect.foldl <;> intros)
    | (with_reducible apply Effect.ite <;> intros)
    | (split)
    | (dsimp only))

theorem execFlitIdle_effect (a0 a1 s) : EffectR [.regs, .sent, .links] s (execFlitIdle a0 a1 s) := by
  unfold execFlitIdle flitRun
  repeat' (first
    | (with_reducible apply Effect.refl)
    | (with_reducible (apply Effect.next; apply State.bumpReg_effect); decide +kernel)
    | (with_reducible (apply Effect.next; apply State.orReg_effect); decide +kernel)
    | (with_reducible (apply Effect.next; apply State.drainStep_effect); decide +kernel)
    | (with_reducible (apply Effect.next; apply State.modLink_effect); decide +kernel)
    | (with_reducible apply EffectR.ready)
    | (with_reducible apply EffectR.next)
    | (with_reducible assumption)
    | (with_reducible apply Effect.foldl <;> intros)
    | (with_reducible apply Effect.ite <;> intros)
    | (with_reducible apply EffectR.ite <;> intros)
    | (split)
    | (dsimp only [id]))

theorem State.sendNak_effect (s a1) : Effect [.sent, .links] s (State.sendNak s a1) := by
  unfold State.sendNak
  repeat' (first
    | (with_reducible apply Effect.refl)
    | (with_reducible (apply Effect.next; apply State.sendCtl_effect); decide +kernel)
    | (with_reducible (apply Effect.next; apply State.modLink_effect); decide +kernel)
    | (with_reducible assumption)
    | (with_reducible apply Effect.foldl <;> intros)
    | (with_reducible apply Effect.ite <;> intros)
    | (split)
    | (dsimp only))

theorem State.sendData_effect (s a1 a2) : Effect [.sent, .links] s (State.sendData s a1 a2) := by
  unfold State.sendData
  repeat' (first
    | (with_reducible apply Effect.refl)
    | (with_reducible (apply Effect.next; apply State.sendFlit_effect); decide +kernel)
    | (with_reducible assumption)
    | (with_reducible apply Effect.foldl <;> intros)
    | (with_reducible apply Effect.ite <;> intros)
    | (split)
    | (dsimp only))

theorem State.dataFlit_effect (s a1 a2 a3 a4) : Effect [.regs, .sent, .attics, .links, .doors, .errRings, .wingLogs, .errInFlight, .ceWindows, .live, .mailboxStudy] s (State.dataFlit s a1 a2 a3 a4) := by
  unfold State.dataFlit
  repeat' (first
    | (with_reducible apply Effect.refl)
    | (with_reducible (apply Effect.next; apply State.modLink_effect); decide +kernel)
    | (with_reducible (apply Effect.next; apply State.sendNak_effect); decide +kernel)
    | (with_reducible (apply Effect.next; apply State.linkDown_effect); decide +kernel)
    | (with_reducible assumption)
    | (with_reducible apply Effect.foldl <;> intros)
    | (with_reducible apply Effect.ite <;> intros)
    | (split)
    | (dsimp only))

theorem execFlitData_effect (a0 a1 a2 a3 s) : EffectR [.regs, .sent, .attics, .links, .doors, .errRings, .wingLogs, .errInFlight, .ceWindows, .live, .mailboxStudy] s (execFlitData a0 a1 a2 a3 s) := by
  unfold execFlitData flitRun
  repeat' (first
    | (with_reducible apply Effect.refl)
    | (with_reducible (apply Effect.next; apply State.bumpReg_effect); decide +kernel)
    | (with_reducible (apply Effect.next; apply State.orReg_effect); decide +kernel)
    | (with_reducible (apply Effect.next; apply State.drainStep_effect); decide +kernel)
    | (with_reducible (apply Effect.next; apply State.modLink_effect); decide +kernel)
    | (with_reducible (apply Effect.next; apply State.dataFlit_effect); decide +kernel)
    | (with_reducible apply EffectR.ready)
    | (with_reducible apply EffectR.next)
    | (with_reducible assumption)
    | (with_reducible apply Effect.foldl <;> intros)
    | (with_reducible apply Effect.ite <;> intros)
    | (with_reducible apply EffectR.ite <;> intros)
    | (split)
    | (dsimp only [id]))

theorem State.replay_effect (s a1) : Effect [.regs, .sent, .attics, .links, .doors, .errRings, .wingLogs, .errInFlight, .ceWindows, .live, .mailboxStudy] s (State.replay s a1) := by
  unfold State.replay
  repeat' (first
    | (with_reducible apply Effect.refl)
    | (with_reducible (apply Effect.next; apply State.modLink_effect); decide +kernel)
    | (with_reducible (apply Effect.next; apply State.setRegN_effect); decide +kernel)
    | (with_reducible (apply Effect.next; apply State.orReg_effect); decide +kernel)
    | (with_reducible (apply Effect.next; apply State.sendData_effect); decide +kernel)
    | (with_reducible (apply Effect.next; apply State.linkDown_effect); decide +kernel)
    | (with_reducible assumption)
    | (with_reducible apply Effect.foldl <;> intros)
    | (with_reducible apply Effect.ite <;> intros)
    | (split)
    | (dsimp only))

theorem execFlitNak_effect (a0 a1 s) : EffectR [.regs, .sent, .attics, .links, .doors, .errRings, .wingLogs, .errInFlight, .ceWindows, .live, .mailboxStudy] s (execFlitNak a0 a1 s) := by
  unfold execFlitNak flitRun
  repeat' (first
    | (with_reducible apply Effect.refl)
    | (with_reducible (apply Effect.next; apply State.bumpReg_effect); decide +kernel)
    | (with_reducible (apply Effect.next; apply State.orReg_effect); decide +kernel)
    | (with_reducible (apply Effect.next; apply State.drainStep_effect); decide +kernel)
    | (with_reducible (apply Effect.next; apply State.modLink_effect); decide +kernel)
    | (with_reducible (apply Effect.next; apply State.replay_effect); decide +kernel)
    | (with_reducible apply EffectR.ready)
    | (with_reducible apply EffectR.next)
    | (with_reducible assumption)
    | (with_reducible apply Effect.foldl <;> intros)
    | (with_reducible apply Effect.ite <;> intros)
    | (with_reducible apply EffectR.ite <;> intros)
    | (split)
    | (dsimp only [id]))

theorem execNakRepeatTimer_effect (a0 s) : EffectR [.now, .sent, .links] s (execNakRepeatTimer a0 s) := by
  unfold execNakRepeatTimer
  repeat' (first
    | (with_reducible apply Effect.refl)
    | (with_reducible (apply Effect.next; apply State.sendNak_effect); decide +kernel)
    | (with_reducible (apply Effect.next; apply State.reach_effect); decide +kernel)
    | (with_reducible apply EffectR.ready)
    | (with_reducible apply EffectR.next)
    | (with_reducible assumption)
    | (with_reducible apply Effect.foldl <;> intros)
    | (with_reducible apply Effect.ite <;> intros)
    | (with_reducible apply EffectR.ite <;> intros)
    | (split)
    | (dsimp only))

theorem execReplayTimeout_effect (a0 s) : EffectR [.now, .regs, .sent, .attics, .links, .doors, .errRings, .wingLogs, .errInFlight, .ceWindows, .live, .mailboxStudy] s (execReplayTimeout a0 s) := by
  unfold execReplayTimeout
  repeat' (first
    | (with_reducible apply Effect.refl)
    | (with_reducible (apply Effect.next; apply State.replay_effect); decide +kernel)
    | (with_reducible (apply Effect.next; apply State.reach_effect); decide +kernel)
    | (with_reducible apply EffectR.ready)
    | (with_reducible apply EffectR.next)
    | (with_reducible assumption)
    | (with_reducible apply Effect.foldl <;> intros)
    | (with_reducible apply Effect.ite <;> intros)
    | (with_reducible apply EffectR.ite <;> intros)
    | (split)
    | (dsimp only))

theorem State.fabDeliver_effect (s a1 a2) : EffectO [.regs, .halls, .modules] s (State.fabDeliver s a1 a2) := by
  unfold State.fabDeliver
  repeat' (first
    | (with_reducible apply Effect.refl)
    | (with_reducible (apply Effect.next; apply EffectO.get; case e => assumption; apply State.dieInject_effect); decide +kernel)
    | (with_reducible (apply EffectO.next; apply State.dieInject_effect); decide +kernel)
    | (with_reducible apply EffectO.none)
    | (with_reducible apply EffectO.some)
    | (with_reducible assumption)
    | (with_reducible apply Effect.foldl <;> intros)
    | (with_reducible (apply EffectO.get; case e => assumption))
    | (with_reducible apply Effect.getD)
    | (with_reducible apply Effect.ite <;> intros)
    | (with_reducible apply EffectO.ite <;> intros)
    | (split)
    | (dsimp only))

theorem State.hallEnter_effect (s a1 a2 a3 a4) : Effect [.regs, .halls, .modules] s (State.hallEnter s a1 a2 a3 a4) := by
  unfold State.hallEnter
  repeat' (first
    | (with_reducible apply Effect.refl)
    | (with_reducible (apply Effect.next; apply EffectO.get; case e => assumption; apply State.hallInject_effect); decide +kernel)
    | (with_reducible (apply EffectO.next; apply State.hallInject_effect); decide +kernel)
    | (with_reducible (apply Effect.next; apply State.fabDrop_effect); decide +kernel)
    | (with_reducible assumption)
    | (with_reducible apply Effect.foldl <;> intros)
    | (with_reducible (apply EffectO.get; case e => assumption))
    | (with_reducible apply Effect.getD)
    | (with_reducible apply Effect.ite <;> intros)
    | (split)
    | (dsimp only))

theorem execHallPacketRoute_effect (a0 a1 s) : EffectR [.regs, .regqs, .halls, .modules] s (execHallPacketRoute a0 a1 s) := by
  unfold execHallPacketRoute
  repeat' (first
    | (with_reducible apply Effect.refl)
    | (with_reducible (apply Effect.next; apply State.hallEnter_effect); decide +kernel)
    | (with_reducible (apply Effect.next; apply State.hallAdvance_effect); decide +kernel)
    | (with_reducible apply EffectR.ready)
    | (with_reducible apply EffectR.next)
    | (with_reducible assumption)
    | (with_reducible apply Effect.foldl <;> intros)
    | (with_reducible apply Effect.ite <;> intros)
    | (with_reducible apply EffectR.ite <;> intros)
    | (split)
    | (dsimp only))

theorem State.routeReceived_effect (s a1 a2) : Effect [.regs, .halls, .modules, .links] s (State.routeReceived s a1 a2) := by
  unfold State.routeReceived
  repeat' (first
    | (with_reducible apply Effect.refl)
    | (with_reducible (apply Effect.next; apply State.modLink_effect); decide +kernel)
    | (with_reducible (apply Effect.next; apply State.bumpReg_effect); decide +kernel)
    | (with_reducible (apply Effect.next; apply EffectO.get; case e => assumption; apply State.fabDeliver_effect); decide +kernel)
    | (with_reducible (apply EffectO.next; apply State.fabDeliver_effect); decide +kernel)
    | (with_reducible (apply Effect.next; apply EffectO.get; case e => assumption; apply State.fabForward_effect); decide +kernel)
    | (with_reducible (apply EffectO.next; apply State.fabForward_effect); decide +kernel)
    | (with_reducible assumption)
    | (with_reducible apply Effect.foldl <;> intros)
    | (with_reducible (apply EffectO.get; case e => assumption))
    | (with_reducible apply Effect.getD)
    | (with_reducible apply Effect.ite <;> intros)
    | (split)
    | (dsimp only))

theorem State.sendEgress_effect (s a1) : Effect [.regs, .sent, .regqs, .links] s (State.sendEgress s a1) := by
  unfold State.sendEgress
  repeat' (first
    | (with_reducible apply Effect.refl)
    | (with_reducible (apply Effect.next; apply State.bumpReg_effect); decide +kernel)
    | (with_reducible (apply Effect.next; apply State.modLink_effect); decide +kernel)
    | (with_reducible (apply Effect.next; apply State.sendCtl_effect); decide +kernel)
    | (with_reducible (apply Effect.next; apply State.modRegq_effect); decide +kernel)
    | (with_reducible (apply Effect.next; apply State.sendData_effect); decide +kernel)
    | (with_reducible assumption)
    | (with_reducible apply Effect.foldl <;> intros)
    | (with_reducible apply Effect.ite <;> intros)
    | (split)
    | (dsimp only))

theorem execPorchPacketRoute_effect (a0 s) : EffectR [.regs, .sent, .regqs, .halls, .modules, .links] s (execPorchPacketRoute a0 s) := by
  unfold execPorchPacketRoute
  repeat' (first
    | (with_reducible apply Effect.refl)
    | (with_reducible (apply Effect.next; apply EffectO.get; case e => assumption; apply State.fabForward_effect); decide +kernel)
    | (with_reducible (apply EffectO.next; apply State.fabForward_effect); decide +kernel)
    | (with_reducible (apply Effect.next; apply State.routeReceived_effect); decide +kernel)
    | (with_reducible (apply Effect.next; apply State.sendEgress_effect); decide +kernel)
    | (with_reducible (apply Effect.next; apply State.sendCtl_effect); decide +kernel)
    | (with_reducible apply EffectR.ready)
    | (with_reducible apply EffectR.next)
    | (with_reducible assumption)
    | (with_reducible apply Effect.foldl <;> intros)
    | (with_reducible (apply EffectO.get; case e => assumption))
    | (with_reducible apply Effect.getD)
    | (with_reducible apply Effect.ite <;> intros)
    | (with_reducible apply EffectR.ite <;> intros)
    | (split)
    | (dsimp only))

theorem execHeartbeatSend_effect (a0 s) : EffectR [.sent, .links] s (execHeartbeatSend a0 s) := by
  unfold execHeartbeatSend
  repeat' (first
    | (with_reducible apply Effect.refl)
    | (with_reducible (apply Effect.next; apply State.sendCtl_effect); decide +kernel)
    | (with_reducible apply EffectR.ready)
    | (with_reducible apply EffectR.next)
    | (with_reducible assumption)
    | (with_reducible apply Effect.foldl <;> intros)
    | (with_reducible apply Effect.ite <;> intros)
    | (with_reducible apply EffectR.ite <;> intros)
    | (split)
    | (dsimp only))

theorem execFlitHeartbeat_effect (a0 a1 a2 a3 s) : EffectR [.regs, .sent, .attics, .links, .doors, .errRings, .wingLogs, .errInFlight, .ceWindows, .live, .mailboxStudy] s (execFlitHeartbeat a0 a1 a2 a3 s) := by
  unfold execFlitHeartbeat flitRun
  repeat' (first
    | (with_reducible apply Effect.refl)
    | (with_reducible (apply Effect.next; apply State.bumpReg_effect); decide +kernel)
    | (with_reducible (apply Effect.next; apply State.orReg_effect); decide +kernel)
    | (with_reducible (apply Effect.next; apply State.drainStep_effect); decide +kernel)
    | (with_reducible (apply Effect.next; apply State.modLink_effect); decide +kernel)
    | (with_reducible (apply Effect.next; apply State.linkDown_effect); decide +kernel)
    | (with_reducible apply EffectR.ready)
    | (with_reducible apply EffectR.next)
    | (with_reducible assumption)
    | (with_reducible apply Effect.foldl <;> intros)
    | (with_reducible apply Effect.ite <;> intros)
    | (with_reducible apply EffectR.ite <;> intros)
    | (split)
    | (dsimp only [id]))

theorem execHeartbeatSilent_effect (a0 s) : EffectR [.now, .regs, .sent, .attics, .links, .doors, .errRings, .wingLogs, .errInFlight, .ceWindows, .live, .mailboxStudy] s (execHeartbeatSilent a0 s) := by
  unfold execHeartbeatSilent
  repeat' (first
    | (with_reducible apply Effect.refl)
    | (with_reducible (apply Effect.next; apply State.linkDown_effect); decide +kernel)
    | (with_reducible (apply Effect.next; apply State.reach_effect); decide +kernel)
    | (with_reducible apply EffectR.ready)
    | (with_reducible apply EffectR.next)
    | (with_reducible assumption)
    | (with_reducible apply Effect.foldl <;> intros)
    | (with_reducible apply Effect.ite <;> intros)
    | (with_reducible apply EffectR.ite <;> intros)
    | (split)
    | (dsimp only))

theorem execLinkSignalLoss_effect (a0 s) : EffectR [.regs, .sent, .attics, .links, .doors, .errRings, .wingLogs, .errInFlight, .ceWindows, .live, .mailboxStudy] s (execLinkSignalLoss a0 s) := by
  unfold execLinkSignalLoss
  repeat' (first
    | (with_reducible apply Effect.refl)
    | (with_reducible (apply Effect.next; apply State.linkDown_effect); decide +kernel)
    | (with_reducible apply EffectR.ready)
    | (with_reducible apply EffectR.next)
    | (with_reducible assumption)
    | (with_reducible apply Effect.foldl <;> intros)
    | (with_reducible apply Effect.ite <;> intros)
    | (with_reducible apply EffectR.ite <;> intros)
    | (split)
    | (dsimp only))

theorem execLctlGoodbye_effect (a0 a1 a2 s) : EffectR [.free, .mem, .poison, .regs, .harts, .rooms, .tags, .reqs, .sent, .colls, .insts, .keptEnds, .attics, .dws, .links, .absentDevs, .mailboxes, .doors, .errRings, .wingLogs, .errInFlight, .ceWindows, .live, .mailboxStudy, .guards] s (execLctlGoodbye a0 a1 a2 s) := by
  unfold execLctlGoodbye flitRun
  repeat' (first
    | (with_reducible apply Effect.refl)
    | (with_reducible (apply Effect.next; apply State.bumpReg_effect); decide +kernel)
    | (with_reducible (apply Effect.next; apply State.orReg_effect); decide +kernel)
    | (with_reducible (apply Effect.next; apply State.drainStep_effect); decide +kernel)
    | (with_reducible (apply Effect.next; apply State.modLink_effect); decide +kernel)
    | (with_reducible (apply Effect.next; apply State.linkDown_effect); decide +kernel)
    | (with_reducible (apply Effect.next; apply State.postDie_effect); decide +kernel)
    | (with_reducible (apply Effect.next; apply State.deviceAbsent_effect); decide +kernel)
    | (with_reducible apply EffectR.ready)
    | (with_reducible apply EffectR.next)
    | (with_reducible assumption)
    | (with_reducible apply Effect.foldl <;> intros)
    | (with_reducible apply Effect.ite <;> intros)
    | (with_reducible apply EffectR.ite <;> intros)
    | (split)
    | (dsimp only [id]))

theorem State.trainFails_effect (s a1) : Effect [.regs, .sent, .attics, .links, .doors, .errRings, .wingLogs, .errInFlight, .ceWindows, .live, .mailboxStudy] s (State.trainFails s a1) := by
  unfold State.trainFails
  repeat' (first
    | (with_reducible apply Effect.refl)
    | (with_reducible (apply Effect.next; apply State.modLink_effect); decide +kernel)
    | (with_reducible (apply Effect.next; apply State.linkDown_effect); decide +kernel)
    | (with_reducible assumption)
    | (with_reducible apply Effect.foldl <;> intros)
    | (with_reducible apply Effect.ite <;> intros)
    | (split)
    | (dsimp only))

theorem State.trainStart_effect (s a1) : Effect [.links] s (State.trainStart s a1) := by
  unfold State.trainStart
  repeat' (first
    | (with_reducible apply Effect.refl)
    | (with_reducible (apply Effect.next; apply State.modLink_effect); decide +kernel)
    | (with_reducible assumption)
    | (with_reducible apply Effect.foldl <;> intros)
    | (with_reducible apply Effect.ite <;> intros)
    | (split)
    | (dsimp only))

theorem execLinkTraining_effect (a0 a1 s) : EffectR [.regs, .sent, .attics, .links, .doors, .errRings, .wingLogs, .errInFlight, .ceWindows, .live, .mailboxStudy] s (execLinkTraining a0 a1 s) := by
  unfold execLinkTraining
  repeat' (first
    | (with_reducible apply Effect.refl)
    | (with_reducible (apply Effect.next; apply State.trainStart_effect); decide +kernel)
    | (with_reducible (apply Effect.next; apply State.trainFails_effect); decide +kernel)
    | (with_reducible (apply Effect.next; apply State.modLink_effect); decide +kernel)
    | (with_reducible (apply Effect.next; apply State.sendLctl_effect); decide +kernel)
    | (with_reducible apply EffectR.ready)
    | (with_reducible apply EffectR.next)
    | (with_reducible assumption)
    | (with_reducible apply Effect.foldl <;> intros)
    | (with_reducible apply Effect.ite <;> intros)
    | (with_reducible apply EffectR.ite <;> intros)
    | (split)
    | (dsimp only))

theorem execLinkRetrainTimer_effect (a0 s) : EffectR [.now, .links] s (execLinkRetrainTimer a0 s) := by
  unfold execLinkRetrainTimer
  repeat' (first
    | (with_reducible apply Effect.refl)
    | (with_reducible (apply Effect.next; apply State.trainStart_effect); decide +kernel)
    | (with_reducible (apply Effect.next; apply State.reach_effect); decide +kernel)
    | (with_reducible apply EffectR.ready)
    | (with_reducible apply EffectR.next)
    | (with_reducible assumption)
    | (with_reducible apply Effect.foldl <;> intros)
    | (with_reducible apply Effect.ite <;> intros)
    | (with_reducible apply EffectR.ite <;> intros)
    | (split)
    | (dsimp only))

theorem State.meetPeer_effect (s a1 a2) : Effect [.links] s (State.meetPeer s a1 a2) := by
  unfold State.meetPeer
  repeat' (first
    | (with_reducible apply Effect.refl)
    | (with_reducible (apply Effect.next; apply State.modLink_effect); decide +kernel)
    | (with_reducible assumption)
    | (with_reducible apply Effect.foldl <;> intros)
    | (with_reducible apply Effect.ite <;> intros)
    | (split)
    | (dsimp only))

theorem State.initDone_effect (s a1) : Effect [.regs, .sent, .links, .doors] s (State.initDone s a1) := by
  unfold State.initDone
  repeat' (first
    | (with_reducible apply Effect.refl)
    | (with_reducible (apply Effect.next; apply State.modLink_effect); decide +kernel)
    | (with_reducible (apply Effect.next; apply State.linkReport_effect); decide +kernel)
    | (with_reducible assumption)
    | (with_reducible apply Effect.foldl <;> intros)
    | (with_reducible apply Effect.ite <;> intros)
    | (split)
    | (dsimp only))

theorem execLctlInit_effect (a0 a1 a2 s) : EffectR [.regs, .sent, .attics, .links, .doors, .errRings, .wingLogs, .errInFlight, .ceWindows, .live, .mailboxStudy] s (execLctlInit a0 a1 a2 s) := by
  unfold execLctlInit flitRun
  repeat' (first
    | (with_reducible apply Effect.refl)
    | (with_reducible (apply Effect.next; apply State.bumpReg_effect); decide +kernel)
    | (with_reducible (apply Effect.next; apply State.orReg_effect); decide +kernel)
    | (with_reducible (apply Effect.next; apply State.drainStep_effect); decide +kernel)
    | (with_reducible (apply Effect.next; apply State.modLink_effect); decide +kernel)
    | (with_reducible (apply Effect.next; apply State.linkDown_effect); decide +kernel)
    | (with_reducible (apply Effect.next; apply State.sendLctl_effect); decide +kernel)
    | (with_reducible (apply Effect.next; apply State.initDone_effect); decide +kernel)
    | (with_reducible (apply Effect.next; apply State.meetPeer_effect); decide +kernel)
    | (with_reducible apply EffectR.ready)
    | (with_reducible apply EffectR.next)
    | (with_reducible assumption)
    | (with_reducible apply Effect.foldl <;> intros)
    | (with_reducible apply Effect.ite <;> intros)
    | (with_reducible apply EffectR.ite <;> intros)
    | (split)
    | (dsimp only [id]))

theorem execLctlInitAck_effect (a0 a1 a2 s) : EffectR [.regs, .sent, .attics, .links, .doors, .errRings, .wingLogs, .errInFlight, .ceWindows, .live, .mailboxStudy] s (execLctlInitAck a0 a1 a2 s) := by
  unfold execLctlInitAck flitRun
  repeat' (first
    | (with_reducible apply Effect.refl)
    | (with_reducible (apply Effect.next; apply State.bumpReg_effect); decide +kernel)
    | (with_reducible (apply Effect.next; apply State.orReg_effect); decide +kernel)
    | (with_reducible (apply Effect.next; apply State.drainStep_effect); decide +kernel)
    | (with_reducible (apply Effect.next; apply State.modLink_effect); decide +kernel)
    | (with_reducible (apply Effect.next; apply State.linkDown_effect); decide +kernel)
    | (with_reducible (apply Effect.next; apply State.initDone_effect); decide +kernel)
    | (with_reducible (apply Effect.next; apply State.meetPeer_effect); decide +kernel)
    | (with_reducible apply EffectR.ready)
    | (with_reducible apply EffectR.next)
    | (with_reducible assumption)
    | (with_reducible apply Effect.foldl <;> intros)
    | (with_reducible apply Effect.ite <;> intros)
    | (with_reducible apply EffectR.ite <;> intros)
    | (split)
    | (dsimp only [id]))

theorem State.linkAdmit_effect (s a1) : Effect [.links] s (State.linkAdmit s a1) := by
  unfold State.linkAdmit
  repeat' (first
    | (with_reducible apply Effect.refl)
    | (with_reducible (apply Effect.next; apply State.modLink_effect); decide +kernel)
    | (with_reducible assumption)
    | (with_reducible apply Effect.foldl <;> intros)
    | (with_reducible apply Effect.ite <;> intros)
    | (split)
    | (dsimp only))

theorem execLinkAdmit_effect (a0 a1 s) : EffectR [.links, .fabric] s (execLinkAdmit a0 a1 s) := by
  unfold execLinkAdmit
  repeat' (first
    | (with_reducible apply Effect.refl)
    | (with_reducible (apply Effect.next; apply State.modFabric_effect); decide +kernel)
    | (with_reducible (apply Effect.next; apply State.linkAdmit_effect); decide +kernel)
    | (with_reducible apply EffectR.ready)
    | (with_reducible apply EffectR.next)
    | (with_reducible assumption)
    | (with_reducible apply Effect.foldl <;> intros)
    | (with_reducible apply Effect.ite <;> intros)
    | (with_reducible apply EffectR.ite <;> intros)
    | (split)
    | (dsimp only))

theorem execLinkRecalCtrl_effect (a0 a1 s) : EffectR [.links] s (execLinkRecalCtrl a0 a1 s) := by
  unfold execLinkRecalCtrl
  repeat' (first
    | (with_reducible apply Effect.refl)
    | (with_reducible (apply Effect.next; apply State.modLink_effect); decide +kernel)
    | (with_reducible apply EffectR.ready)
    | (with_reducible apply EffectR.next)
    | (with_reducible assumption)
    | (with_reducible apply Effect.foldl <;> intros)
    | (with_reducible apply Effect.ite <;> intros)
    | (with_reducible apply EffectR.ite <;> intros)
    | (split)
    | (dsimp only))

theorem execLinkRecalRequest_effect (a0 a1 a2 s) : EffectR [.regs, .sent, .links, .doors] s (execLinkRecalRequest a0 a1 a2 s) := by
  unfold execLinkRecalRequest
  repeat' (first
    | (with_reducible apply Effect.refl)
    | (with_reducible (apply Effect.next; apply State.setRegN_effect); decide +kernel)
    | (with_reducible (apply Effect.next; apply State.linkReport_effect); decide +kernel)
    | (with_reducible (apply Effect.next; apply State.modLink_effect); decide +kernel)
    | (with_reducible apply EffectR.ready)
    | (with_reducible apply EffectR.next)
    | (with_reducible assumption)
    | (with_reducible apply Effect.foldl <;> intros)
    | (with_reducible apply Effect.ite <;> intros)
    | (with_reducible apply EffectR.ite <;> intros)
    | (split)
    | (dsimp only))

theorem execLctlDrain_effect (a0 a1 a2 s) : EffectR [.regs, .sent, .links] s (execLctlDrain a0 a1 a2 s) := by
  unfold execLctlDrain flitRun
  repeat' (first
    | (with_reducible apply Effect.refl)
    | (with_reducible (apply Effect.next; apply State.bumpReg_effect); decide +kernel)
    | (with_reducible (apply Effect.next; apply State.orReg_effect); decide +kernel)
    | (with_reducible (apply Effect.next; apply State.drainStep_effect); decide +kernel)
    | (with_reducible (apply Effect.next; apply State.modLink_effect); decide +kernel)
    | (with_reducible apply EffectR.ready)
    | (with_reducible apply EffectR.next)
    | (with_reducible assumption)
    | (with_reducible apply Effect.foldl <;> intros)
    | (with_reducible apply Effect.ite <;> intros)
    | (with_reducible apply EffectR.ite <;> intros)
    | (split)
    | (dsimp only [id]))

theorem State.drainLink_effect (s a1) : Effect [.regs, .sent, .links] s (State.drainLink s a1) := by
  unfold State.drainLink
  repeat' (first
    | (with_reducible apply Effect.refl)
    | (with_reducible (apply Effect.next; apply State.modLink_effect); decide +kernel)
    | (with_reducible (apply Effect.next; apply EffectO.get; case e => assumption; apply State.fabForward_effect); decide +kernel)
    | (with_reducible (apply EffectO.next; apply State.fabForward_effect); decide +kernel)
    | (with_reducible (apply Effect.next; apply State.drainStep_effect); decide +kernel)
    | (with_reducible (apply Effect.next; apply State.sendLctl_effect); decide +kernel)
    | (with_reducible assumption)
    | (with_reducible apply Effect.foldl <;> intros)
    | (with_reducible (apply EffectO.get; case e => assumption))
    | (with_reducible apply Effect.getD)
    | (with_reducible apply Effect.ite <;> intros)
    | (split)
    | (dsimp only))

theorem execLinkRecalGrant_effect (a0 s) : EffectR [.regs, .sent, .links] s (execLinkRecalGrant a0 s) := by
  unfold execLinkRecalGrant
  repeat' (first
    | (with_reducible apply Effect.refl)
    | (with_reducible (apply Effect.next; apply State.drainLink_effect); decide +kernel)
    | (with_reducible apply EffectR.ready)
    | (with_reducible apply EffectR.next)
    | (with_reducible assumption)
    | (with_reducible apply Effect.foldl <;> intros)
    | (with_reducible apply Effect.ite <;> intros)
    | (with_reducible apply EffectR.ite <;> intros)
    | (split)
    | (dsimp only))

theorem execLctlDrainDone_effect (a0 a1 s) : EffectR [.regs, .sent, .links] s (execLctlDrainDone a0 a1 s) := by
  unfold execLctlDrainDone flitRun
  repeat' (first
    | (with_reducible apply Effect.refl)
    | (with_reducible (apply Effect.next; apply State.bumpReg_effect); decide +kernel)
    | (with_reducible (apply Effect.next; apply State.orReg_effect); decide +kernel)
    | (with_reducible (apply Effect.next; apply State.drainStep_effect); decide +kernel)
    | (with_reducible (apply Effect.next; apply State.modLink_effect); decide +kernel)
    | (with_reducible apply EffectR.ready)
    | (with_reducible apply EffectR.next)
    | (with_reducible assumption)
    | (with_reducible apply Effect.foldl <;> intros)
    | (with_reducible apply Effect.ite <;> intros)
    | (with_reducible apply EffectR.ite <;> intros)
    | (split)
    | (dsimp only [id]))

theorem execLinkRecalRetrainEnd_effect (a0 a1 s) : EffectR [.regs, .sent, .attics, .links, .doors, .errRings, .wingLogs, .errInFlight, .ceWindows, .live, .mailboxStudy] s (execLinkRecalRetrainEnd a0 a1 s) := by
  unfold execLinkRecalRetrainEnd
  repeat' (first
    | (with_reducible apply Effect.refl)
    | (with_reducible (apply Effect.next; apply State.sendLctl_effect); decide +kernel)
    | (with_reducible (apply Effect.next; apply State.modLink_effect); decide +kernel)
    | (with_reducible (apply Effect.next; apply State.linkDown_effect); decide +kernel)
    | (with_reducible apply EffectR.ready)
    | (with_reducible apply EffectR.next)
    | (with_reducible assumption)
    | (with_reducible apply Effect.foldl <;> intros)
    | (with_reducible apply Effect.ite <;> intros)
    | (with_reducible apply EffectR.ite <;> intros)
    | (split)
    | (dsimp only))

theorem execLinkRecalResume_effect (a0 s) : EffectR [.regs, .sent, .links, .doors, .live, .mailboxStudy] s (execLinkRecalResume a0 s) := by
  unfold execLinkRecalResume
  repeat' (first
    | (with_reducible apply Effect.refl)
    | (with_reducible (apply Effect.next; apply State.mgmtDone_effect); decide +kernel)
    | (with_reducible (apply Effect.next; apply State.linkReport_effect); decide +kernel)
    | (with_reducible (apply Effect.next; apply State.modLink_effect); decide +kernel)
    | (with_reducible apply EffectR.ready)
    | (with_reducible apply EffectR.next)
    | (with_reducible assumption)
    | (with_reducible apply Effect.foldl <;> intros)
    | (with_reducible apply Effect.ite <;> intros)
    | (with_reducible apply EffectR.ite <;> intros)
    | (split)
    | (dsimp only))

theorem State.linkCfgWrite_effect (s a1 a2) : Effect [.regs, .sent, .attics, .links, .doors, .errRings, .wingLogs, .errInFlight, .ceWindows, .live, .mailboxStudy] s (State.linkCfgWrite s a1 a2) := by
  unfold State.linkCfgWrite
  repeat' (first
    | (with_reducible apply Effect.refl)
    | (with_reducible (apply Effect.next; apply State.writeReg_effect); decide +kernel)
    | (with_reducible (apply Effect.next; apply State.linkDown_effect); decide +kernel)
    | (with_reducible assumption)
    | (with_reducible apply Effect.foldl <;> intros)
    | (with_reducible apply Effect.ite <;> intros)
    | (split)
    | (dsimp only))

theorem execLinkCfgWrite_effect (a0 a1 a2 s) : EffectR [.regs, .sent, .attics, .links, .doors, .errRings, .wingLogs, .errInFlight, .ceWindows, .live, .mailboxStudy] s (execLinkCfgWrite a0 a1 a2 s) := by
  unfold execLinkCfgWrite
  repeat' (first
    | (with_reducible apply Effect.refl)
    | (with_reducible (apply Effect.next; apply State.linkCfgWrite_effect); decide +kernel)
    | (with_reducible apply EffectR.ready)
    | (with_reducible apply EffectR.next)
    | (with_reducible assumption)
    | (with_reducible apply Effect.foldl <;> intros)
    | (with_reducible apply Effect.ite <;> intros)
    | (with_reducible apply EffectR.ite <;> intros)
    | (split)
    | (dsimp only))

theorem State.fillBank_effect (s a1 a2) : Effect [.fabric] s (State.fillBank s a1 a2) := by
  unfold State.fillBank
  repeat' (first
    | (with_reducible apply Effect.refl)
    | (with_reducible (apply Effect.next; apply State.modFabric_effect); decide +kernel)
    | (with_reducible assumption)
    | (with_reducible apply Effect.foldl <;> intros)
    | (with_reducible apply Effect.ite <;> intros)
    | (split)
    | (dsimp only))

theorem State.fabSwitch_effect (s) : Effect [.fabric] s (State.fabSwitch s) := by
  unfold State.fabSwitch
  repeat' (first
    | (with_reducible apply Effect.refl)
    | (with_reducible (apply Effect.next; apply State.modFabric_effect); decide +kernel)
    | (with_reducible assumption)
    | (with_reducible apply Effect.foldl <;> intros)
    | (with_reducible apply Effect.ite <;> intros)
    | (split)
    | (dsimp only))

theorem execFabTableRebuild_effect (s) : EffectR [.fabric] s (execFabTableRebuild s) := by
  unfold execFabTableRebuild
  repeat' (first
    | (with_reducible apply Effect.refl)
    | (with_reducible (apply Effect.next; apply State.fabSwitch_effect); decide +kernel)
    | (with_reducible (apply Effect.next; apply State.fillBank_effect); decide +kernel)
    | (with_reducible apply EffectR.ready)
    | (with_reducible apply EffectR.next)
    | (with_reducible assumption)
    | (with_reducible apply Effect.foldl <;> intros)
    | (with_reducible apply Effect.ite <;> intros)
    | (with_reducible apply EffectR.ite <;> intros)
    | (split)
    | (dsimp only))

theorem execFabCtrlSwitch_effect (a0 s) : EffectR [.fabric] s (execFabCtrlSwitch a0 s) := by
  unfold execFabCtrlSwitch
  repeat' (first
    | (with_reducible apply Effect.refl)
    | (with_reducible (apply Effect.next; apply State.fabSwitch_effect); decide +kernel)
    | (with_reducible apply EffectR.ready)
    | (with_reducible apply EffectR.next)
    | (with_reducible assumption)
    | (with_reducible apply Effect.foldl <;> intros)
    | (with_reducible apply Effect.ite <;> intros)
    | (with_reducible apply EffectR.ite <;> intros)
    | (split)
    | (dsimp only))

theorem execFabAbsentClr_effect (a0 a1 s) : EffectR [.regs, .sent, .absentDevs, .doors] s (execFabAbsentClr a0 a1 s) := by
  unfold execFabAbsentClr
  repeat' (first
    | (with_reducible apply Effect.refl)
    | (with_reducible (apply Effect.next; apply State.deviceBack_effect); decide +kernel)
    | (with_reducible apply EffectR.ready)
    | (with_reducible apply EffectR.next)
    | (with_reducible assumption)
    | (with_reducible apply Effect.foldl <;> intros)
    | (with_reducible apply Effect.ite <;> intros)
    | (with_reducible apply EffectR.ite <;> intros)
    | (split)
    | (dsimp only))

theorem execAbsentProbe_effect (a0 s) : EffectR [.sent, .fabric] s (execAbsentProbe a0 s) := by
  unfold execAbsentProbe
  repeat' (first
    | (with_reducible apply Effect.refl)
    | (with_reducible (apply Effect.next; apply State.send_effect); decide +kernel)
    | (with_reducible (apply Effect.next; apply State.modFabric_effect); decide +kernel)
    | (with_reducible apply EffectR.ready)
    | (with_reducible apply EffectR.next)
    | (with_reducible assumption)
    | (with_reducible apply Effect.foldl <;> intros)
    | (with_reducible apply Effect.ite <;> intros)
    | (with_reducible apply EffectR.ite <;> intros)
    | (split)
    | (dsimp only))

theorem execAbsentProbeTimeout_effect (a0 s) : EffectR [.now, .free, .mem, .poison, .regs, .harts, .rooms, .tags, .reqs, .sent, .colls, .insts, .keptEnds, .attics, .dws, .fabric, .absentDevs, .mailboxes, .doors, .errRings, .wingLogs, .errInFlight, .ceWindows, .guards] s (execAbsentProbeTimeout a0 s) := by
  unfold execAbsentProbeTimeout
  repeat' (first
    | (with_reducible apply Effect.refl)
    | (with_reducible (apply Effect.next; apply State.modFabric_effect); decide +kernel)
    | (with_reducible (apply Effect.next; apply State.reach_effect); decide +kernel)
    | (with_reducible (apply Effect.next; apply State.postDie_effect); decide +kernel)
    | (with_reducible (apply Effect.next; apply State.deviceAbsent_effect); decide +kernel)
    | (with_reducible apply EffectR.ready)
    | (with_reducible apply EffectR.next)
    | (with_reducible assumption)
    | (with_reducible apply Effect.foldl <;> intros)
    | (with_reducible apply Effect.ite <;> intros)
    | (with_reducible apply EffectR.ite <;> intros)
    | (split)
    | (dsimp only))

theorem execFabricReissue_effect (a0 a1 s) : EffectR [.now, .reqs, .sent, .halls] s (execFabricReissue a0 a1 s) := by
  unfold execFabricReissue
  repeat' (first
    | (with_reducible apply Effect.refl)
    | (with_reducible (apply Effect.next; apply State.landingReissue_effect); decide +kernel)
    | (with_reducible (apply Effect.next; apply State.reissue_effect); decide +kernel)
    | (with_reducible apply EffectR.ready)
    | (with_reducible apply EffectR.next)
    | (with_reducible assumption)
    | (with_reducible apply Effect.foldl <;> intros)
    | (with_reducible apply Effect.ite <;> intros)
    | (with_reducible apply EffectR.ite <;> intros)
    | (split)
    | (dsimp only))

theorem execTimeFlitSend_effect (a0 s) : EffectR [.sent, .links] s (execTimeFlitSend a0 s) := by
  unfold execTimeFlitSend
  repeat' (first
    | (with_reducible apply Effect.refl)
    | (with_reducible (apply Effect.next; apply State.sendCtl_effect); decide +kernel)
    | (with_reducible apply EffectR.ready)
    | (with_reducible apply EffectR.next)
    | (with_reducible assumption)
    | (with_reducible apply Effect.foldl <;> intros)
    | (with_reducible apply Effect.ite <;> intros)
    | (with_reducible apply EffectR.ite <;> intros)
    | (split)
    | (dsimp only))

theorem State.followTime_effect (s a1 a2) : Effect [.now, .fabric] s (State.followTime s a1 a2) := by
  unfold State.followTime
  repeat' (first
    | ((conv => arg 3; arg 64); refine Effect.upd ?_ (by intro p hp; cases p <;> first | exact Bool.noConfusion hp | rfl))
    | (with_reducible apply Effect.refl)
    | (with_reducible (apply Effect.next; apply State.modFabric_effect); decide +kernel)
    | (with_reducible assumption)
    | (with_reducible apply Effect.foldl <;> intros)
    | (with_reducible apply Effect.ite <;> intros)
    | (split)
    | (dsimp only))

theorem execFlitTime_effect (a0 a1 a2 s) : EffectR [.now, .regs, .sent, .links, .fabric] s (execFlitTime a0 a1 a2 s) := by
  unfold execFlitTime flitRun
  repeat' (first
    | (with_reducible apply Effect.refl)
    | (with_reducible (apply Effect.next; apply State.bumpReg_effect); decide +kernel)
    | (with_reducible (apply Effect.next; apply State.orReg_effect); decide +kernel)
    | (with_reducible (apply Effect.next; apply State.drainStep_effect); decide +kernel)
    | (with_reducible (apply Effect.next; apply State.modLink_effect); decide +kernel)
    | (with_reducible (apply Effect.next; apply State.followTime_effect); decide +kernel)
    | (with_reducible apply EffectR.ready)
    | (with_reducible apply EffectR.next)
    | (with_reducible assumption)
    | (with_reducible apply Effect.foldl <;> intros)
    | (with_reducible apply Effect.ite <;> intros)
    | (with_reducible apply EffectR.ite <;> intros)
    | (split)
    | (dsimp only [id]))

theorem execTimeParentLoss_effect (s) : EffectR [.now, .fabric] s (execTimeParentLoss s) := by
  unfold execTimeParentLoss
  repeat' (first
    | (with_reducible apply Effect.refl)
    | (with_reducible (apply Effect.next; apply State.modFabric_effect); decide +kernel)
    | (with_reducible (apply Effect.next; apply State.reach_effect); decide +kernel)
    | (with_reducible apply EffectR.ready)
    | (with_reducible apply EffectR.next)
    | (with_reducible assumption)
    | (with_reducible apply Effect.foldl <;> intros)
    | (with_reducible apply Effect.ite <;> intros)
    | (with_reducible apply EffectR.ite <;> intros)
    | (split)
    | (dsimp only))

theorem State.linkRegWrite_effect (s a1 a2 a3) : Effect [.regs, .sent, .attics, .links, .doors, .errRings, .wingLogs, .errInFlight, .ceWindows, .live, .mailboxStudy] s (State.linkRegWrite s a1 a2 a3) := by
  unfold State.linkRegWrite
  repeat' (first
    | (with_reducible apply Effect.refl)
    | (with_reducible (apply Effect.next; apply State.linkCfgWrite_effect); decide +kernel)
    | (with_reducible (apply Effect.next; apply State.linkAdmit_effect); decide +kernel)
    | (with_reducible (apply Effect.next; apply State.modLink_effect); decide +kernel)
    | (with_reducible (apply Effect.next; apply State.writeReg_effect); decide +kernel)
    | (with_reducible assumption)
    | (with_reducible apply Effect.foldl <;> intros)
    | (with_reducible apply Effect.ite <;> intros)
    | (split)
    | (dsimp only))

theorem State.fabEntryWrite_effect (s a1 a2) : Effect [.fabric] s (State.fabEntryWrite s a1 a2) := by
  unfold State.fabEntryWrite
  repeat' (first
    | (with_reducible apply Effect.refl)
    | (with_reducible (apply Effect.next; apply State.modFabric_effect); decide +kernel)
    | (with_reducible assumption)
    | (with_reducible apply Effect.foldl <;> intros)
    | (with_reducible apply Effect.ite <;> intros)
    | (split)
    | (dsimp only))

theorem State.fabRegWrite_effect (s a1 a2 a3) : Effect [.regs, .sent, .fabric, .absentDevs, .doors] s (State.fabRegWrite s a1 a2 a3) := by
  unfold State.fabRegWrite
  repeat' (first
    | (with_reducible apply Effect.refl)
    | (with_reducible (apply Effect.next; apply State.writeReg_effect); decide +kernel)
    | (with_reducible (apply Effect.next; apply State.fabSwitch_effect); decide +kernel)
    | (with_reducible (apply Effect.next; apply State.deviceBack_effect); decide +kernel)
    | (with_reducible (apply Effect.next; apply State.fabEntryWrite_effect); decide +kernel)
    | (with_reducible assumption)
    | (with_reducible apply Effect.foldl <;> intros)
    | (with_reducible apply Effect.ite <;> intros)
    | (split)
    | (dsimp only))

theorem State.resetLinks_effect (s a1) : Effect [.regs, .regqs, .links] s (State.resetLinks s a1) := by
  unfold State.resetLinks
  repeat' (first
    | ((conv => arg 3; arg 64); refine Effect.upd ?_ (by intro p hp; cases p <;> first | exact Bool.noConfusion hp | rfl))
    | (with_reducible apply Effect.refl)
    | (with_reducible (apply Effect.next; apply State.resetRegs_effect); decide +kernel)
    | (with_reducible assumption)
    | (with_reducible apply Effect.foldl <;> intros)
    | (with_reducible apply Effect.ite <;> intros)
    | (split)
    | (dsimp only))

end Sys2Proof.Machine
end

