-- ==== Sys2Proof/Laws/EffectEvents.lean ====
section
/-! SUPPORT. What the operations and the meanings of Machine/Events.lean can change: one lemma each. -/
-- The kernel decides the inclusions of each lemma before the next lemma starts.
set_option Elab.async false
set_option linter.all false
namespace Sys2Proof.Machine

theorem State.modPower_effect (s a1) : Effect [.power] s (State.modPower s a1) := by
  unfold State.modPower
  repeat' (first
    | ((conv => arg 3; arg 64); refine Effect.upd ?_ (by intro p hp; cases p <;> first | exact Bool.noConfusion hp | rfl))
    | (with_reducible apply Effect.refl)
    | (with_reducible assumption)
    | (with_reducible apply Effect.foldl <;> intros)
    | (with_reducible apply Effect.ite <;> intros)
    | (split)
    | (dsimp only))

theorem State.modTherm_effect (s a1) : Effect [.therm] s (State.modTherm s a1) := by
  unfold State.modTherm
  repeat' (first
    | ((conv => arg 3; arg 64); refine Effect.upd ?_ (by intro p hp; cases p <;> first | exact Bool.noConfusion hp | rfl))
    | (with_reducible apply Effect.refl)
    | (with_reducible assumption)
    | (with_reducible apply Effect.foldl <;> intros)
    | (with_reducible apply Effect.ite <;> intros)
    | (split)
    | (dsimp only))

theorem State.modBoot_effect (s a1) : Effect [.boot] s (State.modBoot s a1) := by
  unfold State.modBoot
  repeat' (first
    | ((conv => arg 3; arg 64); refine Effect.upd ?_ (by intro p hp; cases p <;> first | exact Bool.noConfusion hp | rfl))
    | (with_reducible apply Effect.refl)
    | (with_reducible assumption)
    | (with_reducible apply Effect.foldl <;> intros)
    | (with_reducible apply Effect.ite <;> intros)
    | (split)
    | (dsimp only))

theorem State.modLive_effect (s a1) : Effect [.live] s (State.modLive s a1) := by
  unfold State.modLive
  repeat' (first
    | ((conv => arg 3; arg 64); refine Effect.upd ?_ (by intro p hp; cases p <;> first | exact Bool.noConfusion hp | rfl))
    | (with_reducible apply Effect.refl)
    | (with_reducible assumption)
    | (with_reducible apply Effect.foldl <;> intros)
    | (with_reducible apply Effect.ite <;> intros)
    | (split)
    | (dsimp only))

theorem State.modRpow_effect (s a1 a2) : Effect [.power] s (State.modRpow s a1 a2) := by
  unfold State.modRpow
  repeat' (first
    | (with_reducible apply Effect.refl)
    | (with_reducible (apply Effect.next; apply State.modPower_effect); decide +kernel)
    | (with_reducible assumption)
    | (with_reducible apply Effect.foldl <;> intros)
    | (with_reducible apply Effect.ite <;> intros)
    | (split)
    | (dsimp only))

theorem State.modRtherm_effect (s a1 a2) : Effect [.therm] s (State.modRtherm s a1 a2) := by
  unfold State.modRtherm
  repeat' (first
    | (with_reducible apply Effect.refl)
    | (with_reducible (apply Effect.next; apply State.modTherm_effect); decide +kernel)
    | (with_reducible assumption)
    | (with_reducible apply Effect.foldl <;> intros)
    | (with_reducible apply Effect.ite <;> intros)
    | (split)
    | (dsimp only))

theorem State.lowerTargets_effect (s) : Effect [.power] s (State.lowerTargets s) := by
  unfold State.lowerTargets
  repeat' (first
    | (with_reducible apply Effect.refl)
    | (with_reducible (apply Effect.next; apply State.modPower_effect); decide +kernel)
    | (with_reducible assumption)
    | (with_reducible apply Effect.foldl <;> intros)
    | (with_reducible apply Effect.ite <;> intros)
    | (split)
    | (dsimp only))

theorem State.setAccount_effect (s a1 a2 a3) : Effect [.power] s (State.setAccount s a1 a2 a3) := by
  unfold State.setAccount
  repeat' (first
    | (with_reducible apply Effect.refl)
    | (with_reducible (apply Effect.next; apply State.modPower_effect); decide +kernel)
    | (with_reducible assumption)
    | (with_reducible apply Effect.foldl <;> intros)
    | (with_reducible apply Effect.ite <;> intros)
    | (split)
    | (dsimp only))

theorem State.ask_effect (s a1 a2) : Effect [.power] s (State.ask s a1 a2) := by
  unfold State.ask
  repeat' (first
    | (with_reducible apply Effect.refl)
    | (with_reducible (apply Effect.next; apply State.setAccount_effect); decide +kernel)
    | (with_reducible assumption)
    | (with_reducible apply Effect.foldl <;> intros)
    | (with_reducible apply Effect.ite <;> intros)
    | (split)
    | (dsimp only))

theorem State.askRaises_effect (s) : Effect [.power] s (State.askRaises s) := by
  unfold State.askRaises
  repeat' (first
    | (with_reducible apply Effect.refl)
    | (with_reducible (apply Effect.next; apply State.ask_effect); decide +kernel)
    | (with_reducible assumption)
    | (with_reducible apply Effect.foldl <;> intros)
    | (with_reducible apply Effect.ite <;> intros)
    | (split)
    | (dsimp only))

theorem State.publish_effect (s) : Effect [.regs, .sent, .doors, .plan, .planGen, .planTime] s (State.publish s) := by
  unfold State.publish
  repeat' (first
    | ((conv => arg 3; arg 64); refine Effect.upd ?_ (by intro p hp; cases p <;> first | exact Bool.noConfusion hp | rfl))
    | (with_reducible apply Effect.refl)
    | (with_reducible (apply Effect.next; apply State.event_effect); decide +kernel)
    | (with_reducible assumption)
    | (with_reducible apply Effect.foldl <;> intros)
    | (with_reducible apply Effect.ite <;> intros)
    | (split)
    | (dsimp only))

theorem State.updatePlan_effect (s) : Effect [.regs, .sent, .doors, .plan, .planGen, .planTime] s (State.updatePlan s) := by
  unfold State.updatePlan
  repeat' (first
    | (with_reducible apply Effect.refl)
    | (with_reducible (apply Effect.next; apply State.publish_effect); decide +kernel)
    | (with_reducible assumption)
    | (with_reducible apply Effect.foldl <;> intros)
    | (with_reducible apply Effect.ite <;> intros)
    | (split)
    | (dsimp only))

theorem execFloorPlanUpdate_effect (s) : EffectR [.regs, .sent, .doors, .plan, .planGen, .planTime] s (execFloorPlanUpdate s) := by
  unfold execFloorPlanUpdate
  repeat' (first
    | (with_reducible apply Effect.refl)
    | (with_reducible (apply Effect.next; apply State.updatePlan_effect); decide +kernel)
    | (with_reducible apply EffectR.ready)
    | (with_reducible apply EffectR.next)
    | (with_reducible assumption)
    | (with_reducible apply Effect.foldl <;> intros)
    | (with_reducible apply Effect.ite <;> intros)
    | (with_reducible apply EffectR.ite <;> intros)
    | (split)
    | (dsimp only))

theorem State.porchLinksDown_effect (s a1) : Effect [.regs, .sent, .attics, .links, .doors, .errRings, .wingLogs, .errInFlight, .ceWindows, .live, .mailboxStudy] s (State.porchLinksDown s a1) := by
  unfold State.porchLinksDown
  repeat' (first
    | (with_reducible apply Effect.refl)
    | (with_reducible (apply Effect.next; apply State.linkDown_effect); decide +kernel)
    | (with_reducible assumption)
    | (with_reducible apply Effect.foldl <;> intros)
    | (with_reducible apply Effect.ite <;> intros)
    | (split)
    | (dsimp only))

theorem State.wingDown_effect (s a1 a2) : Effect [.regs, .rooms, .sent, .attics, .wings, .links, .doors, .errRings, .wingLogs, .errInFlight, .ceWindows, .live, .mailboxStudy] s (State.wingDown s a1 a2) := by
  unfold State.wingDown
  repeat' (first
    | (with_reducible apply Effect.refl)
    | (with_reducible (apply Effect.next; apply State.modRoom_effect); decide +kernel)
    | (with_reducible (apply Effect.next; apply State.modWing_effect); decide +kernel)
    | (with_reducible (apply Effect.next; apply State.porchLinksDown_effect); decide +kernel)
    | (with_reducible assumption)
    | (with_reducible apply Effect.foldl <;> intros)
    | (with_reducible apply Effect.ite <;> intros)
    | (split)
    | (dsimp only))

theorem State.powerError_effect (s a1 a2 a3) : Effect [.regs, .attics, .errRings, .wingLogs, .errInFlight, .ceWindows] s (State.powerError s a1 a2 a3) := by
  unfold State.powerError
  repeat' (first
    | (with_reducible apply Effect.refl)
    | (with_reducible (apply Effect.next; apply State.postDie_effect); decide +kernel)
    | (with_reducible (apply Effect.next; apply State.orReg_effect); decide +kernel)
    | (with_reducible assumption)
    | (with_reducible apply Effect.foldl <;> intros)
    | (with_reducible apply Effect.ite <;> intros)
    | (split)
    | (dsimp only))

end Sys2Proof.Machine
end

