-- ==== Sys2Proof/Laws/EffectModules.lean ====
section
/-! SUPPORT. What the operations and the meanings of Machine/Modules.lean can change: one lemma each. -/
-- The kernel decides the inclusions of each lemma before the next lemma starts.
set_option Elab.async false
set_option linter.all false
namespace Sys2Proof.Machine

theorem execFuseLoad_effect (a0 s) : EffectR [.rooms, .wings, .modules, .dies, .doors] s (execFuseLoad a0 s) := by
  unfold execFuseLoad
  repeat' (first
    | (with_reducible apply Effect.refl)
    | (with_reducible (apply Effect.next; apply State.modDie_effect); decide +kernel)
    | (with_reducible (apply Effect.next; apply State.modModule_effect); decide +kernel)
    | (with_reducible (apply Effect.next; apply State.modRoom_effect); decide +kernel)
    | (with_reducible (apply Effect.next; apply State.modWing_effect); decide +kernel)
    | (with_reducible (apply Effect.next; apply State.modDoor_effect); decide +kernel)
    | (with_reducible apply EffectR.ready)
    | (with_reducible apply EffectR.next)
    | (with_reducible assumption)
    | (with_reducible apply Effect.foldl <;> intros)
    | (with_reducible apply Effect.ite <;> intros)
    | (with_reducible apply EffectR.ite <;> intros)
    | (split)
    | (dsimp only))

theorem State.sendCap_effect (s a1) : Effect [.sent] s (State.sendCap s a1) := by
  unfold State.sendCap
  repeat' (first
    | (with_reducible apply Effect.refl)
    | (with_reducible (apply Effect.next; apply State.send_effect); decide +kernel)
    | (with_reducible assumption)
    | (with_reducible apply Effect.foldl <;> intros)
    | (with_reducible apply Effect.ite <;> intros)
    | (split)
    | (dsimp only))

theorem State.modEnds_effect (s a1 a2 a3) : Effect [.modules] s (State.modEnds s a1 a2 a3) := by
  unfold State.modEnds
  repeat' (first
    | (with_reducible apply Effect.refl)
    | (with_reducible (apply Effect.next; apply State.modModule_effect); decide +kernel)
    | (with_reducible assumption)
    | (with_reducible apply Effect.foldl <;> intros)
    | (with_reducible apply Effect.ite <;> intros)
    | (split)
    | (dsimp only))

theorem State.sideband_effect (s a1 a2) : Effect [.modules] s (State.sideband s a1 a2) := by
  unfold State.sideband
  repeat' (first
    | (with_reducible apply Effect.refl)
    | (with_reducible (apply Effect.next; apply State.modEnds_effect); decide +kernel)
    | (with_reducible (apply Effect.next; apply State.modModule_effect); decide +kernel)
    | (with_reducible assumption)
    | (with_reducible apply Effect.foldl <;> intros)
    | (with_reducible apply Effect.ite <;> intros)
    | (split)
    | (dsimp only))

theorem execModuleSideband_effect (a0 a1 s) : EffectR [.modules] s (execModuleSideband a0 a1 s) := by
  unfold execModuleSideband moduleRun
  repeat' (first
    | (with_reducible apply Effect.refl)
    | (with_reducible (apply Effect.next; apply State.sideband_effect); decide +kernel)
    | (with_reducible apply EffectR.ready)
    | (with_reducible apply EffectR.next)
    | (with_reducible assumption)
    | (with_reducible apply Effect.foldl <;> intros)
    | (with_reducible apply Effect.ite <;> intros)
    | (with_reducible apply EffectR.ite <;> intros)
    | (split)
    | (dsimp only [id]))

theorem execModuleMainbandTrain_effect (a0 a1 s) : EffectR [.modules] s (execModuleMainbandTrain a0 a1 s) := by
  unfold execModuleMainbandTrain moduleRun
  repeat' (first
    | (with_reducible apply Effect.refl)
    | (with_reducible (apply Effect.next; apply State.modEnds_effect); decide +kernel)
    | (with_reducible apply EffectR.ready)
    | (with_reducible apply EffectR.next)
    | (with_reducible assumption)
    | (with_reducible apply Effect.foldl <;> intros)
    | (with_reducible apply Effect.ite <;> intros)
    | (with_reducible apply EffectR.ite <;> intros)
    | (split)
    | (dsimp only [id]))

theorem execModuleAdapterInit_effect (a0 a1 s) : EffectR [.sent, .modules] s (execModuleAdapterInit a0 a1 s) := by
  unfold execModuleAdapterInit moduleRun
  repeat' (first
    | (with_reducible apply Effect.refl)
    | (with_reducible (apply Effect.next; apply State.sendCap_effect); decide +kernel)
    | (with_reducible (apply Effect.next; apply State.modEnds_effect); decide +kernel)
    | (with_reducible apply EffectR.ready)
    | (with_reducible apply EffectR.next)
    | (with_reducible assumption)
    | (with_reducible apply Effect.foldl <;> intros)
    | (with_reducible apply Effect.ite <;> intros)
    | (with_reducible apply EffectR.ite <;> intros)
    | (split)
    | (dsimp only [id]))

theorem execModuleTrainFail_effect (a0 a1 s) : EffectR [.modules] s (execModuleTrainFail a0 a1 s) := by
  unfold execModuleTrainFail moduleRun
  repeat' (first
    | (with_reducible apply Effect.refl)
    | (with_reducible (apply Effect.next; apply State.modEnds_effect); decide +kernel)
    | (with_reducible apply EffectR.ready)
    | (with_reducible apply EffectR.next)
    | (with_reducible assumption)
    | (with_reducible apply Effect.foldl <;> intros)
    | (with_reducible apply Effect.ite <;> intros)
    | (with_reducible apply EffectR.ite <;> intros)
    | (split)
    | (dsimp only [id]))

theorem State.takeCap_effect (s a1 a2 a3) : Effect [.modules, .dies] s (State.takeCap s a1 a2 a3) := by
  unfold State.takeCap
  repeat' (first
    | (with_reducible apply Effect.refl)
    | (with_reducible (apply Effect.next; apply State.modModule_effect); decide +kernel)
    | (with_reducible (apply Effect.next; apply State.modDie_effect); decide +kernel)
    | (with_reducible (apply Effect.next; apply State.modEnds_effect); decide +kernel)
    | (with_reducible assumption)
    | (with_reducible apply Effect.foldl <;> intros)
    | (with_reducible apply Effect.ite <;> intros)
    | (split)
    | (dsimp only))

theorem State.markPort_effect (s a1) : Effect [.halls] s (State.markPort s a1) := by
  unfold State.markPort
  repeat' (first
    | (with_reducible apply Effect.refl)
    | (with_reducible (apply Effect.next; apply State.modHall_effect); decide +kernel)
    | (with_reducible assumption)
    | (with_reducible apply Effect.foldl <;> intros)
    | (with_reducible apply Effect.ite <;> intros)
    | (split)
    | (dsimp only))

theorem execModuleCreditInit_effect (a0 a1 s) : EffectR [.halls, .modules] s (execModuleCreditInit a0 a1 s) := by
  unfold execModuleCreditInit moduleRun
  repeat' (first
    | (with_reducible apply Effect.refl)
    | (with_reducible (apply Effect.next; apply State.markPort_effect); decide +kernel)
    | (with_reducible (apply Effect.next; apply State.modEnds_effect); decide +kernel)
    | (with_reducible apply EffectR.ready)
    | (with_reducible apply EffectR.next)
    | (with_reducible assumption)
    | (with_reducible apply Effect.foldl <;> intros)
    | (with_reducible apply Effect.ite <;> intros)
    | (with_reducible apply EffectR.ite <;> intros)
    | (split)
    | (dsimp only [id]))

theorem execLctlCrd_effect (a0 a1 a2 s) : EffectR [.modules] s (execLctlCrd a0 a1 a2 s) := by
  unfold execLctlCrd moduleRun
  repeat' (first
    | (with_reducible apply Effect.refl)
    | (with_reducible (apply Effect.next; apply State.modModule_effect); decide +kernel)
    | (with_reducible apply EffectR.ready)
    | (with_reducible apply EffectR.next)
    | (with_reducible assumption)
    | (with_reducible apply Effect.foldl <;> intros)
    | (with_reducible apply Effect.ite <;> intros)
    | (with_reducible apply EffectR.ite <;> intros)
    | (split)
    | (dsimp only [id]))

theorem State.d2dRegWrite_effect (s a1 a2 a3) : Effect [.regs] s (State.d2dRegWrite s a1 a2 a3) := by
  unfold State.d2dRegWrite
  repeat' (first
    | (with_reducible apply Effect.refl)
    | (with_reducible (apply Effect.next; apply State.setRegN_effect); decide +kernel)
    | (with_reducible assumption)
    | (with_reducible apply Effect.foldl <;> intros)
    | (with_reducible apply Effect.ite <;> intros)
    | (split)
    | (dsimp only))

theorem State.resetModules_effect (s a1) : Effect [.regs, .modules, .wingLogs, .errInFlight] s (State.resetModules s a1) := by
  unfold State.resetModules
  repeat' (first
    | ((conv => arg 3; arg 64); refine Effect.upd ?_ (by intro p hp; cases p <;> first | exact Bool.noConfusion hp | rfl))
    | (with_reducible apply Effect.refl)
    | (with_reducible (apply Effect.next; apply State.postIsland_effect); decide +kernel)
    | (with_reducible (apply Effect.next; apply State.resetRegs_effect); decide +kernel)
    | (with_reducible assumption)
    | (with_reducible apply Effect.foldl <;> intros)
    | (with_reducible apply Effect.ite <;> intros)
    | (split)
    | (dsimp only))

end Sys2Proof.Machine
end

