-- ==== Sys2Proof/Laws/EffectEdges.lean ====
section
/-! SUPPORT. What the operations and the meanings of Machine/Edges.lean can change: one lemma each. -/
-- The kernel decides the inclusions of each lemma before the next lemma starts.
set_option Elab.async false
set_option linter.all false
namespace Sys2Proof.Machine

theorem State.porchFollows_effect (s a1) : Effect [.regs, .sent, .attics, .links, .doors, .errRings, .wingLogs, .errInFlight, .ceWindows, .live, .mailboxStudy] s (State.porchFollows s a1) := by
  unfold State.porchFollows
  repeat' (first
    | (with_reducible apply Effect.refl)
    | (with_reducible (apply Effect.next; apply State.porchLinksDown_effect); decide +kernel)
    | (with_reducible assumption)
    | (with_reducible apply Effect.foldl <;> intros)
    | (with_reducible apply Effect.ite <;> intros)
    | (split)
    | (dsimp only))

theorem execModuleErrorDown_effect (a0 a1 a2 a3 s) : EffectR [.regs, .sent, .attics, .modules, .links, .doors, .errRings, .wingLogs, .errInFlight, .ceWindows, .live, .mailboxStudy] s (execModuleErrorDown a0 a1 a2 a3 s) := by
  unfold execModuleErrorDown moduleRun
  repeat' (first
    | (with_reducible apply Effect.refl)
    | (with_reducible (apply Effect.next; apply State.modModule_effect); decide +kernel)
    | (with_reducible (apply Effect.next; apply State.porchFollows_effect); decide +kernel)
    | (with_reducible (apply Effect.next; apply State.postDie_effect); decide +kernel)
    | (with_reducible (apply Effect.next; apply State.modEnds_effect); decide +kernel)
    | (with_reducible apply EffectR.ready)
    | (with_reducible apply EffectR.next)
    | (with_reducible assumption)
    | (with_reducible apply Effect.foldl <;> intros)
    | (with_reducible apply Effect.ite <;> intros)
    | (with_reducible apply EffectR.ite <;> intros)
    | (split)
    | (dsimp only [id]))

theorem State.roomCrossingDown_effect (s a1) : Effect [.regs, .halls, .wingLogs, .errInFlight] s (State.roomCrossingDown s a1) := by
  unfold State.roomCrossingDown
  repeat' (first
    | (with_reducible apply Effect.refl)
    | (with_reducible (apply Effect.next; apply State.postIsland_effect); decide +kernel)
    | (with_reducible (apply Effect.next; apply State.hallDrop_effect); decide +kernel)
    | (with_reducible (apply Effect.next; apply State.modHall_effect); decide +kernel)
    | (with_reducible assumption)
    | (with_reducible apply Effect.foldl <;> intros)
    | (with_reducible apply Effect.ite <;> intros)
    | (split)
    | (dsimp only))

theorem execIslandDown_effect (a0 s) : EffectR [.regs, .sent, .attics, .halls, .modules, .links, .doors, .errRings, .wingLogs, .errInFlight, .ceWindows, .live, .mailboxStudy] s (execIslandDown a0 s) := by
  unfold execIslandDown
  repeat' (first
    | (with_reducible apply Effect.refl)
    | (with_reducible (apply Effect.next; apply State.porchFollows_effect); decide +kernel)
    | (with_reducible (apply Effect.next; apply State.postIsland_effect); decide +kernel)
    | (with_reducible (apply Effect.next; apply State.modModule_effect); decide +kernel)
    | (with_reducible (apply Effect.next; apply State.roomCrossingDown_effect); decide +kernel)
    | (with_reducible apply EffectR.ready)
    | (with_reducible apply EffectR.next)
    | (with_reducible assumption)
    | (with_reducible apply Effect.foldl <;> intros)
    | (with_reducible apply Effect.ite <;> intros)
    | (with_reducible apply EffectR.ite <;> intros)
    | (split)
    | (dsimp only))

theorem execEdgeDetect_effect (a0 a1 s) : EffectR [.regs, .sent, .attics, .halls, .links, .doors, .errRings, .wingLogs, .errInFlight, .ceWindows, .live, .mailboxStudy] s (execEdgeDetect a0 a1 s) := by
  unfold execEdgeDetect
  repeat' (first
    | (with_reducible apply Effect.refl)
    | (with_reducible (apply Effect.next; apply State.portDown_effect); decide +kernel)
    | (with_reducible (apply Effect.next; apply State.porchFollows_effect); decide +kernel)
    | (with_reducible apply EffectR.ready)
    | (with_reducible apply EffectR.next)
    | (with_reducible assumption)
    | (with_reducible apply Effect.foldl <;> intros)
    | (with_reducible apply Effect.ite <;> intros)
    | (with_reducible apply EffectR.ite <;> intros)
    | (split)
    | (dsimp only))

theorem State.rebuild_effect (s) : Effect [.regs, .rooms, .sent, .attics, .wings, .halls, .links, .doors, .errRings, .wingLogs, .errInFlight, .ceWindows, .live, .mailboxStudy, .remaps] s (State.rebuild s) := by
  unfold State.rebuild
  repeat' (first
    | (with_reducible apply Effect.refl)
    | (with_reducible (apply Effect.next; apply State.reroute_effect); decide +kernel)
    | (with_reducible (apply Effect.next; apply State.wingDown_effect); decide +kernel)
    | (with_reducible assumption)
    | (with_reducible apply Effect.foldl <;> intros)
    | (with_reducible apply Effect.ite <;> intros)
    | (split)
    | (dsimp only))

theorem execEdgeRebuild_effect (s) : EffectR [.regs, .rooms, .sent, .attics, .wings, .halls, .links, .doors, .errRings, .wingLogs, .errInFlight, .ceWindows, .live, .mailboxStudy, .remaps] s (execEdgeRebuild s) := by
  unfold execEdgeRebuild
  repeat' (first
    | (with_reducible apply Effect.refl)
    | (with_reducible (apply Effect.next; apply State.rebuild_effect); decide +kernel)
    | (with_reducible apply EffectR.ready)
    | (with_reducible apply EffectR.next)
    | (with_reducible assumption)
    | (with_reducible apply Effect.foldl <;> intros)
    | (with_reducible apply Effect.ite <;> intros)
    | (with_reducible apply EffectR.ite <;> intros)
    | (split)
    | (dsimp only))

end Sys2Proof.Machine
end

