-- ==== Sys2Proof/Laws/EffectPower.lean ====
section
/-! SUPPORT. What the operations and the meanings of Machine/Power.lean can change: one lemma each. -/
-- The kernel decides the inclusions of each lemma before the next lemma starts.
set_option Elab.async false
set_option linter.all false
namespace Sys2Proof.Machine

theorem State.alarm_effect (s a1) : Effect [.regs, .attics, .errRings, .wingLogs, .errInFlight, .ceWindows, .power] s (State.alarm s a1) := by
  unfold State.alarm
  repeat' (first
    | (with_reducible apply Effect.refl)
    | (with_reducible (apply Effect.next; apply State.modPower_effect); decide +kernel)
    | (with_reducible (apply Effect.next; apply State.orReg_effect); decide +kernel)
    | (with_reducible (apply Effect.next; apply State.postRoom_effect); decide +kernel)
    | (with_reducible (apply Effect.next; apply State.modRpow_effect); decide +kernel)
    | (with_reducible (apply Effect.next; apply State.postDie_effect); decide +kernel)
    | (with_reducible assumption)
    | (with_reducible apply Effect.foldl <;> intros)
    | (with_reducible apply Effect.ite <;> intros)
    | (split)
    | (dsimp only))

theorem execHeadroomAlarm_effect (a0 s) : EffectR [.regs, .attics, .errRings, .wingLogs, .errInFlight, .ceWindows, .power] s (execHeadroomAlarm a0 s) := by
  unfold execHeadroomAlarm
  repeat' (first
    | (with_reducible apply Effect.refl)
    | (with_reducible (apply Effect.next; apply State.alarm_effect); decide +kernel)
    | (with_reducible apply EffectR.ready)
    | (with_reducible apply EffectR.next)
    | (with_reducible assumption)
    | (with_reducible apply Effect.foldl <;> intros)
    | (with_reducible apply Effect.ite <;> intros)
    | (with_reducible apply EffectR.ite <;> intros)
    | (split)
    | (dsimp only))

theorem State.relieve_effect (s a1 a2) : Effect [.now, .power] s (State.relieve s a1 a2) := by
  unfold State.relieve
  repeat' (first
    | (with_reducible apply Effect.refl)
    | (with_reducible (apply Effect.next; apply State.reach_effect); decide +kernel)
    | (with_reducible (apply Effect.next; apply State.lowerTargets_effect); decide +kernel)
    | (with_reducible (apply Effect.next; apply State.modPower_effect); decide +kernel)
    | (with_reducible (apply Effect.next; apply State.modRpow_effect); decide +kernel)
    | (with_reducible assumption)
    | (with_reducible apply Effect.foldl <;> intros)
    | (with_reducible apply Effect.ite <;> intros)
    | (split)
    | (dsimp only))

theorem execHeadroomRelief_effect (a0 a1 s) : EffectR [.now, .power] s (execHeadroomRelief a0 a1 s) := by
  unfold execHeadroomRelief
  repeat' (first
    | (with_reducible apply Effect.refl)
    | (with_reducible (apply Effect.next; apply State.relieve_effect); decide +kernel)
    | (with_reducible apply EffectR.ready)
    | (with_reducible apply EffectR.next)
    | (with_reducible assumption)
    | (with_reducible apply Effect.foldl <;> intros)
    | (with_reducible apply Effect.ite <;> intros)
    | (with_reducible apply EffectR.ite <;> intros)
    | (split)
    | (dsimp only))

theorem execCoreRaise_effect (s) : EffectR [.regs, .power] s (execCoreRaise s) := by
  unfold execCoreRaise
  repeat' (first
    | (with_reducible apply Effect.refl)
    | (with_reducible (apply Effect.next; apply State.orReg_effect); decide +kernel)
    | (with_reducible (apply Effect.next; apply State.modPower_effect); decide +kernel)
    | (with_reducible apply EffectR.ready)
    | (with_reducible apply EffectR.next)
    | (with_reducible assumption)
    | (with_reducible apply Effect.foldl <;> intros)
    | (with_reducible apply Effect.ite <;> intros)
    | (with_reducible apply EffectR.ite <;> intros)
    | (split)
    | (dsimp only))

theorem State.recover_effect (s) : Effect [.now, .power] s (State.recover s) := by
  unfold State.recover
  repeat' (first
    | (with_reducible apply Effect.refl)
    | (with_reducible (apply Effect.next; apply State.reach_effect); decide +kernel)
    | (with_reducible (apply Effect.next; apply State.askRaises_effect); decide +kernel)
    | (with_reducible (apply Effect.next; apply State.modPower_effect); decide +kernel)
    | (with_reducible assumption)
    | (with_reducible apply Effect.foldl <;> intros)
    | (with_reducible apply Effect.ite <;> intros)
    | (split)
    | (dsimp only))

theorem execHeadroomRecovery_effect (s) : EffectR [.now, .power] s (execHeadroomRecovery s) := by
  unfold execHeadroomRecovery
  repeat' (first
    | (with_reducible apply Effect.refl)
    | (with_reducible (apply Effect.next; apply State.recover_effect); decide +kernel)
    | (with_reducible apply EffectR.ready)
    | (with_reducible apply EffectR.next)
    | (with_reducible assumption)
    | (with_reducible apply Effect.foldl <;> intros)
    | (with_reducible apply Effect.ite <;> intros)
    | (with_reducible apply EffectR.ite <;> intros)
    | (split)
    | (dsimp only))

theorem execSupplyDroop_effect (a0 s) : EffectR [] s (execSupplyDroop a0 s) := by
  unfold execSupplyDroop
  repeat' (first
    | (with_reducible apply Effect.refl)
    | (with_reducible apply EffectR.ready)
    | (with_reducible apply EffectR.next)
    | (with_reducible assumption)
    | (with_reducible apply Effect.foldl <;> intros)
    | (with_reducible apply Effect.ite <;> intros)
    | (with_reducible apply EffectR.ite <;> intros)
    | (split)
    | (dsimp only))

theorem State.avsFails_effect (s) : Effect [.regs, .attics, .errRings, .wingLogs, .errInFlight, .ceWindows, .power] s (State.avsFails s) := by
  unfold State.avsFails
  repeat' (first
    | (with_reducible apply Effect.refl)
    | (with_reducible (apply Effect.next; apply State.modPower_effect); decide +kernel)
    | (with_reducible (apply Effect.next; apply State.lowerTargets_effect); decide +kernel)
    | (with_reducible (apply Effect.next; apply State.powerError_effect); decide +kernel)
    | (with_reducible assumption)
    | (with_reducible apply Effect.foldl <;> intros)
    | (with_reducible apply Effect.ite <;> intros)
    | (split)
    | (dsimp only))

theorem execAvsPoll_effect (a0 a1 a2 s) : EffectR [.now, .regs, .attics, .errRings, .wingLogs, .errInFlight, .ceWindows, .power] s (execAvsPoll a0 a1 a2 s) := by
  unfold execAvsPoll
  repeat' (first
    | (with_reducible apply Effect.refl)
    | (with_reducible (apply Effect.next; apply State.reach_effect); decide +kernel)
    | (with_reducible (apply Effect.next; apply State.modPower_effect); decide +kernel)
    | (with_reducible (apply Effect.next; apply State.avsFails_effect); decide +kernel)
    | (with_reducible apply EffectR.ready)
    | (with_reducible apply EffectR.next)
    | (with_reducible assumption)
    | (with_reducible apply Effect.foldl <;> intros)
    | (with_reducible apply Effect.ite <;> intros)
    | (with_reducible apply EffectR.ite <;> intros)
    | (split)
    | (dsimp only))

theorem execAvsRetry_effect (a0 s) : EffectR [.now, .power] s (execAvsRetry a0 s) := by
  unfold execAvsRetry
  repeat' (first
    | (with_reducible apply Effect.refl)
    | (with_reducible (apply Effect.next; apply State.reach_effect); decide +kernel)
    | (with_reducible (apply Effect.next; apply State.modPower_effect); decide +kernel)
    | (with_reducible apply EffectR.ready)
    | (with_reducible apply EffectR.next)
    | (with_reducible assumption)
    | (with_reducible apply Effect.foldl <;> intros)
    | (with_reducible apply Effect.ite <;> intros)
    | (with_reducible apply EffectR.ite <;> intros)
    | (split)
    | (dsimp only))

theorem execGrantRequest_effect (a0 a1 s) : EffectR [.power] s (execGrantRequest a0 a1 s) := by
  unfold execGrantRequest
  repeat' (first
    | (with_reducible apply Effect.refl)
    | (with_reducible (apply Effect.next; apply State.ask_effect); decide +kernel)
    | (with_reducible apply EffectR.ready)
    | (with_reducible apply EffectR.next)
    | (with_reducible assumption)
    | (with_reducible apply Effect.foldl <;> intros)
    | (with_reducible apply Effect.ite <;> intros)
    | (with_reducible apply EffectR.ite <;> intros)
    | (split)
    | (dsimp only))

theorem State.grantEffect_effect (s a1) : Effect [.power] s (State.grantEffect s a1) := by
  unfold State.grantEffect
  repeat' (first
    | (with_reducible apply Effect.refl)
    | (with_reducible (apply Effect.next; apply State.modRpow_effect); decide +kernel)
    | (with_reducible (apply Effect.next; apply State.modPower_effect); decide +kernel)
    | (with_reducible assumption)
    | (with_reducible apply Effect.foldl <;> intros)
    | (with_reducible apply Effect.ite <;> intros)
    | (split)
    | (dsimp only))

theorem State.issueGrant_effect (s a1 a2 a3) : Effect [.now, .power] s (State.issueGrant s a1 a2 a3) := by
  unfold State.issueGrant
  repeat' (first
    | (with_reducible apply Effect.refl)
    | (with_reducible (apply Effect.next; apply State.reach_effect); decide +kernel)
    | (with_reducible (apply Effect.next; apply State.grantEffect_effect); decide +kernel)
    | (with_reducible (apply Effect.next; apply State.setAccount_effect); decide +kernel)
    | (with_reducible assumption)
    | (with_reducible apply Effect.foldl <;> intros)
    | (with_reducible apply Effect.ite <;> intros)
    | (split)
    | (dsimp only))

theorem execGrantIssue_effect (a0 a1 s) : EffectR [.now, .power] s (execGrantIssue a0 a1 s) := by
  unfold execGrantIssue
  repeat' (first
    | (with_reducible apply Effect.refl)
    | (with_reducible (apply Effect.next; apply State.issueGrant_effect); decide +kernel)
    | (with_reducible apply EffectR.ready)
    | (with_reducible apply EffectR.next)
    | (with_reducible assumption)
    | (with_reducible apply Effect.foldl <;> intros)
    | (with_reducible apply Effect.ite <;> intros)
    | (with_reducible apply EffectR.ite <;> intros)
    | (split)
    | (dsimp only))

theorem execAccountShareRecompute_effect (s) : EffectR [.power] s (execAccountShareRecompute s) := by
  unfold execAccountShareRecompute
  repeat' (first
    | (with_reducible apply Effect.refl)
    | (with_reducible (apply Effect.next; apply State.modPower_effect); decide +kernel)
    | (with_reducible apply EffectR.ready)
    | (with_reducible apply EffectR.next)
    | (with_reducible assumption)
    | (with_reducible apply Effect.foldl <;> intros)
    | (with_reducible apply Effect.ite <;> intros)
    | (with_reducible apply EffectR.ite <;> intros)
    | (split)
    | (dsimp only))

theorem State.writeCap_effect (s a1) : Effect [.power] s (State.writeCap s a1) := by
  unfold State.writeCap
  repeat' (first
    | (with_reducible apply Effect.refl)
    | (with_reducible (apply Effect.next; apply State.modPower_effect); decide +kernel)
    | (with_reducible assumption)
    | (with_reducible apply Effect.foldl <;> intros)
    | (with_reducible apply Effect.ite <;> intros)
    | (split)
    | (dsimp only))

theorem execPwrCapWrite_effect (a0 a1 s) : EffectR [.power] s (execPwrCapWrite a0 a1 s) := by
  unfold execPwrCapWrite
  repeat' (first
    | (with_reducible apply Effect.refl)
    | (with_reducible (apply Effect.next; apply State.writeCap_effect); decide +kernel)
    | (with_reducible apply EffectR.ready)
    | (with_reducible apply EffectR.next)
    | (with_reducible assumption)
    | (with_reducible apply Effect.foldl <;> intros)
    | (with_reducible apply Effect.ite <;> intros)
    | (with_reducible apply EffectR.ite <;> intros)
    | (split)
    | (dsimp only))

theorem State.capLoop_effect (s a1) : Effect [.now, .regs, .attics, .errRings, .wingLogs, .errInFlight, .ceWindows, .power] s (State.capLoop s a1) := by
  unfold State.capLoop
  repeat' (first
    | (with_reducible apply Effect.refl)
    | (with_reducible (apply Effect.next; apply State.reach_effect); decide +kernel)
    | (with_reducible (apply Effect.next; apply State.modPower_effect); decide +kernel)
    | (with_reducible (apply Effect.next; apply State.lowerTargets_effect); decide +kernel)
    | (with_reducible (apply Effect.next; apply State.askRaises_effect); decide +kernel)
    | (with_reducible (apply Effect.next; apply State.powerError_effect); decide +kernel)
    | (with_reducible assumption)
    | (with_reducible apply Effect.foldl <;> intros)
    | (with_reducible apply Effect.ite <;> intros)
    | (split)
    | (dsimp only))

theorem execPowerCapLoop_effect (a0 s) : EffectR [.now, .regs, .attics, .errRings, .wingLogs, .errInFlight, .ceWindows, .power] s (execPowerCapLoop a0 s) := by
  unfold execPowerCapLoop
  repeat' (first
    | (with_reducible apply Effect.refl)
    | (with_reducible (apply Effect.next; apply State.capLoop_effect); decide +kernel)
    | (with_reducible apply EffectR.ready)
    | (with_reducible apply EffectR.next)
    | (with_reducible assumption)
    | (with_reducible apply Effect.foldl <;> intros)
    | (with_reducible apply Effect.ite <;> intros)
    | (with_reducible apply EffectR.ite <;> intros)
    | (split)
    | (dsimp only))

theorem State.dataLinkDown_effect (s a1) : Effect [.doors] s (State.dataLinkDown s a1) := by
  unfold State.dataLinkDown
  repeat' (first
    | (with_reducible apply Effect.refl)
    | (with_reducible (apply Effect.next; apply State.modDoor_effect); decide +kernel)
    | (with_reducible assumption)
    | (with_reducible apply Effect.foldl <;> intros)
    | (with_reducible apply Effect.ite <;> intros)
    | (split)
    | (dsimp only))

theorem State.loseRef_effect (s a1) : Effect [.regs, .rooms, .sent, .attics, .wings, .modules, .links, .doors, .errRings, .wingLogs, .errInFlight, .ceWindows, .power, .live, .mailboxStudy] s (State.loseRef s a1) := by
  unfold State.loseRef
  repeat' (first
    | (with_reducible apply Effect.refl)
    | (with_reducible (apply Effect.next; apply State.powerError_effect); decide +kernel)
    | (with_reducible (apply Effect.next; apply State.modPower_effect); decide +kernel)
    | (with_reducible (apply Effect.next; apply State.resetModules_effect); decide +kernel)
    | (with_reducible (apply Effect.next; apply State.wingDown_effect); decide +kernel)
    | (with_reducible (apply Effect.next; apply State.porchLinksDown_effect); decide +kernel)
    | (with_reducible (apply Effect.next; apply State.dataLinkDown_effect); decide +kernel)
    | (with_reducible assumption)
    | (with_reducible apply Effect.foldl <;> intros)
    | (with_reducible apply Effect.ite <;> intros)
    | (split)
    | (dsimp only))

theorem execRefLoss_effect (a0 s) : EffectR [.regs, .rooms, .sent, .attics, .wings, .modules, .links, .doors, .errRings, .wingLogs, .errInFlight, .ceWindows, .power, .live, .mailboxStudy] s (execRefLoss a0 s) := by
  unfold execRefLoss
  repeat' (first
    | (with_reducible apply Effect.refl)
    | (with_reducible (apply Effect.next; apply State.loseRef_effect); decide +kernel)
    | (with_reducible apply EffectR.ready)
    | (with_reducible apply EffectR.next)
    | (with_reducible assumption)
    | (with_reducible apply Effect.foldl <;> intros)
    | (with_reducible apply Effect.ite <;> intros)
    | (with_reducible apply EffectR.ite <;> intros)
    | (split)
    | (dsimp only))

theorem execRefRelock_effect (a0 s) : EffectR [.now, .power] s (execRefRelock a0 s) := by
  unfold execRefRelock
  repeat' (first
    | (with_reducible apply Effect.refl)
    | (with_reducible (apply Effect.next; apply State.modPower_effect); decide +kernel)
    | (with_reducible (apply Effect.next; apply State.reach_effect); decide +kernel)
    | (with_reducible apply EffectR.ready)
    | (with_reducible apply EffectR.next)
    | (with_reducible assumption)
    | (with_reducible apply Effect.foldl <;> intros)
    | (with_reducible apply Effect.ite <;> intros)
    | (with_reducible apply EffectR.ite <;> intros)
    | (split)
    | (dsimp only))

end Sys2Proof.Machine
end

