-- ==== Sys2Proof/Laws/EffectDw.lean ====
section
/-! SUPPORT. What the operations and the meanings of Machine/Dw.lean can change: one lemma each. -/
-- The kernel decides the inclusions of each lemma before the next lemma starts.
set_option Elab.async false
set_option linter.all false
namespace Sys2Proof.Machine

theorem State.settleSq_effect (s a1) : Effect [.sqs] s (State.settleSq s a1) := by
  unfold State.settleSq
  repeat' (first
    | (with_reducible apply Effect.refl)
    | (with_reducible (apply Effect.next; apply State.modSq_effect); decide +kernel)
    | (with_reducible assumption)
    | (with_reducible apply Effect.foldl <;> intros)
    | (with_reducible apply Effect.ite <;> intros)
    | (split)
    | (dsimp only))

theorem State.complete_effect (s a1 a2 a3 a4 a5) : Effect [.sqs, .descs, .completions] s (State.complete s a1 a2 a3 a4 a5) := by
  unfold State.complete
  repeat' (first
    | ((conv => arg 3; arg 64); refine Effect.upd ?_ (by intro p hp; cases p <;> first | exact Bool.noConfusion hp | rfl))
    | (with_reducible apply Effect.refl)
    | (with_reducible (apply Effect.next; apply State.settleSq_effect); decide +kernel)
    | (with_reducible assumption)
    | (with_reducible apply Effect.foldl <;> intros)
    | (with_reducible apply Effect.ite <;> intros)
    | (split)
    | (dsimp only))

theorem State.dwNoteFail_effect (s a1 a2 a3) : Effect [.regs, .attics, .errRings, .wingLogs, .errInFlight, .ceWindows] s (State.dwNoteFail s a1 a2 a3) := by
  unfold State.dwNoteFail
  repeat' (first
    | (with_reducible apply Effect.refl)
    | (with_reducible (apply Effect.next; apply State.bankAccess_effect); decide +kernel)
    | (with_reducible (apply Effect.next; apply State.noteWalk_effect); decide +kernel)
    | (with_reducible assumption)
    | (with_reducible apply Effect.foldl <;> intros)
    | (with_reducible apply Effect.ite <;> intros)
    | (split)
    | (dsimp only))

theorem State.dwWriteRow_effect (s a1 a2 a3) : Effect [.free, .mem, .poison, .regs, .harts, .rooms, .attics, .dws, .errRings, .wingLogs, .errInFlight, .ceWindows, .guards] s (State.dwWriteRow s a1 a2 a3).1 := by
  unfold State.dwWriteRow
  repeat' (first
    | (with_reducible apply Effect.refl)
    | (with_reducible (apply Effect.next; apply State.storeAt_effect); decide +kernel)
    | (with_reducible (apply Effect.next; apply State.pwriteAll_effect); decide +kernel)
    | (with_reducible assumption)
    | (with_reducible apply Effect.foldl <;> intros)
    | (with_reducible apply Effect.foldlFst <;> intros)
    | (with_reducible apply Effect.ite <;> intros)
    | (with_reducible apply Effect.iteFst <;> intros)
    | (split)
    | (dsimp only))

theorem State.dwWriteRows_effect (s a1 a2) : Effect [.free, .mem, .poison, .regs, .harts, .rooms, .attics, .dws, .errRings, .wingLogs, .errInFlight, .ceWindows, .guards] s (State.dwWriteRows s a1 a2).1 := by
  unfold State.dwWriteRows
  repeat' (first
    | (with_reducible apply Effect.refl)
    | (with_reducible (apply Effect.next; apply State.dwWriteRow_effect); decide +kernel)
    | (with_reducible (apply Effect.next; apply Effect.fst; case e => assumption; apply State.dwWriteRow_effect); decide +kernel)
    | (with_reducible assumption)
    | (with_reducible apply Effect.foldl <;> intros)
    | (with_reducible apply Effect.foldlFst <;> intros)
    | (with_reducible apply Effect.ite <;> intros)
    | (with_reducible apply Effect.iteFst <;> intros)
    | (split)
    | (dsimp only))

theorem State.dwWritePart_effect (a0 a1) : Effect [.free, .mem, .poison, .regs, .harts, .rooms, .attics, .dws, .errRings, .wingLogs, .errInFlight, .ceWindows, .guards] (Prod.fst a0) (State.dwWritePart a0 a1).1 := by
  unfold State.dwWritePart
  repeat' (first
    | (with_reducible apply Effect.refl)
    | (with_reducible (apply Effect.next; apply State.storeAt_effect); decide +kernel)
    | (with_reducible (apply Effect.next; apply State.pwrite_effect); decide +kernel)
    | (with_reducible assumption)
    | (with_reducible apply Effect.foldl <;> intros)
    | (with_reducible apply Effect.foldlFst <;> intros)
    | (with_reducible apply Effect.ite <;> intros)
    | (with_reducible apply Effect.iteFst <;> intros)
    | (split)
    | (dsimp only))

theorem State.dwWriteSome_effect (s a1 a2 a3 a4) : Effect [.free, .mem, .poison, .regs, .harts, .rooms, .attics, .dws, .errRings, .wingLogs, .errInFlight, .ceWindows, .guards] s (State.dwWriteSome s a1 a2 a3 a4).1 := by
  unfold State.dwWriteSome
  repeat' (first
    | (with_reducible apply Effect.refl)
    | (with_reducible (apply Effect.next; apply State.dwWritePart_effect); decide +kernel)
    | (with_reducible (apply Effect.next; apply Effect.fst; case e => assumption; apply State.dwWritePart_effect); decide +kernel)
    | (with_reducible (apply Effect.next; apply State.bump_effect); decide +kernel)
    | (with_reducible (apply Effect.next; apply State.spoilKeys_effect); decide +kernel)
    | (with_reducible assumption)
    | (with_reducible apply Effect.foldl <;> intros)
    | (with_reducible apply Effect.foldlFst <;> intros)
    | (with_reducible apply Effect.ite <;> intros)
    | (with_reducible apply Effect.iteFst <;> intros)
    | (split)
    | (dsimp only))

theorem State.dwNoteReads_effect (s a1) : Effect [.attics] s (State.dwNoteReads s a1) := by
  unfold State.dwNoteReads
  repeat' (first
    | (with_reducible apply Effect.refl)
    | (with_reducible (apply Effect.next; apply State.noteView_effect); decide +kernel)
    | (with_reducible assumption)
    | (with_reducible apply Effect.foldl <;> intros)
    | (with_reducible apply Effect.ite <;> intros)
    | (split)
    | (dsimp only))

theorem State.dwData_effect (s a1 a2) : Effect [.free, .mem, .poison, .regs, .harts, .rooms, .attics, .dws, .errRings, .wingLogs, .errInFlight, .ceWindows, .guards] s (State.dwData s a1 a2) := by
  unfold State.dwData
  repeat' (first
    | (with_reducible apply Effect.refl)
    | (with_reducible (apply Effect.next; apply State.modDw_effect); decide +kernel)
    | (with_reducible (apply Effect.next; apply State.dwNoteFail_effect); decide +kernel)
    | (with_reducible (apply Effect.next; apply State.dwWriteSome_effect); decide +kernel)
    | (with_reducible (apply Effect.next; apply Effect.fst; case e => assumption; apply State.dwWriteSome_effect); decide +kernel)
    | (with_reducible (apply Effect.next; apply State.dwWriteRows_effect); decide +kernel)
    | (with_reducible (apply Effect.next; apply Effect.fst; case e => assumption; apply State.dwWriteRows_effect); decide +kernel)
    | (with_reducible (apply Effect.next; apply State.dwNoteReads_effect); decide +kernel)
    | (with_reducible (apply Effect.next; apply State.bump_effect); decide +kernel)
    | (with_reducible (apply Effect.next; apply State.spoilKeys_effect); decide +kernel)
    | (with_reducible assumption)
    | (with_reducible apply Effect.foldl <;> intros)
    | (with_reducible apply Effect.foldlFst <;> intros)
    | (with_reducible apply Effect.ite <;> intros)
    | (with_reducible apply Effect.iteFst <;> intros)
    | (split)
    | (dsimp only))

theorem execDwMove_effect (a0 s) : EffectR [.free, .mem, .poison, .regs, .harts, .rooms, .attics, .dws, .errRings, .wingLogs, .errInFlight, .ceWindows, .guards] s (execDwMove a0 s) := by
  unfold execDwMove dwRun
  repeat' (first
    | (with_reducible apply Effect.refl)
    | (with_reducible (apply Effect.next; apply State.dwData_effect); decide +kernel)
    | (with_reducible apply EffectR.ready)
    | (with_reducible apply EffectR.next)
    | (with_reducible assumption)
    | (with_reducible apply Effect.foldl <;> intros)
    | (with_reducible apply Effect.ite <;> intros)
    | (with_reducible apply EffectR.ite <;> intros)
    | (split)
    | (dsimp only [id]))

theorem execDwFill_effect (a0 s) : EffectR [.free, .mem, .poison, .regs, .harts, .rooms, .attics, .dws, .errRings, .wingLogs, .errInFlight, .ceWindows, .guards] s (execDwFill a0 s) := by
  unfold execDwFill dwRun
  repeat' (first
    | (with_reducible apply Effect.refl)
    | (with_reducible (apply Effect.next; apply State.dwData_effect); decide +kernel)
    | (with_reducible apply EffectR.ready)
    | (with_reducible apply EffectR.next)
    | (with_reducible assumption)
    | (with_reducible apply Effect.foldl <;> intros)
    | (with_reducible apply Effect.ite <;> intros)
    | (with_reducible apply EffectR.ite <;> intros)
    | (split)
    | (dsimp only [id]))

theorem execDwGather_effect (a0 s) : EffectR [.free, .mem, .poison, .regs, .harts, .rooms, .attics, .dws, .errRings, .wingLogs, .errInFlight, .ceWindows, .guards] s (execDwGather a0 s) := by
  unfold execDwGather dwRun
  repeat' (first
    | (with_reducible apply Effect.refl)
    | (with_reducible (apply Effect.next; apply State.dwData_effect); decide +kernel)
    | (with_reducible apply EffectR.ready)
    | (with_reducible apply EffectR.next)
    | (with_reducible assumption)
    | (with_reducible apply Effect.foldl <;> intros)
    | (with_reducible apply Effect.ite <;> intros)
    | (with_reducible apply EffectR.ite <;> intros)
    | (split)
    | (dsimp only [id]))

theorem execDwScatter_effect (a0 s) : EffectR [.free, .mem, .poison, .regs, .harts, .rooms, .attics, .dws, .errRings, .wingLogs, .errInFlight, .ceWindows, .guards] s (execDwScatter a0 s) := by
  unfold execDwScatter dwRun
  repeat' (first
    | (with_reducible apply Effect.refl)
    | (with_reducible (apply Effect.next; apply State.dwData_effect); decide +kernel)
    | (with_reducible apply EffectR.ready)
    | (with_reducible apply EffectR.next)
    | (with_reducible assumption)
    | (with_reducible apply Effect.foldl <;> intros)
    | (with_reducible apply Effect.ite <;> intros)
    | (with_reducible apply EffectR.ite <;> intros)
    | (split)
    | (dsimp only [id]))

theorem execDwLoop_effect (a0 s) : EffectR [.dws] s (execDwLoop a0 s) := by
  unfold execDwLoop dwRun
  repeat' (first
    | (with_reducible apply Effect.refl)
    | (with_reducible (apply Effect.next; apply State.modDw_effect); decide +kernel)
    | (with_reducible apply EffectR.ready)
    | (with_reducible apply EffectR.next)
    | (with_reducible assumption)
    | (with_reducible apply Effect.foldl <;> intros)
    | (with_reducible apply Effect.ite <;> intros)
    | (with_reducible apply EffectR.ite <;> intros)
    | (split)
    | (dsimp only [id]))

theorem execEndStep_effect (a0 s) : EffectR [.dws] s (execEndStep a0 s) := by
  unfold execEndStep dwRun
  repeat' (first
    | (with_reducible apply Effect.refl)
    | (with_reducible (apply Effect.next; apply State.modDw_effect); decide +kernel)
    | (with_reducible apply EffectR.ready)
    | (with_reducible apply EffectR.next)
    | (with_reducible assumption)
    | (with_reducible apply Effect.foldl <;> intros)
    | (with_reducible apply Effect.ite <;> intros)
    | (with_reducible apply EffectR.ite <;> intros)
    | (split)
    | (dsimp only [id]))

theorem State.dwWaitAt_effect (s a1 a2 a3) : Effect [.dws] s (State.dwWaitAt s a1 a2 a3) := by
  unfold State.dwWaitAt
  repeat' (first
    | (with_reducible apply Effect.refl)
    | (with_reducible (apply Effect.next; apply State.modDw_effect); decide +kernel)
    | (with_reducible assumption)
    | (with_reducible apply Effect.foldl <;> intros)
    | (with_reducible apply Effect.ite <;> intros)
    | (split)
    | (dsimp only))

theorem State.dwWaitStep_effect (s a1 a2) : Effect [.free, .regs, .attics, .dws, .errRings, .wingLogs, .errInFlight, .ceWindows] s (State.dwWaitStep s a1 a2) := by
  unfold State.dwWaitStep
  repeat' (first
    | (with_reducible apply Effect.refl)
    | (with_reducible (apply Effect.next; apply State.modDw_effect); decide +kernel)
    | (with_reducible (apply Effect.next; apply State.noteWalk_effect); decide +kernel)
    | (with_reducible (apply Effect.next; apply State.bump_effect); decide +kernel)
    | (with_reducible (apply Effect.next; apply State.dwWaitAt_effect); decide +kernel)
    | (with_reducible assumption)
    | (with_reducible apply Effect.foldl <;> intros)
    | (with_reducible apply Effect.ite <;> intros)
    | (split)
    | (dsimp only))

theorem execDwWait_effect (a0 s) : EffectR [.free, .regs, .attics, .dws, .errRings, .wingLogs, .errInFlight, .ceWindows] s (execDwWait a0 s) := by
  unfold execDwWait dwRun
  repeat' (first
    | (with_reducible apply Effect.refl)
    | (with_reducible (apply Effect.next; apply State.dwWaitStep_effect); decide +kernel)
    | (with_reducible apply EffectR.ready)
    | (with_reducible apply EffectR.next)
    | (with_reducible assumption)
    | (with_reducible apply Effect.foldl <;> intros)
    | (with_reducible apply Effect.ite <;> intros)
    | (with_reducible apply EffectR.ite <;> intros)
    | (split)
    | (dsimp only [id]))

theorem execDwWaitMet_effect (a0 s) : EffectR [.dws] s (execDwWaitMet a0 s) := by
  unfold execDwWaitMet
  repeat' (first
    | (with_reducible apply Effect.refl)
    | (with_reducible (apply Effect.next; apply State.modDw_effect); decide +kernel)
    | (with_reducible apply EffectR.ready)
    | (with_reducible apply EffectR.next)
    | (with_reducible assumption)
    | (with_reducible apply Effect.foldl <;> intros)
    | (with_reducible apply Effect.ite <;> intros)
    | (with_reducible apply EffectR.ite <;> intros)
    | (split)
    | (dsimp only))

theorem execDwWaitTimeout_effect (a0 s) : EffectR [.now, .dws] s (execDwWaitTimeout a0 s) := by
  unfold execDwWaitTimeout
  repeat' (first
    | (with_reducible apply Effect.refl)
    | (with_reducible (apply Effect.next; apply State.modDw_effect); decide +kernel)
    | (with_reducible (apply Effect.next; apply State.reach_effect); decide +kernel)
    | (with_reducible apply EffectR.ready)
    | (with_reducible apply EffectR.next)
    | (with_reducible assumption)
    | (with_reducible apply Effect.foldl <;> intros)
    | (with_reducible apply Effect.ite <;> intros)
    | (with_reducible apply EffectR.ite <;> intros)
    | (split)
    | (dsimp only))

theorem State.dwSignalAt_effect (s a1 a2 a3 a4) : Effect [.free, .mem, .poison, .regs, .harts, .rooms, .attics, .dws, .errRings, .wingLogs, .errInFlight, .ceWindows, .guards] s (State.dwSignalAt s a1 a2 a3 a4) := by
  unfold State.dwSignalAt
  repeat' (first
    | (with_reducible apply Effect.refl)
    | (with_reducible (apply Effect.next; apply State.bump_effect); decide +kernel)
    | (with_reducible (apply Effect.next; apply State.modDw_effect); decide +kernel)
    | (with_reducible (apply Effect.next; apply State.atomicPerform_effect); decide +kernel)
    | (with_reducible (apply Effect.next; apply State.afterRead_effect); decide +kernel)
    | (with_reducible assumption)
    | (with_reducible apply Effect.foldl <;> intros)
    | (with_reducible apply Effect.ite <;> intros)
    | (split)
    | (dsimp only))

theorem State.dwSignalStep_effect (s a1 a2) : Effect [.free, .mem, .poison, .regs, .harts, .rooms, .attics, .dws, .errRings, .wingLogs, .errInFlight, .ceWindows, .guards] s (State.dwSignalStep s a1 a2) := by
  unfold State.dwSignalStep
  repeat' (first
    | (with_reducible apply Effect.refl)
    | (with_reducible (apply Effect.next; apply State.modDw_effect); decide +kernel)
    | (with_reducible (apply Effect.next; apply State.dwNoteFail_effect); decide +kernel)
    | (with_reducible (apply Effect.next; apply State.dwSignalAt_effect); decide +kernel)
    | (with_reducible (apply Effect.next; apply State.bump_effect); decide +kernel)
    | (with_reducible (apply Effect.next; apply State.spoilKeys_effect); decide +kernel)
    | (with_reducible assumption)
    | (with_reducible apply Effect.foldl <;> intros)
    | (with_reducible apply Effect.ite <;> intros)
    | (split)
    | (dsimp only))

theorem execDwSignal_effect (a0 s) : EffectR [.free, .mem, .poison, .regs, .harts, .rooms, .attics, .dws, .errRings, .wingLogs, .errInFlight, .ceWindows, .guards] s (execDwSignal a0 s) := by
  unfold execDwSignal dwRun
  repeat' (first
    | (with_reducible apply Effect.refl)
    | (with_reducible (apply Effect.next; apply State.dwSignalStep_effect); decide +kernel)
    | (with_reducible apply EffectR.ready)
    | (with_reducible apply EffectR.next)
    | (with_reducible assumption)
    | (with_reducible apply Effect.foldl <;> intros)
    | (with_reducible apply Effect.ite <;> intros)
    | (with_reducible apply EffectR.ite <;> intros)
    | (split)
    | (dsimp only [id]))

theorem State.dwLeave_effect (s a1 a2) : Effect [.mem, .poison, .regs, .harts, .dws, .guards] s (State.dwLeave s a1 a2) := by
  unfold State.dwLeave
  repeat' (first
    | (with_reducible apply Effect.refl)
    | (with_reducible (apply Effect.next; apply State.setRegN_effect); decide +kernel)
    | (with_reducible (apply Effect.next; apply State.writePantry_effect); decide +kernel)
    | (with_reducible (apply Effect.next; apply State.modDw_effect); decide +kernel)
    | (with_reducible (apply Effect.next; apply State.dropGuard_effect); decide +kernel)
    | (with_reducible (apply Effect.next; apply State.bumpCount_effect); decide +kernel)
    | (with_reducible assumption)
    | (with_reducible apply Effect.foldl <;> intros)
    | (with_reducible apply Effect.ite <;> intros)
    | (split)
    | (dsimp only))

theorem State.dwDrain_effect (a0 a1 s) : Effect [.mem, .poison, .regs, .harts, .dws, .dwOrder, .guards] s (State.dwDrain a0 a1 s) := by
  induction a0 generalizing a1 s with
  | zero => exact Effect.refl _ _
  | succ f ih =>
    unfold State.dwDrain
    repeat' (first
      | (with_reducible (apply Effect.next; apply ih); decide +kernel)
      | ((conv => arg 3; arg 64); refine Effect.upd ?_ (by intro p hp; cases p <;> first | exact Bool.noConfusion hp | rfl))
      | (with_reducible apply Effect.refl)
      | (with_reducible (apply Effect.next; apply State.dwLeave_effect); decide +kernel)
      | (with_reducible assumption)
      | (with_reducible apply Effect.foldl <;> intros)
      | (with_reducible apply Effect.ite <;> intros)
      | (split)
      | (dsimp only))

theorem State.dwDoorDone_effect (s a1 a2 a3 a4) : Effect [.dws, .sqs, .descs, .completions] s (State.dwDoorDone s a1 a2 a3 a4) := by
  unfold State.dwDoorDone
  repeat' (first
    | (with_reducible apply Effect.refl)
    | (with_reducible (apply Effect.next; apply State.modDw_effect); decide +kernel)
    | (with_reducible (apply Effect.next; apply State.complete_effect); decide +kernel)
    | (with_reducible assumption)
    | (with_reducible apply Effect.foldl <;> intros)
    | (with_reducible apply Effect.ite <;> intros)
    | (split)
    | (dsimp only))

theorem State.freeChan_effect (s a1) : Effect [.dws] s (State.freeChan s a1) := by
  unfold State.freeChan
  repeat' (first
    | (with_reducible apply Effect.refl)
    | (with_reducible (apply Effect.next; apply State.modDw_effect); decide +kernel)
    | (with_reducible assumption)
    | (with_reducible apply Effect.foldl <;> intros)
    | (with_reducible apply Effect.ite <;> intros)
    | (split)
    | (dsimp only))

theorem State.dwPostFail_effect (s a1 a2 a3) : Effect [.regs, .attics, .errRings, .wingLogs, .errInFlight, .ceWindows] s (State.dwPostFail s a1 a2 a3) := by
  unfold State.dwPostFail
  repeat' (first
    | (with_reducible apply Effect.refl)
    | (with_reducible (apply Effect.next; apply State.postDie_effect); decide +kernel)
    | (with_reducible (apply Effect.next; apply State.post_effect); decide +kernel)
    | (with_reducible assumption)
    | (with_reducible apply Effect.foldl <;> intros)
    | (with_reducible apply Effect.ite <;> intros)
    | (split)
    | (dsimp only))

theorem State.dwFinish_effect (s a1 a2 a3 a4 a5) : Effect [.mem, .poison, .regs, .harts, .attics, .dws, .dwOrder, .sqs, .descs, .completions, .errRings, .wingLogs, .errInFlight, .ceWindows, .guards] s (State.dwFinish s a1 a2 a3 a4 a5) := by
  unfold State.dwFinish
  repeat' (first
    | ((conv => arg 3; arg 64); refine Effect.upd ?_ (by intro p hp; cases p <;> first | exact Bool.noConfusion hp | rfl))
    | (with_reducible apply Effect.refl)
    | (with_reducible (apply Effect.next; apply State.dwPostFail_effect); decide +kernel)
    | (with_reducible (apply Effect.next; apply State.dwDoorDone_effect); decide +kernel)
    | (with_reducible (apply Effect.next; apply State.modDw_effect); decide +kernel)
    | (with_reducible (apply Effect.next; apply State.dwDrain_effect); decide +kernel)
    | (with_reducible assumption)
    | (with_reducible apply Effect.foldl <;> intros)
    | (with_reducible apply Effect.ite <;> intros)
    | (split)
    | (dsimp only))

theorem dwEnded_effect (a0 a1 s) : EffectR [.mem, .poison, .regs, .harts, .attics, .dws, .dwOrder, .sqs, .descs, .completions, .errRings, .wingLogs, .errInFlight, .ceWindows, .guards] s (dwEnded a0 a1 s) := by
  unfold dwEnded
  repeat' (first
    | (with_reducible apply Effect.refl)
    | (with_reducible (apply Effect.next; apply State.dwFinish_effect); decide +kernel)
    | (with_reducible apply EffectR.ready)
    | (with_reducible apply EffectR.next)
    | (with_reducible assumption)
    | (with_reducible apply Effect.foldl <;> intros)
    | (with_reducible apply Effect.ite <;> intros)
    | (with_reducible apply EffectR.ite <;> intros)
    | (split)
    | (dsimp only))

theorem execDwProgramComplete_effect (a0 s) : EffectR [.mem, .poison, .regs, .harts, .attics, .dws, .dwOrder, .sqs, .descs, .completions, .errRings, .wingLogs, .errInFlight, .ceWindows, .guards] s (execDwProgramComplete a0 s) := by
  unfold execDwProgramComplete
  repeat' (first
    | (with_reducible apply Effect.refl)
    | (with_reducible (apply EffectR.after; apply dwEnded_effect); decide +kernel)
    | (with_reducible apply EffectR.ready)
    | (with_reducible apply EffectR.next)
    | (with_reducible assumption)
    | (with_reducible apply Effect.foldl <;> intros)
    | (with_reducible apply Effect.ite <;> intros)
    | (with_reducible apply EffectR.ite <;> intros)
    | (split)
    | (dsimp only))

theorem execDwProgramError_effect (a0 s) : EffectR [.mem, .poison, .regs, .harts, .attics, .dws, .dwOrder, .sqs, .descs, .completions, .errRings, .wingLogs, .errInFlight, .ceWindows, .guards] s (execDwProgramError a0 s) := by
  unfold execDwProgramError
  repeat' (first
    | (with_reducible apply Effect.refl)
    | (with_reducible (apply EffectR.after; apply dwEnded_effect); decide +kernel)
    | (with_reducible (apply Effect.next; apply State.modDw_effect); decide +kernel)
    | (with_reducible apply EffectR.ready)
    | (with_reducible apply EffectR.next)
    | (with_reducible assumption)
    | (with_reducible apply Effect.foldl <;> intros)
    | (with_reducible apply Effect.ite <;> intros)
    | (with_reducible apply EffectR.ite <;> intros)
    | (split)
    | (dsimp only))

theorem execDwProgramStart_effect (a0 s) : EffectR [.dws] s (execDwProgramStart a0 s) := by
  unfold execDwProgramStart
  repeat' (first
    | (with_reducible apply Effect.refl)
    | (with_reducible (apply Effect.next; apply State.modDw_effect); decide +kernel)
    | (with_reducible apply EffectR.ready)
    | (with_reducible apply EffectR.next)
    | (with_reducible assumption)
    | (with_reducible apply Effect.foldl <;> intros)
    | (with_reducible apply Effect.ite <;> intros)
    | (with_reducible apply EffectR.ite <;> intros)
    | (split)
    | (dsimp only))

theorem State.dwAbort_effect (a0 a1 s) : Effect [.mem, .poison, .regs, .harts, .attics, .dws, .dwOrder, .sqs, .descs, .completions, .errRings, .wingLogs, .errInFlight, .ceWindows, .guards] s (State.dwAbort a0 a1 s) := by
  induction a0 generalizing a1 s with
  | zero => exact Effect.refl _ _
  | succ f ih =>
    unfold State.dwAbort
    repeat' (first
      | (with_reducible (apply Effect.next; apply ih); decide +kernel)
      | (with_reducible apply Effect.refl)
      | (with_reducible (apply Effect.next; apply State.dwFinish_effect); decide +kernel)
      | (with_reducible assumption)
      | (with_reducible apply Effect.foldl <;> intros)
      | (with_reducible apply Effect.ite <;> intros)
      | (split)
      | (dsimp only))

theorem State.dwCut_effect (s a1) : Effect [.free, .mem, .poison, .regs, .harts, .rooms, .attics, .dws, .errRings, .wingLogs, .errInFlight, .ceWindows, .guards] s (State.dwCut s a1) := by
  unfold State.dwCut
  repeat' (first
    | (with_reducible apply Effect.refl)
    | (with_reducible (apply Effect.next; apply State.bump_effect); decide +kernel)
    | (with_reducible (apply Effect.next; apply State.modDw_effect); decide +kernel)
    | (with_reducible (apply Effect.next; apply State.dwSignalStep_effect); decide +kernel)
    | (with_reducible (apply Effect.next; apply State.dwWriteSome_effect); decide +kernel)
    | (with_reducible (apply Effect.next; apply Effect.fst; case e => assumption; apply State.dwWriteSome_effect); decide +kernel)
    | (with_reducible assumption)
    | (with_reducible apply Effect.foldl <;> intros)
    | (with_reducible apply Effect.foldlFst <;> intros)
    | (with_reducible apply Effect.ite <;> intros)
    | (with_reducible apply Effect.iteFst <;> intros)
    | (split)
    | (dsimp only))

theorem State.dwFinishStep_effect (s a1) : Effect [.free, .mem, .poison, .regs, .harts, .rooms, .attics, .dws, .errRings, .wingLogs, .errInFlight, .ceWindows, .guards] s (State.dwFinishStep s a1) := by
  unfold State.dwFinishStep
  repeat' (first
    | (with_reducible apply Effect.refl)
    | (with_reducible (apply Effect.next; apply State.bump_effect); decide +kernel)
    | (with_reducible (apply Effect.next; apply State.dwData_effect); decide +kernel)
    | (with_reducible (apply Effect.next; apply State.modDw_effect); decide +kernel)
    | (with_reducible (apply Effect.next; apply State.dwSignalStep_effect); decide +kernel)
    | (with_reducible assumption)
    | (with_reducible apply Effect.foldl <;> intros)
    | (with_reducible apply Effect.ite <;> intros)
    | (split)
    | (dsimp only))

theorem State.dwFlush_effect (s a1) : Effect [.mem, .poison, .regs, .harts, .attics, .dws, .dwOrder, .sqs, .descs, .completions, .errRings, .wingLogs, .errInFlight, .ceWindows, .guards] s (State.dwFlush s a1) := by
  unfold State.dwFlush
  repeat' (first
    | (with_reducible apply Effect.refl)
    | (with_reducible (apply Effect.next; apply State.dwAbort_effect); decide +kernel)
    | (with_reducible (apply Effect.next; apply State.modDw_effect); decide +kernel)
    | (with_reducible assumption)
    | (with_reducible apply Effect.foldl <;> intros)
    | (with_reducible apply Effect.ite <;> intros)
    | (split)
    | (dsimp only))

theorem execDwFlush_effect (a0 a1 s) : EffectR [.free, .mem, .poison, .regs, .harts, .rooms, .attics, .dws, .dwOrder, .sqs, .descs, .completions, .errRings, .wingLogs, .errInFlight, .ceWindows, .guards] s (execDwFlush a0 a1 s) := by
  unfold execDwFlush
  repeat' (first
    | (with_reducible apply Effect.refl)
    | (with_reducible (apply Effect.next; apply State.dwFlush_effect); decide +kernel)
    | (with_reducible (apply Effect.next; apply State.dwCut_effect); decide +kernel)
    | (with_reducible apply EffectR.ready)
    | (with_reducible apply EffectR.next)
    | (with_reducible assumption)
    | (with_reducible apply Effect.foldl <;> intros)
    | (with_reducible apply Effect.ite <;> intros)
    | (with_reducible apply EffectR.ite <;> intros)
    | (split)
    | (dsimp only))

theorem State.dwRestart_effect (s a1) : Effect [.dws] s (State.dwRestart s a1) := by
  unfold State.dwRestart
  repeat' (first
    | (with_reducible apply Effect.refl)
    | (with_reducible (apply Effect.next; apply State.modDw_effect); decide +kernel)
    | (with_reducible assumption)
    | (with_reducible apply Effect.foldl <;> intros)
    | (with_reducible apply Effect.ite <;> intros)
    | (split)
    | (dsimp only))

theorem execDwRestart_effect (a0 a1 s) : EffectR [.dws] s (execDwRestart a0 a1 s) := by
  unfold execDwRestart
  repeat' (first
    | (with_reducible apply Effect.refl)
    | (with_reducible (apply Effect.next; apply State.dwRestart_effect); decide +kernel)
    | (with_reducible apply EffectR.ready)
    | (with_reducible apply EffectR.next)
    | (with_reducible assumption)
    | (with_reducible apply Effect.foldl <;> intros)
    | (with_reducible apply Effect.ite <;> intros)
    | (with_reducible apply EffectR.ite <;> intros)
    | (split)
    | (dsimp only))

theorem State.dwStopRoom_effect (s a1) : Effect [.free, .mem, .poison, .regs, .harts, .rooms, .attics, .dws, .dwOrder, .sqs, .descs, .completions, .errRings, .wingLogs, .errInFlight, .ceWindows, .guards] s (State.dwStopRoom s a1) := by
  unfold State.dwStopRoom
  repeat' (first
    | (with_reducible apply Effect.refl)
    | (with_reducible (apply Effect.next; apply State.dwFlush_effect); decide +kernel)
    | (with_reducible (apply Effect.next; apply State.dwFinishStep_effect); decide +kernel)
    | (with_reducible assumption)
    | (with_reducible apply Effect.foldl <;> intros)
    | (with_reducible apply Effect.ite <;> intros)
    | (split)
    | (dsimp only))

theorem State.dwConsWrite_effect (s a1 a2) : Effect [.mem, .poison, .regs, .harts, .dws, .dwOrder, .guards] s (State.dwConsWrite s a1 a2) := by
  unfold State.dwConsWrite
  repeat' (first
    | (with_reducible apply Effect.refl)
    | (with_reducible (apply Effect.next; apply State.dwDrain_effect); decide +kernel)
    | (with_reducible (apply Effect.next; apply State.setRegN_effect); decide +kernel)
    | (with_reducible assumption)
    | (with_reducible apply Effect.foldl <;> intros)
    | (with_reducible apply Effect.ite <;> intros)
    | (split)
    | (dsimp only))

theorem execDwCqConsWrite_effect (a0 a1 s) : EffectR [.mem, .poison, .regs, .harts, .dws, .dwOrder, .guards] s (execDwCqConsWrite a0 a1 s) := by
  unfold execDwCqConsWrite
  repeat' (first
    | (with_reducible apply Effect.refl)
    | (with_reducible (apply Effect.next; apply State.dwConsWrite_effect); decide +kernel)
    | (with_reducible apply EffectR.ready)
    | (with_reducible apply EffectR.next)
    | (with_reducible assumption)
    | (with_reducible apply Effect.foldl <;> intros)
    | (with_reducible apply Effect.ite <;> intros)
    | (with_reducible apply EffectR.ite <;> intros)
    | (split)
    | (dsimp only))

theorem State.dwCfgWrite_effect (s a1 a2 a3) : Effect [.regs] s (State.dwCfgWrite s a1 a2 a3) := by
  unfold State.dwCfgWrite
  repeat' (first
    | (with_reducible apply Effect.refl)
    | (with_reducible (apply Effect.next; apply State.writeReg_effect); decide +kernel)
    | (with_reducible assumption)
    | (with_reducible apply Effect.foldl <;> intros)
    | (with_reducible apply Effect.ite <;> intros)
    | (split)
    | (dsimp only))

theorem execDwCqCfgWrite_effect (a0 a1 a2 s) : EffectR [.regs] s (execDwCqCfgWrite a0 a1 a2 s) := by
  unfold execDwCqCfgWrite
  repeat' (first
    | (with_reducible apply Effect.refl)
    | (with_reducible (apply Effect.next; apply State.dwCfgWrite_effect); decide +kernel)
    | (with_reducible apply EffectR.ready)
    | (with_reducible apply EffectR.next)
    | (with_reducible assumption)
    | (with_reducible apply Effect.foldl <;> intros)
    | (with_reducible apply Effect.ite <;> intros)
    | (with_reducible apply EffectR.ite <;> intros)
    | (split)
    | (dsimp only))

theorem State.dwCtrlWrite_effect (s a1 a2) : Effect [.free, .mem, .poison, .regs, .harts, .rooms, .attics, .dws, .dwOrder, .sqs, .descs, .completions, .errRings, .wingLogs, .errInFlight, .ceWindows, .guards] s (State.dwCtrlWrite s a1 a2) := by
  unfold State.dwCtrlWrite
  repeat' (first
    | (with_reducible apply Effect.refl)
    | (with_reducible (apply Effect.next; apply State.dwRestart_effect); decide +kernel)
    | (with_reducible (apply Effect.next; apply State.dwFlush_effect); decide +kernel)
    | (with_reducible (apply Effect.next; apply State.dwCut_effect); decide +kernel)
    | (with_reducible assumption)
    | (with_reducible apply Effect.foldl <;> intros)
    | (with_reducible apply Effect.ite <;> intros)
    | (split)
    | (dsimp only))

end Sys2Proof.Machine
end

