-- ==== Sys2Proof/Laws/EffectAttn.lean ====
section
/-! SUPPORT. What the operations and the meanings of Machine/Attn.lean can change: one lemma each. -/
-- The kernel decides the inclusions of each lemma before the next lemma starts.
set_option Elab.async false
set_option linter.all false
namespace Sys2Proof.Machine

theorem State.noteSeq_effect (s a1 a2 a3) : Effect [.free, .regs, .attics, .errRings, .wingLogs, .errInFlight, .ceWindows] s (State.noteSeq s a1 a2 a3) := by
  unfold State.noteSeq
  repeat' (first
    | (with_reducible apply Effect.refl)
    | (with_reducible (apply Effect.next; apply State.noteWalk_effect); decide +kernel)
    | (with_reducible (apply Effect.next; apply State.afterRead_effect); decide +kernel)
    | (with_reducible assumption)
    | (with_reducible apply Effect.foldl <;> intros)
    | (with_reducible apply Effect.ite <;> intros)
    | (split)
    | (dsimp only))

theorem State.noteSeqs_effect (s a1 a2) : Effect [.free, .regs, .attics, .errRings, .wingLogs, .errInFlight, .ceWindows] s (State.noteSeqs s a1 a2) := by
  unfold State.noteSeqs
  repeat' (first
    | (with_reducible apply Effect.refl)
    | (with_reducible (apply Effect.next; apply State.noteSeq_effect); decide +kernel)
    | (with_reducible assumption)
    | (with_reducible apply Effect.foldl <;> intros)
    | (with_reducible apply Effect.ite <;> intros)
    | (split)
    | (dsimp only))

theorem State.attnDispatch_effect (s a1 a2 a3) : Effect [.free, .regs, .rooms, .attics, .avus, .errRings, .wingLogs, .errInFlight, .ceWindows, .guards] s (State.attnDispatch s a1 a2 a3) := by
  unfold State.attnDispatch
  repeat' (first
    | (with_reducible apply Effect.refl)
    | (with_reducible (apply Effect.next; apply State.avuReject_effect); decide +kernel)
    | (with_reducible (apply Effect.next; apply State.noteSeqs_effect); decide +kernel)
    | (with_reducible (apply Effect.next; apply State.moveGuard_effect); decide +kernel)
    | (with_reducible (apply Effect.next; apply State.setAvuCmd_effect); decide +kernel)
    | (with_reducible (apply Effect.next; apply State.fillAll_effect); decide +kernel)
    | (with_reducible assumption)
    | (with_reducible apply Effect.foldl <;> intros)
    | (with_reducible apply Effect.ite <;> intros)
    | (split)
    | (dsimp only))

theorem execAttnDispatch_effect (a0 s) : EffectR [.free, .regs, .rooms, .attics, .avus, .errRings, .wingLogs, .errInFlight, .ceWindows, .guards] s (execAttnDispatch a0 s) := by
  unfold execAttnDispatch
  repeat' (first
    | (with_reducible apply Effect.refl)
    | (with_reducible (apply Effect.next; apply State.avuReject_effect); decide +kernel)
    | (with_reducible (apply Effect.next; apply State.attnDispatch_effect); decide +kernel)
    | (with_reducible apply EffectR.ready)
    | (with_reducible apply EffectR.next)
    | (with_reducible assumption)
    | (with_reducible apply Effect.foldl <;> intros)
    | (with_reducible apply Effect.ite <;> intros)
    | (with_reducible apply EffectR.ite <;> intros)
    | (split)
    | (dsimp only))

theorem execSzAvu_effect (a0 a1 s) : EffectR [.free, .regs, .harts, .rooms, .attics, .avus, .errRings, .wingLogs, .errInFlight, .ceWindows, .guards] s (execSzAvu a0 a1 s) := by
  unfold execSzAvu szRun State.withDescriptor
  repeat' (first
    | (with_reducible apply Effect.refl)
    | (with_reducible (apply Effect.next; apply State.endWfi_effect); decide +kernel)
    | (with_reducible (apply Effect.next; apply State.issued_effect); decide +kernel)
    | (with_reducible (apply Effect.next; apply State.trap_effect); decide +kernel)
    | (with_reducible (apply Effect.next; apply State.result_effect); decide +kernel)
    | (with_reducible (apply Effect.next; apply State.modAvu_effect); decide +kernel)
    | (with_reducible (apply Effect.next; apply State.guardSeqs_effect); decide +kernel)
    | (with_reducible (apply Effect.next; apply State.setGuard_effect); decide +kernel)
    | (with_reducible (apply Effect.next; apply State.readDescriptor_effect; assumption); decide +kernel)
    | (with_reducible (apply Effect.next; apply State.readDescriptor_trapEffect; assumption); decide +kernel)
    | (with_reducible apply EffectR.ready)
    | (with_reducible apply EffectR.next)
    | (with_reducible assumption)
    | (with_reducible apply Effect.foldl <;> intros)
    | (with_reducible apply Effect.ite <;> intros)
    | (with_reducible apply EffectR.ite <;> intros)
    | (split)
    | (dsimp only [id]))

theorem State.attnBlock_effect (s a1 a2 a3 a4 a5) : Effect [.free, .regs, .avus] s (State.attnBlock s a1 a2 a3 a4 a5) := by
  unfold State.attnBlock
  repeat' (first
    | (with_reducible apply Effect.refl)
    | (with_reducible (apply Effect.next; apply State.bump_effect); decide +kernel)
    | (with_reducible (apply Effect.next; apply State.setAvuCmd_effect); decide +kernel)
    | (with_reducible (apply Effect.next; apply State.bumpReg_effect); decide +kernel)
    | (with_reducible assumption)
    | (with_reducible apply Effect.foldl <;> intros)
    | (with_reducible apply Effect.ite <;> intros)
    | (split)
    | (dsimp only))

theorem execAvuAttnBlock_effect (a0 a1 s) : EffectR [.free, .poison, .regs, .attics, .avus, .errRings, .wingLogs, .errInFlight, .ceWindows] s (execAvuAttnBlock a0 a1 s) := by
  unfold execAvuAttnBlock
  repeat' (first
    | (with_reducible apply Effect.refl)
    | (with_reducible (apply Effect.next; apply State.attnBlock_effect); decide +kernel)
    | (with_reducible (apply Effect.next; apply State.avuFaults_effect); decide +kernel)
    | (with_reducible apply EffectR.ready)
    | (with_reducible apply EffectR.next)
    | (with_reducible assumption)
    | (with_reducible apply Effect.foldl <;> intros)
    | (with_reducible apply Effect.ite <;> intros)
    | (with_reducible apply EffectR.ite <;> intros)
    | (split)
    | (dsimp only))

theorem State.mergeRow_effect (s a1 a2 a3 a4 a5 a6 a7) : Effect [.free, .mem, .poison, .harts, .avus, .dws] s (State.mergeRow s a1 a2 a3 a4 a5 a6 a7) := by
  unfold State.mergeRow
  repeat' (first
    | (with_reducible apply Effect.refl)
    | (with_reducible (apply Effect.next; apply State.bump_effect); decide +kernel)
    | (with_reducible (apply Effect.next; apply State.setAvuCmd_effect); decide +kernel)
    | (with_reducible (apply Effect.next; apply State.writePantry_effect); decide +kernel)
    | (with_reducible assumption)
    | (with_reducible apply Effect.foldl <;> intros)
    | (with_reducible apply Effect.ite <;> intros)
    | (split)
    | (dsimp only))

theorem execMergeUnitRecord_effect (a0 a1 a2 s) : EffectR [.free, .mem, .poison, .harts, .avus, .dws] s (execMergeUnitRecord a0 a1 a2 s) := by
  unfold execMergeUnitRecord
  repeat' (first
    | (with_reducible apply Effect.refl)
    | (with_reducible (apply Effect.next; apply State.mergeRow_effect); decide +kernel)
    | (with_reducible apply EffectR.ready)
    | (with_reducible apply EffectR.next)
    | (with_reducible assumption)
    | (with_reducible apply Effect.foldl <;> intros)
    | (with_reducible apply Effect.ite <;> intros)
    | (with_reducible apply EffectR.ite <;> intros)
    | (split)
    | (dsimp only))

theorem State.attnSettle_effect (s a1 a2) : Effect [.free, .mem, .poison] s (State.attnSettle s a1 a2).1 := by
  unfold State.attnSettle
  repeat' (first
    | (with_reducible apply Effect.refl)
    | (with_reducible (apply Effect.next; apply State.bump_effect); decide +kernel)
    | (with_reducible (apply Effect.next; apply State.spoilRanges_effect); decide +kernel)
    | (with_reducible assumption)
    | (with_reducible apply Effect.foldl <;> intros)
    | (with_reducible apply Effect.foldlFst <;> intros)
    | (with_reducible apply Effect.ite <;> intros)
    | (with_reducible apply Effect.iteFst <;> intros)
    | (split)
    | (dsimp only))

theorem State.avuSettle_effect (s a1 a2) : Effect [.free, .mem, .poison, .avus] s (State.avuSettle s a1 a2).1 := by
  unfold State.avuSettle
  repeat' (first
    | (with_reducible apply Effect.refl)
    | (with_reducible (apply Effect.next; apply State.attnSettle_effect); decide +kernel)
    | (with_reducible (apply Effect.next; apply Effect.fst; case e => assumption; apply State.attnSettle_effect); decide +kernel)
    | (with_reducible (apply Effect.next; apply State.avuTaint_effect); decide +kernel)
    | (with_reducible (apply Effect.next; apply State.avuSpoil_effect); decide +kernel)
    | (with_reducible assumption)
    | (with_reducible apply Effect.foldl <;> intros)
    | (with_reducible apply Effect.foldlFst <;> intros)
    | (with_reducible apply Effect.ite <;> intros)
    | (with_reducible apply Effect.iteFst <;> intros)
    | (split)
    | (dsimp only))

theorem execAvuCommandComplete_effect (a0 s) : EffectR [.free, .mem, .poison, .regs, .harts, .avus, .dws, .guards] s (execAvuCommandComplete a0 s) := by
  unfold execAvuCommandComplete
  repeat' (first
    | (with_reducible apply Effect.refl)
    | (with_reducible (apply Effect.next; apply State.avuFinish_effect); decide +kernel)
    | (with_reducible (apply Effect.next; apply State.avuSettle_effect); decide +kernel)
    | (with_reducible (apply Effect.next; apply Effect.fst; case e => assumption; apply State.avuSettle_effect); decide +kernel)
    | (with_reducible apply EffectR.ready)
    | (with_reducible apply EffectR.next)
    | (with_reducible assumption)
    | (with_reducible apply Effect.foldl <;> intros)
    | (with_reducible apply Effect.foldlFst <;> intros)
    | (with_reducible apply Effect.ite <;> intros)
    | (with_reducible apply Effect.iteFst <;> intros)
    | (with_reducible apply EffectR.ite <;> intros)
    | (split)
    | (dsimp only))

end Sys2Proof.Machine
end

