-- ==== Sys2Proof/Laws/EffectTree.lean ====
section
/-! SUPPORT. What the operations and the meanings of Machine/Tree.lean can change: one lemma each. -/
-- The kernel decides the inclusions of each lemma before the next lemma starts.
set_option Elab.async false
set_option linter.all false
namespace Sys2Proof.Machine

theorem State.treeNote_effect (s a1 a2) : Effect [.free, .regs, .attics, .errRings, .wingLogs, .errInFlight, .ceWindows] s (State.treeNote s a1 a2) := by
  unfold State.treeNote
  repeat' (first
    | (with_reducible apply Effect.refl)
    | (with_reducible (apply Effect.next; apply State.noteSeq_effect); decide +kernel)
    | (with_reducible assumption)
    | (with_reducible apply Effect.foldl <;> intros)
    | (with_reducible apply Effect.ite <;> intros)
    | (split)
    | (dsimp only))

theorem State.treePrep_effect (s a1 a2 a3 a4 a5) : Effect [.free, .mem, .poison, .regs, .harts, .rooms, .attics, .dws, .errRings, .wingLogs, .errInFlight, .ceWindows] s (State.treePrep s a1 a2 a3 a4 a5).1 := by
  unfold State.treePrep
  repeat' (first
    | (with_reducible apply Effect.refl)
    | (with_reducible (apply Effect.next; apply State.pwrite_effect); decide +kernel)
    | (with_reducible (apply Effect.next; apply State.memWrite_effect); decide +kernel)
    | (with_reducible assumption)
    | (with_reducible apply Effect.foldl <;> intros)
    | (with_reducible apply Effect.foldlFst <;> intros)
    | (with_reducible apply Effect.ite <;> intros)
    | (with_reducible apply Effect.iteFst <;> intros)
    | (split)
    | (dsimp only))

theorem State.treeKvput_effect (s a1 a2 a3 a4) : Effect [.free, .mem, .poison, .regs, .harts, .rooms, .attics, .dws, .errRings, .wingLogs, .errInFlight, .ceWindows] s (State.treeKvput s a1 a2 a3 a4).1 := by
  unfold State.treeKvput
  repeat' (first
    | (with_reducible apply Effect.refl)
    | (with_reducible (apply Effect.next; apply State.pwrite_effect); decide +kernel)
    | (with_reducible assumption)
    | (with_reducible apply Effect.foldl <;> intros)
    | (with_reducible apply Effect.foldlFst <;> intros)
    | (with_reducible apply Effect.ite <;> intros)
    | (with_reducible apply Effect.iteFst <;> intros)
    | (split)
    | (dsimp only))

theorem State.treeAccept_effect (s a1 a2 a3) : Effect [.free, .mem, .poison, .regs, .harts, .rooms, .attics, .dws, .errRings, .wingLogs, .errInFlight, .ceWindows] s (State.treeAccept s a1 a2 a3).1 := by
  unfold State.treeAccept
  repeat' (first
    | (with_reducible apply Effect.refl)
    | (with_reducible (apply Effect.next; apply State.pwrite_effect); decide +kernel)
    | (with_reducible (apply Effect.next; apply State.bump_effect); decide +kernel)
    | (with_reducible assumption)
    | (with_reducible apply Effect.foldl <;> intros)
    | (with_reducible apply Effect.foldlFst <;> intros)
    | (with_reducible apply Effect.ite <;> intros)
    | (with_reducible apply Effect.iteFst <;> intros)
    | (split)
    | (dsimp only))

theorem State.copySlot_effect (s a1 a2 a3 a4) : Effect [.free, .mem, .poison, .regs, .harts, .rooms, .attics, .dws, .errRings, .wingLogs, .errInFlight, .ceWindows] s (State.copySlot s a1 a2 a3 a4).1 := by
  unfold State.copySlot
  repeat' (first
    | (with_reducible apply Effect.refl)
    | (with_reducible (apply Effect.next; apply State.pwrite_effect); decide +kernel)
    | (with_reducible assumption)
    | (with_reducible apply Effect.foldl <;> intros)
    | (with_reducible apply Effect.foldlFst <;> intros)
    | (with_reducible apply Effect.ite <;> intros)
    | (with_reducible apply Effect.iteFst <;> intros)
    | (split)
    | (dsimp only))

theorem State.treeCommit_effect (s a1 a2 a3 a4 a5 a6 a7) : Effect [.free, .mem, .poison, .regs, .harts, .rooms, .attics, .dws, .errRings, .wingLogs, .errInFlight, .ceWindows] s (State.treeCommit s a1 a2 a3 a4 a5 a6 a7).1 := by
  unfold State.treeCommit
  repeat' (first
    | (with_reducible apply Effect.refl)
    | (with_reducible (apply Effect.next; apply State.memWrite_effect); decide +kernel)
    | (with_reducible (apply Effect.next; apply State.copySlot_effect); decide +kernel)
    | (with_reducible (apply Effect.next; apply Effect.fst; case e => assumption; apply State.copySlot_effect); decide +kernel)
    | (with_reducible assumption)
    | (with_reducible apply Effect.foldl <;> intros)
    | (with_reducible apply Effect.foldlFst <;> intros)
    | (with_reducible apply Effect.ite <;> intros)
    | (with_reducible apply Effect.iteFst <;> intros)
    | (split)
    | (dsimp only))

theorem State.treeOne_effect (s a1 a2 a3) : Effect [.free, .mem, .poison, .regs, .harts, .rooms, .attics, .dws, .errRings, .wingLogs, .errInFlight, .ceWindows] s (State.treeOne s a1 a2 a3).1 := by
  unfold State.treeOne
  repeat' (first
    | (with_reducible apply Effect.refl)
    | (with_reducible (apply Effect.next; apply State.memWrite_effect); decide +kernel)
    | (with_reducible (apply Effect.next; apply State.treePrep_effect); decide +kernel)
    | (with_reducible (apply Effect.next; apply Effect.fst; case e => assumption; apply State.treePrep_effect); decide +kernel)
    | (with_reducible (apply Effect.next; apply State.treeKvput_effect); decide +kernel)
    | (with_reducible (apply Effect.next; apply Effect.fst; case e => assumption; apply State.treeKvput_effect); decide +kernel)
    | (with_reducible (apply Effect.next; apply State.treeAccept_effect); decide +kernel)
    | (with_reducible (apply Effect.next; apply Effect.fst; case e => assumption; apply State.treeAccept_effect); decide +kernel)
    | (with_reducible (apply Effect.next; apply State.treeCommit_effect); decide +kernel)
    | (with_reducible (apply Effect.next; apply Effect.fst; case e => assumption; apply State.treeCommit_effect); decide +kernel)
    | (with_reducible assumption)
    | (with_reducible apply Effect.foldl <;> intros)
    | (with_reducible apply Effect.foldlFst <;> intros)
    | (with_reducible apply Effect.ite <;> intros)
    | (with_reducible apply Effect.iteFst <;> intros)
    | (split)
    | (dsimp only))

theorem State.guardProv_effect (s a1 a2 a3) : Effect [.guards] s (State.guardProv s a1 a2 a3) := by
  unfold State.guardProv
  repeat' (first
    | (with_reducible apply Effect.refl)
    | (with_reducible (apply Effect.next; apply State.dropGuard_effect); decide +kernel)
    | (with_reducible (apply Effect.next; apply State.setGuard_effect); decide +kernel)
    | (with_reducible assumption)
    | (with_reducible apply Effect.foldl <;> intros)
    | (with_reducible apply Effect.ite <;> intros)
    | (split)
    | (dsimp only))

theorem State.treeStep_effect (s a1 a2 a3) : Effect [.free, .mem, .poison, .regs, .harts, .rooms, .attics, .dws, .errRings, .wingLogs, .errInFlight, .ceWindows, .guards] s (State.treeStep s a1 a2 a3).1 := by
  unfold State.treeStep
  repeat' (first
    | (with_reducible apply Effect.refl)
    | (with_reducible (apply Effect.next; apply State.treeOne_effect); decide +kernel)
    | (with_reducible (apply Effect.next; apply Effect.fst; case e => assumption; apply State.treeOne_effect); decide +kernel)
    | (with_reducible (apply Effect.next; apply State.memWrite_effect); decide +kernel)
    | (with_reducible (apply Effect.next; apply State.guardProv_effect); decide +kernel)
    | (with_reducible assumption)
    | (with_reducible apply Effect.foldl <;> intros)
    | (with_reducible apply Effect.foldlFst <;> intros)
    | (with_reducible apply Effect.ite <;> intros)
    | (with_reducible apply Effect.iteFst <;> intros)
    | (split)
    | (dsimp only))

theorem State.treeList_effect (s a1 a2 a3) : Effect [.free, .mem, .poison, .regs, .harts, .rooms, .attics, .dws, .errRings, .wingLogs, .errInFlight, .ceWindows, .guards] s (State.treeList s a1 a2 a3).1 := by
  unfold State.treeList
  repeat' (first
    | (with_reducible apply Effect.refl)
    | (with_reducible (apply Effect.next; apply State.treeStep_effect); decide +kernel)
    | (with_reducible (apply Effect.next; apply Effect.fst; case e => assumption; apply State.treeStep_effect); decide +kernel)
    | (with_reducible assumption)
    | (with_reducible apply Effect.foldl <;> intros)
    | (with_reducible apply Effect.foldlFst <;> intros)
    | (with_reducible apply Effect.ite <;> intros)
    | (with_reducible apply Effect.iteFst <;> intros)
    | (split)
    | (dsimp only))

theorem State.treeTopkRun_effect (s a1 a2 a3) : Effect [.free, .mem, .poison, .regs, .harts, .rooms, .attics, .dws, .errRings, .wingLogs, .errInFlight, .ceWindows] s (State.treeTopkRun s a1 a2 a3).1 := by
  unfold State.treeTopkRun
  repeat' (first
    | (with_reducible apply Effect.refl)
    | (with_reducible (apply Effect.next; apply State.pwrite_effect); decide +kernel)
    | (with_reducible assumption)
    | (with_reducible apply Effect.foldl <;> intros)
    | (with_reducible apply Effect.foldlFst <;> intros)
    | (with_reducible apply Effect.ite <;> intros)
    | (with_reducible apply Effect.iteFst <;> intros)
    | (split)
    | (dsimp only))

theorem State.treeError_effect (s a1 a2) : Effect [.regs, .attics, .errRings, .wingLogs, .errInFlight, .ceWindows] s (State.treeError s a1 a2) := by
  unfold State.treeError
  repeat' (first
    | (with_reducible apply Effect.refl)
    | (with_reducible (apply Effect.next; apply State.orReg_effect); decide +kernel)
    | (with_reducible (apply Effect.next; apply State.postRoom_effect); decide +kernel)
    | (with_reducible assumption)
    | (with_reducible apply Effect.foldl <;> intros)
    | (with_reducible apply Effect.ite <;> intros)
    | (split)
    | (dsimp only))

theorem State.treeRecord_effect (s a1 a2 a3 a4) : Effect [.mem, .poison, .harts, .dws] s (State.treeRecord s a1 a2 a3 a4) := by
  unfold State.treeRecord
  repeat' (first
    | (with_reducible apply Effect.refl)
    | (with_reducible (apply Effect.next; apply State.writePantry_effect); decide +kernel)
    | (with_reducible assumption)
    | (with_reducible apply Effect.foldl <;> intros)
    | (with_reducible apply Effect.ite <;> intros)
    | (split)
    | (dsimp only))

theorem State.treeFinish_effect (s a1 a2 a3 a4) : Effect [.free, .mem, .poison, .regs, .harts, .rooms, .attics, .trees, .dws, .errRings, .wingLogs, .errInFlight, .ceWindows, .guards] s (State.treeFinish s a1 a2 a3 a4) := by
  unfold State.treeFinish
  repeat' (first
    | (with_reducible apply Effect.refl)
    | (with_reducible (apply Effect.next; apply State.treeRecord_effect); decide +kernel)
    | (with_reducible (apply Effect.next; apply State.signalSet_effect); decide +kernel)
    | (with_reducible (apply Effect.next; apply State.treeError_effect); decide +kernel)
    | (with_reducible (apply Effect.next; apply State.bumpCount_effect); decide +kernel)
    | (with_reducible (apply Effect.next; apply State.dropSeqs_effect); decide +kernel)
    | (with_reducible (apply Effect.next; apply State.modTree_effect); decide +kernel)
    | (with_reducible assumption)
    | (with_reducible apply Effect.foldl <;> intros)
    | (with_reducible apply Effect.ite <;> intros)
    | (split)
    | (dsimp only))

theorem State.treePart_effect (s a1 a2 a3) : Effect [.free, .mem, .poison, .regs, .harts, .rooms, .attics, .dws, .errRings, .wingLogs, .errInFlight, .ceWindows, .guards] s (State.treePart s a1 a2 a3).1 := by
  unfold State.treePart
  repeat' (first
    | (with_reducible apply Effect.refl)
    | (with_reducible (apply Effect.next; apply State.treeList_effect); decide +kernel)
    | (with_reducible (apply Effect.next; apply Effect.fst; case e => assumption; apply State.treeList_effect); decide +kernel)
    | (with_reducible (apply Effect.next; apply State.blur_effect); decide +kernel)
    | (with_reducible (apply Effect.next; apply State.treeTopkRun_effect); decide +kernel)
    | (with_reducible (apply Effect.next; apply Effect.fst; case e => assumption; apply State.treeTopkRun_effect); decide +kernel)
    | (with_reducible (apply Effect.next; apply State.unblur_effect); decide +kernel)
    | (with_reducible (apply Effect.next; apply State.treeNote_effect); decide +kernel)
    | (with_reducible assumption)
    | (with_reducible apply Effect.foldl <;> intros)
    | (with_reducible apply Effect.foldlFst <;> intros)
    | (with_reducible apply Effect.ite <;> intros)
    | (with_reducible apply Effect.iteFst <;> intros)
    | (split)
    | (dsimp only))

theorem State.treeRunHead_effect (s a1 a2) : Effect [.free, .mem, .poison, .regs, .harts, .rooms, .attics, .trees, .dws, .errRings, .wingLogs, .errInFlight, .ceWindows, .guards] s (State.treeRunHead s a1 a2) := by
  unfold State.treeRunHead
  repeat' (first
    | (with_reducible apply Effect.refl)
    | (with_reducible (apply Effect.next; apply State.treeFinish_effect); decide +kernel)
    | (with_reducible (apply Effect.next; apply State.treeNote_effect); decide +kernel)
    | (with_reducible (apply Effect.next; apply State.treePart_effect); decide +kernel)
    | (with_reducible (apply Effect.next; apply Effect.fst; case e => assumption; apply State.treePart_effect); decide +kernel)
    | (with_reducible assumption)
    | (with_reducible apply Effect.foldl <;> intros)
    | (with_reducible apply Effect.foldlFst <;> intros)
    | (with_reducible apply Effect.ite <;> intros)
    | (with_reducible apply Effect.iteFst <;> intros)
    | (split)
    | (dsimp only))

theorem State.treeAborted_effect (a0 a1 s) : Effect [.free, .mem, .poison, .regs, .harts, .rooms, .attics, .trees, .dws, .errRings, .wingLogs, .errInFlight, .ceWindows, .guards] s (State.treeAborted a0 a1 s) := by
  induction a0 generalizing a1 s with
  | zero => exact Effect.refl _ _
  | succ f ih =>
    unfold State.treeAborted
    repeat' (first
      | (with_reducible (apply Effect.next; apply ih); decide +kernel)
      | (with_reducible apply Effect.refl)
      | (with_reducible (apply Effect.next; apply State.treeFinish_effect); decide +kernel)
      | (with_reducible assumption)
      | (with_reducible apply Effect.foldl <;> intros)
      | (with_reducible apply Effect.ite <;> intros)
      | (split)
      | (dsimp only))

theorem treeRun_effect (a0 a1 s) : EffectR [.free, .mem, .poison, .regs, .harts, .rooms, .attics, .trees, .dws, .errRings, .wingLogs, .errInFlight, .ceWindows, .guards] s (treeRun a0 a1 s) := by
  unfold treeRun
  repeat' (first
    | (with_reducible apply Effect.refl)
    | (with_reducible (apply Effect.next; apply State.treeAborted_effect); decide +kernel)
    | (with_reducible (apply Effect.next; apply State.treeRunHead_effect); decide +kernel)
    | (with_reducible apply EffectR.ready)
    | (with_reducible apply EffectR.next)
    | (with_reducible assumption)
    | (with_reducible apply Effect.foldl <;> intros)
    | (with_reducible apply Effect.ite <;> intros)
    | (with_reducible apply EffectR.ite <;> intros)
    | (split)
    | (dsimp only))

theorem execTreeOpen_effect (a0 s) : EffectR [.free, .mem, .poison, .regs, .harts, .rooms, .attics, .trees, .dws, .errRings, .wingLogs, .errInFlight, .ceWindows, .guards] s (execTreeOpen a0 s) := by
  unfold execTreeOpen
  repeat' (first
    | (with_reducible apply Effect.refl)
    | (with_reducible (apply EffectR.after; apply treeRun_effect); decide +kernel)
    | (with_reducible apply EffectR.ready)
    | (with_reducible apply EffectR.next)
    | (with_reducible assumption)
    | (with_reducible apply Effect.foldl <;> intros)
    | (with_reducible apply Effect.ite <;> intros)
    | (with_reducible apply EffectR.ite <;> intros)
    | (split)
    | (dsimp only))

theorem execTreeClose_effect (a0 s) : EffectR [.free, .mem, .poison, .regs, .harts, .rooms, .attics, .trees, .dws, .errRings, .wingLogs, .errInFlight, .ceWindows, .guards] s (execTreeClose a0 s) := by
  unfold execTreeClose
  repeat' (first
    | (with_reducible apply Effect.refl)
    | (with_reducible (apply EffectR.after; apply treeRun_effect); decide +kernel)
    | (with_reducible apply EffectR.ready)
    | (with_reducible apply EffectR.next)
    | (with_reducible assumption)
    | (with_reducible apply Effect.foldl <;> intros)
    | (with_reducible apply Effect.ite <;> intros)
    | (with_reducible apply EffectR.ite <;> intros)
    | (split)
    | (dsimp only))

theorem execTreePrep_effect (a0 s) : EffectR [.free, .mem, .poison, .regs, .harts, .rooms, .attics, .trees, .dws, .errRings, .wingLogs, .errInFlight, .ceWindows, .guards] s (execTreePrep a0 s) := by
  unfold execTreePrep
  repeat' (first
    | (with_reducible apply Effect.refl)
    | (with_reducible (apply EffectR.after; apply treeRun_effect); decide +kernel)
    | (with_reducible apply EffectR.ready)
    | (with_reducible apply EffectR.next)
    | (with_reducible assumption)
    | (with_reducible apply Effect.foldl <;> intros)
    | (with_reducible apply Effect.ite <;> intros)
    | (with_reducible apply EffectR.ite <;> intros)
    | (split)
    | (dsimp only))

theorem execTreeKvput_effect (a0 s) : EffectR [.free, .mem, .poison, .regs, .harts, .rooms, .attics, .trees, .dws, .errRings, .wingLogs, .errInFlight, .ceWindows, .guards] s (execTreeKvput a0 s) := by
  unfold execTreeKvput
  repeat' (first
    | (with_reducible apply Effect.refl)
    | (with_reducible (apply EffectR.after; apply treeRun_effect); decide +kernel)
    | (with_reducible apply EffectR.ready)
    | (with_reducible apply EffectR.next)
    | (with_reducible assumption)
    | (with_reducible apply Effect.foldl <;> intros)
    | (with_reducible apply Effect.ite <;> intros)
    | (with_reducible apply EffectR.ite <;> intros)
    | (split)
    | (dsimp only))

theorem execTreeTopk_effect (a0 s) : EffectR [.free, .mem, .poison, .regs, .harts, .rooms, .attics, .trees, .dws, .errRings, .wingLogs, .errInFlight, .ceWindows, .guards] s (execTreeTopk a0 s) := by
  unfold execTreeTopk
  repeat' (first
    | (with_reducible apply Effect.refl)
    | (with_reducible (apply EffectR.after; apply treeRun_effect); decide +kernel)
    | (with_reducible apply EffectR.ready)
    | (with_reducible apply EffectR.next)
    | (with_reducible assumption)
    | (with_reducible apply Effect.foldl <;> intros)
    | (with_reducible apply Effect.ite <;> intros)
    | (with_reducible apply EffectR.ite <;> intros)
    | (split)
    | (dsimp only))

theorem execTreeAccept_effect (a0 s) : EffectR [.free, .mem, .poison, .regs, .harts, .rooms, .attics, .trees, .dws, .errRings, .wingLogs, .errInFlight, .ceWindows, .guards] s (execTreeAccept a0 s) := by
  unfold execTreeAccept
  repeat' (first
    | (with_reducible apply Effect.refl)
    | (with_reducible (apply EffectR.after; apply treeRun_effect); decide +kernel)
    | (with_reducible apply EffectR.ready)
    | (with_reducible apply EffectR.next)
    | (with_reducible assumption)
    | (with_reducible apply Effect.foldl <;> intros)
    | (with_reducible apply Effect.ite <;> intros)
    | (with_reducible apply EffectR.ite <;> intros)
    | (split)
    | (dsimp only))

theorem execTreeCommit_effect (a0 s) : EffectR [.free, .mem, .poison, .regs, .harts, .rooms, .attics, .trees, .dws, .errRings, .wingLogs, .errInFlight, .ceWindows, .guards] s (execTreeCommit a0 s) := by
  unfold execTreeCommit
  repeat' (first
    | (with_reducible apply Effect.refl)
    | (with_reducible (apply EffectR.after; apply treeRun_effect); decide +kernel)
    | (with_reducible apply EffectR.ready)
    | (with_reducible apply EffectR.next)
    | (with_reducible assumption)
    | (with_reducible apply Effect.foldl <;> intros)
    | (with_reducible apply Effect.ite <;> intros)
    | (with_reducible apply EffectR.ite <;> intros)
    | (split)
    | (dsimp only))

theorem execTreeRollback_effect (a0 s) : EffectR [.free, .mem, .poison, .regs, .harts, .rooms, .attics, .trees, .dws, .errRings, .wingLogs, .errInFlight, .ceWindows, .guards] s (execTreeRollback a0 s) := by
  unfold execTreeRollback
  repeat' (first
    | (with_reducible apply Effect.refl)
    | (with_reducible (apply EffectR.after; apply treeRun_effect); decide +kernel)
    | (with_reducible apply EffectR.ready)
    | (with_reducible apply EffectR.next)
    | (with_reducible assumption)
    | (with_reducible apply Effect.foldl <;> intros)
    | (with_reducible apply Effect.ite <;> intros)
    | (with_reducible apply EffectR.ite <;> intros)
    | (split)
    | (dsimp only))

theorem State.treeSubmit_effect (s a1 a2 a3 a4) : Effect [.free, .mem, .regs, .attics, .avus, .trees, .errRings, .wingLogs, .errInFlight, .ceWindows, .guards] s (State.treeSubmit s a1 a2 a3 a4) := by
  unfold State.treeSubmit
  repeat' (first
    | (with_reducible apply Effect.refl)
    | (with_reducible (apply Effect.next; apply State.treeError_effect); decide +kernel)
    | (with_reducible (apply Effect.next; apply State.blur_effect); decide +kernel)
    | (with_reducible (apply Effect.next; apply State.bump_effect); decide +kernel)
    | (with_reducible (apply Effect.next; apply State.modAvu_effect); decide +kernel)
    | (with_reducible (apply Effect.next; apply State.modTree_effect); decide +kernel)
    | (with_reducible (apply Effect.next; apply State.guardSeqs_effect); decide +kernel)
    | (with_reducible assumption)
    | (with_reducible apply Effect.foldl <;> intros)
    | (with_reducible apply Effect.ite <;> intros)
    | (split)
    | (dsimp only))

theorem execTreeSubmit_effect (a0 a1 s) : EffectR [.free, .mem, .regs, .attics, .avus, .trees, .errRings, .wingLogs, .errInFlight, .ceWindows, .guards] s (execTreeSubmit a0 a1 s) := by
  unfold execTreeSubmit
  repeat' (first
    | (with_reducible apply Effect.refl)
    | (with_reducible (apply Effect.next; apply State.treeSubmit_effect); decide +kernel)
    | (with_reducible apply EffectR.ready)
    | (with_reducible apply EffectR.next)
    | (with_reducible assumption)
    | (with_reducible apply Effect.foldl <;> intros)
    | (with_reducible apply Effect.ite <;> intros)
    | (with_reducible apply EffectR.ite <;> intros)
    | (split)
    | (dsimp only))

theorem State.treeAbort_effect (a0 a1 s) : Effect [.free, .mem, .poison, .regs, .harts, .rooms, .attics, .trees, .dws, .errRings, .wingLogs, .errInFlight, .ceWindows, .guards] s (State.treeAbort a0 a1 s) := by
  induction a0 generalizing a1 s with
  | zero => exact Effect.refl _ _
  | succ f ih =>
    unfold State.treeAbort
    repeat' (first
      | (with_reducible (apply Effect.next; apply ih); decide +kernel)
      | (with_reducible apply Effect.refl)
      | (with_reducible (apply Effect.next; apply State.treeFinish_effect); decide +kernel)
      | (with_reducible assumption)
      | (with_reducible apply Effect.foldl <;> intros)
      | (with_reducible apply Effect.ite <;> intros)
      | (split)
      | (dsimp only))

theorem State.treeStop_effect (s a1) : Effect [.free, .mem, .poison, .regs, .harts, .rooms, .attics, .trees, .dws, .errRings, .wingLogs, .errInFlight, .ceWindows, .guards] s (State.treeStop s a1) := by
  unfold State.treeStop
  repeat' (first
    | (with_reducible apply Effect.refl)
    | (with_reducible (apply Effect.next; apply State.treeAborted_effect); decide +kernel)
    | (with_reducible (apply Effect.next; apply State.modTree_effect); decide +kernel)
    | (with_reducible assumption)
    | (with_reducible apply Effect.foldl <;> intros)
    | (with_reducible apply Effect.ite <;> intros)
    | (split)
    | (dsimp only))

theorem State.treeEndHead_effect (s a1) : Effect [.free, .mem, .poison, .regs, .harts, .rooms, .attics, .trees, .dws, .errRings, .wingLogs, .errInFlight, .ceWindows, .guards] s (State.treeEndHead s a1) := by
  unfold State.treeEndHead
  repeat' (first
    | (with_reducible apply Effect.refl)
    | (with_reducible (apply Effect.next; apply State.treePart_effect); decide +kernel)
    | (with_reducible (apply Effect.next; apply Effect.fst; case e => assumption; apply State.treePart_effect); decide +kernel)
    | (with_reducible (apply Effect.next; apply State.bump_effect); decide +kernel)
    | (with_reducible (apply Effect.next; apply State.treeFinish_effect); decide +kernel)
    | (with_reducible assumption)
    | (with_reducible apply Effect.foldl <;> intros)
    | (with_reducible apply Effect.foldlFst <;> intros)
    | (with_reducible apply Effect.ite <;> intros)
    | (with_reducible apply Effect.iteFst <;> intros)
    | (split)
    | (dsimp only))

theorem State.treeFlush_effect (s a1) : Effect [.free, .mem, .poison, .regs, .harts, .rooms, .attics, .trees, .dws, .errRings, .wingLogs, .errInFlight, .ceWindows, .guards] s (State.treeFlush s a1) := by
  unfold State.treeFlush
  repeat' (first
    | (with_reducible apply Effect.refl)
    | (with_reducible (apply Effect.next; apply State.treeError_effect); decide +kernel)
    | (with_reducible (apply Effect.next; apply State.treeAbort_effect); decide +kernel)
    | (with_reducible (apply Effect.next; apply State.treeEndHead_effect); decide +kernel)
    | (with_reducible assumption)
    | (with_reducible apply Effect.foldl <;> intros)
    | (with_reducible apply Effect.ite <;> intros)
    | (split)
    | (dsimp only))

theorem execTreeFlush_effect (a0 s) : EffectR [.free, .mem, .poison, .regs, .harts, .rooms, .attics, .trees, .dws, .errRings, .wingLogs, .errInFlight, .ceWindows, .guards] s (execTreeFlush a0 s) := by
  unfold execTreeFlush
  repeat' (first
    | (with_reducible apply Effect.refl)
    | (with_reducible (apply Effect.next; apply State.treeFlush_effect); decide +kernel)
    | (with_reducible apply EffectR.ready)
    | (with_reducible apply EffectR.next)
    | (with_reducible assumption)
    | (with_reducible apply Effect.foldl <;> intros)
    | (with_reducible apply Effect.ite <;> intros)
    | (with_reducible apply EffectR.ite <;> intros)
    | (split)
    | (dsimp only))

theorem State.treeCut_effect (s a1) : Effect [.free, .mem, .poison, .regs, .harts, .rooms, .attics, .dws, .errRings, .wingLogs, .errInFlight, .ceWindows, .guards] s (State.treeCut s a1) := by
  unfold State.treeCut
  repeat' (first
    | (with_reducible apply Effect.refl)
    | (with_reducible (apply Effect.next; apply State.treePart_effect); decide +kernel)
    | (with_reducible (apply Effect.next; apply Effect.fst; case e => assumption; apply State.treePart_effect); decide +kernel)
    | (with_reducible (apply Effect.next; apply State.bump_effect); decide +kernel)
    | (with_reducible (apply Effect.next; apply State.memWrite_effect); decide +kernel)
    | (with_reducible assumption)
    | (with_reducible apply Effect.foldl <;> intros)
    | (with_reducible apply Effect.foldlFst <;> intros)
    | (with_reducible apply Effect.ite <;> intros)
    | (with_reducible apply Effect.iteFst <;> intros)
    | (split)
    | (dsimp only))

end Sys2Proof.Machine
end

