-- ==== Sys2Proof/Laws/EffectReset.lean ====
section
/-! SUPPORT. What the operations and the meanings of Machine/Reset.lean can change: one lemma each. -/
-- The kernel decides the inclusions of each lemma before the next lemma starts.
set_option Elab.async false
set_option linter.all false
namespace Sys2Proof.Machine

theorem State.raiseCeiling_effect (s a1) : Effect [.flashLogs] s (State.raiseCeiling s a1) := by
  unfold State.raiseCeiling
  repeat' (first
    | ((conv => arg 3; arg 64); refine Effect.upd ?_ (by intro p hp; cases p <;> first | exact Bool.noConfusion hp | rfl))
    | (with_reducible apply Effect.refl)
    | (with_reducible assumption)
    | (with_reducible apply Effect.foldl <;> intros)
    | (with_reducible apply Effect.ite <;> intros)
    | (split)
    | (dsimp only))

theorem State.nextEpoch_effect (s a1) : Effect [.rooms, .flashLogs] s (State.nextEpoch s a1) := by
  unfold State.nextEpoch
  repeat' (first
    | (with_reducible apply Effect.refl)
    | (with_reducible (apply Effect.next; apply State.modRoom_effect); decide +kernel)
    | (with_reducible (apply Effect.next; apply State.raiseCeiling_effect); decide +kernel)
    | (with_reducible assumption)
    | (with_reducible apply Effect.foldl <;> intros)
    | (with_reducible apply Effect.ite <;> intros)
    | (split)
    | (dsimp only))

theorem State.settleRepairs_effect (s a1) : Effect [.attics, .flashLogs] s (State.settleRepairs s a1) := by
  unfold State.settleRepairs
  repeat' (first
    | ((conv => arg 3; arg 64); refine Effect.upd ?_ (by intro p hp; cases p <;> first | exact Bool.noConfusion hp | rfl))
    | (with_reducible apply Effect.refl)
    | (with_reducible (apply Effect.next; apply State.modAttic_effect); decide +kernel)
    | (with_reducible assumption)
    | (with_reducible apply Effect.foldl <;> intros)
    | (with_reducible apply Effect.ite <;> intros)
    | (split)
    | (dsimp only))

theorem State.loseThreads_effect (s a1) : Effect [.harts, .exitMsgs, .sent, .jobs] s (State.loseThreads s a1) := by
  unfold State.loseThreads
  repeat' (first
    | ((conv => arg 3; arg 64); refine Effect.upd ?_ (by intro p hp; cases p <;> first | exact Bool.noConfusion hp | rfl))
    | (with_reducible apply Effect.refl)
    | (with_reducible (apply Effect.next; apply State.jobEnd_effect); decide +kernel)
    | (with_reducible (apply Effect.next; apply State.tellExit_effect); decide +kernel)
    | (with_reducible assumption)
    | (with_reducible apply Effect.foldl <;> intros)
    | (with_reducible apply Effect.ite <;> intros)
    | (split)
    | (dsimp only))

theorem State.abandon_effect (s a1) : Effect [.tags, .reqs, .colls] s (State.abandon s a1) := by
  unfold State.abandon
  repeat' (first
    | ((conv => arg 3; arg 64); refine Effect.upd ?_ (by intro p hp; cases p <;> first | exact Bool.noConfusion hp | rfl))
    | (with_reducible apply Effect.refl)
    | (with_reducible assumption)
    | (with_reducible apply Effect.foldl <;> intros)
    | (with_reducible apply Effect.ite <;> intros)
    | (split)
    | (dsimp only))

theorem State.cutWork_effect (s a1) : Effect [.free, .mem, .poison, .regs, .harts, .rooms, .attics, .avus, .dws, .errRings, .wingLogs, .errInFlight, .ceWindows, .guards] s (State.cutWork s a1) := by
  unfold State.cutWork
  repeat' (first
    | (with_reducible apply Effect.refl)
    | (with_reducible (apply Effect.next; apply State.dwCut_effect); decide +kernel)
    | (with_reducible (apply Effect.next; apply State.treeCut_effect); decide +kernel)
    | (with_reducible (apply Effect.next; apply State.avuDiscard_effect); decide +kernel)
    | (with_reducible assumption)
    | (with_reducible apply Effect.foldl <;> intros)
    | (with_reducible apply Effect.ite <;> intros)
    | (split)
    | (dsimp only))

theorem State.loseRoom_effect (s a1) : Effect [.free, .mem, .poison, .regs, .harts, .rooms, .tags, .reqs, .exitMsgs, .sent, .colls, .attics, .avus, .dws, .jobs, .errRings, .wingLogs, .errInFlight, .ceWindows, .flashLogs, .guards] s (State.loseRoom s a1) := by
  unfold State.loseRoom
  repeat' (first
    | (with_reducible apply Effect.refl)
    | (with_reducible (apply Effect.next; apply State.settleRepairs_effect); decide +kernel)
    | (with_reducible (apply Effect.next; apply State.forgetBytes_effect); decide +kernel)
    | (with_reducible (apply Effect.next; apply State.resetRegs_effect); decide +kernel)
    | (with_reducible (apply Effect.next; apply State.nextEpoch_effect); decide +kernel)
    | (with_reducible (apply Effect.next; apply State.abandon_effect); decide +kernel)
    | (with_reducible (apply Effect.next; apply State.loseThreads_effect); decide +kernel)
    | (with_reducible (apply Effect.next; apply State.cutWork_effect); decide +kernel)
    | (with_reducible assumption)
    | (with_reducible apply Effect.foldl <;> intros)
    | (with_reducible apply Effect.ite <;> intros)
    | (split)
    | (dsimp only))

theorem State.clearBlocks_effect (s a1) : Effect [.free, .arrays, .attics, .regqs, .avus, .trees, .dws, .dwOrder, .mailboxes, .errRings, .guards] s (State.clearBlocks s a1) := by
  unfold State.clearBlocks
  repeat' (first
    | ((conv => arg 3; arg 64); refine Effect.upd ?_ (by intro p hp; cases p <;> first | exact Bool.noConfusion hp | rfl))
    | (with_reducible apply Effect.refl)
    | (with_reducible (apply Effect.next; apply State.bump_effect); decide +kernel)
    | (with_reducible (apply Effect.next; apply State.modAttic_effect); decide +kernel)
    | (with_reducible assumption)
    | (with_reducible apply Effect.foldl <;> intros)
    | (with_reducible apply Effect.ite <;> intros)
    | (split)
    | (dsimp only))

theorem State.resetRoom_effect (s a1) : Effect [.free, .mem, .poison, .regs, .harts, .rooms, .tags, .reqs, .exitMsgs, .sent, .colls, .insts, .keptEnds, .arrays, .attics, .regqs, .avus, .trees, .dws, .dwOrder, .mailboxes, .jobs, .errRings, .wingLogs, .errInFlight, .ceWindows, .power, .therm, .flashLogs, .guards] s (State.resetRoom s a1) := by
  unfold State.resetRoom
  repeat' (first
    | (with_reducible apply Effect.refl)
    | (with_reducible (apply Effect.next; apply State.clearBlocks_effect); decide +kernel)
    | (with_reducible (apply Effect.next; apply State.loseRoom_effect); decide +kernel)
    | (with_reducible (apply Effect.next; apply State.modRoom_effect); decide +kernel)
    | (with_reducible (apply Effect.next; apply State.modRtherm_effect); decide +kernel)
    | (with_reducible (apply Effect.next; apply State.modRpow_effect); decide +kernel)
    | (with_reducible (apply Effect.next; apply State.modAttic_effect); decide +kernel)
    | (with_reducible (apply Effect.next; apply State.sendNotice_effect); decide +kernel)
    | (with_reducible (apply Effect.next; apply State.endSubject_effect); decide +kernel)
    | (with_reducible assumption)
    | (with_reducible apply Effect.foldl <;> intros)
    | (with_reducible apply Effect.ite <;> intros)
    | (split)
    | (dsimp only))

theorem State.goodbyes_effect (s a1) : Effect [.sent, .links] s (State.goodbyes s a1) := by
  unfold State.goodbyes
  repeat' (first
    | (with_reducible apply Effect.refl)
    | (with_reducible (apply Effect.next; apply State.sendLctl_effect); decide +kernel)
    | (with_reducible assumption)
    | (with_reducible apply Effect.foldl <;> intros)
    | (with_reducible apply Effect.ite <;> intros)
    | (split)
    | (dsimp only))

theorem State.wipe_effect (s a1 a2 a3) : Effect [.free, .mem, .poison, .regs, .harts, .rooms, .tags, .reqs, .exitMsgs, .caches, .colls, .insts, .keptEnds, .arrays, .attics, .regqs, .avus, .trees, .dws, .dwOrder, .wings, .halls, .modules, .dies, .links, .fabric, .absentDevs, .mailboxes, .doors, .sqs, .cqs, .descs, .nextDesc, .completions, .jobs, .errRings, .wingLogs, .errInFlight, .deviceLog, .ceWindows, .power, .therm, .boot, .aon, .plan, .planGen, .planTime, .live, .mailboxStudy, .remaps, .test, .pcies, .guards] s (State.wipe s a1 a2 a3) := by
  refine ⟨fun p hp => by cases p <;> first | exact Bool.noConfusion hp | rfl, fun h => ⟨?_, ?_⟩⟩
  · exact tsortedFrom_filter 0 _ _ h.1
  · exact risesFrom_filter 0 _ _ h.2

theorem State.beginStart_effect (s) : Effect [.bootCount, .boot] s (State.beginStart s) := by
  unfold State.beginStart
  repeat' (first
    | ((conv => arg 3; arg 64); refine Effect.upd ?_ (by intro p hp; cases p <;> first | exact Bool.noConfusion hp | rfl))
    | (with_reducible apply Effect.refl)
    | (with_reducible assumption)
    | (with_reducible apply Effect.foldl <;> intros)
    | (with_reducible apply Effect.ite <;> intros)
    | (split)
    | (dsimp only))

theorem State.warmReset_effect (s a1) : Effect [.free, .mem, .poison, .regs, .harts, .rooms, .tags, .reqs, .exitMsgs, .caches, .sent, .colls, .insts, .keptEnds, .arrays, .attics, .regqs, .avus, .trees, .dws, .dwOrder, .wings, .halls, .modules, .dies, .links, .fabric, .bootCount, .absentDevs, .mailboxes, .doors, .sqs, .cqs, .descs, .nextDesc, .completions, .jobs, .errRings, .wingLogs, .errInFlight, .deviceLog, .flashLog, .deviceSeq, .ceWindows, .power, .therm, .boot, .aon, .plan, .planGen, .planTime, .live, .mailboxStudy, .remaps, .test, .pcies, .guards] s (State.warmReset s a1) := by
  unfold State.warmReset
  repeat' (first
    | (with_reducible apply Effect.refl)
    | (with_reducible (apply Effect.next; apply State.beginStart_effect); decide +kernel)
    | (with_reducible (apply Effect.next; apply State.wipe_effect); decide +kernel)
    | (with_reducible (apply Effect.next; apply State.goodbyes_effect); decide +kernel)
    | (with_reducible (apply Effect.next; apply State.deliverAll_effect); decide +kernel)
    | (with_reducible assumption)
    | (with_reducible apply Effect.foldl <;> intros)
    | (with_reducible apply Effect.ite <;> intros)
    | (split)
    | (dsimp only))

theorem State.askReset_effect (s a1) : Effect [.free, .mem, .poison, .regs, .harts, .rooms, .tags, .reqs, .exitMsgs, .caches, .sent, .colls, .insts, .keptEnds, .arrays, .attics, .regqs, .avus, .trees, .dws, .dwOrder, .wings, .halls, .modules, .dies, .links, .fabric, .bootCount, .absentDevs, .mailboxes, .doors, .sqs, .cqs, .descs, .nextDesc, .completions, .jobs, .errRings, .wingLogs, .errInFlight, .deviceLog, .flashLog, .deviceSeq, .ceWindows, .power, .therm, .boot, .aon, .plan, .planGen, .planTime, .live, .mailboxStudy, .remaps, .test, .pcies, .guards] s (State.askReset s a1) := by
  unfold State.askReset
  repeat' (first
    | (with_reducible apply Effect.refl)
    | (with_reducible (apply Effect.next; apply State.modTherm_effect); decide +kernel)
    | (with_reducible (apply Effect.next; apply State.warmReset_effect); decide +kernel)
    | (with_reducible assumption)
    | (with_reducible apply Effect.foldl <;> intros)
    | (with_reducible apply Effect.ite <;> intros)
    | (split)
    | (dsimp only))

theorem execPowerOn_effect (s) : EffectR [.free, .mem, .poison, .regs, .harts, .rooms, .tags, .reqs, .exitMsgs, .caches, .colls, .insts, .keptEnds, .arrays, .attics, .regqs, .avus, .trees, .dws, .dwOrder, .wings, .halls, .modules, .dies, .links, .fabric, .absentDevs, .mailboxes, .doors, .sqs, .cqs, .descs, .nextDesc, .completions, .jobs, .errRings, .wingLogs, .errInFlight, .deviceLog, .ceWindows, .power, .therm, .boot, .aon, .plan, .planGen, .planTime, .live, .mailboxStudy, .remaps, .test, .pcies, .guards] s (execPowerOn s) := by
  unfold execPowerOn
  repeat' (first
    | ((conv => arg 3; arg 64); refine Effect.upd ?_ (by intro p hp; cases p <;> first | exact Bool.noConfusion hp | rfl))
    | (with_reducible apply Effect.refl)
    | (with_reducible (apply Effect.next; apply State.wipe_effect); decide +kernel)
    | (with_reducible apply EffectR.ready)
    | (with_reducible apply EffectR.next)
    | (with_reducible assumption)
    | (with_reducible apply Effect.foldl <;> intros)
    | (with_reducible apply Effect.ite <;> intros)
    | (with_reducible apply EffectR.ite <;> intros)
    | (split)
    | (dsimp only))

theorem execPowerLoss_effect (s) : EffectR [.free, .mem, .poison, .regs, .harts, .rooms, .tags, .reqs, .exitMsgs, .caches, .colls, .insts, .keptEnds, .arrays, .attics, .regqs, .avus, .trees, .dws, .dwOrder, .wings, .halls, .modules, .dies, .links, .fabric, .absentDevs, .mailboxes, .doors, .sqs, .cqs, .descs, .nextDesc, .completions, .jobs, .errRings, .wingLogs, .errInFlight, .deviceLog, .ceWindows, .power, .therm, .boot, .aon, .plan, .planGen, .planTime, .live, .mailboxStudy, .remaps, .test, .pcies, .guards] s (execPowerLoss s) := by
  unfold execPowerLoss
  repeat' (first
    | ((conv => arg 3; arg 64); refine Effect.upd ?_ (by intro p hp; cases p <;> first | exact Bool.noConfusion hp | rfl))
    | (with_reducible apply Effect.refl)
    | (with_reducible (apply Effect.next; apply State.wipe_effect); decide +kernel)
    | (with_reducible apply EffectR.ready)
    | (with_reducible apply EffectR.next)
    | (with_reducible assumption)
    | (with_reducible apply Effect.foldl <;> intros)
    | (with_reducible apply Effect.ite <;> intros)
    | (with_reducible apply EffectR.ite <;> intros)
    | (split)
    | (dsimp only))

theorem State.pinReset_effect (s a1) : Effect [.free, .mem, .poison, .regs, .harts, .rooms, .tags, .reqs, .exitMsgs, .caches, .colls, .insts, .keptEnds, .arrays, .attics, .regqs, .avus, .trees, .dws, .dwOrder, .wings, .halls, .modules, .dies, .links, .fabric, .absentDevs, .mailboxes, .doors, .sqs, .cqs, .descs, .nextDesc, .completions, .jobs, .errRings, .wingLogs, .errInFlight, .deviceLog, .ceWindows, .power, .therm, .boot, .aon, .plan, .planGen, .planTime, .live, .mailboxStudy, .remaps, .test, .pcies, .guards] s (State.pinReset s a1) := by
  unfold State.pinReset
  repeat' (first
    | ((conv => arg 3; arg 64); refine Effect.upd ?_ (by intro p hp; cases p <;> first | exact Bool.noConfusion hp | rfl))
    | (with_reducible apply Effect.refl)
    | (with_reducible (apply Effect.next; apply State.wipe_effect); decide +kernel)
    | (with_reducible assumption)
    | (with_reducible apply Effect.foldl <;> intros)
    | (with_reducible apply Effect.ite <;> intros)
    | (split)
    | (dsimp only))

theorem execPwrGoodLow_effect (s) : EffectR [.free, .mem, .poison, .regs, .harts, .rooms, .tags, .reqs, .exitMsgs, .caches, .colls, .insts, .keptEnds, .arrays, .attics, .regqs, .avus, .trees, .dws, .dwOrder, .wings, .halls, .modules, .dies, .links, .fabric, .absentDevs, .mailboxes, .doors, .sqs, .cqs, .descs, .nextDesc, .completions, .jobs, .errRings, .wingLogs, .errInFlight, .deviceLog, .ceWindows, .power, .therm, .boot, .aon, .plan, .planGen, .planTime, .live, .mailboxStudy, .remaps, .test, .pcies, .guards] s (execPwrGoodLow s) := by
  unfold execPwrGoodLow
  repeat' (first
    | ((conv => arg 3; arg 64); refine Effect.upd ?_ (by intro p hp; cases p <;> first | exact Bool.noConfusion hp | rfl))
    | (with_reducible apply Effect.refl)
    | (with_reducible (apply Effect.next; apply State.pinReset_effect); decide +kernel)
    | (with_reducible apply EffectR.ready)
    | (with_reducible apply EffectR.next)
    | (with_reducible assumption)
    | (with_reducible apply Effect.foldl <;> intros)
    | (with_reducible apply Effect.ite <;> intros)
    | (with_reducible apply EffectR.ite <;> intros)
    | (split)
    | (dsimp only))

theorem execResetNLow_effect (s) : EffectR [.free, .mem, .poison, .regs, .harts, .rooms, .tags, .reqs, .exitMsgs, .caches, .colls, .insts, .keptEnds, .arrays, .attics, .regqs, .avus, .trees, .dws, .dwOrder, .wings, .halls, .modules, .dies, .links, .fabric, .absentDevs, .mailboxes, .doors, .sqs, .cqs, .descs, .nextDesc, .completions, .jobs, .errRings, .wingLogs, .errInFlight, .deviceLog, .ceWindows, .power, .therm, .boot, .aon, .plan, .planGen, .planTime, .live, .mailboxStudy, .remaps, .test, .pcies, .guards] s (execResetNLow s) := by
  unfold execResetNLow
  repeat' (first
    | ((conv => arg 3; arg 64); refine Effect.upd ?_ (by intro p hp; cases p <;> first | exact Bool.noConfusion hp | rfl))
    | (with_reducible apply Effect.refl)
    | (with_reducible (apply Effect.next; apply State.pinReset_effect); decide +kernel)
    | (with_reducible apply EffectR.ready)
    | (with_reducible apply EffectR.next)
    | (with_reducible assumption)
    | (with_reducible apply Effect.foldl <;> intros)
    | (with_reducible apply Effect.ite <;> intros)
    | (with_reducible apply EffectR.ite <;> intros)
    | (split)
    | (dsimp only))

theorem State.watchdog_effect (s) : Effect [.free, .mem, .poison, .regs, .harts, .rooms, .tags, .reqs, .exitMsgs, .caches, .sent, .colls, .insts, .keptEnds, .arrays, .attics, .regqs, .avus, .trees, .dws, .dwOrder, .wings, .halls, .modules, .dies, .links, .fabric, .bootCount, .absentDevs, .mailboxes, .doors, .sqs, .cqs, .descs, .nextDesc, .completions, .jobs, .errRings, .wingLogs, .errInFlight, .deviceLog, .flashLog, .deviceSeq, .ceWindows, .power, .therm, .boot, .aon, .plan, .planGen, .planTime, .live, .mailboxStudy, .remaps, .test, .pcies, .guards] s (State.watchdog s) := by
  unfold State.watchdog
  repeat' (first
    | ((conv => arg 3; arg 64); refine Effect.upd ?_ (by intro p hp; cases p <;> first | exact Bool.noConfusion hp | rfl))
    | (with_reducible apply Effect.refl)
    | (with_reducible (apply Effect.next; apply State.postDie_effect); decide +kernel)
    | (with_reducible (apply Effect.next; apply State.askReset_effect); decide +kernel)
    | (with_reducible assumption)
    | (with_reducible apply Effect.foldl <;> intros)
    | (with_reducible apply Effect.ite <;> intros)
    | (split)
    | (dsimp only))

theorem execStudyWatchdogExpiry_effect (s) : EffectR [.free, .mem, .poison, .regs, .harts, .rooms, .tags, .reqs, .exitMsgs, .caches, .sent, .colls, .insts, .keptEnds, .arrays, .attics, .regqs, .avus, .trees, .dws, .dwOrder, .wings, .halls, .modules, .dies, .links, .fabric, .bootCount, .absentDevs, .mailboxes, .doors, .sqs, .cqs, .descs, .nextDesc, .completions, .jobs, .errRings, .wingLogs, .errInFlight, .deviceLog, .flashLog, .deviceSeq, .ceWindows, .power, .therm, .boot, .aon, .plan, .planGen, .planTime, .live, .mailboxStudy, .remaps, .test, .pcies, .guards] s (execStudyWatchdogExpiry s) := by
  unfold execStudyWatchdogExpiry
  repeat' (first
    | (with_reducible apply Effect.refl)
    | (with_reducible (apply Effect.next; apply State.watchdog_effect); decide +kernel)
    | (with_reducible apply EffectR.ready)
    | (with_reducible apply EffectR.next)
    | (with_reducible assumption)
    | (with_reducible apply Effect.foldl <;> intros)
    | (with_reducible apply Effect.ite <;> intros)
    | (with_reducible apply EffectR.ite <;> intros)
    | (split)
    | (dsimp only))

theorem execDeviceReset_effect (a0 a1 s) : EffectR [.free, .mem, .poison, .regs, .harts, .rooms, .tags, .reqs, .exitMsgs, .caches, .sent, .colls, .insts, .keptEnds, .arrays, .attics, .regqs, .avus, .trees, .dws, .dwOrder, .wings, .halls, .modules, .dies, .links, .fabric, .bootCount, .absentDevs, .mailboxes, .doors, .sqs, .cqs, .descs, .nextDesc, .completions, .jobs, .errRings, .wingLogs, .errInFlight, .deviceLog, .flashLog, .deviceSeq, .ceWindows, .power, .therm, .boot, .aon, .plan, .planGen, .planTime, .live, .mailboxStudy, .remaps, .test, .pcies, .guards] s (execDeviceReset a0 a1 s) := by
  unfold execDeviceReset
  repeat' (first
    | (with_reducible apply Effect.refl)
    | (with_reducible (apply Effect.next; apply State.askReset_effect); decide +kernel)
    | (with_reducible apply EffectR.ready)
    | (with_reducible apply EffectR.next)
    | (with_reducible assumption)
    | (with_reducible apply Effect.foldl <;> intros)
    | (with_reducible apply Effect.ite <;> intros)
    | (with_reducible apply EffectR.ite <;> intros)
    | (split)
    | (dsimp only))

theorem execHostGo_effect (a0 a1 s) : EffectR [.boot] s (execHostGo a0 a1 s) := by
  unfold execHostGo
  repeat' (first
    | (with_reducible apply Effect.refl)
    | (with_reducible (apply Effect.next; apply State.modBoot_effect); decide +kernel)
    | (with_reducible apply EffectR.ready)
    | (with_reducible apply EffectR.next)
    | (with_reducible assumption)
    | (with_reducible apply Effect.foldl <;> intros)
    | (with_reducible apply Effect.ite <;> intros)
    | (with_reducible apply EffectR.ite <;> intros)
    | (split)
    | (dsimp only))

theorem State.retry_effect (s) : Effect [.free, .mem, .poison, .regs, .harts, .rooms, .tags, .reqs, .exitMsgs, .caches, .sent, .colls, .insts, .keptEnds, .arrays, .attics, .regqs, .avus, .trees, .dws, .dwOrder, .wings, .halls, .modules, .dies, .links, .fabric, .bootCount, .absentDevs, .mailboxes, .doors, .sqs, .cqs, .descs, .nextDesc, .completions, .jobs, .errRings, .wingLogs, .errInFlight, .deviceLog, .flashLog, .deviceSeq, .ceWindows, .power, .therm, .boot, .aon, .flashLogs, .plan, .planGen, .planTime, .live, .mailboxStudy, .remaps, .test, .pcies, .guards] s (State.retry s) := by
  unfold State.retry
  repeat' (first
    | ((conv => arg 3; arg 64); refine Effect.upd ?_ (by intro p hp; cases p <;> first | exact Bool.noConfusion hp | rfl))
    | (with_reducible apply Effect.refl)
    | (with_reducible (apply Effect.next; apply State.askReset_effect); decide +kernel)
    | (with_reducible assumption)
    | (with_reducible apply Effect.foldl <;> intros)
    | (with_reducible apply Effect.ite <;> intros)
    | (split)
    | (dsimp only))

theorem execBootRetry_effect (a0 a1 s) : EffectR [.free, .mem, .poison, .regs, .harts, .rooms, .tags, .reqs, .exitMsgs, .caches, .sent, .colls, .insts, .keptEnds, .arrays, .attics, .regqs, .avus, .trees, .dws, .dwOrder, .wings, .halls, .modules, .dies, .links, .fabric, .bootCount, .absentDevs, .mailboxes, .doors, .sqs, .cqs, .descs, .nextDesc, .completions, .jobs, .errRings, .wingLogs, .errInFlight, .deviceLog, .flashLog, .deviceSeq, .ceWindows, .power, .therm, .boot, .aon, .flashLogs, .plan, .planGen, .planTime, .live, .mailboxStudy, .remaps, .test, .pcies, .guards] s (execBootRetry a0 a1 s) := by
  unfold execBootRetry
  repeat' (first
    | (with_reducible apply Effect.refl)
    | (with_reducible (apply Effect.next; apply State.retry_effect); decide +kernel)
    | (with_reducible apply EffectR.ready)
    | (with_reducible apply EffectR.next)
    | (with_reducible assumption)
    | (with_reducible apply Effect.foldl <;> intros)
    | (with_reducible apply Effect.ite <;> intros)
    | (with_reducible apply EffectR.ite <;> intros)
    | (split)
    | (dsimp only))

theorem execSamplingEdge_effect (a0 s) : EffectR [.bootCount, .boot, .test] s (execSamplingEdge a0 s) := by
  unfold execSamplingEdge
  repeat' (first
    | ((conv => arg 3; arg 64); refine Effect.upd ?_ (by intro p hp; cases p <;> first | exact Bool.noConfusion hp | rfl))
    | (with_reducible apply Effect.refl)
    | (with_reducible (apply Effect.next; apply State.modBoot_effect); decide +kernel)
    | (with_reducible (apply Effect.next; apply State.beginStart_effect); decide +kernel)
    | (with_reducible apply EffectR.ready)
    | (with_reducible apply EffectR.next)
    | (with_reducible assumption)
    | (with_reducible apply Effect.foldl <;> intros)
    | (with_reducible apply Effect.ite <;> intros)
    | (with_reducible apply EffectR.ite <;> intros)
    | (split)
    | (dsimp only))

theorem execStopResetWaitEnd_effect (s) : EffectR [.now, .bootCount, .boot] s (execStopResetWaitEnd s) := by
  unfold execStopResetWaitEnd
  repeat' (first
    | (with_reducible apply Effect.refl)
    | (with_reducible (apply Effect.next; apply State.beginStart_effect); decide +kernel)
    | (with_reducible (apply Effect.next; apply State.reach_effect); decide +kernel)
    | (with_reducible apply EffectR.ready)
    | (with_reducible apply EffectR.next)
    | (with_reducible assumption)
    | (with_reducible apply Effect.foldl <;> intros)
    | (with_reducible apply Effect.ite <;> intros)
    | (with_reducible apply EffectR.ite <;> intros)
    | (split)
    | (dsimp only))

theorem State.setBlock_effect (s a1 a2) : Effect [.boot] s (State.setBlock s a1 a2) := by
  unfold State.setBlock
  repeat' (first
    | (with_reducible apply Effect.refl)
    | (with_reducible (apply Effect.next; apply State.modBoot_effect); decide +kernel)
    | (with_reducible assumption)
    | (with_reducible apply Effect.foldl <;> intros)
    | (with_reducible apply Effect.ite <;> intros)
    | (split)
    | (dsimp only))

theorem State.endBlock_effect (s a1) : Effect [.boot] s (State.endBlock s a1) := by
  unfold State.endBlock
  repeat' (first
    | (with_reducible apply Effect.refl)
    | (with_reducible (apply Effect.next; apply State.modBoot_effect); decide +kernel)
    | (with_reducible assumption)
    | (with_reducible apply Effect.foldl <;> intros)
    | (with_reducible apply Effect.ite <;> intros)
    | (split)
    | (dsimp only))

theorem State.setPhase_effect (s a1 a2) : Effect [.rooms] s (State.setPhase s a1 a2) := by
  unfold State.setPhase
  repeat' (first
    | (with_reducible apply Effect.refl)
    | (with_reducible (apply Effect.next; apply State.modRoom_effect); decide +kernel)
    | (with_reducible assumption)
    | (with_reducible apply Effect.foldl <;> intros)
    | (with_reducible apply Effect.ite <;> intros)
    | (split)
    | (dsimp only))

theorem State.startReset_effect (s a1 a2) : Effect [.rooms, .boot] s (State.startReset s a1 a2) := by
  unfold State.startReset
  repeat' (first
    | (with_reducible apply Effect.refl)
    | (with_reducible (apply Effect.next; apply State.setPhase_effect); decide +kernel)
    | (with_reducible (apply Effect.next; apply State.endBlock_effect); decide +kernel)
    | (with_reducible (apply Effect.next; apply State.setBlock_effect); decide +kernel)
    | (with_reducible assumption)
    | (with_reducible apply Effect.foldl <;> intros)
    | (with_reducible apply Effect.ite <;> intros)
    | (split)
    | (dsimp only))

theorem execWingReset_effect (a0 s) : EffectR [.rooms, .boot] s (execWingReset a0 s) := by
  unfold execWingReset
  repeat' (first
    | (with_reducible apply Effect.refl)
    | (with_reducible (apply Effect.next; apply State.startReset_effect); decide +kernel)
    | (with_reducible apply EffectR.ready)
    | (with_reducible apply EffectR.next)
    | (with_reducible assumption)
    | (with_reducible apply Effect.foldl <;> intros)
    | (with_reducible apply Effect.ite <;> intros)
    | (with_reducible apply EffectR.ite <;> intros)
    | (split)
    | (dsimp only))

theorem execPorchReset_effect (a0 s) : EffectR [.rooms, .boot] s (execPorchReset a0 s) := by
  unfold execPorchReset
  repeat' (first
    | (with_reducible apply Effect.refl)
    | (with_reducible (apply Effect.next; apply State.startReset_effect); decide +kernel)
    | (with_reducible apply EffectR.ready)
    | (with_reducible apply EffectR.next)
    | (with_reducible assumption)
    | (with_reducible apply Effect.foldl <;> intros)
    | (with_reducible apply Effect.ite <;> intros)
    | (with_reducible apply EffectR.ite <;> intros)
    | (split)
    | (dsimp only))

theorem execBlockResetRequest_effect (a0 s) : EffectR [.rooms, .boot] s (execBlockResetRequest a0 s) := by
  unfold execBlockResetRequest
  repeat' (first
    | (with_reducible apply Effect.refl)
    | (with_reducible (apply Effect.next; apply State.setPhase_effect); decide +kernel)
    | (with_reducible (apply Effect.next; apply State.setBlock_effect); decide +kernel)
    | (with_reducible apply EffectR.ready)
    | (with_reducible apply EffectR.next)
    | (with_reducible assumption)
    | (with_reducible apply Effect.foldl <;> intros)
    | (with_reducible apply Effect.ite <;> intros)
    | (with_reducible apply EffectR.ite <;> intros)
    | (split)
    | (dsimp only))

theorem State.resetWing_effect (s a1) : Effect [.free, .mem, .poison, .regs, .harts, .rooms, .tags, .reqs, .exitMsgs, .sent, .colls, .insts, .keptEnds, .arrays, .attics, .regqs, .avus, .trees, .dws, .dwOrder, .wings, .halls, .modules, .links, .mailboxes, .doors, .jobs, .errRings, .wingLogs, .errInFlight, .ceWindows, .power, .therm, .flashLogs, .live, .mailboxStudy, .guards] s (State.resetWing s a1) := by
  unfold State.resetWing
  repeat' (first
    | ((conv => arg 3; arg 64); refine Effect.upd ?_ (by intro p hp; cases p <;> first | exact Bool.noConfusion hp | rfl))
    | (with_reducible apply Effect.refl)
    | (with_reducible (apply Effect.next; apply State.resetRoom_effect); decide +kernel)
    | (with_reducible (apply Effect.next; apply State.resetRegs_effect); decide +kernel)
    | (with_reducible (apply Effect.next; apply State.resetModules_effect); decide +kernel)
    | (with_reducible (apply Effect.next; apply State.modWing_effect); decide +kernel)
    | (with_reducible (apply Effect.next; apply State.porchLinksDown_effect); decide +kernel)
    | (with_reducible assumption)
    | (with_reducible apply Effect.foldl <;> intros)
    | (with_reducible apply Effect.ite <;> intros)
    | (split)
    | (dsimp only))

theorem State.enterReset_effect (s a1 a2) : Effect [.free, .mem, .poison, .regs, .harts, .rooms, .tags, .reqs, .exitMsgs, .sent, .colls, .insts, .keptEnds, .arrays, .attics, .regqs, .avus, .trees, .dws, .dwOrder, .wings, .halls, .modules, .links, .mailboxes, .doors, .jobs, .errRings, .wingLogs, .errInFlight, .ceWindows, .power, .therm, .boot, .flashLogs, .live, .mailboxStudy, .guards] s (State.enterReset s a1 a2) := by
  unfold State.enterReset
  repeat' (first
    | (with_reducible apply Effect.refl)
    | (with_reducible (apply Effect.next; apply State.setBlock_effect); decide +kernel)
    | (with_reducible (apply Effect.next; apply State.resetRoom_effect); decide +kernel)
    | (with_reducible (apply Effect.next; apply State.resetWing_effect); decide +kernel)
    | (with_reducible (apply Effect.next; apply State.resetModules_effect); decide +kernel)
    | (with_reducible (apply Effect.next; apply State.resetLinks_effect); decide +kernel)
    | (with_reducible (apply Effect.next; apply State.porchLinksDown_effect); decide +kernel)
    | (with_reducible assumption)
    | (with_reducible apply Effect.foldl <;> intros)
    | (with_reducible apply Effect.ite <;> intros)
    | (split)
    | (dsimp only))

theorem execBlockSettleEnd_effect (a0 s) : EffectR [.free, .mem, .poison, .regs, .harts, .rooms, .tags, .reqs, .exitMsgs, .sent, .colls, .insts, .keptEnds, .arrays, .attics, .regqs, .avus, .trees, .dws, .dwOrder, .wings, .halls, .modules, .links, .mailboxes, .doors, .jobs, .errRings, .wingLogs, .errInFlight, .ceWindows, .power, .therm, .boot, .flashLogs, .live, .mailboxStudy, .guards] s (execBlockSettleEnd a0 s) := by
  unfold execBlockSettleEnd
  repeat' (first
    | (with_reducible apply Effect.refl)
    | (with_reducible (apply Effect.next; apply State.enterReset_effect); decide +kernel)
    | (with_reducible apply EffectR.ready)
    | (with_reducible apply EffectR.next)
    | (with_reducible assumption)
    | (with_reducible apply Effect.foldl <;> intros)
    | (with_reducible apply Effect.ite <;> intros)
    | (with_reducible apply EffectR.ite <;> intros)
    | (split)
    | (dsimp only))

theorem execBlockSettleTimeout_effect (a0 s) : EffectR [.now, .free, .mem, .poison, .regs, .harts, .rooms, .tags, .reqs, .exitMsgs, .sent, .colls, .insts, .keptEnds, .arrays, .attics, .regqs, .avus, .trees, .dws, .dwOrder, .wings, .halls, .modules, .links, .mailboxes, .doors, .jobs, .errRings, .wingLogs, .errInFlight, .ceWindows, .power, .therm, .boot, .flashLogs, .live, .mailboxStudy, .guards] s (execBlockSettleTimeout a0 s) := by
  unfold execBlockSettleTimeout
  repeat' (first
    | (with_reducible apply Effect.refl)
    | (with_reducible (apply Effect.next; apply State.reach_effect); decide +kernel)
    | (with_reducible (apply Effect.next; apply State.postRoom_effect); decide +kernel)
    | (with_reducible (apply Effect.next; apply State.postDie_effect); decide +kernel)
    | (with_reducible (apply Effect.next; apply State.enterReset_effect); decide +kernel)
    | (with_reducible apply EffectR.ready)
    | (with_reducible apply EffectR.next)
    | (with_reducible assumption)
    | (with_reducible apply Effect.foldl <;> intros)
    | (with_reducible apply Effect.ite <;> intros)
    | (with_reducible apply EffectR.ite <;> intros)
    | (split)
    | (dsimp only))

end Sys2Proof.Machine
end

