-- ==== Sys2Proof/Laws/EffectThermal.lean ====
section
/-! SUPPORT. What the operations and the meanings of Machine/Thermal.lean can change: one lemma each. -/
-- The kernel decides the inclusions of each lemma before the next lemma starts.
set_option Elab.async false
set_option linter.all false
namespace Sys2Proof.Machine

theorem State.thermal_effect (s a1 a2) : Effect [.regs, .sent, .doors, .therm] s (State.thermal s a1 a2) := by
  unfold State.thermal
  repeat' (first
    | (with_reducible apply Effect.refl)
    | (with_reducible (apply Effect.next; apply State.event_effect); decide +kernel)
    | (with_reducible (apply Effect.next; apply State.modTherm_effect); decide +kernel)
    | (with_reducible assumption)
    | (with_reducible apply Effect.foldl <;> intros)
    | (with_reducible apply Effect.ite <;> intros)
    | (split)
    | (dsimp only))

theorem State.thermBit_effect (s a1) : Effect [.regs] s (State.thermBit s a1) := by
  unfold State.thermBit
  repeat' (first
    | (with_reducible apply Effect.refl)
    | (with_reducible (apply Effect.next; apply State.orReg_effect); decide +kernel)
    | (with_reducible assumption)
    | (with_reducible apply Effect.foldl <;> intros)
    | (with_reducible apply Effect.ite <;> intros)
    | (split)
    | (dsimp only))

theorem State.modDtherm_effect (s a1 a2) : Effect [.therm] s (State.modDtherm s a1 a2) := by
  unfold State.modDtherm
  repeat' (first
    | (with_reducible apply Effect.refl)
    | (with_reducible (apply Effect.next; apply State.modTherm_effect); decide +kernel)
    | (with_reducible assumption)
    | (with_reducible apply Effect.foldl <;> intros)
    | (with_reducible apply Effect.ite <;> intros)
    | (split)
    | (dsimp only))

theorem State.mailBand_effect (s a1) : Effect [.mailboxes] s (State.mailBand s a1) := by
  unfold State.mailBand
  repeat' (first
    | (with_reducible apply Effect.refl)
    | (with_reducible (apply Effect.next; apply State.mail_effect); decide +kernel)
    | (with_reducible assumption)
    | (with_reducible apply Effect.foldl <;> intros)
    | (with_reducible apply Effect.ite <;> intros)
    | (split)
    | (dsimp only))

theorem State.noteCool_effect (s a1) : Effect [.therm] s (State.noteCool s a1) := by
  unfold State.noteCool
  repeat' (first
    | (with_reducible apply Effect.refl)
    | (with_reducible (apply Effect.next; apply State.modRtherm_effect); decide +kernel)
    | (with_reducible assumption)
    | (with_reducible apply Effect.foldl <;> intros)
    | (with_reducible apply Effect.ite <;> intros)
    | (split)
    | (dsimp only))

theorem State.noteCycles_effect (s a1) : Effect [.regs, .therm] s (State.noteCycles s a1) := by
  unfold State.noteCycles
  repeat' (first
    | (with_reducible apply Effect.refl)
    | (with_reducible (apply Effect.next; apply State.modTherm_effect); decide +kernel)
    | (with_reducible (apply Effect.next; apply State.thermBit_effect); decide +kernel)
    | (with_reducible assumption)
    | (with_reducible apply Effect.foldl <;> intros)
    | (with_reducible apply Effect.ite <;> intros)
    | (split)
    | (dsimp only))

theorem State.saveCycles_effect (s) : Effect [.flashLogs] s (State.saveCycles s) := by
  unfold State.saveCycles
  repeat' (first
    | ((conv => arg 3; arg 64); refine Effect.upd ?_ (by intro p hp; cases p <;> first | exact Bool.noConfusion hp | rfl))
    | (with_reducible apply Effect.refl)
    | (with_reducible assumption)
    | (with_reducible apply Effect.foldl <;> intros)
    | (with_reducible apply Effect.ite <;> intros)
    | (split)
    | (dsimp only))

theorem State.loadCycles_effect (s) : Effect [.therm] s (State.loadCycles s) := by
  unfold State.loadCycles
  repeat' (first
    | (with_reducible apply Effect.refl)
    | (with_reducible (apply Effect.next; apply State.modTherm_effect); decide +kernel)
    | (with_reducible assumption)
    | (with_reducible apply Effect.foldl <;> intros)
    | (with_reducible apply Effect.ite <;> intros)
    | (split)
    | (dsimp only))

theorem State.atticSample_effect (s a1 a2 a3 a4) : Effect [.regs, .sent, .attics, .mailboxes, .doors, .therm] s (State.atticSample s a1 a2 a3 a4) := by
  unfold State.atticSample
  repeat' (first
    | (with_reducible apply Effect.refl)
    | (with_reducible (apply Effect.next; apply State.modAttic_effect); decide +kernel)
    | (with_reducible (apply Effect.next; apply State.noteCycles_effect); decide +kernel)
    | (with_reducible (apply Effect.next; apply State.noteCool_effect); decide +kernel)
    | (with_reducible (apply Effect.next; apply State.orReg_effect); decide +kernel)
    | (with_reducible (apply Effect.next; apply State.thermal_effect); decide +kernel)
    | (with_reducible (apply Effect.next; apply State.mailBand_effect); decide +kernel)
    | (with_reducible assumption)
    | (with_reducible apply Effect.foldl <;> intros)
    | (with_reducible apply Effect.ite <;> intros)
    | (split)
    | (dsimp only))

theorem execAtticTempSample_effect (a0 a1 a2 a3 s) : EffectR [.now, .regs, .sent, .attics, .mailboxes, .doors, .therm] s (execAtticTempSample a0 a1 a2 a3 s) := by
  unfold execAtticTempSample
  repeat' (first
    | (with_reducible apply Effect.refl)
    | (with_reducible (apply Effect.next; apply State.atticSample_effect); decide +kernel)
    | (with_reducible (apply Effect.next; apply State.reach_effect); decide +kernel)
    | (with_reducible apply EffectR.ready)
    | (with_reducible apply EffectR.next)
    | (with_reducible assumption)
    | (with_reducible apply Effect.foldl <;> intros)
    | (with_reducible apply Effect.ite <;> intros)
    | (with_reducible apply EffectR.ite <;> intros)
    | (split)
    | (dsimp only))

theorem State.floorSample_effect (s a1 a2 a3) : Effect [.regs, .sent, .mailboxes, .doors, .therm] s (State.floorSample s a1 a2 a3) := by
  unfold State.floorSample
  repeat' (first
    | (with_reducible apply Effect.refl)
    | (with_reducible (apply Effect.next; apply State.modRtherm_effect); decide +kernel)
    | (with_reducible (apply Effect.next; apply State.noteCool_effect); decide +kernel)
    | (with_reducible (apply Effect.next; apply State.thermal_effect); decide +kernel)
    | (with_reducible (apply Effect.next; apply State.mailBand_effect); decide +kernel)
    | (with_reducible assumption)
    | (with_reducible apply Effect.foldl <;> intros)
    | (with_reducible apply Effect.ite <;> intros)
    | (split)
    | (dsimp only))

theorem State.invalidate_effect (s a1) : Effect [.regs, .attics, .errRings, .wingLogs, .errInFlight, .ceWindows, .therm] s (State.invalidate s a1) := by
  unfold State.invalidate
  repeat' (first
    | (with_reducible apply Effect.refl)
    | (with_reducible (apply Effect.next; apply State.postRoom_effect); decide +kernel)
    | (with_reducible (apply Effect.next; apply State.thermBit_effect); decide +kernel)
    | (with_reducible (apply Effect.next; apply State.modRtherm_effect); decide +kernel)
    | (with_reducible (apply Effect.next; apply State.modAttic_effect); decide +kernel)
    | (with_reducible (apply Effect.next; apply State.postDie_effect); decide +kernel)
    | (with_reducible (apply Effect.next; apply State.modDtherm_effect); decide +kernel)
    | (with_reducible assumption)
    | (with_reducible apply Effect.foldl <;> intros)
    | (with_reducible apply Effect.ite <;> intros)
    | (split)
    | (dsimp only))

theorem execSensorInvalid_effect (a0 s) : EffectR [.now, .regs, .attics, .errRings, .wingLogs, .errInFlight, .ceWindows, .therm] s (execSensorInvalid a0 s) := by
  unfold execSensorInvalid
  repeat' (first
    | (with_reducible apply Effect.refl)
    | (with_reducible (apply Effect.next; apply State.invalidate_effect); decide +kernel)
    | (with_reducible (apply Effect.next; apply State.reach_effect); decide +kernel)
    | (with_reducible apply EffectR.ready)
    | (with_reducible apply EffectR.next)
    | (with_reducible assumption)
    | (with_reducible apply Effect.foldl <;> intros)
    | (with_reducible apply Effect.ite <;> intros)
    | (with_reducible apply EffectR.ite <;> intros)
    | (split)
    | (dsimp only))

theorem State.throttle_effect (s a1) : Effect [.regs, .sent, .doors, .power, .therm] s (State.throttle s a1) := by
  unfold State.throttle
  repeat' (first
    | (with_reducible apply Effect.refl)
    | (with_reducible (apply Effect.next; apply State.thermal_effect); decide +kernel)
    | (with_reducible (apply Effect.next; apply State.lowerTargets_effect); decide +kernel)
    | (with_reducible (apply Effect.next; apply State.modRpow_effect); decide +kernel)
    | (with_reducible (apply Effect.next; apply State.askRaises_effect); decide +kernel)
    | (with_reducible assumption)
    | (with_reducible apply Effect.foldl <;> intros)
    | (with_reducible apply Effect.ite <;> intros)
    | (split)
    | (dsimp only))

theorem execThrottleStep_effect (a0 s) : EffectR [.now, .regs, .sent, .doors, .power, .therm] s (execThrottleStep a0 s) := by
  unfold execThrottleStep
  repeat' (first
    | (with_reducible apply Effect.refl)
    | (with_reducible (apply Effect.next; apply State.throttle_effect); decide +kernel)
    | (with_reducible (apply Effect.next; apply State.reach_effect); decide +kernel)
    | (with_reducible apply EffectR.ready)
    | (with_reducible apply EffectR.next)
    | (with_reducible assumption)
    | (with_reducible apply Effect.foldl <;> intros)
    | (with_reducible apply Effect.ite <;> intros)
    | (with_reducible apply EffectR.ite <;> intros)
    | (split)
    | (dsimp only))

theorem execSlowNoticeSend_effect (a0 s) : EffectR [.now, .regs, .reqs, .sent, .colls, .mailboxes, .doors, .therm] s (execSlowNoticeSend a0 s) := by
  unfold execSlowNoticeSend
  repeat' (first
    | (with_reducible apply Effect.refl)
    | (with_reducible (apply Effect.next; apply State.reach_effect); decide +kernel)
    | (with_reducible (apply Effect.next; apply State.thermal_effect); decide +kernel)
    | (with_reducible (apply Effect.next; apply State.sendNotice_effect); decide +kernel)
    | (with_reducible (apply Effect.next; apply State.slowed_effect); decide +kernel)
    | (with_reducible apply EffectR.ready)
    | (with_reducible apply EffectR.next)
    | (with_reducible assumption)
    | (with_reducible apply Effect.foldl <;> intros)
    | (with_reducible apply Effect.ite <;> intros)
    | (with_reducible apply EffectR.ite <;> intros)
    | (split)
    | (dsimp only))

theorem State.graceRoom_effect (s a1) : Effect [.free, .mem, .poison, .regs, .harts, .rooms, .insts, .arrays, .attics, .avus, .trees, .dws, .dwOrder, .sqs, .descs, .completions, .errRings, .wingLogs, .errInFlight, .ceWindows, .guards] s (State.graceRoom s a1) := by
  unfold State.graceRoom
  repeat' (first
    | (with_reducible apply Effect.refl)
    | (with_reducible (apply Effect.next; apply State.arrayRejected_effect); decide +kernel)
    | (with_reducible (apply Effect.next; apply State.modArray_effect); decide +kernel)
    | (with_reducible (apply Effect.next; apply State.modAvu_effect); decide +kernel)
    | (with_reducible (apply Effect.next; apply State.freezeChunks_effect); decide +kernel)
    | (with_reducible (apply Effect.next; apply State.dwStopRoom_effect); decide +kernel)
    | (with_reducible (apply Effect.next; apply State.treeStop_effect); decide +kernel)
    | (with_reducible assumption)
    | (with_reducible apply Effect.foldl <;> intros)
    | (with_reducible apply Effect.ite <;> intros)
    | (split)
    | (dsimp only))

theorem State.beginStop_effect (s a1 a2) : Effect [.free, .mem, .poison, .regs, .harts, .rooms, .sent, .insts, .arrays, .attics, .avus, .trees, .dws, .dwOrder, .doors, .sqs, .descs, .completions, .errRings, .wingLogs, .errInFlight, .ceWindows, .therm, .flashLogs, .guards] s (State.beginStop s a1 a2) := by
  unfold State.beginStop
  repeat' (first
    | (with_reducible apply Effect.refl)
    | (with_reducible (apply Effect.next; apply State.thermBit_effect); decide +kernel)
    | (with_reducible (apply Effect.next; apply State.modRtherm_effect); decide +kernel)
    | (with_reducible (apply Effect.next; apply State.setPhase_effect); decide +kernel)
    | (with_reducible (apply Effect.next; apply State.saveCycles_effect); decide +kernel)
    | (with_reducible (apply Effect.next; apply State.graceRoom_effect); decide +kernel)
    | (with_reducible (apply Effect.next; apply State.postRoom_effect); decide +kernel)
    | (with_reducible (apply Effect.next; apply State.thermal_effect); decide +kernel)
    | (with_reducible assumption)
    | (with_reducible apply Effect.foldl <;> intros)
    | (with_reducible apply Effect.ite <;> intros)
    | (split)
    | (dsimp only))

theorem execRoomStopGrace_effect (a0 s) : EffectR [.free, .mem, .poison, .regs, .harts, .rooms, .sent, .insts, .arrays, .attics, .avus, .trees, .dws, .dwOrder, .doors, .sqs, .descs, .completions, .errRings, .wingLogs, .errInFlight, .ceWindows, .therm, .flashLogs, .guards] s (execRoomStopGrace a0 s) := by
  unfold execRoomStopGrace
  repeat' (first
    | (with_reducible apply Effect.refl)
    | (with_reducible (apply Effect.next; apply State.beginStop_effect); decide +kernel)
    | (with_reducible apply EffectR.ready)
    | (with_reducible apply EffectR.next)
    | (with_reducible assumption)
    | (with_reducible apply Effect.foldl <;> intros)
    | (with_reducible apply Effect.ite <;> intros)
    | (with_reducible apply EffectR.ite <;> intros)
    | (split)
    | (dsimp only))

theorem State.emptyUnits_effect (s a1) : Effect [.arrays, .avus, .trees, .dws, .dwOrder] s (State.emptyUnits s a1) := by
  unfold State.emptyUnits
  repeat' (first
    | ((conv => arg 3; arg 64); refine Effect.upd ?_ (by intro p hp; cases p <;> first | exact Bool.noConfusion hp | rfl))
    | (with_reducible apply Effect.refl)
    | (with_reducible (apply Effect.next; apply State.modAvu_effect); decide +kernel)
    | (with_reducible (apply Effect.next; apply State.modArray_effect); decide +kernel)
    | (with_reducible (apply Effect.next; apply State.modTree_effect); decide +kernel)
    | (with_reducible assumption)
    | (with_reducible apply Effect.foldl <;> intros)
    | (with_reducible apply Effect.ite <;> intros)
    | (split)
    | (dsimp only))

theorem State.stopClocks_effect (s a1) : Effect [.now, .free, .mem, .poison, .regs, .harts, .rooms, .tags, .reqs, .colls, .arrays, .attics, .avus, .trees, .dws, .dwOrder, .errRings, .wingLogs, .errInFlight, .ceWindows, .power, .guards] s (State.stopClocks s a1) := by
  unfold State.stopClocks
  repeat' (first
    | (with_reducible apply Effect.refl)
    | (with_reducible (apply Effect.next; apply State.reach_effect); decide +kernel)
    | (with_reducible (apply Effect.next; apply State.setPhase_effect); decide +kernel)
    | (with_reducible (apply Effect.next; apply State.abandon_effect); decide +kernel)
    | (with_reducible (apply Effect.next; apply State.cutWork_effect); decide +kernel)
    | (with_reducible (apply Effect.next; apply State.modRoom_effect); decide +kernel)
    | (with_reducible (apply Effect.next; apply State.modRpow_effect); decide +kernel)
    | (with_reducible (apply Effect.next; apply State.modAttic_effect); decide +kernel)
    | (with_reducible (apply Effect.next; apply State.emptyUnits_effect); decide +kernel)
    | (with_reducible assumption)
    | (with_reducible apply Effect.foldl <;> intros)
    | (with_reducible apply Effect.ite <;> intros)
    | (split)
    | (dsimp only))

theorem execRoomStopClocks_effect (a0 s) : EffectR [.now, .free, .mem, .poison, .regs, .harts, .rooms, .tags, .reqs, .colls, .arrays, .attics, .avus, .trees, .dws, .dwOrder, .errRings, .wingLogs, .errInFlight, .ceWindows, .power, .guards] s (execRoomStopClocks a0 s) := by
  unfold execRoomStopClocks
  repeat' (first
    | (with_reducible apply Effect.refl)
    | (with_reducible (apply Effect.next; apply State.stopClocks_effect); decide +kernel)
    | (with_reducible apply EffectR.ready)
    | (with_reducible apply EffectR.next)
    | (with_reducible assumption)
    | (with_reducible apply Effect.foldl <;> intros)
    | (with_reducible apply Effect.ite <;> intros)
    | (with_reducible apply EffectR.ite <;> intros)
    | (split)
    | (dsimp only))

theorem execRoomStopNotice_effect (a0 s) : EffectR [.free, .mem, .poison, .regs, .harts, .rooms, .tags, .reqs, .sent, .colls, .insts, .keptEnds, .attics, .dws, .mailboxes, .errRings, .wingLogs, .errInFlight, .ceWindows, .guards] s (execRoomStopNotice a0 s) := by
  unfold execRoomStopNotice
  repeat' (first
    | (with_reducible apply Effect.refl)
    | (with_reducible (apply Effect.next; apply State.sendNotice_effect); decide +kernel)
    | (with_reducible (apply Effect.next; apply State.endSubject_effect); decide +kernel)
    | (with_reducible (apply Effect.next; apply State.setPhase_effect); decide +kernel)
    | (with_reducible apply EffectR.ready)
    | (with_reducible apply EffectR.next)
    | (with_reducible assumption)
    | (with_reducible apply Effect.foldl <;> intros)
    | (with_reducible apply Effect.ite <;> intros)
    | (with_reducible apply EffectR.ite <;> intros)
    | (split)
    | (dsimp only))

theorem State.publishStop_effect (s a1) : Effect [.regs, .harts, .rooms, .exitMsgs, .sent, .doors, .jobs, .plan, .planGen, .planTime] s (State.publishStop s a1) := by
  unfold State.publishStop
  repeat' (first
    | (with_reducible apply Effect.refl)
    | (with_reducible (apply Effect.next; apply State.updatePlan_effect); decide +kernel)
    | (with_reducible (apply Effect.next; apply State.modRoom_effect); decide +kernel)
    | (with_reducible (apply Effect.next; apply State.loseThreads_effect); decide +kernel)
    | (with_reducible assumption)
    | (with_reducible apply Effect.foldl <;> intros)
    | (with_reducible apply Effect.ite <;> intros)
    | (split)
    | (dsimp only))

theorem execRoomStopPublish_effect (a0 s) : EffectR [.regs, .harts, .rooms, .exitMsgs, .sent, .doors, .jobs, .plan, .planGen, .planTime] s (execRoomStopPublish a0 s) := by
  unfold execRoomStopPublish
  repeat' (first
    | (with_reducible apply Effect.refl)
    | (with_reducible (apply Effect.next; apply State.publishStop_effect); decide +kernel)
    | (with_reducible apply EffectR.ready)
    | (with_reducible apply EffectR.next)
    | (with_reducible assumption)
    | (with_reducible apply Effect.foldl <;> intros)
    | (with_reducible apply Effect.ite <;> intros)
    | (with_reducible apply EffectR.ite <;> intros)
    | (split)
    | (dsimp only))

theorem execReadmissible_effect (a0 s) : EffectR [.now, .regs, .sent, .doors, .therm] s (execReadmissible a0 s) := by
  unfold execReadmissible
  repeat' (first
    | (with_reducible apply Effect.refl)
    | (with_reducible (apply Effect.next; apply State.thermal_effect); decide +kernel)
    | (with_reducible (apply Effect.next; apply State.modRtherm_effect); decide +kernel)
    | (with_reducible (apply Effect.next; apply State.reach_effect); decide +kernel)
    | (with_reducible apply EffectR.ready)
    | (with_reducible apply EffectR.next)
    | (with_reducible assumption)
    | (with_reducible apply Effect.foldl <;> intros)
    | (with_reducible apply Effect.ite <;> intros)
    | (with_reducible apply EffectR.ite <;> intros)
    | (split)
    | (dsimp only))

theorem State.endGrace_effect (s a1) : Effect [.free, .mem, .poison, .regs, .harts, .rooms, .arrays, .attics, .trees, .dws, .dwOrder, .sqs, .descs, .completions, .errRings, .wingLogs, .errInFlight, .ceWindows, .guards] s (State.endGrace s a1) := by
  unfold State.endGrace
  repeat' (first
    | (with_reducible apply Effect.refl)
    | (with_reducible (apply Effect.next; apply State.arrayAbort_effect); decide +kernel)
    | (with_reducible (apply Effect.next; apply State.treeAbort_effect); decide +kernel)
    | (with_reducible (apply Effect.next; apply State.treeEndHead_effect); decide +kernel)
    | (with_reducible (apply Effect.next; apply State.dwFlush_effect); decide +kernel)
    | (with_reducible (apply Effect.next; apply State.dwCut_effect); decide +kernel)
    | (with_reducible assumption)
    | (with_reducible apply Effect.foldl <;> intros)
    | (with_reducible apply Effect.ite <;> intros)
    | (split)
    | (dsimp only))

theorem execAtticHardStop_effect (a0 s) : EffectR [.free, .mem, .poison, .regs, .harts, .rooms, .sent, .arrays, .attics, .avus, .trees, .dws, .dwOrder, .doors, .sqs, .descs, .completions, .errRings, .wingLogs, .errInFlight, .ceWindows, .therm, .guards] s (execAtticHardStop a0 s) := by
  unfold execAtticHardStop
  repeat' (first
    | (with_reducible apply Effect.refl)
    | (with_reducible (apply Effect.next; apply State.thermal_effect); decide +kernel)
    | (with_reducible (apply Effect.next; apply State.endGrace_effect); decide +kernel)
    | (with_reducible (apply Effect.next; apply State.hardStop_effect); decide +kernel)
    | (with_reducible apply EffectR.ready)
    | (with_reducible apply EffectR.next)
    | (with_reducible assumption)
    | (with_reducible apply Effect.foldl <;> intros)
    | (with_reducible apply Effect.ite <;> intros)
    | (with_reducible apply EffectR.ite <;> intros)
    | (split)
    | (dsimp only))

theorem State.trip_effect (s a1) : Effect [.free, .mem, .poison, .regs, .harts, .rooms, .tags, .reqs, .exitMsgs, .caches, .colls, .insts, .keptEnds, .arrays, .attics, .regqs, .avus, .trees, .dws, .dwOrder, .wings, .halls, .modules, .dies, .links, .fabric, .absentDevs, .mailboxes, .doors, .sqs, .cqs, .descs, .nextDesc, .completions, .jobs, .errRings, .wingLogs, .errInFlight, .deviceLog, .ceWindows, .power, .therm, .boot, .aon, .plan, .planGen, .planTime, .live, .mailboxStudy, .remaps, .test, .pcies, .guards] s (State.trip s a1) := by
  unfold State.trip
  repeat' (first
    | ((conv => arg 3; arg 64); refine Effect.upd ?_ (by intro p hp; cases p <;> first | exact Bool.noConfusion hp | rfl))
    | (with_reducible apply Effect.refl)
    | (with_reducible (apply Effect.next; apply State.wipe_effect); decide +kernel)
    | (with_reducible assumption)
    | (with_reducible apply Effect.foldl <;> intros)
    | (with_reducible apply Effect.ite <;> intros)
    | (split)
    | (dsimp only))

theorem execThermalTrip_effect (a0 s) : EffectR [.free, .mem, .poison, .regs, .harts, .rooms, .tags, .reqs, .exitMsgs, .caches, .colls, .insts, .keptEnds, .arrays, .attics, .regqs, .avus, .trees, .dws, .dwOrder, .wings, .halls, .modules, .dies, .links, .fabric, .absentDevs, .mailboxes, .doors, .sqs, .cqs, .descs, .nextDesc, .completions, .jobs, .errRings, .wingLogs, .errInFlight, .deviceLog, .ceWindows, .power, .therm, .boot, .aon, .plan, .planGen, .planTime, .live, .mailboxStudy, .remaps, .test, .pcies, .guards] s (execThermalTrip a0 s) := by
  unfold execThermalTrip
  repeat' (first
    | (with_reducible apply Effect.refl)
    | (with_reducible (apply Effect.next; apply State.trip_effect); decide +kernel)
    | (with_reducible apply EffectR.ready)
    | (with_reducible apply EffectR.next)
    | (with_reducible assumption)
    | (with_reducible apply Effect.foldl <;> intros)
    | (with_reducible apply Effect.ite <;> intros)
    | (with_reducible apply EffectR.ite <;> intros)
    | (split)
    | (dsimp only))

theorem execTripRelease_effect (s) : EffectR [.bootCount, .boot, .test] s (execTripRelease s) := by
  unfold execTripRelease
  repeat' (first
    | ((conv => arg 3; arg 64); refine Effect.upd ?_ (by intro p hp; cases p <;> first | exact Bool.noConfusion hp | rfl))
    | (with_reducible apply Effect.refl)
    | (with_reducible (apply Effect.next; apply State.beginStart_effect); decide +kernel)
    | (with_reducible (apply Effect.next; apply State.modBoot_effect); decide +kernel)
    | (with_reducible apply EffectR.ready)
    | (with_reducible apply EffectR.next)
    | (with_reducible assumption)
    | (with_reducible apply Effect.foldl <;> intros)
    | (with_reducible apply Effect.ite <;> intros)
    | (with_reducible apply EffectR.ite <;> intros)
    | (split)
    | (dsimp only))

theorem State.fitSlope_effect (s) : Effect [.now, .therm] s (State.fitSlope s) := by
  unfold State.fitSlope
  repeat' (first
    | (with_reducible apply Effect.refl)
    | (with_reducible (apply Effect.next; apply State.reach_effect); decide +kernel)
    | (with_reducible (apply Effect.next; apply State.modTherm_effect); decide +kernel)
    | (with_reducible assumption)
    | (with_reducible apply Effect.foldl <;> intros)
    | (with_reducible apply Effect.ite <;> intros)
    | (split)
    | (dsimp only))

theorem execSlopeFit_effect (s) : EffectR [.now, .therm] s (execSlopeFit s) := by
  unfold execSlopeFit
  repeat' (first
    | (with_reducible apply Effect.refl)
    | (with_reducible (apply Effect.next; apply State.fitSlope_effect); decide +kernel)
    | (with_reducible apply EffectR.ready)
    | (with_reducible apply EffectR.next)
    | (with_reducible assumption)
    | (with_reducible apply Effect.foldl <;> intros)
    | (with_reducible apply Effect.ite <;> intros)
    | (with_reducible apply EffectR.ite <;> intros)
    | (split)
    | (dsimp only))

theorem execSlopeCapStep_effect (s) : EffectR [.now, .regs, .sent, .doors, .therm] s (execSlopeCapStep s) := by
  unfold execSlopeCapStep
  repeat' (first
    | (with_reducible apply Effect.refl)
    | (with_reducible (apply Effect.next; apply State.reach_effect); decide +kernel)
    | (with_reducible (apply Effect.next; apply State.thermal_effect); decide +kernel)
    | (with_reducible (apply Effect.next; apply State.modTherm_effect); decide +kernel)
    | (with_reducible apply EffectR.ready)
    | (with_reducible apply EffectR.next)
    | (with_reducible assumption)
    | (with_reducible apply Effect.foldl <;> intros)
    | (with_reducible apply Effect.ite <;> intros)
    | (with_reducible apply EffectR.ite <;> intros)
    | (split)
    | (dsimp only))

theorem State.coolWrite_effect (s a1) : Effect [.regs, .sent, .doors, .therm] s (State.coolWrite s a1) := by
  unfold State.coolWrite
  repeat' (first
    | (with_reducible apply Effect.refl)
    | (with_reducible (apply Effect.next; apply State.modTherm_effect); decide +kernel)
    | (with_reducible (apply Effect.next; apply State.thermal_effect); decide +kernel)
    | (with_reducible assumption)
    | (with_reducible apply Effect.foldl <;> intros)
    | (with_reducible apply Effect.ite <;> intros)
    | (split)
    | (dsimp only))

theorem execThermCoolWrite_effect (a0 a1 s) : EffectR [.regs, .sent, .doors, .therm] s (execThermCoolWrite a0 a1 s) := by
  unfold execThermCoolWrite
  repeat' (first
    | (with_reducible apply Effect.refl)
    | (with_reducible (apply Effect.next; apply State.coolWrite_effect); decide +kernel)
    | (with_reducible apply EffectR.ready)
    | (with_reducible apply EffectR.next)
    | (with_reducible assumption)
    | (with_reducible apply Effect.foldl <;> intros)
    | (with_reducible apply Effect.ite <;> intros)
    | (with_reducible apply EffectR.ite <;> intros)
    | (split)
    | (dsimp only))

theorem execTelemetryStale_effect (s) : EffectR [.now, .therm] s (execTelemetryStale s) := by
  unfold execTelemetryStale
  repeat' (first
    | (with_reducible apply Effect.refl)
    | (with_reducible (apply Effect.next; apply State.modTherm_effect); decide +kernel)
    | (with_reducible (apply Effect.next; apply State.reach_effect); decide +kernel)
    | (with_reducible apply EffectR.ready)
    | (with_reducible apply EffectR.next)
    | (with_reducible assumption)
    | (with_reducible apply Effect.foldl <;> intros)
    | (with_reducible apply Effect.ite <;> intros)
    | (with_reducible apply EffectR.ite <;> intros)
    | (split)
    | (dsimp only))

theorem State.thermCfgWrite_effect (s a1) : Effect [.therm] s (State.thermCfgWrite s a1) := by
  unfold State.thermCfgWrite
  repeat' (first
    | (with_reducible apply Effect.refl)
    | (with_reducible (apply Effect.next; apply State.modTherm_effect); decide +kernel)
    | (with_reducible assumption)
    | (with_reducible apply Effect.foldl <;> intros)
    | (with_reducible apply Effect.ite <;> intros)
    | (split)
    | (dsimp only))

theorem execThermCfgWrite_effect (a0 a1 s) : EffectR [.therm] s (execThermCfgWrite a0 a1 s) := by
  unfold execThermCfgWrite
  repeat' (first
    | (with_reducible apply Effect.refl)
    | (with_reducible (apply Effect.next; apply State.thermCfgWrite_effect); decide +kernel)
    | (with_reducible apply EffectR.ready)
    | (with_reducible apply EffectR.next)
    | (with_reducible assumption)
    | (with_reducible apply Effect.foldl <;> intros)
    | (with_reducible apply Effect.ite <;> intros)
    | (with_reducible apply EffectR.ite <;> intros)
    | (split)
    | (dsimp only))

theorem State.stopDevice_effect (s a1) : Effect [.free, .mem, .poison, .regs, .harts, .rooms, .sent, .insts, .arrays, .attics, .avus, .trees, .dws, .dwOrder, .doors, .sqs, .descs, .completions, .errRings, .wingLogs, .errInFlight, .ceWindows, .therm, .flashLogs, .guards] s (State.stopDevice s a1) := by
  unfold State.stopDevice
  repeat' (first
    | (with_reducible apply Effect.refl)
    | (with_reducible (apply Effect.next; apply State.modTherm_effect); decide +kernel)
    | (with_reducible (apply Effect.next; apply State.thermal_effect); decide +kernel)
    | (with_reducible (apply Effect.next; apply State.thermBit_effect); decide +kernel)
    | (with_reducible (apply Effect.next; apply State.saveCycles_effect); decide +kernel)
    | (with_reducible (apply Effect.next; apply State.graceRoom_effect); decide +kernel)
    | (with_reducible assumption)
    | (with_reducible apply Effect.foldl <;> intros)
    | (with_reducible apply Effect.ite <;> intros)
    | (split)
    | (dsimp only))

theorem execFlowOkLoss_effect (s) : EffectR [.free, .mem, .poison, .regs, .harts, .rooms, .sent, .insts, .arrays, .attics, .avus, .trees, .dws, .dwOrder, .doors, .sqs, .descs, .completions, .errRings, .wingLogs, .errInFlight, .ceWindows, .power, .therm, .flashLogs, .guards] s (execFlowOkLoss s) := by
  unfold execFlowOkLoss
  repeat' (first
    | (with_reducible apply Effect.refl)
    | (with_reducible (apply Effect.next; apply State.lowerTargets_effect); decide +kernel)
    | (with_reducible (apply Effect.next; apply State.modTherm_effect); decide +kernel)
    | (with_reducible (apply Effect.next; apply State.thermal_effect); decide +kernel)
    | (with_reducible (apply Effect.next; apply State.postDie_effect); decide +kernel)
    | (with_reducible (apply Effect.next; apply State.thermBit_effect); decide +kernel)
    | (with_reducible (apply Effect.next; apply State.stopDevice_effect); decide +kernel)
    | (with_reducible apply EffectR.ready)
    | (with_reducible apply EffectR.next)
    | (with_reducible assumption)
    | (with_reducible apply Effect.foldl <;> intros)
    | (with_reducible apply Effect.ite <;> intros)
    | (with_reducible apply EffectR.ite <;> intros)
    | (split)
    | (dsimp only))

theorem execPwrWarn_effect (s) : EffectR [.free, .mem, .poison, .regs, .harts, .rooms, .sent, .insts, .arrays, .attics, .avus, .trees, .dws, .dwOrder, .doors, .sqs, .descs, .completions, .errRings, .wingLogs, .errInFlight, .ceWindows, .therm, .flashLogs, .guards] s (execPwrWarn s) := by
  unfold execPwrWarn
  repeat' (first
    | (with_reducible apply Effect.refl)
    | (with_reducible (apply Effect.next; apply State.stopDevice_effect); decide +kernel)
    | (with_reducible (apply Effect.next; apply State.postDie_effect); decide +kernel)
    | (with_reducible apply EffectR.ready)
    | (with_reducible apply EffectR.next)
    | (with_reducible assumption)
    | (with_reducible apply Effect.foldl <;> intros)
    | (with_reducible apply Effect.ite <;> intros)
    | (with_reducible apply EffectR.ite <;> intros)
    | (split)
    | (dsimp only))

theorem execRailFault_effect (a0 s) : EffectR [.now, .free, .mem, .poison, .regs, .harts, .rooms, .sent, .insts, .arrays, .attics, .avus, .trees, .dws, .dwOrder, .doors, .sqs, .descs, .completions, .errRings, .wingLogs, .errInFlight, .ceWindows, .therm, .flashLogs, .guards] s (execRailFault a0 s) := by
  unfold execRailFault
  repeat' (first
    | (with_reducible apply Effect.refl)
    | (with_reducible (apply Effect.next; apply State.powerError_effect); decide +kernel)
    | (with_reducible (apply Effect.next; apply State.reach_effect); decide +kernel)
    | (with_reducible (apply Effect.next; apply State.stopDevice_effect); decide +kernel)
    | (with_reducible apply EffectR.ready)
    | (with_reducible apply EffectR.next)
    | (with_reducible assumption)
    | (with_reducible apply Effect.foldl <;> intros)
    | (with_reducible apply Effect.ite <;> intros)
    | (with_reducible apply EffectR.ite <;> intros)
    | (split)
    | (dsimp only))

theorem execDeviceStopDrainEnd_effect (s) : EffectR [.now, .therm] s (execDeviceStopDrainEnd s) := by
  unfold execDeviceStopDrainEnd
  repeat' (first
    | (with_reducible apply Effect.refl)
    | (with_reducible (apply Effect.next; apply State.modTherm_effect); decide +kernel)
    | (with_reducible (apply Effect.next; apply State.reach_effect); decide +kernel)
    | (with_reducible apply EffectR.ready)
    | (with_reducible apply EffectR.next)
    | (with_reducible assumption)
    | (with_reducible apply Effect.foldl <;> intros)
    | (with_reducible apply Effect.ite <;> intros)
    | (with_reducible apply EffectR.ite <;> intros)
    | (split)
    | (dsimp only))

theorem State.commit_effect (s a1) : Effect [.now, .free, .mem, .poison, .regs, .harts, .rooms, .tags, .reqs, .exitMsgs, .caches, .sent, .colls, .insts, .keptEnds, .arrays, .attics, .regqs, .avus, .trees, .dws, .dwOrder, .wings, .halls, .modules, .dies, .links, .fabric, .absentDevs, .mailboxes, .doors, .sqs, .cqs, .descs, .nextDesc, .completions, .jobs, .errRings, .wingLogs, .errInFlight, .deviceLog, .flashLog, .deviceSeq, .ceWindows, .power, .therm, .boot, .aon, .flashLogs, .plan, .planGen, .planTime, .live, .mailboxStudy, .remaps, .test, .pcies, .guards] s (State.commit s a1) := by
  unfold State.commit
  repeat' (first
    | (with_reducible apply Effect.refl)
    | (with_reducible (apply Effect.next; apply State.deliverAll_effect); decide +kernel)
    | (with_reducible (apply Effect.next; apply State.saveCycles_effect); decide +kernel)
    | (with_reducible (apply Effect.next; apply State.reach_effect); decide +kernel)
    | (with_reducible (apply Effect.next; apply State.wipe_effect); decide +kernel)
    | (with_reducible (apply Effect.next; apply State.thermal_effect); decide +kernel)
    | (with_reducible (apply Effect.next; apply State.goodbyes_effect); decide +kernel)
    | (with_reducible assumption)
    | (with_reducible apply Effect.foldl <;> intros)
    | (with_reducible apply Effect.ite <;> intros)
    | (split)
    | (dsimp only))

theorem execCommitPoint_effect (s) : EffectR [.now, .free, .mem, .poison, .regs, .harts, .rooms, .tags, .reqs, .exitMsgs, .caches, .sent, .colls, .insts, .keptEnds, .arrays, .attics, .regqs, .avus, .trees, .dws, .dwOrder, .wings, .halls, .modules, .dies, .links, .fabric, .absentDevs, .mailboxes, .doors, .sqs, .cqs, .descs, .nextDesc, .completions, .jobs, .errRings, .wingLogs, .errInFlight, .deviceLog, .flashLog, .deviceSeq, .ceWindows, .power, .therm, .boot, .aon, .flashLogs, .plan, .planGen, .planTime, .live, .mailboxStudy, .remaps, .test, .pcies, .guards] s (execCommitPoint s) := by
  unfold execCommitPoint
  repeat' (first
    | (with_reducible apply Effect.refl)
    | (with_reducible (apply Effect.next; apply State.commit_effect); decide +kernel)
    | (with_reducible apply EffectR.ready)
    | (with_reducible apply EffectR.next)
    | (with_reducible assumption)
    | (with_reducible apply Effect.foldl <;> intros)
    | (with_reducible apply Effect.ite <;> intros)
    | (with_reducible apply EffectR.ite <;> intros)
    | (split)
    | (dsimp only))

theorem State.clearCause_effect (s a1 a2) : Effect [.now, .free, .mem, .poison, .regs, .harts, .rooms, .tags, .reqs, .exitMsgs, .caches, .sent, .colls, .insts, .keptEnds, .arrays, .attics, .regqs, .avus, .trees, .dws, .dwOrder, .wings, .halls, .modules, .dies, .links, .fabric, .bootCount, .absentDevs, .mailboxes, .doors, .sqs, .cqs, .descs, .nextDesc, .completions, .jobs, .errRings, .wingLogs, .errInFlight, .deviceLog, .flashLog, .deviceSeq, .ceWindows, .power, .therm, .boot, .aon, .plan, .planGen, .planTime, .live, .mailboxStudy, .remaps, .test, .pcies, .guards] s (State.clearCause s a1 a2) := by
  unfold State.clearCause
  repeat' (first
    | (with_reducible apply Effect.refl)
    | (with_reducible (apply Effect.next; apply State.modTherm_effect); decide +kernel)
    | (with_reducible (apply Effect.next; apply State.reach_effect); decide +kernel)
    | (with_reducible (apply Effect.next; apply State.thermal_effect); decide +kernel)
    | (with_reducible (apply Effect.next; apply State.askRaises_effect); decide +kernel)
    | (with_reducible (apply Effect.next; apply State.thawChunks_effect); decide +kernel)
    | (with_reducible (apply Effect.next; apply State.warmReset_effect); decide +kernel)
    | (with_reducible assumption)
    | (with_reducible apply Effect.foldl <;> intros)
    | (with_reducible apply Effect.ite <;> intros)
    | (split)
    | (dsimp only))

theorem execDeviceStopResume_effect (a0 s) : EffectR [.now, .free, .mem, .poison, .regs, .harts, .rooms, .tags, .reqs, .exitMsgs, .caches, .sent, .colls, .insts, .keptEnds, .arrays, .attics, .regqs, .avus, .trees, .dws, .dwOrder, .wings, .halls, .modules, .dies, .links, .fabric, .bootCount, .absentDevs, .mailboxes, .doors, .sqs, .cqs, .descs, .nextDesc, .completions, .jobs, .errRings, .wingLogs, .errInFlight, .deviceLog, .flashLog, .deviceSeq, .ceWindows, .power, .therm, .boot, .aon, .plan, .planGen, .planTime, .live, .mailboxStudy, .remaps, .test, .pcies, .guards] s (execDeviceStopResume a0 s) := by
  unfold execDeviceStopResume
  repeat' (first
    | (with_reducible apply Effect.refl)
    | (with_reducible (apply Effect.next; apply State.clearCause_effect); decide +kernel)
    | (with_reducible apply EffectR.ready)
    | (with_reducible apply EffectR.next)
    | (with_reducible assumption)
    | (with_reducible apply Effect.foldl <;> intros)
    | (with_reducible apply Effect.ite <;> intros)
    | (with_reducible apply EffectR.ite <;> intros)
    | (split)
    | (dsimp only))

theorem execKeepWarmStart_effect (a0 s) : EffectR [.arrays, .power, .therm] s (execKeepWarmStart a0 s) := by
  unfold execKeepWarmStart
  repeat' (first
    | (with_reducible apply Effect.refl)
    | (with_reducible (apply Effect.next; apply State.modRtherm_effect); decide +kernel)
    | (with_reducible (apply Effect.next; apply State.modArray_effect); decide +kernel)
    | (with_reducible (apply Effect.next; apply State.useGrant_effect); decide +kernel)
    | (with_reducible apply EffectR.ready)
    | (with_reducible apply EffectR.next)
    | (with_reducible assumption)
    | (with_reducible apply Effect.foldl <;> intros)
    | (with_reducible apply Effect.ite <;> intros)
    | (with_reducible apply EffectR.ite <;> intros)
    | (split)
    | (dsimp only))

theorem execKeepWarmStop_effect (a0 s) : EffectR [.free, .regs, .arrays, .power, .therm] s (execKeepWarmStop a0 s) := by
  unfold execKeepWarmStop
  repeat' (first
    | (with_reducible apply Effect.refl)
    | (with_reducible (apply Effect.next; apply State.modRtherm_effect); decide +kernel)
    | (with_reducible (apply Effect.next; apply State.modArray_effect); decide +kernel)
    | (with_reducible (apply Effect.next; apply State.bump_effect); decide +kernel)
    | (with_reducible (apply Effect.next; apply State.bumpReg_effect); decide +kernel)
    | (with_reducible (apply Effect.next; apply State.useGrant_effect); decide +kernel)
    | (with_reducible apply EffectR.ready)
    | (with_reducible apply EffectR.next)
    | (with_reducible assumption)
    | (with_reducible apply Effect.foldl <;> intros)
    | (with_reducible apply Effect.ite <;> intros)
    | (with_reducible apply EffectR.ite <;> intros)
    | (split)
    | (dsimp only))

theorem execCycleCountSave_effect (s) : EffectR [.now, .flashLogs] s (execCycleCountSave s) := by
  unfold execCycleCountSave
  repeat' (first
    | (with_reducible apply Effect.refl)
    | (with_reducible (apply Effect.next; apply State.saveCycles_effect); decide +kernel)
    | (with_reducible (apply Effect.next; apply State.reach_effect); decide +kernel)
    | (with_reducible apply EffectR.ready)
    | (with_reducible apply EffectR.next)
    | (with_reducible assumption)
    | (with_reducible apply Effect.foldl <;> intros)
    | (with_reducible apply Effect.ite <;> intros)
    | (with_reducible apply EffectR.ite <;> intros)
    | (split)
    | (dsimp only))

theorem State.rotate_effect (s) : Effect [.now, .therm] s (State.rotate s) := by
  unfold State.rotate
  repeat' (first
    | (with_reducible apply Effect.refl)
    | (with_reducible (apply Effect.next; apply State.reach_effect); decide +kernel)
    | (with_reducible (apply Effect.next; apply State.modTherm_effect); decide +kernel)
    | (with_reducible assumption)
    | (with_reducible apply Effect.foldl <;> intros)
    | (with_reducible apply Effect.ite <;> intros)
    | (split)
    | (dsimp only))

theorem execDutyRotation_effect (s) : EffectR [.now, .therm] s (execDutyRotation s) := by
  unfold execDutyRotation
  repeat' (first
    | (with_reducible apply Effect.refl)
    | (with_reducible (apply Effect.next; apply State.rotate_effect); decide +kernel)
    | (with_reducible apply EffectR.ready)
    | (with_reducible apply EffectR.next)
    | (with_reducible assumption)
    | (with_reducible apply Effect.foldl <;> intros)
    | (with_reducible apply Effect.ite <;> intros)
    | (with_reducible apply EffectR.ite <;> intros)
    | (split)
    | (dsimp only))

end Sys2Proof.Machine
end

