-- ==== Sys2Proof/Laws/EffectBoot.lean ====
section
/-! SUPPORT. What the operations and the meanings of Machine/Boot.lean can change: one lemma each. -/
-- The kernel decides the inclusions of each lemma before the next lemma starts.
set_option Elab.async false
set_option linter.all false
namespace Sys2Proof.Machine

theorem State.flashWrite_effect (s a1 a2 a3) : Effect [.flash] s (State.flashWrite s a1 a2 a3) := by
  unfold State.flashWrite
  repeat' (first
    | ((conv => arg 3; arg 64); refine Effect.upd ?_ (by intro p hp; cases p <;> first | exact Bool.noConfusion hp | rfl))
    | (with_reducible apply Effect.refl)
    | (with_reducible assumption)
    | (with_reducible apply Effect.foldl <;> intros)
    | (with_reducible apply Effect.ite <;> intros)
    | (split)
    | (dsimp only))

theorem State.loadOption_effect (s) : Effect [.devId, .power, .boot] s (State.loadOption s) := by
  unfold State.loadOption
  repeat' (first
    | ((conv => arg 3; arg 64); refine Effect.upd ?_ (by intro p hp; cases p <;> first | exact Bool.noConfusion hp | rfl))
    | (with_reducible apply Effect.refl)
    | (with_reducible assumption)
    | (with_reducible apply Effect.foldl <;> intros)
    | (with_reducible apply Effect.ite <;> intros)
    | (split)
    | (dsimp only))

theorem execOptionLoad_effect (s) : EffectR [.devId, .power, .boot] s (execOptionLoad s) := by
  unfold execOptionLoad
  repeat' (first
    | (with_reducible apply Effect.refl)
    | (with_reducible (apply Effect.next; apply State.loadOption_effect); decide +kernel)
    | (with_reducible apply EffectR.ready)
    | (with_reducible apply EffectR.next)
    | (with_reducible assumption)
    | (with_reducible apply Effect.foldl <;> intros)
    | (with_reducible apply Effect.ite <;> intros)
    | (with_reducible apply EffectR.ite <;> intros)
    | (split)
    | (dsimp only))

theorem State.measure_effect (s a1 a2) : Effect [.boot] s (State.measure s a1 a2) := by
  unfold State.measure
  repeat' (first
    | (with_reducible apply Effect.refl)
    | (with_reducible (apply Effect.next; apply State.modBoot_effect); decide +kernel)
    | (with_reducible assumption)
    | (with_reducible apply Effect.foldl <;> intros)
    | (with_reducible apply Effect.ite <;> intros)
    | (split)
    | (dsimp only))

theorem State.writeDirectory_effect (s a1) : Effect [.flash, .flashLogs] s (State.writeDirectory s a1) := by
  unfold State.writeDirectory
  repeat' (first
    | ((conv => arg 3; arg 64); refine Effect.upd ?_ (by intro p hp; cases p <;> first | exact Bool.noConfusion hp | rfl))
    | (with_reducible apply Effect.refl)
    | (with_reducible (apply Effect.next; apply State.flashWrite_effect); decide +kernel)
    | (with_reducible assumption)
    | (with_reducible apply Effect.foldl <;> intros)
    | (with_reducible apply Effect.ite <;> intros)
    | (split)
    | (dsimp only))

theorem State.setSlot_effect (s a1 a2 a3) : Effect [.flash, .flashLogs] s (State.setSlot s a1 a2 a3) := by
  unfold State.setSlot
  repeat' (first
    | (with_reducible apply Effect.refl)
    | (with_reducible (apply Effect.next; apply State.writeDirectory_effect); decide +kernel)
    | (with_reducible assumption)
    | (with_reducible apply Effect.foldl <;> intros)
    | (with_reducible apply Effect.ite <;> intros)
    | (split)
    | (dsimp only))

theorem State.setStart_effect (s a1) : Effect [.flashLogs] s (State.setStart s a1) := by
  unfold State.setStart
  repeat' (first
    | ((conv => arg 3; arg 64); refine Effect.upd ?_ (by intro p hp; cases p <;> first | exact Bool.noConfusion hp | rfl))
    | (with_reducible apply Effect.refl)
    | (with_reducible assumption)
    | (with_reducible apply Effect.foldl <;> intros)
    | (with_reducible apply Effect.ite <;> intros)
    | (split)
    | (dsimp only))

theorem State.appendStart_effect (s a1) : Effect [.flashLogs] s (State.appendStart s a1) := by
  unfold State.appendStart
  repeat' (first
    | (with_reducible apply Effect.refl)
    | (with_reducible (apply Effect.next; apply State.setStart_effect); decide +kernel)
    | (with_reducible assumption)
    | (with_reducible apply Effect.foldl <;> intros)
    | (with_reducible apply Effect.ite <;> intros)
    | (split)
    | (dsimp only))

theorem State.closeAttempt_effect (s a1 a2 a3) : Effect [.flashLogs] s (State.closeAttempt s a1 a2 a3) := by
  unfold State.closeAttempt
  repeat' (first
    | (with_reducible apply Effect.refl)
    | (with_reducible (apply Effect.next; apply State.setStart_effect); decide +kernel)
    | (with_reducible assumption)
    | (with_reducible apply Effect.foldl <;> intros)
    | (with_reducible apply Effect.ite <;> intros)
    | (split)
    | (dsimp only))

theorem State.allOut_effect (s) : Effect [.rooms, .wings] s (State.allOut s) := by
  unfold State.allOut
  repeat' (first
    | (with_reducible apply Effect.refl)
    | (with_reducible (apply Effect.next; apply State.modRoom_effect); decide +kernel)
    | (with_reducible (apply Effect.next; apply State.modWing_effect); decide +kernel)
    | (with_reducible assumption)
    | (with_reducible apply Effect.foldl <;> intros)
    | (with_reducible apply Effect.ite <;> intros)
    | (split)
    | (dsimp only))

theorem State.leaveStart_effect (s a1 a2) : Effect [.regs, .rooms, .sent, .wings, .doors, .boot, .plan, .planGen, .planTime] s (State.leaveStart s a1 a2) := by
  unfold State.leaveStart
  repeat' (first
    | (with_reducible apply Effect.refl)
    | (with_reducible (apply Effect.next; apply State.publish_effect); decide +kernel)
    | (with_reducible (apply Effect.next; apply State.allOut_effect); decide +kernel)
    | (with_reducible (apply Effect.next; apply State.modBoot_effect); decide +kernel)
    | (with_reducible assumption)
    | (with_reducible apply Effect.foldl <;> intros)
    | (with_reducible apply Effect.ite <;> intros)
    | (split)
    | (dsimp only))

theorem State.studyRuns_effect (s a1) : Effect [.regs, .attics, .errRings, .wingLogs, .errInFlight, .ceWindows, .boot, .live] s (State.studyRuns s a1) := by
  unfold State.studyRuns
  repeat' (first
    | (with_reducible apply Effect.refl)
    | (with_reducible (apply Effect.next; apply State.modLive_effect); decide +kernel)
    | (with_reducible (apply Effect.next; apply State.measure_effect); decide +kernel)
    | (with_reducible (apply Effect.next; apply State.postDie_effect); decide +kernel)
    | (with_reducible assumption)
    | (with_reducible apply Effect.foldl <;> intros)
    | (with_reducible apply Effect.ite <;> intros)
    | (split)
    | (dsimp only))

theorem State.vestibule_effect (s a1) : Effect [.regs, .rooms, .sent, .attics, .wings, .doors, .errRings, .wingLogs, .errInFlight, .ceWindows, .boot, .plan, .planGen, .planTime, .live] s (State.vestibule s a1) := by
  unfold State.vestibule
  repeat' (first
    | (with_reducible apply Effect.refl)
    | (with_reducible (apply Effect.next; apply State.leaveStart_effect); decide +kernel)
    | (with_reducible (apply Effect.next; apply State.studyRuns_effect); decide +kernel)
    | (with_reducible (apply Effect.next; apply State.modBoot_effect); decide +kernel)
    | (with_reducible assumption)
    | (with_reducible apply Effect.foldl <;> intros)
    | (with_reducible apply Effect.ite <;> intros)
    | (split)
    | (dsimp only))

theorem State.toPhase_effect (s a1) : Effect [.boot] s (State.toPhase s a1) := by
  unfold State.toPhase
  repeat' (first
    | (with_reducible apply Effect.refl)
    | (with_reducible (apply Effect.next; apply State.modBoot_effect); decide +kernel)
    | (with_reducible assumption)
    | (with_reducible apply Effect.foldl <;> intros)
    | (with_reducible apply Effect.ite <;> intros)
    | (split)
    | (dsimp only))

theorem State.fail_effect (s a1) : Effect [.boot] s (State.fail s a1) := by
  unfold State.fail
  repeat' (first
    | (with_reducible apply Effect.refl)
    | (with_reducible (apply Effect.next; apply State.modBoot_effect); decide +kernel)
    | (with_reducible assumption)
    | (with_reducible apply Effect.foldl <;> intros)
    | (with_reducible apply Effect.ite <;> intros)
    | (split)
    | (dsimp only))

theorem State.endFuses_effect (s) : Effect [.boot] s (State.endFuses s) := by
  unfold State.endFuses
  repeat' (first
    | (with_reducible apply Effect.refl)
    | (with_reducible (apply Effect.next; apply State.toPhase_effect); decide +kernel)
    | (with_reducible (apply Effect.next; apply State.fail_effect); decide +kernel)
    | (with_reducible (apply Effect.next; apply State.modBoot_effect); decide +kernel)
    | (with_reducible assumption)
    | (with_reducible apply Effect.foldl <;> intros)
    | (with_reducible apply Effect.ite <;> intros)
    | (split)
    | (dsimp only))

theorem execBootPhaseFuses_effect (s) : EffectR [.boot] s (execBootPhaseFuses s) := by
  unfold execBootPhaseFuses
  repeat' (first
    | (with_reducible apply Effect.refl)
    | (with_reducible (apply Effect.next; apply State.endFuses_effect); decide +kernel)
    | (with_reducible apply EffectR.ready)
    | (with_reducible apply EffectR.next)
    | (with_reducible assumption)
    | (with_reducible apply Effect.foldl <;> intros)
    | (with_reducible apply Effect.ite <;> intros)
    | (with_reducible apply EffectR.ite <;> intros)
    | (split)
    | (dsimp only))

theorem execBootPhaseOption_effect (s) : EffectR [.regs, .rooms, .sent, .attics, .wings, .doors, .errRings, .wingLogs, .errInFlight, .ceWindows, .boot, .plan, .planGen, .planTime, .live] s (execBootPhaseOption s) := by
  unfold execBootPhaseOption
  repeat' (first
    | (with_reducible apply Effect.refl)
    | (with_reducible (apply Effect.next; apply State.vestibule_effect); decide +kernel)
    | (with_reducible (apply Effect.next; apply State.toPhase_effect); decide +kernel)
    | (with_reducible apply EffectR.ready)
    | (with_reducible apply EffectR.next)
    | (with_reducible assumption)
    | (with_reducible apply Effect.foldl <;> intros)
    | (with_reducible apply Effect.ite <;> intros)
    | (with_reducible apply EffectR.ite <;> intros)
    | (split)
    | (dsimp only))

theorem State.strongroom_effect (s) : Effect [.regs, .rooms, .sent, .attics, .wings, .doors, .errRings, .wingLogs, .errInFlight, .ceWindows, .boot, .flashLogs, .plan, .planGen, .planTime, .live] s (State.strongroom s) := by
  unfold State.strongroom
  repeat' (first
    | (with_reducible apply Effect.refl)
    | (with_reducible (apply Effect.next; apply State.closeAttempt_effect); decide +kernel)
    | (with_reducible (apply Effect.next; apply State.modBoot_effect); decide +kernel)
    | (with_reducible (apply Effect.next; apply State.measure_effect); decide +kernel)
    | (with_reducible (apply Effect.next; apply State.vestibule_effect); decide +kernel)
    | (with_reducible (apply Effect.next; apply State.toPhase_effect); decide +kernel)
    | (with_reducible (apply Effect.next; apply State.appendStart_effect); decide +kernel)
    | (with_reducible assumption)
    | (with_reducible apply Effect.foldl <;> intros)
    | (with_reducible apply Effect.ite <;> intros)
    | (split)
    | (dsimp only))

theorem execBootPhaseStrongroomRom_effect (a0 s) : EffectR [.regs, .rooms, .sent, .attics, .wings, .doors, .errRings, .wingLogs, .errInFlight, .ceWindows, .boot, .flashLogs, .plan, .planGen, .planTime, .live] s (execBootPhaseStrongroomRom a0 s) := by
  unfold execBootPhaseStrongroomRom
  repeat' (first
    | (with_reducible apply Effect.refl)
    | (with_reducible (apply Effect.next; apply State.strongroom_effect); decide +kernel)
    | (with_reducible (apply Effect.next; apply State.fail_effect); decide +kernel)
    | (with_reducible apply EffectR.ready)
    | (with_reducible apply EffectR.next)
    | (with_reducible assumption)
    | (with_reducible apply Effect.foldl <;> intros)
    | (with_reducible apply Effect.ite <;> intros)
    | (with_reducible apply EffectR.ite <;> intros)
    | (split)
    | (dsimp only))

theorem State.startFirmware_effect (s a1 a2) : Effect [.regs, .sent, .attics, .doors, .errRings, .wingLogs, .errInFlight, .ceWindows, .therm, .boot, .aon, .live] s (State.startFirmware s a1 a2) := by
  unfold State.startFirmware
  repeat' (first
    | ((conv => arg 3; arg 64); refine Effect.upd ?_ (by intro p hp; cases p <;> first | exact Bool.noConfusion hp | rfl))
    | (with_reducible apply Effect.refl)
    | (with_reducible (apply Effect.next; apply State.measure_effect); decide +kernel)
    | (with_reducible (apply Effect.next; apply State.studyRuns_effect); decide +kernel)
    | (with_reducible (apply Effect.next; apply State.modLive_effect); decide +kernel)
    | (with_reducible (apply Effect.next; apply State.loadCycles_effect); decide +kernel)
    | (with_reducible (apply Effect.next; apply State.modTherm_effect); decide +kernel)
    | (with_reducible (apply Effect.next; apply State.thermal_effect); decide +kernel)
    | (with_reducible (apply Effect.next; apply State.postDie_effect); decide +kernel)
    | (with_reducible assumption)
    | (with_reducible apply Effect.foldl <;> intros)
    | (with_reducible apply Effect.ite <;> intros)
    | (split)
    | (dsimp only))

theorem State.doorOnly_effect (s) : Effect [.regs, .rooms, .sent, .wings, .doors, .therm, .boot, .plan, .planGen, .planTime] s (State.doorOnly s) := by
  unfold State.doorOnly
  repeat' (first
    | (with_reducible apply Effect.refl)
    | (with_reducible (apply Effect.next; apply State.thermal_effect); decide +kernel)
    | (with_reducible (apply Effect.next; apply State.modTherm_effect); decide +kernel)
    | (with_reducible (apply Effect.next; apply State.leaveStart_effect); decide +kernel)
    | (with_reducible assumption)
    | (with_reducible apply Effect.foldl <;> intros)
    | (with_reducible apply Effect.ite <;> intros)
    | (split)
    | (dsimp only))

theorem State.studyFirmware_effect (s a1) : Effect [.regs, .rooms, .sent, .attics, .wings, .doors, .errRings, .wingLogs, .errInFlight, .ceWindows, .therm, .boot, .aon, .plan, .planGen, .planTime, .live] s (State.studyFirmware s a1) := by
  unfold State.studyFirmware
  repeat' (first
    | (with_reducible apply Effect.refl)
    | (with_reducible (apply Effect.next; apply State.fail_effect); decide +kernel)
    | (with_reducible (apply Effect.next; apply State.startFirmware_effect); decide +kernel)
    | (with_reducible (apply Effect.next; apply State.toPhase_effect); decide +kernel)
    | (with_reducible (apply Effect.next; apply State.doorOnly_effect); decide +kernel)
    | (with_reducible assumption)
    | (with_reducible apply Effect.foldl <;> intros)
    | (with_reducible apply Effect.ite <;> intros)
    | (split)
    | (dsimp only))

theorem execBootPhaseStudyFirmware_effect (a0 s) : EffectR [.regs, .rooms, .sent, .attics, .wings, .doors, .errRings, .wingLogs, .errInFlight, .ceWindows, .therm, .boot, .aon, .plan, .planGen, .planTime, .live] s (execBootPhaseStudyFirmware a0 s) := by
  unfold execBootPhaseStudyFirmware
  repeat' (first
    | (with_reducible apply Effect.refl)
    | (with_reducible (apply Effect.next; apply State.studyFirmware_effect); decide +kernel)
    | (with_reducible apply EffectR.ready)
    | (with_reducible apply EffectR.next)
    | (with_reducible assumption)
    | (with_reducible apply Effect.foldl <;> intros)
    | (with_reducible apply Effect.ite <;> intros)
    | (with_reducible apply EffectR.ite <;> intros)
    | (split)
    | (dsimp only))

theorem execHostTimeout_effect (s) : EffectR [.now, .boot] s (execHostTimeout s) := by
  unfold execHostTimeout
  repeat' (first
    | (with_reducible apply Effect.refl)
    | (with_reducible (apply Effect.next; apply State.fail_effect); decide +kernel)
    | (with_reducible (apply Effect.next; apply State.reach_effect); decide +kernel)
    | (with_reducible apply EffectR.ready)
    | (with_reducible apply EffectR.next)
    | (with_reducible assumption)
    | (with_reducible apply Effect.foldl <;> intros)
    | (with_reducible apply Effect.ite <;> intros)
    | (with_reducible apply EffectR.ite <;> intros)
    | (split)
    | (dsimp only))

theorem State.trainRoom_effect (s a1 a2 a3) : Effect [.regs, .rooms, .attics, .errRings, .wingLogs, .errInFlight, .ceWindows, .flashLogs] s (State.trainRoom s a1 a2 a3) := by
  unfold State.trainRoom
  repeat' (first
    | (with_reducible apply Effect.refl)
    | (with_reducible (apply Effect.next; apply State.modAttic_effect); decide +kernel)
    | (with_reducible (apply Effect.next; apply State.settleRepairs_effect); decide +kernel)
    | (with_reducible (apply Effect.next; apply State.trainStair_effect); decide +kernel)
    | (with_reducible (apply Effect.next; apply State.postRoom_effect); decide +kernel)
    | (with_reducible (apply Effect.next; apply State.modRoom_effect); decide +kernel)
    | (with_reducible assumption)
    | (with_reducible apply Effect.foldl <;> intros)
    | (with_reducible apply Effect.ite <;> intros)
    | (split)
    | (dsimp only))

theorem State.showTrained_effect (s a1) : Effect [.rooms] s (State.showTrained s a1) := by
  unfold State.showTrained
  repeat' (first
    | (with_reducible apply Effect.refl)
    | (with_reducible (apply Effect.next; apply State.modRoom_effect); decide +kernel)
    | (with_reducible assumption)
    | (with_reducible apply Effect.foldl <;> intros)
    | (with_reducible apply Effect.ite <;> intros)
    | (split)
    | (dsimp only))

theorem execStairRecalResume_effect (a0 s) : EffectR [.regs, .sent, .attics, .doors, .plan, .planGen, .planTime] s (execStairRecalResume a0 s) := by
  unfold execStairRecalResume
  repeat' (first
    | (with_reducible apply Effect.refl)
    | (with_reducible (apply Effect.next; apply State.modAttic_effect); decide +kernel)
    | (with_reducible (apply Effect.next; apply State.updatePlan_effect); decide +kernel)
    | (with_reducible apply EffectR.ready)
    | (with_reducible apply EffectR.next)
    | (with_reducible assumption)
    | (with_reducible apply Effect.foldl <;> intros)
    | (with_reducible apply Effect.ite <;> intros)
    | (with_reducible apply EffectR.ite <;> intros)
    | (split)
    | (dsimp only))

theorem State.releaseRoom_effect (s a1 a2) : Effect [.mem, .poison, .regs, .harts, .rooms, .dws, .power] s (State.releaseRoom s a1 a2) := by
  unfold State.releaseRoom
  repeat' (first
    | (with_reducible apply Effect.refl)
    | (with_reducible (apply Effect.next; apply State.writePantry_effect); decide +kernel)
    | (with_reducible (apply Effect.next; apply State.modRoom_effect); decide +kernel)
    | (with_reducible (apply Effect.next; apply State.setHartAt_effect); decide +kernel)
    | (with_reducible (apply Effect.next; apply State.modRpow_effect); decide +kernel)
    | (with_reducible (apply Effect.next; apply State.setRegN_effect); decide +kernel)
    | (with_reducible assumption)
    | (with_reducible apply Effect.foldl <;> intros)
    | (with_reducible apply Effect.ite <;> intros)
    | (split)
    | (dsimp only))

theorem State.releaseAll_effect (s) : Effect [.mem, .poison, .regs, .harts, .rooms, .dws, .power] s (State.releaseAll s) := by
  unfold State.releaseAll
  repeat' (first
    | (with_reducible apply Effect.refl)
    | (with_reducible (apply Effect.next; apply State.modRoom_effect); decide +kernel)
    | (with_reducible (apply Effect.next; apply State.releaseRoom_effect); decide +kernel)
    | (with_reducible assumption)
    | (with_reducible apply Effect.foldl <;> intros)
    | (with_reducible apply Effect.ite <;> intros)
    | (split)
    | (dsimp only))

theorem State.trainReset_effect (s a1 a2 a3) : Effect [.mem, .poison, .regs, .harts, .rooms, .sent, .attics, .dws, .doors, .errRings, .wingLogs, .errInFlight, .ceWindows, .power, .flashLogs, .plan, .planGen, .planTime, .live, .mailboxStudy] s (State.trainReset s a1 a2 a3) := by
  unfold State.trainReset
  repeat' (first
    | (with_reducible apply Effect.refl)
    | (with_reducible (apply Effect.next; apply State.trainRoom_effect); decide +kernel)
    | (with_reducible (apply Effect.next; apply State.useGrant_effect); decide +kernel)
    | (with_reducible (apply Effect.next; apply State.updatePlan_effect); decide +kernel)
    | (with_reducible (apply Effect.next; apply State.mgmtDone_effect); decide +kernel)
    | (with_reducible (apply Effect.next; apply State.setPhase_effect); decide +kernel)
    | (with_reducible (apply Effect.next; apply State.showTrained_effect); decide +kernel)
    | (with_reducible (apply Effect.next; apply State.releaseRoom_effect); decide +kernel)
    | (with_reducible assumption)
    | (with_reducible apply Effect.foldl <;> intros)
    | (with_reducible apply Effect.ite <;> intros)
    | (split)
    | (dsimp only))

theorem execStairTraining_effect (a0 a1 s) : EffectR [.mem, .poison, .regs, .harts, .rooms, .sent, .attics, .dws, .doors, .errRings, .wingLogs, .errInFlight, .ceWindows, .power, .flashLogs, .plan, .planGen, .planTime, .live, .mailboxStudy] s (execStairTraining a0 a1 s) := by
  unfold execStairTraining
  repeat' (first
    | (with_reducible apply Effect.refl)
    | (with_reducible (apply Effect.next; apply State.trainReset_effect); decide +kernel)
    | (with_reducible (apply Effect.next; apply State.showTrained_effect); decide +kernel)
    | (with_reducible (apply Effect.next; apply State.trainRoom_effect); decide +kernel)
    | (with_reducible apply EffectR.ready)
    | (with_reducible apply EffectR.next)
    | (with_reducible assumption)
    | (with_reducible apply Effect.foldl <;> intros)
    | (with_reducible apply Effect.ite <;> intros)
    | (with_reducible apply EffectR.ite <;> intros)
    | (split)
    | (dsimp only))

theorem State.endTrial_effect (s a1 a2) : Effect [.flash, .flashLogs, .live] s (State.endTrial s a1 a2) := by
  unfold State.endTrial
  repeat' (first
    | (with_reducible apply Effect.refl)
    | (with_reducible (apply Effect.next; apply State.setSlot_effect); decide +kernel)
    | (with_reducible (apply Effect.next; apply State.modLive_effect); decide +kernel)
    | (with_reducible assumption)
    | (with_reducible apply Effect.foldl <;> intros)
    | (with_reducible apply Effect.ite <;> intros)
    | (split)
    | (dsimp only))

theorem State.bootEnds_effect (s a1 a2) : Effect [.mem, .poison, .regs, .harts, .rooms, .sent, .attics, .dws, .doors, .errRings, .wingLogs, .errInFlight, .ceWindows, .power, .boot, .flash, .flashLogs, .plan, .planGen, .planTime, .live, .mailboxStudy] s (State.bootEnds s a1 a2) := by
  unfold State.bootEnds
  repeat' (first
    | (with_reducible apply Effect.refl)
    | (with_reducible (apply Effect.next; apply State.modHartAt_effect); decide +kernel)
    | (with_reducible (apply Effect.next; apply State.postRoom_effect); decide +kernel)
    | (with_reducible (apply Effect.next; apply State.modRoom_effect); decide +kernel)
    | (with_reducible (apply Effect.next; apply State.endTrial_effect); decide +kernel)
    | (with_reducible (apply Effect.next; apply State.releaseRoom_effect); decide +kernel)
    | (with_reducible (apply Effect.next; apply State.modBoot_effect); decide +kernel)
    | (with_reducible (apply Effect.next; apply State.updatePlan_effect); decide +kernel)
    | (with_reducible (apply Effect.next; apply State.mgmtDone_effect); decide +kernel)
    | (with_reducible (apply Effect.next; apply State.setPhase_effect); decide +kernel)
    | (with_reducible assumption)
    | (with_reducible apply Effect.foldl <;> intros)
    | (with_reducible apply Effect.ite <;> intros)
    | (split)
    | (dsimp only))

theorem State.bootResult_effect (s a1 a2) : Effect [.mem, .poison, .regs, .harts, .rooms, .sent, .attics, .dws, .doors, .errRings, .wingLogs, .errInFlight, .ceWindows, .power, .boot, .flash, .flashLogs, .plan, .planGen, .planTime, .live, .mailboxStudy] s (State.bootResult s a1 a2) := by
  unfold State.bootResult
  repeat' (first
    | (with_reducible apply Effect.refl)
    | (with_reducible (apply Effect.next; apply State.setReg_effect); decide +kernel)
    | (with_reducible (apply Effect.next; apply State.bootEnds_effect); decide +kernel)
    | (with_reducible assumption)
    | (with_reducible apply Effect.foldl <;> intros)
    | (with_reducible apply Effect.ite <;> intros)
    | (split)
    | (dsimp only))

theorem execRoomBootResult_effect (a0 a1 s) : EffectR [.mem, .poison, .regs, .harts, .rooms, .sent, .attics, .dws, .doors, .errRings, .wingLogs, .errInFlight, .ceWindows, .power, .boot, .flash, .flashLogs, .plan, .planGen, .planTime, .live, .mailboxStudy] s (execRoomBootResult a0 a1 s) := by
  unfold execRoomBootResult
  repeat' (first
    | (with_reducible apply Effect.refl)
    | (with_reducible (apply Effect.next; apply State.bootResult_effect); decide +kernel)
    | (with_reducible apply EffectR.ready)
    | (with_reducible apply EffectR.next)
    | (with_reducible assumption)
    | (with_reducible apply Effect.foldl <;> intros)
    | (with_reducible apply Effect.ite <;> intros)
    | (with_reducible apply EffectR.ite <;> intros)
    | (split)
    | (dsimp only))

theorem execRoomBootTimeout_effect (a0 s) : EffectR [.now, .mem, .poison, .regs, .harts, .rooms, .sent, .attics, .dws, .doors, .errRings, .wingLogs, .errInFlight, .ceWindows, .power, .boot, .flash, .flashLogs, .plan, .planGen, .planTime, .live, .mailboxStudy] s (execRoomBootTimeout a0 s) := by
  unfold execRoomBootTimeout
  repeat' (first
    | (with_reducible apply Effect.refl)
    | (with_reducible (apply Effect.next; apply State.bootEnds_effect); decide +kernel)
    | (with_reducible (apply Effect.next; apply State.reach_effect); decide +kernel)
    | (with_reducible apply EffectR.ready)
    | (with_reducible apply EffectR.next)
    | (with_reducible assumption)
    | (with_reducible apply Effect.foldl <;> intros)
    | (with_reducible apply Effect.ite <;> intros)
    | (with_reducible apply EffectR.ite <;> intros)
    | (split)
    | (dsimp only))

theorem State.wingPart_effect (s a1 a2 a3 a4 a5) : Effect [.regs, .sent, .doors, .live, .mailboxStudy] s (State.wingPart s a1 a2 a3 a4 a5) := by
  unfold State.wingPart
  repeat' (first
    | (with_reducible apply Effect.refl)
    | (with_reducible (apply Effect.next; apply State.modLive_effect); decide +kernel)
    | (with_reducible (apply Effect.next; apply State.mgmtEnd_effect); decide +kernel)
    | (with_reducible assumption)
    | (with_reducible apply Effect.foldl <;> intros)
    | (with_reducible apply Effect.ite <;> intros)
    | (split)
    | (dsimp only))

theorem State.drainEnds_effect (s a1 a2) : Effect [.regs, .sent, .doors, .live, .mailboxStudy] s (State.drainEnds s a1 a2) := by
  unfold State.drainEnds
  repeat' (first
    | (with_reducible apply Effect.refl)
    | (with_reducible (apply Effect.next; apply State.mgmtEnd_effect); decide +kernel)
    | (with_reducible (apply Effect.next; apply State.wingPart_effect); decide +kernel)
    | (with_reducible assumption)
    | (with_reducible apply Effect.foldl <;> intros)
    | (with_reducible apply Effect.ite <;> intros)
    | (split)
    | (dsimp only))

theorem State.releaseBlock_effect (s a1 a2) : Effect [.regs, .rooms, .sent, .wings, .doors, .power, .boot, .plan, .planGen, .planTime, .live, .mailboxStudy] s (State.releaseBlock s a1 a2) := by
  unfold State.releaseBlock
  repeat' (first
    | (with_reducible apply Effect.refl)
    | (with_reducible (apply Effect.next; apply State.endBlock_effect); decide +kernel)
    | (with_reducible (apply Effect.next; apply State.setPhase_effect); decide +kernel)
    | (with_reducible (apply Effect.next; apply State.ask_effect); decide +kernel)
    | (with_reducible (apply Effect.next; apply State.updatePlan_effect); decide +kernel)
    | (with_reducible (apply Effect.next; apply State.drainEnds_effect); decide +kernel)
    | (with_reducible (apply Effect.next; apply State.modRoom_effect); decide +kernel)
    | (with_reducible (apply Effect.next; apply State.modWing_effect); decide +kernel)
    | (with_reducible assumption)
    | (with_reducible apply Effect.foldl <;> intros)
    | (with_reducible apply Effect.ite <;> intros)
    | (split)
    | (dsimp only))

theorem execBlockRelease_effect (a0 s) : EffectR [.regs, .rooms, .sent, .wings, .doors, .power, .boot, .plan, .planGen, .planTime, .live, .mailboxStudy] s (execBlockRelease a0 s) := by
  unfold execBlockRelease
  repeat' (first
    | (with_reducible apply Effect.refl)
    | (with_reducible (apply Effect.next; apply State.releaseBlock_effect); decide +kernel)
    | (with_reducible apply EffectR.ready)
    | (with_reducible apply EffectR.next)
    | (with_reducible assumption)
    | (with_reducible apply Effect.foldl <;> intros)
    | (with_reducible apply Effect.ite <;> intros)
    | (with_reducible apply EffectR.ite <;> intros)
    | (split)
    | (dsimp only))

theorem State.hallStairs_effect (s) : Effect [.regs, .rooms, .sent, .attics, .wings, .halls, .links, .doors, .errRings, .wingLogs, .errInFlight, .ceWindows, .power, .boot, .live, .mailboxStudy, .remaps] s (State.hallStairs s) := by
  unfold State.hallStairs
  repeat' (first
    | (with_reducible apply Effect.refl)
    | (with_reducible (apply Effect.next; apply State.modWing_effect); decide +kernel)
    | (with_reducible (apply Effect.next; apply State.modPower_effect); decide +kernel)
    | (with_reducible (apply Effect.next; apply State.fail_effect); decide +kernel)
    | (with_reducible (apply Effect.next; apply State.toPhase_effect); decide +kernel)
    | (with_reducible (apply Effect.next; apply State.rebuild_effect); decide +kernel)
    | (with_reducible assumption)
    | (with_reducible apply Effect.foldl <;> intros)
    | (with_reducible apply Effect.ite <;> intros)
    | (split)
    | (dsimp only))

theorem execBootPhaseHallStairs_effect (s) : EffectR [.regs, .rooms, .sent, .attics, .wings, .halls, .links, .doors, .errRings, .wingLogs, .errInFlight, .ceWindows, .power, .boot, .live, .mailboxStudy, .remaps] s (execBootPhaseHallStairs s) := by
  unfold execBootPhaseHallStairs
  repeat' (first
    | (with_reducible apply Effect.refl)
    | (with_reducible (apply Effect.next; apply State.hallStairs_effect); decide +kernel)
    | (with_reducible apply EffectR.ready)
    | (with_reducible apply EffectR.next)
    | (with_reducible assumption)
    | (with_reducible apply Effect.foldl <;> intros)
    | (with_reducible apply Effect.ite <;> intros)
    | (with_reducible apply EffectR.ite <;> intros)
    | (split)
    | (dsimp only))

theorem State.porchOut_effect (s a1) : Effect [.regs, .sent, .attics, .dies, .links, .doors, .errRings, .wingLogs, .errInFlight, .ceWindows, .live, .mailboxStudy] s (State.porchOut s a1) := by
  unfold State.porchOut
  repeat' (first
    | (with_reducible apply Effect.refl)
    | (with_reducible (apply Effect.next; apply State.porchLinksDown_effect); decide +kernel)
    | (with_reducible (apply Effect.next; apply State.modDie_effect); decide +kernel)
    | (with_reducible assumption)
    | (with_reducible apply Effect.foldl <;> intros)
    | (with_reducible apply Effect.ite <;> intros)
    | (split)
    | (dsimp only))

theorem State.broadcastImage_effect (s a1 a2) : Effect [.mem, .poison, .regs, .harts, .rooms, .sent, .attics, .dws, .wings, .dies, .links, .doors, .errRings, .wingLogs, .errInFlight, .ceWindows, .power, .boot, .live, .mailboxStudy] s (State.broadcastImage s a1 a2) := by
  unfold State.broadcastImage
  repeat' (first
    | (with_reducible apply Effect.refl)
    | (with_reducible (apply Effect.next; apply State.porchOut_effect); decide +kernel)
    | (with_reducible (apply Effect.next; apply State.modBoot_effect); decide +kernel)
    | (with_reducible (apply Effect.next; apply State.fail_effect); decide +kernel)
    | (with_reducible (apply Effect.next; apply State.measure_effect); decide +kernel)
    | (with_reducible (apply Effect.next; apply State.modLive_effect); decide +kernel)
    | (with_reducible (apply Effect.next; apply State.wingDown_effect); decide +kernel)
    | (with_reducible (apply Effect.next; apply State.releaseAll_effect); decide +kernel)
    | (with_reducible assumption)
    | (with_reducible apply Effect.foldl <;> intros)
    | (with_reducible apply Effect.ite <;> intros)
    | (split)
    | (dsimp only))

theorem execImageBroadcast_effect (a0 a1 s) : EffectR [.mem, .poison, .regs, .harts, .rooms, .sent, .attics, .dws, .wings, .dies, .links, .doors, .errRings, .wingLogs, .errInFlight, .ceWindows, .power, .boot, .live, .mailboxStudy] s (execImageBroadcast a0 a1 s) := by
  unfold execImageBroadcast
  repeat' (first
    | (with_reducible apply Effect.refl)
    | (with_reducible (apply Effect.next; apply State.broadcastImage_effect); decide +kernel)
    | (with_reducible apply EffectR.ready)
    | (with_reducible apply EffectR.next)
    | (with_reducible assumption)
    | (with_reducible apply Effect.foldl <;> intros)
    | (with_reducible apply Effect.ite <;> intros)
    | (with_reducible apply EffectR.ite <;> intros)
    | (split)
    | (dsimp only))

theorem State.startLinks_effect (s) : Effect [.regs, .fabric, .boot] s (State.startLinks s) := by
  unfold State.startLinks
  repeat' (first
    | (with_reducible apply Effect.refl)
    | (with_reducible (apply Effect.next; apply State.setRegN_effect); decide +kernel)
    | (with_reducible (apply Effect.next; apply State.toPhase_effect); decide +kernel)
    | (with_reducible (apply Effect.next; apply State.fillBank_effect); decide +kernel)
    | (with_reducible assumption)
    | (with_reducible apply Effect.foldl <;> intros)
    | (with_reducible apply Effect.ite <;> intros)
    | (split)
    | (dsimp only))

theorem execBootPhaseFwBroadcast_effect (s) : EffectR [.regs, .fabric, .boot] s (execBootPhaseFwBroadcast s) := by
  unfold execBootPhaseFwBroadcast
  repeat' (first
    | (with_reducible apply Effect.refl)
    | (with_reducible (apply Effect.next; apply State.startLinks_effect); decide +kernel)
    | (with_reducible (apply Effect.next; apply State.fail_effect); decide +kernel)
    | (with_reducible apply EffectR.ready)
    | (with_reducible apply EffectR.next)
    | (with_reducible assumption)
    | (with_reducible apply Effect.foldl <;> intros)
    | (with_reducible apply Effect.ite <;> intros)
    | (with_reducible apply EffectR.ite <;> intros)
    | (split)
    | (dsimp only))

theorem execBootPhaseLinks_effect (s) : EffectR [.boot] s (execBootPhaseLinks s) := by
  unfold execBootPhaseLinks
  repeat' (first
    | (with_reducible apply Effect.refl)
    | (with_reducible (apply Effect.next; apply State.toPhase_effect); decide +kernel)
    | (with_reducible apply EffectR.ready)
    | (with_reducible apply EffectR.next)
    | (with_reducible assumption)
    | (with_reducible apply Effect.foldl <;> intros)
    | (with_reducible apply Effect.ite <;> intros)
    | (with_reducible apply EffectR.ite <;> intros)
    | (split)
    | (dsimp only))

theorem State.applySetting_effect (s a1 a2) : Effect [.regs, .sent, .attics, .links, .doors, .errRings, .wingLogs, .errInFlight, .ceWindows, .power, .therm, .live, .mailboxStudy] s (State.applySetting s a1 a2) := by
  unfold State.applySetting
  repeat' (first
    | (with_reducible apply Effect.refl)
    | (with_reducible (apply Effect.next; apply State.writeCap_effect); decide +kernel)
    | (with_reducible (apply Effect.next; apply State.thermCfgWrite_effect); decide +kernel)
    | (with_reducible (apply Effect.next; apply State.linkCfgWrite_effect); decide +kernel)
    | (with_reducible (apply Effect.next; apply State.setRegN_effect); decide +kernel)
    | (with_reducible (apply Effect.next; apply State.modLive_effect); decide +kernel)
    | (with_reducible assumption)
    | (with_reducible apply Effect.foldl <;> intros)
    | (with_reducible apply Effect.ite <;> intros)
    | (split)
    | (dsimp only))

theorem State.applyRegs_effect (s a1) : Effect [.regqs] s (State.applyRegs s a1) := by
  unfold State.applyRegs
  repeat' (first
    | (with_reducible apply Effect.refl)
    | (with_reducible (apply Effect.next; apply State.modRegq_effect); decide +kernel)
    | (with_reducible assumption)
    | (with_reducible apply Effect.foldl <;> intros)
    | (with_reducible apply Effect.ite <;> intros)
    | (split)
    | (dsimp only))

theorem State.applySettings_effect (s) : Effect [.regs, .sent, .attics, .links, .doors, .errRings, .wingLogs, .errInFlight, .ceWindows, .power, .therm, .live, .mailboxStudy] s (State.applySettings s) := by
  unfold State.applySettings
  repeat' (first
    | (with_reducible apply Effect.refl)
    | (with_reducible (apply Effect.next; apply State.applySetting_effect); decide +kernel)
    | (with_reducible assumption)
    | (with_reducible apply Effect.foldl <;> intros)
    | (with_reducible apply Effect.ite <;> intros)
    | (split)
    | (dsimp only))

theorem State.writeSettings_effect (s) : Effect [.flash] s (State.writeSettings s) := by
  unfold State.writeSettings
  repeat' (first
    | (with_reducible apply Effect.refl)
    | (with_reducible (apply Effect.next; apply State.flashWrite_effect); decide +kernel)
    | (with_reducible assumption)
    | (with_reducible apply Effect.foldl <;> intros)
    | (with_reducible apply Effect.ite <;> intros)
    | (split)
    | (dsimp only))

theorem State.readSettings_effect (s) : Effect [.regs, .sent, .attics, .links, .doors, .errRings, .wingLogs, .errInFlight, .ceWindows, .power, .therm, .flash, .live, .mailboxStudy] s (State.readSettings s) := by
  unfold State.readSettings
  repeat' (first
    | (with_reducible apply Effect.refl)
    | (with_reducible (apply Effect.next; apply State.applySettings_effect); decide +kernel)
    | (with_reducible (apply Effect.next; apply State.modLive_effect); decide +kernel)
    | (with_reducible (apply Effect.next; apply State.writeSettings_effect); decide +kernel)
    | (with_reducible assumption)
    | (with_reducible apply Effect.foldl <;> intros)
    | (with_reducible apply Effect.ite <;> intros)
    | (split)
    | (dsimp only))

theorem State.readySettings_effect (s) : Effect [.regs, .sent, .attics, .regqs, .links, .doors, .errRings, .wingLogs, .errInFlight, .ceWindows, .power, .therm, .flash, .flashLogs, .live, .mailboxStudy] s (State.readySettings s) := by
  unfold State.readySettings
  repeat' (first
    | ((conv => arg 3; arg 64); refine Effect.upd ?_ (by intro p hp; cases p <;> first | exact Bool.noConfusion hp | rfl))
    | (with_reducible apply Effect.refl)
    | (with_reducible (apply Effect.next; apply State.applyRegs_effect); decide +kernel)
    | (with_reducible (apply Effect.next; apply State.readSettings_effect); decide +kernel)
    | (with_reducible assumption)
    | (with_reducible apply Effect.foldl <;> intros)
    | (with_reducible apply Effect.ite <;> intros)
    | (split)
    | (dsimp only))

theorem State.clearFail_effect (s) : Effect [.aon] s (State.clearFail s) := by
  unfold State.clearFail
  repeat' (first
    | ((conv => arg 3; arg 64); refine Effect.upd ?_ (by intro p hp; cases p <;> first | exact Bool.noConfusion hp | rfl))
    | (with_reducible apply Effect.refl)
    | (with_reducible assumption)
    | (with_reducible apply Effect.foldl <;> intros)
    | (with_reducible apply Effect.ite <;> intros)
    | (split)
    | (dsimp only))

theorem State.ready_effect (s) : Effect [.regs, .sent, .attics, .regqs, .links, .doors, .errRings, .wingLogs, .errInFlight, .ceWindows, .power, .therm, .boot, .aon, .flash, .flashLogs, .plan, .planGen, .planTime, .live, .mailboxStudy] s (State.ready s) := by
  unfold State.ready
  repeat' (first
    | (with_reducible apply Effect.refl)
    | (with_reducible (apply Effect.next; apply State.modBoot_effect); decide +kernel)
    | (with_reducible (apply Effect.next; apply State.clearFail_effect); decide +kernel)
    | (with_reducible (apply Effect.next; apply State.readySettings_effect); decide +kernel)
    | (with_reducible (apply Effect.next; apply State.postDie_effect); decide +kernel)
    | (with_reducible (apply Effect.next; apply State.closeAttempt_effect); decide +kernel)
    | (with_reducible (apply Effect.next; apply State.publish_effect); decide +kernel)
    | (with_reducible assumption)
    | (with_reducible apply Effect.foldl <;> intros)
    | (with_reducible apply Effect.ite <;> intros)
    | (split)
    | (dsimp only))

theorem execBootPhaseReady_effect (s) : EffectR [.regs, .sent, .attics, .regqs, .links, .doors, .errRings, .wingLogs, .errInFlight, .ceWindows, .power, .therm, .boot, .aon, .flash, .flashLogs, .plan, .planGen, .planTime, .live, .mailboxStudy] s (execBootPhaseReady s) := by
  unfold execBootPhaseReady
  repeat' (first
    | (with_reducible apply Effect.refl)
    | (with_reducible (apply Effect.next; apply State.ready_effect); decide +kernel)
    | (with_reducible apply EffectR.ready)
    | (with_reducible apply EffectR.next)
    | (with_reducible assumption)
    | (with_reducible apply Effect.foldl <;> intros)
    | (with_reducible apply Effect.ite <;> intros)
    | (with_reducible apply EffectR.ite <;> intros)
    | (split)
    | (dsimp only))

theorem execBootPhaseTimeout_effect (s) : EffectR [.now, .boot] s (execBootPhaseTimeout s) := by
  unfold execBootPhaseTimeout
  repeat' (first
    | (with_reducible apply Effect.refl)
    | (with_reducible (apply Effect.next; apply State.reach_effect); decide +kernel)
    | (with_reducible (apply Effect.next; apply State.toPhase_effect); decide +kernel)
    | (with_reducible (apply Effect.next; apply State.fail_effect); decide +kernel)
    | (with_reducible apply EffectR.ready)
    | (with_reducible apply EffectR.next)
    | (with_reducible assumption)
    | (with_reducible apply Effect.foldl <;> intros)
    | (with_reducible apply Effect.ite <;> intros)
    | (with_reducible apply EffectR.ite <;> intros)
    | (split)
    | (dsimp only))

theorem State.failStart_effect (s a1) : Effect [.free, .mem, .poison, .regs, .harts, .rooms, .tags, .reqs, .exitMsgs, .caches, .sent, .colls, .insts, .keptEnds, .arrays, .attics, .regqs, .avus, .trees, .dws, .dwOrder, .wings, .halls, .modules, .dies, .links, .fabric, .bootCount, .absentDevs, .mailboxes, .doors, .sqs, .cqs, .descs, .nextDesc, .completions, .jobs, .errRings, .wingLogs, .errInFlight, .deviceLog, .flashLog, .deviceSeq, .ceWindows, .power, .therm, .boot, .aon, .flashLogs, .plan, .planGen, .planTime, .live, .mailboxStudy, .remaps, .test, .pcies, .guards] s (State.failStart s a1) := by
  unfold State.failStart
  repeat' (first
    | ((conv => arg 3; arg 64); refine Effect.upd ?_ (by intro p hp; cases p <;> first | exact Bool.noConfusion hp | rfl))
    | (with_reducible apply Effect.refl)
    | (with_reducible (apply Effect.next; apply State.closeAttempt_effect); decide +kernel)
    | (with_reducible (apply Effect.next; apply State.warmReset_effect); decide +kernel)
    | (with_reducible (apply Effect.next; apply State.postDie_effect); decide +kernel)
    | (with_reducible assumption)
    | (with_reducible apply Effect.foldl <;> intros)
    | (with_reducible apply Effect.ite <;> intros)
    | (split)
    | (dsimp only))

theorem execFailedStart_effect (s) : EffectR [.free, .mem, .poison, .regs, .harts, .rooms, .tags, .reqs, .exitMsgs, .caches, .sent, .colls, .insts, .keptEnds, .arrays, .attics, .regqs, .avus, .trees, .dws, .dwOrder, .wings, .halls, .modules, .dies, .links, .fabric, .bootCount, .absentDevs, .mailboxes, .doors, .sqs, .cqs, .descs, .nextDesc, .completions, .jobs, .errRings, .wingLogs, .errInFlight, .deviceLog, .flashLog, .deviceSeq, .ceWindows, .power, .therm, .boot, .aon, .flashLogs, .plan, .planGen, .planTime, .live, .mailboxStudy, .remaps, .test, .pcies, .guards] s (execFailedStart s) := by
  unfold execFailedStart
  repeat' (first
    | (with_reducible apply Effect.refl)
    | (with_reducible (apply Effect.next; apply State.failStart_effect); decide +kernel)
    | (with_reducible apply EffectR.ready)
    | (with_reducible apply EffectR.next)
    | (with_reducible assumption)
    | (with_reducible apply Effect.foldl <;> intros)
    | (with_reducible apply Effect.ite <;> intros)
    | (with_reducible apply EffectR.ite <;> intros)
    | (split)
    | (dsimp only))

end Sys2Proof.Machine
end

