-- ==== Sys2Proof/Laws/EffectDoors.lean ====
section
/-! SUPPORT. What the operations and the meanings of Machine/Doors.lean can change: one lemma each. -/
-- The kernel decides the inclusions of each lemma before the next lemma starts.
set_option Elab.async false
set_option linter.all false
namespace Sys2Proof.Machine

theorem State.stopRing_effect (s a1 a2) : Effect [.regs, .sent, .doors, .sqs] s (State.stopRing s a1 a2) := by
  unfold State.stopRing
  repeat' (first
    | (with_reducible apply Effect.refl)
    | (with_reducible (apply Effect.next; apply State.orReg_effect); decide +kernel)
    | (with_reducible (apply Effect.next; apply State.modSq_effect); decide +kernel)
    | (with_reducible (apply Effect.next; apply State.event_effect); decide +kernel)
    | (with_reducible assumption)
    | (with_reducible apply Effect.foldl <;> intros)
    | (with_reducible apply Effect.ite <;> intros)
    | (split)
    | (dsimp only))

theorem State.startRing_effect (s a1) : Effect [.regs, .sent, .doors, .sqs] s (State.startRing s a1) := by
  unfold State.startRing
  repeat' (first
    | (with_reducible apply Effect.refl)
    | (with_reducible (apply Effect.next; apply State.stopRing_effect); decide +kernel)
    | (with_reducible (apply Effect.next; apply State.modSq_effect); decide +kernel)
    | (with_reducible assumption)
    | (with_reducible apply Effect.foldl <;> intros)
    | (with_reducible apply Effect.ite <;> intros)
    | (split)
    | (dsimp only))

theorem State.sqCfgWrite_effect (s a1 a2) : Effect [.regs, .sent, .doors, .sqs] s (State.sqCfgWrite s a1 a2) := by
  unfold State.sqCfgWrite
  repeat' (first
    | (with_reducible apply Effect.refl)
    | (with_reducible (apply Effect.next; apply State.modSq_effect); decide +kernel)
    | (with_reducible (apply Effect.next; apply State.startRing_effect); decide +kernel)
    | (with_reducible (apply Effect.next; apply State.settleSq_effect); decide +kernel)
    | (with_reducible assumption)
    | (with_reducible apply Effect.foldl <;> intros)
    | (with_reducible apply Effect.ite <;> intros)
    | (split)
    | (dsimp only))

theorem execSqCfgWrite_effect (a0 a1 a2 s) : EffectR [.regs, .sent, .doors, .sqs] s (execSqCfgWrite a0 a1 a2 s) := by
  unfold execSqCfgWrite
  repeat' (first
    | (with_reducible apply Effect.refl)
    | (with_reducible (apply Effect.next; apply State.sqCfgWrite_effect); decide +kernel)
    | (with_reducible apply EffectR.ready)
    | (with_reducible apply EffectR.next)
    | (with_reducible assumption)
    | (with_reducible apply Effect.foldl <;> intros)
    | (with_reducible apply Effect.ite <;> intros)
    | (with_reducible apply EffectR.ite <;> intros)
    | (split)
    | (dsimp only))

theorem State.sendVector_effect (s a1 a2) : Effect [.sent, .doors] s (State.sendVector s a1 a2) := by
  unfold State.sendVector
  repeat' (first
    | ((conv => arg 3; arg 64); refine Effect.upd ?_ (by intro p hp; cases p <;> first | exact Bool.noConfusion hp | rfl))
    | (with_reducible apply Effect.refl)
    | (with_reducible (apply Effect.next; apply State.modDoor_effect); decide +kernel)
    | (with_reducible assumption)
    | (with_reducible apply Effect.foldl <;> intros)
    | (with_reducible apply Effect.ite <;> intros)
    | (split)
    | (dsimp only))

theorem State.raiseCq_effect (s a1) : Effect [.sent, .doors, .cqs] s (State.raiseCq s a1) := by
  unfold State.raiseCq
  repeat' (first
    | (with_reducible apply Effect.refl)
    | (with_reducible (apply Effect.next; apply State.sendVector_effect); decide +kernel)
    | (with_reducible (apply Effect.next; apply State.modCq_effect); decide +kernel)
    | (with_reducible assumption)
    | (with_reducible apply Effect.foldl <;> intros)
    | (with_reducible apply Effect.ite <;> intros)
    | (split)
    | (dsimp only))

theorem State.coalesce_effect (s a1) : Effect [.sent, .doors, .cqs] s (State.coalesce s a1) := by
  unfold State.coalesce
  repeat' (first
    | (with_reducible apply Effect.refl)
    | (with_reducible (apply Effect.next; apply State.raiseCq_effect); decide +kernel)
    | (with_reducible assumption)
    | (with_reducible apply Effect.foldl <;> intros)
    | (with_reducible apply Effect.ite <;> intros)
    | (split)
    | (dsimp only))

theorem execMsiXCoalesceTimer_effect (a0 s) : EffectR [.now, .sent, .doors, .cqs] s (execMsiXCoalesceTimer a0 s) := by
  unfold execMsiXCoalesceTimer
  repeat' (first
    | (with_reducible apply Effect.refl)
    | (with_reducible (apply Effect.next; apply State.raiseCq_effect); decide +kernel)
    | (with_reducible (apply Effect.next; apply State.reach_effect); decide +kernel)
    | (with_reducible apply EffectR.ready)
    | (with_reducible apply EffectR.next)
    | (with_reducible assumption)
    | (with_reducible apply Effect.foldl <;> intros)
    | (with_reducible apply Effect.ite <;> intros)
    | (with_reducible apply EffectR.ite <;> intros)
    | (split)
    | (dsimp only))

theorem State.cqCfgWrite_effect (s a1 a2) : Effect [.sent, .doors, .cqs] s (State.cqCfgWrite s a1 a2) := by
  unfold State.cqCfgWrite
  repeat' (first
    | (with_reducible apply Effect.refl)
    | (with_reducible (apply Effect.next; apply State.modCq_effect); decide +kernel)
    | (with_reducible (apply Effect.next; apply State.coalesce_effect); decide +kernel)
    | (with_reducible assumption)
    | (with_reducible apply Effect.foldl <;> intros)
    | (with_reducible apply Effect.ite <;> intros)
    | (split)
    | (dsimp only))

theorem execCqCfgWrite_effect (a0 a1 a2 s) : EffectR [.sent, .doors, .cqs] s (execCqCfgWrite a0 a1 a2 s) := by
  unfold execCqCfgWrite
  repeat' (first
    | (with_reducible apply Effect.refl)
    | (with_reducible (apply Effect.next; apply State.cqCfgWrite_effect); decide +kernel)
    | (with_reducible apply EffectR.ready)
    | (with_reducible apply EffectR.next)
    | (with_reducible assumption)
    | (with_reducible apply Effect.foldl <;> intros)
    | (with_reducible apply Effect.ite <;> intros)
    | (with_reducible apply EffectR.ite <;> intros)
    | (split)
    | (dsimp only))

theorem State.cqPut_effect (s a1 a2 a3 a4 a5) : Effect [.free, .mem, .poison, .regs, .harts, .rooms, .sent, .attics, .dws, .doors, .cqs, .errRings, .wingLogs, .errInFlight, .ceWindows] s (State.cqPut s a1 a2 a3 a4 a5) := by
  unfold State.cqPut
  repeat' (first
    | (with_reducible apply Effect.refl)
    | (with_reducible (apply Effect.next; apply State.memWrite_effect); decide +kernel)
    | (with_reducible (apply Effect.next; apply State.coalesce_effect); decide +kernel)
    | (with_reducible (apply Effect.next; apply State.modCq_effect); decide +kernel)
    | (with_reducible assumption)
    | (with_reducible apply Effect.foldl <;> intros)
    | (with_reducible apply Effect.ite <;> intros)
    | (split)
    | (dsimp only))

theorem execCompletionWrite_effect (a0 s) : EffectR [.free, .mem, .poison, .regs, .harts, .rooms, .sent, .attics, .dws, .doors, .cqs, .completions, .errRings, .wingLogs, .errInFlight, .ceWindows] s (execCompletionWrite a0 s) := by
  unfold execCompletionWrite
  repeat' (first
    | ((conv => arg 3; arg 64); refine Effect.upd ?_ (by intro p hp; cases p <;> first | exact Bool.noConfusion hp | rfl))
    | (with_reducible apply Effect.refl)
    | (with_reducible (apply Effect.next; apply State.freeChan_effect); decide +kernel)
    | (with_reducible (apply Effect.next; apply State.cqPut_effect); decide +kernel)
    | (with_reducible apply EffectR.ready)
    | (with_reducible apply EffectR.next)
    | (with_reducible assumption)
    | (with_reducible apply Effect.foldl <;> intros)
    | (with_reducible apply Effect.ite <;> intros)
    | (with_reducible apply EffectR.ite <;> intros)
    | (split)
    | (dsimp only))

theorem State.cqHead_effect (s a1 a2 a3) : Effect [.regs, .sent, .doors, .cqs] s (State.cqHead s a1 a2 a3) := by
  unfold State.cqHead
  repeat' (first
    | (with_reducible apply Effect.refl)
    | (with_reducible (apply Effect.next; apply State.orReg_effect); decide +kernel)
    | (with_reducible (apply Effect.next; apply State.coalesce_effect); decide +kernel)
    | (with_reducible (apply Effect.next; apply State.modCq_effect); decide +kernel)
    | (with_reducible assumption)
    | (with_reducible apply Effect.foldl <;> intros)
    | (with_reducible apply Effect.ite <;> intros)
    | (split)
    | (dsimp only))

theorem execCqHead_effect (a0 a1 a2 s) : EffectR [.regs, .sent, .doors, .cqs] s (execCqHead a0 a1 a2 s) := by
  unfold execCqHead
  repeat' (first
    | (with_reducible apply Effect.refl)
    | (with_reducible (apply Effect.next; apply State.cqHead_effect); decide +kernel)
    | (with_reducible apply EffectR.ready)
    | (with_reducible apply EffectR.next)
    | (with_reducible assumption)
    | (with_reducible apply Effect.foldl <;> intros)
    | (with_reducible apply Effect.ite <;> intros)
    | (with_reducible apply EffectR.ite <;> intros)
    | (split)
    | (dsimp only))

theorem State.sqTail_effect (s a1 a2 a3) : Effect [.free, .regs, .sent, .doors, .sqs] s (State.sqTail s a1 a2 a3) := by
  unfold State.sqTail
  repeat' (first
    | (with_reducible apply Effect.refl)
    | (with_reducible (apply Effect.next; apply State.orReg_effect); decide +kernel)
    | (with_reducible (apply Effect.next; apply State.modSq_effect); decide +kernel)
    | (with_reducible (apply Effect.next; apply State.bump_effect); decide +kernel)
    | (with_reducible (apply Effect.next; apply State.stopRing_effect); decide +kernel)
    | (with_reducible assumption)
    | (with_reducible apply Effect.foldl <;> intros)
    | (with_reducible apply Effect.ite <;> intros)
    | (split)
    | (dsimp only))

theorem execSqTail_effect (a0 a1 a2 s) : EffectR [.free, .regs, .sent, .doors, .sqs] s (execSqTail a0 a1 a2 s) := by
  unfold execSqTail
  repeat' (first
    | (with_reducible apply Effect.refl)
    | (with_reducible (apply Effect.next; apply State.sqTail_effect); decide +kernel)
    | (with_reducible apply EffectR.ready)
    | (with_reducible apply EffectR.next)
    | (with_reducible assumption)
    | (with_reducible apply Effect.foldl <;> intros)
    | (with_reducible apply Effect.ite <;> intros)
    | (with_reducible apply EffectR.ite <;> intros)
    | (split)
    | (dsimp only))

theorem State.fetch_effect (s a1 a2) : Effect [.free, .doors, .sqs, .descs, .nextDesc] s (State.fetch s a1 a2) := by
  unfold State.fetch
  repeat' (first
    | ((conv => arg 3; arg 64); refine Effect.upd ?_ (by intro p hp; cases p <;> first | exact Bool.noConfusion hp | rfl))
    | (with_reducible apply Effect.refl)
    | (with_reducible (apply Effect.next; apply State.modDoor_effect); decide +kernel)
    | (with_reducible (apply Effect.next; apply State.modSq_effect); decide +kernel)
    | (with_reducible (apply Effect.next; apply State.bump_effect); decide +kernel)
    | (with_reducible assumption)
    | (with_reducible apply Effect.foldl <;> intros)
    | (with_reducible apply Effect.ite <;> intros)
    | (split)
    | (dsimp only))

theorem execDescriptorFetch_effect (a0 a1 s) : EffectR [.free, .regs, .sent, .doors, .sqs, .descs, .nextDesc] s (execDescriptorFetch a0 a1 s) := by
  unfold execDescriptorFetch
  repeat' (first
    | (with_reducible apply Effect.refl)
    | (with_reducible (apply Effect.next; apply State.fetch_effect); decide +kernel)
    | (with_reducible (apply Effect.next; apply State.stopRing_effect); decide +kernel)
    | (with_reducible apply EffectR.ready)
    | (with_reducible apply EffectR.next)
    | (with_reducible assumption)
    | (with_reducible apply Effect.foldl <;> intros)
    | (with_reducible apply Effect.ite <;> intros)
    | (with_reducible apply EffectR.ite <;> intros)
    | (split)
    | (dsimp only))

theorem State.startDesc_effect (s a1) : Effect [.descs] s (State.startDesc s a1) := by
  unfold State.startDesc
  repeat' (first
    | ((conv => arg 3; arg 64); refine Effect.upd ?_ (by intro p hp; cases p <;> first | exact Bool.noConfusion hp | rfl))
    | (with_reducible apply Effect.refl)
    | (with_reducible assumption)
    | (with_reducible apply Effect.foldl <;> intros)
    | (with_reducible apply Effect.ite <;> intros)
    | (split)
    | (dsimp only))

theorem execDescNop_effect (a0 s) : EffectR [.sqs, .descs, .completions] s (execDescNop a0 s) := by
  unfold execDescNop
  repeat' (first
    | (with_reducible apply Effect.refl)
    | (with_reducible (apply Effect.next; apply State.complete_effect); decide +kernel)
    | (with_reducible apply EffectR.ready)
    | (with_reducible apply EffectR.next)
    | (with_reducible assumption)
    | (with_reducible apply Effect.foldl <;> intros)
    | (with_reducible apply Effect.ite <;> intros)
    | (with_reducible apply EffectR.ite <;> intros)
    | (split)
    | (dsimp only))

theorem State.startThread_effect (s a1 a2 a3 a4) : Effect [.harts] s (State.startThread s a1 a2 a3 a4).1 := by
  unfold State.startThread
  repeat' (first
    | (with_reducible apply Effect.refl)
    | (with_reducible (apply Effect.next; apply State.modHart_effect); decide +kernel)
    | (with_reducible assumption)
    | (with_reducible apply Effect.foldl <;> intros)
    | (with_reducible apply Effect.foldlFst <;> intros)
    | (with_reducible apply Effect.ite <;> intros)
    | (with_reducible apply Effect.iteFst <;> intros)
    | (split)
    | (dsimp only))

theorem State.startThreads_effect (s a1 a2) : Effect [.harts] s (State.startThreads s a1 a2).1 := by
  unfold State.startThreads
  repeat' (first
    | (with_reducible apply Effect.refl)
    | (with_reducible (apply Effect.next; apply State.startThread_effect); decide +kernel)
    | (with_reducible (apply Effect.next; apply Effect.fst; case e => assumption; apply State.startThread_effect); decide +kernel)
    | (with_reducible assumption)
    | (with_reducible apply Effect.foldl <;> intros)
    | (with_reducible apply Effect.foldlFst <;> intros)
    | (with_reducible apply Effect.ite <;> intros)
    | (with_reducible apply Effect.iteFst <;> intros)
    | (split)
    | (dsimp only))

theorem State.startJob_effect (s a1 a2) : Effect [.free, .harts, .descs, .jobs] s (State.startJob s a1 a2) := by
  unfold State.startJob
  repeat' (first
    | ((conv => arg 3; arg 64); refine Effect.upd ?_ (by intro p hp; cases p <;> first | exact Bool.noConfusion hp | rfl))
    | (with_reducible apply Effect.refl)
    | (with_reducible (apply Effect.next; apply State.startThreads_effect); decide +kernel)
    | (with_reducible (apply Effect.next; apply Effect.fst; case e => assumption; apply State.startThreads_effect); decide +kernel)
    | (with_reducible (apply Effect.next; apply State.startDesc_effect); decide +kernel)
    | (with_reducible (apply Effect.next; apply State.bump_effect); decide +kernel)
    | (with_reducible assumption)
    | (with_reducible apply Effect.foldl <;> intros)
    | (with_reducible apply Effect.foldlFst <;> intros)
    | (with_reducible apply Effect.ite <;> intros)
    | (with_reducible apply Effect.iteFst <;> intros)
    | (split)
    | (dsimp only))

theorem execDescJob_effect (a0 a1 s) : EffectR [.free, .harts, .sqs, .descs, .completions, .jobs] s (execDescJob a0 a1 s) := by
  unfold execDescJob
  repeat' (first
    | (with_reducible apply Effect.refl)
    | (with_reducible (apply Effect.next; apply State.complete_effect); decide +kernel)
    | (with_reducible (apply Effect.next; apply State.startJob_effect); decide +kernel)
    | (with_reducible apply EffectR.ready)
    | (with_reducible apply EffectR.next)
    | (with_reducible assumption)
    | (with_reducible apply Effect.foldl <;> intros)
    | (with_reducible apply Effect.ite <;> intros)
    | (with_reducible apply EffectR.ite <;> intros)
    | (split)
    | (dsimp only))

theorem execJobComplete_effect (a0 s) : EffectR [.sqs, .descs, .completions, .jobs] s (execJobComplete a0 s) := by
  unfold execJobComplete
  repeat' (first
    | ((conv => arg 3; arg 64); refine Effect.upd ?_ (by intro p hp; cases p <;> first | exact Bool.noConfusion hp | rfl))
    | (with_reducible apply Effect.refl)
    | (with_reducible (apply Effect.next; apply State.complete_effect); decide +kernel)
    | (with_reducible apply EffectR.ready)
    | (with_reducible apply EffectR.next)
    | (with_reducible assumption)
    | (with_reducible apply Effect.foldl <;> intros)
    | (with_reducible apply Effect.ite <;> intros)
    | (with_reducible apply EffectR.ite <;> intros)
    | (split)
    | (dsimp only))

theorem execDescDma_effect (a0 s) : EffectR [.dws, .sqs, .descs, .completions] s (execDescDma a0 s) := by
  unfold execDescDma
  repeat' (first
    | (with_reducible apply Effect.refl)
    | (with_reducible (apply Effect.next; apply State.complete_effect); decide +kernel)
    | (with_reducible (apply Effect.next; apply State.modDw_effect); decide +kernel)
    | (with_reducible (apply Effect.next; apply State.startDesc_effect); decide +kernel)
    | (with_reducible apply EffectR.ready)
    | (with_reducible apply EffectR.next)
    | (with_reducible assumption)
    | (with_reducible apply Effect.foldl <;> intros)
    | (with_reducible apply Effect.ite <;> intros)
    | (with_reducible apply EffectR.ite <;> intros)
    | (split)
    | (dsimp only))

theorem State.addCmd_effect (s a1) : Effect [.live] s (State.addCmd s a1) := by
  unfold State.addCmd
  repeat' (first
    | (with_reducible apply Effect.refl)
    | (with_reducible (apply Effect.next; apply State.modLive_effect); decide +kernel)
    | (with_reducible assumption)
    | (with_reducible apply Effect.foldl <;> intros)
    | (with_reducible apply Effect.ite <;> intros)
    | (split)
    | (dsimp only))

theorem execDescMgmt_effect (a0 s) : EffectR [.sqs, .descs, .completions, .live] s (execDescMgmt a0 s) := by
  unfold execDescMgmt
  repeat' (first
    | (with_reducible apply Effect.refl)
    | (with_reducible (apply Effect.next; apply State.complete_effect); decide +kernel)
    | (with_reducible (apply Effect.next; apply State.addCmd_effect); decide +kernel)
    | (with_reducible (apply Effect.next; apply State.startDesc_effect); decide +kernel)
    | (with_reducible apply EffectR.ready)
    | (with_reducible apply EffectR.next)
    | (with_reducible assumption)
    | (with_reducible apply Effect.foldl <;> intros)
    | (with_reducible apply Effect.ite <;> intros)
    | (with_reducible apply EffectR.ite <;> intros)
    | (split)
    | (dsimp only))

theorem execEventWrite_effect (a0 s) : EffectR [.free, .mem, .poison, .regs, .harts, .rooms, .sent, .attics, .dws, .doors, .cqs, .errRings, .wingLogs, .errInFlight, .ceWindows] s (execEventWrite a0 s) := by
  unfold execEventWrite
  repeat' (first
    | (with_reducible apply Effect.refl)
    | (with_reducible (apply Effect.next; apply State.cqPut_effect); decide +kernel)
    | (with_reducible (apply Effect.next; apply State.modDoor_effect); decide +kernel)
    | (with_reducible apply EffectR.ready)
    | (with_reducible apply EffectR.next)
    | (with_reducible assumption)
    | (with_reducible apply Effect.foldl <;> intros)
    | (with_reducible apply Effect.ite <;> intros)
    | (with_reducible apply EffectR.ite <;> intros)
    | (split)
    | (dsimp only))

theorem State.doorCtrlWrite_effect (s a1 a2) : Effect [.regs] s (State.doorCtrlWrite s a1 a2) := by
  unfold State.doorCtrlWrite
  repeat' (first
    | (with_reducible apply Effect.refl)
    | (with_reducible (apply Effect.next; apply State.writeReg_effect); decide +kernel)
    | (with_reducible (apply Effect.next; apply State.orReg_effect); decide +kernel)
    | (with_reducible assumption)
    | (with_reducible apply Effect.foldl <;> intros)
    | (with_reducible apply Effect.ite <;> intros)
    | (split)
    | (dsimp only))

theorem execDoorCtrlWrite_effect (a0 a1 a2 s) : EffectR [.regs] s (execDoorCtrlWrite a0 a1 a2 s) := by
  unfold execDoorCtrlWrite
  repeat' (first
    | (with_reducible apply Effect.refl)
    | (with_reducible (apply Effect.next; apply State.doorCtrlWrite_effect); decide +kernel)
    | (with_reducible apply EffectR.ready)
    | (with_reducible apply EffectR.next)
    | (with_reducible assumption)
    | (with_reducible apply Effect.foldl <;> intros)
    | (with_reducible apply Effect.ite <;> intros)
    | (with_reducible apply EffectR.ite <;> intros)
    | (split)
    | (dsimp only))

theorem execPerstN_effect (a0 s) : EffectR [.doors, .pcies] s (execPerstN a0 s) := by
  unfold execPerstN
  repeat' (first
    | ((conv => arg 3; arg 64); refine Effect.upd ?_ (by intro p hp; cases p <;> first | exact Bool.noConfusion hp | rfl))
    | (with_reducible apply Effect.refl)
    | (with_reducible (apply Effect.next; apply State.dataLinkDown_effect); decide +kernel)
    | (with_reducible apply EffectR.ready)
    | (with_reducible apply EffectR.next)
    | (with_reducible assumption)
    | (with_reducible apply Effect.foldl <;> intros)
    | (with_reducible apply Effect.ite <;> intros)
    | (with_reducible apply EffectR.ite <;> intros)
    | (split)
    | (dsimp only))

theorem execHostLinkLoss_effect (a0 s) : EffectR [.doors] s (execHostLinkLoss a0 s) := by
  unfold execHostLinkLoss
  repeat' (first
    | (with_reducible apply Effect.refl)
    | (with_reducible (apply Effect.next; apply State.dataLinkDown_effect); decide +kernel)
    | (with_reducible apply EffectR.ready)
    | (with_reducible apply EffectR.next)
    | (with_reducible assumption)
    | (with_reducible apply Effect.foldl <;> intros)
    | (with_reducible apply Effect.ite <;> intros)
    | (with_reducible apply EffectR.ite <;> intros)
    | (split)
    | (dsimp only))

theorem State.loseHost_effect (s a1) : Effect [.regs, .sent, .doors, .sqs] s (State.loseHost s a1) := by
  unfold State.loseHost
  repeat' (first
    | (with_reducible apply Effect.refl)
    | (with_reducible (apply Effect.next; apply State.modSq_effect); decide +kernel)
    | (with_reducible (apply Effect.next; apply State.event_effect); decide +kernel)
    | (with_reducible (apply Effect.next; apply State.modDoor_effect); decide +kernel)
    | (with_reducible assumption)
    | (with_reducible apply Effect.foldl <;> intros)
    | (with_reducible apply Effect.ite <;> intros)
    | (split)
    | (dsimp only))

theorem execHostLost_effect (a0 s) : EffectR [.now, .regs, .sent, .doors, .sqs] s (execHostLost a0 s) := by
  unfold execHostLost
  repeat' (first
    | (with_reducible apply Effect.refl)
    | (with_reducible (apply Effect.next; apply State.loseHost_effect); decide +kernel)
    | (with_reducible (apply Effect.next; apply State.reach_effect); decide +kernel)
    | (with_reducible apply EffectR.ready)
    | (with_reducible apply EffectR.next)
    | (with_reducible assumption)
    | (with_reducible apply Effect.foldl <;> intros)
    | (with_reducible apply Effect.ite <;> intros)
    | (with_reducible apply EffectR.ite <;> intros)
    | (split)
    | (dsimp only))

theorem execDoorRelease_effect (a0 a1 s) : EffectR [.regs, .sent, .doors, .sqs] s (execDoorRelease a0 a1 s) := by
  unfold execDoorRelease
  repeat' (first
    | (with_reducible apply Effect.refl)
    | (with_reducible (apply Effect.next; apply State.loseHost_effect); decide +kernel)
    | (with_reducible apply EffectR.ready)
    | (with_reducible apply EffectR.next)
    | (with_reducible assumption)
    | (with_reducible apply Effect.foldl <;> intros)
    | (with_reducible apply Effect.ite <;> intros)
    | (with_reducible apply EffectR.ite <;> intros)
    | (split)
    | (dsimp only))

theorem execDataLinkUp_effect (a0 s) : EffectR [.doors] s (execDataLinkUp a0 s) := by
  unfold execDataLinkUp
  repeat' (first
    | (with_reducible apply Effect.refl)
    | (with_reducible (apply Effect.next; apply State.modDoor_effect); decide +kernel)
    | (with_reducible apply EffectR.ready)
    | (with_reducible apply EffectR.next)
    | (with_reducible assumption)
    | (with_reducible apply Effect.foldl <;> intros)
    | (with_reducible apply Effect.ite <;> intros)
    | (with_reducible apply EffectR.ite <;> intros)
    | (split)
    | (dsimp only))

theorem State.adopt_effect (s a1 a2) : Effect [.regs, .sent, .doors, .sqs, .completions] s (State.adopt s a1 a2) := by
  unfold State.adopt
  repeat' (first
    | ((conv => arg 3; arg 64); refine Effect.upd ?_ (by intro p hp; cases p <;> first | exact Bool.noConfusion hp | rfl))
    | (with_reducible apply Effect.refl)
    | (with_reducible (apply Effect.next; apply State.orReg_effect); decide +kernel)
    | (with_reducible (apply Effect.next; apply State.modSq_effect); decide +kernel)
    | (with_reducible (apply Effect.next; apply State.startRing_effect); decide +kernel)
    | (with_reducible (apply Effect.next; apply State.modDoor_effect); decide +kernel)
    | (with_reducible assumption)
    | (with_reducible apply Effect.foldl <;> intros)
    | (with_reducible apply Effect.ite <;> intros)
    | (split)
    | (dsimp only))

theorem execDoorAdopt_effect (a0 a1 a2 s) : EffectR [.regs, .sent, .doors, .sqs, .completions] s (execDoorAdopt a0 a1 a2 s) := by
  unfold execDoorAdopt
  repeat' (first
    | (with_reducible apply Effect.refl)
    | (with_reducible (apply Effect.next; apply State.adopt_effect); decide +kernel)
    | (with_reducible apply EffectR.ready)
    | (with_reducible apply EffectR.next)
    | (with_reducible assumption)
    | (with_reducible apply Effect.foldl <;> intros)
    | (with_reducible apply Effect.ite <;> intros)
    | (with_reducible apply EffectR.ite <;> intros)
    | (split)
    | (dsimp only))

theorem State.configured_effect (s a1 a2) : Effect [.sent, .doors, .pcies] s (State.configured s a1 a2) := by
  unfold State.configured
  repeat' (first
    | ((conv => arg 3; arg 64); refine Effect.upd ?_ (by intro p hp; cases p <;> first | exact Bool.noConfusion hp | rfl))
    | (with_reducible apply Effect.refl)
    | (with_reducible (apply Effect.next; apply State.modDoor_effect); decide +kernel)
    | (with_reducible assumption)
    | (with_reducible apply Effect.foldl <;> intros)
    | (with_reducible apply Effect.ite <;> intros)
    | (split)
    | (dsimp only))

theorem execConfigRequest_effect (a0 a1 s) : EffectR [.sent, .doors, .pcies] s (execConfigRequest a0 a1 s) := by
  unfold execConfigRequest
  repeat' (first
    | ((conv => arg 3; arg 64); refine Effect.upd ?_ (by intro p hp; cases p <;> first | exact Bool.noConfusion hp | rfl))
    | (with_reducible apply Effect.refl)
    | (with_reducible (apply Effect.next; apply State.configured_effect); decide +kernel)
    | (with_reducible apply EffectR.ready)
    | (with_reducible apply EffectR.next)
    | (with_reducible assumption)
    | (with_reducible apply Effect.foldl <;> intros)
    | (with_reducible apply Effect.ite <;> intros)
    | (with_reducible apply EffectR.ite <;> intros)
    | (split)
    | (dsimp only))

end Sys2Proof.Machine
end

