-- ==== Sys2Proof/Laws/EffectLive.lean ====
section
/-! SUPPORT. What the operations and the meanings of Machine/Live.lean can change: one lemma each. -/
-- The kernel decides the inclusions of each lemma before the next lemma starts.
set_option Elab.async false
set_option linter.all false
namespace Sys2Proof.Machine

theorem State.mailboxAnswer_effect (s a1 a2 a3 a4 a5) : Effect [.mailboxStudy] s (State.mailboxAnswer s a1 a2 a3 a4 a5) := by
  unfold State.mailboxAnswer
  repeat' (first
    | ((conv => arg 3; arg 64); refine Effect.upd ?_ (by intro p hp; cases p <;> first | exact Bool.noConfusion hp | rfl))
    | (with_reducible apply Effect.refl)
    | (with_reducible assumption)
    | (with_reducible apply Effect.foldl <;> intros)
    | (with_reducible apply Effect.ite <;> intros)
    | (split)
    | (dsimp only))

theorem State.dropCmd_effect (s a1) : Effect [.live] s (State.dropCmd s a1) := by
  unfold State.dropCmd
  repeat' (first
    | (with_reducible apply Effect.refl)
    | (with_reducible (apply Effect.next; apply State.modLive_effect); decide +kernel)
    | (with_reducible assumption)
    | (with_reducible apply Effect.foldl <;> intros)
    | (with_reducible apply Effect.ite <;> intros)
    | (split)
    | (dsimp only))

theorem State.mgmtAnswer_effect (s a1 a2 a3 a4) : Effect [.sqs, .descs, .completions, .live, .mailboxStudy] s (State.mgmtAnswer s a1 a2 a3 a4) := by
  unfold State.mgmtAnswer
  repeat' (first
    | (with_reducible apply Effect.refl)
    | (with_reducible (apply Effect.next; apply State.complete_effect); decide +kernel)
    | (with_reducible (apply Effect.next; apply State.mailboxAnswer_effect); decide +kernel)
    | (with_reducible (apply Effect.next; apply State.dropCmd_effect); decide +kernel)
    | (with_reducible (apply Effect.next; apply State.addCmd_effect); decide +kernel)
    | (with_reducible assumption)
    | (with_reducible apply Effect.foldl <;> intros)
    | (with_reducible apply Effect.ite <;> intros)
    | (split)
    | (dsimp only))

theorem State.beginCmd_effect (s a1) : Effect [.live] s (State.beginCmd s a1) := by
  unfold State.beginCmd
  repeat' (first
    | (with_reducible apply Effect.refl)
    | (with_reducible (apply Effect.next; apply State.modLive_effect); decide +kernel)
    | (with_reducible assumption)
    | (with_reducible apply Effect.foldl <;> intros)
    | (with_reducible apply Effect.ite <;> intros)
    | (split)
    | (dsimp only))

theorem State.bufWrite_effect (s a1 a2) : Effect [.free, .mem, .poison, .regs, .harts, .rooms, .attics, .dws, .errRings, .wingLogs, .errInFlight, .ceWindows] s (State.bufWrite s a1 a2) := by
  unfold State.bufWrite
  repeat' (first
    | (with_reducible apply Effect.refl)
    | (with_reducible (apply Effect.next; apply State.memWrite_effect); decide +kernel)
    | (with_reducible assumption)
    | (with_reducible apply Effect.foldl <;> intros)
    | (with_reducible apply Effect.ite <;> intros)
    | (split)
    | (dsimp only))

theorem State.markDrain_effect (s a1) : Effect [.regs, .rooms, .attics, .mailboxes, .errRings, .wingLogs, .errInFlight, .ceWindows] s (State.markDrain s a1) := by
  unfold State.markDrain
  repeat' (first
    | (with_reducible apply Effect.refl)
    | (with_reducible (apply Effect.next; apply State.mail_effect); decide +kernel)
    | (with_reducible (apply Effect.next; apply State.postRoom_effect); decide +kernel)
    | (with_reducible (apply Effect.next; apply State.modRoom_effect); decide +kernel)
    | (with_reducible assumption)
    | (with_reducible apply Effect.foldl <;> intros)
    | (with_reducible apply Effect.ite <;> intros)
    | (split)
    | (dsimp only))

theorem State.drainStart_effect (s a1) : Effect [.regs, .rooms, .sent, .attics, .mailboxes, .doors, .errRings, .wingLogs, .errInFlight, .ceWindows, .plan, .planGen, .planTime, .live, .mailboxStudy] s (State.drainStart s a1) := by
  unfold State.drainStart
  repeat' (first
    | (with_reducible apply Effect.refl)
    | (with_reducible (apply Effect.next; apply State.updatePlan_effect); decide +kernel)
    | (with_reducible (apply Effect.next; apply State.markDrain_effect); decide +kernel)
    | (with_reducible (apply Effect.next; apply State.drainEnds_effect); decide +kernel)
    | (with_reducible assumption)
    | (with_reducible apply Effect.foldl <;> intros)
    | (with_reducible apply Effect.ite <;> intros)
    | (split)
    | (dsimp only))

theorem execRoomDrain_effect (a0 s) : EffectR [.regs, .rooms, .sent, .attics, .mailboxes, .doors, .sqs, .descs, .completions, .errRings, .wingLogs, .errInFlight, .ceWindows, .plan, .planGen, .planTime, .live, .mailboxStudy] s (execRoomDrain a0 s) := by
  unfold execRoomDrain mgmtRun State.serviceCmd
  repeat' (first
    | (with_reducible apply Effect.refl)
    | (with_reducible (apply Effect.next; apply State.beginCmd_effect); decide +kernel)
    | (with_reducible (apply Effect.next; apply State.mgmtAnswer_effect); decide +kernel)
    | (with_reducible (apply Effect.next; apply State.drainStart_effect); decide +kernel)
    | (with_reducible apply EffectR.ready)
    | (with_reducible apply EffectR.next)
    | (with_reducible assumption)
    | (with_reducible apply Effect.foldl <;> intros)
    | (with_reducible apply Effect.ite <;> intros)
    | (with_reducible apply EffectR.ite <;> intros)
    | (split)
    | (dsimp only [id]))

theorem execDrainEmpty_effect (a0 s) : EffectR [.regs, .rooms, .sent, .doors, .live, .mailboxStudy] s (execDrainEmpty a0 s) := by
  unfold execDrainEmpty
  repeat' (first
    | (with_reducible apply Effect.refl)
    | (with_reducible (apply Effect.next; apply State.setPhase_effect); decide +kernel)
    | (with_reducible (apply Effect.next; apply State.drainEnds_effect); decide +kernel)
    | (with_reducible apply EffectR.ready)
    | (with_reducible apply EffectR.next)
    | (with_reducible assumption)
    | (with_reducible apply Effect.foldl <;> intros)
    | (with_reducible apply Effect.ite <;> intros)
    | (with_reducible apply EffectR.ite <;> intros)
    | (split)
    | (dsimp only))

theorem execDrainForce_effect (a0 s) : EffectR [.now, .rooms, .boot] s (execDrainForce a0 s) := by
  unfold execDrainForce
  repeat' (first
    | (with_reducible apply Effect.refl)
    | (with_reducible (apply Effect.next; apply State.startReset_effect); decide +kernel)
    | (with_reducible (apply Effect.next; apply State.reach_effect); decide +kernel)
    | (with_reducible apply EffectR.ready)
    | (with_reducible apply EffectR.next)
    | (with_reducible assumption)
    | (with_reducible apply Effect.foldl <;> intros)
    | (with_reducible apply Effect.ite <;> intros)
    | (with_reducible apply EffectR.ite <;> intros)
    | (split)
    | (dsimp only))

theorem State.wingDrainStart_effect (s a1) : Effect [.regs, .rooms, .sent, .attics, .wings, .mailboxes, .doors, .errRings, .wingLogs, .errInFlight, .ceWindows, .plan, .planGen, .planTime, .live, .mailboxStudy] s (State.wingDrainStart s a1) := by
  unfold State.wingDrainStart
  repeat' (first
    | (with_reducible apply Effect.refl)
    | (with_reducible (apply Effect.next; apply State.markDrain_effect); decide +kernel)
    | (with_reducible (apply Effect.next; apply State.updatePlan_effect); decide +kernel)
    | (with_reducible (apply Effect.next; apply State.modWing_effect); decide +kernel)
    | (with_reducible (apply Effect.next; apply State.wingPart_effect); decide +kernel)
    | (with_reducible assumption)
    | (with_reducible apply Effect.foldl <;> intros)
    | (with_reducible apply Effect.ite <;> intros)
    | (split)
    | (dsimp only))

theorem execWingDrain_effect (a0 s) : EffectR [.regs, .rooms, .sent, .attics, .wings, .mailboxes, .doors, .sqs, .descs, .completions, .errRings, .wingLogs, .errInFlight, .ceWindows, .plan, .planGen, .planTime, .live, .mailboxStudy] s (execWingDrain a0 s) := by
  unfold execWingDrain mgmtRun State.serviceCmd
  repeat' (first
    | (with_reducible apply Effect.refl)
    | (with_reducible (apply Effect.next; apply State.beginCmd_effect); decide +kernel)
    | (with_reducible (apply Effect.next; apply State.mgmtAnswer_effect); decide +kernel)
    | (with_reducible (apply Effect.next; apply State.wingDrainStart_effect); decide +kernel)
    | (with_reducible apply EffectR.ready)
    | (with_reducible apply EffectR.next)
    | (with_reducible assumption)
    | (with_reducible apply Effect.foldl <;> intros)
    | (with_reducible apply Effect.ite <;> intros)
    | (with_reducible apply EffectR.ite <;> intros)
    | (split)
    | (dsimp only [id]))

theorem execRoomReadmit_effect (a0 s) : EffectR [.rooms, .sqs, .descs, .completions, .boot, .live, .mailboxStudy] s (execRoomReadmit a0 s) := by
  unfold execRoomReadmit mgmtRun State.serviceCmd
  repeat' (first
    | (with_reducible apply Effect.refl)
    | (with_reducible (apply Effect.next; apply State.beginCmd_effect); decide +kernel)
    | (with_reducible (apply Effect.next; apply State.mgmtAnswer_effect); decide +kernel)
    | (with_reducible (apply Effect.next; apply State.startReset_effect); decide +kernel)
    | (with_reducible apply EffectR.ready)
    | (with_reducible apply EffectR.next)
    | (with_reducible assumption)
    | (with_reducible apply Effect.foldl <;> intros)
    | (with_reducible apply Effect.ite <;> intros)
    | (with_reducible apply EffectR.ite <;> intros)
    | (split)
    | (dsimp only [id]))

theorem State.readmitEnds_effect (s a1 a2) : Effect [.regs, .sent, .doors, .live, .mailboxStudy] s (State.readmitEnds s a1 a2) := by
  unfold State.readmitEnds
  repeat' (first
    | (with_reducible apply Effect.refl)
    | (with_reducible (apply Effect.next; apply State.mgmtEnd_effect); decide +kernel)
    | (with_reducible (apply Effect.next; apply State.wingPart_effect); decide +kernel)
    | (with_reducible assumption)
    | (with_reducible apply Effect.foldl <;> intros)
    | (with_reducible apply Effect.ite <;> intros)
    | (split)
    | (dsimp only))

theorem State.readmitFails_effect (s a1 a2) : Effect [.regs, .rooms, .sent, .doors, .plan, .planGen, .planTime, .live, .mailboxStudy] s (State.readmitFails s a1 a2) := by
  unfold State.readmitFails
  repeat' (first
    | (with_reducible apply Effect.refl)
    | (with_reducible (apply Effect.next; apply State.updatePlan_effect); decide +kernel)
    | (with_reducible (apply Effect.next; apply State.readmitEnds_effect); decide +kernel)
    | (with_reducible (apply Effect.next; apply State.modRoom_effect); decide +kernel)
    | (with_reducible assumption)
    | (with_reducible apply Effect.foldl <;> intros)
    | (with_reducible apply Effect.ite <;> intros)
    | (split)
    | (dsimp only))

theorem State.readmitTrain_effect (s a1 a2 a3) : Effect [.mem, .poison, .regs, .harts, .rooms, .sent, .attics, .dws, .doors, .errRings, .wingLogs, .errInFlight, .ceWindows, .power, .flashLogs, .plan, .planGen, .planTime, .live, .mailboxStudy] s (State.readmitTrain s a1 a2 a3) := by
  unfold State.readmitTrain
  repeat' (first
    | (with_reducible apply Effect.refl)
    | (with_reducible (apply Effect.next; apply State.trainRoom_effect); decide +kernel)
    | (with_reducible (apply Effect.next; apply State.readmitFails_effect); decide +kernel)
    | (with_reducible (apply Effect.next; apply State.updatePlan_effect); decide +kernel)
    | (with_reducible (apply Effect.next; apply State.readmitEnds_effect); decide +kernel)
    | (with_reducible (apply Effect.next; apply State.setPhase_effect); decide +kernel)
    | (with_reducible (apply Effect.next; apply State.showTrained_effect); decide +kernel)
    | (with_reducible (apply Effect.next; apply State.releaseRoom_effect); decide +kernel)
    | (with_reducible assumption)
    | (with_reducible apply Effect.foldl <;> intros)
    | (with_reducible apply Effect.ite <;> intros)
    | (split)
    | (dsimp only))

theorem execReadmitTrain_effect (a0 a1 s) : EffectR [.mem, .poison, .regs, .harts, .rooms, .sent, .attics, .dws, .doors, .errRings, .wingLogs, .errInFlight, .ceWindows, .power, .flashLogs, .plan, .planGen, .planTime, .live, .mailboxStudy] s (execReadmitTrain a0 a1 s) := by
  unfold execReadmitTrain
  repeat' (first
    | (with_reducible apply Effect.refl)
    | (with_reducible (apply Effect.next; apply State.readmitTrain_effect); decide +kernel)
    | (with_reducible apply EffectR.ready)
    | (with_reducible apply EffectR.next)
    | (with_reducible assumption)
    | (with_reducible apply Effect.foldl <;> intros)
    | (with_reducible apply Effect.ite <;> intros)
    | (with_reducible apply EffectR.ite <;> intros)
    | (split)
    | (dsimp only))

theorem execReadmitBoot_effect (a0 s) : EffectR [.regs, .rooms, .sent, .attics, .doors, .errRings, .wingLogs, .errInFlight, .ceWindows, .plan, .planGen, .planTime, .live, .mailboxStudy] s (execReadmitBoot a0 s) := by
  unfold execReadmitBoot
  repeat' (first
    | (with_reducible apply Effect.refl)
    | (with_reducible (apply Effect.next; apply State.setPhase_effect); decide +kernel)
    | (with_reducible (apply Effect.next; apply State.postRoom_effect); decide +kernel)
    | (with_reducible (apply Effect.next; apply State.readmitFails_effect); decide +kernel)
    | (with_reducible apply EffectR.ready)
    | (with_reducible apply EffectR.next)
    | (with_reducible assumption)
    | (with_reducible apply Effect.foldl <;> intros)
    | (with_reducible apply Effect.ite <;> intros)
    | (with_reducible apply EffectR.ite <;> intros)
    | (split)
    | (dsimp only))

theorem execReadmitResync_effect (a0 s) : EffectR [.rooms, .regqs, .power] s (execReadmitResync a0 s) := by
  unfold execReadmitResync
  repeat' (first
    | (with_reducible apply Effect.refl)
    | (with_reducible (apply Effect.next; apply State.setPhase_effect); decide +kernel)
    | (with_reducible (apply Effect.next; apply State.modRpow_effect); decide +kernel)
    | (with_reducible (apply Effect.next; apply State.applyRegs_effect); decide +kernel)
    | (with_reducible (apply Effect.next; apply State.useGrant_effect); decide +kernel)
    | (with_reducible apply EffectR.ready)
    | (with_reducible apply EffectR.next)
    | (with_reducible assumption)
    | (with_reducible apply Effect.foldl <;> intros)
    | (with_reducible apply Effect.ite <;> intros)
    | (with_reducible apply EffectR.ite <;> intros)
    | (split)
    | (dsimp only))

theorem State.readmitPublish_effect (s a1) : Effect [.regs, .rooms, .sent, .mailboxes, .doors, .therm, .plan, .planGen, .planTime, .live, .mailboxStudy] s (State.readmitPublish s a1) := by
  unfold State.readmitPublish
  repeat' (first
    | (with_reducible apply Effect.refl)
    | (with_reducible (apply Effect.next; apply State.modRoom_effect); decide +kernel)
    | (with_reducible (apply Effect.next; apply State.modRtherm_effect); decide +kernel)
    | (with_reducible (apply Effect.next; apply State.readmitEnds_effect); decide +kernel)
    | (with_reducible (apply Effect.next; apply State.mail_effect); decide +kernel)
    | (with_reducible (apply Effect.next; apply State.updatePlan_effect); decide +kernel)
    | (with_reducible assumption)
    | (with_reducible apply Effect.foldl <;> intros)
    | (with_reducible apply Effect.ite <;> intros)
    | (split)
    | (dsimp only))

theorem execReadmitPublish_effect (a0 s) : EffectR [.regs, .rooms, .sent, .mailboxes, .doors, .therm, .plan, .planGen, .planTime, .live, .mailboxStudy] s (execReadmitPublish a0 s) := by
  unfold execReadmitPublish
  repeat' (first
    | (with_reducible apply Effect.refl)
    | (with_reducible (apply Effect.next; apply State.readmitPublish_effect); decide +kernel)
    | (with_reducible apply EffectR.ready)
    | (with_reducible apply EffectR.next)
    | (with_reducible assumption)
    | (with_reducible apply Effect.foldl <;> intros)
    | (with_reducible apply Effect.ite <;> intros)
    | (with_reducible apply EffectR.ite <;> intros)
    | (split)
    | (dsimp only))

theorem execWingReadmit_effect (a0 s) : EffectR [.rooms, .sqs, .descs, .completions, .boot, .live, .mailboxStudy] s (execWingReadmit a0 s) := by
  unfold execWingReadmit mgmtRun State.serviceCmd
  repeat' (first
    | (with_reducible apply Effect.refl)
    | (with_reducible (apply Effect.next; apply State.beginCmd_effect); decide +kernel)
    | (with_reducible (apply Effect.next; apply State.mgmtAnswer_effect); decide +kernel)
    | (with_reducible (apply Effect.next; apply State.startReset_effect); decide +kernel)
    | (with_reducible apply EffectR.ready)
    | (with_reducible apply EffectR.next)
    | (with_reducible assumption)
    | (with_reducible apply Effect.foldl <;> intros)
    | (with_reducible apply Effect.ite <;> intros)
    | (with_reducible apply EffectR.ite <;> intros)
    | (split)
    | (dsimp only [id]))

theorem State.roomReset_effect (s a1) : Effect [.regs, .rooms, .sent, .doors, .boot, .plan, .planGen, .planTime] s (State.roomReset s a1) := by
  unfold State.roomReset
  repeat' (first
    | (with_reducible apply Effect.refl)
    | (with_reducible (apply Effect.next; apply State.modRoom_effect); decide +kernel)
    | (with_reducible (apply Effect.next; apply State.startReset_effect); decide +kernel)
    | (with_reducible (apply Effect.next; apply State.updatePlan_effect); decide +kernel)
    | (with_reducible assumption)
    | (with_reducible apply Effect.foldl <;> intros)
    | (with_reducible apply Effect.ite <;> intros)
    | (split)
    | (dsimp only))

theorem execRoomReset_effect (a0 s) : EffectR [.regs, .rooms, .sent, .doors, .sqs, .descs, .completions, .boot, .plan, .planGen, .planTime, .live, .mailboxStudy] s (execRoomReset a0 s) := by
  unfold execRoomReset mgmtRun State.serviceCmd
  repeat' (first
    | (with_reducible apply Effect.refl)
    | (with_reducible (apply Effect.next; apply State.beginCmd_effect); decide +kernel)
    | (with_reducible (apply Effect.next; apply State.mgmtAnswer_effect); decide +kernel)
    | (with_reducible (apply Effect.next; apply State.roomReset_effect); decide +kernel)
    | (with_reducible apply EffectR.ready)
    | (with_reducible apply EffectR.next)
    | (with_reducible assumption)
    | (with_reducible apply Effect.foldl <;> intros)
    | (with_reducible apply Effect.ite <;> intros)
    | (with_reducible apply EffectR.ite <;> intros)
    | (split)
    | (dsimp only [id]))

theorem State.stage_effect (s a1 a2) : Effect [.flash, .flashLogs] s (State.stage s a1 a2).1 := by
  unfold State.stage
  repeat' (first
    | (with_reducible apply Effect.refl)
    | (with_reducible (apply Effect.next; apply State.flashWrite_effect); decide +kernel)
    | (with_reducible (apply Effect.next; apply State.writeDirectory_effect); decide +kernel)
    | (with_reducible assumption)
    | (with_reducible apply Effect.foldl <;> intros)
    | (with_reducible apply Effect.foldlFst <;> intros)
    | (with_reducible apply Effect.ite <;> intros)
    | (with_reducible apply Effect.iteFst <;> intros)
    | (split)
    | (dsimp only))

theorem execFwStage_effect (a0 s) : EffectR [.regs, .sent, .doors, .sqs, .descs, .completions, .flash, .flashLogs, .live, .mailboxStudy] s (execFwStage a0 s) := by
  unfold execFwStage mgmtRun State.acceptAnd
  repeat' (first
    | (with_reducible apply Effect.refl)
    | (with_reducible (apply Effect.next; apply State.mgmtAnswer_effect); decide +kernel)
    | (with_reducible (apply Effect.next; apply State.mgmtEnd_effect); decide +kernel)
    | (with_reducible (apply Effect.next; apply State.stage_effect); decide +kernel)
    | (with_reducible (apply Effect.next; apply Effect.fst; case e => assumption; apply State.stage_effect); decide +kernel)
    | (with_reducible apply EffectR.ready)
    | (with_reducible apply EffectR.next)
    | (with_reducible assumption)
    | (with_reducible apply Effect.foldl <;> intros)
    | (with_reducible apply Effect.foldlFst <;> intros)
    | (with_reducible apply Effect.ite <;> intros)
    | (with_reducible apply Effect.iteFst <;> intros)
    | (with_reducible apply EffectR.ite <;> intros)
    | (split)
    | (dsimp only [id]))

theorem State.beginTrial_effect (s a1) : Effect [.live] s (State.beginTrial s a1) := by
  unfold State.beginTrial
  repeat' (first
    | (with_reducible apply Effect.refl)
    | (with_reducible (apply Effect.next; apply State.modLive_effect); decide +kernel)
    | (with_reducible assumption)
    | (with_reducible apply Effect.foldl <;> intros)
    | (with_reducible apply Effect.ite <;> intros)
    | (split)
    | (dsimp only))

theorem State.restoreSettings_effect (s) : Effect [.regs, .sent, .attics, .links, .doors, .errRings, .wingLogs, .errInFlight, .ceWindows, .power, .therm, .live, .mailboxStudy] s (State.restoreSettings s) := by
  unfold State.restoreSettings
  repeat' (first
    | (with_reducible apply Effect.refl)
    | (with_reducible (apply Effect.next; apply State.applySettings_effect); decide +kernel)
    | (with_reducible (apply Effect.next; apply State.modLive_effect); decide +kernel)
    | (with_reducible assumption)
    | (with_reducible apply Effect.foldl <;> intros)
    | (with_reducible apply Effect.ite <;> intros)
    | (split)
    | (dsimp only))

theorem State.stopTrial_effect (s a1 a2) : Effect [.regs, .sent, .attics, .links, .doors, .errRings, .wingLogs, .errInFlight, .ceWindows, .power, .therm, .boot, .flash, .flashLogs, .live, .mailboxStudy] s (State.stopTrial s a1 a2) := by
  unfold State.stopTrial
  repeat' (first
    | (with_reducible apply Effect.refl)
    | (with_reducible (apply Effect.next; apply State.endTrial_effect); decide +kernel)
    | (with_reducible (apply Effect.next; apply State.restoreSettings_effect); decide +kernel)
    | (with_reducible (apply Effect.next; apply State.modBoot_effect); decide +kernel)
    | (with_reducible assumption)
    | (with_reducible apply Effect.foldl <;> intros)
    | (with_reducible apply Effect.ite <;> intros)
    | (split)
    | (dsimp only))

theorem State.restartAll_effect (s a1) : Effect [.live] s (State.restartAll s a1) := by
  unfold State.restartAll
  repeat' (first
    | (with_reducible apply Effect.refl)
    | (with_reducible (apply Effect.next; apply State.modLive_effect); decide +kernel)
    | (with_reducible assumption)
    | (with_reducible apply Effect.foldl <;> intros)
    | (with_reducible apply Effect.ite <;> intros)
    | (split)
    | (dsimp only))

theorem State.freeze_effect (s a1 a2) : Effect [.live] s (State.freeze s a1 a2) := by
  unfold State.freeze
  repeat' (first
    | (with_reducible apply Effect.refl)
    | (with_reducible (apply Effect.next; apply State.modLive_effect); decide +kernel)
    | (with_reducible assumption)
    | (with_reducible apply Effect.foldl <;> intros)
    | (with_reducible apply Effect.ite <;> intros)
    | (split)
    | (dsimp only))

theorem State.activateKind_effect (s a1) : Effect [.boot, .live] s (State.activateKind s a1) := by
  unfold State.activateKind
  repeat' (first
    | (with_reducible apply Effect.refl)
    | (with_reducible (apply Effect.next; apply State.freeze_effect); decide +kernel)
    | (with_reducible (apply Effect.next; apply State.modBoot_effect); decide +kernel)
    | (with_reducible (apply Effect.next; apply State.beginTrial_effect); decide +kernel)
    | (with_reducible (apply Effect.next; apply State.restartAll_effect); decide +kernel)
    | (with_reducible assumption)
    | (with_reducible apply Effect.foldl <;> intros)
    | (with_reducible apply Effect.ite <;> intros)
    | (split)
    | (dsimp only))

theorem State.activate_effect (s a1 a2) : Effect [.regs, .sent, .doors, .boot, .live, .mailboxStudy] s (State.activate s a1 a2) := by
  unfold State.activate
  repeat' (first
    | (with_reducible apply Effect.refl)
    | (with_reducible (apply Effect.next; apply State.activateKind_effect); decide +kernel)
    | (with_reducible (apply Effect.next; apply State.beginCmd_effect); decide +kernel)
    | (with_reducible (apply Effect.next; apply State.mgmtEnd_effect); decide +kernel)
    | (with_reducible assumption)
    | (with_reducible apply Effect.foldl <;> intros)
    | (with_reducible apply Effect.ite <;> intros)
    | (split)
    | (dsimp only))

theorem execFwActivate_effect (a0 s) : EffectR [.regs, .sent, .doors, .sqs, .descs, .completions, .boot, .live, .mailboxStudy] s (execFwActivate a0 s) := by
  unfold execFwActivate mgmtRun State.fwAction
  repeat' (first
    | (with_reducible apply Effect.refl)
    | (with_reducible (apply Effect.next; apply State.mgmtAnswer_effect); decide +kernel)
    | (with_reducible (apply Effect.next; apply State.activate_effect); decide +kernel)
    | (with_reducible apply EffectR.ready)
    | (with_reducible apply EffectR.next)
    | (with_reducible assumption)
    | (with_reducible apply Effect.foldl <;> intros)
    | (with_reducible apply Effect.ite <;> intros)
    | (with_reducible apply EffectR.ite <;> intros)
    | (split)
    | (dsimp only [id]))

theorem State.commitTrial_effect (s a1) : Effect [.regs, .sent, .attics, .links, .doors, .errRings, .wingLogs, .errInFlight, .ceWindows, .power, .therm, .flash, .flashLogs, .live, .mailboxStudy] s (State.commitTrial s a1) := by
  unfold State.commitTrial
  repeat' (first
    | (with_reducible apply Effect.refl)
    | (with_reducible (apply Effect.next; apply State.setSlot_effect); decide +kernel)
    | (with_reducible (apply Effect.next; apply State.modLive_effect); decide +kernel)
    | (with_reducible (apply Effect.next; apply State.applySettings_effect); decide +kernel)
    | (with_reducible (apply Effect.next; apply State.writeSettings_effect); decide +kernel)
    | (with_reducible assumption)
    | (with_reducible apply Effect.foldl <;> intros)
    | (with_reducible apply Effect.ite <;> intros)
    | (split)
    | (dsimp only))

theorem execFwCommit_effect (a0 s) : EffectR [.regs, .sent, .attics, .links, .doors, .sqs, .descs, .completions, .errRings, .wingLogs, .errInFlight, .ceWindows, .power, .therm, .flash, .flashLogs, .live, .mailboxStudy] s (execFwCommit a0 s) := by
  unfold execFwCommit mgmtRun State.fwAction
  repeat' (first
    | (with_reducible apply Effect.refl)
    | (with_reducible (apply Effect.next; apply State.mgmtAnswer_effect); decide +kernel)
    | (with_reducible (apply Effect.next; apply State.mgmtEnd_effect); decide +kernel)
    | (with_reducible (apply Effect.next; apply State.commitTrial_effect); decide +kernel)
    | (with_reducible apply EffectR.ready)
    | (with_reducible apply EffectR.next)
    | (with_reducible assumption)
    | (with_reducible apply Effect.foldl <;> intros)
    | (with_reducible apply Effect.ite <;> intros)
    | (with_reducible apply EffectR.ite <;> intros)
    | (split)
    | (dsimp only [id]))

theorem State.revert_effect (s a1 a2) : Effect [.regs, .sent, .attics, .links, .doors, .errRings, .wingLogs, .errInFlight, .ceWindows, .power, .therm, .boot, .flash, .flashLogs, .live, .mailboxStudy] s (State.revert s a1 a2) := by
  unfold State.revert
  repeat' (first
    | (with_reducible apply Effect.refl)
    | (with_reducible (apply Effect.next; apply State.beginCmd_effect); decide +kernel)
    | (with_reducible (apply Effect.next; apply State.freeze_effect); decide +kernel)
    | (with_reducible (apply Effect.next; apply State.mgmtEnd_effect); decide +kernel)
    | (with_reducible (apply Effect.next; apply State.stopTrial_effect); decide +kernel)
    | (with_reducible (apply Effect.next; apply State.restartAll_effect); decide +kernel)
    | (with_reducible assumption)
    | (with_reducible apply Effect.foldl <;> intros)
    | (with_reducible apply Effect.ite <;> intros)
    | (split)
    | (dsimp only))

theorem execFwRevert_effect (a0 s) : EffectR [.regs, .sent, .attics, .links, .doors, .sqs, .descs, .completions, .errRings, .wingLogs, .errInFlight, .ceWindows, .power, .therm, .boot, .flash, .flashLogs, .live, .mailboxStudy] s (execFwRevert a0 s) := by
  unfold execFwRevert mgmtRun State.fwAction
  repeat' (first
    | (with_reducible apply Effect.refl)
    | (with_reducible (apply Effect.next; apply State.mgmtAnswer_effect); decide +kernel)
    | (with_reducible (apply Effect.next; apply State.revert_effect); decide +kernel)
    | (with_reducible apply EffectR.ready)
    | (with_reducible apply EffectR.next)
    | (with_reducible assumption)
    | (with_reducible apply Effect.foldl <;> intros)
    | (with_reducible apply Effect.ite <;> intros)
    | (with_reducible apply EffectR.ite <;> intros)
    | (split)
    | (dsimp only [id]))

theorem State.autoRevert_effect (s a1) : Effect [.regs, .sent, .attics, .links, .doors, .errRings, .wingLogs, .errInFlight, .ceWindows, .power, .therm, .boot, .flash, .flashLogs, .live, .mailboxStudy] s (State.autoRevert s a1) := by
  unfold State.autoRevert
  repeat' (first
    | (with_reducible apply Effect.refl)
    | (with_reducible (apply Effect.next; apply State.freeze_effect); decide +kernel)
    | (with_reducible (apply Effect.next; apply State.stopTrial_effect); decide +kernel)
    | (with_reducible (apply Effect.next; apply State.restartAll_effect); decide +kernel)
    | (with_reducible assumption)
    | (with_reducible apply Effect.foldl <;> intros)
    | (with_reducible apply Effect.ite <;> intros)
    | (split)
    | (dsimp only))

theorem execFwTrialTimeout_effect (a0 s) : EffectR [.now, .regs, .sent, .attics, .links, .doors, .errRings, .wingLogs, .errInFlight, .ceWindows, .power, .therm, .boot, .flash, .flashLogs, .live, .mailboxStudy] s (execFwTrialTimeout a0 s) := by
  unfold execFwTrialTimeout
  repeat' (first
    | (with_reducible apply Effect.refl)
    | (with_reducible (apply Effect.next; apply State.autoRevert_effect); decide +kernel)
    | (with_reducible (apply Effect.next; apply State.reach_effect); decide +kernel)
    | (with_reducible apply EffectR.ready)
    | (with_reducible apply EffectR.next)
    | (with_reducible assumption)
    | (with_reducible apply Effect.foldl <;> intros)
    | (with_reducible apply Effect.ite <;> intros)
    | (with_reducible apply EffectR.ite <;> intros)
    | (split)
    | (dsimp only))

theorem execWingControllerRestart_effect (s) : EffectR [.now, .regs, .sent, .doors, .live, .mailboxStudy] s (execWingControllerRestart s) := by
  unfold execWingControllerRestart
  repeat' (first
    | (with_reducible apply Effect.refl)
    | (with_reducible (apply Effect.next; apply State.modLive_effect); decide +kernel)
    | (with_reducible (apply Effect.next; apply State.reach_effect); decide +kernel)
    | (with_reducible (apply Effect.next; apply State.mgmtDone_effect); decide +kernel)
    | (with_reducible apply EffectR.ready)
    | (with_reducible apply EffectR.next)
    | (with_reducible assumption)
    | (with_reducible apply Effect.foldl <;> intros)
    | (with_reducible apply Effect.ite <;> intros)
    | (with_reducible apply EffectR.ite <;> intros)
    | (split)
    | (dsimp only))

theorem State.switchDoor_effect (s a1) : Effect [.boot, .live] s (State.switchDoor s a1) := by
  unfold State.switchDoor
  repeat' (first
    | (with_reducible apply Effect.refl)
    | (with_reducible (apply Effect.next; apply State.modBoot_effect); decide +kernel)
    | (with_reducible (apply Effect.next; apply State.modLive_effect); decide +kernel)
    | (with_reducible assumption)
    | (with_reducible apply Effect.foldl <;> intros)
    | (with_reducible apply Effect.ite <;> intros)
    | (split)
    | (dsimp only))

theorem execHandoverTransfer_effect (s) : EffectR [.live] s (execHandoverTransfer s) := by
  unfold execHandoverTransfer
  repeat' (first
    | (with_reducible apply Effect.refl)
    | (with_reducible (apply Effect.next; apply State.modLive_effect); decide +kernel)
    | (with_reducible apply EffectR.ready)
    | (with_reducible apply EffectR.next)
    | (with_reducible assumption)
    | (with_reducible apply Effect.foldl <;> intros)
    | (with_reducible apply Effect.ite <;> intros)
    | (with_reducible apply EffectR.ite <;> intros)
    | (split)
    | (dsimp only))

theorem State.handoverSwitch_effect (s a1 a2) : Effect [.regs, .sent, .attics, .links, .doors, .errRings, .wingLogs, .errInFlight, .ceWindows, .power, .therm, .boot, .flash, .flashLogs, .live, .mailboxStudy] s (State.handoverSwitch s a1 a2) := by
  unfold State.handoverSwitch
  repeat' (first
    | (with_reducible apply Effect.refl)
    | (with_reducible (apply Effect.next; apply State.modLive_effect); decide +kernel)
    | (with_reducible (apply Effect.next; apply State.switchDoor_effect); decide +kernel)
    | (with_reducible (apply Effect.next; apply State.mgmtDone_effect); decide +kernel)
    | (with_reducible (apply Effect.next; apply State.beginTrial_effect); decide +kernel)
    | (with_reducible (apply Effect.next; apply State.stopTrial_effect); decide +kernel)
    | (with_reducible assumption)
    | (with_reducible apply Effect.foldl <;> intros)
    | (with_reducible apply Effect.ite <;> intros)
    | (split)
    | (dsimp only))

theorem execHandoverSwitch_effect (s) : EffectR [.regs, .sent, .attics, .links, .doors, .errRings, .wingLogs, .errInFlight, .ceWindows, .power, .therm, .boot, .flash, .flashLogs, .live, .mailboxStudy] s (execHandoverSwitch s) := by
  unfold execHandoverSwitch
  repeat' (first
    | (with_reducible apply Effect.refl)
    | (with_reducible (apply Effect.next; apply State.handoverSwitch_effect); decide +kernel)
    | (with_reducible apply EffectR.ready)
    | (with_reducible apply EffectR.next)
    | (with_reducible assumption)
    | (with_reducible apply Effect.foldl <;> intros)
    | (with_reducible apply Effect.ite <;> intros)
    | (with_reducible apply EffectR.ite <;> intros)
    | (split)
    | (dsimp only))

theorem State.takeover_effect (s a1) : Effect [.regs, .sent, .attics, .links, .doors, .errRings, .wingLogs, .errInFlight, .ceWindows, .power, .therm, .boot, .flash, .flashLogs, .live, .mailboxStudy] s (State.takeover s a1) := by
  unfold State.takeover
  repeat' (first
    | (with_reducible apply Effect.refl)
    | (with_reducible (apply Effect.next; apply State.modLive_effect); decide +kernel)
    | (with_reducible (apply Effect.next; apply State.switchDoor_effect); decide +kernel)
    | (with_reducible (apply Effect.next; apply State.stopTrial_effect); decide +kernel)
    | (with_reducible (apply Effect.next; apply State.mgmtEnd_effect); decide +kernel)
    | (with_reducible assumption)
    | (with_reducible apply Effect.foldl <;> intros)
    | (with_reducible apply Effect.ite <;> intros)
    | (split)
    | (dsimp only))

theorem execStandbyTakeover_effect (a0 s) : EffectR [.regs, .sent, .attics, .links, .doors, .errRings, .wingLogs, .errInFlight, .ceWindows, .power, .therm, .boot, .flash, .flashLogs, .live, .mailboxStudy] s (execStandbyTakeover a0 s) := by
  unfold execStandbyTakeover
  repeat' (first
    | (with_reducible apply Effect.refl)
    | (with_reducible (apply Effect.next; apply State.takeover_effect); decide +kernel)
    | (with_reducible apply EffectR.ready)
    | (with_reducible apply EffectR.next)
    | (with_reducible assumption)
    | (with_reducible apply Effect.foldl <;> intros)
    | (with_reducible apply Effect.ite <;> intros)
    | (with_reducible apply EffectR.ite <;> intros)
    | (split)
    | (dsimp only))

theorem execMirrorHeartbeatLoss_effect (a0 s) : EffectR [.now, .regs, .sent, .attics, .links, .doors, .errRings, .wingLogs, .errInFlight, .ceWindows, .power, .therm, .boot, .flash, .flashLogs, .live, .mailboxStudy] s (execMirrorHeartbeatLoss a0 s) := by
  unfold execMirrorHeartbeatLoss
  repeat' (first
    | (with_reducible apply Effect.refl)
    | (with_reducible (apply Effect.next; apply State.takeover_effect); decide +kernel)
    | (with_reducible (apply Effect.next; apply State.reach_effect); decide +kernel)
    | (with_reducible apply EffectR.ready)
    | (with_reducible apply EffectR.next)
    | (with_reducible assumption)
    | (with_reducible apply Effect.foldl <;> intros)
    | (with_reducible apply Effect.ite <;> intros)
    | (with_reducible apply EffectR.ite <;> intros)
    | (split)
    | (dsimp only))

theorem State.doorDown_effect (s a1) : Effect [.free, .regs, .sent, .attics, .dws, .modules, .links, .doors, .sqs, .cqs, .descs, .completions, .jobs, .errRings, .wingLogs, .errInFlight, .ceWindows, .power, .therm, .boot, .flash, .flashLogs, .plan, .planGen, .planTime, .live, .mailboxStudy, .pcies] s (State.doorDown s a1) := by
  unfold State.doorDown
  repeat' (first
    | ((conv => arg 3; arg 64); refine Effect.upd ?_ (by intro p hp; cases p <;> first | exact Bool.noConfusion hp | rfl))
    | (with_reducible apply Effect.refl)
    | (with_reducible (apply Effect.next; apply State.resetRegs_effect); decide +kernel)
    | (with_reducible (apply Effect.next; apply State.modLive_effect); decide +kernel)
    | (with_reducible (apply Effect.next; apply State.takeover_effect); decide +kernel)
    | (with_reducible (apply Effect.next; apply State.resetModules_effect); decide +kernel)
    | (with_reducible (apply Effect.next; apply State.updatePlan_effect); decide +kernel)
    | (with_reducible (apply Effect.next; apply State.bump_effect); decide +kernel)
    | (with_reducible (apply Effect.next; apply State.doorEvent_effect); decide +kernel)
    | (with_reducible assumption)
    | (with_reducible apply Effect.foldl <;> intros)
    | (with_reducible apply Effect.ite <;> intros)
    | (split)
    | (dsimp only))

theorem execDoorDown_effect (a0 s) : EffectR [.free, .regs, .sent, .attics, .dws, .modules, .links, .doors, .sqs, .cqs, .descs, .completions, .jobs, .errRings, .wingLogs, .errInFlight, .ceWindows, .power, .therm, .boot, .flash, .flashLogs, .plan, .planGen, .planTime, .live, .mailboxStudy, .pcies] s (execDoorDown a0 s) := by
  unfold execDoorDown
  repeat' (first
    | (with_reducible apply Effect.refl)
    | (with_reducible (apply Effect.next; apply State.doorDown_effect); decide +kernel)
    | (with_reducible apply EffectR.ready)
    | (with_reducible apply EffectR.next)
    | (with_reducible assumption)
    | (with_reducible apply Effect.foldl <;> intros)
    | (with_reducible apply Effect.ite <;> intros)
    | (with_reducible apply EffectR.ite <;> intros)
    | (split)
    | (dsimp only))

theorem State.dieStop_effect (s a1) : Effect [.free, .regs, .rooms, .sent, .attics, .dws, .wings, .modules, .links, .doors, .sqs, .cqs, .descs, .completions, .jobs, .errRings, .wingLogs, .errInFlight, .ceWindows, .power, .therm, .boot, .flash, .flashLogs, .plan, .planGen, .planTime, .live, .mailboxStudy, .pcies] s (State.dieStop s a1) := by
  unfold State.dieStop
  repeat' (first
    | (with_reducible apply Effect.refl)
    | (with_reducible (apply Effect.next; apply State.updatePlan_effect); decide +kernel)
    | (with_reducible (apply Effect.next; apply State.resetModules_effect); decide +kernel)
    | (with_reducible (apply Effect.next; apply State.wingDown_effect); decide +kernel)
    | (with_reducible (apply Effect.next; apply State.porchLinksDown_effect); decide +kernel)
    | (with_reducible (apply Effect.next; apply State.doorDown_effect); decide +kernel)
    | (with_reducible assumption)
    | (with_reducible apply Effect.foldl <;> intros)
    | (with_reducible apply Effect.ite <;> intros)
    | (split)
    | (dsimp only))

theorem State.dieSample_effect (s a1 a2) : Effect [.free, .regs, .rooms, .sent, .attics, .dws, .wings, .modules, .links, .doors, .sqs, .cqs, .descs, .completions, .jobs, .errRings, .wingLogs, .errInFlight, .ceWindows, .power, .therm, .boot, .flash, .flashLogs, .plan, .planGen, .planTime, .live, .mailboxStudy, .pcies] s (State.dieSample s a1 a2) := by
  unfold State.dieSample
  repeat' (first
    | (with_reducible apply Effect.refl)
    | (with_reducible (apply Effect.next; apply State.modDtherm_effect); decide +kernel)
    | (with_reducible (apply Effect.next; apply State.thermal_effect); decide +kernel)
    | (with_reducible (apply Effect.next; apply State.dieStop_effect); decide +kernel)
    | (with_reducible assumption)
    | (with_reducible apply Effect.foldl <;> intros)
    | (with_reducible apply Effect.ite <;> intros)
    | (split)
    | (dsimp only))

theorem execSensorSample_effect (a0 a1 s) : EffectR [.now, .free, .regs, .rooms, .sent, .attics, .dws, .wings, .modules, .links, .mailboxes, .doors, .sqs, .cqs, .descs, .completions, .jobs, .errRings, .wingLogs, .errInFlight, .ceWindows, .power, .therm, .boot, .flash, .flashLogs, .plan, .planGen, .planTime, .live, .mailboxStudy, .pcies] s (execSensorSample a0 a1 s) := by
  unfold execSensorSample
  repeat' (first
    | (with_reducible apply Effect.refl)
    | (with_reducible (apply Effect.next; apply State.reach_effect); decide +kernel)
    | (with_reducible (apply Effect.next; apply State.floorSample_effect); decide +kernel)
    | (with_reducible (apply Effect.next; apply State.atticSample_effect); decide +kernel)
    | (with_reducible (apply Effect.next; apply State.dieSample_effect); decide +kernel)
    | (with_reducible apply EffectR.ready)
    | (with_reducible apply EffectR.next)
    | (with_reducible assumption)
    | (with_reducible apply Effect.foldl <;> intros)
    | (with_reducible apply Effect.ite <;> intros)
    | (with_reducible apply EffectR.ite <;> intros)
    | (split)
    | (dsimp only))

theorem State.dieUnfit_effect (s a1) : Effect [.free, .regs, .rooms, .sent, .attics, .dws, .wings, .modules, .dies, .links, .doors, .sqs, .cqs, .descs, .completions, .jobs, .errRings, .wingLogs, .errInFlight, .ceWindows, .power, .therm, .boot, .flash, .flashLogs, .plan, .planGen, .planTime, .live, .mailboxStudy, .pcies] s (State.dieUnfit s a1) := by
  unfold State.dieUnfit
  repeat' (first
    | (with_reducible apply Effect.refl)
    | (with_reducible (apply Effect.next; apply State.modDie_effect); decide +kernel)
    | (with_reducible (apply Effect.next; apply State.wingDown_effect); decide +kernel)
    | (with_reducible (apply Effect.next; apply State.porchLinksDown_effect); decide +kernel)
    | (with_reducible (apply Effect.next; apply State.doorDown_effect); decide +kernel)
    | (with_reducible assumption)
    | (with_reducible apply Effect.foldl <;> intros)
    | (with_reducible apply Effect.ite <;> intros)
    | (split)
    | (dsimp only))

theorem execLctlCap_effect (a0 a1 a2 s) : EffectR [.free, .regs, .rooms, .sent, .attics, .dws, .wings, .modules, .dies, .links, .doors, .sqs, .cqs, .descs, .completions, .jobs, .errRings, .wingLogs, .errInFlight, .ceWindows, .power, .therm, .boot, .flash, .flashLogs, .plan, .planGen, .planTime, .live, .mailboxStudy, .pcies] s (execLctlCap a0 a1 a2 s) := by
  unfold execLctlCap moduleRun
  repeat' (first
    | (with_reducible apply Effect.refl)
    | (with_reducible (apply Effect.next; apply State.takeCap_effect); decide +kernel)
    | (with_reducible (apply Effect.next; apply State.dieUnfit_effect); decide +kernel)
    | (with_reducible apply EffectR.ready)
    | (with_reducible apply EffectR.next)
    | (with_reducible assumption)
    | (with_reducible apply Effect.foldl <;> intros)
    | (with_reducible apply Effect.ite <;> intros)
    | (with_reducible apply EffectR.ite <;> intros)
    | (split)
    | (dsimp only [id]))

theorem execSettingsRead_effect (a0 s) : EffectR [.free, .mem, .poison, .regs, .harts, .rooms, .attics, .dws, .sqs, .descs, .completions, .errRings, .wingLogs, .errInFlight, .ceWindows, .live, .mailboxStudy] s (execSettingsRead a0 s) := by
  unfold execSettingsRead mgmtRun
  repeat' (first
    | (with_reducible apply Effect.refl)
    | (with_reducible (apply Effect.next; apply State.mgmtAnswer_effect); decide +kernel)
    | (with_reducible (apply Effect.next; apply State.bufWrite_effect); decide +kernel)
    | (with_reducible apply EffectR.ready)
    | (with_reducible apply EffectR.next)
    | (with_reducible assumption)
    | (with_reducible apply Effect.foldl <;> intros)
    | (with_reducible apply Effect.ite <;> intros)
    | (with_reducible apply EffectR.ite <;> intros)
    | (split)
    | (dsimp only [id]))

theorem State.writeSettingsFrom_effect (s a1) : Effect [.regs, .sent, .attics, .links, .doors, .errRings, .wingLogs, .errInFlight, .ceWindows, .power, .therm, .live, .mailboxStudy] s (State.writeSettingsFrom s a1) := by
  unfold State.writeSettingsFrom
  repeat' (first
    | (with_reducible apply Effect.refl)
    | (with_reducible (apply Effect.next; apply State.applySetting_effect); decide +kernel)
    | (with_reducible (apply Effect.next; apply State.modLive_effect); decide +kernel)
    | (with_reducible assumption)
    | (with_reducible apply Effect.foldl <;> intros)
    | (with_reducible apply Effect.ite <;> intros)
    | (split)
    | (dsimp only))

theorem execSettingsWrite_effect (a0 s) : EffectR [.regs, .sent, .attics, .links, .doors, .sqs, .descs, .completions, .errRings, .wingLogs, .errInFlight, .ceWindows, .power, .therm, .flash, .live, .mailboxStudy] s (execSettingsWrite a0 s) := by
  unfold execSettingsWrite mgmtRun
  repeat' (first
    | (with_reducible apply Effect.refl)
    | (with_reducible (apply Effect.next; apply State.mgmtAnswer_effect); decide +kernel)
    | (with_reducible (apply Effect.next; apply State.writeSettingsFrom_effect); decide +kernel)
    | (with_reducible (apply Effect.next; apply State.writeSettings_effect); decide +kernel)
    | (with_reducible apply EffectR.ready)
    | (with_reducible apply EffectR.next)
    | (with_reducible assumption)
    | (with_reducible apply Effect.foldl <;> intros)
    | (with_reducible apply Effect.ite <;> intros)
    | (with_reducible apply EffectR.ite <;> intros)
    | (split)
    | (dsimp only [id]))

theorem State.liveCfgWrite_effect (s a1) : Effect [.live] s (State.liveCfgWrite s a1) := by
  unfold State.liveCfgWrite
  repeat' (first
    | (with_reducible apply Effect.refl)
    | (with_reducible (apply Effect.next; apply State.modLive_effect); decide +kernel)
    | (with_reducible assumption)
    | (with_reducible apply Effect.foldl <;> intros)
    | (with_reducible apply Effect.ite <;> intros)
    | (split)
    | (dsimp only))

theorem State.mailboxStart_effect (s) : Effect [.nextDesc, .live, .mailboxStudy] s (State.mailboxStart s) := by
  unfold State.mailboxStart
  repeat' (first
    | ((conv => arg 3; arg 64); refine Effect.upd ?_ (by intro p hp; cases p <;> first | exact Bool.noConfusion hp | rfl))
    | (with_reducible apply Effect.refl)
    | (with_reducible (apply Effect.next; apply State.mailboxAnswer_effect); decide +kernel)
    | (with_reducible (apply Effect.next; apply State.addCmd_effect); decide +kernel)
    | (with_reducible assumption)
    | (with_reducible apply Effect.foldl <;> intros)
    | (with_reducible apply Effect.ite <;> intros)
    | (split)
    | (dsimp only))

theorem execMailboxGo_effect (a0 s) : EffectR [.nextDesc, .live, .mailboxStudy] s (execMailboxGo a0 s) := by
  unfold execMailboxGo
  repeat' (first
    | (with_reducible apply Effect.refl)
    | (with_reducible (apply Effect.next; apply State.mailboxStart_effect); decide +kernel)
    | (with_reducible apply EffectR.ready)
    | (with_reducible apply EffectR.next)
    | (with_reducible assumption)
    | (with_reducible apply Effect.foldl <;> intros)
    | (with_reducible apply Effect.ite <;> intros)
    | (with_reducible apply EffectR.ite <;> intros)
    | (split)
    | (dsimp only))

theorem execMailboxFinal_effect (s) : EffectR [.mailboxStudy] s (execMailboxFinal s) := by
  unfold execMailboxFinal
  repeat' (first
    | ((conv => arg 3; arg 64); refine Effect.upd ?_ (by intro p hp; cases p <;> first | exact Bool.noConfusion hp | rfl))
    | (with_reducible apply Effect.refl)
    | (with_reducible (apply Effect.next; apply State.mailboxAnswer_effect); decide +kernel)
    | (with_reducible apply EffectR.ready)
    | (with_reducible apply EffectR.next)
    | (with_reducible assumption)
    | (with_reducible apply Effect.foldl <;> intros)
    | (with_reducible apply Effect.ite <;> intros)
    | (with_reducible apply EffectR.ite <;> intros)
    | (split)
    | (dsimp only))

end Sys2Proof.Machine
end

