-- ==== Sys2Proof/Laws/EffectMmio.lean ====
section
/-! SUPPORT. What the operations and the meanings of Machine/Mmio.lean can change: one lemma each. -/
-- The kernel decides the inclusions of each lemma before the next lemma starts.
set_option Elab.async false
set_option linter.all false
namespace Sys2Proof.Machine

theorem State.heldWrite_effect (s a1 a2 a3 a4 a5) : Effect [.regs] s (State.heldWrite s a1 a2 a3 a4 a5) := by
  unfold State.heldWrite
  repeat' (first
    | (with_reducible apply Effect.refl)
    | (with_reducible (apply Effect.next; apply State.setReg_effect); decide +kernel)
    | (with_reducible assumption)
    | (with_reducible apply Effect.foldl <;> intros)
    | (with_reducible apply Effect.ite <;> intros)
    | (split)
    | (dsimp only))

theorem State.tlbiWrite_effect (s a1 a2) : Effect [.rooms] s (State.tlbiWrite s a1 a2) := by
  unfold State.tlbiWrite
  repeat' (first
    | (with_reducible apply Effect.refl)
    | (with_reducible (apply Effect.next; apply State.invalidateTlb_effect); decide +kernel)
    | (with_reducible assumption)
    | (with_reducible apply Effect.foldl <;> intros)
    | (with_reducible apply Effect.ite <;> intros)
    | (split)
    | (dsimp only))

theorem State.irqRouteWrite_effect (s a1 a2 a3 a4 a5) : Effect [.regs] s (State.irqRouteWrite s a1 a2 a3 a4 a5) := by
  unfold State.irqRouteWrite
  repeat' (first
    | (with_reducible apply Effect.refl)
    | (with_reducible (apply Effect.next; apply State.heldWrite_effect); decide +kernel)
    | (with_reducible assumption)
    | (with_reducible apply Effect.foldl <;> intros)
    | (with_reducible apply Effect.ite <;> intros)
    | (split)
    | (dsimp only))

theorem State.roomRegWrite_effect (s a1 a2 a3 a4 a5) : Effect [.free, .mem, .poison, .regs, .harts, .rooms, .arrays, .attics, .regqs, .avus, .trees, .dws, .dwOrder, .sqs, .descs, .completions, .errRings, .wingLogs, .errInFlight, .ceWindows, .guards] s (State.roomRegWrite s a1 a2 a3 a4 a5) := by
  unfold State.roomRegWrite
  repeat' (first
    | (with_reducible apply Effect.refl)
    | (with_reducible (apply Effect.next; apply State.irqRouteWrite_effect); decide +kernel)
    | (with_reducible (apply Effect.next; apply State.tlbiWrite_effect); decide +kernel)
    | (with_reducible (apply Effect.next; apply State.sbCfgWrite_effect); decide +kernel)
    | (with_reducible (apply Effect.next; apply State.arrayForceRelease_effect); decide +kernel)
    | (with_reducible (apply Effect.next; apply State.arrayFlush_effect); decide +kernel)
    | (with_reducible (apply Effect.next; apply State.dwCfgWrite_effect); decide +kernel)
    | (with_reducible (apply Effect.next; apply State.dwConsWrite_effect); decide +kernel)
    | (with_reducible (apply Effect.next; apply State.dwCtrlWrite_effect); decide +kernel)
    | (with_reducible (apply Effect.next; apply State.heldWrite_effect); decide +kernel)
    | (with_reducible (apply Effect.next; apply State.avuFlush_effect); decide +kernel)
    | (with_reducible (apply Effect.next; apply State.treeSubmit_effect); decide +kernel)
    | (with_reducible (apply Effect.next; apply State.treeFlush_effect); decide +kernel)
    | (with_reducible (apply Effect.next; apply State.modRegq_effect); decide +kernel)
    | (with_reducible assumption)
    | (with_reducible apply Effect.foldl <;> intros)
    | (with_reducible apply Effect.ite <;> intros)
    | (split)
    | (dsimp only))

theorem State.mailboxAck_effect (s a1 a2) : Effect [.mailboxes] s (State.mailboxAck s a1 a2) := by
  unfold State.mailboxAck
  repeat' (first
    | (with_reducible apply Effect.refl)
    | (with_reducible (apply Effect.next; apply State.setMailbox_effect); decide +kernel)
    | (with_reducible assumption)
    | (with_reducible apply Effect.foldl <;> intros)
    | (with_reducible apply Effect.ite <;> intros)
    | (split)
    | (dsimp only))

theorem State.wingRegWrite_effect (s a1 a2 a3 a4) : Effect [.mem, .poison, .regs, .harts, .rooms, .sent, .attics, .dws, .mailboxes, .doors, .errRings, .wingLogs, .errInFlight, .ceWindows, .power, .boot, .flash, .flashLogs, .plan, .planGen, .planTime, .live, .mailboxStudy] s (State.wingRegWrite s a1 a2 a3 a4) := by
  unfold State.wingRegWrite
  repeat' (first
    | (with_reducible apply Effect.refl)
    | (with_reducible (apply Effect.next; apply State.bootResult_effect); decide +kernel)
    | (with_reducible (apply Effect.next; apply State.mailboxAck_effect); decide +kernel)
    | (with_reducible assumption)
    | (with_reducible apply Effect.foldl <;> intros)
    | (with_reducible apply Effect.ite <;> intros)
    | (split)
    | (dsimp only))

theorem State.sqRegWrite_effect (s a1 a2 a3 a4) : Effect [.regs, .sent, .doors, .sqs] s (State.sqRegWrite s a1 a2 a3 a4) := by
  unfold State.sqRegWrite
  repeat' (first
    | (with_reducible apply Effect.refl)
    | (with_reducible (apply Effect.next; apply State.sqCfgWrite_effect); decide +kernel)
    | (with_reducible (apply Effect.next; apply State.modSq_effect); decide +kernel)
    | (with_reducible assumption)
    | (with_reducible apply Effect.foldl <;> intros)
    | (with_reducible apply Effect.ite <;> intros)
    | (split)
    | (dsimp only))

theorem State.cqRegWrite_effect (s a1 a2 a3 a4) : Effect [.sent, .doors, .cqs] s (State.cqRegWrite s a1 a2 a3 a4) := by
  unfold State.cqRegWrite
  repeat' (first
    | (with_reducible apply Effect.refl)
    | (with_reducible (apply Effect.next; apply State.cqCfgWrite_effect); decide +kernel)
    | (with_reducible (apply Effect.next; apply State.modCq_effect); decide +kernel)
    | (with_reducible assumption)
    | (with_reducible apply Effect.foldl <;> intros)
    | (with_reducible apply Effect.ite <;> intros)
    | (split)
    | (dsimp only))

theorem State.unmask_effect (s a1 a2) : Effect [.sent, .doors] s (State.unmask s a1 a2) := by
  unfold State.unmask
  repeat' (first
    | (with_reducible apply Effect.refl)
    | (with_reducible (apply Effect.next; apply State.sendVector_effect); decide +kernel)
    | (with_reducible (apply Effect.next; apply State.modDoor_effect); decide +kernel)
    | (with_reducible assumption)
    | (with_reducible apply Effect.foldl <;> intros)
    | (with_reducible apply Effect.ite <;> intros)
    | (split)
    | (dsimp only))

theorem State.doorRegWrite_effect (s a1 a2 a3 a4) : Effect [.free, .regs, .sent, .doors, .sqs, .cqs, .completions] s (State.doorRegWrite s a1 a2 a3 a4) := by
  unfold State.doorRegWrite
  repeat' (first
    | (with_reducible apply Effect.refl)
    | (with_reducible (apply Effect.next; apply State.doorCtrlWrite_effect); decide +kernel)
    | (with_reducible (apply Effect.next; apply State.loseHost_effect); decide +kernel)
    | (with_reducible (apply Effect.next; apply State.adopt_effect); decide +kernel)
    | (with_reducible (apply Effect.next; apply State.sqRegWrite_effect); decide +kernel)
    | (with_reducible (apply Effect.next; apply State.cqRegWrite_effect); decide +kernel)
    | (with_reducible (apply Effect.next; apply State.d2dRegWrite_effect); decide +kernel)
    | (with_reducible (apply Effect.next; apply State.sqTail_effect); decide +kernel)
    | (with_reducible (apply Effect.next; apply State.cqHead_effect); decide +kernel)
    | (with_reducible (apply Effect.next; apply State.unmask_effect); decide +kernel)
    | (with_reducible (apply Effect.next; apply State.heldWrite_effect); decide +kernel)
    | (with_reducible assumption)
    | (with_reducible apply Effect.foldl <;> intros)
    | (with_reducible apply Effect.ite <;> intros)
    | (split)
    | (dsimp only))

theorem State.studyMbWrite_effect (s a1 a2 a3) : Effect [.nextDesc, .live, .mailboxStudy] s (State.studyMbWrite s a1 a2 a3) := by
  unfold State.studyMbWrite
  repeat' (first
    | ((conv => arg 3; arg 64); refine Effect.upd ?_ (by intro p hp; cases p <;> first | exact Bool.noConfusion hp | rfl))
    | (with_reducible apply Effect.refl)
    | (with_reducible (apply Effect.next; apply State.mailboxStart_effect); decide +kernel)
    | (with_reducible assumption)
    | (with_reducible apply Effect.foldl <;> intros)
    | (with_reducible apply Effect.ite <;> intros)
    | (split)
    | (dsimp only))

theorem State.bootCtrlWrite_effect (s a1) : Effect [.free, .mem, .poison, .regs, .harts, .rooms, .tags, .reqs, .exitMsgs, .caches, .sent, .colls, .insts, .keptEnds, .arrays, .attics, .regqs, .avus, .trees, .dws, .dwOrder, .wings, .halls, .modules, .dies, .links, .fabric, .bootCount, .absentDevs, .mailboxes, .doors, .sqs, .cqs, .descs, .nextDesc, .completions, .jobs, .errRings, .wingLogs, .errInFlight, .deviceLog, .flashLog, .deviceSeq, .ceWindows, .power, .therm, .boot, .aon, .flashLogs, .plan, .planGen, .planTime, .live, .mailboxStudy, .remaps, .test, .pcies, .guards] s (State.bootCtrlWrite s a1) := by
  unfold State.bootCtrlWrite
  repeat' (first
    | (with_reducible apply Effect.refl)
    | (with_reducible (apply Effect.next; apply State.askReset_effect); decide +kernel)
    | (with_reducible (apply Effect.next; apply State.modBoot_effect); decide +kernel)
    | (with_reducible (apply Effect.next; apply State.retry_effect); decide +kernel)
    | (with_reducible assumption)
    | (with_reducible apply Effect.foldl <;> intros)
    | (with_reducible apply Effect.ite <;> intros)
    | (split)
    | (dsimp only))

theorem State.bootCtlWrite_effect (s a1 a2 a3) : Effect [.free, .mem, .poison, .regs, .harts, .rooms, .tags, .reqs, .exitMsgs, .caches, .sent, .colls, .insts, .keptEnds, .arrays, .attics, .regqs, .avus, .trees, .dws, .dwOrder, .wings, .halls, .modules, .dies, .links, .fabric, .bootCount, .absentDevs, .mailboxes, .doors, .sqs, .cqs, .descs, .nextDesc, .completions, .jobs, .errRings, .wingLogs, .errInFlight, .deviceLog, .flashLog, .deviceSeq, .ceWindows, .power, .therm, .boot, .aon, .flashLogs, .plan, .planGen, .planTime, .live, .mailboxStudy, .remaps, .test, .pcies, .guards] s (State.bootCtlWrite s a1 a2 a3) := by
  unfold State.bootCtlWrite
  repeat' (first
    | (with_reducible apply Effect.refl)
    | (with_reducible (apply Effect.next; apply State.bootCtrlWrite_effect); decide +kernel)
    | (with_reducible (apply Effect.next; apply State.modBoot_effect); decide +kernel)
    | (with_reducible assumption)
    | (with_reducible apply Effect.foldl <;> intros)
    | (with_reducible apply Effect.ite <;> intros)
    | (split)
    | (dsimp only))

theorem State.porchRegWrite_effect (s a1 a2 a3 a4) : Effect [.regs, .sent, .attics, .regqs, .links, .doors, .errRings, .wingLogs, .errInFlight, .ceWindows, .live, .mailboxStudy] s (State.porchRegWrite s a1 a2 a3 a4) := by
  unfold State.porchRegWrite
  repeat' (first
    | (with_reducible apply Effect.refl)
    | (with_reducible (apply Effect.next; apply State.linkRegWrite_effect); decide +kernel)
    | (with_reducible (apply Effect.next; apply State.modRegq_effect); decide +kernel)
    | (with_reducible (apply Effect.next; apply State.d2dRegWrite_effect); decide +kernel)
    | (with_reducible assumption)
    | (with_reducible apply Effect.foldl <;> intros)
    | (with_reducible apply Effect.ite <;> intros)
    | (split)
    | (dsimp only))

theorem State.hallBlockWrite_effect (s a1 a2 a3 a4) : Effect [.regs, .regqs, .halls, .remaps] s (State.hallBlockWrite s a1 a2 a3 a4) := by
  unfold State.hallBlockWrite
  repeat' (first
    | (with_reducible apply Effect.refl)
    | (with_reducible (apply Effect.next; apply State.hallRegWrite_effect); decide +kernel)
    | (with_reducible (apply Effect.next; apply State.modRegq_effect); decide +kernel)
    | (with_reducible (apply Effect.next; apply State.d2dRegWrite_effect); decide +kernel)
    | (with_reducible assumption)
    | (with_reducible apply Effect.foldl <;> intros)
    | (with_reducible apply Effect.ite <;> intros)
    | (split)
    | (dsimp only))

theorem State.powerRegWrite_effect (s a1 a2 a3) : Effect [.regs, .power] s (State.powerRegWrite s a1 a2 a3) := by
  unfold State.powerRegWrite
  repeat' (first
    | (with_reducible apply Effect.refl)
    | (with_reducible (apply Effect.next; apply State.writeCap_effect); decide +kernel)
    | (with_reducible (apply Effect.next; apply State.heldWrite_effect); decide +kernel)
    | (with_reducible assumption)
    | (with_reducible apply Effect.foldl <;> intros)
    | (with_reducible apply Effect.ite <;> intros)
    | (split)
    | (dsimp only))

theorem State.thermRegWrite_effect (s a1 a2 a3) : Effect [.regs, .sent, .doors, .therm] s (State.thermRegWrite s a1 a2 a3) := by
  unfold State.thermRegWrite
  repeat' (first
    | (with_reducible apply Effect.refl)
    | (with_reducible (apply Effect.next; apply State.thermCfgWrite_effect); decide +kernel)
    | (with_reducible (apply Effect.next; apply State.heldWrite_effect); decide +kernel)
    | (with_reducible (apply Effect.next; apply State.coolWrite_effect); decide +kernel)
    | (with_reducible assumption)
    | (with_reducible apply Effect.foldl <;> intros)
    | (with_reducible apply Effect.ite <;> intros)
    | (split)
    | (dsimp only))

theorem State.fabWrite_effect (s a1 a2 a3) : Effect [.regs, .sent, .fabric, .absentDevs, .doors] s (State.fabWrite s a1 a2 a3) := by
  unfold State.fabWrite
  repeat' (first
    | (with_reducible apply Effect.refl)
    | (with_reducible (apply Effect.next; apply State.fabRegWrite_effect); decide +kernel)
    | (with_reducible assumption)
    | (with_reducible apply Effect.foldl <;> intros)
    | (with_reducible apply Effect.ite <;> intros)
    | (split)
    | (dsimp only))

theorem State.devRegWrite_effect (s a1 a2 a3) : Effect [.free, .mem, .poison, .regs, .harts, .rooms, .tags, .reqs, .exitMsgs, .caches, .sent, .colls, .insts, .keptEnds, .arrays, .attics, .regqs, .avus, .trees, .dws, .dwOrder, .wings, .halls, .modules, .dies, .links, .fabric, .bootCount, .absentDevs, .mailboxes, .doors, .sqs, .cqs, .descs, .nextDesc, .completions, .jobs, .errRings, .wingLogs, .errInFlight, .deviceLog, .flashLog, .deviceSeq, .ceWindows, .power, .therm, .boot, .aon, .flashLogs, .plan, .planGen, .planTime, .live, .mailboxStudy, .remaps, .test, .pcies, .guards] s (State.devRegWrite s a1 a2 a3) := by
  unfold State.devRegWrite
  repeat' (first
    | (with_reducible apply Effect.refl)
    | (with_reducible (apply Effect.next; apply State.doorRegWrite_effect); decide +kernel)
    | (with_reducible (apply Effect.next; apply State.studyMbWrite_effect); decide +kernel)
    | (with_reducible (apply Effect.next; apply State.bootCtlWrite_effect); decide +kernel)
    | (with_reducible (apply Effect.next; apply State.liveCfgWrite_effect); decide +kernel)
    | (with_reducible (apply Effect.next; apply State.powerRegWrite_effect); decide +kernel)
    | (with_reducible (apply Effect.next; apply State.thermRegWrite_effect); decide +kernel)
    | (with_reducible (apply Effect.next; apply State.porchRegWrite_effect); decide +kernel)
    | (with_reducible (apply Effect.next; apply State.hallBlockWrite_effect); decide +kernel)
    | (with_reducible (apply Effect.next; apply State.fabWrite_effect); decide +kernel)
    | (with_reducible assumption)
    | (with_reducible apply Effect.foldl <;> intros)
    | (with_reducible apply Effect.ite <;> intros)
    | (split)
    | (dsimp only))

theorem State.mmioWrite_effect (s a1 a2 a3 a4) : Effect [.free, .mem, .poison, .regs, .harts, .rooms, .tags, .reqs, .exitMsgs, .caches, .sent, .colls, .insts, .keptEnds, .arrays, .attics, .regqs, .avus, .trees, .dws, .dwOrder, .wings, .halls, .modules, .dies, .links, .fabric, .bootCount, .absentDevs, .mailboxes, .doors, .sqs, .cqs, .descs, .nextDesc, .completions, .jobs, .errRings, .wingLogs, .errInFlight, .deviceLog, .flashLog, .deviceSeq, .ceWindows, .power, .therm, .boot, .aon, .flash, .flashLogs, .plan, .planGen, .planTime, .live, .mailboxStudy, .remaps, .test, .pcies, .guards] s (State.mmioWrite s a1 a2 a3 a4) := by
  unfold State.mmioWrite
  repeat' (first
    | (with_reducible apply Effect.refl)
    | (with_reducible (apply Effect.next; apply State.roomRegWrite_effect); decide +kernel)
    | (with_reducible (apply Effect.next; apply State.wingRegWrite_effect); decide +kernel)
    | (with_reducible (apply Effect.next; apply State.devRegWrite_effect); decide +kernel)
    | (with_reducible assumption)
    | (with_reducible apply Effect.foldl <;> intros)
    | (with_reducible apply Effect.ite <;> intros)
    | (split)
    | (dsimp only))

end Sys2Proof.Machine
end

