-- ==== Sys2Proof/Laws/EffectAccess.lean ====
section
/-! SUPPORT. What the operations and the meanings of Machine/Access.lean can change: one lemma each. -/
-- The kernel decides the inclusions of each lemma before the next lemma starts.
set_option Elab.async false
set_option linter.all false
namespace Sys2Proof.Machine

theorem roomWrite_effect (a0 a1 a2 a3 s) : EffectR [.free, .mem, .poison, .regs, .harts, .rooms, .arrays, .attics, .regqs, .avus, .trees, .dws, .dwOrder, .sqs, .descs, .completions, .errRings, .wingLogs, .errInFlight, .ceWindows, .guards] s (roomWrite a0 a1 a2 a3 s) := by
  unfold roomWrite
  repeat' (first
    | (with_reducible apply Effect.refl)
    | (with_reducible (apply Effect.next; apply State.roomRegWrite_effect); decide +kernel)
    | (with_reducible apply EffectR.ready)
    | (with_reducible apply EffectR.next)
    | (with_reducible assumption)
    | (with_reducible apply Effect.foldl <;> intros)
    | (with_reducible apply Effect.ite <;> intros)
    | (with_reducible apply EffectR.ite <;> intros)
    | (split)
    | (dsimp only))

theorem execRoomTlbiAll_effect (a0 s) : EffectR [.free, .mem, .poison, .regs, .harts, .rooms, .arrays, .attics, .regqs, .avus, .trees, .dws, .dwOrder, .sqs, .descs, .completions, .errRings, .wingLogs, .errInFlight, .ceWindows, .guards] s (execRoomTlbiAll a0 s) := by
  unfold execRoomTlbiAll
  repeat' (first
    | (with_reducible apply Effect.refl)
    | (with_reducible (apply EffectR.after; apply roomWrite_effect); decide +kernel)
    | (with_reducible apply EffectR.ready)
    | (with_reducible apply EffectR.next)
    | (with_reducible assumption)
    | (with_reducible apply Effect.foldl <;> intros)
    | (with_reducible apply Effect.ite <;> intros)
    | (with_reducible apply EffectR.ite <;> intros)
    | (split)
    | (dsimp only))

theorem execRoomTlbiAsid_effect (a0 a1 s) : EffectR [.free, .mem, .poison, .regs, .harts, .rooms, .arrays, .attics, .regqs, .avus, .trees, .dws, .dwOrder, .sqs, .descs, .completions, .errRings, .wingLogs, .errInFlight, .ceWindows, .guards] s (execRoomTlbiAsid a0 a1 s) := by
  unfold execRoomTlbiAsid
  repeat' (first
    | (with_reducible apply Effect.refl)
    | (with_reducible (apply EffectR.after; apply roomWrite_effect); decide +kernel)
    | (with_reducible apply EffectR.ready)
    | (with_reducible apply EffectR.next)
    | (with_reducible assumption)
    | (with_reducible apply Effect.foldl <;> intros)
    | (with_reducible apply Effect.ite <;> intros)
    | (with_reducible apply EffectR.ite <;> intros)
    | (split)
    | (dsimp only))

theorem execRoomTlbiAsidVpn_effect (a0 a1 a2 s) : EffectR [.free, .mem, .poison, .regs, .harts, .rooms, .arrays, .attics, .regqs, .avus, .trees, .dws, .dwOrder, .sqs, .descs, .completions, .errRings, .wingLogs, .errInFlight, .ceWindows, .guards] s (execRoomTlbiAsidVpn a0 a1 a2 s) := by
  unfold execRoomTlbiAsidVpn
  repeat' (first
    | (with_reducible apply Effect.refl)
    | (with_reducible (apply EffectR.after; apply roomWrite_effect); decide +kernel)
    | (with_reducible apply EffectR.ready)
    | (with_reducible apply EffectR.next)
    | (with_reducible assumption)
    | (with_reducible apply Effect.foldl <;> intros)
    | (with_reducible apply Effect.ite <;> intros)
    | (with_reducible apply EffectR.ite <;> intros)
    | (split)
    | (dsimp only))

theorem execRoomTlbiVpn_effect (a0 a1 s) : EffectR [.free, .mem, .poison, .regs, .harts, .rooms, .arrays, .attics, .regqs, .avus, .trees, .dws, .dwOrder, .sqs, .descs, .completions, .errRings, .wingLogs, .errInFlight, .ceWindows, .guards] s (execRoomTlbiVpn a0 a1 s) := by
  unfold execRoomTlbiVpn
  repeat' (first
    | (with_reducible apply Effect.refl)
    | (with_reducible (apply EffectR.after; apply roomWrite_effect); decide +kernel)
    | (with_reducible apply EffectR.ready)
    | (with_reducible apply EffectR.next)
    | (with_reducible assumption)
    | (with_reducible apply Effect.foldl <;> intros)
    | (with_reducible apply Effect.ite <;> intros)
    | (with_reducible apply EffectR.ite <;> intros)
    | (split)
    | (dsimp only))

theorem execRoomIrqRouteWrite_effect (a0 a1 a2 s) : EffectR [.free, .mem, .poison, .regs, .harts, .rooms, .arrays, .attics, .regqs, .avus, .trees, .dws, .dwOrder, .sqs, .descs, .completions, .errRings, .wingLogs, .errInFlight, .ceWindows, .guards] s (execRoomIrqRouteWrite a0 a1 a2 s) := by
  unfold execRoomIrqRouteWrite
  repeat' (first
    | (with_reducible apply Effect.refl)
    | (with_reducible (apply EffectR.after; apply roomWrite_effect); decide +kernel)
    | (with_reducible apply EffectR.ready)
    | (with_reducible apply EffectR.next)
    | (with_reducible assumption)
    | (with_reducible apply Effect.foldl <;> intros)
    | (with_reducible apply Effect.ite <;> intros)
    | (with_reducible apply EffectR.ite <;> intros)
    | (split)
    | (dsimp only))

theorem execErrConsWrite_effect (a0 a1 s) : EffectR [.free, .mem, .poison, .regs, .harts, .rooms, .arrays, .attics, .regqs, .avus, .trees, .dws, .dwOrder, .sqs, .descs, .completions, .errRings, .wingLogs, .errInFlight, .ceWindows, .guards] s (execErrConsWrite a0 a1 s) := by
  unfold execErrConsWrite
  repeat' (first
    | (with_reducible apply Effect.refl)
    | (with_reducible (apply EffectR.after; apply roomWrite_effect); decide +kernel)
    | (with_reducible apply EffectR.ready)
    | (with_reducible apply EffectR.next)
    | (with_reducible assumption)
    | (with_reducible apply Effect.foldl <;> intros)
    | (with_reducible apply Effect.ite <;> intros)
    | (with_reducible apply EffectR.ite <;> intros)
    | (split)
    | (dsimp only))

theorem State.barFails_effect (s a1 a2) : Effect [.regs, .sent] s (State.barFails s a1 a2) := by
  unfold State.barFails
  repeat' (first
    | (with_reducible apply Effect.refl)
    | (with_reducible (apply Effect.next; apply State.orReg_effect); decide +kernel)
    | (with_reducible (apply Effect.next; apply State.send_effect); decide +kernel)
    | (with_reducible assumption)
    | (with_reducible apply Effect.foldl <;> intros)
    | (with_reducible apply Effect.ite <;> intros)
    | (split)
    | (dsimp only))

theorem State.bar0_effect (s a1) : Effect [.free, .mem, .poison, .regs, .harts, .rooms, .tags, .reqs, .exitMsgs, .caches, .sent, .colls, .insts, .keptEnds, .arrays, .attics, .regqs, .avus, .trees, .dws, .dwOrder, .wings, .halls, .modules, .dies, .links, .fabric, .bootCount, .absentDevs, .mailboxes, .doors, .sqs, .cqs, .descs, .nextDesc, .completions, .jobs, .errRings, .wingLogs, .errInFlight, .deviceLog, .flashLog, .deviceSeq, .ceWindows, .power, .therm, .boot, .aon, .flash, .flashLogs, .plan, .planGen, .planTime, .live, .mailboxStudy, .remaps, .test, .pcies, .guards] s (State.bar0 s a1) := by
  unfold State.bar0
  repeat' (first
    | (with_reducible apply Effect.refl)
    | (with_reducible (apply Effect.next; apply State.barFails_effect); decide +kernel)
    | (with_reducible (apply Effect.next; apply State.send_effect); decide +kernel)
    | (with_reducible (apply Effect.next; apply State.mmioWrite_effect); decide +kernel)
    | (with_reducible assumption)
    | (with_reducible apply Effect.foldl <;> intros)
    | (with_reducible apply Effect.ite <;> intros)
    | (split)
    | (dsimp only))

theorem execBar0Access_effect (a0 s) : EffectR [.free, .mem, .poison, .regs, .harts, .rooms, .tags, .reqs, .exitMsgs, .caches, .sent, .colls, .insts, .keptEnds, .arrays, .attics, .regqs, .avus, .trees, .dws, .dwOrder, .wings, .halls, .modules, .dies, .links, .fabric, .bootCount, .absentDevs, .mailboxes, .doors, .sqs, .cqs, .descs, .nextDesc, .completions, .jobs, .errRings, .wingLogs, .errInFlight, .deviceLog, .flashLog, .deviceSeq, .ceWindows, .power, .therm, .boot, .aon, .flash, .flashLogs, .plan, .planGen, .planTime, .live, .mailboxStudy, .remaps, .test, .pcies, .guards] s (execBar0Access a0 s) := by
  unfold execBar0Access
  repeat' (first
    | (with_reducible apply Effect.refl)
    | (with_reducible (apply Effect.next; apply State.bar0_effect); decide +kernel)
    | (with_reducible apply EffectR.ready)
    | (with_reducible apply EffectR.next)
    | (with_reducible assumption)
    | (with_reducible apply Effect.foldl <;> intros)
    | (with_reducible apply Effect.ite <;> intros)
    | (with_reducible apply EffectR.ite <;> intros)
    | (split)
    | (dsimp only))

theorem State.bar2Read_effect (s a1 a2 a3) : Effect [.free, .regs, .sent, .attics, .errRings, .wingLogs, .errInFlight, .ceWindows] s (State.bar2Read s a1 a2 a3) := by
  unfold State.bar2Read
  repeat' (first
    | (with_reducible apply Effect.refl)
    | (with_reducible (apply Effect.next; apply State.barFails_effect); decide +kernel)
    | (with_reducible (apply Effect.next; apply State.bump_effect); decide +kernel)
    | (with_reducible (apply Effect.next; apply State.send_effect); decide +kernel)
    | (with_reducible (apply Effect.next; apply State.afterRead_effect); decide +kernel)
    | (with_reducible assumption)
    | (with_reducible apply Effect.foldl <;> intros)
    | (with_reducible apply Effect.ite <;> intros)
    | (split)
    | (dsimp only))

theorem State.bar2Write_effect (s a1 a2 a3 a4) : Effect [.free, .mem, .poison, .regs, .harts, .rooms, .sent, .attics, .dws, .errRings, .wingLogs, .errInFlight, .ceWindows, .guards] s (State.bar2Write s a1 a2 a3 a4) := by
  unfold State.bar2Write
  repeat' (first
    | (with_reducible apply Effect.refl)
    | (with_reducible (apply Effect.next; apply State.storeAt_effect); decide +kernel)
    | (with_reducible (apply Effect.next; apply State.pwrite_effect); decide +kernel)
    | (with_reducible (apply Effect.next; apply State.barFails_effect); decide +kernel)
    | (with_reducible assumption)
    | (with_reducible apply Effect.foldl <;> intros)
    | (with_reducible apply Effect.ite <;> intros)
    | (split)
    | (dsimp only))

theorem State.bar2_effect (s a1) : Effect [.free, .mem, .poison, .regs, .harts, .rooms, .sent, .attics, .dws, .errRings, .wingLogs, .errInFlight, .ceWindows, .guards] s (State.bar2 s a1) := by
  unfold State.bar2
  repeat' (first
    | (with_reducible apply Effect.refl)
    | (with_reducible (apply Effect.next; apply State.barFails_effect); decide +kernel)
    | (with_reducible (apply Effect.next; apply State.bar2Read_effect); decide +kernel)
    | (with_reducible (apply Effect.next; apply State.bar2Write_effect); decide +kernel)
    | (with_reducible assumption)
    | (with_reducible apply Effect.foldl <;> intros)
    | (with_reducible apply Effect.ite <;> intros)
    | (split)
    | (dsimp only))

theorem execBar2Access_effect (a0 s) : EffectR [.free, .mem, .poison, .regs, .harts, .rooms, .sent, .attics, .dws, .errRings, .wingLogs, .errInFlight, .ceWindows, .guards] s (execBar2Access a0 s) := by
  unfold execBar2Access
  repeat' (first
    | (with_reducible apply Effect.refl)
    | (with_reducible (apply Effect.next; apply State.bar2_effect); decide +kernel)
    | (with_reducible apply EffectR.ready)
    | (with_reducible apply EffectR.next)
    | (with_reducible assumption)
    | (with_reducible apply Effect.foldl <;> intros)
    | (with_reducible apply Effect.ite <;> intros)
    | (with_reducible apply EffectR.ite <;> intros)
    | (split)
    | (dsimp only))

theorem execRegisterWrite_effect (a0 a1 a2 a3 s) : EffectR [.free, .mem, .poison, .regs, .harts, .rooms, .tags, .reqs, .exitMsgs, .caches, .sent, .colls, .insts, .keptEnds, .arrays, .attics, .regqs, .avus, .trees, .dws, .dwOrder, .wings, .halls, .modules, .dies, .links, .fabric, .bootCount, .absentDevs, .mailboxes, .doors, .sqs, .cqs, .descs, .nextDesc, .completions, .jobs, .errRings, .wingLogs, .errInFlight, .deviceLog, .flashLog, .deviceSeq, .ceWindows, .power, .therm, .boot, .aon, .flash, .flashLogs, .plan, .planGen, .planTime, .live, .mailboxStudy, .remaps, .test, .pcies, .guards] s (execRegisterWrite a0 a1 a2 a3 s) := by
  unfold execRegisterWrite
  repeat' (first
    | (with_reducible apply Effect.refl)
    | (with_reducible (apply Effect.next; apply State.mmioWrite_effect); decide +kernel)
    | (with_reducible apply EffectR.ready)
    | (with_reducible apply EffectR.next)
    | (with_reducible assumption)
    | (with_reducible apply Effect.foldl <;> intros)
    | (with_reducible apply Effect.ite <;> intros)
    | (with_reducible apply EffectR.ite <;> intros)
    | (split)
    | (dsimp only))

end Sys2Proof.Machine
end

