-- ==== Sys2Proof/Laws/EffectAzlys.lean ====
section
/-! SUPPORT. What the operations and the meanings of Machine/Azlys.lean can change: one lemma each. -/
-- The kernel decides the inclusions of each lemma before the next lemma starts.
set_option Elab.async false
set_option linter.all false
namespace Sys2Proof.Machine

theorem State.modCache_effect (s a1 a2) : Effect [.caches] s (State.modCache s a1 a2) := by
  unfold State.modCache
  repeat' (first
    | ((conv => arg 3; arg 64); refine Effect.upd ?_ (by intro p hp; cases p <;> first | exact Bool.noConfusion hp | rfl))
    | (with_reducible apply Effect.refl)
    | (with_reducible assumption)
    | (with_reducible apply Effect.foldl <;> intros)
    | (with_reducible apply Effect.ite <;> intros)
    | (split)
    | (dsimp only))

theorem State.cacheRoom_effect (s a1 a2) : Effect [.regs, .caches, .attics, .errRings, .wingLogs, .errInFlight, .ceWindows] s (State.cacheRoom s a1 a2) := by
  unfold State.cacheRoom
  repeat' (first
    | (with_reducible apply Effect.refl)
    | (with_reducible (apply Effect.next; apply State.modCache_effect); decide +kernel)
    | (with_reducible (apply Effect.next; apply State.post_effect); decide +kernel)
    | (with_reducible assumption)
    | (with_reducible apply Effect.foldl <;> intros)
    | (with_reducible apply Effect.ite <;> intros)
    | (split)
    | (dsimp only))

theorem State.cacheDone_effect (s a1 a2 a3 a4) : Effect [.regs, .caches, .attics, .errRings, .wingLogs, .errInFlight, .ceWindows] s (State.cacheDone s a1 a2 a3 a4) := by
  unfold State.cacheDone
  repeat' (first
    | (with_reducible apply Effect.refl)
    | (with_reducible (apply Effect.next; apply State.modCache_effect); decide +kernel)
    | (with_reducible (apply Effect.next; apply State.cacheRoom_effect); decide +kernel)
    | (with_reducible assumption)
    | (with_reducible apply Effect.foldl <;> intros)
    | (with_reducible apply Effect.ite <;> intros)
    | (split)
    | (dsimp only))

theorem execReqRd_effect (a0 s) : EffectR [.free, .regs, .sent, .attics, .errRings, .wingLogs, .errInFlight, .ceWindows] s (execReqRd a0 s) := by
  unfold execReqRd
  repeat' (first
    | (with_reducible apply Effect.refl)
    | (with_reducible (apply Effect.next; apply State.respond_effect); decide +kernel)
    | (with_reducible (apply Effect.next; apply State.bump_effect); decide +kernel)
    | (with_reducible (apply Effect.next; apply State.afterRead_effect); decide +kernel)
    | (with_reducible apply EffectR.ready)
    | (with_reducible apply EffectR.next)
    | (with_reducible assumption)
    | (with_reducible apply Effect.foldl <;> intros)
    | (with_reducible apply Effect.ite <;> intros)
    | (with_reducible apply EffectR.ite <;> intros)
    | (split)
    | (dsimp only))

theorem State.homeWrite_effect (s a1 a2) : Effect [.free, .mem, .poison, .regs, .harts, .rooms, .tags, .reqs, .exitMsgs, .caches, .sent, .colls, .insts, .keptEnds, .arrays, .attics, .regqs, .avus, .trees, .dws, .dwOrder, .wings, .halls, .modules, .dies, .links, .fabric, .bootCount, .absentDevs, .mailboxes, .doors, .sqs, .cqs, .descs, .nextDesc, .completions, .jobs, .errRings, .wingLogs, .errInFlight, .deviceLog, .flashLog, .deviceSeq, .ceWindows, .power, .therm, .boot, .aon, .flash, .flashLogs, .plan, .planGen, .planTime, .live, .mailboxStudy, .remaps, .test, .pcies, .guards] s (State.homeWrite s a1 a2).1 := by
  unfold State.homeWrite
  repeat' (first
    | (with_reducible apply Effect.refl)
    | (with_reducible (apply Effect.next; apply State.bump_effect); decide +kernel)
    | (with_reducible (apply Effect.next; apply State.mmioWrite_effect); decide +kernel)
    | (with_reducible (apply Effect.next; apply State.storeAt_effect); decide +kernel)
    | (with_reducible (apply Effect.next; apply State.pwrite_effect); decide +kernel)
    | (with_reducible assumption)
    | (with_reducible apply Effect.foldl <;> intros)
    | (with_reducible apply Effect.foldlFst <;> intros)
    | (with_reducible apply Effect.ite <;> intros)
    | (with_reducible apply Effect.iteFst <;> intros)
    | (split)
    | (dsimp only))

theorem execReqWr_effect (a0 s) : EffectR [.free, .mem, .poison, .regs, .harts, .rooms, .tags, .reqs, .exitMsgs, .caches, .sent, .colls, .insts, .keptEnds, .arrays, .attics, .regqs, .avus, .trees, .dws, .dwOrder, .wings, .halls, .modules, .dies, .links, .fabric, .bootCount, .absentDevs, .mailboxes, .doors, .sqs, .cqs, .descs, .nextDesc, .completions, .jobs, .errRings, .wingLogs, .errInFlight, .deviceLog, .flashLog, .deviceSeq, .ceWindows, .power, .therm, .boot, .aon, .flash, .flashLogs, .plan, .planGen, .planTime, .live, .mailboxStudy, .remaps, .test, .pcies, .guards] s (execReqWr a0 s) := by
  unfold execReqWr homeRun
  repeat' (first
    | (with_reducible apply Effect.refl)
    | (with_reducible (apply Effect.next; apply State.respond_effect); decide +kernel)
    | (with_reducible (apply Effect.next; apply State.cacheDone_effect); decide +kernel)
    | (with_reducible (apply Effect.next; apply State.homeWrite_effect); decide +kernel)
    | (with_reducible (apply Effect.next; apply Effect.fst; case e => assumption; apply State.homeWrite_effect); decide +kernel)
    | (with_reducible apply EffectR.ready)
    | (with_reducible apply EffectR.next)
    | (with_reducible assumption)
    | (with_reducible apply Effect.foldl <;> intros)
    | (with_reducible apply Effect.foldlFst <;> intros)
    | (with_reducible apply Effect.ite <;> intros)
    | (with_reducible apply Effect.iteFst <;> intros)
    | (with_reducible apply EffectR.ite <;> intros)
    | (split)
    | (dsimp only [id]))

theorem State.spoilTarget_effect (s a1 a2 a3) : Effect [.free, .mem, .poison] s (State.spoilTarget s a1 a2 a3) := by
  unfold State.spoilTarget
  repeat' (first
    | (with_reducible apply Effect.refl)
    | (with_reducible (apply Effect.next; apply State.bump_effect); decide +kernel)
    | (with_reducible (apply Effect.next; apply State.spoilRanges_effect); decide +kernel)
    | (with_reducible assumption)
    | (with_reducible apply Effect.foldl <;> intros)
    | (with_reducible apply Effect.ite <;> intros)
    | (split)
    | (dsimp only))

theorem State.homeAtomicOp_effect (s a1 a2 a3) : Effect [.free, .mem, .poison, .regs, .harts, .rooms, .attics, .dws, .errRings, .wingLogs, .errInFlight, .ceWindows, .guards] s (State.homeAtomicOp s a1 a2 a3).1 := by
  unfold State.homeAtomicOp
  repeat' (first
    | (with_reducible apply Effect.refl)
    | (with_reducible (apply Effect.next; apply State.spoilTarget_effect); decide +kernel)
    | (with_reducible (apply Effect.next; apply State.atomicPerform_effect); decide +kernel)
    | (with_reducible (apply Effect.next; apply State.afterRead_effect); decide +kernel)
    | (with_reducible assumption)
    | (with_reducible apply Effect.foldl <;> intros)
    | (with_reducible apply Effect.foldlFst <;> intros)
    | (with_reducible apply Effect.ite <;> intros)
    | (with_reducible apply Effect.iteFst <;> intros)
    | (split)
    | (dsimp only))

theorem homeAtomicRun_effect (a0 a1 a2 s) : EffectR [.free, .mem, .poison, .regs, .harts, .rooms, .caches, .sent, .attics, .dws, .errRings, .wingLogs, .errInFlight, .ceWindows, .guards] s (homeAtomicRun a0 a1 a2 s) := by
  unfold homeAtomicRun homeRun
  repeat' (first
    | (with_reducible apply Effect.refl)
    | (with_reducible (apply Effect.next; apply State.respond_effect); decide +kernel)
    | (with_reducible (apply Effect.next; apply State.cacheDone_effect); decide +kernel)
    | (with_reducible (apply Effect.next; apply State.homeAtomicOp_effect); decide +kernel)
    | (with_reducible (apply Effect.next; apply Effect.fst; case e => assumption; apply State.homeAtomicOp_effect); decide +kernel)
    | (with_reducible apply EffectR.ready)
    | (with_reducible apply EffectR.next)
    | (with_reducible assumption)
    | (with_reducible apply Effect.foldl <;> intros)
    | (with_reducible apply Effect.foldlFst <;> intros)
    | (with_reducible apply Effect.ite <;> intros)
    | (with_reducible apply Effect.iteFst <;> intros)
    | (with_reducible apply EffectR.ite <;> intros)
    | (split)
    | (dsimp only [id]))

theorem execReqSwap_effect (a0 s) : EffectR [.free, .mem, .poison, .regs, .harts, .rooms, .caches, .sent, .attics, .dws, .errRings, .wingLogs, .errInFlight, .ceWindows, .guards] s (execReqSwap a0 s) := by
  unfold execReqSwap
  repeat' (first
    | (with_reducible apply Effect.refl)
    | (with_reducible (apply EffectR.after; apply homeAtomicRun_effect); decide +kernel)
    | (with_reducible apply EffectR.ready)
    | (with_reducible apply EffectR.next)
    | (with_reducible assumption)
    | (with_reducible apply Effect.foldl <;> intros)
    | (with_reducible apply Effect.ite <;> intros)
    | (with_reducible apply EffectR.ite <;> intros)
    | (split)
    | (dsimp only))

theorem execReqAdd_effect (a0 s) : EffectR [.free, .mem, .poison, .regs, .harts, .rooms, .caches, .sent, .attics, .dws, .errRings, .wingLogs, .errInFlight, .ceWindows, .guards] s (execReqAdd a0 s) := by
  unfold execReqAdd
  repeat' (first
    | (with_reducible apply Effect.refl)
    | (with_reducible (apply EffectR.after; apply homeAtomicRun_effect); decide +kernel)
    | (with_reducible apply EffectR.ready)
    | (with_reducible apply EffectR.next)
    | (with_reducible assumption)
    | (with_reducible apply Effect.foldl <;> intros)
    | (with_reducible apply Effect.ite <;> intros)
    | (with_reducible apply EffectR.ite <;> intros)
    | (split)
    | (dsimp only))

theorem execReqAnd_effect (a0 s) : EffectR [.free, .mem, .poison, .regs, .harts, .rooms, .caches, .sent, .attics, .dws, .errRings, .wingLogs, .errInFlight, .ceWindows, .guards] s (execReqAnd a0 s) := by
  unfold execReqAnd
  repeat' (first
    | (with_reducible apply Effect.refl)
    | (with_reducible (apply EffectR.after; apply homeAtomicRun_effect); decide +kernel)
    | (with_reducible apply EffectR.ready)
    | (with_reducible apply EffectR.next)
    | (with_reducible assumption)
    | (with_reducible apply Effect.foldl <;> intros)
    | (with_reducible apply Effect.ite <;> intros)
    | (with_reducible apply EffectR.ite <;> intros)
    | (split)
    | (dsimp only))

theorem execReqOr_effect (a0 s) : EffectR [.free, .mem, .poison, .regs, .harts, .rooms, .caches, .sent, .attics, .dws, .errRings, .wingLogs, .errInFlight, .ceWindows, .guards] s (execReqOr a0 s) := by
  unfold execReqOr
  repeat' (first
    | (with_reducible apply Effect.refl)
    | (with_reducible (apply EffectR.after; apply homeAtomicRun_effect); decide +kernel)
    | (with_reducible apply EffectR.ready)
    | (with_reducible apply EffectR.next)
    | (with_reducible assumption)
    | (with_reducible apply Effect.foldl <;> intros)
    | (with_reducible apply Effect.ite <;> intros)
    | (with_reducible apply EffectR.ite <;> intros)
    | (split)
    | (dsimp only))

theorem execReqXor_effect (a0 s) : EffectR [.free, .mem, .poison, .regs, .harts, .rooms, .caches, .sent, .attics, .dws, .errRings, .wingLogs, .errInFlight, .ceWindows, .guards] s (execReqXor a0 s) := by
  unfold execReqXor
  repeat' (first
    | (with_reducible apply Effect.refl)
    | (with_reducible (apply EffectR.after; apply homeAtomicRun_effect); decide +kernel)
    | (with_reducible apply EffectR.ready)
    | (with_reducible apply EffectR.next)
    | (with_reducible assumption)
    | (with_reducible apply Effect.foldl <;> intros)
    | (with_reducible apply Effect.ite <;> intros)
    | (with_reducible apply EffectR.ite <;> intros)
    | (split)
    | (dsimp only))

theorem execReqMin_effect (a0 s) : EffectR [.free, .mem, .poison, .regs, .harts, .rooms, .caches, .sent, .attics, .dws, .errRings, .wingLogs, .errInFlight, .ceWindows, .guards] s (execReqMin a0 s) := by
  unfold execReqMin
  repeat' (first
    | (with_reducible apply Effect.refl)
    | (with_reducible (apply EffectR.after; apply homeAtomicRun_effect); decide +kernel)
    | (with_reducible apply EffectR.ready)
    | (with_reducible apply EffectR.next)
    | (with_reducible assumption)
    | (with_reducible apply Effect.foldl <;> intros)
    | (with_reducible apply Effect.ite <;> intros)
    | (with_reducible apply EffectR.ite <;> intros)
    | (split)
    | (dsimp only))

theorem execReqMax_effect (a0 s) : EffectR [.free, .mem, .poison, .regs, .harts, .rooms, .caches, .sent, .attics, .dws, .errRings, .wingLogs, .errInFlight, .ceWindows, .guards] s (execReqMax a0 s) := by
  unfold execReqMax
  repeat' (first
    | (with_reducible apply Effect.refl)
    | (with_reducible (apply EffectR.after; apply homeAtomicRun_effect); decide +kernel)
    | (with_reducible apply EffectR.ready)
    | (with_reducible apply EffectR.next)
    | (with_reducible assumption)
    | (with_reducible apply Effect.foldl <;> intros)
    | (with_reducible apply Effect.ite <;> intros)
    | (with_reducible apply EffectR.ite <;> intros)
    | (split)
    | (dsimp only))

theorem execReqMinu_effect (a0 s) : EffectR [.free, .mem, .poison, .regs, .harts, .rooms, .caches, .sent, .attics, .dws, .errRings, .wingLogs, .errInFlight, .ceWindows, .guards] s (execReqMinu a0 s) := by
  unfold execReqMinu
  repeat' (first
    | (with_reducible apply Effect.refl)
    | (with_reducible (apply EffectR.after; apply homeAtomicRun_effect); decide +kernel)
    | (with_reducible apply EffectR.ready)
    | (with_reducible apply EffectR.next)
    | (with_reducible assumption)
    | (with_reducible apply Effect.foldl <;> intros)
    | (with_reducible apply Effect.ite <;> intros)
    | (with_reducible apply EffectR.ite <;> intros)
    | (split)
    | (dsimp only))

theorem execReqMaxu_effect (a0 s) : EffectR [.free, .mem, .poison, .regs, .harts, .rooms, .caches, .sent, .attics, .dws, .errRings, .wingLogs, .errInFlight, .ceWindows, .guards] s (execReqMaxu a0 s) := by
  unfold execReqMaxu
  repeat' (first
    | (with_reducible apply Effect.refl)
    | (with_reducible (apply EffectR.after; apply homeAtomicRun_effect); decide +kernel)
    | (with_reducible apply EffectR.ready)
    | (with_reducible apply EffectR.next)
    | (with_reducible assumption)
    | (with_reducible apply Effect.foldl <;> intros)
    | (with_reducible apply Effect.ite <;> intros)
    | (with_reducible apply EffectR.ite <;> intros)
    | (split)
    | (dsimp only))

theorem execReqXaAdd_effect (a0 s) : EffectR [.free, .mem, .poison, .regs, .harts, .rooms, .caches, .sent, .attics, .dws, .errRings, .wingLogs, .errInFlight, .ceWindows, .guards] s (execReqXaAdd a0 s) := by
  unfold execReqXaAdd
  repeat' (first
    | (with_reducible apply Effect.refl)
    | (with_reducible (apply EffectR.after; apply homeAtomicRun_effect); decide +kernel)
    | (with_reducible apply EffectR.ready)
    | (with_reducible apply EffectR.next)
    | (with_reducible assumption)
    | (with_reducible apply Effect.foldl <;> intros)
    | (with_reducible apply Effect.ite <;> intros)
    | (with_reducible apply EffectR.ite <;> intros)
    | (split)
    | (dsimp only))

theorem execReqFadd_effect (a0 s) : EffectR [.free, .mem, .poison, .regs, .harts, .rooms, .caches, .sent, .attics, .dws, .errRings, .wingLogs, .errInFlight, .ceWindows, .guards] s (execReqFadd a0 s) := by
  unfold execReqFadd
  repeat' (first
    | (with_reducible apply Effect.refl)
    | (with_reducible (apply EffectR.after; apply homeAtomicRun_effect); decide +kernel)
    | (with_reducible apply EffectR.ready)
    | (with_reducible apply EffectR.next)
    | (with_reducible assumption)
    | (with_reducible apply Effect.foldl <;> intros)
    | (with_reducible apply Effect.ite <;> intros)
    | (with_reducible apply EffectR.ite <;> intros)
    | (split)
    | (dsimp only))

theorem execReqFmax_effect (a0 s) : EffectR [.free, .mem, .poison, .regs, .harts, .rooms, .caches, .sent, .attics, .dws, .errRings, .wingLogs, .errInFlight, .ceWindows, .guards] s (execReqFmax a0 s) := by
  unfold execReqFmax
  repeat' (first
    | (with_reducible apply Effect.refl)
    | (with_reducible (apply EffectR.after; apply homeAtomicRun_effect); decide +kernel)
    | (with_reducible apply EffectR.ready)
    | (with_reducible apply EffectR.next)
    | (with_reducible assumption)
    | (with_reducible apply Effect.foldl <;> intros)
    | (with_reducible apply Effect.ite <;> intros)
    | (with_reducible apply EffectR.ite <;> intros)
    | (split)
    | (dsimp only))

theorem execReqFmin_effect (a0 s) : EffectR [.free, .mem, .poison, .regs, .harts, .rooms, .caches, .sent, .attics, .dws, .errRings, .wingLogs, .errInFlight, .ceWindows, .guards] s (execReqFmin a0 s) := by
  unfold execReqFmin
  repeat' (first
    | (with_reducible apply Effect.refl)
    | (with_reducible (apply EffectR.after; apply homeAtomicRun_effect); decide +kernel)
    | (with_reducible apply EffectR.ready)
    | (with_reducible apply EffectR.next)
    | (with_reducible assumption)
    | (with_reducible apply Effect.foldl <;> intros)
    | (with_reducible apply Effect.ite <;> intros)
    | (with_reducible apply EffectR.ite <;> intros)
    | (split)
    | (dsimp only))

theorem execReqCas_effect (a0 s) : EffectR [.free, .mem, .poison, .regs, .harts, .rooms, .caches, .sent, .attics, .dws, .errRings, .wingLogs, .errInFlight, .ceWindows, .guards] s (execReqCas a0 s) := by
  unfold execReqCas
  repeat' (first
    | (with_reducible apply Effect.refl)
    | (with_reducible (apply EffectR.after; apply homeAtomicRun_effect); decide +kernel)
    | (with_reducible apply EffectR.ready)
    | (with_reducible apply EffectR.next)
    | (with_reducible assumption)
    | (with_reducible apply Effect.foldl <;> intros)
    | (with_reducible apply Effect.ite <;> intros)
    | (with_reducible apply EffectR.ite <;> intros)
    | (split)
    | (dsimp only))

theorem execReqLeaseAcq_effect (a0 s) : EffectR [.free, .mem, .poison, .regs, .harts, .rooms, .caches, .sent, .attics, .dws, .errRings, .wingLogs, .errInFlight, .ceWindows, .guards] s (execReqLeaseAcq a0 s) := by
  unfold execReqLeaseAcq
  repeat' (first
    | (with_reducible apply Effect.refl)
    | (with_reducible (apply EffectR.after; apply homeAtomicRun_effect); decide +kernel)
    | (with_reducible apply EffectR.ready)
    | (with_reducible apply EffectR.next)
    | (with_reducible assumption)
    | (with_reducible apply Effect.foldl <;> intros)
    | (with_reducible apply Effect.ite <;> intros)
    | (with_reducible apply EffectR.ite <;> intros)
    | (split)
    | (dsimp only))

theorem execReqLeaseRel_effect (a0 s) : EffectR [.free, .mem, .poison, .regs, .harts, .rooms, .caches, .sent, .attics, .dws, .errRings, .wingLogs, .errInFlight, .ceWindows, .guards] s (execReqLeaseRel a0 s) := by
  unfold execReqLeaseRel
  repeat' (first
    | (with_reducible apply Effect.refl)
    | (with_reducible (apply EffectR.after; apply homeAtomicRun_effect); decide +kernel)
    | (with_reducible apply EffectR.ready)
    | (with_reducible apply EffectR.next)
    | (with_reducible assumption)
    | (with_reducible apply Effect.foldl <;> intros)
    | (with_reducible apply Effect.ite <;> intros)
    | (with_reducible apply EffectR.ite <;> intros)
    | (split)
    | (dsimp only))

theorem execReqSet_effect (a0 s) : EffectR [.free, .mem, .poison, .regs, .harts, .rooms, .caches, .sent, .attics, .dws, .errRings, .wingLogs, .errInFlight, .ceWindows, .guards] s (execReqSet a0 s) := by
  unfold execReqSet
  repeat' (first
    | (with_reducible apply Effect.refl)
    | (with_reducible (apply EffectR.after; apply homeAtomicRun_effect); decide +kernel)
    | (with_reducible apply EffectR.ready)
    | (with_reducible apply EffectR.next)
    | (with_reducible assumption)
    | (with_reducible apply Effect.foldl <;> intros)
    | (with_reducible apply Effect.ite <;> intros)
    | (with_reducible apply EffectR.ite <;> intros)
    | (split)
    | (dsimp only))

theorem execReqClr_effect (a0 s) : EffectR [.free, .mem, .poison, .regs, .harts, .rooms, .caches, .sent, .attics, .dws, .errRings, .wingLogs, .errInFlight, .ceWindows, .guards] s (execReqClr a0 s) := by
  unfold execReqClr
  repeat' (first
    | (with_reducible apply Effect.refl)
    | (with_reducible (apply EffectR.after; apply homeAtomicRun_effect); decide +kernel)
    | (with_reducible apply EffectR.ready)
    | (with_reducible apply EffectR.next)
    | (with_reducible assumption)
    | (with_reducible apply Effect.foldl <;> intros)
    | (with_reducible apply Effect.ite <;> intros)
    | (with_reducible apply EffectR.ite <;> intros)
    | (split)
    | (dsimp only))

theorem execReqSignalAdd_effect (a0 s) : EffectR [.free, .mem, .poison, .regs, .harts, .rooms, .caches, .sent, .attics, .dws, .errRings, .wingLogs, .errInFlight, .ceWindows, .guards] s (execReqSignalAdd a0 s) := by
  unfold execReqSignalAdd
  repeat' (first
    | (with_reducible apply Effect.refl)
    | (with_reducible (apply EffectR.after; apply homeAtomicRun_effect); decide +kernel)
    | (with_reducible apply EffectR.ready)
    | (with_reducible apply EffectR.next)
    | (with_reducible assumption)
    | (with_reducible apply Effect.foldl <;> intros)
    | (with_reducible apply Effect.ite <;> intros)
    | (with_reducible apply EffectR.ite <;> intros)
    | (split)
    | (dsimp only))

theorem execMsgSpawn_effect (a0 a1 s) : EffectR [.regs, .harts, .rooms, .tags, .reqs, .caches, .sent, .attics, .errRings, .wingLogs, .errInFlight, .ceWindows] s (execMsgSpawn a0 a1 s) := by
  unfold execMsgSpawn roomRun
  repeat' (first
    | (with_reducible apply Effect.refl)
    | (with_reducible (apply Effect.next; apply State.performSpawn_effect); decide +kernel)
    | (with_reducible (apply Effect.next; apply State.answerSpawn_effect); decide +kernel)
    | (with_reducible (apply Effect.next; apply State.respond_effect); decide +kernel)
    | (with_reducible (apply Effect.next; apply State.cacheDone_effect); decide +kernel)
    | (with_reducible apply EffectR.ready)
    | (with_reducible apply EffectR.next)
    | (with_reducible assumption)
    | (with_reducible apply Effect.foldl <;> intros)
    | (with_reducible apply Effect.ite <;> intros)
    | (with_reducible apply EffectR.ite <;> intros)
    | (split)
    | (dsimp only [id]))

theorem execMsgExitNotice_effect (a0 a1 a2 a3 a4 s) : EffectR [.regs, .harts, .rooms, .exitMsgs, .caches, .sent, .attics, .errRings, .wingLogs, .errInFlight, .ceWindows] s (execMsgExitNotice a0 a1 a2 a3 a4 s) := by
  unfold execMsgExitNotice roomRun
  repeat' (first
    | ((conv => arg 3; arg 64); refine Effect.upd ?_ (by intro p hp; cases p <;> first | exact Bool.noConfusion hp | rfl))
    | (with_reducible apply Effect.refl)
    | (with_reducible (apply Effect.next; apply State.childEnded_effect); decide +kernel)
    | (with_reducible (apply Effect.next; apply State.respond_effect); decide +kernel)
    | (with_reducible (apply Effect.next; apply State.cacheDone_effect); decide +kernel)
    | (with_reducible apply EffectR.ready)
    | (with_reducible apply EffectR.next)
    | (with_reducible assumption)
    | (with_reducible apply Effect.foldl <;> intros)
    | (with_reducible apply Effect.ite <;> intros)
    | (with_reducible apply EffectR.ite <;> intros)
    | (split)
    | (dsimp only [id]))

end Sys2Proof.Machine
end

