-- ==== Sys2Proof/Laws/EffectHartMem.lean ====
section
/-! SUPPORT. What the operations and the meanings of Machine/HartMem.lean can change: one lemma each. -/
-- The kernel decides the inclusions of each lemma before the next lemma starts.
set_option Elab.async false
set_option linter.all false
namespace Sys2Proof.Machine

theorem State.cacheLoad_effect (s a1 a2 a3) : Effect [.rooms] s (State.cacheLoad s a1 a2 a3) := by
  unfold State.cacheLoad
  repeat' (first
    | (with_reducible apply Effect.refl)
    | (with_reducible (apply Effect.next; apply State.modRoom_effect); decide +kernel)
    | (with_reducible assumption)
    | (with_reducible apply Effect.foldl <;> intros)
    | (with_reducible apply Effect.ite <;> intros)
    | (split)
    | (dsimp only))

theorem State.xlateTrap_effect (s a1 a2 a3 a4) : Effect [.regs, .harts, .attics, .errRings, .wingLogs, .errInFlight, .ceWindows] s (State.xlateTrap s a1 a2 a3 a4) := by
  unfold State.xlateTrap
  repeat' (first
    | (with_reducible apply Effect.refl)
    | (with_reducible (apply Effect.next; apply State.trap_effect); decide +kernel)
    | (with_reducible (apply Effect.next; apply State.noteWalk_effect); decide +kernel)
    | (with_reducible assumption)
    | (with_reducible apply Effect.foldl <;> intros)
    | (with_reducible apply Effect.ite <;> intros)
    | (split)
    | (dsimp only))

theorem State.hartLoad_effect (s a1 a2 a3) : Effect [.free, .regs, .harts, .rooms, .tags, .reqs, .sent, .attics, .errRings, .wingLogs, .errInFlight, .ceWindows] s (State.hartLoad s a1 a2 a3) := by
  unfold State.hartLoad
  repeat' (first
    | (with_reducible apply Effect.refl)
    | (with_reducible (apply Effect.next; apply State.trap_effect); decide +kernel)
    | (with_reducible (apply Effect.next; apply State.xlateTrap_effect); decide +kernel)
    | (with_reducible (apply Effect.next; apply State.fillTlb_effect); decide +kernel)
    | (with_reducible (apply Effect.next; apply State.modHartAt_effect); decide +kernel)
    | (with_reducible (apply Effect.next; apply State.issue_effect); decide +kernel)
    | (with_reducible (apply Effect.next; apply State.remoteTrap_effect); decide +kernel)
    | (with_reducible (apply Effect.next; apply State.afterRead_effect); decide +kernel)
    | (with_reducible (apply Effect.next; apply State.cacheLoad_effect); decide +kernel)
    | (with_reducible assumption)
    | (with_reducible apply Effect.foldl <;> intros)
    | (with_reducible apply Effect.ite <;> intros)
    | (split)
    | (dsimp only))

theorem State.hartWrote_effect (s a1 a2 a3) : Effect [.guards] s (State.hartWrote s a1 a2 a3) := by
  unfold State.hartWrote
  repeat' (first
    | (with_reducible apply Effect.refl)
    | (with_reducible (apply Effect.next; apply State.noteFresh_effect); decide +kernel)
    | (with_reducible assumption)
    | (with_reducible apply Effect.foldl <;> intros)
    | (with_reducible apply Effect.ite <;> intros)
    | (split)
    | (dsimp only))

theorem State.hartStoreAt_effect (s a1 a2 a3 a4 a5) : Effect [.free, .mem, .poison, .regs, .harts, .rooms, .tags, .reqs, .exitMsgs, .caches, .sent, .colls, .insts, .keptEnds, .arrays, .attics, .regqs, .avus, .trees, .dws, .dwOrder, .wings, .halls, .modules, .dies, .links, .fabric, .bootCount, .absentDevs, .mailboxes, .doors, .sqs, .cqs, .descs, .nextDesc, .completions, .jobs, .errRings, .wingLogs, .errInFlight, .deviceLog, .flashLog, .deviceSeq, .ceWindows, .power, .therm, .boot, .aon, .flash, .flashLogs, .plan, .planGen, .planTime, .live, .mailboxStudy, .remaps, .test, .pcies, .guards] s (State.hartStoreAt s a1 a2 a3 a4 a5) := by
  unfold State.hartStoreAt
  repeat' (first
    | (with_reducible apply Effect.refl)
    | (with_reducible (apply Effect.next; apply State.issue_effect); decide +kernel)
    | (with_reducible (apply Effect.next; apply State.storeError_effect); decide +kernel)
    | (with_reducible (apply Effect.next; apply State.mmioWrite_effect); decide +kernel)
    | (with_reducible (apply Effect.next; apply State.hartWrote_effect); decide +kernel)
    | (with_reducible (apply Effect.next; apply State.storeAt_effect); decide +kernel)
    | (with_reducible (apply Effect.next; apply State.memWrite_effect); decide +kernel)
    | (with_reducible assumption)
    | (with_reducible apply Effect.foldl <;> intros)
    | (with_reducible apply Effect.ite <;> intros)
    | (split)
    | (dsimp only))

theorem State.hartStore_effect (s a1 a2 a3) : Effect [.free, .mem, .poison, .regs, .harts, .rooms, .tags, .reqs, .exitMsgs, .caches, .sent, .colls, .insts, .keptEnds, .arrays, .attics, .regqs, .avus, .trees, .dws, .dwOrder, .wings, .halls, .modules, .dies, .links, .fabric, .bootCount, .absentDevs, .mailboxes, .doors, .sqs, .cqs, .descs, .nextDesc, .completions, .jobs, .errRings, .wingLogs, .errInFlight, .deviceLog, .flashLog, .deviceSeq, .ceWindows, .power, .therm, .boot, .aon, .flash, .flashLogs, .plan, .planGen, .planTime, .live, .mailboxStudy, .remaps, .test, .pcies, .guards] s (State.hartStore s a1 a2 a3) := by
  unfold State.hartStore State.storeRetires
  repeat' (first
    | (with_reducible apply Effect.refl)
    | (with_reducible (apply Effect.next; apply State.trap_effect); decide +kernel)
    | (with_reducible (apply Effect.next; apply State.xlateTrap_effect); decide +kernel)
    | (with_reducible (apply Effect.next; apply State.fillTlb_effect); decide +kernel)
    | (with_reducible (apply Effect.next; apply State.modHart_effect); decide +kernel)
    | (with_reducible (apply Effect.next; apply State.hartStoreAt_effect); decide +kernel)
    | (with_reducible assumption)
    | (with_reducible apply Effect.foldl <;> intros)
    | (with_reducible apply Effect.ite <;> intros)
    | (split)
    | (dsimp only [id]))

theorem State.hartAtomic_effect (s a1 a2 a3 a4 a5 a6 a7) : Effect [.free, .mem, .poison, .regs, .harts, .rooms, .tags, .reqs, .sent, .attics, .dws, .errRings, .wingLogs, .errInFlight, .ceWindows, .guards] s (State.hartAtomic s a1 a2 a3 a4 a5 a6 a7) := by
  unfold State.hartAtomic
  repeat' (first
    | (with_reducible apply Effect.refl)
    | (with_reducible (apply Effect.next; apply State.trap_effect); decide +kernel)
    | (with_reducible (apply Effect.next; apply State.xlateTrap_effect); decide +kernel)
    | (with_reducible (apply Effect.next; apply State.fillTlb_effect); decide +kernel)
    | (with_reducible (apply Effect.next; apply State.modHartAt_effect); decide +kernel)
    | (with_reducible (apply Effect.next; apply State.issue_effect); decide +kernel)
    | (with_reducible (apply Effect.next; apply State.hartWrote_effect); decide +kernel)
    | (with_reducible (apply Effect.next; apply State.atomicPerform_effect); decide +kernel)
    | (with_reducible (apply Effect.next; apply State.remoteTrap_effect); decide +kernel)
    | (with_reducible (apply Effect.next; apply State.afterRead_effect); decide +kernel)
    | (with_reducible assumption)
    | (with_reducible apply Effect.foldl <;> intros)
    | (with_reducible apply Effect.ite <;> intros)
    | (split)
    | (dsimp only))

theorem State.signalAt_effect (s a1 a2 a3 a4 a5) : Effect [.free, .mem, .poison, .regs, .harts, .rooms, .tags, .reqs, .sent, .attics, .dws, .errRings, .wingLogs, .errInFlight, .ceWindows, .guards] s (State.signalAt s a1 a2 a3 a4 a5) := by
  unfold State.signalAt
  repeat' (first
    | (with_reducible apply Effect.refl)
    | (with_reducible (apply Effect.next; apply State.issue_effect); decide +kernel)
    | (with_reducible (apply Effect.next; apply State.hartWrote_effect); decide +kernel)
    | (with_reducible (apply Effect.next; apply State.atomicPerform_effect); decide +kernel)
    | (with_reducible (apply Effect.next; apply State.storeError_effect); decide +kernel)
    | (with_reducible (apply Effect.next; apply State.afterRead_effect); decide +kernel)
    | (with_reducible assumption)
    | (with_reducible apply Effect.foldl <;> intros)
    | (with_reducible apply Effect.ite <;> intros)
    | (split)
    | (dsimp only))

theorem State.hartPost_effect (s a1 a2 a3 a4 a5) : Effect [.free, .mem, .poison, .regs, .harts, .rooms, .tags, .reqs, .sent, .attics, .dws, .errRings, .wingLogs, .errInFlight, .ceWindows, .guards] s (State.hartPost s a1 a2 a3 a4 a5) := by
  unfold State.hartPost
  repeat' (first
    | (with_reducible apply Effect.refl)
    | (with_reducible (apply Effect.next; apply State.trap_effect); decide +kernel)
    | (with_reducible (apply Effect.next; apply State.xlateTrap_effect); decide +kernel)
    | (with_reducible (apply Effect.next; apply State.fillTlb_effect); decide +kernel)
    | (with_reducible (apply Effect.next; apply State.signalAt_effect); decide +kernel)
    | (with_reducible (apply Effect.next; apply State.modHart_effect); decide +kernel)
    | (with_reducible assumption)
    | (with_reducible apply Effect.foldl <;> intros)
    | (with_reducible apply Effect.ite <;> intros)
    | (split)
    | (dsimp only))

theorem execResponseReceive_effect (a0 a1 s) : EffectR [.regs, .harts, .rooms, .tags, .reqs, .sent, .attics, .halls, .errRings, .wingLogs, .errInFlight, .ceWindows] s (execResponseReceive a0 a1 s) := by
  unfold execResponseReceive
  repeat' (first
    | (with_reducible apply Effect.refl)
    | (with_reducible (apply Effect.next; apply State.landingAnswer_effect); decide +kernel)
    | (with_reducible (apply Effect.next; apply State.endRequest_effect); decide +kernel)
    | (with_reducible (apply Effect.next; apply State.retireTag_effect); decide +kernel)
    | (with_reducible apply EffectR.ready)
    | (with_reducible apply EffectR.next)
    | (with_reducible assumption)
    | (with_reducible apply Effect.foldl <;> intros)
    | (with_reducible apply Effect.ite <;> intros)
    | (with_reducible apply EffectR.ite <;> intros)
    | (split)
    | (dsimp only))

theorem execRequestTimeout_effect (a0 a1 s) : EffectR [.now, .free, .mem, .poison, .regs, .harts, .rooms, .tags, .reqs, .attics, .dws, .errRings, .wingLogs, .errInFlight, .ceWindows, .guards] s (execRequestTimeout a0 a1 s) := by
  unfold execRequestTimeout
  repeat' (first
    | (with_reducible apply Effect.refl)
    | (with_reducible (apply Effect.next; apply State.timeout_effect); decide +kernel)
    | (with_reducible (apply Effect.next; apply State.reach_effect); decide +kernel)
    | (with_reducible apply EffectR.ready)
    | (with_reducible apply EffectR.next)
    | (with_reducible assumption)
    | (with_reducible apply Effect.foldl <;> intros)
    | (with_reducible apply Effect.ite <;> intros)
    | (with_reducible apply EffectR.ite <;> intros)
    | (split)
    | (dsimp only))

theorem execTagHoldExpiry_effect (a0 a1 s) : EffectR [.tags] s (execTagHoldExpiry a0 a1 s) := by
  unfold execTagHoldExpiry
  repeat' (first
    | (with_reducible apply Effect.refl)
    | (with_reducible (apply Effect.next; apply State.setTag_effect); decide +kernel)
    | (with_reducible apply EffectR.ready)
    | (with_reducible apply EffectR.next)
    | (with_reducible assumption)
    | (with_reducible apply Effect.foldl <;> intros)
    | (with_reducible apply Effect.ite <;> intros)
    | (with_reducible apply EffectR.ite <;> intros)
    | (split)
    | (dsimp only))

theorem execLoad_effect (a0 a1 s) : EffectR [.free, .regs, .harts, .rooms, .tags, .reqs, .sent, .attics, .errRings, .wingLogs, .errInFlight, .ceWindows] s (execLoad a0 a1 s) := by
  unfold execLoad hartRun
  repeat' (first
    | (with_reducible apply Effect.refl)
    | (with_reducible (apply Effect.next; apply State.issued_effect); decide +kernel)
    | (with_reducible (apply Effect.next; apply State.endWfi_effect); decide +kernel)
    | (with_reducible (apply Effect.next; apply State.hartLoad_effect); decide +kernel)
    | (with_reducible apply EffectR.ready)
    | (with_reducible apply EffectR.next)
    | (with_reducible assumption)
    | (with_reducible apply Effect.foldl <;> intros)
    | (with_reducible apply Effect.ite <;> intros)
    | (with_reducible apply EffectR.ite <;> intros)
    | (split)
    | (dsimp only [id]))

theorem execStore_effect (a0 a1 s) : EffectR [.free, .mem, .poison, .regs, .harts, .rooms, .tags, .reqs, .exitMsgs, .caches, .sent, .colls, .insts, .keptEnds, .arrays, .attics, .regqs, .avus, .trees, .dws, .dwOrder, .wings, .halls, .modules, .dies, .links, .fabric, .bootCount, .absentDevs, .mailboxes, .doors, .sqs, .cqs, .descs, .nextDesc, .completions, .jobs, .errRings, .wingLogs, .errInFlight, .deviceLog, .flashLog, .deviceSeq, .ceWindows, .power, .therm, .boot, .aon, .flash, .flashLogs, .plan, .planGen, .planTime, .live, .mailboxStudy, .remaps, .test, .pcies, .guards] s (execStore a0 a1 s) := by
  unfold execStore hartRun
  repeat' (first
    | (with_reducible apply Effect.refl)
    | (with_reducible (apply Effect.next; apply State.issued_effect); decide +kernel)
    | (with_reducible (apply Effect.next; apply State.endWfi_effect); decide +kernel)
    | (with_reducible (apply Effect.next; apply State.hartStore_effect); decide +kernel)
    | (with_reducible apply EffectR.ready)
    | (with_reducible apply EffectR.next)
    | (with_reducible assumption)
    | (with_reducible apply Effect.foldl <;> intros)
    | (with_reducible apply Effect.ite <;> intros)
    | (with_reducible apply EffectR.ite <;> intros)
    | (split)
    | (dsimp only [id]))

theorem execAmo_effect (a0 a1 a2 s) : EffectR [.free, .mem, .poison, .regs, .harts, .rooms, .tags, .reqs, .sent, .attics, .dws, .errRings, .wingLogs, .errInFlight, .ceWindows, .guards] s (execAmo a0 a1 a2 s) := by
  unfold execAmo hartRun
  repeat' (first
    | (with_reducible apply Effect.refl)
    | (with_reducible (apply Effect.next; apply State.issued_effect); decide +kernel)
    | (with_reducible (apply Effect.next; apply State.endWfi_effect); decide +kernel)
    | (with_reducible (apply Effect.next; apply State.hartAtomic_effect); decide +kernel)
    | (with_reducible apply EffectR.ready)
    | (with_reducible apply EffectR.next)
    | (with_reducible assumption)
    | (with_reducible apply Effect.foldl <;> intros)
    | (with_reducible apply Effect.ite <;> intros)
    | (with_reducible apply EffectR.ite <;> intros)
    | (split)
    | (dsimp only [id]))

theorem execLr_effect (a0 a1 s) : EffectR [.free, .regs, .harts, .rooms, .attics, .errRings, .wingLogs, .errInFlight, .ceWindows] s (execLr a0 a1 s) := by
  unfold execLr hartRun
  repeat' (first
    | (with_reducible apply Effect.refl)
    | (with_reducible (apply Effect.next; apply State.issued_effect); decide +kernel)
    | (with_reducible (apply Effect.next; apply State.endWfi_effect); decide +kernel)
    | (with_reducible (apply Effect.next; apply State.xlateTrap_effect); decide +kernel)
    | (with_reducible (apply Effect.next; apply State.fillTlb_effect); decide +kernel)
    | (with_reducible (apply Effect.next; apply State.modHart_effect); decide +kernel)
    | (with_reducible (apply Effect.next; apply State.afterRead_effect); decide +kernel)
    | (with_reducible (apply Effect.next; apply State.remoteTrap_effect); decide +kernel)
    | (with_reducible apply EffectR.ready)
    | (with_reducible apply EffectR.next)
    | (with_reducible assumption)
    | (with_reducible apply Effect.foldl <;> intros)
    | (with_reducible apply Effect.ite <;> intros)
    | (with_reducible apply EffectR.ite <;> intros)
    | (split)
    | (dsimp only [id]))

theorem execSc_effect (a0 a1 s) : EffectR [.free, .mem, .poison, .regs, .harts, .rooms, .attics, .dws, .errRings, .wingLogs, .errInFlight, .ceWindows, .guards] s (execSc a0 a1 s) := by
  unfold execSc hartRun
  repeat' (first
    | (with_reducible apply Effect.refl)
    | (with_reducible (apply Effect.next; apply State.issued_effect); decide +kernel)
    | (with_reducible (apply Effect.next; apply State.endWfi_effect); decide +kernel)
    | (with_reducible (apply Effect.next; apply State.xlateTrap_effect); decide +kernel)
    | (with_reducible (apply Effect.next; apply State.fillTlb_effect); decide +kernel)
    | (with_reducible (apply Effect.next; apply State.modHart_effect); decide +kernel)
    | (with_reducible (apply Effect.next; apply State.hartWrote_effect); decide +kernel)
    | (with_reducible (apply Effect.next; apply State.storeAt_effect); decide +kernel)
    | (with_reducible (apply Effect.next; apply State.memWrite_effect); decide +kernel)
    | (with_reducible (apply Effect.next; apply State.remoteTrap_effect); decide +kernel)
    | (with_reducible (apply Effect.next; apply State.afterRead_effect); decide +kernel)
    | (with_reducible apply EffectR.ready)
    | (with_reducible apply EffectR.next)
    | (with_reducible assumption)
    | (with_reducible apply Effect.foldl <;> intros)
    | (with_reducible apply Effect.ite <;> intros)
    | (with_reducible apply EffectR.ite <;> intros)
    | (split)
    | (dsimp only [id]))

theorem execFence_effect (a0 a1 a2 s) : EffectR [.harts, .rooms, .guards] s (execFence a0 a1 a2 s) := by
  unfold execFence hartRun
  repeat' (first
    | (with_reducible apply Effect.refl)
    | (with_reducible (apply Effect.next; apply State.issued_effect); decide +kernel)
    | (with_reducible (apply Effect.next; apply State.endWfi_effect); decide +kernel)
    | (with_reducible (apply Effect.next; apply State.dropGuard_effect); decide +kernel)
    | (with_reducible (apply Effect.next; apply State.modHart_effect); decide +kernel)
    | (with_reducible apply EffectR.ready)
    | (with_reducible apply EffectR.next)
    | (with_reducible assumption)
    | (with_reducible apply Effect.foldl <;> intros)
    | (with_reducible apply Effect.ite <;> intros)
    | (with_reducible apply EffectR.ite <;> intros)
    | (split)
    | (dsimp only [id]))

theorem execFenceI_effect (a0 s) : EffectR [.harts, .rooms] s (execFenceI a0 s) := by
  unfold execFenceI hartRun
  repeat' (first
    | (with_reducible apply Effect.refl)
    | (with_reducible (apply Effect.next; apply State.issued_effect); decide +kernel)
    | (with_reducible (apply Effect.next; apply State.endWfi_effect); decide +kernel)
    | (with_reducible (apply Effect.next; apply State.modRoom_effect); decide +kernel)
    | (with_reducible (apply Effect.next; apply State.modHart_effect); decide +kernel)
    | (with_reducible apply EffectR.ready)
    | (with_reducible apply EffectR.next)
    | (with_reducible assumption)
    | (with_reducible apply Effect.foldl <;> intros)
    | (with_reducible apply Effect.ite <;> intros)
    | (with_reducible apply EffectR.ite <;> intros)
    | (split)
    | (dsimp only [id]))

theorem execSfenceVma_effect (a0 a1 a2 s) : EffectR [.harts, .rooms] s (execSfenceVma a0 a1 a2 s) := by
  unfold execSfenceVma hartRun
  repeat' (first
    | (with_reducible apply Effect.refl)
    | (with_reducible (apply Effect.next; apply State.issued_effect); decide +kernel)
    | (with_reducible (apply Effect.next; apply State.endWfi_effect); decide +kernel)
    | (with_reducible (apply Effect.next; apply State.trap_effect); decide +kernel)
    | (with_reducible (apply Effect.next; apply State.invalidateTlb_effect); decide +kernel)
    | (with_reducible (apply Effect.next; apply State.modHart_effect); decide +kernel)
    | (with_reducible apply EffectR.ready)
    | (with_reducible apply EffectR.next)
    | (with_reducible assumption)
    | (with_reducible apply Effect.foldl <;> intros)
    | (with_reducible apply Effect.ite <;> intros)
    | (with_reducible apply EffectR.ite <;> intros)
    | (split)
    | (dsimp only [id]))

theorem execWfi_effect (a0 s) : EffectR [.harts, .rooms] s (execWfi a0 s) := by
  unfold execWfi hartRun
  repeat' (first
    | (with_reducible apply Effect.refl)
    | (with_reducible (apply Effect.next; apply State.issued_effect); decide +kernel)
    | (with_reducible (apply Effect.next; apply State.endWfi_effect); decide +kernel)
    | (with_reducible (apply Effect.next; apply State.trap_effect); decide +kernel)
    | (with_reducible (apply Effect.next; apply State.modHart_effect); decide +kernel)
    | (with_reducible apply EffectR.ready)
    | (with_reducible apply EffectR.next)
    | (with_reducible assumption)
    | (with_reducible apply Effect.foldl <;> intros)
    | (with_reducible apply Effect.ite <;> intros)
    | (with_reducible apply EffectR.ite <;> intros)
    | (split)
    | (dsimp only [id]))

theorem execSatpWrite_effect (a0 a1 s) : EffectR [.harts, .rooms] s (execSatpWrite a0 a1 s) := by
  unfold execSatpWrite hartRun
  repeat' (first
    | (with_reducible apply Effect.refl)
    | (with_reducible (apply Effect.next; apply State.issued_effect); decide +kernel)
    | (with_reducible (apply Effect.next; apply State.endWfi_effect); decide +kernel)
    | (with_reducible (apply Effect.next; apply State.trap_effect); decide +kernel)
    | (with_reducible (apply Effect.next; apply State.modHart_effect); decide +kernel)
    | (with_reducible apply EffectR.ready)
    | (with_reducible apply EffectR.next)
    | (with_reducible assumption)
    | (with_reducible apply Effect.foldl <;> intros)
    | (with_reducible apply Effect.ite <;> intros)
    | (with_reducible apply EffectR.ite <;> intros)
    | (split)
    | (dsimp only [id]))

theorem execSzGstatusCsrAccess_effect (a0 a1 a2 a3 a4 s) : EffectR [.harts, .rooms] s (execSzGstatusCsrAccess a0 a1 a2 a3 a4 s) := by
  unfold execSzGstatusCsrAccess hartRun
  repeat' (first
    | (with_reducible apply Effect.refl)
    | (with_reducible (apply Effect.next; apply State.issued_effect); decide +kernel)
    | (with_reducible (apply Effect.next; apply State.endWfi_effect); decide +kernel)
    | (with_reducible (apply Effect.next; apply State.modHart_effect); decide +kernel)
    | (with_reducible apply EffectR.ready)
    | (with_reducible apply EffectR.next)
    | (with_reducible assumption)
    | (with_reducible apply Effect.foldl <;> intros)
    | (with_reducible apply Effect.ite <;> intros)
    | (with_reducible apply EffectR.ite <;> intros)
    | (split)
    | (dsimp only [id]))

theorem execMachineTimerExpiry_effect (a0 s) : EffectR [.now] s (execMachineTimerExpiry a0 s) := by
  unfold execMachineTimerExpiry
  repeat' (first
    | (with_reducible apply Effect.refl)
    | (with_reducible (apply Effect.next; apply State.reach_effect); decide +kernel)
    | (with_reducible apply EffectR.ready)
    | (with_reducible apply EffectR.next)
    | (with_reducible assumption)
    | (with_reducible apply Effect.foldl <;> intros)
    | (with_reducible apply Effect.ite <;> intros)
    | (with_reducible apply EffectR.ite <;> intros)
    | (split)
    | (dsimp only))

theorem State.withdraw_effect (s a1 a2) : Effect [.rooms] s (State.withdraw s a1 a2) := by
  unfold State.withdraw
  repeat' (first
    | (with_reducible apply Effect.refl)
    | (with_reducible (apply Effect.next; apply State.modRoom_effect); decide +kernel)
    | (with_reducible assumption)
    | (with_reducible apply Effect.foldl <;> intros)
    | (with_reducible apply Effect.ite <;> intros)
    | (split)
    | (dsimp only))

theorem State.beforeIrq_effect (s a1) : Effect [.harts, .rooms] s (State.beforeIrq s a1) := by
  unfold State.beforeIrq
  repeat' (first
    | (with_reducible apply Effect.refl)
    | (with_reducible (apply Effect.next; apply State.modHart_effect); decide +kernel)
    | (with_reducible (apply Effect.next; apply State.withdraw_effect); decide +kernel)
    | (with_reducible assumption)
    | (with_reducible apply Effect.foldl <;> intros)
    | (with_reducible apply Effect.ite <;> intros)
    | (split)
    | (dsimp only))

theorem execInterruptTaken_effect (a0 s) : EffectR [.harts, .rooms] s (execInterruptTaken a0 s) := by
  unfold execInterruptTaken
  repeat' (first
    | (with_reducible apply Effect.refl)
    | (with_reducible (apply Effect.next; apply State.modHart_effect); decide +kernel)
    | (with_reducible (apply Effect.next; apply State.beforeIrq_effect); decide +kernel)
    | (with_reducible apply EffectR.ready)
    | (with_reducible apply EffectR.next)
    | (with_reducible assumption)
    | (with_reducible apply Effect.foldl <;> intros)
    | (with_reducible apply Effect.ite <;> intros)
    | (with_reducible apply EffectR.ite <;> intros)
    | (split)
    | (dsimp only))

end Sys2Proof.Machine
end

