-- ==== Sys2Proof/Laws/EffectHartSz.lean ====
section
/-! SUPPORT. What the operations and the meanings of Machine/HartSz.lean can change: one lemma each. -/
-- The kernel decides the inclusions of each lemma before the next lemma starts.
set_option Elab.async false
set_option linter.all false
namespace Sys2Proof.Machine

theorem szLoad_effect (a0 a1 a2 a3 a4 s) : EffectR [.free, .regs, .harts, .rooms, .tags, .reqs, .sent, .attics, .errRings, .wingLogs, .errInFlight, .ceWindows] s (szLoad a0 a1 a2 a3 a4 s) := by
  unfold szLoad szRun whenReleased
  repeat' (first
    | (with_reducible apply Effect.refl)
    | (with_reducible (apply Effect.next; apply State.endWfi_effect); decide +kernel)
    | (with_reducible (apply Effect.next; apply State.issued_effect); decide +kernel)
    | (with_reducible (apply Effect.next; apply State.trap_effect); decide +kernel)
    | (with_reducible (apply Effect.next; apply State.modHart_effect); decide +kernel)
    | (with_reducible (apply Effect.next; apply State.hartLoad_effect); decide +kernel)
    | (with_reducible apply EffectR.ready)
    | (with_reducible apply EffectR.next)
    | (with_reducible assumption)
    | (with_reducible apply Effect.foldl <;> intros)
    | (with_reducible apply Effect.ite <;> intros)
    | (with_reducible apply EffectR.ite <;> intros)
    | (split)
    | (dsimp only [id]))

theorem szStore_effect (a0 a1 a2 a3 s) : EffectR [.free, .mem, .poison, .regs, .harts, .rooms, .tags, .reqs, .exitMsgs, .caches, .sent, .colls, .insts, .keptEnds, .arrays, .attics, .regqs, .avus, .trees, .dws, .dwOrder, .wings, .halls, .modules, .dies, .links, .fabric, .bootCount, .absentDevs, .mailboxes, .doors, .sqs, .cqs, .descs, .nextDesc, .completions, .jobs, .errRings, .wingLogs, .errInFlight, .deviceLog, .flashLog, .deviceSeq, .ceWindows, .power, .therm, .boot, .aon, .flash, .flashLogs, .plan, .planGen, .planTime, .live, .mailboxStudy, .remaps, .test, .pcies, .guards] s (szStore a0 a1 a2 a3 s) := by
  unfold szStore szRun whenReleased
  repeat' (first
    | (with_reducible apply Effect.refl)
    | (with_reducible (apply Effect.next; apply State.endWfi_effect); decide +kernel)
    | (with_reducible (apply Effect.next; apply State.issued_effect); decide +kernel)
    | (with_reducible (apply Effect.next; apply State.trap_effect); decide +kernel)
    | (with_reducible (apply Effect.next; apply State.modHart_effect); decide +kernel)
    | (with_reducible (apply Effect.next; apply State.hartStore_effect); decide +kernel)
    | (with_reducible apply EffectR.ready)
    | (with_reducible apply EffectR.next)
    | (with_reducible assumption)
    | (with_reducible apply Effect.foldl <;> intros)
    | (with_reducible apply Effect.ite <;> intros)
    | (with_reducible apply EffectR.ite <;> intros)
    | (split)
    | (dsimp only [id]))

theorem execSzGlb_effect (a0 a1 s) : EffectR [.free, .regs, .harts, .rooms, .tags, .reqs, .sent, .attics, .errRings, .wingLogs, .errInFlight, .ceWindows] s (execSzGlb a0 a1 s) := by
  unfold execSzGlb
  repeat' (first
    | (with_reducible apply Effect.refl)
    | (with_reducible (apply EffectR.after; apply szLoad_effect); decide +kernel)
    | (with_reducible apply EffectR.ready)
    | (with_reducible apply EffectR.next)
    | (with_reducible assumption)
    | (with_reducible apply Effect.foldl <;> intros)
    | (with_reducible apply Effect.ite <;> intros)
    | (with_reducible apply EffectR.ite <;> intros)
    | (split)
    | (dsimp only))

theorem execSzGlh_effect (a0 a1 s) : EffectR [.free, .regs, .harts, .rooms, .tags, .reqs, .sent, .attics, .errRings, .wingLogs, .errInFlight, .ceWindows] s (execSzGlh a0 a1 s) := by
  unfold execSzGlh
  repeat' (first
    | (with_reducible apply Effect.refl)
    | (with_reducible (apply EffectR.after; apply szLoad_effect); decide +kernel)
    | (with_reducible apply EffectR.ready)
    | (with_reducible apply EffectR.next)
    | (with_reducible assumption)
    | (with_reducible apply Effect.foldl <;> intros)
    | (with_reducible apply Effect.ite <;> intros)
    | (with_reducible apply EffectR.ite <;> intros)
    | (split)
    | (dsimp only))

theorem execSzGlw_effect (a0 a1 s) : EffectR [.free, .regs, .harts, .rooms, .tags, .reqs, .sent, .attics, .errRings, .wingLogs, .errInFlight, .ceWindows] s (execSzGlw a0 a1 s) := by
  unfold execSzGlw
  repeat' (first
    | (with_reducible apply Effect.refl)
    | (with_reducible (apply EffectR.after; apply szLoad_effect); decide +kernel)
    | (with_reducible apply EffectR.ready)
    | (with_reducible apply EffectR.next)
    | (with_reducible assumption)
    | (with_reducible apply Effect.foldl <;> intros)
    | (with_reducible apply Effect.ite <;> intros)
    | (with_reducible apply EffectR.ite <;> intros)
    | (split)
    | (dsimp only))

theorem execSzGld_effect (a0 a1 s) : EffectR [.free, .regs, .harts, .rooms, .tags, .reqs, .sent, .attics, .errRings, .wingLogs, .errInFlight, .ceWindows] s (execSzGld a0 a1 s) := by
  unfold execSzGld
  repeat' (first
    | (with_reducible apply Effect.refl)
    | (with_reducible (apply EffectR.after; apply szLoad_effect); decide +kernel)
    | (with_reducible apply EffectR.ready)
    | (with_reducible apply EffectR.next)
    | (with_reducible assumption)
    | (with_reducible apply Effect.foldl <;> intros)
    | (with_reducible apply Effect.ite <;> intros)
    | (with_reducible apply EffectR.ite <;> intros)
    | (split)
    | (dsimp only))

theorem execSzGlq_effect (a0 a1 s) : EffectR [.free, .regs, .harts, .rooms, .tags, .reqs, .sent, .attics, .errRings, .wingLogs, .errInFlight, .ceWindows] s (execSzGlq a0 a1 s) := by
  unfold execSzGlq
  repeat' (first
    | (with_reducible apply Effect.refl)
    | (with_reducible (apply EffectR.after; apply szLoad_effect); decide +kernel)
    | (with_reducible apply EffectR.ready)
    | (with_reducible apply EffectR.next)
    | (with_reducible assumption)
    | (with_reducible apply Effect.foldl <;> intros)
    | (with_reducible apply Effect.ite <;> intros)
    | (with_reducible apply EffectR.ite <;> intros)
    | (split)
    | (dsimp only))

theorem execSzGlbu_effect (a0 a1 s) : EffectR [.free, .regs, .harts, .rooms, .tags, .reqs, .sent, .attics, .errRings, .wingLogs, .errInFlight, .ceWindows] s (execSzGlbu a0 a1 s) := by
  unfold execSzGlbu
  repeat' (first
    | (with_reducible apply Effect.refl)
    | (with_reducible (apply EffectR.after; apply szLoad_effect); decide +kernel)
    | (with_reducible apply EffectR.ready)
    | (with_reducible apply EffectR.next)
    | (with_reducible assumption)
    | (with_reducible apply Effect.foldl <;> intros)
    | (with_reducible apply Effect.ite <;> intros)
    | (with_reducible apply EffectR.ite <;> intros)
    | (split)
    | (dsimp only))

theorem execSzGlhu_effect (a0 a1 s) : EffectR [.free, .regs, .harts, .rooms, .tags, .reqs, .sent, .attics, .errRings, .wingLogs, .errInFlight, .ceWindows] s (execSzGlhu a0 a1 s) := by
  unfold execSzGlhu
  repeat' (first
    | (with_reducible apply Effect.refl)
    | (with_reducible (apply EffectR.after; apply szLoad_effect); decide +kernel)
    | (with_reducible apply EffectR.ready)
    | (with_reducible apply EffectR.next)
    | (with_reducible assumption)
    | (with_reducible apply Effect.foldl <;> intros)
    | (with_reducible apply Effect.ite <;> intros)
    | (with_reducible apply EffectR.ite <;> intros)
    | (split)
    | (dsimp only))

theorem execSzGlwu_effect (a0 a1 s) : EffectR [.free, .regs, .harts, .rooms, .tags, .reqs, .sent, .attics, .errRings, .wingLogs, .errInFlight, .ceWindows] s (execSzGlwu a0 a1 s) := by
  unfold execSzGlwu
  repeat' (first
    | (with_reducible apply Effect.refl)
    | (with_reducible (apply EffectR.after; apply szLoad_effect); decide +kernel)
    | (with_reducible apply EffectR.ready)
    | (with_reducible apply EffectR.next)
    | (with_reducible assumption)
    | (with_reducible apply Effect.foldl <;> intros)
    | (with_reducible apply Effect.ite <;> intros)
    | (with_reducible apply EffectR.ite <;> intros)
    | (split)
    | (dsimp only))

theorem execSzGsb_effect (a0 a1 s) : EffectR [.free, .mem, .poison, .regs, .harts, .rooms, .tags, .reqs, .exitMsgs, .caches, .sent, .colls, .insts, .keptEnds, .arrays, .attics, .regqs, .avus, .trees, .dws, .dwOrder, .wings, .halls, .modules, .dies, .links, .fabric, .bootCount, .absentDevs, .mailboxes, .doors, .sqs, .cqs, .descs, .nextDesc, .completions, .jobs, .errRings, .wingLogs, .errInFlight, .deviceLog, .flashLog, .deviceSeq, .ceWindows, .power, .therm, .boot, .aon, .flash, .flashLogs, .plan, .planGen, .planTime, .live, .mailboxStudy, .remaps, .test, .pcies, .guards] s (execSzGsb a0 a1 s) := by
  unfold execSzGsb
  repeat' (first
    | (with_reducible apply Effect.refl)
    | (with_reducible (apply EffectR.after; apply szStore_effect); decide +kernel)
    | (with_reducible apply EffectR.ready)
    | (with_reducible apply EffectR.next)
    | (with_reducible assumption)
    | (with_reducible apply Effect.foldl <;> intros)
    | (with_reducible apply Effect.ite <;> intros)
    | (with_reducible apply EffectR.ite <;> intros)
    | (split)
    | (dsimp only))

theorem execSzGsh_effect (a0 a1 s) : EffectR [.free, .mem, .poison, .regs, .harts, .rooms, .tags, .reqs, .exitMsgs, .caches, .sent, .colls, .insts, .keptEnds, .arrays, .attics, .regqs, .avus, .trees, .dws, .dwOrder, .wings, .halls, .modules, .dies, .links, .fabric, .bootCount, .absentDevs, .mailboxes, .doors, .sqs, .cqs, .descs, .nextDesc, .completions, .jobs, .errRings, .wingLogs, .errInFlight, .deviceLog, .flashLog, .deviceSeq, .ceWindows, .power, .therm, .boot, .aon, .flash, .flashLogs, .plan, .planGen, .planTime, .live, .mailboxStudy, .remaps, .test, .pcies, .guards] s (execSzGsh a0 a1 s) := by
  unfold execSzGsh
  repeat' (first
    | (with_reducible apply Effect.refl)
    | (with_reducible (apply EffectR.after; apply szStore_effect); decide +kernel)
    | (with_reducible apply EffectR.ready)
    | (with_reducible apply EffectR.next)
    | (with_reducible assumption)
    | (with_reducible apply Effect.foldl <;> intros)
    | (with_reducible apply Effect.ite <;> intros)
    | (with_reducible apply EffectR.ite <;> intros)
    | (split)
    | (dsimp only))

theorem execSzGsw_effect (a0 a1 s) : EffectR [.free, .mem, .poison, .regs, .harts, .rooms, .tags, .reqs, .exitMsgs, .caches, .sent, .colls, .insts, .keptEnds, .arrays, .attics, .regqs, .avus, .trees, .dws, .dwOrder, .wings, .halls, .modules, .dies, .links, .fabric, .bootCount, .absentDevs, .mailboxes, .doors, .sqs, .cqs, .descs, .nextDesc, .completions, .jobs, .errRings, .wingLogs, .errInFlight, .deviceLog, .flashLog, .deviceSeq, .ceWindows, .power, .therm, .boot, .aon, .flash, .flashLogs, .plan, .planGen, .planTime, .live, .mailboxStudy, .remaps, .test, .pcies, .guards] s (execSzGsw a0 a1 s) := by
  unfold execSzGsw
  repeat' (first
    | (with_reducible apply Effect.refl)
    | (with_reducible (apply EffectR.after; apply szStore_effect); decide +kernel)
    | (with_reducible apply EffectR.ready)
    | (with_reducible apply EffectR.next)
    | (with_reducible assumption)
    | (with_reducible apply Effect.foldl <;> intros)
    | (with_reducible apply Effect.ite <;> intros)
    | (with_reducible apply EffectR.ite <;> intros)
    | (split)
    | (dsimp only))

theorem execSzGsd_effect (a0 a1 s) : EffectR [.free, .mem, .poison, .regs, .harts, .rooms, .tags, .reqs, .exitMsgs, .caches, .sent, .colls, .insts, .keptEnds, .arrays, .attics, .regqs, .avus, .trees, .dws, .dwOrder, .wings, .halls, .modules, .dies, .links, .fabric, .bootCount, .absentDevs, .mailboxes, .doors, .sqs, .cqs, .descs, .nextDesc, .completions, .jobs, .errRings, .wingLogs, .errInFlight, .deviceLog, .flashLog, .deviceSeq, .ceWindows, .power, .therm, .boot, .aon, .flash, .flashLogs, .plan, .planGen, .planTime, .live, .mailboxStudy, .remaps, .test, .pcies, .guards] s (execSzGsd a0 a1 s) := by
  unfold execSzGsd
  repeat' (first
    | (with_reducible apply Effect.refl)
    | (with_reducible (apply EffectR.after; apply szStore_effect); decide +kernel)
    | (with_reducible apply EffectR.ready)
    | (with_reducible apply EffectR.next)
    | (with_reducible assumption)
    | (with_reducible apply Effect.foldl <;> intros)
    | (with_reducible apply Effect.ite <;> intros)
    | (with_reducible apply EffectR.ite <;> intros)
    | (split)
    | (dsimp only))

theorem execSzGsq_effect (a0 a1 s) : EffectR [.free, .mem, .poison, .regs, .harts, .rooms, .tags, .reqs, .exitMsgs, .caches, .sent, .colls, .insts, .keptEnds, .arrays, .attics, .regqs, .avus, .trees, .dws, .dwOrder, .wings, .halls, .modules, .dies, .links, .fabric, .bootCount, .absentDevs, .mailboxes, .doors, .sqs, .cqs, .descs, .nextDesc, .completions, .jobs, .errRings, .wingLogs, .errInFlight, .deviceLog, .flashLog, .deviceSeq, .ceWindows, .power, .therm, .boot, .aon, .flash, .flashLogs, .plan, .planGen, .planTime, .live, .mailboxStudy, .remaps, .test, .pcies, .guards] s (execSzGsq a0 a1 s) := by
  unfold execSzGsq
  repeat' (first
    | (with_reducible apply Effect.refl)
    | (with_reducible (apply EffectR.after; apply szStore_effect); decide +kernel)
    | (with_reducible apply EffectR.ready)
    | (with_reducible apply EffectR.next)
    | (with_reducible assumption)
    | (with_reducible apply Effect.foldl <;> intros)
    | (with_reducible apply Effect.ite <;> intros)
    | (with_reducible apply EffectR.ite <;> intros)
    | (split)
    | (dsimp only))

theorem szAtomic_effect (a0 a1 a2 a3 a4 s) : EffectR [.free, .mem, .poison, .regs, .harts, .rooms, .tags, .reqs, .sent, .attics, .dws, .errRings, .wingLogs, .errInFlight, .ceWindows, .guards] s (szAtomic a0 a1 a2 a3 a4 s) := by
  unfold szAtomic szRun whenReleased
  repeat' (first
    | (with_reducible apply Effect.refl)
    | (with_reducible (apply Effect.next; apply State.endWfi_effect); decide +kernel)
    | (with_reducible (apply Effect.next; apply State.issued_effect); decide +kernel)
    | (with_reducible (apply Effect.next; apply State.trap_effect); decide +kernel)
    | (with_reducible (apply Effect.next; apply State.modHart_effect); decide +kernel)
    | (with_reducible (apply Effect.next; apply State.hartAtomic_effect); decide +kernel)
    | (with_reducible apply EffectR.ready)
    | (with_reducible apply EffectR.next)
    | (with_reducible assumption)
    | (with_reducible apply Effect.foldl <;> intros)
    | (with_reducible apply Effect.ite <;> intros)
    | (with_reducible apply EffectR.ite <;> intros)
    | (split)
    | (dsimp only [id]))

theorem execSzXaadd_effect (a0 a1 s) : EffectR [.free, .mem, .poison, .regs, .harts, .rooms, .tags, .reqs, .sent, .attics, .dws, .errRings, .wingLogs, .errInFlight, .ceWindows, .guards] s (execSzXaadd a0 a1 s) := by
  unfold execSzXaadd szRun whenReleased
  repeat' (first
    | (with_reducible apply Effect.refl)
    | (with_reducible (apply EffectR.after; apply szAtomic_effect); decide +kernel)
    | (with_reducible (apply Effect.next; apply State.endWfi_effect); decide +kernel)
    | (with_reducible (apply Effect.next; apply State.issued_effect); decide +kernel)
    | (with_reducible (apply Effect.next; apply State.trap_effect); decide +kernel)
    | (with_reducible (apply Effect.next; apply State.modHart_effect); decide +kernel)
    | (with_reducible (apply Effect.next; apply State.hartPost_effect); decide +kernel)
    | (with_reducible apply EffectR.ready)
    | (with_reducible apply EffectR.next)
    | (with_reducible assumption)
    | (with_reducible apply Effect.foldl <;> intros)
    | (with_reducible apply Effect.ite <;> intros)
    | (with_reducible apply EffectR.ite <;> intros)
    | (split)
    | (dsimp only [id]))

theorem execSzAmofaddW_effect (a0 a1 s) : EffectR [.free, .mem, .poison, .regs, .harts, .rooms, .tags, .reqs, .sent, .attics, .dws, .errRings, .wingLogs, .errInFlight, .ceWindows, .guards] s (execSzAmofaddW a0 a1 s) := by
  unfold execSzAmofaddW
  repeat' (first
    | (with_reducible apply Effect.refl)
    | (with_reducible (apply EffectR.after; apply szAtomic_effect); decide +kernel)
    | (with_reducible apply EffectR.ready)
    | (with_reducible apply EffectR.next)
    | (with_reducible assumption)
    | (with_reducible apply Effect.foldl <;> intros)
    | (with_reducible apply Effect.ite <;> intros)
    | (with_reducible apply EffectR.ite <;> intros)
    | (split)
    | (dsimp only))

theorem execSzAmofmaxW_effect (a0 a1 s) : EffectR [.free, .mem, .poison, .regs, .harts, .rooms, .tags, .reqs, .sent, .attics, .dws, .errRings, .wingLogs, .errInFlight, .ceWindows, .guards] s (execSzAmofmaxW a0 a1 s) := by
  unfold execSzAmofmaxW
  repeat' (first
    | (with_reducible apply Effect.refl)
    | (with_reducible (apply EffectR.after; apply szAtomic_effect); decide +kernel)
    | (with_reducible apply EffectR.ready)
    | (with_reducible apply EffectR.next)
    | (with_reducible assumption)
    | (with_reducible apply Effect.foldl <;> intros)
    | (with_reducible apply Effect.ite <;> intros)
    | (with_reducible apply EffectR.ite <;> intros)
    | (split)
    | (dsimp only))

theorem execSzAmofminW_effect (a0 a1 s) : EffectR [.free, .mem, .poison, .regs, .harts, .rooms, .tags, .reqs, .sent, .attics, .dws, .errRings, .wingLogs, .errInFlight, .ceWindows, .guards] s (execSzAmofminW a0 a1 s) := by
  unfold execSzAmofminW
  repeat' (first
    | (with_reducible apply Effect.refl)
    | (with_reducible (apply EffectR.after; apply szAtomic_effect); decide +kernel)
    | (with_reducible apply EffectR.ready)
    | (with_reducible apply EffectR.next)
    | (with_reducible assumption)
    | (with_reducible apply Effect.foldl <;> intros)
    | (with_reducible apply Effect.ite <;> intros)
    | (with_reducible apply EffectR.ite <;> intros)
    | (split)
    | (dsimp only))

theorem execSzAmocasW_effect (a0 a1 s) : EffectR [.free, .mem, .poison, .regs, .harts, .rooms, .tags, .reqs, .sent, .attics, .dws, .errRings, .wingLogs, .errInFlight, .ceWindows, .guards] s (execSzAmocasW a0 a1 s) := by
  unfold execSzAmocasW
  repeat' (first
    | (with_reducible apply Effect.refl)
    | (with_reducible (apply EffectR.after; apply szAtomic_effect); decide +kernel)
    | (with_reducible apply EffectR.ready)
    | (with_reducible apply EffectR.next)
    | (with_reducible assumption)
    | (with_reducible apply Effect.foldl <;> intros)
    | (with_reducible apply Effect.ite <;> intros)
    | (with_reducible apply EffectR.ite <;> intros)
    | (split)
    | (dsimp only))

theorem execSzAmocasD_effect (a0 a1 s) : EffectR [.free, .mem, .poison, .regs, .harts, .rooms, .tags, .reqs, .sent, .attics, .dws, .errRings, .wingLogs, .errInFlight, .ceWindows, .guards] s (execSzAmocasD a0 a1 s) := by
  unfold execSzAmocasD
  repeat' (first
    | (with_reducible apply Effect.refl)
    | (with_reducible (apply EffectR.after; apply szAtomic_effect); decide +kernel)
    | (with_reducible apply EffectR.ready)
    | (with_reducible apply EffectR.next)
    | (with_reducible assumption)
    | (with_reducible apply Effect.foldl <;> intros)
    | (with_reducible apply Effect.ite <;> intros)
    | (with_reducible apply EffectR.ite <;> intros)
    | (split)
    | (dsimp only))

theorem execSzAmocasQ_effect (a0 a1 s) : EffectR [.free, .mem, .poison, .regs, .harts, .rooms, .tags, .reqs, .sent, .attics, .dws, .errRings, .wingLogs, .errInFlight, .ceWindows, .guards] s (execSzAmocasQ a0 a1 s) := by
  unfold execSzAmocasQ
  repeat' (first
    | (with_reducible apply Effect.refl)
    | (with_reducible (apply EffectR.after; apply szAtomic_effect); decide +kernel)
    | (with_reducible apply EffectR.ready)
    | (with_reducible apply EffectR.next)
    | (with_reducible assumption)
    | (with_reducible apply Effect.foldl <;> intros)
    | (with_reducible apply Effect.ite <;> intros)
    | (with_reducible apply EffectR.ite <;> intros)
    | (split)
    | (dsimp only))

theorem execSzLacq_effect (a0 a1 s) : EffectR [.free, .mem, .poison, .regs, .harts, .rooms, .tags, .reqs, .sent, .attics, .dws, .errRings, .wingLogs, .errInFlight, .ceWindows, .guards] s (execSzLacq a0 a1 s) := by
  unfold execSzLacq
  repeat' (first
    | (with_reducible apply Effect.refl)
    | (with_reducible (apply EffectR.after; apply szAtomic_effect); decide +kernel)
    | (with_reducible apply EffectR.ready)
    | (with_reducible apply EffectR.next)
    | (with_reducible assumption)
    | (with_reducible apply Effect.foldl <;> intros)
    | (with_reducible apply Effect.ite <;> intros)
    | (with_reducible apply EffectR.ite <;> intros)
    | (split)
    | (dsimp only))

theorem execSzLrel_effect (a0 a1 s) : EffectR [.free, .mem, .poison, .regs, .harts, .rooms, .tags, .reqs, .sent, .attics, .dws, .errRings, .wingLogs, .errInFlight, .ceWindows, .guards] s (execSzLrel a0 a1 s) := by
  unfold execSzLrel szRun whenReleased
  repeat' (first
    | (with_reducible apply Effect.refl)
    | (with_reducible (apply Effect.next; apply State.endWfi_effect); decide +kernel)
    | (with_reducible (apply Effect.next; apply State.issued_effect); decide +kernel)
    | (with_reducible (apply Effect.next; apply State.trap_effect); decide +kernel)
    | (with_reducible (apply Effect.next; apply State.modHart_effect); decide +kernel)
    | (with_reducible (apply Effect.next; apply State.hartAtomic_effect); decide +kernel)
    | (with_reducible apply EffectR.ready)
    | (with_reducible apply EffectR.next)
    | (with_reducible assumption)
    | (with_reducible apply Effect.foldl <;> intros)
    | (with_reducible apply Effect.ite <;> intros)
    | (with_reducible apply EffectR.ite <;> intros)
    | (split)
    | (dsimp only [id]))

theorem execSzVfence_effect (a0 a1 s) : EffectR [.regs, .harts, .rooms, .attics, .errRings, .wingLogs, .errInFlight, .ceWindows] s (execSzVfence a0 a1 s) := by
  unfold execSzVfence szRun
  repeat' (first
    | (with_reducible apply Effect.refl)
    | (with_reducible (apply Effect.next; apply State.endWfi_effect); decide +kernel)
    | (with_reducible (apply Effect.next; apply State.issued_effect); decide +kernel)
    | (with_reducible (apply Effect.next; apply State.trap_effect); decide +kernel)
    | (with_reducible (apply Effect.next; apply State.modHart_effect); decide +kernel)
    | (with_reducible (apply Effect.next; apply State.xlateTrap_effect); decide +kernel)
    | (with_reducible apply EffectR.ready)
    | (with_reducible apply EffectR.next)
    | (with_reducible assumption)
    | (with_reducible apply Effect.foldl <;> intros)
    | (with_reducible apply Effect.ite <;> intros)
    | (with_reducible apply EffectR.ite <;> intros)
    | (split)
    | (dsimp only [id]))

theorem State.dropViewLines_effect (s a1 a2 a3 a4) : Effect [.rooms] s (State.dropViewLines s a1 a2 a3 a4) := by
  unfold State.dropViewLines
  repeat' (first
    | (with_reducible apply Effect.refl)
    | (with_reducible (apply Effect.next; apply State.modRoom_effect); decide +kernel)
    | (with_reducible (apply Effect.next; apply State.dropLines_effect); decide +kernel)
    | (with_reducible assumption)
    | (with_reducible apply Effect.foldl <;> intros)
    | (with_reducible apply Effect.ite <;> intros)
    | (split)
    | (dsimp only))

theorem execViewFenceComplete_effect (a0 s) : EffectR [.harts, .rooms, .attics] s (execViewFenceComplete a0 s) := by
  unfold execViewFenceComplete
  repeat' (first
    | (with_reducible apply Effect.refl)
    | (with_reducible (apply Effect.next; apply State.modHart_effect); decide +kernel)
    | (with_reducible (apply Effect.next; apply State.forgetViews_effect); decide +kernel)
    | (with_reducible (apply Effect.next; apply State.dropViewLines_effect); decide +kernel)
    | (with_reducible apply EffectR.ready)
    | (with_reducible apply EffectR.next)
    | (with_reducible assumption)
    | (with_reducible apply Effect.foldl <;> intros)
    | (with_reducible apply Effect.ite <;> intros)
    | (with_reducible apply EffectR.ite <;> intros)
    | (split)
    | (dsimp only))

theorem execSzDwq_effect (a0 a1 s) : EffectR [.regs, .harts, .rooms, .attics, .dws, .errRings, .wingLogs, .errInFlight, .ceWindows, .guards] s (execSzDwq a0 a1 s) := by
  unfold execSzDwq szRun
  repeat' (first
    | (with_reducible apply Effect.refl)
    | (with_reducible (apply Effect.next; apply State.endWfi_effect); decide +kernel)
    | (with_reducible (apply Effect.next; apply State.issued_effect); decide +kernel)
    | (with_reducible (apply Effect.next; apply State.trap_effect); decide +kernel)
    | (with_reducible (apply Effect.next; apply State.szOperand_effect); decide +kernel)
    | (with_reducible (apply Effect.next; apply State.xlateTrap_effect); decide +kernel)
    | (with_reducible (apply Effect.next; apply State.modHart_effect); decide +kernel)
    | (with_reducible (apply Effect.next; apply State.modDw_effect); decide +kernel)
    | (with_reducible (apply Effect.next; apply State.setGuard_effect); decide +kernel)
    | (with_reducible (apply Effect.next; apply State.result_effect); decide +kernel)
    | (with_reducible (apply Effect.next; apply State.fillTlb_effect); decide +kernel)
    | (with_reducible apply EffectR.ready)
    | (with_reducible apply EffectR.next)
    | (with_reducible assumption)
    | (with_reducible apply Effect.foldl <;> intros)
    | (with_reducible apply Effect.ite <;> intros)
    | (with_reducible apply EffectR.ite <;> intros)
    | (split)
    | (dsimp only [id]))

theorem szSignal_effect (a0 a1 a2 s) : EffectR [.free, .mem, .poison, .regs, .harts, .rooms, .tags, .reqs, .sent, .attics, .dws, .errRings, .wingLogs, .errInFlight, .ceWindows, .guards] s (szSignal a0 a1 a2 s) := by
  unfold szSignal szRun whenReleased
  repeat' (first
    | (with_reducible apply Effect.refl)
    | (with_reducible (apply Effect.next; apply State.endWfi_effect); decide +kernel)
    | (with_reducible (apply Effect.next; apply State.issued_effect); decide +kernel)
    | (with_reducible (apply Effect.next; apply State.trap_effect); decide +kernel)
    | (with_reducible (apply Effect.next; apply State.xlateTrap_effect); decide +kernel)
    | (with_reducible (apply Effect.next; apply State.modHart_effect); decide +kernel)
    | (with_reducible (apply Effect.next; apply State.signalAt_effect); decide +kernel)
    | (with_reducible (apply Effect.next; apply State.fillTlb_effect); decide +kernel)
    | (with_reducible apply EffectR.ready)
    | (with_reducible apply EffectR.next)
    | (with_reducible assumption)
    | (with_reducible apply Effect.foldl <;> intros)
    | (with_reducible apply Effect.ite <;> intros)
    | (with_reducible apply EffectR.ite <;> intros)
    | (split)
    | (dsimp only [id]))

theorem execSzSignalSet_effect (a0 a1 s) : EffectR [.free, .mem, .poison, .regs, .harts, .rooms, .tags, .reqs, .sent, .attics, .dws, .errRings, .wingLogs, .errInFlight, .ceWindows, .guards] s (execSzSignalSet a0 a1 s) := by
  unfold execSzSignalSet
  repeat' (first
    | (with_reducible apply Effect.refl)
    | (with_reducible (apply EffectR.after; apply szSignal_effect); decide +kernel)
    | (with_reducible apply EffectR.ready)
    | (with_reducible apply EffectR.next)
    | (with_reducible assumption)
    | (with_reducible apply Effect.foldl <;> intros)
    | (with_reducible apply Effect.ite <;> intros)
    | (with_reducible apply EffectR.ite <;> intros)
    | (split)
    | (dsimp only))

theorem execSzSignalClr_effect (a0 a1 s) : EffectR [.free, .mem, .poison, .regs, .harts, .rooms, .tags, .reqs, .sent, .attics, .dws, .errRings, .wingLogs, .errInFlight, .ceWindows, .guards] s (execSzSignalClr a0 a1 s) := by
  unfold execSzSignalClr
  repeat' (first
    | (with_reducible apply Effect.refl)
    | (with_reducible (apply EffectR.after; apply szSignal_effect); decide +kernel)
    | (with_reducible apply EffectR.ready)
    | (with_reducible apply EffectR.next)
    | (with_reducible assumption)
    | (with_reducible apply Effect.foldl <;> intros)
    | (with_reducible apply Effect.ite <;> intros)
    | (with_reducible apply EffectR.ite <;> intros)
    | (split)
    | (dsimp only))

theorem execSzSignalAdd_effect (a0 a1 s) : EffectR [.free, .mem, .poison, .regs, .harts, .rooms, .tags, .reqs, .sent, .attics, .dws, .errRings, .wingLogs, .errInFlight, .ceWindows, .guards] s (execSzSignalAdd a0 a1 s) := by
  unfold execSzSignalAdd
  repeat' (first
    | (with_reducible apply Effect.refl)
    | (with_reducible (apply EffectR.after; apply szSignal_effect); decide +kernel)
    | (with_reducible apply EffectR.ready)
    | (with_reducible apply EffectR.next)
    | (with_reducible assumption)
    | (with_reducible apply Effect.foldl <;> intros)
    | (with_reducible apply Effect.ite <;> intros)
    | (with_reducible apply EffectR.ite <;> intros)
    | (split)
    | (dsimp only))

theorem execSzWait_effect (a0 a1 s) : EffectR [.regs, .harts, .rooms, .attics, .errRings, .wingLogs, .errInFlight, .ceWindows] s (execSzWait a0 a1 s) := by
  unfold execSzWait szRun
  repeat' (first
    | (with_reducible apply Effect.refl)
    | (with_reducible (apply Effect.next; apply State.endWfi_effect); decide +kernel)
    | (with_reducible (apply Effect.next; apply State.issued_effect); decide +kernel)
    | (with_reducible (apply Effect.next; apply State.trap_effect); decide +kernel)
    | (with_reducible (apply Effect.next; apply State.xlateTrap_effect); decide +kernel)
    | (with_reducible (apply Effect.next; apply State.fillTlb_effect); decide +kernel)
    | (with_reducible (apply Effect.next; apply State.remoteTrap_effect); decide +kernel)
    | (with_reducible (apply Effect.next; apply State.modHart_effect); decide +kernel)
    | (with_reducible apply EffectR.ready)
    | (with_reducible apply EffectR.next)
    | (with_reducible assumption)
    | (with_reducible apply Effect.foldl <;> intros)
    | (with_reducible apply Effect.ite <;> intros)
    | (with_reducible apply EffectR.ite <;> intros)
    | (split)
    | (dsimp only [id]))

theorem execSzWaitMet_effect (a0 s) : EffectR [.harts] s (execSzWaitMet a0 s) := by
  unfold execSzWaitMet
  repeat' (first
    | (with_reducible apply Effect.refl)
    | (with_reducible (apply Effect.next; apply State.modHart_effect); decide +kernel)
    | (with_reducible (apply Effect.next; apply State.remoteTrap_effect); decide +kernel)
    | (with_reducible apply EffectR.ready)
    | (with_reducible apply EffectR.next)
    | (with_reducible assumption)
    | (with_reducible apply Effect.foldl <;> intros)
    | (with_reducible apply Effect.ite <;> intros)
    | (with_reducible apply EffectR.ite <;> intros)
    | (split)
    | (dsimp only))

theorem execSzWaitTimeout_effect (a0 s) : EffectR [.now, .harts] s (execSzWaitTimeout a0 s) := by
  unfold execSzWaitTimeout
  repeat' (first
    | (with_reducible apply Effect.refl)
    | (with_reducible (apply Effect.next; apply State.modHart_effect); decide +kernel)
    | (with_reducible (apply Effect.next; apply State.reach_effect); decide +kernel)
    | (with_reducible apply EffectR.ready)
    | (with_reducible apply EffectR.next)
    | (with_reducible assumption)
    | (with_reducible apply Effect.foldl <;> intros)
    | (with_reducible apply Effect.ite <;> intros)
    | (with_reducible apply EffectR.ite <;> intros)
    | (split)
    | (dsimp only))

theorem execSzRbar_effect (a0 a1 s) : EffectR [.harts, .rooms] s (execSzRbar a0 a1 s) := by
  unfold execSzRbar szRun whenReleased
  repeat' (first
    | (with_reducible apply Effect.refl)
    | (with_reducible (apply Effect.next; apply State.endWfi_effect); decide +kernel)
    | (with_reducible (apply Effect.next; apply State.issued_effect); decide +kernel)
    | (with_reducible (apply Effect.next; apply State.trap_effect); decide +kernel)
    | (with_reducible (apply Effect.next; apply State.szOperand_effect); decide +kernel)
    | (with_reducible (apply Effect.next; apply State.modHart_effect); decide +kernel)
    | (with_reducible (apply Effect.next; apply State.modRoom_effect); decide +kernel)
    | (with_reducible (apply Effect.next; apply State.releaseHarts_effect); decide +kernel)
    | (with_reducible apply EffectR.ready)
    | (with_reducible apply EffectR.next)
    | (with_reducible assumption)
    | (with_reducible apply Effect.foldl <;> intros)
    | (with_reducible apply Effect.ite <;> intros)
    | (with_reducible apply EffectR.ite <;> intros)
    | (split)
    | (dsimp only [id]))

theorem execSzRbarTimeout_effect (a0 s) : EffectR [.now, .harts, .rooms] s (execSzRbarTimeout a0 s) := by
  unfold execSzRbarTimeout
  repeat' (first
    | (with_reducible apply Effect.refl)
    | (with_reducible (apply Effect.next; apply State.modHart_effect); decide +kernel)
    | (with_reducible (apply Effect.next; apply State.withdraw_effect); decide +kernel)
    | (with_reducible (apply Effect.next; apply State.reach_effect); decide +kernel)
    | (with_reducible apply EffectR.ready)
    | (with_reducible apply EffectR.next)
    | (with_reducible assumption)
    | (with_reducible apply Effect.foldl <;> intros)
    | (with_reducible apply Effect.ite <;> intros)
    | (with_reducible apply EffectR.ite <;> intros)
    | (split)
    | (dsimp only))

theorem State.sendSpawn_effect (s a1 a2 a3 a4) : Effect [.harts, .tags, .reqs, .sent] s (State.sendSpawn s a1 a2 a3 a4) := by
  unfold State.sendSpawn
  repeat' (first
    | (with_reducible apply Effect.refl)
    | (with_reducible (apply Effect.next; apply State.result_effect); decide +kernel)
    | (with_reducible (apply Effect.next; apply State.modHart_effect); decide +kernel)
    | (with_reducible (apply Effect.next; apply State.issue_effect); decide +kernel)
    | (with_reducible assumption)
    | (with_reducible apply Effect.foldl <;> intros)
    | (with_reducible apply Effect.ite <;> intros)
    | (split)
    | (dsimp only))

theorem execSzSpawn_effect (a0 a1 s) : EffectR [.free, .regs, .harts, .rooms, .tags, .reqs, .sent, .attics, .errRings, .wingLogs, .errInFlight, .ceWindows] s (execSzSpawn a0 a1 s) := by
  unfold execSzSpawn szRun whenReleased
  repeat' (first
    | (with_reducible apply Effect.refl)
    | (with_reducible (apply Effect.next; apply State.endWfi_effect); decide +kernel)
    | (with_reducible (apply Effect.next; apply State.issued_effect); decide +kernel)
    | (with_reducible (apply Effect.next; apply State.trap_effect); decide +kernel)
    | (with_reducible (apply Effect.next; apply State.szOperand_effect); decide +kernel)
    | (with_reducible (apply Effect.next; apply State.xlateTrap_effect); decide +kernel)
    | (with_reducible (apply Effect.next; apply State.modHart_effect); decide +kernel)
    | (with_reducible (apply Effect.next; apply State.result_effect); decide +kernel)
    | (with_reducible (apply Effect.next; apply State.sendSpawn_effect); decide +kernel)
    | (with_reducible (apply Effect.next; apply State.bump_effect); decide +kernel)
    | (with_reducible apply EffectR.ready)
    | (with_reducible apply EffectR.next)
    | (with_reducible assumption)
    | (with_reducible apply Effect.foldl <;> intros)
    | (with_reducible apply Effect.ite <;> intros)
    | (with_reducible apply EffectR.ite <;> intros)
    | (split)
    | (dsimp only [id]))

theorem execSzJoin_effect (a0 a1 s) : EffectR [.harts, .rooms] s (execSzJoin a0 a1 s) := by
  unfold execSzJoin szRun
  repeat' (first
    | (with_reducible apply Effect.refl)
    | (with_reducible (apply Effect.next; apply State.endWfi_effect); decide +kernel)
    | (with_reducible (apply Effect.next; apply State.issued_effect); decide +kernel)
    | (with_reducible (apply Effect.next; apply State.trap_effect); decide +kernel)
    | (with_reducible (apply Effect.next; apply State.szOperand_effect); decide +kernel)
    | (with_reducible (apply Effect.next; apply State.joined_effect); decide +kernel)
    | (with_reducible (apply Effect.next; apply State.modHart_effect); decide +kernel)
    | (with_reducible apply EffectR.ready)
    | (with_reducible apply EffectR.next)
    | (with_reducible assumption)
    | (with_reducible apply Effect.foldl <;> intros)
    | (with_reducible apply Effect.ite <;> intros)
    | (with_reducible apply EffectR.ite <;> intros)
    | (split)
    | (dsimp only [id]))

theorem execSzExit_effect (a0 a1 s) : EffectR [.harts, .rooms, .exitMsgs, .sent, .arrays, .jobs] s (execSzExit a0 a1 s) := by
  unfold execSzExit szRun whenReleased
  repeat' (first
    | (with_reducible apply Effect.refl)
    | (with_reducible (apply Effect.next; apply State.endWfi_effect); decide +kernel)
    | (with_reducible (apply Effect.next; apply State.issued_effect); decide +kernel)
    | (with_reducible (apply Effect.next; apply State.trap_effect); decide +kernel)
    | (with_reducible (apply Effect.next; apply State.modHart_effect); decide +kernel)
    | (with_reducible (apply Effect.next; apply State.exitThread_effect); decide +kernel)
    | (with_reducible apply EffectR.ready)
    | (with_reducible apply EffectR.next)
    | (with_reducible assumption)
    | (with_reducible apply Effect.foldl <;> intros)
    | (with_reducible apply Effect.ite <;> intros)
    | (with_reducible apply EffectR.ite <;> intros)
    | (split)
    | (dsimp only [id]))

end Sys2Proof.Machine
end

