-- ==== Sys2Proof/Laws/EffectService.lean ====
section
/-! SUPPORT. What the operations and the meanings of Machine/Service.lean can change: one lemma each. -/
-- The kernel decides the inclusions of each lemma before the next lemma starts.
set_option Elab.async false
set_option linter.all false
namespace Sys2Proof.Machine

theorem State.retirePage_effect (s a1) : Effect [.regs, .attics, .errRings, .wingLogs, .errInFlight, .ceWindows, .flashLogs] s (State.retirePage s a1) := by
  unfold State.retirePage
  repeat' (first
    | ((conv => arg 3; arg 64); refine Effect.upd ?_ (by intro p hp; cases p <;> first | exact Bool.noConfusion hp | rfl))
    | (with_reducible apply Effect.refl)
    | (with_reducible (apply Effect.next; apply State.post_effect); decide +kernel)
    | (with_reducible assumption)
    | (with_reducible apply Effect.foldl <;> intros)
    | (with_reducible apply Effect.ite <;> intros)
    | (split)
    | (dsimp only))

theorem execPageRetire_effect (a0 s) : EffectR [.regs, .attics, .sqs, .descs, .completions, .errRings, .wingLogs, .errInFlight, .ceWindows, .flashLogs, .live, .mailboxStudy] s (execPageRetire a0 s) := by
  unfold execPageRetire mgmtRun
  repeat' (first
    | (with_reducible apply Effect.refl)
    | (with_reducible (apply Effect.next; apply State.mgmtAnswer_effect); decide +kernel)
    | (with_reducible (apply Effect.next; apply State.retirePage_effect); decide +kernel)
    | (with_reducible apply EffectR.ready)
    | (with_reducible apply EffectR.next)
    | (with_reducible assumption)
    | (with_reducible apply Effect.foldl <;> intros)
    | (with_reducible apply Effect.ite <;> intros)
    | (with_reducible apply EffectR.ite <;> intros)
    | (split)
    | (dsimp only [id]))

theorem State.retireBank_effect (s a1 a2) : Effect [.regs, .rooms, .sent, .attics, .doors, .errRings, .wingLogs, .errInFlight, .ceWindows, .flashLogs, .plan, .planGen, .planTime] s (State.retireBank s a1 a2) := by
  unfold State.retireBank
  repeat' (first
    | ((conv => arg 3; arg 64); refine Effect.upd ?_ (by intro p hp; cases p <;> first | exact Bool.noConfusion hp | rfl))
    | (with_reducible apply Effect.refl)
    | (with_reducible (apply Effect.next; apply State.modRoom_effect); decide +kernel)
    | (with_reducible (apply Effect.next; apply State.updatePlan_effect); decide +kernel)
    | (with_reducible (apply Effect.next; apply State.post_effect); decide +kernel)
    | (with_reducible assumption)
    | (with_reducible apply Effect.foldl <;> intros)
    | (with_reducible apply Effect.ite <;> intros)
    | (split)
    | (dsimp only))

theorem execBankRetire_effect (a0 s) : EffectR [.regs, .rooms, .sent, .attics, .doors, .sqs, .descs, .completions, .errRings, .wingLogs, .errInFlight, .ceWindows, .flashLogs, .plan, .planGen, .planTime, .live, .mailboxStudy] s (execBankRetire a0 s) := by
  unfold execBankRetire mgmtRun
  repeat' (first
    | (with_reducible apply Effect.refl)
    | (with_reducible (apply Effect.next; apply State.mgmtAnswer_effect); decide +kernel)
    | (with_reducible (apply Effect.next; apply State.retireBank_effect); decide +kernel)
    | (with_reducible apply EffectR.ready)
    | (with_reducible apply EffectR.next)
    | (with_reducible assumption)
    | (with_reducible apply Effect.foldl <;> intros)
    | (with_reducible apply Effect.ite <;> intros)
    | (with_reducible apply EffectR.ite <;> intros)
    | (split)
    | (dsimp only [id]))

theorem State.setScrubs_effect (s a1) : Effect [.live] s (State.setScrubs s a1) := by
  unfold State.setScrubs
  repeat' (first
    | (with_reducible apply Effect.refl)
    | (with_reducible (apply Effect.next; apply State.modLive_effect); decide +kernel)
    | (with_reducible assumption)
    | (with_reducible apply Effect.foldl <;> intros)
    | (with_reducible apply Effect.ite <;> intros)
    | (split)
    | (dsimp only))

theorem execMgmtScrub_effect (a0 s) : EffectR [.sqs, .descs, .completions, .live, .mailboxStudy] s (execMgmtScrub a0 s) := by
  unfold execMgmtScrub mgmtRun
  repeat' (first
    | (with_reducible apply Effect.refl)
    | (with_reducible (apply Effect.next; apply State.mgmtAnswer_effect); decide +kernel)
    | (with_reducible (apply Effect.next; apply State.setScrubs_effect); decide +kernel)
    | (with_reducible (apply Effect.next; apply State.beginCmd_effect); decide +kernel)
    | (with_reducible apply EffectR.ready)
    | (with_reducible apply EffectR.next)
    | (with_reducible assumption)
    | (with_reducible apply Effect.foldl <;> intros)
    | (with_reducible apply Effect.ite <;> intros)
    | (with_reducible apply EffectR.ite <;> intros)
    | (split)
    | (dsimp only [id]))

theorem State.endScrub_effect (s a1 a2 a3) : Effect [.free, .mem, .poison, .regs, .harts, .rooms, .sent, .attics, .dws, .doors, .errRings, .wingLogs, .errInFlight, .ceWindows, .live, .mailboxStudy] s (State.endScrub s a1 a2 a3) := by
  unfold State.endScrub
  repeat' (first
    | (with_reducible apply Effect.refl)
    | (with_reducible (apply Effect.next; apply State.mgmtEnd_effect); decide +kernel)
    | (with_reducible (apply Effect.next; apply State.bufWrite_effect); decide +kernel)
    | (with_reducible (apply Effect.next; apply State.setScrubs_effect); decide +kernel)
    | (with_reducible assumption)
    | (with_reducible apply Effect.foldl <;> intros)
    | (with_reducible apply Effect.ite <;> intros)
    | (split)
    | (dsimp only))

theorem State.scrubWord_effect (s a1 a2 a3) : Effect [.poison, .regs, .attics, .errRings, .wingLogs, .errInFlight, .ceWindows] s (State.scrubWord s a1 a2 a3).1 := by
  unfold State.scrubWord
  repeat' (first
    | (with_reducible apply Effect.refl)
    | (with_reducible (apply Effect.next; apply State.setPoison_effect); decide +kernel)
    | (with_reducible (apply Effect.next; apply State.post_effect); decide +kernel)
    | (with_reducible (apply Effect.next; apply State.atticError_effect); decide +kernel)
    | (with_reducible (apply Effect.next; apply State.atticCe_effect); decide +kernel)
    | (with_reducible assumption)
    | (with_reducible apply Effect.foldl <;> intros)
    | (with_reducible apply Effect.foldlFst <;> intros)
    | (with_reducible apply Effect.ite <;> intros)
    | (with_reducible apply Effect.iteFst <;> intros)
    | (split)
    | (dsimp only))

theorem State.scrubGranule_effect (s a1 a2) : Effect [.free, .poison, .regs, .attics, .regqs, .errRings, .wingLogs, .errInFlight, .ceWindows] s (State.scrubGranule s a1 a2).1 := by
  unfold State.scrubGranule
  repeat' (first
    | (with_reducible apply Effect.refl)
    | (with_reducible (apply Effect.next; apply State.scrubWord_effect); decide +kernel)
    | (with_reducible (apply Effect.next; apply Effect.fst; case e => assumption; apply State.scrubWord_effect); decide +kernel)
    | (with_reducible (apply Effect.next; apply State.bump_effect); decide +kernel)
    | (with_reducible (apply Effect.next; apply State.modRegq_effect); decide +kernel)
    | (with_reducible assumption)
    | (with_reducible apply Effect.foldl <;> intros)
    | (with_reducible apply Effect.foldlFst <;> intros)
    | (with_reducible apply Effect.ite <;> intros)
    | (with_reducible apply Effect.iteFst <;> intros)
    | (split)
    | (dsimp only))

theorem State.scrubStep_effect (s a1 a2 a3) : Effect [.free, .mem, .poison, .regs, .harts, .rooms, .sent, .attics, .regqs, .dws, .doors, .errRings, .wingLogs, .errInFlight, .ceWindows, .live, .mailboxStudy] s (State.scrubStep s a1 a2 a3) := by
  unfold State.scrubStep
  repeat' (first
    | (with_reducible apply Effect.refl)
    | (with_reducible (apply Effect.next; apply State.endScrub_effect); decide +kernel)
    | (with_reducible (apply Effect.next; apply State.scrubGranule_effect); decide +kernel)
    | (with_reducible (apply Effect.next; apply Effect.fst; case e => assumption; apply State.scrubGranule_effect); decide +kernel)
    | (with_reducible (apply Effect.next; apply State.setScrubs_effect); decide +kernel)
    | (with_reducible assumption)
    | (with_reducible apply Effect.foldl <;> intros)
    | (with_reducible apply Effect.foldlFst <;> intros)
    | (with_reducible apply Effect.ite <;> intros)
    | (with_reducible apply Effect.iteFst <;> intros)
    | (split)
    | (dsimp only))

theorem execScrubGranule_effect (a0 a1 s) : EffectR [.free, .mem, .poison, .regs, .harts, .rooms, .sent, .attics, .regqs, .dws, .doors, .errRings, .wingLogs, .errInFlight, .ceWindows, .live, .mailboxStudy] s (execScrubGranule a0 a1 s) := by
  unfold execScrubGranule
  repeat' (first
    | (with_reducible apply Effect.refl)
    | (with_reducible (apply Effect.next; apply State.scrubStep_effect); decide +kernel)
    | (with_reducible apply EffectR.ready)
    | (with_reducible apply EffectR.next)
    | (with_reducible assumption)
    | (with_reducible apply Effect.foldl <;> intros)
    | (with_reducible apply Effect.ite <;> intros)
    | (with_reducible apply EffectR.ite <;> intros)
    | (split)
    | (dsimp only))

theorem execLogRead_effect (a0 s) : EffectR [.free, .mem, .poison, .regs, .harts, .rooms, .attics, .dws, .sqs, .descs, .completions, .errRings, .wingLogs, .errInFlight, .ceWindows, .live, .mailboxStudy] s (execLogRead a0 s) := by
  unfold execLogRead mgmtRun
  repeat' (first
    | (with_reducible apply Effect.refl)
    | (with_reducible (apply Effect.next; apply State.mgmtAnswer_effect); decide +kernel)
    | (with_reducible (apply Effect.next; apply State.bufWrite_effect); decide +kernel)
    | (with_reducible apply EffectR.ready)
    | (with_reducible apply EffectR.next)
    | (with_reducible assumption)
    | (with_reducible apply Effect.foldl <;> intros)
    | (with_reducible apply Effect.ite <;> intros)
    | (with_reducible apply EffectR.ite <;> intros)
    | (split)
    | (dsimp only [id]))

theorem execMgmtLinkRecal_effect (a0 s) : EffectR [.links, .sqs, .descs, .completions, .live, .mailboxStudy] s (execMgmtLinkRecal a0 s) := by
  unfold execMgmtLinkRecal mgmtRun
  repeat' (first
    | (with_reducible apply Effect.refl)
    | (with_reducible (apply Effect.next; apply State.mgmtAnswer_effect); decide +kernel)
    | (with_reducible (apply Effect.next; apply State.modLink_effect); decide +kernel)
    | (with_reducible (apply Effect.next; apply State.beginCmd_effect); decide +kernel)
    | (with_reducible apply EffectR.ready)
    | (with_reducible apply EffectR.next)
    | (with_reducible assumption)
    | (with_reducible apply Effect.foldl <;> intros)
    | (with_reducible apply Effect.ite <;> intros)
    | (with_reducible apply EffectR.ite <;> intros)
    | (split)
    | (dsimp only [id]))

theorem execAbsentClear_effect (a0 s) : EffectR [.regs, .sent, .absentDevs, .doors, .sqs, .descs, .completions, .live, .mailboxStudy] s (execAbsentClear a0 s) := by
  unfold execAbsentClear mgmtRun
  repeat' (first
    | (with_reducible apply Effect.refl)
    | (with_reducible (apply Effect.next; apply State.mgmtAnswer_effect); decide +kernel)
    | (with_reducible (apply Effect.next; apply State.deviceBack_effect); decide +kernel)
    | (with_reducible apply EffectR.ready)
    | (with_reducible apply EffectR.next)
    | (with_reducible assumption)
    | (with_reducible apply Effect.foldl <;> intros)
    | (with_reducible apply Effect.ite <;> intros)
    | (with_reducible apply EffectR.ite <;> intros)
    | (split)
    | (dsimp only [id]))

theorem execSensorRead_effect (a0 s) : EffectR [.free, .mem, .poison, .regs, .harts, .rooms, .attics, .dws, .sqs, .descs, .completions, .errRings, .wingLogs, .errInFlight, .ceWindows, .live, .mailboxStudy] s (execSensorRead a0 s) := by
  unfold execSensorRead mgmtRun
  repeat' (first
    | (with_reducible apply Effect.refl)
    | (with_reducible (apply Effect.next; apply State.mgmtAnswer_effect); decide +kernel)
    | (with_reducible (apply Effect.next; apply State.bufWrite_effect); decide +kernel)
    | (with_reducible apply EffectR.ready)
    | (with_reducible apply EffectR.next)
    | (with_reducible assumption)
    | (with_reducible apply Effect.foldl <;> intros)
    | (with_reducible apply Effect.ite <;> intros)
    | (with_reducible apply EffectR.ite <;> intros)
    | (split)
    | (dsimp only [id]))

theorem execPowerCap_effect (a0 s) : EffectR [.sqs, .descs, .completions, .power, .live, .mailboxStudy] s (execPowerCap a0 s) := by
  unfold execPowerCap mgmtRun
  repeat' (first
    | (with_reducible apply Effect.refl)
    | (with_reducible (apply Effect.next; apply State.mgmtAnswer_effect); decide +kernel)
    | (with_reducible (apply Effect.next; apply State.writeCap_effect); decide +kernel)
    | (with_reducible apply EffectR.ready)
    | (with_reducible apply EffectR.next)
    | (with_reducible assumption)
    | (with_reducible apply Effect.foldl <;> intros)
    | (with_reducible apply Effect.ite <;> intros)
    | (with_reducible apply EffectR.ite <;> intros)
    | (split)
    | (dsimp only [id]))

theorem State.modRemap_effect (s a1 a2) : Effect [.remaps] s (State.modRemap s a1 a2) := by
  unfold State.modRemap
  repeat' (first
    | ((conv => arg 3; arg 64); refine Effect.upd ?_ (by intro p hp; cases p <;> first | exact Bool.noConfusion hp | rfl))
    | (with_reducible apply Effect.refl)
    | (with_reducible assumption)
    | (with_reducible apply Effect.foldl <;> intros)
    | (with_reducible apply Effect.ite <;> intros)
    | (split)
    | (dsimp only))

theorem State.loseFlit_effect (s a1) : Effect [.free, .links] s (State.loseFlit s a1) := by
  unfold State.loseFlit
  repeat' (first
    | (with_reducible apply Effect.refl)
    | (with_reducible (apply Effect.next; apply State.bump_effect); decide +kernel)
    | (with_reducible (apply Effect.next; apply State.modLink_effect); decide +kernel)
    | (with_reducible assumption)
    | (with_reducible apply Effect.foldl <;> intros)
    | (with_reducible apply Effect.ite <;> intros)
    | (split)
    | (dsimp only))

theorem State.remapWord_effect (s a1 a2 a3) : Effect [.free, .regs, .attics, .links, .errRings, .wingLogs, .errInFlight, .ceWindows, .remaps] s (State.remapWord s a1 a2 a3) := by
  unfold State.remapWord
  repeat' (first
    | (with_reducible apply Effect.refl)
    | (with_reducible (apply Effect.next; apply State.postDie_effect); decide +kernel)
    | (with_reducible (apply Effect.next; apply State.modRemap_effect); decide +kernel)
    | (with_reducible (apply Effect.next; apply State.loseFlit_effect); decide +kernel)
    | (with_reducible assumption)
    | (with_reducible apply Effect.foldl <;> intros)
    | (with_reducible apply Effect.ite <;> intros)
    | (split)
    | (dsimp only))

theorem State.remapFull_effect (s a1 a2) : Effect [.regs, .rooms, .sent, .attics, .links, .doors, .errRings, .wingLogs, .errInFlight, .ceWindows, .power, .therm, .boot, .flash, .flashLogs, .live, .mailboxStudy, .remaps] s (State.remapFull s a1 a2) := by
  unfold State.remapFull
  repeat' (first
    | (with_reducible apply Effect.refl)
    | (with_reducible (apply Effect.next; apply State.postDie_effect); decide +kernel)
    | (with_reducible (apply Effect.next; apply State.modLive_effect); decide +kernel)
    | (with_reducible (apply Effect.next; apply State.takeover_effect); decide +kernel)
    | (with_reducible (apply Effect.next; apply State.startReset_effect); decide +kernel)
    | (with_reducible (apply Effect.next; apply State.linkDown_effect); decide +kernel)
    | (with_reducible (apply Effect.next; apply State.modRemap_effect); decide +kernel)
    | (with_reducible assumption)
    | (with_reducible apply Effect.foldl <;> intros)
    | (with_reducible apply Effect.ite <;> intros)
    | (split)
    | (dsimp only))

theorem State.wordError_effect (s a1 a2 a3) : Effect [.free, .regs, .rooms, .sent, .attics, .links, .doors, .errRings, .wingLogs, .errInFlight, .ceWindows, .power, .therm, .boot, .flash, .flashLogs, .live, .mailboxStudy, .remaps] s (State.wordError s a1 a2 a3) := by
  unfold State.wordError
  repeat' (first
    | (with_reducible apply Effect.refl)
    | (with_reducible (apply Effect.next; apply State.postDie_effect); decide +kernel)
    | (with_reducible (apply Effect.next; apply State.remapWord_effect); decide +kernel)
    | (with_reducible (apply Effect.next; apply State.remapFull_effect); decide +kernel)
    | (with_reducible (apply Effect.next; apply State.modRemap_effect); decide +kernel)
    | (with_reducible assumption)
    | (with_reducible apply Effect.foldl <;> intros)
    | (with_reducible apply Effect.ite <;> intros)
    | (split)
    | (dsimp only))

theorem execWordRemap_effect (a0 a1 a2 s) : EffectR [.free, .regs, .rooms, .sent, .attics, .links, .doors, .errRings, .wingLogs, .errInFlight, .ceWindows, .power, .therm, .boot, .flash, .flashLogs, .live, .mailboxStudy, .remaps] s (execWordRemap a0 a1 a2 s) := by
  unfold execWordRemap
  repeat' (first
    | (with_reducible apply Effect.refl)
    | (with_reducible (apply Effect.next; apply State.wordError_effect); decide +kernel)
    | (with_reducible apply EffectR.ready)
    | (with_reducible apply EffectR.next)
    | (with_reducible assumption)
    | (with_reducible apply Effect.foldl <;> intros)
    | (with_reducible apply Effect.ite <;> intros)
    | (with_reducible apply EffectR.ite <;> intros)
    | (split)
    | (dsimp only))

end Sys2Proof.Machine
end

