-- ==== Sys2Proof/Laws/State.lean ====
section
/-! SUPPORT. Laws of the state: for each update, what it leaves in every other part, and what its own part reads as after it. -/
namespace Sys2Proof.Machine

variable (s : State)

@[simp] theorem State.setHartAt_pending (k : Nat) (v : Hart) : (s.setHartAt k v).pending = s.pending := rfl
@[simp] theorem State.setHartAt_fuses (k : Nat) (v : Hart) : (s.setHartAt k v).fuses = s.fuses := rfl
@[simp] theorem State.setHartAt_devId (k : Nat) (v : Hart) : (s.setHartAt k v).devId = s.devId := rfl
@[simp] theorem State.setHartAt_now (k : Nat) (v : Hart) : (s.setHartAt k v).now = s.now := rfl
@[simp] theorem State.setHartAt_free (k : Nat) (v : Hart) : (s.setHartAt k v).free = s.free := rfl
@[simp] theorem State.setHartAt_mem (k : Nat) (v : Hart) : (s.setHartAt k v).mem = s.mem := rfl
@[simp] theorem State.setHartAt_poison (k : Nat) (v : Hart) : (s.setHartAt k v).poison = s.poison := rfl
@[simp] theorem State.setHartAt_regs (k : Nat) (v : Hart) : (s.setHartAt k v).regs = s.regs := rfl
@[simp] theorem State.setHartAt_rooms (k : Nat) (v : Hart) : (s.setHartAt k v).rooms = s.rooms := rfl
@[simp] theorem State.setHartAt_tags (k : Nat) (v : Hart) : (s.setHartAt k v).tags = s.tags := rfl
@[simp] theorem State.setHartAt_reqs (k : Nat) (v : Hart) : (s.setHartAt k v).reqs = s.reqs := rfl
@[simp] theorem State.setHartAt_exitMsgs (k : Nat) (v : Hart) : (s.setHartAt k v).exitMsgs = s.exitMsgs := rfl
@[simp] theorem State.setHartAt_caches (k : Nat) (v : Hart) : (s.setHartAt k v).caches = s.caches := rfl
@[simp] theorem State.setHartAt_sent (k : Nat) (v : Hart) : (s.setHartAt k v).sent = s.sent := rfl
@[simp] theorem State.setHartAt_colls (k : Nat) (v : Hart) : (s.setHartAt k v).colls = s.colls := rfl
@[simp] theorem State.setHartAt_insts (k : Nat) (v : Hart) : (s.setHartAt k v).insts = s.insts := rfl
@[simp] theorem State.setHartAt_keptEnds (k : Nat) (v : Hart) : (s.setHartAt k v).keptEnds = s.keptEnds := rfl
@[simp] theorem State.setHartAt_arrays (k : Nat) (v : Hart) : (s.setHartAt k v).arrays = s.arrays := rfl
@[simp] theorem State.setHartAt_attics (k : Nat) (v : Hart) : (s.setHartAt k v).attics = s.attics := rfl
@[simp] theorem State.setHartAt_regqs (k : Nat) (v : Hart) : (s.setHartAt k v).regqs = s.regqs := rfl
@[simp] theorem State.setHartAt_avus (k : Nat) (v : Hart) : (s.setHartAt k v).avus = s.avus := rfl
@[simp] theorem State.setHartAt_trees (k : Nat) (v : Hart) : (s.setHartAt k v).trees = s.trees := rfl
@[simp] theorem State.setHartAt_dws (k : Nat) (v : Hart) : (s.setHartAt k v).dws = s.dws := rfl
@[simp] theorem State.setHartAt_dwOrder (k : Nat) (v : Hart) : (s.setHartAt k v).dwOrder = s.dwOrder := rfl
@[simp] theorem State.setHartAt_wings (k : Nat) (v : Hart) : (s.setHartAt k v).wings = s.wings := rfl
@[simp] theorem State.setHartAt_halls (k : Nat) (v : Hart) : (s.setHartAt k v).halls = s.halls := rfl
@[simp] theorem State.setHartAt_modules (k : Nat) (v : Hart) : (s.setHartAt k v).modules = s.modules := rfl
@[simp] theorem State.setHartAt_dies (k : Nat) (v : Hart) : (s.setHartAt k v).dies = s.dies := rfl
@[simp] theorem State.setHartAt_idBlocks (k : Nat) (v : Hart) : (s.setHartAt k v).idBlocks = s.idBlocks := rfl
@[simp] theorem State.setHartAt_links (k : Nat) (v : Hart) : (s.setHartAt k v).links = s.links := rfl
@[simp] theorem State.setHartAt_fabric (k : Nat) (v : Hart) : (s.setHartAt k v).fabric = s.fabric := rfl
@[simp] theorem State.setHartAt_bootCount (k : Nat) (v : Hart) : (s.setHartAt k v).bootCount = s.bootCount := rfl
@[simp] theorem State.setHartAt_absentDevs (k : Nat) (v : Hart) : (s.setHartAt k v).absentDevs = s.absentDevs := rfl
@[simp] theorem State.setHartAt_mailboxes (k : Nat) (v : Hart) : (s.setHartAt k v).mailboxes = s.mailboxes := rfl
@[simp] theorem State.setHartAt_doors (k : Nat) (v : Hart) : (s.setHartAt k v).doors = s.doors := rfl
@[simp] theorem State.setHartAt_sqs (k : Nat) (v : Hart) : (s.setHartAt k v).sqs = s.sqs := rfl
@[simp] theorem State.setHartAt_cqs (k : Nat) (v : Hart) : (s.setHartAt k v).cqs = s.cqs := rfl
@[simp] theorem State.setHartAt_descs (k : Nat) (v : Hart) : (s.setHartAt k v).descs = s.descs := rfl
@[simp] theorem State.setHartAt_nextDesc (k : Nat) (v : Hart) : (s.setHartAt k v).nextDesc = s.nextDesc := rfl
@[simp] theorem State.setHartAt_completions (k : Nat) (v : Hart) : (s.setHartAt k v).completions = s.completions := rfl
@[simp] theorem State.setHartAt_jobs (k : Nat) (v : Hart) : (s.setHartAt k v).jobs = s.jobs := rfl
@[simp] theorem State.setHartAt_errRings (k : Nat) (v : Hart) : (s.setHartAt k v).errRings = s.errRings := rfl
@[simp] theorem State.setHartAt_wingLogs (k : Nat) (v : Hart) : (s.setHartAt k v).wingLogs = s.wingLogs := rfl
@[simp] theorem State.setHartAt_errInFlight (k : Nat) (v : Hart) : (s.setHartAt k v).errInFlight = s.errInFlight := rfl
@[simp] theorem State.setHartAt_deviceLog (k : Nat) (v : Hart) : (s.setHartAt k v).deviceLog = s.deviceLog := rfl
@[simp] theorem State.setHartAt_flashLog (k : Nat) (v : Hart) : (s.setHartAt k v).flashLog = s.flashLog := rfl
@[simp] theorem State.setHartAt_deviceSeq (k : Nat) (v : Hart) : (s.setHartAt k v).deviceSeq = s.deviceSeq := rfl
@[simp] theorem State.setHartAt_ceWindows (k : Nat) (v : Hart) : (s.setHartAt k v).ceWindows = s.ceWindows := rfl
@[simp] theorem State.setHartAt_power (k : Nat) (v : Hart) : (s.setHartAt k v).power = s.power := rfl
@[simp] theorem State.setHartAt_therm (k : Nat) (v : Hart) : (s.setHartAt k v).therm = s.therm := rfl
@[simp] theorem State.setHartAt_boot (k : Nat) (v : Hart) : (s.setHartAt k v).boot = s.boot := rfl
@[simp] theorem State.setHartAt_aon (k : Nat) (v : Hart) : (s.setHartAt k v).aon = s.aon := rfl
@[simp] theorem State.setHartAt_flash (k : Nat) (v : Hart) : (s.setHartAt k v).flash = s.flash := rfl
@[simp] theorem State.setHartAt_flashLogs (k : Nat) (v : Hart) : (s.setHartAt k v).flashLogs = s.flashLogs := rfl
@[simp] theorem State.setHartAt_plan (k : Nat) (v : Hart) : (s.setHartAt k v).plan = s.plan := rfl
@[simp] theorem State.setHartAt_planGen (k : Nat) (v : Hart) : (s.setHartAt k v).planGen = s.planGen := rfl
@[simp] theorem State.setHartAt_planTime (k : Nat) (v : Hart) : (s.setHartAt k v).planTime = s.planTime := rfl
@[simp] theorem State.setHartAt_live (k : Nat) (v : Hart) : (s.setHartAt k v).live = s.live := rfl
@[simp] theorem State.setHartAt_mailboxStudy (k : Nat) (v : Hart) : (s.setHartAt k v).mailboxStudy = s.mailboxStudy := rfl
@[simp] theorem State.setHartAt_remaps (k : Nat) (v : Hart) : (s.setHartAt k v).remaps = s.remaps := rfl
@[simp] theorem State.setHartAt_test (k : Nat) (v : Hart) : (s.setHartAt k v).test = s.test := rfl
@[simp] theorem State.setHartAt_pcies (k : Nat) (v : Hart) : (s.setHartAt k v).pcies = s.pcies := rfl
@[simp] theorem State.setHartAt_guards (k : Nat) (v : Hart) : (s.setHartAt k v).guards = s.guards := rfl

@[simp] theorem State.modHartAt_pending (k : Nat) (f : Hart → Hart) : (s.modHartAt k f).pending = s.pending := rfl
@[simp] theorem State.modHartAt_fuses (k : Nat) (f : Hart → Hart) : (s.modHartAt k f).fuses = s.fuses := rfl
@[simp] theorem State.modHartAt_devId (k : Nat) (f : Hart → Hart) : (s.modHartAt k f).devId = s.devId := rfl
@[simp] theorem State.modHartAt_now (k : Nat) (f : Hart → Hart) : (s.modHartAt k f).now = s.now := rfl
@[simp] theorem State.modHartAt_free (k : Nat) (f : Hart → Hart) : (s.modHartAt k f).free = s.free := rfl
@[simp] theorem State.modHartAt_mem (k : Nat) (f : Hart → Hart) : (s.modHartAt k f).mem = s.mem := rfl
@[simp] theorem State.modHartAt_poison (k : Nat) (f : Hart → Hart) : (s.modHartAt k f).poison = s.poison := rfl
@[simp] theorem State.modHartAt_regs (k : Nat) (f : Hart → Hart) : (s.modHartAt k f).regs = s.regs := rfl
@[simp] theorem State.modHartAt_rooms (k : Nat) (f : Hart → Hart) : (s.modHartAt k f).rooms = s.rooms := rfl
@[simp] theorem State.modHartAt_tags (k : Nat) (f : Hart → Hart) : (s.modHartAt k f).tags = s.tags := rfl
@[simp] theorem State.modHartAt_reqs (k : Nat) (f : Hart → Hart) : (s.modHartAt k f).reqs = s.reqs := rfl
@[simp] theorem State.modHartAt_exitMsgs (k : Nat) (f : Hart → Hart) : (s.modHartAt k f).exitMsgs = s.exitMsgs := rfl
@[simp] theorem State.modHartAt_caches (k : Nat) (f : Hart → Hart) : (s.modHartAt k f).caches = s.caches := rfl
@[simp] theorem State.modHartAt_sent (k : Nat) (f : Hart → Hart) : (s.modHartAt k f).sent = s.sent := rfl
@[simp] theorem State.modHartAt_colls (k : Nat) (f : Hart → Hart) : (s.modHartAt k f).colls = s.colls := rfl
@[simp] theorem State.modHartAt_insts (k : Nat) (f : Hart → Hart) : (s.modHartAt k f).insts = s.insts := rfl
@[simp] theorem State.modHartAt_keptEnds (k : Nat) (f : Hart → Hart) : (s.modHartAt k f).keptEnds = s.keptEnds := rfl
@[simp] theorem State.modHartAt_arrays (k : Nat) (f : Hart → Hart) : (s.modHartAt k f).arrays = s.arrays := rfl
@[simp] theorem State.modHartAt_attics (k : Nat) (f : Hart → Hart) : (s.modHartAt k f).attics = s.attics := rfl
@[simp] theorem State.modHartAt_regqs (k : Nat) (f : Hart → Hart) : (s.modHartAt k f).regqs = s.regqs := rfl
@[simp] theorem State.modHartAt_avus (k : Nat) (f : Hart → Hart) : (s.modHartAt k f).avus = s.avus := rfl
@[simp] theorem State.modHartAt_trees (k : Nat) (f : Hart → Hart) : (s.modHartAt k f).trees = s.trees := rfl
@[simp] theorem State.modHartAt_dws (k : Nat) (f : Hart → Hart) : (s.modHartAt k f).dws = s.dws := rfl
@[simp] theorem State.modHartAt_dwOrder (k : Nat) (f : Hart → Hart) : (s.modHartAt k f).dwOrder = s.dwOrder := rfl
@[simp] theorem State.modHartAt_wings (k : Nat) (f : Hart → Hart) : (s.modHartAt k f).wings = s.wings := rfl
@[simp] theorem State.modHartAt_halls (k : Nat) (f : Hart → Hart) : (s.modHartAt k f).halls = s.halls := rfl
@[simp] theorem State.modHartAt_modules (k : Nat) (f : Hart → Hart) : (s.modHartAt k f).modules = s.modules := rfl
@[simp] theorem State.modHartAt_dies (k : Nat) (f : Hart → Hart) : (s.modHartAt k f).dies = s.dies := rfl
@[simp] theorem State.modHartAt_idBlocks (k : Nat) (f : Hart → Hart) : (s.modHartAt k f).idBlocks = s.idBlocks := rfl
@[simp] theorem State.modHartAt_links (k : Nat) (f : Hart → Hart) : (s.modHartAt k f).links = s.links := rfl
@[simp] theorem State.modHartAt_fabric (k : Nat) (f : Hart → Hart) : (s.modHartAt k f).fabric = s.fabric := rfl
@[simp] theorem State.modHartAt_bootCount (k : Nat) (f : Hart → Hart) : (s.modHartAt k f).bootCount = s.bootCount := rfl
@[simp] theorem State.modHartAt_absentDevs (k : Nat) (f : Hart → Hart) : (s.modHartAt k f).absentDevs = s.absentDevs := rfl
@[simp] theorem State.modHartAt_mailboxes (k : Nat) (f : Hart → Hart) : (s.modHartAt k f).mailboxes = s.mailboxes := rfl
@[simp] theorem State.modHartAt_doors (k : Nat) (f : Hart → Hart) : (s.modHartAt k f).doors = s.doors := rfl
@[simp] theorem State.modHartAt_sqs (k : Nat) (f : Hart → Hart) : (s.modHartAt k f).sqs = s.sqs := rfl
@[simp] theorem State.modHartAt_cqs (k : Nat) (f : Hart → Hart) : (s.modHartAt k f).cqs = s.cqs := rfl
@[simp] theorem State.modHartAt_descs (k : Nat) (f : Hart → Hart) : (s.modHartAt k f).descs = s.descs := rfl
@[simp] theorem State.modHartAt_nextDesc (k : Nat) (f : Hart → Hart) : (s.modHartAt k f).nextDesc = s.nextDesc := rfl
@[simp] theorem State.modHartAt_completions (k : Nat) (f : Hart → Hart) : (s.modHartAt k f).completions = s.completions := rfl
@[simp] theorem State.modHartAt_jobs (k : Nat) (f : Hart → Hart) : (s.modHartAt k f).jobs = s.jobs := rfl
@[simp] theorem State.modHartAt_errRings (k : Nat) (f : Hart → Hart) : (s.modHartAt k f).errRings = s.errRings := rfl
@[simp] theorem State.modHartAt_wingLogs (k : Nat) (f : Hart → Hart) : (s.modHartAt k f).wingLogs = s.wingLogs := rfl
@[simp] theorem State.modHartAt_errInFlight (k : Nat) (f : Hart → Hart) : (s.modHartAt k f).errInFlight = s.errInFlight := rfl
@[simp] theorem State.modHartAt_deviceLog (k : Nat) (f : Hart → Hart) : (s.modHartAt k f).deviceLog = s.deviceLog := rfl
@[simp] theorem State.modHartAt_flashLog (k : Nat) (f : Hart → Hart) : (s.modHartAt k f).flashLog = s.flashLog := rfl
@[simp] theorem State.modHartAt_deviceSeq (k : Nat) (f : Hart → Hart) : (s.modHartAt k f).deviceSeq = s.deviceSeq := rfl
@[simp] theorem State.modHartAt_ceWindows (k : Nat) (f : Hart → Hart) : (s.modHartAt k f).ceWindows = s.ceWindows := rfl
@[simp] theorem State.modHartAt_power (k : Nat) (f : Hart → Hart) : (s.modHartAt k f).power = s.power := rfl
@[simp] theorem State.modHartAt_therm (k : Nat) (f : Hart → Hart) : (s.modHartAt k f).therm = s.therm := rfl
@[simp] theorem State.modHartAt_boot (k : Nat) (f : Hart → Hart) : (s.modHartAt k f).boot = s.boot := rfl
@[simp] theorem State.modHartAt_aon (k : Nat) (f : Hart → Hart) : (s.modHartAt k f).aon = s.aon := rfl
@[simp] theorem State.modHartAt_flash (k : Nat) (f : Hart → Hart) : (s.modHartAt k f).flash = s.flash := rfl
@[simp] theorem State.modHartAt_flashLogs (k : Nat) (f : Hart → Hart) : (s.modHartAt k f).flashLogs = s.flashLogs := rfl
@[simp] theorem State.modHartAt_plan (k : Nat) (f : Hart → Hart) : (s.modHartAt k f).plan = s.plan := rfl
@[simp] theorem State.modHartAt_planGen (k : Nat) (f : Hart → Hart) : (s.modHartAt k f).planGen = s.planGen := rfl
@[simp] theorem State.modHartAt_planTime (k : Nat) (f : Hart → Hart) : (s.modHartAt k f).planTime = s.planTime := rfl
@[simp] theorem State.modHartAt_live (k : Nat) (f : Hart → Hart) : (s.modHartAt k f).live = s.live := rfl
@[simp] theorem State.modHartAt_mailboxStudy (k : Nat) (f : Hart → Hart) : (s.modHartAt k f).mailboxStudy = s.mailboxStudy := rfl
@[simp] theorem State.modHartAt_remaps (k : Nat) (f : Hart → Hart) : (s.modHartAt k f).remaps = s.remaps := rfl
@[simp] theorem State.modHartAt_test (k : Nat) (f : Hart → Hart) : (s.modHartAt k f).test = s.test := rfl
@[simp] theorem State.modHartAt_pcies (k : Nat) (f : Hart → Hart) : (s.modHartAt k f).pcies = s.pcies := rfl
@[simp] theorem State.modHartAt_guards (k : Nat) (f : Hart → Hart) : (s.modHartAt k f).guards = s.guards := rfl

@[simp] theorem State.modHart_pending (h : HartId) (f : Hart → Hart) : (s.modHart h f).pending = s.pending := rfl
@[simp] theorem State.modHart_fuses (h : HartId) (f : Hart → Hart) : (s.modHart h f).fuses = s.fuses := rfl
@[simp] theorem State.modHart_devId (h : HartId) (f : Hart → Hart) : (s.modHart h f).devId = s.devId := rfl
@[simp] theorem State.modHart_now (h : HartId) (f : Hart → Hart) : (s.modHart h f).now = s.now := rfl
@[simp] theorem State.modHart_free (h : HartId) (f : Hart → Hart) : (s.modHart h f).free = s.free := rfl
@[simp] theorem State.modHart_mem (h : HartId) (f : Hart → Hart) : (s.modHart h f).mem = s.mem := rfl
@[simp] theorem State.modHart_poison (h : HartId) (f : Hart → Hart) : (s.modHart h f).poison = s.poison := rfl
@[simp] theorem State.modHart_regs (h : HartId) (f : Hart → Hart) : (s.modHart h f).regs = s.regs := rfl
@[simp] theorem State.modHart_rooms (h : HartId) (f : Hart → Hart) : (s.modHart h f).rooms = s.rooms := rfl
@[simp] theorem State.modHart_tags (h : HartId) (f : Hart → Hart) : (s.modHart h f).tags = s.tags := rfl
@[simp] theorem State.modHart_reqs (h : HartId) (f : Hart → Hart) : (s.modHart h f).reqs = s.reqs := rfl
@[simp] theorem State.modHart_exitMsgs (h : HartId) (f : Hart → Hart) : (s.modHart h f).exitMsgs = s.exitMsgs := rfl
@[simp] theorem State.modHart_caches (h : HartId) (f : Hart → Hart) : (s.modHart h f).caches = s.caches := rfl
@[simp] theorem State.modHart_sent (h : HartId) (f : Hart → Hart) : (s.modHart h f).sent = s.sent := rfl
@[simp] theorem State.modHart_colls (h : HartId) (f : Hart → Hart) : (s.modHart h f).colls = s.colls := rfl
@[simp] theorem State.modHart_insts (h : HartId) (f : Hart → Hart) : (s.modHart h f).insts = s.insts := rfl
@[simp] theorem State.modHart_keptEnds (h : HartId) (f : Hart → Hart) : (s.modHart h f).keptEnds = s.keptEnds := rfl
@[simp] theorem State.modHart_arrays (h : HartId) (f : Hart → Hart) : (s.modHart h f).arrays = s.arrays := rfl
@[simp] theorem State.modHart_attics (h : HartId) (f : Hart → Hart) : (s.modHart h f).attics = s.attics := rfl
@[simp] theorem State.modHart_regqs (h : HartId) (f : Hart → Hart) : (s.modHart h f).regqs = s.regqs := rfl
@[simp] theorem State.modHart_avus (h : HartId) (f : Hart → Hart) : (s.modHart h f).avus = s.avus := rfl
@[simp] theorem State.modHart_trees (h : HartId) (f : Hart → Hart) : (s.modHart h f).trees = s.trees := rfl
@[simp] theorem State.modHart_dws (h : HartId) (f : Hart → Hart) : (s.modHart h f).dws = s.dws := rfl
@[simp] theorem State.modHart_dwOrder (h : HartId) (f : Hart → Hart) : (s.modHart h f).dwOrder = s.dwOrder := rfl
@[simp] theorem State.modHart_wings (h : HartId) (f : Hart → Hart) : (s.modHart h f).wings = s.wings := rfl
@[simp] theorem State.modHart_halls (h : HartId) (f : Hart → Hart) : (s.modHart h f).halls = s.halls := rfl
@[simp] theorem State.modHart_modules (h : HartId) (f : Hart → Hart) : (s.modHart h f).modules = s.modules := rfl
@[simp] theorem State.modHart_dies (h : HartId) (f : Hart → Hart) : (s.modHart h f).dies = s.dies := rfl
@[simp] theorem State.modHart_idBlocks (h : HartId) (f : Hart → Hart) : (s.modHart h f).idBlocks = s.idBlocks := rfl
@[simp] theorem State.modHart_links (h : HartId) (f : Hart → Hart) : (s.modHart h f).links = s.links := rfl
@[simp] theorem State.modHart_fabric (h : HartId) (f : Hart → Hart) : (s.modHart h f).fabric = s.fabric := rfl
@[simp] theorem State.modHart_bootCount (h : HartId) (f : Hart → Hart) : (s.modHart h f).bootCount = s.bootCount := rfl
@[simp] theorem State.modHart_absentDevs (h : HartId) (f : Hart → Hart) : (s.modHart h f).absentDevs = s.absentDevs := rfl
@[simp] theorem State.modHart_mailboxes (h : HartId) (f : Hart → Hart) : (s.modHart h f).mailboxes = s.mailboxes := rfl
@[simp] theorem State.modHart_doors (h : HartId) (f : Hart → Hart) : (s.modHart h f).doors = s.doors := rfl
@[simp] theorem State.modHart_sqs (h : HartId) (f : Hart → Hart) : (s.modHart h f).sqs = s.sqs := rfl
@[simp] theorem State.modHart_cqs (h : HartId) (f : Hart → Hart) : (s.modHart h f).cqs = s.cqs := rfl
@[simp] theorem State.modHart_descs (h : HartId) (f : Hart → Hart) : (s.modHart h f).descs = s.descs := rfl
@[simp] theorem State.modHart_nextDesc (h : HartId) (f : Hart → Hart) : (s.modHart h f).nextDesc = s.nextDesc := rfl
@[simp] theorem State.modHart_completions (h : HartId) (f : Hart → Hart) : (s.modHart h f).completions = s.completions := rfl
@[simp] theorem State.modHart_jobs (h : HartId) (f : Hart → Hart) : (s.modHart h f).jobs = s.jobs := rfl
@[simp] theorem State.modHart_errRings (h : HartId) (f : Hart → Hart) : (s.modHart h f).errRings = s.errRings := rfl
@[simp] theorem State.modHart_wingLogs (h : HartId) (f : Hart → Hart) : (s.modHart h f).wingLogs = s.wingLogs := rfl
@[simp] theorem State.modHart_errInFlight (h : HartId) (f : Hart → Hart) : (s.modHart h f).errInFlight = s.errInFlight := rfl
@[simp] theorem State.modHart_deviceLog (h : HartId) (f : Hart → Hart) : (s.modHart h f).deviceLog = s.deviceLog := rfl
@[simp] theorem State.modHart_flashLog (h : HartId) (f : Hart → Hart) : (s.modHart h f).flashLog = s.flashLog := rfl
@[simp] theorem State.modHart_deviceSeq (h : HartId) (f : Hart → Hart) : (s.modHart h f).deviceSeq = s.deviceSeq := rfl
@[simp] theorem State.modHart_ceWindows (h : HartId) (f : Hart → Hart) : (s.modHart h f).ceWindows = s.ceWindows := rfl
@[simp] theorem State.modHart_power (h : HartId) (f : Hart → Hart) : (s.modHart h f).power = s.power := rfl
@[simp] theorem State.modHart_therm (h : HartId) (f : Hart → Hart) : (s.modHart h f).therm = s.therm := rfl
@[simp] theorem State.modHart_boot (h : HartId) (f : Hart → Hart) : (s.modHart h f).boot = s.boot := rfl
@[simp] theorem State.modHart_aon (h : HartId) (f : Hart → Hart) : (s.modHart h f).aon = s.aon := rfl
@[simp] theorem State.modHart_flash (h : HartId) (f : Hart → Hart) : (s.modHart h f).flash = s.flash := rfl
@[simp] theorem State.modHart_flashLogs (h : HartId) (f : Hart → Hart) : (s.modHart h f).flashLogs = s.flashLogs := rfl
@[simp] theorem State.modHart_plan (h : HartId) (f : Hart → Hart) : (s.modHart h f).plan = s.plan := rfl
@[simp] theorem State.modHart_planGen (h : HartId) (f : Hart → Hart) : (s.modHart h f).planGen = s.planGen := rfl
@[simp] theorem State.modHart_planTime (h : HartId) (f : Hart → Hart) : (s.modHart h f).planTime = s.planTime := rfl
@[simp] theorem State.modHart_live (h : HartId) (f : Hart → Hart) : (s.modHart h f).live = s.live := rfl
@[simp] theorem State.modHart_mailboxStudy (h : HartId) (f : Hart → Hart) : (s.modHart h f).mailboxStudy = s.mailboxStudy := rfl
@[simp] theorem State.modHart_remaps (h : HartId) (f : Hart → Hart) : (s.modHart h f).remaps = s.remaps := rfl
@[simp] theorem State.modHart_test (h : HartId) (f : Hart → Hart) : (s.modHart h f).test = s.test := rfl
@[simp] theorem State.modHart_pcies (h : HartId) (f : Hart → Hart) : (s.modHart h f).pcies = s.pcies := rfl
@[simp] theorem State.modHart_guards (h : HartId) (f : Hart → Hart) : (s.modHart h f).guards = s.guards := rfl

@[simp] theorem State.modRoom_pending (r : Nat) (f : Room → Room) : (s.modRoom r f).pending = s.pending := rfl
@[simp] theorem State.modRoom_fuses (r : Nat) (f : Room → Room) : (s.modRoom r f).fuses = s.fuses := rfl
@[simp] theorem State.modRoom_devId (r : Nat) (f : Room → Room) : (s.modRoom r f).devId = s.devId := rfl
@[simp] theorem State.modRoom_now (r : Nat) (f : Room → Room) : (s.modRoom r f).now = s.now := rfl
@[simp] theorem State.modRoom_free (r : Nat) (f : Room → Room) : (s.modRoom r f).free = s.free := rfl
@[simp] theorem State.modRoom_mem (r : Nat) (f : Room → Room) : (s.modRoom r f).mem = s.mem := rfl
@[simp] theorem State.modRoom_poison (r : Nat) (f : Room → Room) : (s.modRoom r f).poison = s.poison := rfl
@[simp] theorem State.modRoom_regs (r : Nat) (f : Room → Room) : (s.modRoom r f).regs = s.regs := rfl
@[simp] theorem State.modRoom_harts (r : Nat) (f : Room → Room) : (s.modRoom r f).harts = s.harts := rfl
@[simp] theorem State.modRoom_tags (r : Nat) (f : Room → Room) : (s.modRoom r f).tags = s.tags := rfl
@[simp] theorem State.modRoom_reqs (r : Nat) (f : Room → Room) : (s.modRoom r f).reqs = s.reqs := rfl
@[simp] theorem State.modRoom_exitMsgs (r : Nat) (f : Room → Room) : (s.modRoom r f).exitMsgs = s.exitMsgs := rfl
@[simp] theorem State.modRoom_caches (r : Nat) (f : Room → Room) : (s.modRoom r f).caches = s.caches := rfl
@[simp] theorem State.modRoom_sent (r : Nat) (f : Room → Room) : (s.modRoom r f).sent = s.sent := rfl
@[simp] theorem State.modRoom_colls (r : Nat) (f : Room → Room) : (s.modRoom r f).colls = s.colls := rfl
@[simp] theorem State.modRoom_insts (r : Nat) (f : Room → Room) : (s.modRoom r f).insts = s.insts := rfl
@[simp] theorem State.modRoom_keptEnds (r : Nat) (f : Room → Room) : (s.modRoom r f).keptEnds = s.keptEnds := rfl
@[simp] theorem State.modRoom_arrays (r : Nat) (f : Room → Room) : (s.modRoom r f).arrays = s.arrays := rfl
@[simp] theorem State.modRoom_attics (r : Nat) (f : Room → Room) : (s.modRoom r f).attics = s.attics := rfl
@[simp] theorem State.modRoom_regqs (r : Nat) (f : Room → Room) : (s.modRoom r f).regqs = s.regqs := rfl
@[simp] theorem State.modRoom_avus (r : Nat) (f : Room → Room) : (s.modRoom r f).avus = s.avus := rfl
@[simp] theorem State.modRoom_trees (r : Nat) (f : Room → Room) : (s.modRoom r f).trees = s.trees := rfl
@[simp] theorem State.modRoom_dws (r : Nat) (f : Room → Room) : (s.modRoom r f).dws = s.dws := rfl
@[simp] theorem State.modRoom_dwOrder (r : Nat) (f : Room → Room) : (s.modRoom r f).dwOrder = s.dwOrder := rfl
@[simp] theorem State.modRoom_wings (r : Nat) (f : Room → Room) : (s.modRoom r f).wings = s.wings := rfl
@[simp] theorem State.modRoom_halls (r : Nat) (f : Room → Room) : (s.modRoom r f).halls = s.halls := rfl
@[simp] theorem State.modRoom_modules (r : Nat) (f : Room → Room) : (s.modRoom r f).modules = s.modules := rfl
@[simp] theorem State.modRoom_dies (r : Nat) (f : Room → Room) : (s.modRoom r f).dies = s.dies := rfl
@[simp] theorem State.modRoom_idBlocks (r : Nat) (f : Room → Room) : (s.modRoom r f).idBlocks = s.idBlocks := rfl
@[simp] theorem State.modRoom_links (r : Nat) (f : Room → Room) : (s.modRoom r f).links = s.links := rfl
@[simp] theorem State.modRoom_fabric (r : Nat) (f : Room → Room) : (s.modRoom r f).fabric = s.fabric := rfl
@[simp] theorem State.modRoom_bootCount (r : Nat) (f : Room → Room) : (s.modRoom r f).bootCount = s.bootCount := rfl
@[simp] theorem State.modRoom_absentDevs (r : Nat) (f : Room → Room) : (s.modRoom r f).absentDevs = s.absentDevs := rfl
@[simp] theorem State.modRoom_mailboxes (r : Nat) (f : Room → Room) : (s.modRoom r f).mailboxes = s.mailboxes := rfl
@[simp] theorem State.modRoom_doors (r : Nat) (f : Room → Room) : (s.modRoom r f).doors = s.doors := rfl
@[simp] theorem State.modRoom_sqs (r : Nat) (f : Room → Room) : (s.modRoom r f).sqs = s.sqs := rfl
@[simp] theorem State.modRoom_cqs (r : Nat) (f : Room → Room) : (s.modRoom r f).cqs = s.cqs := rfl
@[simp] theorem State.modRoom_descs (r : Nat) (f : Room → Room) : (s.modRoom r f).descs = s.descs := rfl
@[simp] theorem State.modRoom_nextDesc (r : Nat) (f : Room → Room) : (s.modRoom r f).nextDesc = s.nextDesc := rfl
@[simp] theorem State.modRoom_completions (r : Nat) (f : Room → Room) : (s.modRoom r f).completions = s.completions := rfl
@[simp] theorem State.modRoom_jobs (r : Nat) (f : Room → Room) : (s.modRoom r f).jobs = s.jobs := rfl
@[simp] theorem State.modRoom_errRings (r : Nat) (f : Room → Room) : (s.modRoom r f).errRings = s.errRings := rfl
@[simp] theorem State.modRoom_wingLogs (r : Nat) (f : Room → Room) : (s.modRoom r f).wingLogs = s.wingLogs := rfl
@[simp] theorem State.modRoom_errInFlight (r : Nat) (f : Room → Room) : (s.modRoom r f).errInFlight = s.errInFlight := rfl
@[simp] theorem State.modRoom_deviceLog (r : Nat) (f : Room → Room) : (s.modRoom r f).deviceLog = s.deviceLog := rfl
@[simp] theorem State.modRoom_flashLog (r : Nat) (f : Room → Room) : (s.modRoom r f).flashLog = s.flashLog := rfl
@[simp] theorem State.modRoom_deviceSeq (r : Nat) (f : Room → Room) : (s.modRoom r f).deviceSeq = s.deviceSeq := rfl
@[simp] theorem State.modRoom_ceWindows (r : Nat) (f : Room → Room) : (s.modRoom r f).ceWindows = s.ceWindows := rfl
@[simp] theorem State.modRoom_power (r : Nat) (f : Room → Room) : (s.modRoom r f).power = s.power := rfl
@[simp] theorem State.modRoom_therm (r : Nat) (f : Room → Room) : (s.modRoom r f).therm = s.therm := rfl
@[simp] theorem State.modRoom_boot (r : Nat) (f : Room → Room) : (s.modRoom r f).boot = s.boot := rfl
@[simp] theorem State.modRoom_aon (r : Nat) (f : Room → Room) : (s.modRoom r f).aon = s.aon := rfl
@[simp] theorem State.modRoom_flash (r : Nat) (f : Room → Room) : (s.modRoom r f).flash = s.flash := rfl
@[simp] theorem State.modRoom_flashLogs (r : Nat) (f : Room → Room) : (s.modRoom r f).flashLogs = s.flashLogs := rfl
@[simp] theorem State.modRoom_plan (r : Nat) (f : Room → Room) : (s.modRoom r f).plan = s.plan := rfl
@[simp] theorem State.modRoom_planGen (r : Nat) (f : Room → Room) : (s.modRoom r f).planGen = s.planGen := rfl
@[simp] theorem State.modRoom_planTime (r : Nat) (f : Room → Room) : (s.modRoom r f).planTime = s.planTime := rfl
@[simp] theorem State.modRoom_live (r : Nat) (f : Room → Room) : (s.modRoom r f).live = s.live := rfl
@[simp] theorem State.modRoom_mailboxStudy (r : Nat) (f : Room → Room) : (s.modRoom r f).mailboxStudy = s.mailboxStudy := rfl
@[simp] theorem State.modRoom_remaps (r : Nat) (f : Room → Room) : (s.modRoom r f).remaps = s.remaps := rfl
@[simp] theorem State.modRoom_test (r : Nat) (f : Room → Room) : (s.modRoom r f).test = s.test := rfl
@[simp] theorem State.modRoom_pcies (r : Nat) (f : Room → Room) : (s.modRoom r f).pcies = s.pcies := rfl
@[simp] theorem State.modRoom_guards (r : Nat) (f : Room → Room) : (s.modRoom r f).guards = s.guards := rfl

@[simp] theorem State.modArray_pending (r : Nat) (f : ArrayB → ArrayB) : (s.modArray r f).pending = s.pending := rfl
@[simp] theorem State.modArray_fuses (r : Nat) (f : ArrayB → ArrayB) : (s.modArray r f).fuses = s.fuses := rfl
@[simp] theorem State.modArray_devId (r : Nat) (f : ArrayB → ArrayB) : (s.modArray r f).devId = s.devId := rfl
@[simp] theorem State.modArray_now (r : Nat) (f : ArrayB → ArrayB) : (s.modArray r f).now = s.now := rfl
@[simp] theorem State.modArray_free (r : Nat) (f : ArrayB → ArrayB) : (s.modArray r f).free = s.free := rfl
@[simp] theorem State.modArray_mem (r : Nat) (f : ArrayB → ArrayB) : (s.modArray r f).mem = s.mem := rfl
@[simp] theorem State.modArray_poison (r : Nat) (f : ArrayB → ArrayB) : (s.modArray r f).poison = s.poison := rfl
@[simp] theorem State.modArray_regs (r : Nat) (f : ArrayB → ArrayB) : (s.modArray r f).regs = s.regs := rfl
@[simp] theorem State.modArray_harts (r : Nat) (f : ArrayB → ArrayB) : (s.modArray r f).harts = s.harts := rfl
@[simp] theorem State.modArray_rooms (r : Nat) (f : ArrayB → ArrayB) : (s.modArray r f).rooms = s.rooms := rfl
@[simp] theorem State.modArray_tags (r : Nat) (f : ArrayB → ArrayB) : (s.modArray r f).tags = s.tags := rfl
@[simp] theorem State.modArray_reqs (r : Nat) (f : ArrayB → ArrayB) : (s.modArray r f).reqs = s.reqs := rfl
@[simp] theorem State.modArray_exitMsgs (r : Nat) (f : ArrayB → ArrayB) : (s.modArray r f).exitMsgs = s.exitMsgs := rfl
@[simp] theorem State.modArray_caches (r : Nat) (f : ArrayB → ArrayB) : (s.modArray r f).caches = s.caches := rfl
@[simp] theorem State.modArray_sent (r : Nat) (f : ArrayB → ArrayB) : (s.modArray r f).sent = s.sent := rfl
@[simp] theorem State.modArray_colls (r : Nat) (f : ArrayB → ArrayB) : (s.modArray r f).colls = s.colls := rfl
@[simp] theorem State.modArray_insts (r : Nat) (f : ArrayB → ArrayB) : (s.modArray r f).insts = s.insts := rfl
@[simp] theorem State.modArray_keptEnds (r : Nat) (f : ArrayB → ArrayB) : (s.modArray r f).keptEnds = s.keptEnds := rfl
@[simp] theorem State.modArray_attics (r : Nat) (f : ArrayB → ArrayB) : (s.modArray r f).attics = s.attics := rfl
@[simp] theorem State.modArray_regqs (r : Nat) (f : ArrayB → ArrayB) : (s.modArray r f).regqs = s.regqs := rfl
@[simp] theorem State.modArray_avus (r : Nat) (f : ArrayB → ArrayB) : (s.modArray r f).avus = s.avus := rfl
@[simp] theorem State.modArray_trees (r : Nat) (f : ArrayB → ArrayB) : (s.modArray r f).trees = s.trees := rfl
@[simp] theorem State.modArray_dws (r : Nat) (f : ArrayB → ArrayB) : (s.modArray r f).dws = s.dws := rfl
@[simp] theorem State.modArray_dwOrder (r : Nat) (f : ArrayB → ArrayB) : (s.modArray r f).dwOrder = s.dwOrder := rfl
@[simp] theorem State.modArray_wings (r : Nat) (f : ArrayB → ArrayB) : (s.modArray r f).wings = s.wings := rfl
@[simp] theorem State.modArray_halls (r : Nat) (f : ArrayB → ArrayB) : (s.modArray r f).halls = s.halls := rfl
@[simp] theorem State.modArray_modules (r : Nat) (f : ArrayB → ArrayB) : (s.modArray r f).modules = s.modules := rfl
@[simp] theorem State.modArray_dies (r : Nat) (f : ArrayB → ArrayB) : (s.modArray r f).dies = s.dies := rfl
@[simp] theorem State.modArray_idBlocks (r : Nat) (f : ArrayB → ArrayB) : (s.modArray r f).idBlocks = s.idBlocks := rfl
@[simp] theorem State.modArray_links (r : Nat) (f : ArrayB → ArrayB) : (s.modArray r f).links = s.links := rfl
@[simp] theorem State.modArray_fabric (r : Nat) (f : ArrayB → ArrayB) : (s.modArray r f).fabric = s.fabric := rfl
@[simp] theorem State.modArray_bootCount (r : Nat) (f : ArrayB → ArrayB) : (s.modArray r f).bootCount = s.bootCount := rfl
@[simp] theorem State.modArray_absentDevs (r : Nat) (f : ArrayB → ArrayB) : (s.modArray r f).absentDevs = s.absentDevs := rfl
@[simp] theorem State.modArray_mailboxes (r : Nat) (f : ArrayB → ArrayB) : (s.modArray r f).mailboxes = s.mailboxes := rfl
@[simp] theorem State.modArray_doors (r : Nat) (f : ArrayB → ArrayB) : (s.modArray r f).doors = s.doors := rfl
@[simp] theorem State.modArray_sqs (r : Nat) (f : ArrayB → ArrayB) : (s.modArray r f).sqs = s.sqs := rfl
@[simp] theorem State.modArray_cqs (r : Nat) (f : ArrayB → ArrayB) : (s.modArray r f).cqs = s.cqs := rfl
@[simp] theorem State.modArray_descs (r : Nat) (f : ArrayB → ArrayB) : (s.modArray r f).descs = s.descs := rfl
@[simp] theorem State.modArray_nextDesc (r : Nat) (f : ArrayB → ArrayB) : (s.modArray r f).nextDesc = s.nextDesc := rfl
@[simp] theorem State.modArray_completions (r : Nat) (f : ArrayB → ArrayB) : (s.modArray r f).completions = s.completions := rfl
@[simp] theorem State.modArray_jobs (r : Nat) (f : ArrayB → ArrayB) : (s.modArray r f).jobs = s.jobs := rfl
@[simp] theorem State.modArray_errRings (r : Nat) (f : ArrayB → ArrayB) : (s.modArray r f).errRings = s.errRings := rfl
@[simp] theorem State.modArray_wingLogs (r : Nat) (f : ArrayB → ArrayB) : (s.modArray r f).wingLogs = s.wingLogs := rfl
@[simp] theorem State.modArray_errInFlight (r : Nat) (f : ArrayB → ArrayB) : (s.modArray r f).errInFlight = s.errInFlight := rfl
@[simp] theorem State.modArray_deviceLog (r : Nat) (f : ArrayB → ArrayB) : (s.modArray r f).deviceLog = s.deviceLog := rfl
@[simp] theorem State.modArray_flashLog (r : Nat) (f : ArrayB → ArrayB) : (s.modArray r f).flashLog = s.flashLog := rfl
@[simp] theorem State.modArray_deviceSeq (r : Nat) (f : ArrayB → ArrayB) : (s.modArray r f).deviceSeq = s.deviceSeq := rfl
@[simp] theorem State.modArray_ceWindows (r : Nat) (f : ArrayB → ArrayB) : (s.modArray r f).ceWindows = s.ceWindows := rfl
@[simp] theorem State.modArray_power (r : Nat) (f : ArrayB → ArrayB) : (s.modArray r f).power = s.power := rfl
@[simp] theorem State.modArray_therm (r : Nat) (f : ArrayB → ArrayB) : (s.modArray r f).therm = s.therm := rfl
@[simp] theorem State.modArray_boot (r : Nat) (f : ArrayB → ArrayB) : (s.modArray r f).boot = s.boot := rfl
@[simp] theorem State.modArray_aon (r : Nat) (f : ArrayB → ArrayB) : (s.modArray r f).aon = s.aon := rfl
@[simp] theorem State.modArray_flash (r : Nat) (f : ArrayB → ArrayB) : (s.modArray r f).flash = s.flash := rfl
@[simp] theorem State.modArray_flashLogs (r : Nat) (f : ArrayB → ArrayB) : (s.modArray r f).flashLogs = s.flashLogs := rfl
@[simp] theorem State.modArray_plan (r : Nat) (f : ArrayB → ArrayB) : (s.modArray r f).plan = s.plan := rfl
@[simp] theorem State.modArray_planGen (r : Nat) (f : ArrayB → ArrayB) : (s.modArray r f).planGen = s.planGen := rfl
@[simp] theorem State.modArray_planTime (r : Nat) (f : ArrayB → ArrayB) : (s.modArray r f).planTime = s.planTime := rfl
@[simp] theorem State.modArray_live (r : Nat) (f : ArrayB → ArrayB) : (s.modArray r f).live = s.live := rfl
@[simp] theorem State.modArray_mailboxStudy (r : Nat) (f : ArrayB → ArrayB) : (s.modArray r f).mailboxStudy = s.mailboxStudy := rfl
@[simp] theorem State.modArray_remaps (r : Nat) (f : ArrayB → ArrayB) : (s.modArray r f).remaps = s.remaps := rfl
@[simp] theorem State.modArray_test (r : Nat) (f : ArrayB → ArrayB) : (s.modArray r f).test = s.test := rfl
@[simp] theorem State.modArray_pcies (r : Nat) (f : ArrayB → ArrayB) : (s.modArray r f).pcies = s.pcies := rfl
@[simp] theorem State.modArray_guards (r : Nat) (f : ArrayB → ArrayB) : (s.modArray r f).guards = s.guards := rfl

@[simp] theorem State.modAttic_pending (r : Nat) (f : AtticB → AtticB) : (s.modAttic r f).pending = s.pending := rfl
@[simp] theorem State.modAttic_fuses (r : Nat) (f : AtticB → AtticB) : (s.modAttic r f).fuses = s.fuses := rfl
@[simp] theorem State.modAttic_devId (r : Nat) (f : AtticB → AtticB) : (s.modAttic r f).devId = s.devId := rfl
@[simp] theorem State.modAttic_now (r : Nat) (f : AtticB → AtticB) : (s.modAttic r f).now = s.now := rfl
@[simp] theorem State.modAttic_free (r : Nat) (f : AtticB → AtticB) : (s.modAttic r f).free = s.free := rfl
@[simp] theorem State.modAttic_mem (r : Nat) (f : AtticB → AtticB) : (s.modAttic r f).mem = s.mem := rfl
@[simp] theorem State.modAttic_poison (r : Nat) (f : AtticB → AtticB) : (s.modAttic r f).poison = s.poison := rfl
@[simp] theorem State.modAttic_regs (r : Nat) (f : AtticB → AtticB) : (s.modAttic r f).regs = s.regs := rfl
@[simp] theorem State.modAttic_harts (r : Nat) (f : AtticB → AtticB) : (s.modAttic r f).harts = s.harts := rfl
@[simp] theorem State.modAttic_rooms (r : Nat) (f : AtticB → AtticB) : (s.modAttic r f).rooms = s.rooms := rfl
@[simp] theorem State.modAttic_tags (r : Nat) (f : AtticB → AtticB) : (s.modAttic r f).tags = s.tags := rfl
@[simp] theorem State.modAttic_reqs (r : Nat) (f : AtticB → AtticB) : (s.modAttic r f).reqs = s.reqs := rfl
@[simp] theorem State.modAttic_exitMsgs (r : Nat) (f : AtticB → AtticB) : (s.modAttic r f).exitMsgs = s.exitMsgs := rfl
@[simp] theorem State.modAttic_caches (r : Nat) (f : AtticB → AtticB) : (s.modAttic r f).caches = s.caches := rfl
@[simp] theorem State.modAttic_sent (r : Nat) (f : AtticB → AtticB) : (s.modAttic r f).sent = s.sent := rfl
@[simp] theorem State.modAttic_colls (r : Nat) (f : AtticB → AtticB) : (s.modAttic r f).colls = s.colls := rfl
@[simp] theorem State.modAttic_insts (r : Nat) (f : AtticB → AtticB) : (s.modAttic r f).insts = s.insts := rfl
@[simp] theorem State.modAttic_keptEnds (r : Nat) (f : AtticB → AtticB) : (s.modAttic r f).keptEnds = s.keptEnds := rfl
@[simp] theorem State.modAttic_arrays (r : Nat) (f : AtticB → AtticB) : (s.modAttic r f).arrays = s.arrays := rfl
@[simp] theorem State.modAttic_regqs (r : Nat) (f : AtticB → AtticB) : (s.modAttic r f).regqs = s.regqs := rfl
@[simp] theorem State.modAttic_avus (r : Nat) (f : AtticB → AtticB) : (s.modAttic r f).avus = s.avus := rfl
@[simp] theorem State.modAttic_trees (r : Nat) (f : AtticB → AtticB) : (s.modAttic r f).trees = s.trees := rfl
@[simp] theorem State.modAttic_dws (r : Nat) (f : AtticB → AtticB) : (s.modAttic r f).dws = s.dws := rfl
@[simp] theorem State.modAttic_dwOrder (r : Nat) (f : AtticB → AtticB) : (s.modAttic r f).dwOrder = s.dwOrder := rfl
@[simp] theorem State.modAttic_wings (r : Nat) (f : AtticB → AtticB) : (s.modAttic r f).wings = s.wings := rfl
@[simp] theorem State.modAttic_halls (r : Nat) (f : AtticB → AtticB) : (s.modAttic r f).halls = s.halls := rfl
@[simp] theorem State.modAttic_modules (r : Nat) (f : AtticB → AtticB) : (s.modAttic r f).modules = s.modules := rfl
@[simp] theorem State.modAttic_dies (r : Nat) (f : AtticB → AtticB) : (s.modAttic r f).dies = s.dies := rfl
@[simp] theorem State.modAttic_idBlocks (r : Nat) (f : AtticB → AtticB) : (s.modAttic r f).idBlocks = s.idBlocks := rfl
@[simp] theorem State.modAttic_links (r : Nat) (f : AtticB → AtticB) : (s.modAttic r f).links = s.links := rfl
@[simp] theorem State.modAttic_fabric (r : Nat) (f : AtticB → AtticB) : (s.modAttic r f).fabric = s.fabric := rfl
@[simp] theorem State.modAttic_bootCount (r : Nat) (f : AtticB → AtticB) : (s.modAttic r f).bootCount = s.bootCount := rfl
@[simp] theorem State.modAttic_absentDevs (r : Nat) (f : AtticB → AtticB) : (s.modAttic r f).absentDevs = s.absentDevs := rfl
@[simp] theorem State.modAttic_mailboxes (r : Nat) (f : AtticB → AtticB) : (s.modAttic r f).mailboxes = s.mailboxes := rfl
@[simp] theorem State.modAttic_doors (r : Nat) (f : AtticB → AtticB) : (s.modAttic r f).doors = s.doors := rfl
@[simp] theorem State.modAttic_sqs (r : Nat) (f : AtticB → AtticB) : (s.modAttic r f).sqs = s.sqs := rfl
@[simp] theorem State.modAttic_cqs (r : Nat) (f : AtticB → AtticB) : (s.modAttic r f).cqs = s.cqs := rfl
@[simp] theorem State.modAttic_descs (r : Nat) (f : AtticB → AtticB) : (s.modAttic r f).descs = s.descs := rfl
@[simp] theorem State.modAttic_nextDesc (r : Nat) (f : AtticB → AtticB) : (s.modAttic r f).nextDesc = s.nextDesc := rfl
@[simp] theorem State.modAttic_completions (r : Nat) (f : AtticB → AtticB) : (s.modAttic r f).completions = s.completions := rfl
@[simp] theorem State.modAttic_jobs (r : Nat) (f : AtticB → AtticB) : (s.modAttic r f).jobs = s.jobs := rfl
@[simp] theorem State.modAttic_errRings (r : Nat) (f : AtticB → AtticB) : (s.modAttic r f).errRings = s.errRings := rfl
@[simp] theorem State.modAttic_wingLogs (r : Nat) (f : AtticB → AtticB) : (s.modAttic r f).wingLogs = s.wingLogs := rfl
@[simp] theorem State.modAttic_errInFlight (r : Nat) (f : AtticB → AtticB) : (s.modAttic r f).errInFlight = s.errInFlight := rfl
@[simp] theorem State.modAttic_deviceLog (r : Nat) (f : AtticB → AtticB) : (s.modAttic r f).deviceLog = s.deviceLog := rfl
@[simp] theorem State.modAttic_flashLog (r : Nat) (f : AtticB → AtticB) : (s.modAttic r f).flashLog = s.flashLog := rfl
@[simp] theorem State.modAttic_deviceSeq (r : Nat) (f : AtticB → AtticB) : (s.modAttic r f).deviceSeq = s.deviceSeq := rfl
@[simp] theorem State.modAttic_ceWindows (r : Nat) (f : AtticB → AtticB) : (s.modAttic r f).ceWindows = s.ceWindows := rfl
@[simp] theorem State.modAttic_power (r : Nat) (f : AtticB → AtticB) : (s.modAttic r f).power = s.power := rfl
@[simp] theorem State.modAttic_therm (r : Nat) (f : AtticB → AtticB) : (s.modAttic r f).therm = s.therm := rfl
@[simp] theorem State.modAttic_boot (r : Nat) (f : AtticB → AtticB) : (s.modAttic r f).boot = s.boot := rfl
@[simp] theorem State.modAttic_aon (r : Nat) (f : AtticB → AtticB) : (s.modAttic r f).aon = s.aon := rfl
@[simp] theorem State.modAttic_flash (r : Nat) (f : AtticB → AtticB) : (s.modAttic r f).flash = s.flash := rfl
@[simp] theorem State.modAttic_flashLogs (r : Nat) (f : AtticB → AtticB) : (s.modAttic r f).flashLogs = s.flashLogs := rfl
@[simp] theorem State.modAttic_plan (r : Nat) (f : AtticB → AtticB) : (s.modAttic r f).plan = s.plan := rfl
@[simp] theorem State.modAttic_planGen (r : Nat) (f : AtticB → AtticB) : (s.modAttic r f).planGen = s.planGen := rfl
@[simp] theorem State.modAttic_planTime (r : Nat) (f : AtticB → AtticB) : (s.modAttic r f).planTime = s.planTime := rfl
@[simp] theorem State.modAttic_live (r : Nat) (f : AtticB → AtticB) : (s.modAttic r f).live = s.live := rfl
@[simp] theorem State.modAttic_mailboxStudy (r : Nat) (f : AtticB → AtticB) : (s.modAttic r f).mailboxStudy = s.mailboxStudy := rfl
@[simp] theorem State.modAttic_remaps (r : Nat) (f : AtticB → AtticB) : (s.modAttic r f).remaps = s.remaps := rfl
@[simp] theorem State.modAttic_test (r : Nat) (f : AtticB → AtticB) : (s.modAttic r f).test = s.test := rfl
@[simp] theorem State.modAttic_pcies (r : Nat) (f : AtticB → AtticB) : (s.modAttic r f).pcies = s.pcies := rfl
@[simp] theorem State.modAttic_guards (r : Nat) (f : AtticB → AtticB) : (s.modAttic r f).guards = s.guards := rfl

@[simp] theorem State.modAvu_pending (r : Nat) (f : AvuB → AvuB) : (s.modAvu r f).pending = s.pending := rfl
@[simp] theorem State.modAvu_fuses (r : Nat) (f : AvuB → AvuB) : (s.modAvu r f).fuses = s.fuses := rfl
@[simp] theorem State.modAvu_devId (r : Nat) (f : AvuB → AvuB) : (s.modAvu r f).devId = s.devId := rfl
@[simp] theorem State.modAvu_now (r : Nat) (f : AvuB → AvuB) : (s.modAvu r f).now = s.now := rfl
@[simp] theorem State.modAvu_free (r : Nat) (f : AvuB → AvuB) : (s.modAvu r f).free = s.free := rfl
@[simp] theorem State.modAvu_mem (r : Nat) (f : AvuB → AvuB) : (s.modAvu r f).mem = s.mem := rfl
@[simp] theorem State.modAvu_poison (r : Nat) (f : AvuB → AvuB) : (s.modAvu r f).poison = s.poison := rfl
@[simp] theorem State.modAvu_regs (r : Nat) (f : AvuB → AvuB) : (s.modAvu r f).regs = s.regs := rfl
@[simp] theorem State.modAvu_harts (r : Nat) (f : AvuB → AvuB) : (s.modAvu r f).harts = s.harts := rfl
@[simp] theorem State.modAvu_rooms (r : Nat) (f : AvuB → AvuB) : (s.modAvu r f).rooms = s.rooms := rfl
@[simp] theorem State.modAvu_tags (r : Nat) (f : AvuB → AvuB) : (s.modAvu r f).tags = s.tags := rfl
@[simp] theorem State.modAvu_reqs (r : Nat) (f : AvuB → AvuB) : (s.modAvu r f).reqs = s.reqs := rfl
@[simp] theorem State.modAvu_exitMsgs (r : Nat) (f : AvuB → AvuB) : (s.modAvu r f).exitMsgs = s.exitMsgs := rfl
@[simp] theorem State.modAvu_caches (r : Nat) (f : AvuB → AvuB) : (s.modAvu r f).caches = s.caches := rfl
@[simp] theorem State.modAvu_sent (r : Nat) (f : AvuB → AvuB) : (s.modAvu r f).sent = s.sent := rfl
@[simp] theorem State.modAvu_colls (r : Nat) (f : AvuB → AvuB) : (s.modAvu r f).colls = s.colls := rfl
@[simp] theorem State.modAvu_insts (r : Nat) (f : AvuB → AvuB) : (s.modAvu r f).insts = s.insts := rfl
@[simp] theorem State.modAvu_keptEnds (r : Nat) (f : AvuB → AvuB) : (s.modAvu r f).keptEnds = s.keptEnds := rfl
@[simp] theorem State.modAvu_arrays (r : Nat) (f : AvuB → AvuB) : (s.modAvu r f).arrays = s.arrays := rfl
@[simp] theorem State.modAvu_attics (r : Nat) (f : AvuB → AvuB) : (s.modAvu r f).attics = s.attics := rfl
@[simp] theorem State.modAvu_regqs (r : Nat) (f : AvuB → AvuB) : (s.modAvu r f).regqs = s.regqs := rfl
@[simp] theorem State.modAvu_trees (r : Nat) (f : AvuB → AvuB) : (s.modAvu r f).trees = s.trees := rfl
@[simp] theorem State.modAvu_dws (r : Nat) (f : AvuB → AvuB) : (s.modAvu r f).dws = s.dws := rfl
@[simp] theorem State.modAvu_dwOrder (r : Nat) (f : AvuB → AvuB) : (s.modAvu r f).dwOrder = s.dwOrder := rfl
@[simp] theorem State.modAvu_wings (r : Nat) (f : AvuB → AvuB) : (s.modAvu r f).wings = s.wings := rfl
@[simp] theorem State.modAvu_halls (r : Nat) (f : AvuB → AvuB) : (s.modAvu r f).halls = s.halls := rfl
@[simp] theorem State.modAvu_modules (r : Nat) (f : AvuB → AvuB) : (s.modAvu r f).modules = s.modules := rfl
@[simp] theorem State.modAvu_dies (r : Nat) (f : AvuB → AvuB) : (s.modAvu r f).dies = s.dies := rfl
@[simp] theorem State.modAvu_idBlocks (r : Nat) (f : AvuB → AvuB) : (s.modAvu r f).idBlocks = s.idBlocks := rfl
@[simp] theorem State.modAvu_links (r : Nat) (f : AvuB → AvuB) : (s.modAvu r f).links = s.links := rfl
@[simp] theorem State.modAvu_fabric (r : Nat) (f : AvuB → AvuB) : (s.modAvu r f).fabric = s.fabric := rfl
@[simp] theorem State.modAvu_bootCount (r : Nat) (f : AvuB → AvuB) : (s.modAvu r f).bootCount = s.bootCount := rfl
@[simp] theorem State.modAvu_absentDevs (r : Nat) (f : AvuB → AvuB) : (s.modAvu r f).absentDevs = s.absentDevs := rfl
@[simp] theorem State.modAvu_mailboxes (r : Nat) (f : AvuB → AvuB) : (s.modAvu r f).mailboxes = s.mailboxes := rfl
@[simp] theorem State.modAvu_doors (r : Nat) (f : AvuB → AvuB) : (s.modAvu r f).doors = s.doors := rfl
@[simp] theorem State.modAvu_sqs (r : Nat) (f : AvuB → AvuB) : (s.modAvu r f).sqs = s.sqs := rfl
@[simp] theorem State.modAvu_cqs (r : Nat) (f : AvuB → AvuB) : (s.modAvu r f).cqs = s.cqs := rfl
@[simp] theorem State.modAvu_descs (r : Nat) (f : AvuB → AvuB) : (s.modAvu r f).descs = s.descs := rfl
@[simp] theorem State.modAvu_nextDesc (r : Nat) (f : AvuB → AvuB) : (s.modAvu r f).nextDesc = s.nextDesc := rfl
@[simp] theorem State.modAvu_completions (r : Nat) (f : AvuB → AvuB) : (s.modAvu r f).completions = s.completions := rfl
@[simp] theorem State.modAvu_jobs (r : Nat) (f : AvuB → AvuB) : (s.modAvu r f).jobs = s.jobs := rfl
@[simp] theorem State.modAvu_errRings (r : Nat) (f : AvuB → AvuB) : (s.modAvu r f).errRings = s.errRings := rfl
@[simp] theorem State.modAvu_wingLogs (r : Nat) (f : AvuB → AvuB) : (s.modAvu r f).wingLogs = s.wingLogs := rfl
@[simp] theorem State.modAvu_errInFlight (r : Nat) (f : AvuB → AvuB) : (s.modAvu r f).errInFlight = s.errInFlight := rfl
@[simp] theorem State.modAvu_deviceLog (r : Nat) (f : AvuB → AvuB) : (s.modAvu r f).deviceLog = s.deviceLog := rfl
@[simp] theorem State.modAvu_flashLog (r : Nat) (f : AvuB → AvuB) : (s.modAvu r f).flashLog = s.flashLog := rfl
@[simp] theorem State.modAvu_deviceSeq (r : Nat) (f : AvuB → AvuB) : (s.modAvu r f).deviceSeq = s.deviceSeq := rfl
@[simp] theorem State.modAvu_ceWindows (r : Nat) (f : AvuB → AvuB) : (s.modAvu r f).ceWindows = s.ceWindows := rfl
@[simp] theorem State.modAvu_power (r : Nat) (f : AvuB → AvuB) : (s.modAvu r f).power = s.power := rfl
@[simp] theorem State.modAvu_therm (r : Nat) (f : AvuB → AvuB) : (s.modAvu r f).therm = s.therm := rfl
@[simp] theorem State.modAvu_boot (r : Nat) (f : AvuB → AvuB) : (s.modAvu r f).boot = s.boot := rfl
@[simp] theorem State.modAvu_aon (r : Nat) (f : AvuB → AvuB) : (s.modAvu r f).aon = s.aon := rfl
@[simp] theorem State.modAvu_flash (r : Nat) (f : AvuB → AvuB) : (s.modAvu r f).flash = s.flash := rfl
@[simp] theorem State.modAvu_flashLogs (r : Nat) (f : AvuB → AvuB) : (s.modAvu r f).flashLogs = s.flashLogs := rfl
@[simp] theorem State.modAvu_plan (r : Nat) (f : AvuB → AvuB) : (s.modAvu r f).plan = s.plan := rfl
@[simp] theorem State.modAvu_planGen (r : Nat) (f : AvuB → AvuB) : (s.modAvu r f).planGen = s.planGen := rfl
@[simp] theorem State.modAvu_planTime (r : Nat) (f : AvuB → AvuB) : (s.modAvu r f).planTime = s.planTime := rfl
@[simp] theorem State.modAvu_live (r : Nat) (f : AvuB → AvuB) : (s.modAvu r f).live = s.live := rfl
@[simp] theorem State.modAvu_mailboxStudy (r : Nat) (f : AvuB → AvuB) : (s.modAvu r f).mailboxStudy = s.mailboxStudy := rfl
@[simp] theorem State.modAvu_remaps (r : Nat) (f : AvuB → AvuB) : (s.modAvu r f).remaps = s.remaps := rfl
@[simp] theorem State.modAvu_test (r : Nat) (f : AvuB → AvuB) : (s.modAvu r f).test = s.test := rfl
@[simp] theorem State.modAvu_pcies (r : Nat) (f : AvuB → AvuB) : (s.modAvu r f).pcies = s.pcies := rfl
@[simp] theorem State.modAvu_guards (r : Nat) (f : AvuB → AvuB) : (s.modAvu r f).guards = s.guards := rfl

@[simp] theorem State.modTree_pending (r : Nat) (f : TreeB → TreeB) : (s.modTree r f).pending = s.pending := rfl
@[simp] theorem State.modTree_fuses (r : Nat) (f : TreeB → TreeB) : (s.modTree r f).fuses = s.fuses := rfl
@[simp] theorem State.modTree_devId (r : Nat) (f : TreeB → TreeB) : (s.modTree r f).devId = s.devId := rfl
@[simp] theorem State.modTree_now (r : Nat) (f : TreeB → TreeB) : (s.modTree r f).now = s.now := rfl
@[simp] theorem State.modTree_free (r : Nat) (f : TreeB → TreeB) : (s.modTree r f).free = s.free := rfl
@[simp] theorem State.modTree_mem (r : Nat) (f : TreeB → TreeB) : (s.modTree r f).mem = s.mem := rfl
@[simp] theorem State.modTree_poison (r : Nat) (f : TreeB → TreeB) : (s.modTree r f).poison = s.poison := rfl
@[simp] theorem State.modTree_regs (r : Nat) (f : TreeB → TreeB) : (s.modTree r f).regs = s.regs := rfl
@[simp] theorem State.modTree_harts (r : Nat) (f : TreeB → TreeB) : (s.modTree r f).harts = s.harts := rfl
@[simp] theorem State.modTree_rooms (r : Nat) (f : TreeB → TreeB) : (s.modTree r f).rooms = s.rooms := rfl
@[simp] theorem State.modTree_tags (r : Nat) (f : TreeB → TreeB) : (s.modTree r f).tags = s.tags := rfl
@[simp] theorem State.modTree_reqs (r : Nat) (f : TreeB → TreeB) : (s.modTree r f).reqs = s.reqs := rfl
@[simp] theorem State.modTree_exitMsgs (r : Nat) (f : TreeB → TreeB) : (s.modTree r f).exitMsgs = s.exitMsgs := rfl
@[simp] theorem State.modTree_caches (r : Nat) (f : TreeB → TreeB) : (s.modTree r f).caches = s.caches := rfl
@[simp] theorem State.modTree_sent (r : Nat) (f : TreeB → TreeB) : (s.modTree r f).sent = s.sent := rfl
@[simp] theorem State.modTree_colls (r : Nat) (f : TreeB → TreeB) : (s.modTree r f).colls = s.colls := rfl
@[simp] theorem State.modTree_insts (r : Nat) (f : TreeB → TreeB) : (s.modTree r f).insts = s.insts := rfl
@[simp] theorem State.modTree_keptEnds (r : Nat) (f : TreeB → TreeB) : (s.modTree r f).keptEnds = s.keptEnds := rfl
@[simp] theorem State.modTree_arrays (r : Nat) (f : TreeB → TreeB) : (s.modTree r f).arrays = s.arrays := rfl
@[simp] theorem State.modTree_attics (r : Nat) (f : TreeB → TreeB) : (s.modTree r f).attics = s.attics := rfl
@[simp] theorem State.modTree_regqs (r : Nat) (f : TreeB → TreeB) : (s.modTree r f).regqs = s.regqs := rfl
@[simp] theorem State.modTree_avus (r : Nat) (f : TreeB → TreeB) : (s.modTree r f).avus = s.avus := rfl
@[simp] theorem State.modTree_dws (r : Nat) (f : TreeB → TreeB) : (s.modTree r f).dws = s.dws := rfl
@[simp] theorem State.modTree_dwOrder (r : Nat) (f : TreeB → TreeB) : (s.modTree r f).dwOrder = s.dwOrder := rfl
@[simp] theorem State.modTree_wings (r : Nat) (f : TreeB → TreeB) : (s.modTree r f).wings = s.wings := rfl
@[simp] theorem State.modTree_halls (r : Nat) (f : TreeB → TreeB) : (s.modTree r f).halls = s.halls := rfl
@[simp] theorem State.modTree_modules (r : Nat) (f : TreeB → TreeB) : (s.modTree r f).modules = s.modules := rfl
@[simp] theorem State.modTree_dies (r : Nat) (f : TreeB → TreeB) : (s.modTree r f).dies = s.dies := rfl
@[simp] theorem State.modTree_idBlocks (r : Nat) (f : TreeB → TreeB) : (s.modTree r f).idBlocks = s.idBlocks := rfl
@[simp] theorem State.modTree_links (r : Nat) (f : TreeB → TreeB) : (s.modTree r f).links = s.links := rfl
@[simp] theorem State.modTree_fabric (r : Nat) (f : TreeB → TreeB) : (s.modTree r f).fabric = s.fabric := rfl
@[simp] theorem State.modTree_bootCount (r : Nat) (f : TreeB → TreeB) : (s.modTree r f).bootCount = s.bootCount := rfl
@[simp] theorem State.modTree_absentDevs (r : Nat) (f : TreeB → TreeB) : (s.modTree r f).absentDevs = s.absentDevs := rfl
@[simp] theorem State.modTree_mailboxes (r : Nat) (f : TreeB → TreeB) : (s.modTree r f).mailboxes = s.mailboxes := rfl
@[simp] theorem State.modTree_doors (r : Nat) (f : TreeB → TreeB) : (s.modTree r f).doors = s.doors := rfl
@[simp] theorem State.modTree_sqs (r : Nat) (f : TreeB → TreeB) : (s.modTree r f).sqs = s.sqs := rfl
@[simp] theorem State.modTree_cqs (r : Nat) (f : TreeB → TreeB) : (s.modTree r f).cqs = s.cqs := rfl
@[simp] theorem State.modTree_descs (r : Nat) (f : TreeB → TreeB) : (s.modTree r f).descs = s.descs := rfl
@[simp] theorem State.modTree_nextDesc (r : Nat) (f : TreeB → TreeB) : (s.modTree r f).nextDesc = s.nextDesc := rfl
@[simp] theorem State.modTree_completions (r : Nat) (f : TreeB → TreeB) : (s.modTree r f).completions = s.completions := rfl
@[simp] theorem State.modTree_jobs (r : Nat) (f : TreeB → TreeB) : (s.modTree r f).jobs = s.jobs := rfl
@[simp] theorem State.modTree_errRings (r : Nat) (f : TreeB → TreeB) : (s.modTree r f).errRings = s.errRings := rfl
@[simp] theorem State.modTree_wingLogs (r : Nat) (f : TreeB → TreeB) : (s.modTree r f).wingLogs = s.wingLogs := rfl
@[simp] theorem State.modTree_errInFlight (r : Nat) (f : TreeB → TreeB) : (s.modTree r f).errInFlight = s.errInFlight := rfl
@[simp] theorem State.modTree_deviceLog (r : Nat) (f : TreeB → TreeB) : (s.modTree r f).deviceLog = s.deviceLog := rfl
@[simp] theorem State.modTree_flashLog (r : Nat) (f : TreeB → TreeB) : (s.modTree r f).flashLog = s.flashLog := rfl
@[simp] theorem State.modTree_deviceSeq (r : Nat) (f : TreeB → TreeB) : (s.modTree r f).deviceSeq = s.deviceSeq := rfl
@[simp] theorem State.modTree_ceWindows (r : Nat) (f : TreeB → TreeB) : (s.modTree r f).ceWindows = s.ceWindows := rfl
@[simp] theorem State.modTree_power (r : Nat) (f : TreeB → TreeB) : (s.modTree r f).power = s.power := rfl
@[simp] theorem State.modTree_therm (r : Nat) (f : TreeB → TreeB) : (s.modTree r f).therm = s.therm := rfl
@[simp] theorem State.modTree_boot (r : Nat) (f : TreeB → TreeB) : (s.modTree r f).boot = s.boot := rfl
@[simp] theorem State.modTree_aon (r : Nat) (f : TreeB → TreeB) : (s.modTree r f).aon = s.aon := rfl
@[simp] theorem State.modTree_flash (r : Nat) (f : TreeB → TreeB) : (s.modTree r f).flash = s.flash := rfl
@[simp] theorem State.modTree_flashLogs (r : Nat) (f : TreeB → TreeB) : (s.modTree r f).flashLogs = s.flashLogs := rfl
@[simp] theorem State.modTree_plan (r : Nat) (f : TreeB → TreeB) : (s.modTree r f).plan = s.plan := rfl
@[simp] theorem State.modTree_planGen (r : Nat) (f : TreeB → TreeB) : (s.modTree r f).planGen = s.planGen := rfl
@[simp] theorem State.modTree_planTime (r : Nat) (f : TreeB → TreeB) : (s.modTree r f).planTime = s.planTime := rfl
@[simp] theorem State.modTree_live (r : Nat) (f : TreeB → TreeB) : (s.modTree r f).live = s.live := rfl
@[simp] theorem State.modTree_mailboxStudy (r : Nat) (f : TreeB → TreeB) : (s.modTree r f).mailboxStudy = s.mailboxStudy := rfl
@[simp] theorem State.modTree_remaps (r : Nat) (f : TreeB → TreeB) : (s.modTree r f).remaps = s.remaps := rfl
@[simp] theorem State.modTree_test (r : Nat) (f : TreeB → TreeB) : (s.modTree r f).test = s.test := rfl
@[simp] theorem State.modTree_pcies (r : Nat) (f : TreeB → TreeB) : (s.modTree r f).pcies = s.pcies := rfl
@[simp] theorem State.modTree_guards (r : Nat) (f : TreeB → TreeB) : (s.modTree r f).guards = s.guards := rfl

@[simp] theorem State.modDoor_pending (d : Nat) (f : Door → Door) : (s.modDoor d f).pending = s.pending := rfl
@[simp] theorem State.modDoor_fuses (d : Nat) (f : Door → Door) : (s.modDoor d f).fuses = s.fuses := rfl
@[simp] theorem State.modDoor_devId (d : Nat) (f : Door → Door) : (s.modDoor d f).devId = s.devId := rfl
@[simp] theorem State.modDoor_now (d : Nat) (f : Door → Door) : (s.modDoor d f).now = s.now := rfl
@[simp] theorem State.modDoor_free (d : Nat) (f : Door → Door) : (s.modDoor d f).free = s.free := rfl
@[simp] theorem State.modDoor_mem (d : Nat) (f : Door → Door) : (s.modDoor d f).mem = s.mem := rfl
@[simp] theorem State.modDoor_poison (d : Nat) (f : Door → Door) : (s.modDoor d f).poison = s.poison := rfl
@[simp] theorem State.modDoor_regs (d : Nat) (f : Door → Door) : (s.modDoor d f).regs = s.regs := rfl
@[simp] theorem State.modDoor_harts (d : Nat) (f : Door → Door) : (s.modDoor d f).harts = s.harts := rfl
@[simp] theorem State.modDoor_rooms (d : Nat) (f : Door → Door) : (s.modDoor d f).rooms = s.rooms := rfl
@[simp] theorem State.modDoor_tags (d : Nat) (f : Door → Door) : (s.modDoor d f).tags = s.tags := rfl
@[simp] theorem State.modDoor_reqs (d : Nat) (f : Door → Door) : (s.modDoor d f).reqs = s.reqs := rfl
@[simp] theorem State.modDoor_exitMsgs (d : Nat) (f : Door → Door) : (s.modDoor d f).exitMsgs = s.exitMsgs := rfl
@[simp] theorem State.modDoor_caches (d : Nat) (f : Door → Door) : (s.modDoor d f).caches = s.caches := rfl
@[simp] theorem State.modDoor_sent (d : Nat) (f : Door → Door) : (s.modDoor d f).sent = s.sent := rfl
@[simp] theorem State.modDoor_colls (d : Nat) (f : Door → Door) : (s.modDoor d f).colls = s.colls := rfl
@[simp] theorem State.modDoor_insts (d : Nat) (f : Door → Door) : (s.modDoor d f).insts = s.insts := rfl
@[simp] theorem State.modDoor_keptEnds (d : Nat) (f : Door → Door) : (s.modDoor d f).keptEnds = s.keptEnds := rfl
@[simp] theorem State.modDoor_arrays (d : Nat) (f : Door → Door) : (s.modDoor d f).arrays = s.arrays := rfl
@[simp] theorem State.modDoor_attics (d : Nat) (f : Door → Door) : (s.modDoor d f).attics = s.attics := rfl
@[simp] theorem State.modDoor_regqs (d : Nat) (f : Door → Door) : (s.modDoor d f).regqs = s.regqs := rfl
@[simp] theorem State.modDoor_avus (d : Nat) (f : Door → Door) : (s.modDoor d f).avus = s.avus := rfl
@[simp] theorem State.modDoor_trees (d : Nat) (f : Door → Door) : (s.modDoor d f).trees = s.trees := rfl
@[simp] theorem State.modDoor_dws (d : Nat) (f : Door → Door) : (s.modDoor d f).dws = s.dws := rfl
@[simp] theorem State.modDoor_dwOrder (d : Nat) (f : Door → Door) : (s.modDoor d f).dwOrder = s.dwOrder := rfl
@[simp] theorem State.modDoor_wings (d : Nat) (f : Door → Door) : (s.modDoor d f).wings = s.wings := rfl
@[simp] theorem State.modDoor_halls (d : Nat) (f : Door → Door) : (s.modDoor d f).halls = s.halls := rfl
@[simp] theorem State.modDoor_modules (d : Nat) (f : Door → Door) : (s.modDoor d f).modules = s.modules := rfl
@[simp] theorem State.modDoor_dies (d : Nat) (f : Door → Door) : (s.modDoor d f).dies = s.dies := rfl
@[simp] theorem State.modDoor_idBlocks (d : Nat) (f : Door → Door) : (s.modDoor d f).idBlocks = s.idBlocks := rfl
@[simp] theorem State.modDoor_links (d : Nat) (f : Door → Door) : (s.modDoor d f).links = s.links := rfl
@[simp] theorem State.modDoor_fabric (d : Nat) (f : Door → Door) : (s.modDoor d f).fabric = s.fabric := rfl
@[simp] theorem State.modDoor_bootCount (d : Nat) (f : Door → Door) : (s.modDoor d f).bootCount = s.bootCount := rfl
@[simp] theorem State.modDoor_absentDevs (d : Nat) (f : Door → Door) : (s.modDoor d f).absentDevs = s.absentDevs := rfl
@[simp] theorem State.modDoor_mailboxes (d : Nat) (f : Door → Door) : (s.modDoor d f).mailboxes = s.mailboxes := rfl
@[simp] theorem State.modDoor_sqs (d : Nat) (f : Door → Door) : (s.modDoor d f).sqs = s.sqs := rfl
@[simp] theorem State.modDoor_cqs (d : Nat) (f : Door → Door) : (s.modDoor d f).cqs = s.cqs := rfl
@[simp] theorem State.modDoor_descs (d : Nat) (f : Door → Door) : (s.modDoor d f).descs = s.descs := rfl
@[simp] theorem State.modDoor_nextDesc (d : Nat) (f : Door → Door) : (s.modDoor d f).nextDesc = s.nextDesc := rfl
@[simp] theorem State.modDoor_completions (d : Nat) (f : Door → Door) : (s.modDoor d f).completions = s.completions := rfl
@[simp] theorem State.modDoor_jobs (d : Nat) (f : Door → Door) : (s.modDoor d f).jobs = s.jobs := rfl
@[simp] theorem State.modDoor_errRings (d : Nat) (f : Door → Door) : (s.modDoor d f).errRings = s.errRings := rfl
@[simp] theorem State.modDoor_wingLogs (d : Nat) (f : Door → Door) : (s.modDoor d f).wingLogs = s.wingLogs := rfl
@[simp] theorem State.modDoor_errInFlight (d : Nat) (f : Door → Door) : (s.modDoor d f).errInFlight = s.errInFlight := rfl
@[simp] theorem State.modDoor_deviceLog (d : Nat) (f : Door → Door) : (s.modDoor d f).deviceLog = s.deviceLog := rfl
@[simp] theorem State.modDoor_flashLog (d : Nat) (f : Door → Door) : (s.modDoor d f).flashLog = s.flashLog := rfl
@[simp] theorem State.modDoor_deviceSeq (d : Nat) (f : Door → Door) : (s.modDoor d f).deviceSeq = s.deviceSeq := rfl
@[simp] theorem State.modDoor_ceWindows (d : Nat) (f : Door → Door) : (s.modDoor d f).ceWindows = s.ceWindows := rfl
@[simp] theorem State.modDoor_power (d : Nat) (f : Door → Door) : (s.modDoor d f).power = s.power := rfl
@[simp] theorem State.modDoor_therm (d : Nat) (f : Door → Door) : (s.modDoor d f).therm = s.therm := rfl
@[simp] theorem State.modDoor_boot (d : Nat) (f : Door → Door) : (s.modDoor d f).boot = s.boot := rfl
@[simp] theorem State.modDoor_aon (d : Nat) (f : Door → Door) : (s.modDoor d f).aon = s.aon := rfl
@[simp] theorem State.modDoor_flash (d : Nat) (f : Door → Door) : (s.modDoor d f).flash = s.flash := rfl
@[simp] theorem State.modDoor_flashLogs (d : Nat) (f : Door → Door) : (s.modDoor d f).flashLogs = s.flashLogs := rfl
@[simp] theorem State.modDoor_plan (d : Nat) (f : Door → Door) : (s.modDoor d f).plan = s.plan := rfl
@[simp] theorem State.modDoor_planGen (d : Nat) (f : Door → Door) : (s.modDoor d f).planGen = s.planGen := rfl
@[simp] theorem State.modDoor_planTime (d : Nat) (f : Door → Door) : (s.modDoor d f).planTime = s.planTime := rfl
@[simp] theorem State.modDoor_live (d : Nat) (f : Door → Door) : (s.modDoor d f).live = s.live := rfl
@[simp] theorem State.modDoor_mailboxStudy (d : Nat) (f : Door → Door) : (s.modDoor d f).mailboxStudy = s.mailboxStudy := rfl
@[simp] theorem State.modDoor_remaps (d : Nat) (f : Door → Door) : (s.modDoor d f).remaps = s.remaps := rfl
@[simp] theorem State.modDoor_test (d : Nat) (f : Door → Door) : (s.modDoor d f).test = s.test := rfl
@[simp] theorem State.modDoor_pcies (d : Nat) (f : Door → Door) : (s.modDoor d f).pcies = s.pcies := rfl
@[simp] theorem State.modDoor_guards (d : Nat) (f : Door → Door) : (s.modDoor d f).guards = s.guards := rfl

@[simp] theorem State.modSq_pending (q : Nat) (f : SubRing → SubRing) : (s.modSq q f).pending = s.pending := rfl
@[simp] theorem State.modSq_fuses (q : Nat) (f : SubRing → SubRing) : (s.modSq q f).fuses = s.fuses := rfl
@[simp] theorem State.modSq_devId (q : Nat) (f : SubRing → SubRing) : (s.modSq q f).devId = s.devId := rfl
@[simp] theorem State.modSq_now (q : Nat) (f : SubRing → SubRing) : (s.modSq q f).now = s.now := rfl
@[simp] theorem State.modSq_free (q : Nat) (f : SubRing → SubRing) : (s.modSq q f).free = s.free := rfl
@[simp] theorem State.modSq_mem (q : Nat) (f : SubRing → SubRing) : (s.modSq q f).mem = s.mem := rfl
@[simp] theorem State.modSq_poison (q : Nat) (f : SubRing → SubRing) : (s.modSq q f).poison = s.poison := rfl
@[simp] theorem State.modSq_regs (q : Nat) (f : SubRing → SubRing) : (s.modSq q f).regs = s.regs := rfl
@[simp] theorem State.modSq_harts (q : Nat) (f : SubRing → SubRing) : (s.modSq q f).harts = s.harts := rfl
@[simp] theorem State.modSq_rooms (q : Nat) (f : SubRing → SubRing) : (s.modSq q f).rooms = s.rooms := rfl
@[simp] theorem State.modSq_tags (q : Nat) (f : SubRing → SubRing) : (s.modSq q f).tags = s.tags := rfl
@[simp] theorem State.modSq_reqs (q : Nat) (f : SubRing → SubRing) : (s.modSq q f).reqs = s.reqs := rfl
@[simp] theorem State.modSq_exitMsgs (q : Nat) (f : SubRing → SubRing) : (s.modSq q f).exitMsgs = s.exitMsgs := rfl
@[simp] theorem State.modSq_caches (q : Nat) (f : SubRing → SubRing) : (s.modSq q f).caches = s.caches := rfl
@[simp] theorem State.modSq_sent (q : Nat) (f : SubRing → SubRing) : (s.modSq q f).sent = s.sent := rfl
@[simp] theorem State.modSq_colls (q : Nat) (f : SubRing → SubRing) : (s.modSq q f).colls = s.colls := rfl
@[simp] theorem State.modSq_insts (q : Nat) (f : SubRing → SubRing) : (s.modSq q f).insts = s.insts := rfl
@[simp] theorem State.modSq_keptEnds (q : Nat) (f : SubRing → SubRing) : (s.modSq q f).keptEnds = s.keptEnds := rfl
@[simp] theorem State.modSq_arrays (q : Nat) (f : SubRing → SubRing) : (s.modSq q f).arrays = s.arrays := rfl
@[simp] theorem State.modSq_attics (q : Nat) (f : SubRing → SubRing) : (s.modSq q f).attics = s.attics := rfl
@[simp] theorem State.modSq_regqs (q : Nat) (f : SubRing → SubRing) : (s.modSq q f).regqs = s.regqs := rfl
@[simp] theorem State.modSq_avus (q : Nat) (f : SubRing → SubRing) : (s.modSq q f).avus = s.avus := rfl
@[simp] theorem State.modSq_trees (q : Nat) (f : SubRing → SubRing) : (s.modSq q f).trees = s.trees := rfl
@[simp] theorem State.modSq_dws (q : Nat) (f : SubRing → SubRing) : (s.modSq q f).dws = s.dws := rfl
@[simp] theorem State.modSq_dwOrder (q : Nat) (f : SubRing → SubRing) : (s.modSq q f).dwOrder = s.dwOrder := rfl
@[simp] theorem State.modSq_wings (q : Nat) (f : SubRing → SubRing) : (s.modSq q f).wings = s.wings := rfl
@[simp] theorem State.modSq_halls (q : Nat) (f : SubRing → SubRing) : (s.modSq q f).halls = s.halls := rfl
@[simp] theorem State.modSq_modules (q : Nat) (f : SubRing → SubRing) : (s.modSq q f).modules = s.modules := rfl
@[simp] theorem State.modSq_dies (q : Nat) (f : SubRing → SubRing) : (s.modSq q f).dies = s.dies := rfl
@[simp] theorem State.modSq_idBlocks (q : Nat) (f : SubRing → SubRing) : (s.modSq q f).idBlocks = s.idBlocks := rfl
@[simp] theorem State.modSq_links (q : Nat) (f : SubRing → SubRing) : (s.modSq q f).links = s.links := rfl
@[simp] theorem State.modSq_fabric (q : Nat) (f : SubRing → SubRing) : (s.modSq q f).fabric = s.fabric := rfl
@[simp] theorem State.modSq_bootCount (q : Nat) (f : SubRing → SubRing) : (s.modSq q f).bootCount = s.bootCount := rfl
@[simp] theorem State.modSq_absentDevs (q : Nat) (f : SubRing → SubRing) : (s.modSq q f).absentDevs = s.absentDevs := rfl
@[simp] theorem State.modSq_mailboxes (q : Nat) (f : SubRing → SubRing) : (s.modSq q f).mailboxes = s.mailboxes := rfl
@[simp] theorem State.modSq_doors (q : Nat) (f : SubRing → SubRing) : (s.modSq q f).doors = s.doors := rfl
@[simp] theorem State.modSq_cqs (q : Nat) (f : SubRing → SubRing) : (s.modSq q f).cqs = s.cqs := rfl
@[simp] theorem State.modSq_descs (q : Nat) (f : SubRing → SubRing) : (s.modSq q f).descs = s.descs := rfl
@[simp] theorem State.modSq_nextDesc (q : Nat) (f : SubRing → SubRing) : (s.modSq q f).nextDesc = s.nextDesc := rfl
@[simp] theorem State.modSq_completions (q : Nat) (f : SubRing → SubRing) : (s.modSq q f).completions = s.completions := rfl
@[simp] theorem State.modSq_jobs (q : Nat) (f : SubRing → SubRing) : (s.modSq q f).jobs = s.jobs := rfl
@[simp] theorem State.modSq_errRings (q : Nat) (f : SubRing → SubRing) : (s.modSq q f).errRings = s.errRings := rfl
@[simp] theorem State.modSq_wingLogs (q : Nat) (f : SubRing → SubRing) : (s.modSq q f).wingLogs = s.wingLogs := rfl
@[simp] theorem State.modSq_errInFlight (q : Nat) (f : SubRing → SubRing) : (s.modSq q f).errInFlight = s.errInFlight := rfl
@[simp] theorem State.modSq_deviceLog (q : Nat) (f : SubRing → SubRing) : (s.modSq q f).deviceLog = s.deviceLog := rfl
@[simp] theorem State.modSq_flashLog (q : Nat) (f : SubRing → SubRing) : (s.modSq q f).flashLog = s.flashLog := rfl
@[simp] theorem State.modSq_deviceSeq (q : Nat) (f : SubRing → SubRing) : (s.modSq q f).deviceSeq = s.deviceSeq := rfl
@[simp] theorem State.modSq_ceWindows (q : Nat) (f : SubRing → SubRing) : (s.modSq q f).ceWindows = s.ceWindows := rfl
@[simp] theorem State.modSq_power (q : Nat) (f : SubRing → SubRing) : (s.modSq q f).power = s.power := rfl
@[simp] theorem State.modSq_therm (q : Nat) (f : SubRing → SubRing) : (s.modSq q f).therm = s.therm := rfl
@[simp] theorem State.modSq_boot (q : Nat) (f : SubRing → SubRing) : (s.modSq q f).boot = s.boot := rfl
@[simp] theorem State.modSq_aon (q : Nat) (f : SubRing → SubRing) : (s.modSq q f).aon = s.aon := rfl
@[simp] theorem State.modSq_flash (q : Nat) (f : SubRing → SubRing) : (s.modSq q f).flash = s.flash := rfl
@[simp] theorem State.modSq_flashLogs (q : Nat) (f : SubRing → SubRing) : (s.modSq q f).flashLogs = s.flashLogs := rfl
@[simp] theorem State.modSq_plan (q : Nat) (f : SubRing → SubRing) : (s.modSq q f).plan = s.plan := rfl
@[simp] theorem State.modSq_planGen (q : Nat) (f : SubRing → SubRing) : (s.modSq q f).planGen = s.planGen := rfl
@[simp] theorem State.modSq_planTime (q : Nat) (f : SubRing → SubRing) : (s.modSq q f).planTime = s.planTime := rfl
@[simp] theorem State.modSq_live (q : Nat) (f : SubRing → SubRing) : (s.modSq q f).live = s.live := rfl
@[simp] theorem State.modSq_mailboxStudy (q : Nat) (f : SubRing → SubRing) : (s.modSq q f).mailboxStudy = s.mailboxStudy := rfl
@[simp] theorem State.modSq_remaps (q : Nat) (f : SubRing → SubRing) : (s.modSq q f).remaps = s.remaps := rfl
@[simp] theorem State.modSq_test (q : Nat) (f : SubRing → SubRing) : (s.modSq q f).test = s.test := rfl
@[simp] theorem State.modSq_pcies (q : Nat) (f : SubRing → SubRing) : (s.modSq q f).pcies = s.pcies := rfl
@[simp] theorem State.modSq_guards (q : Nat) (f : SubRing → SubRing) : (s.modSq q f).guards = s.guards := rfl

@[simp] theorem State.modCq_pending (c : Nat) (f : ComRing → ComRing) : (s.modCq c f).pending = s.pending := rfl
@[simp] theorem State.modCq_fuses (c : Nat) (f : ComRing → ComRing) : (s.modCq c f).fuses = s.fuses := rfl
@[simp] theorem State.modCq_devId (c : Nat) (f : ComRing → ComRing) : (s.modCq c f).devId = s.devId := rfl
@[simp] theorem State.modCq_now (c : Nat) (f : ComRing → ComRing) : (s.modCq c f).now = s.now := rfl
@[simp] theorem State.modCq_free (c : Nat) (f : ComRing → ComRing) : (s.modCq c f).free = s.free := rfl
@[simp] theorem State.modCq_mem (c : Nat) (f : ComRing → ComRing) : (s.modCq c f).mem = s.mem := rfl
@[simp] theorem State.modCq_poison (c : Nat) (f : ComRing → ComRing) : (s.modCq c f).poison = s.poison := rfl
@[simp] theorem State.modCq_regs (c : Nat) (f : ComRing → ComRing) : (s.modCq c f).regs = s.regs := rfl
@[simp] theorem State.modCq_harts (c : Nat) (f : ComRing → ComRing) : (s.modCq c f).harts = s.harts := rfl
@[simp] theorem State.modCq_rooms (c : Nat) (f : ComRing → ComRing) : (s.modCq c f).rooms = s.rooms := rfl
@[simp] theorem State.modCq_tags (c : Nat) (f : ComRing → ComRing) : (s.modCq c f).tags = s.tags := rfl
@[simp] theorem State.modCq_reqs (c : Nat) (f : ComRing → ComRing) : (s.modCq c f).reqs = s.reqs := rfl
@[simp] theorem State.modCq_exitMsgs (c : Nat) (f : ComRing → ComRing) : (s.modCq c f).exitMsgs = s.exitMsgs := rfl
@[simp] theorem State.modCq_caches (c : Nat) (f : ComRing → ComRing) : (s.modCq c f).caches = s.caches := rfl
@[simp] theorem State.modCq_sent (c : Nat) (f : ComRing → ComRing) : (s.modCq c f).sent = s.sent := rfl
@[simp] theorem State.modCq_colls (c : Nat) (f : ComRing → ComRing) : (s.modCq c f).colls = s.colls := rfl
@[simp] theorem State.modCq_insts (c : Nat) (f : ComRing → ComRing) : (s.modCq c f).insts = s.insts := rfl
@[simp] theorem State.modCq_keptEnds (c : Nat) (f : ComRing → ComRing) : (s.modCq c f).keptEnds = s.keptEnds := rfl
@[simp] theorem State.modCq_arrays (c : Nat) (f : ComRing → ComRing) : (s.modCq c f).arrays = s.arrays := rfl
@[simp] theorem State.modCq_attics (c : Nat) (f : ComRing → ComRing) : (s.modCq c f).attics = s.attics := rfl
@[simp] theorem State.modCq_regqs (c : Nat) (f : ComRing → ComRing) : (s.modCq c f).regqs = s.regqs := rfl
@[simp] theorem State.modCq_avus (c : Nat) (f : ComRing → ComRing) : (s.modCq c f).avus = s.avus := rfl
@[simp] theorem State.modCq_trees (c : Nat) (f : ComRing → ComRing) : (s.modCq c f).trees = s.trees := rfl
@[simp] theorem State.modCq_dws (c : Nat) (f : ComRing → ComRing) : (s.modCq c f).dws = s.dws := rfl
@[simp] theorem State.modCq_dwOrder (c : Nat) (f : ComRing → ComRing) : (s.modCq c f).dwOrder = s.dwOrder := rfl
@[simp] theorem State.modCq_wings (c : Nat) (f : ComRing → ComRing) : (s.modCq c f).wings = s.wings := rfl
@[simp] theorem State.modCq_halls (c : Nat) (f : ComRing → ComRing) : (s.modCq c f).halls = s.halls := rfl
@[simp] theorem State.modCq_modules (c : Nat) (f : ComRing → ComRing) : (s.modCq c f).modules = s.modules := rfl
@[simp] theorem State.modCq_dies (c : Nat) (f : ComRing → ComRing) : (s.modCq c f).dies = s.dies := rfl
@[simp] theorem State.modCq_idBlocks (c : Nat) (f : ComRing → ComRing) : (s.modCq c f).idBlocks = s.idBlocks := rfl
@[simp] theorem State.modCq_links (c : Nat) (f : ComRing → ComRing) : (s.modCq c f).links = s.links := rfl
@[simp] theorem State.modCq_fabric (c : Nat) (f : ComRing → ComRing) : (s.modCq c f).fabric = s.fabric := rfl
@[simp] theorem State.modCq_bootCount (c : Nat) (f : ComRing → ComRing) : (s.modCq c f).bootCount = s.bootCount := rfl
@[simp] theorem State.modCq_absentDevs (c : Nat) (f : ComRing → ComRing) : (s.modCq c f).absentDevs = s.absentDevs := rfl
@[simp] theorem State.modCq_mailboxes (c : Nat) (f : ComRing → ComRing) : (s.modCq c f).mailboxes = s.mailboxes := rfl
@[simp] theorem State.modCq_doors (c : Nat) (f : ComRing → ComRing) : (s.modCq c f).doors = s.doors := rfl
@[simp] theorem State.modCq_sqs (c : Nat) (f : ComRing → ComRing) : (s.modCq c f).sqs = s.sqs := rfl
@[simp] theorem State.modCq_descs (c : Nat) (f : ComRing → ComRing) : (s.modCq c f).descs = s.descs := rfl
@[simp] theorem State.modCq_nextDesc (c : Nat) (f : ComRing → ComRing) : (s.modCq c f).nextDesc = s.nextDesc := rfl
@[simp] theorem State.modCq_completions (c : Nat) (f : ComRing → ComRing) : (s.modCq c f).completions = s.completions := rfl
@[simp] theorem State.modCq_jobs (c : Nat) (f : ComRing → ComRing) : (s.modCq c f).jobs = s.jobs := rfl
@[simp] theorem State.modCq_errRings (c : Nat) (f : ComRing → ComRing) : (s.modCq c f).errRings = s.errRings := rfl
@[simp] theorem State.modCq_wingLogs (c : Nat) (f : ComRing → ComRing) : (s.modCq c f).wingLogs = s.wingLogs := rfl
@[simp] theorem State.modCq_errInFlight (c : Nat) (f : ComRing → ComRing) : (s.modCq c f).errInFlight = s.errInFlight := rfl
@[simp] theorem State.modCq_deviceLog (c : Nat) (f : ComRing → ComRing) : (s.modCq c f).deviceLog = s.deviceLog := rfl
@[simp] theorem State.modCq_flashLog (c : Nat) (f : ComRing → ComRing) : (s.modCq c f).flashLog = s.flashLog := rfl
@[simp] theorem State.modCq_deviceSeq (c : Nat) (f : ComRing → ComRing) : (s.modCq c f).deviceSeq = s.deviceSeq := rfl
@[simp] theorem State.modCq_ceWindows (c : Nat) (f : ComRing → ComRing) : (s.modCq c f).ceWindows = s.ceWindows := rfl
@[simp] theorem State.modCq_power (c : Nat) (f : ComRing → ComRing) : (s.modCq c f).power = s.power := rfl
@[simp] theorem State.modCq_therm (c : Nat) (f : ComRing → ComRing) : (s.modCq c f).therm = s.therm := rfl
@[simp] theorem State.modCq_boot (c : Nat) (f : ComRing → ComRing) : (s.modCq c f).boot = s.boot := rfl
@[simp] theorem State.modCq_aon (c : Nat) (f : ComRing → ComRing) : (s.modCq c f).aon = s.aon := rfl
@[simp] theorem State.modCq_flash (c : Nat) (f : ComRing → ComRing) : (s.modCq c f).flash = s.flash := rfl
@[simp] theorem State.modCq_flashLogs (c : Nat) (f : ComRing → ComRing) : (s.modCq c f).flashLogs = s.flashLogs := rfl
@[simp] theorem State.modCq_plan (c : Nat) (f : ComRing → ComRing) : (s.modCq c f).plan = s.plan := rfl
@[simp] theorem State.modCq_planGen (c : Nat) (f : ComRing → ComRing) : (s.modCq c f).planGen = s.planGen := rfl
@[simp] theorem State.modCq_planTime (c : Nat) (f : ComRing → ComRing) : (s.modCq c f).planTime = s.planTime := rfl
@[simp] theorem State.modCq_live (c : Nat) (f : ComRing → ComRing) : (s.modCq c f).live = s.live := rfl
@[simp] theorem State.modCq_mailboxStudy (c : Nat) (f : ComRing → ComRing) : (s.modCq c f).mailboxStudy = s.mailboxStudy := rfl
@[simp] theorem State.modCq_remaps (c : Nat) (f : ComRing → ComRing) : (s.modCq c f).remaps = s.remaps := rfl
@[simp] theorem State.modCq_test (c : Nat) (f : ComRing → ComRing) : (s.modCq c f).test = s.test := rfl
@[simp] theorem State.modCq_pcies (c : Nat) (f : ComRing → ComRing) : (s.modCq c f).pcies = s.pcies := rfl
@[simp] theorem State.modCq_guards (c : Nat) (f : ComRing → ComRing) : (s.modCq c f).guards = s.guards := rfl

@[simp] theorem State.modDw_pending (k : Nat) (f : DwChan → DwChan) : (s.modDw k f).pending = s.pending := rfl
@[simp] theorem State.modDw_fuses (k : Nat) (f : DwChan → DwChan) : (s.modDw k f).fuses = s.fuses := rfl
@[simp] theorem State.modDw_devId (k : Nat) (f : DwChan → DwChan) : (s.modDw k f).devId = s.devId := rfl
@[simp] theorem State.modDw_now (k : Nat) (f : DwChan → DwChan) : (s.modDw k f).now = s.now := rfl
@[simp] theorem State.modDw_free (k : Nat) (f : DwChan → DwChan) : (s.modDw k f).free = s.free := rfl
@[simp] theorem State.modDw_mem (k : Nat) (f : DwChan → DwChan) : (s.modDw k f).mem = s.mem := rfl
@[simp] theorem State.modDw_poison (k : Nat) (f : DwChan → DwChan) : (s.modDw k f).poison = s.poison := rfl
@[simp] theorem State.modDw_regs (k : Nat) (f : DwChan → DwChan) : (s.modDw k f).regs = s.regs := rfl
@[simp] theorem State.modDw_harts (k : Nat) (f : DwChan → DwChan) : (s.modDw k f).harts = s.harts := rfl
@[simp] theorem State.modDw_rooms (k : Nat) (f : DwChan → DwChan) : (s.modDw k f).rooms = s.rooms := rfl
@[simp] theorem State.modDw_tags (k : Nat) (f : DwChan → DwChan) : (s.modDw k f).tags = s.tags := rfl
@[simp] theorem State.modDw_reqs (k : Nat) (f : DwChan → DwChan) : (s.modDw k f).reqs = s.reqs := rfl
@[simp] theorem State.modDw_exitMsgs (k : Nat) (f : DwChan → DwChan) : (s.modDw k f).exitMsgs = s.exitMsgs := rfl
@[simp] theorem State.modDw_caches (k : Nat) (f : DwChan → DwChan) : (s.modDw k f).caches = s.caches := rfl
@[simp] theorem State.modDw_sent (k : Nat) (f : DwChan → DwChan) : (s.modDw k f).sent = s.sent := rfl
@[simp] theorem State.modDw_colls (k : Nat) (f : DwChan → DwChan) : (s.modDw k f).colls = s.colls := rfl
@[simp] theorem State.modDw_insts (k : Nat) (f : DwChan → DwChan) : (s.modDw k f).insts = s.insts := rfl
@[simp] theorem State.modDw_keptEnds (k : Nat) (f : DwChan → DwChan) : (s.modDw k f).keptEnds = s.keptEnds := rfl
@[simp] theorem State.modDw_arrays (k : Nat) (f : DwChan → DwChan) : (s.modDw k f).arrays = s.arrays := rfl
@[simp] theorem State.modDw_attics (k : Nat) (f : DwChan → DwChan) : (s.modDw k f).attics = s.attics := rfl
@[simp] theorem State.modDw_regqs (k : Nat) (f : DwChan → DwChan) : (s.modDw k f).regqs = s.regqs := rfl
@[simp] theorem State.modDw_avus (k : Nat) (f : DwChan → DwChan) : (s.modDw k f).avus = s.avus := rfl
@[simp] theorem State.modDw_trees (k : Nat) (f : DwChan → DwChan) : (s.modDw k f).trees = s.trees := rfl
@[simp] theorem State.modDw_dwOrder (k : Nat) (f : DwChan → DwChan) : (s.modDw k f).dwOrder = s.dwOrder := rfl
@[simp] theorem State.modDw_wings (k : Nat) (f : DwChan → DwChan) : (s.modDw k f).wings = s.wings := rfl
@[simp] theorem State.modDw_halls (k : Nat) (f : DwChan → DwChan) : (s.modDw k f).halls = s.halls := rfl
@[simp] theorem State.modDw_modules (k : Nat) (f : DwChan → DwChan) : (s.modDw k f).modules = s.modules := rfl
@[simp] theorem State.modDw_dies (k : Nat) (f : DwChan → DwChan) : (s.modDw k f).dies = s.dies := rfl
@[simp] theorem State.modDw_idBlocks (k : Nat) (f : DwChan → DwChan) : (s.modDw k f).idBlocks = s.idBlocks := rfl
@[simp] theorem State.modDw_links (k : Nat) (f : DwChan → DwChan) : (s.modDw k f).links = s.links := rfl
@[simp] theorem State.modDw_fabric (k : Nat) (f : DwChan → DwChan) : (s.modDw k f).fabric = s.fabric := rfl
@[simp] theorem State.modDw_bootCount (k : Nat) (f : DwChan → DwChan) : (s.modDw k f).bootCount = s.bootCount := rfl
@[simp] theorem State.modDw_absentDevs (k : Nat) (f : DwChan → DwChan) : (s.modDw k f).absentDevs = s.absentDevs := rfl
@[simp] theorem State.modDw_mailboxes (k : Nat) (f : DwChan → DwChan) : (s.modDw k f).mailboxes = s.mailboxes := rfl
@[simp] theorem State.modDw_doors (k : Nat) (f : DwChan → DwChan) : (s.modDw k f).doors = s.doors := rfl
@[simp] theorem State.modDw_sqs (k : Nat) (f : DwChan → DwChan) : (s.modDw k f).sqs = s.sqs := rfl
@[simp] theorem State.modDw_cqs (k : Nat) (f : DwChan → DwChan) : (s.modDw k f).cqs = s.cqs := rfl
@[simp] theorem State.modDw_descs (k : Nat) (f : DwChan → DwChan) : (s.modDw k f).descs = s.descs := rfl
@[simp] theorem State.modDw_nextDesc (k : Nat) (f : DwChan → DwChan) : (s.modDw k f).nextDesc = s.nextDesc := rfl
@[simp] theorem State.modDw_completions (k : Nat) (f : DwChan → DwChan) : (s.modDw k f).completions = s.completions := rfl
@[simp] theorem State.modDw_jobs (k : Nat) (f : DwChan → DwChan) : (s.modDw k f).jobs = s.jobs := rfl
@[simp] theorem State.modDw_errRings (k : Nat) (f : DwChan → DwChan) : (s.modDw k f).errRings = s.errRings := rfl
@[simp] theorem State.modDw_wingLogs (k : Nat) (f : DwChan → DwChan) : (s.modDw k f).wingLogs = s.wingLogs := rfl
@[simp] theorem State.modDw_errInFlight (k : Nat) (f : DwChan → DwChan) : (s.modDw k f).errInFlight = s.errInFlight := rfl
@[simp] theorem State.modDw_deviceLog (k : Nat) (f : DwChan → DwChan) : (s.modDw k f).deviceLog = s.deviceLog := rfl
@[simp] theorem State.modDw_flashLog (k : Nat) (f : DwChan → DwChan) : (s.modDw k f).flashLog = s.flashLog := rfl
@[simp] theorem State.modDw_deviceSeq (k : Nat) (f : DwChan → DwChan) : (s.modDw k f).deviceSeq = s.deviceSeq := rfl
@[simp] theorem State.modDw_ceWindows (k : Nat) (f : DwChan → DwChan) : (s.modDw k f).ceWindows = s.ceWindows := rfl
@[simp] theorem State.modDw_power (k : Nat) (f : DwChan → DwChan) : (s.modDw k f).power = s.power := rfl
@[simp] theorem State.modDw_therm (k : Nat) (f : DwChan → DwChan) : (s.modDw k f).therm = s.therm := rfl
@[simp] theorem State.modDw_boot (k : Nat) (f : DwChan → DwChan) : (s.modDw k f).boot = s.boot := rfl
@[simp] theorem State.modDw_aon (k : Nat) (f : DwChan → DwChan) : (s.modDw k f).aon = s.aon := rfl
@[simp] theorem State.modDw_flash (k : Nat) (f : DwChan → DwChan) : (s.modDw k f).flash = s.flash := rfl
@[simp] theorem State.modDw_flashLogs (k : Nat) (f : DwChan → DwChan) : (s.modDw k f).flashLogs = s.flashLogs := rfl
@[simp] theorem State.modDw_plan (k : Nat) (f : DwChan → DwChan) : (s.modDw k f).plan = s.plan := rfl
@[simp] theorem State.modDw_planGen (k : Nat) (f : DwChan → DwChan) : (s.modDw k f).planGen = s.planGen := rfl
@[simp] theorem State.modDw_planTime (k : Nat) (f : DwChan → DwChan) : (s.modDw k f).planTime = s.planTime := rfl
@[simp] theorem State.modDw_live (k : Nat) (f : DwChan → DwChan) : (s.modDw k f).live = s.live := rfl
@[simp] theorem State.modDw_mailboxStudy (k : Nat) (f : DwChan → DwChan) : (s.modDw k f).mailboxStudy = s.mailboxStudy := rfl
@[simp] theorem State.modDw_remaps (k : Nat) (f : DwChan → DwChan) : (s.modDw k f).remaps = s.remaps := rfl
@[simp] theorem State.modDw_test (k : Nat) (f : DwChan → DwChan) : (s.modDw k f).test = s.test := rfl
@[simp] theorem State.modDw_pcies (k : Nat) (f : DwChan → DwChan) : (s.modDw k f).pcies = s.pcies := rfl
@[simp] theorem State.modDw_guards (k : Nat) (f : DwChan → DwChan) : (s.modDw k f).guards = s.guards := rfl

@[simp] theorem State.modWing_pending (w : Nat) (f : Wing → Wing) : (s.modWing w f).pending = s.pending := rfl
@[simp] theorem State.modWing_fuses (w : Nat) (f : Wing → Wing) : (s.modWing w f).fuses = s.fuses := rfl
@[simp] theorem State.modWing_devId (w : Nat) (f : Wing → Wing) : (s.modWing w f).devId = s.devId := rfl
@[simp] theorem State.modWing_now (w : Nat) (f : Wing → Wing) : (s.modWing w f).now = s.now := rfl
@[simp] theorem State.modWing_free (w : Nat) (f : Wing → Wing) : (s.modWing w f).free = s.free := rfl
@[simp] theorem State.modWing_mem (w : Nat) (f : Wing → Wing) : (s.modWing w f).mem = s.mem := rfl
@[simp] theorem State.modWing_poison (w : Nat) (f : Wing → Wing) : (s.modWing w f).poison = s.poison := rfl
@[simp] theorem State.modWing_regs (w : Nat) (f : Wing → Wing) : (s.modWing w f).regs = s.regs := rfl
@[simp] theorem State.modWing_harts (w : Nat) (f : Wing → Wing) : (s.modWing w f).harts = s.harts := rfl
@[simp] theorem State.modWing_rooms (w : Nat) (f : Wing → Wing) : (s.modWing w f).rooms = s.rooms := rfl
@[simp] theorem State.modWing_tags (w : Nat) (f : Wing → Wing) : (s.modWing w f).tags = s.tags := rfl
@[simp] theorem State.modWing_reqs (w : Nat) (f : Wing → Wing) : (s.modWing w f).reqs = s.reqs := rfl
@[simp] theorem State.modWing_exitMsgs (w : Nat) (f : Wing → Wing) : (s.modWing w f).exitMsgs = s.exitMsgs := rfl
@[simp] theorem State.modWing_caches (w : Nat) (f : Wing → Wing) : (s.modWing w f).caches = s.caches := rfl
@[simp] theorem State.modWing_sent (w : Nat) (f : Wing → Wing) : (s.modWing w f).sent = s.sent := rfl
@[simp] theorem State.modWing_colls (w : Nat) (f : Wing → Wing) : (s.modWing w f).colls = s.colls := rfl
@[simp] theorem State.modWing_insts (w : Nat) (f : Wing → Wing) : (s.modWing w f).insts = s.insts := rfl
@[simp] theorem State.modWing_keptEnds (w : Nat) (f : Wing → Wing) : (s.modWing w f).keptEnds = s.keptEnds := rfl
@[simp] theorem State.modWing_arrays (w : Nat) (f : Wing → Wing) : (s.modWing w f).arrays = s.arrays := rfl
@[simp] theorem State.modWing_attics (w : Nat) (f : Wing → Wing) : (s.modWing w f).attics = s.attics := rfl
@[simp] theorem State.modWing_regqs (w : Nat) (f : Wing → Wing) : (s.modWing w f).regqs = s.regqs := rfl
@[simp] theorem State.modWing_avus (w : Nat) (f : Wing → Wing) : (s.modWing w f).avus = s.avus := rfl
@[simp] theorem State.modWing_trees (w : Nat) (f : Wing → Wing) : (s.modWing w f).trees = s.trees := rfl
@[simp] theorem State.modWing_dws (w : Nat) (f : Wing → Wing) : (s.modWing w f).dws = s.dws := rfl
@[simp] theorem State.modWing_dwOrder (w : Nat) (f : Wing → Wing) : (s.modWing w f).dwOrder = s.dwOrder := rfl
@[simp] theorem State.modWing_halls (w : Nat) (f : Wing → Wing) : (s.modWing w f).halls = s.halls := rfl
@[simp] theorem State.modWing_modules (w : Nat) (f : Wing → Wing) : (s.modWing w f).modules = s.modules := rfl
@[simp] theorem State.modWing_dies (w : Nat) (f : Wing → Wing) : (s.modWing w f).dies = s.dies := rfl
@[simp] theorem State.modWing_idBlocks (w : Nat) (f : Wing → Wing) : (s.modWing w f).idBlocks = s.idBlocks := rfl
@[simp] theorem State.modWing_links (w : Nat) (f : Wing → Wing) : (s.modWing w f).links = s.links := rfl
@[simp] theorem State.modWing_fabric (w : Nat) (f : Wing → Wing) : (s.modWing w f).fabric = s.fabric := rfl
@[simp] theorem State.modWing_bootCount (w : Nat) (f : Wing → Wing) : (s.modWing w f).bootCount = s.bootCount := rfl
@[simp] theorem State.modWing_absentDevs (w : Nat) (f : Wing → Wing) : (s.modWing w f).absentDevs = s.absentDevs := rfl
@[simp] theorem State.modWing_mailboxes (w : Nat) (f : Wing → Wing) : (s.modWing w f).mailboxes = s.mailboxes := rfl
@[simp] theorem State.modWing_doors (w : Nat) (f : Wing → Wing) : (s.modWing w f).doors = s.doors := rfl
@[simp] theorem State.modWing_sqs (w : Nat) (f : Wing → Wing) : (s.modWing w f).sqs = s.sqs := rfl
@[simp] theorem State.modWing_cqs (w : Nat) (f : Wing → Wing) : (s.modWing w f).cqs = s.cqs := rfl
@[simp] theorem State.modWing_descs (w : Nat) (f : Wing → Wing) : (s.modWing w f).descs = s.descs := rfl
@[simp] theorem State.modWing_nextDesc (w : Nat) (f : Wing → Wing) : (s.modWing w f).nextDesc = s.nextDesc := rfl
@[simp] theorem State.modWing_completions (w : Nat) (f : Wing → Wing) : (s.modWing w f).completions = s.completions := rfl
@[simp] theorem State.modWing_jobs (w : Nat) (f : Wing → Wing) : (s.modWing w f).jobs = s.jobs := rfl
@[simp] theorem State.modWing_errRings (w : Nat) (f : Wing → Wing) : (s.modWing w f).errRings = s.errRings := rfl
@[simp] theorem State.modWing_wingLogs (w : Nat) (f : Wing → Wing) : (s.modWing w f).wingLogs = s.wingLogs := rfl
@[simp] theorem State.modWing_errInFlight (w : Nat) (f : Wing → Wing) : (s.modWing w f).errInFlight = s.errInFlight := rfl
@[simp] theorem State.modWing_deviceLog (w : Nat) (f : Wing → Wing) : (s.modWing w f).deviceLog = s.deviceLog := rfl
@[simp] theorem State.modWing_flashLog (w : Nat) (f : Wing → Wing) : (s.modWing w f).flashLog = s.flashLog := rfl
@[simp] theorem State.modWing_deviceSeq (w : Nat) (f : Wing → Wing) : (s.modWing w f).deviceSeq = s.deviceSeq := rfl
@[simp] theorem State.modWing_ceWindows (w : Nat) (f : Wing → Wing) : (s.modWing w f).ceWindows = s.ceWindows := rfl
@[simp] theorem State.modWing_power (w : Nat) (f : Wing → Wing) : (s.modWing w f).power = s.power := rfl
@[simp] theorem State.modWing_therm (w : Nat) (f : Wing → Wing) : (s.modWing w f).therm = s.therm := rfl
@[simp] theorem State.modWing_boot (w : Nat) (f : Wing → Wing) : (s.modWing w f).boot = s.boot := rfl
@[simp] theorem State.modWing_aon (w : Nat) (f : Wing → Wing) : (s.modWing w f).aon = s.aon := rfl
@[simp] theorem State.modWing_flash (w : Nat) (f : Wing → Wing) : (s.modWing w f).flash = s.flash := rfl
@[simp] theorem State.modWing_flashLogs (w : Nat) (f : Wing → Wing) : (s.modWing w f).flashLogs = s.flashLogs := rfl
@[simp] theorem State.modWing_plan (w : Nat) (f : Wing → Wing) : (s.modWing w f).plan = s.plan := rfl
@[simp] theorem State.modWing_planGen (w : Nat) (f : Wing → Wing) : (s.modWing w f).planGen = s.planGen := rfl
@[simp] theorem State.modWing_planTime (w : Nat) (f : Wing → Wing) : (s.modWing w f).planTime = s.planTime := rfl
@[simp] theorem State.modWing_live (w : Nat) (f : Wing → Wing) : (s.modWing w f).live = s.live := rfl
@[simp] theorem State.modWing_mailboxStudy (w : Nat) (f : Wing → Wing) : (s.modWing w f).mailboxStudy = s.mailboxStudy := rfl
@[simp] theorem State.modWing_remaps (w : Nat) (f : Wing → Wing) : (s.modWing w f).remaps = s.remaps := rfl
@[simp] theorem State.modWing_test (w : Nat) (f : Wing → Wing) : (s.modWing w f).test = s.test := rfl
@[simp] theorem State.modWing_pcies (w : Nat) (f : Wing → Wing) : (s.modWing w f).pcies = s.pcies := rfl
@[simp] theorem State.modWing_guards (w : Nat) (f : Wing → Wing) : (s.modWing w f).guards = s.guards := rfl

@[simp] theorem State.setReg_pending (n : RegName) (i : Nat) (x : W64) : (s.setReg n i x).pending = s.pending := rfl
@[simp] theorem State.setReg_fuses (n : RegName) (i : Nat) (x : W64) : (s.setReg n i x).fuses = s.fuses := rfl
@[simp] theorem State.setReg_devId (n : RegName) (i : Nat) (x : W64) : (s.setReg n i x).devId = s.devId := rfl
@[simp] theorem State.setReg_now (n : RegName) (i : Nat) (x : W64) : (s.setReg n i x).now = s.now := rfl
@[simp] theorem State.setReg_free (n : RegName) (i : Nat) (x : W64) : (s.setReg n i x).free = s.free := rfl
@[simp] theorem State.setReg_mem (n : RegName) (i : Nat) (x : W64) : (s.setReg n i x).mem = s.mem := rfl
@[simp] theorem State.setReg_poison (n : RegName) (i : Nat) (x : W64) : (s.setReg n i x).poison = s.poison := rfl
@[simp] theorem State.setReg_harts (n : RegName) (i : Nat) (x : W64) : (s.setReg n i x).harts = s.harts := rfl
@[simp] theorem State.setReg_rooms (n : RegName) (i : Nat) (x : W64) : (s.setReg n i x).rooms = s.rooms := rfl
@[simp] theorem State.setReg_tags (n : RegName) (i : Nat) (x : W64) : (s.setReg n i x).tags = s.tags := rfl
@[simp] theorem State.setReg_reqs (n : RegName) (i : Nat) (x : W64) : (s.setReg n i x).reqs = s.reqs := rfl
@[simp] theorem State.setReg_exitMsgs (n : RegName) (i : Nat) (x : W64) : (s.setReg n i x).exitMsgs = s.exitMsgs := rfl
@[simp] theorem State.setReg_caches (n : RegName) (i : Nat) (x : W64) : (s.setReg n i x).caches = s.caches := rfl
@[simp] theorem State.setReg_sent (n : RegName) (i : Nat) (x : W64) : (s.setReg n i x).sent = s.sent := rfl
@[simp] theorem State.setReg_colls (n : RegName) (i : Nat) (x : W64) : (s.setReg n i x).colls = s.colls := rfl
@[simp] theorem State.setReg_insts (n : RegName) (i : Nat) (x : W64) : (s.setReg n i x).insts = s.insts := rfl
@[simp] theorem State.setReg_keptEnds (n : RegName) (i : Nat) (x : W64) : (s.setReg n i x).keptEnds = s.keptEnds := rfl
@[simp] theorem State.setReg_arrays (n : RegName) (i : Nat) (x : W64) : (s.setReg n i x).arrays = s.arrays := rfl
@[simp] theorem State.setReg_attics (n : RegName) (i : Nat) (x : W64) : (s.setReg n i x).attics = s.attics := rfl
@[simp] theorem State.setReg_regqs (n : RegName) (i : Nat) (x : W64) : (s.setReg n i x).regqs = s.regqs := rfl
@[simp] theorem State.setReg_avus (n : RegName) (i : Nat) (x : W64) : (s.setReg n i x).avus = s.avus := rfl
@[simp] theorem State.setReg_trees (n : RegName) (i : Nat) (x : W64) : (s.setReg n i x).trees = s.trees := rfl
@[simp] theorem State.setReg_dws (n : RegName) (i : Nat) (x : W64) : (s.setReg n i x).dws = s.dws := rfl
@[simp] theorem State.setReg_dwOrder (n : RegName) (i : Nat) (x : W64) : (s.setReg n i x).dwOrder = s.dwOrder := rfl
@[simp] theorem State.setReg_wings (n : RegName) (i : Nat) (x : W64) : (s.setReg n i x).wings = s.wings := rfl
@[simp] theorem State.setReg_halls (n : RegName) (i : Nat) (x : W64) : (s.setReg n i x).halls = s.halls := rfl
@[simp] theorem State.setReg_modules (n : RegName) (i : Nat) (x : W64) : (s.setReg n i x).modules = s.modules := rfl
@[simp] theorem State.setReg_dies (n : RegName) (i : Nat) (x : W64) : (s.setReg n i x).dies = s.dies := rfl
@[simp] theorem State.setReg_idBlocks (n : RegName) (i : Nat) (x : W64) : (s.setReg n i x).idBlocks = s.idBlocks := rfl
@[simp] theorem State.setReg_links (n : RegName) (i : Nat) (x : W64) : (s.setReg n i x).links = s.links := rfl
@[simp] theorem State.setReg_fabric (n : RegName) (i : Nat) (x : W64) : (s.setReg n i x).fabric = s.fabric := rfl
@[simp] theorem State.setReg_bootCount (n : RegName) (i : Nat) (x : W64) : (s.setReg n i x).bootCount = s.bootCount := rfl
@[simp] theorem State.setReg_absentDevs (n : RegName) (i : Nat) (x : W64) : (s.setReg n i x).absentDevs = s.absentDevs := rfl
@[simp] theorem State.setReg_mailboxes (n : RegName) (i : Nat) (x : W64) : (s.setReg n i x).mailboxes = s.mailboxes := rfl
@[simp] theorem State.setReg_doors (n : RegName) (i : Nat) (x : W64) : (s.setReg n i x).doors = s.doors := rfl
@[simp] theorem State.setReg_sqs (n : RegName) (i : Nat) (x : W64) : (s.setReg n i x).sqs = s.sqs := rfl
@[simp] theorem State.setReg_cqs (n : RegName) (i : Nat) (x : W64) : (s.setReg n i x).cqs = s.cqs := rfl
@[simp] theorem State.setReg_descs (n : RegName) (i : Nat) (x : W64) : (s.setReg n i x).descs = s.descs := rfl
@[simp] theorem State.setReg_nextDesc (n : RegName) (i : Nat) (x : W64) : (s.setReg n i x).nextDesc = s.nextDesc := rfl
@[simp] theorem State.setReg_completions (n : RegName) (i : Nat) (x : W64) : (s.setReg n i x).completions = s.completions := rfl
@[simp] theorem State.setReg_jobs (n : RegName) (i : Nat) (x : W64) : (s.setReg n i x).jobs = s.jobs := rfl
@[simp] theorem State.setReg_errRings (n : RegName) (i : Nat) (x : W64) : (s.setReg n i x).errRings = s.errRings := rfl
@[simp] theorem State.setReg_wingLogs (n : RegName) (i : Nat) (x : W64) : (s.setReg n i x).wingLogs = s.wingLogs := rfl
@[simp] theorem State.setReg_errInFlight (n : RegName) (i : Nat) (x : W64) : (s.setReg n i x).errInFlight = s.errInFlight := rfl
@[simp] theorem State.setReg_deviceLog (n : RegName) (i : Nat) (x : W64) : (s.setReg n i x).deviceLog = s.deviceLog := rfl
@[simp] theorem State.setReg_flashLog (n : RegName) (i : Nat) (x : W64) : (s.setReg n i x).flashLog = s.flashLog := rfl
@[simp] theorem State.setReg_deviceSeq (n : RegName) (i : Nat) (x : W64) : (s.setReg n i x).deviceSeq = s.deviceSeq := rfl
@[simp] theorem State.setReg_ceWindows (n : RegName) (i : Nat) (x : W64) : (s.setReg n i x).ceWindows = s.ceWindows := rfl
@[simp] theorem State.setReg_power (n : RegName) (i : Nat) (x : W64) : (s.setReg n i x).power = s.power := rfl
@[simp] theorem State.setReg_therm (n : RegName) (i : Nat) (x : W64) : (s.setReg n i x).therm = s.therm := rfl
@[simp] theorem State.setReg_boot (n : RegName) (i : Nat) (x : W64) : (s.setReg n i x).boot = s.boot := rfl
@[simp] theorem State.setReg_aon (n : RegName) (i : Nat) (x : W64) : (s.setReg n i x).aon = s.aon := rfl
@[simp] theorem State.setReg_flash (n : RegName) (i : Nat) (x : W64) : (s.setReg n i x).flash = s.flash := rfl
@[simp] theorem State.setReg_flashLogs (n : RegName) (i : Nat) (x : W64) : (s.setReg n i x).flashLogs = s.flashLogs := rfl
@[simp] theorem State.setReg_plan (n : RegName) (i : Nat) (x : W64) : (s.setReg n i x).plan = s.plan := rfl
@[simp] theorem State.setReg_planGen (n : RegName) (i : Nat) (x : W64) : (s.setReg n i x).planGen = s.planGen := rfl
@[simp] theorem State.setReg_planTime (n : RegName) (i : Nat) (x : W64) : (s.setReg n i x).planTime = s.planTime := rfl
@[simp] theorem State.setReg_live (n : RegName) (i : Nat) (x : W64) : (s.setReg n i x).live = s.live := rfl
@[simp] theorem State.setReg_mailboxStudy (n : RegName) (i : Nat) (x : W64) : (s.setReg n i x).mailboxStudy = s.mailboxStudy := rfl
@[simp] theorem State.setReg_remaps (n : RegName) (i : Nat) (x : W64) : (s.setReg n i x).remaps = s.remaps := rfl
@[simp] theorem State.setReg_test (n : RegName) (i : Nat) (x : W64) : (s.setReg n i x).test = s.test := rfl
@[simp] theorem State.setReg_pcies (n : RegName) (i : Nat) (x : W64) : (s.setReg n i x).pcies = s.pcies := rfl
@[simp] theorem State.setReg_guards (n : RegName) (i : Nat) (x : W64) : (s.setReg n i x).guards = s.guards := rfl

@[simp] theorem State.setRegN_pending (n : RegName) (i x : Nat) : (s.setRegN n i x).pending = s.pending := rfl
@[simp] theorem State.setRegN_fuses (n : RegName) (i x : Nat) : (s.setRegN n i x).fuses = s.fuses := rfl
@[simp] theorem State.setRegN_devId (n : RegName) (i x : Nat) : (s.setRegN n i x).devId = s.devId := rfl
@[simp] theorem State.setRegN_now (n : RegName) (i x : Nat) : (s.setRegN n i x).now = s.now := rfl
@[simp] theorem State.setRegN_free (n : RegName) (i x : Nat) : (s.setRegN n i x).free = s.free := rfl
@[simp] theorem State.setRegN_mem (n : RegName) (i x : Nat) : (s.setRegN n i x).mem = s.mem := rfl
@[simp] theorem State.setRegN_poison (n : RegName) (i x : Nat) : (s.setRegN n i x).poison = s.poison := rfl
@[simp] theorem State.setRegN_harts (n : RegName) (i x : Nat) : (s.setRegN n i x).harts = s.harts := rfl
@[simp] theorem State.setRegN_rooms (n : RegName) (i x : Nat) : (s.setRegN n i x).rooms = s.rooms := rfl
@[simp] theorem State.setRegN_tags (n : RegName) (i x : Nat) : (s.setRegN n i x).tags = s.tags := rfl
@[simp] theorem State.setRegN_reqs (n : RegName) (i x : Nat) : (s.setRegN n i x).reqs = s.reqs := rfl
@[simp] theorem State.setRegN_exitMsgs (n : RegName) (i x : Nat) : (s.setRegN n i x).exitMsgs = s.exitMsgs := rfl
@[simp] theorem State.setRegN_caches (n : RegName) (i x : Nat) : (s.setRegN n i x).caches = s.caches := rfl
@[simp] theorem State.setRegN_sent (n : RegName) (i x : Nat) : (s.setRegN n i x).sent = s.sent := rfl
@[simp] theorem State.setRegN_colls (n : RegName) (i x : Nat) : (s.setRegN n i x).colls = s.colls := rfl
@[simp] theorem State.setRegN_insts (n : RegName) (i x : Nat) : (s.setRegN n i x).insts = s.insts := rfl
@[simp] theorem State.setRegN_keptEnds (n : RegName) (i x : Nat) : (s.setRegN n i x).keptEnds = s.keptEnds := rfl
@[simp] theorem State.setRegN_arrays (n : RegName) (i x : Nat) : (s.setRegN n i x).arrays = s.arrays := rfl
@[simp] theorem State.setRegN_attics (n : RegName) (i x : Nat) : (s.setRegN n i x).attics = s.attics := rfl
@[simp] theorem State.setRegN_regqs (n : RegName) (i x : Nat) : (s.setRegN n i x).regqs = s.regqs := rfl
@[simp] theorem State.setRegN_avus (n : RegName) (i x : Nat) : (s.setRegN n i x).avus = s.avus := rfl
@[simp] theorem State.setRegN_trees (n : RegName) (i x : Nat) : (s.setRegN n i x).trees = s.trees := rfl
@[simp] theorem State.setRegN_dws (n : RegName) (i x : Nat) : (s.setRegN n i x).dws = s.dws := rfl
@[simp] theorem State.setRegN_dwOrder (n : RegName) (i x : Nat) : (s.setRegN n i x).dwOrder = s.dwOrder := rfl
@[simp] theorem State.setRegN_wings (n : RegName) (i x : Nat) : (s.setRegN n i x).wings = s.wings := rfl
@[simp] theorem State.setRegN_halls (n : RegName) (i x : Nat) : (s.setRegN n i x).halls = s.halls := rfl
@[simp] theorem State.setRegN_modules (n : RegName) (i x : Nat) : (s.setRegN n i x).modules = s.modules := rfl
@[simp] theorem State.setRegN_dies (n : RegName) (i x : Nat) : (s.setRegN n i x).dies = s.dies := rfl
@[simp] theorem State.setRegN_idBlocks (n : RegName) (i x : Nat) : (s.setRegN n i x).idBlocks = s.idBlocks := rfl
@[simp] theorem State.setRegN_links (n : RegName) (i x : Nat) : (s.setRegN n i x).links = s.links := rfl
@[simp] theorem State.setRegN_fabric (n : RegName) (i x : Nat) : (s.setRegN n i x).fabric = s.fabric := rfl
@[simp] theorem State.setRegN_bootCount (n : RegName) (i x : Nat) : (s.setRegN n i x).bootCount = s.bootCount := rfl
@[simp] theorem State.setRegN_absentDevs (n : RegName) (i x : Nat) : (s.setRegN n i x).absentDevs = s.absentDevs := rfl
@[simp] theorem State.setRegN_mailboxes (n : RegName) (i x : Nat) : (s.setRegN n i x).mailboxes = s.mailboxes := rfl
@[simp] theorem State.setRegN_doors (n : RegName) (i x : Nat) : (s.setRegN n i x).doors = s.doors := rfl
@[simp] theorem State.setRegN_sqs (n : RegName) (i x : Nat) : (s.setRegN n i x).sqs = s.sqs := rfl
@[simp] theorem State.setRegN_cqs (n : RegName) (i x : Nat) : (s.setRegN n i x).cqs = s.cqs := rfl
@[simp] theorem State.setRegN_descs (n : RegName) (i x : Nat) : (s.setRegN n i x).descs = s.descs := rfl
@[simp] theorem State.setRegN_nextDesc (n : RegName) (i x : Nat) : (s.setRegN n i x).nextDesc = s.nextDesc := rfl
@[simp] theorem State.setRegN_completions (n : RegName) (i x : Nat) : (s.setRegN n i x).completions = s.completions := rfl
@[simp] theorem State.setRegN_jobs (n : RegName) (i x : Nat) : (s.setRegN n i x).jobs = s.jobs := rfl
@[simp] theorem State.setRegN_errRings (n : RegName) (i x : Nat) : (s.setRegN n i x).errRings = s.errRings := rfl
@[simp] theorem State.setRegN_wingLogs (n : RegName) (i x : Nat) : (s.setRegN n i x).wingLogs = s.wingLogs := rfl
@[simp] theorem State.setRegN_errInFlight (n : RegName) (i x : Nat) : (s.setRegN n i x).errInFlight = s.errInFlight := rfl
@[simp] theorem State.setRegN_deviceLog (n : RegName) (i x : Nat) : (s.setRegN n i x).deviceLog = s.deviceLog := rfl
@[simp] theorem State.setRegN_flashLog (n : RegName) (i x : Nat) : (s.setRegN n i x).flashLog = s.flashLog := rfl
@[simp] theorem State.setRegN_deviceSeq (n : RegName) (i x : Nat) : (s.setRegN n i x).deviceSeq = s.deviceSeq := rfl
@[simp] theorem State.setRegN_ceWindows (n : RegName) (i x : Nat) : (s.setRegN n i x).ceWindows = s.ceWindows := rfl
@[simp] theorem State.setRegN_power (n : RegName) (i x : Nat) : (s.setRegN n i x).power = s.power := rfl
@[simp] theorem State.setRegN_therm (n : RegName) (i x : Nat) : (s.setRegN n i x).therm = s.therm := rfl
@[simp] theorem State.setRegN_boot (n : RegName) (i x : Nat) : (s.setRegN n i x).boot = s.boot := rfl
@[simp] theorem State.setRegN_aon (n : RegName) (i x : Nat) : (s.setRegN n i x).aon = s.aon := rfl
@[simp] theorem State.setRegN_flash (n : RegName) (i x : Nat) : (s.setRegN n i x).flash = s.flash := rfl
@[simp] theorem State.setRegN_flashLogs (n : RegName) (i x : Nat) : (s.setRegN n i x).flashLogs = s.flashLogs := rfl
@[simp] theorem State.setRegN_plan (n : RegName) (i x : Nat) : (s.setRegN n i x).plan = s.plan := rfl
@[simp] theorem State.setRegN_planGen (n : RegName) (i x : Nat) : (s.setRegN n i x).planGen = s.planGen := rfl
@[simp] theorem State.setRegN_planTime (n : RegName) (i x : Nat) : (s.setRegN n i x).planTime = s.planTime := rfl
@[simp] theorem State.setRegN_live (n : RegName) (i x : Nat) : (s.setRegN n i x).live = s.live := rfl
@[simp] theorem State.setRegN_mailboxStudy (n : RegName) (i x : Nat) : (s.setRegN n i x).mailboxStudy = s.mailboxStudy := rfl
@[simp] theorem State.setRegN_remaps (n : RegName) (i x : Nat) : (s.setRegN n i x).remaps = s.remaps := rfl
@[simp] theorem State.setRegN_test (n : RegName) (i x : Nat) : (s.setRegN n i x).test = s.test := rfl
@[simp] theorem State.setRegN_pcies (n : RegName) (i x : Nat) : (s.setRegN n i x).pcies = s.pcies := rfl
@[simp] theorem State.setRegN_guards (n : RegName) (i x : Nat) : (s.setRegN n i x).guards = s.guards := rfl

@[simp] theorem State.orReg_pending (n : RegName) (i m : Nat) : (s.orReg n i m).pending = s.pending := rfl
@[simp] theorem State.orReg_fuses (n : RegName) (i m : Nat) : (s.orReg n i m).fuses = s.fuses := rfl
@[simp] theorem State.orReg_devId (n : RegName) (i m : Nat) : (s.orReg n i m).devId = s.devId := rfl
@[simp] theorem State.orReg_now (n : RegName) (i m : Nat) : (s.orReg n i m).now = s.now := rfl
@[simp] theorem State.orReg_free (n : RegName) (i m : Nat) : (s.orReg n i m).free = s.free := rfl
@[simp] theorem State.orReg_mem (n : RegName) (i m : Nat) : (s.orReg n i m).mem = s.mem := rfl
@[simp] theorem State.orReg_poison (n : RegName) (i m : Nat) : (s.orReg n i m).poison = s.poison := rfl
@[simp] theorem State.orReg_harts (n : RegName) (i m : Nat) : (s.orReg n i m).harts = s.harts := rfl
@[simp] theorem State.orReg_rooms (n : RegName) (i m : Nat) : (s.orReg n i m).rooms = s.rooms := rfl
@[simp] theorem State.orReg_tags (n : RegName) (i m : Nat) : (s.orReg n i m).tags = s.tags := rfl
@[simp] theorem State.orReg_reqs (n : RegName) (i m : Nat) : (s.orReg n i m).reqs = s.reqs := rfl
@[simp] theorem State.orReg_exitMsgs (n : RegName) (i m : Nat) : (s.orReg n i m).exitMsgs = s.exitMsgs := rfl
@[simp] theorem State.orReg_caches (n : RegName) (i m : Nat) : (s.orReg n i m).caches = s.caches := rfl
@[simp] theorem State.orReg_sent (n : RegName) (i m : Nat) : (s.orReg n i m).sent = s.sent := rfl
@[simp] theorem State.orReg_colls (n : RegName) (i m : Nat) : (s.orReg n i m).colls = s.colls := rfl
@[simp] theorem State.orReg_insts (n : RegName) (i m : Nat) : (s.orReg n i m).insts = s.insts := rfl
@[simp] theorem State.orReg_keptEnds (n : RegName) (i m : Nat) : (s.orReg n i m).keptEnds = s.keptEnds := rfl
@[simp] theorem State.orReg_arrays (n : RegName) (i m : Nat) : (s.orReg n i m).arrays = s.arrays := rfl
@[simp] theorem State.orReg_attics (n : RegName) (i m : Nat) : (s.orReg n i m).attics = s.attics := rfl
@[simp] theorem State.orReg_regqs (n : RegName) (i m : Nat) : (s.orReg n i m).regqs = s.regqs := rfl
@[simp] theorem State.orReg_avus (n : RegName) (i m : Nat) : (s.orReg n i m).avus = s.avus := rfl
@[simp] theorem State.orReg_trees (n : RegName) (i m : Nat) : (s.orReg n i m).trees = s.trees := rfl
@[simp] theorem State.orReg_dws (n : RegName) (i m : Nat) : (s.orReg n i m).dws = s.dws := rfl
@[simp] theorem State.orReg_dwOrder (n : RegName) (i m : Nat) : (s.orReg n i m).dwOrder = s.dwOrder := rfl
@[simp] theorem State.orReg_wings (n : RegName) (i m : Nat) : (s.orReg n i m).wings = s.wings := rfl
@[simp] theorem State.orReg_halls (n : RegName) (i m : Nat) : (s.orReg n i m).halls = s.halls := rfl
@[simp] theorem State.orReg_modules (n : RegName) (i m : Nat) : (s.orReg n i m).modules = s.modules := rfl
@[simp] theorem State.orReg_dies (n : RegName) (i m : Nat) : (s.orReg n i m).dies = s.dies := rfl
@[simp] theorem State.orReg_idBlocks (n : RegName) (i m : Nat) : (s.orReg n i m).idBlocks = s.idBlocks := rfl
@[simp] theorem State.orReg_links (n : RegName) (i m : Nat) : (s.orReg n i m).links = s.links := rfl
@[simp] theorem State.orReg_fabric (n : RegName) (i m : Nat) : (s.orReg n i m).fabric = s.fabric := rfl
@[simp] theorem State.orReg_bootCount (n : RegName) (i m : Nat) : (s.orReg n i m).bootCount = s.bootCount := rfl
@[simp] theorem State.orReg_absentDevs (n : RegName) (i m : Nat) : (s.orReg n i m).absentDevs = s.absentDevs := rfl
@[simp] theorem State.orReg_mailboxes (n : RegName) (i m : Nat) : (s.orReg n i m).mailboxes = s.mailboxes := rfl
@[simp] theorem State.orReg_doors (n : RegName) (i m : Nat) : (s.orReg n i m).doors = s.doors := rfl
@[simp] theorem State.orReg_sqs (n : RegName) (i m : Nat) : (s.orReg n i m).sqs = s.sqs := rfl
@[simp] theorem State.orReg_cqs (n : RegName) (i m : Nat) : (s.orReg n i m).cqs = s.cqs := rfl
@[simp] theorem State.orReg_descs (n : RegName) (i m : Nat) : (s.orReg n i m).descs = s.descs := rfl
@[simp] theorem State.orReg_nextDesc (n : RegName) (i m : Nat) : (s.orReg n i m).nextDesc = s.nextDesc := rfl
@[simp] theorem State.orReg_completions (n : RegName) (i m : Nat) : (s.orReg n i m).completions = s.completions := rfl
@[simp] theorem State.orReg_jobs (n : RegName) (i m : Nat) : (s.orReg n i m).jobs = s.jobs := rfl
@[simp] theorem State.orReg_errRings (n : RegName) (i m : Nat) : (s.orReg n i m).errRings = s.errRings := rfl
@[simp] theorem State.orReg_wingLogs (n : RegName) (i m : Nat) : (s.orReg n i m).wingLogs = s.wingLogs := rfl
@[simp] theorem State.orReg_errInFlight (n : RegName) (i m : Nat) : (s.orReg n i m).errInFlight = s.errInFlight := rfl
@[simp] theorem State.orReg_deviceLog (n : RegName) (i m : Nat) : (s.orReg n i m).deviceLog = s.deviceLog := rfl
@[simp] theorem State.orReg_flashLog (n : RegName) (i m : Nat) : (s.orReg n i m).flashLog = s.flashLog := rfl
@[simp] theorem State.orReg_deviceSeq (n : RegName) (i m : Nat) : (s.orReg n i m).deviceSeq = s.deviceSeq := rfl
@[simp] theorem State.orReg_ceWindows (n : RegName) (i m : Nat) : (s.orReg n i m).ceWindows = s.ceWindows := rfl
@[simp] theorem State.orReg_power (n : RegName) (i m : Nat) : (s.orReg n i m).power = s.power := rfl
@[simp] theorem State.orReg_therm (n : RegName) (i m : Nat) : (s.orReg n i m).therm = s.therm := rfl
@[simp] theorem State.orReg_boot (n : RegName) (i m : Nat) : (s.orReg n i m).boot = s.boot := rfl
@[simp] theorem State.orReg_aon (n : RegName) (i m : Nat) : (s.orReg n i m).aon = s.aon := rfl
@[simp] theorem State.orReg_flash (n : RegName) (i m : Nat) : (s.orReg n i m).flash = s.flash := rfl
@[simp] theorem State.orReg_flashLogs (n : RegName) (i m : Nat) : (s.orReg n i m).flashLogs = s.flashLogs := rfl
@[simp] theorem State.orReg_plan (n : RegName) (i m : Nat) : (s.orReg n i m).plan = s.plan := rfl
@[simp] theorem State.orReg_planGen (n : RegName) (i m : Nat) : (s.orReg n i m).planGen = s.planGen := rfl
@[simp] theorem State.orReg_planTime (n : RegName) (i m : Nat) : (s.orReg n i m).planTime = s.planTime := rfl
@[simp] theorem State.orReg_live (n : RegName) (i m : Nat) : (s.orReg n i m).live = s.live := rfl
@[simp] theorem State.orReg_mailboxStudy (n : RegName) (i m : Nat) : (s.orReg n i m).mailboxStudy = s.mailboxStudy := rfl
@[simp] theorem State.orReg_remaps (n : RegName) (i m : Nat) : (s.orReg n i m).remaps = s.remaps := rfl
@[simp] theorem State.orReg_test (n : RegName) (i m : Nat) : (s.orReg n i m).test = s.test := rfl
@[simp] theorem State.orReg_pcies (n : RegName) (i m : Nat) : (s.orReg n i m).pcies = s.pcies := rfl
@[simp] theorem State.orReg_guards (n : RegName) (i m : Nat) : (s.orReg n i m).guards = s.guards := rfl

@[simp] theorem State.bumpReg_pending (n : RegName) (i w b : Nat) : (s.bumpReg n i w b).pending = s.pending := rfl
@[simp] theorem State.bumpReg_fuses (n : RegName) (i w b : Nat) : (s.bumpReg n i w b).fuses = s.fuses := rfl
@[simp] theorem State.bumpReg_devId (n : RegName) (i w b : Nat) : (s.bumpReg n i w b).devId = s.devId := rfl
@[simp] theorem State.bumpReg_now (n : RegName) (i w b : Nat) : (s.bumpReg n i w b).now = s.now := rfl
@[simp] theorem State.bumpReg_free (n : RegName) (i w b : Nat) : (s.bumpReg n i w b).free = s.free := rfl
@[simp] theorem State.bumpReg_mem (n : RegName) (i w b : Nat) : (s.bumpReg n i w b).mem = s.mem := rfl
@[simp] theorem State.bumpReg_poison (n : RegName) (i w b : Nat) : (s.bumpReg n i w b).poison = s.poison := rfl
@[simp] theorem State.bumpReg_harts (n : RegName) (i w b : Nat) : (s.bumpReg n i w b).harts = s.harts := rfl
@[simp] theorem State.bumpReg_rooms (n : RegName) (i w b : Nat) : (s.bumpReg n i w b).rooms = s.rooms := rfl
@[simp] theorem State.bumpReg_tags (n : RegName) (i w b : Nat) : (s.bumpReg n i w b).tags = s.tags := rfl
@[simp] theorem State.bumpReg_reqs (n : RegName) (i w b : Nat) : (s.bumpReg n i w b).reqs = s.reqs := rfl
@[simp] theorem State.bumpReg_exitMsgs (n : RegName) (i w b : Nat) : (s.bumpReg n i w b).exitMsgs = s.exitMsgs := rfl
@[simp] theorem State.bumpReg_caches (n : RegName) (i w b : Nat) : (s.bumpReg n i w b).caches = s.caches := rfl
@[simp] theorem State.bumpReg_sent (n : RegName) (i w b : Nat) : (s.bumpReg n i w b).sent = s.sent := rfl
@[simp] theorem State.bumpReg_colls (n : RegName) (i w b : Nat) : (s.bumpReg n i w b).colls = s.colls := rfl
@[simp] theorem State.bumpReg_insts (n : RegName) (i w b : Nat) : (s.bumpReg n i w b).insts = s.insts := rfl
@[simp] theorem State.bumpReg_keptEnds (n : RegName) (i w b : Nat) : (s.bumpReg n i w b).keptEnds = s.keptEnds := rfl
@[simp] theorem State.bumpReg_arrays (n : RegName) (i w b : Nat) : (s.bumpReg n i w b).arrays = s.arrays := rfl
@[simp] theorem State.bumpReg_attics (n : RegName) (i w b : Nat) : (s.bumpReg n i w b).attics = s.attics := rfl
@[simp] theorem State.bumpReg_regqs (n : RegName) (i w b : Nat) : (s.bumpReg n i w b).regqs = s.regqs := rfl
@[simp] theorem State.bumpReg_avus (n : RegName) (i w b : Nat) : (s.bumpReg n i w b).avus = s.avus := rfl
@[simp] theorem State.bumpReg_trees (n : RegName) (i w b : Nat) : (s.bumpReg n i w b).trees = s.trees := rfl
@[simp] theorem State.bumpReg_dws (n : RegName) (i w b : Nat) : (s.bumpReg n i w b).dws = s.dws := rfl
@[simp] theorem State.bumpReg_dwOrder (n : RegName) (i w b : Nat) : (s.bumpReg n i w b).dwOrder = s.dwOrder := rfl
@[simp] theorem State.bumpReg_wings (n : RegName) (i w b : Nat) : (s.bumpReg n i w b).wings = s.wings := rfl
@[simp] theorem State.bumpReg_halls (n : RegName) (i w b : Nat) : (s.bumpReg n i w b).halls = s.halls := rfl
@[simp] theorem State.bumpReg_modules (n : RegName) (i w b : Nat) : (s.bumpReg n i w b).modules = s.modules := rfl
@[simp] theorem State.bumpReg_dies (n : RegName) (i w b : Nat) : (s.bumpReg n i w b).dies = s.dies := rfl
@[simp] theorem State.bumpReg_idBlocks (n : RegName) (i w b : Nat) : (s.bumpReg n i w b).idBlocks = s.idBlocks := rfl
@[simp] theorem State.bumpReg_links (n : RegName) (i w b : Nat) : (s.bumpReg n i w b).links = s.links := rfl
@[simp] theorem State.bumpReg_fabric (n : RegName) (i w b : Nat) : (s.bumpReg n i w b).fabric = s.fabric := rfl
@[simp] theorem State.bumpReg_bootCount (n : RegName) (i w b : Nat) : (s.bumpReg n i w b).bootCount = s.bootCount := rfl
@[simp] theorem State.bumpReg_absentDevs (n : RegName) (i w b : Nat) : (s.bumpReg n i w b).absentDevs = s.absentDevs := rfl
@[simp] theorem State.bumpReg_mailboxes (n : RegName) (i w b : Nat) : (s.bumpReg n i w b).mailboxes = s.mailboxes := rfl
@[simp] theorem State.bumpReg_doors (n : RegName) (i w b : Nat) : (s.bumpReg n i w b).doors = s.doors := rfl
@[simp] theorem State.bumpReg_sqs (n : RegName) (i w b : Nat) : (s.bumpReg n i w b).sqs = s.sqs := rfl
@[simp] theorem State.bumpReg_cqs (n : RegName) (i w b : Nat) : (s.bumpReg n i w b).cqs = s.cqs := rfl
@[simp] theorem State.bumpReg_descs (n : RegName) (i w b : Nat) : (s.bumpReg n i w b).descs = s.descs := rfl
@[simp] theorem State.bumpReg_nextDesc (n : RegName) (i w b : Nat) : (s.bumpReg n i w b).nextDesc = s.nextDesc := rfl
@[simp] theorem State.bumpReg_completions (n : RegName) (i w b : Nat) : (s.bumpReg n i w b).completions = s.completions := rfl
@[simp] theorem State.bumpReg_jobs (n : RegName) (i w b : Nat) : (s.bumpReg n i w b).jobs = s.jobs := rfl
@[simp] theorem State.bumpReg_errRings (n : RegName) (i w b : Nat) : (s.bumpReg n i w b).errRings = s.errRings := rfl
@[simp] theorem State.bumpReg_wingLogs (n : RegName) (i w b : Nat) : (s.bumpReg n i w b).wingLogs = s.wingLogs := rfl
@[simp] theorem State.bumpReg_errInFlight (n : RegName) (i w b : Nat) : (s.bumpReg n i w b).errInFlight = s.errInFlight := rfl
@[simp] theorem State.bumpReg_deviceLog (n : RegName) (i w b : Nat) : (s.bumpReg n i w b).deviceLog = s.deviceLog := rfl
@[simp] theorem State.bumpReg_flashLog (n : RegName) (i w b : Nat) : (s.bumpReg n i w b).flashLog = s.flashLog := rfl
@[simp] theorem State.bumpReg_deviceSeq (n : RegName) (i w b : Nat) : (s.bumpReg n i w b).deviceSeq = s.deviceSeq := rfl
@[simp] theorem State.bumpReg_ceWindows (n : RegName) (i w b : Nat) : (s.bumpReg n i w b).ceWindows = s.ceWindows := rfl
@[simp] theorem State.bumpReg_power (n : RegName) (i w b : Nat) : (s.bumpReg n i w b).power = s.power := rfl
@[simp] theorem State.bumpReg_therm (n : RegName) (i w b : Nat) : (s.bumpReg n i w b).therm = s.therm := rfl
@[simp] theorem State.bumpReg_boot (n : RegName) (i w b : Nat) : (s.bumpReg n i w b).boot = s.boot := rfl
@[simp] theorem State.bumpReg_aon (n : RegName) (i w b : Nat) : (s.bumpReg n i w b).aon = s.aon := rfl
@[simp] theorem State.bumpReg_flash (n : RegName) (i w b : Nat) : (s.bumpReg n i w b).flash = s.flash := rfl
@[simp] theorem State.bumpReg_flashLogs (n : RegName) (i w b : Nat) : (s.bumpReg n i w b).flashLogs = s.flashLogs := rfl
@[simp] theorem State.bumpReg_plan (n : RegName) (i w b : Nat) : (s.bumpReg n i w b).plan = s.plan := rfl
@[simp] theorem State.bumpReg_planGen (n : RegName) (i w b : Nat) : (s.bumpReg n i w b).planGen = s.planGen := rfl
@[simp] theorem State.bumpReg_planTime (n : RegName) (i w b : Nat) : (s.bumpReg n i w b).planTime = s.planTime := rfl
@[simp] theorem State.bumpReg_live (n : RegName) (i w b : Nat) : (s.bumpReg n i w b).live = s.live := rfl
@[simp] theorem State.bumpReg_mailboxStudy (n : RegName) (i w b : Nat) : (s.bumpReg n i w b).mailboxStudy = s.mailboxStudy := rfl
@[simp] theorem State.bumpReg_remaps (n : RegName) (i w b : Nat) : (s.bumpReg n i w b).remaps = s.remaps := rfl
@[simp] theorem State.bumpReg_test (n : RegName) (i w b : Nat) : (s.bumpReg n i w b).test = s.test := rfl
@[simp] theorem State.bumpReg_pcies (n : RegName) (i w b : Nat) : (s.bumpReg n i w b).pcies = s.pcies := rfl
@[simp] theorem State.bumpReg_guards (n : RegName) (i w b : Nat) : (s.bumpReg n i w b).guards = s.guards := rfl

@[simp] theorem State.reach_pending (t : Nat) : (s.reach t).pending = s.pending := rfl
@[simp] theorem State.reach_fuses (t : Nat) : (s.reach t).fuses = s.fuses := rfl
@[simp] theorem State.reach_devId (t : Nat) : (s.reach t).devId = s.devId := rfl
@[simp] theorem State.reach_free (t : Nat) : (s.reach t).free = s.free := rfl
@[simp] theorem State.reach_mem (t : Nat) : (s.reach t).mem = s.mem := rfl
@[simp] theorem State.reach_poison (t : Nat) : (s.reach t).poison = s.poison := rfl
@[simp] theorem State.reach_regs (t : Nat) : (s.reach t).regs = s.regs := rfl
@[simp] theorem State.reach_harts (t : Nat) : (s.reach t).harts = s.harts := rfl
@[simp] theorem State.reach_rooms (t : Nat) : (s.reach t).rooms = s.rooms := rfl
@[simp] theorem State.reach_tags (t : Nat) : (s.reach t).tags = s.tags := rfl
@[simp] theorem State.reach_reqs (t : Nat) : (s.reach t).reqs = s.reqs := rfl
@[simp] theorem State.reach_exitMsgs (t : Nat) : (s.reach t).exitMsgs = s.exitMsgs := rfl
@[simp] theorem State.reach_caches (t : Nat) : (s.reach t).caches = s.caches := rfl
@[simp] theorem State.reach_sent (t : Nat) : (s.reach t).sent = s.sent := rfl
@[simp] theorem State.reach_colls (t : Nat) : (s.reach t).colls = s.colls := rfl
@[simp] theorem State.reach_insts (t : Nat) : (s.reach t).insts = s.insts := rfl
@[simp] theorem State.reach_keptEnds (t : Nat) : (s.reach t).keptEnds = s.keptEnds := rfl
@[simp] theorem State.reach_arrays (t : Nat) : (s.reach t).arrays = s.arrays := rfl
@[simp] theorem State.reach_attics (t : Nat) : (s.reach t).attics = s.attics := rfl
@[simp] theorem State.reach_regqs (t : Nat) : (s.reach t).regqs = s.regqs := rfl
@[simp] theorem State.reach_avus (t : Nat) : (s.reach t).avus = s.avus := rfl
@[simp] theorem State.reach_trees (t : Nat) : (s.reach t).trees = s.trees := rfl
@[simp] theorem State.reach_dws (t : Nat) : (s.reach t).dws = s.dws := rfl
@[simp] theorem State.reach_dwOrder (t : Nat) : (s.reach t).dwOrder = s.dwOrder := rfl
@[simp] theorem State.reach_wings (t : Nat) : (s.reach t).wings = s.wings := rfl
@[simp] theorem State.reach_halls (t : Nat) : (s.reach t).halls = s.halls := rfl
@[simp] theorem State.reach_modules (t : Nat) : (s.reach t).modules = s.modules := rfl
@[simp] theorem State.reach_dies (t : Nat) : (s.reach t).dies = s.dies := rfl
@[simp] theorem State.reach_idBlocks (t : Nat) : (s.reach t).idBlocks = s.idBlocks := rfl
@[simp] theorem State.reach_links (t : Nat) : (s.reach t).links = s.links := rfl
@[simp] theorem State.reach_fabric (t : Nat) : (s.reach t).fabric = s.fabric := rfl
@[simp] theorem State.reach_bootCount (t : Nat) : (s.reach t).bootCount = s.bootCount := rfl
@[simp] theorem State.reach_absentDevs (t : Nat) : (s.reach t).absentDevs = s.absentDevs := rfl
@[simp] theorem State.reach_mailboxes (t : Nat) : (s.reach t).mailboxes = s.mailboxes := rfl
@[simp] theorem State.reach_doors (t : Nat) : (s.reach t).doors = s.doors := rfl
@[simp] theorem State.reach_sqs (t : Nat) : (s.reach t).sqs = s.sqs := rfl
@[simp] theorem State.reach_cqs (t : Nat) : (s.reach t).cqs = s.cqs := rfl
@[simp] theorem State.reach_descs (t : Nat) : (s.reach t).descs = s.descs := rfl
@[simp] theorem State.reach_nextDesc (t : Nat) : (s.reach t).nextDesc = s.nextDesc := rfl
@[simp] theorem State.reach_completions (t : Nat) : (s.reach t).completions = s.completions := rfl
@[simp] theorem State.reach_jobs (t : Nat) : (s.reach t).jobs = s.jobs := rfl
@[simp] theorem State.reach_errRings (t : Nat) : (s.reach t).errRings = s.errRings := rfl
@[simp] theorem State.reach_wingLogs (t : Nat) : (s.reach t).wingLogs = s.wingLogs := rfl
@[simp] theorem State.reach_errInFlight (t : Nat) : (s.reach t).errInFlight = s.errInFlight := rfl
@[simp] theorem State.reach_deviceLog (t : Nat) : (s.reach t).deviceLog = s.deviceLog := rfl
@[simp] theorem State.reach_flashLog (t : Nat) : (s.reach t).flashLog = s.flashLog := rfl
@[simp] theorem State.reach_deviceSeq (t : Nat) : (s.reach t).deviceSeq = s.deviceSeq := rfl
@[simp] theorem State.reach_ceWindows (t : Nat) : (s.reach t).ceWindows = s.ceWindows := rfl
@[simp] theorem State.reach_power (t : Nat) : (s.reach t).power = s.power := rfl
@[simp] theorem State.reach_therm (t : Nat) : (s.reach t).therm = s.therm := rfl
@[simp] theorem State.reach_boot (t : Nat) : (s.reach t).boot = s.boot := rfl
@[simp] theorem State.reach_aon (t : Nat) : (s.reach t).aon = s.aon := rfl
@[simp] theorem State.reach_flash (t : Nat) : (s.reach t).flash = s.flash := rfl
@[simp] theorem State.reach_flashLogs (t : Nat) : (s.reach t).flashLogs = s.flashLogs := rfl
@[simp] theorem State.reach_plan (t : Nat) : (s.reach t).plan = s.plan := rfl
@[simp] theorem State.reach_planGen (t : Nat) : (s.reach t).planGen = s.planGen := rfl
@[simp] theorem State.reach_planTime (t : Nat) : (s.reach t).planTime = s.planTime := rfl
@[simp] theorem State.reach_live (t : Nat) : (s.reach t).live = s.live := rfl
@[simp] theorem State.reach_mailboxStudy (t : Nat) : (s.reach t).mailboxStudy = s.mailboxStudy := rfl
@[simp] theorem State.reach_remaps (t : Nat) : (s.reach t).remaps = s.remaps := rfl
@[simp] theorem State.reach_test (t : Nat) : (s.reach t).test = s.test := rfl
@[simp] theorem State.reach_pcies (t : Nat) : (s.reach t).pcies = s.pcies := rfl
@[simp] theorem State.reach_guards (t : Nat) : (s.reach t).guards = s.guards := rfl

@[simp] theorem State.bump_pending : (s.bump).pending = s.pending := rfl
@[simp] theorem State.bump_fuses : (s.bump).fuses = s.fuses := rfl
@[simp] theorem State.bump_devId : (s.bump).devId = s.devId := rfl
@[simp] theorem State.bump_now : (s.bump).now = s.now := rfl
@[simp] theorem State.bump_mem : (s.bump).mem = s.mem := rfl
@[simp] theorem State.bump_poison : (s.bump).poison = s.poison := rfl
@[simp] theorem State.bump_regs : (s.bump).regs = s.regs := rfl
@[simp] theorem State.bump_harts : (s.bump).harts = s.harts := rfl
@[simp] theorem State.bump_rooms : (s.bump).rooms = s.rooms := rfl
@[simp] theorem State.bump_tags : (s.bump).tags = s.tags := rfl
@[simp] theorem State.bump_reqs : (s.bump).reqs = s.reqs := rfl
@[simp] theorem State.bump_exitMsgs : (s.bump).exitMsgs = s.exitMsgs := rfl
@[simp] theorem State.bump_caches : (s.bump).caches = s.caches := rfl
@[simp] theorem State.bump_sent : (s.bump).sent = s.sent := rfl
@[simp] theorem State.bump_colls : (s.bump).colls = s.colls := rfl
@[simp] theorem State.bump_insts : (s.bump).insts = s.insts := rfl
@[simp] theorem State.bump_keptEnds : (s.bump).keptEnds = s.keptEnds := rfl
@[simp] theorem State.bump_arrays : (s.bump).arrays = s.arrays := rfl
@[simp] theorem State.bump_attics : (s.bump).attics = s.attics := rfl
@[simp] theorem State.bump_regqs : (s.bump).regqs = s.regqs := rfl
@[simp] theorem State.bump_avus : (s.bump).avus = s.avus := rfl
@[simp] theorem State.bump_trees : (s.bump).trees = s.trees := rfl
@[simp] theorem State.bump_dws : (s.bump).dws = s.dws := rfl
@[simp] theorem State.bump_dwOrder : (s.bump).dwOrder = s.dwOrder := rfl
@[simp] theorem State.bump_wings : (s.bump).wings = s.wings := rfl
@[simp] theorem State.bump_halls : (s.bump).halls = s.halls := rfl
@[simp] theorem State.bump_modules : (s.bump).modules = s.modules := rfl
@[simp] theorem State.bump_dies : (s.bump).dies = s.dies := rfl
@[simp] theorem State.bump_idBlocks : (s.bump).idBlocks = s.idBlocks := rfl
@[simp] theorem State.bump_links : (s.bump).links = s.links := rfl
@[simp] theorem State.bump_fabric : (s.bump).fabric = s.fabric := rfl
@[simp] theorem State.bump_bootCount : (s.bump).bootCount = s.bootCount := rfl
@[simp] theorem State.bump_absentDevs : (s.bump).absentDevs = s.absentDevs := rfl
@[simp] theorem State.bump_mailboxes : (s.bump).mailboxes = s.mailboxes := rfl
@[simp] theorem State.bump_doors : (s.bump).doors = s.doors := rfl
@[simp] theorem State.bump_sqs : (s.bump).sqs = s.sqs := rfl
@[simp] theorem State.bump_cqs : (s.bump).cqs = s.cqs := rfl
@[simp] theorem State.bump_descs : (s.bump).descs = s.descs := rfl
@[simp] theorem State.bump_nextDesc : (s.bump).nextDesc = s.nextDesc := rfl
@[simp] theorem State.bump_completions : (s.bump).completions = s.completions := rfl
@[simp] theorem State.bump_jobs : (s.bump).jobs = s.jobs := rfl
@[simp] theorem State.bump_errRings : (s.bump).errRings = s.errRings := rfl
@[simp] theorem State.bump_wingLogs : (s.bump).wingLogs = s.wingLogs := rfl
@[simp] theorem State.bump_errInFlight : (s.bump).errInFlight = s.errInFlight := rfl
@[simp] theorem State.bump_deviceLog : (s.bump).deviceLog = s.deviceLog := rfl
@[simp] theorem State.bump_flashLog : (s.bump).flashLog = s.flashLog := rfl
@[simp] theorem State.bump_deviceSeq : (s.bump).deviceSeq = s.deviceSeq := rfl
@[simp] theorem State.bump_ceWindows : (s.bump).ceWindows = s.ceWindows := rfl
@[simp] theorem State.bump_power : (s.bump).power = s.power := rfl
@[simp] theorem State.bump_therm : (s.bump).therm = s.therm := rfl
@[simp] theorem State.bump_boot : (s.bump).boot = s.boot := rfl
@[simp] theorem State.bump_aon : (s.bump).aon = s.aon := rfl
@[simp] theorem State.bump_flash : (s.bump).flash = s.flash := rfl
@[simp] theorem State.bump_flashLogs : (s.bump).flashLogs = s.flashLogs := rfl
@[simp] theorem State.bump_plan : (s.bump).plan = s.plan := rfl
@[simp] theorem State.bump_planGen : (s.bump).planGen = s.planGen := rfl
@[simp] theorem State.bump_planTime : (s.bump).planTime = s.planTime := rfl
@[simp] theorem State.bump_live : (s.bump).live = s.live := rfl
@[simp] theorem State.bump_mailboxStudy : (s.bump).mailboxStudy = s.mailboxStudy := rfl
@[simp] theorem State.bump_remaps : (s.bump).remaps = s.remaps := rfl
@[simp] theorem State.bump_test : (s.bump).test = s.test := rfl
@[simp] theorem State.bump_pcies : (s.bump).pcies = s.pcies := rfl
@[simp] theorem State.bump_guards : (s.bump).guards = s.guards := rfl

@[simp] theorem State.setPoison_pending (k : Nat) (p : Bool) : (s.setPoison k p).pending = s.pending := rfl
@[simp] theorem State.setPoison_fuses (k : Nat) (p : Bool) : (s.setPoison k p).fuses = s.fuses := rfl
@[simp] theorem State.setPoison_devId (k : Nat) (p : Bool) : (s.setPoison k p).devId = s.devId := rfl
@[simp] theorem State.setPoison_now (k : Nat) (p : Bool) : (s.setPoison k p).now = s.now := rfl
@[simp] theorem State.setPoison_free (k : Nat) (p : Bool) : (s.setPoison k p).free = s.free := rfl
@[simp] theorem State.setPoison_mem (k : Nat) (p : Bool) : (s.setPoison k p).mem = s.mem := rfl
@[simp] theorem State.setPoison_regs (k : Nat) (p : Bool) : (s.setPoison k p).regs = s.regs := rfl
@[simp] theorem State.setPoison_harts (k : Nat) (p : Bool) : (s.setPoison k p).harts = s.harts := rfl
@[simp] theorem State.setPoison_rooms (k : Nat) (p : Bool) : (s.setPoison k p).rooms = s.rooms := rfl
@[simp] theorem State.setPoison_tags (k : Nat) (p : Bool) : (s.setPoison k p).tags = s.tags := rfl
@[simp] theorem State.setPoison_reqs (k : Nat) (p : Bool) : (s.setPoison k p).reqs = s.reqs := rfl
@[simp] theorem State.setPoison_exitMsgs (k : Nat) (p : Bool) : (s.setPoison k p).exitMsgs = s.exitMsgs := rfl
@[simp] theorem State.setPoison_caches (k : Nat) (p : Bool) : (s.setPoison k p).caches = s.caches := rfl
@[simp] theorem State.setPoison_sent (k : Nat) (p : Bool) : (s.setPoison k p).sent = s.sent := rfl
@[simp] theorem State.setPoison_colls (k : Nat) (p : Bool) : (s.setPoison k p).colls = s.colls := rfl
@[simp] theorem State.setPoison_insts (k : Nat) (p : Bool) : (s.setPoison k p).insts = s.insts := rfl
@[simp] theorem State.setPoison_keptEnds (k : Nat) (p : Bool) : (s.setPoison k p).keptEnds = s.keptEnds := rfl
@[simp] theorem State.setPoison_arrays (k : Nat) (p : Bool) : (s.setPoison k p).arrays = s.arrays := rfl
@[simp] theorem State.setPoison_attics (k : Nat) (p : Bool) : (s.setPoison k p).attics = s.attics := rfl
@[simp] theorem State.setPoison_regqs (k : Nat) (p : Bool) : (s.setPoison k p).regqs = s.regqs := rfl
@[simp] theorem State.setPoison_avus (k : Nat) (p : Bool) : (s.setPoison k p).avus = s.avus := rfl
@[simp] theorem State.setPoison_trees (k : Nat) (p : Bool) : (s.setPoison k p).trees = s.trees := rfl
@[simp] theorem State.setPoison_dws (k : Nat) (p : Bool) : (s.setPoison k p).dws = s.dws := rfl
@[simp] theorem State.setPoison_dwOrder (k : Nat) (p : Bool) : (s.setPoison k p).dwOrder = s.dwOrder := rfl
@[simp] theorem State.setPoison_wings (k : Nat) (p : Bool) : (s.setPoison k p).wings = s.wings := rfl
@[simp] theorem State.setPoison_halls (k : Nat) (p : Bool) : (s.setPoison k p).halls = s.halls := rfl
@[simp] theorem State.setPoison_modules (k : Nat) (p : Bool) : (s.setPoison k p).modules = s.modules := rfl
@[simp] theorem State.setPoison_dies (k : Nat) (p : Bool) : (s.setPoison k p).dies = s.dies := rfl
@[simp] theorem State.setPoison_idBlocks (k : Nat) (p : Bool) : (s.setPoison k p).idBlocks = s.idBlocks := rfl
@[simp] theorem State.setPoison_links (k : Nat) (p : Bool) : (s.setPoison k p).links = s.links := rfl
@[simp] theorem State.setPoison_fabric (k : Nat) (p : Bool) : (s.setPoison k p).fabric = s.fabric := rfl
@[simp] theorem State.setPoison_bootCount (k : Nat) (p : Bool) : (s.setPoison k p).bootCount = s.bootCount := rfl
@[simp] theorem State.setPoison_absentDevs (k : Nat) (p : Bool) : (s.setPoison k p).absentDevs = s.absentDevs := rfl
@[simp] theorem State.setPoison_mailboxes (k : Nat) (p : Bool) : (s.setPoison k p).mailboxes = s.mailboxes := rfl
@[simp] theorem State.setPoison_doors (k : Nat) (p : Bool) : (s.setPoison k p).doors = s.doors := rfl
@[simp] theorem State.setPoison_sqs (k : Nat) (p : Bool) : (s.setPoison k p).sqs = s.sqs := rfl
@[simp] theorem State.setPoison_cqs (k : Nat) (p : Bool) : (s.setPoison k p).cqs = s.cqs := rfl
@[simp] theorem State.setPoison_descs (k : Nat) (p : Bool) : (s.setPoison k p).descs = s.descs := rfl
@[simp] theorem State.setPoison_nextDesc (k : Nat) (p : Bool) : (s.setPoison k p).nextDesc = s.nextDesc := rfl
@[simp] theorem State.setPoison_completions (k : Nat) (p : Bool) : (s.setPoison k p).completions = s.completions := rfl
@[simp] theorem State.setPoison_jobs (k : Nat) (p : Bool) : (s.setPoison k p).jobs = s.jobs := rfl
@[simp] theorem State.setPoison_errRings (k : Nat) (p : Bool) : (s.setPoison k p).errRings = s.errRings := rfl
@[simp] theorem State.setPoison_wingLogs (k : Nat) (p : Bool) : (s.setPoison k p).wingLogs = s.wingLogs := rfl
@[simp] theorem State.setPoison_errInFlight (k : Nat) (p : Bool) : (s.setPoison k p).errInFlight = s.errInFlight := rfl
@[simp] theorem State.setPoison_deviceLog (k : Nat) (p : Bool) : (s.setPoison k p).deviceLog = s.deviceLog := rfl
@[simp] theorem State.setPoison_flashLog (k : Nat) (p : Bool) : (s.setPoison k p).flashLog = s.flashLog := rfl
@[simp] theorem State.setPoison_deviceSeq (k : Nat) (p : Bool) : (s.setPoison k p).deviceSeq = s.deviceSeq := rfl
@[simp] theorem State.setPoison_ceWindows (k : Nat) (p : Bool) : (s.setPoison k p).ceWindows = s.ceWindows := rfl
@[simp] theorem State.setPoison_power (k : Nat) (p : Bool) : (s.setPoison k p).power = s.power := rfl
@[simp] theorem State.setPoison_therm (k : Nat) (p : Bool) : (s.setPoison k p).therm = s.therm := rfl
@[simp] theorem State.setPoison_boot (k : Nat) (p : Bool) : (s.setPoison k p).boot = s.boot := rfl
@[simp] theorem State.setPoison_aon (k : Nat) (p : Bool) : (s.setPoison k p).aon = s.aon := rfl
@[simp] theorem State.setPoison_flash (k : Nat) (p : Bool) : (s.setPoison k p).flash = s.flash := rfl
@[simp] theorem State.setPoison_flashLogs (k : Nat) (p : Bool) : (s.setPoison k p).flashLogs = s.flashLogs := rfl
@[simp] theorem State.setPoison_plan (k : Nat) (p : Bool) : (s.setPoison k p).plan = s.plan := rfl
@[simp] theorem State.setPoison_planGen (k : Nat) (p : Bool) : (s.setPoison k p).planGen = s.planGen := rfl
@[simp] theorem State.setPoison_planTime (k : Nat) (p : Bool) : (s.setPoison k p).planTime = s.planTime := rfl
@[simp] theorem State.setPoison_live (k : Nat) (p : Bool) : (s.setPoison k p).live = s.live := rfl
@[simp] theorem State.setPoison_mailboxStudy (k : Nat) (p : Bool) : (s.setPoison k p).mailboxStudy = s.mailboxStudy := rfl
@[simp] theorem State.setPoison_remaps (k : Nat) (p : Bool) : (s.setPoison k p).remaps = s.remaps := rfl
@[simp] theorem State.setPoison_test (k : Nat) (p : Bool) : (s.setPoison k p).test = s.test := rfl
@[simp] theorem State.setPoison_pcies (k : Nat) (p : Bool) : (s.setPoison k p).pcies = s.pcies := rfl
@[simp] theorem State.setPoison_guards (k : Nat) (p : Bool) : (s.setPoison k p).guards = s.guards := rfl

@[simp] theorem State.putBytes_pending (k : Nat) (l : List Byte) : (s.putBytes k l).pending = s.pending := rfl
@[simp] theorem State.putBytes_fuses (k : Nat) (l : List Byte) : (s.putBytes k l).fuses = s.fuses := rfl
@[simp] theorem State.putBytes_devId (k : Nat) (l : List Byte) : (s.putBytes k l).devId = s.devId := rfl
@[simp] theorem State.putBytes_now (k : Nat) (l : List Byte) : (s.putBytes k l).now = s.now := rfl
@[simp] theorem State.putBytes_free (k : Nat) (l : List Byte) : (s.putBytes k l).free = s.free := rfl
@[simp] theorem State.putBytes_poison (k : Nat) (l : List Byte) : (s.putBytes k l).poison = s.poison := rfl
@[simp] theorem State.putBytes_regs (k : Nat) (l : List Byte) : (s.putBytes k l).regs = s.regs := rfl
@[simp] theorem State.putBytes_harts (k : Nat) (l : List Byte) : (s.putBytes k l).harts = s.harts := rfl
@[simp] theorem State.putBytes_rooms (k : Nat) (l : List Byte) : (s.putBytes k l).rooms = s.rooms := rfl
@[simp] theorem State.putBytes_tags (k : Nat) (l : List Byte) : (s.putBytes k l).tags = s.tags := rfl
@[simp] theorem State.putBytes_reqs (k : Nat) (l : List Byte) : (s.putBytes k l).reqs = s.reqs := rfl
@[simp] theorem State.putBytes_exitMsgs (k : Nat) (l : List Byte) : (s.putBytes k l).exitMsgs = s.exitMsgs := rfl
@[simp] theorem State.putBytes_caches (k : Nat) (l : List Byte) : (s.putBytes k l).caches = s.caches := rfl
@[simp] theorem State.putBytes_sent (k : Nat) (l : List Byte) : (s.putBytes k l).sent = s.sent := rfl
@[simp] theorem State.putBytes_colls (k : Nat) (l : List Byte) : (s.putBytes k l).colls = s.colls := rfl
@[simp] theorem State.putBytes_insts (k : Nat) (l : List Byte) : (s.putBytes k l).insts = s.insts := rfl
@[simp] theorem State.putBytes_keptEnds (k : Nat) (l : List Byte) : (s.putBytes k l).keptEnds = s.keptEnds := rfl
@[simp] theorem State.putBytes_arrays (k : Nat) (l : List Byte) : (s.putBytes k l).arrays = s.arrays := rfl
@[simp] theorem State.putBytes_attics (k : Nat) (l : List Byte) : (s.putBytes k l).attics = s.attics := rfl
@[simp] theorem State.putBytes_regqs (k : Nat) (l : List Byte) : (s.putBytes k l).regqs = s.regqs := rfl
@[simp] theorem State.putBytes_avus (k : Nat) (l : List Byte) : (s.putBytes k l).avus = s.avus := rfl
@[simp] theorem State.putBytes_trees (k : Nat) (l : List Byte) : (s.putBytes k l).trees = s.trees := rfl
@[simp] theorem State.putBytes_dws (k : Nat) (l : List Byte) : (s.putBytes k l).dws = s.dws := rfl
@[simp] theorem State.putBytes_dwOrder (k : Nat) (l : List Byte) : (s.putBytes k l).dwOrder = s.dwOrder := rfl
@[simp] theorem State.putBytes_wings (k : Nat) (l : List Byte) : (s.putBytes k l).wings = s.wings := rfl
@[simp] theorem State.putBytes_halls (k : Nat) (l : List Byte) : (s.putBytes k l).halls = s.halls := rfl
@[simp] theorem State.putBytes_modules (k : Nat) (l : List Byte) : (s.putBytes k l).modules = s.modules := rfl
@[simp] theorem State.putBytes_dies (k : Nat) (l : List Byte) : (s.putBytes k l).dies = s.dies := rfl
@[simp] theorem State.putBytes_idBlocks (k : Nat) (l : List Byte) : (s.putBytes k l).idBlocks = s.idBlocks := rfl
@[simp] theorem State.putBytes_links (k : Nat) (l : List Byte) : (s.putBytes k l).links = s.links := rfl
@[simp] theorem State.putBytes_fabric (k : Nat) (l : List Byte) : (s.putBytes k l).fabric = s.fabric := rfl
@[simp] theorem State.putBytes_bootCount (k : Nat) (l : List Byte) : (s.putBytes k l).bootCount = s.bootCount := rfl
@[simp] theorem State.putBytes_absentDevs (k : Nat) (l : List Byte) : (s.putBytes k l).absentDevs = s.absentDevs := rfl
@[simp] theorem State.putBytes_mailboxes (k : Nat) (l : List Byte) : (s.putBytes k l).mailboxes = s.mailboxes := rfl
@[simp] theorem State.putBytes_doors (k : Nat) (l : List Byte) : (s.putBytes k l).doors = s.doors := rfl
@[simp] theorem State.putBytes_sqs (k : Nat) (l : List Byte) : (s.putBytes k l).sqs = s.sqs := rfl
@[simp] theorem State.putBytes_cqs (k : Nat) (l : List Byte) : (s.putBytes k l).cqs = s.cqs := rfl
@[simp] theorem State.putBytes_descs (k : Nat) (l : List Byte) : (s.putBytes k l).descs = s.descs := rfl
@[simp] theorem State.putBytes_nextDesc (k : Nat) (l : List Byte) : (s.putBytes k l).nextDesc = s.nextDesc := rfl
@[simp] theorem State.putBytes_completions (k : Nat) (l : List Byte) : (s.putBytes k l).completions = s.completions := rfl
@[simp] theorem State.putBytes_jobs (k : Nat) (l : List Byte) : (s.putBytes k l).jobs = s.jobs := rfl
@[simp] theorem State.putBytes_errRings (k : Nat) (l : List Byte) : (s.putBytes k l).errRings = s.errRings := rfl
@[simp] theorem State.putBytes_wingLogs (k : Nat) (l : List Byte) : (s.putBytes k l).wingLogs = s.wingLogs := rfl
@[simp] theorem State.putBytes_errInFlight (k : Nat) (l : List Byte) : (s.putBytes k l).errInFlight = s.errInFlight := rfl
@[simp] theorem State.putBytes_deviceLog (k : Nat) (l : List Byte) : (s.putBytes k l).deviceLog = s.deviceLog := rfl
@[simp] theorem State.putBytes_flashLog (k : Nat) (l : List Byte) : (s.putBytes k l).flashLog = s.flashLog := rfl
@[simp] theorem State.putBytes_deviceSeq (k : Nat) (l : List Byte) : (s.putBytes k l).deviceSeq = s.deviceSeq := rfl
@[simp] theorem State.putBytes_ceWindows (k : Nat) (l : List Byte) : (s.putBytes k l).ceWindows = s.ceWindows := rfl
@[simp] theorem State.putBytes_power (k : Nat) (l : List Byte) : (s.putBytes k l).power = s.power := rfl
@[simp] theorem State.putBytes_therm (k : Nat) (l : List Byte) : (s.putBytes k l).therm = s.therm := rfl
@[simp] theorem State.putBytes_boot (k : Nat) (l : List Byte) : (s.putBytes k l).boot = s.boot := rfl
@[simp] theorem State.putBytes_aon (k : Nat) (l : List Byte) : (s.putBytes k l).aon = s.aon := rfl
@[simp] theorem State.putBytes_flash (k : Nat) (l : List Byte) : (s.putBytes k l).flash = s.flash := rfl
@[simp] theorem State.putBytes_flashLogs (k : Nat) (l : List Byte) : (s.putBytes k l).flashLogs = s.flashLogs := rfl
@[simp] theorem State.putBytes_plan (k : Nat) (l : List Byte) : (s.putBytes k l).plan = s.plan := rfl
@[simp] theorem State.putBytes_planGen (k : Nat) (l : List Byte) : (s.putBytes k l).planGen = s.planGen := rfl
@[simp] theorem State.putBytes_planTime (k : Nat) (l : List Byte) : (s.putBytes k l).planTime = s.planTime := rfl
@[simp] theorem State.putBytes_live (k : Nat) (l : List Byte) : (s.putBytes k l).live = s.live := rfl
@[simp] theorem State.putBytes_mailboxStudy (k : Nat) (l : List Byte) : (s.putBytes k l).mailboxStudy = s.mailboxStudy := rfl
@[simp] theorem State.putBytes_remaps (k : Nat) (l : List Byte) : (s.putBytes k l).remaps = s.remaps := rfl
@[simp] theorem State.putBytes_test (k : Nat) (l : List Byte) : (s.putBytes k l).test = s.test := rfl
@[simp] theorem State.putBytes_pcies (k : Nat) (l : List Byte) : (s.putBytes k l).pcies = s.pcies := rfl
@[simp] theorem State.putBytes_guards (k : Nat) (l : List Byte) : (s.putBytes k l).guards = s.guards := rfl

@[simp] theorem State.setTag_pending (i n : Nat) (e : TagEntry) : (s.setTag i n e).pending = s.pending := rfl
@[simp] theorem State.setTag_fuses (i n : Nat) (e : TagEntry) : (s.setTag i n e).fuses = s.fuses := rfl
@[simp] theorem State.setTag_devId (i n : Nat) (e : TagEntry) : (s.setTag i n e).devId = s.devId := rfl
@[simp] theorem State.setTag_now (i n : Nat) (e : TagEntry) : (s.setTag i n e).now = s.now := rfl
@[simp] theorem State.setTag_free (i n : Nat) (e : TagEntry) : (s.setTag i n e).free = s.free := rfl
@[simp] theorem State.setTag_mem (i n : Nat) (e : TagEntry) : (s.setTag i n e).mem = s.mem := rfl
@[simp] theorem State.setTag_poison (i n : Nat) (e : TagEntry) : (s.setTag i n e).poison = s.poison := rfl
@[simp] theorem State.setTag_regs (i n : Nat) (e : TagEntry) : (s.setTag i n e).regs = s.regs := rfl
@[simp] theorem State.setTag_harts (i n : Nat) (e : TagEntry) : (s.setTag i n e).harts = s.harts := rfl
@[simp] theorem State.setTag_rooms (i n : Nat) (e : TagEntry) : (s.setTag i n e).rooms = s.rooms := rfl
@[simp] theorem State.setTag_reqs (i n : Nat) (e : TagEntry) : (s.setTag i n e).reqs = s.reqs := rfl
@[simp] theorem State.setTag_exitMsgs (i n : Nat) (e : TagEntry) : (s.setTag i n e).exitMsgs = s.exitMsgs := rfl
@[simp] theorem State.setTag_caches (i n : Nat) (e : TagEntry) : (s.setTag i n e).caches = s.caches := rfl
@[simp] theorem State.setTag_sent (i n : Nat) (e : TagEntry) : (s.setTag i n e).sent = s.sent := rfl
@[simp] theorem State.setTag_colls (i n : Nat) (e : TagEntry) : (s.setTag i n e).colls = s.colls := rfl
@[simp] theorem State.setTag_insts (i n : Nat) (e : TagEntry) : (s.setTag i n e).insts = s.insts := rfl
@[simp] theorem State.setTag_keptEnds (i n : Nat) (e : TagEntry) : (s.setTag i n e).keptEnds = s.keptEnds := rfl
@[simp] theorem State.setTag_arrays (i n : Nat) (e : TagEntry) : (s.setTag i n e).arrays = s.arrays := rfl
@[simp] theorem State.setTag_attics (i n : Nat) (e : TagEntry) : (s.setTag i n e).attics = s.attics := rfl
@[simp] theorem State.setTag_regqs (i n : Nat) (e : TagEntry) : (s.setTag i n e).regqs = s.regqs := rfl
@[simp] theorem State.setTag_avus (i n : Nat) (e : TagEntry) : (s.setTag i n e).avus = s.avus := rfl
@[simp] theorem State.setTag_trees (i n : Nat) (e : TagEntry) : (s.setTag i n e).trees = s.trees := rfl
@[simp] theorem State.setTag_dws (i n : Nat) (e : TagEntry) : (s.setTag i n e).dws = s.dws := rfl
@[simp] theorem State.setTag_dwOrder (i n : Nat) (e : TagEntry) : (s.setTag i n e).dwOrder = s.dwOrder := rfl
@[simp] theorem State.setTag_wings (i n : Nat) (e : TagEntry) : (s.setTag i n e).wings = s.wings := rfl
@[simp] theorem State.setTag_halls (i n : Nat) (e : TagEntry) : (s.setTag i n e).halls = s.halls := rfl
@[simp] theorem State.setTag_modules (i n : Nat) (e : TagEntry) : (s.setTag i n e).modules = s.modules := rfl
@[simp] theorem State.setTag_dies (i n : Nat) (e : TagEntry) : (s.setTag i n e).dies = s.dies := rfl
@[simp] theorem State.setTag_idBlocks (i n : Nat) (e : TagEntry) : (s.setTag i n e).idBlocks = s.idBlocks := rfl
@[simp] theorem State.setTag_links (i n : Nat) (e : TagEntry) : (s.setTag i n e).links = s.links := rfl
@[simp] theorem State.setTag_fabric (i n : Nat) (e : TagEntry) : (s.setTag i n e).fabric = s.fabric := rfl
@[simp] theorem State.setTag_bootCount (i n : Nat) (e : TagEntry) : (s.setTag i n e).bootCount = s.bootCount := rfl
@[simp] theorem State.setTag_absentDevs (i n : Nat) (e : TagEntry) : (s.setTag i n e).absentDevs = s.absentDevs := rfl
@[simp] theorem State.setTag_mailboxes (i n : Nat) (e : TagEntry) : (s.setTag i n e).mailboxes = s.mailboxes := rfl
@[simp] theorem State.setTag_doors (i n : Nat) (e : TagEntry) : (s.setTag i n e).doors = s.doors := rfl
@[simp] theorem State.setTag_sqs (i n : Nat) (e : TagEntry) : (s.setTag i n e).sqs = s.sqs := rfl
@[simp] theorem State.setTag_cqs (i n : Nat) (e : TagEntry) : (s.setTag i n e).cqs = s.cqs := rfl
@[simp] theorem State.setTag_descs (i n : Nat) (e : TagEntry) : (s.setTag i n e).descs = s.descs := rfl
@[simp] theorem State.setTag_nextDesc (i n : Nat) (e : TagEntry) : (s.setTag i n e).nextDesc = s.nextDesc := rfl
@[simp] theorem State.setTag_completions (i n : Nat) (e : TagEntry) : (s.setTag i n e).completions = s.completions := rfl
@[simp] theorem State.setTag_jobs (i n : Nat) (e : TagEntry) : (s.setTag i n e).jobs = s.jobs := rfl
@[simp] theorem State.setTag_errRings (i n : Nat) (e : TagEntry) : (s.setTag i n e).errRings = s.errRings := rfl
@[simp] theorem State.setTag_wingLogs (i n : Nat) (e : TagEntry) : (s.setTag i n e).wingLogs = s.wingLogs := rfl
@[simp] theorem State.setTag_errInFlight (i n : Nat) (e : TagEntry) : (s.setTag i n e).errInFlight = s.errInFlight := rfl
@[simp] theorem State.setTag_deviceLog (i n : Nat) (e : TagEntry) : (s.setTag i n e).deviceLog = s.deviceLog := rfl
@[simp] theorem State.setTag_flashLog (i n : Nat) (e : TagEntry) : (s.setTag i n e).flashLog = s.flashLog := rfl
@[simp] theorem State.setTag_deviceSeq (i n : Nat) (e : TagEntry) : (s.setTag i n e).deviceSeq = s.deviceSeq := rfl
@[simp] theorem State.setTag_ceWindows (i n : Nat) (e : TagEntry) : (s.setTag i n e).ceWindows = s.ceWindows := rfl
@[simp] theorem State.setTag_power (i n : Nat) (e : TagEntry) : (s.setTag i n e).power = s.power := rfl
@[simp] theorem State.setTag_therm (i n : Nat) (e : TagEntry) : (s.setTag i n e).therm = s.therm := rfl
@[simp] theorem State.setTag_boot (i n : Nat) (e : TagEntry) : (s.setTag i n e).boot = s.boot := rfl
@[simp] theorem State.setTag_aon (i n : Nat) (e : TagEntry) : (s.setTag i n e).aon = s.aon := rfl
@[simp] theorem State.setTag_flash (i n : Nat) (e : TagEntry) : (s.setTag i n e).flash = s.flash := rfl
@[simp] theorem State.setTag_flashLogs (i n : Nat) (e : TagEntry) : (s.setTag i n e).flashLogs = s.flashLogs := rfl
@[simp] theorem State.setTag_plan (i n : Nat) (e : TagEntry) : (s.setTag i n e).plan = s.plan := rfl
@[simp] theorem State.setTag_planGen (i n : Nat) (e : TagEntry) : (s.setTag i n e).planGen = s.planGen := rfl
@[simp] theorem State.setTag_planTime (i n : Nat) (e : TagEntry) : (s.setTag i n e).planTime = s.planTime := rfl
@[simp] theorem State.setTag_live (i n : Nat) (e : TagEntry) : (s.setTag i n e).live = s.live := rfl
@[simp] theorem State.setTag_mailboxStudy (i n : Nat) (e : TagEntry) : (s.setTag i n e).mailboxStudy = s.mailboxStudy := rfl
@[simp] theorem State.setTag_remaps (i n : Nat) (e : TagEntry) : (s.setTag i n e).remaps = s.remaps := rfl
@[simp] theorem State.setTag_test (i n : Nat) (e : TagEntry) : (s.setTag i n e).test = s.test := rfl
@[simp] theorem State.setTag_pcies (i n : Nat) (e : TagEntry) : (s.setTag i n e).pcies = s.pcies := rfl
@[simp] theorem State.setTag_guards (i n : Nat) (e : TagEntry) : (s.setTag i n e).guards = s.guards := rfl

@[simp] theorem State.send_pending (m : Sent) : (s.send m).pending = s.pending := rfl
@[simp] theorem State.send_fuses (m : Sent) : (s.send m).fuses = s.fuses := rfl
@[simp] theorem State.send_devId (m : Sent) : (s.send m).devId = s.devId := rfl
@[simp] theorem State.send_now (m : Sent) : (s.send m).now = s.now := rfl
@[simp] theorem State.send_free (m : Sent) : (s.send m).free = s.free := rfl
@[simp] theorem State.send_mem (m : Sent) : (s.send m).mem = s.mem := rfl
@[simp] theorem State.send_poison (m : Sent) : (s.send m).poison = s.poison := rfl
@[simp] theorem State.send_regs (m : Sent) : (s.send m).regs = s.regs := rfl
@[simp] theorem State.send_harts (m : Sent) : (s.send m).harts = s.harts := rfl
@[simp] theorem State.send_rooms (m : Sent) : (s.send m).rooms = s.rooms := rfl
@[simp] theorem State.send_tags (m : Sent) : (s.send m).tags = s.tags := rfl
@[simp] theorem State.send_reqs (m : Sent) : (s.send m).reqs = s.reqs := rfl
@[simp] theorem State.send_exitMsgs (m : Sent) : (s.send m).exitMsgs = s.exitMsgs := rfl
@[simp] theorem State.send_caches (m : Sent) : (s.send m).caches = s.caches := rfl
@[simp] theorem State.send_colls (m : Sent) : (s.send m).colls = s.colls := rfl
@[simp] theorem State.send_insts (m : Sent) : (s.send m).insts = s.insts := rfl
@[simp] theorem State.send_keptEnds (m : Sent) : (s.send m).keptEnds = s.keptEnds := rfl
@[simp] theorem State.send_arrays (m : Sent) : (s.send m).arrays = s.arrays := rfl
@[simp] theorem State.send_attics (m : Sent) : (s.send m).attics = s.attics := rfl
@[simp] theorem State.send_regqs (m : Sent) : (s.send m).regqs = s.regqs := rfl
@[simp] theorem State.send_avus (m : Sent) : (s.send m).avus = s.avus := rfl
@[simp] theorem State.send_trees (m : Sent) : (s.send m).trees = s.trees := rfl
@[simp] theorem State.send_dws (m : Sent) : (s.send m).dws = s.dws := rfl
@[simp] theorem State.send_dwOrder (m : Sent) : (s.send m).dwOrder = s.dwOrder := rfl
@[simp] theorem State.send_wings (m : Sent) : (s.send m).wings = s.wings := rfl
@[simp] theorem State.send_halls (m : Sent) : (s.send m).halls = s.halls := rfl
@[simp] theorem State.send_modules (m : Sent) : (s.send m).modules = s.modules := rfl
@[simp] theorem State.send_dies (m : Sent) : (s.send m).dies = s.dies := rfl
@[simp] theorem State.send_idBlocks (m : Sent) : (s.send m).idBlocks = s.idBlocks := rfl
@[simp] theorem State.send_links (m : Sent) : (s.send m).links = s.links := rfl
@[simp] theorem State.send_fabric (m : Sent) : (s.send m).fabric = s.fabric := rfl
@[simp] theorem State.send_bootCount (m : Sent) : (s.send m).bootCount = s.bootCount := rfl
@[simp] theorem State.send_absentDevs (m : Sent) : (s.send m).absentDevs = s.absentDevs := rfl
@[simp] theorem State.send_mailboxes (m : Sent) : (s.send m).mailboxes = s.mailboxes := rfl
@[simp] theorem State.send_doors (m : Sent) : (s.send m).doors = s.doors := rfl
@[simp] theorem State.send_sqs (m : Sent) : (s.send m).sqs = s.sqs := rfl
@[simp] theorem State.send_cqs (m : Sent) : (s.send m).cqs = s.cqs := rfl
@[simp] theorem State.send_descs (m : Sent) : (s.send m).descs = s.descs := rfl
@[simp] theorem State.send_nextDesc (m : Sent) : (s.send m).nextDesc = s.nextDesc := rfl
@[simp] theorem State.send_completions (m : Sent) : (s.send m).completions = s.completions := rfl
@[simp] theorem State.send_jobs (m : Sent) : (s.send m).jobs = s.jobs := rfl
@[simp] theorem State.send_errRings (m : Sent) : (s.send m).errRings = s.errRings := rfl
@[simp] theorem State.send_wingLogs (m : Sent) : (s.send m).wingLogs = s.wingLogs := rfl
@[simp] theorem State.send_errInFlight (m : Sent) : (s.send m).errInFlight = s.errInFlight := rfl
@[simp] theorem State.send_deviceLog (m : Sent) : (s.send m).deviceLog = s.deviceLog := rfl
@[simp] theorem State.send_flashLog (m : Sent) : (s.send m).flashLog = s.flashLog := rfl
@[simp] theorem State.send_deviceSeq (m : Sent) : (s.send m).deviceSeq = s.deviceSeq := rfl
@[simp] theorem State.send_ceWindows (m : Sent) : (s.send m).ceWindows = s.ceWindows := rfl
@[simp] theorem State.send_power (m : Sent) : (s.send m).power = s.power := rfl
@[simp] theorem State.send_therm (m : Sent) : (s.send m).therm = s.therm := rfl
@[simp] theorem State.send_boot (m : Sent) : (s.send m).boot = s.boot := rfl
@[simp] theorem State.send_aon (m : Sent) : (s.send m).aon = s.aon := rfl
@[simp] theorem State.send_flash (m : Sent) : (s.send m).flash = s.flash := rfl
@[simp] theorem State.send_flashLogs (m : Sent) : (s.send m).flashLogs = s.flashLogs := rfl
@[simp] theorem State.send_plan (m : Sent) : (s.send m).plan = s.plan := rfl
@[simp] theorem State.send_planGen (m : Sent) : (s.send m).planGen = s.planGen := rfl
@[simp] theorem State.send_planTime (m : Sent) : (s.send m).planTime = s.planTime := rfl
@[simp] theorem State.send_live (m : Sent) : (s.send m).live = s.live := rfl
@[simp] theorem State.send_mailboxStudy (m : Sent) : (s.send m).mailboxStudy = s.mailboxStudy := rfl
@[simp] theorem State.send_remaps (m : Sent) : (s.send m).remaps = s.remaps := rfl
@[simp] theorem State.send_test (m : Sent) : (s.send m).test = s.test := rfl
@[simp] theorem State.send_pcies (m : Sent) : (s.send m).pcies = s.pcies := rfl
@[simp] theorem State.send_guards (m : Sent) : (s.send m).guards = s.guards := rfl

@[simp] theorem State.modRegq_pending (k : Nat) (f : RegQ → RegQ) : (s.modRegq k f).pending = s.pending := rfl
@[simp] theorem State.modRegq_fuses (k : Nat) (f : RegQ → RegQ) : (s.modRegq k f).fuses = s.fuses := rfl
@[simp] theorem State.modRegq_devId (k : Nat) (f : RegQ → RegQ) : (s.modRegq k f).devId = s.devId := rfl
@[simp] theorem State.modRegq_now (k : Nat) (f : RegQ → RegQ) : (s.modRegq k f).now = s.now := rfl
@[simp] theorem State.modRegq_free (k : Nat) (f : RegQ → RegQ) : (s.modRegq k f).free = s.free := rfl
@[simp] theorem State.modRegq_mem (k : Nat) (f : RegQ → RegQ) : (s.modRegq k f).mem = s.mem := rfl
@[simp] theorem State.modRegq_poison (k : Nat) (f : RegQ → RegQ) : (s.modRegq k f).poison = s.poison := rfl
@[simp] theorem State.modRegq_regs (k : Nat) (f : RegQ → RegQ) : (s.modRegq k f).regs = s.regs := rfl
@[simp] theorem State.modRegq_harts (k : Nat) (f : RegQ → RegQ) : (s.modRegq k f).harts = s.harts := rfl
@[simp] theorem State.modRegq_rooms (k : Nat) (f : RegQ → RegQ) : (s.modRegq k f).rooms = s.rooms := rfl
@[simp] theorem State.modRegq_tags (k : Nat) (f : RegQ → RegQ) : (s.modRegq k f).tags = s.tags := rfl
@[simp] theorem State.modRegq_reqs (k : Nat) (f : RegQ → RegQ) : (s.modRegq k f).reqs = s.reqs := rfl
@[simp] theorem State.modRegq_exitMsgs (k : Nat) (f : RegQ → RegQ) : (s.modRegq k f).exitMsgs = s.exitMsgs := rfl
@[simp] theorem State.modRegq_caches (k : Nat) (f : RegQ → RegQ) : (s.modRegq k f).caches = s.caches := rfl
@[simp] theorem State.modRegq_sent (k : Nat) (f : RegQ → RegQ) : (s.modRegq k f).sent = s.sent := rfl
@[simp] theorem State.modRegq_colls (k : Nat) (f : RegQ → RegQ) : (s.modRegq k f).colls = s.colls := rfl
@[simp] theorem State.modRegq_insts (k : Nat) (f : RegQ → RegQ) : (s.modRegq k f).insts = s.insts := rfl
@[simp] theorem State.modRegq_keptEnds (k : Nat) (f : RegQ → RegQ) : (s.modRegq k f).keptEnds = s.keptEnds := rfl
@[simp] theorem State.modRegq_arrays (k : Nat) (f : RegQ → RegQ) : (s.modRegq k f).arrays = s.arrays := rfl
@[simp] theorem State.modRegq_attics (k : Nat) (f : RegQ → RegQ) : (s.modRegq k f).attics = s.attics := rfl
@[simp] theorem State.modRegq_avus (k : Nat) (f : RegQ → RegQ) : (s.modRegq k f).avus = s.avus := rfl
@[simp] theorem State.modRegq_trees (k : Nat) (f : RegQ → RegQ) : (s.modRegq k f).trees = s.trees := rfl
@[simp] theorem State.modRegq_dws (k : Nat) (f : RegQ → RegQ) : (s.modRegq k f).dws = s.dws := rfl
@[simp] theorem State.modRegq_dwOrder (k : Nat) (f : RegQ → RegQ) : (s.modRegq k f).dwOrder = s.dwOrder := rfl
@[simp] theorem State.modRegq_wings (k : Nat) (f : RegQ → RegQ) : (s.modRegq k f).wings = s.wings := rfl
@[simp] theorem State.modRegq_halls (k : Nat) (f : RegQ → RegQ) : (s.modRegq k f).halls = s.halls := rfl
@[simp] theorem State.modRegq_modules (k : Nat) (f : RegQ → RegQ) : (s.modRegq k f).modules = s.modules := rfl
@[simp] theorem State.modRegq_dies (k : Nat) (f : RegQ → RegQ) : (s.modRegq k f).dies = s.dies := rfl
@[simp] theorem State.modRegq_idBlocks (k : Nat) (f : RegQ → RegQ) : (s.modRegq k f).idBlocks = s.idBlocks := rfl
@[simp] theorem State.modRegq_links (k : Nat) (f : RegQ → RegQ) : (s.modRegq k f).links = s.links := rfl
@[simp] theorem State.modRegq_fabric (k : Nat) (f : RegQ → RegQ) : (s.modRegq k f).fabric = s.fabric := rfl
@[simp] theorem State.modRegq_bootCount (k : Nat) (f : RegQ → RegQ) : (s.modRegq k f).bootCount = s.bootCount := rfl
@[simp] theorem State.modRegq_absentDevs (k : Nat) (f : RegQ → RegQ) : (s.modRegq k f).absentDevs = s.absentDevs := rfl
@[simp] theorem State.modRegq_mailboxes (k : Nat) (f : RegQ → RegQ) : (s.modRegq k f).mailboxes = s.mailboxes := rfl
@[simp] theorem State.modRegq_doors (k : Nat) (f : RegQ → RegQ) : (s.modRegq k f).doors = s.doors := rfl
@[simp] theorem State.modRegq_sqs (k : Nat) (f : RegQ → RegQ) : (s.modRegq k f).sqs = s.sqs := rfl
@[simp] theorem State.modRegq_cqs (k : Nat) (f : RegQ → RegQ) : (s.modRegq k f).cqs = s.cqs := rfl
@[simp] theorem State.modRegq_descs (k : Nat) (f : RegQ → RegQ) : (s.modRegq k f).descs = s.descs := rfl
@[simp] theorem State.modRegq_nextDesc (k : Nat) (f : RegQ → RegQ) : (s.modRegq k f).nextDesc = s.nextDesc := rfl
@[simp] theorem State.modRegq_completions (k : Nat) (f : RegQ → RegQ) : (s.modRegq k f).completions = s.completions := rfl
@[simp] theorem State.modRegq_jobs (k : Nat) (f : RegQ → RegQ) : (s.modRegq k f).jobs = s.jobs := rfl
@[simp] theorem State.modRegq_errRings (k : Nat) (f : RegQ → RegQ) : (s.modRegq k f).errRings = s.errRings := rfl
@[simp] theorem State.modRegq_wingLogs (k : Nat) (f : RegQ → RegQ) : (s.modRegq k f).wingLogs = s.wingLogs := rfl
@[simp] theorem State.modRegq_errInFlight (k : Nat) (f : RegQ → RegQ) : (s.modRegq k f).errInFlight = s.errInFlight := rfl
@[simp] theorem State.modRegq_deviceLog (k : Nat) (f : RegQ → RegQ) : (s.modRegq k f).deviceLog = s.deviceLog := rfl
@[simp] theorem State.modRegq_flashLog (k : Nat) (f : RegQ → RegQ) : (s.modRegq k f).flashLog = s.flashLog := rfl
@[simp] theorem State.modRegq_deviceSeq (k : Nat) (f : RegQ → RegQ) : (s.modRegq k f).deviceSeq = s.deviceSeq := rfl
@[simp] theorem State.modRegq_ceWindows (k : Nat) (f : RegQ → RegQ) : (s.modRegq k f).ceWindows = s.ceWindows := rfl
@[simp] theorem State.modRegq_power (k : Nat) (f : RegQ → RegQ) : (s.modRegq k f).power = s.power := rfl
@[simp] theorem State.modRegq_therm (k : Nat) (f : RegQ → RegQ) : (s.modRegq k f).therm = s.therm := rfl
@[simp] theorem State.modRegq_boot (k : Nat) (f : RegQ → RegQ) : (s.modRegq k f).boot = s.boot := rfl
@[simp] theorem State.modRegq_aon (k : Nat) (f : RegQ → RegQ) : (s.modRegq k f).aon = s.aon := rfl
@[simp] theorem State.modRegq_flash (k : Nat) (f : RegQ → RegQ) : (s.modRegq k f).flash = s.flash := rfl
@[simp] theorem State.modRegq_flashLogs (k : Nat) (f : RegQ → RegQ) : (s.modRegq k f).flashLogs = s.flashLogs := rfl
@[simp] theorem State.modRegq_plan (k : Nat) (f : RegQ → RegQ) : (s.modRegq k f).plan = s.plan := rfl
@[simp] theorem State.modRegq_planGen (k : Nat) (f : RegQ → RegQ) : (s.modRegq k f).planGen = s.planGen := rfl
@[simp] theorem State.modRegq_planTime (k : Nat) (f : RegQ → RegQ) : (s.modRegq k f).planTime = s.planTime := rfl
@[simp] theorem State.modRegq_live (k : Nat) (f : RegQ → RegQ) : (s.modRegq k f).live = s.live := rfl
@[simp] theorem State.modRegq_mailboxStudy (k : Nat) (f : RegQ → RegQ) : (s.modRegq k f).mailboxStudy = s.mailboxStudy := rfl
@[simp] theorem State.modRegq_remaps (k : Nat) (f : RegQ → RegQ) : (s.modRegq k f).remaps = s.remaps := rfl
@[simp] theorem State.modRegq_test (k : Nat) (f : RegQ → RegQ) : (s.modRegq k f).test = s.test := rfl
@[simp] theorem State.modRegq_pcies (k : Nat) (f : RegQ → RegQ) : (s.modRegq k f).pcies = s.pcies := rfl
@[simp] theorem State.modRegq_guards (k : Nat) (f : RegQ → RegQ) : (s.modRegq k f).guards = s.guards := rfl

@[simp] theorem State.modHall_pending (w : Nat) (f : HallB → HallB) : (s.modHall w f).pending = s.pending := rfl
@[simp] theorem State.modHall_fuses (w : Nat) (f : HallB → HallB) : (s.modHall w f).fuses = s.fuses := rfl
@[simp] theorem State.modHall_devId (w : Nat) (f : HallB → HallB) : (s.modHall w f).devId = s.devId := rfl
@[simp] theorem State.modHall_now (w : Nat) (f : HallB → HallB) : (s.modHall w f).now = s.now := rfl
@[simp] theorem State.modHall_free (w : Nat) (f : HallB → HallB) : (s.modHall w f).free = s.free := rfl
@[simp] theorem State.modHall_mem (w : Nat) (f : HallB → HallB) : (s.modHall w f).mem = s.mem := rfl
@[simp] theorem State.modHall_poison (w : Nat) (f : HallB → HallB) : (s.modHall w f).poison = s.poison := rfl
@[simp] theorem State.modHall_regs (w : Nat) (f : HallB → HallB) : (s.modHall w f).regs = s.regs := rfl
@[simp] theorem State.modHall_harts (w : Nat) (f : HallB → HallB) : (s.modHall w f).harts = s.harts := rfl
@[simp] theorem State.modHall_rooms (w : Nat) (f : HallB → HallB) : (s.modHall w f).rooms = s.rooms := rfl
@[simp] theorem State.modHall_tags (w : Nat) (f : HallB → HallB) : (s.modHall w f).tags = s.tags := rfl
@[simp] theorem State.modHall_reqs (w : Nat) (f : HallB → HallB) : (s.modHall w f).reqs = s.reqs := rfl
@[simp] theorem State.modHall_exitMsgs (w : Nat) (f : HallB → HallB) : (s.modHall w f).exitMsgs = s.exitMsgs := rfl
@[simp] theorem State.modHall_caches (w : Nat) (f : HallB → HallB) : (s.modHall w f).caches = s.caches := rfl
@[simp] theorem State.modHall_sent (w : Nat) (f : HallB → HallB) : (s.modHall w f).sent = s.sent := rfl
@[simp] theorem State.modHall_colls (w : Nat) (f : HallB → HallB) : (s.modHall w f).colls = s.colls := rfl
@[simp] theorem State.modHall_insts (w : Nat) (f : HallB → HallB) : (s.modHall w f).insts = s.insts := rfl
@[simp] theorem State.modHall_keptEnds (w : Nat) (f : HallB → HallB) : (s.modHall w f).keptEnds = s.keptEnds := rfl
@[simp] theorem State.modHall_arrays (w : Nat) (f : HallB → HallB) : (s.modHall w f).arrays = s.arrays := rfl
@[simp] theorem State.modHall_attics (w : Nat) (f : HallB → HallB) : (s.modHall w f).attics = s.attics := rfl
@[simp] theorem State.modHall_regqs (w : Nat) (f : HallB → HallB) : (s.modHall w f).regqs = s.regqs := rfl
@[simp] theorem State.modHall_avus (w : Nat) (f : HallB → HallB) : (s.modHall w f).avus = s.avus := rfl
@[simp] theorem State.modHall_trees (w : Nat) (f : HallB → HallB) : (s.modHall w f).trees = s.trees := rfl
@[simp] theorem State.modHall_dws (w : Nat) (f : HallB → HallB) : (s.modHall w f).dws = s.dws := rfl
@[simp] theorem State.modHall_dwOrder (w : Nat) (f : HallB → HallB) : (s.modHall w f).dwOrder = s.dwOrder := rfl
@[simp] theorem State.modHall_wings (w : Nat) (f : HallB → HallB) : (s.modHall w f).wings = s.wings := rfl
@[simp] theorem State.modHall_modules (w : Nat) (f : HallB → HallB) : (s.modHall w f).modules = s.modules := rfl
@[simp] theorem State.modHall_dies (w : Nat) (f : HallB → HallB) : (s.modHall w f).dies = s.dies := rfl
@[simp] theorem State.modHall_idBlocks (w : Nat) (f : HallB → HallB) : (s.modHall w f).idBlocks = s.idBlocks := rfl
@[simp] theorem State.modHall_links (w : Nat) (f : HallB → HallB) : (s.modHall w f).links = s.links := rfl
@[simp] theorem State.modHall_fabric (w : Nat) (f : HallB → HallB) : (s.modHall w f).fabric = s.fabric := rfl
@[simp] theorem State.modHall_bootCount (w : Nat) (f : HallB → HallB) : (s.modHall w f).bootCount = s.bootCount := rfl
@[simp] theorem State.modHall_absentDevs (w : Nat) (f : HallB → HallB) : (s.modHall w f).absentDevs = s.absentDevs := rfl
@[simp] theorem State.modHall_mailboxes (w : Nat) (f : HallB → HallB) : (s.modHall w f).mailboxes = s.mailboxes := rfl
@[simp] theorem State.modHall_doors (w : Nat) (f : HallB → HallB) : (s.modHall w f).doors = s.doors := rfl
@[simp] theorem State.modHall_sqs (w : Nat) (f : HallB → HallB) : (s.modHall w f).sqs = s.sqs := rfl
@[simp] theorem State.modHall_cqs (w : Nat) (f : HallB → HallB) : (s.modHall w f).cqs = s.cqs := rfl
@[simp] theorem State.modHall_descs (w : Nat) (f : HallB → HallB) : (s.modHall w f).descs = s.descs := rfl
@[simp] theorem State.modHall_nextDesc (w : Nat) (f : HallB → HallB) : (s.modHall w f).nextDesc = s.nextDesc := rfl
@[simp] theorem State.modHall_completions (w : Nat) (f : HallB → HallB) : (s.modHall w f).completions = s.completions := rfl
@[simp] theorem State.modHall_jobs (w : Nat) (f : HallB → HallB) : (s.modHall w f).jobs = s.jobs := rfl
@[simp] theorem State.modHall_errRings (w : Nat) (f : HallB → HallB) : (s.modHall w f).errRings = s.errRings := rfl
@[simp] theorem State.modHall_wingLogs (w : Nat) (f : HallB → HallB) : (s.modHall w f).wingLogs = s.wingLogs := rfl
@[simp] theorem State.modHall_errInFlight (w : Nat) (f : HallB → HallB) : (s.modHall w f).errInFlight = s.errInFlight := rfl
@[simp] theorem State.modHall_deviceLog (w : Nat) (f : HallB → HallB) : (s.modHall w f).deviceLog = s.deviceLog := rfl
@[simp] theorem State.modHall_flashLog (w : Nat) (f : HallB → HallB) : (s.modHall w f).flashLog = s.flashLog := rfl
@[simp] theorem State.modHall_deviceSeq (w : Nat) (f : HallB → HallB) : (s.modHall w f).deviceSeq = s.deviceSeq := rfl
@[simp] theorem State.modHall_ceWindows (w : Nat) (f : HallB → HallB) : (s.modHall w f).ceWindows = s.ceWindows := rfl
@[simp] theorem State.modHall_power (w : Nat) (f : HallB → HallB) : (s.modHall w f).power = s.power := rfl
@[simp] theorem State.modHall_therm (w : Nat) (f : HallB → HallB) : (s.modHall w f).therm = s.therm := rfl
@[simp] theorem State.modHall_boot (w : Nat) (f : HallB → HallB) : (s.modHall w f).boot = s.boot := rfl
@[simp] theorem State.modHall_aon (w : Nat) (f : HallB → HallB) : (s.modHall w f).aon = s.aon := rfl
@[simp] theorem State.modHall_flash (w : Nat) (f : HallB → HallB) : (s.modHall w f).flash = s.flash := rfl
@[simp] theorem State.modHall_flashLogs (w : Nat) (f : HallB → HallB) : (s.modHall w f).flashLogs = s.flashLogs := rfl
@[simp] theorem State.modHall_plan (w : Nat) (f : HallB → HallB) : (s.modHall w f).plan = s.plan := rfl
@[simp] theorem State.modHall_planGen (w : Nat) (f : HallB → HallB) : (s.modHall w f).planGen = s.planGen := rfl
@[simp] theorem State.modHall_planTime (w : Nat) (f : HallB → HallB) : (s.modHall w f).planTime = s.planTime := rfl
@[simp] theorem State.modHall_live (w : Nat) (f : HallB → HallB) : (s.modHall w f).live = s.live := rfl
@[simp] theorem State.modHall_mailboxStudy (w : Nat) (f : HallB → HallB) : (s.modHall w f).mailboxStudy = s.mailboxStudy := rfl
@[simp] theorem State.modHall_remaps (w : Nat) (f : HallB → HallB) : (s.modHall w f).remaps = s.remaps := rfl
@[simp] theorem State.modHall_test (w : Nat) (f : HallB → HallB) : (s.modHall w f).test = s.test := rfl
@[simp] theorem State.modHall_pcies (w : Nat) (f : HallB → HallB) : (s.modHall w f).pcies = s.pcies := rfl
@[simp] theorem State.modHall_guards (w : Nat) (f : HallB → HallB) : (s.modHall w f).guards = s.guards := rfl

@[simp] theorem State.modModule_pending (k : Nat) (f : ModuleB → ModuleB) : (s.modModule k f).pending = s.pending := rfl
@[simp] theorem State.modModule_fuses (k : Nat) (f : ModuleB → ModuleB) : (s.modModule k f).fuses = s.fuses := rfl
@[simp] theorem State.modModule_devId (k : Nat) (f : ModuleB → ModuleB) : (s.modModule k f).devId = s.devId := rfl
@[simp] theorem State.modModule_now (k : Nat) (f : ModuleB → ModuleB) : (s.modModule k f).now = s.now := rfl
@[simp] theorem State.modModule_free (k : Nat) (f : ModuleB → ModuleB) : (s.modModule k f).free = s.free := rfl
@[simp] theorem State.modModule_mem (k : Nat) (f : ModuleB → ModuleB) : (s.modModule k f).mem = s.mem := rfl
@[simp] theorem State.modModule_poison (k : Nat) (f : ModuleB → ModuleB) : (s.modModule k f).poison = s.poison := rfl
@[simp] theorem State.modModule_regs (k : Nat) (f : ModuleB → ModuleB) : (s.modModule k f).regs = s.regs := rfl
@[simp] theorem State.modModule_harts (k : Nat) (f : ModuleB → ModuleB) : (s.modModule k f).harts = s.harts := rfl
@[simp] theorem State.modModule_rooms (k : Nat) (f : ModuleB → ModuleB) : (s.modModule k f).rooms = s.rooms := rfl
@[simp] theorem State.modModule_tags (k : Nat) (f : ModuleB → ModuleB) : (s.modModule k f).tags = s.tags := rfl
@[simp] theorem State.modModule_reqs (k : Nat) (f : ModuleB → ModuleB) : (s.modModule k f).reqs = s.reqs := rfl
@[simp] theorem State.modModule_exitMsgs (k : Nat) (f : ModuleB → ModuleB) : (s.modModule k f).exitMsgs = s.exitMsgs := rfl
@[simp] theorem State.modModule_caches (k : Nat) (f : ModuleB → ModuleB) : (s.modModule k f).caches = s.caches := rfl
@[simp] theorem State.modModule_sent (k : Nat) (f : ModuleB → ModuleB) : (s.modModule k f).sent = s.sent := rfl
@[simp] theorem State.modModule_colls (k : Nat) (f : ModuleB → ModuleB) : (s.modModule k f).colls = s.colls := rfl
@[simp] theorem State.modModule_insts (k : Nat) (f : ModuleB → ModuleB) : (s.modModule k f).insts = s.insts := rfl
@[simp] theorem State.modModule_keptEnds (k : Nat) (f : ModuleB → ModuleB) : (s.modModule k f).keptEnds = s.keptEnds := rfl
@[simp] theorem State.modModule_arrays (k : Nat) (f : ModuleB → ModuleB) : (s.modModule k f).arrays = s.arrays := rfl
@[simp] theorem State.modModule_attics (k : Nat) (f : ModuleB → ModuleB) : (s.modModule k f).attics = s.attics := rfl
@[simp] theorem State.modModule_regqs (k : Nat) (f : ModuleB → ModuleB) : (s.modModule k f).regqs = s.regqs := rfl
@[simp] theorem State.modModule_avus (k : Nat) (f : ModuleB → ModuleB) : (s.modModule k f).avus = s.avus := rfl
@[simp] theorem State.modModule_trees (k : Nat) (f : ModuleB → ModuleB) : (s.modModule k f).trees = s.trees := rfl
@[simp] theorem State.modModule_dws (k : Nat) (f : ModuleB → ModuleB) : (s.modModule k f).dws = s.dws := rfl
@[simp] theorem State.modModule_dwOrder (k : Nat) (f : ModuleB → ModuleB) : (s.modModule k f).dwOrder = s.dwOrder := rfl
@[simp] theorem State.modModule_wings (k : Nat) (f : ModuleB → ModuleB) : (s.modModule k f).wings = s.wings := rfl
@[simp] theorem State.modModule_halls (k : Nat) (f : ModuleB → ModuleB) : (s.modModule k f).halls = s.halls := rfl
@[simp] theorem State.modModule_dies (k : Nat) (f : ModuleB → ModuleB) : (s.modModule k f).dies = s.dies := rfl
@[simp] theorem State.modModule_idBlocks (k : Nat) (f : ModuleB → ModuleB) : (s.modModule k f).idBlocks = s.idBlocks := rfl
@[simp] theorem State.modModule_links (k : Nat) (f : ModuleB → ModuleB) : (s.modModule k f).links = s.links := rfl
@[simp] theorem State.modModule_fabric (k : Nat) (f : ModuleB → ModuleB) : (s.modModule k f).fabric = s.fabric := rfl
@[simp] theorem State.modModule_bootCount (k : Nat) (f : ModuleB → ModuleB) : (s.modModule k f).bootCount = s.bootCount := rfl
@[simp] theorem State.modModule_absentDevs (k : Nat) (f : ModuleB → ModuleB) : (s.modModule k f).absentDevs = s.absentDevs := rfl
@[simp] theorem State.modModule_mailboxes (k : Nat) (f : ModuleB → ModuleB) : (s.modModule k f).mailboxes = s.mailboxes := rfl
@[simp] theorem State.modModule_doors (k : Nat) (f : ModuleB → ModuleB) : (s.modModule k f).doors = s.doors := rfl
@[simp] theorem State.modModule_sqs (k : Nat) (f : ModuleB → ModuleB) : (s.modModule k f).sqs = s.sqs := rfl
@[simp] theorem State.modModule_cqs (k : Nat) (f : ModuleB → ModuleB) : (s.modModule k f).cqs = s.cqs := rfl
@[simp] theorem State.modModule_descs (k : Nat) (f : ModuleB → ModuleB) : (s.modModule k f).descs = s.descs := rfl
@[simp] theorem State.modModule_nextDesc (k : Nat) (f : ModuleB → ModuleB) : (s.modModule k f).nextDesc = s.nextDesc := rfl
@[simp] theorem State.modModule_completions (k : Nat) (f : ModuleB → ModuleB) : (s.modModule k f).completions = s.completions := rfl
@[simp] theorem State.modModule_jobs (k : Nat) (f : ModuleB → ModuleB) : (s.modModule k f).jobs = s.jobs := rfl
@[simp] theorem State.modModule_errRings (k : Nat) (f : ModuleB → ModuleB) : (s.modModule k f).errRings = s.errRings := rfl
@[simp] theorem State.modModule_wingLogs (k : Nat) (f : ModuleB → ModuleB) : (s.modModule k f).wingLogs = s.wingLogs := rfl
@[simp] theorem State.modModule_errInFlight (k : Nat) (f : ModuleB → ModuleB) : (s.modModule k f).errInFlight = s.errInFlight := rfl
@[simp] theorem State.modModule_deviceLog (k : Nat) (f : ModuleB → ModuleB) : (s.modModule k f).deviceLog = s.deviceLog := rfl
@[simp] theorem State.modModule_flashLog (k : Nat) (f : ModuleB → ModuleB) : (s.modModule k f).flashLog = s.flashLog := rfl
@[simp] theorem State.modModule_deviceSeq (k : Nat) (f : ModuleB → ModuleB) : (s.modModule k f).deviceSeq = s.deviceSeq := rfl
@[simp] theorem State.modModule_ceWindows (k : Nat) (f : ModuleB → ModuleB) : (s.modModule k f).ceWindows = s.ceWindows := rfl
@[simp] theorem State.modModule_power (k : Nat) (f : ModuleB → ModuleB) : (s.modModule k f).power = s.power := rfl
@[simp] theorem State.modModule_therm (k : Nat) (f : ModuleB → ModuleB) : (s.modModule k f).therm = s.therm := rfl
@[simp] theorem State.modModule_boot (k : Nat) (f : ModuleB → ModuleB) : (s.modModule k f).boot = s.boot := rfl
@[simp] theorem State.modModule_aon (k : Nat) (f : ModuleB → ModuleB) : (s.modModule k f).aon = s.aon := rfl
@[simp] theorem State.modModule_flash (k : Nat) (f : ModuleB → ModuleB) : (s.modModule k f).flash = s.flash := rfl
@[simp] theorem State.modModule_flashLogs (k : Nat) (f : ModuleB → ModuleB) : (s.modModule k f).flashLogs = s.flashLogs := rfl
@[simp] theorem State.modModule_plan (k : Nat) (f : ModuleB → ModuleB) : (s.modModule k f).plan = s.plan := rfl
@[simp] theorem State.modModule_planGen (k : Nat) (f : ModuleB → ModuleB) : (s.modModule k f).planGen = s.planGen := rfl
@[simp] theorem State.modModule_planTime (k : Nat) (f : ModuleB → ModuleB) : (s.modModule k f).planTime = s.planTime := rfl
@[simp] theorem State.modModule_live (k : Nat) (f : ModuleB → ModuleB) : (s.modModule k f).live = s.live := rfl
@[simp] theorem State.modModule_mailboxStudy (k : Nat) (f : ModuleB → ModuleB) : (s.modModule k f).mailboxStudy = s.mailboxStudy := rfl
@[simp] theorem State.modModule_remaps (k : Nat) (f : ModuleB → ModuleB) : (s.modModule k f).remaps = s.remaps := rfl
@[simp] theorem State.modModule_test (k : Nat) (f : ModuleB → ModuleB) : (s.modModule k f).test = s.test := rfl
@[simp] theorem State.modModule_pcies (k : Nat) (f : ModuleB → ModuleB) : (s.modModule k f).pcies = s.pcies := rfl
@[simp] theorem State.modModule_guards (k : Nat) (f : ModuleB → ModuleB) : (s.modModule k f).guards = s.guards := rfl

@[simp] theorem State.modDie_pending (d : Nat) (f : DieB → DieB) : (s.modDie d f).pending = s.pending := rfl
@[simp] theorem State.modDie_fuses (d : Nat) (f : DieB → DieB) : (s.modDie d f).fuses = s.fuses := rfl
@[simp] theorem State.modDie_devId (d : Nat) (f : DieB → DieB) : (s.modDie d f).devId = s.devId := rfl
@[simp] theorem State.modDie_now (d : Nat) (f : DieB → DieB) : (s.modDie d f).now = s.now := rfl
@[simp] theorem State.modDie_free (d : Nat) (f : DieB → DieB) : (s.modDie d f).free = s.free := rfl
@[simp] theorem State.modDie_mem (d : Nat) (f : DieB → DieB) : (s.modDie d f).mem = s.mem := rfl
@[simp] theorem State.modDie_poison (d : Nat) (f : DieB → DieB) : (s.modDie d f).poison = s.poison := rfl
@[simp] theorem State.modDie_regs (d : Nat) (f : DieB → DieB) : (s.modDie d f).regs = s.regs := rfl
@[simp] theorem State.modDie_harts (d : Nat) (f : DieB → DieB) : (s.modDie d f).harts = s.harts := rfl
@[simp] theorem State.modDie_rooms (d : Nat) (f : DieB → DieB) : (s.modDie d f).rooms = s.rooms := rfl
@[simp] theorem State.modDie_tags (d : Nat) (f : DieB → DieB) : (s.modDie d f).tags = s.tags := rfl
@[simp] theorem State.modDie_reqs (d : Nat) (f : DieB → DieB) : (s.modDie d f).reqs = s.reqs := rfl
@[simp] theorem State.modDie_exitMsgs (d : Nat) (f : DieB → DieB) : (s.modDie d f).exitMsgs = s.exitMsgs := rfl
@[simp] theorem State.modDie_caches (d : Nat) (f : DieB → DieB) : (s.modDie d f).caches = s.caches := rfl
@[simp] theorem State.modDie_sent (d : Nat) (f : DieB → DieB) : (s.modDie d f).sent = s.sent := rfl
@[simp] theorem State.modDie_colls (d : Nat) (f : DieB → DieB) : (s.modDie d f).colls = s.colls := rfl
@[simp] theorem State.modDie_insts (d : Nat) (f : DieB → DieB) : (s.modDie d f).insts = s.insts := rfl
@[simp] theorem State.modDie_keptEnds (d : Nat) (f : DieB → DieB) : (s.modDie d f).keptEnds = s.keptEnds := rfl
@[simp] theorem State.modDie_arrays (d : Nat) (f : DieB → DieB) : (s.modDie d f).arrays = s.arrays := rfl
@[simp] theorem State.modDie_attics (d : Nat) (f : DieB → DieB) : (s.modDie d f).attics = s.attics := rfl
@[simp] theorem State.modDie_regqs (d : Nat) (f : DieB → DieB) : (s.modDie d f).regqs = s.regqs := rfl
@[simp] theorem State.modDie_avus (d : Nat) (f : DieB → DieB) : (s.modDie d f).avus = s.avus := rfl
@[simp] theorem State.modDie_trees (d : Nat) (f : DieB → DieB) : (s.modDie d f).trees = s.trees := rfl
@[simp] theorem State.modDie_dws (d : Nat) (f : DieB → DieB) : (s.modDie d f).dws = s.dws := rfl
@[simp] theorem State.modDie_dwOrder (d : Nat) (f : DieB → DieB) : (s.modDie d f).dwOrder = s.dwOrder := rfl
@[simp] theorem State.modDie_wings (d : Nat) (f : DieB → DieB) : (s.modDie d f).wings = s.wings := rfl
@[simp] theorem State.modDie_halls (d : Nat) (f : DieB → DieB) : (s.modDie d f).halls = s.halls := rfl
@[simp] theorem State.modDie_modules (d : Nat) (f : DieB → DieB) : (s.modDie d f).modules = s.modules := rfl
@[simp] theorem State.modDie_idBlocks (d : Nat) (f : DieB → DieB) : (s.modDie d f).idBlocks = s.idBlocks := rfl
@[simp] theorem State.modDie_links (d : Nat) (f : DieB → DieB) : (s.modDie d f).links = s.links := rfl
@[simp] theorem State.modDie_fabric (d : Nat) (f : DieB → DieB) : (s.modDie d f).fabric = s.fabric := rfl
@[simp] theorem State.modDie_bootCount (d : Nat) (f : DieB → DieB) : (s.modDie d f).bootCount = s.bootCount := rfl
@[simp] theorem State.modDie_absentDevs (d : Nat) (f : DieB → DieB) : (s.modDie d f).absentDevs = s.absentDevs := rfl
@[simp] theorem State.modDie_mailboxes (d : Nat) (f : DieB → DieB) : (s.modDie d f).mailboxes = s.mailboxes := rfl
@[simp] theorem State.modDie_doors (d : Nat) (f : DieB → DieB) : (s.modDie d f).doors = s.doors := rfl
@[simp] theorem State.modDie_sqs (d : Nat) (f : DieB → DieB) : (s.modDie d f).sqs = s.sqs := rfl
@[simp] theorem State.modDie_cqs (d : Nat) (f : DieB → DieB) : (s.modDie d f).cqs = s.cqs := rfl
@[simp] theorem State.modDie_descs (d : Nat) (f : DieB → DieB) : (s.modDie d f).descs = s.descs := rfl
@[simp] theorem State.modDie_nextDesc (d : Nat) (f : DieB → DieB) : (s.modDie d f).nextDesc = s.nextDesc := rfl
@[simp] theorem State.modDie_completions (d : Nat) (f : DieB → DieB) : (s.modDie d f).completions = s.completions := rfl
@[simp] theorem State.modDie_jobs (d : Nat) (f : DieB → DieB) : (s.modDie d f).jobs = s.jobs := rfl
@[simp] theorem State.modDie_errRings (d : Nat) (f : DieB → DieB) : (s.modDie d f).errRings = s.errRings := rfl
@[simp] theorem State.modDie_wingLogs (d : Nat) (f : DieB → DieB) : (s.modDie d f).wingLogs = s.wingLogs := rfl
@[simp] theorem State.modDie_errInFlight (d : Nat) (f : DieB → DieB) : (s.modDie d f).errInFlight = s.errInFlight := rfl
@[simp] theorem State.modDie_deviceLog (d : Nat) (f : DieB → DieB) : (s.modDie d f).deviceLog = s.deviceLog := rfl
@[simp] theorem State.modDie_flashLog (d : Nat) (f : DieB → DieB) : (s.modDie d f).flashLog = s.flashLog := rfl
@[simp] theorem State.modDie_deviceSeq (d : Nat) (f : DieB → DieB) : (s.modDie d f).deviceSeq = s.deviceSeq := rfl
@[simp] theorem State.modDie_ceWindows (d : Nat) (f : DieB → DieB) : (s.modDie d f).ceWindows = s.ceWindows := rfl
@[simp] theorem State.modDie_power (d : Nat) (f : DieB → DieB) : (s.modDie d f).power = s.power := rfl
@[simp] theorem State.modDie_therm (d : Nat) (f : DieB → DieB) : (s.modDie d f).therm = s.therm := rfl
@[simp] theorem State.modDie_boot (d : Nat) (f : DieB → DieB) : (s.modDie d f).boot = s.boot := rfl
@[simp] theorem State.modDie_aon (d : Nat) (f : DieB → DieB) : (s.modDie d f).aon = s.aon := rfl
@[simp] theorem State.modDie_flash (d : Nat) (f : DieB → DieB) : (s.modDie d f).flash = s.flash := rfl
@[simp] theorem State.modDie_flashLogs (d : Nat) (f : DieB → DieB) : (s.modDie d f).flashLogs = s.flashLogs := rfl
@[simp] theorem State.modDie_plan (d : Nat) (f : DieB → DieB) : (s.modDie d f).plan = s.plan := rfl
@[simp] theorem State.modDie_planGen (d : Nat) (f : DieB → DieB) : (s.modDie d f).planGen = s.planGen := rfl
@[simp] theorem State.modDie_planTime (d : Nat) (f : DieB → DieB) : (s.modDie d f).planTime = s.planTime := rfl
@[simp] theorem State.modDie_live (d : Nat) (f : DieB → DieB) : (s.modDie d f).live = s.live := rfl
@[simp] theorem State.modDie_mailboxStudy (d : Nat) (f : DieB → DieB) : (s.modDie d f).mailboxStudy = s.mailboxStudy := rfl
@[simp] theorem State.modDie_remaps (d : Nat) (f : DieB → DieB) : (s.modDie d f).remaps = s.remaps := rfl
@[simp] theorem State.modDie_test (d : Nat) (f : DieB → DieB) : (s.modDie d f).test = s.test := rfl
@[simp] theorem State.modDie_pcies (d : Nat) (f : DieB → DieB) : (s.modDie d f).pcies = s.pcies := rfl
@[simp] theorem State.modDie_guards (d : Nat) (f : DieB → DieB) : (s.modDie d f).guards = s.guards := rfl

@[simp] theorem State.modLink_pending (l : Nat) (f : LinkB → LinkB) : (s.modLink l f).pending = s.pending := rfl
@[simp] theorem State.modLink_fuses (l : Nat) (f : LinkB → LinkB) : (s.modLink l f).fuses = s.fuses := rfl
@[simp] theorem State.modLink_devId (l : Nat) (f : LinkB → LinkB) : (s.modLink l f).devId = s.devId := rfl
@[simp] theorem State.modLink_now (l : Nat) (f : LinkB → LinkB) : (s.modLink l f).now = s.now := rfl
@[simp] theorem State.modLink_free (l : Nat) (f : LinkB → LinkB) : (s.modLink l f).free = s.free := rfl
@[simp] theorem State.modLink_mem (l : Nat) (f : LinkB → LinkB) : (s.modLink l f).mem = s.mem := rfl
@[simp] theorem State.modLink_poison (l : Nat) (f : LinkB → LinkB) : (s.modLink l f).poison = s.poison := rfl
@[simp] theorem State.modLink_regs (l : Nat) (f : LinkB → LinkB) : (s.modLink l f).regs = s.regs := rfl
@[simp] theorem State.modLink_harts (l : Nat) (f : LinkB → LinkB) : (s.modLink l f).harts = s.harts := rfl
@[simp] theorem State.modLink_rooms (l : Nat) (f : LinkB → LinkB) : (s.modLink l f).rooms = s.rooms := rfl
@[simp] theorem State.modLink_tags (l : Nat) (f : LinkB → LinkB) : (s.modLink l f).tags = s.tags := rfl
@[simp] theorem State.modLink_reqs (l : Nat) (f : LinkB → LinkB) : (s.modLink l f).reqs = s.reqs := rfl
@[simp] theorem State.modLink_exitMsgs (l : Nat) (f : LinkB → LinkB) : (s.modLink l f).exitMsgs = s.exitMsgs := rfl
@[simp] theorem State.modLink_caches (l : Nat) (f : LinkB → LinkB) : (s.modLink l f).caches = s.caches := rfl
@[simp] theorem State.modLink_sent (l : Nat) (f : LinkB → LinkB) : (s.modLink l f).sent = s.sent := rfl
@[simp] theorem State.modLink_colls (l : Nat) (f : LinkB → LinkB) : (s.modLink l f).colls = s.colls := rfl
@[simp] theorem State.modLink_insts (l : Nat) (f : LinkB → LinkB) : (s.modLink l f).insts = s.insts := rfl
@[simp] theorem State.modLink_keptEnds (l : Nat) (f : LinkB → LinkB) : (s.modLink l f).keptEnds = s.keptEnds := rfl
@[simp] theorem State.modLink_arrays (l : Nat) (f : LinkB → LinkB) : (s.modLink l f).arrays = s.arrays := rfl
@[simp] theorem State.modLink_attics (l : Nat) (f : LinkB → LinkB) : (s.modLink l f).attics = s.attics := rfl
@[simp] theorem State.modLink_regqs (l : Nat) (f : LinkB → LinkB) : (s.modLink l f).regqs = s.regqs := rfl
@[simp] theorem State.modLink_avus (l : Nat) (f : LinkB → LinkB) : (s.modLink l f).avus = s.avus := rfl
@[simp] theorem State.modLink_trees (l : Nat) (f : LinkB → LinkB) : (s.modLink l f).trees = s.trees := rfl
@[simp] theorem State.modLink_dws (l : Nat) (f : LinkB → LinkB) : (s.modLink l f).dws = s.dws := rfl
@[simp] theorem State.modLink_dwOrder (l : Nat) (f : LinkB → LinkB) : (s.modLink l f).dwOrder = s.dwOrder := rfl
@[simp] theorem State.modLink_wings (l : Nat) (f : LinkB → LinkB) : (s.modLink l f).wings = s.wings := rfl
@[simp] theorem State.modLink_halls (l : Nat) (f : LinkB → LinkB) : (s.modLink l f).halls = s.halls := rfl
@[simp] theorem State.modLink_modules (l : Nat) (f : LinkB → LinkB) : (s.modLink l f).modules = s.modules := rfl
@[simp] theorem State.modLink_dies (l : Nat) (f : LinkB → LinkB) : (s.modLink l f).dies = s.dies := rfl
@[simp] theorem State.modLink_idBlocks (l : Nat) (f : LinkB → LinkB) : (s.modLink l f).idBlocks = s.idBlocks := rfl
@[simp] theorem State.modLink_fabric (l : Nat) (f : LinkB → LinkB) : (s.modLink l f).fabric = s.fabric := rfl
@[simp] theorem State.modLink_bootCount (l : Nat) (f : LinkB → LinkB) : (s.modLink l f).bootCount = s.bootCount := rfl
@[simp] theorem State.modLink_absentDevs (l : Nat) (f : LinkB → LinkB) : (s.modLink l f).absentDevs = s.absentDevs := rfl
@[simp] theorem State.modLink_mailboxes (l : Nat) (f : LinkB → LinkB) : (s.modLink l f).mailboxes = s.mailboxes := rfl
@[simp] theorem State.modLink_doors (l : Nat) (f : LinkB → LinkB) : (s.modLink l f).doors = s.doors := rfl
@[simp] theorem State.modLink_sqs (l : Nat) (f : LinkB → LinkB) : (s.modLink l f).sqs = s.sqs := rfl
@[simp] theorem State.modLink_cqs (l : Nat) (f : LinkB → LinkB) : (s.modLink l f).cqs = s.cqs := rfl
@[simp] theorem State.modLink_descs (l : Nat) (f : LinkB → LinkB) : (s.modLink l f).descs = s.descs := rfl
@[simp] theorem State.modLink_nextDesc (l : Nat) (f : LinkB → LinkB) : (s.modLink l f).nextDesc = s.nextDesc := rfl
@[simp] theorem State.modLink_completions (l : Nat) (f : LinkB → LinkB) : (s.modLink l f).completions = s.completions := rfl
@[simp] theorem State.modLink_jobs (l : Nat) (f : LinkB → LinkB) : (s.modLink l f).jobs = s.jobs := rfl
@[simp] theorem State.modLink_errRings (l : Nat) (f : LinkB → LinkB) : (s.modLink l f).errRings = s.errRings := rfl
@[simp] theorem State.modLink_wingLogs (l : Nat) (f : LinkB → LinkB) : (s.modLink l f).wingLogs = s.wingLogs := rfl
@[simp] theorem State.modLink_errInFlight (l : Nat) (f : LinkB → LinkB) : (s.modLink l f).errInFlight = s.errInFlight := rfl
@[simp] theorem State.modLink_deviceLog (l : Nat) (f : LinkB → LinkB) : (s.modLink l f).deviceLog = s.deviceLog := rfl
@[simp] theorem State.modLink_flashLog (l : Nat) (f : LinkB → LinkB) : (s.modLink l f).flashLog = s.flashLog := rfl
@[simp] theorem State.modLink_deviceSeq (l : Nat) (f : LinkB → LinkB) : (s.modLink l f).deviceSeq = s.deviceSeq := rfl
@[simp] theorem State.modLink_ceWindows (l : Nat) (f : LinkB → LinkB) : (s.modLink l f).ceWindows = s.ceWindows := rfl
@[simp] theorem State.modLink_power (l : Nat) (f : LinkB → LinkB) : (s.modLink l f).power = s.power := rfl
@[simp] theorem State.modLink_therm (l : Nat) (f : LinkB → LinkB) : (s.modLink l f).therm = s.therm := rfl
@[simp] theorem State.modLink_boot (l : Nat) (f : LinkB → LinkB) : (s.modLink l f).boot = s.boot := rfl
@[simp] theorem State.modLink_aon (l : Nat) (f : LinkB → LinkB) : (s.modLink l f).aon = s.aon := rfl
@[simp] theorem State.modLink_flash (l : Nat) (f : LinkB → LinkB) : (s.modLink l f).flash = s.flash := rfl
@[simp] theorem State.modLink_flashLogs (l : Nat) (f : LinkB → LinkB) : (s.modLink l f).flashLogs = s.flashLogs := rfl
@[simp] theorem State.modLink_plan (l : Nat) (f : LinkB → LinkB) : (s.modLink l f).plan = s.plan := rfl
@[simp] theorem State.modLink_planGen (l : Nat) (f : LinkB → LinkB) : (s.modLink l f).planGen = s.planGen := rfl
@[simp] theorem State.modLink_planTime (l : Nat) (f : LinkB → LinkB) : (s.modLink l f).planTime = s.planTime := rfl
@[simp] theorem State.modLink_live (l : Nat) (f : LinkB → LinkB) : (s.modLink l f).live = s.live := rfl
@[simp] theorem State.modLink_mailboxStudy (l : Nat) (f : LinkB → LinkB) : (s.modLink l f).mailboxStudy = s.mailboxStudy := rfl
@[simp] theorem State.modLink_remaps (l : Nat) (f : LinkB → LinkB) : (s.modLink l f).remaps = s.remaps := rfl
@[simp] theorem State.modLink_test (l : Nat) (f : LinkB → LinkB) : (s.modLink l f).test = s.test := rfl
@[simp] theorem State.modLink_pcies (l : Nat) (f : LinkB → LinkB) : (s.modLink l f).pcies = s.pcies := rfl
@[simp] theorem State.modLink_guards (l : Nat) (f : LinkB → LinkB) : (s.modLink l f).guards = s.guards := rfl

@[simp] theorem State.modFabric_pending (f : FabricB → FabricB) : (s.modFabric f).pending = s.pending := rfl
@[simp] theorem State.modFabric_fuses (f : FabricB → FabricB) : (s.modFabric f).fuses = s.fuses := rfl
@[simp] theorem State.modFabric_devId (f : FabricB → FabricB) : (s.modFabric f).devId = s.devId := rfl
@[simp] theorem State.modFabric_now (f : FabricB → FabricB) : (s.modFabric f).now = s.now := rfl
@[simp] theorem State.modFabric_free (f : FabricB → FabricB) : (s.modFabric f).free = s.free := rfl
@[simp] theorem State.modFabric_mem (f : FabricB → FabricB) : (s.modFabric f).mem = s.mem := rfl
@[simp] theorem State.modFabric_poison (f : FabricB → FabricB) : (s.modFabric f).poison = s.poison := rfl
@[simp] theorem State.modFabric_regs (f : FabricB → FabricB) : (s.modFabric f).regs = s.regs := rfl
@[simp] theorem State.modFabric_harts (f : FabricB → FabricB) : (s.modFabric f).harts = s.harts := rfl
@[simp] theorem State.modFabric_rooms (f : FabricB → FabricB) : (s.modFabric f).rooms = s.rooms := rfl
@[simp] theorem State.modFabric_tags (f : FabricB → FabricB) : (s.modFabric f).tags = s.tags := rfl
@[simp] theorem State.modFabric_reqs (f : FabricB → FabricB) : (s.modFabric f).reqs = s.reqs := rfl
@[simp] theorem State.modFabric_exitMsgs (f : FabricB → FabricB) : (s.modFabric f).exitMsgs = s.exitMsgs := rfl
@[simp] theorem State.modFabric_caches (f : FabricB → FabricB) : (s.modFabric f).caches = s.caches := rfl
@[simp] theorem State.modFabric_sent (f : FabricB → FabricB) : (s.modFabric f).sent = s.sent := rfl
@[simp] theorem State.modFabric_colls (f : FabricB → FabricB) : (s.modFabric f).colls = s.colls := rfl
@[simp] theorem State.modFabric_insts (f : FabricB → FabricB) : (s.modFabric f).insts = s.insts := rfl
@[simp] theorem State.modFabric_keptEnds (f : FabricB → FabricB) : (s.modFabric f).keptEnds = s.keptEnds := rfl
@[simp] theorem State.modFabric_arrays (f : FabricB → FabricB) : (s.modFabric f).arrays = s.arrays := rfl
@[simp] theorem State.modFabric_attics (f : FabricB → FabricB) : (s.modFabric f).attics = s.attics := rfl
@[simp] theorem State.modFabric_regqs (f : FabricB → FabricB) : (s.modFabric f).regqs = s.regqs := rfl
@[simp] theorem State.modFabric_avus (f : FabricB → FabricB) : (s.modFabric f).avus = s.avus := rfl
@[simp] theorem State.modFabric_trees (f : FabricB → FabricB) : (s.modFabric f).trees = s.trees := rfl
@[simp] theorem State.modFabric_dws (f : FabricB → FabricB) : (s.modFabric f).dws = s.dws := rfl
@[simp] theorem State.modFabric_dwOrder (f : FabricB → FabricB) : (s.modFabric f).dwOrder = s.dwOrder := rfl
@[simp] theorem State.modFabric_wings (f : FabricB → FabricB) : (s.modFabric f).wings = s.wings := rfl
@[simp] theorem State.modFabric_halls (f : FabricB → FabricB) : (s.modFabric f).halls = s.halls := rfl
@[simp] theorem State.modFabric_modules (f : FabricB → FabricB) : (s.modFabric f).modules = s.modules := rfl
@[simp] theorem State.modFabric_dies (f : FabricB → FabricB) : (s.modFabric f).dies = s.dies := rfl
@[simp] theorem State.modFabric_idBlocks (f : FabricB → FabricB) : (s.modFabric f).idBlocks = s.idBlocks := rfl
@[simp] theorem State.modFabric_links (f : FabricB → FabricB) : (s.modFabric f).links = s.links := rfl
@[simp] theorem State.modFabric_bootCount (f : FabricB → FabricB) : (s.modFabric f).bootCount = s.bootCount := rfl
@[simp] theorem State.modFabric_absentDevs (f : FabricB → FabricB) : (s.modFabric f).absentDevs = s.absentDevs := rfl
@[simp] theorem State.modFabric_mailboxes (f : FabricB → FabricB) : (s.modFabric f).mailboxes = s.mailboxes := rfl
@[simp] theorem State.modFabric_doors (f : FabricB → FabricB) : (s.modFabric f).doors = s.doors := rfl
@[simp] theorem State.modFabric_sqs (f : FabricB → FabricB) : (s.modFabric f).sqs = s.sqs := rfl
@[simp] theorem State.modFabric_cqs (f : FabricB → FabricB) : (s.modFabric f).cqs = s.cqs := rfl
@[simp] theorem State.modFabric_descs (f : FabricB → FabricB) : (s.modFabric f).descs = s.descs := rfl
@[simp] theorem State.modFabric_nextDesc (f : FabricB → FabricB) : (s.modFabric f).nextDesc = s.nextDesc := rfl
@[simp] theorem State.modFabric_completions (f : FabricB → FabricB) : (s.modFabric f).completions = s.completions := rfl
@[simp] theorem State.modFabric_jobs (f : FabricB → FabricB) : (s.modFabric f).jobs = s.jobs := rfl
@[simp] theorem State.modFabric_errRings (f : FabricB → FabricB) : (s.modFabric f).errRings = s.errRings := rfl
@[simp] theorem State.modFabric_wingLogs (f : FabricB → FabricB) : (s.modFabric f).wingLogs = s.wingLogs := rfl
@[simp] theorem State.modFabric_errInFlight (f : FabricB → FabricB) : (s.modFabric f).errInFlight = s.errInFlight := rfl
@[simp] theorem State.modFabric_deviceLog (f : FabricB → FabricB) : (s.modFabric f).deviceLog = s.deviceLog := rfl
@[simp] theorem State.modFabric_flashLog (f : FabricB → FabricB) : (s.modFabric f).flashLog = s.flashLog := rfl
@[simp] theorem State.modFabric_deviceSeq (f : FabricB → FabricB) : (s.modFabric f).deviceSeq = s.deviceSeq := rfl
@[simp] theorem State.modFabric_ceWindows (f : FabricB → FabricB) : (s.modFabric f).ceWindows = s.ceWindows := rfl
@[simp] theorem State.modFabric_power (f : FabricB → FabricB) : (s.modFabric f).power = s.power := rfl
@[simp] theorem State.modFabric_therm (f : FabricB → FabricB) : (s.modFabric f).therm = s.therm := rfl
@[simp] theorem State.modFabric_boot (f : FabricB → FabricB) : (s.modFabric f).boot = s.boot := rfl
@[simp] theorem State.modFabric_aon (f : FabricB → FabricB) : (s.modFabric f).aon = s.aon := rfl
@[simp] theorem State.modFabric_flash (f : FabricB → FabricB) : (s.modFabric f).flash = s.flash := rfl
@[simp] theorem State.modFabric_flashLogs (f : FabricB → FabricB) : (s.modFabric f).flashLogs = s.flashLogs := rfl
@[simp] theorem State.modFabric_plan (f : FabricB → FabricB) : (s.modFabric f).plan = s.plan := rfl
@[simp] theorem State.modFabric_planGen (f : FabricB → FabricB) : (s.modFabric f).planGen = s.planGen := rfl
@[simp] theorem State.modFabric_planTime (f : FabricB → FabricB) : (s.modFabric f).planTime = s.planTime := rfl
@[simp] theorem State.modFabric_live (f : FabricB → FabricB) : (s.modFabric f).live = s.live := rfl
@[simp] theorem State.modFabric_mailboxStudy (f : FabricB → FabricB) : (s.modFabric f).mailboxStudy = s.mailboxStudy := rfl
@[simp] theorem State.modFabric_remaps (f : FabricB → FabricB) : (s.modFabric f).remaps = s.remaps := rfl
@[simp] theorem State.modFabric_test (f : FabricB → FabricB) : (s.modFabric f).test = s.test := rfl
@[simp] theorem State.modFabric_pcies (f : FabricB → FabricB) : (s.modFabric f).pcies = s.pcies := rfl
@[simp] theorem State.modFabric_guards (f : FabricB → FabricB) : (s.modFabric f).guards = s.guards := rfl

@[simp] theorem State.modPower_pending (f : PowerB → PowerB) : (s.modPower f).pending = s.pending := rfl
@[simp] theorem State.modPower_fuses (f : PowerB → PowerB) : (s.modPower f).fuses = s.fuses := rfl
@[simp] theorem State.modPower_devId (f : PowerB → PowerB) : (s.modPower f).devId = s.devId := rfl
@[simp] theorem State.modPower_now (f : PowerB → PowerB) : (s.modPower f).now = s.now := rfl
@[simp] theorem State.modPower_free (f : PowerB → PowerB) : (s.modPower f).free = s.free := rfl
@[simp] theorem State.modPower_mem (f : PowerB → PowerB) : (s.modPower f).mem = s.mem := rfl
@[simp] theorem State.modPower_poison (f : PowerB → PowerB) : (s.modPower f).poison = s.poison := rfl
@[simp] theorem State.modPower_regs (f : PowerB → PowerB) : (s.modPower f).regs = s.regs := rfl
@[simp] theorem State.modPower_harts (f : PowerB → PowerB) : (s.modPower f).harts = s.harts := rfl
@[simp] theorem State.modPower_rooms (f : PowerB → PowerB) : (s.modPower f).rooms = s.rooms := rfl
@[simp] theorem State.modPower_tags (f : PowerB → PowerB) : (s.modPower f).tags = s.tags := rfl
@[simp] theorem State.modPower_reqs (f : PowerB → PowerB) : (s.modPower f).reqs = s.reqs := rfl
@[simp] theorem State.modPower_exitMsgs (f : PowerB → PowerB) : (s.modPower f).exitMsgs = s.exitMsgs := rfl
@[simp] theorem State.modPower_caches (f : PowerB → PowerB) : (s.modPower f).caches = s.caches := rfl
@[simp] theorem State.modPower_sent (f : PowerB → PowerB) : (s.modPower f).sent = s.sent := rfl
@[simp] theorem State.modPower_colls (f : PowerB → PowerB) : (s.modPower f).colls = s.colls := rfl
@[simp] theorem State.modPower_insts (f : PowerB → PowerB) : (s.modPower f).insts = s.insts := rfl
@[simp] theorem State.modPower_keptEnds (f : PowerB → PowerB) : (s.modPower f).keptEnds = s.keptEnds := rfl
@[simp] theorem State.modPower_arrays (f : PowerB → PowerB) : (s.modPower f).arrays = s.arrays := rfl
@[simp] theorem State.modPower_attics (f : PowerB → PowerB) : (s.modPower f).attics = s.attics := rfl
@[simp] theorem State.modPower_regqs (f : PowerB → PowerB) : (s.modPower f).regqs = s.regqs := rfl
@[simp] theorem State.modPower_avus (f : PowerB → PowerB) : (s.modPower f).avus = s.avus := rfl
@[simp] theorem State.modPower_trees (f : PowerB → PowerB) : (s.modPower f).trees = s.trees := rfl
@[simp] theorem State.modPower_dws (f : PowerB → PowerB) : (s.modPower f).dws = s.dws := rfl
@[simp] theorem State.modPower_dwOrder (f : PowerB → PowerB) : (s.modPower f).dwOrder = s.dwOrder := rfl
@[simp] theorem State.modPower_wings (f : PowerB → PowerB) : (s.modPower f).wings = s.wings := rfl
@[simp] theorem State.modPower_halls (f : PowerB → PowerB) : (s.modPower f).halls = s.halls := rfl
@[simp] theorem State.modPower_modules (f : PowerB → PowerB) : (s.modPower f).modules = s.modules := rfl
@[simp] theorem State.modPower_dies (f : PowerB → PowerB) : (s.modPower f).dies = s.dies := rfl
@[simp] theorem State.modPower_idBlocks (f : PowerB → PowerB) : (s.modPower f).idBlocks = s.idBlocks := rfl
@[simp] theorem State.modPower_links (f : PowerB → PowerB) : (s.modPower f).links = s.links := rfl
@[simp] theorem State.modPower_fabric (f : PowerB → PowerB) : (s.modPower f).fabric = s.fabric := rfl
@[simp] theorem State.modPower_bootCount (f : PowerB → PowerB) : (s.modPower f).bootCount = s.bootCount := rfl
@[simp] theorem State.modPower_absentDevs (f : PowerB → PowerB) : (s.modPower f).absentDevs = s.absentDevs := rfl
@[simp] theorem State.modPower_mailboxes (f : PowerB → PowerB) : (s.modPower f).mailboxes = s.mailboxes := rfl
@[simp] theorem State.modPower_doors (f : PowerB → PowerB) : (s.modPower f).doors = s.doors := rfl
@[simp] theorem State.modPower_sqs (f : PowerB → PowerB) : (s.modPower f).sqs = s.sqs := rfl
@[simp] theorem State.modPower_cqs (f : PowerB → PowerB) : (s.modPower f).cqs = s.cqs := rfl
@[simp] theorem State.modPower_descs (f : PowerB → PowerB) : (s.modPower f).descs = s.descs := rfl
@[simp] theorem State.modPower_nextDesc (f : PowerB → PowerB) : (s.modPower f).nextDesc = s.nextDesc := rfl
@[simp] theorem State.modPower_completions (f : PowerB → PowerB) : (s.modPower f).completions = s.completions := rfl
@[simp] theorem State.modPower_jobs (f : PowerB → PowerB) : (s.modPower f).jobs = s.jobs := rfl
@[simp] theorem State.modPower_errRings (f : PowerB → PowerB) : (s.modPower f).errRings = s.errRings := rfl
@[simp] theorem State.modPower_wingLogs (f : PowerB → PowerB) : (s.modPower f).wingLogs = s.wingLogs := rfl
@[simp] theorem State.modPower_errInFlight (f : PowerB → PowerB) : (s.modPower f).errInFlight = s.errInFlight := rfl
@[simp] theorem State.modPower_deviceLog (f : PowerB → PowerB) : (s.modPower f).deviceLog = s.deviceLog := rfl
@[simp] theorem State.modPower_flashLog (f : PowerB → PowerB) : (s.modPower f).flashLog = s.flashLog := rfl
@[simp] theorem State.modPower_deviceSeq (f : PowerB → PowerB) : (s.modPower f).deviceSeq = s.deviceSeq := rfl
@[simp] theorem State.modPower_ceWindows (f : PowerB → PowerB) : (s.modPower f).ceWindows = s.ceWindows := rfl
@[simp] theorem State.modPower_therm (f : PowerB → PowerB) : (s.modPower f).therm = s.therm := rfl
@[simp] theorem State.modPower_boot (f : PowerB → PowerB) : (s.modPower f).boot = s.boot := rfl
@[simp] theorem State.modPower_aon (f : PowerB → PowerB) : (s.modPower f).aon = s.aon := rfl
@[simp] theorem State.modPower_flash (f : PowerB → PowerB) : (s.modPower f).flash = s.flash := rfl
@[simp] theorem State.modPower_flashLogs (f : PowerB → PowerB) : (s.modPower f).flashLogs = s.flashLogs := rfl
@[simp] theorem State.modPower_plan (f : PowerB → PowerB) : (s.modPower f).plan = s.plan := rfl
@[simp] theorem State.modPower_planGen (f : PowerB → PowerB) : (s.modPower f).planGen = s.planGen := rfl
@[simp] theorem State.modPower_planTime (f : PowerB → PowerB) : (s.modPower f).planTime = s.planTime := rfl
@[simp] theorem State.modPower_live (f : PowerB → PowerB) : (s.modPower f).live = s.live := rfl
@[simp] theorem State.modPower_mailboxStudy (f : PowerB → PowerB) : (s.modPower f).mailboxStudy = s.mailboxStudy := rfl
@[simp] theorem State.modPower_remaps (f : PowerB → PowerB) : (s.modPower f).remaps = s.remaps := rfl
@[simp] theorem State.modPower_test (f : PowerB → PowerB) : (s.modPower f).test = s.test := rfl
@[simp] theorem State.modPower_pcies (f : PowerB → PowerB) : (s.modPower f).pcies = s.pcies := rfl
@[simp] theorem State.modPower_guards (f : PowerB → PowerB) : (s.modPower f).guards = s.guards := rfl

@[simp] theorem State.modTherm_pending (f : ThermB → ThermB) : (s.modTherm f).pending = s.pending := rfl
@[simp] theorem State.modTherm_fuses (f : ThermB → ThermB) : (s.modTherm f).fuses = s.fuses := rfl
@[simp] theorem State.modTherm_devId (f : ThermB → ThermB) : (s.modTherm f).devId = s.devId := rfl
@[simp] theorem State.modTherm_now (f : ThermB → ThermB) : (s.modTherm f).now = s.now := rfl
@[simp] theorem State.modTherm_free (f : ThermB → ThermB) : (s.modTherm f).free = s.free := rfl
@[simp] theorem State.modTherm_mem (f : ThermB → ThermB) : (s.modTherm f).mem = s.mem := rfl
@[simp] theorem State.modTherm_poison (f : ThermB → ThermB) : (s.modTherm f).poison = s.poison := rfl
@[simp] theorem State.modTherm_regs (f : ThermB → ThermB) : (s.modTherm f).regs = s.regs := rfl
@[simp] theorem State.modTherm_harts (f : ThermB → ThermB) : (s.modTherm f).harts = s.harts := rfl
@[simp] theorem State.modTherm_rooms (f : ThermB → ThermB) : (s.modTherm f).rooms = s.rooms := rfl
@[simp] theorem State.modTherm_tags (f : ThermB → ThermB) : (s.modTherm f).tags = s.tags := rfl
@[simp] theorem State.modTherm_reqs (f : ThermB → ThermB) : (s.modTherm f).reqs = s.reqs := rfl
@[simp] theorem State.modTherm_exitMsgs (f : ThermB → ThermB) : (s.modTherm f).exitMsgs = s.exitMsgs := rfl
@[simp] theorem State.modTherm_caches (f : ThermB → ThermB) : (s.modTherm f).caches = s.caches := rfl
@[simp] theorem State.modTherm_sent (f : ThermB → ThermB) : (s.modTherm f).sent = s.sent := rfl
@[simp] theorem State.modTherm_colls (f : ThermB → ThermB) : (s.modTherm f).colls = s.colls := rfl
@[simp] theorem State.modTherm_insts (f : ThermB → ThermB) : (s.modTherm f).insts = s.insts := rfl
@[simp] theorem State.modTherm_keptEnds (f : ThermB → ThermB) : (s.modTherm f).keptEnds = s.keptEnds := rfl
@[simp] theorem State.modTherm_arrays (f : ThermB → ThermB) : (s.modTherm f).arrays = s.arrays := rfl
@[simp] theorem State.modTherm_attics (f : ThermB → ThermB) : (s.modTherm f).attics = s.attics := rfl
@[simp] theorem State.modTherm_regqs (f : ThermB → ThermB) : (s.modTherm f).regqs = s.regqs := rfl
@[simp] theorem State.modTherm_avus (f : ThermB → ThermB) : (s.modTherm f).avus = s.avus := rfl
@[simp] theorem State.modTherm_trees (f : ThermB → ThermB) : (s.modTherm f).trees = s.trees := rfl
@[simp] theorem State.modTherm_dws (f : ThermB → ThermB) : (s.modTherm f).dws = s.dws := rfl
@[simp] theorem State.modTherm_dwOrder (f : ThermB → ThermB) : (s.modTherm f).dwOrder = s.dwOrder := rfl
@[simp] theorem State.modTherm_wings (f : ThermB → ThermB) : (s.modTherm f).wings = s.wings := rfl
@[simp] theorem State.modTherm_halls (f : ThermB → ThermB) : (s.modTherm f).halls = s.halls := rfl
@[simp] theorem State.modTherm_modules (f : ThermB → ThermB) : (s.modTherm f).modules = s.modules := rfl
@[simp] theorem State.modTherm_dies (f : ThermB → ThermB) : (s.modTherm f).dies = s.dies := rfl
@[simp] theorem State.modTherm_idBlocks (f : ThermB → ThermB) : (s.modTherm f).idBlocks = s.idBlocks := rfl
@[simp] theorem State.modTherm_links (f : ThermB → ThermB) : (s.modTherm f).links = s.links := rfl
@[simp] theorem State.modTherm_fabric (f : ThermB → ThermB) : (s.modTherm f).fabric = s.fabric := rfl
@[simp] theorem State.modTherm_bootCount (f : ThermB → ThermB) : (s.modTherm f).bootCount = s.bootCount := rfl
@[simp] theorem State.modTherm_absentDevs (f : ThermB → ThermB) : (s.modTherm f).absentDevs = s.absentDevs := rfl
@[simp] theorem State.modTherm_mailboxes (f : ThermB → ThermB) : (s.modTherm f).mailboxes = s.mailboxes := rfl
@[simp] theorem State.modTherm_doors (f : ThermB → ThermB) : (s.modTherm f).doors = s.doors := rfl
@[simp] theorem State.modTherm_sqs (f : ThermB → ThermB) : (s.modTherm f).sqs = s.sqs := rfl
@[simp] theorem State.modTherm_cqs (f : ThermB → ThermB) : (s.modTherm f).cqs = s.cqs := rfl
@[simp] theorem State.modTherm_descs (f : ThermB → ThermB) : (s.modTherm f).descs = s.descs := rfl
@[simp] theorem State.modTherm_nextDesc (f : ThermB → ThermB) : (s.modTherm f).nextDesc = s.nextDesc := rfl
@[simp] theorem State.modTherm_completions (f : ThermB → ThermB) : (s.modTherm f).completions = s.completions := rfl
@[simp] theorem State.modTherm_jobs (f : ThermB → ThermB) : (s.modTherm f).jobs = s.jobs := rfl
@[simp] theorem State.modTherm_errRings (f : ThermB → ThermB) : (s.modTherm f).errRings = s.errRings := rfl
@[simp] theorem State.modTherm_wingLogs (f : ThermB → ThermB) : (s.modTherm f).wingLogs = s.wingLogs := rfl
@[simp] theorem State.modTherm_errInFlight (f : ThermB → ThermB) : (s.modTherm f).errInFlight = s.errInFlight := rfl
@[simp] theorem State.modTherm_deviceLog (f : ThermB → ThermB) : (s.modTherm f).deviceLog = s.deviceLog := rfl
@[simp] theorem State.modTherm_flashLog (f : ThermB → ThermB) : (s.modTherm f).flashLog = s.flashLog := rfl
@[simp] theorem State.modTherm_deviceSeq (f : ThermB → ThermB) : (s.modTherm f).deviceSeq = s.deviceSeq := rfl
@[simp] theorem State.modTherm_ceWindows (f : ThermB → ThermB) : (s.modTherm f).ceWindows = s.ceWindows := rfl
@[simp] theorem State.modTherm_power (f : ThermB → ThermB) : (s.modTherm f).power = s.power := rfl
@[simp] theorem State.modTherm_boot (f : ThermB → ThermB) : (s.modTherm f).boot = s.boot := rfl
@[simp] theorem State.modTherm_aon (f : ThermB → ThermB) : (s.modTherm f).aon = s.aon := rfl
@[simp] theorem State.modTherm_flash (f : ThermB → ThermB) : (s.modTherm f).flash = s.flash := rfl
@[simp] theorem State.modTherm_flashLogs (f : ThermB → ThermB) : (s.modTherm f).flashLogs = s.flashLogs := rfl
@[simp] theorem State.modTherm_plan (f : ThermB → ThermB) : (s.modTherm f).plan = s.plan := rfl
@[simp] theorem State.modTherm_planGen (f : ThermB → ThermB) : (s.modTherm f).planGen = s.planGen := rfl
@[simp] theorem State.modTherm_planTime (f : ThermB → ThermB) : (s.modTherm f).planTime = s.planTime := rfl
@[simp] theorem State.modTherm_live (f : ThermB → ThermB) : (s.modTherm f).live = s.live := rfl
@[simp] theorem State.modTherm_mailboxStudy (f : ThermB → ThermB) : (s.modTherm f).mailboxStudy = s.mailboxStudy := rfl
@[simp] theorem State.modTherm_remaps (f : ThermB → ThermB) : (s.modTherm f).remaps = s.remaps := rfl
@[simp] theorem State.modTherm_test (f : ThermB → ThermB) : (s.modTherm f).test = s.test := rfl
@[simp] theorem State.modTherm_pcies (f : ThermB → ThermB) : (s.modTherm f).pcies = s.pcies := rfl
@[simp] theorem State.modTherm_guards (f : ThermB → ThermB) : (s.modTherm f).guards = s.guards := rfl

@[simp] theorem State.modBoot_pending (f : BootB → BootB) : (s.modBoot f).pending = s.pending := rfl
@[simp] theorem State.modBoot_fuses (f : BootB → BootB) : (s.modBoot f).fuses = s.fuses := rfl
@[simp] theorem State.modBoot_devId (f : BootB → BootB) : (s.modBoot f).devId = s.devId := rfl
@[simp] theorem State.modBoot_now (f : BootB → BootB) : (s.modBoot f).now = s.now := rfl
@[simp] theorem State.modBoot_free (f : BootB → BootB) : (s.modBoot f).free = s.free := rfl
@[simp] theorem State.modBoot_mem (f : BootB → BootB) : (s.modBoot f).mem = s.mem := rfl
@[simp] theorem State.modBoot_poison (f : BootB → BootB) : (s.modBoot f).poison = s.poison := rfl
@[simp] theorem State.modBoot_regs (f : BootB → BootB) : (s.modBoot f).regs = s.regs := rfl
@[simp] theorem State.modBoot_harts (f : BootB → BootB) : (s.modBoot f).harts = s.harts := rfl
@[simp] theorem State.modBoot_rooms (f : BootB → BootB) : (s.modBoot f).rooms = s.rooms := rfl
@[simp] theorem State.modBoot_tags (f : BootB → BootB) : (s.modBoot f).tags = s.tags := rfl
@[simp] theorem State.modBoot_reqs (f : BootB → BootB) : (s.modBoot f).reqs = s.reqs := rfl
@[simp] theorem State.modBoot_exitMsgs (f : BootB → BootB) : (s.modBoot f).exitMsgs = s.exitMsgs := rfl
@[simp] theorem State.modBoot_caches (f : BootB → BootB) : (s.modBoot f).caches = s.caches := rfl
@[simp] theorem State.modBoot_sent (f : BootB → BootB) : (s.modBoot f).sent = s.sent := rfl
@[simp] theorem State.modBoot_colls (f : BootB → BootB) : (s.modBoot f).colls = s.colls := rfl
@[simp] theorem State.modBoot_insts (f : BootB → BootB) : (s.modBoot f).insts = s.insts := rfl
@[simp] theorem State.modBoot_keptEnds (f : BootB → BootB) : (s.modBoot f).keptEnds = s.keptEnds := rfl
@[simp] theorem State.modBoot_arrays (f : BootB → BootB) : (s.modBoot f).arrays = s.arrays := rfl
@[simp] theorem State.modBoot_attics (f : BootB → BootB) : (s.modBoot f).attics = s.attics := rfl
@[simp] theorem State.modBoot_regqs (f : BootB → BootB) : (s.modBoot f).regqs = s.regqs := rfl
@[simp] theorem State.modBoot_avus (f : BootB → BootB) : (s.modBoot f).avus = s.avus := rfl
@[simp] theorem State.modBoot_trees (f : BootB → BootB) : (s.modBoot f).trees = s.trees := rfl
@[simp] theorem State.modBoot_dws (f : BootB → BootB) : (s.modBoot f).dws = s.dws := rfl
@[simp] theorem State.modBoot_dwOrder (f : BootB → BootB) : (s.modBoot f).dwOrder = s.dwOrder := rfl
@[simp] theorem State.modBoot_wings (f : BootB → BootB) : (s.modBoot f).wings = s.wings := rfl
@[simp] theorem State.modBoot_halls (f : BootB → BootB) : (s.modBoot f).halls = s.halls := rfl
@[simp] theorem State.modBoot_modules (f : BootB → BootB) : (s.modBoot f).modules = s.modules := rfl
@[simp] theorem State.modBoot_dies (f : BootB → BootB) : (s.modBoot f).dies = s.dies := rfl
@[simp] theorem State.modBoot_idBlocks (f : BootB → BootB) : (s.modBoot f).idBlocks = s.idBlocks := rfl
@[simp] theorem State.modBoot_links (f : BootB → BootB) : (s.modBoot f).links = s.links := rfl
@[simp] theorem State.modBoot_fabric (f : BootB → BootB) : (s.modBoot f).fabric = s.fabric := rfl
@[simp] theorem State.modBoot_bootCount (f : BootB → BootB) : (s.modBoot f).bootCount = s.bootCount := rfl
@[simp] theorem State.modBoot_absentDevs (f : BootB → BootB) : (s.modBoot f).absentDevs = s.absentDevs := rfl
@[simp] theorem State.modBoot_mailboxes (f : BootB → BootB) : (s.modBoot f).mailboxes = s.mailboxes := rfl
@[simp] theorem State.modBoot_doors (f : BootB → BootB) : (s.modBoot f).doors = s.doors := rfl
@[simp] theorem State.modBoot_sqs (f : BootB → BootB) : (s.modBoot f).sqs = s.sqs := rfl
@[simp] theorem State.modBoot_cqs (f : BootB → BootB) : (s.modBoot f).cqs = s.cqs := rfl
@[simp] theorem State.modBoot_descs (f : BootB → BootB) : (s.modBoot f).descs = s.descs := rfl
@[simp] theorem State.modBoot_nextDesc (f : BootB → BootB) : (s.modBoot f).nextDesc = s.nextDesc := rfl
@[simp] theorem State.modBoot_completions (f : BootB → BootB) : (s.modBoot f).completions = s.completions := rfl
@[simp] theorem State.modBoot_jobs (f : BootB → BootB) : (s.modBoot f).jobs = s.jobs := rfl
@[simp] theorem State.modBoot_errRings (f : BootB → BootB) : (s.modBoot f).errRings = s.errRings := rfl
@[simp] theorem State.modBoot_wingLogs (f : BootB → BootB) : (s.modBoot f).wingLogs = s.wingLogs := rfl
@[simp] theorem State.modBoot_errInFlight (f : BootB → BootB) : (s.modBoot f).errInFlight = s.errInFlight := rfl
@[simp] theorem State.modBoot_deviceLog (f : BootB → BootB) : (s.modBoot f).deviceLog = s.deviceLog := rfl
@[simp] theorem State.modBoot_flashLog (f : BootB → BootB) : (s.modBoot f).flashLog = s.flashLog := rfl
@[simp] theorem State.modBoot_deviceSeq (f : BootB → BootB) : (s.modBoot f).deviceSeq = s.deviceSeq := rfl
@[simp] theorem State.modBoot_ceWindows (f : BootB → BootB) : (s.modBoot f).ceWindows = s.ceWindows := rfl
@[simp] theorem State.modBoot_power (f : BootB → BootB) : (s.modBoot f).power = s.power := rfl
@[simp] theorem State.modBoot_therm (f : BootB → BootB) : (s.modBoot f).therm = s.therm := rfl
@[simp] theorem State.modBoot_aon (f : BootB → BootB) : (s.modBoot f).aon = s.aon := rfl
@[simp] theorem State.modBoot_flash (f : BootB → BootB) : (s.modBoot f).flash = s.flash := rfl
@[simp] theorem State.modBoot_flashLogs (f : BootB → BootB) : (s.modBoot f).flashLogs = s.flashLogs := rfl
@[simp] theorem State.modBoot_plan (f : BootB → BootB) : (s.modBoot f).plan = s.plan := rfl
@[simp] theorem State.modBoot_planGen (f : BootB → BootB) : (s.modBoot f).planGen = s.planGen := rfl
@[simp] theorem State.modBoot_planTime (f : BootB → BootB) : (s.modBoot f).planTime = s.planTime := rfl
@[simp] theorem State.modBoot_live (f : BootB → BootB) : (s.modBoot f).live = s.live := rfl
@[simp] theorem State.modBoot_mailboxStudy (f : BootB → BootB) : (s.modBoot f).mailboxStudy = s.mailboxStudy := rfl
@[simp] theorem State.modBoot_remaps (f : BootB → BootB) : (s.modBoot f).remaps = s.remaps := rfl
@[simp] theorem State.modBoot_test (f : BootB → BootB) : (s.modBoot f).test = s.test := rfl
@[simp] theorem State.modBoot_pcies (f : BootB → BootB) : (s.modBoot f).pcies = s.pcies := rfl
@[simp] theorem State.modBoot_guards (f : BootB → BootB) : (s.modBoot f).guards = s.guards := rfl

@[simp] theorem State.modLive_pending (f : LiveB → LiveB) : (s.modLive f).pending = s.pending := rfl
@[simp] theorem State.modLive_fuses (f : LiveB → LiveB) : (s.modLive f).fuses = s.fuses := rfl
@[simp] theorem State.modLive_devId (f : LiveB → LiveB) : (s.modLive f).devId = s.devId := rfl
@[simp] theorem State.modLive_now (f : LiveB → LiveB) : (s.modLive f).now = s.now := rfl
@[simp] theorem State.modLive_free (f : LiveB → LiveB) : (s.modLive f).free = s.free := rfl
@[simp] theorem State.modLive_mem (f : LiveB → LiveB) : (s.modLive f).mem = s.mem := rfl
@[simp] theorem State.modLive_poison (f : LiveB → LiveB) : (s.modLive f).poison = s.poison := rfl
@[simp] theorem State.modLive_regs (f : LiveB → LiveB) : (s.modLive f).regs = s.regs := rfl
@[simp] theorem State.modLive_harts (f : LiveB → LiveB) : (s.modLive f).harts = s.harts := rfl
@[simp] theorem State.modLive_rooms (f : LiveB → LiveB) : (s.modLive f).rooms = s.rooms := rfl
@[simp] theorem State.modLive_tags (f : LiveB → LiveB) : (s.modLive f).tags = s.tags := rfl
@[simp] theorem State.modLive_reqs (f : LiveB → LiveB) : (s.modLive f).reqs = s.reqs := rfl
@[simp] theorem State.modLive_exitMsgs (f : LiveB → LiveB) : (s.modLive f).exitMsgs = s.exitMsgs := rfl
@[simp] theorem State.modLive_caches (f : LiveB → LiveB) : (s.modLive f).caches = s.caches := rfl
@[simp] theorem State.modLive_sent (f : LiveB → LiveB) : (s.modLive f).sent = s.sent := rfl
@[simp] theorem State.modLive_colls (f : LiveB → LiveB) : (s.modLive f).colls = s.colls := rfl
@[simp] theorem State.modLive_insts (f : LiveB → LiveB) : (s.modLive f).insts = s.insts := rfl
@[simp] theorem State.modLive_keptEnds (f : LiveB → LiveB) : (s.modLive f).keptEnds = s.keptEnds := rfl
@[simp] theorem State.modLive_arrays (f : LiveB → LiveB) : (s.modLive f).arrays = s.arrays := rfl
@[simp] theorem State.modLive_attics (f : LiveB → LiveB) : (s.modLive f).attics = s.attics := rfl
@[simp] theorem State.modLive_regqs (f : LiveB → LiveB) : (s.modLive f).regqs = s.regqs := rfl
@[simp] theorem State.modLive_avus (f : LiveB → LiveB) : (s.modLive f).avus = s.avus := rfl
@[simp] theorem State.modLive_trees (f : LiveB → LiveB) : (s.modLive f).trees = s.trees := rfl
@[simp] theorem State.modLive_dws (f : LiveB → LiveB) : (s.modLive f).dws = s.dws := rfl
@[simp] theorem State.modLive_dwOrder (f : LiveB → LiveB) : (s.modLive f).dwOrder = s.dwOrder := rfl
@[simp] theorem State.modLive_wings (f : LiveB → LiveB) : (s.modLive f).wings = s.wings := rfl
@[simp] theorem State.modLive_halls (f : LiveB → LiveB) : (s.modLive f).halls = s.halls := rfl
@[simp] theorem State.modLive_modules (f : LiveB → LiveB) : (s.modLive f).modules = s.modules := rfl
@[simp] theorem State.modLive_dies (f : LiveB → LiveB) : (s.modLive f).dies = s.dies := rfl
@[simp] theorem State.modLive_idBlocks (f : LiveB → LiveB) : (s.modLive f).idBlocks = s.idBlocks := rfl
@[simp] theorem State.modLive_links (f : LiveB → LiveB) : (s.modLive f).links = s.links := rfl
@[simp] theorem State.modLive_fabric (f : LiveB → LiveB) : (s.modLive f).fabric = s.fabric := rfl
@[simp] theorem State.modLive_bootCount (f : LiveB → LiveB) : (s.modLive f).bootCount = s.bootCount := rfl
@[simp] theorem State.modLive_absentDevs (f : LiveB → LiveB) : (s.modLive f).absentDevs = s.absentDevs := rfl
@[simp] theorem State.modLive_mailboxes (f : LiveB → LiveB) : (s.modLive f).mailboxes = s.mailboxes := rfl
@[simp] theorem State.modLive_doors (f : LiveB → LiveB) : (s.modLive f).doors = s.doors := rfl
@[simp] theorem State.modLive_sqs (f : LiveB → LiveB) : (s.modLive f).sqs = s.sqs := rfl
@[simp] theorem State.modLive_cqs (f : LiveB → LiveB) : (s.modLive f).cqs = s.cqs := rfl
@[simp] theorem State.modLive_descs (f : LiveB → LiveB) : (s.modLive f).descs = s.descs := rfl
@[simp] theorem State.modLive_nextDesc (f : LiveB → LiveB) : (s.modLive f).nextDesc = s.nextDesc := rfl
@[simp] theorem State.modLive_completions (f : LiveB → LiveB) : (s.modLive f).completions = s.completions := rfl
@[simp] theorem State.modLive_jobs (f : LiveB → LiveB) : (s.modLive f).jobs = s.jobs := rfl
@[simp] theorem State.modLive_errRings (f : LiveB → LiveB) : (s.modLive f).errRings = s.errRings := rfl
@[simp] theorem State.modLive_wingLogs (f : LiveB → LiveB) : (s.modLive f).wingLogs = s.wingLogs := rfl
@[simp] theorem State.modLive_errInFlight (f : LiveB → LiveB) : (s.modLive f).errInFlight = s.errInFlight := rfl
@[simp] theorem State.modLive_deviceLog (f : LiveB → LiveB) : (s.modLive f).deviceLog = s.deviceLog := rfl
@[simp] theorem State.modLive_flashLog (f : LiveB → LiveB) : (s.modLive f).flashLog = s.flashLog := rfl
@[simp] theorem State.modLive_deviceSeq (f : LiveB → LiveB) : (s.modLive f).deviceSeq = s.deviceSeq := rfl
@[simp] theorem State.modLive_ceWindows (f : LiveB → LiveB) : (s.modLive f).ceWindows = s.ceWindows := rfl
@[simp] theorem State.modLive_power (f : LiveB → LiveB) : (s.modLive f).power = s.power := rfl
@[simp] theorem State.modLive_therm (f : LiveB → LiveB) : (s.modLive f).therm = s.therm := rfl
@[simp] theorem State.modLive_boot (f : LiveB → LiveB) : (s.modLive f).boot = s.boot := rfl
@[simp] theorem State.modLive_aon (f : LiveB → LiveB) : (s.modLive f).aon = s.aon := rfl
@[simp] theorem State.modLive_flash (f : LiveB → LiveB) : (s.modLive f).flash = s.flash := rfl
@[simp] theorem State.modLive_flashLogs (f : LiveB → LiveB) : (s.modLive f).flashLogs = s.flashLogs := rfl
@[simp] theorem State.modLive_plan (f : LiveB → LiveB) : (s.modLive f).plan = s.plan := rfl
@[simp] theorem State.modLive_planGen (f : LiveB → LiveB) : (s.modLive f).planGen = s.planGen := rfl
@[simp] theorem State.modLive_planTime (f : LiveB → LiveB) : (s.modLive f).planTime = s.planTime := rfl
@[simp] theorem State.modLive_mailboxStudy (f : LiveB → LiveB) : (s.modLive f).mailboxStudy = s.mailboxStudy := rfl
@[simp] theorem State.modLive_remaps (f : LiveB → LiveB) : (s.modLive f).remaps = s.remaps := rfl
@[simp] theorem State.modLive_test (f : LiveB → LiveB) : (s.modLive f).test = s.test := rfl
@[simp] theorem State.modLive_pcies (f : LiveB → LiveB) : (s.modLive f).pcies = s.pcies := rfl
@[simp] theorem State.modLive_guards (f : LiveB → LiveB) : (s.modLive f).guards = s.guards := rfl

@[simp] theorem State.modTest_pending (f : TestB → TestB) : (s.modTest f).pending = s.pending := rfl
@[simp] theorem State.modTest_fuses (f : TestB → TestB) : (s.modTest f).fuses = s.fuses := rfl
@[simp] theorem State.modTest_devId (f : TestB → TestB) : (s.modTest f).devId = s.devId := rfl
@[simp] theorem State.modTest_now (f : TestB → TestB) : (s.modTest f).now = s.now := rfl
@[simp] theorem State.modTest_free (f : TestB → TestB) : (s.modTest f).free = s.free := rfl
@[simp] theorem State.modTest_mem (f : TestB → TestB) : (s.modTest f).mem = s.mem := rfl
@[simp] theorem State.modTest_poison (f : TestB → TestB) : (s.modTest f).poison = s.poison := rfl
@[simp] theorem State.modTest_regs (f : TestB → TestB) : (s.modTest f).regs = s.regs := rfl
@[simp] theorem State.modTest_harts (f : TestB → TestB) : (s.modTest f).harts = s.harts := rfl
@[simp] theorem State.modTest_rooms (f : TestB → TestB) : (s.modTest f).rooms = s.rooms := rfl
@[simp] theorem State.modTest_tags (f : TestB → TestB) : (s.modTest f).tags = s.tags := rfl
@[simp] theorem State.modTest_reqs (f : TestB → TestB) : (s.modTest f).reqs = s.reqs := rfl
@[simp] theorem State.modTest_exitMsgs (f : TestB → TestB) : (s.modTest f).exitMsgs = s.exitMsgs := rfl
@[simp] theorem State.modTest_caches (f : TestB → TestB) : (s.modTest f).caches = s.caches := rfl
@[simp] theorem State.modTest_sent (f : TestB → TestB) : (s.modTest f).sent = s.sent := rfl
@[simp] theorem State.modTest_colls (f : TestB → TestB) : (s.modTest f).colls = s.colls := rfl
@[simp] theorem State.modTest_insts (f : TestB → TestB) : (s.modTest f).insts = s.insts := rfl
@[simp] theorem State.modTest_keptEnds (f : TestB → TestB) : (s.modTest f).keptEnds = s.keptEnds := rfl
@[simp] theorem State.modTest_arrays (f : TestB → TestB) : (s.modTest f).arrays = s.arrays := rfl
@[simp] theorem State.modTest_attics (f : TestB → TestB) : (s.modTest f).attics = s.attics := rfl
@[simp] theorem State.modTest_regqs (f : TestB → TestB) : (s.modTest f).regqs = s.regqs := rfl
@[simp] theorem State.modTest_avus (f : TestB → TestB) : (s.modTest f).avus = s.avus := rfl
@[simp] theorem State.modTest_trees (f : TestB → TestB) : (s.modTest f).trees = s.trees := rfl
@[simp] theorem State.modTest_dws (f : TestB → TestB) : (s.modTest f).dws = s.dws := rfl
@[simp] theorem State.modTest_dwOrder (f : TestB → TestB) : (s.modTest f).dwOrder = s.dwOrder := rfl
@[simp] theorem State.modTest_wings (f : TestB → TestB) : (s.modTest f).wings = s.wings := rfl
@[simp] theorem State.modTest_halls (f : TestB → TestB) : (s.modTest f).halls = s.halls := rfl
@[simp] theorem State.modTest_modules (f : TestB → TestB) : (s.modTest f).modules = s.modules := rfl
@[simp] theorem State.modTest_dies (f : TestB → TestB) : (s.modTest f).dies = s.dies := rfl
@[simp] theorem State.modTest_idBlocks (f : TestB → TestB) : (s.modTest f).idBlocks = s.idBlocks := rfl
@[simp] theorem State.modTest_links (f : TestB → TestB) : (s.modTest f).links = s.links := rfl
@[simp] theorem State.modTest_fabric (f : TestB → TestB) : (s.modTest f).fabric = s.fabric := rfl
@[simp] theorem State.modTest_bootCount (f : TestB → TestB) : (s.modTest f).bootCount = s.bootCount := rfl
@[simp] theorem State.modTest_absentDevs (f : TestB → TestB) : (s.modTest f).absentDevs = s.absentDevs := rfl
@[simp] theorem State.modTest_mailboxes (f : TestB → TestB) : (s.modTest f).mailboxes = s.mailboxes := rfl
@[simp] theorem State.modTest_doors (f : TestB → TestB) : (s.modTest f).doors = s.doors := rfl
@[simp] theorem State.modTest_sqs (f : TestB → TestB) : (s.modTest f).sqs = s.sqs := rfl
@[simp] theorem State.modTest_cqs (f : TestB → TestB) : (s.modTest f).cqs = s.cqs := rfl
@[simp] theorem State.modTest_descs (f : TestB → TestB) : (s.modTest f).descs = s.descs := rfl
@[simp] theorem State.modTest_nextDesc (f : TestB → TestB) : (s.modTest f).nextDesc = s.nextDesc := rfl
@[simp] theorem State.modTest_completions (f : TestB → TestB) : (s.modTest f).completions = s.completions := rfl
@[simp] theorem State.modTest_jobs (f : TestB → TestB) : (s.modTest f).jobs = s.jobs := rfl
@[simp] theorem State.modTest_errRings (f : TestB → TestB) : (s.modTest f).errRings = s.errRings := rfl
@[simp] theorem State.modTest_wingLogs (f : TestB → TestB) : (s.modTest f).wingLogs = s.wingLogs := rfl
@[simp] theorem State.modTest_errInFlight (f : TestB → TestB) : (s.modTest f).errInFlight = s.errInFlight := rfl
@[simp] theorem State.modTest_deviceLog (f : TestB → TestB) : (s.modTest f).deviceLog = s.deviceLog := rfl
@[simp] theorem State.modTest_flashLog (f : TestB → TestB) : (s.modTest f).flashLog = s.flashLog := rfl
@[simp] theorem State.modTest_deviceSeq (f : TestB → TestB) : (s.modTest f).deviceSeq = s.deviceSeq := rfl
@[simp] theorem State.modTest_ceWindows (f : TestB → TestB) : (s.modTest f).ceWindows = s.ceWindows := rfl
@[simp] theorem State.modTest_power (f : TestB → TestB) : (s.modTest f).power = s.power := rfl
@[simp] theorem State.modTest_therm (f : TestB → TestB) : (s.modTest f).therm = s.therm := rfl
@[simp] theorem State.modTest_boot (f : TestB → TestB) : (s.modTest f).boot = s.boot := rfl
@[simp] theorem State.modTest_aon (f : TestB → TestB) : (s.modTest f).aon = s.aon := rfl
@[simp] theorem State.modTest_flash (f : TestB → TestB) : (s.modTest f).flash = s.flash := rfl
@[simp] theorem State.modTest_flashLogs (f : TestB → TestB) : (s.modTest f).flashLogs = s.flashLogs := rfl
@[simp] theorem State.modTest_plan (f : TestB → TestB) : (s.modTest f).plan = s.plan := rfl
@[simp] theorem State.modTest_planGen (f : TestB → TestB) : (s.modTest f).planGen = s.planGen := rfl
@[simp] theorem State.modTest_planTime (f : TestB → TestB) : (s.modTest f).planTime = s.planTime := rfl
@[simp] theorem State.modTest_live (f : TestB → TestB) : (s.modTest f).live = s.live := rfl
@[simp] theorem State.modTest_mailboxStudy (f : TestB → TestB) : (s.modTest f).mailboxStudy = s.mailboxStudy := rfl
@[simp] theorem State.modTest_remaps (f : TestB → TestB) : (s.modTest f).remaps = s.remaps := rfl
@[simp] theorem State.modTest_pcies (f : TestB → TestB) : (s.modTest f).pcies = s.pcies := rfl
@[simp] theorem State.modTest_guards (f : TestB → TestB) : (s.modTest f).guards = s.guards := rfl

@[simp] theorem State.setMailbox_pending (r : Nat) (m : Mailbox) : (s.setMailbox r m).pending = s.pending := rfl
@[simp] theorem State.setMailbox_fuses (r : Nat) (m : Mailbox) : (s.setMailbox r m).fuses = s.fuses := rfl
@[simp] theorem State.setMailbox_devId (r : Nat) (m : Mailbox) : (s.setMailbox r m).devId = s.devId := rfl
@[simp] theorem State.setMailbox_now (r : Nat) (m : Mailbox) : (s.setMailbox r m).now = s.now := rfl
@[simp] theorem State.setMailbox_free (r : Nat) (m : Mailbox) : (s.setMailbox r m).free = s.free := rfl
@[simp] theorem State.setMailbox_mem (r : Nat) (m : Mailbox) : (s.setMailbox r m).mem = s.mem := rfl
@[simp] theorem State.setMailbox_poison (r : Nat) (m : Mailbox) : (s.setMailbox r m).poison = s.poison := rfl
@[simp] theorem State.setMailbox_regs (r : Nat) (m : Mailbox) : (s.setMailbox r m).regs = s.regs := rfl
@[simp] theorem State.setMailbox_harts (r : Nat) (m : Mailbox) : (s.setMailbox r m).harts = s.harts := rfl
@[simp] theorem State.setMailbox_rooms (r : Nat) (m : Mailbox) : (s.setMailbox r m).rooms = s.rooms := rfl
@[simp] theorem State.setMailbox_tags (r : Nat) (m : Mailbox) : (s.setMailbox r m).tags = s.tags := rfl
@[simp] theorem State.setMailbox_reqs (r : Nat) (m : Mailbox) : (s.setMailbox r m).reqs = s.reqs := rfl
@[simp] theorem State.setMailbox_exitMsgs (r : Nat) (m : Mailbox) : (s.setMailbox r m).exitMsgs = s.exitMsgs := rfl
@[simp] theorem State.setMailbox_caches (r : Nat) (m : Mailbox) : (s.setMailbox r m).caches = s.caches := rfl
@[simp] theorem State.setMailbox_sent (r : Nat) (m : Mailbox) : (s.setMailbox r m).sent = s.sent := rfl
@[simp] theorem State.setMailbox_colls (r : Nat) (m : Mailbox) : (s.setMailbox r m).colls = s.colls := rfl
@[simp] theorem State.setMailbox_insts (r : Nat) (m : Mailbox) : (s.setMailbox r m).insts = s.insts := rfl
@[simp] theorem State.setMailbox_keptEnds (r : Nat) (m : Mailbox) : (s.setMailbox r m).keptEnds = s.keptEnds := rfl
@[simp] theorem State.setMailbox_arrays (r : Nat) (m : Mailbox) : (s.setMailbox r m).arrays = s.arrays := rfl
@[simp] theorem State.setMailbox_attics (r : Nat) (m : Mailbox) : (s.setMailbox r m).attics = s.attics := rfl
@[simp] theorem State.setMailbox_regqs (r : Nat) (m : Mailbox) : (s.setMailbox r m).regqs = s.regqs := rfl
@[simp] theorem State.setMailbox_avus (r : Nat) (m : Mailbox) : (s.setMailbox r m).avus = s.avus := rfl
@[simp] theorem State.setMailbox_trees (r : Nat) (m : Mailbox) : (s.setMailbox r m).trees = s.trees := rfl
@[simp] theorem State.setMailbox_dws (r : Nat) (m : Mailbox) : (s.setMailbox r m).dws = s.dws := rfl
@[simp] theorem State.setMailbox_dwOrder (r : Nat) (m : Mailbox) : (s.setMailbox r m).dwOrder = s.dwOrder := rfl
@[simp] theorem State.setMailbox_wings (r : Nat) (m : Mailbox) : (s.setMailbox r m).wings = s.wings := rfl
@[simp] theorem State.setMailbox_halls (r : Nat) (m : Mailbox) : (s.setMailbox r m).halls = s.halls := rfl
@[simp] theorem State.setMailbox_modules (r : Nat) (m : Mailbox) : (s.setMailbox r m).modules = s.modules := rfl
@[simp] theorem State.setMailbox_dies (r : Nat) (m : Mailbox) : (s.setMailbox r m).dies = s.dies := rfl
@[simp] theorem State.setMailbox_idBlocks (r : Nat) (m : Mailbox) : (s.setMailbox r m).idBlocks = s.idBlocks := rfl
@[simp] theorem State.setMailbox_links (r : Nat) (m : Mailbox) : (s.setMailbox r m).links = s.links := rfl
@[simp] theorem State.setMailbox_fabric (r : Nat) (m : Mailbox) : (s.setMailbox r m).fabric = s.fabric := rfl
@[simp] theorem State.setMailbox_bootCount (r : Nat) (m : Mailbox) : (s.setMailbox r m).bootCount = s.bootCount := rfl
@[simp] theorem State.setMailbox_absentDevs (r : Nat) (m : Mailbox) : (s.setMailbox r m).absentDevs = s.absentDevs := rfl
@[simp] theorem State.setMailbox_doors (r : Nat) (m : Mailbox) : (s.setMailbox r m).doors = s.doors := rfl
@[simp] theorem State.setMailbox_sqs (r : Nat) (m : Mailbox) : (s.setMailbox r m).sqs = s.sqs := rfl
@[simp] theorem State.setMailbox_cqs (r : Nat) (m : Mailbox) : (s.setMailbox r m).cqs = s.cqs := rfl
@[simp] theorem State.setMailbox_descs (r : Nat) (m : Mailbox) : (s.setMailbox r m).descs = s.descs := rfl
@[simp] theorem State.setMailbox_nextDesc (r : Nat) (m : Mailbox) : (s.setMailbox r m).nextDesc = s.nextDesc := rfl
@[simp] theorem State.setMailbox_completions (r : Nat) (m : Mailbox) : (s.setMailbox r m).completions = s.completions := rfl
@[simp] theorem State.setMailbox_jobs (r : Nat) (m : Mailbox) : (s.setMailbox r m).jobs = s.jobs := rfl
@[simp] theorem State.setMailbox_errRings (r : Nat) (m : Mailbox) : (s.setMailbox r m).errRings = s.errRings := rfl
@[simp] theorem State.setMailbox_wingLogs (r : Nat) (m : Mailbox) : (s.setMailbox r m).wingLogs = s.wingLogs := rfl
@[simp] theorem State.setMailbox_errInFlight (r : Nat) (m : Mailbox) : (s.setMailbox r m).errInFlight = s.errInFlight := rfl
@[simp] theorem State.setMailbox_deviceLog (r : Nat) (m : Mailbox) : (s.setMailbox r m).deviceLog = s.deviceLog := rfl
@[simp] theorem State.setMailbox_flashLog (r : Nat) (m : Mailbox) : (s.setMailbox r m).flashLog = s.flashLog := rfl
@[simp] theorem State.setMailbox_deviceSeq (r : Nat) (m : Mailbox) : (s.setMailbox r m).deviceSeq = s.deviceSeq := rfl
@[simp] theorem State.setMailbox_ceWindows (r : Nat) (m : Mailbox) : (s.setMailbox r m).ceWindows = s.ceWindows := rfl
@[simp] theorem State.setMailbox_power (r : Nat) (m : Mailbox) : (s.setMailbox r m).power = s.power := rfl
@[simp] theorem State.setMailbox_therm (r : Nat) (m : Mailbox) : (s.setMailbox r m).therm = s.therm := rfl
@[simp] theorem State.setMailbox_boot (r : Nat) (m : Mailbox) : (s.setMailbox r m).boot = s.boot := rfl
@[simp] theorem State.setMailbox_aon (r : Nat) (m : Mailbox) : (s.setMailbox r m).aon = s.aon := rfl
@[simp] theorem State.setMailbox_flash (r : Nat) (m : Mailbox) : (s.setMailbox r m).flash = s.flash := rfl
@[simp] theorem State.setMailbox_flashLogs (r : Nat) (m : Mailbox) : (s.setMailbox r m).flashLogs = s.flashLogs := rfl
@[simp] theorem State.setMailbox_plan (r : Nat) (m : Mailbox) : (s.setMailbox r m).plan = s.plan := rfl
@[simp] theorem State.setMailbox_planGen (r : Nat) (m : Mailbox) : (s.setMailbox r m).planGen = s.planGen := rfl
@[simp] theorem State.setMailbox_planTime (r : Nat) (m : Mailbox) : (s.setMailbox r m).planTime = s.planTime := rfl
@[simp] theorem State.setMailbox_live (r : Nat) (m : Mailbox) : (s.setMailbox r m).live = s.live := rfl
@[simp] theorem State.setMailbox_mailboxStudy (r : Nat) (m : Mailbox) : (s.setMailbox r m).mailboxStudy = s.mailboxStudy := rfl
@[simp] theorem State.setMailbox_remaps (r : Nat) (m : Mailbox) : (s.setMailbox r m).remaps = s.remaps := rfl
@[simp] theorem State.setMailbox_test (r : Nat) (m : Mailbox) : (s.setMailbox r m).test = s.test := rfl
@[simp] theorem State.setMailbox_pcies (r : Nat) (m : Mailbox) : (s.setMailbox r m).pcies = s.pcies := rfl
@[simp] theorem State.setMailbox_guards (r : Nat) (m : Mailbox) : (s.setMailbox r m).guards = s.guards := rfl

/-! Readers of one part after an update of another. -/

@[simp] theorem State.room_setHartAt (k : Nat) (v : Hart) (j : Nat) : (s.setHartAt k v).room j = s.room j := rfl
@[simp] theorem State.array_setHartAt (k : Nat) (v : Hart) (j : Nat) : (s.setHartAt k v).array j = s.array j := rfl
@[simp] theorem State.attic_setHartAt (k : Nat) (v : Hart) (j : Nat) : (s.setHartAt k v).attic j = s.attic j := rfl
@[simp] theorem State.avu_setHartAt (k : Nat) (v : Hart) (j : Nat) : (s.setHartAt k v).avu j = s.avu j := rfl
@[simp] theorem State.tree_setHartAt (k : Nat) (v : Hart) (j : Nat) : (s.setHartAt k v).tree j = s.tree j := rfl
@[simp] theorem State.door_setHartAt (k : Nat) (v : Hart) (j : Nat) : (s.setHartAt k v).door j = s.door j := rfl
@[simp] theorem State.sq_setHartAt (k : Nat) (v : Hart) (j : Nat) : (s.setHartAt k v).sq j = s.sq j := rfl
@[simp] theorem State.cq_setHartAt (k : Nat) (v : Hart) (j : Nat) : (s.setHartAt k v).cq j = s.cq j := rfl
@[simp] theorem State.dw_setHartAt (k : Nat) (v : Hart) (j : Nat) : (s.setHartAt k v).dw j = s.dw j := rfl
@[simp] theorem State.wing_setHartAt (k : Nat) (v : Hart) (j : Nat) : (s.setHartAt k v).wing j = s.wing j := rfl
@[simp] theorem State.regq_setHartAt (k : Nat) (v : Hart) (j : Nat) : (s.setHartAt k v).regq j = s.regq j := rfl
@[simp] theorem State.hall_setHartAt (k : Nat) (v : Hart) (j : Nat) : (s.setHartAt k v).hall j = s.hall j := rfl
@[simp] theorem State.module_setHartAt (k : Nat) (v : Hart) (j : Nat) : (s.setHartAt k v).module j = s.module j := rfl
@[simp] theorem State.die_setHartAt (k : Nat) (v : Hart) (j : Nat) : (s.setHartAt k v).die j = s.die j := rfl
@[simp] theorem State.link_setHartAt (k : Nat) (v : Hart) (j : Nat) : (s.setHartAt k v).link j = s.link j := rfl
@[simp] theorem State.reg_setHartAt (k : Nat) (v : Hart) (a : RegName) (j : Nat) : (s.setHartAt k v).reg a j = s.reg a j := rfl
@[simp] theorem State.regN_setHartAt (k : Nat) (v : Hart) (a : RegName) (j : Nat) : (s.setHartAt k v).regN a j = s.regN a j := rfl
@[simp] theorem State.tag_setHartAt (k : Nat) (v : Hart) (a j : Nat) : (s.setHartAt k v).tag a j = s.tag a j := rfl

@[simp] theorem State.room_modHartAt (k : Nat) (f : Hart → Hart) (j : Nat) : (s.modHartAt k f).room j = s.room j := rfl
@[simp] theorem State.array_modHartAt (k : Nat) (f : Hart → Hart) (j : Nat) : (s.modHartAt k f).array j = s.array j := rfl
@[simp] theorem State.attic_modHartAt (k : Nat) (f : Hart → Hart) (j : Nat) : (s.modHartAt k f).attic j = s.attic j := rfl
@[simp] theorem State.avu_modHartAt (k : Nat) (f : Hart → Hart) (j : Nat) : (s.modHartAt k f).avu j = s.avu j := rfl
@[simp] theorem State.tree_modHartAt (k : Nat) (f : Hart → Hart) (j : Nat) : (s.modHartAt k f).tree j = s.tree j := rfl
@[simp] theorem State.door_modHartAt (k : Nat) (f : Hart → Hart) (j : Nat) : (s.modHartAt k f).door j = s.door j := rfl
@[simp] theorem State.sq_modHartAt (k : Nat) (f : Hart → Hart) (j : Nat) : (s.modHartAt k f).sq j = s.sq j := rfl
@[simp] theorem State.cq_modHartAt (k : Nat) (f : Hart → Hart) (j : Nat) : (s.modHartAt k f).cq j = s.cq j := rfl
@[simp] theorem State.dw_modHartAt (k : Nat) (f : Hart → Hart) (j : Nat) : (s.modHartAt k f).dw j = s.dw j := rfl
@[simp] theorem State.wing_modHartAt (k : Nat) (f : Hart → Hart) (j : Nat) : (s.modHartAt k f).wing j = s.wing j := rfl
@[simp] theorem State.regq_modHartAt (k : Nat) (f : Hart → Hart) (j : Nat) : (s.modHartAt k f).regq j = s.regq j := rfl
@[simp] theorem State.hall_modHartAt (k : Nat) (f : Hart → Hart) (j : Nat) : (s.modHartAt k f).hall j = s.hall j := rfl
@[simp] theorem State.module_modHartAt (k : Nat) (f : Hart → Hart) (j : Nat) : (s.modHartAt k f).module j = s.module j := rfl
@[simp] theorem State.die_modHartAt (k : Nat) (f : Hart → Hart) (j : Nat) : (s.modHartAt k f).die j = s.die j := rfl
@[simp] theorem State.link_modHartAt (k : Nat) (f : Hart → Hart) (j : Nat) : (s.modHartAt k f).link j = s.link j := rfl
@[simp] theorem State.reg_modHartAt (k : Nat) (f : Hart → Hart) (a : RegName) (j : Nat) : (s.modHartAt k f).reg a j = s.reg a j := rfl
@[simp] theorem State.regN_modHartAt (k : Nat) (f : Hart → Hart) (a : RegName) (j : Nat) : (s.modHartAt k f).regN a j = s.regN a j := rfl
@[simp] theorem State.tag_modHartAt (k : Nat) (f : Hart → Hart) (a j : Nat) : (s.modHartAt k f).tag a j = s.tag a j := rfl

@[simp] theorem State.room_modHart (h : HartId) (f : Hart → Hart) (j : Nat) : (s.modHart h f).room j = s.room j := rfl
@[simp] theorem State.array_modHart (h : HartId) (f : Hart → Hart) (j : Nat) : (s.modHart h f).array j = s.array j := rfl
@[simp] theorem State.attic_modHart (h : HartId) (f : Hart → Hart) (j : Nat) : (s.modHart h f).attic j = s.attic j := rfl
@[simp] theorem State.avu_modHart (h : HartId) (f : Hart → Hart) (j : Nat) : (s.modHart h f).avu j = s.avu j := rfl
@[simp] theorem State.tree_modHart (h : HartId) (f : Hart → Hart) (j : Nat) : (s.modHart h f).tree j = s.tree j := rfl
@[simp] theorem State.door_modHart (h : HartId) (f : Hart → Hart) (j : Nat) : (s.modHart h f).door j = s.door j := rfl
@[simp] theorem State.sq_modHart (h : HartId) (f : Hart → Hart) (j : Nat) : (s.modHart h f).sq j = s.sq j := rfl
@[simp] theorem State.cq_modHart (h : HartId) (f : Hart → Hart) (j : Nat) : (s.modHart h f).cq j = s.cq j := rfl
@[simp] theorem State.dw_modHart (h : HartId) (f : Hart → Hart) (j : Nat) : (s.modHart h f).dw j = s.dw j := rfl
@[simp] theorem State.wing_modHart (h : HartId) (f : Hart → Hart) (j : Nat) : (s.modHart h f).wing j = s.wing j := rfl
@[simp] theorem State.regq_modHart (h : HartId) (f : Hart → Hart) (j : Nat) : (s.modHart h f).regq j = s.regq j := rfl
@[simp] theorem State.hall_modHart (h : HartId) (f : Hart → Hart) (j : Nat) : (s.modHart h f).hall j = s.hall j := rfl
@[simp] theorem State.module_modHart (h : HartId) (f : Hart → Hart) (j : Nat) : (s.modHart h f).module j = s.module j := rfl
@[simp] theorem State.die_modHart (h : HartId) (f : Hart → Hart) (j : Nat) : (s.modHart h f).die j = s.die j := rfl
@[simp] theorem State.link_modHart (h : HartId) (f : Hart → Hart) (j : Nat) : (s.modHart h f).link j = s.link j := rfl
@[simp] theorem State.reg_modHart (h : HartId) (f : Hart → Hart) (a : RegName) (j : Nat) : (s.modHart h f).reg a j = s.reg a j := rfl
@[simp] theorem State.regN_modHart (h : HartId) (f : Hart → Hart) (a : RegName) (j : Nat) : (s.modHart h f).regN a j = s.regN a j := rfl
@[simp] theorem State.tag_modHart (h : HartId) (f : Hart → Hart) (a j : Nat) : (s.modHart h f).tag a j = s.tag a j := rfl

@[simp] theorem State.hartAt_modRoom (r : Nat) (f : Room → Room) (j : Nat) : (s.modRoom r f).hartAt j = s.hartAt j := rfl
@[simp] theorem State.hart_modRoom (r : Nat) (f : Room → Room) (g : HartId) : (s.modRoom r f).hart g = s.hart g := rfl
@[simp] theorem State.array_modRoom (r : Nat) (f : Room → Room) (j : Nat) : (s.modRoom r f).array j = s.array j := rfl
@[simp] theorem State.attic_modRoom (r : Nat) (f : Room → Room) (j : Nat) : (s.modRoom r f).attic j = s.attic j := rfl
@[simp] theorem State.avu_modRoom (r : Nat) (f : Room → Room) (j : Nat) : (s.modRoom r f).avu j = s.avu j := rfl
@[simp] theorem State.tree_modRoom (r : Nat) (f : Room → Room) (j : Nat) : (s.modRoom r f).tree j = s.tree j := rfl
@[simp] theorem State.door_modRoom (r : Nat) (f : Room → Room) (j : Nat) : (s.modRoom r f).door j = s.door j := rfl
@[simp] theorem State.sq_modRoom (r : Nat) (f : Room → Room) (j : Nat) : (s.modRoom r f).sq j = s.sq j := rfl
@[simp] theorem State.cq_modRoom (r : Nat) (f : Room → Room) (j : Nat) : (s.modRoom r f).cq j = s.cq j := rfl
@[simp] theorem State.dw_modRoom (r : Nat) (f : Room → Room) (j : Nat) : (s.modRoom r f).dw j = s.dw j := rfl
@[simp] theorem State.wing_modRoom (r : Nat) (f : Room → Room) (j : Nat) : (s.modRoom r f).wing j = s.wing j := rfl
@[simp] theorem State.regq_modRoom (r : Nat) (f : Room → Room) (j : Nat) : (s.modRoom r f).regq j = s.regq j := rfl
@[simp] theorem State.hall_modRoom (r : Nat) (f : Room → Room) (j : Nat) : (s.modRoom r f).hall j = s.hall j := rfl
@[simp] theorem State.module_modRoom (r : Nat) (f : Room → Room) (j : Nat) : (s.modRoom r f).module j = s.module j := rfl
@[simp] theorem State.die_modRoom (r : Nat) (f : Room → Room) (j : Nat) : (s.modRoom r f).die j = s.die j := rfl
@[simp] theorem State.link_modRoom (r : Nat) (f : Room → Room) (j : Nat) : (s.modRoom r f).link j = s.link j := rfl
@[simp] theorem State.reg_modRoom (r : Nat) (f : Room → Room) (a : RegName) (j : Nat) : (s.modRoom r f).reg a j = s.reg a j := rfl
@[simp] theorem State.regN_modRoom (r : Nat) (f : Room → Room) (a : RegName) (j : Nat) : (s.modRoom r f).regN a j = s.regN a j := rfl
@[simp] theorem State.tag_modRoom (r : Nat) (f : Room → Room) (a j : Nat) : (s.modRoom r f).tag a j = s.tag a j := rfl

@[simp] theorem State.hartAt_modArray (r : Nat) (f : ArrayB → ArrayB) (j : Nat) : (s.modArray r f).hartAt j = s.hartAt j := rfl
@[simp] theorem State.hart_modArray (r : Nat) (f : ArrayB → ArrayB) (g : HartId) : (s.modArray r f).hart g = s.hart g := rfl
@[simp] theorem State.room_modArray (r : Nat) (f : ArrayB → ArrayB) (j : Nat) : (s.modArray r f).room j = s.room j := rfl
@[simp] theorem State.attic_modArray (r : Nat) (f : ArrayB → ArrayB) (j : Nat) : (s.modArray r f).attic j = s.attic j := rfl
@[simp] theorem State.avu_modArray (r : Nat) (f : ArrayB → ArrayB) (j : Nat) : (s.modArray r f).avu j = s.avu j := rfl
@[simp] theorem State.tree_modArray (r : Nat) (f : ArrayB → ArrayB) (j : Nat) : (s.modArray r f).tree j = s.tree j := rfl
@[simp] theorem State.door_modArray (r : Nat) (f : ArrayB → ArrayB) (j : Nat) : (s.modArray r f).door j = s.door j := rfl
@[simp] theorem State.sq_modArray (r : Nat) (f : ArrayB → ArrayB) (j : Nat) : (s.modArray r f).sq j = s.sq j := rfl
@[simp] theorem State.cq_modArray (r : Nat) (f : ArrayB → ArrayB) (j : Nat) : (s.modArray r f).cq j = s.cq j := rfl
@[simp] theorem State.dw_modArray (r : Nat) (f : ArrayB → ArrayB) (j : Nat) : (s.modArray r f).dw j = s.dw j := rfl
@[simp] theorem State.wing_modArray (r : Nat) (f : ArrayB → ArrayB) (j : Nat) : (s.modArray r f).wing j = s.wing j := rfl
@[simp] theorem State.regq_modArray (r : Nat) (f : ArrayB → ArrayB) (j : Nat) : (s.modArray r f).regq j = s.regq j := rfl
@[simp] theorem State.hall_modArray (r : Nat) (f : ArrayB → ArrayB) (j : Nat) : (s.modArray r f).hall j = s.hall j := rfl
@[simp] theorem State.module_modArray (r : Nat) (f : ArrayB → ArrayB) (j : Nat) : (s.modArray r f).module j = s.module j := rfl
@[simp] theorem State.die_modArray (r : Nat) (f : ArrayB → ArrayB) (j : Nat) : (s.modArray r f).die j = s.die j := rfl
@[simp] theorem State.link_modArray (r : Nat) (f : ArrayB → ArrayB) (j : Nat) : (s.modArray r f).link j = s.link j := rfl
@[simp] theorem State.reg_modArray (r : Nat) (f : ArrayB → ArrayB) (a : RegName) (j : Nat) : (s.modArray r f).reg a j = s.reg a j := rfl
@[simp] theorem State.regN_modArray (r : Nat) (f : ArrayB → ArrayB) (a : RegName) (j : Nat) : (s.modArray r f).regN a j = s.regN a j := rfl
@[simp] theorem State.tag_modArray (r : Nat) (f : ArrayB → ArrayB) (a j : Nat) : (s.modArray r f).tag a j = s.tag a j := rfl

@[simp] theorem State.hartAt_modAttic (r : Nat) (f : AtticB → AtticB) (j : Nat) : (s.modAttic r f).hartAt j = s.hartAt j := rfl
@[simp] theorem State.hart_modAttic (r : Nat) (f : AtticB → AtticB) (g : HartId) : (s.modAttic r f).hart g = s.hart g := rfl
@[simp] theorem State.room_modAttic (r : Nat) (f : AtticB → AtticB) (j : Nat) : (s.modAttic r f).room j = s.room j := rfl
@[simp] theorem State.array_modAttic (r : Nat) (f : AtticB → AtticB) (j : Nat) : (s.modAttic r f).array j = s.array j := rfl
@[simp] theorem State.avu_modAttic (r : Nat) (f : AtticB → AtticB) (j : Nat) : (s.modAttic r f).avu j = s.avu j := rfl
@[simp] theorem State.tree_modAttic (r : Nat) (f : AtticB → AtticB) (j : Nat) : (s.modAttic r f).tree j = s.tree j := rfl
@[simp] theorem State.door_modAttic (r : Nat) (f : AtticB → AtticB) (j : Nat) : (s.modAttic r f).door j = s.door j := rfl
@[simp] theorem State.sq_modAttic (r : Nat) (f : AtticB → AtticB) (j : Nat) : (s.modAttic r f).sq j = s.sq j := rfl
@[simp] theorem State.cq_modAttic (r : Nat) (f : AtticB → AtticB) (j : Nat) : (s.modAttic r f).cq j = s.cq j := rfl
@[simp] theorem State.dw_modAttic (r : Nat) (f : AtticB → AtticB) (j : Nat) : (s.modAttic r f).dw j = s.dw j := rfl
@[simp] theorem State.wing_modAttic (r : Nat) (f : AtticB → AtticB) (j : Nat) : (s.modAttic r f).wing j = s.wing j := rfl
@[simp] theorem State.regq_modAttic (r : Nat) (f : AtticB → AtticB) (j : Nat) : (s.modAttic r f).regq j = s.regq j := rfl
@[simp] theorem State.hall_modAttic (r : Nat) (f : AtticB → AtticB) (j : Nat) : (s.modAttic r f).hall j = s.hall j := rfl
@[simp] theorem State.module_modAttic (r : Nat) (f : AtticB → AtticB) (j : Nat) : (s.modAttic r f).module j = s.module j := rfl
@[simp] theorem State.die_modAttic (r : Nat) (f : AtticB → AtticB) (j : Nat) : (s.modAttic r f).die j = s.die j := rfl
@[simp] theorem State.link_modAttic (r : Nat) (f : AtticB → AtticB) (j : Nat) : (s.modAttic r f).link j = s.link j := rfl
@[simp] theorem State.reg_modAttic (r : Nat) (f : AtticB → AtticB) (a : RegName) (j : Nat) : (s.modAttic r f).reg a j = s.reg a j := rfl
@[simp] theorem State.regN_modAttic (r : Nat) (f : AtticB → AtticB) (a : RegName) (j : Nat) : (s.modAttic r f).regN a j = s.regN a j := rfl
@[simp] theorem State.tag_modAttic (r : Nat) (f : AtticB → AtticB) (a j : Nat) : (s.modAttic r f).tag a j = s.tag a j := rfl

@[simp] theorem State.hartAt_modAvu (r : Nat) (f : AvuB → AvuB) (j : Nat) : (s.modAvu r f).hartAt j = s.hartAt j := rfl
@[simp] theorem State.hart_modAvu (r : Nat) (f : AvuB → AvuB) (g : HartId) : (s.modAvu r f).hart g = s.hart g := rfl
@[simp] theorem State.room_modAvu (r : Nat) (f : AvuB → AvuB) (j : Nat) : (s.modAvu r f).room j = s.room j := rfl
@[simp] theorem State.array_modAvu (r : Nat) (f : AvuB → AvuB) (j : Nat) : (s.modAvu r f).array j = s.array j := rfl
@[simp] theorem State.attic_modAvu (r : Nat) (f : AvuB → AvuB) (j : Nat) : (s.modAvu r f).attic j = s.attic j := rfl
@[simp] theorem State.tree_modAvu (r : Nat) (f : AvuB → AvuB) (j : Nat) : (s.modAvu r f).tree j = s.tree j := rfl
@[simp] theorem State.door_modAvu (r : Nat) (f : AvuB → AvuB) (j : Nat) : (s.modAvu r f).door j = s.door j := rfl
@[simp] theorem State.sq_modAvu (r : Nat) (f : AvuB → AvuB) (j : Nat) : (s.modAvu r f).sq j = s.sq j := rfl
@[simp] theorem State.cq_modAvu (r : Nat) (f : AvuB → AvuB) (j : Nat) : (s.modAvu r f).cq j = s.cq j := rfl
@[simp] theorem State.dw_modAvu (r : Nat) (f : AvuB → AvuB) (j : Nat) : (s.modAvu r f).dw j = s.dw j := rfl
@[simp] theorem State.wing_modAvu (r : Nat) (f : AvuB → AvuB) (j : Nat) : (s.modAvu r f).wing j = s.wing j := rfl
@[simp] theorem State.regq_modAvu (r : Nat) (f : AvuB → AvuB) (j : Nat) : (s.modAvu r f).regq j = s.regq j := rfl
@[simp] theorem State.hall_modAvu (r : Nat) (f : AvuB → AvuB) (j : Nat) : (s.modAvu r f).hall j = s.hall j := rfl
@[simp] theorem State.module_modAvu (r : Nat) (f : AvuB → AvuB) (j : Nat) : (s.modAvu r f).module j = s.module j := rfl
@[simp] theorem State.die_modAvu (r : Nat) (f : AvuB → AvuB) (j : Nat) : (s.modAvu r f).die j = s.die j := rfl
@[simp] theorem State.link_modAvu (r : Nat) (f : AvuB → AvuB) (j : Nat) : (s.modAvu r f).link j = s.link j := rfl
@[simp] theorem State.reg_modAvu (r : Nat) (f : AvuB → AvuB) (a : RegName) (j : Nat) : (s.modAvu r f).reg a j = s.reg a j := rfl
@[simp] theorem State.regN_modAvu (r : Nat) (f : AvuB → AvuB) (a : RegName) (j : Nat) : (s.modAvu r f).regN a j = s.regN a j := rfl
@[simp] theorem State.tag_modAvu (r : Nat) (f : AvuB → AvuB) (a j : Nat) : (s.modAvu r f).tag a j = s.tag a j := rfl

@[simp] theorem State.hartAt_modTree (r : Nat) (f : TreeB → TreeB) (j : Nat) : (s.modTree r f).hartAt j = s.hartAt j := rfl
@[simp] theorem State.hart_modTree (r : Nat) (f : TreeB → TreeB) (g : HartId) : (s.modTree r f).hart g = s.hart g := rfl
@[simp] theorem State.room_modTree (r : Nat) (f : TreeB → TreeB) (j : Nat) : (s.modTree r f).room j = s.room j := rfl
@[simp] theorem State.array_modTree (r : Nat) (f : TreeB → TreeB) (j : Nat) : (s.modTree r f).array j = s.array j := rfl
@[simp] theorem State.attic_modTree (r : Nat) (f : TreeB → TreeB) (j : Nat) : (s.modTree r f).attic j = s.attic j := rfl
@[simp] theorem State.avu_modTree (r : Nat) (f : TreeB → TreeB) (j : Nat) : (s.modTree r f).avu j = s.avu j := rfl
@[simp] theorem State.door_modTree (r : Nat) (f : TreeB → TreeB) (j : Nat) : (s.modTree r f).door j = s.door j := rfl
@[simp] theorem State.sq_modTree (r : Nat) (f : TreeB → TreeB) (j : Nat) : (s.modTree r f).sq j = s.sq j := rfl
@[simp] theorem State.cq_modTree (r : Nat) (f : TreeB → TreeB) (j : Nat) : (s.modTree r f).cq j = s.cq j := rfl
@[simp] theorem State.dw_modTree (r : Nat) (f : TreeB → TreeB) (j : Nat) : (s.modTree r f).dw j = s.dw j := rfl
@[simp] theorem State.wing_modTree (r : Nat) (f : TreeB → TreeB) (j : Nat) : (s.modTree r f).wing j = s.wing j := rfl
@[simp] theorem State.regq_modTree (r : Nat) (f : TreeB → TreeB) (j : Nat) : (s.modTree r f).regq j = s.regq j := rfl
@[simp] theorem State.hall_modTree (r : Nat) (f : TreeB → TreeB) (j : Nat) : (s.modTree r f).hall j = s.hall j := rfl
@[simp] theorem State.module_modTree (r : Nat) (f : TreeB → TreeB) (j : Nat) : (s.modTree r f).module j = s.module j := rfl
@[simp] theorem State.die_modTree (r : Nat) (f : TreeB → TreeB) (j : Nat) : (s.modTree r f).die j = s.die j := rfl
@[simp] theorem State.link_modTree (r : Nat) (f : TreeB → TreeB) (j : Nat) : (s.modTree r f).link j = s.link j := rfl
@[simp] theorem State.reg_modTree (r : Nat) (f : TreeB → TreeB) (a : RegName) (j : Nat) : (s.modTree r f).reg a j = s.reg a j := rfl
@[simp] theorem State.regN_modTree (r : Nat) (f : TreeB → TreeB) (a : RegName) (j : Nat) : (s.modTree r f).regN a j = s.regN a j := rfl
@[simp] theorem State.tag_modTree (r : Nat) (f : TreeB → TreeB) (a j : Nat) : (s.modTree r f).tag a j = s.tag a j := rfl

@[simp] theorem State.hartAt_modDoor (d : Nat) (f : Door → Door) (j : Nat) : (s.modDoor d f).hartAt j = s.hartAt j := rfl
@[simp] theorem State.hart_modDoor (d : Nat) (f : Door → Door) (g : HartId) : (s.modDoor d f).hart g = s.hart g := rfl
@[simp] theorem State.room_modDoor (d : Nat) (f : Door → Door) (j : Nat) : (s.modDoor d f).room j = s.room j := rfl
@[simp] theorem State.array_modDoor (d : Nat) (f : Door → Door) (j : Nat) : (s.modDoor d f).array j = s.array j := rfl
@[simp] theorem State.attic_modDoor (d : Nat) (f : Door → Door) (j : Nat) : (s.modDoor d f).attic j = s.attic j := rfl
@[simp] theorem State.avu_modDoor (d : Nat) (f : Door → Door) (j : Nat) : (s.modDoor d f).avu j = s.avu j := rfl
@[simp] theorem State.tree_modDoor (d : Nat) (f : Door → Door) (j : Nat) : (s.modDoor d f).tree j = s.tree j := rfl
@[simp] theorem State.sq_modDoor (d : Nat) (f : Door → Door) (j : Nat) : (s.modDoor d f).sq j = s.sq j := rfl
@[simp] theorem State.cq_modDoor (d : Nat) (f : Door → Door) (j : Nat) : (s.modDoor d f).cq j = s.cq j := rfl
@[simp] theorem State.dw_modDoor (d : Nat) (f : Door → Door) (j : Nat) : (s.modDoor d f).dw j = s.dw j := rfl
@[simp] theorem State.wing_modDoor (d : Nat) (f : Door → Door) (j : Nat) : (s.modDoor d f).wing j = s.wing j := rfl
@[simp] theorem State.regq_modDoor (d : Nat) (f : Door → Door) (j : Nat) : (s.modDoor d f).regq j = s.regq j := rfl
@[simp] theorem State.hall_modDoor (d : Nat) (f : Door → Door) (j : Nat) : (s.modDoor d f).hall j = s.hall j := rfl
@[simp] theorem State.module_modDoor (d : Nat) (f : Door → Door) (j : Nat) : (s.modDoor d f).module j = s.module j := rfl
@[simp] theorem State.die_modDoor (d : Nat) (f : Door → Door) (j : Nat) : (s.modDoor d f).die j = s.die j := rfl
@[simp] theorem State.link_modDoor (d : Nat) (f : Door → Door) (j : Nat) : (s.modDoor d f).link j = s.link j := rfl
@[simp] theorem State.reg_modDoor (d : Nat) (f : Door → Door) (a : RegName) (j : Nat) : (s.modDoor d f).reg a j = s.reg a j := rfl
@[simp] theorem State.regN_modDoor (d : Nat) (f : Door → Door) (a : RegName) (j : Nat) : (s.modDoor d f).regN a j = s.regN a j := rfl
@[simp] theorem State.tag_modDoor (d : Nat) (f : Door → Door) (a j : Nat) : (s.modDoor d f).tag a j = s.tag a j := rfl

@[simp] theorem State.hartAt_modSq (q : Nat) (f : SubRing → SubRing) (j : Nat) : (s.modSq q f).hartAt j = s.hartAt j := rfl
@[simp] theorem State.hart_modSq (q : Nat) (f : SubRing → SubRing) (g : HartId) : (s.modSq q f).hart g = s.hart g := rfl
@[simp] theorem State.room_modSq (q : Nat) (f : SubRing → SubRing) (j : Nat) : (s.modSq q f).room j = s.room j := rfl
@[simp] theorem State.array_modSq (q : Nat) (f : SubRing → SubRing) (j : Nat) : (s.modSq q f).array j = s.array j := rfl
@[simp] theorem State.attic_modSq (q : Nat) (f : SubRing → SubRing) (j : Nat) : (s.modSq q f).attic j = s.attic j := rfl
@[simp] theorem State.avu_modSq (q : Nat) (f : SubRing → SubRing) (j : Nat) : (s.modSq q f).avu j = s.avu j := rfl
@[simp] theorem State.tree_modSq (q : Nat) (f : SubRing → SubRing) (j : Nat) : (s.modSq q f).tree j = s.tree j := rfl
@[simp] theorem State.door_modSq (q : Nat) (f : SubRing → SubRing) (j : Nat) : (s.modSq q f).door j = s.door j := rfl
@[simp] theorem State.cq_modSq (q : Nat) (f : SubRing → SubRing) (j : Nat) : (s.modSq q f).cq j = s.cq j := rfl
@[simp] theorem State.dw_modSq (q : Nat) (f : SubRing → SubRing) (j : Nat) : (s.modSq q f).dw j = s.dw j := rfl
@[simp] theorem State.wing_modSq (q : Nat) (f : SubRing → SubRing) (j : Nat) : (s.modSq q f).wing j = s.wing j := rfl
@[simp] theorem State.regq_modSq (q : Nat) (f : SubRing → SubRing) (j : Nat) : (s.modSq q f).regq j = s.regq j := rfl
@[simp] theorem State.hall_modSq (q : Nat) (f : SubRing → SubRing) (j : Nat) : (s.modSq q f).hall j = s.hall j := rfl
@[simp] theorem State.module_modSq (q : Nat) (f : SubRing → SubRing) (j : Nat) : (s.modSq q f).module j = s.module j := rfl
@[simp] theorem State.die_modSq (q : Nat) (f : SubRing → SubRing) (j : Nat) : (s.modSq q f).die j = s.die j := rfl
@[simp] theorem State.link_modSq (q : Nat) (f : SubRing → SubRing) (j : Nat) : (s.modSq q f).link j = s.link j := rfl
@[simp] theorem State.reg_modSq (q : Nat) (f : SubRing → SubRing) (a : RegName) (j : Nat) : (s.modSq q f).reg a j = s.reg a j := rfl
@[simp] theorem State.regN_modSq (q : Nat) (f : SubRing → SubRing) (a : RegName) (j : Nat) : (s.modSq q f).regN a j = s.regN a j := rfl
@[simp] theorem State.tag_modSq (q : Nat) (f : SubRing → SubRing) (a j : Nat) : (s.modSq q f).tag a j = s.tag a j := rfl

@[simp] theorem State.hartAt_modCq (c : Nat) (f : ComRing → ComRing) (j : Nat) : (s.modCq c f).hartAt j = s.hartAt j := rfl
@[simp] theorem State.hart_modCq (c : Nat) (f : ComRing → ComRing) (g : HartId) : (s.modCq c f).hart g = s.hart g := rfl
@[simp] theorem State.room_modCq (c : Nat) (f : ComRing → ComRing) (j : Nat) : (s.modCq c f).room j = s.room j := rfl
@[simp] theorem State.array_modCq (c : Nat) (f : ComRing → ComRing) (j : Nat) : (s.modCq c f).array j = s.array j := rfl
@[simp] theorem State.attic_modCq (c : Nat) (f : ComRing → ComRing) (j : Nat) : (s.modCq c f).attic j = s.attic j := rfl
@[simp] theorem State.avu_modCq (c : Nat) (f : ComRing → ComRing) (j : Nat) : (s.modCq c f).avu j = s.avu j := rfl
@[simp] theorem State.tree_modCq (c : Nat) (f : ComRing → ComRing) (j : Nat) : (s.modCq c f).tree j = s.tree j := rfl
@[simp] theorem State.door_modCq (c : Nat) (f : ComRing → ComRing) (j : Nat) : (s.modCq c f).door j = s.door j := rfl
@[simp] theorem State.sq_modCq (c : Nat) (f : ComRing → ComRing) (j : Nat) : (s.modCq c f).sq j = s.sq j := rfl
@[simp] theorem State.dw_modCq (c : Nat) (f : ComRing → ComRing) (j : Nat) : (s.modCq c f).dw j = s.dw j := rfl
@[simp] theorem State.wing_modCq (c : Nat) (f : ComRing → ComRing) (j : Nat) : (s.modCq c f).wing j = s.wing j := rfl
@[simp] theorem State.regq_modCq (c : Nat) (f : ComRing → ComRing) (j : Nat) : (s.modCq c f).regq j = s.regq j := rfl
@[simp] theorem State.hall_modCq (c : Nat) (f : ComRing → ComRing) (j : Nat) : (s.modCq c f).hall j = s.hall j := rfl
@[simp] theorem State.module_modCq (c : Nat) (f : ComRing → ComRing) (j : Nat) : (s.modCq c f).module j = s.module j := rfl
@[simp] theorem State.die_modCq (c : Nat) (f : ComRing → ComRing) (j : Nat) : (s.modCq c f).die j = s.die j := rfl
@[simp] theorem State.link_modCq (c : Nat) (f : ComRing → ComRing) (j : Nat) : (s.modCq c f).link j = s.link j := rfl
@[simp] theorem State.reg_modCq (c : Nat) (f : ComRing → ComRing) (a : RegName) (j : Nat) : (s.modCq c f).reg a j = s.reg a j := rfl
@[simp] theorem State.regN_modCq (c : Nat) (f : ComRing → ComRing) (a : RegName) (j : Nat) : (s.modCq c f).regN a j = s.regN a j := rfl
@[simp] theorem State.tag_modCq (c : Nat) (f : ComRing → ComRing) (a j : Nat) : (s.modCq c f).tag a j = s.tag a j := rfl

@[simp] theorem State.hartAt_modDw (k : Nat) (f : DwChan → DwChan) (j : Nat) : (s.modDw k f).hartAt j = s.hartAt j := rfl
@[simp] theorem State.hart_modDw (k : Nat) (f : DwChan → DwChan) (g : HartId) : (s.modDw k f).hart g = s.hart g := rfl
@[simp] theorem State.room_modDw (k : Nat) (f : DwChan → DwChan) (j : Nat) : (s.modDw k f).room j = s.room j := rfl
@[simp] theorem State.array_modDw (k : Nat) (f : DwChan → DwChan) (j : Nat) : (s.modDw k f).array j = s.array j := rfl
@[simp] theorem State.attic_modDw (k : Nat) (f : DwChan → DwChan) (j : Nat) : (s.modDw k f).attic j = s.attic j := rfl
@[simp] theorem State.avu_modDw (k : Nat) (f : DwChan → DwChan) (j : Nat) : (s.modDw k f).avu j = s.avu j := rfl
@[simp] theorem State.tree_modDw (k : Nat) (f : DwChan → DwChan) (j : Nat) : (s.modDw k f).tree j = s.tree j := rfl
@[simp] theorem State.door_modDw (k : Nat) (f : DwChan → DwChan) (j : Nat) : (s.modDw k f).door j = s.door j := rfl
@[simp] theorem State.sq_modDw (k : Nat) (f : DwChan → DwChan) (j : Nat) : (s.modDw k f).sq j = s.sq j := rfl
@[simp] theorem State.cq_modDw (k : Nat) (f : DwChan → DwChan) (j : Nat) : (s.modDw k f).cq j = s.cq j := rfl
@[simp] theorem State.wing_modDw (k : Nat) (f : DwChan → DwChan) (j : Nat) : (s.modDw k f).wing j = s.wing j := rfl
@[simp] theorem State.regq_modDw (k : Nat) (f : DwChan → DwChan) (j : Nat) : (s.modDw k f).regq j = s.regq j := rfl
@[simp] theorem State.hall_modDw (k : Nat) (f : DwChan → DwChan) (j : Nat) : (s.modDw k f).hall j = s.hall j := rfl
@[simp] theorem State.module_modDw (k : Nat) (f : DwChan → DwChan) (j : Nat) : (s.modDw k f).module j = s.module j := rfl
@[simp] theorem State.die_modDw (k : Nat) (f : DwChan → DwChan) (j : Nat) : (s.modDw k f).die j = s.die j := rfl
@[simp] theorem State.link_modDw (k : Nat) (f : DwChan → DwChan) (j : Nat) : (s.modDw k f).link j = s.link j := rfl
@[simp] theorem State.reg_modDw (k : Nat) (f : DwChan → DwChan) (a : RegName) (j : Nat) : (s.modDw k f).reg a j = s.reg a j := rfl
@[simp] theorem State.regN_modDw (k : Nat) (f : DwChan → DwChan) (a : RegName) (j : Nat) : (s.modDw k f).regN a j = s.regN a j := rfl
@[simp] theorem State.tag_modDw (k : Nat) (f : DwChan → DwChan) (a j : Nat) : (s.modDw k f).tag a j = s.tag a j := rfl

@[simp] theorem State.hartAt_modWing (w : Nat) (f : Wing → Wing) (j : Nat) : (s.modWing w f).hartAt j = s.hartAt j := rfl
@[simp] theorem State.hart_modWing (w : Nat) (f : Wing → Wing) (g : HartId) : (s.modWing w f).hart g = s.hart g := rfl
@[simp] theorem State.room_modWing (w : Nat) (f : Wing → Wing) (j : Nat) : (s.modWing w f).room j = s.room j := rfl
@[simp] theorem State.array_modWing (w : Nat) (f : Wing → Wing) (j : Nat) : (s.modWing w f).array j = s.array j := rfl
@[simp] theorem State.attic_modWing (w : Nat) (f : Wing → Wing) (j : Nat) : (s.modWing w f).attic j = s.attic j := rfl
@[simp] theorem State.avu_modWing (w : Nat) (f : Wing → Wing) (j : Nat) : (s.modWing w f).avu j = s.avu j := rfl
@[simp] theorem State.tree_modWing (w : Nat) (f : Wing → Wing) (j : Nat) : (s.modWing w f).tree j = s.tree j := rfl
@[simp] theorem State.door_modWing (w : Nat) (f : Wing → Wing) (j : Nat) : (s.modWing w f).door j = s.door j := rfl
@[simp] theorem State.sq_modWing (w : Nat) (f : Wing → Wing) (j : Nat) : (s.modWing w f).sq j = s.sq j := rfl
@[simp] theorem State.cq_modWing (w : Nat) (f : Wing → Wing) (j : Nat) : (s.modWing w f).cq j = s.cq j := rfl
@[simp] theorem State.dw_modWing (w : Nat) (f : Wing → Wing) (j : Nat) : (s.modWing w f).dw j = s.dw j := rfl
@[simp] theorem State.regq_modWing (w : Nat) (f : Wing → Wing) (j : Nat) : (s.modWing w f).regq j = s.regq j := rfl
@[simp] theorem State.hall_modWing (w : Nat) (f : Wing → Wing) (j : Nat) : (s.modWing w f).hall j = s.hall j := rfl
@[simp] theorem State.module_modWing (w : Nat) (f : Wing → Wing) (j : Nat) : (s.modWing w f).module j = s.module j := rfl
@[simp] theorem State.die_modWing (w : Nat) (f : Wing → Wing) (j : Nat) : (s.modWing w f).die j = s.die j := rfl
@[simp] theorem State.link_modWing (w : Nat) (f : Wing → Wing) (j : Nat) : (s.modWing w f).link j = s.link j := rfl
@[simp] theorem State.reg_modWing (w : Nat) (f : Wing → Wing) (a : RegName) (j : Nat) : (s.modWing w f).reg a j = s.reg a j := rfl
@[simp] theorem State.regN_modWing (w : Nat) (f : Wing → Wing) (a : RegName) (j : Nat) : (s.modWing w f).regN a j = s.regN a j := rfl
@[simp] theorem State.tag_modWing (w : Nat) (f : Wing → Wing) (a j : Nat) : (s.modWing w f).tag a j = s.tag a j := rfl

@[simp] theorem State.hartAt_setReg (n : RegName) (i : Nat) (x : W64) (j : Nat) : (s.setReg n i x).hartAt j = s.hartAt j := rfl
@[simp] theorem State.hart_setReg (n : RegName) (i : Nat) (x : W64) (g : HartId) : (s.setReg n i x).hart g = s.hart g := rfl
@[simp] theorem State.room_setReg (n : RegName) (i : Nat) (x : W64) (j : Nat) : (s.setReg n i x).room j = s.room j := rfl
@[simp] theorem State.array_setReg (n : RegName) (i : Nat) (x : W64) (j : Nat) : (s.setReg n i x).array j = s.array j := rfl
@[simp] theorem State.attic_setReg (n : RegName) (i : Nat) (x : W64) (j : Nat) : (s.setReg n i x).attic j = s.attic j := rfl
@[simp] theorem State.avu_setReg (n : RegName) (i : Nat) (x : W64) (j : Nat) : (s.setReg n i x).avu j = s.avu j := rfl
@[simp] theorem State.tree_setReg (n : RegName) (i : Nat) (x : W64) (j : Nat) : (s.setReg n i x).tree j = s.tree j := rfl
@[simp] theorem State.door_setReg (n : RegName) (i : Nat) (x : W64) (j : Nat) : (s.setReg n i x).door j = s.door j := rfl
@[simp] theorem State.sq_setReg (n : RegName) (i : Nat) (x : W64) (j : Nat) : (s.setReg n i x).sq j = s.sq j := rfl
@[simp] theorem State.cq_setReg (n : RegName) (i : Nat) (x : W64) (j : Nat) : (s.setReg n i x).cq j = s.cq j := rfl
@[simp] theorem State.dw_setReg (n : RegName) (i : Nat) (x : W64) (j : Nat) : (s.setReg n i x).dw j = s.dw j := rfl
@[simp] theorem State.wing_setReg (n : RegName) (i : Nat) (x : W64) (j : Nat) : (s.setReg n i x).wing j = s.wing j := rfl
@[simp] theorem State.regq_setReg (n : RegName) (i : Nat) (x : W64) (j : Nat) : (s.setReg n i x).regq j = s.regq j := rfl
@[simp] theorem State.hall_setReg (n : RegName) (i : Nat) (x : W64) (j : Nat) : (s.setReg n i x).hall j = s.hall j := rfl
@[simp] theorem State.module_setReg (n : RegName) (i : Nat) (x : W64) (j : Nat) : (s.setReg n i x).module j = s.module j := rfl
@[simp] theorem State.die_setReg (n : RegName) (i : Nat) (x : W64) (j : Nat) : (s.setReg n i x).die j = s.die j := rfl
@[simp] theorem State.link_setReg (n : RegName) (i : Nat) (x : W64) (j : Nat) : (s.setReg n i x).link j = s.link j := rfl
@[simp] theorem State.tag_setReg (n : RegName) (i : Nat) (x : W64) (a j : Nat) : (s.setReg n i x).tag a j = s.tag a j := rfl

@[simp] theorem State.hartAt_setRegN (n : RegName) (i x : Nat) (j : Nat) : (s.setRegN n i x).hartAt j = s.hartAt j := rfl
@[simp] theorem State.hart_setRegN (n : RegName) (i x : Nat) (g : HartId) : (s.setRegN n i x).hart g = s.hart g := rfl
@[simp] theorem State.room_setRegN (n : RegName) (i x : Nat) (j : Nat) : (s.setRegN n i x).room j = s.room j := rfl
@[simp] theorem State.array_setRegN (n : RegName) (i x : Nat) (j : Nat) : (s.setRegN n i x).array j = s.array j := rfl
@[simp] theorem State.attic_setRegN (n : RegName) (i x : Nat) (j : Nat) : (s.setRegN n i x).attic j = s.attic j := rfl
@[simp] theorem State.avu_setRegN (n : RegName) (i x : Nat) (j : Nat) : (s.setRegN n i x).avu j = s.avu j := rfl
@[simp] theorem State.tree_setRegN (n : RegName) (i x : Nat) (j : Nat) : (s.setRegN n i x).tree j = s.tree j := rfl
@[simp] theorem State.door_setRegN (n : RegName) (i x : Nat) (j : Nat) : (s.setRegN n i x).door j = s.door j := rfl
@[simp] theorem State.sq_setRegN (n : RegName) (i x : Nat) (j : Nat) : (s.setRegN n i x).sq j = s.sq j := rfl
@[simp] theorem State.cq_setRegN (n : RegName) (i x : Nat) (j : Nat) : (s.setRegN n i x).cq j = s.cq j := rfl
@[simp] theorem State.dw_setRegN (n : RegName) (i x : Nat) (j : Nat) : (s.setRegN n i x).dw j = s.dw j := rfl
@[simp] theorem State.wing_setRegN (n : RegName) (i x : Nat) (j : Nat) : (s.setRegN n i x).wing j = s.wing j := rfl
@[simp] theorem State.regq_setRegN (n : RegName) (i x : Nat) (j : Nat) : (s.setRegN n i x).regq j = s.regq j := rfl
@[simp] theorem State.hall_setRegN (n : RegName) (i x : Nat) (j : Nat) : (s.setRegN n i x).hall j = s.hall j := rfl
@[simp] theorem State.module_setRegN (n : RegName) (i x : Nat) (j : Nat) : (s.setRegN n i x).module j = s.module j := rfl
@[simp] theorem State.die_setRegN (n : RegName) (i x : Nat) (j : Nat) : (s.setRegN n i x).die j = s.die j := rfl
@[simp] theorem State.link_setRegN (n : RegName) (i x : Nat) (j : Nat) : (s.setRegN n i x).link j = s.link j := rfl
@[simp] theorem State.tag_setRegN (n : RegName) (i x : Nat) (a j : Nat) : (s.setRegN n i x).tag a j = s.tag a j := rfl

@[simp] theorem State.hartAt_orReg (n : RegName) (i m : Nat) (j : Nat) : (s.orReg n i m).hartAt j = s.hartAt j := rfl
@[simp] theorem State.hart_orReg (n : RegName) (i m : Nat) (g : HartId) : (s.orReg n i m).hart g = s.hart g := rfl
@[simp] theorem State.room_orReg (n : RegName) (i m : Nat) (j : Nat) : (s.orReg n i m).room j = s.room j := rfl
@[simp] theorem State.array_orReg (n : RegName) (i m : Nat) (j : Nat) : (s.orReg n i m).array j = s.array j := rfl
@[simp] theorem State.attic_orReg (n : RegName) (i m : Nat) (j : Nat) : (s.orReg n i m).attic j = s.attic j := rfl
@[simp] theorem State.avu_orReg (n : RegName) (i m : Nat) (j : Nat) : (s.orReg n i m).avu j = s.avu j := rfl
@[simp] theorem State.tree_orReg (n : RegName) (i m : Nat) (j : Nat) : (s.orReg n i m).tree j = s.tree j := rfl
@[simp] theorem State.door_orReg (n : RegName) (i m : Nat) (j : Nat) : (s.orReg n i m).door j = s.door j := rfl
@[simp] theorem State.sq_orReg (n : RegName) (i m : Nat) (j : Nat) : (s.orReg n i m).sq j = s.sq j := rfl
@[simp] theorem State.cq_orReg (n : RegName) (i m : Nat) (j : Nat) : (s.orReg n i m).cq j = s.cq j := rfl
@[simp] theorem State.dw_orReg (n : RegName) (i m : Nat) (j : Nat) : (s.orReg n i m).dw j = s.dw j := rfl
@[simp] theorem State.wing_orReg (n : RegName) (i m : Nat) (j : Nat) : (s.orReg n i m).wing j = s.wing j := rfl
@[simp] theorem State.regq_orReg (n : RegName) (i m : Nat) (j : Nat) : (s.orReg n i m).regq j = s.regq j := rfl
@[simp] theorem State.hall_orReg (n : RegName) (i m : Nat) (j : Nat) : (s.orReg n i m).hall j = s.hall j := rfl
@[simp] theorem State.module_orReg (n : RegName) (i m : Nat) (j : Nat) : (s.orReg n i m).module j = s.module j := rfl
@[simp] theorem State.die_orReg (n : RegName) (i m : Nat) (j : Nat) : (s.orReg n i m).die j = s.die j := rfl
@[simp] theorem State.link_orReg (n : RegName) (i m : Nat) (j : Nat) : (s.orReg n i m).link j = s.link j := rfl
@[simp] theorem State.tag_orReg (n : RegName) (i m : Nat) (a j : Nat) : (s.orReg n i m).tag a j = s.tag a j := rfl

@[simp] theorem State.hartAt_bumpReg (n : RegName) (i w b : Nat) (j : Nat) : (s.bumpReg n i w b).hartAt j = s.hartAt j := rfl
@[simp] theorem State.hart_bumpReg (n : RegName) (i w b : Nat) (g : HartId) : (s.bumpReg n i w b).hart g = s.hart g := rfl
@[simp] theorem State.room_bumpReg (n : RegName) (i w b : Nat) (j : Nat) : (s.bumpReg n i w b).room j = s.room j := rfl
@[simp] theorem State.array_bumpReg (n : RegName) (i w b : Nat) (j : Nat) : (s.bumpReg n i w b).array j = s.array j := rfl
@[simp] theorem State.attic_bumpReg (n : RegName) (i w b : Nat) (j : Nat) : (s.bumpReg n i w b).attic j = s.attic j := rfl
@[simp] theorem State.avu_bumpReg (n : RegName) (i w b : Nat) (j : Nat) : (s.bumpReg n i w b).avu j = s.avu j := rfl
@[simp] theorem State.tree_bumpReg (n : RegName) (i w b : Nat) (j : Nat) : (s.bumpReg n i w b).tree j = s.tree j := rfl
@[simp] theorem State.door_bumpReg (n : RegName) (i w b : Nat) (j : Nat) : (s.bumpReg n i w b).door j = s.door j := rfl
@[simp] theorem State.sq_bumpReg (n : RegName) (i w b : Nat) (j : Nat) : (s.bumpReg n i w b).sq j = s.sq j := rfl
@[simp] theorem State.cq_bumpReg (n : RegName) (i w b : Nat) (j : Nat) : (s.bumpReg n i w b).cq j = s.cq j := rfl
@[simp] theorem State.dw_bumpReg (n : RegName) (i w b : Nat) (j : Nat) : (s.bumpReg n i w b).dw j = s.dw j := rfl
@[simp] theorem State.wing_bumpReg (n : RegName) (i w b : Nat) (j : Nat) : (s.bumpReg n i w b).wing j = s.wing j := rfl
@[simp] theorem State.regq_bumpReg (n : RegName) (i w b : Nat) (j : Nat) : (s.bumpReg n i w b).regq j = s.regq j := rfl
@[simp] theorem State.hall_bumpReg (n : RegName) (i w b : Nat) (j : Nat) : (s.bumpReg n i w b).hall j = s.hall j := rfl
@[simp] theorem State.module_bumpReg (n : RegName) (i w b : Nat) (j : Nat) : (s.bumpReg n i w b).module j = s.module j := rfl
@[simp] theorem State.die_bumpReg (n : RegName) (i w b : Nat) (j : Nat) : (s.bumpReg n i w b).die j = s.die j := rfl
@[simp] theorem State.link_bumpReg (n : RegName) (i w b : Nat) (j : Nat) : (s.bumpReg n i w b).link j = s.link j := rfl
@[simp] theorem State.tag_bumpReg (n : RegName) (i w b : Nat) (a j : Nat) : (s.bumpReg n i w b).tag a j = s.tag a j := rfl

@[simp] theorem State.hartAt_reach (t : Nat) (j : Nat) : (s.reach t).hartAt j = s.hartAt j := rfl
@[simp] theorem State.hart_reach (t : Nat) (g : HartId) : (s.reach t).hart g = s.hart g := rfl
@[simp] theorem State.room_reach (t : Nat) (j : Nat) : (s.reach t).room j = s.room j := rfl
@[simp] theorem State.array_reach (t : Nat) (j : Nat) : (s.reach t).array j = s.array j := rfl
@[simp] theorem State.attic_reach (t : Nat) (j : Nat) : (s.reach t).attic j = s.attic j := rfl
@[simp] theorem State.avu_reach (t : Nat) (j : Nat) : (s.reach t).avu j = s.avu j := rfl
@[simp] theorem State.tree_reach (t : Nat) (j : Nat) : (s.reach t).tree j = s.tree j := rfl
@[simp] theorem State.door_reach (t : Nat) (j : Nat) : (s.reach t).door j = s.door j := rfl
@[simp] theorem State.sq_reach (t : Nat) (j : Nat) : (s.reach t).sq j = s.sq j := rfl
@[simp] theorem State.cq_reach (t : Nat) (j : Nat) : (s.reach t).cq j = s.cq j := rfl
@[simp] theorem State.dw_reach (t : Nat) (j : Nat) : (s.reach t).dw j = s.dw j := rfl
@[simp] theorem State.wing_reach (t : Nat) (j : Nat) : (s.reach t).wing j = s.wing j := rfl
@[simp] theorem State.regq_reach (t : Nat) (j : Nat) : (s.reach t).regq j = s.regq j := rfl
@[simp] theorem State.hall_reach (t : Nat) (j : Nat) : (s.reach t).hall j = s.hall j := rfl
@[simp] theorem State.module_reach (t : Nat) (j : Nat) : (s.reach t).module j = s.module j := rfl
@[simp] theorem State.die_reach (t : Nat) (j : Nat) : (s.reach t).die j = s.die j := rfl
@[simp] theorem State.link_reach (t : Nat) (j : Nat) : (s.reach t).link j = s.link j := rfl
@[simp] theorem State.reg_reach (t : Nat) (a : RegName) (j : Nat) : (s.reach t).reg a j = s.reg a j := rfl
@[simp] theorem State.regN_reach (t : Nat) (a : RegName) (j : Nat) : (s.reach t).regN a j = s.regN a j := rfl
@[simp] theorem State.tag_reach (t : Nat) (a j : Nat) : (s.reach t).tag a j = s.tag a j := rfl

@[simp] theorem State.hartAt_bump (j : Nat) : (s.bump).hartAt j = s.hartAt j := rfl
@[simp] theorem State.hart_bump (g : HartId) : (s.bump).hart g = s.hart g := rfl
@[simp] theorem State.room_bump (j : Nat) : (s.bump).room j = s.room j := rfl
@[simp] theorem State.array_bump (j : Nat) : (s.bump).array j = s.array j := rfl
@[simp] theorem State.attic_bump (j : Nat) : (s.bump).attic j = s.attic j := rfl
@[simp] theorem State.avu_bump (j : Nat) : (s.bump).avu j = s.avu j := rfl
@[simp] theorem State.tree_bump (j : Nat) : (s.bump).tree j = s.tree j := rfl
@[simp] theorem State.door_bump (j : Nat) : (s.bump).door j = s.door j := rfl
@[simp] theorem State.sq_bump (j : Nat) : (s.bump).sq j = s.sq j := rfl
@[simp] theorem State.cq_bump (j : Nat) : (s.bump).cq j = s.cq j := rfl
@[simp] theorem State.dw_bump (j : Nat) : (s.bump).dw j = s.dw j := rfl
@[simp] theorem State.wing_bump (j : Nat) : (s.bump).wing j = s.wing j := rfl
@[simp] theorem State.regq_bump (j : Nat) : (s.bump).regq j = s.regq j := rfl
@[simp] theorem State.hall_bump (j : Nat) : (s.bump).hall j = s.hall j := rfl
@[simp] theorem State.module_bump (j : Nat) : (s.bump).module j = s.module j := rfl
@[simp] theorem State.die_bump (j : Nat) : (s.bump).die j = s.die j := rfl
@[simp] theorem State.link_bump (j : Nat) : (s.bump).link j = s.link j := rfl
@[simp] theorem State.reg_bump (a : RegName) (j : Nat) : (s.bump).reg a j = s.reg a j := rfl
@[simp] theorem State.regN_bump (a : RegName) (j : Nat) : (s.bump).regN a j = s.regN a j := rfl
@[simp] theorem State.tag_bump (a j : Nat) : (s.bump).tag a j = s.tag a j := rfl

@[simp] theorem State.hartAt_setPoison (k : Nat) (p : Bool) (j : Nat) : (s.setPoison k p).hartAt j = s.hartAt j := rfl
@[simp] theorem State.hart_setPoison (k : Nat) (p : Bool) (g : HartId) : (s.setPoison k p).hart g = s.hart g := rfl
@[simp] theorem State.room_setPoison (k : Nat) (p : Bool) (j : Nat) : (s.setPoison k p).room j = s.room j := rfl
@[simp] theorem State.array_setPoison (k : Nat) (p : Bool) (j : Nat) : (s.setPoison k p).array j = s.array j := rfl
@[simp] theorem State.attic_setPoison (k : Nat) (p : Bool) (j : Nat) : (s.setPoison k p).attic j = s.attic j := rfl
@[simp] theorem State.avu_setPoison (k : Nat) (p : Bool) (j : Nat) : (s.setPoison k p).avu j = s.avu j := rfl
@[simp] theorem State.tree_setPoison (k : Nat) (p : Bool) (j : Nat) : (s.setPoison k p).tree j = s.tree j := rfl
@[simp] theorem State.door_setPoison (k : Nat) (p : Bool) (j : Nat) : (s.setPoison k p).door j = s.door j := rfl
@[simp] theorem State.sq_setPoison (k : Nat) (p : Bool) (j : Nat) : (s.setPoison k p).sq j = s.sq j := rfl
@[simp] theorem State.cq_setPoison (k : Nat) (p : Bool) (j : Nat) : (s.setPoison k p).cq j = s.cq j := rfl
@[simp] theorem State.dw_setPoison (k : Nat) (p : Bool) (j : Nat) : (s.setPoison k p).dw j = s.dw j := rfl
@[simp] theorem State.wing_setPoison (k : Nat) (p : Bool) (j : Nat) : (s.setPoison k p).wing j = s.wing j := rfl
@[simp] theorem State.regq_setPoison (k : Nat) (p : Bool) (j : Nat) : (s.setPoison k p).regq j = s.regq j := rfl
@[simp] theorem State.hall_setPoison (k : Nat) (p : Bool) (j : Nat) : (s.setPoison k p).hall j = s.hall j := rfl
@[simp] theorem State.module_setPoison (k : Nat) (p : Bool) (j : Nat) : (s.setPoison k p).module j = s.module j := rfl
@[simp] theorem State.die_setPoison (k : Nat) (p : Bool) (j : Nat) : (s.setPoison k p).die j = s.die j := rfl
@[simp] theorem State.link_setPoison (k : Nat) (p : Bool) (j : Nat) : (s.setPoison k p).link j = s.link j := rfl
@[simp] theorem State.reg_setPoison (k : Nat) (p : Bool) (a : RegName) (j : Nat) : (s.setPoison k p).reg a j = s.reg a j := rfl
@[simp] theorem State.regN_setPoison (k : Nat) (p : Bool) (a : RegName) (j : Nat) : (s.setPoison k p).regN a j = s.regN a j := rfl
@[simp] theorem State.tag_setPoison (k : Nat) (p : Bool) (a j : Nat) : (s.setPoison k p).tag a j = s.tag a j := rfl

@[simp] theorem State.hartAt_putBytes (k : Nat) (l : List Byte) (j : Nat) : (s.putBytes k l).hartAt j = s.hartAt j := rfl
@[simp] theorem State.hart_putBytes (k : Nat) (l : List Byte) (g : HartId) : (s.putBytes k l).hart g = s.hart g := rfl
@[simp] theorem State.room_putBytes (k : Nat) (l : List Byte) (j : Nat) : (s.putBytes k l).room j = s.room j := rfl
@[simp] theorem State.array_putBytes (k : Nat) (l : List Byte) (j : Nat) : (s.putBytes k l).array j = s.array j := rfl
@[simp] theorem State.attic_putBytes (k : Nat) (l : List Byte) (j : Nat) : (s.putBytes k l).attic j = s.attic j := rfl
@[simp] theorem State.avu_putBytes (k : Nat) (l : List Byte) (j : Nat) : (s.putBytes k l).avu j = s.avu j := rfl
@[simp] theorem State.tree_putBytes (k : Nat) (l : List Byte) (j : Nat) : (s.putBytes k l).tree j = s.tree j := rfl
@[simp] theorem State.door_putBytes (k : Nat) (l : List Byte) (j : Nat) : (s.putBytes k l).door j = s.door j := rfl
@[simp] theorem State.sq_putBytes (k : Nat) (l : List Byte) (j : Nat) : (s.putBytes k l).sq j = s.sq j := rfl
@[simp] theorem State.cq_putBytes (k : Nat) (l : List Byte) (j : Nat) : (s.putBytes k l).cq j = s.cq j := rfl
@[simp] theorem State.dw_putBytes (k : Nat) (l : List Byte) (j : Nat) : (s.putBytes k l).dw j = s.dw j := rfl
@[simp] theorem State.wing_putBytes (k : Nat) (l : List Byte) (j : Nat) : (s.putBytes k l).wing j = s.wing j := rfl
@[simp] theorem State.regq_putBytes (k : Nat) (l : List Byte) (j : Nat) : (s.putBytes k l).regq j = s.regq j := rfl
@[simp] theorem State.hall_putBytes (k : Nat) (l : List Byte) (j : Nat) : (s.putBytes k l).hall j = s.hall j := rfl
@[simp] theorem State.module_putBytes (k : Nat) (l : List Byte) (j : Nat) : (s.putBytes k l).module j = s.module j := rfl
@[simp] theorem State.die_putBytes (k : Nat) (l : List Byte) (j : Nat) : (s.putBytes k l).die j = s.die j := rfl
@[simp] theorem State.link_putBytes (k : Nat) (l : List Byte) (j : Nat) : (s.putBytes k l).link j = s.link j := rfl
@[simp] theorem State.reg_putBytes (k : Nat) (l : List Byte) (a : RegName) (j : Nat) : (s.putBytes k l).reg a j = s.reg a j := rfl
@[simp] theorem State.regN_putBytes (k : Nat) (l : List Byte) (a : RegName) (j : Nat) : (s.putBytes k l).regN a j = s.regN a j := rfl
@[simp] theorem State.tag_putBytes (k : Nat) (l : List Byte) (a j : Nat) : (s.putBytes k l).tag a j = s.tag a j := rfl

@[simp] theorem State.hartAt_setTag (i n : Nat) (e : TagEntry) (j : Nat) : (s.setTag i n e).hartAt j = s.hartAt j := rfl
@[simp] theorem State.hart_setTag (i n : Nat) (e : TagEntry) (g : HartId) : (s.setTag i n e).hart g = s.hart g := rfl
@[simp] theorem State.room_setTag (i n : Nat) (e : TagEntry) (j : Nat) : (s.setTag i n e).room j = s.room j := rfl
@[simp] theorem State.array_setTag (i n : Nat) (e : TagEntry) (j : Nat) : (s.setTag i n e).array j = s.array j := rfl
@[simp] theorem State.attic_setTag (i n : Nat) (e : TagEntry) (j : Nat) : (s.setTag i n e).attic j = s.attic j := rfl
@[simp] theorem State.avu_setTag (i n : Nat) (e : TagEntry) (j : Nat) : (s.setTag i n e).avu j = s.avu j := rfl
@[simp] theorem State.tree_setTag (i n : Nat) (e : TagEntry) (j : Nat) : (s.setTag i n e).tree j = s.tree j := rfl
@[simp] theorem State.door_setTag (i n : Nat) (e : TagEntry) (j : Nat) : (s.setTag i n e).door j = s.door j := rfl
@[simp] theorem State.sq_setTag (i n : Nat) (e : TagEntry) (j : Nat) : (s.setTag i n e).sq j = s.sq j := rfl
@[simp] theorem State.cq_setTag (i n : Nat) (e : TagEntry) (j : Nat) : (s.setTag i n e).cq j = s.cq j := rfl
@[simp] theorem State.dw_setTag (i n : Nat) (e : TagEntry) (j : Nat) : (s.setTag i n e).dw j = s.dw j := rfl
@[simp] theorem State.wing_setTag (i n : Nat) (e : TagEntry) (j : Nat) : (s.setTag i n e).wing j = s.wing j := rfl
@[simp] theorem State.regq_setTag (i n : Nat) (e : TagEntry) (j : Nat) : (s.setTag i n e).regq j = s.regq j := rfl
@[simp] theorem State.hall_setTag (i n : Nat) (e : TagEntry) (j : Nat) : (s.setTag i n e).hall j = s.hall j := rfl
@[simp] theorem State.module_setTag (i n : Nat) (e : TagEntry) (j : Nat) : (s.setTag i n e).module j = s.module j := rfl
@[simp] theorem State.die_setTag (i n : Nat) (e : TagEntry) (j : Nat) : (s.setTag i n e).die j = s.die j := rfl
@[simp] theorem State.link_setTag (i n : Nat) (e : TagEntry) (j : Nat) : (s.setTag i n e).link j = s.link j := rfl
@[simp] theorem State.reg_setTag (i n : Nat) (e : TagEntry) (a : RegName) (j : Nat) : (s.setTag i n e).reg a j = s.reg a j := rfl
@[simp] theorem State.regN_setTag (i n : Nat) (e : TagEntry) (a : RegName) (j : Nat) : (s.setTag i n e).regN a j = s.regN a j := rfl

@[simp] theorem State.hartAt_send (m : Sent) (j : Nat) : (s.send m).hartAt j = s.hartAt j := rfl
@[simp] theorem State.hart_send (m : Sent) (g : HartId) : (s.send m).hart g = s.hart g := rfl
@[simp] theorem State.room_send (m : Sent) (j : Nat) : (s.send m).room j = s.room j := rfl
@[simp] theorem State.array_send (m : Sent) (j : Nat) : (s.send m).array j = s.array j := rfl
@[simp] theorem State.attic_send (m : Sent) (j : Nat) : (s.send m).attic j = s.attic j := rfl
@[simp] theorem State.avu_send (m : Sent) (j : Nat) : (s.send m).avu j = s.avu j := rfl
@[simp] theorem State.tree_send (m : Sent) (j : Nat) : (s.send m).tree j = s.tree j := rfl
@[simp] theorem State.door_send (m : Sent) (j : Nat) : (s.send m).door j = s.door j := rfl
@[simp] theorem State.sq_send (m : Sent) (j : Nat) : (s.send m).sq j = s.sq j := rfl
@[simp] theorem State.cq_send (m : Sent) (j : Nat) : (s.send m).cq j = s.cq j := rfl
@[simp] theorem State.dw_send (m : Sent) (j : Nat) : (s.send m).dw j = s.dw j := rfl
@[simp] theorem State.wing_send (m : Sent) (j : Nat) : (s.send m).wing j = s.wing j := rfl
@[simp] theorem State.regq_send (m : Sent) (j : Nat) : (s.send m).regq j = s.regq j := rfl
@[simp] theorem State.hall_send (m : Sent) (j : Nat) : (s.send m).hall j = s.hall j := rfl
@[simp] theorem State.module_send (m : Sent) (j : Nat) : (s.send m).module j = s.module j := rfl
@[simp] theorem State.die_send (m : Sent) (j : Nat) : (s.send m).die j = s.die j := rfl
@[simp] theorem State.link_send (m : Sent) (j : Nat) : (s.send m).link j = s.link j := rfl
@[simp] theorem State.reg_send (m : Sent) (a : RegName) (j : Nat) : (s.send m).reg a j = s.reg a j := rfl
@[simp] theorem State.regN_send (m : Sent) (a : RegName) (j : Nat) : (s.send m).regN a j = s.regN a j := rfl
@[simp] theorem State.tag_send (m : Sent) (a j : Nat) : (s.send m).tag a j = s.tag a j := rfl

@[simp] theorem State.hartAt_modRegq (k : Nat) (f : RegQ → RegQ) (j : Nat) : (s.modRegq k f).hartAt j = s.hartAt j := rfl
@[simp] theorem State.hart_modRegq (k : Nat) (f : RegQ → RegQ) (g : HartId) : (s.modRegq k f).hart g = s.hart g := rfl
@[simp] theorem State.room_modRegq (k : Nat) (f : RegQ → RegQ) (j : Nat) : (s.modRegq k f).room j = s.room j := rfl
@[simp] theorem State.array_modRegq (k : Nat) (f : RegQ → RegQ) (j : Nat) : (s.modRegq k f).array j = s.array j := rfl
@[simp] theorem State.attic_modRegq (k : Nat) (f : RegQ → RegQ) (j : Nat) : (s.modRegq k f).attic j = s.attic j := rfl
@[simp] theorem State.avu_modRegq (k : Nat) (f : RegQ → RegQ) (j : Nat) : (s.modRegq k f).avu j = s.avu j := rfl
@[simp] theorem State.tree_modRegq (k : Nat) (f : RegQ → RegQ) (j : Nat) : (s.modRegq k f).tree j = s.tree j := rfl
@[simp] theorem State.door_modRegq (k : Nat) (f : RegQ → RegQ) (j : Nat) : (s.modRegq k f).door j = s.door j := rfl
@[simp] theorem State.sq_modRegq (k : Nat) (f : RegQ → RegQ) (j : Nat) : (s.modRegq k f).sq j = s.sq j := rfl
@[simp] theorem State.cq_modRegq (k : Nat) (f : RegQ → RegQ) (j : Nat) : (s.modRegq k f).cq j = s.cq j := rfl
@[simp] theorem State.dw_modRegq (k : Nat) (f : RegQ → RegQ) (j : Nat) : (s.modRegq k f).dw j = s.dw j := rfl
@[simp] theorem State.wing_modRegq (k : Nat) (f : RegQ → RegQ) (j : Nat) : (s.modRegq k f).wing j = s.wing j := rfl
@[simp] theorem State.hall_modRegq (k : Nat) (f : RegQ → RegQ) (j : Nat) : (s.modRegq k f).hall j = s.hall j := rfl
@[simp] theorem State.module_modRegq (k : Nat) (f : RegQ → RegQ) (j : Nat) : (s.modRegq k f).module j = s.module j := rfl
@[simp] theorem State.die_modRegq (k : Nat) (f : RegQ → RegQ) (j : Nat) : (s.modRegq k f).die j = s.die j := rfl
@[simp] theorem State.link_modRegq (k : Nat) (f : RegQ → RegQ) (j : Nat) : (s.modRegq k f).link j = s.link j := rfl
@[simp] theorem State.reg_modRegq (k : Nat) (f : RegQ → RegQ) (a : RegName) (j : Nat) : (s.modRegq k f).reg a j = s.reg a j := rfl
@[simp] theorem State.regN_modRegq (k : Nat) (f : RegQ → RegQ) (a : RegName) (j : Nat) : (s.modRegq k f).regN a j = s.regN a j := rfl
@[simp] theorem State.tag_modRegq (k : Nat) (f : RegQ → RegQ) (a j : Nat) : (s.modRegq k f).tag a j = s.tag a j := rfl

@[simp] theorem State.hartAt_modHall (w : Nat) (f : HallB → HallB) (j : Nat) : (s.modHall w f).hartAt j = s.hartAt j := rfl
@[simp] theorem State.hart_modHall (w : Nat) (f : HallB → HallB) (g : HartId) : (s.modHall w f).hart g = s.hart g := rfl
@[simp] theorem State.room_modHall (w : Nat) (f : HallB → HallB) (j : Nat) : (s.modHall w f).room j = s.room j := rfl
@[simp] theorem State.array_modHall (w : Nat) (f : HallB → HallB) (j : Nat) : (s.modHall w f).array j = s.array j := rfl
@[simp] theorem State.attic_modHall (w : Nat) (f : HallB → HallB) (j : Nat) : (s.modHall w f).attic j = s.attic j := rfl
@[simp] theorem State.avu_modHall (w : Nat) (f : HallB → HallB) (j : Nat) : (s.modHall w f).avu j = s.avu j := rfl
@[simp] theorem State.tree_modHall (w : Nat) (f : HallB → HallB) (j : Nat) : (s.modHall w f).tree j = s.tree j := rfl
@[simp] theorem State.door_modHall (w : Nat) (f : HallB → HallB) (j : Nat) : (s.modHall w f).door j = s.door j := rfl
@[simp] theorem State.sq_modHall (w : Nat) (f : HallB → HallB) (j : Nat) : (s.modHall w f).sq j = s.sq j := rfl
@[simp] theorem State.cq_modHall (w : Nat) (f : HallB → HallB) (j : Nat) : (s.modHall w f).cq j = s.cq j := rfl
@[simp] theorem State.dw_modHall (w : Nat) (f : HallB → HallB) (j : Nat) : (s.modHall w f).dw j = s.dw j := rfl
@[simp] theorem State.wing_modHall (w : Nat) (f : HallB → HallB) (j : Nat) : (s.modHall w f).wing j = s.wing j := rfl
@[simp] theorem State.regq_modHall (w : Nat) (f : HallB → HallB) (j : Nat) : (s.modHall w f).regq j = s.regq j := rfl
@[simp] theorem State.module_modHall (w : Nat) (f : HallB → HallB) (j : Nat) : (s.modHall w f).module j = s.module j := rfl
@[simp] theorem State.die_modHall (w : Nat) (f : HallB → HallB) (j : Nat) : (s.modHall w f).die j = s.die j := rfl
@[simp] theorem State.link_modHall (w : Nat) (f : HallB → HallB) (j : Nat) : (s.modHall w f).link j = s.link j := rfl
@[simp] theorem State.reg_modHall (w : Nat) (f : HallB → HallB) (a : RegName) (j : Nat) : (s.modHall w f).reg a j = s.reg a j := rfl
@[simp] theorem State.regN_modHall (w : Nat) (f : HallB → HallB) (a : RegName) (j : Nat) : (s.modHall w f).regN a j = s.regN a j := rfl
@[simp] theorem State.tag_modHall (w : Nat) (f : HallB → HallB) (a j : Nat) : (s.modHall w f).tag a j = s.tag a j := rfl

@[simp] theorem State.hartAt_modModule (k : Nat) (f : ModuleB → ModuleB) (j : Nat) : (s.modModule k f).hartAt j = s.hartAt j := rfl
@[simp] theorem State.hart_modModule (k : Nat) (f : ModuleB → ModuleB) (g : HartId) : (s.modModule k f).hart g = s.hart g := rfl
@[simp] theorem State.room_modModule (k : Nat) (f : ModuleB → ModuleB) (j : Nat) : (s.modModule k f).room j = s.room j := rfl
@[simp] theorem State.array_modModule (k : Nat) (f : ModuleB → ModuleB) (j : Nat) : (s.modModule k f).array j = s.array j := rfl
@[simp] theorem State.attic_modModule (k : Nat) (f : ModuleB → ModuleB) (j : Nat) : (s.modModule k f).attic j = s.attic j := rfl
@[simp] theorem State.avu_modModule (k : Nat) (f : ModuleB → ModuleB) (j : Nat) : (s.modModule k f).avu j = s.avu j := rfl
@[simp] theorem State.tree_modModule (k : Nat) (f : ModuleB → ModuleB) (j : Nat) : (s.modModule k f).tree j = s.tree j := rfl
@[simp] theorem State.door_modModule (k : Nat) (f : ModuleB → ModuleB) (j : Nat) : (s.modModule k f).door j = s.door j := rfl
@[simp] theorem State.sq_modModule (k : Nat) (f : ModuleB → ModuleB) (j : Nat) : (s.modModule k f).sq j = s.sq j := rfl
@[simp] theorem State.cq_modModule (k : Nat) (f : ModuleB → ModuleB) (j : Nat) : (s.modModule k f).cq j = s.cq j := rfl
@[simp] theorem State.dw_modModule (k : Nat) (f : ModuleB → ModuleB) (j : Nat) : (s.modModule k f).dw j = s.dw j := rfl
@[simp] theorem State.wing_modModule (k : Nat) (f : ModuleB → ModuleB) (j : Nat) : (s.modModule k f).wing j = s.wing j := rfl
@[simp] theorem State.regq_modModule (k : Nat) (f : ModuleB → ModuleB) (j : Nat) : (s.modModule k f).regq j = s.regq j := rfl
@[simp] theorem State.hall_modModule (k : Nat) (f : ModuleB → ModuleB) (j : Nat) : (s.modModule k f).hall j = s.hall j := rfl
@[simp] theorem State.die_modModule (k : Nat) (f : ModuleB → ModuleB) (j : Nat) : (s.modModule k f).die j = s.die j := rfl
@[simp] theorem State.link_modModule (k : Nat) (f : ModuleB → ModuleB) (j : Nat) : (s.modModule k f).link j = s.link j := rfl
@[simp] theorem State.reg_modModule (k : Nat) (f : ModuleB → ModuleB) (a : RegName) (j : Nat) : (s.modModule k f).reg a j = s.reg a j := rfl
@[simp] theorem State.regN_modModule (k : Nat) (f : ModuleB → ModuleB) (a : RegName) (j : Nat) : (s.modModule k f).regN a j = s.regN a j := rfl
@[simp] theorem State.tag_modModule (k : Nat) (f : ModuleB → ModuleB) (a j : Nat) : (s.modModule k f).tag a j = s.tag a j := rfl

@[simp] theorem State.hartAt_modDie (d : Nat) (f : DieB → DieB) (j : Nat) : (s.modDie d f).hartAt j = s.hartAt j := rfl
@[simp] theorem State.hart_modDie (d : Nat) (f : DieB → DieB) (g : HartId) : (s.modDie d f).hart g = s.hart g := rfl
@[simp] theorem State.room_modDie (d : Nat) (f : DieB → DieB) (j : Nat) : (s.modDie d f).room j = s.room j := rfl
@[simp] theorem State.array_modDie (d : Nat) (f : DieB → DieB) (j : Nat) : (s.modDie d f).array j = s.array j := rfl
@[simp] theorem State.attic_modDie (d : Nat) (f : DieB → DieB) (j : Nat) : (s.modDie d f).attic j = s.attic j := rfl
@[simp] theorem State.avu_modDie (d : Nat) (f : DieB → DieB) (j : Nat) : (s.modDie d f).avu j = s.avu j := rfl
@[simp] theorem State.tree_modDie (d : Nat) (f : DieB → DieB) (j : Nat) : (s.modDie d f).tree j = s.tree j := rfl
@[simp] theorem State.door_modDie (d : Nat) (f : DieB → DieB) (j : Nat) : (s.modDie d f).door j = s.door j := rfl
@[simp] theorem State.sq_modDie (d : Nat) (f : DieB → DieB) (j : Nat) : (s.modDie d f).sq j = s.sq j := rfl
@[simp] theorem State.cq_modDie (d : Nat) (f : DieB → DieB) (j : Nat) : (s.modDie d f).cq j = s.cq j := rfl
@[simp] theorem State.dw_modDie (d : Nat) (f : DieB → DieB) (j : Nat) : (s.modDie d f).dw j = s.dw j := rfl
@[simp] theorem State.wing_modDie (d : Nat) (f : DieB → DieB) (j : Nat) : (s.modDie d f).wing j = s.wing j := rfl
@[simp] theorem State.regq_modDie (d : Nat) (f : DieB → DieB) (j : Nat) : (s.modDie d f).regq j = s.regq j := rfl
@[simp] theorem State.hall_modDie (d : Nat) (f : DieB → DieB) (j : Nat) : (s.modDie d f).hall j = s.hall j := rfl
@[simp] theorem State.module_modDie (d : Nat) (f : DieB → DieB) (j : Nat) : (s.modDie d f).module j = s.module j := rfl
@[simp] theorem State.link_modDie (d : Nat) (f : DieB → DieB) (j : Nat) : (s.modDie d f).link j = s.link j := rfl
@[simp] theorem State.reg_modDie (d : Nat) (f : DieB → DieB) (a : RegName) (j : Nat) : (s.modDie d f).reg a j = s.reg a j := rfl
@[simp] theorem State.regN_modDie (d : Nat) (f : DieB → DieB) (a : RegName) (j : Nat) : (s.modDie d f).regN a j = s.regN a j := rfl
@[simp] theorem State.tag_modDie (d : Nat) (f : DieB → DieB) (a j : Nat) : (s.modDie d f).tag a j = s.tag a j := rfl

@[simp] theorem State.hartAt_modLink (l : Nat) (f : LinkB → LinkB) (j : Nat) : (s.modLink l f).hartAt j = s.hartAt j := rfl
@[simp] theorem State.hart_modLink (l : Nat) (f : LinkB → LinkB) (g : HartId) : (s.modLink l f).hart g = s.hart g := rfl
@[simp] theorem State.room_modLink (l : Nat) (f : LinkB → LinkB) (j : Nat) : (s.modLink l f).room j = s.room j := rfl
@[simp] theorem State.array_modLink (l : Nat) (f : LinkB → LinkB) (j : Nat) : (s.modLink l f).array j = s.array j := rfl
@[simp] theorem State.attic_modLink (l : Nat) (f : LinkB → LinkB) (j : Nat) : (s.modLink l f).attic j = s.attic j := rfl
@[simp] theorem State.avu_modLink (l : Nat) (f : LinkB → LinkB) (j : Nat) : (s.modLink l f).avu j = s.avu j := rfl
@[simp] theorem State.tree_modLink (l : Nat) (f : LinkB → LinkB) (j : Nat) : (s.modLink l f).tree j = s.tree j := rfl
@[simp] theorem State.door_modLink (l : Nat) (f : LinkB → LinkB) (j : Nat) : (s.modLink l f).door j = s.door j := rfl
@[simp] theorem State.sq_modLink (l : Nat) (f : LinkB → LinkB) (j : Nat) : (s.modLink l f).sq j = s.sq j := rfl
@[simp] theorem State.cq_modLink (l : Nat) (f : LinkB → LinkB) (j : Nat) : (s.modLink l f).cq j = s.cq j := rfl
@[simp] theorem State.dw_modLink (l : Nat) (f : LinkB → LinkB) (j : Nat) : (s.modLink l f).dw j = s.dw j := rfl
@[simp] theorem State.wing_modLink (l : Nat) (f : LinkB → LinkB) (j : Nat) : (s.modLink l f).wing j = s.wing j := rfl
@[simp] theorem State.regq_modLink (l : Nat) (f : LinkB → LinkB) (j : Nat) : (s.modLink l f).regq j = s.regq j := rfl
@[simp] theorem State.hall_modLink (l : Nat) (f : LinkB → LinkB) (j : Nat) : (s.modLink l f).hall j = s.hall j := rfl
@[simp] theorem State.module_modLink (l : Nat) (f : LinkB → LinkB) (j : Nat) : (s.modLink l f).module j = s.module j := rfl
@[simp] theorem State.die_modLink (l : Nat) (f : LinkB → LinkB) (j : Nat) : (s.modLink l f).die j = s.die j := rfl
@[simp] theorem State.reg_modLink (l : Nat) (f : LinkB → LinkB) (a : RegName) (j : Nat) : (s.modLink l f).reg a j = s.reg a j := rfl
@[simp] theorem State.regN_modLink (l : Nat) (f : LinkB → LinkB) (a : RegName) (j : Nat) : (s.modLink l f).regN a j = s.regN a j := rfl
@[simp] theorem State.tag_modLink (l : Nat) (f : LinkB → LinkB) (a j : Nat) : (s.modLink l f).tag a j = s.tag a j := rfl

@[simp] theorem State.hartAt_modFabric (f : FabricB → FabricB) (j : Nat) : (s.modFabric f).hartAt j = s.hartAt j := rfl
@[simp] theorem State.hart_modFabric (f : FabricB → FabricB) (g : HartId) : (s.modFabric f).hart g = s.hart g := rfl
@[simp] theorem State.room_modFabric (f : FabricB → FabricB) (j : Nat) : (s.modFabric f).room j = s.room j := rfl
@[simp] theorem State.array_modFabric (f : FabricB → FabricB) (j : Nat) : (s.modFabric f).array j = s.array j := rfl
@[simp] theorem State.attic_modFabric (f : FabricB → FabricB) (j : Nat) : (s.modFabric f).attic j = s.attic j := rfl
@[simp] theorem State.avu_modFabric (f : FabricB → FabricB) (j : Nat) : (s.modFabric f).avu j = s.avu j := rfl
@[simp] theorem State.tree_modFabric (f : FabricB → FabricB) (j : Nat) : (s.modFabric f).tree j = s.tree j := rfl
@[simp] theorem State.door_modFabric (f : FabricB → FabricB) (j : Nat) : (s.modFabric f).door j = s.door j := rfl
@[simp] theorem State.sq_modFabric (f : FabricB → FabricB) (j : Nat) : (s.modFabric f).sq j = s.sq j := rfl
@[simp] theorem State.cq_modFabric (f : FabricB → FabricB) (j : Nat) : (s.modFabric f).cq j = s.cq j := rfl
@[simp] theorem State.dw_modFabric (f : FabricB → FabricB) (j : Nat) : (s.modFabric f).dw j = s.dw j := rfl
@[simp] theorem State.wing_modFabric (f : FabricB → FabricB) (j : Nat) : (s.modFabric f).wing j = s.wing j := rfl
@[simp] theorem State.regq_modFabric (f : FabricB → FabricB) (j : Nat) : (s.modFabric f).regq j = s.regq j := rfl
@[simp] theorem State.hall_modFabric (f : FabricB → FabricB) (j : Nat) : (s.modFabric f).hall j = s.hall j := rfl
@[simp] theorem State.module_modFabric (f : FabricB → FabricB) (j : Nat) : (s.modFabric f).module j = s.module j := rfl
@[simp] theorem State.die_modFabric (f : FabricB → FabricB) (j : Nat) : (s.modFabric f).die j = s.die j := rfl
@[simp] theorem State.link_modFabric (f : FabricB → FabricB) (j : Nat) : (s.modFabric f).link j = s.link j := rfl
@[simp] theorem State.reg_modFabric (f : FabricB → FabricB) (a : RegName) (j : Nat) : (s.modFabric f).reg a j = s.reg a j := rfl
@[simp] theorem State.regN_modFabric (f : FabricB → FabricB) (a : RegName) (j : Nat) : (s.modFabric f).regN a j = s.regN a j := rfl
@[simp] theorem State.tag_modFabric (f : FabricB → FabricB) (a j : Nat) : (s.modFabric f).tag a j = s.tag a j := rfl

@[simp] theorem State.hartAt_modPower (f : PowerB → PowerB) (j : Nat) : (s.modPower f).hartAt j = s.hartAt j := rfl
@[simp] theorem State.hart_modPower (f : PowerB → PowerB) (g : HartId) : (s.modPower f).hart g = s.hart g := rfl
@[simp] theorem State.room_modPower (f : PowerB → PowerB) (j : Nat) : (s.modPower f).room j = s.room j := rfl
@[simp] theorem State.array_modPower (f : PowerB → PowerB) (j : Nat) : (s.modPower f).array j = s.array j := rfl
@[simp] theorem State.attic_modPower (f : PowerB → PowerB) (j : Nat) : (s.modPower f).attic j = s.attic j := rfl
@[simp] theorem State.avu_modPower (f : PowerB → PowerB) (j : Nat) : (s.modPower f).avu j = s.avu j := rfl
@[simp] theorem State.tree_modPower (f : PowerB → PowerB) (j : Nat) : (s.modPower f).tree j = s.tree j := rfl
@[simp] theorem State.door_modPower (f : PowerB → PowerB) (j : Nat) : (s.modPower f).door j = s.door j := rfl
@[simp] theorem State.sq_modPower (f : PowerB → PowerB) (j : Nat) : (s.modPower f).sq j = s.sq j := rfl
@[simp] theorem State.cq_modPower (f : PowerB → PowerB) (j : Nat) : (s.modPower f).cq j = s.cq j := rfl
@[simp] theorem State.dw_modPower (f : PowerB → PowerB) (j : Nat) : (s.modPower f).dw j = s.dw j := rfl
@[simp] theorem State.wing_modPower (f : PowerB → PowerB) (j : Nat) : (s.modPower f).wing j = s.wing j := rfl
@[simp] theorem State.regq_modPower (f : PowerB → PowerB) (j : Nat) : (s.modPower f).regq j = s.regq j := rfl
@[simp] theorem State.hall_modPower (f : PowerB → PowerB) (j : Nat) : (s.modPower f).hall j = s.hall j := rfl
@[simp] theorem State.module_modPower (f : PowerB → PowerB) (j : Nat) : (s.modPower f).module j = s.module j := rfl
@[simp] theorem State.die_modPower (f : PowerB → PowerB) (j : Nat) : (s.modPower f).die j = s.die j := rfl
@[simp] theorem State.link_modPower (f : PowerB → PowerB) (j : Nat) : (s.modPower f).link j = s.link j := rfl
@[simp] theorem State.reg_modPower (f : PowerB → PowerB) (a : RegName) (j : Nat) : (s.modPower f).reg a j = s.reg a j := rfl
@[simp] theorem State.regN_modPower (f : PowerB → PowerB) (a : RegName) (j : Nat) : (s.modPower f).regN a j = s.regN a j := rfl
@[simp] theorem State.tag_modPower (f : PowerB → PowerB) (a j : Nat) : (s.modPower f).tag a j = s.tag a j := rfl

@[simp] theorem State.hartAt_modTherm (f : ThermB → ThermB) (j : Nat) : (s.modTherm f).hartAt j = s.hartAt j := rfl
@[simp] theorem State.hart_modTherm (f : ThermB → ThermB) (g : HartId) : (s.modTherm f).hart g = s.hart g := rfl
@[simp] theorem State.room_modTherm (f : ThermB → ThermB) (j : Nat) : (s.modTherm f).room j = s.room j := rfl
@[simp] theorem State.array_modTherm (f : ThermB → ThermB) (j : Nat) : (s.modTherm f).array j = s.array j := rfl
@[simp] theorem State.attic_modTherm (f : ThermB → ThermB) (j : Nat) : (s.modTherm f).attic j = s.attic j := rfl
@[simp] theorem State.avu_modTherm (f : ThermB → ThermB) (j : Nat) : (s.modTherm f).avu j = s.avu j := rfl
@[simp] theorem State.tree_modTherm (f : ThermB → ThermB) (j : Nat) : (s.modTherm f).tree j = s.tree j := rfl
@[simp] theorem State.door_modTherm (f : ThermB → ThermB) (j : Nat) : (s.modTherm f).door j = s.door j := rfl
@[simp] theorem State.sq_modTherm (f : ThermB → ThermB) (j : Nat) : (s.modTherm f).sq j = s.sq j := rfl
@[simp] theorem State.cq_modTherm (f : ThermB → ThermB) (j : Nat) : (s.modTherm f).cq j = s.cq j := rfl
@[simp] theorem State.dw_modTherm (f : ThermB → ThermB) (j : Nat) : (s.modTherm f).dw j = s.dw j := rfl
@[simp] theorem State.wing_modTherm (f : ThermB → ThermB) (j : Nat) : (s.modTherm f).wing j = s.wing j := rfl
@[simp] theorem State.regq_modTherm (f : ThermB → ThermB) (j : Nat) : (s.modTherm f).regq j = s.regq j := rfl
@[simp] theorem State.hall_modTherm (f : ThermB → ThermB) (j : Nat) : (s.modTherm f).hall j = s.hall j := rfl
@[simp] theorem State.module_modTherm (f : ThermB → ThermB) (j : Nat) : (s.modTherm f).module j = s.module j := rfl
@[simp] theorem State.die_modTherm (f : ThermB → ThermB) (j : Nat) : (s.modTherm f).die j = s.die j := rfl
@[simp] theorem State.link_modTherm (f : ThermB → ThermB) (j : Nat) : (s.modTherm f).link j = s.link j := rfl
@[simp] theorem State.reg_modTherm (f : ThermB → ThermB) (a : RegName) (j : Nat) : (s.modTherm f).reg a j = s.reg a j := rfl
@[simp] theorem State.regN_modTherm (f : ThermB → ThermB) (a : RegName) (j : Nat) : (s.modTherm f).regN a j = s.regN a j := rfl
@[simp] theorem State.tag_modTherm (f : ThermB → ThermB) (a j : Nat) : (s.modTherm f).tag a j = s.tag a j := rfl

@[simp] theorem State.hartAt_modBoot (f : BootB → BootB) (j : Nat) : (s.modBoot f).hartAt j = s.hartAt j := rfl
@[simp] theorem State.hart_modBoot (f : BootB → BootB) (g : HartId) : (s.modBoot f).hart g = s.hart g := rfl
@[simp] theorem State.room_modBoot (f : BootB → BootB) (j : Nat) : (s.modBoot f).room j = s.room j := rfl
@[simp] theorem State.array_modBoot (f : BootB → BootB) (j : Nat) : (s.modBoot f).array j = s.array j := rfl
@[simp] theorem State.attic_modBoot (f : BootB → BootB) (j : Nat) : (s.modBoot f).attic j = s.attic j := rfl
@[simp] theorem State.avu_modBoot (f : BootB → BootB) (j : Nat) : (s.modBoot f).avu j = s.avu j := rfl
@[simp] theorem State.tree_modBoot (f : BootB → BootB) (j : Nat) : (s.modBoot f).tree j = s.tree j := rfl
@[simp] theorem State.door_modBoot (f : BootB → BootB) (j : Nat) : (s.modBoot f).door j = s.door j := rfl
@[simp] theorem State.sq_modBoot (f : BootB → BootB) (j : Nat) : (s.modBoot f).sq j = s.sq j := rfl
@[simp] theorem State.cq_modBoot (f : BootB → BootB) (j : Nat) : (s.modBoot f).cq j = s.cq j := rfl
@[simp] theorem State.dw_modBoot (f : BootB → BootB) (j : Nat) : (s.modBoot f).dw j = s.dw j := rfl
@[simp] theorem State.wing_modBoot (f : BootB → BootB) (j : Nat) : (s.modBoot f).wing j = s.wing j := rfl
@[simp] theorem State.regq_modBoot (f : BootB → BootB) (j : Nat) : (s.modBoot f).regq j = s.regq j := rfl
@[simp] theorem State.hall_modBoot (f : BootB → BootB) (j : Nat) : (s.modBoot f).hall j = s.hall j := rfl
@[simp] theorem State.module_modBoot (f : BootB → BootB) (j : Nat) : (s.modBoot f).module j = s.module j := rfl
@[simp] theorem State.die_modBoot (f : BootB → BootB) (j : Nat) : (s.modBoot f).die j = s.die j := rfl
@[simp] theorem State.link_modBoot (f : BootB → BootB) (j : Nat) : (s.modBoot f).link j = s.link j := rfl
@[simp] theorem State.reg_modBoot (f : BootB → BootB) (a : RegName) (j : Nat) : (s.modBoot f).reg a j = s.reg a j := rfl
@[simp] theorem State.regN_modBoot (f : BootB → BootB) (a : RegName) (j : Nat) : (s.modBoot f).regN a j = s.regN a j := rfl
@[simp] theorem State.tag_modBoot (f : BootB → BootB) (a j : Nat) : (s.modBoot f).tag a j = s.tag a j := rfl

@[simp] theorem State.hartAt_modLive (f : LiveB → LiveB) (j : Nat) : (s.modLive f).hartAt j = s.hartAt j := rfl
@[simp] theorem State.hart_modLive (f : LiveB → LiveB) (g : HartId) : (s.modLive f).hart g = s.hart g := rfl
@[simp] theorem State.room_modLive (f : LiveB → LiveB) (j : Nat) : (s.modLive f).room j = s.room j := rfl
@[simp] theorem State.array_modLive (f : LiveB → LiveB) (j : Nat) : (s.modLive f).array j = s.array j := rfl
@[simp] theorem State.attic_modLive (f : LiveB → LiveB) (j : Nat) : (s.modLive f).attic j = s.attic j := rfl
@[simp] theorem State.avu_modLive (f : LiveB → LiveB) (j : Nat) : (s.modLive f).avu j = s.avu j := rfl
@[simp] theorem State.tree_modLive (f : LiveB → LiveB) (j : Nat) : (s.modLive f).tree j = s.tree j := rfl
@[simp] theorem State.door_modLive (f : LiveB → LiveB) (j : Nat) : (s.modLive f).door j = s.door j := rfl
@[simp] theorem State.sq_modLive (f : LiveB → LiveB) (j : Nat) : (s.modLive f).sq j = s.sq j := rfl
@[simp] theorem State.cq_modLive (f : LiveB → LiveB) (j : Nat) : (s.modLive f).cq j = s.cq j := rfl
@[simp] theorem State.dw_modLive (f : LiveB → LiveB) (j : Nat) : (s.modLive f).dw j = s.dw j := rfl
@[simp] theorem State.wing_modLive (f : LiveB → LiveB) (j : Nat) : (s.modLive f).wing j = s.wing j := rfl
@[simp] theorem State.regq_modLive (f : LiveB → LiveB) (j : Nat) : (s.modLive f).regq j = s.regq j := rfl
@[simp] theorem State.hall_modLive (f : LiveB → LiveB) (j : Nat) : (s.modLive f).hall j = s.hall j := rfl
@[simp] theorem State.module_modLive (f : LiveB → LiveB) (j : Nat) : (s.modLive f).module j = s.module j := rfl
@[simp] theorem State.die_modLive (f : LiveB → LiveB) (j : Nat) : (s.modLive f).die j = s.die j := rfl
@[simp] theorem State.link_modLive (f : LiveB → LiveB) (j : Nat) : (s.modLive f).link j = s.link j := rfl
@[simp] theorem State.reg_modLive (f : LiveB → LiveB) (a : RegName) (j : Nat) : (s.modLive f).reg a j = s.reg a j := rfl
@[simp] theorem State.regN_modLive (f : LiveB → LiveB) (a : RegName) (j : Nat) : (s.modLive f).regN a j = s.regN a j := rfl
@[simp] theorem State.tag_modLive (f : LiveB → LiveB) (a j : Nat) : (s.modLive f).tag a j = s.tag a j := rfl

@[simp] theorem State.hartAt_modTest (f : TestB → TestB) (j : Nat) : (s.modTest f).hartAt j = s.hartAt j := rfl
@[simp] theorem State.hart_modTest (f : TestB → TestB) (g : HartId) : (s.modTest f).hart g = s.hart g := rfl
@[simp] theorem State.room_modTest (f : TestB → TestB) (j : Nat) : (s.modTest f).room j = s.room j := rfl
@[simp] theorem State.array_modTest (f : TestB → TestB) (j : Nat) : (s.modTest f).array j = s.array j := rfl
@[simp] theorem State.attic_modTest (f : TestB → TestB) (j : Nat) : (s.modTest f).attic j = s.attic j := rfl
@[simp] theorem State.avu_modTest (f : TestB → TestB) (j : Nat) : (s.modTest f).avu j = s.avu j := rfl
@[simp] theorem State.tree_modTest (f : TestB → TestB) (j : Nat) : (s.modTest f).tree j = s.tree j := rfl
@[simp] theorem State.door_modTest (f : TestB → TestB) (j : Nat) : (s.modTest f).door j = s.door j := rfl
@[simp] theorem State.sq_modTest (f : TestB → TestB) (j : Nat) : (s.modTest f).sq j = s.sq j := rfl
@[simp] theorem State.cq_modTest (f : TestB → TestB) (j : Nat) : (s.modTest f).cq j = s.cq j := rfl
@[simp] theorem State.dw_modTest (f : TestB → TestB) (j : Nat) : (s.modTest f).dw j = s.dw j := rfl
@[simp] theorem State.wing_modTest (f : TestB → TestB) (j : Nat) : (s.modTest f).wing j = s.wing j := rfl
@[simp] theorem State.regq_modTest (f : TestB → TestB) (j : Nat) : (s.modTest f).regq j = s.regq j := rfl
@[simp] theorem State.hall_modTest (f : TestB → TestB) (j : Nat) : (s.modTest f).hall j = s.hall j := rfl
@[simp] theorem State.module_modTest (f : TestB → TestB) (j : Nat) : (s.modTest f).module j = s.module j := rfl
@[simp] theorem State.die_modTest (f : TestB → TestB) (j : Nat) : (s.modTest f).die j = s.die j := rfl
@[simp] theorem State.link_modTest (f : TestB → TestB) (j : Nat) : (s.modTest f).link j = s.link j := rfl
@[simp] theorem State.reg_modTest (f : TestB → TestB) (a : RegName) (j : Nat) : (s.modTest f).reg a j = s.reg a j := rfl
@[simp] theorem State.regN_modTest (f : TestB → TestB) (a : RegName) (j : Nat) : (s.modTest f).regN a j = s.regN a j := rfl
@[simp] theorem State.tag_modTest (f : TestB → TestB) (a j : Nat) : (s.modTest f).tag a j = s.tag a j := rfl

@[simp] theorem State.hartAt_setMailbox (r : Nat) (m : Mailbox) (j : Nat) : (s.setMailbox r m).hartAt j = s.hartAt j := rfl
@[simp] theorem State.hart_setMailbox (r : Nat) (m : Mailbox) (g : HartId) : (s.setMailbox r m).hart g = s.hart g := rfl
@[simp] theorem State.room_setMailbox (r : Nat) (m : Mailbox) (j : Nat) : (s.setMailbox r m).room j = s.room j := rfl
@[simp] theorem State.array_setMailbox (r : Nat) (m : Mailbox) (j : Nat) : (s.setMailbox r m).array j = s.array j := rfl
@[simp] theorem State.attic_setMailbox (r : Nat) (m : Mailbox) (j : Nat) : (s.setMailbox r m).attic j = s.attic j := rfl
@[simp] theorem State.avu_setMailbox (r : Nat) (m : Mailbox) (j : Nat) : (s.setMailbox r m).avu j = s.avu j := rfl
@[simp] theorem State.tree_setMailbox (r : Nat) (m : Mailbox) (j : Nat) : (s.setMailbox r m).tree j = s.tree j := rfl
@[simp] theorem State.door_setMailbox (r : Nat) (m : Mailbox) (j : Nat) : (s.setMailbox r m).door j = s.door j := rfl
@[simp] theorem State.sq_setMailbox (r : Nat) (m : Mailbox) (j : Nat) : (s.setMailbox r m).sq j = s.sq j := rfl
@[simp] theorem State.cq_setMailbox (r : Nat) (m : Mailbox) (j : Nat) : (s.setMailbox r m).cq j = s.cq j := rfl
@[simp] theorem State.dw_setMailbox (r : Nat) (m : Mailbox) (j : Nat) : (s.setMailbox r m).dw j = s.dw j := rfl
@[simp] theorem State.wing_setMailbox (r : Nat) (m : Mailbox) (j : Nat) : (s.setMailbox r m).wing j = s.wing j := rfl
@[simp] theorem State.regq_setMailbox (r : Nat) (m : Mailbox) (j : Nat) : (s.setMailbox r m).regq j = s.regq j := rfl
@[simp] theorem State.hall_setMailbox (r : Nat) (m : Mailbox) (j : Nat) : (s.setMailbox r m).hall j = s.hall j := rfl
@[simp] theorem State.module_setMailbox (r : Nat) (m : Mailbox) (j : Nat) : (s.setMailbox r m).module j = s.module j := rfl
@[simp] theorem State.die_setMailbox (r : Nat) (m : Mailbox) (j : Nat) : (s.setMailbox r m).die j = s.die j := rfl
@[simp] theorem State.link_setMailbox (r : Nat) (m : Mailbox) (j : Nat) : (s.setMailbox r m).link j = s.link j := rfl
@[simp] theorem State.reg_setMailbox (r : Nat) (m : Mailbox) (a : RegName) (j : Nat) : (s.setMailbox r m).reg a j = s.reg a j := rfl
@[simp] theorem State.regN_setMailbox (r : Nat) (m : Mailbox) (a : RegName) (j : Nat) : (s.setMailbox r m).regN a j = s.regN a j := rfl
@[simp] theorem State.tag_setMailbox (r : Nat) (m : Mailbox) (a j : Nat) : (s.setMailbox r m).tag a j = s.tag a j := rfl

/-! Each update's own part. -/

@[simp] theorem State.hartAt_setHartAt (k : Nat) (v : Hart) : (s.setHartAt k v).hartAt k = v := tgetD_tset_same ..
theorem State.hartAt_setHartAt_ne (k j : Nat) (v : Hart) (h : j ≠ k) : (s.setHartAt k v).hartAt j = s.hartAt j := tgetD_tset_ne _ _ _ _ _ h
@[simp] theorem State.hartAt_modHartAt (k : Nat) (f : Hart → Hart) : (s.modHartAt k f).hartAt k = f (s.hartAt k) := tgetD_tset_same ..
theorem State.hartAt_modHartAt_ne (k j : Nat) (f : Hart → Hart) (h : j ≠ k) : (s.modHartAt k f).hartAt j = s.hartAt j :=
  tgetD_tset_ne _ _ _ _ _ h
@[simp] theorem State.hart_modHart (h : HartId) (f : Hart → Hart) : (s.modHart h f).hart h = f (s.hart h) := tgetD_tset_same ..
@[simp] theorem State.hart_modHartAt (h : HartId) (f : Hart → Hart) : (s.modHartAt (hkey h) f).hart h = f (s.hart h) := tgetD_tset_same ..

/-- Two harts have the same key only if they are the same. -/
theorem hkey_injective {g h : HartId} (e : hkey g = hkey h) : g = h := by
  obtain ⟨a, b⟩ := g
  obtain ⟨c, d⟩ := h
  simp only [hkey] at e
  have hb := b.isLt
  have hd := d.isLt
  have h1 : a = c := Fin.ext (by omega)
  have h2 : b = d := Fin.ext (by omega)
  rw [h1, h2]

theorem State.hart_modHart_ne (g h : HartId) (f : Hart → Hart) (e : g ≠ h) : (s.modHart h f).hart g = s.hart g :=
  s.hartAt_modHartAt_ne _ _ _ fun k => e (hkey_injective k)

@[simp] theorem State.room_modRoom (k : Nat) (f : Room → Room) : (s.modRoom k f).room k = f (s.room k) := tgetD_tset_same ..
theorem State.room_modRoom_ne (k j : Nat) (f : Room → Room) (h : j ≠ k) : (s.modRoom k f).room j = s.room j := tgetD_tset_ne _ _ _ _ _ h

@[simp] theorem State.array_modArray (k : Nat) (f : ArrayB → ArrayB) : (s.modArray k f).array k = f (s.array k) := tgetD_tset_same ..
theorem State.array_modArray_ne (k j : Nat) (f : ArrayB → ArrayB) (h : j ≠ k) : (s.modArray k f).array j = s.array j := tgetD_tset_ne _ _ _ _ _ h

@[simp] theorem State.attic_modAttic (k : Nat) (f : AtticB → AtticB) : (s.modAttic k f).attic k = f (s.attic k) := tgetD_tset_same ..
theorem State.attic_modAttic_ne (k j : Nat) (f : AtticB → AtticB) (h : j ≠ k) : (s.modAttic k f).attic j = s.attic j := tgetD_tset_ne _ _ _ _ _ h

@[simp] theorem State.avu_modAvu (k : Nat) (f : AvuB → AvuB) : (s.modAvu k f).avu k = f (s.avu k) := tgetD_tset_same ..
theorem State.avu_modAvu_ne (k j : Nat) (f : AvuB → AvuB) (h : j ≠ k) : (s.modAvu k f).avu j = s.avu j := tgetD_tset_ne _ _ _ _ _ h

@[simp] theorem State.tree_modTree (k : Nat) (f : TreeB → TreeB) : (s.modTree k f).tree k = f (s.tree k) := tgetD_tset_same ..
theorem State.tree_modTree_ne (k j : Nat) (f : TreeB → TreeB) (h : j ≠ k) : (s.modTree k f).tree j = s.tree j := tgetD_tset_ne _ _ _ _ _ h

@[simp] theorem State.door_modDoor (k : Nat) (f : Door → Door) : (s.modDoor k f).door k = f (s.door k) := tgetD_tset_same ..
theorem State.door_modDoor_ne (k j : Nat) (f : Door → Door) (h : j ≠ k) : (s.modDoor k f).door j = s.door j := tgetD_tset_ne _ _ _ _ _ h

@[simp] theorem State.sq_modSq (k : Nat) (f : SubRing → SubRing) : (s.modSq k f).sq k = f (s.sq k) := tgetD_tset_same ..
theorem State.sq_modSq_ne (k j : Nat) (f : SubRing → SubRing) (h : j ≠ k) : (s.modSq k f).sq j = s.sq j := tgetD_tset_ne _ _ _ _ _ h

@[simp] theorem State.cq_modCq (k : Nat) (f : ComRing → ComRing) : (s.modCq k f).cq k = f (s.cq k) := tgetD_tset_same ..
theorem State.cq_modCq_ne (k j : Nat) (f : ComRing → ComRing) (h : j ≠ k) : (s.modCq k f).cq j = s.cq j := tgetD_tset_ne _ _ _ _ _ h

@[simp] theorem State.dw_modDw (k : Nat) (f : DwChan → DwChan) : (s.modDw k f).dw k = f (s.dw k) := tgetD_tset_same ..
theorem State.dw_modDw_ne (k j : Nat) (f : DwChan → DwChan) (h : j ≠ k) : (s.modDw k f).dw j = s.dw j := tgetD_tset_ne _ _ _ _ _ h

@[simp] theorem State.wing_modWing (k : Nat) (f : Wing → Wing) : (s.modWing k f).wing k = f (s.wing k) := tgetD_tset_same ..
theorem State.wing_modWing_ne (k j : Nat) (f : Wing → Wing) (h : j ≠ k) : (s.modWing k f).wing j = s.wing j := tgetD_tset_ne _ _ _ _ _ h

@[simp] theorem State.regq_modRegq (k : Nat) (f : RegQ → RegQ) : (s.modRegq k f).regq k = f (s.regq k) := tgetD_tset_same ..
theorem State.regq_modRegq_ne (k j : Nat) (f : RegQ → RegQ) (h : j ≠ k) : (s.modRegq k f).regq j = s.regq j := tgetD_tset_ne _ _ _ _ _ h

@[simp] theorem State.hall_modHall (k : Nat) (f : HallB → HallB) : (s.modHall k f).hall k = f (s.hall k) := tgetD_tset_same ..
theorem State.hall_modHall_ne (k j : Nat) (f : HallB → HallB) (h : j ≠ k) : (s.modHall k f).hall j = s.hall j := tgetD_tset_ne _ _ _ _ _ h

@[simp] theorem State.module_modModule (k : Nat) (f : ModuleB → ModuleB) : (s.modModule k f).module k = f (s.module k) := tgetD_tset_same ..
theorem State.module_modModule_ne (k j : Nat) (f : ModuleB → ModuleB) (h : j ≠ k) : (s.modModule k f).module j = s.module j := tgetD_tset_ne _ _ _ _ _ h

@[simp] theorem State.die_modDie (k : Nat) (f : DieB → DieB) : (s.modDie k f).die k = f (s.die k) := tgetD_tset_same ..
theorem State.die_modDie_ne (k j : Nat) (f : DieB → DieB) (h : j ≠ k) : (s.modDie k f).die j = s.die j := tgetD_tset_ne _ _ _ _ _ h

@[simp] theorem State.link_modLink (k : Nat) (f : LinkB → LinkB) : (s.modLink k f).link k = f (s.link k) := tgetD_tset_same ..
theorem State.link_modLink_ne (k j : Nat) (f : LinkB → LinkB) (h : j ≠ k) : (s.modLink k f).link j = s.link j := tgetD_tset_ne _ _ _ _ _ h

/-! ## Registers -/

theorem findReg_placeReg_same (n : RegName) (i : Nat) (x : W64) (l : List RegVal) : findReg n i (placeReg n i x l) = some x := by
  induction l with
  | nil => simp [placeReg, findReg]
  | cons v t ih =>
    simp only [placeReg]
    split
    · simp [findReg]
    · rename_i h
      simp [findReg, h, ih]

theorem findReg_placeReg_ne (n m : RegName) (i j : Nat) (x : W64) (l : List RegVal) (h : ¬(m = n ∧ j = i)) :
    findReg m j (placeReg n i x l) = findReg m j l := by
  induction l with
  | nil => simp [placeReg, findReg]; intro a b; exact absurd ⟨a.symm, b.symm⟩ h
  | cons v t ih =>
    simp only [placeReg]
    split
    · rename_i e
      have h' : ¬(n = m ∧ i = j) := fun k => h ⟨k.1.symm, k.2.symm⟩
      have h'' : ¬(v.name = m ∧ v.inst = j) := by rw [e.1, e.2]; exact h'
      simp [findReg, h', h'']
    · simp [findReg, ih]

@[simp] theorem State.reg_setReg (n : RegName) (i : Nat) (x : W64) : (s.setReg n i x).reg n i = x := by
  simp [State.reg, State.setReg, findReg_placeReg_same]

theorem State.reg_setReg_ne (n m : RegName) (i j : Nat) (x : W64) (h : ¬(m = n ∧ j = i)) :
    (s.setReg n i x).reg m j = s.reg m j := by
  simp [State.reg, State.setReg, findReg_placeReg_ne _ _ _ _ _ _ h]

/-- A register of another name is as it was. -/
@[simp] theorem State.reg_setReg_name (n m : RegName) (i j : Nat) (x : W64) (h : m ≠ n) :
    (s.setReg n i x).reg m j = s.reg m j := s.reg_setReg_ne n m i j x fun k => h k.1

@[simp] theorem State.reg_orReg (n : RegName) (i m : Nat) : (s.orReg n i m).reg n i = s.reg n i ||| BitVec.ofNat 64 m :=
  s.reg_setReg ..

theorem State.regN_setRegN (n : RegName) (i x : Nat) (h : x < 2 ^ 64) : (s.setRegN n i x).regN n i = x := by
  simp [State.regN, State.setRegN]
  omega

/-- A register depends only on the list of registers. -/
theorem State.reg_congr {s t : State} (h : s.regs = t.regs) (n : RegName) (i : Nat) : s.reg n i = t.reg n i := by
  simp [State.reg, h]

end Sys2Proof.Machine
end

