-- ==== Sys2Proof/Laws/Hart.lean ====
section
/-! SUPPORT. Laws of a hart that is ready: the prologue of an instruction runs its meaning on the state as it stands. -/
namespace Sys2Proof.Machine

theorem State.canRun_wait {s : State} {h : HartId} (hr : s.canRun h = true) : (s.hart h).wait = .none := by
  simp only [State.canRun, Bool.and_eq_true, beq_iff_eq] at hr
  exact hr.2

theorem State.endWfi_canRun {s : State} {h : HartId} (hr : s.canRun h = true) : s.endWfi h = s := by
  simp [State.endWfi, s.canRun_wait hr]

theorem hartRun_canRun {s : State} {h : HartId} (hr : s.canRun h = true) (body : State → State) :
    hartRun h s body = .next ((body s).issued h) := by
  have hc : s.canIssue h none = true := by
    simp only [State.canRun, Bool.and_eq_true] at hr
    exact hr.1
  simp [hartRun, hc, s.endWfi_canRun hr]

/-- Whatever the word, a hart with nothing to wait for can issue it where it can issue an ordinary instruction. -/
theorem State.canIssue_canRun {s : State} {h : HartId} (hr : s.canRun h = true) (w : Option W32) : s.canIssue h w = true := by
  have hw := s.canRun_wait hr
  simp only [State.canRun, Bool.and_eq_true] at hr
  have hc := hr.1
  simp only [State.canIssue, hw] at hc ⊢
  exact hc

theorem szRun_canRunWord {s : State} {h : HartId} {w : W32} {space op5 : Nat} (hr : s.canRunWord h w space op5 = true)
    (mine : Bool) (hm : szIs space op5 w = true → mine = true) (body : State → State) :
    szRun h w mine s body = .next ((body s).issued h) := by
  simp only [State.canRunWord, Bool.and_eq_true, Bool.not_eq_true'] at hr
  have hc := s.canIssue_canRun hr.1.1 (some w)
  simp [szRun, hm hr.1.2, hc, s.endWfi_canRun hr.1.1, hr.2]

end Sys2Proof.Machine
end

