-- ==== Sys2Proof/Tests/Base.lean ====
section
/-! SUPPORT. Small states that the tests and the witnesses of the statements start from. -/
namespace Sys2Proof.Tests
open Sys2Proof.Machine

/-- Hart 0 of room 0. -/
def h0 : HartId := ⟨0, 0⟩

/-- A room in service, all banks usable. -/
def room0 : Room := { phase := .inService, cond := { epoch := 1, bankMap := 2 ^ 48 - 1 } }

/-- The address of the first pantry byte of room 0. -/
def pantry0 : W64 := 0xA0000000000000

/-- The translation of the pantry's address where none is in force. -/
def px : Xlate := ⟨pantry0.toNat, none, none, 0, []⟩

/-- Hart 0 of room 0 runs in machine mode, with the pantry's address in x1 and 5 in x2; 16 bytes of the pantry are written. -/
def base : State :=
  { rooms := [(0, room0)]
    wings := [(0, { state := 0 })]
    harts := [(0, { idle := false, pc := 0x1000, x := [(1, pantry0), (2, 5)] })]
    attics := [(0, { phase := .running })]
    mem := (List.range 16).map fun j => (pantryKey 0 j, BitVec.ofNat 8 (j + 1)) }

/-- The same with another hart 0. -/
def withHart (f : Hart → Hart) : State := base.modHartAt 0 f

/-- Hart 0 waits. -/
def waiting (w : HartWait) : State := withHart fun x => { x with wait := w }

/-- A barrier of one member, the hart itself: its descriptor, in the pantry of room 0. -/
def collWords : List W64 := [0x0060040000000000, 0xA0000000000000, 0x0000000700000001, 0, 0, 0, 0, 0x0000000040000040]
def collState : State :=
  { base with mem := placeBytes (pantryKey 0 0) (collWords.flatMap fun w => toBytes 8 w.toNat) [] }

/-- Hart 0 with the thread ID of hart 1 in x2 and the address of a written start block in x1. -/
def spawnState : State :=
  { withHart fun x => { x with x := [(1, pantry0), (2, 1)] } with
    mem := placeBytes (pantryKey 0 0) (List.replicate 32 0) [] }
def spawnBytes : List PByte := List.replicate 32 (0, false)

/-- Room 0 with an ended child of hart 0. -/
def joinState : State := base.modRoom 0 fun y => { y with children := [⟨0, 5, .exited 9⟩] }

/-- A load of hart 0 is outstanding under tag 0. -/
def reqOf : Req := ⟨0, 0, 0, 1, 0, .load 3 8 false false false, 0xA0000000000000, 0xA0000000000000, 4, 0, 2000, false⟩
def reqState : State := { base with reqs := [reqOf], tags := [(0, ⟨0, .outstanding⟩)] }
def heldState : State := { base with tags := [(0, ⟨3, .held⟩)] }

/-- Hart 0 owns the array of room 0, and a descriptor of a PASS lies in the pantry. -/
def ownedState : State :=
  { base with
    arrays := [(0, { owner := some 0 })]
    mem := placeBytes (pantryKey 0 0) (toBytes 8 1 ++ List.replicate 56 0) [] }
def stageState : State := base.modArray 0 fun a => { a with stages := [⟨0, 0, 64, pantry0, {}, false, []⟩] }

/-- Entries of the array queue: a resident PASS, one with a slot, an EXPORT, an IMPORT and a DUMMY of one column. -/
def passEntry : ArrayEntry := { words := [0x000C000000000001, 0x200000, 0x1000000000000, 0, 0x4000000000000, 0, 0, 0], hart := 0 }
def slotEntry : ArrayEntry := { words := [0x0004000000000001, 0x200000, 0x1000000000000, 0, 0x4000000000000, 0, 0, 0], hart := 0 }
def exportEntry : ArrayEntry := { words := [2, 0, 0x1000000000000, 0, 0x4000000000000, 0, 0x0050000000000000, 0], hart := 0 }
def importEntry : ArrayEntry := { words := [3, 0, 0x1000000000000, 0, 0x4000000000000, 0, 0x0050000000000000, 0], hart := 0 }
def dummyEntry : ArrayEntry := { words := [4, 0, 0, 0, 0x4000000000000, 0, 0, 0], hart := 0 }
def passState : State := { base with arrays := [(0, { queue := [passEntry], power := .running })] }

/-- AVU commands in bank 0: an export that waits, and one of each operation that runs. -/
def avuExportCmd : AvuCmd := { words := [0x0030000000000001, 0, 0, 0, 0, 0x1000000000000, 0x0050000000000000, 0], auth := {} }
def avuState : State := base.modAvu 0 fun a => { a with queue := [avuExportCmd] }
def avuCmd (op : Nat) : AvuCmd :=
  { words := [BitVec.ofNat 64 (op * 2 ^ 52 + 1), 0, 0, 0, 0, 0x1000000000000, 0x0050000000000000, 0], auth := {}, dispatched := true }
def avuRunning (op : Nat) : State := base.modAvu 0 fun a => { a with queue := [avuCmd op] }

/-- An attention command over one row, with its batch list and a stale sequence entry in the pantry. -/
def attnCmd : AvuCmd :=
  { words := [0x0020000000000001, 0, pantry0 + 128, 0, 0x3F80000000000000, 0, 0, 0], auth := {} }
def attnState : State :=
  { base.modAvu 0 fun a => { a with queue := [attnCmd] } with
    mem := placeBytes (pantryKey 0 0)
      (toBytes 8 (2 ^ 48) ++ toBytes 8 0 ++ toBytes 8 (0x40 + 0x80 * 2 ^ 32) ++ toBytes 8 0x400 ++ List.replicate 224 0) [] }

/-- The same step with one row and one block left to form, and with none. -/
def stepEntry : AttnEntry := ⟨[⟨0, 0, []⟩], 0, 0, 0, false, 0, []⟩
def stepCmd : AvuCmd := { attnCmd with dispatched := true, attn := [stepEntry], work := [⟨0, 0, 0, 0⟩] }
def stepState : State := base.modAvu 0 fun a => { a with queue := [stepCmd] }
def mergeState : State := base.modAvu 0 fun a => { a with queue := [{ stepCmd with work := [] }] }

/-- The attic of room 0 runs, with one request queued. -/
def atticState : State := base.modAttic 0 fun a => { a with phase := .running }
def readReq : AtticReq := { id := 4, cls := 1, banked := false, off := 0, len := 8, op := .read }
def readState : State :=
  { base.modAttic 0 fun a => { a with phase := .running, queue := [readReq] } with
    mem := placeBytes (atticKey 0 false 0) (List.replicate 32 1) [] }
def retryState : State :=
  { base.modAttic 0 fun a => { a with phase := .running, queue := [{ readReq with retry := [(0, 7)] }] } with
    mem := placeBytes (atticKey 0 false 0) (List.replicate 32 1) [] }

/-- A source on device 5, and on this device. -/
def far : ReqHeader := ⟨5, 0, 0, 1, 0, 1, false, 1, false, false, 0⟩
def near : ReqHeader := ⟨0, 0, 0, 1, 0, 1, false, 1, false, false, 0⟩

/-- A request for the first bytes of the pantry of room 0, and of its attic. -/
def pantryReq (l : List Byte) : HomeRequest := ⟨far, false, 0x20000000000000, 8, l, 0⟩
def atticReqOf (l : List Byte) : HomeRequest := ⟨far, false, 0, 16, l, 0⟩

/-- The home of the pantry of room 0 keeps the answer of the request of device 5. -/
def cachedState : State := { base with caches := [(0, { entries := [⟨5, 0, 0, 1, 0, 0, [9], 0⟩] })] }

/-- A spawn of hart 1 sent by hart 0, and one sent from device 5. -/
def spawnMsg : SpawnMsg := ⟨1, 0, 0, 3, 0x2000, 0x3000, 7⟩
def farSpawn : SpawnMsg := { spawnMsg with spawner := 0x28000 }

/-- Hart 0 waits for the answer of that spawn, sent under tag 2. -/
def spawnReqOf : Req := ⟨0, 2, 0, 1, 0, .spawn 3 spawnMsg, 0, 0, 4, 0, 2000, false⟩
def spawningState : State := { waiting (.result 2) with reqs := [spawnReqOf], tags := [(2, ⟨0, .outstanding⟩)] }

/-- A read of wing 0 from its own router, and the router with a route to port 4 for it. -/
def hallHeader : W128 := azHeader 0 1 false false false 7 false 0 0 0 0 0 false false 1 0
def hallState : State := base.setRegN .hallRtEntry (rtIndex 0 0 0) 0x8400

/-- A combined atomic of the landing of wing 0. -/
def landed0 : Combined := { addr := 64, cls := 1, sum := 0, from_ := [near], opened := 0 }

/-- An instance of a barrier of two members: hart 0 here, and device 5 or hart 1. -/
def barrierSig : CollSig := { (default : CollSig) with op := 6, members := 2 }
def chunkState : State := { base with insts := [{ id := 7, m0 := 0x28000, sig := barrierSig, members := [0x28000, 0] }] }
def chunkMsg : CollPacket := ⟨7, 0x28000, 6, 0, 0, 0, [], 0, 0, none⟩
def combineInst : CollInst :=
  { id := 7, m0 := 0, sig := barrierSig, members := [0, 1], parts := [⟨0, [[]], 0⟩, ⟨1, [[]], 0⟩] }
def combineState : State := { base with insts := [combineInst] }

/-- A member of a one-member collective of each operation, whose instance is complete. -/
def doneWords (op : Nat) : List W64 :=
  [BitVec.ofNat 64 (op * 2 ^ 52), 0xA0000000000000, 0x0000000700000001, 0, pantry0, pantry0, pantry0, 0x40]
def doneEntry (op : Nat) : CollEntry := { slot := 0, hart := 0, words := doneWords op, auth := {}, due := 900 }
def doneInst (op : Nat) : CollInst :=
  { id := 7, m0 := 0, sig := { (default : CollSig) with op := op, members := 1 }, members := [0], parts := [⟨0, [[]], 0⟩] }
def doneState (op : Nat) : State := { base with colls := [(0, [doneEntry op])], insts := [doneInst op] }

/-- Room 0 is kept warm, hot enough to end it, with the grant for that. -/
def warmState : State :=
  ((base.modArray 0 fun a => { a with power := .dummy }).modRtherm 0 fun x => { x with warm := true }).modPower fun p =>
    { p with issued := [⟨.warmStop, 0, true, 910, 0⟩], lowered := 25 }

/-- A start stands in a phase. -/
def starting (n : Nat) : State := base.modBoot fun b => { b with phase := n, hold := .none }

/-- The module between wings 0 and 1, both ends in a state and a training phase. -/
def moduleState (st ph : Nat) : State :=
  { base with
    boot := { phase := 5, hold := .none }
    dies := [(0, { fuses := .good }), (1, { fuses := .good })]
    modules := [(4, { state := st, phase := ph, grant := 4 }), (28, { state := st, phase := ph, grant := 4 })] }

/-- The CAP record of wing 1, of the layout of R317. -/
def cap0 : CapRecord := ⟨2, 0, 1, 1, 1, 9, 0xB0, 0x7FFFFF03, 3, 4, 0, 0⟩

/-- A repair of row 5 of bank 2 of room 0 in a phase. -/
def repairState (p : RepairPhase) : State := base.modAttic 0 fun a => { a with repairing := [(⟨2, 5, 0, false⟩, p)] }

/-- Link 0 in a state and a training phase, with device 5 as its partner; a flit's header. -/
def linkState (st ph : Nat) : State :=
  { base with
    boot := { phase := 7, hold := .none }
    wings := [(0, { state := 0 }), (1, { state := 0 })]
    dies := [(96, { fuses := .good })]
    modules := [(1536, { state := 2 })]
    links := [(0, { state := st, phase := ph, peerValid := true, peerDev := 5, peerLink := 1, peerBoot := 2 })] }
def link1 : LinkInit := ⟨5, 1, 1, 2, 0⟩
def flit (ok : Bool) (ack : Fin 4096) : FlitHead := ⟨0, ack, 0, 0, 0, ok⟩

/-- A packet for device 5, whose entry of the table names link 0. -/
def packet : FabPacket := ⟨5, 9, 7, 0, false, false, requestHeader (pantryReq []) 0, []⟩
def routeState : State := (linkState 3 0).modFabric fun f => { f with table := [(devKey 0 5, 0x80000000)] }

/-- Channel 0 of room 0 with a program at 0x1000 of the pantry: waiting to start, and running at a step of given words. -/
def dwProg : DwProgram := { addr := localPa 2 0 0x1000 }
def dwIdle : State :=
  { base with
    mem := placeBytes (pantryKey 0 0x1000) (List.replicate 16 0) base.mem
    dws := [(0, { queue := [dwProg] })] }
def dwState (step : Nat) (words : List W64) : State :=
  { base with
    mem := placeBytes (pantryKey 0 (0x1010 + 48 * step)) (words.flatMap fun w => toBytes 8 w.toNat) dwIdle.mem
    dws := [(0, { queue := [dwProg], state := .running, step := step })] }

/-- A MOVE of one row of eight bytes from the first word of the pantry to the second. -/
def moveWords : List W64 := [0x1048000000000008, 0xA0000000000000, 0xA0000000000008, 0, 0, 0]

/-- A tree command over one closed table entry, a TOPK, and the room's pantry with both. -/
def treeCmd : TreeCmd := { words := [0x0010000000000040, 0xA0000000000080, 0, 0, 0, 0, 0, 0], auth := {} }
def topkCmd : TreeCmd := { words := [0x0050000000000000, 0, 0, 0x0001000000000000, 1, 0x8, 0, 0], auth := {} }
def treeState (q : List TreeCmd) : State :=
  { base with
    mem := placeBytes (pantryKey 0 0x10) (List.replicate 0xF0 0) base.mem
    trees := [(0, { queue := q })] }

/-- The table entry open at epoch 1, beside a descriptor of one accepted node; and an entry after such a commit. -/
def openBytes : List Byte := [0, 0, 0, 0, 1, 0, 1] ++ List.replicate 57 0
def openState : State :=
  { treeState [] with
    mem := placeBytes (pantryKey 0 0x80) openBytes
      (placeBytes (pantryKey 0 0x200) ([1, 0, 0, 0, 0, 0, 0, 0, 0, 0, 0, 0, 1, 0, 0, 0]) (treeState []).mem) }
def committedBytes : List Byte :=
  [0, 0, 0, 0, 1, 0, 1, 0, 1] ++ List.replicate 31 0 ++ [1] ++ List.replicate 23 0

/-- The part is READY, with a host at door 0: ring 3 runs with one descriptor waiting, and answers to ring 3. -/
def hostState : State :=
  { base with
    boot := { state := 1, phase := 8, hold := .none, option := List.replicate 256 0 }
    wings := [(0, { state := 0 }), (6, { state := 0 })]
    halls := [(6, { portUp := [3] })]
    doors := [(0, { linkUp := true })]
    sqs := [(3, { enable := true, state := .running, cq := 3, tail := 1, limit := 1, priv := true })]
    cqs := [(3, { enable := true, irqEn := true })] }

/-- The same with a fetched descriptor of given words. -/
def descOf (words : List W64) : Desc := { id := 9, sq := 3, words := words }
def descState (words : List W64) : State := { hostState with descs := [descOf words], nextDesc := 10 }

/-- A completion and an event that wait at door 0. -/
def doneEvent : Completion := { sq := 3, opcode := 0, tag := 7, status := 0, d0 := 0, d1 := 0 }
def waitingState : State := { hostState with completions := [doneEvent] }
def eventState : State :=
  { (hostState.setReg .doorCtrl 0 0x8000000000640003) with doors := [(0, { linkUp := true, events := [⟨4, 5, 6⟩] })] }

/-- The study holds a command that it has not begun; and one on which a room's drain or readmission waits. -/
def cmdOf (code : Nat) (args : List Nat) : MgmtCmd :=
  { id := 9, ring := true, door := 0, tag := 7, code := code, args := args, buf := 0x1000, bufLen := 8192 }
def cmdState (code : Nat) (args : List Nat) : State :=
  (descState [0x10, 7, 0, 0, 0, 0, 0, 0]).modLive fun l => { l with cmds := [cmdOf code args] }
def phaseState (p : RoomPhase) : State := base.modRoom 0 fun x => { x with phase := p }
/-- A scrub of two granules of the pantry, and a trial of a KIND. -/
def scrubOf0 : ScrubB := { cmd := 9, room := 0, banked := false, pantry := true, start := 0, length := 512 }
def scrubState (x : ScrubB) : State :=
  (descState [0x10, 7, 0, 0, 0, 0, 0, 0]).modLive fun l => { l with
    cmds := [{ cmdOf 0x12 [0xA0000000000000, 512] with accepted := true, begun := true }], scrubs := [x] }
def trialState (kind code action : Nat) : State :=
  (cmdState code [kind, action]).modLive fun l => { l with trials := [(kind, ⟨30, 1⟩)], standby := true, hearthStandby := true }

/-- JTAG is open and the debug module active, with hart 0 selected. -/
def debugState : State := { hostState with test := { dmactive := true, resetN := true } }

/-- The image directory, with a trial image of KIND 3 in slot 1, and its CRC; the command that activates it waits. -/
def fwState0 : State :=
  { cmdState 0x31 [3, 0] with
    flash := [(0x30000, 3), (0x30001, 1), (0x30002, 2)] ++ [(0x30FE0, 66), (0x30FE1, 76), (0x30FE2, 102), (0x30FE3, 204)] }

/-- A settings image without entries, and the command that writes it. -/
def emptySettings : List Byte :=
  [83, 90, 83, 84, 1, 0, 0, 0, 1, 0, 0, 0, 0, 0, 0, 0] ++ [0, 0, 0, 0, 0, 0, 0, 0, 0, 0, 0, 0, 184, 127, 217, 119]
def setCmd : MgmtCmd := { cmdOf 0x33 [] with bufLen := 32 }
def setState : State :=
  { (cmdState 0x33 []).modLive (fun l => { l with cmds := [setCmd] }) with
    mem := placeBytes (hostKey 0 0x1000) emptySettings [] }

/-- The next state of an outcome. -/
def nextOf (r : Host.Outcome State Fault Refusal) : State :=
  match r with
  | .next t => t
  | _ => State.reset

/-- A store of hart 0 is outstanding. -/
def storingState : State := { base with reqs := [{ reqOf with kind := .store [1] }] }

end Sys2Proof.Tests
end

