-- ==== Sys2Proof/Tests/Slice0.lean ====
section
/-! SUPPORT. Tests: ill-formed commands are refused, worked examples of the spec, and an instance of the hypotheses of every
statement. -/
namespace Sys2Proof.Tests
open Sys2Proof Sys2Proof.Machine

set_option maxRecDepth 100000
set_option linter.all false
set_option Elab.async false

/-! ## Ill-formed commands -/

theorem test_wf_load_width : Instr.wf (.load h0 ⟨1, 1, 0, 3, false, false, false⟩) = false := by decide
theorem test_wf_store_narrow_fp : Instr.wf (.store h0 ⟨1, 1, 0, 2, false, true, false⟩) = false := by decide
theorem test_wf_load_unsigned_double : Instr.wf (.load h0 ⟨1, 1, 0, 8, true, false, false⟩) = false := by decide
theorem test_wf_sz_opcode : Instr.wf (.szGlb h0 0x33) = false := by decide
theorem test_wf_attic_request_outside : Instr.wf (.atticRequestEnter 0 ⟨0, false, 0xBFFFFFF, 2, none⟩) = false := by decide
theorem test_wf_attic_request_long : Instr.wf (.atticRequestEnter 0 ⟨0, false, 0, 257, none⟩) = false := by decide
theorem test_wf_attic_request_data : Instr.wf (.atticRequestEnter 0 ⟨0, false, 0, 2, some [1]⟩) = false := by decide
theorem test_wf_attic_atomic_cas : Instr.wf (.atticAtomic 0 false 0 (.cas 2 0 0)) = false := by decide
theorem test_wf_attic_atomic_outside : Instr.wf (.atticAtomic 0 false 0xC000000 (.add 1)) = false := by decide
theorem test_wf_lane : Instr.wf (.stairRecalStart 0 2304) = false := by decide
theorem test_wf_lanes : Instr.wf (.stairTraining 0 ⟨[2304], []⟩) = false := by decide
theorem test_wf_banks : Instr.wf (.stairTraining 0 ⟨[], [48]⟩) = false := by decide
theorem test_wf_readmit_lanes : Instr.wf (.readmitTrain 0 ⟨[2304], []⟩) = false := by decide
theorem test_wf_avu_bank_word : Instr.wf (.avuMatvec 0 ⟨0, [.bankUe 3]⟩) = false := by decide
theorem test_wf_avu_entry : Instr.wf (.avuExport 0 ⟨0, [.entryUe 512]⟩) = false := by decide
theorem test_wf_avu_buffer_word : Instr.wf (.avuAttnBlock 0 ⟨0, [.bufferUe 4096]⟩) = false := by decide
theorem test_wf_word_fault_lane : Instr.wf (.atticRequestPerform 0 0 [⟨0, .stairUe, 2304⟩]) = false := by decide
theorem test_wf_response : Instr.wf (.responseReceive 0 ⟨0, 0, 0, 0, List.replicate 257 0, false⟩) = false := by decide
theorem test_wf_exit_status : Instr.wf (.msgExitNotice near 0 0 3 0) = false := by decide
theorem test_wf_notice_extension : Instr.wf (.noticeSlow near 0 ⟨0, 0, 2 ^ 32⟩) = false := by decide
theorem test_wf_chunk : Instr.wf (.msgColl near { chunkMsg with payload := List.replicate 257 0 }) = false := by decide
theorem test_wf_cap : Instr.wf (.lctlCap 0 0 ⟨0, List.replicate 257 0⟩) = false := by decide
theorem test_wf_register_write : Instr.wf (.registerWrite .processor 2 4 0) = false := by decide
theorem test_wf_home_request : Instr.wf (.reqRd ⟨far, false, 0, 257, [], 0⟩) = false := by decide
theorem test_wf_home_payload : Instr.wf (.reqWr ⟨far, false, 0, 0, List.replicate 257 0, 0⟩) = false := by decide
theorem test_wf_hall_packet : Instr.wf (.hallPacketRoute 0 (.inject 0 hallHeader [1])) = false := by decide
theorem test_wf_porch_packet : Instr.wf (.porchPacketRoute (.depart { packet with body := [1] })) = false := by decide
theorem test_wf_bar_read : Instr.wf (.bar0Access ⟨0, 0, 0, none, false⟩) = false := by decide
theorem test_wf_bar_write : Instr.wf (.bar2Access ⟨0, 0, 8, some [], false⟩) = false := by decide
theorem test_wf_sensor_count : Instr.wf (.sensorSample (.attic 0) [1, 2]) = false := by decide
theorem test_wf_ce_window : Instr.wf (.ceWindowEnd 256 0 0) = false := by decide
theorem test_wf_pldm_sensor : Instr.wf (.pldmPlatform (.readSensor (.room 0) 2)) = false := by decide
theorem test_wf_spdm_nonce : Instr.wf (.spdmChallenge [1]) = false := by decide
theorem test_wf_measurement_nonce : Instr.wf (.getMeasurements 0 []) = false := by decide
theorem test_wf_debug_bus_width : Instr.wf (.dbgSystemBusAccess false 2) = false := by decide
theorem test_wf_resize_bar : Instr.wf (.configRequest 0 (.resizeBar 29)) = false := by decide

/-! ## Worked examples of the spec -/

/-- R8: room 7:12 has the global index 252. -/
theorem test_global_index : globalIndex (7 * 32 + 12) = 252 := by decide

/-- R160–R162: bank 37 at w = 0x2_0A40 of room 7:12, in both views, and the next granule in bank 38 at w − 64. -/
theorem test_interleaved_mapping :
    (atticBank false 0x620540, atticWithin false 0x620540, localPa 0 (7 * 32 + 12) 0x620540) = (37, 0x20A40, 0x0080000EC0620540) := by decide
theorem test_banked_mapping :
    (atticBank true 0x9420A40, atticWithin true 0x9420A40, localPa 1 (7 * 32 + 12) 0x9420A40) = (37, 0x20A40, 0x0090000EC9420A40) := by decide
theorem test_next_granule : (atticBank false 0x620600, atticWithin false 0x620600) = (38, 0x20A40 - 64) := by decide

/-- R115–R117: the worked lease: a plain acquire fails, the break takes it, the old owner's release finds it gone. -/
theorem test_lease_acquire_held : leaseAcquire 0x0001023100090D25 0x9BBC2 0x107 0 = (0x0001023100090D25, 0x0001023100090D25) := by decide
theorem test_lease_break :
    leaseAcquire 0x0001023100090D25 0x9BBC2 0x107 0x0001023100090D25 = (0x010101070009BBC2 + 2 ^ 64, 0) := by decide
theorem test_lease_release_lost : leaseRelease 0x010101070009BBC2 0x90D25 0x231 = (0x010101070009BBC2, 0x010101070009BBC2) := by decide

/-- R125, R134–R149: the encodings of the worked sequence. -/
theorem test_word_mode : szIs custom0 3 0x1805850B = true ∧ szIllegal 0x1805850B .user = false := by decide
theorem test_word_stage : szIs custom0 2 0x10D6000B = true ∧ szIllegal 0x10D6000B .user = false := by decide
theorem test_word_pass : szIs custom0 0 0x0007870B = true ∧ szIllegal 0x0007870B .user = false := by decide
theorem test_word_wait :
    szIs custom2 2 0x10E8A85B = true ∧ (szRd 0x10E8A85B, szRs1 0x10E8A85B, szRs2 0x10E8A85B, szF3 0x10E8A85B) = (16, 17, 14, 2) := by decide
theorem test_word_signal : szIs custom2 1 0x093920DB = true ∧ szIllegal 0x093920DB .user = false := by decide

/-- R129: at count 0x44 ticket 0x45 is not reached, at 0x45 it is. -/
theorem test_ticket_waits : Cond.met .ge32 0x44 0x45 = false := by decide
theorem test_ticket_reached : Cond.met .ge32 0x45 0x45 = true := by decide

/-- R38: 300.5 exports to E4M3 as 288, 304 as 320, and 470 saturates at 448. -/
theorem test_export_rounds_down : e4m3.exportXa { i := 601 } (-1) 0x3F800000 = (0x79, 0) := by decide
theorem test_export_ties_to_even : e4m3.exportXa { i := 304 } 0 0x3F800000 = (0x7A, 0) := by decide
theorem test_export_saturates : e4m3.exportXa { i := 470 } 0 0x3F800000 = (0x7E, 16) := by decide

/-- R225, R228: the worked merge of two records. -/
theorem test_exp2 : fp32Exp2 0xBFC00000 = 0x3EB504F3 := by decide +kernel
theorem test_lse_step :
    (lseStep { flags := 0, m := 0x40600000, l := 0x40000000 } { flags := 0, m := 0x40A00000, l := 0x3FC00000 }).l = 0x400D413D := by
  decide +kernel

/-- R252: the worked draw: the cut keeps two candidates, and the draw is candidate 1. -/
theorem test_top_p_cut : topPCut 0xC000 [2 ^ 40, 3 * 2 ^ 39, 7 * 2 ^ 38] = [2 ^ 40, 3 * 2 ^ 39] := by decide +kernel
theorem test_draw :
    drawToken 0xC000 0x3F800000 0xB000000000000000 [(0x40A00000, 10), (0x40800000, 11), (0x40400000, 12)] = some 11 := by decide +kernel

/-- R355: from index 6 to index 25 of a rack: PRIMARY L13, ALT1 L30, ALT2 L6; device 8 reaches 25 by L15. -/
theorem test_dev_entry : devEntry 102 25 % 2 ^ 18 = 6 * 2 ^ 12 + 30 * 2 ^ 6 + 13 := by decide
theorem test_rack_next : rackLink 8 25 = 15 := by decide

/-- R45: lane 0 sums the first and the last of 65 elements, and the tree then gives 64 ones and a two. -/
theorem test_vector_row_sum : vectorRowSum (List.replicate 64 0x3F800000 ++ [0x40000000]) = some 0x42840000 := by decide +kernel

/-- R311: the worked header: hart 3 of room 7:12 of device 0x0756 reads 64 bytes in room 23:5. -/
def workedRead : HomeRequest :=
  ⟨⟨0x756, 7, 12, 0x123, 2, 0x231, false, 4, false, false, 23⟩, false, 0x1D5AE50400000, 64, [], 0⟩
theorem test_worked_header : requestHeader workedRead 0 = 0x0407E2E1D84246011881D5AE50400000 := by decide +kernel
theorem test_worked_header_read_back : azRequest 0x756 0x0407E2E1D84246011881D5AE50400000 [] = workedRead := by decide +kernel

/-- R317: the CAP record is 32 bytes, and its fields are read back from them. -/
theorem test_cap_record :
    capBytes cap0 = [2, 0, 1, 1, 1, 0, 9, 0xB0, 3, 255, 255, 0x7F, 3, 0, 0, 0, 4, 0, 0, 0] ++ List.replicate 12 0 ∧ capOf (capBytes cap0) = cap0 := by
  decide +kernel

/-! ## Guards (R59, R115) -/

theorem test_store_inside_guard_hits :
    ((base.setGuard (.slot 0 0) 0 [(pantryKey 0 64, pantryKey 0 128)]).storeAt (.pantry 0 120) 16).disturbed (.slot 0 0) = true := by
  decide
theorem test_store_beside_guard_misses :
    ((base.setGuard (.slot 0 0) 0 [(pantryKey 0 64, pantryKey 0 128)]).storeAt (.pantry 0 128) 8).disturbed (.slot 0 0) = false := by
  decide
/-- R160: offset 0x3000 of the interleaved view is byte 0x100 of bank 0. -/
theorem test_guard_meets_other_view :
    ((base.setGuard (.work 1) 0 (atticRanges 0 true 0x100 8)).storeAt (.attic 0 false 0x3000) 8).disturbed (.work 1) = true := by
  decide
/-- R214: bytes 0x10 to 0x1F of an entry are guarded; the entry then names free pages. -/
theorem test_seq_address_written_out_of_turn :
    (let s := ((base.guardSeqs 1 0 [.pantry 0 0x80]).storeAt (.pantry 0 0x90) 16)
     (s.openSeq 1 (.pantry 0 0x80) (parseSeq (List.replicate 32 0))).kvFree) = some 0 := by decide +kernel
/-- R263: the page at 0 is mapped by tables in the pantry to attic page 0, and then, by another leaf, to page 1. -/
def tablesTo (page : Nat) : State :=
  (List.range 3).foldl (fun s i => s.putBytes (pantryKey 0 (0x1000 * i)) (toBytes 8 (0xA0000000001001 + 0x1000 * i)))
    (base.putBytes (pantryKey 0 0x3000) (toBytes 8 (0x800000000000C7 + 0x10000 * page)))
theorem test_page_remapped :
    (let s := tablesTo 1
     let p : DwProgram := { addr := 0, tables := (tablesTo 0).mem, auth := ⟨0, 0xE0000A0000000000, .supervisor, 0⟩ }
     (s.dwMoved 0 p 0 8, s.dwMoved 0 { p with tables := s.mem } 0 8, s.mapping p.auth 0)) = (true, false, some 0x80000000010000) := by
  decide +kernel

/-! ## Witnesses -/

/-- Every clause of HartMemoryInstructionsComplete with hypotheses has an instance. -/
theorem witness_hart_memory_instructions_complete :
    (∃ (h : HartId) (m : MemForm) (s : State) (x : Xlate) (l : List Byte),
      s.canRun h = true ∧ m.wf = true ∧ (formAddress (s.hart h) m.rs1 m.imm).toNat % m.bytes = 0 ∧ s.translate h.room.val
          ((s.hart h).authority h.hart.val) .read .load (formAddress (s.hart h) m.rs1 m.imm) = .ok x ∧ s.homeOpen (x.cls (s.hart
          h).priv) (s.placeFor h.room.val x.pa m.bytes) m.bytes = true ∧ s.memRead (s.placeFor h.room.val x.pa m.bytes) m.bytes =
          .data l) ∧
    (∃ (h : HartId) (m : MemForm) (s : State) (x : Xlate),
      s.canRun h = true ∧ m.wf = true ∧ (formAddress (s.hart h) m.rs1 m.imm).toNat % m.bytes = 0 ∧ s.translate h.room.val
          ((s.hart h).authority h.hart.val) .write .store (formAddress (s.hart h) m.rs1 m.imm) = .ok x ∧ x.type ≤ 2 ∧ s.homeOpen
          (x.cls (s.hart h).priv) (s.placeFor h.room.val x.pa m.bytes) m.bytes = true ∧ s.writeCode (s.placeFor h.room.val x.pa
          m.bytes) (toBytes m.bytes ((s.hart h).storeValue m).toNat) = 0) ∧
    (∃ (h : HartId) (op : AmoOp) (a : AtomicForm) (s : State) (x : Xlate) (l : List Byte),
      s.canRun h = true ∧ s.released h a.rl = true ∧ ((s.hart h).reg a.rs1.val).toNat % (if a.double then 8 else 4) = 0 ∧
          s.translate h.room.val ((s.hart h).authority h.hart.val) .both .store ((s.hart h).reg a.rs1.val) = .ok x ∧ x.type ≤ 2 ∧
          s.homeOpen (x.cls (s.hart h).priv) (s.placeFor h.room.val x.pa (if a.double then 8 else 4)) (if a.double then 8 else 4)
          = true ∧ s.atomicAnswer (.amo op a.double ((s.hart h).reg a.rs2.val)) (s.placeFor h.room.val x.pa (if a.double then 8
          else 4)) = .data l) ∧
    (∃ (h : HartId) (a : AtomicForm) (s : State) (x : Xlate) (p : Place) (key : Nat) (l : List Byte),
      s.canRun h = true ∧ s.released h a.rl = true ∧ s.reserveTarget h ((s.hart h).reg a.rs1.val) (if a.double then 8 else 4)
          = .ok (x, p, key) ∧ s.homeOpen (x.cls (s.hart h).priv) p (if a.double then 8 else 4) = true ∧ s.memRead p (if a.double
          then 8 else 4) = .data l) ∧
    (∃ (h : HartId) (a : AtomicForm) (s : State) (x : Xlate) (p : Place) (key : Nat) (l : List Byte),
      s.canRun h = true ∧ s.released h a.rl = true ∧ s.reserveTarget h ((s.hart h).reg a.rs1.val) (if a.double then 8 else 4)
          = .ok (x, p, key) ∧ s.homeOpen (x.cls (s.hart h).priv) p (if a.double then 8 else 4) = true ∧ s.memRead p (if a.double
          then 8 else 4) = .data l ∧ (s.hart h).resv = some ⟨key, if a.double then 8 else 4⟩) ∧
    (∃ (h : HartId) (a : AtomicForm) (s : State) (x : Xlate) (p : Place) (key : Nat),
      s.canRun h = true ∧ s.released h a.rl = true ∧ s.reserveTarget h ((s.hart h).reg a.rs1.val) (if a.double then 8 else 4)
          = .ok (x, p, key) ∧ s.homeOpen (x.cls (s.hart h).priv) p (if a.double then 8 else 4) = true ∧ (s.hart h).resv ≠ some
          ⟨key, if a.double then 8 else 4⟩) :=
  ⟨⟨h0, ⟨3, 1, 0, 8, false, false, false⟩, base, px, [1,2,3,4,5,6,7,8], by first | decide +kernel | rfl, by first | decide +kernel | rfl, by first | decide +kernel | rfl, by first | decide +kernel | rfl, by first | decide +kernel | rfl, by first | decide +kernel | rfl⟩,
    ⟨h0, ⟨2, 1, 0, 8, false, false, false⟩, base, px, by first | decide +kernel | rfl, by first | decide +kernel | rfl, by first | decide +kernel | rfl, by first | decide +kernel | rfl, by first | decide +kernel | rfl, by first | decide +kernel | rfl, by first | decide +kernel | rfl⟩,
    ⟨h0, .add, ⟨3, 1, 2, true, false, false⟩, base, px, [1,2,3,4,5,6,7,8], by first | decide +kernel | rfl, by first | decide +kernel | rfl, by first | decide +kernel | rfl, by first | decide +kernel | rfl, by first | decide +kernel | rfl, by first | decide +kernel | rfl, by first | decide +kernel | rfl⟩,
    ⟨h0, ⟨3, 1, 0, true, false, false⟩, base, px, .pantry 0 0, pantryKey 0 0, [1,2,3,4,5,6,7,8], by first | decide +kernel | rfl, by first | decide +kernel | rfl, by first | decide +kernel | rfl, by first | decide +kernel | rfl, by first | decide +kernel | rfl⟩,
    ⟨h0, ⟨3, 1, 2, true, false, false⟩, withHart (fun x => { x with resv := some ⟨pantryKey 0 0, 8⟩ }), px, .pantry 0 0, pantryKey 0 0, [1,2,3,4,5,6,7,8], by first | decide +kernel | rfl, by first | decide +kernel | rfl, by first | decide +kernel | rfl, by first | decide +kernel | rfl, by first | decide +kernel | rfl, by first | decide +kernel | rfl⟩,
    ⟨h0, ⟨3, 1, 2, true, false, false⟩, base, px, .pantry 0 0, pantryKey 0 0, by first | decide +kernel | rfl, by first | decide +kernel | rfl, by first | decide +kernel | rfl, by first | decide +kernel | rfl, by first | decide +kernel | rfl⟩⟩

/-- Every clause of HartControlInstructionsComplete with hypotheses has an instance. -/
theorem witness_hart_control_instructions_complete :
    (∃ (h : HartId) (pred succ : BitVec 4) (s : State),
      s.canRun h = true ∧ s.hasStores h = false) ∧
    (∃ (h : HartId) (s : State),
      s.canRun h = true) ∧
    (∃ (h : HartId) (rs1 rs2 : Fin 32) (s : State),
      s.canRun h = true ∧ (s.hart h).denied 20 = false) ∧
    (∃ (h : HartId) (s : State),
      s.canRun h = true ∧ (s.hart h).denied 21 = false ∧ s.pendingEnabled h = []) ∧
    (∃ (h : HartId) (s : State),
      s.canRun h = true ∧ (s.hart h).denied 21 = false ∧ s.pendingEnabled h ≠ []) ∧
    (∃ (h : HartId) (value : W64) (s : State),
      s.canRun h = true ∧ (s.hart h).denied 20 = false) ∧
    (∃ (h : HartId) (op : CsrOp) (imm : Bool) (rd src : Fin 32) (s : State),
      s.canRun h = true) ∧
    (∃ (h : HartId) (s : State) (c : Nat),
      s.irqToTake h = some c ∧ (s.hart h).wait = .none) :=
  ⟨⟨h0, 3, 3, base, by first | decide +kernel | rfl, by first | decide +kernel | rfl⟩,
    ⟨h0, base, by first | decide +kernel | rfl⟩,
    ⟨h0, 0, 0, base, by first | decide +kernel | rfl, by first | decide +kernel | rfl⟩,
    ⟨h0, base, by first | decide +kernel | rfl, by first | decide +kernel | rfl, by first | decide +kernel | rfl⟩,
    ⟨h0, { withHart (fun x => { x with mie := 128 }) with regs := [⟨.roomMtimecmp, 0, 0⟩] }, by first | decide +kernel | rfl, by first | decide +kernel | rfl, by first | decide +kernel | rfl⟩,
    ⟨h0, 0xE000000000000001, base, by first | decide +kernel | rfl, by first | decide +kernel | rfl⟩,
    ⟨h0, .rs, false, 3, 0, base, by first | decide +kernel | rfl⟩,
    ⟨h0, { withHart (fun x => { x with mie := 128, mstatus := 8 }) with regs := [⟨.roomMtimecmp, 0, 0⟩] }, 7, by first | decide +kernel | rfl, by first | decide +kernel | rfl⟩⟩

/-- Every clause of GlobalAccessesComplete with hypotheses has an instance. -/
theorem witness_global_accesses_complete :
    (∃ (h : HartId) (w : W32) (s : State) (x : Xlate) (l : List Byte) (c : Instr) (op5 n : Nat) (u : Bool),
      (c, op5, n, u) ∈ [(Instr.szGlb h w, 0, 1, false), (.szGlh h w, 1, 2, false), (.szGlw h w, 2, 4, false), (.szGld h w, 3, 8, false), (.szGlq h w, 4, 16, false), (.szGlbu h w, 5, 1, true), (.szGlhu h w, 6, 2, true), (.szGlwu h w, 7, 4, true)]
          ∧ s.canRunWord h w custom1 op5 = true ∧ s.released h (szRl w) = true ∧ ((s.hart h).reg (szRs1 w)).toNat % n = 0 ∧
          s.translate h.room.val ((s.hart h).authority h.hart.val) .read .load ((s.hart h).reg (szRs1 w)) = .ok x ∧ x.type ≤ 2 ∧
          s.homeOpen (szF3 w) (s.placeFor h.room.val x.pa n) n = true ∧ s.memRead (s.placeFor h.room.val x.pa n) n = .data l) ∧
    (∃ (h : HartId) (w : W32) (s : State) (x : Xlate) (c : Instr) (op5 n v : Nat),
      (c, op5, n, v) ∈ [(Instr.szGsb h w, 8, 1, ((s.hart h).reg (szRs2 w)).toNat), (.szGsh h w, 9, 2, ((s.hart h).reg (szRs2 w)).toNat), (.szGsw h w, 10, 4, ((s.hart h).reg (szRs2 w)).toNat), (.szGsd h w, 11, 8, ((s.hart h).reg (szRs2 w)).toNat), (.szGsq h w, 12, 16, ((s.hart h).pair (szRs2 w)).toNat)]
          ∧ s.canRunWord h w custom1 op5 = true ∧ s.released h (szRl w) = true ∧ ((s.hart h).reg (szRs1 w)).toNat % n = 0 ∧
          s.translate h.room.val ((s.hart h).authority h.hart.val) .write .store ((s.hart h).reg (szRs1 w)) = .ok x ∧ x.type ≤ 2 ∧
          s.homeOpen (szF3 w) (s.placeFor h.room.val x.pa n) n = true ∧ s.writeCode (s.placeFor h.room.val x.pa n) (toBytes n v) =
          0) :=
  ⟨⟨h0, 0x1800822B, base, px, [1,2,3,4,5,6,7,8], .szGld h0 0x1800822B, 3, 8, false, by first | decide +kernel | rfl, by first | decide +kernel | rfl, by first | decide +kernel | rfl, by first | decide +kernel | rfl, by first | decide +kernel | rfl, by first | decide +kernel | rfl, by first | decide +kernel | rfl, by first | decide +kernel | rfl⟩,
    ⟨h0, 0x5820802B, base, px, .szGsd h0 0x5820802B, 11, 8, 5, by first | decide +kernel | rfl, by first | decide +kernel | rfl, by first | decide +kernel | rfl, by first | decide +kernel | rfl, by first | decide +kernel | rfl, by first | decide +kernel | rfl, by first | decide +kernel | rfl, by first | decide +kernel | rfl⟩⟩

/-- Every clause of GlobalAtomicsComplete with hypotheses has an instance. -/
theorem witness_global_atomics_complete :
    ∃ (h : HartId) (w : W32) (s : State) (x : Xlate) (l : List Byte) (c : Instr) (op5 : Nat) (op : HomeAtomic) (pair : Bool),
      (c, op5, op, pair) ∈ [(Instr.szXaadd h w, 0x10, HomeAtomic.xaAdd ((s.hart h).pair (szRs2 w)), true), (.szAmofaddW h w, 0x11, .fadd (((s.hart h).reg (szRs2 w)).setWidth 32), false), (.szAmofmaxW h w, 0x12, .fmax (((s.hart h).reg (szRs2 w)).setWidth 32), false), (.szAmofminW h w, 0x13, .fmin (((s.hart h).reg (szRs2 w)).setWidth 32), false), (.szAmocasW h w, 0x14, .cas 4 (((s.hart h).reg (szRd w)).setWidth 128) (((s.hart h).reg (szRs2 w)).setWidth 128), false), (.szAmocasD h w, 0x15, .cas 8 (((s.hart h).reg (szRd w)).setWidth 128) (((s.hart h).reg (szRs2 w)).setWidth 128), false), (.szAmocasQ h w, 0x16, .cas 16 ((s.hart h).pair (szRd w)) ((s.hart h).pair (szRs2 w)), true), (.szLacq h w, 0x18, .leaseAcq (s.callerId h) (s.callerEpoch h) ((s.hart h).reg (szRs2 w)), false), (.szLrel h w, 0x19, .leaseRel (s.callerId h) (s.callerEpoch h), false)]
          ∧ s.canRunWord h w custom1 op5 = true ∧ s.released h (szRl w || op5 == 0x19) = true ∧ ((s.hart h).reg (szRs1 w)).toNat %
          homeWidth op = 0 ∧ s.translate h.room.val ((s.hart h).authority h.hart.val) .both .store ((s.hart h).reg (szRs1 w)) =
          .ok x ∧ x.type ≤ 2 ∧ homeAllows op (s.placeFor h.room.val x.pa (homeWidth op)) = true ∧ s.homeOpen (szF3 w) (s.placeFor
          h.room.val x.pa (homeWidth op)) (homeWidth op) = true ∧ s.atomicAnswer op (s.placeFor h.room.val x.pa (homeWidth op)) =
          .data l :=
  ⟨h0, 0xA820822B, base, px, [1,2,3,4,5,6,7,8], .szAmocasD h0 0xA820822B, 0x15, .cas 8 0 5, false, by first | decide +kernel | rfl, by first | decide +kernel | rfl, by first | decide +kernel | rfl, by first | decide +kernel | rfl, by first | decide +kernel | rfl, by first | decide +kernel | rfl, by first | decide +kernel | rfl, by first | decide +kernel | rfl, by first | decide +kernel | rfl⟩

/-- Every clause of ViewFenceSignalAndWaitComplete with hypotheses has an instance. -/
theorem witness_view_fence_signal_and_wait_complete :
    (∃ (h : HartId) (w : W32) (s : State),
      s.canRunWord h w custom1 0x1C = true ∧ (s.hart h).reg (szRs2 w) = 0 ∧ s.hasStores h = false) ∧
    (∃ (h : HartId) (w : W32) (s : State) (b c : Bool) (o p : Nat),
      s.canRunWord h w custom1 0x1C = true ∧ (s.hart h).reg (szRs2 w) ≠ 0 ∧ ((s.hart h).reg (szRs2 w)).toNat ≤ atticSize ∧
          s.fenceByte h ((s.hart h).reg (szRs1 w)) = .ok (b, o) ∧ s.fenceByte h ((s.hart h).reg (szRs1 w) + BitVec.ofNat 64
          (((s.hart h).reg (szRs2 w)).toNat - 1)) = .ok (c, p)) ∧
    (∃ (h : HartId) (s : State) (pieces : List (Bool × Nat × Nat)) (work : FenceWork),
      (s.hart h).wait = .vfence pieces work ∧ work.done (s.roomWork h.room.val) = true) ∧
    (∃ (h : HartId) (w : W32) (s : State) (x : Xlate),
      s.canRunWord h w custom2 0 = true ∧ ((s.hart h).reg (szRs2 w)).toNat ≤ 7 ∧ ((s.hart h).reg (szRs1 w)).toNat % 16 = 0 ∧
          s.translate h.room.val ((s.hart h).authority h.hart.val) .read .load ((s.hart h).reg (szRs1 w)) = .ok x ∧ (∃ r o,
          s.placeFor h.room.val x.pa 16 = .pantry r o ∨ s.placeFor h.room.val x.pa 16 = .attic r false o) ∧ (s.dw (h.room.val * 8
          + ((s.hart h).reg (szRs2 w)).toNat)).queue.length < 4) ∧
    (∃ (h : HartId) (w : W32) (s : State) (x : Xlate) (l : List Byte) (c : Instr) (f3 : Nat),
      (c, f3) ∈ [(Instr.szSignalSet h w, 0), (.szSignalClr h w, 1), (.szSignalAdd h w, 2)] ∧ s.canRunWord h w custom2 1 = true
          ∧ szF3 w = f3 ∧ s.released h true = true ∧ ((s.hart h).reg (szRs1 w)).toNat % 8 = 0 ∧ s.translate h.room.val ((s.hart
          h).authority h.hart.val) .both .store ((s.hart h).reg (szRs1 w)) = .ok x ∧ x.type = 2 ∧ s.atomicAnswer (signalOp f3
          ((s.hart h).reg (szRs2 w))) (s.placeFor h.room.val x.pa 8) = .data l) ∧
    (∃ (h : HartId) (w : W32) (s : State) (x : Xlate) (d : Watched) (v : W64),
      s.canRunWord h w custom2 2 = true ∧ ((s.hart h).reg (szRs1 w)).toNat % 8 = 0 ∧ s.translate h.room.val ((s.hart
          h).authority h.hart.val) .read .load ((s.hart h).reg (szRs1 w)) = .ok x ∧ watchedAt h.room.val (s.placeFor h.room.val
          x.pa 8) = some d ∧ (s.testWatch h.room.val ⟨d, condOf (szF3 w), (s.hart h).reg (szRs2 w), .none⟩).hit = .value v) ∧
    (∃ (h : HartId) (w : W32) (s : State) (x : Xlate) (d : Watched),
      s.canRunWord h w custom2 2 = true ∧ ((s.hart h).reg (szRs1 w)).toNat % 8 = 0 ∧ s.translate h.room.val ((s.hart
          h).authority h.hart.val) .read .load ((s.hart h).reg (szRs1 w)) = .ok x ∧ watchedAt h.room.val (s.placeFor h.room.val
          x.pa 8) = some d ∧ (s.testWatch h.room.val ⟨d, condOf (szF3 w), (s.hart h).reg (szRs2 w), .none⟩).hit = .none) ∧
    (∃ (h : HartId) (s : State) (rd : Nat) (va : W64) (k : Watch) (d : Option Nat) (v : W64),
      (s.hart h).wait = .watch rd va k d ∧ k.hit = .value v) ∧
    (∃ (h : HartId) (s : State) (rd : Nat) (va : W64) (k : Watch) (d : Nat),
      (s.hart h).wait = .watch rd va k (some d) ∧ k.hit = .none) :=
  ⟨⟨h0, 0xE000802B, base, by first | decide +kernel | rfl, by first | decide +kernel | rfl, by first | decide +kernel | rfl⟩,
    ⟨h0, 0xE020802B, withHart (fun x => { x with x := [(1, 0x80000000000000), (2, 5)] }), false, false, 0, 4, by first | decide +kernel | rfl, by first | decide +kernel | rfl, by first | decide +kernel | rfl, by first | decide +kernel | rfl, by first | decide +kernel | rfl⟩,
    ⟨h0, (waiting (.vfence [(false, 0, 64)] {})).modAttic 0 (fun a => { a with views := [⟨false, 0, 0, 64⟩] }), [(false, 0, 64)], {}, by first | decide +kernel | rfl, by first | decide +kernel | rfl⟩,
    ⟨h0, 0x002081DB, base, px, by first | decide +kernel | rfl, by first | decide +kernel | rfl, by first | decide +kernel | rfl, by first | decide +kernel | rfl, ⟨0, 0, .inl rfl⟩, by first | decide +kernel | rfl⟩,
    ⟨h0, 0x0820A25B, base, px, [1,2,3,4,5,6,7,8], .szSignalAdd h0 0x0820A25B, 2, by first | decide +kernel | rfl, by first | decide +kernel | rfl, by first | decide +kernel | rfl, by first | decide +kernel | rfl, by first | decide +kernel | rfl, by first | decide +kernel | rfl, by first | decide +kernel | rfl, by first | decide +kernel | rfl⟩,
    ⟨h0, 0x1020A1DB, base, px, .pantry 0, 0x0807060504030201, by first | decide +kernel | rfl, by first | decide +kernel | rfl, by first | decide +kernel | rfl, by first | decide +kernel | rfl, by first | decide +kernel | rfl⟩,
    ⟨h0, 0x102081DB, base, px, .pantry 0, by first | decide +kernel | rfl, by first | decide +kernel | rfl, by first | decide +kernel | rfl, by first | decide +kernel | rfl, by first | decide +kernel | rfl⟩,
    ⟨h0, waiting (.watch 3 pantry0 ⟨.pantry 0, .ne, 5, .value 7⟩ none), 3, pantry0, ⟨.pantry 0, .ne, 5, .value 7⟩, none, 7, by first | decide +kernel | rfl, by first | decide +kernel | rfl⟩,
    ⟨h0, waiting (.watch 3 pantry0 ⟨.pantry 0, .ne, 5, .none⟩ (some 9)), 3, pantry0, ⟨.pantry 0, .ne, 5, .none⟩, 9, by first | decide +kernel | rfl, by first | decide +kernel | rfl⟩⟩

/-- Every clause of BarriersAndThreadsComplete with hypotheses has an instance. -/
theorem witness_barriers_and_threads_complete :
    (∃ (h : HartId) (w : W32) (s : State),
      s.canRunWord h w custom2 3 = true ∧ s.released h true = true ∧ ((s.hart h).reg (szRs1 w)).toNat ≤ 3 ∧ (1 ≤ ((s.hart
          h).reg (szRs2 w)).toNat ∧ ((s.hart h).reg (szRs2 w)).toNat ≤ 32) ∧ ((tget ((s.hart h).reg (szRs1 w)).toNat (s.room
          h.room.val).barriers).getD ⟨((s.hart h).reg (szRs2 w)).toNat, []⟩).count = ((s.hart h).reg (szRs2 w)).toNat ∧ ((tget
          ((s.hart h).reg (szRs1 w)).toNat (s.room h.room.val).barriers).getD ⟨((s.hart h).reg (szRs2 w)).toNat, []⟩).arrived.length
          + 1 ≠ ((s.hart h).reg (szRs2 w)).toNat) ∧
    (∃ (h : HartId) (w : W32) (s : State),
      s.canRunWord h w custom2 3 = true ∧ s.released h true = true ∧ ((s.hart h).reg (szRs1 w)).toNat ≤ 3 ∧ (1 ≤ ((s.hart
          h).reg (szRs2 w)).toNat ∧ ((s.hart h).reg (szRs2 w)).toNat ≤ 32) ∧ ((tget ((s.hart h).reg (szRs1 w)).toNat (s.room
          h.room.val).barriers).getD ⟨((s.hart h).reg (szRs2 w)).toNat, []⟩).count = ((s.hart h).reg (szRs2 w)).toNat ∧ ((tget
          ((s.hart h).reg (szRs1 w)).toNat (s.room h.room.val).barriers).getD ⟨((s.hart h).reg (szRs2 w)).toNat, []⟩).arrived.length
          + 1 = ((s.hart h).reg (szRs2 w)).toNat) ∧
    (∃ (h : HartId) (s : State) (rd id d : Nat),
      (s.hart h).wait = .rbar rd id (some d)) ∧
    (∃ (h : HartId) (w : W32) (s u : State) (words : List W64) (n : Nat),
      s.canRunWord h w custom3 0 = true ∧ s.released h true = true ∧ s.readDescriptor h ((s.hart h).reg (szRs1 w)) 64 = .words
          words u ∧ collBad words (s.hart h).priv = false ∧ s.freeSlot h.room.val = some n ∧ u.collOpen h.room.val (u.collEntry h
          n words false) = true) ∧
    (∃ (h : HartId) (w : W32) (s u : State) (words : List W64) (g : GbarPending) (v : Nat),
      s.canRunWord h w custom3 1 = true ∧ s.readDescriptor h ((s.hart h).reg (szRs1 w)) 64 = .words words u ∧ collBad words
          (s.hart h).priv = false ∧ collOp words = 6 ∧ (s.hart h).gbar = some g ∧ g.collId = (collId words).toNat ∧ g.result =
          some v) ∧
    (∃ (h : HartId) (w : W32) (s u : State) (words : List W64) (n : Nat),
      s.canRunWord h w custom3 1 = true ∧ s.released h true = true ∧ s.readDescriptor h ((s.hart h).reg (szRs1 w)) 64 = .words
          words u ∧ collBad words (s.hart h).priv = false ∧ collOp words = 6 ∧ (s.hart h).gbar = none ∧ s.freeSlot h.room.val =
          some n ∧ u.collOpen h.room.val (u.collEntry h n words true) = true) ∧
    (∃ (h : HartId) (s : State) (rd d : Nat),
      (s.hart h).wait = .gbar rd (some d)) ∧
    (∃ (h : HartId) (w : W32) (s : State) (x : Xlate) (b : List PByte) (g : Nat),
      s.canRunWord h w custom3 2 = true ∧ s.released h true = true ∧ ((s.hart h).reg (szRs1 w)).toNat < 2 ^ 29 ∧ ((s.hart
          h).reg (szRs1 w)).toNat / 2 ^ 10 % 32 ≤ 23 ∧ s.absentDevs.contains (((s.hart h).reg (szRs1 w)).toNat / 2 ^ 15 % 2 ^ 14)
          = false ∧ ((s.hart h).reg (szRs2 w)).toNat % 8 = 0 ∧ s.translate h.room.val ((s.hart h).authority h.hart.val) .read
          .load ((s.hart h).reg (szRs2 w)) = .ok x ∧ s.unitRead h.room.val ((s.hart h).authority h.hart.val) ((s.hart h).reg
          (szRs2 w)).toNat 32 = .ok b ∧ b.any (·.2) = false ∧ (s.room h.room.val).children.length < 256 ∧ s.freeTag h.room.val
          4096 0 = some g) ∧
    (∃ (h : HartId) (w : W32) (s : State) (c : Child) (v : W64),
      s.canRunWord h w custom3 3 = true ∧ badThread ((s.hart h).reg (szRs1 w)).toNat = false ∧ (s.room
          h.room.val).children.find? (fun c => c.parent == h.hart.val && c.thread == ((s.hart h).reg (szRs1 w)).setWidth 32) =
          some c ∧ c.state = .exited v) ∧
    (∃ (h : HartId) (w : W32) (s : State),
      s.canRunWord h w custom3 4 = true ∧ s.released h true = true) :=
  ⟨⟨h0, 0x182001DB, base, by first | decide +kernel | rfl, by first | decide +kernel | rfl, by first | decide +kernel | rfl, by first | decide +kernel | rfl, by first | decide +kernel | rfl, by first | decide +kernel | rfl⟩,
    ⟨h0, 0x182001DB, withHart (fun x => { x with x := [(2, 1)] }), by first | decide +kernel | rfl, by first | decide +kernel | rfl, by first | decide +kernel | rfl, by first | decide +kernel | rfl, by first | decide +kernel | rfl, by first | decide +kernel | rfl⟩,
    ⟨h0, waiting (.rbar 3 1 (some 9)), 3, 1, 9, by first | decide +kernel | rfl⟩,
    ⟨h0, 0x000081FB, collState, collState.bump, collWords, 0, by first | decide +kernel | rfl, by first | decide +kernel | rfl, by first | decide +kernel | rfl, by first | decide +kernel | rfl, by first | decide +kernel | rfl, by first | decide +kernel | rfl⟩,
    ⟨h0, 0x080081FB, collState.modHartAt 0 (fun x => { x with gbar := some ⟨7, some 0⟩ }), (collState.modHartAt 0 (fun x => { x with gbar := some ⟨7, some 0⟩ })).bump, collWords, ⟨7, some 0⟩, 0, by first | decide +kernel | rfl, by first | decide +kernel | rfl, by first | decide +kernel | rfl, by first | decide +kernel | rfl, by first | decide +kernel | rfl, by first | decide +kernel | rfl, by first | decide +kernel | rfl⟩,
    ⟨h0, 0x080081FB, collState, collState.bump, collWords, 0, by first | decide +kernel | rfl, by first | decide +kernel | rfl, by first | decide +kernel | rfl, by first | decide +kernel | rfl, by first | decide +kernel | rfl, by first | decide +kernel | rfl, by first | decide +kernel | rfl, by first | decide +kernel | rfl⟩,
    ⟨h0, waiting (.gbar 3 (some 9)), 3, 9, by first | decide +kernel | rfl⟩,
    ⟨h0, 0x101101FB, spawnState, px, spawnBytes, 0, by first | decide +kernel | rfl, by first | decide +kernel | rfl, by first | decide +kernel | rfl, by first | decide +kernel | rfl, by first | decide +kernel | rfl, by first | decide +kernel | rfl, by first | decide +kernel | rfl, by first | decide +kernel | rfl, by first | decide +kernel | rfl, by first | decide +kernel | rfl, by first | decide +kernel | rfl⟩,
    ⟨h0, 0x1801027B, joinState, ⟨0, 5, .exited 9⟩, 9, by first | decide +kernel | rfl, by first | decide +kernel | rfl, by first | decide +kernel | rfl, by first | decide +kernel | rfl⟩,
    ⟨h0, 0x2001007B, base, by first | decide +kernel | rfl, by first | decide +kernel | rfl⟩⟩

/-- Every clause of OutstandingRequestsEnd with hypotheses has an instance. -/
theorem witness_outstanding_requests_end :
    (∃ (island : Fin 792) (p : Response) (s : State) (q : Req),
      island.val < 768 ∧ (s.tag island.val p.tag.val).state = .outstanding ∧ (s.tag island.val p.tag.val).gen = p.gen.val ∧
          (s.room island.val).cond.epoch = p.epoch.toNat ∧ s.findReq island.val p.tag.val = some q ∧ q.reissued = false) ∧
    (∃ (r : RoomIx) (tag : Fin 4096) (s : State) (q : Req),
      s.findReq r.val tag.val = some q) ∧
    (∃ (island : Fin 792) (tag : Fin 4096) (s : State),
      (s.tag island.val tag.val).state = .held) :=
  ⟨⟨0, ⟨0, 0, 1, 0, [1,2,3,4,5,6,7,8], false⟩, reqState, reqOf, by first | decide +kernel | rfl, by first | decide +kernel | rfl, by first | decide +kernel | rfl, by first | decide +kernel | rfl, by first | decide +kernel | rfl, by first | decide +kernel | rfl⟩,
    ⟨0, 0, reqState, reqOf, by first | decide +kernel | rfl⟩,
    ⟨0, 0, heldState, by first | decide +kernel | rfl⟩⟩

/-- Every clause of ArrayInstructionsComplete with hypotheses has an instance. -/
theorem witness_array_instructions_complete :
    (∃ (h : HartId) (w : W32) (s u : State) (words : List W64) (c : Instr) (op5 : Nat) (other : List Nat),
      (c, op5, other) ∈ [(Instr.szPass h w, 0, [2, 3]), (.szExport h w, 1, [1, 4])] ∧ s.canRunWord h w custom0 op5 = true ∧
          (s.array h.room.val).queue.length < 8 ∧ (s.array h.room.val).ownedBy h.hart.val = true ∧ s.readDescriptor h ((s.hart
          h).reg (szRs1 w)) 64 = .words words u ∧ fld (wordN words 0) 3 0 ∉ other) ∧
    (∃ (h : HartId) (w : W32) (s : State),
      s.canRunWord h w custom0 2 = true ∧ s.stageCheck h.room.val ((s.hart h).reg (szRs1 w)).toNat ((s.hart h).reg (szRs2
          w)).toNat = 0 ∧ (s.array h.room.val).stages.length < 16 ∧ (s.array h.room.val).ownedBy h.hart.val = true) ∧
    (∃ (h : HartId) (w : W32) (s : State),
      s.canRunWord h w custom0 3 = true ∧ s.modeAction h w = 0) ∧
    (∃ (h : HartId) (w : W32) (s : State),
      s.canRunWord h w custom0 3 = true ∧ s.modeAction h w = 1 ∧ (s.array h.room.val).releasePending = false ∧ ((s.array
          h.room.val).owner = none ∨ (s.array h.room.val).owner = some h.hart.val)) ∧
    (∃ (h : HartId) (w : W32) (s : State),
      s.canRunWord h w custom0 3 = true ∧ s.modeAction h w = 2 ∧ (s.array h.room.val).ownedBy h.hart.val = true) ∧
    (∃ (h : HartId) (w : W32) (s : State),
      s.canRunWord h w custom0 4 = true ∧ (1 ≤ ((s.hart h).reg (szRs1 w)).toNat ∧ ((s.hart h).reg (szRs1 w)).toNat ≤ 8192) ∧
          (s.array h.room.val).queue.length < 8 ∧ (s.array h.room.val).ownedBy h.hart.val = true) :=
  ⟨⟨h0, 0x0000818B, ownedState, ownedState.bump, [1, 0, 0, 0, 0, 0, 0, 0], .szPass h0 0x0000818B, 0, [2, 3], by first | decide +kernel | rfl, by first | decide +kernel | rfl, by first | decide +kernel | rfl, by first | decide +kernel | rfl, by first | decide +kernel | rfl, by first | decide +kernel | rfl⟩,
    ⟨h0, 0x1020800B, ownedState.modHartAt 0 (fun x => { x with x := [(1, pantry0), (2, 64)] }), by first | decide +kernel | rfl, by first | decide +kernel | rfl, by first | decide +kernel | rfl, by first | decide +kernel | rfl⟩,
    ⟨h0, 0x1800018B, ownedState, by first | decide +kernel | rfl, by first | decide +kernel | rfl⟩,
    ⟨h0, 0x1801018B, withHart (fun x => { x with x := [(2, 1)] }), by first | decide +kernel | rfl, by first | decide +kernel | rfl, by first | decide +kernel | rfl, by first | decide +kernel | rfl⟩,
    ⟨h0, 0x1801018B, ownedState.modHartAt 0 (fun x => { x with x := [(2, 2)] }), by first | decide +kernel | rfl, by first | decide +kernel | rfl, by first | decide +kernel | rfl⟩,
    ⟨h0, 0x2001018B, ownedState.modHartAt 0 (fun x => { x with x := [(2, 8)] }), by first | decide +kernel | rfl, by first | decide +kernel | rfl, by first | decide +kernel | rfl, by first | decide +kernel | rfl⟩⟩

/-- Every clause of ArrayRunsItsQueue with hypotheses has an instance. -/
theorem witness_array_runs_its_queue :
    (∃ (r : RoomIx) (s : State) (g : Stage) (q : List Stage),
      (s.array r.val).stages = g :: q ∧ g.started = false ∧ (tgetD (s.array r.val).slots g.slot {}).state = 0) ∧
    (∃ (r : RoomIx) (s : State) (g : Stage) (q : List Stage) (b : List PByte),
      (s.array r.val).stages = g :: q ∧ g.started = true ∧ s.unitOpen r.val g.auth .read .load 3 g.src.toNat g.len = true ∧
          s.unitReadTo r.val g.auth (pageList g.src.toNat g.len) = (b, none)) ∧
    (∃ (r : RoomIx) (s : State) (g : Stage) (q : List Stage),
      (s.array r.val).stages = g :: q ∧ g.started = false ∧ (tgetD (s.array r.val).slots g.slot {}).state ≠ 0) ∧
    (∃ (r : RoomIx) (s : State) (e : ArrayEntry) (i : Nat),
      (s.array r.val).nextEntry = some (i, e) ∧ e.op = 1 ∧ s.passStatus r.val e = 0 ∧ (s.array r.val).powered = true ∧
          (e.resident = true ∨ (tgetD (s.array r.val).slots e.wslot {}).state = 2) ∧ (e.init = true → (s.array
          r.val).overlapsRunning e = false)) ∧
    (∃ (r : RoomIx) (s : State) (e : ArrayEntry) (q : List ArrayEntry),
      (s.array r.val).queue = e :: q ∧ e.op = 1 ∧ e.started = true ∧ e.status = 0 ∧ q.head?.all (fun g => !(g.started &&
          g.status != 0)) = true) ∧
    (∃ (r : RoomIx) (s : State) (e : ArrayEntry) (q : List ArrayEntry),
      (s.array r.val).queue = e :: q ∧ e.op = 1 ∧ e.started = false ∧ e.resident = false ∧ s.passStatus r.val e = 0 ∧ (tgetD
          (s.array r.val).slots e.wslot {}).state ≠ 2 ∧ q.head?.all (fun g => !(g.started && g.status != 0)) = true) ∧
    (∃ (r : RoomIx) (s : State) (e : ArrayEntry) (i : Nat) (c : Instr) (op : Nat),
      (c, op) ∈ [(Instr.arrayExportStart r, 2), (.arrayImportStart r, 3)] ∧ (s.array r.val).nextEntry = some (i, e) ∧ e.op =
          op ∧ s.entryCheck r.val e = 0 ∧ (s.array r.val).overlapsRunning e = false) ∧
    (∃ (r : RoomIx) (s : State) (e : ArrayEntry) (q : List ArrayEntry),
      (s.array r.val).queue = e :: q ∧ e.op = 2 ∧ e.started = true ∧ e.status = 0 ∧ q.head?.all (fun g => !(g.started &&
          g.status != 0)) = true) ∧
    (∃ (r : RoomIx) (s : State) (e : ArrayEntry) (q : List ArrayEntry),
      (s.array r.val).queue = e :: q ∧ e.op = 3 ∧ e.started = true ∧ e.status = 0 ∧ q.head?.all (fun g => !(g.started &&
          g.status != 0)) = true) ∧
    (∃ (r : RoomIx) (s : State) (e : ArrayEntry) (i : Nat),
      (s.array r.val).nextEntry = some (i, e) ∧ e.op = 4 ∧ s.entryCheck r.val e = 0 ∧ (s.array r.val).powered = true) ∧
    (∃ (r : RoomIx) (s : State) (e : ArrayEntry) (q : List ArrayEntry),
      (s.array r.val).queue = e :: q ∧ e.op = 4 ∧ e.started = true ∧ e.status = 0 ∧ q.head?.all (fun g => !(g.started &&
          g.status != 0)) = true) ∧
    (∃ (r : RoomIx) (s : State),
      (s.array r.val).powered = true ∧ (s.array r.val).queue.any (·.started) = false ∧ s.keptWarm r.val = false ∧ s.arrayReady
          r.val = false ∧ s.granted .stepDown r.val = true) ∧
    (∃ (r : RoomIx) (s : State),
      (s.array r.val).power = .steppingDown) ∧
    (∃ (r : RoomIx) (s : State),
      (s.array r.val).power = .idle ∧ (s.array r.val).queue ≠ [] ∧ s.granted .wake r.val = true) :=
  ⟨⟨0, stageState, ⟨0, 0, 64, pantry0, {}, false, []⟩, [], by first | decide +kernel | rfl, by first | decide +kernel | rfl, by first | decide +kernel | rfl⟩,
    ⟨0, base.modArray 0 (fun a => { a with stages := [⟨0, 0, 8, pantry0, {}, true, [none]⟩] }), ⟨0, 0, 8, pantry0, {}, true, [none]⟩, [], [(1, false), (2, false), (3, false), (4, false), (5, false), (6, false), (7, false), (8, false)], by first | decide +kernel | rfl, by first | decide +kernel | rfl, by first | decide +kernel | rfl, by first | decide +kernel | rfl⟩,
    ⟨0, stageState.modArray 0 (fun a => { a with slots := [(0, ⟨2, 64⟩)] }), ⟨0, 0, 64, pantry0, {}, false, []⟩, [], by first | decide +kernel | rfl, by first | decide +kernel | rfl, by first | decide +kernel | rfl⟩,
    ⟨0, passState, passEntry, 0, by first | decide +kernel | rfl, by first | decide +kernel | rfl, by first | decide +kernel | rfl, by first | decide +kernel | rfl, by first | decide +kernel | rfl, by first | decide +kernel | rfl⟩,
    ⟨0, passState.modArray 0 (fun a => { a with queue := [{ passEntry with started := true }] }), { passEntry with started := true }, [], by first | decide +kernel | rfl, by first | decide +kernel | rfl, by first | decide +kernel | rfl, by first | decide +kernel | rfl, by first | decide +kernel | rfl⟩,
    ⟨0, passState.modArray 0 (fun a => { a with queue := [slotEntry] }), slotEntry, [], by first | decide +kernel | rfl, by first | decide +kernel | rfl, by first | decide +kernel | rfl, by first | decide +kernel | rfl, by first | decide +kernel | rfl, by first | decide +kernel | rfl, by first | decide +kernel | rfl⟩,
    ⟨0, passState.modArray 0 (fun a => { a with queue := [exportEntry] }), exportEntry, 0, .arrayExportStart 0, 2, by first | decide +kernel | rfl, by first | decide +kernel | rfl, by first | decide +kernel | rfl, by first | decide +kernel | rfl, by first | decide +kernel | rfl⟩,
    ⟨0, passState.modArray 0 (fun a => { a with queue := [{ exportEntry with started := true }] }), { exportEntry with started := true }, [], by first | decide +kernel | rfl, by first | decide +kernel | rfl, by first | decide +kernel | rfl, by first | decide +kernel | rfl, by first | decide +kernel | rfl⟩,
    ⟨0, passState.modArray 0 (fun a => { a with queue := [{ importEntry with started := true }] }), { importEntry with started := true }, [], by first | decide +kernel | rfl, by first | decide +kernel | rfl, by first | decide +kernel | rfl, by first | decide +kernel | rfl, by first | decide +kernel | rfl⟩,
    ⟨0, passState.modArray 0 (fun a => { a with queue := [dummyEntry] }), dummyEntry, 0, by first | decide +kernel | rfl, by first | decide +kernel | rfl, by first | decide +kernel | rfl, by first | decide +kernel | rfl⟩,
    ⟨0, passState.modArray 0 (fun a => { a with queue := [{ dummyEntry with started := true }] }), { dummyEntry with started := true }, [], by first | decide +kernel | rfl, by first | decide +kernel | rfl, by first | decide +kernel | rfl, by first | decide +kernel | rfl, by first | decide +kernel | rfl⟩,
    ⟨0, { passState.modArray 0 (fun a => { a with queue := [slotEntry] }) with power := { issued := [⟨.stepDown, 0, false, 0, 0⟩] } }, by first | decide +kernel | rfl, by first | decide +kernel | rfl, by first | decide +kernel | rfl, by first | decide +kernel | rfl, by first | decide +kernel | rfl⟩,
    ⟨0, base.modArray 0 (fun a => { a with power := .steppingDown }), by first | decide +kernel | rfl⟩,
    ⟨0, { base.modArray 0 (fun a => { a with queue := [dummyEntry] }) with power := { issued := [⟨.wake, 0, false, 0, 0⟩] } }, by first | decide +kernel | rfl, by first | decide +kernel | rfl, by first | decide +kernel | rfl⟩⟩

/-- Every clause of ArrayControlWritesComplete with hypotheses has an instance. -/
theorem witness_array_control_writes_complete :
    (∃ (r : RoomIx) (s : State),
      (s.array r.val).queue.length ≤ 8) ∧
    (∃ (r : RoomIx) (s : State),
      (s.array r.val).queue.length ≤ 8) ∧
    (∃ (r : RoomIx) (writer : Option (Fin 32)) (value : W64) (s : State),
      s.sbCfgOk r.val (writer.map (·.val)) value.toNat = true) ∧
    (∃ (r : RoomIx) (writer : Option (Fin 32)) (value : W64) (s : State),
      s.sbCfgOk r.val (writer.map (·.val)) value.toNat = false) :=
  ⟨⟨0, passState, by first | decide +kernel | rfl⟩,
    ⟨0, passState, by first | decide +kernel | rfl⟩,
    ⟨0, none, 0x0000010200000000, base, by first | decide +kernel | rfl⟩,
    ⟨0, none, 0, base, by first | decide +kernel | rfl⟩⟩

/-- Every clause of AvuCommandsComplete with hypotheses has an instance. -/
theorem witness_avu_commands_complete :
    (∃ (h : HartId) (w : W32) (s u : State) (words : List W64),
      s.canRunWord h w custom1 0x1D = true ∧ s.readDescriptor h ((s.hart h).reg (szRs1 w)) 64 = .words words u ∧ (s.avu
          h.room.val).queue.length < 16) ∧
    (∃ (r : RoomIx) (s : State) (i : Nat) (c : AvuCmd) (pages : Tab Nat) (xs : List Xlate),
      (s.avu r.val).nextCmd = some (i, c) ∧ c.op ≠ 2 ∧ s.avusRun r.val = true ∧ (c.op = 1 → s.stairRuns r.val = true) ∧
          s.avuCheck r.val c = .ready pages xs ∧ c.banks.all (s.avu r.val).bufferFree = true) ∧
    (∃ (r : RoomIx) (b : Fin 48) (faults : List AvuFault) (s u : State) (i : Nat) (c : AvuCmd),
      (s.avu r.val).running b.val = some (i, c) ∧ c.op = 1 ∧ s.avusRun r.val = true ∧ (c.exports = true → s.stairRuns r.val =
          true) ∧ u = s.avuFaults r.val b.val (c.readsIn b.val) (c.entriesIn b.val) faults) ∧
    (∃ (r : RoomIx) (b : Fin 48) (faults : List AvuFault) (s u : State) (i : Nat) (c : AvuCmd),
      (s.avu r.val).running b.val = some (i, c) ∧ c.op = 3 ∧ s.avusRun r.val = true ∧ s.stairRuns r.val = true ∧ u =
          s.avuFaults r.val b.val (c.readsIn b.val) (c.entriesIn b.val) faults) ∧
    (∃ (r : RoomIx) (b : Fin 48) (faults : List AvuFault) (s : State) (i : Nat) (c : AvuCmd),
      (s.avu r.val).running b.val = some (i, c) ∧ c.op = 4 ∧ s.avusRun r.val = true) ∧
    (∃ (r : RoomIx) (s : State) (c : AvuCmd) (q : List AvuCmd),
      (s.avu r.val).queue = c :: q ∧ c.finished = true) ∧
    (∃ (r : RoomIx) (s : State),
      (s.avu r.val).queue.length ≤ 16) :=
  ⟨⟨h0, 0xE80081AB, ownedState, ownedState.bump, [1, 0, 0, 0, 0, 0, 0, 0], by first | decide +kernel | rfl, by first | decide +kernel | rfl, by first | decide +kernel | rfl⟩,
    ⟨0, avuState, 0, avuExportCmd, [], [], by first | decide +kernel | rfl, by first | decide +kernel | rfl, by first | decide +kernel | rfl, by first | decide +kernel | rfl, by first | decide +kernel | rfl, by first | decide +kernel | rfl⟩,
    ⟨0, 0, [], avuRunning 1, (avuRunning 1).avuFaults 0 0 ((avuCmd 1).readsIn 0) ((avuCmd 1).entriesIn 0) [], 0, avuCmd 1, by first | decide +kernel | rfl, by first | decide +kernel | rfl, by first | decide +kernel | rfl, by first | decide +kernel | rfl, by first | decide +kernel | rfl⟩,
    ⟨0, 0, [], avuRunning 3, (avuRunning 3).avuFaults 0 0 ((avuCmd 3).readsIn 0) ((avuCmd 3).entriesIn 0) [], 0, avuCmd 3, by first | decide +kernel | rfl, by first | decide +kernel | rfl, by first | decide +kernel | rfl, by first | decide +kernel | rfl, by first | decide +kernel | rfl⟩,
    ⟨0, 0, [], avuRunning 4, 0, avuCmd 4, by first | decide +kernel | rfl, by first | decide +kernel | rfl, by first | decide +kernel | rfl⟩,
    ⟨0, base.modAvu 0 (fun a => { a with queue := [{ avuCmd 3 with done := [0] }] }), { avuCmd 3 with done := [0] }, [], by first | decide +kernel | rfl, by first | decide +kernel | rfl⟩,
    ⟨0, base, by first | decide +kernel | rfl⟩⟩

/-- Every clause of AttentionStepsComplete with hypotheses has an instance. -/
theorem witness_attention_steps_complete :
    (∃ (r : RoomIx) (s : State) (i : Nat) (c : AvuCmd),
      (s.avu r.val).nextCmd = some (i, c) ∧ c.op = 2 ∧ (c.attnBadFormat = false ∧ c.attnBadShape = false) ∧ s.avusRun r.val =
          true ∧ s.stairRuns r.val = true ∧ s.seqsOpen r.val c = true ∧ s.attnHeld r.val c = false ∧ c.banks.all (s.avu
          r.val).bufferFree = true ∧ firstFinding (s.batchFindings r.val c ((s.batchList r.val c).filterMap id) ++ (s.attnScan
          r.val c).flatMap (·.found)) = none) ∧
    (∃ (r : RoomIx) (b : Fin 48) (faults : List AvuFault) (s u : State) (i : Nat) (c : AvuCmd) (v : AttnItem) (a : AttnEntry) (row : AttnRow),
      (s.avu r.val).running b.val = some (i, c) ∧ c.op = 2 ∧ s.avusRun r.val = true ∧ u = s.avuFaults r.val b.val (c.attnReads
          b.val) [] faults ∧ c.work.find? (fun w => w.bank == b.val) = some v ∧ c.attn[v.entry]? = some a ∧ a.rows[v.row]? = some
          row) ∧
    (∃ (r : RoomIx) (entry row : Fin 256) (s : State) (i : Nat) (c : AvuCmd) (a : AttnEntry) (q : AttnRow),
      (s.avu r.val).queue.zipIdx.find? (fun p => p.1.dispatched && p.1.op == 2 && p.1.status == 0 && !p.1.finished) = some (c,
          i) ∧ c.attn[entry.val]? = some a ∧ a.rows[row.val]? = some q ∧ c.rowsDone.contains (entry.val, row.val) = false ∧
          c.work.any (fun w => w.entry == entry.val && w.row == row.val) = false ∧ s.stairRuns r.val = true) :=
  ⟨⟨0, attnState, 0, attnCmd, by first | decide +kernel | rfl, by first | decide +kernel | rfl, by first | decide +kernel | rfl, by first | decide +kernel | rfl, by first | decide +kernel | rfl, by first | decide +kernel | rfl, by first | decide +kernel | rfl, by first | decide +kernel | rfl, by first | decide +kernel | rfl⟩,
    ⟨0, 0, [], stepState, stepState.avuFaults 0 0 (stepCmd.attnReads 0) [] [], 0, stepCmd, ⟨0, 0, 0, 0⟩, stepEntry, ⟨0, 0, []⟩, by first | decide +kernel | rfl, by first | decide +kernel | rfl, by first | decide +kernel | rfl, by first | decide +kernel | rfl, by first | decide +kernel | rfl, by first | decide +kernel | rfl, by first | decide +kernel | rfl⟩,
    ⟨0, 0, 0, mergeState, 0, { stepCmd with work := [] }, stepEntry, ⟨0, 0, []⟩, by first | decide +kernel | rfl, by first | decide +kernel | rfl, by first | decide +kernel | rfl, by first | decide +kernel | rfl, by first | decide +kernel | rfl, by first | decide +kernel | rfl⟩⟩

/-- Every clause of AtticRequestsComplete with hypotheses has an instance. -/
theorem witness_attic_requests_complete :
    (∃ (r : RoomIx) (s : State) (q : AtticRequest) (n : Nat),
      n = (match q.data with | some l => l.length | none => q.len) ∧ (0 < n ∧ q.off + n ≤ atticSize) ∧ (s.regq (atticQ
          r.val)).admitsAll q.cls.val (atticPieces q (s.attic r.val).nextId s.now).length (s.attic r.val).held = true ∧ (s.room
          r.val).stalled = false ∧ ((s.room r.val).reachable = true ∨ (s.room r.val).boots = true) ∧ (s.attic r.val).waiting = []) ∧
    (∃ (r : RoomIx) (id : Nat) (faults : List WordFault) (s : State) (q : AtticReq),
      (s.attic r.val).queue.find? (fun x => x.id == id) = some q ∧ (s.attic r.val).waiting = [] ∧ (s.attic r.val).mayPerform q
          = true ∧ q.retry = [] ∧ (retryWords q (faults.filter (q.finds (s.attic r.val))) = [] ∨ s.banksUsable r.val q.banked
          q.off q.len = false)) ∧
    (∃ (r : RoomIx) (id : Nat) (faults : List WordFault) (s : State) (q : AtticReq),
      (s.attic r.val).queue.find? (fun x => x.id == id) = some q ∧ (s.attic r.val).mayPerform q = true ∧ q.retry = [] ∧
          retryWords q (faults.filter (q.finds (s.attic r.val))) ≠ [] ∧ s.banksUsable r.val q.banked q.off q.len = true) ∧
    (∃ (r : RoomIx) (id : Nat) (word : Fin 32) (correct : Bool) (s : State) (q : AtticReq) (p : Nat × Nat),
      (s.attic r.val).queue.find? (fun x => x.id == id) = some q ∧ q.retry.find? (fun x => x.1 == word.val) = some p ∧
          (s.attic r.val).waiting = [] ∧ (s.attic r.val).mayPerform q = true ∧ q.retry.any (fun x => x.1 != word.val) = false) ∧
    (∃ (r : RoomIx) (banked : Bool) (off : Nat) (op : HomeAtomic) (s : State) (l : List Byte),
      homeAllows op (.attic r.val banked off) = true ∧ (off % homeWidth op = 0 ∧ off + homeWidth op ≤ atticSize) ∧ (s.attic
          r.val).phase = .running ∧ ((s.attic r.val).queue ++ (s.attic r.val).waiting).any (fun x => x.meets banked (off / 64 *
          64) 64) = false ∧ ((s.room r.val).reachable = true ∨ (s.room r.val).boots = true) ∧ (s.room r.val).stalled = false ∧
          s.memRead (.attic r.val banked off) (homeWidth op) = .data l) ∧
    (∃ (r : RoomIx) (bank : Fin 48) (s : State),
      tgetD (s.attic r.val).postponed bank.val 0 < 4) ∧
    (∃ (r : RoomIx) (bank : Fin 48) (postpone : Bool) (s : State),
      (postpone = false ∨ 4 ≤ tgetD (s.attic r.val).postponed bank.val 0)) :=
  ⟨⟨0, atticState, ⟨1, true, 0, 300, none⟩, 300, by first | decide +kernel | rfl, by first | decide +kernel | rfl, by first | decide +kernel | rfl, by first | decide +kernel | rfl, by first | decide +kernel | rfl, by first | decide +kernel | rfl⟩,
    ⟨0, 4, [⟨0, .stairCe, 3⟩], readState, readReq, by first | decide +kernel | rfl, by first | decide +kernel | rfl, by first | decide +kernel | rfl, by first | decide +kernel | rfl, by first | decide +kernel | rfl⟩,
    ⟨0, 4, [⟨0, .stairUe, 3⟩], readState, readReq, by first | decide +kernel | rfl, by first | decide +kernel | rfl, by first | decide +kernel | rfl, by first | decide +kernel | rfl, by first | decide +kernel | rfl⟩,
    ⟨0, 4, 0, false, retryState, { readReq with retry := [(0, 7)] }, (0, 7), by first | decide +kernel | rfl, by first | decide +kernel | rfl, by first | decide +kernel | rfl, by first | decide +kernel | rfl, by first | decide +kernel | rfl⟩,
    ⟨0, false, 0, .amo .add true 2, readState.modAttic 0 (fun a => { a with queue := [] }), List.replicate 8 1, by first | decide +kernel | rfl, by first | decide +kernel | rfl, by first | decide +kernel | rfl, by first | decide +kernel | rfl, by first | decide +kernel | rfl, by first | decide +kernel | rfl, by first | decide +kernel | rfl⟩,
    ⟨0, 3, atticState, by first | decide +kernel | rfl⟩,
    ⟨0, 3, true, base.modAttic 0 (fun a => { a with postponed := [(3, 4)] }), by first | decide +kernel | rfl⟩⟩

/-- Every clause of StairAndRegulationComplete with hypotheses has an instance. -/
theorem witness_stair_and_regulation_complete :
    (∃ (r : RoomIx) (s : State),
      (s.attic r.val).phase = .relockHold) ∧
    (∃ (r : RoomIx) (s : State),
      (s.attic r.val).phase = .relocking ∧ (s.attic r.val).band ≠ 4) ∧
    (∃ (r : RoomIx) (lane : Nat) (s : State),
      (s.attic r.val).phase = .running ∧ lane < 2304 ∧ ((s.attic r.val).recalDue.contains (lane / 32) = true ∨ s.laneLimit
          r.val ≤ s.laneErrors r.val lane)) ∧
    (∃ (r : RoomIx) (failed : List Nat) (s : State) (g : Nat),
      (s.attic r.val).phase = .recalHold g ∧ failed.all (fun x => x / 32 == g) = true) ∧
    (∃ (who : Accessor) (k : Fin 936) (s : State),
      regWriter s k.val who = true) ∧
    (∃ (who : Accessor) (k : Fin 936) (cls : Fin 8) (value : W64) (s : State),
      regWriter s k.val who = true ∧ (s.regq k.val).classes.length = 8 ∧ ((List.range 8).map fun i => if i = cls.val then fld
          value.toNat 6 0 else ((s.regq k.val).cls i).share).foldl (· + ·) 0 ≤ 60) ∧
    (∃ (who : Accessor) (k : Fin 936) (cls : Fin 8) (value : W64) (s : State),
      regWriter s k.val who = true ∧ 60 < ((List.range 8).map fun i => if i = cls.val then fld value.toNat 6 0 else ((s.regq
          k.val).cls i).share).foldl (· + ·) 0) :=
  ⟨⟨0, base.modAttic 0 (fun a => { a with phase := .relockHold }), by first | decide +kernel | rfl⟩,
    ⟨0, base.modAttic 0 (fun a => { a with phase := .relocking, band := 3 }), by first | decide +kernel | rfl, by first | decide +kernel | rfl⟩,
    ⟨0, 40, base.modAttic 0 (fun a => { a with phase := .running, recalDue := [1] }), by first | decide +kernel | rfl, by first | decide +kernel | rfl, by first | decide +kernel | rfl⟩,
    ⟨0, [40], base.modAttic 0 (fun a => { a with phase := .recalHold 1 }), 1, by first | decide +kernel | rfl, by first | decide +kernel | rfl⟩,
    ⟨.hart h0, 3, base, by first | decide +kernel | rfl⟩,
    ⟨.hart h0, 3, 2, 0x0001000200030004, base, by first | decide +kernel | rfl, by first | decide +kernel | rfl, by first | decide +kernel | rfl⟩,
    ⟨.hart h0, 3, 2, 0x000100020003007F, base, by first | decide +kernel | rfl, by first | decide +kernel | rfl⟩⟩

/-- Every clause of HomeRequestsComplete with hypotheses has an instance. -/
theorem witness_home_requests_complete :
    (∃ (q : HomeRequest) (s : State) (p : Place) (l : List PByte),
      p = s.requestPlace q q.len ∧ (0 < q.len ∧ q.len ≤ 256) ∧ s.takes q p q.len = true ∧ s.serves p 0 = true ∧ homeAllows
          (.xaAdd 0) p = true ∧ s.pread p q.len = .ok l) ∧
    (∃ (q : HomeRequest) (s : State) (p : Place),
      p = s.requestPlace q q.payload.length ∧ q.payload ≠ [] ∧ s.takes q p q.payload.length = true ∧ s.verdict (homeOf p)
          q.hdr = .perform ∧ s.serves p 1 = true ∧ homeAllows (.xaAdd 0) p = true ∧ s.writeCode p q.payload = 0) ∧
    (∃ (q : HomeRequest) (s : State) (c : Instr) (lens : List Nat) (op : HomeAtomic) (p : Place) (l : List Byte),
      (c, lens, op) ∈ [(Instr.reqSwap q, [4, 8], amoOf .swap q), (Instr.reqAdd q, [4, 8], amoOf .add q), (Instr.reqAnd q, [4, 8], amoOf .and q), (Instr.reqOr q, [4, 8], amoOf .or q), (Instr.reqXor q, [4, 8], amoOf .xor q), (Instr.reqMin q, [4, 8], amoOf .min q), (Instr.reqMax q, [4, 8], amoOf .max q), (Instr.reqMinu q, [4, 8], amoOf .minu q), (Instr.reqMaxu q, [4, 8], amoOf .maxu q), (Instr.reqXaAdd q, [16], .xaAdd (BitVec.ofNat 128 (operandOf q 0 16))), (Instr.reqFadd q, [4], .fadd (BitVec.ofNat 32 (operandOf q 0 4))), (Instr.reqFmax q, [4], .fmax (BitVec.ofNat 32 (operandOf q 0 4))), (Instr.reqFmin q, [4], .fmin (BitVec.ofNat 32 (operandOf q 0 4))), (Instr.reqCas q, [8, 16, 32], .cas (q.payload.length / 2) (BitVec.ofNat 128 (operandOf q 0 (q.payload.length / 2))) (BitVec.ofNat 128 (operandOf q (q.payload.length / 2) (q.payload.length / 2)))), (Instr.reqLeaseAcq q, [16], .leaseAcq (BitVec.ofNat 32 (operandOf q 0 4)) q.hdr.epoch (BitVec.ofNat 64 (operandOf q 8 8))), (Instr.reqLeaseRel q, [8], .leaseRel (BitVec.ofNat 32 (operandOf q 0 4)) q.hdr.epoch)]
          ∧ p = s.requestPlace q (homeWidth op) ∧ s.takes q p (homeWidth op) = true ∧ s.verdict (homeOf p) q.hdr = .perform ∧
          s.serves p (atomicOpc op) = true ∧ q.payload.length ∈ lens ∧ homeAllows op p = true ∧ q.addr.toNat % homeWidth op = 0 ∧
          s.memRead p (homeWidth op) = .data l) ∧
    (∃ (q : HomeRequest) (s : State) (c : Instr) (lens : List Nat) (op : HomeAtomic) (p : Place) (l : List Byte),
      (c, lens, op) ∈ [(Instr.reqSet q, [8], .set (BitVec.ofNat 64 (operandOf q 0 8))), (Instr.reqClr q, [8], .clr (BitVec.ofNat 64 (operandOf q 0 8))), (Instr.reqSignalAdd q, [8], .add (BitVec.ofNat 64 (operandOf q 0 8)))]
          ∧ p = s.requestPlace q (homeWidth op) ∧ s.takes q p (homeWidth op) = true ∧ s.verdict (homeOf p) q.hdr = .perform ∧
          s.serves p (atomicOpc op) = true ∧ q.payload.length ∈ lens ∧ homeAllows op p = true ∧ q.addr.toNat % homeWidth op = 0 ∧
          s.memRead p (homeWidth op) = .data l) ∧
    (∃ (q : HomeRequest) (s : State) (c : Instr) (opc n : Nat) (p : Place) (e : CacheEntry),
      (c, opc, n) ∈ [(Instr.reqWr q, 1, q.payload.length), (.reqAdd q, 9, homeWidth (amoOf .add q)), (.reqXaAdd q, 0x11, 16), (.reqLeaseAcq q, 0x16, 16), (.reqSet q, 0x18, 8)]
          ∧ p = s.requestPlace q n ∧ s.takes q p n = true ∧ s.verdict (homeOf p) q.hdr = .answer e) :=
  ⟨⟨pantryReq [], base, .pantry 0 0, [(1, false), (2, false), (3, false), (4, false), (5, false), (6, false), (7, false), (8, false)], by first | decide +kernel | rfl, by first | decide +kernel | rfl, by first | decide +kernel | rfl, by first | decide +kernel | rfl, by first | decide +kernel | rfl, by first | decide +kernel | rfl⟩,
    ⟨pantryReq [1, 2, 3, 4, 5, 6, 7, 8], base, .pantry 0 0, by first | decide +kernel | rfl, by first | decide +kernel | rfl, by first | decide +kernel | rfl, by first | decide +kernel | rfl, by first | decide +kernel | rfl, by first | decide +kernel | rfl, by first | decide +kernel | rfl⟩,
    ⟨pantryReq [3, 0, 0, 0], base, .reqAdd (pantryReq [3, 0, 0, 0]), [4, 8], .amo .add false 3, .pantry 0 0, [1, 2, 3, 4], by first | decide +kernel | rfl, by first | decide +kernel | rfl, by first | decide +kernel | rfl, by first | decide +kernel | rfl, by first | decide +kernel | rfl, by first | decide +kernel | rfl, by first | decide +kernel | rfl, by first | decide +kernel | rfl, by first | decide +kernel | rfl⟩,
    ⟨pantryReq [3, 0, 0, 0, 0, 0, 0, 0], base, .reqSet (pantryReq [3, 0, 0, 0, 0, 0, 0, 0]), [8], .set 3, .pantry 0 0, [1, 2, 3, 4, 5, 6, 7, 8], by first | decide +kernel | rfl, by first | decide +kernel | rfl, by first | decide +kernel | rfl, by first | decide +kernel | rfl, by first | decide +kernel | rfl, by first | decide +kernel | rfl, by first | decide +kernel | rfl, by first | decide +kernel | rfl, by first | decide +kernel | rfl⟩,
    ⟨pantryReq [3, 0, 0, 0], cachedState, .reqAdd (pantryReq [3, 0, 0, 0]), 9, 4, .pantry 0 0, ⟨5, 0, 0, 1, 0, 0, [9], 0⟩, by first | decide +kernel | rfl, by first | decide +kernel | rfl, by first | decide +kernel | rfl, by first | decide +kernel | rfl⟩⟩

/-- Every clause of MessagesAndNoticesComplete with hypotheses has an instance. -/
theorem witness_messages_and_notices_complete :
    (∃ (q : ReqHeader) (m : SpawnMsg) (s : State) (g : HartId),
      s.localThread m.target = some g ∧ s.localThread m.spawner = none ∧ (s.admitsPacket q = true ∧ (s.room
          g.room.val).stalled = false) ∧ s.dieServes (g.room.val / 32) 0x1B = true ∧ s.verdict g.room.val q = .perform ∧
          s.spawnStatus g m = 0) ∧
    (∃ (q : ReqHeader) (m : SpawnMsg) (s : State) (g p : HartId) (rd : Nat) (a : Req),
      s.localThread m.target = some g ∧ s.localThread m.spawner = some p ∧ s.spawnReq m = some a ∧ (a.kind = .spawn rd m ∧
          a.room = p.room.val ∧ a.hart = p.hart.val) ∧ (s.room g.room.val).stalled = false ∧ (s.hart p).halted = false ∧
          s.spawnStatus g m = 0 ∧ g ≠ p) ∧
    (∃ (q : ReqHeader) (child parent : W32) (status : Nat) (value : W64) (s : State) (p : HartId),
      s.localThread parent = some p ∧ s.localThread child = none ∧ (s.admitsPacket q = true ∧ (s.room p.room.val).stalled =
          false) ∧ s.dieServes (p.room.val / 32) 0x1C = true ∧ s.verdict p.room.val q = .perform ∧ (s.room
          p.room.val).children.any (fun c => c.parent == p.hart.val && c.thread == child && c.state == .running) = true ∧ (s.hart
          p).wait = .none) ∧
    (∃ (q : ReqHeader) (child parent : W32) (value : W64) (s : State) (p : HartId) (rd : Nat),
      s.localThread parent = some p ∧ (s.localThread child).isSome = true ∧ s.exitMsgs.contains ⟨child, parent, 0, value⟩ =
          true ∧ (s.room p.room.val).stalled = false ∧ (s.room p.room.val).children.any (fun c => c.parent == p.hart.val &&
          c.thread == child && c.state == .running) = true ∧ (s.hart p).wait = .join rd child ∧ (s.hart p).halted = false) ∧
    (∃ (q : ReqHeader) (subject : W32) (b : NoticeBody) (s : State),
      wholeDevice subject = false ∧ s.dieServes q.dstDie.val 0x1E = true ∧ s.admitsPacket q = true) ∧
    (∃ (q : ReqHeader) (subject : W32) (b : NoticeBody) (s : State) (c : Instr),
      c ∈ [Instr.noticeAbsent q ⟨subject, b⟩, .noticeReset q ⟨subject, b⟩] ∧ wholeDevice subject = false ∧ s.dieServes q.dstDie.val
          0x1E = true ∧ s.admitsPacket q = true) ∧
    (∃ (q : ReqHeader) (subject : W32) (b : NoticeBody) (s : State),
      wholeDevice subject = true ∧ s.dieServes q.dstDie.val 0x1E = true ∧ s.absentDevs.contains (tidDev subject) = false) ∧
    (∃ (q : ReqHeader) (subject : W32) (b : NoticeBody) (s : State),
      wholeDevice subject = true ∧ s.dieServes q.dstDie.val 0x1E = true ∧ s.absentDevs.contains (tidDev subject) = true) :=
  ⟨⟨far, farSpawn, base, ⟨0, 1⟩, by first | decide +kernel | rfl, by first | decide +kernel | rfl, by first | decide +kernel | rfl, by first | decide +kernel | rfl, by first | decide +kernel | rfl, by first | decide +kernel | rfl⟩,
    ⟨near, spawnMsg, spawningState, ⟨0, 1⟩, h0, 3, spawnReqOf, by first | decide +kernel | rfl, by first | decide +kernel | rfl, by first | decide +kernel | rfl, by first | decide +kernel | rfl, by first | decide +kernel | rfl, by first | decide +kernel | rfl, by first | decide +kernel | rfl, by first | decide +kernel | rfl⟩,
    ⟨far, 0x28000, 0, 0, 9, base.modRoom 0 (fun y => { y with children := [⟨0, 0x28000, .running⟩] }), h0, by first | decide +kernel | rfl, by first | decide +kernel | rfl, by first | decide +kernel | rfl, by first | decide +kernel | rfl, by first | decide +kernel | rfl, by first | decide +kernel | rfl, by first | decide +kernel | rfl⟩,
    ⟨near, 1, 0, 9, { (waiting (.join 4 1)).modRoom 0 (fun y => { y with children := [⟨0, 1, .running⟩] }) with exitMsgs := [⟨1, 0, 0, 9⟩] }, h0, 4, by first | decide +kernel | rfl, by first | decide +kernel | rfl, by first | decide +kernel | rfl, by first | decide +kernel | rfl, by first | decide +kernel | rfl, by first | decide +kernel | rfl, by first | decide +kernel | rfl⟩,
    ⟨near, 0, ⟨1, 2, 3⟩, reqState, by first | decide +kernel | rfl, by first | decide +kernel | rfl, by first | decide +kernel | rfl⟩,
    ⟨near, 0, ⟨1, 2, 3⟩, reqState, .noticeAbsent near ⟨0, 1, 2, 3⟩, by first | decide +kernel | rfl, by first | decide +kernel | rfl, by first | decide +kernel | rfl, by first | decide +kernel | rfl⟩,
    ⟨near, 0x2FC00, ⟨1, 2, 3⟩, base, by first | decide +kernel | rfl, by first | decide +kernel | rfl, by first | decide +kernel | rfl⟩,
    ⟨near, 0x2FC00, ⟨1, 2, 3⟩, { base with absentDevs := [5] }, by first | decide +kernel | rfl, by first | decide +kernel | rfl, by first | decide +kernel | rfl⟩⟩

/-- Every clause of CollectivesComplete with hypotheses has an instance. -/
theorem witness_collectives_complete :
    (∃ (q : ReqHeader) (c : CollPacket) (s : State) (i : CollInst) (n : Nat),
      c.ended = none ∧ s.inst c.id c.m0 = some i ∧ (c.level.val ≤ i.root ∧ c.first.val % 2 ^ c.level.val = 0 ∧ c.first.val <
          i.count) ∧ (i.devOf c.first.val = q.srcDev.toNat ∧ q.srcDev ≠ s.devId) ∧ (s.admitsPacket q = true ∧ s.dieServes
          q.dstDie.val 0x1D = true) ∧ i.arriving c.level.val c.first.val c.chunk.val = some n ∧ (c.op.val = i.sig.op ∧
          i.dimDiffers (payloadBytes c.payload c.pmap) = false)) ∧
    (∃ (x : WingIx) (id m0 : W32) (level : Fin 32) (first : Fin 1048576) (ue : Bool) (s : State) (i : CollInst) (n : Nat) (a b : List PByte × Nat),
      s.inst id m0 = some i ∧ (i.sig.inTree = true ∧ i.hasRight level.val first.val = true ∧ first.val % 2 ^ level.val = 0) ∧
          i.nodeLocal s.devId.toNat level.val first.val = true ∧ tidWing (i.members.getD first.val 0) = x.val ∧ i.nextChunk
          level.val first.val = some n ∧ i.nodeData (level.val - 1) first.val n = some a ∧ i.nodeData (level.val - 1) (first.val +
          2 ^ (level.val - 1)) n = some b ∧ (s.chunkCredit i level.val first.val n = true ∧ i.chunkSent level.val first.val n =
          true)) ∧
    (∃ (r : RoomIx) (slot : Fin 16) (s : State) (c : Instr) (op : Nat) (e : CollEntry) (i : CollInst) (d : Delivery) (u : State),
      (c, op) ∈ [(Instr.collAllReduce r slot, 1), (.collReduceScatter r slot, 2), (.collAllGather r slot, 3), (.collAllToAll r slot, 4), (.collBroadcast r slot, 5), (.collBarrier r slot, 6), (.collLseMerge r slot, 7), (.collTopkMerge r slot, 8)]
          ∧ (s.coll r.val).find? (fun x => x.slot == slot.val) = some e ∧ s.inst (collId e.words) e.m0 = some i ∧ s.delivery i e =
          some d ∧ s.deliverOpen r.val e d.ranges = true ∧ collOp e.words = op ∧ s.deliver r.val e (s.collSettle i e d).ranges =
          some u) ∧
    (∃ (r : RoomIx) (slot : Fin 16) (s : State) (e : CollEntry) (i : CollInst),
      (s.coll r.val).find? (fun x => x.slot == slot.val) = some e ∧ s.inst (collId e.words) e.m0 = some i) ∧
    (∃ (id m0 : W32) (s : State) (x : KeptEnd),
      s.keptEnds.find? (fun k => k.id == id && k.m0 == m0) = some x) :=
  ⟨⟨far, chunkMsg, chunkState, { id := 7, m0 := 0x28000, sig := barrierSig, members := [0x28000, 0] }, 0, by first | decide +kernel | rfl, by first | decide +kernel | rfl, by first | decide +kernel | rfl, by first | decide +kernel | rfl, by first | decide +kernel | rfl, by first | decide +kernel | rfl, by first | decide +kernel | rfl⟩,
    ⟨0, 7, 0, 1, 0, false, combineState, combineInst, 0, ([], 0), ([], 0), by first | decide +kernel | rfl, by first | decide +kernel | rfl, by first | decide +kernel | rfl, by first | decide +kernel | rfl, by first | decide +kernel | rfl, by first | decide +kernel | rfl, by first | decide +kernel | rfl, by first | decide +kernel | rfl⟩,
    ⟨0, 0, doneState 6, .collBarrier 0 0, 6, doneEntry 6, doneInst 6, ⟨[], 0, none⟩, doneState 6, by first | decide +kernel | rfl, by first | decide +kernel | rfl, by first | decide +kernel | rfl, by first | decide +kernel | rfl, by first | decide +kernel | rfl, by first | decide +kernel | rfl, by first | decide +kernel | rfl⟩,
    ⟨0, 0, doneState 6, doneEntry 6, doneInst 6, by first | decide +kernel | rfl, by first | decide +kernel | rfl⟩,
    ⟨7, 0, { base with keptEnds := [⟨7, 0, 0, 0, 50⟩] }, ⟨7, 0, 0, 0, 50⟩, by first | decide +kernel | rfl⟩⟩

/-- Every clause of PowerEventsComplete with hypotheses has an instance. -/
theorem witness_power_events_complete :
    (∃ (i : Island) (s : State),
      s.power.alarms.contains i = false) ∧
    (∃ (i : Island) (s : State),
      s.power.alarms.contains i = true) ∧
    (∃ (r : RoomIx) (s : State),
      s.power.alarms.contains (.floor r) = true) ∧
    (∃ (s : State),
      8 ≤ (s.power.alarmTimes.filter fun x => decide (s.now < x + 100000)).length ∧ s.power.vin < 1580 ∧ s.power.avsFail =
          false) ∧
    (∃ (s : State),
      s.power.alarms = [] ∧ 1500 < s.power.vin ∧ s.power.avsFail = false) ∧
    (∃ (mv amps : Nat) (s : State),
      s.power.avsFail = false ∧ 3 ≤ s.boot.phase) ∧
    (∃ (mv amps : Nat) (s : State),
      s.power.avsFail = false ∧ 3 ≤ s.boot.phase ∧ s.power.avsFails = 2) ∧
    (∃ (s : State),
      s.power.avsFail = true) ∧
    (∃ (x : RefInput) (s : State),
      s.refUsed x = true ∧ s.power.refLost.contains x = false) ∧
    (∃ (x : RefInput) (s : State),
      s.power.refLost.contains x = true) :=
  ⟨⟨.floor 0, base, by first | decide +kernel | rfl⟩,
    ⟨.floor 0, base.modPower (fun p => { p with alarms := [.floor 0] }), by first | decide +kernel | rfl⟩,
    ⟨0, base.modPower (fun p => { p with alarms := [.floor 0] }), by first | decide +kernel | rfl⟩,
    ⟨base.modPower (fun p => { p with alarmTimes := [0, 0, 0, 0, 0, 0, 0, 0] }), by first | decide +kernel | rfl, by first | decide +kernel | rfl, by first | decide +kernel | rfl⟩,
    ⟨base.modPower (fun p => { p with vinSet := 1540 }), by first | decide +kernel | rfl, by first | decide +kernel | rfl, by first | decide +kernel | rfl⟩,
    ⟨1490, 12, base.modBoot (fun b => { b with phase := 6 }), by first | decide +kernel | rfl, by first | decide +kernel | rfl⟩,
    ⟨1490, 12, (base.modBoot (fun b => { b with phase := 6 })).modPower (fun p => { p with avsFails := 2 }), by first | decide +kernel | rfl, by first | decide +kernel | rfl, by first | decide +kernel | rfl⟩,
    ⟨base.modPower (fun p => { p with avsFail := true }), by first | decide +kernel | rfl⟩,
    ⟨.pcieA, base, by first | decide +kernel | rfl, by first | decide +kernel | rfl⟩,
    ⟨.pcieA, base.modPower (fun p => { p with refLost := [.pcieA] }), by first | decide +kernel | rfl⟩⟩

/-- Every clause of GrantsAndCapComplete with hypotheses has an instance. -/
theorem witness_grants_and_cap_complete :
    (∃ (kind : GrantKind) (r : RoomIx) (s : State),
      (s.wing (r.val / 32)).state ≠ 2 ∧ s.asked kind r.val = false) ∧
    (∃ (x : WingIx) (fall : Bool) (s : State) (g : GrantReq) (q : List GrantReq),
      (s.account x.val fall).queue = g :: q ∧ s.wingAlarmed x.val = false ∧ g.kind ≠ .clockRaise) ∧
    (∃ (x : WingIx) (fall : Bool) (s : State) (g : GrantReq) (q : List GrantReq),
      (s.account x.val fall).queue = g :: q ∧ s.wingAlarmed x.val = false ∧ g.kind = .clockRaise) ∧
    (∃ (s : State) (y : Nat) (fall : Bool),
      (tget (2 * y + b2n fall) s.power.accounts).isSome = true) ∧
    (∃ (who : Accessor) (value : W64) (s : State),
      regWriter s 888 who = true) ∧
    (∃ (watts : Nat) (s : State),
      s.therm.stop = 0 ∧ s.effectiveCap < watts) :=
  ⟨⟨.wake, 0, base, by first | decide +kernel | rfl, by first | decide +kernel | rfl⟩,
    ⟨0, false, base.ask .wake 0, ⟨.wake, 0, false, 910, 0⟩, [], by first | decide +kernel | rfl, by first | decide +kernel | rfl, by first | decide +kernel | rfl⟩,
    ⟨0, false, base.ask .clockRaise 0, ⟨.clockRaise, 0, false, 20, 0⟩, [], by first | decide +kernel | rfl, by first | decide +kernel | rfl, by first | decide +kernel | rfl⟩,
    ⟨base.ask .wake 0, 0, false, by first | decide +kernel | rfl⟩,
    ⟨.processor, 300, base, by first | decide +kernel | rfl⟩,
    ⟨100000, base, by first | decide +kernel | rfl, by first | decide +kernel | rfl⟩⟩

/-- Every clause of SensorsAndBandsComplete with hypotheses has an instance. -/
theorem witness_sensors_and_bands_complete :
    (∃ (r : RoomIx) (x y z : Int) (s : State) (c : Instr),
      c ∈ [Instr.atticTempSample r x y z, .sensorSample (.attic r) [x, y, z]]) ∧
    (∃ (p : SensorPlace) (k : Nat) (l : List Int) (s : State),
      (p, k, l.length) ∈ (List.finRange 24).map (fun w => (SensorPlace.wing w, w.val, 4)) ++ (List.finRange 8).map (fun q =>
          (SensorPlace.porch q, 96 + q.val, 2)) ++ (List.finRange 2).map (fun d => (SensorPlace.door d, 104 + d.val, 2))) ∧
    (∃ (x : SensorId) (s : State),
      x.index.val < sensorCount x.place) ∧
    (∃ (r : RoomIx) (s : State),
      s.throttled r.val = true) ∧
    (∃ (r : RoomIx) (s : State),
      s.throttled r.val = false ∧ (s.rpow r.val).therm ≠ 0) ∧
    (∃ (r : RoomIx) (s : State),
      (s.attic r.val).band = 3 ∧ (s.room r.val).cond.state ≤ 1 ∧ s.restarting 3 (r.val / 32) = false) ∧
    (∃ (r : RoomIx) (s : State) (n : Nat),
      (s.rtherm r.val).coolSince = some n ∧ (s.room r.val).cond.state = 6 ∧ (s.rtherm r.val).readmissible = false) ∧
    (∃ (r : RoomIx) (s : State),
      440 ≤ (s.attic r.val).temp ∧ (s.attic r.val).hotLoss = false) ∧
    (∃ (p : SensorPlace) (s : State),
      480 ≤ (s.placeMax p).1 ∧ s.boot.hold ≠ .power ∧ s.boot.hold ≠ .trip) ∧
    (∃ (s : State),
      s.boot.hold = .trip ∧ s.allCool = true ∧ s.test.resetN = true ∧ s.test.pwrGood = true) :=
  ⟨⟨0, 400, 380, 300, base, .sensorSample (.attic 0) [400, 380, 300], by first | decide +kernel | rfl⟩,
    ⟨.porch 1, 97, [500, 420], base, by first | decide +kernel | rfl⟩,
    ⟨⟨.attic 0, 2⟩, base, by first | decide +kernel | rfl⟩,
    ⟨0, base.modAttic 0 (fun a => { a with band := 3 }), by first | decide +kernel | rfl⟩,
    ⟨0, base.modRpow 0 (fun p => { p with therm := 600 }), by first | decide +kernel | rfl, by first | decide +kernel | rfl⟩,
    ⟨0, base.modAttic 0 (fun a => { a with band := 3 }), by first | decide +kernel | rfl, by first | decide +kernel | rfl, by first | decide +kernel | rfl⟩,
    ⟨0, (base.modRoom 0 (fun y => { y with cond := { y.cond with state := 6 } })).modRtherm 0 (fun x => { x with coolSince := some 4 }), 4, by first | decide +kernel | rfl, by first | decide +kernel | rfl, by first | decide +kernel | rfl⟩,
    ⟨0, base.modAttic 0 (fun a => { a with temps := (440, 0, 0), phase := .running }), by first | decide +kernel | rfl, by first | decide +kernel | rfl⟩,
    ⟨.attic 0, base.modAttic 0 (fun a => { a with temps := (490, 0, 0) }), by first | decide +kernel | rfl, by first | decide +kernel | rfl, by first | decide +kernel | rfl⟩,
    ⟨{ base.modBoot (fun b => { b with hold := .trip }) with test := { base.test with thermTripN := false, resetN := true, pwrGood := true } }, by first | decide +kernel | rfl, by first | decide +kernel | rfl, by first | decide +kernel | rfl, by first | decide +kernel | rfl⟩⟩

/-- Every clause of OrderlyStopsComplete with hypotheses has an instance. -/
theorem witness_orderly_stops_complete :
    (∃ (r : RoomIx) (s : State) (k : Nat),
      s.stopCause r.val = some k ∧ (s.room r.val).cond.state ≤ 2 ∧ (s.room r.val).phase = .inService) ∧
    (∃ (r : RoomIx) (s : State),
      (s.room r.val).phase = .stopGrace) ∧
    (∃ (r : RoomIx) (s : State),
      (s.room r.val).phase = .stopClocks ∧ s.restarting 3 (r.val / 32) = false) ∧
    (∃ (r : RoomIx) (s : State),
      (s.room r.val).phase = .stopNotice) ∧
    (∃ (s : State),
      s.causePresent .flow = false ∧ s.therm.stop ≤ 3) ∧
    (∃ (s : State),
      s.causePresent .pwrWarn = false ∧ s.therm.stop ≤ 3) ∧
    (∃ (s : State),
      s.therm.stop = 2) ∧
    (∃ (s : State) (c : StopCause × Nat),
      s.firstCause = some c ∧ s.therm.stop = 3) ∧
    (∃ (flow : Bool) (s : State),
      s.causePresent (if flow then StopCause.flow else .pwrWarn) = true ∧ (2 ≤ s.therm.stop ∧ s.therm.stop ≤ 3) ∧
          s.therm.causes.filter (fun x => x.1 != (if flow then StopCause.flow else .pwrWarn)) = [] ∧ s.therm.heldReset = none ∧
          s.clearsInTime flow = true) :=
  ⟨⟨0, base.modAttic 0 (fun a => { a with band := 4 }), 0x20, by first | decide +kernel | rfl, by first | decide +kernel | rfl, by first | decide +kernel | rfl⟩,
    ⟨0, base.modRoom 0 (fun y => { y with phase := .stopGrace }), by first | decide +kernel | rfl⟩,
    ⟨0, base.modRoom 0 (fun y => { y with phase := .stopClocks }), by first | decide +kernel | rfl, by first | decide +kernel | rfl⟩,
    ⟨0, base.modRoom 0 (fun y => { y with phase := .stopNotice }), by first | decide +kernel | rfl⟩,
    ⟨base, by first | decide +kernel | rfl, by first | decide +kernel | rfl⟩,
    ⟨base, by first | decide +kernel | rfl, by first | decide +kernel | rfl⟩,
    ⟨base.modTherm (fun x => { x with stop := 2 }), by first | decide +kernel | rfl⟩,
    ⟨base.modTherm (fun x => { x with stop := 3, causes := [(.pwrWarn, 7)] }), (.pwrWarn, 7), by first | decide +kernel | rfl, by first | decide +kernel | rfl⟩,
    ⟨false, base.modTherm (fun x => { x with stop := 3, causes := [(.pwrWarn, 7)] }), by first | decide +kernel | rfl, by first | decide +kernel | rfl, by first | decide +kernel | rfl, by first | decide +kernel | rfl, by first | decide +kernel | rfl⟩⟩

/-- Every clause of ThermalCapsComplete with hypotheses has an instance. -/
theorem witness_thermal_caps_complete :
    (∃ (s : State),
      s.therm.slopeHolds = true) ∧
    (∃ (s : State) (n : Nat),
      s.therm.slopeHolds = false ∧ s.therm.slopeLow = some n ∧ s.therm.slopeSteps ≠ 0) ∧
    (∃ (who : Accessor) (value : W64) (s : State),
      regWriter s 888 who = true) ∧
    (∃ (s : State) (a b n : Nat),
      s.therm.report = some (a, b, n)) ∧
    (∃ (who : Accessor) (value : W64) (s : State),
      regWriter s 888 who = true) ∧
    (∃ (r : RoomIx) (s : State),
      s.mayWarm r.val = true ∧ s.keepWarmFloor ≠ 0 ∧ (s.attic r.val).temp < s.keepWarmFloor * 4 ∧ (s.array r.val).power =
          .idle ∧ (s.array r.val).queue = [] ∧ s.granted .warmStart r.val = true) ∧
    (∃ (r : RoomIx) (s : State),
      s.warming r.val = true ∧ ((s.keepWarmFloor + 5) * 4 ≤ (s.attic r.val).temp ∨ s.mayWarm r.val = false) ∧ s.granted
          .warmStop r.val = true) :=
  ⟨⟨base.modTherm (fun x => { x with slopeHolds := true }), by first | decide +kernel | rfl⟩,
    ⟨base.modTherm (fun x => { x with slopeLow := some 5, slopeSteps := 2 }), 5, by first | decide +kernel | rfl, by first | decide +kernel | rfl, by first | decide +kernel | rfl⟩,
    ⟨.processor, 0x320028, base, by first | decide +kernel | rfl⟩,
    ⟨base.modTherm (fun x => { x with report := some (50, 40, 3) }), 50, 40, 3, by first | decide +kernel | rfl⟩,
    ⟨.processor, 0x280020, base, by first | decide +kernel | rfl⟩,
    ⟨0, base.modPower (fun p => { p with issued := [⟨.warmStart, 0, false, 910, 0⟩] }), by first | decide +kernel | rfl, by first | decide +kernel | rfl, by first | decide +kernel | rfl, by first | decide +kernel | rfl, by first | decide +kernel | rfl, by first | decide +kernel | rfl⟩,
    ⟨0, warmState, by first | decide +kernel | rfl, by first | decide +kernel | rfl, by first | decide +kernel | rfl⟩⟩

/-- Every clause of DeviceResetsComplete with hypotheses has an instance. -/
theorem witness_device_resets_complete :
    (∃ (s : State) (c : Instr) (hold : HoldKind),
      (c, hold) ∈ [(Instr.powerOn, HoldKind.pins), (.powerLoss, .power)] ∧ (c = .powerOn → s.boot.hold = .power ∨ s.boot.hold
          = .pins)) ∧
    (∃ (s : State) (c : Instr) (cause : Nat),
      (c, cause) ∈ [(Instr.pwrGoodLow, 1), (.resetNLow, 2)] ∧ s.boot.hold ≠ .power ∧ s.boot.hold ≠ .trip) ∧
    (∃ (s : State),
      4 ≤ s.boot.phase ∧ s.test.halted.contains (24608 + 2 * s.boot.activeDoor) = false ∧ s.boot.state = 0 ∧ s.therm.stop = 0) ∧
    (∃ (who : Accessor) (key : W16) (s : State),
      regWriter s 888 who = true ∧ key = 0x5A17 ∧ s.therm.stop = 0) ∧
    (∃ (who : Accessor) (key : W16) (s : State),
      regWriter s 888 who = true ∧ key = 0x5A17 ∧ s.therm.stop ≠ 0) ∧
    (∃ (who : Accessor) (key : W16) (s : State),
      regWriter s 888 who = true ∧ key = 0x5A17) ∧
    (∃ (who : Accessor) (key : W16) (s : State),
      regWriter s 888 who = true ∧ key = 0x5A17 ∧ s.therm.stop = 0) ∧
    (∃ (straps : BitVec 6) (s : State),
      s.boot.hold = .pins) ∧
    (∃ (s : State),
      s.boot.hold = .commit) :=
  ⟨⟨base, .powerOn, .pins, by first | decide +kernel | rfl, by first | decide +kernel | rfl⟩,
    ⟨base, .resetNLow, 2, by first | decide +kernel | rfl, by first | decide +kernel | rfl, by first | decide +kernel | rfl⟩,
    ⟨starting 5, by first | decide +kernel | rfl, by first | decide +kernel | rfl, by first | decide +kernel | rfl, by first | decide +kernel | rfl⟩,
    ⟨.processor, 0x5A17, base, by first | decide +kernel | rfl, by first | decide +kernel | rfl, by first | decide +kernel | rfl⟩,
    ⟨.processor, 0x5A17, base.modTherm (fun x => { x with stop := 2 }), by first | decide +kernel | rfl, by first | decide +kernel | rfl, by first | decide +kernel | rfl⟩,
    ⟨.processor, 0x5A17, base, by first | decide +kernel | rfl, by first | decide +kernel | rfl⟩,
    ⟨.processor, 0x5A17, base, by first | decide +kernel | rfl, by first | decide +kernel | rfl, by first | decide +kernel | rfl⟩,
    ⟨0x15, base, by first | decide +kernel | rfl⟩,
    ⟨base.modBoot (fun b => { b with hold := .commit }), by first | decide +kernel | rfl⟩⟩

/-- Every clause of BlockResetsComplete with hypotheses has an instance. -/
theorem witness_block_resets_complete :
    (∃ (x : WingIx) (s : State),
      s.unpowered = false ∧ s.blockReset (768 + x.val) = none) ∧
    (∃ (p : PorchIx) (s : State),
      s.unpowered = false ∧ s.blockReset (792 + p.val) = none) ∧
    (∃ (b : Block) (s : State) (x : BlockReset),
      s.blockReset (blockKey b) = some x ∧ x.phase = .request ∧ (blockKey b < 768 → s.restarting 3 (blockKey b / 32) = false)) ∧
    (∃ (b : Block) (s : State) (x : BlockReset),
      s.blockReset (blockKey b) = some x ∧ x.phase = .settle ∧ s.settled (blockKey b) = true) ∧
    (∃ (r : RoomIx) (s : State) (x : BlockReset),
      s.blockReset r.val = some x ∧ x.phase = .settle ∧ s.settled r.val = true) ∧
    (∃ (b : Block) (s : State) (x : BlockReset),
      s.blockReset (blockKey b) = some x ∧ x.phase = .settle) ∧
    (∃ (b : Block) (s : State) (x : BlockReset),
      s.blockReset (blockKey b) = some x ∧ x.phase = .inReset) ∧
    (∃ (r : RoomIx) (s : State) (x : BlockReset),
      s.blockReset r.val = some x ∧ x.phase = .inReset ∧ x.goal = .plain) ∧
    (∃ (r : RoomIx) (failed banks : List Nat) (s : State),
      (s.room r.val).phase = .resetTrain ∧ s.granted .roomStart r.val = true ∧ failed.all (fun x => decide (x < 2304)) = true
          ∧ (s.trainRoom r.val failed banks).trainedState r.val ≤ 1) :=
  ⟨⟨2, base, by first | decide +kernel | rfl, by first | decide +kernel | rfl⟩,
    ⟨2, base, by first | decide +kernel | rfl, by first | decide +kernel | rfl⟩,
    ⟨.room 0, base.setBlock 0 {}, {}, by first | decide +kernel | rfl, by first | decide +kernel | rfl, by first | decide +kernel | rfl⟩,
    ⟨.room 0, base.setBlock 0 { phase := .settle }, { phase := .settle }, by first | decide +kernel | rfl, by first | decide +kernel | rfl, by first | decide +kernel | rfl⟩,
    ⟨0, base.setBlock 0 { phase := .settle }, { phase := .settle }, by first | decide +kernel | rfl, by first | decide +kernel | rfl, by first | decide +kernel | rfl⟩,
    ⟨.room 0, base.setBlock 0 { phase := .settle }, { phase := .settle }, by first | decide +kernel | rfl, by first | decide +kernel | rfl⟩,
    ⟨.room 0, base.setBlock 0 { phase := .inReset }, { phase := .inReset }, by first | decide +kernel | rfl, by first | decide +kernel | rfl⟩,
    ⟨0, base.setBlock 0 { phase := .inReset }, { phase := .inReset }, by first | decide +kernel | rfl, by first | decide +kernel | rfl, by first | decide +kernel | rfl⟩,
    ⟨0, [40], [3], { phaseState .resetTrain with power := { issued := [⟨.roomStart, 0, false, 390, 0⟩] } }, by first | decide +kernel | rfl, by first | decide +kernel | rfl, by first | decide +kernel | rfl, by first | decide +kernel | rfl⟩⟩

/-- Every clause of StartPhasesOneToFive with hypotheses has an instance. -/
theorem witness_start_phases_one_to_five :
    (∃ (s : State),
      s.inPhase 1 = true ∧ (List.range 106).all (fun d => (s.die d).fuses != .unread) = true) ∧
    (∃ (s : State) (a m src : List Byte),
      s.boot.phase = 2 ∧ s.boot.option = [] ∧ (a = s.flashBytes s.optFlash 0 256 ∧ m = s.flashBytes s.optFlash 0x10000 256) ∧
          src = (if optGood a then a else if optGood m then m else s.optDefault)) ∧
    (∃ (s : State),
      s.inPhase 2 = true ∧ s.boot.option ≠ []) ∧
    (∃ (s : State),
      s.inPhase 3 = true) ∧
    (∃ (s : State),
      s.inPhase 3 = true ∧ s.aon.failReason = 0 ∧ s.aon.failCount < 3 ∧ (s.closeAttempt 0x1F 0 0).countedStarts.length < 3) ∧
    (∃ (neighbour : Bool) (s : State),
      s.inPhase 4 = true ∧ (s.bootSrc ≠ 1 ∨ s.boot.hostGo = true)) ∧
    (∃ (s : State),
      s.inPhase 4 = true ∧ s.bootSrc = 1 ∧ s.boot.hostGo = false) ∧
    (∃ (r : RoomIx) (failed banks : List Nat) (s : State),
      s.inPhase 5 = true ∧ (s.room r.val).phase = .inReset ∧ (s.room r.val).cond.state ≠ 3 ∧ failed.all (fun x => decide (x <
          2304)) = true) ∧
    (∃ (r : RoomIx) (s : State),
      (s.attic r.val).phase = .recalPublish) :=
  ⟨⟨{ starting 1 with dies := (List.range 106).map fun d => (d, { fuses := .good }) }, by first | decide +kernel | rfl, by first | decide +kernel | rfl⟩,
    ⟨starting 2, List.replicate 256 0xFF, List.replicate 256 0xFF, base.optDefault, by first | decide +kernel | rfl, by first | decide +kernel | rfl, by first | decide +kernel | rfl, by first | decide +kernel | rfl⟩,
    ⟨(starting 2).modBoot (fun b => { b with option := [1] }), by first | decide +kernel | rfl, by first | decide +kernel | rfl⟩,
    ⟨starting 3, by first | decide +kernel | rfl⟩,
    ⟨starting 3, by first | decide +kernel | rfl, by first | decide +kernel | rfl, by first | decide +kernel | rfl, by first | decide +kernel | rfl⟩,
    ⟨false, (starting 4).modBoot (fun b => { b with straps := 0, strapsValid := true }), by first | decide +kernel | rfl, by first | decide +kernel | rfl⟩,
    ⟨(starting 4).modBoot (fun b => { b with straps := 1, strapsValid := true }), by first | decide +kernel | rfl, by first | decide +kernel | rfl, by first | decide +kernel | rfl⟩,
    ⟨0, [40], [3], (starting 5).modRoom 0 (fun y => { y with phase := .inReset }), by first | decide +kernel | rfl, by first | decide +kernel | rfl, by first | decide +kernel | rfl, by first | decide +kernel | rfl⟩,
    ⟨0, base.modAttic 0 (fun a => { a with phase := .recalPublish }), by first | decide +kernel | rfl⟩⟩

/-- Every clause of StartPhasesFiveToEight with hypotheses has an instance. -/
theorem witness_start_phases_five_to_eight :
    (∃ (s : State),
      s.inPhase 5 = true ∧ s.modulesDone = true ∧ s.stairsDone = true ∧ s.wingsUp ≠ 0) ∧
    (∃ (kind : Fin 6) (failed : List Nat) (s : State),
      s.inPhase 6 = true ∧ 3 ≤ kind.val ∧ s.boot.broadcast.contains kind.val = false) ∧
    (∃ (r : RoomIx) (value : W64) (s : State),
      (s.room r.val).phase = .startBoot ∧ (s.room r.val).bootReport = none ∧ (s.room r.val).cond.state ≤ 2 ∧ value.toNat % 256
          = 0) ∧
    (∃ (r : RoomIx) (s : State),
      (s.room r.val).phase = .startBoot ∧ (s.room r.val).bootReport = none ∧ tget 4 s.live.trials = none) ∧
    (∃ (s : State),
      s.inPhase 6 = true ∧ s.boot.broadcast = [3, 4, 5] ∧ s.rooms.all (fun p => p.2.phase != .startBoot) = true) ∧
    (∃ (s : State),
      s.inPhase 7 = true ∧ s.linksDone = true) ∧
    (∃ (s : State),
      s.inPhase 8 = true) ∧
    (∃ (s : State),
      s.boot.phase ≠ 0 ∧ s.inPhase s.boot.phase = true) ∧
    (∃ (s : State) (reason : Nat),
      s.boot.failing = some reason) :=
  ⟨⟨starting 5, by first | decide +kernel | rfl, by first | decide +kernel | rfl, by first | decide +kernel | rfl, by first | decide +kernel | rfl⟩,
    ⟨3, [], starting 6, by first | decide +kernel | rfl, by first | decide +kernel | rfl, by first | decide +kernel | rfl⟩,
    ⟨0, 0x100, base.modRoom 0 (fun y => { y with phase := .startBoot }), by first | decide +kernel | rfl, by first | decide +kernel | rfl, by first | decide +kernel | rfl, by first | decide +kernel | rfl⟩,
    ⟨0, base.modRoom 0 (fun y => { y with phase := .startBoot }), by first | decide +kernel | rfl, by first | decide +kernel | rfl, by first | decide +kernel | rfl⟩,
    ⟨(starting 6).modBoot (fun b => { b with broadcast := [3, 4, 5] }), by first | decide +kernel | rfl, by first | decide +kernel | rfl, by first | decide +kernel | rfl⟩,
    ⟨{ starting 7 with links := (List.range 48).map fun l => (l, { cause := 9 }) }, by first | decide +kernel | rfl, by first | decide +kernel | rfl⟩,
    ⟨starting 8, by first | decide +kernel | rfl⟩,
    ⟨starting 5, by first | decide +kernel | rfl, by first | decide +kernel | rfl⟩,
    ⟨(starting 3).modBoot (fun b => { b with failing := some 3 }), 3, by first | decide +kernel | rfl⟩⟩

/-- Every clause of HallAndLandingsComplete with hypotheses has an instance. -/
theorem witness_hall_and_landings_complete :
    (∃ (x : WingIx) (header : W128) (body : List Byte) (n : Nat) (p : HallPacket) (s : State),
      (body.length + 16 = azBytes header ∧ azOpc header ≠ 0x1F ∧ azSrcDie header = x.val) ∧ p = s.injected x.val (dieEntry
          (azDstDie header)) s.devId.toNat header body ∧ s.routePort x.val p.bank p.dst = some n ∧ (s.regq (portQ x.val n)).admits
          (((s.hall x.val).port n).map (·.cls)) p.cls = true) ∧
    (∃ (x : WingIx) (header : W128) (body : List Byte) (p : HallPacket) (s : State),
      (body.length + 16 = azBytes header ∧ azOpc header ≠ 0x1F ∧ azSrcDie header = x.val) ∧ p = s.injected x.val (dieEntry
          (azDstDie header)) s.devId.toNat header body ∧ s.routePort x.val p.bank p.dst = none) ∧
    (∃ (x : WingIx) (s : State) (i : Nat),
      (s.regq (portQ x.val 4)).pick (headsReady (((s.hall x.val).port 4).map fun p => (p.cls, p.vc, (s.hallLeave x.val 4
          p).isSome))) = some i ∧ i < ((s.hall x.val).port 4).length) ∧
    (∃ (who : Accessor) (x : WingIx) (s : State),
      hallWriter s who = true) ∧
    (∃ (who : Accessor) (x : WingIx) (bank : Fin 2) (entry : Fin 40) (value : W64) (s : State),
      hallWriter s who = true ∧ bank.val ≠ (s.hall x.val).active) ∧
    (∃ (who : Accessor) (x : WingIx) (bank : Fin 2) (entry : Fin 40) (value : W64) (s : State),
      bank.val = (s.hall x.val).active) ∧
    (∃ (x : WingIx) (port : Fin 4) (s : State) (v : Nat),
      neighbour x.val port.val = some v ∧ (s.hall x.val).portUp.contains port.val = true ∧ s.working x.val port.val = []) ∧
    (∃ (s : State),
      s.halls.any (fun h => h.2.draining) = false) ∧
    (∃ (island : Fin 792) (tag : Fin 4096) (s : State) (q : Req),
      s.findReq island.val tag.val = some q ∧ (island.val < 768 ∧ s.reqDevice q = s.devId.toNat) ∧ q.reissued = false) ∧
    (∃ (x : WingIx) (island : Fin 792) (tag : Fin 4096) (s : State) (y : Combined),
      island.val = 768 + x.val ∧ (s.hall x.val).atomics = [y] ∧ (y.tag = some tag.val ∧ y.acked = none ∧ y.reissued = false ∧
          fld y.addr 51 38 = s.devId.toNat)) ∧
    (∃ (x : WingIx) (q : HomeRequest) (s : State),
      (q.noret = true ∧ q.payload.length = 16) ∧ s.admitsPacket q.hdr = true ∧ (s.hall x.val).atomics.any (fun y => y.isFor
          q.addr.toNat q.cls.val) = false ∧ (bitOf (s.regN .hallLandingCfg x.val) 8 = true ∧ fld (s.regN .hallLandingCfg x.val) 7
          0 ≠ 0 ∧ (s.die x.val).combine = true) ∧ ((s.hall x.val).atomics.filter (fun y => y.acked.isNone)).length < 64) ∧
    (∃ (x : WingIx) (q : HomeRequest) (s : State) (y : Combined),
      (q.noret = true ∧ q.payload.length = 16) ∧ s.admitsPacket q.hdr = true ∧ (s.hall x.val).atomics = [y] ∧ (y.isFor
          q.addr.toNat q.cls.val = true ∧ y.tag = none ∧ y.acked = none) ∧ y.from_.any (sameRequest q.hdr) = false ∧ (bitOf
          (s.regN .hallLandingCfg x.val) 8 = true ∧ fld (s.regN .hallLandingCfg x.val) 7 0 ≠ 0 ∧ (s.die x.val).combine = true)) ∧
    (∃ (x : WingIx) (addr : BitVec 55) (cls : Fin 8) (s : State) (y : Combined) (g : Nat),
      (s.hall x.val).atomics.find? (fun z => z.isFor addr.toNat cls.val && z.tag.isNone) = some y ∧ s.freeTag (768 + x.val)
          4096 0 = some g) :=
  ⟨⟨0, hallHeader, [], 4, hallState.injected 0 0 0 hallHeader [], hallState, by first | decide +kernel | rfl, by first | decide +kernel | rfl, by first | decide +kernel | rfl, by first | decide +kernel | rfl⟩,
    ⟨0, hallHeader, [], base.injected 0 0 0 hallHeader [], base, by first | decide +kernel | rfl, by first | decide +kernel | rfl, by first | decide +kernel | rfl⟩,
    ⟨0, base.modHall 0 (fun h => h.setPort 4 [⟨0, 0, hallHeader, [], 0⟩]), 0, by first | decide +kernel | rfl, by first | decide +kernel | rfl⟩,
    ⟨.processor, 3, base, by first | decide +kernel | rfl⟩,
    ⟨.processor, 3, 1, 5, 0xFFFF8402, base, by first | decide +kernel | rfl, by first | decide +kernel | rfl⟩,
    ⟨.processor, 3, 0, 5, 0xFFFF8402, base, by first | decide +kernel | rfl⟩,
    ⟨0, 1, base.modHall 0 (fun h => { h with portUp := [1] }), 1, by first | decide +kernel | rfl, by first | decide +kernel | rfl, by first | decide +kernel | rfl⟩,
    ⟨base, by first | decide +kernel | rfl⟩,
    ⟨0, 0, reqState, reqOf, by first | decide +kernel | rfl, by first | decide +kernel | rfl, by first | decide +kernel | rfl⟩,
    ⟨0, 768, 2, base.modHall 0 (fun h => { h with atomics := [{ landed0 with tag := some 2 }] }), { landed0 with tag := some 2 }, by first | decide +kernel | rfl, by first | decide +kernel | rfl, by first | decide +kernel | rfl⟩,
    ⟨0, { pantryReq (List.replicate 16 1) with noret := true }, base, by first | decide +kernel | rfl, by first | decide +kernel | rfl, by first | decide +kernel | rfl, by first | decide +kernel | rfl, by first | decide +kernel | rfl⟩,
    ⟨0, { pantryReq (List.replicate 16 1) with noret := true }, base.modHall 0 (fun h => { h with atomics := [{ landed0 with addr := 0x20000000000000 }] }), { landed0 with addr := 0x20000000000000 }, by first | decide +kernel | rfl, by first | decide +kernel | rfl, by first | decide +kernel | rfl, by first | decide +kernel | rfl, by first | decide +kernel | rfl, by first | decide +kernel | rfl⟩,
    ⟨0, 64, 1, base.modHall 0 (fun h => { h with atomics := [landed0] }), landed0, 0, by first | decide +kernel | rfl, by first | decide +kernel | rfl⟩⟩

/-- Every clause of ModulesComplete with hypotheses has an instance. -/
theorem witness_modules_complete :
    (∃ (die : DieIx) (s : State),
      (s.die die.val).fuses = .unread) ∧
    (∃ (die : DieIx) (m : Fin 16) (s : State) (p : Nat),
      modulePeer (die.val * 16 + m.val) = some p ∧ ((s.die die.val).fuses = .good ∧ (s.die (p / 16)).fuses = .good) ∧
          (s.dieInReset die.val = false ∧ s.dieInReset (p / 16) = false ∧ s.trainsModules die.val (p / 16) = true) ∧ ((s.module
          (die.val * 16 + m.val)).state ≤ 1 ∧ (s.module (die.val * 16 + m.val)).phase = 0) ∧ (s.idField die.val 1 1 = die.val ∧
          s.idField (p / 16) 1 1 = p / 16) ∧ s.repairsAgree (die.val * 16 + m.val) p = true) ∧
    (∃ (die : DieIx) (m : Fin 16) (s : State) (p : Nat) (c : Instr) (n : Nat),
      (c, n) ∈ [(Instr.moduleMainbandTrain die m, 1), (.moduleAdapterInit die m, 2)] ∧ modulePeer (die.val * 16 + m.val) =
          some p ∧ ((s.die die.val).fuses = .good ∧ (s.die (p / 16)).fuses = .good) ∧ (s.dieInReset die.val = false ∧ s.dieInReset
          (p / 16) = false ∧ s.trainsModules die.val (p / 16) = true) ∧ ((s.module (die.val * 16 + m.val)).state = 1 ∧ (s.module
          (die.val * 16 + m.val)).phase = n)) ∧
    (∃ (die : DieIx) (m : Fin 16) (addr : BitVec 55) (payload l : List Byte) (cap : CapRecord) (s : State) (p : Nat),
      (lctlOf addr payload = .cap l ∧ cap = capOf l) ∧ modulePeer (die.val * 16 + m.val) = some p ∧ ((s.die die.val).fuses =
          .good ∧ (s.die (p / 16)).fuses = .good) ∧ (s.dieInReset die.val = false ∧ s.dieInReset (p / 16) = false ∧
          s.trainsModules die.val (p / 16) = true) ∧ ((s.module (die.val * 16 + m.val)).state = 1 ∧ (s.module (die.val * 16 +
          m.val)).phase = 3) ∧ cap.azMajor.toNat = s.idField die.val 6 1 ∧ (2 ≤ cap.vcCredit.toNat ∧ cap.dieKind.toNat = dieKind
          (p / 16) ∧ cap.dieIndex.toNat = p / 16)) ∧
    (∃ (die : DieIx) (m : Fin 16) (s : State) (p : Nat),
      modulePeer (die.val * 16 + m.val) = some p ∧ ((s.die die.val).fuses = .good ∧ (s.die (p / 16)).fuses = .good) ∧
          (s.dieInReset die.val = false ∧ s.dieInReset (p / 16) = false ∧ s.trainsModules die.val (p / 16) = true) ∧ ((s.module
          (die.val * 16 + m.val)).state = 1 ∧ (s.module (die.val * 16 + m.val)).phase = 4 ∧ (s.module p).phase = 4)) ∧
    (∃ (die : DieIx) (m : Fin 16) (s : State) (p : Nat),
      modulePeer (die.val * 16 + m.val) = some p ∧ p ≠ die.val * 16 + m.val ∧ ((s.die die.val).fuses = .good ∧ (s.die (p /
          16)).fuses = .good) ∧ (s.dieInReset die.val = false ∧ s.dieInReset (p / 16) = false ∧ s.trainsModules die.val (p / 16) =
          true) ∧ (s.module (die.val * 16 + m.val)).state ≤ 1) ∧
    (∃ (die : DieIx) (m : Fin 16) (addr : BitVec 55) (vc n : Nat) (s : State) (p : Nat),
      modulePeer (die.val * 16 + m.val) = some p ∧ ((s.die die.val).fuses = .good ∧ (s.die (p / 16)).fuses = .good) ∧
          (s.dieInReset die.val = false ∧ s.dieInReset (p / 16) = false ∧ s.trainsModules die.val (p / 16) = true) ∧ (s.module
          (die.val * 16 + m.val)).state = 2 ∧ (vc < 32 ∧ n < 128) ∧ lctlOf addr [] = .crd (BitVec.ofNat 48 (vc * 2 ^ 7 + n))) ∧
    (∃ (die : DieIx) (m : Fin 16) (retries burst : Nat) (s : State) (p : Nat),
      modulePeer (die.val * 16 + m.val) = some p ∧ ((s.die die.val).fuses = .good ∧ (s.die (p / 16)).fuses = .good) ∧
          (s.dieInReset die.val = false ∧ s.dieInReset (p / 16) = false ∧ s.trainsModules die.val (p / 16) = true) ∧ (s.module
          (die.val * 16 + m.val)).state = 2 ∧ s.errorLimit die.val retries burst = true) ∧
    (∃ (die : DieIx) (m : Fin 16) (s : State) (p : Nat),
      modulePeer (die.val * 16 + m.val) = some p ∧ ((s.module (die.val * 16 + m.val)).state = 1 ∨ (s.module (die.val * 16 +
          m.val)).state = 2)) ∧
    (∃ (r : RoomIx) (s : State),
      (s.room r.val).phase = .inReset) :=
  ⟨⟨104, base, by first | decide +kernel | rfl⟩,
    ⟨0, 4, moduleState 0 0, 28, by first | decide +kernel | rfl, by first | decide +kernel | rfl, by first | decide +kernel | rfl, by first | decide +kernel | rfl, by first | decide +kernel | rfl, by first | decide +kernel | rfl⟩,
    ⟨0, 4, moduleState 1 2, 28, .moduleAdapterInit 0 4, 2, by first | decide +kernel | rfl, by first | decide +kernel | rfl, by first | decide +kernel | rfl, by first | decide +kernel | rfl, by first | decide +kernel | rfl⟩,
    ⟨0, 4, 0, capBytes cap0, capBytes cap0, cap0, moduleState 1 3, 28, by first | decide +kernel | rfl, by first | decide +kernel | rfl, by first | decide +kernel | rfl, by first | decide +kernel | rfl, by first | decide +kernel | rfl, by first | decide +kernel | rfl, by first | decide +kernel | rfl⟩,
    ⟨0, 4, moduleState 1 4, 28, by first | decide +kernel | rfl, by first | decide +kernel | rfl, by first | decide +kernel | rfl, by first | decide +kernel | rfl⟩,
    ⟨0, 4, moduleState 1 2, 28, by first | decide +kernel | rfl, by first | decide +kernel | rfl, by first | decide +kernel | rfl, by first | decide +kernel | rfl, by first | decide +kernel | rfl⟩,
    ⟨0, 4, BitVec.ofNat 55 (2 ^ 51 + 3 * 2 ^ 7 + 1), 3, 1, moduleState 2 0, 28, by first | decide +kernel | rfl, by first | decide +kernel | rfl, by first | decide +kernel | rfl, by first | decide +kernel | rfl, by first | decide +kernel | rfl, by first | decide +kernel | rfl⟩,
    ⟨0, 4, 100, 0, moduleState 2 0, 28, by first | decide +kernel | rfl, by first | decide +kernel | rfl, by first | decide +kernel | rfl, by first | decide +kernel | rfl, by first | decide +kernel | rfl⟩,
    ⟨0, 4, moduleState 2 0, 28, by first | decide +kernel | rfl, by first | decide +kernel | rfl⟩,
    ⟨0, (phaseState .inReset).modHall 0 (fun h => h.setPort 4 [⟨0, 0, hallHeader, [], 0⟩]), by first | decide +kernel | rfl⟩⟩

/-- Every clause of ErrorsAndRepairComplete with hypotheses has an instance. -/
theorem witness_errors_and_repair_complete :
    (∃ (s : State) (e : ErrRecord) (q : List ErrRecord),
      s.errInFlight = e :: q) ∧
    (∃ (p : PostedError) (s : State),
      causeSeverity p.cause ≠ 1) ∧
    (∃ (cause : Nat) (die : DieIx) (room : Fin 32) (s : State) (x : CeWindow),
      s.ceWindows.find? (fun y => y.cause == cause && y.die == die.val && y.room == room.val) = some x ∧ x.further ≠ 0) ∧
    (∃ (r : RoomIx) (bank : Fin 48) (row : Fin 4096) (s : State) (x : RowRepair),
      (s.attic r.val).repairOf bank.val row.val = some (x, .hold)) ∧
    (∃ (r : RoomIx) (bank : Fin 48) (row : Fin 4096) (s : State) (x : RowRepair),
      (s.attic r.val).repairOf bank.val row.val = some (x, .copy) ∧ (s.mailbox r.val).pending = false) ∧
    (∃ (r : RoomIx) (bank : Fin 48) (row : Fin 4096) (s : State) (x : RowRepair),
      (s.attic r.val).repairOf bank.val row.val = some (x, .log) ∧ s.flashLogs.repairs.length < 16384) :=
  ⟨⟨{ base with errInFlight := [dieRecord base 0x53 104 0] }, dieRecord base 0x53 104 0, [], by first | decide +kernel | rfl⟩,
    ⟨⟨0x10, 3, some 4, 7⟩, base, by first | decide +kernel | rfl⟩,
    ⟨1, 0, 0, { base with ceWindows := [⟨1, 0, 0, dieRecord base 1 0 0, 3, 5⟩] }, ⟨1, 0, 0, dieRecord base 1 0 0, 3, 5⟩, by first | decide +kernel | rfl, by first | decide +kernel | rfl⟩,
    ⟨0, 2, 5, repairState .hold, ⟨2, 5, 0, false⟩, by first | decide +kernel | rfl⟩,
    ⟨0, 2, 5, repairState .copy, ⟨2, 5, 0, false⟩, by first | decide +kernel | rfl, by first | decide +kernel | rfl⟩,
    ⟨0, 2, 5, repairState .log, ⟨2, 5, 0, false⟩, by first | decide +kernel | rfl, by first | decide +kernel | rfl⟩⟩

/-- Every clause of FlitsComplete with hypotheses has an instance. -/
theorem witness_flits_complete :
    (∃ (l : LinkIx) (f : FlitHead) (s : State) (c : Instr),
      c ∈ [Instr.flitIdle l f, .flitData l f [] false, .flitNak l f, .flitHeartbeat l f ⟨0, 0, 1, 0, 0⟩ 0, .lctlInit l f ⟨0, 0, 1, 0, 0⟩, .lctlInitAck l f ⟨0, 0, 1, 0, 0⟩, .lctlDrain l f 0, .lctlDrainDone l f, .lctlGoodbye l f 0]
          ∧ (4 ≤ (s.link l.val).phase ∨ 2 ≤ (s.link l.val).state) ∧ f.crcOk = false) ∧
    (∃ (l : LinkIx) (f : FlitHead) (s : State),
      (4 ≤ (s.link l.val).phase ∨ 2 ≤ (s.link l.val).state) ∧ (s.link l.val).state ≠ 4 ∧ f.crcOk = true) ∧
    (∃ (l : LinkIx) (f : FlitHead) (packets : List FabPacket) (more : Bool) (s : State),
      2 ≤ (s.link l.val).state ∧ f.crcOk = true ∧ f.seq.val = (s.link l.val).expect) ∧
    (∃ (l : LinkIx) (f : FlitHead) (s : State) (x : LinkB),
      (4 ≤ (s.link l.val).phase ∨ 2 ≤ (s.link l.val).state) ∧ f.crcOk = true ∧ x = (s.link l.val).take f s.now ∧ x.held ≠ [] ∧
          x.held.any (fun h => decide (max 1 (fld (s.regN .linkCfg l.val) 19 16) ≤ h.replays + 1)) = false ∧ (x.replayTimes.filter
          fun t => decide (s.now < t + 1000000)).length + 1 < max 1 (fld (s.regN .linkCfg l.val) 31 24)) ∧
    (∃ (l : LinkIx) (s : State) (n : Nat),
      (s.link l.val).nak = some n) ∧
    (∃ (l : LinkIx) (s : State) (h : HeldFlit) (q : List HeldFlit),
      (s.link l.val).held = h :: q ∧ (s.link l.val).held.any (fun h => decide (max 1 (fld (s.regN .linkCfg l.val) 19 16) ≤
          h.replays + 1)) = false ∧ (s.link l.val).replayTimes.length + 1 < max 1 (fld (s.regN .linkCfg l.val) 31 24)) ∧
    (∃ (l : LinkIx) (s : State),
      (s.link l.val).beating = true) ∧
    (∃ (l : LinkIx) (f : FlitHead) (i : LinkInit) (state : Fin 4) (s : State),
      (4 ≤ (s.link l.val).phase ∨ 2 ≤ (s.link l.val).state) ∧ f.crcOk = true ∧ ((s.link l.val).peerDev = i.device.toNat ∧
          (s.link l.val).peerLink = i.link.val ∧ (s.link l.val).peerBoot = i.bootCount.toNat) ∧ (s.link l.val).state ≠ 4) ∧
    (∃ (l : LinkIx) (f : FlitHead) (i : LinkInit) (state : Fin 4) (s : State),
      (4 ≤ (s.link l.val).phase ∨ 2 ≤ (s.link l.val).state) ∧ f.crcOk = true ∧ (s.link l.val).peerValid = true ∧ (s.link
          l.val).peerBoot ≠ i.bootCount.toNat) ∧
    (∃ (l : LinkIx) (s : State),
      2 ≤ (s.link l.val).state ∧ (s.link l.val).beating = true) ∧
    (∃ (l : LinkIx) (s : State),
      (s.link l.val).state ≠ 0) ∧
    (∃ (l : LinkIx) (f : FlitHead) (cause : W16) (s : State),
      (4 ≤ (s.link l.val).phase ∨ 2 ≤ (s.link l.val).state) ∧ f.crcOk = true) ∧
    (∃ (l : LinkIx) (f : FlitHead) (x : TimeSync) (s : State),
      (4 ≤ (s.link l.val).phase ∨ 2 ≤ (s.link l.val).state) ∧ f.crcOk = true) :=
  ⟨⟨0, flit false 0, linkState 3 0, .flitNak 0 (flit false 0), by first | decide +kernel | rfl, by first | decide +kernel | rfl, by first | decide +kernel | rfl⟩,
    ⟨0, flit true 0, linkState 3 0, by first | decide +kernel | rfl, by first | decide +kernel | rfl, by first | decide +kernel | rfl⟩,
    ⟨0, flit true 0, [], true, linkState 3 0, by first | decide +kernel | rfl, by first | decide +kernel | rfl, by first | decide +kernel | rfl⟩,
    ⟨0, flit true 4000, (linkState 3 0).modLink 0 (fun x => { x with held := [⟨0, [], 15, 0, 0⟩] }), (((linkState 3 0).modLink 0 (fun x => { x with held := [⟨0, [], 15, 0, 0⟩] })).link 0).take (flit true 4000) 0, by first | decide +kernel | rfl, by first | decide +kernel | rfl, by first | decide +kernel | rfl, by first | decide +kernel | rfl, by first | decide +kernel | rfl, by first | decide +kernel | rfl⟩,
    ⟨0, (linkState 3 0).modLink 0 (fun x => { x with nak := some 7 }), 7, by first | decide +kernel | rfl⟩,
    ⟨0, (linkState 3 0).modLink 0 (fun x => { x with held := [⟨0, [], 15, 0, 0⟩] }), ⟨0, [], 15, 0, 0⟩, [], by first | decide +kernel | rfl, by first | decide +kernel | rfl, by first | decide +kernel | rfl⟩,
    ⟨0, linkState 3 0, by first | decide +kernel | rfl⟩,
    ⟨0, flit true 0, ⟨5, 1, 1, 2, 1⟩, 0, linkState 3 0, by first | decide +kernel | rfl, by first | decide +kernel | rfl, by first | decide +kernel | rfl, by first | decide +kernel | rfl⟩,
    ⟨0, flit true 0, ⟨5, 1, 1, 3, 1⟩, 0, linkState 3 0, by first | decide +kernel | rfl, by first | decide +kernel | rfl, by first | decide +kernel | rfl, by first | decide +kernel | rfl⟩,
    ⟨0, linkState 3 0, by first | decide +kernel | rfl, by first | decide +kernel | rfl⟩,
    ⟨0, linkState 3 0, by first | decide +kernel | rfl⟩,
    ⟨0, flit true 0, 1, linkState 3 0, by first | decide +kernel | rfl, by first | decide +kernel | rfl⟩,
    ⟨0, flit true 0, ⟨100, 0, 0, 3, 1, true, 2, 90⟩, linkState 3 0, by first | decide +kernel | rfl, by first | decide +kernel | rfl⟩⟩

/-- Every clause of LinkStatesComplete with hypotheses has an instance. -/
theorem witness_link_states_complete :
    (∃ (l : LinkIx) (s : State),
      s.linkMayTrain l.val = true ∧ s.restarting 5 (l.val / 6) = false ∧ ((s.link l.val).state = 0 ∧ (s.link l.val).cause = 0)) ∧
    (∃ (l : LinkIx) (s : State),
      s.linkMayTrain l.val = true ∧ s.restarting 5 (l.val / 6) = false ∧ (s.link l.val).state = 1 ∧ (1 ≤ (s.link l.val).phase
          ∧ (s.link l.val).phase ≤ 3)) ∧
    (∃ (l : LinkIx) (s : State),
      s.linkMayTrain l.val = true ∧ s.restarting 5 (l.val / 6) = false ∧ ((s.link l.val).state = 1 ∧ 1 ≤ (s.link l.val).phase
          ∧ (s.link l.val).phase ≤ 4)) ∧
    (∃ (l : LinkIx) (s : State),
      s.linkMayTrain l.val = true ∧ (s.link l.val).state = 0) ∧
    (∃ (l : LinkIx) (f : FlitHead) (i : LinkInit) (s : State),
      f.crcOk = true ∧ ((s.link l.val).state = 1 ∧ (s.link l.val).phase = 4 ∧ (s.link l.val).gotAck = false) ∧ (i.device ≠
          s.devId ∧ i.version = 1)) ∧
    (∃ (l : LinkIx) (f : FlitHead) (i : LinkInit) (s : State),
      f.crcOk = true ∧ ((s.link l.val).state = 1 ∧ (s.link l.val).phase = 4 ∧ (s.link l.val).gotInit = false) ∧ (i.device ≠
          s.devId ∧ i.version = 1)) ∧
    (∃ (l : LinkIx) (f : FlitHead) (i : LinkInit) (s : State) (c : Instr),
      f.crcOk = true ∧ ((s.link l.val).state = 1 ∧ (s.link l.val).phase = 4) ∧ (i.device ≠ s.devId ∧ i.version = 1) ∧ ((c =
          .lctlInit l f i ∧ (s.link l.val).gotAck = true) ∨ (c = .lctlInitAck l f i ∧ (s.link l.val).gotInit = true))) ∧
    (∃ (who : Accessor) (l : LinkIx) (s : State),
      regWriter s 888 who = true ∧ (s.link l.val).state = 2) ∧
    (∃ (who : Accessor) (l : LinkIx) (s : State),
      regWriter s 888 who = true ∧ (s.link l.val).state = 3) ∧
    (∃ (l : LinkIx) (corrected uncorrected : Nat) (s : State),
      (s.link l.val).state = 3 ∧ 2 ^ fld (s.regN .linkCfg l.val) 39 32 ≤ corrected ∧ (corrected < 2 ^ 32 ∧ uncorrected < 2 ^
          32)) ∧
    (∃ (l : LinkIx) (f : FlitHead) (reason : Byte) (s : State),
      f.crcOk = true ∧ (s.link l.val).state = 3) ∧
    (∃ (l : LinkIx) (s : State),
      ((s.link l.val).state = 3 ∧ (s.link l.val).recalAsked = true) ∧ s.otherRecal l.val = false ∧ s.restarting 5 (l.val / 6)
          = false) ∧
    (∃ (l : LinkIx) (f : FlitHead) (s : State),
      f.crcOk = true ∧ (s.link l.val).state = 4 ∧ ((s.link l.val).take f s.now).held = []) ∧
    (∃ (l : LinkIx) (ok : Bool) (s : State),
      ((s.link l.val).state = 5 ∧ (s.link l.val).retrained = false)) ∧
    (∃ (l : LinkIx) (s : State),
      ((s.link l.val).state = 5 ∧ (s.link l.val).retrained = true ∧ (s.link l.val).gotInit = true ∧ (s.link l.val).gotAck =
          true)) ∧
    (∃ (who : Accessor) (l : LinkIx) (value : W64) (s : State),
      regWriter s 888 who = true) :=
  ⟨⟨0, linkState 0 0, by first | decide +kernel | rfl, by first | decide +kernel | rfl, by first | decide +kernel | rfl⟩,
    ⟨0, linkState 1 3, by first | decide +kernel | rfl, by first | decide +kernel | rfl, by first | decide +kernel | rfl, by first | decide +kernel | rfl⟩,
    ⟨0, linkState 1 3, by first | decide +kernel | rfl, by first | decide +kernel | rfl, by first | decide +kernel | rfl⟩,
    ⟨0, linkState 0 0, by first | decide +kernel | rfl, by first | decide +kernel | rfl⟩,
    ⟨0, flit true 0, ⟨5, 1, 1, 2, 1⟩, linkState 1 4, by first | decide +kernel | rfl, by first | decide +kernel | rfl, by first | decide +kernel | rfl⟩,
    ⟨0, flit true 0, ⟨5, 1, 1, 2, 1⟩, linkState 1 4, by first | decide +kernel | rfl, by first | decide +kernel | rfl, by first | decide +kernel | rfl⟩,
    ⟨0, flit true 0, link1, (linkState 1 4).modLink 0 (fun x => { x with gotAck := true }), .lctlInit 0 (flit true 0) link1, by first | decide +kernel | rfl, by first | decide +kernel | rfl, by first | decide +kernel | rfl, by first | decide +kernel | rfl⟩,
    ⟨.processor, 0, linkState 2 0, by first | decide +kernel | rfl, by first | decide +kernel | rfl⟩,
    ⟨.processor, 0, linkState 3 0, by first | decide +kernel | rfl, by first | decide +kernel | rfl⟩,
    ⟨0, 100000, 2, linkState 3 0, by first | decide +kernel | rfl, by first | decide +kernel | rfl, by first | decide +kernel | rfl⟩,
    ⟨0, flit true 0, 0, linkState 3 0, by first | decide +kernel | rfl, by first | decide +kernel | rfl⟩,
    ⟨0, (linkState 3 0).modLink 0 (fun x => { x with recalAsked := true }), by first | decide +kernel | rfl, by first | decide +kernel | rfl, by first | decide +kernel | rfl⟩,
    ⟨0, flit true 0, linkState 4 0, by first | decide +kernel | rfl, by first | decide +kernel | rfl, by first | decide +kernel | rfl⟩,
    ⟨0, true, linkState 5 0, by first | decide +kernel | rfl⟩,
    ⟨0, (linkState 5 0).modLink 0 (fun x => { x with retrained := true, gotInit := true, gotAck := true }), by first | decide +kernel | rfl⟩,
    ⟨.processor, 0, 0, linkState 3 0, by first | decide +kernel | rfl⟩⟩

/-- Every clause of FabricComplete with hypotheses has an instance. -/
theorem witness_fabric_complete :
    (∃ (p q : FabPacket) (s : State) (k : Nat) (alt : Bool),
      (p.dstDev ≠ s.devId ∧ p.body.length + 16 = azBytes p.header) ∧ q = { p with srcDev := s.devId, fabTime := BitVec.ofNat 16 (s.now / 128), hops := 0, alt := false, tbank := s.fabric.active == 1 }
          ∧ s.fabLookup q true = some (k, alt) ∧ s.egressAdmits k q = true) ∧
    (∃ (p q : FabPacket) (s : State),
      (p.dstDev ≠ s.devId ∧ p.body.length + 16 = azBytes p.header) ∧ q = { p with srcDev := s.devId, fabTime := BitVec.ofNat 16 (s.now / 128), hops := 0, alt := false, tbank := s.fabric.active == 1 }
          ∧ s.fabLookup q true = none) ∧
    (∃ (island : Fin 792) (tag : Fin 4096) (s : State) (q : Req),
      s.findReq island.val tag.val = some q ∧ (island.val < 768 ∧ s.reqDevice q ≠ s.devId.toNat) ∧ q.reissued = false) ∧
    (∃ (s : State),
      s.custom = false ∧ s.fabDraining = false) ∧
    (∃ (who : Accessor) (s : State),
      ((∀ d, who ≠ .host d) → regWriter s 888 who = true) ∧ (∀ d, who = .host d → s.custom = true)) ∧
    (∃ (who : Accessor) (d : DevId) (s : State),
      ((∀ x, who ≠ .host x) → regWriter s 888 who = true) ∧ s.absentDevs.contains d.toNat = true) ∧
    (∃ (d : DevId) (s : State),
      s.lostPartner d.toNat = true) ∧
    (∃ (d : DevId) (s : State) (n : Nat),
      tget d.toNat s.fabric.probes = some n) ∧
    (∃ (l : LinkIx) (s : State),
      (s.link l.val).state = 3) ∧
    (∃ (s : State),
      s.fabric.time.locked = true ∧ s.fabric.time.dist ≠ 0) :=
  ⟨⟨packet, { packet with srcDev := 0, fabTime := 0, hops := 0, alt := false, tbank := false }, routeState, 0, false, by first | decide +kernel | rfl, by first | decide +kernel | rfl, by first | decide +kernel | rfl, by first | decide +kernel | rfl⟩,
    ⟨packet, { packet with srcDev := 0, fabTime := 0, hops := 0, alt := false, tbank := false }, linkState 3 0, by first | decide +kernel | rfl, by first | decide +kernel | rfl, by first | decide +kernel | rfl⟩,
    ⟨0, 0, { base with reqs := [{ reqOf with pa := 0x14000000000 }] }, { reqOf with pa := 0x14000000000 }, by first | decide +kernel | rfl, by first | decide +kernel | rfl, by first | decide +kernel | rfl⟩,
    ⟨base, by first | decide +kernel | rfl, by first | decide +kernel | rfl⟩,
    ⟨.processor, base, by first | decide +kernel | rfl, by first | decide +kernel | rfl⟩,
    ⟨.processor, 5, { base with absentDevs := [5] }, by first | decide +kernel | rfl, by first | decide +kernel | rfl⟩,
    ⟨5, (linkState 0 0).modLink 0 (fun x => { x with cause := 2 }), by first | decide +kernel | rfl⟩,
    ⟨5, base.modFabric (fun f => { f with probes := [(5, 30)] }), 30, by first | decide +kernel | rfl⟩,
    ⟨0, linkState 3 0, by first | decide +kernel | rfl⟩,
    ⟨base.modFabric (fun f => { f with time := { f.time with locked := true, dist := 2 } }), by first | decide +kernel | rfl, by first | decide +kernel | rfl⟩⟩

/-- Every clause of DumbwaiterStepsComplete with hypotheses has an instance. -/
theorem witness_dumbwaiter_steps_complete :
    (∃ (k : Fin 6176) (s : State) (p : DwProgram) (q : List DwProgram) (b : List Byte),
      (s.dw k.val).state = .idle ∧ (s.dw k.val).queue = p :: q ∧ (isDoorChan k.val = true ∨ s.dwLeavingOf k.val = false) ∧
          s.dwFetchRuns k.val p 0 16 = true ∧ s.dwFetch k.val p 0 16 = some b) ∧
    (∃ (k : Fin 6176) (s : State) (c : Instr) (n : Nat) (u : DwStep) (il : List (Place × Nat)) (rows : List DwRow) (ms : List DwMove),
      (c, n) ∈ [(Instr.dwMove k, 1), (.dwFill k, 2), (.dwGather k, 3), (.dwScatter k, 4)] ∧ s.dwSteps k.val = true ∧
          s.dwStepAt k.val = some u ∧ u.op = n ∧ (u.badData k.val (s.dw k.val).program = false ∧ u.badAlign (s.dw k.val) = none) ∧
          s.indexPlaces k.val (s.dw k.val).program u (s.dw k.val) = .ok il ∧ s.homesRun u.cls il = true ∧ rows = u.rowList (s.dw
          k.val) (s.dwBytes k.val u (u.idxVa (s.dw k.val)) il) ∧ s.dwRows k.val (s.dw k.val).program u rows = (ms, none) ∧
          s.homesRun u.cls (ms.flatMap fun m => m.src ++ m.dst) = true ∧ (s.dw k.val).step < 255) ∧
    (∃ (k : Fin 6176) (s : State) (u : DwStep) (n : Nat),
      s.dwSteps k.val = true ∧ s.dwStepAt k.val = some u ∧ u.op = 5 ∧ (u.w 0 59 56 = 0 ∧ u.w 0 47 24 = 0 ∧ u.zeroFrom 4 =
          true) ∧ (n = u.w 0 23 0 ∧ n ≠ 0) ∧ u.w 0 55 48 < (s.dw k.val).step ∧ (s.dw k.val).stack = []) ∧
    (∃ (k : Fin 6176) (s : State) (u : DwStep),
      s.dwSteps k.val = true ∧ s.dwStepAt k.val = some u ∧ u.op = 0 ∧ (u.w 0 59 0 = 0 ∧ u.zeroFrom 1 = true)) ∧
    (∃ (k : Fin 6176) (s : State) (u : DwStep) (x : Xlate) (y : Watched),
      s.dwSteps k.val = true ∧ s.dwStepAt k.val = some u ∧ u.op = 6 ∧ (isDoorChan k.val = false ∧ u.w 0 59 51 = 0 ∧ u.w 0 47 0
          = 0 ∧ u.w 0 50 48 ≤ 4 ∧ u.zeroFrom 3 = true) ∧ wordN u 1 % 8 = 0 ∧ s.translate (k.val / 8) (s.dw
          k.val).program.auth.noMxr .read .load (BitVec.ofNat 64 (wordN u 1)) = .ok x ∧ watchPlace (k.val / 8) (s.placeFor (k.val
          / 8) x.pa 8) = some y ∧ s.dwMoved k.val (s.dw k.val).program (wordN u 1) 8 = false ∧ (s.dw k.val).step < 255) ∧
    (∃ (k : Fin 6176) (s : State) (y : Watch),
      (s.dw k.val).state = .waiting ∧ (s.dw k.val).watch = some y ∧ y.found = true ∧ (s.dw k.val).step < 255) ∧
    (∃ (k : Fin 6176) (s : State) (y : Watch) (n : Nat),
      (s.dw k.val).state = .waiting ∧ (s.dw k.val).watch = some y ∧ (s.dw k.val).deadline = some n ∧ y.found = false) ∧
    (∃ (k : Fin 6176) (s : State) (u : DwStep) (r o : Nat) (l : List Byte),
      s.dwSteps k.val = true ∧ s.dwStepAt k.val = some u ∧ u.op = 7 ∧ (u.w 0 59 59 = 0 ∧ u.w 0 55 50 = 0 ∧ u.w 0 47 0 = 0 ∧
          u.w 0 49 48 ≠ 3 ∧ u.badClass k.val (s.dw k.val).program = false ∧ u.zeroFrom 3 = true) ∧ wordN u 1 % 8 = 0 ∧ s.dwPlaces
          k.val (s.dw k.val).program true (wordN u 1) 8 = .ok [(.pantry r o, 8)] ∧ s.dwPantryVa k.val (s.dw k.val).program (wordN
          u 1) = true ∧ s.dwMoved k.val (s.dw k.val).program (wordN u 1) 8 = false ∧ s.memRead (.pantry r o) 8 = .data l ∧ (s.dw
          k.val).step < 255) :=
  ⟨⟨0, dwIdle, dwProg, [], List.replicate 16 0, by first | decide +kernel | rfl, by first | decide +kernel | rfl, by first | decide +kernel | rfl, by first | decide +kernel | rfl, by first | decide +kernel | rfl⟩,
    ⟨0, dwState 0 moveWords, .dwMove 0, 1, moveWords, [], [.copy 0xA0000000000000 0xA0000000000008], [⟨[(.pantry 0 0, 8)], [(.pantry 0 8, 8)], [(1, false), (2, false), (3, false), (4, false), (5, false), (6, false), (7, false), (8, false)], 0xA0000000000008⟩], by first | decide +kernel | rfl, by first | decide +kernel | rfl, by first | decide +kernel | rfl, by first | decide +kernel | rfl, by first | decide +kernel | rfl, by first | decide +kernel | rfl, by first | decide +kernel | rfl, by first | decide +kernel | rfl, by first | decide +kernel | rfl, by first | decide +kernel | rfl, by first | decide +kernel | rfl⟩,
    ⟨0, dwState 1 [0x5000000000000003, 8, 8, 0, 0, 0], [0x5000000000000003, 8, 8, 0, 0, 0], 3, by first | decide +kernel | rfl, by first | decide +kernel | rfl, by first | decide +kernel | rfl, by first | decide +kernel | rfl, by first | decide +kernel | rfl, by first | decide +kernel | rfl, by first | decide +kernel | rfl⟩,
    ⟨0, dwState 0 [0, 0, 0, 0, 0, 0], [0, 0, 0, 0, 0, 0], by first | decide +kernel | rfl, by first | decide +kernel | rfl, by first | decide +kernel | rfl, by first | decide +kernel | rfl⟩,
    ⟨0, dwState 0 [0x6000000000000000, 0xA0000000000000, 5, 0, 0, 0], [0x6000000000000000, 0xA0000000000000, 5, 0, 0, 0], px, .pantry 0, by first | decide +kernel | rfl, by first | decide +kernel | rfl, by first | decide +kernel | rfl, by first | decide +kernel | rfl, by first | decide +kernel | rfl, by first | decide +kernel | rfl, by first | decide +kernel | rfl, by first | decide +kernel | rfl, by first | decide +kernel | rfl⟩,
    ⟨0, base.modDw 0 (fun c => { c with state := .waiting, watch := some ⟨.pantry 0, .eq, 0, .value 3⟩ }), ⟨.pantry 0, .eq, 0, .value 3⟩, by first | decide +kernel | rfl, by first | decide +kernel | rfl, by first | decide +kernel | rfl, by first | decide +kernel | rfl⟩,
    ⟨0, base.modDw 0 (fun c => { c with state := .waiting, watch := some ⟨.pantry 0, .eq, 0, .none⟩, deadline := some 50 }), ⟨.pantry 0, .eq, 0, .none⟩, 50, by first | decide +kernel | rfl, by first | decide +kernel | rfl, by first | decide +kernel | rfl, by first | decide +kernel | rfl⟩,
    ⟨0, dwState 0 [0x7000000000000000, 0xA0000000000000, 5, 0, 0, 0], [0x7000000000000000, 0xA0000000000000, 5, 0, 0, 0], 0, 0, [1, 2, 3, 4, 5, 6, 7, 8], by first | decide +kernel | rfl, by first | decide +kernel | rfl, by first | decide +kernel | rfl, by first | decide +kernel | rfl, by first | decide +kernel | rfl, by first | decide +kernel | rfl, by first | decide +kernel | rfl, by first | decide +kernel | rfl, by first | decide +kernel | rfl, by first | decide +kernel | rfl⟩⟩

/-- Every clause of DumbwaiterProgramsEnd with hypotheses has an instance. -/
theorem witness_dumbwaiter_programs_end :
    (∃ (k : Fin 6176) (s : State) (st va : Nat),
      (s.dw k.val).ended = some (st, va) ∧ st ≤ 1 ∧ isDoorChan k.val = false ∧ tgetD s.dwOrder (k.val / 8) [] = [] ∧
          s.dwRingFull (k.val / 8) = false) ∧
    (∃ (k : Fin 6176) (s : State) (st va : Nat) (e : Desc),
      (s.dw k.val).ended = some (st, va) ∧ st ≤ 1 ∧ isDoorChan k.val = true ∧ s.descs.find? (fun x => x.id == (s.dw
          k.val).program.job) = some e) ∧
    (∃ (k : Fin 6176) (s : State) (st va : Nat),
      (s.dw k.val).ended = some (st, va) ∧ (0x10 ≤ st ∧ st < 0x30) ∧ isDoorChan k.val = false ∧ tgetD s.dwOrder (k.val / 8) []
          = [] ∧ s.dwRingFull (k.val / 8) = false) ∧
    (∃ (r : RoomIx) (value : W64) (s : State),
      (List.range 8).all (fun c => (s.dw (r.val * 8 + c)).state == .idle) = true ∧ (value.toNat % 2 ^ 23 + 2 ^ max 4 (min 12
          (fld (s.regN .dwCqCfg r.val) 3 0)) * 32 ≤ pantrySize ∧ value.toNat % 32 = 0)) ∧
    (∃ (r : RoomIx) (value : W64) (s : State),
      (List.range 8).all (fun c => (s.dw (r.val * 8 + c)).state == .idle) = true ∧ s.regN .dwCqBase r.val + 2 ^ max 4 (min 12
          (fld value.toNat 3 0)) * 32 ≤ pantrySize) ∧
    (∃ (r : RoomIx) (c : Fin 8) (s : State),
      tgetD s.dwOrder r.val [] = [] ∧ bitOf (s.regN .dwCqCfg r.val) 9 = false ∧ (s.dw (r.val * 8 + c.val)).queue.length ≤ 4) :=
  ⟨⟨0, base.modDw 0 (fun c => { c with queue := [dwProg], state := .running, ended := some (0, 0) }), 0, 0, by first | decide +kernel | rfl, by first | decide +kernel | rfl, by first | decide +kernel | rfl, by first | decide +kernel | rfl, by first | decide +kernel | rfl⟩,
    ⟨6144, { base.modDw 6144 (fun c => { c with queue := [dwProg], state := .running, ended := some (0, 0) }) with descs := [{ id := 0, sq := 0, words := [] }] }, 0, 0, { id := 0, sq := 0, words := [] }, by first | decide +kernel | rfl, by first | decide +kernel | rfl, by first | decide +kernel | rfl, by first | decide +kernel | rfl⟩,
    ⟨0, base.modDw 0 (fun c => { c with queue := [dwProg], state := .running, ended := some (0x12, 64) }), 0x12, 64, by first | decide +kernel | rfl, by first | decide +kernel | rfl, by first | decide +kernel | rfl, by first | decide +kernel | rfl, by first | decide +kernel | rfl⟩,
    ⟨0, 0x1000, base, by first | decide +kernel | rfl, by first | decide +kernel | rfl⟩,
    ⟨0, 0x206, base, by first | decide +kernel | rfl, by first | decide +kernel | rfl⟩,
    ⟨0, 0, dwIdle, by first | decide +kernel | rfl, by first | decide +kernel | rfl, by first | decide +kernel | rfl⟩⟩

/-- Every clause of TreeCommandsComplete with hypotheses has an instance. -/
theorem witness_tree_commands_complete :
    (∃ (h : HartId) (value : W64) (s : State) (o : Nat),
      o = fld value.toNat 22 0 ∧ (s.tree h.room.val).queue.length < 8 ∧ (o % 64 = 0 ∧ o + 64 ≤ pantrySize) ∧ s.freshRanges
          (hkey h) = []) ∧
    (∃ (h : HartId) (value : W64) (s : State),
      (8 ≤ (s.tree h.room.val).queue.length ∨ fld value.toNat 22 0 % 64 ≠ 0 ∨ pantrySize < fld value.toNat 22 0 + 64)) ∧
    (∃ (r : RoomIx) (s : State) (i : Instr) (op : Nat) (c : TreeCmd) (q : List TreeCmd),
      (i, op) ∈ [(Instr.treeOpen r, 1), (.treeClose r, 2), (.treePrep r, 3), (.treeKvput r, 4), (.treeTopk r, 5), (.treeAccept r, 6), (.treeCommit r, 7), (.treeRollback r, 8)]
          ∧ (s.tree r.val).queue = c :: q ∧ (c.op = op ∧ c.poisoned = false ∧ c.check = 0 ∧ q.all (fun x => !x.aborted) = true) ∧
          (s.treeHeld r.val c = false ∧ s.treeOpen r.val c = true) ∧ s.treeTodo r.val c ≠ 0) ∧
    (∃ (r : RoomIx) (s : State) (i : Instr) (op : Nat) (c : TreeCmd) (q : List TreeCmd),
      (i, op) ∈ [(Instr.treeOpen r, 1), (.treeClose r, 2), (.treePrep r, 3), (.treeKvput r, 4), (.treeAccept r, 6), (.treeCommit r, 7), (.treeRollback r, 8)]
          ∧ (s.tree r.val).queue = c :: q ∧ (c.op = op ∧ c.poisoned = false ∧ c.check = 0 ∧ q.all (fun x => !x.aborted) = true) ∧
          (s.treeHeld r.val c = false ∧ s.treeOpen r.val c = true) ∧ s.treeTodo r.val c = 0) ∧
    (∃ (r : RoomIx) (s : State) (i : Instr) (op : Nat) (c : TreeCmd) (q : List TreeCmd),
      (i, op) ∈ [(Instr.treeOpen r, 1), (.treeClose r, 2), (.treePrep r, 3), (.treeKvput r, 4), (.treeTopk r, 5), (.treeAccept r, 6), (.treeCommit r, 7), (.treeRollback r, 8)]
          ∧ (s.tree r.val).queue = c :: q ∧ (c.op = op ∧ c.poisoned = false ∧ q.all (fun x => !x.aborted) = true) ∧ c.check ≠ 0 ∧
          s.treeHeld r.val c = false) ∧
    (∃ (r : RoomIx) (s : State),
      (s.tree r.val).queue.length ≤ 8) :=
  ⟨⟨h0, 0x40, treeState [], 0x40, by first | decide +kernel | rfl, by first | decide +kernel | rfl, by first | decide +kernel | rfl, by first | decide +kernel | rfl⟩,
    ⟨h0, 0x41, base, by first | decide +kernel | rfl⟩,
    ⟨0, treeState [treeCmd], .treeOpen 0, 1, treeCmd, [], by first | decide +kernel | rfl, by first | decide +kernel | rfl, by first | decide +kernel | rfl, by first | decide +kernel | rfl, by first | decide +kernel | rfl⟩,
    ⟨0, { treeState [treeCmd] with poison := [pantryKey 0 0x40] }, .treeOpen 0, 1, treeCmd, [], by first | decide +kernel | rfl, by first | decide +kernel | rfl, by first | decide +kernel | rfl, by first | decide +kernel | rfl, by first | decide +kernel | rfl⟩,
    ⟨0, treeState [{ treeCmd with words := [0x0010000000000041, 0, 0, 0, 0, 0, 0, 0] }], .treeOpen 0, 1, { treeCmd with words := [0x0010000000000041, 0, 0, 0, 0, 0, 0, 0] }, [], by first | decide +kernel | rfl, by first | decide +kernel | rfl, by first | decide +kernel | rfl, by first | decide +kernel | rfl, by first | decide +kernel | rfl⟩,
    ⟨0, treeState [treeCmd], by first | decide +kernel | rfl⟩⟩

/-- Every clause of TreeEntriesFollowTheirState with hypotheses has an instance. -/
theorem witness_tree_entries_follow_their_state :
    (∃ (s : State) (r : Nat) (c : TreeCmd) (e : TreeEntry) (p : Place) (l : List Byte),
      e.seq < 1048576 ∧ s.seqBytes r c.auth (c.seqVa e) = some (p, l) ∧ c.op = 1) ∧
    (∃ (s : State) (r : Nat) (c : TreeCmd) (e : TreeEntry) (p : Place) (l : List Byte),
      e.seq < 1048576 ∧ s.seqBytes r c.auth (c.seqVa e) = some (p, l) ∧ (2 ≤ c.op ∧ c.op ≤ 8 ∧ c.op ≠ 5) ∧ ((parseSeq l).epoch
          ≠ e.epoch ∨ (parseSeq l).state = 0)) ∧
    (∃ (s : State) (r : Nat) (c : TreeCmd) (e : TreeEntry) (p : Place) (l : List Byte),
      e.seq < 1048576 ∧ s.seqBytes r c.auth (c.seqVa e) = some (p, l) ∧ ((parseSeq l).epoch = e.epoch ∧ (parseSeq l).state =
          1) ∧ s.seqWrites r c.auth (c.seqVa e) = true) ∧
    (∃ (s : State) (r : Nat) (c : TreeCmd) (e : TreeEntry),
      1048576 ≤ e.seq) ∧
    (∃ (s : State) (r : Nat) (c : TreeCmd) (p : Place) (writes : Bool) (b : List Byte) (q : SeqEntry) (e : TreeEntry),
      descPlaced e.treeOff = true ∧ s.rangePoisoned (pantryKey r e.treeOff) 16 = false ∧ ((s.treeDesc r e.treeOff).accDepth ≠
          0 ∧ (s.treeDesc r e.treeOff).accDepth = popCount 64 (s.treeDesc r e.treeOff).accMask ∧ (s.treeDesc r e.treeOff).accMask
          % 2 = 1 ∧ (c.lhCount = 0 ∨ (s.treeDesc r e.treeOff).accMask / 2 ^ q.prov = 0)) ∧ (q.len = ((s.treeDesc r
          e.treeOff).baseLen + (s.treeDesc r e.treeOff).accDepth) % 2 ^ 32 ∧ lastBaseLen b = (s.treeDesc r e.treeOff).baseLen ∧
          lastMask b = (s.treeDesc r e.treeOff).accMask)) :=
  ⟨⟨treeState [], 0, treeCmd, ⟨0, 0, 0, 0, 0⟩, .pantry 0 0x80, List.replicate 64 0, by first | decide +kernel | rfl, by first | decide +kernel | rfl, by first | decide +kernel | rfl⟩,
    ⟨treeState [], 0, { treeCmd with words := [0x0070000000000040, 0xA0000000000080, 0, 0, 0, 0, 0, 0] }, ⟨0, 0, 0, 0, 0⟩, .pantry 0 0x80, List.replicate 64 0, by first | decide +kernel | rfl, by first | decide +kernel | rfl, by first | decide +kernel | rfl, by first | decide +kernel | rfl⟩,
    ⟨openState, 0, { treeCmd with words := [0x0020000000000040, 0xA0000000000080, 0, 0, 0, 0, 0, 0] }, ⟨0, 1, 0, 0, 0⟩, .pantry 0 0x80, openBytes, by first | decide +kernel | rfl, by first | decide +kernel | rfl, by first | decide +kernel | rfl, by first | decide +kernel | rfl⟩,
    ⟨base, 0, treeCmd, ⟨1048576, 0, 0, 0, 0⟩, by first | decide +kernel | rfl⟩,
    ⟨openState, 0, treeCmd, .pantry 0 0x80, true, committedBytes, { parseSeq committedBytes with len := 1 }, ⟨0, 1, 0, 0x200, 0⟩, by first | decide +kernel | rfl, by first | decide +kernel | rfl, by first | decide +kernel | rfl, by first | decide +kernel | rfl⟩⟩

/-- Every clause of RingRegistersComplete with hypotheses has an instance. -/
theorem witness_ring_registers_complete :
    (∃ (who : Accessor) (ring : Fin 1024) (value : W64) (s : State),
      doorWriter s who = true ∧ ((s.sq ring.val).open = true ∧ (s.sq ring.val).enable = false) ∧ bitOf value.toNat 63 = true) ∧
    (∃ (who : Accessor) (ring : Fin 1024) (value : W64) (s : State),
      doorWriter s who = true ∧ (s.sq ring.val).enable = true ∧ bitOf value.toNat 63 = false ∧ s.descs.any (fun x => x.sq ==
          ring.val) = false) ∧
    (∃ (who : Accessor) (ring : Fin 1024) (value : W64) (s : State),
      doorWriter s who = true) ∧
    (∃ (who : Accessor) (d : DoorIx) (value : W64) (s : State),
      doorWriter s who = true) ∧
    (∃ (who : Accessor) (ring : Fin 1024) (value : W64) (d : DoorIx) (s : State) (c : Instr),
      doorWriter s who = false ∧ c ∈ [Instr.sqCfgWrite who ring value, .cqCfgWrite who ring value, .doorCtrlWrite who d value, .doorRelease who d, .doorAdopt who d ring]) ∧
    (∃ (d : DoorIx) (ring : Fin 1024) (value : W32) (s : State),
      (s.sq ring.val).owner = d.val ∧ ((s.sq ring.val).state = .running ∧ (s.sq ring.val).enable = true)) ∧
    (∃ (d : DoorIx) (ring : Fin 1024) (value : W32) (s : State),
      (s.sq ring.val).owner ≠ d.val) ∧
    (∃ (d : DoorIx) (ring : Fin 1024) (value : W32) (s : State),
      (s.cq ring.val).owner = d.val ∧ (value.toNat + 2 ^ 32 - (s.cq ring.val).head) % 2 ^ 32 ≤ (s.cq ring.val).pending) ∧
    (∃ (d : DoorIx) (ring : Fin 1024) (value : W32) (s : State),
      ((s.cq ring.val).owner ≠ d.val ∨ (s.cq ring.val).pending < (value.toNat + 2 ^ 32 - (s.cq ring.val).head) % 2 ^ 32)) :=
  ⟨⟨.host 0, 5, 0x8600030100000000, hostState, by first | decide +kernel | rfl, by first | decide +kernel | rfl, by first | decide +kernel | rfl⟩,
    ⟨.host 0, 3, 0, hostState, by first | decide +kernel | rfl, by first | decide +kernel | rfl, by first | decide +kernel | rfl, by first | decide +kernel | rfl⟩,
    ⟨.host 0, 5, 0x8600000580010010, hostState, by first | decide +kernel | rfl⟩,
    ⟨.host 0, 0, 0x80000000FFFF0003, hostState, by first | decide +kernel | rfl⟩,
    ⟨.hart h0, 3, 0, 0, withHart (fun x => { x with priv := .user }), .sqCfgWrite (.hart h0) 3 0, by first | decide +kernel | rfl, by first | decide +kernel | rfl⟩,
    ⟨0, 3, 4, hostState, by first | decide +kernel | rfl, by first | decide +kernel | rfl⟩,
    ⟨1, 3, 4, hostState, by first | decide +kernel | rfl⟩,
    ⟨0, 3, 0, hostState, by first | decide +kernel | rfl, by first | decide +kernel | rfl⟩,
    ⟨0, 3, 1, hostState, by first | decide +kernel | rfl⟩⟩

/-- Every clause of DescriptorsComplete with hypotheses has an instance. -/
theorem witness_descriptors_complete :
    (∃ (d : DoorIx) (s : State) (q : Nat),
      s.nextRing d.val = some q ∧ ((s.door d.val).hostUp = true ∧ (s.door d.val).down = false ∧ s.therm.stop = 0 ∧
          s.doorOutstanding d.val < 4096)) ∧
    (∃ (id : Nat) (s : State) (e : Desc),
      s.startable id = some e ∧ (e.opcode ≠ 1 ∧ e.opcode ≠ 2 ∧ e.opcode ≠ 0x10)) ∧
    (∃ (id : Nat) (s : State) (e : Desc),
      s.startable id = some e ∧ e.opcode = 1) ∧
    (∃ (id : Nat) (s : State) (j : Job) (e : Desc),
      s.jobs.find? (fun x => x.id == id) = some j ∧ j.threads.all (fun x => x != .running) = true ∧ s.descs.find? (fun x =>
          x.id == id) = some e) ∧
    (∃ (id : Nat) (s : State) (e : Desc) (c : Nat),
      s.startable id = some e ∧ e.opcode = 2 ∧ s.dmaCheck e = 0 ∧ s.freeChannel (s.sq e.sq).owner = some c) ∧
    (∃ (id : Nat) (s : State) (e : Desc),
      s.startable id = some e ∧ e.opcode = 2 ∧ s.dmaCheck e ≠ 0) ∧
    (∃ (id : Nat) (s : State) (e : Desc),
      s.startable id = some e ∧ e.opcode = 0x10) :=
  ⟨⟨0, hostState, 3, by first | decide +kernel | rfl, by first | decide +kernel | rfl⟩,
    ⟨9, descState [0, 7, 0, 0, 0, 0, 0, 0], descOf [0, 7, 0, 0, 0, 0, 0, 0], by first | decide +kernel | rfl, by first | decide +kernel | rfl⟩,
    ⟨9, descState [0x10001, 7, 0, 0, 0, 0, 0x80000000000000, 0], descOf [0x10001, 7, 0, 0, 0, 0, 0x80000000000000, 0], by first | decide +kernel | rfl, by first | decide +kernel | rfl⟩,
    ⟨9, { descState [1, 7, 0, 0, 0, 0, 0, 0] with jobs := [⟨9, [.exited 5]⟩] }, ⟨9, [.exited 5]⟩, descOf [1, 7, 0, 0, 0, 0, 0, 0], by first | decide +kernel | rfl, by first | decide +kernel | rfl, by first | decide +kernel | rfl⟩,
    ⟨9, descState [2, 7, 0xA0000000000000, 0, 0, 0, 0, 0], descOf [2, 7, 0xA0000000000000, 0, 0, 0, 0, 0], 0, by first | decide +kernel | rfl, by first | decide +kernel | rfl, by first | decide +kernel | rfl, by first | decide +kernel | rfl⟩,
    ⟨9, descState [2, 7, 0xA0000000000004, 0, 0, 0, 0, 0], descOf [2, 7, 0xA0000000000004, 0, 0, 0, 0, 0], by first | decide +kernel | rfl, by first | decide +kernel | rfl, by first | decide +kernel | rfl⟩,
    ⟨9, descState [0x10010, 7, 3, 0, 0, 0, 0, 0], descOf [0x10010, 7, 3, 0, 0, 0, 0, 0], by first | decide +kernel | rfl, by first | decide +kernel | rfl⟩⟩

/-- Every clause of CompletionsAndEventsComplete with hypotheses has an instance. -/
theorem witness_completions_and_events_complete :
    (∃ (c : Fin 1024) (s : State) (x : Completion),
      s.completions.find? (s.leavesTo c.val) = some x ∧ s.cqRoom c.val = true) ∧
    (∃ (d : DoorIx) (s : State) (e : Event),
      (s.door d.val).nextEvent = some e ∧ (bitOf (s.regN .doorCtrl d.val) 63 = true ∧ s.eventCqValid d.val = true) ∧ s.cqRoom
          (s.eventCq d.val) = true) ∧
    (∃ (c : Fin 1024) (s : State) (n : Nat) (l : List Nat),
      (s.cq c.val).written = n :: l ∧ (s.cq c.val).coalTime ≠ 0 ∧ ((s.cq c.val).irqEn = true ∧ (s.cq c.val).fired = false ∧
          (s.cq c.val).pending ≠ 0)) :=
  ⟨⟨3, waitingState, doneEvent, by first | decide +kernel | rfl, by first | decide +kernel | rfl⟩,
    ⟨0, eventState, ⟨4, 5, 6⟩, by first | decide +kernel | rfl, by first | decide +kernel | rfl, by first | decide +kernel | rfl⟩,
    ⟨3, { base with cqs := [(3, { enable := true, irqEn := true, coalTime := 5, tail := 1, written := [40] })] }, 40, [], by first | decide +kernel | rfl, by first | decide +kernel | rfl, by first | decide +kernel | rfl⟩⟩

/-- Every clause of HostLossComplete with hypotheses has an instance. -/
theorem witness_host_loss_complete :
    (∃ (d : DoorIx) (s : State),
      (s.door d.val).linkUp = true) ∧
    (∃ (d : DoorIx) (s : State) (n : Nat),
      (s.door d.val).lostSince = some n) ∧
    (∃ (who : Accessor) (d : DoorIx) (s : State),
      doorWriter s who = true) ∧
    (∃ (d : DoorIx) (s : State),
      s.pcieRuns d.val = true) ∧
    (∃ (who : Accessor) (d : DoorIx) (ring : Fin 1024) (s : State),
      doorWriter s who = true ∧ (s.sq ring.val).open = true) ∧
    (∃ (who : Accessor) (d : DoorIx) (ring : Fin 1024) (s : State),
      doorWriter s who = true ∧ (s.sq ring.val).open = false) ∧
    (∃ (d : DoorIx) (s : State),
      (s.door d.val).down = false) ∧
    (∃ (d : DoorIx) (s : State) (i : Fin 16),
      (s.door d.val).linkUp = true) ∧
    (∃ (d : DoorIx) (s : State) (q : ConfigRequest),
      (s.door d.val).linkUp = true ∧ s.configReady = true) :=
  ⟨⟨0, hostState, by first | decide +kernel | rfl⟩,
    ⟨0, hostState.modDoor 0 (fun x => { x with linkUp := false, lostSince := some 70 }), 70, by first | decide +kernel | rfl⟩,
    ⟨.processor, 0, hostState, by first | decide +kernel | rfl⟩,
    ⟨1, hostState, by first | decide +kernel | rfl⟩,
    ⟨.processor, 1, 7, hostState, by first | decide +kernel | rfl, by first | decide +kernel | rfl⟩,
    ⟨.processor, 1, 3, hostState, by first | decide +kernel | rfl, by first | decide +kernel | rfl⟩,
    ⟨0, hostState, by first | decide +kernel | rfl⟩,
    ⟨0, hostState, 0, by first | decide +kernel | rfl⟩,
    ⟨0, hostState, .powerState true, by first | decide +kernel | rfl, by first | decide +kernel | rfl⟩⟩

/-- Every clause of BarAccessesComplete with hypotheses has an instance. -/
theorem witness_bar_accesses_complete :
    (∃ (a : BarAccess) (s : State),
      s.hostReaches a.door.val = true ∧ a.data = none) ∧
    (∃ (a : BarAccess) (s : State) (l : List Byte),
      s.hostReaches a.door.val = true ∧ a.data = some l) ∧
    (∃ (a : BarAccess) (s : State) (pa r o : Nat),
      (s.hostReaches a.door.val = true ∧ 8 ≤ s.boot.phase) ∧ (a.data = none ∧ 0 < a.len ∧ a.len ≤ 4096) ∧ s.aperture
          a.door.val a.off false = some pa ∧ s.place pa a.len = .pantry r o) ∧
    (∃ (a : BarAccess) (s : State) (pa r o : Nat) (l : List Byte),
      (s.hostReaches a.door.val = true ∧ 8 ≤ s.boot.phase) ∧ (a.data = some l ∧ 0 < l.length ∧ l.length ≤ 4096) ∧ s.aperture
          a.door.val a.off true = some pa ∧ s.place pa l.length = .pantry r o ∧ (s.doorReaches a.door.val = true ∧ (s.room
          r).stalled = false)) ∧
    (∃ (a : BarAccess) (s : State),
      s.hostReaches a.door.val = true ∧ (a.data = none ∧ 0 < a.len ∧ a.len ≤ 4096) ∧ (s.aperture a.door.val a.off false = none
          ∨ s.boot.phase < 8)) ∧
    (∃ (who : Accessor) (pa : BitVec 56) (size : Nat) (value : W64) (s : State) (u : RegUser),
      s.writerOf who (s.place pa.toNat size) = some u) ∧
    (∃ (who : Accessor) (pa : BitVec 56) (size : Nat) (value : W64) (s : State),
      s.writerOf who (s.place pa.toNat size) = none) :=
  ⟨⟨⟨0, 0, 8, none, false⟩, hostState, by first | decide +kernel | rfl, by first | decide +kernel | rfl⟩,
    ⟨⟨0, 0x20, 0, some [1, 0, 0, 0], false⟩, hostState, [1, 0, 0, 0], by first | decide +kernel | rfl, by first | decide +kernel | rfl⟩,
    ⟨⟨0, 8, 4, none, false⟩, hostState.setReg .doorAperture 0 0xE0A0000000000000, 0xA0000000000008, 0, 8, by first | decide +kernel | rfl, by first | decide +kernel | rfl, by first | decide +kernel | rfl, by first | decide +kernel | rfl⟩,
    ⟨⟨0, 8, 0, some [7, 7, 7, 7, 7, 7, 7, 7], true⟩, hostState.setReg .doorAperture 0 0xE0A0000000000000, 0xA0000000000008, 0, 8, [7, 7, 7, 7, 7, 7, 7, 7], by first | decide +kernel | rfl, by first | decide +kernel | rfl, by first | decide +kernel | rfl, by first | decide +kernel | rfl, by first | decide +kernel | rfl⟩,
    ⟨⟨0, 8, 4, none, false⟩, hostState, by first | decide +kernel | rfl, by first | decide +kernel | rfl, by first | decide +kernel | rfl⟩,
    ⟨.hart h0, 0xB0000000000020, 8, 0, base, ⟨true, some (0, 0)⟩, by first | decide +kernel | rfl⟩,
    ⟨.hart h0, 0xD0000002000000, 8, 0, withHart (fun x => { x with priv := .user }), by first | decide +kernel | rfl⟩⟩

/-- Every clause of DrainsComplete with hypotheses has an instance. -/
theorem witness_drains_complete :
    (∃ (id : Nat) (s : State) (c : MgmtCmd),
      s.live.cmds.find? (fun x => x.id == id && x.code == 1 && !x.begun) = some c ∧ s.studyAnswers = true ∧ (c.accepted =
          false → s.studyFull = false) ∧ (c.arg 0 < 768 ∧ (s.room (c.arg 0)).cond.state ≤ 1 ∧ (s.room (c.arg 0)).phase =
          .inService) ∧ (if c.accepted = true then s.live.cmds.takeWhile (fun x => x.id != c.id) else s.live.cmds).any (fun x =>
          x.id != c.id && x.accepted && targetsClash x.target c.target) = false) ∧
    (∃ (id : Nat) (s : State) (c : MgmtCmd) (st : Nat),
      s.live.cmds.find? (fun x => x.id == id && x.code == 1 && !x.begun) = some c ∧ s.studyAnswers = true ∧ c.accepted = false
          ∧ s.drainCheck (c.arg 0) = some st) ∧
    (∃ (r : RoomIx) (s : State),
      (s.room r.val).phase = .draining ∧ s.roomEmpty r.val = true) ∧
    (∃ (r : RoomIx) (s : State),
      (s.room r.val).phase = .draining ∧ (s.unpowered = false ∧ s.blockReset r.val = none ∧ s.blockReset (768 + r.val / 32) =
          none)) ∧
    (∃ (id : Nat) (s : State) (c : MgmtCmd),
      s.live.cmds.find? (fun x => x.id == id && x.code == 3 && !x.begun) = some c ∧ s.studyAnswers = true ∧ (c.accepted =
          false → s.studyFull = false) ∧ (c.arg 0 < 24 ∧ (s.wing (c.arg 0)).state ≠ 2) ∧ (if c.accepted = true then
          s.live.cmds.takeWhile (fun x => x.id != c.id) else s.live.cmds).any (fun x => x.id != c.id && x.accepted && targetsClash
          x.target c.target) = false) :=
  ⟨⟨9, cmdState 1 [0], cmdOf 1 [0], by first | decide +kernel | rfl, by first | decide +kernel | rfl, by first | decide +kernel | rfl, by first | decide +kernel | rfl, by first | decide +kernel | rfl⟩,
    ⟨9, cmdState 1 [800], cmdOf 1 [800], 0x11, by first | decide +kernel | rfl, by first | decide +kernel | rfl, by first | decide +kernel | rfl, by first | decide +kernel | rfl⟩,
    ⟨0, { phaseState .draining with harts := [] }, by first | decide +kernel | rfl, by first | decide +kernel | rfl⟩,
    ⟨0, phaseState .draining, by first | decide +kernel | rfl, by first | decide +kernel | rfl⟩,
    ⟨9, cmdState 3 [0], cmdOf 3 [0], by first | decide +kernel | rfl, by first | decide +kernel | rfl, by first | decide +kernel | rfl, by first | decide +kernel | rfl, by first | decide +kernel | rfl⟩⟩

/-- Every clause of ReadmissionsComplete with hypotheses has an instance. -/
theorem witness_readmissions_complete :
    (∃ (id : Nat) (s : State) (c : MgmtCmd),
      s.live.cmds.find? (fun x => x.id == id && x.code == 2 && !x.begun) = some c ∧ s.studyAnswers = true ∧ (c.accepted =
          false → s.studyFull = false) ∧ (s.readmitCheck (c.arg 0) = none ∧ (s.room (c.arg 0)).drains = false) ∧ (s.blockReset
          (c.arg 0) = none ∧ s.blockReset (768 + c.arg 0 / 32) = none) ∧ (if c.accepted = true then s.live.cmds.takeWhile (fun x
          => x.id != c.id) else s.live.cmds).any (fun x => x.id != c.id && x.accepted && targetsClash x.target c.target) = false) ∧
    (∃ (id : Nat) (s : State) (c : MgmtCmd) (st : Nat),
      s.live.cmds.find? (fun x => x.id == id && x.code == 2 && !x.begun) = some c ∧ s.studyAnswers = true ∧ c.accepted = false
          ∧ s.readmitCheck (c.arg 0) = some st) ∧
    (∃ (id : Nat) (s : State) (c : MgmtCmd),
      s.live.cmds.find? (fun x => x.id == id && x.code == 4 && !x.begun) = some c ∧ s.studyAnswers = true ∧ (c.accepted =
          false → s.studyFull = false) ∧ (c.arg 0 < 24 ∧ (s.wing (c.arg 0)).state ≠ 0 ∧ s.unpowered = false) ∧ s.blockReset (768 +
          c.arg 0) = none ∧ (if c.accepted = true then s.live.cmds.takeWhile (fun x => x.id != c.id) else s.live.cmds).any (fun x
          => x.id != c.id && x.accepted && targetsClash x.target c.target) = false) ∧
    (∃ (id : Nat) (s : State) (c : MgmtCmd),
      s.live.cmds.find? (fun x => x.id == id && x.code == 5 && !x.begun) = some c ∧ s.studyAnswers = true ∧ (c.accepted =
          false → s.studyFull = false) ∧ (c.arg 0 < 768 ∧ (s.room (c.arg 0)).cond.state ≠ 3 ∧ ((s.room (c.arg 0)).cond.state = 5 →
          s.goodBanks (c.arg 0) ≠ 0) ∧ (s.room (c.arg 0)).drains = false ∧ s.unpowered = false) ∧ (s.blockReset (c.arg 0) = none ∧
          s.blockReset (768 + c.arg 0 / 32) = none) ∧ (if c.accepted = true then s.live.cmds.takeWhile (fun x => x.id != c.id)
          else s.live.cmds).any (fun x => x.id != c.id && x.accepted && targetsClash x.target c.target) = false) ∧
    (∃ (r : RoomIx) (s : State) (l m : List Nat) (n : Nat),
      ((s.room r.val).phase = .readmitTrain ∧ s.wingLinked (r.val / 32) = true) ∧ l.all (fun x => x < 2304) = true ∧ n =
          (s.trainRoom r.val l m).trainedState r.val) ∧
    (∃ (r : RoomIx) (s : State) (n : Nat),
      (s.room r.val).phase = .readmitBoot ∧ (s.room r.val).bootReport = some n) ∧
    (∃ (r : RoomIx) (s : State),
      (s.room r.val).phase = .readmitResync ∧ s.granted .roomStart r.val = true) ∧
    (∃ (r : RoomIx) (s : State),
      (s.room r.val).phase = .readmitPublish) :=
  ⟨⟨9, (cmdState 2 [0]).modRoom 0 (fun x => { x with cond := { x.cond with state := 2 } }), cmdOf 2 [0], by first | decide +kernel | rfl, by first | decide +kernel | rfl, by first | decide +kernel | rfl, by first | decide +kernel | rfl, by first | decide +kernel | rfl, by first | decide +kernel | rfl⟩,
    ⟨9, cmdState 2 [0], cmdOf 2 [0], 0, by first | decide +kernel | rfl, by first | decide +kernel | rfl, by first | decide +kernel | rfl, by first | decide +kernel | rfl⟩,
    ⟨9, (cmdState 4 [0]).modWing 0 (fun x => { x with state := 1 }), cmdOf 4 [0], by first | decide +kernel | rfl, by first | decide +kernel | rfl, by first | decide +kernel | rfl, by first | decide +kernel | rfl, by first | decide +kernel | rfl, by first | decide +kernel | rfl⟩,
    ⟨9, cmdState 5 [0], cmdOf 5 [0], by first | decide +kernel | rfl, by first | decide +kernel | rfl, by first | decide +kernel | rfl, by first | decide +kernel | rfl, by first | decide +kernel | rfl, by first | decide +kernel | rfl⟩,
    ⟨0, phaseState .readmitTrain, [], [], (((phaseState .readmitTrain).trainRoom 0 [] []).trainedState 0), by first | decide +kernel | rfl, by first | decide +kernel | rfl, by first | decide +kernel | rfl⟩,
    ⟨0, base.modRoom 0 (fun x => { x with phase := .readmitBoot, bootReport := some 3 }), 3, by first | decide +kernel | rfl, by first | decide +kernel | rfl⟩,
    ⟨0, (phaseState .readmitResync).modPower (fun p => { p with issued := [⟨.roomStart, 0, false, 390, 0⟩] }), by first | decide +kernel | rfl, by first | decide +kernel | rfl⟩,
    ⟨0, phaseState .readmitPublish, by first | decide +kernel | rfl⟩⟩

/-- Every clause of FirmwareCommandsComplete with hypotheses has an instance. -/
theorem witness_firmware_commands_complete :
    (∃ (id : Nat) (s : State) (c : MgmtCmd) (l : List Byte),
      s.live.cmds.find? (fun x => x.id == id && x.code == 0x30 && !x.begun) = some c ∧ s.studyAnswers = true ∧ (fwKind (c.arg
          0) = true ∧ tget (c.arg 0) s.live.trials = none ∧ 0 < c.bufLen ∧ c.bufLen ≤ 0x800000) ∧ s.bufRead c = some l ∧
          s.studyFull = false) ∧
    (∃ (id : Nat) (s : State) (c : MgmtCmd) (k : Nat),
      s.live.cmds.find? (fun x => x.id == id && x.code == 0x31 && !x.begun) = some c ∧ s.studyAnswers = true ∧ (k = c.arg 0 ∧
          fwKind k = true ∧ c.arg 1 = 0) ∧ ((s.trialSlot k).isSome = true ∧ s.trialRuns k = false ∧ s.hasStandby k = true ∧
          s.studyFull = false)) ∧
    (∃ (id : Nat) (s : State) (c : MgmtCmd),
      s.live.cmds.find? (fun x => x.id == id && x.code == 0x31 && !x.begun) = some c ∧ s.studyAnswers = true ∧ (fwKind (c.arg
          0) = true ∧ c.arg 1 = 1) ∧ (s.trialRuns (c.arg 0) = true ∧ s.hasStandby (c.arg 0) = true ∧ s.studyFull = false)) ∧
    (∃ (id : Nat) (s : State) (c : MgmtCmd) (k : Nat),
      s.live.cmds.find? (fun x => x.id == id && x.code == 0x31 && !x.begun) = some c ∧ s.studyAnswers = true ∧ (k = c.arg 0 ∧
          fwKind k = true ∧ c.arg 1 = 2) ∧ (s.trialRuns k = true ∧ s.hasStandby k = true ∧ s.studyFull = false)) ∧
    (∃ (id : Nat) (s : State) (c : MgmtCmd),
      s.live.cmds.find? (fun x => x.id == id && x.code == 0x31 && !x.begun) = some c ∧ s.studyAnswers = true ∧ (fwKind (c.arg
          0) = true ∧ c.arg 1 ≤ 2) ∧ ((s.trialSlot (c.arg 0)).isSome = true ∨ c.arg 1 ≠ 0) ∧ (s.trialRuns (c.arg 0) = true) =
          (c.arg 1 ≠ 0) ∧ s.hasStandby (c.arg 0) = false) ∧
    (∃ (kind : Fin 6) (s : State) (x : TrialB),
      tget kind.val s.live.trials = some x ∧ (s.live.trialTmo ≠ 0 ∧ s.live.handover = none)) ∧
    (∃ (s : State) (k w : Nat) (l : List Nat) (m : List (Nat × List Nat)),
      s.live.restarts = (k, w :: l) :: m) ∧
    (∃ (s : State) (k p : Nat),
      s.live.handover = some (.freeze, k, p)) ∧
    (∃ (s : State) (k p : Nat),
      s.live.handover = some (.transfer, k, p) ∧ (k = 1 ∨ k = 2)) ∧
    (∃ (b : Bool) (s : State) (c : Instr),
      s.mayTakeOver (kindOf b) = true ∧ c ∈ [Instr.standbyTakeover b, .mirrorHeartbeatLoss b] ∧ (c = .standbyTakeover b ∨
          s.trialRuns (kindOf b) = true)) :=
  ⟨⟨9, ((cmdState 0x30 [3]).modLive (fun x => { x with cmds := [{ cmdOf 0x30 [3] with bufLen := 1 }] })).putBytes (hostKey 0 0x1000) [5], { cmdOf 0x30 [3] with bufLen := 1 }, [5], by first | decide +kernel | rfl, by first | decide +kernel | rfl, by first | decide +kernel | rfl, by first | decide +kernel | rfl, by first | decide +kernel | rfl⟩,
    ⟨9, fwState0, cmdOf 0x31 [3, 0], 3, by first | decide +kernel | rfl, by first | decide +kernel | rfl, by first | decide +kernel | rfl, by first | decide +kernel | rfl⟩,
    ⟨9, trialState 3 0x31 1, cmdOf 0x31 [3, 1], by first | decide +kernel | rfl, by first | decide +kernel | rfl, by first | decide +kernel | rfl, by first | decide +kernel | rfl⟩,
    ⟨9, trialState 1 0x31 2, cmdOf 0x31 [1, 2], 1, by first | decide +kernel | rfl, by first | decide +kernel | rfl, by first | decide +kernel | rfl, by first | decide +kernel | rfl⟩,
    ⟨9, (trialState 1 0x31 1).modLive (fun x => { x with standby := false }), cmdOf 0x31 [1, 1], by first | decide +kernel | rfl, by first | decide +kernel | rfl, by first | decide +kernel | rfl, by first | decide +kernel | rfl, by first | decide +kernel | rfl, by first | decide +kernel | rfl⟩,
    ⟨1, trialState 1 0 0, ⟨30, 1⟩, by first | decide +kernel | rfl, by first | decide +kernel | rfl⟩,
    ⟨base.modLive (fun x => { x with restarts := [(3, [0, 1])] }), 3, 0, [1], [], by first | decide +kernel | rfl⟩,
    ⟨base.modLive (fun x => { x with handover := some (.freeze, 1, 0) }), 1, 0, by first | decide +kernel | rfl⟩,
    ⟨base.modLive (fun x => { x with handover := some (.transfer, 2, 0) }), 2, 0, by first | decide +kernel | rfl, by first | decide +kernel | rfl⟩,
    ⟨true, trialState 2 0 0, .mirrorHeartbeatLoss true, by first | decide +kernel | rfl, by first | decide +kernel | rfl, by first | decide +kernel | rfl⟩⟩

/-- Every clause of MaintenanceComplete with hypotheses has an instance. -/
theorem witness_maintenance_complete :
    (∃ (id : Nat) (s : State) (c : MgmtCmd) (r n o : Nat),
      s.live.cmds.find? (fun x => x.id == id && x.code == 0x10 && !x.begun) = some c ∧ s.studyAnswers = true ∧ s.localRange
          (c.arg 0) 1 = some (r, n, o) ∧ o < atticSize ∧ (s.flashLogs.pages.contains (pageOf n r o) = false ∧
          s.flashLogs.pages.length < 4096)) ∧
    (∃ (id : Nat) (s : State) (c : MgmtCmd),
      s.live.cmds.find? (fun x => x.id == id && x.code == 0x11 && !x.begun) = some c ∧ s.studyAnswers = true ∧ (c.arg 0 < 768
          ∧ c.arg 1 < 48) ∧ s.bankBusy (c.arg 0) (c.arg 1) = false ∧ s.flashLogs.banks.contains (c.arg 0, c.arg 1) = false) ∧
    (∃ (id : Nat) (s : State) (c : MgmtCmd) (x : ScrubB),
      s.live.cmds.find? (fun x => x.id == id && x.code == 0x12 && !x.begun) = some c ∧ s.studyAnswers = true ∧ (c.accepted =
          false ∧ s.studyFull = false) ∧ s.scrubOf c = some x) ∧
    (∃ (id : Nat) (s : State) (l : List ScrubWord) (x : ScrubB) (c : MgmtCmd),
      s.live.scrubs.find? (fun y => y.cmd == id) = some x ∧ s.live.cmds.find? (fun y => y.id == id) = some c ∧ (s.scrubRuns x
          = true ∧ (s.room x.room).cond.state ≤ 2)) ∧
    (∃ (id : Nat) (s : State) (c : MgmtCmd),
      s.live.cmds.find? (fun x => x.id == id && x.code == 0x20 && !x.begun) = some c ∧ s.studyAnswers = true) ∧
    (∃ (id : Nat) (s : State) (c : MgmtCmd),
      s.live.cmds.find? (fun x => x.id == id && x.code == 0x32 && !x.begun) = some c ∧ s.studyAnswers = true) ∧
    (∃ (id : Nat) (s : State) (c : MgmtCmd) (l : List Byte) (t : State),
      s.live.cmds.find? (fun x => x.id == id && x.code == 0x33 && !x.begun) = some c ∧ s.studyAnswers = true ∧ 32 ≤ c.bufLen ∧
          s.bufRead c = some l ∧ (copyGood l = true ∧ 0x20 + numAt l 0x0C 4 ≤ c.bufLen) ∧ t = s.writeSettingsFrom l) ∧
    (∃ (id : Nat) (s : State) (c : MgmtCmd),
      s.live.cmds.find? (fun x => x.id == id && x.code == 0x40 && !x.begun) = some c ∧ s.studyAnswers = true ∧ (c.accepted =
          false ∧ s.studyFull = false) ∧ (c.arg 0 < 48 ∧ (s.link (c.arg 0)).state = 3)) ∧
    (∃ (id : Nat) (s : State) (c : MgmtCmd),
      s.live.cmds.find? (fun x => x.id == id && x.code == 0x41 && !x.begun) = some c ∧ s.studyAnswers = true ∧ c.arg 0 < 2 ^
          14) ∧
    (∃ (id : Nat) (s : State) (c : MgmtCmd),
      s.live.cmds.find? (fun x => x.id == id && x.code == 0x50 && !x.begun) = some c ∧ s.studyAnswers = true ∧ 6432 ≤ c.bufLen) ∧
    (∃ (id : Nat) (s : State) (c : MgmtCmd),
      s.live.cmds.find? (fun x => x.id == id && x.code == 0x51 && !x.begun) = some c ∧ s.studyAnswers = true) ∧
    (∃ (d : DoorIx) (s : State),
      s.mailboxStudy.busy = true) ∧
    (∃ (d : DoorIx) (s : State) (w : List W64),
      (s.mailboxStudy.busy = false ∧ s.mailboxStudy.req = w)) ∧
    (∃ (s : State) (n : Nat),
      s.mailboxStudy.due = some n ∧ (n < 256 ∧ n ≠ 0x20)) ∧
    (∃ (m : RemapMemory) (o : Nat) (b : Bool) (s : State),
      (s.remap (remapKey m)).words.contains o = false ∧ (s.remap (remapKey m)).words.length < 8) ∧
    (∃ (s : State) (c : MgmtCmd) (st d0 d1 : Nat) (e : Desc),
      c.ring = true ∧ s.descs.find? (fun x => x.id == c.id) = some e) :=
  ⟨⟨9, cmdState 0x10 [0x80000000000000], cmdOf 0x10 [0x80000000000000], 0, 0, 0, by first | decide +kernel | rfl, by first | decide +kernel | rfl, by first | decide +kernel | rfl, by first | decide +kernel | rfl, by first | decide +kernel | rfl⟩,
    ⟨9, cmdState 0x11 [0, 5], cmdOf 0x11 [0, 5], by first | decide +kernel | rfl, by first | decide +kernel | rfl, by first | decide +kernel | rfl, by first | decide +kernel | rfl, by first | decide +kernel | rfl⟩,
    ⟨9, cmdState 0x12 [0xA0000000000000, 512], cmdOf 0x12 [0xA0000000000000, 512], scrubOf0, by first | decide +kernel | rfl, by first | decide +kernel | rfl, by first | decide +kernel | rfl, by first | decide +kernel | rfl⟩,
    ⟨9, scrubState scrubOf0, [⟨3, true⟩], scrubOf0, { cmdOf 0x12 [0xA0000000000000, 512] with accepted := true, begun := true }, by first | decide +kernel | rfl, by first | decide +kernel | rfl, by first | decide +kernel | rfl⟩,
    ⟨9, cmdState 0x20 [0], cmdOf 0x20 [0], by first | decide +kernel | rfl, by first | decide +kernel | rfl⟩,
    ⟨9, cmdState 0x32 [], cmdOf 0x32 [], by first | decide +kernel | rfl, by first | decide +kernel | rfl⟩,
    ⟨9, setState, setCmd, emptySettings, setState.writeSettingsFrom emptySettings, by first | decide +kernel | rfl, by first | decide +kernel | rfl, by first | decide +kernel | rfl, by first | decide +kernel | rfl, by first | decide +kernel | rfl, by first | decide +kernel | rfl⟩,
    ⟨9, { cmdState 0x40 [0] with links := [(0, { state := 3 })] }, cmdOf 0x40 [0], by first | decide +kernel | rfl, by first | decide +kernel | rfl, by first | decide +kernel | rfl, by first | decide +kernel | rfl⟩,
    ⟨9, { cmdState 0x41 [5] with absentDevs := [5] }, cmdOf 0x41 [5], by first | decide +kernel | rfl, by first | decide +kernel | rfl, by first | decide +kernel | rfl⟩,
    ⟨9, cmdState 0x50 [], cmdOf 0x50 [], by first | decide +kernel | rfl, by first | decide +kernel | rfl, by first | decide +kernel | rfl⟩,
    ⟨9, cmdState 0x51 [100], cmdOf 0x51 [100], by first | decide +kernel | rfl, by first | decide +kernel | rfl⟩,
    ⟨0, { base with mailboxStudy := { busy := true } }, by first | decide +kernel | rfl⟩,
    ⟨0, base, List.replicate 8 0, by first | decide +kernel | rfl⟩,
    ⟨{ base with mailboxStudy := { busy := true, due := some 0x14 } }, 0x14, by first | decide +kernel | rfl, by first | decide +kernel | rfl⟩,
    ⟨.study 0, 64, true, base, by first | decide +kernel | rfl, by first | decide +kernel | rfl⟩,
    ⟨cmdState 1 [0], cmdOf 1 [0], 0, 0, 0, descOf [0x10, 7, 0, 0, 0, 0, 0, 0], by first | decide +kernel | rfl, by first | decide +kernel | rfl⟩⟩

/-- Every clause of RoomRegisterWritesComplete with hypotheses has an instance. -/
theorem witness_room_register_writes_complete :
    (∃ (r : RoomIx) (s : State) (a : W16) (v : BitVec 36),
      s.place (localPa 3 r.val 0x28) 8 = .roomMmio r.val 0x28 ∧ (s.room r.val).phase ≠ .inReset) ∧
    (∃ (r : RoomIx) (value : W64) (s : State) (b : Bool),
      s.place (localPa 3 r.val 0x18) 8 = .roomMmio r.val 0x18 ∧ (s.room r.val).phase ≠ .inReset) ∧
    (∃ (r : RoomIx) (value : W64) (s : State),
      s.place (localPa 3 r.val 0xC008) 8 = .roomMmio r.val 0xC008 ∧ (s.room r.val).phase ≠ .inReset) ∧
    (∃ (r : RoomIx) (s : State) (b : Bool) (m : Mailbox),
      s.mailbox r.val = m ∧ m.pending = true) ∧
    (∃ (s : State) (p : PlanB),
      s.plan = some p) :=
  ⟨⟨0, base, 3, 7, by first | decide +kernel | rfl, by first | decide +kernel | rfl⟩,
    ⟨0, 0x40, base, false, by first | decide +kernel | rfl, by first | decide +kernel | rfl⟩,
    ⟨0, 3, base, by first | decide +kernel | rfl, by first | decide +kernel | rfl⟩,
    ⟨0, { base with mailboxes := [(0, { pending := true })] }, true, { pending := true }, by first | decide +kernel | rfl, by first | decide +kernel | rfl⟩,
    ⟨{ base with plan := some {} }, {}, by first | decide +kernel | rfl⟩⟩

/-- Every clause of ManagementProtocolsComplete with hypotheses has an instance. -/
theorem witness_management_protocols_complete :
    (∃ (d : DoorIx) (s : State) (b : Fin 3) (e : Byte),
      s.managed = true) ∧
    (∃ (d : DoorIx) (s : State) (b : Fin 3),
      s.managed = true) ∧
    (∃ (s : State) (p : SensorPlace) (i : Fin 4) (n : Nat) (f e : Byte),
      (s.managed = true ∧ s.boot.recovery = false)) ∧
    (∃ (s : State) (k : Nat) (l : List Byte),
      s.managed = true ∧ (fwKind k = true ∧ s.trialRuns k = false)) ∧
    (∃ (s : State) (k : Nat),
      s.managed = true ∧ (s.boot.state ≠ 2 ∧ s.boot.state ≠ 3) ∧ (fwKind k = true ∧ (s.trialSlot k).isSome = true ∧
          s.trialRuns k = false)) ∧
    (∃ (s : State) (c : Instr) (m : Sent),
      s.strongroomRuns = true ∧ (c, m) ∈ [(Instr.getVersion, Sent.mgmt 0x184 [0x13] []), (.getCapabilities, .mgmt 0x1E1 [14] []), (.negotiateAlgorithms, .mgmt 0x1E3 [0x80, 0x02] []), (.getDigests, .mgmt 0x181 [] (Config.digest 0 Config.certificate)), (.getCertificate, .mgmt 0x182 [] Config.certificate)]) ∧
    (∃ (s : State) (i : Byte) (l : List Byte),
      s.strongroomRuns = true) :=
  ⟨⟨0, hostState, 1, 9, by first | decide +kernel | rfl⟩,
    ⟨0, hostState, 1, by first | decide +kernel | rfl⟩,
    ⟨hostState, .wing 0, 0, 100, 50, 30, by first | decide +kernel | rfl⟩,
    ⟨hostState, 3, [1], by first | decide +kernel | rfl, by first | decide +kernel | rfl⟩,
    ⟨fwState0, 3, by first | decide +kernel | rfl, by first | decide +kernel | rfl, by first | decide +kernel | rfl⟩,
    ⟨hostState, .getVersion, .mgmt 0x184 [0x13] [], by first | decide +kernel | rfl, by first | decide +kernel | rfl⟩,
    ⟨hostState, 1, [2, 3], by first | decide +kernel | rfl⟩⟩

/-- Every clause of TestAccessComplete with hypotheses has an instance. -/
theorem witness_test_access_complete :
    (∃ (s : State) (b : BitVec 43) (n : Byte) (q : Bool),
      s.boot.hold ≠ .power) ∧
    (∃ (s : State) (b : BitVec 43),
      s.boot.hold ≠ .power ∧ s.test.resetN = false) ∧
    (∃ (s : State) (b : BitVec 43),
      s.boot.hold ≠ .power ∧ s.test.resetN = true) ∧
    (∃ (s : State) (n : Fin 1048576) (v : W64),
      s.boot.hold ≠ .power ∧ (s.debugOpen = true ∧ (s.door 0).down = false ∧ s.test.dmactive = true)) ∧
    (∃ (n : Fin 24612) (s : State),
      s.mayDebug n.val = true) ∧
    (∃ (n : Fin 24612) (s : State),
      (s.mayDebug n.val = true ∧ s.debugHalted n.val = true)) ∧
    (∃ (s : State),
      s.debugRuns = true) ∧
    (∃ (g : DebugReg) (s : State) (v : W64),
      (s.debugRuns = true ∧ s.test.cmderr = 0 ∧ s.test.hartsel < 24576) ∧ (s.mayDebug s.test.hartsel = true ∧ s.debugHalted
          s.test.hartsel = true) ∧ s.debugRead (debugHart s.test.hartsel) g = some v) ∧
    (∃ (g : DebugReg) (b : Bool) (s : State),
      (s.debugRuns = true ∧ s.test.cmderr = 0) ∧ (s.mayDebug s.test.hartsel = false ∨ s.debugHalted s.test.hartsel = false)) ∧
    (∃ (n r o : Nat) (s : State) (l : List Byte),
      (s.debugRuns = true ∧ s.test.sberror = 0) ∧ ((n = 4 ∨ n = 8) ∧ s.test.sbaddr.toNat % n = 0 ∧ s.busTarget
          s.test.sbaddr.toNat = true) ∧ s.place s.test.sbaddr.toNat n = .pantry r o ∧ (s.room r).stalled = false ∧ s.memRead
          (.pantry r o) n = .data l) :=
  ⟨⟨hostState, 5, 0x1F, false, by first | decide +kernel | rfl⟩,
    ⟨hostState, 5, by first | decide +kernel | rfl, by first | decide +kernel | rfl⟩,
    ⟨debugState, 5, by first | decide +kernel | rfl, by first | decide +kernel | rfl⟩,
    ⟨debugState, 3, 9, by first | decide +kernel | rfl, by first | decide +kernel | rfl⟩,
    ⟨0, debugState, by first | decide +kernel | rfl⟩,
    ⟨0, debugState.haltHart 0, by first | decide +kernel | rfl⟩,
    ⟨debugState, by first | decide +kernel | rfl⟩,
    ⟨.x 2, debugState.haltHart 0, 5, by first | decide +kernel | rfl, by first | decide +kernel | rfl, by first | decide +kernel | rfl⟩,
    ⟨.x 2, false, debugState, by first | decide +kernel | rfl, by first | decide +kernel | rfl⟩,
    ⟨8, 0, 8, { debugState with test := { debugState.test with sbaddr := 0xA0000000000008 } }, [9, 10, 11, 12, 13, 14, 15, 16], by first | decide +kernel | rfl, by first | decide +kernel | rfl, by first | decide +kernel | rfl, by first | decide +kernel | rfl, by first | decide +kernel | rfl⟩⟩

/-- Every clause of StepRunsFrontCommand with hypotheses has an instance. -/
theorem witness_step_runs_front_command :
    ∃ (s : State),
      s.pending = [] :=
  ⟨base, by first | decide +kernel | rfl⟩

/-- Every clause of StepKeepsCanonicalMemory with hypotheses has an instance. -/
theorem witness_step_keeps_canonical_memory :
    ∃ (s t : State),
      s.Canonical ∧ step s = .next t :=
  ⟨{ base with pending := [.fenceI h0] }, nextOf (exec (.fenceI h0) base), by exact ⟨by decide +kernel, by decide +kernel⟩, rfl⟩

/-- Every clause of EveryCommandEndsWithinItsParts with hypotheses has an instance. -/
theorem witness_every_command_ends_within_its_parts :
    ∃ (c : Instr) (p : Part),
      (p = .pending ∨ p = .fuses ∨ p = .idBlocks) :=
  ⟨.wfi h0, .fuses, by first | decide +kernel | rfl⟩

/-- Every clause of LocalLoadsChangeTheirHartAlone with hypotheses has an instance. -/
theorem witness_local_loads_change_their_hart_alone :
    (∃ (h : HartId) (m : MemForm) (s : State) (x : Xlate) (l : List Byte) (t : State),
      s.canRun h = true ∧ m.wf = true ∧ (formAddress (s.hart h) m.rs1 m.imm).toNat % m.bytes = 0 ∧ s.translate h.room.val
          ((s.hart h).authority h.hart.val) .read .load (formAddress (s.hart h) m.rs1 m.imm) = .ok x ∧ s.memRead (s.place x.pa
          m.bytes) m.bytes = .data l ∧ exec (.load h m) s = .next t) ∧
    (∃ (h : HartId) (a : AtomicForm) (s : State) (x : Xlate) (p : Place) (key : Nat) (l : List Byte) (t : State),
      s.canRun h = true ∧ s.released h a.rl = true ∧ s.reserveTarget h ((s.hart h).reg a.rs1.val) (if a.double then 8 else 4)
          = .ok (x, p, key) ∧ s.memRead p (if a.double then 8 else 4) = .data l ∧ exec (.lr h a) s = .next t) ∧
    (∃ (h : HartId) (w : W32) (s : State) (x : Xlate) (l : List Byte) (t : State) (c : Instr) (op5 n : Nat),
      (c, op5, n) ∈ [(Instr.szGlb h w, 0, 1), (.szGlh h w, 1, 2), (.szGlw h w, 2, 4), (.szGld h w, 3, 8), (.szGlq h w, 4, 16), (.szGlbu h w, 5, 1), (.szGlhu h w, 6, 2), (.szGlwu h w, 7, 4)]
          ∧ s.canRunWord h w custom1 op5 = true ∧ s.released h (szRl w) = true ∧ ((s.hart h).reg (szRs1 w)).toNat % n = 0 ∧
          s.translate h.room.val ((s.hart h).authority h.hart.val) .read .load ((s.hart h).reg (szRs1 w)) = .ok x ∧ x.type ≤ 2 ∧
          s.memRead (s.place x.pa n) n = .data l ∧ exec c s = .next t) :=
  ⟨⟨h0, ⟨3, 1, 0, 8, false, false, false⟩, base, px, [1,2,3,4,5,6,7,8], nextOf (exec (.load h0 ⟨3, 1, 0, 8, false, false, false⟩) base), by first | decide +kernel | rfl, by first | decide +kernel | rfl, by first | decide +kernel | rfl, by first | decide +kernel | rfl, by first | decide +kernel | rfl, by first | decide +kernel | rfl⟩,
    ⟨h0, ⟨3, 1, 0, true, false, false⟩, base, px, .pantry 0 0, pantryKey 0 0, [1,2,3,4,5,6,7,8], nextOf (exec (.lr h0 ⟨3, 1, 0, true, false, false⟩) base), by first | decide +kernel | rfl, by first | decide +kernel | rfl, by first | decide +kernel | rfl, by first | decide +kernel | rfl, by first | decide +kernel | rfl⟩,
    ⟨h0, 0x1800822B, base, px, [1,2,3,4,5,6,7,8], nextOf (exec (.szGld h0 0x1800822B) base), .szGld h0 0x1800822B, 3, 8, by first | decide +kernel | rfl, by first | decide +kernel | rfl, by first | decide +kernel | rfl, by first | decide +kernel | rfl, by first | decide +kernel | rfl, by first | decide +kernel | rfl, by first | decide +kernel | rfl, by first | decide +kernel | rfl⟩⟩

/-- Every clause of LocalStoresChangeTheirBytesAlone with hypotheses has an instance. -/
theorem witness_local_stores_change_their_bytes_alone :
    ∃ (h : HartId) (m : MemForm) (s : State) (x : Xlate) (t : State) (r o k : Nat),
      s.canRun h = true ∧ m.wf = true ∧ (formAddress (s.hart h) m.rs1 m.imm).toNat % m.bytes = 0 ∧ s.translate h.room.val
          ((s.hart h).authority h.hart.val) .write .store (formAddress (s.hart h) m.rs1 m.imm) = .ok x ∧ x.type ≤ 2 ∧ s.place x.pa
          m.bytes = .pantry r o ∧ s.writeCode (.pantry r o) (toBytes m.bytes ((s.hart h).storeValue m).toNat) = 0 ∧ exec (.store h
          m) s = .next t ∧ (k < pantryKey r o ∨ pantryKey r o + m.bytes ≤ k) :=
  ⟨h0, ⟨2, 1, 0, 8, false, false, false⟩, base, px, nextOf (exec (.store h0 ⟨2, 1, 0, 8, false, false, false⟩) base), 0, 0, pantryKey 0 8, by first | decide +kernel | rfl, by first | decide +kernel | rfl, by first | decide +kernel | rfl, by first | decide +kernel | rfl, by first | decide +kernel | rfl, by first | decide +kernel | rfl, by first | decide +kernel | rfl, by first | decide +kernel | rfl, by first | decide +kernel | rfl⟩

/-- Every clause of PantryReadsBackWhatWasWritten with hypotheses has an instance. -/
theorem witness_pantry_reads_back_what_was_written :
    (∃ (s : State) (r o : Nat) (l : List Byte) (writer : Option Nat),
      l ≠ [] ∧ s.writeCode (.pantry r o) l = 0) ∧
    (∃ (s : State) (r o k : Nat) (l : List Byte) (writer : Option Nat),
      (k < pantryKey r o ∨ pantryKey r o + l.length ≤ k) ∧ (tget k s.mem).isSome = true) :=
  ⟨⟨base, 0, 3, [7, 8], none, by first | decide +kernel | rfl, by first | decide +kernel | rfl⟩,
    ⟨base, 0, 3, pantryKey 0 5, [7, 8], none, by first | decide +kernel | rfl, by first | decide +kernel | rfl⟩⟩

/-- Every clause of DummyQueuesItsEntry with hypotheses has an instance. -/
theorem witness_dummy_queues_its_entry :
    ∃ (h : HartId) (w : W32) (s : State),
      s.canRunWord h w custom0 4 = true ∧ 0 < ((s.hart h).reg (szRs1 w)).toNat ∧ ((s.hart h).reg (szRs1 w)).toNat ≤ 8192 ∧
          (s.array h.room.val).queue.length < 8 ∧ (s.array h.room.val).ownedBy h.hart.val = true :=
  ⟨h0, 0x2001010B, ownedState, by first | decide +kernel | rfl, by first | decide +kernel | rfl, by first | decide +kernel | rfl, by first | decide +kernel | rfl, by first | decide +kernel | rfl⟩

/-- Every clause of Fp32MaxAndMinAreOrders with hypotheses has an instance. -/
theorem witness_fp32_max_and_min_are_orders :
    (∃ (x y : Nat),
      x < 2 ^ 32 ∧ y < 2 ^ 32) ∧
    (∃ (x y z : Nat),
      x < 2 ^ 32 ∧ y < 2 ^ 32 ∧ z < 2 ^ 32) ∧
    (∃ (x y : Nat),
      fp32.value x = .nan) ∧
    (∃ (x y mx my : Nat) (nx ny : Bool) (ex ey : Int),
      x < 2 ^ 32 ∧ y < 2 ^ 32 ∧ fp32.value x = .fin nx mx ex ∧ fp32.value y = .fin ny my ey ∧ (if nx then -1 else 1) * ((mx *
          2 ^ (ex + 149).toNat : Nat) : Int) < (if ny then -1 else 1) * ((my * 2 ^ (ey + 149).toNat : Nat) : Int)) ∧
    (∃ (x y : Nat) (neg : Bool),
      x < 2 ^ 32 ∧ y < 2 ^ 32 ∧ fp32.value x = .inf neg ∧ fp32.value y ≠ .nan) :=
  ⟨⟨0x3F800000, 0x7FC00001, by first | decide +kernel | rfl, by first | decide +kernel | rfl⟩,
    ⟨0x3F800000, 0x7FC00001, 0x80000000, by first | decide +kernel | rfl, by first | decide +kernel | rfl, by first | decide +kernel | rfl⟩,
    ⟨0x7FC00001, 0x3F800000, by first | decide +kernel | rfl⟩,
    ⟨0x80000001, 0x3F800000, 1, 0x800000, true, false, -149, -23, by first | decide +kernel | rfl, by first | decide +kernel | rfl, by first | decide +kernel | rfl, by first | decide +kernel | rfl, by first | decide +kernel | rfl⟩,
    ⟨0xFF800000, 0x3F800000, true, by first | decide +kernel | rfl, by first | decide +kernel | rfl, by first | decide +kernel | rfl, by first | decide +kernel | rfl⟩⟩

/-- Every clause of LeaseReleaseFreesOnlyTheCallersLease with hypotheses has an instance. -/
theorem witness_lease_release_frees_only_the_callers_lease :
    (∃ (old : Nat) (c : W32) (e : W16),
      fld old 55 48 = 1 ∧ fld old 31 0 = c.toNat ∧ fld old 47 32 = e.toNat) ∧
    (∃ (old : Nat) (c : W32) (e : W16),
      (¬(fld old 55 48 = 1 ∧ fld old 31 0 = c.toNat ∧ fld old 47 32 = e.toNat))) ∧
    (∃ (h : HartId) (w : W32) (s : State),
      s.canRunWord h w custom1 0x19 = true ∧ s.hasStores h = true) :=
  ⟨⟨0x0001000900000007, 7, 9, by first | decide +kernel | rfl, by first | decide +kernel | rfl, by first | decide +kernel | rfl⟩,
    ⟨0x0001000900000007, 7, 8, by first | decide +kernel | rfl⟩,
    ⟨h0, 0xC800822B, storingState, by first | decide +kernel | rfl, by first | decide +kernel | rfl⟩⟩

/-- Every clause of AtticViewsMapEveryOffset with hypotheses has an instance. -/
theorem witness_attic_views_map_every_offset :
    (∃ (o : Nat),
      o < 0xC000000) ∧
    (∃ (b w : Nat),
      b < 48 ∧ w < 0x400000) :=
  ⟨⟨0xBFFFFFF, by first | decide +kernel | rfl⟩,
    ⟨47, 0x3FFFFF, by first | decide +kernel | rfl, by first | decide +kernel | rfl⟩⟩

end Sys2Proof.Tests
end

/-! What every command can change, and from it the invariant of the stored data (O51). -/
namespace Sys2Proof.Machine

/-- Every command ends in a next state, changes parts of its footprint alone and keeps memory canonical: the lemma of
its own meaning says so. -/
theorem exec_effect (i : Instr) (s : State) : EffectR (footprint i) s (exec i s) := by
  cases i with
  | load h m => exact execLoad_effect h m s
  | store h m => exact execStore_effect h m s
  | amo h op a => exact execAmo_effect h op a s
  | lr h a => exact execLr_effect h a s
  | sc h a => exact execSc_effect h a s
  | fence h pred succ => exact execFence_effect h pred succ s
  | fenceI h => exact execFenceI_effect h s
  | sfenceVma h rs1 rs2 => exact execSfenceVma_effect h rs1 rs2 s
  | wfi h => exact execWfi_effect h s
  | satpWrite h value => exact execSatpWrite_effect h value s
  | szGstatusCsrAccess h op imm rd src => exact execSzGstatusCsrAccess_effect h op imm rd src s
  | machineTimerExpiry h => exact execMachineTimerExpiry_effect h s
  | interruptTaken h => exact execInterruptTaken_effect h s
  | szPass h w => exact execSzPass_effect h w s
  | szExport h w => exact execSzExport_effect h w s
  | szStage h w => exact execSzStage_effect h w s
  | szModeQuery h w => exact execSzModeQuery_effect h w s
  | szModeClaim h w => exact execSzModeClaim_effect h w s
  | szModeRelease h w => exact execSzModeRelease_effect h w s
  | szDummy h w => exact execSzDummy_effect h w s
  | szGlb h w => exact execSzGlb_effect h w s
  | szGlh h w => exact execSzGlh_effect h w s
  | szGlw h w => exact execSzGlw_effect h w s
  | szGld h w => exact execSzGld_effect h w s
  | szGlq h w => exact execSzGlq_effect h w s
  | szGlbu h w => exact execSzGlbu_effect h w s
  | szGlhu h w => exact execSzGlhu_effect h w s
  | szGlwu h w => exact execSzGlwu_effect h w s
  | szGsb h w => exact execSzGsb_effect h w s
  | szGsh h w => exact execSzGsh_effect h w s
  | szGsw h w => exact execSzGsw_effect h w s
  | szGsd h w => exact execSzGsd_effect h w s
  | szGsq h w => exact execSzGsq_effect h w s
  | szXaadd h w => exact execSzXaadd_effect h w s
  | szAmofaddW h w => exact execSzAmofaddW_effect h w s
  | szAmofmaxW h w => exact execSzAmofmaxW_effect h w s
  | szAmofminW h w => exact execSzAmofminW_effect h w s
  | szAmocasW h w => exact execSzAmocasW_effect h w s
  | szAmocasD h w => exact execSzAmocasD_effect h w s
  | szAmocasQ h w => exact execSzAmocasQ_effect h w s
  | szLacq h w => exact execSzLacq_effect h w s
  | szLrel h w => exact execSzLrel_effect h w s
  | szVfence h w => exact execSzVfence_effect h w s
  | viewFenceComplete h => exact execViewFenceComplete_effect h s
  | szAvu h w => exact execSzAvu_effect h w s
  | szDwq h w => exact execSzDwq_effect h w s
  | szSignalSet h w => exact execSzSignalSet_effect h w s
  | szSignalClr h w => exact execSzSignalClr_effect h w s
  | szSignalAdd h w => exact execSzSignalAdd_effect h w s
  | szWait h w => exact execSzWait_effect h w s
  | szWaitMet h => exact execSzWaitMet_effect h s
  | szWaitTimeout h => exact execSzWaitTimeout_effect h s
  | szRbar h w => exact execSzRbar_effect h w s
  | szRbarTimeout h => exact execSzRbarTimeout_effect h s
  | szColl h w => exact execSzColl_effect h w s
  | szGbar h w => exact execSzGbar_effect h w s
  | szGbarTimeout h => exact execSzGbarTimeout_effect h s
  | szSpawn h w => exact execSzSpawn_effect h w s
  | szJoin h w => exact execSzJoin_effect h w s
  | szExit h w => exact execSzExit_effect h w s
  | requestTimeout r tag => exact execRequestTimeout_effect r tag s
  | responseReceive island p => exact execResponseReceive_effect island p s
  | tagHoldExpiry island tag => exact execTagHoldExpiry_effect island tag s
  | stageStart r => exact execStageStart_effect r s
  | stageComplete r => exact execStageComplete_effect r s
  | stageTimeout r => exact execStageTimeout_effect r s
  | arrayPassIssue r => exact execArrayPassIssue_effect r s
  | arrayPassComplete r => exact execArrayPassComplete_effect r s
  | arraySlotTimeout r => exact execArraySlotTimeout_effect r s
  | arrayExportStart r => exact execArrayExportStart_effect r s
  | arrayExportComplete r => exact execArrayExportComplete_effect r s
  | arrayImportStart r => exact execArrayImportStart_effect r s
  | arrayImportComplete r => exact execArrayImportComplete_effect r s
  | arrayDummyStart r => exact execArrayDummyStart_effect r s
  | arrayDummyComplete r => exact execArrayDummyComplete_effect r s
  | arrayStepDownStart r => exact execArrayStepDownStart_effect r s
  | arrayIdle r => exact execArrayIdle_effect r s
  | arrayWakeGrant r => exact execArrayWakeGrant_effect r s
  | arrayFlush r => exact execArrayFlush_effect r s
  | arrayForceRelease r => exact execArrayForceRelease_effect r s
  | arraySbCfgWrite r writer value => exact execArraySbCfgWrite_effect r writer value s
  | avuDispatch r => exact execAvuDispatch_effect r s
  | attnDispatch r => exact execAttnDispatch_effect r s
  | avuMatvec r run => exact execAvuMatvec_effect r run s
  | avuExport r run => exact execAvuExport_effect r run s
  | avuVscan r run => exact execAvuVscan_effect r run s
  | avuAttnBlock r run => exact execAvuAttnBlock_effect r run s
  | mergeUnitRecord r entry row => exact execMergeUnitRecord_effect r entry row s
  | avuCommandComplete r => exact execAvuCommandComplete_effect r s
  | avuFlush r => exact execAvuFlush_effect r s
  | atticRequestEnter r q => exact execAtticRequestEnter_effect r q s
  | atticRequestPerform r id faults => exact execAtticRequestPerform_effect r id faults s
  | stairReadRetry r id word correct => exact execStairReadRetry_effect r id word correct s
  | atticAtomic r banked off op => exact execAtticAtomic_effect r banked off op s
  | atticRefresh r bank postpone => exact execAtticRefresh_effect r bank postpone s
  | atticTempSample r l0 l1 l2 => exact execAtticTempSample_effect r l0 l1 l2 s
  | stairRelockHoldEnd r => exact execStairRelockHoldEnd_effect r s
  | stairRelockEnd r => exact execStairRelockEnd_effect r s
  | stairRecalStart r lane => exact execStairRecalStart_effect r lane s
  | stairRecalRetrainEnd r failed => exact execStairRecalRetrainEnd_effect r failed s
  | stairRecalResume r => exact execStairRecalResume_effect r s
  | stairTraining r found => exact execStairTraining_effect r found s
  | atticHardStop r => exact execAtticHardStop_effect r s
  | islandDown c => exact execIslandDown_effect c s
  | reqRd q => exact execReqRd_effect q s
  | reqWr q => exact execReqWr_effect q s
  | reqSwap q => exact execReqSwap_effect q s
  | reqAdd q => exact execReqAdd_effect q s
  | reqAnd q => exact execReqAnd_effect q s
  | reqOr q => exact execReqOr_effect q s
  | reqXor q => exact execReqXor_effect q s
  | reqMin q => exact execReqMin_effect q s
  | reqMax q => exact execReqMax_effect q s
  | reqMinu q => exact execReqMinu_effect q s
  | reqMaxu q => exact execReqMaxu_effect q s
  | reqXaAdd q => exact execReqXaAdd_effect q s
  | reqFadd q => exact execReqFadd_effect q s
  | reqFmax q => exact execReqFmax_effect q s
  | reqFmin q => exact execReqFmin_effect q s
  | reqCas q => exact execReqCas_effect q s
  | reqLeaseAcq q => exact execReqLeaseAcq_effect q s
  | reqLeaseRel q => exact execReqLeaseRel_effect q s
  | reqSet q => exact execReqSet_effect q s
  | reqClr q => exact execReqClr_effect q s
  | reqSignalAdd q => exact execReqSignalAdd_effect q s
  | msgSpawn q m => exact execMsgSpawn_effect q m s
  | msgExitNotice q child parent status value => exact execMsgExitNotice_effect q child parent status value s
  | msgColl q c => exact execMsgColl_effect q c s
  | noticeSlow q subject b => exact execNoticeSlow_effect q subject b s
  | noticeAbsent q n => exact execNoticeAbsent_effect q n s
  | noticeReset q n => exact execNoticeReset_effect q n s
  | hallPacketRoute w step => exact execHallPacketRoute_effect w step s
  | hallRtSwitch who w => exact execHallRtSwitch_effect who w s
  | hallRtEntryWrite who w bank entry value => exact execHallRtEntryWrite_effect who w bank entry value s
  | edgeDetect w port => exact execEdgeDetect_effect w port s
  | edgeRebuild => exact execEdgeRebuild_effect s
  | hallReissue island tag => exact execHallReissue_effect island tag s
  | landingCombine w id m0 level node => exact execLandingCombine_effect w id m0 level node s
  | combinedXaaddArrival w q => exact execCombinedXaaddArrival_effect w q s
  | combineWinExpiry w addr cls => exact execCombineWinExpiry_effect w addr cls s
  | regWindowEnd => exact execRegWindowEnd_effect s
  | regCtrlClear who queue => exact execRegCtrlClear_effect who queue s
  | regClassCfgWrite who queue cls value => exact execRegClassCfgWrite_effect who queue cls value s
  | fuseLoad die => exact execFuseLoad_effect die s
  | moduleSideband die m => exact execModuleSideband_effect die m s
  | moduleMainbandTrain die m => exact execModuleMainbandTrain_effect die m s
  | moduleAdapterInit die m => exact execModuleAdapterInit_effect die m s
  | lctlCap die m msg => exact execLctlCap_effect die m msg s
  | lctlCrd die m addr => exact execLctlCrd_effect die m addr s
  | moduleCreditInit die m => exact execModuleCreditInit_effect die m s
  | moduleTrainFail die m => exact execModuleTrainFail_effect die m s
  | moduleErrorDown die m retries burst => exact execModuleErrorDown_effect die m retries burst s
  | porchPacketRoute step => exact execPorchPacketRoute_effect step s
  | flitData l f packets more => exact execFlitData_effect l f packets more s
  | flitIdle l f => exact execFlitIdle_effect l f s
  | flitNak l f => exact execFlitNak_effect l f s
  | flitHeartbeat l f body state => exact execFlitHeartbeat_effect l f body state s
  | flitTime l f t => exact execFlitTime_effect l f t s
  | lctlInit l f body => exact execLctlInit_effect l f body s
  | lctlInitAck l f body => exact execLctlInitAck_effect l f body s
  | lctlDrain l f reason => exact execLctlDrain_effect l f reason s
  | lctlDrainDone l f => exact execLctlDrainDone_effect l f s
  | lctlGoodbye l f cause => exact execLctlGoodbye_effect l f cause s
  | nakRepeatTimer l => exact execNakRepeatTimer_effect l s
  | replayTimeout l => exact execReplayTimeout_effect l s
  | heartbeatSend l => exact execHeartbeatSend_effect l s
  | heartbeatSilent l => exact execHeartbeatSilent_effect l s
  | linkSignalLoss l => exact execLinkSignalLoss_effect l s
  | linkTraining l ok => exact execLinkTraining_effect l ok s
  | linkRetrainTimer l => exact execLinkRetrainTimer_effect l s
  | linkAdmit who l => exact execLinkAdmit_effect who l s
  | linkRecalCtrl who l => exact execLinkRecalCtrl_effect who l s
  | linkRecalRequest l corrected uncorrected => exact execLinkRecalRequest_effect l corrected uncorrected s
  | linkRecalGrant l => exact execLinkRecalGrant_effect l s
  | linkRecalRetrainEnd l ok => exact execLinkRecalRetrainEnd_effect l ok s
  | linkRecalResume l => exact execLinkRecalResume_effect l s
  | linkCfgWrite who l value => exact execLinkCfgWrite_effect who l value s
  | fabricReissue island tag => exact execFabricReissue_effect island tag s
  | fabTableRebuild => exact execFabTableRebuild_effect s
  | fabCtrlSwitch who => exact execFabCtrlSwitch_effect who s
  | fabAbsentClr who d => exact execFabAbsentClr_effect who d s
  | absentProbe d => exact execAbsentProbe_effect d s
  | absentProbeTimeout d => exact execAbsentProbeTimeout_effect d s
  | timeFlitSend l => exact execTimeFlitSend_effect l s
  | timeParentLoss => exact execTimeParentLoss_effect s
  | collAllReduce r slot => exact execCollAllReduce_effect r slot s
  | collReduceScatter r slot => exact execCollReduceScatter_effect r slot s
  | collAllGather r slot => exact execCollAllGather_effect r slot s
  | collAllToAll r slot => exact execCollAllToAll_effect r slot s
  | collBroadcast r slot => exact execCollBroadcast_effect r slot s
  | collBarrier r slot => exact execCollBarrier_effect r slot s
  | collLseMerge r slot => exact execCollLseMerge_effect r slot s
  | collTopkMerge r slot => exact execCollTopkMerge_effect r slot s
  | collectiveTimeout r slot => exact execCollectiveTimeout_effect r slot s
  | collKeptEndExpiry id m0 => exact execCollKeptEndExpiry_effect id m0 s
  | sqTail d ring value => exact execSqTail_effect d ring value s
  | cqHead d ring value => exact execCqHead_effect d ring value s
  | descriptorFetch d host => exact execDescriptorFetch_effect d host s
  | descNop id => exact execDescNop_effect id s
  | descJob id list => exact execDescJob_effect id list s
  | jobComplete id => exact execJobComplete_effect id s
  | descDma id => exact execDescDma_effect id s
  | descMgmt id => exact execDescMgmt_effect id s
  | completionWrite c => exact execCompletionWrite_effect c s
  | msiXCoalesceTimer c => exact execMsiXCoalesceTimer_effect c s
  | eventWrite d => exact execEventWrite_effect d s
  | doorCtrlWrite who d value => exact execDoorCtrlWrite_effect who d value s
  | sqCfgWrite who ring value => exact execSqCfgWrite_effect who ring value s
  | cqCfgWrite who ring value => exact execCqCfgWrite_effect who ring value s
  | bar0Access a => exact execBar0Access_effect a s
  | bar2Access a => exact execBar2Access_effect a s
  | perstN d => exact execPerstN_effect d s
  | hostLinkLoss d => exact execHostLinkLoss_effect d s
  | hostLost d => exact execHostLost_effect d s
  | doorRelease who d => exact execDoorRelease_effect who d s
  | doorAdopt who d ring => exact execDoorAdopt_effect who d ring s
  | doorDown d => exact execDoorDown_effect d s
  | roomDrain id => exact execRoomDrain_effect id s
  | drainEmpty r => exact execDrainEmpty_effect r s
  | drainForce r => exact execDrainForce_effect r s
  | roomReadmit id => exact execRoomReadmit_effect id s
  | readmitTrain r found => exact execReadmitTrain_effect r found s
  | readmitBoot r => exact execReadmitBoot_effect r s
  | readmitResync r => exact execReadmitResync_effect r s
  | readmitPublish r => exact execReadmitPublish_effect r s
  | wingDrain id => exact execWingDrain_effect id s
  | wingReadmit id => exact execWingReadmit_effect id s
  | roomReset id => exact execRoomReset_effect id s
  | pageRetire id => exact execPageRetire_effect id s
  | bankRetire id => exact execBankRetire_effect id s
  | mgmtScrub id => exact execMgmtScrub_effect id s
  | scrubGranule id words => exact execScrubGranule_effect id words s
  | logRead id => exact execLogRead_effect id s
  | fwStage id => exact execFwStage_effect id s
  | fwActivate id => exact execFwActivate_effect id s
  | fwCommit id => exact execFwCommit_effect id s
  | fwRevert id => exact execFwRevert_effect id s
  | settingsRead id => exact execSettingsRead_effect id s
  | settingsWrite id => exact execSettingsWrite_effect id s
  | mgmtLinkRecal id => exact execMgmtLinkRecal_effect id s
  | absentClear id => exact execAbsentClear_effect id s
  | sensorRead id => exact execSensorRead_effect id s
  | powerCap id => exact execPowerCap_effect id s
  | mailboxGo who => exact execMailboxGo_effect who s
  | mailboxFinal => exact execMailboxFinal_effect s
  | treeSubmit h value => exact execTreeSubmit_effect h value s
  | treeOpen r => exact execTreeOpen_effect r s
  | treeClose r => exact execTreeClose_effect r s
  | treePrep r => exact execTreePrep_effect r s
  | treeKvput r => exact execTreeKvput_effect r s
  | treeTopk r => exact execTreeTopk_effect r s
  | treeAccept r => exact execTreeAccept_effect r s
  | treeCommit r => exact execTreeCommit_effect r s
  | treeRollback r => exact execTreeRollback_effect r s
  | treeFlush r => exact execTreeFlush_effect r s
  | dwProgramStart k => exact execDwProgramStart_effect k s
  | endStep k => exact execEndStep_effect k s
  | dwMove k => exact execDwMove_effect k s
  | dwFill k => exact execDwFill_effect k s
  | dwGather k => exact execDwGather_effect k s
  | dwScatter k => exact execDwScatter_effect k s
  | dwLoop k => exact execDwLoop_effect k s
  | dwWait k => exact execDwWait_effect k s
  | dwWaitMet k => exact execDwWaitMet_effect k s
  | dwWaitTimeout k => exact execDwWaitTimeout_effect k s
  | dwSignal k => exact execDwSignal_effect k s
  | dwProgramComplete k => exact execDwProgramComplete_effect k s
  | dwProgramError k => exact execDwProgramError_effect k s
  | dwCqConsWrite r value => exact execDwCqConsWrite_effect r value s
  | dwCqCfgWrite r base value => exact execDwCqCfgWrite_effect r base value s
  | dwFlush r c => exact execDwFlush_effect r c s
  | dwRestart r c => exact execDwRestart_effect r c s
  | roomTlbiAll r => exact execRoomTlbiAll_effect r s
  | roomTlbiAsid r asid => exact execRoomTlbiAsid_effect r asid s
  | roomTlbiAsidVpn r asid vpn => exact execRoomTlbiAsidVpn_effect r asid vpn s
  | roomTlbiVpn r vpn => exact execRoomTlbiVpn_effect r vpn s
  | roomIrqRouteWrite r machine value => exact execRoomIrqRouteWrite_effect r machine value s
  | errConsWrite r value => exact execErrConsWrite_effect r value s
  | wmbPending r lost => exact execWmbPending_effect r lost s
  | registerWrite who pa size value => exact execRegisterWrite_effect who pa size value s
  | floorPlanUpdate => exact execFloorPlanUpdate_effect s
  | railFault rail => exact execRailFault_effect rail s
  | headroomAlarm island => exact execHeadroomAlarm_effect island s
  | headroomRelief island stays => exact execHeadroomRelief_effect island stays s
  | coreRaise => exact execCoreRaise_effect s
  | headroomRecovery => exact execHeadroomRecovery_effect s
  | avsPoll ok mv amps => exact execAvsPoll_effect ok mv amps s
  | avsRetry ok => exact execAvsRetry_effect ok s
  | grantRequest kind r => exact execGrantRequest_effect kind r s
  | grantIssue w fall => exact execGrantIssue_effect w fall s
  | accountShareRecompute => exact execAccountShareRecompute_effect s
  | powerCapLoop watts => exact execPowerCapLoop_effect watts s
  | pwrCapWrite who value => exact execPwrCapWrite_effect who value s
  | refLoss ref => exact execRefLoss_effect ref s
  | refRelock ref => exact execRefRelock_effect ref s
  | sensorSample place values => exact execSensorSample_effect place values s
  | sensorInvalid sensor => exact execSensorInvalid_effect sensor s
  | throttleStep r => exact execThrottleStep_effect r s
  | slowNoticeSend r => exact execSlowNoticeSend_effect r s
  | thermalTrip place => exact execThermalTrip_effect place s
  | tripRelease => exact execTripRelease_effect s
  | roomStopGrace r => exact execRoomStopGrace_effect r s
  | roomStopClocks r => exact execRoomStopClocks_effect r s
  | roomStopNotice r => exact execRoomStopNotice_effect r s
  | roomStopPublish r => exact execRoomStopPublish_effect r s
  | readmissible r => exact execReadmissible_effect r s
  | slopeFit => exact execSlopeFit_effect s
  | slopeCapStep => exact execSlopeCapStep_effect s
  | thermCoolWrite who value => exact execThermCoolWrite_effect who value s
  | telemetryStale => exact execTelemetryStale_effect s
  | thermCfgWrite who value => exact execThermCfgWrite_effect who value s
  | flowOkLoss => exact execFlowOkLoss_effect s
  | pwrWarn => exact execPwrWarn_effect s
  | deviceStopDrainEnd => exact execDeviceStopDrainEnd_effect s
  | commitPoint => exact execCommitPoint_effect s
  | deviceStopResume flow => exact execDeviceStopResume_effect flow s
  | keepWarmStart r => exact execKeepWarmStart_effect r s
  | keepWarmStop r => exact execKeepWarmStop_effect r s
  | cycleCountSave => exact execCycleCountSave_effect s
  | dutyRotation => exact execDutyRotation_effect s
  | powerOn => exact execPowerOn_effect s
  | pwrGoodLow => exact execPwrGoodLow_effect s
  | resetNLow => exact execResetNLow_effect s
  | studyWatchdogExpiry => exact execStudyWatchdogExpiry_effect s
  | deviceReset who key => exact execDeviceReset_effect who key s
  | hostGo who key => exact execHostGo_effect who key s
  | bootRetry who key => exact execBootRetry_effect who key s
  | wingReset w => exact execWingReset_effect w s
  | porchReset p => exact execPorchReset_effect p s
  | blockResetRequest b => exact execBlockResetRequest_effect b s
  | blockSettleEnd b => exact execBlockSettleEnd_effect b s
  | blockSettleTimeout b => exact execBlockSettleTimeout_effect b s
  | blockRelease b => exact execBlockRelease_effect b s
  | optionLoad => exact execOptionLoad_effect s
  | bootPhaseFuses => exact execBootPhaseFuses_effect s
  | bootPhaseOption => exact execBootPhaseOption_effect s
  | bootPhaseStrongroomRom selfTest => exact execBootPhaseStrongroomRom_effect selfTest s
  | bootPhaseStudyFirmware neighbour => exact execBootPhaseStudyFirmware_effect neighbour s
  | bootPhaseHallStairs => exact execBootPhaseHallStairs_effect s
  | imageBroadcast kind failed => exact execImageBroadcast_effect kind failed s
  | roomBootResult r value => exact execRoomBootResult_effect r value s
  | roomBootTimeout r => exact execRoomBootTimeout_effect r s
  | bootPhaseFwBroadcast => exact execBootPhaseFwBroadcast_effect s
  | bootPhaseLinks => exact execBootPhaseLinks_effect s
  | bootPhaseReady => exact execBootPhaseReady_effect s
  | bootPhaseTimeout => exact execBootPhaseTimeout_effect s
  | failedStart => exact execFailedStart_effect s
  | errorRecordPost e => exact execErrorRecordPost_effect e s
  | ceWindowEnd cause die room => exact execCeWindowEnd_effect cause die room s
  | rowRepairHoldEnd r bank row => exact execRowRepairHoldEnd_effect r bank row s
  | rowRepairSwitch r bank row => exact execRowRepairSwitch_effect r bank row s
  | rowRepairLog r bank row => exact execRowRepairLog_effect r bank row s
  | wordRemap m off uncorrectable => exact execWordRemap_effect m off uncorrectable s
  | fwTrialTimeout kind => exact execFwTrialTimeout_effect kind s
  | mirrorHeartbeatLoss hearth => exact execMirrorHeartbeatLoss_effect hearth s
  | handoverTransfer => exact execHandoverTransfer_effect s
  | handoverSwitch => exact execHandoverSwitch_effect s
  | standbyTakeover hearth => exact execStandbyTakeover_effect hearth s
  | wingControllerRestart => exact execWingControllerRestart_effect s
  | setEndpointId d binding eid => exact execSetEndpointId_effect d binding eid s
  | pldmBaseDiscovery d binding => exact execPldmBaseDiscovery_effect d binding s
  | pldmPlatform q => exact execPldmPlatform_effect q s
  | pldmFirmwareUpdate q => exact execPldmFirmwareUpdate_effect q s
  | getVersion => exact execGetVersion_effect s
  | getCapabilities => exact execGetCapabilities_effect s
  | negotiateAlgorithms => exact execNegotiateAlgorithms_effect s
  | getDigests => exact execGetDigests_effect s
  | getCertificate => exact execGetCertificate_effect s
  | spdmChallenge nonce => exact execSpdmChallenge_effect nonce s
  | getMeasurements index nonce => exact execGetMeasurements_effect index nonce s
  | tapExtest cells => exact execTapExtest_effect cells s
  | tapSamplePreload cells => exact execTapSamplePreload_effect cells s
  | tapIdcode => exact execTapIdcode_effect s
  | tapClamp => exact execTapClamp_effect s
  | tapHighz => exact execTapHighz_effect s
  | tapBypass code => exact execTapBypass_effect code s
  | tapDtmcs dmiReset => exact execTapDtmcs_effect dmiReset s
  | tapDmi a => exact execTapDmi_effect a s
  | dbgAccessRegister write reg => exact execDbgAccessRegister_effect write reg s
  | dbgSystemBusAccess write bytes => exact execDbgSystemBusAccess_effect write bytes s
  | dbgNdmreset => exact execDbgNdmreset_effect s
  | hartHalt n => exact execHartHalt_effect n s
  | hartResume n => exact execHartResume_effect n s
  | samplingEdge straps => exact execSamplingEdge_effect straps s
  | stopResetWaitEnd => exact execStopResetWaitEnd_effect s
  | dataLinkUp d => exact execDataLinkUp_effect d s
  | hostTimeout => exact execHostTimeout_effect s
  | configRequest d q => exact execConfigRequest_effect d q s
  | powerLoss => exact execPowerLoss_effect s
  | supplyDroop r => exact execSupplyDroop_effect r s

/-- The queue, the fuses (R2) and the identity blocks (R466) stand in no command's footprint. -/
theorem footprint_spares_queue_and_identity (i : Instr) (p : Part) (hp : p = .pending ∨ p = .fuses ∨ p = .idBlocks) :
    (footprint i).contains p = false := by
  rcases hp with rfl | rfl | rfl <;> cases i <;> rfl

/-- What a step can do: idle on an empty queue, or take the front command off and change what its footprint names. -/
theorem step_cases {s t : State} (h : step s = .next t) :
    (s.pending = [] ∧ t = s) ∨
      ∃ c rest, s.pending = c :: rest ∧ Effect (footprint c) { s with pending := rest } t := by
  unfold step at h
  split at h
  next hq =>
    cases h
    exact .inl ⟨hq, rfl⟩
  next c rest hq =>
    obtain ⟨u, hu, he⟩ := exec_effect c { s with pending := rest }
    rw [hu] at h
    cases h
    exact .inr ⟨c, rest, hq, he⟩

/-- Settles O51: an idle step changes nothing, and any other has the effect of its command, whose footprint spares the
fuses and the identity blocks. -/
theorem stepKeepsCanonicalMemory : Obligations.StepKeepsCanonicalMemory := by
  intro s t hs h
  obtain ⟨-, rfl⟩ | ⟨c, rest, -, hsame, hkeep⟩ := step_cases h
  · exact ⟨hs, rfl, rfl⟩
  · exact ⟨hkeep hs, hsame .fuses (footprint_spares_queue_and_identity c _ (.inr (.inl rfl))),
      hsame .idBlocks (footprint_spares_queue_and_identity c _ (.inr (.inr rfl)))⟩

end Sys2Proof.Machine

/-! Writes to the registers of a room, its mailbox and the floor plan (O46). -/
namespace Sys2Proof.Machine

/-! ## Writes of 8 bytes to a room's registers (R100, R124, R482, R525) -/

theorem State.mmioCode_roomMmio (s : State) (r : Nat) {off : Nat} (ha : off % 8 = 0) : s.mmioCode (.roomMmio r off) 8 = 0 := by
  simp [State.mmioCode, placeOffset, regShape, ha]

/-- R525: where the room's block answers, an aligned write of 8 bytes reaches its register. -/
theorem roomWrite_answered {s : State} {r : RoomIx} {off : Nat} (hp : s.place (localPa 3 r.val off) 8 = .roomMmio r.val off)
    (ha : off % 8 = 0) (hr : (s.room r.val).phase ≠ .inReset) (u : RegUser) (v : Nat) :
    roomWrite u r off v s = .next (s.roomRegWrite u r.val off 8 v) := by
  rw [roomWrite, hp, State.mmioCode_roomMmio s r.val ha]
  simp [whenReady, hr]

/-- R123: the entries that a ROOM_TLBI word of these fields names. -/
def tlbiNames (scope asid vpn : Nat) (e : TlbEntry) : Bool :=
  match scope with
  | 0 => true
  | 1 => e.asid == asid
  | 2 => e.asid == asid && e.hasVpn vpn
  | _ => e.hasVpn vpn

/-- R123: a word of ROOM_TLBI gives back the fields it was made of. -/
theorem fld_tlbiWord {scope asid vpn : Nat} (hs : scope < 4) (ha : asid < 2 ^ 16) (hv : vpn < 2 ^ 36) :
    fld (tlbiWord scope asid vpn) 63 62 = scope ∧ fld (tlbiWord scope asid vpn) 59 44 = asid ∧
      fld (tlbiWord scope asid vpn) 35 0 = vpn ∧ tlbiWord scope asid vpn < 2 ^ 64 := by
  simp only [fld, tlbiWord]
  omega

theorem State.roomRegWrite_tlbi (s : State) (u : RegUser) (r v : Nat) :
    s.roomRegWrite u r 0x28 8 v = s.tlbiWrite r (v % 2 ^ 64) := rfl

theorem State.roomRegWrite_irqRoute (s : State) (u : RegUser) (r v : Nat) :
    s.roomRegWrite u r 0x18 8 v = s.irqRouteWrite r 0x18 8 v u.machine := rfl

theorem State.roomRegWrite_errCons (s : State) (u : RegUser) (r v : Nat) :
    s.roomRegWrite u r 0xC008 8 v = s.heldWrite .room r 0xC008 8 v := rfl

theorem State.tlbiWrite_tlbiWord (s : State) (r : Nat) {scope asid vpn : Nat} (hs : scope < 4) (ha : asid < 2 ^ 16)
    (hv : vpn < 2 ^ 36) :
    s.tlbiWrite r (tlbiWord scope asid vpn % 2 ^ 64) = s.invalidateTlb r (tlbiNames scope asid vpn) := by
  obtain ⟨fs, fa, fv, hlt⟩ := fld_tlbiWord hs ha hv
  rw [State.tlbiWrite, Nat.mod_eq_of_lt hlt, fs, fa, fv]
  rfl

/-- R100, R123: a write of ROOM_TLBI leaves no entry that its word names, in any TLB of the room, and no walk cache. -/
theorem roomWrite_tlbi {s : State} {r : RoomIx} (hp : s.place (localPa 3 r.val 0x28) 8 = .roomMmio r.val 0x28)
    (hr : (s.room r.val).phase ≠ .inReset) (u : RegUser) {scope asid vpn : Nat} (hs : scope < 4) (ha : asid < 2 ^ 16)
    (hv : vpn < 2 ^ 36) :
    ∃ t, roomWrite u r 0x28 (tlbiWord scope asid vpn) s = .next t ∧
      t.room r.val = (s.room r.val).invalidate (tlbiNames scope asid vpn) := by
  rw [roomWrite_answered hp rfl hr, State.roomRegWrite_tlbi, State.tlbiWrite_tlbiWord s r.val hs ha hv]
  exact ⟨_, rfl, s.room_modRoom ..⟩

/-- R525: 8 bytes written to a register of which a room has one take effect under its masks alone. -/
theorem State.heldWrite_eq_writeReg {m : RegName} {off : Nat} (hf : findRow .room off = some (m, 0)) (ha : off % 8 = 0)
    (hc : m.row.count = 1) (s : State) (r : Nat) (v : W64) :
    s.heldWrite .room r off 8 v.toNat = s.writeReg m r v := by
  have hoff : off / 8 * 8 = off := by omega
  have hmask (n : Nat) : BitVec.ofNat 64 (n &&& (2 ^ 64 - 1)) = BitVec.ofNat 64 n :=
    BitVec.eq_of_toNat_eq (by rw [Nat.and_two_pow_sub_one_eq_mod]; simp)
  simp only [State.heldWrite, hoff, hf, RegName.slot, hc, State.writeReg, RegName.written, if_true, hmask, BitVec.ofNat_toNat,
    BitVec.setWidth_eq, Nat.mul_one, Nat.add_zero]

theorem findRow_irqRoute : findRow .room 0x18 = some (.roomIrqRoute, 0) := by decide
theorem findRow_errCons : findRow .room 0xC008 = some (.errCons, 0) := by decide

/-- R124: only a writer in machine mode sets an LVL bit; a word of another writer that holds one is dropped whole. -/
theorem State.irqRouteWrite_word (s : State) (r : Nat) (v : W64) (machine : Bool) :
    s.irqRouteWrite r 0x18 8 v.toNat machine =
      if (List.range 8).any (fun j => bitOf v.toNat (8 * j + 6)) && !machine then s else s.writeReg .roomIrqRoute r v := by
  rw [State.irqRouteWrite, State.heldWrite_eq_writeReg findRow_irqRoute rfl rfl]

theorem exec_roomIrqRouteWrite {s : State} {r : RoomIx} (hp : s.place (localPa 3 r.val 0x18) 8 = .roomMmio r.val 0x18)
    (hr : (s.room r.val).phase ≠ .inReset) (machine : Bool) (v : W64) :
    exec (.roomIrqRouteWrite r machine v) s =
      .next (if (List.range 8).any (fun j => bitOf v.toNat (8 * j + 6)) && !machine then s else s.writeReg .roomIrqRoute r.val v) := by
  change roomWrite ⟨machine, none⟩ r 0x18 v.toNat s = _
  rw [roomWrite_answered hp rfl hr, State.roomRegWrite_irqRoute, State.irqRouteWrite_word]

/-! ## The mailbox of a room and the floor plan (R24, R533) -/

theorem Mailbox.acknowledge_eq (m : Mailbox) :
    m.acknowledge.pending = !m.queue.isEmpty ∧ m.acknowledge.queue = m.queue.drop 1 ∧ m.acknowledge.lost = m.lost ∧
      m.acknowledge.seq = m.seq := by
  unfold Mailbox.acknowledge
  split
  next w t hq => simp [hq]
  next hq => simp [hq]

@[simp] theorem State.mailbox_setMailbox (s : State) (r : Nat) (m : Mailbox) : (s.setMailbox r m).mailbox r = m :=
  tgetD_tset_same ..

theorem State.event_plan (s : State) (kind d0 d1 : Nat) :
    (s.event kind d0 d1).plan = s.plan ∧ (s.event kind d0 d1).planGen = s.planGen ∧ (s.event kind d0 d1).planTime = s.planTime := by
  obtain ⟨hsame, -⟩ := s.event_effect kind d0 d1
  exact ⟨hsame .plan rfl, hsame .planGen rfl, hsame .planTime rfl⟩

theorem State.publish_plan (s : State) :
    s.publish.plan = some s.currentPlan ∧ s.publish.planGen = (s.planGen + 2) % 2 ^ 32 ∧ s.publish.planTime = s.now :=
  State.event_plan ..

/-- R24: a plan that would not change stays, and any other is published. -/
theorem State.updatePlan_published {s : State} {p : PlanB} (hp : s.plan = some p) :
    s.updatePlan = if p = s.currentPlan then s else s.publish := by
  simp [State.updatePlan, hp]

/-- Settles O46: each register write through what the room's block does with the word, the plan by whether it would change. -/
theorem roomRegisterWritesComplete : Obligations.RoomRegisterWritesComplete := by
  refine ⟨fun r s a v hp hr => ⟨?_, ?_, ?_, ?_⟩, fun r v s b hp hr => ⟨fun h => ?_, fun hb hl => ?_⟩, fun r v s hp hr => ?_,
    fun r s b m hm hpend => ?_, fun s p hp => ?_⟩
  · obtain ⟨t, he, ht⟩ := roomWrite_tlbi hp hr ⟨false, none⟩ (scope := 0) (asid := 0) (vpn := 0) (by omega) (by omega) (by omega)
    exact ⟨t, he, ht.trans (by simp [Room.invalidate, tlbiNames])⟩
  · exact roomWrite_tlbi hp hr ⟨false, none⟩ (scope := 1) (vpn := 0) (by omega) a.isLt (by omega)
  · exact roomWrite_tlbi hp hr ⟨false, none⟩ (scope := 2) (by omega) a.isLt v.isLt
  · exact roomWrite_tlbi hp hr ⟨false, none⟩ (scope := 3) (asid := 0) (by omega) (by omega) v.isLt
  · rw [exec_roomIrqRouteWrite hp hr, if_neg]
    rcases h with rfl | h <;> simp [*]
  · rw [exec_roomIrqRouteWrite hp hr, if_pos]
    simp [hb, hl]
  · change roomWrite ⟨false, none⟩ r 0xC008 v.toNat s = _
    rw [roomWrite_answered hp rfl hr, State.roomRegWrite_errCons, State.heldWrite_eq_writeReg findRow_errCons rfl rfl]
  · obtain ⟨hp, hq, hl, hs⟩ := m.acknowledge_eq
    refine ⟨_, rfl, ?_⟩
    cases b <;> simp [hm, hpend, hp, hq, hl, hs]
  · obtain ⟨hplan, hgen, htime⟩ := s.publish_plan
    refine ⟨s.updatePlan, rfl, ?_⟩
    rw [State.updatePlan_published hp]
    by_cases e : p = s.currentPlan
    · simp [e, hp]
    · simp [e, hplan, hgen, htime]

end Sys2Proof.Machine

/-! What a module's CAP record does to a door that it shows to be unfit (O28). -/
namespace Sys2Proof.Machine

/-! ## A door without what its kind needs (R17, R317, R318, R391) -/

/-- A change of a table's values that keeps its keys is seen where the key is read. -/
theorem tget_map_of_keys {α β : Type} {f : Nat × α → Nat × β} (hf : ∀ p, (f p).1 = p.1) (k : Nat) (t : Tab α) :
    tget k (t.map f) = (tget k t).map fun v => (f (k, v)).2 := by
  induction t with
  | nil => rfl
  | cons a t ih =>
    obtain ⟨j, v⟩ := a
    have hpair : f (j, v) = (j, (f (j, v)).2) := Prod.ext (hf (j, v)) rfl
    rw [List.map_cons, hpair]
    by_cases e : j = k
    · subst e
      simp [tget]
    · simp [tget, e, ih]

/-- R17: a module end whose far die is reset is out of training. -/
theorem State.phase_resetModules_far {k p d : Nat} (hp : modulePeer k = some p) (hd : p / 16 = d) (s : State) :
    ((s.resetModules d).module k).phase = 0 := by
  simp only [State.module, State.resetModules, State.resetRegs, tgetD]
  rw [tget_map_of_keys]
  · cases tget k _ with
    | none => rfl
    | some v => simp [hp, hd, ModuleB.dropped]
  · intro x
    split
    · split <;> rfl
    · rfl

/-- R17, R391: a door that goes down leaves no module at its far ends in training. -/
theorem State.phase_doorDown_far {k p d : Nat} (hp : modulePeer k = some p) (hd : p / 16 = 104 + d) (s : State) :
    ((s.doorDown d).module k).phase = 0 := by
  have hm : ∃ u : State, (s.doorDown d).modules = (u.resetModules (104 + d)).modules :=
    ⟨_, ((State.updatePlan_effect _).1 .modules rfl).trans ((State.doorEvent_effect ..).1 .modules rfl)⟩
  obtain ⟨u, hu⟩ := hm
  rw [State.module, hu]
  exact u.phase_resetModules_far hp hd

/-- R310: a module's command takes effect where the module leads to a peer and both dies are ready. -/
theorem moduleRun_ready {die : DieIx} {m : Fin 16} {s : State} {p : Nat} {ok : ModuleB → Bool}
    (hp : modulePeer (die.val * 16 + m.val) = some p)
    (hfuses : (s.die die.val).fuses = .good ∧ (s.die (p / 16)).fuses = .good)
    (hready : s.dieInReset die.val = false ∧ s.dieInReset (p / 16) = false ∧ s.trainsModules die.val (p / 16) = true)
    (hok : ok (s.module (die.val * 16 + m.val)) = true) (body : Nat → Nat → State) :
    moduleRun die m s ok body = .next (body (die.val * 16 + m.val) p) := by
  have hdie : (die.val * 16 + m.val) / 16 = die.val := by omega
  obtain ⟨hmine, hpeer⟩ := hfuses
  obtain ⟨hout, hpeerOut, htrains⟩ := hready
  simp [moduleRun, whenReady, hp, hdie, hmine, hpeer, hout, hpeerOut, htrains, hok]

/-- R317, R318: the CAP record of the peer is taken, and a die that it shows to be unfit goes down. -/
theorem exec_lctlCap_ready {die : DieIx} {m : Fin 16} {addr : BitVec 55} {payload l : List Byte} {s : State} {p : Nat}
    (hl : lctlOf addr payload = .cap l) (hp : modulePeer (die.val * 16 + m.val) = some p)
    (hfuses : (s.die die.val).fuses = .good ∧ (s.die (p / 16)).fuses = .good)
    (hready : s.dieInReset die.val = false ∧ s.dieInReset (p / 16) = false ∧ s.trainsModules die.val (p / 16) = true)
    (hphase : (s.module (die.val * 16 + m.val)).state = 1 ∧ (s.module (die.val * 16 + m.val)).phase = 3) :
    exec (.lctlCap die m ⟨addr, payload⟩) s = .next (
      let t := s.takeCap (die.val * 16 + m.val) p (capOf l)
      if capUnfit (capOf l) then t.dieUnfit (p / 16) else t) := by
  change execLctlCap die m ⟨addr, payload⟩ s = _
  rw [execLctlCap, moduleRun_ready hp hfuses hready (by simp [hphase])]
  simp [hl]

/-- R318, R391: a door that is unfit goes down, and no module at its far ends stays in training. -/
theorem State.phase_dieUnfit_door {k p : Nat} (hp : modulePeer k = some p) (hdoor : 104 ≤ p / 16) (s : State) :
    ((s.dieUnfit (p / 16)).module k).phase = 0 := by
  have hwing : ¬ p / 16 < 24 := by omega
  have hporch : ¬ p / 16 < 104 := by omega
  simp only [State.dieUnfit, if_neg hwing, if_neg hporch]
  exact State.phase_doorDown_far hp (by omega) _

/-- A CAP record of door A that names no service of notices, which R318 asks of a door. -/
def unfitDoorCap : CapRecord :=
  { azMajor := 2, azMinor := 0, dieKind := 3, dieIndex := 104, maker := 1, generation := 9, stepping := 0xB0
    opcMap := 3, features := 0, vcCredit := 4, module := 0, uniqueLo := 0 }

/-- In phase 5, the module of wing 6 that leads to door A waits for the door's CAP. -/
def doorTraining : State :=
  { boot := { phase := 5, hold := .none }
    dies := [(6, { fuses := .good }), (104, { fuses := .good })]
    modules := [(108, { state := 1, phase := 3 }), (1664, { state := 1, phase := 3 })] }

/-- Refutes O28: the CAP record of an unfit door, good in all that the clause of the capabilities asks, takes the door down, which
drops the module out of training: it is in phase 0, not 4. -/
theorem not_modulesComplete : ¬ Obligations.ModulesComplete := by
  rintro ⟨-, -, -, hcap, -⟩
  have hl : lctlOf 0 (capBytes unfitDoorCap) = .cap (capBytes unfitDoorCap) := by decide
  have hp : modulePeer 108 = some 1664 := by decide
  have hfuses : (doorTraining.die 6).fuses = .good ∧ (doorTraining.die 104).fuses = .good := by decide
  have hready : doorTraining.dieInReset 6 = false ∧ doorTraining.dieInReset 104 = false ∧
      doorTraining.trainsModules 6 104 = true := by decide
  have hphase : (doorTraining.module 108).state = 1 ∧ (doorTraining.module 108).phase = 3 := by decide
  have hunfit : capUnfit (capOf (capBytes unfitDoorCap)) = true := by decide
  obtain ⟨t, ht, hfour, -⟩ := hcap 6 12 0 (capBytes unfitDoorCap) (capBytes unfitDoorCap) _ doorTraining 1664 ⟨hl, rfl⟩ hp hfuses
    hready hphase (by decide) (by decide)
  rw [exec_lctlCap_ready (die := 6) (m := 12) hl hp hfuses hready hphase, if_pos hunfit] at ht
  cases ht
  have hzero := (doorTraining.takeCap 108 1664 (capOf (capBytes unfitDoorCap))).phase_dieUnfit_door hp (by omega)
  exact absurd (hfour.symm.trans hzero) (by decide)

end Sys2Proof.Machine

/-! Atomics of a hart whose home performs them now (O4). -/
namespace Sys2Proof.Machine

/-! ## The room table behind a home: only the condition and the phase of a room count there (R92, R99) -/

/-- The state with another table of rooms. -/
def State.withRooms (s : State) (R : Tab Room) : State := { s with rooms := R }

/-- The rooms of a table are in the condition and the phase that the state has them in. -/
def State.RoomsAgree (s : State) (R : Tab Room) : Prop :=
  ∀ q, ((s.withRooms R).room q).cond = (s.room q).cond ∧ ((s.withRooms R).room q).phase = (s.room q).phase

/-- R99: a room that keeps a translation differs in its TLBs and its walk cache alone. -/
theorem State.fillTlb_cases (s : State) (r : Nat) (x : Xlate) : ∃ R, s.RoomsAgree R ∧ s.fillTlb r x = s.withRooms R := by
  cases hx : x.fill with
  | none => exact ⟨s.rooms, fun q => ⟨rfl, rfl⟩, by simp [State.fillTlb, hx, State.withRooms]⟩
  | some e =>
    have hfill : s.fillTlb r x = s.modRoom r fun q => q.keepXlate e x.path := by simp [State.fillTlb, hx]
    refine ⟨(s.fillTlb r x).rooms, fun q => ?_, by rw [hfill]; rfl⟩
    change ((s.fillTlb r x).room q).cond = _ ∧ ((s.fillTlb r x).room q).phase = _
    rw [hfill]
    by_cases hq : q = r
    · subst hq
      rw [State.room_modRoom]
      exact ⟨rfl, rfl⟩
    · rw [State.room_modRoom_ne _ _ _ _ hq]
      exact ⟨rfl, rfl⟩

theorem State.bytesAt_withRooms (s : State) (R : Tab Room) (k n : Nat) : (s.withRooms R).bytesAt k n = s.bytesAt k n := by
  induction n generalizing k with
  | zero => rfl
  | succ n ih => rw [State.bytesAt, State.bytesAt, ih]; rfl

theorem State.putInWord_withRooms (s : State) (R : Tab Room) (k o : Nat) (l : List Byte) :
    (s.withRooms R).putInWord k o l = (s.putInWord k o l).withRooms R := by
  unfold State.putInWord
  split <;> rfl

/-- Words written one after the other, wherever a write puts them, do not depend on the rooms. -/
theorem State.putPieces_withRooms (s : State) (R : Tab Room) (key : Nat → Nat) (l : List (Nat × Nat × List Byte)) :
    l.foldl (fun s p => s.putInWord (key p.1) p.2.1 p.2.2) (s.withRooms R) =
      (l.foldl (fun s p => s.putInWord (key p.1) p.2.1 p.2.2) s).withRooms R := by
  induction l generalizing s with
  | nil => rfl
  | cons p l ih => rw [List.foldl_cons, List.foldl_cons, State.putInWord_withRooms, ih]

theorem State.putWords_withRooms (s : State) (R : Tab Room) (k : Nat) (l : List Byte) :
    (s.withRooms R).putWords k l = (s.putWords k l).withRooms R :=
  s.putPieces_withRooms R id _

theorem State.putAttic_withRooms (s : State) (R : Tab Room) (r : Nat) (b : Bool) (o : Nat) (l : List Byte) :
    (s.withRooms R).putAttic r b o l = (s.putAttic r b o l).withRooms R :=
  s.putPieces_withRooms R (atticKey r b) _

section
variable {s : State} {R : Tab Room} (hR : s.RoomsAgree R)
include hR

theorem State.place_withRooms (pa n : Nat) : (s.withRooms R).place pa n = s.place pa n := by
  have hreach (q : Nat) : ((s.withRooms R).room q).reachable = (s.room q).reachable := by simp [Room.reachable, hR q]
  have hphase (q : Nat) : ((s.withRooms R).room q).phase = (s.room q).phase := (hR q).2
  simp only [State.place, hreach, hphase]
  rfl

theorem State.placeFor_withRooms (r pa n : Nat) : (s.withRooms R).placeFor r pa n = s.placeFor r pa n := by
  have hboots : ((s.withRooms R).room r).boots = (s.room r).boots := by simp [Room.boots, hR r]
  simp only [State.placeFor, State.place_withRooms hR, hboots]
  rfl

theorem State.banksUsable_withRooms (r : Nat) (b : Bool) (o n : Nat) :
    (s.withRooms R).banksUsable r b o n = s.banksUsable r b o n := by
  simp only [State.banksUsable, hR r]

theorem State.memRead_withRooms (p : Place) (n : Nat) : (s.withRooms R).memRead p n = s.memRead p n := by
  have hstalled (q : Nat) : ((s.withRooms R).room q).stalled = (s.room q).stalled := by simp [Room.stalled, hR q]
  cases p with
  | attic r b o =>
    simp only [State.memRead, hstalled, State.banksUsable_withRooms hR]
    rfl
  | pantry r o =>
    simp only [State.memRead, hstalled, State.bytesAt_withRooms]
    rfl
  | host d a =>
    simp only [State.memRead, State.bytesAt_withRooms]
    rfl
  | _ => rfl

theorem State.atomicAnswer_withRooms (op : HomeAtomic) (p : Place) :
    (s.withRooms R).atomicAnswer op p = s.atomicAnswer op p := by
  simp only [State.atomicAnswer, State.memRead_withRooms hR]
  rfl
end

/-! ## What a write at a home leaves in memory, and of its writer (R112, R148) -/

theorem Effect.mem_eq {F : List Part} {s t : State} (he : Effect F s t) (hF : F.contains .mem = false) : t.mem = s.mem := by
  obtain ⟨hsame, -⟩ := he
  exact hsame .mem hF

theorem Effect.hart_eq {F : List Part} {s t : State} (he : Effect F s t) (hF : F.contains .harts = false) (h : HartId) :
    t.hart h = s.hart h := by
  obtain ⟨hsame, -⟩ := he
  simp only [State.hart, State.hartAt, show t.harts = s.harts from hsame .harts hF]

/-- An attic takes the bytes of a write where their banks are usable; the rest of the write leaves memory alone. -/
theorem State.memWrite_attic_mem (s : State) (r : Nat) (b : Bool) (o : Nat) (l : List Byte) (w : Option Nat) :
    (s.memWrite (.attic r b o) l w).mem = if s.banksUsable r b o l.length then (s.putAttic r b o l).mem else s.mem := by
  have hwrite : (s.writeAttic r b o l w).mem = (s.putAttic r b o l).mem := by
    unfold State.writeAttic
    split <;> rfl
  cases hu : s.banksUsable r b o l.length with
  | false => simp [State.memWrite, hu, (s.bankAccess_effect r b o).mem_eq rfl]
  | true =>
    simp only [State.memWrite, hu, Bool.not_true, Bool.false_eq_true, if_false, if_true, State.bump_mem]
    split
    · rw [(State.atticError_effect ..).mem_eq rfl, hwrite]
    · exact hwrite

theorem State.memWrite_pantry_mem (s : State) (r o : Nat) (l : List Byte) (w : Option Nat) :
    (s.memWrite (.pantry r o) l w).mem = (s.putWords (pantryKey r o) l).mem := by
  simp only [State.memWrite, State.bump_mem]
  split
  · rw [(State.postRoom_effect ..).mem_eq rfl]
    rfl
  · rfl

theorem State.memWrite_mem_withRooms {s : State} {R : Tab Room} (hR : s.RoomsAgree R) (p : Place) (l : List Byte)
    (w : Option Nat) : ((s.withRooms R).memWrite p l w).mem = (s.memWrite p l w).mem := by
  cases p with
  | attic r b o =>
    simp only [State.memWrite_attic_mem, State.banksUsable_withRooms hR, State.putAttic_withRooms]
    rfl
  | pantry r o =>
    simp only [State.memWrite_pantry_mem, State.putWords_withRooms]
    rfl
  | _ => rfl

/-- R112: a write costs its writer no reservation of its own. -/
theorem State.hart_dropReservations_writer (s : State) (h : HartId) (r : Nat) (keys : List Nat) :
    (s.dropReservations r (some (hkey h)) keys).hart h = s.hart h := by
  simp only [State.hart, State.hartAt, State.dropReservations, tgetD]
  rw [tget_map_of_keys]
  · cases tget (hkey h) s.harts with
    | none => rfl
    | some x => cases hv : x.resv <;> simp [hv]
  · intro p
    split
    · split <;> rfl
    · rfl

/-- R148: a hart that waits on no word keeps its state when the watches of its room are tested. -/
theorem State.hart_testWatches_of_wait_none {s : State} {h : HartId} (hw : (s.hart h).wait = .none) (r : Nat) :
    (s.testWatches r).hart h = s.hart h := by
  simp only [State.hart, State.hartAt, State.testWatches, tgetD] at hw ⊢
  rw [tget_map_of_keys]
  · cases hx : tget (hkey h) s.harts with
    | none => rfl
    | some x =>
      rw [hx] at hw
      change x.wait = .none at hw
      simp [hw]
  · intro p
    split
    · split <;> rfl
    · rfl

theorem State.hart_writePantry_writer {s : State} {h : HartId} (hw : (s.hart h).wait = .none) (r o : Nat) (l : List Byte) :
    (s.writePantry r o l (some (hkey h))).hart h = s.hart h := by
  have hput : ((s.putWords (pantryKey r o) l).dropReservations r (some (hkey h)) (wordsOf (pantryKey r o) l.length)).hart h =
      s.hart h :=
    (State.hart_dropReservations_writer ..).trans ((State.putWords_effect ..).hart_eq rfl h)
  exact (State.hart_testWatches_of_wait_none (by rw [hput, hw]) r).trans hput

theorem State.hart_writeAttic_writer (s : State) (h : HartId) (r : Nat) (b : Bool) (o : Nat) (l : List Byte) :
    (s.writeAttic r b o l (some (hkey h))).hart h = s.hart h := by
  have hput : (((s.putAttic r b o l).noteView r b o l.length).dropReservations r (some (hkey h))
      (atticWords r b o l.length)).hart h = s.hart h :=
    (State.hart_dropReservations_writer ..).trans ((State.putAttic_effect ..).hart_eq rfl h)
  cases b <;> exact hput

/-- A write at a home leaves a writer that waits on nothing as it was. -/
theorem State.hart_memWrite_writer {s : State} {h : HartId} (hw : (s.hart h).wait = .none) (p : Place) (l : List Byte) :
    (s.memWrite p l (some (hkey h))).hart h = s.hart h := by
  cases p with
  | attic r b o =>
    simp only [State.memWrite]
    split
    · exact (s.bankAccess_effect r b o).hart_eq rfl h
    · rw [State.hart_bump]
      split
      · exact ((State.atticError_effect ..).hart_eq rfl h).trans (s.hart_writeAttic_writer h r b o l)
      · exact s.hart_writeAttic_writer h r b o l
  | pantry r o =>
    simp only [State.memWrite, State.hart_bump]
    split
    · exact ((State.postRoom_effect ..).hart_eq rfl h).trans (State.hart_writePantry_writer hw r o l)
    · exact State.hart_writePantry_writer hw r o l
  | _ => rfl

/-! ## An atomic performed at its home (R112, R181, R183) -/

/-- An atomic is answered with data where its target is read so. -/
theorem State.memRead_of_atomicAnswer {s : State} {op : HomeAtomic} {p : Place} {l : List Byte}
    (ha : s.atomicAnswer op p = .data l) : ∃ old, s.memRead p (homeWidth op) = .data old := by
  unfold State.atomicAnswer at ha
  split at ha
  next old hm => exact ⟨old, hm⟩
  next hm => exact absurd ha (hm l)

/-- What an atomic that is answered with data does: its new value is written, and the guards that it meets take note. -/
theorem State.atomicPerform_of_answer {s : State} {op : HomeAtomic} {p : Place} {l : List Byte}
    (ha : s.atomicAnswer op p = .data l) (w : Option Nat) :
    ∃ old, s.memRead p (homeWidth op) = .data old ∧ s.atomicPerform op p w =
      (s.memWrite p (toBytes (homeWidth op) (homeNew op (s.atomicOld op p old)).1) w).guardLease op p
        (homeNew op (s.atomicOld op p old)).1 := by
  obtain ⟨old, hm⟩ := State.memRead_of_atomicAnswer ha
  exact ⟨old, hm, by simp only [State.atomicPerform, hm]⟩

theorem State.hart_atomicPerform_writer {s : State} {h : HartId} (hw : (s.hart h).wait = .none) {op : HomeAtomic} {p : Place}
    {l : List Byte} (ha : s.atomicAnswer op p = .data l) : (s.atomicPerform op p (some (hkey h))).hart h = s.hart h := by
  obtain ⟨old, -, hp⟩ := State.atomicPerform_of_answer ha (some (hkey h))
  rw [hp]
  exact ((State.guardLease_effect ..).hart_eq rfl h).trans (State.hart_memWrite_writer hw p _)

theorem State.atomicPerform_mem_withRooms {s : State} {R : Tab Room} (hR : s.RoomsAgree R) {op : HomeAtomic} {p : Place}
    {l : List Byte} (ha : s.atomicAnswer op p = .data l) (w : Option Nat) :
    ((s.withRooms R).atomicPerform op p w).mem = (s.atomicPerform op p w).mem := by
  obtain ⟨old, hm, hp⟩ := State.atomicPerform_of_answer ha w
  rw [hp, State.atomicPerform, State.memRead_withRooms hR, hm]
  exact ((State.guardLease_effect ..).mem_eq rfl).trans
    ((State.memWrite_mem_withRooms hR ..).trans ((State.guardLease_effect ..).mem_eq rfl).symm)

/-! ## Where an atomic may be performed (R91, R112, R142) -/

/-- An atomic is allowed at attics and pantries alone. -/
theorem homeAllows_home {op : HomeAtomic} {p : Place} (ha : homeAllows op p = true) :
    (∃ r b o, p = .attic r b o) ∨ ∃ r o, p = .pantry r o := by
  cases p with
  | attic r b o => exact .inl ⟨r, b, o, rfl⟩
  | pantry r o => exact .inr ⟨r, o, rfl⟩
  | _ => cases op <;> exact Bool.noConfusion ha

/-- A place that an address of TYPE 1 leads to: the banked view of an attic, or no memory of this device (R160). -/
def Place.Banked (p : Place) : Prop :=
  (∃ r o, p = .attic r true o) ∨ (∃ d, p = .remote d) ∨ p = .absent ∨ p = .accessError

theorem State.place_banked {pa : Nat} (ht : paType pa = 1) (s : State) (n : Nat) : (s.place pa n).Banked := by
  simp only [State.place, ht, Place.Banked]
  split
  · omega
  · split
    · split <;> simp
    · split
      · simp
      · split <;> simp

theorem State.placeFor_banked {pa : Nat} (ht : paType pa = 1) (s : State) (room n : Nat) : (s.placeFor room pa n).Banked := by
  have hplace := s.place_banked ht n
  simp only [State.placeFor, ht]
  split
  · split
    · exact .inl ⟨_, _, rfl⟩
    · exact .inr (.inr (.inl rfl))
  · exact hplace

/-- R142: no lease lies in a banked view. -/
theorem Place.Banked.homeAllows_lease {p : Place} (hp : p.Banked) {op : HomeAtomic} (hl : isLease op = true) :
    homeAllows op p = false := by
  cases op with
  | leaseAcq | leaseRel => obtain ⟨r, o, rfl⟩ | ⟨d, rfl⟩ | rfl | rfl := hp <;> rfl
  | _ => exact Bool.noConfusion hl

/-- What a hart's atomic needs to be performed now: an aligned address that translates to a place where the operation is
allowed, and whose home takes it and answers with data. -/
structure State.AtomicReady (s : State) (h : HartId) (va : W64) (op : HomeAtomic) (cls : Nat) (x : Xlate) (l : List Byte) :
    Prop where
  aligned : va.toNat % homeWidth op = 0
  translated : s.translate h.room.val ((s.hart h).authority h.hart.val) .both .store va = .ok x
  type_le : x.type ≤ 2
  allowed : homeAllows op (s.placeFor h.room.val x.pa (homeWidth op)) = true
  taken : s.homeOpen cls (s.placeFor h.room.val x.pa (homeWidth op)) (homeWidth op) = true
  answered : s.atomicAnswer op (s.placeFor h.room.val x.pa (homeWidth op)) = .data l

/-- The state in which such an atomic has been performed, before its instruction retires. -/
def State.atomicDone (s : State) (h : HartId) (op : HomeAtomic) (x : Xlate) : State :=
  ((s.fillTlb h.room.val x).atomicPerform op (s.placeFor h.room.val x.pa (homeWidth op)) (some (hkey h))).hartWrote h
    (s.placeFor h.room.val x.pa (homeWidth op)) (homeWidth op)

section
variable {s : State} {h : HartId} {va : W64} {op : HomeAtomic} {cls : Nat} {x : Xlate} {l : List Byte}
  (hr : s.AtomicReady h va op cls x l)
include hr

theorem State.AtomicReady.answer_filled :
    (s.fillTlb h.room.val x).atomicAnswer op (s.placeFor h.room.val x.pa (homeWidth op)) = .data l := by
  obtain ⟨R, hR, hfill⟩ := s.fillTlb_cases h.room.val x
  rw [hfill, State.atomicAnswer_withRooms hR, hr.answered]

theorem State.AtomicReady.hart_atomicDone (hw : (s.hart h).wait = .none) : (s.atomicDone h op x).hart h = s.hart h := by
  have hfill : (s.fillTlb h.room.val x).hart h = s.hart h := (State.fillTlb_effect ..).hart_eq rfl h
  calc (s.atomicDone h op x).hart h
    _ = ((s.fillTlb h.room.val x).atomicPerform op (s.placeFor h.room.val x.pa (homeWidth op)) (some (hkey h))).hart h :=
      (State.hartWrote_effect ..).hart_eq rfl h
    _ = (s.fillTlb h.room.val x).hart h := State.hart_atomicPerform_writer (by rw [hfill, hw]) hr.answer_filled
    _ = s.hart h := hfill

theorem State.AtomicReady.atomicDone_mem :
    (s.atomicDone h op x).mem = (s.atomicPerform op (s.placeFor h.room.val x.pa (homeWidth op)) (some (hkey h))).mem := by
  obtain ⟨R, hR, hfill⟩ := s.fillTlb_cases h.room.val x
  have hperform := State.atomicPerform_mem_withRooms hR hr.answered (some (hkey h))
  rw [← hfill] at hperform
  exact ((State.hartWrote_effect ..).mem_eq rfl).trans hperform

/-- R112, R141, R142: the atomic is performed, its answer is delivered and the instruction retires. -/
theorem State.AtomicReady.hartAtomic_eq (rd : Nat) (pair : Bool) :
    s.hartAtomic h va op rd pair (some cls) 4 =
      (s.atomicDone h op x).modHart h fun y => (y.deliverAtomic rd op pair (answerBytes op l)).retire := by
  have htrap : ¬ (3 ≤ x.type ∨ (isLease op = true ∧ x.type = 1)) := by
    rintro (h3 | ⟨hl, h1⟩)
    · have := hr.type_le
      omega
    · have hnot := (s.placeFor_banked h1 h.room.val (homeWidth op)).homeAllows_lease hl
      exact absurd (hr.allowed.symm.trans hnot) Bool.noConfusion
  have hanswer := hr.answer_filled
  have hallowed := hr.allowed
  simp only [State.hartAtomic, hr.aligned, hr.translated, Option.getD_some, hr.taken, htrap]
  obtain ⟨q, b, o, hp⟩ | ⟨q, o, hp⟩ := homeAllows_home hr.allowed
  all_goals
    rw [hp] at hanswer hallowed
    simp [hp, hallowed, hanswer, State.atomicDone, State.modHart]

/-- R296: the atomic that returns nothing is performed, and the instruction retires. -/
theorem State.AtomicReady.hartPost_eq (aq : Bool) :
    s.hartPost h va op cls aq = (s.atomicDone h op x).modHart h (·.retire) := by
  have htype : ¬ 3 ≤ x.type := by
    have := hr.type_le
    omega
  have hanswer := hr.answer_filled
  have hallowed := hr.allowed
  have hans := hr.answered
  obtain ⟨R, hR, hfill⟩ := s.fillTlb_cases h.room.val x
  have hplace := State.placeFor_withRooms hR h.room.val x.pa (homeWidth op)
  rw [← hfill] at hplace
  simp only [State.hartPost, hr.aligned, hr.translated, hr.taken, htype, State.signalNoTag, State.signalAt, hplace]
  obtain ⟨q, b, o, hp⟩ | ⟨q, o, hp⟩ := homeAllows_home hr.allowed
  all_goals
    rw [hp] at hanswer hallowed hans
    simp only [hp, hallowed, hanswer, hans, State.atomicDone]
    cases s.freeTag h.room.val 4096 0 <;> simp

end

/-! ## The instructions (R107, R141, R142, R296) -/

/-- The state in which the instruction of such an atomic has retired with its answer. -/
def State.atomicRetired (s : State) (h : HartId) (op : HomeAtomic) (x : Xlate) (rd : Nat) (pair : Bool) (l : List Byte) : State :=
  ((s.atomicDone h op x).modHart h fun y => (y.deliverAtomic rd op pair (answerBytes op l)).retire).issued h

theorem State.AtomicReady.atomicRetired_effect {s : State} {h : HartId} {va : W64} {op : HomeAtomic} {cls : Nat} {x : Xlate}
    {l : List Byte} (hr : s.AtomicReady h va op cls x l) (hw : (s.hart h).wait = .none) (rd : Nat) (pair : Bool) :
    (s.atomicRetired h op x rd pair l).hart h = ((s.hart h).deliverAtomic rd op pair (answerBytes op l)).retire ∧
      (s.atomicRetired h op x rd pair l).mem =
        (s.atomicPerform op (s.placeFor h.room.val x.pa (homeWidth op)) (some (hkey h))).mem := by
  refine ⟨?_, hr.atomicDone_mem⟩
  rw [State.atomicRetired, (State.issued_effect ..).hart_eq rfl h, State.hart_modHart, hr.hart_atomicDone hw]

/-- R107: what waits for nothing with either of two release bits waits for nothing with the one or with the other. -/
theorem State.released_or {s : State} {h : HartId} {a b : Bool} (hrel : s.released h (a || b) = true) :
    s.released h a = true ∧ s.released h b = true := by
  simp only [State.released, Bool.and_or_distrib_right, Bool.not_or, Bool.and_eq_true] at hrel ⊢
  exact hrel

section
variable {s : State} {h : HartId} {w : W32} {x : Xlate} {l : List Byte}

/-- An atomic of custom-1 that its hart can execute is performed and delivers its answer. -/
theorem szAtomic_ready {op5 : Nat} {op : Hart → HomeAtomic} (hc : s.canRunWord h w custom1 op5 = true)
    (hrel : s.released h (szRl w) = true)
    (hr : s.AtomicReady h ((s.hart h).reg (szRs1 w)) (op (s.hart h)) (szF3 w) x l) (pair : Bool) :
    szAtomic op5 op pair h w s = .next (s.atomicRetired h (op (s.hart h)) x (szRd w) pair l) := by
  rw [szAtomic, szRun_canRunWord hc _ id]
  simp only [whenReleased, hrel, if_true, hr.hartAtomic_eq, State.atomicRetired]

/-- R142: a lease release has release ordering whatever its bits. -/
theorem execSzLrel_ready (hc : s.canRunWord h w custom1 0x19 = true) (hrel : s.released h true = true)
    (hr : s.AtomicReady h ((s.hart h).reg (szRs1 w)) (.leaseRel (s.callerId h) (s.callerEpoch h)) (szF3 w) x l) :
    execSzLrel h w s = .next (s.atomicRetired h (.leaseRel (s.callerId h) (s.callerEpoch h)) x (szRd w) false l) := by
  rw [execSzLrel, szRun_canRunWord hc _ id]
  simp only [whenReleased, hrel, if_true, hr.hartAtomic_eq, State.atomicRetired]

/-- R141, R296: with no register to return to, the exact add is posted; there is nothing to deliver. -/
theorem execSzXaadd_ready (hc : s.canRunWord h w custom1 0x10 = true) (hrel : s.released h (szRl w) = true)
    (hr : s.AtomicReady h ((s.hart h).reg (szRs1 w)) (.xaAdd ((s.hart h).pair (szRs2 w))) (szF3 w) x l) :
    execSzXaadd h w s = .next (s.atomicRetired h (.xaAdd ((s.hart h).pair (szRs2 w))) x (szRd w) true l) := by
  unfold execSzXaadd
  split
  next hrd => exact szAtomic_ready (op := fun y => .xaAdd (y.pair (szRs2 w))) hc hrel hr true
  next hrd =>
    have hzero : szRd w = 0 := Decidable.of_not_not hrd
    rw [szRun_canRunWord hc _ id]
    simp only [whenReleased, hrel, if_true, hr.hartPost_eq, hzero]
    rfl

end

/-- Settles O4: the hart and its word are ready, so each instruction comes to the atomic as its home performs it; the
translation that is kept on the way changes nothing there, and the write leaves its writer as it was. -/
theorem globalAtomicsComplete : Obligations.GlobalAtomicsComplete := by
  intro h w s x l c op5 op pair hmem hc hrel halign hx htype hallow hopen hans
  have hr : s.AtomicReady h ((s.hart h).reg (szRs1 w)) op (szF3 w) x l := ⟨halign, hx, htype, hallow, hopen, hans⟩
  have hrun : s.canRun h = true := by
    simp only [State.canRunWord, Bool.and_eq_true] at hc
    obtain ⟨⟨hrun, -⟩, -⟩ := hc
    exact hrun
  obtain ⟨hbit, hlease⟩ := State.released_or hrel
  suffices he : exec c s = .next (s.atomicRetired h op x (szRd w) pair l) from
    ⟨_, he, hr.atomicRetired_effect (s.canRun_wait hrun) (szRd w) pair⟩
  simp only [List.mem_cons, Prod.mk.injEq, List.not_mem_nil, or_false] at hmem
  obtain ⟨rfl, rfl, rfl, rfl⟩ | ⟨rfl, rfl, rfl, rfl⟩ | ⟨rfl, rfl, rfl, rfl⟩ | ⟨rfl, rfl, rfl, rfl⟩ | ⟨rfl, rfl, rfl, rfl⟩ |
    ⟨rfl, rfl, rfl, rfl⟩ | ⟨rfl, rfl, rfl, rfl⟩ | ⟨rfl, rfl, rfl, rfl⟩ | ⟨rfl, rfl, rfl, rfl⟩ := hmem
  · exact execSzXaadd_ready hc hbit hr
  · exact szAtomic_ready (op := fun y => .fadd ((y.reg (szRs2 w)).setWidth 32)) hc hbit hr false
  · exact szAtomic_ready (op := fun y => .fmax ((y.reg (szRs2 w)).setWidth 32)) hc hbit hr false
  · exact szAtomic_ready (op := fun y => .fmin ((y.reg (szRs2 w)).setWidth 32)) hc hbit hr false
  · exact szAtomic_ready (op := fun y => .cas 4 ((y.reg (szRd w)).setWidth 128) ((y.reg (szRs2 w)).setWidth 128)) hc hbit hr false
  · exact szAtomic_ready (op := fun y => .cas 8 ((y.reg (szRd w)).setWidth 128) ((y.reg (szRs2 w)).setWidth 128)) hc hbit hr false
  · exact szAtomic_ready (op := fun y => .cas 16 (y.pair (szRd w)) (y.pair (szRs2 w))) hc hbit hr true
  · exact szAtomic_ready (op := fun y => .leaseAcq (s.callerId h) (s.callerEpoch h) (y.reg (szRs2 w))) hc hbit hr false
  · exact execSzLrel_ready hc hlease hr

end Sys2Proof.Machine

/-! What an effect leaves to be read, and the registers that records leave alone. -/
namespace Sys2Proof.Machine

/-! ## What an effect leaves to be read -/

theorem Effect.array_eq {F : List Part} {s t : State} (he : Effect F s t) (hF : F.contains .arrays = false) (r : Nat) :
    t.array r = s.array r := by
  obtain ⟨hsame, -⟩ := he
  simp only [State.array, show t.arrays = s.arrays from hsame .arrays hF]

theorem Effect.reg_eq {F : List Part} {s t : State} (he : Effect F s t) (hF : F.contains .regs = false) (n : RegName) (i : Nat) :
    t.reg n i = s.reg n i := by
  obtain ⟨hsame, -⟩ := he
  exact State.reg_congr (hsame .regs hF) n i

theorem Effect.now_eq {F : List Part} {s t : State} (he : Effect F s t) (hF : F.contains .now = false) : t.now = s.now := by
  obtain ⟨hsame, -⟩ := he
  exact hsame .now hF

/-- A command that finds what it needs takes effect. -/
theorem whenReady_of {ok : Bool} (h : ok = true) (s t : State) : whenReady ok s t = .next t := by
  simp [whenReady, h]

/-! ## Registers that records and counters leave alone (R82, R480, R482) -/

@[simp] theorem State.reg_setRegN_name (s : State) {n m : RegName} (h : m ≠ n) (i j x : Nat) :
    (s.setRegN n i x).reg m j = s.reg m j := s.reg_setReg_name n m i j _ h

@[simp] theorem State.reg_orReg_name (s : State) {n m : RegName} (h : m ≠ n) (i j x : Nat) :
    (s.orReg n i x).reg m j = s.reg m j := s.reg_setReg_name n m i j _ h

@[simp] theorem State.reg_bumpReg_name (s : State) {n m : RegName} (h : m ≠ n) (i j w x : Nat) :
    (s.bumpReg n i w x).reg m j = s.reg m j := s.reg_setReg_name n m i j _ h

theorem State.regN_bumpReg_name (s : State) {n m : RegName} (h : m ≠ n) (i j w x : Nat) :
    (s.bumpReg n i w x).regN m j = s.regN m j := congrArg BitVec.toNat (s.reg_bumpReg_name h ..)

@[simp] theorem State.reg_bumpCount_name (s : State) {n m : RegName} (h : m ≠ n) (i j r : Nat) :
    (s.bumpCount n i r).reg m j = s.reg m j :=
  ((State.testWatches_effect ..).reg_eq rfl m j).trans (s.reg_bumpReg_name h ..)

theorem State.regN_bumpReg (s : State) (n : RegName) (i x : Nat) {w : Nat} (hw : w ≤ 64) :
    (s.bumpReg n i w x).regN n i = (s.regN n i + x) % 2 ^ w := by
  have hlt : (s.regN n i + x) % 2 ^ w < 2 ^ w := Nat.mod_lt _ (Nat.two_pow_pos w)
  exact State.regN_setRegN s n i _ (Nat.lt_of_lt_of_le hlt (Nat.pow_le_pow_right (by decide) hw))

theorem State.regN_bumpCount (s : State) (n : RegName) (i r : Nat) :
    (s.bumpCount n i r).regN n i = (s.regN n i + 1) % 2 ^ 32 :=
  (congrArg BitVec.toNat ((State.testWatches_effect ..).reg_eq rfl n i)).trans (s.regN_bumpReg n i 1 (by decide))

/-- A bit of a number, as the library reads it. -/
theorem bitOf_eq_testBit (x n : Nat) : bitOf x n = x.testBit n := by
  rw [Nat.testBit_eq_decide_div_mod_eq]; rfl

theorem State.bitOf_orReg (s : State) (n : RegName) (i : Nat) {k : Nat} (hk : k < 64) :
    bitOf ((s.orReg n i (2 ^ k)).regN n i) k = true := by
  have hlt : 2 ^ k < 2 ^ 64 := Nat.pow_lt_pow_right (by decide) hk
  rw [State.regN, State.reg_orReg, bitOf_eq_testBit, BitVec.toNat_or, BitVec.toNat_ofNat, Nat.mod_eq_of_lt hlt, Nat.testBit_or,
    Nat.testBit_two_pow_self, Bool.or_true]

section
variable {n : RegName} (hprod : n ≠ .errProd) (hlost : n ≠ .errLost)
include hprod hlost

theorem State.reg_ringRecord (s : State) (r : Nat) (e : ErrRecord) (i : Nat) : (s.ringRecord r e).reg n i = s.reg n i := by
  unfold State.ringRecord
  dsimp only
  split
  · exact s.reg_setRegN_name hlost ..
  · exact s.reg_setRegN_name hprod ..

theorem State.reg_placeRecord (s : State) (e : ErrRecord) (i : Nat) : (s.placeRecord e).reg n i = s.reg n i := by
  have hring : (if e.flags % 2 = 1 then s.ringRecord (e.die * 32 + e.room) e else s).reg n i = s.reg n i := by
    split
    · exact s.reg_ringRecord hprod hlost ..
    · rfl
  refine Eq.trans ?_ hring
  unfold State.placeRecord
  dsimp only
  split <;> rfl

theorem State.reg_rowEvent (s : State) (e : ErrRecord) (i : Nat) : (s.rowEvent e).reg n i = s.reg n i := by
  have hfails (t : State) (r b row : Nat) : (t.rowFails e r b row).reg n i = t.reg n i := by
    unfold State.rowFails
    dsimp only
    split
    · rfl
    · split
      · rfl
      · exact t.reg_placeRecord hprod hlost ..
  unfold State.rowEvent
  dsimp only
  split
  · split
    · exact hfails ..
    · rfl
  · rfl

/-- R480, R482: a record that is posted moves no register but those of its room's ring. -/
theorem State.reg_post (s : State) (e : ErrRecord) (i : Nat) : (s.post e).reg n i = s.reg n i := by
  unfold State.post
  refine (State.reg_rowEvent hprod hlost ..).trans ?_
  split
  · split
    · rfl
    · exact s.reg_placeRecord hprod hlost ..
  · exact s.reg_placeRecord hprod hlost ..

theorem State.reg_pwrite_pantry (s : State) (r o : Nat) (l : List PByte) (i : Nat) :
    (s.pwrite (.pantry r o) l).reg n i = s.reg n i := by
  have hpoison (t : State) : ((l.zipIdx).foldl (fun s q => if q.1.2 then s.setPoison (wordKeyAt (.pantry r o) q.2) true else s)
      t).reg n i = t.reg n i :=
    (Effect.foldl (F := [.poison]) (fun u q => .ite (fun _ => State.setPoison_effect ..) fun _ => .refl ..) (.refl _ t)).reg_eq rfl n i
  refine (hpoison _).trans ?_
  simp only [State.memWrite, State.reg_bump]
  split
  · exact (State.reg_post hprod hlost ..).trans ((State.writePantry_effect ..).reg_eq rfl n i)
  · exact (State.writePantry_effect ..).reg_eq rfl n i

/-- R75, R179: rows written to a pantry move no register but those that a record of a merged word moves. -/
theorem State.reg_putRows (s : State) (r : Nat) (l : List (Nat × List PByte)) (i : Nat) :
    (s.putRows r l).reg n i = s.reg n i := by
  induction l generalizing s with
  | nil => rfl
  | cons p l ih => exact (ih _).trans (s.reg_pwrite_pantry hprod hlost ..)

end

end Sys2Proof.Machine

/-! The head of the array's queue completes; flush, release by force and ARRAY_SB_CFG (O10). -/
namespace Sys2Proof.Machine

/-! ## The entry at the head of the array's queue completes (R60, R65, R77) -/

@[simp] theorem ArrayB.settle_queue (a : ArrayB) : a.settle.queue = a.queue := by
  unfold ArrayB.settle; split <;> rfl

@[simp] theorem ArrayB.settle_xa (a : ArrayB) : a.settle.xa = a.xa := by
  unfold ArrayB.settle; split <;> rfl

@[simp] theorem ArrayB.freeSlot_queue (a : ArrayB) (e : ArrayEntry) : (a.freeSlot e).queue = a.queue := by
  unfold ArrayB.freeSlot; dsimp only; split <;> rfl

@[simp] theorem ArrayB.freeSlot_xa (a : ArrayB) (e : ArrayEntry) : (a.freeSlot e).xa = a.xa := by
  unfold ArrayB.freeSlot; dsimp only; split <;> rfl

@[simp] theorem ArrayB.gap_queue (a : ArrayB) : a.gap.queue = a.queue := by
  unfold ArrayB.gap; split <;> rfl

@[simp] theorem ArrayB.gap_xa (a : ArrayB) : a.gap.xa = a.xa := by
  unfold ArrayB.gap; split <;> rfl

/-- R60: the entry at the head of a queue is not one that was rejected. -/
def headRuns (q : List ArrayEntry) : Prop := q.head?.all (fun g => !(g.started && g.status != 0)) = true

section
variable (s : State) (r : Nat) (e : ArrayEntry) (st arith cycles : Nat)

theorem State.array_arrayFinish : (s.arrayFinish r e st arith cycles).array r =
    ArrayB.settle (ArrayB.freeSlot { s.array r with queue := (s.array r).queue.drop 1, headSince := s.now } e) := by
  have hrecord : ((s.arrayRecord r e st arith cycles).orReg .arrayErr r (arrayErrBit st)).array r = s.array r :=
    (State.arrayRecord_effect ..).array_eq rfl r
  unfold State.arrayFinish
  rw [(State.bumpCount_effect ..).array_eq rfl, State.array_modArray, hrecord]

theorem State.reg_arrayFinish_name {n : RegName} (herr : n ≠ .arrayErr) (hcount : n ≠ .arrayDoneCount) (i : Nat) :
    (s.arrayFinish r e st arith cycles).reg n i = s.reg n i := by
  have hrecord : (s.arrayRecord r e st arith cycles).reg n i = s.reg n i := (State.arrayRecord_effect ..).reg_eq rfl n i
  simp [State.arrayFinish, herr, hcount, hrecord]

theorem State.regN_arrayDoneCount_arrayFinish : (s.arrayFinish r e st arith cycles).regN .arrayDoneCount r =
    (s.regN .arrayDoneCount r + 1) % 2 ^ 32 := by
  have hrecord : (s.arrayRecord r e st arith cycles).reg .arrayDoneCount r = s.reg .arrayDoneCount r :=
    (State.arrayRecord_effect ..).reg_eq rfl _ _
  rw [State.arrayFinish, State.regN_bumpCount]
  simp [State.regN, hrecord]

theorem State.reg_arrayErr_arrayFinish : (s.arrayFinish r e st arith cycles).reg .arrayErr r =
    s.reg .arrayErr r ||| BitVec.ofNat 64 (arrayErrBit st) := by
  have hrecord : (s.arrayRecord r e st arith cycles).reg .arrayErr r = s.reg .arrayErr r :=
    (State.arrayRecord_effect ..).reg_eq rfl _ _
  simp [State.arrayFinish, hrecord]

/-- R77: from s to t the head of the array's queue has completed and q is left behind it; the entries of the accumulators are as
they were. -/
structure State.HeadCompleted (s t : State) (r : Nat) (q : List ArrayEntry) : Prop where
  queue : (t.array r).queue = q
  xa : (t.array r).xa = (s.array r).xa
  count : t.regN .arrayDoneCount r = (s.regN .arrayDoneCount r + 1) % 2 ^ 32

variable {s r e st arith cycles} {e₀ : ArrayEntry} {q : List ArrayEntry}

theorem State.headCompleted_arrayFinish (hq : (s.array r).queue = e₀ :: q) :
    s.HeadCompleted (s.arrayFinish r e st arith cycles) r q where
  queue := by simp [State.array_arrayFinish, hq]
  xa := by simp [State.array_arrayFinish]
  count := s.regN_arrayDoneCount_arrayFinish ..

/-- R60: where the head runs, or has yet to, nothing completes behind it. -/
theorem State.arrayRejected_of_headRuns {t : State} (hq : (t.array r).queue = q) (hn : headRuns q) (f : Nat) :
    State.arrayRejected f r t = t := by
  cases f with
  | zero => rfl
  | succ f =>
    cases q with
    | nil => simp [State.arrayRejected, hq]
    | cons g q =>
      have hg : ¬ (g.started = true ∧ g.status ≠ 0) := fun ⟨hs, hz⟩ => by simp [headRuns, hs, hz] at hn
      simp only [State.arrayRejected, hq, if_neg hg]

theorem State.arrayComplete_of_headRuns (hq : (s.array r).queue = e₀ :: q) (hn : headRuns q) :
    s.arrayComplete r e st arith cycles = s.arrayFinish r e st arith cycles :=
  State.arrayRejected_of_headRuns (State.headCompleted_arrayFinish hq).queue hn 8

theorem State.headCompleted_arrayComplete (hq : (s.array r).queue = e₀ :: q) (hn : headRuns q) :
    s.HeadCompleted (s.arrayComplete r e st arith cycles) r q := by
  rw [State.arrayComplete_of_headRuns hq hn]
  exact State.headCompleted_arrayFinish hq

/-- R76: the entry at the head is rejected: it completes at once. -/
theorem State.rejectEntry_head (hq : (s.array r).queue = e :: q) (hn : headRuns q) (hst : st ≠ 0) :
    s.rejectEntry r 0 e st = (s.modArray r fun a => a.setEntry 0 { e with started := true, status := st }).arrayFinish r
      { e with started := true, status := st } st 0 0 := by
  have hset : ((s.modArray r fun a => a.setEntry 0 { e with started := true, status := st }).array r).queue =
      { e with started := true, status := st } :: q := by
    rw [State.array_modArray, ArrayB.setEntry, hq]
    rfl
  rw [State.rejectEntry, State.arrayRejected, hset]
  simp only [hst, ne_eq, not_false_eq_true, and_self, if_true]
  exact State.arrayRejected_of_headRuns (State.headCompleted_arrayFinish hset).queue hn 7

end

/-! ## Flush and release by force (R80, R84) -/

theorem State.array_putRows (s : State) (r : Nat) (l : List (Nat × List PByte)) (j : Nat) :
    (s.putRows r l).array j = s.array j := (State.putRows_effect ..).array_eq rfl j

/-- R80: stopping a running entry takes nothing off the queue. -/
theorem State.queue_arrayCut (s : State) (r : Nat) (e : ArrayEntry) :
    ((s.arrayCut r e).array r).queue = (s.array r).queue := by
  unfold State.arrayCut
  dsimp only
  split
  · rw [State.array_bumpReg, State.freeCells, State.array_modArray]
    split
    · rw [State.array_putRows]
    · rfl
  · rw [State.array_putRows]
  · rw [State.freeCells, State.array_modArray]
  · rfl

/-- R80: with a turn for each entry, the queue is empty once all have completed with ABORTED. -/
theorem State.queue_arrayAbort (f : Nat) (r : Nat) (s : State) (hf : (s.array r).queue.length ≤ f) :
    ((State.arrayAbort f r s).array r).queue = [] := by
  induction f generalizing s with
  | zero => exact List.eq_nil_of_length_eq_zero (Nat.le_zero.mp hf)
  | succ f ih =>
    unfold State.arrayAbort
    split
    next hq => exact hq
    next e q hq =>
      have hstopped : ((if (e.started && e.status == 0) = true then s.arrayCut r e else s).array r).queue = e :: q := by
        split
        · rw [State.queue_arrayCut, hq]
        · exact hq
      apply ih
      rw [State.array_arrayFinish]
      simp only [ArrayB.settle_queue, ArrayB.freeSlot_queue, State.array_bump, hstopped, List.drop_one, List.tail_cons]
      rw [hq] at hf
      exact Nat.le_of_succ_le_succ hf

/-- R80: a flush leaves no entry, no stage and no slot that is not EMPTY. -/
theorem State.array_arrayFlush_empty (s : State) (r : Nat) (hlen : (s.array r).queue.length ≤ 8) :
    ((s.arrayFlush r).array r).queue = [] ∧ ((s.arrayFlush r).array r).stages = [] ∧ ((s.arrayFlush r).array r).slots = [] := by
  have hforget (t : State) (l : List Stage) :
      (l.foldl (fun u g => u.forgetBytes (pantryKey r (u.slotBase r g.slot)) g.len) t).array r = t.array r :=
    (Effect.foldl (fun u g => State.forgetBytes_effect ..) (.refl _ t)).array_eq rfl r
  have hqueue := s.queue_arrayAbort 8 r hlen
  simp [State.arrayFlush, hforget, hqueue]

/-- R84: FORCE_RELEASE ends the ownership and any release that was scheduled. -/
theorem State.array_arrayForceRelease (s : State) (r : Nat) : (s.arrayForceRelease r).array r =
    { (s.arrayFlush r).array r with owner := none, releasePending := false, levelChange := true } := by
  rw [State.arrayForceRelease, (State.trapStalled_effect ..).array_eq rfl, State.array_modArray]

/-- Settles O10: the flush empties the queue because it has a turn for each of the 8 entries; FORCE_RELEASE flushes, and a write
of ARRAY_SB_CFG goes by whether R83 allows it. -/
theorem arrayControlWritesComplete : Obligations.ArrayControlWritesComplete := by
  refine ⟨fun r s hlen => ?_, fun r s hlen => ?_, fun r writer value s hok => ?_, fun r writer value s hno => ?_⟩
  · obtain ⟨hq, hst, hsl⟩ := s.array_arrayFlush_empty r.val hlen
    exact ⟨_, rfl, hq, hst, hsl, State.bitOf_orReg _ .arrayErr r.val (k := 5) (by decide)⟩
  · obtain ⟨hq, hst, -⟩ := s.array_arrayFlush_empty r.val hlen
    refine ⟨s.arrayForceRelease r.val, rfl, ?_⟩
    simp [State.array_arrayForceRelease, hq, hst]
  · exact congrArg Host.Outcome.next (if_pos hok)
  · exact congrArg Host.Outcome.next (if_neg (by simp [hno]))

end Sys2Proof.Machine

/-! The array's stages, its queue and its activity (O9). -/
namespace Sys2Proof.Machine

/-! ## Stages (R57, R58, R137) -/

section
variable {r : RoomIx} {s : State} {g : Stage} {q : List Stage} (hq : (s.array r.val).stages = g :: q)
include hq

theorem execStageStart_ready (hst : g.started = false) (hslot : (tgetD (s.array r.val).slots g.slot {}).state = 0) :
    execStageStart r s = .next ((s.modArray r.val fun a =>
      { a with stages := { g with started := true } :: q, slots := tset g.slot ⟨1, g.len⟩ a.slots }).setGuard
        (.slot r.val g.slot) r.val (slotRanges s r.val g.slot)) := by
  simp only [execStageStart, hq]
  exact whenReady_of (by simp [hst, hslot]) ..

theorem execStageComplete_ready (hst : g.started = true) (hopen : s.unitOpen r.val g.auth .read .load 3 g.src.toNat g.len = true) :
    execStageComplete r s = .next (s.stageEnd r.val g q) := by
  simp only [execStageComplete, hq]
  exact whenReady_of (by simp [hst, hopen]) ..

theorem execStageTimeout_ready (hst : g.started = false) (hslot : (tgetD (s.array r.val).slots g.slot {}).state ≠ 0) :
    execStageTimeout r s = .next (((s.reach ((s.array r.val).stageSince + s.arrayWait r.val)).modArray r.val fun x => { x with
      stages := q, stageSince := max s.now ((s.array r.val).stageSince + s.arrayWait r.val) }).orReg .arrayErr r.val 4) := by
  simp only [execStageTimeout, hq]
  exact whenReady_of (by simp [hst, hslot]) ..

end

/-- R58: a stage whose source gave every byte makes its slot VALID. -/
theorem State.stageEnd_of_read {s : State} {r : Nat} {g : Stage} {b : List PByte}
    (hread : s.unitReadTo r g.auth (pageList g.src.toNat g.len) = (b, none)) (q : List Stage) :
    s.stageEnd r g q = ((s.unitNote r g.auth g.src.toNat g.len).pwrite (.pantry r (s.slotBase r g.slot)) (s.stageBytes g b)).modArray r
      fun a => { a with stages := q, stageSince := s.now, slots := tset g.slot ⟨2, g.len⟩ a.slots } := by
  simp [State.stageEnd, hread]

/-! ## Entries start (R60, R63, R64, R68) -/

/-- R69, R404: an entry that starts withdraws the step-down, ends keep-warm and counts the cycles before it; the arrays are as they
were. -/
theorem State.array_leadIn (s : State) (r j : Nat) :
    (((s.withdrawGrant .stepDown r).endKeepWarm r).leadCycles r).array j = s.array j := by
  rw [(State.leadCycles_effect ..).array_eq rfl, (State.endKeepWarm_effect ..).array_eq rfl,
    (State.withdrawGrant_effect ..).array_eq rfl]

theorem State.array_passIssue (s : State) (r i : Nat) (e : ArrayEntry) : (s.passIssue r i e).array r =
    { (s.array r).setEntry i { e with started := true, adds := s.passAdds r e } with
      power := .running, granted := false, levelChange := false
      level := ⟨e.fold, e.axis, e.tileFmt, e.weightFmt, e.hart⟩ } := by
  rw [State.passIssue, State.array_modArray, State.array_leadIn]

section
variable {r : RoomIx} {s : State} {e : ArrayEntry} {i : Nat} (hnext : (s.array r.val).nextEntry = some (i, e))
include hnext

theorem execArrayPassIssue_ready (hop : e.op = 1) (hst : s.passStatus r.val e = 0) (hpow : (s.array r.val).powered = true)
    (hslot : e.resident = true ∨ (tgetD (s.array r.val).slots e.wslot {}).state = 2)
    (hover : e.init = true → (s.array r.val).overlapsRunning e = false) :
    execArrayPassIssue r s = .next (s.passIssue r.val i e) := by
  have hpass : ¬ (2 ≤ e.op ∧ e.op ≤ 4) := by omega
  have hfree : (!(e.init && (s.array r.val).overlapsRunning e)) = true := by
    cases hi : e.init with
    | false => rfl
    | true => rw [hover hi]; rfl
  simp only [execArrayPassIssue, hnext, if_neg hpass, hst, ne_eq, not_true_eq_false, if_false]
  exact whenReady_of (by simp [hpow, hslot, hfree]) ..

theorem exportStart_ready {op : Nat} (hop : e.op = op) (hst : s.entryCheck r.val e = 0) (hover : (s.array r.val).overlapsRunning e = false) :
    exportStart op r s = .next (s.modArray r.val fun a => a.setEntry i { e with started := true }) := by
  simp only [exportStart, hnext, hop, hst, ne_eq, not_true_eq_false, if_false]
  exact whenReady_of (by simp [hover]) ..

theorem execArrayDummyStart_ready (hop : e.op = 4) (hst : s.entryCheck r.val e = 0) (hpow : (s.array r.val).powered = true) :
    execArrayDummyStart r s = .next ((((s.withdrawGrant .stepDown r.val).endKeepWarm r.val).leadCycles r.val).modArray r.val
      fun a => { a.setEntry i { e with started := true } with power := .dummy, granted := false }) := by
  simp only [execArrayDummyStart, hnext, hop, hst, ne_eq, not_true_eq_false, if_false]
  exact whenReady_of hpow ..

end

/-! ## The head of the queue completes (R64, R65, R75, R77) -/

/-- R64: the state in which a pass has landed its products. -/
def State.passLanded (s : State) (r : Nat) (e : ArrayEntry) : State :=
  s.modArray r fun a => a.land e.init (s.passLands r e)

/-- R75, R82: that state once the pass has exported, where it exports, and its columns are counted. -/
def State.passExported (s : State) (r : Nat) (e : ArrayEntry) : State :=
  (if e.autoExport then (s.passLanded r e).putRows r (((s.passLanded r e).array r).exportRows e)
    else s.passLanded r e).bumpReg .arrayBusyCycles r 64 e.columnCycles

theorem State.passComplete_eq (s : State) (r : Nat) (e : ArrayEntry) : s.passComplete r e =
    ((s.passExported r e).arrayComplete r e (b2n (((s.passLanded r e).array r).anyPoison e))
      (if e.autoExport then ((s.passLanded r e).array r).exportFlags e else 0) e.runCycles).modArray r (·.gap) := rfl

theorem State.array_passExported (s : State) (r : Nat) (e : ArrayEntry) :
    (s.passExported r e).array r = (s.array r).land e.init (s.passLands r e) := by
  rw [State.passExported, State.array_bumpReg]
  split
  · rw [State.array_putRows, State.passLanded, State.array_modArray]
  · rw [State.passLanded, State.array_modArray]

theorem State.regN_arrayDoneCount_putRows (s : State) (r : Nat) (l : List (Nat × List PByte)) :
    (s.putRows r l).regN .arrayDoneCount r = s.regN .arrayDoneCount r :=
  congrArg BitVec.toNat (State.reg_putRows (by decide) (by decide) ..)

theorem State.regN_arrayDoneCount_passExported (s : State) (r : Nat) (e : ArrayEntry) :
    (s.passExported r e).regN .arrayDoneCount r = s.regN .arrayDoneCount r := by
  rw [State.passExported, State.regN_bumpReg_name _ (by decide)]
  split
  · exact State.regN_arrayDoneCount_putRows ..
  · rfl

section
variable {s : State} {r : RoomIx} {e : ArrayEntry} {q : List ArrayEntry} (hq : (s.array r.val).queue = e :: q)
include hq

theorem execArrayPassComplete_ready (hop : e.op = 1) (hst : e.started = true) (hok : e.status = 0) :
    execArrayPassComplete r s = .next (s.passComplete r.val e) := by
  simp only [execArrayPassComplete, hq]
  exact whenReady_of (by simp [ArrayEntry.isPass, hop, hst, hok]) ..

theorem execArraySlotTimeout_ready (hop : e.op = 1) (hst : e.started = false) (hres : e.resident = false)
    (hok : s.passStatus r.val e = 0) (hslot : (tgetD (s.array r.val).slots e.wslot {}).state ≠ 2) :
    execArraySlotTimeout r s =
      .next ((s.reach ((s.array r.val).headSince + s.arrayWait r.val)).rejectEntry r.val 0 e 0x20) := by
  simp only [execArraySlotTimeout, hq]
  exact whenReady_of (by simp [ArrayEntry.isPass, hop, hst, hres, hok, hslot]) ..

theorem execArrayExportComplete_ready (hop : e.op = 2) (hst : e.started = true) (hok : e.status = 0) :
    execArrayExportComplete r s = .next ((s.putRows r.val ((s.array r.val).exportRows e)).arrayComplete r.val e
      (b2n ((s.array r.val).anyPoison e)) ((s.array r.val).exportFlags e) e.runCycles) := by
  simp only [execArrayExportComplete, hq]
  exact whenReady_of (by simp [hop, hst, hok]) ..

theorem execArrayImportComplete_ready (hop : e.op = 3) (hst : e.started = true) (hok : e.status = 0) :
    execArrayImportComplete r s = .next ((s.modArray r.val fun a =>
      { a with xa := (s.importCells r.val e).foldl (fun x c => tset c.1 c.2 x) a.xa }).arrayComplete r.val e
        (b2n ((s.importCells r.val e).any (·.2.poison))) 0 e.runCycles) := by
  simp only [execArrayImportComplete, hq]
  exact whenReady_of (by simp [hop, hst, hok]) ..

theorem execArrayDummyComplete_ready (hop : e.op = 4) (hst : e.started = true) (hok : e.status = 0) :
    execArrayDummyComplete r s =
      .next ((s.bumpReg .arrayDummyCycles r.val 64 e.n).arrayComplete r.val e 0 0 e.runCycles) := by
  simp only [execArrayDummyComplete, hq]
  exact whenReady_of (by simp [hop, hst, hok]) ..

end

section
variable {s : State} {r : Nat} {e : ArrayEntry} {q : List ArrayEntry} (hq : (s.array r).queue = e :: q) (hn : headRuns q)
include hq hn

/-- R75, R77: a pass lands its products in the accumulators and completes. -/
theorem State.headCompleted_passComplete : (s.passExported r e).HeadCompleted (s.passComplete r e) r q := by
  have hqueue : ((s.passExported r e).array r).queue = e :: q := by rw [State.array_passExported]; exact hq
  obtain ⟨hdone, hxa, hcount⟩ := State.headCompleted_arrayComplete (e := e)
    (st := b2n (((s.passLanded r e).array r).anyPoison e))
    (arith := if e.autoExport then ((s.passLanded r e).array r).exportFlags e else 0) (cycles := e.runCycles) hqueue hn
  rw [State.passComplete_eq]
  exact ⟨by rw [State.array_modArray, ArrayB.gap_queue, hdone], by rw [State.array_modArray, ArrayB.gap_xa, hxa], hcount⟩

/-- R65: at the deadline the pass at the head completes with SLOT_TIMEOUT, which sets ARRAY_ERR bit 1. -/
theorem State.rejectEntry_slotTimeout :
    ((s.rejectEntry r 0 e 0x20).array r).queue = q ∧
      (s.rejectEntry r 0 e 0x20).regN .arrayDoneCount r = (s.regN .arrayDoneCount r + 1) % 2 ^ 32 ∧
      (s.rejectEntry r 0 e 0x20).reg .arrayErr r = s.reg .arrayErr r ||| 2 := by
  rw [State.rejectEntry_head hq hn (by decide)]
  refine ⟨?_, State.regN_arrayDoneCount_arrayFinish .., State.reg_arrayErr_arrayFinish ..⟩
  rw [State.array_arrayFinish, ArrayB.settle_queue, ArrayB.freeSlot_queue, State.array_modArray, ArrayB.setEntry, hq]
  rfl

theorem State.regN_arrayComplete_name {n : RegName} (herr : n ≠ .arrayErr) (hcount : n ≠ .arrayDoneCount) (st arith cycles : Nat) :
    (s.arrayComplete r e st arith cycles).regN n r = s.regN n r := by
  rw [State.arrayComplete_of_headRuns hq hn]
  exact congrArg BitVec.toNat (State.reg_arrayFinish_name _ _ _ _ _ _ herr hcount r)

end

/-! ## The array changes its activity (R68, R69) -/

section
variable {r : RoomIx} {s : State}

/-- R68: a step-down with its grant starts. -/
theorem execArrayStepDownStart_ready (hpow : (s.array r.val).powered = true) (hidle : (s.array r.val).queue.any (·.started) = false)
    (hwarm : s.keptWarm r.val = false) (hready : s.arrayReady r.val = false) (hgrant : s.granted .stepDown r.val = true) :
    ∃ u : State, execArrayStepDownStart r s = .next (u.modArray r.val fun a => { a with power := .steppingDown }) :=
  ⟨_, whenReady_of (by simp only [hpow, hidle, hwarm, hready, hgrant]; rfl) ..⟩

theorem execArrayIdle_ready (hpow : (s.array r.val).power = .steppingDown) : execArrayIdle r s =
    .next ((s.bumpReg .arrayDummyCycles r.val 64 96).modArray r.val fun a => { a with power := .idle, granted := false }) :=
  whenReady_of (by rw [hpow]; rfl) ..

theorem execArrayWakeGrant_ready (hpow : (s.array r.val).power = .idle) (hq : (s.array r.val).queue ≠ [])
    (hgrant : s.granted .wake r.val = true) : execArrayWakeGrant r s =
    .next ((s.useGrant .wake r.val).modArray r.val fun a => { a with power := .ramping, granted := true }) :=
  whenReady_of (by simp [hpow, hq, hgrant]) ..

end

/-- Settles O9: each command finds what it needs, so it comes to its effect, and the laws of starting and of completing say what
that leaves of the array and its counters. -/
theorem arrayRunsItsQueue : Obligations.ArrayRunsItsQueue := by
  refine ⟨fun r s g q hq hst hslot => execStageStart_ready hq hst hslot, fun r s g q b hq hst hopen hread => ?_,
    fun r s g q hq hst hslot => ?_, fun r s e i hnext hop hst hpow hslot hover => ?_, fun r s e q hq hop hst hok hn => ?_,
    fun r s e q hq hop hst hres hok hslot hn => ?_, fun r s e i c op hmem hnext hop hst hover => ?_,
    fun r s e q hq hop hst hok hn => ?_, fun r s e q hq hop hst hok hn => ?_, fun r s e i hnext hop hst hpow => ?_,
    fun r s e q hq hop hst hok hn => ?_, fun r s hpow hidle hwarm hready hgrant => ?_, fun r s hpow => ?_,
    fun r s hpow hq hgrant => ?_⟩
  · refine ⟨_, execStageComplete_ready hq hst hopen, ?_⟩
    rw [State.stageEnd_of_read hread]
    simp
  · refine ⟨_, execStageTimeout_ready hq hst hslot, rfl, ?_⟩
    simp
  · refine ⟨_, execArrayPassIssue_ready hnext hop hst hpow hslot hover, ?_⟩
    simp [State.array_passIssue, ArrayB.setEntry]
  · obtain ⟨hqueue, hxa, hcount⟩ := State.headCompleted_passComplete hq hn
    rw [State.array_passExported] at hxa
    rw [State.regN_arrayDoneCount_passExported] at hcount
    exact ⟨_, execArrayPassComplete_ready hq hop hst hok, hqueue, hxa, hcount⟩
  · obtain ⟨hqueue, hcount, herr⟩ := State.rejectEntry_slotTimeout
      (s := s.reach ((s.array r.val).headSince + s.arrayWait r.val)) (r := r.val) hq hn
    exact ⟨_, execArraySlotTimeout_ready hq hop hst hres hok hslot, (State.rejectEntry_effect ..).now_eq rfl, hqueue, hcount, herr⟩
  · simp only [List.mem_cons, Prod.mk.injEq, List.not_mem_nil, or_false] at hmem
    obtain ⟨rfl, rfl⟩ | ⟨rfl, rfl⟩ := hmem
    · exact exportStart_ready hnext hop hst hover
    · exact exportStart_ready hnext hop hst hover
  · obtain ⟨hqueue, hxa, hcount⟩ := State.headCompleted_arrayComplete
      (s := s.putRows r.val ((s.array r.val).exportRows e)) (e := e) (st := b2n ((s.array r.val).anyPoison e))
      (arith := (s.array r.val).exportFlags e) (cycles := e.runCycles) (by rw [State.array_putRows, hq]) hn
    rw [State.array_putRows] at hxa
    rw [State.regN_arrayDoneCount_putRows] at hcount
    exact ⟨_, execArrayExportComplete_ready hq hop hst hok, hqueue, hxa, hcount⟩
  · refine ⟨_, execArrayImportComplete_ready hq hop hst hok, ?_⟩
    obtain ⟨hqueue, hxa, hcount⟩ := State.headCompleted_arrayComplete
      (s := s.modArray r.val fun a => { a with xa := (s.importCells r.val e).foldl (fun x c => tset c.1 c.2 x) a.xa }) (e := e)
      (st := b2n ((s.importCells r.val e).any (·.2.poison))) (arith := 0) (cycles := e.runCycles)
      (by rw [State.array_modArray]; exact hq) hn
    rw [State.array_modArray] at hxa
    exact ⟨hqueue, hxa, hcount⟩
  · refine ⟨_, execArrayDummyStart_ready hnext hop hst hpow, ?_⟩
    simp [State.array_leadIn, ArrayB.setEntry]
  · refine ⟨_, execArrayDummyComplete_ready hq hop hst hok, ?_⟩
    have hqueue : ((s.bumpReg .arrayDummyCycles r.val 64 e.n).array r.val).queue = e :: q := hq
    obtain ⟨hdone, -, hcount⟩ := State.headCompleted_arrayComplete (e := e) (st := 0) (arith := 0) (cycles := e.runCycles) hqueue hn
    rw [State.regN_bumpReg_name _ (by decide)] at hcount
    refine ⟨hdone, hcount, ?_⟩
    rw [State.regN_arrayComplete_name hqueue hn (by decide) (by decide), State.regN_bumpReg _ _ _ _ (by decide)]
  · obtain ⟨u, hu⟩ := execArrayStepDownStart_ready hpow hidle hwarm hready hgrant
    exact ⟨_, hu, by rw [State.array_modArray]⟩
  · refine ⟨_, execArrayIdle_ready hpow, ?_⟩
    simp [State.regN_bumpReg]
  · refine ⟨_, execArrayWakeGrant_ready hpow hq hgrant, ?_⟩
    simp

end Sys2Proof.Machine

/-! The instructions of the matrix array (O8). -/
namespace Sys2Proof.Machine

/-! ## The instructions of custom-0 (R60, R61, R135–R138) -/

/-- R162: a read that gives data records nothing. -/
theorem State.regs_afterRead_of_data {s : State} {p : Place} {n : Nat} {l : List Byte} (hd : s.memRead p n = .data l) :
    (s.afterRead p n).regs = s.regs := by
  cases p with
  | attic r b o =>
    have husable : s.banksUsable r b o n = true := by
      cases hu : s.banksUsable r b o n with
      | true => rfl
      | false =>
        simp only [State.memRead, hu, Bool.not_false, if_true] at hd
        split at hd <;> exact Answer.noConfusion hd
    simp only [State.afterRead, husable, if_true]
    rfl
  | _ => rfl

/-- R135: the words of a descriptor come from a read that gave data. -/
theorem State.readDescriptor_words {s u : State} {h : HartId} {va : W64} {n : Nat} {words : List W64}
    (hread : s.readDescriptor h va n = .words words u) :
    ∃ r x p l, s.memRead p n = .data l ∧ u = (s.fillTlb r x).afterRead p n := by
  unfold State.readDescriptor at hread
  dsimp only at hread
  split at hread
  next => exact Fetched.noConfusion hread
  split at hread
  next => exact Fetched.noConfusion hread
  next x hx =>
    split at hread
    case h_3 => exact Fetched.noConfusion hread
    all_goals
      split at hread
      next => exact Fetched.noConfusion hread
      split at hread
      next => exact Fetched.noConfusion hread
      split at hread
      case h_1 l hd =>
        obtain ⟨-, hu⟩ := Fetched.words.inj hread
        exact ⟨_, x, _, l, hd, hu.symm⟩
      all_goals exact Fetched.noConfusion hread

/-- R135: a descriptor whose words are read moves no register. -/
theorem State.regs_readDescriptor {s u : State} {h : HartId} {va : W64} {n : Nat} {words : List W64}
    (hread : s.readDescriptor h va n = .words words u) : u.regs = s.regs := by
  obtain ⟨r, x, p, l, hd, rfl⟩ := State.readDescriptor_words hread
  obtain ⟨R, hR, hfilled⟩ := s.fillTlb_cases r x
  rw [hfilled]
  rw [← State.memRead_withRooms hR] at hd
  exact State.regs_afterRead_of_data hd

theorem State.arrayTicket_congr {s u : State} (hregs : u.regs = s.regs) (harrays : ∀ r, u.array r = s.array r) (r : Nat) :
    u.arrayTicket r = s.arrayTicket r := by
  simp only [State.arrayTicket, State.regN, State.reg_congr hregs, harrays]

theorem State.hart_arrayEnqueue (s : State) (h : HartId) (rd : Nat) (words : List W64) :
    (s.arrayEnqueue h rd words).hart h = ((s.hart h).setReg rd (s.arrayTicket h.room.val)).retire := by
  simp [State.arrayEnqueue]

theorem State.queue_arrayEnqueue (s : State) (h : HartId) (rd : Nat) (words : List W64) :
    ((s.arrayEnqueue h rd words).array h.room.val).queue =
      (s.array h.room.val).queue ++ [({ words, hart := h.hart.val } : ArrayEntry)] := by
  simp [State.arrayEnqueue]

theorem State.hart_issued (s : State) (h g : HartId) : (s.issued h).hart g = s.hart g := rfl
theorem State.array_issued (s : State) (h : HartId) (r : Nat) : (s.issued h).array r = s.array r := rfl

section
variable {s u : State} {h : HartId} {w : W32} {words : List W64}

/-- R135: the owner's descriptor, read whole and of its own instruction, enters the queue. -/
theorem State.szDescriptor_of_read {other : List Nat} (hlen : (s.array h.room.val).queue.length < 8)
    (hown : (s.array h.room.val).ownedBy h.hart.val = true)
    (hread : s.readDescriptor h ((s.hart h).reg (szRs1 w)) 64 = .words words u) (hop : fld (wordN words 0) 3 0 ∉ other) :
    s.szDescriptor h w other = u.arrayEnqueue h (szRd w) words := by
  have hroom : ¬ 8 ≤ (s.array h.room.val).queue.length := by omega
  simp [State.szDescriptor, State.withDescriptor, hroom, hown, hread, hop]

/-- R60, R129: what the read of its descriptor leaves, an entry that enters is behind those of the queue, with its ticket. -/
theorem State.enqueued_of_read {va : W64} {n rd : Nat} (hread : s.readDescriptor h va n = .words words u) :
    (u.arrayEnqueue h rd words).hart h = ((s.hart h).setReg rd (s.arrayTicket h.room.val)).retire ∧
      ((u.arrayEnqueue h rd words).array h.room.val).queue =
        (s.array h.room.val).queue ++ [({ words, hart := h.hart.val } : ArrayEntry)] := by
  have heffect := State.readDescriptor_effect _ _ _ _ _ _ hread
  have harray := heffect.array_eq rfl
  rw [State.hart_arrayEnqueue, State.queue_arrayEnqueue, harray, heffect.hart_eq rfl,
    State.arrayTicket_congr (State.regs_readDescriptor hread) harray]
  exact ⟨rfl, rfl⟩

theorem execSzPass_ready (hc : s.canRunWord h w custom0 0 = true) :
    execSzPass h w s = .next ((s.szDescriptor h w [2, 3]).issued h) :=
  szRun_canRunWord hc _ (fun hm => by rw [hm]; rfl) _

theorem execSzExport_ready (hc : s.canRunWord h w custom0 1 = true) :
    execSzExport h w s = .next ((s.szDescriptor h w [1, 4]).issued h) :=
  szRun_canRunWord hc _ id _

/-- R132, R137: a stage that passes the checks, and finds room in its owner's queue, enters it. -/
theorem execSzStage_ready (hc : s.canRunWord h w custom0 2 = true)
    (hcheck : s.stageCheck h.room.val ((s.hart h).reg (szRs1 w)).toNat ((s.hart h).reg (szRs2 w)).toNat = 0)
    (hlen : (s.array h.room.val).stages.length < 16) (hown : (s.array h.room.val).ownedBy h.hart.val = true) :
    ∃ t, execSzStage h w s = .next t ∧ t.hart h = (s.hart h).retire ∧ (t.array h.room.val).slots = (s.array h.room.val).slots ∧
      (t.array h.room.val).stages = (s.array h.room.val).stages ++ [({
        n := (s.array h.room.val).staged, slot := fld ((s.hart h).reg (szRs2 w)).toNat 35 32
        len := fld ((s.hart h).reg (szRs2 w)).toNat 18 0, src := (s.hart h).reg (szRs1 w), auth := (s.hart h).authority h.hart.val
        pages := s.stagePages ((s.hart h).authority h.hart.val) ((s.hart h).reg (szRs1 w)).toNat
          (fld ((s.hart h).reg (szRs2 w)).toNat 18 0) } : Stage)] := by
  have hroom : ¬ 16 ≤ (s.array h.room.val).stages.length := by omega
  refine ⟨_, szRun_canRunWord hc _ id _, ?_⟩
  simp [hcheck, hroom, hown, State.hart_issued, State.array_issued]

theorem execSzModeQuery_ready (hc : s.canRunWord h w custom0 3 = true) (hact : s.modeAction h w = 0) :
    execSzModeQuery h w s = .next ((s.result h (szRd w)
      (64 * b2n (s.array h.room.val).releasePending + (s.array h.room.val).ownerValue.toNat)).issued h) := by
  rw [execSzModeQuery, szRun_canRunWord hc _ fun hm => by rw [hm, hact]; rfl]
  simp [hact]

theorem execSzModeClaim_ready (hc : s.canRunWord h w custom0 3 = true) (hact : s.modeAction h w = 1)
    (hpend : (s.array h.room.val).releasePending = false)
    (hown : (s.array h.room.val).owner = none ∨ (s.array h.room.val).owner = some h.hart.val) :
    execSzModeClaim h w s = .next (((s.result h (szRd w) 0).modArray h.room.val fun a =>
      { a with owner := some h.hart.val }).issued h) := by
  have hfree : ¬ ((s.array h.room.val).releasePending = true ∨
      ((s.array h.room.val).owner.isSome = true ∧ (s.array h.room.val).owner ≠ some h.hart.val)) := by
    rcases hown with hown | hown <;> simp [hpend, hown]
  rw [execSzModeClaim, szRun_canRunWord hc _ fun hm => by rw [hm, hact]; rfl]
  simp only [if_neg hfree]

theorem execSzModeRelease_ready (hc : s.canRunWord h w custom0 3 = true) (hact : s.modeAction h w = 2)
    (hown : (s.array h.room.val).ownedBy h.hart.val = true) :
    execSzModeRelease h w s = .next (((s.result h (szRd w) 0).modArray h.room.val fun a => ArrayB.settle
      { a with releasePending := true }).issued h) := by
  have howned : ((s.result h (szRd w) 0).array h.room.val).ownedBy h.hart.val = true := hown
  rw [execSzModeRelease, szRun_canRunWord hc _ fun hm => by rw [hm, hact]; rfl]
  simp only [hown, if_true, State.arrayRelease, State.modArray, howned]

theorem execSzDummy_ready (hc : s.canRunWord h w custom0 4 = true)
    (hn : 1 ≤ ((s.hart h).reg (szRs1 w)).toNat ∧ ((s.hart h).reg (szRs1 w)).toNat ≤ 8192)
    (hlen : (s.array h.room.val).queue.length < 8) (hown : (s.array h.room.val).ownedBy h.hart.val = true) :
    execSzDummy h w s = .next ((s.arrayEnqueue h (szRd w)
      [4, 0, 0, 0, BitVec.ofNat 64 (((s.hart h).reg (szRs1 w)).toNat * 2 ^ 50), 0, 0, 0]).issued h) := by
  have hcount : ¬ (((s.hart h).reg (szRs1 w)).toNat = 0 ∨ 8192 < ((s.hart h).reg (szRs1 w)).toNat) := by omega
  have hroom : ¬ 8 ≤ (s.array h.room.val).queue.length := by omega
  rw [execSzDummy, szRun_canRunWord hc _ id]
  simp only [if_neg hcount, if_neg hroom, hown, Bool.not_true, Bool.false_eq_true, if_false]

end

/-- Settles O8: the hart and its word are ready, so each instruction runs its meaning on the state as it stands; the read of a
descriptor leaves the hart, the array and the count of its tickets as they were. -/
theorem arrayInstructionsComplete : Obligations.ArrayInstructionsComplete := by
  refine ⟨fun h w s u words c op5 other hmem hc hlen hown hread hop => ?_, fun h w s hc hcheck hlen hown => ?_,
    fun h w s hc hact => execSzModeQuery_ready hc hact, fun h w s hc hact hpend hown => execSzModeClaim_ready hc hact hpend hown,
    fun h w s hc hact hown => execSzModeRelease_ready hc hact hown, fun h w s hc hn hlen hown => ?_⟩
  · obtain ⟨hhart, hqueue⟩ := State.enqueued_of_read (rd := szRd w) hread
    suffices he : exec c s = .next ((s.szDescriptor h w other).issued h) by
      rw [State.szDescriptor_of_read hlen hown hread hop] at he
      exact ⟨_, he, hqueue, hhart⟩
    simp only [List.mem_cons, Prod.mk.injEq, List.not_mem_nil, or_false] at hmem
    obtain ⟨rfl, rfl, rfl⟩ | ⟨rfl, rfl, rfl⟩ := hmem
    · exact execSzPass_ready hc
    · exact execSzExport_ready hc
  · obtain ⟨t, he, hhart, hslots, hstages⟩ := execSzStage_ready hc hcheck hlen hown
    exact ⟨t, he, hhart, hstages, hslots⟩
  · refine ⟨_, execSzDummy_ready hc hn hlen hown, ?_⟩
    rw [State.hart_issued, State.array_issued]
    exact ⟨State.hart_arrayEnqueue .., State.queue_arrayEnqueue ..⟩

end Sys2Proof.Machine

/-! One step of the part (O49), and the entry of sz.dummy (O56). -/
namespace Sys2Proof.Machine

/-- Settles O49: the two cases of the step function. -/
theorem stepRunsFrontCommand : Obligations.StepRunsFrontCommand := by
  refine ⟨fun s c q => rfl, fun s hidle => ?_⟩
  rw [step, hidle]

/-- R85: rooms that are as after an issue have the hart as the one that issued last. -/
theorem State.lastIssued_of_rooms_issued {s t : State} {h : HartId} (hrooms : (s.issued h).rooms = t.rooms) :
    (t.room h.room.val).lastIssued = h.hart.val := by
  have hroom : t.room h.room.val = (s.issued h).room h.room.val := by rw [State.room, State.room, hrooms]
  rw [hroom, State.issued, State.room_modRoom]

/-- Hart 0 of room 0 owns the array and has 5 in x2; since the room left its reset no hart has issued, so 31 stands as the last. -/
def dummyReady : State :=
  { rooms := [(0, { phase := .inService, cond := { epoch := 1 } })]
    harts := [(0, { idle := false, x := [(2, 5)] })]
    arrays := [(0, { owner := some 0 })] }

/-- The word of sz.dummy with N from x2 and its ticket to x2. -/
def dummyWord : W32 := 0x2001010B

theorem dummyReady_canRunWord : dummyReady.canRunWord ⟨0, 0⟩ dummyWord custom0 4 = true := by decide +kernel

theorem dummyReady_count : 0 < ((dummyReady.hart ⟨0, 0⟩).reg (szRs1 dummyWord)).toNat ∧
    ((dummyReady.hart ⟨0, 0⟩).reg (szRs1 dummyWord)).toNat ≤ 8192 := by decide +kernel

/-- Refutes O56: the entry is queued, but an instruction that issues becomes its room's last (R85), so the rooms are not as before:
here hart 0 issues where 31 stood. -/
theorem not_dummyQueuesItsEntry : ¬ Obligations.DummyQueuesItsEntry := by
  intro hclaim
  obtain ⟨hpos, hmax⟩ := dummyReady_count
  have hlen : (dummyReady.array 0).queue.length < 8 := by decide
  have hown : (dummyReady.array 0).ownedBy 0 = true := by decide
  obtain ⟨t, e, hexec, -, -, -, -, -, -, hrooms, -⟩ :=
    hclaim ⟨0, 0⟩ dummyWord dummyReady dummyReady_canRunWord hpos hmax hlen hown
  have hrun := (execSzDummy_ready dummyReady_canRunWord ⟨hpos, hmax⟩ hlen hown).symm.trans hexec
  obtain rfl := Host.Outcome.next.inj hrun
  have hlast : (dummyReady.room 0).lastIssued = 0 := State.lastIssued_of_rooms_issued hrooms
  exact absurd hlast (by decide)

end Sys2Proof.Machine

/-! Global loads and stores of a hart whose home performs them now (O3). -/
namespace Sys2Proof.Machine

/-! ## Places of memory (R91, R92) -/

/-- A place whose home reads and writes bytes: an attic, a pantry, or the memory of a host. -/
def Place.Memory (p : Place) : Prop :=
  (∃ r b o, p = .attic r b o) ∨ (∃ r o, p = .pantry r o) ∨ ∃ d a, p = .host d a

theorem Place.memory_of_read {s : State} {p : Place} {n : Nat} {l : List Byte} (hd : s.memRead p n = .data l) : p.Memory := by
  cases p with
  | attic r b o => exact .inl ⟨r, b, o, rfl⟩
  | pantry r o => exact .inr (.inl ⟨r, o, rfl⟩)
  | host d a => exact .inr (.inr ⟨d, a, rfl⟩)
  | _ => exact Answer.noConfusion hd

theorem Place.memory_of_write {s : State} {p : Place} {l : List Byte} (hc : s.writeCode p l = 0) : p.Memory := by
  cases p with
  | attic r b o => exact .inl ⟨r, b, o, rfl⟩
  | pantry r o => exact .inr (.inl ⟨r, o, rfl⟩)
  | host d a => exact .inr (.inr ⟨d, a, rfl⟩)
  | _ => exact Nat.noConfusion hc

theorem State.writeCode_withRooms {s : State} {R : Tab Room} (hR : s.RoomsAgree R) (p : Place) (l : List Byte) :
    (s.withRooms R).writeCode p l = s.writeCode p l := by
  have hstalled (q : Nat) : ((s.withRooms R).room q).stalled = (s.room q).stalled := by simp [Room.stalled, hR q]
  cases p with
  | attic r b o =>
    simp only [State.writeCode, hstalled, State.banksUsable_withRooms hR]
    rfl
  | pantry r o =>
    simp only [State.writeCode, hstalled]
    rfl
  | _ => rfl

/-! ## Loads (R104, R139) -/

/-- What a hart's load needs to be performed now: an aligned address that translates to a place whose home takes it and gives data. -/
structure State.LoadReady (s : State) (h : HartId) (va : W64) (n cls : Nat) (x : Xlate) (l : List Byte) : Prop where
  aligned : va.toNat % n = 0
  translated : s.translate h.room.val ((s.hart h).authority h.hart.val) .read .load va = .ok x
  type_le : x.type ≤ 2
  taken : s.homeOpen cls (s.placeFor h.room.val x.pa n) n = true
  answered : s.memRead (s.placeFor h.room.val x.pa n) n = .data l

/-- The state in which such a load has read its bytes, before its instruction retires. -/
def State.loadDone (s : State) (h : HartId) (n : Nat) (x : Xlate) : State :=
  ((s.fillTlb h.room.val x).cacheLoad h.room.val x (s.placeFor h.room.val x.pa n)).afterRead (s.placeFor h.room.val x.pa n) n

theorem State.loadDone_effect (s : State) (h : HartId) (n : Nat) (x : Xlate) :
    Effect [.free, .regs, .rooms, .attics, .errRings, .wingLogs, .errInFlight, .ceWindows] s (s.loadDone h n x) :=
  (State.afterRead_effect ..).next rfl ((State.cacheLoad_effect ..).next rfl ((State.fillTlb_effect ..).mono rfl))

/-- R104, R140: the load is performed, its value is delivered and the instruction retires. -/
theorem State.LoadReady.hartLoad_eq {s : State} {h : HartId} {va : W64} {n cls : Nat} {x : Xlate} {l : List Byte}
    (hr : s.LoadReady h va n cls x l) (rd : Nat) (u fp pair : Bool) (len : Nat) :
    s.hartLoad h va ⟨rd, n, u, fp, pair, some cls, len⟩ =
      (s.loadDone h n x).modHart h fun y => (y.deliver rd n u fp pair l).retire len := by
  have htype : ¬ (n = 16 ∧ 3 ≤ x.type) := by
    have := hr.type_le
    omega
  have hanswer : (s.fillTlb h.room.val x).memRead (s.placeFor h.room.val x.pa n) n = .data l := by
    obtain ⟨R, hR, hfill⟩ := s.fillTlb_cases h.room.val x
    rw [hfill, State.memRead_withRooms hR, hr.answered]
  simp only [State.hartLoad, hr.aligned, hr.translated, Option.getD_some, hr.taken, htype, State.loadDone]
  obtain ⟨q, b, o, hp⟩ | ⟨q, o, hp⟩ | ⟨d, a, hp⟩ := Place.memory_of_read hr.answered
  all_goals
    rw [hp] at hanswer ⊢
    simp [hanswer, State.modHart]

/-- R126, R139: a global load whose hart and word are ready delivers its value and retires. -/
theorem szLoad_ready {s : State} {h : HartId} {w : W32} {op5 n : Nat} {x : Xlate} {l : List Byte}
    (hc : s.canRunWord h w custom1 op5 = true) (hrel : s.released h (szRl w) = true)
    (hr : s.LoadReady h ((s.hart h).reg (szRs1 w)) n (szF3 w) x l) (u : Bool) :
    szLoad op5 n u h w s = .next (((s.loadDone h n x).modHart h fun y => (y.deliver (szRd w) n u false (n == 16) l).retire).issued h) := by
  rw [szLoad, szRun_canRunWord hc _ fun hm => by rw [hm]; rfl]
  simp only [whenReleased, hrel, if_true, hr.hartLoad_eq]

/-! ## Stores (R104, R140) -/

/-- What a hart's store needs to be performed now: an aligned address that translates to a place whose home takes and writes it. -/
structure State.StoreReady (s : State) (h : HartId) (va : W64) (l : List Byte) (cls : Nat) (x : Xlate) : Prop where
  aligned : va.toNat % l.length = 0
  translated : s.translate h.room.val ((s.hart h).authority h.hart.val) .write .store va = .ok x
  type_le : x.type ≤ 2
  taken : s.homeOpen cls (s.placeFor h.room.val x.pa l.length) l.length = true
  written : s.writeCode (s.placeFor h.room.val x.pa l.length) l = 0

/-- The state in which such a store has written its bytes, before its instruction retires. -/
def State.storeDone (s : State) (h : HartId) (l : List Byte) (x : Xlate) : State :=
  (((s.fillTlb h.room.val x).memWrite (s.placeFor h.room.val x.pa l.length) l (some (hkey h))).storeAt
    (s.placeFor h.room.val x.pa l.length) l.length).hartWrote h (s.placeFor h.room.val x.pa l.length) l.length

theorem State.hart_storeDone {s : State} {h : HartId} (hw : (s.hart h).wait = .none) (l : List Byte) (x : Xlate) :
    (s.storeDone h l x).hart h = s.hart h := by
  have hfill : (s.fillTlb h.room.val x).hart h = s.hart h := (State.fillTlb_effect ..).hart_eq rfl h
  rw [State.storeDone, (State.hartWrote_effect ..).hart_eq rfl, (State.storeAt_effect ..).hart_eq rfl,
    State.hart_memWrite_writer (by rw [hfill, hw]), hfill]

theorem State.storeDone_mem (s : State) (h : HartId) (l : List Byte) (x : Xlate) :
    (s.storeDone h l x).mem = (s.memWrite (s.placeFor h.room.val x.pa l.length) l (some (hkey h))).mem := by
  obtain ⟨R, hR, hfill⟩ := s.fillTlb_cases h.room.val x
  rw [State.storeDone, (State.hartWrote_effect ..).mem_eq rfl, (State.storeAt_effect ..).mem_eq rfl, hfill,
    State.memWrite_mem_withRooms hR]

section
variable {s : State} {h : HartId} {va : W64} {l : List Byte} {cls : Nat} {x : Xlate} (hr : s.StoreReady h va l cls x)
include hr

/-- R104: at a home that writes it now, the store takes effect and leaves nothing outstanding. -/
theorem State.StoreReady.hartStoreAt_eq : (s.fillTlb h.room.val x).hartStoreAt h va x cls l = s.storeDone h l x := by
  obtain ⟨R, hR, hfill⟩ := s.fillTlb_cases h.room.val x
  have hplace : (s.fillTlb h.room.val x).placeFor h.room.val x.pa l.length = s.placeFor h.room.val x.pa l.length := by
    rw [hfill, State.placeFor_withRooms hR]
  have hcode : (s.fillTlb h.room.val x).writeCode (s.placeFor h.room.val x.pa l.length) l = 0 := by
    rw [hfill, State.writeCode_withRooms hR, hr.written]
  simp only [State.hartStoreAt, hplace, State.storeDone]
  obtain ⟨q, b, o, hp⟩ | ⟨q, o, hp⟩ | ⟨d, a, hp⟩ := Place.memory_of_write hr.written
  all_goals
    rw [hp] at hcode ⊢
    simp [hcode]

/-- R104, R140: the store is performed and the instruction retires. -/
theorem State.StoreReady.hartStore_eq (len : Nat) (aq : Bool) :
    s.hartStore h va ⟨l, some cls, len, aq⟩ = (s.storeDone h l x).modHart h (·.retire len) := by
  have htype : ¬ 3 ≤ x.type := by
    have := hr.type_le
    omega
  have hcode := hr.written
  have htaken := hr.taken
  simp only [State.hartStore, hr.aligned, hr.translated, hr.hartStoreAt_eq, Option.getD_some]
  obtain ⟨q, b, o, hp⟩ | ⟨q, o, hp⟩ | ⟨d, a, hp⟩ := Place.memory_of_write hr.written
  all_goals
    rw [hp] at hcode htaken ⊢
    simp only [State.noTag, State.storeRetires, mmioRights, hcode, htaken, htype]
    cases s.freeTag h.room.val 4096 0 <;> simp

end

/-- R126, R140: a global store whose hart and word are ready writes its bytes and retires. -/
theorem szStore_ready {s : State} {h : HartId} {w : W32} {op5 n v : Nat} {x : Xlate}
    (hc : s.canRunWord h w custom1 op5 = true) (hrel : s.released h (szRl w) = true)
    (hv : v = if n = 16 then ((s.hart h).pair (szRs2 w)).toNat else ((s.hart h).reg (szRs2 w)).toNat)
    (hr : s.StoreReady h ((s.hart h).reg (szRs1 w)) (toBytes n v) (szF3 w) x) :
    szStore op5 n h w s = .next (((s.storeDone h (toBytes n v) x).modHart h (·.retire)).issued h) := by
  subst hv
  rw [szStore, szRun_canRunWord hc _ id]
  simp only [whenReleased, hrel, if_true, hr.hartStore_eq]

theorem State.wait_of_canRunWord {s : State} {h : HartId} {w : W32} {space op5 : Nat} (hc : s.canRunWord h w space op5 = true) :
    (s.hart h).wait = .none := by
  simp only [State.canRunWord, Bool.and_eq_true] at hc
  obtain ⟨⟨hrun, -⟩, -⟩ := hc
  exact s.canRun_wait hrun

/-- Settles O3: each instruction is the load, or the store, of its width, whose home performs it now; the translation kept on the way
and the notes that are taken change neither the hart nor memory. -/
theorem globalAccessesComplete : Obligations.GlobalAccessesComplete := by
  refine ⟨fun h w s x l c op5 n u hmem hc hrel halign hx htype hopen hans => ?_,
    fun h w s x c op5 n v hmem hc hrel halign hx htype hopen hcode => ?_⟩
  · have hdone := s.loadDone_effect h n x
    suffices he : exec c s = szLoad op5 n u h w s by
      refine ⟨_, he.trans (szLoad_ready hc hrel ⟨halign, hx, htype, hopen, hans⟩ u), ?_, hdone.mem_eq rfl⟩
      rw [State.hart_issued, State.hart_modHart, hdone.hart_eq rfl]
    simp only [List.mem_cons, Prod.mk.injEq, List.not_mem_nil, or_false] at hmem
    obtain ⟨rfl, rfl, rfl, rfl⟩ | ⟨rfl, rfl, rfl, rfl⟩ | ⟨rfl, rfl, rfl, rfl⟩ | ⟨rfl, rfl, rfl, rfl⟩ | ⟨rfl, rfl, rfl, rfl⟩ |
      ⟨rfl, rfl, rfl, rfl⟩ | ⟨rfl, rfl, rfl, rfl⟩ | ⟨rfl, rfl, rfl, rfl⟩ := hmem
    all_goals rfl
  · have hlen := toBytes_length n v
    have hr : s.StoreReady h ((s.hart h).reg (szRs1 w)) (toBytes n v) (szF3 w) x :=
      ⟨by rwa [hlen], hx, htype, by rwa [hlen], by rwa [hlen]⟩
    have hmemory := s.storeDone_mem h (toBytes n v) x
    rw [hlen] at hmemory
    suffices hstore : exec c s = szStore op5 n h w s ∧
        v = if n = 16 then ((s.hart h).pair (szRs2 w)).toNat else ((s.hart h).reg (szRs2 w)).toNat by
      obtain ⟨he, hv⟩ := hstore
      refine ⟨_, he.trans (szStore_ready hc hrel hv hr), ?_, hmemory⟩
      rw [State.hart_issued, State.hart_modHart, State.hart_storeDone (State.wait_of_canRunWord hc)]
    simp only [List.mem_cons, Prod.mk.injEq, List.not_mem_nil, or_false] at hmem
    obtain ⟨rfl, rfl, rfl, rfl⟩ | ⟨rfl, rfl, rfl, rfl⟩ | ⟨rfl, rfl, rfl, rfl⟩ | ⟨rfl, rfl, rfl, rfl⟩ | ⟨rfl, rfl, rfl, rfl⟩ := hmem
    all_goals exact ⟨rfl, rfl⟩

end Sys2Proof.Machine

/-! The completion of a vector command whose results are unspecified (O11). -/
namespace Sys2Proof.Machine

theorem Effect.avu_eq {F : List Part} {s t : State} (he : Effect F s t) (hF : F.contains .avus = false) (r : Nat) :
    t.avu r = s.avu r := by
  obtain ⟨hsame, -⟩ := he
  simp only [State.avu, show t.avus = s.avus from hsame .avus hF]

/-- R193, R203: the command that completes leaves the front of the queue. -/
theorem State.queue_avuFinish (s : State) (r : Nat) (c : AvuCmd) : ((s.avuFinish r c).avu r).queue = (s.avu r).queue.drop 1 := by
  have hrecord : (s.avuRecord r c c.endStatus (s.avuCycles c)).avu r = s.avu r := (State.avuRecord_effect ..).avu_eq rfl r
  rw [State.avuFinish, (State.bumpCount_effect ..).avu_eq rfl, State.avu_bump, (State.dropSeqs_effect ..).avu_eq rfl,
    (State.dropGuard_effect ..).avu_eq rfl, State.avu_modAvu, State.avu_orReg, hrecord]

/-- R193: the head of the queue, once finished, completes: what is left behind it is what the end of its guard leaves there. -/
theorem execAvuCommandComplete_queue {r : RoomIx} {s : State} {c : AvuCmd} {q : List AvuCmd} (hq : (s.avu r.val).queue = c :: q)
    (hfin : c.finished = true) :
    ∃ t, execAvuCommandComplete r s = .next t ∧ (t.avu r.val).queue = ((s.avuSettle r.val c).1.avu r.val).queue.drop 1 := by
  refine ⟨(s.avuSettle r.val c).1.avuFinish r.val (s.avuSettle r.val c).2, ?_, State.queue_avuFinish ..⟩
  simp only [execAvuCommandComplete, hq]
  exact whenReady_of hfin ..

/-- A MATVEC of one row and one column in bank 0 that has finished there. -/
def landedMatvec : AvuCmd :=
  { words := [0x0010000000000001, 0, 0, 0, 0, 0x0001000000000000, 0, 0], auth := {}, dispatched := true, ran := true, done := [0] }

/-- Two such commands on one accumulator entry, of which the first has used unspecified results. -/
def spoiledHead : State := { avus := [(0, { queue := [{ landedMatvec with spoiled := true }, landedMatvec] })] }

/-- Refutes O11 in the clause of the completion: the results of a head that has used unspecified ones are unspecified too, and so are
those of a command behind it that has started on the same entries (R191); that command stays in the queue, but marked. -/
theorem not_avuCommandsComplete : ¬ Obligations.AvuCommandsComplete := by
  rintro ⟨-, -, -, -, -, hcomplete, -⟩
  have hqueue : (spoiledHead.avu 0).queue = { landedMatvec with spoiled := true } :: [landedMatvec] := rfl
  have hfin : AvuCmd.finished { landedMatvec with spoiled := true } = true := by decide
  obtain ⟨t, hexec, hclaimed, -⟩ := hcomplete 0 spoiledHead _ _ hqueue hfin
  obtain ⟨u, hrun, hleft⟩ := execAvuCommandComplete_queue (r := 0) hqueue hfin
  obtain rfl := Host.Outcome.next.inj (hexec.symm.trans hrun)
  have hmarked : ((spoiledHead.avuSettle 0 { landedMatvec with spoiled := true }).1.avu 0).queue.drop 1 =
      [{ landedMatvec with spoiled := true }] := by decide +kernel
  exact absurd (hclaimed.symm.trans (hleft.trans hmarked)) (by decide)

end Sys2Proof.Machine

/-! Collectives: what finds them by their key, and what becomes of their chunks and entries (O17). -/
namespace Sys2Proof.Machine

/-! ## What an effect leaves of collectives and entries -/

theorem Effect.inst_eq {F : List Part} {s t : State} (he : Effect F s t) (hF : F.contains .insts = false) (id m0 : W32) :
    t.inst id m0 = s.inst id m0 := by
  obtain ⟨hsame, -⟩ := he
  simp only [State.inst, show t.insts = s.insts from hsame .insts hF]

theorem Effect.coll_eq {F : List Part} {s t : State} (he : Effect F s t) (hF : F.contains .colls = false) (r : Nat) :
    t.coll r = s.coll r := by
  obtain ⟨hsame, -⟩ := he
  simp only [State.coll, show t.colls = s.colls from hsame .colls hF]

theorem Effect.keptEnds_eq {F : List Part} {s t : State} (he : Effect F s t) (hF : F.contains .keptEnds = false) :
    t.keptEnds = s.keptEnds := by
  obtain ⟨hsame, -⟩ := he
  exact hsame .keptEnds hF

/-! ## Collectives by their key (R358) -/

/-- The collective that a key finds has that key. -/
theorem State.inst_key {s : State} {id m0 : W32} {i : CollInst} (hi : s.inst id m0 = some i) : i.id = id ∧ i.m0 = m0 := by
  have hkey := List.find?_some hi
  simpa using hkey

/-- A collective put in place of the one with its key is what that key finds. -/
theorem State.inst_setInst {s : State} {i j : CollInst} (hi : s.inst j.id j.m0 = some i) :
    (s.setInst j).inst j.id j.m0 = some j := by
  simp only [State.inst, State.setInst] at hi ⊢
  generalize s.insts = l at hi
  induction l with
  | nil => simp at hi
  | cons a l ih =>
    by_cases ha : a.id = j.id ∧ a.m0 = j.m0
    · simp [ha]
    · have hmiss : (a.id == j.id && a.m0 == j.m0) = false := by simpa using ha
      simp only [List.map_cons, if_neg ha, List.find?_cons, hmiss] at hi ⊢
      exact ih hi

theorem State.inst_dropInst (s : State) (id m0 : W32) : (s.dropInst id m0).inst id m0 = none := by
  simp only [State.inst, State.dropInst, List.find?_eq_none, List.mem_filter]
  rintro i ⟨-, hi⟩ hkey
  simp [hkey] at hi

/-! ## A chunk once held stays held (R291, R292, R360) -/

/-- The collective of a key is here and holds a chunk. -/
def State.HoldsChunk (s : State) (id m0 : W32) (n : CollChunk) : Prop := ∃ i, s.inst id m0 = some i ∧ n ∈ i.nodes

theorem State.HoldsChunk.of_effect {F : List Part} {s t : State} {id m0 : W32} {n : CollChunk} (hn : s.HoldsChunk id m0 n)
    (he : Effect F s t) (hF : F.contains .insts = false) : t.HoldsChunk id m0 n := by
  obtain ⟨i, hi, hmem⟩ := hn
  exact ⟨i, (he.inst_eq hF id m0).trans hi, hmem⟩

/-- A collective with further chunks of its nodes. -/
def CollInst.withChunks (i : CollInst) (l : List CollChunk) : CollInst := { i with nodes := i.nodes ++ l }

/-- R291, R292: the chunk of a node that a landing makes of the chunks of its children. -/
def CollInst.landedChunk (i : CollInst) (k f n : Nat) (ue : Bool) (a b : List PByte × Nat) : CollChunk :=
  ⟨k, f, n, i.sig.landed ue a.1 b.1, a.2 ||| b.2⟩

/-- A collective put back with further chunks holds those that it had and the further ones. -/
theorem State.holdsChunk_setInst {s : State} {id m0 : W32} {i : CollInst} (hi : s.inst id m0 = some i) (l : List CollChunk)
    {n : CollChunk} (hn : n ∈ i.nodes ∨ n ∈ l) : (s.setInst (i.withChunks l)).HoldsChunk id m0 n := by
  obtain ⟨rfl, rfl⟩ := State.inst_key hi
  exact ⟨_, State.inst_setInst (j := i.withChunks l) hi, List.mem_append.mpr hn⟩

/-- R292, R360: chunks that climb in the tree displace none. -/
theorem State.HoldsChunk.climb {s : State} {id m0 : W32} {n : CollChunk} (hn : s.HoldsChunk id m0 n) (fuel k f c : Nat) :
    (s.climb id m0 fuel k f c).HoldsChunk id m0 n := by
  induction fuel generalizing s k f with
  | zero => exact hn
  | succ fuel ih =>
    obtain ⟨i, hi, hmem⟩ := hn
    have hn : s.HoldsChunk id m0 n := ⟨i, hi, hmem⟩
    rw [State.climb]
    simp only [hi]
    split
    next => exact hn
    next d hd =>
      split
      next =>
        have hsent : Effect [.sent, .colls] s (((s.otherDevs i).foldl (fun s v => s.sendChunk v i ⟨k, f, c, d.1, d.2⟩) s).collHeard i
            fun _ => true) :=
          (State.collHeard_effect ..).next rfl (Effect.foldl (fun u v => (State.sendChunk_effect ..).mono rfl) (.refl _ s))
        exact hn.of_effect hsent rfl
      split
      next => exact hn.of_effect (State.sendChunk_effect ..) rfl
      split
      next => exact ih hn _ _
      split
      next => exact hn
      split
      next => exact hn
      split
      next => exact ih (State.holdsChunk_setInst hi _ (.inl hmem)) _ _
      next => exact hn

/-- R358, R360: a chunk that matches its collective takes its place there. -/
theorem State.holdsChunk_takeChunk {s : State} {id m0 : W32} {i : CollInst} (hi : s.inst id m0 = some i) {op : Nat} {n : CollChunk}
    (hop : op = i.sig.op) (hdim : i.dimDiffers n.data = false) : (s.takeChunk i op n).HoldsChunk id m0 n := by
  obtain ⟨rfl, rfl⟩ := State.inst_key hi
  have hset : (s.setInst (i.withChunks [n])).HoldsChunk i.id i.m0 n :=
    State.holdsChunk_setInst hi [n] (.inr (List.mem_singleton.mpr rfl))
  have hheard (p : Prop) [Decidable p] : (if p then (s.setInst (i.withChunks [n])).collHeard i fun _ => true
      else s.setInst (i.withChunks [n])).HoldsChunk i.id i.m0 n := by
    split
    · exact hset.of_effect (State.collHeard_effect ..) rfl
    · exact hset
  have hmatch : ¬ (op ≠ i.sig.op ∨ i.dimDiffers n.data = true) := by simp [hop, hdim]
  simp only [State.takeChunk, if_neg hmatch]
  split
  · exact (hheard _).climb ..
  · exact hheard _

/-- R358, R360: a chunk that is the next of its child, of a device whose subtree it is, is taken and answered. -/
theorem execMsgColl_ready {q : ReqHeader} {c : CollPacket} {s : State} {i : CollInst} {n : Nat} (hend : c.ended = none)
    (hi : s.inst c.id c.m0 = some i)
    (hnode : c.level.val ≤ i.root ∧ c.first.val % 2 ^ c.level.val = 0 ∧ c.first.val < i.count)
    (hdev : i.devOf c.first.val = q.srcDev.toNat ∧ q.srcDev ≠ s.devId)
    (htaken : s.admitsPacket q = true ∧ s.dieServes q.dstDie.val 0x1D = true)
    (hnext : i.arriving c.level.val c.first.val c.chunk.val = some n) :
    execMsgColl q c s = .next ((s.takeChunk i c.op.val
      ⟨c.level.val, c.first.val, n, payloadBytes c.payload c.pmap, c.flags.val⟩).respond 0x1D q ⟨0, [], []⟩ false) := by
  obtain ⟨hadmit, hserve⟩ := htaken
  obtain ⟨hof, hother⟩ := hdev
  simp only [execMsgColl, hother, hadmit, servedRun, hserve, hend, hi, hnext, if_true]
  exact whenReady_of (by simp [hnode, hof]) ..

/-- R291–R294: a landing with both children of a node, and the credit for its chunk, combines them. -/
theorem execLandingCombine_ready {x : WingIx} {id m0 : W32} {level : Fin 32} {node : LandingNode} {s : State} {i : CollInst} {n : Nat}
    {a b : List PByte × Nat} (hi : s.inst id m0 = some i)
    (hshape : i.sig.inTree = true ∧ i.hasRight level.val node.first.val = true ∧ node.first.val % 2 ^ level.val = 0)
    (hhere : i.nodeLocal s.devId.toNat level.val node.first.val = true) (hwing : tidWing (i.members.getD node.first.val 0) = x.val)
    (hnext : i.nextChunk level.val node.first.val = some n) (ha : i.nodeData (level.val - 1) node.first.val n = some a)
    (hb : i.nodeData (level.val - 1) (node.first.val + 2 ^ (level.val - 1)) n = some b)
    (hcredit : s.chunkCredit i level.val node.first.val n = true ∧ i.chunkSent level.val node.first.val n = true) :
    execLandingCombine x id m0 level node s =
      .next (((s.setInst (i.withChunks [i.landedChunk level.val node.first.val n node.ue a b])).creditRooms
        (i.withChunks [i.landedChunk level.val node.first.val n node.ue a b]) level.val node.first.val).climb
          id m0 24 level.val node.first.val n) := by
  simp only [execLandingCombine, hi, hnext, ha, hb]
  exact whenReady_of (by simp only [hshape, hhere, hwing, hcredit, beq_self_eq_true, Bool.and_self]) ..

/-! ## A member ends: its record and its entry (R361) -/

/-- R361: a record and its SET leave every entry but the member's own, which is free after them. -/
theorem State.colls_collRecord (s : State) (r : Nat) (e : CollEntry) (status arith failed : Nat) :
    (s.collRecord r e status arith failed).colls = tset r ((s.coll r).filter fun x => x.slot != e.slot) s.colls := by
  have hfree {t : State} (ht : Effect [.free, .mem, .poison, .regs, .harts, .rooms, .attics, .dws, .errRings, .wingLogs, .errInFlight,
      .ceWindows, .guards] s t) : (t.setColl r ((t.coll r).filter fun x => x.slot != e.slot)).colls =
        tset r ((s.coll r).filter fun x => x.slot != e.slot) s.colls := by
    obtain ⟨hsame, -⟩ := ht
    simp only [State.setColl, State.coll, show t.colls = s.colls from hsame .colls rfl]
  simp only [State.collRecord, apply_ite State.colls, State.modHartAt_colls, ite_self]
  split
  · exact hfree ((State.signalSet_effect ..).next rfl ((State.writePantry_effect ..).mono rfl))
  · exact hfree ((State.writePantry_effect ..).mono rfl)

theorem State.coll_collRecord (s : State) (r : Nat) (e : CollEntry) (status arith failed : Nat) :
    (s.collRecord r e status arith failed).coll r = (s.coll r).filter fun x => x.slot != e.slot := by
  rw [State.coll, State.colls_collRecord, tgetD_tset_same]

theorem State.coll_collRecord_ne (s : State) {r q : Nat} (h : q ≠ r) (e : CollEntry) (status arith failed : Nat) :
    (s.collRecord r e status arith failed).coll q = s.coll q := by
  rw [State.coll, State.colls_collRecord, tgetD_tset_ne _ _ _ _ _ h]
  rfl

/-- R361: the status in the record of a member that completes: a count that differs before a poisoned element (log 45). -/
def Delivery.status (d : Delivery) : Nat :=
  if d.diff.isSome then 2 else if d.ranges.any (fun p => p.2.any (·.2)) then 1 else 0

/-- R361: a member that completes has its record written and its entry freed; the rest of its collective and its guard are all
that changes besides. -/
theorem State.collComplete_delivered {s u : State} {r : Nat} {i : CollInst} {e : CollEntry} {d : Delivery}
    (hd : s.deliver r e (s.collSettle i e d).ranges = some u) :
    Effect [.insts, .guards] (u.bump.collRecord r e (s.collSettle i e d).status (s.collSettle i e d).arith
      ((s.collSettle i e d).diff.getD 0)) (s.collComplete r i e d) := by
  have hguard (t : State) : Effect [.insts, .guards] t (t.releaseGuard e.guard) := (State.releaseGuard_effect ..).mono rfl
  simp only [State.collComplete, hd]
  exact .ite (fun _ => (State.dropInst_effect ..).next rfl (hguard _)) fun _ => (State.setInst_effect ..).next rfl (hguard _)

theorem State.coll_deliver {s u : State} {r : Nat} {e : CollEntry} {l : List (Nat × List PByte)} (hd : s.deliver r e l = some u)
    (q : Nat) : u.coll q = s.coll q := (State.deliver_effect _ _ _ _ u hd).coll_eq rfl q

/-- R359, R361: a member whose delivery is here, and whose homes answer, completes the operation that it takes part in. -/
theorem collDone_ready {op : Nat} {r : RoomIx} {slot : Fin 16} {s : State} {e : CollEntry} {i : CollInst} {d : Delivery}
    (he : (s.coll r.val).find? (fun x => x.slot == slot.val) = some e) (hi : s.inst (collId e.words) e.m0 = some i)
    (hd : s.delivery i e = some d) (hopen : s.deliverOpen r.val e d.ranges = true) (hop : collOp e.words = op) :
    collDone op r slot s = .next (s.collComplete r.val i e d) := by
  simp only [collDone, he, hi, hd]
  exact whenReady_of (by simp [hop, hopen]) ..

/-! ## A collective ends (R358, R361) -/

theorem mem_of_tget {α : Type} {k : Nat} {v : α} {t : Tab α} (h : tget k t = some v) : (k, v) ∈ t := by
  induction t with
  | nil => exact absurd h (by simp [tget])
  | cons p t ih =>
    obtain ⟨j, w⟩ := p
    rw [tget] at h
    split at h
    next hj =>
      obtain rfl := Option.some.inj h
      exact hj ▸ List.mem_cons_self
    next => exact List.mem_cons_of_mem _ (ih h)

/-- A room's entry is among those of the collective that it names. -/
theorem State.mem_instEntries {s : State} {r : Nat} {e : CollEntry} (he : e ∈ s.coll r) :
    (r, e) ∈ s.instEntries (collId e.words) e.m0 := by
  have hroom : (r, s.coll r) ∈ s.colls := by
    simp only [State.coll, tgetD] at he ⊢
    cases hget : tget r s.colls with
    | none =>
      rw [hget] at he
      exact absurd he List.not_mem_nil
    | some l => exact mem_of_tget hget
  exact List.mem_flatMap.mpr ⟨_, hroom, List.mem_map.mpr ⟨e, List.mem_filter.mpr ⟨he, by simp⟩, rfl⟩⟩

/-- No entry of a room is in a slot. -/
def State.SlotFree (s : State) (r slot : Nat) : Prop := (s.coll r).any (fun x => x.slot == slot) = false

theorem State.slotFree_collRecord (s : State) (r : Nat) (e : CollEntry) (status arith failed : Nat) :
    (s.collRecord r e status arith failed).SlotFree r e.slot := by
  simp [State.SlotFree, State.coll_collRecord]

theorem State.SlotFree.collRecord {s : State} {r slot : Nat} (hfree : s.SlotFree r slot) (q : Nat) (e : CollEntry)
    (status arith failed : Nat) : (s.collRecord q e status arith failed).SlotFree r slot := by
  by_cases hq : r = q
  · subst hq
    simp only [State.SlotFree, List.any_eq_false] at hfree ⊢
    intro x hx
    rw [State.coll_collRecord] at hx
    obtain ⟨hx, -⟩ := List.mem_filter.mp hx
    exact hfree x hx
  · rw [State.SlotFree, State.coll_collRecord_ne s hq]
    exact hfree

/-- The records of entries of a collective, one after the other. -/
def State.collRecords (s : State) (status failed : Nat) (l : List (Nat × CollEntry)) : State :=
  l.foldl (fun t p => t.collRecord p.1 p.2 status 0 failed) s

theorem State.collRecords_effect (s : State) (status failed : Nat) (l : List (Nat × CollEntry)) :
    Effect [.free, .mem, .poison, .regs, .harts, .rooms, .colls, .attics, .dws, .errRings, .wingLogs, .errInFlight, .ceWindows, .guards]
      s (s.collRecords status failed l) := Effect.foldl (fun _ _ => State.collRecord_effect ..) (.refl _ s)

theorem State.SlotFree.collRecords {s : State} {r slot : Nat} (hfree : s.SlotFree r slot) (status failed : Nat)
    (l : List (Nat × CollEntry)) : (s.collRecords status failed l).SlotFree r slot := by
  induction l generalizing s with
  | nil => exact hfree
  | cons p l ih => exact ih (hfree.collRecord ..)

/-- R361: every member whose end is recorded has its entry freed. -/
theorem State.slotFree_collRecords (s : State) (status failed : Nat) {r : Nat} {e : CollEntry} {l : List (Nat × CollEntry)}
    (he : (r, e) ∈ l) : (s.collRecords status failed l).SlotFree r e.slot := by
  induction l generalizing s with
  | nil => exact absurd he List.not_mem_nil
  | cons p l ih =>
    obtain rfl | he := List.mem_cons.mp he
    · exact (s.slotFree_collRecord ..).collRecords ..
    · exact ih _ he

/-- R361: an end by a timer is recorded at every member here; nothing that they would have received is lost by it. -/
theorem State.endHere_timeout (s : State) (i : CollInst) (failed : Nat) :
    s.endHere i 0x43 failed =
      { (s.collRecords 0x43 failed (s.instEntries i.id i.m0)).dropInst i.id i.m0 with
        keptEnds := s.keptEnds ++ [⟨i.id, i.m0, 0x43, failed, s.now⟩] } := by
  have hends := (s.collRecords_effect 0x43 failed (s.instEntries i.id i.m0)).keptEnds_eq rfl
  rw [← hends]
  rfl

theorem State.endInst_sends (s : State) (i : CollInst) (status failed : Nat) :
    Effect [.sent] (s.endHere i status failed) (s.endInst i status failed) :=
  Effect.foldl (fun _ _ => State.send_effect ..) (.refl _ _)

/-- R295, R361: the timer of a member ends its collective at its deadline. -/
theorem execCollectiveTimeout_ready {r : RoomIx} {slot : Fin 16} {s : State} {e : CollEntry} {i : CollInst}
    (he : (s.coll r.val).find? (fun x => x.slot == slot.val) = some e) (hi : s.inst (collId e.words) e.m0 = some i) :
    execCollectiveTimeout r slot s = .next ((s.reach e.due).endInst i 0x43 (i.firstMissing (collIndex e.words))) := by
  have hreached : (s.reach e.due).inst (collId e.words) e.m0 = some i := hi
  simp only [execCollectiveTimeout, he, hreached]

/-- Settles O17: an arriving and a combined chunk stay where they are put while what they complete climbs; a completion and an end
by a timer come to the records of their members, which free the entries. The order of the statuses and the first missing member
are the model's choice (log 45). -/
theorem collectivesComplete : Obligations.CollectivesComplete := by
  refine ⟨fun q c s i n hend hi hnode hdev htaken hnext hmatch => ?_,
    fun x id m0 level first ue s i n a b hi hshape hhere hwing hnext ha hb hcredit => ?_,
    fun r slot s c op e i d u hmem he hi hd hopen hop hdeliver => ?_, fun r slot s e i he hi => ?_, fun id m0 s x hx => ?_⟩
  · obtain ⟨hop, hdim⟩ := hmatch
    have htook := State.holdsChunk_takeChunk hi hop
      (n := ⟨c.level.val, c.first.val, n, payloadBytes c.payload c.pmap, c.flags.val⟩) hdim
    obtain ⟨j, hj, hmem⟩ := htook.of_effect (State.respond_effect _ 0x1D q ⟨0, [], []⟩ false) rfl
    exact ⟨_, j, _, execMsgColl_ready hend hi hnode hdev htaken hnext, hj, hmem, rfl⟩
  · have hset := State.holdsChunk_setInst hi [i.landedChunk level.val first.val n ue a b] (.inr (List.mem_singleton.mpr rfl))
    have hcredited := hset.of_effect (State.creditRooms_effect _
      (i.withChunks [i.landedChunk level.val first.val n ue a b]) level.val first.val) rfl
    obtain ⟨j, hj, hmem⟩ := hcredited.climb 24 level.val first.val n
    refine ⟨_, j, execLandingCombine_ready (node := ⟨first, ue⟩) hi hshape hhere hwing hnext ha hb hcredit, hj, hmem, ?_⟩
    rw [(State.climb_effect ..).mem_eq rfl, (State.creditRooms_effect ..).mem_eq rfl, (State.setInst_effect ..).mem_eq rfl]
  · have hslot : e.slot = slot.val := by simpa using List.find?_some he
    have hdone := State.collComplete_delivered hdeliver
    suffices hrun : exec c s = collDone op r slot s by
      refine ⟨_, hrun.trans (collDone_ready he hi hd hopen hop), ?_, hdone.mem_eq rfl⟩
      rw [hdone.coll_eq rfl, State.coll_collRecord, (State.bump_effect u).coll_eq rfl, State.coll_deliver hdeliver, hslot]
    simp only [List.mem_cons, Prod.mk.injEq, List.not_mem_nil, or_false] at hmem
    obtain ⟨rfl, rfl⟩ | ⟨rfl, rfl⟩ | ⟨rfl, rfl⟩ | ⟨rfl, rfl⟩ | ⟨rfl, rfl⟩ | ⟨rfl, rfl⟩ | ⟨rfl, rfl⟩ | ⟨rfl, rfl⟩ := hmem
    all_goals rfl
  · have hslot : e.slot = slot.val := by simpa using List.find?_some he
    obtain ⟨hid, hm0⟩ := State.inst_key hi
    have hentry : (r.val, e) ∈ (s.reach e.due).instEntries i.id i.m0 := by
      rw [hid, hm0]
      exact State.mem_instEntries (s := s.reach e.due) (List.mem_of_find?_eq_some he)
    have hsent := (s.reach e.due).endInst_sends i 0x43 (i.firstMissing (collIndex e.words))
    have hended := (s.reach e.due).endHere_timeout i (i.firstMissing (collIndex e.words))
    refine ⟨_, execCollectiveTimeout_ready he hi, ?_, ?_, ?_⟩
    · rw [hsent.coll_eq rfl, hended, ← hslot]
      exact State.slotFree_collRecords _ _ _ hentry
    · rw [hsent.inst_eq rfl, hended, ← hid, ← hm0]
      exact State.inst_dropInst ..
    · rw [hsent.keptEnds_eq rfl, hended]
      rfl
  · change execCollKeptEndExpiry id m0 s = _
    rw [execCollKeptEndExpiry, hx]
    rfl

end Sys2Proof.Machine

/-! The interrupts of a room's units (O58). -/
namespace Sys2Proof.Machine

/-- A flag put under a number is its bit 0, and the number's own bits stand one higher. -/
theorem bitOf_b2n_add_zero (b : Bool) (x : Nat) : bitOf (b2n b + 2 * x) 0 = b := by
  cases b <;> simp [bitOf, b2n]

theorem bitOf_b2n_add_succ (b : Bool) (x n : Nat) : bitOf (b2n b + 2 * x) (n + 1) = bitOf x n := by
  have hflag : b2n b < 2 := by cases b <;> decide
  have hhalf : (b2n b + 2 * x) / 2 = x := by omega
  rw [bitOf_eq_testBit, bitOf_eq_testBit, Nat.testBit_succ, hhalf]

theorem exists_bitOf_iff_ne_zero (x : Nat) : (∃ n, bitOf x n = true) ↔ x ≠ 0 := by
  simp only [bitOf_eq_testBit]
  constructor
  · rintro ⟨n, hn⟩ rfl
    simp at hn
  · exact Nat.exists_testBit_of_ne_zero

/-- R280: the condition of the DUMBWAITER interrupt of a room. -/
def State.dwAsserted (s : State) (r : Nat) : Bool :=
  (List.range 8).any (fun c => (s.dw (r * 8 + c)).state == .halted) ||
    (bitOf (s.regN .dwCqCfg r) 8 && s.regN .dwCqProd r != s.regN .dwCqCons r)

/-- R121: the array's flag is bit 0, the dumbwaiter's bit 1 and the AVU's bit 2; the other sources stand above them. -/
theorem State.irqPending_eq (s : State) (r : Nat) :
    ∃ rest, s.irqPending r =
      b2n (s.regN .arrayErr r != 0) + 2 * (b2n (s.dwAsserted r) + 2 * (b2n (s.regN .avuErr r != 0) + 2 * rest)) := by
  refine ⟨b2n (s.reg .atticErr r &&& s.reg .atticErrEn r != 0) + 2 * b2n (s.regN .errProd r != s.regN .errCons r) +
    4 * b2n (tgetD s.mailboxes r {}).pending + 8 * b2n ((List.range 32).any fun h => (s.hartAt (r * 32 + h)).storeErr), ?_⟩
  simp only [State.irqPending, State.dwAsserted]
  omega

theorem State.bitOf_irqPending_dumbwaiter (s : State) (r : Nat) : bitOf (s.irqPending r) 1 = s.dwAsserted r := by
  obtain ⟨rest, hsources⟩ := s.irqPending_eq r
  rw [hsources, bitOf_b2n_add_succ, bitOf_b2n_add_zero]

theorem State.bitOf_irqPending_avu (s : State) (r : Nat) : bitOf (s.irqPending r) 2 = (s.regN .avuErr r != 0) := by
  obtain ⟨rest, hsources⟩ := s.irqPending_eq r
  rw [hsources, bitOf_b2n_add_succ, bitOf_b2n_add_succ, bitOf_b2n_add_zero]

theorem State.dwAsserted_iff (s : State) (r : Nat) :
    s.dwAsserted r = true ↔ (∃ c, c < 8 ∧ (s.dw (r * 8 + c)).state = .halted) ∨
      (bitOf (s.regN .dwCqCfg r) 8 = true ∧ s.regN .dwCqProd r ≠ s.regN .dwCqCons r) := by
  simp only [State.dwAsserted, Bool.or_eq_true, List.any_eq_true, List.mem_range, beq_iff_eq, Bool.and_eq_true, bne_iff_ne]

/-- Settles O58: sources 1 and 2 stand in bits 1 and 2 of ROOM_IRQ_PENDING, each asserted while its own condition holds. -/
theorem unitInterruptsFollowTheirFlags : Obligations.UnitInterruptsFollowTheirFlags := by
  refine ⟨fun s r => ?avu, fun s r => ?dumbwaiter⟩
  case avu => rw [s.bitOf_irqPending_avu, bne_iff_ne, exists_bitOf_iff_ne_zero]
  case dumbwaiter => rw [s.bitOf_irqPending_dumbwaiter, s.dwAsserted_iff]

end Sys2Proof.Machine

/-! Attention steps: dispatch, the partial of a row over a block, and the output row (O12). -/
namespace Sys2Proof.Machine

/-! ## The queue of the vector units -/

@[simp] theorem State.queue_setAvuCmd (s : State) (r i : Nat) (c : AvuCmd) :
    ((s.setAvuCmd r i c).avu r).queue = lset (s.avu r).queue i c := by
  rw [State.setAvuCmd, State.avu_modAvu, AvuB.setCmd]

/-- R205: an error found in a bank marks words and accumulator entries; no command in the queue changes. -/
theorem State.queue_avuFault (s : State) (r b : Nat) (reads : List (Nat × Nat)) (entries : List Nat) (f : AvuFault) :
    ((s.avuFault r b reads entries f).avu r).queue = (s.avu r).queue := by
  cases f with
  | bankCe w =>
    simp only [State.avuFault]
    split
    · rw [(State.atticCe_effect ..).avu_eq rfl]
    · rfl
  | bankUe w =>
    simp only [State.avuFault]
    split
    · rw [(State.storeUe_effect ..).avu_eq rfl]
    · rfl
  | entryUe n =>
    simp only [State.avuFault]
    split
    · rw [State.avu_modAvu]
    · rfl
  | bufferUe n => rfl

theorem State.queue_avuFaults (s : State) (r b : Nat) (reads : List (Nat × Nat)) (entries : List Nat) (l : List AvuFault) :
    ((s.avuFaults r b reads entries l).avu r).queue = (s.avu r).queue := by
  induction l generalizing s with
  | nil => rfl
  | cons f l ih => exact (ih _).trans (s.queue_avuFault ..)

/-! ## Dispatch (R223) -/

/-- R223: a batch without a finding leaves the command dispatched with the snapshot and the work of its entries. -/
theorem State.queue_attnDispatch {s : State} {r : Nat} {c : AvuCmd}
    (hclean : firstFinding (s.batchFindings r c ((s.batchList r c).filterMap id) ++ (s.attnScan r c).flatMap (·.found)) = none)
    (i : Nat) : ((s.attnDispatch r i c).avu r).queue =
      lset (s.avu r).queue i { c.withScans (s.attnScan r c) with dispatched := true, ran := true } := by
  simp only [State.attnDispatch, hclean]
  rw [(State.moveGuard_effect ..).avu_eq rfl, State.queue_setAvuCmd, (State.fillAll_effect ..).avu_eq rfl,
    (State.noteSeqs_effect ..).avu_eq rfl]

theorem execAttnDispatch_ready {r : RoomIx} {s : State} {i : Nat} {c : AvuCmd} (hnext : (s.avu r.val).nextCmd = some (i, c))
    (hop : c.op = 2) (hformat : c.attnBadFormat = false) (hshape : c.attnBadShape = false) (hrun : s.avusRun r.val = true)
    (hstair : s.stairRuns r.val = true) (hopen : s.seqsOpen r.val c = true) (hheld : s.attnHeld r.val c = false)
    (hfree : c.banks.all (s.avu r.val).bufferFree = true) :
    execAttnDispatch r s = .next (s.attnDispatch r.val i c) := by
  simp only [execAttnDispatch, hnext, hop, hrun, hformat, hshape]
  exact whenReady_of (by simp [hstair, hopen, hheld, hfree]) ..

/-! ## The partial of a row over a block (R226) -/

section
variable {s : State} {c : AvuCmd} {b : Nat} {v : AttnItem} {a : AttnEntry} {row : AttnRow}
  (hwork : c.work.find? (fun w => w.bank == b) = some v) (hentry : c.attn[v.entry]? = some a) (hrow : a.rows[v.row]? = some row)
include hwork hentry hrow

theorem State.queue_attnBlock (r i : Nat) (faults : List AvuFault) :
    ((s.attnBlock r i c b faults).avu r).queue = lset (s.avu r).queue i { c with
      work := c.work.erase v
      partials := c.partials ++ [(v, s.blockPartial r c v a { row with query := spoilBuffer row.query faults })] } := by
  simp only [State.attnBlock, hwork, hentry, hrow]
  rw [State.avu_bump, State.queue_setAvuCmd, State.avu_bumpReg]

end

theorem execAvuAttnBlock_ready {r : RoomIx} {x : AvuRun} {s : State} {i : Nat} {c : AvuCmd}
    (hcmd : (s.avu r.val).running x.bank.val = some (i, c)) (hop : c.op = 2) (hrun : s.avusRun r.val = true) :
    execAvuAttnBlock r x s = .next ((s.avuFaults r.val x.bank.val (c.attnReads x.bank.val) [] x.faults).attnBlock r.val i c
      x.bank.val x.faults) := by
  simp only [execAvuAttnBlock, hcmd]
  exact whenReady_of (by simp [hop, hrun]) ..

/-! ## The output row (R229, R231) -/

/-- The command of an attention step once the merge unit has written row j of entry e. -/
def AvuCmd.merged (c : AvuCmd) (e j : Nat) (a : AttnEntry) (row : AttnRow) : AvuCmd :=
  let x := c.rowRecord e j row
  { c with
    rowsDone := (e, j) :: c.rowsDone
    arith := c.arith ||| (c.outputRow a.final x).2
    poisoned := c.poisoned || bitOf x.flags 1 }

theorem State.queue_mergeRow (s : State) (r i : Nat) (c : AvuCmd) (e j : Nat) (a : AttnEntry) (row : AttnRow) :
    ((s.mergeRow r i c e j a row).avu r).queue = lset (s.avu r).queue i (c.merged e j a row) := by
  rw [State.mergeRow, State.avu_bump, State.queue_setAvuCmd, (State.writePantry_effect ..).avu_eq rfl, AvuCmd.merged]

theorem State.mem_mergeRow (s : State) (r i : Nat) (c : AvuCmd) (e j : Nat) (a : AttnEntry) (row : AttnRow) :
    (s.mergeRow r i c e j a row).mem =
      (s.writePantry r (a.outOff + j * c.outRow a.final) (c.outputRow a.final (c.rowRecord e j row)).1).mem := by
  rw [State.mergeRow, State.bump_mem, State.setAvuCmd, State.modAvu_mem]

theorem execMergeUnitRecord_ready {r : RoomIx} {entry row : Fin 256} {s : State} {i : Nat} {c : AvuCmd} {a : AttnEntry} {q : AttnRow}
    (hcmd : (s.avu r.val).queue.zipIdx.find? (fun p => p.1.dispatched && p.1.op == 2 && p.1.status == 0 && !p.1.finished) =
      some (c, i))
    (hentry : c.attn[entry.val]? = some a) (hrow : a.rows[row.val]? = some q)
    (hnew : c.rowsDone.contains (entry.val, row.val) = false)
    (hformed : c.work.any (fun w => w.entry == entry.val && w.row == row.val) = false) (hstair : s.stairRuns r.val = true) :
    execMergeUnitRecord r entry row s = .next (s.mergeRow r.val i c entry.val row.val a q) := by
  simp only [execMergeUnitRecord, hcmd, hentry, hrow]
  exact whenReady_of (by rw [hnew, hformed, hstair]; rfl) ..

/-- Settles O12: each command finds what it needs, so it comes to its effect, and the laws of the dispatch, of the partial and of the
output row say what that leaves of the queue and of the pantry. -/
theorem attentionStepsComplete : Obligations.AttentionStepsComplete := by
  refine ⟨fun r s i c hnext hop hchecks hrun hstair hopen hheld hfree hclean => ?dispatch,
    fun r b faults s u i c v a row hcmd hop hrun hu hwork hentry hrow => ?block,
    fun r entry row s i c a q hcmd hentry hrow hnew hformed hstair => ?merge⟩
  case dispatch =>
    obtain ⟨hformat, hshape⟩ := hchecks
    exact ⟨_, _, execAttnDispatch_ready hnext hop hformat hshape hrun hstair hopen hheld hfree, State.queue_attnDispatch hclean i,
      rfl, rfl, rfl, rfl⟩
  case block =>
    refine ⟨_, execAvuAttnBlock_ready (x := ⟨b, faults⟩) hcmd hop hrun, ?_⟩
    rw [State.queue_attnBlock hwork hentry hrow, State.queue_avuFaults, hu]
  case merge =>
    exact ⟨_, _, execMergeUnitRecord_ready hcmd hentry hrow hnew hformed hstair, State.queue_mergeRow .., rfl,
      State.mem_mergeRow ..⟩

end Sys2Proof.Machine

/-! The tree unit: what a list entry does to the table entry that it names (O36), and the flush of an empty queue (O35). -/
namespace Sys2Proof.Machine

/-! ## One list entry (R245, R247, R255) -/

/-- R214: an address changed out of turn leaves the epoch and the state of an entry as they were read. -/
@[simp] theorem State.openSeq_epoch (s : State) (n : Nat) (p : Place) (q : SeqEntry) : (s.openSeq n p q).epoch = q.epoch := rfl
@[simp] theorem State.openSeq_state (s : State) (n : Nat) (p : Place) (q : SeqEntry) : (s.openSeq n p q).state = q.state := rfl

/-- R245: an entry number beyond the table gives RANGE. -/
theorem State.treeOne_beyond {s : State} {r : Nat} {c : TreeCmd} {e : TreeEntry} (hseq : 1048576 ≤ e.seq) :
    s.treeOne r c e = (s, 6, e.epoch) := if_pos hseq

section
variable {s : State} {r : Nat} {c : TreeCmd} {e : TreeEntry} {p : Place} {l : List Byte}
  (hseq : e.seq < 1048576) (hread : s.seqBytes r c.auth (c.seqVa e) = some (p, l))
include hseq hread

/-- R247: OPEN finds the entry closed, and takes it where it can be written. -/
theorem State.treeOne_open (hop : c.op = 1) : s.treeOne r c e =
    if (parseSeq l).state ≠ 0 then (s, 1, e.epoch)
    else if s.seqWrites r c.auth (c.seqVa e) = false then (s, 4, e.epoch)
    else (s.memWrite p (opened l (nextSeqEpoch (parseSeq l).epoch) e.arg), 0, nextSeqEpoch (parseSeq l).epoch) := by
  simp only [State.treeOne, hread, hop, Nat.not_le.mpr hseq, State.openSeq_epoch, State.openSeq_state, Bool.not_eq_true', if_false]

/-- R245: but for OPEN, an entry of another epoch, or a closed one, is left as it is. -/
theorem State.treeOne_stale (hop : c.op ≠ 1) (hstale : (parseSeq l).epoch ≠ e.epoch ∨ (parseSeq l).state = 0) :
    s.treeOne r c e = (s, 1, e.epoch) := by
  simp only [State.treeOne, hread, Nat.not_le.mpr hseq, if_false]
  have hopened : (s.openSeq c.guard p (parseSeq l)).epoch ≠ e.epoch ∨ (s.openSeq c.guard p (parseSeq l)).state = 0 := hstale
  generalize s.openSeq c.guard p (parseSeq l) = q at hopened ⊢
  have hactive : (q.state = 1 && q.epoch == e.epoch) = false := by
    obtain h | h := hopened <;> simp [h]
  have hlive : ((q.state = 1 || q.state = 2) && q.epoch == e.epoch) = false := by
    obtain h | h := hopened <;> simp [h]
  split
  case h_1 h => exact absurd h hop
  all_goals simp only [hactive, hlive, Bool.not_false, Bool.false_eq_true, if_true, if_false]

/-- R247: an ACTIVE entry of the command's epoch is closed where it can be written. -/
theorem State.treeOne_close (hop : c.op = 2) (hactive : (parseSeq l).epoch = e.epoch ∧ (parseSeq l).state = 1)
    (hwrites : s.seqWrites r c.auth (c.seqVa e) = true) :
    s.treeOne r c e = (s.memWrite p (patchBytes l 6 (toBytes 2 0)), 0, e.epoch) := by
  obtain ⟨hepoch, hstate⟩ := hactive
  simp [State.treeOne, Nat.not_le.mpr hseq, hread, hop, hepoch, hstate, hwrites]

/-- R255: ROLLBACK without a length only makes the entry ACTIVE, with no provisional slots. -/
theorem State.treeOne_rollback (hop : c.op = 8) (hactive : (parseSeq l).epoch = e.epoch ∧ (parseSeq l).state = 1)
    (hwrites : s.seqWrites r c.auth (c.seqVa e) = true) (hlen : bitOf e.flags 1 = false) :
    s.treeOne r c e = (s.memWrite p (patchBytes l 6 (toBytes 1 1 ++ toBytes 1 0)), 0, e.epoch) := by
  obtain ⟨hepoch, hstate⟩ := hactive
  simp [State.treeOne, Nat.not_le.mpr hseq, hread, hop, hepoch, hstate, hwrites, hlen]

end

/-- R256: a COMMIT whose descriptor is in order, and whose mask, base and length stand in the table entry, has been made already. -/
theorem State.treeCommit_made {s : State} {r : Nat} {c : TreeCmd} {p : Place} {writes : Bool} {b : List Byte} {q : SeqEntry}
    {e : TreeEntry} (hplaced : descPlaced e.treeOff = true) (hclean : s.rangePoisoned (pantryKey r e.treeOff) 16 = false)
    (hok : (s.treeDesc r e.treeOff).accDepth ≠ 0 ∧
      (s.treeDesc r e.treeOff).accDepth = popCount 64 (s.treeDesc r e.treeOff).accMask ∧
      (s.treeDesc r e.treeOff).accMask % 2 = 1 ∧ (c.lhCount = 0 ∨ (s.treeDesc r e.treeOff).accMask / 2 ^ q.prov = 0))
    (hmade : q.len = ((s.treeDesc r e.treeOff).baseLen + (s.treeDesc r e.treeOff).accDepth) % 2 ^ 32 ∧
      lastBaseLen b = (s.treeDesc r e.treeOff).baseLen ∧ lastMask b = (s.treeDesc r e.treeOff).accMask) :
    s.treeCommit r c p writes b q e = (s, 2) := by
  obtain ⟨hdepth, hcount, hroot, hfits⟩ := hok
  have hrange : ¬ ((s.treeDesc r e.treeOff).accDepth = 0 ∨
      (s.treeDesc r e.treeOff).accDepth ≠ popCount 64 (s.treeDesc r e.treeOff).accMask ∨
      (s.treeDesc r e.treeOff).accMask % 2 = 0 ∨ (0 < c.lhCount ∧ (s.treeDesc r e.treeOff).accMask / 2 ^ q.prov ≠ 0)) := by
    rintro (h | h | h | ⟨hslots, h⟩)
    · exact hdepth h
    · exact h hcount
    · omega
    · exact hfits.elim (Nat.ne_of_gt hslots) h
  simp only [State.treeCommit, hplaced, hclean, if_neg hrange, if_pos hmade, Bool.not_true, Bool.false_eq_true, if_false]

/-- Settles O36: each operation by what it finds in the table entry. -/
theorem treeEntriesFollowTheirState : Obligations.TreeEntriesFollowTheirState := by
  refine ⟨fun s r c e p l hseq hread hop => ?opened, fun s r c e p l hseq hread hop hstale => ?stale,
    fun s r c e p l hseq hread hactive hwrites => ⟨fun hop => ?closed, fun hop hlen => ?rolledBack⟩, fun s r c e hseq => ?beyond,
    fun s r c p writes b q e hplaced hclean hok hmade => ?made⟩
  case opened =>
    rw [State.treeOne_open hseq hread hop]
    refine ⟨fun hclosed hwrites => ?_, fun hclosed hno => ?_, fun hstate => if_pos hstate⟩
    · rw [if_neg (not_not_intro hclosed), if_neg (by rw [hwrites]; exact Bool.noConfusion)]
    · rw [if_neg (not_not_intro hclosed), if_pos hno]
  case stale =>
    obtain ⟨hmin, -, -⟩ := hop
    exact State.treeOne_stale hseq hread (by omega) hstale
  case closed => exact State.treeOne_close hseq hread hop hactive hwrites
  case rolledBack => exact State.treeOne_rollback hseq hread hop hactive hwrites hlen
  case beyond => exact State.treeOne_beyond hseq
  case made => exact State.treeCommit_made hplaced hclean hok hmade

/-! ## The flush of an empty queue (R258) -/

/-- R259: a bit of TREE_ERR and its record move no other register but those of the room's ring. -/
theorem State.regN_treeError_name (s : State) {n : RegName} (hprod : n ≠ .errProd) (hlost : n ≠ .errLost) (herr : n ≠ .treeErr)
    (r bit i : Nat) : (s.treeError r bit).regN n i = s.regN n i :=
  congrArg BitVec.toNat ((State.reg_post hprod hlost ..).trans (s.reg_orReg_name herr ..))

/-- R258: with no command to end, a flush only sets its bit of TREE_ERR. -/
theorem State.treeFlush_of_empty {s : State} {r : Nat} (hq : (s.tree r).queue = []) : s.treeFlush r = s.treeError r 3 := by
  have hend : s.treeEndHead r = s := by simp only [State.treeEndHead, hq]
  have habort : State.treeAbort 8 r s = s := by simp only [State.treeAbort, hq]
  rw [State.treeFlush, hend, habort]

/-- A state with an empty queue in room 0, whose TREE_DONE_COUNT holds a number that 32 bits do not. -/
def countBeyond : State := { regs := [⟨.treeDoneCount, 0, 0x100000000⟩] }

/-- Refutes O35 in the clause of the flush, which has no condition on the count: a flush that ends no command leaves TREE_DONE_COUNT
as it stands, and does not reduce it to 32 bits. No command makes such a count (each advance wraps, and software cannot write it),
but the clause speaks of every state; it wants a count below 2^32, or a queue that is not empty. -/
theorem not_treeCommandsComplete : ¬ Obligations.TreeCommandsComplete := by
  rintro ⟨-, -, -, -, -, hflush⟩
  have hempty : (countBeyond.tree 0).queue = [] := rfl
  have hcount : countBeyond.regN .treeDoneCount 0 = 2 ^ 32 := by decide
  obtain ⟨t, hexec, -, -, hclaimed⟩ := hflush 0 countBeyond (by decide)
  have hflushed : exec (.treeFlush 0) countBeyond = .next (countBeyond.treeError 0 3) :=
    congrArg Host.Outcome.next (State.treeFlush_of_empty hempty)
  obtain rfl := Host.Outcome.next.inj (hexec.symm.trans hflushed)
  have hkept : (countBeyond.treeError 0 3).regN .treeDoneCount 0 = countBeyond.regN .treeDoneCount 0 :=
    State.regN_treeError_name _ (by decide) (by decide) (by decide) ..
  have hwrapped : (countBeyond.treeError 0 3).regN .treeDoneCount 0 = (2 ^ 32 + 0) % 2 ^ 32 := by
    rw [← hcount]; exact hclaimed
  rw [hkept, hcount] at hwrapped
  exact absurd hwrapped (by decide)

end Sys2Proof.Machine

/-! The dumbwaiter: a channel starts its program and performs its steps (O33), and the flush of a channel with no program (O34). -/
namespace Sys2Proof.Machine

/-! ## What the writes of a step leave of its channel (R148, R269) -/

theorem Effect.dw_eq {F : List Part} {s t : State} (he : Effect F s t) (hF : F.contains .dws = false) (k : Nat) :
    t.dw k = s.dw k := by
  obtain ⟨hsame, -⟩ := he
  simp only [State.dw, show t.dws = s.dws from hsame .dws hF]

/-- A channel but for its flags and its watch, which a write to a word that it watches may change. -/
def DwChan.course (c : DwChan) : DwChan := { c with flags := 0, watch := none }

theorem DwChan.fields_of_course {c d : DwChan} (h : c.course = d.course) :
    c.step = d.step ∧ c.bytes = d.bytes ∧ c.ended = d.ended := by
  have hstep := congrArg DwChan.step h
  have hbytes := congrArg DwChan.bytes h
  have hended := congrArg DwChan.ended h
  exact ⟨hstep, hbytes, hended⟩

theorem State.course_testWatches (s : State) (r k : Nat) : ((s.testWatches r).dw k).course = (s.dw k).course := by
  simp only [State.dw, State.testWatches, tgetD]
  rw [tget_map_of_keys]
  · cases tget k s.dws with
    | none => rfl
    | some c =>
      simp only [Option.map_some, Option.getD_some]
      split
      · cases c.watch with
        | none => rfl
        | some w => dsimp only; split <;> rfl
      · rfl
  · intro p
    split
    · cases p.2.watch with
      | none => rfl
      | some w => dsimp only; split <;> rfl
    · rfl

theorem State.course_writePantry (s : State) (r o : Nat) (l : List Byte) (w : Option Nat) (k : Nat) :
    ((s.writePantry r o l w).dw k).course = (s.dw k).course := by
  rw [State.writePantry, State.course_testWatches, (State.dropReservations_effect ..).dw_eq rfl,
    (State.putWords_effect ..).dw_eq rfl]

theorem State.course_memWrite (s : State) (p : Place) (l : List Byte) (w : Option Nat) (k : Nat) :
    ((s.memWrite p l w).dw k).course = (s.dw k).course := by
  cases p with
  | attic r b o =>
    simp only [State.memWrite]
    split
    · rw [State.dw_bump, (State.bankAccess_effect ..).dw_eq rfl]
    · rw [State.dw_bump]
      split
      · rw [(State.atticError_effect ..).dw_eq rfl, (State.writeAttic_effect ..).dw_eq rfl]
      · rw [(State.writeAttic_effect ..).dw_eq rfl]
  | pantry r o =>
    simp only [State.memWrite, State.dw_bump]
    split
    · rw [(State.postRoom_effect ..).dw_eq rfl, State.course_writePantry]
    · rw [State.course_writePantry]
  | _ => rfl

theorem State.course_pwrite (s : State) (p : Place) (l : List PByte) (k : Nat) :
    ((s.pwrite p l).dw k).course = (s.dw k).course := by
  have hpoison (t : State) : ((l.zipIdx).foldl (fun s q => if q.1.2 then s.setPoison (wordKeyAt p q.2) true else s) t).dw k =
      t.dw k :=
    (Effect.foldl (F := [.poison]) (fun u q => .ite (fun _ => State.setPoison_effect ..) fun _ => .refl ..) (.refl _ t)).dw_eq rfl k
  cases p with
  | attic r b o => exact (congrArg DwChan.course (hpoison _)).trans (s.course_memWrite ..)
  | pantry r o => exact (congrArg DwChan.course (hpoison _)).trans (s.course_memWrite ..)
  | _ => exact s.course_memWrite ..

theorem State.course_pwriteAll (s : State) (places : List (Place × Nat)) (l : List PByte) (k : Nat) :
    ((s.pwriteAll places l).dw k).course = (s.dw k).course := by
  induction places generalizing s l with
  | nil => rfl
  | cons q places ih => exact (ih ..).trans (s.course_pwrite ..)

theorem State.course_dwWriteRow (s : State) (scatter : Bool) (earlier : List (Option Nat)) (m : DwMove) (k : Nat) :
    ((s.dwWriteRow scatter earlier m).1.dw k).course = (s.dw k).course := by
  rw [State.dwWriteRow, (Effect.foldl (F := [.guards]) (fun u q => State.storeAt_effect ..) (.refl ..)).dw_eq rfl,
    State.course_pwriteAll]

theorem State.course_dwWriteRows (s : State) (scatter : Bool) (ms : List DwMove) (k : Nat) :
    ((s.dwWriteRows scatter ms).1.dw k).course = (s.dw k).course :=
  List.foldlRecOn (motive := fun x : State × Nat × List (Option Nat) => (x.1.dw k).course = (s.dw k).course) ms _ rfl
    fun x hx _ _ => (x.1.course_dwWriteRow ..).trans hx

/-! ## A step that is performed (R262, R263, R268, R269) -/

theorem DwChan.next_of_lt {c : DwChan} (h : c.step < 255) : c.next = { c with step := c.step + 1 } := if_neg (by omega)

theorem State.running_of_dwSteps {s : State} {k : Nat} (h : s.dwSteps k = true) : (s.dw k).state = .running := by
  simp only [State.dwSteps, DwChan.stepping, Bool.and_eq_true, beq_iff_eq] at h
  obtain ⟨⟨⟨⟨hstate, -⟩, -⟩, -⟩, -⟩ := h
  exact hstate

theorem dwRun_ready {op : Nat} {k : Fin 6176} {s : State} {u : DwStep} (hrun : s.dwSteps k.val = true)
    (hstep : s.dwStepAt k.val = some u) (hop : u.op = op) (body : DwStep → State) : dwRun op k s body = .next (body u) := by
  simp only [dwRun, hrun, hstep]
  exact whenReady_of (by rw [hop, beq_self_eq_true]) ..

theorem execDwProgramStart_ready {k : Fin 6176} {s : State} {p : DwProgram} {q : List DwProgram} {b : List Byte}
    (hidle : (s.dw k.val).state = .idle) (hqueue : (s.dw k.val).queue = p :: q)
    (hleft : isDoorChan k.val = true ∨ s.dwLeavingOf k.val = false) (hruns : s.dwFetchRuns k.val p 0 16 = true)
    (hfetch : s.dwFetch k.val p 0 16 = some b) :
    execDwProgramStart k s = .next (s.modDw k.val fun _ =>
      { queue := p :: q, state := .running, tag := numAt b 6 2, recAlways := bitOf (numAt b 0 8) 47 }) := by
  have hnone : (!isDoorChan k.val && s.dwLeavingOf k.val) = false := by
    obtain h | h := hleft <;> simp [h]
  simp [execDwProgramStart, DwChan.program, hidle, hqueue, hnone, hruns, hfetch]

/-! ## Data steps (R266, R276) -/

/-- What a data step needs to end well: its fields and alignment, its index table and its rows are good, and their homes answer. -/
structure State.DwDataReady (s : State) (k : Nat) (u : DwStep) (il : List (Place × Nat)) (rows : List DwRow) (ms : List DwMove) :
    Prop where
  fields : u.badData k (s.dw k).program = false
  aligned : u.badAlign (s.dw k) = none
  index : s.indexPlaces k (s.dw k).program u (s.dw k) = .ok il
  indexRuns : s.homesRun u.cls il = true
  listed : rows = u.rowList (s.dw k) (s.dwBytes k u (u.idxVa (s.dw k)) il)
  placed : s.dwRows k (s.dw k).program u rows = (ms, none)
  runs : s.homesRun u.cls (ms.flatMap fun m => m.src ++ m.dst) = true

/-- The state in which the rows of a data step have been written in order. -/
def State.dwDataWritten (s : State) (u : DwStep) (il : List (Place × Nat)) (ms : List DwMove) : State :=
  ((s.dwNoteReads (il ++ ms.flatMap (·.src))).dwWriteRows (u.op == 4) ms).1

theorem State.course_dwDataWritten (s : State) (u : DwStep) (il : List (Place × Nat)) (ms : List DwMove) (k : Nat) :
    ((s.dwDataWritten u il ms).dw k).course = (s.dw k).course := by
  rw [State.dwDataWritten, State.course_dwWriteRows, (State.dwNoteReads_effect ..).dw_eq rfl]

section
variable {s : State} {k : Nat} {u : DwStep} {il : List (Place × Nat)} {rows : List DwRow} {ms : List DwMove}
  (h : s.DwDataReady k u il rows ms)
include h

theorem State.DwDataReady.dwData_eq : ∃ (flags skipped : DwChan → Nat) (wrote : List Nat), s.dwData k u =
    ((s.dwDataWritten u il ms).spoilKeys (u.clash rows ms ++ s.dwMovedKeys k (s.dw k).program u rows)).bump.modDw k fun c =>
      DwChan.next { c with
        flags := flags c, wrote, skipped := skipped c
        bytes := c.bytes + (rows.filterMap DwRow.dst).length * u.rowBytes } :=
  ⟨_, _, _, by
    simp only [State.dwData, h.fields, h.aligned, h.index, h.indexRuns, ← h.listed, h.placed, h.runs,
      Bool.false_eq_true, Bool.not_true, ne_eq, not_true, if_false]
    rfl⟩

/-- R266, R269: the channel goes on to the next step, with the bytes of the rows added; memory is that of the rows written. -/
theorem State.DwDataReady.dwData_effect (hstep : (s.dw k).step < 255) :
    ((s.dwData k u).dw k).step = (s.dw k).step + 1 ∧
      ((s.dwData k u).dw k).bytes = (s.dw k).bytes + (rows.filterMap DwRow.dst).length * u.rowBytes ∧
      ((s.dwData k u).dw k).ended = (s.dw k).ended ∧
      (u.clash rows ms = [] → s.dwMovedKeys k (s.dw k).program u rows = [] →
        (s.dwData k u).mem = (s.dwDataWritten u il ms).mem) := by
  obtain ⟨flags, skipped, wrote, hdone⟩ := h.dwData_eq
  obtain ⟨hkept, hbytes, hended⟩ := DwChan.fields_of_course (s.course_dwDataWritten u il ms k)
  rw [← hkept] at hstep
  rw [hdone, State.dw_modDw, State.dw_bump, (State.spoilKeys_effect ..).dw_eq rfl, DwChan.next_of_lt]
  · refine ⟨congrArg (· + 1) hkept, congrArg (· + _) hbytes, hended, fun hclash hmoved => ?_⟩
    rw [hclash, hmoved]
    rfl
  · exact hstep

end

/-! ## LOOP (R268) -/

section
variable {c : DwChan} {u : DwStep} (hfields : u.w 0 59 56 = 0 ∧ u.w 0 47 24 = 0 ∧ u.zeroFrom 4 = true)
  (htarget : u.w 0 55 48 < c.step) (hstack : c.stack = [])
include hfields htarget hstack

theorem DwChan.loop_again (hcount : 2 ≤ u.w 0 23 0) : c.loop u =
    { c with
      stack := [(c.step, u.w 0 23 0 - 1)], step := u.w 0 55 48
      srcAdj := c.srcAdj + u.getD 1 0, dstAdj := c.dstAdj + u.getD 2 0, idxAdj := c.idxAdj + u.getD 3 0 } := by
  obtain ⟨hhigh, hmid, hzero⟩ := hfields
  have hcond : ¬ (u.w 0 23 0 = 0 ∨ c.step ≤ u.w 0 55 48) := by omega
  have hleft : 0 < u.w 0 23 0 - 1 := by omega
  simp [DwChan.loop, hhigh, hmid, hzero, hstack, hcond, hleft]

/-- R268: a LOOP of one execution goes on with nothing to take back. -/
theorem DwChan.loop_once (hcount : u.w 0 23 0 = 1) : c.loop u = c.next := by
  obtain ⟨hhigh, hmid, hzero⟩ := hfields
  have hcond : ¬ c.step ≤ u.w 0 55 48 := by omega
  have hsame : { c with stack := [] } = c := by rw [← hstack]
  simp [DwChan.loop, hhigh, hmid, hzero, hstack, hcond, hcount, hsame]

end

/-! ## WAIT and SIGNAL (R267, R269) -/

section
variable {s : State} {k : Nat} {u : DwStep} {y : Watched}

theorem State.dwWaitStep_ready {x : Xlate}
    (hfields : isDoorChan k = false ∧ u.w 0 59 51 = 0 ∧ u.w 0 47 0 = 0 ∧ u.w 0 50 48 ≤ 4 ∧ u.zeroFrom 3 = true)
    (halign : wordN u 1 % 8 = 0)
    (hx : s.translate (k / 8) (s.dw k).program.auth.noMxr .read .load (BitVec.ofNat 64 (wordN u 1)) = .ok x)
    (hplace : watchPlace (k / 8) (s.placeFor (k / 8) x.pa 8) = some y)
    (hmoved : s.dwMoved k (s.dw k).program (wordN u 1) 8 = false) : s.dwWaitStep k u = s.dwWaitAt k y u := by
  obtain ⟨hroom, hhigh, hlow, hcond, hzero⟩ := hfields
  have hcode : ¬ 4 < u.w 0 50 48 := by omega
  simp [State.dwWaitStep, hroom, hhigh, hlow, hcode, hzero, halign, hx, hplace, hmoved]

theorem State.testWatch_of_clean {r : Nat} (hclean : s.watchedPoison r y = false) (c : Cond) (x : W64) :
    s.testWatch r ⟨y, c, x, .none⟩ =
      ⟨y, c, x, if c.met (s.watchedValue r y) x then .value (s.watchedValue r y) else .none⟩ := by
  simp only [State.testWatch, ne_eq, not_true, if_false, hclean, Bool.false_eq_true]
  split <;> rfl

variable (hclean : s.watchedPoison (k / 8) y = false)
include hclean

theorem State.dwWaitAt_met (hmet : (dwCond (u.w 0 50 48)).met (s.watchedValue (k / 8) y) (u.getD 2 0) = true) :
    s.dwWaitAt k y u = s.modDw k fun c => DwChan.next { c with wrote := [] } := by
  simp only [State.dwWaitAt, State.testWatch_of_clean hclean, hmet, if_true]

theorem State.dwWaitAt_unmet (hmet : (dwCond (u.w 0 50 48)).met (s.watchedValue (k / 8) y) (u.getD 2 0) = false) :
    ((s.dwWaitAt k y u).dw k).state = .waiting ∧ ((s.dwWaitAt k y u).dw k).step = (s.dw k).step := by
  simp only [State.dwWaitAt, State.testWatch_of_clean hclean, hmet, Bool.false_eq_true, if_false, State.dw_modDw, and_self]

end

section
variable {k : Fin 6176} {s : State} {y : Watch} (hwait : (s.dw k.val).state = .waiting) (hwatch : (s.dw k.val).watch = some y)
include hwait hwatch

theorem execDwWaitMet_ready (hfound : y.found = true) : execDwWaitMet k s = .next (s.modDw k.val fun c =>
    DwChan.next { c with state := .running, watch := none, deadline := none }) := by
  simp only [execDwWaitMet, hwait, hwatch]
  exact whenReady_of hfound ..

theorem execDwWaitTimeout_ready {n : Nat} (hdead : (s.dw k.val).deadline = some n) (hfound : y.found = false) :
    execDwWaitTimeout k s = .next ((s.reach n).modDw k.val fun c =>
      { c with state := .running, watch := none, deadline := none, ended := some (0x15, 0) }) := by
  simp only [execDwWaitTimeout, hwait, hwatch, hdead]
  exact whenReady_of (by rw [hfound]; rfl) ..

end

theorem homeWidth_dwSignalOp (sop : Nat) (x : W64) : homeWidth (dwSignalOp sop x) = 8 := by
  unfold dwSignalOp
  split <;> rfl

theorem isLease_dwSignalOp (sop : Nat) (x : W64) : isLease (dwSignalOp sop x) = false := by
  unfold dwSignalOp
  split <;> rfl

section
variable {s : State} {k r o : Nat} {u : DwStep} {l : List Byte}

/-- R183: the atomic of a SIGNAL writes the new value of the word, and notes the store of its bytes. -/
theorem State.atomicPerform_dwSignalOp (hread : s.memRead (.pantry r o) 8 = .data l) (sop : Nat) (x : W64) :
    s.atomicPerform (dwSignalOp sop x) (.pantry r o) =
      (s.memWrite (.pantry r o) (toBytes 8 (homeNew (dwSignalOp sop x) (ofBytes l)).1)).storeAt (.pantry r o) 8 := by
  simp [State.atomicPerform, State.atomicOld, State.guardLease, homeWidth_dwSignalOp, isLease_dwSignalOp, hread]

theorem State.dwSignalAt_pantry (hread : s.memRead (.pantry r o) 8 = .data l) (va sop : Nat) (x : W64) :
    s.dwSignalAt k va (.pantry r o) (dwSignalOp sop x) =
      ((s.memWrite (.pantry r o) (toBytes 8 (homeNew (dwSignalOp sop x) (ofBytes l)).1)).storeAt (.pantry r o) 8).modDw k fun c =>
        DwChan.next { c with wrote := signalKeys (.pantry r o) } := by
  rw [← State.atomicPerform_dwSignalOp hread]
  simp only [State.dwSignalAt, State.atomicAnswer, homeWidth_dwSignalOp, hread]

theorem State.dwSignalStep_ready
    (hfields : u.w 0 59 59 = 0 ∧ u.w 0 55 50 = 0 ∧ u.w 0 47 0 = 0 ∧ u.w 0 49 48 ≠ 3 ∧ u.badClass k (s.dw k).program = false ∧
      u.zeroFrom 3 = true)
    (halign : wordN u 1 % 8 = 0)
    (hplaces : s.dwPlaces k (s.dw k).program true (wordN u 1) 8 = .ok [(.pantry r o, 8)])
    (hpantry : s.dwPantryVa k (s.dw k).program (wordN u 1) = true)
    (hmoved : s.dwMoved k (s.dw k).program (wordN u 1) 8 = false) :
    s.dwSignalStep k u = s.dwSignalAt k (wordN u 1) (.pantry r o) (dwSignalOp (u.w 0 49 48) (u.getD 2 0)) := by
  obtain ⟨hbit, hhigh, hlow, hop, hclass, hzero⟩ := hfields
  simp [State.dwSignalStep, hbit, hhigh, hlow, hop, hclass, hzero, halign, hplaces, hpantry, hmoved]

end

/-- R183, R269: a word is written and the channel goes on: memory is that of the write, and the channel stands one step further. -/
theorem State.wordWritten_effect {s : State} {k : Nat} (hstep : (s.dw k).step < 255) (p : Place) (new : List Byte)
    (wrote : List Nat) :
    (((s.memWrite p new).storeAt p 8).modDw k fun c => DwChan.next { c with wrote }).mem = (s.memWrite p new).mem ∧
      ((((s.memWrite p new).storeAt p 8).modDw k fun c => DwChan.next { c with wrote }).dw k).step = (s.dw k).step + 1 := by
  obtain ⟨hkept, -, -⟩ := DwChan.fields_of_course (s.course_memWrite p new none k)
  rw [← hkept] at hstep
  refine ⟨by rw [State.modDw_mem, (State.storeAt_effect ..).mem_eq rfl], ?_⟩
  rw [State.dw_modDw, (State.storeAt_effect ..).dw_eq rfl, DwChan.next_of_lt]
  exacts [congrArg (· + 1) hkept, hstep]

/-- Settles O33: each command finds its step, or the watch of its channel, ready, so it comes to its effect; of what the writes of a
step may touch, its channel keeps all but its flags and its watch. -/
theorem dumbwaiterStepsComplete : Obligations.DumbwaiterStepsComplete := by
  refine ⟨fun k s p q b hidle hqueue hleft hruns hfetch => ?start,
    fun k s c n u il rows ms hmem hrun hat hop hgood hindex hindexRuns hrows hplaced hruns hstep => ?data,
    fun k s u n hrun hat hop hfields hn htarget hstack => ?loop, fun k s u hrun hat hop hfields => ?ended,
    fun k s u x y hrun hat hop hfields halign hx hplace hmoved hstep => ?wait,
    fun k s y hwait hwatch hfound hstep => ?met, fun k s y n hwait hwatch hdead hfound => ?timeout,
    fun k s u r o l hrun hat hop hfields halign hplaces hpantry hmoved hread hstep => ?signal⟩
  case start =>
    exact ⟨_, execDwProgramStart_ready hidle hqueue hleft hruns hfetch, State.dw_modDw .., rfl⟩
  case data =>
    obtain ⟨hfields, haligned⟩ := hgood
    have hready : s.DwDataReady k.val u il rows ms := ⟨hfields, haligned, hindex, hindexRuns, hrows, hplaced, hruns⟩
    suffices he : exec c s = .next (s.dwData k.val u) from ⟨_, he, hready.dwData_effect hstep⟩
    simp only [List.mem_cons, Prod.mk.injEq, List.not_mem_nil, or_false] at hmem
    obtain ⟨rfl, rfl⟩ | ⟨rfl, rfl⟩ | ⟨rfl, rfl⟩ | ⟨rfl, rfl⟩ := hmem <;> exact dwRun_ready hrun hat hop _
  case loop =>
    obtain ⟨rfl, -⟩ := hn
    refine ⟨_, dwRun_ready hrun hat hop _, fun hmany => ?_, fun hone hlast => ?_⟩
    · rw [State.dw_modDw, DwChan.loop_again hfields htarget hstack hmany]
      exact ⟨rfl, rfl, rfl⟩
    · rw [State.dw_modDw, DwChan.loop_once hfields htarget hstack hone, DwChan.next_of_lt hlast]
      exact ⟨rfl, hstack, rfl⟩
  case ended =>
    refine ⟨_, dwRun_ready hrun hat hop _, ?_, rfl⟩
    rw [State.dw_modDw, if_pos hfields, DwChan.endOk]
  case wait =>
    refine ⟨_, dwRun_ready hrun hat hop _, ?_⟩
    rw [State.dwWaitStep_ready hfields halign hx hplace hmoved]
    refine ⟨(State.dwWaitAt_effect ..).mem_eq rfl, fun hclean hmet => ?_, State.dwWaitAt_unmet⟩
    rw [State.dwWaitAt_met hclean hmet, State.dw_modDw, DwChan.next_of_lt]
    exacts [⟨s.running_of_dwSteps hrun, rfl⟩, hstep]
  case met =>
    refine ⟨_, execDwWaitMet_ready hwait hwatch hfound, ?_⟩
    rw [State.dw_modDw, DwChan.next_of_lt]
    exacts [⟨rfl, rfl, rfl⟩, hstep]
  case timeout =>
    refine ⟨_, execDwWaitTimeout_ready hwait hwatch hdead hfound, ?_⟩
    rw [State.dw_modDw]
    exact ⟨rfl, rfl, Nat.le_max_right ..⟩
  case signal =>
    refine ⟨_, dwRun_ready hrun hat hop _, ?_⟩
    rw [State.dwSignalStep_ready hfields halign hplaces hpantry hmoved, State.dwSignalAt_pantry hread]
    exact State.wordWritten_effect hstep ..

/-! ## The flush of a channel with no program (R278) -/

theorem State.dwCut_of_idle {s : State} {k : Nat} (hidle : (s.dw k).state = .idle) : s.dwCut k = s := by
  have hstopped : s.dwSteps k = false := by simp [State.dwSteps, DwChan.stepping, hidle]
  simp only [State.dwCut, hstopped, Bool.not_false, if_true]

/-- R278: with no program to end, a flush moves no count. -/
theorem State.regs_dwFlush_of_empty {s : State} {k : Nat} (hempty : (s.dw k).queue = []) : (s.dwFlush k).regs = s.regs := by
  have habort : State.dwAbort 4 k s = s := by simp only [State.dwAbort, hempty, List.drop_nil]
  rw [State.dwFlush, habort]
  split <;> rfl

/-- A state whose channels are idle and hold no program, and whose DW_DONE_COUNT of channel 0 holds a number that 32 bits do not. -/
def dwCountBeyond : State := { regs := [⟨.dwDoneCount, 0, 0x100000000⟩] }

/-- Refutes O34 in the clause of the flush, which has no condition on the count: a flush of a channel that holds no program leaves its
DW_DONE_COUNT as it stands, and does not reduce it to 32 bits. No command makes such a count (each advance wraps, and software cannot
write it), but the clause speaks of every state; it wants a count below 2^32, or a queue that is not empty. -/
theorem not_dumbwaiterProgramsEnd : ¬ Obligations.DumbwaiterProgramsEnd := by
  rintro ⟨-, -, -, -, -, -, hflush, -⟩
  have hcount : dwCountBeyond.regN .dwDoneCount 0 = 2 ^ 32 := by decide
  obtain ⟨t, hexec, -, -, hclaimed⟩ := hflush 0 0 dwCountBeyond rfl (by decide) (by decide)
  have hflushed : exec (.dwFlush 0 0) dwCountBeyond = .next (dwCountBeyond.dwFlush 0) :=
    congrArg (fun s : State => (.next (s.dwFlush 0) : Result)) (State.dwCut_of_idle (s := dwCountBeyond) (k := 0) rfl)
  obtain rfl := Host.Outcome.next.inj (hexec.symm.trans hflushed)
  have hkept : (dwCountBeyond.dwFlush 0).regN .dwDoneCount 0 = dwCountBeyond.regN .dwDoneCount 0 :=
    congrArg BitVec.toNat (State.reg_congr (State.regs_dwFlush_of_empty rfl) ..)
  have hwrapped : (dwCountBeyond.dwFlush 0).regN .dwDoneCount 0 = (2 ^ 32 + 0) % 2 ^ 32 := by
    rw [← hcount]; exact hclaimed
  rw [hkept, hcount] at hwrapped
  exact absurd hwrapped (by decide)

end Sys2Proof.Machine

/-! What an effect leaves of links, doors, rings and the fabric, and the registers that reports leave alone. -/
namespace Sys2Proof.Machine

/-! ## What an effect leaves to be read -/

theorem Effect.link_eq {F : List Part} {s t : State} (he : Effect F s t) (hF : F.contains .links = false) (l : Nat) :
    t.link l = s.link l := by
  obtain ⟨hsame, -⟩ := he
  simp only [State.link, show t.links = s.links from hsame .links hF]

theorem Effect.sent_eq {F : List Part} {s t : State} (he : Effect F s t) (hF : F.contains .sent = false) : t.sent = s.sent := by
  obtain ⟨hsame, -⟩ := he
  exact hsame .sent hF

theorem Effect.regN_eq {F : List Part} {s t : State} (he : Effect F s t) (hF : F.contains .regs = false) (n : RegName) (i : Nat) :
    t.regN n i = s.regN n i := congrArg BitVec.toNat (he.reg_eq hF n i)

/-! ## Registers that reports leave alone (R387, R481, R482) -/

/-- The registers that records and events move. -/
def reportRegs : List RegName := [.errProd, .errLost, .doorErr]

section
variable {n : RegName} (hn : reportRegs.contains n = false)
include hn

theorem ne_of_not_reportRegs : n ≠ .errProd ∧ n ≠ .errLost ∧ n ≠ .doorErr := by
  refine ⟨?_, ?_, ?_⟩ <;> rintro rfl <;> exact absurd hn (by decide)

theorem State.reg_postOf (s : State) (e : ErrRecord) (i : Nat) : (s.post e).reg n i = s.reg n i :=
  have ⟨hprod, hlost, _⟩ := ne_of_not_reportRegs hn
  s.reg_post hprod hlost e i

theorem State.reg_postDie (s : State) (cause die info i : Nat) : (s.postDie cause die info).reg n i = s.reg n i :=
  s.reg_postOf hn _ i

theorem State.reg_postRoom (s : State) (cause r info i : Nat) : (s.postRoom cause r info).reg n i = s.reg n i :=
  s.reg_postOf hn _ i

theorem State.reg_doorEvent (s : State) (d : Nat) (e : Event) (i : Nat) : (s.doorEvent d e).reg n i = s.reg n i := by
  obtain ⟨-, -, hdoor⟩ := ne_of_not_reportRegs hn
  have hvalid : (if s.eventCqValid d then s else s.orReg .doorErr d 64).reg n i = s.reg n i := by
    split
    · rfl
    · exact s.reg_orReg_name hdoor ..
  unfold State.doorEvent
  dsimp only
  split
  · rfl
  · split
    · exact hvalid
    · exact (State.reg_orReg_name _ hdoor ..).trans hvalid

theorem State.reg_event (s : State) (kind d0 d1 i : Nat) : (s.event kind d0 d1).reg n i = s.reg n i :=
  ((State.mirror_effect ..).reg_eq rfl n i).trans ((State.reg_doorEvent hn ..).trans (s.reg_doorEvent hn ..))

theorem State.reg_mgmtEnd (s : State) (c : MgmtCmd) (status i : Nat) : (s.mgmtEnd c status).reg n i = s.reg n i := by
  unfold State.mgmtEnd
  dsimp only
  split
  · exact State.reg_event hn ..
  · rfl

theorem State.reg_mgmtDone (s : State) (code arg status i : Nat) : (s.mgmtDone code arg status).reg n i = s.reg n i := by
  unfold State.mgmtDone
  split
  · exact s.reg_mgmtEnd hn ..
  · rfl

end

end Sys2Proof.Machine

/-! Links: received flits and timers (O30), training, admission and recalibration (O31), the fabric (O32). -/
namespace Sys2Proof.Machine

/-! ## The accounts of a link's credits (R326, R328, R332) -/

/-- A link apart from the flits that it holds for replay and from its accounts of credits. -/
def LinkB.course (x : LinkB) : LinkB :=
  { x with held := [], progress := 0, credits := [], peerBacklog := 0, pool := 0, granted := 0, chans := [] }

theorem LinkB.course_grantPool (x : LinkB) : x.grantPool.course = x.course := by
  unfold LinkB.grantPool
  split <;> rfl

theorem LinkB.takeReturn_eq (x : LinkB) : ∃ c, x.takeReturn.2 = { x with chans := c } := by
  unfold LinkB.takeReturn
  split
  · exact ⟨x.chans, rfl⟩
  · exact ⟨_, rfl⟩

section
variable (x : LinkB) (f : FlitHead) (now : Nat)

/-- R326: the header of a flit moves only the flits held and the credits. -/
theorem LinkB.course_take : (x.take f now).course = x.course := LinkB.course_grantPool _

@[simp] theorem LinkB.take_state : (x.take f now).state = x.state :=
  (congrArg LinkB.state (x.course_take f now) :)
@[simp] theorem LinkB.take_phase : (x.take f now).phase = x.phase :=
  (congrArg LinkB.phase (x.course_take f now) :)
@[simp] theorem LinkB.take_epoch : (x.take f now).epoch = x.epoch :=
  (congrArg LinkB.epoch (x.course_take f now) :)
@[simp] theorem LinkB.take_expect : (x.take f now).expect = x.expect :=
  (congrArg LinkB.expect (x.course_take f now) :)
@[simp] theorem LinkB.take_rx : (x.take f now).rx = x.rx :=
  (congrArg LinkB.rx (x.course_take f now) :)
@[simp] theorem LinkB.take_beats : (x.take f now).beats = x.beats :=
  (congrArg LinkB.beats (x.course_take f now) :)
@[simp] theorem LinkB.take_replayTimes : (x.take f now).replayTimes = x.replayTimes :=
  (congrArg LinkB.replayTimes (x.course_take f now) :)
@[simp] theorem LinkB.take_peerValid : (x.take f now).peerValid = x.peerValid :=
  (congrArg LinkB.peerValid (x.course_take f now) :)
@[simp] theorem LinkB.take_peerDev : (x.take f now).peerDev = x.peerDev :=
  (congrArg LinkB.peerDev (x.course_take f now) :)
@[simp] theorem LinkB.take_peerLink : (x.take f now).peerLink = x.peerLink :=
  (congrArg LinkB.peerLink (x.course_take f now) :)
@[simp] theorem LinkB.take_peerBoot : (x.take f now).peerBoot = x.peerBoot :=
  (congrArg LinkB.peerBoot (x.course_take f now) :)
@[simp] theorem LinkB.take_gotInit : (x.take f now).gotInit = x.gotInit :=
  (congrArg LinkB.gotInit (x.course_take f now) :)
@[simp] theorem LinkB.take_gotAck : (x.take f now).gotAck = x.gotAck :=
  (congrArg LinkB.gotAck (x.course_take f now) :)
@[simp] theorem LinkB.take_doneSent : (x.take f now).doneSent = x.doneSent :=
  (congrArg LinkB.doneSent (x.course_take f now) :)
end

/-! ## Flits as they are sent (R326, R338) -/

/-- R326: a flit that is sent leaves its bytes, and reports returned credits. -/
theorem State.sendFlit_eq (s : State) (l ftype seq next : Nat) (payload : List Byte) : ∃ c bl c1 c0,
    s.sendFlit l ftype seq next payload = (s.modLink l fun x => { x with chans := c }).send
      (.flit l (flitBytes ftype seq (s.link l).ack bl c1 c0 next payload)) := by
  obtain ⟨c, hc⟩ := (s.link l).takeReturn_eq
  obtain ⟨d, hd⟩ := (s.link l).takeReturn.2.takeReturn_eq
  refine ⟨d, (s.link l).backlog, (s.link l).takeReturn.2.takeReturn.1, (s.link l).takeReturn.1, ?_⟩
  simp only [State.sendFlit, hd]
  simp only [hc]
  rfl

theorem State.sendCtl_eq (s : State) (l ftype : Nat) (payload : List Byte) : ∃ c bl c1 c0,
    s.sendCtl l ftype payload = (s.modLink l fun x => { x with chans := c }).send
      (.flit l (flitBytes ftype 0 (s.link l).ack bl c1 c0 15 payload)) := s.sendFlit_eq l ftype 0 15 payload

theorem State.sendLctl_eq (s : State) (l kind : Nat) (rest : List Byte) : ∃ c bl c1 c0,
    s.sendLctl l kind rest = (s.modLink l fun x => { x with chans := c }).send
      (.flit l (flitBytes 5 0 (s.link l).ack bl c1 c0 15 (toBytes 1 kind ++ rest))) := s.sendCtl_eq l 5 _

/-! ## A flit with a good CRC (R326, R340) -/

/-- The state once the header of a good flit is taken. -/
def State.taken (s : State) (l : Nat) (f : FlitHead) : State := s.modLink l (·.take f s.now)

@[simp] theorem State.link_taken (s : State) (l : Nat) (f : FlitHead) : (s.taken l f).link l = (s.link l).take f s.now :=
  s.link_modLink ..

theorem flitRun_bad {l : LinkIx} {f : FlitHead} {s : State} (hr : 4 ≤ (s.link l.val).phase ∨ 2 ≤ (s.link l.val).state)
    (hcrc : f.crcOk = false) (body : State → State) :
    flitRun l f s body = .next ((s.orReg .linkErr l.val 4).bumpReg .linkReplayCount l.val 32 1) := by
  have hready : ¬((s.link l.val).phase < 4 ∧ (s.link l.val).state < 2) := by omega
  rw [flitRun, if_neg hready]
  simp [hcrc]

theorem flitRun_good {l : LinkIx} {f : FlitHead} {s : State} (hr : 4 ≤ (s.link l.val).phase ∨ 2 ≤ (s.link l.val).state)
    (hcrc : f.crcOk = true) (body : State → State) :
    flitRun l f s body = .next ((body (s.taken l.val f)).drainStep l.val) := by
  have hready : ¬((s.link l.val).phase < 4 ∧ (s.link l.val).state < 2) := by omega
  rw [flitRun, if_neg hready]
  simp [hcrc, State.taken]

theorem State.drainStep_of_not_draining {s : State} {l : Nat} (h : (s.link l).state ≠ 4) : s.drainStep l = s := by
  simp [State.drainStep, h]

theorem State.drainStep_of_held {s : State} {l : Nat} (h : (s.link l).held ≠ []) : s.drainStep l = s := by
  simp [State.drainStep, h]

/-- What a link has received, apart from the steps of a drain. -/
def LinkB.received (x : LinkB) : LinkB :=
  { x with state := 0, doneSent := false, donePeer := false, retrained := false, chans := [] }

theorem State.received_drainStep (s : State) (l : Nat) : ((s.drainStep l).link l).received = (s.link l).received := by
  obtain ⟨c, bl, c1, c0, hsend⟩ := s.sendLctl_eq l 4 []
  have htold : (((if (s.link l).doneSent then s else (s.sendLctl l 4 []).modLink l fun y => { y with doneSent := true }).link
      l).received = (s.link l).received) := by
    split
    · rfl
    · rw [hsend, State.link_modLink, State.link_send, State.link_modLink]
      rfl
  unfold State.drainStep
  dsimp only
  split
  · rfl
  · split
    · rw [State.link_modLink]
      exact htold
    · exact htold

/-! ## A link goes down (R333, R335, R336) -/

/-- A link as it is when it has gone down for a cause. -/
def LinkB.downed (x : LinkB) (cause now : Nat) : LinkB :=
  { x with
    state := 0, cause := cause, phase := 0, held := [], egress := [], cut := false, credits := noCredits, nak := none
    recalAsked := false, recalSoft := false, doneSent := false, donePeer := false, retrained := false, gotInit := false
    gotAck := false, downAt := now, report := none }

/-- R336, R354: packets that take their alternates leave a link that is not up as it is. -/
theorem State.link_forwardAll {l : Nat} (es : List (FabPacket × Nat)) {t : State} (hdown : t.linkUp l = false) :
    (es.foldl (fun t p => (t.fabForward p.1 true false).getD t) t).link l = t.link l := by
  induction es generalizing t with
  | nil => rfl
  | cons e es ih =>
    have hone : ((t.fabForward e.1 true false).getD t).link l = t.link l := by
      unfold State.fabForward
      split
      · rfl
      next k alt hk =>
        have hup : t.linkUp k = true := by
          unfold State.fabLookup at hk
          dsimp only at hk
          split at hk
          · cases hk
          · split at hk
            next l' hfind =>
              cases hk
              exact List.find?_some hfind
            · cases hk
        have hne : l ≠ k := by
          rintro rfl
          rw [hup] at hdown
          cases hdown
        simp only [Bool.true_or, if_true, Option.getD_some]
        exact t.link_modLink_ne _ _ _ hne
    rw [List.foldl_cons, ih (by rw [State.linkUp, hone]; exact hdown), hone]

theorem forwardAll_effect (es : List (FabPacket × Nat)) (t : State) :
    Effect [.regs, .links] t (es.foldl (fun t p => (t.fabForward p.1 true false).getD t) t) :=
  Effect.foldl (fun t p => Effect.getD (State.fabForward_effect t p.1 true false) (.refl ..)) (.refl ..)

theorem State.link_linkDown {s : State} {l cause : Nat} (h : ¬((s.link l).state = 0 ∧ (s.link l).cause = cause)) :
    (s.linkDown l cause).link l = (s.link l).downed cause s.now := by
  unfold State.linkDown
  dsimp only
  rw [if_neg h]
  rw [(State.mgmtDone_effect ..).link_eq rfl, (State.postDie_effect ..).link_eq rfl, (State.linkReport_effect ..).link_eq rfl,
    State.link_forwardAll, State.link_modLink]
  · rfl
  · simp [State.linkUp]

/-- R350: a link that has gone down for a cause is in state 0 with that cause. -/
theorem State.linkDown_status (s : State) (l cause : Nat) :
    ((s.linkDown l cause).link l).state = 0 ∧ ((s.linkDown l cause).link l).cause = cause := by
  by_cases h : (s.link l).state = 0 ∧ (s.link l).cause = cause
  · simp [State.linkDown, h]
  · rw [State.link_linkDown h]
    exact ⟨rfl, rfl⟩

end Sys2Proof.Machine

/-! Received flits and the timers of a link (O30). -/
namespace Sys2Proof.Machine

/-! ## Flits that are held (R328, R330, R331) -/

/-- R328: DATA flits that leave again leave their link but for its returned credits. -/
theorem State.link_sendData (l : Nat) (hs : List HeldFlit) (t : State) :
    ∃ c, (hs.foldl (fun t h => t.sendData l h) t).link l = { t.link l with chans := c } := by
  induction hs generalizing t with
  | nil => exact ⟨(t.link l).chans, rfl⟩
  | cons h hs ih =>
    obtain ⟨c, _, _, _, hsend⟩ := t.sendFlit_eq l 0 h.seq h.next h.cells
    obtain ⟨d, hall⟩ := ih (t.sendData l h)
    exact ⟨d, by rw [List.foldl_cons, hall, State.sendData, hsend, State.link_send, State.link_modLink]⟩

/-- The flits of a link as they are when they have been sent again. -/
def LinkB.resent (x : LinkB) (now : Nat) : List HeldFlit :=
  x.held.map fun h => { h with sent := now, replays := h.replays + 1 }

/-- The times of the last 1 ms at which a link replayed. -/
def LinkB.recent (x : LinkB) (now : Nat) : List Nat := x.replayTimes.filter fun t => decide (now < t + 1000000)

/-- The state in which a replay sends every flit held. -/
def State.resending (s : State) (l : Nat) : State :=
  let t := s.modLink l fun x => { x with
    replayTimes := (s.link l).recent s.now ++ [s.now], progress := s.now, held := x.resent s.now }
  (t.orReg .linkErr l 8).setRegN .linkReplayCount l ((t.regN .linkReplayCount l + 2 ^ 32) % 2 ^ 64)

/-- R330, R331: a replay that converges sends every flit held again and leaves the link's state. -/
theorem State.replay_converges {s : State} {l : Nat}
    (hheld : (s.link l).held.any (fun h => decide (max 1 (fld (s.regN .linkCfg l) 19 16) ≤ h.replays + 1)) = false)
    (htimes : ((s.link l).recent s.now).length + 1 < max 1 (fld (s.regN .linkCfg l) 31 24)) :
    ((s.replay l).link l).state = (s.link l).state ∧ ((s.replay l).link l).held = (s.link l).resent s.now := by
  obtain ⟨c, hall⟩ := State.link_sendData l ((s.resending l).link l).held (s.resending l)
  set t := ((s.resending l).link l).held.foldl (fun t h => t.sendData l h) (s.resending l) with ht
  have hsent : (t.link l).held = (s.link l).resent s.now := by
    rw [hall]
    simp [State.resending]
  have hreplay : s.replay l = if (t.link l).held.any (fun h => decide (max 1 (fld (s.regN .linkCfg l) 19 16) ≤ h.replays)) = true ∨
      max 1 (fld (s.regN .linkCfg l) 31 24) ≤ ((s.link l).recent s.now ++ [s.now]).length then t.linkDown l 6 else t := rfl
  have hconv : ((s.link l).resent s.now).any (fun h => decide (max 1 (fld (s.regN .linkCfg l) 19 16) ≤ h.replays)) = false := by
    rw [LinkB.resent, List.any_map]
    exact hheld
  rw [hreplay, hsent, hconv, if_neg (by simpa using htimes)]
  refine ⟨?_, hsent⟩
  rw [hall]
  simp [State.resending]

/-- R329: a DATA flit in order goes on. -/
theorem State.dataFlit_next {s : State} {l seq : Nat} (h : seq = (s.link l).expect) (packets : List FabPacket)
    (more : Bool) : s.dataFlit l seq packets more = s.modLink l fun x => { x with
      expect := (x.expect + 1) % 4096, rx := x.rx ++ packets, cut := more, nak := none } := by
  have hd : (seq + 4096 - (s.link l).expect) % 4096 = 0 := by omega
  rw [State.dataFlit, if_pos hd]

/-! ## Partners (R335, R365) -/

theorem self_mem_ninsert (d : Nat) (ds : List Nat) : (ninsert d ds).contains d = true := by
  induction ds with
  | nil => simp [ninsert]
  | cons e ds ih =>
    unfold ninsert
    split
    · simp
    · split
      next h => simp [h]
      · simpa using Or.inr (by simpa using ih)

theorem State.deviceAbsent_absent (s : State) (d : Nat) : (s.deviceAbsent d).absentDevs.contains d = true := by
  unfold State.deviceAbsent
  split
  next h => exact h
  next h =>
    have hin : (({ s with absentDevs := ninsert d s.absentDevs }.send (.flood 1 d)).event 5 d 1).absentDevs.contains d = true := by
      rw [(State.event_effect ..).1 .absentDevs rfl]
      exact self_mem_ninsert d s.absentDevs
    dsimp only
    split
    · rw [(State.endAll_effect ..).1 .absentDevs rfl]
      exact hin
    · rw [(State.endSubject_effect ..).1 .absentDevs rfl]
      exact hin

/-- Settles O30: a good flit is its header and its body, then a drain's step where the link drains; what each body does to the
link is said above it. -/
theorem flitsComplete : Obligations.FlitsComplete := by
  refine ⟨fun l f s c hc hr hcrc => ?bad, fun l f s hr hs hcrc => ?idle, fun l f packets more s hst hcrc hseq => ?data,
    fun l f s x hr hcrc hx hne hheld htimes => ?nak, fun l s n hnak => ?repeated, fun l s h q hq hheld htimes => ?timeout,
    fun l s hbeat => ?send, fun l f i state s hr hcrc hpeer hst => ?beat, fun l f i state s hr hcrc hv hboot => ?changed,
    fun l s hst hbeat => ?silent, fun l s hst => ?signal, fun l f cause s hr hcrc => ?goodbye, fun l f x s hr hcrc => ?time⟩
  case bad =>
    simp only [List.mem_cons, List.not_mem_nil, or_false] at hc
    rcases hc with rfl | rfl | rfl | rfl | rfl | rfl | rfl | rfl | rfl
    exacts [(flitRun_bad hr hcrc _ : execFlitIdle .. = _), (flitRun_bad hr hcrc _ : execFlitData .. = _),
      (flitRun_bad hr hcrc _ : execFlitNak .. = _), (flitRun_bad hr hcrc _ : execFlitHeartbeat .. = _),
      (flitRun_bad hr hcrc _ : execLctlInit .. = _), (flitRun_bad hr hcrc _ : execLctlInitAck .. = _),
      (flitRun_bad hr hcrc _ : execLctlDrain .. = _), (flitRun_bad hr hcrc _ : execLctlDrainDone .. = _),
      (flitRun_bad hr hcrc _ : execLctlGoodbye .. = _)]
  case idle =>
    refine ⟨_, (flitRun_good hr hcrc _ : execFlitIdle .. = _), ?_⟩
    rw [State.drainStep_of_not_draining] <;> simp [hs]
  case data =>
    refine ⟨_, (flitRun_good (.inr hst) hcrc _ : execFlitData .. = _), ?_⟩
    have hbody : (if ((s.taken l.val f).link l.val).state < 2 then s.taken l.val f
        else (s.taken l.val f).dataFlit l.val f.seq.val packets more) = (s.taken l.val f).modLink l.val fun x => { x with
          expect := (x.expect + 1) % 4096, rx := x.rx ++ packets, cut := more, nak := none } := by
      rw [if_neg (by simpa using Nat.not_lt.mpr hst), State.dataFlit_next (by simpa using hseq)]
    have hrec := State.received_drainStep ((s.taken l.val f).modLink l.val fun x => { x with
          expect := (x.expect + 1) % 4096, rx := x.rx ++ packets, cut := more, nak := none }) l.val
    rw [State.link_modLink, State.link_taken] at hrec
    rw [hbody]
    refine ⟨(congrArg LinkB.expect hrec :).trans ?_, (congrArg LinkB.rx hrec :).trans ?_, (congrArg LinkB.nak hrec :),
      (congrArg LinkB.cut hrec :)⟩
    · simp [LinkB.received]
    · simp [LinkB.received]
  case nak =>
    refine ⟨_, (flitRun_good hr hcrc _ : execFlitNak .. = _), ?_⟩
    subst hx
    obtain ⟨hstate, hresent⟩ := State.replay_converges (s := s.taken l.val f) (l := l.val)
      (by rw [State.link_taken]; exact hheld) (by rw [State.link_taken]; exact htimes)
    rw [State.link_taken] at hresent hstate
    rw [if_neg (by simpa using hne), State.drainStep_of_held (by rw [hresent]; simpa [LinkB.resent] using hne)]
    exact ⟨hstate.trans (LinkB.take_state ..), hresent⟩
  case repeated =>
    obtain ⟨c, bl, c1, c0, hsend⟩ := ((s.reach (n + 1000)).modLink l.val fun x => { x with nak := some (s.reach (n + 1000)).now
      }).sendCtl_eq l.val 2 []
    refine ⟨(s.reach (n + 1000)).sendNak l.val, by show execNakRepeatTimer l s = _; rw [execNakRepeatTimer, hnak], ?_⟩
    rw [State.sendNak, hsend]
    refine ⟨by simp, ?_, bl, c1, c0, by simp [State.send, LinkB.ack]⟩
    exact le_max_right ..
  case timeout =>
    set tmo := max 1 (fld (s.regN .linkCfg l.val) 15 8) * 100 with htmo
    have hexec : exec (.replayTimeout l) s = .next ((s.reach (max h.sent (s.link l.val).progress + tmo)).replay l.val) := by
      show execReplayTimeout l s = _
      rw [execReplayTimeout, hq]
      rfl
    have hfew : ((s.link l.val).recent (s.reach (max h.sent (s.link l.val).progress + tmo)).now).length ≤ (s.link l.val).replayTimes.length :=
      List.length_filter_le ..
    obtain ⟨hstate, hresent⟩ := State.replay_converges (s := s.reach (max h.sent (s.link l.val).progress + tmo)) (l := l.val) hheld
      (Nat.lt_of_le_of_lt (Nat.add_le_add_right hfew 1) htimes)
    have hnow : ((s.reach (max h.sent (s.link l.val).progress + tmo)).replay l.val).now = max s.now (max h.sent (s.link l.val).progress + tmo) :=
      (State.replay_effect ..).now_eq rfl
    refine ⟨_, hexec, hstate, ?_, ?_⟩
    · rw [hnow, hresent]
      rfl
    · rw [hnow]
      omega
  case send =>
    obtain ⟨c, bl, c1, c0, hsend⟩ := s.sendCtl_eq l.val 3 (s.heartbeat l.val)
    refine ⟨_, bl, c1, c0, whenReady_of hbeat .., ?_⟩
    rw [hsend]
    exact ⟨rfl, rfl⟩
  case beat =>
    obtain ⟨hdev, hlink, hb⟩ := hpeer
    refine ⟨_, (flitRun_good hr hcrc _ : execFlitHeartbeat .. = _), ?_⟩
    have hknown : ¬(((s.taken l.val f).link l.val).peerValid = true ∧ (((s.taken l.val f).link l.val).peerDev ≠ i.device.toNat ∨
        ((s.taken l.val f).link l.val).peerLink ≠ i.link.val ∨ ((s.taken l.val f).link l.val).peerBoot ≠ i.bootCount.toNat)) := by
      simp [hdev, hlink, hb]
    dsimp only
    rw [if_neg hknown, State.drainStep_of_not_draining (by simpa using hst)]
    simp [State.taken]
  case changed =>
    refine ⟨_, (flitRun_good hr hcrc _ : execFlitHeartbeat .. = _), ?_⟩
    have hother : ((s.taken l.val f).link l.val).peerValid = true ∧ (((s.taken l.val f).link l.val).peerDev ≠ i.device.toNat ∨
        ((s.taken l.val f).link l.val).peerLink ≠ i.link.val ∨ ((s.taken l.val f).link l.val).peerBoot ≠ i.bootCount.toNat) := by
      simp [hv, hboot]
    have hdown := (s.taken l.val f).linkDown_status l.val 3
    dsimp only
    rw [if_pos hother, State.drainStep_of_not_draining (by rw [hdown.1]; decide)]
    exact hdown
  case silent =>
    refine ⟨_, whenReady_of (by simp [hst, hbeat]) .., ?_⟩
    obtain ⟨hstate, hcause⟩ := (s.reach ((s.link l.val).lastBeat + 4000)).linkDown_status l.val 2
    refine ⟨hstate, hcause, ?_⟩
    rw [(State.linkDown_effect ..).now_eq rfl]
    exact le_max_right ..
  case signal =>
    refine ⟨_, whenReady_of (by simpa using hst) .., ?_⟩
    rw [State.link_linkDown (fun h => hst h.1)]
    exact ⟨rfl, rfl, rfl, rfl⟩
  case goodbye =>
    have hdown := (s.taken l.val f).linkDown_status l.val 4
    set t := (s.taken l.val f).linkDown l.val 4 with ht
    set u := (if (((s.taken l.val f).link l.val).peerValid && !t.absentDevs.contains ((s.taken l.val f).link l.val).peerDev) = true
      then (t.deviceAbsent ((s.taken l.val f).link l.val).peerDev).postDie 0x44 (96 + l.val / 6) ((s.taken l.val f).link l.val).peerDev
      else t) with hu
    have hlink : u.link l.val = t.link l.val := by
      rw [hu]
      split
      · rw [(State.postDie_effect ..).link_eq rfl, (State.deviceAbsent_effect ..).link_eq rfl]
      · rfl
    refine ⟨_, (flitRun_good hr hcrc _ : execLctlGoodbye .. = _), ?_⟩
    show (((u.drainStep l.val).link l.val).state = 0 ∧ ((u.drainStep l.val).link l.val).cause = 4 ∧
      ((s.link l.val).peerValid = true → (u.drainStep l.val).absentDevs.contains (s.link l.val).peerDev = true))
    rw [State.drainStep_of_not_draining (by rw [hlink, hdown.1]; decide), hlink]
    refine ⟨hdown.1, hdown.2, fun hv => ?_⟩
    rw [hu]
    split
    next =>
      rw [(State.postDie_effect ..).1 .absentDevs rfl, State.link_taken, LinkB.take_peerDev]
      exact State.deviceAbsent_absent ..
    next hno => simpa [hv] using hno
  case time =>
    have hrec := State.received_drainStep (((s.taken l.val f).modLink l.val fun y => { y with
      peerTx := x.txTime, peerRx := x.arrived, report := some (x.root.toNat, x.dist.toNat, x.errNs.toNat) }).followTime l.val
        ((((x.peerRx : Int) - x.peerTx) - ((x.arrived : Int) - x.txTime)) / 2)) l.val
    rw [(State.followTime_effect ..).link_eq rfl, State.link_modLink] at hrec
    exact ⟨_, (flitRun_good hr hcrc _ : execFlitTime .. = _), (congrArg LinkB.report hrec :), (congrArg LinkB.peerTx hrec :), (congrArg LinkB.peerRx hrec :)⟩

end Sys2Proof.Machine

/-! What the training, the meeting of a partner and a drain leave of a link. -/
namespace Sys2Proof.Machine

/-! ## What the reports of a link leave as it is (R350, R351, R387) -/

/-- R387, R393: an event that is neither THERMAL nor ERROR_RECORD sends nothing to the management. -/
theorem State.sent_event (s : State) {kind : Nat} (hthermal : kind ≠ 2) (herror : kind ≠ 3) (d0 d1 : Nat) :
    (s.event kind d0 d1).sent = s.sent := by
  rw [State.event, State.mirror, if_neg (by omega)]
  exact ((State.doorEvent_effect ..).sent_eq rfl).trans ((State.doorEvent_effect ..).sent_eq rfl)

theorem State.sent_linkReport (s : State) (l bit : Nat) : (s.linkReport l bit).sent = s.sent :=
  State.sent_event _ (by decide) (by decide) ..

theorem State.link_linkReport (s : State) (l bit k : Nat) : (s.linkReport l bit).link k = s.link k :=
  (State.linkReport_effect ..).link_eq rfl k

/-- R351: a report sets its bit. -/
theorem State.bitOf_linkReport (s : State) {l bit : Nat} (hbit : bit < 64) :
    bitOf ((s.linkReport l bit).regN .linkErr l) bit = true := by
  have hreg : (s.linkReport l bit).reg .linkErr l = (s.orReg .linkErr l (2 ^ bit)).reg .linkErr l := State.reg_event (by decide) ..
  rw [show (s.linkReport l bit).regN .linkErr l = (s.orReg .linkErr l (2 ^ bit)).regN .linkErr l from congrArg BitVec.toNat hreg]
  exact s.bitOf_orReg .linkErr l hbit

/-! ## LINKCTL flits (R338) -/

/-- R338: a LINKCTL flit leaves its link but for its returned credits, and its bytes. -/
theorem State.sendLctl_spec (s : State) (l kind : Nat) (rest : List Byte) : ∃ c bl c1 c0,
    (s.sendLctl l kind rest).link l = { s.link l with chans := c } ∧
      (s.sendLctl l kind rest).sent = s.sent ++ [.flit l (flitBytes 5 0 (s.link l).ack bl c1 c0 15 (toBytes 1 kind ++ rest))] := by
  obtain ⟨c, bl, c1, c0, hsend⟩ := s.sendLctl_eq l kind rest
  refine ⟨c, bl, c1, c0, ?_, ?_⟩
  · rw [hsend, State.link_send, State.link_modLink]
  · rw [hsend]
    rfl

/-! ## A drain's step (R340) -/

/-- R340: the state in which a link has told its partner that it is drained. -/
def State.drainTold (s : State) (l : Nat) : State :=
  if (s.link l).doneSent then s else (s.sendLctl l 4 []).modLink l fun y => { y with doneSent := true }

theorem State.link_drainTold (s : State) (l : Nat) : ∃ c, (s.drainTold l).link l = { s.link l with doneSent := true, chans := c } := by
  unfold State.drainTold
  split
  next h => exact ⟨(s.link l).chans, by rw [← h]⟩
  next h =>
    obtain ⟨c, _, _, _, hlink, -⟩ := s.sendLctl_spec l 4 []
    exact ⟨c, by rw [State.link_modLink, hlink]⟩

theorem State.drainStep_of_drained {s : State} {l : Nat} (hstate : (s.link l).state = 4) (hheld : (s.link l).held = []) :
    s.drainStep l = if (s.link l).donePeer then (s.drainTold l).modLink l fun y => { y with
      state := 5, doneSent := false, donePeer := false, retrained := false } else s.drainTold l := by
  rw [State.drainStep, if_neg (by simp [hstate, hheld])]
  rfl

/-! ## Partners met (R338, R340) -/

/-- R337, R338: with INIT and INIT_ACK a link in training is READY in a new epoch. -/
theorem State.link_initDone {s : State} {l : Nat} (hgot : (s.link l).gotInit = true ∧ (s.link l).gotAck = true)
    (hstate : (s.link l).state ≠ 5) :
    (s.initDone l).link l = { s.link l with epoch := ((s.link l).epoch + 1) % 2 ^ 16, state := 2, phase := 5, cause := 0 } := by
  obtain ⟨hinit, hack⟩ := hgot
  rw [State.initDone, if_neg (by simp [hinit, hack]), if_neg hstate, State.link_linkReport, State.link_modLink, State.link_modLink]

theorem State.initDone_of_not_met {s : State} {l : Nat} (h : ((s.link l).gotInit && (s.link l).gotAck) = false) :
    s.initDone l = s := by
  rw [State.initDone, if_pos (by simp [h])]

/-- A link that has met its partner, apart from its replay and its credits. -/
def LinkB.met (x : LinkB) (i : LinkInit) (now : Nat) : LinkB :=
  { x.restart with
    peerValid := true, peerDev := i.device.toNat, peerLink := i.link.val, peerBoot := i.bootCount.toNat, beats := 0, lastBeat := now }

theorem State.link_meetPeer (s : State) (l : Nat) (i : LinkInit) : (s.meetPeer l i).link l = (s.link l).met i s.now :=
  s.link_modLink ..

section
variable {s : State} {l : LinkIx} {f : FlitHead} {i : LinkInit} (hcrc : f.crcOk = true)
  (hphase : (s.link l.val).state = 1 ∧ (s.link l.val).phase = 4) (hpeer : i.device ≠ s.devId ∧ i.version = 1)
include hcrc hphase hpeer

theorem execLctlInit_training : execLctlInit l f i s = .next
    (((((((s.taken l.val f).meetPeer l.val i).modLink l.val fun x => { x with gotInit := true }).initDone l.val).sendLctl l.val 2
      ((s.taken l.val f).linkSelf l.val))).drainStep l.val) := by
  obtain ⟨hstate, hph⟩ := hphase
  obtain ⟨hdev, hversion⟩ := hpeer
  have hinit : ((s.taken l.val f).link l.val).initialising = true := by simp [LinkB.initialising, hstate, hph]
  have hpartner : (s.taken l.val f).badPartner i = false := by
    simpa [State.badPartner, hversion, State.taken] using hdev
  refine (flitRun_good (.inl (Nat.le_of_eq hph.symm)) hcrc _).trans ?_
  simp only [hinit, hpartner, Bool.not_true, Bool.false_eq_true, if_false]

theorem execLctlInitAck_training : execLctlInitAck l f i s = .next
    (((((s.taken l.val f).meetPeer l.val i).modLink l.val fun x => { x with gotAck := true }).initDone l.val).drainStep l.val) := by
  obtain ⟨hstate, hph⟩ := hphase
  obtain ⟨hdev, hversion⟩ := hpeer
  have hinit : ((s.taken l.val f).link l.val).initialising = true := by simp [LinkB.initialising, hstate, hph]
  have hpartner : (s.taken l.val f).badPartner i = false := by
    simpa [State.badPartner, hversion, State.taken] using hdev
  refine (flitRun_good (.inl (Nat.le_of_eq hph.symm)) hcrc _).trans ?_
  simp only [hinit, hpartner, Bool.not_true, Bool.false_eq_true, if_false]

end

theorem State.linkSelf_taken (s : State) (l : Nat) (f : FlitHead) : (s.taken l f).linkSelf l = s.linkSelf l := by
  simp only [State.linkSelf, State.link_taken, LinkB.take_state, LinkB.take_epoch]
  rfl

/-! ## Recalibration (R339, R340) -/

/-- R340: a link as it is when its drain begins. -/
def LinkB.draining (x : LinkB) : LinkB :=
  { x with state := 4, egress := [], recalAsked := false, retrained := false, doneSent := false }

/-- R340: the state in which the drain of a link has been told to the partner. -/
def State.drainBegun (s : State) (l : Nat) : State :=
  ((s.link l).egress.foldl (fun t p => (t.fabForward p.1 true false).getD t) (s.modLink l LinkB.draining)).sendLctl l 3
    (toBytes 1 (b2n (s.link l).recalSoft))

theorem State.drainBegun_spec (s : State) (l : Nat) : ∃ c bl c1 c0,
    (s.drainBegun l).link l = { (s.link l).draining with chans := c } ∧ (s.drainBegun l).sent = s.sent ++
      [.flit l (flitBytes 5 0 (s.link l).ack bl c1 c0 15 (toBytes 1 3 ++ toBytes 1 (b2n (s.link l).recalSoft)))] := by
  set t := (s.link l).egress.foldl (fun t p => (t.fabForward p.1 true false).getD t) (s.modLink l LinkB.draining) with ht
  have hlink : t.link l = (s.link l).draining := by
    rw [ht, State.link_forwardAll _ (by simp [State.linkUp, LinkB.draining]), State.link_modLink]
  have hsent : t.sent = s.sent := (forwardAll_effect ..).sent_eq rfl
  obtain ⟨c, bl, c1, c0, hl, hs⟩ := t.sendLctl_spec l 3 (toBytes 1 (b2n (s.link l).recalSoft))
  rw [hlink] at hl hs
  rw [hsent] at hs
  exact ⟨c, bl, c1, c0, hl, hs⟩

end Sys2Proof.Machine

/-! A link trains, meets its partner, is admitted and recalibrates (O31). -/
namespace Sys2Proof.Machine

/-- R336, R354: packets that take their alternates move no register but the count of those dropped. -/
theorem State.reg_forwardAll {n : RegName} (hdrop : n ≠ .fabDropCount) (es : List (FabPacket × Nat)) (t : State) (i : Nat) :
    (es.foldl (fun t p => (t.fabForward p.1 true false).getD t) t).reg n i = t.reg n i := by
  induction es generalizing t with
  | nil => rfl
  | cons e es ih =>
    rw [List.foldl_cons, ih]
    unfold State.fabForward
    split
    · exact t.reg_bumpReg_name hdrop ..
    · rfl

theorem State.reg_linkReport {n : RegName} (hreport : reportRegs.contains n = false) (herr : n ≠ .linkErr) (s : State) (l bit i : Nat) :
    (s.linkReport l bit).reg n i = s.reg n i :=
  (State.reg_event hreport ..).trans (s.reg_orReg_name herr ..)

/-- R336: a link that goes down moves no register but its error bits, the count of dropped packets and those of reports. -/
theorem State.reg_linkDown {n : RegName} (hreport : reportRegs.contains n = false) (herr : n ≠ .linkErr) (hdrop : n ≠ .fabDropCount)
    (s : State) (l cause i : Nat) : (s.linkDown l cause).reg n i = s.reg n i := by
  unfold State.linkDown
  dsimp only
  split
  · rfl
  · rw [State.reg_mgmtDone hreport, State.reg_postDie hreport, State.reg_linkReport hreport herr,
      State.reg_forwardAll hdrop, State.reg_modLink]

theorem execLinkTraining_ready {l : LinkIx} {s : State} (hmay : s.linkMayTrain l.val = true)
    (hrun : s.restarting 5 (l.val / 6) = false) (ok : Bool) : execLinkTraining l ok s = .next (
      if (s.link l.val).state = 0 ∧ (s.link l.val).cause = 0 then (if ok then s.trainStart l.val else s)
      else if (s.link l.val).state = 1 ∧ 1 ≤ (s.link l.val).phase ∧ (s.link l.val).phase ≤ 3 then
        (if !ok then s.trainFails l.val
         else
           let t := s.modLink l.val fun x => { x with phase := x.phase + 1 }
           if (s.link l.val).phase = 3 then t.sendLctl l.val 1 (t.linkSelf l.val) else t)
      else if (s.link l.val).state = 1 ∧ (s.link l.val).phase = 4 then (if ok then s else s.trainFails l.val)
      else if (s.link l.val).state = 2 ∧ (s.link l.val).phase = 5 then
        (if ok && decide (4 ≤ (s.link l.val).beats) then s.modLink l.val fun x => { x with phase := 0, failed := 0 }
         else if ok then s else s.trainFails l.val)
      else s) := by
  simp only [execLinkTraining, hmay, hrun, Bool.not_true, Bool.or_self, Bool.false_eq_true, if_false]

/-- R338: what a link holds of the partner whose INIT or INIT_ACK it takes. -/
theorem State.link_meetPeer_taken (s : State) (l : Nat) (f : FlitHead) (i : LinkInit) (g : LinkB → LinkB) :
    (((s.taken l f).meetPeer l i).modLink l g).link l = g (((s.link l).take f s.now).met i s.now) := by
  rw [State.link_modLink, State.link_meetPeer, State.link_taken]
  rfl

/-- R337: a phase of the training that ends well, the third with INIT sent. -/
theorem execLinkTraining_phase {l : LinkIx} {s : State} (hmay : s.linkMayTrain l.val = true) (hrun : s.restarting 5 (l.val / 6) = false)
    (hstate : (s.link l.val).state = 1) (hphase : 1 ≤ (s.link l.val).phase ∧ (s.link l.val).phase ≤ 3) :
    ∃ t, execLinkTraining l true s = .next t ∧ (t.link l.val).state = 1 ∧ (t.link l.val).phase = (s.link l.val).phase + 1 ∧
      ((s.link l.val).phase = 3 → ∃ bl c1 c0, t.sent = s.sent ++
        [.flit l.val (flitBytes 5 0 (s.link l.val).ack bl c1 c0 15 (toBytes 1 1 ++ s.linkSelf l.val))]) := by
  refine ⟨_, execLinkTraining_ready hmay hrun true, ?_⟩
  rw [if_neg (by omega), if_pos ⟨hstate, hphase⟩]
  set t := s.modLink l.val fun x => { x with phase := x.phase + 1 } with ht
  have hlink : t.link l.val = { s.link l.val with phase := (s.link l.val).phase + 1 } := s.link_modLink ..
  have hself : t.linkSelf l.val = s.linkSelf l.val := by simp [State.linkSelf, ht]
  by_cases h3 : (s.link l.val).phase = 3
  · obtain ⟨c, bl, c1, c0, hl, hs⟩ := t.sendLctl_spec l.val 1 (s.linkSelf l.val)
    rw [hlink] at hl hs
    simp only [Bool.not_true, Bool.false_eq_true, if_false, if_pos h3, hself]
    rw [hl]
    exact ⟨hstate, rfl, fun _ => ⟨bl, c1, c0, hs⟩⟩
  · simp only [Bool.not_true, Bool.false_eq_true, if_false, if_neg h3]
    rw [hlink]
    exact ⟨hstate, rfl, fun h => absurd h h3⟩

/-- R337: a phase that fails is a failure of the training. -/
theorem execLinkTraining_fails {l : LinkIx} {s : State} (hmay : s.linkMayTrain l.val = true) (hrun : s.restarting 5 (l.val / 6) = false)
    (hin : (s.link l.val).state = 1 ∧ 1 ≤ (s.link l.val).phase ∧ (s.link l.val).phase ≤ 4) :
    execLinkTraining l false s = .next (s.trainFails l.val) := by
  obtain ⟨hstate, hphase, hlast⟩ := hin
  rw [execLinkTraining_ready hmay hrun, if_neg (by omega)]
  by_cases h3 : (s.link l.val).phase ≤ 3
  · rw [if_pos ⟨hstate, hphase, h3⟩]
    rfl
  · rw [if_neg (by omega), if_pos (by omega)]
    rfl

/-! ## Corrected and uncorrected flits, and drains (R335, R339) -/

/-- R335: LINK_FEC_COUNT with these errors added. -/
def State.fecCount (s : State) (l corrected uncorrected : Nat) : Nat :=
  (s.regN .linkFecCount l / 2 ^ 32 + uncorrected) % 2 ^ 32 * 2 ^ 32 + (s.regN .linkFecCount l % 2 ^ 32 + corrected) % 2 ^ 32

/-- R335: a link's errors are counted, and those that its code could not correct are reported. -/
def State.fecCounted (s : State) (l corrected uncorrected : Nat) : State :=
  if 0 < uncorrected then (s.setRegN .linkFecCount l (s.fecCount l corrected uncorrected)).linkReport l 1
  else s.setRegN .linkFecCount l (s.fecCount l corrected uncorrected)

theorem State.link_fecCounted (s : State) (l corrected uncorrected : Nat) : (s.fecCounted l corrected uncorrected).link l = s.link l := by
  unfold State.fecCounted
  split
  · exact State.link_linkReport ..
  · rfl

theorem State.regN_fecCounted (s : State) (l corrected uncorrected : Nat) :
    (s.fecCounted l corrected uncorrected).regN .linkFecCount l = s.fecCount l corrected uncorrected := by
  have hset : (s.setRegN .linkFecCount l (s.fecCount l corrected uncorrected)).regN .linkFecCount l = s.fecCount l corrected uncorrected :=
    s.regN_setRegN _ _ _ (by unfold State.fecCount; omega)
  unfold State.fecCounted
  split
  · exact (congrArg BitVec.toNat (State.reg_linkReport (by decide) (by decide) ..)).trans hset
  · exact hset

/-- R339: a link with too many corrected errors asks for a recalibration. -/
theorem execLinkRecalRequest_asks {l : LinkIx} {corrected uncorrected : Nat} {s : State} (hup : (s.link l.val).state = 3)
    (hmany : 2 ^ fld (s.regN .linkCfg l.val) 39 32 ≤ corrected) : execLinkRecalRequest l corrected uncorrected s =
      .next ((s.fecCounted l.val corrected uncorrected).modLink l.val fun x => { x with recalAsked := true }) := by
  have hask : (decide (2 ^ fld (s.regN .linkCfg l.val) 39 32 ≤ corrected) ||
      (decide (0 < uncorrected) && bitOf (s.regN .linkCfg l.val) 1)) = true := by simp [hmany]
  simp only [execLinkRecalRequest, hask, hup, BEq.rfl, Bool.and_self, if_true]
  rfl

/-- R339: what the grant of a recalibration leaves, by whether the link holds flits and has its partner's DRAIN_DONE. -/
theorem State.drainStep_drainBegun (s : State) (l : Nat) :
    (((s.drainBegun l).drainStep l).link l).egress = [] ∧
      ((s.link l).held ≠ [] → (((s.drainBegun l).drainStep l).link l).state = 4 ∧ ∃ bl c1 c0, ((s.drainBegun l).drainStep l).sent = s.sent ++
        [.flit l (flitBytes 5 0 (s.link l).ack bl c1 c0 15 (toBytes 1 3 ++ toBytes 1 (b2n (s.link l).recalSoft)))]) ∧
      ((s.link l).held = [] → (s.link l).donePeer = false →
        (((s.drainBegun l).drainStep l).link l).state = 4 ∧ (((s.drainBegun l).drainStep l).link l).doneSent = true) ∧
      ((s.link l).held = [] → (s.link l).donePeer = true → (((s.drainBegun l).drainStep l).link l).state = 5) := by
  obtain ⟨c, bl, c1, c0, hl, hs⟩ := s.drainBegun_spec l
  obtain ⟨d, htold⟩ := (s.drainBegun l).link_drainTold l
  have hstate : ((s.drainBegun l).link l).state = 4 := by rw [hl]; rfl
  have hheld : ((s.drainBegun l).link l).held = (s.link l).held := by rw [hl]; rfl
  have hpeer : ((s.drainBegun l).link l).donePeer = (s.link l).donePeer := by rw [hl]; rfl
  have hegress : ((s.drainBegun l).link l).egress = [] := by rw [hl]; rfl
  refine ⟨?_, fun hfull => ?_, fun hempty hno => ?_, fun hempty hyes => ?_⟩
  · by_cases hempty : (s.link l).held = []
    · rw [State.drainStep_of_drained hstate (hheld.trans hempty)]
      split
      · rw [State.link_modLink, htold]
        exact hegress
      · rw [htold]
        exact hegress
    · rw [State.drainStep_of_held (by rwa [hheld])]
      exact hegress
  · rw [State.drainStep_of_held (by rwa [hheld])]
    exact ⟨hstate, bl, c1, c0, hs⟩
  · rw [State.drainStep_of_drained hstate (hheld.trans hempty), if_neg (by rw [hpeer, hno]; decide), htold]
    exact ⟨hstate, rfl⟩
  · rw [State.drainStep_of_drained hstate (hheld.trans hempty), if_pos (hpeer.trans hyes), State.link_modLink]

/-- Settles O31: each command finds what it needs; the laws above say what the flit that it takes or sends, the meeting of the
partner and the drain leave of the link. -/
theorem linkStatesComplete : Obligations.LinkStatesComplete := by
  refine ⟨fun l s hmay hrun hidle => ?start, fun l s hmay hrun hst hph => ?phase, fun l s hmay hrun hin => ?fails,
    fun l s hmay hst => ?retrain, fun l f i s hcrc hin hpeer => ?init, fun l f i s hcrc hin hpeer => ?ack,
    fun l f i s c hcrc hph hpeer hc => ?met, fun who l s hw hst => ?admitted, fun who l s hw hst => ?ctrl,
    fun l corrected uncorrected s hst hmany hlt => ?request, fun l f reason s hcrc hst => ?drain,
    fun l s hasked hother hrun => ?grant, fun l f s hcrc hst hheld => ?done, fun l ok s hin => ?retrained,
    fun l s hin => ?resume, fun who l value s hw => ?cfg⟩
  case start =>
    refine ⟨_, execLinkTraining_ready hmay hrun true, ?_⟩
    rw [if_pos hidle]
    simp [State.trainStart]
  case phase => exact execLinkTraining_phase hmay hrun hst hph
  case fails =>
    refine ⟨_, execLinkTraining_fails hmay hrun hin, fun hfew => ?_, fun hmany => ?_⟩
    · rw [State.trainFails, if_pos (by omega)]
      simp
    · rw [State.trainFails, if_neg (by omega)]
      exact State.linkDown_status ..
  case retrain =>
    refine ⟨_, whenReady_of (by simp [hst, hmay]) .., ?_⟩
    simp only [State.trainStart, State.link_modLink, true_and]
    exact le_max_right ..
  case init =>
    obtain ⟨hst, hph, hack⟩ := hin
    set u := ((s.taken l.val f).meetPeer l.val i).modLink l.val fun x => { x with gotInit := true } with hu
    have hlink : u.link l.val = { ((s.link l.val).take f s.now).met i s.now with gotInit := true } :=
      s.link_meetPeer_taken ..
    have hnotmet : u.initDone l.val = u := State.initDone_of_not_met (by rw [hlink]; simp [LinkB.met, LinkB.restart, hack])
    have hsent : u.sent = s.sent := rfl
    obtain ⟨c, bl, c1, c0, hl, hs⟩ := u.sendLctl_spec l.val 2 (s.linkSelf l.val)
    refine ⟨_, (u.link l.val).ack, bl, c1, c0, execLctlInit_training hcrc ⟨hst, hph⟩ hpeer, ?_⟩
    rw [hnotmet, State.linkSelf_taken, State.drainStep_of_not_draining, hl, hs, hlink, hsent]
    · exact ⟨rfl, rfl, rfl, rfl, by simp [LinkB.met, LinkB.restart, hst], rfl⟩
    · rw [hl, hlink]
      simp [LinkB.met, LinkB.restart, hst]
  case ack =>
    obtain ⟨hst, hph, hinit⟩ := hin
    set u := ((s.taken l.val f).meetPeer l.val i).modLink l.val fun x => { x with gotAck := true } with hu
    have hlink : u.link l.val = { ((s.link l.val).take f s.now).met i s.now with gotAck := true } :=
      s.link_meetPeer_taken ..
    have hnotmet : u.initDone l.val = u := State.initDone_of_not_met (by rw [hlink]; simp [LinkB.met, LinkB.restart, hinit])
    have hstate : (u.link l.val).state = 1 := by
      rw [hlink]
      simp [LinkB.met, LinkB.restart, hst]
    refine ⟨_, execLctlInitAck_training hcrc ⟨hst, hph⟩ hpeer, ?_⟩
    rw [hnotmet, State.drainStep_of_not_draining (by rw [hstate]; decide)]
    refine ⟨?_, ?_, hstate, ?_, rfl⟩ <;> rw [hlink] <;> rfl
  case met =>
    obtain ⟨hst, hfour⟩ := hph
    obtain ⟨rfl, hgot⟩ | ⟨rfl, hgot⟩ := hc
    · set u := ((s.taken l.val f).meetPeer l.val i).modLink l.val fun x => { x with gotInit := true } with hu
      have hlink : u.link l.val = { ((s.link l.val).take f s.now).met i s.now with gotInit := true } :=
        s.link_meetPeer_taken ..
      have hdone := State.link_initDone (s := u) (l := l.val) (by rw [hlink]; simp [LinkB.met, LinkB.restart, hgot])
        (by rw [hlink]; simp [LinkB.met, LinkB.restart, hst])
      obtain ⟨c, _, _, _, hl, -⟩ := (u.initDone l.val).sendLctl_spec l.val 2 ((s.taken l.val f).linkSelf l.val)
      refine ⟨_, execLctlInit_training hcrc ⟨hst, hfour⟩ hpeer, ?_⟩
      rw [State.drainStep_of_not_draining (by rw [hl, hdone]; simp), hl, hdone, hlink]
      simp [LinkB.met, LinkB.restart]
    · set u := ((s.taken l.val f).meetPeer l.val i).modLink l.val fun x => { x with gotAck := true } with hu
      have hlink : u.link l.val = { ((s.link l.val).take f s.now).met i s.now with gotAck := true } :=
        s.link_meetPeer_taken ..
      have hdone := State.link_initDone (s := u) (l := l.val) (by rw [hlink]; simp [LinkB.met, LinkB.restart, hgot])
        (by rw [hlink]; simp [LinkB.met, LinkB.restart, hst])
      refine ⟨_, execLctlInitAck_training hcrc ⟨hst, hfour⟩ hpeer, ?_⟩
      rw [State.drainStep_of_not_draining (by rw [hdone]; simp), hdone, hlink]
      simp [LinkB.met, LinkB.restart]
  case admitted =>
    refine ⟨_, whenReady_of hw .., fun hok => ?_, fun hwho hcustom hwired => ?_⟩
    · rw [if_neg]
      · simp [State.linkAdmit, hst]
      · simp only [Bool.and_eq_true, beq_iff_eq, Bool.not_eq_true']
        rintro ⟨⟨⟨hwho, hcustom⟩, -⟩, hwired⟩
        obtain h | h | h := hok
        · exact h hwho
        · rw [h] at hcustom; cases hcustom
        · rw [h] at hwired; cases hwired
    · rw [if_pos (by simp [hwho, hcustom, hst, hwired])]
      exact ⟨hst, rfl⟩
  case ctrl => exact ⟨_, whenReady_of (by simp [hw, hst]) .., s.link_modLink ..⟩
  case request =>
    refine ⟨_, execLinkRecalRequest_asks hst hmany, by rw [State.link_modLink], ?_, ?_⟩ <;>
      rw [State.regN_modLink, State.regN_fecCounted, State.fecCount] <;> omega
  case drain =>
    refine ⟨_, (flitRun_good (.inr (by omega)) hcrc _ : execLctlDrain .. = _), ?_⟩
    rw [if_pos (by simpa using hst), State.drainStep_of_not_draining (by simp [hst])]
    simp [hst]
  case grant =>
    obtain ⟨hst, hask⟩ := hasked
    exact ⟨_, whenReady_of (by simp [hst, hask, hother, hrun]) .., s.drainStep_drainBegun l.val⟩
  case done =>
    set u := (s.taken l.val f).modLink l.val fun x => { x with donePeer := true } with hu
    have hlink : u.link l.val = { (s.link l.val).take f s.now with donePeer := true } := by rw [hu, State.link_modLink, State.link_taken]
    have hexec : execLctlDrainDone l f s = .next (u.drainStep l.val) := by
      refine (flitRun_good (.inr (by omega)) hcrc _).trans ?_
      rw [if_pos (by simp [hst])]
    refine ⟨_, hexec, ?_⟩
    rw [State.drainStep_of_drained (by rw [hlink]; simpa using hst) (by rw [hlink]; exact hheld), if_pos (by rw [hlink])]
    refine ⟨by rw [State.link_modLink], by rw [State.link_modLink], fun htold => ?_, fun hnew => ?_⟩
    · rw [State.drainTold, if_pos (by rw [hlink]; simpa using htold)]
      rfl
    · rw [State.drainTold, if_neg (by rw [hlink]; simpa using hnew)]
      obtain ⟨c, bl, c1, c0, -, hs⟩ := u.sendLctl_spec l.val 4 []
      exact ⟨_, bl, c1, c0, hs⟩
  case retrained =>
    obtain ⟨hst, hnew⟩ := hin
    refine ⟨_, whenReady_of (by simp [hst, hnew]) .., fun hok => ?_, fun hfail => ?_⟩
    · subst hok
      set u := s.modLink l.val fun x => { x.restart with retrained := true, gotInit := false, gotAck := false } with hu
      have hlink : u.link l.val = { (s.link l.val).restart with retrained := true, gotInit := false, gotAck := false } :=
        s.link_modLink ..
      obtain ⟨c, bl, c1, c0, hl, hs⟩ := u.sendLctl_spec l.val 1 (s.linkSelf l.val)
      rw [if_pos rfl, hl, hlink]
      exact ⟨hst, rfl, rfl, _, bl, c1, c0, hs⟩
    · subst hfail
      exact s.linkDown_status ..
  case resume =>
    obtain ⟨hst, hretrained, hinit, hack⟩ := hin
    refine ⟨_, whenReady_of (by simp [hst, hretrained, hinit, hack]) .., ?_⟩
    rw [(State.mgmtDone_effect ..).link_eq rfl, State.link_linkReport, State.link_modLink]
    refine ⟨rfl, rfl, ?_⟩
    rw [show State.regN (State.mgmtDone _ _ _ _) .linkErr l.val = _ from congrArg BitVec.toNat (State.reg_mgmtDone (by decide) ..)]
    exact State.bitOf_linkReport _ (by decide)
  case cfg =>
    refine ⟨_, whenReady_of hw .., ?_, fun hoff => ?_, fun hon => ?_⟩
    · unfold State.linkCfgWrite
      dsimp only
      split
      · exact s.reg_setReg ..
      · rw [State.reg_linkDown (by decide) (by decide) (by decide)]
        exact s.reg_setReg ..
    · rw [State.linkCfgWrite, hoff]
      exact State.linkDown_status ..
    · rw [State.linkCfgWrite, hon]
      rfl

end Sys2Proof.Machine

/-! The fabric: packets find their links, tables switch, absence is probed and time is kept (O32). -/
namespace Sys2Proof.Machine

/-- A key that a filter of keys leaves out is absent. -/
theorem tget_filter_key_out {α : Type} {p : Nat → Bool} {k : Nat} (h : p k = false) (t : Tab α) :
    tget k (t.filter fun c => p c.1) = none := by
  induction t with
  | nil => rfl
  | cons a t ih =>
    obtain ⟨j, w⟩ := a
    cases hp : p j with
    | false => simpa [List.filter, hp] using ih
    | true =>
      have hne : j ≠ k := by
        rintro rfl
        rw [h] at hp
        cases hp
      simpa [List.filter, hp, tget, hne] using ih

@[simp] theorem tget_tdel_same {α : Type} (k : Nat) (t : Tab α) : tget k (tdel k t) = none :=
  tget_filter_key_out (p := (· != k)) (by simp) t

theorem tget_tdel_ne {α : Type} {k j : Nat} (h : j ≠ k) (t : Tab α) : tget j (tdel k t) = tget j t :=
  tget_filter_key (· != k) j t (by simpa using h)

/-! ## Tables (R354, R355, R356) -/

/-- R355: entries change neither which bank is in use nor the count of its epochs. -/
theorem FabricB.setEntry_switch (f : FabricB) (k v : Nat) :
    (f.setEntry k v).active = f.active ∧ (f.setEntry k v).epoch = f.epoch := ⟨rfl, rfl⟩

/-- R355: entries filled in turn leave the bank in use and the count of its epochs. -/
theorem fillEntries_switch (own : Nat) (key value : Nat → Nat) (ks : List Nat) (s : State) :
    let t := ks.foldl (fun t k => if k = own then t else t.modFabric (·.setEntry (key k) (value k))) s
    t.fabric.active = s.fabric.active ∧ t.fabric.epoch = s.fabric.epoch := by
  induction ks generalizing s with
  | nil => exact ⟨rfl, rfl⟩
  | cons k ks ih =>
    obtain ⟨hactive, hepoch⟩ := ih (if k = own then s else s.modFabric (·.setEntry (key k) (value k)))
    refine ⟨hactive.trans ?_, hepoch.trans ?_⟩ <;> split <;> rfl

theorem State.fillBank_switch (s : State) (bank : Nat) (adjust : Bool) :
    (s.fillBank bank adjust).fabric.active = s.fabric.active ∧ (s.fillBank bank adjust).fabric.epoch = s.fabric.epoch := by
  unfold State.fillBank
  dsimp only
  obtain ⟨ha, he⟩ := fillEntries_switch _ _ _ (List.range 32) _
  refine ⟨ha.trans ?_, he.trans ?_⟩
  · exact (fillEntries_switch ..).1.trans (fillEntries_switch ..).1
  · exact (fillEntries_switch ..).2.trans (fillEntries_switch ..).2

/-! ## Requests that are issued again (R345) -/

theorem find?_map_of_keys {α : Type} {f : α → α} {p : α → Bool} (h : ∀ x, p (f x) = p x) (l : List α) :
    (l.map f).find? p = (l.find? p).map f := by
  rw [List.find?_map, show p ∘ f = p from funext h]

/-- What a reissue of one request makes of another. -/
def Req.again (q x : Req) : Req := if x.room = q.room ∧ x.tag = q.tag then { x with reissued := true } else x

theorem State.findReq_reissue {s : State} {r tag : Nat} {q : Req} (h : s.findReq r tag = some q) :
    (s.reissue q).findReq r tag = some { q with reissued := true } := by
  have hkeys (x : Req) : ((q.again x).room == r && (q.again x).tag == tag) = (x.room == r && x.tag == tag) := by
    unfold Req.again
    split <;> rfl
  have hfind : (s.reissue q).findReq r tag = (s.findReq r tag).map q.again :=
    find?_map_of_keys (f := q.again) (p := fun x => x.room == r && x.tag == tag) hkeys s.reqs
  rw [hfind, h]
  simp [Req.again]

/-- Settles O32: each command finds what it needs; what a table's rebuild, a reissue, an event and the absence of a device leave
as it is stands in the lemmas above. -/
theorem fabricComplete : Obligations.FabricComplete := by
  refine ⟨fun p q s k alt hp hq hlook hroom => ?depart, fun p q s hp hq hlook => ?dropped, fun island tag s q hfind hother hnew => ?reissue,
    fun s hcustom hdrain => ?rebuild, fun who s hw hhost => ?switch, fun who d s hw hin => ?clear, fun d s hlost => ?probe,
    fun d s n hprobe => ?timeout, fun l s hup => ?time, fun s hlocked hdist => ?loss⟩
  case depart =>
    obtain ⟨hdev, hlen⟩ := hp
    subst hq
    refine ⟨_, whenReady_of (by simpa [hlen] using hdev) .., ?_⟩
    rw [State.fabForward, hlook]
    simp [hroom, State.egressPut]
  case dropped =>
    obtain ⟨hdev, hlen⟩ := hp
    subst hq
    refine ⟨_, whenReady_of (by simpa [hlen] using hdev) .., ?_⟩
    rw [State.fabForward, hlook]
    exact ⟨s.regN_bumpReg _ _ _ (by decide), rfl⟩
  case reissue =>
    obtain ⟨hroom, hdev⟩ := hother
    have hexec : execFabricReissue island tag s = .next (s.reissue q) := by
      rw [execFabricReissue, if_neg (by omega), hfind]
      exact whenReady_of (by simpa [hnew] using hdev) ..
    refine ⟨_, hexec, State.findReq_reissue hfind, le_max_right .., ?_, rfl⟩
    exact List.length_map ..
  case rebuild =>
    obtain ⟨hactive, hepoch⟩ := s.fillBank_switch (1 - s.fabric.active) true
    refine ⟨_, whenReady_of (by simp [hcustom, hdrain]) .., ?_, ?_, ?_⟩
    · exact congrArg (1 - ·) hactive
    · exact congrArg (fun e => (e + 1) % 2 ^ 16) hepoch
    · exact (State.fillBank_effect ..).1 .links rfl
  case switch =>
    cases who with
    | host d => exact whenReady_of (hhost d rfl) ..
    | hart h => exact whenReady_of (hw (by simp)) ..
    | processor => exact whenReady_of (hw (by simp)) ..
  case clear =>
    have hexec : execFabAbsentClr who d s = .next (s.deviceBack d.toNat) := by
      cases who with
      | host d => exact whenReady_of rfl ..
      | hart h => exact whenReady_of (hw (by simp)) ..
      | processor => exact whenReady_of (hw (by simp)) ..
    refine ⟨_, hexec, ?_⟩
    rw [State.deviceBack, if_pos hin, (State.event_effect ..).1 .absentDevs rfl, State.sent_event _ (by decide) (by decide)]
    exact ⟨rfl, List.mem_append_right _ (List.mem_singleton_self _)⟩
  case probe =>
    refine ⟨_, whenReady_of hlost .., ?_, rfl⟩
    exact tget_tset_same ..
  case timeout =>
    set u := (s.reach (n + 10000)).modFabric fun f => { f with probes := tdel d.toNat f.probes } with hu
    have hexec : execAbsentProbeTimeout d s = .next ((u.deviceAbsent d.toNat).postDie 0x44 104 d.toNat) := by
      rw [execAbsentProbeTimeout, hprobe]
    refine ⟨_, hexec, ?_, ?_, ?_⟩
    · rw [(State.postDie_effect ..).1 .absentDevs rfl]
      exact State.deviceAbsent_absent ..
    · rw [(State.postDie_effect ..).1 .fabric rfl, (State.deviceAbsent_effect ..).1 .fabric rfl]
      exact tget_tdel_same ..
    · rw [(State.postDie_effect ..).now_eq rfl, (State.deviceAbsent_effect ..).now_eq rfl]
      exact le_max_right ..
  case time =>
    obtain ⟨c, bl, c1, c0, hsend⟩ := s.sendCtl_eq l.val 4 (toBytes 8 s.now ++ toBytes 8 (s.link l.val).peerTx ++
      toBytes 8 (s.link l.val).peerRx ++ toBytes 2 s.fabric.time.root ++ toBytes 1 s.fabric.time.dist ++
      toBytes 1 (b2n s.fabric.time.locked) ++ toBytes 2 s.fabric.time.err)
    refine ⟨_, bl, c1, c0, whenReady_of (by simp [hup]) .., ?_⟩
    rw [hsend]
    exact ⟨rfl, rfl⟩
  case loss =>
    exact ⟨_, whenReady_of (by simp [hlocked, hdist]) .., rfl, le_max_right ..⟩

end Sys2Proof.Machine

/-! A row repair waits while its wing controller restarts (O29). -/
namespace Sys2Proof.Machine

/-- A repair of row 0 of bank 0 of room 0 whose rewrite is held, to spare 0. -/
def heldRepair : RowRepair := { bank := 0, row := 0, spare := 0, permanent := false }

/-- A state in which the controller of wing 0 restarts while the rewrite of a row of room 0 is held. -/
def repairInRestart : State :=
  { attics := [(0, { repairing := [(heldRepair, .hold)] })], live := { restarts := [(3, [0])] } }

/-- Refutes O29 in the clause of the held rewrite, which has no condition on restarts: the controller of the room's wing makes the
repair (R472), and while it restarts (R491) `repairStep` leaves the repair as it is. The clause, and those of the copy and of the log
entry, want `s.restarting 3 (r / 32) = false`. -/
theorem not_errorsAndRepairComplete : ¬ Obligations.ErrorsAndRepairComplete := by
  rintro ⟨-, -, -, hhold, -, -⟩
  have hheld : (repairInRestart.attic 0).repairOf 0 0 = some (heldRepair, .hold) := by decide
  obtain ⟨t, hexec, hcopied, -⟩ := hhold 0 0 0 repairInRestart heldRepair hheld
  have hwaits : execRowRepairHoldEnd 0 0 0 repairInRestart = .next repairInRestart := rfl
  obtain rfl := Host.Outcome.next.inj (hexec.symm.trans hwaits)
  exact absurd hcopied (by decide)

end Sys2Proof.Machine

/-! The hall: packets route, edges fail and are rebuilt, landings combine atomics (O27). -/
namespace Sys2Proof.Machine

/-! ## What an effect leaves of a hall, and a hall's ports (R281, R301) -/

theorem Effect.hall_eq {F : List Part} {s t : State} (he : Effect F s t) (hF : F.contains .halls = false) (w : Nat) :
    t.hall w = s.hall w := by
  obtain ⟨hsame, -⟩ := he
  simp only [State.hall, show t.halls = s.halls from hsame .halls hF]

theorem Effect.tag_eq {F : List Part} {s t : State} (he : Effect F s t) (hF : F.contains .tags = false) (island tag : Nat) :
    t.tag island tag = s.tag island tag := by
  obtain ⟨hsame, -⟩ := he
  simp only [State.tag, show t.tags = s.tags from hsame .tags hF]

@[simp] theorem State.tag_setTag (s : State) (island tag : Nat) (e : TagEntry) : (s.setTag island tag e).tag island tag = e :=
  tgetD_tset_same ..

@[simp] theorem HallB.port_setPort (h : HallB) (n : Nat) (l : List HallPacket) : (h.setPort n l).port n = l :=
  tgetD_tset_same ..

/-- R301, R303: what a queue serves next is ready. -/
theorem RegQ.pick_ready {q : RegQ} {held : List (Nat × Bool)} {i : Nat} (h : q.pick held = some i) :
    ∃ p, held[i]? = some p ∧ p.2 = true := by
  unfold RegQ.pick at h
  split at h
  · split at h
    · obtain ⟨hlt, hready, -⟩ := List.findIdx?_eq_some_iff_getElem.mp h
      exact ⟨_, List.getElem?_eq_getElem hlt, by simp only [Bool.and_eq_true] at hready; exact hready.1⟩
    · cases h
  · obtain ⟨hlt, hready, -⟩ := List.findIdx?_eq_some_iff_getElem.mp h
    exact ⟨_, List.getElem?_eq_getElem hlt, hready⟩

/-- R301: a packet that is served is itself ready to leave. -/
theorem headsReady_ready {l : List (Nat × Nat × Bool)} {i : Nat} {p : Nat × Bool} (h : (headsReady l)[i]? = some p)
    (hp : p.2 = true) : ∃ x, l[i]? = some x ∧ x.2.2 = true := by
  rw [headsReady, List.getElem?_map, List.getElem?_zipIdx] at h
  cases hx : l[i]? with
  | none => simp [hx] at h
  | some x =>
    simp only [hx, Option.map_some, Option.some.injEq] at h
    subst h
    simp only [Bool.and_eq_true] at hp
    exact ⟨x, rfl, hp.1⟩

/-! ## Packets enter (R284, R286, R311) -/

/-- R284: the route that a packet is injected on does not change the die that it comes from. -/
theorem azSrcDie_azRouted (h : W128) (vcs : Bool) (bank : Nat) : azSrcDie (azRouted h vcs bank) = azSrcDie h := by
  have hlt := h.isLt
  simp only [azSrcDie, azRouted, fld, BitVec.toNat_ofNat]
  generalize b2n vcs = v
  omega

theorem hallInject_injected {s : State} {w : Nat} {header : W128} (hsrc : azSrcDie header = w) (dst dev : Nat) (body : List Byte) :
    s.hallInject w (s.injected w dst dev header body) = s.hallArrive w (s.injected w dst dev header body) := by
  have hown : azSrcDie (s.injected w dst dev header body).header = w := (azSrcDie_azRouted ..).trans hsrc
  rw [State.hallInject, if_pos hown]

theorem hallEnter_here (s : State) (w : Nat) (header : W128) (body : List Byte) : s.hallEnter w s.devId header body =
    (s.hallInject w (s.injected w (dieEntry (azDstDie header)) s.devId.toNat header body)).getD s := by
  rw [State.hallEnter, if_pos rfl]

/-- R301: the packet that the port of the wing's rooms serves next leaves it for its room. -/
theorem State.hallAdvance_leaves {s : State} {w i : Nat} {p : HallPacket}
    (hpick : (s.regq (portQ w 4)).pick (headsReady (((s.hall w).port 4).map fun p => (p.cls, p.vc, (s.hallLeave w 4 p).isSome))) = some i)
    (hp : ((s.hall w).port 4)[i]? = some p) (htakes : s.roomTakes w p = true) :
    s.hallAdvance w 4 = (s.modHall w fun h => h.setPort 4 (((s.hall w).port 4).eraseIdx i)).modRegq (portQ w 4) fun q =>
      { q.complete p.cls (s.now - p.entered) p.bytes with last := p.cls } := by
  set t := (s.modHall w fun h => h.setPort 4 (((s.hall w).port 4).eraseIdx i)).modRegq (portQ w 4) fun q =>
    { q.complete p.cls (s.now - p.entered) p.bytes with last := p.cls } with ht
  have hleave : t.hallLeave w 4 p = some t := by
    rw [State.hallLeave, if_pos rfl]
    exact if_pos htakes
  simp only [State.hallAdvance, hpick, hp]
  rw [← ht, hleave]
  rfl

/-! ## Ports and edges (R281, R285, R287, R288) -/

theorem neighbour_ne {w port v : Nat} (h : neighbour w port = some v) : v ≠ w := by
  unfold neighbour at h
  split at h
  case h_5 => cases h
  all_goals
    split at h
    · cases h
      omega
    · cases h

/-- R287: a port that is marked down keeps no packet. -/
theorem State.hall_portDown (s : State) (w port beyond : Nat) : ((s.portDown w port beyond).hall w) =
    { (s.hall w).setPort port [] with portUp := (s.hall w).portUp.filter (· != port) } :=
  ((State.postIsland_effect ..).hall_eq rfl w).trans (((State.hallDrop_effect ..).hall_eq rfl w).trans (s.hall_modHall ..))

theorem State.hall_portDown_ne (s : State) {w v : Nat} (h : v ≠ w) (port beyond : Nat) :
    (s.portDown w port beyond).hall v = s.hall v :=
  ((State.postIsland_effect ..).hall_eq rfl v).trans (((State.hallDrop_effect ..).hall_eq rfl v).trans (s.hall_modHall_ne _ _ _ h))

/-- R286: the routers that switch, each once. -/
theorem State.hall_hallSwitch_foldl {ws : List Nat} (hnodup : ws.Nodup) (s : State) (w : Nat) :
    (ws.foldl (fun t w => t.hallSwitch w) s).hall w =
      if w ∈ ws then { s.hall w with active := 1 - (s.hall w).active, epoch := ((s.hall w).epoch + 1) % 2 ^ 16 } else s.hall w := by
  induction ws generalizing s with
  | nil => rfl
  | cons v ws ih =>
    obtain ⟨hv, hws⟩ := List.nodup_cons.mp hnodup
    rw [List.foldl_cons, ih hws]
    by_cases hwv : w = v
    · subst hwv
      rw [if_neg hv, if_pos (List.mem_cons_self ..), State.hallSwitch, State.hall_modHall]
    · rw [State.hallSwitch, State.hall_modHall_ne _ _ _ _ hwv]
      simp [hwv]

theorem State.upWings_nodup (s : State) : s.upWings.Nodup := List.Nodup.filter _ List.nodup_range

theorem State.hall_rebuild (s : State) {w : Nat} (hw : w ∈ s.upWings) : s.rebuild.hall w =
    { s.hall w with active := 1 - (s.hall w).active, epoch := ((s.hall w).epoch + 1) % 2 ^ 16 } := by
  have hroutes : Effect [.regs, .remaps] s (s.upWings.foldl (fun t w => t.routerRoutes s.centreHops w (1 - (s.hall w).active)) s) :=
    Effect.foldl (fun t w => State.routerRoutes_effect ..) (.refl ..)
  have hdown : Effect [.regs, .rooms, .sent, .attics, .wings, .links, .doors, .errRings, .wingLogs, .errInFlight, .ceWindows, .live,
      .mailboxStudy] s.reroute s.rebuild := Effect.foldl (fun t w => State.wingDown_effect ..) (.refl ..)
  rw [hdown.hall_eq rfl, State.reroute, State.hall_hallSwitch_foldl s.upWings_nodup, if_pos hw, hroutes.hall_eq rfl]

/-! ## Landings (R296) -/

section
variable {s : State} {w : Nat} {q : HomeRequest}
  (hcfg : bitOf (s.regN .hallLandingCfg w) 8 = true ∧ fld (s.regN .hallLandingCfg w) 7 0 ≠ 0 ∧ (s.die w).combine = true)
include hcfg

/-- R296: a landing that combines, and has no atomic of the address and class, opens one. -/
theorem State.landingArrive_new (hnone : (s.hall w).atomics.any (fun y => y.isFor q.addr.toNat q.cls.val) = false)
    (hroom : ((s.hall w).atomics.filter (fun y => y.acked.isNone)).length < 64) :
    ∃ kept : Combined → Bool, s.landingArrive w q = s.modHall w fun h => { h with
      atomics := h.atomics.filter kept ++ [{ addr := q.addr.toNat, cls := q.cls.val, sum := xaAddend q, from_ := [q.hdr], opened := s.now }] } := by
  obtain ⟨hon, htime, hdie⟩ := hcfg
  have hfor {y} (hy : y ∈ (s.hall w).atomics) : y.isFor q.addr.toNat q.cls.val = false := by
    simpa using List.any_eq_false.mp hnone y hy
  have hfind : (s.hall w).atomics.find? (fun y => y.isFor q.addr.toNat q.cls.val && y.tag.isNone) = none := by
    rw [List.find?_eq_none]
    intro y hy
    simp [hfor hy]
  unfold State.landingArrive
  dsimp only
  rw [if_neg fun h => ?done, if_neg fun h => ?inside, if_neg (by simp [hon, htime, hdie]), hfind]
  case done =>
    obtain ⟨y, hy, h⟩ := List.any_eq_true.mp h
    simp [hfor hy] at h
  case inside =>
    obtain ⟨y, hy, h⟩ := List.any_eq_true.mp h
    simp [hfor hy] at h
  · exact ⟨_, if_neg (Nat.not_le.mpr hroom)⟩

/-- R296: a landing that combines adds to the atomic that it has open for the address and class. -/
theorem State.landingArrive_add {y : Combined} (hone : (s.hall w).atomics = [y])
    (hopen : y.isFor q.addr.toNat q.cls.val = true ∧ y.tag = none ∧ y.acked = none) (hfresh : y.from_.any (sameRequest q.hdr) = false) :
    s.landingArrive w q = (s.modHall w fun h => { h with
      atomics := h.atomics.map fun z =>
        if z = y then { y with sum := combinePartial y.sum (xaAddend q), from_ := y.from_ ++ [q.hdr] } else z }).bumpReg
      .hallCombined w 32 1 := by
  obtain ⟨hon, htime, hdie⟩ := hcfg
  obtain ⟨hfor, htag, hacked⟩ := hopen
  simp [State.landingArrive, hone, hfor, htag, hacked, hfresh, hon, htime, hdie]

end

/-- Settles O27: each command finds what it needs; what a route, a lost edge, a switch and a landing do stands in the lemmas above. -/
theorem hallAndLandingsComplete : Obligations.HallAndLandingsComplete := by
  refine ⟨fun x header body n p s hformed hp hroute hadmits => ?enters, fun x header body p s hformed hp hroute => ?dropped,
    fun x s i hpick hi => ?leaves, fun who x s hw => ?switch, fun who x bank entry value s hw hbank => ?write,
    fun who x bank entry value s hbank => ?ignored, fun x port s v hv hup hnone => ?edge, fun s hdrain => ?rebuild,
    fun island tag s q hfind hhere hnew => ?reissue, fun x island tag s y hisland hone hy => ?landing,
    fun x q s hq hadmits hnone hcfg hroom => ?opened, fun x q s y hq hadmits hone hopen hfresh hcfg => ?added,
    fun x addr cls s y g hfind hfree => ?held⟩
  case enters =>
    obtain ⟨hlen, hopc, hsrc⟩ := hformed
    subst hp
    refine ⟨_, whenReady_of (by simpa [hlen] using hopc) .., ?_⟩
    rw [hallEnter_here, hallInject_injected hsrc, State.hallArrive, hroute]
    simp only [hadmits, if_true, Option.getD_some, State.hall_modHall, HallB.port_setPort]
    exact ⟨rfl, rfl⟩
  case dropped =>
    obtain ⟨hlen, hopc, hsrc⟩ := hformed
    subst hp
    refine ⟨_, whenReady_of (by simpa [hlen] using hopc) .., ?_⟩
    rw [hallEnter_here, hallInject_injected hsrc, State.hallArrive, hroute]
    exact ⟨s.regN_bumpReg _ _ _ (by decide), rfl⟩
  case leaves =>
    obtain ⟨p, hp, hready⟩ := RegQ.pick_ready hpick
    obtain ⟨y, hy, hleaves⟩ := headsReady_ready hp hready
    rw [List.getElem?_map, List.getElem?_eq_getElem hi] at hy
    simp only [Option.map_some, Option.some.injEq] at hy
    subst hy
    have htakes : s.roomTakes x.val ((s.hall x.val).port 4)[i] = true := by
      simpa [State.hallLeave] using hleaves
    refine ⟨s.hallAdvance x.val 4, rfl, ?_⟩
    rw [State.hallAdvance_leaves hpick (List.getElem?_eq_getElem hi) htakes]
    simp
  case switch => exact ⟨_, whenReady_of hw .., s.hall_modHall ..⟩
  case write =>
    refine ⟨_, whenReady_of hw .., ?_⟩
    rw [State.rtWrite, if_neg hbank, State.rtEntry, State.regN_setRegN]
    · simp only [fld]
      omega
    · simp only [fld]
      omega
  case ignored =>
    have hsame : s.rtWrite x.val bank.val entry.val value.toNat = s := if_pos hbank
    show whenReady (hallWriter s who) s (s.rtWrite x.val bank.val entry.val value.toNat) = _
    rw [hsame]
    cases hallWriter s who <;> rfl
  case edge =>
    have hne := neighbour_ne hv
    have hexec : execEdgeDetect x port s = .next ((s.portDown x.val port.val v).portDown v (opposite port.val) x.val) := by
      rw [execEdgeDetect]
      simp only [hv]
      exact whenReady_of (by simpa [hnone] using hup) ..
    refine ⟨_, hexec, ?_⟩
    rw [State.hall_portDown_ne _ hne.symm, State.hall_portDown, State.hall_portDown, State.hall_portDown_ne _ hne]
    exact ⟨rfl, HallB.port_setPort .., rfl, HallB.port_setPort ..⟩
  case rebuild =>
    refine ⟨_, whenReady_of (by simpa using hdrain) .., fun x hx => ?_⟩
    rw [State.hall_rebuild s hx]
    exact ⟨rfl, rfl⟩
  case reissue =>
    obtain ⟨hroom, hdev⟩ := hhere
    have hexec : execHallReissue island tag s = .next (s.reissue q) := by
      rw [execHallReissue, if_neg (by omega), hfind]
      exact whenReady_of (by simp [hdev, hnew]) ..
    exact ⟨_, hexec, State.findReq_reissue hfind, le_max_right .., List.length_map .., rfl⟩
  case landing =>
    obtain ⟨htag, hacked, hnew, hdev⟩ := hy
    have hexec : execHallReissue island tag s = .next (((s.reach (y.sent + 20000)).modHall x.val fun h => { h with
        atomics := h.atomics.map fun z => if z = y then { y with reissued := true } else z }).sendCombined x.val { y with reissued := true }) := by
      have hx : island.val - 768 = x.val := by omega
      rw [execHallReissue, if_pos (by omega), State.landingReissue, hx, hone]
      simp [htag, hacked, hnew, hdev]
    refine ⟨_, hexec, ?_, le_max_right .., ?_⟩
    · rw [(State.sendCombined_effect ..).hall_eq rfl, State.hall_modHall]
      simp [hone]
    · exact List.length_append ..
  case opened =>
    obtain ⟨hnoret, hlen⟩ := hq
    refine ⟨_, whenReady_of (by simp [hnoret, hlen, hadmits]) .., ?_⟩
    obtain ⟨kept, hnew⟩ := State.landingArrive_new hcfg hnone hroom
    rw [hnew, State.hall_modHall]
    exact ⟨List.getLast?_concat .., rfl⟩
  case added =>
    obtain ⟨hnoret, hlen⟩ := hq
    refine ⟨_, whenReady_of (by simp [hnoret, hlen, hadmits]) .., ?_⟩
    rw [State.landingArrive_add hcfg hone hopen hfresh]
    refine ⟨?_, State.regN_bumpReg _ _ _ _ (by decide)⟩
    rw [State.hall_bumpReg, State.hall_modHall]
    simp [hone]
  case held =>
    set t := (s.reach (y.opened + fld (s.regN .hallLandingCfg x.val) 7 0 / 2)) with ht
    set z : Combined := { y with tag := some g, sent := t.now } with hz
    have hexec : execCombineWinExpiry x addr cls s = .next (((t.setTag (768 + x.val) g { t.tag (768 + x.val) g with
        state := .outstanding }).modHall x.val fun h => { h with atomics := h.atomics.map fun c => if c = y then z else c }).sendCombined
        x.val z) := by
      rw [execCombineWinExpiry, hfind, hfree]
      rfl
    refine ⟨_, _, hexec, rfl, rfl, ?_, ?_, ?_⟩
    · rw [State.hall_modHall]
      rfl
    · rw [(State.sendCombined_effect ..).tag_eq rfl, State.tag_modHall, State.tag_setTag]
    · exact le_max_right ..

end Sys2Proof.Machine

/-! Thermal caps: slope, telemetry, keep-warm, cycles and duty (O22). -/
namespace Sys2Proof.Machine

/-! ## Rules of the thermal block (R435, R437) -/

/-- R435: an event moves only the times of the events sent. -/
theorem State.thermal_therm (s : State) (p : ThermPlace) (action : Nat) :
    ∃ l, (s.thermal p action).therm = { s.therm with sentAt := l } := by
  unfold State.thermal
  dsimp only
  split
  · exact ⟨s.therm.sentAt, rfl⟩
  · rw [(State.event_effect ..).1 .therm rfl]
    exact ⟨_, rfl⟩

theorem State.therm_unless_thermal (c : Prop) [Decidable c] (s : State) (p : ThermPlace) (action : Nat) :
    (if c then s else s.thermal p action).therm =
      { s.therm with sentAt := (if c then s else s.thermal p action).therm.sentAt } := by
  split
  · rfl
  · obtain ⟨l, htherm⟩ := s.thermal_therm p action
    rw [htherm]

theorem State.now_thermal (s : State) (p : ThermPlace) (action : Nat) : (s.thermal p action).now = s.now :=
  (State.thermal_effect ..).now_eq rfl

@[simp] theorem State.rtherm_modRtherm (s : State) (r : Nat) (f : RoomTherm → RoomTherm) :
    (s.modRtherm r f).rtherm r = f (s.rtherm r) := tgetD_tset_same ..

theorem State.rtherm_modRtherm_ne (s : State) {r k : Nat} (h : k ≠ r) (f : RoomTherm → RoomTherm) :
    (s.modRtherm r f).rtherm k = s.rtherm k := tgetD_tset_ne _ _ _ _ _ h

/-- R425: a report is held, and a cap below TDP with it. -/
theorem State.coolWrite_therm (s : State) (v : Nat) :
    (s.coolWrite v).therm.report =
        (if fld v 23 16 = 0 ∧ fld v 7 0 = 0 then none else some (fld v 23 16, fld v 7 0, s.now)) ∧
      (s.telemFor (fld v 23 16) (fld v 7 0) < s.tdp →
        (s.coolWrite v).therm.telemCap = some (s.telemFor (fld v 23 16) (fld v 7 0))) := by
  rw [State.coolWrite, State.therm_unless_thermal]
  refine ⟨?_, fun h => ?_⟩
  · simp only [State.modTherm]
  · simp only [State.modTherm, if_pos h]

/-- Settles O22: each command finds what it needs, and an event changes nothing of the thermal block but the times of events. -/
theorem thermalCapsComplete : Obligations.ThermalCapsComplete := by
  refine ⟨fun s => ?fit, fun s hholds => ?rises, fun s n hholds hlow hsteps => ?falls,
    fun who value s hw => ⟨_, whenReady_of hw .., s.coolWrite_therm _⟩, fun s a b n hreport => ?stale,
    fun who value s hw => ⟨_, whenReady_of hw .., rfl, Nat.min_self_assoc⟩, fun r s hmay hfloor hcold hidle hempty hgrant => ?warmStart,
    fun r s hwarm hhot hgrant => ?warmStop, fun s => ?cycles, fun s => ?duty⟩
  case fit =>
    refine ⟨s.fitSlope, rfl, ?_⟩
    simp only [State.fitSlope, State.modTherm, State.reach, true_and]
    exact le_max_right ..
  case cycles =>
    refine ⟨(s.reach (s.now + 3600000000000)).saveCycles, rfl, ?_⟩
    simp only [State.saveCycles, State.reach, true_and]
    exact le_max_right ..
  case duty =>
    refine ⟨s.rotate, rfl, ?_⟩
    simp only [State.rotate, State.modTherm, State.reach, and_self]
  case rises =>
    have hexec : execSlopeCapStep s = .next (((s.reach (if s.therm.slopeSteps = 0 then s.now else s.therm.slopeMoved + 100000000)).modTherm
        fun y => { y with slopeSteps := min 12 (y.slopeSteps + 1)
                          slopeMoved := (s.reach (if s.therm.slopeSteps = 0 then s.now else s.therm.slopeMoved + 100000000)).now }).thermal
        (devicePlace s) 6) := if_pos hholds
    refine ⟨_, hexec, ?_⟩
    rw [State.now_thermal]
    obtain ⟨l, htherm⟩ := State.thermal_therm ((s.reach (if s.therm.slopeSteps = 0 then s.now else s.therm.slopeMoved + 100000000)).modTherm
      fun y => { y with slopeSteps := min 12 (y.slopeSteps + 1)
                        slopeMoved := (s.reach (if s.therm.slopeSteps = 0 then s.now else s.therm.slopeMoved + 100000000)).now })
      (devicePlace s) 6
    rw [htherm]
    exact ⟨rfl, rfl⟩
  case falls =>
    set t := s.reach (max n s.therm.slopeMoved + 1000000000) with ht
    have hexec : execSlopeCapStep s = .next ((t.modTherm fun y => { y with slopeSteps := y.slopeSteps - 1, slopeMoved := t.now }).thermal
        (devicePlace s) 6) := by
      simp only [execSlopeCapStep, hholds, hlow, Bool.false_eq_true, if_false]
      exact whenReady_of (by simpa using hsteps) ..
    refine ⟨_, hexec, ?_⟩
    rw [State.now_thermal]
    obtain ⟨l, htherm⟩ := State.thermal_therm (t.modTherm fun y => { y with slopeSteps := y.slopeSteps - 1, slopeMoved := t.now })
      (devicePlace s) 6
    rw [htherm]
    refine ⟨rfl, ?_⟩
    show n + 1000000000 ≤ max s.now (max n s.therm.slopeMoved + 1000000000)
    omega
  case stale =>
    refine ⟨(s.reach (n + 2000000000)).modTherm fun x => { x with report := none, telemCap := none, telemGood := none }, ?_, rfl, rfl,
      le_max_right ..⟩
    show execTelemetryStale s = _
    rw [execTelemetryStale, hreport]
  case warmStart =>
    refine ⟨_, whenReady_of (by simp [hmay, hfloor, hcold, hidle, hempty, hgrant]) .., ?_, ?_⟩
    · rw [(State.modRtherm_effect ..).array_eq rfl, State.array_modArray]
    · rw [State.rtherm_modRtherm]
  case warmStop =>
    refine ⟨_, whenReady_of (by rw [hwarm, hgrant]; simpa using hhot) .., ?_, ?_⟩
    · rw [(State.modRtherm_effect ..).array_eq rfl, State.array_modArray]
    · rw [State.rtherm_modRtherm]

end Sys2Proof.Machine

/-! Grants, shares and the power cap (O19). -/
namespace Sys2Proof.Machine

/-! ## Rules of the power block (R399, R403–R406) -/

theorem Effect.power_eq {F : List Part} {s t : State} (he : Effect F s t) (hF : F.contains .power = false) : t.power = s.power := by
  obtain ⟨hsame, -⟩ := he
  exact hsame .power hF

@[simp] theorem State.account_setAccount (s : State) (w : Nat) (fall : Bool) (a : Account) :
    (s.setAccount w fall a).account w fall = a := tgetD_tset_same ..

@[simp] theorem State.rpow_modRpow (s : State) (r : Nat) (f : RoomPower → RoomPower) : (s.modRpow r f).rpow r = f (s.rpow r) :=
  tgetD_tset_same ..

/-- R404: a request moves only the accounts. -/
theorem State.ask_power (s : State) (k : GrantKind) (r : Nat) : ∃ a, (s.ask k r).power = { s.power with accounts := a } := by
  unfold State.ask
  split
  · exact ⟨s.power.accounts, rfl⟩
  · exact ⟨_, rfl⟩

theorem askAll_power (want : Nat → Nat) (rs : Tab RoomPower) (s : State) : ∃ a,
    (rs.foldl (fun t x => if x.2.mhz ≠ 0 ∧ x.2.mhz < want x.1 then t.ask .clockRaise x.1 else t) s).power = { s.power with accounts := a } := by
  induction rs generalizing s with
  | nil => exact ⟨s.power.accounts, rfl⟩
  | cons x rs ih =>
    rw [List.foldl_cons]
    split
    · obtain ⟨a, ha⟩ := s.ask_power .clockRaise x.1
      obtain ⟨b, hb⟩ := ih (s.ask .clockRaise x.1)
      exact ⟨b, by rw [hb, ha]⟩
    · exact ih s

/-- R404: rooms that ask for a step move only the accounts. -/
theorem State.askRaises_power (s : State) : ∃ a, s.askRaises.power = { s.power with accounts := a } := askAll_power ..

/-- R406: targets that are lowered move nothing else. -/
theorem State.lowerTargets_power (s : State) : ∃ rs, s.lowerTargets.power = { s.power with rooms := rs } := ⟨_, rfl⟩

/-- A room's target as it is when it is lowered to what it should be. -/
def RoomPower.lowered (want : Nat) (p : RoomPower) : RoomPower := { p with mhz := min p.mhz want }

theorem State.tget_lowerTargets (s : State) (r : Nat) :
    tget r s.lowerTargets.power.rooms = (tget r s.power.rooms).map (·.lowered (s.wantedMhz r)) := by
  have h := tget_map_of_keys (f := fun x : Nat × RoomPower => (x.1, x.2.lowered (s.wantedMhz x.1))) (fun _ => rfl) r s.power.rooms
  exact h

/-- R406, R417: a target that is lowered does not rise, and leaves the room's relief. -/
theorem State.rpow_lowerTargets (s : State) (r : Nat) :
    (s.lowerTargets.rpow r).mhz ≤ (s.rpow r).mhz ∧ (s.lowerTargets.rpow r).relief = (s.rpow r).relief := by
  rw [State.rpow, State.rpow, tgetD, tgetD, State.tget_lowerTargets]
  cases tget r s.power.rooms with
  | none => exact ⟨le_refl _, rfl⟩
  | some p => exact ⟨min_le_left .., rfl⟩

/-! ## The grant of the first request (R404, R405) -/

/-- The state in which a grant is taken from its account. -/
theorem State.issueGrant_eq (s : State) (w : Nat) (fall : Bool) (g : GrantReq) : ∃ now level since,
    s.now ≤ now ∧ s.issueGrant w fall g = (State.setAccount { s with now := now } w fall
      { level := level, since := since, queue := (s.account w fall).queue.drop 1 }).grantEffect g :=
  ⟨_, _, _, le_max_left .., rfl⟩

theorem State.grantEffect_raise {s : State} {g : GrantReq} (h : g.kind = .clockRaise) :
    s.grantEffect g = s.modRpow g.room fun p => { p with mhz := min (s.wantedMhz g.room) (p.mhz + 25) } := by
  simp only [State.grantEffect, h]

theorem State.grantEffect_other {s : State} {g : GrantReq} (h : g.kind ≠ .clockRaise) :
    s.grantEffect g = s.modPower fun p => { p with issued := p.issued ++ [g] } := by
  unfold State.grantEffect
  split
  next hk => exact absurd hk h
  next => rfl

/-! ## A new share (R403) -/

/-- An account brought up to date with the old share. -/
def State.settledAt (s : State) (k : Nat) (a : Account) : Account := { a with level := s.accountLevel (k / 2) (k % 2 == 1), since := s.now }

/-- R403: the state in which every account is brought up to date and the new share holds. -/
def State.sharesRenewed (s : State) : State :=
  s.modPower fun p => { p with accounts := p.accounts.map fun x => (x.1, s.settledAt x.1 x.2), share := max 1 s.wingsUp }

theorem State.account_sharesRenewed (s : State) {w : Nat} {fall : Bool} {a : Account}
    (h : tget (2 * w + b2n fall) s.power.accounts = some a) :
    s.sharesRenewed.account w fall = { a with level := s.accountLevel w fall, since := s.now } := by
  have hget := tget_map_of_keys (f := fun x : Nat × Account => (x.1, s.settledAt x.1 x.2)) (fun _ => rfl) (2 * w + b2n fall)
    s.power.accounts
  have hwing : (2 * w + b2n fall) / 2 = w := by
    cases fall
    · simp [b2n]
    · simp only [b2n, if_true]
      omega
  have hside : ((2 * w + b2n fall) % 2 == 1) = fall := by cases fall <;> simp [b2n]
  rw [State.account, tgetD, show s.sharesRenewed.power.accounts = s.power.accounts.map fun x => (x.1, s.settledAt x.1 x.2) from rfl,
    hget, h]
  simp only [Option.map_some, Option.getD_some, State.settledAt, hwing, hside]

/-! ## The loop of the cap (R406) -/

/-- R406: a reading as the loop takes it, before it moves the targets. -/
def State.capRead (s : State) (watts : Nat) : State :=
  (s.reach ((s.now / 1000000 + 1) * 1000000)).modPower fun p => { p with
    powerW := watts, history := lastN 10 (p.history ++ [watts])
    capSince := if s.effectiveCap = p.capLast then p.capSince else s.now, capLast := s.effectiveCap }

/-- R406: the targets moved by a reading. -/
def State.capMove (s : State) (watts : Nat) : State :=
  let t := s.capRead watts
  if s.therm.stop ≠ 0 then t
  else if s.effectiveCap < watts then
    (t.modPower fun p => { p with lowered := min (s.roomLimit - 400) (p.lowered + 25) }).lowerTargets
  else if watts * 100 < s.effectiveCap * 97 then (t.modPower fun p => { p with lowered := p.lowered - 25 }).askRaises
  else t

/-- R406: after a reading the loop may only add an error. -/
theorem State.capLoop_effect' (s : State) (watts : Nat) :
    Effect [.regs, .attics, .errRings, .wingLogs, .errInFlight, .ceWindows] (s.capMove watts) (s.capLoop watts) := by
  have hloop : s.capLoop watts = if (s.capMove watts).power.history.length = 10 ∧
      (s.capMove watts).power.capSince + 20000000 ≤ (s.capMove watts).now ∧
      s.effectiveCap * 102 * 10 < (s.capMove watts).power.history.foldl (· + ·) 0 * 100
      then (s.capMove watts).powerError 0 0x34 watts else s.capMove watts := rfl
  rw [hloop]
  exact Effect.ite (fun _ => State.powerError_effect ..) fun _ => .refl ..

theorem State.capMove_reading (s : State) (watts : Nat) : (s.capMove watts).power.powerW = watts ∧
    (s.capMove watts).power.history = lastN 10 (s.power.history ++ [watts]) ∧ (s.capMove watts).now = (s.capRead watts).now := by
  unfold State.capMove
  dsimp only
  split
  · exact ⟨rfl, rfl, rfl⟩
  · split
    · exact ⟨rfl, rfl, (State.lowerTargets_effect ..).now_eq rfl⟩
    · split
      · obtain ⟨a, ha⟩ := ((s.capRead watts).modPower fun p => { p with lowered := p.lowered - 25 }).askRaises_power
        rw [ha, (State.askRaises_effect ..).now_eq rfl]
        exact ⟨rfl, rfl, rfl⟩
      · exact ⟨rfl, rfl, rfl⟩

/-- Settles O19: what a request, a grant, a share and a turn of the loop do to the power block stands in the lemmas above. -/
theorem grantsAndCapComplete : Obligations.GrantsAndCapComplete := by
  refine ⟨fun kind r s hup hnew => ?request, fun x fall s g q hq halarm hkind => ?issue, fun x fall s g q hq halarm hkind => ?raise,
    fun s y fall hin => ?share, fun who value s hw => ⟨_, whenReady_of hw .., rfl, rfl⟩, fun watts s => ?loop,
    fun watts s hstop hover => ?lowers⟩
  case request =>
    refine ⟨_, whenReady_of (by simpa [hnew] using hup) .., ?_⟩
    rw [State.ask, if_neg (by simp [hnew]), State.account_setAccount]
    exact ⟨rfl, rfl⟩
  case issue =>
    have hexec : execGrantIssue x fall s = .next (s.issueGrant x.val fall g) := by
      rw [execGrantIssue, hq]
      exact whenReady_of (by simpa using halarm) ..
    obtain ⟨now, level, since, hnow, hgrant⟩ := s.issueGrant_eq x.val fall g
    refine ⟨_, hexec, ?_⟩
    rw [hgrant, State.grantEffect_other hkind]
    refine ⟨?_, rfl, hnow⟩
    exact (congrArg Account.queue (State.account_setAccount ..)).trans (by rw [hq]; rfl)
  case raise =>
    have hexec : execGrantIssue x fall s = .next (s.issueGrant x.val fall g) := by
      rw [execGrantIssue, hq]
      exact whenReady_of (by simpa using halarm) ..
    obtain ⟨now, level, since, hnow, hgrant⟩ := s.issueGrant_eq x.val fall g
    refine ⟨_, hexec, ?_⟩
    rw [hgrant, State.grantEffect_raise hkind, State.rpow_modRpow]
    refine ⟨?_, rfl, rfl⟩
    exact (congrArg Account.queue (State.account_setAccount ..)).trans (by rw [hq]; rfl)
  case share =>
    obtain ⟨a, ha⟩ := Option.isSome_iff_exists.mp hin
    refine ⟨s.sharesRenewed, rfl, rfl, ?_⟩
    rw [s.account_sharesRenewed ha]
    exact ⟨rfl, rfl⟩
  case loop =>
    obtain ⟨hwatts, hhistory, hnow⟩ := s.capMove_reading watts
    refine ⟨s.capLoop watts, rfl, ?_⟩
    rw [(s.capLoop_effect' watts).power_eq rfl, (s.capLoop_effect' watts).now_eq rfl, hnow]
    refine ⟨hwatts, hhistory, ?_⟩
    simp only [State.capRead, State.modPower, State.reach]
    exact le_max_right ..
  case lowers =>
    have hmove : s.capMove watts = ((s.capRead watts).modPower fun p => { p with
        lowered := min (s.roomLimit - 400) (p.lowered + 25) }).lowerTargets := by
      rw [State.capMove, if_neg (by simpa using hstop), if_pos hover]
    refine ⟨s.capLoop watts, rfl, ?_⟩
    have hrpow (r : Nat) : (s.capLoop watts).rpow r = (s.capMove watts).rpow r := by
      rw [State.rpow, (s.capLoop_effect' watts).power_eq rfl]
      rfl
    rw [(s.capLoop_effect' watts).power_eq rfl, hmove]
    refine ⟨rfl, fun r => ?_⟩
    have hread (f : PowerB → PowerB) (hf : (f (s.capRead watts).power).rooms = (s.capRead watts).power.rooms) :
        ((s.capRead watts).modPower f).rpow r = s.rpow r := by
      simp only [State.rpow, State.modPower, hf]
      rfl
    rw [hrpow, hmove, ← hread (fun p => { p with lowered := min (s.roomLimit - 400) (p.lowered + 25) }) rfl]
    exact (State.rpow_lowerTargets _ r).1

end Sys2Proof.Machine

/-! The state after reset (O50). -/
namespace Sys2Proof.Machine

/-- R438, R525: no register is listed after reset, so that each reads what its row of the register table gives. -/
theorem State.regN_reset (n : RegName) (i : Nat) : State.reset.regN n i = n.row.reset % 2 ^ 64 := by
  have hreg : State.reset.reg n i = BitVec.ofNat 64 n.row.reset := rfl
  rw [State.regN, hreg, BitVec.toNat_ofNat]

/-- R466: memory and its poison marks are empty after reset, and so in canonical form. -/
theorem State.canonical_reset : State.reset.Canonical := ⟨rfl, rfl⟩

/-- Settles O50. -/
theorem resetLeavesEveryRegisterAtItsResetValue : Obligations.ResetLeavesEveryRegisterAtItsResetValue :=
  ⟨State.regN_reset, rfl, rfl, rfl, State.canonical_reset⟩

end Sys2Proof.Machine

/-! What door registers and rings keep: fields of a register, what effects leave, MSI-X and completion entries. -/
namespace Sys2Proof.Machine

/-! ## Fields and register writes (R6, R525) -/

theorem fld_congr {x y hi lo : Nat} (h : ∀ k, lo ≤ k → k ≤ hi → bitOf x k = bitOf y k) : fld x hi lo = fld y hi lo := by
  refine Nat.eq_of_testBit_eq fun j => ?_
  simp only [fld, Nat.testBit_mod_two_pow, Nat.testBit_div_two_pow]
  by_cases hj : j < hi + 1 - lo
  · have hk := h (j + lo) (by omega) (by omega)
    rw [bitOf_eq_testBit, bitOf_eq_testBit] at hk
    rw [hk]
  · simp [hj]

/-- R6: a bit that software can write, and that is not cleared by writing 1, takes the value written. -/
theorem RegName.bitOf_written {n : RegName} {k : Nat} (hk : k < 64) (hrw : n.row.rw.testBit k = true) (hw1c : n.row.w1c.testBit k = false)
    (old v : W64) : bitOf (n.written old v).toNat k = bitOf v.toNat k := by
  rw [bitOf_eq_testBit, bitOf_eq_testBit, ← BitVec.getLsbD, ← BitVec.getLsbD]
  simp only [RegName.written, BitVec.getLsbD_and, BitVec.getLsbD_or, BitVec.getLsbD_not, BitVec.getLsbD_ofNat, hk, hrw, hw1c]
  simp

/-- R6: a field that software can write takes the value written. -/
theorem RegName.fld_written {n : RegName} {hi lo : Nat} (hfield : ∀ k < 64, lo ≤ k → k ≤ hi → n.row.rw.testBit k = true ∧ n.row.w1c.testBit k = false)
    (hhi : hi < 64) (old v : W64) : fld (n.written old v).toNat hi lo = fld v.toNat hi lo :=
  fld_congr fun k hlo hkhi =>
    have ⟨hrw, hw1c⟩ := hfield k (by omega) hlo hkhi
    RegName.bitOf_written (by omega) hrw hw1c old v

/-! ## What an effect leaves of doors and rings -/

section
variable {F : List Part} {s t : State} (he : Effect F s t)
include he

theorem Effect.sq_eq (hF : F.contains .sqs = false) (q : Nat) : t.sq q = s.sq q := by
  obtain ⟨hsame, -⟩ := he
  simp only [State.sq, show t.sqs = s.sqs from hsame .sqs hF]

theorem Effect.cq_eq (hF : F.contains .cqs = false) (c : Nat) : t.cq c = s.cq c := by
  obtain ⟨hsame, -⟩ := he
  simp only [State.cq, show t.cqs = s.cqs from hsame .cqs hF]

theorem Effect.door_eq (hF : F.contains .doors = false) (d : Nat) : t.door d = s.door d := by
  obtain ⟨hsame, -⟩ := he
  simp only [State.door, show t.doors = s.doors from hsame .doors hF]

end

/-- A bit of a register that holds stays when others are set. -/
theorem State.bitOf_orReg_mono (s : State) {n m : RegName} {i j k x : Nat} (h : bitOf (s.regN n i) k = true) :
    bitOf ((s.orReg m j x).regN n i) k = true := by
  by_cases hni : n = m ∧ i = j
  · obtain ⟨rfl, rfl⟩ := hni
    rw [bitOf_eq_testBit] at h ⊢
    rw [State.regN, State.reg_orReg, BitVec.toNat_or, Nat.testBit_or, show (s.reg n i).toNat.testBit k = true from h, Bool.true_or]
  · rw [State.regN, State.orReg, State.reg_setReg_ne _ _ _ _ _ _ hni]
    exact h

/-- R387: an event clears no bit of an error register. -/
theorem State.bitOf_doorEvent (s : State) {n : RegName} {i k : Nat} (h : bitOf (s.regN n i) k = true) (d : Nat) (e : Event) :
    bitOf ((s.doorEvent d e).regN n i) k = true := by
  unfold State.doorEvent
  dsimp only
  have hvalid : bitOf ((if s.eventCqValid d then s else s.orReg .doorErr d 64).regN n i) k = true := by
    split
    · exact h
    · exact s.bitOf_orReg_mono h
  split
  · exact h
  · split
    · exact hvalid
    · exact State.bitOf_orReg_mono _ hvalid

theorem State.bitOf_event (s : State) {n : RegName} {i k : Nat} (h : bitOf (s.regN n i) k = true) (kind d0 d1 : Nat) :
    bitOf ((s.event kind d0 d1).regN n i) k = true := by
  rw [State.event, (State.mirror_effect ..).regN_eq rfl]
  exact State.bitOf_doorEvent _ (State.bitOf_doorEvent _ h ..) ..

/-! ## Vectors and entries (R382, R394) -/

/-- R382, R394: a vector that is due marks its CQ, and at most a pending bit of the door. -/
theorem State.raiseCq_keeps (s : State) (c : Nat) : (∃ f, (s.raiseCq c).cq c = { s.cq c with fired := f }) ∧
    ∀ d, ∃ p, (s.raiseCq c).door d = { s.door d with msixPending := p } := by
  unfold State.raiseCq
  dsimp only
  split
  · refine ⟨⟨true, ?_⟩, fun d => ?_⟩
    · have hcq : ((s.modCq c fun x => { x with fired := true }).sendVector (s.cq c).owner (s.cq c).vector).cq c =
          (s.modCq c fun x => { x with fired := true }).cq c := (State.sendVector_effect ..).cq_eq rfl c
      rw [hcq, State.cq_modCq]
    · unfold State.sendVector
      split
      · by_cases hd : d = (s.cq c).owner
        · subst hd
          exact ⟨_, State.door_modDoor ..⟩
        · exact ⟨_, State.door_modDoor_ne _ _ _ _ hd⟩
      · exact ⟨_, rfl⟩
  · exact ⟨⟨_, rfl⟩, fun d => ⟨_, rfl⟩⟩

theorem State.coalesce_keeps (s : State) (c : Nat) : (∃ f, (s.coalesce c).cq c = { s.cq c with fired := f }) ∧
    ∀ d, ∃ p, (s.coalesce c).door d = { s.door d with msixPending := p } := by
  unfold State.coalesce
  split
  · exact s.raiseCq_keeps c
  · exact ⟨⟨_, rfl⟩, fun d => ⟨_, rfl⟩⟩

/-- R382: what an entry written to a CQ leaves: its bytes with PHASE, the CQ's tail one further, and the door's events. -/
theorem State.cqPut_spec (s : State) (c tag w1 d0 d1 : Nat) :
    ((s.cqPut c tag w1 d0 d1).cq c).tail = ((s.cq c).tail + 1) % 2 ^ 32 ∧
      (∀ d, ((s.cqPut c tag w1 d0 d1).door d).events = (s.door d).events) ∧
      (s.cqPut c tag w1 d0 d1).mem =
        placeBytes (hostKey (s.cq c).owner ((s.cq c).base + (s.cq c).tail % ringSize (s.cq c).sizeLog2 * 32))
          (toBytes 8 tag ++ toBytes 8 (w1 + (1 - (s.cq c).tail / ringSize (s.cq c).sizeLog2 % 2)) ++ toBytes 8 d0 ++ toBytes 8 d1) s.mem := by
  have hput : s.cqPut c tag w1 d0 d1 = State.coalesce ((s.memWrite (.host (s.cq c).owner ((s.cq c).base + (s.cq c).tail %
      ringSize (s.cq c).sizeLog2 * 32)) (toBytes 8 tag ++ toBytes 8 (w1 + (1 - (s.cq c).tail / ringSize (s.cq c).sizeLog2 % 2)) ++
      toBytes 8 d0 ++ toBytes 8 d1)).modCq c fun x => { x with tail := (x.tail + 1) % 2 ^ 32, written := x.written ++ [s.now] }) c := rfl
  generalize toBytes 8 tag ++ toBytes 8 (w1 + (1 - (s.cq c).tail / ringSize (s.cq c).sizeLog2 % 2)) ++ toBytes 8 d0 ++ toBytes 8 d1 = l
    at hput ⊢
  generalize (s.cq c).base + (s.cq c).tail % ringSize (s.cq c).sizeLog2 * 32 = a at hput ⊢
  obtain ⟨⟨f, hcq⟩, hdoor⟩ := State.coalesce_keeps ((s.memWrite (.host (s.cq c).owner a) l).modCq c fun x =>
    { x with tail := (x.tail + 1) % 2 ^ 32, written := x.written ++ [s.now] }) c
  rw [hput]
  refine ⟨?_, fun d => ?_, ?_⟩
  · rw [hcq, State.cq_modCq, (State.memWrite_effect ..).cq_eq rfl]
  · obtain ⟨p, hp⟩ := hdoor d
    rw [hp, (State.modCq_effect ..).door_eq rfl, (State.memWrite_effect ..).door_eq rfl]
  · rw [(State.coalesce_effect ..).mem_eq rfl]
    rfl

end Sys2Proof.Machine

/-! Rings, doorbells, completions and events (O37, O39). -/
namespace Sys2Proof.Machine

/-! ## Rings that start and stop (R376, R379) -/

/-- R379: a ring that stops shows its cause. -/
theorem State.sq_stopRing (s : State) (q cause : Nat) : (s.stopRing q cause).sq q = { s.sq q with state := .stopped, cause := cause } := by
  rw [State.stopRing, (State.event_effect ..).sq_eq rfl, State.sq_orReg, State.sq_modSq]

theorem State.bitOf_stopRing (s : State) {n : RegName} {i k : Nat} (h : bitOf (s.regN n i) k = true) (q cause : Nat) :
    bitOf ((s.stopRing q cause).regN n i) k = true := by
  rw [State.stopRing]
  refine State.bitOf_event _ ?_ ..
  refine State.bitOf_orReg_mono _ ?_
  exact h

theorem State.bitOf_stopRing_error (s : State) (q cause : Nat) : bitOf ((s.stopRing q cause).regN .doorErr (s.sq q).owner) 4 = true := by
  rw [State.stopRing]
  refine State.bitOf_event _ ?_ ..
  exact State.bitOf_orReg _ .doorErr _ (k := 4) (by decide)

/-- What the start of a ring makes of its state, with the cause. -/
def State.startCode (s : State) (cq owner : Nat) : RingState × Nat :=
  if (s.cq cq).enable = false then (.stopped, 4) else if (s.cq cq).owner ≠ owner then (.stopped, 3) else (.running, 0)

/-- R376: a ring that starts runs if its CQ is enabled and has its owner; else it stops, with cause 4 or 3. -/
theorem State.sq_startRing (s : State) (q : Nat) : (s.startRing q).sq q = { s.sq q with
    state := (s.startCode (s.sq q).cq (s.sq q).owner).1, cause := (s.startCode (s.sq q).cq (s.sq q).owner).2 } := by
  unfold State.startRing State.startCode
  by_cases hen : (s.cq (s.sq q).cq).enable = true
  · by_cases how : (s.cq (s.sq q).cq).owner = (s.sq q).owner
    · simp [hen, how]
    · simp [hen, how, State.sq_stopRing]
  · simp [hen, State.sq_stopRing]

theorem State.startCode_congr {s t : State} (h : t.cqs = s.cqs) (cq owner : Nat) : t.startCode cq owner = s.startCode cq owner := by
  rw [State.startCode, State.cq, h]
  rfl

/-- R376: a ring of no descriptor that is not enabled is DISABLED. -/
theorem State.settleSq_of_idle {s : State} {q : Nat} (hen : (s.sq q).enable = false) (hnone : s.descs.any (·.sq == q) = false) :
    s.settleSq q = s.modSq q fun x => { x with state := .disabled } := by
  rw [State.settleSq, if_neg (by simp [hen, hnone])]

/-- R376: the fields of a ring that SQ_CFG gives. -/
def SubRing.configured (x : SubRing) (v : Nat) : SubRing :=
  { x with priv := bitOf v 62, owner := fld v 61 61, sizeLog2 := fld v 60 56, cq := fld v 49 40, weight := fld v 39 32 }

theorem State.sqCfgWrite_enables {s : State} {q v : Nat} (hopen : (s.sq q).open = true) (hoff : (s.sq q).enable = false)
    (hon : bitOf v 63 = true) : s.sqCfgWrite q v = ((s.modSq q fun x => x.configured v).modSq q fun x =>
      { x with enable := true, head := 0, tail := 0, limit := 0 }).startRing q := by
  simp only [State.sqCfgWrite, hopen, hoff, hon, if_true, Bool.false_eq_true, if_false]
  rfl

/-- The state in which a write of SQ_CFG has set the fields that can be changed. -/
def State.sqFields (s : State) (q v : Nat) : State := if (s.sq q).open then s.modSq q fun x => x.configured v else s

theorem State.sqFields_keeps (s : State) (q v : Nat) : ((s.sqFields q v).sq q).head = (s.sq q).head ∧
    ((s.sqFields q v).sq q).tail = (s.sq q).tail ∧ (s.sqFields q v).descs = s.descs := by
  unfold State.sqFields
  split
  · rw [State.sq_modSq]
    exact ⟨rfl, rfl, rfl⟩
  · exact ⟨rfl, rfl, rfl⟩

/-- R376: a ring of no descriptor that is switched off is DISABLED. -/
theorem State.sqCfgWrite_disables {s : State} {q v : Nat} (hen : (s.sq q).enable = true) (hoff : bitOf v 63 = false)
    (hnone : s.descs.any (fun x => x.sq == q) = false) : s.sqCfgWrite q v =
      ((s.sqFields q v).modSq q fun x => { x with enable := false }).modSq q fun x => { x with state := .disabled } := by
  obtain ⟨-, -, hdescs⟩ := s.sqFields_keeps q v
  have hwrite : s.sqCfgWrite q v = ((s.sqFields q v).modSq q fun x => { x with enable := false }).settleSq q := by
    simp only [State.sqCfgWrite, hen, hoff, if_true, Bool.false_eq_true, if_false]
    rfl
  rw [hwrite, State.settleSq_of_idle (by rw [State.sq_modSq])]
  rw [State.modSq_descs, hdescs]
  exact hnone

/-! ## Completion rings and registers (R377, R378, R387) -/

/-- R377: a write of CQ_CFG gives the fields; the CQ starts afresh where it is switched on. -/
theorem State.cq_cqCfgWrite (s : State) (c v : Nat) : ∃ f, (s.cqCfgWrite c v).cq c =
    (let x : ComRing := { s.cq c with
      enable := bitOf v 63, owner := fld v 61 61, sizeLog2 := fld v 60 56, vector := fld v 41 32, irqEn := bitOf v 31
      coalCount := fld v 23 16, coalTime := fld v 15 0 }
    if bitOf v 63 && !(s.cq c).enable then { x with head := 0, tail := 0, written := [], fired := f } else { x with fired := f }) := by
  unfold State.cqCfgWrite
  dsimp only
  obtain ⟨⟨f, hcq⟩, -⟩ := State.coalesce_keeps (if bitOf v 63 && !(s.cq c).enable then
    ((s.modCq c fun x => { x with
      enable := bitOf v 63, owner := fld v 61 61, sizeLog2 := fld v 60 56, vector := fld v 41 32, irqEn := bitOf v 31
      coalCount := fld v 23 16, coalTime := fld v 15 0 }).modCq c fun x => { x with head := 0, tail := 0, written := [], fired := false })
    else s.modCq c fun x => { x with
      enable := bitOf v 63, owner := fld v 61 61, sizeLog2 := fld v 60 56, vector := fld v 41 32, irqEn := bitOf v 31
      coalCount := fld v 23 16, coalTime := fld v 15 0 }) c
  refine ⟨f, ?_⟩
  rw [hcq]
  split
  · rw [State.cq_modCq, State.cq_modCq]
  · rw [State.cq_modCq]

/-- R387, R394: a write of DOOR_CTRL is its register's write. -/
theorem State.reg_doorCtrlWrite (s : State) (d : Nat) (v : W64) :
    (s.doorCtrlWrite d v).reg .doorCtrl d = RegName.doorCtrl.written (s.reg .doorCtrl d) v := by
  have hreg : (s.writeReg .doorCtrl d v).reg .doorCtrl d = RegName.doorCtrl.written (s.reg .doorCtrl d) v := s.reg_setReg ..
  unfold State.doorCtrlWrite
  dsimp only
  split
  · rw [State.reg_orReg_name _ (by decide), hreg]
  · exact hreg

/-- R378, R379: a doorbell of a ring that runs. -/
theorem State.sqTail_running {s : State} {d q v : Nat} (hown : (s.sq q).owner = d) (hstate : (s.sq q).state = .running)
    (hen : (s.sq q).enable = true) : s.sqTail d q v =
      if ringSize (s.sq q).sizeLog2 < (v + 2 ^ 32 - (s.sq q).head) % 2 ^ 32 ∧ (s.sq q).behind v = false
      then ((s.modSq q fun x => { x with tail := v, limit := s.sqLimit x v }).bump).stopRing q 1
      else (s.modSq q fun x => { x with tail := v, limit := s.sqLimit x v }).bump := by
  have hopen : (s.sq q).open = false := by simp [SubRing.open, hstate]
  rw [State.sqTail, if_neg (not_not_intro hown), if_neg (by simp [hopen]), if_neg (by simp [hstate, hen])]

/-- A command that does not find what it needs changes nothing. -/
theorem whenReady_not {ok : Bool} (h : ok = false) (s t : State) : whenReady ok s t = .next s := by
  simp [whenReady, h]

/-- Settles O37: each command by what its writer and its ring are; the lemmas above say what that leaves. -/
theorem ringRegistersComplete : Obligations.RingRegistersComplete := by
  refine ⟨fun who ring value s hw hopen hon => ?enables, fun who ring value s hw hen hoff hnone => ?disables,
    fun who ring value s hw => ?cq, fun who d value s hw => ?ctrl, fun who ring value d s c hw hc => ?denied,
    fun d ring value s hown hrun => ⟨fun hfits => ?tail, fun hover hbehind => ?beyond⟩, fun d ring value s hown => ?other,
    fun d ring value s hown hfits => ?head, fun d ring value s hbad => ?badHead⟩
  case enables =>
    obtain ⟨hopen, hoff⟩ := hopen
    refine ⟨_, whenReady_of hw .., ?_⟩
    rw [State.sqCfgWrite_enables hopen hoff hon, State.sq_startRing, State.sq_modSq, State.sq_modSq]
    exact ⟨rfl, rfl, rfl, rfl, rfl, rfl, rfl, rfl, rfl⟩
  case disables =>
    obtain ⟨hhead, htail, -⟩ := s.sqFields_keeps ring.val value.toNat
    refine ⟨_, whenReady_of hw .., ?_⟩
    rw [State.sqCfgWrite_disables hen hoff hnone, State.sq_modSq, State.sq_modSq]
    exact ⟨rfl, rfl, hhead, htail⟩
  case cq =>
    obtain ⟨f, hcq⟩ := s.cq_cqCfgWrite ring.val value.toNat
    refine ⟨_, whenReady_of hw .., ?_⟩
    rw [hcq]
    generalize (bitOf value.toNat 63 && !(s.cq ring.val).enable) = fresh
    cases fresh <;> exact ⟨rfl, rfl, rfl, rfl, rfl, rfl, rfl, rfl, rfl⟩
  case ctrl =>
    refine ⟨_, whenReady_of hw .., ?_⟩
    rw [State.regN, State.reg_doorCtrlWrite]
    exact ⟨RegName.bitOf_written (by decide) (by decide) (by decide) .., RegName.fld_written (by decide) (by decide) ..,
      RegName.fld_written (by decide) (by decide) ..⟩
  case denied =>
    simp only [List.mem_cons, List.not_mem_nil, or_false] at hc
    rcases hc with rfl | rfl | rfl | rfl | rfl <;> exact whenReady_not hw ..
  case tail =>
    obtain ⟨hstate, hen⟩ := hrun
    refine ⟨_, congrArg Host.Outcome.next (State.sqTail_running hown hstate hen), ?_, fun hahead => ?_⟩
    · rw [if_neg (fun h => absurd hfits (Nat.not_le.mpr h.1)), State.sq_bump, State.sq_modSq]
    · rw [State.sqLimit, if_neg (Nat.not_lt.mpr hfits), if_neg (Nat.not_lt.mpr hahead)]
  case beyond =>
    obtain ⟨hstate, hen⟩ := hrun
    refine ⟨_, congrArg Host.Outcome.next (State.sqTail_running hown hstate hen), ?_⟩
    rw [if_pos ⟨hover, hbehind⟩]
    refine ⟨?_, ?_⟩
    · rw [State.sq_stopRing, State.sq_bump, State.sq_modSq, State.sqLimit, if_pos hover]
    · have herr := State.bitOf_stopRing_error ((s.modSq ring.val fun x => { x with
        tail := value.toNat, limit := s.sqLimit x value.toNat }).bump) ring.val 1
      rw [State.sq_bump, State.sq_modSq, hown] at herr
      exact herr
  case other =>
    show Host.Outcome.next (s.sqTail d.val ring.val value.toNat) = _
    rw [State.sqTail, if_pos hown]
  case head =>
    refine ⟨s.cqHead d.val ring.val value.toNat, rfl, ?_⟩
    rw [State.cqHead, if_neg (not_not_intro hown), if_neg (Nat.not_lt.mpr hfits)]
    dsimp only
    obtain ⟨⟨f, hcq⟩, -⟩ := State.coalesce_keeps (s.modCq ring.val fun x => { x with
      head := value.toNat, written := lastN (((s.cq ring.val).tail + 2 ^ 32 - value.toNat) % 2 ^ 32) x.written, fired := false }) ring.val
    rw [hcq, State.cq_modCq]
    exact ⟨rfl, rfl⟩
  case badHead =>
    show Host.Outcome.next (s.cqHead d.val ring.val value.toNat) = _
    rw [State.cqHead]
    by_cases hown : (s.cq ring.val).owner = d.val
    · rw [if_neg (not_not_intro hown), if_neg (not_not_intro hown), if_pos (hbad.resolve_left (not_not_intro hown))]
    · rw [if_pos hown, if_pos hown]

/-! ## Vectors and entries that leave (R382, R387, R394) -/

/-- R382: a vector that is due is sent once. -/
theorem State.raiseCq_due {s : State} {c : Nat} (hdue : (s.cq c).irqEn = true ∧ (s.cq c).fired = false ∧ (s.cq c).pending ≠ 0) :
    s.raiseCq c = (s.modCq c fun x => { x with fired := true }).sendVector (s.cq c).owner (s.cq c).vector := by
  obtain ⟨hirq, hfired, hpending⟩ := hdue
  simp [State.raiseCq, hirq, hfired, hpending]

theorem Door.events_takeEvent (x : Door) : x.takeEvent.events = x.events.drop 1 := by
  unfold Door.takeEvent
  cases x.events <;> simp

/-- Settles O39: what an entry written to a CQ and a vector leave stands in the lemmas above. -/
theorem completionsAndEventsComplete : Obligations.CompletionsAndEventsComplete := by
  refine ⟨fun c s x hx hroom => ?completion, fun d s e he hvalid hroom => ?event, fun c s n l hwritten htime hdue => ?timer⟩
  case completion =>
    have hexec : execCompletionWrite c s = .next (({ s with completions := s.completions.erase x }.cqPut c.val x.tag.toNat
        (cqWord1 (if x.adopted then 0 else (s.sq x.sq).head) x.opcode x.status x.sq) x.d0 x.d1).freeChan x.chan) := by
      rw [execCompletionWrite, hx]
      exact whenReady_of hroom ..
    obtain ⟨htail, -, hmem⟩ := State.cqPut_spec { s with completions := s.completions.erase x } c.val x.tag.toNat
      (cqWord1 (if x.adopted then 0 else (s.sq x.sq).head) x.opcode x.status x.sq) x.d0 x.d1
    refine ⟨_, hexec, ?_, ?_, ?_⟩
    · rw [(State.freeChan_effect ..).1 .completions rfl]
      exact (State.cqPut_effect ..).1 .completions rfl
    · rw [(State.freeChan_effect ..).cq_eq rfl]
      exact htail
    · rw [(State.freeChan_effect ..).mem_eq rfl]
      exact hmem
  case event =>
    obtain ⟨hon, hcq⟩ := hvalid
    have hexec : execEventWrite d s = .next ((s.modDoor d.val Door.takeEvent).cqPut (s.eventCq d.val) (s.door d.val).eventSeq
        (cqWord1 0 0xFF e.kind 0x3FF) e.d0 e.d1) := by
      rw [execEventWrite, he]
      exact whenReady_of (by simp [hon, hcq, hroom]) ..
    obtain ⟨htail, hevents, hmem⟩ := (s.modDoor d.val Door.takeEvent).cqPut_spec (s.eventCq d.val) (s.door d.val).eventSeq
        (cqWord1 0 0xFF e.kind 0x3FF) e.d0 e.d1
    refine ⟨_, hexec, ?_, htail, hmem⟩
    rw [hevents, State.door_modDoor, Door.events_takeEvent]
  case timer =>
    set u := s.reach (n + (s.cq c.val).coalTime * 1000) with hu
    have hexec : execMsiXCoalesceTimer c s = .next (u.raiseCq c.val) := by
      rw [execMsiXCoalesceTimer, hwritten]
      exact whenReady_of (by simpa using htime) ..
    refine ⟨_, hexec, ?_⟩
    rw [State.raiseCq_due (s := u) hdue]
    have hmask : State.regN (u.modCq c.val fun x => { x with fired := true }) .doorMsixCtl ((u.cq c.val).owner * 1024 + (u.cq c.val).vector) =
      s.regN .doorMsixCtl ((s.cq c.val).owner * 1024 + (s.cq c.val).vector) := rfl
    refine ⟨?_, ?_, fun hopen => ?_, fun hmasked => ?_⟩
    · rw [(State.sendVector_effect ..).now_eq rfl]
      exact le_max_right ..
    · rw [(State.sendVector_effect ..).cq_eq rfl, State.cq_modCq]
    · rw [State.sendVector, hmask, hopen]
      rfl
    · rw [State.sendVector, hmask, if_pos hmasked]
      refine ⟨rfl, ?_⟩
      exact congrArg Door.msixPending (State.door_modDoor ..)

end Sys2Proof.Machine

/-! Doors that are down stay down while standbys take over and events are sent. -/
namespace Sys2Proof.Machine

/-! ## Doors that are down stay down (R391) -/

/-- The same doors are down. -/
structure State.SameDown (s t : State) : Prop where
  down : ∀ d, (t.door d).down = (s.door d).down

theorem State.SameDown.refl (s : State) : s.SameDown s := ⟨fun _ => rfl⟩

theorem State.SameDown.trans {s t u : State} (hst : s.SameDown t) (htu : t.SameDown u) : s.SameDown u :=
  ⟨fun d => (htu.down d).trans (hst.down d)⟩

theorem Effect.sameDown {F : List Part} {s t : State} (he : Effect F s t) (hF : F.contains .doors = false) : s.SameDown t :=
  ⟨fun d => congrArg Door.down (he.door_eq hF d)⟩

theorem sameDown_foldl {α : Type} {f : State → α → State} (hf : ∀ (t : State) a, t.SameDown (f t a)) (l : List α) (s : State) :
    s.SameDown (l.foldl f s) := by
  induction l generalizing s with
  | nil => exact .refl s
  | cons a l ih => exact (hf s a).trans (ih (f s a))

/-- R387: an event moves only the events that a door holds and has dropped. -/
theorem State.door_doorEvent (s : State) (d : Nat) (e : Event) (k : Nat) :
    ∃ es n, (s.doorEvent d e).door k = { s.door k with events := es, dropped := n } := by
  have hvalid (k : Nat) : (if s.eventCqValid d then s else s.orReg .doorErr d 64).door k = s.door k := by split <;> rfl
  unfold State.doorEvent
  dsimp only
  split
  · exact ⟨_, _, rfl⟩
  · by_cases hk : k = d
    · subst hk
      split
      · exact ⟨_, _, by rw [State.door_modDoor, hvalid]⟩
      · exact ⟨_, _, by rw [State.door_orReg, State.door_modDoor, hvalid]⟩
    · split
      · exact ⟨_, _, by rw [State.door_modDoor_ne _ _ _ _ hk, hvalid]⟩
      · exact ⟨_, _, by rw [State.door_orReg, State.door_modDoor_ne _ _ _ _ hk, hvalid]⟩

theorem State.door_event (s : State) (kind d0 d1 k : Nat) :
    ∃ es n, (s.event kind d0 d1).door k = { s.door k with events := es, dropped := n } := by
  obtain ⟨es, n, hone⟩ := s.door_doorEvent 0 ⟨kind, d0, d1⟩ k
  obtain ⟨fs, m, htwo⟩ := (s.doorEvent 0 ⟨kind, d0, d1⟩).door_doorEvent 1 ⟨kind, d0, d1⟩ k
  exact ⟨fs, m, by rw [State.event, (State.mirror_effect ..).door_eq rfl, htwo, hone]⟩

theorem State.sameDown_doorEvent (s : State) (d : Nat) (e : Event) : s.SameDown (s.doorEvent d e) := by
  refine ⟨fun k => ?_⟩
  obtain ⟨es, n, hdoor⟩ := s.door_doorEvent d e k
  rw [hdoor]

theorem State.sameDown_event (s : State) (kind d0 d1 : Nat) : s.SameDown (s.event kind d0 d1) := by
  refine ⟨fun k => ?_⟩
  obtain ⟨es, n, hdoor⟩ := s.door_event kind d0 d1 k
  rw [hdoor]

theorem State.sameDown_mgmtEnd (s : State) (c : MgmtCmd) (status : Nat) : s.SameDown (s.mgmtEnd c status) := by
  unfold State.mgmtEnd
  dsimp only
  split
  · refine State.SameDown.trans ?_ (State.sameDown_event ..)
    exact ⟨fun _ => rfl⟩
  · exact ⟨fun _ => rfl⟩

theorem State.sameDown_mgmtDone (s : State) (code arg status : Nat) : s.SameDown (s.mgmtDone code arg status) := by
  unfold State.mgmtDone
  split
  · exact s.sameDown_mgmtEnd ..
  · exact .refl s

theorem State.sameDown_linkDown (s : State) (l cause : Nat) : s.SameDown (s.linkDown l cause) := by
  unfold State.linkDown
  dsimp only
  split
  · exact .refl s
  · refine State.SameDown.trans ?_ (State.sameDown_mgmtDone ..)
    refine State.SameDown.trans ?_ ((State.postDie_effect ..).sameDown rfl)
    refine State.SameDown.trans ?_ (State.sameDown_event ..)
    refine State.SameDown.trans ?_ ((State.orReg_effect ..).sameDown rfl)
    refine State.SameDown.trans ?_ ((forwardAll_effect ..).sameDown rfl)
    exact ⟨fun _ => rfl⟩

theorem State.sameDown_linkCfgWrite (s : State) (l : Nat) (v : W64) : s.SameDown (s.linkCfgWrite l v) := by
  unfold State.linkCfgWrite
  dsimp only
  split
  · exact ⟨fun _ => rfl⟩
  · refine State.SameDown.trans ?_ (State.sameDown_linkDown ..)
    exact ⟨fun _ => rfl⟩

theorem State.sameDown_applySetting (s : State) (key : Nat) (v : List Byte) : s.SameDown (s.applySetting key v) := by
  unfold State.applySetting
  dsimp only
  split
  · exact (State.writeCap_effect ..).sameDown rfl
  · exact (State.thermCfgWrite_effect ..).sameDown rfl
  · exact sameDown_foldl (fun t l => t.sameDown_linkCfgWrite ..) _ s
  · exact sameDown_foldl (fun t w => (State.setRegN_effect ..).sameDown rfl) _ s
  · exact (State.setRegN_effect ..).sameDown rfl
  · exact (State.modLive_effect ..).sameDown rfl
  · exact .refl s

theorem State.sameDown_restoreSettings (s : State) : s.SameDown s.restoreSettings := by
  unfold State.restoreSettings
  split
  · dsimp only
    split
    · refine State.SameDown.trans ?_ (sameDown_foldl (fun t p => t.sameDown_applySetting ..) ..)
      exact ⟨fun _ => rfl⟩
    · exact .refl s
  · exact .refl s

theorem State.sameDown_stopTrial (s : State) (kind state : Nat) : s.SameDown (s.stopTrial kind state) := by
  have hend : s.SameDown (s.endTrial kind state) := (State.endTrial_effect ..).sameDown rfl
  unfold State.stopTrial
  dsimp only
  split
  · exact hend.trans (State.sameDown_restoreSettings _)
  · split
    · split
      · refine hend.trans ?_
        exact ⟨fun _ => rfl⟩
      · exact hend
    · exact hend

theorem State.sameDown_takeover (s : State) (kind : Nat) : s.SameDown (s.takeover kind) := by
  unfold State.takeover
  dsimp only
  split
  · exact .refl s
  · set t := (s.switchDoor kind).modLive _ with ht
    have hswitch : s.SameDown t :=
      ((State.switchDoor_effect ..).sameDown rfl).trans ⟨fun _ => rfl⟩
    have htrial : s.SameDown (if t.trialRuns kind then t.stopTrial kind 3 else t) := by
      split
      · exact hswitch.trans (t.sameDown_stopTrial kind 3)
      · exact hswitch
    split
    · exact htrial.trans (sameDown_foldl (fun t c => t.sameDown_mgmtEnd c 0x14) _ _)
    · exact htrial

theorem State.sameDown_updatePlan (s : State) : s.SameDown s.updatePlan := by
  unfold State.updatePlan
  split
  · exact .refl s
  · refine State.SameDown.trans ?_ (State.sameDown_event ..)
    exact ⟨fun _ => rfl⟩

end Sys2Proof.Machine

/-! A host is lost, returns and adopts rings, and a door goes down (O40). -/
namespace Sys2Proof.Machine

/-! ## Hosts that are lost (R371, R388, R389) -/

theorem State.door_dataLinkDown (s : State) (d : Nat) : (s.dataLinkDown d).door d = { s.door d with
    linkUp := false, lostSince := if (s.door d).hostLost then none else some ((s.door d).lostSince.getD s.now) } := s.door_modDoor ..

/-- R388: rings that are orphaned in turn. -/
theorem sq_orphan_foldl (qs : List Nat) (s : State) (q : Nat) :
    (qs.foldl (fun t q => t.modSq q fun x => { x with state := .orphaned }) s).sq q =
      if q ∈ qs then { s.sq q with state := .orphaned } else s.sq q := by
  induction qs generalizing s with
  | nil => rfl
  | cons p qs ih =>
    rw [List.foldl_cons, ih]
    by_cases hp : q = p
    · subst hp
      rw [State.sq_modSq]
      simp
    · rw [State.sq_modSq_ne _ _ _ _ hp]
      simp [hp]

/-- R388: a door whose host is lost has no ring that runs. -/
theorem State.loseHost_spec (s : State) (d : Nat) : ((s.loseHost d).door d).hostLost = true ∧
    ((s.loseHost d).door d).lostSince = none ∧ ∀ q < 1024, (s.loseHost d).sq q =
      if (s.sq q).owner = d ∧ (s.sq q).state = .running then { s.sq q with state := .orphaned } else s.sq q := by
  unfold State.loseHost
  dsimp only
  set gone := (List.range 1024).filter fun q => (s.sq q).owner == d && (s.sq q).state == .running with hgone
  set t := gone.foldl (fun t q => t.modSq q fun x => { x with state := .orphaned }) s with ht
  obtain ⟨es, n, hdoor⟩ := (t.modDoor d fun x => { x with hostLost := true, lostSince := none }).door_event 6 d gone.length d
  rw [hdoor, State.door_modDoor]
  refine ⟨rfl, rfl, fun q hq => ?_⟩
  rw [(State.event_effect ..).sq_eq rfl, (State.modDoor_effect ..).sq_eq rfl, ht, sq_orphan_foldl]
  simp [hgone, hq]

/-! ## Doors that go down (R391, R494) -/

/-- R391: the door without its rings, completions and descriptors, before its processors' standbys take over. -/
def State.doorGone (s : State) (d : Nat) : State :=
  let mine (q : Nat) : Bool := (s.sq q).owner == d
  let t := { s with
    completions := s.completions.filter fun x => !mine x.sq, descs := s.descs.filter fun x => !mine x.sq
    jobs := s.jobs.filter fun j => !(s.descs.any fun x => x.id == j.id && mine x.sq)
    sqs := s.sqs.filter fun p => p.2.owner != d, cqs := s.cqs.filter fun p => p.2.owner != d
    dws := s.dws.filter fun p => !(isDoorChan p.1 && chanDoor p.1 == d) }
  let t := { t with doors := tset d { down := true } t.doors, pcies := tdel d t.pcies }.resetRegs fun n i =>
    n.row.block == RegBlock.door && i / n.row.count == d
  t.modLive fun l => { l with
    strongDoor := if l.strongDoor = d then 1 - d else l.strongDoor
    standby := l.standby && t.boot.activeDoor == d, hearthStandby := l.hearthStandby && l.hearthDoor == d }

/-- R391, R494: the door down, and the processors of the part that is left. -/
theorem State.doorDown_eq (s : State) (d : Nat) : s.doorDown d =
    (let t := if (s.doorGone d).boot.activeDoor = d then (s.doorGone d).takeover 1 else s.doorGone d
     let t := (if t.live.hearthDoor = d then t.takeover 2 else t).resetModules (104 + d)
     (t.doorEvent (1 - d) ⟨0xA, d, (Config.freeWord s.free 2200).toNat⟩).bump.updatePlan) := rfl

/-- What the standbys that take over, and the plan, may change. -/
def takeoverParts : List Part := [.free, .regs, .sent, .attics, .links, .modules, .doors, .errRings, .wingLogs, .errInFlight, .ceWindows,
  .power, .therm, .boot, .flash, .flashLogs, .plan, .planGen, .planTime, .live, .mailboxStudy]

theorem State.doorDown_keeps (s : State) (d : Nat) :
    (s.doorGone d).SameDown (s.doorDown d) ∧ Effect takeoverParts (s.doorGone d) (s.doorDown d) := by
  set t := if (s.doorGone d).boot.activeDoor = d then (s.doorGone d).takeover 1 else s.doorGone d with ht
  set u := if t.live.hearthDoor = d then t.takeover 2 else t with hu
  have hdown : s.doorDown d = ((u.resetModules (104 + d)).doorEvent (1 - d) ⟨0xA, d, (Config.freeWord s.free 2200).toNat⟩).bump.updatePlan :=
    s.doorDown_eq d
  have hstudy : (s.doorGone d).SameDown t ∧ Effect takeoverParts (s.doorGone d) t := by
    rw [ht]
    split
    · exact ⟨State.sameDown_takeover .., (State.takeover_effect ..).mono (by decide)⟩
    · exact ⟨.refl _, .refl ..⟩
  have hhearth : (s.doorGone d).SameDown u ∧ Effect takeoverParts (s.doorGone d) u := by
    obtain ⟨hsame, heff⟩ := hstudy
    rw [hu]
    split
    · exact ⟨hsame.trans (State.sameDown_takeover ..), (State.takeover_effect ..).next (by decide) heff⟩
    · exact ⟨hsame, heff⟩
  obtain ⟨hsame, heff⟩ := hhearth
  rw [hdown]
  constructor
  · refine State.SameDown.trans ?_ (State.sameDown_updatePlan _)
    refine State.SameDown.trans ?_ ((State.bump_effect ..).sameDown rfl)
    refine State.SameDown.trans ?_ (State.sameDown_doorEvent ..)
    exact hsame.trans ((State.resetModules_effect ..).sameDown rfl)
  · refine (State.updatePlan_effect ..).next (by decide) ?_
    refine (State.bump_effect ..).next (by decide) ?_
    refine (State.doorEvent_effect ..).next (by decide) ?_
    exact (State.resetModules_effect ..).next (by decide) heff

theorem State.doorDown_spec (s : State) (d : Nat) : ((s.doorDown d).door d).down = true ∧
    (s.doorDown d).sqs = s.sqs.filter (fun p => p.2.owner != d) ∧ (s.doorDown d).descs = s.descs.filter (fun x => (s.sq x.sq).owner != d) ∧
    (s.doorDown d).completions = s.completions.filter (fun x => (s.sq x.sq).owner != d) := by
  obtain ⟨hsame, heff, -⟩ := s.doorDown_keeps d
  refine ⟨(hsame.down d).trans ?_, heff .sqs rfl, heff .descs rfl, heff .completions rfl⟩
  exact congrArg Door.down (tgetD_tset_same ..)

/-! ## Configuration (R369, R370) -/

theorem State.pcieOf_configured (s : State) (d : Nat) (q : ConfigRequest) : (s.configured d q).pcieOf d = (s.pcieOf d).config q := by
  unfold State.configured
  cases q <;> exact tgetD_tset_same ..

/-- Settles O40: each command by what it finds; the lemmas above say what the loss of a host and of a door leave. -/
theorem hostLossComplete : Obligations.HostLossComplete := by
  refine ⟨fun d s => ?perst, fun d s hup => ?linkLoss, fun d s n hsince => ?lost, fun who d s hw => ?release, fun d s hruns => ?linkUp,
    fun who d ring s hw hopen => ?adopts, fun who d ring s hw hopen => ?rejects, fun d s hup => ?dies, fun d s i hup => ?header,
    fun d s q hup hready => ?config⟩
  case perst =>
    refine ⟨_, rfl, ?_, ?_, fun hlost => ?_, rfl⟩
    · rw [State.pcieOf, (State.dataLinkDown_effect ..).1 .pcies rfl]
      simp [tgetD]
    · rw [State.door_dataLinkDown]
    · rw [State.door_dataLinkDown]
      exact if_neg fun h => Bool.false_ne_true (hlost.symm.trans h)
  case linkLoss =>
    refine ⟨_, whenReady_of hup .., ?_, fun hlost => ?_, rfl⟩
    · rw [State.door_dataLinkDown]
    · rw [State.door_dataLinkDown, hlost]
      rfl
  case lost =>
    set u := s.reach (n + max 1 (fld (s.regN .doorCtrl d.val) 31 16) * 1000000) with hu
    have hexec : execHostLost d s = .next (u.loseHost d.val) := by
      rw [execHostLost, hsince]
    obtain ⟨hlost, hstop, hrings⟩ := u.loseHost_spec d.val
    refine ⟨_, hexec, hlost, hstop, ?_, hrings⟩
    rw [(State.loseHost_effect ..).now_eq rfl]
    exact le_max_right ..
  case release => exact ⟨_, whenReady_of hw .., s.loseHost_spec d.val⟩
  case linkUp => exact ⟨_, whenReady_of hruns .., s.door_modDoor .., rfl⟩
  case adopts =>
    set t := s.modSq ring.val fun x => { x with owner := d.val, head := 0, tail := 0, limit := 0, enable := true } with ht
    set u := State.modDoor { t with completions := t.completions.map fun x => if x.sq = ring.val then { x with adopted := true } else x }
      d.val fun x => { x with hostLost := x.hostLost && !x.linkUp } with hu
    have hadopt : s.adopt d.val ring.val = u.startRing ring.val := by
      rw [State.adopt, if_neg (by simp [hopen])]
    have hring : u.sq ring.val = { s.sq ring.val with owner := d.val, head := 0, tail := 0, limit := 0, enable := true } := by
      have hmod : t.sq ring.val = { s.sq ring.val with owner := d.val, head := 0, tail := 0, limit := 0, enable := true } := s.sq_modSq ..
      rw [hu, (State.modDoor_effect ..).sq_eq rfl]
      exact hmod
    refine ⟨_, whenReady_of hw .., ?_⟩
    rw [hadopt, State.sq_startRing, hring]
    exact ⟨rfl, rfl, rfl, rfl, rfl⟩
  case rejects =>
    refine (whenReady_of hw ..).trans ?_
    rw [State.adopt, if_pos (by simp [hopen])]
  case dies =>
    refine ⟨_, whenReady_of (by simpa using hup) .., ?_⟩
    exact s.doorDown_spec d.val
  case header =>
    refine (whenReady_of hup ..).trans ?_
    split
    · rfl
    · rfl
  case config =>
    refine ⟨_, whenReady_of hup .., ?_⟩
    rw [if_pos hready]
    refine ⟨s.pcieOf_configured d.val q, fun hq hlost => ?_⟩
    subst hq
    exact (congrArg Door.lostSince (State.door_modDoor ..)).trans (by rw [if_pos rfl]; exact if_neg fun h => Bool.false_ne_true (hlost.symm.trans h))

end Sys2Proof.Machine

/-! Resets of the device (O23). -/
namespace Sys2Proof.Machine

/-! ## What a reset leaves (R438) -/

/-- R438: the bytes that a reset leaves: those of hosts, and those of attics where they are kept. -/
def wipeKeeps (keepAttics : Bool) (k : Nat) : Bool := decide (0x10000000000000 ≤ k) || (keepAttics && decide (k < 0x10000000000))

theorem State.tget_wipe_mem (s : State) (keepAttics : Bool) (hold : HoldKind) (cause k : Nat) :
    tget k (s.wipe keepAttics hold cause).mem = if wipeKeeps keepAttics k = true then tget k s.mem else none := by
  have hmem : (s.wipe keepAttics hold cause).mem = s.mem.filter fun c => wipeKeeps keepAttics c.1 := rfl
  rw [hmem]
  split
  next h => exact tget_filter_key _ k s.mem h
  next h => exact tget_filter_key_out (Bool.eq_false_iff.mpr h) s.mem

theorem State.tget_wipe_cold (s : State) (hold : HoldKind) (cause k : Nat) :
    tget k (s.wipe false hold cause).mem = if 0x10000000000000 ≤ k then tget k s.mem else none := by
  rw [State.tget_wipe_mem]
  simp [wipeKeeps]

/-- What the records and the GOODBYEs that precede a reset may change. -/
theorem goodbyes_deliverAll_effect (s : State) (cause : Nat) :
    Effect [.regs, .sent, .doors, .errInFlight, .deviceLog, .flashLog, .deviceSeq, .links] s (s.deliverAll.goodbyes cause) :=
  (State.goodbyes_effect ..).next (by decide) ((State.deliverAll_effect ..).mono (by decide))

/-- R438, R440: a warm reset records its cause, keeps the failures of starts, and begins phase 1. -/
theorem State.warmReset_spec (s : State) (cause : Nat) :
    (s.warmReset cause).boot.phase = 1 ∧ (s.warmReset cause).boot.hold = .none ∧ (s.warmReset cause).regs = [] ∧
      (s.warmReset cause).rooms = [] ∧ (∃ p, (s.warmReset cause).aon = { s.aon with lastCause := cause, peaks := p }) ∧
      (s.warmReset cause).flashLogs = s.flashLogs ∧
      ∀ k, tget k (s.warmReset cause).mem = if 0x10000000000000 ≤ k ∨ k < 0x10000000000 then tget k s.mem else none := by
  have heff := goodbyes_deliverAll_effect s cause
  have haon : (s.deliverAll.goodbyes cause).aon = s.aon := heff.1 .aon rfl
  refine ⟨rfl, rfl, rfl, rfl, ⟨(s.deliverAll.goodbyes cause).wingPeaks, ?_⟩, heff.1 .flashLogs rfl, fun k => ?_⟩
  · rw [← haon]
    rfl
  · have hwipe := (s.deliverAll.goodbyes cause).tget_wipe_mem true .none cause k
    rw [heff.mem_eq rfl] at hwipe
    simp only [wipeKeeps, Bool.true_and, Bool.or_eq_true, decide_eq_true_eq] at hwipe
    exact hwipe

theorem State.askReset_running {s : State} (h : s.therm.stop = 0) (cause : Nat) : s.askReset cause = s.warmReset cause :=
  if_neg (not_not_intro h)

/-- Settles O23: a power or pin reset is a wipe without attics, any other a warm reset, unless a device stop holds it. -/
theorem deviceResetsComplete : Obligations.DeviceResetsComplete := by
  refine ⟨fun s c hold hc hon => ?power, fun s c cause hc hpower htrip => ?pins, fun s hphase hhalted hstart hstop => ?watchdog,
    fun who key s hw hkey hstop => ?reset, fun who key s hw hkey hstop => ?held, fun who key s hw hkey => ?go,
    fun who key s hw hkey hstop => ?retry, fun straps s hhold => ?edge, fun s hhold => ?wait⟩
  case power =>
    simp only [List.mem_cons, List.not_mem_nil, or_false, Prod.mk.injEq] at hc
    obtain ⟨rfl, rfl⟩ | ⟨rfl, rfl⟩ := hc
    · exact ⟨_, whenReady_of (by simpa using hon rfl) .., rfl, rfl, rfl, rfl, rfl, rfl, rfl, s.tget_wipe_cold .pins 0⟩
    · exact ⟨_, rfl, rfl, rfl, rfl, rfl, rfl, rfl, rfl, s.tget_wipe_cold .power 0⟩
  case pins =>
    have hreset (cause : Nat) : s.pinReset cause = s.wipe false .pins cause := by
      rw [State.pinReset, if_neg hpower, if_neg htrip]
    simp only [List.mem_cons, List.not_mem_nil, or_false, Prod.mk.injEq] at hc
    obtain ⟨rfl, rfl⟩ | ⟨rfl, rfl⟩ := hc
    · refine ⟨{ s.wipe false .pins 1 with test := { s.test with pwrGood := false } }, ?_, rfl, rfl, rfl, rfl, rfl, rfl, s.tget_wipe_cold .pins 1⟩
      rw [← hreset]
      rfl
    · refine ⟨{ s.wipe false .pins 2 with test := { s.test with resetN := false } }, ?_, rfl, rfl, rfl, rfl, rfl, rfl, s.tget_wipe_cold .pins 2⟩
      rw [← hreset]
      rfl
  case watchdog =>
    have hpost := s.postDie_effect 0x54 (104 + s.boot.activeDoor) 0
    set u := { s.postDie 0x54 (104 + s.boot.activeDoor) 0 with aon := { (s.postDie 0x54 (104 + s.boot.activeDoor) 0).aon with
      failReason := 9, failPhase := s.boot.phase, failCount := min 15 ((s.postDie 0x54 (104 + s.boot.activeDoor) 0).aon.failCount + 1) } } with hu
    have hcount : (s.postDie 0x54 (104 + s.boot.activeDoor) 0).aon.failCount = s.aon.failCount := congrArg _ (hpost.1 .aon rfl)
    have hrun : u.therm.stop = 0 := (congrArg ThermB.stop (hpost.1 .therm rfl)).trans hstop
    have hreset : s.watchdog = u.warmReset 7 := by
      rw [State.watchdog, if_pos hstart]
      exact State.askReset_running hrun 7
    obtain ⟨hone, -, -, -, ⟨p, haon⟩, -, -⟩ := u.warmReset_spec 7
    refine ⟨s.watchdog, whenReady_of (by simpa [hphase] using hhalted) .., ?_⟩
    rw [hreset, haon]
    exact ⟨rfl, rfl, congrArg (fun n => min 15 (n + 1)) hcount, rfl, hone⟩
  case reset =>
    subst hkey
    refine ⟨s.warmReset 8, ?_, ?_⟩
    · rw [← State.askReset_running hstop]
      exact whenReady_of (by simp [hw, bootKey]) ..
    · obtain ⟨hphase, hhold, hregs, hrooms, ⟨p, haon⟩, -, hmem⟩ := s.warmReset_spec 8
      exact ⟨by rw [haon], hphase, hhold, hregs, hrooms, hmem⟩
  case held =>
    subst hkey
    refine ⟨_, whenReady_of (by simp [hw, bootKey]) .., ?_⟩
    rw [State.askReset, if_pos hstop]
    exact ⟨rfl, rfl, rfl⟩
  case go =>
    subst hkey
    exact whenReady_of (by simp [hw, bootKey]) ..
  case retry =>
    subst hkey
    set u := { s with
      aon := { s.aon with failCount := 0 }
      flashLogs := { s.flashLogs with start := s.flashLogs.start ++ [(⟨s.flashLogs.start.length, 0x0F, 0, 0⟩ : StartRecord)] } } with hu
    have hretry : s.retry = u.warmReset 8 := State.askReset_running (s := u) hstop 8
    refine ⟨s.retry, whenReady_of (by simp [hw, bootKey]) .., ?_⟩
    obtain ⟨hphase, -, -, -, ⟨p, haon⟩, hlogs, -⟩ := u.warmReset_spec 8
    rw [hretry, haon, hlogs]
    exact ⟨rfl, rfl, hphase⟩
  case edge =>
    refine ⟨_, whenReady_of (by simp [hhold]) .., ?_⟩
    rw [if_pos hhold]
    exact ⟨rfl, rfl, rfl, rfl, rfl⟩
  case wait => exact ⟨_, whenReady_of (by simp [hhold]) .., rfl, rfl, le_max_right ..⟩

end Sys2Proof.Machine

/-! ## Management protocols: the effecters' words and the answers -/

namespace Sys2Proof.Machine

/-- R425: the two fields of a cooling report, as an effecter request forms the register from them. -/
theorem coolWord_fields (flow inlet : Byte) :
    fld (flow.toNat * 65536 + inlet.toNat) 23 16 = flow.toNat ∧ fld (flow.toNat * 65536 + inlet.toNat) 7 0 = inlet.toNat := by
  have hf := flow.isLt
  have hi := inlet.isLt
  simp only [fld]
  omega

theorem byte_eq_zero_iff (b : Byte) : b.toNat = 0 ↔ b = 0 := by
  rw [← BitVec.toNat_inj]
  rfl

/-- R425: what a PLDM effecter request leaves of the cooling report. -/
theorem State.pldmCooling_report (s : State) (flow inlet : Byte) :
    (s.pldmPlatform (.setCooling flow inlet)).therm.report =
      if flow = 0 ∧ inlet = 0 then none else some (flow.toNat, inlet.toNat, s.now) := by
  have h := (s.coolWrite_therm (flow.toNat * 65536 + inlet.toNat)).1
  simp only [coolWord_fields, byte_eq_zero_iff] at h
  exact h

/-- Settles O47: a request that its part may answer is answered with the message of its command, and the effecters and updates do what
their register or mailbox command does. -/
theorem managementProtocolsComplete : Obligations.ManagementProtocolsComplete := by
  refine ⟨fun d s b e h => ⟨_, whenReady_of h .., tget_tset_same ..⟩, fun d s b h => whenReady_of h ..,
    fun s p i n f e h => ?platform, fun s k l h hk => ?stage, fun s k h hstate hk => ?activate, fun s c m h hc => ?spdm,
    fun s i l h => ⟨whenReady_of h .., whenReady_of h ..⟩⟩
  case platform =>
    have hready : (s.managed && !s.boot.recovery) = true := by simp [h.1, h.2]
    exact ⟨whenReady_of hready .., whenReady_of hready .., ⟨_, whenReady_of hready .., rfl⟩,
      ⟨_, whenReady_of hready .., s.pldmCooling_report f e⟩⟩
  case stage =>
    refine (whenReady_of h ..).trans ?_
    simp [State.pldmUpdate, hk.1, hk.2]
  case activate =>
    obtain ⟨hkind, hslot, htrial⟩ := hk
    have hidle : ¬(s.boot.state = 2 ∨ s.boot.state = 3) := not_or.mpr hstate
    have hnone : (s.trialSlot k).isNone = false := by simpa using hslot
    constructor <;> intro hstandby <;> refine (whenReady_of h ..).trans ?_ <;>
      simp [State.pldmUpdate, hidle, hkind, hnone, htrial, hstandby]
  case spdm =>
    simp only [List.mem_cons, List.not_mem_nil, or_false, Prod.mk.injEq] at hc
    obtain ⟨rfl, rfl⟩ | ⟨rfl, rfl⟩ | ⟨rfl, rfl⟩ | ⟨rfl, rfl⟩ | ⟨rfl, rfl⟩ := hc
    all_goals exact whenReady_of h ..

end Sys2Proof.Machine

/-! ## What the ends of commands leave of the live settings, and what a plan's update leaves -/

namespace Sys2Proof.Machine

section
variable {F : List Part} {s t : State} (he : Effect F s t)
include he

theorem Effect.room_eq (hF : F.contains .rooms = false) (r : Nat) : t.room r = s.room r := by
  simp only [State.room, show t.rooms = s.rooms from he.1 .rooms hF]

theorem Effect.wing_eq (hF : F.contains .wings = false) (w : Nat) : t.wing w = s.wing w := by
  simp only [State.wing, show t.wings = s.wings from he.1 .wings hF]

theorem Effect.hartAt_eq (hF : F.contains .harts = false) (k : Nat) : t.hartAt k = s.hartAt k := by
  simp only [State.hartAt, show t.harts = s.harts from he.1 .harts hF]

theorem Effect.boot_eq (hF : F.contains .boot = false) : t.boot = s.boot := he.1 .boot hF

theorem Effect.live_eq (hF : F.contains .live = false) : t.live = s.live := he.1 .live hF

end

/-- The live settings are kept but for the commands that are held. -/
structure State.SameLive (s t : State) : Prop where
  eq : ∃ c, t.live = { s.live with cmds := c }

theorem State.SameLive.refl (s : State) : s.SameLive s := ⟨_, rfl⟩

theorem State.SameLive.trans {s t u : State} (hst : s.SameLive t) (htu : t.SameLive u) : s.SameLive u := by
  obtain ⟨c, hc⟩ := hst
  obtain ⟨d, hd⟩ := htu
  exact ⟨d, by rw [hd, hc]⟩

theorem Effect.sameLive {F : List Part} {s t : State} (he : Effect F s t) (hF : F.contains .live = false) : s.SameLive t :=
  ⟨s.live.cmds, he.live_eq hF⟩

theorem State.SameLive.running_eq {s t : State} (h : s.SameLive t) : t.live.running = s.live.running := by
  obtain ⟨c, hc⟩ := h
  rw [hc]

theorem State.SameLive.foldl {α : Type} {f : State → α → State} (hf : ∀ (t : State) a, t.SameLive (f t a)) (l : List α) (s : State) :
    s.SameLive (l.foldl f s) := by
  induction l generalizing s with
  | nil => exact .refl s
  | cons a l ih => exact (hf s a).trans (ih (f s a))

theorem State.sameLive_mgmtEnd (s : State) (c : MgmtCmd) (status : Nat) : s.SameLive (s.mgmtEnd c status) := by
  have hdrop : s.SameLive { s with live := { s.live with cmds := s.live.cmds.filter fun x => x.id != c.id } } := ⟨_, rfl⟩
  unfold State.mgmtEnd
  dsimp only
  split
  · exact hdrop.trans ((State.event_effect ..).sameLive rfl)
  · exact ⟨_, rfl⟩

theorem State.sameLive_mgmtDone (s : State) (code arg status : Nat) : s.SameLive (s.mgmtDone code arg status) := by
  unfold State.mgmtDone
  split
  · exact s.sameLive_mgmtEnd ..
  · exact .refl s

theorem State.sameLive_linkDown (s : State) (l cause : Nat) : s.SameLive (s.linkDown l cause) := by
  unfold State.linkDown
  dsimp only
  split
  · exact .refl s
  · refine State.SameLive.trans ?_ (State.sameLive_mgmtDone ..)
    refine State.SameLive.trans ?_ ((State.postDie_effect ..).sameLive rfl)
    refine State.SameLive.trans ?_ ((State.linkReport_effect ..).sameLive rfl)
    refine State.SameLive.trans ?_ ((forwardAll_effect ..).sameLive rfl)
    exact ⟨_, rfl⟩

theorem State.sameLive_porchLinksDown (s : State) (p : Nat) : s.SameLive (s.porchLinksDown p) := by
  refine State.SameLive.foldl (fun t k => ?_) _ s
  split
  · exact .refl t
  · exact t.sameLive_linkDown ..

theorem State.sameLive_porchOut (s : State) (p : Nat) : s.SameLive (s.porchOut p) :=
  ((State.modDie_effect ..).sameLive rfl).trans (State.sameLive_porchLinksDown ..)

theorem State.sameLive_wingDown (s : State) (w reason : Nat) : s.SameLive (s.wingDown w reason) := by
  unfold State.wingDown
  dsimp only
  refine State.SameLive.trans ?_ (State.SameLive.foldl (fun t p => ?_) _ _)
  · exact State.SameLive.trans ((State.modWing_effect ..).sameLive rfl)
      (State.SameLive.foldl (fun t r => (State.modRoom_effect ..).sameLive rfl) _ _)
  · split
    · exact t.sameLive_porchLinksDown p
    · exact .refl t

section
variable {n : RegName} (hn : reportRegs.contains n = false)
include hn

theorem State.reg_publish (s : State) (i : Nat) : s.publish.reg n i = s.reg n i := State.reg_event hn ..

theorem State.reg_updatePlan (s : State) (i : Nat) : s.updatePlan.reg n i = s.reg n i := by
  unfold State.updatePlan
  split
  · rfl
  · exact s.reg_publish hn i

end

end Sys2Proof.Machine

/-! ## The later phases of a start -/

namespace Sys2Proof.Machine

/-- R455: no wing goes down when the wings that are fit are taken into service. -/
theorem State.wingsUp_modWing_up (s : State) (w : Nat) : s.wingsUp ≤ (s.modWing w fun _ => ⟨0, 1⟩).wingsUp := by
  unfold State.wingsUp
  rw [← List.countP_eq_length_filter, ← List.countP_eq_length_filter]
  refine List.countP_mono_left fun x _ hx => ?_
  by_cases h : x = w
  · subst h
    simp [State.wing, State.modWing, tgetD_tset_same]
  · simpa [State.wing, State.modWing, tgetD_tset_ne _ _ _ _ _ h] using hx

theorem State.wingsUp_fitWings (s : State) (l : List Nat) :
    s.wingsUp ≤ (l.foldl (fun t w => if s.wingFit w then t.modWing w fun _ => ⟨0, 1⟩ else t) s).wingsUp := by
  suffices h : ∀ t : State, t.wingsUp ≤ (l.foldl (fun t w => if s.wingFit w then t.modWing w fun _ => ⟨0, 1⟩ else t) t).wingsUp from h s
  induction l with
  | nil => exact fun t => le_rfl
  | cons w l ih =>
    intro t
    refine le_trans ?_ (ih _)
    dsimp only
    split
    · exact t.wingsUp_modWing_up w
    · exact le_rfl

/-- R449, R455: phase 5 ends with a share where a wing is up. -/
theorem State.hallStairs_spec (s : State) (hup : s.wingsUp ≠ 0) : s.hallStairs.boot.phase = 6 ∧ 0 < s.hallStairs.power.share := by
  set t := (List.range 24).foldl (fun t w => if s.wingFit w then t.modWing w fun _ => ⟨0, 1⟩ else t) s with ht
  set u := t.modPower fun p => { p with share := max 1 t.wingsUp } with hu
  have hmore : s.wingsUp ≤ u.wingsUp := s.wingsUp_fitWings _
  have hnone : ¬u.wingsUp = 0 := by omega
  have hstairs : s.hallStairs = u.rebuild.toPhase 6 := if_neg hnone
  have hpower : u.rebuild.power = u.power := u.rebuild_effect.power_eq rfl
  rw [hstairs]
  refine ⟨rfl, ?_⟩
  show 0 < u.rebuild.power.share
  rw [hpower]
  exact Nat.le_max_left ..

/-- R453: an image that has a slot is broadcast and runs. -/
theorem State.broadcastImage_spec (s : State) {kind : Nat} {failed : List Nat} {e : DirEntry} (he : s.bootEntry kind = some e) :
    (s.broadcastImage kind failed).boot.broadcast.contains kind = true ∧
      tget kind (s.broadcastImage kind failed).live.running = some e.slot := by
  set img := s.imageBytes e.off e.len
  set t := (s.measure (kind + 2) img).modBoot fun b => { b with
      broadcast := ninsert kind b.broadcast, bootCode := if kind = 4 then img else b.bootCode } with ht
  set u := t.modLive fun l => { l with running := tset kind e.slot l.running } with hu
  set v := failed.foldl (fun t i =>
      if kind = 5 then (if i < 8 then t.porchOut i else t) else if i < 24 then t.wingDown i 0x43 else t) u with hv
  have hcast : s.broadcastImage kind failed =
      if kind ≠ 5 ∧ v.boot.broadcast.contains 3 ∧ v.boot.broadcast.contains 4 then v.releaseAll else v := by
    simp only [State.broadcastImage, he]
    rfl
  have hlost : v.boot = u.boot ∧ u.SameLive v := by
    refine ⟨Effect.boot_eq (F := [.regs, .rooms, .sent, .attics, .wings, .dies, .links, .doors, .errRings, .wingLogs, .errInFlight,
      .ceWindows, .live, .mailboxStudy]) (Effect.foldl (fun t i => ?_) (Effect.refl ..)) rfl, State.SameLive.foldl (fun t i => ?_) _ u⟩
    · split
      · split
        · exact (t.porchOut_effect i).mono (by decide)
        · exact .refl ..
      · split
        · exact (t.wingDown_effect i 0x43).mono (by decide)
        · exact .refl ..
    · split
      · split
        · exact t.sameLive_porchOut i
        · exact .refl t
      · split
        · exact t.sameLive_wingDown i 0x43
        · exact .refl t
  have hrelease : (s.broadcastImage kind failed).boot = v.boot ∧ (s.broadcastImage kind failed).live = v.live := by
    rw [hcast]
    split
    · exact ⟨v.releaseAll_effect.boot_eq rfl, v.releaseAll_effect.live_eq rfl⟩
    · exact ⟨rfl, rfl⟩
  obtain ⟨hboot, hlive⟩ := hlost
  rw [hrelease.1, hrelease.2, hboot, hlive.running_eq]
  exact ⟨self_mem_ninsert .., tget_tset_same ..⟩

/-- R454, R455: a room whose boot code reports 0 enters service. -/
theorem State.bootEnds_pass (s : State) {r : Nat} (hphase : (s.room r).phase = .startBoot) (hstate : (s.room r).cond.state ≤ 2) :
    ((s.bootEnds r true).room r).phase = .inService ∧ ((s.bootEnds r true).hartAt (r * 32)).idle = true ∧
      (s.bootEnds r true).reg .wingBootResult r = s.reg .wingBootResult r := by
  set t := s.modHartAt (r * 32) fun h => { h with idle := true, wait := .none } with ht
  have hends : s.bootEnds r true = (t.setPhase r .inService).updatePlan := by
    simp [State.bootEnds, hphase, hstate, ht]
  rw [hends, (State.updatePlan_effect _).room_eq rfl, (State.updatePlan_effect _).hartAt_eq rfl, State.reg_updatePlan (by decide)]
  refine ⟨?_, ?_, rfl⟩
  · rw [State.setPhase, State.room_modRoom]
  · show (t.hartAt (r * 32)).idle = true
    rw [ht, State.hartAt_modHartAt]

/-- R454: a room whose boot code fails outside a trial is stopped. -/
theorem State.bootEnds_fail (s : State) {r : Nat} (hphase : (s.room r).phase = .startBoot) (htrial : tget 4 s.live.trials = none) :
    ((s.bootEnds r false).room r).phase = .stopped ∧ ((s.bootEnds r false).room r).cond.state = 4 ∧
      ((s.bootEnds r false).room r).cond.reason = 0x15 ∧ (s.bootEnds r false).now = s.now := by
  set t := s.modHartAt (r * 32) fun h => { h with idle := true, wait := .none } with ht
  set u := t.modRoom r fun x => { x with phase := .stopped, cond := { x.cond with state := 4, reason := 0x15 } } with hu
  have hends : s.bootEnds r false = (u.postRoom 0x15 r (s.regN .wingBootResult r)).updatePlan := by
    simp [State.bootEnds, hphase, htrial, ht, hu]
  have hroom : (u.postRoom 0x15 r (s.regN .wingBootResult r)).updatePlan.room r = u.room r :=
    ((State.updatePlan_effect _).room_eq rfl r).trans ((State.postRoom_effect ..).room_eq rfl r)
  have hout : u.room r = { t.room r with phase := .stopped, cond := { (t.room r).cond with state := 4, reason := 0x15 } } :=
    State.room_modRoom ..
  rw [hends, hroom, hout]
  exact ⟨rfl, rfl, rfl, ((State.updatePlan_effect _).now_eq rfl).trans ((State.postRoom_effect ..).now_eq rfl)⟩

/-- R118, R455, R496: phase 8 ends in READY, with the plan published and a new ceiling of epochs. -/
theorem State.ready_spec (s : State) :
    s.ready.boot.state = 1 ∧ s.ready.boot.short = s.isShort ∧ s.ready.plan.isSome = true ∧
      s.ready.flashLogs.epochCeiling = (s.flashLogs.epochCeiling + 64) % 2 ^ 32 := by
  set a := ({ s with flashLogs := { s.flashLogs with epochCeiling := (s.flashLogs.epochCeiling + 64) % 2 ^ 32 } } : State) with ha
  have hread : s.readySettings.flashLogs = a.flashLogs :=
    (Effect.foldl (F := [.regqs]) (b := a.readSettings) (fun t r => t.applyRegs_effect r) (Effect.refl ..)).1 .flashLogs rfl |>.trans (a.readSettings_effect.1 .flashLogs rfl)
  set t := s.readySettings.clearFail.modBoot fun b => { b with state := 1, short := s.isShort } with ht
  set u := if s.isShort then t.postDie 0x52 t.hearthDie (s.goodRooms (List.range 768)) else t with hu
  have hpost : u.boot = t.boot ∧ u.flashLogs = t.flashLogs := by
    rw [hu]
    split
    · exact ⟨(State.postDie_effect ..).boot_eq rfl, (State.postDie_effect ..).1 .flashLogs rfl⟩
    · exact ⟨rfl, rfl⟩
  have hready : s.ready = u.publish.closeAttempt 0x3F 0 0 := rfl
  have hclose := u.publish.closeAttempt_effect 0x3F 0 0
  have hboot : s.ready.boot = t.boot := by
    rw [hready, hclose.boot_eq rfl, u.publish_effect.boot_eq rfl, hpost.1]
  have hplan : s.ready.plan = u.publish.plan := hclose.1 .plan rfl
  have hevent : u.publish.plan = some u.currentPlan := (State.event_effect ..).1 .plan rfl
  have hceiling (v : State) : (v.closeAttempt 0x3F 0 0).flashLogs.epochCeiling = v.flashLogs.epochCeiling := by
    unfold State.closeAttempt
    split
    · split <;> rfl
    · rfl
  have hclear (v : State) (f : BootB → BootB) : (v.clearFail.modBoot f).flashLogs = v.flashLogs := rfl
  have hset : t.boot = { s.readySettings.clearFail.boot with state := 1, short := s.isShort } := rfl
  refine ⟨by rw [hboot, hset], by rw [hboot, hset], by rw [hplan, hevent]; rfl, ?_⟩
  rw [hready, hceiling, show u.publish.flashLogs = u.flashLogs from u.publish_effect.1 .flashLogs rfl, hpost.2,
    ht, hclear s.readySettings, hread]

/-- R457: a failed start is noted, and the next begins. -/
theorem State.failStart_spec (s : State) (reason : Nat) :
    (∃ c, (s.failStart reason).aon = { s.aon with
        failReason := reason, failPhase := s.boot.phase, failCount := min 15 (s.aon.failCount + 1), lastCause := 9, peaks := c }) ∧
      (s.failStart reason).boot.phase = 1 ∧ (s.failStart reason).boot.failing = none := by
  set a := ({ s with aon := { s.aon with
    failReason := reason, failPhase := s.boot.phase, failCount := min 15 (s.aon.failCount + 1) } } : State) with ha
  set t := if a.boot.attempt then a.closeAttempt 0x1F reason s.boot.phase else a with ht
  set u := t.postDie 0x53 (104 + s.boot.activeDoor) reason with hu
  have haon : u.aon = a.aon := by
    rw [hu, show (t.postDie 0x53 (104 + s.boot.activeDoor) reason).aon = t.aon from (State.postDie_effect ..).1 .aon rfl, ht]
    split
    · exact (a.closeAttempt_effect ..).1 .aon rfl
    · rfl
  obtain ⟨hphase, -, -, -, ⟨p, hp⟩, -, -⟩ := u.warmReset_spec 9
  have hfail : s.failStart reason = u.warmReset 9 := rfl
  rw [hfail]
  exact ⟨⟨p, by rw [hp, haon]⟩, hphase, rfl⟩

/-- Settles O26: each phase's end is one of the outcomes named in the lemmas above, and no report moves what the phase set. -/
theorem startPhasesFiveToEight : Obligations.StartPhasesFiveToEight := by
  refine ⟨fun s hphase hmods hstairs hup => ⟨_, whenReady_of (by simp [hphase, hmods, hstairs]) .., s.hallStairs_spec hup⟩,
    fun kind failed s hphase hkind hnew => ⟨_, whenReady_of (by rw [hphase, hnew, decide_eq_true hkind]; rfl) .., fun e he => s.broadcastImage_spec he,
      fun he hfive => ?noImage⟩,
    fun r value s hphase hnone hstate hzero => ?report, fun r s hphase hnone htrial => ?silent, fun s hphase hcast hrooms => ?rooms,
    fun s hphase hlinks => whenReady_of (by simp [hphase, hlinks]) .., fun s hphase => ⟨_, whenReady_of hphase .., s.ready_spec⟩,
    fun s hphase hin => ?timeout, fun s reason hfail => ?failed⟩
  case noImage =>
    rw [State.broadcastImage]
    simp only [he, hfive, if_false]
    rfl
  case report =>
    have hboot : (s.room r.val).booting = true := by simp [Room.booting, hphase, hnone]
    refine ⟨_, whenReady_of hboot .., ?_⟩
    set t := s.setReg .wingBootResult r.val value with ht
    have hres : s.bootResult r.val value = t.bootEnds r.val true := by
      simp [State.bootResult, hphase, hnone, hzero, ht]
    obtain ⟨hin, hidle, hreg⟩ := t.bootEnds_pass hphase hstate
    rw [hres, hreg]
    exact ⟨hin, s.reg_setReg .., hidle⟩
  case silent =>
    have hboot : (s.room r.val).booting = true := by simp [Room.booting, hphase, hnone]
    refine ⟨_, whenReady_of hboot .., ?_⟩
    obtain ⟨hstop, hstate, hreason, hnow⟩ := (s.reach ((s.room r.val).bootSince + 2000000)).bootEnds_fail hphase htrial
    exact ⟨hstop, hstate, hreason, by rw [hnow]; exact le_max_right ..⟩
  case rooms =>
    refine ⟨_, whenReady_of (by simp [hphase, hcast, hrooms]) .., fun hgood => ?_, fun hbad => ?_⟩
    · rw [if_pos hgood]
      rfl
    · rw [hbad, if_neg Bool.false_ne_true]
      rfl
  case timeout =>
    refine ⟨_, whenReady_of (by simp [hphase, hin]) .., fun h => ?_, fun h => ?_, ?_⟩
    · rw [if_pos h]
      rfl
    · rw [if_neg h]
      rfl
    · split <;> exact le_max_right ..
  case failed =>
    refine ⟨s.failStart reason, ?_, ?_⟩
    · show execFailedStart s = _
      rw [execFailedStart, hfail]
    · obtain ⟨⟨c, haon⟩, hphase, hnone⟩ := s.failStart_spec reason
      rw [haon]
      exact ⟨rfl, rfl, rfl, rfl, hphase, hnone⟩

end Sys2Proof.Machine

/-! ## Commands of the study on rooms and wings: what stands when one starts (R386, R483) -/

namespace Sys2Proof.Machine

theorem mgmtRun_found {code id : Nat} {s : State} {c : MgmtCmd} {f : MgmtCmd → State}
    (hc : s.live.cmds.find? (fun x => x.id == id && x.code == code && !x.begun) = some c) (hans : s.studyAnswers = true) :
    mgmtRun code id s f = .next (f c) := by
  rw [mgmtRun, hc]
  exact whenReady_of hans ..

/-- The first answer moves of the live settings only the command that it answers. -/
theorem State.live_mgmtAnswer (s : State) (c : MgmtCmd) (status d0 d1 : Nat) :
    (s.mgmtAnswer c status d0 d1).live = { s.live with cmds :=
      (s.live.cmds.filter fun x => x.id != c.id) ++ if status = 0x20 then [{ c with accepted := true }] else [] } := by
  set t := if c.ring then s.complete c.id status d0 d1 else s.mailboxAnswer 0x10 status c.tag d0 d1 with ht
  have hlive : t.live = s.live := by
    rw [ht]
    split
    · exact (s.complete_effect ..).live_eq rfl
    · rfl
  have hans : s.mgmtAnswer c status d0 d1 =
      if status = 0x20 then (t.dropCmd c.id).addCmd { c with accepted := true } else t.dropCmd c.id := rfl
  rw [hans]
  split <;> simp [State.addCmd, State.dropCmd, State.modLive, hlive]

/-- An accepted command that is begun. -/
def State.hasBegun (s : State) (id : Nat) : Bool := s.live.cmds.any fun x => x.id == id && x.accepted && x.begun

theorem State.hasBegun_beginCmd (s : State) {c x : MgmtCmd} (hmem : x ∈ s.live.cmds) (hid : x.id = c.id) (hacc : x.accepted = true) :
    (s.beginCmd c).hasBegun c.id = true :=
  List.any_eq_true.mpr ⟨{ x with begun := true, since := s.now }, List.mem_map.mpr ⟨x, hmem, if_pos hid⟩, by simp [hid, hacc]⟩

/-- No earlier accepted command stands on the room or wing of a command. -/
def State.standsFree (s : State) (c : MgmtCmd) : Bool :=
  !(if c.accepted then s.live.cmds.takeWhile (fun x => x.id != c.id) else s.live.cmds).any fun x =>
    x.id != c.id && x.accepted && targetsClash x.target c.target

theorem State.clash_accepted (s : State) {c : MgmtCmd} (hfree : s.standsFree c = true) (hacc : c.accepted = true) : s.clash c = false := by
  simp only [State.standsFree, hacc, if_true, Bool.not_eq_true', List.any_eq_false] at hfree
  refine List.any_eq_false.mpr fun x hx => ?_
  have hne : (x.id != c.id) = true := List.mem_takeWhile_imp (p := fun x : MgmtCmd => x.id != c.id) hx
  simpa [hne] using hfree x hx

theorem State.clash_mgmtAnswer (s : State) {c : MgmtCmd} (hfree : s.standsFree c = true) (hacc : c.accepted = false) :
    (s.mgmtAnswer c 0x20 0 0).clash c = false := by
  simp only [State.standsFree, hacc, Bool.false_eq_true, if_false, Bool.not_eq_true', List.any_eq_false] at hfree
  refine List.any_eq_false.mpr fun x hx => ?_
  have hne : (x.id != c.id) = true := List.mem_takeWhile_imp (p := fun x : MgmtCmd => x.id != c.id) hx
  have hin := (List.takeWhile_sublist _).subset hx
  rw [State.live_mgmtAnswer, if_pos rfl, List.mem_append, List.mem_filter, List.mem_singleton] at hin
  obtain ⟨hold, -⟩ | rfl := hin
  · simpa [hne] using hfree x hold
  · simp at hne

/-- R386, R483: a command that is accepted, or that its check lets pass, and that nothing holds back, starts. -/
theorem State.serviceCmd_starts (s : State) {c : MgmtCmd} {check : Option Nat} {can : Bool} {start : State → State}
    (hmem : c ∈ s.live.cmds) (hfull : c.accepted = false → s.studyFull = false) (hcheck : check = none) (hcan : can = true)
    (hfree : s.standsFree c = true) :
    ∃ u, s.serviceCmd c check can start = start u ∧ Effect [.sqs, .descs, .completions, .live, .mailboxStudy] s u ∧
      u.hasBegun c.id = true := by
  subst hcheck hcan
  by_cases hacc : c.accepted = true
  · refine ⟨s.beginCmd c, ?_, (s.beginCmd_effect c).mono (by decide), s.hasBegun_beginCmd hmem rfl hacc⟩
    simp [State.serviceCmd, hacc, s.clash_accepted hfree hacc]
  · have hnew : c.accepted = false := Bool.eq_false_iff.mpr hacc
    refine ⟨(s.mgmtAnswer c 0x20 0 0).beginCmd c, ?_, (State.beginCmd_effect ..).next (by decide) (s.mgmtAnswer_effect ..),
      State.hasBegun_beginCmd (x := { c with accepted := true }) _ ?_ rfl rfl⟩
    · simp [State.serviceCmd, hnew, hfull hnew, s.clash_mgmtAnswer hfree hnew]
    · rw [State.live_mgmtAnswer, if_pos rfl]
      exact List.mem_append_right _ (List.mem_singleton_self _)

/-- R386: a new command whose check fails is answered with the status of the check. -/
theorem State.serviceCmd_refused (s : State) {c : MgmtCmd} {can : Bool} {start : State → State} (st : Nat) (hnew : c.accepted = false) :
    s.serviceCmd c (some st) can start = s.mgmtAnswer c st 0 0 := by
  simp [State.serviceCmd, hnew]

/-! ## Resets of blocks that are decided (R439) -/

section
variable (s : State) {k : Nat} (goal : BlockGoal) (hpower : s.unpowered = false) (hnone : s.blockReset k = none)
include hpower hnone

/-- R439: the reset of a room is asked for. -/
theorem State.startReset_room (hk : k < 768) (hwing : s.blockReset (768 + k / 32) = none) :
    ((s.startReset k goal).room k).phase = .resetRequest ∧ ((s.startReset k goal).room k).cond = (s.room k).cond ∧
      (s.startReset k goal).blockReset k = some { goal := goal, since := s.now } := by
  have hstart : s.startReset k goal = ((s.endBlock k).setPhase k .resetRequest).setBlock k { goal := goal, since := s.now } := by
    simp [State.startReset, hpower, hnone, hwing, blockRooms, hk]
  have hroom : (s.startReset k goal).room k = { s.room k with phase := .resetRequest } := by
    rw [hstart]
    exact (s.endBlock k).room_modRoom k fun x => { x with phase := .resetRequest }
  rw [hroom]
  refine ⟨rfl, rfl, ?_⟩
  rw [hstart]
  exact tget_tset_same ..

/-- R439: the reset of a wing is asked for. -/
theorem State.startReset_wing (hk : 768 ≤ k) :
    (s.startReset k goal).blockReset k = some { goal := goal, since := s.now } := by
  have hroom : ¬k < 768 := by omega
  simp only [State.startReset, hpower, hnone, hroom, Bool.false_eq_true, Option.isSome_none, false_and, or_self, if_false]
  exact tget_tset_same ..

end

end Sys2Proof.Machine

/-! ## Drains of rooms and wings, and readmissions -/

namespace Sys2Proof.Machine

/-- R484: a room whose drain begins. -/
theorem State.room_markDrain (s : State) (r : Nat) :
    (s.markDrain r).room r = { s.room r with phase := .draining, cond := { (s.room r).cond with state := 2, reason := 0x70 } } := by
  rw [State.markDrain, (State.mail_effect ..).room_eq rfl, (State.postRoom_effect ..).room_eq rfl]
  exact s.room_modRoom r _

theorem State.room_markDrain_ne (s : State) {r k : Nat} (h : k ≠ r) : (s.markDrain r).room k = s.room k := by
  rw [State.markDrain, (State.mail_effect ..).room_eq rfl, (State.postRoom_effect ..).room_eq rfl]
  exact s.room_modRoom_ne r k _ h

/-- R485, R487: a room in service starts to drain. -/
def State.drainIfServing (s : State) (r : Nat) : State :=
  if (s.room r).phase = .inService ∧ (s.room r).cond.state ≤ 1 then s.markDrain r else s

theorem State.drainIfServing_effect (s : State) (r : Nat) :
    Effect [.regs, .rooms, .attics, .mailboxes, .errRings, .wingLogs, .errInFlight, .ceWindows] s (s.drainIfServing r) := by
  unfold State.drainIfServing
  split
  · exact s.markDrain_effect r
  · exact .refl ..

/-- A room that drains or that waits for its turn in a list of rooms drains at its end. -/
theorem State.drains_foldl (l : List Nat) (r : Nat) :
    ∀ s : State, ((s.room r).phase = .draining ∧ (s.room r).cond.state = 2 ∨
        r ∈ l ∧ (s.room r).phase = .inService ∧ (s.room r).cond.state ≤ 1) →
      ((l.foldl State.drainIfServing s).room r).phase = .draining ∧ ((l.foldl State.drainIfServing s).room r).cond.state = 2 := by
  induction l with
  | nil =>
    intro s h
    obtain h | ⟨hmem, -⟩ := h
    · exact h
    · cases hmem
  | cons k l ih =>
    intro s h
    refine ih _ ?_
    by_cases hk : r = k
    · subst hk
      refine Or.inl ?_
      rw [State.drainIfServing]
      obtain h | ⟨-, h⟩ := h
      · rw [if_neg (by simp [h.1])]
        exact h
      · rw [if_pos h, State.room_markDrain]
        exact ⟨rfl, rfl⟩
    · have hroom : (s.drainIfServing k).room r = s.room r := by
        unfold State.drainIfServing
        split
        · exact s.room_markDrain_ne hk
        · rfl
      rw [hroom]
      obtain h | ⟨hmem, h⟩ := h
      · exact Or.inl h
      · exact Or.inr ⟨(List.mem_cons.mp hmem).resolve_left hk, h⟩

theorem mem_wingRooms_self (r : Nat) : r ∈ wingRooms (r / 32) :=
  List.mem_map.mpr ⟨r % 32, List.mem_range.mpr (by omega), by omega⟩

theorem State.accepted_eq {s t : State} (h : t.live = s.live) (code arg : Nat) : t.accepted code arg = s.accepted code arg := by
  simp only [State.accepted, h]

/-- Settles O42: a command that nothing holds back starts, and the ends of drains move no room but their own. -/
theorem drainsComplete : Obligations.DrainsComplete := by
  refine ⟨fun id s c hc hans hfull ⟨hr, hstate, hphase⟩ hfree => ?room,
    fun id s c st hc hans hnew hcheck => (mgmtRun_found hc hans).trans ?refused, fun r s hphase hempty => ?empty,
    fun r s hphase ⟨hpower, hroom, hwing⟩ => ?force, fun id s c hc hans hfull ⟨hw, hup⟩ hfree => ?wing⟩
  case refused => rw [hcheck, s.serviceCmd_refused st hnew]
  case room =>
    have hcheck : s.drainCheck (c.arg 0) = none := by
      rw [State.drainCheck, if_neg (by omega), if_neg (by omega), if_neg (by omega)]
    have hcan : (!(s.room (c.arg 0)).drains) = true := by simp [Room.drains, Room.stopping, hphase]
    obtain ⟨u, hstart, heff, hbegun⟩ := s.serviceCmd_starts (start := fun t => t.drainStart (c.arg 0)) (List.mem_of_find?_eq_some hc)
      hfull hcheck hcan (by simp [State.standsFree, hfree])
    refine ⟨_, mgmtRun_found hc hans, ?_⟩
    have hserve : (u.room (c.arg 0)).phase = .inService ∧ (u.room (c.arg 0)).cond.state ≤ 1 := by
      rw [heff.room_eq rfl]
      exact ⟨hphase, hstate⟩
    have hdrain : u.drainStart (c.arg 0) = (u.markDrain (c.arg 0)).updatePlan := if_pos hserve
    rw [hstart, hdrain, (State.updatePlan_effect _).room_eq rfl, State.room_markDrain, (State.updatePlan_effect _).live_eq rfl,
      (State.markDrain_effect ..).live_eq rfl]
    exact ⟨rfl, rfl, rfl, hbegun⟩
  case empty =>
    set t := s.setPhase r.val .inService with ht
    have hends : (t.drainEnds r.val 0).room r.val = { s.room r.val with phase := .inService } :=
      ((t.drainEnds_effect ..).room_eq rfl _).trans (s.room_modRoom ..)
    refine ⟨t.drainEnds r.val 0, ?_, by rw [hends], by rw [hends], fun hroom hwing => ?_⟩
    · show execDrainEmpty r s = _
      simp only [execDrainEmpty, hphase, if_true]
      exact whenReady_of hempty ..
    · have hr : t.accepted 1 r.val = none := hroom
      have hw : t.accepted 3 (r.val / 32) = none := hwing
      simp only [State.drainEnds, State.wingPart, hr, hw]
  case force =>
    refine ⟨_, whenReady_of (by simp [hphase]) .., ?_⟩
    set since := (((s.accepted 1 r.val).orElse fun _ => s.accepted 3 (r.val / 32)).map (·.since)).getD s.now with hsince
    set u := s.reach (since + max 1 s.live.drainTmo * 1000000) with hu
    obtain ⟨hrequest, -, hreset⟩ := u.startReset_room .drained hpower hroom r.isLt hwing
    have hnow : (u.startReset r.val .drained).now = u.now := (State.startReset_effect ..).now_eq rfl
    have hreach : s.now ≤ u.now ∧ since + max 1 s.live.drainTmo * 1000000 ≤ u.now := ⟨le_max_left .., le_max_right ..⟩
    rw [hnow]
    refine ⟨hrequest, hreset, hreach.1, fun c h => ?_, fun c hnone h => ?_⟩
    · have : since = c.since := by simp [hsince, h]
      rw [← this]
      exact hreach.2
    · have : since = c.since := by simp [hsince, hnone, h]
      rw [← this]
      exact hreach.2
  case wing =>
    have hcheck : (if 24 ≤ c.arg 0 ∨ (s.wing (c.arg 0)).state = 2 then some 0x11 else none) = (none : Option Nat) :=
      if_neg (by omega)
    obtain ⟨u, hstart, heff, -⟩ := s.serviceCmd_starts (start := fun t => t.wingDrainStart (c.arg 0)) (List.mem_of_find?_eq_some hc)
      hfull hcheck rfl (by simp [State.standsFree, hfree])
    refine ⟨_, mgmtRun_found hc hans, ?_⟩
    set v := u.modWing (c.arg 0) fun x => { x with state := 1 } with hv
    set t := (wingRooms (c.arg 0)).foldl State.drainIfServing v with ht
    have hdrain : u.wingDrainStart (c.arg 0) = t.updatePlan.wingPart 3 (c.arg 0) 0 Room.drains 2 := rfl
    have hwing : t.wing (c.arg 0) = v.wing (c.arg 0) :=
      (Effect.foldl (fun t r => t.drainIfServing_effect r) (Effect.refl _ v)).wing_eq rfl _
    have hdrained : v.wing (c.arg 0) = { u.wing (c.arg 0) with state := 1 } := tgetD_tset_same ..
    rw [hstart, hdrain, (State.wingPart_effect ..).wing_eq rfl, t.updatePlan_effect.wing_eq rfl, hwing, hdrained]
    refine ⟨rfl, fun r _ hr hphase hstate => ?_⟩
    have hends : (t.updatePlan.wingPart 3 (c.arg 0) 0 Room.drains 2).room r = t.room r :=
      ((State.wingPart_effect ..).room_eq rfl r).trans (t.updatePlan_effect.room_eq rfl r)
    have hmem : r ∈ wingRooms (c.arg 0) := by
      rw [← hr]
      exact mem_wingRooms_self r
    have hroom : v.room r = s.room r := heff.room_eq rfl r
    rw [← hroom] at hphase hstate
    have hall := State.drains_foldl (wingRooms (c.arg 0)) r v (Or.inr ⟨hmem, hphase, hstate⟩)
    rw [← ht] at hall
    rw [hends]
    exact hall

end Sys2Proof.Machine

/-! ## Readmissions of rooms and wings, and test resets -/

namespace Sys2Proof.Machine

theorem Effect.mailbox_eq {F : List Part} {s t : State} (he : Effect F s t) (hF : F.contains .mailboxes = false) (r : Nat) :
    t.mailbox r = s.mailbox r := by
  simp only [State.mailbox, show t.mailboxes = s.mailboxes from he.1 .mailboxes hF]

theorem Effect.attic_eq {F : List Part} {s t : State} (he : Effect F s t) (hF : F.contains .attics = false) (r : Nat) :
    t.attic r = s.attic r := by
  simp only [State.attic, show t.attics = s.attics from he.1 .attics hF]

/-- R533: a message to a room takes the next number. -/
theorem State.mail_seq (s : State) (r kind arg detail : Nat) :
    ((s.mail r kind arg detail).mailbox r).seq = ((s.mailbox r).seq + 1) % 2 ^ 16 := by
  unfold State.mail
  dsimp only
  rw [State.mailbox_setMailbox]
  split
  · rfl
  · split <;> rfl

/-- R174: the widths and lanes that training finds leave the state that a room shows. -/
theorem State.state_trainStair (s : State) (r : Nat) (failed : List Nat) : ((s.trainStair r failed).room r).cond.state = (s.room r).cond.state := by
  set t := s.modAttic r fun a => { (a.resumeStair) with
    failedLanes := failed, laneCe := [], recalDue := []
    stepDown := if a.band = 4 then a.stepDown else a.bandStep a.band
    margin := if a.band = 4 then a.margin else bandMargin a.band }
  set half := (t.attic r).halfShort 0 || (t.attic r).halfShort 1
  set u := t.modAttic r fun a => { a with half := half, halfSel := half && a.halfShort 0 }
  have htrain : (s.trainStair r failed).room r = { u.room r with cond := { (u.room r).cond with
      spares := (t.attic r).sparesUsed, groupsShort := (t.attic r).groupsShort, halfSel := half && (t.attic r).halfShort 0 } } :=
    State.room_modRoom ..
  rw [htrain]
  rfl

theorem State.state_trainRoom (s : State) (r : Nat) (failed banks : List Nat) :
    ((s.trainRoom r failed banks).room r).cond.state = (s.room r).cond.state := by
  unfold State.trainRoom
  dsimp only
  rw [State.room_modRoom]
  dsimp only
  split
  · rw [(State.modAttic_effect ..).room_eq rfl, (State.postRoom_effect ..).room_eq rfl]
    exact State.state_trainStair _ r failed
  · exact State.state_trainStair _ r failed

/-- R454: a room whose boot code starts. -/
theorem State.room_releaseRoom (s : State) (r : Nat) (phase : RoomPhase) :
    ((s.releaseRoom r phase).room r).phase = phase ∧ ((s.releaseRoom r phase).room r).bootReport = none ∧
      ((s.releaseRoom r phase).room r).cond = (s.room r).cond := by
  unfold State.releaseRoom
  dsimp only
  rw [(State.modRpow_effect ..).room_eq rfl, (State.setRegN_effect ..).room_eq rfl, State.room_modRoom, (State.setHartAt_effect ..).room_eq rfl,
    (State.writePantry_effect ..).room_eq rfl, (State.writePantry_effect ..).room_eq rfl]
  exact ⟨rfl, rfl, rfl⟩

/-- R486: a room whose readmission fails is stopped in error. -/
theorem State.room_readmitFails (s : State) (r cause : Nat) :
    (s.readmitFails r cause).room r = { s.room r with phase := .stopped, cond := { (s.room r).cond with state := 4, reason := cause } } := by
  rw [State.readmitFails, (State.updatePlan_effect _).room_eq rfl, (State.readmitEnds_effect ..).room_eq rfl]
  exact s.room_modRoom r _

/-- R486: what the training of a readmission leads to. -/
theorem State.readmitTrain_spec (s : State) (r : Nat) (l m : List Nat) {n : Nat} (hn : n = (s.trainRoom r l m).trainedState r) :
    (n = 4 ∨ n = 5 → ((s.readmitTrain r l m).room r).phase = .stopped ∧ ((s.readmitTrain r l m).room r).cond.state = n) ∧
      (n ≠ 4 → n ≠ 5 → ((s.readmitTrain r l m).room r).phase = .readmitBoot ∧
        ((s.readmitTrain r l m).room r).cond.state = (s.room r).cond.state ∧ ((s.readmitTrain r l m).room r).bootReport = none) := by
  set t := s.trainRoom r l m with ht
  refine ⟨?_, fun h4 h5 => ?_⟩
  · rintro (h | h)
    · have htrain : s.readmitTrain r l m = t.readmitFails r 0x14 := by
        simp only [State.readmitTrain, ← ht, ← hn, h]
      rw [htrain, State.room_readmitFails, h]
      exact ⟨rfl, rfl⟩
    · have htrain : s.readmitTrain r l m = (((t.showTrained r).setPhase r .stopped).readmitEnds r 0x14).updatePlan := by
        simp only [State.readmitTrain, ← ht, ← hn, h]
      have hshown : ((t.showTrained r).room r).cond.state = t.trainedState r := by
        rw [State.showTrained, State.room_modRoom]
      rw [htrain, (State.updatePlan_effect _).room_eq rfl, (State.readmitEnds_effect ..).room_eq rfl, State.setPhase, State.room_modRoom]
      exact ⟨rfl, hshown.trans hn.symm⟩
  · have htrain : s.readmitTrain r l m = t.releaseRoom r .readmitBoot := by
      rw [State.readmitTrain, ← ht, ← hn]
      split
      · exact absurd rfl h4
      · exact absurd rfl h5
      · rfl
    obtain ⟨hphase, hreport, hcond⟩ := t.room_releaseRoom r .readmitBoot
    rw [htrain, hphase, hreport, hcond]
    exact ⟨rfl, s.state_trainRoom r l m, rfl⟩

/-- R486, R533: the plan shows a room in service again, and the room is told. -/
theorem State.readmitPublish_spec (s : State) (r : Nat) :
    ((s.readmitPublish r).room r).phase = .inService ∧ ((s.readmitPublish r).room r).cond.state = b2n (s.attic r).half ∧
      ((s.readmitPublish r).mailbox r).seq = ((s.mailbox r).seq + 1) % 2 ^ 16 := by
  unfold State.readmitPublish
  dsimp only
  rw [(State.readmitEnds_effect ..).room_eq rfl, (State.readmitEnds_effect ..).mailbox_eq rfl, (State.mail_effect ..).room_eq rfl,
    State.mail_seq, (State.updatePlan_effect _).room_eq rfl, (State.updatePlan_effect _).mailbox_eq rfl,
    (State.modRtherm_effect ..).room_eq rfl, State.room_modRoom]
  exact ⟨rfl, rfl, rfl⟩

/-- Settles O43: a command that nothing holds back asks for its reset, and each step of a readmission goes on or stops the room. -/
theorem readmissionsComplete : Obligations.ReadmissionsComplete := by
  refine ⟨fun id s c hc hans hfull ⟨hcheck, hdrains⟩ ⟨hroom, hwing⟩ hfree => ?readmit,
    fun id s c st hc hans hnew hcheck => (mgmtRun_found hc hans).trans ?refused,
    fun id s c hc hans hfull ⟨hw, hup, hpower⟩ hnone hfree => ?wing,
    fun id s c hc hans hfull ⟨hr, hfused, hbanks, hdrains, hpower⟩ ⟨hroom, hwing⟩ hfree => ?reset,
    fun r s l m n ⟨hphase, hlinked⟩ hlanes hn => ⟨s.readmitTrain r.val l m, ?train, s.readmitTrain_spec r.val l m hn⟩,
    fun r s n hphase hreport => ?boot, fun r s hphase hgrant => ⟨_, whenReady_of (by simp [hphase, hgrant]) .., ?published, ?target⟩,
    fun r s hphase => ⟨_, whenReady_of (by simp [hphase]) .., s.readmitPublish_spec r.val⟩⟩
  case published => rw [State.setPhase, State.room_modRoom]
  case target =>
    set t := (s.useGrant .roomStart r.val).applyRegs r.val
    have hset : (t.modRpow r.val fun p => { p with mhz := s.commonMhz }).rpow r.val = { t.rpow r.val with mhz := s.commonMhz } :=
      State.rpow_modRpow ..
    exact congrArg RoomPower.mhz hset
  case train =>
    have hready : ((s.room r.val).phase == .readmitTrain && s.wingLinked (r.val / 32) && l.all fun x => decide (x < 2304)) = true := by
      simp only [hphase, hlinked, hlanes]
      rfl
    exact whenReady_of hready ..
  case refused => rw [hcheck, s.serviceCmd_refused st hnew]
  case readmit =>
    have hr : c.arg 0 < 768 ∧ s.unpowered = false := by
      unfold State.readmitCheck at hcheck
      split at hcheck
      · cases hcheck
      · split at hcheck
        · cases hcheck
        · next hlt hpower => exact ⟨by omega, Bool.eq_false_iff.mpr hpower⟩
    obtain ⟨u, hstart, heff, -⟩ := s.serviceCmd_starts (start := fun t => t.startReset (c.arg 0) .readmit) (List.mem_of_find?_eq_some hc)
      hfull hcheck (can := !(s.room (c.arg 0)).drains) (by simp [hdrains]) (by simp [State.standsFree, hfree])
    have hboot : u.boot = s.boot := heff.boot_eq rfl
    obtain ⟨hrequest, -, hreset⟩ := u.startReset_room (k := c.arg 0) .readmit (by rw [State.unpowered, hboot]; exact hr.2)
      (by rw [State.blockReset, hboot]; exact hroom) hr.1 (by rw [State.blockReset, hboot]; exact hwing)
    refine ⟨_, mgmtRun_found hc hans, ?_⟩
    rw [hstart]
    exact ⟨hrequest, heff.now_eq rfl ▸ hreset⟩
  case wing =>
    have hcheck : (if 24 ≤ c.arg 0 then some 0x11 else if s.unpowered then some 0x14 else if (s.wing (c.arg 0)).state = 0 then some 0x11
        else none) = (none : Option Nat) := by
      rw [if_neg (by omega), hpower, if_neg Bool.false_ne_true, if_neg hup]
    obtain ⟨u, hstart, heff, -⟩ := s.serviceCmd_starts (start := fun t => t.startReset (768 + c.arg 0) .wingReadmit)
      (List.mem_of_find?_eq_some hc) hfull hcheck (can := (s.blockReset (768 + c.arg 0)).isNone) (by simp [hnone])
      (by simp [State.standsFree, hfree])
    have hboot : u.boot = s.boot := heff.boot_eq rfl
    have hreset := u.startReset_wing (k := 768 + c.arg 0) .wingReadmit (by rw [State.unpowered, hboot]; exact hpower)
      (by rw [State.blockReset, hboot]; exact hnone) (by omega)
    refine ⟨_, mgmtRun_found hc hans, ?_⟩
    rw [hstart]
    exact heff.now_eq rfl ▸ hreset
  case reset =>
    have hcheck : (if 768 ≤ c.arg 0 then some 0x11 else if s.unpowered then some 0x14
        else if (s.room (c.arg 0)).cond.state = 3 ∨ ((s.room (c.arg 0)).cond.state = 5 ∧ s.goodBanks (c.arg 0) = 0) then some 0x11
        else none) = (none : Option Nat) := by
      rw [if_neg (by omega), hpower, if_neg Bool.false_ne_true, if_neg]
      rintro (h | ⟨h, hno⟩)
      · exact hfused h
      · exact hbanks h hno
    obtain ⟨u, hstart, heff, -⟩ := s.serviceCmd_starts (start := fun t => t.roomReset (c.arg 0)) (List.mem_of_find?_eq_some hc)
      hfull hcheck (can := !(s.room (c.arg 0)).drains) (by simp [hdrains]) (by simp [State.standsFree, hfree])
    set v := u.modRoom (c.arg 0) fun x => { x with cond := { x.cond with state := 2, reason := 0x70 } } with hv
    have hboot : v.updatePlan.boot = s.boot := (v.updatePlan_effect.boot_eq rfl).trans (heff.boot_eq rfl)
    have hnow : v.updatePlan.now = s.now := (v.updatePlan_effect.now_eq rfl).trans (heff.now_eq rfl)
    obtain ⟨hrequest, hcond, hreset⟩ := v.updatePlan.startReset_room (k := c.arg 0) .test (by rw [State.unpowered, hboot]; exact hpower)
      (by rw [State.blockReset, hboot]; exact hroom) hr (by rw [State.blockReset, hboot]; exact hwing)
    have hshown : (v.updatePlan.room (c.arg 0)).cond = { (u.room (c.arg 0)).cond with state := 2, reason := 0x70 } := by
      rw [v.updatePlan_effect.room_eq rfl, hv, State.room_modRoom]
    have hreset' : u.roomReset (c.arg 0) = v.updatePlan.startReset (c.arg 0) .test := rfl
    refine ⟨_, mgmtRun_found hc hans, ?_⟩
    rw [hstart, hreset', hcond, hshown, hreset, hnow]
    exact ⟨hrequest, rfl, rfl, rfl⟩
  case boot =>
    set t := if n = 0 then s.setPhase r.val .readmitResync
      else (s.readmitFails r.val 0x15).postRoom 0x15 r.val (s.regN .wingBootResult r.val) with ht
    refine ⟨t, ?_, fun hgood => if_pos hgood, fun hbad => ?_⟩
    · show execReadmitBoot r s = _
      simp only [execReadmitBoot, hphase, hreport]
      rfl
    · rw [ht, if_neg hbad, (State.postRoom_effect ..).room_eq rfl, State.room_readmitFails]
      exact ⟨rfl, rfl, rfl⟩

end Sys2Proof.Machine

/-! ## What settings and ends of commands leave of the live service (R488–R497) -/

namespace Sys2Proof.Machine

/-- The live service without what settings and the ends of commands move. -/
def LiveB.core (l : LiveB) : LiveB := { l with trialTmo := 0, drainTmo := 0, defaults := false, settings := [], cmds := [] }

/-- Trials, restarts, the handover and the standbys are as before. -/
structure State.SameCore (s t : State) : Prop where
  eq : t.live.core = s.live.core

theorem State.SameCore.refl (s : State) : s.SameCore s := ⟨rfl⟩

theorem State.SameCore.trans {s t u : State} (hst : s.SameCore t) (htu : t.SameCore u) : s.SameCore u := ⟨htu.eq.trans hst.eq⟩

theorem Effect.sameCore {F : List Part} {s t : State} (he : Effect F s t) (hF : F.contains .live = false) : s.SameCore t :=
  ⟨congrArg LiveB.core (he.live_eq hF)⟩

theorem State.SameLive.sameCore {s t : State} (h : s.SameLive t) : s.SameCore t := by
  obtain ⟨c, hc⟩ := h
  exact ⟨(congrArg LiveB.core hc :)⟩

theorem State.SameCore.foldl {α : Type} {f : State → α → State} (hf : ∀ (t : State) a, t.SameCore (f t a)) (l : List α) (s : State) :
    s.SameCore (l.foldl f s) := by
  induction l generalizing s with
  | nil => exact .refl s
  | cons a l ih => exact (hf s a).trans (ih (f s a))

section
variable {s t : State} (h : s.SameCore t)
include h

theorem State.SameCore.trialRuns (k : Nat) : t.trialRuns k = s.trialRuns k :=
  (congrArg (fun l : LiveB => (tget k l.trials).isSome) h.eq :)

theorem State.SameCore.handover : t.live.handover = s.live.handover := (congrArg LiveB.handover h.eq :)

theorem State.SameCore.restarts : t.live.restarts = s.live.restarts := (congrArg LiveB.restarts h.eq :)

theorem State.SameCore.doors : t.live.hearthDoor = s.live.hearthDoor ∧ t.live.standby = s.live.standby ∧
    t.live.hearthStandby = s.live.hearthStandby :=
  ⟨(congrArg LiveB.hearthDoor h.eq :), (congrArg LiveB.standby h.eq :), (congrArg LiveB.hearthStandby h.eq :)⟩

end

theorem State.sameCore_mgmtEnd (s : State) (c : MgmtCmd) (status : Nat) : s.SameCore (s.mgmtEnd c status) := (s.sameLive_mgmtEnd ..).sameCore

theorem State.sameCore_mgmtDone (s : State) (code arg status : Nat) : s.SameCore (s.mgmtDone code arg status) :=
  (s.sameLive_mgmtDone ..).sameCore

theorem State.sameCore_mgmtAnswer (s : State) (c : MgmtCmd) (status d0 d1 : Nat) : s.SameCore (s.mgmtAnswer c status d0 d1) :=
  ⟨(congrArg LiveB.core (s.live_mgmtAnswer c status d0 d1) :)⟩

theorem State.sameCore_linkCfgWrite (s : State) (l : Nat) (v : W64) : s.SameCore (s.linkCfgWrite l v) := by
  unfold State.linkCfgWrite
  dsimp only
  split
  · exact ⟨rfl⟩
  · exact ((State.writeReg_effect ..).sameCore rfl).trans (State.sameLive_linkDown ..).sameCore

theorem State.sameCore_applySetting (s : State) (key : Nat) (v : List Byte) : s.SameCore (s.applySetting key v) := by
  unfold State.applySetting
  dsimp only
  split
  · exact (State.writeCap_effect ..).sameCore rfl
  · exact (State.thermCfgWrite_effect ..).sameCore rfl
  · exact .foldl (fun t l => t.sameCore_linkCfgWrite ..) _ s
  · exact .foldl (fun t w => (State.setRegN_effect ..).sameCore rfl) _ s
  · exact (State.setRegN_effect ..).sameCore rfl
  · exact ⟨rfl⟩
  · exact .refl s

theorem State.sameCore_applySettings (s : State) : s.SameCore s.applySettings := .foldl (fun t _ => t.sameCore_applySetting ..) _ s

theorem State.sameCore_restoreSettings (s : State) : s.SameCore s.restoreSettings := by
  unfold State.restoreSettings
  split
  · dsimp only
    split
    · refine State.SameCore.trans ?_ (State.sameCore_applySettings _)
      exact ⟨rfl⟩
    · exact .refl s
  · exact .refl s

/-- R492: what stays of the live service where a trial of a KIND has ended. -/
structure State.TrialOver (kind : Nat) (s t : State) : Prop where
  core : ∃ ru tr, t.live.core = { s.live.core with running := ru, trials := tr } ∧ tget kind tr = none

theorem State.TrialOver.next {kind : Nat} {s t u : State} (hst : State.TrialOver kind s t) (htu : t.SameCore u) :
    State.TrialOver kind s u := by
  obtain ⟨ru, tr, hcore, hnone⟩ := hst
  exact ⟨ru, tr, htu.eq.trans hcore, hnone⟩

section
variable {kind : Nat} {s t : State} (h : State.TrialOver kind s t)
include h

theorem State.TrialOver.ended : t.trialRuns kind = false := by
  obtain ⟨ru, tr, hcore, hnone⟩ := h
  refine (congrArg (fun l : LiveB => (tget kind l.trials).isSome) hcore :).trans ?_
  show (tget kind tr).isSome = false
  rw [hnone]
  rfl

theorem State.TrialOver.handover : t.live.handover = s.live.handover := by
  obtain ⟨ru, tr, hcore, -⟩ := h
  exact (congrArg LiveB.handover hcore :)

theorem State.TrialOver.doors : t.live.hearthDoor = s.live.hearthDoor ∧ t.live.standby = s.live.standby ∧
    t.live.hearthStandby = s.live.hearthStandby := by
  obtain ⟨ru, tr, hcore, -⟩ := h
  exact ⟨(congrArg LiveB.hearthDoor hcore :), (congrArg LiveB.standby hcore :), (congrArg LiveB.hearthStandby hcore :)⟩

end

theorem State.trialOver_endTrial (s : State) (kind state : Nat) : State.TrialOver kind s (s.endTrial kind state) := by
  unfold State.endTrial
  split
  · next x hx =>
    set t := s.setSlot kind x.slot state
    have hslot : s.SameCore t := (State.setSlot_effect ..).sameCore rfl
    refine ⟨tset kind (t.committed kind) t.live.running, tdel kind t.live.trials, ?_, tget_tdel_same ..⟩
    exact (congrArg (fun l : LiveB => ({ l with
      running := tset kind (t.committed kind) t.live.running, trials := tdel kind t.live.trials } : LiveB)) hslot.eq :)
  · next hx => exact ⟨s.live.running, s.live.trials, rfl, hx⟩

theorem State.trialOver_stopTrial (s : State) (kind state : Nat) : State.TrialOver kind s (s.stopTrial kind state) := by
  have hend := s.trialOver_endTrial kind state
  unfold State.stopTrial
  dsimp only
  split
  · exact hend.next (State.sameCore_restoreSettings _)
  · split
    · split
      · exact hend.next ⟨rfl⟩
      · exact hend
    · exact hend

theorem State.activeDoor_stopTrial (s : State) (kind state : Nat) : (s.stopTrial kind state).boot.activeDoor = s.boot.activeDoor := by
  have hend : (s.endTrial kind state).boot = s.boot := (s.endTrial_effect ..).boot_eq rfl
  unfold State.stopTrial
  dsimp only
  split
  · rw [(State.restoreSettings_effect _).boot_eq rfl, hend]
  · split
    · split <;> exact (congrArg BootB.activeDoor hend :)
    · exact congrArg BootB.activeDoor hend

/-- R491, R492: the TRIAL slot of a KIND runs. -/
theorem State.beginTrial_spec (s : State) {kind : Nat} (hslot : (s.trialSlot kind).isSome = true) :
    (s.beginTrial kind).trialRuns kind = true := by
  obtain ⟨e, he⟩ := Option.isSome_iff_exists.mp hslot
  simp [State.beginTrial, he, State.trialRuns, State.modLive, tget_tset_same]

theorem State.beginTrial_doors (s : State) (kind : Nat) : (s.beginTrial kind).live.handover = s.live.handover ∧
    (s.beginTrial kind).live.hearthDoor = s.live.hearthDoor ∧ (s.beginTrial kind).boot = s.boot := by
  unfold State.beginTrial
  split <;> exact ⟨rfl, rfl, rfl⟩

theorem State.restarts_restartAll (s : State) (kind : Nat) : (s.restartAll kind).live.restarts.any (fun x => x.1 == kind) = true :=
  List.any_eq_true.mpr ⟨(kind, s.restartList kind), List.mem_append_right _ (List.mem_singleton_self _), by simp⟩

end Sys2Proof.Machine

/-! ## Firmware: staged, tried, committed, reverted and handed over -/

namespace Sys2Proof.Machine

/-- What the flash and the images are read from, besides the straps and the address that the host gave. -/
def imageParts : List Part := [.free, .mem, .flash, .flashLogs]

/-- The images come from the same place. -/
def BootB.sameSource (b c : BootB) : Prop := c.strapsValid = b.strapsValid ∧ c.straps = b.straps ∧ c.hostBase = b.hostBase

section
variable {s t : State} (h : ∀ p ∈ imageParts, p.same s t) (hb : s.boot.sameSource t.boot)
include h hb

theorem State.imageBytes_congr (off n : Nat) : t.imageBytes off n = s.imageBytes off n := by
  obtain ⟨hvalid, hstraps, hbase⟩ := hb
  have hfree : t.free = s.free := h .free (by decide)
  have hmem : t.mem = s.mem := h .mem (by decide)
  have hflash : t.flash = s.flash := h .flash (by decide)
  have hbyte (k : Nat) : t.byteAt k = s.byteAt k := by simp only [State.byteAt, hfree, hmem]
  have hbytes (n : Nat) : ∀ k, t.bytesAt k n = s.bytesAt k n := by
    induction n with
    | zero => exact fun k => rfl
    | succ n ih => exact fun k => by rw [State.bytesAt, State.bytesAt, hbyte, ih]
  simp only [State.imageBytes, State.bootSrc, State.flashBytes, State.flashByte, hbytes, hfree, hvalid, hstraps, hbase, hflash]

theorem State.trialSlot_congr (kind : Nat) : t.trialSlot kind = s.trialSlot kind := by
  have hlogs : t.flashLogs = s.flashLogs := h .flashLogs (by decide)
  have hdir : t.directory = s.directory := by simp only [State.directory, State.imageBytes_congr h hb, hlogs]
  simp only [State.trialSlot, State.slotsOf, hdir]

end

theorem Effect.trialSlot_eq {F : List Part} {s t : State} (he : Effect F s t) (hF : (Part.boot :: imageParts).all (fun p => !F.contains p) = true)
    (kind : Nat) : t.trialSlot kind = s.trialSlot kind := by
  have hpart (p : Part) (hp : p ∈ Part.boot :: imageParts) : F.contains p = false := by simpa using List.all_eq_true.mp hF p hp
  have hboot : t.boot = s.boot := he.boot_eq (hpart .boot (by decide))
  exact State.trialSlot_congr (fun p hp => he.1 p (hpart p (List.mem_cons_of_mem _ hp))) (by rw [hboot]; exact ⟨rfl, rfl, rfl⟩) kind

/-- R490: an action on firmware that may be taken is accepted. -/
theorem State.fwAction_taken (s : State) {c : MgmtCmd} {f : State → State} (hkind : fwKind (c.arg 0) = true)
    (hstandby : s.hasStandby (c.arg 0) = true) (hroom : s.studyFull = false) : s.fwAction c true f = f (s.mgmtAnswer c 0x20 0 0) := by
  simp [State.fwAction, hkind, hstandby, hroom]

theorem State.fwAction_noStandby (s : State) {c : MgmtCmd} {f : State → State} (hkind : fwKind (c.arg 0) = true)
    (hstandby : s.hasStandby (c.arg 0) = false) : s.fwAction c true f = s.mgmtAnswer c 0x14 0 0 := by
  simp [State.fwAction, hkind, hstandby]

theorem fwKind_cases {k : Nat} (h : fwKind k = true) : k ≤ 2 ∧ (k = 1 ∨ k = 2) ∨ k = 4 ∨ 3 ≤ k ∧ (k = 3 ∨ k = 5) := by
  simp only [fwKind, decide_eq_true_eq] at h
  omega

/-- R490, R491: what an activation begins. -/
theorem State.activate_spec (s : State) (c : MgmtCmd) {k : Nat} (hkind : fwKind k = true) (hslot : (s.trialSlot k).isSome = true) :
    (k ≤ 2 → (s.activate c k).live.handover = some (.freeze, k, 0)) ∧ (3 ≤ k → (s.activate c k).trialRuns k = true) ∧
      (k = 3 ∨ k = 5 → (s.activate c k).live.restarts.any (fun x => x.1 == k) = true) := by
  have hbegun : ((s.beginCmd c).trialSlot k).isSome = true := by rwa [(s.beginCmd_effect c).trialSlot_eq (by decide)]
  obtain ⟨hle, rfl | rfl⟩ | rfl | ⟨hge, rfl | rfl⟩ := fwKind_cases hkind
  · exact ⟨fun _ => rfl, fun h => by omega, fun h => by omega⟩
  · exact ⟨fun _ => rfl, fun h => by omega, fun h => by omega⟩
  · refine ⟨fun h => by omega, fun _ => ?_, fun h => by omega⟩
    obtain ⟨e, he⟩ := Option.isSome_iff_exists.mp hbegun
    set u := (s.beginCmd c).modBoot fun b => { b with bootCode := (s.beginCmd c).imageBytes e.off e.len } with hu
    have hact : s.activate c 4 = (u.beginTrial 4).mgmtEnd c 0 := by
      simp only [State.activate, State.activateKind, he, if_true]
      rfl
    have hboot : u.trialSlot 4 = (s.beginCmd c).trialSlot 4 :=
      State.trialSlot_congr (fun p hp => (State.modBoot_effect ..).1 p (by revert p; decide)) ⟨rfl, rfl, rfl⟩ 4
    rw [hact, (State.sameCore_mgmtEnd ..).trialRuns]
    exact u.beginTrial_spec (by rw [hboot]; exact hbegun)
  · exact ⟨fun h => by omega, fun _ => (s.beginCmd c).beginTrial_spec hbegun, fun _ => State.restarts_restartAll ..⟩
  · exact ⟨fun h => by omega, fun _ => (s.beginCmd c).beginTrial_spec hbegun, fun _ => State.restarts_restartAll ..⟩

/-- R490, R491: what a revert leads to. -/
theorem State.revert_spec (s : State) (c : MgmtCmd) {k : Nat} (hkind : fwKind k = true) :
    (k ≤ 2 → (s.revert c k).live.handover = some (.freeze, k, 1)) ∧ (3 ≤ k → (s.revert c k).trialRuns k = false) ∧
      (k = 3 ∨ k = 5 → (s.revert c k).live.restarts.any (fun x => x.1 == k) = true) := by
  obtain ⟨hle, rfl | rfl⟩ | rfl | ⟨hge, rfl | rfl⟩ := fwKind_cases hkind
  · exact ⟨fun _ => rfl, fun h => by omega, fun h => by omega⟩
  · exact ⟨fun _ => rfl, fun h => by omega, fun h => by omega⟩
  · exact ⟨fun h => by omega, fun _ => (((s.beginCmd c).trialOver_stopTrial 4 2).next (State.sameCore_mgmtEnd ..)).ended, fun h => by omega⟩
  · exact ⟨fun h => by omega, fun _ => ((s.beginCmd c).trialOver_stopTrial 3 2).ended, fun _ => State.restarts_restartAll ..⟩
  · exact ⟨fun h => by omega, fun _ => ((s.beginCmd c).trialOver_stopTrial 5 2).ended, fun _ => State.restarts_restartAll ..⟩

/-- R492: what the end of TRIAL_TMO leads to. -/
theorem State.autoRevert_spec (s : State) (k : Fin 6) :
    (k.val = 1 ∨ k.val = 2 → (s.autoRevert k.val).live.handover = some (.freeze, k.val, 2)) ∧
      (3 ≤ k.val → (s.autoRevert k.val).trialRuns k.val = false) := by
  match k with
  | 0 => exact ⟨fun h => absurd h (by decide), fun h => absurd h (by decide)⟩
  | 1 => exact ⟨fun _ => rfl, fun h => absurd h (by decide)⟩
  | 2 => exact ⟨fun _ => rfl, fun h => absurd h (by decide)⟩
  | 3 => exact ⟨fun h => absurd h (by decide), fun _ => (s.trialOver_stopTrial 3 3).ended⟩
  | 4 => exact ⟨fun h => absurd h (by decide), fun _ => (s.trialOver_stopTrial 4 3).ended⟩
  | 5 => exact ⟨fun h => absurd h (by decide), fun _ => (s.trialOver_stopTrial 5 3).ended⟩

/-- R490, R496: a committed trial is over. -/
theorem State.commitTrial_ended (s : State) (kind : Nat) : (s.commitTrial kind).trialRuns kind = false := by
  unfold State.commitTrial
  split
  · next h => simp [State.trialRuns, h]
  · next x h =>
    dsimp only
    rw [(State.sameCore_applySettings _).trialRuns]
    set u := (s.setSlot kind (s.committed kind) 2).setSlot kind x.slot 1
    set t := u.modLive fun l => { l with trials := tdel kind l.trials, defaults := l.defaults && kind != 1 } with ht
    have hover : t.trialRuns kind = false := by
      rw [State.trialRuns, show t.live.trials = tdel kind u.live.trials from rfl, tget_tdel_same]
      rfl
    split
    · exact hover
    · rwa [((State.writeSettings_effect _).sameCore rfl).trialRuns]

/-- R493: the standby of a KIND is active and no handover is on. -/
theorem State.handoverSwitch_spec (s : State) {k : Nat} (p : Nat) (hk : k = 1 ∨ k = 2) :
    (s.handoverSwitch k p).live.handover = none ∧
      (s.handoverSwitch k p).boot.activeDoor = (if k = 1 then 1 - s.boot.activeDoor else s.boot.activeDoor) ∧
      (s.handoverSwitch k p).live.hearthDoor = (if k = 2 then 1 - s.live.hearthDoor else s.live.hearthDoor) := by
  set t := (s.switchDoor k).modLive fun l => { l with handover := none } with ht
  have hswitch : t.live.handover = none ∧ t.boot.activeDoor = (if k = 1 then 1 - s.boot.activeDoor else s.boot.activeDoor) ∧
      t.live.hearthDoor = (if k = 2 then 1 - s.live.hearthDoor else s.live.hearthDoor) := by
    obtain rfl | rfl := hk
    · exact ⟨rfl, rfl, rfl⟩
    · exact ⟨rfl, rfl, rfl⟩
  have hkeep (u : State) (hover : u.live.handover = t.live.handover) (hact : u.boot.activeDoor = t.boot.activeDoor)
      (hdoor : u.live.hearthDoor = t.live.hearthDoor) (code arg status : Nat) :
      (u.mgmtDone code arg status).live.handover = t.live.handover ∧ (u.mgmtDone code arg status).boot.activeDoor = t.boot.activeDoor ∧
        (u.mgmtDone code arg status).live.hearthDoor = t.live.hearthDoor := by
    have hcore := u.sameCore_mgmtDone code arg status
    exact ⟨hcore.handover.trans hover, by rw [(u.mgmtDone_effect ..).boot_eq rfl, hact], hcore.doors.1.trans hdoor⟩
  have hstop (n : Nat) := t.trialOver_stopTrial k n
  suffices h : (s.handoverSwitch k p).live.handover = t.live.handover ∧ (s.handoverSwitch k p).boot.activeDoor = t.boot.activeDoor ∧
      (s.handoverSwitch k p).live.hearthDoor = t.live.hearthDoor by
    rw [h.1, h.2.1, h.2.2]
    exact hswitch
  unfold State.handoverSwitch
  dsimp only
  split
  · obtain ⟨hover, hdoor, hboot⟩ := t.beginTrial_doors k
    exact hkeep _ hover (congrArg BootB.activeDoor hboot) hdoor ..
  · exact hkeep _ (hstop 2).handover (t.activeDoor_stopTrial k 2) (hstop 2).doors.1 ..
  · exact ⟨(hstop 3).handover, t.activeDoor_stopTrial k 3, (hstop 3).doors.1⟩

/-- R494: a standby takes over: its door is active, and no standby follows it. -/
theorem State.takeover_spec (s : State) (b : Bool) (hstandby : s.hasStandby (kindOf b) = true) :
    (s.takeover (kindOf b)).boot.activeDoor = (if b = false then 1 - s.boot.activeDoor else s.boot.activeDoor) ∧
      (s.takeover (kindOf b)).live.hearthDoor = (if b = true then 1 - s.live.hearthDoor else s.live.hearthDoor) ∧
      (if b = true then (s.takeover (kindOf b)).live.hearthStandby else (s.takeover (kindOf b)).live.standby) = false := by
  set t := (s.switchDoor (kindOf b)).modLive fun l => { l with
      handover := (match l.handover with | some (p, k, q) => if k = kindOf b then none else some (p, k, q) | none => none)
      standby := l.standby && kindOf b != 1, hearthStandby := l.hearthStandby && kindOf b != 2 } with ht
  set u := if t.trialRuns (kindOf b) then t.stopTrial (kindOf b) 3 else t with hu
  have htake : s.takeover (kindOf b) =
      if kindOf b = 1 then (u.live.cmds.filter (·.accepted)).foldl (fun t c => t.mgmtEnd c 0x14) u else u := by
    simp only [State.takeover, hstandby, Bool.not_true, Bool.false_eq_true, if_false]
    rfl
  have hswitch : t.boot.activeDoor = (if b = false then 1 - s.boot.activeDoor else s.boot.activeDoor) ∧
      t.live.hearthDoor = (if b = true then 1 - s.live.hearthDoor else s.live.hearthDoor) ∧
      (if b = true then t.live.hearthStandby else t.live.standby) = false := by
    cases b
    · exact ⟨rfl, rfl, Bool.and_false _⟩
    · exact ⟨rfl, rfl, Bool.and_false _⟩
  have hstop : u.boot.activeDoor = t.boot.activeDoor ∧ u.live.hearthDoor = t.live.hearthDoor ∧ u.live.standby = t.live.standby ∧
      u.live.hearthStandby = t.live.hearthStandby := by
    rw [hu]
    split
    · exact ⟨t.activeDoor_stopTrial _ 3, (t.trialOver_stopTrial _ 3).doors⟩
    · exact ⟨rfl, rfl, rfl, rfl⟩
  have hend : (s.takeover (kindOf b)).boot = u.boot ∧ u.SameCore (s.takeover (kindOf b)) := by
    rw [htake]
    split
    · exact ⟨(Effect.foldl (fun t c => t.mgmtEnd_effect c 0x14) (Effect.refl _ u)).boot_eq rfl, .foldl (fun t c => t.sameCore_mgmtEnd c 0x14) _ u⟩
    · exact ⟨rfl, .refl u⟩
  obtain ⟨hactive, hdoor, hstudy, hhearth⟩ := hstop
  obtain ⟨hboot, hcore⟩ := hend
  obtain ⟨hdoor', hstudy', hhearth'⟩ := hcore.doors
  rw [hboot, hdoor', hstudy', hhearth', hactive, hdoor, hstudy, hhearth]
  exact hswitch

/-- Settles O44: an action that may be taken is accepted and does what its KIND says, and no setting or end of a command moves a trial or
a door. -/
theorem firmwareCommandsComplete : Obligations.FirmwareCommandsComplete := by
  refine ⟨fun id s c l hc hans ⟨hkind, htrial, hlen, hmax⟩ hread hroom => (mgmtRun_found hc hans).trans ?stage,
    fun id s c k hc hans ⟨hk, hkind, hact⟩ ⟨hslot, hidle, hstandby, hroom⟩ => ?activate,
    fun id s c hc hans ⟨hkind, hact⟩ ⟨hruns, hstandby, hroom⟩ => ?commit,
    fun id s c k hc hans ⟨hk, hkind, hact⟩ ⟨hruns, hstandby, hroom⟩ => ?revert,
    fun id s c hc hans ⟨hkind, hact⟩ hslot hruns hstandby => ?noStandby,
    fun kind s x hx ⟨htmo, hover⟩ => ?timeout, fun s k w l m hlist => ?restart, fun s k p hfreeze => ?transfer,
    fun s k p htransfer hk => ⟨s.handoverSwitch k p, ?switch, s.handoverSwitch_spec p hk⟩,
    fun b s c hmay hc hruns => ?takeover⟩
  case stage =>
    have hbad : (!fwKind (c.arg 0) || (tget (c.arg 0) s.live.trials).isSome || decide (c.bufLen = 0 ∨ 0x800000 < c.bufLen)) = false := by
      rw [hkind, htrial, decide_eq_false (by omega)]
      rfl
    simp only [hbad, Bool.false_eq_true, if_false, hread, State.acceptAnd, hroom]
  case activate =>
    subst hk
    refine ⟨_, mgmtRun_found hc hans, ?_⟩
    have hok : (c.arg 1 == 0 && (s.trialSlot (c.arg 0)).isSome && !s.trialRuns (c.arg 0)) = true := by simp [hact, hslot, hidle]
    rw [if_neg (by omega), hok, s.fwAction_taken hkind hstandby hroom]
    exact State.activate_spec _ c hkind (by rwa [(s.mgmtAnswer_effect ..).trialSlot_eq (by decide)])
  case commit =>
    refine ⟨_, mgmtRun_found hc hans, ?_⟩
    rw [if_neg (by omega), hruns, s.fwAction_taken hkind hstandby hroom, (State.sameCore_mgmtEnd ..).trialRuns]
    exact State.commitTrial_ended ..
  case revert =>
    subst hk
    refine ⟨_, mgmtRun_found hc hans, ?_⟩
    rw [if_neg (by omega), hruns, s.fwAction_taken hkind hstandby hroom]
    exact State.revert_spec _ c hkind
  case noStandby =>
    by_cases h0 : c.arg 1 = 0
    · have hok : (c.arg 1 == 0 && (s.trialSlot (c.arg 0)).isSome && !s.trialRuns (c.arg 0)) = true := by
        simp_all
      rw [if_pos h0]
      refine (mgmtRun_found hc hans).trans ?_
      rw [if_neg (by omega), hok, s.fwAction_noStandby hkind hstandby]
    · have hok : s.trialRuns (c.arg 0) = true := hruns.mpr h0
      rw [if_neg h0]
      split
      · refine (mgmtRun_found hc hans).trans ?_
        rw [if_neg (by omega), hok, s.fwAction_noStandby hkind hstandby]
      · refine (mgmtRun_found hc hans).trans ?_
        rw [if_neg (by omega), hok, s.fwAction_noStandby hkind hstandby]
  case timeout =>
    set u := s.reach (x.since + s.live.trialTmo * 1000000000) with hu
    refine ⟨u.autoRevert kind.val, ?_, ?_, u.autoRevert_spec kind⟩
    · show execFwTrialTimeout kind s = _
      rw [execFwTrialTimeout, hx]
      exact whenReady_of (by simp [htmo, hover]) ..
    · rw [(State.autoRevert_effect ..).now_eq rfl]
      exact le_max_right ..
  case restart =>
    set u := (s.reach (s.now + 5000000)).modLive fun x => { x with restarts := if l.isEmpty then m else (k, l) :: m } with hu
    refine ⟨if l.isEmpty then u.mgmtDone 0x31 k 0 else u, ?_, ?_, ?_⟩
    · show execWingControllerRestart s = _
      rw [execWingControllerRestart, hlist]
    · have hnow : u.now = s.now + 5000000 := max_eq_right (Nat.le_add_right ..)
      split
      · rw [(State.mgmtDone_effect ..).now_eq rfl, hnow]
      · exact hnow
    · have hleft : u.live.restarts = if l = [] then m else (k, l) :: m := by simp [hu, State.modLive]
      split
      · rw [(State.sameCore_mgmtDone ..).restarts, hleft]
      · exact hleft
  case transfer =>
    show execHandoverTransfer s = _
    rw [execHandoverTransfer, hfreeze]
  case switch =>
    show execHandoverSwitch s = _
    rw [execHandoverSwitch, htransfer]
  case takeover =>
    have hstandby : s.hasStandby (kindOf b) = true := (Bool.and_eq_true_iff.mp hmay).1
    simp only [List.mem_cons, List.not_mem_nil, or_false] at hc
    obtain rfl | rfl := hc
    · obtain ⟨hactive, hdoor, hlost⟩ := s.takeover_spec b hstandby
      exact ⟨_, whenReady_of hmay .., hactive, hdoor, hlost, fun h => by cases h⟩
    · have htrial : s.trialRuns (kindOf b) = true := hruns.resolve_left (by simp)
      obtain ⟨hactive, hdoor, hlost⟩ := (s.reach (s.now + 500000000)).takeover_spec b hstandby
      refine ⟨_, whenReady_of (by rw [htrial, hmay]; rfl) .., hactive, hdoor, hlost, fun _ => ?_⟩
      rw [(State.takeover_effect ..).now_eq rfl]
      exact max_eq_right (Nat.le_add_right ..)

end Sys2Proof.Machine

/-! ## What the units of a room leave alone when their work ends (R419, R427) -/

namespace Sys2Proof.Machine

/-- The registers that the units' records, errors and counters move. -/
def unitRegs : List RegName :=
  [.errProd, .errLost, .atticErr, .atticLastErr, .arrayErr, .arrayDoneCount, .treeErr, .treeDoneCount, .dwDoneCount, .dwCqProd]

/-- Units, requests and collectives have gone on from s to t: no register but theirs has moved, no record in flight is lost, and every
room is in the phase and shows the condition that it did. -/
structure State.UnitsRan (s t : State) : Prop where
  reg_eq : ∀ n, unitRegs.contains n = false → ∀ i, t.reg n i = s.reg n i
  posted : ∀ e ∈ s.errInFlight, e ∈ t.errInFlight
  shown : ∀ r, (t.room r).phase = (s.room r).phase ∧ (t.room r).cond = (s.room r).cond

namespace State.UnitsRan

theorem refl (s : State) : s.UnitsRan s := ⟨fun _ _ _ => rfl, fun _ h => h, fun _ => ⟨rfl, rfl⟩⟩

theorem trans {s t u : State} (hst : s.UnitsRan t) (htu : t.UnitsRan u) : s.UnitsRan u :=
  ⟨fun n hn i => (htu.reg_eq n hn i).trans (hst.reg_eq n hn i), fun e he => htu.posted e (hst.posted e he),
    fun r => ⟨(htu.shown r).1.trans (hst.shown r).1, (htu.shown r).2.trans (hst.shown r).2⟩⟩

theorem foldl {α : Type} {f : State → α → State} (hf : ∀ (t : State) a, t.UnitsRan (f t a)) (l : List α) (s : State) :
    s.UnitsRan (l.foldl f s) := by
  induction l generalizing s with
  | nil => exact refl s
  | cons a l ih => exact (hf s a).trans (ih (f s a))

theorem foldlFst {α β : Type} {f : State × β → α → State × β} (hf : ∀ (x : State × β) a, x.1.UnitsRan (f x a).1) (l : List α) (x : State × β) :
    x.1.UnitsRan (l.foldl f x).1 := by
  induction l generalizing x with
  | nil => exact refl x.1
  | cons a l ih => exact (hf x a).trans (ih (f x a))

theorem ite {c : Prop} [Decidable c] {s t u : State} (ht : s.UnitsRan t) (hu : s.UnitsRan u) : s.UnitsRan (if c then t else u) := by
  split
  · exact ht
  · exact hu

end State.UnitsRan

/-- An operation that moves no register, no room and no record. -/
theorem Effect.unitsRan {F : List Part} {s t : State} (he : Effect F s t)
    (hF : [Part.regs, .rooms, .errInFlight].all (fun p => !F.contains p) = true) : s.UnitsRan t := by
  have hpart (p : Part) (hp : p ∈ [Part.regs, .rooms, .errInFlight]) : F.contains p = false := by
    simpa using List.all_eq_true.mp hF p hp
  have hrooms (r : Nat) : t.room r = s.room r := he.room_eq (hpart .rooms (by decide)) r
  have hflight : t.errInFlight = s.errInFlight := he.1 .errInFlight (hpart .errInFlight (by decide))
  exact ⟨fun n _ i => he.reg_eq (hpart .regs (by decide)) n i, fun e h => hflight ▸ h, fun r => by rw [hrooms]; exact ⟨rfl, rfl⟩⟩

/-! ## Registers, rooms and records -/

theorem State.unitsRan_setReg (s : State) {n : RegName} (hn : unitRegs.contains n = true) (i : Nat) (x : W64) :
    s.UnitsRan (s.setReg n i x) :=
  ⟨fun m hm j => s.reg_setReg_name n m i j x (by rintro rfl; rw [hn] at hm; cases hm), fun _ h => h, fun _ => ⟨rfl, rfl⟩⟩

theorem State.unitsRan_orReg (s : State) {n : RegName} (hn : unitRegs.contains n = true) (i mask : Nat) : s.UnitsRan (s.orReg n i mask) :=
  s.unitsRan_setReg hn ..

theorem State.unitsRan_bumpCount (s : State) {n : RegName} (hn : unitRegs.contains n = true) (i r : Nat) : s.UnitsRan (s.bumpCount n i r) :=
  (s.unitsRan_setReg hn ..).trans ((State.testWatches_effect ..).unitsRan rfl)

theorem State.unitsRan_modRoom (s : State) (r : Nat) {f : Room → Room} (hf : ∀ x, (f x).phase = x.phase ∧ (f x).cond = x.cond) :
    s.UnitsRan (s.modRoom r f) := by
  refine ⟨fun _ _ _ => rfl, fun _ h => h, fun k => ?_⟩
  by_cases hk : k = r
  · subst hk
    rw [State.room_modRoom]
    exact hf _
  · rw [s.room_modRoom_ne r k f hk]
    exact ⟨rfl, rfl⟩

theorem State.unitsRan_ringRecord (s : State) (r : Nat) (e : ErrRecord) : s.UnitsRan (s.ringRecord r e) := by
  unfold State.ringRecord
  dsimp only
  split
  · exact s.unitsRan_setReg (by decide) ..
  · exact ⟨(s.unitsRan_setReg (n := .errProd) (by decide) r _).reg_eq, fun _ h => h, fun _ => ⟨rfl, rfl⟩⟩

theorem State.unitsRan_placeRecord (s : State) (e : ErrRecord) : s.UnitsRan (s.placeRecord e) := by
  set t := if e.flags % 2 = 1 then s.ringRecord (e.die * 32 + e.room) e else s with ht
  have hring : s.UnitsRan t := .ite (s.unitsRan_ringRecord ..) (.refl s)
  refine hring.trans ?_
  unfold State.placeRecord
  rw [← ht]
  dsimp only
  split <;> exact ⟨fun _ _ _ => rfl, fun _ h => List.mem_append_left _ h, fun _ => ⟨rfl, rfl⟩⟩

theorem State.unitsRan_rowFails (s : State) (e : ErrRecord) (r b row : Nat) : s.UnitsRan (s.rowFails e r b row) := by
  unfold State.rowFails
  exact .ite (.refl s) (.ite ((State.modAttic_effect ..).unitsRan rfl) (s.unitsRan_placeRecord _))

theorem State.unitsRan_rowEvent (s : State) (e : ErrRecord) : s.UnitsRan (s.rowEvent e) := by
  have hattic (r : Nat) (f : AtticB → AtticB) : s.UnitsRan (s.modAttic r f) := (State.modAttic_effect ..).unitsRan rfl
  unfold State.rowEvent
  exact .ite (.ite ((hattic ..).trans (State.unitsRan_rowFails ..)) (hattic ..)) (.refl s)

theorem State.unitsRan_post (s : State) (e : ErrRecord) : s.UnitsRan (s.post e) := by
  refine State.UnitsRan.trans ?_ (State.unitsRan_rowEvent _ e)
  have hplace := s.unitsRan_placeRecord e
  exact .ite (.ite ⟨fun _ _ _ => rfl, fun _ h => h, fun _ => ⟨rfl, rfl⟩⟩ ⟨hplace.reg_eq, hplace.posted, hplace.shown⟩) hplace

/-! ## Memory -/

theorem State.unitsRan_atticError (s : State) (r bit kind cause : Nat) (banked : Bool) (o lane : Nat) :
    s.UnitsRan (s.atticError r bit kind cause banked o lane) :=
  ((s.unitsRan_orReg (by decide) ..).trans (State.unitsRan_setReg _ (by decide) ..)).trans (State.unitsRan_post ..)

theorem State.unitsRan_bankAccess (s : State) (r : Nat) (banked : Bool) (o : Nat) : s.UnitsRan (s.bankAccess r banked o) :=
  s.unitsRan_atticError ..

theorem State.unitsRan_afterRead (s : State) (p : Place) (n : Nat) : s.UnitsRan (s.afterRead p n) := by
  unfold State.afterRead
  split
  · exact (State.UnitsRan.ite ((State.noteView_effect ..).unitsRan rfl) (s.unitsRan_bankAccess ..)).trans ((State.bump_effect _).unitsRan rfl)
  · exact s.bump_effect.unitsRan rfl

theorem State.unitsRan_writePantry (s : State) (r o : Nat) (l : List Byte) (w : Option Nat) : s.UnitsRan (s.writePantry r o l w) :=
  (State.writePantry_effect ..).unitsRan rfl

theorem State.unitsRan_writeAttic (s : State) (r : Nat) (banked : Bool) (o : Nat) (l : List Byte) (w : Option Nat) :
    s.UnitsRan (s.writeAttic r banked o l w) := by
  have hput : s.UnitsRan (((s.putAttic r banked o l).noteView r banked o l.length).dropReservations r w (atticWords r banked o l.length)) :=
    (((State.putAttic_effect ..).unitsRan rfl).trans ((State.noteView_effect ..).unitsRan rfl)).trans
      ((State.dropReservations_effect ..).unitsRan rfl)
  exact .ite hput (hput.trans (State.unitsRan_modRoom _ r fun _ => ⟨rfl, rfl⟩))

theorem State.unitsRan_memWrite (s : State) (p : Place) (l : List Byte) (w : Option Nat) : s.UnitsRan (s.memWrite p l w) := by
  have hbump {t : State} (h : s.UnitsRan t) : s.UnitsRan t.bump := h.trans (t.bump_effect.unitsRan rfl)
  unfold State.memWrite
  split
  · have hwrite := s.unitsRan_writeAttic
    exact .ite (hbump (s.unitsRan_bankAccess ..)) (hbump (.ite ((hwrite ..).trans (State.unitsRan_atticError ..)) (hwrite ..)))
  · have hwrite := s.unitsRan_writePantry
    exact hbump (.ite ((hwrite ..).trans (State.unitsRan_post ..)) (hwrite ..))
  · exact hbump ((State.putBytes_effect ..).unitsRan rfl)
  · exact .refl s

theorem State.unitsRan_atomicPerform (s : State) (op : HomeAtomic) (p : Place) (w : Option Nat) : s.UnitsRan (s.atomicPerform op p w) := by
  unfold State.atomicPerform
  split
  · exact (s.unitsRan_memWrite ..).trans ((State.guardLease_effect ..).unitsRan rfl)
  · exact s.unitsRan_afterRead ..

theorem State.unitsRan_signalSet (s : State) (r o bit : Nat) : s.UnitsRan (s.signalSet r o bit) := s.unitsRan_atomicPerform ..

theorem State.unitsRan_pwrite (s : State) (p : Place) (l : List PByte) : s.UnitsRan (s.pwrite p l) := by
  have hpoison (q : Place) (t : State) :
      t.UnitsRan ((l.zipIdx).foldl (fun s x => if x.1.2 then s.setPoison (wordKeyAt q x.2) true else s) t) :=
    .foldl (fun u _ => .ite ((State.setPoison_effect ..).unitsRan rfl) (.refl u)) _ t
  unfold State.pwrite
  split
  · exact (s.unitsRan_memWrite ..).trans (hpoison ..)
  · exact (s.unitsRan_memWrite ..).trans (hpoison ..)
  · exact s.unitsRan_memWrite ..

theorem State.unitsRan_pwriteAll (s : State) (ps : List (Place × Nat)) (l : List PByte) : s.UnitsRan (s.pwriteAll ps l) := by
  induction ps generalizing s l with
  | nil => exact .refl s
  | cons p ps ih => exact (s.unitsRan_pwrite ..).trans (ih ..)

/-! ## The array, the TREE_SEQ unit and the dumbwaiter -/

theorem State.unitsRan_arrayFinish (s : State) (r : Nat) (e : ArrayEntry) (st arith cycles : Nat) :
    s.UnitsRan (s.arrayFinish r e st arith cycles) :=
  ((((State.arrayRecord_effect ..).unitsRan rfl).trans (State.unitsRan_orReg _ (by decide) ..)).trans
    ((State.modArray_effect ..).unitsRan rfl)).trans (State.unitsRan_bumpCount _ (by decide) ..)

theorem State.unitsRan_arrayRejected (f r : Nat) (s : State) : s.UnitsRan (State.arrayRejected f r s) := by
  induction f generalizing s with
  | zero => exact .refl s
  | succ f ih =>
    unfold State.arrayRejected
    split
    · exact .ite ((s.unitsRan_arrayFinish ..).trans (ih _)) (.refl s)
    · exact .refl s

theorem State.unitsRan_treeError (s : State) (r bit : Nat) : s.UnitsRan (s.treeError r bit) :=
  (s.unitsRan_orReg (by decide) r (2 ^ bit)).trans (State.unitsRan_post _ (roomRecord _ 0x63 r _))

theorem State.unitsRan_treeFinish (s : State) (r : Nat) (c : TreeCmd) (st failed : Nat) : s.UnitsRan (s.treeFinish r c st failed) := by
  unfold State.treeFinish
  refine State.UnitsRan.trans ?_ (State.unitsRan_bumpCount _ (by decide) ..)
  refine State.UnitsRan.trans ?_ ((State.dropSeqs_effect ..).unitsRan rfl)
  refine State.UnitsRan.trans ?_ ((State.modTree_effect ..).unitsRan rfl)
  have hrecord : s.UnitsRan (if c.records then s.treeRecord r c st failed else s) :=
    .ite ((State.treeRecord_effect ..).unitsRan rfl) (.refl s)
  have hsignal {t : State} (h : s.UnitsRan t) :
      s.UnitsRan (if c.records && c.sigEn && c.sigOff % 8 == 0 && decide (c.sigOff + 8 ≤ pantrySize)
        then t.signalSet r c.sigOff c.sigBit else t) := .ite (h.trans (t.unitsRan_signalSet ..)) h
  have hall := hsignal hrecord
  exact .ite (hall.trans (State.unitsRan_treeError ..)) (.ite (hall.trans (State.unitsRan_treeError ..)) hall)

theorem State.unitsRan_treeAborted (f r : Nat) (s : State) : s.UnitsRan (State.treeAborted f r s) := by
  induction f generalizing s with
  | zero => exact .refl s
  | succ f ih =>
    unfold State.treeAborted
    split
    · exact .ite ((s.unitsRan_treeFinish ..).trans (ih _)) (.refl s)
    · exact .refl s

theorem State.unitsRan_treeStop (s : State) (r : Nat) : s.UnitsRan (s.treeStop r) :=
  ((State.modTree_effect ..).unitsRan rfl).trans (State.unitsRan_treeAborted ..)

theorem State.unitsRan_noteWalk (s : State) (r : Nat) (a : Authority) (n : Need) (va : W64) : s.UnitsRan (s.noteWalk r a n va) := by
  unfold State.noteWalk
  split
  · exact s.unitsRan_bankAccess ..
  · exact .refl s

theorem State.unitsRan_dwNoteFail (s : State) (k : Nat) (p : DwProgram) (e : DwFail) : s.UnitsRan (s.dwNoteFail k p e) := by
  unfold State.dwNoteFail
  refine State.UnitsRan.ite (.refl s) ?_
  dsimp only
  split
  · exact .ite (.refl s) (s.unitsRan_bankAccess ..)
  · exact .refl s
  · exact s.unitsRan_noteWalk ..

theorem State.unitsRan_dwWriteRow (s : State) (scatter : Bool) (earlier : List (Option Nat)) (m : DwMove) :
    s.UnitsRan (s.dwWriteRow scatter earlier m).1 :=
  (s.unitsRan_pwriteAll ..).trans (.foldl (fun _ _ => (State.storeAt_effect ..).unitsRan rfl) _ _)

theorem State.unitsRan_dwWriteRows (s : State) (scatter : Bool) (l : List DwMove) : s.UnitsRan (s.dwWriteRows scatter l).1 :=
  State.UnitsRan.foldlFst (f := fun x m => let y := x.1.dwWriteRow scatter x.2.2 m; (y.1, x.2.1 ||| y.2, x.2.2 ++ placeKeys m.dst))
    (fun x m => x.1.unitsRan_dwWriteRow scatter x.2.2 m) l (s, 0, [])

theorem State.unitsRan_dwWriteSome (s : State) (k : Nat) (p : DwProgram) (t : DwStep) (rows : List DwRow) :
    s.UnitsRan (s.dwWriteSome k p t rows).1 := by
  have hpart (x : State × Nat × Nat) (q : Place × List PByte) : x.1.UnitsRan (State.dwWritePart x q).1 := by
    unfold State.dwWritePart
    split
    · exact (x.1.unitsRan_pwrite ..).trans ((State.storeAt_effect ..).unitsRan rfl)
    · exact .refl x.1
  unfold State.dwWriteSome
  dsimp only
  exact ((State.UnitsRan.foldlFst hpart _ (s, 0, 0)).trans ((State.spoilKeys_effect ..).unitsRan rfl)).trans
    ((State.bump_effect _).unitsRan rfl)

theorem State.unitsRan_modDw (s : State) (k : Nat) {f : DwChan → DwChan} : s.UnitsRan (s.modDw k f) := (State.modDw_effect ..).unitsRan rfl

theorem State.unitsRan_dwData (s : State) (k : Nat) (t : DwStep) : s.UnitsRan (s.dwData k t) := by
  unfold State.dwData
  refine State.UnitsRan.ite (s.unitsRan_modDw k) (.ite (s.unitsRan_modDw k) ?_)
  split
  · exact (s.unitsRan_dwNoteFail ..).trans (State.unitsRan_modDw _ k)
  · refine State.UnitsRan.ite (.refl s) (.ite (.refl s) ?_)
    split
    · exact ((s.unitsRan_dwWriteSome ..).trans (State.unitsRan_dwNoteFail ..)).trans (State.unitsRan_modDw _ k)
    · refine State.UnitsRan.trans ?_ (State.unitsRan_modDw _ k)
      refine State.UnitsRan.trans ?_ ((State.bump_effect _).unitsRan rfl)
      refine State.UnitsRan.trans ?_ ((State.spoilKeys_effect ..).unitsRan rfl)
      exact ((State.dwNoteReads_effect ..).unitsRan rfl).trans (State.unitsRan_dwWriteRows ..)

theorem State.unitsRan_dwSignalAt (s : State) (k va : Nat) (pl : Place) (op : HomeAtomic) : s.UnitsRan (s.dwSignalAt k va pl op) := by
  unfold State.dwSignalAt
  split
  · refine State.UnitsRan.trans ?_ ((State.bump_effect _).unitsRan rfl)
    split <;> exact s.unitsRan_modDw k
  · split
    · exact (s.unitsRan_atomicPerform ..).trans (State.unitsRan_modDw _ k)
    · exact .refl s
    · exact (s.unitsRan_afterRead ..).trans (State.unitsRan_modDw _ k)

theorem State.unitsRan_dwSignalStep (s : State) (k : Nat) (t : DwStep) : s.UnitsRan (s.dwSignalStep k t) := by
  unfold State.dwSignalStep
  refine State.UnitsRan.ite (s.unitsRan_modDw k) (.ite (s.unitsRan_modDw k) ?_)
  split
  · exact (s.unitsRan_dwNoteFail ..).trans (State.unitsRan_modDw _ k)
  · refine State.UnitsRan.ite (s.unitsRan_modDw k) ?_
    split
    · have hat := s.unitsRan_dwSignalAt
      exact .ite (((hat ..).trans ((State.spoilKeys_effect ..).unitsRan rfl)).trans ((State.bump_effect _).unitsRan rfl)) (hat ..)
    · exact s.unitsRan_dwSignalAt ..
    · exact s.unitsRan_modDw k

theorem State.unitsRan_dwFinishStep (s : State) (k : Nat) : s.UnitsRan (s.dwFinishStep k) := by
  unfold State.dwFinishStep
  refine State.UnitsRan.ite (.refl s) ?_
  split
  · exact .refl s
  · refine State.UnitsRan.trans ?_ ((State.bump_effect _).unitsRan rfl)
    split
    · exact s.unitsRan_dwData ..
    · exact s.unitsRan_dwData ..
    · exact s.unitsRan_dwData ..
    · exact s.unitsRan_dwData ..
    · exact s.unitsRan_modDw k
    · exact s.unitsRan_dwSignalStep ..
    · exact .refl s

theorem State.unitsRan_dwLeave (s : State) (r : Nat) (x : DwLeaving) : s.UnitsRan (s.dwLeave r x) := by
  unfold State.dwLeave
  refine State.UnitsRan.trans ?_ (State.unitsRan_bumpCount _ (by decide) ..)
  refine State.UnitsRan.trans ?_ (State.unitsRan_modDw _ x.chan)
  refine State.UnitsRan.trans ?_ ((State.dropGuard_effect ..).unitsRan rfl)
  split
  · exact (s.unitsRan_writePantry ..).trans (State.unitsRan_setReg _ (by decide) ..)
  · exact .refl s

theorem State.unitsRan_dwDrain (f r : Nat) (s : State) : s.UnitsRan (State.dwDrain f r s) := by
  induction f generalizing s with
  | zero => exact .refl s
  | succ f ih =>
    unfold State.dwDrain
    split
    · exact .refl s
    · refine State.UnitsRan.ite (.refl s) (State.UnitsRan.trans ?_ (ih _))
      refine State.UnitsRan.trans ?_ (State.unitsRan_dwLeave ..)
      exact ⟨fun _ _ _ => rfl, fun _ h => h, fun _ => ⟨rfl, rfl⟩⟩

theorem State.unitsRan_dwFinish (s : State) (k : Nat) (c : DwChan) (st va : Nat) (halt : Bool) : s.UnitsRan (s.dwFinish k c st va halt) := by
  have hpost : s.UnitsRan (s.dwPostFail k st va) := by
    unfold State.dwPostFail
    exact .ite (.ite (s.unitsRan_post _) (s.unitsRan_post _)) (.refl s)
  unfold State.dwFinish
  refine State.UnitsRan.ite (hpost.trans ((State.dwDoorDone_effect ..).unitsRan rfl)) ?_
  refine State.UnitsRan.trans ?_ (State.unitsRan_dwDrain ..)
  exact hpost.trans ⟨fun _ _ _ => rfl, fun _ h => h, fun _ => ⟨rfl, rfl⟩⟩

theorem State.unitsRan_dwAbort (f k : Nat) (s : State) : s.UnitsRan (State.dwAbort f k s) := by
  induction f generalizing s with
  | zero => exact .refl s
  | succ f ih =>
    unfold State.dwAbort
    dsimp only
    split
    · exact .refl s
    · exact (s.unitsRan_dwFinish ..).trans (ih _)

theorem State.unitsRan_dwStopRoom (s : State) (r : Nat) : s.UnitsRan (s.dwStopRoom r) := by
  refine .foldl (fun t c => (t.unitsRan_dwFinishStep (r * 8 + c)).trans ?_) _ s
  have habort := State.unitsRan_dwAbort 4 (r * 8 + c) (t.dwFinishStep (r * 8 + c))
  exact .ite habort (habort.trans (State.unitsRan_modDw _ (r * 8 + c)))

/-- R419: the grace list of a room. -/
theorem State.unitsRan_graceRoom (s : State) (r : Nat) : s.UnitsRan (s.graceRoom r) := by
  unfold State.graceRoom
  refine State.UnitsRan.trans ?_ ((State.freezeChunks_effect ..).unitsRan rfl)
  refine State.UnitsRan.trans ?_ (State.unitsRan_dwStopRoom ..)
  refine State.UnitsRan.trans ?_ (State.unitsRan_treeStop ..)
  refine State.UnitsRan.trans ?_ ((State.modAvu_effect ..).unitsRan rfl)
  exact ((State.modArray_effect ..).unitsRan rfl).trans (State.unitsRan_arrayRejected ..)

end Sys2Proof.Machine

/-! ## Rails, headroom, AVSBus and references -/

namespace Sys2Proof.Machine

/-- R440: a register that is not among those that are reset keeps its value. -/
theorem findReg_filter (p : RegName → Nat → Bool) {n : RegName} {i : Nat} (hp : p n i = false) (l : List RegVal) :
    findReg n i (l.filter fun v => !p v.name v.inst) = findReg n i l := by
  induction l with
  | nil => rfl
  | cons v l ih =>
    by_cases hv : v.name = n ∧ v.inst = i
    · have hkept : (!p v.name v.inst) = true := by rw [hv.1, hv.2, hp]; rfl
      rw [List.filter_cons, if_pos hkept, findReg, findReg, if_pos hv, if_pos hv]
    · rw [findReg, if_neg hv, ← ih, List.filter_cons]
      split
      · rw [findReg, if_neg hv]
      · rfl

theorem State.reg_resetRegs_kept (s : State) {p : RegName → Nat → Bool} {n : RegName} {i : Nat} (hp : p n i = false) :
    (s.resetRegs p).reg n i = s.reg n i := by
  rw [State.reg, State.resetRegs, findReg_filter p hp]
  rfl

theorem State.reg_foldl {α : Type} {n : RegName} {i : Nat} {f : State → α → State} (hf : ∀ t a, (f t a).reg n i = t.reg n i)
    (l : List α) (s : State) : (l.foldl f s).reg n i = s.reg n i := by
  induction l generalizing s with
  | nil => rfl
  | cons a l ih => exact (ih _).trans (hf s a)

/-- The registers that links, modules and wings that go down move. -/
def lossRegs : List RegName := [.errProd, .errLost, .doorErr, .linkErr, .fabDropCount, .d2dCfg]

section
variable {n : RegName} (hn : lossRegs.contains n = false)
include hn

theorem ne_of_not_lossRegs : reportRegs.contains n = false ∧ n ≠ .linkErr ∧ n ≠ .fabDropCount ∧ n ≠ .d2dCfg := by
  refine ⟨?_, ?_, ?_, ?_⟩
  · revert hn
    cases n <;> decide
  · rintro rfl
    exact absurd hn (by decide)
  · rintro rfl
    exact absurd hn (by decide)
  · rintro rfl
    exact absurd hn (by decide)

theorem State.reg_porchLinksDown (s : State) (p i : Nat) : (s.porchLinksDown p).reg n i = s.reg n i := by
  obtain ⟨hreport, herr, hdrop, -⟩ := ne_of_not_lossRegs hn
  refine State.reg_foldl (fun t k => ?_) _ s
  split
  · rfl
  · exact State.reg_linkDown hreport herr hdrop ..

theorem State.reg_wingDown (s : State) (w reason i : Nat) : (s.wingDown w reason).reg n i = s.reg n i := by
  unfold State.wingDown
  dsimp only
  refine (State.reg_foldl (fun t p => ?_) _ _).trans ?_
  · split
    · exact t.reg_porchLinksDown hn ..
    · rfl
  · exact (Effect.foldl (F := [.rooms]) (fun t r => State.modRoom_effect ..) (Effect.refl _ _)).reg_eq rfl n i

theorem State.reg_resetModules (s : State) (d i : Nat) : (s.resetModules d).reg n i = s.reg n i := by
  obtain ⟨-, -, -, hd2d⟩ := ne_of_not_lossRegs hn
  unfold State.resetModules
  refine (State.reg_resetRegs_kept _ (by simp [hd2d])).trans ?_
  exact (Effect.foldl (F := [.wingLogs, .errInFlight]) (fun t v => State.postIsland_effect ..) (Effect.refl _ s)).reg_eq rfl n i

end

/-- R409: an error of the power block shows its bit. -/
theorem State.bitOf_powerError (s : State) {bit : Nat} (hbit : bit < 64) (cause info : Nat) :
    bitOf ((s.powerError bit cause info).regN .pwrErr 0) bit = true := by
  rw [State.powerError, State.regN, State.reg_postDie (by decide)]
  exact s.bitOf_orReg .pwrErr 0 hbit

theorem State.powerError_power (s : State) (bit cause info : Nat) : (s.powerError bit cause info).power = s.power :=
  (s.powerError_effect ..).power_eq rfl

theorem State.reg_thermal {n : RegName} (hn : reportRegs.contains n = false) (s : State) (p : ThermPlace) (action i : Nat) :
    (s.thermal p action).reg n i = s.reg n i := by
  unfold State.thermal
  dsimp only
  split
  · rfl
  · exact State.reg_event hn ..

/-! ## A cause of a device stop (R426, R427) -/

/-- The parts that the grace lists of rooms move. -/
def graceParts : List Part := [.free, .mem, .poison, .regs, .harts, .rooms, .insts, .arrays, .attics, .avus, .trees, .dws, .dwOrder, .sqs,
  .descs, .completions, .errRings, .wingLogs, .errInFlight, .ceWindows, .guards]

/-- R427: every room begins its grace list. -/
def State.graceAll (s : State) (l : Tab Room) : State := l.foldl (fun t p => t.graceRoom p.1) s

theorem State.graceAll_effect (s : State) (l : Tab Room) : Effect graceParts s (s.graceAll l) :=
  Effect.foldl (fun t p => (t.graceRoom_effect p.1).mono (by decide)) (Effect.refl ..)

theorem State.unitsRan_graceAll (s : State) (l : Tab Room) : s.UnitsRan (s.graceAll l) :=
  State.UnitsRan.foldl (f := fun t (p : Nat × Room) => t.graceRoom p.1) (fun t p => t.unitsRan_graceRoom p.1) l s

/-- R427: what the first cause of a stop does at once. -/
def State.stopBegins (s : State) (c : StopCause) : State :=
  (((s.modTherm fun x => { x with causes := x.causes ++ [(c, s.now)] }).saveCycles.modTherm fun x => { x with stop := 2 }).thermBit 3).thermal
    (devicePlace s) 8

/-- R427: the rooms whose work a stop ends. -/
def State.serving (s : State) : Tab Room := s.rooms.filter fun p => goodState p.2.cond.state && p.2.phase == .inService

theorem State.stopDevice_eq (s : State) (c : StopCause) :
    s.stopDevice c = if s.therm.stop ≠ 0 then s.modTherm fun x => { x with causes := x.causes ++ [(c, s.now)] }
      else (s.stopBegins c).graceAll s.serving := rfl

/-- The thermal block once a stop has begun. -/
theorem State.stopBegins_therm (s : State) (c : StopCause) : ∃ sent, (s.stopBegins c).therm =
    { s.therm with causes := s.therm.causes ++ [(c, s.now)], stop := 2, sentAt := sent } := by
  obtain ⟨l, hl⟩ := State.thermal_therm (((s.modTherm fun x => { x with
    causes := x.causes ++ [(c, s.now)] }).saveCycles.modTherm fun x => { x with stop := 2 }).thermBit 3) (devicePlace s) 8
  exact ⟨l, hl⟩

/-- What a cause leaves of the thermal block. -/
theorem State.stopDevice_therm (s : State) (c : StopCause) : ∃ st sent, (s.stopDevice c).therm =
    { s.therm with causes := s.therm.causes ++ [(c, s.now)], stop := st, sentAt := sent } ∧ st ≠ 0 := by
  rw [State.stopDevice_eq]
  split
  · next hstop => exact ⟨s.therm.stop, s.therm.sentAt, rfl, hstop⟩
  · obtain ⟨sent, hbegins⟩ := s.stopBegins_therm c
    exact ⟨2, sent, ((State.graceAll_effect ..).1 .therm (by decide)).trans hbegins, by decide⟩

theorem State.stopBegins_effect (s : State) (c : StopCause) :
    Effect [.regs, .sent, .doors, .therm, .flashLogs] s (s.stopBegins c) := by
  refine (State.thermal_effect ..).next (by decide) ?_
  refine (State.thermBit_effect ..).next (by decide) ?_
  refine (State.modTherm_effect ..).next (by decide) ?_
  refine (State.saveCycles_effect _).next (by decide) ?_
  exact (State.modTherm_effect ..).mono (by decide)

theorem State.reg_stopBegins {n : RegName} (hreport : reportRegs.contains n = false) (hne : n ≠ .thermErr) (s : State) (c : StopCause) (i : Nat) :
    (s.stopBegins c).reg n i = s.reg n i :=
  (State.reg_thermal hreport ..).trans (State.reg_orReg_name _ hne ..)

/-- R419, R427: the grace lists of the rooms move no register of the device but THERM_ERR. -/
theorem State.reg_stopDevice {n : RegName} (hunit : unitRegs.contains n = false) (hreport : reportRegs.contains n = false)
    (hne : n ≠ .thermErr) (s : State) (c : StopCause) (i : Nat) : (s.stopDevice c).reg n i = s.reg n i := by
  rw [State.stopDevice_eq]
  split
  · rfl
  · exact ((State.unitsRan_graceAll ..).reg_eq n hunit i).trans (State.reg_stopBegins hreport hne ..)

/-- R437: the bits of THERM_ERR stay set. -/
theorem State.bitOf_thermErr_stopDevice (s : State) (c : StopCause) {k : Nat} (h : bitOf (s.regN .thermErr 0) k = true) :
    bitOf ((s.stopDevice c).regN .thermErr 0) k = true := by
  rw [State.stopDevice_eq]
  split
  · exact h
  · rw [State.regN, (State.unitsRan_graceAll ..).reg_eq .thermErr (by decide), State.stopBegins, State.reg_thermal (by decide)]
    exact State.bitOf_orReg_mono _ h

theorem State.stopDevice_keeps (s : State) (c : StopCause) :
    (∀ e ∈ s.errInFlight, e ∈ (s.stopDevice c).errInFlight) ∧ (s.stopDevice c).power = s.power ∧ (s.stopDevice c).now = s.now := by
  have hbegins := s.stopBegins_effect c
  have hgrace := (s.stopBegins c).graceAll_effect s.serving
  rw [State.stopDevice_eq]
  split
  · exact ⟨fun _ h => h, rfl, rfl⟩
  · refine ⟨fun e h => (State.unitsRan_graceAll ..).posted e ?_, ?_, ?_⟩
    · rwa [show (s.stopBegins c).errInFlight = s.errInFlight from hbegins.1 .errInFlight (by decide)]
    · exact (hgrace.power_eq (by decide)).trans (hbegins.power_eq (by decide))
    · exact (hgrace.now_eq (by decide)).trans (hbegins.now_eq (by decide))

end Sys2Proof.Machine

/-! ## The power block's events (R395–R409) -/

namespace Sys2Proof.Machine

theorem State.causePresent_append (s : State) (c : StopCause) (st : Nat) (sent : List (Nat × Nat × Nat × Nat)) (t : State)
    (h : t.therm = { s.therm with causes := s.therm.causes ++ [(c, s.now)], stop := st, sentAt := sent }) : t.causePresent c = true := by
  rw [State.causePresent, h]
  simp

/-- R408: the islands that lose their reference leave the power block. -/
theorem State.loseRef_spec (s : State) (r : RefInput) :
    (s.loseRef r).power = { s.power with refLost := s.power.refLost ++ [r] } ∧ bitOf ((s.loseRef r).regN .pwrErr 0) 5 = true := by
  set t := (s.modPower fun p => { p with refLost := p.refLost ++ [r] }).powerError 5 0x33 (refIndex r) with ht
  set u := (List.range 24).foldl (fun t w => if s.feedsWings r ∧ (s.wing w).state ≠ 2 then (t.wingDown w 0x33).resetModules w else t) t with hu
  set v := (List.range 8).foldl (fun t p => if s.feedsPorch r p then t.porchLinksDown p else t) u with hv
  have hreg : v.reg .pwrErr 0 = t.reg .pwrErr 0 := by
    refine (State.reg_foldl (fun x p => ?_) _ u).trans (State.reg_foldl (fun x w => ?_) _ t)
    · split
      · exact x.reg_porchLinksDown (by decide) ..
      · rfl
    · split
      · exact (State.reg_resetModules (by decide) ..).trans (State.reg_wingDown (by decide) ..)
      · rfl
  have hpower : v.power = t.power := by
    refine Effect.power_eq (F := [.regs, .rooms, .sent, .attics, .wings, .modules, .links, .doors, .errRings, .wingLogs, .errInFlight,
      .ceWindows, .live, .mailboxStudy]) ?_ rfl
    refine Effect.foldl (fun x p => ?_) (Effect.foldl (fun x w => ?_) (Effect.refl ..))
    · exact .ite (fun _ => (x.porchLinksDown_effect p).mono (by decide)) fun _ => .refl ..
    · exact .ite (fun _ => (State.resetModules_effect ..).next (by decide) ((x.wingDown_effect w 0x33).mono (by decide))) fun _ => .refl ..
  have hlose : (s.loseRef r).power = v.power ∧ (s.loseRef r).regN .pwrErr 0 = v.regN .pwrErr 0 := by
    cases r <;> exact ⟨rfl, rfl⟩
  rw [hlose.1, hlose.2, hpower, State.regN, hreg]
  exact ⟨State.powerError_power .., State.bitOf_powerError _ (by decide) ..⟩

/-- R399: an alarm is held and shown. -/
theorem State.alarm_spec (s : State) (i : Island) :
    (s.alarm i).power.alarms = s.power.alarms ++ [i] ∧ (s.alarm i).power.lastAlarm = s.now ∧ bitOf ((s.alarm i).regN .pwrErr 0) 1 = true := by
  set t := (s.modPower fun p => { p with
    alarms := p.alarms ++ [i], lastAlarm := s.now
    alarmTimes := (p.alarmTimes.filter fun x => decide (s.now < x + 100000)) ++ [s.now] }).orReg .pwrErr 0 2 with ht
  have hbit : bitOf (t.regN .pwrErr 0) 1 = true := State.bitOf_orReg _ .pwrErr 0 (k := 1) (by decide)
  have hpost (u : State) (e : ErrRecord) (hp : u.power.alarms = t.power.alarms ∧ u.power.lastAlarm = t.power.lastAlarm)
      (hr : u.reg .pwrErr 0 = t.reg .pwrErr 0) :
      (u.post e).power.alarms = t.power.alarms ∧ (u.post e).power.lastAlarm = t.power.lastAlarm ∧
        bitOf ((u.post e).regN .pwrErr 0) 1 = true := by
    rw [(u.post_effect e).power_eq rfl, State.regN, State.reg_postOf (by decide), hr]
    exact ⟨hp.1, hp.2, hbit⟩
  cases i
  · exact hpost _ _ ⟨rfl, rfl⟩ rfl
  · exact hpost _ _ ⟨rfl, rfl⟩ rfl
  · exact hpost _ _ ⟨rfl, rfl⟩ rfl
  · exact hpost _ _ ⟨rfl, rfl⟩ rfl

/-- R395, R426: a rail fault shows its bit and is a cause of a stop. -/
theorem State.railFault_spec (s : State) (x : Rail) :
    ∃ t, exec (.railFault x) s = .next t ∧ s.now + 10000 ≤ t.now ∧ bitOf (t.regN .pwrErr 0) 4 = true ∧ t.causePresent .rail = true := by
  set u := (s.reach (s.now + 10000)).powerError 4 0x31 (railIndex x) with hu
  have hbit : bitOf (u.regN .pwrErr 0) 4 = true := State.bitOf_powerError _ (by decide) ..
  have hnow : s.now + 10000 ≤ u.now := by
    rw [(State.powerError_effect ..).now_eq rfl]
    exact le_max_right ..
  have htherm : u.therm = s.therm := (State.powerError_effect ..).1 .therm rfl
  refine ⟨if s.causePresent .rail then u else u.stopDevice .rail, rfl, ?_⟩
  split
  · next hpresent => exact ⟨hnow, hbit, by rw [State.causePresent, htherm]; exact hpresent⟩
  · obtain ⟨st, sent, hcause, -⟩ := u.stopDevice_therm .rail
    obtain ⟨-, -, hkeep⟩ := u.stopDevice_keeps .rail
    refine ⟨hkeep ▸ hnow, ?_, u.causePresent_append .rail st sent _ hcause⟩
    rw [State.regN, State.reg_stopDevice (by decide) (by decide) (by decide)]
    exact hbit

/-- R400: the third failure of a poll in a row. -/
theorem State.avsFails_third (s : State) (h : s.power.avsFails = 2) :
    s.avsFails.power.avsFail = true ∧ s.avsFails.power.avsOk = false ∧ bitOf (s.avsFails.regN .pwrErr 0) 3 = true := by
  set u := ((s.modPower fun p => { p with avsFails := s.power.avsFails + 1 }).modPower fun p => { p with avsFail := true, avsOk := false }) with hu
  have hfails : s.avsFails = (u.powerError 3 0x32 0).lowerTargets := if_pos (by rw [h])
  have hpower : (u.powerError 3 0x32 0).power = u.power := u.powerError_power ..
  rw [hfails]
  refine ⟨?_, ?_, u.bitOf_powerError (by decide) ..⟩
  · exact congrArg PowerB.avsFail hpower
  · exact congrArg PowerB.avsOk hpower

/-- Settles O18: each event moves its fields of the power block, and what it reports, or stops, leaves them and the bits of PWR_ERR. -/
theorem powerEventsComplete : Obligations.PowerEventsComplete := by
  refine ⟨fun x s => s.railFault_spec x, fun i s h => ⟨_, whenReady_of (by simpa using h) .., s.alarm_spec i⟩,
    fun i s h => ⟨_, whenReady_of h .., rfl, rfl⟩, fun r s h => ⟨_, whenReady_of h .., ?relief⟩,
    fun s hnear hlow hok => ⟨_, whenReady_of (by simp [hnear, hlow, hok]) .., ?raise, State.bitOf_orReg _ .pwrErr 0 (k := 2) (by decide)⟩,
    fun s hnone hhigh hok => ⟨_, whenReady_of (by simp [hnone, hhigh]) .., ?recovery⟩, fun r s => rfl,
    fun mv amps s hok hphase => ⟨_, whenReady_of (by simp [hok, hphase]) .., rfl, rfl, rfl, rfl⟩,
    fun mv amps s hok hphase h => ⟨_, whenReady_of (by simp [hok, hphase]) .., State.avsFails_third _ h⟩,
    fun s h => ⟨_, whenReady_of h .., rfl, rfl, le_max_right ..⟩,
    fun x s hused hnew => ⟨_, whenReady_of (by rw [hused, hnew]; rfl) .., ?loss⟩,
    fun x s h => ⟨_, whenReady_of h .., rfl, le_max_right ..⟩⟩
  case relief =>
    set t := s.reach (s.now + 20000)
    set u := (t.modRpow r.val fun p => { p with relief := min (s.roomLimit - 400) (p.relief + 25) }).modPower fun p =>
      { p with lastAlarm := t.now } with hu
    have hrelieve : s.relieve (.floor r) true = u.lowerTargets := rfl
    have hroom : u.rpow r.val = { s.rpow r.val with relief := min (s.roomLimit - 400) ((s.rpow r.val).relief + 25) } := tgetD_tset_same ..
    obtain ⟨hmhz, hrelief⟩ := u.rpow_lowerTargets r.val
    obtain ⟨rs, hpower⟩ := u.lowerTargets_power
    rw [hrelieve, hrelief, hpower]
    refine ⟨by rw [hroom], hmhz.trans (by rw [hroom]), rfl⟩
  case raise =>
    have hset : ¬min 1580 (s.power.vin + 20) = 0 := by omega
    exact if_neg hset
  case recovery =>
    set t := s.reach (max (s.power.lastAlarm + 10000000) (s.now + 1000000)) with ht
    set u := t.modPower fun p => { p with
      vinSet := if p.avsFail then p.vinSet else max 1500 (p.vin - 10)
      rooms := p.rooms.map fun x => (x.1, { x.2 with relief := x.2.relief - 25 }) } with hu
    have hrecover : s.recover = u.askRaises := rfl
    obtain ⟨a, hpower⟩ := u.askRaises_power
    have hset : u.power.vinSet = max 1500 (s.power.vin - 10) := if_neg (by rw [show t.power = s.power from rfl, hok]; decide)
    rw [hrecover, PowerB.vin, hpower, u.askRaises_effect.now_eq rfl]
    refine ⟨?_, le_trans (le_max_left ..) (le_max_right ..)⟩
    show (if u.power.vinSet = 0 then 1500 else u.power.vinSet) = _
    rw [hset, if_neg (by omega)]
  case loss =>
    obtain ⟨hpower, hbit⟩ := s.loseRef_spec x
    exact ⟨by rw [hpower], hbit⟩

end Sys2Proof.Machine

/-! ## What the end of a room's requests and collectives leaves alone (R364) -/

namespace Sys2Proof.Machine

theorem State.unitsRan_storeError (s : State) (k : Nat) (va : W64) : s.UnitsRan (s.storeError k va) :=
  ((State.modHartAt_effect ..).unitsRan rfl).trans (State.unitsRan_post ..)

theorem State.unitsRan_endSpawn (s : State) (q : Req) (m : SpawnMsg) (status : Nat) : s.UnitsRan (s.endSpawn q m status) := by
  have hresult : s.UnitsRan (s.deliverResult q (toBytes 8 status)) := (State.deliverResult_effect ..).unitsRan rfl
  exact .ite (hresult.trans (State.unitsRan_modRoom _ _ fun _ => ⟨rfl, rfl⟩)) hresult

theorem State.unitsRan_endRequest (s : State) (q : Req) (status : Nat) (data : List Byte) (poison : Bool) :
    s.UnitsRan (s.endRequest q status data poison) := by
  have htrap (k cause code : Nat) (va : W64) : s.UnitsRan (s.remoteTrap k cause code va) := (State.remoteTrap_effect ..).unitsRan rfl
  have hresult : s.UnitsRan (s.deliverResult q data) := (State.deliverResult_effect ..).unitsRan rfl
  have hstore : s.UnitsRan (if status = 0 then s else s.storeError (q.room * 32 + q.hart) q.va) := .ite (.refl s) (s.unitsRan_storeError ..)
  unfold State.endRequest
  refine State.UnitsRan.ite ((hstore.trans ((State.endAcquire_effect ..).unitsRan rfl)).trans ((State.endFence_effect ..).unitsRan rfl)) ?_
  split
  · exact .ite (s.unitsRan_endSpawn ..) (.ite (htrap ..) (.ite (htrap ..) (s.unitsRan_endSpawn ..)))
  · exact .ite (htrap ..) (.ite (htrap ..) hresult)

theorem State.unitsRan_endNow (s : State) (q : Req) (status : Nat) : s.UnitsRan (s.endNow q status) :=
  ((State.retireTag_effect ..).unitsRan rfl).trans (State.unitsRan_endRequest ..)

theorem State.unitsRan_collRecord (s : State) (r : Nat) (e : CollEntry) (status arith failed : Nat) :
    s.UnitsRan (s.collRecord r e status arith failed) := by
  unfold State.collRecord
  dsimp only
  have hsignal {t : State} (h : s.UnitsRan t) :
      s.UnitsRan (if bitOf (wordN e.words 7) 57 then t.signalSet r (collSigOff e.words) (fld (wordN e.words 7) 63 58) else t) :=
    .ite (h.trans (t.unitsRan_signalSet ..)) h
  have hdone {t : State} (h : s.UnitsRan t) (l : List CollEntry) : s.UnitsRan (t.setColl r l) := h.trans ((State.setColl_effect ..).unitsRan rfl)
  split
  · exact hdone (hsignal (s.unitsRan_writePantry ..)) _
  · exact (hdone (hsignal (s.unitsRan_writePantry ..)) _).trans ((State.modHartAt_effect ..).unitsRan rfl)

theorem State.unitsRan_endInst (s : State) (i : CollInst) (status failed : Nat) : s.UnitsRan (s.endInst i status failed) := by
  have hspoil (l : List (Nat × CollEntry)) : s.UnitsRan (l.foldl (fun t p => t.collSpoil i p.1 p.2) s.bump) :=
    ((State.bump_effect _).unitsRan rfl).trans (.foldl (fun _ _ => (State.collSpoil_effect ..).unitsRan rfl) _ _)
  have hrecords (t : State) (l : List (Nat × CollEntry)) : t.UnitsRan (l.foldl (fun t p => t.collRecord p.1 p.2 status 0 failed) t) :=
    .foldl (fun t p => t.unitsRan_collRecord ..) _ _
  have hhere : s.UnitsRan (s.endHere i status failed) := by
    set t := if status = 0x40 ∨ status = 0x41 then (s.instEntries i.id i.m0).foldl (fun t p => t.collSpoil i p.1 p.2) s.bump else s
    set u := (s.instEntries i.id i.m0).foldl (fun t p => t.collRecord p.1 p.2 status 0 failed) t
    have hall : s.UnitsRan (u.dropInst i.id i.m0) :=
      ((State.UnitsRan.ite (hspoil _) (.refl s)).trans (hrecords t _)).trans ((State.dropInst_effect ..).unitsRan rfl)
    exact ⟨hall.reg_eq, hall.posted, hall.shown⟩
  exact hhere.trans (.foldl (fun _ _ => (State.send_effect ..).unitsRan rfl) _ _)

theorem State.unitsRan_collAbsent (s : State) (p : W32 → Bool) : s.UnitsRan (s.collAbsent p) := by
  refine .foldl (fun t i => ?_) _ s
  split
  · exact t.unitsRan_endInst ..
  · exact .refl t

theorem State.unitsRan_childEnded (s : State) (p : HartId) (child : W32) (e : ChildEnd) : s.UnitsRan (s.childEnded p child e) := by
  have hchild (f : Room → Room) (hf : ∀ x, (f x).phase = x.phase ∧ (f x).cond = x.cond) : s.UnitsRan (s.modRoom p.room.val f) :=
    s.unitsRan_modRoom _ hf
  have hjoined (rd st : Nat) (v : W64) : s.UnitsRan (s.joined p rd child st v) :=
    ((State.modHart_effect ..).unitsRan rfl).trans (State.unitsRan_modRoom _ _ fun _ => ⟨rfl, rfl⟩)
  unfold State.childEnded
  split
  · split
    · split <;> exact hjoined ..
    · exact hchild _ fun _ => ⟨rfl, rfl⟩
  · exact hchild _ fun _ => ⟨rfl, rfl⟩

theorem State.unitsRan_absentChildren (s : State) (subject : W32) : s.UnitsRan (s.absentChildren subject) := by
  refine .foldl (fun t p => .foldl (fun u c => ?_) _ t) _ s
  dsimp only
  split
  · split
    · exact u.unitsRan_childEnded ..
    · exact .refl u
  · exact .refl u

theorem State.unitsRan_endSubject (s : State) (kind : Nat) (subject : W32) : s.UnitsRan (s.endSubject kind subject) := by
  refine State.UnitsRan.trans ?_ (State.unitsRan_absentChildren ..)
  refine State.UnitsRan.trans ?_ (State.unitsRan_collAbsent ..)
  exact ((State.mailConcerned_effect ..).unitsRan rfl).trans (.foldl (fun t q => t.unitsRan_endNow q 2) _ _)

/-! ## No request that a subject concerns is left (R364) -/

theorem State.reqs_endNow (s : State) (q : Req) (status : Nat) :
    (s.endNow q status).reqs = s.reqs.filter fun x => !(x.room == q.room && x.tag == q.tag) :=
  (State.endRequest_effect ..).1 .reqs rfl

/-- A request that is left at the end was there before and is none of those that end. -/
theorem State.mem_reqs_endNow_foldl (l : List Req) (status : Nat) (x : Req) :
    ∀ s : State, x ∈ (l.foldl (fun t q => t.endNow q status) s).reqs → x ∈ s.reqs ∧ x ∉ l := by
  induction l with
  | nil => exact fun s h => ⟨h, List.not_mem_nil⟩
  | cons q l ih =>
    intro s h
    obtain ⟨hmem, hnot⟩ := ih _ h
    rw [State.reqs_endNow, List.mem_filter] at hmem
    refine ⟨hmem.1, fun hin => ?_⟩
    obtain rfl | hin := List.mem_cons.mp hin
    · simp at hmem
    · exact hnot hin

theorem State.concerned_endSubject (s : State) (kind : Nat) (subject : W32) : (s.endSubject kind subject).concerned subject = [] := by
  set t := s.mailConcerned kind subject with ht
  set u := (s.concerned subject).foldl (fun t q => t.endNow q 2) t with hu
  have hend : s.endSubject kind subject = (u.collAbsent (inSubject subject)).absentChildren subject := rfl
  have hrest : Effect [.free, .mem, .poison, .regs, .harts, .rooms, .sent, .colls, .insts, .keptEnds, .attics, .dws, .errRings, .wingLogs,
      .errInFlight, .ceWindows, .guards] u (s.endSubject kind subject) :=
    (State.absentChildren_effect ..).next (by decide) (State.collAbsent_effect ..)
  have hreqs : (s.endSubject kind subject).reqs = u.reqs := hrest.1 .reqs rfl
  have hall : Effect [.free, .mem, .poison, .regs, .harts, .rooms, .tags, .reqs, .sent, .colls, .insts, .keptEnds, .attics, .dws, .mailboxes,
      .errRings, .wingLogs, .errInFlight, .ceWindows, .guards] s (s.endSubject kind subject) := by
    rw [hend]
    refine (State.absentChildren_effect ..).next (by decide) ((State.collAbsent_effect ..).next (by decide) ?_)
    exact Effect.foldl (fun x q => (x.endNow_effect q 2).mono (by decide)) ((State.mailConcerned_effect ..).mono (by decide))
  have hdev : (s.endSubject kind subject).devId = s.devId := hall.1 .devId rfl
  have hmail : t.reqs = s.reqs := (s.mailConcerned_effect ..).1 .reqs rfl
  rw [State.concerned, hreqs, hdev, List.filter_eq_nil_iff]
  intro x hx hin
  obtain ⟨hmem, hnot⟩ := State.mem_reqs_endNow_foldl _ 2 x t hx
  exact hnot (List.mem_filter.mpr ⟨hmail ▸ hmem, hin⟩)

end Sys2Proof.Machine

/-! ## Orderly stops of rooms and of the device (R419, R426–R429) -/

namespace Sys2Proof.Machine

theorem State.stopReason_modRtherm (s : State) (r cause : Nat) :
    ((s.modRtherm r fun x => { x with stopReason := cause, stopSince := s.now }).rtherm r).stopReason = cause := by
  rw [State.rtherm_modRtherm]

/-- R419: an event of the thermal block leaves the rooms' records of heat. -/
theorem State.rtherm_thermal (s : State) (p : ThermPlace) (action r : Nat) : (s.thermal p action).rtherm r = s.rtherm r := by
  obtain ⟨l, hl⟩ := s.thermal_therm p action
  rw [State.rtherm, hl]
  rfl

/-- R419: nothing of a room's AVU queue is left to be dispatched. -/
theorem State.avu_graceRoom (s : State) (r : Nat) : ((s.graceRoom r).avu r).queue.all (·.dispatched) = true := by
  set t := State.arrayRejected 8 r (s.modArray r fun a => { a with
    queue := a.queue.map fun e => if e.started then e else { e with started := true, status := 0x30 } })
  set u := t.modAvu r fun a => { a with
    queue := a.queue.map fun c => if c.dispatched then c else { c with dispatched := true, status := 0x30 } } with hu
  have hgrace : s.graceRoom r = ((u.treeStop r).dwStopRoom r).freezeChunks r := rfl
  have hqueue : (u.avu r).queue = (t.avu r).queue.map fun c => if c.dispatched then c else { c with dispatched := true, status := 0x30 } := by
    rw [hu, State.avu_modAvu]
  rw [hgrace, (State.freezeChunks_effect ..).avu_eq rfl, (State.dwStopRoom_effect ..).avu_eq rfl, (State.treeStop_effect ..).avu_eq rfl,
    hqueue, List.all_map, List.all_eq_true]
  intro c _
  by_cases h : c.dispatched = true
  · simp [h]
  · simp [h]

/-- R419: a room's stop begins with its grace. -/
theorem State.beginStop_spec (s : State) (r cause : Nat) :
    ((s.beginStop r cause).room r).phase = .stopGrace ∧ ((s.beginStop r cause).rtherm r).stopReason = cause ∧
      bitOf ((s.beginStop r cause).regN .thermErr 0) 2 = true ∧ ((s.beginStop r cause).avu r).queue.all (·.dispatched) = true := by
  set temp := if cause = 0x20 then (s.attic r).temp else (s.rtherm r).max
  set t := ((s.saveCycles.setPhase r .stopGrace).modRtherm r fun x => { x with stopReason := cause, stopSince := s.now }).thermBit 2 with ht
  set u := t.postRoom cause r (if cause = 0x22 then 0 else tempByte temp) with hu
  have hbegin : s.beginStop r cause =
      (u.graceRoom r).thermal ⟨if cause = 0x20 then 1 else 0, if cause = 0x20 then 4 else (s.rtherm r).band, temp, 0xFF, r⟩ 3 := rfl
  have hgrace := u.unitsRan_graceRoom r
  have htherm : (u.graceRoom r).therm = t.therm := ((u.graceRoom_effect r).1 .therm rfl).trans ((State.postRoom_effect ..).1 .therm rfl)
  rw [hbegin, (State.thermal_effect ..).room_eq rfl, (hgrace.shown r).1, (State.postRoom_effect ..).room_eq rfl, State.rtherm_thermal,
    (State.thermal_effect ..).avu_eq rfl, State.regN, State.reg_thermal (by decide), hgrace.reg_eq .thermErr (by decide),
    State.reg_postRoom (by decide), State.rtherm, htherm]
  refine ⟨?_, State.stopReason_modRtherm (s.saveCycles.setPhase r .stopGrace) r cause, State.bitOf_orReg _ .thermErr 0 (by decide),
    u.avu_graceRoom r⟩
  exact congrArg Room.phase (s.saveCycles.room_modRoom r fun x => { x with phase := .stopGrace })

/-- R419: the queues of a room's array and AVU are empty once they are discarded. -/
theorem State.array_emptyUnits (s : State) (r : Nat) : ((s.emptyUnits r).array r).queue = [] :=
  congrArg ArrayB.queue (s.array_modArray r fun a => { a with queue := [], stages := [], power := .idle })

theorem State.avu_emptyUnits (s : State) (r : Nat) : ((s.emptyUnits r).avu r).queue = [] :=
  congrArg AvuB.queue ((s.modArray r fun a => { a with queue := [], stages := [], power := .idle }).avu_modAvu r fun a => { a with queue := [] })

/-- R419: a room's clocks stop, and its queues are discarded. -/
theorem State.stopClocks_spec (s : State) (r : Nat) :
    ((s.stopClocks r).room r).phase = .stopClocks ∧ ((s.stopClocks r).room r).cond.reason = (s.rtherm r).stopReason ∧
      ((s.stopClocks r).array r).queue = [] ∧ ((s.stopClocks r).avu r).queue = [] ∧ ((s.stopClocks r).attic r).phase = .stopped ∧
      ((s.stopClocks r).rpow r).mhz = 0 := by
  set t := if s.graceDone r then s else s.reach ((s.rtherm r).stopSince + 200000)
  set u := ((t.cutWork r).abandon r).setPhase r .stopClocks with hu
  set v := u.modRoom r fun x => { x with cond := { x.cond with reason := (s.rtherm r).stopReason } } with hv
  have hstop : s.stopClocks r = ((v.emptyUnits r).modAttic r fun a => { a with phase := .stopped }).modRpow r fun p => { p with mhz := 0 } := rfl
  have hroom : (s.stopClocks r).room r = { u.room r with cond := { (u.room r).cond with reason := (s.rtherm r).stopReason } } := by
    rw [hstop, (State.modRpow_effect ..).room_eq rfl, (State.modAttic_effect ..).room_eq rfl, (State.emptyUnits_effect ..).room_eq rfl]
    exact u.room_modRoom r _
  have hphase : (u.room r).phase = .stopClocks := by rw [hu, State.setPhase, State.room_modRoom]
  rw [hroom, hstop, (State.modRpow_effect ..).array_eq rfl, (State.modAttic_effect ..).array_eq rfl, (State.modRpow_effect ..).avu_eq rfl,
    (State.modAttic_effect ..).avu_eq rfl, (State.modRpow_effect ..).attic_eq rfl, State.attic_modAttic, State.rpow_modRpow]
  dsimp only
  exact ⟨hphase, rfl, v.array_emptyUnits r, v.avu_emptyUnits r, rfl, rfl⟩

/-- R364, R419: a room's notice goes out, and nothing that concerns the room is outstanding here. -/
theorem State.stopNotice_spec (s : State) (r : Nat) (subject : W32) :
    ((((s.setPhase r .stopNotice).endSubject 1 subject).sendNotice 1 r 0).room r).phase = .stopNotice ∧
      (((s.setPhase r .stopNotice).endSubject 1 subject).sendNotice 1 r 0).concerned subject = [] ∧
      ∃ u, (((s.setPhase r .stopNotice).endSubject 1 subject).sendNotice 1 r 0).sent =
        u ++ [.notice 1 (BitVec.ofNat 32 (s.threadId (r * 32))) (s.room r).cond.epoch (s.room r).cond.reason 0] := by
  set t := s.setPhase r .stopNotice with ht
  set u := t.endSubject 1 subject with hu
  have hroom : t.room r = { s.room r with phase := .stopNotice } := by rw [ht, State.setPhase, State.room_modRoom]
  obtain ⟨hphase, hcond⟩ := (t.unitsRan_endSubject 1 subject).shown r
  have hdev : u.devId = s.devId := (State.endSubject_effect t 1 subject).1 .devId rfl
  have hthread : u.threadId (r * 32) = s.threadId (r * 32) := by simp only [State.threadId, hdev]
  refine ⟨?_, t.concerned_endSubject 1 subject, u.sent, ?_⟩
  · exact hphase.trans (by rw [hroom])
  · rw [State.sendNotice, hthread, hcond, hroom]
    rfl

/-- R364, R419: a stopped room is shown as absent by heat. -/
theorem State.publishStop_spec (s : State) (r : Nat) :
    ((s.publishStop r).room r).phase = .stopped ∧ ((s.publishStop r).room r).cond.state = 6 := by
  rw [State.publishStop, (State.updatePlan_effect _).room_eq rfl, State.room_modRoom]
  exact ⟨rfl, rfl⟩

/-- A record that is not of a correctable error is in flight once it is posted. -/
theorem State.mem_errInFlight_post (s : State) {e : ErrRecord} (he : e.severity ≠ 1) : e ∈ (s.post e).errInFlight := by
  have hpost : s.post e = (s.placeRecord e).rowEvent e := by simp only [State.post, he, if_false]
  rw [hpost]
  refine (State.unitsRan_rowEvent _ e).posted e ?_
  unfold State.placeRecord
  exact List.mem_append_right _ (List.mem_singleton_self e)

/-- R415: an emergency caps every room. -/
theorem State.lowerTargets_emergency (s : State) (h : s.therm.emergency = true) (r : Nat) : (s.lowerTargets.rpow r).mhz ≤ 400 := by
  have hwant : s.wantedMhz r = 400 := by simp only [State.wantedMhz, h, if_true]
  rw [State.rpow, tgetD, State.tget_lowerTargets, hwant]
  cases tget r s.power.rooms with
  | none => exact Nat.zero_le _
  | some p => exact Nat.min_le_right ..

/-- R415, R426: the flow that is lost caps the rooms and is a cause of a stop. -/
theorem State.flowLoss_spec (s : State) (hnew : s.causePresent .flow = false) (hstop : s.therm.stop ≤ 3) :
    ∃ t, exec .flowOkLoss s = .next t ∧ t.causePresent .flow = true ∧ t.therm.emergency = true ∧ t.therm.flowOk = false ∧
      bitOf (t.regN .thermErr 0) 1 = true ∧ ∀ x, (t.rpow x).mhz ≤ 400 := by
  set a := s.modTherm fun x => { x with emergency := true, flowOk := false } with ha
  set b := a.lowerTargets.thermBit 1 with hb
  set t := (b.postDie 0x24 s.hearthDie 0).thermal (devicePlace s) 7 with ht
  obtain ⟨l, hl⟩ := (b.postDie 0x24 s.hearthDie 0).thermal_therm (devicePlace s) 7
  have htherm : t.therm = { a.therm with sentAt := l } := by
    rw [ht, hl, show (b.postDie 0x24 s.hearthDie 0).therm = b.therm from (State.postDie_effect ..).1 .therm rfl]
    rfl
  have hpower : t.power = a.lowerTargets.power :=
    ((State.thermal_effect ..).power_eq rfl).trans ((State.postDie_effect ..).power_eq rfl)
  have hbit : bitOf (t.regN .thermErr 0) 1 = true := by
    rw [State.regN, ht, State.reg_thermal (by decide), State.reg_postDie (by decide)]
    exact State.bitOf_orReg _ .thermErr 0 (by decide)
  obtain ⟨st, sent, hcause, -⟩ := t.stopDevice_therm .flow
  obtain ⟨-, hkeep, -⟩ := t.stopDevice_keeps .flow
  refine ⟨t.stopDevice .flow, whenReady_of (by simp [hnew, hstop]) .., t.causePresent_append .flow st sent _ hcause, ?_, ?_,
    t.bitOf_thermErr_stopDevice .flow hbit, fun x => ?_⟩
  · rw [hcause, htherm]
    rfl
  · rw [hcause, htherm]
    rfl
  · rw [State.rpow, hkeep, hpower]
    exact a.lowerTargets_emergency rfl x

/-- R428: with its last cause gone the part resumes. -/
theorem State.clearCause_last (s : State) {c : StopCause} (ns : Nat) (hlast : s.therm.causes.filter (fun x => x.1 != c) = [])
    (hheld : s.therm.heldReset = none) :
    (s.clearCause c ns).therm.stop = 0 ∧ (s.clearCause c ns).therm.causes = [] ∧ (s.clearCause c ns).therm.resuming = true := by
  set t := (s.reach (s.now + ns)).modTherm fun x => { x with causes := x.causes.filter (·.1 != c) } with ht
  set u := if c = .flow then t.modTherm fun x => { x with emergency := false, flowOk := true } else t with hu
  have hnone : u.therm.causes = [] := by
    rw [hu]
    split <;> exact hlast
  set v := u.modTherm fun x => { x with stop := 0, resuming := true, heldReset := none } with hv
  obtain ⟨l, hl⟩ := v.thawChunks.askRaises.thermal_therm (devicePlace s) 9
  have hclear : s.clearCause c ns = v.thawChunks.askRaises.thermal (devicePlace s) 9 := by
    unfold State.clearCause
    dsimp only
    rw [if_neg (not_not_intro hnone), hheld]
  have htherm : v.thawChunks.askRaises.therm = v.therm := (State.askRaises_effect _).1 .therm rfl
  rw [hclear, hl, htherm]
  exact ⟨rfl, hnone, rfl⟩

/-- R427, R428: the commit of a stop resets the part. -/
theorem State.now_commit (s : State) (c : StopCause × Nat) : commitTime s.now c ≤ (s.commit c).now := by
  set t := (s.reach (commitTime s.now c)).saveCycles
  have hreset : Effect [.regs, .sent, .doors, .errInFlight, .deviceLog, .flashLog, .deviceSeq, .links, .therm] t
      ((t.deliverAll.goodbyes (stopCode c.1)).thermal (devicePlace s) 10) :=
    (State.thermal_effect ..).next (by decide) ((goodbyes_deliverAll_effect ..).mono (by decide))
  have hnow : (s.commit c).now = t.now := hreset.now_eq rfl
  rw [hnow]
  exact le_max_right ..

/-- Settles O21: each phase of a stop leaves what its end needs, and the work that it ends touches no phase, no bit and no record. -/
theorem orderlyStopsComplete : Obligations.OrderlyStopsComplete := by
  refine ⟨fun r s k hcause hstate hphase => ⟨s.beginStop r.val k, ?grace, s.beginStop_spec r.val k⟩,
    fun r s hphase => ⟨_, whenReady_of (by simp [hphase]) .., s.stopClocks_spec r.val⟩, fun r s hphase hrestart => ?notice,
    fun r s hphase => ⟨_, whenReady_of (by simp [hphase]) .., s.publishStop_spec r.val⟩, fun s => s.flowLoss_spec,
    fun s hnew hstop => ?warn, fun s hstop => ?drain, fun s c hfirst hstop => ?commit,
    fun flow s hpresent hstop hlast hheld hclears => ⟨_, whenReady_of ?resume .., s.clearCause_last (clearTime flow) hlast hheld⟩⟩
  case resume =>
    rw [hpresent, decide_eq_true hstop, hclears]
    rfl
  case grace =>
    show execRoomStopGrace r s = _
    rw [execRoomStopGrace, hcause]
    exact whenReady_of (by simp [hstate, hphase]) ..
  case notice =>
    obtain ⟨hnotice, hnone, u, hsent⟩ := s.stopNotice_spec r.val (BitVec.ofNat 32 (s.threadId (r.val * 32)))
    exact ⟨_, u, whenReady_of (by simp [hphase, hrestart]) .., hnotice, hnone, hsent⟩
  case warn =>
    set t := s.postDie 0x25 s.hearthDie 0 with ht
    obtain ⟨st, sent, hcause, hst⟩ := t.stopDevice_therm .pwrWarn
    obtain ⟨hposted, -, -⟩ := t.stopDevice_keeps .pwrWarn
    refine ⟨t.stopDevice .pwrWarn, whenReady_of (by simp [hnew, hstop]) .., t.causePresent_append .pwrWarn st sent _ hcause, ?_,
      hposted _ (s.mem_errInFlight_post (e := dieRecord s 0x25 s.hearthDie 0) (show causeSeverity 0x25 ≠ 1 by decide))⟩
    rw [hcause]
    exact hst
  case drain =>
    refine ⟨_, whenReady_of (by simp [hstop]) .., ?_⟩
    refine ⟨?_, ?_, fun hdrained => ?_, fun hbusy => ?_⟩
    · split <;> rfl
    · split <;> rfl
    · rw [if_pos hdrained]
      rfl
    · rw [hbusy, if_neg Bool.false_ne_true]
      exact le_max_right ..
  case commit =>
    refine ⟨s.commit c, ?_, rfl, rfl, s.now_commit c⟩
    show execCommitPoint s = _
    rw [execCommitPoint, hfirst]
    exact whenReady_of (by simp [hstop]) ..

end Sys2Proof.Machine

/-! ## Maintenance: retirement, scrubs, the mailbox and remapped words -/

namespace Sys2Proof.Machine

theorem Effect.remap_eq {F : List Part} {s t : State} (he : Effect F s t) (hF : F.contains .remaps = false) (k : Nat) :
    t.remap k = s.remap k := by
  simp only [State.remap, show t.remaps = s.remaps from he.1 .remaps hF]

/-- R476: the bit of a bank that is retired is clear. -/
theorem bitOf_retired (m b : Nat) : bitOf (if bitOf m b then m - 2 ^ b else m) b = false := by
  split
  · next h =>
    rw [bitOf_eq_testBit] at h ⊢
    rw [Nat.testBit_eq_decide_div_mod_eq, decide_eq_true_eq] at h
    have hdiv : m / 2 ^ b = (m - 2 ^ b) / 2 ^ b + 1 := by
      have hpos := Nat.two_pow_pos b
      have hle : 2 ^ b ≤ m := by
        by_contra hlt
        rw [Nat.div_eq_of_lt (by omega)] at h
        omega
      rw [← Nat.add_div_right _ hpos, Nat.sub_add_cancel hle]
    rw [Nat.testBit_eq_decide_div_mod_eq, decide_eq_false_iff_not]
    omega
  · next h => exact Bool.eq_false_iff.mpr h

/-- R476: a bank is retired. -/
theorem State.retireBank_spec (s : State) {r b : Nat} (hnew : s.flashLogs.banks.contains (r, b) = false) :
    bitOf ((s.retireBank r b).room r).cond.bankMap b = false ∧ (s.retireBank r b).flashLogs.banks = s.flashLogs.banks ++ [(r, b)] ∧
      (((s.retireBank r b).room r).cond.bankMap = 0 → (s.room r).cond.state ≠ 3 → ((s.retireBank r b).room r).cond.state = 5) := by
  set m := if bitOf (s.room r).cond.bankMap b then (s.room r).cond.bankMap - 2 ^ b else (s.room r).cond.bankMap with hm
  set t := { s with flashLogs := { s.flashLogs with banks := s.flashLogs.banks ++ [(r, b)] } } with ht
  set u := t.modRoom r fun x =>
      let m := if bitOf x.cond.bankMap b then x.cond.bankMap - 2 ^ b else x.cond.bankMap
      { x with cond := { x.cond with
        bankMap := m, state := if m = 0 ∧ x.cond.state ≠ 3 then 5 else x.cond.state
        reason := if m = 0 ∧ x.cond.state ≠ 3 then 0x10 else x.cond.reason } } with hu
  have hretire : s.retireBank r b = (u.post { roomRecord u 0x10 r 0 with flags := 3, bank := b }).updatePlan := by
    simp only [State.retireBank, hnew, Bool.false_eq_true, if_false]
    rfl
  have hroom : (u.room r).cond.bankMap = m ∧ (u.room r).cond.state = if m = 0 ∧ (s.room r).cond.state ≠ 3 then 5 else (s.room r).cond.state := by
    rw [hu, State.room_modRoom]
    exact ⟨rfl, rfl⟩
  rw [hretire, (State.updatePlan_effect _).room_eq rfl, (State.post_effect ..).room_eq rfl, hroom.1, hroom.2]
  refine ⟨bitOf_retired .., ?_, fun hzero hstate => if_pos ⟨hzero, hstate⟩⟩
  rw [show (u.post _).updatePlan.flashLogs = (u.post _).flashLogs from (State.updatePlan_effect _).1 .flashLogs rfl,
    show (u.post _).flashLogs = u.flashLogs from (State.post_effect ..).1 .flashLogs rfl]
  rfl

/-! ## Scrubs (R468, R469) -/

theorem State.scrubWord_cmd (s : State) (x : ScrubB) (l : List ScrubWord) (j : Nat) : (s.scrubWord x l j).2.cmd = x.cmd := by
  unfold State.scrubWord
  dsimp only
  split
  · rfl
  · split
    · rfl
    · split <;> rfl

theorem State.scrubGranule_cmd (s : State) (x : ScrubB) (l : List ScrubWord) :
    (s.scrubGranule x l).2.cmd = x.cmd ∧ (s.scrubGranule x l).2.pos = x.pos + 256 := by
  have hwords (js : List Nat) : ∀ p : State × ScrubB,
      (js.foldl (fun (p : State × ScrubB) j => p.1.scrubWord p.2 l j) p).2.cmd = p.2.cmd := by
    induction js with
    | nil => exact fun p => rfl
    | cons j js ih => exact fun p => (ih _).trans (p.1.scrubWord_cmd ..)
  unfold State.scrubGranule
  split
  · exact ⟨rfl, rfl⟩
  · dsimp only
    exact ⟨hwords _ _, rfl⟩

theorem State.scrubs_bufWrite (s : State) (c : MgmtCmd) (l : List Byte) : (s.bufWrite c l).live = s.live := by
  unfold State.bufWrite
  dsimp only
  split
  · exact (State.memWrite_effect ..).live_eq rfl
  · rfl

/-- R469: a scrub that ends is no longer held. -/
theorem State.scrubs_endScrub (s : State) (x : ScrubB) (c : MgmtCmd) (status : Nat) :
    (s.endScrub x c status).live.scrubs = s.live.scrubs.filter fun y => y.cmd != x.cmd := by
  set t := (s.setScrubs (s.live.scrubs.filter fun y => y.cmd != x.cmd)).bufWrite c (x.summary (c.arg 0) s.now) with ht
  have hbuf : t.live.scrubs = s.live.scrubs.filter fun y => y.cmd != x.cmd := congrArg LiveB.scrubs (State.scrubs_bufWrite ..)
  obtain ⟨l, hl⟩ := t.sameLive_mgmtEnd c status
  have hend : s.endScrub x c status = t.mgmtEnd c status := rfl
  rw [hend, hl]
  exact hbuf

/-- R468: a granule of a scrub. -/
theorem State.scrubStep_spec (s : State) (x : ScrubB) (c : MgmtCmd) (l : List ScrubWord) (hroom : (s.room x.room).cond.state ≤ 2) :
    (x.pos + 256 ≠ x.length → (s.scrubStep x c l).mem = s.mem ∧
        (s.scrubStep x c l).live.scrubs = s.live.scrubs.map fun y => if y.cmd = x.cmd then (s.scrubGranule x l).2 else y) ∧
      (x.pos + 256 = x.length → (s.scrubStep x c l).live.scrubs = s.live.scrubs.filter fun y => y.cmd != x.cmd) := by
  set p := s.scrubGranule x l with hp
  obtain ⟨hcmd, hpos⟩ := s.scrubGranule_cmd x l
  have heff : Effect _ s p.1 := s.scrubGranule_effect x l
  have hlive : p.1.live = s.live := heff.live_eq rfl
  have hstep : s.scrubStep x c l = if p.2.pos = x.length then p.1.endScrub p.2 c 0
      else p.1.setScrubs (p.1.live.scrubs.map fun y => if y.cmd = x.cmd then p.2 else y) := if_neg (by omega)
  refine ⟨fun hmore => ?_, fun hend => ?_⟩
  · rw [hstep, if_neg (by rw [hpos]; exact hmore), hlive]
    exact ⟨heff.mem_eq rfl, rfl⟩
  · rw [hstep, if_pos (by rw [hpos]; exact hend), State.scrubs_endScrub, hlive, hcmd]

/-! ## The mailbox (R530, R531) -/

/-- R531: the status that a response of the mailbox shows. -/
theorem responseStatus {op status phase : Nat} (hstatus : status < 256) (hphase : phase ≤ 1) :
    fld (BitVec.ofNat 64 (op * 2 ^ 24 + status * 2 ^ 16 + 0x3FE * 64 + phase)).toNat 23 16 = status := by
  simp only [BitVec.toNat_ofNat, fld]
  omega

/-- R531: a final answer leaves the mailbox free and shows its status. -/
theorem State.mailboxAnswer_final (s : State) {op status : Nat} (tag : W64) (hstatus : status < 256) (hfinal : status ≠ 0x20) :
    (s.mailboxAnswer op status tag 0 0).mailboxStudy.busy = false ∧ (s.mailboxAnswer op status tag 0 0).mailboxStudy.final = true ∧
      ((s.mailboxAnswer op status tag 0 0).mailboxStudy.rsp.map fun x => fld x.toNat 23 16).getD 1 0 = status := by
  have hphase : 1 - wordN s.mailboxStudy.rsp 1 % 2 ≤ 1 := Nat.sub_le ..
  simp only [State.mailboxAnswer, bne_iff_ne.mpr hfinal, Bool.not_true, Bool.and_false, List.map_cons, List.getD_cons_succ, List.getD_cons_zero,
    responseStatus hstatus hphase, and_self]

/-- R531: what GO does while no command is held. -/
theorem State.mailboxStart_idle (s : State) {w : List W64} (hidle : s.mailboxStudy.busy = false) (hw : s.mailboxStudy.req = w) :
    (fld (wordN w 0) 7 0 = 0x10 → mgmtFields w = true → wordN w 6 = 0 →
      s.mailboxStart.live.cmds = s.live.cmds ++ [mgmtCmd s.nextDesc false 0 w s.now] ∧ s.mailboxStart.mailboxStudy.busy = true) ∧
    (fld (wordN w 0) 7 0 ≠ 0x10 ∨ mgmtFields w = false →
      s.mailboxStart.live = s.live ∧ s.mailboxStart.mailboxStudy.busy = false ∧ s.mailboxStart.mailboxStudy.final = true ∧
        (s.mailboxStart.mailboxStudy.rsp.map fun x => fld x.toNat 23 16).getD 1 0 = if fld (wordN w 0) 7 0 ≠ 0x10 then 0x10 else 0x11) := by
  subst hw
  set w := s.mailboxStudy.req with hw
  set t := { s with mailboxStudy := { s.mailboxStudy with busy := true, done := false, final := false } } with ht
  have hstart : s.mailboxStart =
      if fld (wordN w 0) 7 0 ≠ 0x10 then t.mailboxAnswer (fld (wordN w 0) 7 0) 0x10 (w.getD 1 0) 0 0
      else if mgmtFields w = false then t.mailboxAnswer (fld (wordN w 0) 7 0) 0x11 (w.getD 1 0) 0 0
      else if wordN w 6 ≠ 0 ∧ s.mailboxBuf (wordN w 6) = false then t.mailboxAnswer (fld (wordN w 0) 7 0) 0x12 (w.getD 1 0) 0 0
      else State.addCmd { t with nextDesc := t.nextDesc + 1 } (mgmtCmd t.nextDesc false 0 w s.now) := by
    simp only [State.mailboxStart, hidle, Bool.false_eq_true, if_false]
    rfl
  have hanswer {st : Nat} (hst : st < 256) (hfinal : st ≠ 0x20) :=
    t.mailboxAnswer_final (op := fld (wordN w 0) 7 0) (w.getD 1 0) hst hfinal
  refine ⟨fun hop hfields hbuf => ?_, fun hbad => ?_⟩
  · rw [hstart, if_neg (not_not_intro hop), if_neg (by simp [hfields]), if_neg (fun h => h.1 hbuf)]
    exact ⟨rfl, rfl⟩
  · by_cases hop : fld (wordN w 0) 7 0 ≠ 0x10
    · rw [hstart, if_pos hop, if_pos hop]
      exact ⟨rfl, hanswer (by decide) (by decide)⟩
    · rw [hstart, if_neg hop, if_pos (hbad.resolve_left hop), if_neg hop]
      exact ⟨rfl, hanswer (by decide) (by decide)⟩

/-! ## Remapped words (R464, R477) -/

theorem State.remap_modRemap (s : State) (k : Nat) (f : RemapB → RemapB) : (s.modRemap k f).remap k = f (s.remap k) := tgetD_tset_same ..

theorem State.remap_remapWord (s : State) (m : RemapMemory) (off : Nat) (ue : Bool) :
    ((s.remapWord m off ue).remap (remapKey m)).words = (s.remap (remapKey m)).words ++ [off] := by
  set t := (s.modRemap (remapKey m) fun x => { x with words := x.words ++ [off], once := x.once.filter (· != off) }).postDie
    0x0A (remapDie m) off with ht
  have hword : (t.remap (remapKey m)).words = (s.remap (remapKey m)).words ++ [off] := by
    rw [ht, (State.postDie_effect ..).remap_eq rfl, State.remap_modRemap]
  unfold State.remapWord
  rw [← ht]
  dsimp only
  split
  · split
    · rwa [(State.loseFlit_effect ..).remap_eq rfl]
    · exact hword
  · exact hword

/-- R464, R477: a word of a table with room. -/
theorem State.wordError_spec (s : State) (m : RemapMemory) (off : Nat) (ue : Bool)
    (hnew : (s.remap (remapKey m)).words.contains off = false) (hspace : (s.remap (remapKey m)).words.length < 8) :
    (ue = true ∨ (s.remap (remapKey m)).once.contains off = true →
        ((s.wordError m off ue).remap (remapKey m)).words = (s.remap (remapKey m)).words ++ [off]) ∧
      (ue = false → (s.remap (remapKey m)).once.contains off = false →
        ((s.wordError m off ue).remap (remapKey m)).words = (s.remap (remapKey m)).words ∧
          ((s.wordError m off ue).remap (remapKey m)).once = (s.remap (remapKey m)).once ++ [off]) := by
  set t := s.postDie (if ue then 0x08 else 0x07) (remapDie m) off with ht
  have hpost : t.remap (remapKey m) = s.remap (remapKey m) := (State.postDie_effect ..).remap_eq rfl _
  have herror : s.wordError m off ue = if ue || (s.remap (remapKey m)).once.contains off then t.remapWord m off ue
      else t.modRemap (remapKey m) fun y => { y with once := y.once ++ [off] } := by
    simp only [State.wordError, hnew, Bool.false_eq_true, if_false, hspace, if_true]
    rfl
  refine ⟨fun h => ?_, fun hue honce => ?_⟩
  · have hagain : (ue || (s.remap (remapKey m)).once.contains off) = true := by simpa using h
    rw [herror, if_pos hagain, State.remap_remapWord, hpost]
  · have hfirst : ¬(ue || (s.remap (remapKey m)).once.contains off) = true := by
      rw [hue, honce]
      decide
    rw [herror, if_neg hfirst, State.remap_modRemap, hpost]
    exact ⟨rfl, rfl⟩

/-- R364: a device that is back is not absent. -/
theorem State.deviceBack_absent (s : State) (d : Nat) : (s.deviceBack d).absentDevs.contains d = false := by
  unfold State.deviceBack
  split
  · rw [show (State.event _ 5 d 0).absentDevs = _ from (State.event_effect ..).1 .absentDevs rfl]
    show (s.absentDevs.filter (· != d)).contains d = false
    simp
  · next h => exact Bool.eq_false_iff.mpr h

/-- Settles O45: each command finds its shape and answers, and its answer moves nothing but the command and where the answer goes. -/
theorem maintenanceComplete : Obligations.MaintenanceComplete := by
  refine ⟨fun id s c r n o hc hans hrange hsize ⟨hnew, hroom⟩ => ⟨(mgmtRun_found hc hans).trans ?page, ?pages⟩,
    fun id s c hc hans ⟨hr, hb⟩ hidle hnew => ⟨(s.retireBank (c.arg 0) (c.arg 1)).mgmtAnswer c 0 0 0, (mgmtRun_found hc hans).trans ?bank, ?banks⟩,
    fun id s c x hc hans ⟨hnew, hfull⟩ hscrub =>
      ⟨((s.mgmtAnswer c 0x20 0 0).beginCmd c).setScrubs (s.live.scrubs ++ [x]), (mgmtRun_found hc hans).trans ?scrub, rfl, ?begun⟩,
    fun id s l x c hx hc ⟨hruns, hroom⟩ => ⟨s.scrubStep x c l, ?granule, (s.scrubGranule_cmd x l).2, s.scrubStep_spec x c l hroom⟩,
    fun id s c hc hans => mgmtRun_found hc hans, fun id s c hc hans => mgmtRun_found hc hans,
    fun id s c l t hc hans hlen hread ⟨hgood, hfits⟩ ht => (mgmtRun_found hc hans).trans ?settings,
    fun id s c hc hans ⟨hnew, hfull⟩ ⟨hl, hup⟩ =>
      ⟨((s.mgmtAnswer c 0x20 0 0).beginCmd c).modLink (c.arg 0) fun x => { x with recalAsked := true, recalSoft := true },
        (mgmtRun_found hc hans).trans ?recal, ?asked, ?recalBegun⟩,
    fun id s c hc hans hd => ⟨(s.deviceBack (c.arg 0)).mgmtAnswer c 0 0 0, (mgmtRun_found hc hans).trans ?back, ?present, rfl⟩,
    fun id s c hc hans hlen => (mgmtRun_found hc hans).trans ?sensors,
    fun id s c hc hans => ⟨_, mgmtRun_found hc hans, ?cap⟩, fun d s hbusy => (whenReady_of rfl ..).trans ?overrun,
    fun d s w ⟨hidle, hw⟩ => ?go, fun s n hdue ⟨hn, hfinal⟩ => ?final,
    fun m o b s hnew hspace => ⟨_, rfl, s.wordError_spec m o b hnew hspace⟩, fun s c st d0 d1 e hring he => ⟨?completion, ?cmds⟩⟩
  case page =>
    simp only [hrange, if_neg (Nat.not_le.mpr hsize), hnew, Bool.false_eq_true, if_false, if_neg (Nat.not_le.mpr hroom)]
  case pages => exact congrArg (·.pages) ((State.post_effect ..).1 .flashLogs rfl)
  case bank =>
    rw [if_neg (by omega), hidle, if_neg Bool.false_ne_true]
  case banks =>
    rw [(State.mgmtAnswer_effect ..).room_eq rfl, show (State.mgmtAnswer _ c 0 0 0).flashLogs = _ from (State.mgmtAnswer_effect ..).1 .flashLogs rfl]
    exact s.retireBank_spec hnew
  case scrub => simp only [hnew, Bool.false_eq_true, if_false, hscrub, hfull]
  case begun =>
    refine State.hasBegun_beginCmd (x := { c with accepted := true }) (s.mgmtAnswer c 0x20 0 0) ?_ rfl rfl
    rw [State.live_mgmtAnswer, if_pos rfl]
    exact List.mem_append_right _ (List.mem_singleton_self _)
  case granule =>
    show execScrubGranule id l s = _
    rw [execScrubGranule, hx, hc]
    exact whenReady_of hruns ..
  case settings =>
    subst ht
    simp only [if_neg (Nat.not_lt.mpr hlen), hread, hgood, decide_eq_false (Nat.not_lt.mpr hfits), Bool.not_true, Bool.or_false,
      Bool.false_eq_true, if_false]
  case recal =>
    have hlink : ¬(48 ≤ c.arg 0 ∨ (s.link (c.arg 0)).state ≠ 3) := by omega
    simp only [hnew, Bool.false_eq_true, if_false, if_neg hlink, hfull]
  case asked => rw [State.link_modLink]
  case recalBegun =>
    refine State.hasBegun_beginCmd (x := { c with accepted := true }) (s.mgmtAnswer c 0x20 0 0) ?_ rfl rfl
    rw [State.live_mgmtAnswer, if_pos rfl]
    exact List.mem_append_right _ (List.mem_singleton_self _)
  case back => rw [if_neg (by omega)]
  case present =>
    rw [show (State.mgmtAnswer _ c 0 0 0).absentDevs = _ from (State.mgmtAnswer_effect ..).1 .absentDevs rfl]
    exact s.deviceBack_absent _
  case sensors => rw [if_neg (by omega)]
  case cap =>
    rw [(State.mgmtAnswer_effect ..).power_eq rfl]
    rfl
  case overrun => simp only [State.mailboxStart, hbusy, if_true]
  case go =>
    obtain ⟨hgood, hbad⟩ := s.mailboxStart_idle hidle hw
    exact ⟨fun hop hfields hbuf => ⟨_, whenReady_of rfl .., hgood hop hfields hbuf⟩, fun h => ⟨_, whenReady_of rfl .., hbad h⟩⟩
  case final =>
    set t := { s with mailboxStudy := { s.mailboxStudy with due := none } } with ht
    refine ⟨t.mailboxAnswer 0x10 n (s.mailboxStudy.rsp.getD 0 0) 0 0, ?_, rfl, t.mailboxAnswer_final _ hn hfinal⟩
    show execMailboxFinal s = _
    rw [execMailboxFinal, hdue]
  case completion =>
    have hdone : (s.complete c.id st d0 d1).completions =
        s.completions ++ [⟨e.sq, fld (wordN e.words 0) 7 0, e.words.getD 1 0, st, d0, d1, false, none⟩] := by
      simp only [State.complete, he]
      exact (State.settleSq_effect ..).1 .completions rfl
    have hdrop : (s.mgmtAnswer c st d0 d1).completions = (s.complete c.id st d0 d1).completions := by
      simp only [State.mgmtAnswer, hring, if_true]
      split <;> rfl
    exact hdrop.trans hdone
  case cmds => rw [State.live_mgmtAnswer]

end Sys2Proof.Machine

/-! ## Accesses through the BARs (R372–R374, R456) and writes of registers by address (R525, R526) -/

namespace Sys2Proof.Machine

/-- R372: what a failed access leaves: its door has BAR_ERR, and a read its Unsupported Request. -/
theorem State.barFails_read (s : State) (d : Nat) :
    (s.barFails d true).sent = s.sent ++ [.pcie d 1 [] false] ∧ bitOf ((s.barFails d true).regN .doorErr d) 0 = true ∧
      (s.barFails d true).mem = s.mem :=
  ⟨rfl, s.bitOf_orReg .doorErr d (k := 0) (by decide), rfl⟩

/-- R372: a BAR0 access by what the register space answers and whether the block is the strongroom's. -/
theorem State.bar0_read (s : State) {a : BarAccess} (ha : a.data = none) :
    (s.bar0Ok a.off a.len = true → strongroomBlock a.off = false → s.bar0 a =
        s.send (.pcie a.door.val 0 (toBytes a.len (regPart (s.devReg (a.off / 8 * 8)) a.off a.len)) false)) ∧
      (s.bar0Ok a.off a.len = false → s.bar0 a = s.barFails a.door.val true) := by
  simp only [State.bar0, ha]
  refine ⟨fun hok hblock => ?_, fun hbad => ?_⟩
  · simp only [hok, hblock, Bool.not_true, Bool.false_eq_true, if_false]
  · simp only [hbad, Bool.not_false, if_true]

theorem State.bar0_write (s : State) {a : BarAccess} {l : List Byte} (ha : a.data = some l) :
    (s.bar0Ok a.off l.length = true → strongroomBlock a.off = false → s.bar0 a =
        s.mmioWrite ⟨true, none⟩ (.devMmio a.off) l.length (ofBytes l)) ∧
      (s.bar0Ok a.off l.length = false → s.bar0 a = s.barFails a.door.val false) := by
  simp only [State.bar0, ha]
  refine ⟨fun hok hblock => ?_, fun hbad => ?_⟩
  · simp only [hok, hblock, Bool.not_true, Bool.false_eq_true, if_false]
  · simp only [hbad, Bool.not_false, if_true]

/-- R260: the places that a door's access reaches are the hall's, as long as its door reaches the hall. -/
theorem State.dwPlace_pantry (s : State) (d : Nat) {pa n r o : Nat} (hp : s.place pa n = .pantry r o) :
    s.dwPlace (doorChan d 0) pa n = if s.doorReaches d then .pantry r o else .absent := by
  have hdoor : isDoorChan (doorChan d 0) = true := decide_eq_true (by simp only [doorChan]; omega)
  have hchan : chanDoor (doorChan d 0) = d := by simp only [chanDoor, doorChan, doorChan0]; omega
  simp only [State.dwPlace, hdoor, if_true, hp, hchan]

/-- R373, R456: a BAR2 access by whether its entry maps it. -/
theorem State.bar2_read (s : State) {a : BarAccess} {pa : Nat} (ha : a.data = none) (hphase : 8 ≤ s.boot.phase)
    (hmap : s.aperture a.door.val a.off false = some pa) (hruns : s.homeRuns 6 (s.dwPlace (doorChan a.door.val 0) pa a.len) a.len = true) :
    s.bar2 a = s.bar2Read a.door.val (s.dwPlace (doorChan a.door.val 0) pa a.len) a.len := by
  simp only [State.bar2, ha, Option.isSome_none, hphase, if_true, hmap, hruns, Bool.not_true, Bool.false_eq_true, if_false]

theorem State.bar2_write (s : State) {a : BarAccess} {pa : Nat} {l : List Byte} (ha : a.data = some l) (hphase : 8 ≤ s.boot.phase)
    (hmap : s.aperture a.door.val a.off true = some pa)
    (hruns : s.homeRuns 6 (s.dwPlace (doorChan a.door.val 0) pa l.length) l.length = true) :
    s.bar2 a = s.bar2Write a.door.val (s.dwPlace (doorChan a.door.val 0) pa l.length) l a.ep := by
  simp only [State.bar2, ha, Option.isSome_some, hphase, if_true, hmap, hruns, Bool.not_true, Bool.false_eq_true, if_false]

theorem State.bar2_unmapped (s : State) {a : BarAccess} (ha : a.data = none)
    (hunmapped : s.aperture a.door.val a.off false = none ∨ s.boot.phase < 8) : s.bar2 a = s.barFails a.door.val true := by
  have hmap : (if 8 ≤ s.boot.phase then s.aperture a.door.val a.off false else none) = none := by
    split
    · next hphase => exact hunmapped.resolve_right (Nat.not_lt.mpr hphase)
    · rfl
  simp only [State.bar2, ha, Option.isSome_none, hmap, Bool.not_false]

/-- R374, R466: what a read of a pantry is answered with: its bytes, with EP where one of its words is poisoned. -/
theorem State.bar2Read_pantry (s : State) (d r o n : Nat) :
    (s.bar2Read d (.pantry r o) n).sent = s.sent ++
        [.pcie d 0 ((List.range n).map fun j => s.byteAt (pantryKey r (o + j)))
          ((List.range n).any fun j => s.wordPoisoned (pantryKey r (o + j) / 8 * 8))] ∧
      (s.bar2Read d (.pantry r o) n).mem = s.mem := by
  have hbytes : (s.pbytesAt (fun j => pantryKey r (o + j)) n).map (·.1) = (List.range n).map fun j => s.byteAt (pantryKey r (o + j)) :=
    List.map_map
  have hpoison : (s.pbytesAt (fun j => pantryKey r (o + j)) n).any (·.2) =
      (List.range n).any fun j => s.wordPoisoned (pantryKey r (o + j) / 8 * 8) := List.any_map
  rw [← hbytes, ← hpoison]
  exact ⟨rfl, rfl⟩

/-- R374: what a write of a pantry that takes requests leaves in memory. -/
theorem State.mem_bar2Write_pantry (s : State) (d r o : Nat) (l : List Byte) (ep : Bool) (hruns : (s.room r).stalled = false) :
    (s.bar2Write d (.pantry r o) l ep).mem = (s.pwrite (.pantry r o) (l.map fun b => (b, ep))).mem := by
  have hcode : s.writeCode (.pantry r o) l ≠ 2 := by
    simp only [State.writeCode, hruns, Bool.false_eq_true, if_false]
    split <;> decide
  have hnote := (State.storeAt_effect (s.pwrite (.pantry r o) (l.map fun b => (b, ep))) (.pantry r o) l.length).mem_eq rfl
  simp only [State.bar2Write, if_neg hcode]
  split
  · exact hnote
  · exact hnote

theorem exec_bar2Access_read {a : BarAccess} {s : State} (hreach : s.hostReaches a.door.val = true) (ha : a.data = none)
    (hlen : 0 < a.len ∧ a.len ≤ 4096) : exec (.bar2Access a) s = .next (s.bar2 a) := by
  refine whenReady_of ?_ ..
  simp only [ha, hreach, hlen, and_self, decide_true, Bool.and_self]

theorem exec_bar2Access_write {a : BarAccess} {s : State} {l : List Byte} (hreach : s.hostReaches a.door.val = true) (ha : a.data = some l)
    (hlen : 0 < l.length ∧ l.length ≤ 4096) : exec (.bar2Access a) s = .next (s.bar2 a) := by
  refine whenReady_of ?_ ..
  simp only [ha, hreach, hlen, and_self, decide_true, Bool.and_self]

/-- Settles O41: each access by whether its register space, its entry and its door let it through. -/
theorem barAccessesComplete : Obligations.BarAccessesComplete := by
  refine ⟨fun a s hreach ha => ⟨fun hok hblock => ?regRead, fun hbad => ⟨_, whenReady_of hreach .., ?regFails⟩⟩,
    fun a s l hreach ha => ⟨fun hok hblock => ?regWrite, fun hbad => ?regLost⟩,
    fun a s pa r o ⟨hreach, hphase⟩ ⟨ha, hlen⟩ hmap hp =>
      ⟨fun hhall hruns => ⟨_, exec_bar2Access_read hreach ha hlen, ?bytes⟩, fun hhall => ⟨_, exec_bar2Access_read hreach ha hlen, ?noHall⟩⟩,
    fun a s pa r o l ⟨hreach, hphase⟩ ⟨ha, hlen⟩ hmap hp ⟨hhall, hruns⟩ => ⟨_, exec_bar2Access_write hreach ha hlen, ?written⟩,
    fun a s hreach ⟨ha, hlen⟩ hunmapped => ?unmapped, fun who pa size value s u hu => ?register, fun who pa size value s hu => ?noRegister⟩
  case regRead => exact (whenReady_of hreach ..).trans (congrArg Host.Outcome.next ((s.bar0_read ha).1 hok hblock))
  case regFails =>
    rw [(s.bar0_read ha).2 hbad]
    obtain ⟨hsent, hbit, hmem⟩ := s.barFails_read a.door.val
    exact ⟨hbit, hsent, hmem⟩
  case regWrite => exact (whenReady_of hreach ..).trans (congrArg Host.Outcome.next ((s.bar0_write ha).1 hok hblock))
  case regLost => exact (whenReady_of hreach ..).trans (congrArg Host.Outcome.next ((s.bar0_write ha).2 hbad))
  case bytes =>
    have hplace : s.dwPlace (doorChan a.door.val 0) pa a.len = .pantry r o := (s.dwPlace_pantry _ hp).trans (if_pos hhall)
    rw [s.bar2_read ha hphase hmap (by rw [hplace]; exact congrArg (!·) hruns), hplace]
    exact s.bar2Read_pantry ..
  case noHall =>
    have hplace : s.dwPlace (doorChan a.door.val 0) pa a.len = .absent :=
      (s.dwPlace_pantry _ hp).trans (if_neg (by rw [hhall]; exact Bool.false_ne_true))
    rw [s.bar2_read ha hphase hmap (by rw [hplace]; rfl), hplace]
    exact State.barFails_read s.bump a.door.val
  case written =>
    have hplace : s.dwPlace (doorChan a.door.val 0) pa l.length = .pantry r o := (s.dwPlace_pantry _ hp).trans (if_pos hhall)
    rw [s.bar2_write ha hphase hmap (by rw [hplace]; exact congrArg (!·) hruns), hplace]
    exact s.mem_bar2Write_pantry _ _ _ _ _ hruns
  case unmapped => exact (exec_bar2Access_read hreach ha hlen).trans (congrArg Host.Outcome.next (s.bar2_unmapped ha hunmapped))
  case register =>
    show execRegisterWrite who pa size value s = _
    simp only [execRegisterWrite, hu]
  case noRegister =>
    show execRegisterWrite who pa size value s = _
    simp only [execRegisterWrite, hu]

end Sys2Proof.Machine

/-! ## A hart that waited for a child is halted (O48) -/

namespace Sys2Proof.Machine

/-- A state in which hart 0 of room 0 is halted by the debug module while it waits for its child, and the child has ended with 7. -/
def haltedJoin : State :=
  { boot := { option := [0] }
    test := { dmactive := true, halted := [0] }
    harts := [(0, { halted := true, wait := .join 5 1 })]
    rooms := [(0, { phase := .inService, children := [⟨0, 1, .exited 7⟩] })] }

/-- Refutes O48 in the clause of the resume, whose condition names a result and a trap that wait but no join: `endJoin` ends the join of a
hart whose child ended while it was halted (R156, R513), so that the hart no longer waits. The clause wants that the hart waits for no
child that has ended. -/
theorem not_testAccessComplete : ¬ Obligations.TestAccessComplete := by
  rintro ⟨-, -, -, -, -, hresume, -⟩
  have hmay : haltedJoin.mayDebug (0 : Fin 24612).val = true ∧ haltedJoin.debugHalted (0 : Fin 24612).val = true := by decide
  obtain ⟨t, hexec, -, -, hhart⟩ := hresume 0 haltedJoin hmay
  have hjoins : exec (.hartResume 0) haltedJoin = .next (haltedJoin.resumeHart 0) := whenReady_of (by decide) ..
  obtain rfl := Host.Outcome.next.inj (hexec.symm.trans hjoins)
  have hwaits : ((haltedJoin.resumeHart 0).hartAt (debugHart 0)).wait = .join 5 1 := congrArg Hart.wait (hhart (by decide) rfl rfl)
  exact absurd hwaits (by decide)

end Sys2Proof.Machine

/-! Every command ends within its parts (O52), and the two views of an attic (O60). -/
namespace Sys2Proof.Machine

/-- Settles O52: the effect of each command is within its footprint, which never holds the queue, the fuses or the identity blocks. -/
theorem everyCommandEndsWithinItsParts : Obligations.EveryCommandEndsWithinItsParts := by
  refine ⟨fun s c => ?_, footprint_spares_queue_and_identity⟩
  obtain ⟨t, hexec, hsame, -⟩ := exec_effect c s
  exact ⟨t, hexec, hsame⟩

/-- R161: the banked view cuts an offset at the size of a bank. -/
theorem atticBank_banked (o : Nat) : atticBank true o = o / 0x400000 ∧ atticWithin true o = o % 0x400000 := ⟨rfl, rfl⟩

/-- R160: the interleaved view deals 256 bytes to each of the 48 banks in turn. -/
theorem atticBank_interleaved (o : Nat) :
    atticBank false o = o / 256 % 48 ∧ atticWithin false o = o / 256 / 48 * 256 + o % 256 := ⟨rfl, rfl⟩

/-- R160, R161: the place that a view gives an offset is the banked view's own offset of the same byte. -/
theorem atticKey_banked (r o : Nat) (banked : Bool) :
    atticKey r banked o = atticKey r true (atticBank banked o * 0x400000 + atticWithin banked o) := by
  obtain ⟨hbank, hwithin⟩ := atticBank_banked (atticBank banked o * 0x400000 + atticWithin banked o)
  simp only [atticKey, hbank, hwithin, bankSize]
  omega

/-- Settles O60: the arithmetic of 256-byte granules dealt to 48 banks of 4 MiB. -/
theorem atticViewsMapEveryOffset : Obligations.AtticViewsMapEveryOffset := by
  refine ⟨fun o ho => ?_, fun b w hb hw => ?_, atticKey_banked⟩
  · obtain ⟨hbank, hwithin⟩ := atticBank_interleaved o
    rw [hbank, hwithin]
    exact ⟨rfl, rfl, by omega, by omega, by omega, atticBank_banked o⟩
  · obtain ⟨hbank, hwithin⟩ := atticBank_interleaved ((w / 256 * 48 + b) * 256 + w % 256)
    rw [hbank, hwithin]
    omega

end Sys2Proof.Machine

/-! The order of FP32 maximum and minimum (O57). -/
namespace Sys2Proof.Machine

theorem fp32IsNan_iff (x : Nat) : fp32IsNan x = true ↔ fp32.value x = .nan := by simp [fp32IsNan]

theorem fp32IsNan_cnan : fp32IsNan fp32.cnan = true := by decide

section
variable {x y : Nat}

theorem fp32Max_nan_left (hx : fp32IsNan x = true) : fp32Max x y = if fp32IsNan y then fp32.cnan else y := by simp [fp32Max, hx]
theorem fp32Min_nan_left (hx : fp32IsNan x = true) : fp32Min x y = if fp32IsNan y then fp32.cnan else y := by simp [fp32Min, hx]
theorem fp32Max_nan_right (hx : fp32IsNan x = false) (hy : fp32IsNan y = true) : fp32Max x y = x := by simp [fp32Max, hx, hy]
theorem fp32Min_nan_right (hx : fp32IsNan x = false) (hy : fp32IsNan y = true) : fp32Min x y = x := by simp [fp32Min, hx, hy]

/-- R182: of two numbers the maximum is the one of the greater key, the minimum the one of the smaller. -/
theorem fp32Max_of_numbers (hx : fp32IsNan x = false) (hy : fp32IsNan y = false) :
    fp32Max x y = if fp32Key x < fp32Key y then y else x := by simp [fp32Max, hx, hy]
theorem fp32Min_of_numbers (hx : fp32IsNan x = false) (hy : fp32IsNan y = false) :
    fp32Min x y = if fp32Key y < fp32Key x then y else x := by simp [fp32Min, hx, hy]

/-- R182: the key tells two codes apart. -/
theorem fp32Key_injective (hx : x < 2 ^ 32) (hy : y < 2 ^ 32) (h : fp32Key x = fp32Key y) : x = y := by
  simp only [fp32Key, bitOf, beq_iff_eq] at h
  split at h <;> split at h <;> omega
end

/-! ## Maximum and minimum are commutative and associative -/

section
variable {x y z : Nat} (hx : x < 2 ^ 32) (hy : y < 2 ^ 32)
include hx hy

theorem fp32Max_comm : fp32Max x y = fp32Max y x := by
  have hkey := fp32Key_injective hx hy
  cases hxn : fp32IsNan x <;> cases hyn : fp32IsNan y <;> simp only [fp32Max, hxn, hyn] <;> grind

theorem fp32Min_comm : fp32Min x y = fp32Min y x := by
  have hkey := fp32Key_injective hx hy
  cases hxn : fp32IsNan x <;> cases hyn : fp32IsNan y <;> simp only [fp32Min, hxn, hyn] <;> grind

end

/-- Maximum and minimum of three codes come to the number of the greatest, or the smallest, key; a NaN gives way to any number. -/
theorem fp32Max_assoc (x y z : Nat) : fp32Max (fp32Max x y) z = fp32Max x (fp32Max y z) := by
  have hnan := fp32IsNan_cnan
  cases hxn : fp32IsNan x <;> cases hyn : fp32IsNan y <;> cases hzn : fp32IsNan z <;> simp only [fp32Max, hxn, hyn, hzn] <;> grind

theorem fp32Min_assoc (x y z : Nat) : fp32Min (fp32Min x y) z = fp32Min x (fp32Min y z) := by
  have hnan := fp32IsNan_cnan
  cases hxn : fp32IsNan x <;> cases hyn : fp32IsNan y <;> cases hzn : fp32IsNan z <;> simp only [fp32Min, hxn, hyn, hzn] <;> grind

/-! ## The value of a code and its key (R26, R182) -/

/-- The magnitude of a finite FP32 code without its sign, in units of the smallest subnormal. -/
def fp32Mag (c : Nat) : Nat := if c / 2 ^ 23 = 0 then c % 2 ^ 23 else (2 ^ 23 + c % 2 ^ 23) * 2 ^ (c / 2 ^ 23 - 1)

theorem fp32Mag_lt_two_pow (c : Nat) : fp32Mag c < 2 ^ 23 * 2 ^ (c / 2 ^ 23) := by
  unfold fp32Mag
  split
  next hz => rw [hz]; omega
  next hz =>
    obtain ⟨e, he⟩ := Nat.exists_eq_succ_of_ne_zero hz
    have hnext : 2 ^ (e + 1) = 2 * 2 ^ e := Nat.pow_succ'
    rw [he, Nat.succ_eq_add_one, Nat.add_sub_cancel, hnext, ← Nat.mul_assoc]
    exact Nat.mul_lt_mul_of_pos_right (by omega) (Nat.two_pow_pos e)

/-- Within one binade the magnitude rises with the mantissa, and a binade ends before the next begins. -/
theorem fp32Mag_mono {a b : Nat} (h : a ≤ b) : fp32Mag a ≤ fp32Mag b := by
  rcases Nat.eq_or_lt_of_le (Nat.div_le_div_right (c := 2 ^ 23) h) with he | hlt
  · unfold fp32Mag
    rw [he]
    split
    · omega
    · exact Nat.mul_le_mul_right _ (by omega)
  · have hb : b / 2 ^ 23 ≠ 0 := by omega
    calc fp32Mag a
      _ ≤ 2 ^ 23 * 2 ^ (a / 2 ^ 23) := (fp32Mag_lt_two_pow a).le
      _ ≤ (2 ^ 23 + b % 2 ^ 23) * 2 ^ (b / 2 ^ 23 - 1) := Nat.mul_le_mul (by omega) (Nat.pow_le_pow_right (by decide) (by omega))
      _ = fp32Mag b := by rw [fp32Mag, if_neg hb]

/-- R26: what an FP32 code stands for, by its low 31 bits. -/
theorem fp32_value_eq (x : Nat) : fp32.value x =
    if fp32.infCode ≤ x % 2 ^ 31 then (if x % 2 ^ 31 = fp32.infCode then .inf (bitOf x 31) else .nan)
    else if x % 2 ^ 31 / 2 ^ 23 = 0 then .fin (bitOf x 31) (x % 2 ^ 31 % 2 ^ 23) (-149)
    else .fin (bitOf x 31) (2 ^ 23 + x % 2 ^ 31 % 2 ^ 23) (-149 + (x % 2 ^ 31 / 2 ^ 23 - 1 : Nat)) := by
  have hinf : fp32.infCode = 0x7F800000 := rfl
  have hmax : fp32.maxCode = 0x7F7FFFFF := rfl
  have hlsb : fp32.minLsb = -149 := rfl
  have hbits : fp32.ebits = 8 ∧ fp32.mbits = 23 ∧ fp32.top = 0 := ⟨rfl, rfl, rfl⟩
  obtain ⟨hexp, hm, htop⟩ := hbits
  simp only [Fmt.value, hexp, hm, htop, hmax, hinf, hlsb, true_and, Nat.reduceAdd]
  have hlt : x % 2 ^ 31 < 2 ^ 31 := Nat.mod_lt _ (by decide)
  by_cases hbig : 0x7F800000 ≤ x % 2 ^ 31
  · have hzero : x % 2 ^ 31 % 2 ^ 23 = 0 ↔ x % 2 ^ 31 = 0x7F800000 := by omega
    rw [if_pos (show x % 2 ^ 31 > 0x7F7FFFFF by omega), if_pos hbig]
    simp only [hzero]
  · rw [if_neg (show ¬ x % 2 ^ 31 > 0x7F7FFFFF by omega), if_neg hbig]

/-- A finite code is the sign and the magnitude of its low 31 bits. -/
theorem fp32_value_fin {x m : Nat} {neg : Bool} {e : Int} (h : fp32.value x = .fin neg m e) :
    neg = bitOf x 31 ∧ m * 2 ^ (e + 149).toNat = fp32Mag (x % 2 ^ 31) := by
  rw [fp32_value_eq] at h
  split at h
  · split at h <;> exact Num.noConfusion h
  · split at h
    next hz =>
      obtain ⟨rfl, rfl, rfl⟩ := Num.fin.inj h
      exact ⟨rfl, by rw [fp32Mag, if_pos hz]; simp⟩
    next hz =>
      obtain ⟨rfl, rfl, rfl⟩ := Num.fin.inj h
      exact ⟨rfl, by rw [fp32Mag, if_neg hz]; congr 2; omega⟩

/-- An infinite code is the sign over the code of infinity. -/
theorem fp32_value_inf {x : Nat} {neg : Bool} (h : fp32.value x = .inf neg) : neg = bitOf x 31 ∧ x % 2 ^ 31 = fp32.infCode := by
  rw [fp32_value_eq] at h
  split at h
  · split at h
    next hi => exact ⟨(Num.inf.inj h).symm, hi⟩
    next hi => exact Num.noConfusion h
  · split at h <;> exact Num.noConfusion h

/-- No number has a greater magnitude than infinity. -/
theorem le_infCode_of_number {x : Nat} (h : fp32.value x ≠ .nan) : x % 2 ^ 31 ≤ fp32.infCode := by
  by_contra hlt
  refine h ?_
  rw [fp32_value_eq, if_pos (by omega), if_neg (by omega)]

theorem fp32IsNan_false {x : Nat} (h : fp32.value x ≠ .nan) : fp32IsNan x = false :=
  Bool.eq_false_iff.mpr fun hn => h ((fp32IsNan_iff x).mp hn)

theorem fp32Max_of_key_lt {x y : Nat} (hx : fp32IsNan x = false) (hy : fp32IsNan y = false) (h : fp32Key x < fp32Key y) :
    fp32Max x y = y ∧ fp32Max y x = y ∧ fp32Min x y = x ∧ fp32Min y x = x := by
  have hback : ¬ fp32Key y < fp32Key x := by omega
  rw [fp32Max_of_numbers hx hy, fp32Max_of_numbers hy hx, fp32Min_of_numbers hx hy, fp32Min_of_numbers hy hx]
  simp only [h, hback, if_true, if_false, and_self]

/-- R182: among finite codes the smaller value has the smaller key. -/
theorem fp32Key_lt_of_value_lt {x y mx my : Nat} {nx ny : Bool} {ex ey : Int} (hx : fp32.value x = .fin nx mx ex)
    (hy : fp32.value y = .fin ny my ey)
    (h : (if nx then -1 else 1) * ((mx * 2 ^ (ex + 149).toNat : Nat) : Int) <
      (if ny then -1 else 1) * ((my * 2 ^ (ey + 149).toNat : Nat) : Int)) : fp32Key x < fp32Key y := by
  obtain ⟨rfl, hmx⟩ := fp32_value_fin hx
  obtain ⟨rfl, hmy⟩ := fp32_value_fin hy
  rw [hmx, hmy] at h
  have hup := fp32Mag_mono (a := y % 2 ^ 31) (b := x % 2 ^ 31)
  have hdown := fp32Mag_mono (a := x % 2 ^ 31) (b := y % 2 ^ 31)
  simp only [fp32Key]
  cases hsx : bitOf x 31 <;> cases hsy : bitOf y 31 <;> simp only [hsx, hsy, if_true, if_false, Bool.false_eq_true] at h ⊢ <;> omega

/-- R182: −∞ is below, and +∞ above, every other number. -/
theorem fp32Max_inf {x y : Nat} {neg : Bool} (hx : x < 2 ^ 32) (hy : y < 2 ^ 32) (hinf : fp32.value x = .inf neg)
    (hnum : fp32.value y ≠ .nan) : fp32Max x y = (if neg then y else x) ∧ fp32Min x y = (if neg then x else y) := by
  obtain ⟨rfl, hcode⟩ := fp32_value_inf hinf
  have hle := le_infCode_of_number hnum
  have hcodeLt : fp32.infCode < 2 ^ 31 := by decide
  have hxn : fp32IsNan x = false := fp32IsNan_false (by rw [hinf]; exact Num.noConfusion)
  have hkey := fp32Key_injective hx hy
  have hends : (bitOf x 31 = true → fp32Key x ≤ fp32Key y) ∧ (bitOf x 31 = false → fp32Key y ≤ fp32Key x) := by
    simp only [fp32Key]
    constructor <;> intro hs <;> simp only [hs, if_true, if_false, Bool.false_eq_true] <;> split <;> omega
  obtain ⟨hlow, hhigh⟩ := hends
  rw [fp32Max_of_numbers hxn (fp32IsNan_false hnum), fp32Min_of_numbers hxn (fp32IsNan_false hnum)]
  cases hs : bitOf x 31
  · have := hhigh hs
    grind
  · have := hlow hs
    grind

/-- Settles O57: the order is that of the keys, which the values follow; sums depend on the order, as with a number that a
cancelled one swallows. -/
theorem fp32MaxAndMinAreOrders : Obligations.Fp32MaxAndMinAreOrders := by
  refine ⟨fun o v => ⟨rfl, rfl⟩, fun x y hx hy => ⟨fp32Max_comm hx hy, fp32Min_comm hx hy⟩,
    fun x y z _ _ _ => ⟨fp32Max_assoc x y z, fp32Min_assoc x y z⟩, fun x y hx => ⟨fun hy => ?nans, fun hy => ?number⟩,
    fun x y mx my nx ny ex ey _ _ hx hy h => ?finite, fun x y neg hx hy hinf hnum => fp32Max_inf hx hy hinf hnum, ?zeros⟩
  case nans =>
    have hxn := (fp32IsNan_iff x).mpr hx
    have hyn := (fp32IsNan_iff y).mpr hy
    rw [fp32Max_nan_left hxn, fp32Min_nan_left hxn, if_pos hyn]
    exact ⟨rfl, rfl⟩
  case number =>
    have hxn := (fp32IsNan_iff x).mpr hx
    have hyn := fp32IsNan_false hy
    rw [fp32Max_nan_left hxn, fp32Min_nan_left hxn, fp32Max_nan_right hyn hxn, fp32Min_nan_right hyn hxn, if_neg (by simp [hyn])]
    exact ⟨rfl, rfl, rfl, rfl⟩
  case finite =>
    exact fp32Max_of_key_lt (fp32IsNan_false (by rw [hx]; exact Num.noConfusion)) (fp32IsNan_false (by rw [hy]; exact Num.noConfusion))
      (fp32Key_lt_of_value_lt hx hy h)
  case zeros =>
    exact ⟨by decide, by decide, by decide, by decide, 0x7149F2CA, 0xF149F2CA, 0x3F800000, by decide, by decide, by decide, by decide +kernel⟩

end Sys2Proof.Machine

/-! A lease is released (O59). -/
namespace Sys2Proof.Machine

/-- R114: the fields of a lease stand in its first word. -/
theorem fld_lease_word (old : Nat) :
    fld (old % 2 ^ 64) 55 48 = fld old 55 48 ∧ fld (old % 2 ^ 64) 31 0 = fld old 31 0 ∧ fld (old % 2 ^ 64) 47 32 = fld old 47 32 := by
  simp only [fld]
  omega

/-- R116: a release of the caller's own lease frees it; of any other it changes nothing. -/
theorem homeNew_leaseRel (old : Nat) (c : W32) (e : W16) : homeNew (.leaseRel c e) old =
    if fld old 55 48 = 1 ∧ fld old 31 0 = c.toNat ∧ fld old 47 32 = e.toNat
    then (old / 2 ^ 64 * 2 ^ 64 + setFld (old % 2 ^ 64) 55 48 0, 0) else (old, old % 2 ^ 64) := by
  obtain ⟨hstate, howner, hepoch⟩ := fld_lease_word old
  simp only [homeNew, leaseRelease, leaseHeld, hstate, howner, hepoch, beq_iff_eq]

/-- R114: a lease whose STATE is cleared keeps its other fields. -/
theorem fld_freed_lease (old : Nat) :
    let new := old / 2 ^ 64 * 2 ^ 64 + setFld (old % 2 ^ 64) 55 48 0
    fld new 55 48 = 0 ∧ fld new 31 0 = fld old 31 0 ∧ fld new 47 32 = fld old 47 32 ∧ fld new 63 56 = fld old 63 56 ∧
      new / 2 ^ 64 = old / 2 ^ 64 := by
  simp only [fld, setFld]
  omega

/-- R107, R116: a release waits for the hart's earlier stores. -/
theorem execSzLrel_waits {h : HartId} {w : W32} {s : State} (hc : s.canRunWord h w custom1 0x19 = true) (hst : s.hasStores h = true) :
    execSzLrel h w s = .next ((s.modHart h fun x => { x with wait := .stall w }).issued h) := by
  have hheld : s.released h true = false := by simp [State.released, hst]
  rw [execSzLrel, szRun_canRunWord hc _ id]
  simp only [whenReleased, hheld, Bool.false_eq_true, if_false]

/-- Settles O59: what a release makes of the lease word, and the wait of the instruction. -/
theorem leaseReleaseFreesOnlyTheCallersLease : Obligations.LeaseReleaseFreesOnlyTheCallersLease := by
  refine ⟨fun old c e hstate howner hepoch => ?_, fun old c e hother => ?_, fun h w s hc hst => ⟨_, execSzLrel_waits hc hst, ?_⟩⟩
  · rw [homeNew_leaseRel, if_pos ⟨hstate, howner, hepoch⟩]
    exact ⟨rfl, fld_freed_lease old⟩
  · rw [homeNew_leaseRel, if_neg hother]
  · rw [State.hart_issued, State.hart_modHart]
    exact ⟨rfl, rfl, rfl⟩

end Sys2Proof.Machine

/-! What a write of bytes leaves in memory and of its words' poison (R179, R466), and a pantry's bytes read back (O55). -/
namespace Sys2Proof.Machine

/-! ## Bytes placed -/

theorem tget_placeBytes (k : Nat) (l : List Byte) (m : List Host.Cell) (j : Nat) :
    tget j (placeBytes k l m) = if k ≤ j ∧ j < k + l.length then l[j - k]? else tget j m := by
  induction l generalizing k m with
  | nil => rw [if_neg (by simp)]; rfl
  | cons b l ih =>
    rw [placeBytes, ih, List.length_cons]
    by_cases hj : j = k
    · subst hj
      rw [if_neg (by omega), if_pos (by omega), tget_tset_same]
      simp
    · by_cases hin : k + 1 ≤ j ∧ j < k + 1 + l.length
      · rw [if_pos hin, if_pos (by omega), show j - k = j - (k + 1) + 1 by omega, List.getElem?_cons_succ]
      · rw [if_neg hin, if_neg (by omega), tget_tset_ne _ _ _ _ hj]

theorem getElem?_bytesAt (s : State) (k n j : Nat) : (s.bytesAt k n)[j]? = if j < n then some (s.byteAt (k + j)) else none := by
  induction n generalizing k j with
  | zero => simp [State.bytesAt]
  | succ n ih =>
    cases j with
    | zero => simp [State.bytesAt]
    | succ j => simp [State.bytesAt, ih, Nat.add_assoc, Nat.add_comm 1 j]

@[simp] theorem State.length_bytesAt (s : State) (k n : Nat) : (s.bytesAt k n).length = n := by
  induction n generalizing k with
  | zero => rfl
  | succ n ih => rw [State.bytesAt, List.length_cons, ih]

/-- A byte is what memory lists at its key, or the free value there. -/
theorem State.byteAt_congr {s t : State} (hfree : t.free = s.free) {j : Nat} (hmem : tget j t.mem = tget j s.mem) :
    t.byteAt j = s.byteAt j := by
  rw [State.byteAt, State.byteAt, hmem, hfree]

theorem State.writtenAt_iff (s : State) (k n : Nat) : s.writtenAt k n = true ↔ ∀ j, k ≤ j → j < k + n → (tget j s.mem).isSome = true := by
  induction n generalizing k with
  | zero => simp [State.writtenAt]; omega
  | succ n ih =>
    rw [State.writtenAt, Bool.and_eq_true, ih]
    constructor
    · rintro ⟨hk, hrest⟩ j hj hlt
      rcases Nat.eq_or_lt_of_le hj with rfl | h
      · exact hk
      · exact hrest j h (by omega)
    · exact fun h => ⟨h k (by omega) (by omega), fun j hj hlt => h j (by omega) (by omega)⟩

theorem mem_ninsert {k j : Nat} {l : List Nat} : j ∈ ninsert k l ↔ j = k ∨ j ∈ l := by
  induction l with
  | nil => simp [ninsert]
  | cons i l ih =>
    simp only [ninsert]
    split
    · simp
    · split
      next h => simp [h]
      next h => rw [List.mem_cons, ih, List.mem_cons, or_left_comm]

/-! ## One word written (R179) -/

/-- R179, R466: a piece of a word: its own bytes, and the rest of the word as data. -/
theorem State.tget_putInWord (s : State) (w : Nat) {off : Nat} {l : List Byte} (hfit : off + l.length ≤ 8) (j : Nat) :
    tget j (s.putInWord w off l).mem =
      if w + off ≤ j ∧ j < w + off + l.length then l[j - (w + off)]?
      else if w ≤ j ∧ j < w + 8 then some (s.byteAt j) else tget j s.mem := by
  unfold State.putInWord
  split
  next hfull =>
    have hoff : off = 0 := by omega
    subst hoff
    change tget j (placeBytes w l s.mem) = _
    rw [tget_placeBytes]
    grind
  next hpart =>
    change tget j (placeBytes (w + off) l (placeBytes w (s.bytesAt w 8) s.mem)) = _
    rw [tget_placeBytes, tget_placeBytes, State.length_bytesAt, getElem?_bytesAt]
    by_cases hin : w + off ≤ j ∧ j < w + off + l.length
    · rw [if_pos hin, if_pos hin]
    · rw [if_neg hin, if_neg hin]
      by_cases hw : w ≤ j ∧ j < w + 8
      · rw [if_pos hw, if_pos hw, if_pos (by omega), show w + (j - w) = j by omega]
      · rw [if_neg hw, if_neg hw]

theorem State.free_putInWord (s : State) (w off : Nat) (l : List Byte) : (s.putInWord w off l).free = s.free := by
  unfold State.putInWord
  split <;> rfl

/-- R179: a whole word is clean afterwards, and part of a word leaves it poisoned where it was. -/
theorem State.contains_putInWord (s : State) (w off : Nat) (l : List Byte) (j : Nat) :
    (s.putInWord w off l).poison.contains j = if j = w then l.length != 8 && s.wordPoisoned w else s.poison.contains j := by
  unfold State.putInWord
  split
  next hfull =>
    change (s.poison.filter (· != w)).contains j = _
    by_cases hj : j = w <;> simp [hj, hfull]
  next hpart =>
    change (if s.wordPoisoned w then ninsert w s.poison else s.poison.filter (· != w)).contains j = _
    by_cases hj : j = w <;> cases hp : s.wordPoisoned w <;> simp [hj, hpart, mem_ninsert]

/-- A word of which no byte and no mark changes is poisoned as it was. -/
theorem State.wordPoisoned_congr {s t : State} (hfree : t.free = s.free) {w : Nat} (hpoison : t.poison.contains w = s.poison.contains w)
    (hmem : ∀ j, w ≤ j → j < w + 8 → tget j t.mem = tget j s.mem) : t.wordPoisoned w = s.wordPoisoned w := by
  have hwritten : t.writtenAt w 8 = s.writtenAt w 8 := by
    rw [Bool.eq_iff_iff, State.writtenAt_iff, State.writtenAt_iff]
    exact forall_congr' fun j => forall_congr' fun hj => forall_congr' fun hlt => by rw [hmem j hj hlt]
  rw [State.wordPoisoned, State.wordPoisoned, hpoison, hwritten, hfree]

theorem State.wordPoisoned_putInWord_ne (s : State) {v w : Nat} (hne : v + 8 ≤ w ∨ w + 8 ≤ v) {off : Nat} {l : List Byte}
    (hfit : off + l.length ≤ 8) : (s.putInWord w off l).wordPoisoned v = s.wordPoisoned v := by
  refine State.wordPoisoned_congr (s.free_putInWord ..) ?_ fun j hj hlt => ?_
  · rw [State.contains_putInWord, if_neg (by omega)]
  · rw [s.tget_putInWord w hfit, if_neg (by omega), if_neg (by omega)]

/-! ## A write cut into words (R179, R466) -/

/-- R179: the word of this number is one that a write of n bytes at k reaches. -/
theorem mem_wordsOf (k n x : Nat) : x ∈ wordsOf k n ↔ n ≠ 0 ∧ x % 8 = 0 ∧ k / 8 ≤ x / 8 ∧ x / 8 ≤ (k + n - 1) / 8 := by
  unfold wordsOf
  split
  next hz => simp [hz]
  next hn =>
    simp only [List.mem_map, List.mem_range]
    constructor
    · rintro ⟨j, hj, rfl⟩
      omega
    · rintro ⟨-, hal, hlo, hhi⟩
      exact ⟨x / 8 - k / 8, by omega, by omega⟩

/-- The state after these pieces of words, one after the other. -/
def State.putPieces (s : State) (l : List (Nat × Nat × List Byte)) : State := l.foldl (fun s p => s.putInWord p.1 p.2.1 p.2.2) s

theorem State.putPieces_cons (s : State) (p : Nat × Nat × List Byte) (l : List (Nat × Nat × List Byte)) :
    s.putPieces (p :: l) = (s.putInWord p.1 p.2.1 p.2.2).putPieces l := rfl

theorem wordPieces_nil (n k : Nat) : wordPieces n k [] = [] := by cases n <;> rfl

theorem wordPieces_cons (n k : Nat) {l : List Byte} (hl : l ≠ []) :
    wordPieces (n + 1) k l = (k / 8 * 8, k % 8, l.take (8 - k % 8)) :: wordPieces n (k / 8 * 8 + 8) (l.drop (8 - k % 8)) := by
  cases l with
  | nil => exact absurd rfl hl
  | cons b l => rfl

/-- R179, R466: what a write of bytes leaves in memory: the bytes, the rest of the words that it reaches as data, and all else as it was. -/
theorem State.tget_putPieces (n k : Nat) (l : List Byte) (hn : l.length ≤ n) (s : State) (j : Nat) :
    tget j (s.putPieces (wordPieces n k l)).mem =
      if k ≤ j ∧ j < k + l.length then l[j - k]?
      else if l.length ≠ 0 ∧ k / 8 ≤ j / 8 ∧ j / 8 ≤ (k + l.length - 1) / 8 then some (s.byteAt j) else tget j s.mem := by
  induction n generalizing k l s with
  | zero =>
    obtain rfl : l = [] := List.eq_nil_of_length_eq_zero (by omega)
    rw [if_neg (by simp), if_neg (by simp)]
    rfl
  | succ n ih =>
    by_cases hl : l = []
    · subst hl
      rw [wordPieces_nil, if_neg (by simp), if_neg (by simp)]
      rfl
    · have hpos : 0 < l.length := List.length_pos_of_ne_nil hl
      have hfit : k % 8 + (l.take (8 - k % 8)).length ≤ 8 := by rw [List.length_take]; omega
      have hfirst := s.tget_putInWord (k / 8 * 8) hfit
      have htake : (l.take (8 - k % 8)).length = min (8 - k % 8) l.length := List.length_take
      have hdrop : (l.drop (8 - k % 8)).length = l.length - (8 - k % 8) := List.length_drop
      rw [wordPieces_cons n k hl, State.putPieces_cons, ih _ _ (by omega)]
      by_cases hword : j < k / 8 * 8 + 8
      · rw [if_neg (by omega), if_neg (by omega), hfirst j]
        by_cases hin : k ≤ j ∧ j < k + l.length
        · rw [if_pos (by omega), if_pos hin, show j - (k / 8 * 8 + k % 8) = j - k by omega, List.getElem?_take_of_lt (by omega)]
        · rw [if_neg (by omega), if_neg hin]
          by_cases hlow : k / 8 * 8 ≤ j
          · rw [if_pos (by omega), if_pos (by omega)]
          · rw [if_neg (by omega), if_neg (by omega)]
      · have hkept : tget j (s.putInWord (k / 8 * 8) (k % 8) (l.take (8 - k % 8))).mem = tget j s.mem := by
          rw [hfirst j, if_neg (by omega), if_neg (by omega)]
        rw [State.byteAt_congr (s.free_putInWord ..) hkept, hkept]
        by_cases hin : k ≤ j ∧ j < k + l.length
        · rw [if_pos (by omega), if_pos hin, List.getElem?_drop, show 8 - k % 8 + (j - (k / 8 * 8 + 8)) = j - k by omega]
        · rw [if_neg (by omega), if_neg hin]
          by_cases hlast : j / 8 ≤ (k + l.length - 1) / 8
          · rw [if_pos (by omega), if_pos (by omega)]
          · rw [if_neg (by omega), if_neg (by omega)]

theorem le_of_mem_wordPieces {n k : Nat} {l : List Byte} {p : Nat × Nat × List Byte} (h : p ∈ wordPieces n k l) : k / 8 * 8 ≤ p.1 := by
  induction n generalizing k l with
  | zero => simp [wordPieces] at h
  | succ n ih =>
    by_cases hl : l = []
    · subst hl
      simp [wordPieces_nil] at h
    · rw [wordPieces_cons n k hl, List.mem_cons] at h
      obtain rfl | h := h
      · exact Nat.le_refl _
      · have := ih h
        omega

/-- A word below a write keeps its mark. -/
theorem State.contains_putPieces_below {v k : Nat} (hv : v < k / 8 * 8) (n : Nat) (l : List Byte) (s : State) :
    (s.putPieces (wordPieces n k l)).poison.contains v = s.poison.contains v := by
  induction n generalizing k l s with
  | zero => rfl
  | succ n ih =>
    by_cases hl : l = []
    · rw [hl, wordPieces_nil]
      rfl
    · rw [wordPieces_cons n k hl, State.putPieces_cons, ih (by omega), State.contains_putInWord, if_neg (by omega)]

/-- R179: a write of which no piece meets a poisoned word leaves none of its words marked. -/
theorem State.contains_putPieces_clean (n k : Nat) (l : List Byte) (hn : l.length ≤ n) (s : State)
    (hclean : ∀ p ∈ wordPieces n k l, s.narrowError p.1 p.2.2.length = false) {x : Nat} (hx : x ∈ wordsOf k l.length) :
    (s.putPieces (wordPieces n k l)).poison.contains x = false := by
  induction n generalizing k l s with
  | zero =>
    rw [mem_wordsOf] at hx
    omega
  | succ n ih =>
    rw [mem_wordsOf] at hx
    have hl : l ≠ [] := fun h => by simp [h] at hx
    have hdrop : (l.drop (8 - k % 8)).length = l.length - (8 - k % 8) := List.length_drop
    have hfit : k % 8 + (l.take (8 - k % 8)).length ≤ 8 := by rw [List.length_take]; omega
    rw [wordPieces_cons n k hl] at hclean ⊢
    rw [State.putPieces_cons]
    have hhead : s.narrowError (k / 8 * 8) (l.take (8 - k % 8)).length = false := hclean _ (List.mem_cons_self ..)
    by_cases hfirst : x = k / 8 * 8
    · rw [State.contains_putPieces_below (by omega), State.contains_putInWord, if_pos hfirst]
      exact hhead
    · refine ih _ _ (by omega) _ (fun p hp => ?_) ((mem_wordsOf ..).mpr (by omega))
      have hlow := le_of_mem_wordPieces hp
      rw [State.narrowError, s.wordPoisoned_putInWord_ne (by omega) hfit]
      exact hclean p (List.mem_cons_of_mem _ hp)

/-! ## A write to a pantry (R103, R179) -/

theorem State.tget_putWords (s : State) (k : Nat) (l : List Byte) (j : Nat) : tget j (s.putWords k l).mem =
    if k ≤ j ∧ j < k + l.length then l[j - k]?
    else if l.length ≠ 0 ∧ k / 8 ≤ j / 8 ∧ j / 8 ≤ (k + l.length - 1) / 8 then some (s.byteAt j) else tget j s.mem :=
  State.tget_putPieces l.length k l (Nat.le_refl _) s j

/-- A byte outside a write keeps its place where it was listed, or where the write reaches no byte of its word. -/
theorem State.tget_putWords_outside (s : State) {k j : Nat} {l : List Byte} (hout : j < k ∨ k + l.length ≤ j)
    (hkeep : (tget j s.mem).isSome = true ∨ j / 8 * 8 ∉ wordsOf k l.length) : tget j (s.putWords k l).mem = tget j s.mem := by
  rw [State.tget_putWords, if_neg (by omega)]
  split
  next hword =>
    have hin : j / 8 * 8 ∈ wordsOf k l.length := (mem_wordsOf ..).mpr (by omega)
    obtain ⟨b, hb⟩ := Option.isSome_iff_exists.mp (hkeep.resolve_right (not_not_intro hin))
    rw [State.byteAt, hb, Option.getD_some]
  next => rfl

/-- R179: the words of a write that meets no poisoned word hold data, whatever the free values. -/
theorem State.wordPoisoned_of_putWords {s t : State} {k : Nat} {l : List Byte} (hclean : s.writeError k l = false)
    (hmem : t.mem = (s.putWords k l).mem) (hpoison : t.poison = (s.putWords k l).poison) {x : Nat} (hx : x ∈ wordsOf k l.length) :
    t.wordPoisoned x = false := by
  have hmark : (s.putWords k l).poison.contains x = false :=
    State.contains_putPieces_clean l.length k l (Nat.le_refl _) s (fun p hp => Bool.eq_false_iff.mpr (List.any_eq_false.mp hclean p hp)) hx
  have hwritten : t.writtenAt x 8 = true := by
    rw [mem_wordsOf] at hx
    rw [State.writtenAt_iff]
    intro j hj hlt
    rw [hmem, State.tget_putWords]
    split
    · rw [List.getElem?_eq_getElem (by omega)]
      rfl
    · rw [if_pos (by omega)]
      rfl
  rw [State.wordPoisoned, hpoison, hmark, hwritten]
  rfl

/-- The bytes of a write are what is read afterwards. -/
theorem State.bytesAt_of_putWords {s t : State} {k : Nat} {l : List Byte} (hmem : t.mem = (s.putWords k l).mem) :
    t.bytesAt k l.length = l := by
  refine List.ext_getElem? fun j => ?_
  rw [getElem?_bytesAt]
  split
  next hj =>
    rw [State.byteAt, hmem, State.tget_putWords, if_pos (by omega), Nat.add_sub_cancel_left, List.getElem?_eq_getElem hj]
    rfl
  next hj => rw [List.getElem?_eq_none (by omega)]

theorem State.writeCode_pantry_zero {s : State} {r o : Nat} {l : List Byte} (hok : s.writeCode (.pantry r o) l = 0) :
    (s.room r).stalled = false ∧ s.writeError (pantryKey r o) l = false := by
  simp only [State.writeCode] at hok
  split at hok
  · omega
  next hs =>
    split at hok
    · omega
    next hw => exact ⟨Bool.eq_false_iff.mpr hs, Bool.eq_false_iff.mpr hw⟩

@[simp] theorem State.writePantry_mem (s : State) (r o : Nat) (l : List Byte) (w : Option Nat) :
    (s.writePantry r o l w).mem = (s.putWords (pantryKey r o) l).mem := rfl

@[simp] theorem State.writePantry_poison (s : State) (r o : Nat) (l : List Byte) (w : Option Nat) :
    (s.writePantry r o l w).poison = (s.putWords (pantryKey r o) l).poison := by
  rw [State.writePantry, show (State.testWatches _ r).poison = _ from (State.testWatches_effect ..).1 .poison rfl,
    show (State.dropReservations _ r w _).poison = _ from (State.dropReservations_effect ..).1 .poison rfl]

/-- R179: a pantry that performs a write without error comes to the state of its words, and nothing is recorded. -/
theorem State.memWrite_pantry_clean {s : State} {r o : Nat} {l : List Byte} (hok : s.writeCode (.pantry r o) l = 0) (w : Option Nat) :
    s.memWrite (.pantry r o) l w = (s.writePantry r o l w).bump := by
  simp only [State.memWrite, (State.writeCode_pantry_zero hok).2, Bool.false_eq_true, if_false]

/-- Settles O55: the words of the write hold its bytes as data, and any other byte stays. -/
theorem pantryReadsBackWhatWasWritten : Obligations.PantryReadsBackWhatWasWritten := by
  refine ⟨fun s r o l w hl hok => ?_, fun s r o k l w hout hlisted => ?_⟩
  · obtain ⟨hruns, hclean⟩ := State.writeCode_pantry_zero hok
    rw [State.memWrite_pantry_clean hok]
    have hroom : (((s.writePantry r o l w).bump).room r).stalled = false := by
      rw [State.room_bump, (State.writePantry_effect s r o l w).room_eq rfl]
      exact hruns
    have hpoison : ((s.writePantry r o l w).bump).rangePoisoned (pantryKey r o) l.length = false :=
      List.any_eq_false.mpr fun x hx => Bool.eq_false_iff.mp (State.wordPoisoned_of_putWords (t := (s.writePantry r o l w).bump) hclean
        (s.writePantry_mem r o l w) (s.writePantry_poison r o l w) hx)
    have hbytes : ((s.writePantry r o l w).bump).bytesAt (pantryKey r o) l.length = l :=
      State.bytesAt_of_putWords (s := s) (s.writePantry_mem r o l w)
    simp only [State.memRead, hroom, hpoison, hbytes, Bool.false_eq_true, if_false]
  · rw [State.memWrite_pantry_mem]
    exact s.tget_putWords_outside hout (.inl hlisted)

end Sys2Proof.Machine


/-! Ordinary loads and stores, AMOs, LR and SC whose home performs them now (O1), and what they leave alone (O53, O54). -/
namespace Sys2Proof.Machine

/-! ## Registers of a hart (R85) -/

theorem Hart.reg_setReg_same (x : Hart) (n : Nat) (v : W64) : (x.setReg n v).reg n = if n = 0 then 0 else v := by
  unfold Hart.reg Hart.setReg
  split
  · rfl
  · exact tgetD_tset_same ..

@[simp] theorem Hart.setReg_pc (x : Hart) (n : Nat) (v : W64) : (x.setReg n v).pc = x.pc := by
  unfold Hart.setReg
  split <;> rfl

/-! ## What a read that gives data leaves (R110, R162) -/

/-- R162: an attic gives data from usable banks alone. -/
theorem State.banksUsable_of_data {s : State} {r o n : Nat} {b : Bool} {l : List Byte} (hd : s.memRead (.attic r b o) n = .data l) :
    s.banksUsable r b o n = true := by
  simp only [State.memRead] at hd
  cases hu : s.banksUsable r b o n with
  | true => rfl
  | false =>
    rw [hu] at hd
    split at hd <;> exact Answer.noConfusion hd

/-- R110: such a read notes its view at most. -/
theorem State.afterRead_effect_of_data {s : State} {p : Place} {n : Nat} {l : List Byte} (hd : s.memRead p n = .data l) :
    Effect [.free, .attics] s (s.afterRead p n) := by
  cases p with
  | attic r b o =>
    simp only [State.afterRead, State.banksUsable_of_data hd, if_true]
    exact (State.bump_effect _).next rfl ((s.noteView_effect r b o n).mono rfl)
  | _ => exact (s.bump_effect).mono rfl

theorem State.roomsAgree_modRoom (s : State) (r : Nat) {f : Room → Room} (hf : ∀ y, (f y).cond = y.cond ∧ (f y).phase = y.phase) :
    s.RoomsAgree (s.modRoom r f).rooms := by
  intro q
  change ((s.modRoom r f).room q).cond = _ ∧ ((s.modRoom r f).room q).phase = _
  by_cases hq : q = r
  · subst hq
    rw [State.room_modRoom]
    exact hf _
  · rw [State.room_modRoom_ne _ _ _ _ hq]
    exact ⟨rfl, rfl⟩

/-- R101: a room that allocates a line differs in its cached lines alone. -/
theorem State.cacheLoad_cases (s : State) (r : Nat) (x : Xlate) (p : Place) :
    ∃ R, s.RoomsAgree R ∧ s.cacheLoad r x p = s.withRooms R := by
  have hsame : ∃ R, s.RoomsAgree R ∧ s = s.withRooms R := ⟨s.rooms, fun _ => ⟨rfl, rfl⟩, rfl⟩
  cases p with
  | attic q b o =>
    cases b with
    | true => exact hsame
    | false =>
      simp only [State.cacheLoad]
      split
      all_goals
        split
        · exact ⟨_, s.roomsAgree_modRoom r (f := fun y => { y with dcache := cachePut 8 (· % 128) (o / 64) y.dcache }) fun _ => ⟨rfl, rfl⟩, rfl⟩
        · exact hsame
  | _ => exact hsame

theorem State.memRead_fillTlb (s : State) (r : Nat) (x : Xlate) (p : Place) (n : Nat) : (s.fillTlb r x).memRead p n = s.memRead p n := by
  obtain ⟨R, hR, hfill⟩ := s.fillTlb_cases r x
  rw [hfill, State.memRead_withRooms hR]

theorem State.memRead_cacheLoad (s : State) (r : Nat) (x : Xlate) (q p : Place) (n : Nat) :
    (s.cacheLoad r x q).memRead p n = s.memRead p n := by
  obtain ⟨R, hR, hload⟩ := s.cacheLoad_cases r x q
  rw [hload, State.memRead_withRooms hR]

theorem State.loadDone_effect_of_data {s : State} {h : HartId} {n : Nat} {x : Xlate} {l : List Byte}
    (hd : s.memRead (s.placeFor h.room.val x.pa n) n = .data l) : Effect [.free, .rooms, .attics] s (s.loadDone h n x) := by
  refine (State.afterRead_effect_of_data (l := l) ?_).next rfl ((State.cacheLoad_effect ..).next rfl ((State.fillTlb_effect ..).mono rfl))
  rw [State.memRead_cacheLoad, State.memRead_fillTlb, hd]

/-- R454: bytes that a place gives, it gives to the harts of any room. -/
theorem State.placeFor_of_data {s : State} {pa n m : Nat} {l : List Byte} (hd : s.memRead (s.place pa n) m = .data l) (r : Nat) :
    s.placeFor r pa n = s.place pa n := by
  obtain ⟨q, b, o, hp⟩ | ⟨q, o, hp⟩ | ⟨d, a, hp⟩ := Place.memory_of_read hd
  all_goals simp only [State.placeFor, hp]

/-! ## A load of any class (R104, R139, R163) -/

section
variable {s : State} {h : HartId} {va : W64} {m : LoadForm} {x : Xlate} {l : List Byte} (halign : va.toNat % m.bytes = 0)
  (hx : s.translate h.room.val ((s.hart h).authority h.hart.val) .read .load va = .ok x) (hwide : ¬ (m.bytes = 16 ∧ 3 ≤ x.type))
include halign hx

/-- R163: while its home does not take a load, nothing changes. -/
theorem State.hartLoad_of_closed
    (hclosed : s.homeOpen (m.cls.getD (x.cls (s.hart h).priv)) (s.placeFor h.room.val x.pa m.bytes) m.bytes = false) :
    s.hartLoad h va m = s := by
  simp [State.hartLoad, halign, hx, hclosed]

include hwide

/-- R104: a load whose home takes it and gives data delivers its value and retires. -/
theorem State.hartLoad_of_data
    (hopen : s.homeOpen (m.cls.getD (x.cls (s.hart h).priv)) (s.placeFor h.room.val x.pa m.bytes) m.bytes = true)
    (hd : s.memRead (s.placeFor h.room.val x.pa m.bytes) m.bytes = .data l) :
    s.hartLoad h va m = (s.loadDone h m.bytes x).modHart h fun y => (y.deliver m.rd m.bytes m.unsigned m.fp m.pair l).retire m.len := by
  have hanswer := (s.memRead_fillTlb h.room.val x _ m.bytes).trans hd
  simp only [State.hartLoad, halign, hx, hopen, hwide, State.loadDone]
  obtain ⟨q, b, o, hp⟩ | ⟨q, o, hp⟩ | ⟨d, a, hp⟩ := Place.memory_of_read hd
  all_goals
    rw [hp] at hanswer ⊢
    simp [hanswer, State.modHart]

end

/-! ## What an access of one hart leaves alone (O53) -/

/-- From s to t nothing changes but one hart, the caches of rooms, the record of views and the free counter. -/
def State.HartAlone (h : HartId) (s t : State) : Prop :=
  (∀ g, g ≠ h → t.hart g = s.hart g) ∧ Effect [.free, .harts, .rooms, .attics] s t

theorem State.HartAlone.refl (h : HartId) (s : State) : s.HartAlone h s := ⟨fun _ _ => rfl, Effect.refl _ s⟩

theorem State.HartAlone.of_effect {h : HartId} {s t : State} (he : Effect [.free, .rooms, .attics] s t) : s.HartAlone h t :=
  ⟨fun g _ => he.hart_eq rfl g, he.mono rfl⟩

theorem State.HartAlone.modHart {h : HartId} {s t : State} (ha : s.HartAlone h t) (f : Hart → Hart) : s.HartAlone h (t.modHart h f) := by
  obtain ⟨hothers, he⟩ := ha
  refine ⟨fun g hg => ?_, (State.modHart_effect ..).next rfl he⟩
  rw [State.hart_modHart_ne _ _ _ _ hg, hothers g hg]

theorem State.HartAlone.issued {h : HartId} {s t : State} (ha : s.HartAlone h t) : s.HartAlone h (t.issued h) := by
  obtain ⟨hothers, he⟩ := ha
  exact ⟨fun g hg => (State.hart_issued ..).trans (hothers g hg), (State.issued_effect ..).next rfl he⟩

/-- What the statement says of the state that an instruction answers. -/
theorem State.HartAlone.of_next {h : HartId} {s t u : State} (ha : s.HartAlone h u) (hnext : (Host.Outcome.next u : Result) = .next t) :
    (∀ g, g ≠ h → t.hart g = s.hart g) ∧ ∀ p, [Part.free, .harts, .rooms, .attics].contains p = false → p.same s t := by
  obtain rfl := Host.Outcome.next.inj hnext
  obtain ⟨hothers, hsame, -⟩ := ha
  exact ⟨hothers, hsame⟩

/-- A load whose home holds data for it changes its hart alone, whether the home takes it or not. -/
theorem State.hartAlone_hartLoad {s : State} {h : HartId} {va : W64} {m : LoadForm} {x : Xlate} {l : List Byte}
    (halign : va.toNat % m.bytes = 0) (hx : s.translate h.room.val ((s.hart h).authority h.hart.val) .read .load va = .ok x)
    (hwide : ¬ (m.bytes = 16 ∧ 3 ≤ x.type)) (hd : s.memRead (s.place x.pa m.bytes) m.bytes = .data l) :
    s.HartAlone h (s.hartLoad h va m) := by
  have hplace := State.placeFor_of_data hd h.room.val
  rw [← hplace] at hd
  cases hopen : s.homeOpen (m.cls.getD (x.cls (s.hart h).priv)) (s.placeFor h.room.val x.pa m.bytes) m.bytes with
  | false =>
    rw [State.hartLoad_of_closed halign hx hopen]
    exact State.HartAlone.refl h s
  | true =>
    rw [State.hartLoad_of_data halign hx hwide hopen hd]
    exact (State.HartAlone.of_effect (State.loadDone_effect_of_data hd)).modHart _

/-! ## LR and SC (R112) -/

section
variable {s : State} {h : HartId} {a : AtomicForm} {x : Xlate} {p : Place} {key : Nat} {l : List Byte}
  (hrun : s.canRun h = true) (hrel : s.released h a.rl = true)
  (htarget : s.reserveTarget h ((s.hart h).reg a.rs1.val) (if a.double then 8 else 4) = .ok (x, p, key))

/-- The target of LR and SC is the place that the address leads to. -/
theorem State.place_of_reserveTarget {s : State} {h : HartId} {va : W64} {n : Nat} {x : Xlate} {p : Place} {key : Nat}
    (htarget : s.reserveTarget h va n = .ok (x, p, key)) : p = s.placeFor h.room.val x.pa n := by
  unfold State.reserveTarget at htarget
  split at htarget
  · cases htarget
  · split at htarget
    · cases htarget
    next y hy =>
      split at htarget
      case h_3 => cases htarget
      all_goals
        next hp =>
          split at htarget <;> cases htarget
          exact hp.symm

include hrun hrel htarget

theorem execLr_closed (hclosed : s.homeOpen (x.cls (s.hart h).priv) p (if a.double then 8 else 4) = false) :
    exec (.lr h a) s = .next (s.issued h) := by
  change execLr _ _ _ = _
  simp only [execLr, hartRun_canRun hrun, hrel, htarget, hclosed]
  rfl

/-- R112: an LR whose home takes it and gives data delivers its value and reserves its granule. -/
theorem execLr_of_data (hopen : s.homeOpen (x.cls (s.hart h).priv) p (if a.double then 8 else 4) = true)
    (hd : s.memRead p (if a.double then 8 else 4) = .data l) :
    exec (.lr h a) s = .next ((((s.fillTlb h.room.val x).afterRead p (if a.double then 8 else 4)).modHart h fun y =>
      { (y.deliver a.rd.val (if a.double then 8 else 4) false false false l).retire with
        resv := some ⟨key, if a.double then 8 else 4⟩ }).issued h) := by
  change execLr _ _ _ = _
  simp only [execLr, hartRun_canRun hrun, hrel, htarget, hopen, State.memRead_fillTlb, hd]
  rfl

/-- R112: an SC that finds its reservation writes and answers 0. -/
theorem execSc_of_reserved (hopen : s.homeOpen (x.cls (s.hart h).priv) p (if a.double then 8 else 4) = true)
    (hd : s.memRead p (if a.double then 8 else 4) = .data l) (hresv : (s.hart h).resv = some ⟨key, if a.double then 8 else 4⟩) :
    exec (.sc h a) s = .next (((s.storeDone h (toBytes (if a.double then 8 else 4) ((s.hart h).reg a.rs2.val).toNat) x).modHart h
      fun y => { (y.setReg a.rd.val 0).retire with resv := none }).issued h) := by
  have hp := State.place_of_reserveTarget htarget
  change execSc _ _ _ = _
  simp only [execSc, hartRun_canRun hrun, hrel, htarget, hopen, State.memRead_fillTlb, hd, hresv, State.storeDone,
    toBytes_length, ← hp]
  rfl

/-- R112: an SC that finds no reservation writes nothing and answers 1. -/
theorem execSc_of_unreserved (hopen : s.homeOpen (x.cls (s.hart h).priv) p (if a.double then 8 else 4) = true)
    (hresv : (s.hart h).resv ≠ some ⟨key, if a.double then 8 else 4⟩) :
    exec (.sc h a) s = .next (((s.fillTlb h.room.val x).modHart h
      fun y => { (y.setReg a.rd.val 1).retire with resv := none }).issued h) := by
  change execSc _ _ _ = _
  simp only [execSc, hartRun_canRun hrun, hrel, htarget, hopen, if_neg hresv]
  rfl

end

/-! ## Ordinary accesses take the class of their leaf (R104, R163) -/

/-- R91: only an address of TYPE 6 or 7 leads to a host. -/
theorem State.placeFor_ne_host {s : State} {pa : Nat} (ht : paType pa ≤ 2) (r n d a : Nat) : s.placeFor r pa n ≠ .host d a := by
  have hplace : s.place pa n ≠ .host d a := by
    simp only [State.place, show ¬ 6 ≤ paType pa by omega, if_false]
    repeat' split
    all_goals exact Place.noConfusion
  simp only [State.placeFor]
  split
  · repeat' split
    all_goals exact Place.noConfusion
  · exact hplace

/-- R112: an AMO that memory of TYPE 0, 1 or 2 answers is allowed there. -/
theorem homeAllows_amo {s : State} {pa r : Nat} (ht : paType pa ≤ 2) {o : AmoOp} {d : Bool} {v : W64} {l : List Byte}
    (ha : s.atomicAnswer (.amo o d v) (s.placeFor r pa (if d then 8 else 4)) = .data l) :
    homeAllows (.amo o d v) (s.placeFor r pa (if d then 8 else 4)) = true := by
  obtain ⟨old, hd⟩ := State.memRead_of_atomicAnswer ha
  obtain ⟨q, b, k, hp⟩ | ⟨q, k, hp⟩ | ⟨q, k, hp⟩ := Place.memory_of_read hd
  · rw [hp]; rfl
  · rw [hp]; rfl
  · exact absurd hp (s.placeFor_ne_host ht r _ q k)

theorem State.AtomicReady.hartAtomic_leaf {s : State} {h : HartId} {va : W64} {op : HomeAtomic} {x : Xlate} {l : List Byte}
    (hr : s.AtomicReady h va op (x.cls (s.hart h).priv) x l) (rd : Nat) (pair : Bool) :
    s.hartAtomic h va op rd pair none 4 =
      (s.atomicDone h op x).modHart h fun y => (y.deliverAtomic rd op pair (answerBytes op l)).retire := by
  rw [← hr.hartAtomic_eq rd pair]
  simp only [State.hartAtomic, hr.translated, Option.getD]

theorem State.StoreReady.hartStore_leaf {s : State} {h : HartId} {va : W64} {l : List Byte} {x : Xlate}
    (hr : s.StoreReady h va l (x.cls (s.hart h).priv) x) (len : Nat) :
    s.hartStore h va ⟨l, none, len, false⟩ = (s.storeDone h l x).modHart h (·.retire len) := by
  rw [← hr.hartStore_eq len false]
  simp only [State.hartStore, hr.translated, Option.getD]

/-- R104: an ordinary access has at most 8 bytes. -/
theorem MemForm.not_wide {m : MemForm} (hm : m.wf = true) (x : Xlate) : ¬ (m.bytes = 16 ∧ 3 ≤ x.type) := by
  simp only [MemForm.wf, Bool.and_eq_true, Bool.or_eq_true, beq_iff_eq] at hm
  omega

/-- R104: the form of an ordinary load. -/
def ordinaryLoad (m : MemForm) : LoadForm :=
  ⟨m.reg.val, m.bytes, m.unsigned, m.fp, false, none, if m.compressed then 2 else 4⟩

/-- R104: a hart that can run executes its load. -/
theorem exec_load {s : State} {h : HartId} (hrun : s.canRun h = true) (m : MemForm) : exec (.load h m) s =
    .next ((s.hartLoad h (formAddress (s.hart h) m.rs1 m.imm) (ordinaryLoad m)).issued h) :=
  hartRun_canRun hrun fun s => s.hartLoad h (formAddress (s.hart h) m.rs1 m.imm) (ordinaryLoad m)

/-- R104: a store that is ready is performed and retires. -/
theorem exec_store_ready {s : State} {h : HartId} (hrun : s.canRun h = true) {m : MemForm} {x : Xlate}
    (hr : s.StoreReady h (formAddress (s.hart h) m.rs1 m.imm) (toBytes m.bytes ((s.hart h).storeValue m).toNat)
      (x.cls (s.hart h).priv) x) : exec (.store h m) s =
    .next (((s.storeDone h (toBytes m.bytes ((s.hart h).storeValue m).toNat) x).modHart h
      (·.retire (if m.compressed then 2 else 4))).issued h) := by
  rw [← hr.hartStore_leaf]
  exact hartRun_canRun hrun fun s => s.hartStore h (formAddress (s.hart h) m.rs1 m.imm)
    ⟨toBytes m.bytes ((s.hart h).storeValue m).toNat, none, if m.compressed then 2 else 4, false⟩

/-- R112: an AMO that is ready is performed, delivers the old value and retires. -/
theorem exec_amo_ready {s : State} {h : HartId} (hrun : s.canRun h = true) {op : AmoOp} {a : AtomicForm}
    (hrel : s.released h a.rl = true) {x : Xlate} {l : List Byte}
    (hr : s.AtomicReady h ((s.hart h).reg a.rs1.val) (.amo op a.double ((s.hart h).reg a.rs2.val)) (x.cls (s.hart h).priv) x l) :
    exec (.amo h op a) s =
      .next (s.atomicRetired h (.amo op a.double ((s.hart h).reg a.rs2.val)) x a.rd.val false l) := by
  change execAmo _ _ _ _ = _
  simp only [execAmo, hartRun_canRun hrun, hrel, if_true, hr.hartAtomic_leaf, State.atomicRetired]

/-- Settles O1: each instruction comes to the access as its home performs it; the translation that is kept on the way changes
neither its hart nor memory. -/
theorem hartMemoryInstructionsComplete : Obligations.HartMemoryInstructionsComplete := by
  refine ⟨?load, ?store, ?amo, ?lr, ?sc, ?scFails⟩
  case load =>
    intro h m s x l hrun hm halign hx hopen hd
    have hwide : ¬ (m.bytes = 16 ∧ 3 ≤ x.type) := MemForm.not_wide hm x
    have hdone : Effect _ s (s.loadDone h (ordinaryLoad m).bytes x) := State.loadDone_effect_of_data hd
    refine ⟨_, exec_load hrun m, ?_⟩
    rw [State.hartLoad_of_data (m := (ordinaryLoad m)) halign hx hwide hopen hd, State.hart_issued, State.hart_modHart,
      hdone.hart_eq rfl]
    exact ⟨rfl, hdone.mem_eq rfl⟩
  case store =>
    intro h m s x hrun hm halign hx htype hopen hcode
    have hlen := toBytes_length m.bytes ((s.hart h).storeValue m).toNat
    refine ⟨_, exec_store_ready hrun (x := x) ⟨?_, hx, htype, ?_, ?_⟩, ?_⟩
    · rw [hlen, halign]
    · rw [hlen, hopen]
    · rw [hlen, hcode]
    · rw [State.hart_issued, State.hart_modHart, State.hart_storeDone (s.canRun_wait hrun)]
      have hmem := s.storeDone_mem h (toBytes m.bytes ((s.hart h).storeValue m).toNat) x
      rw [hlen] at hmem
      exact ⟨rfl, hmem⟩
  case amo =>
    intro h op a s x l hrun hrel halign hx htype hopen hans
    have hr : s.AtomicReady h ((s.hart h).reg a.rs1.val) (.amo op a.double ((s.hart h).reg a.rs2.val)) (x.cls (s.hart h).priv) x l :=
      ⟨halign, hx, htype, homeAllows_amo htype hans, hopen, hans⟩
    exact ⟨_, exec_amo_ready hrun hrel hr, hr.atomicRetired_effect (s.canRun_wait hrun) a.rd.val false⟩
  case lr =>
    intro h a s x p key l hrun hrel htarget hopen hd
    have hread := State.afterRead_effect_of_data ((s.memRead_fillTlb h.room.val x p _).trans hd)
    have hdone := hread.next rfl ((State.fillTlb_effect s h.room.val x).mono (F := [.free, .rooms, .attics]) rfl)
    refine ⟨_, execLr_of_data hrun hrel htarget hopen hd, ?_, hdone.mem_eq rfl⟩
    rw [State.hart_issued, State.hart_modHart, hdone.hart_eq rfl]
  case sc =>
    intro h a s x p key l hrun hrel htarget hopen hd hresv
    refine ⟨_, execSc_of_reserved hrun hrel htarget hopen hd hresv, ?_⟩
    have hmem := s.storeDone_mem h (toBytes (if a.double then 8 else 4) ((s.hart h).reg a.rs2.val).toNat) x
    rw [toBytes_length, ← State.place_of_reserveTarget htarget] at hmem
    rw [State.hart_issued, State.hart_modHart, State.hart_storeDone (s.canRun_wait hrun)]
    exact ⟨((s.hart h).reg_setReg_same a.rd.val 0).trans (ite_self 0), congrArg (· + 4) (Hart.setReg_pc ..), rfl, hmem⟩
  case scFails =>
    intro h a s x p key hrun hrel htarget hopen hresv
    have hfill := State.fillTlb_effect s h.room.val x
    refine ⟨_, execSc_of_unreserved hrun hrel htarget hopen hresv, ?_, hfill.mem_eq rfl⟩
    rw [State.hart_issued, State.hart_modHart, hfill.hart_eq rfl]

/-! ## What loads and stores leave alone (R85, R103, R148) -/

/-- Settles O53: whether its home takes the access or not, its hart and the caches of its room alone are concerned. -/
theorem localLoadsChangeTheirHartAlone : Obligations.LocalLoadsChangeTheirHartAlone := by
  refine ⟨?load, ?lr, ?global⟩
  case load =>
    intro h m s x l t hrun hm halign hx hd hexec
    have hload := State.hartAlone_hartLoad (m := ordinaryLoad m) halign hx (MemForm.not_wide hm x) hd
    exact hload.issued.of_next ((exec_load hrun m).symm.trans hexec)
  case lr =>
    intro h a s x p key l t hrun hrel htarget hd hexec
    cases hopen : s.homeOpen (x.cls (s.hart h).priv) p (if a.double then 8 else 4) with
    | false =>
      exact (State.HartAlone.refl h s).issued.of_next ((execLr_closed hrun hrel htarget hopen).symm.trans hexec)
    | true =>
      have hread := State.afterRead_effect_of_data ((s.memRead_fillTlb h.room.val x p _).trans hd)
      have hdone := hread.next rfl ((State.fillTlb_effect s h.room.val x).mono (F := [.free, .rooms, .attics]) rfl)
      exact ((State.HartAlone.of_effect hdone).modHart _).issued.of_next ((execLr_of_data hrun hrel htarget hopen hd).symm.trans hexec)
  case global =>
    intro h w s x l t c op5 n hmem hc hrel halign hx htype hd hexec
    suffices hload : ∃ u, exec c s = szLoad op5 n u h w s by
      obtain ⟨u, he⟩ := hload
      have hwide : ¬ (n = 16 ∧ 3 ≤ x.type) := by omega
      have halone := State.hartAlone_hartLoad (m := ⟨szRd w, n, u, false, n == 16, some (szF3 w), 4⟩) halign hx hwide hd
      refine halone.issued.of_next (Eq.trans ?_ (he.symm.trans hexec))
      rw [szLoad, szRun_canRunWord hc _ fun hm => by rw [hm]; rfl]
      simp only [whenReleased, hrel, if_true]
    simp only [List.mem_cons, Prod.mk.injEq, List.not_mem_nil, or_false] at hmem
    obtain ⟨rfl, rfl, rfl⟩ | ⟨rfl, rfl, rfl⟩ | ⟨rfl, rfl, rfl⟩ | ⟨rfl, rfl, rfl⟩ | ⟨rfl, rfl, rfl⟩ | ⟨rfl, rfl, rfl⟩ | ⟨rfl, rfl, rfl⟩ |
      ⟨rfl, rfl, rfl⟩ := hmem
    all_goals exact ⟨_, rfl⟩

/-- R112, R148: what a write to its room's pantry can change of a hart is its reservation and the value of a word that it watches. -/
def Hart.apart (x : Hart) : Hart := { x with resv := none, wait := .none }

theorem State.hart_apart_dropReservations (s : State) (r : Nat) (w : Option Nat) (keys : List Nat) (g : HartId) :
    ((s.dropReservations r w keys).hart g).apart = (s.hart g).apart := by
  simp only [State.hart, State.hartAt, State.dropReservations, tgetD]
  rw [tget_map_of_keys]
  · cases tget (hkey g) s.harts with
    | none => rfl
    | some x =>
      simp only [Option.map_some, Option.getD_some]
      split
      · split <;> rfl
      · rfl
  · intro p
    split
    · split <;> rfl
    · rfl

theorem State.hart_apart_testWatches (s : State) (r : Nat) (g : HartId) : ((s.testWatches r).hart g).apart = (s.hart g).apart := by
  simp only [State.hart, State.hartAt, State.testWatches, tgetD]
  rw [tget_map_of_keys]
  · cases tget (hkey g) s.harts with
    | none => rfl
    | some x =>
      simp only [Option.map_some, Option.getD_some]
      split
      · split <;> rfl
      · rfl
  · intro p
    split
    · split <;> rfl
    · rfl

theorem State.hart_apart_writePantry (s : State) (r o : Nat) (l : List Byte) (w : Option Nat) (g : HartId) :
    ((s.writePantry r o l w).hart g).apart = (s.hart g).apart := by
  rw [State.writePantry, State.hart_apart_testWatches, State.hart_apart_dropReservations, (State.putWords_effect ..).hart_eq rfl]

/-- R103, R179: what a store to a pantry does without error, before its instruction retires. -/
theorem State.storeDone_pantry {s : State} {h : HartId} {l : List Byte} {x : Xlate} {r o : Nat}
    (hp : s.placeFor h.room.val x.pa l.length = .pantry r o) (hcode : s.writeCode (.pantry r o) l = 0) :
    Effect [.free, .mem, .poison, .harts, .rooms, .dws, .guards] s (s.storeDone h l x) ∧
      ∀ g, ((s.storeDone h l x).hart g).apart = (s.hart g).apart := by
  have hfill := State.fillTlb_effect s h.room.val x
  have hwrite : (s.fillTlb h.room.val x).memWrite (.pantry r o) l (some (hkey h)) = _ := State.memWrite_pantry_clean (by
    obtain ⟨R, hR, hfilled⟩ := s.fillTlb_cases h.room.val x
    rw [hfilled, State.writeCode_withRooms hR, hcode]) _
  rw [State.storeDone, hp, hwrite]
  refine ⟨(State.hartWrote_effect ..).next rfl ((State.storeAt_effect ..).next rfl ((State.bump_effect _).next rfl
    ((State.writePantry_effect ..).next rfl (hfill.mono rfl)))), fun g => ?_⟩
  rw [(State.hartWrote_effect ..).hart_eq rfl, (State.storeAt_effect ..).hart_eq rfl, State.hart_bump, State.hart_apart_writePantry,
    hfill.hart_eq rfl]

/-- Settles O54: the store is performed at the pantry, whose words alone it writes. -/
theorem localStoresChangeTheirBytesAlone : Obligations.LocalStoresChangeTheirBytesAlone := by
  intro h m s x t r o k hrun hm halign hx htype hplace hcode hexec hout
  have hlen := toBytes_length m.bytes ((s.hart h).storeValue m).toNat
  generalize hl : toBytes m.bytes ((s.hart h).storeValue m).toNat = l at hcode hlen
  have hp : s.placeFor h.room.val x.pa l.length = .pantry r o := by rw [hlen, State.placeFor, hplace]
  have hr : s.StoreReady h (formAddress (s.hart h) m.rs1 m.imm) l (x.cls (s.hart h).priv) x :=
    ⟨by rw [hlen, halign], hx, htype, by rw [hp]; rfl, by rw [hp, hcode]⟩
  subst hl
  obtain rfl := Host.Outcome.next.inj ((exec_store_ready hrun hr).symm.trans hexec)
  obtain ⟨heffect, hharts⟩ := State.storeDone_pantry hp hcode
  refine ⟨fun hkeep => ?mem, fun g hg => ?harts, ?parts⟩
  case mem =>
    have hmem := s.storeDone_mem h (toBytes m.bytes ((s.hart h).storeValue m).toNat) x
    rw [hp, State.memWrite_pantry_mem] at hmem
    exact (congrArg (tget k) hmem).trans (s.tget_putWords_outside (by rwa [hlen]) (by rwa [hlen]))
  case harts =>
    rw [State.hart_issued, State.hart_modHart_ne _ _ _ _ hg]
    exact hharts g
  case parts =>
    exact ((State.issued_effect ..).next rfl ((State.modHart_effect ..).next rfl heffect)).1

end Sys2Proof.Machine


/-! Fences, waits, CSR accesses, the timer and a taken interrupt (O2). -/
namespace Sys2Proof.Machine

/-! ## The instructions of a hart that can run (R85) -/

theorem State.freshRanges_dropGuard (s : State) (k : Nat) : (s.dropGuard (.fresh k)).freshRanges k = [] := by
  have hnone : (s.guards.filter fun g => g.key != .fresh k).find? (·.key == .fresh k) = none := by
    simp [List.find?_eq_none]
  simp only [State.freshRanges, State.dropGuard, hnone]

/-- R85, R241: a FENCE that no store holds up retires; one of RW,O forgets what its hart has stored to its pantry. -/
theorem exec_fence_retires {s : State} {h : HartId} (hrun : s.canRun h = true) (hstores : s.hasStores h = false)
    (pred succ : BitVec 4) : exec (.fence h pred succ) s =
      .next (((if pred.toNat % 4 = 3 ∧ bitOf succ.toNat 2 = true then s.dropGuard (.fresh (hkey h)) else s).modHart h (·.retire)).issued h) := by
  have hnone : (if pred.toNat % 4 = 3 ∧ bitOf succ.toNat 2 = true then s.dropGuard (.fresh (hkey h)) else s).hasStores h = false := by
    split <;> exact hstores
  change execFence _ _ _ _ = _
  simp only [execFence, hartRun_canRun hrun, hnone]
  simp

theorem exec_fenceI {s : State} {h : HartId} (hrun : s.canRun h = true) : exec (.fenceI h) s =
    .next (((s.modHart h (·.retire)).modRoom h.room.val fun y => { y with icache := [] }).issued h) :=
  hartRun_canRun hrun fun s => (s.modHart h (·.retire)).modRoom h.room.val fun y => { y with icache := [] }

theorem exec_gstatus {s : State} {h : HartId} (hrun : s.canRun h = true) (op : CsrOp) (imm : Bool) (rd src : Fin 32) :
    exec (.szGstatusCsrAccess h op imm rd src) s = .next ((s.modHart h fun x =>
      x.gstatusAccess op rd.val (if imm then BitVec.ofNat 64 src.val else x.reg src.val)).issued h) :=
  hartRun_canRun hrun fun s => s.modHart h fun x =>
    x.gstatusAccess op rd.val (if imm then BitVec.ofNat 64 src.val else x.reg src.val)

/-- R100: an invalidation leaves no matching entry in any of its room's TLBs, and no walk cache. -/
theorem Room.invalidate_spec (q : Room) (p : TlbEntry → Bool) : (q.invalidate p).walkCache = [] ∧ ∀ e, p e = true →
    e ∉ (q.invalidate p).tlb ∧ e ∉ (q.invalidate p).dtlb ∧ e ∉ (q.invalidate p).itlb := by
  refine ⟨rfl, fun e he => ?_⟩
  simp [Room.invalidate, he]

theorem exec_sfenceVma_allowed {s : State} {h : HartId} (hrun : s.canRun h = true) (hallowed : (s.hart h).denied 20 = false)
    (rs1 rs2 : Fin 32) : exec (.sfenceVma h rs1 rs2) s = .next (((s.modHart h (·.retire)).invalidateTlb h.room.val fun e =>
      (rs1 == 0 || e.hasVpn (fld ((s.hart h).reg rs1.val).toNat 51 16)) &&
        (rs2 == 0 || (e.asid == ((s.hart h).reg rs2.val).toNat % 65536 && !bitOf e.pte 5))).issued h) := by
  change execSfenceVma _ _ _ _ = _
  simp only [execSfenceVma, hartRun_canRun hrun, hallowed]
  rfl

theorem State.room_issued_tlbs (s : State) (h : HartId) (r : Nat) : ((s.issued h).room r).tlb = (s.room r).tlb ∧
    ((s.issued h).room r).dtlb = (s.room r).dtlb ∧ ((s.issued h).room r).itlb = (s.room r).itlb ∧
    ((s.issued h).room r).walkCache = (s.room r).walkCache ∧ ((s.issued h).room r).icache = (s.room r).icache := by
  by_cases hr : r = h.room.val
  · subst hr
    rw [State.issued, State.room_modRoom]
    exact ⟨rfl, rfl, rfl, rfl, rfl⟩
  · rw [State.issued, State.room_modRoom_ne _ _ _ _ hr]
    exact ⟨rfl, rfl, rfl, rfl, rfl⟩

/-- R122: what an access to SZ_GSTATUS leaves of its hart. -/
theorem Hart.gstatusAccess_spec (x : Hart) (op : CsrOp) (rd : Nat) (v : W64) :
    (rd ≠ 0 → (x.gstatusAccess op rd v).reg rd = x.gstatus) ∧ (x.gstatusAccess op rd v).pc = x.pc + 4 := by
  refine ⟨fun hrd => ?_, congrArg (· + 4) (x.setReg_pc rd x.gstatus)⟩
  calc (x.gstatusAccess op rd v).reg rd
    _ = (x.setReg rd x.gstatus).reg rd := rfl
    _ = x.gstatus := by rw [Hart.reg_setReg_same, if_neg hrd]

/-- Settles O2: each instruction of a hart that can run comes to its one branch; the timer and the interrupt need no more than
their time and their cause. -/
theorem hartControlInstructionsComplete : Obligations.HartControlInstructionsComplete := by
  refine ⟨?fence, ?fenceI, ?sfence, ?wfiWaits, ?wfiRetires, ?satp, ?gstatus, ?timer, ?interrupt⟩
  case fence =>
    intro h pred succ s hrun hstores
    refine ⟨_, exec_fence_retires hrun hstores pred succ, ?_, ?_, fun hpred hsucc => ?_⟩
    · rw [State.hart_issued, State.hart_modHart]
      split <;> rfl
    · split <;> rfl
    · rw [if_pos ⟨hpred, hsucc⟩]
      exact s.freshRanges_dropGuard (hkey h)
  case fenceI =>
    intro h s hrun
    refine ⟨_, exec_fenceI hrun, ?_, ?_⟩
    · rw [State.hart_issued, State.hart_modRoom, State.hart_modHart]
    · obtain ⟨-, -, -, -, hicache⟩ := State.room_issued_tlbs ((s.modHart h (·.retire)).modRoom h.room.val fun y => { y with icache := [] }) h h.room.val
      rw [hicache, State.room_modRoom]
  case sfence =>
    intro h rs1 rs2 s hrun hallowed
    refine ⟨_, exec_sfenceVma_allowed hrun hallowed rs1 rs2, ?_, ?_⟩
    · rw [State.hart_issued, State.invalidateTlb, State.hart_modRoom, State.hart_modHart]
    · obtain ⟨htlb, hdtlb, hitlb, hwalk, -⟩ := State.room_issued_tlbs ((s.modHart h (·.retire)).invalidateTlb h.room.val fun e =>
        (rs1 == 0 || e.hasVpn (fld ((s.hart h).reg rs1.val).toNat 51 16)) &&
          (rs2 == 0 || (e.asid == ((s.hart h).reg rs2.val).toNat % 65536 && !bitOf e.pte 5))) h h.room.val
      rw [htlb, hdtlb, hitlb, hwalk, State.invalidateTlb, State.room_modRoom]
      exact Room.invalidate_spec ..
  case wfiWaits =>
    intro h s hrun hallowed hnone
    change execWfi _ _ = _
    simp only [execWfi, hartRun_canRun hrun, hallowed, hnone]
    rfl
  case wfiRetires =>
    intro h s hrun hallowed hsome
    change execWfi _ _ = _
    simp [execWfi, hartRun_canRun hrun, hallowed, hsome]
  case satp =>
    intro h value s hrun hallowed
    change execSatpWrite _ _ _ = _
    simp only [execSatpWrite, hartRun_canRun hrun, hallowed]
    rfl
  case gstatus =>
    intro h op imm rd src s hrun
    refine ⟨_, exec_gstatus hrun op imm rd src, ?_⟩
    rw [State.hart_issued, State.hart_modHart]
    exact Hart.gstatusAccess_spec ..
  case timer =>
    intro h s
    exact ⟨_, rfl, rfl, decide_eq_true (Nat.le_max_right ..)⟩
  case interrupt =>
    intro h s c hirq hwait
    change execInterruptTaken _ _ = _
    simp only [execInterruptTaken, hirq, State.beforeIrq, hwait]

end Sys2Proof.Machine


/-! Outstanding requests end by a response, by a class timeout, and by the end of a hold (O7). -/
namespace Sys2Proof.Machine

/-! ## Tags that retire (R342, R343) -/

theorem State.findReq_some {s : State} {r tag : Nat} {q : Req} (hfind : s.findReq r tag = some q) :
    q ∈ s.reqs ∧ q.room = r ∧ q.tag = tag := by
  have hkey := List.find?_some hfind
  simp only [Bool.and_eq_true, beq_iff_eq] at hkey
  exact ⟨List.mem_of_find?_eq_some hfind, hkey⟩

/-- R342: a tag that retires has the next generation, and no request is outstanding under it. -/
theorem State.retireTag_spec (s : State) (q : Req) (hold : Bool) :
    (s.retireTag q hold).tag q.room q.tag = ⟨(q.gen + 1) % 16, if hold then .held else .free⟩ ∧
      (s.retireTag q hold).findReq q.room q.tag = none := by
  refine ⟨s.tag_setTag .., ?_⟩
  simp only [State.retireTag, State.findReq, List.find?_eq_none, List.mem_filter]
  rintro x ⟨-, hx⟩ hsame
  rw [hsame] at hx
  cases hx

theorem Effect.findReq_eq {F : List Part} {s t : State} (he : Effect F s t) (hF : F.contains .reqs = false) (r tag : Nat) :
    t.findReq r tag = s.findReq r tag := by
  simp only [State.findReq, show t.reqs = s.reqs from he.1 .reqs hF]

/-- What follows the retirement of a tag leaves the tag and the requests as they are. -/
theorem Effect.retired {F : List Part} {s t : State} {q : Req} {hold : Bool} {r tag : Nat} (hfind : s.findReq r tag = some q)
    {u : State} (he : Effect F (u.retireTag q hold) t) (htags : F.contains .tags = false) (hreqs : F.contains .reqs = false) :
    t.tag r tag = ⟨(q.gen + 1) % 16, if hold then .held else .free⟩ ∧ t.findReq r tag = none := by
  obtain ⟨-, rfl, rfl⟩ := State.findReq_some hfind
  rw [he.tag_eq htags, he.findReq_eq hreqs]
  exact u.retireTag_spec q hold

/-- R108, R113: a request that times out may be performed late; its tag retires, held, and then its hart learns of it. -/
theorem State.timeout_cases (s : State) (q : Req) : ∃ u, Effect [.free, .mem, .poison, .regs, .harts, .rooms, .attics, .dws,
      .errRings, .wingLogs, .errInFlight, .ceWindows, .guards] s u ∧
    Effect [.regs, .harts, .rooms, .attics, .errRings, .wingLogs, .errInFlight, .ceWindows] (u.retireTag q true) (s.timeout q) := by
  refine ⟨(if Config.performedAfterTimeout s.free then s.performLate q else s).bump, (State.bump_effect _).next rfl ?_, ?_⟩
  · split
    · exact (State.performLate_effect ..).mono rfl
    · exact Effect.refl ..
  · simp only [State.timeout]
    generalize (State.bump _).retireTag q true = v
    split
    · exact (State.endFence_effect ..).next rfl ((State.endAcquire_effect ..).next rfl ((State.storeError_effect ..).mono rfl))
    · exact (State.remoteTrap_effect ..).mono rfl

/-- Settles O7: the tag retires with its request, and what the end does to its hart comes after. -/
theorem outstandingRequestsEnd : Obligations.OutstandingRequestsEnd := by
  refine ⟨fun island p s q hlt hout hgen hepoch hfind hfresh => ?response, fun r tag s q hfind => ?timeout,
    fun island tag s hheld => whenReady_of (by simp [hheld]) ..⟩
  case response =>
    have hexec : exec (.responseReceive island p) s =
        .next ((s.retireTag q q.reissued).endRequest q p.status.val p.data p.poison) := by
      change execResponseReceive _ _ _ = _
      simp only [execResponseReceive, show ¬ 768 ≤ island.val by omega, if_false, hfind]
      exact whenReady_of (by simp [hout, hgen, hepoch]) ..
    have hspec := (State.endRequest_effect (s.retireTag q q.reissued) q p.status.val p.data p.poison).retired hfind rfl rfl
    rw [hfresh] at hspec hexec
    exact ⟨_, hexec, hspec⟩
  case timeout =>
    obtain ⟨u, hlate, hend⟩ := (s.reach q.deadline).timeout_cases q
    have hexec : exec (.requestTimeout r tag) s = .next ((s.reach q.deadline).timeout q) := by
      change execRequestTimeout _ _ _ = _
      simp only [execRequestTimeout, hfind]
    refine ⟨_, hexec, ?_, hend.retired hfind rfl rfl⟩
    exact ((State.timeout_effect ..).now_eq rfl)

end Sys2Proof.Machine


/-! The view fence, the dumbwaiter's queue, signals and waits (O5). -/
namespace Sys2Proof.Machine

/-! ## The view fence (R111, R143) -/

/-- R111: what the end of a view fence does for one range of a view. -/
def State.fencePiece (r : Nat) (s : State) (p : Bool × Nat × Nat) : State :=
  (s.dropViewLines r p.1 p.2.1 p.2.2).forgetViews r p.1 p.2.1 p.2.2

theorem State.fencePiece_effect (r : Nat) (s : State) (p : Bool × Nat × Nat) : Effect [.rooms, .attics] s (s.fencePiece r p) :=
  (State.forgetViews_effect ..).next rfl ((State.dropViewLines_effect ..).mono rfl)

theorem State.mem_views_fencePiece {r : Nat} {s : State} {p : Bool × Nat × Nat} {u : ViewUse} :
    u ∈ ((State.fencePiece r s p).attic r).views ↔
      u ∈ (s.attic r).views ∧ (viewPieces p.1 p.2.1 p.2.2).any (fun v => u.overlaps v) = false := by
  rw [State.fencePiece, State.forgetViews, State.attic_modAttic, List.mem_filter, (State.dropViewLines_effect ..).attic_eq rfl,
    Bool.not_eq_true']

/-- R111: the ranges ended one after the other leave their hart, and no use of any of them. -/
theorem State.fencePieces_spec (r : Nat) (l : List (Bool × Nat × Nat)) (s : State) :
    Effect [.rooms, .attics] s (l.foldl (State.fencePiece r) s) ∧ ∀ u ∈ ((l.foldl (State.fencePiece r) s).attic r).views,
      u ∈ (s.attic r).views ∧ ∀ q ∈ l, (viewPieces q.1 q.2.1 q.2.2).any (fun v => u.overlaps v) = false := by
  induction l generalizing s with
  | nil => exact ⟨Effect.refl _ s, fun u hu => ⟨hu, fun _ hq => absurd hq List.not_mem_nil⟩⟩
  | cons p l ih =>
    obtain ⟨heffect, hviews⟩ := ih (State.fencePiece r s p)
    refine ⟨heffect.next rfl (s.fencePiece_effect r p), fun u hu => ?_⟩
    obtain ⟨hin, hrest⟩ := hviews u hu
    obtain ⟨hbefore, hpiece⟩ := State.mem_views_fencePiece.mp hin
    exact ⟨hbefore, fun q hq => (List.mem_cons.mp hq).elim (fun hhead => hhead ▸ hpiece) (hrest q)⟩

theorem execViewFenceComplete_done {s : State} {h : HartId} {pieces : List (Bool × Nat × Nat)} {work : FenceWork}
    (hwait : (s.hart h).wait = .vfence pieces work) (hdone : work.done (s.roomWork h.room.val) = true) :
    exec (.viewFenceComplete h) s = .next ((pieces.foldl (State.fencePiece h.room.val) s).modHart h (·.retire)) := by
  change execViewFenceComplete _ _ = _
  simp only [execViewFenceComplete, hwait]
  exact whenReady_of hdone ..

/-- R143: a range of the own attic, no longer than it, raises no trap. -/
theorem State.fenceTrap_none {s : State} {h : HartId} {va last : W64} {n o p : Nat} {b c : Bool} (hn : n ≤ atticSize)
    (hfirst : s.fenceByte h va = .ok (b, o)) (hlast : s.fenceByte h last = .ok (c, p)) : s.fenceTrap h va last n = none := by
  simp [State.fenceTrap, hfirst, hlast, show ¬ atticSize < n by omega]

/-! ## Signals (R147) -/

/-- R91: memory that an address of TYPE 2 leads to is a pantry. -/
theorem State.pantry_of_type {s : State} {pa r n m : Nat} (ht : paType pa = 2) {l : List Byte}
    (hd : s.memRead (s.placeFor r pa n) m = .data l) : ∃ q o, s.placeFor r pa n = .pantry q o := by
  have hplace : ∀ q b o, s.place pa n ≠ .attic q b o := by
    intro q b o
    simp only [State.place, ht]
    repeat' split
    all_goals exact Place.noConfusion
  obtain ⟨q, b, o, hp⟩ | ⟨q, o, hp⟩ | ⟨d, a, hp⟩ := Place.memory_of_read hd
  · simp only [State.placeFor, ht] at hp
    split at hp
    · split at hp <;> cases hp
    · exact absurd hp (hplace q b o)
  · exact ⟨q, o, hp⟩
  · exact absurd hp (s.placeFor_ne_host (Nat.le_of_eq ht) r n d a)

/-- R147: a signal that its home answers is performed there, and its instruction retires. -/
theorem szSignal_of_data {s : State} {h : HartId} {w : W32} {x : Xlate} {l : List Byte} {f3 : Nat}
    (hc : s.canRunWord h w custom2 1 = true) (hf3 : szF3 w = f3) (hrel : s.released h true = true)
    (halign : ((s.hart h).reg (szRs1 w)).toNat % 8 = 0)
    (hx : s.translate h.room.val ((s.hart h).authority h.hart.val) .both .store ((s.hart h).reg (szRs1 w)) = .ok x) (ht : x.type = 2)
    (hans : s.atomicAnswer (signalOp f3 ((s.hart h).reg (szRs2 w))) (s.placeFor h.room.val x.pa 8) = .data l)
    (hwidth : homeWidth (signalOp f3 ((s.hart h).reg (szRs2 w))) = 8) :
    szSignal f3 h w s =
      .next (((s.atomicDone h (signalOp f3 ((s.hart h).reg (szRs2 w))) x).modHart h (·.retire)).issued h) := by
  obtain ⟨old, hd⟩ := State.memRead_of_atomicAnswer hans
  obtain ⟨q, o, hp⟩ := State.pantry_of_type ht hd
  obtain ⟨R, hR, hfill⟩ := s.fillTlb_cases h.room.val x
  have hplace := State.placeFor_withRooms hR h.room.val x.pa 8
  have hanswer := State.atomicAnswer_withRooms hR (signalOp f3 ((s.hart h).reg (szRs2 w))) (.pantry q o)
  rw [hp] at hans hplace
  rw [hans, ← hfill] at hanswer
  rw [← hfill] at hplace
  rw [szSignal, szRun_canRunWord hc _ fun hm => by simp [hm, hf3]]
  simp only [halign, hx, ht, whenReleased, hrel, hp, State.signalNoTag, hans, State.homeOpen, State.signalAt, hwidth, hplace, hanswer,
    State.atomicDone]
  simp

theorem homeWidth_signalOp (f3 : Nat) (v : W64) : homeWidth (signalOp f3 v) = 8 := by
  unfold signalOp
  split <;> rfl

/-- Memory and its writer, after an atomic that is answered with data. -/
theorem State.atomicDone_spec {s : State} {h : HartId} {op : HomeAtomic} {x : Xlate} {l : List Byte} (hw : (s.hart h).wait = .none)
    (hans : s.atomicAnswer op (s.placeFor h.room.val x.pa (homeWidth op)) = .data l) :
    (s.atomicDone h op x).hart h = s.hart h ∧
      (s.atomicDone h op x).mem = (s.atomicPerform op (s.placeFor h.room.val x.pa (homeWidth op)) (some (hkey h))).mem := by
  obtain ⟨R, hR, hfill⟩ := s.fillTlb_cases h.room.val x
  have hhart : (s.fillTlb h.room.val x).hart h = s.hart h := (State.fillTlb_effect ..).hart_eq rfl h
  have hanswer := (State.atomicAnswer_withRooms hR op _).trans hans
  have hmem := State.atomicPerform_mem_withRooms hR hans (some (hkey h))
  rw [← hfill] at hanswer hmem
  refine ⟨?_, ((State.hartWrote_effect ..).mem_eq rfl).trans hmem⟩
  rw [State.atomicDone, (State.hartWrote_effect ..).hart_eq rfl, State.hart_atomicPerform_writer (by rw [hhart, hw]) hanswer, hhart]

/-! ## Waits (R148) -/

theorem State.testWatch_fillTlb (s : State) (r q : Nat) (x : Xlate) (k : Watch) : (s.fillTlb r x).testWatch q k = s.testWatch q k := by
  obtain ⟨R, hR, hfill⟩ := s.fillTlb_cases r x
  have hvalue (w : Watched) : (s.withRooms R).watchedValue q w = s.watchedValue q w := by
    cases w with
    | pantry o => simp only [State.watchedValue, State.bytesAt_withRooms]
    | _ => rfl
  have hpoison (w : Watched) : (s.withRooms R).watchedPoison q w = s.watchedPoison q w := by
    cases w <;> rfl
  simp only [hfill, State.testWatch, hvalue, hpoison]

/-- R148: a test that meets nothing leaves its watch as it is. -/
theorem State.testWatch_of_none {s : State} {r : Nat} {k : Watch} (hnone : (s.testWatch r k).hit = .none) : s.testWatch r k = k := by
  unfold State.testWatch at hnone ⊢
  split
  · rfl
  next h1 =>
    rw [if_neg h1] at hnone
    split
    next h2 =>
      rw [if_pos h2] at hnone
      cases hnone
    next h2 =>
      rw [if_neg h2] at hnone
      split
      next h3 =>
        rw [if_pos h3] at hnone
        cases hnone
      · rfl

section
variable {s : State} {h : HartId} {w : W32} {x : Xlate} {d : Watched} (hc : s.canRunWord h w custom2 2 = true)
  (halign : ((s.hart h).reg (szRs1 w)).toNat % 8 = 0)
  (hx : s.translate h.room.val ((s.hart h).authority h.hart.val) .read .load ((s.hart h).reg (szRs1 w)) = .ok x)
  (hword : watchedAt h.room.val (s.placeFor h.room.val x.pa 8) = some d)
include hc halign hx hword

/-- R148: a wait whose word has its value retires with it. -/
theorem execSzWait_met {v : W64} (hhit : (s.testWatch h.room.val ⟨d, condOf (szF3 w), (s.hart h).reg (szRs2 w), .none⟩).hit = .value v) :
    exec (.szWait h w) s = .next (((s.fillTlb h.room.val x).modHart h fun y => (y.setReg (szRd w) v).retire).issued h) := by
  change execSzWait _ _ _ = _
  simp only [execSzWait, szRun_canRunWord hc _ id, halign, hx, hword, State.testWatch_fillTlb, hhit]
  rfl

/-- R130, R148: a wait whose word has no value that meets its condition begins. -/
theorem execSzWait_begins (hhit : (s.testWatch h.room.val ⟨d, condOf (szF3 w), (s.hart h).reg (szRs2 w), .none⟩).hit = .none) :
    exec (.szWait h w) s = .next (((s.fillTlb h.room.val x).modHart h fun y => { y with
      wait := .watch (szRd w) ((s.hart h).reg (szRs1 w)) ⟨d, condOf (szF3 w), (s.hart h).reg (szRs2 w), .none⟩ (s.waitDeadline h) }).issued
        h) := by
  have hdeadline : (s.fillTlb h.room.val x).waitDeadline h = s.waitDeadline h := by
    simp only [State.waitDeadline, (State.fillTlb_effect ..).hart_eq rfl, (State.fillTlb_effect ..).now_eq rfl]
  change execSzWait _ _ _ = _
  simp only [execSzWait, szRun_canRunWord hc _ id, halign, hx, hword, State.testWatch_fillTlb,
    State.testWatch_of_none hhit, hdeadline]
  rfl

end

/-! ## The dumbwaiter's queue (R146) -/

/-- The program that a hart queues: its address, with the hart's authority. -/
def State.dwProgram (s : State) (h : HartId) (x : Xlate) : DwProgram :=
  { addr := x.pa, auth := (s.hart h).authority h.hart.val, guard := s.newGuard, tables := s.mem }

/-- R146: a program of the own device's memory enters an open queue, and its ticket is delivered. -/
theorem execSzDwq_queued {s : State} {h : HartId} {w : W32} {x : Xlate} (hc : s.canRunWord h w custom2 0 = true)
    (hchan : ((s.hart h).reg (szRs2 w)).toNat ≤ 7) (halign : ((s.hart h).reg (szRs1 w)).toNat % 16 = 0)
    (hx : s.translate h.room.val ((s.hart h).authority h.hart.val) .read .load ((s.hart h).reg (szRs1 w)) = .ok x)
    (hlocal : ∃ r o, s.placeFor h.room.val x.pa 16 = .pantry r o ∨ s.placeFor h.room.val x.pa 16 = .attic r false o)
    (hroom : (s.dw (h.room.val * 8 + ((s.hart h).reg (szRs2 w)).toNat)).queue.length < 4) :
    exec (.szDwq h w) s = .next ((((((s.fillTlb h.room.val x).result h (szRd w)
      ((s.regN .dwDoneCount (h.room.val * 8 + ((s.hart h).reg (szRs2 w)).toNat) +
        (s.dw (h.room.val * 8 + ((s.hart h).reg (szRs2 w)).toNat)).queue.length + 1) % 2 ^ 32)).setGuard (.work s.newGuard)
          h.room.val (s.programRanges x.pa))).modDw (h.room.val * 8 + ((s.hart h).reg (szRs2 w)).toNat) fun d =>
            { d with queue := d.queue ++ [s.dwProgram h x] }).issued h) := by
  have hwide : ¬ 7 < ((s.hart h).reg (szRs2 w)).toNat := by omega
  have hopen : ¬ 4 ≤ (s.dw (h.room.val * 8 + ((s.hart h).reg (szRs2 w)).toNat)).queue.length := by omega
  change execSzDwq _ _ _ = _
  simp only [execSzDwq, szRun_canRunWord hc _ id, halign, hx, hwide, hopen, State.dwProgram]
  obtain ⟨r, o, hp | hp⟩ := hlocal
  all_goals simp [hp]

/-- Settles O5: each instruction comes to the branch that its operands choose, and what the room keeps on the way changes neither
the value that a wait sees nor the bytes of a signal's home. -/
theorem viewFenceSignalAndWaitComplete : Obligations.ViewFenceSignalAndWaitComplete := by
  refine ⟨?empty, ?fence, ?fenceEnds, ?dwq, ?signal, ?met, ?begins, ?metLater, ?timeout⟩
  case empty =>
    intro h w s hc hzero hstores
    change execSzVfence _ _ _ = _
    simp [execSzVfence, szRun_canRunWord hc _ id, hzero, hstores]
  case fence =>
    intro h w s b c o p hc hpos hlen hfirst hlast
    have hn : ((s.hart h).reg (szRs2 w)).toNat ≠ 0 := fun hz => hpos (BitVec.eq_of_toNat_eq hz)
    change execSzVfence _ _ _ = _
    simp only [execSzVfence, szRun_canRunWord hc _ id, hn, if_false, State.fenceTrap_none hlen hfirst hlast]
  case fenceEnds =>
    intro h s pieces work hwait hdone
    obtain ⟨heffect, hviews⟩ := State.fencePieces_spec h.room.val pieces s
    refine ⟨_, execViewFenceComplete_done hwait hdone, ?_, fun q hq u hu => ?_⟩
    · rw [State.hart_modHart, heffect.hart_eq rfl]
    · obtain ⟨-, hnone⟩ := hviews u hu
      exact hnone q hq
  case dwq =>
    intro h w s x hc hchan halign hx hlocal hroom
    refine ⟨_, execSzDwq_queued hc hchan halign hx hlocal hroom, ?_, ?_⟩
    · rw [State.hart_issued, State.hart_modDw, (State.setGuard_effect ..).hart_eq rfl, State.result, State.hart_modHart,
        (State.fillTlb_effect ..).hart_eq rfl]
    · rw [(State.issued_effect ..).dw_eq rfl, State.dw_modDw, (State.setGuard_effect ..).dw_eq rfl, (State.result_effect ..).dw_eq rfl,
        (State.fillTlb_effect ..).dw_eq rfl]
      rfl
  case signal =>
    intro h w s x l c f3 hmem hc hf3 hrel halign hx ht hans
    have hwidth := homeWidth_signalOp f3 ((s.hart h).reg (szRs2 w))
    obtain ⟨hhart, hbytes⟩ := State.atomicDone_spec (s.wait_of_canRunWord hc) (by rw [hwidth]; exact hans)
    rw [hwidth] at hbytes
    suffices he : exec c s = szSignal f3 h w s by
      refine ⟨_, he.trans (szSignal_of_data hc hf3 hrel halign hx ht hans hwidth), ?_, hbytes⟩
      rw [State.hart_issued, State.hart_modHart, hhart]
    simp only [List.mem_cons, Prod.mk.injEq, List.not_mem_nil, or_false] at hmem
    obtain ⟨rfl, rfl⟩ | ⟨rfl, rfl⟩ | ⟨rfl, rfl⟩ := hmem
    all_goals rfl
  case met =>
    intro h w s x d v hc halign hx hword hhit
    refine ⟨_, execSzWait_met hc halign hx hword hhit, ?_⟩
    rw [State.hart_issued, State.hart_modHart, (State.fillTlb_effect ..).hart_eq rfl]
  case begins =>
    intro h w s x d hc halign hx hword hhit
    refine ⟨_, execSzWait_begins hc halign hx hword hhit, ?_⟩
    rw [State.hart_issued, State.hart_modHart, (State.fillTlb_effect ..).hart_eq rfl]
  case metLater =>
    intro h s rd va k d v hwait hhit
    change execSzWaitMet _ _ = _
    simp only [execSzWaitMet, hwait, hhit]
  case timeout =>
    intro h s rd va k d hwait hhit
    refine ⟨(s.reach d).modHart h fun x => (x.setReg rd (s.watchedValue h.room.val k.word)).retire, ?_, rfl, ?_⟩
    · change execSzWaitTimeout _ _ = _
      simp only [execSzWaitTimeout, hwait]
      exact whenReady_of (by rw [hhit]; rfl) ..
    · rw [State.hart_modHart]
      rfl

end Sys2Proof.Machine


/-! Barriers of a room, collectives and global barriers, and threads (O6). -/
namespace Sys2Proof.Machine

theorem State.room_issued_threads (s : State) (h : HartId) (r : Nat) :
    ((s.issued h).room r).barriers = (s.room r).barriers ∧ ((s.issued h).room r).children = (s.room r).children := by
  by_cases hr : r = h.room.val
  · subst hr
    rw [State.issued, State.room_modRoom]
    exact ⟨rfl, rfl⟩
  · rw [State.issued, State.room_modRoom_ne _ _ _ _ hr]
    exact ⟨rfl, rfl⟩

@[simp] theorem State.barriers_issued (s : State) (h : HartId) (r : Nat) : ((s.issued h).room r).barriers = (s.room r).barriers :=
  (s.room_issued_threads h r).1

@[simp] theorem State.children_issued (s : State) (h : HartId) (r : Nat) : ((s.issued h).room r).children = (s.room r).children :=
  (s.room_issued_threads h r).2

/-! ## Room barriers (R149) -/

/-- R149: a hart that is released retires its sz.rbar with 0. -/
def Hart.rbarReleased (x : Hart) : Hart := match x.wait with | .rbar rd _ _ => (x.setReg rd 0).retire | _ => x

theorem Hart.rbarReleased_of_wait {x : Hart} {rd id : Nat} {d : Option Nat} (hw : x.wait = .rbar rd id d) :
    x.rbarReleased = (x.setReg rd 0).retire := by
  simp only [Hart.rbarReleased, hw]

theorem Hart.rbarReleased_idem (x : Hart) : x.rbarReleased.rbarReleased = x.rbarReleased := by
  cases hw : x.wait with
  | rbar rd id d =>
    rw [Hart.rbarReleased_of_wait hw]
    rfl
  | _ => simp only [Hart.rbarReleased, hw]

theorem Hart.setReg_wait_retire (x : Hart) (w : HartWait) (rd : Nat) (v : W64) :
    (({ x with wait := w } : Hart).setReg rd v).retire = (x.setReg rd v).retire := by
  unfold Hart.setReg
  split <;> rfl

theorem State.hart_modHartAt_other {s : State} {h : HartId} {n : Nat} (hn : n ≠ h.hart.val) (f : Hart → Hart) :
    (s.modHartAt (h.room.val * 32 + n) f).hart h = s.hart h := by
  have hkey' : hkey h ≠ h.room.val * 32 + n := by unfold hkey; omega
  exact tgetD_tset_ne _ _ _ _ _ hkey'

/-- R149: the harts of a list are released, and no other. -/
theorem State.hart_releaseHarts (h : HartId) (l : List Nat) (s : State) : (s.releaseHarts h.room.val l).hart h =
    if h.hart.val ∈ l then (s.hart h).rbarReleased else s.hart h := by
  induction l generalizing s with
  | nil => rfl
  | cons n l ih =>
    have hstep : s.releaseHarts h.room.val (n :: l) =
        (s.modHartAt (h.room.val * 32 + n) Hart.rbarReleased).releaseHarts h.room.val l := rfl
    rw [hstep, ih]
    by_cases hn : n = h.hart.val
    · subst hn
      have hself : (s.modHartAt (h.room.val * 32 + h.hart.val) Hart.rbarReleased).hart h = (s.hart h).rbarReleased := tgetD_tset_same ..
      rw [hself, Hart.rbarReleased_idem, ite_self, if_pos (List.mem_cons_self ..)]
    · rw [State.hart_modHartAt_other hn]
      simp [Ne.symm hn]

/-- R149: an arrival that is withdrawn is in no barrier. -/
theorem State.not_mem_withdraw {s : State} {h : HartId} {id : Nat} {b : Barrier}
    (hb : tget id ((s.withdraw h id).room h.room.val).barriers = some b) : h.hart.val ∉ b.arrived := by
  rw [State.withdraw, State.room_modRoom] at hb
  dsimp only at hb
  split at hb
  · rw [tget_tdel_same] at hb
    cases hb
  · rw [tget_tset_same] at hb
    obtain rfl := Option.some.inj hb
    simp

section
variable {s : State} {h : HartId} {w : W32}

/-- The barrier that a hart's sz.rbar names, with the count that it gives. -/
def State.rbarOf (s : State) (h : HartId) (w : W32) : Barrier :=
  (tget ((s.hart h).reg (szRs1 w)).toNat (s.room h.room.val).barriers).getD ⟨((s.hart h).reg (szRs2 w)).toNat, []⟩

variable (hc : s.canRunWord h w custom2 3 = true) (hrel : s.released h true = true)
  (hid : ((s.hart h).reg (szRs1 w)).toNat ≤ 3)
  (hn : 1 ≤ ((s.hart h).reg (szRs2 w)).toNat ∧ ((s.hart h).reg (szRs2 w)).toNat ≤ 32)
  (hcount : (s.rbarOf h w).count = ((s.hart h).reg (szRs2 w)).toNat)
include hc hrel hid hn hcount

/-- R149: an arrival at a barrier of its count waits, or releases them all. -/
theorem execSzRbar_arrives : exec (.szRbar h w) s = .next (State.issued (
    if (s.rbarOf h w).arrived.length + 1 = ((s.hart h).reg (szRs2 w)).toNat then
      ((s.modHart h fun x => { x with wait := .rbar (szRd w) ((s.hart h).reg (szRs1 w)).toNat (s.waitDeadline h) }).releaseHarts
        h.room.val ((s.rbarOf h w).arrived ++ [h.hart.val])).modRoom h.room.val fun y =>
          { y with barriers := tdel ((s.hart h).reg (szRs1 w)).toNat y.barriers }
    else (s.modHart h fun x => { x with wait := .rbar (szRd w) ((s.hart h).reg (szRs1 w)).toNat (s.waitDeadline h) }).modRoom h.room.val
      fun y => { y with
        barriers := tset ((s.hart h).reg (szRs1 w)).toNat
          ⟨((s.hart h).reg (szRs2 w)).toNat, (s.rbarOf h w).arrived ++ [h.hart.val]⟩ y.barriers }) h) := by
  have hbad : ¬ (3 < ((s.hart h).reg (szRs1 w)).toNat ∨ ((s.hart h).reg (szRs2 w)).toNat = 0 ∨
    32 < ((s.hart h).reg (szRs2 w)).toNat) := by omega
  unfold State.rbarOf at hcount ⊢
  change execSzRbar _ _ _ = _
  simp only [execSzRbar, szRun_canRunWord hc _ id, hbad, hcount, whenReleased, hrel, List.length_append, List.length_singleton]
  simp

end

/-! ## What a contribution leaves of the hart that makes it (R153, R154, R361) -/

/-- R361: what the end of a collective does to the hart whose sz.gbar it ends. -/
def Hart.gbarEnds (id v : Nat) (x : Hart) : Hart :=
  match x.gbar with
  | some g =>
    if g.collId ≠ id then x
    else (match x.wait with
      | .gbar rd _ => ({ x.setReg rd (BitVec.ofNat 64 v) with gbar := none }).retire
      | _ => { x with gbar := some { g with result := some v } })
  | none => x

/-- R361: the record and the SET of a collective that ends at a member, and its free entry. -/
def State.collSet (s : State) (r : Nat) (e : CollEntry) (status arith failed : Nat) : State :=
  let l := e.words
  let w0 := fld (wordN l 0) 63 56 * 2 ^ 56 + status * 2 ^ 48 + arith * 2 ^ 40 + collOp l * 2 ^ 36 + failed * 2 ^ 12
  let t := s.writePantry r (collCompOff l) (toBytes 8 w0 ++ toBytes 8 s.now)
  if bitOf (wordN l 7) 57 then t.signalSet r (collSigOff l) (fld (wordN l 7) 63 58) else t

theorem State.collRecord_eq (s : State) (r : Nat) (e : CollEntry) (status arith failed : Nat) :
    s.collRecord r e status arith failed =
      let t := s.collSet r e status arith failed
      let u := t.setColl r ((t.coll r).filter fun x => x.slot != e.slot)
      if !e.gbar then u else u.modHartAt (r * 32 + e.hart) (Hart.gbarEnds (collId e.words).toNat (gbarResult status)) := rfl

/-- A property of a hart that watches no word, which neither a write to its room's pantry nor the end of a collective takes away. -/
structure Hart.Lasting (P : Hart → Prop) : Prop where
  unreserved : ∀ {x}, P x → P { x with resv := none }
  unwatched : ∀ {x}, P x → ∀ rd va k d, x.wait ≠ .watch rd va k d
  ended : ∀ {x} id v, P x → P (x.gbarEnds id v)

theorem State.hart_testWatches_of_unwatched {s : State} {h : HartId} (hw : ∀ rd va k d, (s.hart h).wait ≠ .watch rd va k d) (r : Nat) :
    (s.testWatches r).hart h = s.hart h := by
  simp only [State.hart, State.hartAt, State.testWatches, tgetD] at hw ⊢
  rw [tget_map_of_keys]
  · cases hx : tget (hkey h) s.harts with
    | none => rfl
    | some x =>
      rw [hx] at hw
      simp only [Option.map_some, Option.getD_some] at hw ⊢
      split
      · cases hcase : x.wait with
        | watch rd va k d => exact absurd hcase (hw rd va k d)
        | _ => rfl
      · rfl
  · intro p
    split
    · split <;> rfl
    · rfl

theorem State.hart_dropReservations (s : State) (r : Nat) (w : Option Nat) (keys : List Nat) (h : HartId) :
    (s.dropReservations r w keys).hart h = s.hart h ∨ (s.dropReservations r w keys).hart h = { s.hart h with resv := none } := by
  simp only [State.hart, State.hartAt, State.dropReservations, tgetD]
  rw [tget_map_of_keys]
  · cases tget (hkey h) s.harts with
    | none => exact .inl rfl
    | some x =>
      simp only [Option.map_some, Option.getD_some]
      split
      · split
        · exact .inr rfl
        · exact .inl rfl
      · exact .inl rfl
  · intro p
    split
    · split <;> rfl
    · rfl

/-- An operation that leaves the harts alone takes nothing from them. -/
theorem Effect.hart_keeps {F : List Part} {s t : State} (he : Effect F s t) (hF : F.contains .harts = false) {P : Hart → Prop} {h : HartId}
    (hs : P (s.hart h)) : P (t.hart h) := by
  rw [he.hart_eq hF]
  exact hs

section
variable {P : Hart → Prop} (hP : Hart.Lasting P) {h : HartId}
include hP

theorem Hart.Lasting.writePantry {s : State} (hs : P (s.hart h)) (r o : Nat) (l : List Byte) (w : Option Nat) :
    P ((s.writePantry r o l w).hart h) := by
  have hput : (s.putWords (pantryKey r o) l).hart h = s.hart h := (State.putWords_effect ..).hart_eq rfl h
  have hdrop : P (((s.putWords (pantryKey r o) l).dropReservations r w (wordsOf (pantryKey r o) l.length)).hart h) := by
    obtain he | he := State.hart_dropReservations (s.putWords (pantryKey r o) l) r w (wordsOf (pantryKey r o) l.length) h
    · rw [he, hput]
      exact hs
    · rw [he, hput]
      exact hP.unreserved hs
  rw [State.writePantry, State.hart_testWatches_of_unwatched (hP.unwatched hdrop)]
  exact hdrop

theorem Hart.Lasting.memWrite {s : State} (hs : P (s.hart h)) (r o : Nat) (l : List Byte) (w : Option Nat) :
    P ((s.memWrite (.pantry r o) l w).hart h) := by
  have hwrite := hP.writePantry hs r o l w
  simp only [State.memWrite, State.hart_bump]
  split
  · rw [(State.postRoom_effect ..).hart_eq rfl]
    exact hwrite
  · exact hwrite

theorem Hart.Lasting.signalSet {s : State} (hs : P (s.hart h)) (r o bit : Nat) : P ((s.signalSet r o bit).hart h) := by
  unfold State.signalSet State.atomicPerform
  split
  · rw [(State.guardLease_effect ..).hart_eq rfl]
    exact hP.memWrite hs ..
  · rw [(State.afterRead_effect ..).hart_eq rfl]
    exact hs

/-- R361: the end of a collective of a member, at its room. -/
theorem Hart.Lasting.collRecord {s : State} (hs : P (s.hart h)) (r : Nat) (e : CollEntry) (status arith failed : Nat) :
    P ((s.collRecord r e status arith failed).hart h) := by
  have hset : P ((State.collSet s r e status arith failed).hart h) := by
    simp only [State.collSet]
    split
    · exact hP.signalSet (hP.writePantry hs ..) ..
    · exact hP.writePantry hs ..
  simp only [State.collRecord_eq]
  split
  · exact hset
  · by_cases hk : r * 32 + e.hart = hkey h
    · rw [hk]
      exact (State.hart_modHart ..).symm ▸ hP.ended _ _ hset
    · rw [State.hart, State.hartAt_modHartAt_ne _ _ _ _ (Ne.symm hk)]
      exact hset

/-- R358, R361: a collective that ends here, at every member that has contributed. -/
theorem Hart.Lasting.endHere {s : State} (hs : P (s.hart h)) (i : CollInst) (status failed : Nat) :
    P ((s.endHere i status failed).hart h) := by
  have hspoil (l : List (Nat × CollEntry)) (t : State) (ht : P (t.hart h)) :
      P ((l.foldl (fun t p => t.collSpoil i p.1 p.2) t).hart h) := by
    induction l generalizing t with
    | nil => exact ht
    | cons p l ih => exact ih _ ((State.collSpoil_effect ..).hart_keeps rfl ht)
  have hrecord (l : List (Nat × CollEntry)) (t : State) (ht : P (t.hart h)) :
      P ((l.foldl (fun t p => t.collRecord p.1 p.2 status 0 failed) t).hart h) := by
    induction l generalizing t with
    | nil => exact ht
    | cons p l ih => exact ih _ (hP.collRecord ht ..)
  unfold State.endHere
  refine hrecord _ _ ?_
  split
  · exact hspoil _ _ hs
  · exact hs

theorem Hart.Lasting.endInst {s : State} (hs : P (s.hart h)) (i : CollInst) (status failed : Nat) :
    P ((s.endInst i status failed).hart h) := by
  have hsend (l : List Nat) (t : State) (ht : P (t.hart h)) :
      P ((l.foldl (fun t d => t.send (.collEnd d i.id i.m0 status failed)) t).hart h) := by
    induction l generalizing t with
    | nil => exact ht
    | cons d l ih => exact ih _ ((State.send_effect ..).hart_keeps rfl ht)
  exact hsend _ _ (hP.endHere hs i status failed)

theorem Hart.Lasting.contributeTo {s : State} (hs : P (s.hart h)) (r : Nat) (e : CollEntry) (i : CollInst) (g : CollSig) (fresh : Bool) :
    P ((s.contributeTo r e i g fresh).hart h) := by
  unfold State.contributeTo
  dsimp only
  repeat' split
  · exact hP.endInst hs ..
  · exact hP.endInst hs ..
  · exact hP.endInst hs ..
  · exact hP.endInst hs ..
  · refine (State.launch_effect ..).hart_keeps rfl ((State.bump_effect _).hart_keeps rfl ((State.setInst_effect ..).hart_keeps rfl
      ((State.collGuard_effect ..).hart_keeps rfl ((State.mixInsts_effect ..).hart_keeps rfl hs))))

/-- R153: a member contributes; its hart keeps what lasts. -/
theorem Hart.Lasting.contribute {s : State} (hs : P (s.hart h)) (r : Nat) (e : CollEntry) : P ((s.contribute r e).hart h) := by
  have hnote : P ((s.collNote r e).hart h) := (State.collNote_effect ..).hart_keeps rfl hs
  unfold State.contribute
  dsimp only
  split
  · exact hP.collRecord hnote ..
  · split
    · exact hP.collRecord ((State.setColl_effect ..).hart_keeps rfl hnote) ..
    · split
      · split <;> exact hnote
      · refine hP.contributeTo ?_ _ _ _ _ _
        split <;> exact hnote

end

/-! ## Collectives and global barriers (R153, R154) -/

/-- A hart that waits for nothing, at its next instruction, with 0 in a register. -/
def Hart.collStarted (pc : W64) (rd : Nat) (x : Hart) : Prop := x.wait = .none ∧ x.pc = pc ∧ x.reg rd = 0

theorem Hart.collStarted_lasting (pc : W64) (rd : Nat) : Hart.Lasting (Hart.collStarted pc rd) where
  unreserved := fun hx => hx
  unwatched := by
    rintro x ⟨hwait, -⟩ rd va k d
    rw [hwait]
    exact HartWait.noConfusion
  ended := by
    rintro x id v ⟨hwait, hpc, hreg⟩
    unfold Hart.gbarEnds
    split
    · split
      · exact ⟨hwait, hpc, hreg⟩
      · rw [hwait]
        exact ⟨rfl, hpc, hreg⟩
    · exact ⟨hwait, hpc, hreg⟩

/-- R154: a hart that waits in sz.gbar for its barrier, or that the barrier has released. -/
def Hart.gbarStarted (pc : W64) (wait : HartWait) (id : Nat) (x : Hart) : Prop :=
  (x.gbar = some ⟨id, none⟩ ∧ x.wait = wait ∧ x.pc = pc) ∨ (x.gbar = none ∧ x.wait = .none ∧ x.pc = pc + 4)

theorem Hart.gbarStarted_lasting (pc : W64) (rd id : Nat) (d : Option Nat) : Hart.Lasting (Hart.gbarStarted pc (.gbar rd d) id) where
  unreserved := fun hx => hx
  unwatched := by
    rintro x (⟨-, hwait, -⟩ | ⟨-, hwait, -⟩) <;>
    · intros
      rw [hwait]
      exact HartWait.noConfusion
  ended := by
    rintro x n v (⟨hgbar, hwait, hpc⟩ | ⟨hgbar, hwait, hpc⟩)
    · simp only [Hart.gbarEnds, hgbar, hwait]
      split
      · exact .inl ⟨hgbar, hwait, hpc⟩
      · exact .inr ⟨rfl, rfl, congrArg (· + 4) ((x.setReg_pc ..).trans hpc)⟩
    · simp only [Hart.gbarEnds, hgbar]
      exact .inr ⟨hgbar, hwait, hpc⟩

section
variable {s u : State} {h : HartId} {w : W32} {words : List W64}

/-- A descriptor that is read leaves its hart, the room's slots, the requests and the time as they are. -/
theorem State.readDescriptor_keeps {va : W64} {n : Nat} (hread : s.readDescriptor h va n = .words words u) :
    u.hart h = s.hart h ∧ (∀ r, u.freeSlot r = s.freeSlot r) ∧ (∀ b, u.released h b = s.released h b) ∧ u.waitDeadline h = s.waitDeadline h := by
  have he := State.readDescriptor_effect _ _ _ _ _ _ hread
  have hhart := he.hart_eq rfl h
  refine ⟨hhart, fun r => ?_, fun b => ?_, ?_⟩
  · simp only [State.freeSlot, State.coll, show u.colls = s.colls from he.1 .colls rfl]
  · simp only [State.released, State.hasStores, show u.reqs = s.reqs from he.1 .reqs rfl]
  · simp only [State.waitDeadline, hhart, he.now_eq rfl]

/-- R153: a collective that a free slot takes, and whose reads are answered, makes its contribution. -/
theorem execSzColl_accepted {n : Nat} (hc : s.canRunWord h w custom3 0 = true) (hrel : s.released h true = true)
    (hread : s.readDescriptor h ((s.hart h).reg (szRs1 w)) 64 = .words words u) (hgood : collBad words (s.hart h).priv = false)
    (hslot : s.freeSlot h.room.val = some n) (hopen : u.collOpen h.room.val (u.collEntry h n words false) = true) :
    exec (.szColl h w) s = .next ((((u.result h (szRd w) 0).setColl h.room.val
      (u.coll h.room.val ++ [u.collEntry h n words false])).contribute h.room.val (u.collEntry h n words false)).issued h) := by
  obtain ⟨-, hslots, hreleased, -⟩ := State.readDescriptor_keeps hread
  rw [show exec (.szColl h w) s = execSzColl h w s from rfl, execSzColl, szRun_canRunWord hc _ fun hm => by rw [hm]; rfl]
  simp only [State.withDescriptor, hread, hgood, hslots, hslot, whenReleased, hreleased, hrel, State.collAccept, hopen]
  rfl

/-- R154: the arrival of a hart at a global barrier. -/
theorem execSzGbar_arrives {n : Nat} (hc : s.canRunWord h w custom3 1 = true) (hrel : s.released h true = true)
    (hread : s.readDescriptor h ((s.hart h).reg (szRs1 w)) 64 = .words words u) (hgood : collBad words (s.hart h).priv = false)
    (hop : collOp words = 6) (hnone : (s.hart h).gbar = none)
    (hslot : s.freeSlot h.room.val = some n) (hopen : u.collOpen h.room.val (u.collEntry h n words true) = true) :
    exec (.szGbar h w) s = .next (((((u.modHart h fun x => { x with wait := .gbar (szRd w) (s.waitDeadline h) }).modHart h
      fun x => { x with gbar := some ⟨(collId words).toNat, none⟩ }).setColl h.room.val
        (u.coll h.room.val ++ [u.collEntry h n words true])).contribute h.room.val (u.collEntry h n words true)).issued h) := by
  obtain ⟨-, hslots, hreleased, hdeadline⟩ := State.readDescriptor_keeps hread
  change execSzGbar _ _ _ = _
  simp only [execSzGbar, szRun_canRunWord hc _ id, State.withDescriptor, hread, hgood, hop, hnone, hslots, hslot, whenReleased,
    hreleased, hrel, State.collAccept, hopen, hdeadline]
  rfl

/-- R154: a barrier that has left its result. -/
theorem execSzGbar_result {g : GbarPending} {v : Nat} (hc : s.canRunWord h w custom3 1 = true)
    (hread : s.readDescriptor h ((s.hart h).reg (szRs1 w)) 64 = .words words u) (hgood : collBad words (s.hart h).priv = false)
    (hop : collOp words = 6) (hgbar : (s.hart h).gbar = some g) (hid : g.collId = (collId words).toNat) (hres : g.result = some v) :
    exec (.szGbar h w) s = .next (((u.result h (szRd w) v).modHart h fun x => { x with gbar := none }).issued h) := by
  change execSzGbar _ _ _ = _
  simp only [execSzGbar, szRun_canRunWord hc _ id, State.withDescriptor, hread, hgood, hop, hgbar, hid, hres]
  simp

end

/-! ## Threads (R89, R90, R155–R157) -/

section
variable {s : State} {h : HartId} {w : W32}

theorem State.freeTag_congr {s t : State} (ht : t.tags = s.tags) (island fuel tag : Nat) :
    t.freeTag island fuel tag = s.freeTag island fuel tag := by
  induction fuel generalizing tag with
  | zero => rfl
  | succ fuel ih =>
    have htag : t.tag island tag = s.tag island tag := by simp only [State.tag, ht]
    rw [State.freeTag, State.freeTag, htag, ih]

theorem toNat_ofNat_thread {n : Nat} (hn : n < 2 ^ 29) : (BitVec.ofNat 32 n).toNat = n := by
  rw [BitVec.toNat_ofNat]
  omega

/-- R342: a request that leaves is among the outstanding ones. -/
theorem State.mem_reqs_issue (s : State) (h : HartId) (tag cls pa : Nat) (va : W64) (k : ReqKind) :
    ∃ q ∈ (s.issue h tag cls pa va k).reqs, q.room = h.room.val ∧ q.tag = tag ∧ q.hart = h.hart.val ∧ q.cls = cls ∧ q.kind = k :=
  ⟨_, List.mem_append_right _ (List.mem_singleton_self _), rfl, rfl, rfl, rfl, rfl⟩

/-- R155: the start of a thread leaves as a request of TC4. -/
theorem execSzSpawn_sent {x : Xlate} {b : List PByte} {g : Nat} (hc : s.canRunWord h w custom3 2 = true) (hrel : s.released h true = true)
    (hid : ((s.hart h).reg (szRs1 w)).toNat < 2 ^ 29) (hwing : ((s.hart h).reg (szRs1 w)).toNat / 2 ^ 10 % 32 ≤ 23)
    (hdev : s.absentDevs.contains (((s.hart h).reg (szRs1 w)).toNat / 2 ^ 15 % 2 ^ 14) = false)
    (halign : ((s.hart h).reg (szRs2 w)).toNat % 8 = 0)
    (hx : s.translate h.room.val ((s.hart h).authority h.hart.val) .read .load ((s.hart h).reg (szRs2 w)) = .ok x)
    (hread : s.unitRead h.room.val ((s.hart h).authority h.hart.val) ((s.hart h).reg (szRs2 w)).toNat 32 = .ok b)
    (hclean : b.any (·.2) = false) (hchildren : (s.room h.room.val).children.length < 256)
    (htag : s.freeTag h.room.val 4096 0 = some g) :
    exec (.szSpawn h w) s = .next ((((s.bump).issue h g 4 ((s.hart h).reg (szRs1 w)).toNat ((s.hart h).reg (szRs2 w))
      (.spawn (szRd w) (s.spawnMsg h (BitVec.ofNat 32 ((s.hart h).reg (szRs1 w)).toNat) (b.map (·.1))))).modHart h
        fun x => { x with wait := .result g }).issued h) := by
  have hthread : badThread ((s.hart h).reg (szRs1 w)).toNat = false := by
    simp only [badThread, decide_eq_false_iff_not]
    omega
  have htarget (l : List Byte) : (s.spawnMsg h (BitVec.ofNat 32 ((s.hart h).reg (szRs1 w)).toNat) l).target.toNat =
      ((s.hart h).reg (szRs1 w)).toNat := toNat_ofNat_thread hid
  have hfew : ¬ 256 ≤ (s.room h.room.val).children.length := by omega
  have htag' : s.bump.freeTag h.room.val 4096 0 = some g := by
    rw [State.freeTag_congr (s := s) (t := s.bump) rfl, htag]
  have hdev' : s.bump.absentDevs.contains (((s.hart h).reg (szRs1 w)).toNat / 2 ^ 15 % 2 ^ 14) = false := hdev
  change execSzSpawn _ _ _ = _
  simp only [execSzSpawn, szRun_canRunWord hc _ id, hthread, halign, hx, whenReleased, hrel, hread, hclean, hfew, State.sendSpawn,
    htarget, hdev', htag']
  rfl

/-- R156: the join of a child that has ended. -/
theorem execSzJoin_ended {c : Child} {v : W64} (hc : s.canRunWord h w custom3 3 = true)
    (hthread : badThread ((s.hart h).reg (szRs1 w)).toNat = false)
    (hchild : (s.room h.room.val).children.find? (fun c => c.parent == h.hart.val && c.thread == ((s.hart h).reg (szRs1 w)).setWidth 32) =
      some c) (hstate : c.state = .exited v) :
    exec (.szJoin h w) s = .next ((s.joined h (szRd w) (((s.hart h).reg (szRs1 w)).setWidth 32) 0 v).issued h) := by
  change execSzJoin _ _ _ = _
  simp only [execSzJoin, szRun_canRunWord hc _ id, hthread, hchild, hstate]
  rfl

theorem execSzExit_released (hc : s.canRunWord h w custom3 4 = true) (hrel : s.released h true = true) :
    exec (.szExit h w) s = .next ((s.exitThread h ((s.hart h).reg (szRs1 w))).issued h) := by
  change execSzExit _ _ _ = _
  simp only [execSzExit, szRun_canRunWord hc _ id, whenReleased, hrel]
  rfl

/-- R157: the value of a thread is on its way to a spawner of this device. -/
theorem State.mem_exitMsgs_exitThread {v : W64} {p : W32} (hspawner : (s.hart h).spawner = some p)
    (hdev : fld p.toNat 28 15 = s.devId.toNat) : ⟨s.callerId h, p, 0, v⟩ ∈ (s.exitThread h v).exitMsgs := by
  have hown : (s.arrayRelease h.room.val h.hart.val).devId = s.devId := (State.arrayRelease_effect ..).1 .devId rfl
  have htold (u : State) (hu : u.devId = s.devId) (m : ExitMsg) (hm : m.parent = p) : m ∈ (u.tellExit m).exitMsgs := by
    rw [State.tellExit, hm, hu, if_pos hdev]
    exact List.mem_append_right _ (List.mem_singleton_self m)
  simp only [State.exitThread, hspawner]
  rw [(State.modHart_effect ..).1 .exitMsgs rfl]
  split
  · rw [(State.jobEnd_effect ..).1 .exitMsgs rfl]
    refine htold _ ?_ ⟨s.callerId h, p, 0, v⟩ rfl
    exact hown
  · refine htold _ ?_ ⟨s.callerId h, p, 0, v⟩ rfl
    exact hown

end

/-- Settles O6: each instruction comes to the branch that its operands choose; what a contribution goes on to do keeps what it has
left of its own hart, or ends the wait of its sz.gbar. -/
theorem barriersAndThreadsComplete : Obligations.BarriersAndThreadsComplete := by
  refine ⟨?waits, ?last, ?rbarTimeout, ?coll, ?gbarResult, ?gbar, ?gbarTimeout, ?spawn, ?join, ?exit⟩
  case waits =>
    intro h w s hc hrel hid hn hcount hmore
    refine ⟨_, execSzRbar_arrives hc hrel hid hn hcount, ?_⟩
    have hwaits : ¬ (s.rbarOf h w).arrived.length + 1 = ((s.hart h).reg (szRs2 w)).toNat := hmore
    rw [if_neg hwaits, State.hart_issued, State.hart_modRoom, State.hart_modHart]
    refine ⟨rfl, ?_⟩
    rw [State.barriers_issued, State.room_modRoom]
    exact tget_tset_same ..
  case last =>
    intro h w s hc hrel hid hn hcount hlast
    refine ⟨_, execSzRbar_arrives hc hrel hid hn hcount, ?_⟩
    have hall : (s.rbarOf h w).arrived.length + 1 = ((s.hart h).reg (szRs2 w)).toNat := hlast
    rw [if_pos hall, State.hart_issued, State.hart_modRoom, State.hart_releaseHarts, if_pos (by simp), State.hart_modHart,
      Hart.rbarReleased_of_wait rfl, Hart.setReg_wait_retire]
    refine ⟨rfl, ?_⟩
    rw [State.barriers_issued, State.room_modRoom, (State.releaseHarts_effect ..).room_eq rfl]
    rfl
  case rbarTimeout =>
    intro h s rd id d hwait
    refine ⟨((s.reach d).withdraw h id).modHart h fun x => (x.setReg rd 1).retire, ?_, ?_, ?_, ?_⟩
    · change execSzRbarTimeout _ _ = _
      simp only [execSzRbarTimeout, hwait]
    · exact (State.withdraw_effect (s.reach d) h id).now_eq rfl
    · rw [State.hart_modHart, (State.withdraw_effect ..).hart_eq rfl]
      rfl
    · intro b hb
      exact State.not_mem_withdraw hb
  case coll =>
    intro h w s u words n hc hrel hread hgood hslot hopen
    obtain ⟨hhart, -⟩ := State.readDescriptor_keeps hread
    refine ⟨_, execSzColl_accepted hc hrel hread hgood hslot hopen, ?_⟩
    have hstart : ((u.result h (szRd w) 0).hart h).collStarted ((s.hart h).pc + 4) (szRd w) := by
      rw [State.result, State.hart_modHart, hhart]
      exact ⟨rfl, congrArg (· + 4) (Hart.setReg_pc ..), ((s.hart h).reg_setReg_same (szRd w) 0).trans (ite_self 0)⟩
    obtain ⟨hwait, hpc, hreg⟩ := (Hart.collStarted_lasting ((s.hart h).pc + 4) (szRd w)).contribute
      ((State.setColl_effect ..).hart_keeps rfl hstart) h.room.val (u.collEntry h n words false)
    exact ⟨hreg, hpc, hwait⟩
  case gbarResult =>
    intro h w s u words g v hc hread hgood hop hgbar hid hres
    obtain ⟨hhart, -⟩ := State.readDescriptor_keeps hread
    refine ⟨_, execSzGbar_result hc hread hgood hop hgbar hid hres, ?_⟩
    rw [State.hart_issued, State.hart_modHart, State.result, State.hart_modHart, hhart]
  case gbar =>
    intro h w s u words n hc hrel hread hgood hop hnone hslot hopen
    obtain ⟨hhart, -⟩ := State.readDescriptor_keeps hread
    refine ⟨_, execSzGbar_arrives hc hrel hread hgood hop hnone hslot hopen, ?_⟩
    have hstart : (((u.modHart h fun x => { x with wait := .gbar (szRd w) (s.waitDeadline h) }).modHart h
        fun x => { x with gbar := some ⟨(collId words).toNat, none⟩ }).hart h).gbarStarted (s.hart h).pc
          (.gbar (szRd w) (s.waitDeadline h)) (collId words).toNat := by
      rw [State.hart_modHart, State.hart_modHart, hhart]
      exact .inl ⟨rfl, rfl, rfl⟩
    obtain ⟨hgbar, hwait, -⟩ | ⟨hgbar, -, hpc⟩ := (Hart.gbarStarted_lasting (s.hart h).pc (szRd w) (collId words).toNat
      (s.waitDeadline h)).contribute ((State.setColl_effect ..).hart_keeps rfl hstart) h.room.val (u.collEntry h n words true)
    · exact .inl ⟨hgbar, hwait⟩
    · exact .inr ⟨hgbar, hpc⟩
  case gbarTimeout =>
    intro h s rd d hwait
    refine ⟨(s.reach d).modHart h fun x => ({ x.setReg rd 1 with gbar := none }).retire, ?_, rfl, ?_⟩
    · change execSzGbarTimeout _ _ = _
      simp only [execSzGbarTimeout, hwait]
    · rw [State.hart_modHart]
      rfl
  case spawn =>
    intro h w s x b g hc hrel hid hwing hdev halign hx hread hclean hchildren htag
    refine ⟨_, execSzSpawn_sent hc hrel hid hwing hdev halign hx hread hclean hchildren htag, ?_, ?_⟩
    · rw [State.hart_issued, State.hart_modHart, (State.issue_effect ..).hart_eq rfl]
      rfl
    · exact State.mem_reqs_issue ..
  case join =>
    intro h w s c v hc hthread hchild hstate
    refine ⟨_, execSzJoin_ended hc hthread hchild hstate, ?_, ?_⟩
    · rw [State.hart_issued, State.joined, State.hart_modRoom, State.hart_modHart]
      rfl
    · intro d hd hparent hsame
      rw [State.children_issued, State.joined, State.room_modRoom] at hd
      simp [hparent, hsame] at hd
  case exit =>
    intro h w s hc hrel
    refine ⟨_, execSzExit_released hc hrel, ?_, ?_, fun p hp hdev => ?_⟩
    · rw [State.hart_issued, State.exitThread, State.hart_modHart]
    · rw [State.hart_issued, State.exitThread, State.hart_modHart]
    · exact State.mem_exitMsgs_exitThread hp hdev

end Sys2Proof.Machine


/-! Spawns, exit notices, and notices of rooms and devices (O16). -/
namespace Sys2Proof.Machine

/-! ## What is sent stays sent (R311) -/

/-- What s has sent, t has sent too. -/
def State.SentIn (s t : State) : Prop := ∀ m ∈ s.sent, m ∈ t.sent

theorem State.SentIn.trans {s t u : State} (h : s.SentIn t) (k : t.SentIn u) : s.SentIn u := fun m hm => k m (h m hm)

theorem Effect.sentIn {F : List Part} {s t : State} (he : Effect F s t) (hF : F.contains .sent = false) : s.SentIn t := fun m hm => by
  rwa [he.sent_eq hF]

theorem State.sentIn_send (s : State) (m : Sent) : s.SentIn (s.send m) := fun _ hm => List.mem_append_left _ hm

theorem State.SentIn.foldl {α : Type} {f : State → α → State} (hf : ∀ t a, State.SentIn t (f t a)) (l : List α) (s : State) :
    s.SentIn (l.foldl f s) := by
  induction l generalizing s with
  | nil => exact fun _ hm => hm
  | cons a l ih => exact (hf s a).trans (ih _)

theorem State.sentIn_event (s : State) (kind d0 d1 : Nat) : s.SentIn (s.event kind d0 d1) := by
  have hdoors : s.SentIn ((s.doorEvent 0 ⟨kind, d0, d1⟩).doorEvent 1 ⟨kind, d0, d1⟩) :=
    ((State.doorEvent_effect ..).sentIn rfl).trans ((State.doorEvent_effect ..).sentIn rfl)
  refine hdoors.trans ?_
  rw [State.event, State.mirror]
  split
  · exact fun _ hm => List.mem_append_left _ hm
  · exact fun _ hm => hm

theorem State.sentIn_endInst (s : State) (i : CollInst) (status failed : Nat) : s.SentIn (s.endInst i status failed) :=
  ((State.endHere_effect ..).sentIn rfl).trans (.foldl (fun t _ => t.sentIn_send _) _ _)

theorem State.sentIn_collAbsent (s : State) (p : W32 → Bool) : s.SentIn (s.collAbsent p) := by
  refine .foldl (fun t i => ?_) _ _
  split
  · exact t.sentIn_endInst _ _ _
  · exact fun _ hm => hm

theorem State.sentIn_endNow_foldl (l : List Req) (status : Nat) (s : State) : s.SentIn (l.foldl (fun t q => t.endNow q status) s) :=
  .foldl (fun _ _ => (State.endNow_effect ..).sentIn rfl) _ _

theorem State.sentIn_endAll (s : State) : s.SentIn s.endAll :=
  (State.sentIn_endNow_foldl s.reqs 2 s).trans (State.sentIn_collAbsent _ _)

theorem State.sentIn_endSubject (s : State) (kind : Nat) (subject : W32) : s.SentIn (s.endSubject kind subject) := by
  refine State.SentIn.trans ?_ ((State.absentChildren_effect ..).sentIn rfl)
  refine State.SentIn.trans ?_ (State.sentIn_collAbsent _ _)
  exact ((State.mailConcerned_effect ..).sentIn rfl).trans (State.sentIn_endNow_foldl _ _ _)

theorem State.sentIn_respond (s : State) (opc : Nat) (q : ReqHeader) (r : HomeReply) (cached : Bool) : s.SentIn (s.respond opc q r cached) :=
  State.sentIn_send _ _

/-- R312: what a response adds does not depend on the rest of the state. -/
theorem State.sent_respond_congr {s t : State} (ht : t.sent = s.sent) (opc : Nat) (q : ReqHeader) (r : HomeReply) (cached : Bool) :
    (t.respond opc q r cached).sent = (s.respond opc q r cached).sent := by
  simp only [State.respond, State.send, ht]

/-! ## A device that becomes absent, and one that returns (R364) -/

theorem State.deviceAbsent_spec {s : State} {d : Nat} (hnew : s.absentDevs.contains d = false) :
    (s.deviceAbsent d).absentDevs = ninsert d s.absentDevs ∧ Sent.flood 1 d ∈ (s.deviceAbsent d).sent := by
  have hflood : Sent.flood 1 d ∈ (({ s with absentDevs := ninsert d s.absentDevs }.send (.flood 1 d)).event 5 d 1).sent :=
    State.sentIn_event _ 5 d 1 _ (List.mem_append_right _ (List.mem_singleton_self _))
  have habsent : (({ s with absentDevs := ninsert d s.absentDevs }.send (.flood 1 d)).event 5 d 1).absentDevs = ninsert d s.absentDevs :=
    (State.event_effect ..).1 .absentDevs rfl
  simp only [State.deviceAbsent, hnew, Bool.false_eq_true, if_false]
  split
  · exact ⟨((State.endAll_effect _).1 .absentDevs rfl).trans habsent, State.sentIn_endAll _ _ hflood⟩
  · exact ⟨((State.endSubject_effect ..).1 .absentDevs rfl).trans habsent, State.sentIn_endSubject _ _ _ _ hflood⟩

theorem State.deviceBack_spec {s : State} {d : Nat} (hin : s.absentDevs.contains d = true) :
    (s.deviceBack d).absentDevs = s.absentDevs.filter (fun e => e != d) ∧ Sent.flood 2 d ∈ (s.deviceBack d).sent := by
  simp only [State.deviceBack, hin, if_true]
  exact ⟨(State.event_effect ..).1 .absentDevs rfl, State.sentIn_event _ 5 d 0 _ (List.mem_append_right _ (List.mem_singleton_self _))⟩

theorem noticeRun_room {q : ReqHeader} {subject : W32} {s : State} (hserves : s.dieServes q.dstDie.val 0x1E = true)
    (hroom : wholeDevice subject = false) (hadmits : s.admitsPacket q = true) (room device : State → State) :
    noticeRun q subject s room device = .next ((room s).respond 0x1E q ⟨0, [], []⟩ false) := by
  simp [noticeRun, servedRun, hserves, hroom, whenReady, hadmits]

theorem noticeRun_device {q : ReqHeader} {subject : W32} {s : State} (hserves : s.dieServes q.dstDie.val 0x1E = true)
    (hdevice : wholeDevice subject = true) (room device : State → State) :
    noticeRun q subject s room device = .next ((device s).respond 0x1E q ⟨0, [], []⟩ false) := by
  simp [noticeRun, servedRun, hserves, hdevice]

/-- R108: a SLOW notice moves the deadlines of the requests that it concerns, and nothing else of them. -/
theorem State.reqs_slowed (s : State) (subject : W32) (us : Nat) : (s.slowed subject us).reqs = s.reqs.map fun x =>
    if inSubject subject (x.home s.devId.toNat) then { x with deadline := max x.deadline (min (s.now + us * 1000) (x.issued + 5000000)) }
    else x := by
  have hmail : (s.mailConcerned 0 subject).reqs = s.reqs := (State.mailConcerned_effect ..).1 .reqs rfl
  rw [State.slowed, (State.collSlow_effect ..).1 .reqs rfl]
  exact congrArg (List.map _) hmail

theorem State.mem_slowed (s : State) (subject : W32) (us : Nat) : (s.slowed subject us).mem = s.mem := by
  rw [State.slowed, (State.collSlow_effect ..).mem_eq rfl]
  exact (State.mailConcerned_effect ..).mem_eq rfl

/-! ## Spawns (R89, R155) -/

theorem State.performSpawn_started {s : State} {g : HartId} {m : SpawnMsg} (hst : s.spawnStatus g m = 0) :
    s.performSpawn g m = s.modHart g (·.start (some m.spawner) m.priv.val m.satp m.pc m.sp m.arg) := by
  rw [State.performSpawn, if_pos hst]

/-- R346: a message that its home performs is answered once. -/
theorem roomRun_performed {q : ReqHeader} {room opc : Nat} {s : State} (hadmits : s.admitsPacket q = true)
    (hruns : (s.room room).stalled = false) (hserves : s.dieServes (room / 32) opc = true) (hverdict : s.verdict room q = .perform)
    (perform : State × List Byte) : roomRun q room opc s perform =
      .next ((perform.1.cacheDone room q 0 perform.2).respond opc q ⟨0, perform.2, []⟩ false) := by
  simp only [roomRun, hadmits, hruns, hverdict, hserves]
  rfl

theorem sent_performed {s u : State} (hu : u.sent = s.sent) (room : Nat) (q : ReqHeader) (opc : Nat) (data : List Byte) (r : HomeReply) :
    ((u.cacheDone room q 0 data).respond opc q r false).sent = (s.respond opc q r false).sent :=
  State.sent_respond_congr (((State.cacheDone_effect ..).sent_eq rfl).trans hu) ..

/-- R89: the status 0 of a spawn, as it is delivered. -/
theorem ofBytes_status_zero : ofBytes (toBytes 8 0) = 0 := by decide

/-- R89, R155: the answer 0 of a spawn retires the spawner's instruction with 0; the child is known and the request ended. -/
theorem State.answerSpawn_started {u : State} {m : SpawnMsg} {a : Req} {rd : Nat} {p : HartId} (hreq : u.spawnReq m = some a)
    (hkind : a.kind = .spawn rd m) (hroom : a.room = p.room.val) (hhart : a.hart = p.hart.val) (hruns : (u.hart p).halted = false) :
    (∀ g, g ≠ p → (u.answerSpawn m 0).hart g = u.hart g) ∧ (u.answerSpawn m 0).hart p = ((u.hart p).setReg rd 0).retire ∧
      ((u.answerSpawn m 0).room p.room.val).children = (u.room p.room.val).children ++ [⟨p.hart.val, m.target, .running⟩] ∧
      (u.answerSpawn m 0).findReq a.room a.tag = none := by
  set v := u.retireTag a a.reissued with hv
  have hharts (g : HartId) : v.hart g = u.hart g := (State.retireTag_effect ..).hart_eq rfl g
  have hanswer : u.answerSpawn m 0 = (v.modHart p fun x => if x.halted then { x with heldResult := some (a.kind, toBytes 8 0), wait := .none }
      else x.result a.kind (toBytes 8 0)).modRoom p.room.val fun y =>
        { y with children := y.children ++ [⟨p.hart.val, m.target, .running⟩] } := by
    simp only [State.answerSpawn, hreq, State.endRequest, hkind, ReqKind.isStore, ofBytes_status_zero, State.endSpawn, State.deliverResult,
      hroom, hhart]
    rfl
  rw [hanswer]
  refine ⟨fun g hg => ?_, ?_, ?_, ?_⟩
  · rw [State.hart_modRoom, State.hart_modHart_ne _ _ _ _ hg, hharts]
  · rw [State.hart_modRoom, State.hart_modHart, hharts, hruns, hkind]
    simp [Hart.result, ofBytes_status_zero]
  · rw [State.room_modRoom, State.room_modHart, (State.retireTag_effect ..).room_eq rfl]
  · exact (u.retireTag_spec a a.reissued).2

/-! ## Exit notices (R90, R156) -/

/-- The news of a thread's end that has come. -/
def State.dropExit (s : State) (m : ExitMsg) : State := { s with exitMsgs := s.exitMsgs.erase m }

theorem State.childEnded_kept {s : State} {p : HartId} (hwait : (s.hart p).wait = .none) (child : W32) (e : ChildEnd) :
    s.childEnded p child e = s.modRoom p.room.val fun y => { y with
      children := y.children.map fun c => if c.parent = p.hart.val ∧ c.thread = child then { c with state := e } else c } := by
  simp only [State.childEnded, hwait]

theorem State.childEnded_joins {s : State} {p : HartId} {rd : Nat} {child : W32} (hwait : (s.hart p).wait = .join rd child)
    (hruns : (s.hart p).halted = false) (v : W64) : s.childEnded p child (.exited v) = s.joined p rd child 0 v := by
  simp [State.childEnded, hwait, hruns]

/-- Settles O16: each message finds its hart and is performed there; what a notice ends or moves stands in the lemmas above. -/
theorem messagesAndNoticesComplete : Obligations.MessagesAndNoticesComplete := by
  refine ⟨?spawn, ?spawnHere, ?exitNotice, ?exitHere, ?slow, ?ended, ?absent, ?back⟩
  case spawn =>
    rintro q m s g htarget hspawner ⟨hadmits, hruns⟩ hserves hverdict hst
    have hexec : exec (.msgSpawn q m) s = .next ((((s.performSpawn g m).cacheDone g.room.val q 0 (toBytes 8 0))).respond 0x1B q
        ⟨0, toBytes 8 0, []⟩ false) := by
      change execMsgSpawn _ _ _ = _
      simp only [execMsgSpawn, htarget, hspawner, hst]
      exact roomRun_performed hadmits hruns hserves hverdict (s.performSpawn g m, toBytes 8 0)
    refine ⟨_, hexec, ?_, sent_performed ((State.performSpawn_effect ..).sent_eq rfl) ..⟩
    rw [(State.respond_effect ..).hart_eq rfl, (State.cacheDone_effect ..).hart_eq rfl, State.performSpawn_started hst, State.hart_modHart]
  case spawnHere =>
    rintro q m s g p rd a htarget hspawner hreq ⟨hkind, hroom, hhart⟩ hruns hlive hst hne
    have hstart := State.performSpawn_started hst
    have hsent : s.spawnSent m = true := by simp [State.spawnSent, hspawner, hreq]
    have hexec : exec (.msgSpawn q m) s = .next ((s.performSpawn g m).answerSpawn m 0) := by
      change execMsgSpawn _ _ _ = _
      simp only [execMsgSpawn, htarget, hspawner, hst]
      exact whenReady_of (by simp [hsent, hruns]) ..
    have hp : (s.performSpawn g m).hart p = s.hart p := by rw [hstart, State.hart_modHart_ne _ _ _ _ (Ne.symm hne)]
    obtain ⟨hothers, hparent, hchildren, hgone⟩ := State.answerSpawn_started (u := s.performSpawn g m) (hstart ▸ hreq) hkind hroom hhart
      (by rw [hp, hlive])
    refine ⟨_, hexec, ?_, ?_, ?_, hgone⟩
    · rw [hothers g hne, hstart, State.hart_modHart]
    · rw [hparent, hp]
    · rw [hchildren, (State.performSpawn_effect ..).room_eq rfl]
  case exitNotice =>
    rintro q child parent status value s p hparent hchild ⟨hadmits, hruns⟩ hserves hverdict hknown hwait
    have hexec : exec (.msgExitNotice q child parent status value) s = .next ((((s.dropExit ⟨child, parent, status, value⟩).childEnded p child
        (if status = 0 then .exited value else .absent)).cacheDone p.room.val q 0 []).respond 0x1C q ⟨0, [], []⟩ false) := by
      change execMsgExitNotice _ _ _ _ _ _ = _
      simp only [execMsgExitNotice, hparent, hchild, hknown, if_true]
      exact roomRun_performed hadmits hruns hserves hverdict (_, [])
    have hkept := State.childEnded_kept (s := s.dropExit ⟨child, parent, status, value⟩) hwait child
      (if status = 0 then .exited value else .absent)
    refine ⟨_, hexec, ?_, sent_performed ((State.childEnded_effect ..).sent_eq rfl) ..⟩
    rw [(State.respond_effect ..).room_eq rfl, (State.cacheDone_effect ..).room_eq rfl, hkept, State.room_modRoom]
    rfl
  case exitHere =>
    intro q child parent value s p rd hparent hchild hmsg hruns hknown hwait hlive
    have hexec : exec (.msgExitNotice q child parent 0 value) s =
        .next ((s.dropExit ⟨child, parent, 0, value⟩).childEnded p child (.exited value)) := by
      change execMsgExitNotice _ _ _ _ _ _ = _
      simp only [execMsgExitNotice, hparent, hchild, hknown, if_true]
      exact whenReady_of (by simp only [hmsg, hruns]; rfl) ..
    rw [State.childEnded_joins (s := s.dropExit ⟨child, parent, 0, value⟩) hwait hlive] at hexec
    refine ⟨_, hexec, ?_, ?_, (State.joined_effect ..).1 .exitMsgs rfl⟩
    · rw [State.joined, State.hart_modRoom, State.hart_modHart]
      rfl
    · rw [State.joined, State.room_modRoom, List.any_eq_false]
      intro c hc
      obtain ⟨-, hother⟩ := List.mem_filter.mp hc
      exact Bool.eq_false_iff.mp (Bool.not_eq_true' _ ▸ hother)
  case slow =>
    intro q subject b s hroom hserves hadmits
    refine ⟨_, noticeRun_room hserves hroom hadmits (fun s => s.slowed subject b.us) id, ?_, ?_⟩
    · rw [(State.respond_effect ..).mem_eq rfl, State.mem_slowed]
    · rw [(State.respond_effect ..).1 .reqs rfl, State.reqs_slowed]
  case ended =>
    intro q subject b s c hc hroom hserves hadmits
    have hended (kind : Nat) : ((s.endSubject kind subject).respond 0x1E q ⟨0, [], []⟩ false).concerned subject = [] ∧
        ((s.endSubject kind subject).respond 0x1E q ⟨0, [], []⟩ false).absentDevs = s.absentDevs :=
      ⟨s.concerned_endSubject kind subject, (State.endSubject_effect ..).1 .absentDevs rfl⟩
    simp only [List.mem_cons, List.not_mem_nil, or_false] at hc
    obtain rfl | rfl := hc
    · exact ⟨_, noticeRun_room hserves hroom hadmits (fun s => s.endSubject 1 subject) fun s => s.deviceAbsent (tidDev subject), hended 1⟩
    · exact ⟨_, noticeRun_room hserves hroom hadmits (fun s => s.endSubject 2 subject) fun s => s.deviceBack (tidDev subject), hended 2⟩
  case absent =>
    intro q subject b s hdevice hserves hnew
    obtain ⟨habsent, hflood⟩ := State.deviceAbsent_spec hnew
    exact ⟨_, noticeRun_device hserves hdevice (fun s => s.endSubject 1 subject) fun s => s.deviceAbsent (tidDev subject), habsent,
      State.sentIn_respond _ _ _ _ _ _ hflood⟩
  case back =>
    intro q subject b s hdevice hserves hin
    obtain ⟨hback, hflood⟩ := State.deviceBack_spec hin
    exact ⟨_, noticeRun_device hserves hdevice (fun s => s.endSubject 2 subject) fun s => s.deviceBack (tidDev subject), hback,
      State.sentIn_respond _ _ _ _ _ _ hflood⟩

end Sys2Proof.Machine


/-! Requests of Azlys at their home: reads, writes and atomics performed, and answers repeated (O15). -/
namespace Sys2Proof.Machine

/-! ## What a home does with a request (R313, R346, R347) -/

section
variable {q : HomeRequest} {s : State} {opc n : Nat} (htakes : s.takes q (s.requestPlace q n) n = true)
include htakes

/-- R346: a non-idempotent request that its home performs: what it does, its entry and its answer. -/
theorem homeRun_performed (hverdict : s.verdict (homeOf (s.requestPlace q n)) q.hdr = .perform)
    (hserves : s.serves (s.requestPlace q n) opc = true) (perform : Place → State × HomeReply) :
    homeRun q opc n s perform = .next ((((perform (s.requestPlace q n)).1.cacheDone (homeOf (s.requestPlace q n)) q.hdr
      (perform (s.requestPlace q n)).2.status (perform (s.requestPlace q n)).2.data)).respond opc q.hdr
        (perform (s.requestPlace q n)).2 false) := by
  simp only [homeRun, htakes, hverdict, hserves]
  rfl

/-- R346: a request whose entry is held is answered from it. -/
theorem homeRun_answered {e : CacheEntry} (hverdict : s.verdict (homeOf (s.requestPlace q n)) q.hdr = .answer e)
    (perform : Place → State × HomeReply) : homeRun q opc n s perform = .next (s.respond opc q.hdr ⟨e.status, e.data, []⟩ true) := by
  simp only [homeRun, htakes, hverdict]
  rfl

end

/-- What the entry of a performed request and its answer leave. -/
theorem State.answered_spec {s u : State} (hsent : u.sent = s.sent) (home opc : Nat) (q : ReqHeader) (r : HomeReply) :
    ((u.cacheDone home q r.status r.data).respond opc q r false).mem = u.mem ∧
      ((u.cacheDone home q r.status r.data).respond opc q r false).sent = (s.respond opc q r false).sent :=
  ⟨((State.respond_effect ..).mem_eq rfl).trans ((State.cacheDone_effect ..).mem_eq rfl),
    State.sent_respond_congr (((State.cacheDone_effect ..).sent_eq rfl).trans hsent) ..⟩

/-- R313: a read of readable memory that its home takes is answered with its bytes. -/
theorem execReqRd_performed {q : HomeRequest} {s : State} {l : List PByte} (hlen : 0 < q.len ∧ q.len ≤ 256)
    (htakes : s.takes q (s.requestPlace q q.len) q.len = true) (hserves : s.serves (s.requestPlace q q.len) 0 = true)
    (hmemory : homeAllows (.xaAdd 0) (s.requestPlace q q.len) = true) (hread : s.pread (s.requestPlace q q.len) q.len = .ok l) :
    exec (.reqRd q) s = .next ((s.afterRead (s.requestPlace q q.len) q.len).respond 0 q.hdr
      ⟨0, l.map (·.1), (List.range (ceilDiv q.len 8)).filter fun j => ((l.drop (8 * j)).take 8).any (·.2)⟩ false) := by
  have hfits : ¬ 256 < q.len := by omega
  have hsome : ¬ q.len = 0 := by omega
  obtain ⟨r, b, o, hp⟩ | ⟨r, o, hp⟩ := homeAllows_home hmemory
  all_goals
    rw [hp] at htakes hserves hread
    change execReqRd _ _ = _
    simp [execReqRd, hp, htakes, hserves, hread, hfits, hsome]

/-- R466: a write that no word turns away, at an attic or a pantry. -/
theorem State.homeWrite_performed {s : State} {q : HomeRequest} {p : Place} (hmemory : homeAllows (.xaAdd 0) p = true)
    (hcode : s.writeCode p q.payload = 0) :
    s.homeWrite q p = ((s.pwrite p (mapPoison q.payload q.pmap.toNat)).storeAt p q.payload.length, ⟨0, [], []⟩) := by
  obtain ⟨r, b, o, rfl⟩ | ⟨r, o, rfl⟩ := homeAllows_home hmemory
  all_goals simp [State.homeWrite, hcode]

/-! ## Atomics (R112, R181, R313) -/

/-- An operation that returns no data. -/
def isSignal : HomeAtomic → Bool
  | .set _ | .clr _ | .add _ => true
  | _ => false

/-- R181: an atomic that its target allows, and whose target is read as data. -/
theorem State.homeAtomicOp_performed {s : State} {q : HomeRequest} {p : Place} {op : HomeAtomic} {l : List Byte}
    (hallow : homeAllows op p = true) (halign : q.addr.toNat % homeWidth op = 0) (hread : s.memRead p (homeWidth op) = .data l) :
    s.homeAtomicOp q p op = ((((s.memWrite p (toBytes (homeWidth op) (homeNew op (s.atomicOld op p l)).1)).guardLease op p
        (homeNew op (s.atomicOld op p l)).1).spoilTarget q p (homeWidth op)),
      ⟨0, if isSignal op || q.noret then [] else answerBytes op (toBytes (homeWidth op) (homeNew op (s.atomicOld op p l)).2), []⟩) := by
  have hanswer : s.atomicAnswer op p = .data (toBytes (homeWidth op) (homeNew op (s.atomicOld op p l)).2) := by
    simp only [State.atomicAnswer, hread]
  have hperform : s.atomicPerform op p = (s.memWrite p (toBytes (homeWidth op) (homeNew op (s.atomicOld op p l)).1)).guardLease op p
      (homeNew op (s.atomicOld op p l)).1 := by
    simp only [State.atomicPerform, hread]
  obtain ⟨r, b, o, rfl⟩ | ⟨r, o, rfl⟩ := homeAllows_home hallow
  all_goals
    simp only [State.homeAtomicOp, hallow, halign, hanswer, hperform]
    rfl

theorem homeAtomicRun_isRun {q : HomeRequest} {s : State} {lens : List Nat} {op : HomeRequest → HomeAtomic} {r : Result}
    (hr : r = homeAtomicRun q lens op s) : ∃ perform, r = homeRun q (atomicOpc (op q)) (homeWidth (op q)) s perform :=
  ⟨_, hr.trans rfl⟩

/-- R313: an atomic whose payload has a length of its operation is performed and answered. -/
theorem homeAtomicRun_performed {q : HomeRequest} {s : State} {lens : List Nat} {op : HomeRequest → HomeAtomic} {l : List Byte}
    (htakes : s.takes q (s.requestPlace q (homeWidth (op q))) (homeWidth (op q)) = true)
    (hverdict : s.verdict (homeOf (s.requestPlace q (homeWidth (op q)))) q.hdr = .perform)
    (hserves : s.serves (s.requestPlace q (homeWidth (op q))) (atomicOpc (op q)) = true) (hlen : q.payload.length ∈ lens)
    (hallow : homeAllows (op q) (s.requestPlace q (homeWidth (op q))) = true) (halign : q.addr.toNat % homeWidth (op q) = 0)
    (hread : s.memRead (s.requestPlace q (homeWidth (op q))) (homeWidth (op q)) = .data l) :
    ∃ t, homeAtomicRun q lens op s = .next t ∧
      (q.pmap = 0 → t.mem = (s.memWrite (s.requestPlace q (homeWidth (op q))) (toBytes (homeWidth (op q))
        (homeNew (op q) (s.atomicOld (op q) (s.requestPlace q (homeWidth (op q))) l)).1)).mem) ∧
      t.sent = (s.respond (atomicOpc (op q)) q.hdr ⟨0, if isSignal (op q) || q.noret then [] else answerBytes (op q)
        (toBytes (homeWidth (op q)) (homeNew (op q) (s.atomicOld (op q) (s.requestPlace q (homeWidth (op q))) l)).2), []⟩ false).sent := by
  have hop := State.homeAtomicOp_performed hallow halign hread
  have hexec : homeAtomicRun q lens op s = homeRun q (atomicOpc (op q)) (homeWidth (op q)) s fun p => s.homeAtomicOp q p (op q) := by
    simp only [homeAtomicRun, List.contains_iff_mem.mpr hlen, if_true]
  have hrun := hexec.trans (homeRun_performed htakes hverdict hserves fun p => s.homeAtomicOp q p (op q))
  rw [hop] at hrun
  set u := ((s.memWrite (s.requestPlace q (homeWidth (op q))) (toBytes (homeWidth (op q))
      (homeNew (op q) (s.atomicOld (op q) (s.requestPlace q (homeWidth (op q))) l)).1)).guardLease (op q)
        (s.requestPlace q (homeWidth (op q))) (homeNew (op q) (s.atomicOld (op q) (s.requestPlace q (homeWidth (op q))) l)).1).spoilTarget
          q (s.requestPlace q (homeWidth (op q))) (homeWidth (op q)) with hu
  have hsent : u.sent = s.sent := by
    rw [hu, (State.spoilTarget_effect ..).sent_eq rfl, (State.guardLease_effect ..).sent_eq rfl, (State.memWrite_effect ..).sent_eq rfl]
  obtain ⟨hmem, hanswered⟩ := State.answered_spec hsent (homeOf (s.requestPlace q (homeWidth (op q)))) (atomicOpc (op q)) q.hdr
    ⟨0, if isSignal (op q) || q.noret then [] else answerBytes (op q)
        (toBytes (homeWidth (op q)) (homeNew (op q) (s.atomicOld (op q) (s.requestPlace q (homeWidth (op q))) l)).2), []⟩
  refine ⟨_, hrun, fun hclean => ?_, hanswered⟩
  rw [hmem, hu, State.spoilTarget, if_pos hclean, (State.guardLease_effect ..).mem_eq rfl]

/-- Settles O15: a request that its home takes is performed there, and what is answered does not depend on what it changed. -/
theorem homeRequestsComplete : Obligations.HomeRequestsComplete := by
  refine ⟨?read, ?write, ?atomic, ?signal, ?repeated⟩
  case read =>
    rintro q s p l rfl hlen htakes hserves hmemory hread
    refine ⟨_, execReqRd_performed hlen htakes hserves hmemory hread, ?_, State.sent_respond_congr ((State.afterRead_effect ..).sent_eq rfl) ..⟩
    rw [(State.respond_effect ..).mem_eq rfl, (State.afterRead_effect ..).mem_eq rfl]
  case write =>
    rintro q s p rfl hsome htakes hverdict hserves hmemory hcode
    have hexec : exec (.reqWr q) s = homeRun q 1 q.payload.length s fun p => s.homeWrite q p := by
      change execReqWr _ _ = _
      simp only [execReqWr, hsome, if_false]
    have hrun := hexec.trans (homeRun_performed htakes hverdict hserves fun p => s.homeWrite q p)
    rw [State.homeWrite_performed hmemory hcode] at hrun
    obtain ⟨hmem, hanswered⟩ := State.answered_spec (s := s)
      (((State.storeAt_effect ..).sent_eq rfl).trans ((State.pwrite_effect ..).sent_eq rfl))
      (homeOf (s.requestPlace q q.payload.length)) 1 q.hdr ⟨0, [], []⟩
    exact ⟨_, hrun, hmem.trans ((State.storeAt_effect ..).mem_eq rfl), hanswered⟩
  case atomic =>
    rintro q s c lens op p l hmem rfl htakes hverdict hserves hlen hallow halign hread
    suffices hop : ∃ f : HomeRequest → HomeAtomic, f q = op ∧ isSignal op = false ∧ exec c s = homeAtomicRun q lens f s by
      obtain ⟨f, rfl, hdata, he⟩ := hop
      obtain ⟨t, hrun, hbytes, hsent⟩ := homeAtomicRun_performed htakes hverdict hserves hlen hallow halign hread
      rw [hdata, Bool.false_or] at hsent
      exact ⟨t, he.trans hrun, hbytes, hsent⟩
    simp only [List.mem_cons, Prod.mk.injEq, List.not_mem_nil, or_false] at hmem
    obtain ⟨rfl, rfl, rfl⟩ | ⟨rfl, rfl, rfl⟩ | ⟨rfl, rfl, rfl⟩ | ⟨rfl, rfl, rfl⟩ | ⟨rfl, rfl, rfl⟩ | ⟨rfl, rfl, rfl⟩ | ⟨rfl, rfl, rfl⟩ |
      ⟨rfl, rfl, rfl⟩ | ⟨rfl, rfl, rfl⟩ | ⟨rfl, rfl, rfl⟩ | ⟨rfl, rfl, rfl⟩ | ⟨rfl, rfl, rfl⟩ | ⟨rfl, rfl, rfl⟩ | ⟨rfl, rfl, rfl⟩ |
      ⟨rfl, rfl, rfl⟩ | ⟨rfl, rfl, rfl⟩ := hmem
    · exact ⟨amoOf .swap, rfl, rfl, rfl⟩
    · exact ⟨amoOf .add, rfl, rfl, rfl⟩
    · exact ⟨amoOf .and, rfl, rfl, rfl⟩
    · exact ⟨amoOf .or, rfl, rfl, rfl⟩
    · exact ⟨amoOf .xor, rfl, rfl, rfl⟩
    · exact ⟨amoOf .min, rfl, rfl, rfl⟩
    · exact ⟨amoOf .max, rfl, rfl, rfl⟩
    · exact ⟨amoOf .minu, rfl, rfl, rfl⟩
    · exact ⟨amoOf .maxu, rfl, rfl, rfl⟩
    · exact ⟨fun q => .xaAdd (BitVec.ofNat 128 (operandOf q 0 16)), rfl, rfl, rfl⟩
    · exact ⟨fun q => .fadd (BitVec.ofNat 32 (operandOf q 0 4)), rfl, rfl, rfl⟩
    · exact ⟨fun q => .fmax (BitVec.ofNat 32 (operandOf q 0 4)), rfl, rfl, rfl⟩
    · exact ⟨fun q => .fmin (BitVec.ofNat 32 (operandOf q 0 4)), rfl, rfl, rfl⟩
    · exact ⟨fun q => .cas (q.payload.length / 2) (BitVec.ofNat 128 (operandOf q 0 (q.payload.length / 2)))
        (BitVec.ofNat 128 (operandOf q (q.payload.length / 2) (q.payload.length / 2))), rfl, rfl, rfl⟩
    · exact ⟨fun q => .leaseAcq (BitVec.ofNat 32 (operandOf q 0 4)) q.hdr.epoch (BitVec.ofNat 64 (operandOf q 8 8)), rfl, rfl, rfl⟩
    · exact ⟨fun q => .leaseRel (BitVec.ofNat 32 (operandOf q 0 4)) q.hdr.epoch, rfl, rfl, rfl⟩
  case signal =>
    rintro q s c lens op p l hmem rfl htakes hverdict hserves hlen hallow halign hread
    suffices hop : ∃ f : HomeRequest → HomeAtomic, f q = op ∧ isSignal op = true ∧ exec c s = homeAtomicRun q lens f s by
      obtain ⟨f, rfl, hdata, he⟩ := hop
      obtain ⟨t, hrun, hbytes, hsent⟩ := homeAtomicRun_performed htakes hverdict hserves hlen hallow halign hread
      have hold : s.atomicOld (f q) (s.requestPlace q (homeWidth (f q))) l = ofBytes l := by
        cases hf : f q <;> rw [hf] at hdata <;> first | rfl | cases hdata
      rw [hdata, Bool.true_or, if_pos rfl] at hsent
      rw [hold] at hbytes
      exact ⟨t, he.trans hrun, hbytes, hsent⟩
    simp only [List.mem_cons, Prod.mk.injEq, List.not_mem_nil, or_false] at hmem
    obtain ⟨rfl, rfl, rfl⟩ | ⟨rfl, rfl, rfl⟩ | ⟨rfl, rfl, rfl⟩ := hmem
    · exact ⟨fun q => .set (BitVec.ofNat 64 (operandOf q 0 8)), rfl, rfl, rfl⟩
    · exact ⟨fun q => .clr (BitVec.ofNat 64 (operandOf q 0 8)), rfl, rfl, rfl⟩
    · exact ⟨fun q => .add (BitVec.ofNat 64 (operandOf q 0 8)), rfl, rfl, rfl⟩
  case repeated =>
    rintro q s c opc n p e hmem rfl htakes hverdict
    suffices hrun : ∃ perform, exec c s = homeRun q opc n s perform by
      obtain ⟨perform, he⟩ := hrun
      exact he.trans (homeRun_answered htakes hverdict perform)
    simp only [List.mem_cons, Prod.mk.injEq, List.not_mem_nil, or_false] at hmem
    obtain ⟨rfl, rfl, rfl⟩ | ⟨rfl, rfl, rfl⟩ | ⟨rfl, rfl, rfl⟩ | ⟨rfl, rfl, rfl⟩ | ⟨rfl, rfl, rfl⟩ := hmem
    · exact ⟨fun p => if q.payload = [] then (s, ⟨1, [], []⟩) else s.homeWrite q p, rfl⟩
    · exact homeAtomicRun_isRun (op := amoOf .add) rfl
    · exact homeAtomicRun_isRun (op := fun q => .xaAdd (BitVec.ofNat 128 (operandOf q 0 16))) rfl
    · exact homeAtomicRun_isRun (op := fun q => .leaseAcq (BitVec.ofNat 32 (operandOf q 0 4)) q.hdr.epoch (BitVec.ofNat 64 (operandOf q 8 8))) rfl
    · exact homeAtomicRun_isRun (op := fun q => .set (BitVec.ofNat 64 (operandOf q 0 8))) rfl

end Sys2Proof.Machine


/-! An attic controller queues, performs, retries and refreshes (O13). -/
namespace Sys2Proof.Machine

/-! ## What records, reads and writes leave of an attic's controller (R164, R175, R471) -/

/-- An attic but for what a use of it notes: views, errors of its lanes, and its rows. -/
def AtticB.working (a : AtticB) : AtticB := { a with views := [], laneCe := [], rowEvents := [], repairs := [], repairing := [] }

/-- From s to t the attics' controllers are as they were. -/
def State.AtticsKept (s t : State) : Prop := ∀ r, (t.attic r).working = (s.attic r).working

theorem State.AtticsKept.field {s t : State} (h : s.AtticsKept t) (r : Nat) {β : Type} (f : AtticB → β) (hf : ∀ a, f a.working = f a) :
    f (t.attic r) = f (s.attic r) :=
  (hf _).symm.trans ((congrArg f (h r)).trans (hf _))

theorem State.AtticsKept.fields {s t : State} (h : s.AtticsKept t) (r : Nat) : (t.attic r).queue = (s.attic r).queue ∧
    (t.attic r).waiting = (s.attic r).waiting ∧ (t.attic r).replies = (s.attic r).replies ∧ (t.attic r).phase = (s.attic r).phase ∧
    (t.attic r).failedLanes = (s.attic r).failedLanes :=
  ⟨h.field r AtticB.queue fun _ => rfl, h.field r AtticB.waiting fun _ => rfl, h.field r AtticB.replies fun _ => rfl,
    h.field r AtticB.phase fun _ => rfl, h.field r AtticB.failedLanes fun _ => rfl⟩

theorem State.AtticsKept.trans {s t u : State} (h : s.AtticsKept t) (k : t.AtticsKept u) : s.AtticsKept u := fun r => (k r).trans (h r)

theorem Effect.atticsKept {F : List Part} {s t : State} (he : Effect F s t) (hF : F.contains .attics = false) : s.AtticsKept t :=
  fun r => by rw [he.attic_eq hF r]

theorem State.AtticsKept.foldl {α : Type} {f : State → α → State} (hf : ∀ t a, State.AtticsKept t (f t a)) (l : List α) (s : State) :
    s.AtticsKept (l.foldl f s) := by
  induction l generalizing s with
  | nil => exact fun _ => rfl
  | cons a l ih => exact (hf s a).trans (ih _)

theorem State.atticsKept_modAttic (s : State) (r : Nat) {f : AtticB → AtticB} (hf : ∀ a, (f a).working = a.working) :
    s.AtticsKept (s.modAttic r f) := by
  intro k
  by_cases hk : k = r
  · subst hk
    rw [State.attic_modAttic]
    exact hf _
  · rw [State.attic_modAttic_ne _ _ _ _ hk]

theorem State.atticsKept_rowFails (s : State) (e : ErrRecord) (r b row : Nat) : s.AtticsKept (s.rowFails e r b row) := by
  unfold State.rowFails
  dsimp only
  split
  · exact fun _ => rfl
  · split
    · exact s.atticsKept_modAttic r fun _ => rfl
    · exact (State.placeRecord_effect ..).atticsKept rfl

theorem State.atticsKept_rowEvent (s : State) (e : ErrRecord) : s.AtticsKept (s.rowEvent e) := by
  unfold State.rowEvent
  dsimp only
  split
  · have hrow := s.atticsKept_modAttic (e.die * 32 + e.room)
      (f := fun a => { a with rowEvents := a.rowEvents ++ [(e.bank, e.within / 1024, s.now)] }) fun _ => rfl
    split
    · exact hrow.trans (State.atticsKept_rowFails _ _ _ _ _)
    · exact hrow
  · exact fun _ => rfl

theorem State.atticsKept_post (s : State) (e : ErrRecord) : s.AtticsKept (s.post e) := by
  have hplace : s.AtticsKept (s.placeRecord e) := (State.placeRecord_effect ..).atticsKept rfl
  unfold State.post
  refine State.AtticsKept.trans ?_ (State.atticsKept_rowEvent _ e)
  split
  · split
    · exact fun _ => rfl
    · exact fun r => hplace r
  · exact hplace

theorem State.atticsKept_atticError (s : State) (r bit kind cause : Nat) (banked : Bool) (o lane : Nat) :
    s.AtticsKept (s.atticError r bit kind cause banked o lane) := fun k => State.atticsKept_post _ _ k

theorem State.atticsKept_atticCe (s : State) (r bit cause : Nat) (banked : Bool) (o lane : Nat) :
    s.AtticsKept (s.atticCe r bit cause banked o lane) := fun k => State.atticsKept_atticError _ _ _ _ _ _ _ _ k

theorem State.atticsKept_countLane (s : State) (r lane : Nat) : s.AtticsKept (s.countLane r lane) :=
  s.atticsKept_modAttic r fun _ => rfl

theorem State.atticsKept_storeUe (s : State) (r : Nat) (banked : Bool) (o : Nat) : s.AtticsKept (s.storeUe r banked o) := by
  unfold State.storeUe
  dsimp only
  split
  · exact fun _ => rfl
  · exact fun k => State.atticsKept_atticError _ _ _ _ _ _ _ _ k

theorem State.atticsKept_bankFault (s : State) (r : Nat) (q : AtticReq) (f : WordFault) : s.AtticsKept (s.bankFault r q f) := by
  unfold State.bankFault
  dsimp only
  split
  · exact State.atticsKept_atticCe _ _ _ _ _ _ _
  · exact State.atticsKept_storeUe _ _ _ _
  · split
    · exact State.atticsKept_atticCe _ _ _ _ _ _ _
    · exact fun _ => rfl
  · split <;> exact fun _ => rfl
  · exact fun _ => rfl

theorem State.atticsKept_stairFault (s : State) (r : Nat) (q : AtticReq) (f : WordFault) : s.AtticsKept (s.stairFault r q f) := by
  unfold State.stairFault
  dsimp only
  split
  · exact (State.atticsKept_atticCe _ _ _ _ _ _ _).trans (State.atticsKept_countLane _ _ _)
  · exact fun k => State.atticsKept_atticError _ _ _ _ _ _ _ _ k
  · exact fun _ => rfl

theorem State.atticsKept_noteView (s : State) (r : Nat) (banked : Bool) (o n : Nat) : s.AtticsKept (s.noteView r banked o n) :=
  s.atticsKept_modAttic r fun _ => rfl

theorem State.atticsKept_afterRead (s : State) (r : Nat) (banked : Bool) (o n : Nat) :
    s.AtticsKept (s.afterRead (.attic r banked o) n) := by
  simp only [State.afterRead]
  split
  · exact fun k => State.atticsKept_noteView _ _ _ _ _ k
  · exact fun k => State.atticsKept_atticError _ _ _ _ _ _ _ _ k

theorem State.atticsKept_writeAttic (s : State) (r : Nat) (banked : Bool) (o : Nat) (l : List Byte) (w : Option Nat) :
    s.AtticsKept (s.writeAttic r banked o l w) := by
  have hput : s.AtticsKept (s.putAttic r banked o l) := (State.putAttic_effect ..).atticsKept rfl
  have hnote := hput.trans (State.atticsKept_noteView _ r banked o l.length)
  unfold State.writeAttic
  dsimp only
  split <;> exact fun k => hnote k

theorem State.atticsKept_memWrite (s : State) (r : Nat) (banked : Bool) (o : Nat) (l : List Byte) (w : Option Nat) :
    s.AtticsKept (s.memWrite (.attic r banked o) l w) := by
  have hwrite := s.atticsKept_writeAttic r banked o l w
  simp only [State.memWrite]
  split
  · exact State.atticsKept_atticError _ _ _ _ _ _ _ _
  · split
    · exact fun k => (hwrite.trans (State.atticsKept_atticError _ _ _ _ _ _ _ _)) k
    · exact fun k => hwrite k

/-! ## A request that leaves the queue (R164, R298) -/

theorem RegQ.pick_nil (q : RegQ) : q.pick [] = none := by
  unfold RegQ.pick
  split
  · split <;> rfl
  · rfl

/-- R298: where nothing waits, nothing enters. -/
theorem State.atticAdmit_of_none {s : State} {r : Nat} (hw : (s.attic r).waiting = []) (n : Nat) : State.atticAdmit r n s = s := by
  cases n with
  | zero => rfl
  | succ n => simp [State.atticAdmit, AtticB.nextIn, hw, headsReady, RegQ.pick_nil]

theorem getLast?_lastN {α : Type} (n : Nat) (l : List α) (x : α) : (lastN (n + 1) (l ++ [x])).getLast? = some x := by
  rw [lastN, List.drop_append_of_le_length (by simp), List.getLast?_append]
  rfl

/-- R164: a request that is done has left the queue, and its reply is the last. -/
theorem State.atticDone_spec {s : State} {r : Nat} (hw : (s.attic r).waiting = []) (q : AtticReq) (reply : AtticReply) :
    ((s.atticDone r q reply).attic r).queue = (s.attic r).queue.filter (fun x => x.id != q.id) ∧
      ((s.atticDone r q reply).attic r).replies.getLast? = some reply ∧ (s.atticDone r q reply).mem = s.mem := by
  set t := (s.modAttic r fun a => { a with
    queue := a.queue.filter fun x => x.id != q.id, replies := lastN 64 (a.replies ++ [reply]) }).modRegq
      (atticQ r) fun g => g.complete q.cls (s.now - q.arrived) q.len with ht
  have hattic : t.attic r = { s.attic r with
      queue := (s.attic r).queue.filter fun x => x.id != q.id, replies := lastN 64 ((s.attic r).replies ++ [reply]) } := by
    rw [ht, State.attic_modRegq, State.attic_modAttic]
  have hdone : s.atticDone r q reply = t := State.atticAdmit_of_none (by rw [hattic, hw]) 64
  rw [hdone, hattic]
  exact ⟨rfl, getLast?_lastN .., rfl⟩

/-- R162, R164: a request performed at its bank leaves the queue, and its reply is the last. -/
theorem State.atticAccess_spec {s : State} {r : Nat} {q : AtticReq} (hw : (s.attic r).waiting = []) :
    ((s.atticAccess r q).attic r).queue = (s.attic r).queue.filter (fun x => x.id != q.id) ∧
      ((s.atticAccess r q).attic r).replies.getLast?.map (·.id) = some q.id ∧ (q.op = .read → (s.atticAccess r q).mem = s.mem) := by
  have hspec (u : State) (hu : s.AtticsKept u) (reply : AtticReply) (hid : reply.id = q.id) :
      ((u.atticDone r q reply).attic r).queue = (s.attic r).queue.filter (fun x => x.id != q.id) ∧
        ((u.atticDone r q reply).attic r).replies.getLast?.map (·.id) = some q.id ∧ (u.atticDone r q reply).mem = u.mem := by
    obtain ⟨hkept, hwaiting, -⟩ := hu.fields r
    obtain ⟨hqueue, hreply, hmem⟩ := State.atticDone_spec (hwaiting.trans hw) q reply
    exact ⟨by rw [hqueue, hkept], by rw [hreply, Option.map_some, hid], hmem⟩
  unfold State.atticAccess
  cases hop : q.op with
  | write l =>
    obtain ⟨hqueue, hreply, -⟩ := hspec _ (s.atticsKept_memWrite r q.banked q.off l none)
      ⟨q.id, [], [], !s.banksUsable r q.banked q.off q.len || s.atticWriteError r q.banked q.off l⟩ rfl
    exact ⟨hqueue, hreply, fun hread => AtticOp.noConfusion hread⟩
  | read =>
    obtain ⟨hqueue, hreply, hmem⟩ := hspec _ (s.atticsKept_afterRead r q.banked q.off q.len)
      (if s.banksUsable r q.banked q.off q.len then
        ⟨q.id, s.atticBytes r q.banked q.off q.len, q.bad ++ s.poisonedWords r q, false⟩ else ⟨q.id, [], [], true⟩) (by split <;> rfl)
    exact ⟨hqueue, hreply, fun _ => hmem.trans ((State.afterRead_effect ..).mem_eq rfl)⟩

/-! ## Faults that are found (R177, R178) -/

theorem State.bankFaults_kept (r : Nat) (q : AtticReq) (l : List WordFault) (s : State) :
    s.AtticsKept (l.foldl (fun s f => s.bankFault r q f) s) ∧ (l.foldl (fun s f => s.bankFault r q f) s).mem = s.mem :=
  ⟨.foldl (fun t f => t.atticsKept_bankFault r q f) l s,
    (Effect.foldl (fun t f => t.bankFault_effect r q f) (Effect.refl _ s)).mem_eq rfl⟩

theorem State.stairFaults_kept (r : Nat) (q : AtticReq) (l : List WordFault) (s : State) :
    s.AtticsKept (l.foldl (fun s f => s.stairFault r q f) s) ∧ (l.foldl (fun s f => s.stairFault r q f) s).mem = s.mem :=
  ⟨.foldl (fun t f => t.atticsKept_stairFault r q f) l s,
    (Effect.foldl (fun t f => t.stairFault_effect r q f) (Effect.refl _ s)).mem_eq rfl⟩

/-- R164: what a performed request is found with, and what its stair errors leave. -/
theorem execAtticRequestPerform_performed {r : RoomIx} {id : Nat} {faults : List WordFault} {s : State} {q : AtticReq}
    (hfind : (s.attic r.val).queue.find? (fun x => x.id == id) = some q) (hmay : (s.attic r.val).mayPerform q = true) (hfirst : q.retry = [])
    {found : List WordFault} (hfound : found = if s.banksUsable r.val q.banked q.off q.len then faults.filter (q.finds (s.attic r.val)) else [])
    (hclean : retryWords q found = []) : exec (.atticRequestPerform r id faults) s =
      .next (found.foldl (fun s f => s.stairFault r.val q f) ((found.foldl (fun s f => s.bankFault r.val q f) s).atticAccess r.val q)) := by
  change execAtticRequestPerform _ _ _ _ = _
  simp only [execAtticRequestPerform, hfind, ← hfound, hclean]
  exact whenReady_of (by simp [hmay, hfirst]) ..

/-- R178: a read in which the floor finds words uncorrectable stays, with the words noted. -/
theorem execAtticRequestPerform_retries {r : RoomIx} {id : Nat} {faults : List WordFault} {s : State} {q : AtticReq}
    (hfind : (s.attic r.val).queue.find? (fun x => x.id == id) = some q) (hmay : (s.attic r.val).mayPerform q = true) (hfirst : q.retry = [])
    (husable : s.banksUsable r.val q.banked q.off q.len = true) {found : List WordFault}
    (hfound : found = faults.filter (q.finds (s.attic r.val))) (hagain : retryWords q found ≠ []) :
    exec (.atticRequestPerform r id faults) s = .next (found.foldl (fun s f => s.stairFault r.val q f)
      ((found.foldl (fun s f => s.bankFault r.val q f) s).modAttic r.val fun a => { a with
        queue := a.queue.map fun x => if x.id = id then { x with retry := retryWords q found } else x })) := by
  change execAtticRequestPerform _ _ _ _ = _
  simp only [execAtticRequestPerform, hfind, husable, if_true, ← hfound, List.isEmpty_eq_false_iff.mpr hagain]
  exact whenReady_of (by simp [hmay, hfirst]) ..

/-- R178: the state in which the second read of a word has been counted, before its request is performed. -/
def State.retryCounted (s : State) (r : Nat) (q : AtticReq) (word lane : Nat) (correct : Bool) : State :=
  if correct then (s.atticCe r 1 0x02 q.banked (q.wordOff word) lane).countLane r lane
  else (s.atticError r 3 3 0x04 q.banked (q.wordOff word) lane).modAttic r (·.due (laneGroup lane))

theorem AtticB.due_fields (a : AtticB) (g : Nat) : (a.due g).queue = a.queue ∧ (a.due g).waiting = a.waiting := by
  unfold AtticB.due
  split <;> exact ⟨rfl, rfl⟩

theorem State.retryCounted_fields (s : State) (r : Nat) (q : AtticReq) (word lane : Nat) (correct : Bool) :
    ((s.retryCounted r q word lane correct).attic r).queue = (s.attic r).queue ∧
      ((s.retryCounted r q word lane correct).attic r).waiting = (s.attic r).waiting := by
  unfold State.retryCounted
  split
  · obtain ⟨hqueue, hwaiting, -⟩ := ((s.atticsKept_atticCe r 1 0x02 q.banked (q.wordOff word) lane).trans
      (State.atticsKept_countLane _ r lane)).fields r
    exact ⟨hqueue, hwaiting⟩
  · obtain ⟨hqueue, hwaiting, -⟩ := (s.atticsKept_atticError r 3 3 0x04 q.banked (q.wordOff word) lane).fields r
    rw [State.attic_modAttic, (AtticB.due_fields ..).1, (AtticB.due_fields ..).2]
    exact ⟨hqueue, hwaiting⟩

/-- R178: after the last second read of its words the request is performed. -/
theorem State.retryWord_last {s : State} {r : Nat} {q : AtticReq} {word : Nat} (hlast : q.retry.any (fun x => x.1 != word) = false)
    (lane : Nat) (correct : Bool) : s.retryWord r q word lane correct =
      ((s.retryCounted r q word lane correct).modAttic r fun a => { a with queue := a.queue.map fun y => if y.id = q.id then
        { q with retry := [], bad := if correct then q.bad else q.bad ++ [word] } else y }).atticAccess r
          { q with retry := [], bad := if correct then q.bad else q.bad ++ [word] } := by
  have hnone : q.retry.filter (fun p => p.1 != word) = [] := List.filter_eq_nil_iff.mpr fun p hp => List.any_eq_false.mp hlast p hp
  simp only [State.retryWord, hnone, State.retryCounted]
  rfl

/-- A request that takes another's place in the queue under the same number leaves it as the other would. -/
theorem filter_map_replaced (l : List AtticReq) (x : AtticReq) : (l.map fun y => if y.id = x.id then x else y).filter (fun y => y.id != x.id) =
    l.filter fun y => y.id != x.id := by
  induction l with
  | nil => rfl
  | cons y l ih =>
    by_cases hy : y.id = x.id
    · simp [hy, ih]
    · simp [hy, ih]

/-- Settles O13: what is found in a request's words is counted, and changes neither the queue nor, in a read, memory. -/
theorem atticRequestsComplete : Obligations.AtticRequestsComplete := by
  refine ⟨?enter, ?perform, ?retries, ?lastRetry, ?atomic, ?postponed, ?refreshed⟩
  case enter =>
    rintro r s q n rfl hlen hadmits hruns hreach hwait
    have hexec : exec (.atticRequestEnter r q) s =
        .next (s.atticEnter r.val q.cls.val (atticPieces q (s.attic r.val).nextId s.now)) := by
      refine whenReady_of ?_ ..
      rw [hruns, Bool.not_false, Bool.and_true, Bool.and_eq_true, Bool.or_eq_true]
      exact ⟨decide_eq_true hlen, hreach⟩
    refine ⟨_, hexec, ?_, (State.atticEnter_effect ..).mem_eq rfl⟩
    rw [State.atticEnter]
    simp [hwait, hadmits]
  case perform =>
    intro r id faults s q hfind hwait hmay hfirst hclean
    obtain ⟨found, hfound⟩ : ∃ found, found = if s.banksUsable r.val q.banked q.off q.len then faults.filter (q.finds (s.attic r.val)) else [] :=
      ⟨_, rfl⟩
    have hnone : retryWords q found = [] := by
      rw [hfound]
      split
      next husable => exact hclean.resolve_right (by simp [husable])
      next => unfold retryWords; split <;> rfl
    obtain ⟨hbank, hbankMem⟩ := State.bankFaults_kept r.val q found s
    obtain ⟨hqueue, hwaiting, -⟩ := hbank.fields r.val
    obtain ⟨hleft, hreply, hmem⟩ := State.atticAccess_spec (q := q) (hwaiting.trans hwait)
    obtain ⟨hstair, hstairMem⟩ := State.stairFaults_kept r.val q found ((found.foldl (fun s f => s.bankFault r.val q f) s).atticAccess r.val q)
    obtain ⟨hqueue', -, hreplies, -⟩ := hstair.fields r.val
    have hid : q.id = id := by simpa using List.find?_some hfind
    refine ⟨_, execAtticRequestPerform_performed hfind hmay hfirst hfound hnone, ?_, ?_, fun hread => ?_⟩
    · rw [hqueue', hleft, hqueue, hid]
    · rw [hreplies, hreply, hid]
    · rw [hstairMem, hmem hread, hbankMem]
  case retries =>
    intro r id faults s q hfind hmay hfirst hagain husable
    obtain ⟨hbank, hbankMem⟩ := State.bankFaults_kept r.val q (faults.filter (q.finds (s.attic r.val))) s
    obtain ⟨hqueue, -⟩ := hbank.fields r.val
    obtain ⟨hstair, hstairMem⟩ := State.stairFaults_kept r.val q (faults.filter (q.finds (s.attic r.val)))
      (((faults.filter (q.finds (s.attic r.val))).foldl (fun s f => s.bankFault r.val q f) s).modAttic r.val fun a => { a with
        queue := a.queue.map fun x => if x.id = id then { x with retry := retryWords q (faults.filter (q.finds (s.attic r.val))) } else x })
    obtain ⟨hqueue', -⟩ := hstair.fields r.val
    refine ⟨_, execAtticRequestPerform_retries hfind hmay hfirst husable rfl hagain, ?_, ?_⟩
    · rw [hqueue', State.attic_modAttic, hqueue]
    · rw [hstairMem]
      exact hbankMem
  case lastRetry =>
    intro r id word correct s q p hfind hword hwait hmay hlast
    have hid : q.id = id := by simpa using List.find?_some hfind
    have hp : p.1 = word.val := by simpa using List.find?_some hword
    have hexec : exec (.stairReadRetry r id word correct) s = .next (s.retryWord r.val q p.1 p.2 correct) := by
      change execStairReadRetry _ _ _ _ _ = _
      simp only [execStairReadRetry, hfind, hword]
      exact whenReady_of hmay ..
    rw [State.retryWord_last (by rw [hp]; exact hlast)] at hexec
    obtain ⟨hqueue, hwaiting⟩ := s.retryCounted_fields r.val q p.1 p.2 correct
    obtain ⟨hleft, hreply, -⟩ := State.atticAccess_spec (s := (s.retryCounted r.val q p.1 p.2 correct).modAttic r.val fun a => { a with
        queue := a.queue.map fun y => if y.id = q.id then { q with retry := [], bad := if correct then q.bad else q.bad ++ [p.1] } else y })
      (r := r.val) (q := { q with retry := [], bad := if correct then q.bad else q.bad ++ [p.1] }) (by rw [State.attic_modAttic, hwaiting, hwait])
    refine ⟨_, hexec, ?_, ?_⟩
    · rw [hleft, State.attic_modAttic, hqueue, ← hid]
      exact filter_map_replaced _ { q with retry := [], bad := if correct then q.bad else q.bad ++ [p.1] }
    · rw [hreply, hid]
  case atomic =>
    rintro r banked off op s l hallow ⟨halign, hlen⟩ hphase hmeets hreach hruns hread
    have hexec : exec (.atticAtomic r banked off op) s = .next (s.atomicPerform op (.attic r.val banked off)) :=
      whenReady_of (by simp [hallow, halign, hlen, hphase, hmeets, hreach, hruns]) ..
    rw [hexec, State.atomicPerform]
    simp only [hread]
  case postponed =>
    intro r bank s hfew
    refine ⟨_, rfl, ?_, ?_⟩ <;> rw [State.attic_modAttic] <;> simp [hfew]
  case refreshed =>
    intro r bank postpone s hmany
    have hrun : ¬ (postpone = true ∧ tgetD (s.attic r.val).postponed bank.val 0 < 4) := by
      rintro ⟨hpostpone, hfew⟩
      rw [hpostpone] at hmany
      exact hmany.elim Bool.noConfusion fun h4 => by omega
    refine ⟨_, rfl, ?_, ?_⟩ <;> rw [State.attic_modAttic, if_neg hrun]
    exact tgetD_tset_same ..

end Sys2Proof.Machine


/-! A stair relocks and recalibrates; a regulation block counts, clears and is configured (O14). -/
namespace Sys2Proof.Machine

/-! ## The retrain of a group of lanes (R174–R176) -/

/-- A room whose stair has been retrained with these failed lanes: the room reports the spares in use. -/
def State.Retrained (s : State) (r : Nat) (lanes : List Nat) : Prop :=
  (s.attic r).phase = .recalPublish ∧ (s.attic r).failedLanes = lanes ∧ (s.room r).cond.spares = (s.attic r).sparesUsed

theorem State.Retrained.kept {s t : State} {r : Nat} {lanes : List Nat} (hs : s.Retrained r lanes) (ha : s.AtticsKept t)
    (hr : (t.room r).cond.spares = (s.room r).cond.spares) : t.Retrained r lanes := by
  obtain ⟨hphase, hlanes, hspares⟩ := hs
  obtain ⟨-, -, -, hphase', hlanes'⟩ := ha.fields r
  have hused : (t.attic r).sparesUsed = (s.attic r).sparesUsed := ha.field r AtticB.sparesUsed fun _ => rfl
  exact ⟨hphase'.trans hphase, hlanes'.trans hlanes, by rw [hr, hspares, hused]⟩

theorem State.Retrained.postRoom {s : State} {r : Nat} {lanes : List Nat} (hs : s.Retrained r lanes) (n : RegName) (i mask cause info : Nat) :
    ((s.orReg n i mask).postRoom cause r info).Retrained r lanes :=
  State.Retrained.kept (s := s.orReg n i mask) hs (State.atticsKept_post _ _) (by rw [(State.postRoom_effect ..).room_eq rfl])

theorem State.Retrained.modRoom {s : State} {r : Nat} {lanes : List Nat} (hs : s.Retrained r lanes) {f : Room → Room}
    (hf : ∀ y, (f y).cond.spares = y.cond.spares) : (s.modRoom r f).Retrained r lanes := by
  refine hs.kept (fun _ => rfl) ?_
  rw [State.room_modRoom, hf]

/-- R10: the width that the failed lanes leave. -/
theorem State.setWidth_retrained {s : State} {r : Nat} (hphase : (s.attic r).phase = .recalPublish) :
    (s.setWidth r).Retrained r (s.attic r).failedLanes := by
  refine ⟨?_, ?_, ?_⟩ <;> simp only [State.setWidth, State.attic_modRoom, State.attic_modAttic, State.room_modRoom]
  · exact hphase
  · rfl

/-- R176: a room whose attic is disabled keeps the record of its lanes. -/
theorem State.Retrained.disableAttic {s : State} {r : Nat} {lanes : List Nat} (hs : s.Retrained r lanes) (group : Nat) :
    (s.disableAttic r group).Retrained r lanes := by
  have hdiscard : (s.avuDiscard r).Retrained r lanes :=
    hs.kept ((State.avuDiscard_effect ..).atticsKept rfl) (by rw [(State.avuDiscard_effect ..).room_eq rfl])
  obtain ⟨hphase, hlanes, hspares⟩ := hdiscard.modRoom (f := fun x => { x with cond := { x.cond with state := 5, reason := 0x13 } }) fun _ => rfl
  refine State.Retrained.postRoom ⟨?_, ?_, ?_⟩ .atticErr r 64 0x13 group <;> rw [State.attic_modAttic]
  · exact hphase
  · exact hlanes
  · exact hspares

theorem State.retrained_spec (s : State) (r group : Nat) (failed : List Nat) :
    (s.retrained r group failed).Retrained r ((s.attic r).failedLanes.filter (fun l => laneGroup l != group) ++ failed) := by
  have hwidth := State.setWidth_retrained (s := s.modAttic r fun a => { a with
    phase := .recalPublish, failedLanes := a.failedLanes.filter (fun l => laneGroup l != group) ++ failed }) (r := r) (by rw [State.attic_modAttic])
  rw [State.attic_modAttic] at hwidth
  unfold State.retrained
  dsimp only
  split
  · exact hwidth.disableAttic group
  · split
    · refine State.Retrained.postRoom (State.Retrained.modRoom hwidth ?_) _ _ _ _ _
      exact fun _ => rfl
    · split
      · exact hwidth.postRoom ..
      · exact hwidth

/-! ## Regulation blocks (R300–R303) -/

theorem getD_lset {α : Type} (l : List α) (c i : Nat) (x d : α) (hc : c < l.length) :
    (lset l c x).getD i d = if i = c then x else l.getD i d := by
  induction l generalizing c i with
  | nil => exact absurd hc (Nat.not_lt_zero c)
  | cons a l ih =>
    cases c with
    | zero => cases i <;> rfl
    | succ c =>
      cases i with
      | zero => rfl
      | succ i => simpa [lset] using ih c i (Nat.lt_of_succ_lt_succ hc)

/-- R302: a write of a class whose shares fit. -/
theorem RegQ.cfgWrite_fits {q : RegQ} {c v : Nat} (hc : c < q.classes.length)
    (hfits : ((List.range 8).map fun i => if i = c then fld v 6 0 else (q.cls i).share).foldl (· + ·) 0 ≤ 60) (i : Nat) :
    (q.cfgWrite c v).cls i = if i = c then
      { q.cls c with latTarget := fld v 63 48, bwCap := fld v 47 32, prio := fld v 18 16, share := fld v 6 0 } else q.cls i := by
  rw [RegQ.cfgWrite, if_neg (by omega), RegQ.cls, RegQ.modCls]
  exact getD_lset _ _ _ _ _ hc

theorem RegQ.cfgWrite_exceeds {q : RegQ} {c v : Nat}
    (hover : 60 < ((List.range 8).map fun i => if i = c then fld v 6 0 else (q.cls i).share).foldl (· + ·) 0) :
    q.cfgWrite c v = { q with shareRej := true } := by
  rw [RegQ.cfgWrite, if_pos hover]

/-- R303: CLEAR leaves no history and no bytes. -/
theorem RegQ.clear_spec (q : RegQ) : ∀ x ∈ q.clear.classes, x.history = [] ∧ x.bytes = 0 ∧ x.bytesLast = 0 := by
  intro x hx
  obtain ⟨c, -, rfl⟩ := List.mem_map.mp hx
  exact ⟨rfl, rfl, rfl⟩

/-- R300: what the end of a window leaves of the block of a queue. -/
def RegQ.windowEnd (q : RegQ) : RegQ := { q with classes := q.classes.map fun c => { c with bytesLast := c.bytes, bytes := 0 } }

/-- Settles O14: each command finds the phase or the writer that it needs; a retrain's reports stand in the lemmas above. -/
theorem stairAndRegulationComplete : Obligations.StairAndRegulationComplete := by
  refine ⟨?hold, ?relock, ?recal, ?retrain, ?window, ?clear, ?fits, ?exceeds⟩
  case hold =>
    intro r s hphase
    exact ⟨_, whenReady_of (by simp [hphase]) .., State.attic_modAttic .., rfl⟩
  case relock =>
    intro r s hphase hband
    refine ⟨_, whenReady_of (by simp [hphase]) .., ?_⟩
    rw [State.attic_modAttic, AtticB.resumeStair, if_neg hband]
    exact ⟨rfl, rfl, rfl⟩
  case recal =>
    intro r lane s hphase hlane hdue
    refine ⟨_, whenReady_of ?_ .., ?_, ?_, rfl⟩
    · rw [Bool.and_eq_true, Bool.and_eq_true, Bool.or_eq_true, decide_eq_true_iff, decide_eq_true_iff]
      exact ⟨⟨by rw [hphase]; rfl, hlane⟩, hdue⟩
    · rw [State.attic_modAttic]
      rfl
    · rw [State.attic_modAttic]
      rfl
  case retrain =>
    intro r failed s g hphase hgroup
    have hexec : exec (.stairRecalRetrainEnd r failed) s = .next (s.retrained r.val g
        ((s.attic r.val).failedLanes.filter (fun l => laneGroup l == g && !failed.contains l) ++ failed)) := by
      change execStairRecalRetrainEnd _ _ _ = _
      simp only [execStairRecalRetrainEnd, hphase]
      exact whenReady_of hgroup ..
    obtain ⟨hpublish, hlanes, hspares⟩ := s.retrained_spec r.val g
      ((s.attic r.val).failedLanes.filter (fun l => laneGroup l == g && !failed.contains l) ++ failed)
    refine ⟨_, hexec, hpublish, fun x hx => ?_, hspares⟩
    rw [hlanes]
    exact List.mem_append_right _ (List.mem_append_right _ hx)
  case window =>
    intro s k
    refine ⟨_, rfl, Nat.le_max_right .., fun x hx hlisted => ?_⟩
    obtain ⟨q, hq⟩ := Option.ne_none_iff_exists'.mp hlisted
    have hwindow : tget k.val (s.regqs.map fun p => (p.1, p.2.windowEnd)) = some q.windowEnd := by
      rw [tget_map_of_keys (f := fun p : Nat × RegQ => (p.1, p.2.windowEnd)) fun _ => rfl, hq]
      rfl
    have hblock : tgetD (s.regqs.map fun p => (p.1, p.2.windowEnd)) k.val {} = q.windowEnd := by rw [tgetD, hwindow]; rfl
    have hx' : x ∈ (tgetD (s.regqs.map fun p : Nat × RegQ => (p.1, p.2.windowEnd)) k.val {}).classes := hx
    rw [hblock] at hx'
    obtain ⟨c, -, rfl⟩ := List.mem_map.mp hx'
    rfl
  case clear =>
    intro who k s hwriter
    refine ⟨_, whenReady_of hwriter .., ?_⟩
    rw [State.regq_modRegq]
    exact ⟨RegQ.clear_spec _, rfl⟩
  case fits =>
    intro who k cls value s hwriter hlen hfits
    have hspec := RegQ.cfgWrite_fits (q := s.regq k.val) (c := cls.val) (v := value.toNat) (by omega) hfits
    refine ⟨_, whenReady_of hwriter .., ?_⟩
    rw [State.regq_modRegq, hspec cls.val, if_pos rfl]
    exact ⟨rfl, rfl, rfl, rfl, fun i hi => by rw [hspec i, if_neg hi]⟩
  case exceeds =>
    intro who k cls value s hwriter hover
    refine ⟨_, whenReady_of hwriter .., ?_⟩
    rw [State.regq_modRegq, RegQ.cfgWrite_exceeds hover]

end Sys2Proof.Machine


/-! What the ends of a room's work and of its requests leave alone (R119, R172, R364, R420). -/
namespace Sys2Proof.Machine

/-- From s to t units, requests and collectives have ended: the attics' controllers and the rooms' counts of epochs are as they were,
and no bit of an ATTIC_ERR has gone. -/
structure State.WorkEnded (s t : State) : Prop where
  attics : s.AtticsKept t
  counts : ∀ r, (t.room r).count = (s.room r).count
  errs : ∀ r k, bitOf (s.regN .atticErr r) k = true → bitOf (t.regN .atticErr r) k = true

namespace State.WorkEnded

theorem refl (s : State) : s.WorkEnded s := ⟨fun _ => rfl, fun _ => rfl, fun _ _ h => h⟩

theorem trans {s t u : State} (hst : s.WorkEnded t) (htu : t.WorkEnded u) : s.WorkEnded u :=
  ⟨hst.attics.trans htu.attics, fun r => (htu.counts r).trans (hst.counts r), fun r k h => htu.errs r k (hst.errs r k h)⟩

theorem foldl {α : Type} {f : State → α → State} (hf : ∀ (t : State) a, t.WorkEnded (f t a)) (l : List α) (s : State) :
    s.WorkEnded (l.foldl f s) := by
  induction l generalizing s with
  | nil => exact refl s
  | cons a l ih => exact (hf s a).trans (ih (f s a))

theorem foldlFst {α β : Type} {f : State × β → α → State × β} (hf : ∀ (x : State × β) a, x.1.WorkEnded (f x a).1) (l : List α)
    (x : State × β) : x.1.WorkEnded (l.foldl f x).1 := by
  induction l generalizing x with
  | nil => exact refl x.1
  | cons a l ih => exact (hf x a).trans (ih (f x a))

theorem ite {c : Prop} [Decidable c] {s t u : State} (ht : s.WorkEnded t) (hu : s.WorkEnded u) : s.WorkEnded (if c then t else u) := by
  split
  · exact ht
  · exact hu

theorem itePair {c : Prop} [Decidable c] {β : Type} {s : State} {x y : State × β} (hx : s.WorkEnded x.1) (hy : s.WorkEnded y.1) :
    s.WorkEnded (if c then x else y).1 := by
  split
  · exact hx
  · exact hy

end State.WorkEnded

/-- An operation that moves no register, no attic and no room. -/
theorem Effect.workEnded {F : List Part} {s t : State} (he : Effect F s t)
    (hF : (F.contains .regs || F.contains .attics || F.contains .rooms) = false) : s.WorkEnded t := by
  simp only [Bool.or_eq_false_iff] at hF
  obtain ⟨⟨hregs, hattics⟩, hrooms⟩ := hF
  refine ⟨he.atticsKept hattics, fun r => by rw [he.room_eq hrooms], fun r k h => ?_⟩
  rwa [State.regN, he.reg_eq hregs]

/-! ## Registers, rooms and records -/

theorem State.workEnded_modRoom (s : State) (r : Nat) {f : Room → Room} (hf : ∀ x, (f x).count = x.count) : s.WorkEnded (s.modRoom r f) := by
  refine ⟨fun _ => rfl, fun k => ?_, fun _ _ h => h⟩
  by_cases hk : k = r
  · subst hk
    rw [State.room_modRoom]
    exact hf _
  · rw [s.room_modRoom_ne r k f hk]

theorem State.workEnded_setReg (s : State) {n : RegName} (hn : RegName.atticErr ≠ n) (i : Nat) (x : W64) : s.WorkEnded (s.setReg n i x) :=
  ⟨fun _ => rfl, fun _ => rfl, fun r k h => by rwa [State.regN, s.reg_setReg_name n .atticErr i r x hn]⟩

theorem State.workEnded_orReg (s : State) (n : RegName) (i mask : Nat) : s.WorkEnded (s.orReg n i mask) :=
  ⟨fun _ => rfl, fun _ => rfl, fun _ _ h => s.bitOf_orReg_mono h⟩

theorem State.workEnded_bumpCount (s : State) {n : RegName} (hn : RegName.atticErr ≠ n) (i r : Nat) : s.WorkEnded (s.bumpCount n i r) :=
  (s.workEnded_setReg hn ..).trans ((State.testWatches_effect ..).workEnded rfl)

theorem State.workEnded_post (s : State) (e : ErrRecord) : s.WorkEnded (s.post e) :=
  ⟨s.atticsKept_post e, fun r => by rw [(s.post_effect e).room_eq rfl], fun r k h => by rwa [State.regN, s.reg_post (n := .atticErr) (by decide) (by decide)]⟩

theorem State.workEnded_postRoom (s : State) (cause r info : Nat) : s.WorkEnded (s.postRoom cause r info) := s.workEnded_post _

/-! ## Memory -/

theorem State.workEnded_bump (s : State) : s.WorkEnded s.bump := s.bump_effect.workEnded rfl

theorem State.workEnded_atticError (s : State) (r bit kind cause : Nat) (banked : Bool) (o lane : Nat) :
    s.WorkEnded (s.atticError r bit kind cause banked o lane) :=
  ((s.workEnded_orReg ..).trans (State.workEnded_setReg _ (by decide) ..)).trans (State.workEnded_post ..)

theorem State.workEnded_bankAccess (s : State) (r : Nat) (banked : Bool) (o : Nat) : s.WorkEnded (s.bankAccess r banked o) :=
  s.workEnded_atticError ..

theorem State.workEnded_noteView (s : State) (r : Nat) (banked : Bool) (o n : Nat) : s.WorkEnded (s.noteView r banked o n) :=
  ⟨s.atticsKept_noteView r banked o n, fun _ => rfl, fun _ _ h => h⟩

theorem State.workEnded_afterRead (s : State) (p : Place) (n : Nat) : s.WorkEnded (s.afterRead p n) := by
  unfold State.afterRead
  split
  · exact (State.WorkEnded.ite (s.workEnded_noteView ..) (s.workEnded_bankAccess ..)).trans (State.workEnded_bump _)
  · exact s.workEnded_bump

theorem State.workEnded_writePantry (s : State) (r o : Nat) (l : List Byte) (w : Option Nat) : s.WorkEnded (s.writePantry r o l w) :=
  (State.writePantry_effect ..).workEnded rfl

theorem State.workEnded_writeAttic (s : State) (r : Nat) (banked : Bool) (o : Nat) (l : List Byte) (w : Option Nat) :
    s.WorkEnded (s.writeAttic r banked o l w) := by
  have hput : s.WorkEnded (((s.putAttic r banked o l).noteView r banked o l.length).dropReservations r w (atticWords r banked o l.length)) :=
    (((State.putAttic_effect ..).workEnded rfl).trans (State.workEnded_noteView ..)).trans ((State.dropReservations_effect ..).workEnded rfl)
  exact .ite hput (hput.trans (State.workEnded_modRoom _ r fun _ => rfl))

theorem State.workEnded_memWrite (s : State) (p : Place) (l : List Byte) (w : Option Nat) : s.WorkEnded (s.memWrite p l w) := by
  unfold State.memWrite
  split
  case h_1 =>
    have hwrite := s.workEnded_writeAttic
    exact .ite ((s.workEnded_bankAccess ..).trans (State.workEnded_bump _))
      ((State.WorkEnded.ite ((hwrite ..).trans (State.workEnded_atticError ..)) (hwrite ..)).trans (State.workEnded_bump _))
  case h_2 =>
    have hwrite := s.workEnded_writePantry
    exact (State.WorkEnded.ite ((hwrite ..).trans (State.workEnded_postRoom ..)) (hwrite ..)).trans (State.workEnded_bump _)
  case h_3 => exact ((State.putBytes_effect ..).workEnded rfl).trans (State.workEnded_bump _)
  case h_4 => exact .refl s

theorem State.workEnded_atomicPerform (s : State) (op : HomeAtomic) (p : Place) (w : Option Nat) : s.WorkEnded (s.atomicPerform op p w) := by
  unfold State.atomicPerform
  split
  · exact (s.workEnded_memWrite ..).trans ((State.guardLease_effect ..).workEnded rfl)
  · exact s.workEnded_afterRead ..

theorem State.workEnded_pwrite (s : State) (p : Place) (l : List PByte) : s.WorkEnded (s.pwrite p l) := by
  have hpoison (q : Place) (t : State) :
      t.WorkEnded ((l.zipIdx).foldl (fun s x => if x.1.2 then s.setPoison (wordKeyAt q x.2) true else s) t) :=
    .foldl (fun u _ => .ite ((State.setPoison_effect ..).workEnded rfl) (.refl u)) _ t
  unfold State.pwrite
  split
  · exact (s.workEnded_memWrite ..).trans (hpoison ..)
  · exact (s.workEnded_memWrite ..).trans (hpoison ..)
  · exact s.workEnded_memWrite ..

theorem State.workEnded_noteWalk (s : State) (r : Nat) (a : Authority) (n : Need) (va : W64) : s.WorkEnded (s.noteWalk r a n va) := by
  unfold State.noteWalk
  split
  · exact s.workEnded_bankAccess ..
  · exact .refl s

/-! ## The array (R80) -/

theorem State.workEnded_putRows (s : State) (r : Nat) (l : List (Nat × List PByte)) : s.WorkEnded (s.putRows r l) :=
  .foldl (fun t _ => t.workEnded_pwrite ..) l s

theorem State.workEnded_arrayCut (s : State) (r : Nat) (e : ArrayEntry) : s.WorkEnded (s.arrayCut r e) := by
  have hcells (t : State) : t.WorkEnded (t.freeCells r e) := (State.freeCells_effect ..).workEnded rfl
  unfold State.arrayCut
  dsimp only
  split
  · refine State.WorkEnded.trans ?_ (State.workEnded_setReg _ (by decide) ..)
    exact (State.WorkEnded.ite (s.workEnded_putRows ..) (.refl s)).trans (hcells _)
  · exact s.workEnded_putRows ..
  · exact hcells s
  · exact s.workEnded_setReg (by decide) ..

theorem State.workEnded_arrayFinish (s : State) (r : Nat) (e : ArrayEntry) (st arith cycles : Nat) :
    s.WorkEnded (s.arrayFinish r e st arith cycles) :=
  ((((State.arrayRecord_effect ..).workEnded rfl).trans (State.workEnded_orReg ..)).trans
    ((State.modArray_effect ..).workEnded rfl)).trans (State.workEnded_bumpCount _ (by decide) ..)

theorem State.workEnded_arrayAbort (f r : Nat) (s : State) : s.WorkEnded (State.arrayAbort f r s) := by
  induction f generalizing s with
  | zero => exact .refl s
  | succ f ih =>
    unfold State.arrayAbort
    dsimp only
    split
    · exact .refl s
    · refine State.WorkEnded.trans ?_ (ih _)
      refine State.WorkEnded.trans ?_ (State.workEnded_arrayFinish ..)
      exact (State.WorkEnded.ite (s.workEnded_arrayCut ..) (.refl s)).trans (State.workEnded_bump _)

/-! ## The TREE_SEQ unit (R245, R246, R258) -/

theorem State.workEnded_treeError (s : State) (r bit : Nat) : s.WorkEnded (s.treeError r bit) :=
  (s.workEnded_orReg .treeErr r (2 ^ bit)).trans (State.workEnded_postRoom ..)

theorem State.workEnded_treeFinish (s : State) (r : Nat) (c : TreeCmd) (st failed : Nat) : s.WorkEnded (s.treeFinish r c st failed) := by
  unfold State.treeFinish
  refine State.WorkEnded.trans ?_ (State.workEnded_bumpCount _ (by decide) ..)
  refine State.WorkEnded.trans ?_ ((State.dropSeqs_effect ..).workEnded rfl)
  refine State.WorkEnded.trans ?_ ((State.modTree_effect ..).workEnded rfl)
  have hrecord : s.WorkEnded (if c.records then s.treeRecord r c st failed else s) :=
    .ite ((State.treeRecord_effect ..).workEnded rfl) (.refl s)
  have hsignal {t : State} (h : s.WorkEnded t) :
      s.WorkEnded (if c.records && c.sigEn && c.sigOff % 8 == 0 && decide (c.sigOff + 8 ≤ pantrySize)
        then t.signalSet r c.sigOff c.sigBit else t) := .ite (h.trans (t.workEnded_atomicPerform ..)) h
  have hall := hsignal hrecord
  exact .ite (hall.trans (State.workEnded_treeError ..)) (.ite (hall.trans (State.workEnded_treeError ..)) hall)

theorem State.workEnded_treeNote (s : State) (r : Nat) (c : TreeCmd) : s.WorkEnded (s.treeNote r c) := by
  have hseq (t : State) (a : Authority) (va : Nat) : t.WorkEnded (t.noteSeq r a va) := by
    unfold State.noteSeq
    split
    · exact t.workEnded_noteWalk ..
    · exact t.workEnded_afterRead ..
  exact .foldl (fun t _ => .ite (hseq ..) (.refl t)) _ s

theorem State.workEnded_treePrep (s : State) (r : Nat) (p : Place) (writes : Bool) (b : List Byte) (e : TreeEntry) :
    s.WorkEnded (s.treePrep r p writes b e).1 :=
  .itePair (.refl s) <| .itePair (.refl s) <| .itePair (.refl s) <| .itePair (.refl s) <|
    (s.workEnded_pwrite ..).trans (State.workEnded_memWrite ..)

theorem State.workEnded_treeKvput (s : State) (r : Nat) (c : TreeCmd) (q : SeqEntry) (e : TreeEntry) :
    s.WorkEnded (s.treeKvput r c q e).1 := by
  unfold State.treeKvput
  refine .itePair (.refl s) <| .itePair (.refl s) <| .itePair (.refl s) ?_
  split
  · exact .refl s
  · exact .foldl (fun t _ => t.workEnded_pwrite ..) _ s

theorem State.workEnded_treeAccept (s : State) (r : Nat) (q : SeqEntry) (e : TreeEntry) : s.WorkEnded (s.treeAccept r q e).1 :=
  .itePair (.refl s) <| .itePair (.refl s) <| .itePair (.refl s) <|
    ((s.workEnded_pwrite ..).trans (State.workEnded_pwrite ..)).trans (State.workEnded_bump _)

theorem State.workEnded_copySlot (s : State) (r src dst e : Nat) : s.WorkEnded (s.copySlot r src dst e).1 := by
  unfold State.copySlot
  dsimp only
  exact (s.workEnded_pwrite ..).trans (State.workEnded_pwrite ..)

theorem State.workEnded_copySlots (s : State) (r e : Nat) (l : List (Nat × Nat)) :
    s.WorkEnded (l.foldl (fun (t : State × Bool) x => let y := t.1.copySlot r x.1 x.2 e; (y.1, t.2 || y.2)) (s, false)).1 :=
  .foldlFst (f := fun (t : State × Bool) (x : Nat × Nat) => let y := t.1.copySlot r x.1 x.2 e; (y.1, t.2 || y.2))
    (fun t x => t.1.workEnded_copySlot r x.1 x.2 e) l (s, false)

theorem State.workEnded_treeCommit (s : State) (r : Nat) (c : TreeCmd) (p : Place) (writes : Bool) (b : List Byte) (q : SeqEntry)
    (e : TreeEntry) : s.WorkEnded (s.treeCommit r c p writes b q e).1 := by
  unfold State.treeCommit
  dsimp only
  refine .itePair (.refl s) <| .itePair (.refl s) <| .itePair (.refl s) <| .itePair (.refl s) <| .itePair (.refl s) <|
    .itePair (.refl s) ?_
  split
  · exact s.workEnded_memWrite ..
  next l _ => exact (s.workEnded_copySlots r c.e l).trans (State.workEnded_memWrite ..)

theorem State.workEnded_treeOne (s : State) (r : Nat) (c : TreeCmd) (e : TreeEntry) : s.WorkEnded (s.treeOne r c e).1 := by
  unfold State.treeOne
  refine .itePair (.refl s) ?_
  split
  · exact .refl s
  · dsimp only
    have hwrite := s.workEnded_memWrite
    split
    case h_1 => exact .itePair (.refl s) <| .itePair (.refl s) (hwrite ..)
    case h_2 => exact .itePair (.refl s) <| .itePair (.refl s) (hwrite ..)
    case h_3 => exact .itePair (s.workEnded_treePrep ..) (.refl s)
    case h_4 => exact .itePair (s.workEnded_treeKvput ..) (.refl s)
    case h_5 => exact .itePair (s.workEnded_treeAccept ..) (.refl s)
    case h_6 => exact .itePair (s.workEnded_treeCommit ..) (.refl s)
    case h_7 => exact .itePair (.refl s) <| .itePair (.refl s) <| .itePair (.refl s) <| .itePair (hwrite ..) (hwrite ..)

theorem State.workEnded_treeList (s : State) (r : Nat) (c : TreeCmd) (n : Nat) : s.WorkEnded (s.treeList r c n).1 := by
  have hstep (t : State) (j : Nat) : t.WorkEnded (t.treeStep r c j).1 := by
    unfold State.treeStep
    dsimp only
    exact ((t.workEnded_treeOne ..).trans ((State.guardProv_effect ..).workEnded rfl)).trans (State.workEnded_memWrite ..)
  exact State.WorkEnded.foldlFst (f := fun x j => let y := x.1.treeStep r c j; (y.1, x.2 ++ [y.2])) (fun x j => hstep x.1 j) _ (s, [])

theorem State.workEnded_treeTopkRun (s : State) (r : Nat) (c : TreeCmd) (n : Nat) : s.WorkEnded (s.treeTopkRun r c n).1 := by
  refine State.WorkEnded.foldlFst (fun x j => ?_) _ (s, [])
  exact x.1.workEnded_pwrite (.pantry r (c.outOff + j * c.k * 8)) _

theorem State.workEnded_treePart (s : State) (r : Nat) (c : TreeCmd) (n : Nat) : s.WorkEnded (s.treePart r c n).1 := by
  have hblur : s.WorkEnded (s.blur c.unfenced) := (State.blur_effect ..).workEnded rfl
  have hrun : s.WorkEnded (if c.lists then (s.blur c.unfenced).treeList r c n else (s.blur c.unfenced).treeTopkRun r c n).1 :=
    .itePair (hblur.trans (State.workEnded_treeList ..)) (hblur.trans (State.workEnded_treeTopkRun ..))
  have hback := hrun.trans ((State.unblur_effect _ (s.freshBytes c.unfenced)).workEnded rfl)
  exact .ite (hback.trans (State.workEnded_treeNote ..)) hback

theorem State.workEnded_treeAbort (f r : Nat) (s : State) : s.WorkEnded (State.treeAbort f r s) := by
  induction f generalizing s with
  | zero => exact .refl s
  | succ f ih =>
    unfold State.treeAbort
    split
    · exact .refl s
    · exact (s.workEnded_treeFinish ..).trans (ih _)

theorem State.workEnded_treeEndHead (s : State) (r : Nat) : s.WorkEnded (s.treeEndHead r) := by
  unfold State.treeEndHead
  split
  · exact .refl s
  · exact ((s.workEnded_treePart ..).trans (State.workEnded_treeFinish ..)).trans (State.workEnded_bump _)

/-! ## The dumbwaiter (R270, R278) -/

theorem State.workEnded_modDw (s : State) (k : Nat) (f : DwChan → DwChan) : s.WorkEnded (s.modDw k f) :=
  (State.modDw_effect ..).workEnded rfl

theorem State.workEnded_dwNoteFail (s : State) (k : Nat) (p : DwProgram) (e : DwFail) : s.WorkEnded (s.dwNoteFail k p e) := by
  unfold State.dwNoteFail
  refine State.WorkEnded.ite (.refl s) ?_
  dsimp only
  split
  · exact .ite (.refl s) (s.workEnded_bankAccess ..)
  · exact .refl s
  · exact s.workEnded_noteWalk ..

theorem State.workEnded_dwWriteSome (s : State) (k : Nat) (p : DwProgram) (t : DwStep) (rows : List DwRow) :
    s.WorkEnded (s.dwWriteSome k p t rows).1 := by
  have hpart (x : State × Nat × Nat) (q : Place × List PByte) : x.1.WorkEnded (State.dwWritePart x q).1 := by
    unfold State.dwWritePart
    split
    · exact (x.1.workEnded_pwrite ..).trans ((State.storeAt_effect ..).workEnded rfl)
    · exact .refl x.1
  unfold State.dwWriteSome
  dsimp only
  exact ((State.WorkEnded.foldlFst hpart _ (s, 0, 0)).trans ((State.spoilKeys_effect ..).workEnded rfl)).trans (State.workEnded_bump _)

theorem State.workEnded_dwSignalAt (s : State) (k va : Nat) (pl : Place) (op : HomeAtomic) : s.WorkEnded (s.dwSignalAt k va pl op) := by
  unfold State.dwSignalAt
  split
  · refine State.WorkEnded.trans ?_ (State.workEnded_bump _)
    split <;> exact s.workEnded_modDw ..
  · split
    · exact (s.workEnded_atomicPerform ..).trans (State.workEnded_modDw ..)
    · exact .refl s
    · exact (s.workEnded_afterRead ..).trans (State.workEnded_modDw ..)

theorem State.workEnded_dwSignalStep (s : State) (k : Nat) (t : DwStep) : s.WorkEnded (s.dwSignalStep k t) := by
  unfold State.dwSignalStep
  refine State.WorkEnded.ite (s.workEnded_modDw ..) (.ite (s.workEnded_modDw ..) ?_)
  split
  · exact (s.workEnded_dwNoteFail ..).trans (State.workEnded_modDw ..)
  · refine State.WorkEnded.ite (s.workEnded_modDw ..) ?_
    split
    · have hat := s.workEnded_dwSignalAt
      exact .ite (((hat ..).trans ((State.spoilKeys_effect ..).workEnded rfl)).trans (State.workEnded_bump _)) (hat ..)
    · exact s.workEnded_dwSignalAt ..
    · exact s.workEnded_modDw ..

theorem State.workEnded_dwCut (s : State) (k : Nat) : s.WorkEnded (s.dwCut k) := by
  unfold State.dwCut
  refine State.WorkEnded.ite (.refl s) ?_
  split
  · exact .refl s
  · refine State.WorkEnded.ite ?_ (.ite (.refl s) ?_)
    · exact (State.WorkEnded.ite ((s.workEnded_dwSignalStep ..).trans (State.workEnded_modDw ..)) (.refl s)).trans
        (State.workEnded_bump _)
    · split
      · exact .refl s
      · exact (s.workEnded_dwWriteSome ..).trans (State.workEnded_modDw ..)

theorem State.workEnded_dwLeave (s : State) (r : Nat) (x : DwLeaving) : s.WorkEnded (s.dwLeave r x) := by
  unfold State.dwLeave
  refine State.WorkEnded.trans ?_ (State.workEnded_bumpCount _ (by decide) ..)
  refine State.WorkEnded.trans ?_ (State.workEnded_modDw ..)
  refine State.WorkEnded.trans ?_ ((State.dropGuard_effect ..).workEnded rfl)
  split
  · exact (s.workEnded_writePantry ..).trans (State.workEnded_setReg _ (by decide) ..)
  · exact .refl s

theorem State.workEnded_dwDrain (f r : Nat) (s : State) : s.WorkEnded (State.dwDrain f r s) := by
  induction f generalizing s with
  | zero => exact .refl s
  | succ f ih =>
    unfold State.dwDrain
    split
    · exact .refl s
    next l _ =>
      have horder : s.WorkEnded { s with dwOrder := tset r l s.dwOrder } := ⟨fun _ => rfl, fun _ => rfl, fun _ _ h => h⟩
      exact .ite (.refl s) ((horder.trans (State.workEnded_dwLeave ..)).trans (ih _))

theorem State.workEnded_dwFinish (s : State) (k : Nat) (c : DwChan) (st va : Nat) (halt : Bool) :
    s.WorkEnded (s.dwFinish k c st va halt) := by
  have hpost : s.WorkEnded (s.dwPostFail k st va) := by
    unfold State.dwPostFail
    exact .ite (.ite (s.workEnded_post _) (s.workEnded_post _)) (.refl s)
  unfold State.dwFinish
  refine State.WorkEnded.ite (hpost.trans ((State.dwDoorDone_effect ..).workEnded rfl)) ?_
  refine State.WorkEnded.trans ?_ (State.workEnded_dwDrain ..)
  exact ⟨hpost.attics, hpost.counts, hpost.errs⟩

theorem State.workEnded_dwAbort (f k : Nat) (s : State) : s.WorkEnded (State.dwAbort f k s) := by
  induction f generalizing s with
  | zero => exact .refl s
  | succ f ih =>
    unfold State.dwAbort
    dsimp only
    split
    · exact .refl s
    · exact (s.workEnded_dwFinish ..).trans (ih _)

theorem State.workEnded_dwFlush (s : State) (k : Nat) : s.WorkEnded (s.dwFlush k) := by
  have habort := State.workEnded_dwAbort 4 k s
  exact .ite habort (habort.trans (State.workEnded_modDw ..))

/-- R420: the end of the grace phase leaves the attics' controllers, and the bits that stand in ATTIC_ERR. -/
theorem State.workEnded_endGrace (s : State) (r : Nat) : s.WorkEnded (s.endGrace r) := by
  unfold State.endGrace
  refine State.WorkEnded.trans ?_ (.foldl (fun t _ => (t.workEnded_dwCut _).trans (State.workEnded_dwFlush _ _)) _ _)
  exact ((State.workEnded_arrayAbort ..).trans (State.workEnded_treeEndHead ..)).trans (State.workEnded_treeAbort ..)

theorem State.workEnded_treeCut (s : State) (r : Nat) : s.WorkEnded (s.treeCut r) := by
  unfold State.treeCut
  split
  · exact .refl s
  · refine State.WorkEnded.ite (.refl s) ?_
    have hpart := s.workEnded_treePart
    dsimp only
    refine State.WorkEnded.ite ((hpart ..).trans (State.workEnded_bump _)) ?_
    split
    · exact (State.WorkEnded.ite ((hpart ..).trans (State.workEnded_memWrite ..)) (hpart ..)).trans (State.workEnded_bump _)
    · exact (hpart ..).trans (State.workEnded_bump _)

/-- R119: what a reset cuts short of a room's work leaves the counts of epochs. -/
theorem State.workEnded_cutWork (s : State) (r : Nat) : s.WorkEnded (s.cutWork r) :=
  (((State.avuDiscard_effect ..).workEnded rfl).trans (State.workEnded_treeCut ..)).trans (.foldl (fun t _ => t.workEnded_dwCut _) _ _)

/-! ## Requests, collectives and children (R364) -/

theorem State.workEnded_storeError (s : State) (k : Nat) (va : W64) : s.WorkEnded (s.storeError k va) :=
  ((State.modHartAt_effect ..).workEnded rfl).trans (State.workEnded_post ..)

theorem State.workEnded_endSpawn (s : State) (q : Req) (m : SpawnMsg) (status : Nat) : s.WorkEnded (s.endSpawn q m status) := by
  have hresult : s.WorkEnded (s.deliverResult q (toBytes 8 status)) := (State.deliverResult_effect ..).workEnded rfl
  exact .ite (hresult.trans (State.workEnded_modRoom _ _ fun _ => rfl)) hresult

theorem State.workEnded_endRequest (s : State) (q : Req) (status : Nat) (data : List Byte) (poison : Bool) :
    s.WorkEnded (s.endRequest q status data poison) := by
  have htrap (k cause code : Nat) (va : W64) : s.WorkEnded (s.remoteTrap k cause code va) := (State.remoteTrap_effect ..).workEnded rfl
  have hresult : s.WorkEnded (s.deliverResult q data) := (State.deliverResult_effect ..).workEnded rfl
  have hstore : s.WorkEnded (if status = 0 then s else s.storeError (q.room * 32 + q.hart) q.va) := .ite (.refl s) (s.workEnded_storeError ..)
  unfold State.endRequest
  refine State.WorkEnded.ite ((hstore.trans ((State.endAcquire_effect ..).workEnded rfl)).trans ((State.endFence_effect ..).workEnded rfl)) ?_
  split
  · exact .ite (s.workEnded_endSpawn ..) (.ite (htrap ..) (.ite (htrap ..) (s.workEnded_endSpawn ..)))
  · exact .ite (htrap ..) (.ite (htrap ..) hresult)

theorem State.workEnded_endNow (s : State) (q : Req) (status : Nat) : s.WorkEnded (s.endNow q status) :=
  ((State.retireTag_effect ..).workEnded rfl).trans (State.workEnded_endRequest ..)

theorem State.workEnded_collRecord (s : State) (r : Nat) (e : CollEntry) (status arith failed : Nat) :
    s.WorkEnded (s.collRecord r e status arith failed) := by
  unfold State.collRecord
  dsimp only
  have hsignal {t : State} (h : s.WorkEnded t) :
      s.WorkEnded (if bitOf (wordN e.words 7) 57 then t.signalSet r (collSigOff e.words) (fld (wordN e.words 7) 63 58) else t) :=
    .ite (h.trans (t.workEnded_atomicPerform ..)) h
  have hdone {t : State} (h : s.WorkEnded t) (l : List CollEntry) : s.WorkEnded (t.setColl r l) := h.trans ((State.setColl_effect ..).workEnded rfl)
  split
  · exact hdone (hsignal (s.workEnded_writePantry ..)) _
  · exact (hdone (hsignal (s.workEnded_writePantry ..)) _).trans ((State.modHartAt_effect ..).workEnded rfl)

theorem State.workEnded_endInst (s : State) (i : CollInst) (status failed : Nat) : s.WorkEnded (s.endInst i status failed) := by
  have hspoil (l : List (Nat × CollEntry)) : s.WorkEnded (l.foldl (fun t p => t.collSpoil i p.1 p.2) s.bump) :=
    s.workEnded_bump.trans (.foldl (fun _ _ => (State.collSpoil_effect ..).workEnded rfl) _ _)
  have hrecords (t : State) (l : List (Nat × CollEntry)) : t.WorkEnded (l.foldl (fun t p => t.collRecord p.1 p.2 status 0 failed) t) :=
    .foldl (fun t p => t.workEnded_collRecord ..) _ _
  have hhere : s.WorkEnded (s.endHere i status failed) := by
    set t := if status = 0x40 ∨ status = 0x41 then (s.instEntries i.id i.m0).foldl (fun t p => t.collSpoil i p.1 p.2) s.bump else s
    set u := (s.instEntries i.id i.m0).foldl (fun t p => t.collRecord p.1 p.2 status 0 failed) t
    have hall : s.WorkEnded (u.dropInst i.id i.m0) :=
      ((State.WorkEnded.ite (hspoil _) (.refl s)).trans (hrecords t _)).trans ((State.dropInst_effect ..).workEnded rfl)
    exact ⟨hall.attics, hall.counts, hall.errs⟩
  exact hhere.trans (.foldl (fun _ _ => (State.send_effect ..).workEnded rfl) _ _)

theorem State.workEnded_collAbsent (s : State) (p : W32 → Bool) : s.WorkEnded (s.collAbsent p) := by
  refine .foldl (fun t i => ?_) _ s
  split
  · exact t.workEnded_endInst ..
  · exact .refl t

theorem State.workEnded_childEnded (s : State) (p : HartId) (child : W32) (e : ChildEnd) : s.WorkEnded (s.childEnded p child e) := by
  have hchild (f : Room → Room) (hf : ∀ x, (f x).count = x.count) : s.WorkEnded (s.modRoom p.room.val f) := s.workEnded_modRoom _ hf
  have hjoined (rd st : Nat) (v : W64) : s.WorkEnded (s.joined p rd child st v) :=
    ((State.modHart_effect ..).workEnded rfl).trans (State.workEnded_modRoom _ _ fun _ => rfl)
  unfold State.childEnded
  split
  · split
    · split <;> exact hjoined ..
    · exact hchild _ fun _ => rfl
  · exact hchild _ fun _ => rfl

theorem State.workEnded_absentChildren (s : State) (subject : W32) : s.WorkEnded (s.absentChildren subject) := by
  refine .foldl (fun t p => .foldl (fun u c => ?_) _ t) _ s
  dsimp only
  split
  · split
    · exact u.workEnded_childEnded ..
    · exact .refl u
  · exact .refl u

/-- R364: the end of what a subject concerns leaves the counts of epochs. -/
theorem State.workEnded_endSubject (s : State) (kind : Nat) (subject : W32) : s.WorkEnded (s.endSubject kind subject) := by
  refine State.WorkEnded.trans ?_ (State.workEnded_absentChildren ..)
  refine State.WorkEnded.trans ?_ (State.workEnded_collAbsent ..)
  exact ((State.mailConcerned_effect ..).workEnded rfl).trans (.foldl (fun t q => t.workEnded_endNow q 2) _ _)

end Sys2Proof.Machine


/-! Sensors, bands, throttling, the hard stop and the trip (O20). -/
namespace Sys2Proof.Machine

/-! ## Samples (R168, R414, R417) -/

theorem State.attic_noteSample (s : State) (r w : Nat) : ((s.noteCool r).noteCycles w).attic r = s.attic r := by
  rw [(State.noteCycles_effect ..).attic_eq rfl, (State.noteCool_effect ..).attic_eq rfl]

/-- R168: the samples of an attic are held; where they give another band, the attic enters it. -/
theorem State.attic_atticSample (s : State) (r : Nat) (x y z : Int) :
    ∃ a b, a = { s.attic r with temps := (x, y, z) } ∧ b = bandAt atticBounds (s.attic r).band a.temp ∧
      (s.atticSample r x y z).attic r = if b = a.band then a else a.enterBand b := by
  refine ⟨_, _, rfl, rfl, ?_⟩
  set t := s.modAttic r fun a => { a with temps := (x, y, z) } with ht
  have hattic : t.attic r = { s.attic r with temps := (x, y, z) } := s.attic_modAttic ..
  unfold State.atticSample
  dsimp only
  rw [← ht, hattic]
  split
  · rw [State.attic_noteSample, hattic]
  · set u := ((t.noteCool r).noteCycles (r / 32)).modAttic r (·.enterBand (bandAt atticBounds (s.attic r).band _)) with hu
    have hband : u.attic r = AtticB.enterBand { s.attic r with temps := (x, y, z) }
        (bandAt atticBounds (s.attic r).band (AtticB.temp { s.attic r with temps := (x, y, z) })) := by
      rw [hu, State.attic_modAttic, State.attic_noteSample, hattic]
    rw [(State.thermal_effect ..).attic_eq rfl, (State.mailBand_effect ..).attic_eq rfl]
    split
    · exact hband
    · exact hband

theorem State.atticSample_spec (s : State) (r : Nat) (x y z : Int) :
    ((s.atticSample r x y z).attic r).temps = (x, y, z) ∧
      ((s.atticSample r x y z).attic r).band =
        bandAt atticBounds (s.attic r).band ((s.atticSample r x y z).attic r).temp := by
  obtain ⟨a, b, ha, hb, heq⟩ := s.attic_atticSample r x y z
  rw [heq, ← show a.band = (s.attic r).band by rw [ha]]
  subst ha
  split
  case isTrue h => exact ⟨rfl, h.symm.trans hb⟩
  case isFalse => exact ⟨rfl, hb⟩

theorem State.rtherm_noteCool (s : State) (r : Nat) : ∃ c, (s.noteCool r).rtherm r = { s.rtherm r with coolSince := c } :=
  ⟨_, s.rtherm_modRtherm r _⟩

/-- R414: the floor samples of a room are held with the band that they give. -/
theorem State.rtherm_floorSample (s : State) (r : Nat) (x y : Int) :
    ∃ c, (s.floorSample r x y).rtherm r =
      { s.rtherm r with
        floor := (x, y), coolSince := c,
        band := bandAt logicBounds (s.rtherm r).band (RoomTherm.max { s.rtherm r with floor := (x, y) }) } := by
  set t := s.modRtherm r fun a => { a with floor := (x, y) } with ht
  have hfloor : t.rtherm r = { s.rtherm r with floor := (x, y) } := s.rtherm_modRtherm ..
  obtain ⟨c, hcool⟩ := (t.modRtherm r fun a => { a with band := bandAt logicBounds (s.rtherm r).band (t.rtherm r).max }).rtherm_noteCool r
  simp only [State.rtherm_modRtherm, hfloor] at hcool
  refine ⟨c, ?_⟩
  unfold State.floorSample
  dsimp only
  rw [← ht, hfloor]
  split
  · exact hcool
  · rw [State.rtherm_thermal, State.rtherm, (State.mailBand_effect ..).1 .therm rfl]
    exact hcool

/-! ## Dies that are hot keep their readings (R414) -/

theorem State.dies_applySetting (s : State) (key : Nat) (v : List Byte) : (s.applySetting key v).therm.dies = s.therm.dies := by
  unfold State.applySetting
  dsimp only
  split
  case h_3 =>
    have he := Effect.foldl (fun (t : State) l => State.linkCfgWrite_effect t l (BitVec.ofNat 64 (numAt v (8 * l) 8)))
      (l := List.range 48) (Effect.refl _ s)
    rw [he.1 .therm rfl]
  case h_4 =>
    have he := Effect.foldl (fun (t : State) w => State.setRegN_effect t .hallLandingCfg w (ofBytes (v.take 8) % 512))
      (l := List.range 24) (Effect.refl _ s)
    rw [he.1 .therm rfl]
  all_goals rfl

theorem State.dies_applySettings (s : State) : s.applySettings.therm.dies = s.therm.dies := by
  have hfold (l : Tab (List Byte)) (t : State) : (l.foldl (fun t p => t.applySetting p.1 p.2) t).therm.dies = t.therm.dies := by
    induction l generalizing t with
    | nil => rfl
    | cons p l ih => exact (ih _).trans (t.dies_applySetting ..)
  exact hfold s.live.settings s

theorem State.dies_stopTrial (s : State) (kind state : Nat) : (s.stopTrial kind state).therm.dies = s.therm.dies := by
  have hend : (s.endTrial kind state).therm = s.therm := (State.endTrial_effect ..).1 .therm rfl
  rw [← hend]
  unfold State.stopTrial State.restoreSettings
  dsimp only
  split
  · split
    · split
      · exact State.dies_applySettings _
      · rfl
    · rfl
  · split
    · split <;> rfl
    · rfl

theorem State.dies_takeover (s : State) (kind : Nat) : (s.takeover kind).therm.dies = s.therm.dies := by
  unfold State.takeover
  split
  · rfl
  · dsimp only
    have hcmds (t : State) (l : List MgmtCmd) : (l.foldl (fun t c => t.mgmtEnd c 0x14) t).therm = t.therm :=
      (Effect.foldl (fun (t : State) c => State.mgmtEnd_effect t c 0x14) (Effect.refl _ t)).1 .therm rfl
    have hswitch : (s.switchDoor kind).therm = s.therm := (State.switchDoor_effect ..).1 .therm rfl
    have htrial (t : State) : (if t.trialRuns kind then t.stopTrial kind 3 else t).therm.dies = t.therm.dies := by
      split
      · exact t.dies_stopTrial ..
      · rfl
    split
    · rw [hcmds, htrial]
      exact congrArg ThermB.dies hswitch
    · rw [htrial]
      exact congrArg ThermB.dies hswitch

theorem State.dies_takeoverIf (c : Prop) [Decidable c] (s : State) (kind : Nat) :
    (if c then s.takeover kind else s).therm.dies = s.therm.dies := by
  split
  · exact s.dies_takeover kind
  · rfl

theorem State.dies_doorDown (s : State) (d : Nat) : (s.doorDown d).therm.dies = s.therm.dies := by
  unfold State.doorDown
  dsimp only
  rw [(State.updatePlan_effect ..).1 .therm rfl, (State.bump_effect ..).1 .therm rfl, (State.doorEvent_effect ..).1 .therm rfl,
    (State.resetModules_effect ..).1 .therm rfl, State.dies_takeoverIf, State.dies_takeoverIf]
  rfl

theorem State.dies_dieStop (s : State) (d : Nat) : (s.dieStop d).therm.dies = s.therm.dies := by
  unfold State.dieStop
  split
  · rw [(State.updatePlan_effect ..).1 .therm rfl, (State.resetModules_effect ..).1 .therm rfl, (State.wingDown_effect ..).1 .therm rfl]
  · split
    · rw [(State.updatePlan_effect ..).1 .therm rfl, (State.resetModules_effect ..).1 .therm rfl,
        (State.porchLinksDown_effect ..).1 .therm rfl]
    · split
      · rfl
      · exact s.dies_doorDown _

theorem State.dies_thermal (s : State) (p : ThermPlace) (action : Nat) : (s.thermal p action).therm.dies = s.therm.dies := by
  obtain ⟨l, hl⟩ := s.thermal_therm p action
  rw [hl]

@[simp] theorem State.dtherm_modDtherm (s : State) (d : Nat) (f : DieTherm → DieTherm) : (s.modDtherm d f).dtherm d = f (s.dtherm d) :=
  tgetD_tset_same ..

/-- R414: the samples of a die are held with the band that they give, even where the die goes down for it. -/
theorem State.dtherm_dieSample (s : State) (d : Nat) (l : List Int) :
    (s.dieSample d l).dtherm d =
      { s.dtherm d with temps := l, band := bandAt logicBounds (s.dtherm d).band (DieTherm.max { s.dtherm d with temps := l }) } := by
  set t := s.modDtherm d fun x => { x with temps := l } with ht
  have htemps : t.dtherm d = { s.dtherm d with temps := l } := s.dtherm_modDtherm ..
  set b := bandAt logicBounds (s.dtherm d).band (t.dtherm d).max with hb
  set u := t.modDtherm d fun x => { x with band := b } with hu
  have hband : u.dtherm d = { s.dtherm d with temps := l, band := b } := by rw [hu, State.dtherm_modDtherm, htemps]
  set v := if b = (s.dtherm d).band then u else u.thermal ⟨dieThermKind d, b, (u.dtherm d).max, 0xFF, d⟩ 0 with hv
  have hevent : v.therm.dies = u.therm.dies := by
    rw [hv]
    split
    · rfl
    · exact u.dies_thermal ..
  have hsample : s.dieSample d l = if 2 ≤ b ∧ (s.dtherm d).band < 2 then v.dieStop d else v := rfl
  have hdies : (s.dieSample d l).therm.dies = u.therm.dies := by
    rw [hsample]
    split
    · rw [State.dies_dieStop, hevent]
    · exact hevent
  rw [State.dtherm, hdies, ← htemps, ← hb]
  exact hband

/-- R413: a sample of a die other than a room's goes to that die. -/
theorem exec_sensorSample_die {p : SensorPlace} {k : Nat} {l : List Int}
    (hp : (p, k, l.length) ∈ (List.finRange 24).map (fun w => (SensorPlace.wing w, w.val, 4)) ++
      (List.finRange 8).map (fun q => (SensorPlace.porch q, 96 + q.val, 2)) ++
      (List.finRange 2).map (fun d => (SensorPlace.door d, 104 + d.val, 2))) (s : State) :
    exec (.sensorSample p l) s = .next ((s.reach ((s.now / 10000 + 1) * 10000)).dieSample k l) := by
  simp only [List.mem_append, List.mem_map, List.mem_finRange, true_and, Prod.mk.injEq] at hp
  obtain (⟨w, rfl, rfl, hlen⟩ | ⟨q, rfl, rfl, hlen⟩) | ⟨d, rfl, rfl, hlen⟩ := hp
  · obtain ⟨a, b, c, e, rfl⟩ := List.length_eq_four.mp hlen.symm
    rfl
  · obtain ⟨a, b, rfl⟩ := List.length_eq_two.mp hlen.symm
    rfl
  · obtain ⟨a, b, rfl⟩ := List.length_eq_two.mp hlen.symm
    rfl

/-! ## Sensors that fail (R415, R437) -/

theorem State.bitOf_thermBit (s : State) {bit : Nat} (h : bit < 64) : bitOf ((s.thermBit bit).regN .thermErr 0) bit = true :=
  s.bitOf_orReg .thermErr 0 h

theorem State.regN_post_therm (s : State) (e : ErrRecord) (i : Nat) : (s.post e).regN .thermErr i = s.regN .thermErr i :=
  congrArg BitVec.toNat (s.reg_post (n := .thermErr) (by decide) (by decide) e i)

theorem State.bad_post (s : State) (e : ErrRecord) (r : Nat) : ((s.post e).attic r).bad = (s.attic r).bad :=
  (s.atticsKept_post e).field r AtticB.bad fun _ => rfl

/-- R415: the error register has its bit, and the sensor of a room or attic is marked. -/
theorem State.invalidate_spec (s : State) (x : SensorId) :
    bitOf ((s.invalidate x).regN .thermErr 0) 0 = true ∧
      (∀ r, x.place = .room r → ((s.invalidate x).rtherm r.val).invalid.contains x.index.val = true) ∧
      ∀ r, x.place = .attic r → ((s.invalidate x).attic r.val).bad.contains x.index.val = true := by
  have hbit (t : State) (e : ErrRecord) : bitOf (((t.thermBit 0).post e).regN .thermErr 0) 0 = true := by
    rw [State.regN_post_therm]
    exact t.bitOf_thermBit (by decide)
  obtain ⟨place, i⟩ := x
  cases place with
  | room r =>
    refine ⟨hbit .., fun q hq => ?_, fun _ hq => (nomatch hq)⟩
    cases hq
    rw [State.rtherm, State.invalidate, (State.postRoom_effect ..).1 .therm rfl, (State.thermBit_effect ..).1 .therm rfl, ← State.rtherm,
      State.rtherm_modRtherm]
    exact self_mem_ninsert ..
  | attic r =>
    refine ⟨hbit .., fun _ hq => (nomatch hq), fun q hq => ?_⟩
    cases hq
    dsimp only [State.invalidate]
    rw [State.postRoom, State.bad_post, (State.thermBit_effect ..).attic_eq rfl, State.attic_modAttic]
    exact self_mem_ninsert ..
  | wing w => exact ⟨hbit .., fun _ hq => (nomatch hq), fun _ hq => (nomatch hq)⟩
  | porch p => exact ⟨hbit .., fun _ hq => (nomatch hq), fun _ hq => (nomatch hq)⟩
  | door d => exact ⟨hbit .., fun _ hq => (nomatch hq), fun _ hq => (nomatch hq)⟩

/-! ## Throttling (R416, R417) -/

theorem State.rpow_thermal (s : State) (p : ThermPlace) (action r : Nat) : (s.thermal p action).rpow r = s.rpow r := by
  rw [State.rpow, (State.thermal_effect ..).1 .power rfl, ← State.rpow]

theorem State.therm_lowerTargets (s : State) (r : Nat) : (s.lowerTargets.rpow r).therm = (s.rpow r).therm := by
  rw [State.rpow, State.rpow, tgetD, tgetD, State.tget_lowerTargets]
  cases tget r s.power.rooms <;> rfl

/-- R416: a throttled room goes one step down. -/
theorem State.throttle_down {s : State} {r : Nat} (h : s.throttled r = true) :
    ((s.throttle r).rpow r).therm = max 400 ((if (s.rpow r).therm = 0 then s.wantedMhz r else (s.rpow r).therm) - 25) := by
  unfold State.throttle
  rw [if_pos h, State.rpow_thermal, State.therm_lowerTargets, State.rpow_modRpow]

/-- R416: a room that is throttled no more goes one step up. -/
theorem State.throttle_up {s : State} {r : Nat} (h : s.throttled r = false) :
    ((s.throttle r).rpow r).therm = if s.roomLimit ≤ (s.rpow r).therm + 25 then 0 else (s.rpow r).therm + 25 := by
  unfold State.throttle
  rw [if_neg (by rw [h]; decide)]
  obtain ⟨a, ha⟩ := (s.modRpow r fun p => { p with therm := if s.roomLimit ≤ p.therm + 25 then 0 else p.therm + 25 }).askRaises_power
  rw [State.rpow, ha]
  exact congrArg RoomPower.therm (s.rpow_modRpow r fun p => { p with therm := if s.roomLimit ≤ p.therm + 25 then 0 else p.therm + 25 })

/-- R387, R435: what was sent stays sent. -/
theorem State.sent_thermal (s : State) (p : ThermPlace) (action : Nat) {m : Sent} (h : m ∈ s.sent) : m ∈ (s.thermal p action).sent := by
  have hevent (t : State) (kind d0 d1 : Nat) (ht : m ∈ t.sent) : m ∈ (t.event kind d0 d1).sent := by
    have hdoors : ((t.doorEvent 0 ⟨kind, d0, d1⟩).doorEvent 1 ⟨kind, d0, d1⟩).sent = t.sent :=
      ((State.doorEvent_effect ..).sent_eq rfl).trans ((State.doorEvent_effect ..).sent_eq rfl)
    unfold State.event State.mirror
    split
    · exact List.mem_append_left _ (hdoors ▸ ht)
    · exact hdoors ▸ ht
  unfold State.thermal
  dsimp only
  split
  · exact h
  · exact hevent _ 2 _ _ h

/-- R387, R435: an event clears no bit of an error register. -/
theorem State.bitOf_thermal (s : State) (p : ThermPlace) (action : Nat) {n : RegName} {i k : Nat} (h : bitOf (s.regN n i) k = true) :
    bitOf ((s.thermal p action).regN n i) k = true := by
  unfold State.thermal
  dsimp only
  split
  · exact h
  · refine State.bitOf_event _ ?_ ..
    exact h

/-! ## The hard stop (R172, R420) -/

theorem atticKey_start (r : Nat) : atticKey r true 0 = r * 0x10000000 := by simp [atticKey, atticBank, atticWithin]

/-- R172: the attic stops, and its bytes are lost. -/
theorem State.hardStop_spec (s : State) (r : Nat) :
    ((s.hardStop r).attic r).phase = .stopped ∧ ((s.hardStop r).attic r).hotLoss = true ∧
      bitOf ((s.hardStop r).regN .atticErr r) 9 = true ∧
      ∀ k, r * 0x10000000 ≤ k → k < r * 0x10000000 + atticSize → tget k (s.hardStop r).mem = none := by
  set t := (State.avuAbort 16 r s).forgetBytes (atticKey r true 0) atticSize with ht
  set u := t.modAttic r fun a => { a with phase := .stopped, hotLoss := true, views := [] } with hu
  have hstop : s.hardStop r = (u.orReg .atticErr r 512).postRoom 0x16 r 0 := rfl
  have hattic : u.attic r = { t.attic r with phase := .stopped, hotLoss := true, views := [] } := t.attic_modAttic ..
  have hkept := (u.orReg .atticErr r 512).workEnded_postRoom 0x16 r 0
  rw [hstop]
  refine ⟨?_, ?_, hkept.errs r 9 (u.bitOf_orReg .atticErr r (k := 9) (by decide)), fun k hk hlt => ?_⟩
  · rw [hkept.attics.field r AtticB.phase fun _ => rfl]
    exact congrArg AtticB.phase hattic
  · rw [hkept.attics.field r AtticB.hotLoss fun _ => rfl]
    exact congrArg AtticB.hotLoss hattic
  · rw [(State.postRoom_effect ..).mem_eq rfl]
    refine tget_filter_key_out (p := fun c => decide (c < atticKey r true 0 ∨ atticKey r true 0 + atticSize ≤ c)) ?_ _
    rw [atticKey_start]
    exact decide_eq_false (by omega)

/-! ## The trip (R418) -/

/-- R418: the part trips and keeps which place was the hottest. -/
theorem State.trip_spec (s : State) (p : SensorPlace) :
    (s.trip p).boot.hold = .trip ∧ (s.trip p).aon.tripTemp = tempByte (s.placeMax p).1 ∧ (s.trip p).aon.tripPlace = (s.placeMax p).2.2 ∧
      (s.trip p).aon.tripPending = true ∧ (s.trip p).test.thermTripN = false := ⟨rfl, rfl, rfl, rfl, rfl⟩

/-- Settles O20: each clause by the rule of its sample, step, stop or trip; where the hard stop ends the grace phase, what the units
do as they end leaves the attic's alarm. -/
theorem sensorsAndBandsComplete : Obligations.SensorsAndBandsComplete := by
  unfold Obligations.SensorsAndBandsComplete
  refine ⟨fun r x y z s c hc => ?attic, fun r x y s => ?floor, fun p k l s hp => ?die, fun x s hx => ?invalid, fun r s h => ?down,
    fun r s h htherm => ?up, fun r s hband hstate hrestart => ?slow, fun r s n hcool hstate hready => ?readmissible,
    fun r s hhot hloss => ?hard, fun p s hhot hpower htrip => ?trip, fun s hhold hcool hreset hgood => ?release⟩
  case attic =>
    set t := s.reach ((s.now / 10000 + 1) * 10000) with ht
    obtain ⟨htemps, hband⟩ := t.atticSample_spec r.val x y z
    refine ⟨t.atticSample r.val x y z, ?_, htemps, hband, (State.atticSample_effect ..).mem_eq rfl⟩
    simp only [List.mem_cons, List.not_mem_nil, or_false] at hc
    obtain rfl | rfl := hc <;> rfl
  case floor =>
    obtain ⟨c, hroom⟩ := (s.reach ((s.now / 10000 + 1) * 10000)).rtherm_floorSample r.val x y
    refine ⟨_, rfl, congrArg RoomTherm.floor hroom, ?_⟩
    rw [hroom]
    rfl
  case die =>
    have hdie := (s.reach ((s.now / 10000 + 1) * 10000)).dtherm_dieSample k l
    refine ⟨_, exec_sensorSample_die hp s, congrArg DieTherm.temps hdie, ?_⟩
    rw [hdie]
    rfl
  case invalid => exact ⟨_, whenReady_of (decide_eq_true hx) .., (s.reach (s.now + 1000000)).invalidate_spec x⟩
  case down =>
    refine ⟨_, whenReady_of (by rw [h]; rfl) .., (s.reach (s.now + 1000000)).throttle_down h, ?_⟩
    rw [(State.throttle_effect ..).now_eq rfl]
    exact le_max_right ..
  case up =>
    have hready : (s.throttled r.val || (s.rpow r.val).therm != 0) = true := by simp [htherm]
    exact ⟨_, whenReady_of hready .., (s.reach (s.now + 1000000)).throttle_up h⟩
  case slow =>
    have hready : ((s.attic r.val).band == 3 && goodState (s.room r.val).cond.state && !s.restarting 3 (r.val / 32)) = true := by
      simp [hband, goodState, hstate, hrestart]
    set t := s.reach (s.now + 50000) with ht
    set u := t.slowed (BitVec.ofNat 32 (t.threadId (r.val * 32))) 200 with hu
    have hslow : Effect _ t u := State.slowed_effect ..
    refine ⟨_, whenReady_of hready .., ?_, ?_⟩
    · refine State.sent_thermal _ _ _ (List.mem_append_right _ (List.mem_singleton.mpr ?_))
      have hid : u.threadId (r.val * 32) = s.threadId (r.val * 32) := by rw [State.threadId, hslow.1 .devId rfl, ← State.threadId]; rfl
      rw [hid, hslow.room_eq rfl]
      rfl
    · rw [State.now_thermal, (State.sendNotice_effect ..).now_eq rfl, hslow.now_eq rfl]
      exact le_max_right ..
  case readmissible =>
    have hrun : execReadmissible r s = .next (((s.reach (n + 10000000)).modRtherm r.val fun x => { x with readmissible := true }).thermal
        ⟨1, (s.attic r.val).band, (s.attic r.val).temp, 0xFF, r.val⟩ 11) := by
      rw [execReadmissible, hcool]
      exact whenReady_of (by simp [hstate, hready]) ..
    refine ⟨_, hrun, ?_, ?_⟩
    · rw [State.rtherm_thermal, State.rtherm_modRtherm]
    · rw [State.now_thermal]
      exact le_max_right ..
  case hard =>
    have hready : (decide (110 * 4 ≤ (s.attic r.val).temp) && !(s.attic r.val).hotLoss) = true := by
      rw [hloss, decide_eq_true (by omega)]
      rfl
    obtain ⟨hphase, hlost, hbit, hmem⟩ := s.hardStop_spec r.val
    set t := if (s.room r.val).phase = .stopGrace then (s.hardStop r.val).endGrace r.val else s.hardStop r.val with ht
    have hkept : (s.hardStop r.val).WorkEnded t := .ite (State.workEnded_endGrace ..) (.refl _)
    refine ⟨t.thermal _ 4, whenReady_of hready .., ?_, ?_, ?_, fun k hnot hk hlt => ?_⟩
    · rw [(State.thermal_effect ..).attic_eq rfl, hkept.attics.field r.val AtticB.phase fun _ => rfl, hphase]
    · rw [(State.thermal_effect ..).attic_eq rfl, hkept.attics.field r.val AtticB.hotLoss fun _ => rfl, hlost]
    · exact t.bitOf_thermal _ _ (hkept.errs r.val 9 hbit)
    · rw [(State.thermal_effect ..).mem_eq rfl, ht, if_neg hnot]
      exact hmem k hk hlt
  case trip => exact ⟨_, whenReady_of (by simp; exact ⟨⟨by omega, hpower⟩, htrip⟩) .., s.trip_spec p⟩
  case release =>
    have hready : (s.boot.hold == .trip && s.allCool) = true := by simp [hhold, hcool]
    refine ⟨_, whenReady_of hready .., ?_⟩
    rw [if_pos (by simp [hreset, hgood])]
    exact ⟨rfl, rfl⟩

end Sys2Proof.Machine


/-! The resets of blocks: request, settle, reset and release (O24). -/
namespace Sys2Proof.Machine

/-! ## The request and its end (R439) -/

theorem mem_wingRooms {w r : Nat} : r ∈ wingRooms w ↔ r / 32 = w := by
  unfold wingRooms
  simp only [List.mem_map, List.mem_range]
  constructor
  · rintro ⟨i, hi, rfl⟩
    omega
  · intro h
    exact ⟨r % 32, by omega, by omega⟩

/-- A fold that puts each room of a list in a phase. -/
theorem State.phase_foldl {f : State → Nat → State} {p : RoomPhase} (hf : ∀ t r k, ((f t r).room k).phase = if k = r then p else (t.room k).phase)
    (l : List Nat) (s : State) (k : Nat) (hk : k ∈ l ∨ (s.room k).phase = p) : ((l.foldl f s).room k).phase = p := by
  induction l generalizing s with
  | nil => exact hk.resolve_left (List.not_mem_nil)
  | cons r l ih =>
    refine ih (f s r) ?_
    rw [hf]
    by_cases hkr : k = r
    · exact Or.inr (if_pos hkr)
    · rw [if_neg hkr]
      exact hk.imp_left fun h => (List.mem_cons.mp h).resolve_left hkr

theorem State.phase_setPhase (s : State) (r : Nat) (p : RoomPhase) (k : Nat) :
    ((s.setPhase r p).room k).phase = if k = r then p else (s.room k).phase := by
  unfold State.setPhase
  split
  case isTrue h => rw [h, State.room_modRoom]
  case isFalse h => rw [s.room_modRoom_ne r k _ h]

theorem State.blockReset_setBlock (s : State) (k : Nat) (x : BlockReset) : (s.setBlock k x).blockReset k = some x := tget_tset_same ..

/-- R439: every room of the wing is asked to stop. -/
theorem State.phase_startReset_wing {s : State} {w : Nat} (goal : BlockGoal) (hw : w < 24) (hpower : s.unpowered = false)
    (hnone : s.blockReset (768 + w) = none) {r : Nat} (hr : r / 32 = w) :
    ((s.startReset (768 + w) goal).room r).phase = .resetRequest := by
  have hrooms : blockRooms (768 + w) = wingRooms w := by
    rw [blockRooms, if_neg (by omega), if_pos (by omega), Nat.add_sub_cancel_left]
  have hstart : s.startReset (768 + w) goal =
      ((wingRooms w).foldl (fun t r => (t.endBlock r).setPhase r .resetRequest) s).setBlock (768 + w) { goal := goal, since := s.now } := by
    simp [State.startReset, hpower, hnone, hrooms]
  have hphase := State.phase_foldl (f := fun t r => (t.endBlock r).setPhase r .resetRequest) (p := .resetRequest)
    (fun t r k => (t.endBlock r).phase_setPhase r _ k) (wingRooms w) s r (Or.inl (mem_wingRooms.mpr hr))
  rw [hstart, State.setBlock, (State.modBoot_effect ..).room_eq rfl]
  exact hphase

/-! ## The block in reset (R439) -/

theorem State.blockReset_enterReset (s : State) (k : Nat) (x : BlockReset) :
    (s.enterReset k x).blockReset k = some { x with phase := .inReset, since := s.now } := by
  have hset := s.blockReset_setBlock k { x with phase := .inReset, since := s.now }
  unfold State.enterReset
  dsimp only
  unfold State.blockReset at hset ⊢
  split
  · rw [(State.resetRoom_effect ..).boot_eq rfl, hset]
  · split
    · rw [(State.resetWing_effect ..).boot_eq rfl, hset]
    · rw [(State.resetModules_effect ..).boot_eq rfl, (State.resetLinks_effect ..).boot_eq rfl, (State.porchLinksDown_effect ..).boot_eq rfl, hset]

theorem State.room_nextEpoch (s : State) (r : Nat) : ((s.nextEpoch r).room r).count = ((s.room r).count + 1) % 2 ^ 32 ∧
    ((s.nextEpoch r).room r).cond.epoch = epochOf (((s.room r).count + 1) % 2 ^ 32) := by
  unfold State.nextEpoch
  dsimp only
  rw [State.room_modRoom]
  exact ⟨rfl, rfl⟩

/-- R118: a room that loses its work takes its next epoch. -/
theorem State.room_loseRoom (s : State) (r : Nat) : ((s.loseRoom r).room r).count = ((s.room r).count + 1) % 2 ^ 32 ∧
    ((s.loseRoom r).room r).cond.epoch = epochOf (((s.room r).count + 1) % 2 ^ 32) := by
  set t := ((s.cutWork r).loseThreads r).abandon r with ht
  have hcount : (t.room r).count = (s.room r).count := by
    rw [ht, (State.abandon_effect ..).room_eq rfl, (State.loseThreads_effect ..).room_eq rfl, (s.workEnded_cutWork r).counts]
  rw [State.loseRoom, ← ht, (State.settleRepairs_effect ..).room_eq rfl, (State.forgetBytes_effect ..).room_eq rfl,
    (State.resetRegs_effect ..).room_eq rfl, ← hcount]
  exact t.room_nextEpoch r

/-- R119: a room whose reset has taken its effect, before its requests and collectives end. -/
def State.roomCleared (s : State) (r : Nat) : State :=
  let t := ((s.loseRoom r).clearBlocks r).modRoom r fun x => { cond := x.cond, count := x.count, phase := .inReset, marked := x.marked }
  let t := (t.modRpow r fun p => { p with mhz := 0, therm := 0, relief := 0, alarms := 0 }).modRtherm r fun x =>
    { x with warm := false, coolSince := none, invalid := [], readmissible := false }
  t.modAttic r fun a => { a with bad := [] }

theorem State.resetRoom_eq (s : State) (r : Nat) : s.resetRoom r =
    ((s.roomCleared r).endSubject 2 (BitVec.ofNat 32 ((s.roomCleared r).threadId (r * 32)))).sendNotice 2 r 0 := rfl

/-- R119: what a room shows once it has lost its work, with its phase, count and epoch. -/
theorem State.room_roomCleared (s : State) (r : Nat) : ((s.roomCleared r).room r).phase = .inReset ∧
    ((s.roomCleared r).room r).count = ((s.room r).count + 1) % 2 ^ 32 ∧
    ((s.roomCleared r).room r).cond.epoch = epochOf (((s.room r).count + 1) % 2 ^ 32) := by
  obtain ⟨t, ht, hcount, hepoch⟩ : ∃ t, t = (s.loseRoom r).clearBlocks r ∧ (t.room r).count = ((s.room r).count + 1) % 2 ^ 32 ∧
      (t.room r).cond.epoch = epochOf (((s.room r).count + 1) % 2 ^ 32) :=
    ⟨_, rfl, by rw [(State.clearBlocks_effect ..).room_eq rfl]; exact s.room_loseRoom r⟩
  unfold State.roomCleared
  dsimp only
  rw [← ht, (State.modAttic_effect ..).room_eq rfl, (State.modRtherm_effect ..).room_eq rfl, (State.modRpow_effect ..).room_eq rfl,
    State.room_modRoom]
  exact ⟨rfl, hcount, hepoch⟩

/-- R119: a room's reset leaves it in reset with its next epoch. -/
theorem State.resetRoom_spec (s : State) (r : Nat) : ((s.resetRoom r).room r).phase = .inReset ∧
    ((s.resetRoom r).room r).count = ((s.room r).count + 1) % 2 ^ 32 ∧
    ((s.resetRoom r).room r).cond.epoch = epochOf (((s.room r).count + 1) % 2 ^ 32) := by
  have hshown := (s.roomCleared r).unitsRan_endSubject 2 (BitVec.ofNat 32 ((s.roomCleared r).threadId (r * 32)))
  have hkept := (s.roomCleared r).workEnded_endSubject 2 (BitVec.ofNat 32 ((s.roomCleared r).threadId (r * 32)))
  rw [s.resetRoom_eq, (State.sendNotice_effect ..).room_eq rfl, (hshown.shown r).1, (hshown.shown r).2, hkept.counts]
  exact s.room_roomCleared r

/-! ## The release (R404, R439) -/

theorem State.boot_releaseBlock (s : State) (k : Nat) (goal : BlockGoal) : (s.releaseBlock k goal).boot = (s.endBlock k).boot := by
  have hask (t : State) (r : Nat) (p : RoomPhase) : ((t.ask .roomStart r).setPhase r p).boot = t.boot :=
    ((State.setPhase_effect ..).boot_eq rfl).trans ((State.ask_effect ..).boot_eq rfl)
  have hfold {f : State → Nat → State} (hf : ∀ t r, (f t r).boot = t.boot) (l : List Nat) (t : State) : (l.foldl f t).boot = t.boot := by
    induction l generalizing t with
    | nil => rfl
    | cons r l ih => exact (ih _).trans (hf t r)
  unfold State.releaseBlock
  dsimp only
  split
  · split
    · rfl
    · rw [(State.updatePlan_effect _).boot_eq rfl, (State.drainEnds_effect ..).boot_eq rfl, hask]
      rfl
    · rw [hask]
  · split
    · split
      · refine hfold (fun t r => ?_) _ _
        split <;> rfl
      · refine hfold (fun t r => ?_) _ _
        split
        · rfl
        · split
          · rfl
          · exact hask ..
    · rfl

theorem State.asked_ask (s : State) (k : GrantKind) (r : Nat) : (s.ask k r).asked k r = true := by
  unfold State.ask
  split
  case isTrue h => exact h
  case isFalse =>
    rw [State.asked, State.account_setAccount]
    simp

/-! ## Training (R173, R174, R455) -/

/-- The attic and the condition that training with these lanes leaves while it trusts the stair. -/
def State.StairTrained (s : State) (r : Nat) (lanes : List Nat) : Prop :=
  (s.attic r).failedLanes = lanes ∧ (s.room r).cond.spares = (s.attic r).sparesUsed ∧
    (s.attic r).half = ((s.attic r).halfShort 0 || (s.attic r).halfShort 1)

theorem AtticB.halfShort_of_lanes {a b : AtticB} (h : a.failedLanes = b.failedLanes) (n : Nat) : a.halfShort n = b.halfShort n := by
  unfold AtticB.halfShort AtticB.failedIn
  rw [h]

theorem AtticB.phase_resumeStair (a : AtticB) : a.resumeStair.phase = .running := by
  unfold AtticB.resumeStair
  split <;> rfl

theorem State.trainStair_spec (s : State) (r : Nat) (failed : List Nat) :
    (s.trainStair r failed).StairTrained r failed ∧ ((s.trainStair r failed).attic r).phase = .running := by
  simp only [State.trainStair, State.setWidth, State.StairTrained, State.attic_modRoom, State.attic_modAttic, State.room_modRoom]
  exact ⟨⟨trivial, rfl, rfl⟩, (s.attic r).phase_resumeStair⟩

theorem State.StairTrained.kept {s t : State} {r : Nat} {lanes : List Nat} (hs : s.StairTrained r lanes)
    (hlanes : (t.attic r).failedLanes = (s.attic r).failedLanes) (hhalf : (t.attic r).half = (s.attic r).half) (hspares : (t.room r).cond.spares = (s.room r).cond.spares) :
    t.StairTrained r lanes := by
  have hused : (t.attic r).sparesUsed = (s.attic r).sparesUsed := by
    unfold AtticB.sparesUsed AtticB.failedIn
    rw [hlanes]
  obtain ⟨hfailed, hsame, hshort⟩ := hs
  refine ⟨hlanes.trans hfailed, by rw [hspares, hsame, hused], ?_⟩
  rw [hhalf, hshort, AtticB.halfShort_of_lanes hlanes, AtticB.halfShort_of_lanes hlanes]

/-- A mask that gains the bit of each number that is not left out. -/
theorem testBit_maskOf (p : Nat → Bool) (n k : Nat) :
    ((List.range n).foldl (fun m b => if p b then m else m + 2 ^ b) 0).testBit k = (decide (k < n) && !p k) ∧
      (List.range n).foldl (fun m b => if p b then m else m + 2 ^ b) 0 < 2 ^ n := by
  induction n with
  | zero => simp
  | succ n ih =>
    obtain ⟨hbit, hlt⟩ := ih
    rw [List.range_succ, List.foldl_append, List.foldl_cons, List.foldl_nil]
    generalize (List.range n).foldl (fun m b => if p b then m else m + 2 ^ b) 0 = m at hbit hlt ⊢
    have hpow : (2 : Nat) ^ (n + 1) = 2 ^ n + 2 ^ n := by rw [pow_succ]; omega
    cases hn : p n with
    | true =>
      rw [if_pos rfl, hbit]
      refine ⟨?_, by omega⟩
      by_cases hk : k = n
      · simp [hk, hn]
      · simp [show k < n + 1 ↔ k < n by omega]
    | false =>
      rw [if_neg (by decide)]
      refine ⟨?_, by omega⟩
      rcases Nat.lt_trichotomy k n with hk | rfl | hk
      · rw [Nat.add_comm, Nat.testBit_two_pow_add_gt hk, hbit]
        simp [hk, Nat.lt_succ_of_lt hk]
      · rw [Nat.add_comm, Nat.testBit_two_pow_add_eq, hbit]
        simp [hn]
      · rw [Nat.testBit_lt_two_pow (by have := Nat.pow_le_pow_right (n := 2) (by decide) (show n + 1 ≤ k from hk); omega)]
        simp [show ¬k < n + 1 by omega]

/-- R162, R473: the banks that training leaves usable. -/
def State.banksFound (s : State) (r : Nat) (banks : List Nat) : Nat :=
  (List.range 48).foldl (fun m b => if banks.contains b || !bitOf (s.goodBanks r) b then m else m + 2 ^ b) 0

theorem State.bitOf_goodBanks (s : State) (r : Nat) {b : Nat} (hb : b < 48) :
    bitOf (s.goodBanks r) b = !s.flashLogs.banks.contains (r, b) := by
  rw [bitOf_eq_testBit, State.goodBanks, (testBit_maskOf (fun b => s.flashLogs.banks.contains (r, b)) 48 b).1, decide_eq_true hb, Bool.true_and]

theorem State.bitOf_banksFound (s : State) (r : Nat) (banks : List Nat) {b : Nat} (hb : b < 48) :
    bitOf (s.banksFound r banks) b = (!banks.contains b && !s.flashLogs.banks.contains (r, b)) := by
  rw [bitOf_eq_testBit, State.banksFound, (testBit_maskOf (fun b => banks.contains b || !bitOf (s.goodBanks r) b) 48 b).1, decide_eq_true hb,
    s.bitOf_goodBanks r hb]
  cases banks.contains b <;> cases s.flashLogs.banks.contains (r, b) <;> rfl

/-- R174: a room's stair once its repairs are applied and its lanes trained. -/
def State.stairFound (s : State) (r : Nat) (failed : List Nat) : State :=
  ((s.settleRepairs r).modAttic r fun a => { a with alwaysDown := s.optOr 0x10 1 0 == 1 }).trainStair r failed

theorem State.goodBanks_stairFound (s : State) (r : Nat) (failed : List Nat) (k : Nat) : (s.stairFound r failed).goodBanks k = s.goodBanks k := by
  have hbanks : (s.stairFound r failed).flashLogs.banks = s.flashLogs.banks := by
    rw [State.stairFound, (State.trainStair_effect ..).1 .flashLogs rfl, (State.modAttic_effect ..).1 .flashLogs rfl]
    rfl
  rw [State.goodBanks, State.goodBanks, hbanks]

/-- R174: the lanes found, their spares and the banks; the stair runs unless both halves are short. -/
theorem State.trainRoom_spec (s : State) (r : Nat) (failed banks : List Nat) :
    (s.trainRoom r failed banks).StairTrained r failed ∧
      ((((s.trainRoom r failed banks).attic r).halfShort 0 && ((s.trainRoom r failed banks).attic r).halfShort 1) = false →
        ((s.trainRoom r failed banks).attic r).phase = .running) ∧
      ((s.trainRoom r failed banks).room r).cond.bankMap = s.banksFound r banks := by
  obtain ⟨t, ht, htrained, hphase, hbanks⟩ : ∃ t, t = s.stairFound r failed ∧ t.StairTrained r failed ∧ (t.attic r).phase = .running ∧
      t.goodBanks r = s.goodBanks r :=
    have h := State.trainStair_spec ((s.settleRepairs r).modAttic r fun a => { a with alwaysDown := s.optOr 0x10 1 0 == 1 }) r failed
    ⟨_, rfl, h.1, h.2, s.goodBanks_stairFound r failed r⟩
  have hmap : (List.range 48).foldl (fun m b => if banks.contains b || !bitOf (t.goodBanks r) b then m else m + 2 ^ b) 0 = s.banksFound r banks := by
    rw [hbanks, State.banksFound]
  have htrain : s.trainRoom r failed banks =
      (if (t.attic r).halfShort 0 && (t.attic r).halfShort 1 then
        (t.postRoom 0x14 r (((List.range 72).find? fun g => decide (1 < (t.attic r).failedIn g)).getD 0)).modAttic r fun a => { a with phase := .stopped }
      else t).modRoom r fun x => { x with cond := { x.cond with bankMap := s.banksFound r banks } } := by
    rw [← hmap, ht]
    unfold State.trainRoom State.stairFound
    dsimp only
    split <;> rfl
  cases hbad : (t.attic r).halfShort 0 && (t.attic r).halfShort 1 with
  | false =>
    rw [htrain, hbad, if_neg (by decide), State.room_modRoom]
    refine ⟨htrained.kept rfl rfl (by rw [State.room_modRoom]), fun _ => hphase, rfl⟩
  | true =>
    set u := (t.postRoom 0x14 r (((List.range 72).find? fun g => decide (1 < (t.attic r).failedIn g)).getD 0)) with hu
    have hlanes : (u.attic r).failedLanes = (t.attic r).failedLanes := (t.atticsKept_post _).field r AtticB.failedLanes fun _ => rfl
    have hroom : u.room r = t.room r := (State.postRoom_effect ..).room_eq rfl r
    rw [htrain, hbad, if_pos rfl]
    refine ⟨htrained.kept ?_ ?_ ?_, fun hgood => ?_, ?_⟩
    · rw [State.attic_modRoom, State.attic_modAttic, hlanes]
    · rw [State.attic_modRoom, State.attic_modAttic]
      exact (t.atticsKept_post _).field r AtticB.half fun _ => rfl
    · rw [State.room_modRoom, State.room_modAttic, hroom]
    · rw [State.attic_modRoom, State.attic_modAttic] at hgood
      have hsame : ((u.attic r).halfShort 0 && (u.attic r).halfShort 1) = false := hgood
      rw [AtticB.halfShort_of_lanes hlanes, AtticB.halfShort_of_lanes hlanes, hbad] at hsame
      cases hsame
    · rw [State.room_modRoom]

/-- R21: what training finds depends on the lanes and the banks alone. -/
theorem State.trainedState_trainRoom {s t : State} {r : Nat} {banks : List Nat} (hbanks : t.banksFound r banks = s.banksFound r banks)
    (failed : List Nat) : (t.trainRoom r failed banks).trainedState r = (s.trainRoom r failed banks).trainedState r := by
  obtain ⟨⟨hlanes, -, hhalf⟩, -, hmap⟩ := s.trainRoom_spec r failed banks
  obtain ⟨⟨hlanes', -, hhalf'⟩, -, hmap'⟩ := t.trainRoom_spec r failed banks
  have hsame := AtticB.halfShort_of_lanes (hlanes'.trans hlanes.symm)
  unfold State.trainedState
  dsimp only
  rw [hmap, hmap', hbanks, hhalf, hhalf', hsame, hsame]

/-- R454: a room whose training after a reset finds a usable attic runs its boot code. -/
theorem State.trainReset_boots {s : State} {r : Nat} {failed banks : List Nat} (hphase : (s.room r).phase = .resetTrain)
    (hgood : (s.trainRoom r failed banks).trainedState r ≤ 1) :
    ((s.trainReset r failed banks).room r).phase = .resetBoot ∧
      ((s.trainReset r failed banks).hartAt (r * 32)).pc = BitVec.ofNat 64 (localPa 2 r 0) ∧
      ((s.trainReset r failed banks).hartAt (r * 32)).idle = false ∧ ((s.trainReset r failed banks).attic r).failedLanes = failed := by
  set t := (s.useGrant .roomStart r).trainRoom r failed banks with ht
  have hbanks : (s.useGrant .roomStart r).banksFound r banks = s.banksFound r banks := by
    rw [State.banksFound, State.banksFound, State.goodBanks, State.goodBanks, (State.useGrant_effect ..).1 .flashLogs rfl]
  have hstate : t.trainedState r ≤ 1 := by rw [ht, State.trainedState_trainRoom hbanks]; exact hgood
  have htrain : s.trainReset r failed banks = t.releaseRoom r .resetBoot := by
    unfold State.trainReset
    dsimp only
    rw [← ht, if_neg (by omega), if_pos hphase]
  obtain ⟨⟨hlanes, -⟩, -⟩ := (s.useGrant .roomStart r).trainRoom_spec r failed banks
  have hhart : (t.releaseRoom r .resetBoot).hartAt (r * 32) =
      { idle := false, pc := BitVec.ofNat 64 (localPa 2 r 0), x := [(10, BitVec.ofNat 64 (localPa 2 r 0x40000))] } := by
    unfold State.releaseRoom
    dsimp only
    rw [(State.modRpow_effect ..).hartAt_eq rfl, (State.setRegN_effect ..).hartAt_eq rfl, (State.modRoom_effect ..).hartAt_eq rfl]
    exact tgetD_tset_same ..
  rw [htrain, hhart, (State.releaseRoom_effect ..).attic_eq rfl]
  exact ⟨(t.room_releaseRoom r .resetBoot).1, rfl, rfl, hlanes⟩

/-! ## The resets of blocks -/

/-- Settles O24: each phase of a block's reset leads to the next, and what a room's reset and training leave is what its rules say. -/
theorem blockResetsComplete : Obligations.BlockResetsComplete := by
  unfold Obligations.BlockResetsComplete
  refine ⟨fun x s hpower hnone => ?wing, fun p s hpower hnone => ?porch, fun b s x hx hphase hrestart => ?request,
    fun b s x hx hphase hsettled => ?settleEnd, fun r s x hx hphase hsettled => ?room, fun b s x hx hphase => ?timeout,
    fun b s x hx hphase => ?release, fun r s x hx hphase hgoal => ?plain, fun r failed banks s hphase hgrant hlanes hgood => ?train⟩
  case wing =>
    exact ⟨_, rfl, s.startReset_wing .wing hpower hnone (by omega), fun r hr => s.phase_startReset_wing .wing x.isLt hpower hnone hr⟩
  case porch =>
    refine ⟨_, rfl, s.startReset_wing .porch hpower hnone (by omega), ?_⟩
    unfold State.startReset
    split
    · rfl
    · rw [blockRooms, if_neg (by omega), if_neg (by omega)]
      rfl
  case request =>
    set t := s.setBlock (blockKey b) { x with phase := .settle, since := s.now } with ht
    have hready : (x.phase == .request && !(decide (blockKey b < 768) && s.restarting 3 (blockKey b / 32))) = true := by
      by_cases hk : blockKey b < 768
      · simp [hphase, hrestart hk]
      · simp [hphase, hk]
    refine ⟨(blockRooms (blockKey b)).foldl (fun t r => t.setPhase r .resetSettle) t, ?_, ?_, fun r hr => ?_⟩
    · show execBlockResetRequest b s = _
      rw [execBlockResetRequest, hx]
      exact whenReady_of hready ..
    · have hfold : Effect [.rooms] t ((blockRooms (blockKey b)).foldl (fun t r => t.setPhase r .resetSettle) t) :=
        .foldl (fun t r => State.setPhase_effect ..) (.refl _ t)
      rw [State.blockReset, hfold.boot_eq rfl]
      exact s.blockReset_setBlock ..
    · exact State.phase_foldl (f := fun t r => t.setPhase r .resetSettle) (fun t r k => t.phase_setPhase r _ k) _ t r (Or.inl hr)
  case settleEnd =>
    refine ⟨s.enterReset (blockKey b) x, ?_, s.blockReset_enterReset ..⟩
    show execBlockSettleEnd b s = _
    rw [execBlockSettleEnd, hx]
    exact whenReady_of (by rw [hphase, hsettled]; rfl) ..
  case room =>
    have henter : s.enterReset r.val x = (s.setBlock r.val { x with phase := .inReset, since := s.now }).resetRoom r.val := if_pos r.isLt
    refine ⟨s.enterReset r.val x, ?_, ?_⟩
    · show execBlockSettleEnd (.room r) s = _
      rw [execBlockSettleEnd, show blockKey (.room r) = r.val from rfl, hx]
      exact whenReady_of (by rw [hphase, hsettled]; rfl) ..
    · rw [henter]
      exact State.resetRoom_spec ..
  case timeout =>
    set t := s.reach (x.since + max 1 s.boot.idleTmo * 1000) with ht
    set u := if blockKey b < 768 then t.postRoom 0x50 (blockKey b) (blockKey b) else
      t.postDie 0x50 (if blockKey b < 792 then blockKey b - 768 else 96 + (blockKey b - 792)) (blockKey b) with hu
    have hpost : Effect _ t u := .ite (fun _ => State.postRoom_effect ..) (fun _ => State.postDie_effect ..)
    refine ⟨u.enterReset (blockKey b) x, _, ?_, u.blockReset_enterReset .., rfl, rfl, ?_⟩
    · show execBlockSettleTimeout b s = _
      rw [execBlockSettleTimeout, hx]
      exact whenReady_of (by rw [hphase]; rfl) ..
    · rw [(State.enterReset_effect ..).now_eq rfl, hpost.now_eq rfl]
      exact le_max_right ..
  case release =>
    refine ⟨s.releaseBlock (blockKey b) x.goal, ?_, ?_⟩
    · show execBlockRelease b s = _
      rw [execBlockRelease, hx]
      exact whenReady_of (by rw [hphase]; rfl) ..
    · rw [State.blockReset, State.boot_releaseBlock]
      exact tget_tdel_same ..
  case plain =>
    have hrelease : s.releaseBlock r.val .plain = ((s.endBlock r.val).ask .roomStart r.val).setPhase r.val .resetTrain := if_pos r.isLt
    refine ⟨s.releaseBlock r.val .plain, ?_, ?_, ?_⟩
    · show execBlockRelease (.room r) s = _
      rw [execBlockRelease, show blockKey (.room r) = r.val from rfl, hx, ← hgoal]
      exact whenReady_of (by rw [hphase]; rfl) ..
    · rw [hrelease, State.setPhase, State.room_modRoom]
    · rw [hrelease]
      exact (s.endBlock r.val).asked_ask .roomStart r.val
  case train =>
    refine ⟨s.trainReset r.val failed banks, ?_, State.trainReset_boots hphase hgood⟩
    show execStairTraining r ⟨failed, banks⟩ s = _
    unfold execStairTraining
    dsimp only
    rw [if_pos ⟨Or.inl hphase, hgrant⟩]
    exact whenReady_of hlanes ..

end Sys2Proof.Machine


/-! The first phases of a start (O25). -/
namespace Sys2Proof.Machine

/-! ## Vestibule mode (R460) -/

/-- R460: a part that leaves its start shows its state and the reason. -/
theorem State.boot_leaveStart (s : State) (state reason : Nat) :
    (s.leaveStart state reason).boot = { s.boot with state := state, reason := reason, reasonPhase := s.boot.phase } := by
  rw [State.leaveStart, (State.publish_effect _).boot_eq rfl, (State.allOut_effect _).boot_eq rfl]
  rfl

/-- R452: the study that runs is measured. -/
theorem State.studyRuns_boot (s : State) (e : DirEntry) : ∃ m, (s.studyRuns e).boot = { s.boot with measures := m } := by
  unfold State.studyRuns
  dsimp only
  split
  · rw [(State.postDie_effect ..).boot_eq rfl]
    exact ⟨_, rfl⟩
  · exact ⟨_, rfl⟩

/-- R460: vestibule mode keeps its reason. -/
theorem State.vestibule_boot (s : State) (reason : Nat) : (s.vestibule reason).boot.state = 2 ∧ (s.vestibule reason).boot.reason = reason := by
  obtain ⟨t, ht, hboot⟩ : ∃ t, t = s.leaveStart 2 reason ∧
      t.boot = { s.boot with state := 2, reason := reason, reasonPhase := s.boot.phase } := ⟨_, rfl, s.boot_leaveStart 2 reason⟩
  unfold State.vestibule
  dsimp only
  rw [← ht]
  split
  · next e _ =>
    obtain ⟨m, hm⟩ := t.studyRuns_boot e
    rw [hm, hboot]
    exact ⟨rfl, rfl⟩
  · show t.boot.state = 2 ∧ t.boot.reason = reason
    rw [hboot]
    exact ⟨rfl, rfl⟩

/-! ## The strongroom and the images (R449, R459) -/

/-- R459: the last record of the start log is the one appended. -/
theorem State.appendStart_last (s : State) (state : Nat) : (s.appendStart state).flashLogs.start.getLast?.map (·.state) = some state := by
  unfold State.appendStart
  dsimp only
  split <;> simp [State.setStart]

/-- R459: a start that neither the flash log nor the island counts as failed too often opens an attempt. -/
theorem State.strongroom_opens {s : State} (hreason : s.aon.failReason = 0) (hisland : s.aon.failCount < 3)
    (hlog : (s.closeAttempt 0x1F 0 0).countedStarts.length < 3) :
    s.strongroom.boot.phase = 4 ∧ s.strongroom.boot.attempt = true ∧ s.strongroom.flashLogs.start.getLast?.map (·.state) = some 0x7F := by
  have haon : (s.closeAttempt 0x1F 0 0).aon = s.aon := (State.closeAttempt_effect ..).1 .aon rfl
  have hopen : ∃ t, s.strongroom = ((State.appendStart t 0x7F).modBoot fun b => { b with attempt := true }).toPhase 4 := by
    have hclose : (if s.aon.failReason ≠ 0 then s.closeAttempt 0x1F s.aon.failReason s.aon.failPhase else s.closeAttempt 0x1F 0 0) =
        s.closeAttempt 0x1F 0 0 := if_neg fun h => h hreason
    unfold State.strongroom
    dsimp only
    rw [hclose, haon, if_neg (by omega)]
    exact ⟨_, rfl⟩
  obtain ⟨t, ht⟩ := hopen
  rw [ht]
  exact ⟨rfl, rfl, t.appendStart_last 0x7F⟩

theorem State.studyRuns_live (s : State) (e : DirEntry) : (s.studyRuns e).live =
    { s.live with running := tset 1 e.slot s.live.running, hearthDoor := s.boot.activeDoor, strongDoor := s.boot.activeDoor } := by
  unfold State.studyRuns
  dsimp only
  split
  · rw [(State.postDie_effect ..).live_eq rfl]
    rfl
  · rfl

/-- R449: the study and the hearth run at the active door, the study from its slot. -/
theorem State.startFirmware_live (s : State) (a b : DirEntry) :
    (s.startFirmware a b).live.hearthDoor = s.boot.activeDoor ∧ tget 1 (s.startFirmware a b).live.running = some a.slot := by
  set l := (s.studyRuns a).live with hl
  have hlive : ∃ x y, (s.startFirmware a b).live = { l with running := tset 2 b.slot l.running, standby := x, hearthStandby := y } := by
    unfold State.startFirmware
    dsimp only
    split
    · rw [(State.thermal_effect ..).live_eq rfl, (State.postDie_effect ..).live_eq rfl]
      exact ⟨_, _, rfl⟩
    · exact ⟨_, _, rfl⟩
  obtain ⟨x, y, hlive⟩ := hlive
  rw [hlive, hl, s.studyRuns_live a]
  refine ⟨rfl, ?_⟩
  show tget 1 (tset 2 b.slot (tset 1 a.slot s.live.running)) = _
  rw [tget_tset_ne _ _ _ _ (by decide), tget_tset_same]

/-- R449: what phase 4 finds. -/
theorem State.studyFirmware_spec (s : State) (neighbour : Bool) :
    (s.bootSrc = 0 → neighbour = false → (s.studyFirmware neighbour).boot.failing = some 7) ∧
      (s.bootSrc ≠ 0 → s.bootEntry 1 = none → (s.studyFirmware neighbour).boot.failing = some 4) ∧
      (s.bootSrc ≠ 0 → (s.bootEntry 1).isSome = true → s.bootEntry 2 = none → (s.studyFirmware neighbour).boot.failing = some 5) ∧
      ∀ a b, s.bootSrc ≠ 0 → s.bootEntry 1 = some a → s.bootEntry 2 = some b → (s.startFirmware a b).coolingOk = true →
        (s.studyFirmware neighbour).boot.phase = 5 ∧ (s.studyFirmware neighbour).live.hearthDoor = s.boot.activeDoor ∧
          tget 1 (s.studyFirmware neighbour).live.running = some a.slot := by
  have hsource (h : s.bootSrc ≠ 0) : ¬(s.bootSrc = 0 ∧ (!neighbour) = true) := fun hc => h hc.1
  refine ⟨fun hsrc hnone => ?_, fun hsrc hstudy => ?_, fun hsrc hstudy hhearth => ?_, fun a b hsrc hstudy hhearth hcool => ?_⟩
  · rw [State.studyFirmware, if_pos ⟨hsrc, by rw [hnone]; rfl⟩]
    rfl
  · rw [State.studyFirmware, if_neg (hsource hsrc), hstudy]
    rfl
  · obtain ⟨a, ha⟩ := Option.isSome_iff_exists.mp hstudy
    rw [State.studyFirmware, if_neg (hsource hsrc), ha, hhearth]
    rfl
  · have hrun : s.studyFirmware neighbour = (s.startFirmware a b).toPhase 5 := by
      rw [State.studyFirmware, if_neg (hsource hsrc), hstudy, hhearth]
      exact if_pos hcool
    rw [hrun]
    exact ⟨rfl, s.startFirmware_live a b⟩

/-! ## The phases -/

theorem State.attic_showTrained (s : State) (r k : Nat) : (s.showTrained r).attic k = s.attic k := rfl

theorem State.trainRoom_shown (s : State) (r : Nat) (failed banks : List Nat) :
    (((s.trainRoom r failed banks).showTrained r).room r).cond = { ((s.trainRoom r failed banks).room r).cond with
      state := (s.trainRoom r failed banks).trainedState r, reason := trainedReason ((s.trainRoom r failed banks).trainedState r) } := by
  rw [State.showTrained, State.room_modRoom]

/-- Settles O25: each phase goes on or fails by its rule, and training leaves the lanes, the banks and the state that it finds. -/
theorem startPhasesOneToFive : Obligations.StartPhasesOneToFive := by
  unfold Obligations.StartPhasesOneToFive
  refine ⟨fun s hphase hfuses => ?fuses, fun s a m src hphase hempty ⟨ha, hm⟩ hsrc => ?load, fun s hphase hfull => ?option,
    fun s hphase => ⟨_, whenReady_of hphase .., rfl, rfl⟩, fun s hphase hreason hisland hlog => ?strongroom,
    fun n s hphase hhost => ?study, fun s hphase hsrc hgo => ?host, fun r failed banks s hphase hroom hstate hlanes => ?train,
    fun r s hphase => ?resume⟩
  case fuses =>
    refine ⟨s.endFuses, whenReady_of (by rw [hphase, hfuses]; rfl) .., fun hgood => ?_, fun hbad hcount => ?_⟩
    · rw [State.endFuses, if_pos hgood]
      exact ⟨rfl, rfl⟩
    · rw [State.endFuses, if_neg hbad, if_pos hcount]
      rfl
  case load =>
    subst ha hm hsrc
    exact ⟨s.loadOption, whenReady_of (by rw [hphase, hempty]; rfl) .., rfl, rfl, rfl, rfl⟩
  case option =>
    have hready : (s.inPhase 2 && !s.boot.option.isEmpty) = true := by
      rw [hphase, List.isEmpty_eq_false_iff.mpr hfull]
      rfl
    refine ⟨_, whenReady_of hready .., fun hcopy => ?_, fun hdefault => ?_⟩
    · rw [if_neg (by rw [hcopy]; decide)]
      rfl
    · rw [if_pos hdefault]
      exact s.vestibule_boot 1
  case strongroom => exact ⟨s.strongroom, whenReady_of hphase .., State.strongroom_opens hreason hisland hlog⟩
  case study =>
    have hready : (s.inPhase 4 && (s.bootSrc != 1 || s.boot.hostGo)) = true := by
      rw [hphase, Bool.true_and, Bool.or_eq_true, bne_iff_ne]
      exact hhost
    exact ⟨_, whenReady_of hready .., s.studyFirmware_spec n⟩
  case host => exact ⟨_, whenReady_of (by rw [hphase, hsrc, hgo]; rfl) .., rfl, le_max_right ..⟩
  case train =>
    obtain ⟨⟨hfailed, hspares, -⟩, hrun, hmap⟩ := s.trainRoom_spec r.val failed banks
    have hcond := s.trainRoom_shown r.val failed banks
    refine ⟨(s.trainRoom r.val failed banks).showTrained r.val, ?_, ?_⟩
    · show execStairTraining r ⟨failed, banks⟩ s = _
      unfold execStairTraining
      dsimp only
      rw [if_neg (by rw [hroom]; simp)]
      exact whenReady_of (by simp [hphase, hroom, hstate, hlanes]) ..
    · rw [State.attic_showTrained, hcond]
      refine ⟨hfailed, rfl, hspares, fun b hb => ?_, hrun⟩
      dsimp only
      rw [hmap]
      exact s.bitOf_banksFound r.val banks hb
  case resume =>
    refine ⟨_, whenReady_of (by rw [hphase]; rfl) .., ?_, ?_⟩
    · rw [State.attic_modAttic]
      exact AtticB.phase_resumeStair _
    · rw [(State.modAttic_effect ..).mem_eq rfl, (State.updatePlan_effect _).mem_eq rfl]

end Sys2Proof.Machine


/-! Descriptors: fetch, start and completion by opcode (O38). -/
namespace Sys2Proof.Machine

/-! ## A command that completes (R375, R381) -/

theorem State.settleSq_keeps (s : State) (q : Nat) : (s.settleSq q).descs = s.descs ∧ (s.settleSq q).completions = s.completions := by
  unfold State.settleSq
  split <;> exact ⟨rfl, rfl⟩

/-- R381: the descriptor leaves, and its completion waits to be written. -/
theorem State.complete_spec {s : State} {id : Nat} {e : Desc} (he : s.descs.find? (fun x => x.id == id) = some e) (st d0 d1 : Nat) :
    (s.complete id st d0 d1).descs = s.descs.filter (fun x => x.id != id) ∧
      (s.complete id st d0 d1).completions = s.completions ++ [⟨e.sq, e.opcode, e.words.getD 1 0, st, d0, d1, false, none⟩] := by
  unfold State.complete
  rw [he]
  exact State.settleSq_keeps _ _

theorem State.find_of_startable {s : State} {id : Nat} {e : Desc} (h : s.startable id = some e) :
    s.descs.find? (fun x => x.id == id) = some e := by
  unfold State.startable at h
  cases hfind : s.descs.find? (fun x => x.id == id) with
  | none => rw [hfind] at h; cases h
  | some x =>
    rw [hfind] at h
    dsimp only at h
    split at h
    · cases h
    · exact h

/-! ## Fetching (R380) -/

theorem State.sq_fetch (s : State) (d q : Nat) : (s.fetch d q).sq q = { s.sq q with head := ((s.sq q).head + 1) % 2 ^ 32 } :=
  tgetD_tset_same ..

/-! ## Starting (R383, R385, R386) -/

/-- R383: a job that starts waits for its threads. -/
theorem State.startJob_spec (s : State) (e : Desc) (rooms : List Nat) :
    (s.startJob e rooms).completions = s.completions ∧
      (s.startJob e rooms).jobs = s.jobs ++ [⟨e.id, ((s.startDesc e.id).startThreads e rooms).2⟩] ∧
      (s.startJob e rooms).harts = ((s.startDesc e.id).startThreads e rooms).1.harts := by
  have hthreads : ((s.startDesc e.id).startThreads e rooms).1.jobs = s.jobs := (State.startThreads_effect ..).1 .jobs rfl
  refine ⟨(State.startJob_effect ..).1 .completions rfl, ?_, rfl⟩
  rw [← hthreads]
  rfl

/-- R380: what holds a door back from fetching. -/
theorem exec_descriptorFetch {d : DoorIx} {s : State} {q : Nat} (hq : s.nextRing d.val = some q)
    (hready : (s.door d.val).hostUp = true ∧ (s.door d.val).down = false ∧ s.therm.stop = 0 ∧ s.doorOutstanding d.val < 4096) :
    exec (.descriptorFetch d .ok) s = .next (s.fetch d.val q) ∧ exec (.descriptorFetch d .error) s = .next (s.stopRing q 2) := by
  obtain ⟨hup, hdown, hstop, hroom⟩ := hready
  have hall : ((s.door d.val).hostUp && !(s.door d.val).down && s.therm.stop == 0 && decide (s.doorOutstanding d.val < 4096)) = true := by
    simp [hup, hdown, hstop, hroom]
  constructor
  · show execDescriptorFetch d .ok s = _
    rw [execDescriptorFetch, hq]
    exact whenReady_of hall ..
  · show execDescriptorFetch d .error s = _
    rw [execDescriptorFetch, hq]
    exact whenReady_of hall ..

section
variable {id : Nat} {s : State} {e : Desc} (he : s.startable id = some e)
include he

/-- R381: NOP and the reserved opcodes. -/
theorem exec_descNop (hother : e.opcode ≠ 1 ∧ e.opcode ≠ 2 ∧ e.opcode ≠ 0x10) : exec (.descNop id) s = .next (s.complete id
    (if e.opcode ≠ 0 then 0x10 else
      if e.reserved = 0 ∧ fld (wordN e.words 0) 63 16 = 0 ∧ e.zero [2, 3, 4, 5, 6, 7] = true then 0 else 0x11) 0 0) := by
  obtain ⟨hjob, hdma, hmgmt⟩ := hother
  have hready : (!([1, 2, 0x10].contains e.opcode)) = true := by simp [hjob, hdma, hmgmt]
  show execDescNop id s = _
  rw [execDescNop, he]
  dsimp only
  rw [whenReady_of hready]
  congr 3
  simp [and_assoc]

/-- R383: a job whose fields, or whose list, fail, and one that starts. -/
theorem exec_descJob (hop : e.opcode = 1) (f : FetchResult)
    (hlist : s.jobCheck e ≠ 0 ∨ s.homeRuns 6 (s.jobListPlace e) (2 * jobRooms e) = true) :
    exec (.descJob id f) s = .next
      (if s.jobCheck e ≠ 0 then s.complete id (s.jobCheck e) 0 0
       else match f, s.jobList e with
        | .ok, some l => s.startJob e l
        | _, _ => s.complete id 0x13 0 0) := by
  have hready : (e.opcode == 1 && (s.jobCheck e != 0 || s.homeRuns 6 (s.jobListPlace e) (2 * jobRooms e))) = true := by
    simpa [hop] using hlist
  show execDescJob id f s = _
  rw [execDescJob, he]
  exact whenReady_of hready ..

theorem exec_descMgmt (hop : e.opcode = 0x10) : exec (.descMgmt id) s = .next
    (if (s.sq e.sq).priv = false then s.complete id 0x12 0 0
     else if mgmtFields e.words = false then s.complete id 0x11 0 0
     else (s.startDesc id).addCmd (mgmtCmd id true (s.sq e.sq).owner e.words s.now)) := by
  show execDescMgmt id s = _
  rw [execDescMgmt, he]
  exact whenReady_of (by rw [hop]; rfl) ..

end

/-- Settles O38: each command starts or completes by its opcode and its checks. -/
theorem descriptorsComplete : Obligations.DescriptorsComplete := by
  unfold Obligations.DescriptorsComplete
  refine ⟨fun d s q hq hready => ?fetch, fun id s e he hother => ?nop, fun id s e he hop => ⟨fun hcheck f => ?badJob,
    fun hcheck hruns => ?badList, fun l hcheck hruns hlist => ?job⟩, fun id s j e hj hdone he => ?jobDone,
    fun id s e c he hop hcheck hfree => ?dma, fun id s e he hop hcheck => ?badDma,
    fun id s e he hop => ⟨fun hbad => ?badMgmt, fun hpriv hfields => ?mgmt⟩⟩
  case fetch =>
    obtain ⟨hok, herror⟩ := exec_descriptorFetch hq hready
    exact ⟨⟨_, hok, rfl, s.sq_fetch .., (State.fetch_effect ..).mem_eq rfl⟩,
      ⟨_, herror, (State.stopRing_effect ..).1 .descs rfl, s.sq_stopRing ..⟩⟩
  case nop =>
    obtain ⟨hdescs, hcompletions⟩ := State.complete_spec (State.find_of_startable he) (if e.opcode ≠ 0 then 0x10 else
      if e.reserved = 0 ∧ fld (wordN e.words 0) 63 16 = 0 ∧ e.zero [2, 3, 4, 5, 6, 7] = true then 0 else 0x11) 0 0
    exact ⟨_, exec_descNop he hother, hdescs, hcompletions⟩
  case badJob =>
    have hrun := exec_descJob he hop f (Or.inl hcheck)
    rw [if_pos hcheck] at hrun
    refine ⟨_, hrun, ?_, (State.complete_effect ..).1 .harts rfl⟩
    rw [(State.complete_spec (State.find_of_startable he) _ 0 0).2, hop]
  case badList =>
    have hrun := exec_descJob he hop .error (Or.inr hruns)
    rw [if_neg (fun h => h hcheck)] at hrun
    refine ⟨_, hrun, ?_, (State.complete_effect ..).1 .harts rfl⟩
    rw [(State.complete_spec (State.find_of_startable he) _ 0 0).2, hop]
  case job =>
    have hrun := exec_descJob he hop .ok (Or.inr hruns)
    rw [if_neg (fun h => h hcheck), hlist] at hrun
    exact ⟨_, hrun, s.startJob_spec e l⟩
  case jobDone =>
    refine ⟨{ s with jobs := s.jobs.filter fun x => x.id != id }.complete id j.done.1 j.done.2.1 j.done.2.2, ?_, ?_, ?_⟩
    · show execJobComplete id s = _
      rw [execJobComplete, hj]
      exact whenReady_of hdone ..
    · exact (State.complete_spec (s := { s with jobs := s.jobs.filter fun x => x.id != id }) he _ _ _).2
    · exact (State.complete_effect ..).1 .jobs rfl
  case dma =>
    refine ⟨(s.startDesc id).modDw (doorChan (s.sq e.sq).owner c) fun y =>
      { y with queue := [{ addr := wordN e.words 2, job := id, limits := (s.sq e.sq).limits }] }, ?_, ?_, rfl⟩
    · show execDescDma id s = _
      rw [execDescDma, he]
      dsimp only
      rw [if_neg (fun h => h hop), if_neg (fun h => h hcheck), hfree]
    · rw [State.dw_modDw]
  case badDma =>
    refine ⟨s.complete id (s.dmaCheck e) 0 0, ?_, ?_, (State.complete_effect ..).1 .dws rfl⟩
    · show execDescDma id s = _
      rw [execDescDma, he]
      dsimp only
      rw [if_neg (fun h => h hop), if_pos hcheck]
    · rw [(State.complete_spec (State.find_of_startable he) _ 0 0).2, hop]
  case badMgmt =>
    have hrun := exec_descMgmt he hop
    have hend : (if (s.sq e.sq).priv = false then s.complete id 0x12 0 0
        else if mgmtFields e.words = false then s.complete id 0x11 0 0
        else (s.startDesc id).addCmd (mgmtCmd id true (s.sq e.sq).owner e.words s.now)) =
        s.complete id (if (s.sq e.sq).priv = false then 0x12 else 0x11) 0 0 := by
      split
      · rfl
      · next hpriv => exact if_pos (hbad.resolve_left hpriv)
    refine ⟨_, hrun.trans (congrArg _ hend), ?_, (State.complete_effect ..).live_eq rfl⟩
    rw [(State.complete_spec (State.find_of_startable he) _ 0 0).2, hop]
  case mgmt =>
    have hrun := exec_descMgmt he hop
    rw [if_neg (by rw [hpriv]; decide), if_neg (by rw [hfields]; decide)] at hrun
    exact ⟨_, hrun, rfl, rfl⟩

end Sys2Proof.Machine
